-- ==== Sys2Proof/Word.lean ====
section
/-!
DEFINITION. Words and bytes (00 R4) and the plain arithmetic the chapters share: saturation and fixed ranges.
-/
namespace Sys2Proof

/-- A 32-bit register word (00 R4). -/
abbrev Word := BitVec 32

/-- One byte. -/
abbrev Byte := BitVec 8

/-- `x` saturated at `m`. -/
def sat (m x : Nat) : Nat := if m < x then m else x

/-- The nearer limit of the range from `lo` to `hi` for a value outside it. -/
def clampTo (lo hi x : Nat) : Nat := if x < lo then lo else if hi < x then hi else x

/-- `x / d` rounded up. -/
def ceilDiv (x d : Nat) : Nat := (x + d - 1) / d

end Sys2Proof
end

