-- ==== Sys2Proof/Syntax.lean ====
section
/-!
DEFINITION. The commands of the block: one constructor per row of spec/opcode_table.json, with the operands the spec gives
the command, and the operand types. Measured values, received frames and answers of other parts are operands.
-/
namespace Sys2Proof

/-- A requester of the control space: PF1 or a control processor (01 R50, Control space). -/
inductive Requester where
  | pf1
  | cp (n : Fin 40)
  deriving DecidableEq, Repr

/-- How a command that a register or an object both take arrives: a register access, or a dictionary write in the
numbered session (14, 17 R644). -/
inductive Via where
  | reg (r : Requester)
  | dict (session : Nat)
  deriving DecidableEq, Repr

/-- What the regulator of a rail answered (01 R35; 18 PWR_RAIL and PWR_IOUT readings). -/
inductive PmbusEnd where
  | ack
  | fail
  | readVout (mv : Nat)
  | readIout (x10mA : Nat)
  | readPout (x10mW : Nat)
  deriving DecidableEq, Repr

/-- The contents of a firmware image slot that the checks of 17 R658 look at. The signed bytes, the public key and the
signature are named by numbers; the hash and the signature check themselves are Config's. -/
structure Image where
  magicOk : Bool
  live : Bool
  raise : Bool
  minStep : Nat
  version : BitVec 32
  svn : BitVec 32
  liveFrom : BitVec 32
  pubkey : Nat
  signedBytes : Nat
  signature : Nat
  deriving DecidableEq, Repr

/-- What a received frame is, by the rows of 02 table Frame classes and, for RoCEv2, by what it carries, which fixes its
switch output and class (06 R252): a capsule or control packet for the transport, a window packet for a pier's ledger, a
READ Response that fills reserved cells, an ACK or NAK. -/
inductive RxKind where
  | roceCapsule (dst4 : Bool) (dst : BitVec 128)
  | roceWindow (dst4 : Bool) (dst : BitVec 128) (west : Bool)
  | roceReadResponse (dst4 : Bool) (dst : BitVec 128) (qp : Nat)
  | roceAck (dst4 : Bool) (dst : BitVec 128)
  | ptpEvent (udp : Bool)
  | ptpGeneral (udp : Bool)
  | ptpPeerDelay
  | lldp
  | arp
  | icmpv6Neighbour (solicited : Bool)
  | echoRequest (dst4 : Bool) (dst : BitVec 128)
  | macControl
  | other
  deriving DecidableEq, Repr

/-- A received frame as the receive checks see it (02 R65): FEC and PCS result, length DA through FCS, FCS result,
destination address, VLAN tag if any, and its class. -/
structure RxFrame where
  pcsOk : Bool
  length : Nat
  fcsOk : Bool
  da : BitVec 48
  vid : Option (BitVec 12)
  kind : RxKind
  fecCorrected : Nat
  fecUncorrectable : Nat
  deriving DecidableEq, Repr

/-- A frame to be answered by the LN control processors (02 R63). -/
inductive ResolutionAsk where
  | arp (target : BitVec 32)
  | neighbour (target : BitVec 128)
  | echo4 (dst : BitVec 32)
  | echo6 (dst : BitVec 128)
  deriving DecidableEq, Repr

/-- An Announce message (02 R82): domain, the sending clock, and its rank under the data-set comparison of IEEE 1588-2019
(a lower rank is better; the comparison itself is the standard's). -/
structure PtpAnnounce where
  domain : Nat
  source : Nat
  rank : Nat
  intervalNs : Nat
  deriving DecidableEq, Repr

/-- A PTP message taken by the servo (02 R81, R83). Times are in ns of the time transmitter. -/
inductive PtpMessage where
  | sync (source : Nat) (twoStep : Bool) (t1 : Nat)
  | followUp (source : Nat) (t1 : Nat)
  | delayResp (source : Nat) (t4 : Nat)
  deriving DecidableEq, Repr

/-- What reading a frame's cells from the pool found (06 R263). -/
inductive PoolRead where
  | clean
  | corrected (words : Nat)
  | uncorrectable (cell : Nat)
  deriving DecidableEq, Repr

/-- A received RoCEv2 packet (03): BTH opcode, QPN, PSN, ICRC result, frame bytes DA through FCS; the RETH, FETH or AETH
fields it carries (address, R_Key, length, placement type, selectivity, syndrome, MSN); its payload; the data length of the
Write or Compare whose capsule a SEND carries (05 R203); and whether the ledger takes its window data (R132). -/
structure RocePacket where
  opcode : Nat
  qpn : Nat
  psn : Nat
  icrcOk : Bool
  bytes : Nat
  va : Nat
  rkey : BitVec 32
  len : Nat
  plt : Nat
  sel : Nat
  syndrome : BitVec 8
  msn : Nat
  data : List Byte
  dataLen : Nat
  ledgerOk : Bool
  deriving DecidableEq, Repr

/-- A CM REQ (03 R94, R100; 04 R149): the MAC and the address it came to, path MTU, QID, queue size, the requester's
starting PSN, its initiator depth and its CM response timeout. -/
structure CmReq where
  mac : Nat
  v4 : Bool
  dst : BitVec 128
  mtu : Nat
  qid : Nat
  size : Nat
  psn : BitVec 24
  depth : Nat
  timeoutNs : Nat
  deriving DecidableEq, Repr

/-- The queue a command comes on: a fabric queue by the index of its queue pair, or a queue of the PCIe endpoint by NVMe
function (0 PF0, n VF n) and QID (04, 13); or a bond link, by the entry package's tag of the command (16 R638). -/
inductive CmdSource where
  | fabric (qp : Nat)
  | pcie (fn : Fin 65) (qid : Nat)
  | bond (link : Fin 2) (tag : Nat)
  deriving DecidableEq, Repr

/-- A command's data pointer (04 R151-R153; 13 R522): a keyed SGL with its length, key, and whether the key is to be
invalidated; another SGL descriptor by type and subtype; or PRP entries. -/
inductive DataPtr where
  | keyed (addr : BitVec 64) (len : Nat) (key : BitVec 32) (invalidate : Bool)
  | sgl (type subtype : Nat)
  | prp (addr : BitVec 64)
  | none
  deriving DecidableEq, Repr

/-- A Connect capsule (04 R144-R146). `subnqn` is what SUBNQN names: 0 no well-formed NQN, 1 the discovery subsystem,
2 + t the subsystem of tenant t, another value no subsystem. -/
structure ConnectArgs where
  recfmt : Nat
  dataBytes : Nat
  qid : Nat
  sqsize : Nat
  kato : Nat
  cntlid : Nat
  hostNqn : List Byte
  hostId : BitVec 128
  subnqn : Nat
  deriving DecidableEq, Repr

/-- The fields of an I/O command the device acts on (04 table I/O commands). `nlb` is 0's based. -/
structure IoArgs where
  nsid : Nat
  slba : Nat
  nlb : Nat
  fua : Bool
  pract : Bool
  prchk : BitVec 3
  ilbrt : Nat
  lbat : BitVec 16
  lbatm : BitVec 16
  fuse : Nat
  dtype : Nat
  psdt : Nat
  buf : DataPtr
  deriving DecidableEq, Repr

/-- The fields of a reservation command and its data (04 R192-R195). -/
structure ResvArgs where
  action : Nat
  rtype : Nat
  iekey : Bool
  cptpl : Nat
  crkey : BitVec 64
  nrkey : BitVec 64
  deriving DecidableEq, Repr

/-- Where a key command comes from (07 R309): KEY_CMD on the slot that KEY_SEL selects, or object 4000h + n - 1.0Ah, which
stands for the media slot of namespace n (`slot` is n - 1). -/
inductive KeyVia where
  | reg (r : Requester)
  | media (session : Nat) (slot : Fin 4096)
  deriving DecidableEq, Repr

/-- An offload descriptor (07 Offload descriptor), as the device fetched it. -/
structure OffloadDesc where
  op : Nat
  key : Nat
  len : Nat
  aadLen : Nat
  src : BitVec 64
  dst : BitVec 64
  aad : BitVec 64
  iv : BitVec 128
  tag : BitVec 64
  deriving DecidableEq, Repr

/-- A supply whose glitches are alarms (07 Voltage glitches). -/
inductive GlitchSupply where
  | standby
  | core (rail : Fin 3)
  deriving DecidableEq, Repr

/-- An alarm source as detected (07 Alarm sources), with the reading where one applies: mV, or units of 0.125 °C. Pace is
PACE_WINDOW_END's. -/
inductive AlarmSource where
  | mesh
  | lid
  | overVoltage (supply : GlitchSupply) (mv : Nat)
  | temperature (reading : Int)
  | external
  deriving DecidableEq, Repr

/-- How a member command ended (11 R455-R458): success, an error status, or 83h Reservation Conflict (16 R624). -/
inductive MemberEnd where
  | ok
  | error
  | conflict
  deriving DecidableEq, Repr

/-- A block a member gives while records are applied (09 R382): slot, member unit, stored bytes. -/
structure Fetched where
  slot : Nat
  unit : Nat
  stored : List Byte
  deriving DecidableEq, Repr

/-- What a start finds beside what the ledger holds. The repointing pass (09 R394, R395): lines corrected, lines repaired from the
other copy, and ledger addresses of lines lost; the scan (R379, R380): records valid in one copy only, records taken from a
secondary host and records lost in every copy (pier and SEQ); volumes whose checkpoint slot is invalid in both copies
(10 R424); and the blocks the members give. -/
structure Recovery where
  corrected : Nat
  repaired : Nat
  lostLines : List (BitVec 30)
  oneCopy : Nat
  fromSecondary : List (Nat × Nat)
  lost : List (Nat × Nat)
  checkpoints : List (Fin 64)
  blocks : List Fetched
  deriving DecidableEq, Repr

/-- A valid copy of the stamp a drive gives (10 Member stamp, R401): UUID, volume, index, TARGET, GEN and RS_SEQ. -/
structure StampCopy where
  uuid : Nat
  volume : Nat
  index : Nat
  target : Bool
  gen : Nat
  rsSeq : Nat
  deriving DecidableEq, Repr

/-- What a drive reports when its controller is brought up (11 R450-R452, R459): the member block NSID 1 uses, as MBS codes it, if
it is one of 08 R312; its capacity in 4 KiB units; that protection is off and both metadata settings are accepted; I/O
queue pairs granted; that it has a volatile write cache, and that it can be turned off. -/
structure DriveReport where
  mbs : Option (Fin 2)
  units : Nat
  protectionOff : Bool
  metadataAny : Bool
  queues : Nat
  cache : Bool
  cacheOff : Bool
  deriving DecidableEq, Repr

/-- How a bring-up ends (11 R450): ready, or failed by a command timer, CSTS.CFS or CSTS.RDY. -/
inductive BringUp where
  | ready (report : DriveReport)
  | timer
  | cfs
  | notReady
  deriving DecidableEq, Repr

/-- How the endpoint link is lost or reset (13 R513): EP_PERST_n, hot reset, link down. -/
inductive LinkEnd where
  | perst
  | hotReset
  | linkDown
  deriving DecidableEq, Repr

/-- What issued a request whose completion timer expired (13 R512): a DMA channel with the host address, an NVMe command's data read, or the fetch of a queue entry by an NVMe function. -/
inductive EpIssuer where
  | channel (ch : Fin 128) (addr : BitVec 64)
  | data (cmd : Nat)
  | fetch (fn : Fin 65)
  deriving DecidableEq, Repr

/-- QID, size in entries less one, and PC of a Create I/O SQ or CQ command (13 R523). -/
structure QueueArgs where
  qid : Nat
  qsize : BitVec 16
  pc : Bool
  deriving DecidableEq, Repr

/-- A request TLP to the peer aperture (13 R526). -/
inductive ApRequest where
  | read (len : Nat)
  | write (data : List Byte)
  | atomic
  deriving DecidableEq, Repr

/-- An error of a received TLP (13 R542) with the AER status bits it sets: a correctable one, an uncorrectable one, a poisoned write to the
aperture, poisoned write data of an NVMe command. -/
inductive TlpError where
  | correctable
  | uncorrectable (aer : Word)
  | poisonedWrite (aer : Word)
  | poisonedData (aer : Word) (cmd : Nat)
  deriving DecidableEq, Repr


/-- The client's initiate of an SDO transfer (14 R566): an upload of an object, or a download with its value, or with what it brings of one that
goes on. -/
inductive SdoInit where
  | upload (index : BitVec 16) (sub : Byte)
  | download (index : BitVec 16) (sub : Byte) (data : List Byte) (last : Bool)
  deriving DecidableEq, Repr

/-- A client's frame of a running SDO transfer (14 R566): the number of segments of 7 bytes it asks for (1, or the size of a block), or the segments it
brings. `ok` false: its command specifier, toggle, sequence or CRC is wrong. -/
inductive SdoFrame where
  | upload (count : Nat) (ok : Bool)
  | download (data : List Byte) (last ok : Bool)
  deriving DecidableEq, Repr

/-- An object access request as received (14 Object access message). -/
structure OapMsg where
  session : Word
  seq : Word
  index : BitVec 16
  sub : Byte
  enc : Bool
  tagged : Bool
  offset : Word
  data : List Byte
  tag : List Byte
  deriving DecidableEq, Repr

/-- Who sends a heartbeat: a pier (16 R617), or the package on its bond links (R635). -/
inductive HbSender where
  | pier (p : Fin 2)
  | package
  deriving DecidableEq, Repr

/-- What a received Salben frame carries (16 Salben frame): a heartbeat; a record to mirror, as the member blocks it gives (assumption 21);
the acknowledgement of a mirrored record; the completion of a forwarded command, with a read's data; anything else, which its own
command or the switch takes. -/
inductive SalbenBody where
  | heartbeat
  | mirror (pier : Fin 2) (seq volume : Nat) (blocks : List Fetched)
  | mirrorAck (pier : Fin 2) (seq : Nat)
  | completion (cmd status dw0 : Nat) (dnr : Bool) (data : List Byte)
  | other
  deriving DecidableEq, Repr

/-- A received Salben frame (16 Salben frame): whether its tag verifies, LSEQ, FRAME_CTR and what it carries. -/
structure SalbenFrame where
  tagOk : Bool
  lseq : Word
  ctr : BitVec 64
  body : SalbenBody
  deriving DecidableEq, Repr

/-- What a forwarded command does at its owner (16 R638): an I/O command with its opcode, data and ranges, or a reservation command. -/
inductive ForwardedOp where
  | read
  | write (data : List Byte)
  | compare (data : List Byte)
  | zeroes
  | deallocate (ranges : List (Nat × Nat))
  | flush
  | register (r : ResvArgs)
  | report (eds : Bool)
  | acquire (r : ResvArgs)
  | release (r : ResvArgs)
  deriving DecidableEq, Repr

/-- A forwarded command (16 R638): the entry package's tag, the hops it has made, its host identifier, CID, fields and operation. -/
structure Forwarded where
  tag : Nat
  hops : Nat
  hostId : Nat
  cid : BitVec 16
  args : IoArgs
  op : ForwardedOp
  deriving DecidableEq, Repr


/-- The commands (spec/opcode_table.json), in the table's order. -/
inductive Instr where
  /-- REGISTER_WRITE (R5): A write to a control-space register that has no row of its own sets or clears fields per its access code. -/
  | registerWrite (req : Requester) (addr : BitVec 32) (value : Word)
  /-- LOW_WORD_READ (R50): A requester reads the low register of a latched pair, latching the high register for that requester. -/
  | lowWordRead (req : Requester) (addr : BitVec 32)
  /-- CS_UNMAPPED_ACCESS (R47): An access to a reserved or unmapped address reads 0 or is discarded, sets CS_UNMAPPED and records 0FCh. -/
  | csUnmappedAccess (req : Requester) (addr : BitVec 32) (write : Bool)
  /-- CS_ISOLATED_ACCESS (R48): An access to a block in an isolated region reads FFFF_FFFFh or is discarded, sets CS_ISOLATED and records 0FCh. -/
  | csIsolatedAccess (req : Requester) (addr : BitVec 32) (write : Bool)
  /-- CS_MISALIGNED_ACCESS (R49): A misaligned access reads 0 or is discarded, sets CS_MISALIGNED and records 0FCh. -/
  | csMisalignedAccess (req : Requester) (addr : BitVec 32) (write : Bool)
  /-- CLUSTER_COMPLETION_TIMEOUT (R17): A cluster that signals no completion within 10 us is reset alone and its work reported aborted. -/
  | clusterCompletionTimeout (region : Fin 23) (cluster : Nat) (channels : List (Fin 128))
  /-- CLUSTER_RESET_COMPLETE (R18): A cluster reset completes and the cluster accepts tokens again. -/
  | clusterResetComplete (region : Fin 23) (cluster : Nat)
  /-- CLUSTER_RESET_GO (R52): Software writes CLUSTER_RESET.GO to reset a named cluster, or the write is ignored for a bad index or isolated region. -/
  | clusterResetGo (req : Requester) (region : Fin 32) (cluster : Fin 256) (channels : List (Fin 128))
  /-- CODE_VIOLATION_REPORT (R19): A checker reports a dual-rail code violation and the region isolates. -/
  | codeViolationReport (region : Fin 23)
  /-- ISOLATE (R19): Software writes REGION_CTL.ISOLATE to isolate a region. -/
  | isolate (req : Requester) (region : Fin 23)
  /-- RELEASE (R23): Software writes REGION_CTL.RELEASE on an isolated region, which is reset and starts its self-test. -/
  | release (req : Requester) (region : Fin 23)
  /-- RELEASE_SELF_TEST_END (R23): A release self-test ends; the region resumes, or stays isolated with ISO_CAUSE 5h; pier staging and journal are reconciled. -/
  | releaseSelfTestEnd (region : Fin 19) (tokensOk : Bool) (paceCount : Nat) (trained : BitVec 6) (blocks : List Fetched)
  /-- SEAM_FLIT_RECEIVE (R26): A seam receiver takes a flit; a CRC error discards it and requests a replay from the retry buffer. -/
  | seamFlitReceive (seam : Fin 6) (crcOk : Bool)
  /-- SEAM5_RETRAIN (R701): Seam 5 retrains by itself 10 ms after it goes down and every 1 s after. -/
  | seam5Retrain
  /-- SEAM_UP (R701): A seam that was down trains and carries flits again, recording 0FDh. -/
  | seamUp (seam : Fin 6)
  /-- PACE_WINDOW_END (R29): A 1,000 ns pace gauge window ends and PACE_PS is updated. -/
  | paceWindowEnd (region : Fin 19) (count : Nat)
  /-- PACE_READ (R29): A read of PACE returns PACE_MAX and clears it. -/
  | paceRead (req : Requester) (region : Fin 19)
  /-- SEAM_STAT_READ (R701): A read of SEAM_STAT returns REPLAYS and clears it. -/
  | seamStatRead (req : Requester) (seam : Fin 6)
  /-- GOVERNOR_PASS (R32): Every 100 us the governor trims each enabled rail by 5 mV toward its target. -/
  | governorPass
  /-- PMBUS_TRANSACTION_END (R35): A PMBus transaction is acknowledged or fails or times out after 10 ms, recording 0F2h on failure. -/
  | pmbusTransactionEnd (rail : Fin 10) (answer : PmbusEnd)
  /-- PMBUS_RETRY (R35): Every 100 ms a failed rail's PMBus command is retried. -/
  | pmbusRetry (rail : Fin 10)
  /-- TIMEBASE_ALIGNMENT (R37): Plinth sends the exact time to each die every 1,048,576 ns. -/
  | timebaseAlignment (driftPE driftPW driftLN : Int)
  /-- PORT_CFG_WRITE (R57): A write of PORT_CFG applies SPLIT, PHY and ENABLE or is refused with 104h. -/
  | portCfgWrite (req : Requester) (port : Fin 8) (value : Word)
  /-- MAC_ENABLE (R61): Setting MAC_CFG.ENABLE enables the MAC, or leaves it disabled for a bad address. -/
  | macEnable (req : Requester) (mac : Fin 64) (value : Word)
  /-- MAC_IP_WRITE (R62): A write of MAC_IP4 or MAC_IP6 is applied only while the MAC is disabled. -/
  | macIpWrite (req : Requester) (mac : Fin 64) (which : Fin 5) (value : Word)
  /-- LINK_UP (R58): A MAC's PCS holds alignment and FEC lock for 10 ms and the link comes up. -/
  | linkUp (mac : Fin 64) (lockedNs : Nat) (eeeAble partnerEee : Bool) (twMinUs : Nat)
  /-- LINK_DOWN (R59): A MAC loses alignment or FEC lock, or is disabled, and goes down. -/
  | linkDown (mac : Fin 64)
  /-- DUPLICATE_ADDRESS_DETECTION_END (R63): Duplicate address detection for a MAC's IPv6 address ends, marking a duplicate unused with 107h. -/
  | duplicateAddressDetectionEnd (mac : Fin 64) (globalDup linkLocalDup : Bool)
  /-- FRAME_RECEIVE (R65): A MAC stores a received frame whole, applies the receive checks and passes it to its consumer or drops it. -/
  | frameReceive (mac : Fin 64) (frame : RxFrame)
  /-- ADDRESS_RESOLUTION_FRAME (R63): The LN control processors answer an ARP, neighbour solicitation or echo request for a MAC. -/
  | addressResolutionFrame (mac : Fin 64) (ask : ResolutionAsk)
  /-- AGGREGATION_WINDOW_END (R138): At the end of each 1 s window a block records its aggregated event for every counter that advanced. -/
  | aggregationWindowEnd
  /-- TRANSMISSION_SELECTION (R69): On an idle link the MAC picks the highest eligible egress queue and starts its frame. -/
  | transmissionSelection (mac : Fin 64)
  /-- FRAME_TRANSMIT_END (R70): A frame finishes on the wire and is counted in TX_FRAMES. -/
  | frameTransmitEnd (mac : Fin 64)
  /-- CBS_CREDIT_ZERO (R72): A shaped queue's credit reaches 0 and its waiting frame becomes eligible. -/
  | cbsCreditZero (mac : Fin 64) (queue : Fin 3)
  /-- CBS_SLOPE_WRITE (R74): A write of CBS_SLOPE sets the idle slope or is refused with 104h. -/
  | cbsSlopeWrite (req : Requester) (mac : Fin 64) (queue : Fin 3) (value : Word)
  /-- LPI_ENTER (R77): All egress queues stay empty for EEE_CFG.IDLE and the MAC enters transmit LPI. -/
  | lpiEnter (mac : Fin 64)
  /-- LPI_WAKE (R78): A frame arrives in LPI and the MAC leaves LPI, holding transmission for TW_TX. -/
  | lpiWake (mac : Fin 64) (queue : Fin 4) (bytes : Nat)
  /-- LPI_WAKE_END (R78): The transmit wake time ends and transmission resumes. -/
  | lpiWakeEnd (mac : Fin 64)
  /-- LLDP_EEE_TLV_RECEIVE (R80): An LLDP EEE TLV from the partner updates TW_TX or stops LPI. -/
  | lldpEeeTlvReceive (mac : Fin 64) (receiveTw transmitTw : Nat)
  /-- LLDP_TRANSMIT (R79): The device sends its LLDP EEE TLV on a MAC with EEE active. -/
  | lldpTransmit (mac : Fin 64)
  /-- PTP_ANNOUNCE_RECEIVE (R82): An Announce on the selected MAC enters the best time transmitter choice. -/
  | ptpAnnounceReceive (mac : Fin 64) (message : PtpAnnounce)
  /-- PTP_EVENT_RECEIVE (R83): A PTP event or general message is timestamped and taken by the servo. -/
  | ptpEventReceive (mac : Fin 64) (message : PtpMessage) (sixteenth : Fin 16)
  /-- PTP_DELAY_REQ_SEND (R81): The device sends a Delay_Req and timestamps it. -/
  | ptpDelayReqSend (sixteenth : Fin 16)
  /-- PTP_ANNOUNCE_TIMEOUT (R84): Three announce intervals pass without an Announce and the device switches to ALT_MAC or holdover. -/
  | ptpAnnounceTimeout (intervalNs : Nat)
  /-- PTP_SERVO_UPDATE (R85): The servo trims frequency and slews phase, and reports lock. -/
  | ptpServoUpdate (trimPpb : Int) (locked : Bool)
  /-- ROCE_PACKET_RECEIVE (R96): The transport checks ICRC, QP and PSN of a received RoCEv2 packet. -/
  | rocePacketReceive (p : RocePacket)
  /-- SEND_RECEIVE (R112): A SEND packet delivers a capsule into a receive slot or draws an RNR NAK. -/
  | sendReceive (p : RocePacket)
  /-- RDMA_WRITE_RECEIVE (R127): An RDMA WRITE packet to a window is key-checked on its first packet and placed in PSN order. -/
  | rdmaWriteReceive (p : RocePacket)
  /-- RDMA_READ_REQUEST_RECEIVE (R123): An RDMA READ Request to a window is checked and answered with READ Responses. -/
  | rdmaReadRequestReceive (p : RocePacket)
  /-- FLUSH_RECEIVE (R128): A FLUSH to a window is checked and waits for visibility or persistence of preceding writes. -/
  | flushReceive (p : RocePacket)
  /-- FLUSH_DURABLE (R128): The writes a FLUSH covers become durable or visible and the FLUSH is acknowledged. -/
  | flushDurable (qp : Nat) (ledgerOk : Bool)
  /-- ATOMIC_WRITE_RECEIVE (R126): An ATOMIC WRITE is placed 8 bytes whole after preceding writes on its QP. -/
  | atomicWriteReceive (p : RocePacket)
  /-- ACK_RECEIVE (R106): An ACK acknowledges device requests, updates credits and may drain the QP. -/
  | ackReceive (p : RocePacket)
  /-- NAK_RECEIVE (R117): A host NAK of a device request moves the QP to ERROR and fails the owning command. -/
  | nakReceive (p : RocePacket)
  /-- RNR_NAK_RECEIVE (R108): An RNR NAK makes the device wait and resend, or enter ERROR after RNR_RETRY. -/
  | rnrNakReceive (p : RocePacket)
  /-- READ_RESPONSE_RECEIVE (R256): A READ Response from a host fills reserved cells with write data. -/
  | readResponseReceive (p : RocePacket)
  /-- CM_REQ_RECEIVE (R100): A CM REQ is accepted with REP and a random PSN, or refused with REJ. -/
  | cmReqReceive (req : CmReq)
  /-- CM_RTU_RECEIVE (R100): An RTU moves the QP from RTR to RTS. -/
  | cmRtuReceive (qp : Nat)
  /-- CM_DREQ_RECEIVE (R100): A DREQ moves an RTS QP to DRAINING. -/
  | cmDreqReceive (qp : Nat)
  /-- CM_RESPONSE_TIMEOUT (R100): An RTR QP gets neither RTU nor request in time, sends REJ and goes QUIET. -/
  | cmResponseTimeout (qp : Nat)
  /-- DRAIN_TIMEOUT (R100): QUIET_TO elapses in DRAINING and the QP goes QUIET. -/
  | drainTimeout (qp : Nat)
  /-- ERROR_FLUSH_DONE (R101): An ERROR QP's work requests are flushed as failed, DREQ is sent and it goes QUIET. -/
  | errorFlushDone (qp : Nat)
  /-- QUIET_TIMEOUT (R100): QUIET_TO elapses in QUIET and the QP becomes FREE. -/
  | quietTimeout (qp : Nat)
  /-- LOCAL_ACK_TIMEOUT (R106): The local ACK timer expires and requests are retransmitted go-back-N, or the QP enters ERROR. -/
  | localAckTimeout (qp : Nat)
  /-- RNR_WAIT_END (R108): The RNR wait ends and the device resends from the NAK's PSN. -/
  | rnrWaitEnd (qp : Nat)
  /-- ACK_COALESCE_TIMEOUT (R105): The responder sends an ACK no later than 2 us after the packet it acknowledges. -/
  | ackCoalesceTimeout (qp : Nat)
  /-- RDMA_READ_ISSUE (R116): The front end issues an RDMA READ for write data once its cell reservation passes. -/
  | rdmaReadIssue (cmd : Nat)
  /-- RDMA_WRITE_ISSUE (R109): The front end sends read data to the host by RDMA WRITE. -/
  | rdmaWriteIssue (cmd : Nat)
  /-- SEND_ISSUE (R113): The device sends a completion capsule SEND within host credits. -/
  | sendIssue (qp : Nat)
  /-- CREDIT_PROBE_SEND (R113): Holding no credit, the device sends one SEND per ACK timeout period to draw an ACK. -/
  | creditProbeSend (qp : Nat)
  /-- WIN_CFG_WRITE (R140): A write of WIN_CFG is applied while the slot is FREE or refused with 187h. -/
  | winCfgWrite (via : Via) (slot : Fin 4096) (value : Word)
  /-- WIN_REGISTER (R133): REGISTER on a FREE slot zeroes it, draws a new TAG and makes it VALID. -/
  | winRegister (via : Via) (slot : Fin 4096)
  /-- WIN_REGISTER_COMPLETE (R133): The slot's zeroing completes and the window becomes VALID with 188h. -/
  | winRegisterComplete (slot : Fin 4096)
  /-- WIN_REVOKE (R134): REVOKE puts a VALID slot in REVOKING. -/
  | winRevoke (via : Via) (slot : Fin 4096)
  /-- REVOCATION_COMPLETE (R136): Every admitted access has ended and the slot becomes FREE with 189h. -/
  | revocationComplete (slot : Fin 4096)
  /-- REVOKE_TIMEOUT (R136): REVOKE_TO expires; remaining QPs go to ERROR and the revocation completes. -/
  | revokeTimeout (slot : Fin 4096)
  /-- CONNECT (R146): A Fabrics Connect is checked in order and creates a controller or I/O queue, or is refused. -/
  | connect (qp : Nat) (cid : BitVec 16) (c : ConnectArgs)
  /-- PROPERTY_SET (R157): A Property Set writes CC, enabling, disabling or shutting down the controller. -/
  | propertySet (src : CmdSource) (cid : BitVec 16) (offset : Nat) (value : BitVec 64)
  /-- PROPERTY_GET (R157): A Property Get returns a listed property. -/
  | propertyGet (src : CmdSource) (cid : BitVec 16) (offset : Nat)
  /-- CONTROLLER_READY (R157): CSTS.RDY is set within 100 ms of CC.EN going to 1. -/
  | controllerReady (ctrl : Nat)
  /-- CONTROLLER_SHUTDOWN_DONE (R157): Shutdown completes with SHST 10b within 1 s of SHN. -/
  | controllerShutdownDone (ctrl : Nat)
  /-- DISCONNECT (R183): A Disconnect cancels outstanding commands and then completes. -/
  | disconnect (qp : Nat) (cid : BitVec 16)
  /-- GET_LOG_PAGE (R155): Get Log Page returns a listed page. -/
  | getLogPage (src : CmdSource) (cid : BitVec 16) (buf : DataPtr) (lid : Nat) (rae : Bool)
  /-- IDENTIFY (R158): Identify returns controller, namespace or namespace list data. -/
  | identify (src : CmdSource) (cid : BitVec 16) (buf : DataPtr) (cns : Nat) (nsid : Nat)
  /-- ABORT (R179): Abort completes with command-not-aborted and affects nothing. -/
  | abort (src : CmdSource) (cid : BitVec 16) (sqid acid : BitVec 16)
  /-- SET_FEATURES (R160): Set Features sets a listed feature or is refused. -/
  | setFeatures (src : CmdSource) (cid : BitVec 16) (fid : Nat) (save : Bool) (nsid : Nat) (dw11 : BitVec 32) (data : BitVec 128)
  /-- SET_POWER_STATE (R163): Set Features FID 02h begins entry to a power state. -/
  | setPowerState (src : CmdSource) (cid : BitVec 16) (save : Bool) (ps : Nat)
  /-- POWER_STATE_ENTRY_END (R164): Entry ends when the cap is in force and the governor settled, or at ENLAT, and the command completes. -/
  | powerStateEntryEnd
  /-- GET_FEATURES (R154): Get Features returns current, default, saved or capability values. -/
  | getFeatures (src : CmdSource) (cid : BitVec 16) (fid sel nsid : Nat)
  /-- ASYNC_EVENT_REQUEST (R156): An AER is held outstanding and completed by a pending or later event. -/
  | asyncEventRequest (src : CmdSource) (cid : BitVec 16)
  /-- KEEP_ALIVE (R161): Keep Alive restarts the keep-alive timer. -/
  | keepAlive (src : CmdSource) (cid : BitVec 16)
  /-- KEEP_ALIVE_EXPIRY (R161): The keep-alive timer expires and the association ends with 203h. -/
  | keepAliveExpiry (ctrl : Nat)
  /-- ADMIN_INVALID_OPCODE (R154): An unlisted admin opcode completes with Invalid Command Opcode. -/
  | adminInvalidOpcode (src : CmdSource) (cid : BitVec 16) (opcode : Nat)
  /-- IO_READ (R43): A Read is accepted, ordered, read, deciphered, reconstructed if needed and delivered. -/
  | ioRead (src : CmdSource) (cid : BitVec 16) (a : IoArgs)
  /-- IO_WRITE (R40): A Write is accepted, ordered and split into full-stripe and ledgered routes. -/
  | ioWrite (src : CmdSource) (cid : BitVec 16) (a : IoArgs) (data : List Byte)
  /-- IO_COMPARE (R170): Compare reads the blocks and compares them with the host data. -/
  | ioCompare (src : CmdSource) (cid : BitVec 16) (a : IoArgs) (data : List Byte)
  /-- IO_WRITE_ZEROES (R169): Write Zeroes is executed as a write of zero data. -/
  | ioWriteZeroes (src : CmdSource) (cid : BitVec 16) (a : IoArgs)
  /-- IO_DATASET_MANAGEMENT (R169): Dataset Management with AD writes zeros over its ranges. -/
  | ioDatasetManagement (src : CmdSource) (cid : BitVec 16) (a : IoArgs) (ad : Bool) (ranges : List (Nat × Nat))
  /-- IO_FLUSH (R171): Flush completes with Success once accepted. -/
  | ioFlush (src : CmdSource) (cid : BitVec 16) (a : IoArgs)
  /-- RESERVATION_REGISTER (R192): Reservation Register changes a host's registration. -/
  | reservationRegister (src : CmdSource) (cid : BitVec 16) (a : IoArgs) (r : ResvArgs)
  /-- RESERVATION_REPORT (R192): Reservation Report returns the namespace's reservation state. -/
  | reservationReport (src : CmdSource) (cid : BitVec 16) (a : IoArgs) (eds : Bool)
  /-- RESERVATION_ACQUIRE (R194): Reservation Acquire takes or preempts a reservation. -/
  | reservationAcquire (src : CmdSource) (cid : BitVec 16) (a : IoArgs) (r : ResvArgs)
  /-- PREEMPT_WAIT_END (R194): Every command of the preempted hosts has ended and the preempt-and-abort Acquire completes. -/
  | preemptWaitEnd (cmd : Nat)
  /-- RESERVATION_RELEASE (R193): Reservation Release releases or clears a reservation. -/
  | reservationRelease (src : CmdSource) (cid : BitVec 16) (a : IoArgs) (r : ResvArgs)
  /-- IO_INVALID_OPCODE (R167): An unlisted I/O opcode completes with Invalid Command Opcode. -/
  | ioInvalidOpcode (src : CmdSource) (cid : BitVec 16) (opcode : Nat)
  /-- COMMAND_TIMEOUT (R173): A command's CMD_TO timer expires and it completes with Command Interrupted. -/
  | commandTimeout (cmd : Nat)
  /-- COMMAND_FINISH (R177): A tracked command finishes and waiting commands are re-examined for dispatch. -/
  | commandFinish (cmd : Nat)
  /-- COMPLETION_ISSUE (R182): The front end issues a completion, ordered against cancellation at the queue's element. -/
  | completionIssue (cmd : Nat)
  /-- NS_ACTIVATE (R196): Setting NS_CFG.ACTIVE activates a namespace or is refused with 206h. -/
  | nsActivate (via : Via) (ns : Fin 4096) (value : Word)
  /-- NS_DEACTIVATE (R197): Clearing NS_CFG.ACTIVE refuses later commands to the namespace. -/
  | nsDeactivate (via : Via) (ns : Fin 4096)
  /-- NS_INACTIVE (R197): The namespace's accepted commands finish, it becomes inactive, the notice goes out and clearing starts. -/
  | nsInactive (ns : Fin 4096)
  /-- NS_CLEAR_COMPLETE (R325): The clearing of a namespace extent ends and 349h is recorded. -/
  | nsClearComplete (ns : Fin 4096)
  /-- HOST_CFG_WRITE (R198): A write of HOST_CFG is applied or refused for a tenant change with a live controller. -/
  | hostCfgWrite (via : Via) (host : Fin 1024) (value : Word)
  /-- TENANT_ENABLE (R200): Setting TN_CFG.ENABLE fills buckets, clears deficits and opens the meter window. -/
  | tenantEnable (req : Requester) (pol shp : Bool) (weight : Fin 256)
  /-- TENANT_DISABLE (R201): Clearing TN_CFG.ENABLE disables the tenant or is refused with 281h. -/
  | tenantDisable (req : Requester) (pol shp : Bool) (weight : Fin 256)
  /-- POLICER_CONFIG_WRITE (R210): A write of a policer rate or burst is applied at the next packet or refused. -/
  | policerConfigWrite (req : Requester) (which : Fin 4) (value : Word)
  /-- FRAME_RELEASE (R216): The scheduler releases a frame into EQ2 or EQ3 when the queue holds fewer than two. -/
  | frameRelease (mac : Fin 64) (eq3 : Bool)
  /-- TENANT_ELIGIBLE (R212): A tenant's shaper tokens reach 0 and it becomes eligible. -/
  | tenantEligible (tenant : Fin 1024)
  /-- CLASS_PROMOTION (R221): A head frame waits past its class deadline and the class is promoted. -/
  | classPromotion (mac : Fin 64) (tenant : Fin 1024) (cls : Fin 4)
  /-- HISTOGRAM_SAMPLE (R225): Every 1,000 ns each class queue's depth and delay histograms gain a sample. -/
  | histogramSample
  /-- HIST_BIN_READ (R226): A read of HIST_BIN returns a bin and clears it. -/
  | histBinRead (req : Requester) (bin : Fin 32)
  /-- METER_WINDOW_END (R229): A minute window ends and a signed record is written for every enabled tenant. -/
  | meterWindowEnd (failed : List Nat)
  /-- METER_CHECKPOINT (R234): Every 1 s the meter checkpoints open counts, next SEQ and time to the ledger. -/
  | meterCheckpoint
  /-- METER_KEY_SELECT (R237): A write of MTR_KEY.KEY_ID takes effect at the next window boundary. -/
  | meterKeySelect (req : Requester) (keyId : Fin 64)
  /-- METER_EXPORT_RECORD (R242): A meter record is copied to the host ring when it has room and MTR_EXP_WR advances. -/
  | meterExportRecord
  /-- UNIT_ADMIT_RETRY (R255): A refused unit from inputs 8-15 is tried again when F rises. -/
  | unitAdmitRetry (unit : Nat)
  /-- FRAME_CROSS (R249): A whole frame crosses the crossbar to its output and its cells return to the pool. -/
  | frameCross (output : Fin 16) (mac : Fin 64) (read : PoolRead)
  /-- SW_FREE_MIN_READ (R5): A read of SW_FREE_MIN returns the lowest free count and reloads it. -/
  | swFreeMinRead (req : Requester)
  /-- SW_VOQ_STAT_READ (R5): A read of SW_VOQ_PEAK or SW_VOQ_DROP returns the value and clears it. -/
  | swVoqStatRead (req : Requester) (drop : Bool)
  /-- KEY_GENERATE (R279): GENERATE fills an EMPTY key slot from the random source. -/
  | keyGenerate (via : KeyVia)
  /-- KEY_IMPORT (R279): IMPORT unwraps KEY_DATA under IMK into an EMPTY slot. -/
  | keyImport (via : KeyVia)
  /-- KEY_DESTROY (R282): DESTROY puts a slot in DESTROYING or is refused. -/
  | keyDestroy (via : KeyVia)
  /-- KEY_DESTROY_COMPLETE (R282): No job holds the key and it is zeroed everywhere; the slot becomes EMPTY. -/
  | keyDestroyComplete (kind : Fin 4) (slot : Fin 4096)
  /-- KEY_COMMAND_COMPLETE (R284): Both ledger copies of the slot are written and KEY_STAT shows the outcome. -/
  | keyCommandComplete (kind : Fin 4) (slot : Fin 4096)
  /-- SECRET_INJECT (R288): A customer secret written to 2710h.01 is checked, accepted and unwraps the keys, or is refused. -/
  | secretInject (session : Nat) (enc : Bool) (secret : BitVec 256)
  /-- SECRET_CHANGE (R291): An old and new secret written to 2710h.02 rewrap both copies. -/
  | secretChange (session : Nat) (enc : Bool) (old new : BitVec 256)
  /-- ALM_CFG_WRITE (R309): A write of ALM_CFG is applied only in COMMISSION by a privileged requester. -/
  | almCfgWrite (via : Via) (value : Word)
  /-- ALARM (R296): An alarm source is detected and latched; the device enters SAFE and erases keys. -/
  | alarm (sources : List AlarmSource)
  /-- UNDER_VOLTAGE (R294): An under-voltage makes Plinth erase keys and the secret and stop the data path. -/
  | underVoltage (supply : GlitchSupply) (mv : Nat)
  /-- UNDER_VOLTAGE_RECOVER (R294): A supply that recovers within 1 ms without reset turns the under-voltage into an alarm. -/
  | underVoltageRecover
  /-- RNG_TEST_FAIL (R301): A random source health test fails, clearing RNG_OK and recording 305h. -/
  | rngTestFail
  /-- BOND_FRAME_RECEIVE (R304): A Salben frame is authenticated and delivered, or dropped for a failed tag. -/
  | bondFrameReceive (link : Fin 2) (f : SalbenFrame)
  /-- OFFLOAD_DOORBELL (R308): A write of OFL_TAIL posts offload descriptors to the general cores. -/
  | offloadDoorbell (req : Requester) (tail : Word) (descs : List OffloadDesc)
  /-- OFFLOAD_JOB_COMPLETE (R308): An offload job ends, writing STATUS and advancing OFL_HEAD in order. -/
  | offloadJobComplete (index : Word) (transferOk : Bool) (aad data tag : List Byte)
  /-- VOLUME_CREATE (R345): CREATE checks the configuration and starts zeroing the members. -/
  | volumeCreate (via : Via) (volume : Fin 64)
  /-- VOLUME_CREATE_COMPLETE (R323): Every online member has reported zeroing and the volume leaves CREATING. -/
  | volumeCreateComplete (volume : Fin 64)
  /-- VOLUME_DELETE (R346): DELETE starts wiping the stamps of a volume with no active namespace. -/
  | volumeDelete (via : Via) (volume : Fin 64)
  /-- VOLUME_DELETE_COMPLETE (R346): Stamps are wiped, the parity key destroyed and the volume reaches NONE. -/
  | volumeDeleteComplete (volume : Fin 64)
  /-- ACCUMULATOR_CLAIM (R326): A full-stripe write claims a free voussoir accumulator, waiting if all are busy. -/
  | accumulatorClaim (cmd : Nat) (stripe : Nat)
  /-- STAGING_ADMIT (R331): A partial write waiting for staging room is admitted. -/
  | stagingAdmit (cmd : Nat)
  /-- MEMBER_READ_COMPLETE (R456): A member Read completes; an error is reissued once, then treated as a media error. -/
  | memberReadComplete (id : Nat) (result : MemberEnd) (stored : List Byte)
  /-- MEMBER_WRITE_COMPLETE (R457): A member write completes; errors are reissued once, then fail the member; ROWSTATE advances. -/
  | memberWriteComplete (id : Nat) (result : MemberEnd)
  /-- RECORD_OPEN (R359): An intent record is opened when ring and secondary room allow and written OPEN. -/
  | recordOpen (cmd : Nat)
  /-- RECORD_COMMIT (R361): The record is durable in both copies and set COMMITTED, completing a non-FUA write. -/
  | recordCommit (pier : Fin 2) (seq : Nat)
  /-- RECORD_APPLY_START (R363): Earlier records on the stripe are applied and the record's member writes begin. -/
  | recordApplyStart (pier : Fin 2) (seq : Nat)
  /-- RECORD_RETIRE (R365): All rows are APPLIED and flushes done; the record is RETIRED. -/
  | recordRetire (pier : Fin 2) (seq : Nat)
  /-- MEMBER_FLUSH_COMPLETE (R365): A member Flush completes and the next Flush is issued if writes wait. -/
  | memberFlushComplete (id : Nat) (ok : Bool)
  /-- WRITE_HOLE_CLEAR (R371): A region idle for MAP_IDLE has its write-hole bit cleared. -/
  | writeHoleClear (volume : Fin 64) (region : Nat)
  /-- SECONDARY_COPY (R374): A committed record is written to both secondary hosts within SEC_LAG and COPIED set. -/
  | secondaryCopy (pier : Fin 2) (seq : Nat)
  /-- MRAM_DIE_FAIL (R355): A ledger die fails and its pair becomes unavailable. -/
  | mramDieFail (die : Fin 4)
  /-- LEDGER_RECOVERY (R381): At start the rings are scanned and committed records applied and retired. -/
  | ledgerRecovery (found : Recovery)
  /-- WEAR_COUNTER_SAVE (R385): Every 1 s the segment wear counters are written to device state. -/
  | wearCounterSave
  /-- WINDOW_REMAP (R387): After 16,777,216 line writes a window slot moves to a random free segment. -/
  | windowRemap (slot : Fin 4096) (die : Fin 4) (phys : Fin 4096)
  /-- SEGMENT_REMAP (R388): A segment's wear counter reaches 5x10^11 and it is copied to a reserve segment. -/
  | segmentRemap (segment : Fin 16384) (die : Fin 4) (phys : Fin 4096)
  /-- REPOINT_SEGMENT (R391): A ledger segment is read, corrected and rewritten in the repointing pass. -/
  | repointSegment (corrected repaired : Nat) (lost : List (BitVec 30))
  /-- HOT_CLEAR (R392): No ledger die has read above 110 C for a day and HOT clears. -/
  | hotClear
  /-- DRIVE_IDENTIFY (R405): A ready drive's stamps are read and it is identified as spare, foreign or a member. -/
  | driveIdentify (slot : Fin 24) (copy0 copy1 : Option StampCopy)
  /-- MISSING_TIMEOUT (R409): A member stays missing for MISS_TO and a spare is assigned when AUTO is 1. -/
  | missingTimeout (volume : Fin 64) (index : Fin 24)
  /-- SPARE_ASSIGN (R412): A spare is assigned to a member index and becomes a rebuilding target. -/
  | spareAssign (volume : Fin 64) (index : Fin 24)
  /-- MEMBER_FAIL_CMD (R441): MEMBER_CMD.FAIL marks a member failed. -/
  | memberFailCmd (req : Requester) (slot : Fin 24)
  /-- MEMBER_REPLACE (R408): MEMBER_CMD.REPLACE assigns a spare to a missing member now. -/
  | memberReplace (req : Requester) (slot : Fin 24)
  /-- FOREIGN_CLEAR (R407): MEMBER_CMD.FOREIGN_CLEAR wipes a foreign drive's stamps and makes it a spare. -/
  | foreignClear (req : Requester) (slot : Fin 24)
  /-- PASS_PACE_TICK (R421): Every 100 us a pass receives its write budget and visits stripes. -/
  | passPaceTick (volume : Fin 64) (blocks : List Fetched)
  /-- PASS_STRIPE_DONE (R413): Every target acknowledges a stripe's writes and the cursor passes it. -/
  | passStripeDone (volume : Fin 64) (blocks : List Fetched)
  /-- TARGET_COMPLETE (R420): A target's set is visited and flushed; it becomes online and GEN advances. -/
  | targetComplete (volume : Fin 64) (index : Fin 24)
  /-- RESHAPE_START (R425): RS_CMD.START begins a reshape or is refused. -/
  | reshapeStart (req : Requester) (volume : Fin 64)
  /-- RESHAPE_PAUSE (R426): RS_CMD.PAUSE holds the reshape at the end of its step. -/
  | reshapePause (req : Requester) (volume : Fin 64) (on : Bool)
  /-- RESHAPE_STEP_BEGIN (R429): A step begins once no command or record touches its zone. -/
  | reshapeStepBegin (volume : Fin 64) (blocks : List Fetched)
  /-- RESHAPE_STEP_END (R427): A step's writes complete and B advances. -/
  | reshapeStepEnd (volume : Fin 64)
  /-- RESHAPE_COMPLETE (R436): The last stripes are zeroed and the volume takes the new geometry. -/
  | reshapeComplete (volume : Fin 64)
  /-- SCRUB_ROW (R439): A scrub checks a row's syndromes and corrects or reports it. -/
  | scrubRow (volume : Fin 64) (blocks : List Fetched)
  /-- SCRUB_PASS_COMPLETE (R437): A scrub pass ends and 36Ch is recorded. -/
  | scrubPassComplete (volume : Fin 64)
  /-- ROOT_PORT_LINK_UP (R444): A root port trains and the initiator brings up the controller. -/
  | rootPortLinkUp (port : Fin 48) (rate : Fin 8) (width : Fin 5)
  /-- ROOT_PORT_LINK_LOSS (R447): A root port link is lost and its member becomes missing when no port remains. -/
  | rootPortLinkLoss (port : Fin 48)
  /-- DRIVE_READY (R450): A member controller becomes ready and identified, or its link is taken down on failure. -/
  | driveReady (port : Fin 48) (result : BringUp)
  /-- DRIVE_MEMORY_REQUEST (R449): A drive memory request is checked against posted buffers and refused outside them. -/
  | driveMemoryRequest (port : Fin 48) (cmd : Option Nat)
  /-- SMART_POLL (R454): The SMART log is read on an event or every 60 s and critical warnings acted on. -/
  | smartPoll (port : Fin 48) (warning : BitVec 8)
  /-- DRIVE_ASYNC_EVENT (R454): A member's asynchronous event completes and the initiator reads its health. -/
  | driveAsyncEvent (port : Fin 48)
  /-- MEMBER_COMMAND_TIMEOUT (R455): A member command timer expires; Reads are reissued, others take the link down. -/
  | memberCommandTimeout (id : Nat)
  /-- LINK_RETRAIN (R458): 100 ms after the initiator takes a link down it retrains the link. -/
  | linkRetrain (port : Fin 48)
  /-- RETRAIN (R458): RP_CTL.RETRAIN takes a root port link down and retrains it. -/
  | retrain (via : Via) (port : Fin 48)
  /-- PRESENCE_CHANGE (R461): PRSNT_n changes and the insertion or removal debounce starts or restarts. -/
  | presenceChange (slot : Fin 24) (low : Bool)
  /-- INSERTION_DEBOUNCE_END (R461): Presence holds low for 200 ms; insertion is recognised and the auxiliary switch turns on. -/
  | insertionDebounceEnd (slot : Fin 24)
  /-- REMOVAL_RECOGNISED (R462): Presence holds high for 1 ms and the slot is turned off. -/
  | removalRecognised (slot : Fin 24)
  /-- RAMP_START (R468): AUX_DLY after the auxiliary switch the 12 V ramp begins. -/
  | rampStart (slot : Fin 24)
  /-- SLOT_POWERED (R469): The slot reaches 10.8 V with the gate enhanced and goes ON. -/
  | slotPowered (slot : Fin 24) (mv : Nat)
  /-- SLOT_RAMP_TIMEOUT (R469): The ramp does not complete in time and the slot trips with RAMP_TO. -/
  | slotRampTimeout (slot : Fin 24)
  /-- LINK_TIMEOUT (R464): The link is not up within LINK_TO and 388h is recorded. -/
  | linkTimeout (port : Fin 48)
  /-- LINK_TRAIN_RETRY (R464): Every 1 s the port retries training from receiver detection. -/
  | linkTrainRetry (port : Fin 48)
  /-- FEED_LOST (R467): A feed reads below 10.2 V for 100 us, is absent and its diodes are held off. -/
  | feedLost (feed : Fin 2) (mv : Nat)
  /-- FEED_RETURN (R467): A feed reads at least 10.8 V and is present again. -/
  | feedReturn (feed : Fin 2) (mv : Nat)
  /-- IDEAL_DIODE_REVERSE (R466): Reverse voltage above 10 mV turns an ideal diode gate off. -/
  | idealDiodeReverse (slot : Fin 24) (feed : Fin 2)
  /-- SLOT_UNDER_VOLTAGE (R470): A powered slot reads below 10.2 V for 100 us and trips with UV. -/
  | slotUnderVoltage (slot : Fin 24) (mv : Nat)
  /-- BREAKER_SAMPLE (R472): Every 5 us the breaker accumulator is updated and trips the slot at 2^24. -/
  | breakerSample (slot : Fin 24) (mv ma aux : Nat)
  /-- FAST_TRIP (R474): The comparator sees current above FT_A, pulls the gate down and trips the slot. -/
  | fastTrip (slot : Fin 24) (ma : Nat)
  /-- AUX_OVERCURRENT (R475): Auxiliary current above 1 A for 1 ms trips the slot with AUX_OC. -/
  | auxOvercurrent (slot : Fin 24) (ma : Nat)
  /-- RETRY_WAIT_END (R477): The retry wait ends and the slot ramps, waits for debounce, locks or empties. -/
  | retryWaitEnd (slot : Fin 24)
  /-- RETRIES_CLEAR (R478): After 10 s powered without a trip RETRIES clears. -/
  | retriesClear (slot : Fin 24)
  /-- SLOT_ON (R483): SLOT_CMD.ON powers a slot in OFF or LOCKED. -/
  | slotOn (via : Via) (slot : Fin 24) (epoch : Nat)
  /-- SLOT_OFF (R483): SLOT_CMD.OFF powers off a slot in ON or RAMP. -/
  | slotOff (via : Via) (slot : Fin 24) (epoch : Nat)
  /-- SLOT_CYCLE (R483): SLOT_CMD.CYCLE powers a slot off and ramps it after 1 s. -/
  | slotCycle (via : Via) (slot : Fin 24) (epoch : Nat)
  /-- CYCLE_RAMP (R483): 1 s after a CYCLE the slot ramps again. -/
  | cycleRamp (slot : Fin 24)
  /-- FEED_CFG_WRITE (R486): A write of FEED_CFG disables feeds or is refused when it disables both. -/
  | feedCfgWrite (via : Via) (value : Word)
  /-- BREAKER_CURVE_WRITE (R471): A write of SLOT_CURVE is applied or discarded when it leaves the curve invalid. -/
  | breakerCurveWrite (via : Via) (slot : Fin 24) (point : Fin 8) (value : Word)
  /-- SLOT_HOLD_READ (R481): A read of a hold register returns held values and reloads them. -/
  | slotHoldRead (req : Requester) (slot : Fin 24) (current : Bool)
  /-- CHANNEL_ENABLE (R490): Setting CH_CTL.EN enables a channel or is refused for a mismatched trigger. -/
  | channelEnable (req : Requester) (ch : Fin 128) (value : Word)
  /-- CHANNEL_DISABLE (R503): Clearing CH_CTL.EN stops the channel at once and discards its shadow. -/
  | channelDisable (req : Requester) (ch : Fin 128)
  /-- CH_TRIG_WRITE (R491): A write of CH_TRIG sets the trigger or is refused for a self-chain. -/
  | chTrigWrite (req : Requester) (ch : Fin 128) (value : Word)
  /-- SHADOW_WRITE (R494): A write to the shadow set is accepted only while SH_FULL is 0. -/
  | shadowWrite (req : Requester) (ch : Fin 128) (which : Fin 7) (value : Word)
  /-- DOORBELL_GO (R495): CH_DOORBELL.GO arms the shadow, which becomes active when the channel has no transfer. -/
  | doorbellGo (req : Requester) (ch : Fin 128)
  /-- TIMER_TRIGGER (R491): A channel's timer trigger releases a quantum or counts an overrun. -/
  | timerTrigger (ch : Fin 128)
  /-- QUANTUM_END (R492): A quantum finishes moving and the channel returns to WAITING. -/
  | quantumEnd (ch : Fin 128)
  /-- LIST_ENTRY_FETCH (R501): A list entry is fetched and checked before its bytes move. -/
  | listEntryFetch (ch : Fin 128) (dest : Bool) (addr : BitVec 64) (len : Word)
  /-- TRANSFER_COMPLETE (R498): A transfer completes, incrementing CH_DONE, chaining and interrupting, and loading the shadow. -/
  | transferComplete (ch : Fin 128) (ok : Bool) (errAddr : BitVec 64) (data : List Byte)
  /-- ENDPOINT_LINK_UP (R509): The endpoint link trains and records 3E0h or 3E1h. -/
  | endpointLinkUp (rate : Fin 7) (width : Fin 17) (flit : Bool)
  /-- ENDPOINT_RESET (R513): EP_PERST_n, hot reset or link down resets every function and clears PRIV. -/
  | endpointReset (why : LinkEnd)
  /-- COMPLETION_TIMEOUT (R512): A non-posted request's completion timer expires and its issuer fails it. -/
  | completionTimeout (who : EpIssuer)
  /-- VF_ENABLE (R516): A write of VF Enable enables the VFs or is ignored without ARI. -/
  | vfEnable (on : Bool) (ari : Bool) (numVfs : Word)
  /-- VF_READY (R517): A VF becomes ready within 100 ms of VF Enable. -/
  | vfReady (vf : Fin 65)
  /-- PCIE_CC_ENABLE (R521): CC.EN set on a function without EP_FN_CFG.EN sets CFS instead of RDY. -/
  | pcieCcEnable (fn : Fin 65) (value : Word) (aqa : Word)
  /-- CREATE_IO_SQ (R523): Create I/O Submission Queue creates a queue or fails with Invalid Field. -/
  | createIoSq (fn : Fin 65) (cid : BitVec 16) (a : QueueArgs) (cqid : Nat)
  /-- CREATE_IO_CQ (R523): Create I/O Completion Queue creates a queue or fails with Invalid Field. -/
  | createIoCq (fn : Fin 65) (cid : BitVec 16) (a : QueueArgs) (irq : Bool) (vec : Nat)
  /-- DELETE_IO_SQ (R184): Delete I/O Submission Queue aborts its commands with 08h and deletes it. -/
  | deleteIoSq (fn : Fin 65) (cid : BitVec 16) (qid : Nat)
  /-- DELETE_IO_CQ (R523): Delete I/O Completion Queue deletes a CQ with no SQ attached. -/
  | deleteIoCq (fn : Fin 65) (cid : BitVec 16) (qid : Nat)
  /-- SQ_TAIL_DOORBELL (R522): A submission queue tail doorbell makes the controller fetch new commands. -/
  | sqTailDoorbell (fn : Fin 65) (qid : Nat) (value : BitVec 16)
  /-- CQ_HEAD_DOORBELL (R522): A completion queue head doorbell frees completion entries. -/
  | cqHeadDoorbell (fn : Fin 65) (qid : Nat) (value : BitVec 16)
  /-- APERTURE_REQUEST (R526): A TLP to the peer aperture is translated by its window or refused. -/
  | apertureRequest (offset : BitVec 34) (req : ApRequest) (hbmOk : Bool)
  /-- APERTURE_WINDOW_WRITE (R529): A write of EP_WIN changes a window's translation, ordered against TLPs. -/
  | apertureWindowWrite (via : Via) (w : Fin 16) (value : Word)
  /-- BUS_MASTER_DISABLE (R534): Clearing Bus Master Enable stops a function's requests and cancels or aborts its work. -/
  | busMasterDisable (fn : Fin 66) (outstanding : Nat) (discarded : Nat)
  /-- BUS_MASTER_ENABLE (R535): Setting Bus Master Enable resumes requests and sends pending MSI-X messages. -/
  | busMasterEnable (fn : Fin 66) (unmasked : List Nat)
  /-- FLR_PF0 (R536): An FLR of PF0 deletes its queues, cancels commands and resets every VF. -/
  | flrPf0 (discarded : Nat)
  /-- FLR_VF (R537): An FLR of a VF resets that VF alone. -/
  | flrVf (vf : Fin 65) (discarded : Nat)
  /-- FLR_PF1 (R538): An FLR of PF1 resets its config and MSI-X, aborts its channels and clears its enables and PRIV. -/
  | flrPf1 (discarded : Nat)
  /-- FLR_COMPLETE (R539): An FLR completes and 3E2h is recorded. -/
  | flrComplete (fn : Fin 66)
  /-- EP_VEC_WRITE (R540): A write of EP_VEC is latched for the next link training or refused. -/
  | epVecWrite (via : Via) (value : Word)
  /-- RECEIVED_TLP_ERROR (R542): A poisoned, malformed or unexpected TLP is handled and reported through AER. -/
  | receivedTlpError (fn : Fin 66) (err : TlpError)
  /-- OBJECT_READ (R547): A dictionary read returns an object value if the session's level allows. -/
  | objectRead (session : Nat) (index : BitVec 16) (sub : Byte)
  /-- OBJECT_WRITE (R555): A dictionary write is applied to its register field and stored if a parameter. -/
  | objectWrite (session : Nat) (index : BitVec 16) (sub : Byte) (data : List Byte)
  /-- PARAMETER_STORE_DONE (R557): A parameter is durable in both store copies and the write is acknowledged, or a failure aborts it. -/
  | parameterStoreDone (ok : Bool)
  /-- NONCE_READ (R550): A read of 2004h.01 draws a fresh nonce for the session. -/
  | nonceRead (session : Nat)
  /-- PROOF (R551): A write of 2004h.02 proves a level key and raises the session, or is refused. -/
  | proof (session : Nat) (level : Byte) (tag : List Byte)
  /-- SESSION_DROP (R552): A write to 2004h.04 drops the session to Observer. -/
  | sessionDrop (session : Nat)
  /-- SESSION_IDLE_TIMEOUT (R552): A session with no access for MG_IDLE falls to Observer. -/
  | sessionIdleTimeout (session : Nat)
  /-- SDO_INITIATE (R567): An SDO initiate starts a transfer, aborting any running one. -/
  | sdoInitiate (server : Fin 4) (request : SdoInit)
  /-- SDO_SEGMENT (R566): An SDO segment or block frame continues a transfer. -/
  | sdoSegment (server : Fin 4) (frame : SdoFrame)
  /-- SDO_TIMEOUT (R567): A transfer with no client frame for 1 s is aborted. -/
  | sdoTimeout (server : Fin 4)
  /-- NMT_START_REMOTE_NODE (R564): NMT Start moves the node to Operational. -/
  | nmtStartRemoteNode (node : Fin 128)
  /-- NMT_STOP_REMOTE_NODE (R564): NMT Stop moves the node to Stopped. -/
  | nmtStopRemoteNode (node : Fin 128)
  /-- NMT_ENTER_PRE_OPERATIONAL (R564): NMT Enter Pre-operational moves the node to Pre-operational. -/
  | nmtEnterPreOperational (node : Fin 128)
  /-- NMT_RESET_NODE (R565): NMT Reset Node is executed as Reset Communication. -/
  | nmtResetNode (node : Fin 128)
  /-- NMT_RESET_COMMUNICATION (R565): Communication objects reload and CAN sessions fall to Observer. -/
  | nmtResetCommunication (node : Fin 128)
  /-- SYNC_RECEIVE (R568): A SYNC makes synchronous TPDOs send on their count. -/
  | syncReceive
  /-- TPDO_EVENT_TIMER (R568): A TPDO's event timer expires and the TPDO is sent. -/
  | tpdoEventTimer (pdo : Fin 8)
  /-- EMCY_INHIBIT_END (R572): The EMCY inhibit time ends and the next waiting EMCY is sent. -/
  | emcyInhibitEnd
  /-- PRODUCER_HEARTBEAT (R573): Every 1017h ms the CAN heartbeat with the NMT state is sent. -/
  | producerHeartbeat
  /-- CAN_BUS_OFF (R563): The CAN port enters bus-off or error passive and records 3F6h. -/
  | canBusOff (off : Bool)
  /-- CAN_BUS_OFF_RECOVERY (R563): After 128 occurrences of 11 recessive bits the port leaves bus-off. -/
  | canBusOffRecovery
  /-- OAP_OPEN (R576): An OPEN message creates an Observer session and returns a nonce. -/
  | oapOpen (seq : Word)
  /-- OAP_READ (R578): A READ message reads an object in sequence. -/
  | oapRead (m : OapMsg)
  /-- OAP_WRITE (R578): A WRITE message writes an object in sequence. -/
  | oapWrite (m : OapMsg)
  /-- OAP_PROVE (R577): A PROVE message proves a level and makes the session tagged. -/
  | oapProve (m : OapMsg)
  /-- OAP_CLOSE (R552): A CLOSE message ends the session. -/
  | oapClose (m : OapMsg)
  /-- MGMT_ADDRESS_FRAME (R575): The management port answers ARP and ICMP echo. -/
  | mgmtAddressFrame (echo : Bool)
  /-- DICTIONARY_WINDOW_GO (R580): MG_CTL.GO starts a dictionary access from the PF1 window. -/
  | dictionaryWindowGo (value : Word)
  /-- ERROR_FIELD_CLEAR (R586): Writing 0 to 1003h.00 empties the pre-defined error field. -/
  | errorFieldClear (session : Nat) (value : Byte)
  /-- RESTORE_DEFAULTS (R645): Writing load to 1011h.01 in COMMISSION restores defaults at the next start. -/
  | restoreDefaults (session : Nat) (value : Word)
  /-- EVENT_TAKE (R600): The recorder controller takes one occurrence and places, folds or drops it. -/
  | eventTake
  /-- BUFFER_MOVE (R601): Once the ledger is reachable and scanned, buffered records move to the ledger. -/
  | bufferMove
  /-- EVENT_IRQ_HOLDOFF_END (R602): The hold-off ends and one MSI-X message signals records placed during it. -/
  | eventIrqHoldoffEnd
  /-- EV_REC_READ (R50): A read of EV_REC word 0 takes the requester's version of the record. -/
  | evRecRead (req : Requester) (word : Fin 16)
  /-- CNT_WIN_READ (R50): A read of CNT_WIN_DATA word 0 takes the requester's 64-byte read. -/
  | cntWinRead (req : Requester) (word : Fin 16)
  /-- COUNTER_SNAPSHOT (R607): Every 10,000 ns every counter is latched and the snapshot written to HBM. -/
  | counterSnapshot (advance : List (Nat × Nat)) (finished : BitVec 4)
  /-- SAMPLE_RECORD (R609): A sampled command ends and its record is written to the sampling buffer. -/
  | sampleRecord
  /-- HEARTBEAT_SEND (R617): Every 100 us a pier sends a heartbeat to its partner and the quoin. -/
  | heartbeatSend (from' : HbSender)
  /-- HEARTBEAT_RECEIVE (R617): A heartbeat re-arms its receiver's 300 us timer. -/
  | heartbeatReceive (pier : Fin 2) (quoin : Bool)
  /-- HEARTBEAT_TIMEOUT (R617): The 300 us timer expires, the sender is silent and a claim is sent. -/
  | heartbeatTimeout (pier : Fin 2) (quoin : Bool)
  /-- QUOIN_CLAIM (R618): The quoin decides a claim, granting it with new epochs or refusing it. -/
  | quoinClaim (pier : Fin 2) (majority : Bool)
  /-- CLAIM_GRANT (R619): A granted pier takes reservations, applies the lost pier's records and accepts I/O. -/
  | claimGrant (pier : Fin 2) (blocks : List Fetched)
  /-- CLAIM_REFUSED (R620): A claim refused as stale or alive leaves ownership unchanged. -/
  | claimRefused (pier : Fin 2)
  /-- QUOIN_TIMEOUT (R626): A claim unanswered within QUOIN_TO makes the pier resolve a dispute by majority. -/
  | quoinTimeout (pier : Fin 2) (held : BitVec 24) (blocks : List Fetched)
  /-- PREEMPT_RETRY (R628): Every 100 ms a granted pier without majority repeats its preemptions. -/
  | preemptRetry (pier : Fin 2) (blocks : List Fetched)
  /-- GIVEBACK (R621): OWN_CMD.GIVEBACK returns ownership to the home pier. -/
  | giveback (via : Via)
  /-- AUTO_GIVEBACK (R621): With AUTO_BACK 10 s after the home pier's regions run, ownership is given back. -/
  | autoGiveback
  /-- UNFENCE (R627): OWN_CMD.UNFENCE releases a fenced pier's drive region. -/
  | unfence (via : Via)
  /-- BOND_LINK_UP (R630): A bond link trains with a BOND key and distinct PKG_IDX, or stays down. -/
  | bondLinkUp (link : Fin 2) (peer : Fin 4)
  /-- BOND_ACK_RECEIVE (R632): A link acknowledgement frees replay buffer frames. -/
  | bondAckReceive (link : Fin 2) (lseq : Word)
  /-- BOND_REPLAY_TIMEOUT (R632): 10 us after the last acknowledgement frames are resent, or the link goes down after eight replays. -/
  | bondReplayTimeout (link : Fin 2)
  /-- BOND_RETRAIN (R632): 1 ms after a bond link goes down it retrains. -/
  | bondRetrain (link : Fin 2) (peer : Fin 4)
  /-- SHED_WINDOW_END (R633): A 1 ms use window ends and the end may ask to halve or double the width. -/
  | shedWindowEnd (link : Fin 2) (tx : Nat) (rx : Nat) (burst : Nat)
  /-- WIDTH_REQUEST_RECEIVE (R634): A width request is arbitrated and acknowledged with the LSEQ of the change. -/
  | widthRequestReceive (link : Fin 2) (width : Nat)
  /-- WIDTH_ACK_RECEIVE (R634): A width acknowledgement sets the LSEQ from which the new width applies. -/
  | widthAckReceive (link : Fin 2) (lseq : Word)
  /-- PACKAGE_HEARTBEAT_TIMEOUT (R636): A partner package is silent for 300 us and its volumes are disputed. -/
  | packageHeartbeatTimeout (pkg : Fin 4) (held : BitVec 24)
  /-- MIRROR_SUSPEND (R637): No bond link to the partner for 1 ms and records commit without the mirror. -/
  | mirrorSuspend
  /-- FORWARDED_COMMAND (R638): A command forwarded over a bond link is accepted at its owning package. -/
  | forwardedCommand (link : Fin 2) (f : Forwarded)
  /-- SERVE (R645): SERVE sets COMMISSIONED and moves COMMISSION to SERVICE. -/
  | serve (via : Via)
  /-- QUIESCE (R646): QUIESCE stops new requests and closes meter records. -/
  | quiesce (via : Via)
  /-- RESUME (R647): RESUME leaves QUIESCE and restarts keep-alive timers and meters. -/
  | resume (via : Via)
  /-- SHUTDOWN (R668): SHUTDOWN checkpoints, flushes, sets the orderly-stop flag and powers down. -/
  | shutdown (via : Via)
  /-- SHUTDOWN_DONE (R668): The shutdown steps complete and the device enters DORMANT. -/
  | shutdownDone
  /-- RECOMMISSION (R645): RECOMMISSION clears COMMISSIONED and moves QUIESCE to COMMISSION. -/
  | recommission (via : Via)
  /-- START (R649): START through 2001h releases a device that entered DORMANT by SHUTDOWN. -/
  | start (via : Via)
  /-- MODE_COMMAND_REFUSED (R644): A MODE_CMD write with several bits, or a disallowed command, is discarded with 0C9h. -/
  | modeCommandRefused (via : Via) (bits : BitVec 5)
  /-- STARTUP_HOLD_RELEASE (R649): The start conditions hold for 50 ms and Plinth sequences the rails. -/
  | startupHoldRelease
  /-- STARTUP_SLOT_RAMP (R652): At release + AUX_DLY + 2 ms per slot an occupied slot begins to ramp. -/
  | startupSlotRamp (slot : Fin 24)
  /-- RAIL_TIMEOUT (R680): A rail not in range 10 ms after its command causes a package reset. -/
  | railTimeout (rail : Fin 10) (mv : Nat)
  /-- RAIL_DROP (R680): A rail below range for 10 us causes a package reset. -/
  | railDrop (rail : Fin 10) (mv : Nat)
  /-- BOOT_IMAGE_VERIFY (R659): Plinth verifies the chosen image and boots it, the other slot, or halts. -/
  | bootImageVerify (storeOk : Bool)
  /-- STARTUP_COMPLETE (R653): Start-up reaches step 10 and records 0C2h. -/
  | startupComplete
  /-- PACKAGE_RESET_PIN (R654): PKG_RESET_n held low for 1 us resets every die. -/
  | packageResetPin (lowNs : Nat)
  /-- PACKAGE_RESET (R654): Writing 7365_7272h to 2002h resets the package. -/
  | packageReset (via : Via) (value : BitVec 32)
  /-- POWER_LOSS (R655): Both feeds are lost or the card removed; Plinth records 0C0h with CAUSE 0Ch. -/
  | powerLoss (standbyLost : Bool)
  /-- IMAGE_DOWNLOAD (R662): A write of 2008h downloads an image into the inactive slot. -/
  | imageDownload (session : Nat)
  /-- IMAGE_DOWNLOAD_END (R662): The download ends and the image is checked. -/
  | imageDownloadEnd (image : Image)
  /-- ACTIVATE (R663): FW_CMD.ACTIVATE starts a live change or a trial boot, or is refused. -/
  | activate (via : Via)
  /-- LIVE_GROUP_COMPLETE (R664): A live change group runs the new image and the next group starts. -/
  | liveGroupComplete
  /-- LIVE_GROUP_TIMEOUT (R666): A group that does not start within 2 s stops the change. -/
  | liveGroupTimeout
  /-- IMAGE_CONFIRM (R667): After CONFIRM_S seconds of stable running the image is confirmed. -/
  | imageConfirm
  /-- TEMPERATURE_SAMPLE (R684): Every 10 us each sensor is sampled and judged for warning, HOT and alarm. -/
  | temperatureSample (readings : List Int)
  /-- DIE_TEMP_READ (R5): A read of DIE_TEMP returns PEAK and clears it. -/
  | dieTempRead (req : Requester) (sensor : Fin 20)
  /-- REFCLOCK_LOSS (R693): A reference clock shows no edge for 1 us and its users go down. -/
  | refclockLoss (clock : Fin 7)
  /-- REFCLOCK_RETURN (R693): A clock shows edges for 1 ms and its links retrain. -/
  | refclockReturn (clock : Fin 7)
  /-- POWER_UP (R643): The 3.3 V standby supply becomes valid, Plinth leaves its power-on reset, latches the straps, enters DORMANT with CAUSE 00h and starts counting the start-up hold. -/
  | powerUp (pkgIdx : Fin 4) (wiring : Bool)
  /-- MEMBER_ACQUIRE_COMPLETE (R623): A member's Reservation Acquire or Register completes, making the member held by the pier, teaching the drive region the new epoch and possibly giving the pier a majority. -/
  | memberAcquireComplete (pier : Fin 2) (slot : Fin 24) (held : Bool) (blocks : List Fetched)
  /-- MSIX_UNMASK (R535): A write that unmasks an MSI-X vector sends the message whose pending bit is set, if Bus Master Enable is 1. -/
  | msixUnmask (fn : Fin 66) (vec : Nat)
  /-- IDEAL_DIODE_FORWARD (R466): Forward voltage across an ideal-diode MOSFET exceeds 25 mV and its gate turns on again. -/
  | idealDiodeForward (slot : Fin 24) (feed : Fin 2)
  /-- RNG_TEST_PASS (R301): The random source's repetition and proportion tests pass again, RNG_OK returns to 1 and GENERATE and TAG draws are accepted again. -/
  | rngTestPass
  deriving DecidableEq, Repr

end Sys2Proof
end

