-- ==== Sys2Proof/Decode.lean ====
section
/-!
DEFINITION. The words that spell commands: none. spec/opcode_table.json gives no row any bits (every row's "fields" is empty), so no word spells a
command.
-/
namespace Sys2Proof

/-- The command that a word of `nbits` bits spells by the table's bits; the table gives none. -/
def decodeTableWord (nbits w : Nat) : Option Instr :=
  match nbits, w with
  | _, _ => none

end Sys2Proof
end

