-- ==== Sys2Proof/Config.lean ====
section
/-!
DEFINITION. What an implementation fixes and what the spec leaves open: constants without a body, so that no proof can see
a value of them.
-/
namespace Sys2Proof.Config

/-- The free values, by draw number (assumption 1): every value the spec leaves undefined or draws at random. -/
opaque freeValue : Nat → BitVec 64

/-- SHA-384 (07 Derived values). -/
opaque sha384 : List Byte → List Byte

/-- The physically unclonable value of the package, 32 bytes (07). -/
opaque puf : List Byte

/-- The package serial number (07 R287). -/
opaque serial : BitVec 64

/-- AES-GMAC over additional data, by key and 96-bit IV (05 R236, 14 R550, R577). -/
opaque gmac : (key iv aad : List Byte) → List Byte

/-- AES-GCM of a message by key, IV and additional data (14 R579): the enciphered text and the tag; `open` its inverse. -/
opaque gcmSeal : (key iv aad plain : List Byte) → List Byte × List Byte
opaque gcmOpen : (key iv aad text tag : List Byte) → Option (List Byte)

/-- XTS-AES-256 of one data unit by key number and tweak (07 R271-R274), and its inverse. -/
opaque xts : (key tweak : Nat) → (unit : List Byte) → List Byte
opaque unxts : (key tweak : Nat) → (unit : List Byte) → List Byte

/-- RFC 3394 unwrapping of a key under the import key (07 R279); none where the integrity check fails. -/
opaque importKey : (imk : List Byte) → (data : List Nat) → Option Nat

/-- A general core's job (07 Host offload): by OP, key, IV, additional data, data and the tag read, the output and the tag
made; none where the tag or integrity check fails. -/
opaque generalJob : (op key : Nat) → (iv : BitVec 128) → (aad data tag : List Byte) → Option (List Byte × List Byte)

/-- The bit of Asynchronous Event Configuration that enables an event, by type and information (04 R156, table Features). -/
opaque aecBit : (type info : Nat) → Nat

/-- The largest advance of a segment's wear counter that one second of writes can make (09 R385). -/
opaque wearSecond : Nat

/-- What the description file says of register fields whose page names no object (14 R545, R557): a field, by its number, is a parameter. -/
opaque describedParam : Nat → Bool

/-- The description file's object for an index and subindex that the manual does not list (14 R545, R584): the register's number and its instance. -/
opaque describedObject : (index sub : Nat) → Option (Nat × Nat)

/-- The description file, gzip-compressed (14 R584, object 1021h). -/
opaque description : List Byte

/-- The text of a firmware version (14 object 100Ah); the spec gives no form. -/
opaque versionText : BitVec 32 → List Byte

/-- SHA-384 of a public key equals one of the Lamcy key hashes in the one-time memory that is not revoked (17 R658). -/
opaque keyHashOk : (pubkey : Nat) → Bool

/-- ECDSA P-384 verification of an image's signature (17 R658). -/
opaque signatureOk : (pubkey signedBytes signature : Nat) → Bool

end Sys2Proof.Config
end

