-- ==== Sys2Proof/Machine/Events.lean ====
section
/-!
DEFINITION. The events (15 R588): every event ID with the fixed severity its chapter's events table gives.
-/
namespace Sys2Proof.Machine

/-- Severity values of table Severities (15): NOTE 0, WARN 1, FAULT 2, CRITICAL 3, ALARM 4. -/
def sevAlarm : Nat := 4

/-- Event IDs of severity WARN in the events tables of chapters 01 to 18. -/
def eventsWarn : List Nat :=
  [0x008, 0x01E, 0x01F, 0x0B0, 0x0C1, 0x0C7, 0x0C9, 0x0D1, 0x0F1, 0x0F9, 0x0FC, 0x101, 0x103, 0x104,
   0x106, 0x107, 0x171, 0x172, 0x180, 0x181, 0x182, 0x183, 0x184, 0x185, 0x187, 0x18A, 0x18C, 0x202,
   0x203, 0x204, 0x206, 0x208, 0x281, 0x290, 0x291, 0x293, 0x294, 0x2C1, 0x2C2, 0x2C3, 0x302, 0x303,
   0x306, 0x307, 0x342, 0x343, 0x351, 0x355, 0x357, 0x35D, 0x35F, 0x361, 0x366, 0x369, 0x36A, 0x36D,
   0x36F, 0x370, 0x381, 0x382, 0x383, 0x385, 0x386, 0x388, 0x38F, 0x3C0, 0x3C2, 0x3C3, 0x3E1, 0x3E3,
   0x3E4, 0x3E5, 0x3E6, 0x3E9, 0x3EA, 0x3F1, 0x3F2, 0x3F3, 0x3F4, 0x3F6, 0x3F8, 0x3F9, 0x3FA, 0x3FB,
   0x3FD]

/-- Event IDs of severity FAULT in the events tables of chapters 01 to 18. -/
def eventsFault : List Nat :=
  [0x014, 0x016, 0x0B2, 0x0B3, 0x0C3, 0x0CA, 0x0F0, 0x0F2, 0x0F4, 0x0F8, 0x18D, 0x207, 0x292, 0x2C4,
   0x305, 0x308, 0x30B, 0x346, 0x352, 0x354, 0x35A, 0x362, 0x384, 0x3C1, 0x3E7, 0x3F7]

/-- Event IDs of severity CRITICAL in the events tables of chapters 01 to 18. -/
def eventsCritical : List Nat :=
  [0x0C4, 0x0FB, 0x309, 0x348, 0x353, 0x358, 0x359, 0x36E, 0x3FC]

/-- Event IDs of severity ALARM in the events tables of chapters 01 to 18. -/
def eventsAlarm : List Nat :=
  [0x0E0, 0x0E1, 0x0E2, 0x0E3, 0x0E4, 0x0F3, 0x30A]

/-- The severity of an event ID (15 R588); the IDs in none of the four lists are the NOTE events. -/
def eventSeverity (id : Nat) : Nat :=
  if eventsAlarm.contains id then sevAlarm
  else if eventsCritical.contains id then 3
  else if eventsFault.contains id then 2
  else if eventsWarn.contains id then 1
  else 0

end Sys2Proof.Machine
end

