-- ==== Sys2Proof/Machine/Counters.lean ====
section
/-!
DEFINITION. The 64-bit statistics counters of every block (02 R89 and the counter tables of the chapters), one name per
counter, with the address of the block's counters and the counter's index k in its table.
-/
namespace Sys2Proof.Machine

/-- The counters, BLOCK_COUNTER. -/
inductive Ctr where
  | MAC_RX_FRAMES | MAC_RX_BYTES | MAC_RX_PCS_ERR | MAC_RX_RUNT | MAC_RX_OVERSIZE | MAC_RX_FCS_ERR | MAC_RX_DA_MISS
  | MAC_RX_VLAN_MISS | MAC_RX_UNCLAIMED | MAC_RX_PAUSE | MAC_RX_POOL_DROP | MAC_RX_CTRL_DROP | MAC_TX_FRAMES
  | MAC_TX_BYTES | MAC_TX_DISCARD | MAC_FEC_CORR | MAC_FEC_UNCORR | MAC_LPI_ENTRIES | RD_RX_PKTS | RD_RX_ICRC_ERR
  | RD_RX_NO_QP | RD_RX_DUP_REACK | RD_RX_STALE | RD_RX_OOS_NAK | RD_RNR_SENT | RD_NAK_INV_SENT | RD_NAK_ACC_SENT
  | RD_NAK_OP_SENT | RD_TX_PKTS | RD_TX_RETRANS | RD_RNR_RECV | RD_NAK_RECV | RD_ACK_TIMEOUTS | RD_CRED_WAIT
  | FE_CMD_ACCEPTED | FE_CMD_ERR | FE_CMD_CANCELLED | FE_CMD_TIMEOUT | FE_TRACK_WAITS | FE_PI_ERR | FE_RESV_CONFLICT
  | FE_CONNECT_REFUSED | FE_KA_EXPIRED | TN_POL_GREEN | TN_POL_YELLOW | TN_POL_RED | TN_PROMOTIONS | TN_MTR_WRITTEN
  | TN_MTR_FAILED | SW_CELLS_ALLOC | SW_CELLS_FREED | SW_FRAMES_CROSSED | SW_DROP_FRAMES | SW_DROP_CELLS
  | SW_ISO_DISCARD | SW_ADMIT_WAITS | SW_RSV_WAITS | SW_ECC_CORR | SW_ECC_UNCORR | CX_XTS_UNITS | CX_XTS_REMOTE
  | CX_GC_JOBS | CX_OFL_JOBS | CX_OFL_ERR | CX_BOND_TAG_FAIL | CX_UNWRAP_FAIL | PAR_FULL_STRIPES | PAR_RMW_ROWS
  | PAR_RCW_ROWS | PAR_RECON_ROWS | PAR_MEDIA_ERR | PAR_REPAIR_WRITES | PAR_BB_ADDED | PAR_BB_REMOVED
  | PAR_STAGE_WAITS | PAR_ACC_WAITS | PAR_CLEAR_UNITS | LDG_REC_OPENED | LDG_REC_COMMITTED | LDG_REC_RETIRED
  | LDG_REC_ABANDONED | LDG_REC_REPLAYED | LDG_ROWS_REPLAYED | LDG_JOURNAL_WAITS | LDG_SEC_RECORDS | LDG_MAP_SETS
  | LDG_MAP_CLEARS | LDG_ECC_CORR | LDG_ECC_UNCORR | LDG_SEG_REMAPPED | LDG_RP_SEGMENTS | JOB_PASS_STRIPES
  | JOB_PASS_BLOCKS | JOB_RS_STEPS | JOB_RS_BACKUPS | JOB_RS_WAITS | JOB_CKPT_WRITES | JOB_SCRUB_ROWS
  | JOB_SCRUB_FIX_P | JOB_SCRUB_FIX_Q | JOB_SCRUB_FIX_D | JOB_SCRUB_UNLOCATED | JOB_SCRUB_SKIPPED | DRV_MCMD_ISSUED
  | DRV_MCMD_ERR | DRV_MCMD_TIMEOUT | DRV_MCMD_REISSUED | DRV_FLUSHES | DRV_LINK_DOWNS | DRV_CORR_ERR
  | DRV_MEM_REJECT | DMA_BYTES_MOVED | DMA_XFERS_DONE | DMA_TRIG_OVERRUN | DMA_HALTS | DMA_ABORTS | DMA_DISABLES
  | EP_CPL_DISCARD | EP_CPL_TIMEOUT | EP_AP_REJECT | EP_POISONED | EP_CORR_ERR | EP_UNCORR_ERR | EP_FLRS
  | EP_MSIX_SENT | OWN_HB_SILENT | OWN_CLAIMS | OWN_DISPUTES | OWN_FENCES | OWN_BOND_REPLAYS | OWN_WIDTH_CHANGES
  | OWN_MIRROR_RECORDS | OWN_FWD_COMMANDS
  deriving DecidableEq, Repr

/-- A block of counters: the address of counter 0 of its first instance, its array dimensions and its counters by k. -/
structure CtrBlock where
  base : Nat
  dims : List (Nat × Nat)
  ctrs : List Ctr
  deriving DecidableEq, Repr

/-- Every counter block, in address order of the chapters. -/
def ctrTable : List CtrBlock := [
  ⟨0x404000, [(8, 0x10000), (8, 0x100)],
    [.MAC_RX_FRAMES, .MAC_RX_BYTES, .MAC_RX_PCS_ERR, .MAC_RX_RUNT, .MAC_RX_OVERSIZE,
     .MAC_RX_FCS_ERR, .MAC_RX_DA_MISS, .MAC_RX_VLAN_MISS, .MAC_RX_UNCLAIMED, .MAC_RX_PAUSE,
     .MAC_RX_POOL_DROP, .MAC_RX_CTRL_DROP, .MAC_TX_FRAMES, .MAC_TX_BYTES, .MAC_TX_DISCARD,
     .MAC_FEC_CORR, .MAC_FEC_UNCORR, .MAC_LPI_ENTRIES]⟩,
  ⟨0x601000, [],
    [.RD_RX_PKTS, .RD_RX_ICRC_ERR, .RD_RX_NO_QP, .RD_RX_DUP_REACK, .RD_RX_STALE,
     .RD_RX_OOS_NAK, .RD_RNR_SENT, .RD_NAK_INV_SENT, .RD_NAK_ACC_SENT, .RD_NAK_OP_SENT,
     .RD_TX_PKTS, .RD_TX_RETRANS, .RD_RNR_RECV, .RD_NAK_RECV, .RD_ACK_TIMEOUTS,
     .RD_CRED_WAIT]⟩,
  ⟨0x801000, [],
    [.FE_CMD_ACCEPTED, .FE_CMD_ERR, .FE_CMD_CANCELLED, .FE_CMD_TIMEOUT, .FE_TRACK_WAITS,
     .FE_PI_ERR, .FE_RESV_CONFLICT, .FE_CONNECT_REFUSED, .FE_KA_EXPIRED]⟩,
  ⟨0xA0F000, [],
    [.TN_POL_GREEN, .TN_POL_YELLOW, .TN_POL_RED, .TN_PROMOTIONS, .TN_MTR_WRITTEN,
     .TN_MTR_FAILED]⟩,
  ⟨0xC01000, [],
    [.SW_CELLS_ALLOC, .SW_CELLS_FREED, .SW_FRAMES_CROSSED, .SW_DROP_FRAMES, .SW_DROP_CELLS,
     .SW_ISO_DISCARD, .SW_ADMIT_WAITS, .SW_RSV_WAITS, .SW_ECC_CORR, .SW_ECC_UNCORR]⟩,
  ⟨0xE01000, [],
    [.CX_XTS_UNITS, .CX_XTS_REMOTE, .CX_GC_JOBS, .CX_OFL_JOBS, .CX_OFL_ERR,
     .CX_BOND_TAG_FAIL, .CX_UNWRAP_FAIL]⟩,
  ⟨0x100F000, [(2, 0x1000000)],
    [.PAR_FULL_STRIPES, .PAR_RMW_ROWS, .PAR_RCW_ROWS, .PAR_RECON_ROWS, .PAR_MEDIA_ERR,
     .PAR_REPAIR_WRITES, .PAR_BB_ADDED, .PAR_BB_REMOVED, .PAR_STAGE_WAITS, .PAR_ACC_WAITS,
     .PAR_CLEAR_UNITS]⟩,
  ⟨0x101F000, [(2, 0x1000000)],
    [.LDG_REC_OPENED, .LDG_REC_COMMITTED, .LDG_REC_RETIRED, .LDG_REC_ABANDONED, .LDG_REC_REPLAYED,
     .LDG_ROWS_REPLAYED, .LDG_JOURNAL_WAITS, .LDG_SEC_RECORDS, .LDG_MAP_SETS, .LDG_MAP_CLEARS,
     .LDG_ECC_CORR, .LDG_ECC_UNCORR, .LDG_SEG_REMAPPED, .LDG_RP_SEGMENTS]⟩,
  ⟨0x102F000, [(2, 0x1000000)],
    [.JOB_PASS_STRIPES, .JOB_PASS_BLOCKS, .JOB_RS_STEPS, .JOB_RS_BACKUPS, .JOB_RS_WAITS,
     .JOB_CKPT_WRITES, .JOB_SCRUB_ROWS, .JOB_SCRUB_FIX_P, .JOB_SCRUB_FIX_Q, .JOB_SCRUB_FIX_D,
     .JOB_SCRUB_UNLOCATED, .JOB_SCRUB_SKIPPED]⟩,
  ⟨0x103F000, [(2, 0x1000000)],
    [.DRV_MCMD_ISSUED, .DRV_MCMD_ERR, .DRV_MCMD_TIMEOUT, .DRV_MCMD_REISSUED, .DRV_FLUSHES,
     .DRV_LINK_DOWNS, .DRV_CORR_ERR, .DRV_MEM_REJECT]⟩,
  ⟨0x3300000, [],
    [.DMA_BYTES_MOVED, .DMA_XFERS_DONE, .DMA_TRIG_OVERRUN, .DMA_HALTS, .DMA_ABORTS,
     .DMA_DISABLES]⟩,
  ⟨0x3C01000, [],
    [.EP_CPL_DISCARD, .EP_CPL_TIMEOUT, .EP_AP_REJECT, .EP_POISONED, .EP_CORR_ERR,
     .EP_UNCORR_ERR, .EP_FLRS, .EP_MSIX_SENT]⟩,
  ⟨0x20F000, [],
    [.OWN_HB_SILENT, .OWN_CLAIMS, .OWN_DISPUTES, .OWN_FENCES, .OWN_BOND_REPLAYS,
     .OWN_WIDTH_CHANGES, .OWN_MIRROR_RECORDS, .OWN_FWD_COMMANDS]⟩]

end Sys2Proof.Machine
end

