-- ==== Sys2Proof/Machine/Regs.lean ====
section
/-!
DEFINITION. The registers of the control space (00 R4-R6, 01 R46, and the register tables of every chapter):
one name per register and per field, with its address, array dimensions, bank selector, bit place, access code
and reset value, written from the register tables of the spec.
-/
namespace Sys2Proof.Machine

/-- Access codes of a register field (00, table Register access codes, R5). -/
inductive Access where
  | ro | rw | wo | w1c | w1s | rc
  deriving DecidableEq, Repr

/-- What a banked register is banked by: the selector register that names the entry shown. -/
inductive Bank where
  | none | qp | win | host | ns | tenant | hist | voq | key | vol | seg | map | fn | csel
  deriving DecidableEq, Repr

/-- The register fields, one name per field of the spec's register tables (REGISTER_FIELD). -/
inductive Fld where
  | GLB_ID_PART | GLB_ID_VENDOR | GLB_REV_STEP | GLB_REV_SUB | GLB_MODE_CAUSE | GLB_MODE_MODE | GLB_CAP_PKG_IDX
  | GLB_CAP_WIRING | TB_LO_TIME_LO | TB_HI_TIME_HI | GLB_ERR_CS_MISALIGNED | GLB_ERR_CS_ISOLATED
  | GLB_ERR_CS_UNMAPPED | REGION_STAT_RESETS | REGION_STAT_ISO_CAUSE | REGION_STAT_TESTING | REGION_STAT_ISOLATED
  | REGION_CTL_RELEASE | REGION_CTL_ISOLATE | PACE_PACE_MAX | PACE_PACE_PS | GOV_CTL_ENABLE | GOV_CTL_PMB_ADDR
  | GOV_CTL_TARGET_PS | GOV_LIM_VMAX_MV | GOV_LIM_VMIN_MV | GOV_STAT_UNMET | GOV_STAT_AT_MIN | GOV_STAT_AT_MAX
  | GOV_STAT_VOUT_MV | GOV_PS_PS3_PS | GOV_PS_PS2_PS | GOV_PS_PS1_PS | CLUSTER_RESET_GO | CLUSTER_RESET_REGION
  | CLUSTER_RESET_CLUSTER | SEAM_STAT_UP | SEAM_STAT_REPLAYS | PORT_CFG_ENABLE | PORT_CFG_PHY | PORT_CFG_SPLIT
  | PORT_STAT_EEE_ABLE | PORT_STAT_LANE_SIG | PORT_STAT_LINK | PORT_ERR_PHY_BAD | PORT_ERR_CFG_BUSY | MAC_CFG_ENABLE
  | MAC_CFG_CBS_OVH | MAC_CFG_MAX_FRAME | MAC_ADDR_LO_ADDR | MAC_ADDR_HI_ADDR | MAC_VLAN_PCP | MAC_VLAN_VID
  | EEE_CFG_EN | EEE_CFG_IDLE | EEE_CFG_TW_MAX | EEE_STAT_ACTIVE | EEE_STAT_TX_LPI | EEE_STAT_RX_LPI | EEE_STAT_TW_TX
  | PTP_DLY_TX_DLY | PTP_DLY_RX_DLY | MAC_IP4_ADDR | MAC_IP6_ADDR | CBS_SLOPE_EN | CBS_SLOPE_IDLE | CBS_HI_HI_CREDIT
  | CBS_LO_LO_CREDIT | CBS_CREDIT_CREDIT | PTP_CFG_EN | PTP_CFG_ALT_EN | PTP_CFG_TRANSPORT | PTP_CFG_PRI_MAC
  | PTP_CFG_ALT_MAC | PTP_CFG_DOMAIN | PTP_DISC_DISC_THR | PTP_STAT_STATE | PTP_STAT_ON_ALT | PTP_STAT_SLEWING
  | PTP_OFFSET_OFFSET | PTP_FREQ_FREQ | PTP_REMAIN_REMAIN | RD_CFG_ACK_TO_EXP | RD_CFG_RETRY_CNT | RD_CFG_RNR_RETRY
  | RD_CFG_RNR_TIMER | RD_CFG_CRED_RES | RD_CFG_READ_MAX | RD_TIMING_QUIET_TO | RD_TIMING_REVOKE_TO
  | RD_SLOTS_SHARED_FREE | RD_QP_SEL_INDEX | RD_QP_STATE_STATE | RD_QP_STATE_MTU | RD_QP_STATE_TENANT
  | RD_QP_STATE_DEPTH | RD_QP_EPSN_PSN | RD_QP_NPSN_PSN | RD_QP_CRED_HOST_CODE | RD_QP_CRED_SENT_CODE
  | RD_QP_CRED_IN_USE | WIN_SEL_SLOT | WIN_CFG_ATOMIC | WIN_CFG_READ | WIN_CFG_WRITE | WIN_CFG_LEN | WIN_CFG_TENANT
  | WIN_CMD_REVOKE | WIN_CMD_REGISTER | WIN_STAT_TAG | WIN_STAT_STATE | FE_CFG_CMD_TO | FE_STAT_DISC_CTRL
  | FE_STAT_NVM_CTRL | FE_OUT_COUNT | FE_PS_ENTERING | FE_PS_TARGET | FE_PS_PS | HOST_SEL_INDEX | HOST_CFG_ENABLE
  | HOST_CFG_PRIV | HOST_CFG_MAX_CTRL | HOST_CFG_TENANT | HOST_STAT_CTRL_COUNT | HOST_STAT_NQN_SET | NS_SEL_NSID
  | NS_CFG_ACTIVE | NS_CFG_PIT | NS_CFG_LBAF | NS_CFG_VOLUME | NS_CFG_TENANT | NS_BASE_LO_VALUE | NS_BASE_HI_VALUE
  | NS_SIZE_LO_VALUE | NS_SIZE_HI_VALUE | TN_GLB_METER_EN | TN_GLB_OVH | TN_SEL_TENANT | TN_CFG_ENABLE
  | TN_CFG_POL_EN | TN_CFG_SHP_EN | TN_CFG_WEIGHT | TN_CIR_RATE | TN_PIR_RATE | TN_SRATE_RATE | TN_CBS_BURST
  | TN_PBS_BURST | TN_SBURST_BURST | TN_STAT_ELIGIBLE | TN_STAT_OUTSTANDING | CLS_DL_DL_US | BG_DL_DEG_DL_US
  | BG_DL_CRIT_DL_US | NS_CLASS_CLASS | HIST_SEL_KIND | HIST_SEL_TENANT | HIST_SEL_CLASS | HIST_BIN_COUNT
  | MTR_KEY_PENDING | MTR_KEY_LOADED | MTR_KEY_KEY_ID | MTR_SEQ_LO_SEQ | MTR_SEQ_HI_SEQ | MTR_HEAD_INDEX
  | MTR_RDIDX_INDEX | MTR_EXP_CTL_EN | MTR_EXP_CTL_SIZE_LOG2 | MTR_EXP_BASE_LO_ADDR | MTR_EXP_BASE_HI_ADDR
  | MTR_EXP_WR_INDEX | MTR_EXP_RD_INDEX | MTR_LOST_COUNT | MTR_REC_DATA | SW_ALPHA_K_URG | SW_ALPHA_K_LAT
  | SW_ALPHA_K_THR | SW_ALPHA_K_BG | SW_FREE_FREE | SW_FREE_MIN_MIN | SW_RSV_CELLS | SW_WATCH_FREE_LOW
  | SW_VOQ_SEL_INPUT | SW_VOQ_SEL_OUTPUT | SW_VOQ_SEL_CLASS | SW_VOQ_OCC_CELLS | SW_VOQ_PEAK_CELLS
  | SW_VOQ_DROP_FRAMES | SW_IN_OCC_CELLS | SW_OUT_OCC_CELLS | SW_CLS_OCC_CELLS | CX_STAT_RNG_OK | CX_STAT_KCV_SET
  | CX_STAT_SEALED | CX_STAT_KEK_READY | CX_SECRET_SEAL | KEY_SEL_KIND | KEY_SEL_INDEX | KEY_CMD_BUSY
  | KEY_CMD_DESTROY | KEY_CMD_IMPORT | KEY_CMD_GENERATE | KEY_STAT_STATE | KEY_STAT_GEN | KEY_USE_SIZE | KEY_USE_USE
  | KEY_DATA_DATA | ALM_CFG_EXT_POL | ALM_CFG_EXT_EN | ALM_STAT_SRC | OFL_CTL_EN | OFL_CTL_SIZE_LOG2
  | OFL_BASE_LO_ADDR | OFL_BASE_HI_ADDR | OFL_TAIL_INDEX | OFL_HEAD_INDEX | VOL_SEL_VOLUME | VOL_CFG_HOME
  | VOL_CFG_WIDTH | VOL_CFG_STRIP | VOL_CFG_MBS | VOL_CMD_DELETE | VOL_CMD_CREATE | VOL_STAT_STATE | VOL_STAT_OWNER
  | VOL_STAT_CLEARING | VOL_STAT_RESHAPE | VOL_STAT_REDUND | VOL_STAT_PROGRESS | VOL_CAP_LO_UNITS | VOL_CAP_HI_UNITS
  | VOL_STRIPES_COUNT | VOL_MEMBER_USED | VOL_MEMBER_SLOT | SLOT_MSTATE_STATE | SLOT_MSTATE_VOLUME
  | SLOT_MSTATE_INDEX | BB_COUNT_COUNT | BB_SEL_INDEX | BB_ENT_LO_ADDR | BB_ENT_HI_LEN | BB_ENT_HI_ADDR
  | PAR_STAGE_ACC_BUSY | PAR_STAGE_STAGED_MIB | LDG_STAT_RECOVERING | LDG_STAT_READONLY | LDG_STAT_WORN
  | LDG_STAT_HOT | LDG_STAT_REPOINTING | LDG_STAT_CLEAN | LDG_STAT_DIE_OK | LDG_RING_SEGS | LDG_RING_USED
  | LDG_RECORDS_COUNT | LDG_SEQ_LO_SEQ | LDG_SEQ_HI_SEQ | LDG_RESERVE_PAIR1 | LDG_RESERVE_PAIR0 | LDG_CFG_SEC_LAG
  | LDG_CFG_MAP_IDLE | LDG_TEMP_PEAK24 | LDG_TEMP_NOW | LDG_RP_STAT_INTERVAL | LDG_RP_STAT_PROGRESS
  | LDG_RP_LAST_LO_TIME | LDG_RP_LAST_HI_TIME | LDG_SEG_SEL_SEGMENT | LDG_SEG_STAT_STATE | LDG_SEG_STAT_DIE
  | LDG_SEG_STAT_PHYS | LDG_SEG_WEAR_LO_WEAR | LDG_SEG_WEAR_HI_WEAR | MAP_SEL_VOLUME | MAP_WH_REGIONS
  | MAP_ABS_REGIONS | MAP_HOSTS_SEC1 | MAP_HOSTS_SEC0 | MAP_HOSTS_MH2 | MAP_HOSTS_MH1 | MAP_HOSTS_MH0 | RB_CFG_AUTO
  | RB_CFG_MISS_TO | RB_RATE_RATE_CRIT | RB_RATE_RATE_DEG | SCRUB_CFG_EN | SCRUB_CFG_INTERVAL | MEMBER_CMD_BUSY
  | MEMBER_CMD_FOREIGN_CLEAR | MEMBER_CMD_REPLACE | MEMBER_CMD_FAIL | MEMBER_CMD_SLOT | JOB_STAT_JOBS | JOB_STAT_RUN
  | JOB_STAT_PROGRESS | JOB_TGT_INDICES | JOB_RESYNC_INDICES | JOB_CUR_LO_UNIT | JOB_CUR_HI_UNIT | RS_CFG_NEW_WIDTH
  | RS_CFG_NEW_STRIP | RS_CMD_STEP | RS_CMD_BACKUP | RS_CMD_PAUSE | RS_CMD_START | RS_BOUND_LO_UNIT
  | RS_BOUND_HI_UNIT | SCRUB_LAST_LO_TIME | SCRUB_LAST_HI_TIME | RS_NEW_USED | RS_NEW_SLOT | FEED_STAT_VB_MV
  | FEED_STAT_B_OK | FEED_STAT_A_OK | FEED_CFG_VA_MV | FEED_CFG_B_DIS | FEED_CFG_A_DIS | SLOT_CFG_AUTO_ON
  | SLOT_CFG_RETRY_MAX | SLOT_CFG_RETRY_S | SLOT_CFG_AUX_DLY | SLOT_CFG_SLOPE | SLOT_CMD_CYCLE | SLOT_CMD_OFF
  | SLOT_CMD_ON | SLOT_STAT_STATE | SLOT_STAT_PRSNT | SLOT_STAT_DIODE_B | SLOT_STAT_DIODE_A | SLOT_STAT_AUX_ON
  | SLOT_STAT_CAUSE | SLOT_STAT_RETRIES | SLOT_FT_FT_A | SLOT_FT_SENSE_UOHM | SLOT_CURVE_CUR | SLOT_CURVE_TIME
  | SLOT_COOL_COOL | SLOT_MEAS_V_MV | SLOT_MEAS_I_MA | SLOT_HOLD_V_PEAK | SLOT_HOLD_V_MIN | SLOT_HOLD_I_PEAK
  | SLOT_HOLD_I_MIN | SLOT_AUX_I_MA | SLOT_ACC_ACC | DRV_CFG_DUAL | DRV_CFG_WCE_OFF | DRV_CFG_LINK_TO
  | DRV_CFG_MCMD_TO | RP_STAT_LINK_UP | RP_STAT_READY | RP_STAT_FMT_BAD | RP_STAT_VWC | RP_STAT_DISABLED
  | RP_STAT_RATE | RP_STAT_WIDTH | RP_STAT_QUEUES | RP_CTL_RETRAIN | CH_CTL_EN | CH_CTL_BG | CH_CTL_CLASS
  | CH_CTL_NOSNOOP | CH_CTL_IRQ | CH_CTL_VEC | CH_TRIG_SEL | CH_TRIG_CHAIN | CH_TRIG_PERIOD | CH_QUANTUM_UNITS
  | CH_SRC_LO_ADDR | CH_SRC_HI_ADDR | CH_DST_LO_ADDR | CH_DST_HI_ADDR | CH_LEN_BYTES | CH_MODE_SRC_SG
  | CH_MODE_DST_SG | CH_MODE_SRC_SPACE | CH_MODE_DST_SPACE | CH_NENT_SRC_N | CH_NENT_DST_N | CH_DOORBELL_GO
  | CH_STAT_STATE | CH_STAT_SH_FULL | CH_STAT_ERR | CH_STAT_ENTRY | CH_REMAIN_BYTES | CH_DONE_COUNT
  | CH_ERR_ADDR_LO_ADDR | CH_ERR_ADDR_HI_ADDR | EP_STAT_LINK_UP | EP_STAT_FLIT | EP_STAT_RATE | EP_STAT_WIDTH
  | EP_CFG_SSID | EP_CFG_PRIV | EP_RO_AP_CPL | EP_RO_DMA_RD | EP_RO_DMA_WR | EP_RO_NV_SQ | EP_RO_NV_RD | EP_RO_NV_WR
  | EP_VEC_PF0_VEC | EP_VEC_VF_VEC | EP_FN_SEL_FN | EP_FN_CFG_EN | EP_FN_CFG_HOST | EP_FN_STAT_BME | EP_FN_STAT_FLR
  | EP_FN_STAT_CFS | EP_FN_STAT_RDY | EP_FN_STAT_IOQ | EP_IRQ_SRC_EN | EP_IRQ_SRC_VEC | EP_WIN_EN | EP_WIN_WRITE
  | EP_WIN_READ | EP_WIN_STACK | EP_WIN_UNIT | MG_OBJ_INDEX | MG_OBJ_SUB | MG_OFFSET_OFFSET | MG_CTL_GO
  | MG_CTL_WRITE | MG_CTL_LENGTH | MG_ABORT_CODE | MG_DATA_DATA | EV_STAT_FULL | EV_STAT_BUFFERING | EV_STAT_SLOTS
  | EV_HEAD_SLOT | EV_SEQ_LO_SEQ | EV_SEQ_HI_SEQ | EV_COUNT_RECORDS | EV_DROP_EVENTS | EV_RDIDX_SLOT | EV_REC_DATA
  | EV_IRQ_MIN | EV_IRQ_HOLDOFF | CNT_CTL_EN | CNT_CTL_STACK | CNT_CTL_SIZE_LOG2 | CNT_SNAP_LO_SNAP
  | CNT_SNAP_HI_SNAP | CNT_CSEL_REGION | CNT_CSEL_CLUSTER | CNT_CFG_MODE | CNT_CFG_CODE | CNT_CFG_THRESH
  | CNT_LIVE_LO_VALUE | CNT_LIVE_HI_VALUE | REGION_FIRST_COUNT | REGION_FIRST_FIRST | SMP_CTL_EN | SMP_CTL_STOP
  | SMP_CTL_MATCH | SMP_CTL_PERIOD | SMP_MATCH_VALUE | SMP_STAT_STOPPED | SMP_STAT_HEAD | CNT_WIN_SEL_BUF
  | CNT_WIN_SEL_OFFSET | CNT_WIN_DATA_DATA | OWN_CFG_AUTO_BACK | OWN_CFG_QUOIN_TO | OWN_STAT_PE_HB | OWN_STAT_PW_HB
  | OWN_STAT_PE_FENCED | OWN_STAT_PW_FENCED | OWN_STAT_DISPUTE | OWN_CMD_UNFENCE | OWN_CMD_GIVEBACK | OWN_SLOT_OWNER
  | OWN_SLOT_EPOCH | OWN_VOL_OWNER | OWN_VOL_EPOCH | OWN_PVOL_PKG | OWN_PVOL_PEPOCH | BOND_CFG_EN | BOND_CFG_SHED_EN
  | BOND_CFG_MIRROR | BOND_CFG_MIN_WIDTH | BOND_CFG_KEY_ID | BOND_STAT_UP | BOND_STAT_PEER_HB | BOND_STAT_WIDTH
  | BOND_STAT_PEER_IDX | MODE_CMD_RECOMMISSION | MODE_CMD_SHUTDOWN | MODE_CMD_RESUME | MODE_CMD_QUIESCE
  | MODE_CMD_SERVE | MODE_STAT_COMMISSIONED | MODE_STAT_DRAINED | MODE_STAT_START_MS | FW_STAT_RUN_SLOT
  | FW_STAT_TRIAL | FW_STAT_IMG_OK_A | FW_STAT_IMG_OK_B | FW_STAT_CHANGE | FW_CMD_ACTIVATE | FW_VER_RUN_VERSION
  | FW_VER_A_VERSION | FW_VER_B_VERSION | FW_CFG_CONFIRM_S | PWR_RAIL_PG | PWR_RAIL_ON | PWR_RAIL_ADDR
  | PWR_RAIL_VOUT_MV | PWR_IOUT_POUT | PWR_IOUT_IOUT | DIE_TEMP_PEAK | DIE_TEMP_NOW | THERM_CFG_WARN
  | CLK_CFG_XSPI_SS | CLK_CFG_MG_SS | CLK_STAT_PRESENT
  deriving DecidableEq, Repr

/-- Place, access code and reset value of a field (00 R4: the Reset column). -/
structure FldInfo where
  hi : Nat
  lo : Nat
  acc : Access
  reset : Nat
  deriving DecidableEq, Repr

/-- Number of bits of a field. -/
def FldInfo.width (x : FldInfo) : Nat := x.hi - x.lo + 1

/-- Each field as its table gives it. Where the Reset column names no number (strap, flash, ledger, no value) the
number here is 0: DESIGN CHOICE, assumption 2. -/
def Fld.info : Fld → FldInfo
  | .GLB_ID_PART => ⟨31, 16, .ro, 38436⟩
  | .GLB_ID_VENDOR => ⟨15, 0, .ro, 7995⟩
  | .GLB_REV_STEP => ⟨15, 8, .ro, 1⟩
  | .GLB_REV_SUB => ⟨7, 0, .ro, 0⟩
  | .GLB_MODE_CAUSE => ⟨15, 8, .ro, 0⟩
  | .GLB_MODE_MODE => ⟨2, 0, .ro, 0⟩
  | .GLB_CAP_PKG_IDX => ⟨5, 4, .ro, 0⟩
  | .GLB_CAP_WIRING => ⟨0, 0, .ro, 0⟩
  | .TB_LO_TIME_LO => ⟨31, 0, .ro, 0⟩
  | .TB_HI_TIME_HI => ⟨31, 0, .ro, 0⟩
  | .GLB_ERR_CS_MISALIGNED => ⟨2, 2, .w1c, 0⟩
  | .GLB_ERR_CS_ISOLATED => ⟨1, 1, .w1c, 0⟩
  | .GLB_ERR_CS_UNMAPPED => ⟨0, 0, .w1c, 0⟩
  | .REGION_STAT_RESETS => ⟨23, 16, .ro, 0⟩
  | .REGION_STAT_ISO_CAUSE => ⟨7, 4, .ro, 0⟩
  | .REGION_STAT_TESTING => ⟨1, 1, .ro, 0⟩
  | .REGION_STAT_ISOLATED => ⟨0, 0, .ro, 0⟩
  | .REGION_CTL_RELEASE => ⟨1, 1, .wo, 0⟩
  | .REGION_CTL_ISOLATE => ⟨0, 0, .w1s, 0⟩
  | .PACE_PACE_MAX => ⟨31, 16, .rc, 0⟩
  | .PACE_PACE_PS => ⟨15, 0, .ro, 0⟩
  | .GOV_CTL_ENABLE => ⟨31, 31, .rw, 0⟩
  | .GOV_CTL_PMB_ADDR => ⟨22, 16, .rw, 64⟩
  | .GOV_CTL_TARGET_PS => ⟨9, 0, .rw, 600⟩
  | .GOV_LIM_VMAX_MV => ⟨31, 16, .rw, 800⟩
  | .GOV_LIM_VMIN_MV => ⟨15, 0, .rw, 700⟩
  | .GOV_STAT_UNMET => ⟨18, 18, .ro, 0⟩
  | .GOV_STAT_AT_MIN => ⟨17, 17, .ro, 0⟩
  | .GOV_STAT_AT_MAX => ⟨16, 16, .ro, 0⟩
  | .GOV_STAT_VOUT_MV => ⟨15, 0, .ro, 0⟩
  | .GOV_PS_PS3_PS => ⟨29, 20, .rw, 700⟩
  | .GOV_PS_PS2_PS => ⟨19, 10, .rw, 660⟩
  | .GOV_PS_PS1_PS => ⟨9, 0, .rw, 620⟩
  | .CLUSTER_RESET_GO => ⟨31, 31, .w1s, 0⟩
  | .CLUSTER_RESET_REGION => ⟨28, 24, .rw, 0⟩
  | .CLUSTER_RESET_CLUSTER => ⟨7, 0, .rw, 0⟩
  | .SEAM_STAT_UP => ⟨31, 31, .ro, 0⟩
  | .SEAM_STAT_REPLAYS => ⟨15, 0, .rc, 0⟩
  | .PORT_CFG_ENABLE => ⟨31, 31, .rw, 0⟩
  | .PORT_CFG_PHY => ⟨3, 2, .rw, 0⟩
  | .PORT_CFG_SPLIT => ⟨1, 0, .rw, 0⟩
  | .PORT_STAT_EEE_ABLE => ⟨23, 16, .ro, 0⟩
  | .PORT_STAT_LANE_SIG => ⟨15, 8, .ro, 0⟩
  | .PORT_STAT_LINK => ⟨7, 0, .ro, 0⟩
  | .PORT_ERR_PHY_BAD => ⟨1, 1, .w1c, 0⟩
  | .PORT_ERR_CFG_BUSY => ⟨0, 0, .w1c, 0⟩
  | .MAC_CFG_ENABLE => ⟨31, 31, .rw, 0⟩
  | .MAC_CFG_CBS_OVH => ⟨22, 16, .rw, 20⟩
  | .MAC_CFG_MAX_FRAME => ⟨13, 0, .rw, 9216⟩
  | .MAC_ADDR_LO_ADDR => ⟨31, 0, .rw, 0⟩
  | .MAC_ADDR_HI_ADDR => ⟨15, 0, .rw, 0⟩
  | .MAC_VLAN_PCP => ⟨15, 13, .rw, 0⟩
  | .MAC_VLAN_VID => ⟨11, 0, .rw, 0⟩
  | .EEE_CFG_EN => ⟨31, 31, .rw, 0⟩
  | .EEE_CFG_IDLE => ⟨29, 16, .rw, 100⟩
  | .EEE_CFG_TW_MAX => ⟨15, 0, .rw, 100⟩
  | .EEE_STAT_ACTIVE => ⟨31, 31, .ro, 0⟩
  | .EEE_STAT_TX_LPI => ⟨30, 30, .ro, 0⟩
  | .EEE_STAT_RX_LPI => ⟨29, 29, .ro, 0⟩
  | .EEE_STAT_TW_TX => ⟨15, 0, .ro, 0⟩
  | .PTP_DLY_TX_DLY => ⟨31, 16, .rw, 0⟩
  | .PTP_DLY_RX_DLY => ⟨15, 0, .rw, 0⟩
  | .MAC_IP4_ADDR => ⟨31, 0, .rw, 0⟩
  | .MAC_IP6_ADDR => ⟨31, 0, .rw, 0⟩
  | .CBS_SLOPE_EN => ⟨31, 31, .rw, 0⟩
  | .CBS_SLOPE_IDLE => ⟨23, 0, .rw, 0⟩
  | .CBS_HI_HI_CREDIT => ⟨31, 0, .rw, 0⟩
  | .CBS_LO_LO_CREDIT => ⟨31, 0, .rw, 0⟩
  | .CBS_CREDIT_CREDIT => ⟨31, 0, .ro, 0⟩
  | .PTP_CFG_EN => ⟨31, 31, .rw, 0⟩
  | .PTP_CFG_ALT_EN => ⟨30, 30, .rw, 0⟩
  | .PTP_CFG_TRANSPORT => ⟨29, 28, .rw, 0⟩
  | .PTP_CFG_PRI_MAC => ⟨27, 22, .rw, 0⟩
  | .PTP_CFG_ALT_MAC => ⟨21, 16, .rw, 0⟩
  | .PTP_CFG_DOMAIN => ⟨15, 8, .rw, 0⟩
  | .PTP_DISC_DISC_THR => ⟨31, 0, .rw, 1000000⟩
  | .PTP_STAT_STATE => ⟨31, 30, .ro, 0⟩
  | .PTP_STAT_ON_ALT => ⟨29, 29, .ro, 0⟩
  | .PTP_STAT_SLEWING => ⟨28, 28, .ro, 0⟩
  | .PTP_OFFSET_OFFSET => ⟨31, 0, .ro, 0⟩
  | .PTP_FREQ_FREQ => ⟨31, 0, .ro, 0⟩
  | .PTP_REMAIN_REMAIN => ⟨31, 0, .ro, 0⟩
  | .RD_CFG_ACK_TO_EXP => ⟨31, 27, .rw, 8⟩
  | .RD_CFG_RETRY_CNT => ⟨26, 24, .rw, 7⟩
  | .RD_CFG_RNR_RETRY => ⟨23, 21, .rw, 7⟩
  | .RD_CFG_RNR_TIMER => ⟨20, 16, .rw, 1⟩
  | .RD_CFG_CRED_RES => ⟨10, 8, .rw, 2⟩
  | .RD_CFG_READ_MAX => ⟨3, 0, .rw, 5⟩
  | .RD_TIMING_QUIET_TO => ⟨31, 16, .rw, 100⟩
  | .RD_TIMING_REVOKE_TO => ⟨15, 0, .rw, 10⟩
  | .RD_SLOTS_SHARED_FREE => ⟨19, 0, .ro, 524288⟩
  | .RD_QP_SEL_INDEX => ⟨16, 0, .rw, 0⟩
  | .RD_QP_STATE_STATE => ⟨31, 28, .ro, 0⟩
  | .RD_QP_STATE_MTU => ⟨27, 26, .ro, 0⟩
  | .RD_QP_STATE_TENANT => ⟨25, 16, .ro, 0⟩
  | .RD_QP_STATE_DEPTH => ⟨12, 0, .ro, 0⟩
  | .RD_QP_EPSN_PSN => ⟨23, 0, .ro, 0⟩
  | .RD_QP_NPSN_PSN => ⟨23, 0, .ro, 0⟩
  | .RD_QP_CRED_HOST_CODE => ⟨28, 24, .ro, 0⟩
  | .RD_QP_CRED_SENT_CODE => ⟨20, 16, .ro, 0⟩
  | .RD_QP_CRED_IN_USE => ⟨12, 0, .ro, 0⟩
  | .WIN_SEL_SLOT => ⟨11, 0, .rw, 0⟩
  | .WIN_CFG_ATOMIC => ⟨26, 26, .rw, 0⟩
  | .WIN_CFG_READ => ⟨25, 25, .rw, 0⟩
  | .WIN_CFG_WRITE => ⟨24, 24, .rw, 0⟩
  | .WIN_CFG_LEN => ⟨20, 16, .rw, 0⟩
  | .WIN_CFG_TENANT => ⟨9, 0, .rw, 0⟩
  | .WIN_CMD_REVOKE => ⟨1, 1, .w1s, 0⟩
  | .WIN_CMD_REGISTER => ⟨0, 0, .w1s, 0⟩
  | .WIN_STAT_TAG => ⟨31, 12, .ro, 0⟩
  | .WIN_STAT_STATE => ⟨1, 0, .ro, 0⟩
  | .FE_CFG_CMD_TO => ⟨31, 16, .rw, 8000⟩
  | .FE_STAT_DISC_CTRL => ⟨22, 16, .ro, 0⟩
  | .FE_STAT_NVM_CTRL => ⟨10, 0, .ro, 0⟩
  | .FE_OUT_COUNT => ⟨19, 0, .ro, 0⟩
  | .FE_PS_ENTERING => ⟨31, 31, .ro, 0⟩
  | .FE_PS_TARGET => ⟨9, 8, .ro, 0⟩
  | .FE_PS_PS => ⟨1, 0, .ro, 0⟩
  | .HOST_SEL_INDEX => ⟨9, 0, .rw, 0⟩
  | .HOST_CFG_ENABLE => ⟨31, 31, .rw, 0⟩
  | .HOST_CFG_PRIV => ⟨30, 30, .rw, 0⟩
  | .HOST_CFG_MAX_CTRL => ⟨20, 16, .rw, 4⟩
  | .HOST_CFG_TENANT => ⟨9, 0, .rw, 0⟩
  | .HOST_STAT_CTRL_COUNT => ⟨20, 16, .ro, 0⟩
  | .HOST_STAT_NQN_SET => ⟨0, 0, .ro, 0⟩
  | .NS_SEL_NSID => ⟨12, 0, .rw, 1⟩
  | .NS_CFG_ACTIVE => ⟨31, 31, .rw, 0⟩
  | .NS_CFG_PIT => ⟨30, 29, .rw, 0⟩
  | .NS_CFG_LBAF => ⟨26, 24, .rw, 1⟩
  | .NS_CFG_VOLUME => ⟨21, 16, .rw, 0⟩
  | .NS_CFG_TENANT => ⟨9, 0, .rw, 0⟩
  | .NS_BASE_LO_VALUE => ⟨31, 0, .rw, 0⟩
  | .NS_BASE_HI_VALUE => ⟨15, 0, .rw, 0⟩
  | .NS_SIZE_LO_VALUE => ⟨31, 0, .rw, 0⟩
  | .NS_SIZE_HI_VALUE => ⟨15, 0, .rw, 0⟩
  | .TN_GLB_METER_EN => ⟨31, 31, .rw, 0⟩
  | .TN_GLB_OVH => ⟨6, 0, .rw, 20⟩
  | .TN_SEL_TENANT => ⟨9, 0, .rw, 0⟩
  | .TN_CFG_ENABLE => ⟨31, 31, .rw, 0⟩
  | .TN_CFG_POL_EN => ⟨30, 30, .rw, 0⟩
  | .TN_CFG_SHP_EN => ⟨29, 29, .rw, 0⟩
  | .TN_CFG_WEIGHT => ⟨7, 0, .rw, 1⟩
  | .TN_CIR_RATE => ⟨23, 0, .rw, 0⟩
  | .TN_PIR_RATE => ⟨23, 0, .rw, 0⟩
  | .TN_SRATE_RATE => ⟨23, 0, .rw, 0⟩
  | .TN_CBS_BURST => ⟨23, 0, .rw, 4096⟩
  | .TN_PBS_BURST => ⟨23, 0, .rw, 4096⟩
  | .TN_SBURST_BURST => ⟨23, 0, .rw, 16⟩
  | .TN_STAT_ELIGIBLE => ⟨31, 31, .ro, 0⟩
  | .TN_STAT_OUTSTANDING => ⟨19, 0, .ro, 0⟩
  | .CLS_DL_DL_US => ⟨23, 0, .rw, 50⟩
  | .BG_DL_DEG_DL_US => ⟨23, 0, .rw, 5000⟩
  | .BG_DL_CRIT_DL_US => ⟨23, 0, .rw, 500⟩
  | .NS_CLASS_CLASS => ⟨1, 0, .rw, 2⟩
  | .HIST_SEL_KIND => ⟨31, 31, .rw, 0⟩
  | .HIST_SEL_TENANT => ⟨11, 2, .rw, 0⟩
  | .HIST_SEL_CLASS => ⟨1, 0, .rw, 0⟩
  | .HIST_BIN_COUNT => ⟨31, 0, .rc, 0⟩
  | .MTR_KEY_PENDING => ⟨31, 31, .ro, 0⟩
  | .MTR_KEY_LOADED => ⟨30, 30, .ro, 0⟩
  | .MTR_KEY_KEY_ID => ⟨5, 0, .rw, 0⟩
  | .MTR_SEQ_LO_SEQ => ⟨31, 0, .ro, 0⟩
  | .MTR_SEQ_HI_SEQ => ⟨31, 0, .ro, 0⟩
  | .MTR_HEAD_INDEX => ⟨18, 0, .ro, 0⟩
  | .MTR_RDIDX_INDEX => ⟨18, 0, .rw, 0⟩
  | .MTR_EXP_CTL_EN => ⟨31, 31, .rw, 0⟩
  | .MTR_EXP_CTL_SIZE_LOG2 => ⟨4, 0, .rw, 10⟩
  | .MTR_EXP_BASE_LO_ADDR => ⟨31, 12, .rw, 0⟩
  | .MTR_EXP_BASE_HI_ADDR => ⟨31, 0, .rw, 0⟩
  | .MTR_EXP_WR_INDEX => ⟨31, 0, .ro, 0⟩
  | .MTR_EXP_RD_INDEX => ⟨31, 0, .rw, 0⟩
  | .MTR_LOST_COUNT => ⟨31, 0, .ro, 0⟩
  | .MTR_REC_DATA => ⟨31, 0, .ro, 0⟩
  | .SW_ALPHA_K_URG => ⟨15, 12, .rw, 3⟩
  | .SW_ALPHA_K_LAT => ⟨11, 8, .rw, 1⟩
  | .SW_ALPHA_K_THR => ⟨7, 4, .rw, 0⟩
  | .SW_ALPHA_K_BG => ⟨3, 0, .rw, 14⟩
  | .SW_FREE_FREE => ⟨19, 0, .ro, 655360⟩
  | .SW_FREE_MIN_MIN => ⟨19, 0, .rc, 655360⟩
  | .SW_RSV_CELLS => ⟨19, 0, .ro, 0⟩
  | .SW_WATCH_FREE_LOW => ⟨19, 0, .rw, 40960⟩
  | .SW_VOQ_SEL_INPUT => ⟨9, 6, .rw, 0⟩
  | .SW_VOQ_SEL_OUTPUT => ⟨5, 2, .rw, 0⟩
  | .SW_VOQ_SEL_CLASS => ⟨1, 0, .rw, 0⟩
  | .SW_VOQ_OCC_CELLS => ⟨19, 0, .ro, 0⟩
  | .SW_VOQ_PEAK_CELLS => ⟨19, 0, .rc, 0⟩
  | .SW_VOQ_DROP_FRAMES => ⟨31, 0, .rc, 0⟩
  | .SW_IN_OCC_CELLS => ⟨19, 0, .ro, 0⟩
  | .SW_OUT_OCC_CELLS => ⟨19, 0, .ro, 0⟩
  | .SW_CLS_OCC_CELLS => ⟨19, 0, .ro, 0⟩
  | .CX_STAT_RNG_OK => ⟨3, 3, .ro, 0⟩
  | .CX_STAT_KCV_SET => ⟨2, 2, .ro, 0⟩
  | .CX_STAT_SEALED => ⟨1, 1, .ro, 0⟩
  | .CX_STAT_KEK_READY => ⟨0, 0, .ro, 0⟩
  | .CX_SECRET_SEAL => ⟨0, 0, .rw, 1⟩
  | .KEY_SEL_KIND => ⟨13, 12, .rw, 0⟩
  | .KEY_SEL_INDEX => ⟨11, 0, .rw, 0⟩
  | .KEY_CMD_BUSY => ⟨31, 31, .ro, 0⟩
  | .KEY_CMD_DESTROY => ⟨2, 2, .wo, 0⟩
  | .KEY_CMD_IMPORT => ⟨1, 1, .wo, 0⟩
  | .KEY_CMD_GENERATE => ⟨0, 0, .wo, 0⟩
  | .KEY_STAT_STATE => ⟨31, 30, .ro, 0⟩
  | .KEY_STAT_GEN => ⟨29, 0, .ro, 0⟩
  | .KEY_USE_SIZE => ⟨8, 8, .rw, 1⟩
  | .KEY_USE_USE => ⟨1, 0, .rw, 2⟩
  | .KEY_DATA_DATA => ⟨31, 0, .wo, 0⟩
  | .ALM_CFG_EXT_POL => ⟨1, 1, .rw, 0⟩
  | .ALM_CFG_EXT_EN => ⟨0, 0, .rw, 1⟩
  | .ALM_STAT_SRC => ⟨5, 0, .ro, 0⟩
  | .OFL_CTL_EN => ⟨31, 31, .rw, 0⟩
  | .OFL_CTL_SIZE_LOG2 => ⟨3, 0, .rw, 8⟩
  | .OFL_BASE_LO_ADDR => ⟨31, 12, .rw, 0⟩
  | .OFL_BASE_HI_ADDR => ⟨31, 0, .rw, 0⟩
  | .OFL_TAIL_INDEX => ⟨31, 0, .rw, 0⟩
  | .OFL_HEAD_INDEX => ⟨31, 0, .ro, 0⟩
  | .VOL_SEL_VOLUME => ⟨5, 0, .rw, 0⟩
  | .VOL_CFG_HOME => ⟨31, 31, .rw, 0⟩
  | .VOL_CFG_WIDTH => ⟨20, 16, .rw, 0⟩
  | .VOL_CFG_STRIP => ⟨11, 8, .rw, 0⟩
  | .VOL_CFG_MBS => ⟨0, 0, .rw, 0⟩
  | .VOL_CMD_DELETE => ⟨1, 1, .w1s, 0⟩
  | .VOL_CMD_CREATE => ⟨0, 0, .w1s, 0⟩
  | .VOL_STAT_STATE => ⟨31, 28, .ro, 0⟩
  | .VOL_STAT_OWNER => ⟨27, 27, .ro, 0⟩
  | .VOL_STAT_CLEARING => ⟨26, 26, .ro, 0⟩
  | .VOL_STAT_RESHAPE => ⟨25, 25, .ro, 0⟩
  | .VOL_STAT_REDUND => ⟨23, 22, .ro, 0⟩
  | .VOL_STAT_PROGRESS => ⟨6, 0, .ro, 0⟩
  | .VOL_CAP_LO_UNITS => ⟨31, 0, .ro, 0⟩
  | .VOL_CAP_HI_UNITS => ⟨15, 0, .ro, 0⟩
  | .VOL_STRIPES_COUNT => ⟨31, 0, .ro, 0⟩
  | .VOL_MEMBER_USED => ⟨31, 31, .rw, 0⟩
  | .VOL_MEMBER_SLOT => ⟨4, 0, .rw, 0⟩
  | .SLOT_MSTATE_STATE => ⟨31, 28, .ro, 0⟩
  | .SLOT_MSTATE_VOLUME => ⟨21, 16, .ro, 0⟩
  | .SLOT_MSTATE_INDEX => ⟨4, 0, .ro, 0⟩
  | .BB_COUNT_COUNT => ⟨16, 0, .ro, 0⟩
  | .BB_SEL_INDEX => ⟨15, 0, .rw, 0⟩
  | .BB_ENT_LO_ADDR => ⟨31, 0, .ro, 0⟩
  | .BB_ENT_HI_LEN => ⟨31, 20, .ro, 0⟩
  | .BB_ENT_HI_ADDR => ⟨19, 0, .ro, 0⟩
  | .PAR_STAGE_ACC_BUSY => ⟨20, 16, .ro, 0⟩
  | .PAR_STAGE_STAGED_MIB => ⟨13, 0, .ro, 0⟩
  | .LDG_STAT_RECOVERING => ⟨31, 31, .ro, 1⟩
  | .LDG_STAT_READONLY => ⟨30, 30, .ro, 0⟩
  | .LDG_STAT_WORN => ⟨29, 29, .ro, 0⟩
  | .LDG_STAT_HOT => ⟨28, 28, .ro, 0⟩
  | .LDG_STAT_REPOINTING => ⟨27, 27, .ro, 0⟩
  | .LDG_STAT_CLEAN => ⟨26, 26, .ro, 0⟩
  | .LDG_STAT_DIE_OK => ⟨3, 0, .ro, 0⟩
  | .LDG_RING_SEGS => ⟨27, 16, .ro, 2048⟩
  | .LDG_RING_USED => ⟨11, 0, .ro, 0⟩
  | .LDG_RECORDS_COUNT => ⟨19, 0, .ro, 0⟩
  | .LDG_SEQ_LO_SEQ => ⟨31, 0, .ro, 0⟩
  | .LDG_SEQ_HI_SEQ => ⟨31, 0, .ro, 0⟩
  | .LDG_RESERVE_PAIR1 => ⟨26, 16, .ro, 0⟩
  | .LDG_RESERVE_PAIR0 => ⟨10, 0, .ro, 0⟩
  | .LDG_CFG_SEC_LAG => ⟨23, 16, .rw, 10⟩
  | .LDG_CFG_MAP_IDLE => ⟨15, 0, .rw, 10⟩
  | .LDG_TEMP_PEAK24 => ⟨15, 8, .ro, 0⟩
  | .LDG_TEMP_NOW => ⟨7, 0, .ro, 0⟩
  | .LDG_RP_STAT_INTERVAL => ⟨31, 24, .ro, 30⟩
  | .LDG_RP_STAT_PROGRESS => ⟨6, 0, .ro, 0⟩
  | .LDG_RP_LAST_LO_TIME => ⟨31, 0, .ro, 0⟩
  | .LDG_RP_LAST_HI_TIME => ⟨31, 0, .ro, 0⟩
  | .LDG_SEG_SEL_SEGMENT => ⟨13, 0, .rw, 0⟩
  | .LDG_SEG_STAT_STATE => ⟨31, 30, .ro, 0⟩
  | .LDG_SEG_STAT_DIE => ⟨29, 28, .ro, 0⟩
  | .LDG_SEG_STAT_PHYS => ⟨11, 0, .ro, 0⟩
  | .LDG_SEG_WEAR_LO_WEAR => ⟨31, 0, .ro, 0⟩
  | .LDG_SEG_WEAR_HI_WEAR => ⟨15, 0, .ro, 0⟩
  | .MAP_SEL_VOLUME => ⟨5, 0, .rw, 0⟩
  | .MAP_WH_REGIONS => ⟨22, 0, .ro, 0⟩
  | .MAP_ABS_REGIONS => ⟨22, 0, .ro, 0⟩
  | .MAP_HOSTS_SEC1 => ⟨29, 25, .ro, 31⟩
  | .MAP_HOSTS_SEC0 => ⟨24, 20, .ro, 31⟩
  | .MAP_HOSTS_MH2 => ⟨14, 10, .ro, 31⟩
  | .MAP_HOSTS_MH1 => ⟨9, 5, .ro, 31⟩
  | .MAP_HOSTS_MH0 => ⟨4, 0, .ro, 31⟩
  | .RB_CFG_AUTO => ⟨31, 31, .rw, 1⟩
  | .RB_CFG_MISS_TO => ⟨15, 0, .rw, 300⟩
  | .RB_RATE_RATE_CRIT => ⟨31, 16, .rw, 120⟩
  | .RB_RATE_RATE_DEG => ⟨15, 0, .rw, 40⟩
  | .SCRUB_CFG_EN => ⟨31, 31, .rw, 1⟩
  | .SCRUB_CFG_INTERVAL => ⟨7, 0, .rw, 14⟩
  | .MEMBER_CMD_BUSY => ⟨31, 31, .ro, 0⟩
  | .MEMBER_CMD_FOREIGN_CLEAR => ⟨7, 7, .wo, 0⟩
  | .MEMBER_CMD_REPLACE => ⟨6, 6, .wo, 0⟩
  | .MEMBER_CMD_FAIL => ⟨5, 5, .wo, 0⟩
  | .MEMBER_CMD_SLOT => ⟨4, 0, .rw, 0⟩
  | .JOB_STAT_JOBS => ⟨31, 29, .ro, 0⟩
  | .JOB_STAT_RUN => ⟨28, 27, .ro, 0⟩
  | .JOB_STAT_PROGRESS => ⟨6, 0, .ro, 0⟩
  | .JOB_TGT_INDICES => ⟨23, 0, .ro, 0⟩
  | .JOB_RESYNC_INDICES => ⟨23, 0, .ro, 0⟩
  | .JOB_CUR_LO_UNIT => ⟨31, 0, .ro, 0⟩
  | .JOB_CUR_HI_UNIT => ⟨15, 0, .ro, 0⟩
  | .RS_CFG_NEW_WIDTH => ⟨20, 16, .rw, 0⟩
  | .RS_CFG_NEW_STRIP => ⟨11, 8, .rw, 0⟩
  | .RS_CMD_STEP => ⟨31, 31, .ro, 0⟩
  | .RS_CMD_BACKUP => ⟨30, 30, .ro, 0⟩
  | .RS_CMD_PAUSE => ⟨1, 1, .rw, 0⟩
  | .RS_CMD_START => ⟨0, 0, .w1s, 0⟩
  | .RS_BOUND_LO_UNIT => ⟨31, 0, .ro, 0⟩
  | .RS_BOUND_HI_UNIT => ⟨15, 0, .ro, 0⟩
  | .SCRUB_LAST_LO_TIME => ⟨31, 0, .ro, 0⟩
  | .SCRUB_LAST_HI_TIME => ⟨31, 0, .ro, 0⟩
  | .RS_NEW_USED => ⟨31, 31, .rw, 0⟩
  | .RS_NEW_SLOT => ⟨4, 0, .rw, 0⟩
  | .FEED_STAT_VB_MV => ⟨31, 16, .ro, 0⟩
  | .FEED_STAT_B_OK => ⟨1, 1, .ro, 0⟩
  | .FEED_STAT_A_OK => ⟨0, 0, .ro, 0⟩
  | .FEED_CFG_VA_MV => ⟨31, 16, .ro, 0⟩
  | .FEED_CFG_B_DIS => ⟨1, 1, .rw, 0⟩
  | .FEED_CFG_A_DIS => ⟨0, 0, .rw, 0⟩
  | .SLOT_CFG_AUTO_ON => ⟨31, 31, .rw, 1⟩
  | .SLOT_CFG_RETRY_MAX => ⟨30, 28, .rw, 3⟩
  | .SLOT_CFG_RETRY_S => ⟨27, 24, .rw, 1⟩
  | .SLOT_CFG_AUX_DLY => ⟨23, 16, .rw, 10⟩
  | .SLOT_CFG_SLOPE => ⟨6, 0, .rw, 12⟩
  | .SLOT_CMD_CYCLE => ⟨2, 2, .wo, 0⟩
  | .SLOT_CMD_OFF => ⟨1, 1, .wo, 0⟩
  | .SLOT_CMD_ON => ⟨0, 0, .wo, 0⟩
  | .SLOT_STAT_STATE => ⟨31, 28, .ro, 0⟩
  | .SLOT_STAT_PRSNT => ⟨27, 27, .ro, 0⟩
  | .SLOT_STAT_DIODE_B => ⟨26, 26, .ro, 0⟩
  | .SLOT_STAT_DIODE_A => ⟨25, 25, .ro, 0⟩
  | .SLOT_STAT_AUX_ON => ⟨24, 24, .ro, 0⟩
  | .SLOT_STAT_CAUSE => ⟨23, 20, .ro, 0⟩
  | .SLOT_STAT_RETRIES => ⟨3, 0, .ro, 0⟩
  | .SLOT_FT_FT_A => ⟨25, 20, .rw, 25⟩
  | .SLOT_FT_SENSE_UOHM => ⟨15, 0, .rw, 2000⟩
  | .SLOT_CURVE_CUR => ⟨31, 20, .rw, 0⟩
  | .SLOT_CURVE_TIME => ⟨19, 0, .rw, 0⟩
  | .SLOT_COOL_COOL => ⟨19, 0, .rw, 200000⟩
  | .SLOT_MEAS_V_MV => ⟨31, 16, .ro, 0⟩
  | .SLOT_MEAS_I_MA => ⟨15, 0, .ro, 0⟩
  | .SLOT_HOLD_V_PEAK => ⟨31, 16, .rc, 0⟩
  | .SLOT_HOLD_V_MIN => ⟨15, 0, .rc, 65535⟩
  | .SLOT_HOLD_I_PEAK => ⟨31, 16, .rc, 0⟩
  | .SLOT_HOLD_I_MIN => ⟨15, 0, .rc, 65535⟩
  | .SLOT_AUX_I_MA => ⟨15, 0, .ro, 0⟩
  | .SLOT_ACC_ACC => ⟨24, 0, .ro, 0⟩
  | .DRV_CFG_DUAL => ⟨31, 30, .rw, 0⟩
  | .DRV_CFG_WCE_OFF => ⟨29, 29, .rw, 0⟩
  | .DRV_CFG_LINK_TO => ⟨28, 16, .rw, 1000⟩
  | .DRV_CFG_MCMD_TO => ⟨15, 0, .rw, 2000⟩
  | .RP_STAT_LINK_UP => ⟨31, 31, .ro, 0⟩
  | .RP_STAT_READY => ⟨30, 30, .ro, 0⟩
  | .RP_STAT_FMT_BAD => ⟨29, 29, .ro, 0⟩
  | .RP_STAT_VWC => ⟨28, 28, .ro, 0⟩
  | .RP_STAT_DISABLED => ⟨27, 27, .ro, 0⟩
  | .RP_STAT_RATE => ⟨19, 16, .ro, 0⟩
  | .RP_STAT_WIDTH => ⟨10, 8, .ro, 0⟩
  | .RP_STAT_QUEUES => ⟨4, 0, .ro, 0⟩
  | .RP_CTL_RETRAIN => ⟨0, 0, .wo, 0⟩
  | .CH_CTL_EN => ⟨31, 31, .rw, 0⟩
  | .CH_CTL_BG => ⟨30, 30, .rw, 0⟩
  | .CH_CTL_CLASS => ⟨29, 28, .rw, 2⟩
  | .CH_CTL_NOSNOOP => ⟨27, 27, .rw, 0⟩
  | .CH_CTL_IRQ => ⟨26, 26, .rw, 0⟩
  | .CH_CTL_VEC => ⟨10, 0, .rw, 0⟩
  | .CH_TRIG_SEL => ⟨31, 30, .rw, 0⟩
  | .CH_TRIG_CHAIN => ⟨22, 16, .rw, 0⟩
  | .CH_TRIG_PERIOD => ⟨15, 0, .rw, 100⟩
  | .CH_QUANTUM_UNITS => ⟨31, 6, .rw, 0⟩
  | .CH_SRC_LO_ADDR => ⟨31, 0, .rw, 0⟩
  | .CH_SRC_HI_ADDR => ⟨31, 0, .rw, 0⟩
  | .CH_DST_LO_ADDR => ⟨31, 0, .rw, 0⟩
  | .CH_DST_HI_ADDR => ⟨31, 0, .rw, 0⟩
  | .CH_LEN_BYTES => ⟨31, 0, .rw, 0⟩
  | .CH_MODE_SRC_SG => ⟨31, 31, .rw, 0⟩
  | .CH_MODE_DST_SG => ⟨30, 30, .rw, 0⟩
  | .CH_MODE_SRC_SPACE => ⟨27, 24, .rw, 0⟩
  | .CH_MODE_DST_SPACE => ⟨23, 20, .rw, 0⟩
  | .CH_NENT_SRC_N => ⟨31, 16, .rw, 0⟩
  | .CH_NENT_DST_N => ⟨15, 0, .rw, 0⟩
  | .CH_DOORBELL_GO => ⟨0, 0, .wo, 0⟩
  | .CH_STAT_STATE => ⟨31, 28, .ro, 0⟩
  | .CH_STAT_SH_FULL => ⟨27, 27, .ro, 0⟩
  | .CH_STAT_ERR => ⟨19, 16, .ro, 0⟩
  | .CH_STAT_ENTRY => ⟨15, 0, .ro, 0⟩
  | .CH_REMAIN_BYTES => ⟨31, 0, .ro, 0⟩
  | .CH_DONE_COUNT => ⟨31, 0, .ro, 0⟩
  | .CH_ERR_ADDR_LO_ADDR => ⟨31, 0, .ro, 0⟩
  | .CH_ERR_ADDR_HI_ADDR => ⟨31, 0, .ro, 0⟩
  | .EP_STAT_LINK_UP => ⟨31, 31, .ro, 0⟩
  | .EP_STAT_FLIT => ⟨30, 30, .ro, 0⟩
  | .EP_STAT_RATE => ⟨19, 16, .ro, 0⟩
  | .EP_STAT_WIDTH => ⟨12, 8, .ro, 0⟩
  | .EP_CFG_SSID => ⟨31, 16, .rw, 0⟩
  | .EP_CFG_PRIV => ⟨0, 0, .ro, 0⟩
  | .EP_RO_AP_CPL => ⟨5, 5, .rw, 0⟩
  | .EP_RO_DMA_RD => ⟨4, 4, .rw, 0⟩
  | .EP_RO_DMA_WR => ⟨3, 3, .rw, 0⟩
  | .EP_RO_NV_SQ => ⟨2, 2, .rw, 0⟩
  | .EP_RO_NV_RD => ⟨1, 1, .rw, 0⟩
  | .EP_RO_NV_WR => ⟨0, 0, .rw, 1⟩
  | .EP_VEC_PF0_VEC => ⟨27, 16, .rw, 448⟩
  | .EP_VEC_VF_VEC => ⟨4, 0, .rw, 24⟩
  | .EP_FN_SEL_FN => ⟨6, 0, .rw, 0⟩
  | .EP_FN_CFG_EN => ⟨31, 31, .rw, 0⟩
  | .EP_FN_CFG_HOST => ⟨9, 0, .rw, 0⟩
  | .EP_FN_STAT_BME => ⟨31, 31, .ro, 0⟩
  | .EP_FN_STAT_FLR => ⟨30, 30, .ro, 0⟩
  | .EP_FN_STAT_CFS => ⟨29, 29, .ro, 0⟩
  | .EP_FN_STAT_RDY => ⟨28, 28, .ro, 0⟩
  | .EP_FN_STAT_IOQ => ⟨8, 0, .ro, 0⟩
  | .EP_IRQ_SRC_EN => ⟨31, 31, .rw, 0⟩
  | .EP_IRQ_SRC_VEC => ⟨10, 0, .rw, 0⟩
  | .EP_WIN_EN => ⟨31, 31, .rw, 0⟩
  | .EP_WIN_WRITE => ⟨30, 30, .rw, 0⟩
  | .EP_WIN_READ => ⟨29, 29, .rw, 0⟩
  | .EP_WIN_STACK => ⟨8, 8, .rw, 0⟩
  | .EP_WIN_UNIT => ⟨4, 0, .rw, 16⟩
  | .MG_OBJ_INDEX => ⟨31, 16, .rw, 0⟩
  | .MG_OBJ_SUB => ⟨15, 8, .rw, 0⟩
  | .MG_OFFSET_OFFSET => ⟨31, 0, .rw, 0⟩
  | .MG_CTL_GO => ⟨31, 31, .w1s, 0⟩
  | .MG_CTL_WRITE => ⟨30, 30, .rw, 0⟩
  | .MG_CTL_LENGTH => ⟨10, 0, .rw, 0⟩
  | .MG_ABORT_CODE => ⟨31, 0, .ro, 0⟩
  | .MG_DATA_DATA => ⟨31, 0, .rw, 0⟩
  | .EV_STAT_FULL => ⟨31, 31, .ro, 0⟩
  | .EV_STAT_BUFFERING => ⟨30, 30, .ro, 1⟩
  | .EV_STAT_SLOTS => ⟨18, 0, .ro, 262144⟩
  | .EV_HEAD_SLOT => ⟨17, 0, .ro, 0⟩
  | .EV_SEQ_LO_SEQ => ⟨31, 0, .ro, 0⟩
  | .EV_SEQ_HI_SEQ => ⟨31, 0, .ro, 0⟩
  | .EV_COUNT_RECORDS => ⟨18, 0, .ro, 0⟩
  | .EV_DROP_EVENTS => ⟨31, 0, .ro, 0⟩
  | .EV_RDIDX_SLOT => ⟨17, 0, .rw, 0⟩
  | .EV_REC_DATA => ⟨31, 0, .ro, 0⟩
  | .EV_IRQ_MIN => ⟨18, 16, .rw, 2⟩
  | .EV_IRQ_HOLDOFF => ⟨15, 0, .rw, 100⟩
  | .CNT_CTL_EN => ⟨31, 31, .rw, 0⟩
  | .CNT_CTL_STACK => ⟨8, 8, .rw, 0⟩
  | .CNT_CTL_SIZE_LOG2 => ⟨3, 0, .rw, 15⟩
  | .CNT_SNAP_LO_SNAP => ⟨31, 0, .ro, 0⟩
  | .CNT_SNAP_HI_SNAP => ⟨31, 0, .ro, 0⟩
  | .CNT_CSEL_REGION => ⟨12, 8, .rw, 0⟩
  | .CNT_CSEL_CLUSTER => ⟨7, 0, .rw, 0⟩
  | .CNT_CFG_MODE => ⟨31, 30, .rw, 0⟩
  | .CNT_CFG_CODE => ⟨23, 16, .rw, 0⟩
  | .CNT_CFG_THRESH => ⟨15, 0, .rw, 0⟩
  | .CNT_LIVE_LO_VALUE => ⟨31, 0, .ro, 0⟩
  | .CNT_LIVE_HI_VALUE => ⟨15, 0, .ro, 0⟩
  | .REGION_FIRST_COUNT => ⟨23, 16, .ro, 0⟩
  | .REGION_FIRST_FIRST => ⟨8, 0, .ro, 0⟩
  | .SMP_CTL_EN => ⟨31, 31, .rw, 0⟩
  | .SMP_CTL_STOP => ⟨30, 30, .rw, 0⟩
  | .SMP_CTL_MATCH => ⟨29, 28, .rw, 0⟩
  | .SMP_CTL_PERIOD => ⟨15, 0, .rw, 1000⟩
  | .SMP_MATCH_VALUE => ⟨12, 0, .rw, 0⟩
  | .SMP_STAT_STOPPED => ⟨31, 31, .ro, 0⟩
  | .SMP_STAT_HEAD => ⟨19, 0, .ro, 0⟩
  | .CNT_WIN_SEL_BUF => ⟨31, 31, .rw, 0⟩
  | .CNT_WIN_SEL_OFFSET => ⟨23, 0, .rw, 0⟩
  | .CNT_WIN_DATA_DATA => ⟨31, 0, .ro, 0⟩
  | .OWN_CFG_AUTO_BACK => ⟨31, 31, .rw, 0⟩
  | .OWN_CFG_QUOIN_TO => ⟨15, 0, .rw, 1000⟩
  | .OWN_STAT_PE_HB => ⟨31, 31, .ro, 0⟩
  | .OWN_STAT_PW_HB => ⟨30, 30, .ro, 0⟩
  | .OWN_STAT_PE_FENCED => ⟨29, 29, .ro, 0⟩
  | .OWN_STAT_PW_FENCED => ⟨28, 28, .ro, 0⟩
  | .OWN_STAT_DISPUTE => ⟨27, 27, .ro, 0⟩
  | .OWN_CMD_UNFENCE => ⟨1, 1, .wo, 0⟩
  | .OWN_CMD_GIVEBACK => ⟨0, 0, .wo, 0⟩
  | .OWN_SLOT_OWNER => ⟨31, 31, .ro, 0⟩
  | .OWN_SLOT_EPOCH => ⟨30, 0, .ro, 0⟩
  | .OWN_VOL_OWNER => ⟨31, 31, .ro, 0⟩
  | .OWN_VOL_EPOCH => ⟨30, 0, .ro, 0⟩
  | .OWN_PVOL_PKG => ⟨31, 30, .ro, 0⟩
  | .OWN_PVOL_PEPOCH => ⟨29, 0, .ro, 0⟩
  | .BOND_CFG_EN => ⟨31, 31, .rw, 0⟩
  | .BOND_CFG_SHED_EN => ⟨30, 30, .rw, 1⟩
  | .BOND_CFG_MIRROR => ⟨29, 29, .rw, 0⟩
  | .BOND_CFG_MIN_WIDTH => ⟨28, 27, .rw, 2⟩
  | .BOND_CFG_KEY_ID => ⟨5, 0, .rw, 0⟩
  | .BOND_STAT_UP => ⟨31, 31, .ro, 0⟩
  | .BOND_STAT_PEER_HB => ⟨30, 30, .ro, 0⟩
  | .BOND_STAT_WIDTH => ⟨29, 28, .ro, 0⟩
  | .BOND_STAT_PEER_IDX => ⟨27, 26, .ro, 0⟩
  | .MODE_CMD_RECOMMISSION => ⟨4, 4, .wo, 0⟩
  | .MODE_CMD_SHUTDOWN => ⟨3, 3, .wo, 0⟩
  | .MODE_CMD_RESUME => ⟨2, 2, .wo, 0⟩
  | .MODE_CMD_QUIESCE => ⟨1, 1, .wo, 0⟩
  | .MODE_CMD_SERVE => ⟨0, 0, .wo, 0⟩
  | .MODE_STAT_COMMISSIONED => ⟨31, 31, .ro, 0⟩
  | .MODE_STAT_DRAINED => ⟨30, 30, .ro, 0⟩
  | .MODE_STAT_START_MS => ⟨15, 0, .ro, 0⟩
  | .FW_STAT_RUN_SLOT => ⟨31, 31, .ro, 0⟩
  | .FW_STAT_TRIAL => ⟨30, 30, .ro, 0⟩
  | .FW_STAT_IMG_OK_A => ⟨29, 29, .ro, 0⟩
  | .FW_STAT_IMG_OK_B => ⟨28, 28, .ro, 0⟩
  | .FW_STAT_CHANGE => ⟨27, 24, .ro, 0⟩
  | .FW_CMD_ACTIVATE => ⟨0, 0, .wo, 0⟩
  | .FW_VER_RUN_VERSION => ⟨31, 0, .ro, 0⟩
  | .FW_VER_A_VERSION => ⟨31, 0, .ro, 0⟩
  | .FW_VER_B_VERSION => ⟨31, 0, .ro, 0⟩
  | .FW_CFG_CONFIRM_S => ⟨15, 0, .rw, 600⟩
  | .PWR_RAIL_PG => ⟨31, 31, .ro, 0⟩
  | .PWR_RAIL_ON => ⟨30, 30, .ro, 0⟩
  | .PWR_RAIL_ADDR => ⟨22, 16, .rw, 64⟩
  | .PWR_RAIL_VOUT_MV => ⟨15, 0, .ro, 0⟩
  | .PWR_IOUT_POUT => ⟨31, 16, .ro, 0⟩
  | .PWR_IOUT_IOUT => ⟨15, 0, .ro, 0⟩
  | .DIE_TEMP_PEAK => ⟨31, 16, .rc, 0⟩
  | .DIE_TEMP_NOW => ⟨15, 0, .ro, 0⟩
  | .THERM_CFG_WARN => ⟨7, 0, .rw, 115⟩
  | .CLK_CFG_XSPI_SS => ⟨1, 1, .rw, 0⟩
  | .CLK_CFG_MG_SS => ⟨0, 0, .rw, 0⟩
  | .CLK_STAT_PRESENT => ⟨6, 0, .ro, 0⟩

/-- The reset value of instance `i` of a field: the table's value, and where the table gives one per instance, that one
(01 GOV_CTL, 05 CLS_DL, 11 Default breaker curve, 18 PWR_RAIL). -/
def Fld.resetAt (f : Fld) (i : Nat) : Nat :=
  match f with
  | .GOV_CTL_PMB_ADDR => 0x40 + i
  | .PWR_RAIL_ADDR => 0x40 + i
  | .CLS_DL_DL_US => [50, 1000, 20000].getD i 50
  | .SLOT_CURVE_CUR => [300, 400, 500, 600, 750, 900, 1050, 1200].getD (i % 8) 0
  | .SLOT_CURVE_TIME => [1000000, 200000, 50000, 10000, 2000, 500, 100, 20].getD (i % 8) 0
  | f => f.info.reset

/-- The registers, one name per register. -/
inductive Reg where
  | GLB_ID | GLB_REV | GLB_MODE | GLB_CAP | TB_LO | TB_HI | GLB_ERR | REGION_STAT | REGION_CTL | PACE | GOV_CTL
  | GOV_LIM | GOV_STAT | GOV_PS | CLUSTER_RESET | SEAM_STAT | PORT_CFG | PORT_STAT | PORT_ERR | MAC_CFG | MAC_ADDR_LO
  | MAC_ADDR_HI | MAC_VLAN | EEE_CFG | EEE_STAT | PTP_DLY | MAC_IP4 | MAC_IP6 | CBS_SLOPE | CBS_HI | CBS_LO
  | CBS_CREDIT | PTP_CFG | PTP_DISC | PTP_STAT | PTP_OFFSET | PTP_FREQ | PTP_REMAIN | RD_CFG | RD_TIMING | RD_SLOTS
  | RD_QP_SEL | RD_QP_STATE | RD_QP_EPSN | RD_QP_NPSN | RD_QP_CRED | WIN_SEL | WIN_CFG | WIN_CMD | WIN_STAT | FE_CFG
  | FE_STAT | FE_OUT | FE_PS | HOST_SEL | HOST_CFG | HOST_STAT | NS_SEL | NS_CFG | NS_BASE_LO | NS_BASE_HI
  | NS_SIZE_LO | NS_SIZE_HI | TN_GLB | TN_SEL | TN_CFG | TN_CIR | TN_PIR | TN_SRATE | TN_CBS | TN_PBS | TN_SBURST
  | TN_STAT | CLS_DL | BG_DL_DEG | BG_DL_CRIT | NS_CLASS | HIST_SEL | HIST_BIN | MTR_KEY | MTR_SEQ_LO | MTR_SEQ_HI
  | MTR_HEAD | MTR_RDIDX | MTR_EXP_CTL | MTR_EXP_BASE_LO | MTR_EXP_BASE_HI | MTR_EXP_WR | MTR_EXP_RD | MTR_LOST
  | MTR_REC | SW_ALPHA | SW_FREE | SW_FREE_MIN | SW_RSV | SW_WATCH | SW_VOQ_SEL | SW_VOQ_OCC | SW_VOQ_PEAK
  | SW_VOQ_DROP | SW_IN_OCC | SW_OUT_OCC | SW_CLS_OCC | CX_STAT | CX_SECRET | KEY_SEL | KEY_CMD | KEY_STAT | KEY_USE
  | KEY_DATA | ALM_CFG | ALM_STAT | OFL_CTL | OFL_BASE_LO | OFL_BASE_HI | OFL_TAIL | OFL_HEAD | VOL_SEL | VOL_CFG
  | VOL_CMD | VOL_STAT | VOL_CAP_LO | VOL_CAP_HI | VOL_STRIPES | VOL_MEMBER | SLOT_MSTATE | BB_COUNT | BB_SEL
  | BB_ENT_LO | BB_ENT_HI | PAR_STAGE | LDG_STAT | LDG_RING | LDG_RECORDS | LDG_SEQ_LO | LDG_SEQ_HI | LDG_RESERVE
  | LDG_CFG | LDG_TEMP | LDG_RP_STAT | LDG_RP_LAST_LO | LDG_RP_LAST_HI | LDG_SEG_SEL | LDG_SEG_STAT | LDG_SEG_WEAR_LO
  | LDG_SEG_WEAR_HI | MAP_SEL | MAP_WH | MAP_ABS | MAP_HOSTS | RB_CFG | RB_RATE | SCRUB_CFG | MEMBER_CMD | JOB_STAT
  | JOB_TGT | JOB_RESYNC | JOB_CUR_LO | JOB_CUR_HI | RS_CFG | RS_CMD | RS_BOUND_LO | RS_BOUND_HI | SCRUB_LAST_LO
  | SCRUB_LAST_HI | RS_NEW | FEED_STAT | FEED_CFG | SLOT_CFG | SLOT_CMD | SLOT_STAT | SLOT_FT | SLOT_CURVE
  | SLOT_COOL | SLOT_MEAS | SLOT_HOLD_V | SLOT_HOLD_I | SLOT_AUX | SLOT_ACC | DRV_CFG | RP_STAT | RP_CTL | CH_CTL
  | CH_TRIG | CH_QUANTUM | CH_SRC_LO | CH_SRC_HI | CH_DST_LO | CH_DST_HI | CH_LEN | CH_MODE | CH_NENT | CH_DOORBELL
  | CH_STAT | CH_REMAIN | CH_DONE | CH_ERR_ADDR_LO | CH_ERR_ADDR_HI | EP_STAT | EP_CFG | EP_RO | EP_VEC | EP_FN_SEL
  | EP_FN_CFG | EP_FN_STAT | EP_IRQ_SRC | EP_WIN | MG_OBJ | MG_OFFSET | MG_CTL | MG_ABORT | MG_DATA | EV_STAT
  | EV_HEAD | EV_SEQ_LO | EV_SEQ_HI | EV_COUNT | EV_DROP | EV_RDIDX | EV_REC | EV_IRQ | CNT_CTL | CNT_SNAP_LO
  | CNT_SNAP_HI | CNT_CSEL | CNT_CFG | CNT_LIVE_LO | CNT_LIVE_HI | REGION_FIRST | SMP_CTL | SMP_MATCH | SMP_STAT
  | CNT_WIN_SEL | CNT_WIN_DATA | OWN_CFG | OWN_STAT | OWN_CMD | OWN_SLOT | OWN_VOL | OWN_PVOL | BOND_CFG | BOND_STAT
  | MODE_CMD | MODE_STAT | FW_STAT | FW_CMD | FW_VER_RUN | FW_VER_A | FW_VER_B | FW_CFG | PWR_RAIL | PWR_IOUT
  | DIE_TEMP | THERM_CFG | CLK_CFG | CLK_STAT
  deriving DecidableEq, Repr

/-- One field's place in a register: the field, its lowest bit, its width, and the field's instance as
`mul * (register instance) + add`. -/
structure Part where
  fld : Fld
  lo : Nat
  width : Nat
  mul : Nat
  add : Nat
  deriving DecidableEq, Repr

/-- A register: the address of its first instance, its array dimensions (count, stride), whether it is one register
shown in both pier blocks (08 R349), its bank, and its fields. -/
structure RegInfo where
  reg : Reg
  base : Nat
  dims : List (Nat × Nat)
  shared : Bool
  bank : Bank
  parts : List Part
  deriving DecidableEq, Repr

/-- Registers of chapter 01, architecture. -/
def regTable01 : List RegInfo := [
  ⟨.GLB_ID, 0x00000000, [], false, .none,
    [⟨.GLB_ID_PART, 16, 16, 1, 0⟩, ⟨.GLB_ID_VENDOR, 0, 16, 1, 0⟩]⟩,
  ⟨.GLB_REV, 0x00000004, [], false, .none,
    [⟨.GLB_REV_STEP, 8, 8, 1, 0⟩, ⟨.GLB_REV_SUB, 0, 8, 1, 0⟩]⟩,
  ⟨.GLB_MODE, 0x00000008, [], false, .none,
    [⟨.GLB_MODE_CAUSE, 8, 8, 1, 0⟩, ⟨.GLB_MODE_MODE, 0, 3, 1, 0⟩]⟩,
  ⟨.GLB_CAP, 0x0000000C, [], false, .none,
    [⟨.GLB_CAP_PKG_IDX, 4, 2, 1, 0⟩, ⟨.GLB_CAP_WIRING, 0, 1, 1, 0⟩]⟩,
  ⟨.TB_LO, 0x00000010, [], false, .none,
    [⟨.TB_LO_TIME_LO, 0, 32, 1, 0⟩]⟩,
  ⟨.TB_HI, 0x00000014, [], false, .none,
    [⟨.TB_HI_TIME_HI, 0, 32, 1, 0⟩]⟩,
  ⟨.GLB_ERR, 0x00000020, [], false, .none,
    [⟨.GLB_ERR_CS_MISALIGNED, 2, 1, 1, 0⟩, ⟨.GLB_ERR_CS_ISOLATED, 1, 1, 1, 0⟩, ⟨.GLB_ERR_CS_UNMAPPED, 0, 1, 1, 0⟩]⟩,
  ⟨.REGION_STAT, 0x00000400, [(23, 0x4)], false, .none,
    [⟨.REGION_STAT_RESETS, 16, 8, 1, 0⟩, ⟨.REGION_STAT_ISO_CAUSE, 4, 4, 1, 0⟩, ⟨.REGION_STAT_TESTING, 1, 1, 1, 0⟩, ⟨.REGION_STAT_ISOLATED, 0, 1, 1, 0⟩]⟩,
  ⟨.REGION_CTL, 0x00000480, [(23, 0x4)], false, .none,
    [⟨.REGION_CTL_RELEASE, 1, 1, 1, 0⟩, ⟨.REGION_CTL_ISOLATE, 0, 1, 1, 0⟩]⟩,
  ⟨.PACE, 0x00000500, [(19, 0x4)], false, .none,
    [⟨.PACE_PACE_MAX, 16, 16, 1, 0⟩, ⟨.PACE_PACE_PS, 0, 16, 1, 0⟩]⟩,
  ⟨.GOV_CTL, 0x00000610, [(3, 0x4)], false, .none,
    [⟨.GOV_CTL_ENABLE, 31, 1, 1, 0⟩, ⟨.GOV_CTL_PMB_ADDR, 16, 7, 1, 0⟩, ⟨.GOV_CTL_TARGET_PS, 0, 10, 1, 0⟩]⟩,
  ⟨.GOV_LIM, 0x00000620, [(3, 0x4)], false, .none,
    [⟨.GOV_LIM_VMAX_MV, 16, 16, 1, 0⟩, ⟨.GOV_LIM_VMIN_MV, 0, 16, 1, 0⟩]⟩,
  ⟨.GOV_STAT, 0x00000630, [(3, 0x4)], false, .none,
    [⟨.GOV_STAT_UNMET, 18, 1, 1, 0⟩, ⟨.GOV_STAT_AT_MIN, 17, 1, 1, 0⟩, ⟨.GOV_STAT_AT_MAX, 16, 1, 1, 0⟩, ⟨.GOV_STAT_VOUT_MV, 0, 16, 1, 0⟩]⟩,
  ⟨.GOV_PS, 0x00000640, [], false, .none,
    [⟨.GOV_PS_PS3_PS, 20, 10, 1, 0⟩, ⟨.GOV_PS_PS2_PS, 10, 10, 1, 0⟩, ⟨.GOV_PS_PS1_PS, 0, 10, 1, 0⟩]⟩,
  ⟨.CLUSTER_RESET, 0x00000700, [], false, .none,
    [⟨.CLUSTER_RESET_GO, 31, 1, 1, 0⟩, ⟨.CLUSTER_RESET_REGION, 24, 5, 1, 0⟩, ⟨.CLUSTER_RESET_CLUSTER, 0, 8, 1, 0⟩]⟩,
  ⟨.SEAM_STAT, 0x00000800, [(6, 0x4)], false, .none,
    [⟨.SEAM_STAT_UP, 31, 1, 1, 0⟩, ⟨.SEAM_STAT_REPLAYS, 0, 16, 1, 0⟩]⟩]

/-- Registers of chapter 02, network ports. -/
def regTable02a : List RegInfo := [
  ⟨.PORT_CFG, 0x00400000, [(8, 0x10000)], false, .none,
    [⟨.PORT_CFG_ENABLE, 31, 1, 1, 0⟩, ⟨.PORT_CFG_PHY, 2, 2, 1, 0⟩, ⟨.PORT_CFG_SPLIT, 0, 2, 1, 0⟩]⟩,
  ⟨.PORT_STAT, 0x00400004, [(8, 0x10000)], false, .none,
    [⟨.PORT_STAT_EEE_ABLE, 16, 8, 1, 0⟩, ⟨.PORT_STAT_LANE_SIG, 8, 8, 1, 0⟩, ⟨.PORT_STAT_LINK, 0, 8, 1, 0⟩]⟩,
  ⟨.PORT_ERR, 0x00400008, [(8, 0x10000)], false, .none,
    [⟨.PORT_ERR_PHY_BAD, 1, 1, 1, 0⟩, ⟨.PORT_ERR_CFG_BUSY, 0, 1, 1, 0⟩]⟩,
  ⟨.MAC_CFG, 0x00400100, [(8, 0x10000), (8, 0x100)], false, .none,
    [⟨.MAC_CFG_ENABLE, 31, 1, 1, 0⟩, ⟨.MAC_CFG_CBS_OVH, 16, 7, 1, 0⟩, ⟨.MAC_CFG_MAX_FRAME, 0, 14, 1, 0⟩]⟩,
  ⟨.MAC_ADDR_LO, 0x00400104, [(8, 0x10000), (8, 0x100)], false, .none,
    [⟨.MAC_ADDR_LO_ADDR, 0, 32, 1, 0⟩]⟩,
  ⟨.MAC_ADDR_HI, 0x00400108, [(8, 0x10000), (8, 0x100)], false, .none,
    [⟨.MAC_ADDR_HI_ADDR, 0, 16, 1, 0⟩]⟩,
  ⟨.MAC_VLAN, 0x0040010C, [(8, 0x10000), (8, 0x100)], false, .none,
    [⟨.MAC_VLAN_PCP, 13, 3, 1, 0⟩, ⟨.MAC_VLAN_VID, 0, 12, 1, 0⟩]⟩,
  ⟨.EEE_CFG, 0x00400110, [(8, 0x10000), (8, 0x100)], false, .none,
    [⟨.EEE_CFG_EN, 31, 1, 1, 0⟩, ⟨.EEE_CFG_IDLE, 16, 14, 1, 0⟩, ⟨.EEE_CFG_TW_MAX, 0, 16, 1, 0⟩]⟩,
  ⟨.EEE_STAT, 0x00400114, [(8, 0x10000), (8, 0x100)], false, .none,
    [⟨.EEE_STAT_ACTIVE, 31, 1, 1, 0⟩, ⟨.EEE_STAT_TX_LPI, 30, 1, 1, 0⟩, ⟨.EEE_STAT_RX_LPI, 29, 1, 1, 0⟩, ⟨.EEE_STAT_TW_TX, 0, 16, 1, 0⟩]⟩,
  ⟨.PTP_DLY, 0x00400118, [(8, 0x10000), (8, 0x100)], false, .none,
    [⟨.PTP_DLY_TX_DLY, 16, 16, 1, 0⟩, ⟨.PTP_DLY_RX_DLY, 0, 16, 1, 0⟩]⟩,
  ⟨.MAC_IP4, 0x0040011C, [(8, 0x10000), (8, 0x100)], false, .none,
    [⟨.MAC_IP4_ADDR, 0, 32, 1, 0⟩]⟩,
  ⟨.MAC_IP6, 0x00400150, [(8, 0x10000), (8, 0x100), (4, 0x4)], false, .none,
    [⟨.MAC_IP6_ADDR, 0, 32, 1, 0⟩]⟩,
  ⟨.CBS_SLOPE, 0x00400120, [(8, 0x10000), (8, 0x100), (3, 0x10)], false, .none,
    [⟨.CBS_SLOPE_EN, 31, 1, 1, 0⟩, ⟨.CBS_SLOPE_IDLE, 0, 24, 1, 0⟩]⟩,
  ⟨.CBS_HI, 0x00400124, [(8, 0x10000), (8, 0x100), (3, 0x10)], false, .none,
    [⟨.CBS_HI_HI_CREDIT, 0, 32, 1, 0⟩]⟩,
  ⟨.CBS_LO, 0x00400128, [(8, 0x10000), (8, 0x100), (3, 0x10)], false, .none,
    [⟨.CBS_LO_LO_CREDIT, 0, 32, 1, 0⟩]⟩,
  ⟨.CBS_CREDIT, 0x0040012C, [(8, 0x10000), (8, 0x100), (3, 0x10)], false, .none,
    [⟨.CBS_CREDIT_CREDIT, 0, 32, 1, 0⟩]⟩]

/-- Registers of chapter 02, network ports. -/
def regTable02b : List RegInfo := [
  ⟨.PTP_CFG, 0x0040F000, [], false, .none,
    [⟨.PTP_CFG_EN, 31, 1, 1, 0⟩, ⟨.PTP_CFG_ALT_EN, 30, 1, 1, 0⟩, ⟨.PTP_CFG_TRANSPORT, 28, 2, 1, 0⟩, ⟨.PTP_CFG_PRI_MAC, 22, 6, 1, 0⟩, ⟨.PTP_CFG_ALT_MAC, 16, 6, 1, 0⟩, ⟨.PTP_CFG_DOMAIN, 8, 8, 1, 0⟩]⟩,
  ⟨.PTP_DISC, 0x0040F004, [], false, .none,
    [⟨.PTP_DISC_DISC_THR, 0, 32, 1, 0⟩]⟩,
  ⟨.PTP_STAT, 0x0040F008, [], false, .none,
    [⟨.PTP_STAT_STATE, 30, 2, 1, 0⟩, ⟨.PTP_STAT_ON_ALT, 29, 1, 1, 0⟩, ⟨.PTP_STAT_SLEWING, 28, 1, 1, 0⟩]⟩,
  ⟨.PTP_OFFSET, 0x0040F00C, [], false, .none,
    [⟨.PTP_OFFSET_OFFSET, 0, 32, 1, 0⟩]⟩,
  ⟨.PTP_FREQ, 0x0040F010, [], false, .none,
    [⟨.PTP_FREQ_FREQ, 0, 32, 1, 0⟩]⟩,
  ⟨.PTP_REMAIN, 0x0040F014, [], false, .none,
    [⟨.PTP_REMAIN_REMAIN, 0, 32, 1, 0⟩]⟩]

/-- Registers of chapter 03, RDMA. -/
def regTable03 : List RegInfo := [
  ⟨.RD_CFG, 0x00600000, [], false, .none,
    [⟨.RD_CFG_ACK_TO_EXP, 27, 5, 1, 0⟩, ⟨.RD_CFG_RETRY_CNT, 24, 3, 1, 0⟩, ⟨.RD_CFG_RNR_RETRY, 21, 3, 1, 0⟩, ⟨.RD_CFG_RNR_TIMER, 16, 5, 1, 0⟩, ⟨.RD_CFG_CRED_RES, 8, 3, 1, 0⟩, ⟨.RD_CFG_READ_MAX, 0, 4, 1, 0⟩]⟩,
  ⟨.RD_TIMING, 0x00600004, [], false, .none,
    [⟨.RD_TIMING_QUIET_TO, 16, 16, 1, 0⟩, ⟨.RD_TIMING_REVOKE_TO, 0, 16, 1, 0⟩]⟩,
  ⟨.RD_SLOTS, 0x00600008, [], false, .none,
    [⟨.RD_SLOTS_SHARED_FREE, 0, 20, 1, 0⟩]⟩,
  ⟨.RD_QP_SEL, 0x00600010, [], false, .none,
    [⟨.RD_QP_SEL_INDEX, 0, 17, 1, 0⟩]⟩,
  ⟨.RD_QP_STATE, 0x00600014, [], false, .qp,
    [⟨.RD_QP_STATE_STATE, 28, 4, 1, 0⟩, ⟨.RD_QP_STATE_MTU, 26, 2, 1, 0⟩, ⟨.RD_QP_STATE_TENANT, 16, 10, 1, 0⟩, ⟨.RD_QP_STATE_DEPTH, 0, 13, 1, 0⟩]⟩,
  ⟨.RD_QP_EPSN, 0x00600018, [], false, .qp,
    [⟨.RD_QP_EPSN_PSN, 0, 24, 1, 0⟩]⟩,
  ⟨.RD_QP_NPSN, 0x0060001C, [], false, .qp,
    [⟨.RD_QP_NPSN_PSN, 0, 24, 1, 0⟩]⟩,
  ⟨.RD_QP_CRED, 0x00600020, [], false, .qp,
    [⟨.RD_QP_CRED_HOST_CODE, 24, 5, 1, 0⟩, ⟨.RD_QP_CRED_SENT_CODE, 16, 5, 1, 0⟩, ⟨.RD_QP_CRED_IN_USE, 0, 13, 1, 0⟩]⟩,
  ⟨.WIN_SEL, 0x00600100, [], false, .none,
    [⟨.WIN_SEL_SLOT, 0, 12, 1, 0⟩]⟩,
  ⟨.WIN_CFG, 0x00600104, [], false, .win,
    [⟨.WIN_CFG_ATOMIC, 26, 1, 1, 0⟩, ⟨.WIN_CFG_READ, 25, 1, 1, 0⟩, ⟨.WIN_CFG_WRITE, 24, 1, 1, 0⟩, ⟨.WIN_CFG_LEN, 16, 5, 1, 0⟩, ⟨.WIN_CFG_TENANT, 0, 10, 1, 0⟩]⟩,
  ⟨.WIN_CMD, 0x00600108, [], false, .win,
    [⟨.WIN_CMD_REVOKE, 1, 1, 1, 0⟩, ⟨.WIN_CMD_REGISTER, 0, 1, 1, 0⟩]⟩,
  ⟨.WIN_STAT, 0x0060010C, [], false, .win,
    [⟨.WIN_STAT_TAG, 12, 20, 1, 0⟩, ⟨.WIN_STAT_STATE, 0, 2, 1, 0⟩]⟩]

/-- Registers of chapter 04, NVMe target. -/
def regTable04 : List RegInfo := [
  ⟨.FE_CFG, 0x00800000, [], false, .none,
    [⟨.FE_CFG_CMD_TO, 16, 16, 1, 0⟩]⟩,
  ⟨.FE_STAT, 0x00800004, [], false, .none,
    [⟨.FE_STAT_DISC_CTRL, 16, 7, 1, 0⟩, ⟨.FE_STAT_NVM_CTRL, 0, 11, 1, 0⟩]⟩,
  ⟨.FE_OUT, 0x00800008, [], false, .none,
    [⟨.FE_OUT_COUNT, 0, 20, 1, 0⟩]⟩,
  ⟨.FE_PS, 0x0080000C, [], false, .none,
    [⟨.FE_PS_ENTERING, 31, 1, 1, 0⟩, ⟨.FE_PS_TARGET, 8, 2, 1, 0⟩, ⟨.FE_PS_PS, 0, 2, 1, 0⟩]⟩,
  ⟨.HOST_SEL, 0x00800100, [], false, .none,
    [⟨.HOST_SEL_INDEX, 0, 10, 1, 0⟩]⟩,
  ⟨.HOST_CFG, 0x00800104, [], false, .host,
    [⟨.HOST_CFG_ENABLE, 31, 1, 1, 0⟩, ⟨.HOST_CFG_PRIV, 30, 1, 1, 0⟩, ⟨.HOST_CFG_MAX_CTRL, 16, 5, 1, 0⟩, ⟨.HOST_CFG_TENANT, 0, 10, 1, 0⟩]⟩,
  ⟨.HOST_STAT, 0x00800108, [], false, .host,
    [⟨.HOST_STAT_CTRL_COUNT, 16, 5, 1, 0⟩, ⟨.HOST_STAT_NQN_SET, 0, 1, 1, 0⟩]⟩,
  ⟨.NS_SEL, 0x00800200, [], false, .none,
    [⟨.NS_SEL_NSID, 0, 13, 1, 0⟩]⟩,
  ⟨.NS_CFG, 0x00800204, [], false, .ns,
    [⟨.NS_CFG_ACTIVE, 31, 1, 1, 0⟩, ⟨.NS_CFG_PIT, 29, 2, 1, 0⟩, ⟨.NS_CFG_LBAF, 24, 3, 1, 0⟩, ⟨.NS_CFG_VOLUME, 16, 6, 1, 0⟩, ⟨.NS_CFG_TENANT, 0, 10, 1, 0⟩]⟩,
  ⟨.NS_BASE_LO, 0x00800208, [], false, .ns,
    [⟨.NS_BASE_LO_VALUE, 0, 32, 1, 0⟩]⟩,
  ⟨.NS_BASE_HI, 0x0080020C, [], false, .ns,
    [⟨.NS_BASE_HI_VALUE, 0, 16, 1, 0⟩]⟩,
  ⟨.NS_SIZE_LO, 0x00800210, [], false, .ns,
    [⟨.NS_SIZE_LO_VALUE, 0, 32, 1, 0⟩]⟩,
  ⟨.NS_SIZE_HI, 0x00800214, [], false, .ns,
    [⟨.NS_SIZE_HI_VALUE, 0, 16, 1, 0⟩]⟩]

/-- Registers of chapter 05, tenants. -/
def regTable05a : List RegInfo := [
  ⟨.TN_GLB, 0x00A00000, [], false, .none,
    [⟨.TN_GLB_METER_EN, 31, 1, 1, 0⟩, ⟨.TN_GLB_OVH, 0, 7, 1, 0⟩]⟩,
  ⟨.TN_SEL, 0x00A00010, [], false, .none,
    [⟨.TN_SEL_TENANT, 0, 10, 1, 0⟩]⟩,
  ⟨.TN_CFG, 0x00A00014, [], false, .tenant,
    [⟨.TN_CFG_ENABLE, 31, 1, 1, 0⟩, ⟨.TN_CFG_POL_EN, 30, 1, 1, 0⟩, ⟨.TN_CFG_SHP_EN, 29, 1, 1, 0⟩, ⟨.TN_CFG_WEIGHT, 0, 8, 1, 0⟩]⟩,
  ⟨.TN_CIR, 0x00A00018, [], false, .tenant,
    [⟨.TN_CIR_RATE, 0, 24, 1, 0⟩]⟩,
  ⟨.TN_PIR, 0x00A0001C, [], false, .tenant,
    [⟨.TN_PIR_RATE, 0, 24, 1, 0⟩]⟩,
  ⟨.TN_SRATE, 0x00A00020, [], false, .tenant,
    [⟨.TN_SRATE_RATE, 0, 24, 1, 0⟩]⟩,
  ⟨.TN_CBS, 0x00A00024, [], false, .tenant,
    [⟨.TN_CBS_BURST, 0, 24, 1, 0⟩]⟩,
  ⟨.TN_PBS, 0x00A00028, [], false, .tenant,
    [⟨.TN_PBS_BURST, 0, 24, 1, 0⟩]⟩,
  ⟨.TN_SBURST, 0x00A0002C, [], false, .tenant,
    [⟨.TN_SBURST_BURST, 0, 24, 1, 0⟩]⟩,
  ⟨.TN_STAT, 0x00A00030, [], false, .tenant,
    [⟨.TN_STAT_ELIGIBLE, 31, 1, 1, 0⟩, ⟨.TN_STAT_OUTSTANDING, 0, 20, 1, 0⟩]⟩,
  ⟨.CLS_DL, 0x00A00104, [(3, 0x4)], false, .none,
    [⟨.CLS_DL_DL_US, 0, 24, 1, 0⟩]⟩,
  ⟨.BG_DL_DEG, 0x00A00110, [], false, .none,
    [⟨.BG_DL_DEG_DL_US, 0, 24, 1, 0⟩]⟩,
  ⟨.BG_DL_CRIT, 0x00A00114, [], false, .none,
    [⟨.BG_DL_CRIT_DL_US, 0, 24, 1, 0⟩]⟩,
  ⟨.NS_CLASS, 0x00A01000, [(256, 0x4)], false, .none,
    (List.range 16).map (fun k => ⟨.NS_CLASS_CLASS, 2 * k, 2, 16, k⟩)⟩,
  ⟨.HIST_SEL, 0x00A02000, [], false, .none,
    [⟨.HIST_SEL_KIND, 31, 1, 1, 0⟩, ⟨.HIST_SEL_TENANT, 2, 10, 1, 0⟩, ⟨.HIST_SEL_CLASS, 0, 2, 1, 0⟩]⟩,
  ⟨.HIST_BIN, 0x00A02080, [(32, 0x4)], false, .hist,
    [⟨.HIST_BIN_COUNT, 0, 32, 1, 0⟩]⟩]

/-- Registers of chapter 05, tenants. -/
def regTable05b : List RegInfo := [
  ⟨.MTR_KEY, 0x00A03000, [], false, .none,
    [⟨.MTR_KEY_PENDING, 31, 1, 1, 0⟩, ⟨.MTR_KEY_LOADED, 30, 1, 1, 0⟩, ⟨.MTR_KEY_KEY_ID, 0, 6, 1, 0⟩]⟩,
  ⟨.MTR_SEQ_LO, 0x00A03004, [], false, .none,
    [⟨.MTR_SEQ_LO_SEQ, 0, 32, 1, 0⟩]⟩,
  ⟨.MTR_SEQ_HI, 0x00A03008, [], false, .none,
    [⟨.MTR_SEQ_HI_SEQ, 0, 32, 1, 0⟩]⟩,
  ⟨.MTR_HEAD, 0x00A0300C, [], false, .none,
    [⟨.MTR_HEAD_INDEX, 0, 19, 1, 0⟩]⟩,
  ⟨.MTR_RDIDX, 0x00A03010, [], false, .none,
    [⟨.MTR_RDIDX_INDEX, 0, 19, 1, 0⟩]⟩,
  ⟨.MTR_EXP_CTL, 0x00A03020, [], false, .none,
    [⟨.MTR_EXP_CTL_EN, 31, 1, 1, 0⟩, ⟨.MTR_EXP_CTL_SIZE_LOG2, 0, 5, 1, 0⟩]⟩,
  ⟨.MTR_EXP_BASE_LO, 0x00A03024, [], false, .none,
    [⟨.MTR_EXP_BASE_LO_ADDR, 12, 20, 1, 0⟩]⟩,
  ⟨.MTR_EXP_BASE_HI, 0x00A03028, [], false, .none,
    [⟨.MTR_EXP_BASE_HI_ADDR, 0, 32, 1, 0⟩]⟩,
  ⟨.MTR_EXP_WR, 0x00A0302C, [], false, .none,
    [⟨.MTR_EXP_WR_INDEX, 0, 32, 1, 0⟩]⟩,
  ⟨.MTR_EXP_RD, 0x00A03030, [], false, .none,
    [⟨.MTR_EXP_RD_INDEX, 0, 32, 1, 0⟩]⟩,
  ⟨.MTR_LOST, 0x00A03034, [], false, .none,
    [⟨.MTR_LOST_COUNT, 0, 32, 1, 0⟩]⟩,
  ⟨.MTR_REC, 0x00A03100, [(32, 0x4)], false, .none,
    [⟨.MTR_REC_DATA, 0, 32, 1, 0⟩]⟩]

/-- Registers of chapter 06, switch. -/
def regTable06 : List RegInfo := [
  ⟨.SW_ALPHA, 0x00C00000, [], false, .none,
    [⟨.SW_ALPHA_K_URG, 12, 4, 1, 0⟩, ⟨.SW_ALPHA_K_LAT, 8, 4, 1, 0⟩, ⟨.SW_ALPHA_K_THR, 4, 4, 1, 0⟩, ⟨.SW_ALPHA_K_BG, 0, 4, 1, 0⟩]⟩,
  ⟨.SW_FREE, 0x00C00004, [], false, .none,
    [⟨.SW_FREE_FREE, 0, 20, 1, 0⟩]⟩,
  ⟨.SW_FREE_MIN, 0x00C00008, [], false, .none,
    [⟨.SW_FREE_MIN_MIN, 0, 20, 1, 0⟩]⟩,
  ⟨.SW_RSV, 0x00C0000C, [], false, .none,
    [⟨.SW_RSV_CELLS, 0, 20, 1, 0⟩]⟩,
  ⟨.SW_WATCH, 0x00C00010, [], false, .none,
    [⟨.SW_WATCH_FREE_LOW, 0, 20, 1, 0⟩]⟩,
  ⟨.SW_VOQ_SEL, 0x00C00100, [], false, .none,
    [⟨.SW_VOQ_SEL_INPUT, 6, 4, 1, 0⟩, ⟨.SW_VOQ_SEL_OUTPUT, 2, 4, 1, 0⟩, ⟨.SW_VOQ_SEL_CLASS, 0, 2, 1, 0⟩]⟩,
  ⟨.SW_VOQ_OCC, 0x00C00104, [], false, .voq,
    [⟨.SW_VOQ_OCC_CELLS, 0, 20, 1, 0⟩]⟩,
  ⟨.SW_VOQ_PEAK, 0x00C00108, [], false, .voq,
    [⟨.SW_VOQ_PEAK_CELLS, 0, 20, 1, 0⟩]⟩,
  ⟨.SW_VOQ_DROP, 0x00C0010C, [], false, .voq,
    [⟨.SW_VOQ_DROP_FRAMES, 0, 32, 1, 0⟩]⟩,
  ⟨.SW_IN_OCC, 0x00C00200, [(16, 0x4)], false, .none,
    [⟨.SW_IN_OCC_CELLS, 0, 20, 1, 0⟩]⟩,
  ⟨.SW_OUT_OCC, 0x00C00240, [(16, 0x4)], false, .none,
    [⟨.SW_OUT_OCC_CELLS, 0, 20, 1, 0⟩]⟩,
  ⟨.SW_CLS_OCC, 0x00C00280, [(4, 0x4)], false, .none,
    [⟨.SW_CLS_OCC_CELLS, 0, 20, 1, 0⟩]⟩]

/-- Registers of chapter 07, cipher. -/
def regTable07 : List RegInfo := [
  ⟨.CX_STAT, 0x00E00000, [], false, .none,
    [⟨.CX_STAT_RNG_OK, 3, 1, 1, 0⟩, ⟨.CX_STAT_KCV_SET, 2, 1, 1, 0⟩, ⟨.CX_STAT_SEALED, 1, 1, 1, 0⟩, ⟨.CX_STAT_KEK_READY, 0, 1, 1, 0⟩]⟩,
  ⟨.CX_SECRET, 0x00E00004, [], false, .none,
    [⟨.CX_SECRET_SEAL, 0, 1, 1, 0⟩]⟩,
  ⟨.KEY_SEL, 0x00E00010, [], false, .none,
    [⟨.KEY_SEL_KIND, 12, 2, 1, 0⟩, ⟨.KEY_SEL_INDEX, 0, 12, 1, 0⟩]⟩,
  ⟨.KEY_CMD, 0x00E00014, [], false, .key,
    [⟨.KEY_CMD_BUSY, 31, 1, 1, 0⟩, ⟨.KEY_CMD_DESTROY, 2, 1, 1, 0⟩, ⟨.KEY_CMD_IMPORT, 1, 1, 1, 0⟩, ⟨.KEY_CMD_GENERATE, 0, 1, 1, 0⟩]⟩,
  ⟨.KEY_STAT, 0x00E00018, [], false, .key,
    [⟨.KEY_STAT_STATE, 30, 2, 1, 0⟩, ⟨.KEY_STAT_GEN, 0, 30, 1, 0⟩]⟩,
  ⟨.KEY_USE, 0x00E0001C, [], false, .key,
    [⟨.KEY_USE_SIZE, 8, 1, 1, 0⟩, ⟨.KEY_USE_USE, 0, 2, 1, 0⟩]⟩,
  ⟨.KEY_DATA, 0x00E00040, [(18, 0x4)], false, .none,
    [⟨.KEY_DATA_DATA, 0, 32, 1, 0⟩]⟩,
  ⟨.ALM_CFG, 0x00E00100, [], false, .none,
    [⟨.ALM_CFG_EXT_POL, 1, 1, 1, 0⟩, ⟨.ALM_CFG_EXT_EN, 0, 1, 1, 0⟩]⟩,
  ⟨.ALM_STAT, 0x00E00104, [], false, .none,
    [⟨.ALM_STAT_SRC, 0, 6, 1, 0⟩]⟩,
  ⟨.OFL_CTL, 0x00E00200, [], false, .none,
    [⟨.OFL_CTL_EN, 31, 1, 1, 0⟩, ⟨.OFL_CTL_SIZE_LOG2, 0, 4, 1, 0⟩]⟩,
  ⟨.OFL_BASE_LO, 0x00E00204, [], false, .none,
    [⟨.OFL_BASE_LO_ADDR, 12, 20, 1, 0⟩]⟩,
  ⟨.OFL_BASE_HI, 0x00E00208, [], false, .none,
    [⟨.OFL_BASE_HI_ADDR, 0, 32, 1, 0⟩]⟩,
  ⟨.OFL_TAIL, 0x00E0020C, [], false, .none,
    [⟨.OFL_TAIL_INDEX, 0, 32, 1, 0⟩]⟩,
  ⟨.OFL_HEAD, 0x00E00210, [], false, .none,
    [⟨.OFL_HEAD_INDEX, 0, 32, 1, 0⟩]⟩]

/-- Registers of chapter 08, volumes. -/
def regTable08 : List RegInfo := [
  ⟨.VOL_SEL, 0x01000000, [(2, 0x1000000)], true, .none,
    [⟨.VOL_SEL_VOLUME, 0, 6, 1, 0⟩]⟩,
  ⟨.VOL_CFG, 0x01000004, [(2, 0x1000000)], true, .vol,
    [⟨.VOL_CFG_HOME, 31, 1, 1, 0⟩, ⟨.VOL_CFG_WIDTH, 16, 5, 1, 0⟩, ⟨.VOL_CFG_STRIP, 8, 4, 1, 0⟩, ⟨.VOL_CFG_MBS, 0, 1, 1, 0⟩]⟩,
  ⟨.VOL_CMD, 0x01000008, [(2, 0x1000000)], true, .vol,
    [⟨.VOL_CMD_DELETE, 1, 1, 1, 0⟩, ⟨.VOL_CMD_CREATE, 0, 1, 1, 0⟩]⟩,
  ⟨.VOL_STAT, 0x0100000C, [(2, 0x1000000)], true, .vol,
    [⟨.VOL_STAT_STATE, 28, 4, 1, 0⟩, ⟨.VOL_STAT_OWNER, 27, 1, 1, 0⟩, ⟨.VOL_STAT_CLEARING, 26, 1, 1, 0⟩, ⟨.VOL_STAT_RESHAPE, 25, 1, 1, 0⟩, ⟨.VOL_STAT_REDUND, 22, 2, 1, 0⟩, ⟨.VOL_STAT_PROGRESS, 0, 7, 1, 0⟩]⟩,
  ⟨.VOL_CAP_LO, 0x01000010, [(2, 0x1000000)], true, .vol,
    [⟨.VOL_CAP_LO_UNITS, 0, 32, 1, 0⟩]⟩,
  ⟨.VOL_CAP_HI, 0x01000014, [(2, 0x1000000)], true, .vol,
    [⟨.VOL_CAP_HI_UNITS, 0, 16, 1, 0⟩]⟩,
  ⟨.VOL_STRIPES, 0x01000018, [(2, 0x1000000)], true, .vol,
    [⟨.VOL_STRIPES_COUNT, 0, 32, 1, 0⟩]⟩,
  ⟨.VOL_MEMBER, 0x01000040, [(2, 0x1000000), (24, 0x4)], true, .vol,
    [⟨.VOL_MEMBER_USED, 31, 1, 1, 0⟩, ⟨.VOL_MEMBER_SLOT, 0, 5, 1, 0⟩]⟩,
  ⟨.SLOT_MSTATE, 0x01000100, [(2, 0x1000000), (24, 0x4)], true, .none,
    [⟨.SLOT_MSTATE_STATE, 28, 4, 1, 0⟩, ⟨.SLOT_MSTATE_VOLUME, 16, 6, 1, 0⟩, ⟨.SLOT_MSTATE_INDEX, 0, 5, 1, 0⟩]⟩,
  ⟨.BB_COUNT, 0x01000020, [(2, 0x1000000)], true, .vol,
    [⟨.BB_COUNT_COUNT, 0, 17, 1, 0⟩]⟩,
  ⟨.BB_SEL, 0x01000024, [(2, 0x1000000)], true, .vol,
    [⟨.BB_SEL_INDEX, 0, 16, 1, 0⟩]⟩,
  ⟨.BB_ENT_LO, 0x01000028, [(2, 0x1000000)], true, .vol,
    [⟨.BB_ENT_LO_ADDR, 0, 32, 1, 0⟩]⟩,
  ⟨.BB_ENT_HI, 0x0100002C, [(2, 0x1000000)], true, .vol,
    [⟨.BB_ENT_HI_LEN, 20, 12, 1, 0⟩, ⟨.BB_ENT_HI_ADDR, 0, 20, 1, 0⟩]⟩,
  ⟨.PAR_STAGE, 0x01000200, [(2, 0x1000000)], false, .none,
    [⟨.PAR_STAGE_ACC_BUSY, 16, 5, 1, 0⟩, ⟨.PAR_STAGE_STAGED_MIB, 0, 14, 1, 0⟩]⟩]

/-- Registers of chapter 09, ledger. -/
def regTable09a : List RegInfo := [
  ⟨.LDG_STAT, 0x01010000, [(2, 0x1000000)], true, .none,
    [⟨.LDG_STAT_RECOVERING, 31, 1, 1, 0⟩, ⟨.LDG_STAT_READONLY, 30, 1, 1, 0⟩, ⟨.LDG_STAT_WORN, 29, 1, 1, 0⟩, ⟨.LDG_STAT_HOT, 28, 1, 1, 0⟩, ⟨.LDG_STAT_REPOINTING, 27, 1, 1, 0⟩, ⟨.LDG_STAT_CLEAN, 26, 1, 1, 0⟩, ⟨.LDG_STAT_DIE_OK, 0, 4, 1, 0⟩]⟩,
  ⟨.LDG_RING, 0x01010004, [(2, 0x1000000)], false, .none,
    [⟨.LDG_RING_SEGS, 16, 12, 1, 0⟩, ⟨.LDG_RING_USED, 0, 12, 1, 0⟩]⟩,
  ⟨.LDG_RECORDS, 0x01010008, [(2, 0x1000000)], false, .none,
    [⟨.LDG_RECORDS_COUNT, 0, 20, 1, 0⟩]⟩,
  ⟨.LDG_SEQ_LO, 0x0101000C, [(2, 0x1000000)], false, .none,
    [⟨.LDG_SEQ_LO_SEQ, 0, 32, 1, 0⟩]⟩,
  ⟨.LDG_SEQ_HI, 0x01010010, [(2, 0x1000000)], false, .none,
    [⟨.LDG_SEQ_HI_SEQ, 0, 32, 1, 0⟩]⟩,
  ⟨.LDG_RESERVE, 0x01010014, [(2, 0x1000000)], true, .none,
    [⟨.LDG_RESERVE_PAIR1, 16, 11, 1, 0⟩, ⟨.LDG_RESERVE_PAIR0, 0, 11, 1, 0⟩]⟩,
  ⟨.LDG_CFG, 0x01010018, [(2, 0x1000000)], true, .none,
    [⟨.LDG_CFG_SEC_LAG, 16, 8, 1, 0⟩, ⟨.LDG_CFG_MAP_IDLE, 0, 16, 1, 0⟩]⟩,
  ⟨.LDG_TEMP, 0x0101001C, [(2, 0x1000000)], true, .none,
    [⟨.LDG_TEMP_PEAK24, 8, 8, 1, 0⟩, ⟨.LDG_TEMP_NOW, 0, 8, 1, 0⟩]⟩,
  ⟨.LDG_RP_STAT, 0x01010020, [(2, 0x1000000)], true, .none,
    [⟨.LDG_RP_STAT_INTERVAL, 24, 8, 1, 0⟩, ⟨.LDG_RP_STAT_PROGRESS, 0, 7, 1, 0⟩]⟩,
  ⟨.LDG_RP_LAST_LO, 0x01010024, [(2, 0x1000000)], true, .none,
    [⟨.LDG_RP_LAST_LO_TIME, 0, 32, 1, 0⟩]⟩,
  ⟨.LDG_RP_LAST_HI, 0x01010028, [(2, 0x1000000)], true, .none,
    [⟨.LDG_RP_LAST_HI_TIME, 0, 32, 1, 0⟩]⟩,
  ⟨.LDG_SEG_SEL, 0x01010040, [(2, 0x1000000)], true, .none,
    [⟨.LDG_SEG_SEL_SEGMENT, 0, 14, 1, 0⟩]⟩,
  ⟨.LDG_SEG_STAT, 0x01010044, [(2, 0x1000000)], true, .seg,
    [⟨.LDG_SEG_STAT_STATE, 30, 2, 1, 0⟩, ⟨.LDG_SEG_STAT_DIE, 28, 2, 1, 0⟩, ⟨.LDG_SEG_STAT_PHYS, 0, 12, 1, 0⟩]⟩,
  ⟨.LDG_SEG_WEAR_LO, 0x01010048, [(2, 0x1000000)], true, .seg,
    [⟨.LDG_SEG_WEAR_LO_WEAR, 0, 32, 1, 0⟩]⟩,
  ⟨.LDG_SEG_WEAR_HI, 0x0101004C, [(2, 0x1000000)], true, .seg,
    [⟨.LDG_SEG_WEAR_HI_WEAR, 0, 16, 1, 0⟩]⟩,
  ⟨.MAP_SEL, 0x01010080, [(2, 0x1000000)], true, .none,
    [⟨.MAP_SEL_VOLUME, 0, 6, 1, 0⟩]⟩]

/-- Registers of chapter 09, ledger. -/
def regTable09b : List RegInfo := [
  ⟨.MAP_WH, 0x01010084, [(2, 0x1000000)], true, .map,
    [⟨.MAP_WH_REGIONS, 0, 23, 1, 0⟩]⟩,
  ⟨.MAP_ABS, 0x01010088, [(2, 0x1000000)], true, .map,
    [⟨.MAP_ABS_REGIONS, 0, 23, 1, 0⟩]⟩,
  ⟨.MAP_HOSTS, 0x0101008C, [(2, 0x1000000)], true, .map,
    [⟨.MAP_HOSTS_SEC1, 25, 5, 1, 0⟩, ⟨.MAP_HOSTS_SEC0, 20, 5, 1, 0⟩, ⟨.MAP_HOSTS_MH2, 10, 5, 1, 0⟩, ⟨.MAP_HOSTS_MH1, 5, 5, 1, 0⟩, ⟨.MAP_HOSTS_MH0, 0, 5, 1, 0⟩]⟩]

/-- Registers of chapter 10, rebuild. -/
def regTable10 : List RegInfo := [
  ⟨.RB_CFG, 0x01020000, [(2, 0x1000000)], true, .none,
    [⟨.RB_CFG_AUTO, 31, 1, 1, 0⟩, ⟨.RB_CFG_MISS_TO, 0, 16, 1, 0⟩]⟩,
  ⟨.RB_RATE, 0x01020004, [(2, 0x1000000)], true, .none,
    [⟨.RB_RATE_RATE_CRIT, 16, 16, 1, 0⟩, ⟨.RB_RATE_RATE_DEG, 0, 16, 1, 0⟩]⟩,
  ⟨.SCRUB_CFG, 0x01020008, [(2, 0x1000000)], true, .none,
    [⟨.SCRUB_CFG_EN, 31, 1, 1, 0⟩, ⟨.SCRUB_CFG_INTERVAL, 0, 8, 1, 0⟩]⟩,
  ⟨.MEMBER_CMD, 0x0102000C, [(2, 0x1000000)], true, .none,
    [⟨.MEMBER_CMD_BUSY, 31, 1, 1, 0⟩, ⟨.MEMBER_CMD_FOREIGN_CLEAR, 7, 1, 1, 0⟩, ⟨.MEMBER_CMD_REPLACE, 6, 1, 1, 0⟩, ⟨.MEMBER_CMD_FAIL, 5, 1, 1, 0⟩, ⟨.MEMBER_CMD_SLOT, 0, 5, 1, 0⟩]⟩,
  ⟨.JOB_STAT, 0x01020010, [(2, 0x1000000)], true, .vol,
    [⟨.JOB_STAT_JOBS, 29, 3, 1, 0⟩, ⟨.JOB_STAT_RUN, 27, 2, 1, 0⟩, ⟨.JOB_STAT_PROGRESS, 0, 7, 1, 0⟩]⟩,
  ⟨.JOB_TGT, 0x01020014, [(2, 0x1000000)], true, .vol,
    [⟨.JOB_TGT_INDICES, 0, 24, 1, 0⟩]⟩,
  ⟨.JOB_RESYNC, 0x01020018, [(2, 0x1000000)], true, .vol,
    [⟨.JOB_RESYNC_INDICES, 0, 24, 1, 0⟩]⟩,
  ⟨.JOB_CUR_LO, 0x0102001C, [(2, 0x1000000)], true, .vol,
    [⟨.JOB_CUR_LO_UNIT, 0, 32, 1, 0⟩]⟩,
  ⟨.JOB_CUR_HI, 0x01020020, [(2, 0x1000000)], true, .vol,
    [⟨.JOB_CUR_HI_UNIT, 0, 16, 1, 0⟩]⟩,
  ⟨.RS_CFG, 0x01020040, [(2, 0x1000000)], true, .vol,
    [⟨.RS_CFG_NEW_WIDTH, 16, 5, 1, 0⟩, ⟨.RS_CFG_NEW_STRIP, 8, 4, 1, 0⟩]⟩,
  ⟨.RS_CMD, 0x01020044, [(2, 0x1000000)], true, .vol,
    [⟨.RS_CMD_STEP, 31, 1, 1, 0⟩, ⟨.RS_CMD_BACKUP, 30, 1, 1, 0⟩, ⟨.RS_CMD_PAUSE, 1, 1, 1, 0⟩, ⟨.RS_CMD_START, 0, 1, 1, 0⟩]⟩,
  ⟨.RS_BOUND_LO, 0x01020048, [(2, 0x1000000)], true, .vol,
    [⟨.RS_BOUND_LO_UNIT, 0, 32, 1, 0⟩]⟩,
  ⟨.RS_BOUND_HI, 0x0102004C, [(2, 0x1000000)], true, .vol,
    [⟨.RS_BOUND_HI_UNIT, 0, 16, 1, 0⟩]⟩,
  ⟨.SCRUB_LAST_LO, 0x01020050, [(2, 0x1000000)], true, .vol,
    [⟨.SCRUB_LAST_LO_TIME, 0, 32, 1, 0⟩]⟩,
  ⟨.SCRUB_LAST_HI, 0x01020054, [(2, 0x1000000)], true, .vol,
    [⟨.SCRUB_LAST_HI_TIME, 0, 32, 1, 0⟩]⟩,
  ⟨.RS_NEW, 0x01020080, [(2, 0x1000000), (24, 0x4)], true, .vol,
    [⟨.RS_NEW_USED, 31, 1, 1, 0⟩, ⟨.RS_NEW_SLOT, 0, 5, 1, 0⟩]⟩]

/-- Registers of chapter 11, drive ports and slots. -/
def regTable11 : List RegInfo := [
  ⟨.FEED_STAT, 0x0010F000, [], false, .none,
    [⟨.FEED_STAT_VB_MV, 16, 16, 1, 0⟩, ⟨.FEED_STAT_B_OK, 1, 1, 1, 0⟩, ⟨.FEED_STAT_A_OK, 0, 1, 1, 0⟩]⟩,
  ⟨.FEED_CFG, 0x0010F004, [], false, .none,
    [⟨.FEED_CFG_VA_MV, 16, 16, 1, 0⟩, ⟨.FEED_CFG_B_DIS, 1, 1, 1, 0⟩, ⟨.FEED_CFG_A_DIS, 0, 1, 1, 0⟩]⟩,
  ⟨.SLOT_CFG, 0x00100000, [(24, 0x100)], false, .none,
    [⟨.SLOT_CFG_AUTO_ON, 31, 1, 1, 0⟩, ⟨.SLOT_CFG_RETRY_MAX, 28, 3, 1, 0⟩, ⟨.SLOT_CFG_RETRY_S, 24, 4, 1, 0⟩, ⟨.SLOT_CFG_AUX_DLY, 16, 8, 1, 0⟩, ⟨.SLOT_CFG_SLOPE, 0, 7, 1, 0⟩]⟩,
  ⟨.SLOT_CMD, 0x00100004, [(24, 0x100)], false, .none,
    [⟨.SLOT_CMD_CYCLE, 2, 1, 1, 0⟩, ⟨.SLOT_CMD_OFF, 1, 1, 1, 0⟩, ⟨.SLOT_CMD_ON, 0, 1, 1, 0⟩]⟩,
  ⟨.SLOT_STAT, 0x00100008, [(24, 0x100)], false, .none,
    [⟨.SLOT_STAT_STATE, 28, 4, 1, 0⟩, ⟨.SLOT_STAT_PRSNT, 27, 1, 1, 0⟩, ⟨.SLOT_STAT_DIODE_B, 26, 1, 1, 0⟩, ⟨.SLOT_STAT_DIODE_A, 25, 1, 1, 0⟩, ⟨.SLOT_STAT_AUX_ON, 24, 1, 1, 0⟩, ⟨.SLOT_STAT_CAUSE, 20, 4, 1, 0⟩, ⟨.SLOT_STAT_RETRIES, 0, 4, 1, 0⟩]⟩,
  ⟨.SLOT_FT, 0x0010000C, [(24, 0x100)], false, .none,
    [⟨.SLOT_FT_FT_A, 20, 6, 1, 0⟩, ⟨.SLOT_FT_SENSE_UOHM, 0, 16, 1, 0⟩]⟩,
  ⟨.SLOT_CURVE, 0x00100020, [(24, 0x100), (8, 0x4)], false, .none,
    [⟨.SLOT_CURVE_CUR, 20, 12, 1, 0⟩, ⟨.SLOT_CURVE_TIME, 0, 20, 1, 0⟩]⟩,
  ⟨.SLOT_COOL, 0x00100040, [(24, 0x100)], false, .none,
    [⟨.SLOT_COOL_COOL, 0, 20, 1, 0⟩]⟩,
  ⟨.SLOT_MEAS, 0x00100044, [(24, 0x100)], false, .none,
    [⟨.SLOT_MEAS_V_MV, 16, 16, 1, 0⟩, ⟨.SLOT_MEAS_I_MA, 0, 16, 1, 0⟩]⟩,
  ⟨.SLOT_HOLD_V, 0x00100048, [(24, 0x100)], false, .none,
    [⟨.SLOT_HOLD_V_PEAK, 16, 16, 1, 0⟩, ⟨.SLOT_HOLD_V_MIN, 0, 16, 1, 0⟩]⟩,
  ⟨.SLOT_HOLD_I, 0x0010004C, [(24, 0x100)], false, .none,
    [⟨.SLOT_HOLD_I_PEAK, 16, 16, 1, 0⟩, ⟨.SLOT_HOLD_I_MIN, 0, 16, 1, 0⟩]⟩,
  ⟨.SLOT_AUX, 0x00100050, [(24, 0x100)], false, .none,
    [⟨.SLOT_AUX_I_MA, 0, 16, 1, 0⟩]⟩,
  ⟨.SLOT_ACC, 0x00100054, [(24, 0x100)], false, .none,
    [⟨.SLOT_ACC_ACC, 0, 25, 1, 0⟩]⟩,
  ⟨.DRV_CFG, 0x01030000, [(2, 0x1000000)], true, .none,
    [⟨.DRV_CFG_DUAL, 30, 2, 1, 0⟩, ⟨.DRV_CFG_WCE_OFF, 29, 1, 1, 0⟩, ⟨.DRV_CFG_LINK_TO, 16, 13, 1, 0⟩, ⟨.DRV_CFG_MCMD_TO, 0, 16, 1, 0⟩]⟩,
  ⟨.RP_STAT, 0x01030100, [(2, 0x1000000), (48, 0x10)], true, .none,
    [⟨.RP_STAT_LINK_UP, 31, 1, 1, 0⟩, ⟨.RP_STAT_READY, 30, 1, 1, 0⟩, ⟨.RP_STAT_FMT_BAD, 29, 1, 1, 0⟩, ⟨.RP_STAT_VWC, 28, 1, 1, 0⟩, ⟨.RP_STAT_DISABLED, 27, 1, 1, 0⟩, ⟨.RP_STAT_RATE, 16, 4, 1, 0⟩, ⟨.RP_STAT_WIDTH, 8, 3, 1, 0⟩, ⟨.RP_STAT_QUEUES, 0, 5, 1, 0⟩]⟩,
  ⟨.RP_CTL, 0x01030104, [(2, 0x1000000), (48, 0x10)], true, .none,
    [⟨.RP_CTL_RETRAIN, 0, 1, 1, 0⟩]⟩]

/-- Registers of chapter 12, DMA. -/
def regTable12 : List RegInfo := [
  ⟨.CH_CTL, 0x03000000, [(128, 0x1000)], false, .none,
    [⟨.CH_CTL_EN, 31, 1, 1, 0⟩, ⟨.CH_CTL_BG, 30, 1, 1, 0⟩, ⟨.CH_CTL_CLASS, 28, 2, 1, 0⟩, ⟨.CH_CTL_NOSNOOP, 27, 1, 1, 0⟩, ⟨.CH_CTL_IRQ, 26, 1, 1, 0⟩, ⟨.CH_CTL_VEC, 0, 11, 1, 0⟩]⟩,
  ⟨.CH_TRIG, 0x03000004, [(128, 0x1000)], false, .none,
    [⟨.CH_TRIG_SEL, 30, 2, 1, 0⟩, ⟨.CH_TRIG_CHAIN, 16, 7, 1, 0⟩, ⟨.CH_TRIG_PERIOD, 0, 16, 1, 0⟩]⟩,
  ⟨.CH_QUANTUM, 0x03000008, [(128, 0x1000)], false, .none,
    [⟨.CH_QUANTUM_UNITS, 6, 26, 1, 0⟩]⟩,
  ⟨.CH_SRC_LO, 0x03000010, [(128, 0x1000)], false, .none,
    [⟨.CH_SRC_LO_ADDR, 0, 32, 1, 0⟩]⟩,
  ⟨.CH_SRC_HI, 0x03000014, [(128, 0x1000)], false, .none,
    [⟨.CH_SRC_HI_ADDR, 0, 32, 1, 0⟩]⟩,
  ⟨.CH_DST_LO, 0x03000018, [(128, 0x1000)], false, .none,
    [⟨.CH_DST_LO_ADDR, 0, 32, 1, 0⟩]⟩,
  ⟨.CH_DST_HI, 0x0300001C, [(128, 0x1000)], false, .none,
    [⟨.CH_DST_HI_ADDR, 0, 32, 1, 0⟩]⟩,
  ⟨.CH_LEN, 0x03000020, [(128, 0x1000)], false, .none,
    [⟨.CH_LEN_BYTES, 0, 32, 1, 0⟩]⟩,
  ⟨.CH_MODE, 0x03000024, [(128, 0x1000)], false, .none,
    [⟨.CH_MODE_SRC_SG, 31, 1, 1, 0⟩, ⟨.CH_MODE_DST_SG, 30, 1, 1, 0⟩, ⟨.CH_MODE_SRC_SPACE, 24, 4, 1, 0⟩, ⟨.CH_MODE_DST_SPACE, 20, 4, 1, 0⟩]⟩,
  ⟨.CH_NENT, 0x03000028, [(128, 0x1000)], false, .none,
    [⟨.CH_NENT_SRC_N, 16, 16, 1, 0⟩, ⟨.CH_NENT_DST_N, 0, 16, 1, 0⟩]⟩,
  ⟨.CH_DOORBELL, 0x0300002C, [(128, 0x1000)], false, .none,
    [⟨.CH_DOORBELL_GO, 0, 1, 1, 0⟩]⟩,
  ⟨.CH_STAT, 0x03000030, [(128, 0x1000)], false, .none,
    [⟨.CH_STAT_STATE, 28, 4, 1, 0⟩, ⟨.CH_STAT_SH_FULL, 27, 1, 1, 0⟩, ⟨.CH_STAT_ERR, 16, 4, 1, 0⟩, ⟨.CH_STAT_ENTRY, 0, 16, 1, 0⟩]⟩,
  ⟨.CH_REMAIN, 0x03000034, [(128, 0x1000)], false, .none,
    [⟨.CH_REMAIN_BYTES, 0, 32, 1, 0⟩]⟩,
  ⟨.CH_DONE, 0x03000038, [(128, 0x1000)], false, .none,
    [⟨.CH_DONE_COUNT, 0, 32, 1, 0⟩]⟩,
  ⟨.CH_ERR_ADDR_LO, 0x03000040, [(128, 0x1000)], false, .none,
    [⟨.CH_ERR_ADDR_LO_ADDR, 0, 32, 1, 0⟩]⟩,
  ⟨.CH_ERR_ADDR_HI, 0x03000044, [(128, 0x1000)], false, .none,
    [⟨.CH_ERR_ADDR_HI_ADDR, 0, 32, 1, 0⟩]⟩]

/-- Registers of chapter 13, endpoint. -/
def regTable13 : List RegInfo := [
  ⟨.EP_STAT, 0x03C00000, [], false, .none,
    [⟨.EP_STAT_LINK_UP, 31, 1, 1, 0⟩, ⟨.EP_STAT_FLIT, 30, 1, 1, 0⟩, ⟨.EP_STAT_RATE, 16, 4, 1, 0⟩, ⟨.EP_STAT_WIDTH, 8, 5, 1, 0⟩]⟩,
  ⟨.EP_CFG, 0x03C00004, [], false, .none,
    [⟨.EP_CFG_SSID, 16, 16, 1, 0⟩, ⟨.EP_CFG_PRIV, 0, 1, 1, 0⟩]⟩,
  ⟨.EP_RO, 0x03C00008, [], false, .none,
    [⟨.EP_RO_AP_CPL, 5, 1, 1, 0⟩, ⟨.EP_RO_DMA_RD, 4, 1, 1, 0⟩, ⟨.EP_RO_DMA_WR, 3, 1, 1, 0⟩, ⟨.EP_RO_NV_SQ, 2, 1, 1, 0⟩, ⟨.EP_RO_NV_RD, 1, 1, 1, 0⟩, ⟨.EP_RO_NV_WR, 0, 1, 1, 0⟩]⟩,
  ⟨.EP_VEC, 0x03C0000C, [], false, .none,
    [⟨.EP_VEC_PF0_VEC, 16, 12, 1, 0⟩, ⟨.EP_VEC_VF_VEC, 0, 5, 1, 0⟩]⟩,
  ⟨.EP_FN_SEL, 0x03C00010, [], false, .none,
    [⟨.EP_FN_SEL_FN, 0, 7, 1, 0⟩]⟩,
  ⟨.EP_FN_CFG, 0x03C00014, [], false, .fn,
    [⟨.EP_FN_CFG_EN, 31, 1, 1, 0⟩, ⟨.EP_FN_CFG_HOST, 0, 10, 1, 0⟩]⟩,
  ⟨.EP_FN_STAT, 0x03C00018, [], false, .fn,
    [⟨.EP_FN_STAT_BME, 31, 1, 1, 0⟩, ⟨.EP_FN_STAT_FLR, 30, 1, 1, 0⟩, ⟨.EP_FN_STAT_CFS, 29, 1, 1, 0⟩, ⟨.EP_FN_STAT_RDY, 28, 1, 1, 0⟩, ⟨.EP_FN_STAT_IOQ, 0, 9, 1, 0⟩]⟩,
  ⟨.EP_IRQ_SRC, 0x03C00040, [(3, 0x4)], false, .none,
    [⟨.EP_IRQ_SRC_EN, 31, 1, 1, 0⟩, ⟨.EP_IRQ_SRC_VEC, 0, 11, 1, 0⟩]⟩,
  ⟨.EP_WIN, 0x03C00100, [(16, 0x4)], false, .none,
    [⟨.EP_WIN_EN, 31, 1, 1, 0⟩, ⟨.EP_WIN_WRITE, 30, 1, 1, 0⟩, ⟨.EP_WIN_READ, 29, 1, 1, 0⟩, ⟨.EP_WIN_STACK, 8, 1, 1, 0⟩, ⟨.EP_WIN_UNIT, 0, 5, 1, 0⟩]⟩]

/-- Registers of chapter 14, dictionary. -/
def regTable14 : List RegInfo := [
  ⟨.MG_OBJ, 0x00002000, [], false, .none,
    [⟨.MG_OBJ_INDEX, 16, 16, 1, 0⟩, ⟨.MG_OBJ_SUB, 8, 8, 1, 0⟩]⟩,
  ⟨.MG_OFFSET, 0x00002004, [], false, .none,
    [⟨.MG_OFFSET_OFFSET, 0, 32, 1, 0⟩]⟩,
  ⟨.MG_CTL, 0x00002008, [], false, .none,
    [⟨.MG_CTL_GO, 31, 1, 1, 0⟩, ⟨.MG_CTL_WRITE, 30, 1, 1, 0⟩, ⟨.MG_CTL_LENGTH, 0, 11, 1, 0⟩]⟩,
  ⟨.MG_ABORT, 0x0000200C, [], false, .none,
    [⟨.MG_ABORT_CODE, 0, 32, 1, 0⟩]⟩,
  ⟨.MG_DATA, 0x00002100, [(256, 0x4)], false, .none,
    [⟨.MG_DATA_DATA, 0, 32, 1, 0⟩]⟩]

/-- Registers of chapter 15, recorder. -/
def regTable15a : List RegInfo := [
  ⟨.EV_STAT, 0x03400000, [], false, .none,
    [⟨.EV_STAT_FULL, 31, 1, 1, 0⟩, ⟨.EV_STAT_BUFFERING, 30, 1, 1, 0⟩, ⟨.EV_STAT_SLOTS, 0, 19, 1, 0⟩]⟩,
  ⟨.EV_HEAD, 0x03400004, [], false, .none,
    [⟨.EV_HEAD_SLOT, 0, 18, 1, 0⟩]⟩,
  ⟨.EV_SEQ_LO, 0x03400008, [], false, .none,
    [⟨.EV_SEQ_LO_SEQ, 0, 32, 1, 0⟩]⟩,
  ⟨.EV_SEQ_HI, 0x0340000C, [], false, .none,
    [⟨.EV_SEQ_HI_SEQ, 0, 32, 1, 0⟩]⟩,
  ⟨.EV_COUNT, 0x03400010, [(5, 0x4)], false, .none,
    [⟨.EV_COUNT_RECORDS, 0, 19, 1, 0⟩]⟩,
  ⟨.EV_DROP, 0x03400030, [(5, 0x4)], false, .none,
    [⟨.EV_DROP_EVENTS, 0, 32, 1, 0⟩]⟩,
  ⟨.EV_RDIDX, 0x03400100, [], false, .none,
    [⟨.EV_RDIDX_SLOT, 0, 18, 1, 0⟩]⟩,
  ⟨.EV_REC, 0x03400140, [(16, 0x4)], false, .none,
    [⟨.EV_REC_DATA, 0, 32, 1, 0⟩]⟩,
  ⟨.EV_IRQ, 0x03400200, [], false, .none,
    [⟨.EV_IRQ_MIN, 16, 3, 1, 0⟩, ⟨.EV_IRQ_HOLDOFF, 0, 16, 1, 0⟩]⟩,
  ⟨.CNT_CTL, 0x03800000, [], false, .none,
    [⟨.CNT_CTL_EN, 31, 1, 1, 0⟩, ⟨.CNT_CTL_STACK, 8, 1, 1, 0⟩, ⟨.CNT_CTL_SIZE_LOG2, 0, 4, 1, 0⟩]⟩,
  ⟨.CNT_SNAP_LO, 0x03800004, [], false, .none,
    [⟨.CNT_SNAP_LO_SNAP, 0, 32, 1, 0⟩]⟩,
  ⟨.CNT_SNAP_HI, 0x03800008, [], false, .none,
    [⟨.CNT_SNAP_HI_SNAP, 0, 32, 1, 0⟩]⟩,
  ⟨.CNT_CSEL, 0x03800010, [], false, .none,
    [⟨.CNT_CSEL_REGION, 8, 5, 1, 0⟩, ⟨.CNT_CSEL_CLUSTER, 0, 8, 1, 0⟩]⟩,
  ⟨.CNT_CFG, 0x03800014, [(4, 0x4)], false, .csel,
    [⟨.CNT_CFG_MODE, 30, 2, 1, 0⟩, ⟨.CNT_CFG_CODE, 16, 8, 1, 0⟩, ⟨.CNT_CFG_THRESH, 0, 16, 1, 0⟩]⟩,
  ⟨.CNT_LIVE_LO, 0x03800030, [(4, 0x8)], false, .csel,
    [⟨.CNT_LIVE_LO_VALUE, 0, 32, 1, 0⟩]⟩,
  ⟨.CNT_LIVE_HI, 0x03800034, [(4, 0x8)], false, .csel,
    [⟨.CNT_LIVE_HI_VALUE, 0, 16, 1, 0⟩]⟩]

/-- Registers of chapter 15, recorder. -/
def regTable15b : List RegInfo := [
  ⟨.REGION_FIRST, 0x03800100, [(23, 0x4)], false, .none,
    [⟨.REGION_FIRST_COUNT, 16, 8, 1, 0⟩, ⟨.REGION_FIRST_FIRST, 0, 9, 1, 0⟩]⟩,
  ⟨.SMP_CTL, 0x03800200, [], false, .none,
    [⟨.SMP_CTL_EN, 31, 1, 1, 0⟩, ⟨.SMP_CTL_STOP, 30, 1, 1, 0⟩, ⟨.SMP_CTL_MATCH, 28, 2, 1, 0⟩, ⟨.SMP_CTL_PERIOD, 0, 16, 1, 0⟩]⟩,
  ⟨.SMP_MATCH, 0x03800204, [], false, .none,
    [⟨.SMP_MATCH_VALUE, 0, 13, 1, 0⟩]⟩,
  ⟨.SMP_STAT, 0x03800208, [], false, .none,
    [⟨.SMP_STAT_STOPPED, 31, 1, 1, 0⟩, ⟨.SMP_STAT_HEAD, 0, 20, 1, 0⟩]⟩,
  ⟨.CNT_WIN_SEL, 0x03800300, [], false, .none,
    [⟨.CNT_WIN_SEL_BUF, 31, 1, 1, 0⟩, ⟨.CNT_WIN_SEL_OFFSET, 0, 24, 1, 0⟩]⟩,
  ⟨.CNT_WIN_DATA, 0x03800340, [(16, 0x4)], false, .none,
    [⟨.CNT_WIN_DATA_DATA, 0, 32, 1, 0⟩]⟩]

/-- Registers of chapter 16, ownership. -/
def regTable16 : List RegInfo := [
  ⟨.OWN_CFG, 0x00200000, [], false, .none,
    [⟨.OWN_CFG_AUTO_BACK, 31, 1, 1, 0⟩, ⟨.OWN_CFG_QUOIN_TO, 0, 16, 1, 0⟩]⟩,
  ⟨.OWN_STAT, 0x00200004, [], false, .none,
    [⟨.OWN_STAT_PE_HB, 31, 1, 1, 0⟩, ⟨.OWN_STAT_PW_HB, 30, 1, 1, 0⟩, ⟨.OWN_STAT_PE_FENCED, 29, 1, 1, 0⟩, ⟨.OWN_STAT_PW_FENCED, 28, 1, 1, 0⟩, ⟨.OWN_STAT_DISPUTE, 27, 1, 1, 0⟩]⟩,
  ⟨.OWN_CMD, 0x00200008, [], false, .none,
    [⟨.OWN_CMD_UNFENCE, 1, 1, 1, 0⟩, ⟨.OWN_CMD_GIVEBACK, 0, 1, 1, 0⟩]⟩,
  ⟨.OWN_SLOT, 0x00200100, [(24, 0x4)], false, .none,
    [⟨.OWN_SLOT_OWNER, 31, 1, 1, 0⟩, ⟨.OWN_SLOT_EPOCH, 0, 31, 1, 0⟩]⟩,
  ⟨.OWN_VOL, 0x00200200, [(64, 0x4)], false, .none,
    [⟨.OWN_VOL_OWNER, 31, 1, 1, 0⟩, ⟨.OWN_VOL_EPOCH, 0, 31, 1, 0⟩]⟩,
  ⟨.OWN_PVOL, 0x00200300, [(64, 0x4)], false, .none,
    [⟨.OWN_PVOL_PKG, 30, 2, 1, 0⟩, ⟨.OWN_PVOL_PEPOCH, 0, 30, 1, 0⟩]⟩,
  ⟨.BOND_CFG, 0x00201000, [(2, 0x100)], false, .none,
    [⟨.BOND_CFG_EN, 31, 1, 1, 0⟩, ⟨.BOND_CFG_SHED_EN, 30, 1, 1, 0⟩, ⟨.BOND_CFG_MIRROR, 29, 1, 1, 0⟩, ⟨.BOND_CFG_MIN_WIDTH, 27, 2, 1, 0⟩, ⟨.BOND_CFG_KEY_ID, 0, 6, 1, 0⟩]⟩,
  ⟨.BOND_STAT, 0x00201004, [(2, 0x100)], false, .none,
    [⟨.BOND_STAT_UP, 31, 1, 1, 0⟩, ⟨.BOND_STAT_PEER_HB, 30, 1, 1, 0⟩, ⟨.BOND_STAT_WIDTH, 28, 2, 1, 0⟩, ⟨.BOND_STAT_PEER_IDX, 26, 2, 1, 0⟩]⟩]

/-- Registers of chapter 17, modes. -/
def regTable17 : List RegInfo := [
  ⟨.MODE_CMD, 0x00000030, [], false, .none,
    [⟨.MODE_CMD_RECOMMISSION, 4, 1, 1, 0⟩, ⟨.MODE_CMD_SHUTDOWN, 3, 1, 1, 0⟩, ⟨.MODE_CMD_RESUME, 2, 1, 1, 0⟩, ⟨.MODE_CMD_QUIESCE, 1, 1, 1, 0⟩, ⟨.MODE_CMD_SERVE, 0, 1, 1, 0⟩]⟩,
  ⟨.MODE_STAT, 0x00000034, [], false, .none,
    [⟨.MODE_STAT_COMMISSIONED, 31, 1, 1, 0⟩, ⟨.MODE_STAT_DRAINED, 30, 1, 1, 0⟩, ⟨.MODE_STAT_START_MS, 0, 16, 1, 0⟩]⟩,
  ⟨.FW_STAT, 0x00003000, [], false, .none,
    [⟨.FW_STAT_RUN_SLOT, 31, 1, 1, 0⟩, ⟨.FW_STAT_TRIAL, 30, 1, 1, 0⟩, ⟨.FW_STAT_IMG_OK_A, 29, 1, 1, 0⟩, ⟨.FW_STAT_IMG_OK_B, 28, 1, 1, 0⟩, ⟨.FW_STAT_CHANGE, 24, 4, 1, 0⟩]⟩,
  ⟨.FW_CMD, 0x00003004, [], false, .none,
    [⟨.FW_CMD_ACTIVATE, 0, 1, 1, 0⟩]⟩,
  ⟨.FW_VER_RUN, 0x00003008, [], false, .none,
    [⟨.FW_VER_RUN_VERSION, 0, 32, 1, 0⟩]⟩,
  ⟨.FW_VER_A, 0x0000300C, [], false, .none,
    [⟨.FW_VER_A_VERSION, 0, 32, 1, 0⟩]⟩,
  ⟨.FW_VER_B, 0x00003010, [], false, .none,
    [⟨.FW_VER_B_VERSION, 0, 32, 1, 0⟩]⟩,
  ⟨.FW_CFG, 0x00003014, [], false, .none,
    [⟨.FW_CFG_CONFIRM_S, 0, 16, 1, 0⟩]⟩]

/-- Registers of chapter 18, package. -/
def regTable18 : List RegInfo := [
  ⟨.PWR_RAIL, 0x0010E000, [(10, 0x4)], false, .none,
    [⟨.PWR_RAIL_PG, 31, 1, 1, 0⟩, ⟨.PWR_RAIL_ON, 30, 1, 1, 0⟩, ⟨.PWR_RAIL_ADDR, 16, 7, 1, 0⟩, ⟨.PWR_RAIL_VOUT_MV, 0, 16, 1, 0⟩]⟩,
  ⟨.PWR_IOUT, 0x0010E040, [(10, 0x4)], false, .none,
    [⟨.PWR_IOUT_POUT, 16, 16, 1, 0⟩, ⟨.PWR_IOUT_IOUT, 0, 16, 1, 0⟩]⟩,
  ⟨.DIE_TEMP, 0x0010E080, [(20, 0x4)], false, .none,
    [⟨.DIE_TEMP_PEAK, 16, 16, 1, 0⟩, ⟨.DIE_TEMP_NOW, 0, 16, 1, 0⟩]⟩,
  ⟨.THERM_CFG, 0x0010E0C0, [], false, .none,
    [⟨.THERM_CFG_WARN, 0, 8, 1, 0⟩]⟩,
  ⟨.CLK_CFG, 0x0010E0C4, [], false, .none,
    [⟨.CLK_CFG_XSPI_SS, 1, 1, 1, 0⟩, ⟨.CLK_CFG_MG_SS, 0, 1, 1, 0⟩]⟩,
  ⟨.CLK_STAT, 0x0010E0C8, [], false, .none,
    [⟨.CLK_STAT_PRESENT, 0, 7, 1, 0⟩]⟩]

/-- Every register of the control space (01 R46). -/
def regTable : List RegInfo :=
  regTable01 ++ regTable02a ++ regTable02b ++ regTable03 ++ regTable04 ++ regTable05a ++ regTable05b ++ regTable06 ++ regTable07 ++ regTable08 ++
  regTable09a ++
  regTable09b ++ regTable10 ++ regTable11 ++ regTable12 ++ regTable13 ++ regTable14 ++ regTable15a ++ regTable15b ++ regTable16 ++ regTable17 ++ regTable18

end Sys2Proof.Machine
end

