-- ==== Sys2Proof/Machine/Table.lean ====
section
/-!
DEFINITION. Sparse tables: lists of (key, value) pairs with strictly rising keys and no entry equal to the default,
so that equal tables are equal data. Every per-entity part of the state is one of these.
-/
namespace Sys2Proof.Machine

/-- A sparse table from numbers to values; what an unlisted key holds is the table's default, named where it is read. -/
abbrev Table (α : Type) := List (Nat × α)

/-- The entry at key `k`, if listed. -/
def Table.find {α : Type} : Table α → Nat → Option α
  | [], _ => none
  | (k', v) :: t, k => if k' = k then some v else Table.find t k

/-- The value at key `k`, `d` where nothing is listed. -/
def Table.get {α : Type} (t : Table α) (d : α) (k : Nat) : α := (t.find k).getD d

/-- The table with `v` listed at `k`, in key order. -/
def Table.insert {α : Type} : Table α → Nat → α → Table α
  | [], k, v => [(k, v)]
  | (k', v') :: t, k, v =>
    if k < k' then (k, v) :: (k', v') :: t
    else if k = k' then (k, v) :: t
    else (k', v') :: Table.insert t k v

/-- The table without key `k`. -/
def Table.erase {α : Type} : Table α → Nat → Table α
  | [], _ => []
  | (k', v') :: t, k => if k' = k then Table.erase t k else (k', v') :: Table.erase t k

/-- The table whose value at `k` is `v`; a default value is not listed. -/
def Table.put {α : Type} [DecidableEq α] (t : Table α) (d : α) (k : Nat) (v : α) : Table α :=
  if v = d then t.erase k else t.insert k v

/-- The table with the value at `k` changed by `f`. -/
def Table.update {α : Type} [DecidableEq α] (t : Table α) (d : α) (k : Nat) (f : α → α) : Table α :=
  t.put d k (f (t.get d k))

/-- Keys listed, rising. -/
def Table.keys {α : Type} (t : Table α) : List Nat := t.map Prod.fst

/-- The table with every listed value changed by `f` (results equal to `d` stay out). -/
def Table.mapValues {α : Type} [DecidableEq α] (t : Table α) (d : α) (f : Nat → α → α) : Table α :=
  (t.map (fun e => (e.1, f e.1 e.2))).filter (fun e => decide (e.2 ≠ d))

/-- All keys of `t` are above `k`. -/
def Table.above {α : Type} (k : Nat) : Table α → Bool
  | [] => true
  | (k', _) :: t => decide (k < k') && Table.above k t

/-- The canonical form: keys strictly rising, no entry equal to the default. -/
def Table.wf {α : Type} [DecidableEq α] (d : α) : Table α → Bool
  | [] => true
  | (k, v) :: t => decide (v ≠ d) && Table.above k t && Table.wf d t

/-- `x` put into a list before the first element it is not after. -/
def insertBy {α : Type} (le : α → α → Bool) (x : α) : List α → List α
  | [] => [x]
  | y :: l => if le x y then x :: y :: l else y :: insertBy le x l

/-- A list in rising order; equals keep their order. -/
def sortBy {α : Type} (le : α → α → Bool) (l : List α) : List α := l.foldr (insertBy le) []

/-- Numbers in rising order. -/
def sortNat (l : List Nat) : List Nat := sortBy (fun a b => decide (a ≤ b)) l

end Sys2Proof.Machine
end

