-- ==== Sys2Proof/Machine/TypesCipher.lean ====
section
/-!
DEFINITION. State of the cipher engine and the key custody (07).
-/
namespace Sys2Proof.Machine

/-- One copy of a slot in the ledger's wrapped-key partition (07 Slot entry): GEN, the key-encryption key it is wrapped
under, the key it wraps, its integrity, USE and SIZE. Keys are named by numbers (07 R276; assumption 7). -/
structure KeyCopy where
  gen : Nat := 0
  kek : List Byte := []
  key : Nat := 0
  ok : Bool := true
  use : Nat := 2
  size : Nat := 1
  deriving DecidableEq, Repr

/-- The wrapped-key partition (07 Wrapped-key copy): KCV, SEALED_CS and slots of copies A and B, the SEAL flag, and the
training count of each bond link (R303). It outlives resets and power losses. -/
structure WrappedKeys where
  kcvA : Option (List Byte) := none
  kcvB : Option (List Byte) := none
  sealedA : Option (List Byte) := none
  sealedB : Option (List Byte) := none
  slotsA : Table KeyCopy := []
  slotsB : Table KeyCopy := []
  training : Table Nat := []
  deriving DecidableEq, Repr

/-- States of a key slot (07 R277, KEY_STAT.STATE). -/
inductive KeyState where
  | empty | loaded | destroying | unreadable
  deriving DecidableEq, Repr

/-- KEY_STAT.STATE code. -/
def KeyState.code : KeyState → Nat
  | .empty => 0 | .loaded => 1 | .destroying => 2 | .unreadable => 3

/-- A command running on a slot (07 R283, R284): a key to be stored, or a destroy. -/
inductive KeyRun where
  | store (key : Nat)
  | destroy
  deriving DecidableEq, Repr

/-- A slot of the key stores (07 R277). -/
structure KeySlot where
  state : KeyState := .empty
  key : Nat := 0
  use : Nat := 2
  size : Nat := 1
  running : Option KeyRun := none
  deriving DecidableEq, Repr

/-- An offload job: the descriptor taken at an index of the ring, and the key it read, none where the slot held no OFFLOAD
key (07 R270, R280, R308). -/
structure OffloadJob where
  index : Nat
  desc : OffloadDesc
  key : Option Nat
  deriving DecidableEq, Repr

/-- Custody and offload (07). `cs` and `kek` are Plinth's; `ready` is KEK_READY; `alarms` is ALM_STAT.SRC; `dipAt` the tick of
an under-voltage being judged (R294). Slots are keyed kind * 4096 + index. -/
structure Custody where
  cs : Option (List Byte) := none
  kek : Option (List Byte) := none
  ready : Bool := false
  rngOk : Bool := false
  slots : Table KeySlot := []
  wrapped : WrappedKeys := {}
  alarms : Nat := 0
  dipAt : Option Nat := none
  jobs : List OffloadJob := []
  finished : List Nat := []
  taken : Nat := 0
  head : Nat := 0
  deriving DecidableEq, Repr

end Sys2Proof.Machine
end

