-- ==== Sys2Proof/Machine/TypesPlinth.lean ====
section
/-!
DEFINITION. State of the architecture (01), the modes and the firmware (17), the package (18) and the event recorder and
counters (15).
-/
namespace Sys2Proof.Machine

/-- The logic dies (01, Dies in the package): PE and PW the piers, LN the network die, PL Plinth. -/
inductive Die where
  | pe | pw | ln | pl
  deriving DecidableEq, Repr

/-- One occurrence of an event (15 R590): its stamp on its die, the event, its cause code, its packed detail, and whether
it was stamped before device time was loaded (R589 EARLY). -/
structure Occ where
  stamp : Nat
  die : Die
  id : Nat
  code : Nat
  detail : List Byte
  early : Bool
  deriving DecidableEq, Repr

/-- The event queues of the dies (15 R599), oldest first. PE, PW and LN hold 64 each; Plinth's reach the controller. -/
structure EventQueues where
  pe : List Occ
  pw : List Occ
  ln : List Occ
  pl : List Occ
  deriving DecidableEq, Repr

/-- A region (01 R19-R31): isolation, self-test, clusters in reset, recent cluster resets (cluster, tick), pace gauge. -/
structure Region where
  isolated : Bool := false
  testing : Bool := false
  isoCause : Nat := 0
  resets : Nat := 0
  inReset : List Nat := []
  recent : List (Nat × Nat) := []
  pacePs : Nat := 0
  paceMax : Nat := 0
  badWindows : Nat := 0
  gaugeFrom : Nat := 0
  deriving DecidableEq, Repr

/-- A seam (01 R25-R27, R701). `bad` counts the failed transmissions of the flit being carried. -/
structure Seam where
  up : Bool := false
  down : Bool := false
  everUp : Bool := false
  replays : Nat := 0
  bad : Nat := 0
  downAt : Nat := 0
  training : Bool := false
  deriving DecidableEq, Repr

/-- A rail: governor state of rails 0-2 (01 R32-R35) and supply state of rails 0-9 (18 PWR_RAIL, PWR_IOUT, R679-R681).
`judged` that glitch limits apply (07 R295). `asked` is the voltage of a VOUT_COMMAND not yet acknowledged; `failing` that the last transaction failed. -/
structure Rail where
  voutCmd : Nat := 0
  asked : Option Nat := none
  askedAt : Nat := 0
  failing : Bool := false
  retryAt : Nat := 0
  unmet : Bool := false
  slow : Bool := false
  on : Bool := false
  judged : Bool := false
  pg : Bool := false
  readMv : Nat := 0
  iout : Nat := 0
  pout : Nat := 0
  deriving DecidableEq, Repr

/-- The architecture's state (01): regions, seams, rails, and the drift each die's copy of device time has from Plinth's. -/
structure Arch where
  regions : Table Region := []
  seams : Table Seam := []
  rails : Table Rail := []
  clusterGo : Option (Nat × Nat) := none
  offPE : Int := 0
  offPW : Int := 0
  offLN : Int := 0
  deriving DecidableEq, Repr

/-- The modes of the device (17, table Modes). -/
inductive Mode where
  | dormant | commission | service | contained | quiesce | safe
  deriving DecidableEq, Repr

/-- GLB_MODE.MODE code of a mode (01 GLB_MODE). -/
def Mode.code : Mode → Nat
  | .dormant => 0 | .commission => 1 | .service => 2 | .contained => 3 | .quiesce => 4 | .safe => 5

/-- Conditions that hold without a break: since which tick, and, where they do not hold, the tick of the break with the tick they
had held from (17 R650: one that returns on the tick of its break counts as unbroken). -/
structure Span where
  since : Option Nat := none
  broke : Option (Nat × Nat) := none
  deriving DecidableEq, Repr

/-- A span at a tick at which its conditions hold or not. -/
def Span.settle (x : Span) (now : Nat) (ok : Bool) : Span :=
  match ok, x.since, x.broke with
  | true, some _, _ => x
  | true, none, some (t, f) => { since := some (if t = now then f else now), broke := none }
  | true, none, none => { since := some now, broke := none }
  | false, some f, _ => { since := none, broke := some (now, f) }
  | false, none, _ => x

/-- Modes and start-up (17 R642-R655): `diesUp` that the piers and Lintel are powered and out of reset, the accepted
QUIESCE, the COMMISSIONED flag of device state, the cause of the last mode change, the cause a command names for a change it
makes (0 outside a command), the wait for START, the conditions of
the start-up hold and the spans of its conditions and of the reference, the reference of the start in progress, the steps of a start and of a shutdown,
that START was given, and the slots ramped since the release. -/
structure ModeState where
  diesUp : Bool := false
  quiesced : Bool := false
  commissioned : Bool := false
  cause : Nat := 0
  hint : Nat := 0
  waitStart : Bool := false
  standby : Bool := true
  resetHigh : Bool := true
  tempOk : Bool := true
  tempNoted : Bool := false
  hold : Span := {}
  ref : Span := {}
  startRef : Nat := 0
  released : Option Nat := none
  booted : Bool := false
  halted : Bool := false
  complete : Bool := false
  startMs : Nat := 0
  shutting : Option Nat := none
  startCmd : Bool := false
  ramped : List Nat := []
  deriving DecidableEq, Repr

/-- A parameter being stored (14 R557): the session that waits for the answer, the index and subindex it wrote, the object where it stands for no
register, the register fields and the values to be stored (none: the reset value). -/
structure Storing where
  session : Option Nat := none
  name : Option Nat := none
  object : Option (Nat × List Byte) := none
  fields : List (Nat × Option Nat) := []
  deriving DecidableEq, Repr

/-- Boot flash and firmware (17 R656-R667): boot record, parameter store (values by register field, both copies),
image slots, the running image and whether it is yet to be confirmed, minimum SVN of the one-time memory, the group of a live change in progress (0: none),
the slot changed to, the groups changed, when the group began, a download, and the tick from which the device has been stable. -/
structure Firmware where
  bootSeq : Nat := 0
  active : Nat := 0
  trial : Option Nat := none
  tries : Nat := 0
  params : Table Nat := []
  objParams : Table (List Byte) := []
  paramSeq : Nat := 0
  storing : List Storing := []
  restoreAtStart : Bool := false
  imageA : Option Image := none
  imageB : Option Image := none
  runSlot : Nat := 0
  running : Option Image := none
  unconfirmed : Bool := false
  minSvn : Nat := 0
  change : Nat := 0
  changeSlot : Nat := 0
  changedGroups : Nat := 0
  groupAt : Nat := 0
  downloading : Bool := false
  stableFrom : Nat := 0
  deriving DecidableEq, Repr

/-- The package (18): sensors (latest reading, and peak since its last read, in 0.125 °C, signed), the warning raised, the reference clocks. -/
structure Sensor where
  now : Int := 0
  peak : Option Int := none
  deriving DecidableEq, Repr

/-- Package state (18 R675, R684-R686, R693): sensors, warning, clocks present, straps. -/
structure Package where
  sensors : Table Sensor := []
  warned : Bool := false
  clocks : List Nat := []
  pkgIdx : Nat := 0
  wiring : Bool := false
  deriving DecidableEq, Repr

/-- An event record (15 R589); SEQ 0 marks an empty slot, which is not listed. -/
structure Rec where
  seq : Nat := 0
  first : Nat := 0
  last : Nat := 0
  id : Nat := 0
  severity : Nat := 0
  buffered : Bool := false
  early : Bool := false
  gap : Bool := false
  code : Nat := 0
  repeats : Nat := 0
  detail : List Byte := []
  deriving DecidableEq, Repr

/-- A store of records: the slots in use, the next SEQ, the slot of the last record placed (R597; none before the first in
this run), and the slot placed or folded most recently. The recorder in the ledger and the buffer on Plinth are one each (R601). -/
structure RecStore where
  slots : Table Rec := []
  nextSeq : Nat := 1
  lastSlot : Option Nat := none
  head : Nat := 0
  deriving DecidableEq, Repr

/-- A sampling record (15 R609). -/
structure Sample where
  opcode : Nat := 0
  cid : Nat := 0
  queue : Nat := 0
  nsid : Nat := 0
  status : Nat := 0
  tenant : Nat := 0
  slba : Nat := 0
  nlb : Nat := 0
  route : Nat := 0
  tAccept : Nat := 0
  dDispatch : Nat := 0xFFFFFFFF
  dData : Nat := 0xFFFFFFFF
  dDurable : Nat := 0xFFFFFFFF
  dDone : Nat := 0xFFFFFFFF
  sample : Nat := 0
  deriving DecidableEq, Repr

/-- Recorder and counters (15). `gap` that an event was dropped since the last record placed; `heldRec` and `heldWin` are each
requester's version of EV_REC and CNT_WIN_DATA; `counts` the counters and `selections` what each counts (mode, code, threshold). -/
structure Recorder where
  ledger : RecStore := {}
  buffer : RecStore := {}
  scanned : Bool := false
  gap : Bool := false
  drops : Table Nat := []
  windowDrops : Table Nat := []
  nextTake : Nat := 0
  holdUntil : Option Nat := none
  irqWaiting : Bool := false
  heldRec : Table (List Word) := []
  heldWin : Table (List Word) := []
  counts : Table Nat := []
  selections : Table (Nat × Nat × Nat) := []
  snap : Nat := 0
  snapGen : Nat := 0
  missed : Nat := 0
  refused : Nat := 0
  refusedAddr : Nat := 0
  sampleHead : Nat := 0
  sampleNo : Nat := 0
  sampleCount : Nat := 0
  sampleStopped : Bool := false
  sampleQueue : List Sample := []
  deriving DecidableEq, Repr

end Sys2Proof.Machine
end

