-- ==== Sys2Proof/Machine/TypesDma.lean ====
section
/-!
DEFINITION. State of the DMA engine (12) and the bytes of the HBM stacks.
-/
namespace Sys2Proof.Machine

/-- Channel states (12 Channel states). -/
inductive ChSt where
  | off | idle | running | waiting | halted | aborted
  deriving DecidableEq, Repr

/-- CH_STAT.STATE code. -/
def ChSt.code : ChSt → Nat
  | .off => 0 | .idle => 1 | .running => 2 | .waiting => 3 | .halted => 4 | .aborted => 5

/-- A channel's register set (12 CH_SRC to CH_NENT). -/
structure ChSet where
  src : Nat := 0
  dst : Nat := 0
  len : Nat := 0
  srcSg : Bool := false
  dstSg : Bool := false
  srcSpace : Nat := 0
  dstSpace : Nat := 0
  srcN : Nat := 0
  dstN : Nat := 0
  deriving DecidableEq, Repr

/-- A channel (12): state, the active set if any, SH_FULL, error, entry and address of the last error, bytes not yet moved,
bytes still released of the quantum in progress, transfers done, and the list entries fetched for each side as (address,
length), and where in HBM the aperture offsets of plain sides and list entries were translated to as they started (R500). -/
structure Chan where
  st : ChSt := .off
  act : Option ChSet := none
  full : Bool := false
  err : Nat := 0
  entry : Nat := 0
  errAddr : Nat := 0
  remain : Nat := 0
  quantum : Nat := 0
  done : Nat := 0
  srcList : List (Nat × Nat) := []
  dstList : List (Nat × Nat) := []
  srcAt : List Nat := []
  dstAt : List Nat := []
  deriving DecidableEq, Repr

/-- The canonical form of a memory of bytes: addresses strictly rising, no byte listed that an unlisted address reads as (0). -/
abbrev Memory.wf (m : Table Byte) : Bool := Table.wf 0 m

/-- The DMA engine: channels by number; HBM bytes keyed stack * 2^40 + offset, 0 where nothing was written (assumption 15). -/
structure Dma where
  chans : Table Chan := []
  hbm : Table Byte := []
  deriving DecidableEq, Repr

end Sys2Proof.Machine
end

