-- ==== Sys2Proof/Machine/TypesEp.lean ====
section
/-!
DEFINITION. State of the host endpoint (13).
-/
namespace Sys2Proof.Machine

/-- A PCIe function (13 R535, R539): Bus Master Enable, its unmasked and its pending vectors, a Function Level Reset in progress, and, for a
VF, that it is ready (R517). -/
structure EpFn where
  busMaster : Bool := false
  unmasked : List Nat := []
  waiting : List Nat := []
  flr : Bool := false
  ready : Bool := false
  deriving DecidableEq, Repr

/-- The endpoint (13). Functions: 0 PF0, 1 PF1, 1 + n VF n (n from 1). EP_STAT's link, Flit Mode, rate and width; the Subsystem ID and the division of the
vectors latched when the link trained; NumVFs and VF Enable; the words of PF1's MSI-X table, by word index. -/
structure Endpoint where
  fns : Table EpFn := []
  up : Bool := false
  flit : Bool := false
  rate : Nat := 0
  width : Nat := 0
  ssid : Nat := 0
  pf0Vec : Nat := 448
  vfVec : Nat := 24
  numVfs : Nat := 0
  vfEnable : Bool := false
  msix : Table Nat := []
  deriving DecidableEq, Repr

end Sys2Proof.Machine
end

