-- ==== Sys2Proof/Machine/TypesMgmt.lean ====
section
/-!
DEFINITION. State of the object dictionary and the management ports (14).
-/
namespace Sys2Proof.Machine

/-- Privilege levels of a session (14 Rights and privilege). -/
inductive Level where
  | observer | operator | custodian
  deriving DecidableEq, Repr

/-- Level code as the level byte of a proof (14 R550). -/
def Level.code : Level → Nat
  | .observer => 0 | .operator => 1 | .custodian => 2

/-- What an object access request names, repeated in its response (14 Object access message). -/
structure OapReq where
  op : Nat := 0
  index : Nat := 0
  sub : Nat := 0
  offset : Nat := 0
  enc : Bool := false
  deriving DecidableEq, Repr

/-- A session (14 R549-R552): its level, its nonce, the tick of its last access; for 10BASE-T1S also the last SEQ, the request it
came with, the stored response to it (none while it is executed), and the key that tags its messages (R577). -/
structure Session where
  level : Level := .observer
  nonce : Option (List Byte) := none
  lastAccess : Nat := 0
  openT1s : Bool := false
  seq : Nat := 0
  req : OapReq := {}
  response : Option (Nat × List Byte) := none
  key : Option (List Byte) := none
  deriving DecidableEq, Repr

/-- NMT states of the slave (14 R564), with the codes of CiA 301. -/
inductive Nmt where
  | initialisation | preOperational | operational | stopped
  deriving DecidableEq, Repr

/-- NMT state code in heartbeat and event 3F5h. -/
def Nmt.code : Nmt → Nat
  | .initialisation => 0 | .stopped => 4 | .operational => 5 | .preOperational => 127

/-- A transfer of a server SDO (14 R566, R567): its direction and object, the bytes still to send or taken so far, the tick of the
client's last frame. -/
structure Sdo where
  write : Bool := false
  index : Nat := 0
  sub : Nat := 0
  data : List Byte := []
  lastAt : Nat := 0
  deriving DecidableEq, Repr

/-- An EMCY message (14 EMCY message). -/
structure Emcy where
  code : Nat
  reg : Nat
  id : Nat
  slot : Nat
  deriving DecidableEq, Repr

/-- The CANopen slave (14 R561-R573): NMT state, the node-ID, arbitration and data rate in force, transfers, EMCY messages waiting, the last EMCY's
tick, those lost, the pre-defined error field, bus-off, the last heartbeat, each TPDO's count of SYNC and last sending. -/
structure Can where
  nmt : Nmt := .preOperational
  node : Option Nat := none
  rate : Nat := 500
  dataRate : Nat := 2
  sdos : Table (Option Sdo) := []
  emcys : List Emcy := []
  emcyAt : Option Nat := none
  emcyLost : Nat := 0
  errors : List Nat := []
  busOff : Bool := false
  hbAt : Nat := 0
  syncs : Table Nat := []
  pdoAt : Table Nat := []
  deriving DecidableEq, Repr

/-- The management region (14). `objs` holds the objects that stand for no register, by index * 256 + subindex. Sessions: 1-4 CAN FD by SDO number, 100h the PF1 window, 200h-207h the sessions of
10BASE-T1S (assumption 8). Ports: 0 CAN FD, 1 10BASE-T1S, 2 PF1. -/
structure Management where
  sessions : Table Session := []
  denied : Nat := 0
  proofRefused : Table (Option Nat) := []
  secretRefused : Table (Option Nat) := []
  objs : Table (List Byte) := []
  can : Can := {}
  tagFails : Nat := 0
  t1sLost : Nat := 0
  deriving DecidableEq, Repr

end Sys2Proof.Machine
end

