-- ==== Sys2Proof/Machine/TypesNet.lean ====
section
/-!
DEFINITION. State of the network ports (02) and of the switch core and the mortar pool (06).
-/
namespace Sys2Proof.Machine

/-- A frame waiting in an egress queue or a class queue (02 R70, 05): its unit in the pool (none where the frame has no
cells of its own), its bytes DA through FCS, its tenant and class, and when it came to the queue. -/
structure TxFrame where
  unit : Option Nat := none
  bytes : Nat := 0
  tenant : Nat := 0
  cls : Nat := 0
  since : Nat := 0
  deriving DecidableEq, Repr

/-- Credit of one shaped queue (02 R71, R72): its value in 1/16 bit at tick `since`. -/
structure Credit where
  value : Int := 0
  since : Nat := 0
  deriving DecidableEq, Repr

/-- A MAC (02): link, duplicate addresses, egress queues, the frame on the wire with its queue, shaper credits, low-power
idle, the partner's EEE state, and the address-resolution frames of the current second. -/
structure Mac where
  link : Bool := false
  eeeAble : Bool := false
  partnerEee : Bool := false
  lldpDone : Bool := false
  lpiStopped : Bool := false
  twMin : Nat := 0
  twTx : Nat := 0
  echoTx : Nat := 0
  echoRx : Nat := 0
  dadGlobal : Bool := false
  dadLocal : Bool := false
  eq0 : List TxFrame := []
  eq1 : List TxFrame := []
  eq2 : List TxFrame := []
  eq3 : List TxFrame := []
  wire : Option (Nat × TxFrame) := none
  crossed : Bool := false
  credit0 : Credit := {}
  credit1 : Credit := {}
  credit2 : Credit := {}
  txLpi : Bool := false
  rxLpi : Bool := false
  waking : Option Nat := none
  emptySince : Nat := 0
  askSecond : Nat := 0
  asks : Nat := 0
  deriving DecidableEq, Repr

/-- PTP servo states (02 PTP_STAT.STATE). -/
inductive PtpState where
  | disabled | acquiring | locked | holdover
  deriving DecidableEq, Repr

/-- PTP_STAT.STATE code. -/
def PtpState.code : PtpState → Nat
  | .disabled => 0 | .acquiring => 1 | .locked => 2 | .holdover => 3

/-- The PTP servo (02 R81-R87). `times` are in 1/16 ns: t2 of the last Sync, t3 of the last Delay_Req; t1 and t4 in ns.
`slewingBig` that the correction being slewed is larger than DISC_THR. -/
structure Ptp where
  state : PtpState := .disabled
  onAlt : Bool := false
  slewing : Bool := false
  slewingBig : Bool := false
  everLocked : Bool := false
  source : Option PtpAnnounce := none
  announceAt : Nat := 0
  t1 : Option Nat := none
  t2 : Option Int := none
  t3 : Option Int := none
  t4 : Option Nat := none
  offset : Int := 0
  freq : Int := 0
  remain : Int := 0
  deriving DecidableEq, Repr

/-- Network ports (02). -/
structure Net where
  macs : Table Mac := []
  ptp : Ptp := {}
  deriving DecidableEq, Repr

/-- Where a frame goes once it is whole in the pool: to the output's consumer, into an egress queue of a MAC (02 R70), or
into a tenant's class queue (05); write data of a command to its pier (06 R263). -/
inductive UnitDest where
  | consumer
  | egress (mac queue bytes : Nat)
  | classQueue (mac tenant cls bytes : Nat)
  | writeData (cmd : Nat)
  deriving DecidableEq, Repr

/-- A unit or frame charged in the pool (06 R248): its VOQ (input, output, class), cells, the tick it
came, and where it goes. -/
structure PoolUnit where
  id : Nat := 0
  input : Nat := 0
  output : Nat := 0
  cls : Nat := 0
  cells : Nat := 0
  since : Nat := 0
  dest : UnitDest := .consumer
  deriving DecidableEq, Repr

/-- A reservation for a READ's responses (06 R256): the QP and its READ, the VOQ, the cells not yet filled. -/
structure Reservation where
  qp : Nat := 0
  read : Nat := 0
  input : Nat := 0
  output : Nat := 0
  cls : Nat := 0
  cells : Nat := 0
  deriving DecidableEq, Repr

/-- The mortar pool (06). The cells allocated are those of `units` and of `rsv`; the free count is what they leave. `headAt` is since when
each VOQ's head has been its head (R250). `waiting` are refused units of inputs 8-15 at their sources, with the tick since which each waits. -/
structure Pool where
  nextId : Nat := 0
  units : List PoolUnit := []
  headAt : Table Nat := []
  rsv : List Reservation := []
  waiting : List PoolUnit := []
  minFree : Nat := 655360
  lowNoted : Bool := false
  peaks : Table Nat := []
  drops : Table Nat := []
  turn : Table Nat := []
  dropInputs : List Nat := []
  waitCount : Nat := 0
  waitLongest : Nat := 0
  deriving DecidableEq, Repr

end Sys2Proof.Machine
end

