-- ==== Sys2Proof/Machine/Blocks.lean ====
section
/-!
DEFINITION. Blocks of bytes and the arithmetic of double parity: XOR, GF(2^8), P and Q, recovery of a row (08), and the
checks of protection information (04).
-/
namespace Sys2Proof.Machine

/-- The bytes of a stored or plain block. -/
abbrev Block := List Byte

/-- Bytes of a 4 KiB volume unit as a member holds it: 4,096 of data, then 64 of metadata (08 R312, R317; assumption 12). -/
def unitBytes : Nat := 4160

/-- The zero unit (08 R322). -/
def zeroUnit : Block := List.replicate unitBytes 0

/-- A block is zero-stored (08 R322). -/
def allZero (b : Block) : Bool := b.all (fun x => x == 0)

/-- XOR of two blocks, the shorter taken as followed by zeros. -/
def xorB : Block → Block → Block
  | [], b => b
  | a, [] => a
  | x :: a, y :: b => (x ^^^ y) :: xorB a b

/-- Multiplication by g = 02h in GF(2^8) with the polynomial 11Dh (08 R319). -/
def gfDouble (x : Byte) : Byte := if x.getLsbD 7 then (x <<< 1) ^^^ 0x1D else x <<< 1

/-- `n` steps of shift-and-add multiplication. -/
def gfMulN : Nat → Byte → Byte → Byte
  | 0, _, _ => 0
  | n + 1, x, y => (if y.getLsbD 0 then x else 0) ^^^ gfMulN n (gfDouble x) (y >>> 1)

/-- Multiplication in GF(2^8) (08 R319). -/
def gfMul (x y : Byte) : Byte := gfMulN 8 x y

/-- g^i (08 R319). -/
def gfPow : Nat → Byte
  | 0 => 1
  | i + 1 => gfDouble (gfPow i)

/-- The inverse in GF(2^8) (08 R321): x^254. -/
def gfInv (x : Byte) : Byte :=
  let x2 := gfMul x x
  let x4 := gfMul x2 x2
  let x8 := gfMul x4 x4
  let x16 := gfMul x8 x8
  let x32 := gfMul x16 x16
  let x64 := gfMul x32 x32
  let x128 := gfMul x64 x64
  gfMul x128 (gfMul x64 (gfMul x32 (gfMul x16 (gfMul x8 (gfMul x4 x2)))))

/-- A block times a factor. -/
def scaleB (c : Byte) (b : Block) : Block := b.map (fun x => gfMul c x)

/-- ⊕ of g^j·D_j over data blocks, j from `j` on. -/
def qFrom : Nat → List Block → Block
  | _, [] => []
  | j, d :: ds => xorB (scaleB (gfPow j) d) (qFrom (j + 1) ds)

/-- P of a row's data blocks (08 R319). -/
def parityP (ds : List Block) : Block := ds.foldr xorB []

/-- Q of a row's data blocks (08 R319). -/
def parityQ (ds : List Block) : Block := qFrom 0 ds

/-- P and Q of a row appended to its data. -/
def wholeRow (ds : List Block) : List Block := ds ++ [parityP ds, parityQ ds]

/-- A row's blocks, data then P then Q, with the lost ones as none; `d` data strips. -/
abbrev RowView := List (Option Block)

/-- The data blocks of a row, the lost ones as zero. -/
def rowData (d : Nat) (r : RowView) : List Block := (List.range d).map (fun j => (r.getD j none).getD [])

/-- Indices of lost data blocks. -/
def lostData (d : Nat) (r : RowView) : List Nat := (List.range d).filter (fun j => (r.getD j none).isNone)

/-- How many blocks of a row are lost. -/
def lostCount (d : Nat) (r : RowView) : Nat := ((List.range (d + 2)).filter (fun j => (r.getD j none).isNone)).length

/-- Recovery of a row (08 R321): the row's data blocks when at most two blocks are lost. -/
def recoverData (d : Nat) (r : RowView) : Option (List Block) :=
  let ds := rowData d r
  let p := r.getD d none
  let q := r.getD (d + 1) none
  let p' := xorB (p.getD []) (parityP ds)
  let q' := xorB (q.getD []) (parityQ ds)
  match lostData d r with
  | [] => some ds
  | [x] =>
    match p, q with
    | some _, _ => some (ds.set x p')
    | none, some _ => some (ds.set x (scaleB (gfInv (gfPow x)) q'))
    | none, none => none
  | [x, y] =>
    match p, q with
    | some _, some _ =>
      let dx := scaleB (gfInv (gfPow x ^^^ gfPow y)) (xorB q' (scaleB (gfPow y) p'))
      some ((ds.set x dx).set y (xorB p' dx))
    | _, _ => none
  | _ => none

/-- CRC of a byte string, most significant bit first, of width `w` with polynomial `poly`. -/
def crcMsb (w : Nat) (poly init : Nat) (b : Block) : Nat :=
  b.foldl (fun c x =>
    (List.range 8).foldl (fun c _ =>
      let c' := c * 2
      if c / 2 ^ (w - 1) % 2 = 1 then (c' % 2 ^ w) ^^^ poly else c' % 2 ^ w) (c ^^^ (x.toNat * 2 ^ (w - 8)))) init

/-- CRC of a byte string, least significant bit first, with the reflected polynomial `poly`. -/
def crcLsb (poly init : Nat) (b : Block) : Nat :=
  b.foldl (fun c x =>
    (List.range 8).foldl (fun c _ => if c % 2 = 1 then (c / 2) ^^^ poly else c / 2) (c ^^^ x.toNat)) init

/-- The 16-bit guard: the T10 CRC of the block data (04 LBA formats; assumption 13). -/
def guard16 (b : Block) : Nat := crcMsb 16 0x8BB7 0 b

/-- The 64-bit guard: the NVM Command Set's 64b CRC (04 LBA formats; assumption 13). -/
def guard64 (b : Block) : Nat := (crcLsb 0x9A6C9329AC4BC9B5 (2 ^ 64 - 1) b) ^^^ (2 ^ 64 - 1)

/-- CRC-32C (15 Event record, 10 Member stamp; assumption 13). -/
def crc32c (b : Block) : Nat := (crcLsb 0x82F63B78 0xFFFFFFFF b) ^^^ 0xFFFFFFFF

/-- A big-endian number. -/
def beNat (b : Block) : Nat := b.foldl (fun n x => n * 256 + x.toNat) 0

/-- `n` big-endian bytes of a number. -/
def be (n v : Nat) : List Byte := (List.range n).map (fun k => BitVec.ofNat 8 (v / 256 ^ (n - 1 - k)))

/-- A little-endian number. -/
def leNat : Block → Nat
  | [] => 0
  | x :: b => x.toNat + 256 * leNat b

/-- `n` bytes of a block from an offset, zeros beyond its end. -/
def slice (b : Block) (off n : Nat) : Block :=
  let s := (b.drop off).take n
  s ++ List.replicate (n - s.length) 0

/-- A block with bytes put in at an offset. -/
def splice (b : Block) (off : Nat) (x : Block) : Block :=
  slice b 0 off ++ x ++ b.drop (off + x.length)

end Sys2Proof.Machine
end

