-- ==== Sys2Proof/Machine/TypesRdma.lean ====
section
/-!
DEFINITION. State of the RDMA transport and of the persistent windows (03).
-/
namespace Sys2Proof.Machine

/-- Queue-pair states (03 QP states). -/
inductive QpSt where
  | free | rtr | rts | draining | error | quiet
  deriving DecidableEq, Repr

/-- RD_QP_STATE.STATE code. -/
def QpSt.code : QpSt → Nat
  | .free => 0 | .rtr => 1 | .rts => 2 | .draining => 3 | .error => 4 | .quiet => 5

/-- What a completion capsule carries (04, R153): CID, status (SCT * 256 + SC), DNR, dword 0, and the host key a SEND with
Invalidate names. `cmd` is the command it completes, `waited` that it has been held for lack of host credit, `cls` its class. -/
structure Capsule where
  cmd : Nat := 0
  cid : Nat := 0
  status : Nat := 0
  dnr : Bool := false
  dw0 : Nat := 0
  inval : Option Nat := none
  waited : Bool := false
  cls : Nat := 1
  deriving DecidableEq, Repr

/-- Requests the device sends (03 R115). -/
inductive WrKind where
  | read | write | send
  deriving DecidableEq, Repr

/-- A request of the device not yet acknowledged (03 R106): its command, first PSN and number of PSNs, the bytes it moves, and
for a READ the bytes that have come. -/
structure WorkReq where
  kind : WrKind
  cmd : Nat
  psn : Nat
  count : Nat
  bytes : Nat
  got : Nat := 0
  cap : Option Capsule := none
  deriving DecidableEq, Repr

/-- One of the last READ or FLUSH requests of a queue pair (03 R104). -/
structure PastReq where
  psn : Nat
  flush : Bool
  rkey : Nat
  va : Nat
  len : Nat
  plt : Nat
  sel : Nat
  deriving DecidableEq, Repr

/-- An inbound RDMA WRITE message (03 R123, R127): the window slot, the next byte and the bytes still to come. -/
structure WriteMsg where
  slot : Nat
  off : Nat
  left : Nat
  deriving DecidableEq, Repr

/-- A FLUSH not yet answered (03 R128): its PSN and the bytes [lo, hi) of the window partition it covers. -/
structure FlushWait where
  psn : Nat
  slot : Nat
  lo : Nat
  hi : Nat
  deriving DecidableEq, Repr

/-- A queue pair (03). `limit` is the MSN up to which SENDs are granted, `hostLimit` the host's. `unacked` packets in sequence
wait for an ACK since `ackAt`; `timerAt` is the tick the local ACK timer was armed, `rnrUntil` the end of an RNR wait.
`since` is the tick of the last change of state; `closing` that it drains once the completions queued on it are sent, with or
without a DREQ (04 R183). -/
structure Qp where
  st : QpSt := .free
  mac : Nat := 0
  v4 : Bool := true
  mtu : Nat := 1024
  tenant : Nat := 0
  depth : Nat := 0
  reserve : Nat := 0
  initDepth : Nat := 0
  qid : Nat := 0
  ctrl : Option Nat := none
  host : Option Nat := none
  ePsn : Nat := 0
  nPsn : Nat := 0
  msn : Nat := 0
  gapNak : Bool := false
  past : List PastReq := []
  inUse : Nat := 0
  limit : Nat := 0
  sentCode : Nat := 0
  sendMsg : Option Nat := none
  writeMsg : Option WriteMsg := none
  unacked : Nat := 0
  ackAt : Option Nat := none
  flushes : List FlushWait := []
  out : List WorkReq := []
  sendQ : List Capsule := []
  sent : Nat := 0
  hostLimit : Option Nat := some 0
  hostCode : Nat := 0
  probeAt : Nat := 0
  timerAt : Nat := 0
  retries : Nat := 0
  rnrRetries : Nat := 0
  rnrUntil : Option Nat := none
  since : Nat := 0
  cmTimeout : Nat := 0
  closing : Option Bool := none
  deriving DecidableEq, Repr

/-- Window slot states (03 WIN_STAT). -/
inductive WinSt where
  | free | valid | revoking
  deriving DecidableEq, Repr

/-- WIN_STAT.STATE code. -/
def WinSt.code : WinSt → Nat
  | .free => 0 | .valid => 1 | .revoking => 2

/-- A window slot (03 R119-R136): state, TAG, its registration in progress, and the tick of its REVOKE. -/
structure Window where
  st : WinSt := .free
  tag : Nat := 0
  registering : Bool := false
  revokeAt : Nat := 0
  deriving DecidableEq, Repr

/-- A byte placed in a window and not yet durable (03 R130): the queue pair, its place in the window partition, its value, and
the ATOMIC WRITE it belongs to. -/
structure WinByte where
  qp : Nat
  addr : Nat
  value : Byte
  atom : Option Nat
  deriving DecidableEq, Repr

/-- The RDMA transport (03): queue pairs by index, slots shared out, windows by slot; the window partition's bytes as RDMA
READs see them (`mem`) and as they survive a power loss (`durable`), keyed slot * 65,536 + offset, and the bytes placed and
not yet durable, in order. -/
structure Rdma where
  qps : Table Qp := []
  wins : Table Window := []
  mem : Table Byte := []
  durable : Table Byte := []
  placed : List WinByte := []
  atoms : Nat := 0
  deriving DecidableEq, Repr

end Sys2Proof.Machine
end

