-- ==== Sys2Proof/Machine/TypesNvme.lean ====
section
/-!
DEFINITION. State of the NVMe front end (04), its queues over PCIe (13 R519-R523) and the overlap tracker.
-/
namespace Sys2Proof.Machine

/-- Kinds of controllers (04 R142, R145). -/
inductive CtrlKind where
  | fabric | discovery | pcie
  deriving DecidableEq, Repr

/-- A completion queue entry placed in host memory (13). -/
structure Cqe where
  cap : Capsule
  sqid : Nat
  deriving DecidableEq, Repr

/-- A submission queue over PCIe: size, its completion queue, the head the device has fetched to and the tail written. -/
structure Sq where
  size : Nat := 0
  cq : Nat := 0
  head : Nat := 0
  tail : Nat := 0
  deriving DecidableEq, Repr

/-- A completion queue over PCIe: size, vector, interrupts enabled, the tail the device has placed to and the head written. -/
structure Cq where
  size : Nat := 0
  vec : Nat := 0
  irq : Bool := true
  head : Nat := 0
  tail : Nat := 0
  deriving DecidableEq, Repr

/-- An asynchronous event (04 R156). -/
structure AsyncEvent where
  type : Nat
  info : Nat
  log : Nat
  deriving DecidableEq, Repr

/-- An Error Information log entry (04 R174). -/
structure ErrEntry where
  count : Nat
  sqid : Nat
  cid : Nat
  status : Nat
  lba : Nat
  nsid : Nat
  deriving DecidableEq, Repr

/-- A controller (04). `cc` is CC; `kato` in ms; `aers` its Asynchronous Event Requests by command; `held` the events that
wait for one; `changed` and `resvLog` its log pages 04h and 80h; over PCIe its queues by QID. -/
structure Ctrl where
  kind : CtrlKind := .fabric
  host : Nat := 0
  hostId : Nat := 0
  tenant : Nat := 0
  aqp : Nat := 0
  cc : Nat := 0
  rdy : Bool := false
  cfs : Bool := false
  shst : Nat := 0
  enableAt : Option Nat := none
  shutdownAt : Option Nat := none
  kato : Nat := 0
  kaAt : Nat := 0
  granted : Nat := 1024
  ioConnected : Bool := false
  tempThreshold : Nat := 358
  tempOver : Bool := false
  aec : Nat := 0
  resvSeen : Bool := false
  grantedCq : Nat := 1024
  masks : Table Nat := []
  aers : List Nat := []
  held : List AsyncEvent := []
  errCount : Nat := 0
  errLog : List ErrEntry := []
  changed : List Nat := []
  resvLog : List (Nat × Nat) := []
  sqs : Table Sq := []
  cqs : Table Cq := []
  deriving DecidableEq, Repr

/-- What a command does (04 tables Admin commands, I/O commands). -/
inductive CmdOp where
  | read | write | compare | zeroes | deallocate | flush | admin | abort | asyncEvent | setPower | preempt
  deriving DecidableEq, Repr

/-- A member block a command has in hand: volume, whether in a reshape's new geometry, stripe, unit in the strip, strip index
(D is P, D + 1 is Q), plaintext and stored bytes. -/
structure InHand where
  newGeo : Bool
  stripe : Nat
  row : Nat
  strip : Nat
  plain : Block
  stored : Block
  deriving DecidableEq, Repr

/-- A block of a row a member failed to give (08 R335). -/
structure BadBlock where
  newGeo : Bool
  stripe : Nat
  row : Nat
  strip : Nat
  deriving DecidableEq, Repr

/-- A command accepted and not yet completed or cancelled (04). `src` its queue, `seq` its acceptance number in its namespace,
`waits` the commands its tracker entry waits for (R176), `ranges` its LBAs; `data` the host data come so far and `asked` the
bytes asked of the host; `hand` and `bad` what its member reads gave and `reading` those outstanding; `full` the stripes written on the full-stripe route and
`claimed` those that have had an accumulator; `staging` the bytes of staging it was admitted to, and since when it waits for
staging or for the journal; `record` its intent record; `status`, `dw0` and `reply` its outcome once known; `sent` the bytes
sent to the host; `finished` for the tracker, `completed` that its completion has been issued. `entry` the Set Features during
whose entry to a power state it was accepted, `remote` that it runs for another package. `io` that it was accepted as an I/O command and
counts as outstanding, `sampled` its sample number, `waited` that it waited in the tracker, `lost` that data fetched were lost in the pool
and `refetched` that they were asked for again (06 R263), `resvWrite` that reservation state must be durable first (R195),
`rsvWait` that its next
RDMA READ waits for its cells (06 R256). -/
structure Cmd where
  id : Nat
  ctrl : Nat := 0
  src : CmdSource
  sqid : Nat := 0
  cid : Nat := 0
  op : CmdOp := .admin
  opcode : Nat := 0
  nsid : Nat := 0
  vol : Nat := 0
  owner : Nat := 0
  tenant : Nat := 0
  ranges : List (Nat × Nat) := []
  fua : Bool := false
  pract : Bool := false
  prchk : Nat := 0
  ilbrt : Nat := 0
  lbat : Nat := 0
  lbatm : Nat := 0
  buf : DataPtr := .none
  accepted : Nat := 0
  seq : Nat := 0
  waits : List Nat := []
  dispatched : Bool := false
  dispatchedAt : Nat := 0
  held : Bool := false
  need : Nat := 0
  asked : Nat := 0
  data : Block := []
  dataAt : Nat := 0
  checked : Bool := false
  hand : List InHand := []
  bad : List BadBlock := []
  reading : Nat := 0
  gathered : Bool := false
  full : List Nat := []
  claimed : List Nat := []
  staging : Nat := 0
  waitAcc : Bool := false
  waitStage : Option Nat := none
  waitJournal : Option Nat := none
  record : Option Nat := none
  durableAt : Option Nat := none
  status : Option Nat := none
  dnr : Bool := false
  dw0 : Nat := 0
  reply : List (List Nat) := []
  sent : Nat := 0
  finished : Bool := false
  finishedAt : Nat := 0
  completed : Bool := false
  cancelled : Bool := false
  entry : Option Nat := none
  remote : Bool := false
  errLba : Option Nat := none
  preempted : List Nat := []
  io : Bool := false
  sampled : Option Nat := none
  waited : Bool := false
  lost : Bool := false
  refetched : Bool := false
  resvWrite : Bool := false
  rsvWait : Bool := false
  deriving DecidableEq, Repr

/-- Reservation state of a namespace (04 R192-R195): generation, type (0 none), holder, registrants by host identifier with
their keys, and PTPL. -/
structure Resv where
  gen : Nat := 0
  rtype : Nat := 0
  holder : Nat := 0
  regs : List (Nat × Nat) := []
  ptpl : Bool := false
  deriving DecidableEq, Repr

/-- The front end (04). Controllers by index: 0-958 fabric, 959-1,023 PCIe, 1,024-1,087 discovery; `freedAt` when an index was
freed. `draining` are namespaces whose ACTIVE was cleared with commands still accepted, `clearAt` the next unit of each extent being cleared.
`units` are bytes read and written by tenant, `invalids` the completions counted for 20Ah.
Power: the state, the target, the entry's tick, its Set Features, and passes settled; under a rate cap the bytes moved that the cap
has not yet let out, at a tick. -/
structure Nvme where
  ctrls : Table Ctrl := []
  freedAt : Table (Option Nat) := []
  cmds : List Cmd := []
  nextCmd : Nat := 0
  seqs : Table Nat := []
  resv : Table Resv := []
  nqns : Table (List Byte) := []
  draining : List Nat := []
  ps : Nat := 0
  target : Nat := 0
  entryAt : Option Nat := none
  psCmd : Option Nat := none
  settled : Nat := 0
  invalids : Nat := 0
  moved : Nat := 0
  capAt : Nat := 0
  units : Table Nat := []
  clearAt : Table Nat := []
  deriving DecidableEq, Repr

end Sys2Proof.Machine
end

