-- ==== Sys2Proof/Machine/TypesOut.lean ====
section
/-!
DEFINITION. What the device sends out: the answers, frames, messages and requests a command makes it emit.
-/
namespace Sys2Proof.Machine

/-- One thing the device sent out while a command took effect. -/
inductive Out where
  /-- A control-space read answered to a requester. -/
  | value (req : Requester) (word : Word)
  /-- A PMBus command to a rail's regulator: VOUT_COMMAND in mV (01 R33). -/
  | pmbusVout (rail addr mv : Nat)
  /-- A PMBus OPERATION on or off (18 R680, R681). -/
  | pmbusOperation (rail : Nat) (on : Bool)
  /-- Work held in a reset or isolated cluster or region, reported to its issuer as aborted (01 R17, R20). -/
  | workAborted (region cluster : Nat)
  /-- A replay requested of a seam's sender (01 R26). -/
  | replayRequest (seam : Nat)
  /-- An alignment message with the exact time (01 R37). -/
  | alignment (die : Die) (time : Nat)
  /-- An MSI-X message of a function (13 R541). -/
  | msix (fn vec : Nat)
  /-- A frame put on the wire of a MAC, and its end there, whole or cut off (02 R60, R70). -/
  | frameStart (mac queue bytes : Nat)
  | frameEnd (mac bytes : Nat) (whole : Bool)
  /-- A received frame passed to its consumer (02 R65). -/
  | delivered (mac output bytes : Nat)
  /-- The answer of the LN control processors to an ARP, neighbour solicitation or echo request (02 R63). -/
  | resolved (mac : Nat) (ask : ResolutionAsk)
  /-- The LLDP EEE TLV: Transmit Tw, Receive Tw, Fallback Receive Tw, and the two Echo fields (02 R79). -/
  | lldp (mac tx rx fallback echoTx echoRx : Nat)
  /-- A Delay_Req sent, with its egress timestamp in 1/16 ns (02 R81, R83). -/
  | delayReq (mac : Nat) (stamp : Int)
  /-- Correction for the metering block (02 R87). -/
  | discontinuity (ns : Int)
  /-- A unit that has crossed to an output (06 R249). -/
  | crossed (unit output : Nat)
  /-- A unit or frame reported to its issuer as aborted (06 R255, R262, R263). -/
  | unitAborted (unit : Nat)
  /-- A dictionary access answered in a session: abort code, 0 for success, and data (14 R586). -/
  | dictAnswer (session code : Nat) (data : List Byte)
  /-- An object access response on 10BASE-T1S: the message, its data enciphered where asked, with its tag where tagged (14 R577-R579). -/
  | oapResponse (session : Nat) (message : List Byte)
  /-- CAN FD frames (14): SDO segments or block frames sent or acknowledged by a server, a TPDO with its COB-ID, an EMCY, the heartbeat, the boot-up message. -/
  | sdoFrame (server : Nat) (data : List Byte) (last : Bool)
  | sdoAck (server : Nat)
  | tpdo (cob : Nat) (data : List Byte)
  | emcy (code reg id slot : Nat)
  | canHeartbeat (node state : Nat)
  | canBootUp (node : Nat)
  /-- The management port's answer to an ARP request or an ICMP echo request (14 R575). -/
  | mgmtAnswer (echo : Bool)
  /-- Bytes written to host memory, and an offload descriptor's STATUS (07 R306, R307). -/
  | hostWrite (addr : BitVec 64) (data : List Byte)
  | offloadStatus (index status : Nat)
  /-- A command submitted to a member: its number, slot, first unit and the stored bytes of a write (11). -/
  | memberRead (id slot unit : Nat)
  | memberWrite (id slot unit : Nat) (stored : List Byte)
  | memberFlush (id slot : Nat)
  | memberReserved (id slot unit : Nat)
  | memberZeroes (slot unit count : Nat)
  /-- A slot's pass gate and auxiliary switch set (11), and a root port told to train (11 R458, R464). -/
  | slotPower (slot : Nat) (gate aux : Bool)
  | portTrain (port : Nat)
  /-- A region of a volume whose P and Q are recomputed from its data (09 R380). -/
  | regionResync (volume region : Nat)
  /-- A RoCEv2 packet sent on a queue pair (03): READ of `len` bytes for a command, WRITE of data, SEND of a capsule, and the
  responder's ACK, NAK, RNR NAK and READ response. -/
  | rdmaRead (qp psn cmd len : Nat)
  | rdmaWrite (qp psn cmd : Nat) (data : List Byte)
  | rdmaSend (qp psn cid status dw0 : Nat) (dnr : Bool) (invalidate : Option Nat)
  | rdmaAck (qp psn msn credit : Nat)
  | rdmaNak (qp psn code : Nat)
  | rdmaRnr (qp psn timer : Nat)
  | rdmaResponse (qp psn : Nat) (data : List Byte)
  | rdmaResend (qp psn : Nat)
  /-- Connection management (03 R100): REP, REJ and DREQ. -/
  | cmRep (qp psn : Nat)
  | cmRej (reason detail : Nat)
  | cmDreq (qp : Nat)
  /-- A completion queue entry placed in host memory over PCIe (13), and the data of a command moved by endpoint DMA. -/
  | cqe (fn cq sqid cid status dw0 : Nat) (dnr : Bool)
  | dmaData (fn cmd : Nat) (data : List Byte)
  /-- The fields of a command's reply, item by item (04 Identify, log pages, Reservation Report). -/
  | reply (cmd : Nat) (items : List (List Nat))
  /-- Bytes written to the ledger by a DMA channel (12), a host read it needs, and a control-processor channel's interrupt. -/
  | ledgerWrite (addr : Nat) (data : List Byte)
  | channelIrq (channel : Nat)
  /-- A heartbeat of a pier to its partner or to the quoin (16 R617). -/
  | heartbeat (pier : Nat) (quoin : Bool)
  /-- A claim sent to the quoin, a Reservation Acquire or Register sent to a member, a reservation released (16 R618-R623). -/
  | claim (pier : Nat)
  | memberAcquire (pier slot : Nat)
  | memberRelease (pier slot : Nat)
  /-- A Salben frame sent on a bond link (16 R630-R632): type, class, LSEQ, payload bytes, and its IV's training count and FRAME_CTR. -/
  | bondFrame (link type cls lseq len training ctr : Nat)
  /-- What a bond frame carries: a command forwarded (05h), a completion (07h), an acknowledgement of LSEQ (08h), a width asked for (09h) or taken from
  an LSEQ on (0Ah), a record to mirror (03h) and its acknowledgement (04h). -/
  | bondForward (link cmd : Nat)
  | bondCompletion (link tag status dw0 : Nat) (dnr : Bool) (data : List Byte)
  | bondAck (link lseq : Nat)
  | bondWidth (link width : Nat) (lseq : Option Nat)
  | bondMirror (link pier seq : Nat)
  | bondMirrorAck (link pier seq : Nat)
  /-- The completion of a peer-aperture request (13 R526-R528): Unsupported Request, Completer Abort, or data, poisoned or not. -/
  | apUnsupported
  | apAbort
  | apData (data : List Byte) (poisoned : Bool)
  deriving DecidableEq, Repr

end Sys2Proof.Machine
end

