-- ==== Sys2Proof/Machine/TypesOwn.lean ====
section
/-!
DEFINITION. State of ownership, the quoin and the bond links (16).
-/
namespace Sys2Proof.Machine

/-- Owner and epoch of a slot or volume in the quoin (16 R615): owner 0 PE, 1 PW. -/
structure Owned where
  owner : Nat := 0
  epoch : Nat := 1
  deriving DecidableEq, Repr

/-- Owning package and package epoch of a volume (16 R636). -/
structure PkgOwned where
  pkg : Nat := 0
  epoch : Nat := 0
  deriving DecidableEq, Repr

/-- A pier's side of ownership (16): the tick of the last heartbeat received from the partner and the tick the quoin last heard
this pier, whether each stream is silent, a claim awaiting the quoin since a tick with its items and the epochs it carries, the quoin's answer to it
(0 granted, 1 stale, 2 alive), fenced, volumes
served by majority, volumes granted without a majority, volumes lost in a dispute, the tick of the last preemption, the tick since which all its regions run,
and the owners and epochs of slots and volumes as it last saw them (R618; as R616 gives them where unlisted). -/
structure PierOwn where
  partnerAt : Nat := 0
  partnerSilent : Bool := false
  quoinAt : Nat := 0
  quoinSilent : Bool := false
  claimAt : Option Nat := none
  claimSlots : List (Nat × Nat) := []
  claimVols : List (Nat × Nat) := []
  claimMaj : Bool := false
  answer : Option Nat := none
  fenced : Bool := false
  majority : List Nat := []
  pending : List Nat := []
  stopped : List Nat := []
  retryAt : Nat := 0
  regionsFrom : Nat := 0
  seenSlots : Table Owned := []
  seenVols : Table Owned := []
  deriving DecidableEq, Repr

/-- A frame on a bond link not yet acknowledged (16 R632): LSEQ, TYPE, CLASS, bytes, and how often it was replayed. -/
structure BondFrame where
  lseq : Nat
  type : Nat := 0
  cls : Nat := 0
  bytes : Nat
  replays : Nat := 0
  deriving DecidableEq, Repr

/-- A bond link (16 R630-R634): up, width in lanes, the far end's PKG_IDX, the key of its last training and the training count under it, frame counters
sent and received, LSEQ sent and received, unacknowledged frames, retrain and heartbeat ticks, lane-shedding windows and a
width change asked for. -/
structure Bond where
  up : Bool := false
  width : Nat := 8
  peer : Nat := 0
  keyed : Nat := 0
  training : Nat := 0
  frameCtr : Nat := 0
  rxCtr : Nat := 0
  lseq : Nat := 0
  rxLseq : Nat := 0
  unacked : List BondFrame := []
  ackAt : Nat := 0
  downAt : Nat := 0
  failed : Bool := false
  hbAt : Nat := 0
  hbSeen : Bool := false
  low : Nat := 0
  request : Option Nat := none
  deriving DecidableEq, Repr

/-- A record of another package's volume held in the mirror area (16 R637; assumption 21): ring and SEQ, and the member blocks it gives. -/
structure Mirror where
  pkg : Nat
  pier : Nat
  seq : Nat
  volume : Nat
  blocks : List Fetched
  deriving DecidableEq, Repr

/-- Ownership (16): the quoin's table of slots and volumes, package ownership, the epochs each drive region has learned by slot
(R625), what each member's reservation says (slot to holder pier, none: nobody), the piers, a dispute since the last grant, the
volumes held and the home piers awaiting a giveback (R621), Acquires in progress by pier and slot, the mirror's suspension, packages silent and
the partner records mirrored; the pier whose items are being handed to its partner for a live change (17 R664). -/
structure Ownership where
  slots : Table Owned := []
  vols : Table Owned := []
  pvols : Table PkgOwned := []
  learned : Table Nat := []
  holders : Table (Option Nat) := []
  piers : Table PierOwn := []
  dispute : Bool := false
  bonds : Table Bond := []
  pkgSilent : List Nat := []
  mirrorOff : Bool := false
  noBondFrom : Nat := 0
  giving : List Nat := []
  back : List Nat := []
  acquiring : List (Nat × Nat) := []
  mirrors : List Mirror := []
  lending : Option Nat := none
  deriving DecidableEq, Repr

end Sys2Proof.Machine
end

