-- ==== Sys2Proof/Machine/TypesStore.lean ====
section
/-!
DEFINITION. State of the volumes (08), the ledger's journal, maps and wear (09), the background jobs (10) and the drive ports
and slots (11).
-/
namespace Sys2Proof.Machine

/-- Member states (10 Member states). -/
inductive MState where
  | noDrive | spare | online | missing | failed | rebuilding | foreign
  deriving DecidableEq, Repr

/-- SLOT_MSTATE.STATE code. -/
def MState.code : MState → Nat
  | .noDrive => 0 | .spare => 1 | .online => 2 | .missing => 3 | .failed => 4 | .rebuilding => 5 | .foreign => 6

/-- Volume states (08 Volume states). -/
inductive VState where
  | none | creating | optimal | degraded | critical | failed | deleting
  deriving DecidableEq, Repr

/-- VOL_STAT.STATE code. -/
def VState.code : VState → Nat
  | .none => 0 | .creating => 1 | .optimal => 2 | .degraded => 3 | .critical => 4 | .failed => 5 | .deleting => 6

/-- An entry of a volume's member table (10 R397-R403): state, slot, GEN of the last stamp the member acknowledged, the tick
it became missing, and whether it waits for a suitable spare (event 370h). -/
structure Member where
  st : MState := .noDrive
  slot : Nat := 0
  gen : Nat := 0
  missingAt : Option Nat := none
  noSpare : Bool := false
  deriving DecidableEq, Repr

/-- A target of a pass (10 R413-R420): its index, its resync set (none: a full rebuild), the stripe at which it joined, and
whether the pass has gone round the last stripe since; `flush` the Flush that must be done before it completes. -/
structure Target where
  index : Nat
  resync : Option (List Nat) := none
  join : Nat := 0
  wrapped : Bool := false
  flush : Option Nat := none
  deriving DecidableEq, Repr

/-- A pass (10 R413-R424): the cursor in volume units, targets, write budget in bytes, the stripe (and whether in a reshape's new
geometry) whose target writes are awaited, the cursor of the last checkpoint, and whether it waits for a place (R422). -/
structure Pass where
  cursor : Nat := 0
  targets : List Target := []
  budget : Nat := 0
  awaiting : Option (Bool × Nat) := none
  saved : Nat := 0
  waiting : Bool := false
  deriving DecidableEq, Repr

/-- A reshape (10 R425-R436): boundary B in units, the old and the new geometry, the end E of the step in progress, whether the
step uses the backup and whether its moves have begun, the boundary of the last durable checkpoint, and the wait for a place. -/
structure Reshape where
  bound : Nat := 0
  oldWidth : Nat := 0
  oldStrip : Nat := 0
  newWidth : Nat := 0
  newStrip : Nat := 0
  step : Option Nat := none
  backup : Bool := false
  moved : Bool := false
  saved : Nat := 0
  waiting : Bool := false
  deriving DecidableEq, Repr

/-- A scrub (10 R437-R440): the next row (stripe * strip + unit in the strip), the rows to be revisited at the end of the pass, when
this pass began, when the next row is due, when the last pass ended, what it has checked and corrected, the cursor of the
last checkpoint, and the wait for a place. -/
structure Scrub where
  running : Bool := false
  cursor : Nat := 0
  revisit : List Nat := []
  start : Nat := 0
  next : Nat := 0
  saved : Nat := 0
  waiting : Bool := false
  last : Nat := 0
  checked : Nat := 0
  corrected : Nat := 0
  deriving DecidableEq, Repr

/-- A volume (08): state, owner pier, capacity C in units, UUID, GEN, members by index, members that have reported zeroing, the
bad-block list as rising volume units, extents being cleared by NSID with the units still to clear, the write-hole and absence
maps as regions with the tick a record touching each was last opened, and its jobs. -/
structure Volume where
  st : VState := .none
  owner : Nat := 0
  cap : Nat := 0
  uuid : Nat := 0
  gen : Nat := 0
  members : Table Member := []
  zeroed : List Nat := []
  full : Bool := false
  bad : List Nat := []
  clearing : List Nat := []
  hole : List Nat := []
  absent : List Nat := []
  touched : Table Nat := []
  level : Nat := 0
  pass : Option Pass := none
  reshape : Option Reshape := none
  scrub : Scrub := {}
  ckptSeq : Nat := 0
  creating : Bool := false
  deriving DecidableEq, Repr

/-- A drive's stamp as the device reads it (10 Member stamp): volume UUID, volume, index, TARGET, GEN and geometry. -/
structure Stamp where
  uuid : Nat := 0
  volume : Nat := 0
  index : Nat := 0
  target : Bool := false
  gen : Nat := 0
  deriving DecidableEq, Repr

/-- The drive in a slot, as the pier sees it: SLOT_MSTATE, its member block (0: 4,096+64, 1: 512+8, none: mismatch), its data
area in units, its stamp, its critical warning bits, and Flush commands issued and done (09 R365). -/
structure Drive where
  st : MState := .noDrive
  volume : Nat := 0
  index : Nat := 0
  mbs : Option Nat := none
  units : Nat := 0
  stamp : Option Stamp := none
  warning : Nat := 0
  flushIssued : Nat := 0
  flushDone : Nat := 0
  deriving DecidableEq, Repr

/-- A staged image of a member's unit (08 R332, R333): plaintext, stored bytes, and the record it was formed for. -/
structure Image where
  plain : Block := []
  stored : Block := []
  seq : Nat := 0
  deriving DecidableEq, Repr

/-- Kinds of a row (09 Row entry). -/
inductive RowKind where
  | full | delta | image
  deriving DecidableEq, Repr

/-- A row of an intent record (09 Row entry): stripe, unit in the strip, whether in a reshape's new geometry, kind, whether ZERO, ROWSTATE, the
new data blocks (strip, plaintext, stored bytes), ΔP and ΔQ, new P and Q, and the member writes not yet acknowledged (the strip
index; D is P, D + 1 is Q). -/
structure Row where
  stripe : Nat := 0
  row : Nat := 0
  newGeo : Bool := false
  kind : RowKind := .image
  zero : Bool := false
  state : Nat := 0
  news : List (Nat × Block × Block) := []
  dp : Block := []
  dq : Block := []
  p : Block := []
  q : Block := []
  waits : List Nat := []
  deriving DecidableEq, Repr

/-- An intent record (09 Intent record header): ring sequence, offset and length in the ring, KIND, volume, FUA, SINGLE, COPIED,
COMMITTED, RETIRED, the command, first unit and units, rows, time at OPEN, whether its member writes have begun, and the
Flush numbers it waits for by slot, and the secondary copies acknowledged. -/
structure IRec where
  seq : Nat := 0
  off : Nat := 0
  length : Nat := 0
  kind : Nat := 1
  volume : Nat := 0
  nsid : Nat := 0
  fua : Bool := false
  single : Bool := false
  copied : Bool := false
  committed : Bool := false
  retired : Bool := false
  abandoned : Bool := false
  cmd : Option Nat := none
  first : Nat := 0
  units : Nat := 0
  rows : List Row := []
  time : Nat := 0
  applying : Bool := false
  flush : List (Nat × Nat) := []
  copies : Nat := 0
  copySent : Bool := false
  mirrored : Bool := false
  waited : Option Nat := none
  deriving DecidableEq, Repr

/-- What a member command is for: a read for a host command's row, a write of a record's row, a repair write (08 R335), a pass's
write to a target (10 R413), a Flush (09 R365), a write of the reserved area (11 R453), a stamp with its GEN (10 R402), a
secondary copy of a record (09 R374). -/
inductive MUse where
  | read (cmd : Nat) (newGeo : Bool) (stripe row strip : Nat)
  | record (pier seq : Nat) (newGeo : Bool) (stripe row strip : Nat)
  | repair
  | target (volume index : Nat)
  | flush
  | reserved (volume : Nat)
  | stamp (volume member gen : Nat)
  | secondary (pier seq : Nat)
  deriving DecidableEq, Repr

/-- A command outstanding on a member (11 R455-R457): slot, volume, member index, member unit, the stored bytes of a write, its
use, the pier that asked and the epoch of the slot it asked under (16 R625), when submitted, and whether it has been reissued. -/
structure MCmd where
  id : Nat := 0
  write : Bool := false
  slot : Nat := 0
  volume : Nat := 0
  member : Nat := 0
  unit : Nat := 0
  stored : Block := []
  use : MUse := .repair
  pier : Nat := 0
  epoch : Nat := 0
  since : Nat := 0
  again : Bool := false
  deriving DecidableEq, Repr

/-- A pier's storage side: staged images keyed (volume * 24 + member) * 2^37 + member unit, accumulators held by (command,
stripe), partial writes that wait for staging, its journal ring (next SEQ, next offset, records), and what has waited. -/
structure PierStore where
  staged : Table Image := []
  accs : List (Nat × Nat) := []
  seq : Nat := 0
  pos : Nat := 0
  recs : List IRec := []
  waitJournal : Nat := 0
  waitStage : Nat := 0
  deriving DecidableEq, Repr

/-- Wear and retention of the ledger (09 R384-R394): remaps of logical segments (to die * 4,096 + physical segment), wear in bytes
written and as last saved, physical segments retired, journal segments withdrawn, line writes of window slots since
their remap; the repointing pass: next segment, when it began, the tick by which it is to end, the tick of the next
segment, when the last pass ended; HOT and the last tick a ledger die read above 110 °C; temperatures. -/
structure Wear where
  remaps : Table Nat := []
  bytes : Table Nat := []
  savedBytes : Table Nat := []
  retired : List Nat := []
  withdrawn : List Nat := []
  windowWrites : Table Nat := []
  passSegment : Nat := 0
  passStart : Nat := 0
  passEnd : Nat := 0
  passNext : Nat := 0
  passLast : Nat := 0
  repointing : Bool := false
  hot : Bool := false
  hotAt : Nat := 0
  tempNow : Int := 0
  peaks : List (Nat × Int) := []
  deriving DecidableEq, Repr

/-- The ledger (09): device state loaded, time mark and orderly-stop flag of device state; CLEAN; recovery done, by pier;
working dies and dies failed; the piers; wear; ledger lines lost since (09 R395), by line number. -/
structure Ledger where
  stateLoaded : Bool := false
  timeMark : Nat := 0
  orderly : Bool := true
  clean : Bool := false
  recovered : Table Bool := []
  dieOk : List Nat := []
  dieFailed : List Nat := []
  piers : Table PierStore := []
  wear : Wear := {}
  lostLines : List Nat := []
  deriving DecidableEq, Repr

/-- Volumes, drives and the commands outstanding on members; `flushing` the writes acknowledged that are durable once a Flush of
their slot's number is done (11 R460): slot, number, use. -/
structure Store where
  vols : Table Volume := []
  drives : Table Drive := []
  mcmds : List MCmd := []
  nextMcmd : Nat := 0
  flushing : List (Nat × Nat × MUse) := []
  memberBusy : Bool := false
  jobTurn : Nat := 0
  deriving DecidableEq, Repr

/-- A root port (11): link, rate, width, controller ready, format mismatch, volatile write cache, queue pairs, when the
initiator took the link down, when the slot was powered, whether 388h has been recorded, when training was last retried, when
health was last read and whether a notice asks for it. -/
structure RootPort where
  up : Bool := false
  rate : Nat := 0
  width : Nat := 0
  ready : Bool := false
  fmtBad : Bool := false
  vwc : Bool := false
  queues : Nat := 0
  takenAt : Option Nat := none
  poweredAt : Nat := 0
  noted : Bool := false
  retryAt : Nat := 0
  smartAt : Nat := 0
  smartDue : Bool := false
  deriving DecidableEq, Repr

/-- Slot states (11 Slot states). -/
inductive SlotSt where
  | empty | debounce | ramp | on | retryWait | locked | off
  deriving DecidableEq, Repr

/-- SLOT_STAT.STATE code. -/
def SlotSt.code : SlotSt → Nat
  | .empty => 0 | .debounce => 1 | .ramp => 2 | .on => 3 | .retryWait => 4 | .locked => 5 | .off => 6

/-- A slot's power (11): state, filtered presence and the tick from which it holds, insertion recognised, switches, ramp, the
retry wait and whether it is over, retries, breaker, samples and hold values, and the tick of the last
sample. -/
structure SlotPwr where
  st : SlotSt := .empty
  present : Bool := false
  presentAt : Nat := 0
  seated : Bool := false
  aux : Bool := false
  auxAt : Nat := 0
  gate : Bool := false
  rampAt : Nat := 0
  onAt : Nat := 0
  waitAt : Nat := 0
  waitOver : Bool := false
  cycleAt : Option Nat := none
  cause : Nat := 0
  retries : Nat := 0
  acc : Nat := 0
  mv : Nat := 0
  ma : Nat := 0
  auxMa : Nat := 0
  peakV : Nat := 0
  minV : Nat := 0xFFFF
  peakI : Nat := 0
  minI : Nat := 0xFFFF
  diodeA : Bool := false
  diodeB : Bool := false
  sampledAt : Option Nat := none
  deriving DecidableEq, Repr

/-- Drive ports and slot power (11): root ports, slots, feeds present and their voltages. -/
structure Shelf where
  ports : Table RootPort := []
  slots : Table SlotPwr := []
  feedA : Bool := false
  feedB : Bool := false
  mvA : Nat := 0
  mvB : Nat := 0
  deriving DecidableEq, Repr

end Sys2Proof.Machine
end

