-- ==== Sys2Proof/Machine/TypesTenant.lean ====
section
/-!
DEFINITION. State of the tenants, the scheduler and the meters (05).
-/
namespace Sys2Proof.Machine

/-- A tenant's buckets (05 R205, R218): Tc and Tp in 1/256 byte at `polAt`, shaper tokens in 1/16 bit at `shpAt`; and its
commands accepted and not yet completed or cancelled. -/
structure TnState where
  tc : Nat := 0
  tp : Nat := 0
  polAt : Nat := 0
  tokens : Int := 0
  shpAt : Nat := 0
  outstanding : Nat := 0
  deriving DecidableEq, Repr

/-- A meter record (05 Meter record). In a discontinuity record `rd`, `wr` and `ok` hold offsets 32, 40 and 48. -/
structure MeterRec where
  discontinuity : Bool := false
  tenant : Nat := 0
  flags : Nat := 0
  seq : Nat := 0
  start : Nat := 0
  stop : Nat := 0
  rd : Nat := 0
  wr : Nat := 0
  ok : Nat := 0
  bad : Nat := 0
  dropPkts : Nat := 0
  dropBytes : Nat := 0
  yellow : Nat := 0
  win : Nat := 0
  peak : Nat := 0
  keyId : Nat := 0
  mark : List Byte := []
  deriving DecidableEq, Repr

/-- The meter's checkpoint in the ledger (05 R234). -/
structure MeterCheckpoint where
  recs : Table MeterRec := []
  seq : Nat := 0
  time : Nat := 0
  deriving DecidableEq, Repr

/-- The meter (05): open records by tenant, records closed and not yet written, the key in force and the one that awaits the
next boundary with that boundary's tick; in the ledger, the next SEQ, the ring by slot, its head, the records not yet
exported, and the checkpoint; MTR_EXP_WR and MTR_LOST. -/
structure Meter where
  opened : Table MeterRec := []
  closed : List MeterRec := []
  keyId : Nat := 0
  keyNext : Option (Nat × Nat) := none
  seq : Nat := 0
  ring : Table MeterRec := []
  head : Nat := 0
  unexported : Nat := 0
  checkpoint : MeterCheckpoint := {}
  expWr : Nat := 0
  lost : Nat := 0
  deriving DecidableEq, Repr

/-- Tenancy (05). Class queues, their heads' ticks and their promotions (bytes sent since promotion) are keyed
(mac * 1024 + tenant) * 4 + class; deficits mac * 1024 + tenant; the turns of EQ2 and EQ3 by MAC; histogram bins
((kind * 1024 + tenant) * 4 + class) * 32 + bin. `redTenants` are those with red drops in this window. -/
structure Tenancy where
  tns : Table TnState := []
  classQ : Table (List TxFrame) := []
  heads : Table Nat := []
  promoted : Table (Option Nat) := []
  deficits : Table Int := []
  turn2 : Table Nat := []
  turn3 : Table (Option Nat) := []
  hist : Table Nat := []
  redTenants : List Nat := []
  meter : Meter := {}
  deriving DecidableEq, Repr

end Sys2Proof.Machine
end

