-- ==== Sys2Proof/Machine/State.lean ====
section
/-!
DEFINITION. The state of the block: everything the spec gives the device (`Dev`), the dies' event queues and the queue of
waiting commands. Plain data; every table is sparse and canonical (Table.lean).
-/
namespace Sys2Proof.Machine

/-- The device. `regs` holds the writable register fields (key `Fld.key`), `ctrs` the 64-bit counters, `latches` each
requester's latched high words (01 R50). `fresh` numbers the free values drawn so far (assumption 1: the model's own).
`out` is what the last command sent out and `raised` the events it raised, in order; both are empty between commands
but for that record (the model's own, assumption 3). The other fields are one part per chapter. -/
structure Dev where
  time : BitVec 64
  timeLoaded : Bool
  fresh : Nat
  out : List Out
  raised : List Occ
  regs : Table Nat
  ctrs : Table Nat
  marks : Table Nat
  latches : Table (Option Nat)
  arch : Arch
  mode : ModeState
  fw : Firmware
  pkg : Package
  evr : Recorder
  net : Net
  sw : Pool
  ten : Tenancy
  own : Ownership
  cust : Custody
  ldg : Ledger
  ep : Endpoint
  od : Management
  store : Store
  shelf : Shelf
  rdma : Rdma
  nvme : Nvme
  dma : Dma
  deriving DecidableEq, Repr

/-- The device as it is when Plinth first runs (17 R643, R654): DORMANT, every register field at its reset value, every
table empty. `time` 0 is DESIGN CHOICE (assumption 2). -/
def Dev.init : Dev where
  time := 0
  timeLoaded := false
  fresh := 0
  out := []
  raised := []
  regs := []
  ctrs := []
  marks := []
  latches := []
  arch := {}
  mode := {}
  fw := {}
  pkg := {}
  evr := {}
  net := {}
  sw := {}
  ten := {}
  own := {}
  cust := {}
  ldg := {}
  ep := {}
  od := {}
  store := {}
  shelf := {}
  rdma := {}
  nvme := {}
  dma := {}

/-- The whole state: the device, the event queues of the dies (15 R599) and the commands waiting, first in first out. -/
structure State where
  dev : Dev
  evq : EventQueues
  pending : List Instr
  deriving DecidableEq, Repr

/-- No command of this block ends in a fault. -/
inductive Fault where
  /-- Raised by nothing: kept so that the type has a name; safe. -/
  | none
  deriving DecidableEq, Repr

/-- Why a command has no meaning. -/
inductive Refusal where
  /-- Raised by the dispatch for a command that has no meaning yet; safe (the machine stops). -/
  | notModelled (mnemonic : String)
  deriving DecidableEq, Repr

/-- The outcome of a meaning. -/
abbrev Result := Host.Outcome State Fault Refusal

/-- The state after reset: `Dev.init`, no event waiting, no command waiting. -/
def State.reset : State := ⟨Dev.init, ⟨[], [], [], []⟩, []⟩

end Sys2Proof.Machine
end

