-- ==== Sys2Proof/Machine/Ops.lean ====
section
/-!
DEFINITION. The operations every chapter shares: register fields, counters, device time, free values, events, outputs,
and the two ways a meaning acts on the state.
-/
namespace Sys2Proof.Machine

/-- The key of instance `i` of a field in `Dev.regs`. -/
def Fld.key (f : Fld) (i : Nat) : Nat := i * 1024 + f.ctorIdx

/-- A stored register field (00 R4, R5). -/
def Dev.fld (s : Dev) (f : Fld) (i : Nat := 0) : Nat := s.regs.get (f.resetAt i) (f.key i)

/-- A one-bit register field as a truth value. -/
def Dev.flag (s : Dev) (f : Fld) (i : Nat := 0) : Bool := s.fld f i != 0

/-- Store a register field; bits beyond its width are dropped. -/
def Dev.setFld (s : Dev) (f : Fld) (i v : Nat) : Dev :=
  { s with regs := s.regs.put (f.resetAt i) (f.key i) (v % 2 ^ f.info.width) }

/-- Read a field of width `w` as a signed number. -/
def signed (w v : Nat) : Int := if 2 * v < 2 ^ w then (v : Int) else (v : Int) - (2 ^ w : Nat)

/-- The low `w` bits of a signed number. -/
def unsigned (w : Nat) (v : Int) : Nat := (v % (2 ^ w : Nat)).toNat

/-- A signed number kept within `w` signed bits. -/
def satSigned (w : Nat) (v : Int) : Int :=
  if v < -((2 ^ (w - 1) : Nat) : Int) then -((2 ^ (w - 1) : Nat) : Int)
  else if ((2 ^ (w - 1) : Nat) : Int) - 1 < v then ((2 ^ (w - 1) : Nat) : Int) - 1 else v

/-- Bits `hi` to `lo` of a word. -/
def bitsOf (w : Word) (hi lo : Nat) : Nat := (w.toNat >>> lo) % 2 ^ (hi - lo + 1)

/-- Bit `b` of a word. -/
def bitOf (w : Word) (b : Nat) : Bool := w.getLsbD b

/-- The key of a counter instance in `Dev.ctrs`. -/
def Ctr.key (c : Ctr) (i : Nat) : Nat := i * 256 + c.ctorIdx

/-- A 64-bit counter (02 R89). -/
def Dev.ctr (s : Dev) (c : Ctr) (i : Nat := 0) : Nat := s.ctrs.get 0 (c.key i)

/-- Advance a counter by `n`; it wraps at 2^64 (02 R89). -/
def Dev.count (s : Dev) (c : Ctr) (i : Nat := 0) (n : Nat := 1) : Dev :=
  { s with ctrs := s.ctrs.put 0 (c.key i) ((s.ctr c i + n) % 2 ^ 64) }

/-- Count general jobs completed (07 GC_JOBS, R269; assumption 69). -/
def Dev.countJobs (s : Dev) (n : Nat) : Dev := if n = 0 then s else s.count .CX_GC_JOBS 0 n

/-- Device time on Plinth (00 R7). -/
def Dev.now (s : Dev) : Nat := s.time.toNat

/-- A die's own copy of device time (01 R37). -/
def Dev.nowOn (s : Dev) : Die → Nat
  | .pe => ((s.now : Int) + s.arch.offPE).toNat
  | .pw => ((s.now : Int) + s.arch.offPW).toNat
  | .ln => ((s.now : Int) + s.arch.offLN).toNat
  | .pl => s.now

/-- A timer armed at tick `t` for `d` has expired on a die (00 R8: strictly later than t + d). -/
def Dev.expired (s : Dev) (d : Die) (t dur : Nat) : Bool := decide (t + dur < s.nowOn d)

/-- Nanoseconds in a microsecond, a millisecond and a second. -/
def us : Nat := 1000
def ms : Nat := 1000000
def sec : Nat := 1000000000

/-- A count kept for the window of an aggregated event (00 R9), by key. -/
def Dev.mark (s : Dev) (k : Nat) : Nat := s.marks.get 0 k

/-- Add to a window's count. -/
def Dev.addMark (s : Dev) (k : Nat) (n : Nat := 1) : Dev := { s with marks := s.marks.put 0 k (s.mark k + n) }

/-- Send something out. -/
def Dev.emit (s : Dev) (o : Out) : Dev := { s with out := s.out ++ [o] }

/-- Draw a fresh free value: its number is the draw count, which the draw advances (assumption 1). -/
def Dev.draw (s : Dev) : Nat × Dev := ((Config.freeValue s.fresh).toNat, { s with fresh := s.fresh + 1 })

/-- `n` little-endian bytes of a number (15 R703). -/
def le (n v : Nat) : List Byte := (List.range n).map (fun k => BitVec.ofNat 8 (v / 256 ^ k))

/-- A count in four bytes, saturating (15 R703). -/
def leCount (v : Nat) : List Byte := le 4 (sat 0xFFFFFFFF v)

/-- A signed number in `n` bytes. -/
def leSigned (n : Nat) (v : Int) : List Byte := le n (unsigned (8 * n) v)

/-- An event occurs on a die (15 R590): it is stamped with that die's time and raised; what becomes of it on the way to the
recorder is `EventQueues.push`. `code` is its cause code and `detail` its packed detail (R589, R703). -/
def Dev.event (s : Dev) (d : Die) (id : Nat) (detail : List Byte := []) (code : Nat := 0) : Dev :=
  { s with raised := s.raised ++ [⟨s.nowOn d, d, id, code, detail, !s.timeLoaded⟩] }

/-- An event raised only when `c` holds. -/
def Dev.eventIf (s : Dev) (c : Bool) (d : Die) (id : Nat) (detail : List Byte := []) (code : Nat := 0) : Dev :=
  if c then s.event d id detail code else s

/-- An event whose cause the spec names without numbering it: its CODE is a free value (assumption 1). -/
def Dev.eventOpenCause (s : Dev) (d : Die) (id : Nat) (detail : List Byte := []) : Dev :=
  let r := s.draw
  r.2.event d id detail (r.1 % 65536)

/-- A region's state. -/
def Dev.region (s : Dev) (r : Nat) : Region := s.arch.regions.get {} r

/-- Change a region's state. -/
def Dev.setRegion (s : Dev) (r : Nat) (x : Region) : Dev :=
  { s with arch := { s.arch with regions := s.arch.regions.put {} r x } }

/-- A region is isolated (01 R19). -/
def Dev.isolated (s : Dev) (r : Nat) : Bool := (s.region r).isolated

/-- A seam's state. -/
def Dev.seam (s : Dev) (k : Nat) : Seam := s.arch.seams.get {} k

/-- Change a seam's state. -/
def Dev.setSeam (s : Dev) (k : Nat) (x : Seam) : Dev :=
  { s with arch := { s.arch with seams := s.arch.seams.put {} k x } }

/-- The seam regions at the ends of a seam (01 R27): 5 is Pier East's, 11 Pier West's. -/
def seamRegions : Nat → List Nat
  | 0 => [5, 11]
  | 1 => [5]
  | 2 => [11]
  | 3 => [5]
  | 4 => [11]
  | _ => []

/-- A seam carries flits: trained, not down, and no seam region at its ends isolated (01 R701). -/
def Dev.seamUp (s : Dev) (k : Nat) : Bool :=
  (s.seam k).up && !(s.seam k).down && (seamRegions k).all (fun r => !s.isolated r)

/-- The seam by which a die reaches Plinth (01, table Seams). -/
def Dev.reachesPlinth (s : Dev) : Die → Bool
  | .pe => s.seamUp 3
  | .pw => s.seamUp 4
  | .ln => s.seamUp 5
  | .pl => true

/-- A rail's state. -/
def Dev.rail (s : Dev) (r : Nat) : Rail := s.arch.rails.get {} r

/-- Change a rail's state. -/
def Dev.setRail (s : Dev) (r : Nat) (x : Rail) : Dev :=
  { s with arch := { s.arch with rails := s.arch.rails.put {} r x } }

/-- The die of a region (01, table Region indices). -/
def regionDie (r : Nat) : Die := if r < 6 then .pe else if r < 12 then .pw else if r < 19 then .ln else .pl

/-- Clusters in a region (01 R700). -/
def clustersOf (r : Nat) : Nat :=
  [40, 36, 32, 24, 40, 18, 40, 36, 32, 24, 40, 18, 64, 40, 36, 28, 40, 20, 32, 16, 32, 16, 16].getD r 0

/-- The first die-wide cluster number of a region (01 R700). -/
def firstClusterOf (r : Nat) : Nat :=
  [0, 40, 76, 108, 132, 172, 0, 40, 76, 108, 132, 172, 0, 64, 104, 140, 168, 208, 228, 0, 16, 48, 64].getD r 0

/-- An event queue of a die holds 64 occurrences (15 R599). -/
def eventQueueDepth : Nat := 64

/-- A die's queue. -/
def EventQueues.get (q : EventQueues) : Die → List Occ
  | .pe => q.pe | .pw => q.pw | .ln => q.ln | .pl => q.pl

/-- Replace a die's queue. -/
def EventQueues.set (q : EventQueues) (d : Die) (l : List Occ) : EventQueues :=
  match d with
  | .pe => { q with pe := l }
  | .pw => { q with pw := l }
  | .ln => { q with ln := l }
  | .pl => { q with pl := l }

/-- An occurrence can enter its die's queue: Plinth's own reach the controller directly; another die's need its seam to
Plinth and room among the 64 (15 R599). -/
def EventQueues.accepts (q : EventQueues) (reach : Die → Bool) (o : Occ) : Bool :=
  match o.die with
  | .pl => true
  | d => reach d && decide ((q.get d).length < eventQueueDepth)

/-- The occurrences enter their queues in order; those that cannot are dropped and returned (15 R599). -/
def EventQueues.push (reach : Die → Bool) : EventQueues → List Occ → EventQueues × List Occ
  | q, [] => (q, [])
  | q, o :: os =>
    if q.accepts reach o then EventQueues.push reach (q.set o.die (q.get o.die ++ [o])) os
    else
      let r := EventQueues.push reach q os
      (r.1, o :: r.2)

/-- An event of severity `v` is dropped: it counts in EV_DROP, saturating, and in the window's count (15 R596). -/
def Dev.dropSeverity (s : Dev) (v : Nat) : Dev :=
  { s with evr := { s.evr with
      drops := s.evr.drops.put 0 v (sat 0xFFFFFFFF (s.evr.drops.get 0 v + 1))
      windowDrops := s.evr.windowDrops.put 0 v (s.evr.windowDrops.get 0 v + 1)
      gap := true } }

/-- An occurrence is dropped with its own severity (15 R599). -/
def Dev.dropEvent (s : Dev) (o : Occ) : Dev := s.dropSeverity (eventSeverity o.id)

end Sys2Proof.Machine
end

