-- ==== Sys2Proof/Machine/Params.lean ====
section
/-!
DEFINITION. Parameters (14 R557-R559): which register fields are stored in the parameter store, and what a write queues for it.
-/
namespace Sys2Proof.Machine

/-- The register fields that are parameters: those of right rw or rwp in the chapters' register tables and in table Principal objects,
less those marked volatile (14 R557, R559; assumption 22). -/
def paramFlds : List Fld := [
  .GOV_CTL_TARGET_PS, .GOV_CTL_PMB_ADDR, .GOV_PS_PS1_PS, .GOV_PS_PS2_PS, .GOV_PS_PS3_PS, .PORT_CFG_ENABLE, .PORT_CFG_PHY,
  .PORT_CFG_SPLIT, .PTP_CFG_EN, .PTP_CFG_ALT_EN, .PTP_CFG_TRANSPORT, .PTP_CFG_PRI_MAC, .PTP_CFG_ALT_MAC, .PTP_CFG_DOMAIN,
  .MAC_IP4_ADDR, .MAC_IP6_ADDR, .RD_CFG_ACK_TO_EXP, .RD_CFG_RETRY_CNT, .RD_CFG_RNR_RETRY, .RD_CFG_RNR_TIMER, .RD_CFG_CRED_RES,
  .RD_CFG_READ_MAX, .RD_TIMING_QUIET_TO, .RD_TIMING_REVOKE_TO, .WIN_CFG_ATOMIC, .WIN_CFG_READ, .WIN_CFG_WRITE, .WIN_CFG_LEN,
  .WIN_CFG_TENANT, .FE_CFG_CMD_TO, .HOST_CFG_ENABLE, .HOST_CFG_PRIV, .HOST_CFG_MAX_CTRL, .HOST_CFG_TENANT, .NS_CFG_ACTIVE,
  .NS_CFG_PIT, .NS_CFG_LBAF, .NS_CFG_VOLUME, .NS_CFG_TENANT, .NS_BASE_LO_VALUE, .NS_BASE_HI_VALUE, .NS_SIZE_LO_VALUE,
  .NS_SIZE_HI_VALUE, .TN_GLB_METER_EN, .TN_GLB_OVH, .TN_CFG_ENABLE, .TN_CFG_POL_EN, .TN_CFG_SHP_EN, .TN_CFG_WEIGHT,
  .TN_CIR_RATE, .TN_PIR_RATE, .TN_SRATE_RATE, .TN_CBS_BURST, .TN_PBS_BURST, .TN_SBURST_BURST, .CLS_DL_DL_US,
  .BG_DL_DEG_DL_US, .BG_DL_CRIT_DL_US, .NS_CLASS_CLASS, .MTR_KEY_KEY_ID] ++ [
  .SW_ALPHA_K_URG, .SW_ALPHA_K_LAT, .SW_ALPHA_K_THR, .SW_ALPHA_K_BG, .SW_WATCH_FREE_LOW, .CX_SECRET_SEAL, .ALM_CFG_EXT_POL,
  .ALM_CFG_EXT_EN, .LDG_CFG_SEC_LAG, .LDG_CFG_MAP_IDLE, .RB_CFG_AUTO, .RB_CFG_MISS_TO, .RB_RATE_RATE_CRIT, .RB_RATE_RATE_DEG,
  .SCRUB_CFG_EN, .SCRUB_CFG_INTERVAL, .FEED_CFG_VA_MV, .FEED_CFG_B_DIS, .FEED_CFG_A_DIS, .SLOT_CFG_AUTO_ON,
  .SLOT_CFG_RETRY_MAX, .SLOT_CFG_RETRY_S, .SLOT_CFG_AUX_DLY, .SLOT_CFG_SLOPE, .SLOT_FT_FT_A, .SLOT_FT_SENSE_UOHM,
  .SLOT_CURVE_CUR, .SLOT_CURVE_TIME, .DRV_CFG_DUAL, .DRV_CFG_WCE_OFF, .DRV_CFG_LINK_TO, .DRV_CFG_MCMD_TO, .EP_CFG_SSID,
  .EP_RO_AP_CPL, .EP_RO_DMA_RD, .EP_RO_DMA_WR, .EP_RO_NV_SQ, .EP_RO_NV_RD, .EP_RO_NV_WR, .EP_VEC_PF0_VEC, .EP_VEC_VF_VEC,
  .EP_FN_CFG_EN, .EP_FN_CFG_HOST, .EP_IRQ_SRC_EN, .EP_IRQ_SRC_VEC, .EP_WIN_EN, .EP_WIN_WRITE, .EP_WIN_READ, .EP_WIN_STACK,
  .EP_WIN_UNIT, .EV_IRQ_MIN, .EV_IRQ_HOLDOFF, .OWN_CFG_AUTO_BACK, .OWN_CFG_QUOIN_TO, .BOND_CFG_EN, .BOND_CFG_SHED_EN,
  .BOND_CFG_MIRROR, .BOND_CFG_MIN_WIDTH, .BOND_CFG_KEY_ID, .FW_CFG_CONFIRM_S, .PWR_RAIL_ADDR, .THERM_CFG_WARN,
  .CLK_CFG_XSPI_SS, .CLK_CFG_MG_SS]

/-- Writable fields that are no parameters whatever the description file says: selectors, volatile objects, and fields that belong to
the counter block, the dictionary window, the DMA channels and the export rings. -/
def volatileFlds : List Fld := [
  .RD_QP_SEL_INDEX, .WIN_SEL_SLOT, .HOST_SEL_INDEX, .NS_SEL_NSID, .TN_SEL_TENANT, .HIST_SEL_KIND, .HIST_SEL_TENANT,
  .HIST_SEL_CLASS, .MTR_RDIDX_INDEX, .SW_VOQ_SEL_INPUT, .SW_VOQ_SEL_OUTPUT, .SW_VOQ_SEL_CLASS, .KEY_SEL_KIND, .KEY_SEL_INDEX,
  .KEY_USE_SIZE, .KEY_USE_USE, .KEY_DATA_DATA, .VOL_SEL_VOLUME, .VOL_CFG_HOME, .VOL_CFG_WIDTH, .VOL_CFG_STRIP, .VOL_CFG_MBS,
  .VOL_MEMBER_USED, .VOL_MEMBER_SLOT, .BB_SEL_INDEX, .LDG_SEG_SEL_SEGMENT, .MAP_SEL_VOLUME, .MEMBER_CMD_SLOT,
  .RS_CFG_NEW_WIDTH, .RS_CFG_NEW_STRIP, .RS_NEW_USED, .RS_NEW_SLOT, .CLUSTER_RESET_REGION, .CLUSTER_RESET_CLUSTER,
  .EP_FN_SEL_FN, .MG_OBJ_INDEX, .MG_OBJ_SUB, .MG_OFFSET_OFFSET, .MG_CTL_WRITE, .MG_CTL_LENGTH, .MG_DATA_DATA, .EV_RDIDX_SLOT,
  .CNT_CTL_EN, .CNT_CTL_STACK, .CNT_CTL_SIZE_LOG2, .CNT_CSEL_REGION, .CNT_CSEL_CLUSTER, .CNT_CFG_MODE, .CNT_CFG_CODE,
  .CNT_CFG_THRESH, .SMP_CTL_EN, .SMP_CTL_STOP, .SMP_CTL_MATCH, .SMP_CTL_PERIOD, .SMP_MATCH_VALUE, .CNT_WIN_SEL_BUF,
  .CNT_WIN_SEL_OFFSET]

/-- Numbers of the parameter fields, and of the volatile ones. -/
def paramNumbers : List Nat := paramFlds.map Fld.ctorIdx
def volatileNumbers : List Nat := volatileFlds.map Fld.ctorIdx

/-- A key of `Dev.regs` is a parameter's; of the fields no page names an object for, the description file decides (assumption 22). -/
def isParamKey (k : Nat) : Bool :=
  let n := k % 1024
  paramNumbers.contains n || (!volatileNumbers.contains n && Config.describedParam n)

/-- The parameter fields whose values differ between two devices, with the values of the second. -/
def paramsChanged (a b : Table Nat) : List (Nat × Option Nat) :=
  let ks := b.keys ++ a.keys.filter (fun k => (b.find k).isNone)
  (ks.filter (fun k => decide (a.find k ≠ b.find k) && isParamKey k)).map (fun k => (k, b.find k))

/-- Something waits to be stored. -/
def Dev.queueStore (s : Dev) (x : Storing) : Dev := { s with fw := { s.fw with storing := s.fw.storing ++ [x] } }

/-- A session no longer waits for the answer to a write being stored. -/
def Dev.forgetAnswer (s : Dev) (n : Nat) : Dev :=
  { s with fw := { s.fw with storing := s.fw.storing.map (fun x => if x.session = some n then { x with session := none } else x) } }

/-- A write, by whichever path, of parameters: the new values wait to be stored (14 R557). -/
def Dev.storeChanged (s : Dev) (before : Dev) : Dev :=
  let ks := paramsChanged before.regs s.regs
  if ks.isEmpty then s else s.queueStore { fields := ks }

end Sys2Proof.Machine
end

