-- ==== Sys2Proof/Machine/BondOps.lean ====
section
/-!
DEFINITION. Sending on the Salben bond links (16 R630-R632, R637).
-/
namespace Sys2Proof.Machine

/-- Key of the count of frames with a failed tag, by link, for the window of 306h. -/
def markBondTag (k : Nat) : Nat := 300 + k

/-- A bond link. -/
def Dev.bond (s : Dev) (k : Nat) : Bond := s.own.bonds.get {} k

/-- Change a bond link. -/
def Dev.setBond (s : Dev) (k : Nat) (x : Bond) : Dev := { s with own := { s.own with bonds := s.own.bonds.put {} k x } }

/-- TYPE of a Salben frame (16 Salben frame). -/
def bondHeartbeat : Nat := 0x01
def bondMirrorType : Nat := 0x03
def bondMirrorAckType : Nat := 0x04
def bondForwardType : Nat := 0x05
def bondData : Nat := 0x06
def bondCompletionType : Nat := 0x07
def bondAckType : Nat := 0x08
def bondWidthType : Nat := 0x09
def bondWidthAckType : Nat := 0x0A

/-- Largest payload of a frame (16 Salben frame, R631), and of the replay buffer (R632). -/
def bondPayload : Nat := 16352
def bondBuffer : Nat := 4 * 2 ^ 20

/-- The replay buffer has room for `n` more bytes. -/
def Dev.bondRoom (s : Dev) (k n : Nat) : Bool := decide (((s.bond k).unacked.map (·.bytes)).sum + n ≤ bondBuffer)

/-- One frame is sent and kept until it is acknowledged (16 R632; 07 R302): LSEQ and FRAME_CTR advance; a general job seals it. -/
def Dev.bondFrame (s : Dev) (k type cls len : Nat) : Dev :=
  let x := s.bond k
  let n := (x.lseq + 1) % 2 ^ 32
  let s := s.countJobs 1
  (s.setBond k { x with lseq := n, frameCtr := x.frameCtr + 1, unacked := x.unacked ++ [{ lseq := n, type := type, cls := cls, bytes := len }]
                        ackAt := if x.unacked.isEmpty then s.nowOn .ln else x.ackAt }).emit
    (.bondFrame k type cls n len x.training x.frameCtr)

/-- A link carries frames: it is up, and neither the general cipher's nor the bond's region is isolated (01 R20; 07 R302). -/
def Dev.bondRuns (s : Dev) (k : Nat) : Bool := (s.bond k).up && !s.isolated 17 && !s.isolated 18

/-- Bytes sent on a link that carries frames, in frames of at most 16 KiB (16 R631). -/
def Dev.bondSend (s : Dev) (k type cls len : Nat) : Dev :=
  if !s.bondRuns k then s
  else (List.range (max 1 ((len + bondPayload - 1) / bondPayload))).foldl (fun s i => s.bondFrame k type cls (min bondPayload (len - i * bondPayload))) s

/-- Bond links that carry frames. -/
def Dev.bondsUp (s : Dev) : List Nat := (List.range 2).filter (fun k => s.bondRuns k)

/-- This package's index (01 GLB_CAP.PKG_IDX). -/
def Dev.pkgIdx (s : Dev) : Nat := s.pkg.pkgIdx

/-- Owning package and package epoch of a volume (16 R636): this package where none is listed (assumption 17). -/
def Dev.pvol (s : Dev) (v : Nat) : PkgOwned := (s.own.pvols.find v).getD ⟨s.pkgIdx, 0⟩

/-- Another package owns a volume (04 R148). -/
def Dev.foreignVol (s : Dev) (v : Nat) : Bool := (s.pvol v).pkg != s.pkgIdx

/-- The link towards a package: one to it, else any (16 R638). -/
def Dev.linkTo (s : Dev) (pkg : Nat) : Option Nat :=
  match s.bondsUp.find? (fun k => (s.bond k).peer == pkg) with
  | some k => some k
  | none => s.bondsUp.head?

/-- A record is sent to the partner's mirror area (16 R637). -/
def Dev.mirrorSend (s : Dev) (p seq len : Nat) : Dev :=
  match s.bondsUp.find? (fun k => s.flag .BOND_CFG_MIRROR k) with
  | some k => ((s.bondSend k bondMirrorType 0 len).count .OWN_MIRROR_RECORDS).emit (.bondMirror k p seq)
  | none => s

end Sys2Proof.Machine
end

