-- ==== Sys2Proof/Machine/SwitchOps.lean ====
section
/-!
DEFINITION. The switch core and the mortar pool (06): dynamic thresholds, allocation, availability of outputs, crossing.
-/
namespace Sys2Proof.Machine

/-- Cells of the pool (06 R247). -/
def poolCells : Nat := 655360

/-- VOQ index of input i, output o, class c (06 R248). -/
def voqIndex (i o c : Nat) : Nat := 64 * i + 4 * o + c

/-- Cells charged by units and reservations for which `p input output class` holds. -/
def Dev.cellsWhere (s : Dev) (p : Nat → Nat → Nat → Bool) : Nat :=
  ((s.sw.units.filter (fun u => p u.input u.output u.cls)).map (·.cells)).sum +
  ((s.sw.rsv.filter (fun u => p u.input u.output u.cls)).map (·.cells)).sum

/-- The free count F (06 R247). -/
def Dev.poolFree (s : Dev) : Nat := poolCells - s.cellsWhere (fun _ _ _ => true)

/-- Occupancy of a VOQ, reserved cells included (06 SW_VOQ_OCC). -/
def Dev.voqOcc (s : Dev) (i o c : Nat) : Nat := s.cellsWhere (fun a b d => a == i && b == o && d == c)

/-- The exponent k of a class (06 SW_ALPHA), signed. -/
def Dev.alphaExp (s : Dev) (c : Nat) : Int :=
  signed 4 (match c with
    | 0 => s.fld .SW_ALPHA_K_URG
    | 1 => s.fld .SW_ALPHA_K_LAT
    | 2 => s.fld .SW_ALPHA_K_THR
    | _ => s.fld .SW_ALPHA_K_BG)

/-- The dynamic threshold test for n cells (06 R253): Q + n ≤ 2^k · F, exact for k < 0, and n ≤ F. -/
def fitsPool (k : Int) (q n f : Nat) : Bool :=
  (if 0 ≤ k then decide (q + n ≤ f * 2 ^ k.toNat) else decide ((q + n) * 2 ^ (-k).toNat ≤ f)) && decide (n ≤ f)

/-- How many of n cells pass, each allocated alone (06 R254). -/
def cellsPassing (k : Int) : Nat → Nat → Nat → Nat
  | _, _, 0 => 0
  | q, f, n + 1 => if fitsPool k q 1 f then cellsPassing k (q + 1) (f - 1) n + 1 else 0

/-- The index of the fullest VOQ (06 2C1h), the lowest of equals. -/
def Dev.fullestVoq (s : Dev) : Nat :=
  ((List.range 1024).foldl (fun (best : Nat × Nat) v =>
    let o := s.voqOcc (v / 64) (v / 4 % 16) (v % 4)
    if best.2 < o then (v, o) else best) (0, 0)).1

/-- After an allocation to a VOQ: the lowest F, the VOQ's peak, and event 2C1h when F has fallen below FREE_LOW, not again
until it has risen by 16,384 (06 R265, SW_FREE_MIN, SW_VOQ_PEAK). -/
def Dev.afterAlloc (s : Dev) (i o c n : Nat) : Dev :=
  let f := s.poolFree
  let v := voqIndex i o c
  let q := s.voqOcc i o c
  let s := { s with sw := { s.sw with
    minFree := min s.sw.minFree f
    peaks := s.sw.peaks.put 0 v (max (s.sw.peaks.get 0 v) q) } }
  let s := s.count .SW_CELLS_ALLOC 0 n
  let low := s.fld .SW_WATCH_FREE_LOW
  if low ≠ 0 ∧ f < low ∧ !s.sw.lowNoted then
    { s with sw := { s.sw with lowNoted := true } }.event .ln 0x2C1 (le 4 f ++ le 2 s.fullestVoq)
  else s

/-- After n cells return to the pool (06 R265). -/
def Dev.afterFree (s : Dev) (n : Nat) : Dev :=
  let s := s.count .SW_CELLS_FREED 0 n
  if s.sw.lowNoted && decide (s.fld .SW_WATCH_FREE_LOW + 16384 ≤ s.poolFree) then
    { s with sw := { s.sw with lowNoted := false } }
  else s

/-- The head of a VOQ among units of the pool, in the order they became whole. -/
def headOf (units : List PoolUnit) (v : Nat) : Option Nat :=
  (units.find? (fun u => voqIndex u.input u.output u.cls == v)).map (·.id)

/-- The pool holds these units; a VOQ of `touched` whose head is another than before has it from now on (06 R250: the wait at the head). -/
def Dev.setUnits (s : Dev) (units : List PoolUnit) (touched : List Nat) : Dev :=
  let heads := touched.foldl (fun (h : Table Nat) v => if headOf units v = headOf s.sw.units v then h else h.put 0 v (s.nowOn .ln)) s.sw.headAt
  { s with sw := { s.sw with units := units, headAt := heads } }

/-- Remove the units with these numbers from the pool; their cells return at once. -/
def Dev.freeUnits (s : Dev) (ids : List Nat) : Dev :=
  let gone := s.sw.units.filter (fun u => ids.contains u.id)
  let s := s.setUnits (s.sw.units.filter (fun u => !ids.contains u.id)) (gone.map (fun u => voqIndex u.input u.output u.cls))
  s.afterFree (gone.map (·.cells)).sum

/-- An output is unavailable (06 R262, table Output availability). -/
def Dev.outputUnavailable (s : Dev) (o : Nat) : Bool :=
  s.isolated 16 ||
  (if o < 8 then s.isolated 12
   else match o with
    | 8 => !s.seamUp 1
    | 9 => !s.seamUp 2
    | 10 => s.isolated 18
    | 11 => s.isolated 18 || !(s.own.bonds.get {} 0).up
    | 12 => s.isolated 18 || !(s.own.bonds.get {} 1).up
    | 13 => s.isolated 17
    | 14 => s.isolated 18
    | _ => s.isolated 13)

/-- Frames naming these units leave every egress and class queue. -/
def Dev.forgetFrames (s : Dev) (ids : List Nat) : Dev :=
  let keep := fun (f : TxFrame) => match f.unit with
    | some u => !ids.contains u
    | none => true
  { s with
    net := { s.net with macs := s.net.macs.mapValues {} (fun _ m =>
      { m with eq0 := m.eq0.filter keep, eq1 := m.eq1.filter keep, eq2 := m.eq2.filter keep, eq3 := m.eq3.filter keep }) }
    ten := { s.ten with classQ := s.ten.classQ.mapValues [] (fun _ l => l.filter keep) } }

/-- An output becomes unavailable: every frame queued for it is discarded, its cells and reservations return, and units
waiting for it are reported aborted; counted in ISO_DISCARD, event 2C3h (06 R262). -/
def Dev.outputLost (s : Dev) (o : Nat) : Dev :=
  let units := s.sw.units.filter (fun u => u.output == o)
  let waits := s.sw.waiting.filter (fun u => u.output == o)
  let rsvCells := ((s.sw.rsv.filter (fun r => r.output == o)).map (·.cells)).sum
  let n := units.length + waits.length
  let ids := units.map (·.id)
  let s := s.freeUnits ids
  let s := { s with sw := { s.sw with
    rsv := s.sw.rsv.filter (fun r => r.output != o)
    waiting := s.sw.waiting.filter (fun u => u.output != o) } }
  let s := (s.afterFree rsvCells).forgetFrames ids
  let s := ((units.filter (fun u => 8 ≤ u.input)) ++ waits).foldl (fun s u => s.emit (.unitAborted u.id)) s
  if n = 0 then s else (s.count .SW_ISO_DISCARD 0 n).event .ln 0x2C3 (le 1 o ++ leCount n)

/-- Discard what stands for outputs that are unavailable now and were not in `before` (06 R262). -/
def Dev.settleOutputs (s : Dev) (before : Dev) : Dev :=
  (List.range 16).foldl (fun s o =>
    if s.outputUnavailable o && !before.outputUnavailable o then s.outputLost o else s) s

/-- A MAC's state. -/
def Dev.mac (s : Dev) (m : Nat) : Mac := s.net.macs.get {} m

/-- Change a MAC's state. -/
def Dev.setMac (s : Dev) (m : Nat) (x : Mac) : Dev := { s with net := { s.net with macs := s.net.macs.put {} m x } }

/-- Lanes per MAC by SPLIT (02 table Port splits). -/
def splitLanes (split : Nat) : Nat := 8 / 2 ^ split

/-- The MAC's rate in units of 100 kb/s (02 table Port splits). -/
def Dev.macRate (s : Dev) (m : Nat) : Nat := splitLanes (s.fld .PORT_CFG_SPLIT (m / 8)) * 1000000

/-- Queue q of a MAC. -/
def Mac.queue (x : Mac) : Nat → List TxFrame
  | 0 => x.eq0 | 1 => x.eq1 | 2 => x.eq2 | _ => x.eq3

/-- Credit of queue q of a MAC. -/
def Mac.credit (x : Mac) : Nat → Credit
  | 0 => x.credit0 | 1 => x.credit1 | _ => x.credit2

/-- Credit of queue q now, in 1/16 bit (02 R71, R72): it falls at I - r while the queue's frame is on the wire, rises at I
while a frame waits, rises to 0 while the queue is empty and it is negative, is 0 when the queue is empty and it is
positive, and stays within CBS_LO and CBS_HI. Slopes are IDLE / 10^4 bits per ns; fractions are rounded down. -/
def Dev.creditNow (s : Dev) (m q : Nat) : Int :=
  let x := s.mac m
  let c := x.credit q
  let k := m * 3 + q
  let dt : Int := ((s.nowOn .ln - c.since : Nat) : Int)
  let i : Int := s.fld .CBS_SLOPE_IDLE k
  let r : Int := s.macRate m
  if !s.flag .CBS_SLOPE_EN k then c.value
  else
    let sending := match x.wire with
      | some (w, _) => w == q
      | none => false
    let v := if sending then c.value + (i - r) * 16 * dt / 10000
      else if !(x.queue q).isEmpty then c.value + i * 16 * dt / 10000
      else if c.value < 0 then min 0 (c.value + i * 16 * dt / 10000)
      else 0
    max (signed 32 (s.fld .CBS_LO_LO_CREDIT k) * 16) (min ((s.fld .CBS_HI_HI_CREDIT k : Int) * 16) v)

/-- Bring the credits of a MAC's shaped queues up to now, before what sets their slopes changes. -/
def Dev.creditSync (s : Dev) (m : Nat) : Dev :=
  let t := s.nowOn .ln
  let x := s.mac m
  s.setMac m { x with
    credit0 := ⟨s.creditNow m 0, t⟩
    credit1 := ⟨s.creditNow m 1, t⟩
    credit2 := ⟨s.creditNow m 2, t⟩ }

/-- A frame enters an egress queue of a MAC; the queue's credit rises from that tick on (02 R71). One that comes to a MAC in transmit LPI makes
the MAC leave it and hold transmission for TW_TX (02 R78). -/
def Dev.pushEgress (s : Dev) (m q : Nat) (f : TxFrame) : Dev :=
  let s := s.creditSync m
  let x := s.mac m
  let x := match q with
    | 0 => { x with eq0 := x.eq0 ++ [f] }
    | 1 => { x with eq1 := x.eq1 ++ [f] }
    | 2 => { x with eq2 := x.eq2 ++ [f] }
    | _ => { x with eq3 := x.eq3 ++ [f] }
  let x := if x.txLpi then { x with txLpi := false, waking := some (s.nowOn .ln + x.twTx * us) } else x
  s.setMac m x

/-- Key of a class queue (05 Egress scheduling). -/
def classKey (m t c : Nat) : Nat := (m * 1024 + t) * 4 + c

/-- A frame whole in the pool enters the queue it is for (02 R70, 05); one that comes to an empty class queue starts its wait
clock (05 R221). -/
def Dev.frameArrives (s : Dev) (u : PoolUnit) : Dev :=
  let now := s.nowOn .ln
  match u.dest with
  | .consumer => s
  | .writeData _ => s
  | .classQueue m t c bytes =>
    let k := classKey m t c
    let f : TxFrame := ⟨some u.id, bytes, t, c, now⟩
    let old := s.ten.classQ.get [] k
    let q := s.ten.classQ.put [] k (old ++ [f])
    let h := if old.isEmpty then s.ten.heads.put 0 k now else s.ten.heads
    { s with ten := { s.ten with classQ := q, heads := h } }
  | .egress m q bytes => s.pushEgress m q ⟨some u.id, bytes, 0, u.cls, now⟩

/-- A unit is charged in the pool and enters its queue. -/
def Dev.placeUnit (s : Dev) (u : PoolUnit) : Dev :=
  let s := s.setUnits (s.sw.units ++ [u]) [voqIndex u.input u.output u.cls]
  (s.afterAlloc u.input u.output u.cls u.cells).frameArrives u

/-- A unit of an input other than 0-7 asks for its cells all at once (06 R255): placed, left waiting at its source, or, where
its output is unavailable, refused as aborted (R262). -/
def Dev.submitUnit (s : Dev) (input output cls bytes : Nat) (dest : UnitDest := .consumer) : Dev :=
  let u : PoolUnit := ⟨s.sw.nextId, input, output, cls, ceilDiv bytes 256, s.nowOn .ln, dest⟩
  let s := { s with sw := { s.sw with nextId := s.sw.nextId + 1 } }
  if s.outputUnavailable output then
    ((s.count .SW_ISO_DISCARD).event .ln 0x2C3 (le 1 output ++ leCount 1)).emit (.unitAborted u.id)
  else if fitsPool (s.alphaExp cls) (s.voqOcc input output cls) u.cells s.poolFree &&
      !(s.sw.waiting.any (fun w => w.input == input && w.output == output && w.cls == cls)) then s.placeUnit u
  else (({ s with sw := { s.sw with waiting := s.sw.waiting ++ [u] } }).count .SW_ADMIT_WAITS)

/-- A unit that stops waiting counts its wait when it was above 1 ms (06 2C2h). -/
def Dev.noteWait (s : Dev) (u : PoolUnit) : Dev :=
  let w := s.nowOn .ln - u.since
  if w ≤ ms then s
  else { s with sw := { s.sw with waitCount := s.sw.waitCount + 1, waitLongest := max s.sw.waitLongest (w / us) } }

/-- UNIT_ADMIT_RETRY (06 R255): a refused unit, first of its input, output and class at its source, is tried again. -/
def Dev.admitRetry (s : Dev) (id : Nat) : Dev :=
  match s.sw.waiting.find? (fun u => u.id == id) with
  | none => s
  | some u =>
    let firstOf := s.sw.waiting.find? (fun w => w.input == u.input && w.output == u.output && w.cls == u.cls)
    if firstOf == some u && fitsPool (s.alphaExp u.cls) (s.voqOcc u.input u.output u.cls) u.cells s.poolFree then
      let s := { s with sw := { s.sw with waiting := s.sw.waiting.filter (fun w => w.id != id) } }
      (s.noteWait u).placeUnit u
    else s

/-- What a frame from a network port's cells met at the pool (06 R254, R262). -/
inductive Admission where
  | placed
  | refused
  | unavailable
  deriving DecidableEq, Repr

/-- Cells of a frame arriving on input 0-7, each allocated alone (06 R254): placed whole, or refused with its cells returned
at once and the drop counted, or dropped for an unavailable output (R262). -/
def Dev.admitFrame (s : Dev) (input output cls bytes : Nat) : Admission × Nat × Dev :=
  let n := ceilDiv bytes 256
  let id := s.sw.nextId
  let q := s.voqOcc input output cls
  let f := s.poolFree
  if s.outputUnavailable output then
    (.unavailable, id, (s.count .SW_ISO_DISCARD).event .ln 0x2C3 (le 1 output ++ leCount 1))
  else
    let p := cellsPassing (s.alphaExp cls) q f n
    if p = n then
      let s := { s with sw := { s.sw with nextId := id + 1 } }
      (.placed, id, s.placeUnit ⟨id, input, output, cls, n, s.nowOn .ln, .consumer⟩)
    else
      let v := voqIndex input output cls
      let s := s.placeUnit ⟨id, input, output, cls, p, s.nowOn .ln, .consumer⟩
      let s := s.freeUnits [id]
      let s := (s.count .SW_DROP_FRAMES).count .SW_DROP_CELLS 0 p
      (.refused, id, { s with sw := { s.sw with
        drops := s.sw.drops.put 0 v (sat 0xFFFFFFFF (s.sw.drops.get 0 v + 1))
        dropInputs := if s.sw.dropInputs.contains input then s.sw.dropInputs else s.sw.dropInputs ++ [input] } })

/-- A READ Response fills reserved cells of its QP's READ and is never refused (06 R256): the reservation gives up the cells
the response takes. Answers the unit's number, or none where the QP holds no reservation. -/
def Dev.fillReserved (s : Dev) (input qp bytes : Nat) : Option (Nat × Dev) :=
  match s.sw.rsv.find? (fun r => r.qp == qp && r.input == input) with
  | none => none
  | some r =>
    let n := min r.cells (ceilDiv bytes 256)
    let id := s.sw.nextId
    let dest := match (s.rdma.qps.get {} qp).out.find? (fun w => w.kind == .read && decide (w.got < w.bytes)) with
      | some w => UnitDest.writeData w.cmd
      | none => .consumer
    let u : PoolUnit := ⟨id, r.input, r.output, r.cls, n, s.nowOn .ln, dest⟩
    let s := s.setUnits (s.sw.units ++ [u]) [voqIndex r.input r.output r.cls]
    some (id, { s with sw := { s.sw with
      nextId := id + 1
      rsv := s.sw.rsv.map (fun x => if x == r then { x with cells := x.cells - n } else x) } })

/-- Cells a READ of L bytes at an MTU reserves (06 R256). -/
def readCells (len mtu : Nat) : Nat := ceilDiv len mtu * ceilDiv (mtu + 90) 256

/-- Reserve the cells of a READ's responses under R253 (06 R256); none where they do not fit. -/
def Dev.reserveRead (s : Dev) (qp read input output cls len mtu : Nat) : Option Dev :=
  let n := readCells len mtu
  if !s.outputUnavailable output && fitsPool (s.alphaExp cls) (s.voqOcc input output cls) n s.poolFree then
    let r : Reservation := ⟨qp, read, input, output, cls, n⟩
    let s := { s with sw := { s.sw with rsv := s.sw.rsv ++ [r] } }
    some (s.afterAlloc input output cls n)
  else none

/-- Release what is left of the reservations for which `p qp read` holds (06 R256: the READ completes or its QP leaves
RTS). -/
def Dev.releaseReads (s : Dev) (p : Nat → Nat → Bool) : Dev :=
  let gone := s.sw.rsv.filter (fun r => p r.qp r.read)
  let s := { s with sw := { s.sw with rsv := s.sw.rsv.filter (fun r => !p r.qp r.read) } }
  s.afterFree (gone.map (·.cells)).sum

/-- The deadline of a class at an output, in ns (06 R250, 05 CLS_DL); the urgent class has none. -/
def Dev.classDeadline (s : Dev) (c : Nat) : Nat := s.fld .CLS_DL_DL_US (c - 1) * us

/-- The head frame of each input and class for an output, oldest first within them. -/
def Dev.voqHeads (s : Dev) (o : Nat) : List PoolUnit :=
  ((List.range 16).flatMap (fun i => (List.range 4).map (fun c => (i, c)))).filterMap (fun ic =>
    s.sw.units.find? (fun u => u.output == o && u.input == ic.1 && u.cls == ic.2))

/-- The class a VOQ's head is served as (06 R250): urgent once it has waited at the head longer than its class deadline. -/
def Dev.headClass (s : Dev) (u : PoolUnit) : Nat :=
  if u.cls ≠ 0 ∧ s.expired .ln (s.sw.headAt.get 0 (voqIndex u.input u.output u.cls)) (s.classDeadline u.cls) then 0 else u.cls

/-- The unit an output 8-15 takes next (06 R250): strict priority of class, a head past its class deadline counting as
urgent, and round robin among inputs from the output's turn. -/
def Dev.nextUnit (s : Dev) (o : Nat) : Option PoolUnit :=
  let heads := s.voqHeads o
  let prio := s.headClass
  let best := (heads.map prio).foldl min 4
  let turn := s.sw.turn.get 0 (o * 4 + best)
  let cands := heads.filter (fun u => prio u == best)
  match cands.filter (fun u => turn ≤ u.input) with
  | u :: us => some (us.foldl (fun a b => if b.input < a.input then b else a) u)
  | [] => match cands with
    | u :: us => some (us.foldl (fun a b => if b.input < a.input then b else a) u)
    | [] => none

/-- Write data of a command lost in the pool (06 R263): fetched again once, by a further RDMA READ; a second loss ends the command
with 06h Internal Error. -/
def Dev.refetch (s : Dev) (id : Nat) : Dev :=
  { s with nvme := { s.nvme with cmds := s.nvme.cmds.map (fun c =>
      if c.id = id ∧ c.record.isNone ∧ c.status.isNone then
        if c.refetched then { c with status := some 0x006, dnr := true }
        else if c.need ≤ c.data.length then { c with data := [], asked := 0, checked := false, refetched := true }
        else { c with lost := true }
      else c) } }

/-- The cells of a unit have been read to its output (06 R249, R260, R263): it leaves the pool; a double-bit error discards
the whole frame and reports it, never delivering it. -/
def Dev.crossUnit (s : Dev) (u : PoolUnit) (read : PoolRead) : Dev :=
  let s := s.freeUnits [u.id]
  let cross := fun (s : Dev) =>
    let s := (s.count .SW_FRAMES_CROSSED).emit (.crossed u.id u.output)
    if u.output = 11 ∨ u.output = 12 then s.bondSend (u.output - 11) bondData u.cls (u.cells * 256) else s
  match read with
  | .clean => cross s
  | .corrected n => cross (s.count .SW_ECC_CORR 0 n)
  | .uncorrectable cell =>
    let s := (s.count .SW_ECC_UNCORR).event .ln 0x2C4 (le 8 cell ++ le 2 (voqIndex u.input u.output u.cls))
    match u.dest with
    | .writeData id => s.refetch id
    | _ => (s.forgetFrames [u.id]).emit (.unitAborted u.id)

/-- FRAME_CROSS (06 R249, R250): outputs 0-7 take the frame that the named MAC of the port has on its wire; each other output
takes its next unit. -/
def Dev.frameCross (s : Dev) (o mac : Nat) (read : PoolRead) : Dev :=
  if o < 8 then
    let x := s.mac mac
    match x.wire with
    | some (_, f) =>
      match f.unit with
      | some id =>
        match s.sw.units.find? (fun u => u.id == id) with
        | some u => if mac / 8 = o ∧ !x.crossed then (s.setMac mac { x with crossed := true }).crossUnit u read else s
        | none => s
      | none => s
    | none => s
  else
    match s.nextUnit o with
    | none => s
    | some u =>
      if (o = 11 ∨ o = 12) ∧ !s.bondRoom (o - 11) (u.cells * 256) then s
      else
      let s := { s with sw := { s.sw with turn := s.sw.turn.put 0 (o * 4 + s.headClass u) ((u.input + 1) % 16) } }
      s.crossUnit u read

/-- Answer a control-space read. -/
def Dev.answer (s : Dev) (req : Requester) (v : Nat) : Dev := s.emit (.value req (BitVec.ofNat 32 v))

/-- A control-space access can be made: BAR0 is not served in DORMANT (01 GLB_MODE). -/
def Dev.served (s : Dev) : Bool := s.mode.diesUp

/-- The VOQ SW_VOQ_SEL names. -/
def Dev.selectedVoq (s : Dev) : Nat :=
  voqIndex (s.fld .SW_VOQ_SEL_INPUT) (s.fld .SW_VOQ_SEL_OUTPUT) (s.fld .SW_VOQ_SEL_CLASS)

end Sys2Proof.Machine
end

