-- ==== Sys2Proof/Machine/Mode.lean ====
section
/-!
DEFINITION. The mode of the device (17 R642, R643) and the change of mode that a command's effect brings with it.
-/
namespace Sys2Proof.Machine

/-- A region of PE, PW or LN is isolated (17 Mode precedence, row 4). -/
def Dev.anyIsolated (s : Dev) : Bool := (List.range 19).any (fun r => s.isolated r)

/-- LDG_STAT.RECOVERING of either pier (17 Mode precedence, row 5). -/
def Dev.recoveringAny (s : Dev) : Bool := (List.range 2).any (fun p => !s.ldg.recovered.get false p)

/-- The mode: the first row of table Mode precedence whose condition holds (17 R642). -/
def Dev.modeNow (s : Dev) : Mode :=
  if s.cust.alarms ≠ 0 then .safe
  else if !s.mode.diesUp then .dormant
  else if s.mode.quiesced then .quiesce
  else if s.anyIsolated then .contained
  else if !s.cust.ready || s.recoveringAny || !s.mode.commissioned then .commission
  else .service

/-- The COMMISSION conditions of table Mode precedence hold (17 Modes, CONTAINED). -/
def Dev.commissionHolds (s : Dev) : Bool := !s.cust.ready || s.recoveringAny || !s.mode.commissioned

/-- CAUSE values a command names for the change it makes (17 Mode transitions); `recorded` that the command recorded the
transition itself. -/
def causeFence : Nat := 0x06
def causeHalted : Nat := 0x0F
def causeRecorded : Nat := 0xFF

/-- CAUSE of a change of mode (17 Mode transitions): the one the command names, else the one of its row. -/
def causeOf (hint : Nat) (a b : Mode) : Nat :=
  if b = .safe then 0x0A
  else if hint ≠ 0 then hint
  else match a, b with
    | .dormant, _ => 0x01
    | .quiesce, _ => 0x08
    | .contained, _ => 0x05
    | _, .service => 0x03
    | _, .contained => 0x04
    | _, .quiesce => 0x07
    | _, _ => 0x00

/-- SERVICE or CONTAINED (17 R667). -/
def Mode.serving (m : Mode) : Bool := m == .service || m == .contained

/-- What a change of mode brings with it: the orderly-stop flag clears when the device leaves COMMISSION (09 R383); the stability that
confirms an image counts from the entry into SERVICE or CONTAINED (17 R667). -/
def Dev.modeChanged (s : Dev) (a b : Mode) : Dev :=
  let s := if a = .commission ∧ b ≠ .commission ∧ b ≠ .dormant then { s with ldg := { s.ldg with orderly := false } } else s
  if !a.serving && b.serving then { s with fw := { s.fw with stableFrom := s.now } } else s

/-- The mode transition between the device before a command and after (17 R643): CAUSE written and event 0C0h with the old
mode, the new mode and the cause. A pier fenced in CONTAINED and a halted start-up are recorded although the mode stays. -/
def Dev.settleMode (s : Dev) (before : Dev) : Dev :=
  let a := before.modeNow
  let b := s.modeNow
  let h := s.mode.hint
  let s := { s with mode := { s.mode with hint := 0 } }.modeChanged a b
  if h = causeRecorded then s
  else if a ≠ b ∨ (h = causeFence ∧ b = .contained) ∨ (h = causeHalted ∧ b = .dormant) then
    let c := causeOf h a b
    { s with mode := { s.mode with cause := c } }.event .pl 0x0C0 (le 1 a.code ++ le 1 b.code) c
  else s

/-- The data path runs (17 Modes, 07 R294, R296): not in DORMANT or SAFE, nor while an under-voltage is judged. -/
def Dev.dataPath (s : Dev) : Bool :=
  s.cust.alarms == 0 && s.mode.diesUp && s.cust.dipAt.isNone

/-- Host I/O is served as in SERVICE (17 Modes): SERVICE, and CONTAINED without the COMMISSION conditions. -/
def Dev.serves (s : Dev) : Bool :=
  s.dataPath && match s.modeNow with
    | .service => true
    | .contained => !s.commissionHolds
    | _ => false

end Sys2Proof.Machine
end

