-- ==== Sys2Proof/Machine/CanOps.lean ====
section
/-!
DEFINITION. The CANopen slave (14): objects that stand for no register, EMCY messages and the error register.
-/
namespace Sys2Proof.Machine

/-- Key of an object. -/
def objKey (index sub : Nat) : Nat := index * 256 + sub

/-- The node-ID in force: 2010h.01 as of the last reset of communication, by default 10h + PKG_IDX (14 R562). -/
def Dev.nodeId (s : Dev) : Nat := s.od.can.node.getD (0x10 + s.pkg.pkgIdx)

/-- Defaults of the objects that stand for no register (14 Communication objects, PDOs, Principal objects), as bytes. -/
def Dev.objDefault (s : Dev) (index sub : Nat) : List Byte :=
  let node := s.nodeId
  match index, sub with
  | 0x1005, 0 => le 4 0x80
  | 0x1014, 0 => le 4 (0x80 + node)
  | 0x1015, 0 => le 2 10
  | 0x1017, 0 => le 2 1000
  | 0x1200, 1 => le 4 (0x600 + node)
  | 0x1200, 2 => le 4 (0x580 + node)
  | 0x2005, 0 => le 2 120
  | 0x2010, 1 => le 1 (0x10 + s.pkg.pkgIdx)
  | 0x2010, 2 => le 1 2
  | 0x2010, 3 => le 1 2
  | 0x2011, 7 => le 6 0
  | 0x2012, 1 => le 4 0
  | 0x2012, 2 => le 4 0
  | 0x2012, 3 => le 2 6424
  | 0x2D00, 0 => le 1 2
  | _, _ =>
    if 0x1200 ≤ index ∧ index < 0x1204 then le 4 0x80000000
    else if 0x1800 ≤ index ∧ index < 0x1808 then
      let k := index - 0x1800
      match sub with
      | 1 => le 4 (if k < 4 then 0x180 + 0x100 * k + node else 0x80000000)
      | 2 => le 1 254
      | 3 => le 2 0
      | _ => le 2 0
    else if 0x1A00 ≤ index ∧ index < 0x1A08 then (if sub = 0 then le 1 0 else le 4 0)
    else if 0x5400 ≤ index ∧ index < 0x5800 then []
    else le 1 0

/-- The value of an object that stands for no register. -/
def Dev.obj (s : Dev) (index : Nat) (sub : Nat := 0) : List Byte := (s.od.objs.find (objKey index sub)).getD (s.objDefault index sub)

/-- Such an object's value as a number. -/
def Dev.objNat (s : Dev) (index : Nat) (sub : Nat := 0) : Nat := leNat (s.obj index sub)

/-- The arbitration rate in kb/s that a value of 2010h.02 selects (14 R561), by the bit timing index of CiA 305 (PRESUMED, assumption 26). -/
def arbitrationRate (v : Nat) : Option Nat := match v with
  | 0 => some 1000
  | 2 => some 500
  | 3 => some 250
  | 4 => some 125
  | _ => none

/-- The error register 1001h (14): bit 0 mode CONTAINED or SAFE, bit 7 a volume CRITICAL or FAILED. -/
def Dev.errorRegister (s : Dev) : Nat :=
  (if s.modeNow = .contained ∨ s.modeNow = .safe then 1 else 0) +
  (if s.store.vols.any (fun e => e.2.st == .critical || e.2.st == .failed) then 0x80 else 0)

/-- Change the CANopen slave. -/
def Dev.setCan (s : Dev) (c : Can) : Dev := { s with od := { s.od with can := c } }

/-- The slave can send an EMCY: not in Stopped, not in bus-off (14 R563, R564). -/
def Dev.emcyAllowed (s : Dev) : Bool :=
  !s.od.can.busOff && (s.od.can.nmt == .preOperational || s.od.can.nmt == .operational)

/-- The inhibit time of 1015h has ended: a tick strictly later than the last send plus it (14 R572). -/
def Dev.emcyFree (s : Dev) : Bool :=
  match s.od.can.emcyAt with
  | some t => s.expired .pl t (s.objNat 0x1015 * 100 * us)
  | none => true

/-- Messages that may wait (14 R572). -/
def emcyDepth : Nat := 16

/-- An EMCY message is produced (14 R571, R572): it enters 1003h, and is sent, waits, or is dropped where 16 wait. -/
def Dev.emcy (s : Dev) (m : Emcy) : Dev :=
  let c := s.od.can
  let c := { c with errors := ((m.id * 65536 + m.code) :: c.errors).take 8 }
  if s.emcyAllowed && s.emcyFree && c.emcys.isEmpty then
    (s.setCan { c with emcyAt := some s.now }).emit (.emcy m.code m.reg m.id m.slot)
  else if c.emcys.length < emcyDepth then s.setCan { c with emcys := c.emcys ++ [m] }
  else s.setCan { c with emcyLost := c.emcyLost + 1 }

/-- A new record of severity at least EMCY_MIN produces an EMCY (14 R571). -/
def Dev.emcyRecord (s : Dev) (v id slot : Nat) : Dev :=
  if s.objNat 0x2D00 ≤ v then s.emcy ⟨0xFF00 + v, s.errorRegister, id, slot % 2 ^ 24⟩ else s

/-- The error register has returned to 0: the error-reset EMCY (14 EMCY message). -/
def Dev.settleEmcy (s : Dev) (before : Dev) : Dev :=
  if before.errorRegister ≠ 0 ∧ s.errorRegister = 0 then s.emcy ⟨0, 0, 0, 0⟩ else s

end Sys2Proof.Machine
end

