-- ==== Sys2Proof/Machine/KeyOps.lean ====
section
/-!
DEFINITION. Reading the key stores (07): what other chapters need of a key slot.
-/
namespace Sys2Proof.Machine

/-- SERIAL as 8 bytes, little-endian (07 R287). -/
def serialBytes : List Byte := le 8 Config.serial.toNat

/-- Kinds of key slots (07 KEY_SEL.KIND). -/
def keyMedia : Nat := 0
def keyParity : Nat := 1
def keyService : Nat := 2
def keyLedger : Nat := 3

/-- Uses of service keys (07 KEY_USE.USE). -/
def useMeter : Nat := 0
def useBond : Nat := 1
def useOffload : Nat := 2

/-- Key of a slot in the tables. -/
def slotKey (kind i : Nat) : Nat := kind * 4096 + i

/-- A slot of the key stores. -/
def Dev.keySlot (s : Dev) (kind i : Nat) : KeySlot := s.cust.slots.get {} (slotKey kind i)

/-- Change a slot. -/
def Dev.setKeySlot (s : Dev) (kind i : Nat) (x : KeySlot) : Dev :=
  { s with cust := { s.cust with slots := s.cust.slots.put {} (slotKey kind i) x } }

/-- The key a slot holds while LOADED. -/
def Dev.keyIn (s : Dev) (kind i : Nat) : Option Nat :=
  let x := s.keySlot kind i
  if x.state = .loaded then some x.key else none

/-- The service key of a slot for one use (07 R280). -/
def Dev.serviceKey (s : Dev) (i use : Nat) : Option Nat :=
  if (s.keySlot keyService i).use = use then s.keyIn keyService i else none

end Sys2Proof.Machine
end

