-- ==== Sys2Proof/Machine/Meter.lean ====
section
/-!
DEFINITION. The meters (05 R227-R242): windows, records, signing, the ring, checkpoints, time steps.
-/
namespace Sys2Proof.Machine

/-- A minute of device time (05 R227). -/
def minute : Nat := 60 * sec

/-- The end of the meter window that contains a tick (05 R227). -/
def windowEnd (t : Nat) : Nat := (t / minute + 1) * minute

/-- Meter record flags (05). -/
def flagStep : Nat := 0
def flagStart : Nat := 1
def flagPowerLoss : Nat := 2
def flagSlew : Nat := 3
def flagUnlocked : Nat := 4
def flagTenantOff : Nat := 5
def flagUnsigned : Nat := 6

/-- A record with a flag set. -/
def MeterRec.flag (r : MeterRec) (f : Nat) : MeterRec :=
  if r.flags / 2 ^ f % 2 = 1 then r else { r with flags := r.flags + 2 ^ f }

/-- Bytes 0-111 of a record (05 Meter record, R230). -/
def MeterRec.body (r : MeterRec) : List Byte :=
  le 1 1 ++ le 1 (if r.discontinuity then 1 else 0) ++ le 2 r.tenant ++ le 4 r.flags ++ le 8 r.seq ++ le 8 r.start ++
  le 8 r.stop ++ le 8 r.rd ++ le 8 r.wr ++ le 8 r.ok ++ le 8 r.bad ++ le 8 r.dropPkts ++ le 8 r.dropBytes ++
  le 8 r.yellow ++ le 8 r.win ++ le 4 r.peak ++ le 1 r.keyId ++ le 3 0 ++ serialBytes

/-- The 128 bytes of a record. -/
def MeterRec.bytes (r : MeterRec) : List Byte := r.body ++ (if r.mark.isEmpty then le 16 0 else r.mark.take 16)

/-- The IV of a record's MARK: SEQ and SERIAL[31:0] (05 R236). -/
def MeterRec.iv (r : MeterRec) : List Byte := le 8 r.seq ++ serialBytes.take 4

/-- Change the meter. -/
def Dev.setMeter (s : Dev) (m : Meter) : Dev := { s with ten := { s.ten with meter := m } }

/-- Records of the meter ring (05 Meters). -/
def meterRing : Nat := 524288

/-- A tenant's state. -/
def Dev.tn (s : Dev) (t : Nat) : TnState := s.ten.tns.get {} t

/-- Change a tenant's state. -/
def Dev.setTn (s : Dev) (t : Nat) (x : TnState) : Dev := { s with ten := { s.ten with tns := s.ten.tns.put {} t x } }

/-- Enabled tenants. -/
def Dev.enabledTenants (s : Dev) : List Nat := (List.range 1024).filter (fun t => s.flag .TN_CFG_ENABLE t)

/-- The meters run: METER_EN in SERVICE or CONTAINED (05 TN_GLB, 17 Modes). -/
def Dev.metersRun (s : Dev) : Bool :=
  s.flag .TN_GLB_METER_EN && (s.modeNow == .service || s.modeNow == .contained)

/-- PTP is locked. -/
def Dev.ptpLocked (s : Dev) : Bool := decide (s.net.ptp.state = .locked)

/-- Flags that hold for every open record now (05 Meter record flags SLEW, UNLOCKED). -/
def Dev.meterMarkOpen (s : Dev) : Dev :=
  if s.ten.meter.opened.isEmpty then s
  else
    let m := s.ten.meter
    let f := fun (r : MeterRec) =>
      let r := if s.ptpLocked then r else r.flag flagUnlocked
      if s.net.ptp.slewingBig then r.flag flagSlew else r
    s.setMeter { m with opened := m.opened.map (fun e => (e.1, f e.2)) }

/-- Open a tenant's record at a tick; START set where that tick is no minute boundary (05 R229, R231, R648). -/
def Dev.meterOpen (s : Dev) (t start : Nat) : Dev :=
  let r : MeterRec := { tenant := t, start := start, stop := windowEnd start, peak := (s.tn t).outstanding }
  let r := if start % minute = 0 then r else r.flag flagStart
  s.setMeter { s.ten.meter with opened := s.ten.meter.opened.insert t r }

/-- Open a record for every enabled tenant. -/
def Dev.meterOpenAll (s : Dev) (start : Nat) : Dev :=
  (s.enabledTenants.foldl (fun s t => s.meterOpen t start) s).meterMarkOpen

/-- A waiting KEY_ID comes into force at a boundary it was due at, event 295h (05 R237). -/
def Dev.meterKeyTurn (s : Dev) (t : Nat) : Dev :=
  match s.ten.meter.keyNext with
  | some (k, due) =>
    if due ≤ t then
      (s.setMeter { s.ten.meter with keyId := k, keyNext := none }).event .ln 0x295 (le 1 k)
    else s
  | none => s

/-- Close every open record at a tick, with a flag; they wait to be written, in tenant order. A record that would begin at
that tick or later covers no tick and is not written (05 R227). -/
def Dev.meterClose (s : Dev) (stop : Nat) (f : Option Nat) : Dev :=
  let m := s.ten.meter
  let recs := (m.opened.filter (fun e => e.2.start < stop)).map (fun e =>
    let r := { e.2 with stop := stop, keyId := m.keyId }
    match f with
    | some b => r.flag b
    | none => r)
  s.setMeter { m with opened := [], closed := m.closed ++ recs }

/-- Close the records whose window ends at a tick (05 R227, R228). -/
def Dev.meterCloseEnded (s : Dev) (stop : Nat) : Dev :=
  let m := s.ten.meter
  let recs := (m.opened.filter (fun e => e.2.stop ≤ stop)).map (fun e => { e.2 with keyId := m.keyId })
  s.setMeter { m with opened := m.opened.filter (fun e => stop < e.2.stop), closed := m.closed ++ recs }

/-- The earliest end of an open record's window. -/
def Dev.meterNextEnd (s : Dev) : Option Nat := (s.ten.meter.opened.map (fun e => e.2.stop)).min?

/-- Open a record at a tick for every enabled tenant that has none. -/
def Dev.meterOpenRest (s : Dev) (start : Nat) : Dev :=
  ((s.enabledTenants.filter (fun t => (s.ten.meter.opened.find t).isNone)).foldl (fun s t => s.meterOpen t start) s).meterMarkOpen

/-- Windows that have ended by now close and the next ones open (05 R227-R229); at most `n` of them. -/
def Dev.meterRollN (s : Dev) : Nat → Dev
  | 0 => s
  | n + 1 =>
    match s.meterNextEnd with
    | none => s
    | some stop =>
      if stop ≤ s.now then
        (((s.meterCloseEnded stop).meterKeyTurn stop).meterOpenRest stop).meterRollN n
      else s

/-- Bring the meter's windows up to now. -/
def Dev.meterRoll (s : Dev) : Dev :=
  let n := match s.meterNextEnd with
    | none => 0
    | some stop => if stop ≤ s.now then (s.now - stop) / minute + 1 else 0
  (s.meterRollN n).meterKeyTurn s.now

/-- Count in a tenant's open record; a stamp at a window's end belongs to the next window (05 R228). -/
def Dev.meterCount (s : Dev) (t : Nat) (f : MeterRec → MeterRec) : Dev :=
  let s := s.meterRoll
  match s.ten.meter.opened.find t with
  | some r => s.setMeter { s.ten.meter with opened := s.ten.meter.opened.insert t (f r) }
  | none => s

/-- A record takes its place in the ring; the oldest is overwritten when it is full, and one not yet exported is lost with
event 291h (05 R241). -/
def Dev.meterStore (s : Dev) (r : MeterRec) : Dev :=
  let m := s.ten.meter
  let lost := decide (meterRing ≤ m.unexported)
  let ring := m.ring.put {} m.head r
  let kept := if r.discontinuity then m.checkpoint.recs
    else m.checkpoint.recs.filter (fun e => !(e.1 == r.tenant && e.2.start == r.start))
  let m := { m with
    ring := ring
    head := (m.head + 1) % meterRing
    unexported := if lost then m.unexported else m.unexported + 1
    lost := if lost then sat 0xFFFFFFFF (m.lost + 1) else m.lost
    checkpoint := { m.checkpoint with recs := kept } }
  ((s.setMeter m).count .TN_MTR_WRITTEN).eventIf lost .ln 0x291 (leCount 1)

/-- One record is numbered, signed and written; a write that fails twice loses it (05 R229, R236, R239, R240). -/
def Dev.meterWrite (s : Dev) (failed : Bool) (r : MeterRec) : Dev :=
  let m := s.ten.meter
  let r := { r with seq := m.seq }
  let r := match s.serviceKey r.keyId useMeter with
    | some key => { r with mark := Config.gmac (le 32 key) r.iv r.body }
    | none => r.flag flagUnsigned
  let s := (s.setMeter { m with seq := (m.seq + 1) % 2 ^ 64 }).countJobs (s.serviceKey r.keyId useMeter).isSome.toNat
  if failed then (s.count .TN_MTR_FAILED).event .ln 0x292 (le 8 r.seq) else s.meterStore r

/-- Write the closed records in order; `failed` are the tenants whose records' writes fail twice. Without a meter key event
293h is recorded once (05 R229, R239). -/
def Dev.meterWriteAll (s : Dev) (failed : List Nat) : Dev :=
  let recs := s.ten.meter.closed
  let unsigned := recs.any (fun r => (s.serviceKey r.keyId useMeter).isNone)
  let s := s.setMeter { s.ten.meter with closed := [] }
  let s := recs.foldl (fun s r => s.meterWrite (failed.contains r.tenant) r) s
  s.eventIf unsigned .ln 0x293

/-- A discontinuity record, event 290h (05 R231, R232, Meter record). -/
def Dev.meterDiscRecord (s : Dev) (start stop after : Nat) (c : Int) (step : Bool) : Dev :=
  let r : MeterRec := { discontinuity := true, tenant := 0xFFFF, start := start, stop := stop, rd := start, wr := after,
                        ok := unsigned 64 c, keyId := s.ten.meter.keyId }
  let r := if step then r.flag flagStep else r
  (s.meterWrite false r).event .ln 0x290 (leSigned 8 c)

/-- Device time has stepped forward from `old` to now (05 R231): every open record closes with END = old and STEP, a
discontinuity record is written, and new records open now with START. -/
def Dev.meterStep (s : Dev) (old : Nat) : Dev :=
  if !s.metersRun then s
  else
    let s := (s.meterClose old (some flagStep)).meterWriteAll []
    (s.meterDiscRecord old s.now s.now ((s.now : Int) - old) true).meterOpenAll s.now

/-- A correction larger than DISC_THR begins to be slewed (05 R232). -/
def Dev.meterSlew (s : Dev) (c : Int) : Dev :=
  if s.metersRun then (s.meterDiscRecord s.now s.now s.now c false).meterMarkOpen else s

/-- The meters start and stop with the mode (05 TN_GLB, 17 Modes, R648): on entry to QUIESCE, or when METER_EN is cleared
(assumption 10), every open record closes with TENANT_OFF and is written; in SAFE and DORMANT open records are left to the
last checkpoint (R235); when the meters start, records open at this tick. -/
def Dev.settleMeter (s : Dev) (before : Dev) : Dev :=
  let a := before.metersRun
  let b := s.metersRun
  if a && !b then
    if s.modeNow == .safe || s.modeNow == .dormant then s.setMeter { s.ten.meter with opened := [], closed := [] }
    else ((s.meterRoll.meterMarkOpen.meterClose s.now (some flagTenantOff)).meterWriteAll [])
  else if !a && b then s.meterOpenAll s.now
  else s.meterMarkOpen

end Sys2Proof.Machine
end

