-- ==== Sys2Proof/Machine/Run.lean ====
section
/-!
DEFINITION. The two ways a meaning acts on the state.
-/
namespace Sys2Proof.Machine

/-- The device with no output and no event of an earlier command (assumption 3). -/
def Dev.quiet (s : Dev) : Dev := { s with out := [], raised := [] }

/-- What every effect brings with it: outputs of the switch that it made unavailable are cleared (06 R262), a change of mode is recorded (17 R643), the
meters start or stop with it (05, 17 R648), and an error register that returned to 0 is told (14). -/
def Dev.settle (s : Dev) (before : Dev) : Dev := (((s.settleOutputs before).settleMode before).settleMeter before).settleEmcy before

/-- The events raised enter the dies' queues, judged by the seams as they stood when the command began (15 R599, 01 R701), or are dropped. -/
def State.deliver (s : State) (d : Dev) : State :=
  let q := s.evq.push (fun die => s.dev.reachesPlinth die) d.raised
  { s with dev := q.2.foldl Dev.dropEvent { d with raised := [] }, evq := q.1 }

/-- The state after a command's effect `f` on the device. The commands waiting are left as they are. -/
def State.after (s : State) (f : Dev → Dev) : State := s.deliver ((f s.dev.quiet).settle s.dev)

/-- A command that takes effect. -/
def State.run (s : State) (f : Dev → Dev) : Result := .next (s.after f)

/-- `run` with a condition: a command whose conditions do not hold has no effect beyond ending (assumption 4). -/
def State.runIf (s : State) (c : Bool) (f : Dev → Dev) : Result := s.run (fun d => if c then f d else d)

end Sys2Proof.Machine
end

