-- ==== Sys2Proof/Machine/Switch.lean ====
section
/-!
DEFINITION. The commands of the switch core and the mortar pool (06).
-/
namespace Sys2Proof.Machine

/-- UNIT_ADMIT_RETRY (06 R255). -/
def execUnitAdmitRetry (unit : Nat) (s : State) : Result := s.run (·.admitRetry unit)

/-- FRAME_CROSS (06 R249). -/
def execFrameCross (output : Fin 16) (mac : Fin 64) (read : PoolRead) (s : State) : Result :=
  s.runIf (!s.dev.outputUnavailable output.val) (·.frameCross output.val mac.val read)

/-- SW_FREE_MIN_READ (06 SW_FREE_MIN): returns the lowest F since the last read and reloads it with F. -/
def execSwFreeMinRead (req : Requester) (s : State) : Result :=
  s.runIf (s.dev.served && !s.dev.isolated 16) (fun d =>
    { d with sw := { d.sw with minFree := d.poolFree } }.answer req d.sw.minFree)

/-- SW_VOQ_STAT_READ (06 SW_VOQ_PEAK, SW_VOQ_DROP; 00 R5 RC): returns the selected VOQ's peak or drops and clears it. -/
def execSwVoqStatRead (req : Requester) (drop : Bool) (s : State) : Result :=
  s.runIf (s.dev.served && !s.dev.isolated 16) (fun d =>
    let v := d.selectedVoq
    if drop then { d with sw := { d.sw with drops := d.sw.drops.put 0 v 0 } }.answer req (d.sw.drops.get 0 v)
    else { d with sw := { d.sw with peaks := d.sw.peaks.put 0 v 0 } }.answer req (d.sw.peaks.get 0 v))

end Sys2Proof.Machine
end

