-- ==== Sys2Proof/Machine/Access.lean ====
section
/-!
DEFINITION. Accesses to the control space (01 R46-R52): addresses, blocks and the regions they lie in, access errors, and the
frame every register command shares.
-/
namespace Sys2Proof.Machine

/-- Product of the counts of array dimensions. -/
def dimsSize (dims : List (Nat × Nat)) : Nat := (dims.map Prod.fst).foldl (· * ·) 1

/-- Offset of array instance `i` (the last dimension runs fastest). -/
def dimsOffset : List (Nat × Nat) → Nat → Nat
  | [], _ => 0
  | (n, st) :: ds, i => (i / dimsSize ds % n) * st + dimsOffset ds i

/-- The array instance at an offset, if the offset is one of the array's words. -/
def dimsIndex : List (Nat × Nat) → Nat → Option Nat
  | [], off => if off = 0 then some 0 else none
  | (n, st) :: ds, off =>
    (List.range n).findSome? (fun k =>
      if k * st ≤ off then (dimsIndex ds (off - k * st)).map (fun j => k * dimsSize ds + j) else none)

/-- The entry of a register in the table. -/
def Reg.entry (r : Reg) : Option RegInfo := regTable.find? (fun x => x.reg == r)

/-- Address of array instance `i` of a register (01 R46); for a register shown in both pier blocks, in Pier East's. -/
def Reg.addr (r : Reg) (i : Nat := 0) : Nat :=
  match r.entry with
  | some x => x.base + dimsOffset x.dims i
  | none => 0

/-- The blocks of the control space by their chapter's region (01 table Control space map; assumption 5): the region a block
of registers lies in, none for the blocks on Plinth, whose regions cannot be isolated (01 R24). -/
def blockRegion (addr : Nat) : Option Nat :=
  if addr < 0x200000 then none
  else if addr < 0x400000 then (if 0x201000 ≤ addr ∧ addr < 0x20F000 then some 18 else none)
  else if addr < 0x500000 then some 12
  else if addr < 0x600000 then none
  else if addr < 0x800000 then some 13
  else if addr < 0xA00000 then some 14
  else if addr < 0xC00000 then some 15
  else if addr < 0xE00000 then some 16
  else if addr < 0x1000000 then (if 0xE00200 ≤ addr ∧ addr < 0xE01000 then some 17 else none)
  else if addr < 0x3000000 then
    let pw := if addr < 0x2000000 then 0 else 6
    let off := addr % 0x1000000
    some (pw + (if off < 0x10000 then 1 else if off < 0x30000 then 4 else if off < 0x40000 then 0 else 1))
  else if addr < 0x3400000 then
    let ch := addr % 0x1000000 / 0x1000
    (if ch < 64 then some 18 else if ch < 96 then some 0 else if ch < 128 then some 6 else some 18)
  else if addr < 0x3C00000 then none
  else some 18

/-- The bits of GLB_ERR (01). -/
inductive CsError where
  | unmapped | isolated | misaligned
  deriving DecidableEq, Repr

/-- Bit number of an access error in GLB_ERR. -/
def CsError.bit : CsError → Nat
  | .unmapped => 0 | .isolated => 1 | .misaligned => 2

/-- A control-space access error (01 R47-R49): its GLB_ERR bit is set and event 0FCh holds the address and the bit. -/
def Dev.csError (s : Dev) (e : CsError) (addr : Nat) : Dev :=
  let s := match e with
    | .unmapped => s.setFld .GLB_ERR_CS_UNMAPPED 0 1
    | .isolated => s.setFld .GLB_ERR_CS_ISOLATED 0 1
    | .misaligned => s.setFld .GLB_ERR_CS_MISALIGNED 0 1
  s.event .ln 0x0FC (le 8 addr ++ le 1 e.bit)

/-- What a read that met an access error returns (01 R47-R49). -/
def CsError.readValue : CsError → Nat
  | .isolated => 0xFFFFFFFF
  | _ => 0

/-- An access, read or write, that meets an access error: a read answers, a write is discarded. -/
def Dev.csAccess (s : Dev) (req : Requester) (e : CsError) (addr : Nat) (write : Bool) : Dev :=
  let s := s.csError e addr
  if write then s else s.answer req e.readValue

/-- The block of an address lies in an isolated region (01 R48). -/
def Dev.blockIsolated (s : Dev) (addr : Nat) : Bool :=
  match blockRegion addr with
  | some r => s.isolated r
  | none => false

/-- PF1 holds privilege (13 EP_CFG.PRIV); a control processor always does (17 R644, 07 R309). -/
def Dev.privileged (s : Dev) : Requester → Bool
  | .pf1 => s.flag .EP_CFG_PRIV
  | .cp _ => true

/-- A write to a register at an address (01 GLB_MODE, R48): not served in DORMANT; discarded with its error where the block's
region is isolated; else `f`, and parameters it changed wait to be stored (14 R557). -/
def Dev.regWrite (s : Dev) (addr : Nat) (f : Dev → Dev) : Dev :=
  if !s.served then s
  else if s.blockIsolated addr then s.csError .isolated addr
  else (f s).storeChanged s

/-- A read of a register at an address, answered by `f` (01 GLB_MODE, R48). -/
def Dev.regRead (s : Dev) (req : Requester) (addr : Nat) (f : Dev → Nat × Dev) : Dev :=
  if !s.served then s
  else if s.blockIsolated addr then s.csAccess req .isolated addr false
  else
    let r := f s
    r.2.answer req r.1

/-- CS_UNMAPPED_ACCESS (01 R47). -/
def execCsUnmappedAccess (req : Requester) (addr : BitVec 32) (write : Bool) (s : State) : Result :=
  s.runIf s.dev.served (·.csAccess req .unmapped addr.toNat write)

/-- CS_ISOLATED_ACCESS (01 R48), for an address whose block lies in an isolated region. -/
def execCsIsolatedAccess (req : Requester) (addr : BitVec 32) (write : Bool) (s : State) : Result :=
  s.runIf (s.dev.served && s.dev.blockIsolated addr.toNat) (·.csAccess req .isolated addr.toNat write)

/-- CS_MISALIGNED_ACCESS (01 R49): an access that is not an aligned 32-bit word. -/
def execCsMisalignedAccess (req : Requester) (addr : BitVec 32) (write : Bool) (s : State) : Result :=
  s.runIf s.dev.served (·.csAccess req .misaligned addr.toNat write)

end Sys2Proof.Machine
end

