-- ==== Sys2Proof/Machine/RecOps.lean ====
section
/-!
DEFINITION. The stores of event records (15 R589-R597): their layout, which slot a record takes, the scan.
-/
namespace Sys2Proof.Machine

/-- Slots of the recorder partition and of the buffer on Plinth (15 Storage, R601). -/
def recorderSlots : Nat := 262144
def bufferSlots : Nat := 1024

/-- Bytes 0-59 of an event record (15 R589). -/
def Rec.body (r : Rec) : List Byte :=
  le 8 r.seq ++ le 8 r.first ++ le 8 r.last ++ le 2 r.id ++ le 1 r.severity ++
  le 1 (r.buffered.toNat + 2 * r.early.toNat + 4 * r.gap.toNat) ++ le 2 r.code ++ le 2 r.repeats ++ slice r.detail 0 28

/-- The 64 bytes of an event record (15 R589). -/
def Rec.bytes (r : Rec) : List Byte := r.body ++ le 4 (crc32c r.body)

/-- The 64 bytes of a slot; an empty one reads as zeros. -/
def RecStore.slotBytes (x : RecStore) (k : Nat) : List Byte :=
  match x.slots.find k with
  | some r => r.bytes
  | none => List.replicate 64 0

/-- The lowest empty usable slot from slot `k` on, among `n` (15 R594). -/
def RecStore.emptyFrom (x : RecStore) (usable : Nat → Bool) : Nat → Nat → Option Nat
  | 0, _ => none
  | n + 1, k => if usable k && (x.slots.find k).isNone then some k else RecStore.emptyFrom x usable n (k + 1)

/-- Records of severity `v` held. -/
def RecStore.countOf (x : RecStore) (v : Nat) : Nat := (x.slots.filter (fun e => e.2.severity == v)).length

/-- The lowest severity present. -/
def RecStore.lowest (x : RecStore) : Option Nat := (List.range 5).find? (fun v => x.slots.any (fun e => e.2.severity == v))

/-- The slot of the record of severity `v` with the lowest SEQ. -/
def RecStore.oldest (x : RecStore) (v : Nat) : Option Nat :=
  ((x.slots.filter (fun e => e.2.severity == v)).foldl (fun m e => match m with
    | none => some e
    | some o => if e.2.seq < o.2.seq then some e else m) none).map Prod.fst

/-- The slot a new record of severity `v` takes (15 R595): the lowest empty usable slot, else that of the oldest record of the lowest
severity present, unless that is above `v`. -/
def RecStore.slotFor (x : RecStore) (usable : Nat → Bool) (size v : Nat) : Option Nat :=
  match x.emptyFrom usable size 0 with
  | some k => some k
  | none =>
    match x.lowest with
    | some w => if v < w then none else x.oldest w
    | none => none

/-- A record takes a slot and the next SEQ (15 R591). -/
def RecStore.write (x : RecStore) (k : Nat) (r : Rec) : RecStore :=
  { slots := x.slots.insert k { r with seq := x.nextSeq }, nextSeq := x.nextSeq + 1, lastSlot := some k, head := k }

/-- An occurrence is a repeat of the last record placed (15 R597). -/
def Rec.repeatedBy (r : Rec) (o : Occ) : Bool :=
  r.id == o.id && r.code == o.code && r.detail == o.detail && decide (o.stamp ≤ r.last + sec) && decide (r.repeats < 0xFFFF)

/-- The record an occurrence makes (15 R589, R590). -/
def Occ.record (o : Occ) : Rec :=
  { first := o.stamp, last := o.stamp, id := o.id, severity := eventSeverity o.id, early := o.early, code := o.code, detail := o.detail }

/-- The scan of the recorder at start (15 R591, R594): SEQ goes on after the highest found, and no record is the last placed (R597). -/
def RecStore.scan (x : RecStore) : RecStore :=
  let top := x.slots.foldl (fun m e => if (m.2 : Nat) < e.2.seq then (e.1, e.2.seq) else m) (0, 0)
  { x with nextSeq := top.2 + 1, lastSlot := none, head := top.1 }

end Sys2Proof.Machine
end

