-- ==== Sys2Proof/Machine/Sessions.lean ====
section
/-!
DEFINITION. What several chapters share of the host endpoint and of the management region: MSI-X messages (13 R535, R541),
sessions and their privilege (14 R547-R553), and who may make a custody or mode write (07 R309, 17 R644).
-/
namespace Sys2Proof.Machine

/-- A PCIe function's state: 0 PF0, 1 PF1, 2 + v VF v. -/
def Dev.epFn (s : Dev) (fn : Nat) : EpFn := s.ep.fns.get {} fn

/-- Change a function's state. -/
def Dev.setEpFn (s : Dev) (fn : Nat) (x : EpFn) : Dev := { s with ep := { s.ep with fns := s.ep.fns.put {} fn x } }

/-- A function signals a vector (13 R535): the message is sent, or its pending bit is set while Bus Master Enable is 0 or
the vector is masked. -/
def Dev.msixSend (s : Dev) (fn vec : Nat) : Dev :=
  let x := s.epFn fn
  if x.busMaster && x.unmasked.contains vec then (s.count .EP_MSIX_SENT).emit (.msix fn vec)
  else if x.waiting.contains vec then s
  else s.setEpFn fn { x with waiting := x.waiting ++ [vec] }

/-- A PF1 source signals on the vector it names (13 R541): one of 64 or above sends nothing, event 3E9h. -/
def Dev.pf1Signal (s : Dev) (vec : Nat) : Dev :=
  if 64 ≤ vec then s.event .ln 0x3E9 (le 2 vec) else s.msixSend 1 vec

/-- The event recorder (0), the offload ring (1) and the meter export (2) signal when EP_IRQ_SRC enables them (13 R541). -/
def Dev.irqSource (s : Dev) (k : Nat) : Dev :=
  if s.flag .EP_IRQ_SRC_EN k then s.pf1Signal (s.fld .EP_IRQ_SRC_VEC k) else s

/-- The session of the PF1 dictionary window (14 Session identities). -/
def pf1Session : Nat := 0x100

/-- First number of the 10BASE-T1S sessions (assumption 8). -/
def t1sSession : Nat := 0x200

/-- A session's state. -/
def Dev.session (s : Dev) (n : Nat) : Session := s.od.sessions.get {} n

/-- Change a session's state. -/
def Dev.setSession (s : Dev) (n : Nat) (x : Session) : Dev :=
  { s with od := { s.od with sessions := s.od.sessions.put {} n x } }

/-- The level a session acts with: the PF1 window's holds Custodian while EP_CFG.PRIV is 1 (14 R553). -/
def Dev.sessionLevel (s : Dev) (n : Nat) : Level :=
  if n == pf1Session && s.flag .EP_CFG_PRIV then .custodian else (s.session n).level

/-- The port a session is on: 0 CAN FD, 1 10BASE-T1S, 2 PF1. -/
def sessionPort (n : Nat) : Nat := if n < pf1Session then 0 else if n == pf1Session then 2 else 1

/-- Every session falls to Observer (14 R552: an alarm, or a power loss of the dies). -/
def Dev.dropSessions (s : Dev) : Dev :=
  { s with od := { s.od with sessions := s.od.sessions.mapValues {} (fun _ x => { x with level := .observer, key := none }) } }

/-- Header of an object access message (14 Object access message), bytes 0-31. -/
def oapHeader (op session seq index sub flags offset len status : Nat) : List Byte :=
  le 2 0x4C4F ++ le 1 1 ++ le 1 op ++ le 4 session ++ le 4 seq ++ le 2 index ++ le 1 sub ++ le 1 flags ++ le 4 offset ++ le 2 len ++
  le 2 0 ++ le 4 status ++ le 4 0

/-- The IV of a message: SESSION, SEQ and direction, 0 request, 1 response (14 R577). -/
def oapIv (session seq dir : Nat) : List Byte := le 4 session ++ le 4 seq ++ le 4 dir

/-- The response to a session's last request is sent (14 R577-R579): tagged once the session has a key, enciphered where the request was. -/
def Dev.oapRespond (s : Dev) (n : Nat) : Dev :=
  let x := s.session n
  match x.response with
  | none => s
  | some (code, data) =>
    let flags := (if x.req.enc then 1 else 0) + (if x.key.isSome then 2 else 0)
    let head := oapHeader (x.req.op + 0x80) n x.seq x.req.index x.req.sub flags x.req.offset data.length code
    match x.key with
    | none => s.emit (.oapResponse n (head ++ data))
    | some k =>
      if x.req.enc then
        let r := Config.gcmSeal k (oapIv n x.seq 1) head data
        s.emit (.oapResponse n (head ++ r.1 ++ r.2))
      else s.emit (.oapResponse n (head ++ data ++ Config.gmac k (oapIv n x.seq 1) (head ++ data)))

/-- The access of the PF1 window ends (14 MG_CTL, MG_ABORT, MG_DATA): its outcome, and for a read its value and length. -/
def Dev.windowEnds (s : Dev) (code : Nat) (data : List Byte) : Dev :=
  if !s.flag .MG_CTL_GO then s
  else
    let read := !s.flag .MG_CTL_WRITE && code == 0
    let s := (s.setFld .MG_CTL_GO 0 0).setFld .MG_ABORT_CODE 0 code
    if read then
      let s := s.setFld .MG_CTL_LENGTH 0 data.length
      (List.range ((data.length + 3) / 4)).foldl (fun s w => s.setFld .MG_DATA_DATA w (leNat (slice data (4 * w) 4))) s
    else s

/-- A dictionary access answered with an abort code, 0 for success (14 R586); it restarts the session's idle time (R552). A server
SDO's transfer ends with it, the PF1 window shows it, and 10BASE-T1S stores and sends the response (R578). -/
def Dev.dictAnswer (s : Dev) (n code : Nat) (data : List Byte := []) : Dev :=
  let x := s.session n
  let s := (s.setSession n { x with lastAccess := s.now, response := some (code, data) }).emit (.dictAnswer n code data)
  if n == pf1Session then s.windowEnds code data
  else if t1sSession ≤ n then s.oapRespond n
  else { s with od := { s.od with can := { s.od.can with sdos := s.od.can.sdos.erase n } } }

/-- A dictionary access below the level it needs: abort 0800_0021h, counted in MG_DENIED (14 R547). -/
def Dev.dictDenied (s : Dev) (n : Nat) : Dev :=
  { s with od := { s.od with denied := s.od.denied + 1 } }.dictAnswer n 0x08000021

/-- Abort codes (14 Abort codes used). -/
def abortOk : Nat := 0
def abortReadOnly : Nat := 0x06010002
def abortWriteOnly : Nat := 0x06010001
def abortNoObject : Nat := 0x06020000
def abortNoSub : Nat := 0x06090011
def abortLength : Nat := 0x06070010
def abortRange : Nat := 0x06090030
def abortStore : Nat := 0x06060000
def abortRefused : Nat := 0x08000020
def abortState : Nat := 0x08000022

/-- A dictionary write that was accepted is answered once the parameters it changed are stored (14 R557), at once where nothing waits
to be stored. -/
def Dev.answerStored (s : Dev) (before : Dev) (n : Nat) : Dev :=
  let ks := paramsChanged before.regs s.regs
  if ks.isEmpty && s.fw.storing.isEmpty then s.dictAnswer n abortOk
  else s.queueStore { session := some n, fields := ks }

/-- An effect that answers its dictionary writer, none for a register write. -/
def Dev.answerVia (s : Dev) (v : Via) (code : Nat) : Dev :=
  match v with
  | .reg _ => s
  | .dict n => s.dictAnswer n code

/-- `answerVia` for an accepted write of parameters. -/
def Dev.storedVia (s : Dev) (before : Dev) (v : Via) : Dev :=
  match v with
  | .reg _ => s
  | .dict n => s.answerStored before n

/-- A register or Custodian write common to control space and dictionary (07 R309, 17 R644): `deny` where a register write
comes without privilege, the denial of R547 where a session is below Custodian, else `f`. -/
def Dev.custodianWrite (s : Dev) (v : Via) (deny f : Dev → Dev) : Dev :=
  match v with
  | .reg r => if s.privileged r then f s else deny s
  | .dict n => if s.sessionLevel n = .custodian then f s else s.dictDenied n

/-- A block of registers on Plinth, which is powered in every mode (01 Control space map; 14 R548). -/
def plinthBlock (addr : Nat) : Bool :=
  decide (addr < 0x201000) || (decide (0xE00000 ≤ addr) && decide (addr < 0xE00200)) || (decide (0x3400000 ≤ addr) && decide (addr < 0x3C00000))

/-- A dictionary access cannot reach a register: its region is isolated or its die is not powered (14 R548). -/
def Dev.unreached (s : Dev) (addr : Nat) : Bool := (!s.mode.diesUp && !plinthBlock addr) || s.blockIsolated addr

/-- A command that a register write and a dictionary write, rwp, both give (14 R547, R548, R555, R556): `f` does it and answers
the abort code, 0 where it was accepted. -/
def Dev.viaCommand (s : Dev) (v : Via) (addr : Nat) (f : Dev → Dev × Nat) : Dev :=
  match v with
  | .reg _ => s.regWrite addr (fun s => (f s).1)
  | .dict n =>
    if s.sessionLevel n ≠ .custodian then s.dictDenied n
    else if s.unreached addr then s.dictAnswer n abortState
    else
      let r := f s
      if r.2 = abortOk then r.1.answerStored s n else r.1.dictAnswer n r.2

end Sys2Proof.Machine
end

