-- ==== Sys2Proof/Machine/Cipher.lean ====
section
/-!
DEFINITION. The cipher engine and key custody (07): key slots, the customer secret, alarms and erasure, host offload.
-/
namespace Sys2Proof.Machine

/-- The ASCII bytes of a label (07 R287). -/
def ascii (t : String) : List Byte := t.toList.map (fun c => BitVec.ofNat 8 c.toNat)

/-- The values derived from a customer secret (07 Derived values, 14 Proof keys). -/
def kekOf (cs : List Byte) : List Byte :=
  (Config.sha384 (ascii "LAMCY-YD9624-KEK" ++ Config.puf ++ cs ++ serialBytes)).take 32
def kcvOf (kek : List Byte) : List Byte := (Config.sha384 (ascii "LAMCY-YD9624-KCV" ++ kek)).take 16
def imkOf (cs : List Byte) : List Byte := (Config.sha384 (ascii "LAMCY-YD9624-IMK" ++ cs)).take 32
def proofKeyOf (l : Level) (cs : List Byte) : List Byte :=
  (Config.sha384 (ascii (if l = .custodian then "LAMCY-YD9624-CUST" else "LAMCY-YD9624-OPER") ++ cs)).take 32

/-- Slots of a kind (07 Key slots). -/
def keySlotCount (kind : Nat) : Nat := [4096, 64, 64, 1].getD kind 0

/-- GEN of a destroyed slot (07 Slot entry). -/
def genDestroyed : Nat := 0xFFFFFFFF

/-- Write copy A and then copy B of a slot (07 R285). -/
def Dev.setCopies (s : Dev) (kind i : Nat) (c : KeyCopy) : Dev :=
  let w := s.cust.wrapped
  { s with cust := { s.cust with wrapped := { w with
      slotsA := w.slotsA.put {} (slotKey kind i) c
      slotsB := w.slotsB.put {} (slotKey kind i) c } } }

/-- GEN of a slot entry, copy A's. -/
def Dev.keyGen (s : Dev) (kind i : Nat) : Nat := (s.cust.wrapped.slotsA.get {} (slotKey kind i)).gen

/-- Both copies of a slot written with a key under the KEK; GEN counts the writes, from 1 after a destroy (assumption 9). -/
def Dev.writeCopies (s : Dev) (kind i key : Nat) : Dev :=
  let g := s.keyGen kind i
  let x := s.keySlot kind i
  s.setCopies kind i { gen := (if g = genDestroyed then 0 else g) + 1, kek := s.cust.kek.getD [], key := key, ok := true,
                       use := x.use, size := x.size }

/-- Both copies of a slot marked destroyed, WRAP zero (07 R285). -/
def Dev.destroyCopies (s : Dev) (kind i : Nat) : Dev := s.setCopies kind i { gen := genDestroyed }

/-- A slot is filled: both copies written, the store LOADED, event 300h (07 R284, R278). -/
def Dev.fillKey (s : Dev) (kind i key : Nat) : Dev :=
  let s := s.writeCopies kind i key
  let s := s.setKeySlot kind i { s.keySlot kind i with state := .loaded, key := key, running := none }
  s.event .ln 0x300 (le 1 kind ++ le 2 i)

/-- The device generates a key of its own (07 R278: namespace activation; volume creation; R289: the ledger key). -/
def Dev.generateKey (s : Dev) (kind i : Nat) : Dev :=
  let r := s.draw
  r.2.fillKey kind i r.1

/-- A slot is emptied: zeroed in every store, both copies destroyed, event 301h (07 R282). -/
def Dev.emptyKey (s : Dev) (kind i : Nat) : Dev :=
  let s := s.destroyCopies kind i
  let s := s.setKeySlot kind i {}
  s.event .ln 0x301 (le 1 kind ++ le 2 i)

/-- A custody write refused: event 302h with kind, slot and cause (07 R310). -/
def Dev.custodyRefused (s : Dev) (kind i : Nat) : Dev := s.eventOpenCause .ln 0x302 (le 1 kind ++ le 2 i)

/-- The slot a key command names, and the session that sent it. -/
def Dev.keyTarget (s : Dev) : KeyVia → Nat × Nat
  | .reg _ => (s.fld .KEY_SEL_KIND, s.fld .KEY_SEL_INDEX)
  | .media _ n => (keyMedia, n.val)

/-- KEY_DATA reads as cleared once an IMPORT ends or is refused (07 KEY_DATA). -/
def Dev.clearKeyData (s : Dev) : Dev := (List.range 18).foldl (fun s w => s.setFld .KEY_DATA_DATA w 0) s

/-- A key command reaches the slot (07 R299, R309, 14 R547, R548): `f kind index` does it and tells whether it was accepted. -/
def Dev.keyCommand (s : Dev) (v : KeyVia) (f : Dev → Nat → Nat → Option Dev) : Dev :=
  let k := s.keyTarget v
  let attempt := if s.modeNow = .safe then none else f s k.1 k.2
  match v with
  | .reg r => s.regWrite (Reg.addr .KEY_CMD) (fun s =>
      if s.privileged r then attempt.getD (s.custodyRefused k.1 k.2) else s.custodyRefused k.1 k.2)
  | .media n _ =>
      if s.sessionLevel n ≠ .custodian then s.dictDenied n
      else if s.unreached (Reg.addr .KEY_CMD) then s.dictAnswer n abortState
      else match attempt with
        | some s => s.dictAnswer n abortOk
        | none => (s.custodyRefused k.1 k.2).dictAnswer n abortRefused

/-- GENERATE and IMPORT are accepted (07 R277, R283; 08 R346): a slot EMPTY, no command running, keys in custody. -/
def Dev.mayFill (s : Dev) (kind i : Nat) : Bool :=
  decide (i < keySlotCount kind) && s.cust.kek.isSome &&
    decide ((s.keySlot kind i).state = .empty) && (s.keySlot kind i).running.isNone

/-- A key command starts on a slot. -/
def Dev.startKey (s : Dev) (kind i key : Nat) : Dev :=
  s.setKeySlot kind i { s.keySlot kind i with running := some (.store key) }

/-- KEY_GENERATE (07 R277, R279, R301). -/
def execKeyGenerate (via : KeyVia) (s : State) : Result :=
  s.run (fun d => d.keyCommand via (fun d kind i =>
    if d.mayFill kind i && d.cust.rngOk then
      let r := d.draw
      some (r.2.startKey kind i r.1)
    else none))

/-- KEY_IMPORT (07 R277, R279): the key unwrapped from KEY_DATA under the import key; KEY_DATA is cleared when the command
completes or is refused. -/
def execKeyImport (via : KeyVia) (s : State) : Result :=
  s.run (fun d =>
    let words := (List.range 18).map (fun w => d.fld .KEY_DATA_DATA w)
    let d' := d.keyCommand via (fun d kind i =>
      match d.cust.cs with
      | none => none
      | some cs =>
        match Config.importKey (imkOf cs) words with
        | some key => if d.mayFill kind i then some (d.startKey kind i key) else none
        | none => none)
    let k := d.keyTarget via
    if !d.served || d.blockIsolated (Reg.addr .KEY_CMD) then d'
    else if (d'.keySlot k.1 k.2).running.isSome && (d.keySlot k.1 k.2).running.isNone then d' else d'.clearKeyData)

/-- KEY_COMMAND_COMPLETE (07 R284): both ledger copies of the slot are written, the slot is LOADED, event 300h. -/
def execKeyCommandComplete (kind : Fin 4) (slot : Fin 4096) (s : State) : Result :=
  s.run (fun d =>
    match (d.keySlot kind.val slot.val).running with
    | some (.store key) => (d.fillKey kind.val slot.val key).clearKeyData
    | _ => d)

/-- DESTROY is refused for this slot (07 R281). `active` tells whether a namespace is active, `volume` whether a volume
exists. -/
def Dev.destroyRefused (s : Dev) (active volume : Nat → Bool) (kind i : Nat) : Bool :=
  (kind == keyMedia && active i) || (kind == keyParity && volume i) || kind == keyLedger ||
  (kind == keyService && s.flag .TN_GLB_METER_EN && s.fld .MTR_KEY_KEY_ID == i) ||
  (kind == keyService && (List.range 2).any (fun l => (s.own.bonds.get {} l).up && s.fld .BOND_CFG_KEY_ID l == i))

/-- A namespace is active: its NS_CFG.ACTIVE (04). -/
def Dev.nsActive (s : Dev) (n : Nat) : Bool := s.flag .NS_CFG_ACTIVE n

/-- KEY_DESTROY (07 R277, R281-R283): the slot becomes DESTROYING; later jobs naming it fail. -/
def Dev.keyDestroy (s : Dev) (volume : Nat → Bool) (via : KeyVia) : Dev :=
  s.keyCommand via (fun d kind i =>
    let x := d.keySlot kind i
    if decide (i < keySlotCount kind) && (decide (x.state = .loaded) || decide (x.state = .unreadable)) &&
        x.running.isNone && !d.destroyRefused d.nsActive volume kind i then
      some (d.setKeySlot kind i { x with state := .destroying, running := some .destroy })
    else none)

/-- KEY_DESTROY_COMPLETE (07 R282; 08 R324): once no job and no clearing holds the key, it is zeroed in every store, both copies are marked
destroyed and the slot is EMPTY. -/
def execKeyDestroyComplete (kind : Fin 4) (slot : Fin 4096) (s : State) : Result :=
  s.run (fun d =>
    let held := (kind.val == keyService && d.cust.jobs.any (fun j => j.desc.key == slot.val && j.key.isSome)) ||
      (kind.val == keyMedia && (d.nvme.draining.contains slot.val || d.store.vols.any (fun e => e.2.clearing.contains slot.val)))
    if decide ((d.keySlot kind.val slot.val).state = .destroying) && !held then d.emptyKey kind.val slot.val else d)

/-- What unwrapping one slot gives (07 R286): the copy used, whether copy A was rewritten from copy B, how many copies
were unwrapped and how many of them failed their check; none used: EMPTY or UNREADABLE. -/
inductive Unwrapped where
  | empty (destroyed : Bool)
  | use (c : KeyCopy) (repaired : Bool) (tries fails : Nat)
  | unreadable (tries fails : Nat)
  deriving DecidableEq, Repr

/-- Unwrap a slot from its copies under a KEK (07 R286). -/
def unwrapSlot (kek : List Byte) (a b : KeyCopy) : Unwrapped :=
  let good := fun (c : KeyCopy) => c.ok && c.gen != 0 && c.kek == kek
  let bad := fun (c : KeyCopy) => (c.gen != 0 && !good c).toNat
  if a.gen = genDestroyed ∨ b.gen = genDestroyed then .empty true
  else if a.gen = 0 ∧ b.gen = 0 then .empty false
  else
    let ta := (a.gen != 0).toNat
    let tb := (b.gen != 0).toNat
    if good a && decide (b.gen ≤ a.gen) then .use a false 1 0
    else if good b then .use b true (ta + tb) (bad a)
    else if good a then .use a false (ta + tb) (bad b)
    else .unreadable (ta + tb) (bad a + bad b)

/-- Unwrap one slot and set its state (07 R286). -/
def Dev.unwrapOne (s : Dev) (kek : List Byte) (k : Nat) : Dev :=
  let kind := k / 4096
  let i := k % 4096
  let w := s.cust.wrapped
  match unwrapSlot kek (w.slotsA.get {} k) (w.slotsB.get {} k) with
  | .empty true => (s.destroyCopies kind i).setKeySlot kind i {}
  | .empty false => s.setKeySlot kind i { s.keySlot kind i with state := .empty, key := 0 }
  | .use c repaired tries fails =>
    let s := (s.countJobs tries).count .CX_UNWRAP_FAIL 0 fails
    let s := s.setKeySlot kind i { state := .loaded, key := c.key, use := c.use, size := c.size, running := none }
    if repaired then
      (({ s with cust := { s.cust with wrapped := { s.cust.wrapped with
          slotsA := s.cust.wrapped.slotsA.put {} k c } } } : Dev).event .ln 0x308 (le 1 kind ++ le 2 i))
    else s
  | .unreadable tries fails =>
    let s := (s.countJobs tries).count .CX_UNWRAP_FAIL 0 fails
    (s.setKeySlot kind i { s.keySlot kind i with state := .unreadable, key := 0 }).event .ln 0x309 (le 1 kind ++ le 2 i)

/-- Keys of two tables together, without repeats. -/
def bothKeys {α : Type} (a b : Table α) : List Nat := a.keys ++ b.keys.filter (fun k => !a.keys.contains k)

/-- Where only one copy's KCV matches the derived KEK, the other copy is rewritten from it (07 R292). -/
def WrappedKeys.settle (w : WrappedKeys) (kcv : List Byte) : WrappedKeys :=
  if w.kcvA = some kcv ∧ w.kcvB ≠ some kcv then { w with kcvB := w.kcvA, sealedB := w.sealedA, slotsB := w.slotsA }
  else if w.kcvB = some kcv ∧ w.kcvA ≠ some kcv then { w with kcvA := w.kcvB, sealedA := w.sealedB, slotsA := w.slotsB }
  else w

/-- Plinth takes a secret as accepted: derives the KEK, unwraps all slots, sets KEK_READY (07 R287, R289, R292). -/
def Dev.takeSecret (s : Dev) (cs : List Byte) : Dev :=
  let kek := kekOf cs
  let w := s.cust.wrapped.settle (kcvOf kek)
  let s := { s with cust := { s.cust with cs := some cs, kek := some kek, wrapped := w, ready := true } }
  (bothKeys w.slotsA w.slotsB).foldl (fun s k => s.unwrapOne kek k) s

/-- SEALED_CS by CX_SECRET.SEAL (07 R290). -/
def Dev.sealSecret (s : Dev) (cs : List Byte) : Dev :=
  let v := if s.flag .CX_SECRET_SEAL then some cs else none
  { s with cust := { s.cust with wrapped := { s.cust.wrapped with sealedA := v, sealedB := v } } }

/-- A secret is accepted (07 R288): a copy holds no KCV, or the derived KCV equals a stored one. -/
def Dev.secretFits (s : Dev) (cs : List Byte) : Bool :=
  let kcv := kcvOf (kekOf cs)
  let w := s.cust.wrapped
  w.kcvA.isNone || w.kcvB.isNone || w.kcvA == some kcv || w.kcvB == some kcv

/-- The first accepted secret: KCV to both copies, the ledger key generated, event 304h (07 R289). -/
def Dev.firstSecret (s : Dev) (cs : List Byte) : Dev :=
  if s.cust.wrapped.kcvA.isSome || s.cust.wrapped.kcvB.isSome then s
  else
    let kek := kekOf cs
    let s := { s with cust := { s.cust with kek := some kek, wrapped := { s.cust.wrapped with
      kcvA := some (kcvOf kek), kcvB := some (kcvOf kek) } } }
    (s.generateKey keyLedger 0).event .pl 0x304

/-- A secret refused: event 303h, the port's wait of 1 s, abort (07 R288, 14 R582). -/
def Dev.secretRefused (s : Dev) (n : Nat) : Dev :=
  let s := { s with od := { s.od with secretRefused := s.od.secretRefused.put none (sessionPort n) (some s.now) } }
  (s.event .pl 0x303).dictAnswer n abortRefused

/-- What every write of a secret meets first (14 R582, R583, 07 R299): over 10BASE-T1S a Custodian session with ENC; SAFE, or
device state not loaded, refuse with 0800_0022h and event 303h; within 1 s of a refusal on the port it is refused. -/
def Dev.secretWrite (s : Dev) (n : Nat) (enc : Bool) (f : Dev → Dev) : Dev :=
  if sessionPort n = 1 ∧ !(enc && decide (s.sessionLevel n = .custodian)) then s.dictAnswer n 0x08000021
  else if s.modeNow = .safe || !s.ldg.stateLoaded then (s.event .pl 0x303).dictAnswer n abortState
  else
    let waiting := match s.od.secretRefused.get none (sessionPort n) with
      | some t => !s.expired .pl t sec
      | none => false
    if waiting then (s.event .pl 0x303).dictAnswer n abortRefused else f s

/-- SECRET_INJECT (07 R288-R290, 14 R581-R583): an accepted secret raises its session to Custodian. -/
def execSecretInject (session : Nat) (enc : Bool) (secret : BitVec 256) (s : State) : Result :=
  s.run (fun d => d.secretWrite session enc (fun d =>
    let cs := le 32 secret.toNat
    if d.secretFits cs then
      let d := ((d.firstSecret cs).takeSecret cs).sealSecret cs
      (d.setSession session { d.session session with level := .custodian }).dictAnswer session abortOk
    else d.secretRefused session))

/-- Every copy that unwraps under the old KEK is written anew under the new one (07 R291). -/
def rewrap (old new : List Byte) (t : Table KeyCopy) : Table KeyCopy :=
  t.mapValues {} (fun _ c => if c.kek == old then { c with kek := new } else c)

/-- SECRET_CHANGE (07 R291, 14 R581): copy B, then copy A, under the new KEK with the new KCV; event 304h. -/
def execSecretChange (session : Nat) (enc : Bool) (old new : BitVec 256) (s : State) : Result :=
  s.run (fun d =>
    if d.sessionLevel session ≠ .custodian then d.dictDenied session
    else d.secretWrite session enc (fun d =>
      let a := le 32 old.toNat
      let b := le 32 new.toNat
      if d.secretFits a then
        let d := d.firstSecret a
        let ka := kekOf a
        let kb := kekOf b
        let w := d.cust.wrapped.settle (kcvOf ka)
        let w := { w with
          kcvA := some (kcvOf kb), kcvB := some (kcvOf kb)
          slotsA := rewrap ka kb w.slotsA, slotsB := rewrap ka kb w.slotsB }
        let d := { d with cust := { d.cust with wrapped := w } }
        (((d.takeSecret b).sealSecret b).event .pl 0x304).dictAnswer session abortOk
      else d.secretRefused session))

/-- A key command cut off by an alarm or a power loss: the ledger copies hold the old or the new wrapping (07 R286, R298),
which of them a free value (assumption 1). -/
def Dev.cutKeyCommands (s : Dev) : Dev :=
  s.cust.slots.keys.foldl (fun s k =>
    match (s.cust.slots.get {} k).running with
    | none => s
    | some r =>
      let c := s.draw
      if c.1 % 2 = 0 then c.2
      else match r with
        | .store key => c.2.writeCopies (k / 4096) (k % 4096) key
        | .destroy => c.2.destroyCopies (k / 4096) (k % 4096)) s

/-- Every unwrapped key, the KEK, the secret and what is derived from it are erased (07 R294, R296 steps 2 and 3), jobs
discarded, sessions dropped (14 R549, R552). -/
def Dev.eraseKeys (s : Dev) : Dev :=
  let s := s.cutKeyCommands
  let s := { s with cust := { s.cust with cs := none, kek := none, jobs := [], slots := s.cust.slots.mapValues {} (fun _ x =>
    { x with state := .empty, key := 0, running := none }) } }
  s.dropSessions

/-- A rail is turned off over PMBus (18 R681). -/
def Dev.railOff (s : Dev) (r : Nat) : Dev :=
  (s.setRail r { s.rail r with on := false, pg := false, judged := false }).emit (.pmbusOperation r false)

/-- The erasure on an alarm (07 Erasure on alarm, R296-R298, R705): keys, SEALED_CS, the HBM stacks' rails 9, 8 and 7, the
mortar pool; then event 30Ah with ALM_STAT. -/
def Dev.alarmErasure (s : Dev) : Dev :=
  let s := s.eraseKeys
  let s := { s with cust := { s.cust with ready := false, dipAt := none, wrapped := { s.cust.wrapped with
    sealedA := none, sealedB := none } } }
  let s := [9, 8, 7].foldl (fun s r => s.railOff r) s
  let ids := s.sw.units.map (·.id)
  let s := { s with sw := { s.sw with units := [], rsv := [], waiting := [] } }
  (s.forgetFrames ids).event .pl 0x30A (le 1 s.cust.alarms)

/-- Alarm sources latch in ALM_STAT, each with its event on its first latching (07 R297, R704): (bit, die, event, detail). The
first alarm erases. -/
def Dev.alarm (s : Dev) (sources : List (Nat × Die × Nat × List Byte)) : Dev :=
  let fresh := s.cust.alarms = 0
  let s := sources.foldl (fun s x =>
    if s.cust.alarms / 2 ^ x.1 % 2 = 1 then s
    else ({ s with cust := { s.cust with alarms := s.cust.alarms + 2 ^ x.1 } } : Dev).event x.2.1 x.2.2.1 x.2.2.2) s
  if fresh && s.cust.alarms != 0 then s.alarmErasure else s

/-- Limits of Voltage glitches for a supply, in mV: below the first, above the second (07 R295); none while not judged. -/
def Dev.glitchLimits (s : Dev) : GlitchSupply → Option (Nat × Nat)
  | .standby => some (2800, 3800)
  | .core r =>
    let x := s.rail r.val
    if !x.judged then none
    else if x.voutCmd = 0 then some (530, 970)
    else some (x.voutCmd - 150, x.voutCmd + 150)

/-- What a detected source latches (07 Alarm sources), none where its condition does not hold. Readings of temperature are in
0.125 °C: below -60 °C or above +135 °C, judged once Plinth has released the dies (R293). -/
def Dev.alarmOf (s : Dev) : AlarmSource → Option (Nat × Die × Nat × List Byte)
  | .mesh => some (0, .pl, 0x0E0, [])
  | .lid => some (1, .pl, 0x0E1, [])
  | .overVoltage u mv =>
    match s.glitchLimits u with
    | some l => if l.2 < mv then some (2, .pl, 0x0E2, le 2 mv) else none
    | none => none
  | .temperature t =>
    if s.mode.diesUp ∧ (t < -480 ∨ 1080 < t) then some (3, .pl, 0x0E3, leSigned 2 t) else none
  | .external => if s.flag .ALM_CFG_EXT_EN then some (5, .pl, 0x0E4, []) else none

/-- ALARM (07 R293-R298, R704, R705). -/
def execAlarm (sources : List AlarmSource) (s : State) : Result :=
  s.run (fun d => d.alarm (sources.filterMap d.alarmOf))

/-- UNDER_VOLTAGE (07 R294): every unwrapped key, the KEK, the secret and its derived values are erased at once and the data
path stops. -/
def execUnderVoltage (supply : GlitchSupply) (mv : Nat) (s : State) : Result :=
  s.run (fun d =>
    match d.glitchLimits supply with
    | some l =>
      if mv < l.1 && d.cust.alarms == 0 && d.cust.dipAt.isNone then
        let d := d.eraseKeys
        { d with cust := { d.cust with dipAt := some d.now } }
      else d
    | none => d)

/-- UNDER_VOLTAGE_RECOVER (07 R294): a supply that recovers within 1 ms is an alarm of source voltage. -/
def execUnderVoltageRecover (s : State) : Result :=
  s.run (fun d =>
    match d.cust.dipAt with
    | some t => if d.expired .pl t ms then d else d.alarm [(2, .pl, 0x0E2, [])]
    | none => d)

/-- RNG_TEST_FAIL (07 R301): RNG_OK 0, event 305h when the test begins to fail. -/
def execRngTestFail (s : State) : Result :=
  s.run (fun d => ({ d with cust := { d.cust with rngOk := false } } : Dev).eventIf d.cust.rngOk .pl 0x305)

/-- RNG_TEST_PASS (07 R301): both tests pass again, RNG_OK 1. -/
def execRngTestPass (s : State) : Result := s.run (fun d => { d with cust := { d.cust with rngOk := true } })

/-- ALM_CFG_WRITE (07 R309): a privileged or Custodian write, only in COMMISSION; else discarded with event 302h. -/
def execAlmCfgWrite (via : Via) (value : Word) (s : State) : Result :=
  s.run (fun d =>
    let deny := fun (d : Dev) => d.custodyRefused 0 0
    let f := fun (d : Dev) => d.custodianWrite via deny (fun d =>
      if d.modeNow = .commission then
        ((d.setFld .ALM_CFG_EXT_POL 0 (bitsOf value 1 1)).setFld .ALM_CFG_EXT_EN 0 (bitsOf value 0 0)).storedVia d via
      else (deny d).answerVia via abortState)
    match via with
    | .reg _ => d.regWrite (Reg.addr .ALM_CFG) f
    | .dict _ => f d)

/-- The length rules of an offload descriptor hold, and its OP and alignment (07 R305, R306). -/
def offloadValid (x : OffloadDesc) : Bool :=
  decide (1 ≤ x.op) && decide (x.op ≤ 12) && decide (1 ≤ x.len) && decide (x.len ≤ 16384) && decide (x.aadLen ≤ 16384) &&
  (!(x.op == 2 || x.op == 3) || x.len % 16 == 0) &&
  (!(x.op == 11 || x.op == 12) || (x.len % 8 == 0 && decide (16 ≤ x.len))) &&
  x.src.toNat % 64 == 0 && x.dst.toNat % 64 == 0 && x.aad.toNat % 64 == 0 && x.tag.toNat % 64 == 0

/-- Bytes an OP writes to DST (07 R306). -/
def offloadOutLen (x : OffloadDesc) : Nat :=
  match x.op with
  | 11 => x.len + 8
  | 12 => x.len - 8
  | 9 => 0
  | 10 => 0
  | _ => x.len

/-- DST in whole 64-byte blocks, zero beyond the output length (07 R306). -/
def offloadPadded (x : OffloadDesc) (out : List Byte) : List Byte :=
  let n := offloadOutLen x
  (List.range (ceilDiv n 64 * 64)).map (fun k => if k < n then out.getD k 0 else 0)

/-- The descriptors posted up to TAIL are taken in order and started: each job reads its key now (07 R270, R280, R308). -/
def Dev.takeJobs (s : Dev) : List OffloadDesc → Dev
  | [] => s
  | x :: xs =>
    if s.cust.taken = s.fld .OFL_TAIL_INDEX then s
    else
      let j : OffloadJob := ⟨s.cust.taken, x, s.serviceKey x.key useOffload⟩
      Dev.takeJobs { s with cust := { s.cust with
        taken := (s.cust.taken + 1) % 2 ^ 32, jobs := s.cust.jobs ++ [j] } } xs

/-- The offload ring runs (07 OFL_CTL; 13 R534). -/
def Dev.offloadRuns (s : Dev) : Bool := s.flag .OFL_CTL_EN && s.dataPath && (s.epFn 1).busMaster

/-- OFFLOAD_DOORBELL (07 R308): a write of OFL_TAIL; `descs` are the descriptors the device fetches from the ring. -/
def execOffloadDoorbell (_req : Requester) (tail : Word) (descs : List OffloadDesc) (s : State) : Result :=
  s.run (fun d => d.regWrite (Reg.addr .OFL_TAIL) (fun d =>
    let d := d.setFld .OFL_TAIL_INDEX 0 tail.toNat
    if d.offloadRuns then
      d.takeJobs (descs.take (2 ^ d.fld .OFL_CTL_SIZE_LOG2)) else d))

/-- OFL_HEAD advances past every finished descriptor that no earlier one waits for (07 R308). -/
def Dev.advanceHead (s : Dev) : Nat → Dev
  | 0 => s
  | n + 1 =>
    if s.cust.finished.contains s.cust.head then
      Dev.advanceHead { s with cust := { s.cust with
        finished := s.cust.finished.filter (fun k => k != s.cust.head), head := (s.cust.head + 1) % 2 ^ 32 } } n
    else s

/-- STATUS of a job (07 Offload descriptor) and what the core made. -/
def offloadResult (j : OffloadJob) (transferOk : Bool) (aad data tag : List Byte) : Nat × Option (List Byte × List Byte) :=
  if !transferOk then (5, none)
  else if !offloadValid j.desc then (4, none)
  else match j.key with
    | none => (3, none)
    | some key =>
      match Config.generalJob j.desc.op key j.desc.iv aad data tag with
      | none => (2, none)
      | some r => (1, some r)

/-- OFFLOAD_JOB_COMPLETE (07 R305-R308, 13 R534, R541), while the ring runs and PF1 may issue requests: STATUS written; DST and TAG only after the check passes; OFL_HEAD past
every finished descriptor; the ring's interrupt. -/
def execOffloadJobComplete (index : Word) (transferOk : Bool) (aad data tag : List Byte) (s : State) : Result :=
  s.runIf (s.dev.offloadRuns) (fun d =>
    match d.cust.jobs.find? (fun j => j.index == index.toNat) with
    | none => d
    | some j =>
      let r := offloadResult j transferOk aad data tag
      let d := match r.2 with
        | some o =>
          let d := if offloadOutLen j.desc = 0 then d else d.emit (.hostWrite j.desc.dst (offloadPadded j.desc o.1))
          if j.desc.op == 7 || j.desc.op == 9 then d.emit (.hostWrite j.desc.tag o.2) else d
        | none => d
      let d := d.emit (.offloadStatus j.index r.1)
      let d := { d with cust := { d.cust with
        jobs := d.cust.jobs.filter (fun k => k.index != j.index), finished := d.cust.finished ++ [j.index] } }
      let d := d.advanceHead (d.cust.finished.length)
      let d := (d.count .CX_OFL_JOBS).count .CX_GC_JOBS
      let d := if r.1 = 1 then d
        else d.count .CX_OFL_ERR
      d.irqSource 1)

end Sys2Proof.Machine
end

