-- ==== Sys2Proof/Machine/StoreOps.lean ====
section
/-!
DEFINITION. What the volumes, the journal, the jobs and the drives share (08, 09, 10, 11): geometry, namespaces on volumes,
encipherment of units, the availability of blocks, member commands, member and volume states, stamps and maps.
-/
namespace Sys2Proof.Machine

/-- A volume's state. -/
def Dev.vol (s : Dev) (v : Nat) : Volume := s.store.vols.get {} v

/-- Change a volume. -/
def Dev.setVol (s : Dev) (v : Nat) (x : Volume) : Dev :=
  { s with store := { s.store with vols := s.store.vols.put {} v x } }

/-- A drive's state by slot. -/
def Dev.drive (s : Dev) (k : Nat) : Drive := s.store.drives.get {} k

/-- Change a drive's state. -/
def Dev.setDrive (s : Dev) (k : Nat) (x : Drive) : Dev :=
  { s with store := { s.store with drives := s.store.drives.put {} k x } }

/-- A pier's storage side. -/
def Dev.pier (s : Dev) (p : Nat) : PierStore := s.ldg.piers.get {} p

/-- Change a pier's storage side. -/
def Dev.setPier (s : Dev) (p : Nat) (x : PierStore) : Dev :=
  { s with ldg := { s.ldg with piers := s.ldg.piers.put {} p x } }

/-- The die of a pier. -/
def pierDie (p : Nat) : Die := if p = 0 then .pe else .pw

/-- A region of a pier by its place on the die: 0 drive, 1 parity, 2 cipher, 3 tracker, 4 control, 5 seam (01 Region indices). -/
def Dev.pierRuns (s : Dev) (p r : Nat) : Bool := !s.isolated (p * 6 + r)

/-- A pier's data path runs: all its regions run and it is not fenced (01 R20, 16 R627). -/
def Dev.pierUp (s : Dev) (p : Nat) : Bool :=
  s.dataPath && (List.range 6).all (fun r => s.pierRuns p r) && !(s.own.piers.get {} p).fenced

/-- Owner and epoch of a volume in the quoin (16 R615, R616): where none is listed, the home pier at epoch 1 (assumption 17). -/
def Dev.quoinVol (s : Dev) (v : Nat) : Owned := (s.own.vols.find v).getD ⟨s.fld .VOL_CFG_HOME v, 1⟩

/-- The pier that serves a volume (08 R347). -/
def Dev.volPier (s : Dev) (v : Nat) : Nat := if (s.vol v).st = .none then (s.quoinVol v).owner else (s.vol v).owner

/-- A slot's lanes: 0 on Pier East, 1 on Pier West (00 R3). -/
def slotLanes (k : Nat) : Nat := if k < 12 then 0 else 1

/-- A pier reaches the drive of a slot: its own drive region, or over seam 0 the other pier's (01 R28). -/
def Dev.reaches (s : Dev) (p k : Nat) : Bool :=
  if slotLanes k = p then s.pierRuns p 0
  else s.seamUp 0 && s.pierRuns (1 - p) 0 && s.pierRuns (1 - p) 5 && s.pierRuns p 5

/-- Units in a region of the maps (09 R368), and where the data area begins (08 R313). -/
def regionUnits : Nat := 262144
def dataStart : Nat := 1048576

/-- A geometry: width and strip in units (08 R311). -/
structure Geom where
  n : Nat
  u : Nat
  deriving DecidableEq, Repr

/-- Data strips per stripe. -/
def Geom.d (g : Geom) : Nat := g.n - 2

/-- Units in a stripe. -/
def Geom.stripeUnits (g : Geom) : Nat := g.d * g.u

/-- Strip in units of an exponent n (08 R311, R314). -/
def stripUnits (n : Nat) : Nat := 2 ^ (n - 2)

/-- The geometry of a volume; in a reshape the old one, or the new one (10 Reshape). -/
def Dev.geom (s : Dev) (v : Nat) (newGeo : Bool) : Geom :=
  match (s.vol v).reshape with
  | some r => if newGeo then ⟨r.newWidth, stripUnits r.newStrip⟩ else ⟨r.oldWidth, stripUnits r.oldStrip⟩
  | none => ⟨s.fld .VOL_CFG_WIDTH v, stripUnits (s.fld .VOL_CFG_STRIP v)⟩

/-- Member blocks in a unit: 1, or 8 of 512 bytes (08 R312; assumption 12). -/
def Dev.gran (s : Dev) (v : Nat) : Nat := if s.flag .VOL_CFG_MBS v then 8 else 1

/-- A unit lies below the reshape boundary (10 R428). -/
def Dev.unitNew (s : Dev) (v a : Nat) : Bool :=
  match (s.vol v).reshape with
  | some r => decide (a < r.bound)
  | none => false

/-- A volume unit's place: stripe, strip index, unit within the strip (08 R316). -/
def Geom.place (g : Geom) (a : Nat) : Nat × Nat × Nat :=
  let r := a % g.stripeUnits
  (a / g.stripeUnits, r / g.u, r % g.u)

/-- The volume unit at a place. -/
def Geom.unitAt (g : Geom) (k j o : Nat) : Nat := k * g.stripeUnits + j * g.u + o

/-- The member that holds strip `x` of stripe k; `d` is P and `d + 1` is Q (08 R315). -/
def Geom.member (g : Geom) (k x : Nat) : Nat :=
  let p := g.n - 1 - k % g.n
  if x = g.d then p else if x = g.d + 1 then (p + 1) % g.n else (p + 2 + x) % g.n

/-- The member unit of unit `o` in a strip of stripe k (08 R316). -/
def Geom.memberUnit (g : Geom) (k o : Nat) : Nat := dataStart + k * g.u + o

/-- A row: the member blocks at one offset of one stripe (08), in the old or the new geometry. -/
structure RowRef where
  newGeo : Bool
  stripe : Nat
  row : Nat
  deriving DecidableEq, Repr

/-- Key of a member's unit in the staging tables. -/
def locKey (v m unit : Nat) : Nat := (v * 24 + m) * 2 ^ 37 + unit

/-- Where a block of a row lies: member and member unit. -/
def Dev.blockLoc (s : Dev) (v : Nat) (r : RowRef) (x : Nat) : Nat × Nat :=
  let g := s.geom v r.newGeo
  (g.member r.stripe x, g.memberUnit r.stripe r.row)

/-- The volume unit of a data block of a row. -/
def Dev.rowUnit (s : Dev) (v : Nat) (r : RowRef) (j : Nat) : Nat := (s.geom v r.newGeo).unitAt r.stripe j r.row

/-- The row and the strip of a volume unit, in the geometry that holds it now. -/
def Dev.rowOf (s : Dev) (v a : Nat) : RowRef × Nat :=
  let ng := s.unitNew v a
  let p := (s.geom v ng).place a
  (⟨ng, p.1, p.2.2⟩, p.2.1)

/-- Namespaces (04 NS_CFG), by index NSID - 1. -/
def Dev.nsVol (s : Dev) (n : Nat) : Nat := s.fld .NS_CFG_VOLUME n
def Dev.nsTenant (s : Dev) (n : Nat) : Nat := s.fld .NS_CFG_TENANT n
def Dev.nsLbaf (s : Dev) (n : Nat) : Nat := s.fld .NS_CFG_LBAF n
def Dev.nsPit (s : Dev) (n : Nat) : Nat := s.fld .NS_CFG_PIT n
def Dev.nsBase (s : Dev) (n : Nat) : Nat := s.fld .NS_BASE_HI_VALUE n * 2 ^ 32 + s.fld .NS_BASE_LO_VALUE n
def Dev.nsSize (s : Dev) (n : Nat) : Nat := s.fld .NS_SIZE_HI_VALUE n * 2 ^ 32 + s.fld .NS_SIZE_LO_VALUE n

/-- Data and metadata bytes of a block by LBAF (04 LBA formats). -/
def lbaData (f : Nat) : Nat := [512, 4096, 512, 4096, 4096].getD f 4096
def lbaMeta (f : Nat) : Nat := [0, 0, 8, 8, 16].getD f 0

/-- Blocks of a format in a unit. -/
def lbaPerUnit (f : Nat) : Nat := 4096 / lbaData f

/-- A namespace's size in blocks. -/
def Dev.nsBlocks (s : Dev) (n : Nat) : Nat := s.nsSize n * lbaPerUnit (s.nsLbaf n)

/-- Namespaces whose extents hold data: active, draining, or being cleared (04 R197, 08 R325). -/
def Dev.liveNs (s : Dev) : List Nat :=
  (s.regs.filterMap (fun e => if e.1 % 1024 = Fld.NS_CFG_ACTIVE.ctorIdx ∧ e.2 ≠ 0 then some (e.1 / 1024) else none)) ++
  s.nvme.draining ++ s.store.vols.flatMap (fun e => e.2.clearing)

/-- The live namespace that holds a volume unit. -/
def Dev.nsAt (s : Dev) (v a : Nat) : Option Nat :=
  s.liveNs.find? (fun n => s.nsVol n == v && decide (s.nsBase n ≤ a) && decide (a < s.nsBase n + s.nsSize n))

/-- Block `i` of a unit: its data then its metadata, taken from their places (08 R317). -/
def unitPart (f i : Nat) (b : Block) : Block :=
  slice b (lbaData f * i) (lbaData f) ++ slice b (4096 + 64 / lbaPerUnit f * i) (lbaMeta f)

/-- A unit with block `i` replaced. -/
def putPart (f i : Nat) (b x : Block) : Block :=
  splice (splice b (lbaData f * i) (x.take (lbaData f))) (4096 + 64 / lbaPerUnit f * i) (x.drop (lbaData f))

/-- The key of a slot that a running job may still read: LOADED or DESTROYING (07 R282). -/
def Dev.jobKey (s : Dev) (kind i : Nat) : Nat :=
  let x := s.keySlot kind i
  if x.state = .loaded ∨ x.state = .destroying then x.key else 0

/-- Apply a cipher to each block of a unit of namespace n; a block of zeros stays zero (07 R271, R272; 08 R322). -/
def Dev.cipherUnit (s : Dev) (f : Nat → Nat → List Byte → List Byte) (n a : Nat) (b : Block) : Block :=
  let lf := s.nsLbaf n
  let key := s.jobKey keyMedia n
  (List.range (lbaPerUnit lf)).foldl (fun b i =>
    let x := unitPart lf i b
    let lba := (a - s.nsBase n) * lbaPerUnit lf + i
    if allZero x then b else putPart lf i b (f key ((n + 1) * 2 ^ 64 + lba) x)) b

/-- The stored bytes of a data unit of plaintext; outside every namespace a unit is zero (08 R325). -/
def Dev.sealUnit (s : Dev) (v a : Nat) (b : Block) : Block :=
  match s.nsAt v a with
  | some n => s.cipherUnit Config.xts n a b
  | none => b

/-- The plaintext of a stored data unit (08 R322). -/
def Dev.openUnit (s : Dev) (v a : Nat) (b : Block) : Block :=
  match s.nsAt v a with
  | some n => s.cipherUnit Config.unxts n a b
  | none => b

/-- Part `i` of `g` of a parity unit: its data and metadata (08 R318). -/
def parityPart (g i : Nat) (b : Block) : Block := slice b (4096 / g * i) (4096 / g) ++ slice b (4096 + 64 / g * i) (64 / g)

/-- Apply a cipher to a parity unit, one member block each (07 R273, 08 R318); with `keep` a zero block stays zero (R322). -/
def Dev.cipherParity (s : Dev) (f : Nat → Nat → List Byte → List Byte) (keep : Bool) (v : Nat) (r : RowRef) (q : Bool) (b : Block) : Block :=
  let g := s.gran v
  let key := s.jobKey keyParity v
  let idx := (r.stripe * (s.geom v r.newGeo).u + r.row) * g
  let parts := (List.range g).map (fun i =>
    let x := parityPart g i b
    if keep && allZero x then x else f key (2 ^ 127 + v * 2 ^ 120 + (if q then 2 ^ 119 else 0) + idx + i) x)
  parts.flatMap (fun x => x.take (4096 / g)) ++ parts.flatMap (fun x => x.drop (4096 / g))

/-- Stored bytes of a block of a row from its plaintext; parity is always enciphered (08 R320). -/
def Dev.sealBlock (s : Dev) (v : Nat) (r : RowRef) (x : Nat) (b : Block) : Block :=
  let d := (s.geom v r.newGeo).d
  if x < d then s.sealUnit v (s.rowUnit v r x) b else s.cipherParity Config.xts false v r (x == d + 1) b

/-- Stored bytes of P or Q of a record's row: a full stripe cleared by Write Zeroes has them zero too (08 R324, 09 ZERO), any other
row has them enciphered. -/
def Dev.rowParity (s : Dev) (v : Nat) (y : Row) (x : Nat) (b : Block) : Block :=
  if y.zero && y.kind == .full then b else s.sealBlock v ⟨y.newGeo, y.stripe, y.row⟩ x b

/-- Plaintext of a block of a row from its stored bytes. -/
def Dev.openBlock (s : Dev) (v : Nat) (r : RowRef) (x : Nat) (b : Block) : Block :=
  let d := (s.geom v r.newGeo).d
  if x < d then s.openUnit v (s.rowUnit v r x) b else s.cipherParity Config.unxts true v r (x == d + 1) b

/-- Namespace data units (07 R271) in a block of a row that are enciphered or deciphered: those not all zero (08 R322); parity
units are none (assumption 69). -/
def Dev.dataUnits (s : Dev) (v : Nat) (r : RowRef) (x : Nat) (b : Block) : Nat :=
  if (s.geom v r.newGeo).d ≤ x then 0
  else match s.nsAt v (s.rowUnit v r x) with
    | none => 0
    | some n => ((List.range (lbaPerUnit (s.nsLbaf n))).filter (fun i => !allZero (unitPart (s.nsLbaf n) i b))).length

/-- Count data units enciphered or deciphered (07 XTS_UNITS). -/
def Dev.countXts (s : Dev) (n : Nat) : Dev := if n = 0 then s else s.count .CX_XTS_UNITS 0 n

/-- A volume's members by index. -/
def Dev.mem (s : Dev) (v m : Nat) : Member := (s.vol v).members.get {} m

/-- The regions a stripe lies in (09 R368). -/
def Dev.stripeRegions (s : Dev) (v : Nat) (ng : Bool) (k : Nat) : List Nat :=
  let g := s.geom v ng
  let a := k * g.stripeUnits / regionUnits
  let b := ((k + 1) * g.stripeUnits - 1) / regionUnits
  (List.range (b + 1 - a)).map (· + a)

/-- A target is current for a stripe (10 R414): outside its resync set, or visited since it joined. -/
def Dev.targetCurrent (s : Dev) (v : Nat) (t : Target) (ng : Bool) (k : Nat) : Bool :=
  let first := match (s.vol v).reshape with
    | some r => if ng then k * (s.geom v ng).stripeUnits else max r.bound (k * (s.geom v ng).stripeUnits)
    | none => k * (s.geom v ng).stripeUnits
  let visited := match (s.vol v).pass with
    | some p =>
      if t.wrapped then decide (t.join ≤ first) || decide (first < p.cursor)
      else decide (t.join ≤ first) && decide (first < p.cursor)
    | none => false
  let outside := match t.resync with
    | some rs => (s.stripeRegions v ng k).all (fun g => !rs.contains g)
    | none => false
  visited || outside

/-- A member's blocks of a stripe can be read and written (10 R415, 08 Reads): online or a current target, and reached. -/
def Dev.memberServes (s : Dev) (v m : Nat) (ng : Bool) (k : Nat) : Bool :=
  let x := s.mem v m
  s.reaches (s.volPier v) x.slot &&
  match x.st with
  | .online => true
  | .rebuilding =>
    match (s.vol v).pass with
    | some p => p.targets.any (fun t => t.index == m && s.targetCurrent v t ng k)
    | none => false
  | _ => false

/-- The staged image of a block (08 R332). -/
def Dev.stagedAt (s : Dev) (v : Nat) (r : RowRef) (x : Nat) : Option Image :=
  let l := s.blockLoc v r x
  (s.pier (s.volPier v)).staged.find (locKey v l.1 l.2)

/-- A unit is in the volume's bad-block list (08 R338). -/
def Dev.listed (s : Dev) (v a : Nat) : Bool := (s.vol v).bad.contains a

/-- What is in hand of a row: for each strip its plaintext and stored bytes, the staged image before a member's copy (08
R332). -/
def Dev.inHand (s : Dev) (v : Nat) (hand : List InHand) (r : RowRef) (x : Nat) : Option (Block × Block) :=
  match s.stagedAt v r x with
  | some i => some (i.plain, i.stored)
  | none =>
    (hand.find? (fun h => h.newGeo == r.newGeo && h.stripe == r.stripe && h.row == r.row && h.strip == x)).map
      (fun h => (h.plain, h.stored))

/-- A block can be had from its member. -/
def Dev.fetchable (s : Dev) (v : Nat) (bad : List BadBlock) (r : RowRef) (x : Nat) : Bool :=
  s.memberServes v (s.blockLoc v r x).1 r.newGeo r.stripe &&
  !bad.contains ⟨r.newGeo, r.stripe, r.row, x⟩

/-- Strips of a row lost: neither in hand nor to be had. -/
def Dev.lostStrips (s : Dev) (v : Nat) (hand : List InHand) (bad : List BadBlock) (r : RowRef) : List Nat :=
  (List.range ((s.geom v r.newGeo).d + 2)).filter (fun x =>
    (s.inHand v hand r x).isNone && !s.fetchable v bad r x)

/-- The blocks to fetch so that the strips `want` of a row are known (08 R321, R337); none when more than two are lost and one
of `want` is among them. -/
def Dev.fetchPlan (s : Dev) (v : Nat) (hand : List InHand) (bad : List BadBlock) (r : RowRef) (want : List Nat) :
    Option (List Nat) :=
  let d := (s.geom v r.newGeo).d
  let lost := s.lostStrips v hand bad r
  let miss := want.filter (fun x => lost.contains x)
  let direct := want.filter (fun x => !lost.contains x)
  let need :=
    if miss.isEmpty then some direct
    else if 2 < lost.length then none
    else
      let ld := lost.filter (· < d)
      let parity := [d, d + 1].filter (fun x => !lost.contains x)
      let use := if ld.length = 0 then [] else if ld.length = 1 then parity.take 1 else parity
      some (direct ++ (List.range d).filter (fun x => !lost.contains x && !direct.contains x) ++
        use.filter (fun x => !direct.contains x))
  need.map (fun l => l.filter (fun x => (s.inHand v hand r x).isNone))

/-- The row as in hand. -/
def Dev.rowView (s : Dev) (v : Nat) (hand : List InHand) (r : RowRef) : RowView :=
  (List.range ((s.geom v r.newGeo).d + 2)).map (fun x => (s.inHand v hand r x).map Prod.fst)

/-- The plaintext of a strip of a row, recovered where it is lost (08 R321). -/
def Dev.stripPlain (s : Dev) (v : Nat) (hand : List InHand) (r : RowRef) (x : Nat) : Option Block :=
  match s.inHand v hand r x with
  | some b => some b.1
  | none => (recoverData (s.geom v r.newGeo).d (s.rowView v hand r)).bind (fun ds => (wholeRow ds)[x]?)

/-- Stored bytes of a strip: as in hand, else enciphered again from its plaintext. -/
def Dev.stripStored (s : Dev) (v : Nat) (hand : List InHand) (r : RowRef) (x : Nat) : Option Block :=
  match s.inHand v hand r x with
  | some b => some b.2
  | none => (s.stripPlain v hand r x).map (s.sealBlock v r x)

/-- Submit a member command (11 R455): numbered, timed from now, counted on the pier that drives the slot. -/
def Dev.memberCmd (s : Dev) (c : MCmd) : Dev :=
  let p := match c.use with
    | .record p _ _ _ _ _ => p
    | .secondary p _ => p
    | _ => s.volPier c.volume
  let epoch := ((s.own.piers.get {} p).seenSlots.get ⟨0, 1⟩ c.slot).epoch
  let c := { c with id := s.store.nextMcmd, since := s.nowOn (pierDie (slotLanes c.slot)), pier := p, epoch := epoch }
  let s := { s with store := { s.store with mcmds := s.store.mcmds ++ [c], nextMcmd := s.store.nextMcmd + 1 } }
  let s := s.count .DRV_MCMD_ISSUED (slotLanes c.slot)
  match c.use with
  | .flush => (s.count .DRV_FLUSHES (slotLanes c.slot)).emit (.memberFlush c.id c.slot)
  | .reserved _ => s.emit (.memberReserved c.id c.slot c.unit)
  | .stamp _ _ _ => s.emit (.memberReserved c.id c.slot c.unit)
  | .secondary _ _ => s.emit (.memberReserved c.id c.slot c.unit)
  | _ => if c.write then s.emit (.memberWrite c.id c.slot c.unit c.stored) else s.emit (.memberRead c.id c.slot c.unit)

/-- Members of a volume in one of these states, as (index, slot). -/
def Dev.membersIn (s : Dev) (v : Nat) (sts : List MState) : List (Nat × Nat) :=
  ((s.vol v).members.filter (fun e => sts.contains e.2.st)).map (fun e => (e.1, e.2.slot))

/-- Write a unit of the reserved area of drives (11 R453). -/
def Dev.reservedWrite (s : Dev) (v unit : Nat) (slots : List Nat) : Dev :=
  slots.foldl (fun s k => s.memberCmd { write := true, slot := k, volume := v, unit := unit, use := .reserved v }) s

/-- Writes of a volume's reserved areas that are not yet durable (11 R453). -/
def Dev.reservedBusy (s : Dev) (v : Nat) : Bool :=
  s.store.mcmds.any (fun c => match c.use with
    | .reserved w => w == v
    | .stamp w _ _ => w == v
    | _ => false) ||
  s.store.flushing.any (fun e => match e.2.2 with
    | .reserved w => w == v
    | .stamp w _ _ => w == v
    | _ => false)

/-- Rewrite a volume's stamps on its online and rebuilding members (10 R402): both copies of unit 0 and 2,048 count as one
write here. -/
def Dev.stampAll (s : Dev) (v : Nat) : Dev :=
  (s.membersIn v [.online, .rebuilding]).foldl (fun s e =>
    s.memberCmd { write := true, slot := e.2, volume := v, member := e.1, unit := 0, use := .stamp v e.1 (s.vol v).gen }) s

/-- A checkpoint of a volume is written in both ledger copies (10 R423, R433). -/
def Dev.checkpoint (s : Dev) (v : Nat) : Dev :=
  let x := s.vol v
  let pass := x.pass.map (fun p => { p with saved := p.cursor })
  (s.setVol v { x with ckptSeq := x.ckptSeq + 1, pass := pass }).count .JOB_CKPT_WRITES (s.volPier v)

/-- GEN advances by one: stamps and the checkpoint slot are written (10 R402). -/
def Dev.genAdvance (s : Dev) (v : Nat) : Dev :=
  let s := s.setVol v { s.vol v with gen := (s.vol v).gen + 1 }
  (s.stampAll v).checkpoint v

/-- Map hosts of a volume (09 R372): the online members of lowest index, at most three. -/
def Dev.mapHosts (s : Dev) (v : Nat) : List Nat := ((s.membersIn v [.online]).map Prod.snd).take 3

/-- Members of any volume: slots whose drive a member table names in use. -/
def Dev.isMemberOf (s : Dev) (v k : Nat) : Bool :=
  (s.vol v).members.any (fun e => e.2.slot == k && (e.2.st == .online || e.2.st == .rebuilding))

/-- Secondary hosts of a volume (09 R373): the two online drives of lowest slot that are not its members, made up by its
online members of highest index. -/
def Dev.secondaryHosts (s : Dev) (v : Nat) : List Nat :=
  let others := (List.range 24).filter (fun k =>
    ((s.drive k).st == .online || (s.drive k).st == .spare) && !s.isMemberOf v k)
  let own := ((s.membersIn v [.online]).map Prod.snd).reverse
  (others.take 2 ++ own).take 2

/-- The redundancy level of a state (08 Volume states). -/
def VState.level : VState → Nat
  | .optimal => 2 | .degraded => 1 | _ => 0

/-- A volume changes state: event 343h with the redundancy, the state as CODE (08 R344); a new redundancy level also records
284h (05 R224). -/
def Dev.volState (s : Dev) (v : Nat) (st : VState) : Dev :=
  let x := s.vol v
  if x.st = st then s
  else
    let s := s.setVol v { x with st := st, level := st.level }
    let s := s.event (pierDie (s.volPier v)) 0x343 (le 1 v ++ le 1 st.level) st.code
    let served := st = .optimal ∨ st = .degraded ∨ st = .critical
    s.eventIf (served && x.level != st.level) .ln 0x284 (le 1 v) st.level

/-- The state the online members give (08 R344). -/
def Dev.stateByMembers (s : Dev) (v : Nat) : VState :=
  let x := s.vol v
  let n := x.members.length
  let on := (s.membersIn v [.online]).length
  if x.full then .failed
  else if n ≤ on then .optimal
  else if n = on + 1 then .degraded
  else if n = on + 2 then .critical
  else .failed

/-- After a change of members: the volume's state follows (08 R344); OPTIMAL clears the absence map (10 R400); entering FAILED
stops the pass, event 366h (10 R419). -/
def Dev.settleVol (s : Dev) (v : Nat) : Dev :=
  let x := s.vol v
  if x.st = .optimal ∨ x.st = .degraded ∨ x.st = .critical ∨ x.st = .failed then
    let st := s.stateByMembers v
    let s1 := s.volState v st
    let s2 := if st = .optimal then s1.setVol v { s1.vol v with absent := [] } else s1
    let hadHosts := st = .optimal && !x.absent.isEmpty
    let s3 := if hadHosts then s2.reservedWrite v 4352 (s2.mapHosts v) else s2
    s3.eventIf (decide (st = .failed) && decide (x.st ≠ .failed) && x.pass.isSome) (pierDie (s.volPier v)) 0x366 (le 1 v)
  else s

/-- Set a member's state and its drive's (10 R397, R398), with the event of the transition. -/
def Dev.setMember (s : Dev) (v m : Nat) (st : MState) : Dev :=
  let x := s.vol v
  let e := x.members.get {} m
  let ms := x.members.insert m { e with st := st, missingAt := if st = .missing then some (s.nowOn (pierDie (s.volPier v))) else none }
  let s := s.setVol v { x with members := ms }
  let dr := s.drive e.slot
  s.setDrive e.slot { dr with st := st, volume := v, index := m }

/-- Detail of a member event: volume, slot, index (10 R442). -/
def Dev.memberDetail (s : Dev) (v m : Nat) : List Byte := le 1 v ++ le 1 (s.mem v m).slot ++ le 1 m

/-- A drive's own state changes outside a volume, event 360h with the new state as CODE (10 R398). -/
def Dev.driveState (s : Dev) (k : Nat) (st : MState) : Dev :=
  let x := s.drive k
  let s := s.setDrive k { x with st := st, volume := 0, index := 0 }
  s.event (pierDie (slotLanes k)) 0x360 (le 1 k) st.code

/-- Change a record of a pier's ring. -/
def Dev.setRec (s : Dev) (p : Nat) (r : IRec) : Dev :=
  let x := s.pier p
  s.setPier p { x with recs := x.recs.map (fun y => if y.seq = r.seq then r else y) }

/-- A record of a pier's ring. -/
def Dev.record (s : Dev) (p seq : Nat) : Option IRec := (s.pier p).recs.find? (fun r => r.seq == seq)

/-- A row of a record. -/
def IRec.rowAt (r : IRec) (ng : Bool) (k o : Nat) : Option Row :=
  r.rows.find? (fun y => y.newGeo == ng && y.stripe == k && y.row == o)

/-- Replace a row of a record. -/
def IRec.setRow (r : IRec) (y : Row) : IRec :=
  { r with rows := r.rows.map (fun z => if z.newGeo == y.newGeo && z.stripe == y.stripe && z.row == y.row then y else z) }

/-- Write a strip of a record's row to its member, if the member serves it. -/
def Dev.recordWrite (s : Dev) (p : Nat) (r : IRec) (y : Row) (x : Nat) (stored : Block) : Dev :=
  let ref : RowRef := ⟨y.newGeo, y.stripe, y.row⟩
  let l := s.blockLoc r.volume ref x
  s.memberCmd { write := true, slot := (s.mem r.volume l.1).slot, volume := r.volume, member := l.1, unit := l.2,
                stored := stored, use := .record p r.seq y.newGeo y.stripe y.row x }

/-- ROWSTATE values (09 Row states). -/
def rowNone : Nat := 0
def rowPPend : Nat := 1
def rowPDone : Nat := 2
def rowQPend : Nat := 3
def rowQDone : Nat := 4
def rowApplied : Nat := 5

/-- The next state of a row once writes it waits for are done (09 R364): in a DELTA row P, then Q, then APPLIED when every data
block is acknowledged too. A parity whose member does not serve is passed over. -/
def Dev.rowAdvance (s : Dev) (p : Nat) (r : IRec) (y : Row) : Nat → Dev × Row
  | 0 => (s, y)
  | n + 1 =>
    let ref : RowRef := ⟨y.newGeo, y.stripe, y.row⟩
    let d := (s.geom r.volume y.newGeo).d
    let serves := fun x => s.memberServes r.volume (s.blockLoc r.volume ref x).1 y.newGeo y.stripe
    if y.state = rowPPend ∧ !y.waits.contains d then s.rowAdvance p r { y with state := rowPDone } n
    else if y.state = rowPDone then
      if serves (d + 1) then
        let y := { y with state := rowQPend, waits := y.waits ++ [d + 1] }
        (s.recordWrite p r y (d + 1) (s.sealBlock r.volume ref (d + 1) y.q), y)
      else s.rowAdvance p r { y with state := rowQDone } n
    else if y.state = rowQPend ∧ !y.waits.contains (d + 1) then s.rowAdvance p r { y with state := rowQDone } n
    else if (y.state = rowQDone ∨ y.state = rowNone) ∧ y.waits.isEmpty ∧ r.applying then (s, { y with state := rowApplied })
    else (s, y)

/-- A write of a record's row is done, or counts as done for a member that left (09 R364, R365). -/
def Dev.rowWritten (s : Dev) (p seq : Nat) (ng : Bool) (k o x : Nat) : Dev :=
  match s.record p seq with
  | none => s
  | some r =>
    match r.rowAt ng k o with
    | none => s
    | some y =>
      let y := { y with waits := y.waits.filter (fun w => w != x) }
      let a := s.rowAdvance p r y 4
      a.1.setRec p (r.setRow a.2)

/-- A secondary copy of a record was not made: both are to be written again (09 R374). -/
def Dev.copyAgain (s : Dev) (p seq : Nat) : Dev :=
  match s.record p seq with
  | some r => if r.copied then s else s.setRec p { r with copySent := false, copies := 0 }
  | none => s

/-- A secondary copy of a record is durable on one host; COPIED once both are (09 R374, R376). -/
def Dev.copyDone (s : Dev) (p seq : Nat) : Dev :=
  match s.record p seq with
  | some r => s.setRec p { r with copies := r.copies + 1, copied := r.copied || decide (2 ≤ r.copies + 1) }
  | none => s

/-- A reserved-area write is durable (11 R453): a stamp sets its member's GEN (10 R403) and the drive's stamp. -/
def Dev.useDurable (s : Dev) (k : Nat) (u : MUse) : Dev :=
  match u with
  | .stamp v m gen =>
    let x := s.vol v
    let e := x.members.get {} m
    if e.slot = k ∧ (x.members.find m).isSome then
      let ms := x.members.insert m { e with gen := gen }
      let dr := s.drive k
      (s.setVol v { x with members := ms }).setDrive k
        { dr with stamp := some ⟨x.uuid, v, m, e.st == .rebuilding, gen⟩ }
    else s
  | .secondary p seq => s.copyDone p seq
  | _ => s

/-- A member command's use when the member is unavailable (11 R458): a record counts its write as done, a host read's block is
not to be had, a secondary copy is to be made again. -/
def Dev.useLost (s : Dev) (u : MUse) : Dev :=
  match u with
  | .record p seq ng st row x => s.rowWritten p seq ng st row x
  | .read cmd ng st row x =>
    { s with nvme := { s.nvme with cmds := s.nvme.cmds.map (fun y =>
        if y.id = cmd then { y with reading := y.reading - 1, bad := y.bad ++ [⟨ng, st, row, x⟩] } else y) } }
  | .secondary p seq => s.copyAgain p seq
  | _ => s

/-- The commands outstanding on a slot, and those that wait for its Flush, end as member unavailable (11 R458). -/
def Dev.dropMemberCmds (s : Dev) (k : Nat) : Dev :=
  let gone := (s.store.mcmds.filter (fun c => c.slot == k)).map (·.use)
  let held := (s.store.flushing.filter (fun e => e.1 == k)).map (fun e => e.2.2)
  let s := { s with store := { s.store with mcmds := s.store.mcmds.filter (fun c => c.slot != k)
                                            flushing := s.store.flushing.filter (fun e => e.1 != k) } }
  (gone ++ held).foldl (fun s u => s.useLost u) s

/-- Jobs of a pier that hold one of its eight places (10 R422). -/
def Dev.jobCount (s : Dev) (p : Nat) : Nat :=
  ((s.store.vols.filter (fun e => e.2.owner == p)).map (fun e =>
    (match e.2.pass with
      | some x => if x.waiting then 0 else 1
      | none => 0) +
    (match e.2.reshape with
      | some x => if x.waiting then 0 else 1
      | none => 0) +
    (if e.2.scrub.running && !e.2.scrub.waiting then 1 else 0))).sum

/-- The first of some volumes by redundancy, then number (10 R422). -/
def Dev.neediest (s : Dev) (vs : List Nat) : Option Nat :=
  vs.foldl (fun best v => match best with
    | some b => if (s.vol v).level < (s.vol b).level then some v else some b
    | none => some v) none

/-- A place that is free goes first to a pass, then to a reshape, then to a scrub (10 R422). -/
def Dev.fillPlace (s : Dev) (p : Nat) : Dev :=
  if 8 ≤ s.jobCount p then s
  else
    let vs := (s.store.vols.filter (fun e => e.2.owner == p)).map Prod.fst
    let passes := vs.filter (fun v => ((s.vol v).pass.map (·.waiting)).getD false)
    let reshapes := vs.filter (fun v => ((s.vol v).reshape.map (·.waiting)).getD false)
    let scrubs := vs.filter (fun v => (s.vol v).scrub.running && (s.vol v).scrub.waiting)
    match s.neediest passes, s.neediest reshapes, s.neediest scrubs with
    | some v, _, _ =>
      let x := s.vol v
      let job := x.pass.map (fun y => { y with waiting := false })
      s.setVol v { x with pass := job }
    | none, some v, _ =>
      let x := s.vol v
      let job := x.reshape.map (fun y => { y with waiting := false })
      s.setVol v { x with reshape := job }
    | none, none, some v =>
      let x := s.vol v
      let job := { x.scrub with waiting := false }
      s.setVol v { x with scrub := job }
    | none, none, none => s

/-- Give out the free places of a pier. -/
def Dev.fillPlaces (s : Dev) (p : Nat) : Dev := (List.range 8).foldl (fun s _ => s.fillPlace p) s

/-- Secondary hosts of every volume that has unretired records. -/
def Dev.allSecondary (s : Dev) : List (Nat × List Nat) :=
  ((s.store.vols.filter (fun e => decide (e.2.st ≠ .none))).map Prod.fst).map (fun v => (v, s.secondaryHosts v))

/-- A secondary host of a volume has been replaced (09 R377): its unretired records are copied again, event 355h. -/
def Dev.secondaryMoved (s : Dev) (before : List (Nat × List Nat)) : Dev :=
  before.foldl (fun s e =>
    let now := s.secondaryHosts e.1
    match e.2.find? (fun k => !now.contains k), now.find? (fun k => !e.2.contains k) with
    | some old, some new =>
      let s := (List.range 2).foldl (fun s p =>
        let x := s.pier p
        s.setPier p { x with recs := x.recs.map (fun r =>
          if r.volume == e.1 && !r.retired && r.kind != 0 && (r.copySent || r.copied) then { r with copySent := false, copies := 0, copied := false } else r) }) s
      s.event (pierDie (s.volPier e.1)) 0x355 (le 1 e.1 ++ le 1 old ++ le 1 new)
    | _, _ => s) s

/-- A member leaves online or rebuilding for `st` (10 R398, R399, R402, R403, R419, R435): its commands end as unavailable, the
write-hole regions are marked absent, maps go whole to the hosts, a target is dropped, the volume's state follows and GEN
advances. -/
def Dev.memberLeaves (s : Dev) (v m : Nat) (st : MState) : Dev :=
  let e := s.mem v m
  let die := pierDie (s.volPier v)
  let wasOnline := e.st == .online
  let oldHosts := s.mapHosts v
  let seconds := s.allSecondary
  let s := s.setMember v m st
  let s := if st = .missing then s.event die 0x361 (s.memberDetail v m)
    else s.eventOpenCause die 0x362 (s.memberDetail v m)
  let s := s.dropMemberCmds e.slot
  let x := s.vol v
  let absent := sortNat (x.absent ++ x.hole.filter (fun g => !x.absent.contains g))
  let added := absent.length - x.absent.length
  let dropped := match x.pass with
    | some p => p.targets.any (fun t => t.index == m)
    | none => false
  let pass := x.pass.bind (fun p =>
    let ts := p.targets.filter (fun t => t.index != m)
    if ts.isEmpty then none else some { p with targets := ts })
  let s := (s.setVol v { x with absent := if wasOnline then absent else x.absent, pass := pass }).count .LDG_MAP_SETS
    (s.volPier v) (if wasOnline then added else 0)
  let s := (s.eventIf dropped die 0x366 (s.memberDetail v m)).fillPlaces (s.volPier v)
  let s := s.eventIf (wasOnline && x.reshape.isSome) die 0x369 (le 1 v)
  let newHosts := s.mapHosts v
  let s := match newHosts.find? (fun k => !oldHosts.contains k) with
    | some k => if oldHosts.contains e.slot then s.event die 0x355 (le 1 v ++ le 1 e.slot ++ le 1 k) else s
    | none => s
  let s := if wasOnline then (s.reservedWrite v 4096 newHosts).reservedWrite v 4352 newHosts else s
  let s := (s.secondaryMoved seconds).settleVol v
  if wasOnline then s.genAdvance v else s

/-- Make a member failed (08 R336; 10 R398), event 362h with its cause. -/
def Dev.memberFail (s : Dev) (v m : Nat) : Dev := s.memberLeaves v m .failed

/-- The volume and index served by the drive of a slot, while it is a member. -/
def Dev.memberOf (s : Dev) (k : Nat) : Option (Nat × Nat) :=
  let x := s.drive k
  if x.st = .online ∨ x.st = .rebuilding ∨ x.st = .missing ∨ x.st = .failed then
    if (s.mem x.volume x.index).slot = k ∧ ((s.vol x.volume).members.find x.index).isSome then some (x.volume, x.index) else none
  else none

/-- A drive's port can carry member commands. -/
def Dev.slotUsable (s : Dev) (k : Nat) : Bool := (s.drive k).st == .online || (s.drive k).st == .rebuilding

/-- A Flush is due on a member with a volatile write cache (09 R365): issued at once when none is in flight. The number of the
Flush that covers a write acknowledged now. -/
def Dev.flushFor (s : Dev) (v k : Nat) : Nat × Dev :=
  let x := s.drive k
  let no := x.flushIssued + 1
  if x.flushIssued = x.flushDone then
    (no, (s.setDrive k { x with flushIssued := no }).memberCmd { write := true, slot := k, volume := v, use := .flush })
  else (no, s)

/-- A root port's state. -/
def Dev.port (s : Dev) (n : Nat) : RootPort := s.shelf.ports.get {} n

/-- Change a root port. -/
def Dev.setPort (s : Dev) (n : Nat) (x : RootPort) : Dev :=
  { s with shelf := { s.shelf with ports := s.shelf.ports.put {} n x } }

/-- Two-lane wiring (11 R443). -/
def Dev.x2 (s : Dev) : Bool := s.pkg.wiring

/-- The slot of a root port (00 R3). -/
def Dev.portSlot (s : Dev) (n : Nat) : Nat := if s.x2 then n / 2 else n

/-- A root port is used (11 R446). -/
def Dev.portUsed (s : Dev) (n : Nat) : Bool :=
  if s.x2 then
    match s.fld .DRV_CFG_DUAL with
    | 1 => n % 2 == 0
    | 2 => n % 2 == 1
    | _ => decide (n < 48)
  else decide (n < 24)

/-- The root ports used for a slot. -/
def Dev.slotPorts (s : Dev) (k : Nat) : List Nat :=
  (if s.x2 then [2 * k, 2 * k + 1] else [k]).filter (fun n => s.portUsed n)

/-- The member in a slot keeps a volatile write cache (11 R460). -/
def Dev.slotVwc (s : Dev) (k : Nat) : Bool := (s.slotPorts k).any (fun n => (s.port n).vwc)

end Sys2Proof.Machine
end

