-- ==== Sys2Proof/Machine/Gather.lean ====
section
/-!
DEFINITION. Gathering the blocks a host command needs (08 R329, R335-R338), protection information (04 R188-R191), closing a row
(08 R338), and the ring of intent records (09 R356-R359, R375).
-/
namespace Sys2Proof.Machine

/-- A command in progress. -/
def Dev.cmd (s : Dev) (id : Nat) : Option Cmd := s.nvme.cmds.find? (fun c => c.id == id)

/-- Replace a command. -/
def Dev.setCmd (s : Dev) (c : Cmd) : Dev :=
  { s with nvme := { s.nvme with cmds := s.nvme.cmds.map (fun y => if y.id = c.id then c else y) } }

/-- A command that writes (04 R175). -/
def CmdOp.writes : CmdOp → Bool
  | .write => true | .zeroes => true | .deallocate => true | _ => false

/-- A command that reads blocks (04 R175). -/
def CmdOp.reads : CmdOp → Bool
  | .read => true | .compare => true | _ => false

/-- Volume units an LBA range [lba, lba + n) of a namespace touches (08 R316). -/
def Dev.rangeUnits (s : Dev) (ns lba n : Nat) : List Nat :=
  let per := lbaPerUnit (s.nsLbaf ns)
  let a := lba / per
  (List.range (if n = 0 then 0 else (lba + n - 1) / per + 1 - a)).map (fun k => s.nsBase ns + a + k)

/-- Volume units a command touches, once each. -/
def Dev.cmdUnits (s : Dev) (c : Cmd) : List Nat := (c.ranges.flatMap (fun r => s.rangeUnits (c.nsid - 1) r.1 r.2)).eraseDups

/-- An LBA is in a command's ranges. -/
def Cmd.covers (c : Cmd) (lba : Nat) : Bool := c.ranges.any (fun r => decide (r.1 ≤ lba) && decide (lba < r.1 + r.2))

/-- First LBA of a unit of a namespace. -/
def Dev.unitLba (s : Dev) (ns a : Nat) : Nat := (a - s.nsBase ns) * lbaPerUnit (s.nsLbaf ns)

/-- A command covers a unit wholly. -/
def Dev.coversUnit (s : Dev) (c : Cmd) (a : Nat) : Bool :=
  (List.range (lbaPerUnit (s.nsLbaf (c.nsid - 1)))).all (fun i => c.covers (s.unitLba (c.nsid - 1) a + i))

/-- The rows a command touches, each with its strips. -/
def Dev.cmdRows (s : Dev) (c : Cmd) : List (RowRef × List Nat) :=
  let places := (s.cmdUnits c).map (s.rowOf c.vol)
  (places.map Prod.fst).eraseDups.map (fun r => (r, (places.filter (fun p => p.1 == r)).map Prod.snd))

/-- The whole stripes of a write (01 R40), for the full-stripe route (08 R326). -/
def Dev.fullStripes (s : Dev) (c : Cmd) : List (Bool × Nat) :=
  let units := s.cmdUnits c
  let rows := (s.cmdRows c).map Prod.fst
  ((rows.map (fun r => (r.newGeo, r.stripe))).eraseDups).filter (fun e =>
    let g := s.geom c.vol e.1
    (List.range g.stripeUnits).all (fun i =>
      units.contains (e.2 * g.stripeUnits + i) && s.coversUnit c (e.2 * g.stripeUnits + i)))

/-- Strips of a row to fetch for a write by read-modify-write: old data of the changed strips, P and Q (08 Partial writes). -/
def Dev.rmwPlan (s : Dev) (c : Cmd) (r : RowRef) (changed : List Nat) : Option (List Nat) :=
  let d := (s.geom c.vol r.newGeo).d
  let lost := s.lostStrips c.vol c.hand c.bad r
  if lost.contains d ∨ lost.contains (d + 1) then none
  else s.fetchPlan c.vol c.hand c.bad r (changed ++ [d, d + 1])

/-- Strips of a row to fetch for a write by reconstruct-write: unchanged data, and changed units covered in part (08 Partial
writes). -/
def Dev.rcwPlan (s : Dev) (c : Cmd) (r : RowRef) (changed : List Nat) : Option (List Nat) :=
  let d := (s.geom c.vol r.newGeo).d
  let part := changed.filter (fun j => !s.coversUnit c (s.rowUnit c.vol r j))
  s.fetchPlan c.vol c.hand c.bad r ((List.range d).filter (fun j => !changed.contains j) ++ part)

/-- The method of a partial row (08 R329): read-modify-write when it needs no more reads. -/
def Dev.rowRmw (s : Dev) (c : Cmd) (r : RowRef) (changed : List Nat) : Bool :=
  match s.rmwPlan c r changed, s.rcwPlan c r changed with
  | some a, some b => decide (a.length ≤ b.length)
  | some _, none => true
  | none, _ => false

/-- The fetches a command still needs in a row; none when the row must be closed. -/
def Dev.rowPlan (s : Dev) (c : Cmd) (full : List (Bool × Nat)) (r : RowRef) (strips : List Nat) : Option (List Nat) :=
  if c.op.writes then
    if full.contains (r.newGeo, r.stripe) then some []
    else if s.rowRmw c r strips then s.rmwPlan c r strips else s.rcwPlan c r strips
  else s.fetchPlan c.vol c.hand c.bad r strips

/-- Entries of a bad-block list given as rising units (08 R343): runs of at most 4,095 member blocks. -/
def bbEntries (gran : Nat) (units : List Nat) : List (Nat × Nat) :=
  let runs := units.foldl (fun (acc : List (Nat × Nat)) a =>
    match acc with
    | (b, n) :: rest => if b + n = a then (b, n + 1) :: rest else (a, 1) :: acc
    | [] => [(a, 1)]) []
  runs.reverse.flatMap (fun e =>
    let n := e.2 * gran
    (List.range (ceilDiv n 4095)).map (fun i => (e.1 * gran + 4095 * i, min 4095 (n - 4095 * i))))

/-- Round up to a multiple. -/
def roundUp (n m : Nat) : Nat := ceilDiv n m * m

/-- Bytes of a record's rows (09 R356): header, entries, payloads. -/
def recordLength (gran : Nat) (rows : List Row) : Nat :=
  64 + roundUp (16 * rows.length * gran) 64 +
  (rows.map (fun r =>
    let n := if r.zero then 0 else r.news.length
    let n := match r.kind with
      | .full => n
      | _ => n + 2
    gran * roundUp (n * (4160 / gran)) 64)).sum

/-- Segments of the smaller copy of a pier's ring (09 R389, R390). -/
def Dev.ringSegs (s : Dev) (p : Nat) : Nat :=
  let gone := fun (c : Nat) => (s.ldg.wear.withdrawn.filter (fun g =>
    decide (c * 8192 + p * 2048 ≤ g) && decide (g < c * 8192 + p * 2048 + 2048))).length
  2048 - max (gone 0) (gone 1)

/-- Bytes of a pier's ring. -/
def Dev.ringBytes (s : Dev) (p : Nat) : Nat := s.ringSegs p * 65536

/-- Bytes of a ring in use: from the oldest unretired record to the next position. -/
def Dev.ringUsed (s : Dev) (p : Nat) : Nat :=
  let x := s.pier p
  match x.recs with
  | [] => 0
  | r :: _ =>
    let n := s.ringBytes p
    let d := (x.pos + n - r.off % n) % n
    if d = 0 then n else d

/-- Pad a record of `len` bytes needs before it (09 R358). -/
def Dev.ringPad (s : Dev) (p len : Nat) : Nat :=
  let n := s.ringBytes p
  let x := s.pier p
  if n < x.pos + len then n - x.pos else 0

/-- The ring has room for a record (09 R359). -/
def Dev.ringRoom (s : Dev) (p len : Nat) : Bool :=
  decide (s.ringUsed p + s.ringPad p len + len ≤ s.ringBytes p)

/-- Bytes of a secondary entry (09 R375). -/
def secondaryBytes (len : Nat) : Nat := roundUp (len + 64) 4096

/-- The secondary ring of a volume has room for a record (09 R375): 48 MiB. -/
def Dev.secondaryRoom (s : Dev) (p v len : Nat) : Bool :=
  let used := (((s.pier p).recs.filter (fun r => r.volume == v && r.kind != 0 && !r.retired)).map (fun r => secondaryBytes r.length)).sum
  decide (used + secondaryBytes len ≤ 48 * 2 ^ 20)

/-- A pair of MRAM dies works for the mirrored partitions (09 R355). -/
def Dev.pairOk (s : Dev) (k : Nat) : Bool := s.ldg.dieOk.contains (2 * k) && s.ldg.dieOk.contains (2 * k + 1)

/-- Wear of the logical segments a ledger write of `len` bytes at an address touches (09 R385). -/
def Dev.ledgerWear (s : Dev) (addr len : Nat) : Dev :=
  let first := addr / 65536
  let n := if len = 0 then 0 else (addr + len - 1) / 65536 + 1 - first
  let w := (List.range n).foldl (fun (t : Table Nat) k =>
    let g := first + k
    let lo := max addr (g * 65536)
    let hi := min (addr + len) ((g + 1) * 65536)
    t.put 0 g (t.get 0 g + (hi - lo))) s.ldg.wear.bytes
  { s with ldg := { s.ldg with wear := { s.ldg.wear with bytes := w } } }

/-- Ledger address of a ring in a copy (09 R352). -/
def ringBase (p copy : Nat) : Nat := copy * 0x20000000 + p * 0x8000000

/-- Append a record to a pier's ring (09 R358, R361): a pad where it would cross the end; OPEN, in both copies. The device stops
being clean (R383). -/
def Dev.appendRec (s : Dev) (p : Nat) (r : IRec) : Dev :=
  let pad := s.ringPad p r.length
  let x := s.pier p
  let n := s.ringBytes p
  let pads : List IRec := if pad = 0 then [] else
    [{ seq := x.seq, off := x.pos, length := pad, kind := 0, committed := true, retired := true }]
  let off := if pad = 0 then x.pos else 0
  let seq := if pad = 0 then x.seq else x.seq + 1
  let r := { r with seq := seq, off := off, time := s.nowOn (pierDie p), single := !(s.pairOk 0 && s.pairOk 1) }
  let s := s.setPier p { x with recs := x.recs ++ pads ++ [r], seq := seq + 1, pos := (off + r.length) % n }
  let s := { s with ldg := { s.ldg with orderly := false } }
  ((s.ledgerWear (ringBase p 0 + off) r.length).ledgerWear (ringBase p 1 + off) r.length).count .LDG_REC_OPENED p

/-- The oldest records of a ring that are retired leave it. -/
def dropRetired : List IRec → List IRec
  | [] => []
  | r :: rs => if r.retired then dropRetired rs else r :: rs

/-- A record is retired (09 R365, R367): RETIRED in both copies; images staged for members that do not serve go with it. -/
def Dev.retire (s : Dev) (p seq : Nat) (abandoned : Bool) : Dev :=
  let x := s.pier p
  let rs := x.recs.map (fun r => if r.seq = seq then { r with retired := true, abandoned := abandoned } else r)
  let st := x.staged.filter (fun e => e.2.seq != seq)
  let s := s.setPier p { x with recs := dropRetired rs, staged := st }
  s.count (if abandoned then .LDG_REC_ABANDONED else .LDG_REC_RETIRED) p

/-- Put images of a record's rows into staging (08 R330, R333), and into the hands of commands that hold older copies. -/
def Dev.stageRows (s : Dev) (p : Nat) (r : IRec) : Dev :=
  r.rows.foldl (fun s y =>
    let ref : RowRef := ⟨y.newGeo, y.stripe, y.row⟩
    let d := (s.geom r.volume y.newGeo).d
    let blocks := y.news ++ [(d, y.p, s.rowParity r.volume y d y.p), (d + 1, y.q, s.rowParity r.volume y (d + 1) y.q)]
    blocks.foldl (fun s b =>
      let l := s.blockLoc r.volume ref b.1
      let x := s.pier p
      let st := x.staged.insert (locKey r.volume l.1 l.2) ⟨b.2.1, b.2.2, r.seq⟩
      let s := s.setPier p { x with staged := st }
      let fix := fun (h : InHand) =>
        if h.newGeo == y.newGeo && h.stripe == y.stripe && h.row == y.row && h.strip == b.1 then
          { h with plain := b.2.1, stored := b.2.2 } else h
      { s with nvme := { s.nvme with cmds := s.nvme.cmds.map (fun c =>
          if c.vol = r.volume then { c with hand := c.hand.map fix } else c) } }) s) s

/-- An image leaves staging once its member acknowledged it (08 R333), or its member left. -/
def Dev.unstage (s : Dev) (p v m unit seq : Nat) : Dev :=
  let x := s.pier p
  let k := locKey v m unit
  match x.staged.find k with
  | some i =>
    if i.seq = seq then
      let st := x.staged.erase k
      s.setPier p { x with staged := st }
    else s
  | none => s

/-- Window key of the media errors of a member (08 34Ah). -/
def markMedia (v m : Nat) : Nat := 100000 + v * 24 + m

/-- Add lost blocks to a volume's bad-block list (08 R338, R343): its copies on the members are written; a full list fails the
volume, event 348h. -/
def Dev.listBlocks (s : Dev) (v : Nat) (units : List Nat) : Dev :=
  let x := s.vol v
  let fresh := units.filter (fun a => !x.bad.contains a)
  let bad := sortNat (x.bad ++ fresh)
  let full := decide (65536 < (bbEntries (s.gran v) bad).length)
  let p := s.volPier v
  let s := (s.setVol v { x with bad := if full then x.bad else bad, full := x.full || full }).count .PAR_BB_ADDED p
    (if full then 0 else fresh.length * s.gran v)
  let s := s.reservedWrite v 8192 ((s.membersIn v [.online, .rebuilding]).map Prod.snd)
  if full then (s.event (pierDie p) 0x348 (le 1 v)).settleVol v else s

/-- Close a row (08 R338, R357): lost data blocks are listed and become zero-stored, P and Q are recomputed, and a row-close
record is committed for the row's available members; event 346h. -/
def Dev.closeRow (s : Dev) (v : Nat) (hand : List InHand) (r : RowRef) : Dev :=
  let d := (s.geom v r.newGeo).d
  let p := s.volPier v
  let lost := (List.range d).filter (fun j => (s.inHand v hand r j).isNone)
  let ds := (List.range d).map (fun j =>
    match s.inHand v hand r j with
    | some b => b.1
    | none => zeroUnit)
  let row : Row := { stripe := r.stripe, row := r.row, newGeo := r.newGeo, kind := .image, zero := true
                     news := lost.map (fun j => (j, zeroUnit, zeroUnit)), p := parityP ds, q := parityQ ds }
  let rec' : IRec := { kind := 3, volume := v, length := recordLength (s.gran v) [row], committed := true
                       first := s.rowUnit v r 0, units := d, rows := [row] }
  let s := s.appendRec p rec'
  let s := match (s.pier p).recs.getLast? with
    | some x => (s.stageRows p x).count .LDG_REC_COMMITTED p
    | none => s
  let s := s.listBlocks v (lost.map (s.rowUnit v r))
  let first := (lost.map (s.rowUnit v r)).head?.getD (s.rowUnit v r 0)
  s.event (pierDie p) 0x346 (le 1 v ++ le 8 (first * s.gran v) ++ leCount (lost.length * s.gran v))

/-- Fetches still needed before a row can be closed: every data block that can be had. -/
def Dev.closePlan (s : Dev) (v : Nat) (hand : List InHand) (bad : List BadBlock) (r : RowRef) : List Nat :=
  (List.range (s.geom v r.newGeo).d).filter (fun j => (s.inHand v hand r j).isNone && s.fetchable v bad r j)

/-- Write recovered blocks back to the members that failed to give them (08 R335). -/
def Dev.repairBad (s : Dev) (c : Cmd) : Dev :=
  c.bad.eraseDups.foldl (fun s b =>
    let r : RowRef := ⟨b.newGeo, b.stripe, b.row⟩
    let l := s.blockLoc c.vol r b.strip
    match s.stripStored c.vol c.hand r b.strip with
    | some st =>
      if s.memberServes c.vol l.1 b.newGeo b.stripe && (s.inHand c.vol c.hand r b.strip).isNone then
        ((s.countXts (s.dataUnits c.vol r b.strip st)).count .PAR_REPAIR_WRITES (s.volPier c.vol)).memberCmd
          { write := true, slot := (s.mem c.vol l.1).slot, volume := c.vol, member := l.1, unit := l.2, stored := st, use := .repair }
      else s
    | none => s) s

/-- One turn of gathering for a command with no read outstanding: rows that have lost too much are closed once all that can be
had of them is in hand; what is still needed is read; when nothing is, the command is gathered and bad blocks are
repaired (08 R329, R335-R338). -/
def Dev.gatherTurn (s : Dev) (c : Cmd) : Dev :=
  let rows := s.cmdRows c
  let full := if c.op.writes then s.fullStripes c else []
  let plans := rows.map (fun e => (e.1, s.rowPlan c full e.1 e.2))
  let broken := plans.filter (fun e => e.2.isNone)
  let closable := broken.filter (fun e => (s.closePlan c.vol c.hand c.bad e.1).isEmpty)
  let fetch := plans.flatMap (fun e =>
    match e.2 with
    | some l => l.map (fun x => (e.1, x))
    | none => (s.closePlan c.vol c.hand c.bad e.1).map (fun x => (e.1, x)))
  let s := closable.foldl (fun s e => s.closeRow c.vol c.hand e.1) s
  let c := (s.cmd c.id).getD c
  if fetch.isEmpty then
    if closable.isEmpty then
      let recon := (rows.filter (fun e => c.op.reads && e.2.any (fun x => (s.inHand c.vol c.hand e.1 x).isNone))).length
      let s := s.repairBad c
      (s.setCmd { c with gathered := true }).count .PAR_RECON_ROWS (s.volPier c.vol) (recon * s.gran c.vol)
    else s
  else
    let s := s.setCmd { c with reading := fetch.length }
    fetch.foldl (fun s e =>
      let l := s.blockLoc c.vol e.1 e.2
      s.memberCmd { slot := (s.mem c.vol l.1).slot, volume := c.vol, member := l.1, unit := l.2,
                    use := .read c.id e.1.newGeo e.1.stripe e.1.row e.2 }) s

/-- Turns of gathering until reads are outstanding or the command is gathered; a turn that only closes rows is followed by
another. -/
def Dev.gatherN (s : Dev) (id : Nat) : Nat → Dev
  | 0 => s
  | n + 1 =>
    match s.cmd id with
    | some c => if c.gathered || 0 < c.reading || c.finished then s else (s.gatherTurn c).gatherN id n
    | none => s

/-- Gather for a dispatched command whose owner pier runs. -/
def Dev.gather (s : Dev) (id : Nat) : Dev :=
  match s.cmd id with
  | some c =>
    if c.dispatched && !c.held && (c.op.reads || c.op.writes) && c.status.isNone && s.pierUp (s.volPier c.vol) then s.gatherN id 4
    else s
  | none => s

/-- Gather again for every command left without a read outstanding (a member left, or reads failed). -/
def Dev.regather (s : Dev) : Dev := (s.nvme.cmds.map (·.id)).foldl (fun s id => s.gather id) s

/-- Guard bytes, application tag and reference tag of the protection information of a format (04 R188). -/
structure PiFields where
  guard : Nat
  app : Nat
  ref : Nat
  deriving DecidableEq, Repr

/-- Bits of a format's reference tag. -/
def refBits (f : Nat) : Nat := if f = 4 then 48 else 32

/-- The guard of a block's data (04 LBA formats). -/
def guardOf (f : Nat) (data : Block) : Nat := if f = 4 then guard64 data else guard16 data

/-- Read the protection information of a block's metadata. -/
def piOf (f : Nat) (meta' : Block) : PiFields :=
  if f = 4 then ⟨beNat (slice meta' 0 8), beNat (slice meta' 8 2), beNat (slice meta' 10 6)⟩
  else ⟨beNat (slice meta' 0 2), beNat (slice meta' 2 2), beNat (slice meta' 4 4)⟩

/-- The bytes of protection information. -/
def piBytes (f : Nat) (x : PiFields) : Block :=
  if f = 4 then be 8 x.guard ++ be 2 x.app ++ be 6 x.ref else be 2 x.guard ++ be 2 x.app ++ be 4 x.ref

/-- The protection information of a zero-stored block (08 R322; assumption 14). -/
def zeroPi (f : Nat) : Block := piBytes f ⟨guardOf f (List.replicate (lbaData f) 0), 0xFFFF, 2 ^ refBits f - 1⟩

/-- The first field that fails its check, in the order guard, application tag, reference tag (04 R189, R191); `off` is the
block's offset in the command. -/
def piFails (f pit : Nat) (c : Cmd) (off : Nat) (data meta' : Block) : Option Nat :=
  let x := piOf f meta'
  let want := (c.ilbrt + off) % 2 ^ refBits f
  let off? := if pit = 3 then x.app = 0xFFFF ∧ x.ref = 2 ^ refBits f - 1 else x.app = 0xFFFF
  if off? then none
  else if c.prchk / 4 % 2 = 1 ∧ x.guard ≠ guardOf f data then some 0
  else if c.prchk / 2 % 2 = 1 ∧ x.app &&& c.lbatm ≠ c.lbat &&& c.lbatm then some 1
  else if c.prchk % 2 = 1 ∧ pit ≠ 3 ∧ x.ref ≠ want then some 2
  else none

/-- PRACT counts (04 R190): the namespace carries protection information. -/
def Dev.practOf (s : Dev) (c : Cmd) : Bool := c.pract && s.nsPit (c.nsid - 1) != 0 && lbaMeta (s.nsLbaf (c.nsid - 1)) != 0

/-- Bytes of a block as it crosses to the host (04 R152, R190). -/
def Dev.hostBlock (s : Dev) (c : Cmd) : Nat :=
  let f := s.nsLbaf (c.nsid - 1)
  lbaData f + (if s.practOf c then 0 else lbaMeta f)

/-- Block `i` of a command's host data, as stored in plaintext: with its metadata, generated under PRACT (04 R190). -/
def Dev.hostPart (s : Dev) (c : Cmd) (i : Nat) : Block :=
  let f := s.nsLbaf (c.nsid - 1)
  let b := slice c.data (i * s.hostBlock c) (s.hostBlock c)
  if s.practOf c then
    b ++ piBytes f ⟨guardOf f b, c.lbat, (c.ilbrt + i) % 2 ^ refBits f⟩
  else b

/-- A stored block of an LBA as read (08 R322): data and metadata, and the plaintext of a zero-stored block with its protection
information. -/
def Dev.lbaPlain (s : Dev) (c : Cmd) (lba : Nat) : Option Block :=
  let n := c.nsid - 1
  let f := s.nsLbaf n
  let a := s.nsBase n + lba / lbaPerUnit f
  let ro := s.rowOf c.vol a
  let i := lba % lbaPerUnit f
  match s.stripPlain c.vol c.hand ro.1 ro.2, s.stripStored c.vol c.hand ro.1 ro.2 with
  | some p, some st =>
    if allZero (unitPart f i st) && s.nsPit n != 0 then some (List.replicate (lbaData f) 0 ++ zeroPi f)
    else some (unitPart f i p)
  | _, _ => none

/-- LBAs of a command in order. -/
def Cmd.lbas (c : Cmd) : List Nat := c.ranges.flatMap (fun r => (List.range r.2).map (· + r.1))

/-- A command's first failing protection check over blocks given by `get`: LBA and field. -/
def Dev.piCheck (s : Dev) (c : Cmd) (get : Nat → Nat → Option Block) : Option (Nat × Nat) :=
  let n := c.nsid - 1
  let f := s.nsLbaf n
  if s.nsPit n = 0 then none
  else
    (c.lbas.zipIdx).findSome? (fun e =>
      match get e.1 e.2 with
      | some b => (piFails f (s.nsPit n) c e.2 (b.take (lbaData f)) (b.drop (lbaData f))).map (fun k => (e.1, k))
      | none => none)

/-- The new plaintext and stored bytes of a unit a write changes, from the old ones where it is covered in part (08 Partial
writes, R322). -/
def Dev.newUnit (s : Dev) (c : Cmd) (a : Nat) (oldPlain oldStored : Block) : Block × Block :=
  let n := c.nsid - 1
  let f := s.nsLbaf n
  let first := s.unitLba n a
  let key := s.jobKey keyMedia n
  (List.range (lbaPerUnit f)).foldl (fun b i =>
    let lba := first + i
    if c.covers lba then
      if c.op = .write then
        let x := s.hostPart c (lba - (c.ranges.head?.getD (0, 0)).1)
        (putPart f i b.1 x, putPart f i b.2 (Config.xts key ((n + 1) * 2 ^ 64 + lba) x))
      else
        let z := List.replicate (lbaData f + lbaMeta f) 0
        (putPart f i b.1 z, putPart f i b.2 z)
    else b) (oldPlain, oldStored)

end Sys2Proof.Machine
end

