-- ==== Sys2Proof/Machine/DmaOps.lean ====
section
/-!
DEFINITION. DMA channels (12): halting, aborting, transfers and triggers.
-/
namespace Sys2Proof.Machine

/-- A channel. -/
def Dev.chan (s : Dev) (n : Nat) : Chan := s.dma.chans.get {} n

/-- Change a channel. -/
def Dev.setChan (s : Dev) (n : Nat) (x : Chan) : Dev := { s with dma := { s.dma with chans := s.dma.chans.put {} n x } }

/-- The region a channel lies in (12 Channel placement). -/
def chanRegion (n : Nat) : Nat := if n < 48 then 4 else if n < 96 then 10 else 18

/-- The die a channel lies in. -/
def chanDie (n : Nat) : Die := regionDie (chanRegion n)

/-- The requesters that program a channel (12 Channel placement, R488). -/
def chanAllows (n : Nat) : Requester → Bool
  | .pf1 => decide (112 ≤ n)
  | .cp k => if n < 48 then decide (k.val < 16) else if n < 96 then decide (16 ≤ k.val ∧ k.val < 32)
    else if n < 112 then decide (32 ≤ k.val) else false

/-- The spaces a channel may use (12 Channel placement, R499). -/
def chanSpaces (n : Nat) : List Nat := if n < 96 then [0, 1, 2] else if n < 112 then [0, 1, 2, 3] else [3, 4]

/-- Read bytes of HBM. -/
def Dev.hbmRead (s : Dev) (addr len : Nat) : List Byte := (List.range len).map (fun i => s.dma.hbm.get 0 (addr + i))

/-- Write bytes of HBM. -/
def Dev.hbmWrite (s : Dev) (addr : Nat) (data : List Byte) : Dev :=
  { s with dma := { s.dma with hbm := (data.zipIdx).foldl (fun t e => t.put 0 (addr + e.2) e.1) s.dma.hbm } }

/-- The window register a peer-aperture offset meets (13 R524): the HBM stack and offset it reaches, if enabled. -/
def Dev.apTranslate (s : Dev) (off : Nat) (write : Bool) : Option Nat :=
  let w := off / 2 ^ 30
  if s.flag .EP_WIN_EN w && (if write then s.flag .EP_WIN_WRITE w else s.flag .EP_WIN_READ w) then
    some (s.fld .EP_WIN_STACK w * 2 ^ 40 + s.fld .EP_WIN_UNIT w * 2 ^ 30 + off % 2 ^ 30)
  else none

/-- The bytes of a range of the aperture, in pieces that cross no 1 GiB window boundary (12 R500). -/
def splitWindows : Nat → Nat → Nat → List (Nat × Nat)
  | 0, a, l => [(a, l)]
  | k + 1, a, l =>
    let h := 2 ^ 30 - a % 2 ^ 30
    if l ≤ h then [(a, l)] else (a, h) :: splitWindows k (a + h) (l - h)

/-- Where the aperture ranges of one side lie in HBM (12 R500): the first piece of each as translated when it started, each later
piece as its window reads now. -/
def Dev.apPieces (s : Dev) (write : Bool) : List (Nat × Nat) → List Nat → Option (List (Nat × Nat))
  | [], _ => some []
  | _ :: _, [] => none
  | (a, l) :: rs, t :: ts =>
    let later := ((splitWindows 5 a l).drop 1).mapM (fun p => (s.apTranslate p.1 write).map (fun q => (q, p.2)))
    match later, s.apPieces write rs ts with
    | some ps, some qs => some ((t, min l (2 ^ 30 - a % 2 ^ 30)) :: (ps ++ qs))
    | _, _ => none

/-- The places the ranges of one side reach: HBM addresses for HBM and the aperture, the ranges themselves otherwise. -/
def Dev.chanPieces (s : Dev) (write : Bool) (space : Nat) (ranges : List (Nat × Nat)) (at' : List Nat) : Option (List (Nat × Nat)) :=
  match space with
  | 1 => some (ranges.map (fun r => (2 ^ 40 + r.1, r.2)))
  | 4 => s.apPieces write ranges at'
  | _ => some ranges

/-- Bytes of a transfer's source, if the device holds them (12): HBM and the aperture; host memory and the ledger give theirs. -/
def Dev.chanGet (s : Dev) (space : Nat) (pieces : List (Nat × Nat)) (given : List Byte) : List Byte :=
  if space = 2 ∨ space = 3 then given else pieces.flatMap (fun r => s.hbmRead r.1 r.2)

/-- Write the bytes of a transfer to its destination (12 R498, R500; 13 R524): HBM, directly or through the aperture, the ledger,
or host memory. -/
def Dev.chanPut (s : Dev) (space : Nat) : List (Nat × Nat) → List Byte → Dev
  | [], _ => s
  | (addr, len) :: rs, data =>
    let part := data.take len
    let s := match space with
      | 2 => (s.ledgerWear addr part.length).emit (.ledgerWrite addr part)
      | 3 => s.emit (.hostWrite (BitVec.ofNat 64 addr) part)
      | _ => s.hbmWrite addr part
    s.chanPut space rs (data.drop len)

/-- Free bytes (assumption 1). -/
def Dev.drawBytes (s : Dev) (n : Nat) : List Byte × Dev :=
  ((List.range n).map (fun i => BitVec.ofNat 8 (Config.freeValue (s.fresh + i)).toNat), { s with fresh := s.fresh + n })

/-- The ranges of one side known so far. -/
def chanKnown (a : ChSet) (x : Chan) (dest : Bool) : List (Nat × Nat) :=
  if dest then (if a.dstSg then x.dstList else [(a.dst, a.len)]) else if a.srcSg then x.srcList else [(a.src, a.len)]

/-- A transfer is cut off between its start and its completion (12 R502, R503; assumption 70): the part of HBM its destination
ranges cover, as far as they are known, holds an unspecified mix of old and new data. -/
def Dev.chanMix (s : Dev) (n : Nat) : Dev :=
  let x := s.chan n
  match x.act with
  | some a =>
    if a.dstSpace = 2 ∨ a.dstSpace = 3 ∨ (x.st ≠ .running ∧ x.st ≠ .waiting) then s
    else match s.chanPieces true a.dstSpace (chanKnown a x true) x.dstAt with
      | some ps =>
        let r := s.drawBytes (ps.map Prod.snd).sum
        r.2.chanPut a.dstSpace ps r.1
      | none => s
  | none => s

/-- A PCIe function is there and answers (13 R516, R517, R539): PF0, PF1, or a VF that is ready; no FLR is in progress. -/
def Dev.epFnHere (s : Dev) (f : Nat) : Bool := !(s.epFn f).flr && (decide (f < 2) || (s.epFn f).ready)

/-- Causes of an abort (12 R502), in its order. -/
def abortIsolated : Nat := 0
def abortCluster : Nat := 1
def abortBus : Nat := 2

/-- A channel is aborted, its transfer and shadow discarded; event 3C2h (12 R502). -/
def Dev.chanAbort (s : Dev) (n cause : Nat) : Dev :=
  let x := s.chan n
  if x.st = .off ∨ x.st = .aborted then s
  else
    let s := s.chanMix n
    let s := s.setChan n { x with st := .aborted, act := none, full := false, err := 6, quantum := 0, srcList := [], dstList := []
                                  srcAt := [], dstAt := [] }
    (s.count .DMA_ABORTS).event (chanDie n) 0x3C2 (le 1 n) cause

/-- Every channel of a region is aborted (12 R502, 01 R20). -/
def Dev.chansAbortRegion (s : Dev) (r : Nat) : Dev :=
  ((List.range 128).filter (fun n => chanRegion n == r)).foldl (fun s n => s.chanAbort n abortIsolated) s

/-- The channels of a region that were aborted by its isolation run again with its release (12 R502). -/
def Dev.chansRelease (s : Dev) (r : Nat) : Dev :=
  ((List.range 128).filter (fun n => chanRegion n == r && (s.chan n).st == .aborted)).foldl (fun s n =>
    s.setChan n { s.chan n with st := if s.flag .CH_CTL_EN n then .idle else .off, err := 0 }) s

/-- A channel's transfer uses host memory (12 R502). -/
def Dev.chanUsesHost (s : Dev) (n : Nat) : Bool :=
  match (s.chan n).act with
  | some a => a.srcSpace == 3 || a.dstSpace == 3
  | none => false

/-- PF1 channels and host-memory transfers of the endpoint's channels are aborted (12 R502, 13 R534). -/
def Dev.chansAbortBus (s : Dev) : Dev :=
  ((List.range 128).filter (fun n =>
    ((112 ≤ n) && ((s.chan n).st == .running || (s.chan n).st == .waiting)) || ((96 ≤ n) && (n < 112) && s.chanUsesHost n))).foldl
      (fun s n => s.chanAbort n abortBus) s

/-- A channel halts with an error (12 R501): 3C0h for a programming error, 3C1h for a memory or host read error, which leaves a
mix of old and new data at the destination (assumption 70). -/
def Dev.chanHalt (s : Dev) (n err entry addr : Nat) : Dev :=
  let s := if err = 5 then s.chanMix n else s
  let s := s.setChan n { s.chan n with st := .halted, err := err, entry := entry, errAddr := addr }
  let s := s.count .DMA_HALTS
  if err = 5 then s.event (chanDie n) 0x3C1 (le 1 n ++ le 8 addr)
  else s.event (chanDie n) 0x3C0 (le 1 n ++ le 1 err ++ le 2 entry ++ le 8 addr)

/-- Bytes of a space (12 Address spaces). -/
def spaceSize : Nat → Nat
  | 0 => 24 * 2 ^ 30 | 1 => 24 * 2 ^ 30 | 2 => 2 ^ 30 | 3 => 2 ^ 64 | 4 => 16 * 2 ^ 30 | _ => 0

/-- A range lies in the wrapped-key or device-state partitions of the ledger (12 R499). -/
def inKeyPartitions (addr len : Nat) : Bool :=
  [0, 0x20000000].any (fun b => decide (addr < b + 0x1B300000) && decide (b + 0x1B200000 < addr + len))

/-- The error code of a range in a space, if any (12 R501, table Transfer errors rows 1, 2 and 4). -/
def chanRangeError (n space addr len : Nat) : Option Nat :=
  if addr % 64 ≠ 0 then some 1
  else if len = 0 ∨ len % 64 ≠ 0 then some 2
  else if !(chanSpaces n).contains space ∨ spaceSize space < addr + len then some 4
  else if space = 2 ∧ inKeyPartitions addr len then some 4
  else none

/-- A channel reaches a space now (01 R13, R14; 12 R500; 13 R533): an HBM stack of another die over the seam between them, the ledger
from Lintel over a pier, host memory while PF1 may issue requests. -/
def Dev.chanReaches (s : Dev) (n space : Nat) : Bool :=
  if space < 2 then (if n < 96 then n / 48 == space || s.seamUp 0 else s.seamUp (1 + space))
  else if space = 2 then decide (n < 96) || s.seamUp 1 || s.seamUp 2
  else if space = 3 then s.ep.up && (s.epFn 1).busMaster
  else true

/-- A channel reaches both sides of a transfer, with the HBM its aperture offsets were translated to. -/
def Dev.actReaches (s : Dev) (n : Nat) (a : ChSet) : Bool :=
  s.chanReaches n a.srcSpace && s.chanReaches n a.dstSpace &&
    ((s.chan n).srcAt ++ (s.chan n).dstAt).all (fun t => s.chanReaches n (t / 2 ^ 40))

/-- A channel in place for repointing (12 R499): both sides the ledger, plain, at one address. -/
def ChSet.inPlace (a : ChSet) : Bool := a.srcSpace == 2 && a.dstSpace == 2 && !a.srcSg && !a.dstSg && a.src == a.dst

/-- The error of a plain side or list entry as it starts, if any (12 R500, R501): an aperture offset whose window does not
translate it is outside the space (assumption 71). -/
def Dev.chanStartError (s : Dev) (n : Nat) (dest : Bool) (space addr len : Nat) : Option Nat :=
  match chanRangeError n space addr len with
  | some e => some e
  | none => if space = 4 ∧ (s.apTranslate addr dest).isNone then some 4 else none

/-- The translation of an aperture offset at the start of a plain side or list entry (12 R500). -/
def Dev.chanAt (s : Dev) (dest : Bool) (space addr : Nat) : List Nat := if space = 4 then (s.apTranslate addr dest).toList else []

/-- Bytes of a transfer that can have moved (12 R501): both their entries are fetched and, on a background channel, a quantum has
released them. -/
def Dev.chanMoved (s : Dev) (n : Nat) : Nat :=
  let x := s.chan n
  match x.act with
  | some a =>
    let known := min ((chanKnown a x false).map Prod.snd).sum ((chanKnown a x true).map Prod.snd).sum
    if !s.actReaches n a then 0 else if s.flag .CH_CTL_BG n then min known (a.len - x.remain + x.quantum) else known
  | none => 0

/-- The bytes of the entries before one that fails its check stay moved (12 R501). A source the device does not hold gives free
bytes (assumption 70). -/
def Dev.chanPrefix (s : Dev) (n : Nat) : Dev :=
  let x := s.chan n
  match x.act with
  | some a =>
    let m := s.chanMoved n
    match s.chanPieces false a.srcSpace (chanKnown a x false) x.srcAt, s.chanPieces true a.dstSpace (chanKnown a x true) x.dstAt with
    | some src, some dst =>
      let free := if a.srcSpace = 2 ∨ a.srcSpace = 3 then s.drawBytes m else ([], s)
      let s := free.2.chanPut a.dstSpace dst ((s.chanGet a.srcSpace src free.1).take m)
      let remain := min x.remain (a.len - m)
      (s.setChan n { x with remain := remain }).count .DMA_BYTES_MOVED 0 (x.remain - remain)
    | _, _ => s
  | none => s

/-- The shadow set becomes the active set while the channel has none (12 R496, R501): plain sides and list addresses are checked
as it becomes active. -/
def Dev.chanLoad (s : Dev) (n : Nat) : Dev :=
  let x := s.chan n
  if !x.full || x.act.isSome then s
  else
    let a : ChSet := {
      src := s.fld .CH_SRC_HI_ADDR n * 2 ^ 32 + s.fld .CH_SRC_LO_ADDR n
      dst := s.fld .CH_DST_HI_ADDR n * 2 ^ 32 + s.fld .CH_DST_LO_ADDR n
      len := s.fld .CH_LEN_BYTES n
      srcSg := s.flag .CH_MODE_SRC_SG n, dstSg := s.flag .CH_MODE_DST_SG n
      srcSpace := s.fld .CH_MODE_SRC_SPACE n, dstSpace := s.fld .CH_MODE_DST_SPACE n
      srcN := s.fld .CH_NENT_SRC_N n, dstN := s.fld .CH_NENT_DST_N n }
    let bg := s.flag .CH_CTL_BG n
    let s := s.setChan n { x with act := some a, full := false, remain := a.len, quantum := 0, srcList := [], dstList := []
                                  srcAt := if a.srcSg then [] else s.chanAt false a.srcSpace a.src
                                  dstAt := if a.dstSg then [] else s.chanAt true a.dstSpace a.dst
                                  st := if bg then .waiting else .running, err := 0 }
    let check := fun (dest sg : Bool) (space addr : Nat) =>
      if sg then (if addr % 64 ≠ 0 then some 1 else if a.len = 0 ∨ a.len % 64 ≠ 0 then some 2
        else if !(chanSpaces n).contains space ∨ spaceSize space ≤ addr then some 4 else none)
      else s.chanStartError n dest space addr a.len
    match check false a.srcSg a.srcSpace a.src with
    | some e => s.chanHalt n e 0 (if e = 2 then a.len else a.src)
    | none =>
      match check true a.dstSg a.dstSpace a.dst with
      | some e => s.chanHalt n e 0 (if e = 2 then a.len else a.dst)
      | none => s

/-- Key of the count kept for the window of 3C4h, by channel. -/
def markOverrun (n : Nat) : Nat := 1000 + n

/-- A trigger on a background channel (12 R492): in WAITING it releases a quantum or the rest; in RUNNING it counts an
overrun. -/
def Dev.chanTrigger (s : Dev) (n : Nat) : Dev :=
  let x := s.chan n
  match x.st with
  | .waiting =>
    if x.act.isSome then
      let q := s.fld .CH_QUANTUM_UNITS n * 64
      s.setChan n { x with st := .running, quantum := if q = 0 ∨ x.remain < q then x.remain else q }
    else s
  | .running => if 0 < x.quantum then (s.count .DMA_TRIG_OVERRUN).addMark (markOverrun n) else s
  | _ => s

/-- Chain triggers of a channel's completion (12 R491). -/
def Dev.chanChain (s : Dev) (n : Nat) : Dev :=
  ((List.range 128).filter (fun m => s.flag .CH_CTL_EN m && s.fld .CH_TRIG_SEL m == 2 && s.fld .CH_TRIG_CHAIN m == n)).foldl
    (fun s m => s.chanTrigger m) s

end Sys2Proof.Machine
end

