-- ==== Sys2Proof/Machine/RegionOps.lean ====
section
/-!
DEFINITION. Isolation of regions and cluster resets (01 R17-R24), fencing a pier (16 R627).
-/
namespace Sys2Proof.Machine

/-- ISO_CAUSE values (01 REGION_STAT). -/
def isoViolation : Nat := 1
def isoThird : Nat := 2
def isoSeam : Nat := 3
def isoSoftware : Nat := 4
def isoTest : Nat := 5

/-- What a region's isolation discards (01 R20): clusters in reset, the channels in it (12 R502), offload jobs of the general
cipher region; with it or the bond's region the bond links carry nothing more (16 R637). Tables and registers of the region stay (assumption 16). -/
def Dev.discardRegion (s : Dev) (r : Nat) : Dev :=
  let s := s.chansAbortRegion r
  let s := if r = 17 then { s with cust := { s.cust with jobs := [] } } else s
  if (r = 17 ∨ r = 18) ∧ (s.own.bonds.any (fun e => e.2.up)) then { s with own := { s.own with noBondFrom := s.nowOn .ln } } else s

/-- A region isolates (01 R19, R20): event 0F8h with the region, its ISO_CAUSE as the cause code. -/
def Dev.isolateRegion (s : Dev) (r cause : Nat) : Dev :=
  if s.isolated r ∨ 19 ≤ r then s
  else
    let x := s.region r
    let s := s.setRegion r { x with isolated := true, testing := false, isoCause := cause, inReset := [] }
    (s.discardRegion r).event (regionDie r) 0x0F8 (le 1 r) cause

/-- A cluster is reset (01 R17-R19): event 0F9h, counted; its third reset within 1 s isolates the region. In a control region an image's
confirmation counts anew (17 R667). -/
def Dev.clusterReset (s : Dev) (r c : Nat) (channels : List (Fin 128)) : Dev :=
  let x := s.region r
  let now := s.nowOn (regionDie r)
  let recent := (x.recent.filter (fun e => decide (now < e.2 + sec))) ++ [(c, now)]
  let s := if r % 6 = 4 ∧ r < 12 then { s with fw := { s.fw with stableFrom := s.now } } else s
  let s := s.setRegion r { x with resets := sat 255 (x.resets + 1), inReset := if x.inReset.contains c then x.inReset else x.inReset ++ [c]
                                  recent := recent }
  let s := (s.event (regionDie r) 0x0F9 (le 1 r ++ le 1 c)).emit (.workAborted r c)
  let s := (channels.filter (fun n => chanRegion n.val == r)).foldl (fun s n => s.chanAbort n.val abortCluster) s
  if 3 ≤ (recent.filter (fun e => e.1 == c)).length then s.isolateRegion r isoThird else s

/-- A pier's side of ownership. -/
def Dev.pierOwn (s : Dev) (p : Nat) : PierOwn := s.own.piers.get {} p

/-- Change a pier's side of ownership. -/
def Dev.setPierOwn (s : Dev) (p : Nat) (x : PierOwn) : Dev := { s with own := { s.own with piers := s.own.piers.put {} p x } }

/-- Bits of a list of numbers. -/
def bitmap (l : List Nat) : Nat := l.eraseDups.foldl (fun n i => n + 2 ^ i) 0

/-- Volumes that exist and that a pier serves. -/
def Dev.volsOf (s : Dev) (p : Nat) : List Nat := (List.range 64).filter (fun v => decide ((s.vol v).st ≠ .none) && s.volPier v == p)

/-- A pier fences itself (16 R624, R627): it stops every member and ledger write at once and isolates its drive region, which
names the cause of the change to CONTAINED; event 3FCh with the volumes won and lost, those of a dispute or all it served. -/
def Dev.fence (s : Dev) (p : Nat) (dispute : Option (List Nat × List Nat)) : Dev :=
  if (s.pierOwn p).fenced then s
  else
    let won := (dispute.map Prod.fst).getD []
    let lost := (dispute.map Prod.snd).getD (s.volsOf p)
    let s := s.setPierOwn p { s.pierOwn p with fenced := true }
    let s := { s with mode := { s.mode with hint := causeFence } }
    ((s.count .OWN_FENCES).event (pierDie p) 0x3FC (le 8 (bitmap won) ++ le 8 (bitmap lost))).isolateRegion (p * 6) isoSoftware

end Sys2Proof.Machine
end

