-- ==== Sys2Proof/Machine/Journal.lean ====
section
/-!
DEFINITION. The intent records (09 R356-R378): opening, commit, application, retirement, secondary copies, the write-hole map.
-/
namespace Sys2Proof.Machine

/-- Status values as SCT * 256 + SC (04 table Status codes returned). -/
def stInternal : Nat := 0x006
def stInterrupted : Nat := 0x021

/-- A command's outcome is known (04). -/
def Dev.endCmd (s : Dev) (c : Cmd) (status : Nat) (dnr : Bool := false) : Dev :=
  if c.status.isSome then s else s.setCmd { c with status := some status, dnr := dnr }

/-- The stripes a row list touches. -/
def IRec.stripes (r : IRec) : List (Bool × Nat) := (r.rows.map (fun y => (y.newGeo, y.stripe))).eraseDups

/-- Volume regions a record touches (09 R368). -/
def IRec.regions (r : IRec) : List Nat :=
  (List.range ((r.first + r.units - 1) / regionUnits + 1 - r.first / regionUnits)).map (· + r.first / regionUnits)

/-- Build a row of a write (08 R326, R330; 09 R357): FULL for a row of a whole stripe; DELTA for read-modify-write with every block
available; IMAGE otherwise. None while a block it needs is not in hand. -/
def Dev.buildRow (s : Dev) (c : Cmd) (full : List (Bool × Nat)) (r : RowRef) (strips : List Nat) : Option Row :=
  let v := c.vol
  let d := (s.geom v r.newGeo).d
  let isFull := full.contains (r.newGeo, r.stripe)
  let olds := strips.map (fun j =>
    if isFull || s.coversUnit c (s.rowUnit v r j) then (zeroUnit, zeroUnit)
    else ((s.stripPlain v c.hand r j).getD zeroUnit, (s.stripStored v c.hand r j).getD zeroUnit))
  let news := (strips.zip olds).map (fun e =>
    let x := s.newUnit c (s.rowUnit v r e.1) e.2.1 e.2.2
    (e.1, x.1, x.2))
  let base : Row := { stripe := r.stripe, row := r.row, newGeo := r.newGeo, news := news, zero := c.op != .write }
  if isFull then
    let ds := (List.range d).map (fun j => ((news.find? (fun e => e.1 == j)).map (fun e => e.2.1)).getD zeroUnit)
    some { base with kind := .full, p := parityP ds, q := parityQ ds }
  else if s.rowRmw c r strips then
    match s.stripPlain v c.hand r d, s.stripPlain v c.hand r (d + 1) with
    | some p, some q =>
      let deltas := news.filterMap (fun e => (s.stripPlain v c.hand r e.1).map (fun o => (e.1, xorB o e.2.1)))
      if deltas.length < news.length then none
      else
        let dp := deltas.foldl (fun b e => xorB b e.2) []
        let dq := deltas.foldl (fun b e => xorB b (scaleB (gfPow e.1) e.2)) []
        let whole := (s.lostStrips v c.hand c.bad r).isEmpty
        some { base with kind := if whole then .delta else .image, dp := dp, dq := dq, p := xorB p dp, q := xorB q dq }
    | _, _ => none
  else
    let ds := (List.range d).map (fun j =>
      match news.find? (fun e => e.1 == j) with
      | some e => some e.2.1
      | none => s.stripPlain v c.hand r j)
    if ds.any (·.isNone) then none
    else
      let ds := ds.map (·.getD [])
      some { base with kind := .image, p := parityP ds, q := parityQ ds }

/-- A unit in the bad-block list is covered only in part by a write (08 R341). -/
def Dev.partlyListed (s : Dev) (c : Cmd) : Bool := (s.cmdUnits c).any (fun a => s.listed c.vol a && !s.coversUnit c a)

/-- An OPEN record of a ring, or a pass, is updating one of these stripes of a volume (08 R334, 10 R413). -/
def Dev.stripeOpen (s : Dev) (p v : Nat) (stripes : List (Bool × Nat)) : Bool :=
  (s.pier p).recs.any (fun r => r.volume == v && !r.committed && !r.retired && r.stripes.any (fun k => stripes.contains k)) ||
  match (s.vol v).pass with
    | some x => x.awaiting.any (fun k => stripes.contains k)
    | none => false

/-- A record touches an address between the checkpointed reshape boundary and B (10 R433). -/
def Dev.betweenBounds (s : Dev) (v : Nat) (units : List Nat) : Bool :=
  match (s.vol v).reshape with
  | some r => units.any (fun a => decide (r.saved ≤ a) && decide (a < r.bound))
  | none => false

/-- A write has all it needs for its record: its data, checked; its blocks, gathered; staging and accumulators (08 R326,
R331). -/
def Dev.readyToOpen (s : Dev) (c : Cmd) : Bool :=
  c.op.writes && c.dispatched && !c.held && c.status.isNone && !c.cancelled && c.record.isNone && c.gathered &&
  decide (c.need ≤ c.data.length) && c.checked &&
  (s.fullStripes c).all (fun k => c.claimed.contains k.2) &&
  ((s.cmdRows c).all (fun e => (s.fullStripes c).contains (e.1.newGeo, e.1.stripe)) || c.staging != 0)

/-- A wait for the journal begins (09 R359): counted once for the write. -/
def Dev.journalWait (s : Dev) (p : Nat) (c : Cmd) : Dev :=
  if c.waitJournal.isSome then s
  else (s.setCmd { c with waitJournal := some (s.nowOn (pierDie p)) }).count .LDG_JOURNAL_WAITS p

/-- A wait above 1 ms for the journal is counted in its window (09 35Eh). -/
def markJournalWait (p : Nat) : Nat := 20 + p

/-- The record's volume has its members reached by the partner package too, and its links are up (16 R637; assumption 21). -/
def Dev.mirrors (s : Dev) : Bool := (List.range 2).any (fun b => s.flag .BOND_CFG_MIRROR b) && !s.own.mirrorOff

/-- RECORD_OPEN (09 R357-R361, R375, R378, R390; 08 R341): the intent record of a write is appended OPEN to its pier's ring, or the
write waits for room, or ends with 06h Internal Error where no record can be opened. -/
def execRecordOpen (cmd : Nat) (s : State) : Result :=
  s.run (fun d =>
    match d.cmd cmd with
    | none => d
    | some c =>
      let p := d.volPier c.vol
      if !d.readyToOpen c || !d.pierUp p then d
      else if decide (d.ringSegs p < 256) || (!d.pairOk 0 && !d.pairOk 1) || d.partlyListed c then d.endCmd c stInternal true
      else
        let full := d.fullStripes c
        let rows := (d.cmdRows c).map (fun e => d.buildRow c full e.1 e.2)
        if rows.any (·.isNone) then d
        else
          let rows := rows.filterMap id
          let len := recordLength (d.gran c.vol) rows
          let units := d.cmdUnits c
          if d.stripeOpen p c.vol ((rows.map (fun y => (y.newGeo, y.stripe))).eraseDups) then d
          else if d.betweenBounds c.vol units && d.reservedBusy c.vol then d
          else if !d.ringRoom p len || !d.secondaryRoom p c.vol len then d.journalWait p c
          else
            let d := if d.betweenBounds c.vol units then
                match (d.vol c.vol).reshape with
                | some r => (((d.setVol c.vol { d.vol c.vol with reshape := some { r with saved := r.bound } }).checkpoint c.vol).stampAll c.vol)
                | none => d
              else d
            let first := units.foldl min (units.head?.getD 0)
            let last := units.foldl max 0
            let kinds := rows.map (·.kind)
            let g := d.gran c.vol
            let d := d.countXts (if c.op = .write then c.lbas.length else 0)
            let d := d.count .PAR_FULL_STRIPES p full.length
            let d := d.count .PAR_RMW_ROWS p ((kinds.filter (· == .delta)).length * g)
            let d := d.count .PAR_RCW_ROWS p ((kinds.filter (· == .image)).length * g)
            let d := match c.waitJournal with
              | some t => if t + ms < d.nowOn (pierDie p) then d.addMark (markJournalWait p) else d
              | none => d
            let r : IRec := { kind := if c.io then 1 else 2, volume := c.vol, nsid := c.nsid, fua := c.fua, length := len, cmd := some c.id
                              first := first, units := last + 1 - first, rows := rows }
            let touched := r.regions.foldl (fun t g => t.put 0 g (d.nowOn (pierDie p))) (d.vol c.vol).touched
            let d := d.setVol c.vol { d.vol c.vol with touched := touched }
            let d := d.appendRec p r
            let seq := (d.pier p).seq - 1
            let d := if d.mirrors then d.mirrorSend p seq len else d
            d.setCmd { c with record := some seq, full := full.map Prod.snd })

/-- A record may commit (09 R361, R376; 16 R637): durable in both copies, or, with one pair down, in the other and on both secondary
hosts; and mirrored to the partner where mirroring is on. -/
def Dev.mayCommit (s : Dev) (r : IRec) : Bool :=
  (if s.pairOk 0 && s.pairOk 1 then true else (s.pairOk 0 || s.pairOk 1) && r.copied) && (!s.mirrors || r.mirrored)

/-- A write is durable: it completes with Success once that is issued (09 R361, R366). -/
def Dev.writeDurable (s : Dev) (id : Option Nat) : Dev :=
  match id with
  | none => s
  | some k =>
    match s.cmd k with
    | some c =>
      if c.durableAt.isSome then s
      else (s.setCmd { c with durableAt := some (s.nowOn (pierDie (s.volPier c.vol)))
                              status := if c.status.isSome then c.status else some 0 })
    | none => s

/-- Entries of listed blocks that a record covers are removed once it is durable, event 347h (08 R341, R342). -/
def Dev.unlist (s : Dev) (r : IRec) : Dev :=
  let x := s.vol r.volume
  let gone := r.rows.flatMap (fun y => y.news.map (fun e => s.rowUnit r.volume ⟨y.newGeo, y.stripe, y.row⟩ e.1))
  let hit := x.bad.filter (fun a => gone.contains a)
  if hit.isEmpty || r.kind == 3 then s
  else
    let p := s.volPier r.volume
    let s := (s.setVol r.volume { x with bad := x.bad.filter (fun a => !gone.contains a) }).count .PAR_BB_REMOVED p
      (hit.length * s.gran r.volume)
    let s := s.reservedWrite r.volume 8192 ((s.membersIn r.volume [.online, .rebuilding]).map Prod.snd)
    s.event (pierDie p) 0x347 (le 1 r.volume ++ le 8 (hit.head?.getD 0 * s.gran r.volume))

/-- RECORD_COMMIT (09 R361, R376; 08 R326): COMMITTED in copy 0 and then copy 1; the new images take the place of the members'
copies; a write without FUA is durable. -/
def execRecordCommit (pier : Fin 2) (seq : Nat) (s : State) : Result :=
  let p := pier.val
  s.run (fun d =>
    match d.record p seq with
    | none => d
    | some r =>
      if r.committed || r.retired || !d.pierUp p || !d.mayCommit r then d
      else
        let r := { r with committed := true, single := !(d.pairOk 0 && d.pairOk 1) }
        let d := (d.setRec p r).count .LDG_REC_COMMITTED p
        let d := (d.stageRows p r).unlist r
        if r.fua then d else d.writeDurable r.cmd)

/-- Every earlier record that touches a stripe of this one is APPLIED in that stripe (09 R363). -/
def Dev.earlierApplied (s : Dev) (p : Nat) (r : IRec) : Bool :=
  (s.pier p).recs.all (fun e =>
    !(decide (e.seq < r.seq) && e.volume == r.volume && !e.retired && e.committed) ||
    e.rows.all (fun y => !r.stripes.contains (y.newGeo, y.stripe) || y.state == rowApplied))

/-- Map bits that must be set before a record's member writes begin (09 R370): write-hole bits, and absence bits while any member is
not online. -/
def Dev.bitsToSet (s : Dev) (r : IRec) : List Nat × List Nat :=
  let x := s.vol r.volume
  let away := decide ((s.membersIn r.volume [.online]).length < x.members.length)
  (r.regions.filter (fun g => !x.hole.contains g),
   if away then r.regions.filter (fun g => !x.absent.contains g) else [])

/-- Set bits in a volume's maps, in the ledger and on its map hosts (09 R370). -/
def Dev.setBits (s : Dev) (v : Nat) (hole absent : List Nat) : Dev :=
  let x := s.vol v
  let s := (s.setVol v { x with hole := sortNat (x.hole ++ hole), absent := sortNat (x.absent ++ absent) }).count .LDG_MAP_SETS
    (s.volPier v) (hole.length + absent.length)
  let s := { s with ldg := { s.ldg with orderly := false } }
  let hosts := s.mapHosts v
  let s := if hole.isEmpty then s else s.reservedWrite v 4096 hosts
  if absent.isEmpty then s else s.reservedWrite v 4352 hosts

/-- The member writes of one row begin (09 R364): data of every member that serves; P and Q of FULL and IMAGE rows with them; in a
DELTA row P first. -/
def Dev.applyRow (s : Dev) (p : Nat) (r : IRec) (y : Row) : Dev × Row :=
  let ref : RowRef := ⟨y.newGeo, y.stripe, y.row⟩
  let d := (s.geom r.volume y.newGeo).d
  let serves := fun x => s.memberServes r.volume (s.blockLoc r.volume ref x).1 y.newGeo y.stripe
  let data := (y.news.filter (fun e => serves e.1)).map (fun e => (e.1, e.2.2))
  let par := (if y.kind = .delta then [(d, y.p)] else [(d, y.p), (d + 1, y.q)]).filter (fun e => serves e.1)
  let writes := data ++ par.map (fun e => (e.1, s.rowParity r.volume y e.1 e.2))
  let y := { y with state := if y.kind = .delta then rowPPend else rowNone, waits := writes.map Prod.fst }
  let s := writes.foldl (fun s e => s.recordWrite p r y e.1 e.2) s
  s.rowAdvance p r y 4

/-- RECORD_APPLY_START (09 R362, R363, R364, R370): the member writes of a committed record begin once every earlier record of its
stripes is APPLIED there and the map bits it needs are set and acknowledged. -/
def execRecordApplyStart (pier : Fin 2) (seq : Nat) (s : State) : Result :=
  let p := pier.val
  s.run (fun d =>
    match d.record p seq with
    | none => d
    | some r =>
      if !r.committed || r.applying || r.retired || r.kind == 0 || !d.pierUp p || !d.earlierApplied p r || d.reservedBusy r.volume then d
      else
        let b := d.bitsToSet r
        if !b.1.isEmpty || !b.2.isEmpty then
          let d := d.setBits r.volume b.1 b.2
          d
        else
          let r := { r with applying := true }
          let d := d.setRec p r
          r.rows.foldl (fun d y =>
            let a := d.applyRow p r y
            match a.1.record p seq with
            | some r => a.1.setRec p (r.setRow a.2)
            | none => a.1) d)

/-- A Flush a record waits for is done, or its member has left (09 R365). -/
def Dev.flushMet (s : Dev) (e : Nat × Nat) : Bool := decide (e.2 ≤ (s.drive e.1).flushDone) || !s.slotUsable e.1

/-- RECORD_RETIRE (09 R365, R366): every row APPLIED and every Flush done; a write with FUA is then durable. -/
def execRecordRetire (pier : Fin 2) (seq : Nat) (s : State) : Result :=
  let p := pier.val
  s.run (fun d =>
    match d.record p seq with
    | none => d
    | some r =>
      if !r.committed || r.retired || !d.pierUp p || !r.rows.all (fun y => y.state == rowApplied) || !r.flush.all d.flushMet then d
      else (d.retire p seq false).writeDurable (if r.fua then r.cmd else none))

/-- MEMBER_FLUSH_COMPLETE (09 R365, 11 R460): a Flush ends; one that fails is reissued once, then the member is failed. Another is
issued at once when writes acknowledged since wait for it. -/
def execMemberFlushComplete (id : Nat) (ok : Bool) (s : State) : Result :=
  s.run (fun d =>
    match d.store.mcmds.find? (fun c => c.id == id && c.use == .flush) with
    | none => d
    | some c =>
      let lanes := slotLanes c.slot
      if !d.pierRuns lanes 0 then d
      else
        let d := { d with store := { d.store with mcmds := d.store.mcmds.filter (fun x => x.id != id) } }
        if ok then
          let x := d.drive c.slot
          let d := d.setDrive c.slot { x with flushDone := x.flushIssued }
          let due := d.store.flushing.filter (fun e => e.1 == c.slot && decide (e.2.1 ≤ x.flushIssued))
          let d := { d with store := { d.store with flushing := d.store.flushing.filter (fun e => !due.contains e) } }
          let d := due.foldl (fun d e => d.useDurable c.slot e.2.2) d
          let waits := d.store.flushing.any (fun e => e.1 == c.slot) || (List.range 2).any (fun p => (d.pier p).recs.any (fun r => r.flush.any (fun e =>
            e.1 == c.slot && decide (x.flushIssued < e.2))))
          if waits then (d.flushFor c.volume c.slot).2 else d
        else
          let d := d.count .DRV_MCMD_ERR lanes
          if c.again then
            match d.memberOf c.slot with
            | some e => (d.memberFail e.1 e.2).regather
            | none => d
          else (d.count .DRV_MCMD_REISSUED lanes).memberCmd { c with again := true })

/-- WRITE_HOLE_CLEAR (09 R371): no unretired record touches the region and none touching it was opened for MAP_IDLE. -/
def execWriteHoleClear (volume : Fin 64) (region : Nat) (s : State) : Result :=
  let v := volume.val
  s.run (fun d =>
    let x := d.vol v
    let p := d.volPier v
    if x.hole.contains region && d.pierUp p && !(d.pier p).recs.any (fun r => r.volume == v && !r.retired && r.kind != 0 && r.regions.contains region) &&
        d.expired (pierDie p) (x.touched.get 0 region) (d.fld .LDG_CFG_MAP_IDLE * sec) then
      let touched := x.touched.erase region
      let d := d.setVol v { x with hole := x.hole.filter (· != region), touched := touched }
      (d.count .LDG_MAP_CLEARS p).reservedWrite v 4096 (d.mapHosts v)
    else d)

/-- SECONDARY_COPY (09 R374, R376): a record is written to both secondary hosts of its volume; COPIED once both have
acknowledged. -/
def execSecondaryCopy (pier : Fin 2) (seq : Nat) (s : State) : Result :=
  let p := pier.val
  s.run (fun d =>
    match d.record p seq with
    | none => d
    | some r =>
      if r.retired || r.copySent || r.kind == 0 || !d.pierUp p || !(r.committed || r.single) then d
      else
        let hosts := d.secondaryHosts r.volume
        let d := d.setRec p { r with copySent := true, copies := 0, copied := false }
        let d := d.count .LDG_SEC_RECORDS p
        hosts.foldl (fun d k => d.memberCmd { write := true, slot := k, volume := r.volume, unit := 262144 + 12288 * r.volume
                                              use := .secondary p seq }) d)

end Sys2Proof.Machine
end

