-- ==== Sys2Proof/Machine/Volumes.lean ====
section
/-!
DEFINITION. The double-parity volumes (08): creating and deleting, accumulators and staging, and the ends of member reads and
writes (11 R455-R457, R460; 16 R624, R625).
-/
namespace Sys2Proof.Machine

/-- A volume command or configuration write refused: event 342h with the volume and the register's address (08 R350). -/
def Dev.volRefused (s : Dev) (v addr : Nat) : Dev := s.eventOpenCause (pierDie (s.volPier v)) 0x342 (le 1 v ++ le 8 addr)

/-- The address of a register that both pier blocks show (08 R349), in Pier East's block, or in Pier West's where that is isolated. -/
def Dev.pairAddr (s : Dev) (r : Reg) : Nat :=
  if s.blockIsolated (Reg.addr r) then Reg.addr r + 0x1000000 else Reg.addr r

/-- Key of VOL_MEMBER[i] and RS_NEW[i] of a volume. -/
def memberInst (v i : Nat) : Nat := v * 24 + i

/-- Slots of the members VOL_MEMBER names, indices 0 to WIDTH - 1. -/
def Dev.cfgSlots (s : Dev) (v : Nat) : List Nat :=
  (List.range (s.fld .VOL_CFG_WIDTH v)).map (fun i => s.fld .VOL_MEMBER_SLOT (memberInst v i))

/-- A drive may be taken as a new member of a volume of a member block (08 R345, 11 R451, R454): spare, of the format, with no
critical warning, and with a data area of at least `units`. -/
def Dev.spareFits (s : Dev) (mbs units k : Nat) : Bool :=
  let x := s.drive k
  decide (x.st = .spare) && x.mbs == some mbs && x.warning / 4 % 4 == 0 && decide (units ≤ x.units)

/-- CREATE is accepted (08 R345). -/
def Dev.mayCreate (s : Dev) (v : Nat) : Bool :=
  let n := s.fld .VOL_CFG_WIDTH v
  let e := s.fld .VOL_CFG_STRIP v
  let slots := s.cfgSlots v
  decide ((s.vol v).st = .none) && decide (4 ≤ n) && decide (n ≤ 24) && decide (6 ≤ e) && decide (e ≤ 10) &&
  (List.range 24).all (fun i => s.flag .VOL_MEMBER_USED (memberInst v i) == decide (i < n)) &&
  slots.eraseDups.length == slots.length &&
  slots.all (s.spareFits (s.fld .VOL_CFG_MBS v) (stripUnits e))

/-- VOLUME_CREATE (08 R323, R344, R345; 10 R398, R402): the members go online with stamps of GEN 1 under a UUID drawn at random,
and their data areas are zeroed. -/
def execVolumeCreate (via : Via) (volume : Fin 64) (s : State) : Result :=
  let v := volume.val
  s.run (fun d => d.viaCommand via (d.pairAddr .VOL_CMD) (fun d =>
    if !d.mayCreate v then (d.volRefused v (Reg.addr .VOL_CMD), abortRefused)
    else
      let slots := d.cfgSlots v
      let cap := slots.foldl (fun n k => min n (d.drive k).units) (d.drive (slots.headD 0)).units
      let a := d.draw
      let b := a.2.draw
      let owner := (d.quoinVol v).owner
      let ms : Table Member := slots.zipIdx.map (fun e => (e.2, { st := .online, slot := e.1, gen := 1 }))
      let d := b.2.setVol v { owner := owner, cap := cap, uuid := a.1 * 2 ^ 64 + b.1, gen := 1, members := ms, creating := true }
      let d := d.volState v .creating
      let d := slots.zipIdx.foldl (fun d e =>
        let x := d.drive e.1
        let d := d.setDrive e.1 { x with st := .online, volume := v, index := e.2 }
        let d := d.event (pierDie (slotLanes e.1)) 0x360 (le 1 e.1) MState.online.code
        d.emit (.memberZeroes e.1 dataStart cap)) d
      ((d.stampAll v).checkpoint v, abortOk)))

/-- Stripes and units of a volume (08 R314). -/
def Dev.volStripes (s : Dev) (v : Nat) : Nat :=
  let g := s.geom v false
  if g.u = 0 then 0 else (s.vol v).cap / g.u
def Dev.volUnits (s : Dev) (v : Nat) : Nat := if (s.vol v).st = .none then 0 else s.volStripes v * (s.geom v false).stripeUnits

/-- Regions of a volume (09 R368). -/
def Dev.volRegions (s : Dev) (v : Nat) : List Nat := List.range (ceilDiv (s.volUnits v) regionUnits)

/-- VOLUME_CREATE_COMPLETE (08 R323, R344, R346): every member still online has reported its zeroing. A parity key found in the
slot is kept, else one is generated; with a member away every absence bit is set; event 340h. -/
def execVolumeCreateComplete (volume : Fin 64) (s : State) : Result :=
  let v := volume.val
  s.run (fun d =>
    let k := d.keySlot keyParity v
    let ready := decide (k.state = .loaded) || (decide (k.state = .empty) && k.running.isNone && d.cust.kek.isSome && d.cust.rngOk)
    if (d.vol v).st ≠ .creating ∨ !ready ∨ d.reservedBusy v then d
    else
      let d := if k.state = .loaded then d else d.generateKey keyParity v
      let x := d.vol v
      let p := d.volPier v
      let away := x.members.any (fun e => e.2.st != .online)
      let regions := if away then d.volRegions v else []
      let d := (d.setVol v { x with absent := regions, creating := false }).count .LDG_MAP_SETS p regions.length
      let d := if away then d.reservedWrite v 4352 (d.mapHosts v) else d
      let d := d.event (pierDie p) 0x340 (le 1 v ++ le 1 (d.geom v false).n ++ le 1 (d.fld .VOL_CFG_STRIP v))
      d.volState v (d.stateByMembers v))

/-- A namespace of a volume is active, draining or being cleared (04 R197, 08 R325, R346). -/
def Dev.volInUse (s : Dev) (v : Nat) : Bool := s.liveNs.any (fun n => s.nsVol n == v)

/-- VOLUME_DELETE (08 R344, R346): accepted in any state but NONE and CREATING while no namespace of the volume is active or being
cleared; the stamps and lists of its members are wiped. -/
def execVolumeDelete (via : Via) (volume : Fin 64) (s : State) : Result :=
  let v := volume.val
  s.run (fun d => d.viaCommand via (d.pairAddr .VOL_CMD) (fun d =>
    let st := (d.vol v).st
    if st = .none ∨ st = .creating ∨ st = .deleting ∨ d.volInUse v then (d.volRefused v (Reg.addr .VOL_CMD), abortRefused)
    else
      let slots := (d.membersIn v [.online, .rebuilding]).map Prod.snd
      let x := d.vol v
      let d := (d.setVol v { x with pass := none, reshape := none, scrub := {} }).fillPlaces x.owner
      let d := d.volState v .deleting
      let d := [0, 2048, 8192].foldl (fun d u => d.reservedWrite v u slots) d
      (d, abortOk)))

/-- VOLUME_DELETE_COMPLETE (08 R346; 10 R398): the stamps are wiped and no record of the volume is left; its members return to
spare, the parity key slot is destroyed and the volume is NONE; events 341h and 343h. -/
def execVolumeDeleteComplete (volume : Fin 64) (s : State) : Result :=
  let v := volume.val
  s.run (fun d =>
    let p := d.volPier v
    if (d.vol v).st ≠ .deleting ∨ d.reservedBusy v ∨
        (d.pier p).recs.any (fun r => r.volume == v && r.kind != 0 && !r.retired) then d
    else
      let x := d.vol v
      let d := x.members.foldl (fun d e =>
        let k := e.2.slot
        let dr := d.drive k
        if decide (dr.volume = v) && decide (dr.index = e.1) then
          match dr.st with
          | .online => (d.setDrive k { dr with stamp := none }).driveState k .spare
          | .rebuilding => (d.setDrive k { dr with stamp := none }).driveState k .spare
          | .missing => d.driveState k .noDrive
          | _ => d
        else d) d
      let d := if (d.keySlot keyParity v).state = .empty then d else d.emptyKey keyParity v
      let die := pierDie p
      let d := d.event die 0x341 (le 1 v)
      let d := d.event die 0x343 (le 1 v ++ le 1 0) VState.none.code
      d.setVol v { owner := x.owner })

/-- The data of a write has come whole, so its accumulators have taken their stripes (08 R326). -/
def Dev.dataWhole (c : Cmd) : Bool := decide (c.need ≤ c.data.length)

/-- Accumulators of a write are released once P and Q have left them (08 R326). -/
def Dev.releaseAccs (s : Dev) (c : Cmd) : Dev :=
  let p := s.volPier c.vol
  let x := s.pier p
  s.setPier p { x with accs := x.accs.filter (fun e => e.1 != c.id) }

/-- Voussoir accumulators of a pier (08). -/
def accumulators : Nat := 16

/-- ACCUMULATOR_CLAIM (08 R326): a stripe of a full-stripe write takes a free accumulator of the owning pier, or waits, counted
once for the write. -/
def execAccumulatorClaim (cmd stripe : Nat) (s : State) : Result :=
  s.run (fun d =>
    match d.cmd cmd with
    | none => d
    | some c =>
      let p := d.volPier c.vol
      if !c.op.writes || !c.dispatched || c.held || c.status.isSome || c.record.isSome || !d.pierUp p || c.claimed.contains stripe ||
          !(d.fullStripes c).any (fun k => k.2 == stripe) then d
      else if (d.pier p).accs.length < accumulators then
        let d := d.setCmd { c with claimed := c.claimed ++ [stripe] }
        let x := d.pier p
        if Dev.dataWhole c then d else d.setPier p { x with accs := x.accs ++ [(cmd, stripe)] }
      else if c.waitAcc then d
      else (d.setCmd { c with waitAcc := true }).count .PAR_ACC_WAITS p)

/-- Bytes of staging a pier holds: images, and rows admitted and not yet staged (08 R331). -/
def Dev.stagedBytes (s : Dev) (p : Nat) : Nat :=
  unitBytes * (s.pier p).staged.length +
  ((s.nvme.cmds.filter (fun c => s.volPier c.vol == p && c.status.isNone && match c.record with
    | some q => ((s.record p q).map (fun r => !r.committed)).getD false
    | none => true)).map (·.staging)).sum

/-- A wait above 1 ms for staging is counted in its window (08 344h). -/
def markStageWait (p : Nat) : Nat := 30 + p

/-- STAGING_ADMIT (08 R330, R331): the part of a write that is no whole stripe is given room for its new data, P and Q in the
pier's 8 GiB, or waits, counted once. -/
def execStagingAdmit (cmd : Nat) (s : State) : Result :=
  s.run (fun d =>
    match d.cmd cmd with
    | none => d
    | some c =>
      let p := d.volPier c.vol
      let full := d.fullStripes c
      let rows := (d.cmdRows c).filter (fun e => !full.contains (e.1.newGeo, e.1.stripe))
      let need := unitBytes * (rows.map (fun e => e.2.length + 2)).sum
      if !c.op.writes || !c.dispatched || c.held || c.status.isSome || c.record.isSome || c.staging != 0 || !d.pierUp p || need == 0 then d
      else if d.stagedBytes p + need ≤ 8 * 2 ^ 30 then
        let d := d.setCmd { c with staging := need }
        match c.waitStage with
        | some t => if t + ms < d.nowOn (pierDie p) then d.addMark (markStageWait p) else d
        | none => d
      else if c.waitStage.isSome then d
      else (d.setCmd { c with waitStage := some (d.nowOn (pierDie p)) }).count .PAR_STAGE_WAITS p)

/-- A command's read is done; when none is outstanding its gathering goes on (08 R335, R337). -/
def Dev.readDone (s : Dev) (id : Nat) (f : Cmd → Cmd) : Dev :=
  match s.cmd id with
  | none => s
  | some c => (s.setCmd { f c with reading := c.reading - 1 }).gather id

/-- MEMBER_READ_COMPLETE (11 R456; 08 R335): the block read goes to its command; an error is reissued once, then is a media error,
to be recovered from the rest of the row. -/
def execMemberReadComplete (id : Nat) (result : MemberEnd) (stored : List Byte) (s : State) : Result :=
  s.run (fun d =>
    match d.store.mcmds.find? (fun c => c.id == id && !c.write) with
    | none => d
    | some c =>
      let lanes := slotLanes c.slot
      match c.use with
      | .read cmd ng st row x =>
        if !d.pierRuns lanes 0 then d
        else
          let d := { d with store := { d.store with mcmds := d.store.mcmds.filter (fun y => y.id != id) } }
          if result = .ok then
            let b := slice stored 0 unitBytes
            let h : InHand := ⟨ng, st, row, x, d.openBlock c.volume ⟨ng, st, row⟩ x b, b⟩
            (d.countXts (d.dataUnits c.volume ⟨ng, st, row⟩ x b)).readDone cmd (fun y => { y with hand := y.hand ++ [h] })
          else
            let d := d.count .DRV_MCMD_ERR lanes
            if !c.again then (d.count .DRV_MCMD_REISSUED lanes).memberCmd { c with again := true }
            else
              let d := (d.count .PAR_MEDIA_ERR c.pier).addMark (markMedia c.volume c.member)
              d.readDone cmd (fun y => { y with bad := y.bad ++ [⟨ng, st, row, x⟩] })
      | _ => d)

/-- A write of a record's row is acknowledged (09 R364, R365; 08 R333): a member with a volatile cache owes a Flush; the image
leaves staging; the row advances. -/
def Dev.recordWritten (s : Dev) (c : MCmd) (p seq : Nat) (ng : Bool) (st row x : Nat) : Dev :=
  let s := if s.slotVwc c.slot then
      let f := s.flushFor c.volume c.slot
      match f.2.record p seq with
      | some r => f.2.setRec p { r with flush := r.flush ++ [(c.slot, f.1)] }
      | none => f.2
    else s
  (s.unstage p c.volume c.member c.unit seq).rowWritten p seq ng st row x

/-- A reserved-area write is acknowledged (11 R453, R460): durable at once, or after a Flush of a member with a volatile cache. -/
def Dev.reservedWritten (s : Dev) (c : MCmd) : Dev :=
  if s.slotVwc c.slot then
    let f := s.flushFor c.volume c.slot
    { f.2 with store := { f.2.store with flushing := f.2.store.flushing ++ [(c.slot, f.1, c.use)] } }
  else s.useDurable c.slot c.use

/-- MEMBER_WRITE_COMPLETE (11 R457, R460; 08 R333, R336; 09 R364; 16 R624, R625): a write of an epoch below the one the drive region
has learned, or one answered with Reservation Conflict, fences the pier that sent it; an error is reissued once, then the
member is failed. -/
def execMemberWriteComplete (id : Nat) (result : MemberEnd) (s : State) : Result :=
  s.run (fun d =>
    match d.store.mcmds.find? (fun c => c.id == id && c.write && c.use != .flush) with
    | none => d
    | some c =>
      let lanes := slotLanes c.slot
      if !d.pierRuns lanes 0 then d
      else
        let d := { d with store := { d.store with mcmds := d.store.mcmds.filter (fun y => y.id != id) } }
        if c.epoch < d.own.learned.get 1 c.slot then (d.count .DRV_MEM_REJECT c.pier).fence c.pier none
        else match result with
        | .conflict => (d.count .DRV_MCMD_ERR lanes).fence c.pier none
        | .error =>
          let d := d.count .DRV_MCMD_ERR lanes
          if !c.again then (d.count .DRV_MCMD_REISSUED lanes).memberCmd { c with again := true }
          else match d.memberOf c.slot with
            | some e => ((d.memberFail e.1 e.2).useLost c.use).regather
            | none => d.useLost c.use
        | .ok =>
          match c.use with
          | .record p seq ng st row x => d.recordWritten c p seq ng st row x
          | .reserved _ => d.reservedWritten c
          | .stamp _ _ _ => d.reservedWritten c
          | .secondary _ _ => d.reservedWritten c
          | _ => d)

end Sys2Proof.Machine
end

