-- ==== Sys2Proof/Machine/Replay.lean ====
section
/-!
DEFINITION. Applying the records of a ring without staging (09 R360, R381, R382, R702): at start, after a takeover, after a
region's release. The members' writes are taken as acknowledged within the command (assumption 18).
-/
namespace Sys2Proof.Machine

/-- The plaintext of a block of a row as its member gives it. -/
def Dev.fetched (s : Dev) (v : Nat) (r : RowRef) (blocks : List Fetched) (x : Nat) : Option (Block × Block) :=
  let l := s.blockLoc v r x
  let k := (s.mem v l.1).slot
  if s.memberServes v l.1 r.newGeo r.stripe then
    (blocks.find? (fun b => b.slot == k && b.unit == l.2)).map (fun b =>
      let st := slice b.stored 0 unitBytes
      (s.openBlock v r x st, st))
  else none

/-- Write a strip's stored bytes to its member now, if the member serves it. -/
def Dev.writeNow (s : Dev) (v : Nat) (r : RowRef) (x : Nat) (stored : Block) : Dev :=
  let l := s.blockLoc v r x
  let k := (s.mem v l.1).slot
  if s.memberServes v l.1 r.newGeo r.stripe then
    let id := s.store.nextMcmd
    let s := { s with store := { s.store with nextMcmd := id + 1 } }
    (s.count .DRV_MCMD_ISSUED (slotLanes k)).emit (.memberWrite id k l.2 stored)
  else s

/-- Mark the regions of a stripe in the absence map. -/
def Dev.markAbsent (s : Dev) (v : Nat) (r : RowRef) : Dev :=
  let x := s.vol v
  let fresh := (s.stripeRegions v r.newGeo r.stripe).filter (fun g => !x.absent.contains g)
  if fresh.isEmpty then s
  else ((s.setVol v { x with absent := sortNat (x.absent ++ fresh) }).count .LDG_MAP_SETS (s.volPier v) fresh.length).reservedWrite v 4352
    (s.mapHosts v)

/-- Close a row at once (08 R338): the data blocks not known are listed and become zero-stored; they, P and Q are written. -/
def Dev.closeNow (s : Dev) (v : Nat) (r : RowRef) (known : List (Option Block)) : Dev :=
  let d := (s.geom v r.newGeo).d
  let ds := (List.range d).map (fun j => (known.getD j none).getD zeroUnit)
  let lost := (List.range d).filter (fun j => (known.getD j none).isNone)
  let s := s.listBlocks v (lost.map (s.rowUnit v r))
  let s := lost.foldl (fun s j => s.writeNow v r j zeroUnit) s
  let s := (s.writeNow v r d (s.sealBlock v r d (parityP ds))).writeNow v r (d + 1) (s.sealBlock v r (d + 1) (parityQ ds))
  let first := (lost.map (s.rowUnit v r)).headD (s.rowUnit v r 0)
  s.event (pierDie (s.volPier v)) 0x346 (le 1 v ++ le 8 (first * s.gran v) ++ leCount (lost.length * s.gran v))

/-- A row of a committed record applied (09 R382); true when the row was closed. -/
def Dev.replayRow (s : Dev) (v : Nat) (blocks : List Fetched) (y : Row) : Dev × Bool :=
  let r : RowRef := ⟨y.newGeo, y.stripe, y.row⟩
  let d := (s.geom v y.newGeo).d
  let got := fun x => (s.fetched v r blocks x).map Prod.fst
  let known := (List.range d).map (fun j =>
    match y.news.find? (fun e => e.1 == j) with
    | some e => some e.2.1
    | none => if s.listed v (s.rowUnit v r j) then some zeroUnit else got j)
  let p := match y.kind with
    | .full => none
    | .image => some y.p
    | .delta => if y.state = rowPPend then none else if y.state = rowNone then (got d).map (fun b => xorB b y.dp) else got d
  let q := match y.kind with
    | .full => none
    | .image => some y.q
    | .delta =>
      if y.state = rowQPend then none
      else if y.state = rowQDone ∨ y.state = rowApplied then got (d + 1)
      else (got (d + 1)).map (fun b => xorB b y.dq)
  let s := s.countXts (((List.range d).map (fun j =>
    if (y.news.any (fun e => e.1 == j)) || s.listed v (s.rowUnit v r j) then 0
    else ((s.fetched v r blocks j).map (fun b => s.dataUnits v r j b.2)).getD 0)).sum)
  let s := y.news.foldl (fun s e => s.writeNow v r e.1 e.2.2) s
  let away := (List.range (d + 2)).any (fun x => !s.memberServes v (s.blockLoc v r x).1 y.newGeo y.stripe)
  let s := if away then s.markAbsent v r else s
  match recoverData d (known ++ [p, q]) with
  | some ds =>
    ((s.writeNow v r d (s.rowParity v y d (parityP ds))).writeNow v r (d + 1) (s.rowParity v y (d + 1) (parityQ ds)), false)
  | none => (s.closeNow v r known, true)

/-- What a replay did. -/
structure Replayed where
  dev : Dev
  records : Nat := 0
  closed : Nat := 0
  deriving DecidableEq, Repr

/-- One record: OPEN is abandoned, COMMITTED applied and retired (09 R381). -/
def Replayed.one (a : Replayed) (p : Nat) (blocks : List Fetched) (r : IRec) : Replayed :=
  if !r.committed then { a with dev := a.dev.retire p r.seq true }
  else
    let b := r.rows.foldl (fun (b : Replayed) y =>
      let z := b.dev.replayRow r.volume blocks y
      { b with dev := z.1, closed := b.closed + (if z.2 then 1 else 0) }) a
    let d := (b.dev.count .LDG_REC_REPLAYED p).count .LDG_ROWS_REPLAYED p (r.rows.length * b.dev.gran r.volume)
    { b with dev := d.retire p r.seq false, records := b.records + 1 }

/-- The unretired records of a ring that `sel` names, in SEQ order (09 R360, R381); their members' commands and their staged
images are dropped first (R382: recovery uses the journal and the members alone). -/
def Dev.replay (s : Dev) (p : Nat) (sel : IRec → Bool) (blocks : List Fetched) : Replayed :=
  let rs := (s.pier p).recs.filter (fun r => r.kind != 0 && !r.retired && sel r)
  let mine := fun (u : MUse) => match u with
    | .record q seq _ _ _ _ => q == p && rs.any (fun r => r.seq == seq)
    | .secondary q seq => q == p && rs.any (fun r => r.seq == seq)
    | _ => false
  let s := { s with store := { s.store with mcmds := s.store.mcmds.filter (fun c => !mine c.use)
                                            flushing := s.store.flushing.filter (fun e => !mine e.2.2) } }
  rs.foldl (fun a r => a.one p blocks r) { dev := s }

end Sys2Proof.Machine
end

