-- ==== Sys2Proof/Machine/Ledger.lean ====
section
/-!
DEFINITION. The ledger dies, the start-up recovery, endurance and retention (09 R351-R355, R379-R396).
-/
namespace Sys2Proof.Machine

/-- The die that records a ledger event: Pier East while its control region runs, else Pier West (09 R391). -/
def Dev.ledgerPier (s : Dev) : Nat := if s.pierRuns 0 4 && !(s.pierOwn 0).fenced then 0 else 1

/-- The ledger can be used: device state is loaded and a pier's control region runs. -/
def Dev.ledgerRuns (s : Dev) : Bool :=
  s.ldg.stateLoaded && s.mode.diesUp && s.cust.alarms == 0 && (s.pierRuns 0 4 || s.pierRuns 1 4)

/-- Where a logical segment lies (09 R351): die * 4,096 + physical segment. -/
def Dev.segPlace (s : Dev) (g : Nat) : Nat :=
  (s.ldg.wear.remaps.find g).getD ((2 * (g / 8192) + g % 2) * 4096 + g % 8192 / 2)

/-- Partition of a ledger address (09 R352), by its place in the table. -/
def partitionOf (a : Nat) : Nat :=
  let o := a % 0x20000000
  if o < 0x8000000 then 0 else if o < 0x10000000 then 1 else if o < 0x18000000 then 2 else if o < 0x1A000000 then 3
  else if o < 0x1A800000 then 4 else if o < 0x1B000000 then 5 else if o < 0x1B200000 then 6 else if o < 0x1B280000 then 7
  else if o < 0x1B300000 then 8 else 9

/-- Ledger address of a window byte (09 R352). -/
def windowAddr (slot off : Nat) : Nat :=
  (if slot < 2048 then 0x10000000 + slot * 65536 else 0x30000000 + (slot - 2048) * 65536) + off

/-- Ledger address of a meter record and of an event record by slot (09 R352). -/
def meterAddr (i : Nat) : Nat := if i < 262144 then 0x18000000 + 128 * i else 0x38000000 + 128 * (i - 262144)
def recorderAddr (i : Nat) : Nat := if i < 131072 then 0x1A800000 + 64 * i else 0x3A800000 + 64 * (i - 131072)

/-- Drop the meter records and the event records that `gone` tells of (09 R355, R395; 15 R593). -/
def Dev.dropLedgerRecords (s : Dev) (gone : Nat → Bool) : Dev :=
  let m := s.ten.meter
  let ring := m.ring.filter (fun e => !gone (meterAddr e.1))
  let slots := s.evr.ledger.slots.filter (fun e => !gone (recorderAddr e.1))
  let s := s.setMeter { m with ring := ring }
  { s with evr := { s.evr with ledger := { s.evr.ledger with slots := slots } } }

/-- MRAM_DIE_FAIL (09 R355): the die's bit in DIE_OK clears and its pair is unavailable for the mirrored partitions; the meter and
recorder records on it are lost; event 354h. -/
def execMramDieFail (die : Fin 4) (s : State) : Result :=
  s.run (fun d =>
    if !d.ldg.dieOk.contains die.val then d
    else
      let d := { d with ldg := { d.ldg with dieOk := d.ldg.dieOk.filter (· != die.val), dieFailed := d.ldg.dieFailed ++ [die.val] } }
      let d := d.dropLedgerRecords (fun a => d.segPlace (a / 65536) / 4096 == die.val)
      d.event (pierDie d.ledgerPier) 0x354 (le 1 die.val))

/-- The key slot whose entry holds a byte of the wrapped-key partition (07 Wrapped-key copy). -/
def keyAtOffset (o : Nat) : Option (Nat × Nat) :=
  if o < 0x1000 then none
  else if o < 0x51000 then some (keyMedia, (o - 0x1000) / 80)
  else if o < 0x52400 then some (keyParity, (o - 0x51000) / 80)
  else if o < 0x53800 then some (keyService, (o - 0x52400) / 80)
  else if o < 0x53850 then some (keyLedger, 0)
  else none

/-- The entries of the key slots a lost line holds fail their check in both copies (07 R286, 09 R395). -/
def Dev.loseKeys (s : Dev) (line : Nat) : Dev :=
  if partitionOf line ≠ 7 then s
  else
    let o := line % 0x20000000 - 0x1B200000
    let ks := ([keyAtOffset (o / 64 * 64), keyAtOffset (o / 64 * 64 + 63)].filterMap id).eraseDups
    ks.foldl (fun s k =>
      let i := slotKey k.1 k.2
      let w := s.cust.wrapped
      let a := w.slotsA.put {} i { w.slotsA.get {} i with ok := false }
      let b := w.slotsB.put {} i { w.slotsB.get {} i with ok := false }
      { s with cust := { s.cust with wrapped := { w with slotsA := a, slotsB := b } } }) s

/-- Lines lost for good (09 R395): event 35Ah with partition and address; their owners' records go, key entries fail. -/
def Dev.loseLines (s : Dev) (lines : List Nat) : Dev :=
  let s := { s with ldg := { s.ldg with lostLines := s.ldg.lostLines ++ (lines.map (· / 64)).filter (fun l => !s.ldg.lostLines.contains l) } }
  let s := s.dropLedgerRecords (fun a => lines.any (fun l => l / 64 == a / 64))
  lines.foldl (fun s l => (s.loseKeys l).event (pierDie s.ledgerPier) 0x35A (le 1 (partitionOf l) ++ le 8 l)) s

/-- Keys of the counts kept for the windows of 351h and 35Fh. -/
def markOneCopy : Nat := 4
def markRepaired (p : Nat) : Nat := 50 + p

/-- Lines corrected, repaired from the other copy, and lost, on a pier (09 R353, R384, R395). -/
def Dev.linesFound (s : Dev) (p corrected repaired : Nat) (lost : List Nat) : Dev :=
  let s := (s.count .LDG_ECC_CORR p corrected).count .LDG_ECC_UNCORR p (repaired + lost.length)
  (s.addMark (markRepaired p) repaired).loseLines lost

/-- Device time is loaded (05 R233, 02 R86): one more than the latest of the time mark, the END of every meter record, and FIRST
and LAST of every event record without EARLY, if that is later than device time. -/
def Dev.loadTime (s : Dev) : Dev :=
  if s.timeLoaded then s
  else
    let t := s.ldg.timeMark
    let t := s.ten.meter.ring.foldl (fun t e => max t e.2.stop) t
    let t := s.evr.ledger.slots.foldl (fun t e => if e.2.early then t else max t (max e.2.first e.2.last)) t
    { s with time := if s.now < t + 1 then BitVec.ofNat 64 (t + 1) else s.time, timeLoaded := true }

/-- After a power loss the meter writes each interrupted record from the last checkpoint (05 R235): END at the checkpoint's time,
POWER_LOSS, event 294h. -/
def Dev.meterInterrupted (s : Dev) : Dev :=
  let m := s.ten.meter
  let recs := m.checkpoint.recs.map (fun e => ({ e.2 with stop := m.checkpoint.time, keyId := m.keyId } : MeterRec).flag flagPowerLoss)
  if recs.isEmpty then s
  else
    let s := s.setMeter { m with checkpoint := { m.checkpoint with recs := [] } }
    (recs.foldl (fun s r => s.meterWrite false r) s).event .ln 0x294

/-- The wear counters after a power loss (09 R385): as saved, with the largest advance a second of writes could have made (a free
value, assumption 1). -/
def Dev.wearAfterLoss (s : Dev) : Dev :=
  if s.ldg.orderly then s
  else
    let w := s.ldg.wear
    let bytes := (List.range 16384).map (fun g => (g, w.savedBytes.get 0 g + Config.wearSecond * 65536))
    { s with ldg := { s.ldg with wear := { w with bytes := bytes.filter (fun e => e.2 != 0) } } }

/-- The sealed secret of a copy that still fits is taken (07 R287, R292; 17 Start-up, step 7). -/
def Dev.unsealSecret (s : Dev) : Dev :=
  let w := s.cust.wrapped
  let try' := fun (cs : Option (List Byte)) (kcv : Option (List Byte)) => match cs with
    | some c => if kcv = some (kcvOf (kekOf c)) then some c else none
    | none => none
  match try' w.sealedA w.kcvA, try' w.sealedB w.kcvB with
  | some c, _ => s.takeSecret c
  | none, some c => s.takeSecret c
  | none, none => s

/-- Windows in REVOKING at the loss complete their revocation (03 R131). -/
def Dev.revokeAtStart (s : Dev) : Dev :=
  let ks := (s.rdma.wins.filter (fun e => e.2.st == .revoking)).map Prod.fst
  ks.foldl (fun s k =>
    let ws := s.rdma.wins.put {} k { s.rdma.wins.get {} k with st := .free }
    ({ s with rdma := { s.rdma with wins := ws } } : Dev).event .ln 0x189 (le 2 k)) s

/-- Device state is loaded (17 Start-up, steps 6 and 7; 09 R383, R385, R394; 15 R594; 16 R616): CLEAN, wear, the repointing pass, the
recorder's scan, device time, the quoin; then the sealed secret. -/
def Dev.loadState (s : Dev) (found : Recovery) : Dev :=
  if s.ldg.stateLoaded then s
  else
    let s := { s with ldg := { s.ldg with stateLoaded := true, clean := s.ldg.orderly } }
    let s := s.wearAfterLoss
    let piers := (List.range 2).filter (fun p => s.pierRuns p 4)
    let s := piers.foldl (fun s p => s.count .LDG_RP_SEGMENTS p (16384 / piers.length)) s
    let s := s.linesFound s.ledgerPier found.corrected found.repaired (found.lostLines.map (·.toNat))
    let s := { s with evr := { s.evr with scanned := true, ledger := s.evr.ledger.scan } }
    let s := s.loadTime
    let own := s.own
    let seen := fun (x : PierOwn) => { x with seenSlots := own.slots, seenVols := own.vols }
    let piers' := (own.piers.put {} 0 (seen (own.piers.get {} 0))).put {} 1 (seen (own.piers.get {} 1))
    let learned := (own.slots.map (fun e => (e.1, e.2.epoch))).filter (fun e => e.2 != 1)
    let s := { s with own := { own with piers := piers', learned := learned } }
    let w := s.ldg.wear
    let days := if w.hot then 7 else 30
    let s := { s with ldg := { s.ldg with wear := { w with
      passLast := s.now, passStart := s.now, passNext := s.now, passSegment := 0, passEnd := s.now + days * 86400 * sec } } }
    s.revokeAtStart.unsealSecret

/-- The pier waits for a slot before it assembles volumes (10 R407): the slot is powered, its drive not identified, and no link of
it has failed to come up or been taken down. -/
def Dev.slotAwaited (s : Dev) (k : Nat) : Bool :=
  decide ((s.shelf.slots.get {} k).st = .on) && decide ((s.drive k).st = .noDrive) &&
  (s.slotPorts k).all (fun n => !(s.port n).noted && (s.port n).takenAt.isNone)

/-- Volumes that exist. -/
def Dev.volumes (s : Dev) : List Nat := (List.range 64).filter (fun v => decide ((s.vol v).st ≠ .none))

/-- The volumes are assembled (10 R407, R419, R423, R434): jobs go back to their checkpoints, and the members whose drives are not there are
missing. -/
def Dev.assemble (s : Dev) : Dev :=
  s.volumes.foldl (fun s v =>
    let x := s.vol v
    let pass := x.pass.map (fun p => { p with cursor := p.saved, awaiting := none, budget := 0 })
    let reshape := x.reshape.map (fun r => { r with bound := r.saved, moved := false, step := if r.backup then r.step else none })
    let scrub := { x.scrub with cursor := x.scrub.saved }
    let s := s.setVol v { x with pass := pass, reshape := reshape, scrub := scrub }
    x.members.foldl (fun s e =>
      let dr := s.drive e.2.slot
      let here := decide (dr.volume = v) && decide (dr.index = e.1) && (dr.st == .online || dr.st == .rebuilding)
      if (e.2.st = .online ∨ e.2.st = .rebuilding) ∧ !here then s.memberLeaves v e.1 .missing else s) s) s

/-- Records lost in every copy (09 R380): every write-hole region of every volume with a record on that ring is resynchronised,
event 353h. -/
def Dev.loseRecords (s : Dev) (p : Nat) (seqs : List Nat) : Dev :=
  if seqs.isEmpty then s
  else
    let vols := (((s.pier p).recs.filter (fun r => r.kind != 0)).map (·.volume)).eraseDups
    let regions := vols.flatMap (fun v => (s.vol v).hole.map (fun g => (v, g)))
    let x := s.pier p
    let s := s.setPier p { x with recs := dropRetired (x.recs.filter (fun r => !seqs.contains r.seq)) }
    let s := regions.foldl (fun s e => s.emit (.regionResync e.1 e.2)) s
    s.event (pierDie p) 0x353 (le 1 p ++ leCount regions.length)

/-- Active namespaces whose volume is not found, or whose media key slot is EMPTY: event 206h with the NSID (14 R560). -/
def Dev.namespacesFound (s : Dev) : Dev :=
  ((List.range 4096).filter (fun n => s.flag .NS_CFG_ACTIVE n &&
    (decide ((s.vol (s.fld .NS_CFG_VOLUME n)).st = .none) || decide ((s.keySlot keyMedia n).state = .empty)))).foldl
      (fun s n => s.event .ln 0x206 (le 4 (n + 1))) s

/-- Both rings are scanned and their records applied and retired (09 R379-R383): RECOVERING ends, event 350h. -/
def Dev.recoverRings (s : Dev) (found : Recovery) : Dev :=
  let s := s.addMark markOneCopy found.oneCopy
  let s := found.fromSecondary.foldl (fun s e => s.event (pierDie e.1) 0x352 (le 1 e.1 ++ le 8 e.2)) s
  let s := (List.range 2).foldl (fun s p => s.loseRecords p ((found.lost.filter (fun e => e.1 == p)).map Prod.snd)) s
  let s := found.checkpoints.foldl (fun s v =>
    let x := s.vol v.val
    if x.st = .none then s
    else
      let pass := x.pass.map (fun p => { p with cursor := 0, saved := 0 })
      (s.setVol v.val { x with pass := pass }).event (pierDie (s.volPier v.val)) 0x36F (le 1 v.val)) s
  let s := s.assemble
  let a := s.replay 0 (fun _ => true) found.blocks
  let b := a.dev.replay 1 (fun _ => true) found.blocks
  let s := b.dev
  let s := (List.range 2).foldl (fun s p => s.setPier p { s.pier p with staged := [], accs := [] }) s
  let s := { s with ldg := { s.ldg with recovered := [(0, true), (1, true)] } }
  let s := s.meterInterrupted
  let s := s.namespacesFound
  s.event (pierDie s.ledgerPier) 0x350 (leCount (a.records + b.records) ++ leCount (a.closed + b.closed) ++ le 1 (if s.ldg.clean then 1 else 0))

/-- WEAR_COUNTER_SAVE (09 R385): the wear counters are written to device state, at multiples of 1 s. -/
def execWearCounterSave (s : State) : Result :=
  s.runIf (s.dev.ledgerRuns && s.dev.now % sec == 0) (fun d =>
    { d with ldg := { d.ldg with wear := { d.ldg.wear with savedBytes := d.ldg.wear.bytes } } })

/-- A logical segment of the wear reserve (09 R352). -/
def reserveSegment (g : Nat) : Bool := partitionOf (g * 65536) == 9

/-- A physical segment is free (09 R387, R388): no segment outside the reserve lies on it and it is not retired. -/
def Dev.physFree (s : Dev) (place : Nat) : Bool :=
  !s.ldg.wear.retired.contains place &&
  (List.range 16384).all (fun g => reserveSegment g || s.ldg.wear.withdrawn.contains g || s.segPlace g != place) &&
  ((List.range 16384).any (fun g => reserveSegment g && (2 * (g / 8192) + g % 2) * 4096 + g % 8192 / 2 == place) ||
    s.ldg.wear.remaps.any (fun e => (2 * (e.1 / 8192) + e.1 % 2) * 4096 + e.1 % 8192 / 2 == place))

/-- Free reserve segments of a pair (09 LDG_RESERVE). -/
def Dev.reserveLeft (s : Dev) (pair : Nat) : Nat :=
  ((List.range 8192).filter (fun i => s.physFree (pair * 8192 + i))).length

/-- WINDOW_REMAP (09 R387): after 16,777,216 line writes a window slot moves to a free physical segment of its pair. -/
def execWindowRemap (slot : Fin 4096) (die : Fin 4) (phys : Fin 4096) (s : State) : Result :=
  let w := slot.val
  let g := windowAddr w 0 / 65536
  let place := die.val * 4096 + phys.val
  s.runIf (s.dev.ledgerRuns && decide (16777216 ≤ s.dev.ldg.wear.windowWrites.get 0 w) && die.val / 2 == g / 8192 && s.dev.physFree place)
    (fun d =>
      let x := d.ldg.wear
      let remaps := x.remaps.insert g place
      let writes := x.windowWrites.erase w
      { d with ldg := { d.ldg with wear := { x with remaps := remaps, windowWrites := writes } } })

/-- Journal segments of a pair's copy that a ring still has, in order. -/
def Dev.ringList (s : Dev) (p pair : Nat) : List Nat :=
  ((List.range 2048).map (fun i => pair * 8192 + p * 2048 + i)).filter (fun g => !s.ldg.wear.withdrawn.contains g)

/-- A place of a ring holds part of an unretired record. -/
def Dev.ringOccupied (s : Dev) (p i : Nat) : Bool :=
  (s.pier p).recs.any (fun r => !r.retired && decide (r.off < (i + 1) * 65536) && decide (i * 65536 < r.off + r.length))

/-- The highest journal segment of a pair that no record occupies (09 R389), with its ring. -/
def Dev.spareJournal (s : Dev) (pair : Nat) : Option Nat :=
  let free := fun p => ((s.ringList p pair).zipIdx.filter (fun e => !s.ringOccupied p e.2)).map Prod.fst
  (free 0 ++ free 1).foldl (fun m g => match m with
    | some h => some (max h g)
    | none => some g) none

/-- Journal segments are withdrawn from their rings (09 R389, R390), with events 358h and 359h as a ring's copy falls below 1,024 and
below 256. -/
def Dev.withdraw (s : Dev) (g : Nat) : Dev :=
  let p := g % 8192 / 2048
  let before := s.ringSegs p
  let w := s.ldg.wear
  let s := { s with ldg := { s.ldg with wear := { w with withdrawn := w.withdrawn ++ [g] } } }
  let after := s.ringSegs p
  let s := s.eventIf (decide (1024 ≤ before) && decide (after < 1024)) (pierDie p) 0x358
  s.eventIf (decide (256 ≤ before) && decide (after < 256)) (pierDie p) 0x359

/-- SEGMENT_REMAP (09 R388-R390): a segment whose wear counter has reached 5 * 10^11 moves to the free reserve segment given, event
356h; with the reserve of its pair empty a journal segment is withdrawn, and another partition's takes the highest free
journal segment's place. -/
def execSegmentRemap (segment : Fin 16384) (die : Fin 4) (phys : Fin 4096) (s : State) : Result :=
  let g := segment.val
  let place := die.val * 4096 + phys.val
  s.run (fun d =>
    let w := d.ldg.wear
    let worn := w.bytes.get 0 g / 65536
    let pair := g / 8192
    if !d.ledgerRuns || worn < 500000000000 || w.withdrawn.contains g then d
    else
      let old := d.segPlace g
      let bytes := w.bytes.erase g
      let moved := fun (d : Dev) (dest : Nat) =>
        let remaps := w.remaps.insert g dest
        let d := { d with ldg := { d.ldg with wear := { d.ldg.wear with remaps := remaps, bytes := bytes, retired := d.ldg.wear.retired ++ [old] } } }
        (d.count .LDG_SEG_REMAPPED d.ledgerPier).event (pierDie d.ledgerPier) 0x356 (le 2 g ++ le 8 worn)
      let left := d.reserveLeft pair
      if 0 < left then
        if die.val / 2 == pair && d.physFree place then
          let d := moved d place
          d.eventIf (left == 123) (pierDie d.ledgerPier) 0x357 (le 1 pair)
        else d
      else if g % 8192 < 4096 then
        let d := d.withdraw g
        { d with ldg := { d.ldg with wear := { d.ldg.wear with bytes := bytes, retired := d.ldg.wear.retired ++ [old] } } }
      else
        match d.spareJournal pair with
        | some j =>
          let at' := d.segPlace j
          moved (d.withdraw j) at'
        | none => d)

/-- Days of the repointing interval (09 R391). -/
def Dev.repointDays (s : Dev) : Nat := if s.ldg.wear.hot then 7 else 30

/-- REPOINT_SEGMENT (09 R391-R395): the next segment of the pass, when it is due; the lines corrected, repaired and lost in it; after
the last one event 35Ch and the next pass. -/
def execRepointSegment (corrected repaired : Nat) (lost : List (BitVec 30)) (s : State) : Result :=
  s.run (fun d =>
    let w := d.ldg.wear
    let p := d.ledgerPier
    let now := d.nowOn (pierDie p)
    if !d.ledgerRuns || now < w.passNext then d
    else
      let d := (d.linesFound p corrected repaired (lost.map (·.toNat))).count .LDG_RP_SEGMENTS p
      let k := w.passSegment + 1
      if k < 16384 then
        let next := now + (w.passEnd - now) / (16384 - k)
        { d with ldg := { d.ldg with wear := { w with passSegment := k, passNext := next } } }
      else
        let days := d.repointDays
        let d := d.event (pierDie p) 0x35C (le 1 days ++ le 8 (now - w.passStart))
        { d with ldg := { d.ldg with wear := { w with
          passSegment := 0, passStart := now, passNext := now, passLast := now, passEnd := now + days * 86400 * sec } } })

/-- The repointing interval changes (09 R392): event 35Dh with the new interval; the segments left are spread over what is left of it. -/
def Dev.setHot (s : Dev) (hot : Bool) : Dev :=
  let w := s.ldg.wear
  if w.hot = hot then s
  else
    let stop := if hot then min w.passEnd (s.now + 7 * 86400 * sec) else w.passStart + 30 * 86400 * sec
    let s := { s with ldg := { s.ldg with wear := { w with hot := hot, passEnd := stop } } }
    s.event (pierDie s.ledgerPier) 0x35D (le 1 s.repointDays)

/-- HOT_CLEAR (09 R392): no ledger die has read above 110 °C in the last 86,400 s. -/
def execHotClear (s : State) : Result :=
  s.runIf (s.dev.ldg.wear.hot && decide (s.dev.ldg.wear.hotAt + 86400 * sec < s.dev.now)) (·.setHot false)

end Sys2Proof.Machine
end

