-- ==== Sys2Proof/Machine/Ports.lean ====
section
/-!
DEFINITION. The network ports (02): port and MAC configuration, link, receive checks, transmission, credit-based shaping,
low-power idle.
-/
namespace Sys2Proof.Machine

/-- The MAC exists in its port's split (02 table Port splits). -/
def Dev.macExists (s : Dev) (m : Nat) : Bool := m % 8 % splitLanes (s.fld .PORT_CFG_SPLIT (m / 8)) == 0

/-- The MAC's own address. -/
def Dev.macAddr (s : Dev) (m : Nat) : Nat := s.fld .MAC_ADDR_HI_ADDR m * 2 ^ 32 + s.fld .MAC_ADDR_LO_ADDR m

/-- The MAC's IPv6 global address (02 MAC_IP6); 0 is none. -/
def Dev.macIp6 (s : Dev) (m : Nat) : Nat :=
  ((s.fld .MAC_IP6_ADDR (m * 4) * 2 ^ 32 + s.fld .MAC_IP6_ADDR (m * 4 + 1)) * 2 ^ 32 +
    s.fld .MAC_IP6_ADDR (m * 4 + 2)) * 2 ^ 32 + s.fld .MAC_IP6_ADDR (m * 4 + 3)

/-- The MAC's IPv6 link-local address: its MAC address as a modified EUI-64 identifier (02 R62, RFC 4291). -/
def Dev.macLinkLocal (s : Dev) (m : Nat) : Nat :=
  let a := s.macAddr m
  0xFE80 * 2 ^ 112 + ((a / 2 ^ 24) ^^^ 0x020000) * 2 ^ 40 + 0xFFFE * 2 ^ 24 + a % 2 ^ 24

/-- The MAC holds an IP address and may use it (02 R62, R63): one of 0 is absent, a duplicate is not used. -/
def Dev.holdsIp (s : Dev) (m : Nat) (v4 : Bool) (a : Nat) : Bool :=
  if v4 then a ≠ 0 && a == s.fld .MAC_IP4_ADDR m
  else a ≠ 0 && ((a == s.macIp6 m && !(s.mac m).dadGlobal) || (a == s.macLinkLocal m && !(s.mac m).dadLocal))

/-- Replace queue q of a MAC. -/
def Mac.setQueue (x : Mac) (q : Nat) (l : List TxFrame) : Mac :=
  match q with
  | 0 => { x with eq0 := l }
  | 1 => { x with eq1 := l }
  | 2 => { x with eq2 := l }
  | _ => { x with eq3 := l }

/-- All four egress queues are empty. -/
def Mac.allEmpty (x : Mac) : Bool := x.eq0.isEmpty && x.eq1.isEmpty && x.eq2.isEmpty && x.eq3.isEmpty

/-- Replace the credit of queue q. -/
def Mac.setCredit (x : Mac) (q : Nat) (c : Credit) : Mac :=
  match q with
  | 0 => { x with credit0 := c }
  | 1 => { x with credit1 := c }
  | _ => { x with credit2 := c }

/-- A queue may send (02 R69, R72): it holds a frame, and when shaped its credit is not negative. -/
def Dev.queueEligible (s : Dev) (m q : Nat) : Bool :=
  !((s.mac m).queue q).isEmpty &&
    (decide (3 ≤ q) || !s.flag .CBS_SLOPE_EN (m * 3 + q) || decide (0 ≤ s.creditNow m q))

/-- A MAC goes down (02 R59, R60): event 101h; every frame of its egress queues and the one on its wire is discarded and
counted, their cells return at once, and event 103h holds how many. -/
def Dev.macDown (s : Dev) (m : Nat) : Dev :=
  let x := s.mac m
  if !x.link then s
  else
    let wired := match x.wire with
      | some (_, f) => [f]
      | none => []
    let frames := wired ++ x.eq0 ++ x.eq1 ++ x.eq2 ++ x.eq3
    let s := s.creditSync m
    let x := s.mac m
    let s := s.setMac m { x with
      link := false, eq0 := [], eq1 := [], eq2 := [], eq3 := [], wire := none, crossed := false
      txLpi := false, rxLpi := false, waking := none, lldpDone := false, lpiStopped := false }
    let s := s.event .ln 0x101 (le 1 m)
    let s := wired.foldl (fun s f => s.emit (.frameEnd m f.bytes false)) s
    let s := s.freeUnits (frames.filterMap (·.unit))
    if frames.isEmpty then s
    else (s.count .MAC_TX_DISCARD m frames.length).event .ln 0x103 (le 1 m ++ leCount frames.length)

/-- A refused network configuration write (02 104h). -/
def Dev.netRefused (s : Dev) (addr : Nat) : Dev := s.event .ln 0x104 (le 8 addr)

/-- A write of PORT_CFG (02 R54, R57, R59): a changed SPLIT or PHY while the port is enabled, or PHY = 11b, discards the
write; clearing ENABLE takes the port's MACs down. -/
def Dev.portCfgWrite (s : Dev) (n : Nat) (v : Word) : Dev :=
  let phy := bitsOf v 3 2
  let split := bitsOf v 1 0
  let bad := phy == 3
  let busy := s.flag .PORT_CFG_ENABLE n && (phy != s.fld .PORT_CFG_PHY n || split != s.fld .PORT_CFG_SPLIT n)
  if bad || busy then
    let s := if bad then s.setFld .PORT_ERR_PHY_BAD n 1 else s
    let s := if busy then s.setFld .PORT_ERR_CFG_BUSY n 1 else s
    s.netRefused (Reg.addr .PORT_CFG n)
  else
    let s := if bitOf v 31 then s else (List.range 8).foldl (fun s k => s.macDown (n * 8 + k)) s
    ((s.setFld .PORT_CFG_PHY n phy).setFld .PORT_CFG_SPLIT n split).setFld .PORT_CFG_ENABLE n (bitsOf v 31 31)

/-- PORT_CFG_WRITE (02 R57). -/
def execPortCfgWrite (_req : Requester) (port : Fin 8) (value : Word) (s : State) : Result :=
  s.run (fun d => d.regWrite (Reg.addr .PORT_CFG port.val) (·.portCfgWrite port.val value))

/-- A written overhead, 7 bits signed; a value below -32 is stored as -32 (02 R73, 05 R202). -/
def overheadStored (v : Nat) : Nat := if signed 7 v < -32 then unsigned 7 (-32) else v

/-- A write of MAC_CFG (02 R59, R61, R73): enabling needs a unicast address that is not zero; disabling takes the MAC down
and forgets its duplicate addresses (R63). -/
def Dev.macCfgWrite (s : Dev) (m : Nat) (v : Word) : Dev :=
  if !s.macExists m then s
  else
    let s := s.setFld .MAC_CFG_CBS_OVH m (overheadStored (bitsOf v 22 16))
    let s := s.setFld .MAC_CFG_MAX_FRAME m (clampTo 1518 9216 (bitsOf v 13 0))
    if !bitOf v 31 then
      let s := s.macDown m
      let s := s.setMac m { s.mac m with dadGlobal := false, dadLocal := false }
      s.setFld .MAC_CFG_ENABLE m 0
    else if s.flag .MAC_CFG_ENABLE m then s
    else if s.macAddr m = 0 ∨ (s.macAddr m / 2 ^ 40) % 2 = 1 then s.netRefused (Reg.addr .MAC_CFG m)
    else s.setFld .MAC_CFG_ENABLE m 1

/-- MAC_ENABLE (02 R61). -/
def execMacEnable (_req : Requester) (mac : Fin 64) (value : Word) (s : State) : Result :=
  s.run (fun d => d.regWrite (Reg.addr .MAC_CFG mac.val) (·.macCfgWrite mac.val value))

/-- A write of MAC_IP4 (`which` 0) or of word `which - 1` of MAC_IP6, applied only while the MAC is disabled (02 R62). -/
def Dev.macIpWrite (s : Dev) (m which : Nat) (v : Nat) : Dev :=
  let addr := if which = 0 then Reg.addr .MAC_IP4 m else Reg.addr .MAC_IP6 (m * 4 + (which - 1))
  if !s.macExists m then s
  else if s.flag .MAC_CFG_ENABLE m then s.netRefused addr
  else if which = 0 then s.setFld .MAC_IP4_ADDR m v
  else s.setFld .MAC_IP6_ADDR (m * 4 + (which - 1)) v

/-- MAC_IP_WRITE (02 R62). -/
def execMacIpWrite (_req : Requester) (mac : Fin 64) (which : Fin 5) (value : Word) (s : State) : Result :=
  s.run (fun d => d.regWrite (Reg.addr .MAC_IP4 mac.val) (·.macIpWrite mac.val which.val value.toNat))

/-- The reference clock of a MAC's port is present (18 R693). -/
def Dev.macClock (s : Dev) (m : Nat) : Bool := s.pkg.clocks.contains (if m / 8 < 4 then 1 else 2)

/-- A MAC may be up: created, its port and itself enabled, the ports region running, its reference clock present. -/
def Dev.macMayRun (s : Dev) (m : Nat) : Bool :=
  s.mode.diesUp && !s.isolated 12 && s.macExists m && s.flag .PORT_CFG_ENABLE (m / 8) && s.flag .MAC_CFG_ENABLE m &&
    s.macClock m

/-- LINK_UP (02 R55, R58): alignment and FEC lock held for 10 ms bring the MAC up with event 100h; `twMinUs` is the PHY's
own minimum wake time, with which TW_TX begins. -/
def execLinkUp (mac : Fin 64) (lockedNs : Nat) (eeeAble partnerEee : Bool) (twMinUs : Nat) (s : State) : Result :=
  s.runIf (s.dev.macMayRun mac.val && !(s.dev.mac mac.val).link && decide (10 * ms < lockedNs)) (fun d =>
    let x := d.mac mac.val
    (d.setMac mac.val { x with
      link := true, eeeAble := eeeAble, partnerEee := partnerEee, twMin := twMinUs, twTx := twMinUs
      emptySince := d.nowOn .ln, lldpDone := false, lpiStopped := false }).event .ln 0x100 (le 1 mac.val))

/-- LINK_DOWN (02 R59, R60). -/
def execLinkDown (mac : Fin 64) (s : State) : Result := s.run (·.macDown mac.val)

/-- DUPLICATE_ADDRESS_DETECTION_END (02 R63): an address found duplicate is not used, event 107h. -/
def execDuplicateAddressDetectionEnd (mac : Fin 64) (globalDup linkLocalDup : Bool) (s : State) : Result :=
  s.runIf (s.dev.mac mac.val).link (fun d =>
    let g := globalDup && d.macIp6 mac.val != 0
    let x := d.mac mac.val
    let d := d.setMac mac.val { x with dadGlobal := x.dadGlobal || g, dadLocal := x.dadLocal || linkLocalDup }
    let d := d.eventIf g .ln 0x107 (le 1 mac.val)
    d.eventIf linkLocalDup .ln 0x107 (le 1 mac.val))

/-- The MAC selected as time source (02 R84). -/
def Dev.ptpMac (s : Dev) : Nat := if s.net.ptp.onAlt then s.fld .PTP_CFG_ALT_MAC else s.fld .PTP_CFG_PRI_MAC

/-- The destination address passes receive check 5 (02 R65): the MAC's own, broadcast, or a group of table Frame classes. -/
def Dev.daAccepted (s : Dev) (m da : Nat) : Bool :=
  da == s.macAddr m || da == 0xFFFFFFFFFFFF || da == 0x011B19000000 || da == 0x0180C200000E || da == 0x333300000001 ||
    (da == 0x3333FF000000 + s.macIp6 m % 2 ^ 24 && s.macIp6 m != 0) || da == 0x3333FF000000 + s.macLinkLocal m % 2 ^ 24

/-- What becomes of a frame by table Frame classes (02): its consumer, or the counter it is counted in. -/
inductive RxFate where
  | deliver
  | drop (c : Ctr)
  deriving DecidableEq, Repr

/-- The row of table Frame classes a frame matches on MAC m, `asks` the address-resolution frames of this second. -/
def Dev.rxFate (s : Dev) (m asks : Nat) (f : RxFrame) : RxFate :=
  let own := f.da.toNat == s.macAddr m
  let limited := if asks < 10000 then RxFate.deliver else .drop .MAC_RX_CTRL_DROP
  match f.kind with
  | .roceCapsule v4 dst => if s.holdsIp m v4 dst.toNat then .deliver else .drop .MAC_RX_UNCLAIMED
  | .roceWindow v4 dst _ => if s.holdsIp m v4 dst.toNat then .deliver else .drop .MAC_RX_UNCLAIMED
  | .roceReadResponse v4 dst _ => if s.holdsIp m v4 dst.toNat then .deliver else .drop .MAC_RX_UNCLAIMED
  | .roceAck v4 dst => if s.holdsIp m v4 dst.toNat then .deliver else .drop .MAC_RX_UNCLAIMED
  | .ptpEvent udp | .ptpGeneral udp =>
    if s.flag .PTP_CFG_EN && m == s.ptpMac && (udp || f.da.toNat == 0x011B19000000 || own) then .deliver
    else .drop .MAC_RX_UNCLAIMED
  | .ptpPeerDelay => .drop .MAC_RX_UNCLAIMED
  | .lldp => if f.da.toNat == 0x0180C200000E then .deliver else .drop .MAC_RX_UNCLAIMED
  | .arp => if own || f.da.toNat == 0xFFFFFFFFFFFF then limited else .drop .MAC_RX_UNCLAIMED
  | .icmpv6Neighbour solicited =>
    if own || f.da.toNat == 0x333300000001 || solicited then limited else .drop .MAC_RX_UNCLAIMED
  | .echoRequest v4 dst => if s.holdsIp m v4 dst.toNat then limited else .drop .MAC_RX_UNCLAIMED
  | .macControl => .drop .MAC_RX_PAUSE
  | .other => .drop .MAC_RX_UNCLAIMED

/-- An address-resolution frame of table Frame classes. -/
def rxIsAsk : RxKind → Bool
  | .arp => true
  | .icmpv6Neighbour _ => true
  | .echoRequest _ _ => true
  | _ => false

/-- Switch output and class of a received frame (06 R244, R252). -/
def rxRoute : RxKind → Nat × Nat
  | .roceCapsule _ _ => (15, 1)
  | .roceWindow _ _ west => (if west then 9 else 8, 1)
  | .roceReadResponse _ _ _ => (15, 1)
  | _ => (15, 0)

/-- The first failed check of table Receive checks (02 R65), or none. -/
def Dev.rxCheck (s : Dev) (m asks : Nat) (f : RxFrame) : Option Ctr :=
  let limit := s.fld .MAC_CFG_MAX_FRAME m + (if f.vid.isSome then 4 else 0)
  let vid := s.fld .MAC_VLAN_VID m
  let vlanOk := match f.vid with
    | none => vid == 0
    | some v => if vid = 0 then v == 0 else v.toNat == vid
  if !f.pcsOk then some .MAC_RX_PCS_ERR
  else if f.length < 64 then some .MAC_RX_RUNT
  else if limit < f.length then some .MAC_RX_OVERSIZE
  else if !f.fcsOk then some .MAC_RX_FCS_ERR
  else if !s.daAccepted m f.da.toNat then some .MAC_RX_DA_MISS
  else if !vlanOk then some .MAC_RX_VLAN_MISS
  else match s.rxFate m asks f with
    | .deliver => none
    | .drop c => some c

/-- A frame stored in the pool has passed the receive checks or not (02 R65): delivered and counted, or dropped with its
cells returned and the first failed check counted. -/
def Dev.rxStored (s : Dev) (m unit : Nat) (f : RxFrame) : Dev :=
  let x := s.mac m
  let second := s.nowOn .ln / sec
  let asks := if x.askSecond = second then x.asks else 0
  match s.rxCheck m asks f with
  | some c => (s.freeUnits [unit]).count c m
  | none =>
    let s := if rxIsAsk f.kind then s.setMac m { x with askSecond := second, asks := asks + 1 } else s
    ((s.count .MAC_RX_FRAMES m).count .MAC_RX_BYTES m f.length).emit (.delivered m (rxRoute f.kind).1 f.length)

/-- FRAME_RECEIVE (02 R62, R65, R66; 06 R253-R257): cells first, nothing stored past the size limit; a refused cell drops the
frame as RX_POOL_DROP; then the receive checks. -/
def Dev.frameReceive (s : Dev) (m : Nat) (f : RxFrame) : Dev :=
  let s := (s.count .MAC_FEC_CORR m f.fecCorrected).count .MAC_FEC_UNCORR m f.fecUncorrectable
  let stored := min f.length (s.fld .MAC_CFG_MAX_FRAME m + (if f.vid.isSome then 4 else 0))
  let r := rxRoute f.kind
  let reserved := match f.kind with
    | .roceReadResponse _ _ qp => s.fillReserved (m / 8) qp stored
    | _ => none
  match reserved with
  | some (unit, s) => s.rxStored m unit f
  | none =>
    match s.admitFrame (m / 8) r.1 r.2 stored with
    | (.placed, unit, s) => s.rxStored m unit f
    | (.refused, _, s) => s.count .MAC_RX_POOL_DROP m
    | (.unavailable, _, s) => s

/-- FRAME_RECEIVE (02 R65). -/
def execFrameReceive (mac : Fin 64) (frame : RxFrame) (s : State) : Result :=
  s.runIf (s.dev.mac mac.val).link (·.frameReceive mac.val frame)

/-- A control frame of the LN control processors to egress queue q of a MAC, through input 15 in the urgent class (06 R244,
R252). -/
def Dev.controlFrame (s : Dev) (m q bytes : Nat) : Dev := s.submitUnit 15 (m / 8) 0 bytes (.egress m q bytes)

/-- Length of the answer to an address-resolution frame, DA through FCS: an ARP reply 64 bytes, a neighbour advertisement
with its target link-layer option 90, an echo reply without data 64 (assumption 6). -/
def answerBytes : ResolutionAsk → Nat
  | .neighbour _ => 90
  | _ => 64

/-- ADDRESS_RESOLUTION_FRAME (02 R63): answered when the MAC holds the address asked for. -/
def execAddressResolutionFrame (mac : Fin 64) (ask : ResolutionAsk) (s : State) : Result :=
  let held := match ask with
    | .arp t => s.dev.holdsIp mac.val true t.toNat
    | .neighbour t => s.dev.holdsIp mac.val false t.toNat
    | .echo4 t => s.dev.holdsIp mac.val true t.toNat
    | .echo6 t => s.dev.holdsIp mac.val false t.toNat
  s.runIf ((s.dev.mac mac.val).link && held) (fun d =>
    (d.emit (.resolved mac.val ask)).controlFrame mac.val 1 (answerBytes ask))

/-- TRANSMISSION_SELECTION (02 R69, R70): on an idle wire the highest eligible queue starts its frame. -/
def Dev.transmissionSelect (s : Dev) (m : Nat) : Dev :=
  match (List.range 4).find? (fun q => s.queueEligible m q) with
  | none => s
  | some q =>
    match (s.mac m).queue q with
    | [] => s
    | f :: rest =>
      let s := s.creditSync m
      let x := ((s.mac m).setQueue q rest)
      let x := { x with wire := some (q, f), crossed := false }
      let x := if x.allEmpty then { x with emptySince := s.nowOn .ln } else x
      (s.setMac m x).emit (.frameStart m q f.bytes)

/-- TRANSMISSION_SELECTION (02 R69): only with the link up, the wire idle, and no low-power idle or wake time. -/
def execTransmissionSelection (mac : Fin 64) (s : State) : Result :=
  let x := s.dev.mac mac.val
  s.runIf (x.link && x.wire.isNone && !x.txLpi && x.waking.isNone) (·.transmissionSelect mac.val)

/-- A queue that is empty with positive credit has its credit set to 0 (02 R71). -/
def Mac.settleCredit (x : Mac) (q : Nat) : Mac :=
  if (x.queue q).isEmpty && decide (0 < (x.credit q).value) then x.setCredit q { x.credit q with value := 0 } else x

/-- FRAME_TRANSMIT_END (02 R70, R71): the frame leaves the wire whole and is counted; its cells have crossed. -/
def Dev.frameTransmitEnd (s : Dev) (m : Nat) : Dev :=
  match (s.mac m).wire with
  | none => s
  | some (_, f) =>
    let s := s.creditSync m
    let crossed := (s.mac m).crossed
    let x := { s.mac m with wire := none, crossed := false }
    let x := ((x.settleCredit 0).settleCredit 1).settleCredit 2
    let s := s.setMac m x
    let s := if crossed then s else s.freeUnits f.unit.toList
    ((s.count .MAC_TX_FRAMES m).count .MAC_TX_BYTES m f.bytes).emit (.frameEnd m f.bytes true)

/-- FRAME_TRANSMIT_END (02 R70). -/
def execFrameTransmitEnd (mac : Fin 64) (s : State) : Result := s.run (·.frameTransmitEnd mac.val)

/-- CBS_CREDIT_ZERO (02 R71, R72): credit that has reached 0 is taken up, and the waiting frame is eligible from this tick. -/
def execCbsCreditZero (mac : Fin 64) (queue : Fin 3) (s : State) : Result :=
  s.runIf (s.dev.flag .CBS_SLOPE_EN (mac.val * 3 + queue.val) && decide (0 ≤ s.dev.creditNow mac.val queue.val))
    (·.creditSync mac.val)

/-- A write of CBS_SLOPE (02 R74): refused when IDLE is the MAC's rate or more, or the enabled shaped queues' sum would
exceed 75 % of it. -/
def Dev.cbsSlopeWrite (s : Dev) (m q : Nat) (v : Word) : Dev :=
  let k := m * 3 + q
  let idle := bitsOf v 23 0
  let r := s.macRate m
  let others := ((List.range 3).filter (fun j => j != q && s.flag .CBS_SLOPE_EN (m * 3 + j))).map
    (fun j => s.fld .CBS_SLOPE_IDLE (m * 3 + j))
  let sum := others.sum + (if bitOf v 31 then idle else 0)
  if !s.macExists m then s
  else if r ≤ idle ∨ 3 * r < 4 * sum then s.netRefused (Reg.addr .CBS_SLOPE k)
  else ((s.creditSync m).setFld .CBS_SLOPE_IDLE k idle).setFld .CBS_SLOPE_EN k (bitsOf v 31 31)

/-- CBS_SLOPE_WRITE (02 R74). -/
def execCbsSlopeWrite (_req : Requester) (mac : Fin 64) (queue : Fin 3) (value : Word) (s : State) : Result :=
  s.run (fun d => d.regWrite (Reg.addr .CBS_SLOPE (mac.val * 3 + queue.val)) (·.cbsSlopeWrite mac.val queue.val value))

/-- Low-power idle is negotiated and permitted on a MAC (02 R76, R80; EEE_STAT.ACTIVE). -/
def Dev.eeeActive (s : Dev) (m : Nat) : Bool :=
  let x := s.mac m
  x.link && s.flag .EEE_CFG_EN m && x.eeeAble && x.partnerEee && x.lldpDone && !x.lpiStopped

/-- LPI_ENTER (02 R76, R77): all queues empty for longer than EEE_CFG.IDLE (in 100 ns), the wire idle. -/
def execLpiEnter (mac : Fin 64) (s : State) : Result :=
  let x := s.dev.mac mac.val
  s.runIf (s.dev.eeeActive mac.val && !x.txLpi && x.waking.isNone && x.wire.isNone && x.allEmpty &&
      s.dev.expired .ln x.emptySince (s.dev.fld .EEE_CFG_IDLE mac.val * 100))
    (fun d => (d.setMac mac.val { d.mac mac.val with txLpi := true }).count .MAC_LPI_ENTRIES mac.val)

/-- LPI_WAKE (02 R78): a frame arrives for a MAC in LPI; the MAC leaves LPI and holds transmission for TW_TX. -/
def execLpiWake (mac : Fin 64) (queue : Fin 4) (bytes : Nat) (s : State) : Result :=
  s.runIf (s.dev.mac mac.val).txLpi (fun d =>
    (d.creditSync mac.val).submitUnit 15 (mac.val / 8) (if queue.val = 3 then 1 else 0) bytes
      (.egress mac.val queue.val bytes))

/-- LPI_WAKE_END (02 R78). -/
def execLpiWakeEnd (mac : Fin 64) (s : State) : Result :=
  let due := match (s.dev.mac mac.val).waking with
    | some t => decide (t < s.dev.nowOn .ln)
    | none => false
  s.runIf due (fun d => d.setMac mac.val { d.mac mac.val with waking := none })

/-- The partner's EEE TLV (02 R80): TW_TX follows its Receive Tw, never below the PHY's minimum, with event 105h; above
TW_MAX, low-power idle stops on the MAC with event 106h. -/
def Dev.lldpReceive (s : Dev) (m rx tx : Nat) : Dev :=
  let x := { s.mac m with lldpDone := true, echoTx := tx, echoRx := rx }
  let new := max rx x.twMin
  if rx = x.twTx then s.setMac m { x with lpiStopped := x.lpiStopped && decide (s.fld .EEE_CFG_TW_MAX m < rx) }
  else if s.fld .EEE_CFG_TW_MAX m < new then
    (s.setMac m { x with lpiStopped := true, txLpi := false }).event .ln 0x106 (le 1 m)
  else
    (s.setMac m { x with twTx := new, lpiStopped := false }).eventIf (new != x.twTx) .ln 0x105 (le 1 m ++ le 2 new)

/-- LLDP_EEE_TLV_RECEIVE (02 R80). -/
def execLldpEeeTlvReceive (mac : Fin 64) (receiveTw transmitTw : Nat) (s : State) : Result :=
  s.runIf (s.dev.mac mac.val).link (·.lldpReceive mac.val receiveTw transmitTw)

/-- LLDP_TRANSMIT (02 R79): on a MAC whose EEE is permitted by its configuration, its PHY and its partner. -/
def execLldpTransmit (mac : Fin 64) (s : State) : Result :=
  let x := s.dev.mac mac.val
  s.runIf (x.link && s.dev.flag .EEE_CFG_EN mac.val && x.eeeAble && x.partnerEee) (fun d =>
    (d.emit (.lldp mac.val x.twTx x.twMin x.twMin x.echoTx x.echoRx)).controlFrame mac.val 1 64)

end Sys2Proof.Machine
end

