-- ==== Sys2Proof/Machine/Tenants.lean ====
section
/-!
DEFINITION. The tenants (05): policing, egress scheduling and shaping, promotion, histograms, the meter's commands.
-/
namespace Sys2Proof.Machine

/-- The cost of a frame of `n` bytes (05 R202). -/
def Dev.cost (s : Dev) (n : Nat) : Nat := ((n : Int) + signed 7 (s.fld .TN_GLB_OVH)).toNat

/-- A refused tenancy configuration write (05 281h). -/
def Dev.tenancyRefused (s : Dev) (addr : Nat) : Dev := s.event .ln 0x281 (le 8 addr)

/-- A policer bucket now, in 1/256 byte: filled at `rate` Mb/s since its tick, up to its burst (05 R205, R210). -/
def bucketNow (value rate dt burstKib : Nat) : Nat := min (value + rate * 32 * dt / 1000) (burstKib * 1024 * 256)

/-- The shaper tokens of a tenant now, in 1/16 bit (05 R218-R220). -/
def Dev.tokensNow (s : Dev) (t : Nat) : Int :=
  let x := s.tn t
  if !s.flag .TN_CFG_SHP_EN t then x.tokens
  else
    let full : Int := (s.fld .TN_SBURST_BURST t : Int) * 1024 * 8 * 16
    min full (x.tokens + (s.fld .TN_SRATE_RATE t : Int) * 16 * ((s.nowOn .ln - x.shpAt : Nat) : Int) / 1000)

/-- Bring a tenant's shaper tokens up to now. -/
def Dev.tokensSync (s : Dev) (t : Nat) : Dev :=
  s.setTn t { s.tn t with tokens := s.tokensNow t, shpAt := s.nowOn .ln }

/-- A tenant is eligible (05 R212, R220). -/
def Dev.tnEligible (s : Dev) (t : Nat) : Bool := !s.flag .TN_CFG_SHP_EN t || decide (0 ≤ s.tokensNow t)

/-- Colours of the policer (05 R205). -/
inductive Colour where
  | green | yellow | red
  deriving DecidableEq, Repr

/-- Police one request packet of `bytes` on the wire and `extra` bytes of command data (05 R203-R209): its colour, and the
device after it. A red packet is counted with its cost; yellow bytes are counted. -/
def Dev.police (s : Dev) (t bytes extra : Nat) : Colour × Dev :=
  let b := s.cost bytes + extra
  if !s.flag .TN_CFG_POL_EN t then (.green, s.count .TN_POL_GREEN)
  else
    let x := s.tn t
    let now := s.nowOn .ln
    let tp := bucketNow x.tp (s.fld .TN_PIR_RATE t) (now - x.polAt) (s.fld .TN_PBS_BURST t)
    let tc := bucketNow x.tc (s.fld .TN_CIR_RATE t) (now - x.polAt) (s.fld .TN_CBS_BURST t)
    let b8 := b * 256
    if tp < b8 then
      let s := s.setTn t { x with tp := tp, tc := tc, polAt := now }
      let s := (s.count .TN_POL_RED).meterCount t (fun r => { r with dropPkts := r.dropPkts + 1, dropBytes := r.dropBytes + b })
      let reds := if s.ten.redTenants.contains t then s.ten.redTenants else s.ten.redTenants ++ [t]
      (.red, { s with ten := { s.ten with redTenants := reds } })
    else if tc < b8 then
      let s := s.setTn t { x with tp := tp - b8, tc := tc, polAt := now }
      (.yellow, (s.count .TN_POL_YELLOW).meterCount t (fun r => { r with yellow := r.yellow + b }))
    else
      let s := s.setTn t { x with tp := tp - b8, tc := tc - b8, polAt := now }
      (.green, s.count .TN_POL_GREEN)

/-- A write of TN_CFG (05 R200, R201): enabling fills the buckets, clears the deficits, opens the meter window at the next
tick; disabling is refused while the tenant is `busy`. The result tells whether it was applied. -/
def Dev.tnCfgWrite (s : Dev) (t : Nat) (busy enable pol shp : Bool) (weight : Nat) : Bool × Dev :=
  let old := s.flag .TN_CFG_ENABLE t
  if old && !enable && busy then (false, s.tenancyRefused (Reg.addr .TN_CFG))
  else
    let s := s.tokensSync t
    let s := s.setFld .TN_CFG_WEIGHT t (if weight = 0 then 1 else weight)
    let s := s.setFld .TN_CFG_POL_EN t pol.toNat
    let s := s.setFld .TN_CFG_SHP_EN t shp.toNat
    let s := s.setFld .TN_CFG_ENABLE t enable.toNat
    let s := if !old && enable then
        let now := s.nowOn .ln
        let s := s.setTn t { s.tn t with
          tc := s.fld .TN_CBS_BURST t * 1024 * 256, tp := s.fld .TN_PBS_BURST t * 1024 * 256, polAt := now
          tokens := (s.fld .TN_SBURST_BURST t : Int) * 1024 * 8 * 16, shpAt := now }
        let ds := s.ten.deficits.filter (fun e => e.1 % 1024 != t)
        let s := { s with ten := { s.ten with deficits := ds } }
        let s := s.meterRoll
        if s.metersRun && (s.ten.meter.opened.find t).isNone then s.meterOpen t (s.now + 1) else s
      else if old && !enable then
        let s := s.meterRoll
        match s.ten.meter.opened.find t with
        | some r => s.setMeter { s.ten.meter with opened := s.ten.meter.opened.insert t (r.flag flagTenantOff) }
        | none => s
      else s
    (true, s.eventIf (old != enable) .ln 0x280 (le 2 t))

/-- The tenant that TN_SEL selects. -/
def Dev.tnSel (s : Dev) : Nat := s.fld .TN_SEL_TENANT

/-- TENANT_ENABLE (05 R200). -/
def execTenantEnable (_req : Requester) (pol shp : Bool) (weight : Fin 256) (s : State) : Result :=
  s.run (fun d => d.regWrite (Reg.addr .TN_CFG) (fun d => (d.tnCfgWrite d.tnSel false true pol shp weight.val).2))

/-- A write of a policer register (05 R210): 0 CIR, 1 PIR, 2 CBS, 3 PBS; bursts below 4,096 KiB are stored as 4,096 KiB, a
write that makes CIR exceed PIR is discarded. The result tells whether it was applied. -/
def Dev.policerWrite (s : Dev) (t which v : Nat) : Bool × Dev :=
  let v := v % 2 ^ 24
  match which with
  | 0 => if s.fld .TN_PIR_RATE t < v then (false, s.tenancyRefused (Reg.addr .TN_CIR)) else (true, s.setFld .TN_CIR_RATE t v)
  | 1 => if v < s.fld .TN_CIR_RATE t then (false, s.tenancyRefused (Reg.addr .TN_PIR)) else (true, s.setFld .TN_PIR_RATE t v)
  | 2 => (true, s.setFld .TN_CBS_BURST t (max 4096 v))
  | _ => (true, s.setFld .TN_PBS_BURST t (max 4096 v))

/-- POLICER_CONFIG_WRITE (05 R210). -/
def execPolicerConfigWrite (_req : Requester) (which : Fin 4) (value : Word) (s : State) : Result :=
  s.run (fun d => d.regWrite (Reg.addr .TN_CIR) (fun d => (d.policerWrite d.tnSel which.val value.toNat).2))

/-- A class queue. -/
def Dev.classQueue (s : Dev) (m t c : Nat) : List TxFrame := s.ten.classQ.get [] (classKey m t c)

/-- A class is promoted (05 R221). -/
def Dev.isPromoted (s : Dev) (m t c : Nat) : Bool := (s.ten.promoted.get none (classKey m t c)).isSome

/-- A tenant's quantum (05 R214). -/
def Dev.quantum (s : Dev) (t : Nat) : Nat := s.fld .TN_CFG_WEIGHT t * 4096

/-- The class of a tenant's next frame for EQ2: a promoted class before urgent (05 R213). -/
def Dev.eq2Class (s : Dev) (m t : Nat) : Option Nat :=
  ([1, 2, 3].find? (fun c => s.isPromoted m t c && !(s.classQueue m t c).isEmpty)) <|>
    (if (s.classQueue m t 0).isEmpty then none else some 0)

/-- The class of a tenant's next frame for EQ3, by strict priority (05 R215). -/
def Dev.eq3Class (s : Dev) (m t : Nat) : Option Nat :=
  [1, 2, 3].find? (fun c => !s.isPromoted m t c && !(s.classQueue m t c).isEmpty)

/-- Tenants with frames waiting on a MAC for which `p` gives a class, eligible ones only (05 R212). -/
def Dev.candidates (s : Dev) (m : Nat) (p : Nat → Option Nat) : List Nat :=
  let ts := (s.ten.classQ.keys.filter (fun k => k / 4096 == m)).map (fun k => k / 4 % 1024)
  ts.eraseDups.filter (fun t => (p t).isSome && s.tnEligible t)

/-- The first tenant after `last` in round robin. -/
def afterTurn (last : Nat) (ts : List Nat) : Option Nat :=
  (ts.find? (fun t => last < t)) <|> ts.head?

/-- A deficit (05 R214). -/
def Dev.deficit (s : Dev) (m t : Nat) : Int := s.ten.deficits.get 0 (m * 1024 + t)

/-- Change a deficit. -/
def Dev.setDeficit (s : Dev) (m t : Nat) (v : Int) : Dev :=
  { s with ten := { s.ten with deficits := s.ten.deficits.put 0 (m * 1024 + t) v } }

/-- Take the head frame of a class queue and put it into EQ2 or EQ3; its cost is charged to the shaper at release, and the
next head's wait clock starts (05 R217, R221). -/
def Dev.releaseHead (s : Dev) (m t c q : Nat) : Dev :=
  match s.classQueue m t c with
  | [] => s
  | f :: rest =>
    let k := classKey m t c
    let cq := s.ten.classQ.put [] k rest
    let hs := s.ten.heads.put 0 k (if rest.isEmpty then 0 else s.nowOn .ln)
    let s := { s with ten := { s.ten with classQ := cq, heads := hs } }
    let s := if s.flag .TN_CFG_SHP_EN t then
        let s := s.tokensSync t
        s.setTn t { s.tn t with tokens := (s.tn t).tokens - (s.cost f.bytes : Int) * 128 }
      else s
    s.pushEgress m q f

/-- Release into EQ2 (05 R213, R214, R222): a promoted class is demoted once it has sent the quantum or its queue is empty; a
tenant whose three queues are empty has its deficit set to 0. -/
def Dev.releaseEq2 (s : Dev) (m : Nat) : Dev :=
  match afterTurn (s.ten.turn2.get 0 m) (s.candidates m (s.eq2Class m)) with
  | none => s
  | some t =>
    let c := (s.eq2Class m t).getD 0
    let n := ((s.classQueue m t c).head?.map (fun f => s.cost f.bytes)).getD 0
    let k := classKey m t c
    let s := s.releaseHead m t c 2
    let turns := s.ten.turn2.put 0 m t
    let promo := match s.ten.promoted.get none k with
      | some sent =>
        if s.quantum t ≤ sent + n || (s.classQueue m t c).isEmpty then s.ten.promoted.put none k none
        else s.ten.promoted.put none k (some (sent + n))
      | none => s.ten.promoted
    let s : Dev := { s with ten := { s.ten with turn2 := turns, promoted := promo } }
    if [1, 2, 3].all (fun c => (s.classQueue m t c).isEmpty) then s.setDeficit m t 0 else s

/-- Cost of a tenant's next EQ3 frame. -/
def Dev.eq3Cost (s : Dev) (m t : Nat) : Nat :=
  match s.eq3Class m t with
  | some c => ((s.classQueue m t c).head?.map (fun f => s.cost f.bytes)).getD 0
  | none => 0

/-- The deficit-weighted round robin (05 R214): the tenant in its turn sends while its deficit allows; else the next tenant is
visited and its deficit grows by its quantum. `n` bounds the visits. -/
def Dev.dwrr (s : Dev) (m : Nat) (ts : List Nat) : Nat → Option Nat → Option (Nat × Dev)
  | 0, _ => none
  | n + 1, cur =>
    let stay := match cur with
      | some t => ts.contains t && decide ((s.eq3Cost m t : Int) ≤ s.deficit m t)
      | none => false
    match cur, stay with
    | some t, true => some (t, s)
    | _, _ =>
      match afterTurn (cur.getD (1023)) ts with
      | none => none
      | some t => Dev.dwrr (s.setDeficit m t (s.deficit m t + s.quantum t)) m ts n (some t)

/-- Release into EQ3 (05 R214, R215, R217): the frame lowers the tenant's deficit by its cost; a tenant whose three queues
are empty has its deficit set to 0. -/
def Dev.releaseEq3 (s : Dev) (m : Nat) : Dev :=
  let ts := s.candidates m (s.eq3Class m)
  match s.dwrr m ts (ts.length * 4 + 4) (s.ten.turn3.get none m) with
  | none => s
  | some (t, s) =>
    match s.eq3Class m t with
    | none => s
    | some c =>
      let n := s.eq3Cost m t
      let s := s.releaseHead m t c 3
      let idle := [1, 2, 3].all (fun c => (s.classQueue m t c).isEmpty)
      let s := s.setDeficit m t (if idle then 0 else s.deficit m t - n)
      let turns := s.ten.turn3.put none m (if idle then none else some t)
      { s with ten := { s.ten with turn3 := turns } }

/-- FRAME_RELEASE (05 R212-R217): the scheduler releases one frame into EQ2 or EQ3 of a MAC while that queue holds fewer than
two. -/
def execFrameRelease (mac : Fin 64) (eq3 : Bool) (s : State) : Result :=
  s.runIf (s.dev.dataPath && !s.dev.isolated 15 && (s.dev.mac mac.val).link &&
      decide (((s.dev.mac mac.val).queue (if eq3 then 3 else 2)).length < 2)) (fun d =>
    if eq3 then d.releaseEq3 mac.val else d.releaseEq2 mac.val)

/-- TENANT_ELIGIBLE (05 R212, R218): the tenant's bucket has filled to 0 or more; its tokens are brought up to this tick. -/
def execTenantEligible (tenant : Fin 1024) (s : State) : Result :=
  s.runIf (s.dev.flag .TN_CFG_SHP_EN tenant.val && decide (0 ≤ s.dev.tokensNow tenant.val)) (·.tokensSync tenant.val)

/-- CLASS_PROMOTION (05 R221): a head frame of a latency, throughput or background queue has waited beyond its class's
deadline. -/
def execClassPromotion (mac : Fin 64) (tenant : Fin 1024) (cls : Fin 4) (s : State) : Result :=
  let k := classKey mac.val tenant.val cls.val
  s.runIf (decide (cls.val ≠ 0) && !(s.dev.classQueue mac.val tenant.val cls.val).isEmpty &&
      !s.dev.isPromoted mac.val tenant.val cls.val &&
      s.dev.expired .ln (s.dev.ten.heads.get 0 k) (s.dev.classDeadline cls.val)) (fun d =>
    let p := d.ten.promoted.put none k (some 0)
    ({ d with ten := { d.ten with promoted := p } } : Dev).count .TN_PROMOTIONS)

/-- The bin of a depth in cells (05 Histogram bins). -/
def depthBin (n : Nat) : Nat := if n = 0 then 0 else if n < 2 then 1 else min 31 (Nat.log2 n + 1)

/-- The bin of a delay in ns, none for an empty queue (05 Histogram bins). -/
def delayBin : Option Nat → Nat
  | none => 0
  | some d => if d < 64 then 1 else min 31 (Nat.log2 d - 4)

/-- Key of a histogram bin. -/
def histKey (kind t c bin : Nat) : Nat := ((kind * 1024 + t) * 4 + c) * 32 + bin

/-- A bin counts one sample, stopping at FFFF_FFFFh (05 R226). -/
def Dev.histAdd (s : Dev) (kind t c bin : Nat) : Dev :=
  let k := histKey kind t c bin
  let h := s.ten.hist.put 0 k (sat 0xFFFFFFFF (s.ten.hist.get 0 k + 1))
  { s with ten := { s.ten with hist := h } }

/-- Depth of a tenant's class over all MACs, in cells (05 R225). -/
def Dev.classDepth (s : Dev) (t c : Nat) : Nat :=
  ((s.ten.classQ.filter (fun e => e.1 % 4 == c && e.1 / 4 % 1024 == t)).map
    (fun e => (e.2.map (fun f => ceilDiv f.bytes 256)).sum)).sum

/-- The longest wait of a head frame of a tenant's class over all MACs (05 R225). -/
def Dev.classDelay (s : Dev) (t c : Nat) : Option Nat :=
  (((s.ten.classQ.filter (fun e => e.1 % 4 == c && e.1 / 4 % 1024 == t && !e.2.isEmpty)).map
    (fun e => s.nowOn .ln - s.ten.heads.get 0 e.1)).max?)

/-- HISTOGRAM_SAMPLE (05 R225): at every tick that is a multiple of 1,000 ns. -/
def execHistogramSample (s : State) : Result :=
  s.runIf (s.dev.mode.diesUp && !s.dev.isolated 15 && s.dev.nowOn .ln % 1000 == 0) (fun d =>
    d.enabledTenants.foldl (fun x t =>
      [0, 1, 2, 3].foldl (fun x c =>
        (x.histAdd 0 t c (depthBin (d.classDepth t c))).histAdd 1 t c (delayBin (d.classDelay t c))) x) d)

/-- HIST_BIN_READ (05 HIST_BIN, R226): the bin of the selected histogram, cleared by the read. -/
def execHistBinRead (req : Requester) (bin : Fin 32) (s : State) : Result :=
  s.run (fun d => d.regRead req (Reg.addr .HIST_BIN bin.val) (fun d =>
    let k := histKey (d.fld .HIST_SEL_KIND) (d.fld .HIST_SEL_TENANT) (d.fld .HIST_SEL_CLASS) bin.val
    let h := d.ten.hist.put 0 k 0
    (d.ten.hist.get 0 k, { d with ten := { d.ten with hist := h } })))

/-- METER_WINDOW_END (05 R229): the records of the windows that have ended are written; `failed` are the tenants whose
record's ledger write fails twice (R240). -/
def execMeterWindowEnd (failed : List Nat) (s : State) : Result :=
  s.run (fun d => d.meterRoll.meterWriteAll failed)

/-- METER_CHECKPOINT (05 R233, R234): at multiples of 1 s of device time. -/
def execMeterCheckpoint (s : State) : Result :=
  s.runIf (s.dev.metersRun && s.dev.now % sec == 0) (fun d =>
    let d := d.meterRoll
    let m := d.ten.meter
    let d := d.setMeter { m with checkpoint := ⟨m.opened, m.seq, d.now⟩ }
    { d with ldg := { d.ldg with timeMark := d.now + 2 * sec } })

/-- A write of MTR_KEY.KEY_ID (05 R237): in force from the next window boundary. -/
def Dev.mtrKeyWrite (s : Dev) (k : Nat) : Dev :=
  let s := s.meterRoll
  let s := s.setFld .MTR_KEY_KEY_ID 0 k
  if k = s.ten.meter.keyId then s.setMeter { s.ten.meter with keyNext := none }
  else s.setMeter { s.ten.meter with keyNext := some (k, windowEnd s.now) }

/-- METER_KEY_SELECT (05 R237). -/
def execMeterKeySelect (_req : Requester) (keyId : Fin 64) (s : State) : Result :=
  s.run (fun d => d.regWrite (Reg.addr .MTR_KEY) (·.mtrKeyWrite keyId.val))

/-- The address of a MTR_EXP_BASE. -/
def Dev.exportBase (s : Dev) : Nat := s.fld .MTR_EXP_BASE_HI_ADDR * 2 ^ 32 + s.fld .MTR_EXP_BASE_LO_ADDR * 4096

/-- METER_EXPORT_RECORD (05 R242, 13 R534, R541): the oldest record not yet exported goes to the host ring while it has room;
MTR_EXP_WR advances once it is there. -/
def execMeterExportRecord (s : State) : Result :=
  s.runIf (s.dev.dataPath && s.dev.flag .MTR_EXP_CTL_EN && (s.dev.epFn 1).busMaster &&
      decide (0 < s.dev.ten.meter.unexported) &&
      decide ((s.dev.ten.meter.expWr + 2 ^ 32 - s.dev.fld .MTR_EXP_RD_INDEX) % 2 ^ s.dev.fld .MTR_EXP_CTL_SIZE_LOG2 <
        2 ^ s.dev.fld .MTR_EXP_CTL_SIZE_LOG2 - 1)) (fun d =>
    let m := d.ten.meter
    let slot := (m.head + meterRing - m.unexported) % meterRing
    let addr := d.exportBase + m.expWr % 2 ^ d.fld .MTR_EXP_CTL_SIZE_LOG2 * 128
    let d := d.emit (.hostWrite (BitVec.ofNat 64 addr) (m.ring.get {} slot).bytes)
    (d.setMeter { m with expWr := (m.expWr + 1) % 2 ^ 32, unexported := m.unexported - 1 }).irqSource 2)

end Sys2Proof.Machine
end

