-- ==== Sys2Proof/Machine/RdmaOps.lean ====
section
/-!
DEFINITION. The RDMA transport (03): queue pairs, packets sent, acknowledgement and credits, requests of the device, and the
windows' bytes.
-/
namespace Sys2Proof.Machine

/-- A queue pair. -/
def Dev.qp (s : Dev) (i : Nat) : Qp := s.rdma.qps.get {} i

/-- Change a queue pair. -/
def Dev.setQp (s : Dev) (i : Nat) (q : Qp) : Dev := { s with rdma := { s.rdma with qps := s.rdma.qps.put {} i q } }

/-- The transport region works (01 R20). -/
def Dev.transportUp (s : Dev) : Bool := s.dataPath && !s.isolated 13

/-- QPN of a queue-pair index, and how many queue pairs there are (03 R92). -/
def qpnOf (i : Nat) : Nat := 0x10000 + i
def qpCount : Nat := 66560

/-- PSNs have 24 bits (03 Sequence, acknowledgement and retry). -/
def psnAdd (a n : Nat) : Nat := (a + n) % 2 ^ 24
def psnSub (a n : Nat) : Nat := (a + (2 ^ 24 - n % 2 ^ 24)) % 2 ^ 24

/-- A PSN does not come after another. -/
def psnLe (a b : Nat) : Bool := decide (psnSub b a < 2 ^ 23)

/-- Credits of a code, codes 0 to 24 (03 AETH credit codes). -/
def creditTable : List Nat :=
  [0, 1, 2, 3, 4, 6, 8, 12, 16, 24, 32, 48, 64, 96, 128, 192, 256, 384, 512, 768, 1024, 1536, 2048, 3072, 4096]
def creditsOf (c : Nat) : Nat := if c < 25 then creditTable.getD c 0 else [6144, 8192, 12288, 16384, 24576, 32768].getD (c - 25) 0

/-- Receive slots a queue pair holds: in RTR and RTS its reserve, or those in use and those committed (03 R110, R111). -/
def Qp.held (q : Qp) : Nat :=
  match q.st with
  | .rtr => max q.reserve (q.inUse + (q.limit - q.msn))
  | .rts => max q.reserve (q.inUse + (q.limit - q.msn))
  | _ => q.inUse

/-- RD_SLOTS.SHARED_FREE: slots neither reserved nor committed (03 R110). -/
def Dev.slotsFree (s : Dev) : Nat := 524288 - (s.rdma.qps.map (fun e => e.2.held)).sum

/-- The credit code of an ACK (03 R111): the largest entry that can be committed, and no lower a limit than one already sent. -/
def Dev.creditCode (s : Dev) (q : Qp) : Nat :=
  let can := min (q.depth - q.inUse) (q.held - q.inUse + s.slotsFree)
  let best := (creditTable.filter (fun n => decide (n ≤ can))).length - 1
  let need := q.limit - q.msn
  if creditsOf best < need then ((List.range 25).find? (fun c => decide (need ≤ creditsOf c))).getD 24 else best

/-- Bytes of a packet's headers: Ethernet, VLAN tag, IP, UDP, BTH, ICRC and FCS (02, 03 R95). -/
def Dev.packetHeader (s : Dev) (q : Qp) : Nat :=
  62 + (if q.v4 then 0 else 20) + (if s.fld .MAC_VLAN_VID q.mac = 0 then 0 else 4)

/-- A packet of a queue pair goes, over an input of the switch and in a class, to the tenant's queue at its MAC (05 Class of a frame,
Egress scheduling; 06 R244); `extra` bytes follow the headers. -/
def Dev.sendFrame (s : Dev) (i cls input extra : Nat) : Dev :=
  let q := s.qp i
  let n := s.packetHeader q + extra
  (s.count .RD_TX_PKTS).submitUnit input (q.mac / 8) cls n (.classQueue q.mac q.tenant cls n)

/-- An ACK (03 R104, R105, R110, R111) with the credits it grants. -/
def Dev.sendAck (s : Dev) (i psn : Nat) : Dev :=
  let q := s.qp i
  let live := decide (q.st = .rtr) || decide (q.st = .rts)
  let c := if live then s.creditCode q else q.sentCode
  let limit := if live then max q.limit (q.msn + creditsOf c) else q.limit
  let s := s.setQp i { q with sentCode := c, limit := limit, unacked := 0, ackAt := none }
  (s.sendFrame i 0 15 4).emit (.rdmaAck (qpnOf i) psn (q.msn % 2 ^ 24) c)

/-- The PSN an ACK of what has been executed carries: before the oldest FLUSH not yet answered (03 R128). -/
def Dev.ackPsn (s : Dev) (i : Nat) : Nat :=
  let q := s.qp i
  match q.flushes with
  | f :: _ => psnSub f.psn 1
  | [] => psnSub q.ePsn 1

/-- NAK codes (03; the numbers of the RC service, assumption 19). -/
def nakSeq : Nat := 0
def nakInvalid : Nat := 1
def nakAccess : Nat := 2
def nakOp : Nat := 3

/-- A NAK. -/
def Dev.sendNak (s : Dev) (i psn code : Nat) : Dev := (s.sendFrame i 0 15 4).emit (.rdmaNak (qpnOf i) psn code)

/-- An RNR NAK with RNR_TIMER (03 R102, R112). -/
def Dev.sendRnr (s : Dev) (i psn : Nat) : Dev :=
  ((s.count .RD_RNR_SENT).sendFrame i 0 15 4).emit (.rdmaRnr (qpnOf i) psn (s.fld .RD_CFG_RNR_TIMER))

/-- A queue pair leaves RTS or RTR for a state in which it executes no request: what it had begun to receive is abandoned, its
reserved cells return (03 R136; 06 R256). -/
def Dev.qpLeave (s : Dev) (i : Nat) (st : QpSt) : Dev :=
  let q := s.qp i
  let s := s.setQp i { q with st := st, since := s.nowOn .ln, writeMsg := none, sendMsg := none, ackAt := none, closing := none
                              flushes := if st = .draining then q.flushes else [], rnrUntil := if st = .draining then q.rnrUntil else none }
  s.releaseReads (fun a _ => a == i)

/-- A queue pair enters ERROR (03 R100). -/
def Dev.qpError (s : Dev) (i : Nat) : Dev :=
  match (s.qp i).st with
  | .rtr => s.qpLeave i .error
  | .rts => s.qpLeave i .error
  | .draining => s.qpLeave i .error
  | _ => s

/-- A queue pair drains (03 R100): RTS to DRAINING; `dreq` that the device sends the DREQ. -/
def Dev.qpDrain (s : Dev) (i : Nat) (dreq : Bool) : Dev :=
  if (s.qp i).st = .rts then
    let s := s.qpLeave i .draining
    if dreq then s.emit (.cmDreq (qpnOf i)) else s
  else s

/-- A request that makes its queue pair enter ERROR (03 R98, R124, R132, Transport errors): NAK, counter, event. -/
def Dev.requestError (s : Dev) (i psn code : Nat) (c : Ctr) (ev : Dev → Dev) : Dev :=
  (ev ((s.count c).sendNak i psn code)).qpError i

/-- NAK Invalid Request (03 R98), event 180h with the QPN; its cause's number is free. -/
def Dev.nakInvalidReq (s : Dev) (i psn : Nat) : Dev :=
  s.requestError i psn nakInvalid .RD_NAK_INV_SENT (fun s => s.eventOpenCause .ln 0x180 (le 4 (qpnOf i)))

/-- The local ACK timer in ns (03 R106). -/
def Dev.ackTimeout (s : Dev) : Nat := 4096 * 2 ^ s.fld .RD_CFG_ACK_TO_EXP

/-- Bytes of a request packet after the headers: RETH and payload, or a completion capsule. -/
def requestExtra (k : WrKind) (payload : Nat) (first inval : Bool) : Nat :=
  match k with
  | .read => 16
  | .write => (if first then 16 else 0) + payload
  | .send => 16 + (if inval then 4 else 0)

/-- The packets of a request go out: one for a READ or a SEND, one for each MTU of a WRITE. -/
def Dev.sendRequest (s : Dev) (i cls input : Nat) (w : WorkReq) : Dev :=
  let q := s.qp i
  match w.kind with
  | .write => (List.range w.count).foldl (fun s k =>
      s.sendFrame i cls input (requestExtra .write (min q.mtu (w.bytes - k * q.mtu)) (k == 0) false)) s
  | k => s.sendFrame i cls input (requestExtra k 0 true (w.cap.any (fun c => c.inval.isSome)))

/-- A request of the device takes the next PSNs (03 R106, R109, R115): a READ those of its responses. -/
def Dev.issueRequest (s : Dev) (i cls input : Nat) (kind : WrKind) (cmd bytes : Nat) (cap : Option Capsule) : Dev :=
  let q := s.qp i
  let n := match kind with
    | .send => 1
    | _ => max 1 (ceilDiv bytes q.mtu)
  let w : WorkReq := { kind := kind, cmd := cmd, psn := q.nPsn, count := n, bytes := bytes, cap := cap }
  let s := s.setQp i { q with nPsn := psnAdd q.nPsn n, out := q.out ++ [w], sent := q.sent + 1
                              timerAt := if q.out.isEmpty then s.nowOn .ln else q.timerAt
                              retries := if q.out.isEmpty then 0 else q.retries }
  s.sendRequest i cls input w

/-- Packets of a request still to be acknowledged. -/
def WorkReq.left (w : WorkReq) (mtu : Nat) : Nat := match w.kind with
  | .read => 1
  | .write => ceilDiv w.bytes mtu
  | .send => 1

/-- Everything not acknowledged from a PSN is sent again, rebuilt (03 R106; 06 R260). -/
def Dev.resend (s : Dev) (i : Nat) : Dev :=
  let q := s.qp i
  match q.out with
  | [] => s
  | w :: _ =>
    let n := (q.out.map (fun w => w.left q.mtu)).sum
    let s := s.setQp i { q with timerAt := s.nowOn .ln, rnrUntil := none }
    let s := (q.out.foldl (fun s w => s.sendRequest i 1 15 w) s).count .RD_TX_RETRANS 0 n
    s.emit (.rdmaResend (qpnOf i) (psnAdd w.psn (w.got / q.mtu)))

/-- A window slot. -/
def Dev.window (s : Dev) (k : Nat) : Window := s.rdma.wins.get {} k

/-- Change a window slot. -/
def Dev.setWindow (s : Dev) (k : Nat) (w : Window) : Dev :=
  { s with rdma := { s.rdma with wins := s.rdma.wins.put {} k w } }

/-- The windows can be reached in this mode (03 R131, 17 Modes). -/
def Dev.windowsServed (s : Dev) : Bool :=
  match s.modeNow with
  | .service => true | .quiesce => true
  | .contained => !s.commissionHolds
  | _ => false

/-- The key check (03 R120, R123): the slot's state and TAG, the tenants, a right, the range. -/
def Dev.keyCheck (s : Dev) (q : Qp) (rkey va len : Nat) (right : Fld) : Bool :=
  let k := rkey % 4096
  let w := s.window k
  decide (w.st = .valid) && s.windowsServed && decide (w.tag = rkey / 4096) && q.ctrl.isSome &&
    decide (q.tenant = s.fld .WIN_CFG_TENANT k) && s.flag right k && decide (va + len ≤ s.fld .WIN_CFG_LEN k * 4096)

/-- Ledger lines of a range of a window slot. -/
def windowLines (slot off len : Nat) : List Nat :=
  let a := windowAddr slot off / 64
  (List.range (if len = 0 then 0 else (windowAddr slot off + len - 1) / 64 + 1 - a)).map (· + a)

/-- A range of a window cannot be had: its die has failed or a line of it is lost (09 R355, R395). -/
def Dev.windowBroken (s : Dev) (slot off len : Nat) : Bool :=
  !s.ldg.dieOk.contains (s.segPlace (windowAddr slot off / 65536) / 4096) ||
  (windowLines slot off len).any (fun l => s.ldg.lostLines.contains l)

/-- A tenant's window bytes are metered (05 Metered quantities). -/
def Dev.meterWin (s : Dev) (t n : Nat) : Dev := s.meterCount t (fun r => { r with win := r.win + n })

/-- Bytes placed in a window, not yet durable (03 R126, R127, R130; 09 R385, R387). -/
def Dev.placeBytes (s : Dev) (i slot off : Nat) (data : List Byte) (atom : Option Nat) : Dev :=
  let base := slot * 65536 + off
  let mem := data.zipIdx.foldl (fun t e => Table.put t 0 (base + e.2) e.1) s.rdma.mem
  let placed := s.rdma.placed ++ data.zipIdx.map (fun e => ⟨i, base + e.2, e.1, atom⟩)
  let s := { s with rdma := { s.rdma with mem := mem, placed := placed } }
  let w := s.ldg.wear
  let n := (windowLines slot off data.length).length
  let writes := w.windowWrites.put 0 slot (w.windowWrites.get 0 slot + n)
  let s := { s with ldg := { s.ldg with wear := { w with windowWrites := writes } } }
  (s.ledgerWear (windowAddr slot off) data.length).meterWin (s.qp i).tenant data.length

/-- Placed bytes become durable (03 R126, R128, R130): those for which `p` holds, with the whole of an ATOMIC WRITE they belong to,
and every earlier byte at the same place. -/
def Dev.makeDurable (s : Dev) (p : WinByte → Bool) : Dev :=
  let atoms := (s.rdma.placed.filter p).filterMap (·.atom)
  let hit := fun (b : WinByte) => p b || b.atom.any (fun a => atoms.contains a)
  let go := s.rdma.placed.filter hit
  let durable := go.foldl (fun t b => Table.put t 0 b.addr b.value) s.rdma.durable
  let last := fun (a : Nat) => ((s.rdma.placed.zipIdx.filter (fun e => hit e.1 && e.1.addr == a)).map Prod.snd).getLast?
  let keep := s.rdma.placed.zipIdx.filter (fun e => !hit e.1 && match last e.1.addr with
    | some k => decide (k < e.2)
    | none => true)
  { s with rdma := { s.rdma with durable := durable, placed := keep.map Prod.fst } }

/-- Bytes of a window as a READ returns them. -/
def Dev.windowRead (s : Dev) (slot off len : Nat) : List Byte :=
  (List.range len).map (fun n => s.rdma.mem.get 0 (slot * 65536 + off + n))

/-- Queue pairs with an access admitted to a window slot and not yet ended (03 R134, R136). -/
def Dev.windowUsers (s : Dev) (k : Nat) : List Nat :=
  (s.rdma.qps.filter (fun e => e.2.writeMsg.any (fun m => m.slot == k) || e.2.flushes.any (fun f => f.slot == k))).map Prod.fst

end Sys2Proof.Machine
end

