-- ==== Sys2Proof/Machine/Jobs.lean ====
section
/-!
DEFINITION. Member states and identification (10 R397-R407), spares (R408-R412), passes (R413-R424), member commands (R441).
-/
namespace Sys2Proof.Machine

/-- Background jobs run: in SERVICE, and in CONTAINED where their pier runs (17 Modes). -/
def Dev.jobsRun (s : Dev) (v : Nat) : Bool :=
  (s.modeNow == .service || s.modeNow == .contained) && !s.recoveringAny && s.pierUp (s.volPier v)

/-- The stamp a reader uses of two copies (10 R401). -/
def pickStamp (a b : Option StampCopy) : Option StampCopy :=
  match a, b with
  | some x, some y => if x.gen < y.gen ∨ (x.gen = y.gen ∧ x.rsSeq < y.rsSeq) then some y else some x
  | some x, none => some x
  | none, b => b

/-- A target joins a volume's pass at its cursor, or starts one at stripe 0 (10 R416, R423): event 364h with the targets and the
join point. -/
def Dev.joinPass (s : Dev) (v m : Nat) (resync : Option (List Nat)) : Dev :=
  let x := s.vol v
  let p := x.pass.getD { waiting := true }
  let ts := p.targets.filter (fun t => t.index != m) ++ [{ index := m, resync := resync, join := p.cursor }]
  let s := s.setVol v { x with pass := some { p with targets := ts } }
  let s := (s.checkpoint v).fillPlaces (s.volPier v)
  s.event (pierDie (s.volPier v)) 0x364 (le 1 v ++ le 4 (bitmap (ts.map (·.index))) ++ le 8 p.cursor)

/-- Change a member's entry and its drive's state, event 360h (10 R398). -/
def Dev.memberBack (s : Dev) (v m k : Nat) (st : MState) : Dev :=
  let x := s.vol v
  let e := x.members.get {} m
  let ms := x.members.insert m { e with st := st, slot := k, missingAt := none, noSpare := false }
  let dr := s.drive k
  let s := (s.setVol v { x with members := ms }).setDrive k { dr with st := st, volume := v, index := m }
  s.event (pierDie (slotLanes k)) 0x360 (le 1 k) st.code

/-- A member identified in another slot (10 R405): VOL_MEMBER and the entry follow it; its old slot, if it still shows the member,
has no drive. -/
def Dev.memberMoved (s : Dev) (v m k : Nat) : Dev :=
  let old := (s.mem v m).slot
  if old = k then s
  else
    let x := s.vol v
    let e := x.members.get {} m
    let ms := x.members.insert m { e with slot := k }
    let s := (s.setVol v { x with members := ms }).setFld .VOL_MEMBER_SLOT (memberInst v m) k
    let dr := s.drive old
    if dr.volume = v ∧ dr.index = m ∧ dr.st = .missing then s.driveState old .noDrive else s

/-- What a stamp tells of the drive that carries it (10 table Identification). -/
inductive Identity where
  | spare
  | foreign
  | member (v m : Nat) (back : Bool)
  deriving DecidableEq, Repr

/-- Identification of a stamp (10 R405). `back` that the entry shows missing. -/
def Dev.identity (s : Dev) : Option StampCopy → Identity
  | none => .spare
  | some c =>
    if !(s.volumes.any (fun v => (s.vol v).uuid == c.uuid)) then .foreign
    else
      let x := s.vol c.volume
      match x.members.find c.index with
      | none => .spare
      | some e =>
        if x.uuid ≠ c.uuid ∨ x.st = .none then .spare
        else match e.st with
        | .failed => .foreign
        | .missing => if c.gen = e.gen ∨ c.gen = e.gen + 1 then .member c.volume c.index true else .spare
        | .online => if c.gen = x.gen ∨ c.gen + 1 = x.gen then .member c.volume c.index false else .spare
        | .rebuilding => if c.gen = x.gen ∨ c.gen + 1 = x.gen then .member c.volume c.index false else .spare
        | _ => .spare

/-- The index whose drive a slot was, when it now shows it missing, is left missing and the slot has no drive (10 R398). -/
def Dev.slotForget (s : Dev) (k : Nat) : Dev := if (s.drive k).st = .missing then s.driveState k .noDrive else s

/-- DRIVE_IDENTIFY (10 R398, R400, R401, R405, R416): a drive that is ready, in a slot that shows no drive or a missing member, is
identified by its stamp copies. -/
def execDriveIdentify (slot : Fin 24) (copy0 copy1 : Option StampCopy) (s : State) : Result :=
  let k := slot.val
  s.run (fun d =>
    let st := (d.drive k).st
    if (d.shelf.slots.get {} k).st != .on || !(d.slotPorts k).any (fun n => (d.port n).ready) || (st != .noDrive && st != .missing) || !d.ldg.stateLoaded then d
    else
      let c := pickStamp copy0 copy1
      let stamp : Option Stamp := c.map (fun c => ⟨c.uuid, c.volume, c.index, c.target, c.gen⟩)
      let d := d.setDrive k { d.drive k with stamp := stamp }
      match d.identity c with
      | .spare => (d.slotForget k).driveState k .spare
      | .foreign => (d.slotForget k).driveState k .foreign
      | .member v m back =>
        let own := decide ((d.drive k).volume = v) && decide ((d.drive k).index = m)
        let d := if own then d else d.slotForget k
        let moved := (d.mem v m).slot != k
        let d := d.memberMoved v m k
        let x := d.vol v
        if back then
          let full := (c.map (·.target)).getD false
          let st := if !full && x.absent.isEmpty then MState.online else MState.rebuilding
          let d := d.memberBack v m k st
          let d := if st = .online then d else d.joinPass v m (if full then none else some x.absent)
          let d := if moved then d.genAdvance v
            else d.memberCmd { write := true, slot := k, volume := v, member := m, unit := 0, use := .stamp v m (d.vol v).gen }
          d.settleVol v
        else
          let d := d.memberBack v m k (d.mem v m).st
          if moved then d.genAdvance v
          else d.memberCmd { write := true, slot := k, volume := v, member := m, unit := 0, use := .stamp v m (d.vol v).gen })

/-- The spare for an index (10 R410): the lowest slot whose format and data area suit the volume. -/
def Dev.spareFor (s : Dev) (v : Nat) : Option Nat :=
  (List.range 24).find? (s.spareFits (s.fld .VOL_CFG_MBS v) (s.vol v).cap)

/-- A spare may be assigned to a volume's members (10 R411). -/
def Dev.takesSpares (s : Dev) (v : Nat) : Bool :=
  match (s.vol v).st with
  | .optimal => true | .degraded => true | .critical => true
  | _ => false

/-- Assign a spare to an index (10 R398, R402, R410, R412): stamp with TARGET, VOL_MEMBER, GEN, a full rebuild; event 363h. With none
suitable the index waits, event 370h. -/
def Dev.assignSpare (s : Dev) (v m : Nat) : Dev :=
  let x := s.vol v
  let e := x.members.get {} m
  match s.spareFor v with
  | none =>
    if e.noSpare then s
    else
      let ms := x.members.insert m { e with noSpare := true }
      (s.setVol v { x with members := ms }).event (pierDie (s.volPier v)) 0x370 (s.memberDetail v m)
  | some k =>
    let old := e.slot
    let s := if (s.drive old).st = .missing ∧ (s.drive old).volume = v ∧ (s.drive old).index = m then s.driveState old .noDrive else s
    let ms := x.members.insert m { e with st := .rebuilding, slot := k, missingAt := none, noSpare := false }
    let dr := s.drive k
    let s := (s.setVol v { x with members := ms }).setDrive k { dr with st := .rebuilding, volume := v, index := m }
    let s := s.setFld .VOL_MEMBER_SLOT (memberInst v m) k
    let s := s.event (pierDie (s.volPier v)) 0x363 (s.memberDetail v m)
    (s.genAdvance v).joinPass v m none

/-- An index waits for a spare of the device's own accord (10 R408, R409): failed, or missing for longer than MISS_TO. -/
def Dev.spareDue (s : Dev) (v m : Nat) : Bool :=
  let e := s.mem v m
  s.takesSpares v && s.flag .RB_CFG_AUTO &&
  (decide (e.st = .failed) || (decide (e.st = .missing) && match e.missingAt with
    | some t => s.expired (pierDie (s.volPier v)) t (s.fld .RB_CFG_MISS_TO * sec)
    | none => true))

/-- Indices that wait, in the order they are served (10 R410). -/
def Dev.spareQueue (s : Dev) : List (Nat × Nat) :=
  [0, 1, 2].flatMap (fun l =>
    (s.volumes.filter (fun v => (s.vol v).level == l)).flatMap (fun v =>
      ((s.vol v).members.keys.filter (s.spareDue v)).map (fun m => (v, m))))

/-- An index is the first in the queue that a spare suits, or finds none. -/
def Dev.spareTurn (s : Dev) (v m : Nat) : Bool :=
  s.spareDue v m && ((s.spareFor v).isNone || (s.spareQueue.filter (fun e => (s.spareFor e.1).isSome)).head? == some (v, m))

/-- MISSING_TIMEOUT (10 R408, R409). -/
def execMissingTimeout (volume : Fin 64) (index : Fin 24) (s : State) : Result :=
  s.runIf (s.dev.pierUp (s.dev.volPier volume.val) && decide ((s.dev.mem volume.val index.val).st = .missing) &&
    s.dev.spareTurn volume.val index.val) (·.assignSpare volume.val index.val)

/-- SPARE_ASSIGN (10 R408, R410-R412). -/
def execSpareAssign (volume : Fin 64) (index : Fin 24) (s : State) : Result :=
  s.runIf (s.dev.pierUp (s.dev.volPier volume.val) && s.dev.spareTurn volume.val index.val) (·.assignSpare volume.val index.val)

/-- A member or reshape command refused (10 R425, R441): event 36Ah with the register's address; the failing check's code is free. -/
def Dev.jobRefused (s : Dev) (p : Nat) (r : Reg) : Dev := s.eventOpenCause (pierDie p) 0x36A (le 8 (Reg.addr r))

/-- Volume number under which the wipe of a foreign drive is tracked. -/
def noVolume : Nat := 64

/-- MEMBER_CMD.BUSY (10 R441): a wipe is running. -/
def Dev.memberCmdBusy (s : Dev) : Bool := s.reservedBusy noVolume

/-- A write of MEMBER_CMD on a slot (10 R441): `f` where `allowed`, else event 36Ah. -/
def Dev.memberCommand (s : Dev) (k : Nat) (allowed : Dev → Bool) (f : Dev → Dev) : Dev :=
  s.regWrite (s.pairAddr .MEMBER_CMD) (fun s =>
    let s := s.setFld .MEMBER_CMD_SLOT 0 k
    if !s.memberCmdBusy && allowed s then f s else s.jobRefused (slotLanes k) .MEMBER_CMD)

/-- FAIL would take the volume of a slot to FAILED (10 R441). -/
def Dev.failsVolume (s : Dev) (k : Nat) : Bool :=
  let x := s.drive k
  let v := x.volume
  decide (x.st = .online) && decide ((s.membersIn v [.online]).length ≤ (s.vol v).members.length - 2)

/-- MEMBER_FAIL_CMD (10 R398, R441). -/
def execMemberFailCmd (_req : Requester) (slot : Fin 24) (s : State) : Result :=
  let k := slot.val
  s.run (fun d => d.memberCommand k
    (fun d => (d.memberOf k).isSome && (d.drive k).st != .failed && (!d.failsVolume k || !d.flag .RB_CFG_AUTO))
    (fun d => match d.memberOf k with
      | some e => (d.memberFail e.1 e.2).regather
      | none => d))

/-- MEMBER_REPLACE (10 R408, R441): a spare for the missing member, now. -/
def execMemberReplace (_req : Requester) (slot : Fin 24) (s : State) : Result :=
  let k := slot.val
  s.run (fun d => d.memberCommand k
    (fun d => match d.memberOf k with
      | some e => decide ((d.drive k).st = .missing) && d.takesSpares e.1
      | none => false)
    (fun d => match d.memberOf k with
      | some e => d.assignSpare e.1 e.2
      | none => d))

/-- FOREIGN_CLEAR (10 R398, R407): both stamp copies are wiped and the drive is a spare; event 36Bh. -/
def execForeignClear (_req : Requester) (slot : Fin 24) (s : State) : Result :=
  let k := slot.val
  s.run (fun d => d.memberCommand k (fun d => decide ((d.drive k).st = .foreign)) (fun d =>
    let d := d.setDrive k { d.drive k with st := .spare, stamp := none, volume := 0, index := 0 }
    let d := [0, 2048].foldl (fun d u => d.reservedWrite noVolume u [k]) d
    d.event (pierDie (slotLanes k)) 0x36B (le 1 k)))

/-- The stripe at a volume unit, in the geometry that holds it (10 R435). -/
def Dev.stripeAt (s : Dev) (v a : Nat) : Bool × Nat :=
  let ng := s.unitNew v a
  (ng, a / (s.geom v ng).stripeUnits)

/-- The first unit after a stripe, kept to the boundary of a reshape. -/
def Dev.afterStripe (s : Dev) (v a : Nat) : Nat :=
  let k := s.stripeAt v a
  let n := (k.2 + 1) * (s.geom v k.1).stripeUnits
  match (s.vol v).reshape with
  | some r => if k.1 then min n r.bound else n
  | none => n

/-- A target has been round its set (10 R416, R420). -/
def Pass.targetDone (p : Pass) (t : Target) : Bool := t.wrapped && decide (t.join ≤ p.cursor)

/-- Targets for which the stripe at the cursor is not current (10 R413, R414). -/
def Dev.passNeeds (s : Dev) (v : Nat) (p : Pass) : List Nat :=
  let k := s.stripeAt v p.cursor
  ((p.targets.filter (fun t => !p.targetDone t && !s.targetCurrent v t k.1 k.2)).map (·.index)).filter (fun m =>
    decide (m < (s.geom v k.1).n))

/-- Move the cursor to the next stripe some target needs (10 R414, R416): at the last stripe it goes round to 0. -/
def Dev.passSeek (s : Dev) (v : Nat) : Nat → Dev
  | 0 => s
  | n + 1 =>
    let x := s.vol v
    match x.pass with
    | none => s
    | some p =>
      if p.targets.all p.targetDone then s
      else if s.volUnits v ≤ p.cursor then
        let ts := p.targets.map (fun t => { t with wrapped := true })
        (s.setVol v { x with pass := some { p with cursor := 0, targets := ts } }).passSeek v n
      else if (s.passNeeds v p).isEmpty then
        (s.setVol v { x with pass := some { p with cursor := s.afterStripe v p.cursor } }).passSeek v n
      else s

/-- The known plaintext of a row for a job (10 R417, R418): staged images, listed blocks as zero, what serving members give; nothing
of the members `without`. -/
def Dev.jobRow (s : Dev) (v : Nat) (r : RowRef) (without : List Nat) (blocks : List Fetched) : RowView :=
  let d := (s.geom v r.newGeo).d
  (List.range (d + 2)).map (fun x =>
    if without.contains (s.blockLoc v r x).1 then none
    else if decide (x < d) && s.listed v (s.rowUnit v r x) then some zeroUnit
    else match s.stagedAt v r x with
      | some i => some i.plain
      | none => (s.fetched v r blocks x).map Prod.fst)

/-- Data units a job deciphers of a row as its members give it (07 XTS_UNITS). -/
def Dev.fetchedUnits (s : Dev) (v : Nat) (r : RowRef) (without : List Nat) (blocks : List Fetched) : Nat :=
  ((List.range (s.geom v r.newGeo).d).map (fun x =>
    if without.contains (s.blockLoc v r x).1 || s.listed v (s.rowUnit v r x) || (s.stagedAt v r x).isSome then 0
    else match s.fetched v r blocks x with
      | some b => s.dataUnits v r x b.2
      | none => 0)).sum

/-- Strips of a row whose members serve but gave nothing: media errors (08 R335). -/
def Dev.unread (s : Dev) (v : Nat) (r : RowRef) (without : List Nat) (view : RowView) : List Nat :=
  (List.range view.length).filter (fun x =>
    (view.getD x none).isNone && !without.contains (s.blockLoc v r x).1 && s.memberServes v (s.blockLoc v r x).1 r.newGeo r.stripe)

/-- Count media errors of strips of a row (08 R335, R336). -/
def Dev.mediaErrors (s : Dev) (v : Nat) (r : RowRef) (xs : List Nat) : Dev :=
  xs.foldl (fun s x => (s.count .PAR_MEDIA_ERR (s.volPier v)).addMark (markMedia v (s.blockLoc v r x).1)) s

/-- Write a strip of a row to a member for a job. -/
def Dev.jobWrite (s : Dev) (v : Nat) (r : RowRef) (x : Nat) (plain : Block) (use : MUse) : Dev :=
  let l := s.blockLoc v r x
  (s.countXts (s.dataUnits v r x plain)).memberCmd
    { write := true, slot := (s.mem v l.1).slot, volume := v, member := l.1, unit := l.2, stored := s.sealBlock v r x plain, use := use }

/-- Close a row met by a job (08 R338): lost data blocks listed, the lost strips that serve, P and Q written under a row-close record. -/
def Dev.jobClose (s : Dev) (v : Nat) (r : RowRef) (view : RowView) : Dev :=
  let hand := (List.range view.length).filterMap (fun x =>
    (view.getD x none).map (fun b => (⟨r.newGeo, r.stripe, r.row, x, b, s.sealBlock v r x b⟩ : InHand)))
  s.closeRow v hand r

/-- A pass visits one row (10 R413, R417, R418): the targets' blocks are written, unreadable ones repaired, or the row is closed. -/
def Dev.passRow (s : Dev) (v : Nat) (targets : List Nat) (blocks : List Fetched) (r : RowRef) : Dev :=
  let d := (s.geom v r.newGeo).d
  let view := s.jobRow v r targets blocks
  let bad := s.unread v r targets view
  let s := (s.countXts (s.fetchedUnits v r targets blocks)).mediaErrors v r bad
  let mine := (List.range (d + 2)).filter (fun x => targets.contains (s.blockLoc v r x).1)
  let put := fun (s : Dev) (whole : List Block) =>
    mine.foldl (fun s x =>
      (s.jobWrite v r x (whole.getD x zeroUnit) (.target v (s.blockLoc v r x).1)).count .JOB_PASS_BLOCKS (s.volPier v) (s.gran v)) s
  match recoverData d view with
  | some ds =>
    let whole := wholeRow ds
    let s := put s whole
    bad.foldl (fun s x => (s.jobWrite v r x (whole.getD x zeroUnit) .repair).count .PAR_REPAIR_WRITES (s.volPier v)) s
  | none =>
    let ds := (List.range d).map (fun j => (view.getD j none).getD zeroUnit)
    put (s.jobClose v r view) (wholeRow ds)

/-- A pass visits the stripe at its cursor, if its budget allows and no update of the stripe is open (10 R413, R421; 08 R334). -/
def Dev.passVisit (s : Dev) (v : Nat) (blocks : List Fetched) : Dev :=
  let s := s.passSeek v (2 * s.volStripes v + 4)
  let x := s.vol v
  match x.pass with
  | none => s
  | some p =>
    let k := s.stripeAt v p.cursor
    let g := s.geom v k.1
    let targets := s.passNeeds v p
    let cost := targets.length * g.u * 4096
    let unlimited := (if x.level = 0 then s.fld .RB_RATE_RATE_CRIT else s.fld .RB_RATE_RATE_DEG) == 0
    if targets.isEmpty || p.awaiting.isSome || p.waiting || (!unlimited && decide (p.budget < cost)) || s.volUnits v ≤ p.cursor ||
        s.stripeOpen (s.volPier v) v [k] then s
    else
      let s := s.setVol v { x with pass := some { p with budget := p.budget - cost, awaiting := some k } }
      let s := s.count .JOB_PASS_STRIPES (s.volPier v)
      (List.range g.u).foldl (fun s o => s.passRow v targets blocks ⟨k.1, k.2, o⟩) s

/-- Bytes a pass may write per start at its rate (10 R421): 100 MB/s units over 100 µs. -/
def Dev.passQuantum (s : Dev) (v : Nat) : Nat :=
  10000 * (if (s.vol v).level = 0 then s.fld .RB_RATE_RATE_CRIT else s.fld .RB_RATE_RATE_DEG)

/-- PASS_PACE_TICK (10 R413-R418, R421): every 100 µs; unused budget up to one strip per target carries forward. -/
def execPassPaceTick (volume : Fin 64) (blocks : List Fetched) (s : State) : Result :=
  let v := volume.val
  s.run (fun d =>
    let x := d.vol v
    match x.pass with
    | none => d
    | some p =>
      if !d.jobsRun v || x.st = .failed || p.waiting || d.nowOn (pierDie (d.volPier v)) % (100 * us) ≠ 0 then d
      else
        let strip := (d.geom v (d.stripeAt v p.cursor).1).u * 4096
        let carried := min p.budget (strip * p.targets.length)
        (d.setVol v { x with pass := some { p with budget := carried + d.passQuantum v } }).passVisit v blocks)

/-- PASS_STRIPE_DONE (10 R413, R423): every target has acknowledged its writes of the stripe; the cursor passes it, with a checkpoint
every 65,536 units, and the next stripe is visited within the budget. -/
def execPassStripeDone (volume : Fin 64) (blocks : List Fetched) (s : State) : Result :=
  let v := volume.val
  s.run (fun d =>
    let x := d.vol v
    match x.pass with
    | none => d
    | some p =>
      let busy := d.store.mcmds.any (fun c => match c.use with
        | .target w _ => w == v
        | _ => false)
      if p.awaiting.isNone || busy || !d.jobsRun v then d
      else
        let d := d.setVol v { x with pass := some { p with cursor := d.afterStripe v p.cursor, awaiting := none } }
        let d := if p.saved + 65536 ≤ p.cursor then d.checkpoint v else d
        if x.st = .failed then d else d.passVisit v blocks)

/-- TARGET_COMPLETE (10 R398, R402, R420): the target's set is visited and, with a volatile write cache, a Flush is done on it; it is
online, event 365h, GEN advances; a pass without targets ends. -/
def execTargetComplete (volume : Fin 64) (index : Fin 24) (s : State) : Result :=
  let v := volume.val
  let m := index.val
  s.run (fun d =>
    let d := if d.jobsRun v && ((d.vol v).pass.map (fun p => p.awaiting.isNone)).getD false then d.passSeek v (2 * d.volStripes v + 4) else d
    let x := d.vol v
    match x.pass with
    | none => d
    | some p =>
      match p.targets.find? (fun t => t.index == m && p.targetDone t) with
      | none => d
      | some t =>
        let k := (d.mem v m).slot
        if p.awaiting.isSome || !d.jobsRun v then d
        else if d.slotVwc k && t.flush.isNone then
          let f := d.flushFor v k
          let ts := p.targets.map (fun y => if y.index = m then { y with flush := some f.1 } else y)
          f.2.setVol v { f.2.vol v with pass := some { p with targets := ts } }
        else if d.slotVwc k && decide ((d.drive k).flushDone < t.flush.getD 0) then d
        else
          let ts := p.targets.filter (fun y => y.index != m)
          let d := d.setVol v { x with pass := if ts.isEmpty then none else some { p with targets := ts } }
          let d := d.setMember v m .online
          let d := d.event (pierDie (d.volPier v)) 0x365 (d.memberDetail v m)
          ((d.settleVol v).genAdvance v).fillPlaces (d.volPier v))

end Sys2Proof.Machine
end

