-- ==== Sys2Proof/Machine/Reshape.lean ====
section
/-!
DEFINITION. Reshape (10 R425-R436) and scrub (10 R437-R440).
-/
namespace Sys2Proof.Machine

/-- Units of a volume's address space in its old geometry, and in a geometry given. -/
def Dev.unitsIn (s : Dev) (v : Nat) (g : Geom) : Nat := if g.u = 0 then 0 else (s.vol v).cap / g.u * g.stripeUnits

/-- RS_CMD.START is accepted (10 R425). -/
def Dev.mayReshape (s : Dev) (v : Nat) : Bool :=
  let x := s.vol v
  let w := s.fld .VOL_CFG_WIDTH v
  let e := s.fld .VOL_CFG_STRIP v
  let w' := s.fld .RS_CFG_NEW_WIDTH v
  let e' := s.fld .RS_CFG_NEW_STRIP v
  let slots := (List.range (w' - w)).map (fun i => s.fld .RS_NEW_SLOT (memberInst v (w + i)))
  decide (x.st = .optimal) && x.pass.isNone && x.reshape.isNone && decide (w ≤ w') && decide (w' ≤ 24) && decide (6 ≤ e') &&
  decide (e' ≤ 10) && !(w == w' && e == e') &&
  (List.range 24).all (fun i => s.flag .RS_NEW_USED (memberInst v i) == (decide (w ≤ i) && decide (i < w'))) &&
  slots.eraseDups.length == slots.length && slots.all (s.spareFits (s.fld .VOL_CFG_MBS v) x.cap) &&
  decide (s.volUnits v ≤ s.unitsIn v ⟨w', stripUnits e'⟩)

/-- RESHAPE_START (10 R425, R426): the added members go online with stamps, GEN advances, B is 0; event 367h. Refused: 36Ah. -/
def execReshapeStart (_req : Requester) (volume : Fin 64) (s : State) : Result :=
  let v := volume.val
  s.run (fun d => d.regWrite (d.pairAddr .RS_CMD) (fun d =>
    if !d.mayReshape v then d.jobRefused (d.volPier v) .RS_CMD
    else
      let w := d.fld .VOL_CFG_WIDTH v
      let e := d.fld .VOL_CFG_STRIP v
      let w' := d.fld .RS_CFG_NEW_WIDTH v
      let e' := d.fld .RS_CFG_NEW_STRIP v
      let x := d.vol v
      let d := d.setVol v { x with reshape := some { oldWidth := w, oldStrip := e, newWidth := w', newStrip := e', waiting := true } }
      let d := (List.range (w' - w)).foldl (fun d i =>
        let m := w + i
        let k := d.fld .RS_NEW_SLOT (memberInst v m)
        let d := (d.setFld .VOL_MEMBER_USED (memberInst v m) 1).setFld .VOL_MEMBER_SLOT (memberInst v m) k
        d.memberBack v m k .online) d
      let d := d.event (pierDie (d.volPier v)) 0x367 (le 1 v ++ le 1 w ++ le 1 e ++ le 1 w' ++ le 1 e')
      (d.genAdvance v).fillPlaces (d.volPier v)))

/-- RESHAPE_PAUSE (10 R426): RS_CMD.PAUSE. -/
def execReshapePause (_req : Requester) (volume : Fin 64) (on : Bool) (s : State) : Result :=
  s.run (fun d => d.regWrite (d.pairAddr .RS_CMD) (·.setFld .RS_CMD_PAUSE volume.val on.toNat))

/-- One more than the highest old-geometry address held in the member units that the step at B writes, 0 for none (10 R427). -/
def Reshape.overwritten (r : Reshape) (cap : Nat) : Nat :=
  let old : Geom := ⟨r.oldWidth, stripUnits r.oldStrip⟩
  let new : Geom := ⟨r.newWidth, stripUnits r.newStrip⟩
  let last := (r.bound / new.stripeUnits + 1) * new.u - 1
  let k := last / old.u
  let stripes := cap / old.u
  if k < stripes then old.unitAt k (old.d - 1) (last % old.u) + 1
  else if stripes * old.u ≤ r.bound / new.stripeUnits * new.u then 0
  else stripes * old.stripeUnits

/-- End of the zone of the step at B (10 R427). -/
def Reshape.zoneEnd (r : Reshape) (cap : Nat) : Nat :=
  max (r.bound + (⟨r.newWidth, stripUnits r.newStrip⟩ : Geom).stripeUnits) (r.overwritten cap)

/-- A command's units all lie on one side of a reshape's zone (10 R428). -/
def Dev.zoneClear (s : Dev) (c : Cmd) : Bool :=
  match (s.vol c.vol).reshape with
  | none => true
  | some r =>
    let hi := r.step.getD r.bound
    let us := s.cmdUnits c
    us.all (fun a => decide (a < r.bound)) || us.all (fun a => decide (hi ≤ a))

/-- Commands that waited for the zone go on once it is clear for them (10 R428). -/
def Dev.releaseHeld (s : Dev) (v : Nat) : Dev :=
  ((s.nvme.cmds.filter (fun c => c.vol == v && c.held)).map (·.id)).foldl (fun s id =>
    match s.cmd id with
    | some c => if s.zoneClear c && !s.own.giving.contains v then (s.setCmd { c with held := false }).gather id else s
    | none => s) s

/-- A dispatched command or an unretired record touches a zone (10 R429). -/
def Dev.zoneBusy (s : Dev) (v lo hi : Nat) : Bool :=
  s.nvme.cmds.any (fun c => c.vol == v && c.dispatched && !c.held && c.record.isNone && (c.op.reads || c.op.writes) && c.status.isNone &&
    (s.cmdUnits c).any (fun a => decide (lo ≤ a) && decide (a < hi))) ||
  (List.range 2).any (fun p => (s.pier p).recs.any (fun r => r.volume == v && r.kind != 0 && !r.retired &&
    decide (lo < r.first + r.units) && decide (r.first < hi)))

/-- The old location's row of a unit, whatever the boundary. -/
def Dev.oldRow (s : Dev) (v a : Nat) : RowRef × Nat :=
  let p := (s.geom v false).place a
  (⟨false, p.1, p.2.2⟩, p.2.1)

/-- A data unit at its old location, plaintext and stored bytes (10 R430): listed blocks are zero; one its member does not give is
recovered from the rest of its old row. -/
def Dev.oldUnit (s : Dev) (v : Nat) (blocks : List Fetched) (a : Nat) : Block × Block :=
  let o := s.oldRow v a
  if s.listed v a then (zeroUnit, zeroUnit)
  else match s.fetched v o.1 blocks o.2 with
    | some b => b
    | none =>
      match recoverData (s.geom v false).d (s.jobRow v o.1 [] blocks) with
      | some ds =>
        let b := ds.getD o.2 zeroUnit
        (b, s.sealUnit v a b)
      | none => (zeroUnit, zeroUnit)

/-- A data unit that can neither be read nor recovered at its old location. -/
def Dev.oldLost (s : Dev) (v : Nat) (blocks : List Fetched) (a : Nat) : Bool :=
  let o := s.oldRow v a
  !s.listed v a && (s.fetched v o.1 blocks o.2).isNone && (recoverData (s.geom v false).d (s.jobRow v o.1 [] blocks)).isNone

/-- The moves of a step (10 R430): the new stripe's data with their ciphertext unchanged, P and Q in the new geometry. Units lost in
their old rows are listed first (08 R338). -/
def Dev.reshapeMove (s : Dev) (v : Nat) (r : Reshape) (blocks : List Fetched) : Dev :=
  let new : Geom := ⟨r.newWidth, stripUnits r.newStrip⟩
  let k := r.bound / new.stripeUnits
  let oldEnd := s.unitsIn v ⟨r.oldWidth, stripUnits r.oldStrip⟩
  let lost := ((List.range new.stripeUnits).map (· + r.bound)).filter (fun a => decide (a < oldEnd) && s.oldLost v blocks a)
  let s := if lost.isEmpty then s
    else (s.listBlocks v lost).event (pierDie (s.volPier v)) 0x346 (le 1 v ++ le 8 (lost.headD 0 * s.gran v) ++ leCount (lost.length * s.gran v))
  (List.range new.u).foldl (fun s o =>
    let ref : RowRef := ⟨true, k, o⟩
    let units := (List.range new.d).map (fun j =>
      let a := new.unitAt k j o
      if a < oldEnd then s.oldUnit v blocks a else (zeroUnit, zeroUnit))
    let plains := units.map Prod.fst
    let s := s.countXts ((units.zipIdx.map (fun e => s.dataUnits v ref e.2 e.1.2)).sum)
    let stored := units.map Prod.snd ++
      [s.sealBlock v ref new.d (parityP plains), s.sealBlock v ref (new.d + 1) (parityQ plains)]
    stored.zipIdx.foldl (fun s e =>
      let l := s.blockLoc v ref e.2
      s.memberCmd { write := true, slot := (s.mem v l.1).slot, volume := v, member := l.1, unit := l.2, stored := e.1,
                    use := .target v noVolume }) s) s

/-- Backup hosts' first unit (10 Member reserved area). -/
def backupUnit : Nat := 65536

/-- RESHAPE_STEP_BEGIN (10 R427-R433): the next step begins when nothing touches its zone. A step that overwrites old data above the
latest checkpoint first has its checkpoint and, where old data at or above B would go, its backup acknowledged; then the
moves are written. -/
def execReshapeStepBegin (volume : Fin 64) (blocks : List Fetched) (s : State) : Result :=
  let v := volume.val
  s.run (fun d =>
    let x := d.vol v
    match x.reshape with
    | none => d
    | some r =>
      let oldEnd := d.unitsIn v ⟨r.oldWidth, stripUnits r.oldStrip⟩
      let hi := r.zoneEnd x.cap
      if !d.jobsRun v || x.st ≠ .optimal || x.pass.isSome || r.waiting || r.moved || oldEnd ≤ r.bound then d
      else
        let begun :=
          if r.step.isSome then d
          else if d.flag .RS_CMD_PAUSE v || d.zoneBusy v r.bound hi then d
          else
            let past := r.overwritten x.cap
            let backup := decide (r.bound < past)
            let ckpt := decide (r.saved < past)
            let y := { r with step := some hi, backup := backup, saved := if ckpt then r.bound else r.saved }
            let d := d.setVol v { x with reshape := some y }
            let d := if backup then d.reservedWrite v backupUnit (d.mapHosts v) else d
            if ckpt then (d.checkpoint v).stampAll v else d
        match (begun.vol v).reshape with
        | some r =>
          if r.step.isNone || begun.reservedBusy v then begun
          else (begun.setVol v { begun.vol v with reshape := some { r with moved := true } }).reshapeMove v r blocks
        | none => begun)

/-- RESHAPE_STEP_END (10 R427, R433): the step's writes are acknowledged; B advances, with a checkpoint every 65,536 units; waiting
commands are looked at again. -/
def execReshapeStepEnd (volume : Fin 64) (s : State) : Result :=
  let v := volume.val
  s.run (fun d =>
    let x := d.vol v
    match x.reshape with
    | none => d
    | some r =>
      let busy := d.store.mcmds.any (fun c => c.use == .target v noVolume)
      if !r.moved || busy || !d.pierUp (d.volPier v) then d
      else
        let b := r.bound + (⟨r.newWidth, stripUnits r.newStrip⟩ : Geom).stripeUnits
        let ckpt := decide (r.saved + 65536 ≤ b)
        let p := d.volPier v
        let d := d.setVol v { x with reshape := some { r with
          bound := b, step := none, backup := false, moved := false, saved := if ckpt then b else r.saved } }
        let d := (d.count .JOB_RS_STEPS p).count .JOB_RS_BACKUPS p (if r.backup then 1 else 0)
        let d := if ckpt then (d.checkpoint v).stampAll v else d
        d.releaseHeld v)

/-- RESHAPE_COMPLETE (10 R436): after the last step that moves old data the remaining new stripes are zeroed; the volume takes the new
geometry and address space, GEN advances; event 368h. -/
def execReshapeComplete (volume : Fin 64) (s : State) : Result :=
  let v := volume.val
  s.run (fun d =>
    let x := d.vol v
    match x.reshape with
    | none => d
    | some r =>
      let oldEnd := d.unitsIn v ⟨r.oldWidth, stripUnits r.oldStrip⟩
      if r.bound < oldEnd ∨ r.step.isSome ∨ x.st ≠ .optimal ∨ !d.jobsRun v then d
      else
        let new : Geom := ⟨r.newWidth, stripUnits r.newStrip⟩
        let k := r.bound / new.stripeUnits
        let stripes := x.cap / new.u
        let d := x.members.foldl (fun d e => d.emit (.memberZeroes e.2.slot (dataStart + k * new.u) ((stripes - k) * new.u))) d
        let d := (d.setFld .VOL_CFG_WIDTH v r.newWidth).setFld .VOL_CFG_STRIP v r.newStrip
        let d := d.setVol v { d.vol v with reshape := none }
        let d := d.event (pierDie (d.volPier v)) 0x368 (le 1 v)
        (((d.genAdvance v).fillPlaces (d.volPier v)).releaseHeld v))

/-- Rows of a volume a scrub visits. -/
def Dev.scrubRows (s : Dev) (v : Nat) : Nat := s.volStripes v * (s.geom v false).u

/-- A row by its number in a scrub. -/
def Dev.scrubRef (s : Dev) (v i : Nat) : RowRef :=
  let u := (s.geom v false).u
  ⟨false, i / u, i % u⟩

/-- A row has a staged image, or lies in a region whose write-hole bit is set (10 R438). -/
def Dev.rowBusy (s : Dev) (v : Nat) (r : RowRef) : Bool :=
  (List.range ((s.geom v false).d + 2)).any (fun x => (s.stagedAt v r x).isSome) ||
  (s.stripeRegions v false r.stripe).any (fun g => (s.vol v).hole.contains g) ||
  s.stripeOpen (s.volPier v) v [(false, r.stripe)]

/-- The data block that explains both syndromes of a row (10 Scrub outcomes). -/
def locate (d : Nat) (sp sq : Block) : Option Nat :=
  let n := max sp.length sq.length
  let at' := fun (b : Block) i => b.getD i 0
  (List.range d).find? (fun x => (List.range n).all (fun i =>
    let a := at' sp i
    let b := at' sq i
    (a == 0 && b == 0) || (a != 0 && b != 0 && b == gfMul (gfPow x) a)))

/-- The guards of a unit whose namespace carries protection information hold (10 R440); zero-stored blocks have none. -/
def Dev.guardsHold (s : Dev) (v a : Nat) (plain : Block) : Bool :=
  match s.nsAt v a with
  | none => true
  | some n =>
    let f := s.nsLbaf n
    s.nsPit n == 0 || lbaMeta f == 0 || (List.range (lbaPerUnit f)).all (fun i =>
      let b := unitPart f i plain
      allZero b || (piOf f (b.drop (lbaData f))).guard == guardOf f (b.take (lbaData f)))

/-- Rewrite strips of a row from their plaintext. -/
def Dev.scrubFix (s : Dev) (v : Nat) (r : RowRef) (whole : List Block) (xs : List Nat) : Dev :=
  xs.foldl (fun s x => s.jobWrite v r x (whole.getD x zeroUnit) .repair) s

/-- Key of the corrections counted for the window of 36Dh. -/
def markScrub (v : Nat) : Nat := 3000 + v

/-- One row is checked (10 R439, R440); true where it was corrected. -/
def Dev.scrubCheck (s : Dev) (v : Nat) (r : RowRef) (blocks : List Fetched) : Dev × Bool :=
  let d := (s.geom v false).d
  let p := s.volPier v
  let view := s.jobRow v r [] blocks
  let bad := s.unread v r [] view
  let s := ((s.countXts (s.fetchedUnits v r [] blocks)).mediaErrors v r bad).count .JOB_SCRUB_ROWS p
  match recoverData d view with
  | none => (s.jobClose v r view, false)
  | some ds =>
    let whole := wholeRow ds
    let s := bad.foldl (fun s x => (s.jobWrite v r x (whole.getD x zeroUnit) .repair).count .PAR_REPAIR_WRITES p) s
    let pb := (view.getD d none).getD (parityP ds)
    let qb := (view.getD (d + 1) none).getD (parityQ ds)
    let sp := xorB pb (parityP ds)
    let sq := xorB qb (parityQ ds)
    if allZero sp ∧ allZero sq then (s, false)
    else if allZero sq then (((s.scrubFix v r whole [d]).count .JOB_SCRUB_FIX_P p).addMark (markScrub v), true)
    else if allZero sp then (((s.scrubFix v r whole [d + 1]).count .JOB_SCRUB_FIX_Q p).addMark (markScrub v), true)
    else match locate d sp sq with
      | some x =>
        let fixed := ds.set x (xorB (ds.getD x zeroUnit) sp)
        (((s.scrubFix v r fixed [x]).count .JOB_SCRUB_FIX_D p).addMark (markScrub v), true)
      | none =>
        let s := (s.count .JOB_SCRUB_UNLOCATED p).event (pierDie p) 0x36E (le 1 v ++ le 8 r.stripe ++ le 4 r.row)
        let wrong := (List.range d).filter (fun j => !s.guardsHold v (s.rowUnit v r j) (ds.getD j zeroUnit))
        if wrong.isEmpty then (s.scrubFix v r whole [d, d + 1], false)
        else
          let view := ((List.range d).map (fun j => if wrong.contains j then none else some (ds.getD j zeroUnit))) ++ [some pb, some qb]
          match recoverData d view with
          | some ds => (s.scrubFix v r (wholeRow ds) (wrong ++ (if wrong.length = 1 then [d + 1] else [])), false)
          | none => (s.jobClose v r view, false)

/-- The scrub of a volume may check a row now (10 R437): enabled, the volume OPTIMAL, no pass and no reshape on it. -/
def Dev.scrubRuns (s : Dev) (v : Nat) : Bool :=
  s.flag .SCRUB_CFG_EN && decide ((s.vol v).st = .optimal) && (s.vol v).pass.isNone && (s.vol v).reshape.isNone && s.jobsRun v

/-- A scrub pass begins, if there is none, and takes a place (10 R422, R437). -/
def Dev.scrubBegin (s : Dev) (v : Nat) : Dev :=
  let x := s.vol v
  let now := s.nowOn (pierDie (s.volPier v))
  if x.scrub.running then s.fillPlaces (s.volPier v)
  else
    let job := { x.scrub with running := true, cursor := 0, saved := 0, revisit := [], start := now, next := now, checked := 0,
                              corrected := 0, waiting := true }
    (s.setVol v { x with scrub := job }).fillPlaces (s.volPier v)

/-- When the next row is due (10 R437): the rows left spread over what is left of the interval; once it has elapsed, at RATE_DEG. -/
def Dev.scrubNext (s : Dev) (v now left : Nat) : Nat :=
  let stop := (s.vol v).scrub.start + s.fld .SCRUB_CFG_INTERVAL * 86400 * sec
  let rate := s.fld .RB_RATE_RATE_DEG
  if now < stop then now + (stop - now) / (if left = 0 then 1 else left)
  else if rate = 0 then now
  else now + (s.geom v false).n * 4096 * 10 / rate

/-- SCRUB_ROW (10 R437-R440): the next row when it is due; a busy row is skipped, revisited once at the end, and counted if still
busy. -/
def execScrubRow (volume : Fin 64) (blocks : List Fetched) (s : State) : Result :=
  let v := volume.val
  s.run (fun d =>
    if !d.scrubRuns v then d
    else
      let d := d.scrubBegin v
      let x := d.vol v
      let c := x.scrub
      let p := d.volPier v
      let now := d.nowOn (pierDie p)
      let rows := d.scrubRows v
      if c.waiting || now < c.next || (rows ≤ c.cursor && c.revisit.isEmpty) then d
      else
        let again := decide (rows ≤ c.cursor)
        let i := if again then c.revisit.headD 0 else c.cursor
        let r := d.scrubRef v i
        let busy := d.rowBusy v r
        let out := if busy then (d, false) else d.scrubCheck v r blocks
        let d := out.1
        let d := if again && busy then d.count .JOB_SCRUB_SKIPPED p else d
        let cursor := if again then c.cursor else c.cursor + 1
        let revisit := if again then c.revisit.drop 1 else if busy then c.revisit ++ [i] else c.revisit
        let save := decide (65536 ≤ (cursor - c.saved) * (d.geom v false).d)
        let next := d.scrubNext v now (rows - cursor + revisit.length)
        let job := { c with cursor := cursor, revisit := revisit, next := next, saved := if save then cursor else c.saved
                            checked := c.checked + (if busy then 0 else 1), corrected := c.corrected + (if out.2 then 1 else 0) }
        let d := d.setVol v { d.vol v with scrub := job }
        if save then d.checkpoint v else d)

/-- SCRUB_PASS_COMPLETE (10 R437): every row has been visited; event 36Ch with the rows checked and corrected. -/
def execScrubPassComplete (volume : Fin 64) (s : State) : Result :=
  let v := volume.val
  s.run (fun d =>
    let x := d.vol v
    let c := x.scrub
    if !c.running || c.cursor < d.scrubRows v || !c.revisit.isEmpty || !d.jobsRun v then d
    else
      let job : Scrub := { last := d.nowOn (pierDie (d.volPier v)) }
      let d := d.setVol v { x with scrub := job }
      let d := d.event (pierDie (d.volPier v)) 0x36C (le 1 v ++ leCount c.checked ++ leCount c.corrected)
      (d.checkpoint v).fillPlaces (d.volPier v))

end Sys2Proof.Machine
end

