-- ==== Sys2Proof/Machine/NvmeOps.lean ====
section
/-!
DEFINITION. What the commands of the front end share (04, 13): controllers, the life of a command from its acceptance to its end, the
overlap tracker, cancellation, asynchronous events, reservations.
-/
namespace Sys2Proof.Machine

/-- Status values (04 Status codes returned), SCT * 256 + SC. -/
def stOpcode : Nat := 0x001
def stField : Nat := 0x002
def stTransfer : Nat := 0x004
def stDeleted : Nat := 0x008
def stNamespace : Nat := 0x00B
def stSequence : Nat := 0x00C
def stSegment : Nat := 0x00D
def stSglLength : Nat := 0x00F
def stSglType : Nat := 0x011
def stDenied : Nat := 0x015
def stTransport : Nat := 0x022
def stRange : Nat := 0x080
def stNotReady : Nat := 0x082
def stConflict : Nat := 0x083
def stAbortLimit : Nat := 0x103
def stLogPage : Nat := 0x109
def stUnread : Nat := 0x281
def stGuard : Nat := 0x282
def stCompare : Nat := 0x285

/-- The controller at an index, if it is live (04 R145). -/
def Dev.ctrl (s : Dev) (i : Nat) : Option Ctrl := s.nvme.ctrls.find i

/-- Change a controller. -/
def Dev.setCtrl (s : Dev) (i : Nat) (x : Ctrl) : Dev :=
  let t := s.nvme.ctrls.insert i x
  { s with nvme := { s.nvme with ctrls := t } }

/-- The front end works (01 R20). -/
def Dev.frontUp (s : Dev) : Bool := s.dataPath && !s.isolated 14

/-- Index of the controller of a PCIe function (13 R520), and the function of one. -/
def pcieCtrl (fn : Nat) : Nat := 959 + fn

/-- PCIe function of an NVMe function: PF0, or VF n as function 1 + n (13). -/
def epOfNvme (fn : Nat) : Nat := if fn = 0 then 0 else fn + 1

/-- No controller: a command that comes before a Connect. -/
def noCtrl : Nat := 0xFFFF

/-- QID of a command's queue. -/
def Dev.srcQid (s : Dev) : CmdSource → Nat
  | .fabric i => (s.qp i).qid
  | .pcie _ q => q
  | .bond _ _ => 1

/-- A submission queue of a PCIe controller. -/
def Ctrl.sq (c : Ctrl) (q : Nat) : Sq := c.sqs.get {} q

/-- The controller a command comes to, where its queue can give one (03 R109, R110; 04; 13 R534; 17 R646): a capsule in a slot of a
queue pair in RTS, or an entry between head and tail of a submission queue whose function may fetch. -/
def Dev.comesTo (s : Dev) (src : CmdSource) : Option Nat :=
  if !s.frontUp then none
  else match src with
  | .fabric i =>
    let q := s.qp i
    if q.st = .rts ∧ 0 < q.inUse ∧ q.closing.isNone then q.ctrl.filter (fun k => (s.ctrl k).isSome) else none
  | .pcie fn qid =>
    let k := pcieCtrl fn.val
    match s.ctrl k with
    | some c =>
      let x := c.sq qid
      if (s.epFn (epOfNvme fn.val)).busMaster ∧ c.cc % 2 = 1 ∧ c.rdy ∧ !c.cfs ∧ x.size ≠ 0 ∧ x.head ≠ x.tail ∧ !s.mode.quiesced then some k else none
    | none => none
  | .bond _ _ => none

/-- A command leaves its slot, or its submission queue entry is fetched (03 R110; 13). -/
def Dev.takeCapsule (s : Dev) : CmdSource → Dev
  | .fabric i => s.setQp i { s.qp i with inUse := (s.qp i).inUse - 1 }
  | .pcie fn qid =>
    match s.ctrl (pcieCtrl fn.val) with
    | some c =>
      let x := c.sq qid
      let t := c.sqs.put {} qid { x with head := (x.head + 1) % x.size }
      s.setCtrl (pcieCtrl fn.val) { c with sqs := t }
    | none => s
  | .bond _ _ => s

/-- Enter a command that has been taken from its queue; it answers its number. -/
def Dev.newCmd (s : Dev) (src : CmdSource) (k cid : Nat) (f : Cmd → Cmd) : Nat × Dev :=
  let id := s.nvme.nextCmd
  let s := s.takeCapsule src
  let c : Cmd := { id := id, ctrl := k, src := src, sqid := s.srcQid src, cid := cid, accepted := s.nowOn .ln, finished := true }
  let s := { s with nvme := { s.nvme with nextCmd := id + 1, cmds := s.nvme.cmds ++ [f c] } }
  (id, s)

/-- A command that is answered at once: status, dword 0, reply. -/
def Dev.answerCmd (s : Dev) (src : CmdSource) (k cid status : Nat) (dw0 : Nat := 0) (reply : List (List Nat) := []) (buf : DataPtr := .none)
    (dnr : Bool := false) : Dev :=
  (s.newCmd src k cid (fun c => { c with status := some status, dw0 := dw0, reply := reply, buf := buf, dnr := dnr })).2

/-- A command on an admin queue of a controller, which `f` answers (04 Admin commands). -/
def Dev.onAdmin (s : Dev) (src : CmdSource) (f : Dev → Nat → Ctrl → Dev) : Dev :=
  match s.comesTo src with
  | some k =>
    match s.ctrl k with
    | some c => if s.srcQid src = 0 then f s k c else s
    | none => s
  | none => s

/-- Status of a descriptor for data of `len` bytes (04 R151, R152; 13 R522), none where it serves. -/
def bufStatus (src : CmdSource) (b : DataPtr) (len : Nat) : Option Nat :=
  match src, b with
  | .fabric _, .keyed _ n _ _ => if n = len then none else some stSglLength
  | .fabric _, .sgl t _ => some (if t = 3 then stSegment else stSglType)
  | .fabric _, _ => if len = 0 then none else some stSglType
  | .pcie _ _, .prp _ => none
  | .pcie _ _, .none => none
  | .pcie _ _, _ => some stField
  | .bond _ _, _ => none

/-- Bytes a data pointer describes. -/
def dataPtrLen : DataPtr → Nat
  | .keyed _ n _ _ => n
  | _ => 0

/-- Asynchronous events (04 R156): posted on a controller where enabled, or held, one per type and information. -/
def Dev.asyncEvent (s : Dev) (k type info log : Nat) : Dev :=
  match s.ctrl k with
  | none => s
  | some c =>
    let enabled := c.aec / 2 ^ Config.aecBit type info % 2 == 1
    if c.kind == .discovery || !enabled then s
    else match c.aers with
      | a :: as =>
        match s.cmd a with
        | some x => (s.setCmd { x with status := some 0, dw0 := log * 65536 + info * 256 + type }).setCtrl k { c with aers := as }
        | none => s
      | [] => if c.held.any (fun e => e.type == type && e.info == info) then s
              else s.setCtrl k { c with held := c.held ++ [⟨type, info, log⟩] }

/-- An asynchronous event on every controller of a tenant. -/
def Dev.asyncTenant (s : Dev) (t type info log : Nat) : Dev :=
  ((s.nvme.ctrls.filter (fun e => e.2.tenant == t)).map Prod.fst).foldl (fun s k => s.asyncEvent k type info log) s

/-- A command that is both over for its queue and finished for the tracker is forgotten. -/
def Dev.sweep (s : Dev) (id : Nat) : Dev :=
  match s.cmd id with
  | some c =>
    if (c.completed || c.cancelled) && c.finished then
      { s with nvme := { s.nvme with cmds := s.nvme.cmds.filter (fun y => y.id != id) } }
    else s
  | none => s

/-- The tenant whose meter counts a command: its namespace's, or its controller's (05 Metered quantities). -/
def Dev.cmdTenant (s : Dev) (c : Cmd) : Nat := if c.io then c.tenant else ((s.ctrl c.ctrl).map (·.tenant)).getD c.tenant

/-- The command came over a bond link (16 R638). -/
def fromBond : CmdSource → Bool
  | .bond _ _ => true
  | _ => false

/-- Queue field of a sampling record (15). -/
def queueWord (src : CmdSource) : Nat :=
  match src with
  | .fabric i => i
  | .pcie fn q => 2 ^ 31 + fn.val * 65536 + q
  | .bond _ tag => tag % 2 ^ 32

/-- A sampled command ends: its record is to be written (15 R609, R610). -/
def Dev.sampleEnd (s : Dev) (c : Cmd) (status : Nat) : Dev :=
  match c.sampled with
  | none => s
  | some n =>
    let since := fun (t : Nat) => if t = 0 then 0xFFFFFFFF else sat 0xFFFFFFFE (t - c.accepted)
    let rebuilt := c.op.reads && (s.cmdRows c).any (fun e => e.2.any (fun x => (s.inHand c.vol c.hand e.1 x).isNone))
    let ledgered := c.op.writes && (s.cmdRows c).any (fun e => !c.full.contains e.1.stripe)
    let r : Sample := {
      opcode := c.opcode, cid := c.cid, queue := queueWord c.src, nsid := c.nsid, tenant := c.tenant
      status := status % 2048 + (if c.cancelled then 2 ^ 14 else 0) + (if c.dnr then 2 ^ 15 else 0)
      slba := (c.ranges.headD (0, 0)).1, nlb := (c.ranges.headD (0, 1)).2 - 1
      route := (!c.full.isEmpty).toNat + 2 * ledgered.toNat + 4 * rebuilt.toNat + 8 * c.remote.toNat + 16 * c.waited.toNat
      tAccept := c.accepted, dDispatch := since c.dispatchedAt, dData := since c.dataAt, dDurable := since (c.durableAt.getD 0)
      dDone := sat 0xFFFFFFFE (s.nowOn .ln - c.accepted), sample := n }
    { s with evr := { s.evr with sampleQueue := s.evr.sampleQueue ++ [r] } }

/-- An I/O command is over: its outcome is metered, and it no longer counts as outstanding (05 Metered quantities; 04 FE_OUT). -/
def Dev.commandOver (s : Dev) (c : Cmd) (ok : Bool) (bytes : Nat) : Dev :=
  if c.sqid = 0 || c.opcode = 0x7F then s
  else
    let t := s.cmdTenant c
    let s := s.meterCount t (fun r =>
      if !ok then { r with bad := r.bad + 1 }
      else
        let r := { r with ok := r.ok + 1 }
        match c.op with
        | .read => { r with rd := r.rd + bytes }
        | .write => { r with wr := r.wr + bytes }
        | _ => r)
    let s := if ok then
        match c.op with
        | .read => { s with nvme := { s.nvme with units := s.nvme.units.put 0 (2 * t) (s.nvme.units.get 0 (2 * t) + bytes) } }
        | .write => { s with nvme := { s.nvme with units := s.nvme.units.put 0 (2 * t + 1) (s.nvme.units.get 0 (2 * t + 1) + bytes) } }
        | _ => s
      else s
    if c.io then s.setTn t { s.tn t with outstanding := (s.tn t).outstanding - 1 } else s

/-- Namespaces a controller's tenant owns that are active, by NSID (04 R159). -/
def Dev.tenantNs (s : Dev) (t : Nat) : List Nat :=
  ((List.range 4096).filter (fun n => s.flag .NS_CFG_ACTIVE n && s.nsTenant n == t)).map (· + 1)

/-- Namespace attribute notices to a tenant's controllers (04 R156, log page 04h). -/
def Dev.nsNotice (s : Dev) (t nsid : Nat) : Dev :=
  let ks := (s.nvme.ctrls.filter (fun e => e.2.tenant == t && e.2.kind != .discovery)).map Prod.fst
  ks.foldl (fun s k =>
    match s.ctrl k with
    | some c => (s.setCtrl k { c with changed := if c.changed.contains nsid then c.changed else c.changed ++ [nsid] }).asyncEvent k 2 0 4
    | none => s) s

/-- A command goes on from the tracker (04 R176): it waits again where a reshape's zone or a giveback holds it (10 R428; 16 R621). -/
def Dev.dispatch (s : Dev) (id : Nat) : Dev :=
  match s.cmd id with
  | none => s
  | some c =>
    if c.dispatched || c.cancelled then s
    else
      let zone := !s.zoneClear c
      let held := (zone || s.own.giving.contains c.vol) && (c.op.reads || c.op.writes)
      let s := s.setCmd { c with dispatched := true, dispatchedAt := s.nowOn .ln, held := held }
      if zone && held then s.count .JOB_RS_WAITS (s.volPier c.vol) else s.gather id

/-- A command leaves the tracker: those that waited for it alone are dispatched (04 R176, R177). -/
def Dev.finishCmd (s : Dev) (id : Nat) : Dev :=
  let ready := (s.nvme.cmds.filter (fun c => c.waits == [id])).map (·.id)
  let s := { s with nvme := { s.nvme with cmds := s.nvme.cmds.map (fun (c : Cmd) =>
    if c.id = id then { c with finished := true, finishedAt := s.nowOn .ln }
    else if c.waits.contains id then { c with waits := c.waits.filter (· != id) } else c) } }
  ready.foldl (fun s k => s.dispatch k) (s.sweep id)

/-- Two commands overlap and at least one of them writes (04 R176). -/
def cmdsConflict (a b : Cmd) : Bool :=
  (a.op.writes || b.op.writes) &&
  a.ranges.any (fun x => b.ranges.any (fun y => decide (x.1 < y.1 + y.2) && decide (y.1 < x.1 + x.2)))

/-- An I/O command is accepted (04 Ordering of overlapping commands, R173, R176; 15 R609): numbered, counted, sampled, and given to the
tracker unless it is not tracked. -/
def Dev.acceptIo (s : Dev) (src : CmdSource) (k cid : Nat) (f : Cmd → Cmd) : Nat × Dev :=
  let r := s.newCmd src k cid f
  let id := r.1
  let s := r.2
  match s.cmd id with
  | none => r
  | some c =>
    let tracked := c.op.reads || c.op.writes
    let seq := s.nvme.seqs.get 0 c.nsid
    let waits := if tracked then
        (s.nvme.cmds.filter (fun e => e.id != id && e.nsid == c.nsid && !e.finished && e.io && cmdsConflict e c)).map (·.id)
      else []
    let hit := s.flag .SMP_CTL_EN && match s.fld .SMP_CTL_MATCH with
      | 1 => c.nsid == s.fld .SMP_MATCH_VALUE
      | 2 => c.tenant == s.fld .SMP_MATCH_VALUE
      | _ => true
    let n := s.evr.sampleCount + 1
    let take := hit && decide (s.fld .SMP_CTL_PERIOD ≤ n)
    let c := { c with seq := seq + 1, waits := waits, io := true, finished := !tracked, waited := !waits.isEmpty
                      owner := s.volPier c.vol, entry := if s.nvme.entryAt.isSome then s.nvme.psCmd else none
                      sampled := if take then some (s.evr.sampleNo + 1) else none }
    let s := s.setCmd c
    let seqs := s.nvme.seqs.put 0 c.nsid (seq + 1)
    let s := { s with nvme := { s.nvme with seqs := seqs } }
    let s := if hit then { s with evr := { s.evr with sampleCount := if take then 0 else n
                                                      sampleNo := s.evr.sampleNo + take.toNat } } else s
    let s := s.count .FE_CMD_ACCEPTED
    let out := (s.tn c.tenant).outstanding + 1
    let s := s.setTn c.tenant { s.tn c.tenant with outstanding := out }
    let s := s.meterCount c.tenant (fun r => { r with peak := max r.peak out })
    let s := if waits.isEmpty then s else s.count .FE_TRACK_WAITS
    (id, if tracked && waits.isEmpty then s.dispatch id else s)

/-- An intent record opened for a command and not committed is abandoned (04 R181; 09 R367). -/
def Dev.abandonRecord (s : Dev) (c : Cmd) : Dev :=
  let p := s.volPier c.vol
  match c.record with
  | some q =>
    match s.record p q with
    | some r => if r.committed || r.retired || r.cmd != some c.id then s else s.retire p q true
    | none => s
  | none => s

/-- A completion queue entry for a command over PCIe, with its interrupt (13 R516, R541). -/
def Dev.placeCqe (s : Dev) (fn : Nat) (sqid cid status dw0 : Nat) (dnr : Bool) : Dev :=
  let k := pcieCtrl fn
  match s.ctrl k with
  | none => s
  | some c =>
    let cqid := if sqid = 0 then 0 else (c.sq sqid).cq
    let q := c.cqs.get {} cqid
    let cqs := c.cqs.put {} cqid { q with tail := if q.size = 0 then 0 else (q.tail + 1) % q.size }
    let s := (s.setCtrl k { c with cqs := cqs }).emit (.cqe (epOfNvme fn) cqid sqid cid status dw0 dnr)
    if q.irq then s.msixSend (epOfNvme fn) q.vec else s

/-- A command is cancelled (04 R180-R184): it stops at the end of its stage and has no completion, but for an orderly deletion over
PCIe (`cqe`), where it completes with 08h. -/
def Dev.cancelCmd (s : Dev) (id : Nat) (cqe : Bool) : Dev :=
  match s.cmd id with
  | none => s
  | some c =>
    if c.completed || c.cancelled then s
    else
      let s := s.abandonRecord c
      let c := { c with cancelled := true, status := some (c.status.getD stDeleted), staging := 0 }
      let s := (s.setCmd c).count .FE_CMD_CANCELLED
      let s := s.releaseAccs c
      let s := match c.src with
        | .pcie fn q => if cqe then s.placeCqe fn.val q c.cid stDeleted 0 false else s
        | _ => s
      let s := (s.commandOver c false 0).sampleEnd c 0
      match s.ctrl c.ctrl with
      | some x => (s.setCtrl c.ctrl { x with aers := x.aers.filter (· != id) }).sweep id
      | none => s.sweep id

/-- Cancel every command for which `p` holds. -/
def Dev.cancelWhere (s : Dev) (p : Cmd → Bool) (cqe : Bool) : Dev :=
  ((s.nvme.cmds.filter p).map (·.id)).foldl (fun s id => s.cancelCmd id cqe) s

/-- Cancel the commands of a fabric queue. -/
def Dev.cancelQueue (s : Dev) (i : Nat) : Dev := s.cancelWhere (fun c => c.src == .fabric i) false

/-- Queue pairs of a controller. -/
def Dev.ctrlQps (s : Dev) (k : Nat) : List Nat := (s.rdma.qps.filter (fun e => e.2.ctrl == some k)).map Prod.fst

/-- A queue pair is closed: it drains at once, or once the completions queued on it are sent (04 R183). -/
def Dev.closeQp (s : Dev) (i : Nat) (dreq : Bool) : Dev :=
  if (s.qp i).sendQ.isEmpty then s.qpDrain i dreq else s.setQp i { s.qp i with closing := some dreq }

/-- An association ends (04 R180): its commands are cancelled, its queue pairs drain, its index is free; event 201h. -/
def Dev.endAssociation (s : Dev) (k : Nat) : Dev :=
  match s.ctrl k with
  | none => s
  | some _ =>
    let s := s.cancelWhere (fun c => c.ctrl == k) false
    let s := (s.ctrlQps k).foldl (fun s i => s.closeQp i true) s
    let ctrls := s.nvme.ctrls.erase k
    let freed := s.nvme.freedAt.put none k (some (s.nowOn .ln))
    ({ s with nvme := { s.nvme with ctrls := ctrls, freedAt := freed } }).eventOpenCause .ln 0x201 (le 2 (k + 1))

/-- The media key a namespace's data need (07 R277; 14 R560): none where it serves, else the status and DNR. -/
def Dev.keyStatus (s : Dev) (n : Nat) : Option (Nat × Bool) :=
  match (s.keySlot keyMedia n).state with
  | .loaded => none
  | .empty => some (stNotReady, true)
  | _ => some (stInternal, true)

/-- A volume is not accepting I/O (04 R172; 14 R560; 16; 17 Modes): none where it accepts, else the status and DNR. -/
def Dev.volumeStatus (s : Dev) (n : Nat) : Option (Nat × Bool) :=
  let v := s.nsVol n
  let p := s.volPier v
  let waits := some (stNotReady, false)
  if !s.serves && !(s.mode.quiesced && !s.commissionHolds) then waits
  else match (s.vol v).st with
    | .none => if s.ldg.recovered.get false p then some (stNotReady, true) else waits
    | .creating => waits
    | .failed => some (stNotReady, true)
    | .deleting => some (stNotReady, true)
    | _ =>
      if (s.pierOwn p).stopped.contains v || (s.pierOwn p).pending.contains v then waits
      else if !s.ldg.recovered.get false p || (s.pierOwn 0).claimVols.any (fun e => e.1 == v) ||
        (s.pierOwn 1).claimVols.any (fun e => e.1 == v) then waits
      else match (s.keySlot keyParity v).state with
        | .loaded => s.keyStatus n
        | .empty => s.keyStatus n
        | _ => some (stInternal, true)

/-- What a reservation lets a host do (04 R192, R193; the types of the NVM command set, assumption 20). -/
def Resv.allows (r : Resv) (host : Nat) (writes : Bool) : Bool :=
  let registered := r.regs.any (fun e => e.1 == host)
  match r.rtype with
  | 0 => true
  | 1 => !writes || r.holder == host
  | 2 => r.holder == host
  | 3 => !writes || registered
  | 4 => registered
  | 5 => !writes || registered
  | _ => registered

/-- Reservation state of a namespace, by NSID. -/
def Dev.resvOf (s : Dev) (n : Nat) : Resv := s.nvme.resv.get {} n

/-- Change it; under PTPL it is written to the members (04 R195; 10 Reserved area). -/
def Dev.setResv (s : Dev) (n : Nat) (r : Resv) : Dev :=
  let old := s.resvOf n
  let t := s.nvme.resv.put {} n r
  let s := { s with nvme := { s.nvme with resv := t } }
  let v := s.nsVol (n - 1)
  if r.ptpl || old.ptpl then s.reservedWrite v (16384 + n - 1) ((s.membersIn v [.online]).map Prod.snd) else s

/-- A reservation notification to hosts on their controllers, unless masked (04 R156, Features 82h): type 1 registration preempted, 2
reservation released, 3 reservation preempted. -/
def Dev.resvNotice (s : Dev) (n type : Nat) (hosts : List Nat) : Dev :=
  let ks := (s.nvme.ctrls.filter (fun e => hosts.contains e.2.hostId && e.2.kind != .discovery)).map Prod.fst
  ks.foldl (fun s k =>
    match s.ctrl k with
    | some c =>
      if c.masks.get 0 n / 2 ^ type % 2 = 1 then s
      else (s.setCtrl k { c with resvLog := c.resvLog ++ [(type, n)] }).asyncEvent k 6 0 0x80
    | none => s) s

/-- FE_OUT.COUNT. -/
def Dev.commandsOut (s : Dev) : Nat := (s.nvme.cmds.filter (fun c => c.io && !c.completed && !c.cancelled)).length

/-- An optional status as a refusal at lookup. -/
def firstOf : List (Option (Nat × Bool)) → Option (Nat × Bool)
  | [] => none
  | some x :: _ => some x
  | none :: l => firstOf l

/-- A rate cap's bytes per ns by power state (04 Power states); 0: none. -/
def rateCap (ps : Nat) : Nat := [0, 480, 320, 160].getD ps 0

/-- The state whose cap holds: the target from the acceptance of its Set Features (04 R163, R164). -/
def Dev.capState (s : Dev) : Nat := if s.nvme.entryAt.isSome then s.nvme.target else s.nvme.ps

/-- Bytes the cap has not yet let out (04 R162). -/
def Dev.capLevel (s : Dev) : Nat := s.nvme.moved - rateCap s.capState * (s.nowOn .ln - s.nvme.capAt)

/-- A data transfer may be dispatched under the cap. -/
def Dev.capOpen (s : Dev) : Bool := rateCap s.capState == 0 || s.capLevel == 0

/-- A data transfer is charged to the cap. -/
def Dev.capCharge (s : Dev) (n : Nat) : Dev :=
  if rateCap s.capState = 0 then s
  else { s with nvme := { s.nvme with moved := s.capLevel + n, capAt := s.nowOn .ln } }

/-- A command whose volume another package owns is forwarded on the link towards it (04 R148; 16 R638): one that cannot reach its owner
completes with 82h, DNR clear. -/
def Dev.forward (s : Dev) (id : Nat) : Dev :=
  match s.cmd id with
  | none => s
  | some c =>
    match s.linkTo (s.pvol c.vol).pkg with
    | none => s.setCmd { c with status := some stNotReady }
    | some k => ((s.bondSend k bondForwardType 0 (64 + c.data.length)).count .OWN_FWD_COMMANDS).emit (.bondForward k id)

/-- The data of a command has come whole (04 R189; 08 R326): lost data are asked for again (06 R263); the protection information of a
write is checked; accumulators have taken the stripes. -/
def Dev.dataCame (s : Dev) (id : Nat) : Dev :=
  match s.cmd id with
  | none => s
  | some c =>
    if c.data.length < c.need || c.checked || c.status.isSome then s
    else if c.lost then s.setCmd { c with lost := false, refetched := true, data := [], asked := 0 }
    else
      let s := s.releaseAccs c
      let c := { c with checked := true, dataAt := s.nowOn .ln }
      let s := s.setCmd c
      let s := if c.remote && !fromBond c.src then s.forward id else s
      if c.op != .write || s.practOf c || (c.remote && !fromBond c.src) then s
      else match s.piCheck c (fun _ i => some (s.hostPart c i)) with
        | some (lba, f) =>
          ((s.count .FE_PI_ERR).event .ln 0x208 (le 4 c.nsid ++ le 8 lba ++ le 1 f)).setCmd
            { c with status := some (stGuard + f), errLba := some lba }
        | none => s

end Sys2Proof.Machine
end

