-- ==== Sys2Proof/Machine/Rdma.lean ====
section
/-!
DEFINITION. The RDMA transport (03): received packets, the life of a queue pair, the device's own requests, the persistent windows.
-/
namespace Sys2Proof.Machine

/-- Opcodes by operation (03 Opcodes). -/
def opSend : List Nat := [0x00, 0x01, 0x02, 0x04]
def opWrite : List Nat := [0x06, 0x07, 0x08, 0x0A]
def opRead : List Nat := [0x0C]
def opReadResponse : List Nat := [0x0D, 0x0E, 0x0F, 0x10]
def opAck : List Nat := [0x11]
def opFlush : List Nat := [0x1C]
def opAtomicWrite : List Nat := [0x1D]

/-- The next expected request has been executed (03 R103, R105): ePSN advances by `n`; at the end of a message the MSN advances and an
ACK goes out, else one at the latest after 64 packets. -/
def Dev.requestDone (s : Dev) (i n : Nat) (last : Bool) : Dev :=
  let q := s.qp i
  let s := s.setQp i { q with ePsn := psnAdd q.ePsn n, msn := q.msn + last.toNat, gapNak := false, unacked := q.unacked + 1
                              ackAt := some (q.ackAt.getD (s.nowOn .ln)) }
  if last || 64 ≤ q.unacked + 1 then s.sendAck i (s.ackPsn i) else s

/-- The key check fails (03 R124). -/
def Dev.keyRefused (s : Dev) (i : Nat) (p : RocePacket) : Dev :=
  s.requestError i p.psn nakAccess .RD_NAK_ACC_SENT (fun s => s.event .ln 0x183 (le 4 (qpnOf i) ++ le 4 p.rkey.toNat ++ le 8 p.va))

/-- The ledger fails for a window (03 R132; 09 R355, R395). -/
def Dev.windowFailed (s : Dev) (i psn slot off : Nat) : Dev :=
  s.requestError i psn nakOp .RD_NAK_OP_SENT (fun s => s.event .ln 0x18D (le 2 slot ++ le 4 off))

/-- A received SEND packet (03 R98, R99, R110, R112; 04 R150). -/
def Dev.recvSend (s : Dev) (i : Nat) (p : RocePacket) : Dev :=
  let q := s.qp i
  let first := p.opcode == 0x00 || p.opcode == 0x04
  let last := p.opcode == 0x02 || p.opcode == 0x04
  let before := q.sendMsg.getD 0
  let total := before + p.data.length
  let limit := if q.msn = 0 then 1088 else 64
  if first && s.mode.quiesced then s.sendRnr i p.psn
  else if (first && (q.sendMsg.isSome || q.writeMsg.isSome)) || (!first && q.sendMsg.isNone) || q.mtu < p.data.length || limit < total then
    s.nakInvalidReq i p.psn
  else if first && !(decide (q.inUse < q.held) || (decide (q.inUse < q.depth) && decide (0 < s.slotsFree))) then s.sendRnr i p.psn
  else
    let s := (s.count .RD_RX_PKTS).setQp i { q with inUse := q.inUse + first.toNat, sendMsg := if last then none else some total }
    s.requestDone i 1 last

/-- A received RDMA WRITE packet (03 R98, R99, R123, R127, R132). -/
def Dev.recvWrite (s : Dev) (i : Nat) (p : RocePacket) : Dev :=
  let q := s.qp i
  let first := p.opcode == 0x06 || p.opcode == 0x0A
  let last := p.opcode == 0x08 || p.opcode == 0x0A
  let n := p.data.length
  if first && s.mode.quiesced then s.sendRnr i p.psn
  else
    let m : Option WriteMsg := if first then
        (if q.writeMsg.isNone && q.sendMsg.isNone then some ⟨p.rkey.toNat % 4096, p.va, p.len⟩ else none)
      else q.writeMsg
    match m with
    | none => s.nakInvalidReq i p.psn
    | some m =>
      if q.mtu < n || (last && n != m.left) || (!last && m.left ≤ n) then s.nakInvalidReq i p.psn
      else if first && !s.keyCheck q p.rkey.toNat p.va p.len .WIN_CFG_WRITE then s.keyRefused i p
      else if s.windowBroken m.slot m.off n || !p.ledgerOk then s.windowFailed i p.psn m.slot m.off
      else
        let s := (s.count .RD_RX_PKTS).placeBytes i m.slot m.off p.data none
        let s := s.setQp i { q with writeMsg := if last then none else some ⟨m.slot, m.off + n, m.left - n⟩ }
        s.requestDone i 1 last

/-- The READ responses of a window access go out (03 R104; 05 Class of a frame, Metered quantities). -/
def Dev.windowResponse (s : Dev) (i : Nat) (p : RocePacket) : Dev :=
  let q := s.qp i
  let n := max 1 (ceilDiv p.len q.mtu)
  let data := s.windowRead (p.rkey.toNat % 4096) p.va p.len
  let s := (List.range n).foldl (fun s k => s.sendFrame i 1 (8 + s.ledgerPier) (4 + min q.mtu (p.len - k * q.mtu))) s
  (s.meterWin q.tenant p.len).emit (.rdmaResponse (qpnOf i) p.psn data)

/-- What a READ or FLUSH asks, as kept of the last 16 (03 R104). -/
def pastOf (p : RocePacket) : PastReq :=
  { psn := p.psn, flush := p.opcode == 0x1C, rkey := p.rkey.toNat, va := p.va, len := p.len, plt := p.plt, sel := p.sel }

/-- Execute an RDMA READ Request; `fresh` where it is new (03 R104, R123, R132). -/
def Dev.recvRead (s : Dev) (i : Nat) (p : RocePacket) (fresh : Bool) : Dev :=
  let q := s.qp i
  let slot := p.rkey.toNat % 4096
  if fresh && s.mode.quiesced then s.sendRnr i p.psn
  else if fresh && (q.sendMsg.isSome || q.writeMsg.isSome) then s.nakInvalidReq i p.psn
  else if !s.keyCheck q p.rkey.toNat p.va p.len .WIN_CFG_READ then s.keyRefused i p
  else if s.windowBroken slot p.va p.len then s.windowFailed i p.psn slot p.va
  else
    let s := (s.count .RD_RX_PKTS).windowResponse i p
    if fresh then
      let q := s.qp i
      s.setQp i { q with ePsn := psnAdd q.ePsn (max 1 (ceilDiv p.len q.mtu)), msn := q.msn + 1, gapNak := false
                         past := (q.past ++ [pastOf p]).drop (q.past.length - 15) }
    else s

/-- Execute a FLUSH (03 R104, R128, R129): with persistence it is answered once durable, else at once. -/
def Dev.recvFlush (s : Dev) (i : Nat) (p : RocePacket) (fresh : Bool) : Dev :=
  let q := s.qp i
  let slot := p.rkey.toNat % 4096
  let whole := p.sel == 0
  let va := if whole then 0 else p.va
  let len := if whole then 0 else p.len
  if fresh && s.mode.quiesced then s.sendRnr i p.psn
  else if 1 < p.sel || p.plt % 4 == 0 || (fresh && (q.sendMsg.isSome || q.writeMsg.isSome)) then s.nakInvalidReq i p.psn
  else if !s.keyCheck q p.rkey.toNat va len .WIN_CFG_WRITE then s.keyRefused i p
  else
    let size := s.fld .WIN_CFG_LEN slot * 4096
    let lo := slot * 65536 + va
    let hi := slot * 65536 + (if whole then size else p.va + p.len)
    if s.windowBroken slot va (hi - lo) then s.windowFailed i p.psn slot va
    else
      let s := s.count .RD_RX_PKTS
      let s := if p.plt / 2 % 2 = 1 then s.setQp i { q with flushes := q.flushes ++ [⟨p.psn, slot, lo, hi⟩] } else s
      let q := s.qp i
      if fresh then
        let s := s.setQp i { q with past := (q.past ++ [pastOf p]).drop (q.past.length - 15) }
        if p.plt / 2 % 2 = 1 then
          s.setQp i { s.qp i with ePsn := psnAdd q.ePsn 1, msn := q.msn + 1, gapNak := false }
        else s.requestDone i 1 true
      else if p.plt / 2 % 2 = 1 then s else s.sendAck i (s.ackPsn i)

/-- A received ATOMIC WRITE (03 R123, R125, R126). -/
def Dev.recvAtomic (s : Dev) (i : Nat) (p : RocePacket) : Dev :=
  let q := s.qp i
  let slot := p.rkey.toNat % 4096
  if s.mode.quiesced then s.sendRnr i p.psn
  else if p.data.length ≠ 8 ∨ q.sendMsg.isSome ∨ q.writeMsg.isSome then s.nakInvalidReq i p.psn
  else if p.va % 8 ≠ 0 ∨ !s.keyCheck q p.rkey.toNat p.va 8 .WIN_CFG_ATOMIC then s.keyRefused i p
  else if s.windowBroken slot p.va 8 || !p.ledgerOk then s.windowFailed i p.psn slot p.va
  else
    let s := (s.count .RD_RX_PKTS).placeBytes i slot p.va p.data (some s.rdma.atoms)
    let s := { s with rdma := { s.rdma with atoms := s.rdma.atoms + 1 } }
    s.requestDone i 1 true

/-- A duplicate request packet (03 R104). -/
def Dev.recvDuplicate (s : Dev) (i : Nat) (p : RocePacket) : Dev :=
  if opSend.contains p.opcode || opWrite.contains p.opcode || opAtomicWrite.contains p.opcode then
    (s.count .RD_RX_DUP_REACK).sendAck i (s.ackPsn i)
  else if (s.qp i).past.contains (pastOf p) then
    if p.opcode = 0x0C then s.recvRead i p false else s.recvFlush i p false
  else s.nakInvalidReq i p.psn

/-- A new request packet (03 R98, R100; 05 R203-R209): the first takes RTR to RTS; it is policed where its tenant is known, and a red one
goes no further. -/
def Dev.recvNew (s : Dev) (i : Nat) (p : RocePacket) : Dev :=
  let q := s.qp i
  let s := if q.st = .rtr then s.setQp i { q with st := .rts, since := s.nowOn .ln } else s
  let c := if q.ctrl.isSome && s.flag .TN_CFG_ENABLE q.tenant then s.police q.tenant p.bytes (if opSend.contains p.opcode then p.dataLen else 0)
    else (.green, s)
  let s := c.2
  if c.1 = .red then s
  else if opSend.contains p.opcode then s.recvSend i p
  else if opWrite.contains p.opcode then s.recvWrite i p
  else if p.opcode = 0x0C then s.recvRead i p true
  else if p.opcode = 0x1C then s.recvFlush i p true
  else if p.opcode = 0x1D then s.recvAtomic i p
  else s.nakInvalidReq i p.psn

/-- A request packet by its PSN's class (03 R103). -/
def Dev.recvRequest (s : Dev) (i : Nat) (p : RocePacket) : Dev :=
  let q := s.qp i
  let d := psnSub q.ePsn p.psn
  if d = 0 then s.recvNew i p
  else if d ≤ 1024 then s.recvDuplicate i p
  else if d ≤ 8388608 then
    s.requestError i q.ePsn nakSeq .RD_RX_STALE (fun s => s.eventOpenCause .ln 0x180 (le 4 (qpnOf i)))
  else if q.gapNak then s
  else ((s.setQp i { q with gapNak := true }).count .RD_RX_OOS_NAK).sendNak i q.ePsn nakSeq

/-- Requests acknowledged up to a PSN leave the queue pair (03 R106; 06 R261); a READ leaves only with its responses. Answers the
requests left and whether any progress was made. -/
def ackRequests (mtu psn : Nat) : List WorkReq → List WorkReq × Bool
  | [] => ([], false)
  | w :: ws =>
    if w.kind = .read then (w :: ws, false)
    else if psnLe (psnAdd w.psn (w.count - 1)) psn then ((ackRequests mtu psn ws).1, true)
    else if psnLe w.psn psn then
      let n := psnSub psn w.psn + 1
      ({ w with psn := psnAdd w.psn n, count := w.count - n, bytes := w.bytes - n * mtu } :: ws, true)
    else (w :: ws, false)

/-- Acknowledge up to a PSN: progress rearms the timer and ends the counts of retries. -/
def Dev.ackUpTo (s : Dev) (i psn : Nat) : Dev :=
  let q := s.qp i
  let r := ackRequests q.mtu psn q.out
  if r.2 then s.setQp i { q with out := r.1, timerAt := s.nowOn .ln, retries := 0, rnrRetries := 0 } else s

/-- The host grants credits (03 R113): SENDs up to MSN + credits; code 31 lifts the limit. -/
def Dev.hostCredits (s : Dev) (i : Nat) (msn code : Nat) : Dev :=
  let q := s.qp i
  let d := psnSub (psnAdd msn (creditsOf code)) (q.sent % 2 ^ 24)
  let limit := if d < 2 ^ 23 then q.sent + d else q.sent - (2 ^ 24 - d)
  s.setQp i { q with hostCode := code, hostLimit := if code = 31 then none else some limit }

/-- A command's failure by its host's NAK (03 R117, R118): status 22h with DNR, in the error log, with an asynchronous event; no
completion can be sent. -/
def Dev.hostNaked (s : Dev) (id : Nat) : Dev :=
  match s.cmd id with
  | none => s
  | some c =>
    if c.completed || c.cancelled then s
    else
      let s := s.abandonRecord c
      let c := { c with status := some stTransport, dnr := true, completed := true, staging := 0 }
      let s := ((s.setCmd c).count .FE_CMD_ERR).releaseAccs c
      let s := (s.commandOver c false 0).sampleEnd c stTransport
      let s := match s.ctrl c.ctrl with
        | some x => (s.setCtrl c.ctrl { x with errCount := x.errCount + 1
                                               errLog := ((⟨x.errCount + 1, c.sqid, c.cid, stTransport, 0, c.nsid⟩ : ErrEntry) :: x.errLog).take 64 }).asyncEvent
            c.ctrl 7 0xC1 1
        | none => s
      s.sweep id

/-- A NAK other than RNR (03 R106, R117, R118). -/
def Dev.recvNak (s : Dev) (i : Nat) (p : RocePacket) : Dev :=
  let s := (s.count .RD_NAK_RECV).ackUpTo i (psnSub p.psn 1)
  let code := p.syndrome.toNat % 32
  if code = nakSeq then s.resend i
  else
    let q := s.qp i
    let w := (q.out.find? (fun w => psnLe w.psn p.psn && psnLe p.psn (psnAdd w.psn (w.count - 1)))).orElse (fun _ => q.out.head?)
    match w with
    | none => s.qpError i
    | some w =>
      let cid := ((s.cmd w.cmd).map (·.cid)).getD ((w.cap.map (·.cid)).getD 0)
      let s := if code = nakAccess then s.event .ln 0x184 (le 4 (qpnOf i) ++ le 2 cid)
        else s.event .ln 0x185 (le 4 (qpnOf i) ++ le 2 cid ++ le 1 p.syndrome.toNat)
      (s.hostNaked w.cmd).qpError i

/-- Time of an RNR timer code in ns (03 R108; the encoding of the RC service, assumption 19), in units of 10 µs. -/
def rnrTime (code : Nat) : Nat :=
  [65536, 1, 2, 3, 4, 6, 8, 12, 16, 24, 32, 48, 64, 96, 128, 192, 256, 384, 512, 768, 1024, 1536, 2048, 3072, 4096, 6144, 8192, 12288,
   16384, 24576, 32768, 49152].getD code 1 * 10 * us

/-- An RNR NAK (03 R108). -/
def Dev.recvRnr (s : Dev) (i : Nat) (p : RocePacket) : Dev :=
  let s := (s.count .RD_RNR_RECV).ackUpTo i (psnSub p.psn 1)
  let q := s.qp i
  let n := q.rnrRetries + 1
  let limit := s.fld .RD_CFG_RNR_RETRY
  if limit ≠ 7 ∧ max 1 limit ≤ n then (s.event .ln 0x182 (le 4 (qpnOf i))).qpError i
  else s.setQp i { q with rnrRetries := n, rnrUntil := some (s.nowOn .ln + rnrTime (p.syndrome.toNat % 32)) }

/-- A READ response (03 R107; 06 R256), taken in PSN order: the data goes to its command; the last ends the READ. -/
def Dev.recvReadResponse (s : Dev) (i : Nat) (p : RocePacket) : Dev :=
  let s := (s.count .RD_RX_PKTS).ackUpTo i (psnSub p.psn 1)
  let q := s.qp i
  match q.out with
  | w :: ws =>
    let n := min q.mtu (w.bytes - w.got)
    if w.kind ≠ .read ∨ p.psn ≠ psnAdd w.psn (w.got / q.mtu) ∨ p.data.length ≠ n then s
    else
      let done := w.got + n == w.bytes
      let s := s.setQp i { q with out := if done then ws else { w with got := w.got + n } :: ws, timerAt := s.nowOn .ln, retries := 0, rnrRetries := 0 }
      let s := match s.cmd w.cmd with
        | some c => if c.status.isNone then s.setCmd { c with data := c.data ++ p.data } else s
        | none => s
      if done then (s.releaseReads (fun a r => a == i && r == w.psn)).dataCame w.cmd else s
  | [] => s

/-- A response packet in RTS or DRAINING (03). -/
def Dev.recvResponse (s : Dev) (i : Nat) (p : RocePacket) : Dev :=
  if p.opcode = 0x11 then
    let kind := p.syndrome.toNat / 32 % 4
    if kind = 0 then ((s.count .RD_RX_PKTS).ackUpTo i p.psn).hostCredits i p.msn (p.syndrome.toNat % 32)
    else if kind = 1 then s.recvRnr i p
    else s.recvNak i p
  else s.recvReadResponse i p

/-- A received RoCEv2 packet (03 R91-R98, R100). -/
def Dev.rocePacket (s : Dev) (p : RocePacket) : Dev :=
  if !s.transportUp then s
  else if !p.icrcOk then s.count .RD_RX_ICRC_ERR
  else
    let i := p.qpn - 0x10000
    let q := s.qp i
    let live := decide (0x10000 ≤ p.qpn) && decide (i < qpCount) && decide (q.st = .rtr ∨ q.st = .rts ∨ q.st = .draining)
    if !live || 0x20 ≤ p.opcode then s.count .RD_RX_NO_QP
    else if opReadResponse.contains p.opcode || opAck.contains p.opcode then
      if q.st = .rtr then s.count .RD_RX_NO_QP else s.recvResponse i p
    else if q.st = .draining then (s.count .RD_NAK_OP_SENT).sendNak i p.psn nakOp
    else s.recvRequest i p

/-- A packet of one of some opcodes. -/
def Dev.packetOf (s : Dev) (ops : List Nat) (p : RocePacket) : Dev := if ops.contains p.opcode then s.rocePacket p else s

/-- ROCE_PACKET_RECEIVE (03 R91-R103): a packet of any opcode. -/
def execRocePacketReceive (p : RocePacket) (s : State) : Result := s.run (·.rocePacket p)

/-- SEND_RECEIVE (03 R98, R99, R102-R105, R110-R112; 04 R150). -/
def execSendReceive (p : RocePacket) (s : State) : Result := s.run (·.packetOf opSend p)

/-- RDMA_WRITE_RECEIVE (03 R120, R123, R124, R127, R132, R137). -/
def execRdmaWriteReceive (p : RocePacket) (s : State) : Result := s.run (·.packetOf opWrite p)

/-- RDMA_READ_REQUEST_RECEIVE (03 R104, R123, R124). -/
def execRdmaReadRequestReceive (p : RocePacket) (s : State) : Result := s.run (·.packetOf opRead p)

/-- FLUSH_RECEIVE (03 R128, R129). -/
def execFlushReceive (p : RocePacket) (s : State) : Result := s.run (·.packetOf opFlush p)

/-- ATOMIC_WRITE_RECEIVE (03 R125, R126). -/
def execAtomicWriteReceive (p : RocePacket) (s : State) : Result := s.run (·.packetOf opAtomicWrite p)

/-- ACK_RECEIVE (03 R106, R113): an acknowledgement whose syndrome is an ACK. -/
def execAckReceive (p : RocePacket) (s : State) : Result :=
  s.run (fun d => if p.syndrome.toNat / 32 % 4 = 0 then d.packetOf opAck p else d)

/-- NAK_RECEIVE (03 R117, R118): an acknowledgement whose syndrome is a NAK other than RNR. -/
def execNakReceive (p : RocePacket) (s : State) : Result :=
  s.run (fun d => if 2 ≤ p.syndrome.toNat / 32 % 4 then d.packetOf opAck p else d)

/-- RNR_NAK_RECEIVE (03 R108). -/
def execRnrNakReceive (p : RocePacket) (s : State) : Result :=
  s.run (fun d => if p.syndrome.toNat / 32 % 4 = 1 then d.packetOf opAck p else d)

/-- READ_RESPONSE_RECEIVE (03 R107; 06 R256). -/
def execReadResponseReceive (p : RocePacket) (s : State) : Result := s.run (·.packetOf opReadResponse p)

/-- FLUSH_DURABLE (03 R128, R130, R132): the oldest FLUSH of a queue pair is durable and is acknowledged, or the ledger fails it. -/
def execFlushDurable (qp : Nat) (ledgerOk : Bool) (s : State) : Result :=
  s.runIf s.dev.transportUp (fun d =>
    let q := d.qp qp
    match q.flushes with
    | [] => d
    | f :: fs =>
      if q.st ≠ .rts ∧ q.st ≠ .draining then d
      else if !ledgerOk then d.windowFailed qp f.psn f.slot (f.lo - f.slot * 65536)
      else
        let d := d.makeDurable (fun b => b.qp == qp && decide (f.lo ≤ b.addr) && decide (b.addr < f.hi))
        let d := d.setQp qp { q with flushes := fs }
        d.sendAck qp (d.ackPsn qp))

/-- The lowest queue-pair index from `n` on that is FREE. -/
def firstFreeQp (t : Table Qp) : Nat → Nat → Nat
  | 0, n => n
  | k + 1, n => if (t.find n).isSome then firstFreeQp t k (n + 1) else n

/-- A CM REQ is refused: REJ, event 18Ch with the reason (03 R94, R138; 04 R149). -/
def Dev.cmRefuse (s : Dev) (reason detail : Nat) : Dev := (s.emit (.cmRej reason detail)).event .ln 0x18C (le 2 reason)

/-- I/O queues of the device, fabric and PCIe (04 Queue limits). -/
def Dev.ioQueues (s : Dev) : Nat :=
  (s.rdma.qps.filter (fun e => decide (1024 ≤ e.1))).length +
  (s.nvme.ctrls.map (fun e => (e.2.sqs.filter (fun q => decide (q.1 ≠ 0))).length)).sum

/-- CM_REQ_RECEIVE (03 R94, R100, R110; 04 R149): answered with REP and a queue pair in RTR with a random starting PSN, or refused. -/
def execCmReqReceive (req : CmReq) (s : State) : Result :=
  s.runIf (s.dev.transportUp && (s.dev.mac req.mac).link && s.dev.holdsIp req.mac req.v4 req.dst.toNat) (fun d =>
    let max := if req.qid = 0 then 32 else 4096
    let lo := if req.qid = 0 then 0 else 1024
    let hi := if req.qid = 0 then 1023 else qpCount
    let i := firstFreeQp d.rdma.qps (d.rdma.qps.length + 1) lo
    let res := d.fld .RD_CFG_CRED_RES
    if req.mtu ≠ 1024 ∧ req.mtu ≠ 2048 ∧ req.mtu ≠ 4096 then d.cmRefuse 26 0
    else if 1024 < req.qid then d.cmRefuse 28 3
    else if req.size < 2 ∨ max < req.size then d.cmRefuse 28 4
    else if hi ≤ i ∨ d.slotsFree < res ∨ (req.qid ≠ 0 ∧ 65536 ≤ d.ioQueues) then d.cmRefuse 28 6
    else
      let r := d.draw
      let d := r.2
      let d := d.setQp i { st := .rtr, mac := req.mac, v4 := req.v4, mtu := req.mtu, depth := req.size, reserve := res, initDepth := min 16 req.depth
                           qid := req.qid, ePsn := req.psn.toNat, nPsn := r.1 % 2 ^ 24, since := d.nowOn .ln, cmTimeout := req.timeoutNs }
      d.emit (.cmRep (qpnOf i) (r.1 % 2 ^ 24)))

/-- CM_RTU_RECEIVE (03 R100). -/
def execCmRtuReceive (qp : Nat) (s : State) : Result :=
  s.runIf (s.dev.transportUp && decide ((s.dev.qp qp).st = .rtr)) (fun d =>
    d.setQp qp { d.qp qp with st := .rts, since := d.nowOn .ln })

/-- The queue of a queue pair is torn down (04 R180): an admin queue's loss ends its association. -/
def Dev.queueGone (s : Dev) (i : Nat) : Dev :=
  let q := s.qp i
  let s := s.cancelQueue i
  match q.ctrl with
  | some k => if q.qid = 0 then s.endAssociation k else s
  | none => s

/-- CM_DREQ_RECEIVE (03 R100; 04 R180). -/
def execCmDreqReceive (qp : Nat) (s : State) : Result :=
  s.runIf (s.dev.transportUp && decide ((s.dev.qp qp).st = .rts)) (fun d => (d.qpDrain qp false).queueGone qp)

/-- A queue pair enters QUIET (03 R100, R101): what is unfinished is reported as failed. -/
def Dev.quietQp (s : Dev) (i : Nat) : Dev :=
  let s := s.queueGone i
  let s := s.qpLeave i .quiet
  s.setQp i { s.qp i with out := [], sendQ := [], flushes := [], ctrl := none, host := none }

/-- CM_RESPONSE_TIMEOUT (03 R100): neither RTU nor a request within the CM response timeout. -/
def execCmResponseTimeout (qp : Nat) (s : State) : Result :=
  s.runIf (s.dev.transportUp && decide ((s.dev.qp qp).st = .rtr) && s.dev.expired .ln (s.dev.qp qp).since (s.dev.qp qp).cmTimeout) (fun d =>
    (d.emit (.cmRej 4 0)).quietQp qp)

/-- RD_TIMING.QUIET_TO in ns. -/
def Dev.quietTime (s : Dev) : Nat := s.fld .RD_TIMING_QUIET_TO * ms

/-- DRAIN_TIMEOUT (03 R100): no request of the device is unacknowledged and no response owed, or QUIET_TO is over. -/
def execDrainTimeout (qp : Nat) (s : State) : Result :=
  let q := s.dev.qp qp
  s.runIf (s.dev.transportUp && decide (q.st = .draining) &&
    ((q.out.isEmpty && q.flushes.isEmpty) || s.dev.expired .ln q.since s.dev.quietTime)) (·.quietQp qp)

/-- ERROR_FLUSH_DONE (03 R100, R101; 04 R180): the work requests of a queue pair in ERROR are reported as failed, DREQ is sent. -/
def execErrorFlushDone (qp : Nat) (s : State) : Result :=
  s.runIf (s.dev.transportUp && decide ((s.dev.qp qp).st = .error)) (fun d => (d.quietQp qp).emit (.cmDreq (qpnOf qp)))

/-- QUIET_TIMEOUT (03 R100). -/
def execQuietTimeout (qp : Nat) (s : State) : Result :=
  s.runIf (s.dev.transportUp && decide ((s.dev.qp qp).st = .quiet) && s.dev.expired .ln (s.dev.qp qp).since s.dev.quietTime) (fun d =>
    d.setQp qp {})

/-- LOCAL_ACK_TIMEOUT (03 R106): go-back-N, or ERROR after RETRY_CNT retransmissions without progress. -/
def execLocalAckTimeout (qp : Nat) (s : State) : Result :=
  let q := s.dev.qp qp
  s.runIf (s.dev.transportUp && decide (q.st = .rts ∨ q.st = .draining) && !q.out.isEmpty && q.rnrUntil.isNone &&
    s.dev.expired .ln q.timerAt s.dev.ackTimeout) (fun d =>
    let d := d.count .RD_ACK_TIMEOUTS
    if d.fld .RD_CFG_RETRY_CNT ≤ q.retries then (d.event .ln 0x181 (le 4 (qpnOf qp))).qpError qp
    else (d.setQp qp { q with retries := q.retries + 1 }).resend qp)

/-- RNR_WAIT_END (03 R108). -/
def execRnrWaitEnd (qp : Nat) (s : State) : Result :=
  let q := s.dev.qp qp
  s.runIf (s.dev.transportUp && decide (q.st = .rts ∨ q.st = .draining) && match q.rnrUntil with
    | some t => decide (t ≤ s.dev.nowOn .ln)
    | none => false) (·.resend qp)

/-- ACK_COALESCE_TIMEOUT (03 R105, R111): 2 µs after the oldest packet not acknowledged. -/
def execAckCoalesceTimeout (qp : Nat) (s : State) : Result :=
  let q := s.dev.qp qp
  s.runIf (s.dev.transportUp && decide (q.st = .rts) && match q.ackAt with
    | some t => decide (t + 2 * us ≤ s.dev.nowOn .ln)
    | none => false) (fun d => d.sendAck qp (d.ackPsn qp))

/-- The class of a command's frames (05 Class of a frame). -/
def Dev.cmdClass (s : Dev) (c : Cmd) : Nat := if c.sqid = 0 || c.nsid = 0 then 1 else s.fld .NS_CLASS_CLASS (c.nsid - 1)

/-- The queue pair of a command whose queue can carry a request now. -/
def Dev.cmdQp (s : Dev) (c : Cmd) : Option Nat :=
  match c.src with
  | .fabric i => if (s.qp i).st = .rts ∧ (s.qp i).rnrUntil.isNone ∧ s.transportUp ∧ s.frontUp then some i else none
  | _ => none

/-- RDMA_READ_ISSUE (03 R115, R116; 04 R162; 06 R256): the next part of a command's data is asked of the host, once its responses'
cells are reserved. -/
def execRdmaReadIssue (cmd : Nat) (s : State) : Result :=
  s.run (fun d =>
    match d.cmd cmd with
    | none => d
    | some c =>
      match d.cmdQp c with
      | none => d
      | some i =>
        let q := d.qp i
        let n := min (4096 * 2 ^ d.fld .RD_CFG_READ_MAX) (c.need - c.asked)
        let reads := (q.out.filter (fun w => w.kind == .read)).length
        if n = 0 ∨ c.status.isSome ∨ c.held ∨ !(c.dispatched || c.remote) ∨ q.initDepth ≤ reads ∨ !d.capOpen then d
        else
          match d.reserveRead i q.nPsn (q.mac / 8) 15 1 n q.mtu with
          | none => if c.rsvWait then d else (d.setCmd { c with rsvWait := true }).count .SW_RSV_WAITS
          | some d =>
            let d := (d.setCmd { c with asked := c.asked + n, rsvWait := false }).capCharge n
            (d.issueRequest i (d.cmdClass c) 15 .read cmd n none).emit (.rdmaRead (qpnOf i) q.nPsn cmd n))

/-- Bytes of RDMA WRITEs of a pier's read data not yet acknowledged (06 R261). -/
def Dev.retransBytes (s : Dev) (p : Nat) : Nat :=
  ((s.rdma.qps.flatMap (fun e => e.2.out)).filter (fun w => w.kind == .write && match s.cmd w.cmd with
    | some c => s.volPier c.vol == p
    | none => false)).map (·.bytes) |>.sum

/-- RDMA_WRITE_ISSUE (03 R109, R115; 04 R162; 06 R261): the data of a read, or a command's reply, goes to the host in one RDMA WRITE. -/
def execRdmaWriteIssue (cmd : Nat) (s : State) : Result :=
  s.run (fun d =>
    match d.cmd cmd with
    | none => d
    | some c =>
      match d.cmdQp c with
      | none => d
      | some i =>
        let psn := (d.qp i).nPsn
        if c.status ≠ some 0 ∨ c.completed ∨ c.cancelled ∨ 0 < c.sent then d
        else if c.op = .read then
          let n := c.data.length
          let p := d.volPier c.vol
          if n = 0 ∨ !c.finished ∨ !d.capOpen ∨ 2 ^ 30 < d.retransBytes p + n then d
          else
            let d := (d.setCmd { c with sent := n, durableAt := some (d.nowOn .ln) }).capCharge n
            (d.issueRequest i (d.cmdClass c) (8 + p) .write cmd n none).emit (.rdmaWrite (qpnOf i) psn cmd c.data)
        else if c.reply.isEmpty then d
        else
          let n := max 1 (dataPtrLen c.buf)
          let d := d.setCmd { c with sent := n }
          (d.issueRequest i 1 15 .write cmd n none).emit (.reply cmd c.reply))

/-- The SEND of the completion at the head of a queue pair (03 R109, R113; 04 R153, R183): when the last one before a deletion is sent
the queue pair drains. -/
def Dev.sendHead (s : Dev) (i : Nat) : Dev :=
  let q := s.qp i
  match q.sendQ with
  | [] => s
  | c :: cs =>
    let s := s.setQp i { q with sendQ := cs }
    let s := (s.issueRequest i c.cls 15 .send c.cmd 0 (some c)).emit (.rdmaSend (qpnOf i) q.nPsn c.cid c.status c.dw0 c.dnr c.inval)
    match q.closing, cs with
    | some dreq, [] => s.qpDrain i dreq
    | _, _ => s

/-- SEND_ISSUE (03 R109, R113): within the host's credits, else the completion waits, counted once. -/
def execSendIssue (qp : Nat) (s : State) : Result :=
  let q := s.dev.qp qp
  s.runIf (s.dev.transportUp && decide (q.st = .rts) && q.rnrUntil.isNone) (fun d =>
    match q.sendQ with
    | [] => d
    | c :: cs =>
      let open' := match q.hostLimit with
        | none => true
        | some l => decide (q.sent < l)
      if open' then d.sendHead qp
      else if c.waited then d
      else (d.setQp qp { q with sendQ := { c with waited := true } :: cs }).count .RD_CRED_WAIT)

/-- CREDIT_PROBE_SEND (03 R113): without credit, one SEND per local ACK timeout period. -/
def execCreditProbeSend (qp : Nat) (s : State) : Result :=
  let q := s.dev.qp qp
  s.runIf (s.dev.transportUp && decide (q.st = .rts) && q.rnrUntil.isNone && !q.sendQ.isEmpty && (match q.hostLimit with
    | none => false
    | some l => decide (l ≤ q.sent)) && s.dev.expired .ln q.probeAt s.dev.ackTimeout) (fun d =>
    (d.setQp qp { q with probeAt := d.nowOn .ln }).sendHead qp)

/-- A window command or configuration write is refused (03 R133, R140). -/
def Dev.windowRefused (s : Dev) (k : Nat) : Dev := s.event .ln 0x187 (le 2 k)

/-- The slot a window write names: WIN_SEL's for a register write, the object's for a dictionary write. -/
def Dev.windowNamed (s : Dev) (via : Via) (slot : Nat) : Nat :=
  match via with
  | .reg _ => s.fld .WIN_SEL_SLOT
  | .dict _ => slot

/-- WIN_CFG_WRITE (03 R140). -/
def execWinCfgWrite (via : Via) (slot : Fin 4096) (value : Word) (s : State) : Result :=
  s.run (fun d => d.viaCommand via (Reg.addr .WIN_CFG) (fun d =>
    let k := d.windowNamed via slot.val
    if (d.window k).st ≠ .free ∨ (d.window k).registering then (d.windowRefused k, abortState)
    else
      let d := d.setFld .WIN_CFG_ATOMIC k (bitsOf value 26 26)
      let d := d.setFld .WIN_CFG_READ k (bitsOf value 25 25)
      let d := d.setFld .WIN_CFG_WRITE k (bitsOf value 24 24)
      let d := d.setFld .WIN_CFG_LEN k (bitsOf value 20 16)
      (d.setFld .WIN_CFG_TENANT k (bitsOf value 9 0), abortOk)))

/-- WIN_REGISTER (03 R133, R140; 07 R301). -/
def execWinRegister (via : Via) (slot : Fin 4096) (s : State) : Result :=
  s.run (fun d => d.viaCommand via (Reg.addr .WIN_CMD) (fun d =>
    let k := d.windowNamed via slot.val
    let n := d.fld .WIN_CFG_LEN k
    if (d.window k).st ≠ .free ∨ (d.window k).registering then (d.windowRefused k, abortState)
    else if n = 0 ∨ 16 < n ∨ !d.cust.rngOk then (d.windowRefused k, abortRefused)
    else (d.setWindow k { d.window k with registering := true }, abortOk)))

/-- WIN_REGISTER_COMPLETE (03 R121, R122, R133): the slot is all zeros, with a new TAG, and VALID. -/
def execWinRegisterComplete (slot : Fin 4096) (s : State) : Result :=
  let k := slot.val
  s.runIf (s.dev.transportUp && (s.dev.window k).registering && s.dev.cust.rngOk) (fun d =>
    let r := d.draw
    let d := r.2
    let old := (d.window k).tag
    let t := r.1 % 2 ^ 20
    let tag := if t = old then (t + 1) % 2 ^ 20 else t
    let inside := fun (a : Nat) => a / 65536 == k
    let mem := d.rdma.mem.filter (fun e => !inside e.1)
    let dur := d.rdma.durable.filter (fun e => !inside e.1)
    let d := { d with rdma := { d.rdma with mem := mem, durable := dur, placed := d.rdma.placed.filter (fun b => !inside b.addr) } }
    let d := d.setWindow k { st := .valid, tag := tag }
    let t := d.fld .WIN_CFG_TENANT k
    (d.event .ln 0x188 (le 2 k ++ le 2 t)).asyncTenant t 7 0xC0 0xC0)

/-- WIN_REVOKE (03 R134, R135). -/
def execWinRevoke (via : Via) (slot : Fin 4096) (s : State) : Result :=
  s.run (fun d => d.viaCommand via (Reg.addr .WIN_CMD) (fun d =>
    let k := d.windowNamed via slot.val
    if (d.window k).st = .valid then (d.setWindow k { d.window k with st := .revoking, revokeAt := d.nowOn .ln }, abortOk)
    else (d.windowRefused k, abortState)))

/-- A revocation completes (03 R122, R136). -/
def Dev.revoked (s : Dev) (k : Nat) : Dev :=
  let s := s.setWindow k { s.window k with st := .free }
  (s.event .ln 0x189 (le 2 k)).asyncTenant (s.fld .WIN_CFG_TENANT k) 7 0xC0 0xC0

/-- REVOCATION_COMPLETE (03 R136): no admitted access remains. -/
def execRevocationComplete (slot : Fin 4096) (s : State) : Result :=
  s.runIf (s.dev.transportUp && decide ((s.dev.window slot.val).st = .revoking) && (s.dev.windowUsers slot.val).isEmpty) (·.revoked slot.val)

/-- REVOKE_TIMEOUT (03 R136): the queue pairs of the accesses that remain are moved to ERROR. -/
def execRevokeTimeout (slot : Fin 4096) (s : State) : Result :=
  let k := slot.val
  s.runIf (s.dev.transportUp && decide ((s.dev.window k).st = .revoking) && !(s.dev.windowUsers k).isEmpty &&
    s.dev.expired .ln (s.dev.window k).revokeAt (s.dev.fld .RD_TIMING_REVOKE_TO * ms)) (fun d =>
    let users := d.windowUsers k
    let d := users.foldl (fun d i => d.qpError i) d
    (d.event .ln 0x18A (le 2 k ++ leCount users.length)).revoked k)

end Sys2Proof.Machine
end

