-- ==== Sys2Proof/Machine/NvmeAdmin.lean ====
section
/-!
DEFINITION. Fabrics and admin commands of the front end (04): associations, properties, features, log pages, power states.
-/
namespace Sys2Proof.Machine

/-- The host-table entry of an NQN (04 R143). -/
def Dev.hostOf (s : Dev) (nqn : List Byte) : Option Nat := (s.nvme.nqns.find? (fun e => e.2 == nqn)).map Prod.fst

/-- Live controllers of a host. -/
def Dev.hostCtrls (s : Dev) (h : Nat) : Nat := (s.nvme.ctrls.filter (fun e => e.2.host == h)).length

/-- A controller index of a range that can be assigned (04 R145): free, and freed longer than QUIET_TO ago. -/
def Dev.freeCtrl (s : Dev) (lo n : Nat) : Option Nat :=
  ((List.range n).map (· + lo)).find? (fun k => (s.ctrl k).isNone && match s.nvme.freedAt.get none k with
    | some t => s.expired .ln t s.quietTime
    | none => true)

/-- KATO in force, in ms (04 R161). -/
def katoOf (kind : CtrlKind) (v : Nat) : Nat :=
  if v = 0 then (if kind = .discovery then 0 else 120000) else ceilDiv v 1000 * 1000

/-- The check of table Connect checks that a Connect fails first (04 R146): number, status, dword 0 (none where it is open). -/
def Dev.connectFails (s : Dev) (i : Nat) (c : ConnectArgs) : Option (Nat × Nat × Option Nat) :=
  let q := s.qp i
  let limit := if c.qid = 0 then 31 else 4095
  let iattr := fun (n : Nat) => some (65536 + n)
  if c.recfmt ≠ 0 ∨ c.dataBytes ≠ 1024 ∨ c.sqsize = 0 ∨ limit < c.sqsize then some (1, 0x182, none)
  else match s.hostOf c.hostNqn with
    | none => some (2, 0x184, some 0)
    | some h =>
      let t := s.fld .HOST_CFG_TENANT h
      if !s.flag .HOST_CFG_ENABLE h then some (2, 0x184, some 0)
      else if c.subnqn = 0 then some (3, 0x182, iattr 256)
      else if c.subnqn ≠ 1 ∧ c.subnqn ≠ 2 + t then some (4, 0x182, iattr 256)
      else if c.qid = 0 then
        if c.cntlid ≠ 0xFFFF then some (5, 0x182, iattr 16)
        else if s.fld .HOST_CFG_MAX_CTRL h ≤ s.hostCtrls h ∨
          (if c.subnqn = 1 then s.freeCtrl 1024 64 else s.freeCtrl 0 959).isNone then some (6, 0x181, some 0)
        else none
      else
        match s.ctrl (c.cntlid - 1) with
        | none => some (7, 0x182, iattr 16)
        | some x =>
          if c.cntlid = 0 ∨ x.kind ≠ .fabric ∨ x.host ≠ h ∨ x.hostId ≠ c.hostId.toNat ∨ c.subnqn = 1 then some (7, 0x182, iattr 16)
          else if c.qid ≠ q.qid ∨ x.granted < c.qid ∨
            (s.rdma.qps.any (fun e => e.2.ctrl == some (c.cntlid - 1) && e.2.qid == c.qid && e.2.st == .rts && e.2.closing.isNone)) then
            some (8, 0x182, some 42)
          else none

/-- CONNECT (04 R144-R147, R150): an admin queue makes a controller, an I/O queue joins one; a refused Connect is answered and
recorded. -/
def execConnect (qp : Nat) (cid : BitVec 16) (c : ConnectArgs) (s : State) : Result :=
  let q := s.dev.qp qp
  s.runIf (s.dev.frontUp && decide (q.st = .rts) && decide (0 < q.inUse) && q.ctrl.isNone && decide ((c.qid = 0) = (q.qid = 0))) (fun d =>
    let src : CmdSource := .fabric qp
    match d.connectFails qp c with
    | some (check, st, dw0) =>
      let h := d.hostOf c.hostNqn
      let r := match dw0 with
        | some v => (v, d)
        | none => (d.draw.1 % 65536, d.draw.2)
      let d := (r.2.count .FE_CONNECT_REFUSED).event .ln 0x202 (le 2 (h.getD 0xFFFF) ++ le 1 check)
      (d.newCmd src noCtrl cid.toNat (fun x => { x with status := some st, dw0 := r.1, opcode := 0x7F })).2
    | none =>
      let h := (d.hostOf c.hostNqn).getD 0
      let t := d.fld .HOST_CFG_TENANT h
      let disc := c.subnqn == 1
      let k := if c.qid = 0 then ((if disc then d.freeCtrl 1024 64 else d.freeCtrl 0 959).getD 0) else c.cntlid - 1
      let d := if c.qid = 0 then
          let kind : CtrlKind := if disc then .discovery else .fabric
          let x : Ctrl := { kind := kind, host := h, hostId := c.hostId.toNat, tenant := t, aqp := qp, kato := katoOf kind c.kato, kaAt := d.nowOn .ln }
          (d.setCtrl k x).event .ln 0x200 (le 2 (k + 1) ++ le 2 h)
        else match d.ctrl k with
          | some x => d.setCtrl k { x with ioConnected := true }
          | none => d
      let d := d.setQp qp { d.qp qp with ctrl := some k, host := some h, tenant := t }
      (d.newCmd src k cid.toNat (fun x => { x with status := some 0, dw0 := k + 1, opcode := 0x7F })).2)

/-- A controller returns to its state before CC.EN was set (04 R157, R180, R183): its commands but for the one in hand are cancelled, its
I/O queues go. -/
def Dev.resetCtrl (s : Dev) (k : Nat) (keep : Option Nat) : Dev :=
  let s := s.cancelWhere (fun c => c.ctrl == k && some c.id != keep) false
  match s.ctrl k with
  | none => s
  | some c =>
    let s := s.setCtrl k { kind := c.kind, host := c.host, hostId := c.hostId, tenant := c.tenant, aqp := c.aqp, kato := c.kato, kaAt := c.kaAt
                           errCount := c.errCount, errLog := c.errLog, resvLog := c.resvLog, changed := c.changed }
    ((s.ctrlQps k).filter (fun i => (s.qp i).qid != 0)).foldl (fun s i => s.closeQp i true) s

/-- A value CC may take (04 Properties): EN, SHN, IOSQES 6 and IOCQES 4, other fields 0. -/
def ccValid (v : Nat) : Bool :=
  v % 2 ^ 24 == v && v / 2 % 2 ^ 13 == 0 && (v / 2 ^ 16 % 16 == 6 || v / 2 ^ 16 % 16 == 0) && (v / 2 ^ 20 == 4 || v / 2 ^ 20 == 0)

/-- A write of CC on a controller (04 R157, R180): EN starts or resets it, SHN shuts it down. `keep` is the command that wrote it. -/
def Dev.ccWrite (s : Dev) (k : Nat) (keep : Option Nat) (v : Nat) : Dev :=
  match s.ctrl k with
  | none => s
  | some c =>
    let was := c.cc % 2 == 1
    let en := v % 2 == 1
    let shn := v / 2 ^ 14 % 4 != 0
    let s := if (was && !en) || shn then s.resetCtrl k keep else s
    match s.ctrl k with
    | none => s
    | some c =>
      let now := s.nowOn .ln
      s.setCtrl k { c with cc := v, enableAt := if en && !was then some now else c.enableAt
                           rdy := c.rdy && en, shst := if shn then 1 else if en && !was then 0 else c.shst
                           shutdownAt := if shn then some now else none }

/-- PROPERTY_SET (04 R157, R180, R183). -/
def execPropertySet (src : CmdSource) (cid : BitVec 16) (offset : Nat) (value : BitVec 64) (s : State) : Result :=
  s.run (fun d => d.onAdmin src (fun d k c =>
    if c.kind = .pcie then d
    else
      let r := d.newCmd src k cid.toNat (fun x => { x with opcode := 0x7F })
      let st := if offset = 0x14 ∧ ccValid value.toNat then 0 else stField
      let d := if st = 0 then r.2.ccWrite k (some r.1) value.toNat else r.2
      match d.cmd r.1 with
      | some x => d.setCmd { x with status := some st }
      | none => d))

/-- CAP (04 Properties). -/
def capValue : Nat := 0x0FFF + 2 ^ 16 + 20 * 2 ^ 24 + 2 ^ 37

/-- CSTS of a controller. -/
def cstsOf (c : Ctrl) : Nat := c.rdy.toNat + 2 * c.cfs.toNat + 4 * c.shst

/-- PROPERTY_GET (04 R157). -/
def execPropertyGet (src : CmdSource) (cid : BitVec 16) (offset : Nat) (s : State) : Result :=
  s.run (fun d => d.onAdmin src (fun d k c =>
    if c.kind = .pcie then d
    else
      let v : Option Nat := match offset with
        | 0x00 => some capValue
        | 0x08 => some 0x00020000
        | 0x14 => some c.cc
        | 0x1C => some (cstsOf c)
        | _ => none
      (d.newCmd src k cid.toNat (fun x => { x with opcode := 0x7F, status := some (if v.isSome then 0 else stField), dw0 := v.getD 0 })).2))

/-- CONTROLLER_READY (04 R157): within 100 ms of CC.EN; a PCIe function without a host entry has set CFS instead (13 R521). -/
def execControllerReady (ctrl : Nat) (s : State) : Result :=
  s.runIf s.dev.frontUp (fun d =>
    match d.ctrl ctrl with
    | none => d
    | some c =>
      if c.enableAt.isNone ∨ c.cc % 2 = 0 ∨ c.cfs then d
      else d.setCtrl ctrl { c with rdy := true, enableAt := none })

/-- CONTROLLER_SHUTDOWN_DONE (04 R157): shutdown is complete once its commands are over. -/
def execControllerShutdownDone (ctrl : Nat) (s : State) : Result :=
  s.runIf s.dev.frontUp (fun d =>
    match d.ctrl ctrl with
    | none => d
    | some c =>
      if c.shutdownAt.isNone ∨ d.nvme.cmds.any (fun x => x.ctrl == ctrl && x.sqid != 0 && !x.finished) then d
      else d.setCtrl ctrl { c with shst := 2, shutdownAt := none })

/-- DISCONNECT (04 R180-R184): the queue's commands are cancelled, then the Disconnect completes and the queue pair drains; on the admin
queue the association ends. -/
def execDisconnect (qp : Nat) (cid : BitVec 16) (s : State) : Result :=
  s.run (fun d =>
    match d.comesTo (.fabric qp) with
    | none => d
    | some k =>
      let d := d.cancelQueue qp
      let r := d.newCmd (.fabric qp) k cid.toNat (fun x => { x with opcode := 0x7F, status := some 0, completed := true })
      let q := r.2.qp qp
      let d := r.2.setQp qp { q with sendQ := q.sendQ ++ [{ cmd := r.1, cid := cid.toNat, status := 0 }], closing := some false }
      let d := d.sweep r.1
      if q.qid = 0 then
        let d := d.setQp qp { d.qp qp with ctrl := none }
        d.endAssociation k
      else d)

/-- The fields of one event-log or controller item as numbers. -/
def ErrEntry.item (e : ErrEntry) : List Nat := [e.count, e.sqid, e.cid, e.status, e.lba, e.nsid]

/-- The composite temperature in kelvin (18 R685): the hottest logic-die sensor of PE, PW and LN. -/
def Dev.composite (s : Dev) : Nat :=
  let hot := ((List.range 12).map (fun k => (s.pkg.sensors.get {} k).now)).foldl max (-2184)
  ((hot + 2185 + 4) / 8).toNat

/-- MACs with an IP address (04 R155). -/
def Dev.ipMacs (s : Dev) : List Nat :=
  (List.range 64).filter (fun m => s.macExists m && s.flag .MAC_CFG_ENABLE m && (s.fld .MAC_IP4_ADDR m != 0 || s.macIp6 m != 0))

/-- Opcodes the device executes (04 log page 05h). -/
def adminOpcodes : List Nat := [0x02, 0x06, 0x08, 0x09, 0x0A, 0x0C, 0x18, 0x7F]
def ioOpcodes : List Nat := [0x00, 0x01, 0x02, 0x05, 0x08, 0x09, 0x0D, 0x0E, 0x11, 0x15]

/-- Content of a log page, item by item (04 Log pages, R155; 03 R122): 01h the errors, newest first; 02h temperature and the tenant's
data units of 512,000 bytes read and written; 04h NSIDs; 05h opcodes; 70h MAC, addresses and subsystem's tenant; 80h notifications;
C0h slot, R_Key, length in bytes and rights. None where the controller has no such page. -/
def Dev.logPage (s : Dev) (c : Ctrl) (lid : Nat) : Option (List (List Nat)) :=
  match decide (c.kind = .discovery), lid with
  | true, 0x70 => some (s.ipMacs.map (fun m => [m, s.fld .MAC_IP4_ADDR m, s.macIp6 m, c.tenant]))
  | true, _ => none
  | false, 0x01 => some (c.errLog.map ErrEntry.item)
  | false, 0x02 => some [[s.composite, ceilDiv (s.nvme.units.get 0 (2 * c.tenant)) 512000, ceilDiv (s.nvme.units.get 0 (2 * c.tenant + 1)) 512000]]
  | false, 0x04 => some ((sortNat c.changed).map (fun n => [n]))
  | false, 0x05 => some [adminOpcodes, ioOpcodes]
  | false, 0x80 => some (c.resvLog.map (fun e => [e.1, e.2]))
  | false, 0xC0 => some ((s.rdma.wins.filter (fun e => e.2.st == .valid && s.fld .WIN_CFG_TENANT e.1 == c.tenant)).map (fun e =>
      [e.1, e.2.tag * 4096 + e.1, s.fld .WIN_CFG_LEN e.1 * 4096,
       s.fld .WIN_CFG_WRITE e.1 + 2 * s.fld .WIN_CFG_READ e.1 + 4 * s.fld .WIN_CFG_ATOMIC e.1]))
  | false, _ => none

/-- GET_LOG_PAGE (04 R154, R155): unless RAE is set, reading page 04h or 80h removes what it held. -/
def execGetLogPage (src : CmdSource) (cid : BitVec 16) (buf : DataPtr) (lid : Nat) (rae : Bool) (s : State) : Result :=
  s.run (fun d => d.onAdmin src (fun d k c =>
    match bufStatus src buf (dataPtrLen buf), d.logPage c lid with
    | some st, _ => d.answerCmd src k cid.toNat st
    | none, none => d.answerCmd src k cid.toNat stLogPage
    | none, some items =>
      let d := if rae then d
        else if lid = 0x04 then d.setCtrl k { c with changed := [] }
        else if lid = 0x80 then d.setCtrl k { c with resvLog := [] }
        else d
      d.answerCmd src k cid.toNat 0 0 ([lid] :: items) buf))

/-- Identify Controller, in the order of table Identify Controller values (04 R158; 13 PCIe controller differences): VID, MN is the device's
own, VER, CMIC, OACS, VWC, NN, FCATT, CNTLID, ELPE, MAXCMD, tenant or discovery subsystem, MDTS, ACL, AERL, KAS, ONCS, AWUN, SGLS, MSDBD,
NPSS, SQES/CQES, IOCCSZ, IORCSZ, ICDOFF, CNTRLTYPE; and the serial number and firmware version. -/
def Dev.identifyCtrl (s : Dev) (k : Nat) (c : Ctrl) : List Nat :=
  let pcie := c.kind == .pcie
  let disc := c.kind == .discovery
  [0x1F3B, 0x00020000, 0x03, 0, 0, 4096, 0, k + 1, 63, 4096, if disc then 0xFFFF else c.tenant, 9, 3, 7, if pcie then 0 else 10, 0x2D, 0xFF,
   if pcie then 0 else 5, if pcie then 0 else 1, 3, 0x4466, if pcie then 0 else 4, if pcie then 0 else 1, 0, if disc then 2 else 1,
   Config.serial.toNat, (s.fw.running.map (·.version.toNat)).getD 0]

/-- Identify Namespace (04 R158, R187, R188): size, format, PIT, NSFEAT, NAWUN, NAWUPF, NABSN, NABO, NABSPF, DLFEAT. -/
def Dev.identifyNs (s : Dev) (n : Nat) : List Nat :=
  let f := s.nsLbaf n
  let a := if lbaData f = 512 then 2047 else 255
  [s.nsBlocks n, f, s.nsPit n, 2, a, a, a, 0, a, 9]

/-- IDENTIFY (04 R154, R155, R158, R159). -/
def execIdentify (src : CmdSource) (cid : BitVec 16) (buf : DataPtr) (cns nsid : Nat) (s : State) : Result :=
  s.run (fun d => d.onAdmin src (fun d k c =>
    let mine := decide (1 ≤ nsid) && d.flag .NS_CFG_ACTIVE (nsid - 1) && d.nsTenant (nsid - 1) == c.tenant && decide (nsid ≤ 4096)
    let item : Option (List Nat) := match decide (c.kind = .discovery), cns with
      | true, 1 => some (d.identifyCtrl k c)
      | true, _ => none
      | false, 0 => some (if mine then d.identifyNs (nsid - 1) else [])
      | false, 1 => some (d.identifyCtrl k c)
      | false, 2 => some (((d.tenantNs c.tenant).filter (fun n => decide (nsid < n))).take 1024)
      | false, 3 => some []
      | false, _ => none
    match bufStatus src buf 4096, item with
    | some st, _ => d.answerCmd src k cid.toNat st
    | none, none => d.answerCmd src k cid.toNat stField
    | none, some l => d.answerCmd src k cid.toNat 0 0 [[cns], l] buf))

/-- ABORT (04 R179): no command is aborted; a fifth outstanding Abort is refused. -/
def execAbort (src : CmdSource) (cid : BitVec 16) (_sqid _acid : BitVec 16) (s : State) : Result :=
  s.run (fun d => d.onAdmin src (fun d k c =>
    if c.kind = .discovery then d.answerCmd src k cid.toNat stOpcode
    else
      let out := (d.nvme.cmds.filter (fun x => x.ctrl == k && x.op == .abort && !x.completed && !x.cancelled && x.status == some 0)).length
      (d.newCmd src k cid.toNat (fun x => { x with op := .abort, opcode := 8, status := some (if 4 ≤ out then stAbortLimit else 0), dw0 := 1 })).2))

/-- Queues a controller may be granted (04 Queue limits; 13 PCIe controller differences). -/
def ioLimit (k : Nat) (c : Ctrl) : Nat := if c.kind = .pcie then (if k = 959 then 256 else 32) else 1024

/-- A Set Features of FID 02h (04 R160, R163, R165): status, and the device once it is accepted; `id` is the command. -/
def Dev.setPower (s : Dev) (c : Ctrl) (id : Nat) (save : Bool) (ps : Nat) : Nat × Dev :=
  if !s.flag .HOST_CFG_PRIV c.host then (stDenied, s)
  else if save || 3 < ps then (stField, s)
  else if s.nvme.entryAt.isSome then (stSequence, s)
  else (0, { s with nvme := { s.nvme with moved := s.capLevel, capAt := s.nowOn .ln, target := ps, entryAt := some (s.nowOn .ln), psCmd := some id
                                          settled := 0 } })

/-- A command that sets a power state: it is accepted, or answered with its status. -/
def Dev.setPowerCmd (s : Dev) (src : CmdSource) (k cid : Nat) (c : Ctrl) (save : Bool) (ps : Nat) : Dev :=
  if c.kind = .discovery then s.answerCmd src k cid stOpcode
  else
    let r := s.newCmd src k cid (fun x => { x with op := .setPower, opcode := 9 })
    let e := r.2.setPower c r.1 save ps
    if e.1 = 0 then e.2
    else match e.2.cmd r.1 with
      | some x => e.2.setCmd { x with status := some e.1 }
      | none => e.2

/-- Namespaces a feature names: an active one of the tenant, or all of them with NSID FFFF_FFFFh. -/
def Dev.featureNs (s : Dev) (c : Ctrl) (nsid : Nat) : List Nat :=
  let l := s.tenantNs c.tenant
  if nsid = 0xFFFFFFFF then l else l.filter (· == nsid)

/-- A feature set (04 table Features, R160, R161): status, dword 0 and the device after it. -/
def Dev.setFeature (s : Dev) (k : Nat) (c : Ctrl) (fid nsid : Nat) (dw11 : Word) (data : BitVec 128) : Nat × Nat × Dev :=
  let v := dw11.toNat
  match fid with
  | 0x04 =>
    if v / 2 ^ 20 % 4 ≠ 0 ∨ (v / 2 ^ 16 % 16 ≠ 0 ∧ v / 2 ^ 16 % 16 ≠ 15) then (stField, 0, s)
    else (0, 0, s.setCtrl k { c with tempThreshold := v % 2 ^ 16 })
  | 0x07 =>
    let sq := v % 2 ^ 16
    let cq := v / 2 ^ 16
    if c.ioConnected then (stSequence, 0, s)
    else if sq = 0xFFFF ∨ cq = 0xFFFF then (stField, 0, s)
    else
      let a := min (sq + 1) (ioLimit k c)
      let b := min (cq + 1) (ioLimit k c)
      (0, (b - 1) * 65536 + a - 1, s.setCtrl k { c with granted := a, grantedCq := b })
  | 0x0B =>
    let bits := [(1, 1), (2, 0), (6, 0), (7, 0xC0), (7, 0xC1)].map (fun e => Config.aecBit e.1 e.2)
    if (List.range 32).any (fun b => v / 2 ^ b % 2 == 1 && !bits.contains b) then (stField, 0, s)
    else (0, 0, s.setCtrl k { c with aec := v })
  | 0x0F => (0, 0, s.setCtrl k { c with kato := katoOf c.kind v })
  | 0x81 =>
    let id := if v % 2 = 1 then data.toNat else data.toNat % 2 ^ 64
    if c.resvSeen ∨ s.nvme.resv.any (fun e => e.2.regs.any (fun r => r.1 == c.hostId)) then (stSequence, 0, s)
    else (0, 0, s.setCtrl k { c with hostId := id })
  | 0x82 =>
    let l := s.featureNs c nsid
    if l.isEmpty then (stNamespace, 0, s)
    else
      let masks := l.foldl (fun t n => Table.put t 0 n (v % 16)) c.masks
      (0, 0, s.setCtrl k { c with masks := masks })
  | 0x83 =>
    let l := s.featureNs c nsid
    if l.isEmpty then (stNamespace, 0, s)
    else (0, 0, l.foldl (fun s n => s.setResv n { s.resvOf n with ptpl := v % 2 == 1 }) s)
  | _ => (stField, 0, s)

/-- SET_FEATURES (04 R160, R161, R195). -/
def execSetFeatures (src : CmdSource) (cid : BitVec 16) (fid : Nat) (save : Bool) (nsid : Nat) (dw11 : BitVec 32) (data : BitVec 128) (s : State) : Result :=
  s.run (fun d => d.onAdmin src (fun d k c =>
    if c.kind = .discovery then d.answerCmd src k cid.toNat stOpcode
    else if fid = 2 then d.setPowerCmd src k cid.toNat c save (dw11.toNat % 32)
    else if save then d.answerCmd src k cid.toNat stField
    else
      let r := d.setFeature k c fid nsid dw11 data
      let vol := if fid = 0x83 then (d.featureNs c nsid).head?.map (fun n => d.nsVol (n - 1)) else none
      (r.2.2.newCmd src k cid.toNat (fun x => { x with opcode := 9, status := some r.1, dw0 := r.2.1, resvWrite := vol.isSome
                                                       vol := vol.getD 0 })).2))

/-- SET_POWER_STATE (04 R160, R163, R165). -/
def execSetPowerState (src : CmdSource) (cid : BitVec 16) (save : Bool) (ps : Nat) (s : State) : Result :=
  s.run (fun d => d.onAdmin src (fun d k c => d.setPowerCmd src k cid.toNat c save ps))

/-- Nanoseconds of ENLAT (04 Power states). -/
def enlat : Nat := 1000 * us

/-- POWER_STATE_ENTRY_END (04 R163, R164, R166): the governor has settled, or ENLAT is over; event 205h. -/
def execPowerStateEntryEnd (s : State) : Result :=
  s.runIf s.dev.frontUp (fun d =>
    match d.nvme.entryAt with
    | none => d
    | some t =>
      if d.nvme.settled < 2 ∧ d.nowOn .ln < t + enlat then d
      else
        let old := d.nvme.ps
        let psCmd := d.nvme.psCmd
        let d := { d with nvme := { d.nvme with ps := d.nvme.target, entryAt := none, psCmd := none } }
        let d := d.event .ln 0x205 (le 1 old ++ le 1 d.nvme.ps)
        match psCmd.bind d.cmd with
        | some c => if c.status.isSome then d else d.setCmd { c with status := some 0 }
        | none => d)

/-- A feature's default value (04 table Features). -/
def featureDefault (k : Nat) (c : Ctrl) : Nat → Option Nat
  | 0x02 => some 0
  | 0x04 => some 358
  | 0x07 => some ((ioLimit k c - 1) * 65536 + ioLimit k c - 1)
  | 0x0B => some 0
  | 0x0F => some (katoOf c.kind 0)
  | 0x81 => some 0
  | 0x82 => some 0
  | 0x83 => some 0
  | _ => none

/-- A feature's current value. -/
def Dev.featureNow (s : Dev) (c : Ctrl) (fid nsid : Nat) : Nat :=
  match fid with
  | 0x02 => s.nvme.ps
  | 0x04 => c.tempThreshold
  | 0x07 => (c.grantedCq - 1) * 65536 + c.granted - 1
  | 0x0B => c.aec
  | 0x0F => c.kato
  | 0x81 => 1
  | 0x82 => c.masks.get 0 nsid
  | 0x83 => (s.resvOf nsid).ptpl.toNat
  | _ => 0

/-- GET_FEATURES (04 R154, table Features): SEL 0 the current value, 1 and 2 the default (no feature is saveable), 3 capabilities: bit 1
namespace specific, bit 2 changeable. -/
def execGetFeatures (src : CmdSource) (cid : BitVec 16) (fid sel nsid : Nat) (s : State) : Result :=
  s.run (fun d => d.onAdmin src (fun d k c =>
    if c.kind = .discovery then d.answerCmd src k cid.toNat stOpcode
    else match featureDefault k c fid, sel with
      | none, _ => d.answerCmd src k cid.toNat stField
      | some _, 0 =>
        if (fid = 0x82 ∨ fid = 0x83) ∧ !(d.tenantNs c.tenant).contains nsid then d.answerCmd src k cid.toNat stNamespace
        else d.answerCmd src k cid.toNat 0 (d.featureNow c fid nsid) (if fid = 0x81 then [[c.hostId]] else [])
      | some v, 1 => d.answerCmd src k cid.toNat 0 v
      | some v, 2 => d.answerCmd src k cid.toNat 0 v
      | some _, 3 => d.answerCmd src k cid.toNat 0 (4 + (if fid = 0x82 ∨ fid = 0x83 then 2 else 0))
      | some _, _ => d.answerCmd src k cid.toNat stField))

/-- ASYNC_EVENT_REQUEST (04 R156, AERL 7): a ninth outstanding request is an invalid field; a held event takes the request. -/
def execAsyncEventRequest (src : CmdSource) (cid : BitVec 16) (s : State) : Result :=
  s.run (fun d => d.onAdmin src (fun d k c =>
    if 8 ≤ c.aers.length then d.answerCmd src k cid.toNat stField
    else
      match c.held with
      | e :: es => (d.setCtrl k { c with held := es }).answerCmd src k cid.toNat 0 (e.log * 65536 + e.info * 256 + e.type)
      | [] =>
        ((d.setCtrl k { c with aers := c.aers ++ [d.nvme.nextCmd] }).newCmd src k cid.toNat (fun x => { x with op := .asyncEvent, opcode := 0x0C })).2))

/-- KEEP_ALIVE (04 R161; 13 R522): restarts the timer; over PCIe none runs. -/
def execKeepAlive (src : CmdSource) (cid : BitVec 16) (s : State) : Result :=
  s.run (fun d => d.onAdmin src (fun d k c =>
    (d.setCtrl k { c with kaAt := d.nowOn .ln }).answerCmd src k cid.toNat 0))

/-- KEEP_ALIVE_EXPIRY (04 R161, R180; 17 R647): the association ends, event 203h. -/
def execKeepAliveExpiry (ctrl : Nat) (s : State) : Result :=
  s.runIf (s.dev.frontUp && !s.dev.mode.quiesced) (fun d =>
    match d.ctrl ctrl with
    | none => d
    | some c =>
      if c.kind = .pcie ∨ c.kato = 0 ∨ !d.expired .ln c.kaAt (c.kato * ms) then d
      else ((d.count .FE_KA_EXPIRED).event .ln 0x203 (le 2 (ctrl + 1))).endAssociation ctrl)

/-- ADMIN_INVALID_OPCODE (04 R154, R155; 13 R522): an opcode the admin table does not list, or the Fabrics opcode over PCIe. -/
def execAdminInvalidOpcode (src : CmdSource) (cid : BitVec 16) (opcode : Nat) (s : State) : Result :=
  s.run (fun d => d.onAdmin src (fun d k c =>
    let known := match c.kind with
      | .discovery => [0x02, 0x06, 0x0C, 0x18].contains opcode
      | .fabric => adminOpcodes.contains opcode && opcode != 0x7F
      | .pcie => ((adminOpcodes ++ [0x00, 0x01, 0x04, 0x05]).contains opcode) && opcode != 0x7F
    if known then d
    else (d.newCmd src k cid.toNat (fun x => { x with opcode := opcode, status := some stOpcode })).2))

end Sys2Proof.Machine
end

