-- ==== Sys2Proof/Machine/NvmeIo.lean ====
section
/-!
DEFINITION. I/O commands of the front end (04): reads and writes, reservations, completion, timeout, and the namespaces and hosts they
serve; the commands of other chapters that need to know them (05 TENANT_DISABLE, 07 KEY_DESTROY).
-/
namespace Sys2Proof.Machine

/-- A command on an I/O queue of a controller, which `f` takes (04 I/O commands). -/
def Dev.onIo (s : Dev) (src : CmdSource) (f : Dev → Nat → Ctrl → Dev) : Dev :=
  match s.comesTo src with
  | some k =>
    match s.ctrl k with
    | some c => if s.srcQid src ≠ 0 ∧ c.kind ≠ .discovery then f s k c else s
    | none => s
  | none => s

/-- Bytes of a block as the host gives or takes it (04 R152, R190). -/
def Dev.blockBytes (s : Dev) (n : Nat) (pract : Bool) : Nat :=
  let f := s.nsLbaf n
  lbaData f + (if pract && s.nsPit n != 0 && lbaMeta f != 0 then 0 else lbaMeta f)

/-- MDTS in bytes (04 Identify Controller values). -/
def mdts : Nat := 2 * 2 ^ 20

/-- The lookup of an I/O command (04 R151, R152, R159, R167, R168, R172, R193; 13 R522): its data length, its ranges, and whether it writes,
where its reservation is to be checked; a volume of another package is looked up and checked there (16 R638). The status and DNR it fails with, if any. -/
def Dev.ioCheck (s : Dev) (src : CmdSource) (c : Ctrl) (a : IoArgs) (len : Nat) (ranges : List (Nat × Nat)) (writes : Option Bool) :
    Option (Nat × Bool) :=
  let n := a.nsid - 1
  let pcie := match src with
    | .pcie _ _ => true
    | _ => false
  let err := fun (b : Bool) (st : Nat) => if b then some (st, false) else none
  let here := !s.foreignVol (s.nsVol n)
  let mine := decide (1 ≤ a.nsid) && decide (a.nsid ≤ 4096) && s.flag .NS_CFG_ACTIVE n && s.nsTenant n == c.tenant
  firstOf [
    err (a.fuse != 0 || a.dtype != 0 || (pcie && a.psdt != 0)) stField,
    err (!mine) stNamespace,
    err (decide (mdts < len)) stField,
    (bufStatus src a.buf len).map (fun st => (st, false)),
    err (ranges.any (fun r => decide (s.nsBlocks n < r.1 + r.2))) stRange,
    if here then s.volumeStatus n else none,
    match writes with
    | some w => err (here && !(s.resvOf a.nsid).allows c.hostId w) stConflict
    | none => none]

/-- An I/O command that fails its lookup is answered. -/
def Dev.ioRefuse (s : Dev) (src : CmdSource) (k cid opcode nsid : Nat) (e : Nat × Bool) : Dev :=
  (s.newCmd src k cid (fun x => { x with opcode := opcode, nsid := nsid, status := some e.1, dnr := e.2 })).2

/-- The fields an accepted I/O command takes from its capsule. -/
def ioFields (s : Dev) (c : Ctrl) (a : IoArgs) (op : CmdOp) (opcode : Nat) (ranges : List (Nat × Nat)) (x : Cmd) : Cmd :=
  { x with op := op, opcode := opcode, nsid := a.nsid, vol := s.nsVol (a.nsid - 1), tenant := c.tenant, ranges := ranges, fua := a.fua
           pract := a.pract, prchk := a.prchk.toNat, ilbrt := a.ilbrt, lbat := a.lbat.toNat, lbatm := a.lbatm.toNat, buf := a.buf }

/-- A command for a volume of another package enters here and goes on once its data have come (16 R638). -/
def Dev.ioForward (s : Dev) (src : CmdSource) (k cid need : Nat) (data : Option Block) (f : Cmd → Cmd) : Dev :=
  let r := s.newCmd src k cid (fun x => { f x with
    need := need, asked := if data.isSome then need else 0, data := (data.map (fun b => slice b 0 need)).getD [], remote := true, checked := need == 0 })
  if need = 0 then r.2.forward r.1 else if data.isSome then r.2.dataCame r.1 else r.2

/-- A tracked I/O command over its LBA ranges (04): refused at lookup, or accepted; over PCIe its data come with it (`data`). -/
def Dev.ioCommand (s : Dev) (src : CmdSource) (cid : Nat) (a : IoArgs) (op : CmdOp) (opcode len need : Nat) (ranges : List (Nat × Nat))
    (data : Block) : Dev :=
  s.onIo src (fun s k c =>
    match s.ioCheck src c a len ranges (some op.writes) with
    | some e => s.ioRefuse src k cid opcode a.nsid e
    | none =>
      let local' := match src with
        | .fabric _ => false
        | _ => true
      if s.foreignVol (s.nsVol (a.nsid - 1)) then
        s.ioForward src k cid need (if local' then some data else none) (ioFields s c a op opcode ranges)
      else
      let r := s.acceptIo src k cid (fun x => { ioFields s c a op opcode ranges x with
        need := need, asked := if local' then need else 0, data := if local' then slice data 0 need else [], checked := need == 0 && op.writes })
      let s := if local' && need != 0 then r.2.capCharge need else r.2
      if local' then s.dataCame r.1 else s)

/-- IO_READ (04 R43, R151-R152, R159, R167, R168, R172, R176, R189-R191; 08 R321, R332, R337, R340). -/
def execIoRead (src : CmdSource) (cid : BitVec 16) (a : IoArgs) (s : State) : Result :=
  s.run (fun d => d.ioCommand src cid.toNat a .read 0x02 ((a.nlb + 1) * d.blockBytes (a.nsid - 1) a.pract) 0 [(a.slba, a.nlb + 1)] [])

/-- IO_WRITE (01 R40; 04 R151-R152, R159, R167, R168, R172, R176, R189-R191; 08 R326-R331). -/
def execIoWrite (src : CmdSource) (cid : BitVec 16) (a : IoArgs) (data : List Byte) (s : State) : Result :=
  s.run (fun d =>
    let n := (a.nlb + 1) * d.blockBytes (a.nsid - 1) a.pract
    d.ioCommand src cid.toNat a .write 0x01 n n [(a.slba, a.nlb + 1)] data)

/-- IO_COMPARE (04 R170). -/
def execIoCompare (src : CmdSource) (cid : BitVec 16) (a : IoArgs) (data : List Byte) (s : State) : Result :=
  s.run (fun d =>
    let n := (a.nlb + 1) * d.blockBytes (a.nsid - 1) a.pract
    d.ioCommand src cid.toNat { a with fua := false } .compare 0x05 n n [(a.slba, a.nlb + 1)] data)

/-- IO_WRITE_ZEROES (04 R168, R169; 08 R342): DEAC changes nothing. -/
def execIoWriteZeroes (src : CmdSource) (cid : BitVec 16) (a : IoArgs) (s : State) : Result :=
  s.run (fun d => d.ioCommand src cid.toNat a .zeroes 0x08 0 0 [(a.slba, a.nlb + 1)] [])

/-- An I/O command that is not tracked (04 R175): refused at lookup, or accepted with its status. -/
def Dev.ioAtOnce (s : Dev) (src : CmdSource) (cid : Nat) (a : IoArgs) (opcode len : Nat) (ranges : List (Nat × Nat)) (writes : Option Bool) : Dev :=
  s.onIo src (fun s k c =>
    match s.ioCheck src c a len ranges writes with
    | some e => s.ioRefuse src k cid opcode a.nsid e
    | none =>
      if s.foreignVol (s.nsVol (a.nsid - 1)) then s.ioForward src k cid 0 none (ioFields s c a .flush opcode ranges)
      else (s.acceptIo src k cid (fun x => { ioFields s c a .flush opcode ranges x with status := some 0 })).2)

/-- IO_DATASET_MANAGEMENT (04 R167, R169, R172; 08 R342): with AD the ranges are written as zeros; without it nothing is done. -/
def execIoDatasetManagement (src : CmdSource) (cid : BitVec 16) (a : IoArgs) (ad : Bool) (ranges : List (Nat × Nat)) (s : State) : Result :=
  s.run (fun d =>
    if ad then d.ioCommand src cid.toNat a .deallocate 0x09 (16 * ranges.length) 0 ranges []
    else d.ioAtOnce src cid.toNat a 0x09 (16 * ranges.length) ranges (some true))

/-- IO_FLUSH (04 R171): Success once accepted. -/
def execIoFlush (src : CmdSource) (cid : BitVec 16) (a : IoArgs) (s : State) : Result :=
  s.run (fun d => d.ioAtOnce src cid.toNat a 0x00 0 [] (some true))

/-- IO_INVALID_OPCODE (04 R167): an opcode that table I/O commands does not list. -/
def execIoInvalidOpcode (src : CmdSource) (cid : BitVec 16) (opcode : Nat) (s : State) : Result :=
  s.run (fun d => d.onIo src (fun d k _ => if ioOpcodes.contains opcode then d else d.ioRefuse src k cid.toNat opcode 0 (stOpcode, false)))

/-- A reservation command (04 R178, R192; its data are operands): refused at lookup, or accepted and done by `f`, which answers the status, the
reply, the hosts to wait for, and the device. -/
def Dev.resvCommand (s : Dev) (src : CmdSource) (cid : Nat) (a : IoArgs) (opcode len : Nat)
    (f : Dev → Ctrl → Nat × List (List Nat) × List Nat × Dev) : Dev :=
  s.onIo src (fun s k c =>
    match s.ioCheck src c a len [] none with
    | some e => s.ioRefuse src k cid opcode a.nsid e
    | none =>
      let s := s.setCtrl k { c with resvSeen := true }
      if s.foreignVol (s.nsVol (a.nsid - 1)) then s.ioForward src k cid 0 none (ioFields s c a .flush opcode [])
      else
      let r := f s c
      (r.2.2.2.acceptIo src k cid (fun x => { ioFields s c a (if r.2.2.1.isEmpty then .flush else .preempt) opcode [] x with
        status := if r.2.2.1.isEmpty then some r.1 else none, reply := r.2.1, preempted := r.2.2.1, resvWrite := true })).2)

/-- The reservation of a namespace ends; its registrants but one are told where the type is for registrants (04 R192). -/
def Dev.resvRelease (s : Dev) (n : Nat) (r : Resv) (by' : Nat) : Dev :=
  let s := s.setResv n { r with rtype := 0, holder := 0 }
  if 3 ≤ r.rtype then s.resvNotice n 2 ((r.regs.map Prod.fst).filter (· != by')) else s

/-- PTPL as CPTPL changes it: 2 clears it, 3 sets it. -/
def ptplOf (r : Resv) (cptpl : Nat) : Bool := if cptpl = 2 then false else if cptpl = 3 then true else r.ptpl

/-- Reservation Register (04 R192): RREGA 0 registers, 1 unregisters, 2 replaces. -/
def Dev.resvRegister (s : Dev) (n host : Nat) (x : ResvArgs) : Nat × Dev :=
  let r := s.resvOf n
  let key := (r.regs.find? (fun e => e.1 == host)).map Prod.snd
  let others := r.regs.filter (fun e => e.1 != host)
  let gen := (r.gen + 1) % 2 ^ 32
  let ptpl := ptplOf r x.cptpl
  if 2 < x.action ∨ x.cptpl = 1 then (stField, s)
  else match x.action, key with
    | 0, some v => if v = x.nrkey.toNat then (0, s.setResv n { r with ptpl := ptpl }) else (stConflict, s)
    | 0, none =>
      if 64 ≤ r.regs.length then (stConflict, s)
      else (0, s.setResv n { r with gen := gen, regs := r.regs ++ [(host, x.nrkey.toNat)], ptpl := ptpl })
    | 1, some v =>
      if !x.iekey ∧ v ≠ x.crkey.toNat then (stConflict, s)
      else
        let r' := { r with gen := gen, regs := others, ptpl := ptpl }
        let ends := r.rtype != 0 && (if 5 ≤ r.rtype then others.isEmpty else r.holder == host)
        (0, if ends then s.resvRelease n r' host else s.setResv n r')
    | 2, some v =>
      if !x.iekey ∧ v ≠ x.crkey.toNat then (stConflict, s)
      else (0, s.setResv n { r with gen := gen, regs := others ++ [(host, x.nrkey.toNat)], ptpl := ptpl })
    | 2, none =>
      if !x.iekey ∨ 64 ≤ r.regs.length then (stConflict, s)
      else (0, s.setResv n { r with gen := gen, regs := r.regs ++ [(host, x.nrkey.toNat)], ptpl := ptpl })
    | _, _ => (stConflict, s)

/-- RESERVATION_REGISTER (04 R178, R192, R195). -/
def execReservationRegister (src : CmdSource) (cid : BitVec 16) (a : IoArgs) (r : ResvArgs) (s : State) : Result :=
  s.run (fun d => d.resvCommand src cid.toNat a 0x0D 16 (fun d c =>
    let e := d.resvRegister a.nsid c.hostId r
    (e.1, [], [], e.2)))

/-- RESERVATION_REPORT (04 R192): generation, type, PTPL, and each registrant: CNTLID of a controller, whether it holds, key, identifier. -/
def execReservationReport (src : CmdSource) (cid : BitVec 16) (a : IoArgs) (eds : Bool) (s : State) : Result :=
  s.run (fun d => d.resvCommand src cid.toNat a 0x0E (dataPtrLen a.buf) (fun d _ =>
    let r := d.resvOf a.nsid
    let items := r.regs.map (fun e =>
      [((d.nvme.ctrls.find? (fun c => c.2.hostId == e.1)).map (fun c => c.1 + 1)).getD 0xFFFF,
       (decide (r.rtype ≠ 0) && (decide (5 ≤ r.rtype) || r.holder == e.1)).toNat, e.2, if eds then e.1 else e.1 % 2 ^ 64])
    (0, [r.gen, r.rtype, r.regs.length, r.ptpl.toNat] :: items, [], d)))

/-- Reservation Acquire (04 R192, R194): RACQA 0 acquires, 1 preempts, 2 preempts and waits for the preempted hosts' commands; event 209h. -/
def Dev.resvAcquire (s : Dev) (n host : Nat) (x : ResvArgs) : Nat × List Nat × Dev :=
  let r := s.resvOf n
  let key := (r.regs.find? (fun e => e.1 == host)).map Prod.snd
  if 2 < x.action ∨ x.rtype = 0 ∨ 6 < x.rtype then (stField, [], s)
  else if key ≠ some x.crkey.toNat then (stConflict, [], s)
  else if x.action = 0 then
    if r.rtype = 0 then (0, [], s.setResv n { r with rtype := x.rtype, holder := host })
    else if r.rtype = x.rtype ∧ (5 ≤ r.rtype ∨ r.holder = host) then (0, [], s)
    else (stConflict, [], s)
  else
    let prkey := x.nrkey.toNat
    let all := decide (5 ≤ r.rtype) && prkey == 0
    let gone := r.regs.filter (fun e => e.1 != host && (all || e.2 == prkey))
    let holderKey := (r.regs.find? (fun e => e.1 == r.holder)).map Prod.snd
    let takes := all || (r.rtype != 0 && decide (r.rtype < 5) && holderKey == some prkey)
    if gone.isEmpty ∧ !takes then (stConflict, [], s)
    else
      let hosts := gone.map Prod.fst
      let r' := { r with gen := (r.gen + 1) % 2 ^ 32, regs := r.regs.filter (fun e => !gone.contains e) }
      let r' := if takes then { r' with rtype := x.rtype, holder := host } else r'
      let s := s.setResv n r'
      let s := if takes && r.rtype != x.rtype && decide (3 ≤ r.rtype) then s.resvNotice n 2 ((r'.regs.map Prod.fst).filter (· != host)) else s
      let s := (s.resvNotice n 1 hosts).eventIf (!hosts.isEmpty) .ln 0x209 (le 4 n ++ leCount hosts.length)
      (0, if x.action = 2 then hosts else [], s)

/-- Commands of preempted hosts on a namespace, accepted before a command and not yet over (04 R194). -/
def Dev.preemptWaits (s : Dev) (c : Cmd) : Bool :=
  s.nvme.cmds.any (fun x => decide (x.id < c.id) && x.io && x.nsid == c.nsid && !x.completed && !x.cancelled &&
    match s.ctrl x.ctrl with
    | some k => c.preempted.contains k.hostId
    | none => false)

/-- RESERVATION_ACQUIRE (04 R156, R178, R192, R194, R195). -/
def execReservationAcquire (src : CmdSource) (cid : BitVec 16) (a : IoArgs) (r : ResvArgs) (s : State) : Result :=
  s.run (fun d => d.resvCommand src cid.toNat a 0x11 16 (fun d c =>
    let e := d.resvAcquire a.nsid c.hostId r
    (e.1, [], e.2.1, e.2.2)))

/-- PREEMPT_WAIT_END (04 R194): every command of the preempted hosts accepted before is over. -/
def execPreemptWaitEnd (cmd : Nat) (s : State) : Result :=
  s.run (fun d =>
    match d.cmd cmd with
    | some c => if c.op = .preempt ∧ c.status.isNone ∧ !d.preemptWaits c then d.setCmd { c with status := some 0 } else d
    | none => d)

/-- Reservation Release (04 R192, R193): RRELA 0 releases, 1 clears. -/
def Dev.resvReleaseCmd (s : Dev) (n host : Nat) (x : ResvArgs) : Nat × Dev :=
  let r := s.resvOf n
  let key := (r.regs.find? (fun e => e.1 == host)).map Prod.snd
  if 1 < x.action then (stField, s)
  else if key.isNone ∨ (!x.iekey ∧ key ≠ some x.crkey.toNat) then (stConflict, s)
  else if x.action = 0 then
    if r.rtype = 0 ∨ (r.rtype < 5 ∧ r.holder ≠ host) then (0, s)
    else if r.rtype ≠ x.rtype then (stField, s)
    else (0, s.resvRelease n r host)
  else
    let s := s.setResv n { r with gen := (r.gen + 1) % 2 ^ 32, regs := [], rtype := 0, holder := 0 }
    (0, s.resvNotice n 3 ((r.regs.map Prod.fst).filter (· != host)))

/-- RESERVATION_RELEASE (04 R178, R192, R193, R195). -/
def execReservationRelease (src : CmdSource) (cid : BitVec 16) (a : IoArgs) (r : ResvArgs) (s : State) : Result :=
  s.run (fun d => d.resvCommand src cid.toNat a 0x15 8 (fun d c =>
    let e := d.resvReleaseCmd a.nsid c.hostId r
    (e.1, [], [], e.2)))

/-- COMMAND_TIMEOUT (04 R173): CMD_TO after its acceptance a command not finished ends with 21h; event 204h. -/
def execCommandTimeout (cmd : Nat) (s : State) : Result :=
  s.runIf s.dev.frontUp (fun d =>
    match d.cmd cmd with
    | none => d
    | some c =>
      if !(c.io || c.remote) ∨ c.completed ∨ c.cancelled ∨ c.status.isSome ∨ !d.expired .ln c.accepted (d.fld .FE_CFG_CMD_TO * ms) then d
      else
        let d := (d.count .FE_CMD_TIMEOUT).event .ln 0x204 (le 2 c.sqid ++ le 2 c.cid ++ le 4 c.nsid)
        let c := { c with status := some stInterrupted, staging := 0 }
        (d.setCmd c).releaseAccs c)

/-- A command's RDMA READs still outstanding (04 R181). -/
def Dev.readsOut (s : Dev) (c : Cmd) : Bool :=
  match c.src with
  | .fabric i => (s.qp i).out.any (fun w => w.kind == .read && w.cmd == c.id)
  | _ => false

/-- The stage a tracked command had begun has ended, or all of it has (04 R177, R181). -/
def Dev.mayFinish (s : Dev) (c : Cmd) : Bool :=
  let stopped := c.status.isSome
  if c.op.reads then
    if stopped then c.reading == 0 && !s.readsOut c else c.dispatched && c.gathered && c.reading == 0 && (c.op == .read || c.checked)
  else if c.durableAt.isSome then true
  else stopped && c.reading == 0 && !s.readsOut c && match c.record with
    | some q => (s.record (s.volPier c.vol) q).isNone
    | none => true

/-- The outcome of a read or Compare whose blocks are all in hand (04 R43, R170, R189, R190; 08 R340): a block that cannot be had or is listed, a
failing check, a difference, or its data. -/
def Dev.readOutcome (s : Dev) (c : Cmd) : Dev :=
  let n := c.nsid - 1
  let per := lbaPerUnit (s.nsLbaf n)
  let bad := c.lbas.find? (fun l => s.listed c.vol (s.nsBase n + l / per) || (s.lbaPlain c l).isNone)
  match bad with
  | some l => (s.event .ln 0x207 (le 4 c.nsid ++ le 8 l)).setCmd { c with status := some stUnread, errLba := some l }
  | none =>
    match s.piCheck c (fun l _ => s.lbaPlain c l) with
    | some (l, f) =>
      ((s.count .FE_PI_ERR).event .ln 0x208 (le 4 c.nsid ++ le 8 l ++ le 1 f)).setCmd { c with status := some (stGuard + f), errLba := some l }
    | none =>
      let data := c.lbas.flatMap (fun l => ((s.lbaPlain c l).getD []).take (s.hostBlock c))
      if c.op = .read then s.setCmd { c with status := some 0, data := data, dataAt := s.nowOn .ln }
      else s.setCmd { c with status := some (if data = c.data then 0 else stCompare) }

/-- LBAs of a piece of a namespace's extent. -/
def Dev.lbasOf (s : Dev) (n a b : Nat) : List (Nat × Nat) :=
  let per := lbaPerUnit (s.nsLbaf n)
  [((a - s.nsBase n) * per, (b - a) * per)]

/-- The next part of a namespace's extent is cleared (08 R324): whole stripes by Write Zeroes to all their strips, the rest by partial writes of
zero-stored blocks, at most 512 units each. -/
def Dev.clearNext (s : Dev) (n : Nat) : Dev :=
  let v := s.nsVol n
  let a := s.nvme.clearAt.get (s.nsBase n) n
  let e := s.nsBase n + s.nsSize n
  let g := s.geom v false
  let su := g.stripeUnits
  let whole := if (s.vol v).reshape.isNone ∧ su ≠ 0 ∧ a % su = 0 then (e - a) / su else 0
  let s := if whole = 0 then s
    else
      let online := s.membersIn v [.online, .rebuilding]
      let away := decide ((s.membersIn v [.online]).length < (s.vol v).members.length)
      let regions := (List.range ((a + whole * su - 1) / regionUnits + 1 - a / regionUnits)).map (· + a / regionUnits)
      let s := if away then s.setBits v [] (regions.filter (fun r => !(s.vol v).absent.contains r)) else s
      online.foldl (fun s m => s.emit (.memberZeroes m.2 (g.memberUnit (a / su) 0) (whole * g.u))) s
  let a := a + whole * su
  let b := min e (min (a + 512) (if su = 0 then e else (a / su + 1) * su))
  let at' := s.nvme.clearAt.insert n b
  let s := { s with nvme := { s.nvme with clearAt := at' } }
  if e ≤ a then s
  else
    let id := s.nvme.nextCmd
    let c : Cmd := { id := id, ctrl := noCtrl, src := .pcie 0 0, op := .deallocate, nsid := n + 1, vol := v, ranges := s.lbasOf n a b
                     accepted := s.nowOn .ln, checked := true, completed := true }
    ({ s with nvme := { s.nvme with nextCmd := id + 1, cmds := s.nvme.cmds ++ [c] } }).dispatch id

/-- COMMAND_FINISH (04 R176, R177; 10 R428): the command leaves the tracker; a read has its outcome first. -/
def execCommandFinish (cmd : Nat) (s : State) : Result :=
  s.run (fun d =>
    match d.cmd cmd with
    | none => d
    | some c =>
      if c.finished || !d.mayFinish c then d
      else
        let d := if c.op.reads && c.status.isNone then d.readOutcome c else d
        let d := d.finishCmd cmd
        if c.io || c.op != .deallocate then d else d.clearNext (c.nsid - 1))

/-- Whether a command's completion can be issued now (04 R164, R182, R195; 03 R109; 13). -/
def Dev.mayComplete (s : Dev) (c : Cmd) : Bool :=
  let st := c.status.getD 0
  s.frontUp && c.status.isSome && !c.completed && !c.cancelled &&
  (c.op != .setPower || st != 0 || (s.nvme.psCmd != some c.id && !s.nvme.cmds.any (fun x => x.entry == some c.id && !x.completed && !x.cancelled))) &&
  (!c.resvWrite || !s.reservedBusy c.vol) &&
  match c.src with
  | .fabric i => decide ((s.qp i).st = .rts) && (st != 0 || ((c.op != .read || c.sent == c.data.length) && (c.reply.isEmpty || decide (0 < c.sent))))
  | .pcie fn q =>
    (s.epFn (epOfNvme fn.val)).busMaster && s.capOpen && match s.ctrl (pcieCtrl fn.val) with
    | some x =>
      let cq := x.cqs.get {} (if q = 0 then 0 else (x.sq q).cq)
      decide (cq.size ≠ 0) && (cq.tail + 1) % cq.size != cq.head
    | none => false
  | .bond k _ => (s.bond k.val).up

/-- COMPLETION_ISSUE (04 R153, R174, R182; 05 R228): the completion goes to the transport, or into the completion queue. -/
def execCompletionIssue (cmd : Nat) (s : State) : Result :=
  s.run (fun d =>
    match d.cmd cmd with
    | none => d
    | some c =>
      if !d.mayComplete c then d
      else
        let st := c.status.getD 0
        let d := d.setCmd { c with completed := true }
        let d := if st = 0 then d
          else
            let d := d.count .FE_CMD_ERR
            let d := if st = stConflict then d.count .FE_RESV_CONFLICT else d
            let d := if st = stOpcode ∨ st = stField then { d with nvme := { d.nvme with invalids := d.nvme.invalids + 1 } } else d
            match d.ctrl c.ctrl with
            | some x => d.setCtrl c.ctrl { x with
                errCount := x.errCount + 1
                errLog := ((⟨x.errCount + 1, c.sqid, c.cid, st, c.errLba.getD 0, c.nsid⟩ : ErrEntry) :: x.errLog).take 64 }
            | none => d
        let d : Dev := match c.src with
          | .fabric i =>
            let inval := match c.buf with
              | .keyed _ _ key true => if st = 0 then some key.toNat else none
              | _ => none
            let q := d.qp i
            d.setQp i { q with sendQ := q.sendQ ++ [({ cmd := c.id, cid := c.cid, status := st, dnr := c.dnr, dw0 := c.dw0, inval := inval
                                                       cls := d.cmdClass c } : Capsule)] }
          | .pcie fn q =>
            let d := if st = 0 ∧ c.op = CmdOp.read then (d.capCharge c.data.length).emit (.dmaData (epOfNvme fn.val) c.id c.data) else d
            let d := if st = 0 ∧ !c.reply.isEmpty then d.emit (.reply c.id c.reply) else d
            d.placeCqe fn.val q c.cid st c.dw0 c.dnr
          | .bond k tag => (d.bondSend k.val bondCompletionType 0 (64 + c.data.length)).emit
              (.bondCompletion k.val tag st c.dw0 c.dnr (if st = 0 ∧ c.op = CmdOp.read then c.data else []))
        let d := (d.commandOver c (st == 0) (c.lbas.length * d.hostBlock c)).sampleEnd c (st % 2048)
        d.sweep cmd)

/-- A front-end configuration write refused (04 R196, R198): event 206h. -/
def Dev.frontRefused (s : Dev) (r : Reg) : Dev := s.event .ln 0x206 (le 8 (Reg.addr r))

/-- The namespace a write names: NS_SEL's for a register write (none where it selects nothing), the object's for a dictionary write. -/
def Dev.nsNamed (s : Dev) (via : Via) (n : Nat) : Option Nat :=
  match via with
  | .reg _ => let k := s.fld .NS_SEL_NSID; if 1 ≤ k ∧ k ≤ 4096 then some (k - 1) else none
  | .dict _ => some n

/-- The settings of a namespace may be written (04 R196): it is neither active, draining nor being cleared. -/
def Dev.nsIdle (s : Dev) (n : Nat) : Bool := !s.liveNs.contains n

/-- Store NS_CFG's fields but ACTIVE. -/
def Dev.nsFields (s : Dev) (n : Nat) (w : Word) : Dev :=
  let s := s.setFld .NS_CFG_PIT n (bitsOf w 30 29)
  let s := s.setFld .NS_CFG_LBAF n (bitsOf w 26 24)
  let s := s.setFld .NS_CFG_VOLUME n (bitsOf w 21 16)
  s.setFld .NS_CFG_TENANT n (bitsOf w 9 0)

/-- A namespace may be made active (04 R196; 07 R278). -/
def Dev.nsMayActivate (s : Dev) (n : Nat) : Bool :=
  let v := s.nsVol n
  let f := s.nsLbaf n
  let mb := if s.flag .VOL_CFG_MBS v then 512 else 4096
  let a := s.nsBase n
  let b := a + s.nsSize n
  let k := s.keySlot keyMedia n
  decide ((s.vol v).st ≠ .none) && decide (f ≤ 4) && decide (b ≤ s.volUnits v) &&
  (s.nsPit n == 0 || lbaMeta f != 0) && (decide (mb ≤ lbaData f) || mb == 512 || lbaData f == 512) &&
  !s.liveNs.any (fun m => s.nsVol m == v && decide (max a (s.nsBase m) < min b (s.nsBase m + s.nsSize m))) &&
  (decide (k.state = .loaded) || (decide (k.state = .empty) && k.running.isNone && s.cust.kek.isSome && s.cust.rngOk))

/-- Make a namespace active where it may be; its media key is generated first (04 R196; 07 R278). Whether it was. -/
def Dev.nsActivate (s : Dev) (n : Nat) : Bool × Dev :=
  if !s.nsMayActivate n then (false, s.frontRefused .NS_CFG)
  else
    let s := if (s.keySlot keyMedia n).state = .loaded then s else s.generateKey keyMedia n
    (true, (s.setFld .NS_CFG_ACTIVE n 1).nsNotice (s.nsTenant n) (n + 1))

/-- NS_ACTIVATE (04 R196; 07 R278): a write of NS_CFG with ACTIVE set. -/
def execNsActivate (via : Via) (ns : Fin 4096) (value : Word) (s : State) : Result :=
  s.run (fun d => d.viaCommand via (Reg.addr .NS_CFG) (fun d =>
    match d.nsNamed via ns.val with
    | none => (d, abortOk)
    | some n =>
      if !d.nsIdle n then (d.frontRefused .NS_CFG, abortState)
      else
        let r := (d.nsFields n value).nsActivate n
        (r.2, if r.1 then abortOk else abortRefused)))

/-- A namespace stops taking commands (04 R197). -/
def Dev.nsDeactivate (s : Dev) (n : Nat) : Dev :=
  let s := s.setFld .NS_CFG_ACTIVE n 0
  { s with nvme := { s.nvme with draining := s.nvme.draining ++ [n] } }

/-- NS_DEACTIVATE (04 R197): ACTIVE is cleared; its other fields stay. -/
def execNsDeactivate (via : Via) (ns : Fin 4096) (s : State) : Result :=
  s.run (fun d => d.viaCommand via (Reg.addr .NS_CFG) (fun d =>
    match d.nsNamed via ns.val with
    | none => (d, abortOk)
    | some n => (if d.flag .NS_CFG_ACTIVE n then d.nsDeactivate n else d, abortOk)))

/-- NS_INACTIVE (04 R156, R197; 08 R324): the commands accepted for the namespace have finished; the notice goes out and its extent is
cleared. -/
def execNsInactive (ns : Fin 4096) (s : State) : Result :=
  let n := ns.val
  s.runIf (s.dev.nvme.draining.contains n) (fun d =>
    if d.nvme.cmds.any (fun c => c.io && c.nsid == n + 1) then d
    else
      let v := d.nsVol n
      let d := { d with nvme := { d.nvme with draining := d.nvme.draining.filter (· != n) } }
      let x := d.vol v
      let d := d.setVol v { x with clearing := x.clearing ++ [n] }
      (d.nsNotice (d.nsTenant n) (n + 1)).clearNext n)

/-- NS_CLEAR_COMPLETE (08 R324, R325, R342): nothing of the extent is left to clear; listed blocks in it leave the list; event 349h. A
clearing that a start cut off begins again. -/
def execNsClearComplete (ns : Fin 4096) (s : State) : Result :=
  let n := ns.val
  s.run (fun d =>
    let v := d.nsVol n
    let x := d.vol v
    let p := d.volPier v
    let e := d.nsBase n + d.nsSize n
    if !x.clearing.contains n || !d.pierUp p || d.reservedBusy v || d.nvme.cmds.any (fun c => !c.io && c.op == .deallocate && c.nsid == n + 1) then d
    else match d.nvme.clearAt.find n with
      | none => d.clearNext n
      | some a =>
        if a < e then d.clearNext n
        else
          let inside := fun (u : Nat) => decide (d.nsBase n ≤ u) && decide (u < e)
          let gone := x.bad.filter inside
          let marks := d.nvme.clearAt.erase n
          let d := { d with nvme := { d.nvme with clearAt := marks } }
          let d := d.setVol v { x with clearing := x.clearing.filter (· != n), bad := x.bad.filter (fun u => !inside u) }
          let d := if gone.isEmpty then d
            else ((d.count .PAR_BB_REMOVED p (gone.length * d.gran v)).reservedWrite v 8192 ((d.membersIn v [.online, .rebuilding]).map Prod.snd)).event
              (pierDie p) 0x347 (le 1 v ++ le 8 (gone.head?.getD 0 * d.gran v))
          (d.count .PAR_CLEAR_UNITS p (d.nsSize n)).event (pierDie p) 0x349 (le 1 v ++ le 4 (n + 1)))

/-- A write of HOST_CFG (04 R198): TENANT may not change under a live controller. Whether it was applied. -/
def Dev.hostCfgWrite (s : Dev) (h : Nat) (enable priv : Bool) (maxCtrl tenant : Nat) : Bool × Dev :=
  if tenant ≠ s.fld .HOST_CFG_TENANT h ∧ s.hostCtrls h ≠ 0 then (false, s.frontRefused .HOST_CFG)
  else
    let s := s.setFld .HOST_CFG_ENABLE h enable.toNat
    let s := s.setFld .HOST_CFG_PRIV h priv.toNat
    let s := s.setFld .HOST_CFG_MAX_CTRL h (clampTo 1 16 maxCtrl)
    (true, s.setFld .HOST_CFG_TENANT h tenant)

/-- HOST_CFG_WRITE (04 R198). -/
def execHostCfgWrite (via : Via) (host : Fin 1024) (value : Word) (s : State) : Result :=
  s.run (fun d => d.viaCommand via (Reg.addr .HOST_CFG) (fun d =>
    let h := match via with
      | .reg _ => d.fld .HOST_SEL_INDEX
      | .dict _ => host.val
    let r := d.hostCfgWrite h (bitOf value 31) (bitOf value 30) (bitsOf value 20 16) (bitsOf value 9 0)
    (r.2, if r.1 then abortOk else abortRefused)))

/-- A tenant has a live controller, an active namespace or a VALID window (05 R201). -/
def Dev.tenantBusy (s : Dev) (t : Nat) : Bool :=
  s.nvme.ctrls.any (fun e => e.2.tenant == t) || !(s.tenantNs t).isEmpty ||
  s.rdma.wins.any (fun e => e.2.st == .valid && s.fld .WIN_CFG_TENANT e.1 == t)

/-- TENANT_DISABLE (05 R201). -/
def execTenantDisable (_req : Requester) (pol shp : Bool) (weight : Fin 256) (s : State) : Result :=
  s.run (fun d => d.regWrite (Reg.addr .TN_CFG) (fun d => (d.tnCfgWrite d.tnSel (d.tenantBusy d.tnSel) false pol shp weight.val).2))

/-- KEY_DESTROY (07 R277, R281-R283). -/
def execKeyDestroy (via : KeyVia) (s : State) : Result :=
  s.run (fun d => d.keyDestroy (fun v => decide ((d.vol v).st ≠ .none)) via)

end Sys2Proof.Machine
end

