-- ==== Sys2Proof/Machine/Endpoint.lean ====
section
/-!
DEFINITION. The commands of the host endpoint (13): link, functions and their resets, queues over PCIe, the peer aperture, Bus Master
Enable and received errors.
-/
namespace Sys2Proof.Machine

/-- The endpoint works: LN is up and its region is not isolated (01 R20). -/
def Dev.epUp (s : Dev) : Bool := s.mode.diesUp && !s.isolated 18

/-- An NVMe function can be accessed (13 R517, R539): the link is up, a VF is ready, no FLR is in progress. -/
def Dev.nvmeFnUp (s : Dev) (fn : Nat) : Bool :=
  let x := s.epFn (epOfNvme fn)
  s.epUp && s.ep.up && !x.flr && (fn == 0 || x.ready)

/-- Key of the count of refused requests of an aperture window, for event 3E6h (00 R9). -/
def markAperture (w : Nat) : Nat := 200 + w

/-- An endpoint configuration write is refused, event 3E4h with the register's address (13 R516, R525, R540). -/
def Dev.epRefused (s : Dev) (addr : Nat) : Dev := s.event .ln 0x3E4 (le 8 addr)

/-- The controller of an NVMe function at its reset values (13 R519, R536). -/
def pcieFresh : Ctrl := { kind := .pcie }

/-- An NVMe function's controller exists, at its reset values. -/
def Dev.pcieStart (s : Dev) (fn : Nat) : Dev := s.setCtrl (pcieCtrl fn) pcieFresh

/-- The reset of an NVMe function (13 R536, R537): its commands are cancelled and its queues go; its configuration returns to reset
values. A VF that is disabled has no controller. -/
def Dev.nvmeFnReset (s : Dev) (fn : Nat) : Dev :=
  let k := pcieCtrl fn
  let s := s.cancelWhere (fun c => c.ctrl == k) false
  let ctrls := s.nvme.ctrls.erase k
  let s := { s with nvme := { s.nvme with ctrls := ctrls } }
  s.setEpFn (epOfNvme fn) {}

/-- VF Enable is cleared: every VF is reset and gone (13 R516, R536). -/
def Dev.vfsOff (s : Dev) : Dev :=
  let s := { s with ep := { s.ep with vfEnable := false } }
  ((List.range 64).map (· + 1)).foldl (fun s v => if (s.ctrl (pcieCtrl v)).isSome || decide (s.epFn (v + 1) ≠ {}) then s.nvmeFnReset v else s) s

/-- An FLR of PF0 begins (13 R536): it is reset, and VF Enable with it. -/
def Dev.pf0Reset (s : Dev) : Dev :=
  let s := ((s.nvmeFnReset 0).vfsOff).pcieStart 0
  s.setEpFn 0 { flr := true }

/-- An FLR of PF1 begins (13 R538; 14 R552, R580). -/
def Dev.pf1Reset (s : Dev) : Dev :=
  let s := s.chansAbortBus
  let s := s.setFld .OFL_CTL_EN 0 0
  let s := s.setFld .MTR_EXP_CTL_EN 0 0
  let s := (List.range 3).foldl (fun s k => (s.setFld .EP_IRQ_SRC_EN k 0).setFld .EP_IRQ_SRC_VEC k 0) s
  let s := ((s.setFld .EP_CFG_PRIV 0 0).setFld .MG_CTL_GO 0 0).forgetAnswer pf1Session
  let s := s.setSession pf1Session {}
  { s with ep := { s.ep with msix := [] } }.setEpFn 1 { flr := true }

/-- ENDPOINT_LINK_UP (13 R509, R540): the link trains; the Subsystem ID and the vectors' division are latched; event 3E0h, or 3E1h below
64 GT/s or x16. -/
def execEndpointLinkUp (rate : Fin 7) (width : Fin 17) (flit : Bool) (s : State) : Result :=
  s.runIf (s.dev.epUp && !s.dev.ep.up && rate.val != 0 && width.val != 0) (fun d =>
    let d := { d with ep := { d.ep with up := true, flit := flit, rate := rate.val, width := width.val, ssid := d.fld .EP_CFG_SSID
                                        pf0Vec := d.fld .EP_VEC_PF0_VEC, vfVec := d.fld .EP_VEC_VF_VEC } }
    let d := if (d.ctrl (pcieCtrl 0)).isNone then d.pcieStart 0 else d
    d.event .ln (if rate.val = 6 ∧ width.val = 16 then 0x3E0 else 0x3E1) (le 1 rate.val ++ le 1 width.val))

/-- The endpoint link goes down with every function reset (13 R513); event 3E1h. -/
def Dev.endpointReset (s : Dev) : Dev :=
  let was := s.ep.up
  let s := { s with ep := { s.ep with up := false, flit := false, rate := 0, width := 0 } }
  (s.pf0Reset.pf1Reset).eventIf was .ln 0x3E1 (le 1 0 ++ le 1 0)

/-- ENDPOINT_RESET (13 R513; 14 R552). -/
def execEndpointReset (_why : LinkEnd) (s : State) : Result := s.runIf s.dev.epUp (·.endpointReset)

/-- A command over PCIe whose data could not be had fails with 04h Data Transfer Error (13 R512, R542). -/
def Dev.dataFailed (s : Dev) (id : Nat) : Dev :=
  match s.cmd id with
  | none => s
  | some c =>
    match c.src with
    | .fabric _ => s
    | .bond _ _ => s
    | .pcie _ _ =>
      if c.completed ∨ c.cancelled ∨ c.status.isSome then s
      else
        let c := { c with status := some stTransfer, staging := 0 }
        (s.setCmd c).releaseAccs c

/-- COMPLETION_TIMEOUT (13 R512; 12 R501): its issuer fails the request; event 3E5h per window. -/
def execCompletionTimeout (who : EpIssuer) (s : State) : Result :=
  s.runIf (s.dev.epUp && s.dev.ep.up) (fun d =>
    let counted := fun (d : Dev) => d.count .EP_CPL_TIMEOUT
    match who with
    | .channel ch addr =>
      let x := d.chan ch.val
      if x.st ≠ .running ∨ !d.chanUsesHost ch.val then d else (counted d).chanHalt ch.val 5 (x.srcList.length - 1) addr.toNat
    | .data id =>
      match d.cmd id with
      | none => d
      | some c =>
        match c.src with
        | .fabric _ => d
        | .bond _ _ => d
        | .pcie _ _ => (counted d).dataFailed id
    | .fetch fn =>
      match d.ctrl (pcieCtrl fn.val) with
      | none => d
      | some c => (counted d).setCtrl (pcieCtrl fn.val) { c with cfs := true })

/-- VF_ENABLE (13 R516; table SR-IOV values): without ARI Capable Hierarchy a write of VF Enable is ignored, event 3E4h. NumVFs above 64
is stored as 64. -/
def execVfEnable (on ari : Bool) (numVfs : Word) (s : State) : Result :=
  s.runIf (s.dev.epUp && s.dev.ep.up && !(s.dev.epFn 0).flr) (fun d =>
    if !ari then d.epRefused 0x158
    else if !on then d.vfsOff
    else if d.ep.vfEnable then d
    else { d with ep := { d.ep with vfEnable := true, numVfs := min 64 numVfs.toNat } })

/-- VF_READY (13 R517, R519). -/
def execVfReady (vf : Fin 65) (s : State) : Result :=
  let v := vf.val
  s.runIf (s.dev.epUp && s.dev.ep.up && s.dev.ep.vfEnable && v != 0 && decide (v ≤ s.dev.ep.numVfs) && !(s.dev.epFn (v + 1)).ready)
    (fun d => (d.pcieStart v).setEpFn (v + 1) { d.epFn (v + 1) with ready := true })

/-- PCIE_CC_ENABLE (13 R519, R521; 04 R157, R180): CC of an NVMe function is written, with AQA as it stands. Setting EN takes the host entry from
EP_FN_CFG and makes the admin queues; where EP_FN_CFG.EN is 0 the controller sets CFS, event 3EAh. -/
def execPcieCcEnable (fn : Fin 65) (value aqa : Word) (s : State) : Result :=
  let k := pcieCtrl fn.val
  s.runIf (s.dev.nvmeFnUp fn.val && s.dev.frontUp) (fun d =>
    match d.ctrl k with
    | none => d
    | some c =>
      let starts := c.cc % 2 = 0 ∧ value.toNat % 2 = 1
      let d := d.ccWrite k none value.toNat
      match d.ctrl k with
      | none => d
      | some c =>
        if !starts then d
        else
          let h := d.fld .EP_FN_CFG_HOST fn.val
          let c := { c with host := h, tenant := d.fld .HOST_CFG_TENANT h
                            sqs := [(0, { size := bitsOf aqa 11 0 + 1 })]
                            cqs := [(0, { size := bitsOf aqa 27 16 + 1 })] }
          if d.flag .EP_FN_CFG_EN fn.val then d.setCtrl k c
          else (d.setCtrl k { c with cfs := true, enableAt := none }).event .ln 0x3EA (le 1 (epOfNvme fn.val)))

/-- Vectors of an NVMe function (13 R540). -/
def Dev.nvmeVecs (s : Dev) (fn : Nat) : Nat := if fn = 0 then s.ep.pf0Vec else s.ep.vfVec

/-- An admin command over PCIe that `f` does: its status and the controller after it. -/
def Dev.queueCommand (s : Dev) (fn cid opcode : Nat) (f : Dev → Ctrl → Nat × Ctrl) : Dev :=
  let src : CmdSource := if h : fn < 65 then .pcie ⟨fn, h⟩ 0 else .pcie 0 0
  s.onAdmin src (fun s k _ =>
    let r := s.newCmd src k cid (fun x => { x with opcode := opcode })
    match r.2.ctrl k, r.2.cmd r.1 with
    | some c, some x =>
      let e := f r.2 c
      ((if e.1 = 0 then r.2.setCtrl k e.2 else r.2)).setCmd { x with status := some e.1 }
    | _, _ => r.2)

/-- CREATE_IO_SQ (13 R523). -/
def execCreateIoSq (fn : Fin 65) (cid : BitVec 16) (a : QueueArgs) (cqid : Nat) (s : State) : Result :=
  s.run (fun d => d.queueCommand fn.val cid.toNat 0x01 (fun d c =>
    if a.qid = 0 ∨ min c.granted (ioLimit (pcieCtrl fn.val) c) < a.qid ∨ (c.sqs.find a.qid).isSome ∨ 4095 < a.qsize.toNat ∨ !a.pc ∨
        cqid = 0 ∨ (c.cqs.find cqid).isNone ∨ 65536 ≤ d.ioQueues then (stField, c)
    else
      let t := c.sqs.insert a.qid { size := a.qsize.toNat + 1, cq := cqid }
      (0, { c with sqs := t, ioConnected := true })))

/-- CREATE_IO_CQ (13 R523). -/
def execCreateIoCq (fn : Fin 65) (cid : BitVec 16) (a : QueueArgs) (irq : Bool) (vec : Nat) (s : State) : Result :=
  s.run (fun d => d.queueCommand fn.val cid.toNat 0x05 (fun d c =>
    if a.qid = 0 ∨ min c.grantedCq (ioLimit (pcieCtrl fn.val) c) < a.qid ∨ (c.cqs.find a.qid).isSome ∨ 4095 < a.qsize.toNat ∨ !a.pc ∨
        d.nvmeVecs fn.val ≤ vec then (stField, c)
    else
      let t := c.cqs.insert a.qid { size := a.qsize.toNat + 1, vec := vec, irq := irq }
      (0, { c with cqs := t, ioConnected := true })))

/-- DELETE_IO_SQ (04 R180-R184): the queue's commands complete with 08h, then the Delete completes and the queue is gone. -/
def execDeleteIoSq (fn : Fin 65) (cid : BitVec 16) (qid : Nat) (s : State) : Result :=
  s.run (fun d =>
    match d.comesTo (.pcie fn 0) with
    | none => d
    | some k =>
      let known := decide (qid ≠ 0) && ((d.ctrl k).bind (fun c => c.sqs.find qid)).isSome
      let d := if known then d.cancelWhere (fun c => c.src == .pcie fn qid) true else d
      d.queueCommand fn.val cid.toNat 0x00 (fun _ c =>
        if known then
          let t := c.sqs.erase qid
          (0, { c with sqs := t })
        else (stField, c)))

/-- DELETE_IO_CQ (13 R523). -/
def execDeleteIoCq (fn : Fin 65) (cid : BitVec 16) (qid : Nat) (s : State) : Result :=
  s.run (fun d => d.queueCommand fn.val cid.toNat 0x04 (fun _ c =>
    if qid = 0 ∨ (c.cqs.find qid).isNone ∨ c.sqs.any (fun e => e.1 != 0 && e.2.cq == qid) then (stField, c)
    else
      let t := c.cqs.erase qid
      (0, { c with cqs := t })))

/-- A doorbell of a queue of an NVMe function (13 table NVMe function layout, R539). -/
def Dev.doorbell (s : Dev) (fn : Nat) (f : Ctrl → Ctrl) : Dev :=
  match s.ctrl (pcieCtrl fn) with
  | some c => if s.nvmeFnUp fn then s.setCtrl (pcieCtrl fn) (f c) else s
  | none => s

/-- SQ_TAIL_DOORBELL (13 R522): the entries up to the tail are fetched from then on. -/
def execSqTailDoorbell (fn : Fin 65) (qid : Nat) (value : BitVec 16) (s : State) : Result :=
  s.runIf s.dev.frontUp (·.doorbell fn.val (fun c =>
    let q := c.sq qid
    if q.size ≤ value.toNat then c
    else
      let t := c.sqs.put {} qid { q with tail := value.toNat }
      { c with sqs := t }))

/-- CQ_HEAD_DOORBELL (13 R522): the entries before the head are free. -/
def execCqHeadDoorbell (fn : Fin 65) (qid : Nat) (value : BitVec 16) (s : State) : Result :=
  s.runIf s.dev.frontUp (·.doorbell fn.val (fun c =>
    let q := c.cqs.get {} qid
    if q.size ≤ value.toNat then c
    else
      let t := c.cqs.put {} qid { q with head := value.toNat }
      { c with cqs := t }))

/-- An aperture request is refused: counted, and in the window's count for event 3E6h (13 R526, R527). -/
def Dev.apRefuse (s : Dev) (w : Nat) (answer : Option Out) : Dev :=
  let s := (s.count .EP_AP_REJECT).addMark (markAperture w)
  match answer with
  | some o => s.emit o
  | none => s

/-- The pier of a stack cannot be reached by the aperture (13 R527). -/
def Dev.stackCutOff (s : Dev) (stack : Nat) : Bool :=
  !s.seamUp (1 + stack) || s.isolated (stack * 6 + 5) || s.isolated (stack * 6 + 4)

/-- APERTURE_REQUEST (13 R524, R526-R529). `hbmOk` false: the read meets an uncorrectable HBM error (its AER status is a free value). A request lies within a 4 KiB page (R511). -/
def execApertureRequest (offset : BitVec 34) (req : ApRequest) (hbmOk : Bool) (s : State) : Result :=
  s.runIf (s.dev.epUp && s.dev.ep.up && !(s.dev.epFn 1).flr) (fun d =>
    let off := offset.toNat
    let w := off / 2 ^ 30
    let len := match req with
      | .read n => n
      | .write data => data.length
      | .atomic => 1
    if len = 0 ∨ 4096 < off % 4096 + len then d
    else
      let closed := decide (d.modeNow = .safe)
      let cut := d.stackCutOff (d.fld .EP_WIN_STACK w)
      match req with
      | .atomic => d.apRefuse w (some .apUnsupported)
      | .read n =>
        match d.apTranslate off false with
        | some t =>
          if closed then d.apRefuse w (some .apUnsupported)
          else if cut then d.apRefuse w (some .apAbort)
          else if hbmOk then d.emit (.apData (d.hbmRead t n) false)
          else
            let r := (d.count .EP_POISONED).draw
            (r.2.event .ln 0x3E7 (le 1 1 ++ le 4 r.1)).emit (.apData [] true)
        | none => d.apRefuse w (some .apUnsupported)
      | .write data =>
        match d.apTranslate off true with
        | some t => if closed || cut then d.apRefuse w none else d.hbmWrite t data
        | none => d.apRefuse w none)

/-- APERTURE_WINDOW_WRITE (13 R525, R529, R530): a UNIT outside 16-23 is refused. -/
def execApertureWindowWrite (via : Via) (w : Fin 16) (value : Word) (s : State) : Result :=
  let addr := Reg.addr .EP_WIN w.val
  s.run (·.viaCommand via addr (fun d =>
    let u := bitsOf value 4 0
    if u < 16 ∨ 23 < u then (d.epRefused addr, abortRefused)
    else
      let d := d.setFld .EP_WIN_EN w.val (bitOf value 31).toNat
      let d := d.setFld .EP_WIN_WRITE w.val (bitOf value 30).toNat
      let d := d.setFld .EP_WIN_READ w.val (bitOf value 29).toNat
      let d := d.setFld .EP_WIN_STACK w.val (bitOf value 8).toNat
      (d.setFld .EP_WIN_UNIT w.val u, abortOk)))

/-- The NVMe function of a PCIe function: PF0 and the VFs. -/
def nvmeOfEp (fn : Nat) : Option Nat := if fn = 0 then some 0 else if fn = 1 then none else some (fn - 1)

/-- BUS_MASTER_DISABLE (13 R533, R534; 12 R502): with the requests then outstanding and the completions discarded. -/
def execBusMasterDisable (fn : Fin 66) (outstanding discarded : Nat) (s : State) : Result :=
  let f := fn.val
  s.runIf (s.dev.epUp && s.dev.ep.up && (s.dev.epFn f).busMaster) (fun d =>
    let d := d.setEpFn f { d.epFn f with busMaster := false }
    let d := (d.count .EP_CPL_DISCARD 0 discarded).eventIf (decide (0 < outstanding)) .ln 0x3E3 (le 1 f ++ leCount outstanding)
    match nvmeOfEp f with
    | none => d.chansAbortBus
    | some n =>
      let d := d.cancelWhere (fun c => c.ctrl == pcieCtrl n) false
      match d.ctrl (pcieCtrl n) with
      | some c => d.setCtrl (pcieCtrl n) { c with cfs := true }
      | none => d)

/-- Pending messages of a function are sent where their vectors are unmasked (13 R535). -/
def Dev.msixRelease (s : Dev) (fn : Nat) : Dev :=
  let x := s.epFn fn
  let s := s.setEpFn fn { x with waiting := [] }
  x.waiting.foldl (fun s v => s.msixSend fn v) s

/-- BUS_MASTER_ENABLE (13 R534, R535), with the vectors that the host has unmasked in an NVMe function's MSI-X table; PF1's table is in the control
space. -/
def execBusMasterEnable (fn : Fin 66) (unmasked : List Nat) (s : State) : Result :=
  let f := fn.val
  s.runIf (s.dev.epUp && s.dev.ep.up && s.dev.epFnHere f) (fun d =>
    let x := d.epFn f
    (d.setEpFn f { x with busMaster := true, unmasked := if f = 1 then x.unmasked else unmasked }).msixRelease f)

/-- FLR_PF0 (13 R536, R539; 04 R180, R181). -/
def execFlrPf0 (discarded : Nat) (s : State) : Result :=
  s.runIf (s.dev.epUp && s.dev.ep.up) (fun d => (d.count .EP_CPL_DISCARD 0 discarded).pf0Reset)

/-- FLR_VF (13 R537, R539). -/
def execFlrVf (vf : Fin 65) (discarded : Nat) (s : State) : Result :=
  let v := vf.val
  s.runIf (s.dev.nvmeFnUp v && v != 0) (fun d =>
    (((d.count .EP_CPL_DISCARD 0 discarded).nvmeFnReset v).pcieStart v).setEpFn (v + 1) { flr := true, ready := true })

/-- FLR_PF1 (13 R538, R539; 12 R502; 14 R552, R580). -/
def execFlrPf1 (discarded : Nat) (s : State) : Result :=
  s.runIf (s.dev.epUp && s.dev.ep.up) (fun d => (d.count .EP_CPL_DISCARD 0 discarded).pf1Reset)

/-- FLR_COMPLETE (13 R539): within 100 ms; event 3E2h. -/
def execFlrComplete (fn : Fin 66) (s : State) : Result :=
  let f := fn.val
  s.runIf (s.dev.epUp && (s.dev.epFn f).flr) (fun d =>
    ((d.setEpFn f { d.epFn f with flr := false }).count .EP_FLRS).event .ln 0x3E2 (le 1 f))

/-- EP_VEC_WRITE (13 R540): a division beyond 2,048 vectors, or fewer than 2 for a function, is refused; it holds from the next link training. -/
def execEpVecWrite (via : Via) (value : Word) (s : State) : Result :=
  let addr := Reg.addr .EP_VEC
  s.run (·.viaCommand via addr (fun d =>
    let p := bitsOf value 27 16
    let v := bitsOf value 4 0
    if p < 2 ∨ v < 2 ∨ 2048 < p + 64 + 64 * v then (d.epRefused addr, abortRefused)
    else ((d.setFld .EP_VEC_PF0_VEC 0 p).setFld .EP_VEC_VF_VEC 0 v, abortOk)))

/-- RECEIVED_TLP_ERROR (13 R542): reported through AER; a poisoned aperture write is discarded, poisoned data fail their command. -/
def execReceivedTlpError (fn : Fin 66) (err : TlpError) (s : State) : Result :=
  s.runIf (s.dev.epUp && s.dev.ep.up) (fun d =>
    let uncorr := fun (d : Dev) (aer : Word) => (d.count .EP_UNCORR_ERR).event .ln 0x3E7 (le 1 fn.val ++ le 4 aer.toNat)
    match err with
    | .correctable => d.count .EP_CORR_ERR
    | .uncorrectable aer => uncorr d aer
    | .poisonedWrite aer => (uncorr d aer).count .EP_POISONED
    | .poisonedData aer id => ((uncorr d aer).count .EP_POISONED).dataFailed id)

/-- A write of EP_FN_CFG of an NVMe function (13 EP_FN_CFG): only while the function's CC.EN and CSTS.RDY are 0; answers the abort code. -/
def Dev.epFnCfgWrite (s : Dev) (fn : Nat) (value : Word) : Dev × Nat :=
  let busy := match s.ctrl (pcieCtrl fn) with
    | some c => c.cc % 2 == 1 || c.rdy
    | none => false
  if busy then (s.epRefused (Reg.addr .EP_FN_CFG), abortState)
  else ((s.setFld .EP_FN_CFG_EN fn (bitOf value 31).toNat).setFld .EP_FN_CFG_HOST fn (bitsOf value 9 0), abortOk)

end Sys2Proof.Machine
end

