-- ==== Sys2Proof/Machine/Regions.lean ====
section
/-!
DEFINITION. The commands of the architecture (01): clusters, regions, seams, pace, the governor, the timebase; and releasing a region
(09 R702, 15 R606).
-/
namespace Sys2Proof.Machine

/-- A cluster exists (01 R700). -/
def clusterOk (r c : Nat) : Bool := decide (r < 23) && decide (c < clustersOf r)

/-- CLUSTER_COMPLETION_TIMEOUT (01 R17-R19; 12 R502): a cluster that signals no completion within 10 µs is reset; `channels` are those it held. -/
def execClusterCompletionTimeout (region : Fin 23) (cluster : Nat) (channels : List (Fin 128)) (s : State) : Result :=
  let r := region.val
  s.runIf (clusterOk r cluster && (s.dev.mode.diesUp || decide (19 ≤ r)) && !s.dev.isolated r && !(s.dev.region r).inReset.contains cluster)
    (·.clusterReset r cluster channels)

/-- CLUSTER_RESET_COMPLETE (01 R18): within 20 µs; CLUSTER_RESET.GO of that cluster reads 0. -/
def execClusterResetComplete (region : Fin 23) (cluster : Nat) (s : State) : Result :=
  let r := region.val
  s.run (fun d =>
    let x := d.region r
    let d := d.setRegion r { x with inReset := x.inReset.filter (· != cluster) }
    if d.arch.clusterGo = some (r, cluster) then { d with arch := { d.arch with clusterGo := none } } else d)

/-- CLUSTER_RESET_GO (01 R19, R52): a cluster beyond the region's count, or an isolated region, sets GLB_ERR.CS_UNMAPPED. -/
def execClusterResetGo (_req : Requester) (region : Fin 32) (cluster : Fin 256) (channels : List (Fin 128)) (s : State) : Result :=
  let r := region.val
  let c := cluster.val
  s.run (fun d => d.regWrite (Reg.addr .CLUSTER_RESET) (fun d =>
    let d := (d.setFld .CLUSTER_RESET_REGION 0 r).setFld .CLUSTER_RESET_CLUSTER 0 c
    if d.arch.clusterGo.isSome then d
    else if 18 < r ∨ !clusterOk r c ∨ d.isolated r then d.setFld .GLB_ERR_CS_UNMAPPED 0 1
    else { d with arch := { d.arch with clusterGo := some (r, c) } }.clusterReset r c channels))

/-- CODE_VIOLATION_REPORT (01 R16, R19-R22). -/
def execCodeViolationReport (region : Fin 23) (s : State) : Result :=
  s.runIf s.dev.mode.diesUp (·.isolateRegion region.val isoViolation)

/-- ISOLATE (01 R19, R24): REGION_CTL.ISOLATE. -/
def execIsolate (_req : Requester) (region : Fin 23) (s : State) : Result :=
  s.run (fun d => d.regWrite (Reg.addr .REGION_CTL region.val) (·.isolateRegion region.val isoSoftware))

/-- The first gauge window that begins at or after a tick of a die (01 R29). -/
def nextWindow (t : Nat) : Nat := (t + 999) / 1000 * 1000

/-- A region begins its release self-test (01 R23, R29). -/
def Dev.startTest (s : Dev) (r : Nat) : Dev :=
  let x := s.region r
  if !x.isolated ∨ x.testing ∨ 19 ≤ r then s
  else s.setRegion r { x with testing := true, pacePs := 0, paceMax := 0, badWindows := 0, gaugeFrom := nextWindow (s.nowOn (regionDie r)) }

/-- RELEASE (01 R23, R24): ignored in SAFE, and where the region is not isolated or is being tested. -/
def execRelease (_req : Requester) (region : Fin 23) (s : State) : Result :=
  s.run (fun d => d.regWrite (Reg.addr .REGION_CTL region.val) (fun d => if d.modeNow = .safe then d else d.startTest region.val))

/-- PACE_PS of a count of handshakes (01 R29). -/
def paceOf (n : Nat) : Nat := if n = 0 then 0xFFFF else min 0xFFFF (1000000 / n)

/-- Seams that end at a seam region (01 table Seams). -/
def seamsOf (r : Nat) : List Nat := (List.range 6).filter (fun k => (seamRegions k).contains r)

/-- The other end of a seam has an isolated seam region. -/
def Dev.farIsolated (s : Dev) (r k : Nat) : Bool := (seamRegions k).any (fun x => x != r && s.isolated x)

/-- Key of counter `j` of a cluster in `Recorder.counts` (15 R604). -/
def perfKey (r c j : Nat) : Nat := (r * 64 + c) * 4 + j

/-- The counters of a region's clusters are set to 0 (15 R606). -/
def Dev.clearPerf (s : Dev) (r : Nat) : Dev :=
  { s with evr := { s.evr with counts := s.evr.counts.filter (fun e => e.1 / 256 != r) } }

/-- The release of the last of a pier's regions but its seam region: its staging is discarded and its records are applied (09 R702). -/
def Dev.pierReturns (s : Dev) (p : Nat) (blocks : List Fetched) : Dev :=
  if (List.range 5).any (fun i => s.isolated (p * 6 + i)) then s
  else
    let s := (s.replay p (fun _ => true) blocks).dev
    s.setPier p { s.pier p with staged := [], accs := [] }

/-- A region resumes (01 R23). -/
def Dev.regionResumes (s : Dev) (r : Nat) (blocks : List Fetched) : Dev :=
  let x := s.region r
  let s := s.setRegion r { x with isolated := false, testing := false, isoCause := 0 }
  let s := (s.chansRelease r).clearPerf r
  let s := (seamsOf r).foldl (fun s k => if (s.seam k).down && !s.farIsolated r k then s.setSeam k { s.seam k with training := true } else s) s
  let s := if r < 12 ∧ (List.range 6).all (fun i => !s.isolated (r / 6 * 6 + i)) then s.setPierOwn (r / 6) { s.pierOwn (r / 6) with regionsFrom := s.now } else s
  if r < 12 ∧ r % 6 ≠ 5 then s.pierReturns (r / 6) blocks else s

/-- RELEASE_SELF_TEST_END (01 R23, R701; 09 R702; 12 R502; 15 R606). `tokensOk`: every cluster completed its test token with no code violation;
`paceCount` the handshakes of the gauge's window; `trained` the seams that trained and carried a test flit; `blocks` what members
give. -/
def execReleaseSelfTestEnd (region : Fin 19) (tokensOk : Bool) (paceCount : Nat) (trained : BitVec 6) (blocks : List Fetched) (s : State) : Result :=
  let r := region.val
  s.runIf (s.dev.region r).testing (fun d =>
    let pace := paceOf paceCount
    let seams := (seamsOf r).all (fun k => trained.getLsbD k || d.farIsolated r k)
    let x := d.region r
    let d := d.setRegion r { x with pacePs := pace, paceMax := max x.paceMax pace }
    if tokensOk && decide (250 ≤ pace) && decide (pace ≤ 1000) && seams then d.regionResumes r blocks
    else
      (d.setRegion r { d.region r with testing := false, isoCause := isoTest }).event (regionDie r) 0x0F8 (le 1 r) isoTest)

/-- The die that records a seam's event (01 R701): Plinth, where any end of the seam reaches it; else an end from which it is lost. -/
def Dev.seamReporter (s : Dev) (k : Nat) : Die :=
  match k with
  | 0 => if s.reachesPlinth .pe || s.reachesPlinth .pw then .pl else .pe
  | 1 => if s.reachesPlinth .pe || s.reachesPlinth .ln then .pl else .pe
  | 2 => if s.reachesPlinth .pw || s.reachesPlinth .ln then .pl else .pw
  | _ => .pl

/-- A seam is declared down (01 R27, R701): event 0FBh, its seam regions isolate; seam 5 retrains after 10 ms. -/
def Dev.seamDown (s : Dev) (k : Nat) : Dev :=
  let x := s.seam k
  let s := s.event (s.seamReporter k) 0x0FB (le 1 k)
  let s := s.setSeam k { x with down := true, bad := 0, downAt := s.now + 10 * ms }
  (seamRegions k).foldl (fun s r => s.isolateRegion r isoSeam) s

/-- SEAM_FLIT_RECEIVE (01 R25-R27, R701): a flit with a CRC error is discarded and replayed, event 0FAh; after eight failed replays of it the
seam goes down. -/
def execSeamFlitReceive (seam : Fin 6) (crcOk : Bool) (s : State) : Result :=
  let k := seam.val
  s.runIf (s.dev.seamUp k) (fun d =>
    let x := d.seam k
    if crcOk then d.setSeam k { x with bad := 0 }
    else if 8 ≤ x.bad then d.seamDown k
    else ((d.setSeam k { x with bad := x.bad + 1, replays := sat 0xFFFF (x.replays + 1) }).event (d.seamReporter k) 0x0FA (le 1 k)).emit (.replayRequest k))

/-- SEAM5_RETRAIN (01 R701): 10 ms after it went down, then every 1 s. -/
def execSeam5Retrain (s : State) : Result :=
  let x := s.dev.seam 5
  s.runIf (s.dev.mode.diesUp && x.down && decide (x.downAt ≤ s.dev.now)) (fun d =>
    d.setSeam 5 { x with training := true, downAt := d.now + sec })

/-- SEAM_UP (01 R701): a seam that trains carries flits; event 0FDh where it had been down. -/
def execSeamUp (seam : Fin 6) (s : State) : Result :=
  let k := seam.val
  let x := s.dev.seam k
  s.runIf (s.dev.mode.diesUp && x.training && !(seamRegions k).any (fun r => s.dev.isolated r)) (fun d =>
    (d.setSeam k { x with up := true, down := false, training := false, everUp := true, bad := 0 }).eventIf (x.down && x.everUp) .pl 0x0FD (le 1 k))

/-- PACE_WINDOW_END (01 R29, R31): PACE_PS of a window of the die's device time; an implausible reading in three windows running is an alarm. -/
def execPaceWindowEnd (region : Fin 19) (count : Nat) (s : State) : Result :=
  let r := region.val
  let x := s.dev.region r
  let t := s.dev.nowOn (regionDie r)
  s.runIf (s.dev.mode.diesUp && t % 1000 == 0 && decide (x.gaugeFrom + 1000 ≤ t)) (fun d =>
    let pace := paceOf count
    let bad := if pace < 250 ∨ 1000 < pace then min 3 (x.badWindows + 1) else 0
    let d := d.setRegion r { x with pacePs := pace, paceMax := max x.paceMax pace, badWindows := bad }
    if bad = 3 ∧ x.badWindows < 3 then d.alarm [(4, .pl, 0x0F3, [])] else d)

/-- PACE_READ (01 R29; 00 R5 RC): reading PACE clears PACE_MAX. -/
def execPaceRead (req : Requester) (region : Fin 19) (s : State) : Result :=
  let r := region.val
  s.run (·.regRead req (Reg.addr .PACE r) (fun d =>
    let x := d.region r
    (x.paceMax * 65536 + x.pacePs, d.setRegion r { x with paceMax := 0 })))

/-- SEAM_STAT_READ (01 R701; 00 R5 RC): reading SEAM_STAT clears REPLAYS. -/
def execSeamStatRead (req : Requester) (seam : Fin 6) (s : State) : Result :=
  let k := seam.val
  s.run (·.regRead req (Reg.addr .SEAM_STAT k) (fun d =>
    let x := d.seam k
    ((d.seamUp k).toNat * 2 ^ 31 + x.replays, d.setSeam k { x with replays := 0 })))

/-- Regions on a rail (01 R32). -/
def railRegions : Nat → List Nat
  | 0 => [0, 1, 2, 3, 4, 5]
  | 1 => [6, 7, 8, 9, 10, 11]
  | _ => [12, 13, 14, 15, 16, 17, 18]

/-- The governor trims a rail (01 R32, R51). -/
def Dev.governed (s : Dev) (k : Nat) : Bool := s.flag .GOV_CTL_ENABLE k && decide (s.fld .GOV_LIM_VMIN_MV k ≤ s.fld .GOV_LIM_VMAX_MV k)

/-- The target of a rail in the power state, or in that being entered (04 R166). -/
def Dev.paceTarget (s : Dev) (k : Nat) : Nat :=
  match s.capState with
  | 0 => s.fld .GOV_CTL_TARGET_PS k
  | 1 => s.fld .GOV_PS_PS1_PS
  | 2 => s.fld .GOV_PS_PS2_PS
  | _ => s.fld .GOV_PS_PS3_PS

/-- The voltage a rail stands at: as commanded last, or as its regulator's own setting reads (01 Pace governor). -/
def Rail.volt (x : Rail) : Nat := if x.voutCmd = 0 then x.readMv else x.voutCmd

/-- The largest pace of a rail's regions that have completed a window (01 R29, R32). -/
def Dev.railPace (s : Dev) (k : Nat) : Nat := ((railRegions k).map (fun r => (s.region r).pacePs)).foldl max 0

/-- A voltage is asked of a rail's regulator over PMBus (01 R33). -/
def Dev.railCommand (s : Dev) (k v : Nat) : Dev :=
  (s.setRail k { s.rail k with asked := some v, askedAt := s.now }).emit (.pmbusVout k (s.fld .GOV_CTL_PMB_ADDR k) v)

/-- One rail in a governor pass (01 R32-R34): the device after it, and whether the rail has settled (04 R166). -/
def Dev.governRail (s : Dev) (k : Nat) : Dev × Bool :=
  let x := s.rail k
  let pace := s.railPace k
  let target := s.paceTarget k
  let lo := s.fld .GOV_LIM_VMIN_MV k
  let hi := s.fld .GOV_LIM_VMAX_MV k
  if !s.governed k ∨ pace = 0 then (s, true)
  else
    let v := x.volt
    let slow := decide (target + 10 < pace)
    let fast := decide (pace + 10 < target)
    let want := if slow then v + 5 else if fast then v - 5 else v
    let new := if want = v then v else max lo (min hi want)
    let unmet := v == hi && slow
    let above := v == hi && decide (700 < pace)
    let s := (s.eventIf (unmet && !x.unmet) .pl 0x0F1).eventIf (above && !x.slow) .pl 0x0F0
    let s := s.setRail k { x with unmet := unmet, slow := above }
    let s := if new != v && x.asked.isNone then s.railCommand k new else s
    (s, new == v || (v == lo && fast) || unmet)

/-- GOVERNOR_PASS (01 R32-R34; 04 R166): every 100 µs. -/
def execGovernorPass (s : State) : Result :=
  s.runIf (s.dev.mode.diesUp && s.dev.now % (100 * us) == 0) (fun d =>
    let r := (List.range 3).foldl (fun (a : Dev × Bool) k =>
      let e := a.1.governRail k
      (e.1, a.2 && e.2)) (d, true)
    let n := if r.2 then min 2 (r.1.nvme.settled + 1) else 0
    { r.1 with nvme := { r.1.nvme with settled := n } })

/-- Recommended range of a rail in mV (18 Supply rails). -/
def railRange (r : Nat) : Nat × Nat :=
  [(680, 820), (680, 820), (680, 820), (873, 927), (1164, 1236), (873, 927), (1164, 1236), (1746, 1854), (1067, 1133), (380, 420)].getD r (0, 0)

/-- A rail answers READ_VOUT (18 PWR_RAIL; 07 R295): PG tells whether it is within its range; a core rail's glitches are judged from then on. -/
def Rail.reads (x : Rail) (k mv : Nat) : Rail :=
  let good := x.on && decide ((railRange k).1 ≤ mv) && decide (mv ≤ (railRange k).2)
  { x with readMv := mv, pg := good, judged := x.judged || (good && decide (k < 3)) }

/-- PMBUS_TRANSACTION_END (01 R33, R35; 18 PWR_RAIL, PWR_IOUT; 07 R295): a voltage takes effect when it is acknowledged; a failure is recorded, event
0F2h, once until a transaction succeeds. -/
def execPmbusTransactionEnd (rail : Fin 10) (answer : PmbusEnd) (s : State) : Result :=
  let k := rail.val
  s.run (fun d =>
    let x := d.rail k
    let ok := { x with failing := false }
    match answer with
    | .ack =>
      match x.asked with
      | some v => d.setRail k { ok with voutCmd := v, asked := none }
      | none => d.setRail k ok
    | .fail => (d.setRail k { x with failing := true, retryAt := d.now + 100 * ms }).eventIf (!x.failing) .pl 0x0F2
    | .readVout mv => d.setRail k (ok.reads k mv)
    | .readIout i => d.setRail k { ok with iout := i }
    | .readPout p => d.setRail k { ok with pout := p })

/-- PMBUS_RETRY (01 R35): every 100 ms. -/
def execPmbusRetry (rail : Fin 10) (s : State) : Result :=
  let k := rail.val
  let x := s.dev.rail k
  s.runIf (x.failing && decide (x.retryAt ≤ s.dev.now)) (fun d =>
    let d := d.setRail k { x with retryAt := d.now + 100 * ms }
    match x.asked with
    | some v => d.railCommand k v
    | none => d)

/-- One die takes an alignment message (01 R37, R38): a copy off by more than 2 ns is loaded, event 0F4h. -/
def Dev.alignDie (s : Dev) (die : Die) (drift : Int) : Dev :=
  let set := fun (s : Dev) (v : Int) => match die with
    | .pe => ({ s with arch := { s.arch with offPE := v } } : Dev)
    | .pw => { s with arch := { s.arch with offPW := v } }
    | .ln => { s with arch := { s.arch with offLN := v } }
    | .pl => s
  let s := set s drift
  if !s.reachesPlinth die then s
  else
    let s := s.emit (.alignment die s.now)
    if 2 < drift.natAbs then (set s 0).event die 0x0F4 else s

/-- TIMEBASE_ALIGNMENT (01 R37-R39): at every multiple of 1,048,576 ns; the operands are how far each die's copy stands off. -/
def execTimebaseAlignment (driftPE driftPW driftLN : Int) (s : State) : Result :=
  s.runIf (s.dev.mode.diesUp && s.dev.now % 1048576 == 0) (fun d =>
    ((d.alignDie .pe driftPE).alignDie .pw driftPW).alignDie .ln driftLN)

end Sys2Proof.Machine
end

