-- ==== Sys2Proof/Machine/Drives.lean ====
section
/-!
DEFINITION. Root ports and member controllers (11 R443-R460, R464).
-/
namespace Sys2Proof.Machine

/-- A slot's power. -/
def Dev.slotPwr (s : Dev) (k : Nat) : SlotPwr := s.shelf.slots.get {} k

/-- Change a slot's power. -/
def Dev.setSlotPwr (s : Dev) (k : Nat) (x : SlotPwr) : Dev :=
  { s with shelf := { s.shelf with slots := s.shelf.slots.put {} k x } }

/-- The die and the detail of a drive-port event: its slot and its root port (11 R487). -/
def Dev.portDetail (s : Dev) (n : Nat) : List Byte := le 1 (s.portSlot n) ++ le 1 n
def Dev.portDie (s : Dev) (n : Nat) : Die := pierDie (slotLanes (s.portSlot n))

/-- The drive region of a root port works. -/
def Dev.portRuns (s : Dev) (n : Nat) : Bool :=
  s.mode.diesUp && s.portUsed n && s.pierRuns (slotLanes (s.portSlot n)) 0

/-- A slot's member loses its drive (10 R398): missing, and host commands gather anew. -/
def Dev.memberGone (s : Dev) (k : Nat) : Dev :=
  match s.memberOf k with
  | some e =>
    let st := (s.mem e.1 e.2).st
    if st = .online ∨ st = .rebuilding then (s.memberLeaves e.1 e.2 .missing).regather else s
  | none => s

/-- A root port's link is down, its port becoming `x` (11 R447): while another used port of the slot is up, event 383h, and what was
outstanding is submitted again on that port; else the member has lost its link. -/
def Dev.portDown (s : Dev) (n : Nat) (x : RootPort) : Dev :=
  let k := s.portSlot n
  let die := s.portDie n
  let was := (s.port n).up
  let s := s.setPort n { x with up := false, ready := false, queues := 0, poweredAt := s.nowOn die, noted := false }
  if !was then s
  else
    let s := s.count .DRV_LINK_DOWNS (slotLanes k)
    if (s.slotPorts k).any (fun m => m != n && (s.port m).up) then
      let now := s.nowOn die
      let s := { s with store := { s.store with mcmds := s.store.mcmds.map (fun (c : MCmd) => if c.slot = k then { c with since := now } else c) } }
      s.event die 0x383 (s.portDetail n)
    else s.memberGone k

/-- Causes with which the initiator takes a link down (11 R458). -/
def downRetrain : Nat := 0
def downTimer : Nat := 1
def downCfs : Nat := 2
def downRdy : Nat := 3

/-- The initiator takes a root port's link down, event 386h with the cause; it retrains after 100 ms (11 R458). -/
def Dev.takeDown (s : Dev) (n cause : Nat) : Dev :=
  let die := s.portDie n
  let s := s.event die 0x386 (s.portDetail n) cause
  s.portDown n { s.port n with takenAt := some (s.nowOn die) }

/-- Lanes of a root port (11 R443). -/
def Dev.portLanes (s : Dev) : Nat := if s.x2 then 2 else 4

/-- ROOT_PORT_LINK_UP (11 R444): event 380h; 382h below 64 GT/s or below the port's width. -/
def execRootPortLinkUp (port : Fin 48) (rate : Fin 8) (width : Fin 5) (s : State) : Result :=
  let n := port.val
  s.runIf (s.dev.portRuns n && (s.dev.slotPwr (s.dev.portSlot n)).st == .on && !(s.dev.port n).up && (s.dev.port n).takenAt.isNone)
    (fun d =>
      let d := d.setPort n { d.port n with up := true, rate := rate.val, width := width.val, noted := false, ready := false }
      let d := d.event (d.portDie n) 0x380 (d.portDetail n ++ le 1 rate.val ++ le 1 width.val)
      d.eventIf (decide (rate.val < 6) || decide (width.val < d.portLanes)) (d.portDie n) 0x382
        (d.portDetail n ++ le 1 rate.val ++ le 1 width.val))

/-- ROOT_PORT_LINK_LOSS (11 R447, R458): a link lost without the initiator taking it down, event 381h. -/
def execRootPortLinkLoss (port : Fin 48) (s : State) : Result :=
  let n := port.val
  s.runIf (s.dev.portRuns n && (s.dev.port n).up) (fun d =>
    (d.event (d.portDie n) 0x381 (d.portDetail n)).portDown n (d.port n))

/-- Units of a drive's data area (08 R313): 2^36 at most on a member. -/
def dataUnits (units : Nat) : Nat := min units (2 ^ 36) - dataStart

/-- DRIVE_READY (11 R450-R452, R459, R460): the controller is up and identified, or the link is taken down. -/
def execDriveReady (port : Fin 48) (result : BringUp) (s : State) : Result :=
  let n := port.val
  s.runIf (s.dev.portRuns n && (s.dev.port n).up && !(s.dev.port n).ready) (fun d =>
    match result with
    | .timer => d.takeDown n downTimer
    | .cfs => d.takeDown n downCfs
    | .notReady => d.takeDown n downRdy
    | .ready r =>
      let k := d.portSlot n
      let fit := r.mbs.isSome && r.protectionOff && r.metadataAny && decide (2 ≤ r.queues)
      let off := d.flag .DRV_CFG_WCE_OFF
      let stays := off && r.cache && !r.cacheOff
      let x := d.port n
      let d := d.setPort n { x with ready := true, fmtBad := !fit, vwc := r.cache && (!off || !r.cacheOff)
                                    queues := if fit then min 16 r.queues else 0, smartAt := d.nowOn (d.portDie n), smartDue := false }
      let d := d.eventIf stays (d.portDie n) 0x387 (d.portDetail n)
      d.setDrive k { d.drive k with mbs := if fit then r.mbs.map (·.val) else none, units := dataUnits r.units })

/-- DRIVE_MEMORY_REQUEST (11 R449): a request outside the buffers of the commands issued to the drive is answered with Unsupported
Request, counted, event 384h, and the port takes its link down. -/
def execDriveMemoryRequest (port : Fin 48) (cmd : Option Nat) (s : State) : Result :=
  let n := port.val
  s.runIf (s.dev.portRuns n && (s.dev.port n).up) (fun d =>
    let k := d.portSlot n
    let inside := match cmd with
      | some id => d.store.mcmds.any (fun c => c.id == id && c.slot == k)
      | none => false
    if inside then d
    else
      let d := (d.count .DRV_MEM_REJECT (slotLanes k)).event (d.portDie n) 0x384 (d.portDetail n)
      d.portDown n { d.port n with takenAt := some (d.nowOn (d.portDie n)) })

/-- SMART_POLL (11 R454, 10 R398): bit 2 or 3 of an online or rebuilding member makes it failed; any other bit, and any bit of
another drive, records event 385h with the bits. -/
def execSmartPoll (port : Fin 48) (warning : BitVec 8) (s : State) : Result :=
  let n := port.val
  s.runIf (s.dev.portRuns n && (s.dev.port n).ready &&
      ((s.dev.port n).smartDue || s.dev.expired (s.dev.portDie n) (s.dev.port n).smartAt (60 * sec))) (fun d =>
    let k := d.portSlot n
    let w := warning.toNat
    let grave := decide (w / 4 % 4 ≠ 0)
    let d := d.setPort n { d.port n with smartAt := d.nowOn (d.portDie n), smartDue := false }
    let d := d.setDrive k { d.drive k with warning := w }
    let isMember := (d.drive k).st == .online || (d.drive k).st == .rebuilding
    let other := if isMember then w - 4 * (w / 4 % 4) else w
    let d := d.eventIf (other != 0) (d.portDie n) 0x385 (d.portDetail n ++ le 1 other)
    match d.memberOf k with
    | some e => if isMember && grave then (d.memberFail e.1 e.2).regather else d
    | none => d)

/-- DRIVE_ASYNC_EVENT (11 R452, R454): a SMART event has the health log read. -/
def execDriveAsyncEvent (port : Fin 48) (s : State) : Result :=
  let n := port.val
  s.runIf (s.dev.portRuns n && (s.dev.port n).ready) (fun d => d.setPort n { d.port n with smartDue := true })

/-- MEMBER_COMMAND_TIMEOUT (11 R455, R456, R458): a Read is reissued once, then is a media error; for any other command the link
of a port that carries the slot is taken down. -/
def execMemberCommandTimeout (id : Nat) (s : State) : Result :=
  s.run (fun d =>
    match d.store.mcmds.find? (fun c => c.id == id) with
    | none => d
    | some c =>
      let lanes := slotLanes c.slot
      if !d.pierRuns lanes 0 || !d.expired (pierDie lanes) c.since (d.fld .DRV_CFG_MCMD_TO * ms) then d
      else
        let d := d.count .DRV_MCMD_TIMEOUT lanes
        match c.use with
        | .read cmd ng st row x =>
          let d := { d with store := { d.store with mcmds := d.store.mcmds.filter (fun y => y.id != id) } }
          if !c.again then (d.count .DRV_MCMD_REISSUED lanes).memberCmd { c with again := true }
          else
            let d := (d.count .PAR_MEDIA_ERR c.pier).addMark (markMedia c.volume c.member)
            d.readDone cmd (fun y => { y with bad := y.bad ++ [⟨ng, st, row, x⟩] })
        | _ =>
          match (d.slotPorts c.slot).find? (fun n => (d.port n).up) with
          | some n => d.takeDown n downTimer
          | none => d)

/-- LINK_RETRAIN (11 R458): 100 ms after the initiator took a link down it trains again. -/
def execLinkRetrain (port : Fin 48) (s : State) : Result :=
  let n := port.val
  s.runIf (s.dev.portRuns n) (fun d =>
    match (d.port n).takenAt with
    | some t => if d.expired (d.portDie n) t (100 * ms) then (d.setPort n { d.port n with takenAt := none }).emit (.portTrain n) else d
    | none => d)

/-- The address of a register of a root port, in the block of the pier that holds its lanes (11 Registers). -/
def Dev.portAddr (s : Dev) (r : Reg) (n : Nat) : Nat := Reg.addr r n + slotLanes (s.portSlot n) * 0x1000000

/-- RETRAIN (11 RP_CTL): the link of a used port is taken down with cause 0h. -/
def execRetrain (via : Via) (port : Fin 48) (s : State) : Result :=
  let n := port.val
  s.run (fun d => d.viaCommand via (d.portAddr .RP_CTL n) (fun d =>
    if d.portUsed n then (d.takeDown n downRetrain, abortOk) else (d, abortRefused)))

/-- LINK_TIMEOUT (11 R464): a link not up within LINK_TO of the slot's power leaves the slot powered; event 388h once, and training
is tried every 1 s from now. -/
def execLinkTimeout (port : Fin 48) (s : State) : Result :=
  let n := port.val
  let x := s.dev.port n
  s.runIf (s.dev.portRuns n && (s.dev.slotPwr (s.dev.portSlot n)).st == .on && !x.up && !x.noted && x.takenAt.isNone &&
      s.dev.expired (s.dev.portDie n) x.poweredAt (s.dev.fld .DRV_CFG_LINK_TO * ms)) (fun d =>
    (d.setPort n { x with noted := true, retryAt := d.nowOn (d.portDie n) }).event (d.portDie n) 0x388 (d.portDetail n))

/-- LINK_TRAIN_RETRY (11 R464): training afresh every 1 s. -/
def execLinkTrainRetry (port : Fin 48) (s : State) : Result :=
  let n := port.val
  let x := s.dev.port n
  s.runIf (s.dev.portRuns n && (s.dev.slotPwr (s.dev.portSlot n)).st == .on && !x.up && x.noted && x.takenAt.isNone &&
      s.dev.expired (s.dev.portDie n) x.retryAt sec) (fun d =>
    (d.setPort n { x with retryAt := d.nowOn (d.portDie n) }).emit (.portTrain n))

end Sys2Proof.Machine
end

