-- ==== Sys2Proof/Machine/Slots.lean ====
section
/-!
DEFINITION. Slot power (11 R461-R485): presence, ramp, breaker, trips and retries, commands, feeds and ideal diodes; and the
conditions of the start-up hold that the feeds are part of (17 R649, R650).
-/
namespace Sys2Proof.Machine

/-- The conditions of the start-up hold, and those of the start-up reference, at this tick (17 Start-up, R649, R650). -/
def Dev.holdOk (s : Dev) : Bool :=
  s.mode.standby && (s.shelf.feedA || s.shelf.feedB) && s.mode.resetHigh && s.mode.tempOk
def Dev.holdSettle (s : Dev) : Dev :=
  let m := s.mode
  { s with mode := { m with hold := m.hold.settle s.now s.holdOk
                            ref := m.ref.settle s.now (m.standby && (s.shelf.feedA || s.shelf.feedB)) } }

/-- A feed is present (11 R467); 0 A, 1 B. -/
def Dev.feedOk (s : Dev) (f : Nat) : Bool := if f = 0 then s.shelf.feedA else s.shelf.feedB

/-- A feed is present and not disabled by FEED_CFG (11 R467). -/
def Dev.feedUsable (s : Dev) (f : Nat) : Bool :=
  s.feedOk f && !(if f = 0 then s.flag .FEED_CFG_A_DIS else s.flag .FEED_CFG_B_DIS)

/-- Every slot's ideal diode on a feed that is absent or disabled is held off (11 R467). -/
def Dev.holdDiodes (s : Dev) : Dev :=
  let a := s.feedUsable 0
  let b := s.feedUsable 1
  let slots := s.shelf.slots.mapValues {} (fun _ x => { x with diodeA := x.diodeA && a, diodeB := x.diodeB && b })
  { s with shelf := { s.shelf with slots := slots } }

/-- Set a slot's switches, as its connector sees them. -/
def Dev.setSwitches (s : Dev) (k : Nat) (x : SlotPwr) : Dev := (s.setSlotPwr k x).emit (.slotPower k x.gate x.aux)

/-- The auxiliary switch goes on and the slot waits for its ramp (11 Insertion steps 2 and 3, R463, R477). -/
def Dev.slotRamp (s : Dev) (k : Nat) : Dev :=
  let x := s.slotPwr k
  s.setSwitches k { x with st := .ramp, aux := true, auxAt := s.now, gate := false, cycleAt := none, waitOver := false }

/-- A slot's switches go off; its state becomes `st`. -/
def Dev.slotDown (s : Dev) (k : Nat) (st : SlotSt) : Dev :=
  s.setSwitches k { s.slotPwr k with st := st, gate := false, aux := false }

/-- A trip (11 R473, R478, R479): switches off, RETRY_WAIT, one more in RETRIES, event 014h with the cause, the current and the
accumulator; the member has lost its drive. -/
def Dev.slotTrip (s : Dev) (k cause ma : Nat) : Dev :=
  let x := s.slotPwr k
  let s := s.slotDown k .retryWait
  let y := s.slotPwr k
  let s := s.setSlotPwr k { y with cause := cause, retries := sat 15 (x.retries + 1), waitAt := s.now, waitOver := false, cycleAt := none }
  (s.event .pl 0x014 (le 1 k ++ le 2 ma ++ le 4 x.acc) cause).memberGone k

/-- Causes of a trip (11 SLOT_STAT.CAUSE). -/
def tripFast : Nat := 1
def tripCurve : Nat := 2
def tripRamp : Nat := 3
def tripUv : Nat := 4
def tripAux : Nat := 5

/-- Plinth's slot logic runs while standby is valid (17 Start-up). -/
def Dev.slotLogic (s : Dev) : Bool := s.mode.standby && s.mode.resetHigh

/-- PRESENCE_CHANGE (11 R461, R477, R483): PRSNT_n falls or rises. -/
def execPresenceChange (slot : Fin 24) (low : Bool) (s : State) : Result :=
  let k := slot.val
  s.runIf (s.dev.slotLogic && (s.dev.slotPwr k).present != low) (fun d =>
    let x := { d.slotPwr k with present := low, presentAt := d.now }
    let st := match x.st with
      | .empty => if low then SlotSt.debounce else .empty
      | .debounce => if low then .debounce else .empty
      | .retryWait => if !low && !x.seated && x.waitOver then .empty else .retryWait
      | st => st
    d.setSlotPwr k { x with st := st })

/-- INSERTION_DEBOUNCE_END (11 R461, R463, R477, R483; 17 R652): PRSNT_n low for 200 ms, event 010h. The slot ramps, or waits in OFF
where AUTO_ON is 0 or the start-up hold is not released; in RETRY_WAIT it ramps once the wait is over, event 015h. -/
def execInsertionDebounceEnd (slot : Fin 24) (s : State) : Result :=
  let k := slot.val
  let x := s.dev.slotPwr k
  s.runIf (s.dev.slotLogic && x.present && !x.seated && s.dev.expired .pl x.presentAt (200 * ms)) (fun d =>
    let d := (d.setSlotPwr k { x with seated := true }).event .pl 0x010 (le 1 k)
    match x.st with
    | .retryWait => if x.waitOver then (d.slotRamp k).event .pl 0x015 (le 1 k ++ le 1 x.retries) else d
    | .debounce =>
      if d.flag .SLOT_CFG_AUTO_ON k && d.mode.released.isSome then d.slotRamp k
      else d.setSlotPwr k { d.slotPwr k with st := .off }
    | _ => d)

/-- REMOVAL_RECOGNISED (11 R462, R478, R483; 10 R398): PRSNT_n high for 1 ms, event 011h: switches off, RETRIES cleared, the member
missing, a drive that is no member gone. -/
def execRemovalRecognised (slot : Fin 24) (s : State) : Result :=
  let k := slot.val
  let x := s.dev.slotPwr k
  s.runIf (s.dev.slotLogic && !x.present && x.seated && s.dev.expired .pl x.presentAt ms) (fun d =>
    let st := match x.st with
      | .retryWait => if x.waitOver then SlotSt.empty else .retryWait
      | _ => .empty
    let d := d.setSwitches k { x with st := st, seated := false, gate := false, aux := false, retries := 0, cycleAt := none }
    let d := (d.event .pl 0x011 (le 1 k)).memberGone k
    let d := (d.slotPorts k).foldl (fun d n => d.setPort n {}) d
    match (d.drive k).st with
    | .failed => (d.setDrive k { d.drive k with stamp := none }).driveState k .noDrive
    | .spare => (d.setDrive k { d.drive k with stamp := none }).driveState k .noDrive
    | .foreign => (d.setDrive k { d.drive k with stamp := none }).driveState k .noDrive
    | _ => d)

/-- RAMP_START (11 R463, R468, R472): AUX_DLY after the auxiliary switch the pass gate begins to ramp; the accumulator is 0. -/
def execRampStart (slot : Fin 24) (s : State) : Result :=
  let k := slot.val
  let x := s.dev.slotPwr k
  s.runIf (s.dev.slotLogic && x.st == .ramp && !x.gate && decide (x.auxAt + s.dev.fld .SLOT_CFG_AUX_DLY k * ms ≤ s.dev.now)) (fun d =>
    d.setSwitches k { x with gate := true, rampAt := d.now, acc := 0 })

/-- The ramp has lasted longer than 12 V ÷ SLOPE + 50 ms (11 R469). -/
def Dev.rampOver (s : Dev) (k : Nat) : Bool :=
  let slope := max 1 (s.fld .SLOT_CFG_SLOPE k)
  decide (120 * ms + 50 * ms * slope < (s.now - (s.slotPwr k).rampAt) * slope)

/-- SLOT_POWERED (11 R469): 12 V at 10.8 V or more with the gate fully enhanced, event 012h; the slot's links have LINK_TO. -/
def execSlotPowered (slot : Fin 24) (mv : Nat) (s : State) : Result :=
  let k := slot.val
  let x := s.dev.slotPwr k
  s.runIf (s.dev.slotLogic && x.st == .ramp && x.gate && decide (10800 ≤ mv) && !s.dev.rampOver k) (fun d =>
    let d := (d.setSlotPwr k { x with st := .on, onAt := d.now, mv := mv }).event .pl 0x012 (le 1 k)
    (d.slotPorts k).foldl (fun d n => d.setPort n { poweredAt := d.nowOn (d.portDie n) }) d)

/-- SLOT_RAMP_TIMEOUT (11 R469): a trip with cause RAMP_TO. -/
def execSlotRampTimeout (slot : Fin 24) (s : State) : Result :=
  let k := slot.val
  let x := s.dev.slotPwr k
  s.runIf (s.dev.slotLogic && x.st == .ramp && x.gate && s.dev.rampOver k) (·.slotTrip k tripRamp x.ma)

/-- A feed is lost or returns (11 R467), with its voltage. -/
def Dev.setFeed (s : Dev) (f : Nat) (ok : Bool) (mv : Nat) : Dev :=
  let s := { s with shelf := if f = 0 then { s.shelf with feedA := ok, mvA := mv } else { s.shelf with feedB := ok, mvB := mv } }
  (s.event .pl (if ok then 0x009 else 0x008) (le 1 f)).holdDiodes.holdSettle

/-- FEED_LOST (11 R467): below 10.2 V for 100 µs. -/
def execFeedLost (feed : Fin 2) (mv : Nat) (s : State) : Result :=
  s.runIf (s.dev.mode.standby && s.dev.feedOk feed.val && decide (mv < 10200)) (·.setFeed feed.val false mv)

/-- FEED_RETURN (11 R467): at least 10.8 V. -/
def execFeedReturn (feed : Fin 2) (mv : Nat) (s : State) : Result :=
  s.runIf (s.dev.mode.standby && !s.dev.feedOk feed.val && decide (10800 ≤ mv)) (·.setFeed feed.val true mv)

/-- Set a slot's ideal diode on a feed. -/
def Dev.setDiode (s : Dev) (k f : Nat) (on : Bool) : Dev :=
  let x := s.slotPwr k
  s.setSlotPwr k (if f = 0 then { x with diodeA := on } else { x with diodeB := on })

/-- IDEAL_DIODE_REVERSE (11 R466): reverse voltage above 10 mV turns the gate off. -/
def execIdealDiodeReverse (slot : Fin 24) (feed : Fin 2) (s : State) : Result :=
  s.runIf s.dev.slotLogic (·.setDiode slot.val feed.val false)

/-- IDEAL_DIODE_FORWARD (11 R466, R467): forward voltage above 25 mV turns the gate on, on a feed that is present and enabled. -/
def execIdealDiodeForward (slot : Fin 24) (feed : Fin 2) (s : State) : Result :=
  s.runIf (s.dev.slotLogic && s.dev.feedUsable feed.val) (·.setDiode slot.val feed.val true)

/-- SLOT_UNDER_VOLTAGE (11 R470): below 10.2 V for 100 µs while powered with a feed present: a trip with cause UV. -/
def execSlotUnderVoltage (slot : Fin 24) (mv : Nat) (s : State) : Result :=
  let k := slot.val
  let x := s.dev.slotPwr k
  s.runIf (s.dev.slotLogic && x.st == .on && decide (mv < 10200) && (s.dev.shelf.feedA || s.dev.shelf.feedB)) (fun d =>
    (d.setSlotPwr k { x with mv := mv }).slotTrip k tripUv x.ma)

/-- The band of a current on a slot's curve (11 R472): how many points it reaches. -/
def Dev.curveBand (s : Dev) (k ma : Nat) : Nat :=
  ((List.range 8).filter (fun i => decide (s.fld .SLOT_CURVE_CUR (k * 8 + i) * 10 ≤ ma))).length

/-- The accumulator after a sample (11 R472). -/
def Dev.curveStep (s : Dev) (k acc ma : Nat) : Nat :=
  let b := s.curveBand k ma
  if b = 0 then acc - 2 ^ 23 / max 1 (s.fld .SLOT_COOL_COOL k)
  else acc + ceilDiv (2 ^ 23) (max 1 (s.fld .SLOT_CURVE_TIME (k * 8 + (b - 1))))

/-- BREAKER_SAMPLE (11 R472, R480, R481): one sample of a slot on a tick that is a multiple of 5,000 ns; with the gate on or ramping
the accumulator advances, and at 2^24 the slot trips with cause CURVE. The auxiliary current counts every 100,000 ns. -/
def execBreakerSample (slot : Fin 24) (mv ma aux : Nat) (s : State) : Result :=
  let k := slot.val
  let x := s.dev.slotPwr k
  s.runIf (s.dev.slotLogic && s.dev.now % 5000 == 0 && x.sampledAt != some s.dev.now) (fun d =>
    let acc := if x.gate then d.curveStep k x.acc ma else x.acc
    let d := d.setSlotPwr k { x with mv := mv, ma := ma, peakV := max x.peakV mv, minV := min x.minV mv, peakI := max x.peakI ma
                                     minI := min x.minI ma, acc := acc, sampledAt := some d.now
                                     auxMa := if d.now % 100000 = 0 then aux else x.auxMa }
    if x.gate && decide (2 ^ 24 ≤ acc) then d.slotTrip k tripCurve ma else d)

/-- FAST_TRIP (11 R474): from the start of the ramp a current above FT_A trips the slot with cause FAST. -/
def execFastTrip (slot : Fin 24) (ma : Nat) (s : State) : Result :=
  let k := slot.val
  s.runIf (s.dev.slotLogic && (s.dev.slotPwr k).gate && decide (s.dev.fld .SLOT_FT_FT_A k * 1000 < ma)) (·.slotTrip k tripFast ma)

/-- AUX_OVERCURRENT (11 R475): above 1,000 mA for 1 ms, a trip with cause AUX_OC. -/
def execAuxOvercurrent (slot : Fin 24) (ma : Nat) (s : State) : Result :=
  let k := slot.val
  s.runIf (s.dev.slotLogic && (s.dev.slotPwr k).aux && decide (1000 < ma)) (fun d =>
    (d.setSlotPwr k { d.slotPwr k with auxMa := ma }).slotTrip k tripAux ma)

/-- RETRY_WAIT_END (11 R476-R478): the wait has run to its end: LOCKED with event 016h when RETRIES has reached RETRY_MAX, EMPTY with
no drive, a ramp with event 015h where the drive is seated; else the slot waits for the debounce. -/
def execRetryWaitEnd (slot : Fin 24) (s : State) : Result :=
  let k := slot.val
  let x := s.dev.slotPwr k
  let most := s.dev.fld .SLOT_CFG_RETRY_MAX k
  s.runIf (s.dev.slotLogic && x.st == .retryWait && !x.waitOver && s.dev.expired .pl x.waitAt (s.dev.fld .SLOT_CFG_RETRY_S k * sec)) (fun d =>
    if most ≠ 0 ∧ most ≤ x.retries then (d.setSlotPwr k { x with st := .locked }).event .pl 0x016 (le 1 k)
    else if x.seated then (d.slotRamp k).event .pl 0x015 (le 1 k ++ le 1 x.retries)
    else if x.present then d.setSlotPwr k { x with waitOver := true }
    else d.setSlotPwr k { x with st := .empty })

/-- RETRIES_CLEAR (11 R478): 10 s powered without a trip. -/
def execRetriesClear (slot : Fin 24) (s : State) : Result :=
  let k := slot.val
  let x := s.dev.slotPwr k
  s.runIf (s.dev.slotLogic && x.st == .on && s.dev.expired .pl x.onAt (10 * sec)) (fun d => d.setSlotPwr k { x with retries := 0 })

/-- A slot's owner and epoch in the quoin (16 R615, R616). -/
def Dev.quoinSlot (s : Dev) (k : Nat) : Owned := (s.own.slots.find k).getD ⟨slotLanes k, 1⟩

/-- A slot command (11 R483, R484): from a control processor of the pier that owns the slot under the quoin's epoch, or with the
Custodian privilege; a stale epoch records event 01Fh, another refusal 01Eh. -/
def Dev.slotCommand (s : Dev) (v : Via) (k epoch : Nat) (allowed : SlotPwr → Bool) (f : Dev → SlotPwr → Dev) : Dev :=
  let addr := Reg.addr .SLOT_CMD k
  s.viaCommand v addr (fun s =>
    let refused := (s.event .pl 0x01E (le 1 k ++ le 8 addr), abortRefused)
    let x := s.slotPwr k
    let act := if allowed x then (f s x, abortOk) else refused
    match v with
    | .reg (.cp n) =>
      let o := s.quoinSlot k
      let p := n.val / 16
      if p < 2 ∧ epoch < o.epoch then (s.event .pl 0x01F (le 1 k ++ le 1 p ++ le 4 epoch), abortRefused)
      else if p = o.owner ∧ epoch = o.epoch then act
      else refused
    | .reg .pf1 => if s.privileged .pf1 then act else refused
    | .dict _ => act)

/-- SLOT_ON (11 R476, R478, R483, R484): in OFF and LOCKED with the drive present. -/
def execSlotOn (via : Via) (slot : Fin 24) (epoch : Nat) (s : State) : Result :=
  let k := slot.val
  s.run (fun d => d.slotCommand via k epoch (fun x => (x.st == .off || x.st == .locked) && x.seated) (fun d x =>
    (d.setSlotPwr k { x with retries := if x.st = .locked then 0 else x.retries }).slotRamp k))

/-- SLOT_OFF (11 R483-R485): in ON and RAMP, event 013h. -/
def execSlotOff (via : Via) (slot : Fin 24) (epoch : Nat) (s : State) : Result :=
  let k := slot.val
  s.run (fun d => d.slotCommand via k epoch (fun x => x.st == .on || x.st == .ramp) (fun d _ =>
    ((d.slotDown k .off).event .pl 0x013 (le 1 k)).memberGone k))

/-- SLOT_CYCLE (11 R483-R485): in ON: off, event 013h, and on again after 1 s. -/
def execSlotCycle (via : Via) (slot : Fin 24) (epoch : Nat) (s : State) : Result :=
  let k := slot.val
  s.run (fun d => d.slotCommand via k epoch (fun x => x.st == .on) (fun d _ =>
    let d := d.slotDown k .off
    ((d.setSlotPwr k { d.slotPwr k with cycleAt := some d.now }).event .pl 0x013 (le 1 k)).memberGone k))

/-- CYCLE_RAMP (11 R483): 1 s after CYCLE the slot ramps. -/
def execCycleRamp (slot : Fin 24) (s : State) : Result :=
  let k := slot.val
  let x := s.dev.slotPwr k
  s.runIf (s.dev.slotLogic && x.st == .off && x.seated && (x.cycleAt.map (fun t => s.dev.expired .pl t sec)).getD false) (·.slotRamp k)

/-- FEED_CFG_WRITE (11 R467, R486): a write that sets both disables is refused, event 01Eh. -/
def execFeedCfgWrite (via : Via) (value : Word) (s : State) : Result :=
  let addr := Reg.addr .FEED_CFG
  s.run (fun d => d.viaCommand via addr (fun d =>
    if bitOf value 0 && bitOf value 1 then (d.event .pl 0x01E (le 8 addr), abortRefused)
    else (((d.setFld .FEED_CFG_A_DIS 0 (bitsOf value 0 0)).setFld .FEED_CFG_B_DIS 0 (bitsOf value 1 1)).holdDiodes, abortOk)))

/-- A slot's curve with a point replaced is valid (11 R471). -/
def Dev.curveValid (s : Dev) (k point cur time : Nat) : Bool :=
  let c := fun i => if i = point then cur else s.fld .SLOT_CURVE_CUR (k * 8 + i)
  let t := fun i => if i = point then time else s.fld .SLOT_CURVE_TIME (k * 8 + i)
  (List.range 7).all (fun i => decide (c i < c (i + 1)) && decide (t (i + 1) ≤ t i)) && decide (c 7 ≤ 1200) && decide (1 ≤ t 7)

/-- BREAKER_CURVE_WRITE (11 R471): a write that leaves the curve invalid is discarded, event 01Eh. -/
def execBreakerCurveWrite (via : Via) (slot : Fin 24) (point : Fin 8) (value : Word) (s : State) : Result :=
  let i := slot.val * 8 + point.val
  let addr := Reg.addr .SLOT_CURVE i
  s.run (fun d => d.viaCommand via addr (fun d =>
    if d.curveValid slot.val point.val (bitsOf value 31 20) (bitsOf value 19 0) then
      ((d.setFld .SLOT_CURVE_CUR i (bitsOf value 31 20)).setFld .SLOT_CURVE_TIME i (bitsOf value 19 0), abortOk)
    else (d.event .pl 0x01E (le 1 slot.val ++ le 8 addr), abortRefused)))

/-- SLOT_HOLD_READ (11 R481): the held values, reloaded with the current sample. -/
def execSlotHoldRead (req : Requester) (slot : Fin 24) (current : Bool) (s : State) : Result :=
  let k := slot.val
  s.run (fun d => d.regRead req (Reg.addr (if current then .SLOT_HOLD_I else .SLOT_HOLD_V) k) (fun d =>
    let x := d.slotPwr k
    if current then (x.peakI * 65536 + x.minI, d.setSlotPwr k { x with peakI := x.ma, minI := x.ma })
    else (x.peakV * 65536 + x.minV, d.setSlotPwr k { x with peakV := x.mv, minV := x.mv })))

end Sys2Proof.Machine
end

