-- ==== Sys2Proof/Machine/Quoin.lean ====
section
/-!
DEFINITION. The commands of ownership within the package (16): heartbeats, claims, takeover, disputes, fences, giveback.
-/
namespace Sys2Proof.Machine

/-- A heartbeat stream's silence (16 R617). -/
def silence : Nat := 300 * us

/-- A pier's control region runs (16 R617). -/
def Dev.controlRuns (s : Dev) (p : Nat) : Bool := s.mode.diesUp && s.pierRuns p 4

/-- The quoin reaches a pier, over seam 3 or 4. -/
def Dev.quoinReaches (s : Dev) (p : Nat) : Bool := s.seamUp (3 + p)

/-- HEARTBEAT_SEND (16 R617, R635): every 100 µs, by a pier to its partner and to the quoin, by the package on its bond links. -/
def execHeartbeatSend (from' : HbSender) (s : State) : Result :=
  s.run (fun d =>
    match from' with
    | .pier p =>
      if !d.controlRuns p.val ∨ d.nowOn (pierDie p.val) % (100 * us) ≠ 0 then d
      else
        let d := if d.seamUp 0 then d.emit (.heartbeat p.val false) else d
        if d.quoinReaches p.val then d.emit (.heartbeat p.val true) else d
    | .package =>
      if !d.epUp ∨ d.nowOn .ln % (100 * us) ≠ 0 then d else d.bondsUp.foldl (fun d k => d.bondSend k bondHeartbeat 0 0) d)

/-- A pier learns the quoin's owners and epochs (16 R618, R629). -/
def Dev.tellPier (s : Dev) (p : Nat) : Dev :=
  if s.quoinReaches p then s.setPierOwn p { s.pierOwn p with seenSlots := s.own.slots, seenVols := s.own.vols } else s

/-- HEARTBEAT_RECEIVE (16 R617): a heartbeat of `pier` re-arms the timer of its partner or of the quoin. -/
def execHeartbeatReceive (pier : Fin 2) (quoin : Bool) (s : State) : Result :=
  let p := pier.val
  s.runIf (s.dev.controlRuns p && (if quoin then s.dev.quoinReaches p else s.dev.seamUp 0 && s.dev.controlRuns (1 - p))) (fun d =>
    if quoin then
      let x := d.pierOwn p
      let d := d.setPierOwn p { x with quoinAt := d.now, quoinSilent := false }
      if x.quoinSilent then d.tellPier p else d
    else d.setPierOwn (1 - p) { d.pierOwn (1 - p) with partnerAt := d.nowOn (pierDie (1 - p)), partnerSilent := false })

/-- What a pier last saw of a slot and of a volume (16 R618). -/
def Dev.seenSlot (s : Dev) (p k : Nat) : Owned := ((s.pierOwn p).seenSlots.find k).getD ⟨slotLanes k, 1⟩
def Dev.seenVol (s : Dev) (p v : Nat) : Owned := ((s.pierOwn p).seenVols.find v).getD ⟨s.fld .VOL_CFG_HOME v, 1⟩

/-- A pier claims every slot and volume that, as it last saw, its partner owns (16 R618). -/
def Dev.sendClaim (s : Dev) (p : Nat) : Dev :=
  let x := s.pierOwn p
  if x.claimAt.isSome ∨ x.fenced ∨ !s.controlRuns p then s
  else
    let slots := ((List.range 24).filter (fun k => (s.seenSlot p k).owner != p)).map (fun k => (k, (s.seenSlot p k).epoch))
    let vols := ((List.range 64).filter (fun v => (s.seenVol p v).owner != p)).map (fun v => (v, (s.seenVol p v).epoch))
    ((s.setPierOwn p { x with claimAt := some (s.nowOn (pierDie p)), claimSlots := slots, claimVols := vols, claimMaj := false, answer := none }).count
      .OWN_CLAIMS).emit (.claim p)

/-- HEARTBEAT_TIMEOUT (16 R617, R618): `pier` is silent, event 3FBh; its partner claims. -/
def execHeartbeatTimeout (pier : Fin 2) (quoin : Bool) (s : State) : Result :=
  let p := pier.val
  let q := 1 - p
  s.run (fun d =>
    if !d.mode.diesUp then d
    else if quoin then
      let x := d.pierOwn p
      if x.quoinSilent ∨ !d.expired .pl x.quoinAt silence then d
      else ((d.setPierOwn p { x with quoinSilent := true }).count .OWN_HB_SILENT).event .pl 0x3FB (le 1 p)
    else
      let x := d.pierOwn q
      if x.partnerSilent ∨ !d.controlRuns q ∨ !d.expired (pierDie q) x.partnerAt silence then d
      else (((d.setPierOwn q { x with partnerSilent := true }).count .OWN_HB_SILENT).event (pierDie q) 0x3FB (le 1 p)).sendClaim q)

/-- Who holds a member's reservation (16 R623): as its last Acquire left it, else the pier that serves its volume. -/
def Dev.holder (s : Dev) (v k : Nat) : Option Nat := (s.own.holders.find k).getD (some (s.volPier v))

/-- Set a member's holder. -/
def Dev.setHolder (s : Dev) (k : Nat) (h : Option Nat) : Dev := { s with own := { s.own with holders := s.own.holders.insert k h } }

/-- Slots of a volume's members. -/
def Dev.memberSlots (s : Dev) (v : Nat) : List Nat := (s.vol v).members.map (fun e => e.2.slot)

/-- A pier holds a strict majority of a volume's members (16 R626). -/
def Dev.hasMajority (s : Dev) (p v : Nat) : Bool :=
  let ks := s.memberSlots v
  decide (ks.length < 2 * (ks.filter (fun k => s.holder v k == some p)).length)

/-- Acquires to the members of a volume that a pier reaches and does not hold (16 R623). -/
def Dev.acquireAll (s : Dev) (p v : Nat) : Dev :=
  ((s.memberSlots v).filter (fun k => s.reaches p k && s.holder v k != some p && !s.own.acquiring.contains (p, k))).foldl
    (fun s k => { s with own := { s.own with acquiring := s.own.acquiring ++ [(p, k)] } }.emit (.memberAcquire p k)) s

/-- Members that a pier does not reach become missing to the volumes it serves (16 R620; 01 R28). -/
def Dev.unreachedMissing (s : Dev) (p v : Nat) : Dev :=
  ((s.membersIn v [.online, .rebuilding]).filter (fun e => !s.reaches p e.2)).foldl (fun s e => s.memberLeaves v e.1 .missing) s

/-- Staged images of a volume are not used any more (09 R360). -/
def Dev.dropStaged (s : Dev) (p v : Nat) : Dev :=
  let x := s.pier p
  s.setPier p { x with staged := x.staged.filter (fun e => e.1 / 2 ^ 37 / 24 != v) }

/-- A pier takes a volume into service (16 R619, steps 2 and 3; 09 R360): the other pier's unretired records of it are applied and retired. -/
def Dev.serveVol (s : Dev) (p v : Nat) (blocks : List Fetched) : Dev :=
  let s := s.dropStaged (1 - p) v
  let s := (s.replay (1 - p) (fun r => r.volume == v) blocks).dev
  let x := s.pierOwn p
  let s := s.setPierOwn p { x with pending := x.pending.filter (· != v), stopped := x.stopped.filter (· != v) }
  let s := { s with own := { s.own with giving := s.own.giving.filter (· != v) } }
  ((s.unreachedMissing p v).fillPlaces p).releaseHeld v

/-- The granted volumes of a pier whose members have answered, and of which it holds a majority, are served (16 R619, R628). -/
def Dev.servePending (s : Dev) (p : Nat) (blocks : List Fetched) : Dev :=
  (s.pierOwn p).pending.foldl (fun s v =>
    if (s.memberSlots v).any (fun k => s.own.acquiring.contains (p, k)) || !s.hasMajority p v then s else s.serveVol p v blocks) s

/-- Commands of a volume dispatched to a lost pier end with 21h, DNR clear (16 R619, 04 R173). -/
def Dev.interruptVol (s : Dev) (v : Nat) : Dev :=
  (s.nvme.cmds.filter (fun c => c.io && c.vol == v && c.dispatched && c.status.isNone && !c.completed && !c.cancelled)).foldl (fun s c =>
    let c := { c with status := some stInterrupted, staging := 0 }
    (s.setCmd c).releaseAccs c) s

/-- A pier becomes the server of a volume; its members are held by whom they were. -/
def Dev.moveVol (s : Dev) (p v : Nat) : Dev :=
  let s := (s.memberSlots v).foldl (fun s k => s.setHolder k (s.holder v k)) s
  s.setVol v { s.vol v with owner := p }

/-- The quoin grants items to a pier (16 R615, R618, R625, R629): their epochs advance; what it reaches learns of them. -/
def Dev.quoinGrant (s : Dev) (p : Nat) (slots vols : List Nat) : Dev :=
  let own := s.own
  let slots' := slots.foldl (fun (t : Table Owned) k => t.insert k ⟨p, (s.quoinSlot k).epoch + 1⟩) own.slots
  let vols' := vols.foldl (fun (t : Table Owned) v => t.insert v ⟨p, (s.quoinVol v).epoch + 1⟩) own.vols
  let learned := slots.foldl (fun (t : Table Nat) k =>
    if s.quoinReaches (slotLanes k) then t.put 1 k (max (t.get 1 k) ((s.quoinSlot k).epoch + 1)) else t) own.learned
  let s := { s with own := { own with slots := slots', vols := vols', learned := learned, dispute := false } }
  let q := s.pierOwn (1 - p)
  let s := if s.quoinReaches (1 - p) then s.setPierOwn (1 - p) { q with pending := q.pending.filter (fun v => !vols.contains v) } else s
  (s.tellPier 0).tellPier 1

/-- The quoin answers a pier's claim: 0 granted, 1 stale, 2 alive. -/
def Dev.quoinAnswer (s : Dev) (p a : Nat) : Dev := s.setPierOwn p { s.pierOwn p with answer := some a }

/-- A giveback to home pier `h` is over with, its volumes going on where they are (16 R621). -/
def Dev.giveUpBack (s : Dev) (h : Nat) : Dev :=
  let vs := s.own.giving.filter (fun v => s.fld .VOL_CFG_HOME v == h)
  let s := { s with own := { s.own with giving := s.own.giving.filter (fun v => !vs.contains v), back := s.own.back.filter (· != h) } }
  vs.foldl (fun s v => s.releaseHeld v) s

/-- Every region of both piers runs. -/
def Dev.piersRun (s : Dev) : Bool := s.mode.diesUp && (List.range 12).all (fun r => !s.isolated r)

/-- No dispute and no fence is in force (16 R621). -/
def Dev.noDispute (s : Dev) : Bool :=
  !s.own.dispute && (List.range 2).all (fun p =>
    let x := s.pierOwn p
    !x.fenced && x.majority.isEmpty && x.pending.isEmpty && x.stopped.isEmpty)

/-- Slots and volumes that belong to home pier `h` and are owned by its partner. -/
def Dev.awaySlots (s : Dev) (h : Nat) : List Nat := (List.range 24).filter (fun k => slotLanes k == h && (s.quoinSlot k).owner != h)
def Dev.awayVols (s : Dev) (h : Nat) : List Nat := (List.range 64).filter (fun v => s.fld .VOL_CFG_HOME v == h && (s.quoinVol v).owner != h)

/-- The owner claims items for their home pier, on its behalf, once its dispatched commands are finished and its records retired; it
releases its reservations (16 R621). -/
def Dev.claimHome (s : Dev) (h : Nat) : Dev :=
  let vols := s.awayVols h
  let busy := vols.any (fun v =>
    s.nvme.cmds.any (fun c => c.vol == v && c.dispatched && !c.held && !c.finished) ||
    (s.pier (1 - h)).recs.any (fun r => r.volume == v && r.kind != 0 && !r.retired))
  if !s.piersRun ∨ !s.noDispute then s.giveUpBack h
  else if busy then s
  else
    let slots := s.awaySlots h
    let live := vols.filter (fun v => decide ((s.vol v).st ≠ .none))
    let s := live.foldl (fun s v => (s.memberSlots v).foldl (fun s k => (s.setHolder k none).emit (.memberRelease (1 - h) k)) s) s
    let s := s.quoinGrant h slots vols
    let x := s.pierOwn h
    let s := s.setPierOwn h { x with claimAt := some (s.nowOn (pierDie h)), claimSlots := slots.map (fun k => (k, 0)), claimVols := vols.map (fun v => (v, 0))
                                     claimMaj := false, answer := some 0 }
    { s with own := { s.own with back := s.own.back.filter (· != h) } }.event .pl 0x0D2

/-- For a live change a pier hands its volumes and slots to its partner `h`, as in a giveback (17 R664): new commands are held; once the dispatched
ones are finished and the records retired, the reservations are released and the items claimed on the partner's behalf. -/
def Dev.claimLent (s : Dev) (h : Nat) : Dev :=
  let slots := (List.range 24).filter (fun k => (s.quoinSlot k).owner != h)
  let vols := (List.range 64).filter (fun v => (s.quoinVol v).owner != h)
  let live := vols.filter (fun v => decide ((s.vol v).st ≠ .none))
  let s := { s with own := { s.own with giving := s.own.giving ++ live.filter (fun v => !s.own.giving.contains v) } }
  let busy := vols.any (fun v =>
    s.nvme.cmds.any (fun c => c.vol == v && c.dispatched && !c.held && !c.finished) ||
    (s.pier (1 - h)).recs.any (fun r => r.volume == v && r.kind != 0 && !r.retired))
  if busy || !s.piersRun then s
  else
    let s := live.foldl (fun s v => (s.memberSlots v).foldl (fun s k => (s.setHolder k none).emit (.memberRelease (1 - h) k)) s) s
    let s := s.quoinGrant h slots vols
    let x := s.pierOwn h
    let s := s.setPierOwn h { x with claimAt := some (s.nowOn (pierDie h)), claimSlots := slots.map (fun k => (k, 0)), claimVols := vols.map (fun v => (v, 0))
                                     claimMaj := false, answer := some 0 }
    { s with own := { s.own with lending := none } }

/-- The quoin decides a claim (16 R618). -/
def Dev.decideClaim (s : Dev) (p : Nat) : Dev :=
  let x := s.pierOwn p
  let slots := x.claimSlots.map Prod.fst
  let vols := x.claimVols.map Prod.fst
  let stale := x.claimSlots.any (fun e => (s.quoinSlot e.1).epoch != e.2) || x.claimVols.any (fun e => (s.quoinVol e.1).epoch != e.2)
  let mine := slots.all (fun k => (s.quoinSlot k).owner == p) && vols.all (fun v => (s.quoinVol v).owner == p)
  let q := s.pierOwn (1 - p)
  if !x.claimMaj ∧ stale then s.quoinAnswer p 1
  else if !x.claimMaj ∧ mine then s.quoinAnswer p 0
  else if !x.claimMaj ∧ s.now ≤ q.quoinAt + silence then s.quoinAnswer p 2
  else (s.quoinGrant p slots vols).quoinAnswer p 0

/-- QUOIN_CLAIM (16 R615, R618, R621, R625, R629): the quoin decides the claim of a pier that reaches it. With `majority` the pier claims the volumes it
serves by majority and the slots of the members it holds; a home pier's giveback is claimed on its behalf. -/
def execQuoinClaim (pier : Fin 2) (majority : Bool) (s : State) : Result :=
  let p := pier.val
  s.runIf (s.dev.controlRuns p && s.dev.quoinReaches p) (fun d =>
    let x := d.pierOwn p
    if majority then
      if x.majority.isEmpty ∨ x.fenced then d
      else
        let slots := (x.majority.flatMap (fun v => (d.memberSlots v).filter (fun k => d.holder v k == some p))).eraseDups
        ((d.setPierOwn p { x with claimAt := some (d.nowOn (pierDie p)), claimSlots := slots.map (fun k => (k, 0))
                                  claimVols := x.majority.map (fun v => (v, 0)), claimMaj := true, answer := none }).count .OWN_CLAIMS).decideClaim p
    else if d.own.back.contains p then d.claimHome p
    else if d.own.lending = some (1 - p) ∧ d.own.back.isEmpty then d.claimLent p
    else if x.claimAt.isSome ∧ x.answer.isNone then d.decideClaim p
    else d)

/-- A claim is over. -/
def PierOwn.claimOver (x : PierOwn) : PierOwn := { x with claimAt := none, claimSlots := [], claimVols := [], claimMaj := false, answer := none }

/-- CLAIM_GRANT (16 R619, R622, R623, R628; 09 R360): event 0D0h with the items and the highest new epoch; the pier takes the members' reservations,
and serves what it holds a majority of. -/
def execClaimGrant (pier : Fin 2) (blocks : List Fetched) (s : State) : Result :=
  let p := pier.val
  s.runIf (decide ((s.dev.pierOwn p).answer = some 0) && s.dev.controlRuns p && s.dev.quoinReaches p) (fun d =>
    let x := d.pierOwn p
    let slots := x.claimSlots.map Prod.fst
    let vols := x.claimVols.map Prod.fst
    let top := ((slots.map (fun k => (d.quoinSlot k).epoch)) ++ (vols.map (fun v => (d.quoinVol v).epoch))).foldl max 0
    let d := d.event .pl 0x0D0 (le 1 p ++ le 4 (bitmap slots) ++ le 8 (bitmap vols) ++ le 4 top)
    let d := d.setPierOwn p { x.claimOver with majority := x.majority.filter (fun v => !vols.contains v) }
    let moved := vols.filter (fun v => decide ((d.vol v).st ≠ .none) && d.volPier v != p)
    let d := moved.foldl (fun d v =>
      let d := if d.own.giving.contains v then d else d.interruptVol v
      (d.moveVol p v).acquireAll p v) d
    let y := d.pierOwn p
    let d := d.setPierOwn p { y with pending := y.pending ++ moved.filter (fun v => !y.pending.contains v)
                                     retryAt := d.nowOn (pierDie p) + 100 * ms }
    d.servePending p blocks)

/-- CLAIM_REFUSED (16 R620): event 0D1h; the members on the partner's lanes become missing to the pier. -/
def execClaimRefused (pier : Fin 2) (s : State) : Result :=
  let p := pier.val
  s.runIf ((s.dev.pierOwn p).answer.any (fun a => a != 0) && s.dev.controlRuns p && s.dev.quoinReaches p) (fun d =>
    let d := (d.setPierOwn p (d.pierOwn p).claimOver).eventOpenCause .pl 0x0D1
    ((d.volsOf p).foldl (fun d v => d.unreachedMissing p v) d).regather)

/-- QUOIN_TIMEOUT (16 R623, R626, R627; 01 R20): no answer within QUOIN_TO. `held`: the members whose Acquire has succeeded, or whose Report shows the
pier's key. Every volume is disputed; event 3FCh; a pier that loses a volume of its own fences itself. -/
def execQuoinTimeout (pier : Fin 2) (held : BitVec 24) (blocks : List Fetched) (s : State) : Result :=
  let p := pier.val
  s.run (fun d =>
    let x := d.pierOwn p
    match x.claimAt with
    | none => d
    | some t =>
      if x.answer.isSome ∧ d.quoinReaches p ∨ !d.controlRuns p ∨ x.fenced ∨ !d.expired (pierDie p) t (d.fld .OWN_CFG_QUOIN_TO * us) then d
      else
        let d := d.setPierOwn p x.claimOver
        let vols := d.volumes
        let d := vols.foldl (fun d v =>
          let ks := d.memberSlots v
          ks.foldl (fun d k => if d.reaches p k && held.getLsbD k then d.setHolder k (some p) else d.setHolder k (d.holder v k)) d) d
        let wins := fun (v : Nat) =>
          let ks := d.memberSlots v
          decide (ks.length < 2 * (ks.filter (fun k => d.reaches p k && held.getLsbD k)).length)
        let won := vols.filter wins
        let lost := vols.filter (fun v => !wins v && d.volPier v == p)
        let d := { d with own := { d.own with dispute := true } }.count .OWN_DISPUTES
        let y := d.pierOwn p
        let d := d.setPierOwn p { y with majority := won, stopped := lost }
        let d := won.foldl (fun d v =>
          if d.volPier v = p then (d.unreachedMissing p v).regather
          else (((d.interruptVol v).moveVol p v).serveVol p v blocks)) d
        if lost.isEmpty then d.event (pierDie p) 0x3FC (le 8 (bitmap won) ++ le 8 0) else d.fence p (some (won, lost)))

/-- PREEMPT_RETRY (16 R623, R628): every 100 ms a pier repeats its preemptions for a granted volume it has no majority of. -/
def execPreemptRetry (pier : Fin 2) (blocks : List Fetched) (s : State) : Result :=
  let p := pier.val
  let x := s.dev.pierOwn p
  s.runIf (s.dev.controlRuns p && !x.fenced && !x.pending.isEmpty && decide (x.retryAt ≤ s.dev.nowOn (pierDie p))) (fun d =>
    let d := d.setPierOwn p { x with retryAt := d.nowOn (pierDie p) + 100 * ms }
    let d := { d with own := { d.own with acquiring := d.own.acquiring.filter (fun e => e.1 != p) } }
    (x.pending.foldl (fun d v => d.acquireAll p v) d).servePending p blocks)

/-- MEMBER_ACQUIRE_COMPLETE (16 R623, R625, R626, R628): an Acquire or Register has completed, or a Report shows the pier's key: the member is held,
the drive region learns the slot's epoch; with a majority the pier serves the volume. -/
def execMemberAcquireComplete (pier : Fin 2) (slot : Fin 24) (held : Bool) (blocks : List Fetched) (s : State) : Result :=
  let p := pier.val
  let k := slot.val
  s.runIf (s.dev.reaches p k && s.dev.controlRuns p && !(s.dev.pierOwn p).fenced) (fun d =>
    let d := { d with own := { d.own with acquiring := d.own.acquiring.filter (· != (p, k)) } }
    let d := if held then
        let d := d.setHolder k (some p)
        let learned := d.own.learned.put 1 k (max (d.own.learned.get 1 k) (d.seenSlot p k).epoch)
        { d with own := { d.own with learned := learned } }
      else d
    d.servePending p blocks)

/-- A giveback may begin (16 R621). -/
def Dev.mayGiveBack (s : Dev) : Bool := s.piersRun && s.noDispute && s.own.back.isEmpty

/-- The present owners begin to give back what is away from the home piers named (16 R621): new commands of the volumes are held. -/
def Dev.giveBack (s : Dev) (homes : List Nat) : Dev :=
  let hs := homes.filter (fun h => !(s.awaySlots h).isEmpty || !(s.awayVols h).isEmpty)
  let vs := hs.flatMap (fun h => (s.awayVols h).filter (fun v => decide ((s.vol v).st ≠ .none)))
  { s with own := { s.own with back := hs, giving := vs } }

/-- An OWN_CMD that is not allowed is discarded, event 0D1h (16 R640). -/
def Dev.ownRefused (s : Dev) : Dev := s.eventOpenCause .pl 0x0D1

/-- A command of OWN_CMD (16 R640): Custodian only; `f` does it where it is allowed. -/
def Dev.ownCommand (s : Dev) (via : Via) (f : Dev → Option Dev) : Dev :=
  let addr := Reg.addr .OWN_CMD
  let allowed := fun (s : Dev) => match via with
    | .reg r => s.privileged r
    | .dict _ => true
  s.viaCommand via addr (fun s =>
    match (if allowed s then f s else none) with
    | some t => (t, abortOk)
    | none => (s.ownRefused, abortState))

/-- GIVEBACK (16 R621, R640). -/
def execGiveback (via : Via) (s : State) : Result :=
  s.run (·.ownCommand via (fun d => if d.mayGiveBack then some (d.giveBack [0, 1]) else none))

/-- AUTO_GIVEBACK (16 R621): with AUTO_BACK, 10 s after the home pier's regions all run. -/
def execAutoGiveback (s : State) : Result :=
  s.runIf (s.dev.flag .OWN_CFG_AUTO_BACK && s.dev.mayGiveBack) (fun d =>
    d.giveBack ((List.range 2).filter (fun h => decide ((d.pierOwn h).regionsFrom + 10 * sec ≤ d.now))))

/-- UNFENCE (16 R627, R640; 01 R23): while the quoin reaches both piers, the fenced piers' drive regions are released; they serve what the quoin grants
them. -/
def execUnfence (via : Via) (s : State) : Result :=
  s.run (·.ownCommand via (fun d =>
    let ps := (List.range 2).filter (fun p => (d.pierOwn p).fenced)
    if ps.isEmpty ∨ !d.quoinReaches 0 ∨ !d.quoinReaches 1 then none
    else some (ps.foldl (fun d p =>
      let d := d.setPierOwn p { d.pierOwn p with fenced := false, majority := [], stopped := [], pending := [] }
      let d := d.volumes.foldl (fun d v => if (d.quoinVol v).owner = d.volPier v then d else d.moveVol (d.quoinVol v).owner v) d
      (d.tellPier p).startTest (p * 6)) d)))

end Sys2Proof.Machine
end

