-- ==== Sys2Proof/Machine/Bond.lean ====
section
/-!
DEFINITION. The commands of the Salben bond links and of package ownership (16; 07 R302-R304).
-/
namespace Sys2Proof.Machine

/-- Lanes as BOND_STAT.WIDTH codes them. -/
def widthCode (w : Nat) : Nat := if w = 8 then 0 else if w = 4 then 1 else 2

/-- A bond link's width changes, or it comes up: event 3FEh (16 R634, R641). -/
def Dev.bondWidthEvent (s : Dev) (k : Nat) : Dev := s.event .ln 0x3FE (le 1 k ++ le 1 (widthCode (s.bond k).width))

/-- A bond link is down, refused, or the mirror suspended: event 3FDh with the port and a cause (16 R641). -/
def Dev.bondWarn (s : Dev) (k : Nat) : Dev := s.eventOpenCause .ln 0x3FD (le 1 k)

/-- A link goes down: what it had not been acknowledged is lost to it (16 R632, R637). -/
def Dev.bondDown (s : Dev) (k : Nat) (failed : Bool) : Dev :=
  let x := s.bond k
  if !x.up then s
  else
    let s := (s.setBond k { x with up := false, failed := failed, downAt := s.nowOn .ln, unacked := [], width := 8, request := none, low := 0 }).bondWarn k
    if s.bondsUp.isEmpty then { s with own := { s.own with noBondFrom := s.nowOn .ln } } else s

/-- A link trains (16 R630; 07 R302, R303): with EN and a LOADED key of use BOND, to a package of another index, while the training count under that key can
grow. Records waiting for the mirror are sent again. -/
def Dev.bondTrain (s : Dev) (k peer : Nat) : Dev :=
  match s.serviceKey (s.fld .BOND_CFG_KEY_ID k) useBond with
  | none => s
  | some key =>
    let x := s.bond k
    let n := if x.keyed = key then x.training + 1 else 1
    if !s.epUp ∨ !s.flag .BOND_CFG_EN k ∨ x.up then s
    else if peer = s.pkgIdx then s.bondWarn k
    else if 2 ^ 29 - 1 < n then s.event .ln 0x30B (le 1 k)
    else
      let s := s.setBond k { up := true, peer := peer, keyed := key, training := n, ackAt := s.nowOn .ln, hbAt := s.nowOn .ln }
      let s := { s with own := { s.own with mirrorOff := false } }.bondWidthEvent k
      if !s.flag .BOND_CFG_MIRROR k then s
      else (List.range 2).foldl (fun s p =>
        ((s.pier p).recs.filter (fun r => r.kind != 0 && !r.committed && !r.retired && !r.mirrored)).foldl (fun s r => s.mirrorSend p r.seq r.length) s) s

/-- BOND_LINK_UP (16 R630; 07 R302, R303). -/
def execBondLinkUp (link : Fin 2) (peer : Fin 4) (s : State) : Result :=
  s.runIf (!(s.dev.bond link.val).failed) (·.bondTrain link.val peer.val)

/-- BOND_RETRAIN (16 R632): 1 ms after the link went down. -/
def execBondRetrain (link : Fin 2) (peer : Fin 4) (s : State) : Result :=
  let x := s.dev.bond link.val
  s.runIf (x.failed && decide (x.downAt + ms ≤ s.dev.nowOn .ln)) (·.bondTrain link.val peer.val)

/-- BOND_ACK_RECEIVE (16 R632): acknowledgements are cumulative. -/
def execBondAckReceive (link : Fin 2) (lseq : Word) (s : State) : Result :=
  let k := link.val
  s.runIf (s.dev.bondRuns k) (fun d =>
    let x := d.bond k
    let left := (x.unacked.dropWhile (fun f => f.lseq != lseq.toNat)).drop 1
    if x.unacked.any (fun f => f.lseq == lseq.toNat) then d.setBond k { x with unacked := left, ackAt := d.nowOn .ln } else d)

/-- BOND_REPLAY_TIMEOUT (16 R632; 06 R262): 10 µs after the last acknowledgement every unacknowledged frame is sent again, each under a new
FRAME_CTR; after eight failed replays of a frame the link goes down. -/
def execBondReplayTimeout (link : Fin 2) (s : State) : Result :=
  let k := link.val
  let x := s.dev.bond k
  s.runIf (s.dev.bondRuns k && !x.unacked.isEmpty && s.dev.expired .ln x.ackAt (10 * us)) (fun d =>
    if x.unacked.any (fun f => decide (8 ≤ f.replays)) then d.bondDown k true
    else
      let d := (d.setBond k { x with unacked := x.unacked.map (fun f => { f with replays := f.replays + 1 }), ackAt := d.nowOn .ln
                                     frameCtr := x.frameCtr + x.unacked.length }).count .OWN_BOND_REPLAYS 0 x.unacked.length
      let d := d.countJobs x.unacked.length
      x.unacked.zipIdx.foldl (fun d e => d.emit (.bondFrame k e.1.type e.1.cls e.1.lseq e.1.bytes x.training (x.frameCtr + e.2))) d)

/-- An acknowledgement is sent; it takes a FRAME_CTR and is not itself acknowledged (16 R632). -/
def Dev.bondAckSend (s : Dev) (k : Nat) : Dev :=
  let x := s.bond k
  (((s.countJobs 1).setBond k { x with frameCtr := x.frameCtr + 1 }).emit (.bondFrame k bondAckType 0 x.lseq 4 x.training x.frameCtr)).emit (.bondAck k x.rxLseq)

/-- What a frame carries is done (16 R635, R637, R638). -/
def Dev.bondBody (s : Dev) (k : Nat) : SalbenBody → Dev
  | .heartbeat =>
    let x := s.bond k
    let s := s.setBond k { x with hbAt := s.nowOn .ln, hbSeen := true }
    { s with own := { s.own with pkgSilent := s.own.pkgSilent.filter (· != x.peer) } }
  | .mirror p seq v blocks =>
    let pkg := (s.bond k).peer
    let others := s.own.mirrors.filter (fun m => !(m.pkg == pkg && m.pier == p.val && m.seq == seq))
    let s : Dev := { s with own := { s.own with mirrors := others ++ [({ pkg := pkg, pier := p.val, seq := seq, volume := v, blocks := blocks } : Mirror)] } }
    (s.bondSend k bondMirrorAckType 0 16).emit (.bondMirrorAck k p.val seq)
  | .mirrorAck p seq =>
    match s.record p.val seq with
    | some r => s.setRec p.val { r with mirrored := true }
    | none => s
  | .completion id st dw0 dnr data =>
    match s.cmd id with
    | some c =>
      if c.remote && !c.io && c.status.isNone && !c.completed && !c.cancelled then
        s.setCmd { c with status := some st, dw0 := dw0, dnr := dnr, data := if c.op = CmdOp.read then data else c.data }
      else s
    | none => s
  | .other => s

/-- BOND_FRAME_RECEIVE (07 R304; 16 R632): a frame whose tag fails is dropped; so is one out of order; the one in order is taken and acknowledged. -/
def execBondFrameReceive (link : Fin 2) (f : SalbenFrame) (s : State) : Result :=
  let k := link.val
  s.runIf (s.dev.bondRuns k) (fun d =>
    let x := d.bond k
    let d := d.countJobs 1
    if !f.tagOk then (d.count .CX_BOND_TAG_FAIL).addMark (markBondTag link.val)
    else if f.lseq.toNat ≠ (x.rxLseq + 1) % 2 ^ 32 then d.bondAckSend k
    else ((d.setBond k { x with rxLseq := f.lseq.toNat, rxCtr := f.ctr.toNat }).bondBody k f.body).bondAckSend k)

/-- Lanes that MIN_WIDTH names. -/
def minWidth (code : Nat) : Nat := if code = 0 then 8 else if code = 1 then 4 else 2

/-- A width is asked for (16 R633, R634). -/
def Dev.askWidth (s : Dev) (k w : Nat) : Dev :=
  let s := s.setBond k { s.bond k with request := some w, low := 0 }
  (s.bondSend k bondWidthType 0 4).emit (.bondWidth k w none)

/-- SHED_WINDOW_END (16 R633): with SHED_EN; `tx` and `rx` are the bytes of the 1 ms window, `burst` those sent in the last 10 µs. A link carries 12,500
bytes per lane and µs. -/
def execShedWindowEnd (link : Fin 2) (tx rx burst : Nat) (s : State) : Result :=
  let k := link.val
  s.runIf (s.dev.bondRuns k && s.dev.flag .BOND_CFG_SHED_EN k) (fun d =>
    let x := d.bond k
    let cells := ((d.sw.units.filter (fun u => u.output == 11 + k)).map (·.cells)).sum
    let busy := decide (64 < cells) || decide (3 * (125000 * x.width) < 4 * burst)
    if x.request.isSome then d
    else if busy then (if x.width < 8 then d.askWidth k (2 * x.width) else d)
    else if d.nowOn .ln % ms ≠ 0 then d
    else
      let cap := 12500000 * x.width
      let low := if 4 * tx < cap ∧ 4 * rx < cap then x.low + 1 else 0
      if 4 ≤ low ∧ minWidth (d.fld .BOND_CFG_MIN_WIDTH k) < x.width then d.askWidth k (x.width / 2)
      else d.setBond k { x with low := min 4 low })

/-- A new width holds (16 R634). -/
def Dev.takeWidth (s : Dev) (k w : Nat) : Dev :=
  ((s.setBond k { s.bond k with width := w, request := none, low := 0 }).count .OWN_WIDTH_CHANGES).bondWidthEvent k

/-- WIDTH_REQUEST_RECEIVE (16 R634): of crossing requests a widening one prevails, and of two of a kind that of the lower PKG_IDX. -/
def execWidthRequestReceive (link : Fin 2) (width : Nat) (s : State) : Result :=
  let k := link.val
  let x := s.dev.bond k
  s.runIf (s.dev.bondRuns k && (width == 2 * x.width || 2 * width == x.width) && (width == 2 || width == 4 || width == 8)) (fun d =>
    let wide := decide (x.width < width)
    let yields := match x.request with
      | none => true
      | some w => if decide (x.width < w) = wide then decide (x.peer < d.pkgIdx) else wide
    if !yields then d
    else
      let d := (d.bondSend k bondWidthAckType 0 8).emit (.bondWidth k width (some (((d.bond k).lseq + 1) % 2 ^ 32)))
      d.takeWidth k width)

/-- WIDTH_ACK_RECEIVE (16 R634): the width asked for holds from the LSEQ named. -/
def execWidthAckReceive (link : Fin 2) (_lseq : Word) (s : State) : Result :=
  let k := link.val
  s.runIf (s.dev.bondRuns k) (fun d =>
    match (d.bond k).request with
    | some w => d.takeWidth k w
    | none => d)

/-- The mirrored records of a volume are applied to the members reached (16 R637). -/
def Dev.applyMirrors (s : Dev) (pkg v : Nat) : Dev :=
  let p := s.volPier v
  let mine := fun (m : Mirror) => m.pkg == pkg && m.volume == v
  let s := ((s.own.mirrors.filter mine).flatMap (·.blocks)).foldl (fun s b =>
    if b.slot < 24 ∧ s.reaches p b.slot then
      let id := s.store.nextMcmd
      let s := { s with store := { s.store with nextMcmd := id + 1 } }
      (s.count .DRV_MCMD_ISSUED (slotLanes b.slot)).emit (.memberWrite id b.slot b.unit b.stored)
    else s) s
  { s with own := { s.own with mirrors := s.own.mirrors.filter (fun m => !mine m) } }

/-- PACKAGE_HEARTBEAT_TIMEOUT (16 R635-R637): a partner package silent on every link for 300 µs, event 3FBh; the volumes it owns are disputed,
event 3FCh; those won advance their package epoch, event 3FEh. `held`: the members held under the new key. -/
def execPackageHeartbeatTimeout (pkg : Fin 4) (held : BitVec 24) (s : State) : Result :=
  let g := pkg.val
  s.run (fun d =>
    let links := (List.range 2).filter (fun k => (d.bond k).peer == g && (d.bond k).training != 0)
    if !d.epUp ∨ g = d.pkgIdx ∨ links.isEmpty ∨ d.own.pkgSilent.contains g ∨ links.any (fun k => !d.expired .ln (d.bond k).hbAt silence) then d
    else
      let d := ({ d with own := { d.own with pkgSilent := d.own.pkgSilent ++ [g] } }.count .OWN_HB_SILENT).event .ln 0x3FB (le 1 g)
      let vols := (List.range 64).filter (fun v => (d.pvol v).pkg == g)
      if vols.isEmpty then d
      else
        let wins := fun (v : Nat) =>
          let ks := d.cfgSlots v
          decide (ks.length < 2 * (ks.filter (fun k => d.reaches (d.volPier v) k && held.getLsbD k)).length)
        let won := vols.filter wins
        let pv := won.foldl (fun (t : Table PkgOwned) v => t.insert v ⟨d.pkgIdx, ((d.pvol v).epoch + 1) % 2 ^ 30⟩) d.own.pvols
        let d := { d with own := { d.own with pvols := pv, dispute := true } }.count .OWN_DISPUTES
        let d := d.event .ln 0x3FC (le 8 (bitmap won) ++ le 8 (bitmap (vols.filter (fun v => !wins v))))
        let d := won.foldl (fun d v => d.applyMirrors g v) d
        d.eventIf (!won.isEmpty) .ln 0x3FE (le 8 (bitmap won)))

/-- MIRROR_SUSPEND (16 R637): no bond link up for 1 ms. -/
def execMirrorSuspend (s : State) : Result :=
  s.runIf (s.dev.mirrors && s.dev.bondsUp.isEmpty && s.dev.mode.diesUp && s.dev.expired .ln s.dev.own.noBondFrom ms) (fun d =>
    { d with own := { d.own with mirrorOff := true } }.bondWarn (if d.flag .BOND_CFG_MIRROR 0 then 0 else 1))

/-- A forwarded command is answered at once. -/
def Dev.fwdAnswer (s : Dev) (src : CmdSource) (f : Forwarded) (e : Nat × Bool) : Dev :=
  (s.newCmd src noCtrl f.cid.toNat (fun x => { x with status := some e.1, dnr := e.2, remote := true, nsid := f.args.nsid })).2

/-- A forwarded command accepted here (16 R638): numbered and tracked with this package's own. -/
def Dev.fwdAccept (s : Dev) (src : CmdSource) (f : Forwarded) (op : CmdOp) (opcode need : Nat) (ranges : List (Nat × Nat)) (data : Block)
    (g : Cmd → Cmd) : Dev :=
  let c : Ctrl := { hostId := f.hostId, tenant := s.nsTenant (f.args.nsid - 1) }
  let r := s.acceptIo src noCtrl f.cid.toNat (fun x => g { ioFields s c f.args op opcode ranges x with
    need := need, asked := need, data := slice data 0 need, checked := need == 0 && op.writes, remote := true })
  if need = 0 then r.2 else r.2.dataCame r.1

/-- A forwarded reservation command, with its status and the hosts it waits for. -/
def Dev.fwdResv (s : Dev) (src : CmdSource) (f : Forwarded) (opcode st : Nat) (waits : List Nat) : Dev :=
  s.fwdAccept src f (if waits.isEmpty then .flush else .preempt) opcode 0 [] [] (fun x =>
    { x with status := if waits.isEmpty then some st else none, preempted := waits, resvWrite := true })

/-- FORWARDED_COMMAND (16 R638; 04 R148): accepted, tracked and checked against reservations where its volume is owned; else forwarded again,
within two hops, or answered with 82h. -/
def execForwardedCommand (link : Fin 2) (f : Forwarded) (s : State) : Result :=
  let src : CmdSource := .bond link f.tag
  s.runIf (s.dev.frontUp && s.dev.bondRuns link.val) (fun d =>
    let a := f.args
    let n := a.nsid - 1
    let v := d.nsVol n
    let size := (a.nlb + 1) * d.blockBytes n a.pract
    let span := [(a.slba, a.nlb + 1)]
    if !(decide (1 ≤ a.nsid) && decide (a.nsid ≤ 4096) && d.flag .NS_CFG_ACTIVE n) then d.fwdAnswer src f (stNamespace, false)
    else if d.foreignVol v then
      if f.hops < 2 ∧ (d.linkTo (d.pvol v).pkg).any (fun k => k != link.val) then
        let r := d.newCmd src noCtrl f.cid.toNat (fun x => { x with remote := true, nsid := a.nsid, vol := v })
        r.2.forward r.1
      else d.fwdAnswer src f (stNotReady, false)
    else
      let writes : Option Bool := match f.op with
        | .read => some false
        | .compare _ => some false
        | .register _ => none
        | .report _ => none
        | .acquire _ => none
        | .release _ => none
        | _ => some true
      let ranges := match f.op with
        | .read => span
        | .write _ => span
        | .compare _ => span
        | .zeroes => span
        | .deallocate l => l
        | _ => []
      match firstOf [if ranges.any (fun r => decide (d.nsBlocks n < r.1 + r.2)) then some (stRange, false) else none, d.volumeStatus n,
          match writes with
          | some w => if (d.resvOf a.nsid).allows f.hostId w then none else some (stConflict, false)
          | none => none] with
      | some e => d.fwdAnswer src f e
      | none =>
        match f.op with
        | .read => d.fwdAccept src f .read 0x02 0 span [] id
        | .write data => d.fwdAccept src f .write 0x01 size span data id
        | .compare data => d.fwdAccept src f .compare 0x05 size span data id
        | .zeroes => d.fwdAccept src f .zeroes 0x08 0 span [] id
        | .deallocate l => d.fwdAccept src f .deallocate 0x09 0 l [] id
        | .flush => d.fwdAccept src f .flush 0x00 0 [] [] (fun x => { x with status := some 0 })
        | .register r =>
          let e := d.resvRegister a.nsid f.hostId r
          e.2.fwdResv src f 0x0D e.1 []
        | .report _ => d.fwdResv src f 0x0E 0 []
        | .acquire r =>
          let e := d.resvAcquire a.nsid f.hostId r
          e.2.2.fwdResv src f 0x11 e.1 e.2.1
        | .release r =>
          let e := d.resvReleaseCmd a.nsid f.hostId r
          e.2.fwdResv src f 0x15 e.1 [])

end Sys2Proof.Machine
end

