-- ==== Sys2Proof/Machine/Recorder.lean ====
section
/-!
DEFINITION. The event recorder and the performance counters (15): taking occurrences, the buffer on Plinth, signalling, the
windows of EV_REC and CNT_WIN, counter snapshots and sampling.
-/
namespace Sys2Proof.Machine

/-- A running ledger is reached over seam 3 or seam 4, and the scan is done (15 R594, R601). -/
def Dev.recorderReached (s : Dev) : Bool :=
  s.evr.scanned && s.mode.diesUp && (List.range 2).any (fun p => s.seamUp (3 + p) && s.pierRuns p 4)

/-- A slot of the partition is usable: its MRAM die has not failed (15 R593). -/
def Dev.recSlotUsable (s : Dev) (i : Nat) : Bool := !s.ldg.dieFailed.contains (s.segPlace (recorderAddr i / 65536) / 4096)

/-- The store records are placed in and read from: the ledger, or the buffer treated as the whole recorder (15 R601; assumption 23). -/
def Dev.recStore (s : Dev) : RecStore := if s.recorderReached then s.evr.ledger else s.evr.buffer

/-- Replace the store in use. -/
def Dev.setRecStore (s : Dev) (x : RecStore) : Dev :=
  if s.recorderReached then { s with evr := { s.evr with ledger := x } } else { s with evr := { s.evr with buffer := x } }

/-- The slot a record of severity `v` takes in the store in use. -/
def Dev.recSlotFor (s : Dev) (v : Nat) : Option Nat :=
  if s.recorderReached then s.evr.ledger.slotFor s.recSlotUsable recorderSlots v
  else s.evr.buffer.slotFor (fun _ => true) bufferSlots v

/-- A record is placed (15 R591, R595): its slot, or none where it was dropped. -/
def Dev.placeRec (s : Dev) (r : Rec) : Option Nat × Dev :=
  match s.recSlotFor r.severity with
  | none => (none, s.dropSeverity r.severity)
  | some k =>
    let x := s.recStore.write k { r with gap := r.gap || s.evr.gap, buffered := r.buffered || !s.recorderReached }
    let s := s.setRecStore x
    (some k, { s with evr := { s.evr with gap := false } })

/-- The buffered records move to the ledger in the order they were placed, none folded (15 R601). -/
def Dev.moveBuffer (s : Dev) : Dev :=
  if s.recorderReached && !s.evr.buffer.slots.isEmpty then
    let rs := sortBy (fun a b => decide (a.seq ≤ b.seq)) (s.evr.buffer.slots.map Prod.snd)
    let s := { s with evr := { s.evr with buffer := {} } }
    rs.foldl (fun s r => (s.placeRec r).2) s
  else s

/-- A message of source 0 is sent and the hold-off armed (15 R602). -/
def Dev.recSignal (s : Dev) : Dev :=
  let s := { s with evr := { s.evr with irqWaiting := false } }
  if s.flag .EP_IRQ_SRC_EN 0 then
    let s := s.irqSource 0
    { s with evr := { s.evr with holdUntil := some (s.now + s.fld .EV_IRQ_HOLDOFF * us) } }
  else s

/-- The hold-off runs: up to and including the tick it was armed for (15 R602). -/
def Dev.recHeld (s : Dev) : Bool :=
  match s.evr.holdUntil with
  | some t => decide (s.now ≤ t)
  | none => false

/-- A new record of severity at least EV_IRQ.MIN signals PF1, or waits for the end of the hold-off (15 R602). -/
def Dev.recIrq (s : Dev) (v : Nat) : Dev :=
  if s.fld .EV_IRQ_MIN ≤ v && s.flag .EP_IRQ_SRC_EN 0 then
    if s.recHeld then { s with evr := { s.evr with irqWaiting := true } } else s.recSignal
  else s

/-- One occurrence is folded, placed or dropped (15 R595-R598, R602, R603). -/
def Dev.takeOcc (s : Dev) (o : Occ) : Dev :=
  let x := s.recStore
  let last := x.lastSlot.bind (fun k => (x.slots.find k).map (fun r => (k, r)))
  let fresh := fun (s : Dev) =>
    let r := o.record
    match s.placeRec r with
    | (some k, s) => (s.emcyRecord r.severity r.id k).recIrq r.severity
    | (none, s) => s
  match last with
  | some (k, r) =>
    if r.repeatedBy o then
      let r' : Rec := { r with repeats := r.repeats + 1, last := max r.last o.stamp }
      s.setRecStore { x with slots := x.slots.insert k r', head := k }
    else fresh s
  | none => fresh s

/-- An occurrence is taken before another: the earlier stamp first, on one tick the higher severity and then the lower ID (15 R600). -/
def Occ.before (a b : Occ) : Bool :=
  let x := eventSeverity a.id
  let y := eventSeverity b.id
  decide (a.stamp < b.stamp) || (a.stamp == b.stamp && (decide (y < x) || (x == y && decide (a.id < b.id))))

/-- The first of the occurrences to be taken. -/
def Occ.first : List Occ → Option Occ
  | [] => none
  | o :: os =>
    match Occ.first os with
    | none => some o
    | some p => if p.before o then some p else some o

/-- The occurrence the controller takes next: among the oldest of each die's queue and those that reach it on Plinth (15 R600). -/
def EventQueues.next (q : EventQueues) : Option Occ := Occ.first (q.pe.take 1 ++ q.pw.take 1 ++ q.ln.take 1 ++ q.pl)

/-- The queues without the occurrence taken. -/
def EventQueues.without (q : EventQueues) (o : Occ) : EventQueues := q.set o.die ((q.get o.die).erase o)

/-- EVENT_TAKE (15 R600): at most one occurrence every 500 ns, none before its stamp. -/
def execEventTake (s : State) : Result :=
  match s.evq.next with
  | some o =>
    if s.dev.evr.nextTake ≤ s.dev.now ∧ o.stamp ≤ s.dev.now then
      { s with evq := s.evq.without o }.run (fun d =>
        ({ d with evr := { d.evr with nextTake := d.now + 500 } } : Dev).moveBuffer.takeOcc o)
    else s.run id
  | none => s.run id

/-- BUFFER_MOVE (15 R601). -/
def execBufferMove (s : State) : Result := s.run Dev.moveBuffer

/-- EVENT_IRQ_HOLDOFF_END (15 R602): one message for the records placed during the hold-off. -/
def execEventIrqHoldoffEnd (s : State) : Result :=
  s.runIf (s.dev.evr.irqWaiting && !s.dev.recHeld) Dev.recSignal

/-- A requester's number. -/
def requesterKey : Requester → Nat
  | .pf1 => 0
  | .cp n => 1 + n.val

/-- The 16 words of 64 bytes. -/
def wordsOf (b : List Byte) : List Word := (List.range 16).map (fun w => BitVec.ofNat 32 (leNat (slice b (4 * w) 4)))

/-- EV_REC_READ (15 EV_REC): word 0 takes the requester's version of the record at EV_RDIDX; the others return that version. -/
def execEvRecRead (req : Requester) (word : Fin 16) (s : State) : Result :=
  s.run (fun d => d.regRead req (Reg.addr .EV_REC word.val) (fun d =>
    let k := requesterKey req
    let d := if word.val = 0 then
        let ws := d.evr.heldRec.put [] k (wordsOf (d.recStore.slotBytes (d.fld .EV_RDIDX_SLOT)))
        { d with evr := { d.evr with heldRec := ws } }
      else d
    (((d.evr.heldRec.get [] k).getD word.val 0).toNat, d)))

/-- An access to the counter block without privilege, or a counter or sampling write refused (15 R604, R612): in the window's count for
event 3FAh, with the address of the first. -/
def Dev.counterRefused (s : Dev) (addr : Nat) : Dev :=
  { s with evr := { s.evr with refused := s.evr.refused + 1, refusedAddr := if s.evr.refused = 0 then addr else s.evr.refusedAddr } }

/-- The counter ring and the sampling buffer: bytes of 1 GiB unit 15 of the stack CNT_CTL.STACK names (15 R607, R609). -/
def Dev.counterBase (s : Dev) : Nat := s.fld .CNT_CTL_STACK * 2 ^ 40 + 15 * 2 ^ 30
def snapshotBytes : Nat := 17408
def sampleBase : Nat := 0x30000000
def sampleSlots : Nat := 1048576

/-- The 64 bytes CNT_WIN_SEL names; beyond the buffer's end zeros (15 CNT_WIN_SEL). -/
def Dev.counterWindow (s : Dev) : List Byte :=
  let off := 64 * s.fld .CNT_WIN_SEL_OFFSET
  if s.flag .CNT_WIN_SEL_BUF then
    (if off < 64 * sampleSlots then s.hbmRead (s.counterBase + sampleBase + off) 64 else List.replicate 64 0)
  else
    (if off < snapshotBytes * 2 ^ s.fld .CNT_CTL_SIZE_LOG2 then s.hbmRead (s.counterBase + off) 64 else List.replicate 64 0)

/-- CNT_WIN_READ (15 R612, CNT_WIN_DATA): word 0 takes the requester's read of the 64 bytes; without privilege it reads 0. -/
def execCntWinRead (req : Requester) (word : Fin 16) (s : State) : Result :=
  let addr := Reg.addr .CNT_WIN_DATA word.val
  s.run (fun d => d.regRead req addr (fun d =>
    if !d.privileged req then (0, d.counterRefused addr)
    else
      let k := requesterKey req
      let d := if word.val = 0 then
          let ws := d.evr.heldWin.put [] k (wordsOf d.counterWindow)
          { d with evr := { d.evr with heldWin := ws } }
        else d
      (((d.evr.heldWin.get [] k).getD word.val 0).toNat, d)))

/-- What a counter is set to count: mode, code, threshold (15 R604). -/
def Dev.counterSetting (s : Dev) (i : Nat) : Nat × Nat × Nat := (s.fld .CNT_CFG_MODE i, s.fld .CNT_CFG_CODE i, s.fld .CNT_CFG_THRESH i)

/-- A selection counts something: not MODE 00b, nor CODE 00h in MODE 01b (15 R604). -/
def countsSomething (x : Nat × Nat × Nat) : Bool := x.1 != 0 && !(x.1 == 1 && x.2.1 == 0)

/-- A counter advances by what it counted since the last snapshot; it holds while its region is isolated (15 R604, R606). -/
def Dev.advanceCounter (s : Dev) (e : Nat × Nat) : Dev :=
  if s.isolated (e.1 / 256) || !countsSomething (s.evr.selections.get (0, 0, 0) e.1) then s
  else
    let t := s.evr.counts.put 0 e.1 ((s.evr.counts.get 0 e.1 + e.2) % 2 ^ 48)
    { s with evr := { s.evr with counts := t } }

/-- Changes of CNT_CFG apply, after the latch: the counter starts at 0 under its new selection, SNAP_GEN advances (15 R605). -/
def Dev.applySelections (s : Dev) : Dev :=
  let n := Fld.ctorIdx .CNT_CFG_MODE
  let m := Fld.ctorIdx .CNT_CFG_CODE
  let h := Fld.ctorIdx .CNT_CFG_THRESH
  let set := ((s.regs.keys.filter (fun k => k % 1024 == n || k % 1024 == m || k % 1024 == h)).map (· / 1024))
  let all := (set ++ s.evr.selections.keys).eraseDups
  all.foldl (fun s i =>
    let x := s.counterSetting i
    if x = s.evr.selections.get (0, 0, 0) i then s
    else
      let c := s.evr.counts.put 0 i 0
      let t := s.evr.selections.put (0, 0, 0) i x
      { s with evr := { s.evr with counts := c, selections := t, snapGen := s.evr.snapGen + 1 } }) s

/-- Region and cluster of a die-wide cluster number (15 R607; 01 R700). -/
def clusterPlace (regions : List Nat) (n : Nat) : Nat × Nat :=
  match regions.find? (fun r => decide (firstClusterOf r ≤ n) && decide (n < firstClusterOf r + clustersOf r)) with
  | some r => (r, n - firstClusterOf r)
  | none => (0, 0)

/-- One cluster's 24 bytes of a snapshot (15 R607, R608). -/
def Dev.clusterBytes (s : Dev) (rc : Nat × Nat) : List Byte :=
  (List.range 4).flatMap (fun j => le 6 (if s.isolated rc.1 then 2 ^ 48 - 1 else s.evr.counts.get 0 (perfKey rc.1 rc.2 j)))

/-- The regions of a die and its cluster count, by VALID bit: PE, PW, LN, PL (15 R607). -/
def snapshotDies : List (List Nat × Nat) :=
  [([0, 1, 2, 3, 4, 5], 190), ([6, 7, 8, 9, 10, 11], 190), ([12, 13, 14, 15, 16, 17, 18], 260), ([19, 20, 21, 22], 80)]

/-- The sections of a snapshot; one a die did not finish holds undefined bytes (15 R608; assumption 1). -/
def Dev.snapshotSections (s : Dev) (finished : Nat) : List Byte × Dev :=
  snapshotDies.zipIdx.foldl (fun acc e =>
    if finished / 2 ^ e.2 % 2 = 1 then
      (acc.1 ++ (List.range e.1.2).flatMap (fun n => acc.2.clusterBytes (clusterPlace e.1.1 n)), acc.2)
    else
      let words := (List.range (3 * e.1.2)).flatMap (fun k => le 8 (Config.freeValue (acc.2.fresh + k)).toNat)
      (acc.1 ++ words, { acc.2 with fresh := acc.2.fresh + 3 * e.1.2 })) ([], s)

/-- The stack's pier cannot be reached from Plinth. -/
def Dev.ringCutOff (s : Dev) : Bool :=
  let k := s.fld .CNT_CTL_STACK
  !s.mode.diesUp || !s.seamUp (3 + k) || s.isolated (k * 6 + 5) || s.isolated (k * 6 + 4)

/-- COUNTER_SNAPSHOT (15 R605, R607, R608): at every multiple of 10,000 ns with CNT_CTL.EN. `advance` is what the counters counted since
the last one, `finished` the dies that wrote their sections in time. -/
def execCounterSnapshot (advance : List (Nat × Nat)) (finished : BitVec 4) (s : State) : Result :=
  s.runIf (s.dev.flag .CNT_CTL_EN && s.dev.mode.standby && s.dev.now % 10000 == 0) (fun d =>
    let d := advance.foldl (fun d e => d.advanceCounter e) d
    let d := { d with evr := { d.evr with snap := (d.evr.snap + 1) % 2 ^ 64 } }
    let d := if d.ringCutOff then { d with evr := { d.evr with missed := d.evr.missed + 1 } }
      else
        let isolated := ((List.range 23).filter (fun r => d.isolated r)).foldl (fun n r => n + 2 ^ r) 0
        let r := d.snapshotSections finished.toNat
        let head := le 2 0x4353 ++ le 1 1 ++ le 1 finished.toNat ++ le 4 isolated ++ le 8 d.evr.snap ++ le 8 d.now ++
          le 4 d.evr.snapGen ++ le 36 0
        let slot := d.evr.snap % 2 ^ d.fld .CNT_CTL_SIZE_LOG2
        r.2.hbmWrite (d.counterBase + slot * snapshotBytes) (head ++ r.1 ++ le 64 0)
    d.applySelections)

/-- The 64 bytes of a sampling record (15 R609). -/
def Sample.bytes (x : Sample) : List Byte :=
  le 1 1 ++ le 1 x.opcode ++ le 2 x.cid ++ le 4 x.queue ++ le 4 x.nsid ++ le 2 x.status ++ le 2 x.tenant ++ le 8 x.slba ++ le 4 x.nlb ++
  le 1 x.route ++ le 3 0 ++ le 8 x.tAccept ++ le 4 x.dDispatch ++ le 4 x.dData ++ le 4 x.dDurable ++ le 4 x.dDone ++ le 8 x.sample

/-- SAMPLE_RECORD (15 R609-R611): the oldest ended sample is written to the next slot; with STOP the buffer stops when full. -/
def execSampleRecord (s : State) : Result :=
  s.run (fun d =>
    match d.evr.sampleQueue with
    | [] => d
    | x :: rest =>
      let d := { d with evr := { d.evr with sampleQueue := rest } }
      if d.evr.sampleStopped then d
      else
        let k := d.evr.sampleHead
        let d := d.hbmWrite (d.counterBase + sampleBase + 64 * k) x.bytes
        let full := d.flag .SMP_CTL_STOP && k + 1 == sampleSlots
        { d with evr := { d.evr with sampleHead := (k + 1) % sampleSlots, sampleStopped := full } })

end Sys2Proof.Machine
end

