-- ==== Sys2Proof/Machine/Startup.lean ====
section
/-!
DEFINITION. The dies going down and coming up, package reset, power loss and start-up (17 R649-R660, 18 R675-R681).
-/
namespace Sys2Proof.Machine

/-- Numbers of the register fields kept on Plinth. -/
def plinthNumbers : List Nat :=
  ((regTable.filter (fun x => plinthBlock x.base)).flatMap (fun x => x.parts.map (fun p => p.fld.ctorIdx))).eraseDups

/-- A key of `Dev.regs` belongs to a register on Plinth. -/
def plinthKey (k : Nat) : Bool := plinthNumbers.contains (k % 1024)

/-- The bytes placed in windows and not yet durable, after a loss (03 R130): each holds its old value or the one written, the 8 bytes of one
ATOMIC WRITE alike (free choices, assumption 1). -/
def Dev.windowsAfterLoss (s : Dev) : Dev :=
  let step := fun (a : Dev × List (Nat × Bool)) (b : WinByte) =>
    let keep : Bool × Dev × List (Nat × Bool) :=
      match b.atom.bind (fun n => a.2.find? (fun e => e.1 == n)) with
      | some e => (e.2, a.1, a.2)
      | none =>
        let r := a.1.draw
        let took := r.1 % 2 == 1
        match b.atom with
        | some n => (took, r.2, a.2 ++ [(n, took)])
        | none => (took, r.2, a.2)
    let t := if keep.1 then keep.2.1.rdma.durable.put 0 b.addr b.value else keep.2.1.rdma.durable
    (({ keep.2.1 with rdma := { keep.2.1.rdma with durable := t } } : Dev), keep.2.2)
  let r := s.rdma.placed.foldl step (s, [])
  let s := r.1
  let wins := s.rdma.wins.mapValues {} (fun _ x => { x with registering := false })
  { s with rdma := { wins := wins, mem := s.rdma.durable, durable := s.rdma.durable } }

/-- The piers and Lintel lose their power or enter reset (17 R654, R655): what they hold goes; the ledger's contents, Plinth's registers and
the members' stamps stay. Every drive's slot is unpowered, so reservations on members go with it. -/
def Dev.diesFall (s : Dev) : Dev :=
  let s := (s.windowsAfterLoss.setFld .MG_CTL_GO 0 0).forgetAnswer pf1Session
  let m := s.ten.meter
  let meter : Meter := { seq := m.seq, ring := m.ring, head := m.head, unexported := m.unexported, checkpoint := m.checkpoint, expWr := m.expWr
                         lost := m.lost }
  let rails := s.arch.rails.mapValues {} (fun _ x => { readMv := x.readMv })
  let bonds := s.own.bonds.mapValues {} (fun _ x => { keyed := x.keyed, training := x.training })
  let resv := s.nvme.resv.filter (fun e => e.2.ptpl)
  let slots := s.shelf.slots.mapValues {} (fun _ x => { x with
    st := if x.seated then .off else if x.present then .debounce else .empty
    gate := false, aux := false, cycleAt := none, waitOver := false, retries := 0 })
  { s with
    regs := s.regs.filter (fun e => plinthKey e.1)
    arch := { rails := rails }
    mode := { s.mode with diesUp := false, quiesced := false, released := none, booted := false, halted := false, complete := false
                          shutting := none, startCmd := false, ramped := [] }
    fw := { s.fw with change := 0 }
    evr := { s.evr with scanned := false, sampleQueue := [], sampleCount := 0
                        counts := s.evr.counts.filter (fun e => decide (19 ≤ e.1 / 256)) }
    net := {}
    sw := {}
    ten := { meter := meter }
    own := { slots := s.own.slots, vols := s.own.vols, pvols := s.own.pvols, bonds := bonds }
    cust := { s.cust with ready := false, dipAt := none, jobs := [], finished := [], taken := 0, head := 0 }
    ldg := { s.ldg with stateLoaded := false, clean := false, recovered := [], dieOk := [] }
    ep := {}
    store := { vols := s.store.vols }
    shelf := { s.shelf with ports := [], slots := slots }
    nvme := { nqns := s.nvme.nqns, resv := resv, units := s.nvme.units }
    dma := {} }

/-- The values are in both copies of the parameter store (14 R557). -/
def Dev.storeNow (s : Dev) (x : Storing) : Dev :=
  let ps := x.fields.foldl (fun (t : Table Nat) e => match e.2 with
    | some v => t.insert e.1 v
    | none => t.erase e.1) s.fw.params
  let os := match x.object with
    | some o => s.fw.objParams.insert o.1 o.2
    | none => s.fw.objParams
  { s with fw := { s.fw with params := ps, objParams := os, paramSeq := s.fw.paramSeq + 1 } }

/-- Parameters being stored when the store is cut short: each may be stored or not (free choices, assumption 1). -/
def Dev.cutStores (s : Dev) : Dev :=
  let s := s.fw.storing.foldl (fun s x =>
    let r := s.draw
    if r.1 % 2 = 1 then r.2.storeNow x else r.2) s
  { s with fw := { s.fw with storing := [] } }

/-- The stored parameters of the fields that `sel` names are loaded into their registers (14 R558). -/
def Dev.loadParams (s : Dev) (sel : Nat → Bool) : Dev :=
  let kept := s.regs.filter (fun e => !(sel e.1 && isParamKey e.1))
  { s with regs := (s.fw.params.filter (fun e => sel e.1)).foldl (fun (t : Table Nat) e => t.insert e.1 e.2) kept }

/-- The objects that stand for no register take their stored values (14 R558); host NQNs among them. -/
def Dev.loadObjects (s : Dev) : Dev :=
  let isNqn := fun (k : Nat) => decide (0x540000 ≤ k) && decide (k < 0x580000)
  let nqns := ((s.fw.objParams.filter (fun e => isNqn e.1)).map (fun e => (e.1 / 256 - 0x5400, e.2))).filter (fun e => !e.2.isEmpty)
  { s with od := { s.od with objs := s.fw.objParams.filter (fun e => !isNqn e.1) }, nvme := { s.nvme with nqns := nqns } }

/-- The CANopen slave starts: it takes its node-ID and bit rates, sends its boot-up message and enters Pre-operational (14 R562, R564). -/
def Dev.canStart (s : Dev) : Dev :=
  let s := s.setCan { s.od.can with node := some (s.objNat 0x2010 1), rate := (arbitrationRate (s.objNat 0x2010 2)).getD 500, dataRate := s.objNat 0x2010 3, nmt := .preOperational
                                    hbAt := s.now }
  (s.event .pl 0x3F5 (le 1 Nmt.preOperational.code)).emit (.canBootUp s.nodeId)

/-- Plinth is reset (17 R654; 18 R675): its volatile state goes, device time counts from 0 until it is loaded, the alarms clear (07 R299); the
recorder, the buffer while standby lasts (15 R601), the boot flash and the one-time memory stay. -/
def Dev.plinthReset (s : Dev) (keepBuffer : Bool) : Dev :=
  let s := s.diesFall.cutStores
  let s := s.eraseKeys
  let slots := s.shelf.slots.mapValues {} (fun _ x => { present := x.present, st := if x.present then .debounce else .empty })
  let buffer : RecStore := if keepBuffer then { s.evr.buffer with lastSlot := none } else {}
  let s := { s with
    time := 0, timeLoaded := false, regs := [], ctrs := [], marks := [], latches := []
    arch := {}
    mode := { commissioned := s.mode.commissioned, standby := s.mode.standby }
    fw := { s.fw with running := none, downloading := false, unconfirmed := false, stableFrom := 0 }
    pkg := { pkgIdx := s.pkg.pkgIdx, wiring := s.pkg.wiring }
    evr := { ledger := { s.evr.ledger with lastSlot := none }, buffer := buffer }
    cust := { wrapped := s.cust.wrapped }
    ldg := { s.ldg with dieFailed := [] }
    od := {}
    shelf := { s.shelf with slots := slots } }
  ((s.loadParams plinthKey).loadObjects).holdSettle

/-- The transition of a power-up or a package reset is recorded when Plinth first runs (17 R643): old mode DORMANT, CAUSE 00h. -/
def Dev.firstRuns (s : Dev) : Dev :=
  let s := { s with mode := { s.mode with hint := causeRecorded, cause := 0 } }
  (s.event .pl 0x0C0 (le 1 0 ++ le 1 0) 0).canStart

/-- A package reset (17 R654). -/
def Dev.packageReset (s : Dev) : Dev := (s.plinthReset true).firstRuns

/-- The state for a command that resets Plinth: what waits in the event queues is lost. -/
def State.noEvents (s : State) : State := { s with evq := ⟨[], [], [], []⟩ }

/-- PACKAGE_RESET_PIN (17 R654; 18 AC characteristics): PKG_RESET_n low for at least 1 µs. -/
def execPackageResetPin (lowNs : Nat) (s : State) : Result :=
  if s.dev.mode.standby && decide (1000 ≤ lowNs) then s.noEvents.run Dev.packageReset else s.run id

/-- The value that resets the package, ASCII "rs es" as object 2002h takes it (14 Principal objects). -/
def resetWord : Nat := 0x73657272

/-- PACKAGE_RESET (17 R654; 14 object 2002h): a Custodian session, in SAFE any session; another value is refused. -/
def execPackageReset (via : Via) (value : BitVec 32) (s : State) : Result :=
  match via with
  | .reg _ => s.run id
  | .dict n =>
    if s.dev.sessionLevel n ≠ .custodian ∧ s.dev.modeNow ≠ .safe then s.run (·.dictDenied n)
    else if value.toNat ≠ resetWord then s.run (·.dictAnswer n abortRange)
    else s.noEvents.run Dev.packageReset

/-- Both feeds are lost (17 R655): those still present are recorded as lost. -/
def Dev.feedsLost (s : Dev) : Dev :=
  (List.range 2).foldl (fun s f => if s.feedOk f then s.setFeed f false (if f = 0 then s.shelf.mvA else s.shelf.mvB) else s) s

/-- POWER_LOSS (17 R655; 07 R294): the feeds are lost. With standby present Plinth runs on, the keys are erased and the mode is DORMANT, CAUSE 0Ch;
with standby lost everything volatile is gone. -/
def execPowerLoss (standbyLost : Bool) (s : State) : Result :=
  if standbyLost then
    s.noEvents.run (fun d =>
      let d := ({ d with mode := { d.mode with standby := false } } : Dev).plinthReset false
      { d with mode := { d.mode with hint := causeRecorded } })
  else if !s.dev.mode.standby then s.run id
  else
    { s with evq := { s.evq with pe := [], pw := [], ln := [] } }.run (fun d =>
      if !d.mode.diesUp then d.feedsLost
      else
        let d := (d.eraseKeys.diesFall).feedsLost
        { d with mode := { d.mode with hint := 0x0C } })

/-- POWER_UP (17 R643, R649; 18 R675): standby becomes valid; Plinth leaves its power-on reset and latches the straps. -/
def execPowerUp (pkgIdx : Fin 4) (wiring : Bool) (s : State) : Result :=
  if s.dev.mode.standby then s.run id
  else
    s.noEvents.run (fun d =>
      let d := { d with mode := { d.mode with standby := true }, pkg := { d.pkg with pkgIdx := pkgIdx.val, wiring := wiring } }
      (d.plinthReset false).firstRuns)

/-- The rails in the order they are commanded on (18 Rail sequence). -/
def railOrder : List Nat := [2, 0, 1, 3, 4, 5, 6, 7, 8, 9]

/-- The rails go off in the reverse order (18 R681). -/
def Dev.railsOff (s : Dev) : Dev := railOrder.reverse.foldl (fun s r => s.railOff r) s

/-- A rail is commanded on (18 R680). -/
def Dev.railOn (s : Dev) (r : Nat) : Dev := (s.setRail r { s.rail r with on := true }).emit (.pmbusOperation r true)

/-- A firmware image as a slot holds it (17 Image header). -/
abbrev FwImage := Sys2Proof.Image

/-- The conditions of an image's validity (17 R658), each failing one by its number in the list: 0 MAGIC, FORMAT and LENGTH, 1 the key hash,
2 the signature, 3 the SVN, 4 MIN_STEP. -/
def Firmware.failing (f : Firmware) (x : FwImage) : List Nat :=
  [x.magicOk, Config.keyHashOk x.pubkey, Config.signatureOk x.pubkey x.signedBytes x.signature, decide (f.minSvn ≤ x.svn.toNat),
   decide (x.minStep ≤ 1)].zipIdx.filterMap (fun e => if e.1 then none else some e.2)

/-- The image of a slot, 0 A and 1 B. -/
def Firmware.slot (f : Firmware) (k : Nat) : Option FwImage := if k = 0 then f.imageA else f.imageB

/-- A slot's image where it is valid (17 R658). -/
def Firmware.valid (f : Firmware) (k : Nat) : Option FwImage :=
  match f.slot k with
  | some x => if (f.failing x).isEmpty then some x else none
  | none => none

/-- The slot a start chooses first (17 R659). -/
def Firmware.chosen (f : Firmware) : Nat :=
  match f.trial with
  | some t => if f.tries = 0 then f.active else t
  | none => f.active

/-- The dies come out of reset (17 Start-up, step 3): seams train, heartbeats and regions count from here. -/
def Dev.diesRise (s : Dev) : Dev :=
  let fresh : PierOwn := { partnerAt := s.now, quoinAt := s.now, regionsFrom := s.now }
  let piers := Table.put (Table.put [] {} 0 fresh) {} 1 fresh
  let seams := (List.range 6).foldl (fun (t : Table Seam) k => t.insert k { training := true }) []
  { s with
    mode := { s.mode with diesUp := true }
    arch := { s.arch with seams := seams }
    own := { s.own with piers := piers, noBondFrom := s.now } }

/-- STARTUP_HOLD_RELEASE (17 R649-R651; 18 R679, R680; 01 R12): the conditions have held for 50 ms: the rails are commanded on in their order, and the
dies come up where the flash holds a valid image. -/
def execStartupHoldRelease (s : State) : Result :=
  let m := s.dev.mode
  s.runIf (m.standby && !m.diesUp && m.released.isNone && !m.waitStart && s.dev.cust.alarms == 0 &&
      (match m.hold.since with
       | some t => decide (t + 50 * ms ≤ s.dev.now)
       | none => false)) (fun d =>
    let d := railOrder.foldl (fun d r => d.railOn r) d
    let d := { d with mode := { d.mode with released := some d.now, startRef := d.mode.ref.since.getD d.now, startCmd := false
                                            hint := if d.mode.startCmd then 0x0E else 0x01 } }
    if (d.fw.valid 0).isSome || (d.fw.valid 1).isSome then d.diesRise else { d with mode := { d.mode with hint := 0 } })

/-- STARTUP_SLOT_RAMP (17 R652): slot s is ramped from release + 2 ms · s, its AUX_DLY following, where AUTO_ON is 1. -/
def execStartupSlotRamp (slot : Fin 24) (s : State) : Result :=
  let k := slot.val
  s.runIf (s.dev.slotLogic && (match s.dev.mode.released with
      | some t => decide (t + 2 * ms * k ≤ s.dev.now)
      | none => false) && !s.dev.mode.ramped.contains k && (s.dev.slotPwr k).seated && (s.dev.slotPwr k).st == .off && s.dev.flag .SLOT_CFG_AUTO_ON k)
    (fun d => ({ d with mode := { d.mode with ramped := d.mode.ramped ++ [k] } } : Dev).slotRamp k)

/-- A rail out of its range (18 R680, R681): the rails go off, event 0B3h and a package reset. -/
def railFailed (r mv : Nat) (s : State) : Result :=
  s.noEvents.run (fun d => ((d.railsOff).packageReset).event .pl 0x0B3 (le 1 r ++ le 2 mv))

/-- RAIL_TIMEOUT (18 R680): a rail not within its range 10 ms after its command. -/
def execRailTimeout (rail : Fin 10) (mv : Nat) (s : State) : Result :=
  let x := s.dev.rail rail.val
  let due := match s.dev.mode.released with
    | some t => decide (t + railOrder.idxOf rail.val * ms + 10 * ms ≤ s.dev.now)
    | none => false
  let good := decide ((railRange rail.val).1 ≤ mv) && decide (mv ≤ (railRange rail.val).2)
  if s.dev.mode.standby && x.on && !x.pg && due && !good then railFailed rail.val mv s else s.run id

/-- RAIL_DROP (18 R680): a rail that was in range falls below it for 10 µs. -/
def execRailDrop (rail : Fin 10) (mv : Nat) (s : State) : Result :=
  let x := s.dev.rail rail.val
  if s.dev.mode.standby && x.on && x.pg && decide (mv < (railRange rail.val).1) then railFailed rail.val mv s else s.run id

/-- The defaults take effect at a start that was asked for them, or that finds both copies of the store invalid (14 1011h; 17 R645, R657). -/
def Dev.freshParams (s : Dev) (storeOk : Bool) : Dev :=
  if s.fw.restoreAtStart then
    { s with fw := { s.fw with params := [], objParams := [], restoreAtStart := false }, mode := { s.mode with commissioned := false } }
  else if storeOk then s
  else ({ s with fw := { s.fw with params := [], objParams := [] } } : Dev).event .pl 0x0CA

/-- BOOT_IMAGE_VERIFY (17 R657-R660; 14 R558, R560): the image to run is chosen and verified; TRIES counts down; the parameters and the working MRAM
dies are taken. With no valid image the start halts, CAUSE 0Fh. `storeOk` false: both copies of the parameter store are invalid. -/
def execBootImageVerify (storeOk : Bool) (s : State) : Result :=
  s.runIf (s.dev.mode.released.isSome && !s.dev.mode.booted && !s.dev.mode.halted) (fun d =>
    let f := d.fw
    let c := f.chosen
    let trying := f.trial == some c && f.tries != 0
    let d := if trying then { d with fw := { f with tries := f.tries - 1, bootSeq := f.bootSeq + 1 } } else d
    let run := fun (d : Dev) (k : Nat) (x : FwImage) =>
      let d := d.freshParams storeOk
      let d := { d with
        fw := { d.fw with running := some x, runSlot := k, unconfirmed := k != d.fw.active, changeSlot := k, changedGroups := 0 }
        mode := { d.mode with booted := true }
        ldg := { d.ldg with dieOk := [0, 1, 2, 3].filter (fun n => !d.ldg.dieFailed.contains n) } }
      let d := (d.loadParams (fun _ => true)).loadObjects
      d.setMeter { d.ten.meter with keyId := d.fld .MTR_KEY_KEY_ID }
    if !d.mode.diesUp then
      ({ d with mode := { d.mode with halted := true, hint := causeHalted } } : Dev).event .pl 0x0C4
    else match f.valid c, f.valid (1 - c) with
      | some x, _ => run d c x
      | none, some x =>
        let check := ((f.slot c).map (fun i => (f.failing i).headD 0)).getD 0
        run (d.event .pl 0x0C3 (le 1 c ++ le 1 check)) (1 - c) x
      | none, none => d)

/-- STARTUP_COMPLETE (17 R653): step 10, event 0C2h with START_MS. -/
def execStartupComplete (s : State) : Result :=
  s.runIf (s.dev.mode.booted && !s.dev.mode.complete && s.dev.ldg.stateLoaded && s.dev.cust.ready && !s.dev.recoveringAny) (fun d =>
    let t := (d.now - d.mode.startRef) / ms
    ({ d with mode := { d.mode with complete := true, startMs := sat 0xFFFF t } } : Dev).event .pl 0x0C2 (leCount t))

end Sys2Proof.Machine
end

