-- ==== Sys2Proof/Machine/Modes.lean ====
section
/-!
DEFINITION. Mode commands and the orderly shutdown (17 R644-R648, R661, R668, R669), and Restore defaults (14 1011h).
-/
namespace Sys2Proof.Machine

/-- The coding of object 2001h (17). -/
def cmdServe : Nat := 1
def cmdQuiesce : Nat := 2
def cmdResume : Nat := 3
def cmdShutdown : Nat := 4
def cmdRecommission : Nat := 5
def cmdStart : Nat := 6

/-- A mode command is discarded: event 0C9h with the command and the failing condition, whose coding the spec does not give (a free value,
assumption 1). -/
def Dev.modeRefused (s : Dev) (cmd : Nat) : Dev :=
  let r := s.draw
  r.2.event .pl 0x0C9 (le 1 cmd ++ le 1 r.1)

/-- A mode command (17 R644): from a control processor, PF1 with privilege, or a Custodian session; `f` does it where its row allows it. The
register is not served in DORMANT; the object is. -/
def Dev.modeCommand (s : Dev) (v : Via) (cmd : Nat) (f : Dev → Option Dev) : Dev :=
  match v with
  | .reg r => s.regWrite (Reg.addr .MODE_CMD) (fun s =>
      match (if s.privileged r then f s else none) with
      | some t => t
      | none => s.modeRefused cmd)
  | .dict n =>
    if s.sessionLevel n ≠ .custodian then s.dictDenied n
    else match f s with
      | some t => t.dictAnswer n abortOk
      | none => (s.modeRefused cmd).dictAnswer n abortRefused

/-- MODE_STAT.DRAINED (17 R647): in QUIESCE, no host command outstanding, every intent record retired, no command forwarded over a bond link. -/
def Dev.drained (s : Dev) : Bool :=
  s.modeNow == .quiesce && s.commandsOut == 0 &&
  (List.range 2).all (fun p => (s.pier p).recs.all (fun r => r.kind == 0 || r.retired)) &&
  s.nvme.cmds.all (fun c => !(c.remote || fromBond c.src) || c.completed || c.cancelled)

/-- The keep-alive timers of all controllers restart from zero (17 R647). -/
def Dev.keepAlivesRestart (s : Dev) : Dev :=
  { s with nvme := { s.nvme with ctrls := s.nvme.ctrls.map (fun e => (e.1, { e.2 with kaAt := s.nowOn .ln })) } }

/-- The device leaves QUIESCE, CAUSE `c` (17 R643, R647). -/
def Dev.leaveQuiesce (s : Dev) (c : Nat) : Dev :=
  ({ s with mode := { s.mode with quiesced := false, hint := c } } : Dev).keepAlivesRestart

/-- SERVE (17 R644, R645): in COMMISSION, with KEK_READY, recovery complete, and at least one volume not in NONE. -/
def execServe (via : Via) (s : State) : Result :=
  s.run (·.modeCommand via cmdServe (fun d =>
    if d.modeNow = .commission ∧ d.cust.ready ∧ !d.recoveringAny ∧ d.volumes ≠ [] then
      some { d with mode := { d.mode with commissioned := true, hint := 0x02 } }
    else none))

/-- QUIESCE (17 R644, R646, R648; 03 R102): in SERVICE and CONTAINED. -/
def execQuiesce (via : Via) (s : State) : Result :=
  s.run (·.modeCommand via cmdQuiesce (fun d =>
    if d.modeNow.serving then some { d with mode := { d.mode with quiesced := true, hint := 0x07 } } else none))

/-- RESUME (17 R644, R647, R648): in QUIESCE, no shutdown running. -/
def execResume (via : Via) (s : State) : Result :=
  s.run (·.modeCommand via cmdResume (fun d =>
    if d.modeNow = .quiesce ∧ d.mode.shutting = none then some (d.leaveQuiesce 0x08) else none))

/-- RECOMMISSION (17 R644, R645, R647): in QUIESCE with DRAINED; it clears COMMISSIONED. -/
def execRecommission (via : Via) (s : State) : Result :=
  s.run (·.modeCommand via cmdRecommission (fun d =>
    if d.drained ∧ d.mode.shutting = none then
      let d := d.leaveQuiesce 0x0B
      some { d with mode := { d.mode with commissioned := false } }
    else none))

/-- A job's checkpoint is written where it stands (17 R668; 10 R423, R433, R437). -/
def Volume.checkpointJobs (x : Volume) : Volume :=
  { x with pass := x.pass.map (fun p => { p with saved := p.cursor })
           reshape := x.reshape.map (fun r => { r with saved := r.bound })
           scrub := { x.scrub with saved := x.scrub.cursor } }

/-- Steps 1 to 4 of an orderly shutdown (17 R668): job checkpoints, the meter checkpoint, the wear counters and device state, the write-hole bits,
and a Flush on every member whose volatile write cache is enabled. -/
def Dev.beginShutdown (s : Dev) : Dev :=
  let vols := s.store.vols.mapValues {} (fun _ x => { x.checkpointJobs with hole := [] })
  let s := { s with store := { s.store with vols := vols } }
  let m := s.ten.meter
  let s := s.setMeter { m with checkpoint := { recs := m.opened, seq := m.seq, time := s.now } }
  let s := { s with ldg := { s.ldg with timeMark := s.now, wear := { s.ldg.wear with savedBytes := s.ldg.wear.bytes } } }
  let slots := (s.volumes.flatMap s.memberSlots).eraseDups
  let s := (slots.filter (fun k => (s.slotPorts k).any (fun n => (s.port n).vwc))).foldl (fun s k =>
    let id := s.store.nextMcmd
    ({ s with store := { s.store with nextMcmd := id + 1 } } : Dev).emit (.memberFlush id k)) s
  { s with mode := { s.mode with shutting := some s.now } }

/-- SHUTDOWN (17 R644, R668): in QUIESCE with DRAINED. -/
def execShutdown (via : Via) (s : State) : Result :=
  s.run (·.modeCommand via cmdShutdown (fun d => if d.drained ∧ d.mode.shutting = none then some d.beginShutdown else none))

/-- SHUTDOWN_DONE (17 R668, R669, R649; 09 R383; 18 R681): steps 5 to 8: the orderly-stop flag, the slots off from 23 to 00, the rails off, DORMANT with
CAUSE 09h, event 0CBh; a start then waits for START. The keys go with the dies (14 R552, 07 R294). -/
def execShutdownDone (s : State) : Result :=
  if s.dev.mode.shutting.isSome && s.dev.modeNow == .quiesce then
    { s with evq := { s.evq with pe := [], pw := [], ln := [] } }.run (fun d =>
      let d : Dev := { d with ldg := { d.ldg with orderly := true } }
      let seated := (List.range 24).reverse.filter (fun k => (d.slotPwr k).st != SlotSt.empty && (d.slotPwr k).st != SlotSt.debounce)
      let d := seated.foldl (fun (d : Dev) k => d.slotDown k .off) d
      let d := ((d.railsOff).eraseKeys).diesFall
      ({ d with mode := { d.mode with waitStart := true, hint := 0x09 } } : Dev).event .pl 0x0CB)
  else s.run id

/-- START (17 R644, R649): in DORMANT entered by SHUTDOWN, through object 2001h only. -/
def execStart (via : Via) (s : State) : Result :=
  s.run (·.modeCommand via cmdStart (fun d =>
    match via with
    | .dict _ =>
      if d.modeNow = .dormant ∧ d.mode.waitStart then some { d with mode := { d.mode with waitStart := false, startCmd := true } } else none
    | .reg _ => none))

/-- MODE_COMMAND_REFUSED (17 R644, R661): a write of MODE_CMD with more than one command bit set is discarded as a whole. -/
def execModeCommandRefused (via : Via) (bits : BitVec 5) (s : State) : Result :=
  let n := ((List.range 5).filter (fun k => bits.getLsbD k)).length
  s.runIf (decide (1 < n)) (·.modeCommand via bits.toNat (fun _ => none))

/-- The value that restores the defaults, ASCII "load" (14 1011h). -/
def loadWord : Nat := 0x64616F6C

/-- RESTORE_DEFAULTS (14 1011h, R547, R586; 17 R645): a Custodian session writes "load" in COMMISSION; the defaults take effect at the next start. -/
def execRestoreDefaults (session : Nat) (value : Word) (s : State) : Result :=
  s.run (fun d =>
    if d.sessionLevel session ≠ .custodian then d.dictDenied session
    else if value.toNat ≠ loadWord ∨ d.modeNow ≠ .commission then d.dictAnswer session abortState
    else ({ d with fw := { d.fw with restoreAtStart := true } } : Dev).dictAnswer session abortOk)

end Sys2Proof.Machine
end

