-- ==== Sys2Proof/Machine/FirmwareOps.lean ====
section
/-!
DEFINITION. Firmware change (17 R662-R667): download, activation, live change, confirmation.
-/
namespace Sys2Proof.Machine

/-- The slot that is not ACTIVE (17 R662). -/
def Firmware.inactive (f : Firmware) : Nat := 1 - f.active

/-- Put an image into a slot. -/
def Firmware.setSlot (f : Firmware) (k : Nat) (x : Option FwImage) : Firmware :=
  if k = 0 then { f with imageA := x } else { f with imageB := x }

/-- A live change is in progress or awaits its confirmation (17 FW_STAT.CHANGE). -/
def Firmware.changing (f : Firmware) : Bool := f.change != 0

/-- A download or an activation is refused, or a change stops: event 0C7h with a cause the spec does not number. -/
def Dev.fwWarn (s : Dev) : Dev := s.eventOpenCause .pl 0x0C7

/-- IMAGE_DOWNLOAD (17 R656, R662): a Custodian session writes object 2008h; the first write erases the inactive slot. -/
def execImageDownload (session : Nat) (s : State) : Result :=
  s.run (fun d =>
    if d.sessionLevel session ≠ .custodian then d.dictDenied session
    else if d.fw.changing then d.dictAnswer session abortState
    else
      let f := if d.fw.downloading then d.fw else d.fw.setSlot d.fw.inactive none
      ({ d with fw := { f with downloading := true } } : Dev).dictAnswer session abortOk)

/-- IMAGE_DOWNLOAD_END (17 R658, R662): the image is checked: event 0C5h where it is valid, else 0C7h. -/
def execImageDownloadEnd (image : FwImage) (s : State) : Result :=
  s.runIf s.dev.fw.downloading (fun d =>
    let k := d.fw.inactive
    let f := d.fw.setSlot k (some image)
    let d := { d with fw := { f with downloading := false } }
    if (f.failing image).isEmpty then d.event .pl 0x0C5 (le 1 k ++ le 4 image.version.toNat) else d.fwWarn)

/-- The boot record is written with TRIAL naming a slot and TRIES 1 (17 R663, R664). -/
def Dev.writeTrial (s : Dev) (k : Nat) : Dev :=
  { s with fw := { s.fw with trial := some k, tries := 1, bootSeq := s.fw.bootSeq + 1, changeSlot := k } }

/-- What a live change needs beside its image (17 R663, R666): SERVICE, seam 0 up, no dispute or fence in force. -/
def Dev.liveAllowed (s : Dev) : Bool := s.modeNow == .service && s.seamUp 0 && s.noDispute

/-- A group's turn begins (17 R664): a pier's volumes and slots begin to be handed to its partner. -/
def Dev.beginGroup (s : Dev) (g : Nat) : Dev :=
  let s := { s with fw := { s.fw with change := g, groupAt := s.now } }
  if g = 1 ∨ g = 2 then { s with own := { s.own with lending := some (g - 1) } } else s

/-- The live change of an image (17 R663, R664): the boot record, then the first group not yet changed. -/
def Dev.liveChange (s : Dev) (k : Nat) : Dev :=
  let done := if s.fw.changeSlot = k ∧ s.fw.trial = some k then s.fw.changedGroups else 0
  let s := s.writeTrial k
  ({ s with fw := { s.fw with changedGroups := done } } : Dev).beginGroup (done + 1)

/-- FW_CMD.ACTIVATE on a device whose inactive image is valid: the live change, or the reset to the new image; none where it is refused. -/
inductive Activation where
  | live | reset | refused
  deriving DecidableEq, Repr

/-- Which of them (17 R663). -/
def Dev.activation (s : Dev) : Activation :=
  match s.fw.valid s.fw.inactive with
  | none => .refused
  | some x =>
    let from' := match s.fw.running with
      | some r => decide (x.liveFrom.toNat ≤ r.version.toNat)
      | none => false
    if s.fw.changing || s.fw.downloading then .refused
    else if x.live && from' && s.liveAllowed && decide (s.fw.changedGroups < 4) then .live
    else if s.drained then .reset
    else .refused

/-- The package is reset to a new image, CAUSE 0Dh (17 R643, R663): the transition is recorded with old mode QUIESCE. -/
def Dev.resetToImage (s : Dev) : Dev :=
  let s := (s.writeTrial s.fw.inactive).plinthReset true
  let s := { s with mode := { s.mode with hint := causeRecorded, cause := 0x0D } }
  (s.event .pl 0x0C0 (le 1 Mode.quiesce.code ++ le 1 0) 0x0D).canStart

/-- ACTIVATE (17 R663-R665): Custodian only. -/
def execActivate (via : Via) (s : State) : Result :=
  let d := s.dev
  let may := match via with
    | .reg r => d.served && d.privileged r
    | .dict n => decide (d.sessionLevel n = .custodian)
  if !may then
    s.run (fun d => match via with
      | .reg _ => d
      | .dict n => d.dictDenied n)
  else match d.activation with
    | .live => s.run (fun d => (d.liveChange d.fw.inactive).answerVia via abortOk)
    | .reset => s.noEvents.run Dev.resetToImage
    | .refused => s.run (fun d => d.fwWarn.answerVia via abortRefused)

/-- What a pier lent is given back (17 R664, step 3). -/
def Dev.returnItems (s : Dev) (p : Nat) : Dev :=
  let s := { s with own := { s.own with lending := none } }
  if (s.awaySlots p).isEmpty && (s.awayVols p).isEmpty then s else s.giveBack [p]

/-- LIVE_GROUP_COMPLETE (17 R664, R665): the group runs the new image, event 0C6h; a pier's items return and the next group begins. After the last
the change awaits its confirmation. -/
def execLiveGroupComplete (s : State) : Result :=
  let f := s.dev.fw
  s.runIf (decide (0 < f.change) && decide (f.changedGroups < 4) && s.dev.own.lending.isNone && s.dev.own.back.isEmpty) (fun d =>
    let g := d.fw.change
    let d := { d with fw := { d.fw with changedGroups := g } }.event .pl 0x0C6 (le 1 g)
    let d := if g ≤ 2 then d.returnItems (g - 1) else d
    if g < 4 then d.beginGroup (g + 1)
    else
      let k := d.fw.changeSlot
      { d with fw := { d.fw with runSlot := k, running := d.fw.slot k, unconfirmed := true, stableFrom := d.now } })

/-- LIVE_GROUP_TIMEOUT (17 R666): a group that does not start within 2 s, or a condition of the change that fails, stops it; event 0C7h. The failed
group is reloaded from the old image, and what its pier lent returns. -/
def execLiveGroupTimeout (s : State) : Result :=
  let f := s.dev.fw
  s.runIf (decide (0 < f.change) && decide (f.changedGroups < 4) && (s.dev.expired .pl f.groupAt (2 * sec) || !s.dev.liveAllowed)) (fun d =>
    let g := d.fw.change
    let d := { d with fw := { d.fw with change := 0 } }.fwWarn
    if g ≤ 2 then
      let d := d.returnItems (g - 1)
      if d.own.back.isEmpty then
        let vs := d.own.giving
        let d := { d with own := { d.own with giving := [] } }
        vs.foldl (fun d v => d.releaseHeld v) d
      else d
    else d)

/-- IMAGE_CONFIRM (17 R667): CONFIRM_S of SERVICE or CONTAINED without a reset of a control processor: the boot record names the new slot, RAISE raises
the minimum SVN, event 0C8h. -/
def execImageConfirm (s : State) : Result :=
  let f := s.dev.fw
  s.runIf (f.unconfirmed && s.dev.modeNow.serving && s.dev.expired .pl f.stableFrom (s.dev.fld .FW_CFG_CONFIRM_S * sec)) (fun d =>
    match d.fw.running with
    | none => d
    | some x =>
      let k := d.fw.runSlot
      let svn := if x.raise then max d.fw.minSvn x.svn.toNat else d.fw.minSvn
      ({ d with fw := { d.fw with active := k, trial := none, tries := 0, bootSeq := d.fw.bootSeq + 1, unconfirmed := false, minSvn := svn, change := 0
                                  changedGroups := 0 } } : Dev).event .pl 0x0C8 (le 1 k ++ le 4 x.version.toNat))

end Sys2Proof.Machine
end

