-- ==== Sys2Proof/Machine/Dma.lean ====
section
/-!
DEFINITION. The commands of the DMA engine (12).
-/
namespace Sys2Proof.Machine

/-- A DMA register write or doorbell is refused, event 3C3h (12 R488, R490, R494, R495). -/
def Dev.dmaRefused (s : Dev) (n addr : Nat) : Dev := s.event (chanDie n) 0x3C3 (le 1 n ++ le 8 addr)

/-- A write to a channel's register (12 R488): discarded from a requester the channel is not programmed by. -/
def Dev.chanWrite (s : Dev) (req : Requester) (n : Nat) (r : Reg) (f : Dev → Dev) : Dev :=
  s.regWrite (r.addr n) (fun s => if chanAllows n req then f s else s.dmaRefused n (r.addr n))

/-- CHANNEL_ENABLE (12 R488, R490): a write of CH_CTL with EN 1. Fields other than EN change only while EN is 0. A class and a
trigger that do not match, or foreground class 11b, are discarded. -/
def execChannelEnable (req : Requester) (ch : Fin 128) (value : Word) (s : State) : Result :=
  let n := ch.val
  s.run (fun d => d.chanWrite req n .CH_CTL (fun d =>
    if d.flag .CH_CTL_EN n then d
    else
      let bg := bitOf value 30
      let sel := d.fld .CH_TRIG_SEL n
      if (bg && sel != 1 && sel != 2) || (!bg && sel != 0) || bitsOf value 29 28 == 3 then d.dmaRefused n (Reg.addr .CH_CTL n)
      else
        let d := d.setFld .CH_CTL_BG n bg.toNat
        let d := d.setFld .CH_CTL_CLASS n (bitsOf value 29 28)
        let d := d.setFld .CH_CTL_NOSNOOP n (bitOf value 27).toNat
        let d := d.setFld .CH_CTL_IRQ n (bitOf value 26).toNat
        let d := d.setFld .CH_CTL_VEC n (bitsOf value 10 0)
        let d := d.setFld .CH_CTL_EN n 1
        d.setChan n { d.chan n with st := .idle, act := none, full := false, err := 0, entry := 0 }))

/-- The ranges of one side of a transfer, if all of them are known (12). -/
def chanRanges (a : ChSet) (sg : Bool) (addr : Nat) (list : List (Nat × Nat)) : Option (List (Nat × Nat)) :=
  if !sg then some [(addr, a.len)]
  else if (list.map Prod.snd).sum = a.len then some list
  else none

/-- CHANNEL_DISABLE (12 R503): EN written to 0. The destination of a transfer cut off, as far as its ranges are known, holds an
unspecified mix, CH_REMAIN and what it adds to BYTES_MOVED are free values (assumption 1), the shadow is discarded; event 3C5h
from RUNNING or WAITING. -/
def execChannelDisable (req : Requester) (ch : Fin 128) (s : State) : Result :=
  let n := ch.val
  s.run (fun d => d.chanWrite req n .CH_CTL (fun d =>
    let x := d.chan n
    let busy := x.st == .running || x.st == .waiting
    let d := d.setFld .CH_CTL_EN n 0
    let r := d.draw
    let moved := r.2.draw
    let d := if busy && x.act.isSome then moved.2.count .DMA_BYTES_MOVED 0 moved.1 else d
    let remain := if busy && x.act.isSome then r.1 % 2 ^ 32 else x.remain
    let d := d.chanMix n
    let d := d.setChan n { x with st := .off, act := none, full := false, quantum := 0, remain := remain, srcList := [], dstList := []
                                  srcAt := [], dstAt := [] }
    if busy then (d.count .DMA_DISABLES).event (chanDie n) 0x3C5 (le 1 n) else d))

/-- CH_TRIG_WRITE (12 R491): writable while EN is 0; SEL 11b, and a channel naming itself as CHAIN, are discarded. -/
def execChTrigWrite (req : Requester) (ch : Fin 128) (value : Word) (s : State) : Result :=
  let n := ch.val
  s.run (fun d => d.chanWrite req n .CH_TRIG (fun d =>
    if d.flag .CH_CTL_EN n then d
    else if bitsOf value 31 30 = 3 ∨ (bitsOf value 31 30 = 2 ∧ bitsOf value 22 16 = n) then d.dmaRefused n (Reg.addr .CH_TRIG n)
    else
      let d := d.setFld .CH_TRIG_SEL n (bitsOf value 31 30)
      let d := d.setFld .CH_TRIG_CHAIN n (bitsOf value 22 16)
      d.setFld .CH_TRIG_PERIOD n (if bitsOf value 15 0 = 0 then 1 else bitsOf value 15 0)))

/-- The shadow registers by number (12): 0-3 CH_SRC_LO, CH_SRC_HI, CH_DST_LO, CH_DST_HI, 4 CH_LEN, 5 CH_MODE, 6 CH_NENT. -/
def Dev.shadowSet (s : Dev) (n which : Nat) (v : Word) : Dev :=
  match which with
  | 0 => s.setFld .CH_SRC_LO_ADDR n v.toNat
  | 1 => s.setFld .CH_SRC_HI_ADDR n v.toNat
  | 2 => s.setFld .CH_DST_LO_ADDR n v.toNat
  | 3 => s.setFld .CH_DST_HI_ADDR n v.toNat
  | 4 => s.setFld .CH_LEN_BYTES n v.toNat
  | 5 =>
    let s := s.setFld .CH_MODE_SRC_SG n (bitOf v 31).toNat
    let s := s.setFld .CH_MODE_DST_SG n (bitOf v 30).toNat
    let s := s.setFld .CH_MODE_SRC_SPACE n (bitsOf v 27 24)
    s.setFld .CH_MODE_DST_SPACE n (bitsOf v 23 20)
  | _ => (s.setFld .CH_NENT_SRC_N n (bitsOf v 31 16)).setFld .CH_NENT_DST_N n (bitsOf v 15 0)

/-- The register a shadow number names. -/
def shadowReg : Nat → Reg
  | 0 => .CH_SRC_LO | 1 => .CH_SRC_HI | 2 => .CH_DST_LO | 3 => .CH_DST_HI | 4 => .CH_LEN | 5 => .CH_MODE | _ => .CH_NENT

/-- SHADOW_WRITE (12 R494): accepted only while SH_FULL is 0. -/
def execShadowWrite (req : Requester) (ch : Fin 128) (which : Fin 7) (value : Word) (s : State) : Result :=
  let n := ch.val
  let r := shadowReg which.val
  s.run (fun d => d.chanWrite req n r (fun d =>
    if (d.chan n).full then d.dmaRefused n (r.addr n) else d.shadowSet n which.val value))

/-- DOORBELL_GO (12 R495-R497): sets SH_FULL in IDLE, RUNNING or WAITING; with no active transfer the shadow becomes active at
once. -/
def execDoorbellGo (req : Requester) (ch : Fin 128) (s : State) : Result :=
  let n := ch.val
  s.run (fun d => d.chanWrite req n .CH_DOORBELL (fun d =>
    let x := d.chan n
    if (x.st == .idle || x.st == .running || x.st == .waiting) && !x.full then (d.setChan n { x with full := true }).chanLoad n
    else d.dmaRefused n (Reg.addr .CH_DOORBELL n)))

/-- TIMER_TRIGGER (12 R491, R492): at every tick that is a whole multiple of PERIOD µs. -/
def execTimerTrigger (ch : Fin 128) (s : State) : Result :=
  let n := ch.val
  s.runIf (s.dev.flag .CH_CTL_EN n && s.dev.fld .CH_TRIG_SEL n == 1 && !s.dev.isolated (chanRegion n) &&
      s.dev.nowOn (chanDie n) % (s.dev.fld .CH_TRIG_PERIOD n * us) == 0) (·.chanTrigger n)

/-- QUANTUM_END (12 R492, R493): the released quantum has moved and bytes remain; a list that has not been fetched so far does
not stop it. -/
def execQuantumEnd (ch : Fin 128) (s : State) : Result :=
  let n := ch.val
  let x := s.dev.chan n
  s.runIf (decide (x.st = .running) && decide (0 < x.quantum) && decide (x.quantum < x.remain) && !s.dev.isolated (chanRegion n) &&
      x.act.all (s.dev.actReaches n)) (fun d =>
    (d.setChan n { x with st := .waiting, remain := x.remain - x.quantum, quantum := 0 }).count .DMA_BYTES_MOVED 0 x.quantum)

/-- LIST_ENTRY_FETCH (12 R500, R501): the next entry of a side's list is checked before any byte of it moves. -/
def execListEntryFetch (ch : Fin 128) (dest : Bool) (addr : BitVec 64) (len : Word) (s : State) : Result :=
  let n := ch.val
  s.runIf (decide ((s.dev.chan n).st = .running) && !s.dev.isolated (chanRegion n)) (fun d =>
    let x := d.chan n
    match x.act with
    | none => d
    | some a =>
      let sg := if dest then a.dstSg else a.srcSg
      let list := if dest then x.dstList else x.srcList
      let total := if dest then a.dstN else a.srcN
      let sum := (list.map Prod.snd).sum
      let space := if dest then a.dstSpace else a.srcSpace
      if !sg ∨ a.len ≤ sum ∨ total ≤ list.length ∨ !d.chanReaches n space then d
      else
        match d.chanStartError n dest space addr.toNat len.toNat with
        | some e => (d.chanPrefix n).chanHalt n e list.length addr.toNat
        | none =>
          if a.len < sum + len.toNat ∨ (list.length + 1 = total ∧ sum + len.toNat < a.len) then
            (d.chanPrefix n).chanHalt n 3 list.length addr.toNat
          else
            let list := list ++ [(addr.toNat, len.toNat)]
            let at' := d.chanAt dest space addr.toNat
            d.setChan n (if dest then { x with dstList := list, dstAt := x.dstAt ++ at' }
              else { x with srcList := list, srcAt := x.srcAt ++ at' }))

/-- TRANSFER_COMPLETE (12 R496-R498, R500, R501, R504): the last byte of a running transfer is accepted, or an uncorrectable
error halts the channel with ERR 5h, or a window boundary at which the aperture does not translate halts it with ERR 4h
(assumption 71). CH_DONE first, then the chain triggers, then the interrupt; an armed shadow becomes active at
this tick. -/
def execTransferComplete (ch : Fin 128) (ok : Bool) (errAddr : BitVec 64) (data : List Byte) (s : State) : Result :=
  let n := ch.val
  s.runIf (decide ((s.dev.chan n).st = .running) && !s.dev.isolated (chanRegion n)) (fun d =>
    let x := d.chan n
    match x.act with
    | none => d
    | some a =>
      if (x.quantum ≠ 0 ∧ x.quantum < x.remain) ∨ !d.actReaches n a then d
      else if !ok then d.chanHalt n 5 (x.srcList.length - 1) errAddr.toNat
      else match chanRanges a a.srcSg a.src x.srcList, chanRanges a a.dstSg a.dst x.dstList with
        | some from', some to' =>
          match d.chanPieces false a.srcSpace from' x.srcAt, d.chanPieces true a.dstSpace to' x.dstAt with
          | some src, some dst =>
            let d := if a.inPlace then d.ledgerWear a.dst a.len else d.chanPut a.dstSpace dst (d.chanGet a.srcSpace src data)
            let d := (d.count .DMA_BYTES_MOVED 0 x.remain).count .DMA_XFERS_DONE
            let d := d.setChan n { x with act := none, remain := 0, quantum := 0, done := (x.done + 1) % 2 ^ 32, st := .idle
                                          srcList := [], dstList := [], srcAt := [], dstAt := [] }
            let d := (d.chanLoad n).chanChain n
            if d.flag .CH_CTL_IRQ n then
              if 112 ≤ n then d.pf1Signal (d.fld .CH_CTL_VEC n) else d.emit (.channelIrq n)
            else d
          | _, _ => d.chanHalt n 4 (max x.srcList.length x.dstList.length - 1) errAddr.toNat
        | _, _ => d)

end Sys2Proof.Machine
end

