-- ==== Sys2Proof/Machine/Ptp.lean ====
section
/-!
DEFINITION. PTP (02 R81-R88): Announce, timestamps, the source, the servo and its steps of device time.
-/
namespace Sys2Proof.Machine

/-- Change the servo's state. -/
def Dev.setPtp (s : Dev) (p : Ptp) : Dev := { s with net := { s.net with ptp := p } }

/-- PTP messages are taken on the selected MAC while PTP is enabled (02 R82, R84). -/
def Dev.ptpTakes (s : Dev) (m : Nat) : Bool :=
  s.flag .PTP_CFG_EN && m == s.ptpMac && (s.mac m).link && s.timeLoaded

/-- PTP_ANNOUNCE_RECEIVE (02 R82, R84): in the domain, on the selected MAC, the best-ranked time transmitter is followed. -/
def execPtpAnnounceReceive (mac : Fin 64) (message : PtpAnnounce) (s : State) : Result :=
  s.runIf (s.dev.ptpTakes mac.val && message.domain == s.dev.fld .PTP_CFG_DOMAIN) (fun d =>
    let p := d.net.ptp
    let best := match p.source with
      | some x => if message.source = x.source ∨ message.rank < x.rank then message else x
      | none => message
    d.setPtp { p with source := some best, announceAt := d.nowOn .ln })

/-- Device time at the PCS in 1/16 ns, corrected by the MAC's programmed delay (02 R83). -/
def Dev.ptpStamp (s : Dev) (m sixteenth : Nat) (tx : Bool) : Int :=
  (s.nowOn .ln * 16 + sixteenth : Nat) +
    signed 16 (if tx then s.fld .PTP_DLY_TX_DLY m else s.fld .PTP_DLY_RX_DLY m)

/-- PTP_EVENT_RECEIVE (02 R81, R83): Sync, Follow_Up and Delay_Resp of the followed time transmitter. -/
def execPtpEventReceive (mac : Fin 64) (message : PtpMessage) (sixteenth : Fin 16) (s : State) : Result :=
  s.runIf (s.dev.ptpTakes mac.val) (fun d =>
    let p := d.net.ptp
    let follows := fun (src : Nat) => match p.source with
      | some x => x.source == src
      | none => false
    match message with
    | .sync src twoStep t1 =>
      if follows src then
        d.setPtp { p with t2 := some (d.ptpStamp mac.val sixteenth.val false), t1 := if twoStep then none else some t1 }
      else d
    | .followUp src t1 => if follows src && p.t2.isSome then d.setPtp { p with t1 := some t1 } else d
    | .delayResp src t4 => if follows src && p.t3.isSome then d.setPtp { p with t4 := some t4 } else d)

/-- PTP_DELAY_REQ_SEND (02 R81, R83): a Delay_Req over the chosen transport enters EQ0, with its egress timestamp. -/
def execPtpDelayReqSend (sixteenth : Fin 16) (s : State) : Result :=
  s.runIf (s.dev.ptpTakes s.dev.ptpMac && s.dev.net.ptp.t2.isSome) (fun d =>
    let m := d.ptpMac
    let t3 := d.ptpStamp m sixteenth.val true
    let bytes := match d.fld .PTP_CFG_TRANSPORT with
      | 0 => 64
      | 1 => 90
      | _ => 110
    let d := d.setPtp { d.net.ptp with t3 := some t3, t4 := none }
    (d.pushEgress m 0 { bytes := bytes, since := d.nowOn .ln }).emit (.delayReq m t3))

/-- PTP_ANNOUNCE_TIMEOUT (02 R84): three announce intervals without an Announce; `intervalNs` is the domain's interval while no
Announce has been received. -/
def execPtpAnnounceTimeout (intervalNs : Nat) (s : State) : Result :=
  let p := s.dev.net.ptp
  let i := match p.source with
    | some x => x.intervalNs
    | none => intervalNs
  s.runIf (s.dev.flag .PTP_CFG_EN && p.state != .holdover && p.state != .disabled &&
      s.dev.expired .ln p.announceAt (3 * i)) (fun d =>
    let p := { d.net.ptp with source := none, t1 := none, t2 := none, t3 := none, t4 := none }
    let d := if !p.onAlt && d.flag .PTP_CFG_ALT_EN && (d.mac (d.fld .PTP_CFG_ALT_MAC)).link then
        d.setPtp { p with onAlt := true, state := .acquiring, announceAt := d.nowOn .ln }
      else d.setPtp { p with state := .holdover }
    d.event .ln 0x171)

/-- Device time steps forward by `c` ns (02 R86, 05 R231); every die's copy with it. -/
def Dev.timeStep (s : Dev) (c : Nat) : Dev :=
  let s := s.meterRoll
  let old := s.now
  ({ s with time := s.time + BitVec.ofNat 64 c } : Dev).meterStep old

/-- PTP_SERVO_UPDATE (02 R85-R87): the offset is measured from t1 to t4, the trim kept within ±200 ppm; at the first lock after
package reset PTP time ahead by more than DISC_THR is a forward step, every other offset is slewed. `locked` is the servo's
own judgement and `trimPpb` the trim it asks for (assumption 11). -/
def execPtpServoUpdate (trimPpb : Int) (locked : Bool) (s : State) : Result :=
  s.runIf (s.dev.flag .PTP_CFG_EN && s.dev.timeLoaded) (fun d =>
    let p := d.net.ptp
    match p.t1, p.t2, p.t3, p.t4 with
    | some t1, some t2, some t3, some t4 =>
      let offset := ((t2 - (t1 : Int) * 16) - ((t4 : Int) * 16 - t3)) / 32
      let thr : Int := d.fld .PTP_DISC_DISC_THR
      let relock := locked && p.state != .locked
      let freq := max (-200000) (min 200000 trimPpb)
      let step := relock && !p.everLocked && decide (thr < -offset)
      let corr := -offset
      let big := decide (thr < corr) || decide (corr < -thr)
      let p := { p with
        state := if locked then .locked else if p.state == .locked then .acquiring else p.state
        everLocked := p.everLocked || locked
        offset := satSigned 32 offset
        freq := freq
        remain := if step then 0 else satSigned 32 corr
        slewing := !step && corr != 0
        slewingBig := !step && big
        t1 := none, t2 := none, t3 := none, t4 := none }
      let wasBig := d.net.ptp.slewingBig
      let d := d.setPtp p
      let d := d.eventIf relock .ln 0x170
      if step then
        (((d.event .ln 0x172 (leSigned 8 corr)).timeStep corr.toNat).emit (.discontinuity corr))
      else if big && !wasBig then
        (((d.event .ln 0x172 (leSigned 8 corr)).meterSlew corr).emit (.discontinuity corr))
      else d
    | _, _, _, _ => d)

end Sys2Proof.Machine
end

