-- ==== Sys2Proof/Machine/Package.lean ====
section
/-!
DEFINITION. The package (18): temperature sensors and the thermal warning, reference clocks.
-/
namespace Sys2Proof.Machine

/-- A sensor (18 DIE_TEMP): 0-3 PE, 4-7 PW, 8-11 LN, 12-13 PL, 14 HB0, 15 HB1, 16-19 MR0-MR3. -/
def Dev.sensor (s : Dev) (n : Nat) : Sensor := s.pkg.sensors.get {} n

/-- Sensors that can be read (18 R684): Plinth's two always, the others while their dies are powered; in SAFE not those of the HBM stacks. -/
def Dev.readable (s : Dev) (n : Nat) : Bool :=
  n == 12 || n == 13 || (s.mode.diesUp && !((n == 14 || n == 15) && s.cust.alarms != 0))

/-- A reading is taken: NOW, and PEAK since its last read. -/
def Dev.readSensor (s : Dev) (n : Nat) (t : Int) : Dev :=
  let x := s.sensor n
  { s with pkg := { s.pkg with sensors := s.pkg.sensors.put {} n { now := t, peak := some (x.peak.elim t (max t)) } } }

/-- The thermal warning (18 R686): event 0B0h once with the first sensor at or above WARN, until all are below WARN - 5 °C, event 0B1h. -/
def Dev.thermalWarning (s : Dev) (rs : List (Nat × Int)) : Dev :=
  let w : Int := 8 * s.fld .THERM_CFG_WARN
  if s.pkg.warned then
    if rs.all (fun e => decide (e.2 < w - 40)) then ({ s with pkg := { s.pkg with warned := false } } : Dev).event .pl 0x0B1 else s
  else match rs.find? (fun e => decide (w ≤ e.2)) with
    | some e => ({ s with pkg := { s.pkg with warned := true } } : Dev).event .pl 0x0B0 (le 1 e.1 ++ leSigned 2 e.2)
    | none => s

/-- The ledger dies' temperatures (09 R392, LDG_TEMP): the hottest now, the highest of the last 86,400 s, and HOT above 110 °C. -/
def Dev.ledgerTemps (s : Dev) (rs : List (Nat × Int)) : Dev :=
  match (rs.filter (fun e => decide (16 ≤ e.1))).map Prod.snd with
  | [] => s
  | t :: ts =>
    let top := ts.foldl max t
    let w := s.ldg.wear
    let old := w.peaks.filter (fun e => decide (s.now < e.1 + 86400 * sec) && decide (top < e.2))
    let s := { s with ldg := { s.ldg with wear := { w with tempNow := top, peaks := old ++ [(s.now, top)] } } }
    if 880 < top then ({ s with ldg := { s.ldg with wear := { s.ldg.wear with hotAt := s.now } } } : Dev).setHot true else s

/-- Controllers whose threshold of FID 04h the composite temperature has passed are told (04 R156; 18 R685). -/
def Dev.compositeNotice (s : Dev) : Dev :=
  let t := s.composite
  let ks := s.nvme.ctrls.map Prod.fst
  ks.foldl (fun s k =>
    match s.ctrl k with
    | none => s
    | some c =>
      let above := decide (c.tempThreshold < t)
      if above == c.tempOver then s
      else
        let s := s.setCtrl k { c with tempOver := above }
        if above then s.asyncEvent k 1 1 2 else s) s

/-- Before the release only Plinth's sensors count: one outside -55 to +125 °C holds start-up, event 0C1h once per hold (17 R649). -/
def Dev.holdTemps (s : Dev) (rs : List (Nat × Int)) : Dev :=
  let bad := rs.find? (fun e => decide (e.2 < -440) || decide (1000 < e.2))
  match bad with
  | some e =>
    let s := s.eventIf (!s.mode.tempNoted) .pl 0x0C1 (leSigned 2 e.2)
    ({ s with mode := { s.mode with tempOk := false, tempNoted := true } } : Dev).holdSettle
  | none => ({ s with mode := { s.mode with tempOk := true } } : Dev).holdSettle

/-- TEMPERATURE_SAMPLE (18 R684-R686; 04 R156; 07 R293; 09 R392; 17 R649): every 10 µs; the readings of sensors 0 to 19 in 0.125 °C. -/
def execTemperatureSample (readings : List Int) (s : State) : Result :=
  s.runIf (s.dev.mode.standby && s.dev.now % 10000 == 0 && readings.length == 20) (fun d =>
    let rs := (readings.zipIdx.map (fun e => (e.2, e.1))).filter (fun e => d.readable e.1)
    let d := rs.foldl (fun d e => d.readSensor e.1 e.2) d
    if !d.mode.diesUp then (d.holdTemps rs).thermalWarning rs
    else
      let d := d.thermalWarning rs
      let d := d.ledgerTemps rs
      let d := d.compositeNotice
      match rs.find? (fun e => decide (e.2 < -480) || decide (1080 < e.2)) with
      | some e => d.alarm [(3, .pl, 0x0E3, leSigned 2 e.2)]
      | none => d)

/-- DIE_TEMP_READ (18 DIE_TEMP, 00 R5): PEAK is cleared by the read; from the next reading on it shows the highest since. -/
def execDieTempRead (req : Requester) (sensor : Fin 20) (s : State) : Result :=
  let n := sensor.val
  s.run (fun d => d.regRead req (Reg.addr .DIE_TEMP n) (fun d =>
    let x := d.sensor n
    (unsigned 16 (x.peak.getD 0) * 65536 + unsigned 16 x.now, { d with pkg := { d.pkg with sensors := d.pkg.sensors.put {} n { x with peak := none } } })))

/-- Ports of a network reference clock (18 Reference clocks). -/
def clockPorts (c : Nat) : List Nat := if c = 1 then [0, 1, 2, 3] else if c = 2 then [4, 5, 6, 7] else []

/-- REFCLOCK_LOSS (18 R693): no edge for 1 µs: event 0B2h, and what hangs on the clock goes down. -/
def execRefclockLoss (clock : Fin 7) (s : State) : Result :=
  let c := clock.val
  s.runIf (s.dev.mode.standby && s.dev.pkg.clocks.contains c) (fun d =>
    let d := ({ d with pkg := { d.pkg with clocks := d.pkg.clocks.filter (· != c) } } : Dev).event .pl 0x0B2 (le 1 c)
    if !d.mode.diesUp then d
    else match c with
      | 0 => if d.net.ptp.state = .disabled then d else d.setPtp { d.net.ptp with state := .holdover }
      | 1 => (clockPorts 1).foldl (fun d p => (List.range 8).foldl (fun d m => d.macDown (p * 8 + m)) d) d
      | 2 => (clockPorts 2).foldl (fun d p => (List.range 8).foldl (fun d m => d.macDown (p * 8 + m)) d) d
      | 3 => (d.bondDown 0 false).bondDown 1 false
      | 4 => ((List.range 48).filter (fun n => slotLanes (d.portSlot n) == 0)).foldl (fun d n => d.portDown n (d.port n)) d
      | 5 => ((List.range 48).filter (fun n => slotLanes (d.portSlot n) == 1)).foldl (fun d n => d.portDown n (d.port n)) d
      | _ => d.endpointReset)

/-- REFCLOCK_RETURN (18 R693): edges without a break for 1 ms. -/
def execRefclockReturn (clock : Fin 7) (s : State) : Result :=
  s.runIf (s.dev.mode.standby && !s.dev.pkg.clocks.contains clock.val) (fun d =>
    { d with pkg := { d.pkg with clocks := sortNat (d.pkg.clocks ++ [clock.val]) } })

end Sys2Proof.Machine
end

