-- ==== Sys2Proof/Machine/View.lean ====
section
/-!
DEFINITION. What the registers show: each field's value from the part of the state it stands for, the words they make up, and the
latched pairs (01 R50).
-/
namespace Sys2Proof.Machine

/-- A truth value as a bit. -/
def bit (b : Bool) : Nat := b.toNat

/-- Whole percents of a progress, 100 at most; fractions are dropped (assumption 24). -/
def percent (done whole : Nat) : Nat := if whole = 0 then 0 else min 100 (done * 100 / whole)

/-- The instance shown of a banked register, by its selector; none where the selector names nothing. -/
def Dev.bankEntry (s : Dev) : Bank → Option Nat
  | .none => some 0
  | .qp => some (s.fld .RD_QP_SEL_INDEX)
  | .win => some (s.fld .WIN_SEL_SLOT)
  | .host => some (s.fld .HOST_SEL_INDEX)
  | .ns => let k := s.fld .NS_SEL_NSID; if 1 ≤ k ∧ k ≤ 4096 then some (k - 1) else none
  | .tenant => some (s.fld .TN_SEL_TENANT)
  | .hist => some (histKey (s.fld .HIST_SEL_KIND) (s.fld .HIST_SEL_TENANT) (s.fld .HIST_SEL_CLASS) 0 / 32)
  | .voq => some s.selectedVoq
  | .key =>
    let kind := s.fld .KEY_SEL_KIND
    let i := s.fld .KEY_SEL_INDEX
    if i < keySlotCount kind then some (slotKey kind i) else none
  | .vol => some (s.fld .VOL_SEL_VOLUME)
  | .seg => some (s.fld .LDG_SEG_SEL_SEGMENT)
  | .map => some (s.fld .MAP_SEL_VOLUME)
  | .fn => let k := s.fld .EP_FN_SEL_FN; if k ≤ 64 then some k else none
  | .csel =>
    let r := s.fld .CNT_CSEL_REGION
    let c := s.fld .CNT_CSEL_CLUSTER
    if clusterOk r c then some (perfKey r c 0 / 4) else none

/-- Array dimensions of a register as its instances are kept: a register shown in both pier blocks is one (08 R349). -/
def RegInfo.kept (x : RegInfo) : List (Nat × Nat) := if x.shared then x.dims.tail else x.dims

/-- The instance of a register's fields by bank entry and array index. -/
def RegInfo.inst (x : RegInfo) (entry i : Nat) : Nat := entry * dimsSize x.kept + i % dimsSize x.kept

/-- Bad-block entry `n` of a volume's list (08 BB_ENT). -/
def Dev.badEntry (s : Dev) (v : Nat) : Nat × Nat := (bbEntries (s.gran v) (s.vol v).bad).getD (s.fld .BB_SEL_INDEX) (0, 0)

/-- The job whose progress JOB_STAT shows: (running, waiting, percent) of scrub, else reshape, else pass. -/
def Dev.jobShown (s : Dev) (v : Nat) : Nat × Nat :=
  let x := s.vol v
  if x.scrub.running then (if x.scrub.waiting then 2 else 0, percent x.scrub.cursor (s.scrubRows v))
  else match x.reshape, x.pass with
    | some r, _ => (if r.waiting then 2 else if s.flag .RS_CMD_PAUSE v && r.step.isNone then 1 else 0, percent r.bound (s.volUnits v))
    | none, some p => (if p.waiting then 2 else 0, percent p.cursor (s.volUnits v))
    | none, none => (0, 0)

/-- Progress of creating, deleting or clearing (08 VOL_STAT). -/
def Dev.volProgress (s : Dev) (v : Nat) : Nat :=
  let x := s.vol v
  if x.st = .creating then percent x.zeroed.length x.members.length
  else match x.clearing with
    | n :: _ => percent (s.nvme.clearAt.get (s.nsBase n) n - s.nsBase n) (s.nsSize n)
    | [] => 0

/-- Slots a recorder can use: those in segments of working dies (15 EV_STAT). -/
def Dev.recUsable (s : Dev) : Nat := 1024 * ((List.range 256).filter (fun g => s.recSlotUsable (g * 1024))).length

/-- The word of the 1,024-bit meter record at MTR_RDIDX (05 MTR_REC). -/
def Dev.meterWord (s : Dev) (w : Nat) : Nat :=
  match s.ten.meter.ring.find (s.fld .MTR_RDIDX_INDEX) with
  | some r => leNat (slice r.bytes (4 * w) 4)
  | none => 0

/-- Bits of the MACs of a port for which `p` holds. -/
def Dev.portBits (s : Dev) (n : Nat) (p : Mac → Bool) : Nat := bitmap ((List.range 8).filter (fun m => p (s.mac (n * 8 + m))))

/-- A field of the architecture, the ports or the transport (01, 02, 03) that stands for state, not for what was written. -/
def Dev.viewA (s : Dev) (f : Fld) (n : Nat) : Option Nat :=
  match f with
  | .GLB_MODE_CAUSE => some s.mode.cause
  | .GLB_MODE_MODE => some s.modeNow.code
  | .GLB_CAP_PKG_IDX => some s.pkg.pkgIdx
  | .GLB_CAP_WIRING => some (bit s.pkg.wiring)
  | .TB_LO_TIME_LO => some (s.now % 2 ^ 32)
  | .TB_HI_TIME_HI => some (s.now / 2 ^ 32)
  | .REGION_STAT_RESETS => some (s.region n).resets
  | .REGION_STAT_ISO_CAUSE => some (s.region n).isoCause
  | .REGION_STAT_TESTING => some (bit (s.region n).testing)
  | .REGION_STAT_ISOLATED => some (bit (s.region n).isolated)
  | .REGION_CTL_ISOLATE => some (bit (s.region n).isolated)
  | .PACE_PACE_MAX => some (s.region n).paceMax
  | .PACE_PACE_PS => some (s.region n).pacePs
  | .GOV_STAT_UNMET => some (bit (s.rail n).unmet)
  | .GOV_STAT_AT_MIN => some (bit ((s.rail n).volt == s.fld .GOV_LIM_VMIN_MV n))
  | .GOV_STAT_AT_MAX => some (bit ((s.rail n).volt == s.fld .GOV_LIM_VMAX_MV n))
  | .GOV_STAT_VOUT_MV => some (s.rail n).voutCmd
  | .CLUSTER_RESET_GO => some (bit s.arch.clusterGo.isSome)
  | .SEAM_STAT_UP => some (bit (s.seamUp n))
  | .SEAM_STAT_REPLAYS => some (s.seam n).replays
  | .PORT_STAT_EEE_ABLE => some (s.portBits n (·.eeeAble))
  | .PORT_STAT_LANE_SIG => some (bitmap ((List.range 8).filter (fun k => (s.mac (n * 8 + (k - k % splitLanes (s.fld .PORT_CFG_SPLIT n)))).link)))
  | .PORT_STAT_LINK => some (s.portBits n (·.link))
  | .EEE_STAT_ACTIVE => some (bit (s.eeeActive n))
  | .EEE_STAT_TX_LPI => some (bit (s.mac n).txLpi)
  | .EEE_STAT_RX_LPI => some (bit (s.mac n).rxLpi)
  | .EEE_STAT_TW_TX => some (s.mac n).twTx
  | .CBS_CREDIT_CREDIT => some (unsigned 32 (s.creditNow (n / 3) (n % 3) / 16))
  | .PTP_STAT_STATE => some s.net.ptp.state.code
  | .PTP_STAT_ON_ALT => some (bit s.net.ptp.onAlt)
  | .PTP_STAT_SLEWING => some (bit s.net.ptp.slewing)
  | .PTP_OFFSET_OFFSET => some (unsigned 32 s.net.ptp.offset)
  | .PTP_FREQ_FREQ => some (unsigned 32 s.net.ptp.freq)
  | .PTP_REMAIN_REMAIN => some (unsigned 32 s.net.ptp.remain)
  | .RD_SLOTS_SHARED_FREE => some s.slotsFree
  | .RD_QP_STATE_STATE => some (s.qp n).st.code
  | .RD_QP_STATE_MTU => some (if (s.qp n).mtu = 4096 then 2 else if (s.qp n).mtu = 2048 then 1 else 0)
  | .RD_QP_STATE_TENANT => some (s.qp n).tenant
  | .RD_QP_STATE_DEPTH => some (s.qp n).depth
  | .RD_QP_EPSN_PSN => some (s.qp n).ePsn
  | .RD_QP_NPSN_PSN => some (s.qp n).nPsn
  | .RD_QP_CRED_HOST_CODE => some (s.qp n).hostCode
  | .RD_QP_CRED_SENT_CODE => some (s.qp n).sentCode
  | .RD_QP_CRED_IN_USE => some (s.qp n).inUse
  | .WIN_CMD_REVOKE => some (bit ((s.window n).st == .revoking))
  | .WIN_CMD_REGISTER => some (bit (s.window n).registering)
  | .WIN_STAT_TAG => some (s.window n).tag
  | .WIN_STAT_STATE => some (s.window n).st.code
  | _ => none

/-- A field of the front end, tenancy, the switch or the cipher engine (04-07) that stands for state. -/
def Dev.viewB (s : Dev) (f : Fld) (n : Nat) : Option Nat :=
  let m := s.ten.meter
  match f with
  | .FE_STAT_DISC_CTRL => some (s.nvme.ctrls.filter (fun e => e.2.kind == .discovery)).length
  | .FE_STAT_NVM_CTRL => some (s.nvme.ctrls.filter (fun e => e.2.kind != .discovery)).length
  | .FE_OUT_COUNT => some s.commandsOut
  | .FE_PS_ENTERING => some (bit s.nvme.entryAt.isSome)
  | .FE_PS_TARGET => some s.nvme.target
  | .FE_PS_PS => some s.nvme.ps
  | .HOST_STAT_CTRL_COUNT => some (s.hostCtrls n)
  | .HOST_STAT_NQN_SET => some (bit (s.nvme.nqns.find n).isSome)
  | .TN_STAT_ELIGIBLE => some (bit (s.tnEligible n))
  | .TN_STAT_OUTSTANDING => some (s.tn n).outstanding
  | .HIST_BIN_COUNT => some (s.ten.hist.get 0 n)
  | .MTR_KEY_PENDING => some (bit m.keyNext.isSome)
  | .MTR_KEY_LOADED => some (bit (s.keyIn keyService (s.fld .MTR_KEY_KEY_ID)).isSome)
  | .MTR_SEQ_LO_SEQ => some (m.seq % 2 ^ 32)
  | .MTR_SEQ_HI_SEQ => some (m.seq / 2 ^ 32)
  | .MTR_HEAD_INDEX => some m.head
  | .MTR_EXP_WR_INDEX => some m.expWr
  | .MTR_LOST_COUNT => some m.lost
  | .MTR_REC_DATA => some (s.meterWord n)
  | .SW_FREE_FREE => some s.poolFree
  | .SW_FREE_MIN_MIN => some s.sw.minFree
  | .SW_RSV_CELLS => some (s.sw.rsv.map (·.cells)).sum
  | .SW_VOQ_OCC_CELLS => some (s.voqOcc (n / 64) (n / 4 % 16) (n % 4))
  | .SW_VOQ_PEAK_CELLS => some (s.sw.peaks.get 0 n)
  | .SW_VOQ_DROP_FRAMES => some (s.sw.drops.get 0 n)
  | .SW_IN_OCC_CELLS => some (s.cellsWhere (fun i _ _ => i == n))
  | .SW_OUT_OCC_CELLS => some (s.cellsWhere (fun _ o _ => o == n))
  | .SW_CLS_OCC_CELLS => some (s.cellsWhere (fun _ _ c => c == n))
  | .CX_STAT_RNG_OK => some (bit s.cust.rngOk)
  | .CX_STAT_KCV_SET => some (bit (s.cust.wrapped.kcvA.isSome || s.cust.wrapped.kcvB.isSome))
  | .CX_STAT_SEALED => some (bit (s.cust.wrapped.sealedA.isSome || s.cust.wrapped.sealedB.isSome))
  | .CX_STAT_KEK_READY => some (bit s.cust.ready)
  | .KEY_CMD_BUSY => some (bit (s.keySlot (n / 4096) (n % 4096)).running.isSome)
  | .KEY_STAT_STATE => some (s.keySlot (n / 4096) (n % 4096)).state.code
  | .KEY_STAT_GEN => some (s.keyGen (n / 4096) (n % 4096) % 2 ^ 30)
  | .KEY_USE_SIZE => some (s.keySlot (n / 4096) (n % 4096)).size
  | .KEY_USE_USE => some (s.keySlot (n / 4096) (n % 4096)).use
  | .ALM_STAT_SRC => some s.cust.alarms
  | .OFL_HEAD_INDEX => some s.cust.head
  | _ => none

/-- A field of the volumes, the ledger or the jobs (08, 09, 10) that stands for state. -/
def Dev.viewC (s : Dev) (f : Fld) (n : Nat) : Option Nat :=
  let v := s.vol n
  let w := s.ldg.wear
  let place := s.segPlace n
  match f with
  | .VOL_CMD_DELETE => some (bit (v.st == .deleting))
  | .VOL_CMD_CREATE => some (bit (v.st == .creating))
  | .VOL_STAT_STATE => some v.st.code
  | .VOL_STAT_OWNER => some (s.volPier n)
  | .VOL_STAT_CLEARING => some (bit (!v.clearing.isEmpty))
  | .VOL_STAT_RESHAPE => some (bit v.reshape.isSome)
  | .VOL_STAT_REDUND => some v.level
  | .VOL_STAT_PROGRESS => some (s.volProgress n)
  | .VOL_CAP_LO_UNITS => some (s.volUnits n % 2 ^ 32)
  | .VOL_CAP_HI_UNITS => some (s.volUnits n / 2 ^ 32)
  | .VOL_STRIPES_COUNT => some (if v.st = .none then 0 else s.volStripes n)
  | .SLOT_MSTATE_STATE => some (s.drive n).st.code
  | .SLOT_MSTATE_VOLUME => some (s.drive n).volume
  | .SLOT_MSTATE_INDEX => some (s.drive n).index
  | .BB_COUNT_COUNT => some (bbEntries (s.gran n) v.bad).length
  | .BB_ENT_LO_ADDR => some ((s.badEntry n).1 % 2 ^ 32)
  | .BB_ENT_HI_LEN => some (s.badEntry n).2
  | .BB_ENT_HI_ADDR => some ((s.badEntry n).1 / 2 ^ 32)
  | .PAR_STAGE_ACC_BUSY => some (s.pier n).accs.length
  | .PAR_STAGE_STAGED_MIB => some (s.stagedBytes n / 2 ^ 20)
  | .LDG_STAT_RECOVERING => some (bit s.recoveringAny)
  | .LDG_STAT_READONLY => some (bit ((List.range 2).any (fun p => decide (s.ringSegs p < 256))))
  | .LDG_STAT_WORN => some (bit ((List.range 2).any (fun p => decide (s.ringSegs p < 1024))))
  | .LDG_STAT_HOT => some (bit w.hot)
  | .LDG_STAT_REPOINTING => some (bit w.repointing)
  | .LDG_STAT_CLEAN => some (bit s.ldg.clean)
  | .LDG_STAT_DIE_OK => some (bitmap s.ldg.dieOk)
  | .LDG_RING_SEGS => some (s.ringSegs n)
  | .LDG_RING_USED => some ((List.range 2048).filter (fun i => s.ringOccupied n i)).length
  | .LDG_RECORDS_COUNT => some ((s.pier n).recs.filter (fun r => r.kind != 0 && !r.retired)).length
  | .LDG_SEQ_LO_SEQ => some ((s.pier n).seq % 2 ^ 32)
  | .LDG_SEQ_HI_SEQ => some ((s.pier n).seq / 2 ^ 32)
  | .LDG_RESERVE_PAIR1 => some (s.reserveLeft 1)
  | .LDG_RESERVE_PAIR0 => some (s.reserveLeft 0)
  | .LDG_TEMP_PEAK24 => some (unsigned 8 ((w.peaks.map Prod.snd).foldl max w.tempNow / 8))
  | .LDG_TEMP_NOW => some (unsigned 8 (w.tempNow / 8))
  | .LDG_RP_STAT_INTERVAL => some s.repointDays
  | .LDG_RP_STAT_PROGRESS => some (percent w.passSegment 16384)
  | .LDG_RP_LAST_LO_TIME => some (w.passLast % 2 ^ 32)
  | .LDG_RP_LAST_HI_TIME => some (w.passLast / 2 ^ 32)
  | .LDG_SEG_STAT_STATE => some (if w.withdrawn.contains n then 2 else if s.ldg.dieFailed.contains (place / 4096) then 3
      else if (w.remaps.find n).isSome then 1 else 0)
  | .LDG_SEG_STAT_DIE => some (place / 4096)
  | .LDG_SEG_STAT_PHYS => some (place % 4096)
  | .LDG_SEG_WEAR_LO_WEAR => some (w.bytes.get 0 n / 65536 % 2 ^ 32)
  | .LDG_SEG_WEAR_HI_WEAR => some (w.bytes.get 0 n / 65536 / 2 ^ 32)
  | .MAP_WH_REGIONS => some v.hole.length
  | .MAP_ABS_REGIONS => some v.absent.length
  | .MAP_HOSTS_SEC1 => some ((s.secondaryHosts n).getD 1 31)
  | .MAP_HOSTS_SEC0 => some ((s.secondaryHosts n).getD 0 31)
  | .MAP_HOSTS_MH2 => some ((s.mapHosts n).getD 2 31)
  | .MAP_HOSTS_MH1 => some ((s.mapHosts n).getD 1 31)
  | .MAP_HOSTS_MH0 => some ((s.mapHosts n).getD 0 31)
  | .MEMBER_CMD_BUSY => some (bit (s.memberCmdBusy || s.store.memberBusy))
  | .JOB_STAT_JOBS => some (bit v.pass.isSome + 2 * bit v.reshape.isSome + 4 * bit v.scrub.running)
  | .JOB_STAT_RUN => some (s.jobShown n).1
  | .JOB_STAT_PROGRESS => some (s.jobShown n).2
  | .JOB_TGT_INDICES => some (bitmap ((v.pass.map (fun p => p.targets.map (·.index))).getD []))
  | .JOB_RESYNC_INDICES => some (bitmap ((v.pass.map (fun p => (p.targets.filter (·.resync.isSome)).map (·.index))).getD []))
  | .JOB_CUR_LO_UNIT => some ((v.pass.map (·.cursor)).getD 0 % 2 ^ 32)
  | .JOB_CUR_HI_UNIT => some ((v.pass.map (·.cursor)).getD 0 / 2 ^ 32)
  | .RS_CMD_STEP => some (bit ((v.reshape.map (·.step.isSome)).getD false))
  | .RS_CMD_BACKUP => some (bit ((v.reshape.map (fun r => r.step.isSome && r.backup)).getD false))
  | .RS_CMD_START => some (bit v.reshape.isSome)
  | .RS_BOUND_LO_UNIT => some ((v.reshape.map (·.bound)).getD 0 % 2 ^ 32)
  | .RS_BOUND_HI_UNIT => some ((v.reshape.map (·.bound)).getD 0 / 2 ^ 32)
  | .SCRUB_LAST_LO_TIME => some (v.scrub.last % 2 ^ 32)
  | .SCRUB_LAST_HI_TIME => some (v.scrub.last / 2 ^ 32)
  | _ => none

/-- A field of the drive ports, slots, DMA or the endpoint (11, 12, 13) that stands for state. -/
def Dev.viewD (s : Dev) (f : Fld) (n : Nat) : Option Nat :=
  let x := s.slotPwr n
  let c := s.chan n
  match f with
  | .FEED_STAT_VB_MV => some s.shelf.mvB
  | .FEED_STAT_B_OK => some (bit s.shelf.feedB)
  | .FEED_STAT_A_OK => some (bit s.shelf.feedA)
  | .FEED_CFG_VA_MV => some s.shelf.mvA
  | .SLOT_STAT_STATE => some x.st.code
  | .SLOT_STAT_PRSNT => some (bit x.present)
  | .SLOT_STAT_DIODE_B => some (bit x.diodeB)
  | .SLOT_STAT_DIODE_A => some (bit x.diodeA)
  | .SLOT_STAT_AUX_ON => some (bit x.aux)
  | .SLOT_STAT_CAUSE => some x.cause
  | .SLOT_STAT_RETRIES => some x.retries
  | .SLOT_MEAS_V_MV => some x.mv
  | .SLOT_MEAS_I_MA => some x.ma
  | .SLOT_HOLD_V_PEAK => some x.peakV
  | .SLOT_HOLD_V_MIN => some x.minV
  | .SLOT_HOLD_I_PEAK => some x.peakI
  | .SLOT_HOLD_I_MIN => some x.minI
  | .SLOT_AUX_I_MA => some x.auxMa
  | .SLOT_ACC_ACC => some x.acc
  | .RP_STAT_LINK_UP => some (bit (s.port n).up)
  | .RP_STAT_READY => some (bit (s.port n).ready)
  | .RP_STAT_FMT_BAD => some (bit (s.port n).fmtBad)
  | .RP_STAT_VWC => some (bit (s.port n).vwc)
  | .RP_STAT_DISABLED => some (bit (!s.portUsed n))
  | .RP_STAT_RATE => some (s.port n).rate
  | .RP_STAT_WIDTH => some (s.port n).width
  | .RP_STAT_QUEUES => some (s.port n).queues
  | .CH_STAT_STATE => some c.st.code
  | .CH_STAT_SH_FULL => some (bit c.full)
  | .CH_STAT_ERR => some c.err
  | .CH_STAT_ENTRY => some c.entry
  | .CH_REMAIN_BYTES => some c.remain
  | .CH_DONE_COUNT => some c.done
  | .CH_ERR_ADDR_LO_ADDR => some (c.errAddr % 2 ^ 32)
  | .CH_ERR_ADDR_HI_ADDR => some (c.errAddr / 2 ^ 32)
  | .EP_STAT_LINK_UP => some (bit s.ep.up)
  | .EP_STAT_FLIT => some (bit s.ep.flit)
  | .EP_STAT_RATE => some s.ep.rate
  | .EP_STAT_WIDTH => some s.ep.width
  | .EP_FN_STAT_BME => some (bit (s.epFn (epOfNvme n)).busMaster)
  | .EP_FN_STAT_FLR => some (bit (s.epFn (epOfNvme n)).flr)
  | .EP_FN_STAT_CFS => some (bit (((s.ctrl (pcieCtrl n)).map (·.cfs)).getD false))
  | .EP_FN_STAT_RDY => some (bit (((s.ctrl (pcieCtrl n)).map (·.rdy)).getD false))
  | .EP_FN_STAT_IOQ => some (((s.ctrl (pcieCtrl n)).map (fun c => (c.sqs.filter (fun e => e.1 != 0)).length)).getD 0)
  | _ => none

/-- A field of the recorder, the counters, ownership, modes, firmware or the package (15-18) that stands for state. -/
def Dev.viewE (s : Dev) (f : Fld) (n : Nat) : Option Nat :=
  let x := s.recStore
  let size := if s.recorderReached then s.recUsable else bufferSlots
  let b := s.bond n
  let live := if s.isolated (n / 256) then 2 ^ 48 - 1 else s.evr.counts.get 0 n
  match f with
  | .EV_STAT_FULL => some (bit (decide (size ≤ x.slots.length)))
  | .EV_STAT_BUFFERING => some (bit (!s.recorderReached))
  | .EV_STAT_SLOTS => some size
  | .EV_HEAD_SLOT => some x.head
  | .EV_SEQ_LO_SEQ => some ((x.nextSeq - 1) % 2 ^ 32)
  | .EV_SEQ_HI_SEQ => some ((x.nextSeq - 1) / 2 ^ 32)
  | .EV_COUNT_RECORDS => some (x.countOf n)
  | .EV_DROP_EVENTS => some (s.evr.drops.get 0 n)
  | .EV_REC_DATA => some (leNat (slice (x.slotBytes (s.fld .EV_RDIDX_SLOT)) (4 * n) 4))
  | .CNT_SNAP_LO_SNAP => some (s.evr.snap % 2 ^ 32)
  | .CNT_SNAP_HI_SNAP => some (s.evr.snap / 2 ^ 32)
  | .CNT_LIVE_LO_VALUE => some (live % 2 ^ 32)
  | .CNT_LIVE_HI_VALUE => some (live / 2 ^ 32)
  | .REGION_FIRST_COUNT => some (clustersOf n)
  | .REGION_FIRST_FIRST => some (firstClusterOf n)
  | .SMP_STAT_STOPPED => some (bit s.evr.sampleStopped)
  | .SMP_STAT_HEAD => some s.evr.sampleHead
  | .CNT_WIN_DATA_DATA => some (leNat (slice s.counterWindow (4 * n) 4))
  | .OWN_STAT_PE_HB => some (bit (s.mode.diesUp && !(s.pierOwn 0).quoinSilent))
  | .OWN_STAT_PW_HB => some (bit (s.mode.diesUp && !(s.pierOwn 1).quoinSilent))
  | .OWN_STAT_PE_FENCED => some (bit (s.pierOwn 0).fenced)
  | .OWN_STAT_PW_FENCED => some (bit (s.pierOwn 1).fenced)
  | .OWN_STAT_DISPUTE => some (bit s.own.dispute)
  | .OWN_SLOT_OWNER => some (s.quoinSlot n).owner
  | .OWN_SLOT_EPOCH => some (s.quoinSlot n).epoch
  | .OWN_VOL_OWNER => some (s.quoinVol n).owner
  | .OWN_VOL_EPOCH => some (s.quoinVol n).epoch
  | .OWN_PVOL_PKG => some (s.pvol n).pkg
  | .OWN_PVOL_PEPOCH => some (s.pvol n).epoch
  | .BOND_STAT_UP => some (bit b.up)
  | .BOND_STAT_PEER_HB => some (bit (b.up && b.hbSeen && !s.own.pkgSilent.contains b.peer))
  | .BOND_STAT_WIDTH => some (widthCode b.width)
  | .BOND_STAT_PEER_IDX => some b.peer
  | .MODE_STAT_COMMISSIONED => some (bit s.mode.commissioned)
  | .MODE_STAT_DRAINED => some (bit s.drained)
  | .MODE_STAT_START_MS => some s.mode.startMs
  | .FW_STAT_RUN_SLOT => some s.fw.runSlot
  | .FW_STAT_TRIAL => some (bit s.fw.unconfirmed)
  | .FW_STAT_IMG_OK_A => some (bit (s.fw.valid 0).isSome)
  | .FW_STAT_IMG_OK_B => some (bit (s.fw.valid 1).isSome)
  | .FW_STAT_CHANGE => some (if s.fw.downloading then 5 else s.fw.change)
  | .FW_VER_RUN_VERSION => some ((s.fw.running.map (·.version.toNat)).getD 0)
  | .FW_VER_A_VERSION => some (((s.fw.valid 0).map (·.version.toNat)).getD 0)
  | .FW_VER_B_VERSION => some (((s.fw.valid 1).map (·.version.toNat)).getD 0)
  | .PWR_RAIL_PG => some (bit (s.rail n).pg)
  | .PWR_RAIL_ON => some (bit (s.rail n).on)
  | .PWR_RAIL_ADDR => some (if n < 3 then s.fld .GOV_CTL_PMB_ADDR n else s.fld .PWR_RAIL_ADDR n)
  | .PWR_RAIL_VOUT_MV => some (s.rail n).readMv
  | .PWR_IOUT_POUT => some (s.rail n).pout
  | .PWR_IOUT_IOUT => some (s.rail n).iout
  | .DIE_TEMP_PEAK => some (unsigned 16 ((s.sensor n).peak.getD 0))
  | .DIE_TEMP_NOW => some (unsigned 16 (s.sensor n).now)
  | .CLK_STAT_PRESENT => some (bitmap s.pkg.clocks)
  | _ => none

/-- What a field shows: nothing for a write-only one, the state it stands for, or what is stored in it (00 R5). -/
def Dev.readFld (s : Dev) (f : Fld) (n : Nat) : Nat :=
  if f.info.acc = .wo then 0
  else match s.viewA f n with
    | some v => v
    | none => match s.viewB f n with
      | some v => v
      | none => match s.viewC f n with
        | some v => v
        | none => match s.viewD f n with
          | some v => v
          | none => match s.viewE f n with
            | some v => v
            | none => s.fld f n

/-- The registers of a MAC that the split does not create (02): read 0, writes discarded. -/
def macRegs : List Reg := [.MAC_CFG, .MAC_ADDR_LO, .MAC_ADDR_HI, .MAC_VLAN, .EEE_CFG, .EEE_STAT, .PTP_DLY, .MAC_IP4, .MAC_IP6, .CBS_SLOPE, .CBS_HI,
  .CBS_LO, .CBS_CREDIT]

/-- Array index `i` of a register shows something: its MAC exists (02), and its port's lanes lie on the pier of the block (11). -/
def Dev.regThere (s : Dev) (x : RegInfo) (i : Nat) : Bool :=
  if macRegs.contains x.reg then s.macExists (i / (dimsSize x.dims / 64))
  else if x.reg == .RP_STAT || x.reg == .RP_CTL then i / 48 == slotLanes (s.portSlot (i % 48))
  else true

/-- The word of a register at instance `n` of its fields. -/
def Dev.fieldsWord (s : Dev) (x : RegInfo) (n : Nat) : Nat :=
  (x.parts.map (fun p => (s.readFld p.fld (n * p.mul + p.add) % 2 ^ p.width) * 2 ^ p.lo)).sum

/-- The word that array index `i` of a register shows. -/
def Dev.regWord (s : Dev) (x : RegInfo) (i : Nat) : Nat :=
  match s.bankEntry x.bank with
  | some e => if s.regThere x i then s.fieldsWord x (x.inst e i) else 0
  | none => 0

/-- The register at an address, with its array index. -/
def regAt (addr : Nat) : Option (RegInfo × Nat) :=
  regTable.findSome? (fun x => if x.base ≤ addr then (dimsIndex x.dims (addr - x.base)).map (fun i => (x, i)) else none)

/-- The latched pairs of registers (01 R50): the low register, its high one. -/
def latchedPairs : List (Reg × Reg) := [
  (.TB_LO, .TB_HI), (.MTR_SEQ_LO, .MTR_SEQ_HI), (.VOL_CAP_LO, .VOL_CAP_HI), (.BB_ENT_LO, .BB_ENT_HI), (.LDG_SEQ_LO, .LDG_SEQ_HI),
  (.LDG_RP_LAST_LO, .LDG_RP_LAST_HI), (.LDG_SEG_WEAR_LO, .LDG_SEG_WEAR_HI), (.JOB_CUR_LO, .JOB_CUR_HI), (.RS_BOUND_LO, .RS_BOUND_HI),
  (.SCRUB_LAST_LO, .SCRUB_LAST_HI), (.CH_ERR_ADDR_LO, .CH_ERR_ADDR_HI), (.EV_SEQ_LO, .EV_SEQ_HI), (.CNT_SNAP_LO, .CNT_SNAP_HI),
  (.CNT_LIVE_LO, .CNT_LIVE_HI)]

/-- The counter at an address, with its instance and whether it is the high word (02 R89). -/
def ctrAt (addr : Nat) : Option (Ctr × Nat × Bool) :=
  ctrTable.findSome? (fun b =>
    b.ctrs.zipIdx.findSome? (fun e =>
      let a := b.base + 8 * e.2
      let lo := if a ≤ addr then (dimsIndex b.dims (addr - a)).map (fun i => (e.1, i, false)) else none
      match lo with
      | some r => some r
      | none => if a + 4 ≤ addr then (dimsIndex b.dims (addr - a - 4)).map (fun i => (e.1, i, true)) else none))

/-- A pair that a read takes part in: the words it shows now, the address of its high register, and whether the read is of the high one. -/
structure PairRead where
  lo : Nat
  hi : Nat
  hiAddr : Nat
  high : Bool
  deriving DecidableEq, Repr

/-- The pair at an address, of registers or of a counter's words (01 R50, 02 R89). -/
def Dev.pairAt (s : Dev) (addr : Nat) : Option PairRead :=
  match ctrAt addr with
  | some (c, i, high) =>
    let v := s.ctr c i
    some ⟨v % 2 ^ 32, v / 2 ^ 32, if high then addr else addr + 4, high⟩
  | none =>
    match regAt addr with
    | some (x, i) =>
      match latchedPairs.find? (fun p => p.1 == x.reg || p.2 == x.reg) with
      | some p =>
        match p.1.entry, p.2.entry with
        | some l, some h => some ⟨s.regWord l i, s.regWord h i, h.base + dimsOffset h.dims i, h.reg == x.reg⟩
        | _, _ => none
      | none => none
    | none => none

/-- The key of a requester's latch of a pair; requester 0 holds what the latches hold before the first read of the low register. -/
def latchKey (requester hiAddr : Nat) : Nat := hiAddr * 64 + requester

/-- A read of a latched pair (01 R50): the low register shows its value and latches the high one's for the requester; the high register shows what
the requester's latch holds, which before its first read of the low one is the value at package reset or as loaded. -/
def Dev.pairRead (s : Dev) (req : Requester) (p : PairRead) : Nat × Dev :=
  let k := latchKey (requesterKey req + 1) p.hiAddr
  if p.high then
    (((s.latches.find k).getD (s.latches.get none (latchKey 0 p.hiAddr))).getD 0, s)
  else (p.lo, { s with latches := s.latches.insert k (some p.hi) })

/-- The high registers whose reset value comes from the ledger (01 R50): every latch holds it as loaded. -/
def loadedPairs : List Reg := [.MTR_SEQ_HI, .LDG_SEQ_HI, .LDG_RP_LAST_HI, .LDG_SEG_WEAR_HI, .SCRUB_LAST_HI, .EV_SEQ_HI]

/-- The latches take the values loaded from the ledger (01 R50). -/
def Dev.loadLatches (s : Dev) : Dev :=
  let vals := loadedPairs.flatMap (fun r => match r.entry with
    | some x => (List.range (dimsSize x.dims)).map (fun i => (x.base + dimsOffset x.dims i, s.regWord x i))
    | none => [])
  let t := vals.foldl (fun (t : Table (Option Nat)) e => t.put none (latchKey 0 e.1) (if e.2 = 0 then none else some e.2)) s.latches
  { s with latches := t }

/-- LOW_WORD_READ (01 R50): a read of a register of a latched pair; PF1 without privilege sees nothing of the counter block (15 R612). -/
def execLowWordRead (req : Requester) (addr : BitVec 32) (s : State) : Result :=
  let a := addr.toNat
  s.run (fun d => match d.pairAt a with
    | none => d
    | some p => d.regRead req a (fun d =>
        if 0x3800000 ≤ a ∧ a < 0x3C00000 ∧ !d.privileged req then (0, d.counterRefused a) else d.pairRead req p))

/-- LEDGER_RECOVERY (09 R379-R394; 17 Start-up, steps 6 to 9): device state is loaded; once keys are in custody and the members are
ready or given up, the rings are recovered. -/
def execLedgerRecovery (found : Recovery) (s : State) : Result :=
  s.run (fun d =>
    if !d.mode.diesUp || !d.mode.booted || d.cust.alarms != 0 then d
    else
      let first := !d.ldg.stateLoaded
      let d := d.loadState found
      let d := if first then d.loadLatches else d
      if d.cust.ready && d.recoveringAny && !(List.range 24).any d.slotAwaited then d.recoverRings found else d)

end Sys2Proof.Machine
end

