-- ==== Sys2Proof/Machine/RegWrite.lean ====
section
/-!
DEFINITION. Writes to the registers that have no command of their own (00 R5): the limits of what is stored, the registers and fields that are
writable only in some state, and what a write changes beyond the field.
-/
namespace Sys2Proof.Machine

/-- A threshold exponent of four signed bits, as its nearer limit in -4 to 3 (06 R264). -/
def alphaStored (v : Nat) : Nat :=
  let k := signed 4 v
  unsigned 4 (if k < -4 then -4 else if 3 < k then 3 else k)

/-- The value a field stores for a written one: the nearer limit of its range (01 R36, R51; 02 PTP_DISC; 03 RD_CFG, RD_TIMING; 04 FE_CFG; 05 R202,
R220, CLS_DL, MTR_EXP_CTL; 06 R264, SW_WATCH; 07 OFL_CTL; 09 LDG_CFG; 10 RB_CFG, SCRUB_CFG; 11 SLOT_CFG, R474, SLOT_COOL, DRV_CFG; 15 EV_IRQ, CNT_CTL,
SMP_CTL; 16 OWN_CFG, BOND_CFG; 17 FW_CFG; 18 THERM_CFG). -/
def storedValue (f : Fld) (n v : Nat) : Nat :=
  match f with
  | .GOV_CTL_TARGET_PS | .GOV_PS_PS1_PS | .GOV_PS_PS2_PS | .GOV_PS_PS3_PS => clampTo 450 700 v
  | .GOV_LIM_VMAX_MV | .GOV_LIM_VMIN_MV => clampTo (railRange n).1 (railRange n).2 v
  | .PTP_DISC_DISC_THR => clampTo 1000 1000000000 v
  | .RD_CFG_READ_MAX => min 8 v
  | .RD_CFG_CRED_RES | .RD_TIMING_QUIET_TO | .RD_TIMING_REVOKE_TO => max 1 v
  | .FE_CFG_CMD_TO => if v = 0 then 1000 else v
  | .TN_GLB_OVH => overheadStored v
  | .TN_SBURST_BURST => max 16 v
  | .CLS_DL_DL_US | .BG_DL_DEG_DL_US | .BG_DL_CRIT_DL_US => max 1 v
  | .MTR_EXP_CTL_SIZE_LOG2 => clampTo 4 20 v
  | .SW_ALPHA_K_URG | .SW_ALPHA_K_LAT | .SW_ALPHA_K_THR | .SW_ALPHA_K_BG => alphaStored v
  | .SW_WATCH_FREE_LOW => min 0xA0000 v
  | .OFL_CTL_SIZE_LOG2 => clampTo 4 12 v
  | .LDG_CFG_SEC_LAG => clampTo 1 100 v
  | .LDG_CFG_MAP_IDLE | .RB_CFG_MISS_TO => max 1 v
  | .SCRUB_CFG_INTERVAL => clampTo 1 90 v
  | .SLOT_CFG_RETRY_S => max 1 v
  | .SLOT_CFG_SLOPE => clampTo 1 120 v
  | .SLOT_FT_FT_A => clampTo 10 40 v
  | .SLOT_COOL_COOL | .DRV_CFG_LINK_TO | .DRV_CFG_MCMD_TO => max 1 v
  | .EV_IRQ_MIN => min 4 v
  | .EV_IRQ_HOLDOFF => max 1 v
  | .CNT_CTL_SIZE_LOG2 => clampTo 10 15 v
  | .SMP_CTL_PERIOD => max 1 v
  | .OWN_CFG_QUOIN_TO => max 1 v
  | .BOND_CFG_MIN_WIDTH => min 2 v
  | .FW_CFG_CONFIRM_S => max 1 v
  | .THERM_CFG_WARN => clampTo 80 125 v
  | _ => v

/-- A field is not writable in the present state (05 MTR_EXP_BASE; 07 OFL_CTL; 10 RS_CFG, RS_NEW; 11 R446; 15 CNT_CTL, SMP_CTL; 16 BOND_CFG). -/
def Dev.fieldLocked (s : Dev) (f : Fld) (n : Nat) : Bool :=
  match f with
  | .MTR_EXP_BASE_LO_ADDR | .MTR_EXP_BASE_HI_ADDR => s.flag .MTR_EXP_CTL_EN
  | .OFL_CTL_SIZE_LOG2 | .OFL_BASE_LO_ADDR | .OFL_BASE_HI_ADDR => s.flag .OFL_CTL_EN
  | .RS_CFG_NEW_WIDTH | .RS_CFG_NEW_STRIP => (s.vol n).reshape.isSome
  | .RS_NEW_USED | .RS_NEW_SLOT => (s.vol (n / 24)).reshape.isSome
  | .DRV_CFG_DUAL => s.modeNow != .commission
  | .CNT_CTL_STACK | .CNT_CTL_SIZE_LOG2 => s.flag .CNT_CTL_EN
  | .SMP_CTL_STOP | .SMP_CTL_MATCH | .SMP_CTL_PERIOD | .SMP_MATCH_VALUE => s.flag .SMP_CTL_EN
  | .BOND_CFG_SHED_EN | .BOND_CFG_MIRROR | .BOND_CFG_MIN_WIDTH | .BOND_CFG_KEY_ID => s.flag .BOND_CFG_EN n
  | _ => false

/-- The fields of a register at instance `n` take a written word by their access codes (00 R5, R6): RW stored, W1C cleared where 1 is written; the
answer is the abort code of R556, 0800_0022h where a field not writable now would have changed. -/
def Dev.storeFields (s : Dev) (x : RegInfo) (n : Nat) (w : Word) : Dev × Nat :=
  x.parts.foldl (fun (a : Dev × Nat) p =>
    let i := n * p.mul + p.add
    let v := bitsOf w (p.lo + p.width - 1) p.lo
    match p.fld.info.acc with
    | .rw =>
      let v := storedValue p.fld i v
      if s.fieldLocked p.fld i then (a.1, if v = s.fld p.fld i then a.2 else abortState) else (a.1.setFld p.fld i v, a.2)
    | .w1c => if v = 0 then a else (a.1.setFld p.fld i 0, a.2)
    | _ => a) (s, abortOk)

/-- PTP_CFG (02): TRANSPORT 11b is refused with event 104h; clearing EN disables the servo, setting it starts one that has acquired nothing. -/
def Dev.ptpCfgWrite (s : Dev) (x : RegInfo) (addr : Nat) (w : Word) : Dev × Nat :=
  if bitsOf w 29 28 = 3 then (s.netRefused addr, abortRefused)
  else
    let was := s.flag .PTP_CFG_EN
    let r := s.storeFields x 0 w
    let p : Ptp := { r.1.net.ptp with source := none, slewing := false, onAlt := false, t1 := none, t2 := none, t3 := none, t4 := none
                                      announceAt := s.nowOn .ln }
    if bitOf w 31 == was then r
    else (r.1.setPtp { p with state := if was then .disabled else .acquiring }, r.2)

/-- KEY_USE of the slot KEY_SEL selects (07 KEY_USE, R279): only an EMPTY service slot; USE 11b, and METER or BOND with 128 bits, are refused. -/
def Dev.keyUseWrite (s : Dev) (n : Nat) (w : Word) : Dev × Nat :=
  let kind := n / 4096
  let i := n % 4096
  let x := s.keySlot kind i
  let use := bitsOf w 1 0
  let size := bitsOf w 8 8
  if kind ≠ keyService ∨ x.state ≠ .empty ∨ x.running.isSome then (s, abortState)
  else if use = 3 ∨ (use ≠ useOffload ∧ size = 0) then (s.custodyRefused kind i, abortRefused)
  else (s.setKeySlot kind i { x with use := use, size := size }, abortOk)

/-- A write to MG_OBJ, MG_OFFSET, MG_DATA, or to MG_CTL without GO, while an access of the window runs is discarded (14 R580). -/
def Dev.windowBusy (s : Dev) : Bool := s.flag .MG_CTL_GO

/-- A register at instance `n` of its fields takes a word; the answer is the abort code of R556. -/
def Dev.storeReg (s : Dev) (x : RegInfo) (n addr : Nat) (w : Word) : Dev × Nat :=
  match x.reg with
  | .PTP_CFG => s.ptpCfgWrite x addr w
  | .CBS_HI | .CBS_LO => (s.creditSync (n / 3)).storeFields x n w
  | .EEE_CFG =>
    let m := s.mac n
    (if bitOf w 31 then s else s.setMac n { m with txLpi := false }).storeFields x n w
  | .TN_SRATE | .TN_SBURST => (s.tokensSync n).storeFields x n w
  | .NS_CFG =>
    if bitOf w 31 ∨ s.flag .NS_CFG_ACTIVE n then (s, abortRefused)
    else if !s.nsIdle n then (s.frontRefused .NS_CFG, abortState)
    else (s.nsFields n w, abortOk)
  | .NS_BASE_LO | .NS_BASE_HI | .NS_SIZE_LO | .NS_SIZE_HI =>
    if s.nsIdle n then s.storeFields x n w else (s.frontRefused x.reg, abortState)
  | .KEY_USE => s.keyUseWrite n w
  | .KEY_DATA => (s.setFld .KEY_DATA_DATA n w.toNat, abortOk)
  | .VOL_CFG => if (s.vol n).st = .none then s.storeFields x n w else (s.volRefused n addr, abortState)
  | .VOL_MEMBER => if (s.vol (n / 24)).st = .none then s.storeFields x n w else (s.volRefused (n / 24) addr, abortState)
  | .EP_FN_CFG => s.epFnCfgWrite n w
  | .CNT_CFG => if bitsOf w 31 30 = 3 then (s.counterRefused addr, abortRefused) else s.storeFields x n w
  | .SMP_CTL =>
    if bitsOf w 29 28 = 3 then (s.counterRefused addr, abortRefused)
    else
      let starts := bitOf w 31 && !s.flag .SMP_CTL_EN
      let r := s.storeFields x n w
      ({ r.1 with evr := { r.1.evr with sampleStopped := r.1.evr.sampleStopped && !starts } }, r.2)
  | .BOND_CFG =>
    let r := s.storeFields x n w
    (if bitOf w 31 then r.1 else r.1.bondDown n false, r.2)
  | .PWR_RAIL => (s.setFld (if n < 3 then .GOV_CTL_PMB_ADDR else .PWR_RAIL_ADDR) n (bitsOf w 22 16), abortOk)
  | .MG_OBJ | .MG_OFFSET | .MG_DATA | .MG_CTL =>
    if s.windowBusy then (s.event .pl 0x3F3, abortState) else s.storeFields x n w
  | _ => s.storeFields x n w

/-- Registers whose every write has a command of its own (spec/opcode_table.json), and those of which the writes that `w` makes have one. -/
def ownCommand (r : Reg) (w : Word) : Bool :=
  match r with
  | .REGION_CTL | .PORT_CFG | .MAC_CFG | .MAC_IP4 | .MAC_IP6 | .CBS_SLOPE | .WIN_CFG | .WIN_CMD | .HOST_CFG | .TN_CFG | .TN_CIR | .TN_PIR
  | .TN_CBS | .TN_PBS | .MTR_KEY | .KEY_CMD | .ALM_CFG | .OFL_TAIL | .VOL_CMD | .RS_CMD | .FEED_CFG | .SLOT_CMD | .SLOT_CURVE | .RP_CTL | .CH_CTL
  | .CH_TRIG | .CH_SRC_LO | .CH_SRC_HI | .CH_DST_LO | .CH_DST_HI | .CH_LEN | .CH_MODE | .CH_NENT | .CH_DOORBELL | .EP_VEC | .EP_WIN | .OWN_CMD
  | .MODE_CMD | .FW_CMD => true
  | .CLUSTER_RESET | .MG_CTL | .NS_CFG => bitOf w 31
  | .MEMBER_CMD => bitsOf w 7 5 != 0
  | _ => false

/-- Registers of the custody block, KEY_SEL through KEY_DATA and CX_SECRET, that a write needs privilege for (07 R309). -/
def custodyRegs : List Reg := [.KEY_SEL, .KEY_USE, .KEY_DATA, .CX_SECRET]

/-- An address of the counter block (15 R612). -/
def inCounterBlock (addr : Nat) : Bool := decide (0x3800000 ≤ addr) && decide (addr < 0x3C00000)

/-- A requester may write a register: privilege in the custody and counter blocks, the channel's own requesters on a channel; else what the refusal
records (07 R309, 12 R488, 15 R612). -/
def Dev.writeDenied (s : Dev) (req : Requester) (x : RegInfo) (i addr : Nat) : Option Dev :=
  if custodyRegs.contains x.reg && !s.privileged req then some (s.custodyRefused (s.fld .KEY_SEL_KIND) (s.fld .KEY_SEL_INDEX))
  else if inCounterBlock addr && !s.privileged req then some (s.counterRefused addr)
  else if x.reg == .CH_QUANTUM && !chanAllows i req then some (s.dmaRefused i addr)
  else none

/-- A write to word `k` of PF1's MSI-X table (13): address and data are kept; vector control masks its vector. One that unmasks is
MSIX_UNMASK. -/
def Dev.msixTableWrite (s : Dev) (k : Nat) (w : Word) : Dev :=
  let x := s.epFn 1
  if k % 4 ≠ 3 then { s with ep := { s.ep with msix := s.ep.msix.put 0 k w.toNat } }
  else if bitOf w 0 then s.setEpFn 1 { x with unmasked := x.unmasked.filter (· != k / 4) }
  else s

/-- PF1's MSI-X table: 64 vectors of 16 bytes (13). -/
def msixTable : Nat := 0x3D00000
def msixTableBytes : Nat := 1024

/-- REGISTER_WRITE (00 R5, R6 and the register tables of every chapter): a write to a register, or a value of it, that has no command of its own. -/
def execRegisterWrite (req : Requester) (addr : BitVec 32) (value : Word) (s : State) : Result :=
  let a := addr.toNat
  s.run (fun d =>
    if msixTable ≤ a ∧ a < msixTable + msixTableBytes ∧ a % 4 = 0 then d.regWrite a (·.msixTableWrite ((a - msixTable) / 4) value)
    else match regAt a with
      | none => d
      | some (x, i) =>
        if ownCommand x.reg value then d
        else d.regWrite a (fun d =>
          match d.writeDenied req x i a with
          | some t => t
          | none => match d.bankEntry x.bank with
            | some e => if d.regThere x i then (d.storeReg x (x.inst e i) a value).1 else d
            | none => d))

/-- MSIX_UNMASK (13 R535): a vector is unmasked; its pending message is sent where Bus Master Enable is 1. -/
def execMsixUnmask (fn : Fin 66) (vec : Nat) (s : State) : Result :=
  let f := fn.val
  let x := s.dev.epFn f
  s.runIf (s.dev.epUp && s.dev.epFnHere f && !x.unmasked.contains vec && (f != 1 || decide (vec < 64))) (fun d =>
    let d := d.setEpFn f { x with unmasked := x.unmasked ++ [vec], waiting := x.waiting.filter (· != vec) }
    if x.waiting.contains vec then d.msixSend f vec else d)

end Sys2Proof.Machine
end

