-- ==== Sys2Proof/Machine/Objects.lean ====
section
/-!
DEFINITION. The objects of the dictionary (14 Structure, Rights, Communication objects, Principal objects; 15 and 17 their objects): for each index
and subindex its right, size, value and what a write of it acts on.
-/
namespace Sys2Proof.Machine

/-- Rights of an object (14 Rights); write-only objects state who may write them. -/
inductive Right where
  | const | ro | woAny | wo | woCustodian | rw | rwp
  deriving DecidableEq, Repr

/-- The level a write needs, none where there is no write. -/
def Right.writeLevel : Right → Option Level
  | .const => none | .ro => none | .woAny => some .observer | .wo => some .operator | .woCustodian => some .custodian
  | .rw => some .operator | .rwp => some .custodian

/-- The object is never read. -/
def Right.writeOnly (r : Right) : Bool := r == .woAny || r == .wo || r == .woCustodian

/-- Sizes of objects (14 Data types): a fixed number of bytes, a string of up to so many, or a DOMAIN. -/
inductive ObjSize where
  | fixed (n : Nat)
  | upTo (n : Nat)
  | domain
  deriving DecidableEq, Repr

/-- The length of a value written from an offset on matches (14 R546; 17 R662: the one DOMAIN that is written holds up to 32 MiB). -/
def ObjSize.fits : ObjSize → Nat → Nat → Bool
  | .fixed n, _, k => k == n
  | .upTo n, off, k => decide (off + k ≤ n)
  | .domain, off, k => decide (off + k ≤ 32 * 2 ^ 20)

/-- Bytes of a fixed-size object, none for strings and DOMAINs. -/
def ObjSize.bytes : ObjSize → Option Nat
  | .fixed n => some n
  | _ => none

/-- What a write of an object acts on: a whole register, a field, a namespace's, tenant's, host's or window's setting by subindex, a VOL_MEMBER, a port's
PORT_CFG, a MAC's IP words, MTR_KEY.KEY_ID, SCRUB_CFG; an object that stands for no register; a host NQN; a command. -/
inductive ObjKind where
  | none
  | word (r : Reg) (n : Nat)
  | part (r : Reg) (f : Fld) (n : Nat)
  | ns (n which : Nat)
  | tn (t which : Nat)
  | host (h which : Nat)
  | win (w which : Nat)
  | member (v i : Nat)
  | port (p : Nat)
  | macIp (m which : Nat)
  | meterKey
  | scrub
  | own
  | nqn (h : Nat)
  | command
  deriving DecidableEq, Repr

/-- An object: right, size, the address of the register it stands for, value, what a write acts on, whether PDO-mappable, whether reading it needs
Custodian (14 R547). -/
structure Obj where
  right : Right
  size : ObjSize
  addr : Option Nat := none
  read : List Byte := []
  kind : ObjKind := .none
  pdo : Bool := false
  guarded : Bool := false
  deriving DecidableEq, Repr

/-- A look-up: no such object, no such subindex, or the object (14 R545). -/
abbrev Lookup := Option (Option Obj)

/-- A simple object: subindex 00h only (14 R544). -/
def simple (b : Nat) (o : Obj) : Lookup := some (if b = 0 then some o else none)

/-- A record or array: subindex 00h holds the highest subindex (14 R544). -/
def objRecord (top b : Nat) (f : Nat → Option Obj) : Lookup :=
  some (if b = 0 then some { right := .const, size := .fixed 1, read := le 1 top } else f b)

/-- A constant, and a value shown. -/
def constObj (b : List Byte) : Obj := { right := .const, size := .fixed b.length, read := b }
def shownObj (n v : Nat) (pdo : Bool := false) : Obj := { right := .ro, size := .fixed n, read := le n v, pdo := pdo }

/-- A command: write-only. -/
def commandObj (right : Right) (size : ObjSize) (addr : Option Nat := none) : Obj := { right := right, size := size, addr := addr, kind := .command }

/-- The address by which a register is reached: through a pier block whose region is not isolated (08 R349). -/
def Dev.reachAddr (s : Dev) (x : RegInfo) (n : Nat) : Nat :=
  if x.bank ≠ .none then (if x.shared && s.blockIsolated x.base then x.base + 0x1000000 else x.base)
  else if x.shared then (if s.blockIsolated x.base then x.base + 0x1000000 else x.base)
  else x.base + dimsOffset x.dims n

/-- An object that stands for a whole register at instance `n` of its fields. -/
def Dev.wordObj (s : Dev) (right : Right) (size : Nat) (r : Reg) (n : Nat) (pdo : Bool := false) : Obj :=
  match r.entry with
  | some x => { right := right, size := .fixed size, addr := some (s.reachAddr x n), read := le size (s.fieldsWord x n)
                kind := if right = .ro then .none else .word r n, pdo := pdo }
  | none => { right := right, size := .fixed size }

/-- An object that stands for a field. -/
def Dev.partObj (s : Dev) (right : Right) (size : Nat) (r : Reg) (f : Fld) (n : Nat) (pdo : Bool := false) : Obj :=
  match r.entry with
  | some x => { right := right, size := .fixed size, addr := some (s.reachAddr x n), read := le size (s.readFld f n)
                kind := if right = .ro then .none else .part r f n, pdo := pdo }
  | none => { right := right, size := .fixed size }

/-- An object that stands for no register. -/
def Dev.ownObj (s : Dev) (right : Right) (size i b : Nat) (pdo : Bool := false) : Obj :=
  { right := right, size := .fixed size, read := s.obj i b, kind := .own, pdo := pdo }

/-- A command, or a field whose write is one, of a register. -/
def Dev.asCommand (_s : Dev) (o : Obj) : Obj := { o with kind := .command }

/-- A string. -/
def textObj (right : Right) (n : Nat) (b : List Byte) : Obj := { right := right, size := .upTo n, read := b }

/-- Two decimal digits. -/
def digits (n : Nat) : List Byte := [BitVec.ofNat 8 (48 + n / 10 % 10), BitVec.ofNat 8 (48 + n % 10)]

/-- The hardware version: the stepping, as 01.00 (14 1009h). -/
def Dev.hardwareVersion (s : Dev) : List Byte := digits (s.fld .GLB_REV_STEP) ++ [BitVec.ofNat 8 46] ++ digits (s.fld .GLB_REV_SUB)

/-- The communication profile, 1000h-1FFFh (14 Communication objects). -/
def Dev.objectComm (s : Dev) (i b : Nat) : Lookup :=
  let u32 := fun (right : Right) => s.ownObj right 4 i b
  match i with
  | 0x1000 => simple b (constObj (le 4 0))
  | 0x1001 => simple b (shownObj 1 s.errorRegister true)
  | 0x1003 =>
    some (if b = 0 then some { right := .rw, size := .fixed 1, read := le 1 s.od.can.errors.length, kind := .command }
      else if b ≤ 8 then some (shownObj 4 (s.od.can.errors.getD (b - 1) 0)) else none)
  | 0x1005 => simple b (u32 .rw)
  | 0x1008 => simple b (textObj .const 6 (ascii "YD9624"))
  | 0x1009 => simple b (textObj .const 5 s.hardwareVersion)
  | 0x100A => simple b (textObj .const 255 (Config.versionText ((s.fw.running.map (·.version)).getD 0)))
  | 0x1010 => objRecord 1 b (fun b => if b = 1 then some { right := .rw, size := .fixed 4, read := le 4 2 } else none)
  | 0x1011 => objRecord 1 b (fun b => if b = 1 then some { right := .rwp, size := .fixed 4, read := le 4 0, kind := .command } else none)
  | 0x1014 => simple b (u32 .rw)
  | 0x1015 => simple b (s.ownObj .rw 2 i b)
  | 0x1017 => simple b (s.ownObj .rw 2 i b)
  | 0x1018 => objRecord 4 b (fun b => match b with
    | 1 => some (constObj (le 4 0x1F3B))
    | 2 => some (constObj (le 4 0x9624))
    | 3 => some (constObj (le 4 (s.fld .GLB_REV_STEP * 256 + s.fld .GLB_REV_SUB)))
    | 4 => some (constObj (le 4 Config.serial.toNat))
    | _ => none)
  | 0x1021 => simple b { right := .ro, size := .domain, read := Config.description }
  | 0x1022 => simple b (constObj (le 2 1))
  | _ =>
    if 0x1200 ≤ i ∧ i < 0x1204 then objRecord 2 b (fun b => if b ≤ 2 then some (u32 .rwp) else none)
    else if 0x1800 ≤ i ∧ i < 0x1808 then objRecord 5 b (fun b => match b with
      | 1 => some (u32 .rw)
      | 2 => some (s.ownObj .rw 1 i b)
      | 3 => some (s.ownObj .rw 2 i b)
      | 5 => some (s.ownObj .rw 2 i b)
      | _ => none)
    else if 0x1A00 ≤ i ∧ i < 0x1A08 then
      some (if b = 0 then some (s.ownObj .rw 1 i b) else if b ≤ 64 then some (u32 .rw) else none)
    else none

/-- Pages 20h to 23h: the device, modes, power, the network, the transport (14 Principal objects, 17 Mode and firmware objects). -/
def Dev.objectPage0 (s : Dev) (i b : Nat) : Lookup :=
  match i with
  | 0x2000 => simple b (shownObj 1 s.modeNow.code true)
  | 0x2001 => simple b (commandObj .woCustodian (.fixed 1))
  | 0x2002 => simple b (commandObj .woAny (.fixed 4))
  | 0x2004 => objRecord 4 b (fun b => match b with
    | 1 => some { right := .ro, size := .fixed 16 }
    | 2 => some (commandObj .woAny (.fixed 17))
    | 3 => some { right := .ro, size := .fixed 1 }
    | 4 => some (commandObj .woAny (.upTo 8))
    | _ => none)
  | 0x2005 => simple b (s.ownObj .rwp 2 i b)
  | 0x2006 => simple b (s.wordObj .ro 4 .MODE_STAT 0 true)
  | 0x2007 => objRecord 4 b (fun b => match b with
    | 1 => some (s.wordObj .ro 4 .FW_STAT 0)
    | 2 => some (s.wordObj .ro 4 .FW_VER_RUN 0)
    | 3 => some (s.wordObj .ro 4 .FW_VER_A 0)
    | 4 => some (s.wordObj .ro 4 .FW_VER_B 0)
    | _ => none)
  | 0x2008 => simple b (commandObj .woCustodian .domain)
  | 0x2009 => simple b (commandObj .woCustodian (.fixed 1))
  | 0x200A => simple b (s.partObj .rwp 2 .FW_CFG .FW_CFG_CONFIRM_S 0)
  | 0x2010 => objRecord 3 b (fun b => if b ≤ 3 then some (s.ownObj .rwp 1 i b) else none)
  | 0x2011 => objRecord 7 b (fun b => if b ≤ 6 then some (s.ownObj .rwp 1 i b) else if b = 7 then some (s.ownObj .rwp 6 i b) else none)
  | 0x2012 => objRecord 3 b (fun b => if b ≤ 2 then some (s.ownObj .rwp 4 i b) else if b = 3 then some (s.ownObj .rwp 2 i b) else none)
  | 0x2030 => objRecord 3 b (fun b => if b ≤ 3 then some (s.partObj .rw 2 .GOV_CTL .GOV_CTL_TARGET_PS (b - 1)) else none)
  | 0x2031 => objRecord 3 b (fun b => match b with
    | 1 => some (s.partObj .rw 2 .GOV_PS .GOV_PS_PS1_PS 0)
    | 2 => some (s.partObj .rw 2 .GOV_PS .GOV_PS_PS2_PS 0)
    | 3 => some (s.partObj .rw 2 .GOV_PS .GOV_PS_PS3_PS 0)
    | _ => none)
  | 0x20F0 => simple b (shownObj 4 s.od.denied)
  | 0x2100 => simple b (s.asCommand (s.wordObj .rwp 1 .FEED_CFG 0))
  | 0x2200 => objRecord 8 b (fun b => if b ≤ 8 then some { s.wordObj .rwp 4 .PORT_CFG (b - 1) with kind := .port (b - 1) } else none)
  | 0x2201 => simple b (s.wordObj .rwp 4 .PTP_CFG 0)
  | 0x2300 => simple b (s.wordObj .rwp 4 .RD_CFG 0)
  | 0x2301 => simple b (s.wordObj .rwp 4 .RD_TIMING 0)
  | _ =>
    if 0x2210 ≤ i ∧ i < 0x2250 then
      let m := i - 0x2210
      objRecord 5 b (fun b =>
        if b = 1 then some { s.wordObj .rwp 4 .MAC_IP4 m with kind := .macIp m 0 }
        else if b ≤ 5 then some { s.wordObj .rwp 4 .MAC_IP6 (m * 4 + (b - 2)) with kind := .macIp m (b - 1) } else none)
    else none

/-- SCRUB_CFG as the 16-bit object 2A02h: EN in bit 15, INTERVAL below (assumption 25). -/
def Dev.scrubObj (s : Dev) : Obj :=
  { s.wordObj .rwp 2 .SCRUB_CFG 0 with read := le 2 (s.fld .SCRUB_CFG_EN * 32768 + s.fld .SCRUB_CFG_INTERVAL), kind := .scrub }

/-- Pages 24h to 2Eh (14 Principal objects, 15 recorder objects). -/
def Dev.objectPage4 (s : Dev) (i b : Nat) : Lookup :=
  match i with
  | 0x2400 => simple b (s.partObj .rwp 2 .FE_CFG .FE_CFG_CMD_TO 0)
  | 0x2500 => simple b (s.wordObj .rwp 4 .TN_GLB 0)
  | 0x2501 => simple b { s.partObj .rwp 1 .MTR_KEY .MTR_KEY_KEY_ID 0 with kind := .meterKey }
  | 0x2510 => objRecord 5 b (fun b =>
    if b ≤ 3 then some (s.partObj .rwp 4 .CLS_DL .CLS_DL_DL_US (b - 1))
    else if b = 4 then some (s.partObj .rwp 4 .BG_DL_DEG .BG_DL_DEG_DL_US 0)
    else if b = 5 then some (s.partObj .rwp 4 .BG_DL_CRIT .BG_DL_CRIT_DL_US 0) else none)
  | 0x2600 => simple b (s.wordObj .rwp 2 .SW_ALPHA 0)
  | 0x2601 => simple b (s.partObj .rw 4 .SW_WATCH .SW_WATCH_FREE_LOW 0)
  | 0x2700 => simple b (s.wordObj .ro 1 .CX_STAT 0)
  | 0x2701 => simple b (s.partObj .rwp 1 .CX_SECRET .CX_SECRET_SEAL 0)
  | 0x2710 => objRecord 2 b (fun b =>
    if b = 1 then some (commandObj .woAny (.fixed 32)) else if b = 2 then some (commandObj .woAny (.fixed 64)) else none)
  | 0x2720 => simple b (s.asCommand (s.wordObj .rwp 1 .ALM_CFG 0))
  | 0x2900 => simple b (s.wordObj .rwp 4 .LDG_CFG 0)
  | 0x2A00 => simple b (s.wordObj .rwp 4 .RB_CFG 0)
  | 0x2A01 => simple b (s.wordObj .rwp 4 .RB_RATE 0)
  | 0x2A02 => simple b s.scrubObj
  | 0x2C00 => simple b (s.asCommand (s.partObj .rwp 1 .EP_CFG .EP_CFG_PRIV 0))
  | 0x2C01 => simple b (s.asCommand (s.wordObj .rwp 4 .EP_VEC 0))
  | 0x2C02 => simple b (s.wordObj .rwp 1 .EP_RO 0)
  | 0x2D00 => simple b (s.ownObj .rw 1 i b)
  | 0x2D10 => simple b (s.partObj .rw 4 .EV_RDIDX .EV_RDIDX_SLOT 0)
  | 0x2D11 => simple b { right := .ro, size := .fixed 64, read := s.recStore.slotBytes (s.fld .EV_RDIDX_SLOT) }
  | 0x2D12 => objRecord 2 b (fun b =>
    if b = 1 then some (shownObj 8 s.recStore.head true) else if b = 2 then some (shownObj 8 (s.recStore.nextSeq - 1) true) else none)
  | 0x2D13 => objRecord 5 b (fun b => if b ≤ 5 then some (shownObj 4 (s.evr.drops.get 0 (b - 1))) else none)
  | 0x2E00 => simple b (shownObj 1 s.pkg.pkgIdx)
  | _ => none

/-- Objects of slot `k` at offset `o` (14 Principal objects). -/
def Dev.objectSlot (s : Dev) (k o i b : Nat) : Lookup :=
  match o with
  | 0 => simple b (s.wordObj .rwp 4 .SLOT_CFG k)
  | 1 => simple b (s.wordObj .ro 4 .SLOT_STAT k true)
  | 2 => simple b (s.wordObj .ro 4 .SLOT_MEAS k true)
  | 3 => objRecord 8 b (fun b => if b ≤ 8 then some (s.asCommand (s.wordObj .rwp 4 .SLOT_CURVE (k * 8 + (b - 1)))) else none)
  | 4 => simple b (s.wordObj .rwp 4 .SLOT_FT k)
  | 5 => simple b (commandObj .woCustodian (.fixed 1) (some (Reg.addr .SLOT_CMD k)))
  | 6 => simple b (s.wordObj .ro 4 .SLOT_MSTATE k true)
  | 7 => simple b (s.ownObj .rw 1 i b true)
  | _ => none

/-- A setting of a namespace, tenant, host or window: a field with the write of its own kind. -/
def Dev.settingObj (s : Dev) (size : Nat) (r : Reg) (f : Fld) (n : Nat) (kind : ObjKind) : Option Obj :=
  some { s.partObj .rwp size r f n with kind := kind }

/-- Object 4000h + n, of the namespace of NSID n + 1. -/
def Dev.objectNs (s : Dev) (n b : Nat) : Lookup :=
  let k := ObjKind.ns n b
  objRecord 10 b (fun b => match b with
    | 1 => s.settingObj 1 .NS_CFG .NS_CFG_ACTIVE n k
    | 2 => s.settingObj 1 .NS_CFG .NS_CFG_PIT n k
    | 3 => s.settingObj 1 .NS_CFG .NS_CFG_LBAF n k
    | 4 => s.settingObj 1 .NS_CFG .NS_CFG_VOLUME n k
    | 5 => s.settingObj 2 .NS_CFG .NS_CFG_TENANT n k
    | 6 => some { s.partObj .rwp 8 .NS_BASE_LO .NS_BASE_LO_VALUE n with read := le 8 (s.nsBase n), kind := k }
    | 7 => some { s.partObj .rwp 8 .NS_SIZE_LO .NS_SIZE_LO_VALUE n with read := le 8 (s.nsSize n), kind := k }
    | 8 => s.settingObj 1 .NS_CLASS .NS_CLASS_CLASS n k
    | 9 => some { shownObj 1 (s.keySlot keyMedia n).state.code with addr := some (Reg.addr .KEY_STAT) }
    | 10 => some (commandObj .woCustodian (.fixed 1) (some (Reg.addr .KEY_CMD)))
    | _ => none)

/-- Object 5000h + t, of a tenant. -/
def Dev.objectTenant (s : Dev) (t b : Nat) : Lookup :=
  let k := ObjKind.tn t b
  objRecord 10 b (fun b => match b with
    | 1 => s.settingObj 1 .TN_CFG .TN_CFG_ENABLE t k
    | 2 => s.settingObj 1 .TN_CFG .TN_CFG_POL_EN t k
    | 3 => s.settingObj 1 .TN_CFG .TN_CFG_SHP_EN t k
    | 4 => s.settingObj 1 .TN_CFG .TN_CFG_WEIGHT t k
    | 5 => s.settingObj 4 .TN_CIR .TN_CIR_RATE t k
    | 6 => s.settingObj 4 .TN_PIR .TN_PIR_RATE t k
    | 7 => s.settingObj 4 .TN_SRATE .TN_SRATE_RATE t k
    | 8 => s.settingObj 4 .TN_CBS .TN_CBS_BURST t k
    | 9 => s.settingObj 4 .TN_PBS .TN_PBS_BURST t k
    | 10 => s.settingObj 4 .TN_SBURST .TN_SBURST_BURST t k
    | _ => none)

/-- Object 5400h + h, of a host-table entry. -/
def Dev.objectHost (s : Dev) (h b : Nat) : Lookup :=
  let k := ObjKind.host h b
  objRecord 5 b (fun b => match b with
    | 1 => some { right := .rwp, size := .upTo 223, read := (s.nvme.nqns.find h).getD [], kind := .nqn h }
    | 2 => s.settingObj 1 .HOST_CFG .HOST_CFG_ENABLE h k
    | 3 => s.settingObj 1 .HOST_CFG .HOST_CFG_PRIV h k
    | 4 => s.settingObj 1 .HOST_CFG .HOST_CFG_MAX_CTRL h k
    | 5 => s.settingObj 2 .HOST_CFG .HOST_CFG_TENANT h k
    | _ => none)

/-- Object 5800h + v, of a volume. -/
def Dev.objectVol (s : Dev) (v b : Nat) : Lookup :=
  objRecord 0x27 b (fun b => match b with
    | 1 => some (s.partObj .rwp 1 .VOL_CFG .VOL_CFG_HOME v)
    | 2 => some (s.partObj .rwp 1 .VOL_CFG .VOL_CFG_WIDTH v)
    | 3 => some (s.partObj .rwp 1 .VOL_CFG .VOL_CFG_STRIP v)
    | 4 => some (s.partObj .rwp 1 .VOL_CFG .VOL_CFG_MBS v)
    | 5 => some { s.asCommand (s.wordObj .rwp 1 .VOL_CMD v) with read := le 1 0 }
    | 6 => some (s.partObj .ro 1 .VOL_STAT .VOL_STAT_STATE v)
    | 7 => some (s.partObj .ro 1 .VOL_STAT .VOL_STAT_REDUND v)
    | _ =>
      if 0x10 ≤ b ∧ b < 0x28 then
        let m := memberInst v (b - 0x10)
        some { s.wordObj .rwp 1 .VOL_MEMBER m with
          read := le 1 (if s.flag .VOL_MEMBER_USED m then 0x80 + s.fld .VOL_MEMBER_SLOT m else 0), kind := .member v (b - 0x10) }
      else none)

/-- Object 6000h + w, of a window slot. -/
def Dev.objectWin (s : Dev) (w b : Nat) : Lookup :=
  let k := ObjKind.win w b
  objRecord 5 b (fun b => match b with
    | 1 => s.settingObj 2 .WIN_CFG .WIN_CFG_TENANT w k
    | 2 => s.settingObj 1 .WIN_CFG .WIN_CFG_LEN w k
    | 3 => some { s.wordObj .rwp 1 .WIN_CFG w with
        read := le 1 (s.fld .WIN_CFG_ATOMIC w * 4 + s.fld .WIN_CFG_READ w * 2 + s.fld .WIN_CFG_WRITE w), kind := k }
    | 4 => some { s.asCommand (s.wordObj .rwp 1 .WIN_CMD w) with read := le 1 0 }
    | 5 => some (s.partObj .ro 1 .WIN_STAT .WIN_STAT_STATE w)
    | _ => none)

/-- The objects the manual lists. -/
def Dev.objectListed (s : Dev) (i b : Nat) : Lookup :=
  if i < 0x1000 then none
  else if i < 0x2000 then s.objectComm i b
  else if i < 0x2400 then s.objectPage0 i b
  else if i < 0x3000 then s.objectPage4 i b
  else if i < 0x3C00 then s.objectSlot ((i - 0x3000) / 0x80) ((i - 0x3000) % 0x80) i b
  else if i < 0x4000 then none
  else if i < 0x5000 then s.objectNs (i - 0x4000) b
  else if i < 0x5400 then s.objectTenant (i - 0x5000) b
  else if i < 0x5800 then s.objectHost (i - 0x5400) b
  else if i < 0x5840 then s.objectVol (i - 0x5800) b
  else if 0x6000 ≤ i ∧ i < 0x7000 then s.objectWin (i - 0x6000) b
  else none

/-- An object of the description file only: it stands for register number `e.1` of the register tables at instance `e.2` (assumption 22). -/
def Dev.describedObj (s : Dev) (i : Nat) (e : Nat × Nat) : Option Obj :=
  (regTable[e.1]?).map (fun x =>
    let rw := x.parts.any (fun p => p.fld.info.acc == .rw) && !Machine.ownCommand x.reg 0
    { right := if rw then .rwp else .ro, size := .fixed 4, addr := some (s.reachAddr x e.2), read := le 4 (s.fieldsWord x e.2)
      kind := if rw then .word x.reg e.2 else .none, guarded := i / 256 == 0x2D && inCounterBlock x.base })

/-- The object at an index and subindex (14 R545): of the manual's tables or of the description file. -/
def Dev.object (s : Dev) (i b : Nat) : Lookup :=
  match s.objectListed i b with
  | some (some o) => some (some o)
  | r => match (Config.describedObject i b).bind (s.describedObj i) with
    | some o => some (some o)
    | none => r

end Sys2Proof.Machine
end

