-- ==== Sys2Proof/Machine/ObjectWrite.lean ====
section
/-!
DEFINITION. Dictionary reads and writes (14 R545-R559, R568, R569, R581): rights, reach, length, range, and what a write acts on.
-/
namespace Sys2Proof.Machine

/-- Two effects one after the other: what the second sends out follows what the first sent. -/
def andThen (r : Result) (f : State → Result) : Result :=
  match r with
  | .next t =>
    match f t with
    | .next u => .next { u with dev := { u.dev with out := t.dev.out ++ u.dev.out } }
    | x => x
  | x => x

/-- The management region is powered (14: it answers from the moment standby power is present). -/
def Dev.managed (s : Dev) : Bool := s.mode.standby

/-- Server SDO `k` answers (14 R563, R564, 1200h-1203h): Pre-operational or Operational, not in bus-off, not disabled. -/
def Dev.serverUp (s : Dev) (k : Nat) : Bool :=
  s.managed && s.emcyAllowed && decide (s.objNat (0x1200 + k) 1 < 2 ^ 31)

/-- A session exists (14 Session identities): 1-4 with their server SDOs, 100h while the control space is served, 200h-207h while open. -/
def Dev.sessionLive (s : Dev) (n : Nat) : Bool :=
  if n < pf1Session then decide (1 ≤ n) && decide (n ≤ 4) && s.serverUp (n - 1)
  else if n = pf1Session then s.served
  else s.managed && (s.session n).openT1s

/-- The server SDO's transfer of a session (14 R567). -/
def Dev.setSdo (s : Dev) (n : Nat) (x : Option Sdo) : Dev := s.setCan { s.od.can with sdos := s.od.can.sdos.put none n x }

/-- A value read is answered: strings and DOMAINs from an offset on, 1,024 bytes at most (14 Object access message, MG_CTL); over CAN FD, more than 4
bytes begin a segmented or block upload (R566). -/
def Dev.answerRead (s : Dev) (n : Nat) (size : ObjSize) (data : List Byte) (offset : Nat) : Dev :=
  if n < pf1Session then
    if data.length ≤ 4 then s.dictAnswer n abortOk data
    else
      let x := (s.od.can.sdos.get none n).getD {}
      (((s.setSdo n (some { x with write := false, data := data, lastAt := s.now })).setSession n { s.session n with lastAccess := s.now }).emit
        (.sdoFrame (n - 1) (le 4 data.length) false))
  else match size with
    | .fixed _ => s.dictAnswer n abortOk data
    | _ => s.dictAnswer n abortOk ((data.drop offset).take 1024)

/-- A fresh nonce for a session, 16 bytes of the random source; the one before is discarded (14 R550). -/
def Dev.drawNonce (s : Dev) (n : Nat) : List Byte × Dev :=
  let a := s.draw
  let b := a.2.draw
  let v := le 8 a.1 ++ le 8 b.1
  (v, b.2.setSession n { b.2.session n with nonce := some v })

/-- A dictionary read in session `n` (14 R545-R548, R550, R554). -/
def Dev.objectRead (s : Dev) (n i b offset : Nat) : Dev :=
  match s.object i b with
  | none => s.dictAnswer n abortNoObject
  | some none => s.dictAnswer n abortNoSub
  | some (some o) =>
    if o.right.writeOnly then s.dictAnswer n abortWriteOnly
    else if o.guarded && decide (s.sessionLevel n ≠ .custodian) then s.dictDenied n
    else if (o.addr.map s.unreached).getD false then s.dictAnswer n abortState
    else if i = 0x2004 ∧ b = 1 then
      let r := s.drawNonce n
      r.2.answerRead n o.size r.1 0
    else if i = 0x2004 ∧ b = 3 then s.answerRead n o.size (le 1 (s.sessionLevel n).code) 0
    else s.answerRead n o.size o.read offset

/-- A write was applied, or not, with its abort code (14 R556, R557). -/
def Dev.written (s : Dev) (n : Nat) (r : Dev × Nat) : Dev := if r.2 = abortOk then r.1.answerStored s n else r.1.dictAnswer n r.2

/-- A setting takes a value of at most `w` bits by `f`; a wider one is out of range (14 Abort codes used). -/
def Dev.within (s : Dev) (w v : Nat) (f : Dev → Dev × Nat) : Dev × Nat := if v < 2 ^ w then f s else (s, abortRange)

/-- One field written (14 R554, R556): VOL_CFG only in NONE, locked fields not, else the stored value. -/
def Dev.storePart (s : Dev) (r : Reg) (f : Fld) (n v : Nat) : Dev × Nat :=
  s.within f.info.width v (fun s =>
    if r = .VOL_CFG ∧ (s.vol n).st ≠ .none then (s.volRefused n (Reg.addr .VOL_CFG), abortState)
    else if s.fieldLocked f n then (s, if storedValue f n v = s.fld f n then abortOk else abortState)
    else
      let s := if r = .TN_SRATE ∨ r = .TN_SBURST then s.tokensSync n else s
      (s.setFld f n (storedValue f n v), abortOk))

/-- A setting of a namespace (04 R196, R197): 1 ACTIVE, 2-5 the fields of NS_CFG, 6 BASE, 7 SIZE, 8 CLASS. -/
def Dev.nsObject (s : Dev) (n which v : Nat) : Dev × Nat :=
  let idle := fun (s : Dev) (r : Reg) (f : Dev → Dev × Nat) => if s.nsIdle n then f s else (s.frontRefused r, abortState)
  match which with
  | 1 => s.within 1 v (fun s =>
      if v = 0 then (if s.flag .NS_CFG_ACTIVE n then s.nsDeactivate n else s, abortOk)
      else idle s .NS_CFG (fun s =>
        let r := s.nsActivate n
        (r.2, if r.1 then abortOk else abortRefused)))
  | 2 => idle s .NS_CFG (fun s => s.storePart .NS_CFG .NS_CFG_PIT n v)
  | 3 => idle s .NS_CFG (fun s => s.storePart .NS_CFG .NS_CFG_LBAF n v)
  | 4 => idle s .NS_CFG (fun s => s.storePart .NS_CFG .NS_CFG_VOLUME n v)
  | 5 => idle s .NS_CFG (fun s => s.storePart .NS_CFG .NS_CFG_TENANT n v)
  | 6 => idle s .NS_BASE_LO (fun s => s.within (32 + Fld.NS_BASE_HI_VALUE.info.width) v (fun s =>
      ((s.setFld .NS_BASE_LO_VALUE n (v % 2 ^ 32)).setFld .NS_BASE_HI_VALUE n (v / 2 ^ 32), abortOk)))
  | 7 => idle s .NS_SIZE_LO (fun s => s.within (32 + Fld.NS_SIZE_HI_VALUE.info.width) v (fun s =>
      ((s.setFld .NS_SIZE_LO_VALUE n (v % 2 ^ 32)).setFld .NS_SIZE_HI_VALUE n (v / 2 ^ 32), abortOk)))
  | _ => s.storePart .NS_CLASS .NS_CLASS_CLASS n v

/-- A setting of a tenant (05 R200-R202, R210): 1-4 the fields of TN_CFG, 5-10 CIR, PIR, SRATE, CBS, PBS, SBURST. -/
def Dev.tenantObject (s : Dev) (t which v : Nat) : Dev × Nat :=
  let cfg := fun (s : Dev) (enable pol shp : Bool) (weight : Nat) =>
    let r := s.tnCfgWrite t (s.tenantBusy t) enable pol shp weight
    (r.2, if r.1 then abortOk else abortRefused)
  let pol := fun (s : Dev) (k : Nat) =>
    let r := s.policerWrite t k v
    (r.2, if r.1 then abortOk else abortRefused)
  let en := s.flag .TN_CFG_ENABLE t
  let p := s.flag .TN_CFG_POL_EN t
  let h := s.flag .TN_CFG_SHP_EN t
  let w := s.fld .TN_CFG_WEIGHT t
  match which with
  | 1 => s.within 1 v (fun s => cfg s (v == 1) p h w)
  | 2 => s.within 1 v (fun s => cfg s en (v == 1) h w)
  | 3 => s.within 1 v (fun s => cfg s en p (v == 1) w)
  | 4 => s.within 8 v (fun s => cfg s en p h v)
  | 5 => s.within 24 v (fun s => pol s 0)
  | 6 => s.within 24 v (fun s => pol s 1)
  | 7 => s.storePart .TN_SRATE .TN_SRATE_RATE t v
  | 8 => s.within 24 v (fun s => pol s 2)
  | 9 => s.within 24 v (fun s => pol s 3)
  | _ => s.storePart .TN_SBURST .TN_SBURST_BURST t v

/-- A setting of a host-table entry (04 R198): ENABLE, PRIV, MAX_CTRL, TENANT. -/
def Dev.hostObject (s : Dev) (h which v : Nat) : Dev × Nat :=
  let cfg := fun (s : Dev) (enable priv : Bool) (m t : Nat) =>
    let r := s.hostCfgWrite h enable priv m t
    (r.2, if r.1 then abortOk else abortRefused)
  let en := s.flag .HOST_CFG_ENABLE h
  let p := s.flag .HOST_CFG_PRIV h
  let m := s.fld .HOST_CFG_MAX_CTRL h
  let t := s.fld .HOST_CFG_TENANT h
  match which with
  | 2 => s.within 1 v (fun s => cfg s (v == 1) p m t)
  | 3 => s.within 1 v (fun s => cfg s en (v == 1) m t)
  | 4 => s.within 5 v (fun s => cfg s en p v t)
  | _ => s.within 10 v (fun s => cfg s en p m v)

/-- A setting of a window slot (03 R140): TENANT, LEN, the rights; only while FREE. -/
def Dev.winObject (s : Dev) (w which v : Nat) : Dev × Nat :=
  if (s.window w).st ≠ .free ∨ (s.window w).registering then (s.windowRefused w, abortState)
  else match which with
    | 1 => s.storePart .WIN_CFG .WIN_CFG_TENANT w v
    | 2 => s.storePart .WIN_CFG .WIN_CFG_LEN w v
    | _ => s.within 3 v (fun s =>
        (((s.setFld .WIN_CFG_ATOMIC w (v / 4)).setFld .WIN_CFG_READ w (v / 2 % 2)).setFld .WIN_CFG_WRITE w (v % 2), abortOk))

/-- A member of a volume by object (14 5800h, 08 VOL_MEMBER): 0 unused, 80h + slot used; only in NONE. -/
def Dev.memberObject (s : Dev) (v i x : Nat) : Dev × Nat :=
  if x ≠ 0 ∧ ¬(0x80 ≤ x ∧ x < 0x98) then (s, abortRange)
  else if (s.vol v).st ≠ .none then (s.volRefused v (Reg.addr .VOL_MEMBER), abortState)
  else ((s.setFld .VOL_MEMBER_USED (memberInst v i) (x / 0x80)).setFld .VOL_MEMBER_SLOT (memberInst v i) (x % 0x80), abortOk)

/-- TPDO `k` is disabled: bit 31 of its COB-ID (14 R568). -/
def Dev.pdoOff (s : Dev) (k : Nat) : Bool := decide (2 ^ 31 ≤ s.objNat (0x1800 + k) 1)

/-- A mapping or COB-ID of TPDO `k` may change (14 R569). -/
def Dev.pdoOpen (s : Dev) (k : Nat) : Bool :=
  s.od.can.nmt == .preOperational && (s.pdoOff k || s.objNat (0x1A00 + k) == 0)

/-- The bytes a mapping entry maps (index, subindex, bits), where its object is PDO-mappable and of that size (14 R569). -/
def Dev.mapped (s : Dev) (m : Nat) : Option Nat :=
  match s.object (m / 65536) (m / 256 % 256) with
  | some (some o) =>
    match o.size.bytes with
    | some n => if o.pdo && m % 256 == 8 * n then some n else none
    | none => none
  | _ => none

/-- A mapping of `count` entries is complete and no longer than 64 bytes (14 R569). -/
def Dev.mappingFits (s : Dev) (k count : Nat) : Bool :=
  let es := (List.range count).map (fun e => s.mapped (s.objNat (0x1A00 + k) (e + 1)))
  es.all Option.isSome && decide ((es.filterMap id).sum ≤ 64)

/-- The abort code with which an object that stands for no register meets a value (14 R561, R562, R568, R569; BOOLEAN of Data types). -/
def Dev.ownCheck (s : Dev) (i b v : Nat) : Nat :=
  if i = 0x2010 then
    if (b = 1 ∧ 1 ≤ v ∧ v ≤ 127) ∨ (b = 2 ∧ (arbitrationRate v).isSome) ∨ (b = 3 ∧ (v = 1 ∨ v = 2 ∨ v = 5)) then abortOk else abortRange
  else if i = 0x2011 ∧ b = 1 then (if v ≤ 1 then abortOk else abortRange)
  else if 0x1800 ≤ i ∧ i < 0x1808 then
    if b = 1 then (if s.pdoOpen (i - 0x1800) || (s.od.can.nmt == .preOperational && decide (2 ^ 31 ≤ v)) then abortOk else abortState)
    else if b = 2 then (if (1 ≤ v ∧ v ≤ 240) ∨ v = 254 ∨ v = 255 then abortOk else abortRange)
    else abortOk
  else if 0x1A00 ≤ i ∧ i < 0x1A08 then
    let k := i - 0x1A00
    if b = 0 then
      if !s.pdoOpen k && !(s.od.can.nmt == .preOperational && v == 0) then abortState
      else if v ≤ 64 ∧ s.mappingFits k v then abortOk else abortRange
    else if !s.pdoOpen k then abortState
    else if v = 0 ∨ (s.mapped v).isSome then abortOk else abortRange
  else abortOk

/-- An object that stands for no register takes a value, which is stored before the write is acknowledged (14 R557). -/
def Dev.ownObject (s : Dev) (n i b : Nat) (data : List Byte) : Dev :=
  let code := s.ownCheck i b (leNat data)
  if code ≠ abortOk then s.dictAnswer n code
  else
    let t := { s with od := { s.od with objs := s.od.objs.insert (objKey i b) data } }
    t.queueStore { session := some n, object := some (objKey i b, data) }

/-- A host NQN (04 R143): one that another entry holds is refused. The empty string removes it. -/
def Dev.nqnObject (s : Dev) (n h : Nat) (data : List Byte) : Dev :=
  if !data.isEmpty && s.nvme.nqns.any (fun e => e.1 != h && e.2 == data) then (s.frontRefused .HOST_CFG).dictAnswer n abortRefused
  else
    let t := { s with nvme := { s.nvme with nqns := s.nvme.nqns.put [] h data } }
    t.queueStore { session := some n, object := some (objKey (0x5400 + h) 1, data) }

/-- A write of an object that is no command, in session `n` (14 R554-R557). -/
def Dev.objectApply (s : Dev) (n i b : Nat) (o : Obj) (data : List Byte) : Dev :=
  let v := leNat data
  match o.kind with
  | .none => s.dictAnswer n abortOk
  | .word r k => match r.entry with
    | some x => s.written n (s.storeReg x k (s.reachAddr x k) (BitVec.ofNat 32 v))
    | none => s.dictAnswer n abortOk
  | .part r f k => s.written n (s.storePart r f k v)
  | .ns k which => s.written n (s.nsObject k which v)
  | .tn t which => s.written n (s.tenantObject t which v)
  | .host h which => s.written n (s.hostObject h which v)
  | .win w which => s.written n (s.winObject w which v)
  | .member k m => s.written n (s.memberObject k m v)
  | .port p =>
    let w := BitVec.ofNat 32 v
    let t := s.portCfgWrite p w
    let took := t.fld .PORT_CFG_PHY p == bitsOf w 3 2 && t.fld .PORT_CFG_SPLIT p == bitsOf w 1 0 && t.flag .PORT_CFG_ENABLE p == bitOf w 31
    s.written n (t, if took then abortOk else abortRefused)
  | .macIp m which =>
    let took := s.macExists m && !s.flag .MAC_CFG_ENABLE m
    s.written n (s.macIpWrite m which v, if took then abortOk else abortRefused)
  | .meterKey => s.written n (s.within 6 v (fun s => (s.mtrKeyWrite v, abortOk)))
  | .scrub => s.written n
      (((s.setFld .SCRUB_CFG_EN 0 (v / 32768)).setFld .SCRUB_CFG_INTERVAL 0 (storedValue .SCRUB_CFG_INTERVAL 0 (v % 32768))), abortOk)
  | .own => s.ownObject n i b data
  | .nqn h => s.nqnObject n h data
  | .command => s.dictAnswer n abortRange

/-- The proof of a level (14 R549-R551, R577): `data` is the level byte and the tag. N is spent whatever comes of it. -/
def Dev.proof (s : Dev) (n : Nat) (data : List Byte) : Dev :=
  let x := s.session n
  let s := s.setSession n { x with nonce := none }
  let level := leNat (data.take 1)
  let l : Level := if level = 2 then .custodian else .operator
  let port := sessionPort n
  if level ≠ 1 ∧ level ≠ 2 then s.dictAnswer n abortRange
  else match s.cust.cs with
    | none => s.dictAnswer n abortState
    | some cs =>
      let refused := fun (s : Dev) => (s.event .pl 0x3F1 (le 1 port ++ le 4 n)).dictAnswer n abortRefused
      let waiting := match s.od.proofRefused.get none port with
        | some t => !s.expired .pl t sec
        | none => false
      if waiting then refused s
      else
        let k := proofKeyOf l cs
        let good := match x.nonce with
          | some v => data.drop 1 == Config.gmac k (v.take 12) (ascii "LAMCY-PROVE" ++ serialBytes ++ le 4 n ++ le 1 level ++ v)
          | none => false
        if good then
          let y := s.session n
          let y := { y with
            level := if y.level = .custodian then .custodian else l
            key := if port = 1 then some ((Config.sha384 (ascii "LAMCY-YD9624-SESS" ++ k ++ x.nonce.getD [])).take 32) else y.key }
          ((s.setSession n y).event .pl 0x3F0 (le 1 port ++ le 4 n ++ le 1 level)).dictAnswer n abortOk
        else refused { s with od := { s.od with proofRefused := s.od.proofRefused.put none port (some s.now) } }

/-- A session falls to Observer (14 R552). -/
def Dev.sessionFalls (s : Dev) (n : Nat) : Dev := s.setSession n { s.session n with level := .observer }

/-- A write of 0 to 1003h.00 empties the pre-defined error field; another value is out of range (14 Communication objects). -/
def Dev.errorsClear (s : Dev) (n v : Nat) : Dev :=
  if v = 0 then (s.setCan { s.od.can with errors := [] }).dictAnswer n abortOk else s.dictAnswer n abortRange

/-- A write of EP_CFG.PRIV (13; 14 2C00h). -/
def Dev.privObject (s : Dev) (n v : Nat) : Dev := s.written n (s.within 1 v (fun s => (s.setFld .EP_CFG_PRIV 0 v, abortOk)))

/-- A command of pages 10h to 2Ch, by its value (14, 17 R644; the coding of 2009h is the register's bit). -/
def commandPage (n i b : Nat) (enc : Bool) (data : List Byte) (s : State) : Result :=
  let v := leNat data
  let via := Via.dict n
  let w := BitVec.ofNat 32 v
  let range := s.run (·.dictAnswer n abortRange)
  match i with
  | 0x1003 => s.run (·.errorsClear n v)
  | 0x1011 => execRestoreDefaults n w s
  | 0x2001 => match v with
    | 1 => execServe via s
    | 2 => execQuiesce via s
    | 3 => execResume via s
    | 4 => execShutdown via s
    | 5 => execRecommission via s
    | 6 => execStart via s
    | _ => range
  | 0x2002 => execPackageReset via w s
  | 0x2004 => if b = 2 then s.run (·.proof n data) else s.run (fun d => (d.sessionFalls n).dictAnswer n abortOk)
  | 0x2008 => execImageDownload n s
  | 0x2009 => if v = 1 then execActivate via s else range
  | 0x2100 => execFeedCfgWrite via w s
  | 0x2710 =>
    let a := BitVec.ofNat 256 (leNat (data.take 32))
    if b = 1 then execSecretInject n enc a s else execSecretChange n enc a (BitVec.ofNat 256 (leNat (data.drop 32))) s
  | 0x2720 => execAlmCfgWrite via w s
  | 0x2C00 => s.run (·.privObject n v)
  | 0x2C01 => execEpVecWrite via w s
  | _ => range

/-- A command object of a slot, namespace, volume or window, by its value, coded as the bits of its register (assumption 27). -/
def commandEntry (n i b : Nat) (data : List Byte) (s : State) : Result :=
  let v := leNat data
  let via := Via.dict n
  let range := s.run (·.dictAnswer n abortRange)
  if i < 0x3C00 then
    let k := Fin.ofNat 24 ((i - 0x3000) / 0x80)
    if (i - 0x3000) % 0x80 = 3 then execBreakerCurveWrite via k (Fin.ofNat 8 (b - 1)) (BitVec.ofNat 32 v) s
    else match v with
      | 1 => execSlotOn via k 0 s
      | 2 => execSlotOff via k 0 s
      | 4 => execSlotCycle via k 0 s
      | _ => range
  else if i < 0x5000 then
    let kv := KeyVia.media n (Fin.ofNat 4096 (i - 0x4000))
    match v with
    | 1 => execKeyGenerate kv s
    | 2 => execKeyImport kv s
    | 4 => execKeyDestroy kv s
    | _ => range
  else if i < 0x6000 then
    match v with
    | 1 => execVolumeCreate via (Fin.ofNat 64 (i - 0x5800)) s
    | 2 => execVolumeDelete via (Fin.ofNat 64 (i - 0x5800)) s
    | _ => range
  else
    match v with
    | 1 => execWinRegister via (Fin.ofNat 4096 (i - 0x6000)) s
    | 2 => execWinRevoke via (Fin.ofNat 4096 (i - 0x6000)) s
    | _ => range

/-- The writes of this session that now wait to be stored carry the object's name (14 R557, 3F7h). -/
def State.nameStores (s : State) (n key : Nat) : State :=
  let f := fun (x : Storing) => if x.session = some n ∧ x.name = none then { x with name := some key } else x
  { s with dev := { s.dev with fw := { s.dev.fw with storing := s.dev.fw.storing.map f } } }

/-- A session's level is enough for a write. -/
def Level.atLeast (have' need : Level) : Bool := decide (need.code ≤ have'.code)

/-- A dictionary write in session `n` (14 R545-R548, R553-R559, R581-R583); `enc` that it came enciphered over 10BASE-T1S. -/
def State.objectWrite (s : State) (n i b : Nat) (enc : Bool) (offset : Nat) (data : List Byte) : Result :=
  let d := s.dev
  match d.object i b with
  | none => s.run (·.dictAnswer n abortNoObject)
  | some none => s.run (·.dictAnswer n abortNoSub)
  | some (some o) =>
    match o.right.writeLevel with
    | none => s.run (·.dictAnswer n abortReadOnly)
    | some l =>
      if !(d.sessionLevel n).atLeast l then s.run (·.dictDenied n)
      else if (o.addr.map d.unreached).getD false then s.run (·.dictAnswer n abortState)
      else if !o.size.fits offset data.length then s.run (·.dictAnswer n abortLength)
      else
        let whole := if o.size.bytes.isNone && decide (0 < offset) then slice o.read 0 offset ++ data else data
        let r := if o.kind = .command then (if i < 0x3000 then commandPage n i b enc data s else commandEntry n i b data s)
          else s.run (fun d => d.objectApply n i b o whole)
        andThen r (fun t => .next (t.nameStores n (objKey i b)))

end Sys2Proof.Machine
end

