-- ==== Sys2Proof/Machine/Dictionary.lean ====
section
/-!
DEFINITION. The commands of the object dictionary and the management ports (14): accesses, sessions, CANopen, the object access protocol, the PF1
window.
-/
namespace Sys2Proof.Machine

/-- A command of a session that exists; in any other it has no effect (assumption 4). -/
def State.inSession (s : State) (n : Nat) (f : State → Result) : Result := if s.dev.sessionLive n then f s else s.run id

/-- OBJECT_READ (14 R545, R547, R548, R554; 01 R50). -/
def execObjectRead (session : Nat) (index : BitVec 16) (sub : Byte) (s : State) : Result :=
  s.inSession session (fun s => s.run (·.objectRead session index.toNat sub.toNat 0))

/-- OBJECT_WRITE (14 R545-R548, R553-R557, R568, R569). -/
def execObjectWrite (session : Nat) (index : BitVec 16) (sub : Byte) (data : List Byte) (s : State) : Result :=
  s.inSession session (fun s => s.objectWrite session index.toNat sub.toNat false 0 data)

/-- The session that waits for a write's answer still does: one of 10BASE-T1S has not been answered (14 R578). -/
def Dev.awaits (s : Dev) (n : Nat) : Bool := s.sessionLive n && (decide (n < t1sSession) || (s.session n).response.isNone)

/-- PARAMETER_STORE_DONE (14 R557; 17 R656): both copies hold the value and the write is acknowledged; or the store failed: abort 0606_0000h, event
3F7h with index and subindex, and the register keeps the value. The spec gives no index for a write that named none: a free value (assumption 1). -/
def execParameterStoreDone (ok : Bool) (s : State) : Result :=
  s.runIf s.dev.managed (fun d =>
    match d.fw.storing with
    | [] => d
    | x :: xs =>
      let d : Dev := { d with fw := { d.fw with storing := xs } }
      let d := if ok then d.storeNow x
        else
          let r := d.draw
          let k := match x.name, x.object with
            | some k, _ => (k, d)
            | none, some o => (o.1, d)
            | none, none => (r.1 % 2 ^ 24, r.2)
          k.2.event .pl 0x3F7 (le 2 (k.1 / 256) ++ le 1 (k.1 % 256))
      match x.session with
      | some n => if d.awaits n then d.dictAnswer n (if ok then abortOk else abortStore) else d
      | none => d)

/-- NONCE_READ (14 R550): a read of 2004h.01. -/
def execNonceRead (session : Nat) (s : State) : Result :=
  s.inSession session (fun s => s.run (·.objectRead session 0x2004 1 0))

/-- PROOF (14 R549-R551): a write of 2004h.02. -/
def execProof (session : Nat) (level : Byte) (tag : List Byte) (s : State) : Result :=
  s.inSession session (fun s => s.objectWrite session 0x2004 2 false 0 (level :: tag))

/-- SESSION_DROP (14 R552): a write to 2004h.04. -/
def execSessionDrop (session : Nat) (s : State) : Result :=
  s.inSession session (fun s => s.objectWrite session 0x2004 4 false 0 [0])

/-- SESSION_IDLE_TIMEOUT (14 R552; 00 R8): no access for MG_IDLE seconds. -/
def execSessionIdleTimeout (session : Nat) (s : State) : Result :=
  s.runIf (s.dev.managed && decide ((s.dev.session session).level ≠ .observer) &&
    s.dev.expired .pl (s.dev.session session).lastAccess (s.dev.objNat 0x2005 * sec)) (·.sessionFalls session)

/-- ERROR_FIELD_CLEAR (14 1003h, R586). -/
def execErrorFieldClear (session : Nat) (value : Byte) (s : State) : Result :=
  s.inSession session (fun s => s.objectWrite session 0x1003 0 false 0 [value])

/-- A transfer of a server runs, or its write waits to be stored (14 R567). -/
def Dev.sdoRuns (s : Dev) (n : Nat) : Bool := (s.od.can.sdos.find n).isSome || s.fw.storing.any (fun x => x.session == some n)

/-- SDO_INITIATE (14 R566, R567): a running transfer is aborted with 0800_0000h and the new one starts. -/
def execSdoInitiate (server : Fin 4) (request : SdoInit) (s : State) : Result :=
  let n := server.val + 1
  if !s.dev.serverUp server.val then s.run id
  else
    andThen (s.run (fun d => if d.sdoRuns n then (d.forgetAnswer n).dictAnswer n 0x08000000 else d)) (fun s =>
      match request with
      | .upload i b => s.run (fun d => (d.setSdo n (some { index := i.toNat, sub := b.toNat, lastAt := d.now })).objectRead n i.toNat b.toNat 0)
      | .download i b data true => s.objectWrite n i.toNat b.toNat false 0 data
      | .download i b data false => s.run (fun d =>
          (d.setSdo n (some { write := true, index := i.toNat, sub := b.toNat, data := data, lastAt := d.now })).emit (.sdoAck server.val)))

/-- SDO_SEGMENT (14 R566): segments of 7 bytes are sent or taken; with the last a download's value is written. A wrong frame, or one with no
transfer, aborts with 0504_0001h. -/
def execSdoSegment (server : Fin 4) (frame : SdoFrame) (s : State) : Result :=
  let n := server.val + 1
  let bad := s.run (·.dictAnswer n 0x05040001)
  if !s.dev.serverUp server.val then s.run id
  else match s.dev.od.can.sdos.get none n, frame with
    | some x, .upload count ok =>
      if x.write || !ok || count == 0 then bad
      else s.run (fun d =>
        let rest := x.data.drop (7 * count)
        (d.setSdo n (if rest.isEmpty then none else some { x with data := rest, lastAt := d.now })).emit
          (.sdoFrame server.val (x.data.take (7 * count)) rest.isEmpty))
    | some x, .download data last ok =>
      if !x.write || !ok then bad
      else if last then
        andThen (s.run (·.setSdo n none)) (fun s => s.objectWrite n x.index x.sub false 0 (x.data ++ data))
      else s.run (fun d => (d.setSdo n (some { x with data := x.data ++ data, lastAt := d.now })).emit (.sdoAck server.val))
    | none, _ => bad

/-- SDO_TIMEOUT (14 R567): no frame from the client for 1 s. -/
def execSdoTimeout (server : Fin 4) (s : State) : Result :=
  let n := server.val + 1
  s.run (fun d => match d.od.can.sdos.get none n with
    | some x =>
      if !d.expired .pl x.lastAt sec then d
      else if d.serverUp server.val then d.dictAnswer n 0x05040000 else d.setSdo n none
    | none => d)

/-- The slave acts on an NMT command: to all nodes (0) or to its own (14 R564). -/
def Dev.nmtHeard (s : Dev) (node : Nat) : Bool := s.managed && !s.od.can.busOff && (node == 0 || node == s.nodeId)

/-- The NMT state changes: event 3F5h (14 R564). Entering Operational starts the TPDOs' counts and timers. -/
def Dev.nmtTo (s : Dev) (x : Nmt) : Dev :=
  if s.od.can.nmt = x then s
  else
    let c : Can := { s.od.can with nmt := x }
    let c : Can := if x = .operational then
        { c with syncs := [], pdoAt := (List.range 8).foldl (fun (t : Table Nat) k => t.put 0 k s.now) [] }
      else c
    (s.setCan c).event .pl 0x3F5 (le 1 x.code)

/-- NMT_START_REMOTE_NODE (14 R564). -/
def execNmtStartRemoteNode (node : Fin 128) (s : State) : Result := s.runIf (s.dev.nmtHeard node.val) (·.nmtTo .operational)

/-- NMT_STOP_REMOTE_NODE (14 R564). -/
def execNmtStopRemoteNode (node : Fin 128) (s : State) : Result := s.runIf (s.dev.nmtHeard node.val) (·.nmtTo .stopped)

/-- NMT_ENTER_PRE_OPERATIONAL (14 R564). -/
def execNmtEnterPreOperational (node : Fin 128) (s : State) : Result := s.runIf (s.dev.nmtHeard node.val) (·.nmtTo .preOperational)

/-- The reset of communication (14 R552, R562, R564, R565): Initialisation, the communication objects from the parameter store, the CAN sessions to
Observer, then Pre-operational. -/
def Dev.communicationReset (s : Dev) : Dev :=
  let isComm := fun (e : Nat × List Byte) => decide (0x100000 ≤ e.1) && decide (e.1 < 0x200000)
  let s := s.nmtTo .initialisation
  let kept := s.od.objs.filter (fun e => !isComm e)
  let objs := (s.fw.objParams.filter isComm).foldl (fun (t : Table (List Byte)) e => t.insert e.1 e.2) kept
  let s := [1, 2, 3, 4].foldl (fun (s : Dev) n => s.setSession n {}) { s with od := { s.od with objs := objs } }
  (([1, 2, 3, 4].foldl (fun (s : Dev) n => s.forgetAnswer n) s).setCan { s.od.can with sdos := [], syncs := [] }).canStart

/-- NMT_RESET_NODE (14 R565): executed as Reset Communication. -/
def execNmtResetNode (node : Fin 128) (s : State) : Result := s.runIf (s.dev.nmtHeard node.val) (·.communicationReset)

/-- NMT_RESET_COMMUNICATION (14 R565). -/
def execNmtResetCommunication (node : Fin 128) (s : State) : Result := s.runIf (s.dev.nmtHeard node.val) (·.communicationReset)

/-- Lengths of FD frames (14 R570). -/
def fdLengths : List Nat := [8, 12, 16, 20, 24, 32, 48, 64]

/-- TPDOs are sent: in Operational, not in bus-off (14 R563, R564). -/
def Dev.pdosRun (s : Dev) : Bool := s.managed && !s.od.can.busOff && s.od.can.nmt == .operational

/-- A mapped value of `n` bytes; one that cannot be read now is a free value (assumption 1). -/
def Dev.mappedValue (s : Dev) (m : Nat) : List Byte × Dev :=
  match s.object (m / 65536) (m / 256 % 256) with
  | some (some o) =>
    if (o.addr.map s.unreached).getD false then
      let r := s.draw
      (le (m % 256 / 8) r.1, r.2)
    else (o.read, s)
  | _ =>
    let r := s.draw
    (le (m % 256 / 8) r.1, r.2)

/-- TPDO `k` is sent with its mapped values, padded with zeros to the next FD length (14 R568, R570). -/
def Dev.sendPdo (s : Dev) (k : Nat) : Dev :=
  let es := (List.range (s.objNat (0x1A00 + k))).map (fun e => s.objNat (0x1A00 + k) (e + 1))
  if es.isEmpty then s
  else
    let r := es.foldl (fun (a : List Byte × Dev) m =>
      let v := a.2.mappedValue m
      (a.1 ++ v.1, v.2)) ([], s)
    let len := (fdLengths.find? (fun n => decide (r.1.length ≤ n))).getD 64
    let s := r.2
    let c := s.od.can
    (s.setCan { c with pdoAt := c.pdoAt.put 0 k s.now }).emit (.tpdo (s.objNat (0x1800 + k) 1 % 2048) (slice r.1 0 len))

/-- A SYNC counts for a synchronous TPDO, which is sent on every n-th (14 R568). -/
def Dev.pdoSync (s : Dev) (k : Nat) : Dev :=
  let n := s.objNat (0x1800 + k) 2
  if s.pdoOff k ∨ n = 0 ∨ 240 < n then s
  else
    let c := s.od.can
    let x := c.syncs.get 0 k + 1
    if n ≤ x then (s.setCan { c with syncs := c.syncs.put 0 k 0 }).sendPdo k else s.setCan { c with syncs := c.syncs.put 0 k x }

/-- SYNC_RECEIVE (14 R568, R570). -/
def execSyncReceive (s : State) : Result :=
  s.runIf s.dev.pdosRun (fun d => (List.range 8).foldl (fun (d : Dev) k => d.pdoSync k) d)

/-- TPDO_EVENT_TIMER (14 R568, R570): types 254 and 255, the event timer in ms, the inhibit time in 100 µs. -/
def execTpdoEventTimer (pdo : Fin 8) (s : State) : Result :=
  let k := pdo.val
  let d := s.dev
  let t := d.objNat (0x1800 + k) 5
  let at' := d.od.can.pdoAt.get 0 k
  s.runIf (d.pdosRun && !d.pdoOff k && decide (254 ≤ d.objNat (0x1800 + k) 2) && t != 0 && d.expired .pl at' (t * ms) &&
    d.expired .pl at' (d.objNat (0x1800 + k) 3 * 100 * us)) (·.sendPdo k)

/-- EMCY_INHIBIT_END (14 R572): the inhibit time has ended and the oldest waiting message is sent. -/
def execEmcyInhibitEnd (s : State) : Result :=
  s.runIf (s.dev.managed && s.dev.emcyAllowed && s.dev.emcyFree) (fun d =>
    match d.od.can.emcys with
    | [] => d
    | m :: ms => (d.setCan { d.od.can with emcys := ms, emcyAt := some d.now }).emit (.emcy m.code m.reg m.id m.slot))

/-- PRODUCER_HEARTBEAT (14 R573): every 1017h ms, 0 for none. -/
def execProducerHeartbeat (s : State) : Result :=
  let d := s.dev
  let t := d.objNat 0x1017
  s.runIf (d.managed && !d.od.can.busOff && t != 0 && decide (d.od.can.hbAt + t * ms ≤ d.now)) (fun d =>
    (d.setCan { d.od.can with hbAt := d.now }).emit (.canHeartbeat d.nodeId d.od.can.nmt.code))

/-- CAN_BUS_OFF (14 R563): the port enters bus-off (`off`) or error passive: event 3F6h. -/
def execCanBusOff (off : Bool) (s : State) : Result :=
  s.runIf (s.dev.managed && !s.dev.od.can.busOff) (fun d =>
    (if off then d.setCan { d.od.can with busOff := true } else d).event .pl 0x3F6)

/-- CAN_BUS_OFF_RECOVERY (14 R563): after 128 occurrences of 11 recessive bits. -/
def execCanBusOffRecovery (s : State) : Result :=
  s.runIf s.dev.od.can.busOff (fun d => d.setCan { d.od.can with busOff := false })

/-- Numbers of the sessions of 10BASE-T1S, at most 8 (14 R576; assumption 8). -/
def t1sNumbers : List Nat := (List.range 8).map (fun k => t1sSession + k)

/-- OAP_OPEN (14 R576): an Observer session and its nonce, or STATUS 0504_0005h while 8 exist. -/
def execOapOpen (seq : Word) (s : State) : Result :=
  s.runIf s.dev.managed (fun d =>
    match t1sNumbers.find? (fun n => !(d.session n).openT1s) with
    | none => d.emit (.oapResponse 0 (oapHeader 0x83 0 seq.toNat 0 0 0 0 0 0x05040005))
    | some n =>
      let d := d.setSession n { openT1s := true, seq := seq.toNat, req := { op := 3 }, lastAccess := d.now }
      let r := d.drawNonce n
      let d := r.2
      (d.setSession n { d.session n with response := some (abortOk, r.1) }).oapRespond n)

/-- What a request carries, its tag checked once the session has a key, deciphered with ENC; none where it is discarded (14 R577, R579). -/
def oapContent (m : OapMsg) (op : Nat) (key : Option (List Byte)) : Option (List Byte) :=
  let n := m.session.toNat
  match key with
  | none => some m.data
  | some k =>
    if !m.tagged then none
    else
      let head := oapHeader op n m.seq.toNat m.index.toNat m.sub.toNat (2 + m.enc.toNat) m.offset.toNat m.data.length 0
      let iv := oapIv n m.seq.toNat 0
      if m.enc then Config.gcmOpen k iv head m.data m.tag
      else if m.tag = Config.gmac k iv (head ++ m.data) then some m.data else none

/-- What the response to a request repeats of it. -/
def oapReqOf (m : OapMsg) (op : Nat) : OapReq :=
  { op := op, index := m.index.toNat, sub := m.sub.toNat, offset := m.offset.toNat, enc := m.enc }

/-- A request of an open session (14 R577-R579): discarded where its tag fails; the next SEQ is executed by `f` unless the last is still in
execution, the last SEQ gets its stored response, any other 0504_0001h. ENC needs Custodian. A session that is not open answers 0504_0005h. -/
def State.oapRequest (s : State) (m : OapMsg) (op : Nat) (f : List Byte → State → Result) : Result :=
  let n := m.session.toNat
  let x := s.dev.session n
  if !s.dev.managed then s.run id
  else if !(t1sNumbers.contains n && x.openT1s) then
    s.run (·.emit (.oapResponse n (oapHeader (op + 0x80) n m.seq.toNat m.index.toNat m.sub.toNat 0 m.offset.toNat 0 0x05040005)))
  else match oapContent m op x.key with
    | none => s.run (fun d => { d with od := { d.od with tagFails := d.od.tagFails + 1 } })
    | some data =>
      if m.seq.toNat = x.seq then s.run (·.oapRespond n)
      else if m.seq.toNat = (x.seq + 1) % 2 ^ 32 then
        if x.response.isNone then s.run id
        else andThen (s.run (·.setSession n { x with seq := m.seq.toNat, req := oapReqOf m op, response := none })) (fun s =>
          if m.enc && decide (x.level ≠ .custodian) then s.run (·.dictAnswer n 0x08000021) else f data s)
      else s.run (fun d =>
        ((d.setSession n { x with seq := m.seq.toNat, req := oapReqOf m op, response := some (0x05040001, []) }).oapRespond n).setSession n x)

/-- OAP_READ (14 R577-R579). -/
def execOapRead (m : OapMsg) (s : State) : Result :=
  s.oapRequest m 1 (fun _ s => s.run (·.objectRead m.session.toNat m.index.toNat m.sub.toNat m.offset.toNat))

/-- OAP_WRITE (14 R577-R579, R583). -/
def execOapWrite (m : OapMsg) (s : State) : Result :=
  s.oapRequest m 2 (fun data s => s.objectWrite m.session.toNat m.index.toNat m.sub.toNat m.enc m.offset.toNat data)

/-- OAP_PROVE (14 R551, R576, R577): a write of 2004h.02. -/
def execOapProve (m : OapMsg) (s : State) : Result :=
  s.oapRequest m 4 (fun data s => s.objectWrite m.session.toNat 0x2004 2 m.enc 0 data)

/-- OAP_CLOSE (14 R552): the session is answered and ends. -/
def execOapClose (m : OapMsg) (s : State) : Result :=
  s.oapRequest m 5 (fun _ s => s.run (fun d => (d.dictAnswer m.session.toNat abortOk).setSession m.session.toNat {}))

/-- MGMT_ADDRESS_FRAME (14 R575): an ARP request, or an ICMP echo request, is answered. -/
def execMgmtAddressFrame (echo : Bool) (s : State) : Result := s.runIf s.dev.managed (·.emit (.mgmtAnswer echo))

/-- The value bytes of the window's data registers (14 MG_DATA). -/
def Dev.windowData (s : Dev) (n : Nat) : List Byte := (List.range n).map (fun k => BitVec.ofNat 8 (s.fld .MG_DATA_DATA (k / 4) / 256 ^ (k % 4)))

/-- DICTIONARY_WINDOW_GO (14 MG_CTL, R553, R580): a write of MG_CTL with GO set starts the access that MG_OBJ and MG_OFFSET name; while one runs
it is discarded with event 3F3h. -/
def execDictionaryWindowGo (value : Word) (s : State) : Result :=
  let d := s.dev
  if !d.served || !bitOf value 31 then s.run id
  else if d.windowBusy then s.run (·.event .pl 0x3F3)
  else
    andThen (s.run (fun d => ((d.setFld .MG_CTL_WRITE 0 (bitsOf value 30 30)).setFld .MG_CTL_LENGTH 0 (bitsOf value 10 0)).setFld .MG_CTL_GO 0 1)) (fun s =>
      let i := d.fld .MG_OBJ_INDEX
      let b := d.fld .MG_OBJ_SUB
      let off := d.fld .MG_OFFSET_OFFSET
      if bitOf value 30 then s.objectWrite pf1Session i b false off (d.windowData (min 1024 (bitsOf value 10 0)))
      else s.run (·.objectRead pf1Session i b off))

end Sys2Proof.Machine
end

