-- ==== Sys2Proof/Machine/Windows.lean ====
section
/-!
DEFINITION. The aggregated events at the end of each 1 s window (03 R138, 05 R243, 06 R266, 07 R304, R308, 08 R350, 09 R396, 10 R442, 12 R508, 13 R512, 14
R587, 15 R596, R612).
-/
namespace Sys2Proof.Machine

/-- Key of the value that a persistent count had at the end of the last window. -/
def markSeen (k : Nat) : Nat := 10000000 + k

/-- What a count has advanced by in this window; its value is kept for the next. -/
def Dev.advanced (s : Dev) (key now : Nat) : Nat × Dev :=
  ((now + 2 ^ 64 - s.mark (markSeen key)) % 2 ^ 64, { s with marks := s.marks.put 0 (markSeen key) now })

/-- What a counter has advanced by in this window. -/
def Dev.counterAdvanced (s : Dev) (c : Ctr) (i : Nat := 0) : Nat × Dev := s.advanced (c.key i) (s.ctr c i)

/-- A window's count is taken and starts anew. -/
def Dev.takeMark (s : Dev) (k : Nat) : Nat × Dev := (s.mark k, { s with marks := s.marks.put 0 k 0 })

/-- An aggregated event where its count is not zero: `pre` and then the count. -/
def Dev.aggregated (s : Dev) (die : Die) (id : Nat) (pre : List Byte) (n : Nat) : Dev :=
  s.eventIf (decide (0 < n)) die id (pre ++ leCount n)

/-- The aggregated event of a counter. -/
def Dev.aggregateCounter (s : Dev) (die : Die) (id : Nat) (c : Ctr) (i : Nat := 0) : Dev :=
  let r := s.counterAdvanced c i
  r.2.aggregated die id [] r.1

/-- The aggregated event of a window's count. -/
def Dev.aggregateMark (s : Dev) (die : Die) (id : Nat) (pre : List Byte) (k : Nat) : Dev :=
  let r := s.takeMark k
  r.2.aggregated die id pre r.1

/-- Receive drops of the transport (03 18Bh): a bitmap of the counters by their k, and the count. -/
def Dev.receiveDrops (s : Dev) : Dev :=
  let a := s.counterAdvanced .RD_RX_ICRC_ERR
  let b := a.2.counterAdvanced .RD_RX_NO_QP
  let c := b.2.counterAdvanced .RD_RX_OOS_NAK
  let bits := (if a.1 = 0 then 0 else 2) + (if b.1 = 0 then 0 else 4) + (if c.1 = 0 then 0 else 32)
  c.2.aggregated .ln 0x18B (le 2 bits) (a.1 + b.1 + c.1)

/-- The switch core's (06 2C0h, 2C2h, 2C5h): the inputs of dropped frames and the longest wait start anew. -/
def Dev.switchWindow (s : Dev) : Dev :=
  let a := s.counterAdvanced .SW_DROP_FRAMES
  let s := a.2.eventIf (decide (0 < a.1)) .ln 0x2C0 (leCount a.1 ++ le 2 (bitmap s.sw.dropInputs))
  let s := s.eventIf (decide (0 < s.sw.waitCount)) .ln 0x2C2 (leCount s.sw.waitCount ++ leCount s.sw.waitLongest)
  ({ s with sw := { s.sw with dropInputs := [], waitCount := 0, waitLongest := 0 } } : Dev).aggregateCounter .ln 0x2C5 .SW_ECC_CORR

/-- The tenants' (05 282h, 283h): tenants with red drops and the packets. -/
def Dev.tenantWindow (s : Dev) : Dev :=
  let a := s.counterAdvanced .TN_POL_RED
  let s := a.2.aggregated .ln 0x282 (leCount s.ten.redTenants.length) a.1
  ({ s with ten := { s.ten with redTenants := [] } } : Dev).aggregateCounter .ln 0x283 .TN_PROMOTIONS

/-- The front end's (04 20Ah). -/
def Dev.frontWindow (s : Dev) : Dev :=
  let s' := s.aggregated .ln 0x20A [] s.nvme.invalids
  { s' with nvme := { s'.nvme with invalids := 0 } }

/-- A pier's (08 344h; 09 35Bh, 35Eh, 35Fh). -/
def Dev.pierWindow (s : Dev) (p : Nat) : Dev :=
  let s := s.aggregateMark (pierDie p) 0x344 [] (markStageWait p)
  let s := s.aggregateCounter (pierDie p) 0x35B .LDG_ECC_CORR p
  (s.aggregateMark (pierDie p) 0x35E [] (markJournalWait p)).aggregateMark (pierDie p) 0x35F [] (markRepaired p)

/-- A volume's, on its pier (08 34Ah, by member; 10 36Dh). -/
def Dev.volumeWindow (s : Dev) (v : Nat) : Dev :=
  let die := pierDie (s.volPier v)
  let s := (List.range 24).foldl (fun (s : Dev) m => s.aggregateMark die 0x34A (le 1 v ++ le 1 m) (markMedia v m)) s
  s.aggregateMark die 0x36D (le 1 v) (markScrub v)

/-- Plinth's (14 3F2h, 3F4h; 15 3F8h, 3F9h, 3FAh). -/
def Dev.plinthWindow (s : Dev) : Dev :=
  let a := s.advanced 8 s.od.tagFails
  let s := a.2.aggregated .pl 0x3F2 [] a.1
  let b := s.advanced 7 s.od.can.emcyLost
  let s := b.2.aggregated .pl 0x3F4 [] b.1
  let drops := (List.range 5).map (fun v => s.evr.windowDrops.get 0 v)
  let s := s.eventIf (drops.any (fun n => n != 0)) .pl 0x3F8 (drops.flatMap leCount)
  let s := s.eventIf (decide (0 < s.evr.missed)) .pl 0x3F9 (leCount s.evr.missed ++ le 1 (s.fld .CNT_CTL_STACK))
  let s := s.eventIf (decide (0 < s.evr.refused)) .pl 0x3FA (le 8 s.evr.refusedAddr ++ leCount s.evr.refused)
  { s with evr := { s.evr with windowDrops := [], missed := 0, refused := 0, refusedAddr := 0 } }

/-- The windows of the blocks on the piers and Lintel. -/
def Dev.dieWindows (s : Dev) : Dev :=
  let s := (s.receiveDrops.aggregateCounter .ln 0x186 .RD_RNR_SENT).frontWindow
  let s := s.tenantWindow.switchWindow
  let s := (List.range 2).foldl (fun (s : Dev) k => s.aggregateMark .ln 0x306 (le 1 k) (markBondTag k)) s
  let s := s.aggregateCounter .ln 0x307 .CX_OFL_ERR
  let s := [0, 1].foldl (fun (s : Dev) p => s.pierWindow p) s
  let s := s.aggregateMark (pierDie s.ledgerPier) 0x351 [] markOneCopy
  let s := (List.range 64).foldl (fun (s : Dev) v => s.volumeWindow v) s
  let s := (List.range 128).foldl (fun (s : Dev) n => s.aggregateMark .ln 0x3C4 (le 1 n) (markOverrun n)) s
  let s := (s.aggregateCounter .ln 0x3E5 .EP_CPL_TIMEOUT).aggregateCounter .ln 0x3E8 .EP_CORR_ERR
  (List.range 16).foldl (fun (s : Dev) w => s.aggregateMark .ln 0x3E6 (le 1 w) (markAperture w)) s

/-- AGGREGATION_WINDOW_END: at a multiple of 1 s of device time, every count that advanced in the window gives its event. -/
def execAggregationWindowEnd (s : State) : Result :=
  s.runIf (s.dev.managed && s.dev.now % sec == 0) (fun d => (if d.mode.diesUp then d.dieWindows else d).plinthWindow)

end Sys2Proof.Machine
end

