-- ==== Sys2Proof/Machine/Dispatch.lean ====
section
/-!
DEFINITION. The dispatch: one arm per command, each one call of its meaning.
-/
namespace Sys2Proof.Machine

def exec (i : Instr) (s : State) : Host.Outcome State Fault Refusal :=
  match i with
  | .registerWrite req addr value => Sys2Proof.Machine.execRegisterWrite req addr value s
  | .lowWordRead req addr => Sys2Proof.Machine.execLowWordRead req addr s
  | .csUnmappedAccess req addr write => Sys2Proof.Machine.execCsUnmappedAccess req addr write s
  | .csIsolatedAccess req addr write => Sys2Proof.Machine.execCsIsolatedAccess req addr write s
  | .csMisalignedAccess req addr write => Sys2Proof.Machine.execCsMisalignedAccess req addr write s
  | .clusterCompletionTimeout region cluster channels => Sys2Proof.Machine.execClusterCompletionTimeout region cluster channels s
  | .clusterResetComplete region cluster => Sys2Proof.Machine.execClusterResetComplete region cluster s
  | .clusterResetGo req region cluster channels => Sys2Proof.Machine.execClusterResetGo req region cluster channels s
  | .codeViolationReport region => Sys2Proof.Machine.execCodeViolationReport region s
  | .isolate req region => Sys2Proof.Machine.execIsolate req region s
  | .release req region => Sys2Proof.Machine.execRelease req region s
  | .releaseSelfTestEnd region tokensOk paceCount trained blocks => Sys2Proof.Machine.execReleaseSelfTestEnd region tokensOk paceCount trained blocks s
  | .seamFlitReceive seam crcOk => Sys2Proof.Machine.execSeamFlitReceive seam crcOk s
  | .seam5Retrain => Sys2Proof.Machine.execSeam5Retrain s
  | .seamUp seam => Sys2Proof.Machine.execSeamUp seam s
  | .paceWindowEnd region count => Sys2Proof.Machine.execPaceWindowEnd region count s
  | .paceRead req region => Sys2Proof.Machine.execPaceRead req region s
  | .seamStatRead req seam => Sys2Proof.Machine.execSeamStatRead req seam s
  | .governorPass => Sys2Proof.Machine.execGovernorPass s
  | .pmbusTransactionEnd rail answer => Sys2Proof.Machine.execPmbusTransactionEnd rail answer s
  | .pmbusRetry rail => Sys2Proof.Machine.execPmbusRetry rail s
  | .timebaseAlignment driftPE driftPW driftLN => Sys2Proof.Machine.execTimebaseAlignment driftPE driftPW driftLN s
  | .portCfgWrite req port value => Sys2Proof.Machine.execPortCfgWrite req port value s
  | .macEnable req mac value => Sys2Proof.Machine.execMacEnable req mac value s
  | .macIpWrite req mac which value => Sys2Proof.Machine.execMacIpWrite req mac which value s
  | .linkUp mac lockedNs eeeAble partnerEee twMinUs => Sys2Proof.Machine.execLinkUp mac lockedNs eeeAble partnerEee twMinUs s
  | .linkDown mac => Sys2Proof.Machine.execLinkDown mac s
  | .duplicateAddressDetectionEnd mac globalDup linkLocalDup => Sys2Proof.Machine.execDuplicateAddressDetectionEnd mac globalDup linkLocalDup s
  | .frameReceive mac frame => Sys2Proof.Machine.execFrameReceive mac frame s
  | .addressResolutionFrame mac ask => Sys2Proof.Machine.execAddressResolutionFrame mac ask s
  | .aggregationWindowEnd => Sys2Proof.Machine.execAggregationWindowEnd s
  | .transmissionSelection mac => Sys2Proof.Machine.execTransmissionSelection mac s
  | .frameTransmitEnd mac => Sys2Proof.Machine.execFrameTransmitEnd mac s
  | .cbsCreditZero mac queue => Sys2Proof.Machine.execCbsCreditZero mac queue s
  | .cbsSlopeWrite req mac queue value => Sys2Proof.Machine.execCbsSlopeWrite req mac queue value s
  | .lpiEnter mac => Sys2Proof.Machine.execLpiEnter mac s
  | .lpiWake mac queue bytes => Sys2Proof.Machine.execLpiWake mac queue bytes s
  | .lpiWakeEnd mac => Sys2Proof.Machine.execLpiWakeEnd mac s
  | .lldpEeeTlvReceive mac receiveTw transmitTw => Sys2Proof.Machine.execLldpEeeTlvReceive mac receiveTw transmitTw s
  | .lldpTransmit mac => Sys2Proof.Machine.execLldpTransmit mac s
  | .ptpAnnounceReceive mac message => Sys2Proof.Machine.execPtpAnnounceReceive mac message s
  | .ptpEventReceive mac message sixteenth => Sys2Proof.Machine.execPtpEventReceive mac message sixteenth s
  | .ptpDelayReqSend sixteenth => Sys2Proof.Machine.execPtpDelayReqSend sixteenth s
  | .ptpAnnounceTimeout intervalNs => Sys2Proof.Machine.execPtpAnnounceTimeout intervalNs s
  | .ptpServoUpdate trimPpb locked => Sys2Proof.Machine.execPtpServoUpdate trimPpb locked s
  | .rocePacketReceive p => Sys2Proof.Machine.execRocePacketReceive p s
  | .sendReceive p => Sys2Proof.Machine.execSendReceive p s
  | .rdmaWriteReceive p => Sys2Proof.Machine.execRdmaWriteReceive p s
  | .rdmaReadRequestReceive p => Sys2Proof.Machine.execRdmaReadRequestReceive p s
  | .flushReceive p => Sys2Proof.Machine.execFlushReceive p s
  | .flushDurable qp ledgerOk => Sys2Proof.Machine.execFlushDurable qp ledgerOk s
  | .atomicWriteReceive p => Sys2Proof.Machine.execAtomicWriteReceive p s
  | .ackReceive p => Sys2Proof.Machine.execAckReceive p s
  | .nakReceive p => Sys2Proof.Machine.execNakReceive p s
  | .rnrNakReceive p => Sys2Proof.Machine.execRnrNakReceive p s
  | .readResponseReceive p => Sys2Proof.Machine.execReadResponseReceive p s
  | .cmReqReceive req => Sys2Proof.Machine.execCmReqReceive req s
  | .cmRtuReceive qp => Sys2Proof.Machine.execCmRtuReceive qp s
  | .cmDreqReceive qp => Sys2Proof.Machine.execCmDreqReceive qp s
  | .cmResponseTimeout qp => Sys2Proof.Machine.execCmResponseTimeout qp s
  | .drainTimeout qp => Sys2Proof.Machine.execDrainTimeout qp s
  | .errorFlushDone qp => Sys2Proof.Machine.execErrorFlushDone qp s
  | .quietTimeout qp => Sys2Proof.Machine.execQuietTimeout qp s
  | .localAckTimeout qp => Sys2Proof.Machine.execLocalAckTimeout qp s
  | .rnrWaitEnd qp => Sys2Proof.Machine.execRnrWaitEnd qp s
  | .ackCoalesceTimeout qp => Sys2Proof.Machine.execAckCoalesceTimeout qp s
  | .rdmaReadIssue cmd => Sys2Proof.Machine.execRdmaReadIssue cmd s
  | .rdmaWriteIssue cmd => Sys2Proof.Machine.execRdmaWriteIssue cmd s
  | .sendIssue qp => Sys2Proof.Machine.execSendIssue qp s
  | .creditProbeSend qp => Sys2Proof.Machine.execCreditProbeSend qp s
  | .winCfgWrite via slot value => Sys2Proof.Machine.execWinCfgWrite via slot value s
  | .winRegister via slot => Sys2Proof.Machine.execWinRegister via slot s
  | .winRegisterComplete slot => Sys2Proof.Machine.execWinRegisterComplete slot s
  | .winRevoke via slot => Sys2Proof.Machine.execWinRevoke via slot s
  | .revocationComplete slot => Sys2Proof.Machine.execRevocationComplete slot s
  | .revokeTimeout slot => Sys2Proof.Machine.execRevokeTimeout slot s
  | .connect qp cid c => Sys2Proof.Machine.execConnect qp cid c s
  | .propertySet src cid offset value => Sys2Proof.Machine.execPropertySet src cid offset value s
  | .propertyGet src cid offset => Sys2Proof.Machine.execPropertyGet src cid offset s
  | .controllerReady ctrl => Sys2Proof.Machine.execControllerReady ctrl s
  | .controllerShutdownDone ctrl => Sys2Proof.Machine.execControllerShutdownDone ctrl s
  | .disconnect qp cid => Sys2Proof.Machine.execDisconnect qp cid s
  | .getLogPage src cid buf lid rae => Sys2Proof.Machine.execGetLogPage src cid buf lid rae s
  | .identify src cid buf cns nsid => Sys2Proof.Machine.execIdentify src cid buf cns nsid s
  | .abort src cid sqid acid => Sys2Proof.Machine.execAbort src cid sqid acid s
  | .setFeatures src cid fid save nsid dw11 data => Sys2Proof.Machine.execSetFeatures src cid fid save nsid dw11 data s
  | .setPowerState src cid save ps => Sys2Proof.Machine.execSetPowerState src cid save ps s
  | .powerStateEntryEnd => Sys2Proof.Machine.execPowerStateEntryEnd s
  | .getFeatures src cid fid sel nsid => Sys2Proof.Machine.execGetFeatures src cid fid sel nsid s
  | .asyncEventRequest src cid => Sys2Proof.Machine.execAsyncEventRequest src cid s
  | .keepAlive src cid => Sys2Proof.Machine.execKeepAlive src cid s
  | .keepAliveExpiry ctrl => Sys2Proof.Machine.execKeepAliveExpiry ctrl s
  | .adminInvalidOpcode src cid opcode => Sys2Proof.Machine.execAdminInvalidOpcode src cid opcode s
  | .ioRead src cid a => Sys2Proof.Machine.execIoRead src cid a s
  | .ioWrite src cid a data => Sys2Proof.Machine.execIoWrite src cid a data s
  | .ioCompare src cid a data => Sys2Proof.Machine.execIoCompare src cid a data s
  | .ioWriteZeroes src cid a => Sys2Proof.Machine.execIoWriteZeroes src cid a s
  | .ioDatasetManagement src cid a ad ranges => Sys2Proof.Machine.execIoDatasetManagement src cid a ad ranges s
  | .ioFlush src cid a => Sys2Proof.Machine.execIoFlush src cid a s
  | .reservationRegister src cid a r => Sys2Proof.Machine.execReservationRegister src cid a r s
  | .reservationReport src cid a eds => Sys2Proof.Machine.execReservationReport src cid a eds s
  | .reservationAcquire src cid a r => Sys2Proof.Machine.execReservationAcquire src cid a r s
  | .preemptWaitEnd cmd => Sys2Proof.Machine.execPreemptWaitEnd cmd s
  | .reservationRelease src cid a r => Sys2Proof.Machine.execReservationRelease src cid a r s
  | .ioInvalidOpcode src cid opcode => Sys2Proof.Machine.execIoInvalidOpcode src cid opcode s
  | .commandTimeout cmd => Sys2Proof.Machine.execCommandTimeout cmd s
  | .commandFinish cmd => Sys2Proof.Machine.execCommandFinish cmd s
  | .completionIssue cmd => Sys2Proof.Machine.execCompletionIssue cmd s
  | .nsActivate via ns value => Sys2Proof.Machine.execNsActivate via ns value s
  | .nsDeactivate via ns => Sys2Proof.Machine.execNsDeactivate via ns s
  | .nsInactive ns => Sys2Proof.Machine.execNsInactive ns s
  | .nsClearComplete ns => Sys2Proof.Machine.execNsClearComplete ns s
  | .hostCfgWrite via host value => Sys2Proof.Machine.execHostCfgWrite via host value s
  | .tenantEnable req pol shp weight => Sys2Proof.Machine.execTenantEnable req pol shp weight s
  | .tenantDisable req pol shp weight => Sys2Proof.Machine.execTenantDisable req pol shp weight s
  | .policerConfigWrite req which value => Sys2Proof.Machine.execPolicerConfigWrite req which value s
  | .frameRelease mac eq3 => Sys2Proof.Machine.execFrameRelease mac eq3 s
  | .tenantEligible tenant => Sys2Proof.Machine.execTenantEligible tenant s
  | .classPromotion mac tenant cls => Sys2Proof.Machine.execClassPromotion mac tenant cls s
  | .histogramSample => Sys2Proof.Machine.execHistogramSample s
  | .histBinRead req bin => Sys2Proof.Machine.execHistBinRead req bin s
  | .meterWindowEnd failed => Sys2Proof.Machine.execMeterWindowEnd failed s
  | .meterCheckpoint => Sys2Proof.Machine.execMeterCheckpoint s
  | .meterKeySelect req keyId => Sys2Proof.Machine.execMeterKeySelect req keyId s
  | .meterExportRecord => Sys2Proof.Machine.execMeterExportRecord s
  | .unitAdmitRetry unit => Sys2Proof.Machine.execUnitAdmitRetry unit s
  | .frameCross output mac read => Sys2Proof.Machine.execFrameCross output mac read s
  | .swFreeMinRead req => Sys2Proof.Machine.execSwFreeMinRead req s
  | .swVoqStatRead req drop => Sys2Proof.Machine.execSwVoqStatRead req drop s
  | .keyGenerate via => Sys2Proof.Machine.execKeyGenerate via s
  | .keyImport via => Sys2Proof.Machine.execKeyImport via s
  | .keyDestroy via => Sys2Proof.Machine.execKeyDestroy via s
  | .keyDestroyComplete kind slot => Sys2Proof.Machine.execKeyDestroyComplete kind slot s
  | .keyCommandComplete kind slot => Sys2Proof.Machine.execKeyCommandComplete kind slot s
  | .secretInject session enc secret => Sys2Proof.Machine.execSecretInject session enc secret s
  | .secretChange session enc old new => Sys2Proof.Machine.execSecretChange session enc old new s
  | .almCfgWrite via value => Sys2Proof.Machine.execAlmCfgWrite via value s
  | .alarm sources => Sys2Proof.Machine.execAlarm sources s
  | .underVoltage supply mv => Sys2Proof.Machine.execUnderVoltage supply mv s
  | .underVoltageRecover => Sys2Proof.Machine.execUnderVoltageRecover s
  | .rngTestFail => Sys2Proof.Machine.execRngTestFail s
  | .bondFrameReceive link f => Sys2Proof.Machine.execBondFrameReceive link f s
  | .offloadDoorbell req tail descs => Sys2Proof.Machine.execOffloadDoorbell req tail descs s
  | .offloadJobComplete index transferOk aad data tag => Sys2Proof.Machine.execOffloadJobComplete index transferOk aad data tag s
  | .volumeCreate via volume => Sys2Proof.Machine.execVolumeCreate via volume s
  | .volumeCreateComplete volume => Sys2Proof.Machine.execVolumeCreateComplete volume s
  | .volumeDelete via volume => Sys2Proof.Machine.execVolumeDelete via volume s
  | .volumeDeleteComplete volume => Sys2Proof.Machine.execVolumeDeleteComplete volume s
  | .accumulatorClaim cmd stripe => Sys2Proof.Machine.execAccumulatorClaim cmd stripe s
  | .stagingAdmit cmd => Sys2Proof.Machine.execStagingAdmit cmd s
  | .memberReadComplete id result stored => Sys2Proof.Machine.execMemberReadComplete id result stored s
  | .memberWriteComplete id result => Sys2Proof.Machine.execMemberWriteComplete id result s
  | .recordOpen cmd => Sys2Proof.Machine.execRecordOpen cmd s
  | .recordCommit pier seq => Sys2Proof.Machine.execRecordCommit pier seq s
  | .recordApplyStart pier seq => Sys2Proof.Machine.execRecordApplyStart pier seq s
  | .recordRetire pier seq => Sys2Proof.Machine.execRecordRetire pier seq s
  | .memberFlushComplete id ok => Sys2Proof.Machine.execMemberFlushComplete id ok s
  | .writeHoleClear volume region => Sys2Proof.Machine.execWriteHoleClear volume region s
  | .secondaryCopy pier seq => Sys2Proof.Machine.execSecondaryCopy pier seq s
  | .mramDieFail die => Sys2Proof.Machine.execMramDieFail die s
  | .ledgerRecovery found => Sys2Proof.Machine.execLedgerRecovery found s
  | .wearCounterSave => Sys2Proof.Machine.execWearCounterSave s
  | .windowRemap slot die phys => Sys2Proof.Machine.execWindowRemap slot die phys s
  | .segmentRemap segment die phys => Sys2Proof.Machine.execSegmentRemap segment die phys s
  | .repointSegment corrected repaired lost => Sys2Proof.Machine.execRepointSegment corrected repaired lost s
  | .hotClear => Sys2Proof.Machine.execHotClear s
  | .driveIdentify slot copy0 copy1 => Sys2Proof.Machine.execDriveIdentify slot copy0 copy1 s
  | .missingTimeout volume index => Sys2Proof.Machine.execMissingTimeout volume index s
  | .spareAssign volume index => Sys2Proof.Machine.execSpareAssign volume index s
  | .memberFailCmd req slot => Sys2Proof.Machine.execMemberFailCmd req slot s
  | .memberReplace req slot => Sys2Proof.Machine.execMemberReplace req slot s
  | .foreignClear req slot => Sys2Proof.Machine.execForeignClear req slot s
  | .passPaceTick volume blocks => Sys2Proof.Machine.execPassPaceTick volume blocks s
  | .passStripeDone volume blocks => Sys2Proof.Machine.execPassStripeDone volume blocks s
  | .targetComplete volume index => Sys2Proof.Machine.execTargetComplete volume index s
  | .reshapeStart req volume => Sys2Proof.Machine.execReshapeStart req volume s
  | .reshapePause req volume on => Sys2Proof.Machine.execReshapePause req volume on s
  | .reshapeStepBegin volume blocks => Sys2Proof.Machine.execReshapeStepBegin volume blocks s
  | .reshapeStepEnd volume => Sys2Proof.Machine.execReshapeStepEnd volume s
  | .reshapeComplete volume => Sys2Proof.Machine.execReshapeComplete volume s
  | .scrubRow volume blocks => Sys2Proof.Machine.execScrubRow volume blocks s
  | .scrubPassComplete volume => Sys2Proof.Machine.execScrubPassComplete volume s
  | .rootPortLinkUp port rate width => Sys2Proof.Machine.execRootPortLinkUp port rate width s
  | .rootPortLinkLoss port => Sys2Proof.Machine.execRootPortLinkLoss port s
  | .driveReady port result => Sys2Proof.Machine.execDriveReady port result s
  | .driveMemoryRequest port cmd => Sys2Proof.Machine.execDriveMemoryRequest port cmd s
  | .smartPoll port warning => Sys2Proof.Machine.execSmartPoll port warning s
  | .driveAsyncEvent port => Sys2Proof.Machine.execDriveAsyncEvent port s
  | .memberCommandTimeout id => Sys2Proof.Machine.execMemberCommandTimeout id s
  | .linkRetrain port => Sys2Proof.Machine.execLinkRetrain port s
  | .retrain via port => Sys2Proof.Machine.execRetrain via port s
  | .presenceChange slot low => Sys2Proof.Machine.execPresenceChange slot low s
  | .insertionDebounceEnd slot => Sys2Proof.Machine.execInsertionDebounceEnd slot s
  | .removalRecognised slot => Sys2Proof.Machine.execRemovalRecognised slot s
  | .rampStart slot => Sys2Proof.Machine.execRampStart slot s
  | .slotPowered slot mv => Sys2Proof.Machine.execSlotPowered slot mv s
  | .slotRampTimeout slot => Sys2Proof.Machine.execSlotRampTimeout slot s
  | .linkTimeout port => Sys2Proof.Machine.execLinkTimeout port s
  | .linkTrainRetry port => Sys2Proof.Machine.execLinkTrainRetry port s
  | .feedLost feed mv => Sys2Proof.Machine.execFeedLost feed mv s
  | .feedReturn feed mv => Sys2Proof.Machine.execFeedReturn feed mv s
  | .idealDiodeReverse slot feed => Sys2Proof.Machine.execIdealDiodeReverse slot feed s
  | .slotUnderVoltage slot mv => Sys2Proof.Machine.execSlotUnderVoltage slot mv s
  | .breakerSample slot mv ma aux => Sys2Proof.Machine.execBreakerSample slot mv ma aux s
  | .fastTrip slot ma => Sys2Proof.Machine.execFastTrip slot ma s
  | .auxOvercurrent slot ma => Sys2Proof.Machine.execAuxOvercurrent slot ma s
  | .retryWaitEnd slot => Sys2Proof.Machine.execRetryWaitEnd slot s
  | .retriesClear slot => Sys2Proof.Machine.execRetriesClear slot s
  | .slotOn via slot epoch => Sys2Proof.Machine.execSlotOn via slot epoch s
  | .slotOff via slot epoch => Sys2Proof.Machine.execSlotOff via slot epoch s
  | .slotCycle via slot epoch => Sys2Proof.Machine.execSlotCycle via slot epoch s
  | .cycleRamp slot => Sys2Proof.Machine.execCycleRamp slot s
  | .feedCfgWrite via value => Sys2Proof.Machine.execFeedCfgWrite via value s
  | .breakerCurveWrite via slot point value => Sys2Proof.Machine.execBreakerCurveWrite via slot point value s
  | .slotHoldRead req slot current => Sys2Proof.Machine.execSlotHoldRead req slot current s
  | .channelEnable req ch value => Sys2Proof.Machine.execChannelEnable req ch value s
  | .channelDisable req ch => Sys2Proof.Machine.execChannelDisable req ch s
  | .chTrigWrite req ch value => Sys2Proof.Machine.execChTrigWrite req ch value s
  | .shadowWrite req ch which value => Sys2Proof.Machine.execShadowWrite req ch which value s
  | .doorbellGo req ch => Sys2Proof.Machine.execDoorbellGo req ch s
  | .timerTrigger ch => Sys2Proof.Machine.execTimerTrigger ch s
  | .quantumEnd ch => Sys2Proof.Machine.execQuantumEnd ch s
  | .listEntryFetch ch dest addr len => Sys2Proof.Machine.execListEntryFetch ch dest addr len s
  | .transferComplete ch ok errAddr data => Sys2Proof.Machine.execTransferComplete ch ok errAddr data s
  | .endpointLinkUp rate width flit => Sys2Proof.Machine.execEndpointLinkUp rate width flit s
  | .endpointReset why => Sys2Proof.Machine.execEndpointReset why s
  | .completionTimeout who => Sys2Proof.Machine.execCompletionTimeout who s
  | .vfEnable on ari numVfs => Sys2Proof.Machine.execVfEnable on ari numVfs s
  | .vfReady vf => Sys2Proof.Machine.execVfReady vf s
  | .pcieCcEnable fn value aqa => Sys2Proof.Machine.execPcieCcEnable fn value aqa s
  | .createIoSq fn cid a cqid => Sys2Proof.Machine.execCreateIoSq fn cid a cqid s
  | .createIoCq fn cid a irq vec => Sys2Proof.Machine.execCreateIoCq fn cid a irq vec s
  | .deleteIoSq fn cid qid => Sys2Proof.Machine.execDeleteIoSq fn cid qid s
  | .deleteIoCq fn cid qid => Sys2Proof.Machine.execDeleteIoCq fn cid qid s
  | .sqTailDoorbell fn qid value => Sys2Proof.Machine.execSqTailDoorbell fn qid value s
  | .cqHeadDoorbell fn qid value => Sys2Proof.Machine.execCqHeadDoorbell fn qid value s
  | .apertureRequest offset req hbmOk => Sys2Proof.Machine.execApertureRequest offset req hbmOk s
  | .apertureWindowWrite via w value => Sys2Proof.Machine.execApertureWindowWrite via w value s
  | .busMasterDisable fn outstanding discarded => Sys2Proof.Machine.execBusMasterDisable fn outstanding discarded s
  | .busMasterEnable fn unmasked => Sys2Proof.Machine.execBusMasterEnable fn unmasked s
  | .flrPf0 discarded => Sys2Proof.Machine.execFlrPf0 discarded s
  | .flrVf vf discarded => Sys2Proof.Machine.execFlrVf vf discarded s
  | .flrPf1 discarded => Sys2Proof.Machine.execFlrPf1 discarded s
  | .flrComplete fn => Sys2Proof.Machine.execFlrComplete fn s
  | .epVecWrite via value => Sys2Proof.Machine.execEpVecWrite via value s
  | .receivedTlpError fn err => Sys2Proof.Machine.execReceivedTlpError fn err s
  | .objectRead session index sub => Sys2Proof.Machine.execObjectRead session index sub s
  | .objectWrite session index sub data => Sys2Proof.Machine.execObjectWrite session index sub data s
  | .parameterStoreDone ok => Sys2Proof.Machine.execParameterStoreDone ok s
  | .nonceRead session => Sys2Proof.Machine.execNonceRead session s
  | .proof session level tag => Sys2Proof.Machine.execProof session level tag s
  | .sessionDrop session => Sys2Proof.Machine.execSessionDrop session s
  | .sessionIdleTimeout session => Sys2Proof.Machine.execSessionIdleTimeout session s
  | .sdoInitiate server request => Sys2Proof.Machine.execSdoInitiate server request s
  | .sdoSegment server frame => Sys2Proof.Machine.execSdoSegment server frame s
  | .sdoTimeout server => Sys2Proof.Machine.execSdoTimeout server s
  | .nmtStartRemoteNode node => Sys2Proof.Machine.execNmtStartRemoteNode node s
  | .nmtStopRemoteNode node => Sys2Proof.Machine.execNmtStopRemoteNode node s
  | .nmtEnterPreOperational node => Sys2Proof.Machine.execNmtEnterPreOperational node s
  | .nmtResetNode node => Sys2Proof.Machine.execNmtResetNode node s
  | .nmtResetCommunication node => Sys2Proof.Machine.execNmtResetCommunication node s
  | .syncReceive => Sys2Proof.Machine.execSyncReceive s
  | .tpdoEventTimer pdo => Sys2Proof.Machine.execTpdoEventTimer pdo s
  | .emcyInhibitEnd => Sys2Proof.Machine.execEmcyInhibitEnd s
  | .producerHeartbeat => Sys2Proof.Machine.execProducerHeartbeat s
  | .canBusOff off => Sys2Proof.Machine.execCanBusOff off s
  | .canBusOffRecovery => Sys2Proof.Machine.execCanBusOffRecovery s
  | .oapOpen seq => Sys2Proof.Machine.execOapOpen seq s
  | .oapRead m => Sys2Proof.Machine.execOapRead m s
  | .oapWrite m => Sys2Proof.Machine.execOapWrite m s
  | .oapProve m => Sys2Proof.Machine.execOapProve m s
  | .oapClose m => Sys2Proof.Machine.execOapClose m s
  | .mgmtAddressFrame echo => Sys2Proof.Machine.execMgmtAddressFrame echo s
  | .dictionaryWindowGo value => Sys2Proof.Machine.execDictionaryWindowGo value s
  | .errorFieldClear session value => Sys2Proof.Machine.execErrorFieldClear session value s
  | .restoreDefaults session value => Sys2Proof.Machine.execRestoreDefaults session value s
  | .eventTake => Sys2Proof.Machine.execEventTake s
  | .bufferMove => Sys2Proof.Machine.execBufferMove s
  | .eventIrqHoldoffEnd => Sys2Proof.Machine.execEventIrqHoldoffEnd s
  | .evRecRead req word => Sys2Proof.Machine.execEvRecRead req word s
  | .cntWinRead req word => Sys2Proof.Machine.execCntWinRead req word s
  | .counterSnapshot advance finished => Sys2Proof.Machine.execCounterSnapshot advance finished s
  | .sampleRecord => Sys2Proof.Machine.execSampleRecord s
  | .heartbeatSend from' => Sys2Proof.Machine.execHeartbeatSend from' s
  | .heartbeatReceive pier quoin => Sys2Proof.Machine.execHeartbeatReceive pier quoin s
  | .heartbeatTimeout pier quoin => Sys2Proof.Machine.execHeartbeatTimeout pier quoin s
  | .quoinClaim pier majority => Sys2Proof.Machine.execQuoinClaim pier majority s
  | .claimGrant pier blocks => Sys2Proof.Machine.execClaimGrant pier blocks s
  | .claimRefused pier => Sys2Proof.Machine.execClaimRefused pier s
  | .quoinTimeout pier held blocks => Sys2Proof.Machine.execQuoinTimeout pier held blocks s
  | .preemptRetry pier blocks => Sys2Proof.Machine.execPreemptRetry pier blocks s
  | .giveback via => Sys2Proof.Machine.execGiveback via s
  | .autoGiveback => Sys2Proof.Machine.execAutoGiveback s
  | .unfence via => Sys2Proof.Machine.execUnfence via s
  | .bondLinkUp link peer => Sys2Proof.Machine.execBondLinkUp link peer s
  | .bondAckReceive link lseq => Sys2Proof.Machine.execBondAckReceive link lseq s
  | .bondReplayTimeout link => Sys2Proof.Machine.execBondReplayTimeout link s
  | .bondRetrain link peer => Sys2Proof.Machine.execBondRetrain link peer s
  | .shedWindowEnd link tx rx burst => Sys2Proof.Machine.execShedWindowEnd link tx rx burst s
  | .widthRequestReceive link width => Sys2Proof.Machine.execWidthRequestReceive link width s
  | .widthAckReceive link lseq => Sys2Proof.Machine.execWidthAckReceive link lseq s
  | .packageHeartbeatTimeout pkg held => Sys2Proof.Machine.execPackageHeartbeatTimeout pkg held s
  | .mirrorSuspend => Sys2Proof.Machine.execMirrorSuspend s
  | .forwardedCommand link f => Sys2Proof.Machine.execForwardedCommand link f s
  | .serve via => Sys2Proof.Machine.execServe via s
  | .quiesce via => Sys2Proof.Machine.execQuiesce via s
  | .resume via => Sys2Proof.Machine.execResume via s
  | .shutdown via => Sys2Proof.Machine.execShutdown via s
  | .shutdownDone => Sys2Proof.Machine.execShutdownDone s
  | .recommission via => Sys2Proof.Machine.execRecommission via s
  | .start via => Sys2Proof.Machine.execStart via s
  | .modeCommandRefused via bits => Sys2Proof.Machine.execModeCommandRefused via bits s
  | .startupHoldRelease => Sys2Proof.Machine.execStartupHoldRelease s
  | .startupSlotRamp slot => Sys2Proof.Machine.execStartupSlotRamp slot s
  | .railTimeout rail mv => Sys2Proof.Machine.execRailTimeout rail mv s
  | .railDrop rail mv => Sys2Proof.Machine.execRailDrop rail mv s
  | .bootImageVerify storeOk => Sys2Proof.Machine.execBootImageVerify storeOk s
  | .startupComplete => Sys2Proof.Machine.execStartupComplete s
  | .packageResetPin lowNs => Sys2Proof.Machine.execPackageResetPin lowNs s
  | .packageReset via value => Sys2Proof.Machine.execPackageReset via value s
  | .powerLoss standbyLost => Sys2Proof.Machine.execPowerLoss standbyLost s
  | .imageDownload session => Sys2Proof.Machine.execImageDownload session s
  | .imageDownloadEnd image => Sys2Proof.Machine.execImageDownloadEnd image s
  | .activate via => Sys2Proof.Machine.execActivate via s
  | .liveGroupComplete => Sys2Proof.Machine.execLiveGroupComplete s
  | .liveGroupTimeout => Sys2Proof.Machine.execLiveGroupTimeout s
  | .imageConfirm => Sys2Proof.Machine.execImageConfirm s
  | .temperatureSample readings => Sys2Proof.Machine.execTemperatureSample readings s
  | .dieTempRead req sensor => Sys2Proof.Machine.execDieTempRead req sensor s
  | .refclockLoss clock => Sys2Proof.Machine.execRefclockLoss clock s
  | .refclockReturn clock => Sys2Proof.Machine.execRefclockReturn clock s
  | .powerUp pkgIdx wiring => Sys2Proof.Machine.execPowerUp pkgIdx wiring s
  | .memberAcquireComplete pier slot held blocks => Sys2Proof.Machine.execMemberAcquireComplete pier slot held blocks s
  | .msixUnmask fn vec => Sys2Proof.Machine.execMsixUnmask fn vec s
  | .idealDiodeForward slot feed => Sys2Proof.Machine.execIdealDiodeForward slot feed s
  | .rngTestPass => Sys2Proof.Machine.execRngTestPass s

end Sys2Proof.Machine
end

