-- ==== Sys2Proof/Machine/Step.lean ====
section
/-!
DEFINITION. One step of the block: the command at the front of the queue takes effect; with none waiting device time advances.
-/
namespace Sys2Proof.Machine

/-- With no command waiting the block idles: device time advances by its least unit, 1 ns (00 R7; DESIGN CHOICE, assumption 30). Everything that a passing
of time brings has a command of its own. -/
def State.idle (s : State) : State := { s with dev := { s.dev with time := s.dev.time + 1, out := [], raised := [] } }

/-- One step: `exec` of the front command with the rest of the queue waiting. -/
def step (s : State) : Result :=
  match s.pending with
  | [] => .next s.idle
  | c :: cs => exec c { s with pending := cs }

/-- The state with the command that a word spells put in front of its queue; unchanged where the word spells none. -/
def State.withFetchWord (s : State) (nbits w : Nat) : State :=
  match decodeTableWord nbits w with
  | some c => { s with pending := c :: s.pending }
  | none => s

end Sys2Proof.Machine
end

