-- ==== Sys2Proof/Safety.lean ====
section
/-!
DEFINITION. The terms that claims about the block are stated in: that a command is answered, what it leaves as it was, what it tells the recorder, and
the invariant of the event queues.
-/
namespace Sys2Proof.Machine

/-- The command `c` takes effect at `s`: a next state with the same commands waiting, of which `P` holds. -/
def Answers (c : Instr) (s : State) (P : State → Prop) : Prop := ∃ t, exec c s = .next t ∧ t.pending = s.pending ∧ P t

/-- The parts of the device beside its register fields and counters. -/
inductive DevPart where
  | time | timeLoaded | fresh | marks | latches | arch | mode | fw | pkg | own | ldg | od | evr | cust | ep | net | sw | ten | store | shelf | rdma | nvme | dma
  deriving DecidableEq, Repr

/-- A part is the same in two devices, up to what settles with every command: the cause a mode change recorded, the instant STABLE began, the
orderly-stop note, CANopen's error messages, the recorder's drop counts and the meters. -/
def DevPart.same (a b : Dev) : DevPart → Prop
  | .time => b.time = a.time
  | .timeLoaded => b.timeLoaded = a.timeLoaded
  | .fresh => b.fresh = a.fresh
  | .marks => b.marks = a.marks
  | .latches => b.latches = a.latches
  | .arch => b.arch = a.arch
  | .mode => { b.mode with cause := 0, hint := 0 } = { a.mode with cause := 0, hint := 0 }
  | .fw => { b.fw with stableFrom := 0 } = { a.fw with stableFrom := 0 }
  | .pkg => b.pkg = a.pkg
  | .own => b.own = a.own
  | .ldg => { b.ldg with orderly := false } = { a.ldg with orderly := false }
  | .od => { b.od with can := {} } = { a.od with can := {} }
  | .evr => { b.evr with drops := [], windowDrops := [], gap := false } = { a.evr with drops := [], windowDrops := [], gap := false }
  | .cust => b.cust = a.cust
  | .ep => b.ep = a.ep
  | .net => b.net = a.net
  | .sw => b.sw = a.sw
  | .ten => { b.ten with meter := {} } = { a.ten with meter := {} }
  | .store => b.store = a.store
  | .shelf => b.shelf = a.shelf
  | .rdma => b.rdma = a.rdma
  | .nvme => b.nvme = a.nvme
  | .dma => b.dma = a.dma

/-- The counters that settling may advance: cells freed and frames discarded with an output, meter records written or
failed, the general cipher jobs that sign them or protect bond frames. -/
def settleCtrs : List Ctr := [.SW_CELLS_FREED, .SW_ISO_DISCARD, .TN_MTR_WRITTEN, .TN_MTR_FAILED, .CX_GC_JOBS]

/-- Nothing but the parts `ps`, the register fields `xs` and the counters `cs` differs (and the counters that settle with every command). -/
structure Dev.OnlyChanged (ps : List DevPart) (xs : List Fld) (cs : List Ctr) (a b : Dev) : Prop where
  parts : ∀ p, p ∉ ps → p.same a b
  flds : ∀ x, x ∉ xs → ∀ i, b.fld x i = a.fld x i
  ctrs : ∀ c, c ∉ cs → c ∉ settleCtrs → ∀ i, b.ctr c i = a.ctr c i

/-- A die's events reach the recorder's queue: Plinth's always, another die's over its seam with room for sixteen more (15 R599). -/
def State.hears (s : State) (d : Die) : Prop := d = .pl ∨ (s.dev.reachesPlinth d = true ∧ (s.evq.get d).length + 16 ≤ eventQueueDepth)

/-- The command told the recorder: beyond what waited before, the die's queue holds the event `id` with this detail and cause code, stamped with that
die's time when the command began. -/
def State.told (s t : State) (d : Die) (id : Nat) (detail : List Byte := []) (code : Nat := 0) : Prop :=
  ∃ new, t.evq.get d = s.evq.get d ++ new ∧ (⟨s.dev.nowOn d, d, id, code, detail, !s.dev.timeLoaded⟩ : Occ) ∈ new

/-- The command told the recorder of the event `id`, whatever its detail. -/
def State.toldOf (s t : State) (d : Die) (id : Nat) : Prop := ∃ new, t.evq.get d = s.evq.get d ++ new ∧ ∃ o ∈ new, o.id = id

/-- A request packet a queue pair in RTS takes as its next (03 R98, R103): the transport works, no message is half received, QUIESCE is not in force and
the tenant is not policed. -/
def Dev.newRequest (s : Dev) (i : Nat) (p : RocePacket) : Bool :=
  s.transportUp && p.icrcOk && p.qpn == 0x10000 + i && decide (i < qpCount) && decide ((s.qp i).st = .rts) && p.psn == (s.qp i).ePsn &&
    decide (p.psn < 2 ^ 24) && !s.flag .TN_CFG_POL_EN (s.qp i).tenant && !s.mode.quiesced && (s.qp i).sendMsg.isNone && (s.qp i).writeMsg.isNone

/-- A response packet for a queue pair in RTS (03 R106). -/
def Dev.newResponse (s : Dev) (i : Nat) (p : RocePacket) : Bool :=
  s.transportUp && p.icrcOk && p.qpn == 0x10000 + i && decide (i < qpCount) && decide ((s.qp i).st = .rts)

/-- The register fields that answering a dictionary access may change: those of the PF1 window (14 MG_CTL, MG_ABORT, MG_DATA). -/
def answerFlds : List Fld := [.MG_CTL_GO, .MG_ABORT_CODE, .MG_CTL_LENGTH, .MG_DATA_DATA]

/-- A command that a register write and a Custodian's dictionary write both give reaches its register (01 R48; 14 R547, R555). -/
def Dev.commandMade (s : Dev) (via : Via) (addr : Nat) : Bool :=
  match via with
  | .reg _ => s.served && !s.blockIsolated addr
  | .dict n => decide (s.sessionLevel n = .custodian) && !s.unreached addr

/-- A key command reaches its slot (07 R309; 14 R547, R548): a privileged register write, or a Custodian's of the namespace's object. -/
def Dev.keyCommandMade (s : Dev) (via : KeyVia) : Bool :=
  decide (s.modeNow ≠ .safe) && match via with
  | .reg r => s.served && !s.blockIsolated (Reg.addr .KEY_CMD) && s.privileged r
  | .media n _ => decide (s.sessionLevel n = .custodian) && !s.unreached (Reg.addr .KEY_CMD)

/-- An admin queue gives the controller `k`, in state `c`, a command (04 R150; 13 R522). -/
def Dev.adminAt (s : Dev) (src : CmdSource) (k : Nat) (c : Ctrl) : Bool :=
  decide (s.comesTo src = some k) && decide (s.ctrl k = some c) && decide (s.srcQid src = 0)

/-- An I/O queue gives the controller `k`, in state `c`, a command (04 R150; 13 R522). -/
def Dev.ioAt (s : Dev) (src : CmdSource) (k : Nat) (c : Ctrl) : Bool :=
  decide (s.comesTo src = some k) && decide (s.ctrl k = some c) && decide (s.srcQid src ≠ 0) && decide (c.kind ≠ .discovery)

/-- The parts and the counters that a command at work may change: reads of members, rows closed, records (04 R176; 08 R335-R338; 09). -/
def workParts : List DevPart := [.rdma, .nvme, .ten, .evr, .store, .ldg]
def workCtrs : List Ctr := [.FE_CMD_ACCEPTED, .FE_TRACK_WAITS, .JOB_RS_WAITS, .PAR_RECON_ROWS, .PAR_REPAIR_WRITES, .PAR_BB_ADDED, .DRV_MCMD_ISSUED,
  .LDG_REC_OPENED, .LDG_REC_COMMITTED, .CX_XTS_UNITS]

/-- The counters that taking volumes over may advance besides (16 R619, 09 R360): members missing, records replayed and retired. -/
def serveCtrs : List Ctr := [.LDG_MAP_SETS, .JOB_CKPT_WRITES, .LDG_REC_REPLAYED, .LDG_ROWS_REPLAYED, .LDG_REC_RETIRED, .LDG_REC_ABANDONED] ++ workCtrs

/-- A pier holds a strict majority of a volume's members in a dispute (16 R626): those it reaches and whose Acquire or Report shows it as holder. -/
def Dev.winsDispute (s : Dev) (p : Nat) (held : BitVec 24) (v : Nat) : Bool :=
  decide ((s.memberSlots v).length < 2 * ((s.memberSlots v).filter (fun k => s.reaches p k && held.getLsbD k)).length)

/-- Plinth's register fields outside `xs` are as they were (17 R654, R655). -/
def Dev.PlinthFldsKept (xs : List Fld) (a b : Dev) : Prop := ∀ x, plinthNumbers.contains x.ctorIdx = true → x ∉ xs → ∀ i, b.fld x i = a.fld x i

/-- The register fields of the piers and Lintel have their reset values (17 R654, R655). -/
def Dev.DieFldsReset (b : Dev) : Prop := ∀ x, plinthNumbers.contains x.ctorIdx = false → ∀ i, b.fld x i = x.resetAt i

/-- The counters are as they were, but for those that settle with every command (02 R89). -/
def Dev.CtrsKept (a b : Dev) : Prop := ∀ c, c ∉ settleCtrs → ∀ i, b.ctr c i = a.ctr c i

/-- Plinth's register fields have their stored parameter or their reset value, the other dies' their reset value (17 R654; 14 R558). -/
def Dev.PlinthFldsFrom (params : Table Nat) (b : Dev) : Prop :=
  ∀ x i, b.fld x i = if plinthNumbers.contains x.ctorIdx then (params.find (x.key i)).getD (x.resetAt i) else x.resetAt i

/-- Every parameter among the register fields has its stored value, or its reset value where none is stored (14 R558). -/
def Dev.ParamsFrom (params : Table Nat) (b : Dev) : Prop :=
  ∀ x i, isParamKey (x.key i) = true → b.fld x i = (params.find (x.key i)).getD (x.resetAt i)

/-- What a reset of Plinth leaves (17 R654): DORMANT with device time anew, the keys erased, no command left; the ledger, the boot flash, the one-time
memory, the ownership and the COMMISSIONED flag as they were; the registers of Plinth from the parameter store. -/
def Dev.PlinthReset (a b : Dev) : Prop :=
  b.modeNow = .dormant ∧ b.mode.released = none ∧ b.mode.booted = false ∧ b.mode.waitStart = false ∧ b.time = 0 ∧ b.timeLoaded = false ∧ b.mode.commissioned = a.mode.commissioned ∧
  b.cust.cs = none ∧ b.cust.kek = none ∧ b.cust.alarms = 0 ∧ b.nvme.cmds = [] ∧ b.nvme.ctrls = [] ∧ b.fw.running = none ∧
  b.ldg.piers = a.ldg.piers ∧ b.evr.ledger.slots = a.evr.ledger.slots ∧ b.store.vols = a.store.vols ∧ b.own.slots = a.own.slots ∧ b.own.vols = a.own.vols ∧
  b.fw.imageA = a.fw.imageA ∧ b.fw.imageB = a.fw.imageB ∧ b.fw.active = a.fw.active ∧ b.fw.minSvn = a.fw.minSvn ∧
  b.fw.storing = [] ∧ (a.fw.storing = [] → b.fw.params = a.fw.params) ∧ (b.fw.params.keys.Nodup → b.PlinthFldsFrom b.fw.params) ∧ Dev.CtrsKept Dev.init b

/-- No command has the number that the next one gets. -/
def Dev.numberFree (s : Dev) : Bool := s.nvme.cmds.all (fun e => e.id != s.nvme.nextCmd)

/-- The next command has been entered behind the others, and `P` holds of it; it has left its slot where it came over the fabric, and no other queue
pair differs. -/
def State.entered (s t : State) (src : CmdSource) (P : Cmd → Prop) : Prop :=
  (∃ x, t.dev.nvme.cmds = s.dev.nvme.cmds ++ [x] ∧ x.id = s.dev.nvme.nextCmd ∧ x.src = src ∧ P x) ∧ t.dev.nvme.nextCmd = s.dev.nvme.nextCmd + 1 ∧
  ∀ i, t.dev.qp i = if src = .fabric i then { s.dev.qp i with inUse := (s.dev.qp i).inUse - 1 } else s.dev.qp i

/-- The images that a row of a record puts into staging: the key of each block's place, its plaintext and its stored bytes (08 R330, R332). -/
def Dev.rowImages (s : Dev) (v : Nat) (y : Row) : List (Nat × Block × Block) :=
  let ref : RowRef := ⟨y.newGeo, y.stripe, y.row⟩
  let d := (s.geom v y.newGeo).d
  (y.news ++ [(d, y.p, s.rowParity v y d y.p), (d + 1, y.q, s.rowParity v y (d + 1) y.q)]).map (fun b =>
    let l := s.blockLoc v ref b.1
    (locKey v l.1 l.2, b.2.1, b.2.2))

/-- The bytes a TPDO maps, entry after entry (14 R569, R570), where every mapped object can be read. -/
def Dev.pdoBytes (s : Dev) (k : Nat) : Option (List Byte) :=
  ((List.range (s.objNat (0x1A00 + k))).mapM (fun e =>
    let m := s.objNat (0x1A00 + k) (e + 1)
    match s.object (m / 65536) (m / 256 % 256) with
    | some (some o) => if (o.addr.map s.unreached).getD false then none else some o.read
    | _ => none)).map List.flatten

/-- A slot's state after a trip (11 R473, R476, R478). -/
def SlotPwr.tripped (x : SlotPwr) (now cause : Nat) : SlotPwr :=
  { x with st := .retryWait, gate := false, aux := false, cause := cause, retries := sat 15 (x.retries + 1), waitAt := now, waitOver := false, cycleAt := none }

/-- A queue of occurrences fits its die: at most 64 on PE, PW and LN, each of its own die (15 R590, R599). -/
def EventQueues.ok (q : EventQueues) : Prop :=
  ∀ d : Die, (∀ o ∈ q.get d, o.die = d) ∧ (d ≠ .pl → (q.get d).length ≤ eventQueueDepth)

/-- The HBM address of byte `i` of a side's list of ranges in a space. -/
def chanByteAt (space : Nat) : List (Nat × Nat) → Nat → Nat
  | [], i => i
  | (addr, len) :: rs, i => if i < len then space * 2 ^ 40 + addr + i else chanByteAt space rs (i - len)

end Sys2Proof.Machine
end

