-- ==== Sys2Proof/Certificates/Slice0/Obligations.lean ====
section
/-!
DEFINITION. What is claimed of the block: each statement follows the rules of the spec its docstring names.
-/
open Sys2Proof Sys2Proof.Machine

/-- A step with the command `c` at the front of the queue is `exec` of `c` on the state whose queue holds the rest (the block's queue of commands, first in first out, is the model's). -/
def Obligations.StepRunsFrontCommand : Prop :=
  ∀ (c : Instr) (cs : List Instr) (s : State), s.pending = c :: cs → step s = exec c { s with pending := cs }

/-- With no command waiting a step answers a next state in which device time is 1 ns later and nothing was sent; every other part of the device and the event queues are as they were (the model's DESIGN CHOICE, assumption 30). -/
def Obligations.IdleStepAdvancesTime : Prop :=
  ∀ s : State, s.pending = [] → ∃ t, step s = .next t ∧ t.dev.time = s.dev.time + 1 ∧ t.dev.out = [] ∧ t.evq = s.evq ∧ t.pending = [] ∧
    Dev.OnlyChanged [.time] [] [] s.dev t.dev

/-- At reset the device is DORMANT, no command waits, no event is queued, every counter is 0, every table is empty, the invariants of the event queues and the memories hold, and register fields hold the values the register tables give: CMD_TO 8,000 ms, MISS_TO 300 s, FT_A 25 A, SENSE_UOHM 2,000, LINK_TO 1,000 ms, PF0_VEC 448, VF_VEC 24, HOLDOFF 100 µs, QUOIN_TO 1,000 µs, CONFIRM_S 600 s. Device time 0 and the empty HBM are the model's (assumptions 2, 15). -/
def Obligations.ResetState : Prop :=
  State.reset.dev.modeNow = .dormant ∧ State.reset.pending = [] ∧ (∀ d, State.reset.evq.get d = []) ∧ (∀ c i, State.reset.dev.ctr c i = 0) ∧
  (∀ n, (State.reset.dev.chan n).st = .off) ∧ (∀ v, (State.reset.dev.vol v).st = .none) ∧ (∀ r, State.reset.dev.isolated r = false) ∧
  State.reset.dev.fld .FE_CFG_CMD_TO = 8000 ∧ State.reset.dev.fld .RB_CFG_MISS_TO = 300 ∧ State.reset.dev.fld .SLOT_FT_FT_A 5 = 25 ∧
  State.reset.dev.fld .SLOT_FT_SENSE_UOHM 23 = 2000 ∧ State.reset.dev.fld .DRV_CFG_LINK_TO = 1000 ∧ State.reset.dev.fld .EP_VEC_PF0_VEC = 448 ∧
  State.reset.dev.fld .EP_VEC_VF_VEC = 24 ∧ State.reset.dev.fld .EV_IRQ_HOLDOFF = 100 ∧ State.reset.dev.fld .OWN_CFG_QUOIN_TO = 1000 ∧
  State.reset.dev.fld .FW_CFG_CONFIRM_S = 600 ∧ State.reset.dev.time = 0 ∧ State.reset.dev.dma.hbm = [] ∧
  State.reset.evq.ok ∧ Memory.wf State.reset.dev.rdma.mem = true ∧ Memory.wf State.reset.dev.rdma.durable = true

/-- No command stops the block: `exec` answers a next state for every command at every state, with the same commands waiting. -/
def Obligations.EveryCommandIsAnswered : Prop :=
  ∀ (c : Instr) (s : State), Answers c s (fun _ => True)

/-- From every state whose event queues hold only occurrences of their own die and at most 64 on PE, PW and LN, a step, whatever command is at the front, answers a next state whose queues do so again (15 R590, R599). -/
def Obligations.EveryStepKeepsEventQueues : Prop :=
  ∀ s : State, s.evq.ok → ∃ t, step s = .next t ∧ t.evq.ok

/-- From every state whose HBM, window memory and durable window memory list rising addresses and no zero byte, a step, whatever command is at the front, answers a next state that does so again: equal memories are equal data. That a byte nothing has written reads as 0 is the model's choice (assumption 15). -/
def Obligations.EveryStepKeepsMemoryCanonical : Prop :=
  ∀ s : State, Memory.wf s.dev.dma.hbm = true → Memory.wf s.dev.rdma.mem = true → Memory.wf s.dev.rdma.durable = true →
    ∃ t, step s = .next t ∧ Memory.wf t.dev.dma.hbm = true ∧ Memory.wf t.dev.rdma.mem = true ∧ Memory.wf t.dev.rdma.durable = true

/-- An access to an unmapped address, to a register whose block lies in an isolated region, or that is not an aligned word, while the control space is served: a read returns 0, FFFF_FFFFh or 0, a write is discarded; the GLB_ERR bit is set, event 0FCh tells address and bit where Lintel's events reach the recorder, and nothing else changes (01 R47-R49). -/
def Obligations.AccessErrors : Prop :=
  (∀ (s : State) (req : Requester) (addr : BitVec 32) (write : Bool), s.dev.served = true →
      Answers (.csUnmappedAccess req addr write) s (fun t =>
      t.dev.flag .GLB_ERR_CS_UNMAPPED = true ∧ (write = false → Out.value req 0 ∈ t.dev.out) ∧
      (s.hears .ln → s.told t .ln 0x0FC (le 8 addr.toNat ++ le 1 0)) ∧ Dev.OnlyChanged [] [.GLB_ERR_CS_UNMAPPED] [] s.dev t.dev)) ∧
  (∀ (s : State) (req : Requester) (addr : BitVec 32) (write : Bool), s.dev.served = true → s.dev.blockIsolated addr.toNat = true →
      Answers (.csIsolatedAccess req addr write) s (fun t =>
      t.dev.flag .GLB_ERR_CS_ISOLATED = true ∧ (write = false → Out.value req 0xFFFFFFFF#32 ∈ t.dev.out) ∧
      (s.hears .ln → s.told t .ln 0x0FC (le 8 addr.toNat ++ le 1 1)) ∧ Dev.OnlyChanged [] [.GLB_ERR_CS_ISOLATED] [] s.dev t.dev)) ∧
  (∀ (s : State) (req : Requester) (addr : BitVec 32) (write : Bool), s.dev.served = true →
      Answers (.csMisalignedAccess req addr write) s (fun t =>
      t.dev.flag .GLB_ERR_CS_MISALIGNED = true ∧ (write = false → Out.value req 0 ∈ t.dev.out) ∧
      (s.hears .ln → s.told t .ln 0x0FC (le 8 addr.toNat ++ le 1 2)) ∧ Dev.OnlyChanged [] [.GLB_ERR_CS_MISALIGNED] [] s.dev t.dev))

/-- A register write while the control space is served: FE_CFG stores CMD_TO (0 as 1,000), in an isolated region it is discarded with GLB_ERR.CS_ISOLATED; a 1 written to a GLB_ERR bit clears it and a 0 leaves it; a write to the read-only GLB_ID changes nothing. A read of TB_LO returns the low word of device time and latches the high word for the requester; a read of TB_HI returns what the requester's latch holds and changes nothing. Nothing else changes (00 R5, 01 R48, R50, 04 FE_CFG). -/
def Obligations.RegisterAccess : Prop :=
  (∀ (s : State) (req : Requester) (v : Word), s.dev.served = true → s.dev.isolated 14 = false →
      Answers (.registerWrite req 0x800000#32 v) s (fun t =>
      t.dev.fld .FE_CFG_CMD_TO = (if v.toNat / 65536 = 0 then 1000 else v.toNat / 65536) ∧ Dev.OnlyChanged [.fw] [.FE_CFG_CMD_TO] [] s.dev t.dev)) ∧
  (∀ (s : State) (req : Requester) (v : Word), s.dev.served = true → s.dev.isolated 14 = true →
      Answers (.registerWrite req 0x800000#32 v) s (fun t =>
      t.dev.fld .FE_CFG_CMD_TO = s.dev.fld .FE_CFG_CMD_TO ∧ t.dev.flag .GLB_ERR_CS_ISOLATED = true ∧ Dev.OnlyChanged [] [.GLB_ERR_CS_ISOLATED] [] s.dev t.dev)) ∧
  (∀ (s : State) (req : Requester) (v : Word), s.dev.served = true →
      Answers (.registerWrite req 0x20#32 v) s (fun t =>
      t.dev.fld .GLB_ERR_CS_UNMAPPED = (if v.getLsbD 0 then 0 else s.dev.fld .GLB_ERR_CS_UNMAPPED) ∧
      t.dev.fld .GLB_ERR_CS_ISOLATED = (if v.getLsbD 1 then 0 else s.dev.fld .GLB_ERR_CS_ISOLATED) ∧
      t.dev.fld .GLB_ERR_CS_MISALIGNED = (if v.getLsbD 2 then 0 else s.dev.fld .GLB_ERR_CS_MISALIGNED) ∧
      Dev.OnlyChanged [.fw] [.GLB_ERR_CS_UNMAPPED, .GLB_ERR_CS_ISOLATED, .GLB_ERR_CS_MISALIGNED] [] s.dev t.dev)) ∧
  (∀ (s : State) (req : Requester) (v : Word), s.dev.served = true →
      Answers (.registerWrite req 0x0#32 v) s (fun t => Dev.OnlyChanged [] [] [] s.dev t.dev)) ∧
  (∀ (s : State) (req : Requester), s.dev.served = true →
      Answers (.lowWordRead req 0x10#32) s (fun t => Out.value req (BitVec.ofNat 32 s.dev.time.toNat) ∈ t.dev.out ∧
      t.dev.latches.find (latchKey (requesterKey req + 1) 0x14) = some (some (s.dev.time.toNat / 2 ^ 32)) ∧ Dev.OnlyChanged [.latches] [] [] s.dev t.dev)) ∧
  (∀ (s : State) (req : Requester) (hi : Nat), s.dev.served = true → s.dev.latches.find (latchKey (requesterKey req + 1) 0x14) = some (some hi) →
      Answers (.lowWordRead req 0x14#32) s (fun t => Out.value req (BitVec.ofNat 32 hi) ∈ t.dev.out ∧ Dev.OnlyChanged [] [] [] s.dev t.dev))

/-- A cluster of a region that runs and is not isolated is reset when it signals no completion in time, and by CLUSTER_RESET: the reset is counted, its work is reported aborted, event 0F9h is told, and the cluster stays in reset until it completes; the region isolates where two resets of the cluster stand within the last second, and only then. CLUSTER_RESET of a cluster beyond the region's count or of an isolated region sets GLB_ERR.CS_UNMAPPED and resets nothing (01 R17-R19, R52). -/
def Obligations.ClusterResets : Prop :=
  (∀ (s : State) (region : Fin 23) (cluster : Nat) (channels : List (Fin 128)), s.dev.mode.diesUp = true → cluster < clustersOf region.val → s.dev.isolated region.val = false → cluster ∉ (s.dev.region region.val).inReset →
      Answers (.clusterCompletionTimeout region cluster channels) s (fun t =>
      (t.dev.region region.val).resets = sat 255 ((s.dev.region region.val).resets + 1) ∧ Out.workAborted region.val cluster ∈ t.dev.out ∧
      (s.hears (regionDie region.val) → s.told t (regionDie region.val) 0x0F9 (le 1 region.val ++ le 1 cluster)) ∧
      (t.dev.isolated region.val = (decide (region.val < 19) &&
      decide (2 ≤ ((s.dev.region region.val).recent.filter (fun e => e.1 == cluster && decide (s.dev.nowOn (regionDie region.val) < e.2 + 1000000000))).length))) ∧
      (t.dev.isolated region.val = false → cluster ∈ (t.dev.region region.val).inReset) ∧ (∀ r, r ≠ region.val → t.dev.region r = s.dev.region r) ∧
      Dev.OnlyChanged [.arch, .dma, .fresh, .own, .cust, .net, .sw, .ten] [] [.DMA_ABORTS] s.dev t.dev)) ∧
  (∀ (s : State) (region : Fin 23) (cluster : Nat),
      Answers (.clusterResetComplete region cluster) s (fun t =>
      cluster ∉ (t.dev.region region.val).inReset ∧ t.dev.arch.clusterGo ≠ some (region.val, cluster) ∧
      (∀ c, c ≠ cluster → c ∈ (s.dev.region region.val).inReset → c ∈ (t.dev.region region.val).inReset) ∧
      (∀ r, r ≠ region.val → t.dev.region r = s.dev.region r) ∧ Dev.OnlyChanged [.arch, .net, .sw, .ten] [] [] s.dev t.dev)) ∧
  (∀ (s : State) (req : Requester) (region : Fin 32) (cluster : Fin 256) (channels : List (Fin 128)), s.dev.served = true → s.dev.arch.clusterGo = none → region.val < 19 → cluster.val < clustersOf region.val → s.dev.isolated region.val = false →
      Answers (.clusterResetGo req region cluster channels) s (fun t =>
      t.dev.arch.clusterGo = some (region.val, cluster.val) ∧ (t.dev.region region.val).resets = sat 255 ((s.dev.region region.val).resets + 1) ∧
      (s.hears (regionDie region.val) → s.told t (regionDie region.val) 0x0F9 (le 1 region.val ++ le 1 cluster.val)) ∧
      (∀ r, r ≠ region.val → t.dev.region r = s.dev.region r) ∧
      Dev.OnlyChanged [.fw, .arch, .dma, .fresh, .own, .cust, .net, .sw, .ten] [.CLUSTER_RESET_REGION, .CLUSTER_RESET_CLUSTER] [.DMA_ABORTS] s.dev t.dev)) ∧
  (∀ (s : State) (req : Requester) (region : Fin 32) (cluster : Fin 256) (channels : List (Fin 128)), s.dev.served = true → s.dev.arch.clusterGo = none → 18 < region.val ∨ clustersOf region.val ≤ cluster.val ∨ s.dev.isolated region.val = true →
      Answers (.clusterResetGo req region cluster channels) s (fun t => t.dev.flag .GLB_ERR_CS_UNMAPPED = true ∧
      Dev.OnlyChanged [.fw] [.CLUSTER_RESET_REGION, .CLUSTER_RESET_CLUSTER, .GLB_ERR_CS_UNMAPPED] [] s.dev t.dev))

/-- A code violation isolates its region with ISO_CAUSE 1 and ISOLATE with ISO_CAUSE 4, the clusters in reset and, in region 17, the offload jobs are discarded, event 0F8h is told and no other region changes; ISOLATE and RELEASE leave the Plinth regions as they are. RELEASE outside SAFE starts the self-test of an isolated region and leaves it isolated; in SAFE it changes nothing. The end of a failed self-test leaves the region isolated with ISO_CAUSE 5; of a passed one it resumes with ISO_CAUSE 0, a pier's region with the pier's staging discarded once no other region of it but the seam region is isolated (01 R19-R24, 09 R702). -/
def Obligations.RegionIsolation : Prop :=
  (∀ (s : State) (region : Fin 23), s.dev.mode.diesUp = true → region.val < 19 → s.dev.isolated region.val = false →
      Answers (.codeViolationReport region) s (fun t => t.dev.isolated region.val = true ∧ (t.dev.region region.val).isoCause = 1 ∧
      (t.dev.region region.val).inReset = [] ∧ (region.val = 17 → t.dev.cust.jobs = []) ∧ (∀ r, r ≠ region.val → t.dev.region r = s.dev.region r) ∧
      (region.val ∉ [4, 10, 18] → s.hears (regionDie region.val) → s.told t (regionDie region.val) 0x0F8 (le 1 region.val) 1) ∧
      Dev.OnlyChanged [.arch, .dma, .fresh, .own, .cust, .net, .sw, .ten] [] [.DMA_ABORTS] s.dev t.dev)) ∧
  (∀ (s : State) (req : Requester) (region : Fin 23), s.dev.served = true → region.val < 19 → s.dev.isolated region.val = false →
      Answers (.isolate req region) s (fun t => t.dev.isolated region.val = true ∧ (t.dev.region region.val).isoCause = 4 ∧
      (t.dev.region region.val).inReset = [] ∧ (region.val = 17 → t.dev.cust.jobs = []) ∧ (∀ r, r ≠ region.val → t.dev.region r = s.dev.region r) ∧
      (region.val ∉ [4, 10, 18] → s.hears (regionDie region.val) → s.told t (regionDie region.val) 0x0F8 (le 1 region.val) 4) ∧
      Dev.OnlyChanged [.arch, .dma, .fresh, .own, .cust, .net, .sw, .ten] [] [.DMA_ABORTS] s.dev t.dev)) ∧
  (∀ (s : State) (req : Requester) (region : Fin 23), 18 < region.val →
      Answers (.isolate req region) s (fun t => Dev.OnlyChanged [] [] [] s.dev t.dev) ∧
      Answers (.release req region) s (fun t => Dev.OnlyChanged [] [] [] s.dev t.dev)) ∧
  (∀ (s : State) (req : Requester) (region : Fin 23), s.dev.served = true → region.val < 19 → s.dev.isolated region.val = true → (s.dev.region region.val).testing = false → s.dev.modeNow ≠ .safe →
      Answers (.release req region) s (fun t => (t.dev.region region.val).testing = true ∧ t.dev.isolated region.val = true ∧
      (t.dev.region region.val).pacePs = 0 ∧ (∀ r, r ≠ region.val → t.dev.region r = s.dev.region r) ∧ Dev.OnlyChanged [.arch, .net, .sw, .ten] [] [] s.dev t.dev)) ∧
  (∀ (s : State) (req : Requester) (region : Fin 23), s.dev.modeNow = .safe →
      Answers (.release req region) s (fun t => Dev.OnlyChanged [] [] [] s.dev t.dev)) ∧
  (∀ (s : State) (region : Fin 19) (tokensOk : Bool) (n : Nat) (trained : BitVec 6) (blocks : List Fetched), (s.dev.region region.val).testing = true → s.dev.isolated region.val = true → tokensOk = false ∨ paceOf n < 250 ∨ 1000 < paceOf n →
      Answers (.releaseSelfTestEnd region tokensOk n trained blocks) s (fun t =>
      t.dev.isolated region.val = true ∧ (t.dev.region region.val).testing = false ∧ (t.dev.region region.val).isoCause = 5 ∧
      (t.dev.region region.val).pacePs = paceOf n ∧ (s.hears (regionDie region.val) → s.told t (regionDie region.val) 0x0F8 (le 1 region.val) 5) ∧
      (∀ r, r ≠ region.val → t.dev.region r = s.dev.region r) ∧ Dev.OnlyChanged [.arch, .net, .sw, .ten] [] [] s.dev t.dev)) ∧
  (∀ (s : State) (region : Fin 19) (n : Nat) (blocks : List Fetched), (s.dev.region region.val).testing = true → 250 ≤ paceOf n → paceOf n ≤ 1000 →
      Answers (.releaseSelfTestEnd region true n 63#6 blocks) s (fun t =>
      t.dev.isolated region.val = false ∧ (t.dev.region region.val).testing = false ∧ (t.dev.region region.val).isoCause = 0 ∧
      (∀ r, r ≠ region.val → t.dev.region r = s.dev.region r) ∧
      (12 ≤ region.val → Dev.OnlyChanged [.arch, .dma, .evr, .net, .sw, .ten] [] [] s.dev t.dev) ∧
      (region.val < 12 → region.val % 6 ≠ 5 → (∀ i, i < 5 → region.val / 6 * 6 + i ≠ region.val → s.dev.isolated (region.val / 6 * 6 + i) = false) →
      (t.dev.pier (region.val / 6)).staged = [] ∧ (t.dev.pier (region.val / 6)).accs = [])))

/-- A good flit ends the count of failed transmissions; a bad one with fewer than eight failed replays asks for a replay, counts it and tells event 0FAh on Plinth where an end reaches it; the next one takes the seam down, tells 0FBh and isolates its seam regions with ISO_CAUSE 3. Seam 5 trains again when its wait is over; a seam that trains while no seam region of its is isolated carries flits again. Reading SEAM_STAT returns UP and REPLAYS and clears REPLAYS; a gauge window's end sets PACE_PS and the maximum, which reading PACE returns and clears; the third implausible window running is an alarm (01 R25-R31, R701). -/
def Obligations.SeamsAndPace : Prop :=
  (∀ (s : State) (seam : Fin 6), s.dev.seamUp seam.val = true →
      Answers (.seamFlitReceive seam true) s (fun t => (t.dev.seam seam.val).bad = 0 ∧ t.dev.seamUp seam.val = true ∧
      (∀ k, k ≠ seam.val → t.dev.seam k = s.dev.seam k) ∧ Dev.OnlyChanged [.arch, .net, .sw, .ten] [] [] s.dev t.dev)) ∧
  (∀ (s : State) (seam : Fin 6), s.dev.seamUp seam.val = true → (s.dev.seam seam.val).bad < 8 →
      Answers (.seamFlitReceive seam false) s (fun t => (t.dev.seam seam.val).bad = (s.dev.seam seam.val).bad + 1 ∧
      (t.dev.seam seam.val).replays = sat 0xFFFF ((s.dev.seam seam.val).replays + 1) ∧ t.dev.seamUp seam.val = true ∧
      Out.replayRequest seam.val ∈ t.dev.out ∧ (s.dev.seamReporter seam.val = .pl → s.told t .pl 0x0FA (le 1 seam.val)) ∧
      (∀ k, k ≠ seam.val → t.dev.seam k = s.dev.seam k) ∧ Dev.OnlyChanged [.arch, .net, .sw, .ten] [] [] s.dev t.dev)) ∧
  (∀ (s : State) (seam : Fin 6), s.dev.seamUp seam.val = true → 8 ≤ (s.dev.seam seam.val).bad →
      Answers (.seamFlitReceive seam false) s (fun t => (t.dev.seam seam.val).down = true ∧ t.dev.seamUp seam.val = false ∧
      (s.dev.seamReporter seam.val = .pl → s.told t .pl 0x0FB (le 1 seam.val)) ∧
      (∀ r, r ∈ seamRegions seam.val → t.dev.isolated r = true ∧ (t.dev.region r).isoCause = 3) ∧
      (∀ r, r ∉ seamRegions seam.val → t.dev.region r = s.dev.region r) ∧ Dev.OnlyChanged [.arch, .net, .sw, .ten] [] [] s.dev t.dev)) ∧
  (∀ (s : State), s.dev.mode.diesUp = true → (s.dev.seam 5).down = true → (s.dev.seam 5).downAt ≤ s.dev.now →
      Answers .seam5Retrain s (fun t => (t.dev.seam 5).training = true ∧ (t.dev.seam 5).downAt = s.dev.now + 1000000000 ∧
      Dev.OnlyChanged [.arch, .net, .sw, .ten] [] [] s.dev t.dev)) ∧
  (∀ (s : State) (seam : Fin 6), s.dev.mode.diesUp = true → (s.dev.seam seam.val).training = true → ∀ r, r ∈ seamRegions seam.val → s.dev.isolated r = false →
      Answers (.seamUp seam) s (fun t => t.dev.seamUp seam.val = true ∧ (t.dev.seam seam.val).down = false ∧ (t.dev.seam seam.val).training = false ∧
      ((s.dev.seam seam.val).down = true → (s.dev.seam seam.val).everUp = true → s.told t .pl 0x0FD (le 1 seam.val)) ∧
      Dev.OnlyChanged [.arch, .net, .sw, .ten] [] [] s.dev t.dev)) ∧
  (∀ (s : State) (req : Requester) (seam : Fin 6), s.dev.served = true →
      Answers (.seamStatRead req seam) s (fun t =>
      Out.value req (BitVec.ofNat 32 ((s.dev.seamUp seam.val).toNat * 2 ^ 31 + (s.dev.seam seam.val).replays)) ∈ t.dev.out ∧
      (t.dev.seam seam.val).replays = 0 ∧ (∀ k, k ≠ seam.val → t.dev.seam k = s.dev.seam k) ∧ Dev.OnlyChanged [.arch, .net, .sw, .ten] [] [] s.dev t.dev)) ∧
  (∀ (s : State) (region : Fin 19) (n : Nat), s.dev.mode.diesUp = true → s.dev.nowOn (regionDie region.val) % 1000 = 0 → (s.dev.region region.val).gaugeFrom + 1000 ≤ s.dev.nowOn (regionDie region.val) → 250 ≤ paceOf n → paceOf n ≤ 1000 →
      Answers (.paceWindowEnd region n) s (fun t => (t.dev.region region.val).pacePs = paceOf n ∧
      (t.dev.region region.val).paceMax = max (s.dev.region region.val).paceMax (paceOf n) ∧ (t.dev.region region.val).badWindows = 0 ∧
      Dev.OnlyChanged [.arch, .net, .sw, .ten] [] [] s.dev t.dev)) ∧
  (∀ (s : State) (region : Fin 19), s.dev.mode.diesUp = true → s.dev.nowOn (regionDie region.val) % 1000 = 0 → (s.dev.region region.val).gaugeFrom + 1000 ≤ s.dev.nowOn (regionDie region.val) → (s.dev.region region.val).badWindows = 2 →
      Answers (.paceWindowEnd region 0) s (fun t => (t.dev.region region.val).pacePs = 0xFFFF ∧ (t.dev.region region.val).badWindows = 3 ∧ t.dev.modeNow = .safe)) ∧
  (∀ (s : State) (req : Requester) (region : Fin 19), s.dev.served = true →
      Answers (.paceRead req region) s (fun t =>
      Out.value req (BitVec.ofNat 32 ((s.dev.region region.val).paceMax * 65536 + (s.dev.region region.val).pacePs)) ∈ t.dev.out ∧
      (t.dev.region region.val).paceMax = 0 ∧ (t.dev.region region.val).pacePs = (s.dev.region region.val).pacePs ∧
      (∀ r, r ≠ region.val → t.dev.region r = s.dev.region r) ∧ Dev.OnlyChanged [.arch, .net, .sw, .ten] [] [] s.dev t.dev))

/-- In a pass every 100 µs the governor asks a governed rail whose slowest region is more than 10 ps above its target for 5 mV more, more than 10 ps below it for 5 mV less, within its limits, and asks nothing while the reading is within 10 ps. An acknowledged voltage takes effect; a failed transaction is told as 0F2h once and retried after 100 ms; readings are kept. An alignment message loads a copy of device time that is off by more than 2 ns and tells 0F4h, and leaves a smaller drift (01 R32-R39). -/
def Obligations.GovernorAndTimebase : Prop :=
  (∀ (s : State) (k : Fin 3), s.dev.mode.diesUp = true → s.dev.now % 100000 = 0 → s.dev.governed k.val = true → (s.dev.rail k.val).asked = none → s.dev.paceTarget k.val + 10 < s.dev.railPace k.val → s.dev.fld .GOV_LIM_VMIN_MV k.val ≤ (s.dev.rail k.val).volt + 5 → (s.dev.rail k.val).volt + 5 ≤ s.dev.fld .GOV_LIM_VMAX_MV k.val →
      Answers .governorPass s (fun t => (t.dev.rail k.val).asked = some ((s.dev.rail k.val).volt + 5) ∧
      Out.pmbusVout k.val (s.dev.fld .GOV_CTL_PMB_ADDR k.val) ((s.dev.rail k.val).volt + 5) ∈ t.dev.out ∧
      (t.dev.rail k.val).voutCmd = (s.dev.rail k.val).voutCmd ∧ Dev.OnlyChanged [.arch, .nvme, .net, .sw, .ten] [] [] s.dev t.dev)) ∧
  (∀ (s : State) (k : Fin 3), s.dev.mode.diesUp = true → s.dev.now % 100000 = 0 → s.dev.governed k.val = true → (s.dev.rail k.val).asked = none → 0 < s.dev.railPace k.val → s.dev.railPace k.val + 10 < s.dev.paceTarget k.val → s.dev.fld .GOV_LIM_VMIN_MV k.val + 5 ≤ (s.dev.rail k.val).volt → (s.dev.rail k.val).volt ≤ s.dev.fld .GOV_LIM_VMAX_MV k.val →
      Answers .governorPass s (fun t => (t.dev.rail k.val).asked = some ((s.dev.rail k.val).volt - 5) ∧
      Out.pmbusVout k.val (s.dev.fld .GOV_CTL_PMB_ADDR k.val) ((s.dev.rail k.val).volt - 5) ∈ t.dev.out ∧ Dev.OnlyChanged [.arch, .nvme, .net, .sw, .ten] [] [] s.dev t.dev)) ∧
  (∀ (s : State) (k : Fin 3), s.dev.railPace k.val ≤ s.dev.paceTarget k.val + 10 → s.dev.paceTarget k.val ≤ s.dev.railPace k.val + 10 →
      Answers .governorPass s (fun t => (t.dev.rail k.val).asked = (s.dev.rail k.val).asked ∧ (t.dev.rail k.val).voutCmd = (s.dev.rail k.val).voutCmd)) ∧
  (∀ (s : State) (rail : Fin 10) (v : Nat), (s.dev.rail rail.val).asked = some v →
      Answers (.pmbusTransactionEnd rail .ack) s (fun t => t.dev.rail rail.val = { s.dev.rail rail.val with failing := false, voutCmd := v, asked := none } ∧
      (∀ k, k ≠ rail.val → t.dev.rail k = s.dev.rail k) ∧ Dev.OnlyChanged [.arch, .net, .sw, .ten] [] [] s.dev t.dev)) ∧
  (∀ (s : State) (rail : Fin 10) (mv : Nat),
      Answers (.pmbusTransactionEnd rail .fail) s (fun t => (t.dev.rail rail.val).failing = true ∧ (t.dev.rail rail.val).retryAt = s.dev.now + 100000000 ∧
      (t.dev.rail rail.val).asked = (s.dev.rail rail.val).asked ∧ ((s.dev.rail rail.val).failing = false → s.told t .pl 0x0F2) ∧
      Dev.OnlyChanged [.arch, .net, .sw, .ten] [] [] s.dev t.dev) ∧
      Answers (.pmbusTransactionEnd rail (.readVout mv)) s (fun t => (t.dev.rail rail.val).readMv = mv ∧
      (t.dev.rail rail.val).pg = ((s.dev.rail rail.val).on && decide ((railRange rail.val).1 ≤ mv) && decide (mv ≤ (railRange rail.val).2)) ∧
      Dev.OnlyChanged [.arch, .net, .sw, .ten] [] [] s.dev t.dev) ∧
      Answers (.pmbusTransactionEnd rail (.readIout mv)) s (fun t => t.dev.rail rail.val = { s.dev.rail rail.val with failing := false, iout := mv } ∧
      Dev.OnlyChanged [.arch, .net, .sw, .ten] [] [] s.dev t.dev) ∧
      Answers (.pmbusTransactionEnd rail (.readPout mv)) s (fun t => t.dev.rail rail.val = { s.dev.rail rail.val with failing := false, pout := mv } ∧
      Dev.OnlyChanged [.arch, .net, .sw, .ten] [] [] s.dev t.dev)) ∧
  (∀ (s : State) (rail : Fin 10) (v : Nat), (s.dev.rail rail.val).failing = true → (s.dev.rail rail.val).retryAt ≤ s.dev.now → (s.dev.rail rail.val).asked = some v →
      Answers (.pmbusRetry rail) s (fun t => Out.pmbusVout rail.val (s.dev.fld .GOV_CTL_PMB_ADDR rail.val) v ∈ t.dev.out ∧ (t.dev.rail rail.val).asked = some v ∧
      (t.dev.rail rail.val).retryAt = s.dev.now + 100000000 ∧ Dev.OnlyChanged [.arch, .net, .sw, .ten] [] [] s.dev t.dev)) ∧
  (∀ (s : State) (a b c : Int), s.dev.mode.diesUp = true → s.dev.now % 1048576 = 0 → s.dev.reachesPlinth .pe = true → s.dev.reachesPlinth .pw = true → s.dev.reachesPlinth .ln = true →
      Answers (.timebaseAlignment a b c) s (fun t => t.dev.arch.offPE = (if 2 < a.natAbs then 0 else a) ∧ t.dev.arch.offPW = (if 2 < b.natAbs then 0 else b) ∧
      t.dev.arch.offLN = (if 2 < c.natAbs then 0 else c) ∧ (2 < c.natAbs → s.hears .ln → s.toldOf t .ln 0x0F4) ∧
      (∀ d, d ≠ .pl → Out.alignment d s.dev.now ∈ t.dev.out) ∧ t.dev.time = s.dev.time ∧ (∀ r, t.dev.region r = s.dev.region r) ∧
      Dev.OnlyChanged [.arch, .net, .sw, .ten] [] [] s.dev t.dev))

/-- Of a served control space with the ports region running: PORT_CFG stores PHY, SPLIT and ENABLE; a changed SPLIT or PHY of an enabled port, or PHY 11b, is discarded with its PORT_ERR bit and event 104h; clearing ENABLE takes the port's MACs down. A MAC is enabled only with a unicast address that is not zero, and takes IP addresses only while disabled. Its link comes up after 10 ms of lock with event 100h; going down discards every frame of its queues, returns their cells and counts them, with events 101h and 103h; an address found duplicate is not used, event 107h (02 R54-R63). -/
def Obligations.PortAndMacConfiguration : Prop :=
  (∀ (s : State) (req : Requester) (port : Fin 8) (v : Word), s.dev.served = true → s.dev.isolated 12 = false → bitsOf v 3 2 ≠ 3 → s.dev.flag .PORT_CFG_ENABLE port.val = false → v.getLsbD 31 = true →
      Answers (.portCfgWrite req port v) s (fun t => t.dev.fld .PORT_CFG_PHY port.val = bitsOf v 3 2 ∧ t.dev.fld .PORT_CFG_SPLIT port.val = bitsOf v 1 0 ∧
      t.dev.fld .PORT_CFG_ENABLE port.val = 1 ∧ Dev.OnlyChanged [.fw] [.PORT_CFG_PHY, .PORT_CFG_SPLIT, .PORT_CFG_ENABLE] [] s.dev t.dev)) ∧
  (∀ (s : State) (req : Requester) (port : Fin 8) (v : Word), s.dev.served = true → s.dev.isolated 12 = false → bitsOf v 3 2 ≠ 3 → bitsOf v 3 2 = s.dev.fld .PORT_CFG_PHY port.val → bitsOf v 1 0 = s.dev.fld .PORT_CFG_SPLIT port.val → v.getLsbD 31 = false →
      Answers (.portCfgWrite req port v) s (fun t => t.dev.fld .PORT_CFG_ENABLE port.val = 0 ∧ (∀ m, m / 8 = port.val → (t.dev.mac m).link = false) ∧
      Dev.OnlyChanged [.fw, .net, .sw] [.PORT_CFG_ENABLE] [.MAC_TX_DISCARD] s.dev t.dev)) ∧
  (∀ (s : State) (req : Requester) (port : Fin 8) (v : Word), s.dev.served = true → s.dev.isolated 12 = false → bitsOf v 3 2 = 3 ∨ (s.dev.flag .PORT_CFG_ENABLE port.val = true ∧ (bitsOf v 3 2 ≠ s.dev.fld .PORT_CFG_PHY port.val ∨ bitsOf v 1 0 ≠ s.dev.fld .PORT_CFG_SPLIT port.val)) →
      Answers (.portCfgWrite req port v) s (fun t => (bitsOf v 3 2 = 3 → t.dev.fld .PORT_ERR_PHY_BAD port.val = 1) ∧
      (s.dev.flag .PORT_CFG_ENABLE port.val = true → bitsOf v 1 0 ≠ s.dev.fld .PORT_CFG_SPLIT port.val → t.dev.fld .PORT_ERR_CFG_BUSY port.val = 1) ∧
      (s.hears .ln → s.told t .ln 0x104 (le 8 (Reg.addr .PORT_CFG port.val))) ∧ Dev.OnlyChanged [.fw] [.PORT_ERR_PHY_BAD, .PORT_ERR_CFG_BUSY] [] s.dev t.dev)) ∧
  (∀ (s : State) (req : Requester) (mac : Fin 64) (v : Word), s.dev.served = true → s.dev.isolated 12 = false → s.dev.macExists mac.val = true → s.dev.flag .MAC_CFG_ENABLE mac.val = false → v.getLsbD 31 = true → s.dev.macAddr mac.val ≠ 0 → s.dev.macAddr mac.val / 2 ^ 40 % 2 = 0 →
      Answers (.macEnable req mac v) s (fun t => t.dev.fld .MAC_CFG_ENABLE mac.val = 1 ∧ t.dev.fld .MAC_CFG_MAX_FRAME mac.val = clampTo 1518 9216 (bitsOf v 13 0) ∧
      t.dev.fld .MAC_CFG_CBS_OVH mac.val = overheadStored (bitsOf v 22 16) ∧
      Dev.OnlyChanged [.fw] [.MAC_CFG_ENABLE, .MAC_CFG_MAX_FRAME, .MAC_CFG_CBS_OVH] [] s.dev t.dev)) ∧
  (∀ (s : State) (req : Requester) (mac : Fin 64) (v : Word), s.dev.served = true → s.dev.isolated 12 = false → s.dev.macExists mac.val = true → v.getLsbD 31 = false →
      Answers (.macEnable req mac v) s (fun t => t.dev.fld .MAC_CFG_ENABLE mac.val = 0 ∧ (t.dev.mac mac.val).link = false ∧
      (t.dev.mac mac.val).dadGlobal = false ∧ Dev.OnlyChanged [.fw, .net, .sw] [.MAC_CFG_ENABLE, .MAC_CFG_MAX_FRAME, .MAC_CFG_CBS_OVH] [.MAC_TX_DISCARD] s.dev t.dev)) ∧
  (∀ (s : State) (req : Requester) (mac : Fin 64) (v : Word), s.dev.served = true → s.dev.isolated 12 = false → s.dev.macExists mac.val = true → s.dev.flag .MAC_CFG_ENABLE mac.val = false →
      Answers (.macIpWrite req mac 0 v) s (fun t => t.dev.fld .MAC_IP4_ADDR mac.val = v.toNat ∧ Dev.OnlyChanged [.fw] [.MAC_IP4_ADDR] [] s.dev t.dev) ∧
      (∀ w : Fin 4, Answers (.macIpWrite req mac ⟨w.val + 1, by omega⟩ v) s (fun t => t.dev.fld .MAC_IP6_ADDR (mac.val * 4 + w.val) = v.toNat ∧
      Dev.OnlyChanged [.fw] [.MAC_IP6_ADDR] [] s.dev t.dev))) ∧
  (∀ (s : State) (req : Requester) (mac : Fin 64) (which : Fin 5) (v : Word), s.dev.served = true → s.dev.isolated 12 = false → s.dev.macExists mac.val = true → s.dev.flag .MAC_CFG_ENABLE mac.val = true →
      Answers (.macIpWrite req mac which v) s (fun t => (s.hears .ln → s.toldOf t .ln 0x104) ∧ Dev.OnlyChanged [] [] [] s.dev t.dev)) ∧
  (∀ (s : State) (mac : Fin 64) (lockedNs tw : Nat) (able partner : Bool), s.dev.macMayRun mac.val = true → (s.dev.mac mac.val).link = false → 10000000 < lockedNs →
      Answers (.linkUp mac lockedNs able partner tw) s (fun t => (t.dev.mac mac.val).link = true ∧ (t.dev.mac mac.val).twTx = tw ∧
      (t.dev.mac mac.val).eeeAble = able ∧ (t.dev.mac mac.val).partnerEee = partner ∧ (s.hears .ln → s.told t .ln 0x100 (le 1 mac.val)) ∧
      (∀ m, m ≠ mac.val → t.dev.mac m = s.dev.mac m) ∧ Dev.OnlyChanged [.net] [] [] s.dev t.dev)) ∧
  (∀ (s : State) (mac : Fin 64), (s.dev.mac mac.val).link = true →
      Answers (.linkDown mac) s (fun t => (t.dev.mac mac.val).link = false ∧ (t.dev.mac mac.val).allEmpty = true ∧ (t.dev.mac mac.val).wire = none ∧
      (s.dev.ctr .MAC_TX_DISCARD mac.val < 2 ^ 64 → t.dev.ctr .MAC_TX_DISCARD mac.val = (s.dev.ctr .MAC_TX_DISCARD mac.val + (s.dev.mac mac.val).wire.toList.length + (s.dev.mac mac.val).eq0.length +
      (s.dev.mac mac.val).eq1.length + (s.dev.mac mac.val).eq2.length + (s.dev.mac mac.val).eq3.length) % 2 ^ 64) ∧
      (∀ u ∈ t.dev.sw.units, ∀ f ∈ (s.dev.mac mac.val).eq0, f.unit ≠ some u.id) ∧ (s.hears .ln → s.told t .ln 0x101 (le 1 mac.val)) ∧
      (∀ m, m ≠ mac.val → t.dev.mac m = s.dev.mac m) ∧ Dev.OnlyChanged [.net, .sw] [] [.MAC_TX_DISCARD] s.dev t.dev)) ∧
  (∀ (s : State) (mac : Fin 64) (g l : Bool), (s.dev.mac mac.val).link = true →
      Answers (.duplicateAddressDetectionEnd mac g l) s (fun t =>
      (t.dev.mac mac.val).dadLocal = ((s.dev.mac mac.val).dadLocal || l) ∧
      (t.dev.mac mac.val).dadGlobal = ((s.dev.mac mac.val).dadGlobal || (g && s.dev.macIp6 mac.val != 0)) ∧ (l = true → s.hears .ln → s.told t .ln 0x107 (le 1 mac.val)) ∧
      Dev.OnlyChanged [.net] [] [] s.dev t.dev))

/-- On a MAC whose link is up: a well-formed frame its checks accept is delivered and counted when the pool takes its cells; one that fails the FCS check is counted as such, its cells return, and it is not delivered. A request for an address the MAC holds is answered. On an idle wire the highest eligible queue starts its first frame; a frame that ends is counted and the wire is idle again. Credits are brought up to date when they reach 0. A slope at or above the MAC's rate is refused with event 104h, one within the limits is stored (02 R62-R74, 06 R254). -/
def Obligations.FramesAndShaping : Prop :=
  (∀ (s : State) (mac : Fin 64) (f : RxFrame), (s.dev.mac mac.val).link = true → (match f.kind with | .roceReadResponse _ _ _ => false | _ => true) = true → s.dev.outputUnavailable (rxRoute f.kind).1 = false → f.length ≤ s.dev.fld .MAC_CFG_MAX_FRAME mac.val → cellsPassing (s.dev.alphaExp (rxRoute f.kind).2) (s.dev.voqOcc (mac.val / 8) (rxRoute f.kind).1 (rxRoute f.kind).2) s.dev.poolFree (ceilDiv f.length 256) = ceilDiv f.length 256 → s.dev.rxCheck mac.val (if (s.dev.mac mac.val).askSecond = s.dev.nowOn .ln / sec then (s.dev.mac mac.val).asks else 0) f = none →
      Answers (.frameReceive mac f) s (fun t => Out.delivered mac.val (rxRoute f.kind).1 f.length ∈ t.dev.out ∧
      t.dev.ctr .MAC_RX_FRAMES mac.val = (s.dev.ctr .MAC_RX_FRAMES mac.val + 1) % 2 ^ 64 ∧
      t.dev.ctr .MAC_RX_BYTES mac.val = (s.dev.ctr .MAC_RX_BYTES mac.val + f.length) % 2 ^ 64 ∧
      (∃ u ∈ t.dev.sw.units, u.id = s.dev.sw.nextId ∧ u.output = (rxRoute f.kind).1 ∧ u.cells = ceilDiv f.length 256) ∧
      Dev.OnlyChanged [.net, .sw] [] [.MAC_FEC_CORR, .MAC_FEC_UNCORR, .MAC_RX_FRAMES, .MAC_RX_BYTES, .SW_CELLS_ALLOC] s.dev t.dev)) ∧
  (∀ (s : State) (mac : Fin 64) (f : RxFrame), (s.dev.mac mac.val).link = true → (match f.kind with | .roceReadResponse _ _ _ => false | _ => true) = true → s.dev.outputUnavailable (rxRoute f.kind).1 = false → f.pcsOk = true → 64 ≤ f.length → f.length ≤ s.dev.fld .MAC_CFG_MAX_FRAME mac.val → f.fcsOk = false → cellsPassing (s.dev.alphaExp (rxRoute f.kind).2) (s.dev.voqOcc (mac.val / 8) (rxRoute f.kind).1 (rxRoute f.kind).2) s.dev.poolFree (ceilDiv f.length 256) = ceilDiv f.length 256 →
      Answers (.frameReceive mac f) s (fun t => t.dev.ctr .MAC_RX_FCS_ERR mac.val = (s.dev.ctr .MAC_RX_FCS_ERR mac.val + 1) % 2 ^ 64 ∧
      (∀ u ∈ t.dev.sw.units, u.id ≠ s.dev.sw.nextId) ∧
      Dev.OnlyChanged [.sw] [] [.MAC_FEC_CORR, .MAC_FEC_UNCORR, .MAC_RX_FCS_ERR, .SW_CELLS_ALLOC] s.dev t.dev)) ∧
  (∀ (s : State) (mac : Fin 64) (f : RxFrame) (v4 : Bool) (dst : BitVec 128) (qp : Nat) (r : Reservation) (rs : List Reservation), (s.dev.mac mac.val).link = true → f.kind = .roceReadResponse v4 dst qp → s.dev.sw.rsv = r :: rs → r.qp = qp → r.input = mac.val / 8 → f.length ≤ s.dev.fld .MAC_CFG_MAX_FRAME mac.val → ceilDiv f.length 256 ≤ r.cells → r ∉ rs → s.dev.rxCheck mac.val 0 f = none →
      Answers (.frameReceive mac f) s (fun t => Out.delivered mac.val 15 f.length ∈ t.dev.out ∧
      t.dev.sw.rsv = { r with cells := r.cells - ceilDiv f.length 256 } :: rs ∧
      (∃ u ∈ t.dev.sw.units, u.id = s.dev.sw.nextId ∧ u.output = r.output ∧ u.cells = ceilDiv f.length 256) ∧
      Dev.OnlyChanged [.sw] [] [.MAC_FEC_CORR, .MAC_FEC_UNCORR, .MAC_RX_FRAMES, .MAC_RX_BYTES] s.dev t.dev)) ∧
  (∀ (s : State) (mac : Fin 64) (ip : BitVec 32), (s.dev.mac mac.val).link = true → ip ≠ 0 → ip.toNat = s.dev.fld .MAC_IP4_ADDR mac.val →
      Answers (.addressResolutionFrame mac (.arp ip)) s (fun t => Out.resolved mac.val (.arp ip) ∈ t.dev.out ∧ t.dev.sw.nextId = s.dev.sw.nextId + 1 ∧
      Dev.OnlyChanged [.net, .sw] [] [.SW_CELLS_ALLOC, .SW_ADMIT_WAITS] s.dev t.dev)) ∧
  (∀ (s : State) (mac : Fin 64) (f : TxFrame) (rest : List TxFrame), (s.dev.mac mac.val).link = true → (s.dev.mac mac.val).wire = none → (s.dev.mac mac.val).txLpi = false → (s.dev.mac mac.val).waking = none → s.dev.queueEligible mac.val 0 = false → s.dev.queueEligible mac.val 1 = true → (s.dev.mac mac.val).eq1 = f :: rest →
      Answers (.transmissionSelection mac) s (fun t => (t.dev.mac mac.val).wire = some (1, f) ∧ (t.dev.mac mac.val).eq1 = rest ∧
      (t.dev.mac mac.val).eq0 = (s.dev.mac mac.val).eq0 ∧ (t.dev.mac mac.val).eq2 = (s.dev.mac mac.val).eq2 ∧ (t.dev.mac mac.val).eq3 = (s.dev.mac mac.val).eq3 ∧
      Out.frameStart mac.val 1 f.bytes ∈ t.dev.out ∧ (∀ m, m ≠ mac.val → t.dev.mac m = s.dev.mac m) ∧ Dev.OnlyChanged [.net] [] [] s.dev t.dev)) ∧
  (∀ (s : State) (mac : Fin 64) (q : Nat) (f : TxFrame), (s.dev.mac mac.val).wire = some (q, f) →
      Answers (.frameTransmitEnd mac) s (fun t => (t.dev.mac mac.val).wire = none ∧ Out.frameEnd mac.val f.bytes true ∈ t.dev.out ∧
      t.dev.ctr .MAC_TX_FRAMES mac.val = (s.dev.ctr .MAC_TX_FRAMES mac.val + 1) % 2 ^ 64 ∧ t.dev.ctr .MAC_TX_BYTES mac.val = (s.dev.ctr .MAC_TX_BYTES mac.val + f.bytes) % 2 ^ 64 ∧
      (∀ j, (t.dev.mac mac.val).queue j = (s.dev.mac mac.val).queue j) ∧ (∀ m, m ≠ mac.val → t.dev.mac m = s.dev.mac m) ∧
      Dev.OnlyChanged [.net, .sw] [] [.MAC_TX_FRAMES, .MAC_TX_BYTES] s.dev t.dev)) ∧
  (∀ (s : State) (mac : Fin 64) (q : Fin 3), s.dev.flag .CBS_SLOPE_EN (mac.val * 3 + q.val) = true → 0 ≤ s.dev.creditNow mac.val q.val →
      Answers (.cbsCreditZero mac q) s (fun t => ((t.dev.mac mac.val).credit q.val) = ⟨s.dev.creditNow mac.val q.val, s.dev.nowOn .ln⟩ ∧
      (∀ j, (t.dev.mac mac.val).queue j = (s.dev.mac mac.val).queue j) ∧ (∀ m, m ≠ mac.val → t.dev.mac m = s.dev.mac m) ∧ Dev.OnlyChanged [.net] [] [] s.dev t.dev)) ∧
  (∀ (s : State) (req : Requester) (mac : Fin 64) (q : Fin 3) (v : Word), s.dev.served = true → s.dev.isolated 12 = false → s.dev.macExists mac.val = true → ∀ j, j < 3 → j ≠ q.val → s.dev.flag .CBS_SLOPE_EN (mac.val * 3 + j) = false →
      (4 * bitsOf v 23 0 ≤ 3 * s.dev.macRate mac.val → 0 < bitsOf v 23 0 → Answers (.cbsSlopeWrite req mac q v) s (fun t =>
      t.dev.fld .CBS_SLOPE_IDLE (mac.val * 3 + q.val) = bitsOf v 23 0 ∧ t.dev.fld .CBS_SLOPE_EN (mac.val * 3 + q.val) = bitsOf v 31 31 ∧
      Dev.OnlyChanged [.fw, .net] [.CBS_SLOPE_IDLE, .CBS_SLOPE_EN] [] s.dev t.dev)) ∧
      (s.dev.macRate mac.val ≤ bitsOf v 23 0 → Answers (.cbsSlopeWrite req mac q v) s (fun t =>
      (s.hears .ln → s.told t .ln 0x104 (le 8 (Reg.addr .CBS_SLOPE (mac.val * 3 + q.val)))) ∧ Dev.OnlyChanged [] [] [] s.dev t.dev)))

/-- A MAC on which low-power idle is active enters it when its queues have been empty for longer than EEE_CFG.IDLE, counted. A frame for a MAC in it that the pool takes makes the MAC leave it and hold transmission for TW_TX, after which transmission may go on. A received EEE TLV gives TW_TX the larger of its Receive Tw and the PHY's minimum with event 105h, above TW_MAX it stops low-power idle on the MAC with event 106h; the TLV sent tells the MAC's wake times and echoes the partner's (02 R76-R80). -/
def Obligations.LowPowerIdleAndLldp : Prop :=
  (∀ (s : State) (mac : Fin 64), s.dev.eeeActive mac.val = true → (s.dev.mac mac.val).txLpi = false → (s.dev.mac mac.val).waking = none → (s.dev.mac mac.val).wire = none → (s.dev.mac mac.val).allEmpty = true → (s.dev.mac mac.val).emptySince + s.dev.fld .EEE_CFG_IDLE mac.val * 100 < s.dev.nowOn .ln →
      Answers (.lpiEnter mac) s (fun t => t.dev.mac mac.val = { s.dev.mac mac.val with txLpi := true } ∧
      t.dev.ctr .MAC_LPI_ENTRIES mac.val = (s.dev.ctr .MAC_LPI_ENTRIES mac.val + 1) % 2 ^ 64 ∧ (∀ m, m ≠ mac.val → t.dev.mac m = s.dev.mac m) ∧
      Dev.OnlyChanged [.net] [] [.MAC_LPI_ENTRIES] s.dev t.dev)) ∧
  (∀ (s : State) (mac : Fin 64) (q : Fin 4) (bytes : Nat), (s.dev.mac mac.val).txLpi = true → s.dev.outputUnavailable (mac.val / 8) = false → s.dev.sw.waiting = [] → fitsPool (s.dev.alphaExp (if q.val = 3 then 1 else 0)) (s.dev.voqOcc 15 (mac.val / 8) (if q.val = 3 then 1 else 0)) (ceilDiv bytes 256) s.dev.poolFree = true →
      Answers (.lpiWake mac q bytes) s (fun t => (t.dev.mac mac.val).txLpi = false ∧
      (t.dev.mac mac.val).waking = some (s.dev.nowOn .ln + (s.dev.mac mac.val).twTx * 1000) ∧
      (∃ f ∈ (t.dev.mac mac.val).queue q.val, f.unit = some s.dev.sw.nextId ∧ f.bytes = bytes) ∧ (∀ m, m ≠ mac.val → t.dev.mac m = s.dev.mac m) ∧
      Dev.OnlyChanged [.net, .sw] [] [.SW_CELLS_ALLOC] s.dev t.dev)) ∧
  (∀ (s : State) (mac : Fin 64) (at' : Nat), (s.dev.mac mac.val).waking = some at' → at' < s.dev.nowOn .ln →
      Answers (.lpiWakeEnd mac) s (fun t => t.dev.mac mac.val = { s.dev.mac mac.val with waking := none } ∧ (∀ m, m ≠ mac.val → t.dev.mac m = s.dev.mac m) ∧
      Dev.OnlyChanged [.net] [] [] s.dev t.dev)) ∧
  (∀ (s : State) (mac : Fin 64) (rx tx : Nat), (s.dev.mac mac.val).link = true → rx ≠ (s.dev.mac mac.val).twTx →
      (max rx (s.dev.mac mac.val).twMin ≤ s.dev.fld .EEE_CFG_TW_MAX mac.val → Answers (.lldpEeeTlvReceive mac rx tx) s (fun t =>
      (t.dev.mac mac.val).twTx = max rx (s.dev.mac mac.val).twMin ∧ (t.dev.mac mac.val).lldpDone = true ∧ (t.dev.mac mac.val).echoRx = rx ∧ (t.dev.mac mac.val).echoTx = tx ∧
      (max rx (s.dev.mac mac.val).twMin ≠ (s.dev.mac mac.val).twTx → s.hears .ln → s.told t .ln 0x105 (le 1 mac.val ++ le 2 (max rx (s.dev.mac mac.val).twMin))) ∧
      Dev.OnlyChanged [.net] [] [] s.dev t.dev)) ∧
      (s.dev.fld .EEE_CFG_TW_MAX mac.val < max rx (s.dev.mac mac.val).twMin → Answers (.lldpEeeTlvReceive mac rx tx) s (fun t =>
      (t.dev.mac mac.val).lpiStopped = true ∧ (t.dev.mac mac.val).txLpi = false ∧ (t.dev.mac mac.val).twTx = (s.dev.mac mac.val).twTx ∧
      (s.hears .ln → s.told t .ln 0x106 (le 1 mac.val)) ∧ Dev.OnlyChanged [.net] [] [] s.dev t.dev))) ∧
  (∀ (s : State) (mac : Fin 64), (s.dev.mac mac.val).link = true → s.dev.flag .EEE_CFG_EN mac.val = true → (s.dev.mac mac.val).eeeAble = true → (s.dev.mac mac.val).partnerEee = true →
      Answers (.lldpTransmit mac) s (fun t => Out.lldp mac.val (s.dev.mac mac.val).twTx (s.dev.mac mac.val).twMin (s.dev.mac mac.val).twMin
      (s.dev.mac mac.val).echoTx (s.dev.mac mac.val).echoRx ∈ t.dev.out ∧ t.dev.sw.nextId = s.dev.sw.nextId + 1 ∧
      Dev.OnlyChanged [.net, .sw] [] [.SW_CELLS_ALLOC, .SW_ADMIT_WAITS] s.dev t.dev))

/-- On the selected MAC with PTP enabled and device time loaded: an Announce of the domain makes its sender the one followed when none was; a one-step Sync of it keeps t1 and t2, a Delay_Req keeps t3 and is sent; three announce intervals without an Announce move to the alternative MAC or to holdover, with event 171h. The servo, with all four timestamps, measures the offset and keeps its trim within 200 ppm; a first lock with PTP time ahead by more than DISC_THR steps device time forward, any other offset is slewed and device time does not jump (02 R81-R87). -/
def Obligations.PrecisionTime : Prop :=
  (∀ (s : State) (mac : Fin 64) (a : PtpAnnounce), s.dev.ptpTakes mac.val = true → a.domain = s.dev.fld .PTP_CFG_DOMAIN → s.dev.net.ptp.source = none →
      Answers (.ptpAnnounceReceive mac a) s (fun t => t.dev.net.ptp = { s.dev.net.ptp with source := some a, announceAt := s.dev.nowOn .ln } ∧
      t.dev.net.macs = s.dev.net.macs ∧ Dev.OnlyChanged [.net] [] [] s.dev t.dev)) ∧
  (∀ (s : State) (mac : Fin 64) (a x : PtpAnnounce), s.dev.ptpTakes mac.val = true → a.domain = s.dev.fld .PTP_CFG_DOMAIN → s.dev.net.ptp.source = some x → a.source ≠ x.source → x.rank ≤ a.rank →
      Answers (.ptpAnnounceReceive mac a) s (fun t => t.dev.net.ptp.source = some x ∧ Dev.OnlyChanged [.net] [] [] s.dev t.dev)) ∧
  (∀ (s : State) (mac : Fin 64) (x : PtpAnnounce) (t1 : Nat) (k : Fin 16), s.dev.ptpTakes mac.val = true → s.dev.net.ptp.source = some x →
      Answers (.ptpEventReceive mac (.sync x.source false t1) k) s (fun t => t.dev.net.ptp = { s.dev.net.ptp with
      t1 := some t1, t2 := some ((s.dev.nowOn .ln * 16 + k.val : Nat) + signed 16 (s.dev.fld .PTP_DLY_RX_DLY mac.val)) } ∧
      t.dev.net.macs = s.dev.net.macs ∧ Dev.OnlyChanged [.net] [] [] s.dev t.dev)) ∧
  (∀ (s : State) (k : Fin 16), s.dev.ptpTakes s.dev.ptpMac = true → s.dev.net.ptp.t2.isSome = true →
      Answers (.ptpDelayReqSend k) s (fun t =>
      t.dev.net.ptp = { s.dev.net.ptp with t3 := some ((s.dev.nowOn .ln * 16 + k.val : Nat) + signed 16 (s.dev.fld .PTP_DLY_TX_DLY s.dev.ptpMac)), t4 := none } ∧
      Out.delayReq s.dev.ptpMac ((s.dev.nowOn .ln * 16 + k.val : Nat) + signed 16 (s.dev.fld .PTP_DLY_TX_DLY s.dev.ptpMac)) ∈ t.dev.out ∧
      Dev.OnlyChanged [.net] [] [] s.dev t.dev)) ∧
  (∀ (s : State) (i : Nat) (x : PtpAnnounce), s.dev.flag .PTP_CFG_EN = true → s.dev.net.ptp.state = .locked → s.dev.net.ptp.source = some x → s.dev.net.ptp.announceAt + 3 * x.intervalNs < s.dev.nowOn .ln →
      Answers (.ptpAnnounceTimeout i) s (fun t => t.dev.net.ptp.source = none ∧
      ((s.dev.net.ptp.onAlt = true ∨ s.dev.flag .PTP_CFG_ALT_EN = false) → t.dev.net.ptp.state = .holdover ∧ t.dev.net.ptp.onAlt = s.dev.net.ptp.onAlt) ∧
      (s.dev.net.ptp.onAlt = false → s.dev.flag .PTP_CFG_ALT_EN = true → (s.dev.mac (s.dev.fld .PTP_CFG_ALT_MAC)).link = true →
      t.dev.net.ptp.state = .acquiring ∧ t.dev.net.ptp.onAlt = true) ∧
      (s.hears .ln → s.told t .ln 0x171) ∧ t.dev.net.macs = s.dev.net.macs ∧ Dev.OnlyChanged [.net] [] [] s.dev t.dev)) ∧
  (∀ (s : State) (trim : Int) (locked : Bool) (t1 t4 : Nat) (t2 t3 : Int), s.dev.flag .PTP_CFG_EN = true → s.dev.timeLoaded = true → s.dev.net.ptp.t1 = some t1 → s.dev.net.ptp.t2 = some t2 → s.dev.net.ptp.t3 = some t3 → s.dev.net.ptp.t4 = some t4 → s.dev.net.ptp.everLocked = true ∨ locked = false →
      Answers (.ptpServoUpdate trim locked) s (fun t => t.dev.net.ptp.offset = satSigned 32 (((t2 - (t1 : Int) * 16) - ((t4 : Int) * 16 - t3)) / 32) ∧
      t.dev.net.ptp.freq = max (-200000) (min 200000 trim) ∧ t.dev.net.ptp.remain = satSigned 32 (-(((t2 - (t1 : Int) * 16) - ((t4 : Int) * 16 - t3)) / 32)) ∧
      (locked = true → t.dev.net.ptp.state = .locked) ∧ t.dev.time = s.dev.time ∧ t.dev.net.macs = s.dev.net.macs)) ∧
  (∀ (s : State) (trim : Int) (t1 t4 : Nat) (t2 t3 : Int), s.dev.flag .PTP_CFG_EN = true → s.dev.timeLoaded = true → s.dev.net.ptp.t1 = some t1 → s.dev.net.ptp.t2 = some t2 → s.dev.net.ptp.t3 = some t3 → s.dev.net.ptp.t4 = some t4 → s.dev.net.ptp.everLocked = false → s.dev.net.ptp.state = .acquiring → (s.dev.fld .PTP_DISC_DISC_THR : Int) < -(((t2 - (t1 : Int) * 16) - ((t4 : Int) * 16 - t3)) / 32) →
      Answers (.ptpServoUpdate trim true) s (fun t => t.dev.net.ptp.everLocked = true ∧ t.dev.net.ptp.remain = 0 ∧
      t.dev.time = s.dev.time + BitVec.ofNat 64 (-(((t2 - (t1 : Int) * 16) - ((t4 : Int) * 16 - t3)) / 32)).toNat ∧
      Out.discontinuity (-(((t2 - (t1 : Int) * 16) - ((t4 : Int) * 16 - t3)) / 32)) ∈ t.dev.out ∧ t.dev.net.macs = s.dev.net.macs))

/-- A request in sequence on a queue pair in RTS is executed: a SEND takes a receive slot, a WRITE or an ATOMIC WRITE places exactly its bytes in the window and no other byte changes, a READ answers the window's bytes, a FLUSH for persistence waits for durability; ePSN and MSN advance and SEND, WRITE and ATOMIC WRITE are acknowledged. Without a slot a SEND is answered with RNR NAK and ePSN stays; a failed key check is answered with NAK Remote Access Error and takes the queue pair to ERROR with event 183h and no byte changed. A packet with a bad ICRC, or for no live queue pair, is dropped and counted, and changes nothing else (03 R91-R128). -/
def Obligations.TransportRequests : Prop :=
  (∀ (s : State) (i : Nat) (p : RocePacket), s.dev.newRequest i p = true → p.opcode = 0x04 → p.data.length ≤ (s.dev.qp i).mtu → p.data.length ≤ 64 → (s.dev.qp i).inUse < (s.dev.qp i).held → (s.dev.qp i).flushes = [] →
      Answers (.rocePacketReceive p) s (fun t =>
      (t.dev.qp i).inUse = (s.dev.qp i).inUse + 1 ∧ (t.dev.qp i).ePsn = psnAdd p.psn 1 ∧ (t.dev.qp i).msn = (s.dev.qp i).msn + 1 ∧ (t.dev.qp i).st = .rts ∧
      (∃ k, Out.rdmaAck p.qpn p.psn (((s.dev.qp i).msn + 1) % 2 ^ 24) k ∈ t.dev.out) ∧ (∀ j, j ≠ i → t.dev.qp j = s.dev.qp j) ∧
      t.dev.rdma.mem = s.dev.rdma.mem ∧ t.dev.rdma.durable = s.dev.rdma.durable ∧
      Dev.OnlyChanged [.rdma, .sw, .ten] [] [.RD_RX_PKTS, .RD_TX_PKTS, .TN_POL_GREEN, .SW_CELLS_ALLOC, .SW_ADMIT_WAITS] s.dev t.dev)) ∧
  (∀ (s : State) (i : Nat) (p : RocePacket), s.dev.newRequest i p = true → p.opcode = 0x04 → p.data.length ≤ (s.dev.qp i).mtu → p.data.length ≤ 64 → (s.dev.qp i).inUse < (s.dev.qp i).held → (s.dev.qp i).flushes = [] →
      Answers (.sendReceive p) s (fun t =>
      (t.dev.qp i).inUse = (s.dev.qp i).inUse + 1 ∧ (t.dev.qp i).ePsn = psnAdd p.psn 1 ∧ (t.dev.qp i).msn = (s.dev.qp i).msn + 1 ∧ (t.dev.qp i).st = .rts ∧
      (∃ k, Out.rdmaAck p.qpn p.psn (((s.dev.qp i).msn + 1) % 2 ^ 24) k ∈ t.dev.out) ∧ (∀ j, j ≠ i → t.dev.qp j = s.dev.qp j) ∧
      t.dev.rdma.mem = s.dev.rdma.mem ∧ t.dev.rdma.durable = s.dev.rdma.durable ∧
      Dev.OnlyChanged [.rdma, .sw, .ten] [] [.RD_RX_PKTS, .RD_TX_PKTS, .TN_POL_GREEN, .SW_CELLS_ALLOC, .SW_ADMIT_WAITS] s.dev t.dev)) ∧
  (∀ (s : State) (i : Nat) (p : RocePacket), s.dev.newRequest i p = true → p.opcode = 0x04 → p.data.length ≤ (s.dev.qp i).mtu → p.data.length ≤ 64 → (s.dev.qp i).held ≤ (s.dev.qp i).inUse → (s.dev.qp i).depth ≤ (s.dev.qp i).inUse →
      Answers (.sendReceive p) s (fun t => t.dev.qp i = s.dev.qp i ∧ Out.rdmaRnr p.qpn p.psn (s.dev.fld .RD_CFG_RNR_TIMER) ∈ t.dev.out ∧
      t.dev.ctr .RD_RNR_SENT = (s.dev.ctr .RD_RNR_SENT + 1) % 2 ^ 64 ∧ t.dev.rdma = s.dev.rdma)) ∧
  (∀ (s : State) (i : Nat) (p : RocePacket), s.dev.newRequest i p = true → p.opcode = 0x0A → p.data.length = p.len → p.len ≤ (s.dev.qp i).mtu → s.dev.keyCheck (s.dev.qp i) p.rkey.toNat p.va p.len .WIN_CFG_WRITE = true → s.dev.windowBroken (p.rkey.toNat % 4096) p.va p.len = false → p.ledgerOk = true → (s.dev.qp i).flushes = [] →
      Answers (.rdmaWriteReceive p) s (fun t => t.dev.windowRead (p.rkey.toNat % 4096) p.va p.len = p.data ∧
      (∀ a, (a < p.rkey.toNat % 4096 * 65536 + p.va ∨ p.rkey.toNat % 4096 * 65536 + p.va + p.len ≤ a) → t.dev.rdma.mem.get 0 a = s.dev.rdma.mem.get 0 a) ∧
      t.dev.rdma.durable = s.dev.rdma.durable ∧ (t.dev.qp i).ePsn = psnAdd p.psn 1 ∧ (t.dev.qp i).msn = (s.dev.qp i).msn + 1 ∧ (t.dev.qp i).writeMsg = none ∧
      (∃ k, Out.rdmaAck p.qpn p.psn (((s.dev.qp i).msn + 1) % 2 ^ 24) k ∈ t.dev.out) ∧ (∀ j, j ≠ i → t.dev.qp j = s.dev.qp j) ∧
      Dev.OnlyChanged [.rdma, .sw, .ten, .ldg] [] [.RD_RX_PKTS, .RD_TX_PKTS, .TN_POL_GREEN, .SW_CELLS_ALLOC, .SW_ADMIT_WAITS] s.dev t.dev)) ∧
  (∀ (s : State) (i : Nat) (p : RocePacket), s.dev.newRequest i p = true → p.opcode = 0x0A → p.data.length = p.len → p.len ≤ (s.dev.qp i).mtu → s.dev.keyCheck (s.dev.qp i) p.rkey.toNat p.va p.len .WIN_CFG_WRITE = false →
      Answers (.rdmaWriteReceive p) s (fun t => (t.dev.qp i).st = .error ∧ Out.rdmaNak p.qpn p.psn 2 ∈ t.dev.out ∧ t.dev.rdma.mem = s.dev.rdma.mem ∧
      t.dev.rdma.placed = s.dev.rdma.placed ∧ (s.hears .ln → s.told t .ln 0x183 (le 4 p.qpn ++ le 4 p.rkey.toNat ++ le 8 p.va)) ∧
      (∀ j, j ≠ i → t.dev.qp j = s.dev.qp j) ∧
      Dev.OnlyChanged [.rdma, .sw, .ten] [] [.RD_NAK_ACC_SENT, .RD_TX_PKTS, .TN_POL_GREEN, .SW_CELLS_ALLOC, .SW_ADMIT_WAITS] s.dev t.dev)) ∧
  (∀ (s : State) (i : Nat) (p : RocePacket), s.dev.newRequest i p = true → p.opcode = 0x0C → s.dev.keyCheck (s.dev.qp i) p.rkey.toNat p.va p.len .WIN_CFG_READ = true → s.dev.windowBroken (p.rkey.toNat % 4096) p.va p.len = false →
      Answers (.rdmaReadRequestReceive p) s (fun t => Out.rdmaResponse p.qpn p.psn (s.dev.windowRead (p.rkey.toNat % 4096) p.va p.len) ∈ t.dev.out ∧
      (t.dev.qp i).ePsn = psnAdd p.psn (max 1 (ceilDiv p.len (s.dev.qp i).mtu)) ∧ (t.dev.qp i).msn = (s.dev.qp i).msn + 1 ∧
      pastOf p ∈ (t.dev.qp i).past ∧ t.dev.rdma.mem = s.dev.rdma.mem ∧ t.dev.rdma.durable = s.dev.rdma.durable ∧ (∀ j, j ≠ i → t.dev.qp j = s.dev.qp j) ∧
      Dev.OnlyChanged [.rdma, .sw, .ten] [] [.RD_RX_PKTS, .RD_TX_PKTS, .TN_POL_GREEN, .SW_CELLS_ALLOC, .SW_ADMIT_WAITS] s.dev t.dev)) ∧
  (∀ (s : State) (i : Nat) (p : RocePacket), s.dev.newRequest i p = true → p.opcode = 0x1C → p.sel = 1 → p.plt = 2 → s.dev.keyCheck (s.dev.qp i) p.rkey.toNat p.va p.len .WIN_CFG_WRITE = true → s.dev.windowBroken (p.rkey.toNat % 4096) p.va p.len = false →
      Answers (.flushReceive p) s (fun t => (t.dev.qp i).flushes = (s.dev.qp i).flushes ++
      [⟨p.psn, p.rkey.toNat % 4096, p.rkey.toNat % 4096 * 65536 + p.va, p.rkey.toNat % 4096 * 65536 + (p.va + p.len)⟩] ∧
      (t.dev.qp i).ePsn = psnAdd p.psn 1 ∧ (t.dev.qp i).msn = (s.dev.qp i).msn + 1 ∧ t.dev.rdma.mem = s.dev.rdma.mem ∧ t.dev.rdma.placed = s.dev.rdma.placed ∧
      (∀ j, j ≠ i → t.dev.qp j = s.dev.qp j) ∧ Dev.OnlyChanged [.rdma] [] [.RD_RX_PKTS, .TN_POL_GREEN] s.dev t.dev)) ∧
  (∀ (s : State) (i : Nat) (p : RocePacket), s.dev.newRequest i p = true → p.opcode = 0x1D → p.data.length = 8 → p.va % 8 = 0 → s.dev.keyCheck (s.dev.qp i) p.rkey.toNat p.va 8 .WIN_CFG_ATOMIC = true → s.dev.windowBroken (p.rkey.toNat % 4096) p.va 8 = false → p.ledgerOk = true →
      Answers (.atomicWriteReceive p) s (fun t => t.dev.windowRead (p.rkey.toNat % 4096) p.va 8 = p.data ∧
      (∀ a, (a < p.rkey.toNat % 4096 * 65536 + p.va ∨ p.rkey.toNat % 4096 * 65536 + p.va + 8 ≤ a) → t.dev.rdma.mem.get 0 a = s.dev.rdma.mem.get 0 a) ∧
      (∀ b ∈ t.dev.rdma.placed, b ∈ s.dev.rdma.placed ∨ b.atom = some s.dev.rdma.atoms) ∧ (t.dev.qp i).ePsn = psnAdd p.psn 1 ∧
      (t.dev.qp i).msn = (s.dev.qp i).msn + 1 ∧ (∀ j, j ≠ i → t.dev.qp j = s.dev.qp j) ∧
      Dev.OnlyChanged [.rdma, .sw, .ten, .ldg] [] [.RD_RX_PKTS, .RD_TX_PKTS, .TN_POL_GREEN, .SW_CELLS_ALLOC, .SW_ADMIT_WAITS] s.dev t.dev)) ∧
  (∀ (s : State) (p : RocePacket), s.dev.transportUp = true → p.icrcOk = false →
      Answers (.rocePacketReceive p) s (fun t => t.dev.ctr .RD_RX_ICRC_ERR = (s.dev.ctr .RD_RX_ICRC_ERR + 1) % 2 ^ 64 ∧ Dev.OnlyChanged [] [] [.RD_RX_ICRC_ERR] s.dev t.dev)) ∧
  (∀ (s : State) (p : RocePacket), s.dev.transportUp = true → p.icrcOk = true → p.qpn < 0x10000 ∨ qpCount + 0x10000 ≤ p.qpn ∨ (s.dev.qp (p.qpn - 0x10000)).st = .free ∨ (s.dev.qp (p.qpn - 0x10000)).st = .error ∨ 0x20 ≤ p.opcode →
      Answers (.rocePacketReceive p) s (fun t => t.dev.ctr .RD_RX_NO_QP = (s.dev.ctr .RD_RX_NO_QP + 1) % 2 ^ 64 ∧ Dev.OnlyChanged [] [] [.RD_RX_NO_QP] s.dev t.dev))

/-- In RTS an ACK removes what it acknowledges and sets the SENDs its credits allow; a NAK for a sequence error and an expired RNR wait send everything not acknowledged again; a NAK for remote access takes the queue pair to ERROR with event 184h; an RNR NAK within its retries waits for its time; the last packet of a READ response ends the READ; a local ACK timeout within its retries counts and sends again. An RDMA READ, an RDMA WRITE and a SEND take the next PSNs and stay until acknowledged; a SEND without host credit waits, and one probe goes out a timeout period (03 R106-R117). -/
def Obligations.ResponsesToRequests : Prop :=
  (∀ (s : State) (i : Nat) (p : RocePacket), s.dev.newResponse i p = true → p.opcode = 0x11 → p.syndrome.toNat / 32 % 4 = 0 →
      Answers (.ackReceive p) s (fun t => (t.dev.qp i).out = (ackRequests (s.dev.qp i).mtu p.psn (s.dev.qp i).out).1 ∧
      ((s.dev.qp i).out.all (fun w => w.kind != .read && psnLe (psnAdd w.psn (w.count - 1)) p.psn) = true → (t.dev.qp i).out = []) ∧
      (t.dev.qp i).hostCode = p.syndrome.toNat % 32 ∧ (p.syndrome.toNat % 32 = 31 → (t.dev.qp i).hostLimit = none) ∧
      (p.syndrome.toNat % 32 ≠ 31 → p.msn = (s.dev.qp i).sent % 2 ^ 24 → (t.dev.qp i).hostLimit = some ((s.dev.qp i).sent + creditsOf (p.syndrome.toNat % 32))) ∧
      (t.dev.qp i).st = .rts ∧ (t.dev.qp i).sent = (s.dev.qp i).sent ∧ (∀ j, j ≠ i → t.dev.qp j = s.dev.qp j) ∧ t.dev.rdma.mem = s.dev.rdma.mem ∧
      Dev.OnlyChanged [.rdma] [] [.RD_RX_PKTS] s.dev t.dev)) ∧
  (∀ (s : State) (i : Nat) (p : RocePacket) (w : WorkReq) (ws : List WorkReq), s.dev.newResponse i p = true → p.opcode = 0x11 → 2 ≤ p.syndrome.toNat / 32 % 4 → p.syndrome.toNat % 32 = 0 → (s.dev.qp i).out = w :: ws → p.psn = w.psn → w.psn < 2 ^ 24 → 1 ≤ w.count ∧ w.count ≤ 2 ^ 23 →
      Answers (.nakReceive p) s (fun t => Out.rdmaResend p.qpn (psnAdd w.psn (w.got / (s.dev.qp i).mtu)) ∈ t.dev.out ∧ (t.dev.qp i).out = (s.dev.qp i).out ∧
      (t.dev.qp i).timerAt = s.dev.nowOn .ln ∧ (t.dev.qp i).st = .rts ∧
      t.dev.ctr .RD_TX_RETRANS = (s.dev.ctr .RD_TX_RETRANS + ((s.dev.qp i).out.map (fun w => w.left (s.dev.qp i).mtu)).sum) % 2 ^ 64 ∧
      t.dev.ctr .RD_NAK_RECV = (s.dev.ctr .RD_NAK_RECV + 1) % 2 ^ 64 ∧ (∀ j, j ≠ i → t.dev.qp j = s.dev.qp j) ∧ t.dev.rdma.mem = s.dev.rdma.mem ∧
      Dev.OnlyChanged [.rdma, .sw, .ten] [] [.RD_NAK_RECV, .RD_TX_RETRANS, .RD_TX_PKTS, .SW_CELLS_ALLOC, .SW_ADMIT_WAITS] s.dev t.dev)) ∧
  (∀ (s : State) (i : Nat) (p : RocePacket) (w : WorkReq) (ws : List WorkReq) (c : Cmd), s.dev.newResponse i p = true → p.opcode = 0x11 → 2 ≤ p.syndrome.toNat / 32 % 4 → p.syndrome.toNat % 32 = 2 → (s.dev.qp i).out = w :: ws → p.psn = w.psn → w.psn < 2 ^ 24 → 1 ≤ w.count ∧ w.count ≤ 2 ^ 23 → s.dev.cmd w.cmd = some c →
      Answers (.nakReceive p) s (fun t => (t.dev.qp i).st = .error ∧ (s.hears .ln → s.told t .ln 0x184 (le 4 p.qpn ++ le 2 c.cid)) ∧
      t.dev.ctr .RD_NAK_RECV = (s.dev.ctr .RD_NAK_RECV + 1) % 2 ^ 64 ∧ t.dev.rdma.mem = s.dev.rdma.mem ∧ t.dev.rdma.wins = s.dev.rdma.wins ∧
      Dev.OnlyChanged [.rdma, .nvme, .store, .ldg, .ten, .evr, .sw] [] [.RD_NAK_RECV, .FE_CMD_ERR, .LDG_REC_ABANDONED] s.dev t.dev)) ∧
  (∀ (s : State) (i : Nat) (p : RocePacket), s.dev.newResponse i p = true → p.opcode = 0x11 → p.syndrome.toNat / 32 % 4 = 1 → (s.dev.qp i).out = [] → s.dev.fld .RD_CFG_RNR_RETRY = 7 ∨ (s.dev.qp i).rnrRetries + 1 < s.dev.fld .RD_CFG_RNR_RETRY →
      Answers (.rnrNakReceive p) s (fun t => (t.dev.qp i).rnrUntil = some (s.dev.nowOn .ln + rnrTime (p.syndrome.toNat % 32)) ∧
      (t.dev.qp i).rnrRetries = (s.dev.qp i).rnrRetries + 1 ∧ (t.dev.qp i).st = .rts ∧ (t.dev.qp i).sendQ = (s.dev.qp i).sendQ ∧
      t.dev.ctr .RD_RNR_RECV = (s.dev.ctr .RD_RNR_RECV + 1) % 2 ^ 64 ∧ (∀ j, j ≠ i → t.dev.qp j = s.dev.qp j) ∧ t.dev.rdma.mem = s.dev.rdma.mem ∧
      Dev.OnlyChanged [.rdma] [] [.RD_RNR_RECV] s.dev t.dev)) ∧
  (∀ (s : State) (i : Nat) (p : RocePacket) (w : WorkReq) (ws : List WorkReq) (c : Cmd), s.dev.newResponse i p = true → (0x0D : Nat) ≤ p.opcode ∧ p.opcode ≤ 0x10 → (s.dev.qp i).out = w :: ws → w.kind = .read → p.psn = psnAdd w.psn (w.got / (s.dev.qp i).mtu) → p.data.length = w.bytes - w.got → 0 < p.data.length ∧ p.data.length ≤ (s.dev.qp i).mtu → s.dev.cmd w.cmd = some c → c.status = none → c.data.length + p.data.length < c.need →
      Answers (.readResponseReceive p) s (fun t => (t.dev.qp i).out = ws ∧ (∃ c', t.dev.cmd w.cmd = some c' ∧ c'.data = c.data ++ p.data) ∧
      (t.dev.qp i).st = .rts ∧ (∀ j, j ≠ i → t.dev.qp j = s.dev.qp j) ∧ t.dev.rdma.mem = s.dev.rdma.mem ∧
      Dev.OnlyChanged [.rdma, .nvme, .sw] [] [.RD_RX_PKTS] s.dev t.dev)) ∧
  (∀ (s : State) (i : Nat) (w : WorkReq) (ws : List WorkReq), s.dev.transportUp = true → (s.dev.qp i).st = .rts ∨ (s.dev.qp i).st = .draining → (s.dev.qp i).out = w :: ws → (s.dev.qp i).rnrUntil = none → s.dev.expired .ln (s.dev.qp i).timerAt s.dev.ackTimeout = true → (s.dev.qp i).retries < s.dev.fld .RD_CFG_RETRY_CNT →
      Answers (.localAckTimeout i) s (fun t => (t.dev.qp i).retries = (s.dev.qp i).retries + 1 ∧ (t.dev.qp i).timerAt = s.dev.nowOn .ln ∧
      (t.dev.qp i).out = (s.dev.qp i).out ∧ Out.rdmaResend (qpnOf i) (psnAdd w.psn (w.got / (s.dev.qp i).mtu)) ∈ t.dev.out ∧
      t.dev.ctr .RD_ACK_TIMEOUTS = (s.dev.ctr .RD_ACK_TIMEOUTS + 1) % 2 ^ 64 ∧ (∀ j, j ≠ i → t.dev.qp j = s.dev.qp j) ∧ t.dev.rdma.mem = s.dev.rdma.mem ∧
      Dev.OnlyChanged [.rdma, .sw, .ten] [] [.RD_ACK_TIMEOUTS, .RD_TX_RETRANS, .RD_TX_PKTS, .SW_CELLS_ALLOC, .SW_ADMIT_WAITS] s.dev t.dev)) ∧
  (∀ (s : State) (i : Nat), s.dev.transportUp = true → (s.dev.qp i).st = .rts ∨ (s.dev.qp i).st = .draining → (s.dev.qp i).rnrUntil = none → (s.dev.qp i).out ≠ [] → s.dev.expired .ln (s.dev.qp i).timerAt s.dev.ackTimeout = true → s.dev.fld .RD_CFG_RETRY_CNT ≤ (s.dev.qp i).retries →
      Answers (.localAckTimeout i) s (fun t => (t.dev.qp i).st = .error ∧ (s.hears .ln → s.told t .ln 0x181 (le 4 (qpnOf i))) ∧
      (∀ j, j ≠ i → t.dev.qp j = s.dev.qp j) ∧ t.dev.rdma.mem = s.dev.rdma.mem ∧ Dev.OnlyChanged [.rdma, .sw] [] [.RD_ACK_TIMEOUTS] s.dev t.dev)) ∧
  (∀ (s : State) (i : Nat) (u : Nat) (w : WorkReq) (ws : List WorkReq), s.dev.transportUp = true → (s.dev.qp i).st = .rts ∨ (s.dev.qp i).st = .draining → (s.dev.qp i).rnrUntil = some u → u ≤ s.dev.nowOn .ln → (s.dev.qp i).out = w :: ws →
      Answers (.rnrWaitEnd i) s (fun t => (t.dev.qp i).rnrUntil = none ∧ (t.dev.qp i).out = (s.dev.qp i).out ∧
      Out.rdmaResend (qpnOf i) (psnAdd w.psn (w.got / (s.dev.qp i).mtu)) ∈ t.dev.out ∧ (∀ j, j ≠ i → t.dev.qp j = s.dev.qp j) ∧
      Dev.OnlyChanged [.rdma, .sw, .ten] [] [.RD_TX_RETRANS, .RD_TX_PKTS, .SW_CELLS_ALLOC, .SW_ADMIT_WAITS] s.dev t.dev)) ∧
  (∀ (s : State) (i : Nat) (u : Nat), s.dev.transportUp = true → (s.dev.qp i).st = .rts → (s.dev.qp i).ackAt = some u → u + 2000 ≤ s.dev.nowOn .ln →
      Answers (.ackCoalesceTimeout i) s (fun t => (t.dev.qp i).ackAt = none ∧ (t.dev.qp i).unacked = 0 ∧ (t.dev.qp i).ePsn = (s.dev.qp i).ePsn ∧
      (∃ k, Out.rdmaAck (qpnOf i) (s.dev.ackPsn i) ((s.dev.qp i).msn % 2 ^ 24) k ∈ t.dev.out) ∧ (∀ j, j ≠ i → t.dev.qp j = s.dev.qp j) ∧
      Dev.OnlyChanged [.rdma, .sw, .ten] [] [.RD_TX_PKTS, .SW_CELLS_ALLOC, .SW_ADMIT_WAITS] s.dev t.dev)) ∧
  (∀ (s : State) (k i : Nat) (c : Cmd), s.dev.cmd k = some c → s.dev.cmdQp c = some i → c.status = none → c.held = false → c.dispatched = true → c.asked < c.need → ((s.dev.qp i).out.filter (fun w => w.kind == .read)).length < (s.dev.qp i).initDepth → s.dev.capOpen = true → (s.dev.reserveRead i (s.dev.qp i).nPsn ((s.dev.qp i).mac / 8) 15 1 (min (4096 * 2 ^ s.dev.fld .RD_CFG_READ_MAX) (c.need - c.asked)) (s.dev.qp i).mtu).isSome = true →
      Answers (.rdmaReadIssue k) s (fun t => (∃ c', t.dev.cmd k = some c' ∧ c'.asked = c.asked + min (4096 * 2 ^ s.dev.fld .RD_CFG_READ_MAX) (c.need - c.asked)) ∧
      (t.dev.qp i).nPsn = psnAdd (s.dev.qp i).nPsn (max 1 (ceilDiv (min (4096 * 2 ^ s.dev.fld .RD_CFG_READ_MAX) (c.need - c.asked)) (s.dev.qp i).mtu)) ∧
      (t.dev.qp i).out = (s.dev.qp i).out ++ [⟨.read, k, (s.dev.qp i).nPsn, max 1 (ceilDiv (min (4096 * 2 ^ s.dev.fld .RD_CFG_READ_MAX) (c.need - c.asked)) (s.dev.qp i).mtu), min (4096 * 2 ^ s.dev.fld .RD_CFG_READ_MAX) (c.need - c.asked), 0, none⟩] ∧
      Out.rdmaRead (qpnOf i) (s.dev.qp i).nPsn k (min (4096 * 2 ^ s.dev.fld .RD_CFG_READ_MAX) (c.need - c.asked)) ∈ t.dev.out ∧ (∀ j, j ≠ i → t.dev.qp j = s.dev.qp j) ∧
      t.dev.rdma.mem = s.dev.rdma.mem ∧ Dev.OnlyChanged [.rdma, .nvme, .sw, .ten] [] [.RD_TX_PKTS, .SW_CELLS_ALLOC, .SW_ADMIT_WAITS] s.dev t.dev)) ∧
  (∀ (s : State) (k i : Nat) (c : Cmd), s.dev.cmd k = some c → s.dev.cmdQp c = some i → c.status = some 0 → c.completed = false ∧ c.cancelled = false ∧ c.sent = 0 → c.op = .read → c.finished = true → 0 < c.data.length → s.dev.capOpen = true → s.dev.retransBytes (s.dev.volPier c.vol) + c.data.length ≤ 2 ^ 30 →
      Answers (.rdmaWriteIssue k) s (fun t => (∃ c', t.dev.cmd k = some c' ∧ c'.sent = c.data.length) ∧
      (t.dev.qp i).nPsn = psnAdd (s.dev.qp i).nPsn (max 1 (ceilDiv c.data.length (s.dev.qp i).mtu)) ∧
      (t.dev.qp i).out = (s.dev.qp i).out ++ [⟨.write, k, (s.dev.qp i).nPsn, max 1 (ceilDiv c.data.length (s.dev.qp i).mtu), c.data.length, 0, none⟩] ∧
      Out.rdmaWrite (qpnOf i) (s.dev.qp i).nPsn k c.data ∈ t.dev.out ∧ (∀ j, j ≠ i → t.dev.qp j = s.dev.qp j) ∧ t.dev.rdma.mem = s.dev.rdma.mem ∧
      Dev.OnlyChanged [.rdma, .nvme, .sw, .ten] [] [.RD_TX_PKTS, .SW_CELLS_ALLOC, .SW_ADMIT_WAITS] s.dev t.dev)) ∧
  (∀ (s : State) (i : Nat) (c : Capsule) (cs : List Capsule), s.dev.transportUp = true → (s.dev.qp i).st = .rts → (s.dev.qp i).rnrUntil = none → (s.dev.qp i).sendQ = c :: cs → (s.dev.qp i).closing = none → ((s.dev.qp i).hostLimit.all (fun l => decide ((s.dev.qp i).sent < l))) = true →
      Answers (.sendIssue i) s (fun t => (t.dev.qp i).sendQ = cs ∧ (t.dev.qp i).sent = (s.dev.qp i).sent + 1 ∧ (t.dev.qp i).nPsn = psnAdd (s.dev.qp i).nPsn 1 ∧
      (t.dev.qp i).out = (s.dev.qp i).out ++ [⟨.send, c.cmd, (s.dev.qp i).nPsn, 1, 0, 0, some c⟩] ∧
      Out.rdmaSend (qpnOf i) (s.dev.qp i).nPsn c.cid c.status c.dw0 c.dnr c.inval ∈ t.dev.out ∧ (∀ j, j ≠ i → t.dev.qp j = s.dev.qp j) ∧
      t.dev.rdma.mem = s.dev.rdma.mem ∧ Dev.OnlyChanged [.rdma, .sw, .ten] [] [.RD_TX_PKTS, .SW_CELLS_ALLOC, .SW_ADMIT_WAITS] s.dev t.dev)) ∧
  (∀ (s : State) (i : Nat) (c : Capsule) (cs : List Capsule) (l : Nat), s.dev.transportUp = true → (s.dev.qp i).st = .rts → (s.dev.qp i).rnrUntil = none → (s.dev.qp i).sendQ = c :: cs → (s.dev.qp i).hostLimit = some l → l ≤ (s.dev.qp i).sent →
      Answers (.sendIssue i) s (fun t => (t.dev.qp i).sendQ = { c with waited := true } :: cs ∧ t.dev.out = [] ∧
      (c.waited = false → t.dev.ctr .RD_CRED_WAIT = (s.dev.ctr .RD_CRED_WAIT + 1) % 2 ^ 64) ∧ (∀ j, j ≠ i → t.dev.qp j = s.dev.qp j) ∧
      Dev.OnlyChanged [.rdma] [] [.RD_CRED_WAIT] s.dev t.dev)) ∧
  (∀ (s : State) (i : Nat) (c : Capsule) (cs : List Capsule) (l : Nat), s.dev.transportUp = true → (s.dev.qp i).st = .rts → (s.dev.qp i).rnrUntil = none → (s.dev.qp i).sendQ = c :: cs → (s.dev.qp i).closing = none → (s.dev.qp i).hostLimit = some l → l ≤ (s.dev.qp i).sent → s.dev.expired .ln (s.dev.qp i).probeAt s.dev.ackTimeout = true →
      Answers (.creditProbeSend i) s (fun t => (t.dev.qp i).sendQ = cs ∧ (t.dev.qp i).probeAt = s.dev.nowOn .ln ∧ (t.dev.qp i).sent = (s.dev.qp i).sent + 1 ∧
      Out.rdmaSend (qpnOf i) (s.dev.qp i).nPsn c.cid c.status c.dw0 c.dnr c.inval ∈ t.dev.out ∧ (∀ j, j ≠ i → t.dev.qp j = s.dev.qp j) ∧
      Dev.OnlyChanged [.rdma, .sw, .ten] [] [.RD_TX_PKTS, .SW_CELLS_ALLOC, .SW_ADMIT_WAITS] s.dev t.dev))

/-- A CM REQ that can be served is answered with REP and makes a queue pair in RTR with the starting PSNs and the receive slots of RD_CFG.CRED_RES; one with an unsupported MTU is answered with REJ and event 18Ch. RTU takes RTR to RTS; DREQ takes RTS to DRAINING and cancels the queue's commands; without RTU in time, after a drain, and after the flush of an error the queue pair is QUIET with nothing unfinished, and after QUIET_TO it is FREE. A FLUSH the ledger has made durable is acknowledged and its bytes survive (03 R94, R100, R101, R128, R130). -/
def Obligations.QueuePairLife : Prop :=
  (∀ (s : State) (q : CmReq) (i : Nat), s.dev.transportUp = true → (s.dev.mac q.mac).link = true → s.dev.holdsIp q.mac q.v4 q.dst.toNat = true → q.mtu = 1024 ∨ q.mtu = 2048 ∨ q.mtu = 4096 → q.qid ≤ 1024 → 2 ≤ q.size ∧ q.size ≤ (if q.qid = 0 then 32 else 4096) → firstFreeQp s.dev.rdma.qps (s.dev.rdma.qps.length + 1) (if q.qid = 0 then 0 else 1024) = i → i < (if q.qid = 0 then 1023 else qpCount) → s.dev.fld .RD_CFG_CRED_RES ≤ s.dev.slotsFree → q.qid = 0 ∨ s.dev.ioQueues < 65536 →
      Answers (.cmReqReceive q) s (fun t => (t.dev.qp i).st = .rtr ∧ (t.dev.qp i).ePsn = q.psn.toNat ∧ (t.dev.qp i).depth = q.size ∧ (t.dev.qp i).mtu = q.mtu ∧
      (t.dev.qp i).reserve = s.dev.fld .RD_CFG_CRED_RES ∧ (t.dev.qp i).qid = q.qid ∧ (t.dev.qp i).ctrl = none ∧ (t.dev.qp i).nPsn < 2 ^ 24 ∧
      Out.cmRep (qpnOf i) (t.dev.qp i).nPsn ∈ t.dev.out ∧ (∀ j, j ≠ i → t.dev.qp j = s.dev.qp j) ∧ t.dev.rdma.wins = s.dev.rdma.wins ∧
      t.dev.rdma.mem = s.dev.rdma.mem ∧ Dev.OnlyChanged [.rdma, .fresh] [] [] s.dev t.dev)) ∧
  (∀ (s : State) (q : CmReq), s.dev.transportUp = true → (s.dev.mac q.mac).link = true → s.dev.holdsIp q.mac q.v4 q.dst.toNat = true → q.mtu ≠ 1024 ∧ q.mtu ≠ 2048 ∧ q.mtu ≠ 4096 →
      Answers (.cmReqReceive q) s (fun t => Out.cmRej 26 0 ∈ t.dev.out ∧ (s.hears .ln → s.told t .ln 0x18C (le 2 26)) ∧ Dev.OnlyChanged [] [] [] s.dev t.dev)) ∧
  (∀ (s : State) (i : Nat), s.dev.transportUp = true → (s.dev.qp i).st = .rtr →
      Answers (.cmRtuReceive i) s (fun t => t.dev.qp i = { s.dev.qp i with st := .rts, since := s.dev.nowOn .ln } ∧ (∀ j, j ≠ i → t.dev.qp j = s.dev.qp j) ∧
      t.dev.rdma.mem = s.dev.rdma.mem ∧ Dev.OnlyChanged [.rdma] [] [] s.dev t.dev)) ∧
  (∀ (s : State) (i : Nat), s.dev.transportUp = true → (s.dev.qp i).st = .rts →
      Answers (.cmDreqReceive i) s (fun t => (t.dev.qp i).st = .draining ∧ (t.dev.qp i).out = (s.dev.qp i).out ∧
      (∀ k, ((t.dev.cmd k).all (fun c => c.src != .fabric i || c.completed || c.cancelled)) = true) ∧
      t.dev.rdma.mem = s.dev.rdma.mem ∧ t.dev.rdma.wins = s.dev.rdma.wins ∧
      ((s.dev.qp i).qid ≠ 0 → (∀ j, j ≠ i → t.dev.qp j = s.dev.qp j) ∧ (∀ k, (t.dev.ctrl k).isSome = (s.dev.ctrl k).isSome)) ∧
      ((s.dev.qp i).qid = 0 → ((s.dev.qp i).ctrl.all (fun k => (t.dev.ctrl k).isNone)) = true) ∧
      Dev.OnlyChanged [.rdma, .nvme, .ldg, .ten, .evr, .sw, .fresh] [] [.FE_CMD_CANCELLED, .LDG_REC_ABANDONED] s.dev t.dev)) ∧
  (∀ (s : State) (i : Nat), s.dev.transportUp = true → (s.dev.qp i).st = .rtr → s.dev.expired .ln (s.dev.qp i).since (s.dev.qp i).cmTimeout = true →
      Answers (.cmResponseTimeout i) s (fun t => (t.dev.qp i).st = .quiet ∧ (t.dev.qp i).out = [] ∧ (t.dev.qp i).sendQ = [] ∧ (t.dev.qp i).ctrl = none ∧
      Out.cmRej 4 0 ∈ t.dev.out ∧ (t.dev.qp i).since = s.dev.nowOn .ln ∧ t.dev.rdma.mem = s.dev.rdma.mem ∧ t.dev.rdma.wins = s.dev.rdma.wins ∧
      Dev.OnlyChanged [.rdma, .nvme, .ldg, .ten, .evr, .sw, .fresh] [] [.FE_CMD_CANCELLED, .LDG_REC_ABANDONED] s.dev t.dev)) ∧
  (∀ (s : State) (i : Nat), s.dev.transportUp = true → (s.dev.qp i).st = .draining → ((s.dev.qp i).out.isEmpty && (s.dev.qp i).flushes.isEmpty || s.dev.expired .ln (s.dev.qp i).since (s.dev.fld .RD_TIMING_QUIET_TO * 1000000)) = true →
      Answers (.drainTimeout i) s (fun t => (t.dev.qp i).st = .quiet ∧ (t.dev.qp i).out = [] ∧ (t.dev.qp i).flushes = [] ∧ (t.dev.qp i).sendQ = [] ∧ (t.dev.qp i).ctrl = none ∧
      (∀ k, ((t.dev.cmd k).all (fun c => c.src != .fabric i || c.completed || c.cancelled)) = true) ∧ t.dev.rdma.mem = s.dev.rdma.mem ∧ t.dev.rdma.wins = s.dev.rdma.wins ∧
      Dev.OnlyChanged [.rdma, .nvme, .ldg, .ten, .evr, .sw, .fresh] [] [.FE_CMD_CANCELLED, .LDG_REC_ABANDONED] s.dev t.dev)) ∧
  (∀ (s : State) (i : Nat), s.dev.transportUp = true → (s.dev.qp i).st = .error →
      Answers (.errorFlushDone i) s (fun t => (t.dev.qp i).st = .quiet ∧ (t.dev.qp i).out = [] ∧ (t.dev.qp i).sendQ = [] ∧ (t.dev.qp i).ctrl = none ∧
      Out.cmDreq (qpnOf i) ∈ t.dev.out ∧ (∀ k, ((t.dev.cmd k).all (fun c => c.src != .fabric i || c.completed || c.cancelled)) = true) ∧
      t.dev.rdma.mem = s.dev.rdma.mem ∧ t.dev.rdma.wins = s.dev.rdma.wins ∧
      Dev.OnlyChanged [.rdma, .nvme, .ldg, .ten, .evr, .sw, .fresh] [] [.FE_CMD_CANCELLED, .LDG_REC_ABANDONED] s.dev t.dev)) ∧
  (∀ (s : State) (i : Nat), s.dev.transportUp = true → (s.dev.qp i).st = .quiet → s.dev.expired .ln (s.dev.qp i).since (s.dev.fld .RD_TIMING_QUIET_TO * 1000000) = true →
      Answers (.quietTimeout i) s (fun t => t.dev.qp i = {} ∧ (∀ j, j ≠ i → t.dev.qp j = s.dev.qp j) ∧ t.dev.rdma.mem = s.dev.rdma.mem ∧
      Dev.OnlyChanged [.rdma] [] [] s.dev t.dev)) ∧
  (∀ (s : State) (i : Nat) (f : FlushWait) (fs : List FlushWait), s.dev.transportUp = true → (s.dev.qp i).st = .rts ∨ (s.dev.qp i).st = .draining → (s.dev.qp i).flushes = f :: fs →
      Answers (.flushDurable i true) s (fun t => (t.dev.qp i).flushes = fs ∧ (t.dev.qp i).ePsn = (s.dev.qp i).ePsn ∧
      (∃ k, Out.rdmaAck (qpnOf i) (match fs with | g :: _ => psnSub g.psn 1 | [] => psnSub (s.dev.qp i).ePsn 1) ((s.dev.qp i).msn % 2 ^ 24) k ∈ t.dev.out) ∧
      t.dev.rdma.placed.all (fun b => !(b.qp == i && decide (f.lo ≤ b.addr) && decide (b.addr < f.hi))) = true ∧
      (s.dev.rdma.placed.all (fun b => b.atom.isNone) = true → ∀ a, f.lo ≤ a → a < f.hi →
      ((s.dev.rdma.placed.filter (fun b => b.qp == i && b.addr == a)).getLast?).all (fun b => decide (t.dev.rdma.durable.get 0 a = b.value)) = true) ∧
      (∀ a, s.dev.rdma.placed.all (fun b => b.addr != a) = true → t.dev.rdma.durable.get 0 a = s.dev.rdma.durable.get 0 a) ∧
      t.dev.rdma.mem = s.dev.rdma.mem ∧ (∀ j, j ≠ i → t.dev.qp j = s.dev.qp j) ∧
      Dev.OnlyChanged [.rdma, .sw, .ten] [] [.RD_TX_PKTS, .SW_CELLS_ALLOC, .SW_ADMIT_WAITS] s.dev t.dev)) ∧
  (∀ (s : State) (i : Nat) (f : FlushWait) (fs : List FlushWait), s.dev.transportUp = true → (s.dev.qp i).st = .rts ∨ (s.dev.qp i).st = .draining → (s.dev.qp i).flushes = f :: fs →
      Answers (.flushDurable i false) s (fun t => (t.dev.qp i).st = .error ∧ Out.rdmaNak (qpnOf i) f.psn 3 ∈ t.dev.out ∧
      (s.hears .ln → s.told t .ln 0x18D (le 2 f.slot ++ le 4 (f.lo - f.slot * 65536))) ∧ t.dev.rdma.durable = s.dev.rdma.durable ∧ t.dev.rdma.placed = s.dev.rdma.placed ∧
      (∀ j, j ≠ i → t.dev.qp j = s.dev.qp j) ∧
      Dev.OnlyChanged [.rdma, .sw, .ten] [] [.RD_NAK_OP_SENT, .RD_TX_PKTS, .SW_CELLS_ALLOC, .SW_ADMIT_WAITS] s.dev t.dev))

/-- A free window slot takes its configuration and a REGISTER; when the registration completes the slot is all zeros, VALID, with another TAG, and event 188h is recorded; REVOKE makes a VALID slot REVOKING; once no admitted access remains, or when REVOKE_TO is over and the queue pairs of those that remain have been moved to ERROR, it is FREE with event 189h. A configuration write, a REGISTER or a REVOKE in another state is refused with event 187h and changes nothing (03 R119-R136, R140). -/
def Obligations.PersistentWindows : Prop :=
  (∀ (s : State) (via : Via) (slot : Fin 4096) (v : Word) (k : Nat), s.dev.commandMade via (Reg.addr .WIN_CFG) = true → s.dev.windowNamed via slot.val = k → (s.dev.window k).st = .free → (s.dev.window k).registering = false →
      Answers (.winCfgWrite via slot v) s (fun t => t.dev.fld .WIN_CFG_ATOMIC k = bitsOf v 26 26 ∧ t.dev.fld .WIN_CFG_READ k = bitsOf v 25 25 ∧
      t.dev.fld .WIN_CFG_WRITE k = bitsOf v 24 24 ∧ t.dev.fld .WIN_CFG_LEN k = bitsOf v 20 16 ∧ t.dev.fld .WIN_CFG_TENANT k = bitsOf v 9 0 ∧
      (∀ j, j ≠ k → t.dev.fld .WIN_CFG_LEN j = s.dev.fld .WIN_CFG_LEN j ∧ t.dev.fld .WIN_CFG_TENANT j = s.dev.fld .WIN_CFG_TENANT j) ∧
      Dev.OnlyChanged [.fw, .od] ([.WIN_CFG_ATOMIC, .WIN_CFG_READ, .WIN_CFG_WRITE, .WIN_CFG_LEN, .WIN_CFG_TENANT] ++ answerFlds) [] s.dev t.dev)) ∧
  (∀ (s : State) (via : Via) (slot : Fin 4096) (v : Word) (k : Nat), s.dev.commandMade via (Reg.addr .WIN_CFG) = true → s.dev.windowNamed via slot.val = k → (s.dev.window k).st ≠ .free ∨ (s.dev.window k).registering = true →
      Answers (.winCfgWrite via slot v) s (fun t => (s.hears .ln → s.told t .ln 0x187 (le 2 k)) ∧ Dev.OnlyChanged [.fw, .od] answerFlds [] s.dev t.dev)) ∧
  (∀ (s : State) (via : Via) (slot : Fin 4096) (k : Nat), s.dev.commandMade via (Reg.addr .WIN_CMD) = true → s.dev.windowNamed via slot.val = k → (s.dev.window k).st = .free → (s.dev.window k).registering = false → 1 ≤ s.dev.fld .WIN_CFG_LEN k ∧ s.dev.fld .WIN_CFG_LEN k ≤ 16 → s.dev.cust.rngOk = true →
      Answers (.winRegister via slot) s (fun t => t.dev.window k = { s.dev.window k with registering := true } ∧ (∀ j, j ≠ k → t.dev.window j = s.dev.window j) ∧
      t.dev.rdma.qps = s.dev.rdma.qps ∧ t.dev.rdma.mem = s.dev.rdma.mem ∧ t.dev.rdma.durable = s.dev.rdma.durable ∧ Dev.OnlyChanged [.rdma, .fw, .od] answerFlds [] s.dev t.dev)) ∧
  (∀ (s : State) (via : Via) (slot : Fin 4096) (k : Nat), s.dev.commandMade via (Reg.addr .WIN_CMD) = true → s.dev.windowNamed via slot.val = k → (s.dev.window k).st ≠ .free ∨ s.dev.fld .WIN_CFG_LEN k = 0 ∨ 16 < s.dev.fld .WIN_CFG_LEN k →
      Answers (.winRegister via slot) s (fun t => (s.hears .ln → s.told t .ln 0x187 (le 2 k)) ∧ t.dev.rdma = s.dev.rdma ∧ Dev.OnlyChanged [.fw, .od] answerFlds [] s.dev t.dev)) ∧
  (∀ (s : State) (slot : Fin 4096), s.dev.transportUp = true → (s.dev.window slot.val).registering = true → s.dev.cust.rngOk = true →
      Answers (.winRegisterComplete slot) s (fun t => (t.dev.window slot.val).st = .valid ∧ (t.dev.window slot.val).registering = false ∧
      (t.dev.window slot.val).tag ≠ (s.dev.window slot.val).tag ∧ (t.dev.window slot.val).tag < 2 ^ 20 ∧
      (∀ a, a / 65536 = slot.val → t.dev.rdma.mem.get 0 a = 0 ∧ t.dev.rdma.durable.get 0 a = 0) ∧
      (∀ a, a / 65536 ≠ slot.val → t.dev.rdma.mem.get 0 a = s.dev.rdma.mem.get 0 a ∧ t.dev.rdma.durable.get 0 a = s.dev.rdma.durable.get 0 a) ∧
      (∀ j, j ≠ slot.val → t.dev.window j = s.dev.window j) ∧ t.dev.rdma.qps = s.dev.rdma.qps ∧
      (s.hears .ln → s.told t .ln 0x188 (le 2 slot.val ++ le 2 (s.dev.fld .WIN_CFG_TENANT slot.val))) ∧ Dev.OnlyChanged [.rdma, .fresh, .nvme] [] [] s.dev t.dev)) ∧
  (∀ (s : State) (via : Via) (slot : Fin 4096) (k : Nat), s.dev.commandMade via (Reg.addr .WIN_CMD) = true → s.dev.windowNamed via slot.val = k → (s.dev.window k).st = .valid →
      Answers (.winRevoke via slot) s (fun t => t.dev.window k = { s.dev.window k with st := .revoking, revokeAt := s.dev.nowOn .ln } ∧
      (∀ j, j ≠ k → t.dev.window j = s.dev.window j) ∧ t.dev.rdma.qps = s.dev.rdma.qps ∧ t.dev.rdma.mem = s.dev.rdma.mem ∧
      Dev.OnlyChanged [.rdma, .fw, .od] answerFlds [] s.dev t.dev)) ∧
  (∀ (s : State) (via : Via) (slot : Fin 4096) (k : Nat), s.dev.commandMade via (Reg.addr .WIN_CMD) = true → s.dev.windowNamed via slot.val = k → (s.dev.window k).st ≠ .valid →
      Answers (.winRevoke via slot) s (fun t => (s.hears .ln → s.told t .ln 0x187 (le 2 k)) ∧ t.dev.rdma = s.dev.rdma ∧ Dev.OnlyChanged [.fw, .od] answerFlds [] s.dev t.dev)) ∧
  (∀ (s : State) (slot : Fin 4096), s.dev.transportUp = true → (s.dev.window slot.val).st = .revoking → s.dev.windowUsers slot.val = [] →
      Answers (.revocationComplete slot) s (fun t => t.dev.window slot.val = { s.dev.window slot.val with st := .free } ∧
      (∀ j, j ≠ slot.val → t.dev.window j = s.dev.window j) ∧ t.dev.rdma.qps = s.dev.rdma.qps ∧ t.dev.rdma.mem = s.dev.rdma.mem ∧
      (s.hears .ln → s.told t .ln 0x189 (le 2 slot.val)) ∧ Dev.OnlyChanged [.rdma, .nvme] [] [] s.dev t.dev)) ∧
  (∀ (s : State) (slot : Fin 4096), s.dev.transportUp = true → (s.dev.window slot.val).st = .revoking → s.dev.windowUsers slot.val ≠ [] → s.dev.expired .ln (s.dev.window slot.val).revokeAt (s.dev.fld .RD_TIMING_REVOKE_TO * 1000000) = true →
      Answers (.revokeTimeout slot) s (fun t => t.dev.window slot.val = { s.dev.window slot.val with st := .free } ∧
      (s.dev.windowUsers slot.val).all (fun i => decide ((s.dev.qp i).st = .rts ∨ (s.dev.qp i).st = .draining ∨ (s.dev.qp i).st = .rtr → (t.dev.qp i).st = .error)) = true ∧
      (∀ i, i ∉ s.dev.windowUsers slot.val → t.dev.qp i = s.dev.qp i) ∧ (∀ j, j ≠ slot.val → t.dev.window j = s.dev.window j) ∧ t.dev.rdma.mem = s.dev.rdma.mem ∧
      (s.hears .ln → s.told t .ln 0x18A (le 2 slot.val ++ leCount (s.dev.windowUsers slot.val).length) ∧ s.told t .ln 0x189 (le 2 slot.val)) ∧
      Dev.OnlyChanged [.rdma, .nvme, .sw] [] [] s.dev t.dev))

/-- A Connect that passes its checks makes a controller of the lowest free index for its host's tenant, with event 200h, or joins an I/O queue to one; a refused one is answered with the status of the first check it fails, counted, with event 202h, and makes no controller. Setting CC.EN starts a controller, which becomes ready; clearing it cancels its other commands; a shutdown completes once its commands are over. Disconnect completes and closes its queue; a controller whose keep-alive timer has expired loses its association with event 203h (04 R144-R147, R157, R161, R180, R183). -/
def Obligations.ControllersAndProperties : Prop :=
  (∀ (s : State) (qp k h : Nat) (cid : BitVec 16) (c : ConnectArgs), s.dev.frontUp = true → (s.dev.qp qp).st = .rts ∧ 0 < (s.dev.qp qp).inUse ∧ (s.dev.qp qp).ctrl = none ∧ (s.dev.qp qp).qid = 0 → c.qid = 0 → s.dev.connectFails qp c = none → s.dev.hostOf c.hostNqn = some h → c.subnqn ≠ 1 → s.dev.freeCtrl 0 959 = some k →
      Answers (.connect qp cid c) s (fun t => (∃ x, t.dev.ctrl k = some x ∧ x.kind = .fabric ∧ x.host = h ∧ x.tenant = s.dev.fld .HOST_CFG_TENANT h ∧ x.aqp = qp ∧
      x.hostId = c.hostId.toNat ∧ x.cc = 0 ∧ x.rdy = false ∧ x.kato = katoOf .fabric c.kato) ∧ (∀ j, j ≠ k → t.dev.ctrl j = s.dev.ctrl j) ∧
      t.dev.qp qp = { s.dev.qp qp with inUse := (s.dev.qp qp).inUse - 1, ctrl := some k, host := some h, tenant := s.dev.fld .HOST_CFG_TENANT h } ∧
      (∀ j, j ≠ qp → t.dev.qp j = s.dev.qp j) ∧ (t.dev.nvme.cmds.getLast?.all (fun x => x.status == some 0 && x.dw0 == k + 1 && x.cid == cid.toNat)) = true ∧
      t.dev.nvme.cmds.length = s.dev.nvme.cmds.length + 1 ∧
      (s.hears .ln → s.told t .ln 0x200 (le 2 (k + 1) ++ le 2 h)) ∧ Dev.OnlyChanged [.rdma, .nvme] [] [] s.dev t.dev)) ∧
  (∀ (s : State) (qp k h : Nat) (cid : BitVec 16) (c : ConnectArgs) (x : Ctrl), s.dev.frontUp = true → (s.dev.qp qp).st = .rts ∧ 0 < (s.dev.qp qp).inUse ∧ (s.dev.qp qp).ctrl = none ∧ (s.dev.qp qp).qid ≠ 0 → c.qid ≠ 0 → s.dev.connectFails qp c = none → s.dev.hostOf c.hostNqn = some h → c.cntlid = k + 1 → s.dev.ctrl k = some x →
      Answers (.connect qp cid c) s (fun t => t.dev.ctrl k = some { x with ioConnected := true } ∧ (∀ j, j ≠ k → t.dev.ctrl j = s.dev.ctrl j) ∧
      t.dev.qp qp = { s.dev.qp qp with inUse := (s.dev.qp qp).inUse - 1, ctrl := some k, host := some h, tenant := s.dev.fld .HOST_CFG_TENANT h } ∧
      (t.dev.nvme.cmds.getLast?.all (fun x => x.status == some 0 && x.dw0 == k + 1 && x.cid == cid.toNat)) = true ∧
      (∀ j, j ≠ qp → t.dev.qp j = s.dev.qp j) ∧ Dev.OnlyChanged [.rdma, .nvme] [] [] s.dev t.dev)) ∧
  (∀ (s : State) (qp check st : Nat) (dw0 : Option Nat) (cid : BitVec 16) (c : ConnectArgs), s.dev.frontUp = true → (s.dev.qp qp).st = .rts ∧ 0 < (s.dev.qp qp).inUse ∧ (s.dev.qp qp).ctrl = none → (c.qid = 0) = ((s.dev.qp qp).qid = 0) → s.dev.connectFails qp c = some (check, st, dw0) →
      Answers (.connect qp cid c) s (fun t => s.entered t (.fabric qp) (fun x => x.status = some st ∧ (dw0.all (fun v => x.dw0 == v)) = true ∧ x.cid = cid.toNat) ∧
      t.dev.nvme.ctrls = s.dev.nvme.ctrls ∧ t.dev.ctr .FE_CONNECT_REFUSED = (s.dev.ctr .FE_CONNECT_REFUSED + 1) % 2 ^ 64 ∧
      (s.hears .ln → s.told t .ln 0x202 (le 2 ((s.dev.hostOf c.hostNqn).getD 0xFFFF) ++ le 1 check)) ∧
      Dev.OnlyChanged [.rdma, .nvme, .fresh] [] [.FE_CONNECT_REFUSED] s.dev t.dev)) ∧
  (∀ (s : State) (src : CmdSource) (k : Nat) (c : Ctrl) (cid : BitVec 16) (v : BitVec 64), s.dev.adminAt src k c = true → c.kind ≠ .pcie → s.dev.numberFree = true → ccValid v.toNat = true → c.cc % 2 = 0 → v.toNat % 2 = 1 ∧ v.toNat / 2 ^ 14 % 4 = 0 →
      Answers (.propertySet src cid 0x14 v) s (fun t => s.entered t src (fun x => x.status = some 0 ∧ x.cid = cid.toNat) ∧
      (∃ x, t.dev.ctrl k = some x ∧ x.cc = v.toNat ∧ x.enableAt = some (s.dev.nowOn .ln) ∧ x.rdy = c.rdy ∧ x.shst = 0 ∧ x.shutdownAt = none ∧ x.tenant = c.tenant) ∧
      (∀ j, j ≠ k → t.dev.ctrl j = s.dev.ctrl j) ∧ Dev.OnlyChanged [.rdma, .nvme] [] [] s.dev t.dev)) ∧
  (∀ (s : State) (src : CmdSource) (k : Nat) (c : Ctrl) (cid : BitVec 16) (v : BitVec 64), s.dev.adminAt src k c = true → c.kind ≠ .pcie → s.dev.numberFree = true → ccValid v.toNat = true → c.cc % 2 = 1 → v.toNat % 2 = 0 ∧ v.toNat / 2 ^ 14 % 4 = 0 →
      Answers (.propertySet src cid 0x14 v) s (fun t => ((t.dev.cmd s.dev.nvme.nextCmd).all (fun x => x.status == some 0 && x.cid == cid.toNat)) = true ∧
      (∃ x, t.dev.ctrl k = some x ∧ x.cc = v.toNat ∧ x.rdy = false ∧ x.granted = 1024 ∧ x.aers = [] ∧ x.tenant = c.tenant ∧ x.errLog = c.errLog) ∧
      (∀ j, j ≠ s.dev.nvme.nextCmd → ((t.dev.cmd j).all (fun x => x.ctrl != k || x.completed || x.cancelled)) = true) ∧
      Dev.OnlyChanged [.rdma, .nvme, .ldg, .ten, .evr, .sw] [] [.FE_CMD_CANCELLED, .LDG_REC_ABANDONED] s.dev t.dev)) ∧
  (∀ (s : State) (src : CmdSource) (k : Nat) (c : Ctrl) (cid : BitVec 16) (offset : Nat), s.dev.adminAt src k c = true → c.kind ≠ .pcie →
      Answers (.propertyGet src cid offset) s (fun t => s.entered t src (fun x => x.cid = cid.toNat ∧
      x.status = some (if offset = 0x00 ∨ offset = 0x08 ∨ offset = 0x14 ∨ offset = 0x1C then 0 else 0x002) ∧
      x.dw0 = (if offset = 0x00 then capValue else if offset = 0x08 then 0x00020000 else if offset = 0x14 then c.cc else if offset = 0x1C then cstsOf c else 0)) ∧
      Dev.OnlyChanged [.rdma, .nvme] [] [] s.dev t.dev)) ∧
  (∀ (s : State) (k : Nat) (c : Ctrl), s.dev.frontUp = true → s.dev.ctrl k = some c → c.enableAt ≠ none ∧ c.cc % 2 = 1 ∧ c.cfs = false →
      Answers (.controllerReady k) s (fun t => t.dev.ctrl k = some { c with rdy := true, enableAt := none } ∧ (∀ j, j ≠ k → t.dev.ctrl j = s.dev.ctrl j) ∧
      t.dev.nvme.cmds = s.dev.nvme.cmds ∧ Dev.OnlyChanged [.nvme] [] [] s.dev t.dev)) ∧
  (∀ (s : State) (k : Nat) (c : Ctrl), s.dev.frontUp = true → s.dev.ctrl k = some c → c.shutdownAt ≠ none → s.dev.nvme.cmds.all (fun x => x.ctrl != k || x.sqid == 0 || x.finished) = true →
      Answers (.controllerShutdownDone k) s (fun t => t.dev.ctrl k = some { c with shst := 2, shutdownAt := none } ∧ (∀ j, j ≠ k → t.dev.ctrl j = s.dev.ctrl j) ∧
      t.dev.nvme.cmds = s.dev.nvme.cmds ∧ Dev.OnlyChanged [.nvme] [] [] s.dev t.dev)) ∧
  (∀ (s : State) (qp k : Nat) (cid : BitVec 16), s.dev.comesTo (.fabric qp) = some k → (s.dev.qp qp).qid ≠ 0 →
      Answers (.disconnect qp cid) s (fun t => t.dev.qp qp = { s.dev.qp qp with inUse := (s.dev.qp qp).inUse - 1, closing := some false, sendQ := (s.dev.qp qp).sendQ ++ [{ cmd := s.dev.nvme.nextCmd, cid := cid.toNat, status := 0 }] } ∧ (∀ j, j ≠ qp → t.dev.qp j = s.dev.qp j) ∧
      (∀ j, (t.dev.ctrl j).isSome = (s.dev.ctrl j).isSome) ∧
      (∀ j, j ≠ s.dev.nvme.nextCmd → ((t.dev.cmd j).all (fun x => x.src != .fabric qp || x.completed || x.cancelled)) = true) ∧
      Dev.OnlyChanged [.rdma, .nvme, .ldg, .ten, .evr] [] [.FE_CMD_CANCELLED, .LDG_REC_ABANDONED] s.dev t.dev)) ∧
  (∀ (s : State) (qp k : Nat) (cid : BitVec 16), s.dev.comesTo (.fabric qp) = some k → (s.dev.qp qp).qid = 0 →
      Answers (.disconnect qp cid) s (fun t => (t.dev.ctrl k).isNone = true ∧ (t.dev.qp qp).closing.isSome = true ∧ (t.dev.qp qp).ctrl = none ∧
      (t.dev.qp qp).sendQ = (s.dev.qp qp).sendQ ++ [{ cmd := s.dev.nvme.nextCmd, cid := cid.toNat, status := 0 }] ∧ (s.hears .ln → s.toldOf t .ln 0x201) ∧
      Dev.OnlyChanged [.rdma, .nvme, .ldg, .ten, .evr, .sw, .fresh] [] [.FE_CMD_CANCELLED, .LDG_REC_ABANDONED] s.dev t.dev)) ∧
  (∀ (s : State) (k : Nat) (c : Ctrl) (src : CmdSource) (cid : BitVec 16), s.dev.adminAt src k c = true →
      Answers (.keepAlive src cid) s (fun t => (∃ x, t.dev.ctrl k = some x ∧ x.kaAt = s.dev.nowOn .ln ∧ x.kato = c.kato) ∧
      s.entered t src (fun x => x.status = some 0 ∧ x.cid = cid.toNat) ∧ Dev.OnlyChanged [.rdma, .nvme] [] [] s.dev t.dev)) ∧
  (∀ (s : State) (k : Nat) (c : Ctrl), s.dev.frontUp = true → s.dev.mode.quiesced = false → s.dev.ctrl k = some c → c.kind ≠ .pcie ∧ c.kato ≠ 0 → c.kaAt + c.kato * 1000000 < s.dev.nowOn .ln →
      Answers (.keepAliveExpiry k) s (fun t => (t.dev.ctrl k).isNone = true ∧ t.dev.ctr .FE_KA_EXPIRED = (s.dev.ctr .FE_KA_EXPIRED + 1) % 2 ^ 64 ∧
      (s.hears .ln → s.told t .ln 0x203 (le 2 (k + 1))) ∧ (∀ j, ((t.dev.cmd j).all (fun x => x.ctrl != k || x.completed || x.cancelled)) = true) ∧
      Dev.OnlyChanged [.rdma, .nvme, .ldg, .ten, .evr, .sw, .fresh] [] [.FE_KA_EXPIRED, .FE_CMD_CANCELLED, .LDG_REC_ABANDONED] s.dev t.dev))

/-- An admin command leaves its queue and is entered with its status and reply: Identify with its data structure, Get Log Page with the page or 109h, Get and Set Features with the value, a saved feature with 02h, Abort with dword 0 bit 0 set and nothing aborted, an unknown opcode with 01h, Keep Alive with success. A Set Features of a power state starts an entry that ends, at the latest after ENLAT, with event 205h; an Asynchronous Event Request waits until there is an event and a held one takes it at once (04 R154-R166, R179). -/
def Obligations.AdminCommands : Prop :=
  (∀ (s : State) (src : CmdSource) (k : Nat) (c : Ctrl) (cid : BitVec 16) (buf : DataPtr) (nsid : Nat), s.dev.adminAt src k c = true → bufStatus src buf 4096 = none →
      Answers (.identify src cid buf 1 nsid) s (fun t => s.entered t src (fun x => x.status = some 0 ∧ x.cid = cid.toNat ∧ x.reply = [[1], s.dev.identifyCtrl k c] ∧ x.buf = buf) ∧
      Dev.OnlyChanged [.rdma, .nvme] [] [] s.dev t.dev)) ∧
  (∀ (s : State) (src : CmdSource) (k : Nat) (c : Ctrl) (cid : BitVec 16) (buf : DataPtr) (nsid : Nat), s.dev.adminAt src k c = true → c.kind ≠ .discovery → bufStatus src buf 4096 = none → 1 ≤ nsid ∧ nsid ≤ 4096 → s.dev.flag .NS_CFG_ACTIVE (nsid - 1) = true → s.dev.nsTenant (nsid - 1) = c.tenant →
      Answers (.identify src cid buf 0 nsid) s (fun t => s.entered t src (fun x => x.status = some 0 ∧ x.cid = cid.toNat ∧ x.reply = [[0], s.dev.identifyNs (nsid - 1)]) ∧
      Dev.OnlyChanged [.rdma, .nvme] [] [] s.dev t.dev)) ∧
  (∀ (s : State) (src : CmdSource) (k : Nat) (c : Ctrl) (cid : BitVec 16) (buf : DataPtr) (cns nsid st : Nat), s.dev.adminAt src k c = true → bufStatus src buf 4096 = some st →
      Answers (.identify src cid buf cns nsid) s (fun t => s.entered t src (fun x => x.status = some st ∧ x.cid = cid.toNat ∧ x.reply = []) ∧
      Dev.OnlyChanged [.rdma, .nvme] [] [] s.dev t.dev)) ∧
  (∀ (s : State) (src : CmdSource) (k : Nat) (c : Ctrl) (cid : BitVec 16) (buf : DataPtr) (lid : Nat) (rae : Bool) (items : List (List Nat)), s.dev.adminAt src k c = true → bufStatus src buf (dataPtrLen buf) = none → s.dev.logPage c lid = some items →
      Answers (.getLogPage src cid buf lid rae) s (fun t => s.entered t src (fun x => x.status = some 0 ∧ x.cid = cid.toNat ∧ x.reply = [lid] :: items ∧ x.buf = buf) ∧
      (∃ x, t.dev.ctrl k = some x ∧ x.changed = (if lid = 0x04 ∧ rae = false then [] else c.changed) ∧ x.resvLog = (if lid = 0x80 ∧ rae = false then [] else c.resvLog)) ∧
      Dev.OnlyChanged [.rdma, .nvme] [] [] s.dev t.dev)) ∧
  (∀ (s : State) (src : CmdSource) (k : Nat) (c : Ctrl) (cid : BitVec 16) (buf : DataPtr) (lid : Nat) (rae : Bool), s.dev.adminAt src k c = true → bufStatus src buf (dataPtrLen buf) = none → s.dev.logPage c lid = none →
      Answers (.getLogPage src cid buf lid rae) s (fun t => s.entered t src (fun x => x.status = some 0x109 ∧ x.cid = cid.toNat) ∧ Dev.OnlyChanged [.rdma, .nvme] [] [] s.dev t.dev)) ∧
  (∀ (s : State) (src : CmdSource) (k : Nat) (c : Ctrl) (cid sqid acid : BitVec 16), s.dev.adminAt src k c = true → c.kind ≠ .discovery → (s.dev.nvme.cmds.filter (fun x => x.ctrl == k && x.op == .abort && !x.completed && !x.cancelled && x.status == some 0)).length < 4 →
      Answers (.abort src cid sqid acid) s (fun t => s.entered t src (fun x => x.status = some 0 ∧ x.dw0 = 1 ∧ x.cid = cid.toNat) ∧ Dev.OnlyChanged [.rdma, .nvme] [] [] s.dev t.dev)) ∧
  (∀ (s : State) (src : CmdSource) (k : Nat) (c : Ctrl) (cid : BitVec 16) (fid nsid : Nat) (dw11 : BitVec 32) (data : BitVec 128), s.dev.adminAt src k c = true → c.kind ≠ .discovery → fid ≠ 2 →
      Answers (.setFeatures src cid fid true nsid dw11 data) s (fun t => s.entered t src (fun x => x.status = some 0x002 ∧ x.cid = cid.toNat) ∧ Dev.OnlyChanged [.rdma, .nvme] [] [] s.dev t.dev)) ∧
  (∀ (s : State) (src : CmdSource) (k : Nat) (c : Ctrl) (cid : BitVec 16) (nsid : Nat) (dw11 : BitVec 32) (data : BitVec 128), s.dev.adminAt src k c = true → c.kind = .fabric →
      Answers (.setFeatures src cid 0x0F false nsid dw11 data) s (fun t => s.entered t src (fun x => x.status = some 0 ∧ x.cid = cid.toNat) ∧
      (∃ x, t.dev.ctrl k = some x ∧ x.kato = (if dw11.toNat = 0 then 120000 else (dw11.toNat + 999) / 1000 * 1000) ∧ x.tenant = c.tenant ∧ x.cc = c.cc) ∧
      (∀ j, j ≠ k → t.dev.ctrl j = s.dev.ctrl j) ∧ Dev.OnlyChanged [.rdma, .nvme] [] [] s.dev t.dev)) ∧
  (∀ (s : State) (src : CmdSource) (k : Nat) (c : Ctrl) (cid : BitVec 16) (nsid : Nat) (dw11 : BitVec 32) (data : BitVec 128), s.dev.adminAt src k c = true → c.kind = .fabric → c.ioConnected = false → dw11.toNat % 65536 ≠ 0xFFFF ∧ dw11.toNat / 65536 ≠ 0xFFFF →
      Answers (.setFeatures src cid 0x07 false nsid dw11 data) s (fun t =>
      s.entered t src (fun x => x.status = some 0 ∧ x.dw0 = (min (dw11.toNat / 65536 + 1) 1024 - 1) * 65536 + min (dw11.toNat % 65536 + 1) 1024 - 1) ∧
      (∃ x, t.dev.ctrl k = some x ∧ x.granted = min (dw11.toNat % 65536 + 1) 1024 ∧ x.grantedCq = min (dw11.toNat / 65536 + 1) 1024) ∧
      Dev.OnlyChanged [.rdma, .nvme] [] [] s.dev t.dev)) ∧
  (∀ (s : State) (src : CmdSource) (k : Nat) (c : Ctrl) (cid : BitVec 16) (ps : Nat), s.dev.adminAt src k c = true → c.kind ≠ .discovery → s.dev.flag .HOST_CFG_PRIV c.host = true → ps ≤ 3 → s.dev.nvme.entryAt = none →
      Answers (.setPowerState src cid false ps) s (fun t => s.entered t src (fun x => x.status = none ∧ x.cid = cid.toNat) ∧ t.dev.nvme.target = ps ∧
      t.dev.nvme.entryAt = some (s.dev.nowOn .ln) ∧ t.dev.nvme.psCmd = some s.dev.nvme.nextCmd ∧ t.dev.nvme.ps = s.dev.nvme.ps ∧
      Dev.OnlyChanged [.rdma, .nvme] [] [] s.dev t.dev)) ∧
  (∀ (s : State) (src : CmdSource) (k : Nat) (c : Ctrl) (cid : BitVec 16) (ps : Nat), s.dev.adminAt src k c = true → c.kind ≠ .discovery → s.dev.flag .HOST_CFG_PRIV c.host = false → s.dev.numberFree = true →
      Answers (.setPowerState src cid false ps) s (fun t => s.entered t src (fun x => x.status = some 0x015 ∧ x.cid = cid.toNat) ∧ t.dev.nvme.target = s.dev.nvme.target ∧
      t.dev.nvme.entryAt = s.dev.nvme.entryAt ∧ t.dev.nvme.ps = s.dev.nvme.ps ∧ Dev.OnlyChanged [.rdma, .nvme] [] [] s.dev t.dev)) ∧
  (∀ (s : State) (u : Nat), s.dev.frontUp = true → s.dev.nvme.entryAt = some u → 2 ≤ s.dev.nvme.settled ∨ u + 1000000 ≤ s.dev.nowOn .ln →
      Answers .powerStateEntryEnd s (fun t => t.dev.nvme.ps = s.dev.nvme.target ∧ t.dev.nvme.entryAt = none ∧ t.dev.nvme.psCmd = none ∧
      (s.dev.nvme.psCmd.all (fun j => (t.dev.cmd j).all (fun x => x.status.isSome))) = true ∧
      (s.hears .ln → s.told t .ln 0x205 (le 1 s.dev.nvme.ps ++ le 1 s.dev.nvme.target)) ∧ t.dev.nvme.ctrls = s.dev.nvme.ctrls ∧
      Dev.OnlyChanged [.nvme] [] [] s.dev t.dev)) ∧
  (∀ (s : State) (src : CmdSource) (k : Nat) (c : Ctrl) (cid : BitVec 16) (fid nsid : Nat), s.dev.adminAt src k c = true → c.kind ≠ .discovery → fid = 0x02 ∨ fid = 0x04 ∨ fid = 0x07 ∨ fid = 0x0B ∨ fid = 0x0F →
      Answers (.getFeatures src cid fid 0 nsid) s (fun t => s.entered t src (fun x => x.status = some 0 ∧ x.cid = cid.toNat ∧
      x.dw0 = (if fid = 0x02 then s.dev.nvme.ps else if fid = 0x04 then c.tempThreshold else if fid = 0x07 then (c.grantedCq - 1) * 65536 + c.granted - 1
      else if fid = 0x0B then c.aec else c.kato)) ∧ Dev.OnlyChanged [.rdma, .nvme] [] [] s.dev t.dev)) ∧
  (∀ (s : State) (src : CmdSource) (k : Nat) (c : Ctrl) (cid : BitVec 16), s.dev.adminAt src k c = true → c.held = [] → c.aers.length < 8 →
      Answers (.asyncEventRequest src cid) s (fun t => s.entered t src (fun x => x.status = none ∧ x.cid = cid.toNat) ∧
      (∃ x, t.dev.ctrl k = some x ∧ x.aers = c.aers ++ [s.dev.nvme.nextCmd] ∧ x.held = []) ∧
      Dev.OnlyChanged [.rdma, .nvme] [] [] s.dev t.dev)) ∧
  (∀ (s : State) (src : CmdSource) (k : Nat) (c : Ctrl) (cid : BitVec 16) (e : AsyncEvent) (es : List AsyncEvent), s.dev.adminAt src k c = true → c.held = e :: es → c.aers.length < 8 →
      Answers (.asyncEventRequest src cid) s (fun t => s.entered t src (fun x => x.status = some 0 ∧ x.dw0 = e.log * 65536 + e.info * 256 + e.type ∧ x.cid = cid.toNat) ∧
      (∃ x, t.dev.ctrl k = some x ∧ x.held = es ∧ x.aers = c.aers) ∧ Dev.OnlyChanged [.rdma, .nvme] [] [] s.dev t.dev)) ∧
  (∀ (s : State) (src : CmdSource) (k : Nat) (c : Ctrl) (cid : BitVec 16) (op : Nat), s.dev.adminAt src k c = true → op ∉ [0x00, 0x01, 0x02, 0x04, 0x05, 0x06, 0x08, 0x09, 0x0A, 0x0C, 0x18] →
      Answers (.adminInvalidOpcode src cid op) s (fun t => s.entered t src (fun x => x.status = some 0x001 ∧ x.cid = cid.toNat) ∧ Dev.OnlyChanged [.rdma, .nvme] [] [] s.dev t.dev))

/-- A Read, Write, Compare, Write Zeroes or Dataset Management with AD that passes its lookup is accepted: counted, numbered in its namespace, outstanding for its tenant, and dispatched at once unless it overlaps a command not finished of which one writes, for which it waits. A Flush, and Dataset Management without AD, succeed once accepted. A command that fails its lookup is answered with the status and DNR of the first check it fails, an opcode the table does not list with 01h, and nothing else happens (04 R151-R176). -/
def Obligations.IoCommands : Prop :=
  (∀ (s : State) (src : CmdSource) (k : Nat) (c : Ctrl) (cid : BitVec 16) (a : IoArgs), s.dev.ioAt src k c = true → s.dev.ioCheck src c a ((a.nlb + 1) * s.dev.blockBytes (a.nsid - 1) a.pract) [(a.slba, a.nlb + 1)] (some false) = none → s.dev.foreignVol (s.dev.nsVol (a.nsid - 1)) = false → s.dev.numberFree = true →
      Answers (.ioRead src cid a) s (fun t => (∃ x, t.dev.cmd s.dev.nvme.nextCmd = some x ∧ x.op = .read ∧ x.src = src ∧ x.cid = cid.toNat ∧ x.nsid = a.nsid ∧
      x.ranges = [(a.slba, a.nlb + 1)] ∧ x.seq = s.dev.nvme.seqs.get 0 a.nsid + 1 ∧ x.io = true ∧ x.status = none ∧
      x.waits = (s.dev.nvme.cmds.filter (fun e => e.nsid == a.nsid && !e.finished && e.io && cmdsConflict e x)).map (·.id) ∧ x.dispatched = x.waits.isEmpty) ∧
      t.dev.nvme.seqs.get 0 a.nsid = s.dev.nvme.seqs.get 0 a.nsid + 1 ∧ (t.dev.tn c.tenant).outstanding = (s.dev.tn c.tenant).outstanding + 1 ∧
      t.dev.ctr .FE_CMD_ACCEPTED = (s.dev.ctr .FE_CMD_ACCEPTED + 1) % 2 ^ 64 ∧ t.dev.rdma.mem = s.dev.rdma.mem ∧
      Dev.OnlyChanged workParts [] workCtrs s.dev t.dev)) ∧
  (∀ (s : State) (src : CmdSource) (k : Nat) (c : Ctrl) (cid : BitVec 16) (a : IoArgs) (data : List Byte), s.dev.ioAt src k c = true → s.dev.ioCheck src c a ((a.nlb + 1) * s.dev.blockBytes (a.nsid - 1) a.pract) [(a.slba, a.nlb + 1)] (some true) = none → s.dev.foreignVol (s.dev.nsVol (a.nsid - 1)) = false → s.dev.numberFree = true →
      Answers (.ioWrite src cid a data) s (fun t => (∃ x, t.dev.cmd s.dev.nvme.nextCmd = some x ∧ x.op = .write ∧ x.src = src ∧ x.cid = cid.toNat ∧ x.nsid = a.nsid ∧
      x.ranges = [(a.slba, a.nlb + 1)] ∧ x.seq = s.dev.nvme.seqs.get 0 a.nsid + 1 ∧ x.need = (a.nlb + 1) * s.dev.blockBytes (a.nsid - 1) a.pract ∧ x.io = true ∧
      (match src with | .fabric _ => x.status == none && x.data == [] && x.asked == 0 | _ => true) = true ∧
      x.waits = (s.dev.nvme.cmds.filter (fun e => e.nsid == a.nsid && !e.finished && e.io && cmdsConflict e x)).map (·.id) ∧ x.dispatched = x.waits.isEmpty) ∧
      t.dev.nvme.seqs.get 0 a.nsid = s.dev.nvme.seqs.get 0 a.nsid + 1 ∧ (t.dev.tn c.tenant).outstanding = (s.dev.tn c.tenant).outstanding + 1 ∧
      t.dev.ctr .FE_CMD_ACCEPTED = (s.dev.ctr .FE_CMD_ACCEPTED + 1) % 2 ^ 64 ∧
      Dev.OnlyChanged workParts [] (workCtrs ++ [.FE_PI_ERR]) s.dev t.dev)) ∧
  (∀ (s : State) (src : CmdSource) (k : Nat) (c : Ctrl) (cid : BitVec 16) (a : IoArgs) (data : List Byte), s.dev.ioAt src k c = true → s.dev.ioCheck src c { a with fua := false } ((a.nlb + 1) * s.dev.blockBytes (a.nsid - 1) a.pract) [(a.slba, a.nlb + 1)] (some false) = none → s.dev.foreignVol (s.dev.nsVol (a.nsid - 1)) = false → s.dev.numberFree = true →
      Answers (.ioCompare src cid a data) s (fun t => (∃ x, t.dev.cmd s.dev.nvme.nextCmd = some x ∧ x.op = .compare ∧ x.src = src ∧ x.cid = cid.toNat ∧ x.nsid = a.nsid ∧
      x.fua = false ∧ x.need = (a.nlb + 1) * s.dev.blockBytes (a.nsid - 1) a.pract ∧ x.seq = s.dev.nvme.seqs.get 0 a.nsid + 1 ∧ x.dispatched = x.waits.isEmpty) ∧
      t.dev.ctr .FE_CMD_ACCEPTED = (s.dev.ctr .FE_CMD_ACCEPTED + 1) % 2 ^ 64 ∧ Dev.OnlyChanged workParts [] workCtrs s.dev t.dev)) ∧
  (∀ (s : State) (src : CmdSource) (k : Nat) (c : Ctrl) (cid : BitVec 16) (a : IoArgs), s.dev.ioAt src k c = true → s.dev.ioCheck src c a 0 [(a.slba, a.nlb + 1)] (some true) = none → s.dev.foreignVol (s.dev.nsVol (a.nsid - 1)) = false → s.dev.numberFree = true →
      Answers (.ioWriteZeroes src cid a) s (fun t => (∃ x, t.dev.cmd s.dev.nvme.nextCmd = some x ∧ x.op = .zeroes ∧ x.src = src ∧ x.cid = cid.toNat ∧ x.nsid = a.nsid ∧
      x.ranges = [(a.slba, a.nlb + 1)] ∧ x.need = 0 ∧ x.seq = s.dev.nvme.seqs.get 0 a.nsid + 1 ∧ x.status = none ∧ x.dispatched = x.waits.isEmpty) ∧
      t.dev.ctr .FE_CMD_ACCEPTED = (s.dev.ctr .FE_CMD_ACCEPTED + 1) % 2 ^ 64 ∧ Dev.OnlyChanged workParts [] workCtrs s.dev t.dev)) ∧
  (∀ (s : State) (src : CmdSource) (k : Nat) (c : Ctrl) (cid : BitVec 16) (a : IoArgs) (rs : List (Nat × Nat)), s.dev.ioAt src k c = true → s.dev.ioCheck src c a (16 * rs.length) rs (some true) = none → s.dev.foreignVol (s.dev.nsVol (a.nsid - 1)) = false → s.dev.numberFree = true →
      Answers (.ioDatasetManagement src cid a true rs) s (fun t => (∃ x, t.dev.cmd s.dev.nvme.nextCmd = some x ∧ x.op = .deallocate ∧ x.cid = cid.toNat ∧ x.nsid = a.nsid ∧
      x.ranges = rs ∧ x.seq = s.dev.nvme.seqs.get 0 a.nsid + 1 ∧ x.status = none ∧ x.dispatched = x.waits.isEmpty) ∧
      t.dev.ctr .FE_CMD_ACCEPTED = (s.dev.ctr .FE_CMD_ACCEPTED + 1) % 2 ^ 64 ∧ Dev.OnlyChanged workParts [] workCtrs s.dev t.dev) ∧
      Answers (.ioDatasetManagement src cid a false rs) s (fun t => (∃ x, t.dev.cmd s.dev.nvme.nextCmd = some x ∧ x.cid = cid.toNat ∧ x.nsid = a.nsid ∧
      x.seq = s.dev.nvme.seqs.get 0 a.nsid + 1 ∧ x.status = some 0 ∧ x.finished = true) ∧ Dev.OnlyChanged workParts [] workCtrs s.dev t.dev)) ∧
  (∀ (s : State) (src : CmdSource) (k : Nat) (c : Ctrl) (cid : BitVec 16) (a : IoArgs), s.dev.ioAt src k c = true → s.dev.ioCheck src c a 0 [] (some true) = none → s.dev.foreignVol (s.dev.nsVol (a.nsid - 1)) = false → s.dev.numberFree = true →
      Answers (.ioFlush src cid a) s (fun t => (∃ x, t.dev.cmd s.dev.nvme.nextCmd = some x ∧ x.cid = cid.toNat ∧ x.nsid = a.nsid ∧
      x.seq = s.dev.nvme.seqs.get 0 a.nsid + 1 ∧ x.status = some 0 ∧ x.finished = true) ∧
      t.dev.ctr .FE_CMD_ACCEPTED = (s.dev.ctr .FE_CMD_ACCEPTED + 1) % 2 ^ 64 ∧ t.dev.store = s.dev.store ∧
      Dev.OnlyChanged [.rdma, .nvme, .ten, .evr] [] [.FE_CMD_ACCEPTED] s.dev t.dev)) ∧
  (∀ (s : State) (src : CmdSource) (k : Nat) (c : Ctrl) (cid : BitVec 16) (a : IoArgs) (data : List Byte) (e : Nat × Bool), s.dev.ioAt src k c = true → s.dev.ioCheck src c a ((a.nlb + 1) * s.dev.blockBytes (a.nsid - 1) a.pract) [(a.slba, a.nlb + 1)] (some true) = some e →
      Answers (.ioWrite src cid a data) s (fun t => s.entered t src (fun x => x.status = some e.1 ∧ x.dnr = e.2 ∧ x.cid = cid.toNat ∧ x.nsid = a.nsid ∧ x.opcode = 1 ∧ x.io = false) ∧
      t.dev.nvme.seqs = s.dev.nvme.seqs ∧ Dev.OnlyChanged [.rdma, .nvme] [] [] s.dev t.dev)) ∧
  (∀ (s : State) (src : CmdSource) (k : Nat) (c : Ctrl) (cid : BitVec 16) (a : IoArgs) (e : Nat × Bool), s.dev.ioAt src k c = true → s.dev.ioCheck src c a ((a.nlb + 1) * s.dev.blockBytes (a.nsid - 1) a.pract) [(a.slba, a.nlb + 1)] (some false) = some e →
      Answers (.ioRead src cid a) s (fun t => s.entered t src (fun x => x.status = some e.1 ∧ x.dnr = e.2 ∧ x.cid = cid.toNat ∧ x.opcode = 2) ∧
      Dev.OnlyChanged [.rdma, .nvme] [] [] s.dev t.dev)) ∧
  (∀ (s : State) (src : CmdSource) (k : Nat) (c : Ctrl) (cid : BitVec 16) (op : Nat), s.dev.ioAt src k c = true → op ∉ [0x00, 0x01, 0x02, 0x05, 0x08, 0x09, 0x0D, 0x0E, 0x11, 0x15] →
      Answers (.ioInvalidOpcode src cid op) s (fun t => s.entered t src (fun x => x.status = some 0x001 ∧ x.dnr = false ∧ x.cid = cid.toNat) ∧
      Dev.OnlyChanged [.rdma, .nvme] [] [] s.dev t.dev))

/-- Register adds a registrant, Acquire gives the reservation to a registered host, Preempt and Abort removes the preempted hosts and waits for their commands, Release ends a reservation its holder has, Report answers without changing it; each is answered with its status. A command not finished CMD_TO after its acceptance ends with 21h and event 204h; a finished one leaves the tracker and frees those that waited for it; a completion goes onto its queue pair, or into its completion queue in host memory, once (04 R153, R173-R177, R182, R192-R195). -/
def Obligations.ReservationsAndOutcomes : Prop :=
  (∀ (s : State) (src : CmdSource) (k : Nat) (c : Ctrl) (cid : BitVec 16) (a : IoArgs) (r : ResvArgs), s.dev.ioAt src k c = true → s.dev.ioCheck src c a 16 [] none = none → s.dev.foreignVol (s.dev.nsVol (a.nsid - 1)) = false → s.dev.numberFree = true → r.action = 0 ∧ r.cptpl ≠ 1 → (s.dev.resvOf a.nsid).regs.all (fun e => e.1 != c.hostId) = true → (s.dev.resvOf a.nsid).regs.length < 64 →
      Answers (.reservationRegister src cid a r) s (fun t => t.dev.resvOf a.nsid = { s.dev.resvOf a.nsid with gen := ((s.dev.resvOf a.nsid).gen + 1) % 2 ^ 32, regs := (s.dev.resvOf a.nsid).regs ++ [(c.hostId, r.nrkey.toNat)], ptpl := ptplOf (s.dev.resvOf a.nsid) r.cptpl } ∧
      (∀ n, n ≠ a.nsid → t.dev.resvOf n = s.dev.resvOf n) ∧
      (∃ x, t.dev.cmd s.dev.nvme.nextCmd = some x ∧ x.status = some 0 ∧ x.cid = cid.toNat ∧ x.resvWrite = true) ∧
      Dev.OnlyChanged [.rdma, .nvme, .ten, .evr, .store] [] [.FE_CMD_ACCEPTED, .DRV_MCMD_ISSUED] s.dev t.dev)) ∧
  (∀ (s : State) (src : CmdSource) (k : Nat) (c : Ctrl) (cid : BitVec 16) (a : IoArgs) (r : ResvArgs), s.dev.ioAt src k c = true → s.dev.ioCheck src c a 16 [] none = none → s.dev.foreignVol (s.dev.nsVol (a.nsid - 1)) = false → s.dev.numberFree = true → r.action = 0 → 1 ≤ r.rtype ∧ r.rtype ≤ 6 → ((s.dev.resvOf a.nsid).regs.find? (fun e => e.1 == c.hostId)).map Prod.snd = some r.crkey.toNat → (s.dev.resvOf a.nsid).rtype = 0 →
      Answers (.reservationAcquire src cid a r) s (fun t => t.dev.resvOf a.nsid = { s.dev.resvOf a.nsid with rtype := r.rtype, holder := c.hostId } ∧
      (∀ n, n ≠ a.nsid → t.dev.resvOf n = s.dev.resvOf n) ∧ (∃ x, t.dev.cmd s.dev.nvme.nextCmd = some x ∧ x.status = some 0 ∧ x.cid = cid.toNat) ∧
      Dev.OnlyChanged [.rdma, .nvme, .ten, .evr, .store] [] [.FE_CMD_ACCEPTED, .DRV_MCMD_ISSUED] s.dev t.dev)) ∧
  (∀ (s : State) (src : CmdSource) (k : Nat) (c : Ctrl) (cid : BitVec 16) (a : IoArgs) (r : ResvArgs), s.dev.ioAt src k c = true → s.dev.ioCheck src c a 16 [] none = none → s.dev.foreignVol (s.dev.nsVol (a.nsid - 1)) = false → s.dev.numberFree = true → r.action = 2 → 1 ≤ r.rtype ∧ r.rtype ≤ 6 → ((s.dev.resvOf a.nsid).regs.find? (fun e => e.1 == c.hostId)).map Prod.snd = some r.crkey.toNat → (s.dev.resvOf a.nsid).rtype = 1 → ((s.dev.resvOf a.nsid).regs.find? (fun e => e.1 == (s.dev.resvOf a.nsid).holder)).map Prod.snd = some r.nrkey.toNat → (s.dev.resvOf a.nsid).regs.any (fun e => e.1 != c.hostId && e.2 == r.nrkey.toNat) = true →
      Answers (.reservationAcquire src cid a r) s (fun t => (t.dev.resvOf a.nsid).rtype = r.rtype ∧ (t.dev.resvOf a.nsid).holder = c.hostId ∧
      (t.dev.resvOf a.nsid).regs.all (fun e => e.1 == c.hostId || e.2 != r.nrkey.toNat) = true ∧ (∀ n, n ≠ a.nsid → t.dev.resvOf n = s.dev.resvOf n) ∧
      (∃ x, t.dev.cmd s.dev.nvme.nextCmd = some x ∧ x.status = none ∧ x.op = .preempt ∧ x.cid = cid.toNat) ∧
      (s.hears .ln → s.told t .ln 0x209 (le 4 a.nsid ++ leCount ((s.dev.resvOf a.nsid).regs.filter (fun e => e.1 != c.hostId && e.2 == r.nrkey.toNat)).length)) ∧
      Dev.OnlyChanged [.rdma, .nvme, .ten, .evr, .store] [] [.FE_CMD_ACCEPTED, .DRV_MCMD_ISSUED] s.dev t.dev)) ∧
  (∀ (s : State) (src : CmdSource) (k : Nat) (c : Ctrl) (cid : BitVec 16) (a : IoArgs) (r : ResvArgs), s.dev.ioAt src k c = true → s.dev.ioCheck src c a 8 [] none = none → s.dev.foreignVol (s.dev.nsVol (a.nsid - 1)) = false → s.dev.numberFree = true → r.action = 0 → ((s.dev.resvOf a.nsid).regs.find? (fun e => e.1 == c.hostId)).map Prod.snd = some r.crkey.toNat → (s.dev.resvOf a.nsid).rtype = r.rtype ∧ r.rtype ≠ 0 → 5 ≤ r.rtype ∨ (s.dev.resvOf a.nsid).holder = c.hostId →
      Answers (.reservationRelease src cid a r) s (fun t => t.dev.resvOf a.nsid = { s.dev.resvOf a.nsid with rtype := 0, holder := 0 } ∧
      (∀ n, n ≠ a.nsid → t.dev.resvOf n = s.dev.resvOf n) ∧ (∃ x, t.dev.cmd s.dev.nvme.nextCmd = some x ∧ x.status = some 0 ∧ x.cid = cid.toNat) ∧
      Dev.OnlyChanged [.rdma, .nvme, .ten, .evr, .store] [] [.FE_CMD_ACCEPTED, .DRV_MCMD_ISSUED] s.dev t.dev)) ∧
  (∀ (s : State) (src : CmdSource) (k : Nat) (c : Ctrl) (cid : BitVec 16) (a : IoArgs) (eds : Bool), s.dev.ioAt src k c = true → s.dev.ioCheck src c a (dataPtrLen a.buf) [] none = none → s.dev.foreignVol (s.dev.nsVol (a.nsid - 1)) = false → s.dev.numberFree = true →
      Answers (.reservationReport src cid a eds) s (fun t => (∃ x, t.dev.cmd s.dev.nvme.nextCmd = some x ∧ x.status = some 0 ∧ x.cid = cid.toNat ∧
      x.reply.head? = some [(s.dev.resvOf a.nsid).gen, (s.dev.resvOf a.nsid).rtype, (s.dev.resvOf a.nsid).regs.length, (s.dev.resvOf a.nsid).ptpl.toNat] ∧
      x.reply.length = (s.dev.resvOf a.nsid).regs.length + 1) ∧ t.dev.nvme.resv = s.dev.nvme.resv ∧
      Dev.OnlyChanged [.rdma, .nvme, .ten, .evr] [] [.FE_CMD_ACCEPTED] s.dev t.dev)) ∧
  (∀ (s : State) (k : Nat) (c : Cmd), s.dev.cmd k = some c → c.op = .preempt → c.status = none → s.dev.preemptWaits c = false →
      Answers (.preemptWaitEnd k) s (fun t => t.dev.cmd k = some { c with status := some 0 } ∧ (∀ j, j ≠ k → t.dev.cmd j = s.dev.cmd j) ∧ Dev.OnlyChanged [.nvme] [] [] s.dev t.dev)) ∧
  (∀ (s : State) (k : Nat) (c : Cmd), s.dev.frontUp = true → s.dev.cmd k = some c → c.io = true → c.completed = false ∧ c.cancelled = false ∧ c.status = none → c.accepted + s.dev.fld .FE_CFG_CMD_TO * 1000000 < s.dev.nowOn .ln →
      Answers (.commandTimeout k) s (fun t => t.dev.cmd k = some { c with status := some 0x021, staging := 0 } ∧ (∀ j, j ≠ k → t.dev.cmd j = s.dev.cmd j) ∧
      t.dev.ctr .FE_CMD_TIMEOUT = (s.dev.ctr .FE_CMD_TIMEOUT + 1) % 2 ^ 64 ∧ (s.hears .ln → s.told t .ln 0x204 (le 2 c.sqid ++ le 2 c.cid ++ le 4 c.nsid)) ∧
      Dev.OnlyChanged [.nvme, .ldg] [] [.FE_CMD_TIMEOUT] s.dev t.dev)) ∧
  (∀ (s : State) (k : Nat) (c : Cmd), s.dev.cmd k = some c → c.io = true → c.finished = false → s.dev.mayFinish c = true →
      Answers (.commandFinish k) s (fun t => ((t.dev.cmd k).all (fun x => x.finished && x.status.isSome == (c.status.isSome || c.op.reads))) = true ∧
      (∀ j, j ≠ k → ((t.dev.cmd j).all (fun x => !x.waits.contains k)) = true) ∧
      (∀ j, j ≠ k → ((s.dev.cmd j).all (fun x => x.waits != [k] || x.cancelled || (t.dev.cmd j).all (fun y => y.dispatched))) = true) ∧
      Dev.OnlyChanged workParts [] ([.FE_PI_ERR] ++ workCtrs) s.dev t.dev)) ∧
  (∀ (s : State) (k i : Nat) (c : Cmd), s.dev.cmd k = some c → s.dev.mayComplete c = true → c.src = .fabric i →
      Answers (.completionIssue k) s (fun t => t.dev.qp i = { s.dev.qp i with sendQ := (s.dev.qp i).sendQ ++ [⟨c.id, c.cid, c.status.getD 0, c.dnr, c.dw0, (match c.buf with | .keyed _ _ key true => if c.status.getD 0 = 0 then some key.toNat else none | _ => none), false, s.dev.cmdClass c⟩] } ∧
      (∀ j, j ≠ i → t.dev.qp j = s.dev.qp j) ∧ ((t.dev.cmd k).all (fun x => x.completed)) = true ∧ t.dev.rdma.mem = s.dev.rdma.mem ∧
      (c.status = some 0x083 → t.dev.ctr .FE_RESV_CONFLICT = (s.dev.ctr .FE_RESV_CONFLICT + 1) % 2 ^ 64) ∧
      (c.status ≠ some 0 → t.dev.ctr .FE_CMD_ERR = (s.dev.ctr .FE_CMD_ERR + 1) % 2 ^ 64) ∧
      Dev.OnlyChanged [.rdma, .nvme, .ten, .evr] [] [.FE_CMD_ERR, .FE_RESV_CONFLICT] s.dev t.dev)) ∧
  (∀ (s : State) (k q : Nat) (fn : Fin 65) (c : Cmd) (x : Ctrl), s.dev.cmd k = some c → s.dev.mayComplete c = true → c.src = .pcie fn q → s.dev.ctrl (pcieCtrl fn.val) = some x →
      Answers (.completionIssue k) s (fun t => Out.cqe (epOfNvme fn.val) (if q = 0 then 0 else (x.sq q).cq) q c.cid (c.status.getD 0) c.dw0 c.dnr ∈ t.dev.out ∧
      (∃ y, t.dev.ctrl (pcieCtrl fn.val) = some y ∧ y.sqs = x.sqs ∧ (y.cqs.get {} (if q = 0 then 0 else (x.sq q).cq)).tail =
      ((x.cqs.get {} (if q = 0 then 0 else (x.sq q).cq)).tail + 1) % (x.cqs.get {} (if q = 0 then 0 else (x.sq q).cq)).size) ∧
      ((t.dev.cmd k).all (fun x => x.completed)) = true ∧ t.dev.rdma = s.dev.rdma ∧
      Dev.OnlyChanged [.nvme, .ten, .evr, .ep] [] [.FE_CMD_ERR, .FE_RESV_CONFLICT, .EP_MSIX_SENT] s.dev t.dev))

/-- NS_CFG with ACTIVE set stores the settings and makes an idle namespace that passes the checks active; one that fails them is refused with event 206h and stays inactive. Clearing ACTIVE stops new commands and leaves the namespace draining; once its commands have finished its extent is cleared, and when nothing is left event 349h is recorded and listed blocks in it leave the list. HOST_CFG is written, MAX_CTRL within 1 to 16, unless it changes the tenant under a live controller, which is refused with event 206h (04 R196-R198; 08 R324, R325, R342). -/
def Obligations.NamespacesAndHosts : Prop :=
  (∀ (s : State) (via : Via) (ns : Fin 4096) (v : Word) (n : Nat), s.dev.commandMade via (Reg.addr .NS_CFG) = true → s.dev.nsNamed via ns.val = some n → s.dev.nsIdle n = true → (s.dev.nsFields n v).nsMayActivate n = true →
      Answers (.nsActivate via ns v) s (fun t => t.dev.flag .NS_CFG_ACTIVE n = true ∧ t.dev.fld .NS_CFG_PIT n = bitsOf v 30 29 ∧ t.dev.fld .NS_CFG_LBAF n = bitsOf v 26 24 ∧
      t.dev.fld .NS_CFG_VOLUME n = bitsOf v 21 16 ∧ t.dev.fld .NS_CFG_TENANT n = bitsOf v 9 0 ∧ (t.dev.keySlot keyMedia n).state = .loaded ∧
      (∀ m, m ≠ n → t.dev.flag .NS_CFG_ACTIVE m = s.dev.flag .NS_CFG_ACTIVE m) ∧ t.dev.store = s.dev.store ∧
      Dev.OnlyChanged [.nvme, .cust, .ldg, .fresh, .fw, .od] ([.NS_CFG_ACTIVE, .NS_CFG_PIT, .NS_CFG_LBAF, .NS_CFG_VOLUME, .NS_CFG_TENANT] ++ answerFlds) [] s.dev t.dev)) ∧
  (∀ (s : State) (via : Via) (ns : Fin 4096) (v : Word) (n : Nat), s.dev.commandMade via (Reg.addr .NS_CFG) = true → s.dev.nsNamed via ns.val = some n → s.dev.nsIdle n = false ∨ (s.dev.nsFields n v).nsMayActivate n = false →
      Answers (.nsActivate via ns v) s (fun t => (∀ m, t.dev.flag .NS_CFG_ACTIVE m = s.dev.flag .NS_CFG_ACTIVE m) ∧ t.dev.nvme = s.dev.nvme ∧ t.dev.store = s.dev.store ∧
      (s.hears .ln → s.told t .ln 0x206 (le 8 (Reg.addr .NS_CFG))) ∧
      Dev.OnlyChanged [.fw, .od] ([.NS_CFG_PIT, .NS_CFG_LBAF, .NS_CFG_VOLUME, .NS_CFG_TENANT] ++ answerFlds) [] s.dev t.dev)) ∧
  (∀ (s : State) (via : Via) (ns : Fin 4096) (n : Nat), s.dev.commandMade via (Reg.addr .NS_CFG) = true → s.dev.nsNamed via ns.val = some n → s.dev.flag .NS_CFG_ACTIVE n = true →
      Answers (.nsDeactivate via ns) s (fun t => t.dev.flag .NS_CFG_ACTIVE n = false ∧ t.dev.nvme = { s.dev.nvme with draining := s.dev.nvme.draining ++ [n] } ∧
      (∀ m, m ≠ n → t.dev.flag .NS_CFG_ACTIVE m = s.dev.flag .NS_CFG_ACTIVE m) ∧ Dev.OnlyChanged [.nvme, .fw, .od] ([.NS_CFG_ACTIVE] ++ answerFlds) [] s.dev t.dev)) ∧
  (∀ (s : State) (ns : Fin 4096), s.dev.nvme.draining.contains ns.val = true → s.dev.nvme.cmds.all (fun c => !(c.io && c.nsid == ns.val + 1)) = true → s.dev.numberFree = true →
      Answers (.nsInactive ns) s (fun t => t.dev.nvme.draining = s.dev.nvme.draining.filter (· != ns.val) ∧
      (t.dev.vol (s.dev.nsVol ns.val)).clearing = (s.dev.vol (s.dev.nsVol ns.val)).clearing ++ [ns.val] ∧ (t.dev.nvme.clearAt.find ns.val).isSome = true ∧
      (∀ v, v ≠ s.dev.nsVol ns.val → t.dev.vol v = s.dev.vol v) ∧
      Dev.OnlyChanged [.nvme, .store, .ldg] [] (.LDG_MAP_SETS :: workCtrs) s.dev t.dev)) ∧
  (∀ (s : State) (ns : Fin 4096) (a : Nat), (s.dev.vol (s.dev.nsVol ns.val)).clearing.contains ns.val = true → s.dev.pierUp (s.dev.volPier (s.dev.nsVol ns.val)) = true → s.dev.reservedBusy (s.dev.nsVol ns.val) = false → s.dev.nvme.cmds.all (fun c => c.io || c.op != .deallocate || c.nsid != ns.val + 1) = true → s.dev.nvme.clearAt.find ns.val = some a → s.dev.nsBase ns.val + s.dev.nsSize ns.val ≤ a →
      Answers (.nsClearComplete ns) s (fun t => (t.dev.vol (s.dev.nsVol ns.val)).clearing = (s.dev.vol (s.dev.nsVol ns.val)).clearing.filter (· != ns.val) ∧
      (t.dev.vol (s.dev.nsVol ns.val)).bad = (s.dev.vol (s.dev.nsVol ns.val)).bad.filter (fun u => !(decide (s.dev.nsBase ns.val ≤ u) && decide (u < s.dev.nsBase ns.val + s.dev.nsSize ns.val))) ∧
      t.dev.nvme.clearAt.find ns.val = none ∧ t.dev.nvme.cmds = s.dev.nvme.cmds ∧
      t.dev.ctr .PAR_CLEAR_UNITS (s.dev.volPier (s.dev.nsVol ns.val)) = (s.dev.ctr .PAR_CLEAR_UNITS (s.dev.volPier (s.dev.nsVol ns.val)) + s.dev.nsSize ns.val) % 2 ^ 64 ∧
      (s.hears (pierDie (s.dev.volPier (s.dev.nsVol ns.val))) → s.told t (pierDie (s.dev.volPier (s.dev.nsVol ns.val))) 0x349 (le 1 (s.dev.nsVol ns.val) ++ le 4 (ns.val + 1))) ∧
      Dev.OnlyChanged [.nvme, .store] [] [.PAR_CLEAR_UNITS, .PAR_BB_REMOVED, .DRV_MCMD_ISSUED] s.dev t.dev)) ∧
  (∀ (s : State) (via : Via) (host : Fin 1024) (v : Word) (h : Nat), s.dev.commandMade via (Reg.addr .HOST_CFG) = true → (match via with | .reg _ => s.dev.fld .HOST_SEL_INDEX | .dict _ => host.val) = h → bitsOf v 9 0 = s.dev.fld .HOST_CFG_TENANT h ∨ s.dev.hostCtrls h = 0 →
      Answers (.hostCfgWrite via host v) s (fun t => t.dev.flag .HOST_CFG_ENABLE h = bitOf v 31 ∧ t.dev.flag .HOST_CFG_PRIV h = bitOf v 30 ∧
      t.dev.fld .HOST_CFG_MAX_CTRL h = clampTo 1 16 (bitsOf v 20 16) ∧ t.dev.fld .HOST_CFG_TENANT h = bitsOf v 9 0 ∧
      (∀ j, j ≠ h → t.dev.fld .HOST_CFG_TENANT j = s.dev.fld .HOST_CFG_TENANT j) ∧
      Dev.OnlyChanged [.fw, .od] ([.HOST_CFG_ENABLE, .HOST_CFG_PRIV, .HOST_CFG_MAX_CTRL, .HOST_CFG_TENANT] ++ answerFlds) [] s.dev t.dev)) ∧
  (∀ (s : State) (via : Via) (host : Fin 1024) (v : Word) (h : Nat), s.dev.commandMade via (Reg.addr .HOST_CFG) = true → (match via with | .reg _ => s.dev.fld .HOST_SEL_INDEX | .dict _ => host.val) = h → bitsOf v 9 0 ≠ s.dev.fld .HOST_CFG_TENANT h → s.dev.hostCtrls h ≠ 0 →
      Answers (.hostCfgWrite via host v) s (fun t => (s.hears .ln → s.told t .ln 0x206 (le 8 (Reg.addr .HOST_CFG))) ∧ Dev.OnlyChanged [.fw, .od] answerFlds [] s.dev t.dev))

/-- Enabling a tenant stores its settings, fills its policer buckets and its shaper's, clears its deficits, opens its meter record where the meters run, with event 280h; disabling one that has a live controller, an active namespace or a VALID window is refused with event 281h. A policer rate is stored unless CIR would exceed PIR, a burst is at least 4 MiB. The scheduler releases the next frame of EQ2 in turn and of EQ3 against the tenant's deficit; a head frame past its class's deadline is promoted, counted; every microsecond each class's depth and delay count in a bin, read and cleared (05 R200-R226). -/
def Obligations.TenantsAndScheduling : Prop :=
  (∀ (s : State) (req : Requester) (pol shp : Bool) (weight : Fin 256) (k : Nat), s.dev.commandMade (.reg req) (Reg.addr .TN_CFG) = true → s.dev.tnSel = k → k < 1024 → s.dev.flag .TN_CFG_ENABLE k = false →
      Answers (.tenantEnable req pol shp weight) s (fun t => t.dev.flag .TN_CFG_ENABLE k = true ∧ t.dev.flag .TN_CFG_POL_EN k = pol ∧ t.dev.flag .TN_CFG_SHP_EN k = shp ∧
      t.dev.fld .TN_CFG_WEIGHT k = max 1 weight.val ∧
      t.dev.tn k = { s.dev.tn k with tc := s.dev.fld .TN_CBS_BURST k * 262144, tp := s.dev.fld .TN_PBS_BURST k * 262144, polAt := s.dev.nowOn .ln, tokens := (s.dev.fld .TN_SBURST_BURST k : Int) * 131072, shpAt := s.dev.nowOn .ln } ∧
      (∀ m, t.dev.deficit m k = 0) ∧ (∀ j, j ≠ k → t.dev.tn j = s.dev.tn j) ∧ (s.dev.metersRun = true → (t.dev.ten.meter.opened.find k).isSome = true) ∧
      (s.hears .ln → s.told t .ln 0x280 (le 2 k)) ∧ Dev.OnlyChanged [.ten, .fw] [.TN_CFG_ENABLE, .TN_CFG_POL_EN, .TN_CFG_SHP_EN, .TN_CFG_WEIGHT] [] s.dev t.dev)) ∧
  (∀ (s : State) (req : Requester) (pol shp : Bool) (weight : Fin 256) (k : Nat), s.dev.commandMade (.reg req) (Reg.addr .TN_CFG) = true → s.dev.tnSel = k → s.dev.flag .TN_CFG_ENABLE k = true →
      Answers (.tenantEnable req pol shp weight) s (fun t => t.dev.flag .TN_CFG_ENABLE k = true ∧ t.dev.flag .TN_CFG_POL_EN k = pol ∧ t.dev.flag .TN_CFG_SHP_EN k = shp ∧
      (t.dev.tn k).tc = (s.dev.tn k).tc ∧ (t.dev.tn k).tp = (s.dev.tn k).tp ∧ t.dev.ten.deficits = s.dev.ten.deficits ∧
      Dev.OnlyChanged [.ten, .fw] [.TN_CFG_ENABLE, .TN_CFG_POL_EN, .TN_CFG_SHP_EN, .TN_CFG_WEIGHT] [] s.dev t.dev)) ∧
  (∀ (s : State) (req : Requester) (pol shp : Bool) (weight : Fin 256) (k : Nat), s.dev.commandMade (.reg req) (Reg.addr .TN_CFG) = true → s.dev.tnSel = k → s.dev.flag .TN_CFG_ENABLE k = true → s.dev.tenantBusy k = false →
      Answers (.tenantDisable req pol shp weight) s (fun t => t.dev.flag .TN_CFG_ENABLE k = false ∧ (s.hears .ln → s.told t .ln 0x280 (le 2 k)) ∧
      (∀ j, j ≠ k → t.dev.flag .TN_CFG_ENABLE j = s.dev.flag .TN_CFG_ENABLE j) ∧
      Dev.OnlyChanged [.ten, .fw] [.TN_CFG_ENABLE, .TN_CFG_POL_EN, .TN_CFG_SHP_EN, .TN_CFG_WEIGHT] [] s.dev t.dev)) ∧
  (∀ (s : State) (req : Requester) (pol shp : Bool) (weight : Fin 256) (k : Nat), s.dev.commandMade (.reg req) (Reg.addr .TN_CFG) = true → s.dev.tnSel = k → s.dev.flag .TN_CFG_ENABLE k = true → s.dev.tenantBusy k = true →
      Answers (.tenantDisable req pol shp weight) s (fun t => (s.hears .ln → s.told t .ln 0x281 (le 8 (Reg.addr .TN_CFG))) ∧ Dev.OnlyChanged [.fw] [] [] s.dev t.dev)) ∧
  (∀ (s : State) (req : Requester) (v : Word), s.dev.commandMade (.reg req) (Reg.addr .TN_CIR) = true →
      Answers (.policerConfigWrite req 0 v) s (fun t => t.dev.fld .TN_CIR_RATE s.dev.tnSel =
      (if s.dev.fld .TN_PIR_RATE s.dev.tnSel < v.toNat % 2 ^ 24 then s.dev.fld .TN_CIR_RATE s.dev.tnSel else v.toNat % 2 ^ 24) ∧
      (s.dev.fld .TN_PIR_RATE s.dev.tnSel < v.toNat % 2 ^ 24 → s.hears .ln → s.told t .ln 0x281 (le 8 (Reg.addr .TN_CIR))) ∧
      Dev.OnlyChanged [.fw] [.TN_CIR_RATE] [] s.dev t.dev) ∧
      Answers (.policerConfigWrite req 1 v) s (fun t => t.dev.fld .TN_PIR_RATE s.dev.tnSel =
      (if v.toNat % 2 ^ 24 < s.dev.fld .TN_CIR_RATE s.dev.tnSel then s.dev.fld .TN_PIR_RATE s.dev.tnSel else v.toNat % 2 ^ 24) ∧
      Dev.OnlyChanged [.fw] [.TN_PIR_RATE] [] s.dev t.dev) ∧
      Answers (.policerConfigWrite req 2 v) s (fun t => (t.dev.fld .TN_CBS_BURST s.dev.tnSel = (max 4096 (v.toNat % 2 ^ 24)) % 2 ^ Fld.TN_CBS_BURST.info.width) ∧
      Dev.OnlyChanged [.fw] [.TN_CBS_BURST] [] s.dev t.dev) ∧
      Answers (.policerConfigWrite req 3 v) s (fun t => (t.dev.fld .TN_PBS_BURST s.dev.tnSel = (max 4096 (v.toNat % 2 ^ 24)) % 2 ^ Fld.TN_PBS_BURST.info.width) ∧
      Dev.OnlyChanged [.fw] [.TN_PBS_BURST] [] s.dev t.dev)) ∧
  (∀ (s : State) (mac : Fin 64) (k c : Nat) (f : TxFrame) (fs : List TxFrame), s.dev.dataPath = true → s.dev.isolated 15 = false → (s.dev.mac mac.val).link = true → (s.dev.mac mac.val).eq2.length < 2 → afterTurn (s.dev.ten.turn2.get 0 mac.val) (s.dev.candidates mac.val (s.dev.eq2Class mac.val)) = some k → s.dev.eq2Class mac.val k = some c → s.dev.classQueue mac.val k c = f :: fs →
      Answers (.frameRelease mac false) s (fun t => t.dev.classQueue mac.val k c = fs ∧ (t.dev.mac mac.val).eq2 = (s.dev.mac mac.val).eq2 ++ [f] ∧
      t.dev.ten.turn2.get 0 mac.val = k ∧ (∀ j, j ≠ mac.val → t.dev.mac j = s.dev.mac j) ∧ t.dev.ten.deficits = s.dev.ten.deficits ∧
      Dev.OnlyChanged [.ten, .net] [] [] s.dev t.dev)) ∧
  (∀ (s : State) (mac : Fin 64) (k c : Nat) (f : TxFrame) (fs : List TxFrame), s.dev.dataPath = true → s.dev.isolated 15 = false → (s.dev.mac mac.val).link = true → (s.dev.mac mac.val).eq3.length < 2 → (s.dev.candidates mac.val (s.dev.eq3Class mac.val)).contains k = true → s.dev.ten.turn3.get none mac.val = some k → s.dev.eq3Class mac.val k = some c → s.dev.classQueue mac.val k c = f :: fs → (s.dev.cost f.bytes : Int) ≤ s.dev.deficit mac.val k →
      Answers (.frameRelease mac true) s (fun t => t.dev.classQueue mac.val k c = fs ∧ (t.dev.mac mac.val).eq3 = (s.dev.mac mac.val).eq3 ++ [f] ∧
      ([1, 2, 3].any (fun e => !(t.dev.classQueue mac.val k e).isEmpty) = true → t.dev.deficit mac.val k = s.dev.deficit mac.val k - s.dev.cost f.bytes) ∧
      ([1, 2, 3].all (fun e => (t.dev.classQueue mac.val k e).isEmpty) = true → t.dev.deficit mac.val k = 0) ∧
      (∀ j, j ≠ mac.val → t.dev.mac j = s.dev.mac j) ∧ Dev.OnlyChanged [.ten, .net] [] [] s.dev t.dev)) ∧
  (∀ (s : State) (k : Fin 1024), s.dev.flag .TN_CFG_SHP_EN k.val = true → 0 ≤ s.dev.tokensNow k.val →
      Answers (.tenantEligible k) s (fun t => t.dev.tn k.val = { s.dev.tn k.val with tokens := s.dev.tokensNow k.val, shpAt := s.dev.nowOn .ln } ∧
      (∀ j, j ≠ k.val → t.dev.tn j = s.dev.tn j) ∧ Dev.OnlyChanged [.ten] [] [] s.dev t.dev)) ∧
  (∀ (s : State) (mac : Fin 64) (k : Fin 1024) (c : Fin 4), c.val ≠ 0 → s.dev.classQueue mac.val k.val c.val ≠ [] → s.dev.isPromoted mac.val k.val c.val = false → s.dev.ten.heads.get 0 (classKey mac.val k.val c.val) + s.dev.fld .CLS_DL_DL_US (c.val - 1) * 1000 < s.dev.nowOn .ln →
      Answers (.classPromotion mac k c) s (fun t => t.dev.isPromoted mac.val k.val c.val = true ∧ t.dev.ctr .TN_PROMOTIONS = (s.dev.ctr .TN_PROMOTIONS + 1) % 2 ^ 64 ∧
      t.dev.ten.classQ = s.dev.ten.classQ ∧ Dev.OnlyChanged [.ten] [] [.TN_PROMOTIONS] s.dev t.dev)) ∧
  (∀ (s : State) (k c : Nat), s.dev.mode.diesUp = true → s.dev.isolated 15 = false → s.dev.nowOn .ln % 1000 = 0 → k < 1024 ∧ c < 4 → s.dev.flag .TN_CFG_ENABLE k = true →
      Answers .histogramSample s (fun t => t.dev.ten.hist.get 0 (histKey 0 k c (depthBin (s.dev.classDepth k c))) = sat 0xFFFFFFFF (s.dev.ten.hist.get 0 (histKey 0 k c (depthBin (s.dev.classDepth k c))) + 1) ∧
      t.dev.ten.hist.get 0 (histKey 1 k c (delayBin (s.dev.classDelay k c))) = sat 0xFFFFFFFF (s.dev.ten.hist.get 0 (histKey 1 k c (delayBin (s.dev.classDelay k c))) + 1) ∧
      (∀ b, b < 32 → b ≠ depthBin (s.dev.classDepth k c) → t.dev.ten.hist.get 0 (histKey 0 k c b) = s.dev.ten.hist.get 0 (histKey 0 k c b)) ∧
      t.dev.ten.classQ = s.dev.ten.classQ ∧ Dev.OnlyChanged [.ten] [] [] s.dev t.dev)) ∧
  (∀ (s : State) (req : Requester) (bin : Fin 32) (v : Nat), s.dev.served = true → s.dev.blockIsolated (Reg.addr .HIST_BIN bin.val) = false → s.dev.ten.hist.get 0 (histKey (s.dev.fld .HIST_SEL_KIND) (s.dev.fld .HIST_SEL_TENANT) (s.dev.fld .HIST_SEL_CLASS) bin.val) = v →
      Answers (.histBinRead req bin) s (fun t => Out.value req (BitVec.ofNat 32 v) ∈ t.dev.out ∧
      (∀ n, t.dev.ten.hist.get 0 n = if n = histKey (s.dev.fld .HIST_SEL_KIND) (s.dev.fld .HIST_SEL_TENANT) (s.dev.fld .HIST_SEL_CLASS) bin.val then 0 else s.dev.ten.hist.get 0 n) ∧
      t.dev.ten.classQ = s.dev.ten.classQ ∧ Dev.OnlyChanged [.ten] [] [] s.dev t.dev))

/-- When windows have ended their records are numbered and written in order, each counted; a record whose write fails is lost with event 292h. At each second the open records and the next SEQ are saved in the ledger; a written key identifier comes into force at the next window boundary; the oldest record not yet exported goes to the host ring while it has room (05 R229-R242). -/
def Obligations.Meters : Prop :=
  (∀ (s : State) (recs : List MeterRec), s.dev.meterRoll.ten.meter.closed = recs → recs ≠ [] →
      Answers (.meterWindowEnd []) s (fun t => t.dev.ten.meter.closed = [] ∧ t.dev.ctr .TN_MTR_WRITTEN = (s.dev.ctr .TN_MTR_WRITTEN + recs.length) % 2 ^ 64 ∧
      t.dev.ten.meter.seq = (s.dev.ten.meter.seq + recs.length) % 2 ^ 64 ∧ Dev.OnlyChanged [] [] [.TN_MTR_WRITTEN] s.dev t.dev)) ∧
  (∀ (s : State) (r : MeterRec) (failed : List Nat), s.dev.meterRoll.ten.meter.closed = [r] → failed.contains r.tenant = true →
      Answers (.meterWindowEnd failed) s (fun t => t.dev.ten.meter.closed = [] ∧ t.dev.ctr .TN_MTR_FAILED = (s.dev.ctr .TN_MTR_FAILED + 1) % 2 ^ 64 ∧
      t.dev.ten.meter.ring = s.dev.ten.meter.ring ∧ t.dev.ten.meter.seq = (s.dev.ten.meter.seq + 1) % 2 ^ 64 ∧
      (s.hears .ln → s.told t .ln 0x292 (le 8 s.dev.ten.meter.seq)) ∧ Dev.OnlyChanged [] [] [.TN_MTR_FAILED] s.dev t.dev)) ∧
  (∀ (s : State), s.dev.metersRun = true → s.dev.now % 1000000000 = 0 →
      Answers .meterCheckpoint s (fun t => t.dev.ten.meter.checkpoint = ⟨s.dev.meterRoll.ten.meter.opened, s.dev.ten.meter.seq, s.dev.now⟩ ∧
      t.dev.ldg = { s.dev.ldg with timeMark := s.dev.now + 2000000000 } ∧ Dev.OnlyChanged [.ldg] [] [] s.dev t.dev)) ∧
  (∀ (s : State) (req : Requester) (k : Fin 64), s.dev.commandMade (.reg req) (Reg.addr .MTR_KEY) = true →
      Answers (.meterKeySelect req k) s (fun t => t.dev.fld .MTR_KEY_KEY_ID = k.val ∧ t.dev.ten.meter.keyId = s.dev.meterRoll.ten.meter.keyId ∧
      t.dev.ten.meter.keyNext = (if k.val = s.dev.meterRoll.ten.meter.keyId then none else some (k.val, windowEnd s.dev.now)) ∧
      Dev.OnlyChanged [.fw] [.MTR_KEY_KEY_ID] [] s.dev t.dev)) ∧
  (∀ (s : State), s.dev.dataPath = true → s.dev.flag .MTR_EXP_CTL_EN = true → (s.dev.epFn 1).busMaster = true → 0 < s.dev.ten.meter.unexported → (s.dev.ten.meter.expWr + 2 ^ 32 - s.dev.fld .MTR_EXP_RD_INDEX) % 2 ^ s.dev.fld .MTR_EXP_CTL_SIZE_LOG2 < 2 ^ s.dev.fld .MTR_EXP_CTL_SIZE_LOG2 - 1 →
      Answers .meterExportRecord s (fun t => t.dev.ten.meter.expWr = (s.dev.ten.meter.expWr + 1) % 2 ^ 32 ∧ t.dev.ten.meter.unexported = s.dev.ten.meter.unexported - 1 ∧
      Out.hostWrite (BitVec.ofNat 64 (s.dev.exportBase + s.dev.ten.meter.expWr % 2 ^ s.dev.fld .MTR_EXP_CTL_SIZE_LOG2 * 128))
      (s.dev.ten.meter.ring.get {} ((s.dev.ten.meter.head + 524288 - s.dev.ten.meter.unexported) % 524288)).bytes ∈ t.dev.out ∧
      t.dev.ten.meter.ring = s.dev.ten.meter.ring ∧ Dev.OnlyChanged [.ep] [] [.EP_MSIX_SENT] s.dev t.dev))

/-- A refused unit that is first of its source is placed in the pool once it fits, and stays waiting while it does not. A unit that crosses to its output leaves the pool, counted; a double-bit error discards it with event 2C4h and never delivers it. SW_FREE_MIN and the VOQ statistics are read and reloaded. At a multiple of 1 s of device time every count that advanced gives its event and starts anew (06 R249-R265; 00 R9). -/
def Obligations.SwitchAndWindows : Prop :=
  (∀ (s : State) (id : Nat) (u : PoolUnit), s.dev.sw.waiting.find? (fun w => w.id == id) = some u → s.dev.sw.waiting.find? (fun w => w.input == u.input && w.output == u.output && w.cls == u.cls) = some u → fitsPool (s.dev.alphaExp u.cls) (s.dev.voqOcc u.input u.output u.cls) u.cells s.dev.poolFree = true →
      Answers (.unitAdmitRetry id) s (fun t => t.dev.sw.waiting = s.dev.sw.waiting.filter (fun w => w.id != id) ∧ t.dev.sw.units = s.dev.sw.units ++ [u] ∧
      t.dev.ctr .SW_CELLS_ALLOC = (s.dev.ctr .SW_CELLS_ALLOC + u.cells) % 2 ^ 64 ∧ Dev.OnlyChanged [.sw, .ten, .net] [] [.SW_CELLS_ALLOC] s.dev t.dev)) ∧
  (∀ (s : State) (id : Nat) (u : PoolUnit), s.dev.sw.waiting.find? (fun w => w.id == id) = some u → fitsPool (s.dev.alphaExp u.cls) (s.dev.voqOcc u.input u.output u.cls) u.cells s.dev.poolFree = false →
      Answers (.unitAdmitRetry id) s (fun t => t.dev.out = [] ∧ Dev.OnlyChanged [] [] [] s.dev t.dev)) ∧
  (∀ (s : State) (o : Fin 16) (mac : Fin 64) (u : PoolUnit), s.dev.outputUnavailable o.val = false → 8 ≤ o.val ∧ o.val ≠ 11 ∧ o.val ≠ 12 → s.dev.nextUnit o.val = some u →
      Answers (.frameCross o mac .clean) s (fun t => t.dev.sw.units = s.dev.sw.units.filter (fun w => w.id != u.id) ∧ Out.crossed u.id u.output ∈ t.dev.out ∧
      t.dev.ctr .SW_FRAMES_CROSSED = (s.dev.ctr .SW_FRAMES_CROSSED + 1) % 2 ^ 64 ∧ t.dev.sw.waiting = s.dev.sw.waiting ∧
      Dev.OnlyChanged [.sw] [] [.SW_FRAMES_CROSSED] s.dev t.dev)) ∧
  (∀ (s : State) (o : Fin 16) (mac : Fin 64) (u : PoolUnit) (q id : Nat) (f : TxFrame), s.dev.outputUnavailable o.val = false → o.val < 8 ∧ mac.val / 8 = o.val → (s.dev.mac mac.val).wire = some (q, f) → (s.dev.mac mac.val).crossed = false → f.unit = some id → s.dev.sw.units.find? (fun w => w.id == id) = some u → u.output = o.val →
      Answers (.frameCross o mac .clean) s (fun t => t.dev.mac mac.val = { s.dev.mac mac.val with crossed := true } ∧ t.dev.sw.units = s.dev.sw.units.filter (fun w => w.id != u.id) ∧
      Out.crossed u.id u.output ∈ t.dev.out ∧ (∀ j, j ≠ mac.val → t.dev.mac j = s.dev.mac j) ∧ Dev.OnlyChanged [.sw, .net] [] [.SW_FRAMES_CROSSED] s.dev t.dev)) ∧
  (∀ (s : State) (o : Fin 16) (mac : Fin 64) (u : PoolUnit) (cell : Nat), s.dev.outputUnavailable o.val = false → 8 ≤ o.val ∧ o.val ≠ 11 ∧ o.val ≠ 12 → s.dev.nextUnit o.val = some u → u.dest = .consumer →
      Answers (.frameCross o mac (.uncorrectable cell)) s (fun t => t.dev.sw.units = s.dev.sw.units.filter (fun w => w.id != u.id) ∧ Out.unitAborted u.id ∈ t.dev.out ∧
      Out.crossed u.id u.output ∉ t.dev.out ∧ t.dev.ctr .SW_ECC_UNCORR = (s.dev.ctr .SW_ECC_UNCORR + 1) % 2 ^ 64 ∧
      (s.hears .ln → s.told t .ln 0x2C4 (le 8 cell ++ le 2 (voqIndex u.input u.output u.cls))) ∧
      Dev.OnlyChanged [.sw, .net, .ten] [] [.SW_ECC_UNCORR] s.dev t.dev)) ∧
  (∀ (s : State) (req : Requester), s.dev.served = true → s.dev.isolated 16 = false →
      Answers (.swFreeMinRead req) s (fun t => Out.value req (BitVec.ofNat 32 s.dev.sw.minFree) ∈ t.dev.out ∧ t.dev.sw = { s.dev.sw with minFree := s.dev.poolFree } ∧
      Dev.OnlyChanged [.sw] [] [] s.dev t.dev) ∧
      Answers (.swVoqStatRead req true) s (fun t => Out.value req (BitVec.ofNat 32 (s.dev.sw.drops.get 0 s.dev.selectedVoq)) ∈ t.dev.out ∧
      t.dev.sw.drops.get 0 s.dev.selectedVoq = 0 ∧ t.dev.sw.peaks = s.dev.sw.peaks ∧ t.dev.sw.units = s.dev.sw.units ∧ Dev.OnlyChanged [.sw] [] [] s.dev t.dev) ∧
      Answers (.swVoqStatRead req false) s (fun t => Out.value req (BitVec.ofNat 32 (s.dev.sw.peaks.get 0 s.dev.selectedVoq)) ∈ t.dev.out ∧
      t.dev.sw.peaks.get 0 s.dev.selectedVoq = 0 ∧ t.dev.sw.drops = s.dev.sw.drops ∧ t.dev.sw.units = s.dev.sw.units ∧ Dev.OnlyChanged [.sw] [] [] s.dev t.dev)) ∧
  (∀ (s : State), s.dev.managed = true → s.dev.now % 1000000000 = 0 →
      Answers .aggregationWindowEnd s (fun t => t.dev.evr.missed = 0 ∧ t.dev.evr.refused = 0 ∧
      (0 < s.dev.evr.missed → s.told t .pl 0x3F9 (leCount s.dev.evr.missed ++ le 1 (s.dev.fld .CNT_CTL_STACK))) ∧
      (0 < s.dev.evr.refused → s.told t .pl 0x3FA (le 8 s.dev.evr.refusedAddr ++ leCount s.dev.evr.refused)) ∧
      (s.dev.mode.diesUp = true → s.hears .ln → 0 < (s.dev.counterAdvanced .RD_RNR_SENT).1 → s.told t .ln 0x186 (leCount (s.dev.counterAdvanced .RD_RNR_SENT).1)) ∧
      (s.dev.mode.diesUp = true → (t.dev.counterAdvanced .RD_RNR_SENT).1 = 0) ∧ Dev.OnlyChanged [.marks, .sw, .ten, .nvme, .evr] [] [] s.dev t.dev))

/-- A GENERATE of an empty slot with the random generator good, and an IMPORT whose key unwraps, start a command that ends with the slot LOADED, both wrapped copies written and event 300h; a DESTROY makes the slot DESTROYING, and once nothing holds the key it is EMPTY with both copies destroyed and event 301h. A command on a slot that is not as it needs it is refused with event 302h and changes no slot. An accepted secret puts the keys in custody and raises its session to Custodian; a change of secret wraps the keys under the new one (07 R277-R291, R310). -/
def Obligations.KeysInCustody : Prop :=
  (∀ (s : State) (via : KeyVia) (kind i : Nat), s.dev.keyCommandMade via = true → s.dev.keyTarget via = (kind, i) → s.dev.mayFill kind i = true → s.dev.cust.rngOk = true →
      Answers (.keyGenerate via) s (fun t => (t.dev.keySlot kind i).running.isSome = true ∧ (t.dev.keySlot kind i).state = .empty ∧
      (∀ j, j ≠ slotKey kind i → t.dev.cust.slots.get {} j = s.dev.cust.slots.get {} j) ∧ t.dev.cust.wrapped = s.dev.cust.wrapped ∧ t.dev.cust.kek = s.dev.cust.kek ∧
      Dev.OnlyChanged [.cust, .fresh, .od] answerFlds [] s.dev t.dev)) ∧
  (∀ (s : State) (via : KeyVia) (kind i : Nat), s.dev.keyCommandMade via = true → s.dev.keyTarget via = (kind, i) → s.dev.mayFill kind i = false ∨ s.dev.cust.rngOk = false →
      Answers (.keyGenerate via) s (fun t => t.dev.cust = s.dev.cust ∧ (s.hears .ln → ∃ n, s.told t .ln 0x302 (le 1 kind ++ le 2 i) n) ∧
      Dev.OnlyChanged [.fresh, .od] answerFlds [] s.dev t.dev)) ∧
  (∀ (s : State) (via : KeyVia) (kind i : Nat) (cs : List Byte), s.dev.keyCommandMade via = true → s.dev.served = true ∧ s.dev.blockIsolated (Reg.addr .KEY_CMD) = false → s.dev.keyTarget via = (kind, i) → s.dev.mayFill kind i = true → s.dev.cust.cs = some cs →
      Answers (.keyImport via) s (fun t => (match Config.importKey (imkOf cs) ((List.range 18).map (fun w => s.dev.fld .KEY_DATA_DATA w)) with
      | some key => t.dev.keySlot kind i == { s.dev.keySlot kind i with running := some (.store key) } && (t.dev.fld .KEY_DATA_DATA 3 == s.dev.fld .KEY_DATA_DATA 3)
      | none => t.dev.cust == s.dev.cust && (List.range 18).all (fun w => t.dev.fld .KEY_DATA_DATA w == 0)) = true ∧
      (∀ j, j ≠ slotKey kind i → t.dev.cust.slots.get {} j = s.dev.cust.slots.get {} j) ∧ t.dev.cust.wrapped = s.dev.cust.wrapped ∧
      Dev.OnlyChanged [.cust, .fresh, .od] (.KEY_DATA_DATA :: answerFlds) [] s.dev t.dev)) ∧
  (∀ (s : State) (kind : Fin 4) (slot : Fin 4096) (key : Nat), (s.dev.keySlot kind.val slot.val).running = some (.store key) →
      Answers (.keyCommandComplete kind slot) s (fun t => t.dev.keySlot kind.val slot.val = { s.dev.keySlot kind.val slot.val with state := .loaded, key := key, running := none } ∧
      (t.dev.cust.wrapped.slotsA.get {} (slotKey kind.val slot.val)).key = key ∧ (t.dev.cust.wrapped.slotsB.get {} (slotKey kind.val slot.val)).key = key ∧
      (∀ j, j ≠ slotKey kind.val slot.val → t.dev.cust.slots.get {} j = s.dev.cust.slots.get {} j) ∧ (∀ w, w < 18 → t.dev.fld .KEY_DATA_DATA w = 0) ∧
      (s.hears .ln → s.told t .ln 0x300 (le 1 kind.val ++ le 2 slot.val)) ∧ Dev.OnlyChanged [.cust] [.KEY_DATA_DATA] [] s.dev t.dev)) ∧
  (∀ (s : State) (via : KeyVia) (kind i : Nat), s.dev.keyCommandMade via = true → s.dev.keyTarget via = (kind, i) → i < keySlotCount kind → (s.dev.keySlot kind i).state = .loaded ∨ (s.dev.keySlot kind i).state = .unreadable → (s.dev.keySlot kind i).running = none → s.dev.destroyRefused s.dev.nsActive (fun v => decide ((s.dev.vol v).st ≠ .none)) kind i = false →
      Answers (.keyDestroy via) s (fun t => t.dev.keySlot kind i = { s.dev.keySlot kind i with state := .destroying, running := some .destroy } ∧
      (∀ j, j ≠ slotKey kind i → t.dev.cust.slots.get {} j = s.dev.cust.slots.get {} j) ∧ t.dev.cust.wrapped = s.dev.cust.wrapped ∧
      Dev.OnlyChanged [.cust, .od] answerFlds [] s.dev t.dev)) ∧
  (∀ (s : State) (via : KeyVia) (kind i : Nat), s.dev.keyCommandMade via = true → s.dev.keyTarget via = (kind, i) → s.dev.destroyRefused s.dev.nsActive (fun v => decide ((s.dev.vol v).st ≠ .none)) kind i = true →
      Answers (.keyDestroy via) s (fun t => t.dev.cust = s.dev.cust ∧ (s.hears .ln → ∃ n, s.told t .ln 0x302 (le 1 kind ++ le 2 i) n) ∧
      Dev.OnlyChanged [.fresh, .od] answerFlds [] s.dev t.dev)) ∧
  (∀ (s : State) (kind : Fin 4) (slot : Fin 4096), (s.dev.keySlot kind.val slot.val).state = .destroying → kind.val ≠ 0 → s.dev.cust.jobs.all (fun j => j.desc.key != slot.val || j.key.isNone) = true →
      Answers (.keyDestroyComplete kind slot) s (fun t => t.dev.keySlot kind.val slot.val = {} ∧
      (t.dev.cust.wrapped.slotsA.get {} (slotKey kind.val slot.val)).gen = 0xFFFFFFFF ∧ (t.dev.cust.wrapped.slotsB.get {} (slotKey kind.val slot.val)).gen = 0xFFFFFFFF ∧
      (∀ j, j ≠ slotKey kind.val slot.val → t.dev.cust.slots.get {} j = s.dev.cust.slots.get {} j) ∧
      (s.hears .ln → s.told t .ln 0x301 (le 1 kind.val ++ le 2 slot.val)) ∧ Dev.OnlyChanged [.cust] [] [] s.dev t.dev)) ∧
  (∀ (s : State) (n : Nat) (enc : Bool) (secret : BitVec 256), sessionPort n ≠ 1 ∨ (enc = true ∧ s.dev.sessionLevel n = .custodian) → s.dev.modeNow ≠ .safe → s.dev.ldg.stateLoaded = true → s.dev.od.secretRefused.get none (sessionPort n) = none → s.dev.cust.wrapped.kcvA = none →
      Answers (.secretInject n enc secret) s (fun t => t.dev.cust.cs = some (le 32 secret.toNat) ∧ t.dev.cust.kek = some (kekOf (le 32 secret.toNat)) ∧ t.dev.cust.ready = true ∧
      t.dev.cust.wrapped.kcvA = some (kcvOf (kekOf (le 32 secret.toNat))) ∧ t.dev.cust.wrapped.sealedA = (if s.dev.flag .CX_SECRET_SEAL then some (le 32 secret.toNat) else none) ∧
      t.dev.cust.wrapped.sealedB = t.dev.cust.wrapped.sealedA ∧ (t.dev.session n).level = .custodian ∧ Out.dictAnswer n 0 [] ∈ t.dev.out ∧
      (s.dev.cust.wrapped.kcvB = none → (t.dev.keySlot keyLedger 0).state = .loaded ∧ s.told t .pl 0x304) ∧
      Dev.OnlyChanged [.cust, .od, .fresh] answerFlds [.CX_UNWRAP_FAIL] s.dev t.dev)) ∧
  (∀ (s : State) (n : Nat) (enc : Bool) (old new : BitVec 256), s.dev.sessionLevel n = .custodian → sessionPort n ≠ 1 ∨ enc = true → s.dev.modeNow ≠ .safe → s.dev.ldg.stateLoaded = true → s.dev.od.secretRefused.get none (sessionPort n) = none → s.dev.cust.wrapped.kcvA = none →
      Answers (.secretChange n enc old new) s (fun t => t.dev.cust.cs = some (le 32 new.toNat) ∧ t.dev.cust.kek = some (kekOf (le 32 new.toNat)) ∧ t.dev.cust.ready = true ∧
      t.dev.cust.wrapped.kcvA = some (kcvOf (kekOf (le 32 new.toNat))) ∧ t.dev.cust.wrapped.kcvB = some (kcvOf (kekOf (le 32 new.toNat))) ∧
      s.told t .pl 0x304 ∧ Out.dictAnswer n 0 [] ∈ t.dev.out ∧ Dev.OnlyChanged [.cust, .od, .fresh] answerFlds [.CX_UNWRAP_FAIL] s.dev t.dev)) ∧
  (∀ (s : State) (n : Nat) (enc : Bool) (secret : BitVec 256), sessionPort n ≠ 1 → s.dev.modeNow ≠ .safe → s.dev.ldg.stateLoaded = false →
      Answers (.secretInject n enc secret) s (fun t => t.dev.cust = s.dev.cust ∧ s.told t .pl 0x303 ∧ Out.dictAnswer n 0x08000022 [] ∈ t.dev.out ∧
      Dev.OnlyChanged [.od] answerFlds [] s.dev t.dev))

/-- The first alarm latches its source with its event, erases every key, the KEK and the secret, drops the sealed copies, turns rails 9, 8 and 7 off and empties the mortar pool, with event 30Ah; a latched source changes nothing more. An under-voltage erases the keys and stops the data path; a recovery within 1 ms is an alarm of source voltage. A privileged write of ALM_CFG is taken in COMMISSION only. The doorbell takes the posted descriptors in order; a finished job writes its STATUS, its output only when its check passed, and the head passes it (07 R293-R309, R704, R705). -/
def Obligations.AlarmsAndOffload : Prop :=
  (∀ (s : State), s.dev.cust.alarms = 0 →
      Answers (.alarm [.mesh]) s (fun t => t.dev.cust.alarms = 1 ∧ t.dev.cust.cs = none ∧ t.dev.cust.kek = none ∧ t.dev.cust.ready = false ∧ t.dev.cust.jobs = [] ∧
      (∀ n, (t.dev.cust.slots.get {} n).state = .empty ∧ (t.dev.cust.slots.get {} n).key = 0 ∧ (t.dev.cust.slots.get {} n).running = none) ∧
      t.dev.cust.wrapped.sealedA = none ∧ t.dev.cust.wrapped.sealedB = none ∧ (t.dev.rail 7).on = false ∧ (t.dev.rail 8).on = false ∧ (t.dev.rail 9).on = false ∧
      t.dev.sw.units = [] ∧ t.dev.modeNow = .safe ∧ (∀ n, (t.dev.session n).level = .observer) ∧ s.told t .pl 0x0E0 ∧ s.told t .pl 0x30A (le 1 1) ∧
      Dev.OnlyChanged [.cust, .fresh, .od, .arch, .sw, .net, .ten] [] [] s.dev t.dev)) ∧
  (∀ (s : State), s.dev.cust.alarms % 2 = 1 →
      Answers (.alarm [.mesh]) s (fun t => t.dev.out = [] ∧ Dev.OnlyChanged [] [] [] s.dev t.dev)) ∧
  (∀ (s : State) (u : GlitchSupply) (mv lo hi : Nat), s.dev.glitchLimits u = some (lo, hi) → mv < lo → s.dev.cust.alarms = 0 → s.dev.cust.dipAt = none →
      Answers (.underVoltage u mv) s (fun t => t.dev.cust.cs = none ∧ t.dev.cust.kek = none ∧ t.dev.cust.jobs = [] ∧ t.dev.cust.dipAt = some s.dev.now ∧ t.dev.cust.alarms = 0 ∧
      (∀ n, (t.dev.cust.slots.get {} n).state = .empty ∧ (t.dev.cust.slots.get {} n).key = 0) ∧ t.dev.dataPath = false ∧
      t.dev.cust.wrapped.sealedA = s.dev.cust.wrapped.sealedA ∧ Dev.OnlyChanged [.cust, .fresh, .od] [] [] s.dev t.dev)) ∧
  (∀ (s : State) (u : Nat), s.dev.cust.alarms = 0 → s.dev.cust.dipAt = some u → s.dev.now ≤ u + 1000000 →
      Answers .underVoltageRecover s (fun t => t.dev.cust.alarms = 4 ∧ t.dev.cust.dipAt = none ∧ t.dev.cust.ready = false ∧ s.told t .pl 0x0E2 ∧ s.told t .pl 0x30A (le 1 4) ∧
      Dev.OnlyChanged [.cust, .fresh, .od, .arch, .sw, .net, .ten] [] [] s.dev t.dev)) ∧
  (∀ (s : State), s.dev.cust.rngOk = true →
      Answers .rngTestFail s (fun t => t.dev.cust = { s.dev.cust with rngOk := false } ∧ s.told t .pl 0x305 ∧ Dev.OnlyChanged [.cust] [] [] s.dev t.dev)) ∧
  (∀ (s : State),
      Answers .rngTestPass s (fun t => t.dev.cust = { s.dev.cust with rngOk := true } ∧ Dev.OnlyChanged [.cust] [] [] s.dev t.dev)) ∧
  (∀ (s : State) (r : Requester) (v : Word), s.dev.commandMade (.reg r) (Reg.addr .ALM_CFG) = true → s.dev.privileged r = true → s.dev.modeNow = .commission →
      Answers (.almCfgWrite (.reg r) v) s (fun t => t.dev.fld .ALM_CFG_EXT_POL = bitsOf v 1 1 ∧ t.dev.fld .ALM_CFG_EXT_EN = bitsOf v 0 0 ∧
      Dev.OnlyChanged [.fw] [.ALM_CFG_EXT_POL, .ALM_CFG_EXT_EN] [] s.dev t.dev)) ∧
  (∀ (s : State) (r : Requester) (v : Word), s.dev.commandMade (.reg r) (Reg.addr .ALM_CFG) = true → s.dev.privileged r = false ∨ s.dev.modeNow ≠ .commission →
      Answers (.almCfgWrite (.reg r) v) s (fun t => (s.hears .ln → s.toldOf t .ln 0x302) ∧ Dev.OnlyChanged [.fresh] [] [] s.dev t.dev)) ∧
  (∀ (s : State) (req : Requester) (tail : Word) (x : OffloadDesc), s.dev.commandMade (.reg req) (Reg.addr .OFL_TAIL) = true → s.dev.offloadRuns = true → s.dev.cust.taken ≠ tail.toNat →
      Answers (.offloadDoorbell req tail [x]) s (fun t => t.dev.fld .OFL_TAIL_INDEX = tail.toNat ∧
      t.dev.cust = { s.dev.cust with taken := (s.dev.cust.taken + 1) % 2 ^ 32, jobs := s.dev.cust.jobs ++ [⟨s.dev.cust.taken, x, s.dev.serviceKey x.key useOffload⟩] } ∧
      Dev.OnlyChanged [.cust, .fw] [.OFL_TAIL_INDEX] [] s.dev t.dev)) ∧
  (∀ (s : State) (index : Word) (ok : Bool) (aad data tag : List Byte) (j : OffloadJob), s.dev.cust.jobs.find? (fun j => j.index == index.toNat) = some j ∧ s.dev.offloadRuns = true →
      Answers (.offloadJobComplete index ok aad data tag) s (fun t => Out.offloadStatus j.index (offloadResult j ok aad data tag).1 ∈ t.dev.out ∧
      (ok = false → (offloadResult j ok aad data tag).1 = 5) ∧ (ok = true → offloadValid j.desc = false → (offloadResult j ok aad data tag).1 = 4) ∧
      ((offloadResult j ok aad data tag).1 ≠ 1 → t.dev.out.all (fun o => match o with | .hostWrite _ _ => false | _ => true) = true ∧
      t.dev.ctr .CX_OFL_ERR = (s.dev.ctr .CX_OFL_ERR + 1) % 2 ^ 64) ∧ t.dev.cust.jobs = s.dev.cust.jobs.filter (fun k => k.index != j.index) ∧
      (s.dev.cust.finished = [] → s.dev.cust.head = j.index → t.dev.cust.head = (j.index + 1) % 2 ^ 32 ∧ t.dev.cust.finished = []) ∧
      t.dev.ctr .CX_OFL_JOBS = (s.dev.ctr .CX_OFL_JOBS + 1) % 2 ^ 64 ∧
      Dev.OnlyChanged [.cust, .ep] [] [.CX_OFL_JOBS, .CX_GC_JOBS, .CX_OFL_ERR, .EP_MSIX_SENT] s.dev t.dev))

/-- A CREATE that R345 admits makes the volume CREATING at GEN 1 with the members VOL_MEMBER names online and stamped, their data areas being zeroed; once the stamps are durable the volume has a parity key, takes the state its online members give, and with a member away every region is marked absent. A DELETE that R346 admits ends the volume's jobs and wipes stamps and lists; then the members return to spare and the volume is NONE. Every change of state records 343h; a refusal records 342h and changes no volume (08 R311, R312, R344-R346; 10 R398). -/
def Obligations.VolumesCreatedAndDeleted : Prop :=
  (∀ (s : State) (via : Via) (volume : Fin 64) (v : Nat), s.dev.commandMade via (s.dev.pairAddr .VOL_CMD) = true → volume.val = v → s.dev.mayCreate v = true →
      Answers (.volumeCreate via volume) s (fun t => (t.dev.vol v).st = .creating ∧ (t.dev.vol v).creating = true ∧ (t.dev.vol v).gen = 1 ∧ (t.dev.vol v).owner = (s.dev.quoinVol v).owner ∧
      (t.dev.vol v).members = (s.dev.cfgSlots v).zipIdx.map (fun e => (e.2, { st := .online, slot := e.1, gen := 1 })) ∧
      (∀ k ∈ s.dev.cfgSlots v, (t.dev.vol v).cap ≤ (s.dev.drive k).units) ∧ (∃ k ∈ s.dev.cfgSlots v, (t.dev.vol v).cap = (s.dev.drive k).units) ∧
      (∀ e ∈ (s.dev.cfgSlots v).zipIdx, t.dev.drive e.1 = { s.dev.drive e.1 with st := .online, volume := v, index := e.2 } ∧
      Out.memberZeroes e.1 dataStart (t.dev.vol v).cap ∈ t.dev.out) ∧
      (∀ k, k ∉ s.dev.cfgSlots v → t.dev.drive k = s.dev.drive k) ∧ (∀ w, w ≠ v → t.dev.vol w = s.dev.vol w) ∧
      t.dev.store.mcmds.length = s.dev.store.mcmds.length + s.dev.fld .VOL_CFG_WIDTH v ∧
      (s.hears (pierDie (s.dev.quoinVol v).owner) → s.told t (pierDie (s.dev.quoinVol v).owner) 0x343 (le 1 v ++ le 1 0) 1) ∧
      Dev.OnlyChanged [.store, .fresh, .fw, .od] answerFlds [.DRV_MCMD_ISSUED, .JOB_CKPT_WRITES] s.dev t.dev)) ∧
  (∀ (s : State) (via : Via) (volume : Fin 64) (v : Nat), s.dev.commandMade via (s.dev.pairAddr .VOL_CMD) = true → volume.val = v → s.dev.mayCreate v = false →
      Answers (.volumeCreate via volume) s (fun t => (s.hears (pierDie (s.dev.volPier v)) → ∃ n, s.told t (pierDie (s.dev.volPier v)) 0x342 (le 1 v ++ le 8 (Reg.addr .VOL_CMD)) n) ∧
      t.dev.store = s.dev.store ∧ Dev.OnlyChanged [.fresh, .fw, .od] answerFlds [] s.dev t.dev)) ∧
  (∀ (s : State) (volume : Fin 64) (v : Nat), volume.val = v → (s.dev.vol v).st = .creating → (s.dev.keySlot keyParity v).state = .loaded → s.dev.reservedBusy v = false →
      Answers (.volumeCreateComplete volume) s (fun t => (t.dev.vol v).st = s.dev.stateByMembers v ∧ (t.dev.vol v).level = (s.dev.stateByMembers v).level ∧ (t.dev.vol v).creating = false ∧
      (t.dev.vol v).absent = (if (s.dev.vol v).members.any (fun e => e.2.st != .online) then s.dev.volRegions v else []) ∧
      (t.dev.vol v).members = (s.dev.vol v).members ∧ (∀ w, w ≠ v → t.dev.vol w = s.dev.vol w) ∧ t.dev.store.drives = s.dev.store.drives ∧
      (s.hears (pierDie (s.dev.volPier v)) → s.told t (pierDie (s.dev.volPier v)) 0x340 (le 1 v ++ le 1 (s.dev.geom v false).n ++ le 1 (s.dev.fld .VOL_CFG_STRIP v)) ∧
      s.told t (pierDie (s.dev.volPier v)) 0x343 (le 1 v ++ le 1 (s.dev.stateByMembers v).level) (s.dev.stateByMembers v).code) ∧
      Dev.OnlyChanged [.store] [] [.LDG_MAP_SETS, .DRV_MCMD_ISSUED] s.dev t.dev)) ∧
  (∀ (s : State) (volume : Fin 64) (v : Nat), volume.val = v → (s.dev.vol v).st = .creating → (s.dev.keySlot keyParity v).state = .empty → (s.dev.keySlot keyParity v).running = none → s.dev.cust.kek.isSome = true ∧ s.dev.cust.rngOk = true → s.dev.reservedBusy v = false →
      Answers (.volumeCreateComplete volume) s (fun t => (t.dev.keySlot keyParity v).state = .loaded ∧ (t.dev.vol v).st = s.dev.stateByMembers v ∧
      (∀ j, j ≠ slotKey keyParity v → t.dev.cust.slots.get {} j = s.dev.cust.slots.get {} j) ∧
      (s.hears .ln → s.told t .ln 0x300 (le 1 keyParity ++ le 2 v)) ∧ Dev.OnlyChanged [.store, .cust, .fresh] [] [.LDG_MAP_SETS, .DRV_MCMD_ISSUED] s.dev t.dev)) ∧
  (∀ (s : State) (via : Via) (volume : Fin 64) (v : Nat), s.dev.commandMade via (s.dev.pairAddr .VOL_CMD) = true → volume.val = v → (s.dev.vol v).st ∉ [VState.none, .creating, .deleting] → s.dev.volInUse v = false →
      Answers (.volumeDelete via volume) s (fun t => t.dev.vol v = { s.dev.vol v with st := .deleting, level := 0, pass := none, reshape := none, scrub := {} } ∧
      t.dev.store.drives = s.dev.store.drives ∧ (∀ w, w ≠ v → { t.dev.vol w with pass := none, reshape := none, scrub := {} } = { s.dev.vol w with pass := none, reshape := none, scrub := {} }) ∧
      t.dev.store.mcmds.length = s.dev.store.mcmds.length + 3 * (s.dev.membersIn v [.online, .rebuilding]).length ∧
      (s.hears (pierDie (s.dev.vol v).owner) → s.told t (pierDie (s.dev.vol v).owner) 0x343 (le 1 v ++ le 1 0) 6) ∧
      Dev.OnlyChanged [.store, .fw, .od] answerFlds [.DRV_MCMD_ISSUED] s.dev t.dev)) ∧
  (∀ (s : State) (via : Via) (volume : Fin 64) (v : Nat), s.dev.commandMade via (s.dev.pairAddr .VOL_CMD) = true → volume.val = v → (s.dev.vol v).st ∈ [VState.none, .creating, .deleting] ∨ s.dev.volInUse v = true →
      Answers (.volumeDelete via volume) s (fun t => (s.hears (pierDie (s.dev.volPier v)) → ∃ n, s.told t (pierDie (s.dev.volPier v)) 0x342 (le 1 v ++ le 8 (Reg.addr .VOL_CMD)) n) ∧
      t.dev.store = s.dev.store ∧ Dev.OnlyChanged [.fresh, .fw, .od] answerFlds [] s.dev t.dev)) ∧
  (∀ (s : State) (volume : Fin 64) (v : Nat), volume.val = v → (s.dev.vol v).st = .deleting → s.dev.reservedBusy v = false → (s.dev.pier (s.dev.volPier v)).recs.any (fun r => r.volume == v && r.kind != 0 && !r.retired) = false → (s.dev.vol v).members.all (fun e => decide (e.2.slot < 24)) = true →
      Answers (.volumeDeleteComplete volume) s (fun t => t.dev.vol v = { owner := (s.dev.vol v).owner } ∧ (∀ w, w ≠ v → t.dev.vol w = s.dev.vol w) ∧
      (∀ m ∈ (s.dev.vol v).members.keys, (s.dev.drive (s.dev.mem v m).slot).volume = v ∧ (s.dev.drive (s.dev.mem v m).slot).index = m ∧
      (s.dev.drive (s.dev.mem v m).slot).st = .online →
      t.dev.drive (s.dev.mem v m).slot = { s.dev.drive (s.dev.mem v m).slot with st := .spare, volume := 0, index := 0, stamp := none }) ∧
      (t.dev.keySlot keyParity v).state = .empty ∧ (∀ j, j ≠ slotKey keyParity v → t.dev.cust.slots.get {} j = s.dev.cust.slots.get {} j) ∧
      (s.hears (pierDie (s.dev.volPier v)) → s.told t (pierDie (s.dev.volPier v)) 0x341 (le 1 v) ∧ s.told t (pierDie (s.dev.volPier v)) 0x343 (le 1 v ++ le 1 0) 0) ∧
      Dev.OnlyChanged [.store, .cust] [] [] s.dev t.dev))

/-- A whole stripe of a write takes a free accumulator of the owning pier, and a partial write is given room in the pier's 8 GiB of staging; where there is none the write waits, counted once. A block read from a member goes to its command; a failed member command is reissued once, and a second failure of a read is a media error whose block is to be recovered. An acknowledged write of a record's row leaves staging and the row no longer waits for it; an acknowledged stamp sets its member's GEN. A write of an epoch below the learned one, or answered with Reservation Conflict, fences the pier that sent it (08 R326, R331, R333, R335, R336; 09 R364; 11 R456, R457, R460; 16 R624). -/
def Obligations.MemberReadsAndWrites : Prop :=
  (∀ (s : State) (cmd stripe : Nat) (c : Cmd), s.dev.cmd cmd = some c → c.op.writes = true ∧ c.dispatched = true ∧ c.held = false ∧ c.status = none ∧ c.record = none ∧ s.dev.pierUp (s.dev.volPier c.vol) = true → (s.dev.fullStripes c).any (fun k => k.2 == stripe) = true → stripe ∉ c.claimed → (s.dev.pier (s.dev.volPier c.vol)).accs.length < accumulators →
      Answers (.accumulatorClaim cmd stripe) s (fun t => t.dev.cmd cmd = some { c with claimed := c.claimed ++ [stripe] } ∧ (∀ j, j ≠ cmd → t.dev.cmd j = s.dev.cmd j) ∧
      (t.dev.pier (s.dev.volPier c.vol)).accs = (s.dev.pier (s.dev.volPier c.vol)).accs ++ (if c.need ≤ c.data.length then [] else [(cmd, stripe)]) ∧
      (∀ q, q ≠ s.dev.volPier c.vol → t.dev.pier q = s.dev.pier q) ∧ Dev.OnlyChanged [.nvme, .ldg] [] [] s.dev t.dev)) ∧
  (∀ (s : State) (cmd stripe : Nat) (c : Cmd), s.dev.cmd cmd = some c → c.op.writes = true ∧ c.dispatched = true ∧ c.held = false ∧ c.status = none ∧ c.record = none ∧ s.dev.pierUp (s.dev.volPier c.vol) = true → (s.dev.fullStripes c).any (fun k => k.2 == stripe) = true → stripe ∉ c.claimed → accumulators ≤ (s.dev.pier (s.dev.volPier c.vol)).accs.length → c.waitAcc = false →
      Answers (.accumulatorClaim cmd stripe) s (fun t => t.dev.cmd cmd = some { c with waitAcc := true } ∧ (∀ j, j ≠ cmd → t.dev.cmd j = s.dev.cmd j) ∧
      t.dev.ctr .PAR_ACC_WAITS (s.dev.volPier c.vol) = (s.dev.ctr .PAR_ACC_WAITS (s.dev.volPier c.vol) + 1) % 2 ^ 64 ∧ Dev.OnlyChanged [.nvme] [] [.PAR_ACC_WAITS] s.dev t.dev)) ∧
  (∀ (s : State) (cmd need : Nat) (c : Cmd), s.dev.cmd cmd = some c → c.op.writes = true ∧ c.dispatched = true ∧ c.held = false ∧ c.status = none ∧ c.record = none ∧ s.dev.pierUp (s.dev.volPier c.vol) = true → c.staging = 0 → unitBytes * (((s.dev.cmdRows c).filter (fun e => !(s.dev.fullStripes c).contains (e.1.newGeo, e.1.stripe))).map (fun e => e.2.length + 2)).sum = need → 0 < need → s.dev.stagedBytes (s.dev.volPier c.vol) + need ≤ 8 * 2 ^ 30 →
      Answers (.stagingAdmit cmd) s (fun t => t.dev.cmd cmd = some { c with staging := need } ∧ (∀ j, j ≠ cmd → t.dev.cmd j = s.dev.cmd j) ∧
      Dev.OnlyChanged [.nvme, .marks] [] [] s.dev t.dev)) ∧
  (∀ (s : State) (cmd need : Nat) (c : Cmd), s.dev.cmd cmd = some c → c.op.writes = true ∧ c.dispatched = true ∧ c.held = false ∧ c.status = none ∧ c.record = none ∧ s.dev.pierUp (s.dev.volPier c.vol) = true → c.staging = 0 ∧ c.waitStage = none → unitBytes * (((s.dev.cmdRows c).filter (fun e => !(s.dev.fullStripes c).contains (e.1.newGeo, e.1.stripe))).map (fun e => e.2.length + 2)).sum = need → 0 < need → 8 * 2 ^ 30 < s.dev.stagedBytes (s.dev.volPier c.vol) + need →
      Answers (.stagingAdmit cmd) s (fun t => t.dev.cmd cmd = some { c with waitStage := some (s.dev.nowOn (pierDie (s.dev.volPier c.vol))) } ∧ (∀ j, j ≠ cmd → t.dev.cmd j = s.dev.cmd j) ∧
      t.dev.ctr .PAR_STAGE_WAITS (s.dev.volPier c.vol) = (s.dev.ctr .PAR_STAGE_WAITS (s.dev.volPier c.vol) + 1) % 2 ^ 64 ∧ Dev.OnlyChanged [.nvme] [] [.PAR_STAGE_WAITS] s.dev t.dev)) ∧
  (∀ (s : State) (id : Nat) (stored : List Byte) (c : MCmd) (cmd st row x : Nat) (ng : Bool) (y : Cmd), s.dev.store.mcmds.find? (fun c => c.id == id && !c.write) = some c → c.use = .read cmd ng st row x → s.dev.pierRuns (slotLanes c.slot) 0 = true → s.dev.cmd cmd = some y → 2 ≤ y.reading →
      Answers (.memberReadComplete id .ok stored) s (fun t => t.dev.cmd cmd = some { y with reading := y.reading - 1, hand := y.hand ++ [⟨ng, st, row, x, s.dev.openBlock c.volume ⟨ng, st, row⟩ x (slice stored 0 unitBytes), slice stored 0 unitBytes⟩] } ∧
      (∀ j, j ≠ cmd → t.dev.cmd j = s.dev.cmd j) ∧ t.dev.store = { s.dev.store with mcmds := s.dev.store.mcmds.filter (fun e => e.id != id) } ∧
      Dev.OnlyChanged [.nvme, .store] [] [.CX_XTS_UNITS] s.dev t.dev) ∧
      (c.again = false → Answers (.memberReadComplete id .error stored) s (fun t => t.dev.cmd cmd = some y ∧
      t.dev.store.mcmds.dropLast = s.dev.store.mcmds.filter (fun e => e.id != id) ∧
      t.dev.store.mcmds.getLast?.map (fun e => { e with since := 0, pier := 0, epoch := 0 }) = some { c with id := s.dev.store.nextMcmd, again := true, since := 0, pier := 0, epoch := 0 } ∧
      Dev.OnlyChanged [.store] [] [.DRV_MCMD_ISSUED, .DRV_MCMD_ERR, .DRV_MCMD_REISSUED] s.dev t.dev)) ∧
      (c.again = true → Answers (.memberReadComplete id .error stored) s (fun t => t.dev.cmd cmd = some { y with reading := y.reading - 1, bad := y.bad ++ [⟨ng, st, row, x⟩] } ∧
      t.dev.ctr .PAR_MEDIA_ERR c.pier = (s.dev.ctr .PAR_MEDIA_ERR c.pier + 1) % 2 ^ 64 ∧ t.dev.mark (markMedia c.volume c.member) = s.dev.mark (markMedia c.volume c.member) + 1 ∧
      t.dev.store = { s.dev.store with mcmds := s.dev.store.mcmds.filter (fun e => e.id != id) } ∧ Dev.OnlyChanged [.nvme, .store, .marks] [] [.DRV_MCMD_ERR, .PAR_MEDIA_ERR] s.dev t.dev))) ∧
  (∀ (s : State) (id : Nat) (c : MCmd) (p seq st row x : Nat) (ng : Bool) (r : IRec) (y : Row), s.dev.store.mcmds.find? (fun c => c.id == id && c.write && c.use != .flush) = some c → s.dev.pierRuns (slotLanes c.slot) 0 = true → s.dev.own.learned.get 1 c.slot ≤ c.epoch → c.use = .record p seq ng st row x → s.dev.slotVwc c.slot = false → s.dev.record p seq = some r → r.rowAt ng st row = some y →
      Answers (.memberWriteComplete id .ok) s (fun t => (∀ i, (t.dev.pier p).staged.find (locKey c.volume c.member c.unit) = some i → i.seq ≠ seq) ∧
      (∀ r', t.dev.record p seq = some r' → ∀ y', r'.rowAt ng st row = some y' → x < (s.dev.geom r.volume ng).d → x ∉ y'.waits) ∧
      (∀ q, q ≠ p → t.dev.pier q = s.dev.pier q) ∧ t.dev.store.vols = s.dev.store.vols ∧ t.dev.store.drives = s.dev.store.drives ∧
      Dev.OnlyChanged [.store, .ldg] [] [.DRV_MCMD_ISSUED] s.dev t.dev)) ∧
  (∀ (s : State) (id : Nat) (c : MCmd) (v m gen : Nat), s.dev.store.mcmds.find? (fun c => c.id == id && c.write && c.use != .flush) = some c → s.dev.pierRuns (slotLanes c.slot) 0 = true → s.dev.own.learned.get 1 c.slot ≤ c.epoch → c.use = .stamp v m gen → s.dev.slotVwc c.slot = false → (s.dev.mem v m).slot = c.slot ∧ ((s.dev.vol v).members.find m).isSome = true →
      Answers (.memberWriteComplete id .ok) s (fun t => t.dev.mem v m = { s.dev.mem v m with gen := gen } ∧
      (t.dev.drive c.slot).stamp = some ⟨(s.dev.vol v).uuid, v, m, (s.dev.mem v m).st == .rebuilding, gen⟩ ∧ (∀ w, w ≠ v → t.dev.vol w = s.dev.vol w) ∧
      (∀ k, k ≠ c.slot → t.dev.drive k = s.dev.drive k) ∧ t.dev.store.mcmds = s.dev.store.mcmds.filter (fun e => e.id != id) ∧ Dev.OnlyChanged [.store] [] [] s.dev t.dev)) ∧
  (∀ (s : State) (id : Nat) (c : MCmd), s.dev.store.mcmds.find? (fun c => c.id == id && c.write && c.use != .flush) = some c → s.dev.pierRuns (slotLanes c.slot) 0 = true → s.dev.own.learned.get 1 c.slot ≤ c.epoch → c.again = false →
      Answers (.memberWriteComplete id .error) s (fun t =>
      t.dev.store.mcmds.dropLast = s.dev.store.mcmds.filter (fun e => e.id != id) ∧
      t.dev.store.mcmds.getLast?.map (fun e => { e with since := 0, pier := 0, epoch := 0 }) = some { c with id := s.dev.store.nextMcmd, again := true, since := 0, pier := 0, epoch := 0 } ∧
      t.dev.ctr .DRV_MCMD_REISSUED (slotLanes c.slot) = (s.dev.ctr .DRV_MCMD_REISSUED (slotLanes c.slot) + 1) % 2 ^ 64 ∧
      Dev.OnlyChanged [.store] [] [.DRV_MCMD_ISSUED, .DRV_MCMD_ERR, .DRV_MCMD_REISSUED] s.dev t.dev)) ∧
  (∀ (s : State) (id : Nat) (c : MCmd) (v m : Nat), s.dev.store.mcmds.find? (fun c => c.id == id && c.write && c.use != .flush) = some c → s.dev.pierRuns (slotLanes c.slot) 0 = true → s.dev.own.learned.get 1 c.slot ≤ c.epoch → c.again = true → s.dev.memberOf c.slot = some (v, m) →
      Answers (.memberWriteComplete id .error) s (fun t => (t.dev.mem v m).st = .failed ∧ (t.dev.drive c.slot).st = .failed ∧
      (s.hears (pierDie (s.dev.volPier v)) → ∃ n, s.told t (pierDie (s.dev.volPier v)) 0x362 (le 1 v ++ le 1 c.slot ++ le 1 m) n) ∧
      Dev.OnlyChanged (.fresh :: workParts) [] ([.LDG_MAP_SETS, .DRV_MCMD_ERR, .JOB_CKPT_WRITES] ++ workCtrs) s.dev t.dev)) ∧
  (∀ (s : State) (id : Nat) (c : MCmd) (result : MemberEnd), s.dev.store.mcmds.find? (fun c => c.id == id && c.write && c.use != .flush) = some c → s.dev.pierRuns (slotLanes c.slot) 0 = true → c.epoch < s.dev.own.learned.get 1 c.slot ∨ result = .conflict → c.pier < 2 ∧ (s.dev.pierOwn c.pier).fenced = false →
      Answers (.memberWriteComplete id result) s (fun t => t.dev.pierOwn c.pier = { s.dev.pierOwn c.pier with fenced := true } ∧ t.dev.isolated (c.pier * 6) = true ∧
      (∀ q, q ≠ c.pier → t.dev.pierOwn q = s.dev.pierOwn q) ∧ t.dev.store = { s.dev.store with mcmds := s.dev.store.mcmds.filter (fun e => e.id != id) } ∧
      t.dev.ctr .OWN_FENCES = (s.dev.ctr .OWN_FENCES + 1) % 2 ^ 64 ∧
      (s.hears (pierDie c.pier) → s.told t (pierDie c.pier) 0x3FC (le 8 0 ++ le 8 (bitmap (s.dev.volsOf c.pier)))) ∧
      Dev.OnlyChanged [.own, .arch, .net, .sw, .ten, .dma, .store] [] [.OWN_FENCES, .DRV_MEM_REJECT, .DRV_MCMD_ERR] s.dev t.dev))

/-- In stripe k of a volume of width N, 4 to 24, P (strip D of the model's row) is on member p = N - 1 - (k mod N), Q (strip D + 1) on member (p + 1) mod N, data strip j on member (p + 2 + j) mod N; so the N strips of a stripe are on N distinct members, numbered from 0 to N - 1 (08 R315). -/
def Obligations.ParityPlacement : Prop :=
  (∀ (g : Geom) (k p : Nat), 4 ≤ g.n ∧ g.n ≤ 24 → p = g.n - 1 - k % g.n →
      g.member k (g.n - 2) = p ∧ g.member k (g.n - 1) = (p + 1) % g.n ∧ (∀ j, j < g.n - 2 → g.member k j = (p + 2 + j) % g.n) ∧
      (∀ x, x < g.n → g.member k x < g.n) ∧
      (∀ x y, x < g.n → y < g.n → g.member k x = g.member k y → x = y))

/-- For the data blocks of a row of 2 to 22 strips, all of one length, with P and Q computed over GF(2^8) as R319 gives: whichever blocks are lost, at most two of the data, P and Q, recovery as the table Recovery of a row gives answers exactly the data blocks; with more than two lost it answers none (08 R319, R321). -/
def Obligations.RowRecovery : Prop :=
  (∀ (ds : List Block) (n : Nat) (r : RowView), 2 ≤ ds.length ∧ ds.length ≤ 22 ∧ ds.all (fun b => b.length == n) = true → r.length = ds.length + 2 ∧ (List.range r.length).all (fun j => (r.getD j none).isNone || r.getD j none == (wholeRow ds)[j]?) = true →
      (lostCount ds.length r ≤ 2 → recoverData ds.length r = some ds) ∧
      (2 < lostCount ds.length r → recoverData ds.length r = none))

/-- A write that has all it needs gets an OPEN record at the end of its pier's ring, waits (counted once) where the ring has no room, and ends with 06h where no record can be opened. A commit stages the new images of every row and, without FUA, makes the write durable. Member writes begin once the map bits they need are set; the bits are set first. A record whose rows are all APPLIED and whose Flushes are done retires, its images leave staging, and a write with FUA is durable. A Flush that ends covers what was issued before it; a failed one is reissued once. A record is copied to both secondary hosts; a write-hole bit idle for MAP_IDLE with no record is cleared (09 R357-R374, 08 R332, R341). -/
def Obligations.IntentRecords : Prop :=
  (∀ (s : State) (cmd p : Nat) (c : Cmd) (rows : List Row), s.dev.cmd cmd = some c → s.dev.volPier c.vol = p → s.dev.readyToOpen c = true ∧ s.dev.pierUp p = true → 256 ≤ s.dev.ringSegs p ∧ (s.dev.pairOk 0 || s.dev.pairOk 1) = true ∧ s.dev.partlyListed c = false → ((s.dev.cmdRows c).map (fun e => s.dev.buildRow c (s.dev.fullStripes c) e.1 e.2)).all (fun y => y.isSome) = true → ((s.dev.cmdRows c).map (fun e => s.dev.buildRow c (s.dev.fullStripes c) e.1 e.2)).filterMap id = rows → s.dev.stripeOpen p c.vol ((rows.map (fun y => (y.newGeo, y.stripe))).eraseDups) = false → s.dev.betweenBounds c.vol (s.dev.cmdUnits c) = false ∧ s.dev.mirrors = false → s.dev.ringRoom p (recordLength (s.dev.gran c.vol) rows) = true ∧ s.dev.secondaryRoom p c.vol (recordLength (s.dev.gran c.vol) rows) = true →
      Answers (.recordOpen cmd) s (fun t => t.dev.cmd cmd = some { c with record := some ((t.dev.pier p).seq - 1), full := (s.dev.fullStripes c).map Prod.snd } ∧
      (∀ j, j ≠ cmd → t.dev.cmd j = s.dev.cmd j) ∧ (t.dev.pier p).recs.take (s.dev.pier p).recs.length = (s.dev.pier p).recs ∧
      (t.dev.pier p).recs.getLast?.map (fun r => { r with off := 0, first := 0, units := 0 }) = some { seq := (t.dev.pier p).seq - 1, kind := if c.io then 1 else 2, volume := c.vol, nsid := c.nsid, fua := c.fua, length := recordLength (s.dev.gran c.vol) rows, cmd := some cmd, rows := rows, time := s.dev.nowOn (pierDie p), single := !(s.dev.pairOk 0 && s.dev.pairOk 1) } ∧
      t.dev.ctr .LDG_REC_OPENED p = (s.dev.ctr .LDG_REC_OPENED p + 1) % 2 ^ 64 ∧ (t.dev.pier p).staged = (s.dev.pier p).staged ∧
      Dev.OnlyChanged [.nvme, .ldg, .store, .marks] [] [.PAR_FULL_STRIPES, .PAR_RMW_ROWS, .CX_XTS_UNITS, .PAR_RCW_ROWS, .LDG_REC_OPENED] s.dev t.dev)) ∧
  (∀ (s : State) (cmd p : Nat) (c : Cmd) (rows : List Row), s.dev.cmd cmd = some c → s.dev.volPier c.vol = p → s.dev.readyToOpen c = true ∧ s.dev.pierUp p = true → 256 ≤ s.dev.ringSegs p ∧ (s.dev.pairOk 0 || s.dev.pairOk 1) = true ∧ s.dev.partlyListed c = false → ((s.dev.cmdRows c).map (fun e => s.dev.buildRow c (s.dev.fullStripes c) e.1 e.2)).all (fun y => y.isSome) = true → ((s.dev.cmdRows c).map (fun e => s.dev.buildRow c (s.dev.fullStripes c) e.1 e.2)).filterMap id = rows → s.dev.stripeOpen p c.vol ((rows.map (fun y => (y.newGeo, y.stripe))).eraseDups) = false → s.dev.betweenBounds c.vol (s.dev.cmdUnits c) = false → s.dev.ringRoom p (recordLength (s.dev.gran c.vol) rows) = false → c.waitJournal = none →
      Answers (.recordOpen cmd) s (fun t => t.dev.cmd cmd = some { c with waitJournal := some (s.dev.nowOn (pierDie p)) } ∧ t.dev.ctr .LDG_JOURNAL_WAITS p = (s.dev.ctr .LDG_JOURNAL_WAITS p + 1) % 2 ^ 64 ∧
      Dev.OnlyChanged [.nvme] [] [.LDG_JOURNAL_WAITS] s.dev t.dev)) ∧
  (∀ (s : State) (cmd : Nat) (c : Cmd), s.dev.cmd cmd = some c → s.dev.readyToOpen c = true ∧ s.dev.pierUp (s.dev.volPier c.vol) = true → s.dev.ringSegs (s.dev.volPier c.vol) < 256 ∨ (s.dev.pairOk 0 || s.dev.pairOk 1) = false ∨ s.dev.partlyListed c = true →
      Answers (.recordOpen cmd) s (fun t => t.dev.cmd cmd = some { c with status := some 0x006, dnr := true } ∧ (∀ j, j ≠ cmd → t.dev.cmd j = s.dev.cmd j) ∧
      Dev.OnlyChanged [.nvme] [] [] s.dev t.dev)) ∧
  (∀ (s : State) (pier : Fin 2) (p seq : Nat) (r : IRec), pier.val = p → s.dev.record p seq = some r → r.committed = false ∧ r.retired = false ∧ s.dev.pierUp p = true ∧ s.dev.mayCommit r = true →
      Answers (.recordCommit pier seq) s (fun t => t.dev.record p seq = some { r with committed := true, single := !(s.dev.pairOk 0 && s.dev.pairOk 1) } ∧
      (∀ k, (t.dev.pier p).staged.find k = match (r.rows.flatMap (s.dev.rowImages r.volume)).reverse.find? (fun e => e.1 == k) with | some e => some ⟨e.2.1, e.2.2, seq⟩ | none => (s.dev.pier p).staged.find k) ∧
      (r.kind ≠ 3 → ∀ y ∈ r.rows, ∀ e ∈ y.news, s.dev.rowUnit r.volume ⟨y.newGeo, y.stripe, y.row⟩ e.1 ∉ (t.dev.vol r.volume).bad) ∧
      (∀ k, r.cmd = some k → r.fua = false → (s.dev.cmd k).map (fun c => c.durableAt) = some none → (t.dev.cmd k).map (fun c => (c.durableAt, c.status)) =
      (s.dev.cmd k).map (fun c => (some (s.dev.nowOn (pierDie (s.dev.volPier c.vol))), if c.status.isSome then c.status else some 0))) ∧
      (r.fua = true → ∀ k, (t.dev.cmd k).map (fun c => (c.durableAt, c.status)) = (s.dev.cmd k).map (fun c => (c.durableAt, c.status))) ∧
      t.dev.ctr .LDG_REC_COMMITTED p = (s.dev.ctr .LDG_REC_COMMITTED p + 1) % 2 ^ 64 ∧ (∀ q, q ≠ p → t.dev.pier q = s.dev.pier q) ∧
      Dev.OnlyChanged [.nvme, .ldg, .store] [] [.LDG_REC_COMMITTED, .PAR_BB_REMOVED, .DRV_MCMD_ISSUED] s.dev t.dev)) ∧
  (∀ (s : State) (pier : Fin 2) (p seq : Nat) (r : IRec), pier.val = p → s.dev.record p seq = some r → r.committed = true ∧ r.applying = false ∧ r.retired = false ∧ r.kind ≠ 0 ∧ s.dev.pierUp p = true → s.dev.earlierApplied p r = true ∧ s.dev.reservedBusy r.volume = false → s.dev.bitsToSet r ≠ ([], []) →
      Answers (.recordApplyStart pier seq) s (fun t => t.dev.record p seq = some r ∧ (∀ g, g ∈ (t.dev.vol r.volume).hole ↔ g ∈ (s.dev.vol r.volume).hole ∨ g ∈ r.regions) ∧
      (∀ g, g ∈ (t.dev.vol r.volume).absent ↔ g ∈ (s.dev.vol r.volume).absent ∨ g ∈ (s.dev.bitsToSet r).2) ∧
      (∀ v, v ≠ r.volume → t.dev.vol v = s.dev.vol v) ∧ (t.dev.pier p).staged = (s.dev.pier p).staged ∧ Dev.OnlyChanged [.ldg, .store] [] [.LDG_MAP_SETS, .DRV_MCMD_ISSUED] s.dev t.dev)) ∧
  (∀ (s : State) (pier : Fin 2) (p seq : Nat) (r : IRec), pier.val = p → s.dev.record p seq = some r → r.committed = true ∧ r.applying = false ∧ r.retired = false ∧ r.kind ≠ 0 ∧ s.dev.pierUp p = true → s.dev.earlierApplied p r = true ∧ s.dev.reservedBusy r.volume = false → s.dev.bitsToSet r = ([], []) →
      Answers (.recordApplyStart pier seq) s (fun t => (t.dev.record p seq).map (fun x => { x with rows := [] }) = some { r with applying := true, rows := [] } ∧
      (∀ y ∈ r.rows, ∀ e ∈ y.news, s.dev.memberServes r.volume (s.dev.blockLoc r.volume ⟨y.newGeo, y.stripe, y.row⟩ e.1).1 y.newGeo y.stripe = true →
      t.dev.store.mcmds.any (fun m => m.write && m.unit == (s.dev.blockLoc r.volume ⟨y.newGeo, y.stripe, y.row⟩ e.1).2 && m.stored == e.2.2 && m.use == .record p seq y.newGeo y.stripe y.row e.1) = true) ∧
      (∀ y ∈ r.rows, s.dev.memberServes r.volume (s.dev.blockLoc r.volume ⟨y.newGeo, y.stripe, y.row⟩ (s.dev.geom r.volume y.newGeo).d).1 y.newGeo y.stripe = true →
      t.dev.store.mcmds.any (fun m => m.stored == s.dev.rowParity r.volume y (s.dev.geom r.volume y.newGeo).d y.p && m.use == .record p seq y.newGeo y.stripe y.row (s.dev.geom r.volume y.newGeo).d) = true) ∧
      t.dev.store.vols = s.dev.store.vols ∧ t.dev.store.drives = s.dev.store.drives ∧ Dev.OnlyChanged [.ldg, .store] [] [.DRV_MCMD_ISSUED] s.dev t.dev)) ∧
  (∀ (s : State) (pier : Fin 2) (p seq : Nat) (r : IRec), pier.val = p → s.dev.record p seq = some r → r.committed = true ∧ r.retired = false ∧ s.dev.pierUp p = true → r.rows.all (fun y => y.state == rowApplied) = true ∧ r.flush.all s.dev.flushMet = true →
      Answers (.recordRetire pier seq) s (fun t => (∀ x ∈ (t.dev.pier p).recs, x.seq = seq → x.retired = true) ∧ (∀ e ∈ (t.dev.pier p).staged, e.2.seq ≠ seq) ∧
      (∀ k, r.cmd = some k → r.fua = true → (s.dev.cmd k).map (fun c => c.durableAt) = some none → (t.dev.cmd k).map (fun c => c.durableAt) =
      (s.dev.cmd k).map (fun c => some (s.dev.nowOn (pierDie (s.dev.volPier c.vol))))) ∧
      t.dev.ctr .LDG_REC_RETIRED p = (s.dev.ctr .LDG_REC_RETIRED p + 1) % 2 ^ 64 ∧ (∀ q, q ≠ p → t.dev.pier q = s.dev.pier q) ∧ Dev.OnlyChanged [.nvme, .ldg] [] [.LDG_REC_RETIRED] s.dev t.dev)) ∧
  (∀ (s : State) (id : Nat) (c : MCmd) (v m : Nat), s.dev.store.mcmds.find? (fun c => c.id == id && c.use == .flush) = some c → s.dev.pierRuns (slotLanes c.slot) 0 = true →
      Answers (.memberFlushComplete id true) s (fun t => (t.dev.drive c.slot).flushDone = (s.dev.drive c.slot).flushIssued ∧ (∀ k, k ≠ c.slot → t.dev.drive k = s.dev.drive k) ∧
      t.dev.store.flushing = s.dev.store.flushing.filter (fun e => !(e.1 == c.slot && decide (e.2.1 ≤ (s.dev.drive c.slot).flushIssued))) ∧ Dev.OnlyChanged [.ldg, .store] [] [.DRV_MCMD_ISSUED, .DRV_FLUSHES] s.dev t.dev) ∧
      (c.again = false → Answers (.memberFlushComplete id false) s (fun t => t.dev.store.mcmds.dropLast = s.dev.store.mcmds.filter (fun e => e.id != id) ∧
      t.dev.store.mcmds.getLast?.map (fun e => { e with since := 0, pier := 0, epoch := 0 }) = some { c with id := s.dev.store.nextMcmd, again := true, since := 0, pier := 0, epoch := 0 } ∧
      Dev.OnlyChanged [.store] [] [.DRV_MCMD_ISSUED, .DRV_FLUSHES, .DRV_MCMD_ERR, .DRV_MCMD_REISSUED] s.dev t.dev)) ∧
      (c.again = true → s.dev.memberOf c.slot = some (v, m) → Answers (.memberFlushComplete id false) s (fun t => (t.dev.mem v m).st = .failed ∧ (t.dev.drive c.slot).st = .failed ∧
      (s.hears (pierDie (s.dev.volPier v)) → ∃ n, s.told t (pierDie (s.dev.volPier v)) 0x362 (le 1 v ++ le 1 c.slot ++ le 1 m) n) ∧
      Dev.OnlyChanged (.fresh :: workParts) [] ([.LDG_MAP_SETS, .DRV_MCMD_ERR, .JOB_CKPT_WRITES] ++ workCtrs) s.dev t.dev))) ∧
  (∀ (s : State) (volume : Fin 64) (v region : Nat), volume.val = v → region ∈ (s.dev.vol v).hole → s.dev.pierUp (s.dev.volPier v) = true → (s.dev.pier (s.dev.volPier v)).recs.any (fun r => r.volume == v && !r.retired && r.kind != 0 && r.regions.contains region) = false → (s.dev.vol v).touched.get 0 region + s.dev.fld .LDG_CFG_MAP_IDLE * sec < s.dev.nowOn (pierDie (s.dev.volPier v)) →
      Answers (.writeHoleClear volume region) s (fun t => (t.dev.vol v).hole = (s.dev.vol v).hole.filter (fun g => g != region) ∧ { t.dev.vol v with hole := [], touched := [] } = { s.dev.vol v with hole := [], touched := [] } ∧
      (∀ w, w ≠ v → t.dev.vol w = s.dev.vol w) ∧ t.dev.ctr .LDG_MAP_CLEARS (s.dev.volPier v) = (s.dev.ctr .LDG_MAP_CLEARS (s.dev.volPier v) + 1) % 2 ^ 64 ∧
      t.dev.store.mcmds.length = s.dev.store.mcmds.length + (s.dev.mapHosts v).length ∧ Dev.OnlyChanged [.store] [] [.LDG_MAP_CLEARS, .DRV_MCMD_ISSUED] s.dev t.dev)) ∧
  (∀ (s : State) (pier : Fin 2) (p seq : Nat) (r : IRec), pier.val = p → s.dev.record p seq = some r → r.retired = false ∧ r.copySent = false ∧ r.kind ≠ 0 ∧ s.dev.pierUp p = true ∧ (r.committed || r.single) = true →
      Answers (.secondaryCopy pier seq) s (fun t => t.dev.record p seq = some { r with copySent := true, copies := 0, copied := false } ∧
      (∀ k ∈ s.dev.secondaryHosts r.volume, t.dev.store.mcmds.any (fun m => m.write && m.slot == k && m.use == .secondary p seq) = true) ∧
      t.dev.store.mcmds.length = s.dev.store.mcmds.length + (s.dev.secondaryHosts r.volume).length ∧ t.dev.ctr .LDG_SEC_RECORDS p = (s.dev.ctr .LDG_SEC_RECORDS p + 1) % 2 ^ 64 ∧
      (t.dev.pier p).staged = (s.dev.pier p).staged ∧ Dev.OnlyChanged [.ldg, .store] [] [.DRV_MCMD_ISSUED, .LDG_SEC_RECORDS] s.dev t.dev))

/-- A failed die leaves the working ones and its meter and event records go, with event 354h. Recovery applies and retires every record of both rings and clears staging; the device state comes first, and with it device time. Wear counters are saved at whole seconds. A window slot worn out moves to a free place of its pair; a segment worn out moves to the reserve (356h), or with the reserve empty a journal segment is withdrawn, its own or, for another partition, the one whose place it takes. Each due segment of the repointing pass counts its corrected, repaired and lost lines, and the last ends the pass with 35Ch; HOT clears after a day (09 R355, R379-R395). -/
def Obligations.LedgerDiesAndWear : Prop :=
  (∀ (s : State) (die : Fin 4), die.val ∈ s.dev.ldg.dieOk →
      Answers (.mramDieFail die) s (fun t => t.dev.ldg.dieOk = s.dev.ldg.dieOk.filter (fun k => k != die.val) ∧ t.dev.ldg.dieFailed = s.dev.ldg.dieFailed ++ [die.val] ∧
      t.dev.evr.ledger.slots = s.dev.evr.ledger.slots.filter (fun e => s.dev.segPlace (recorderAddr e.1 / 65536) / 4096 != die.val) ∧
      (s.hears (pierDie s.dev.ledgerPier) → s.told t (pierDie s.dev.ledgerPier) 0x354 (le 1 die.val)) ∧ Dev.OnlyChanged [.ldg, .evr] [] [] s.dev t.dev)) ∧
  (∀ (s : State) (found : Recovery), s.dev.mode.diesUp = true ∧ s.dev.mode.booted = true ∧ s.dev.cust.alarms = 0 ∧ s.dev.ldg.stateLoaded = true → s.dev.cust.ready = true ∧ s.dev.recoveringAny = true → (List.range 24).any s.dev.slotAwaited = false →
      Answers (.ledgerRecovery found) s (fun t => t.dev.ldg.recovered = [(0, true), (1, true)] ∧
      (∀ p, p < 2 → (t.dev.pier p).staged = [] ∧ (t.dev.pier p).accs = [] ∧ ∀ r ∈ (t.dev.pier p).recs, r.kind ≠ 0 → r.retired = true) ∧
      t.dev.own = s.dev.own ∧ t.dev.cust = s.dev.cust ∧ t.dev.shelf = s.dev.shelf ∧ t.dev.time = s.dev.time)) ∧
  (∀ (s : State) (found : Recovery), s.dev.mode.diesUp = true ∧ s.dev.mode.booted = true ∧ s.dev.cust.alarms = 0 ∧ s.dev.ldg.stateLoaded = false → s.dev.recoveringAny = true → (List.range 24).any s.dev.slotAwaited = true →
      Answers (.ledgerRecovery found) s (fun t => t.dev.ldg.stateLoaded = true ∧ t.dev.ldg.clean = s.dev.ldg.orderly ∧ t.dev.timeLoaded = true ∧ (s.dev.timeLoaded = true → t.dev.time = s.dev.time) ∧ t.dev.evr.scanned = true ∧
      (∀ k, (s.dev.own.slots.get ⟨0, 1⟩ k).epoch ≠ 1 → t.dev.own.learned.get 1 k = (s.dev.own.slots.get ⟨0, 1⟩ k).epoch) ∧ t.dev.store = s.dev.store ∧ t.dev.shelf = s.dev.shelf)) ∧
  (∀ (s : State), s.dev.ledgerRuns = true → s.dev.now % 1000000000 = 0 →
      Answers .wearCounterSave s (fun t => t.dev.ldg = { s.dev.ldg with orderly := t.dev.ldg.orderly, wear := { s.dev.ldg.wear with savedBytes := s.dev.ldg.wear.bytes } } ∧
      Dev.OnlyChanged [.ldg] [] [] s.dev t.dev)) ∧
  (∀ (s : State) (slot : Fin 4096) (die : Fin 4) (phys : Fin 4096) (g place : Nat), windowAddr slot.val 0 / 65536 = g → die.val * 4096 + phys.val = place → s.dev.ledgerRuns = true → 16777216 ≤ s.dev.ldg.wear.windowWrites.get 0 slot.val → die.val / 2 = g / 8192 → s.dev.physFree place = true →
      Answers (.windowRemap slot die phys) s (fun t => t.dev.segPlace g = place ∧ (∀ h, h ≠ g → t.dev.segPlace h = s.dev.segPlace h) ∧ t.dev.ldg.wear.windowWrites.get 0 slot.val = 0 ∧
      { t.dev.ldg.wear with remaps := [], windowWrites := [] } = { s.dev.ldg.wear with remaps := [], windowWrites := [] } ∧ Dev.OnlyChanged [.ldg] [] [] s.dev t.dev)) ∧
  (∀ (s : State) (segment : Fin 16384) (die : Fin 4) (phys : Fin 4096) (g place : Nat), segment.val = g → die.val * 4096 + phys.val = place → s.dev.ledgerRuns = true → 500000000000 ≤ s.dev.ldg.wear.bytes.get 0 g / 65536 → g ∉ s.dev.ldg.wear.withdrawn → die.val / 2 = g / 8192 → s.dev.physFree place = true →
      Answers (.segmentRemap segment die phys) s (fun t => t.dev.segPlace g = place ∧ (∀ h, h ≠ g → t.dev.segPlace h = s.dev.segPlace h) ∧ t.dev.ldg.wear.bytes.get 0 g = 0 ∧
      t.dev.ldg.wear.retired = s.dev.ldg.wear.retired ++ [s.dev.segPlace g] ∧ t.dev.ldg.wear.withdrawn = s.dev.ldg.wear.withdrawn ∧
      (s.hears (pierDie s.dev.ledgerPier) → s.told t (pierDie s.dev.ledgerPier) 0x356 (le 2 g ++ le 8 (s.dev.ldg.wear.bytes.get 0 g / 65536))) ∧
      Dev.OnlyChanged [.ldg] [] [.LDG_SEG_REMAPPED] s.dev t.dev)) ∧
  (∀ (s : State) (segment : Fin 16384) (die : Fin 4) (phys : Fin 4096) (g : Nat), segment.val = g → s.dev.ledgerRuns = true → 500000000000 ≤ s.dev.ldg.wear.bytes.get 0 g / 65536 → g ∉ s.dev.ldg.wear.withdrawn → s.dev.reserveLeft (g / 8192) = 0 → g % 8192 < 4096 →
      Answers (.segmentRemap segment die phys) s (fun t => t.dev.ldg.wear.withdrawn = s.dev.ldg.wear.withdrawn ++ [g] ∧ t.dev.ldg.wear.retired = s.dev.ldg.wear.retired ++ [s.dev.segPlace g] ∧
      t.dev.ldg.wear.remaps = s.dev.ldg.wear.remaps ∧ t.dev.ldg.wear.bytes.get 0 g = 0 ∧
      (1024 ≤ s.dev.ringSegs (g % 8192 / 2048) → t.dev.ringSegs (g % 8192 / 2048) < 1024 → s.hears (pierDie (g % 8192 / 2048)) → s.told t (pierDie (g % 8192 / 2048)) 0x358) ∧
      (256 ≤ s.dev.ringSegs (g % 8192 / 2048) → t.dev.ringSegs (g % 8192 / 2048) < 256 → s.hears (pierDie (g % 8192 / 2048)) → s.told t (pierDie (g % 8192 / 2048)) 0x359) ∧
      Dev.OnlyChanged [.ldg] [] [] s.dev t.dev)) ∧
  (∀ (s : State) (segment : Fin 16384) (die : Fin 4) (phys : Fin 4096) (g j : Nat), segment.val = g → s.dev.ledgerRuns = true → 500000000000 ≤ s.dev.ldg.wear.bytes.get 0 g / 65536 → g ∉ s.dev.ldg.wear.withdrawn → s.dev.reserveLeft (g / 8192) = 0 → 4096 ≤ g % 8192 →
      (s.dev.spareJournal (g / 8192) = some j → Answers (.segmentRemap segment die phys) s (fun t => t.dev.segPlace g = s.dev.segPlace j ∧ t.dev.ldg.wear.withdrawn = s.dev.ldg.wear.withdrawn ++ [j] ∧
      t.dev.ldg.wear.retired = s.dev.ldg.wear.retired ++ [s.dev.segPlace g] ∧ t.dev.ctr .LDG_SEG_REMAPPED s.dev.ledgerPier = (s.dev.ctr .LDG_SEG_REMAPPED s.dev.ledgerPier + 1) % 2 ^ 64 ∧
      Dev.OnlyChanged [.ldg] [] [.LDG_SEG_REMAPPED] s.dev t.dev)) ∧
      (s.dev.spareJournal (g / 8192) = none → Answers (.segmentRemap segment die phys) s (fun t => Dev.OnlyChanged [] [] [] s.dev t.dev))) ∧
  (∀ (s : State) (corrected repaired p : Nat) (lost : List (BitVec 30)), s.dev.ledgerPier = p → s.dev.ledgerRuns = true → s.dev.ldg.wear.passNext ≤ s.dev.nowOn (pierDie p) →
      Answers (.repointSegment corrected repaired lost) s (fun t => t.dev.ldg.wear.passSegment = (if s.dev.ldg.wear.passSegment + 1 < 16384 then s.dev.ldg.wear.passSegment + 1 else 0) ∧
      t.dev.ctr .LDG_RP_SEGMENTS p = (s.dev.ctr .LDG_RP_SEGMENTS p + 1) % 2 ^ 64 ∧ t.dev.ctr .LDG_ECC_CORR p = (s.dev.ctr .LDG_ECC_CORR p + corrected) % 2 ^ 64 ∧
      t.dev.ctr .LDG_ECC_UNCORR p = (s.dev.ctr .LDG_ECC_UNCORR p + (repaired + lost.length)) % 2 ^ 64 ∧ (∀ l ∈ lost.map (fun b => b.toNat), l / 64 ∈ t.dev.ldg.lostLines) ∧
      (∀ l ∈ (lost.map (fun b => b.toNat)).take 16, s.hears (pierDie p) → s.told t (pierDie p) 0x35A (le 1 (partitionOf l) ++ le 8 l)) ∧
      (16384 ≤ s.dev.ldg.wear.passSegment + 1 → lost = [] → s.hears (pierDie p) → s.told t (pierDie p) 0x35C (le 1 s.dev.repointDays ++ le 8 (s.dev.nowOn (pierDie p) - s.dev.ldg.wear.passStart))) ∧
      Dev.OnlyChanged [.ldg, .evr, .cust, .marks] [] [.LDG_RP_SEGMENTS, .LDG_ECC_CORR, .LDG_ECC_UNCORR] s.dev t.dev)) ∧
  (∀ (s : State), s.dev.ldg.wear.hot = true → s.dev.ldg.wear.hotAt + 86400 * sec < s.dev.now →
      Answers .hotClear s (fun t => t.dev.ldg.wear = { s.dev.ldg.wear with hot := false, passEnd := s.dev.ldg.wear.passStart + 30 * 86400 * sec } ∧
      (s.hears (pierDie s.dev.ledgerPier) → s.told t (pierDie s.dev.ledgerPier) 0x35D (le 1 30)) ∧ Dev.OnlyChanged [.ldg] [] [] s.dev t.dev))

/-- A ready drive in a slot that shows no drive, or a missing member, is identified by the stamp copy that counts: a spare, a foreign drive, or a member, which returns online where it missed nothing and was no target, else as a target of a pass; VOL_MEMBER and GEN follow it to a new slot. An index that waits gets the lowest spare that suits, and a full rebuild with event 363h, or with none event 370h. FAIL makes a member failed, REPLACE gives a missing one a spare, FOREIGN_CLEAR makes a foreign drive a spare; a command not allowed, or while BUSY, is refused with 36Ah and changes nothing else (10 R398-R412, R441). -/
def Obligations.DrivesIdentifiedAndMembers : Prop :=
  (∀ (s : State) (slot : Fin 24) (copy0 copy1 : Option StampCopy) (k : Nat), slot.val = k → (s.dev.shelf.slots.get {} k).st = .on ∧ (s.dev.slotPorts k).any (fun n => (s.dev.port n).ready) = true ∧ s.dev.ldg.stateLoaded = true → (s.dev.drive k).st = .noDrive ∨ (s.dev.drive k).st = .missing → s.dev.identity (pickStamp copy0 copy1) = .spare ∨ s.dev.identity (pickStamp copy0 copy1) = .foreign →
      Answers (.driveIdentify slot copy0 copy1) s (fun t => (t.dev.drive k).st = (if s.dev.identity (pickStamp copy0 copy1) = .spare then .spare else .foreign) ∧ (t.dev.drive k).volume = 0 ∧
      (t.dev.drive k).stamp = (pickStamp copy0 copy1).map (fun c => ⟨c.uuid, c.volume, c.index, c.target, c.gen⟩) ∧ (∀ j, j ≠ k → t.dev.drive j = s.dev.drive j) ∧
      t.dev.store.vols = s.dev.store.vols ∧ t.dev.store.mcmds = s.dev.store.mcmds ∧
      (s.hears (pierDie (slotLanes k)) → s.told t (pierDie (slotLanes k)) 0x360 (le 1 k) (if s.dev.identity (pickStamp copy0 copy1) = .spare then 1 else 6)) ∧
      Dev.OnlyChanged [.store] [] [] s.dev t.dev)) ∧
  (∀ (s : State) (slot : Fin 24) (copy0 copy1 : Option StampCopy) (c : StampCopy) (k v m : Nat) (back : Bool), slot.val = k → (s.dev.shelf.slots.get {} k).st = .on ∧ (s.dev.slotPorts k).any (fun n => (s.dev.port n).ready) = true ∧ s.dev.ldg.stateLoaded = true → (s.dev.drive k).st = .noDrive ∨ (s.dev.drive k).st = .missing → pickStamp copy0 copy1 = some c → s.dev.identity (some c) = .member v m back →
      Answers (.driveIdentify slot copy0 copy1) s (fun t => (t.dev.mem v m).slot = k ∧
      (t.dev.mem v m).st = (if back then (if c.target = false ∧ (s.dev.vol v).absent = [] then .online else .rebuilding) else (s.dev.mem v m).st) ∧
      (t.dev.drive k).st = (t.dev.mem v m).st ∧ (t.dev.drive k).volume = v ∧ (t.dev.drive k).index = m ∧ (∀ w, w ≠ v → { t.dev.vol w with pass := none, reshape := none, scrub := {} } = { s.dev.vol w with pass := none, reshape := none, scrub := {} }) ∧
      ((s.dev.mem v m).slot ≠ k → t.dev.fld .VOL_MEMBER_SLOT (memberInst v m) = k ∧ (t.dev.vol v).gen = (s.dev.vol v).gen + 1) ∧
      (back = true → (t.dev.mem v m).st = .rebuilding → ((t.dev.vol v).pass.map (fun p => p.targets.any (fun x => x.index == m && x.resync == (if c.target then none else some (s.dev.vol v).absent)))) = some true) ∧
      (s.hears (pierDie (slotLanes k)) → s.told t (pierDie (slotLanes k)) 0x360 (le 1 k) (t.dev.mem v m).st.code) ∧
      Dev.OnlyChanged [.store] [.VOL_MEMBER_SLOT] [.DRV_MCMD_ISSUED, .JOB_CKPT_WRITES] s.dev t.dev)) ∧
  (∀ (s : State) (volume : Fin 64) (index : Fin 24) (v m k : Nat), volume.val = v ∧ index.val = m → s.dev.pierUp (s.dev.volPier v) = true ∧ s.dev.spareTurn v m = true → s.dev.spareFor v = some k →
      Answers (.spareAssign volume index) s (fun t => (t.dev.mem v m).st = .rebuilding ∧ (t.dev.mem v m).slot = k ∧ (t.dev.drive k).st = .rebuilding ∧ (t.dev.drive k).volume = v ∧ (t.dev.drive k).index = m ∧
      t.dev.fld .VOL_MEMBER_SLOT (memberInst v m) = k ∧ (t.dev.vol v).gen = (s.dev.vol v).gen + 1 ∧ ((t.dev.vol v).pass.map (fun p => p.targets.any (fun x => x.index == m && x.resync.isNone))) = some true ∧
      (s.hears (pierDie (s.dev.volPier v)) → s.told t (pierDie (s.dev.volPier v)) 0x363 (le 1 v ++ le 1 k ++ le 1 m)) ∧ Dev.OnlyChanged [.store] [.VOL_MEMBER_SLOT] [.DRV_MCMD_ISSUED, .JOB_CKPT_WRITES] s.dev t.dev) ∧
      ((s.dev.mem v m).st = .missing → Answers (.missingTimeout volume index) s (fun t => (t.dev.mem v m).st = .rebuilding ∧ (t.dev.mem v m).slot = k ∧ (t.dev.drive k).st = .rebuilding ∧
      t.dev.fld .VOL_MEMBER_SLOT (memberInst v m) = k ∧ (t.dev.vol v).gen = (s.dev.vol v).gen + 1 ∧
      (s.hears (pierDie (s.dev.volPier v)) → s.told t (pierDie (s.dev.volPier v)) 0x363 (le 1 v ++ le 1 k ++ le 1 m)) ∧ Dev.OnlyChanged [.store] [.VOL_MEMBER_SLOT] [.DRV_MCMD_ISSUED, .JOB_CKPT_WRITES] s.dev t.dev))) ∧
  (∀ (s : State) (volume : Fin 64) (index : Fin 24) (v m : Nat), volume.val = v ∧ index.val = m → s.dev.pierUp (s.dev.volPier v) = true ∧ s.dev.spareTurn v m = true → s.dev.spareFor v = none → (s.dev.mem v m).noSpare = false →
      Answers (.spareAssign volume index) s (fun t => t.dev.mem v m = { s.dev.mem v m with noSpare := true } ∧ (∀ w, w ≠ v → t.dev.vol w = s.dev.vol w) ∧ t.dev.store.drives = s.dev.store.drives ∧
      (s.hears (pierDie (s.dev.volPier v)) → s.told t (pierDie (s.dev.volPier v)) 0x370 (le 1 v ++ le 1 (s.dev.mem v m).slot ++ le 1 m)) ∧ Dev.OnlyChanged [.store] [] [] s.dev t.dev)) ∧
  (∀ (s : State) (req : Requester) (slot : Fin 24) (k v m : Nat), slot.val = k → s.dev.commandMade (.reg req) (s.dev.pairAddr .MEMBER_CMD) = true → s.dev.memberCmdBusy = false → s.dev.memberOf k = some (v, m) → (s.dev.drive k).st ≠ .failed → s.dev.failsVolume k = false ∨ s.dev.flag .RB_CFG_AUTO = false →
      Answers (.memberFailCmd req slot) s (fun t => (t.dev.mem v m).st = .failed ∧ (t.dev.drive k).st = .failed ∧ t.dev.fld .MEMBER_CMD_SLOT = k ∧
      (s.hears (pierDie (s.dev.volPier v)) → ∃ n, s.told t (pierDie (s.dev.volPier v)) 0x362 (le 1 v ++ le 1 k ++ le 1 m) n) ∧
      Dev.OnlyChanged (.fresh :: .fw :: workParts) [.MEMBER_CMD_SLOT] ([.LDG_MAP_SETS, .JOB_CKPT_WRITES] ++ workCtrs) s.dev t.dev)) ∧
  (∀ (s : State) (req : Requester) (slot : Fin 24) (k v m j : Nat), slot.val = k → s.dev.commandMade (.reg req) (s.dev.pairAddr .MEMBER_CMD) = true → s.dev.memberCmdBusy = false → s.dev.memberOf k = some (v, m) → (s.dev.drive k).st = .missing → s.dev.takesSpares v = true → s.dev.spareFor v = some j →
      Answers (.memberReplace req slot) s (fun t => (t.dev.mem v m).st = .rebuilding ∧ (t.dev.mem v m).slot = j ∧ (t.dev.drive j).st = .rebuilding ∧ t.dev.fld .VOL_MEMBER_SLOT (memberInst v m) = j ∧
      t.dev.fld .MEMBER_CMD_SLOT = k ∧ (t.dev.vol v).gen = (s.dev.vol v).gen + 1 ∧
      (s.hears (pierDie (s.dev.volPier v)) → s.told t (pierDie (s.dev.volPier v)) 0x363 (le 1 v ++ le 1 j ++ le 1 m)) ∧
      Dev.OnlyChanged [.store, .fw] [.VOL_MEMBER_SLOT, .MEMBER_CMD_SLOT] [.DRV_MCMD_ISSUED, .JOB_CKPT_WRITES] s.dev t.dev)) ∧
  (∀ (s : State) (req : Requester) (slot : Fin 24) (k : Nat), slot.val = k → s.dev.commandMade (.reg req) (s.dev.pairAddr .MEMBER_CMD) = true → s.dev.memberCmdBusy = false → (s.dev.drive k).st = .foreign →
      Answers (.foreignClear req slot) s (fun t => t.dev.drive k = { s.dev.drive k with st := .spare, stamp := none, volume := 0, index := 0 } ∧ (∀ j, j ≠ k → t.dev.drive j = s.dev.drive j) ∧
      t.dev.memberCmdBusy = true ∧ t.dev.fld .MEMBER_CMD_SLOT = k ∧ t.dev.store.vols = s.dev.store.vols ∧ t.dev.store.mcmds.length = s.dev.store.mcmds.length + 2 ∧
      (s.hears (pierDie (slotLanes k)) → s.told t (pierDie (slotLanes k)) 0x36B (le 1 k)) ∧ Dev.OnlyChanged [.store, .fw] [.MEMBER_CMD_SLOT] [.DRV_MCMD_ISSUED] s.dev t.dev)) ∧
  (∀ (s : State) (req : Requester) (slot : Fin 24) (k : Nat), slot.val = k → s.dev.commandMade (.reg req) (s.dev.pairAddr .MEMBER_CMD) = true → s.dev.memberCmdBusy = true ∨ (s.dev.memberOf k = none ∧ (s.dev.drive k).st ≠ .foreign) →
      Answers (.memberFailCmd req slot) s (fun t => t.dev.store = s.dev.store ∧ t.dev.fld .MEMBER_CMD_SLOT = k ∧
      (s.hears (pierDie (slotLanes k)) → ∃ n, s.told t (pierDie (slotLanes k)) 0x36A (le 8 (Reg.addr .MEMBER_CMD)) n) ∧ Dev.OnlyChanged [.fresh, .fw] [.MEMBER_CMD_SLOT] [] s.dev t.dev) ∧
      Answers (.memberReplace req slot) s (fun t => t.dev.store = s.dev.store ∧
      (s.hears (pierDie (slotLanes k)) → ∃ n, s.told t (pierDie (slotLanes k)) 0x36A (le 8 (Reg.addr .MEMBER_CMD)) n) ∧ Dev.OnlyChanged [.fresh, .fw] [.MEMBER_CMD_SLOT] [] s.dev t.dev) ∧
      Answers (.foreignClear req slot) s (fun t => t.dev.store = s.dev.store ∧
      (s.hears (pierDie (slotLanes k)) → ∃ n, s.told t (pierDie (slotLanes k)) 0x36A (le 8 (Reg.addr .MEMBER_CMD)) n) ∧ Dev.OnlyChanged [.fresh, .fw] [.MEMBER_CMD_SLOT] [] s.dev t.dev))

/-- A pass that runs is given its budget every 100 us; with budget, and no update of the stripe open, it writes to each target its block of every row of the stripe at the cursor, and awaits them. When every target has acknowledged the stripe the cursor passes it, with a checkpoint every 65,536 units. A target that has been round its set, and where it caches writes has had a Flush, is online with event 365h, GEN advances and the volume takes the state its members give; a pass without targets ends (10 R402, R413-R423). -/
def Obligations.Passes : Prop :=
  (∀ (s : State) (volume : Fin 64) (blocks : List Fetched) (v budget : Nat) (p : Pass), volume.val = v → (s.dev.vol v).pass = some p → s.dev.jobsRun v = true ∧ (s.dev.vol v).st ≠ .failed ∧ p.waiting = false ∧ s.dev.nowOn (pierDie (s.dev.volPier v)) % 100000 = 0 → min p.budget ((s.dev.geom v (s.dev.stripeAt v p.cursor).1).u * 4096 * p.targets.length) + s.dev.passQuantum v = budget → p.awaiting = none → s.dev.passNeeds v p ≠ [] ∧ p.cursor < s.dev.volUnits v ∧ s.dev.stripeOpen (s.dev.volPier v) v [s.dev.stripeAt v p.cursor] = false → (s.dev.passNeeds v p).length * (s.dev.geom v (s.dev.stripeAt v p.cursor).1).u * 4096 ≤ budget →
      Answers (.passPaceTick volume blocks) s (fun t => (t.dev.vol v).pass = some { p with budget := budget - (s.dev.passNeeds v p).length * (s.dev.geom v (s.dev.stripeAt v p.cursor).1).u * 4096, awaiting := some (s.dev.stripeAt v p.cursor) } ∧
      t.dev.ctr .JOB_PASS_STRIPES (s.dev.volPier v) = (s.dev.ctr .JOB_PASS_STRIPES (s.dev.volPier v) + 1) % 2 ^ 64 ∧
      (∀ m ∈ s.dev.passNeeds v p, ∀ o, o < (s.dev.geom v (s.dev.stripeAt v p.cursor).1).u → t.dev.store.mcmds.any (fun c => c.write && c.member == m && c.slot == (s.dev.mem v m).slot &&
      c.unit == (s.dev.geom v (s.dev.stripeAt v p.cursor).1).memberUnit (s.dev.stripeAt v p.cursor).2 o && c.use == .target v m) = true) ∧ t.dev.store.drives = s.dev.store.drives ∧
      Dev.OnlyChanged [.store, .ldg, .nvme, .marks] [] [.JOB_PASS_STRIPES, .CX_XTS_UNITS, .JOB_PASS_BLOCKS, .PAR_MEDIA_ERR, .PAR_REPAIR_WRITES, .PAR_BB_ADDED, .DRV_MCMD_ISSUED, .LDG_REC_OPENED, .LDG_REC_COMMITTED] s.dev t.dev)) ∧
  (∀ (s : State) (volume : Fin 64) (blocks : List Fetched) (v budget : Nat) (p : Pass), volume.val = v → (s.dev.vol v).pass = some p → s.dev.jobsRun v = true ∧ (s.dev.vol v).st ≠ .failed ∧ p.waiting = false ∧ s.dev.nowOn (pierDie (s.dev.volPier v)) % 100000 = 0 → min p.budget ((s.dev.geom v (s.dev.stripeAt v p.cursor).1).u * 4096 * p.targets.length) + s.dev.passQuantum v = budget → p.awaiting.isSome = true →
      Answers (.passPaceTick volume blocks) s (fun t => (t.dev.vol v).pass.map (fun q => (q.budget, q.awaiting, q.saved)) = some (budget, p.awaiting, p.saved) ∧ t.dev.store.mcmds = s.dev.store.mcmds ∧
      { t.dev.vol v with pass := none } = { s.dev.vol v with pass := none } ∧ (∀ w, w ≠ v → t.dev.vol w = s.dev.vol w) ∧ Dev.OnlyChanged [.store] [] [] s.dev t.dev)) ∧
  (∀ (s : State) (volume : Fin 64) (blocks : List Fetched) (v : Nat) (p q : Pass), volume.val = v → (s.dev.vol v).pass = some p → p.awaiting.isSome = true ∧ s.dev.jobsRun v = true → s.dev.store.mcmds.any (fun c => match c.use with | .target w _ => w == v | _ => false) = false → q = { p with cursor := s.dev.afterStripe v p.cursor, awaiting := none } → (s.dev.vol v).st = .failed ∨ ((s.dev.setVol v { s.dev.vol v with pass := some q }).passNeeds v q ≠ [] ∧ q.cursor < s.dev.volUnits v ∧ q.waiting = true) →
      Answers (.passStripeDone volume blocks) s (fun t => (t.dev.vol v).pass = some { q with saved := if p.saved + 65536 ≤ p.cursor then q.cursor else p.saved } ∧
      (t.dev.vol v).ckptSeq = (s.dev.vol v).ckptSeq + (if p.saved + 65536 ≤ p.cursor then 1 else 0) ∧ (∀ w, w ≠ v → t.dev.vol w = s.dev.vol w) ∧
      t.dev.store.mcmds = s.dev.store.mcmds ∧ Dev.OnlyChanged [.store] [] [.JOB_CKPT_WRITES] s.dev t.dev)) ∧
  (∀ (s : State) (volume : Fin 64) (blocks : List Fetched) (v : Nat) (p q : Pass), volume.val = v → (s.dev.vol v).pass = some p → p.awaiting.isSome = true ∧ s.dev.jobsRun v = true ∧ (s.dev.vol v).st ≠ .failed ∧ p.waiting = false ∧ p.cursor < p.saved + 65536 → s.dev.store.mcmds.any (fun c => match c.use with | .target w _ => w == v | _ => false) = false → q = { p with cursor := s.dev.afterStripe v p.cursor, awaiting := none } → (s.dev.setVol v { s.dev.vol v with pass := some q }).passNeeds v q ≠ [] ∧ q.cursor < s.dev.volUnits v → (s.dev.setVol v { s.dev.vol v with pass := some q }).stripeOpen (s.dev.volPier v) v [s.dev.stripeAt v q.cursor] = false → ((s.dev.setVol v { s.dev.vol v with pass := some q }).passNeeds v q).length * (s.dev.geom v (s.dev.stripeAt v q.cursor).1).u * 4096 ≤ p.budget →
      Answers (.passStripeDone volume blocks) s (fun t => (t.dev.vol v).pass.map (fun x => (x.cursor, x.awaiting)) = some (q.cursor, some (s.dev.stripeAt v q.cursor)) ∧
      t.dev.ctr .JOB_PASS_STRIPES (s.dev.volPier v) = (s.dev.ctr .JOB_PASS_STRIPES (s.dev.volPier v) + 1) % 2 ^ 64 ∧
      Dev.OnlyChanged [.store, .ldg, .nvme, .marks] [] [.JOB_PASS_STRIPES, .CX_XTS_UNITS, .JOB_PASS_BLOCKS, .PAR_MEDIA_ERR, .PAR_REPAIR_WRITES, .PAR_BB_ADDED, .DRV_MCMD_ISSUED, .LDG_REC_OPENED, .LDG_REC_COMMITTED] s.dev t.dev)) ∧
  (∀ (s : State) (volume : Fin 64) (index : Fin 24) (v m : Nat) (p : Pass) (x : Target), volume.val = v ∧ index.val = m → (s.dev.vol v).pass = some p → p.targets.all p.targetDone = true ∧ p.targets.find? (fun t => t.index == m && p.targetDone t) = some x ∧ p.awaiting = none → s.dev.jobsRun v = true ∧ (s.dev.vol v).st ∈ [VState.optimal, .degraded, .critical, .failed] → s.dev.slotVwc (s.dev.mem v m).slot = false ∨ x.flush.any (fun n => decide (n ≤ (s.dev.drive (s.dev.mem v m).slot).flushDone)) = true →
      Answers (.targetComplete volume index) s (fun t => (t.dev.mem v m).st = .online ∧ (t.dev.drive (s.dev.mem v m).slot).st = .online ∧ (t.dev.vol v).gen = (s.dev.vol v).gen + 1 ∧
      (t.dev.vol v).st = t.dev.stateByMembers v ∧ (t.dev.vol v).pass.map (fun q => q.targets) = (if (p.targets.filter (fun y => y.index != m)).isEmpty then none else some (p.targets.filter (fun y => y.index != m))) ∧
      (s.hears (pierDie (s.dev.volPier v)) → s.told t (pierDie (s.dev.volPier v)) 0x365 (le 1 v ++ le 1 (s.dev.mem v m).slot ++ le 1 m)) ∧
      Dev.OnlyChanged [.store] [] [.DRV_MCMD_ISSUED, .JOB_CKPT_WRITES] s.dev t.dev)) ∧
  (∀ (s : State) (volume : Fin 64) (index : Fin 24) (v m : Nat) (p : Pass) (x : Target), volume.val = v ∧ index.val = m → (s.dev.vol v).pass = some p → p.targets.all p.targetDone = true ∧ p.targets.find? (fun t => t.index == m && p.targetDone t) = some x ∧ p.awaiting = none → s.dev.jobsRun v = true → s.dev.slotVwc (s.dev.mem v m).slot = true ∧ x.flush = none →
      Answers (.targetComplete volume index) s (fun t => (t.dev.vol v).pass = some { p with targets := p.targets.map (fun y => if y.index = m then { y with flush := some ((s.dev.drive (s.dev.mem v m).slot).flushIssued + 1) } else y) } ∧
      (t.dev.mem v m) = (s.dev.mem v m) ∧ (t.dev.vol v).gen = (s.dev.vol v).gen ∧
      ((s.dev.drive (s.dev.mem v m).slot).flushIssued = (s.dev.drive (s.dev.mem v m).slot).flushDone → t.dev.store.mcmds.length = s.dev.store.mcmds.length + 1 ∧
      (t.dev.drive (s.dev.mem v m).slot).flushIssued = (s.dev.drive (s.dev.mem v m).slot).flushIssued + 1) ∧
      Dev.OnlyChanged [.store] [] [.DRV_MCMD_ISSUED, .DRV_FLUSHES] s.dev t.dev))

/-- A START that R425 admits puts the added members online and begins the reshape at B = 0 with event 367h; else 36Ah. A step begins when nothing touches its zone, first with the checkpoint and backup it needs; its moves write each unit of the new stripe with its ciphertext unchanged; at its end B advances by a stripe. After the last old unit the volume takes the new geometry with event 368h. A scrub checks the row that is due: a busy row is revisited, a wrong P or Q is rewritten, a wrong data block that both syndromes locate is corrected; a pass that has visited every row ends with 36Ch (10 R425-R440). -/
def Obligations.ReshapesAndScrubs : Prop :=
  (∀ (s : State) (req : Requester) (volume : Fin 64) (v w w' : Nat), volume.val = v → s.dev.commandMade (.reg req) (s.dev.pairAddr .RS_CMD) = true → s.dev.mayReshape v = true → s.dev.fld .VOL_CFG_WIDTH v = w ∧ s.dev.fld .RS_CFG_NEW_WIDTH v = w' →
      Answers (.reshapeStart req volume) s (fun t => (t.dev.vol v).reshape.map (fun r => { r with waiting := true }) = some { oldWidth := w, oldStrip := s.dev.fld .VOL_CFG_STRIP v, newWidth := w', newStrip := s.dev.fld .RS_CFG_NEW_STRIP v, waiting := true } ∧
      (t.dev.vol v).gen = (s.dev.vol v).gen + 1 ∧ (∀ i, i < w' - w → (t.dev.mem v (w + i)).st = .online ∧ (t.dev.mem v (w + i)).slot = s.dev.fld .RS_NEW_SLOT (memberInst v (w + i)) ∧
      (t.dev.drive (s.dev.fld .RS_NEW_SLOT (memberInst v (w + i)))).st = .online ∧ t.dev.flag .VOL_MEMBER_USED (memberInst v (w + i)) = true) ∧
      (∀ m, m < w → t.dev.mem v m = s.dev.mem v m) ∧ t.dev.fld .VOL_CFG_WIDTH v = w ∧
      (w' ≤ w + 15 → s.hears (pierDie (s.dev.volPier v)) → s.told t (pierDie (s.dev.volPier v)) 0x367 (le 1 v ++ le 1 w ++ le 1 (s.dev.fld .VOL_CFG_STRIP v) ++ le 1 w' ++ le 1 (s.dev.fld .RS_CFG_NEW_STRIP v))) ∧
      Dev.OnlyChanged [.store, .fw] [.VOL_MEMBER_USED, .VOL_MEMBER_SLOT] [.DRV_MCMD_ISSUED, .JOB_CKPT_WRITES] s.dev t.dev)) ∧
  (∀ (s : State) (req : Requester) (volume : Fin 64) (v : Nat), volume.val = v → s.dev.commandMade (.reg req) (s.dev.pairAddr .RS_CMD) = true → s.dev.mayReshape v = false →
      Answers (.reshapeStart req volume) s (fun t => t.dev.store = s.dev.store ∧ (s.hears (pierDie (s.dev.volPier v)) → ∃ n, s.told t (pierDie (s.dev.volPier v)) 0x36A (le 8 (Reg.addr .RS_CMD)) n) ∧
      Dev.OnlyChanged [.fresh, .fw] [] [] s.dev t.dev)) ∧
  (∀ (s : State) (req : Requester) (volume : Fin 64) (on : Bool), s.dev.commandMade (.reg req) (s.dev.pairAddr .RS_CMD) = true →
      Answers (.reshapePause req volume on) s (fun t => t.dev.flag .RS_CMD_PAUSE volume.val = on ∧ (∀ w, w ≠ volume.val → t.dev.fld .RS_CMD_PAUSE w = s.dev.fld .RS_CMD_PAUSE w) ∧
      t.dev.store = s.dev.store ∧ Dev.OnlyChanged [.fw] [.RS_CMD_PAUSE] [] s.dev t.dev)) ∧
  (∀ (s : State) (volume : Fin 64) (blocks : List Fetched) (v : Nat) (r : Reshape), volume.val = v → (s.dev.vol v).reshape = some r → s.dev.jobsRun v = true ∧ (s.dev.vol v).st = .optimal ∧ (s.dev.vol v).pass = none ∧ r.waiting = false ∧ r.moved = false → r.bound < s.dev.unitsIn v ⟨r.oldWidth, stripUnits r.oldStrip⟩ → r.step = none ∧ s.dev.flag .RS_CMD_PAUSE v = false ∧ s.dev.zoneBusy v r.bound (r.zoneEnd (s.dev.vol v).cap) = false → r.bound < r.overwritten (s.dev.vol v).cap ∨ r.saved < r.overwritten (s.dev.vol v).cap → s.dev.membersIn v [.online] ≠ [] →
      Answers (.reshapeStepBegin volume blocks) s (fun t => (t.dev.vol v).reshape = some { r with step := some (r.zoneEnd (s.dev.vol v).cap), backup := decide (r.bound < r.overwritten (s.dev.vol v).cap), saved := if r.saved < r.overwritten (s.dev.vol v).cap then r.bound else r.saved } ∧
      t.dev.reservedBusy v = true ∧ (t.dev.vol v).ckptSeq = (s.dev.vol v).ckptSeq + (if r.saved < r.overwritten (s.dev.vol v).cap then 1 else 0) ∧ (∀ w, w ≠ v → t.dev.vol w = s.dev.vol w) ∧
      t.dev.store.drives = s.dev.store.drives ∧ Dev.OnlyChanged [.store] [] [.DRV_MCMD_ISSUED, .JOB_CKPT_WRITES] s.dev t.dev)) ∧
  (∀ (s : State) (volume : Fin 64) (blocks : List Fetched) (v k : Nat) (r : Reshape) (new : Geom), volume.val = v → (s.dev.vol v).reshape = some r → s.dev.jobsRun v = true ∧ (s.dev.vol v).st = .optimal ∧ (s.dev.vol v).pass = none ∧ r.waiting = false ∧ r.moved = false → r.bound < s.dev.unitsIn v ⟨r.oldWidth, stripUnits r.oldStrip⟩ → r.step.isSome = true ∧ s.dev.reservedBusy v = false → new = ⟨r.newWidth, stripUnits r.newStrip⟩ ∧ r.bound / new.stripeUnits = k →
      Answers (.reshapeStepBegin volume blocks) s (fun t => (t.dev.vol v).reshape = some { r with moved := true } ∧
      (∀ o, o < new.u → ∀ j, j < new.d + 2 → t.dev.store.mcmds.any (fun c => c.write && c.member == new.member k j && c.unit == new.memberUnit k o && c.use == .target v noVolume) = true) ∧
      (∀ o, o < new.u → ∀ j, j < new.d → new.unitAt k j o < s.dev.unitsIn v ⟨r.oldWidth, stripUnits r.oldStrip⟩ → s.dev.listed v (new.unitAt k j o) = false →
      ∀ b ∈ (s.dev.fetched v (s.dev.oldRow v (new.unitAt k j o)).1 blocks (s.dev.oldRow v (new.unitAt k j o)).2).toList,
      t.dev.store.mcmds.any (fun c => c.member == new.member k j && c.unit == new.memberUnit k o && c.stored == b.2 && c.use == .target v noVolume) = true) ∧
      t.dev.store.drives = s.dev.store.drives ∧ Dev.OnlyChanged [.store] [] [.DRV_MCMD_ISSUED, .PAR_BB_ADDED] s.dev t.dev)) ∧
  (∀ (s : State) (volume : Fin 64) (v b : Nat) (r : Reshape), volume.val = v → (s.dev.vol v).reshape = some r → r.moved = true ∧ s.dev.store.mcmds.any (fun c => c.use == .target v noVolume) = false ∧ s.dev.pierUp (s.dev.volPier v) = true → r.bound + (⟨r.newWidth, stripUnits r.newStrip⟩ : Geom).stripeUnits = b →
      Answers (.reshapeStepEnd volume) s (fun t => (t.dev.vol v).reshape = some { r with bound := b, step := none, backup := false, moved := false, saved := if r.saved + 65536 ≤ b then b else r.saved } ∧
      t.dev.ctr .JOB_RS_STEPS (s.dev.volPier v) = (s.dev.ctr .JOB_RS_STEPS (s.dev.volPier v) + 1) % 2 ^ 64 ∧ (t.dev.vol v).gen = (s.dev.vol v).gen ∧
      Dev.OnlyChanged workParts [] (workCtrs ++ [.JOB_RS_STEPS, .JOB_RS_BACKUPS, .JOB_CKPT_WRITES]) s.dev t.dev)) ∧
  (∀ (s : State) (volume : Fin 64) (v : Nat) (r : Reshape), volume.val = v → (s.dev.vol v).reshape = some r → s.dev.unitsIn v ⟨r.oldWidth, stripUnits r.oldStrip⟩ ≤ r.bound ∧ r.step = none ∧ (s.dev.vol v).st = .optimal ∧ s.dev.jobsRun v = true →
      Answers (.reshapeComplete volume) s (fun t => (t.dev.vol v).reshape = none ∧ t.dev.fld .VOL_CFG_WIDTH v = r.newWidth % 2 ^ (Fld.info .VOL_CFG_WIDTH).width ∧ (t.dev.vol v).gen = (s.dev.vol v).gen + 1 ∧
      (∀ e ∈ (s.dev.vol v).members, Out.memberZeroes e.2.slot (dataStart + r.bound / (⟨r.newWidth, stripUnits r.newStrip⟩ : Geom).stripeUnits * stripUnits r.newStrip)
      (((s.dev.vol v).cap / stripUnits r.newStrip - r.bound / (⟨r.newWidth, stripUnits r.newStrip⟩ : Geom).stripeUnits) * stripUnits r.newStrip) ∈ t.dev.out) ∧
      (s.hears (pierDie (s.dev.volPier v)) → s.told t (pierDie (s.dev.volPier v)) 0x368 (le 1 v)) ∧
      Dev.OnlyChanged workParts [.VOL_CFG_WIDTH, .VOL_CFG_STRIP] (workCtrs ++ [.JOB_CKPT_WRITES]) s.dev t.dev)) ∧
  (∀ (s : State) (volume : Fin 64) (blocks : List Fetched) (v : Nat) (c : Scrub) (r : RowRef), volume.val = v → s.dev.scrubRuns v = true → (s.dev.vol v).scrub = c → c.running = true ∧ c.waiting = false ∧ c.next ≤ s.dev.nowOn (pierDie (s.dev.volPier v)) ∧ c.cursor < s.dev.scrubRows v → s.dev.scrubRef v c.cursor = r → s.dev.rowBusy v r = true →
      Answers (.scrubRow volume blocks) s (fun t => (t.dev.vol v).scrub.cursor = c.cursor + 1 ∧ (t.dev.vol v).scrub.revisit = c.revisit ++ [c.cursor] ∧ (t.dev.vol v).scrub.checked = c.checked ∧
      t.dev.store.mcmds = s.dev.store.mcmds ∧ Dev.OnlyChanged [.store] [] [.JOB_CKPT_WRITES] s.dev t.dev)) ∧
  (∀ (s : State) (volume : Fin 64) (blocks : List Fetched) (v p d : Nat) (c : Scrub) (r : RowRef), volume.val = v ∧ s.dev.volPier v = p ∧ (s.dev.geom v false).d = d → s.dev.scrubRuns v = true → (s.dev.vol v).scrub = c → c.running = true ∧ c.waiting = false ∧ c.next ≤ s.dev.nowOn (pierDie p) ∧ c.cursor < s.dev.scrubRows v → s.dev.scrubRef v c.cursor = r → s.dev.rowBusy v r = false →
      Answers (.scrubRow volume blocks) s (fun t => (t.dev.vol v).scrub.cursor = c.cursor + 1 ∧ (t.dev.vol v).scrub.revisit = c.revisit ∧ (t.dev.vol v).scrub.checked = c.checked + 1 ∧
      t.dev.ctr .JOB_SCRUB_ROWS p = (s.dev.ctr .JOB_SCRUB_ROWS p + 1) % 2 ^ 64 ∧
      (match recoverData d (s.dev.jobRow v r [] blocks) with
      | some ds =>
      let sp := xorB (((s.dev.jobRow v r [] blocks).getD d none).getD (parityP ds)) (parityP ds)
      let sq := xorB (((s.dev.jobRow v r [] blocks).getD (d + 1) none).getD (parityQ ds)) (parityQ ds)
      let wrote := fun (x : Nat) (b : Block) => t.dev.store.mcmds.any (fun c => c.unit == (s.dev.blockLoc v r x).2 && c.member == (s.dev.blockLoc v r x).1 && c.stored == s.dev.sealBlock v r x b && c.use == .repair)
      let fixed := (t.dev.vol v).scrub.corrected == c.corrected + 1
      if allZero sp && allZero sq then (t.dev.vol v).scrub.corrected == c.corrected && ((s.dev.unread v r [] (s.dev.jobRow v r [] blocks)) != [] || decide (t.dev.store.mcmds = s.dev.store.mcmds))
      else if allZero sq then fixed && wrote d (parityP ds) else if allZero sp then fixed && wrote (d + 1) (parityQ ds)
      else (match locate d sp sq with
      | some x => fixed && wrote x (xorB (ds.getD x zeroUnit) sp)
      | none => (t.dev.vol v).scrub.corrected == c.corrected)
      | none => (t.dev.vol v).scrub.corrected == c.corrected) = true ∧
      Dev.OnlyChanged [.store, .ldg, .nvme, .marks] [] [.JOB_SCRUB_ROWS, .CX_XTS_UNITS, .JOB_SCRUB_FIX_P, .JOB_SCRUB_FIX_Q, .JOB_SCRUB_FIX_D, .JOB_SCRUB_UNLOCATED, .JOB_CKPT_WRITES, .PAR_MEDIA_ERR, .PAR_REPAIR_WRITES, .PAR_BB_ADDED, .DRV_MCMD_ISSUED, .LDG_REC_OPENED, .LDG_REC_COMMITTED] s.dev t.dev)) ∧
  (∀ (s : State) (volume : Fin 64) (v : Nat) (c : Scrub), volume.val = v → (s.dev.vol v).scrub = c → c.running = true ∧ s.dev.scrubRows v ≤ c.cursor ∧ c.revisit = [] ∧ s.dev.jobsRun v = true →
      Answers (.scrubPassComplete volume) s (fun t => (t.dev.vol v).scrub = { last := s.dev.nowOn (pierDie (s.dev.volPier v)) } ∧ (t.dev.vol v).ckptSeq = (s.dev.vol v).ckptSeq + 1 ∧
      (s.hears (pierDie (s.dev.volPier v)) → s.told t (pierDie (s.dev.volPier v)) 0x36C (le 1 v ++ leCount c.checked ++ leCount c.corrected)) ∧
      t.dev.store.mcmds = s.dev.store.mcmds ∧ t.dev.store.drives = s.dev.store.drives ∧ Dev.OnlyChanged [.store] [] [.JOB_CKPT_WRITES] s.dev t.dev)) ∧
  (∀ (s : State) (volume : Fin 64) (blocks : List Fetched) (v : Nat), volume.val = v → s.dev.scrubRuns v = true ∧ (s.dev.vol v).scrub.running = false ∧ 8 ≤ s.dev.jobCount (s.dev.volPier v) →
      Answers (.scrubRow volume blocks) s (fun t => (t.dev.vol v).scrub = { (s.dev.vol v).scrub with running := true, cursor := 0, saved := 0, revisit := [], start := s.dev.nowOn (pierDie (s.dev.volPier v)), next := s.dev.nowOn (pierDie (s.dev.volPier v)), checked := 0, corrected := 0, waiting := true } ∧
      (∀ w, w ≠ v → t.dev.vol w = s.dev.vol w) ∧ Dev.OnlyChanged [.store] [] [] s.dev t.dev))

/-- A link that comes up records 380h, and 382h below its full rate or width. A link lost records 381h; one the initiator takes down records 386h with its cause and retrains 100 ms later. With another used port of the slot up the slot goes on with 383h and its commands are timed anew; else the member is missing. A controller that comes ready gives the drive its member block and data area; one that does not has its link taken down. A health warning that condemns a member makes it failed, any other is recorded as 385h. A Read that times out is reissued once and then is a media error; any other command takes the link down. A link not up in time records 388h once and is trained every second (11 R444-R464). -/
def Obligations.RootPortsAndMemberControllers : Prop :=
  (∀ (s : State) (port : Fin 48) (rate : Fin 8) (width : Fin 5) (n : Nat), port.val = n → s.dev.portRuns n = true ∧ (s.dev.slotPwr (s.dev.portSlot n)).st = .on ∧ (s.dev.port n).up = false ∧ (s.dev.port n).takenAt = none →
      Answers (.rootPortLinkUp port rate width) s (fun t => t.dev.port n = { s.dev.port n with up := true, rate := rate.val, width := width.val, noted := false, ready := false } ∧
      (∀ m, m ≠ n → t.dev.port m = s.dev.port m) ∧ (s.hears (s.dev.portDie n) → s.told t (s.dev.portDie n) 0x380 (s.dev.portDetail n ++ le 1 rate.val ++ le 1 width.val)) ∧
      (rate.val < 6 ∨ width.val < s.dev.portLanes → s.hears (s.dev.portDie n) → s.told t (s.dev.portDie n) 0x382 (s.dev.portDetail n ++ le 1 rate.val ++ le 1 width.val)) ∧
      t.dev.shelf.slots = s.dev.shelf.slots ∧ Dev.OnlyChanged [.shelf] [] [] s.dev t.dev)) ∧
  (∀ (s : State) (port : Fin 48) (n k v m : Nat), port.val = n ∧ s.dev.portSlot n = k → s.dev.portRuns n = true ∧ (s.dev.port n).up = true →
      Answers (.rootPortLinkLoss port) s (fun t => t.dev.port n = { s.dev.port n with up := false, ready := false, queues := 0, poweredAt := s.dev.nowOn (s.dev.portDie n), noted := false } ∧
      (∀ m, m ≠ n → t.dev.port m = s.dev.port m) ∧ t.dev.ctr .DRV_LINK_DOWNS (slotLanes k) = (s.dev.ctr .DRV_LINK_DOWNS (slotLanes k) + 1) % 2 ^ 64 ∧
      (s.hears (s.dev.portDie n) → s.told t (s.dev.portDie n) 0x381 (s.dev.portDetail n)) ∧
      ((s.dev.slotPorts k).any (fun m => m != n && (s.dev.port m).up) = true → (s.hears (s.dev.portDie n) → s.told t (s.dev.portDie n) 0x383 (s.dev.portDetail n)) ∧ t.dev.store.vols = s.dev.store.vols ∧ t.dev.store.drives = s.dev.store.drives) ∧
      ((s.dev.slotPorts k).any (fun m => m != n && (s.dev.port m).up) = false → s.dev.memberOf k = some (v, m) → (s.dev.mem v m).st = .online → (t.dev.mem v m).st = .missing ∧ (t.dev.drive k).st = .missing) ∧
      Dev.OnlyChanged (.shelf :: workParts) [] ([.DRV_LINK_DOWNS, .LDG_MAP_SETS, .JOB_CKPT_WRITES] ++ workCtrs) s.dev t.dev)) ∧
  (∀ (s : State) (port : Fin 48) (n : Nat) (r : DriveReport), port.val = n → s.dev.portRuns n = true ∧ (s.dev.port n).up = true ∧ (s.dev.port n).ready = false →
      Answers (.driveReady port (.ready r)) s (fun t => (t.dev.port n).ready = true ∧ (t.dev.port n).fmtBad = !(r.mbs.isSome && r.protectionOff && r.metadataAny && decide (2 ≤ r.queues)) ∧
      (t.dev.port n).queues = (if r.mbs.isSome && r.protectionOff && r.metadataAny && decide (2 ≤ r.queues) then min 16 r.queues else 0) ∧ (t.dev.port n).vwc = (r.cache && (!s.dev.flag .DRV_CFG_WCE_OFF || !r.cacheOff)) ∧
      t.dev.drive (s.dev.portSlot n) = { s.dev.drive (s.dev.portSlot n) with mbs := if r.mbs.isSome && r.protectionOff && r.metadataAny && decide (2 ≤ r.queues) then r.mbs.map (·.val) else none, units := min r.units (2 ^ 36) - dataStart } ∧
      (s.dev.flag .DRV_CFG_WCE_OFF = true → r.cache = true → r.cacheOff = false → s.hears (s.dev.portDie n) → s.told t (s.dev.portDie n) 0x387 (s.dev.portDetail n)) ∧
      t.dev.store.vols = s.dev.store.vols ∧ Dev.OnlyChanged [.shelf, .store] [] [] s.dev t.dev) ∧
      Answers (.driveReady port .timer) s (fun t => t.dev.port n = { s.dev.port n with up := false, ready := false, queues := 0, poweredAt := s.dev.nowOn (s.dev.portDie n), noted := false, takenAt := some (s.dev.nowOn (s.dev.portDie n)) } ∧
      (s.hears (s.dev.portDie n) → s.told t (s.dev.portDie n) 0x386 (s.dev.portDetail n) 1) ∧
      Dev.OnlyChanged (.shelf :: workParts) [] ([.DRV_LINK_DOWNS, .LDG_MAP_SETS, .JOB_CKPT_WRITES] ++ workCtrs) s.dev t.dev) ∧
      Answers (.driveReady port .cfs) s (fun t => (t.dev.port n).up = false ∧ (t.dev.port n).takenAt = some (s.dev.nowOn (s.dev.portDie n)) ∧ (s.hears (s.dev.portDie n) → s.told t (s.dev.portDie n) 0x386 (s.dev.portDetail n) 2) ∧
      Dev.OnlyChanged (.shelf :: workParts) [] ([.DRV_LINK_DOWNS, .LDG_MAP_SETS, .JOB_CKPT_WRITES] ++ workCtrs) s.dev t.dev) ∧
      Answers (.driveReady port .notReady) s (fun t => (t.dev.port n).up = false ∧ (t.dev.port n).takenAt = some (s.dev.nowOn (s.dev.portDie n)) ∧ (s.hears (s.dev.portDie n) → s.told t (s.dev.portDie n) 0x386 (s.dev.portDetail n) 3) ∧
      Dev.OnlyChanged (.shelf :: workParts) [] ([.DRV_LINK_DOWNS, .LDG_MAP_SETS, .JOB_CKPT_WRITES] ++ workCtrs) s.dev t.dev)) ∧
  (∀ (s : State) (port : Fin 48) (cmd : Option Nat) (n : Nat), port.val = n → s.dev.portRuns n = true ∧ (s.dev.port n).up = true →
      (cmd.any (fun id => s.dev.store.mcmds.any (fun c => c.id == id && c.slot == s.dev.portSlot n)) = true → Answers (.driveMemoryRequest port cmd) s (fun t => Dev.OnlyChanged [] [] [] s.dev t.dev)) ∧
      (cmd.any (fun id => s.dev.store.mcmds.any (fun c => c.id == id && c.slot == s.dev.portSlot n)) = false → Answers (.driveMemoryRequest port cmd) s (fun t => (t.dev.port n).up = false ∧
      (t.dev.port n).takenAt = some (s.dev.nowOn (s.dev.portDie n)) ∧ t.dev.ctr .DRV_MEM_REJECT (slotLanes (s.dev.portSlot n)) = (s.dev.ctr .DRV_MEM_REJECT (slotLanes (s.dev.portSlot n)) + 1) % 2 ^ 64 ∧
      (s.hears (s.dev.portDie n) → s.told t (s.dev.portDie n) 0x384 (s.dev.portDetail n)) ∧
      Dev.OnlyChanged (.shelf :: workParts) [] ([.DRV_MEM_REJECT, .DRV_LINK_DOWNS, .LDG_MAP_SETS, .JOB_CKPT_WRITES] ++ workCtrs) s.dev t.dev))) ∧
  (∀ (s : State) (port : Fin 48) (warning : BitVec 8) (n k v m : Nat), port.val = n ∧ s.dev.portSlot n = k → s.dev.portRuns n = true ∧ (s.dev.port n).ready = true → (s.dev.port n).smartDue = true ∨ (s.dev.port n).smartAt + 60000000000 < s.dev.nowOn (s.dev.portDie n) →
      Answers (.smartPoll port warning) s (fun t => t.dev.port n = { s.dev.port n with smartAt := s.dev.nowOn (s.dev.portDie n), smartDue := false } ∧ (t.dev.drive k).warning = warning.toNat ∧
      ((s.dev.drive k).st ∉ [MState.online, .rebuilding] → warning.toNat ≠ 0 → s.hears (s.dev.portDie n) → s.told t (s.dev.portDie n) 0x385 (s.dev.portDetail n ++ le 1 warning.toNat)) ∧
      ((s.dev.drive k).st ∈ [MState.online, .rebuilding] → warning.toNat - 4 * (warning.toNat / 4 % 4) ≠ 0 → s.hears (s.dev.portDie n) → s.told t (s.dev.portDie n) 0x385 (s.dev.portDetail n ++ le 1 (warning.toNat - 4 * (warning.toNat / 4 % 4)))) ∧
      (s.dev.memberOf k = some (v, m) → (s.dev.drive k).st ∈ [MState.online, .rebuilding] → warning.toNat / 4 % 4 ≠ 0 → (t.dev.mem v m).st = .failed ∧
      (s.hears (pierDie (s.dev.volPier v)) → ∃ n, s.told t (pierDie (s.dev.volPier v)) 0x362 (le 1 v ++ le 1 k ++ le 1 m) n)) ∧
      (warning.toNat / 4 % 4 = 0 → t.dev.store.vols = s.dev.store.vols ∧ t.dev.store.mcmds = s.dev.store.mcmds) ∧
      Dev.OnlyChanged (.shelf :: .fresh :: workParts) [] ([.LDG_MAP_SETS, .JOB_CKPT_WRITES] ++ workCtrs) s.dev t.dev) ∧
      Answers (.driveAsyncEvent port) s (fun t => t.dev.port n = { s.dev.port n with smartDue := true } ∧ (∀ m, m ≠ n → t.dev.port m = s.dev.port m) ∧ Dev.OnlyChanged [.shelf] [] [] s.dev t.dev)) ∧
  (∀ (s : State) (id cmd st row x : Nat) (c : MCmd) (ng : Bool) (y : Cmd), s.dev.store.mcmds.find? (fun c => c.id == id) = some c → s.dev.pierRuns (slotLanes c.slot) 0 = true ∧ c.since + s.dev.fld .DRV_CFG_MCMD_TO * 1000000 < s.dev.nowOn (pierDie (slotLanes c.slot)) → c.use = .read cmd ng st row x → s.dev.cmd cmd = some y ∧ 2 ≤ y.reading →
      (c.again = false → Answers (.memberCommandTimeout id) s (fun t => t.dev.store.mcmds.dropLast = s.dev.store.mcmds.filter (fun e => e.id != id) ∧
      t.dev.store.mcmds.getLast?.map (fun e => { e with since := 0, pier := 0, epoch := 0 }) = some { c with id := s.dev.store.nextMcmd, again := true, since := 0, pier := 0, epoch := 0 } ∧ t.dev.cmd cmd = some y ∧
      Dev.OnlyChanged [.store] [] [.DRV_MCMD_ISSUED, .DRV_MCMD_TIMEOUT, .DRV_MCMD_REISSUED] s.dev t.dev)) ∧
      (c.again = true → Answers (.memberCommandTimeout id) s (fun t => t.dev.cmd cmd = some { y with reading := y.reading - 1, bad := y.bad ++ [⟨ng, st, row, x⟩] } ∧
      t.dev.store.mcmds = s.dev.store.mcmds.filter (fun e => e.id != id) ∧ t.dev.ctr .PAR_MEDIA_ERR c.pier = (s.dev.ctr .PAR_MEDIA_ERR c.pier + 1) % 2 ^ 64 ∧
      Dev.OnlyChanged [.store, .nvme, .marks] [] [.DRV_MCMD_TIMEOUT, .PAR_MEDIA_ERR] s.dev t.dev))) ∧
  (∀ (s : State) (id n : Nat) (c : MCmd), s.dev.store.mcmds.find? (fun c => c.id == id) = some c → s.dev.pierRuns (slotLanes c.slot) 0 = true ∧ c.since + s.dev.fld .DRV_CFG_MCMD_TO * 1000000 < s.dev.nowOn (pierDie (slotLanes c.slot)) → ∀ cmd ng st row x, c.use ≠ .read cmd ng st row x → (s.dev.slotPorts c.slot).find? (fun n => (s.dev.port n).up) = some n →
      Answers (.memberCommandTimeout id) s (fun t => (t.dev.port n).up = false ∧ (t.dev.port n).takenAt = some (s.dev.nowOn (s.dev.portDie n)) ∧
      t.dev.ctr .DRV_MCMD_TIMEOUT (slotLanes c.slot) = (s.dev.ctr .DRV_MCMD_TIMEOUT (slotLanes c.slot) + 1) % 2 ^ 64 ∧ (s.hears (s.dev.portDie n) → s.told t (s.dev.portDie n) 0x386 (s.dev.portDetail n) 1) ∧
      Dev.OnlyChanged (.shelf :: workParts) [] ([.DRV_MCMD_TIMEOUT, .DRV_LINK_DOWNS, .LDG_MAP_SETS, .JOB_CKPT_WRITES] ++ workCtrs) s.dev t.dev)) ∧
  (∀ (s : State) (port : Fin 48) (n t0 : Nat), port.val = n → s.dev.portRuns n = true ∧ (s.dev.port n).takenAt = some t0 ∧ t0 + 100000000 < s.dev.nowOn (s.dev.portDie n) →
      Answers (.linkRetrain port) s (fun t => t.dev.port n = { s.dev.port n with takenAt := none } ∧ Out.portTrain n ∈ t.dev.out ∧ (∀ m, m ≠ n → t.dev.port m = s.dev.port m) ∧ Dev.OnlyChanged [.shelf] [] [] s.dev t.dev)) ∧
  (∀ (s : State) (via : Via) (port : Fin 48) (n : Nat), port.val = n → s.dev.commandMade via (s.dev.portAddr .RP_CTL n) = true → s.dev.portUsed n = true →
      Answers (.retrain via port) s (fun t => t.dev.port n = { s.dev.port n with up := false, ready := false, queues := 0, poweredAt := s.dev.nowOn (s.dev.portDie n), noted := false, takenAt := some (s.dev.nowOn (s.dev.portDie n)) } ∧
      (s.hears (s.dev.portDie n) → s.told t (s.dev.portDie n) 0x386 (s.dev.portDetail n) 0) ∧
      Dev.OnlyChanged (.shelf :: .fw :: .od :: workParts) answerFlds ([.DRV_LINK_DOWNS, .LDG_MAP_SETS, .JOB_CKPT_WRITES] ++ workCtrs) s.dev t.dev)) ∧
  (∀ (s : State) (port : Fin 48) (n : Nat), port.val = n → s.dev.portRuns n = true ∧ (s.dev.slotPwr (s.dev.portSlot n)).st = .on ∧ (s.dev.port n).up = false ∧ (s.dev.port n).takenAt = none →
      ((s.dev.port n).noted = false → (s.dev.port n).poweredAt + s.dev.fld .DRV_CFG_LINK_TO * 1000000 < s.dev.nowOn (s.dev.portDie n) → Answers (.linkTimeout port) s (fun t =>
      t.dev.port n = { s.dev.port n with noted := true, retryAt := s.dev.nowOn (s.dev.portDie n) } ∧ (s.hears (s.dev.portDie n) → s.told t (s.dev.portDie n) 0x388 (s.dev.portDetail n)) ∧ Dev.OnlyChanged [.shelf] [] [] s.dev t.dev)) ∧
      ((s.dev.port n).noted = true → (s.dev.port n).retryAt + 1000000000 < s.dev.nowOn (s.dev.portDie n) → Answers (.linkTrainRetry port) s (fun t =>
      t.dev.port n = { s.dev.port n with retryAt := s.dev.nowOn (s.dev.portDie n) } ∧ Out.portTrain n ∈ t.dev.out ∧ Dev.OnlyChanged [.shelf] [] [] s.dev t.dev)))

/-- A drive that stays seated for 200 ms records 010h and its slot ramps, or waits in OFF; the pass gate follows the auxiliary switch after AUX_DLY, and 12 V at 10.8 V makes the slot ON with 012h. Every trip turns the switches off, puts the slot in RETRY_WAIT with one more retry and its cause, and records 014h. At the end of the wait the slot ramps again with 015h, or is LOCKED with 016h at RETRY_MAX. A drive gone for 1 ms records 011h, and its slot is EMPTY with no retries. A feed lost or returned records 008h or 009h and holds the diodes on an absent feed off (11 R461-R478). -/
def Obligations.SlotPowerSequence : Prop :=
  (∀ (s : State) (slot : Fin 24) (low : Bool) (k : Nat), slot.val = k → s.dev.slotLogic = true ∧ (s.dev.slotPwr k).present = !low →
      Answers (.presenceChange slot low) s (fun t => (t.dev.slotPwr k).present = low ∧ (t.dev.slotPwr k).presentAt = s.dev.now ∧
      ((s.dev.slotPwr k).st = .empty → (t.dev.slotPwr k).st = if low then .debounce else .empty) ∧ ((s.dev.slotPwr k).st = .debounce → low = false → (t.dev.slotPwr k).st = .empty) ∧
      ((s.dev.slotPwr k).st ∈ [SlotSt.ramp, .on, .locked, .off] → t.dev.slotPwr k = { s.dev.slotPwr k with present := low, presentAt := s.dev.now }) ∧
      (∀ j, j ≠ k → t.dev.slotPwr j = s.dev.slotPwr j) ∧ Dev.OnlyChanged [.shelf] [] [] s.dev t.dev)) ∧
  (∀ (s : State) (slot : Fin 24) (k : Nat) (x : SlotPwr), slot.val = k ∧ s.dev.slotPwr k = x → s.dev.slotLogic = true ∧ x.present = true ∧ x.seated = false ∧ x.presentAt + 200000000 < s.dev.now →
      Answers (.insertionDebounceEnd slot) s (fun t => (t.dev.slotPwr k).seated = true ∧ s.told t .pl 0x010 (le 1 k) ∧
      (x.st = .debounce → s.dev.flag .SLOT_CFG_AUTO_ON k = true → s.dev.mode.released.isSome = true → t.dev.slotPwr k = { x with seated := true, st := .ramp, aux := true, auxAt := s.dev.now, gate := false, cycleAt := none, waitOver := false } ∧ Out.slotPower k false true ∈ t.dev.out) ∧
      (x.st = .debounce → (s.dev.flag .SLOT_CFG_AUTO_ON k && s.dev.mode.released.isSome) = false → t.dev.slotPwr k = { x with seated := true, st := .off }) ∧
      (x.st = .retryWait → x.waitOver = true → (t.dev.slotPwr k).st = .ramp ∧ s.told t .pl 0x015 (le 1 k ++ le 1 x.retries)) ∧ (∀ j, j ≠ k → t.dev.slotPwr j = s.dev.slotPwr j) ∧
      Dev.OnlyChanged [.shelf] [] [] s.dev t.dev)) ∧
  (∀ (s : State) (slot : Fin 24) (k v m : Nat) (x : SlotPwr), slot.val = k ∧ s.dev.slotPwr k = x → s.dev.slotLogic = true ∧ x.present = false ∧ x.seated = true ∧ x.presentAt + 1000000 < s.dev.now →
      Answers (.removalRecognised slot) s (fun t => (t.dev.slotPwr k).seated = false ∧ (t.dev.slotPwr k).gate = false ∧ (t.dev.slotPwr k).aux = false ∧ (t.dev.slotPwr k).retries = 0 ∧
      (x.st ≠ .retryWait → (t.dev.slotPwr k).st = .empty) ∧ s.told t .pl 0x011 (le 1 k) ∧ Out.slotPower k false false ∈ t.dev.out ∧
      (s.dev.memberOf k = some (v, m) → (s.dev.mem v m).st = .online → (t.dev.mem v m).st = .missing ∧ (t.dev.drive k).st = .missing) ∧
      ((s.dev.drive k).st = .spare → t.dev.drive k = { s.dev.drive k with st := .noDrive, volume := 0, index := 0, stamp := none }) ∧ (∀ n ∈ s.dev.slotPorts k, t.dev.port n = {}) ∧
      Dev.OnlyChanged (.shelf :: workParts) [] ([.LDG_MAP_SETS, .JOB_CKPT_WRITES] ++ workCtrs) s.dev t.dev)) ∧
  (∀ (s : State) (slot : Fin 24) (k mv : Nat) (x : SlotPwr), slot.val = k ∧ s.dev.slotPwr k = x → s.dev.slotLogic = true ∧ x.st = .ramp →
      (x.gate = false → x.auxAt + s.dev.fld .SLOT_CFG_AUX_DLY k * 1000000 ≤ s.dev.now → Answers (.rampStart slot) s (fun t => t.dev.slotPwr k = { x with gate := true, rampAt := s.dev.now, acc := 0 } ∧
      Out.slotPower k true x.aux ∈ t.dev.out ∧ (∀ j, j ≠ k → t.dev.slotPwr j = s.dev.slotPwr j) ∧ Dev.OnlyChanged [.shelf] [] [] s.dev t.dev)) ∧
      (x.gate = true → 10800 ≤ mv → s.dev.rampOver k = false → Answers (.slotPowered slot mv) s (fun t => t.dev.slotPwr k = { x with st := .on, onAt := s.dev.now, mv := mv } ∧ s.told t .pl 0x012 (le 1 k) ∧
      (∀ n ∈ s.dev.slotPorts k, t.dev.port n = { poweredAt := s.dev.nowOn (s.dev.portDie n) }) ∧ (∀ j, j ≠ k → t.dev.slotPwr j = s.dev.slotPwr j) ∧ Dev.OnlyChanged [.shelf] [] [] s.dev t.dev)) ∧
      (x.gate = true → s.dev.rampOver k = true → Answers (.slotRampTimeout slot) s (fun t => t.dev.slotPwr k = x.tripped s.dev.now 3 ∧ s.told t .pl 0x014 (le 1 k ++ le 2 x.ma ++ le 4 x.acc) 3 ∧
      Dev.OnlyChanged (.shelf :: workParts) [] ([.LDG_MAP_SETS, .JOB_CKPT_WRITES] ++ workCtrs) s.dev t.dev))) ∧
  (∀ (s : State) (slot : Fin 24) (k mv ma aux v m : Nat) (x : SlotPwr), slot.val = k ∧ s.dev.slotPwr k = x → s.dev.slotLogic = true →
      (x.st = .on → mv < 10200 → s.dev.shelf.feedA = true ∨ s.dev.shelf.feedB = true → Answers (.slotUnderVoltage slot mv) s (fun t => t.dev.slotPwr k = ({ x with mv := mv }).tripped s.dev.now 4 ∧
      s.told t .pl 0x014 (le 1 k ++ le 2 x.ma ++ le 4 x.acc) 4 ∧ (s.dev.memberOf k = some (v, m) → (s.dev.mem v m).st = .online → (t.dev.mem v m).st = .missing) ∧
      Dev.OnlyChanged (.shelf :: workParts) [] ([.LDG_MAP_SETS, .JOB_CKPT_WRITES] ++ workCtrs) s.dev t.dev)) ∧
      (x.gate = true → s.dev.fld .SLOT_FT_FT_A k * 1000 < ma → Answers (.fastTrip slot ma) s (fun t => t.dev.slotPwr k = x.tripped s.dev.now 1 ∧
      s.told t .pl 0x014 (le 1 k ++ le 2 ma ++ le 4 x.acc) 1 ∧ (s.dev.memberOf k = some (v, m) → (s.dev.mem v m).st = .online → (t.dev.mem v m).st = .missing) ∧
      Dev.OnlyChanged (.shelf :: workParts) [] ([.LDG_MAP_SETS, .JOB_CKPT_WRITES] ++ workCtrs) s.dev t.dev)) ∧
      (x.aux = true → 1000 < aux → Answers (.auxOvercurrent slot aux) s (fun t => t.dev.slotPwr k = ({ x with auxMa := aux }).tripped s.dev.now 5 ∧
      s.told t .pl 0x014 (le 1 k ++ le 2 aux ++ le 4 x.acc) 5 ∧ Dev.OnlyChanged (.shelf :: workParts) [] ([.LDG_MAP_SETS, .JOB_CKPT_WRITES] ++ workCtrs) s.dev t.dev))) ∧
  (∀ (s : State) (slot : Fin 24) (k mv ma aux acc : Nat) (x : SlotPwr), slot.val = k ∧ s.dev.slotPwr k = x → s.dev.slotLogic = true ∧ s.dev.now % 5000 = 0 ∧ x.sampledAt ≠ some s.dev.now → (if x.gate then s.dev.curveStep k x.acc ma else x.acc) = acc →
      Answers (.breakerSample slot mv ma aux) s (fun t => (t.dev.slotPwr k).mv = mv ∧ (t.dev.slotPwr k).ma = ma ∧ (t.dev.slotPwr k).peakV = max x.peakV mv ∧ (t.dev.slotPwr k).minV = min x.minV mv ∧
      (t.dev.slotPwr k).peakI = max x.peakI ma ∧ (t.dev.slotPwr k).minI = min x.minI ma ∧ (t.dev.slotPwr k).acc = acc ∧ (t.dev.slotPwr k).auxMa = (if s.dev.now % 100000 = 0 then aux else x.auxMa) ∧
      (x.gate = true → 2 ^ 24 ≤ acc → (t.dev.slotPwr k).st = .retryWait ∧ (t.dev.slotPwr k).cause = 2 ∧ (t.dev.slotPwr k).gate = false ∧ s.told t .pl 0x014 (le 1 k ++ le 2 ma ++ le 4 acc) 2) ∧
      (x.gate = false ∨ acc < 2 ^ 24 → (t.dev.slotPwr k).st = x.st ∧ (t.dev.slotPwr k).gate = x.gate ∧ t.dev.store = s.dev.store) ∧
      Dev.OnlyChanged (.shelf :: workParts) [] ([.LDG_MAP_SETS, .JOB_CKPT_WRITES] ++ workCtrs) s.dev t.dev)) ∧
  (∀ (s : State) (slot : Fin 24) (k : Nat) (x : SlotPwr), slot.val = k ∧ s.dev.slotPwr k = x → s.dev.slotLogic = true ∧ x.st = .retryWait ∧ x.waitOver = false ∧ x.waitAt + s.dev.fld .SLOT_CFG_RETRY_S k * 1000000000 < s.dev.now →
      (s.dev.fld .SLOT_CFG_RETRY_MAX k ≠ 0 → s.dev.fld .SLOT_CFG_RETRY_MAX k ≤ x.retries → Answers (.retryWaitEnd slot) s (fun t => t.dev.slotPwr k = { x with st := .locked } ∧ s.told t .pl 0x016 (le 1 k) ∧ Dev.OnlyChanged [.shelf] [] [] s.dev t.dev)) ∧
      (s.dev.fld .SLOT_CFG_RETRY_MAX k = 0 ∨ x.retries < s.dev.fld .SLOT_CFG_RETRY_MAX k → Answers (.retryWaitEnd slot) s (fun t =>
      (x.seated = true → t.dev.slotPwr k = { x with st := .ramp, aux := true, auxAt := s.dev.now, gate := false, cycleAt := none, waitOver := false } ∧ s.told t .pl 0x015 (le 1 k ++ le 1 x.retries)) ∧
      (x.seated = false → x.present = true → t.dev.slotPwr k = { x with waitOver := true }) ∧ (x.seated = false → x.present = false → t.dev.slotPwr k = { x with st := .empty }) ∧
      Dev.OnlyChanged [.shelf] [] [] s.dev t.dev))) ∧
  (∀ (s : State) (slot : Fin 24) (k : Nat) (x : SlotPwr), slot.val = k ∧ s.dev.slotPwr k = x → s.dev.slotLogic = true ∧ x.st = .on ∧ x.onAt + 10000000000 < s.dev.now →
      Answers (.retriesClear slot) s (fun t => t.dev.slotPwr k = { x with retries := 0 } ∧ (∀ j, j ≠ k → t.dev.slotPwr j = s.dev.slotPwr j) ∧ Dev.OnlyChanged [.shelf] [] [] s.dev t.dev)) ∧
  (∀ (s : State) (feed : Fin 2) (mv f : Nat), feed.val = f → s.dev.mode.standby = true →
      (s.dev.feedOk f = true → mv < 10200 → Answers (.feedLost feed mv) s (fun t => t.dev.feedOk f = false ∧ t.dev.feedOk (1 - f) = s.dev.feedOk (1 - f) ∧ s.told t .pl 0x008 (le 1 f) ∧
      (∀ k, (if f = 0 then (t.dev.slotPwr k).diodeA else (t.dev.slotPwr k).diodeB) = false) ∧ Dev.OnlyChanged [.shelf, .mode] [] [] s.dev t.dev)) ∧
      (s.dev.feedOk f = false → 10800 ≤ mv → Answers (.feedReturn feed mv) s (fun t => t.dev.feedOk f = true ∧ (if f = 0 then t.dev.shelf.mvA else t.dev.shelf.mvB) = mv ∧ t.dev.feedOk (1 - f) = s.dev.feedOk (1 - f) ∧
      s.told t .pl 0x009 (le 1 f) ∧ Dev.OnlyChanged [.shelf, .mode] [] [] s.dev t.dev))) ∧
  (∀ (s : State) (slot : Fin 24) (feed : Fin 2) (k f : Nat), slot.val = k ∧ feed.val = f → s.dev.slotLogic = true →
      Answers (.idealDiodeReverse slot feed) s (fun t => t.dev.slotPwr k = (if f = 0 then { s.dev.slotPwr k with diodeA := false } else { s.dev.slotPwr k with diodeB := false }) ∧
      (∀ j, j ≠ k → t.dev.slotPwr j = s.dev.slotPwr j) ∧ Dev.OnlyChanged [.shelf] [] [] s.dev t.dev) ∧
      (s.dev.feedUsable f = true → Answers (.idealDiodeForward slot feed) s (fun t => t.dev.slotPwr k = (if f = 0 then { s.dev.slotPwr k with diodeA := true } else { s.dev.slotPwr k with diodeB := true }) ∧
      (∀ j, j ≠ k → t.dev.slotPwr j = s.dev.slotPwr j) ∧ Dev.OnlyChanged [.shelf] [] [] s.dev t.dev)))

/-- A slot command is taken from a control processor of the pier that owns the slot under its epoch, from PF1 with privilege, or from a Custodian. ON ramps a slot that is OFF, or LOCKED and then without retries, with its drive present; OFF and CYCLE turn it off with event 013h, CYCLE to ramp again after a second. A stale epoch records 01Fh, any other refusal 01Eh, and changes no slot. FEED_CFG is refused where it disables both feeds; a curve is refused where it would not be valid. A read of the held values reloads them with the current sample (11 R467, R471, R476-R486). -/
def Obligations.SlotCommandsAndCurves : Prop :=
  (∀ (s : State) (via : Via) (slot : Fin 24) (k epoch : Nat) (x : SlotPwr), slot.val = k ∧ s.dev.slotPwr k = x → s.dev.commandMade via (Reg.addr .SLOT_CMD k) = true → (match via with | .reg (.cp n) => decide (n.val / 16 = (s.dev.quoinSlot k).owner) && decide (epoch = (s.dev.quoinSlot k).epoch) | .reg .pf1 => s.dev.privileged .pf1 | .dict _ => true) = true →
      ((x.st = .off ∨ x.st = .locked) → x.seated = true → Answers (.slotOn via slot epoch) s (fun t => t.dev.slotPwr k = { x with retries := if x.st = .locked then 0 else x.retries, st := .ramp, aux := true, auxAt := s.dev.now, gate := false, cycleAt := none, waitOver := false } ∧
      (∀ j, j ≠ k → t.dev.slotPwr j = s.dev.slotPwr j) ∧ Out.slotPower k false true ∈ t.dev.out ∧ Dev.OnlyChanged [.shelf, .fw, .od] answerFlds [] s.dev t.dev)) ∧
      ((x.st = .on ∨ x.st = .ramp) → Answers (.slotOff via slot epoch) s (fun t => t.dev.slotPwr k = { x with st := .off, gate := false, aux := false } ∧ s.told t .pl 0x013 (le 1 k) ∧ Out.slotPower k false false ∈ t.dev.out ∧
      (∀ j, j ≠ k → t.dev.slotPwr j = s.dev.slotPwr j) ∧ Dev.OnlyChanged (.shelf :: .fw :: .od :: workParts) answerFlds ([.LDG_MAP_SETS, .JOB_CKPT_WRITES] ++ workCtrs) s.dev t.dev)) ∧
      (x.st = .on → Answers (.slotCycle via slot epoch) s (fun t => t.dev.slotPwr k = { x with st := .off, gate := false, aux := false, cycleAt := some s.dev.now } ∧ s.told t .pl 0x013 (le 1 k) ∧
      (∀ v m, s.dev.memberOf k = some (v, m) → (s.dev.mem v m).st = .online → (t.dev.mem v m).st = .missing) ∧
      Dev.OnlyChanged (.shelf :: .fw :: .od :: workParts) answerFlds ([.LDG_MAP_SETS, .JOB_CKPT_WRITES] ++ workCtrs) s.dev t.dev)) ∧
      ((x.st ≠ .off ∧ x.st ≠ .locked) ∨ x.seated = false → Answers (.slotOn via slot epoch) s (fun t => t.dev.slotPwr k = x ∧ s.told t .pl 0x01E (le 1 k ++ le 8 (Reg.addr .SLOT_CMD k)) ∧ Dev.OnlyChanged [.fw, .od] answerFlds [] s.dev t.dev)) ∧
      (x.st ≠ .on → Answers (.slotCycle via slot epoch) s (fun t => t.dev.slotPwr k = x ∧ s.told t .pl 0x01E (le 1 k ++ le 8 (Reg.addr .SLOT_CMD k)) ∧ Dev.OnlyChanged [.fw, .od] answerFlds [] s.dev t.dev)) ∧
      (x.st ≠ .on → x.st ≠ .ramp → Answers (.slotOff via slot epoch) s (fun t => t.dev.slotPwr k = x ∧ s.told t .pl 0x01E (le 1 k ++ le 8 (Reg.addr .SLOT_CMD k)) ∧ Dev.OnlyChanged [.fw, .od] answerFlds [] s.dev t.dev))) ∧
  (∀ (s : State) (slot : Fin 24) (k epoch : Nat) (n : Fin 40), slot.val = k → s.dev.served = true ∧ s.dev.blockIsolated (Reg.addr .SLOT_CMD k) = false → n.val < 32 ∧ epoch < (s.dev.quoinSlot k).epoch →
      Answers (.slotOn (.reg (.cp n)) slot epoch) s (fun t => t.dev.shelf = s.dev.shelf ∧ s.told t .pl 0x01F (le 1 k ++ le 1 (n.val / 16) ++ le 4 epoch) ∧ Dev.OnlyChanged [.fw] [] [] s.dev t.dev) ∧
      Answers (.slotOff (.reg (.cp n)) slot epoch) s (fun t => t.dev.shelf = s.dev.shelf ∧ s.told t .pl 0x01F (le 1 k ++ le 1 (n.val / 16) ++ le 4 epoch) ∧ Dev.OnlyChanged [.fw] [] [] s.dev t.dev) ∧
      Answers (.slotCycle (.reg (.cp n)) slot epoch) s (fun t => t.dev.shelf = s.dev.shelf ∧ s.told t .pl 0x01F (le 1 k ++ le 1 (n.val / 16) ++ le 4 epoch) ∧ Dev.OnlyChanged [.fw] [] [] s.dev t.dev)) ∧
  (∀ (s : State) (slot : Fin 24) (k t0 : Nat) (x : SlotPwr), slot.val = k ∧ s.dev.slotPwr k = x → s.dev.slotLogic = true ∧ x.st = .off ∧ x.seated = true ∧ x.cycleAt = some t0 ∧ t0 + 1000000000 < s.dev.now →
      Answers (.cycleRamp slot) s (fun t => t.dev.slotPwr k = { x with st := .ramp, aux := true, auxAt := s.dev.now, gate := false, cycleAt := none, waitOver := false } ∧ Out.slotPower k false true ∈ t.dev.out ∧
      (∀ j, j ≠ k → t.dev.slotPwr j = s.dev.slotPwr j) ∧ Dev.OnlyChanged [.shelf] [] [] s.dev t.dev)) ∧
  (∀ (s : State) (via : Via) (value : Word), s.dev.commandMade via (Reg.addr .FEED_CFG) = true →
      ((bitOf value 0 && bitOf value 1) = false → Answers (.feedCfgWrite via value) s (fun t => t.dev.flag .FEED_CFG_A_DIS = bitOf value 0 ∧ t.dev.flag .FEED_CFG_B_DIS = bitOf value 1 ∧
      (bitOf value 0 = true → ∀ k, (t.dev.slotPwr k).diodeA = false) ∧ (bitOf value 1 = true → ∀ k, (t.dev.slotPwr k).diodeB = false) ∧
      Dev.OnlyChanged [.shelf, .fw, .od] (.FEED_CFG_A_DIS :: .FEED_CFG_B_DIS :: answerFlds) [] s.dev t.dev)) ∧
      ((bitOf value 0 && bitOf value 1) = true → Answers (.feedCfgWrite via value) s (fun t => t.dev.shelf = s.dev.shelf ∧ s.told t .pl 0x01E (le 8 (Reg.addr .FEED_CFG)) ∧ Dev.OnlyChanged [.fw, .od] answerFlds [] s.dev t.dev))) ∧
  (∀ (s : State) (via : Via) (slot : Fin 24) (point : Fin 8) (value : Word) (i : Nat), slot.val * 8 + point.val = i → s.dev.commandMade via (Reg.addr .SLOT_CURVE i) = true →
      (s.dev.curveValid slot.val point.val (bitsOf value 31 20) (bitsOf value 19 0) = true → Answers (.breakerCurveWrite via slot point value) s (fun t => t.dev.fld .SLOT_CURVE_CUR i = bitsOf value 31 20 ∧ t.dev.fld .SLOT_CURVE_TIME i = bitsOf value 19 0 ∧
      (∀ j, j ≠ i → t.dev.fld .SLOT_CURVE_CUR j = s.dev.fld .SLOT_CURVE_CUR j ∧ t.dev.fld .SLOT_CURVE_TIME j = s.dev.fld .SLOT_CURVE_TIME j) ∧ Dev.OnlyChanged [.fw, .od] (.SLOT_CURVE_CUR :: .SLOT_CURVE_TIME :: answerFlds) [] s.dev t.dev)) ∧
      (s.dev.curveValid slot.val point.val (bitsOf value 31 20) (bitsOf value 19 0) = false → Answers (.breakerCurveWrite via slot point value) s (fun t => s.told t .pl 0x01E (le 1 slot.val ++ le 8 (Reg.addr .SLOT_CURVE i)) ∧ Dev.OnlyChanged [.fw, .od] answerFlds [] s.dev t.dev))) ∧
  (∀ (s : State) (req : Requester) (slot : Fin 24) (k : Nat) (x : SlotPwr), slot.val = k ∧ s.dev.slotPwr k = x → s.dev.served = true ∧ s.dev.blockIsolated (Reg.addr .SLOT_HOLD_I k) = false ∧ s.dev.blockIsolated (Reg.addr .SLOT_HOLD_V k) = false →
      Answers (.slotHoldRead req slot true) s (fun t => Out.value req (BitVec.ofNat 32 (x.peakI * 65536 + x.minI)) ∈ t.dev.out ∧ t.dev.slotPwr k = { x with peakI := x.ma, minI := x.ma } ∧ (∀ j, j ≠ k → t.dev.slotPwr j = s.dev.slotPwr j) ∧ Dev.OnlyChanged [.shelf] [] [] s.dev t.dev) ∧
      Answers (.slotHoldRead req slot false) s (fun t => Out.value req (BitVec.ofNat 32 (x.peakV * 65536 + x.minV)) ∈ t.dev.out ∧ t.dev.slotPwr k = { x with peakV := x.mv, minV := x.mv } ∧ (∀ j, j ≠ k → t.dev.slotPwr j = s.dev.slotPwr j) ∧ Dev.OnlyChanged [.shelf] [] [] s.dev t.dev))

/-- A channel is programmed by its own requesters; any other write, a mismatched class and trigger, a shadow write while SH_FULL, and a doorbell it cannot take are refused with 3C3h. GO makes the shadow active where no transfer is, or arms it; a bad address, length or space halts the channel with 3C0h. A trigger releases a background channel's quantum, or counts an overrun. A completed transfer has put the source's bytes at the destination and left all other memory alone, advances CH_DONE, starts chained channels and signals; a memory error halts with 3C1h. Disabling a busy channel ends its transfer with 3C5h and an unspecified destination (12 R488-R504). -/
def Obligations.DmaChannels : Prop :=
  (∀ (s : State) (req : Requester) (ch : Fin 128) (value : Word) (n : Nat), ch.val = n → s.dev.commandMade (.reg req) (Reg.addr .CH_CTL n) = true ∧ chanAllows n req = true → s.dev.flag .CH_CTL_EN n = false →
      ((if bitOf value 30 then s.dev.fld .CH_TRIG_SEL n = 1 ∨ s.dev.fld .CH_TRIG_SEL n = 2 else s.dev.fld .CH_TRIG_SEL n = 0) → bitsOf value 29 28 ≠ 3 → Answers (.channelEnable req ch value) s (fun t => t.dev.flag .CH_CTL_EN n = true ∧
      t.dev.flag .CH_CTL_BG n = bitOf value 30 ∧ t.dev.fld .CH_CTL_CLASS n = bitsOf value 29 28 ∧ t.dev.flag .CH_CTL_NOSNOOP n = bitOf value 27 ∧ t.dev.flag .CH_CTL_IRQ n = bitOf value 26 ∧ t.dev.fld .CH_CTL_VEC n = bitsOf value 10 0 ∧
      t.dev.chan n = { s.dev.chan n with st := .idle, act := none, full := false, err := 0, entry := 0 } ∧ (∀ m, m ≠ n → t.dev.chan m = s.dev.chan m) ∧
      Dev.OnlyChanged [.dma, .fw] [.CH_CTL_EN, .CH_CTL_BG, .CH_CTL_CLASS, .CH_CTL_NOSNOOP, .CH_CTL_IRQ, .CH_CTL_VEC] [] s.dev t.dev)) ∧
      ((if bitOf value 30 then s.dev.fld .CH_TRIG_SEL n ≠ 1 ∧ s.dev.fld .CH_TRIG_SEL n ≠ 2 else s.dev.fld .CH_TRIG_SEL n ≠ 0) ∨ bitsOf value 29 28 = 3 → Answers (.channelEnable req ch value) s (fun t =>
      (s.hears (chanDie n) → s.told t (chanDie n) 0x3C3 (le 1 n ++ le 8 (Reg.addr .CH_CTL n))) ∧ Dev.OnlyChanged [.fw] [] [] s.dev t.dev)) ∧
      (bitsOf value 31 30 ≠ 3 → (bitsOf value 31 30 ≠ 2 ∨ bitsOf value 22 16 ≠ n) → s.dev.blockIsolated (Reg.addr .CH_TRIG n) = false → Answers (.chTrigWrite req ch value) s (fun t =>
      t.dev.fld .CH_TRIG_SEL n = bitsOf value 31 30 ∧ t.dev.fld .CH_TRIG_CHAIN n = bitsOf value 22 16 ∧ t.dev.fld .CH_TRIG_PERIOD n = max 1 (bitsOf value 15 0) ∧ Dev.OnlyChanged [.fw] [.CH_TRIG_SEL, .CH_TRIG_CHAIN, .CH_TRIG_PERIOD] [] s.dev t.dev)) ∧
      (bitsOf value 31 30 = 3 ∨ (bitsOf value 31 30 = 2 ∧ bitsOf value 22 16 = n) → s.dev.blockIsolated (Reg.addr .CH_TRIG n) = false → Answers (.chTrigWrite req ch value) s (fun t =>
      (s.hears (chanDie n) → s.told t (chanDie n) 0x3C3 (le 1 n ++ le 8 (Reg.addr .CH_TRIG n))) ∧ Dev.OnlyChanged [.fw] [] [] s.dev t.dev))) ∧
  (∀ (s : State) (req : Requester) (ch : Fin 128) (value : Word) (which : Fin 7) (n : Nat), ch.val = n → s.dev.served = true ∧ chanAllows n req = false →
      (s.dev.blockIsolated (Reg.addr .CH_CTL n) = false → Answers (.channelEnable req ch value) s (fun t => (s.hears (chanDie n) → s.told t (chanDie n) 0x3C3 (le 1 n ++ le 8 (Reg.addr .CH_CTL n))) ∧ Dev.OnlyChanged [.fw] [] [] s.dev t.dev)) ∧
      (s.dev.blockIsolated (Reg.addr .CH_CTL n) = false → Answers (.channelDisable req ch) s (fun t => (s.hears (chanDie n) → s.told t (chanDie n) 0x3C3 (le 1 n ++ le 8 (Reg.addr .CH_CTL n))) ∧ Dev.OnlyChanged [.fw] [] [] s.dev t.dev)) ∧
      (s.dev.blockIsolated (Reg.addr .CH_TRIG n) = false → Answers (.chTrigWrite req ch value) s (fun t => (s.hears (chanDie n) → s.told t (chanDie n) 0x3C3 (le 1 n ++ le 8 (Reg.addr .CH_TRIG n))) ∧ Dev.OnlyChanged [.fw] [] [] s.dev t.dev)) ∧
      (s.dev.blockIsolated (Reg.addr (shadowReg which.val) n) = false → Answers (.shadowWrite req ch which value) s (fun t => (s.hears (chanDie n) → s.told t (chanDie n) 0x3C3 (le 1 n ++ le 8 (Reg.addr (shadowReg which.val) n))) ∧ Dev.OnlyChanged [.fw] [] [] s.dev t.dev)) ∧
      (s.dev.blockIsolated (Reg.addr .CH_DOORBELL n) = false → Answers (.doorbellGo req ch) s (fun t => (s.hears (chanDie n) → s.told t (chanDie n) 0x3C3 (le 1 n ++ le 8 (Reg.addr .CH_DOORBELL n))) ∧ Dev.OnlyChanged [.fw] [] [] s.dev t.dev))) ∧
  (∀ (s : State) (req : Requester) (ch : Fin 128) (which : Fin 7) (value : Word) (n : Nat), ch.val = n → s.dev.commandMade (.reg req) (Reg.addr (shadowReg which.val) n) = true ∧ chanAllows n req = true →
      ((s.dev.chan n).full = false → Answers (.shadowWrite req ch which value) s (fun t => t.dev.dma = s.dev.dma ∧ (which.val = 0 → t.dev.fld .CH_SRC_LO_ADDR n = value.toNat) ∧ (which.val = 1 → t.dev.fld .CH_SRC_HI_ADDR n = value.toNat) ∧
      (which.val = 2 → t.dev.fld .CH_DST_LO_ADDR n = value.toNat) ∧ (which.val = 3 → t.dev.fld .CH_DST_HI_ADDR n = value.toNat) ∧ (which.val = 4 → t.dev.fld .CH_LEN_BYTES n = value.toNat) ∧
      (which.val = 5 → t.dev.flag .CH_MODE_SRC_SG n = bitOf value 31 ∧ t.dev.flag .CH_MODE_DST_SG n = bitOf value 30 ∧ t.dev.fld .CH_MODE_SRC_SPACE n = bitsOf value 27 24 ∧ t.dev.fld .CH_MODE_DST_SPACE n = bitsOf value 23 20) ∧
      (which.val = 6 → t.dev.fld .CH_NENT_SRC_N n = bitsOf value 31 16 ∧ t.dev.fld .CH_NENT_DST_N n = bitsOf value 15 0) ∧
      Dev.OnlyChanged [.fw] [.CH_SRC_LO_ADDR, .CH_SRC_HI_ADDR, .CH_DST_LO_ADDR, .CH_DST_HI_ADDR, .CH_LEN_BYTES, .CH_MODE_SRC_SG, .CH_MODE_DST_SG, .CH_MODE_SRC_SPACE, .CH_MODE_DST_SPACE, .CH_NENT_SRC_N, .CH_NENT_DST_N] [] s.dev t.dev)) ∧
      ((s.dev.chan n).full = true → Answers (.shadowWrite req ch which value) s (fun t => (s.hears (chanDie n) → s.told t (chanDie n) 0x3C3 (le 1 n ++ le 8 (Reg.addr (shadowReg which.val) n))) ∧ Dev.OnlyChanged [.fw] [] [] s.dev t.dev))) ∧
  (∀ (s : State) (req : Requester) (ch : Fin 128) (n : Nat) (x : Chan) (a : ChSet), ch.val = n ∧ s.dev.chan n = x → s.dev.commandMade (.reg req) (Reg.addr .CH_DOORBELL n) = true ∧ chanAllows n req = true → x.st ∈ [ChSt.idle, .running, .waiting] ∧ x.full = false ∧ x.act = none → a.src = s.dev.fld .CH_SRC_HI_ADDR n * 2 ^ 32 + s.dev.fld .CH_SRC_LO_ADDR n ∧ a.dst = s.dev.fld .CH_DST_HI_ADDR n * 2 ^ 32 + s.dev.fld .CH_DST_LO_ADDR n ∧ a.len = s.dev.fld .CH_LEN_BYTES n → a.srcSg = s.dev.flag .CH_MODE_SRC_SG n ∧ a.dstSg = s.dev.flag .CH_MODE_DST_SG n ∧ a.srcSpace = s.dev.fld .CH_MODE_SRC_SPACE n ∧ a.dstSpace = s.dev.fld .CH_MODE_DST_SPACE n → a.srcN = s.dev.fld .CH_NENT_SRC_N n ∧ a.dstN = s.dev.fld .CH_NENT_DST_N n ∧ a.srcSg = false ∧ a.dstSg = false →
      (s.dev.chanStartError n false a.srcSpace a.src a.len = none → s.dev.chanStartError n true a.dstSpace a.dst a.len = none → Answers (.doorbellGo req ch) s (fun t =>
      t.dev.chan n = { x with act := some a, full := false, remain := a.len, quantum := 0, srcList := [], dstList := [], srcAt := s.dev.chanAt false a.srcSpace a.src, dstAt := s.dev.chanAt true a.dstSpace a.dst, st := if s.dev.flag .CH_CTL_BG n then .waiting else .running, err := 0 } ∧ (∀ m, m ≠ n → t.dev.chan m = s.dev.chan m) ∧
      t.dev.dma.hbm = s.dev.dma.hbm ∧ Dev.OnlyChanged [.dma, .fw] [] [] s.dev t.dev)) ∧
      (∀ e, s.dev.chanStartError n false a.srcSpace a.src a.len = some e → Answers (.doorbellGo req ch) s (fun t => (t.dev.chan n).st = .halted ∧ (t.dev.chan n).err = e ∧ t.dev.ctr .DMA_HALTS = (s.dev.ctr .DMA_HALTS + 1) % 2 ^ 64 ∧
      (s.hears (chanDie n) → s.told t (chanDie n) 0x3C0 (le 1 n ++ le 1 e ++ le 2 0 ++ le 8 (if e = 2 then a.len else a.src))) ∧ Dev.OnlyChanged [.dma, .fw] [] [.DMA_HALTS] s.dev t.dev))) ∧
  (∀ (s : State) (req : Requester) (ch : Fin 128) (n : Nat) (x : Chan), ch.val = n ∧ s.dev.chan n = x → s.dev.commandMade (.reg req) (Reg.addr .CH_DOORBELL n) = true ∧ chanAllows n req = true →
      (x.st ∈ [ChSt.idle, .running, .waiting] → x.full = false → x.act.isSome = true → Answers (.doorbellGo req ch) s (fun t => t.dev.chan n = { x with full := true } ∧ (∀ m, m ≠ n → t.dev.chan m = s.dev.chan m) ∧ Dev.OnlyChanged [.dma, .fw] [] [] s.dev t.dev)) ∧
      (x.st ∉ [ChSt.idle, .running, .waiting] ∨ x.full = true → Answers (.doorbellGo req ch) s (fun t => t.dev.dma = s.dev.dma ∧ (s.hears (chanDie n) → s.told t (chanDie n) 0x3C3 (le 1 n ++ le 8 (Reg.addr .CH_DOORBELL n))) ∧ Dev.OnlyChanged [.fw] [] [] s.dev t.dev))) ∧
  (∀ (s : State) (ch : Fin 128) (n : Nat) (x : Chan), ch.val = n ∧ s.dev.chan n = x → s.dev.flag .CH_CTL_EN n = true ∧ s.dev.fld .CH_TRIG_SEL n = 1 ∧ s.dev.isolated (chanRegion n) = false ∧ s.dev.nowOn (chanDie n) % (s.dev.fld .CH_TRIG_PERIOD n * 1000) = 0 →
      (x.st = .waiting → x.act.isSome = true → Answers (.timerTrigger ch) s (fun t => t.dev.chan n = { x with st := .running, quantum := if s.dev.fld .CH_QUANTUM_UNITS n = 0 ∨ x.remain < s.dev.fld .CH_QUANTUM_UNITS n * 64 then x.remain else s.dev.fld .CH_QUANTUM_UNITS n * 64 } ∧
      (∀ m, m ≠ n → t.dev.chan m = s.dev.chan m) ∧ Dev.OnlyChanged [.dma] [] [] s.dev t.dev)) ∧
      (x.st = .running → 0 < x.quantum → Answers (.timerTrigger ch) s (fun t => t.dev.dma = s.dev.dma ∧ t.dev.ctr .DMA_TRIG_OVERRUN = (s.dev.ctr .DMA_TRIG_OVERRUN + 1) % 2 ^ 64 ∧ t.dev.mark (markOverrun n) = s.dev.mark (markOverrun n) + 1 ∧
      Dev.OnlyChanged [.marks] [] [.DMA_TRIG_OVERRUN] s.dev t.dev))) ∧
  (∀ (s : State) (ch : Fin 128) (n : Nat) (x : Chan), ch.val = n ∧ s.dev.chan n = x → x.st = .running ∧ 0 < x.quantum ∧ x.quantum < x.remain ∧ s.dev.isolated (chanRegion n) = false ∧ x.act.all (s.dev.actReaches n) = true →
      Answers (.quantumEnd ch) s (fun t => t.dev.chan n = { x with st := .waiting, remain := x.remain - x.quantum, quantum := 0 } ∧ t.dev.ctr .DMA_BYTES_MOVED = (s.dev.ctr .DMA_BYTES_MOVED + x.quantum) % 2 ^ 64 ∧
      (∀ m, m ≠ n → t.dev.chan m = s.dev.chan m) ∧ Dev.OnlyChanged [.dma] [] [.DMA_BYTES_MOVED] s.dev t.dev)) ∧
  (∀ (s : State) (ch : Fin 128) (addr : BitVec 64) (len : Word) (n sum m : Nat) (x : Chan) (a : ChSet), ch.val = n ∧ s.dev.chan n = x → x.st = .running ∧ s.dev.isolated (chanRegion n) = false ∧ x.act = some a → s.dev.chanReaches n a.srcSpace = true ∧ s.dev.chanMoved n = m → a.srcSg = true ∧ (x.srcList.map Prod.snd).sum = sum ∧ sum < a.len ∧ x.srcList.length < a.srcN →
      (s.dev.chanStartError n false a.srcSpace addr.toNat len.toNat = none → sum + len.toNat ≤ a.len → (x.srcList.length + 1 = a.srcN → a.len ≤ sum + len.toNat) → Answers (.listEntryFetch ch false addr len) s (fun t =>
      t.dev.chan n = { x with srcList := x.srcList ++ [(addr.toNat, len.toNat)], srcAt := x.srcAt ++ s.dev.chanAt false a.srcSpace addr.toNat } ∧ (∀ m, m ≠ n → t.dev.chan m = s.dev.chan m) ∧ Dev.OnlyChanged [.dma] [] [] s.dev t.dev)) ∧
      (s.dev.chanStartError n false a.srcSpace addr.toNat len.toNat = none → (a.len < sum + len.toNat ∨ (x.srcList.length + 1 = a.srcN ∧ sum + len.toNat < a.len)) → Answers (.listEntryFetch ch false addr len) s (fun t =>
      t.dev.chan n = { x with st := .halted, err := 3, entry := x.srcList.length, errAddr := addr.toNat, remain := (t.dev.chan n).remain } ∧ (∀ k, k ≠ n → t.dev.chan k = s.dev.chan k) ∧
      (a.srcSpace < 2 → a.dstSpace < 2 → (t.dev.chan n).remain = min x.remain (a.len - m) ∧ t.dev.ctr .DMA_BYTES_MOVED = (s.dev.ctr .DMA_BYTES_MOVED + (x.remain - min x.remain (a.len - m))) % 2 ^ 64 ∧
      (a.dstSg = false → (∀ i, i < m → t.dev.dma.hbm.get 0 (a.dstSpace * 2 ^ 40 + a.dst + i) = s.dev.dma.hbm.get 0 (chanByteAt a.srcSpace x.srcList i)) ∧
      (∀ k, k < a.dstSpace * 2 ^ 40 + a.dst ∨ a.dstSpace * 2 ^ 40 + a.dst + m ≤ k → t.dev.dma.hbm.get 0 k = s.dev.dma.hbm.get 0 k))) ∧ (s.hears (chanDie n) → s.told t (chanDie n) 0x3C0 (le 1 n ++ le 1 3 ++ le 2 x.srcList.length ++ le 8 addr.toNat)) ∧
      Dev.OnlyChanged [.dma, .fresh, .ldg] [] [.DMA_HALTS, .DMA_BYTES_MOVED] s.dev t.dev)) ∧
      (∀ e, s.dev.chanStartError n false a.srcSpace addr.toNat len.toNat = some e → Answers (.listEntryFetch ch false addr len) s (fun t =>
      t.dev.chan n = { x with st := .halted, err := e, entry := x.srcList.length, errAddr := addr.toNat, remain := (t.dev.chan n).remain } ∧ (∀ k, k ≠ n → t.dev.chan k = s.dev.chan k) ∧
      (a.srcSpace < 2 → a.dstSpace < 2 → (t.dev.chan n).remain = min x.remain (a.len - m) ∧ t.dev.ctr .DMA_BYTES_MOVED = (s.dev.ctr .DMA_BYTES_MOVED + (x.remain - min x.remain (a.len - m))) % 2 ^ 64 ∧
      (a.dstSg = false → (∀ i, i < m → t.dev.dma.hbm.get 0 (a.dstSpace * 2 ^ 40 + a.dst + i) = s.dev.dma.hbm.get 0 (chanByteAt a.srcSpace x.srcList i)) ∧
      (∀ k, k < a.dstSpace * 2 ^ 40 + a.dst ∨ a.dstSpace * 2 ^ 40 + a.dst + m ≤ k → t.dev.dma.hbm.get 0 k = s.dev.dma.hbm.get 0 k))) ∧ (s.hears (chanDie n) → s.told t (chanDie n) 0x3C0 (le 1 n ++ le 1 e ++ le 2 x.srcList.length ++ le 8 addr.toNat)) ∧
      Dev.OnlyChanged [.dma, .fresh, .ldg] [] [.DMA_HALTS, .DMA_BYTES_MOVED] s.dev t.dev))) ∧
  (∀ (s : State) (ch : Fin 128) (errAddr : BitVec 64) (data : List Byte) (n : Nat) (x : Chan) (a : ChSet), ch.val = n ∧ s.dev.chan n = x → x.st = .running ∧ s.dev.isolated (chanRegion n) = false ∧ x.act = some a ∧ (x.quantum = 0 ∨ x.remain ≤ x.quantum) ∧ x.full = false → a.srcSg = false ∧ a.dstSg = false ∧ a.srcSpace < 2 ∧ a.dstSpace < 2 ∧ s.dev.actReaches n a = true →
      Answers (.transferComplete ch true errAddr data) s (fun t => t.dev.chan n = { x with act := none, remain := 0, quantum := 0, done := (x.done + 1) % 2 ^ 32, st := .idle, srcList := [], dstList := [], srcAt := [], dstAt := [] } ∧
      (∀ i, i < a.len → t.dev.dma.hbm.get 0 (a.dstSpace * 2 ^ 40 + a.dst + i) = s.dev.dma.hbm.get 0 (a.srcSpace * 2 ^ 40 + a.src + i)) ∧
      (∀ k, k < a.dstSpace * 2 ^ 40 + a.dst ∨ a.dstSpace * 2 ^ 40 + a.dst + a.len ≤ k → t.dev.dma.hbm.get 0 k = s.dev.dma.hbm.get 0 k) ∧
      t.dev.ctr .DMA_BYTES_MOVED = (s.dev.ctr .DMA_BYTES_MOVED + x.remain) % 2 ^ 64 ∧ t.dev.ctr .DMA_XFERS_DONE = (s.dev.ctr .DMA_XFERS_DONE + 1) % 2 ^ 64 ∧
      (∀ m, m ≠ n → m < 128 → s.dev.flag .CH_CTL_EN m = true → s.dev.fld .CH_TRIG_SEL m = 2 → s.dev.fld .CH_TRIG_CHAIN m = n → (s.dev.chan m).st = .waiting → (s.dev.chan m).act.isSome = true → (t.dev.chan m).st = .running) ∧
      (∀ m, m ≠ n → s.dev.fld .CH_TRIG_CHAIN m ≠ n → t.dev.chan m = s.dev.chan m) ∧ (s.dev.flag .CH_CTL_IRQ n = true → n < 112 → Out.channelIrq n ∈ t.dev.out) ∧
      Dev.OnlyChanged [.dma, .ep, .marks] [] [.DMA_BYTES_MOVED, .DMA_XFERS_DONE, .DMA_TRIG_OVERRUN, .EP_MSIX_SENT] s.dev t.dev) ∧
      Answers (.transferComplete ch false errAddr data) s (fun t => t.dev.chan n = { x with st := .halted, err := 5, entry := x.srcList.length - 1, errAddr := errAddr.toNat } ∧ (∀ k, k < a.dstSpace * 2 ^ 40 + a.dst ∨ a.dstSpace * 2 ^ 40 + a.dst + a.len ≤ k → t.dev.dma.hbm.get 0 k = s.dev.dma.hbm.get 0 k) ∧
      (s.hears (chanDie n) → s.told t (chanDie n) 0x3C1 (le 1 n ++ le 8 errAddr.toNat)) ∧ Dev.OnlyChanged [.dma, .fresh] [] [.DMA_HALTS] s.dev t.dev)) ∧
  (∀ (s : State) (req : Requester) (ch : Fin 128) (n : Nat) (x : Chan), ch.val = n ∧ s.dev.chan n = x → s.dev.commandMade (.reg req) (Reg.addr .CH_CTL n) = true ∧ chanAllows n req = true →
      (x.st ≠ .running → x.st ≠ .waiting → Answers (.channelDisable req ch) s (fun t => t.dev.flag .CH_CTL_EN n = false ∧ t.dev.chan n = { x with st := .off, act := none, full := false, quantum := 0, srcList := [], dstList := [], srcAt := [], dstAt := [] } ∧
      t.dev.dma.hbm = s.dev.dma.hbm ∧ (∀ m, m ≠ n → t.dev.chan m = s.dev.chan m) ∧ Dev.OnlyChanged [.dma, .fw] [.CH_CTL_EN] [] s.dev t.dev)) ∧
      (∀ a ∈ x.act.toList, x.st = .running ∨ x.st = .waiting → Answers (.channelDisable req ch) s (fun t => t.dev.flag .CH_CTL_EN n = false ∧ t.dev.chan n = { x with st := .off, act := none, full := false, quantum := 0, remain := (t.dev.chan n).remain, srcList := [], dstList := [], srcAt := [], dstAt := [] } ∧
      (a.dstSg = false → a.dstSpace < 2 → ∀ k, k < a.dstSpace * 2 ^ 40 + a.dst ∨ a.dstSpace * 2 ^ 40 + a.dst + a.len ≤ k → t.dev.dma.hbm.get 0 k = s.dev.dma.hbm.get 0 k) ∧
      (a.dstSpace = 2 ∨ a.dstSpace = 3 → t.dev.dma.hbm = s.dev.dma.hbm) ∧ t.dev.ctr .DMA_DISABLES = (s.dev.ctr .DMA_DISABLES + 1) % 2 ^ 64 ∧
      (s.hears (chanDie n) → s.told t (chanDie n) 0x3C5 (le 1 n)) ∧ Dev.OnlyChanged [.dma, .fw, .fresh] [.CH_CTL_EN] [.DMA_DISABLES, .DMA_BYTES_MOVED] s.dev t.dev)))

/-- When the link trains the Subsystem ID and the division of the vectors are latched and 3E0h or 3E1h is recorded; when it goes down both functions are reset and every VF is gone. VF Enable without ARI is refused with 3E4h, otherwise it sets NumVFs (at most 64) or takes every VF away. A function reset cancels the function's commands and returns its state to reset values; PF1's also aborts its channels and ends its session, rings and export; when it completes it is counted, with 3E2h. Clearing Bus Master Enable discards completions, cancels commands or aborts channels, with 3E3h where requests were outstanding; setting it, or unmasking, sends what waits. A completion timeout fails its issuer; a received error is counted and recorded with 3E7h (13 R509-R542). -/
def Obligations.EndpointLinkAndFunctions : Prop :=
  (∀ (s : State) (rate : Fin 7) (width : Fin 17) (flit : Bool), s.dev.epUp = true ∧ s.dev.ep.up = false → rate.val ≠ 0 ∧ width.val ≠ 0 →
      Answers (.endpointLinkUp rate width flit) s (fun t => t.dev.ep = { s.dev.ep with up := true, flit := flit, rate := rate.val, width := width.val, ssid := s.dev.fld .EP_CFG_SSID, pf0Vec := s.dev.fld .EP_VEC_PF0_VEC, vfVec := s.dev.fld .EP_VEC_VF_VEC } ∧
      t.dev.ctrl 959 = some ((s.dev.ctrl 959).getD { kind := .pcie }) ∧ (∀ k, k ≠ 959 → t.dev.ctrl k = s.dev.ctrl k) ∧ t.dev.nvme.cmds = s.dev.nvme.cmds ∧
      (s.hears .ln → s.told t .ln (if rate.val = 6 ∧ width.val = 16 then 0x3E0 else 0x3E1) (le 1 rate.val ++ le 1 width.val)) ∧ Dev.OnlyChanged [.ep, .nvme] [] [] s.dev t.dev)) ∧
  (∀ (s : State) (why : LinkEnd), s.dev.epUp = true →
      Answers (.endpointReset why) s (fun t => t.dev.ep.up = false ∧ t.dev.ep.flit = false ∧ t.dev.ep.rate = 0 ∧ t.dev.ep.width = 0 ∧ t.dev.ep.vfEnable = false ∧ t.dev.ep.msix = [] ∧
      t.dev.epFn 0 = { flr := true } ∧ t.dev.epFn 1 = { flr := true } ∧ t.dev.ctrl 959 = some { kind := .pcie } ∧
      (∀ v, v < 64 → t.dev.epFn (v + 2) = {} ∧ (t.dev.ctrl (960 + v)).isNone = true) ∧ (∀ k, k < 959 ∨ 1023 < k → (t.dev.ctrl k).isSome = (s.dev.ctrl k).isSome) ∧
      (∀ j, ((t.dev.cmd j).all (fun x => (s.dev.ctrl x.ctrl).isNone || decide (x.ctrl < 959) || decide (1023 < x.ctrl) || x.completed || x.cancelled)) = true) ∧
      t.dev.session 0x100 = {} ∧ (∀ n, n ≠ 0x100 → t.dev.session n = s.dev.session n) ∧ t.dev.fld .OFL_CTL_EN = 0 ∧ t.dev.fld .MTR_EXP_CTL_EN = 0 ∧ t.dev.fld .EP_CFG_PRIV = 0 ∧ t.dev.fld .MG_CTL_GO = 0 ∧
      (∀ k, k < 3 → t.dev.fld .EP_IRQ_SRC_EN k = 0 ∧ t.dev.fld .EP_IRQ_SRC_VEC k = 0) ∧ ((∀ n, 96 ≤ n → n < 128 → ((s.dev.chan n).act.all (fun a => a.dstSpace == 2 || a.dstSpace == 3)) = true) → t.dev.dma.hbm = s.dev.dma.hbm) ∧ (∀ n, n < 96 → t.dev.chan n = s.dev.chan n) ∧
      (∀ n, 112 ≤ n → n < 128 → (s.dev.chan n).st = .running ∨ (s.dev.chan n).st = .waiting → t.dev.chan n = { s.dev.chan n with st := .aborted, act := none, full := false, err := 6, quantum := 0, srcList := [], dstList := [], srcAt := [], dstAt := [] }) ∧
      (s.dev.ep.up = true → s.dev.reachesPlinth .ln = true → (s.evq.get .ln).length + 40 ≤ eventQueueDepth → s.told t .ln 0x3E1 (le 1 0 ++ le 1 0)) ∧
      Dev.OnlyChanged [.ep, .nvme, .ldg, .ten, .evr, .dma, .fresh, .fw, .od] [.OFL_CTL_EN, .MTR_EXP_CTL_EN, .EP_IRQ_SRC_EN, .EP_IRQ_SRC_VEC, .EP_CFG_PRIV, .MG_CTL_GO] [.FE_CMD_CANCELLED, .LDG_REC_ABANDONED, .DMA_ABORTS] s.dev t.dev)) ∧
  (∀ (s : State) (ch : Fin 128) (addr : BitVec 64) (n : Nat) (x : Chan), s.dev.epUp = true ∧ s.dev.ep.up = true → ch.val = n ∧ 96 ≤ n ∧ s.dev.chan n = x ∧ x.st = .running ∧ s.dev.chanUsesHost n = true →
      Answers (.completionTimeout (.channel ch addr)) s (fun t => t.dev.chan n = { x with st := .halted, err := 5, entry := x.srcList.length - 1, errAddr := addr.toNat } ∧ (∀ m, m ≠ n → t.dev.chan m = s.dev.chan m) ∧ (x.act.all (fun a => a.dstSpace == 2 || a.dstSpace == 3) = true → t.dev.dma.hbm = s.dev.dma.hbm) ∧
      t.dev.ctr .EP_CPL_TIMEOUT = (s.dev.ctr .EP_CPL_TIMEOUT + 1) % 2 ^ 64 ∧ t.dev.ctr .DMA_HALTS = (s.dev.ctr .DMA_HALTS + 1) % 2 ^ 64 ∧ (s.hears .ln → s.told t .ln 0x3C1 (le 1 n ++ le 8 addr.toNat)) ∧
      Dev.OnlyChanged [.dma, .fresh] [] [.EP_CPL_TIMEOUT, .DMA_HALTS] s.dev t.dev)) ∧
  (∀ (s : State) (id : Nat) (c : Cmd) (fn : Fin 65) (q : Nat) (aer : Word) (src : Fin 66), s.dev.epUp = true ∧ s.dev.ep.up = true → s.dev.cmd id = some c ∧ c.src = .pcie fn q → c.completed = false ∧ c.cancelled = false ∧ c.status = none →
      Answers (.completionTimeout (.data id)) s (fun t => t.dev.cmd id = some { c with status := some 0x004, staging := 0 } ∧ (∀ j, j ≠ id → t.dev.cmd j = s.dev.cmd j) ∧ t.dev.nvme.ctrls = s.dev.nvme.ctrls ∧
      t.dev.ctr .EP_CPL_TIMEOUT = (s.dev.ctr .EP_CPL_TIMEOUT + 1) % 2 ^ 64 ∧ Dev.OnlyChanged [.nvme, .ldg] [] [.EP_CPL_TIMEOUT] s.dev t.dev) ∧
      Answers (.receivedTlpError src (.poisonedData aer id)) s (fun t => t.dev.cmd id = some { c with status := some 0x004, staging := 0 } ∧ (∀ j, j ≠ id → t.dev.cmd j = s.dev.cmd j) ∧
      t.dev.ctr .EP_POISONED = (s.dev.ctr .EP_POISONED + 1) % 2 ^ 64 ∧ t.dev.ctr .EP_UNCORR_ERR = (s.dev.ctr .EP_UNCORR_ERR + 1) % 2 ^ 64 ∧ (s.hears .ln → s.told t .ln 0x3E7 (le 1 src.val ++ le 4 aer.toNat)) ∧
      Dev.OnlyChanged [.nvme, .ldg] [] [.EP_UNCORR_ERR, .EP_POISONED] s.dev t.dev)) ∧
  (∀ (s : State) (fn : Fin 65) (c : Ctrl), s.dev.epUp = true ∧ s.dev.ep.up = true → s.dev.ctrl (959 + fn.val) = some c →
      Answers (.completionTimeout (.fetch fn)) s (fun t => t.dev.ctrl (959 + fn.val) = some { c with cfs := true } ∧ (∀ k, k ≠ 959 + fn.val → t.dev.ctrl k = s.dev.ctrl k) ∧ t.dev.nvme.cmds = s.dev.nvme.cmds ∧
      t.dev.ctr .EP_CPL_TIMEOUT = (s.dev.ctr .EP_CPL_TIMEOUT + 1) % 2 ^ 64 ∧ Dev.OnlyChanged [.nvme] [] [.EP_CPL_TIMEOUT] s.dev t.dev)) ∧
  (∀ (s : State) (numVfs : Word) (on : Bool), s.dev.epUp = true ∧ s.dev.ep.up = true ∧ (s.dev.epFn 0).flr = false →
      Answers (.vfEnable on false numVfs) s (fun t => t.dev.ep = s.dev.ep ∧ (s.hears .ln → s.told t .ln 0x3E4 (le 8 0x158)) ∧ Dev.OnlyChanged [] [] [] s.dev t.dev) ∧
      (s.dev.ep.vfEnable = false → Answers (.vfEnable true true numVfs) s (fun t => t.dev.ep = { s.dev.ep with vfEnable := true, numVfs := min 64 numVfs.toNat } ∧ Dev.OnlyChanged [.ep] [] [] s.dev t.dev)) ∧
      (s.dev.ep.vfEnable = true → Answers (.vfEnable true true numVfs) s (fun t => Dev.OnlyChanged [] [] [] s.dev t.dev)) ∧
      Answers (.vfEnable false true numVfs) s (fun t => t.dev.ep.vfEnable = false ∧ t.dev.ep.up = true ∧ (∀ v, v < 64 → t.dev.epFn (v + 2) = {} ∧ (t.dev.ctrl (960 + v)).isNone = true) ∧ t.dev.epFn 0 = s.dev.epFn 0 ∧ t.dev.epFn 1 = s.dev.epFn 1 ∧
      (∀ k, k < 960 ∨ 1023 < k → (t.dev.ctrl k).isSome = (s.dev.ctrl k).isSome) ∧ Dev.OnlyChanged [.ep, .nvme, .ldg, .ten, .evr] [] [.FE_CMD_CANCELLED, .LDG_REC_ABANDONED] s.dev t.dev)) ∧
  (∀ (s : State) (vf : Fin 65) (v : Nat), s.dev.epUp = true ∧ s.dev.ep.up = true ∧ s.dev.ep.vfEnable = true → vf.val = v ∧ 1 ≤ v ∧ v ≤ s.dev.ep.numVfs → (s.dev.epFn (v + 1)).ready = false →
      Answers (.vfReady vf) s (fun t => t.dev.epFn (v + 1) = { s.dev.epFn (v + 1) with ready := true } ∧ (∀ f, f ≠ v + 1 → t.dev.epFn f = s.dev.epFn f) ∧ t.dev.ctrl (959 + v) = some { kind := .pcie } ∧ (∀ k, k ≠ 959 + v → t.dev.ctrl k = s.dev.ctrl k) ∧
      Dev.OnlyChanged [.ep, .nvme] [] [] s.dev t.dev)) ∧
  (∀ (s : State) (fn : Fin 66) (outstanding discarded : Nat), s.dev.epUp = true ∧ s.dev.ep.up = true ∧ (s.dev.epFn fn.val).busMaster = true →
      Answers (.busMasterDisable fn outstanding discarded) s (fun t => t.dev.epFn fn.val = { s.dev.epFn fn.val with busMaster := false } ∧ (∀ f, f ≠ fn.val → t.dev.epFn f = s.dev.epFn f) ∧
      t.dev.ctr .EP_CPL_DISCARD = (s.dev.ctr .EP_CPL_DISCARD + discarded) % 2 ^ 64 ∧ (0 < outstanding → s.hears .ln → s.told t .ln 0x3E3 (le 1 fn.val ++ leCount outstanding)) ∧
      (fn.val ≠ 1 → ∀ k, k = (if fn.val = 0 then 959 else 958 + fn.val) → t.dev.dma = s.dev.dma ∧ ((t.dev.ctrl k).all (fun c => c.cfs)) = true ∧ (t.dev.ctrl k).isSome = (s.dev.ctrl k).isSome ∧
      (∀ j, ((t.dev.cmd j).all (fun x => x.ctrl != k || x.completed || x.cancelled)) = true)) ∧
      (fn.val = 1 → t.dev.nvme = s.dev.nvme ∧ ((∀ n, 96 ≤ n → n < 128 → ((s.dev.chan n).act.all (fun a => a.dstSpace == 2 || a.dstSpace == 3)) = true) → t.dev.dma.hbm = s.dev.dma.hbm) ∧ (∀ n, n < 96 → t.dev.chan n = s.dev.chan n) ∧
      (∀ n, 112 ≤ n → n < 128 → (s.dev.chan n).st = .running ∨ (s.dev.chan n).st = .waiting → (t.dev.chan n).st = .aborted)) ∧
      Dev.OnlyChanged [.ep, .nvme, .ldg, .ten, .evr, .dma, .fresh] [] [.EP_CPL_DISCARD, .FE_CMD_CANCELLED, .LDG_REC_ABANDONED, .DMA_ABORTS] s.dev t.dev)) ∧
  (∀ (s : State) (fn : Fin 66) (unmasked us : List Nat), s.dev.epUp = true ∧ s.dev.ep.up = true ∧ s.dev.epFnHere fn.val = true → us = (if fn.val = 1 then (s.dev.epFn 1).unmasked else unmasked) →
      Answers (.busMasterEnable fn unmasked) s (fun t => (t.dev.epFn fn.val).busMaster = true ∧ (t.dev.epFn fn.val).unmasked = us ∧ (∀ v, v ∈ (s.dev.epFn fn.val).waiting → v ∈ us → Out.msix fn.val v ∈ t.dev.out) ∧
      (∀ v, v ∈ (t.dev.epFn fn.val).waiting ↔ v ∈ (s.dev.epFn fn.val).waiting ∧ v ∉ us) ∧ (∀ f, f ≠ fn.val → t.dev.epFn f = s.dev.epFn f) ∧ Dev.OnlyChanged [.ep] [] [.EP_MSIX_SENT] s.dev t.dev)) ∧
  (∀ (s : State) (fn : Fin 66) (vec f : Nat) (x : EpFn), s.dev.epUp = true ∧ fn.val = f ∧ s.dev.epFn f = x ∧ s.dev.epFnHere f = true ∧ (f ≠ 1 ∨ vec < 64) → x.unmasked.contains vec = false →
      Answers (.msixUnmask fn vec) s (fun t => (t.dev.epFn f).unmasked = x.unmasked ++ [vec] ∧ (∀ v, v ∈ (t.dev.epFn f).waiting ↔ v ∈ x.waiting ∧ (v = vec → x.busMaster = false)) ∧
      (vec ∈ x.waiting → x.busMaster = true → Out.msix f vec ∈ t.dev.out ∧ t.dev.ctr .EP_MSIX_SENT = (s.dev.ctr .EP_MSIX_SENT + 1) % 2 ^ 64) ∧ (∀ g, g ≠ f → t.dev.epFn g = s.dev.epFn g) ∧
      Dev.OnlyChanged [.ep] [] [.EP_MSIX_SENT] s.dev t.dev)) ∧
  (∀ (s : State) (discarded : Nat), s.dev.epUp = true ∧ s.dev.ep.up = true →
      Answers (.flrPf0 discarded) s (fun t => t.dev.epFn 0 = { flr := true } ∧ t.dev.epFn 1 = s.dev.epFn 1 ∧ t.dev.ctrl 959 = some { kind := .pcie } ∧ t.dev.ep.vfEnable = false ∧ t.dev.ep.up = true ∧
      (∀ v, v < 64 → t.dev.epFn (v + 2) = {} ∧ (t.dev.ctrl (960 + v)).isNone = true) ∧ (∀ k, k < 959 ∨ 1023 < k → (t.dev.ctrl k).isSome = (s.dev.ctrl k).isSome) ∧
      (∀ j, ((t.dev.cmd j).all (fun x => (s.dev.ctrl x.ctrl).isNone || decide (x.ctrl < 959) || decide (1023 < x.ctrl) || x.completed || x.cancelled)) = true) ∧ t.dev.ctr .EP_CPL_DISCARD = (s.dev.ctr .EP_CPL_DISCARD + discarded) % 2 ^ 64 ∧
      Dev.OnlyChanged [.ep, .nvme, .ldg, .ten, .evr] [] [.EP_CPL_DISCARD, .FE_CMD_CANCELLED, .LDG_REC_ABANDONED] s.dev t.dev) ∧
      Answers (.flrPf1 discarded) s (fun t => t.dev.epFn 1 = { flr := true } ∧ (∀ f, f ≠ 1 → t.dev.epFn f = s.dev.epFn f) ∧ t.dev.ep.up = true ∧ t.dev.ep.msix = [] ∧ t.dev.nvme = s.dev.nvme ∧ t.dev.session 0x100 = {} ∧
      (∀ n, n ≠ 0x100 → t.dev.session n = s.dev.session n) ∧ t.dev.fld .OFL_CTL_EN = 0 ∧ t.dev.fld .MTR_EXP_CTL_EN = 0 ∧ t.dev.fld .EP_CFG_PRIV = 0 ∧ t.dev.fld .MG_CTL_GO = 0 ∧
      (∀ n, 112 ≤ n → n < 128 → (s.dev.chan n).st = .running ∨ (s.dev.chan n).st = .waiting → (t.dev.chan n).st = .aborted) ∧ (∀ n, n < 96 → t.dev.chan n = s.dev.chan n) ∧ ((∀ n, 96 ≤ n → n < 128 → ((s.dev.chan n).act.all (fun a => a.dstSpace == 2 || a.dstSpace == 3)) = true) → t.dev.dma.hbm = s.dev.dma.hbm) ∧
      t.dev.ctr .EP_CPL_DISCARD = (s.dev.ctr .EP_CPL_DISCARD + discarded) % 2 ^ 64 ∧
      Dev.OnlyChanged [.ep, .dma, .fresh, .fw, .od] [.OFL_CTL_EN, .MTR_EXP_CTL_EN, .EP_IRQ_SRC_EN, .EP_IRQ_SRC_VEC, .EP_CFG_PRIV, .MG_CTL_GO] [.EP_CPL_DISCARD, .DMA_ABORTS] s.dev t.dev)) ∧
  (∀ (s : State) (vf : Fin 65) (v discarded : Nat), vf.val = v ∧ v ≠ 0 ∧ s.dev.nvmeFnUp v = true →
      Answers (.flrVf vf discarded) s (fun t => t.dev.epFn (v + 1) = { flr := true, ready := true } ∧ (∀ f, f ≠ v + 1 → t.dev.epFn f = s.dev.epFn f) ∧ t.dev.ctrl (959 + v) = some { kind := .pcie } ∧
      (∀ k, k ≠ 959 + v → (t.dev.ctrl k).isSome = (s.dev.ctrl k).isSome) ∧ (∀ j, ((t.dev.cmd j).all (fun x => x.ctrl != 959 + v || x.completed || x.cancelled)) = true) ∧
      t.dev.ctr .EP_CPL_DISCARD = (s.dev.ctr .EP_CPL_DISCARD + discarded) % 2 ^ 64 ∧ Dev.OnlyChanged [.ep, .nvme, .ldg, .ten, .evr] [] [.EP_CPL_DISCARD, .FE_CMD_CANCELLED, .LDG_REC_ABANDONED] s.dev t.dev)) ∧
  (∀ (s : State) (fn : Fin 66), s.dev.epUp = true ∧ (s.dev.epFn fn.val).flr = true →
      Answers (.flrComplete fn) s (fun t => t.dev.epFn fn.val = { s.dev.epFn fn.val with flr := false } ∧ (∀ f, f ≠ fn.val → t.dev.epFn f = s.dev.epFn f) ∧ t.dev.ctr .EP_FLRS = (s.dev.ctr .EP_FLRS + 1) % 2 ^ 64 ∧
      (s.hears .ln → s.told t .ln 0x3E2 (le 1 fn.val)) ∧ Dev.OnlyChanged [.ep] [] [.EP_FLRS] s.dev t.dev)) ∧
  (∀ (s : State) (fn : Fin 66) (aer : Word), s.dev.epUp = true ∧ s.dev.ep.up = true →
      Answers (.receivedTlpError fn .correctable) s (fun t => t.dev.ctr .EP_CORR_ERR = (s.dev.ctr .EP_CORR_ERR + 1) % 2 ^ 64 ∧ Dev.OnlyChanged [] [] [.EP_CORR_ERR] s.dev t.dev) ∧
      Answers (.receivedTlpError fn (.uncorrectable aer)) s (fun t => t.dev.ctr .EP_UNCORR_ERR = (s.dev.ctr .EP_UNCORR_ERR + 1) % 2 ^ 64 ∧ (s.hears .ln → s.told t .ln 0x3E7 (le 1 fn.val ++ le 4 aer.toNat)) ∧
      Dev.OnlyChanged [] [] [.EP_UNCORR_ERR] s.dev t.dev) ∧
      Answers (.receivedTlpError fn (.poisonedWrite aer)) s (fun t => t.dev.ctr .EP_UNCORR_ERR = (s.dev.ctr .EP_UNCORR_ERR + 1) % 2 ^ 64 ∧ t.dev.ctr .EP_POISONED = (s.dev.ctr .EP_POISONED + 1) % 2 ^ 64 ∧
      (s.hears .ln → s.told t .ln 0x3E7 (le 1 fn.val ++ le 4 aer.toNat)) ∧ Dev.OnlyChanged [] [] [.EP_UNCORR_ERR, .EP_POISONED] s.dev t.dev))

/-- Setting CC.EN of a function's controller takes its host and tenant from EP_FN_CFG and makes its admin queues, or is fatal with 3EAh where the function has no host; clearing it cancels its commands. Create I/O SQ and CQ make their queue or fail with 02h; Delete I/O SQ completes the queue's commands with 08h and takes it away; Delete I/O CQ fails while a submission queue uses it. A doorbell within its queue moves the tail or the head. An aperture request in an open window reads or writes the stack's bytes; one outside, in SAFE or toward a stack cut off is refused, counted, and changes nothing. A window's unit outside 16-23, and a division of the vectors beyond 2,048, are refused with 3E4h (13 R519-R540). -/
def Obligations.EndpointQueuesAndAperture : Prop :=
  (∀ (s : State) (fn : Fin 65) (k : Nat) (c : Ctrl) (value aqa : Word), s.dev.nvmeFnUp fn.val = true ∧ s.dev.frontUp = true → 959 + fn.val = k ∧ s.dev.ctrl k = some c ∧ c.cc % 2 = 0 → value.toNat % 2 = 1 ∧ value.toNat / 2 ^ 14 % 4 = 0 →
      (s.dev.flag .EP_FN_CFG_EN fn.val = true → Answers (.pcieCcEnable fn value aqa) s (fun t => t.dev.ctrl k = some { c with cc := value.toNat, enableAt := some (s.dev.nowOn .ln), shst := 0, shutdownAt := none, host := s.dev.fld .EP_FN_CFG_HOST fn.val, tenant := s.dev.fld .HOST_CFG_TENANT (s.dev.fld .EP_FN_CFG_HOST fn.val), sqs := [(0, { size := bitsOf aqa 11 0 + 1 })], cqs := [(0, { size := bitsOf aqa 27 16 + 1 })] } ∧
      (∀ j, j ≠ k → t.dev.ctrl j = s.dev.ctrl j) ∧ t.dev.nvme.cmds = s.dev.nvme.cmds ∧ Dev.OnlyChanged [.nvme] [] [] s.dev t.dev)) ∧
      (s.dev.flag .EP_FN_CFG_EN fn.val = false → Answers (.pcieCcEnable fn value aqa) s (fun t => (∃ x, t.dev.ctrl k = some x ∧ x.cc = value.toNat ∧ x.cfs = true ∧ x.enableAt = none) ∧ (∀ j, j ≠ k → t.dev.ctrl j = s.dev.ctrl j) ∧
      (s.hears .ln → s.told t .ln 0x3EA (le 1 (if fn.val = 0 then 0 else fn.val + 1))) ∧ Dev.OnlyChanged [.nvme] [] [] s.dev t.dev))) ∧
  (∀ (s : State) (fn : Fin 65) (k : Nat) (c : Ctrl) (value aqa : Word), s.dev.nvmeFnUp fn.val = true ∧ s.dev.frontUp = true → 959 + fn.val = k ∧ s.dev.ctrl k = some c ∧ c.cc % 2 = 1 → value.toNat % 2 = 0 ∨ value.toNat / 2 ^ 14 % 4 ≠ 0 →
      Answers (.pcieCcEnable fn value aqa) s (fun t => (∃ x, t.dev.ctrl k = some x ∧ x.cc = value.toNat ∧ x.rdy = false ∧ x.sqs = [] ∧ x.cqs = [] ∧ x.aers = [] ∧ x.tenant = c.tenant ∧ (value.toNat / 2 ^ 14 % 4 ≠ 0 → x.shst = 1 ∧ x.shutdownAt = some (s.dev.nowOn .ln))) ∧
      (∀ j, ((t.dev.cmd j).all (fun x => x.ctrl != k || x.completed || x.cancelled)) = true) ∧ Dev.OnlyChanged [.nvme, .rdma, .ldg, .ten, .evr, .sw] [] [.FE_CMD_CANCELLED, .LDG_REC_ABANDONED] s.dev t.dev)) ∧
  (∀ (s : State) (fn : Fin 65) (k : Nat) (c : Ctrl) (cid : BitVec 16) (a : QueueArgs) (cqid vec : Nat) (irq : Bool), s.dev.adminAt (.pcie fn 0) k c = true ∧ s.dev.numberFree = true ∧ c.kind = .pcie →
      (a.qid ≠ 0 ∧ a.qid ≤ min c.granted (if fn.val = 0 then 256 else 32) ∧ c.sqs.find a.qid = none ∧ a.qsize.toNat ≤ 4095 ∧ a.pc = true ∧ cqid ≠ 0 ∧ (c.cqs.find cqid).isSome = true ∧ (s.dev.takeCapsule (.pcie fn 0)).ioQueues < 65536 →
      Answers (.createIoSq fn cid a cqid) s (fun t => s.entered t (.pcie fn 0) (fun x => x.status = some 0 ∧ x.cid = cid.toNat ∧ x.opcode = 1) ∧
      (∃ x, t.dev.ctrl k = some x ∧ x.sqs.find a.qid = some { size := a.qsize.toNat + 1, cq := cqid } ∧ x.sq 0 = { c.sq 0 with head := ((c.sq 0).head + 1) % (c.sq 0).size } ∧ (∀ q, q ≠ 0 → q ≠ a.qid → x.sq q = c.sq q) ∧ x.cqs = c.cqs ∧ x.cc = c.cc) ∧
      (∀ j, j ≠ k → t.dev.ctrl j = s.dev.ctrl j) ∧ Dev.OnlyChanged [.nvme] [] [] s.dev t.dev)) ∧
      (a.qid = 0 ∨ min c.granted (if fn.val = 0 then 256 else 32) < a.qid ∨ (c.sqs.find a.qid).isSome = true ∨ 4095 < a.qsize.toNat ∨ a.pc = false ∨ cqid = 0 ∨ c.cqs.find cqid = none ∨ 65536 ≤ (s.dev.takeCapsule (.pcie fn 0)).ioQueues →
      Answers (.createIoSq fn cid a cqid) s (fun t => s.entered t (.pcie fn 0) (fun x => x.status = some 0x002 ∧ x.cid = cid.toNat) ∧ (∃ x, t.dev.ctrl k = some x ∧ (∀ q, q ≠ 0 → x.sq q = c.sq q) ∧ x.cqs = c.cqs) ∧ Dev.OnlyChanged [.nvme] [] [] s.dev t.dev)) ∧
      (a.qid ≠ 0 ∧ a.qid ≤ min c.grantedCq (if fn.val = 0 then 256 else 32) ∧ c.cqs.find a.qid = none ∧ a.qsize.toNat ≤ 4095 ∧ a.pc = true ∧ vec < s.dev.nvmeVecs fn.val →
      Answers (.createIoCq fn cid a irq vec) s (fun t => s.entered t (.pcie fn 0) (fun x => x.status = some 0 ∧ x.cid = cid.toNat ∧ x.opcode = 5) ∧
      (∃ x, t.dev.ctrl k = some x ∧ x.cqs.find a.qid = some { size := a.qsize.toNat + 1, vec := vec, irq := irq } ∧ (∀ q, q ≠ a.qid → x.cqs.find q = c.cqs.find q) ∧ (∀ q, q ≠ 0 → x.sq q = c.sq q)) ∧ (∀ j, j ≠ k → t.dev.ctrl j = s.dev.ctrl j) ∧
      Dev.OnlyChanged [.nvme] [] [] s.dev t.dev)) ∧
      (a.qid = 0 ∨ min c.grantedCq (if fn.val = 0 then 256 else 32) < a.qid ∨ (c.cqs.find a.qid).isSome = true ∨ 4095 < a.qsize.toNat ∨ a.pc = false ∨ s.dev.nvmeVecs fn.val ≤ vec →
      Answers (.createIoCq fn cid a irq vec) s (fun t => s.entered t (.pcie fn 0) (fun x => x.status = some 0x002 ∧ x.cid = cid.toNat) ∧ (∃ x, t.dev.ctrl k = some x ∧ x.cqs = c.cqs) ∧ Dev.OnlyChanged [.nvme] [] [] s.dev t.dev))) ∧
  (∀ (s : State) (fn : Fin 65) (k : Nat) (c : Ctrl) (cid : BitVec 16) (qid : Nat), s.dev.adminAt (.pcie fn 0) k c = true ∧ s.dev.numberFree = true →
      (qid ≠ 0 → (c.sqs.find qid).isSome = true → Answers (.deleteIoSq fn cid qid) s (fun t => ((t.dev.cmd s.dev.nvme.nextCmd).all (fun x => x.status == some 0 && x.cid == cid.toNat)) = true ∧ (t.dev.cmd s.dev.nvme.nextCmd).isSome = true ∧
      (∃ x, t.dev.ctrl k = some x ∧ x.sqs.find qid = none ∧ (∀ q, q ≠ 0 → q ≠ qid → x.sq q = c.sq q)) ∧ (∀ j, ((t.dev.cmd j).all (fun x => x.src != .pcie fn qid || x.completed || x.cancelled)) = true) ∧
      (∀ x ∈ s.dev.nvme.cmds, s.dev.cmd x.id = some x → x.src = .pcie fn qid → x.completed = false → x.cancelled = false → Out.cqe (if fn.val = 0 then 0 else fn.val + 1) (c.sq qid).cq qid x.cid 0x008 0 false ∈ t.dev.out) ∧
      Dev.OnlyChanged [.nvme, .ldg, .ten, .evr, .ep] [] [.FE_CMD_CANCELLED, .LDG_REC_ABANDONED, .EP_MSIX_SENT] s.dev t.dev)) ∧
      (qid = 0 ∨ c.sqs.find qid = none → Answers (.deleteIoSq fn cid qid) s (fun t => s.entered t (.pcie fn 0) (fun x => x.status = some 0x002 ∧ x.cid = cid.toNat) ∧ (∃ x, t.dev.ctrl k = some x ∧ (∀ q, q ≠ 0 → x.sq q = c.sq q) ∧ x.cqs = c.cqs) ∧
      Dev.OnlyChanged [.nvme] [] [] s.dev t.dev)) ∧
      (qid ≠ 0 → (c.cqs.find qid).isSome = true → (∀ e ∈ c.sqs, e.1 = 0 ∨ e.2.cq ≠ qid) → Answers (.deleteIoCq fn cid qid) s (fun t => s.entered t (.pcie fn 0) (fun x => x.status = some 0 ∧ x.cid = cid.toNat) ∧
      (∃ x, t.dev.ctrl k = some x ∧ x.cqs.find qid = none ∧ (∀ q, q ≠ qid → x.cqs.find q = c.cqs.find q)) ∧ (∀ j, j ≠ k → t.dev.ctrl j = s.dev.ctrl j) ∧ Dev.OnlyChanged [.nvme] [] [] s.dev t.dev)) ∧
      (qid = 0 ∨ c.cqs.find qid = none ∨ (∃ e ∈ c.sqs, e.1 ≠ 0 ∧ e.2.cq = qid) → Answers (.deleteIoCq fn cid qid) s (fun t => s.entered t (.pcie fn 0) (fun x => x.status = some 0x002 ∧ x.cid = cid.toNat) ∧ (∃ x, t.dev.ctrl k = some x ∧ x.cqs = c.cqs) ∧
      Dev.OnlyChanged [.nvme] [] [] s.dev t.dev))) ∧
  (∀ (s : State) (fn : Fin 65) (k qid : Nat) (c : Ctrl) (value : BitVec 16), s.dev.nvmeFnUp fn.val = true ∧ s.dev.frontUp = true → 959 + fn.val = k ∧ s.dev.ctrl k = some c →
      (value.toNat < (c.sq qid).size → Answers (.sqTailDoorbell fn qid value) s (fun t => (∃ x, t.dev.ctrl k = some x ∧ { x with sqs := c.sqs } = c ∧ x.sq qid = { c.sq qid with tail := value.toNat } ∧ (∀ q, q ≠ qid → x.sq q = c.sq q)) ∧
      (∀ j, j ≠ k → t.dev.ctrl j = s.dev.ctrl j) ∧ t.dev.nvme.cmds = s.dev.nvme.cmds ∧ Dev.OnlyChanged [.nvme] [] [] s.dev t.dev)) ∧
      ((c.sq qid).size ≤ value.toNat → Answers (.sqTailDoorbell fn qid value) s (fun t => (∀ j, t.dev.ctrl j = s.dev.ctrl j) ∧ t.dev.nvme.cmds = s.dev.nvme.cmds ∧ Dev.OnlyChanged [.nvme] [] [] s.dev t.dev)) ∧
      (value.toNat < (c.cqs.get {} qid).size → Answers (.cqHeadDoorbell fn qid value) s (fun t => (∃ x, t.dev.ctrl k = some x ∧ { x with cqs := c.cqs } = c ∧ x.cqs.get {} qid = { c.cqs.get {} qid with head := value.toNat } ∧ (∀ q, q ≠ qid → x.cqs.get {} q = c.cqs.get {} q)) ∧
      (∀ j, j ≠ k → t.dev.ctrl j = s.dev.ctrl j) ∧ t.dev.nvme.cmds = s.dev.nvme.cmds ∧ Dev.OnlyChanged [.nvme] [] [] s.dev t.dev)) ∧
      ((c.cqs.get {} qid).size ≤ value.toNat → Answers (.cqHeadDoorbell fn qid value) s (fun t => (∀ j, t.dev.ctrl j = s.dev.ctrl j) ∧ t.dev.nvme.cmds = s.dev.nvme.cmds ∧ Dev.OnlyChanged [.nvme] [] [] s.dev t.dev))) ∧
  (∀ (s : State) (offset : BitVec 34) (off w n a : Nat) (data : List Byte), s.dev.epUp = true ∧ s.dev.ep.up = true ∧ (s.dev.epFn 1).flr = false → offset.toNat = off ∧ off / 2 ^ 30 = w ∧ a = s.dev.fld .EP_WIN_STACK w * 2 ^ 40 + s.dev.fld .EP_WIN_UNIT w * 2 ^ 30 + off % 2 ^ 30 → 0 < n ∧ off % 4096 + n ≤ 4096 ∧ data.length = n → s.dev.flag .EP_WIN_EN w = true ∧ s.dev.modeNow ≠ .safe ∧ s.dev.stackCutOff (s.dev.fld .EP_WIN_STACK w) = false →
      (s.dev.flag .EP_WIN_READ w = true → Answers (.apertureRequest offset (.read n) true) s (fun t => Out.apData ((List.range n).map (fun i => s.dev.dma.hbm.get 0 (a + i))) false ∈ t.dev.out ∧ Dev.OnlyChanged [] [] [] s.dev t.dev)) ∧
      (s.dev.flag .EP_WIN_READ w = true → Answers (.apertureRequest offset (.read n) false) s (fun t => Out.apData [] true ∈ t.dev.out ∧ t.dev.ctr .EP_POISONED = (s.dev.ctr .EP_POISONED + 1) % 2 ^ 64 ∧ (s.hears .ln → s.toldOf t .ln 0x3E7) ∧
      Dev.OnlyChanged [.fresh] [] [.EP_POISONED] s.dev t.dev)) ∧
      (s.dev.flag .EP_WIN_WRITE w = true → Answers (.apertureRequest offset (.write data) true) s (fun t => (∀ i, i < n → t.dev.dma.hbm.get 0 (a + i) = data.getD i 0) ∧ (∀ k, k < a ∨ a + n ≤ k → t.dev.dma.hbm.get 0 k = s.dev.dma.hbm.get 0 k) ∧
      (∀ m, t.dev.chan m = s.dev.chan m) ∧ Dev.OnlyChanged [.dma] [] [] s.dev t.dev))) ∧
  (∀ (s : State) (offset : BitVec 34) (off w n : Nat) (data : List Byte) (ok closed cut : Bool), s.dev.epUp = true ∧ s.dev.ep.up = true ∧ (s.dev.epFn 1).flr = false → offset.toNat = off ∧ off / 2 ^ 30 = w ∧ off % 4096 + n ≤ 4096 ∧ 0 < n ∧ data.length = n → closed = decide (s.dev.modeNow = .safe) ∧ cut = s.dev.stackCutOff (s.dev.fld .EP_WIN_STACK w) →
      (s.dev.flag .EP_WIN_EN w = false ∨ s.dev.flag .EP_WIN_READ w = false ∨ closed = true → Answers (.apertureRequest offset (.read n) ok) s (fun t => Out.apUnsupported ∈ t.dev.out ∧ t.dev.ctr .EP_AP_REJECT = (s.dev.ctr .EP_AP_REJECT + 1) % 2 ^ 64 ∧
      t.dev.mark (markAperture w) = s.dev.mark (markAperture w) + 1 ∧ Dev.OnlyChanged [.marks] [] [.EP_AP_REJECT] s.dev t.dev)) ∧
      (s.dev.flag .EP_WIN_EN w = true → s.dev.flag .EP_WIN_READ w = true → closed = false → cut = true → Answers (.apertureRequest offset (.read n) ok) s (fun t => Out.apAbort ∈ t.dev.out ∧ t.dev.ctr .EP_AP_REJECT = (s.dev.ctr .EP_AP_REJECT + 1) % 2 ^ 64 ∧
      Dev.OnlyChanged [.marks] [] [.EP_AP_REJECT] s.dev t.dev)) ∧
      (s.dev.flag .EP_WIN_EN w = false ∨ s.dev.flag .EP_WIN_WRITE w = false ∨ closed = true ∨ cut = true → Answers (.apertureRequest offset (.write data) ok) s (fun t => t.dev.ctr .EP_AP_REJECT = (s.dev.ctr .EP_AP_REJECT + 1) % 2 ^ 64 ∧
      Dev.OnlyChanged [.marks] [] [.EP_AP_REJECT] s.dev t.dev)) ∧
      Answers (.apertureRequest offset .atomic ok) s (fun t => Out.apUnsupported ∈ t.dev.out ∧ t.dev.ctr .EP_AP_REJECT = (s.dev.ctr .EP_AP_REJECT + 1) % 2 ^ 64 ∧ Dev.OnlyChanged [.marks] [] [.EP_AP_REJECT] s.dev t.dev)) ∧
  (∀ (s : State) (via : Via) (w : Fin 16) (value : Word), s.dev.commandMade via (Reg.addr .EP_WIN w.val) = true →
      (16 ≤ bitsOf value 4 0 → bitsOf value 4 0 ≤ 23 → Answers (.apertureWindowWrite via w value) s (fun t => t.dev.flag .EP_WIN_EN w.val = bitOf value 31 ∧ t.dev.flag .EP_WIN_WRITE w.val = bitOf value 30 ∧ t.dev.flag .EP_WIN_READ w.val = bitOf value 29 ∧
      t.dev.flag .EP_WIN_STACK w.val = bitOf value 8 ∧ t.dev.fld .EP_WIN_UNIT w.val = bitsOf value 4 0 ∧ (∀ v, v ≠ w.val → t.dev.fld .EP_WIN_UNIT v = s.dev.fld .EP_WIN_UNIT v ∧ t.dev.fld .EP_WIN_EN v = s.dev.fld .EP_WIN_EN v) ∧
      Dev.OnlyChanged [.fw, .od] (answerFlds ++ [.EP_WIN_EN, .EP_WIN_WRITE, .EP_WIN_READ, .EP_WIN_STACK, .EP_WIN_UNIT]) [] s.dev t.dev)) ∧
      (bitsOf value 4 0 < 16 ∨ 23 < bitsOf value 4 0 → Answers (.apertureWindowWrite via w value) s (fun t => (s.hears .ln → s.told t .ln 0x3E4 (le 8 (Reg.addr .EP_WIN w.val))) ∧ Dev.OnlyChanged [.fw, .od] answerFlds [] s.dev t.dev))) ∧
  (∀ (s : State) (via : Via) (value : Word), s.dev.commandMade via (Reg.addr .EP_VEC) = true →
      (2 ≤ bitsOf value 27 16 → 2 ≤ bitsOf value 4 0 → bitsOf value 27 16 + 64 + 64 * bitsOf value 4 0 ≤ 2048 → Answers (.epVecWrite via value) s (fun t => t.dev.fld .EP_VEC_PF0_VEC = bitsOf value 27 16 ∧ t.dev.fld .EP_VEC_VF_VEC = bitsOf value 4 0 ∧
      t.dev.ep = s.dev.ep ∧ Dev.OnlyChanged [.fw, .od] (answerFlds ++ [.EP_VEC_PF0_VEC, .EP_VEC_VF_VEC]) [] s.dev t.dev)) ∧
      (bitsOf value 27 16 < 2 ∨ bitsOf value 4 0 < 2 ∨ 2048 < bitsOf value 27 16 + 64 + 64 * bitsOf value 4 0 → Answers (.epVecWrite via value) s (fun t => (s.hears .ln → s.told t .ln 0x3E4 (le 8 (Reg.addr .EP_VEC))) ∧
      Dev.OnlyChanged [.fw, .od] answerFlds [] s.dev t.dev)))

/-- A read of an index or subindex that is not there, of a write-only object, of one the session's level does not allow (counted), or whose register cannot be reached, is answered with its abort; any other with the value. A write is answered likewise, with 0601_0002h where the object is read only and 0607_0010h where the length differs; an accepted one is stored as the register stores it and acknowledged once nothing it changed waits for the store. A failed store is answered with 0606_0000h, with 3F7h. A proof spends the nonce; a right one raises the session and records 3F0h, a wrong one, or one within 1 s of a refused one, is answered 0800_0020h and records 3F1h. A session falls to Observer when it is dropped or idle. A write of MG_CTL with GO while an access runs is discarded with 3F3h (14 R545-R557, R580). -/
def Obligations.DictionaryAndSessions : Prop :=
  (∀ (s : State) (session : Nat) (index : BitVec 16) (sub : Byte) (data : List Byte), s.dev.sessionLive session = true →
      (s.dev.object index.toNat sub.toNat = none → Answers (.objectRead session index sub) s (fun t => Out.dictAnswer session 0x06020000 [] ∈ t.dev.out ∧ (∀ m, m ≠ session → t.dev.session m = s.dev.session m) ∧ Dev.OnlyChanged [.od] answerFlds [] s.dev t.dev)) ∧
      (s.dev.object index.toNat sub.toNat = some none → Answers (.objectRead session index sub) s (fun t => Out.dictAnswer session 0x06090011 [] ∈ t.dev.out ∧ Dev.OnlyChanged [.od] answerFlds [] s.dev t.dev)) ∧
      (s.dev.object index.toNat sub.toNat = none → Answers (.objectWrite session index sub data) s (fun t => Out.dictAnswer session 0x06020000 [] ∈ t.dev.out ∧ Dev.OnlyChanged [.od] answerFlds [] s.dev t.dev)) ∧
      (s.dev.object index.toNat sub.toNat = some none → Answers (.objectWrite session index sub data) s (fun t => Out.dictAnswer session 0x06090011 [] ∈ t.dev.out ∧ Dev.OnlyChanged [.od] answerFlds [] s.dev t.dev))) ∧
  (∀ (s : State) (session : Nat) (index : BitVec 16) (sub : Byte) (o : Obj), s.dev.sessionLive session = true ∧ s.dev.object index.toNat sub.toNat = some (some o) →
      (o.right.writeOnly = true → Answers (.objectRead session index sub) s (fun t => Out.dictAnswer session 0x06010001 [] ∈ t.dev.out ∧ Dev.OnlyChanged [.od] answerFlds [] s.dev t.dev)) ∧
      (o.right.writeOnly = false → o.guarded = true → s.dev.sessionLevel session ≠ .custodian → Answers (.objectRead session index sub) s (fun t => Out.dictAnswer session 0x08000021 [] ∈ t.dev.out ∧ t.dev.od.denied = s.dev.od.denied + 1 ∧ Dev.OnlyChanged [.od] answerFlds [] s.dev t.dev)) ∧
      (o.right.writeOnly = false → (o.guarded = false ∨ s.dev.sessionLevel session = .custodian) → (o.addr.map s.dev.unreached).getD false = true → Answers (.objectRead session index sub) s (fun t => Out.dictAnswer session 0x08000022 [] ∈ t.dev.out ∧ Dev.OnlyChanged [.od] answerFlds [] s.dev t.dev)) ∧
      (o.right.writeOnly = false ∧ (o.guarded = false ∨ s.dev.sessionLevel session = .custodian) ∧ (o.addr.map s.dev.unreached).getD false = false ∧ index ≠ 0x2004#16 → Answers (.objectRead session index sub) s (fun t =>
      (if session < 0x100 then (if o.read.length ≤ 4 then Out.dictAnswer session 0 o.read ∈ t.dev.out else Out.sdoFrame (session - 1) (le 4 o.read.length) false ∈ t.dev.out ∧ ((t.dev.od.can.sdos.get none session).any (fun x => x.data == o.read && !x.write)) = true)
      else (if o.size.bytes.isSome then Out.dictAnswer session 0 o.read ∈ t.dev.out else Out.dictAnswer session 0 (o.read.take 1024) ∈ t.dev.out)) ∧ t.dev.od.objs = s.dev.od.objs ∧ (∀ m, m ≠ session → t.dev.session m = s.dev.session m) ∧ (t.dev.session session).level = (s.dev.session session).level ∧
      Dev.OnlyChanged [.od] answerFlds [] s.dev t.dev))) ∧
  (∀ (s : State) (session : Nat) (index : BitVec 16) (sub : Byte) (data : List Byte) (o : Obj), s.dev.sessionLive session = true ∧ s.dev.object index.toNat sub.toNat = some (some o) →
      (o.right.writeLevel = none → Answers (.objectWrite session index sub data) s (fun t => Out.dictAnswer session 0x06010002 [] ∈ t.dev.out ∧ Dev.OnlyChanged [.od] answerFlds [] s.dev t.dev)) ∧
      (∀ l ∈ o.right.writeLevel.toList, (s.dev.sessionLevel session).code < l.code → Answers (.objectWrite session index sub data) s (fun t => Out.dictAnswer session 0x08000021 [] ∈ t.dev.out ∧ t.dev.od.denied = s.dev.od.denied + 1 ∧ Dev.OnlyChanged [.od] answerFlds [] s.dev t.dev)) ∧
      (∀ l ∈ o.right.writeLevel.toList, l.code ≤ (s.dev.sessionLevel session).code → (o.addr.map s.dev.unreached).getD false = true → Answers (.objectWrite session index sub data) s (fun t => Out.dictAnswer session 0x08000022 [] ∈ t.dev.out ∧ Dev.OnlyChanged [.od] answerFlds [] s.dev t.dev)) ∧
      (∀ l ∈ o.right.writeLevel.toList, l.code ≤ (s.dev.sessionLevel session).code → (o.addr.map s.dev.unreached).getD false = false → o.size.fits 0 data.length = false → Answers (.objectWrite session index sub data) s (fun t => Out.dictAnswer session 0x06070010 [] ∈ t.dev.out ∧
      Dev.OnlyChanged [.od] answerFlds [] s.dev t.dev))) ∧
  (∀ (s : State) (session : Nat) (index : BitVec 16) (sub : Byte) (data : List Byte) (o : Obj) (l : Level) (r : Reg) (f : Fld) (k : Nat), s.dev.sessionLive session = true ∧ s.dev.object index.toNat sub.toNat = some (some o) ∧ o.kind = .part r f k → o.right.writeLevel = some l ∧ l.code ≤ (s.dev.sessionLevel session).code ∧ (o.addr.map s.dev.unreached).getD false = false ∧ o.size.bytes = some data.length → r ≠ .VOL_CFG ∧ r ≠ .TN_SRATE ∧ r ≠ .TN_SBURST ∧ f ∉ answerFlds →
      (leNat data < 2 ^ f.info.width → s.dev.fieldLocked f k = false → Answers (.objectWrite session index sub data) s (fun t => t.dev.fld f k = storedValue f k (leNat data) ∧ (∀ j, j ≠ k → t.dev.fld f j = s.dev.fld f j) ∧
      (if t.dev.fw.storing.isEmpty then Out.dictAnswer session 0 [] ∈ t.dev.out else (t.dev.fw.storing.any (fun x => x.session == some session && x.name == some (objKey index.toNat sub.toNat))) = true) ∧
      Dev.OnlyChanged [.od, .fw] (f :: answerFlds) [] s.dev t.dev)) ∧
      (leNat data < 2 ^ f.info.width → s.dev.fieldLocked f k = true → storedValue f k (leNat data) ≠ s.dev.fld f k → Answers (.objectWrite session index sub data) s (fun t => Out.dictAnswer session 0x08000022 [] ∈ t.dev.out ∧ Dev.OnlyChanged [.od, .fw] answerFlds [] s.dev t.dev)) ∧
      (2 ^ f.info.width ≤ leNat data → Answers (.objectWrite session index sub data) s (fun t => Out.dictAnswer session 0x06090030 [] ∈ t.dev.out ∧ Dev.OnlyChanged [.od, .fw] answerFlds [] s.dev t.dev))) ∧
  (∀ (s : State) (session : Nat) (index : BitVec 16) (sub : Byte) (data : List Byte) (o : Obj) (l : Level), s.dev.sessionLive session = true ∧ s.dev.object index.toNat sub.toNat = some (some o) ∧ o.kind = .own → o.right.writeLevel = some l ∧ l.code ≤ (s.dev.sessionLevel session).code ∧ (o.addr.map s.dev.unreached).getD false = false ∧ o.size.bytes = some data.length →
      (s.dev.ownCheck index.toNat sub.toNat (leNat data) = 0 → Answers (.objectWrite session index sub data) s (fun t => t.dev.obj index.toNat sub.toNat = data ∧ (∀ k, k ≠ objKey index.toNat sub.toNat → t.dev.od.objs.find k = s.dev.od.objs.find k) ∧
      (t.dev.fw.storing.any (fun x => x.session == some session && x.object == some (objKey index.toNat sub.toNat, data))) = true ∧ (∀ m, t.dev.session m = s.dev.session m) ∧ Dev.OnlyChanged [.od, .fw] [] [] s.dev t.dev)) ∧
      (s.dev.ownCheck index.toNat sub.toNat (leNat data) ≠ 0 → Answers (.objectWrite session index sub data) s (fun t => Out.dictAnswer session (s.dev.ownCheck index.toNat sub.toNat (leNat data)) [] ∈ t.dev.out ∧ t.dev.od.objs = s.dev.od.objs ∧ Dev.OnlyChanged [.od, .fw] answerFlds [] s.dev t.dev))) ∧
  (∀ (s : State) (x : Storing) (xs : List Storing), s.dev.managed = true ∧ s.dev.fw.storing = x :: xs → (x.fields.map Prod.fst).Nodup →
      Answers (.parameterStoreDone true) s (fun t => t.dev.fw.storing = xs ∧ (∀ e ∈ x.fields, t.dev.fw.params.find e.1 = e.2) ∧ (∀ k, k ∉ x.fields.map Prod.fst → t.dev.fw.params.find k = s.dev.fw.params.find k) ∧
      (∀ e ∈ x.object.toList, t.dev.fw.objParams.find e.1 = some e.2) ∧ (∀ n ∈ x.session.toList, s.dev.awaits n = true → Out.dictAnswer n 0 [] ∈ t.dev.out) ∧ Dev.OnlyChanged [.fw, .od] answerFlds [] s.dev t.dev) ∧
      Answers (.parameterStoreDone false) s (fun t => t.dev.fw.storing = xs ∧ t.dev.fw.params = s.dev.fw.params ∧ t.dev.fw.objParams = s.dev.fw.objParams ∧ s.toldOf t .pl 0x3F7 ∧ (∀ k ∈ x.name.toList, s.told t .pl 0x3F7 (le 2 (k / 256) ++ le 1 (k % 256))) ∧
      (∀ n ∈ x.session.toList, s.dev.awaits n = true → Out.dictAnswer n 0x06060000 [] ∈ t.dev.out) ∧ Dev.OnlyChanged [.fw, .od, .fresh] answerFlds [] s.dev t.dev)) ∧
  (∀ (s : State) (session : Nat) (level : Byte) (tag : List Byte) (x : Session) (l : Level) (cs v : List Byte), s.dev.sessionLive session = true ∧ s.dev.session session = x ∧ tag.length = 16 → s.dev.cust.cs = some cs ∧ x.nonce = some v ∧ l.code = level.toNat ∧ level ≠ 0#8 → (s.dev.od.proofRefused.get none (sessionPort session)).all (fun a => s.dev.expired .pl a 1000000000) = true →
      Answers (.proof session level tag) s (fun t => (t.dev.session session).nonce = none ∧ (∀ m, m ≠ session → t.dev.session m = s.dev.session m) ∧
      (if tag = Config.gmac (proofKeyOf l cs) (v.take 12) (ascii "LAMCY-PROVE" ++ serialBytes ++ le 4 session ++ le 1 level.toNat ++ v) then
      (t.dev.session session).level = (if x.level = .custodian then .custodian else l) ∧ s.told t .pl 0x3F0 (le 1 (sessionPort session) ++ le 4 session ++ le 1 level.toNat) ∧ Out.dictAnswer session 0 [] ∈ t.dev.out ∧ t.dev.od.proofRefused = s.dev.od.proofRefused ∧
      (sessionPort session = 1 → (t.dev.session session).key = some ((Config.sha384 (ascii "LAMCY-YD9624-SESS" ++ proofKeyOf l cs ++ v)).take 32))
      else (t.dev.session session).level = x.level ∧ s.told t .pl 0x3F1 (le 1 (sessionPort session) ++ le 4 session) ∧ Out.dictAnswer session 0x08000020 [] ∈ t.dev.out ∧ t.dev.od.proofRefused.get none (sessionPort session) = some s.dev.now) ∧
      Dev.OnlyChanged [.od, .fw] answerFlds [] s.dev t.dev)) ∧
  (∀ (s : State) (session : Nat) (level : Byte) (tag : List Byte) (a : Nat), s.dev.sessionLive session = true →
      (tag.length ≠ 16 → Answers (.proof session level tag) s (fun t => Out.dictAnswer session 0x06070010 [] ∈ t.dev.out ∧ (t.dev.session session).level = (s.dev.session session).level ∧ Dev.OnlyChanged [.od] answerFlds [] s.dev t.dev)) ∧
      (tag.length = 16 → level ≠ 1#8 → level ≠ 2#8 → Answers (.proof session level tag) s (fun t => Out.dictAnswer session 0x06090030 [] ∈ t.dev.out ∧ (t.dev.session session).level = (s.dev.session session).level ∧ Dev.OnlyChanged [.od, .fw] answerFlds [] s.dev t.dev)) ∧
      (tag.length = 16 → level = 1#8 ∨ level = 2#8 → s.dev.cust.cs = none → Answers (.proof session level tag) s (fun t => Out.dictAnswer session 0x08000022 [] ∈ t.dev.out ∧ (t.dev.session session).level = (s.dev.session session).level ∧ Dev.OnlyChanged [.od, .fw] answerFlds [] s.dev t.dev)) ∧
      (tag.length = 16 → level = 1#8 ∨ level = 2#8 → s.dev.cust.cs ≠ none → s.dev.od.proofRefused.get none (sessionPort session) = some a → s.dev.now ≤ a + 1000000000 → Answers (.proof session level tag) s (fun t => Out.dictAnswer session 0x08000020 [] ∈ t.dev.out ∧
      (t.dev.session session).level = (s.dev.session session).level ∧ s.told t .pl 0x3F1 (le 1 (sessionPort session) ++ le 4 session) ∧ Dev.OnlyChanged [.od, .fw] answerFlds [] s.dev t.dev))) ∧
  (∀ (s : State) (session : Nat), s.dev.sessionLive session = true →
      Answers (.nonceRead session) s (fun t => ((t.dev.session session).nonce.any (fun v => v.length == 16 && (session < 0x100 || t.dev.out.contains (.dictAnswer session 0 v)))) = true ∧ (∀ m, m ≠ session → t.dev.session m = s.dev.session m) ∧ Dev.OnlyChanged [.od, .fresh] answerFlds [] s.dev t.dev) ∧
      Answers (.sessionDrop session) s (fun t => (t.dev.session session).level = .observer ∧ Out.dictAnswer session 0 [] ∈ t.dev.out ∧ (∀ m, m ≠ session → t.dev.session m = s.dev.session m) ∧ Dev.OnlyChanged [.od, .fw] answerFlds [] s.dev t.dev)) ∧
  (∀ (s : State) (session : Nat), s.dev.managed = true ∧ (s.dev.session session).level ≠ .observer → (s.dev.session session).lastAccess + s.dev.objNat 0x2005 * 1000000000 < s.dev.now →
      Answers (.sessionIdleTimeout session) s (fun t => t.dev.session session = { s.dev.session session with level := .observer } ∧ (∀ m, m ≠ session → t.dev.session m = s.dev.session m) ∧ Dev.OnlyChanged [.od] [] [] s.dev t.dev)) ∧
  (∀ (s : State) (session : Nat) (value : Byte), s.dev.sessionLive session = true →
      (s.dev.sessionLevel session ≠ .observer → value = 0#8 → Answers (.errorFieldClear session value) s (fun t => t.dev.od.can.errors = [] ∧ Out.dictAnswer session 0 [] ∈ t.dev.out ∧ Dev.OnlyChanged [.od, .fw] answerFlds [] s.dev t.dev)) ∧
      (s.dev.sessionLevel session ≠ .observer → value ≠ 0#8 → Answers (.errorFieldClear session value) s (fun t => t.dev.od.can.errors = s.dev.od.can.errors ∧ Out.dictAnswer session 0x06090030 [] ∈ t.dev.out ∧ Dev.OnlyChanged [.od, .fw] answerFlds [] s.dev t.dev)) ∧
      (s.dev.sessionLevel session = .observer → Answers (.errorFieldClear session value) s (fun t => Out.dictAnswer session 0x08000021 [] ∈ t.dev.out ∧ t.dev.od.denied = s.dev.od.denied + 1 ∧ Dev.OnlyChanged [.od] answerFlds [] s.dev t.dev))) ∧
  (∀ (s : State) (session : Nat) (value : Word),
      (s.dev.sessionLevel session ≠ .custodian → Answers (.restoreDefaults session value) s (fun t => Out.dictAnswer session 0x08000021 [] ∈ t.dev.out ∧ t.dev.od.denied = s.dev.od.denied + 1 ∧ Dev.OnlyChanged [.od] answerFlds [] s.dev t.dev)) ∧
      (s.dev.sessionLevel session = .custodian → value.toNat ≠ leNat (ascii "load") ∨ s.dev.modeNow ≠ .commission → Answers (.restoreDefaults session value) s (fun t => Out.dictAnswer session 0x08000022 [] ∈ t.dev.out ∧ Dev.OnlyChanged [.od] answerFlds [] s.dev t.dev)) ∧
      (s.dev.sessionLevel session = .custodian → value.toNat = leNat (ascii "load") → s.dev.modeNow = .commission → Answers (.restoreDefaults session value) s (fun t => Out.dictAnswer session 0 [] ∈ t.dev.out ∧ t.dev.fw.restoreAtStart = true ∧ t.dev.fw.params = s.dev.fw.params ∧
      t.dev.fw.storing = s.dev.fw.storing ∧ Dev.OnlyChanged [.od, .fw] answerFlds [] s.dev t.dev))) ∧
  (∀ (s u : State) (value : Word) (i b off : Nat) (o : Obj), s.dev.served = true ∧ bitOf value 31 = true ∧ bitOf value 30 = false ∧ s.dev.windowBusy = false → s.dev.fld .MG_OBJ_INDEX = i ∧ s.dev.fld .MG_OBJ_SUB = b ∧ s.dev.fld .MG_OFFSET_OFFSET = off → u = s.after (fun d => ((d.setFld .MG_CTL_WRITE 0 0).setFld .MG_CTL_LENGTH 0 (bitsOf value 10 0)).setFld .MG_CTL_GO 0 1) → u.dev.object i b = some (some o) ∧ o.right.writeOnly = false ∧ (o.guarded = false ∨ u.dev.sessionLevel 0x100 = .custodian) ∧ (o.addr.map u.dev.unreached).getD false = false ∧ i ≠ 0x2004 →
      Answers (.dictionaryWindowGo value) s (fun t => t.dev.flag .MG_CTL_GO = false ∧ t.dev.fld .MG_ABORT_CODE = 0 ∧ t.dev.fld .MG_CTL_LENGTH = (if o.size.bytes.isSome then o.read else (o.read.drop off).take 1024).length ∧
      Out.dictAnswer 0x100 0 (if o.size.bytes.isSome then o.read else (o.read.drop off).take 1024) ∈ t.dev.out ∧ (t.dev.session 0x100).level = (s.dev.session 0x100).level ∧ Dev.OnlyChanged [.od] (.MG_CTL_WRITE :: answerFlds) [] s.dev t.dev)) ∧
  (∀ (s : State) (value : Word), s.dev.served = true ∧ bitOf value 31 = true →
      (s.dev.windowBusy = true → Answers (.dictionaryWindowGo value) s (fun t => s.told t .pl 0x3F3 ∧ Dev.OnlyChanged [] [] [] s.dev t.dev)) ∧
      (s.dev.windowBusy = false → s.dev.sessionLevel 0x100 = .observer → bitOf value 30 = true → s.dev.fld .MG_OBJ_INDEX = 0x1017 → s.dev.fld .MG_OBJ_SUB = 0 → Answers (.dictionaryWindowGo value) s (fun t => t.dev.flag .MG_CTL_GO = false ∧ t.dev.fld .MG_ABORT_CODE = 0x08000021 ∧
      t.dev.od.denied = s.dev.od.denied + 1 ∧ Dev.OnlyChanged [.od] (.MG_CTL_WRITE :: answerFlds) [] s.dev t.dev)))

/-- An SDO upload answers up to 4 bytes at once and begins a segmented one otherwise; a download that goes on is acknowledged and its value written with its last segment; an initiate aborts the running transfer with 0800_0000h, a wrong frame is answered 0504_0001h, a silent client 0504_0000h. An NMT command to all nodes or to this one changes the state, with 3F5h; a reset of communication reloads the communication objects, ends the CAN sessions and transfers, sends the boot-up message and enters Pre-operational. A TPDO is sent with its mapped values padded to the next FD length, by its event timer or on every n-th SYNC. A waiting EMCY is sent once the inhibit time is over, a heartbeat carries the NMT state, and bus-off and error passive record 3F6h (14 R562-R573). -/
def Obligations.CanOpenSlave : Prop :=
  (∀ (s u : State) (server : Fin 4) (index : BitVec 16) (sub : Byte) (o : Obj) (n : Nat), s.dev.serverUp server.val = true ∧ n = server.val + 1 → u = s.after (fun d => if d.sdoRuns n then (d.forgetAnswer n).dictAnswer n 0x08000000 else d) → u.dev.object index.toNat sub.toNat = some (some o) ∧ o.right.writeOnly = false ∧ (o.guarded = false ∨ u.dev.sessionLevel n = .custodian) ∧ (o.addr.map u.dev.unreached).getD false = false ∧ index ≠ 0x2004#16 →
      Answers (.sdoInitiate server (.upload index sub)) s (fun t => (s.dev.sdoRuns n = true → Out.dictAnswer n 0x08000000 [] ∈ t.dev.out) ∧
      (if o.read.length ≤ 4 then Out.dictAnswer n 0 o.read ∈ t.dev.out ∧ (t.dev.od.can.sdos.find n).isNone = true
      else Out.sdoFrame server.val (le 4 o.read.length) false ∈ t.dev.out ∧ t.dev.od.can.sdos.get none n = some { write := false, index := index.toNat, sub := sub.toNat, data := o.read, lastAt := s.dev.now }) ∧
      t.dev.od.objs = s.dev.od.objs ∧ (∀ m, m ≠ n → t.dev.session m = s.dev.session m) ∧ Dev.OnlyChanged [.od, .fw] [] [] s.dev t.dev)) ∧
  (∀ (s u : State) (server : Fin 4) (index : BitVec 16) (sub : Byte) (data : List Byte) (o : Obj) (l : Level) (n : Nat), s.dev.serverUp server.val = true ∧ n = server.val + 1 → u = s.after (fun d => if d.sdoRuns n then (d.forgetAnswer n).dictAnswer n 0x08000000 else d) → u.dev.object index.toNat sub.toNat = some (some o) ∧ o.kind = .own ∧ o.right.writeLevel = some l ∧ l.code ≤ (u.dev.sessionLevel n).code ∧ (o.addr.map u.dev.unreached).getD false = false ∧ o.size.bytes = some data.length → u.dev.ownCheck index.toNat sub.toNat (leNat data) = 0 →
      Answers (.sdoInitiate server (.download index sub data true)) s (fun t => t.dev.obj index.toNat sub.toNat = data ∧ (t.dev.fw.storing.any (fun x => x.session == some n && x.object == some (objKey index.toNat sub.toNat, data))) = true ∧
      Dev.OnlyChanged [.od, .fw] [] [] s.dev t.dev)) ∧
  (∀ (s : State) (server : Fin 4) (index : BitVec 16) (sub : Byte) (data : List Byte) (n : Nat), s.dev.serverUp server.val = true ∧ n = server.val + 1 →
      Answers (.sdoInitiate server (.download index sub data false)) s (fun t => t.dev.od.can.sdos.get none n = some { write := true, index := index.toNat, sub := sub.toNat, data := data, lastAt := s.dev.now } ∧ Out.sdoAck server.val ∈ t.dev.out ∧
      (s.dev.sdoRuns n = true → Out.dictAnswer n 0x08000000 [] ∈ t.dev.out) ∧ (∀ m, m ≠ n → t.dev.od.can.sdos.find m = s.dev.od.can.sdos.find m) ∧ Dev.OnlyChanged [.od, .fw] [] [] s.dev t.dev)) ∧
  (∀ (s : State) (server : Fin 4) (x : Sdo) (n count : Nat) (data : List Byte) (last ok : Bool), s.dev.serverUp server.val = true ∧ n = server.val + 1 ∧ s.dev.od.can.sdos.get none n = some x →
      (x.write = false → 0 < count → Answers (.sdoSegment server (.upload count true)) s (fun t => Out.sdoFrame server.val (x.data.take (7 * count)) (x.data.drop (7 * count)).isEmpty ∈ t.dev.out ∧
      t.dev.od.can.sdos.get none n = (if (x.data.drop (7 * count)).isEmpty then none else some { x with data := x.data.drop (7 * count), lastAt := s.dev.now }) ∧ (∀ m, t.dev.session m = s.dev.session m) ∧ Dev.OnlyChanged [.od] [] [] s.dev t.dev)) ∧
      (x.write = true → Answers (.sdoSegment server (.download data false true)) s (fun t => Out.sdoAck server.val ∈ t.dev.out ∧ t.dev.od.can.sdos.get none n = some { x with data := x.data ++ data, lastAt := s.dev.now } ∧
      (∀ m, t.dev.session m = s.dev.session m) ∧ Dev.OnlyChanged [.od] [] [] s.dev t.dev)) ∧
      (x.write = true ∨ ok = false ∨ count = 0 → Answers (.sdoSegment server (.upload count ok)) s (fun t => Out.dictAnswer n 0x05040001 [] ∈ t.dev.out ∧ (t.dev.od.can.sdos.find n).isNone = true ∧ Dev.OnlyChanged [.od] [] [] s.dev t.dev)) ∧
      (x.write = false ∨ ok = false → Answers (.sdoSegment server (.download data last ok)) s (fun t => Out.dictAnswer n 0x05040001 [] ∈ t.dev.out ∧ (t.dev.od.can.sdos.find n).isNone = true ∧ Dev.OnlyChanged [.od] [] [] s.dev t.dev))) ∧
  (∀ (s u : State) (server : Fin 4) (x : Sdo) (data : List Byte) (o : Obj) (l : Level) (n : Nat), s.dev.serverUp server.val = true ∧ n = server.val + 1 ∧ s.dev.od.can.sdos.get none n = some x ∧ x.write = true → u = s.after (fun d => d.setSdo n none) → u.dev.object x.index x.sub = some (some o) ∧ o.kind = .own ∧ o.right.writeLevel = some l ∧ l.code ≤ (u.dev.sessionLevel n).code ∧ (o.addr.map u.dev.unreached).getD false = false ∧ o.size.bytes = some (x.data ++ data).length → u.dev.ownCheck x.index x.sub (leNat (x.data ++ data)) = 0 →
      Answers (.sdoSegment server (.download data true true)) s (fun t => t.dev.obj x.index x.sub = x.data ++ data ∧ (t.dev.od.can.sdos.get none n).isNone = true ∧ (t.dev.fw.storing.any (fun e => e.session == some n && e.object == some (objKey x.index x.sub, x.data ++ data))) = true ∧
      Dev.OnlyChanged [.od, .fw] [] [] s.dev t.dev)) ∧
  (∀ (s : State) (server : Fin 4) (x : Sdo) (n : Nat), n = server.val + 1 ∧ s.dev.od.can.sdos.get none n = some x ∧ x.lastAt + 1000000000 < s.dev.now →
      (s.dev.serverUp server.val = true → Answers (.sdoTimeout server) s (fun t => Out.dictAnswer n 0x05040000 [] ∈ t.dev.out ∧ (t.dev.od.can.sdos.get none n).isNone = true ∧ (∀ m, m ≠ n → t.dev.session m = s.dev.session m) ∧ Dev.OnlyChanged [.od] [] [] s.dev t.dev)) ∧
      (s.dev.serverUp server.val = false → Answers (.sdoTimeout server) s (fun t => (t.dev.od.can.sdos.get none n).isNone = true ∧ (∀ m, t.dev.session m = s.dev.session m) ∧ Dev.OnlyChanged [.od] [] [] s.dev t.dev))) ∧
  (∀ (s : State) (node : Fin 128), s.dev.managed = true ∧ s.dev.od.can.busOff = false ∧ (node.val = 0 ∨ node.val = s.dev.nodeId) →
      (s.dev.od.can.nmt ≠ .operational → Answers (.nmtStartRemoteNode node) s (fun t => t.dev.od.can.nmt = .operational ∧ (∀ k, k < 8 → t.dev.od.can.syncs.get 0 k = 0 ∧ t.dev.od.can.pdoAt.get 0 k = s.dev.now) ∧ s.told t .pl 0x3F5 (le 1 5) ∧ Dev.OnlyChanged [.od] [] [] s.dev t.dev)) ∧
      (s.dev.od.can.nmt = .operational → Answers (.nmtStartRemoteNode node) s (fun t => t.dev.od.can = s.dev.od.can ∧ Dev.OnlyChanged [] [] [] s.dev t.dev)) ∧
      (s.dev.od.can.nmt ≠ .stopped → Answers (.nmtStopRemoteNode node) s (fun t => t.dev.od.can = { s.dev.od.can with nmt := .stopped } ∧ s.told t .pl 0x3F5 (le 1 4) ∧ Dev.OnlyChanged [] [] [] s.dev t.dev)) ∧
      (s.dev.od.can.nmt ≠ .preOperational → Answers (.nmtEnterPreOperational node) s (fun t => t.dev.od.can = { s.dev.od.can with nmt := .preOperational } ∧ s.told t .pl 0x3F5 (le 1 127) ∧ Dev.OnlyChanged [] [] [] s.dev t.dev))) ∧
  (∀ (s : State) (node : Fin 128) (k : Nat), s.dev.managed = true ∧ s.dev.od.can.busOff = false ∧ (node.val = 0 ∨ node.val = s.dev.nodeId) → (s.dev.fw.objParams.map Prod.fst).Nodup →
      Answers (.nmtResetNode node) s (fun t => t.dev.od.can.nmt = .preOperational ∧ t.dev.od.can.sdos = [] ∧ (∀ n, n < 5 → 0 < n → t.dev.session n = {}) ∧ (∀ n, 4 < n → t.dev.session n = s.dev.session n) ∧
      t.dev.od.objs.find k = (if 0x100000 ≤ k ∧ k < 0x200000 then s.dev.fw.objParams.find k else s.dev.od.objs.find k) ∧ t.dev.od.can.node = some (t.dev.objNat 0x2010 1) ∧ Out.canBootUp (t.dev.objNat 0x2010 1) ∈ t.dev.out ∧
      s.told t .pl 0x3F5 (le 1 127) ∧ t.dev.fw.params = s.dev.fw.params ∧ Dev.OnlyChanged [.od, .fw] [] [] s.dev t.dev) ∧
      Answers (.nmtResetCommunication node) s (fun t => t.dev.od.can.nmt = .preOperational ∧ t.dev.od.can.sdos = [] ∧ (∀ n, n < 5 → 0 < n → t.dev.session n = {}) ∧ (∀ n, 4 < n → t.dev.session n = s.dev.session n) ∧
      t.dev.od.objs.find k = (if 0x100000 ≤ k ∧ k < 0x200000 then s.dev.fw.objParams.find k else s.dev.od.objs.find k) ∧ t.dev.od.can.node = some (t.dev.objNat 0x2010 1) ∧ Out.canBootUp (t.dev.objNat 0x2010 1) ∈ t.dev.out ∧
      s.told t .pl 0x3F5 (le 1 127) ∧ t.dev.fw.params = s.dev.fw.params ∧ Dev.OnlyChanged [.od, .fw] [] [] s.dev t.dev)) ∧
  (∀ (s : State) (pdo : Fin 8) (k : Nat) (b : List Byte), s.dev.pdosRun = true ∧ pdo.val = k ∧ s.dev.pdoOff k = false ∧ 254 ≤ s.dev.objNat (0x1800 + k) 2 → s.dev.objNat (0x1800 + k) 5 ≠ 0 ∧ s.dev.od.can.pdoAt.get 0 k + s.dev.objNat (0x1800 + k) 5 * 1000000 < s.dev.now ∧ s.dev.od.can.pdoAt.get 0 k + s.dev.objNat (0x1800 + k) 3 * 100000 < s.dev.now → s.dev.objNat (0x1A00 + k) ≠ 0 ∧ s.dev.pdoBytes k = some b ∧ b.length ≤ 64 →
      Answers (.tpdoEventTimer pdo) s (fun t => Out.tpdo (s.dev.objNat (0x1800 + k) 1 % 2048) (b ++ List.replicate ((fdLengths.find? (fun n => decide (b.length ≤ n))).getD 64 - b.length) 0) ∈ t.dev.out ∧ t.dev.od.can.pdoAt.get 0 k = s.dev.now ∧
      (∀ j, j ≠ k → t.dev.od.can.pdoAt.get 0 j = s.dev.od.can.pdoAt.get 0 j) ∧ t.dev.od.can.syncs = s.dev.od.can.syncs ∧ Dev.OnlyChanged [] [] [] s.dev t.dev)) ∧
  (∀ (s : State) (k n : Nat), s.dev.pdosRun = true ∧ k < 8 ∧ s.dev.pdoOff k = false ∧ s.dev.objNat (0x1800 + k) 2 = n ∧ 1 ≤ n ∧ n ≤ 240 →
      (s.dev.od.can.syncs.get 0 k + 1 < n → Answers .syncReceive s (fun t => t.dev.od.can.syncs.get 0 k = s.dev.od.can.syncs.get 0 k + 1 ∧ t.dev.od.can.pdoAt.get 0 k = s.dev.od.can.pdoAt.get 0 k ∧ Dev.OnlyChanged [.fresh] [] [] s.dev t.dev)) ∧
      (n ≤ s.dev.od.can.syncs.get 0 k + 1 → s.dev.objNat (0x1A00 + k) ≠ 0 → Answers .syncReceive s (fun t => t.dev.od.can.syncs.get 0 k = 0 ∧ t.dev.od.can.pdoAt.get 0 k = s.dev.now ∧
      (t.dev.out.any (fun o => match o with | .tpdo c d => c == s.dev.objNat (0x1800 + k) 1 % 2048 && fdLengths.contains d.length | _ => false)) = true ∧ Dev.OnlyChanged [.fresh] [] [] s.dev t.dev))) ∧
  (∀ (s : State) (m : Emcy) (rest : List Emcy), s.dev.managed = true ∧ s.dev.emcyAllowed = true ∧ s.dev.emcyFree = true ∧ s.dev.od.can.emcys = m :: rest →
      Answers .emcyInhibitEnd s (fun t => Out.emcy m.code m.reg m.id m.slot ∈ t.dev.out ∧ t.dev.od.can = { s.dev.od.can with emcys := rest, emcyAt := some s.dev.now } ∧ Dev.OnlyChanged [] [] [] s.dev t.dev)) ∧
  (∀ (s : State) (ms : Nat), s.dev.managed = true ∧ s.dev.od.can.busOff = false ∧ s.dev.objNat 0x1017 = ms ∧ ms ≠ 0 ∧ s.dev.od.can.hbAt + ms * 1000000 ≤ s.dev.now →
      Answers .producerHeartbeat s (fun t => Out.canHeartbeat s.dev.nodeId s.dev.od.can.nmt.code ∈ t.dev.out ∧ t.dev.od.can = { s.dev.od.can with hbAt := s.dev.now } ∧ Dev.OnlyChanged [] [] [] s.dev t.dev)) ∧
  (∀ (s : State),
      (s.dev.managed = true → s.dev.od.can.busOff = false → Answers (.canBusOff true) s (fun t => t.dev.od.can = { s.dev.od.can with busOff := true } ∧ s.told t .pl 0x3F6 ∧ Dev.OnlyChanged [] [] [] s.dev t.dev)) ∧
      (s.dev.managed = true → s.dev.od.can.busOff = false → Answers (.canBusOff false) s (fun t => t.dev.od.can = s.dev.od.can ∧ s.told t .pl 0x3F6 ∧ Dev.OnlyChanged [] [] [] s.dev t.dev)) ∧
      (s.dev.od.can.busOff = true → Answers .canBusOffRecovery s (fun t => t.dev.od.can = { s.dev.od.can with busOff := false } ∧ Dev.OnlyChanged [] [] [] s.dev t.dev)))

/-- OPEN makes an Observer session with a fresh nonce, or is answered 0504_0005h while 8 are open; a request of a session that is not open is answered with it too. A request whose tag fails, or that lacks one, is discarded and counted. The next SEQ is executed and its response stored; the last SEQ gets the stored response again; any other is answered 0504_0001h and executes nothing. ENC in a session below Custodian is answered 0800_0021h. READ answers the object's value, WRITE stores one, PROVE spends the nonce and raises the session where the proof is right, CLOSE answers and ends the session. ARP and echo requests are answered (14 R551, R552, R575-R579). -/
def Obligations.ObjectAccessProtocol : Prop :=
  (∀ (s : State) (seq : Word) (n : Nat), s.dev.managed = true ∧ t1sNumbers.find? (fun n => !(s.dev.session n).openT1s) = some n →
      Answers (.oapOpen seq) s (fun t => (t.dev.session n).openT1s = true ∧ (t.dev.session n).level = .observer ∧ (t.dev.session n).seq = seq.toNat ∧ (t.dev.session n).key = none ∧ ((t.dev.session n).nonce.any (fun v => v.length == 16 && (t.dev.session n).response == some (0, v))) = true ∧
      (∀ k, k ≠ n → t.dev.session k = s.dev.session k) ∧ (t.dev.out.any (fun o => match o with | .oapResponse k _ => k == n | _ => false)) = true ∧ Dev.OnlyChanged [.od, .fresh] [] [] s.dev t.dev)) ∧
  (∀ (s : State) (seq : Word), s.dev.managed = true ∧ t1sNumbers.all (fun n => (s.dev.session n).openT1s) = true →
      Answers (.oapOpen seq) s (fun t => Out.oapResponse 0 (oapHeader 0x83 0 seq.toNat 0 0 0 0 0 0x05040005) ∈ t.dev.out ∧ Dev.OnlyChanged [] [] [] s.dev t.dev)) ∧
  (∀ (s : State) (m : OapMsg) (n : Nat), s.dev.managed = true ∧ m.session.toNat = n ∧ (t1sNumbers.contains n = false ∨ (s.dev.session n).openT1s = false) →
      Answers (.oapRead m) s (fun t => Out.oapResponse n (oapHeader (1 + 0x80) n m.seq.toNat m.index.toNat m.sub.toNat 0 m.offset.toNat 0 0x05040005) ∈ t.dev.out ∧ Dev.OnlyChanged [] [] [] s.dev t.dev) ∧
      Answers (.oapWrite m) s (fun t => Out.oapResponse n (oapHeader (2 + 0x80) n m.seq.toNat m.index.toNat m.sub.toNat 0 m.offset.toNat 0 0x05040005) ∈ t.dev.out ∧ Dev.OnlyChanged [] [] [] s.dev t.dev) ∧
      Answers (.oapProve m) s (fun t => Out.oapResponse n (oapHeader (4 + 0x80) n m.seq.toNat m.index.toNat m.sub.toNat 0 m.offset.toNat 0 0x05040005) ∈ t.dev.out ∧ Dev.OnlyChanged [] [] [] s.dev t.dev) ∧
      Answers (.oapClose m) s (fun t => Out.oapResponse n (oapHeader (5 + 0x80) n m.seq.toNat m.index.toNat m.sub.toNat 0 m.offset.toNat 0 0x05040005) ∈ t.dev.out ∧ Dev.OnlyChanged [] [] [] s.dev t.dev)) ∧
  (∀ (s : State) (m : OapMsg) (n : Nat) (x : Session), s.dev.managed = true ∧ m.session.toNat = n ∧ t1sNumbers.contains n = true ∧ s.dev.session n = x ∧ x.openT1s = true →
      (oapContent m 1 x.key = none → Answers (.oapRead m) s (fun t => t.dev.out = [] ∧ t.dev.od.tagFails = s.dev.od.tagFails + 1 ∧ (∀ j, t.dev.session j = s.dev.session j) ∧ Dev.OnlyChanged [.od] [] [] s.dev t.dev)) ∧
      (oapContent m 2 x.key = none → Answers (.oapWrite m) s (fun t => t.dev.out = [] ∧ t.dev.od.tagFails = s.dev.od.tagFails + 1 ∧ (∀ j, t.dev.session j = s.dev.session j) ∧ Dev.OnlyChanged [.od] [] [] s.dev t.dev)) ∧
      (oapContent m 4 x.key = none → Answers (.oapProve m) s (fun t => t.dev.out = [] ∧ t.dev.od.tagFails = s.dev.od.tagFails + 1 ∧ (∀ j, t.dev.session j = s.dev.session j) ∧ Dev.OnlyChanged [.od] [] [] s.dev t.dev)) ∧
      (oapContent m 5 x.key = none → Answers (.oapClose m) s (fun t => t.dev.out = [] ∧ t.dev.od.tagFails = s.dev.od.tagFails + 1 ∧ (∀ j, t.dev.session j = s.dev.session j) ∧ Dev.OnlyChanged [.od] [] [] s.dev t.dev))) ∧
  (∀ (s : State) (m : OapMsg) (n : Nat) (x : Session), s.dev.managed = true ∧ m.session.toNat = n ∧ t1sNumbers.contains n = true ∧ s.dev.session n = x ∧ x.openT1s = true → m.seq.toNat = x.seq →
      (oapContent m 1 x.key ≠ none → Answers (.oapRead m) s (fun t => (x.response.isSome = true → (t.dev.out.any (fun o => match o with | .oapResponse j _ => j == n | _ => false)) = true) ∧ Dev.OnlyChanged [] [] [] s.dev t.dev)) ∧
      (oapContent m 2 x.key ≠ none → Answers (.oapWrite m) s (fun t => (x.response.isSome = true → (t.dev.out.any (fun o => match o with | .oapResponse j _ => j == n | _ => false)) = true) ∧ Dev.OnlyChanged [] [] [] s.dev t.dev)) ∧
      (oapContent m 4 x.key ≠ none → Answers (.oapProve m) s (fun t => (x.response.isSome = true → (t.dev.out.any (fun o => match o with | .oapResponse j _ => j == n | _ => false)) = true) ∧ Dev.OnlyChanged [] [] [] s.dev t.dev)) ∧
      (oapContent m 5 x.key ≠ none → Answers (.oapClose m) s (fun t => (x.response.isSome = true → (t.dev.out.any (fun o => match o with | .oapResponse j _ => j == n | _ => false)) = true) ∧ Dev.OnlyChanged [] [] [] s.dev t.dev))) ∧
  (∀ (s : State) (m : OapMsg) (n : Nat) (x : Session), s.dev.managed = true ∧ m.session.toNat = n ∧ t1sNumbers.contains n = true ∧ s.dev.session n = x ∧ x.openT1s = true → m.seq.toNat ≠ x.seq ∧ m.seq.toNat ≠ (x.seq + 1) % 2 ^ 32 →
      (oapContent m 1 x.key ≠ none → Answers (.oapRead m) s (fun t => (x.key = none → Out.oapResponse n (oapHeader (1 + 0x80) n m.seq.toNat m.index.toNat m.sub.toNat (if m.enc then 1 else 0) m.offset.toNat 0 0x05040001) ∈ t.dev.out) ∧
      (∀ j, t.dev.session j = s.dev.session j) ∧ Dev.OnlyChanged [.od] [] [] s.dev t.dev)) ∧
      (oapContent m 2 x.key ≠ none → Answers (.oapWrite m) s (fun t => (x.key = none → Out.oapResponse n (oapHeader (2 + 0x80) n m.seq.toNat m.index.toNat m.sub.toNat (if m.enc then 1 else 0) m.offset.toNat 0 0x05040001) ∈ t.dev.out) ∧
      (∀ j, t.dev.session j = s.dev.session j) ∧ Dev.OnlyChanged [.od] [] [] s.dev t.dev)) ∧
      (oapContent m 4 x.key ≠ none → Answers (.oapProve m) s (fun t => (x.key = none → Out.oapResponse n (oapHeader (4 + 0x80) n m.seq.toNat m.index.toNat m.sub.toNat (if m.enc then 1 else 0) m.offset.toNat 0 0x05040001) ∈ t.dev.out) ∧
      (∀ j, t.dev.session j = s.dev.session j) ∧ Dev.OnlyChanged [.od] [] [] s.dev t.dev)) ∧
      (oapContent m 5 x.key ≠ none → Answers (.oapClose m) s (fun t => (x.key = none → Out.oapResponse n (oapHeader (5 + 0x80) n m.seq.toNat m.index.toNat m.sub.toNat (if m.enc then 1 else 0) m.offset.toNat 0 0x05040001) ∈ t.dev.out) ∧
      (∀ j, t.dev.session j = s.dev.session j) ∧ Dev.OnlyChanged [.od] [] [] s.dev t.dev))) ∧
  (∀ (s : State) (m : OapMsg) (n : Nat) (x : Session), s.dev.managed = true ∧ m.session.toNat = n ∧ t1sNumbers.contains n = true ∧ s.dev.session n = x ∧ x.openT1s = true → m.seq.toNat ≠ x.seq ∧ m.seq.toNat = (x.seq + 1) % 2 ^ 32 ∧ x.response = none →
      (oapContent m 1 x.key ≠ none → Answers (.oapRead m) s (fun t => (∀ j, t.dev.session j = s.dev.session j) ∧ Dev.OnlyChanged [] [] [] s.dev t.dev)) ∧
      (oapContent m 2 x.key ≠ none → Answers (.oapWrite m) s (fun t => (∀ j, t.dev.session j = s.dev.session j) ∧ Dev.OnlyChanged [] [] [] s.dev t.dev)) ∧
      (oapContent m 4 x.key ≠ none → Answers (.oapProve m) s (fun t => (∀ j, t.dev.session j = s.dev.session j) ∧ Dev.OnlyChanged [] [] [] s.dev t.dev)) ∧
      (oapContent m 5 x.key ≠ none → Answers (.oapClose m) s (fun t => (∀ j, t.dev.session j = s.dev.session j) ∧ Dev.OnlyChanged [] [] [] s.dev t.dev))) ∧
  (∀ (s : State) (m : OapMsg) (n : Nat) (x : Session), s.dev.managed = true ∧ m.session.toNat = n ∧ t1sNumbers.contains n = true ∧ s.dev.session n = x ∧ x.openT1s = true → m.seq.toNat ≠ x.seq ∧ m.seq.toNat = (x.seq + 1) % 2 ^ 32 ∧ x.response.isSome = true ∧ m.enc = true ∧ x.level ≠ .custodian →
      (oapContent m 1 x.key ≠ none → Answers (.oapRead m) s (fun t => Out.dictAnswer n 0x08000021 [] ∈ t.dev.out ∧ (t.dev.session n).seq = m.seq.toNat ∧
      (t.dev.session n).response = some (0x08000021, []) ∧ (t.dev.session n).level = x.level ∧ (∀ j, j ≠ n → t.dev.session j = s.dev.session j) ∧ Dev.OnlyChanged [.od] [] [] s.dev t.dev)) ∧
      (oapContent m 2 x.key ≠ none → Answers (.oapWrite m) s (fun t => Out.dictAnswer n 0x08000021 [] ∈ t.dev.out ∧ (t.dev.session n).seq = m.seq.toNat ∧
      (t.dev.session n).response = some (0x08000021, []) ∧ (t.dev.session n).level = x.level ∧ (∀ j, j ≠ n → t.dev.session j = s.dev.session j) ∧ Dev.OnlyChanged [.od] [] [] s.dev t.dev)) ∧
      (oapContent m 4 x.key ≠ none → Answers (.oapProve m) s (fun t => Out.dictAnswer n 0x08000021 [] ∈ t.dev.out ∧ (t.dev.session n).seq = m.seq.toNat ∧
      (t.dev.session n).response = some (0x08000021, []) ∧ (t.dev.session n).level = x.level ∧ (∀ j, j ≠ n → t.dev.session j = s.dev.session j) ∧ Dev.OnlyChanged [.od] [] [] s.dev t.dev)) ∧
      (oapContent m 5 x.key ≠ none → Answers (.oapClose m) s (fun t => Out.dictAnswer n 0x08000021 [] ∈ t.dev.out ∧ (t.dev.session n).seq = m.seq.toNat ∧
      (t.dev.session n).response = some (0x08000021, []) ∧ (t.dev.session n).level = x.level ∧ (∀ j, j ≠ n → t.dev.session j = s.dev.session j) ∧ Dev.OnlyChanged [.od] [] [] s.dev t.dev))) ∧
  (∀ (s u : State) (m : OapMsg) (n : Nat) (x : Session) (data : List Byte) (o : Obj), s.dev.managed = true ∧ m.session.toNat = n ∧ t1sNumbers.contains n = true ∧ s.dev.session n = x ∧ x.openT1s = true ∧ x.response.isSome = true → m.seq.toNat ≠ x.seq ∧ m.seq.toNat = (x.seq + 1) % 2 ^ 32 ∧ (m.enc = false ∨ x.level = .custodian) → oapContent m 1 x.key = some data ∧ u = s.after (fun d => d.setSession n { x with seq := m.seq.toNat, req := oapReqOf m 1, response := none }) → u.dev.object m.index.toNat m.sub.toNat = some (some o) ∧ o.right.writeOnly = false ∧ (o.guarded = false ∨ u.dev.sessionLevel n = .custodian) ∧ (o.addr.map u.dev.unreached).getD false = false ∧ m.index ≠ 0x2004#16 →
      Answers (.oapRead m) s (fun t => Out.dictAnswer n 0 (if o.size.bytes.isSome then o.read else (o.read.drop m.offset.toNat).take 1024) ∈ t.dev.out ∧ (t.dev.session n).seq = m.seq.toNat ∧ (t.dev.session n).req = { op := 1, index := m.index.toNat, sub := m.sub.toNat, offset := m.offset.toNat, enc := m.enc } ∧
      (t.dev.session n).response = some (0, if o.size.bytes.isSome then o.read else (o.read.drop m.offset.toNat).take 1024) ∧ (t.dev.session n).level = x.level ∧ (t.dev.session n).lastAccess = s.dev.now ∧ (t.dev.out.any (fun o => match o with | .oapResponse j _ => j == n | _ => false)) = true ∧
      (∀ j, j ≠ n → t.dev.session j = s.dev.session j) ∧ Dev.OnlyChanged [.od] [] [] s.dev t.dev)) ∧
  (∀ (s u : State) (m : OapMsg) (n : Nat) (x : Session) (data : List Byte) (o : Obj) (l : Level), s.dev.managed = true ∧ m.session.toNat = n ∧ t1sNumbers.contains n = true ∧ s.dev.session n = x ∧ x.openT1s = true ∧ x.response.isSome = true → m.seq.toNat ≠ x.seq ∧ m.seq.toNat = (x.seq + 1) % 2 ^ 32 ∧ (m.enc = false ∨ x.level = .custodian) → oapContent m 2 x.key = some data ∧ u = s.after (fun d => d.setSession n { x with seq := m.seq.toNat, req := oapReqOf m 2, response := none }) → u.dev.object m.index.toNat m.sub.toNat = some (some o) ∧ o.kind = .own ∧ o.right.writeLevel = some l ∧ l.code ≤ (u.dev.sessionLevel n).code ∧ (o.addr.map u.dev.unreached).getD false = false ∧ o.size.bytes = some data.length → u.dev.ownCheck m.index.toNat m.sub.toNat (leNat data) = 0 →
      Answers (.oapWrite m) s (fun t => t.dev.obj m.index.toNat m.sub.toNat = data ∧ (t.dev.session n).seq = m.seq.toNat ∧ (t.dev.session n).response = none ∧ (t.dev.fw.storing.any (fun e => e.session == some n && e.object == some (objKey m.index.toNat m.sub.toNat, data))) = true ∧
      (∀ j, j ≠ n → t.dev.session j = s.dev.session j) ∧ Dev.OnlyChanged [.od, .fw] [] [] s.dev t.dev)) ∧
  (∀ (s : State) (m : OapMsg) (n : Nat) (x : Session) (level : Byte) (tag cs v : List Byte) (l : Level), s.dev.managed = true ∧ m.session.toNat = n ∧ t1sNumbers.contains n = true ∧ s.dev.session n = x ∧ x.openT1s = true ∧ x.response.isSome = true → m.seq.toNat ≠ x.seq ∧ m.seq.toNat = (x.seq + 1) % 2 ^ 32 ∧ (m.enc = false ∨ x.level = .custodian) → oapContent m 4 x.key = some (level :: tag) ∧ tag.length = 16 ∧ s.dev.cust.cs = some cs ∧ x.nonce = some v ∧ l.code = level.toNat ∧ level ≠ 0#8 → (s.dev.od.proofRefused.get none 1).all (fun a => s.dev.expired .pl a 1000000000) = true →
      Answers (.oapProve m) s (fun t => (t.dev.session n).nonce = none ∧ (t.dev.session n).seq = m.seq.toNat ∧ (∀ j, j ≠ n → t.dev.session j = s.dev.session j) ∧
      (if tag = Config.gmac (proofKeyOf l cs) (v.take 12) (ascii "LAMCY-PROVE" ++ serialBytes ++ le 4 n ++ le 1 level.toNat ++ v) then
      (t.dev.session n).level = (if x.level = .custodian then .custodian else l) ∧ (t.dev.session n).key = some ((Config.sha384 (ascii "LAMCY-YD9624-SESS" ++ proofKeyOf l cs ++ v)).take 32) ∧ s.told t .pl 0x3F0 (le 1 1 ++ le 4 n ++ le 1 level.toNat) ∧ Out.dictAnswer n 0 [] ∈ t.dev.out
      else (t.dev.session n).level = x.level ∧ (t.dev.session n).key = x.key ∧ s.told t .pl 0x3F1 (le 1 1 ++ le 4 n) ∧ Out.dictAnswer n 0x08000020 [] ∈ t.dev.out) ∧ Dev.OnlyChanged [.od, .fw] [] [] s.dev t.dev)) ∧
  (∀ (s : State) (m : OapMsg) (n : Nat) (x : Session) (data : List Byte), s.dev.managed = true ∧ m.session.toNat = n ∧ t1sNumbers.contains n = true ∧ s.dev.session n = x ∧ x.openT1s = true ∧ x.response.isSome = true → m.seq.toNat ≠ x.seq ∧ m.seq.toNat = (x.seq + 1) % 2 ^ 32 ∧ (m.enc = false ∨ x.level = .custodian) → oapContent m 5 x.key = some data →
      Answers (.oapClose m) s (fun t => t.dev.session n = {} ∧ Out.dictAnswer n 0 [] ∈ t.dev.out ∧ (t.dev.out.any (fun o => match o with | .oapResponse j _ => j == n | _ => false)) = true ∧ (∀ j, j ≠ n → t.dev.session j = s.dev.session j) ∧ Dev.OnlyChanged [.od] [] [] s.dev t.dev)) ∧
  (∀ (s : State) (echo : Bool), s.dev.managed = true →
      Answers (.mgmtAddressFrame echo) s (fun t => t.dev.out = [Out.mgmtAnswer echo] ∧ Dev.OnlyChanged [] [] [] s.dev t.dev))

/-- The recorder takes the occurrence that comes next, at most one every 500 ns: one that repeats the last record placed is folded into it and places nothing; a new one takes its slot and the next SEQ and leaves every other slot alone, produces its EMCY and its MSI-X message or waits for the hold-off; one that finds no slot is counted in EV_DROP. The buffer moves to the ledger once that is reached. A read of EV_REC or CNT_WIN_DATA takes a version for its requester at word 0. A snapshot advances SNAP, holds isolated counters, writes its header and the counters of the dies that finished, then applies changed selections; where its stack is cut off it is only counted. A sample is written to the next slot (15 R590-R609). -/
def Obligations.RecorderAndCounters : Prop :=
  (∀ (s : State) (o : Occ) (u : Dev) (x : RecStore) (k v : Nat) (r : Rec), s.evq.next = some o ∧ s.dev.evr.nextTake ≤ s.dev.now ∧ o.stamp ≤ s.dev.now → u = s.dev.moveBuffer ∧ x = u.recStore ∧ v = eventSeverity o.id →
      (x.lastSlot = some k → x.slots.find k = some r → r.repeatedBy o = true → Answers .eventTake s (fun t => t.dev.recStore = { x with slots := x.slots.insert k { r with repeats := r.repeats + 1, last := max r.last o.stamp }, head := k } ∧
      t.evq = s.evq.without o ∧ t.dev.evr.nextTake = s.dev.now + 500 ∧ t.dev.out = [] ∧ Dev.OnlyChanged [.evr] [] [] s.dev t.dev)) ∧
      ((x.lastSlot.bind (fun j => x.slots.find j)).all (fun r => !r.repeatedBy o) = true → u.recSlotFor v = some k → Answers .eventTake s (fun t =>
      t.dev.recStore = { slots := x.slots.insert k { o.record with seq := x.nextSeq, gap := u.evr.gap, buffered := !u.recorderReached }, nextSeq := x.nextSeq + 1, lastSlot := some k, head := k } ∧
      t.dev.evr.nextTake = s.dev.now + 500 ∧ t.evq.pe = (s.evq.without o).pe ∧ t.evq.pw = (s.evq.without o).pw ∧ t.evq.pl = (s.evq.without o).pl ∧
      (s.dev.objNat 0x2D00 ≤ v → s.dev.emcyAllowed = true → s.dev.emcyFree = true → s.dev.od.can.emcys = [] → Out.emcy (0xFF00 + v) s.dev.errorRegister o.id (k % 2 ^ 24) ∈ t.dev.out) ∧
      (s.dev.fld .EV_IRQ_MIN ≤ v → s.dev.flag .EP_IRQ_SRC_EN 0 = true → s.dev.recHeld = false → s.dev.fld .EP_IRQ_SRC_VEC 0 < 64 → (s.dev.epFn 1).busMaster = true → (s.dev.epFn 1).unmasked.contains (s.dev.fld .EP_IRQ_SRC_VEC 0) = true →
      Out.msix 1 (s.dev.fld .EP_IRQ_SRC_VEC 0) ∈ t.dev.out ∧ t.dev.evr.holdUntil = some (s.dev.now + s.dev.fld .EV_IRQ_HOLDOFF * 1000)) ∧
      (s.dev.fld .EV_IRQ_MIN ≤ v → s.dev.flag .EP_IRQ_SRC_EN 0 = true → s.dev.recHeld = true → t.dev.evr.irqWaiting = true ∧ t.dev.ep = s.dev.ep) ∧
      Dev.OnlyChanged [.evr, .ep] [] [.EP_MSIX_SENT] s.dev t.dev)) ∧
      ((x.lastSlot.bind (fun j => x.slots.find j)).all (fun r => !r.repeatedBy o) = true → u.recSlotFor v = none → Answers .eventTake s (fun t => t.dev.recStore = x ∧ t.dev.evr.drops.get 0 v = min 0xFFFFFFFF (u.evr.drops.get 0 v + 1) ∧ t.dev.evr.gap = true ∧
      t.dev.evr.nextTake = s.dev.now + 500 ∧ t.evq = s.evq.without o ∧ t.dev.out = [] ∧ Dev.OnlyChanged [.evr] [] [] s.dev t.dev))) ∧
  (∀ (s : State) (r : Rec) (b k : Nat), s.dev.recorderReached = true ∧ s.dev.evr.buffer.slots = [(b, r)] ∧ s.dev.recSlotFor r.severity = some k →
      Answers .bufferMove s (fun t => t.dev.evr.buffer = {} ∧ t.dev.evr.ledger = { slots := s.dev.evr.ledger.slots.insert k { r with seq := s.dev.evr.ledger.nextSeq, gap := r.gap || s.dev.evr.gap }, nextSeq := s.dev.evr.ledger.nextSeq + 1, lastSlot := some k, head := k } ∧
      t.dev.out = [] ∧ Dev.OnlyChanged [.evr] [] [] s.dev t.dev)) ∧
  (∀ (s : State), s.dev.evr.buffer.slots ≠ [] →
      (s.dev.recorderReached = true → Answers .bufferMove s (fun t => t.dev.evr.buffer = {} ∧ s.dev.evr.ledger.nextSeq ≤ t.dev.evr.ledger.nextSeq ∧ t.dev.evr.ledger.nextSeq ≤ s.dev.evr.ledger.nextSeq + s.dev.evr.buffer.slots.length ∧ Dev.OnlyChanged [.evr] [] [] s.dev t.dev)) ∧
      (s.dev.recorderReached = false → Answers .bufferMove s (fun t => t.dev.evr.buffer = s.dev.evr.buffer ∧ t.dev.evr.ledger = s.dev.evr.ledger ∧ Dev.OnlyChanged [] [] [] s.dev t.dev))) ∧
  (∀ (s : State) (v : Nat), s.dev.evr.irqWaiting = true ∧ s.dev.recHeld = false ∧ s.dev.flag .EP_IRQ_SRC_EN 0 = true ∧ s.dev.fld .EP_IRQ_SRC_VEC 0 = v ∧ v < 64 →
      Answers .eventIrqHoldoffEnd s (fun t => t.dev.evr.irqWaiting = false ∧ t.dev.evr.holdUntil = some (s.dev.now + s.dev.fld .EV_IRQ_HOLDOFF * 1000) ∧
      ((s.dev.epFn 1).busMaster = true → (s.dev.epFn 1).unmasked.contains v = true → Out.msix 1 v ∈ t.dev.out ∧ t.dev.ctr .EP_MSIX_SENT = (s.dev.ctr .EP_MSIX_SENT + 1) % 2 ^ 64) ∧
      ((s.dev.epFn 1).busMaster = false ∨ (s.dev.epFn 1).unmasked.contains v = false → v ∈ (t.dev.epFn 1).waiting) ∧ Dev.OnlyChanged [.evr, .ep] [] [.EP_MSIX_SENT] s.dev t.dev)) ∧
  (∀ (s : State) (req : Requester) (word : Fin 16) (k : Nat) (ws : List Word), s.dev.served = true ∧ s.dev.blockIsolated (Reg.addr .EV_REC word.val) = false ∧ k = requesterKey req → ws = (if word.val = 0 then wordsOf (s.dev.recStore.slotBytes (s.dev.fld .EV_RDIDX_SLOT)) else s.dev.evr.heldRec.get [] k) →
      Answers (.evRecRead req word) s (fun t => Out.value req (ws.getD word.val 0) ∈ t.dev.out ∧ t.dev.evr.heldRec.get [] k = ws ∧ (∀ j, j ≠ k → t.dev.evr.heldRec.get [] j = s.dev.evr.heldRec.get [] j) ∧
      t.dev.recStore = s.dev.recStore ∧ Dev.OnlyChanged [.evr] [] [] s.dev t.dev)) ∧
  (∀ (s : State) (req : Requester) (word : Fin 16) (k : Nat) (ws : List Word), s.dev.served = true ∧ s.dev.blockIsolated (Reg.addr .CNT_WIN_DATA word.val) = false ∧ k = requesterKey req → ws = (if word.val = 0 then wordsOf s.dev.counterWindow else s.dev.evr.heldWin.get [] k) →
      (s.dev.privileged req = true → Answers (.cntWinRead req word) s (fun t => Out.value req (ws.getD word.val 0) ∈ t.dev.out ∧ t.dev.evr.heldWin.get [] k = ws ∧ (∀ j, j ≠ k → t.dev.evr.heldWin.get [] j = s.dev.evr.heldWin.get [] j) ∧ Dev.OnlyChanged [.evr] [] [] s.dev t.dev)) ∧
      (s.dev.privileged req = false → Answers (.cntWinRead req word) s (fun t => Out.value req 0 ∈ t.dev.out ∧ t.dev.evr.refused = s.dev.evr.refused + 1 ∧ t.dev.evr.heldWin = s.dev.evr.heldWin ∧ Dev.OnlyChanged [.evr] [] [] s.dev t.dev))) ∧
  (∀ (s : State) (advance : List (Nat × Nat)) (finished : BitVec 4) (a i c c' e n j : Nat) (sel : Nat × Nat × Nat), s.dev.flag .CNT_CTL_EN = true ∧ s.dev.mode.standby = true ∧ s.dev.now % 10000 = 0 → s.dev.evr.counts.get 0 i = c ∧ c < 2 ^ 48 ∧ s.dev.evr.selections.get (0, 0, 0) i = sel → c' = (if s.dev.isolated (i / 256) = true ∨ countsSomething sel = false then c else (c + ((advance.filter (fun e => e.1 == i)).map Prod.snd).sum) % 2 ^ 48) → e < 4 ∧ n < (snapshotDies.getD e ([], 0)).2 ∧ j < 4 ∧ i = perfKey (clusterPlace (snapshotDies.getD e ([], 0)).1 n).1 (clusterPlace (snapshotDies.getD e ([], 0)).1 n).2 j → a = s.dev.counterBase + (s.dev.evr.snap + 1) % 2 ^ 64 % 2 ^ s.dev.fld .CNT_CTL_SIZE_LOG2 * 17408 →
      Answers (.counterSnapshot advance finished) s (fun t => t.dev.evr.snap = (s.dev.evr.snap + 1) % 2 ^ 64 ∧ t.dev.evr.counts.get 0 i = (if s.dev.counterSetting i = sel then c' else 0) ∧ t.dev.evr.selections.get (0, 0, 0) i = s.dev.counterSetting i ∧
      (∀ m, t.dev.chan m = s.dev.chan m) ∧ Dev.OnlyChanged [.evr, .dma, .fresh] [] [] s.dev t.dev) ∧
      (s.dev.ringCutOff = true → Answers (.counterSnapshot advance finished) s (fun t => t.dev.evr.missed = s.dev.evr.missed + 1 ∧ t.dev.dma = s.dev.dma)) ∧
      (s.dev.ringCutOff = false → Answers (.counterSnapshot advance finished) s (fun t => t.dev.evr.missed = s.dev.evr.missed ∧ (∀ k, k < a ∨ a + 17408 ≤ k → t.dev.dma.hbm.get 0 k = s.dev.dma.hbm.get 0 k) ∧
      t.dev.hbmRead a 64 = le 2 0x4353 ++ le 1 1 ++ le 1 finished.toNat ++ le 4 (((List.range 23).filter (fun r => s.dev.isolated r)).foldl (fun n r => n + 2 ^ r) 0) ++ le 8 ((s.dev.evr.snap + 1) % 2 ^ 64) ++ le 8 s.dev.now ++ le 4 s.dev.evr.snapGen ++ le 36 0 ∧
      (finished.toNat / 2 ^ e % 2 = 1 → t.dev.hbmRead (a + 64 + 24 * ([0, 190, 380, 640].getD e 0 + n) + 6 * j) 6 = le 6 (if s.dev.isolated (i / 256) then 2 ^ 48 - 1 else c'))))) ∧
  (∀ (s : State) (x : Sample) (rest : List Sample) (k a : Nat), s.dev.evr.sampleQueue = x :: rest ∧ s.dev.evr.sampleHead = k ∧ a = s.dev.counterBase + 0x30000000 + 64 * k →
      (s.dev.evr.sampleStopped = false → Answers .sampleRecord s (fun t => t.dev.evr.sampleQueue = rest ∧ t.dev.evr.sampleHead = (k + 1) % 1048576 ∧ t.dev.evr.sampleStopped = (s.dev.flag .SMP_CTL_STOP && k + 1 == 1048576) ∧
      t.dev.hbmRead a 64 = x.bytes ∧ (∀ i, i < a ∨ a + 64 ≤ i → t.dev.dma.hbm.get 0 i = s.dev.dma.hbm.get 0 i) ∧ (∀ m, t.dev.chan m = s.dev.chan m) ∧ Dev.OnlyChanged [.evr, .dma] [] [] s.dev t.dev)) ∧
      (s.dev.evr.sampleStopped = true → Answers .sampleRecord s (fun t => t.dev.evr.sampleQueue = rest ∧ t.dev.evr.sampleHead = k ∧ t.dev.dma = s.dev.dma ∧ Dev.OnlyChanged [.evr] [] [] s.dev t.dev)))

/-- A pier whose control region runs sends a heartbeat every 100 µs over seam 0 and to the quoin, as far as the seams carry it; the package sends one on every bond link that is up. A heartbeat re-arms its receiver's timer; without one for 300 µs the sender is silent, which is counted and recorded with 3FBh, and a pier that finds its partner silent claims what it last saw the partner own, with the epochs it last saw. The quoin refuses a claim whose epochs differ as stale, grants one on items that are the claimant's already without a change, refuses one whose owner it heard within 300 µs as alive, and otherwise makes the claimant owner and advances each epoch by one; a majority claim is checked for neither. A giveback is claimed for the home pier, whose items' epochs advance, with 0D2h; the live volumes' reservations are released. A refused claim is over, with 0D1h (16 R615-R629, R635). -/
def Obligations.HeartbeatsAndClaims : Prop :=
  (∀ (s : State) (pier : Fin 2) (p : Nat), pier.val = p ∧ s.dev.nowOn (pierDie p) % 100000 = 0 →
      Answers (.heartbeatSend (.pier pier)) s (fun t => (Out.heartbeat p false ∈ t.dev.out ↔ s.dev.controlRuns p = true ∧ s.dev.seamUp 0 = true) ∧ (Out.heartbeat p true ∈ t.dev.out ↔ s.dev.controlRuns p = true ∧ s.dev.quoinReaches p = true) ∧ Dev.OnlyChanged [] [] [] s.dev t.dev)) ∧
  (∀ (s : State) (k : Nat) (x : Bond), s.dev.epUp = true ∧ s.dev.nowOn .ln % 100000 = 0 → k < 2 ∧ s.dev.bond k = x ∧ s.dev.bondRuns k = true →
      Answers (.heartbeatSend .package) s (fun t => Out.bondFrame k 1 0 ((x.lseq + 1) % 2 ^ 32) 0 x.training x.frameCtr ∈ t.dev.out ∧
      t.dev.bond k = { x with lseq := (x.lseq + 1) % 2 ^ 32, frameCtr := x.frameCtr + 1, unacked := x.unacked ++ [{ lseq := (x.lseq + 1) % 2 ^ 32, type := 1, bytes := 0 }], ackAt := (if x.unacked.isEmpty then s.dev.nowOn .ln else x.ackAt) } ∧
      (∀ j, (s.dev.bond j).up = false → t.dev.bond j = s.dev.bond j) ∧ { t.dev.own with bonds := [] } = { s.dev.own with bonds := [] } ∧ Dev.OnlyChanged [.own] [] [] s.dev t.dev)) ∧
  (∀ (s : State) (pier : Fin 2) (p : Nat), pier.val = p ∧ s.dev.controlRuns p = true →
      (s.dev.quoinReaches p = true → Answers (.heartbeatReceive pier true) s (fun t => (t.dev.pierOwn p).quoinAt = s.dev.now ∧ (t.dev.pierOwn p).quoinSilent = false ∧
      { t.dev.pierOwn p with quoinAt := 0, quoinSilent := false, seenSlots := [], seenVols := [] } = { s.dev.pierOwn p with quoinAt := 0, quoinSilent := false, seenSlots := [], seenVols := [] } ∧
      ((s.dev.pierOwn p).quoinSilent = true → (t.dev.pierOwn p).seenSlots = s.dev.own.slots ∧ (t.dev.pierOwn p).seenVols = s.dev.own.vols) ∧
      ((s.dev.pierOwn p).quoinSilent = false → (t.dev.pierOwn p).seenSlots = (s.dev.pierOwn p).seenSlots ∧ (t.dev.pierOwn p).seenVols = (s.dev.pierOwn p).seenVols) ∧
      (∀ q, q ≠ p → t.dev.pierOwn q = s.dev.pierOwn q) ∧ { t.dev.own with piers := [] } = { s.dev.own with piers := [] } ∧ Dev.OnlyChanged [.own] [] [] s.dev t.dev)) ∧
      (s.dev.seamUp 0 = true → s.dev.controlRuns (1 - p) = true → Answers (.heartbeatReceive pier false) s (fun t =>
      t.dev.pierOwn (1 - p) = { s.dev.pierOwn (1 - p) with partnerAt := s.dev.nowOn (pierDie (1 - p)), partnerSilent := false } ∧ t.dev.pierOwn p = s.dev.pierOwn p ∧
      { t.dev.own with piers := [] } = { s.dev.own with piers := [] } ∧ Dev.OnlyChanged [.own] [] [] s.dev t.dev))) ∧
  (∀ (s : State) (pier : Fin 2) (p : Nat), pier.val = p ∧ s.dev.mode.diesUp = true → (s.dev.pierOwn p).quoinSilent = false ∧ (s.dev.pierOwn p).quoinAt + 300000 < s.dev.now →
      Answers (.heartbeatTimeout pier true) s (fun t => t.dev.pierOwn p = { s.dev.pierOwn p with quoinSilent := true } ∧ (∀ q, q ≠ p → t.dev.pierOwn q = s.dev.pierOwn q) ∧ { t.dev.own with piers := [] } = { s.dev.own with piers := [] } ∧
      t.dev.ctr .OWN_HB_SILENT = (s.dev.ctr .OWN_HB_SILENT + 1) % 2 ^ 64 ∧ s.told t .pl 0x3FB (le 1 p) ∧ Dev.OnlyChanged [.own] [] [.OWN_HB_SILENT] s.dev t.dev)) ∧
  (∀ (s : State) (pier : Fin 2) (p q : Nat) (x : PierOwn), pier.val = p ∧ q = 1 - p → s.dev.controlRuns q = true ∧ s.dev.pierOwn q = x → x.partnerSilent = false ∧ x.partnerAt + 300000 < s.dev.nowOn (pierDie q) → x.claimAt = none ∧ x.fenced = false →
      Answers (.heartbeatTimeout pier false) s (fun t => (t.dev.pierOwn q).partnerSilent = true ∧ (t.dev.pierOwn q).claimAt = some (s.dev.nowOn (pierDie q)) ∧ (t.dev.pierOwn q).answer = none ∧ (t.dev.pierOwn q).claimMaj = false ∧
      (∀ k, k < 24 → (t.dev.pierOwn q).claimSlots.find? (fun e => e.1 == k) = (if (s.dev.seenSlot q k).owner = q then none else some (k, (s.dev.seenSlot q k).epoch))) ∧
      (∀ v, v < 64 → (t.dev.pierOwn q).claimVols.find? (fun e => e.1 == v) = (if (s.dev.seenVol q v).owner = q then none else some (v, (s.dev.seenVol q v).epoch))) ∧
      { t.dev.pierOwn q with partnerSilent := false, claimAt := none, claimSlots := [], claimVols := [], claimMaj := false, answer := none } = { x with claimSlots := [], claimVols := [], claimMaj := false, answer := none } ∧
      Out.claim q ∈ t.dev.out ∧ t.dev.ctr .OWN_CLAIMS = (s.dev.ctr .OWN_CLAIMS + 1) % 2 ^ 64 ∧ t.dev.ctr .OWN_HB_SILENT = (s.dev.ctr .OWN_HB_SILENT + 1) % 2 ^ 64 ∧
      (∀ r, r ≠ q → t.dev.pierOwn r = s.dev.pierOwn r) ∧ { t.dev.own with piers := [] } = { s.dev.own with piers := [] } ∧
      (s.hears (pierDie q) → s.told t (pierDie q) 0x3FB (le 1 p)) ∧ Dev.OnlyChanged [.own] [] [.OWN_HB_SILENT, .OWN_CLAIMS] s.dev t.dev)) ∧
  (∀ (s : State) (pier : Fin 2) (p : Nat) (x : PierOwn), pier.val = p ∧ s.dev.controlRuns p = true ∧ s.dev.quoinReaches p = true → s.dev.pierOwn p = x ∧ x.claimAt ≠ none ∧ x.answer = none ∧ x.claimMaj = false → s.dev.own.back.contains p = false ∧ s.dev.own.lending ≠ some (1 - p) → (x.claimSlots.map Prod.fst).Nodup ∧ (x.claimVols.map Prod.fst).Nodup →
      Answers (.quoinClaim pier false) s (fun t => (x.claimSlots.any (fun e => (s.dev.quoinSlot e.1).epoch != e.2) = true ∨ x.claimVols.any (fun e => (s.dev.quoinVol e.1).epoch != e.2) = true →
      t.dev.own = (s.dev.quoinAnswer p 1).own) ∧ Dev.OnlyChanged [.own] [] [] s.dev t.dev) ∧
      Answers (.quoinClaim pier false) s (fun t => x.claimSlots.any (fun e => (s.dev.quoinSlot e.1).epoch != e.2) = false → x.claimVols.any (fun e => (s.dev.quoinVol e.1).epoch != e.2) = false →
      (x.claimSlots.all (fun e => (s.dev.quoinSlot e.1).owner == p) = true ∧ x.claimVols.all (fun e => (s.dev.quoinVol e.1).owner == p) = true → t.dev.own = (s.dev.quoinAnswer p 0).own) ∧
      (x.claimSlots.all (fun e => (s.dev.quoinSlot e.1).owner == p) = false ∨ x.claimVols.all (fun e => (s.dev.quoinVol e.1).owner == p) = false →
      (s.dev.now ≤ (s.dev.pierOwn (1 - p)).quoinAt + 300000 → t.dev.own = (s.dev.quoinAnswer p 2).own) ∧
      ((s.dev.pierOwn (1 - p)).quoinAt + 300000 < s.dev.now → (t.dev.pierOwn p).answer = some 0 ∧ t.dev.own.dispute = false ∧
      (∀ k, t.dev.quoinSlot k = if (x.claimSlots.map Prod.fst).contains k then ⟨p, (s.dev.quoinSlot k).epoch + 1⟩ else s.dev.quoinSlot k) ∧
      (∀ v, t.dev.quoinVol v = if (x.claimVols.map Prod.fst).contains v then ⟨p, (s.dev.quoinVol v).epoch + 1⟩ else s.dev.quoinVol v) ∧
      (s.dev.quoinReaches p = true → (t.dev.pierOwn p).seenSlots = t.dev.own.slots ∧ (t.dev.pierOwn p).seenVols = t.dev.own.vols))))) ∧
  (∀ (s : State) (pier : Fin 2) (p v : Nat) (x : PierOwn) (a : Owned), pier.val = p ∧ s.dev.controlRuns p = true ∧ s.dev.quoinReaches p = true → s.dev.pierOwn p = x ∧ x.majority = [v] ∧ x.fenced = false → s.dev.quoinVol v = a ∧ (s.dev.memberSlots v).Nodup →
      Answers (.quoinClaim pier true) s (fun t => (t.dev.pierOwn p).answer = some 0 ∧ (t.dev.pierOwn p).claimAt = some (s.dev.nowOn (pierDie p)) ∧ t.dev.own.dispute = false ∧ t.dev.quoinVol v = ⟨p, a.epoch + 1⟩ ∧ (∀ w, w ≠ v → t.dev.quoinVol w = s.dev.quoinVol w) ∧
      (∀ k, t.dev.quoinSlot k = if (s.dev.memberSlots v).contains k && (s.dev.holder v k == some p) then ⟨p, (s.dev.quoinSlot k).epoch + 1⟩ else s.dev.quoinSlot k) ∧
      t.dev.ctr .OWN_CLAIMS = (s.dev.ctr .OWN_CLAIMS + 1) % 2 ^ 64 ∧ Dev.OnlyChanged [.own] [] [.OWN_CLAIMS] s.dev t.dev)) ∧
  (∀ (s : State) (pier : Fin 2) (h : Nat), pier.val = h ∧ s.dev.controlRuns h = true ∧ s.dev.quoinReaches h = true → s.dev.own.back.contains h = true ∧ s.dev.piersRun = true ∧ s.dev.noDispute = true → s.dev.nvme.cmds = [] ∧ (s.dev.pier (1 - h)).recs = [] →
      Answers (.quoinClaim pier false) s (fun t => (∀ k, k < 24 → t.dev.quoinSlot k = if slotLanes k = h ∧ (s.dev.quoinSlot k).owner ≠ h then ⟨h, (s.dev.quoinSlot k).epoch + 1⟩ else s.dev.quoinSlot k) ∧
      (∀ v, v < 64 → t.dev.quoinVol v = if s.dev.fld .VOL_CFG_HOME v = h ∧ (s.dev.quoinVol v).owner ≠ h then ⟨h, (s.dev.quoinVol v).epoch + 1⟩ else s.dev.quoinVol v)) ∧
      Answers (.quoinClaim pier false) s (fun t => (t.dev.pierOwn h).answer = some 0 ∧ t.dev.own.back.contains h = false ∧ s.told t .pl 0x0D2 ∧
      (∀ v, v < 64 → v ∈ s.dev.awayVols h → (s.dev.vol v).st ≠ .none → ∀ k, k < 24 → (s.dev.memberSlots v).contains k = true → Out.memberRelease (1 - h) k ∈ t.dev.out ∧ t.dev.own.holders.find k = some none) ∧
      Dev.OnlyChanged [.own] [] [] s.dev t.dev)) ∧
  (∀ (s : State) (pier : Fin 2) (p a : Nat), pier.val = p ∧ (s.dev.pierOwn p).answer = some a ∧ a ≠ 0 ∧ s.dev.controlRuns p = true ∧ s.dev.quoinReaches p = true →
      Answers (.claimRefused pier) s (fun t => t.dev.pierOwn p = (s.dev.pierOwn p).claimOver ∧ t.dev.pierOwn (1 - p) = s.dev.pierOwn (1 - p) ∧ { t.dev.own with piers := [] } = { s.dev.own with piers := [] } ∧ (∃ n, s.told t .pl 0x0D1 [] n) ∧
      Dev.OnlyChanged (.own :: .fresh :: workParts) [] ([.LDG_MAP_SETS, .JOB_CKPT_WRITES] ++ workCtrs) s.dev t.dev)) ∧
  (∀ (s : State) (pier : Fin 2) (p v m : Nat) (y : Member), pier.val = p ∧ (s.dev.pierOwn p).answer = some 2 ∧ s.dev.controlRuns p = true ∧ s.dev.quoinReaches p = true → v < 64 ∧ s.dev.volsOf p = [v] ∧ s.dev.nvme.cmds = [] → (s.dev.vol v).members.find m = some y ∧ y.st = .online ∧ y.slot < 24 → (s.dev.vol v).members.keys.Nodup →
      Answers (.claimRefused pier) s (fun t => (t.dev.vol v).members.find m = some (if s.dev.reaches p y.slot then y else { y with st := .missing, missingAt := some (s.dev.nowOn (pierDie p)) })))

/-- On a grant 0D0h is recorded, the claimant serves the granted volumes, commands dispatched to the lost pier end with 21h, and the members it reaches are acquired; a volume is served once none of its Acquires is outstanding and a majority is held, the other pier's records of it being applied and retired. Without an answer within QUOIN_TO every volume is disputed: those held by a strict majority are served and marked, a pier that loses a volume of its own fences itself and isolates its drive region, and 3FCh names the volumes won and lost. Preemptions are repeated every 100 ms while a majority is wanting. A completed Acquire makes the pier the member's holder and its drive region learn the slot's epoch. GIVEBACK holds the volumes that are away from home, without a command under AUTO_BACK once the home pier has run for 10 s; UNFENCE starts the release of the fenced drive regions; where its rule does not allow an OWN_CMD command it is discarded with 0D1h (16 R619-R628, R640). -/
def Obligations.TakeoversAndDisputes : Prop :=
  (∀ (s : State) (pier : Fin 2) (blocks : List Fetched) (p v : Nat) (x : PierOwn) (e : Nat), pier.val = p ∧ s.dev.pierOwn p = x ∧ x.answer = some 0 ∧ s.dev.controlRuns p = true ∧ s.dev.quoinReaches p = true → x.claimVols = [(v, e)] ∧ (s.dev.vol v).st ≠ .none ∧ s.dev.volPier v ≠ p → x.pending = [] ∧ s.dev.own.giving = [] →
      Answers (.claimGrant pier blocks) s (fun t => (t.dev.pierOwn p).claimAt = none ∧ (t.dev.pierOwn p).answer = none ∧ (t.dev.pierOwn p).claimSlots = [] ∧ (t.dev.pierOwn p).claimVols = [] ∧
      t.dev.volPier v = p ∧ (t.dev.pierOwn p).retryAt = s.dev.nowOn (pierDie p) + 100000000 ∧
      s.told t .pl 0x0D0 (le 1 p ++ le 4 (bitmap (x.claimSlots.map Prod.fst)) ++ le 8 (bitmap [v]) ++
      le 4 (max (((x.claimSlots.map Prod.fst).map (fun k => (s.dev.quoinSlot k).epoch)).foldl max 0) (s.dev.quoinVol v).epoch)) ∧
      (∀ id, ((s.dev.cmd id).all (fun c => !(c.io && c.vol == v && c.dispatched && c.status.isNone && !c.completed && !c.cancelled) || (t.dev.cmd id).all (fun y => y.status == some 0x021))) = true) ∧
      Dev.OnlyChanged (.own :: .fresh :: workParts) [] serveCtrs s.dev t.dev) ∧
      Answers (.claimGrant pier blocks) s (fun t => (∀ k, k < 24 → (s.dev.memberSlots v).contains k = true → s.dev.reaches p k = true → s.dev.holder v k ≠ some p → s.dev.own.acquiring.contains (p, k) = false → Out.memberAcquire p k ∈ t.dev.out) ∧
      ((s.dev.memberSlots v).any (fun k => s.dev.own.acquiring.contains (p, k) || (s.dev.reaches p k && s.dev.holder v k != some p)) = true → (t.dev.pierOwn p).pending = [v]))) ∧
  (∀ (s : State) (pier : Fin 2) (held : BitVec 24) (blocks : List Fetched) (p at' : Nat) (x : PierOwn), pier.val = p ∧ s.dev.pierOwn p = x ∧ x.claimAt = some at' ∧ s.dev.controlRuns p = true ∧ x.fenced = false → x.answer = none ∨ s.dev.quoinReaches p = false → s.dev.expired (pierDie p) at' (s.dev.fld .OWN_CFG_QUOIN_TO * 1000) = true →
      Answers (.quoinTimeout pier held blocks) s (fun t => t.dev.own.dispute = true ∧ t.dev.ctr .OWN_DISPUTES = (s.dev.ctr .OWN_DISPUTES + 1) % 2 ^ 64 ∧ (t.dev.pierOwn p).claimAt = none ∧ (t.dev.pierOwn p).answer = none ∧
      (t.dev.pierOwn p).majority = s.dev.volumes.filter (s.dev.winsDispute p held) ∧ (t.dev.pierOwn p).stopped = s.dev.volumes.filter (fun v => !s.dev.winsDispute p held v && s.dev.volPier v == p) ∧
      (t.dev.pierOwn p).fenced = s.dev.volumes.any (fun v => !s.dev.winsDispute p held v && s.dev.volPier v == p) ∧ t.dev.own.slots = s.dev.own.slots ∧ t.dev.own.vols = s.dev.own.vols) ∧
      Answers (.quoinTimeout pier held blocks) s (fun t => (∀ v, v < 64 → (s.dev.vol v).st ≠ .none → t.dev.volPier v = if s.dev.winsDispute p held v then p else s.dev.volPier v) ∧
      Dev.OnlyChanged (.own :: .fresh :: .arch :: .dma :: .cust :: .net :: .sw :: workParts) [] ([.OWN_DISPUTES, .OWN_FENCES, .DMA_ABORTS] ++ serveCtrs) s.dev t.dev)) ∧
  (∀ (s : State) (pier : Fin 2) (held : BitVec 24) (blocks : List Fetched) (p at' : Nat) (x : PierOwn), pier.val = p ∧ s.dev.pierOwn p = x ∧ x.claimAt = some at' ∧ s.dev.controlRuns p = true ∧ x.fenced = false → x.answer = none ∨ s.dev.quoinReaches p = false → s.dev.expired (pierDie p) at' (s.dev.fld .OWN_CFG_QUOIN_TO * 1000) = true → s.dev.volumes.any (s.dev.winsDispute p held) = false ∧ (s.dev.volumes.filter (fun v => s.dev.volPier v == p)) ≠ [] →
      Answers (.quoinTimeout pier held blocks) s (fun t => t.dev.isolated (p * 6) = true ∧ t.dev.ctr .OWN_FENCES = (s.dev.ctr .OWN_FENCES + 1) % 2 ^ 64 ∧ (t.dev.store.vols = s.dev.store.vols) ∧ t.dev.pierUp p = false ∧
      (s.hears (pierDie p) → s.told t (pierDie p) 0x3FC (le 8 0 ++ le 8 (bitmap (s.dev.volumes.filter (fun v => s.dev.volPier v == p))))) ∧ (∀ r, r ≠ p * 6 → t.dev.region r = s.dev.region r))) ∧
  (∀ (s : State) (pier : Fin 2) (held : BitVec 24) (blocks : List Fetched) (p at' v : Nat) (x : PierOwn), pier.val = p ∧ s.dev.pierOwn p = x ∧ x.claimAt = some at' ∧ s.dev.controlRuns p = true ∧ x.fenced = false → x.answer = none ∨ s.dev.quoinReaches p = false → s.dev.expired (pierDie p) at' (s.dev.fld .OWN_CFG_QUOIN_TO * 1000) = true → s.dev.volumes = [v] ∧ s.dev.winsDispute p held v = true ∧ s.dev.volPier v = p → (s.dev.membersIn v [.online, .rebuilding]).all (fun e => s.dev.reaches p e.2) = true ∧ s.dev.nvme.cmds = [] →
      Answers (.quoinTimeout pier held blocks) s (fun t => (t.dev.pierOwn p).majority = [v] ∧ (t.dev.pierOwn p).fenced = false ∧ t.dev.arch = s.dev.arch ∧ t.dev.store = s.dev.store ∧
      (∀ k, k < 24 → (s.dev.memberSlots v).contains k = true → s.dev.reaches p k = true → held.getLsbD k = true → t.dev.own.holders.find k = some (some p)) ∧
      (s.hears (pierDie p) → s.told t (pierDie p) 0x3FC (le 8 (bitmap [v]) ++ le 8 0)) ∧ Dev.OnlyChanged [.own] [] [.OWN_DISPUTES] s.dev t.dev)) ∧
  (∀ (s : State) (pier : Fin 2) (blocks : List Fetched) (p v : Nat) (x : PierOwn), pier.val = p ∧ s.dev.pierOwn p = x ∧ s.dev.controlRuns p = true ∧ x.fenced = false → x.pending = [v] ∧ x.retryAt ≤ s.dev.nowOn (pierDie p) →
      Answers (.preemptRetry pier blocks) s (fun t => (t.dev.pierOwn p).retryAt = s.dev.nowOn (pierDie p) + 100000000 ∧
      (∀ k, k < 24 → (s.dev.memberSlots v).contains k = true → s.dev.reaches p k = true → s.dev.holder v k ≠ some p → Out.memberAcquire p k ∈ t.dev.out ∧ t.dev.own.acquiring.contains (p, k) = true) ∧
      ((s.dev.memberSlots v).any (fun k => s.dev.reaches p k && s.dev.holder v k != some p) = true ∨ s.dev.hasMajority p v = false → (t.dev.pierOwn p).pending = [v] ∧ t.dev.store = s.dev.store) ∧
      (∀ e, e ∈ s.dev.own.acquiring → e.1 ≠ p → e ∈ t.dev.own.acquiring) ∧ Dev.OnlyChanged (.own :: .fresh :: workParts) [] serveCtrs s.dev t.dev)) ∧
  (∀ (s : State) (pier : Fin 2) (slot : Fin 24) (held : Bool) (blocks : List Fetched) (p k : Nat), pier.val = p ∧ slot.val = k ∧ s.dev.reaches p k = true → s.dev.controlRuns p = true ∧ (s.dev.pierOwn p).fenced = false ∧ (s.dev.pierOwn p).pending = [] →
      Answers (.memberAcquireComplete pier slot held blocks) s (fun t => t.dev.own.holders.find k = (if held then some (some p) else s.dev.own.holders.find k) ∧ (∀ j, j ≠ k → t.dev.own.holders.find j = s.dev.own.holders.find j) ∧
      t.dev.own.learned.get 1 k = (if held then max (s.dev.own.learned.get 1 k) (s.dev.seenSlot p k).epoch else s.dev.own.learned.get 1 k) ∧ (∀ j, j ≠ k → t.dev.own.learned.get 1 j = s.dev.own.learned.get 1 j) ∧
      t.dev.own.acquiring = s.dev.own.acquiring.filter (· != (p, k)) ∧ Dev.OnlyChanged [.own] [] [] s.dev t.dev)) ∧
  (∀ (s : State) (pier : Fin 2) (slot : Fin 24) (blocks : List Fetched) (p k v : Nat) (r : IRec), pier.val = p ∧ slot.val = k ∧ s.dev.reaches p k = true → s.dev.controlRuns p = true ∧ (s.dev.pierOwn p).fenced = false ∧ (s.dev.pierOwn p).pending = [v] → (s.dev.memberSlots v).any (fun j => j != k && s.dev.own.acquiring.contains (p, j)) = false → (s.dev.memberSlots v).length < 2 * ((s.dev.memberSlots v).filter (fun j => j == k || s.dev.holder v j == some p)).length → (s.dev.pier (1 - p)).recs = [r] ∧ r.volume = v ∧ r.kind ≠ 0 ∧ r.retired = false ∧ r.committed = true →
      Answers (.memberAcquireComplete pier slot true blocks) s (fun t => (t.dev.pierOwn p).pending = [] ∧ t.dev.own.holders.find k = some (some p) ∧ ((t.dev.pier (1 - p)).recs.all (fun y => y.volume != v || y.kind == 0 || y.retired)) = true ∧
      t.dev.ctr .LDG_REC_REPLAYED (1 - p) = (s.dev.ctr .LDG_REC_REPLAYED (1 - p) + 1) % 2 ^ 64 ∧ t.dev.ctr .LDG_REC_RETIRED (1 - p) = (s.dev.ctr .LDG_REC_RETIRED (1 - p) + 1) % 2 ^ 64 ∧
      Dev.OnlyChanged (.own :: .fresh :: workParts) [] serveCtrs s.dev t.dev)) ∧
  (∀ (s : State) (via : Via), s.dev.commandMade via (Reg.addr .OWN_CMD) = true → (match via with | .reg r => s.dev.privileged r | .dict _ => true) = true →
      Answers (.giveback via) s (fun t => if s.dev.piersRun && s.dev.noDispute && s.dev.own.back.isEmpty then
      t.dev.own.back = ([0, 1].filter (fun h => !(s.dev.awaySlots h).isEmpty || !(s.dev.awayVols h).isEmpty)) ∧
      t.dev.own.giving = t.dev.own.back.flatMap (fun h => (s.dev.awayVols h).filter (fun v => decide ((s.dev.vol v).st ≠ .none))) ∧
      { t.dev.own with back := [], giving := [] } = { s.dev.own with back := [], giving := [] } ∧ Dev.OnlyChanged [.own, .fw, .od] answerFlds [] s.dev t.dev
      else t.dev.own = s.dev.own ∧ (∃ n, s.told t .pl 0x0D1 [] n) ∧ Dev.OnlyChanged [.fresh, .fw, .od] answerFlds [] s.dev t.dev)) ∧
  (∀ (s : State), s.dev.flag .OWN_CFG_AUTO_BACK = true ∧ s.dev.mayGiveBack = true →
      Answers .autoGiveback s (fun t => t.dev.own.back = ([0, 1].filter (fun h => decide ((s.dev.pierOwn h).regionsFrom + 10000000000 ≤ s.dev.now) && (!(s.dev.awaySlots h).isEmpty || !(s.dev.awayVols h).isEmpty))) ∧
      t.dev.own.giving = t.dev.own.back.flatMap (fun h => (s.dev.awayVols h).filter (fun v => decide ((s.dev.vol v).st ≠ .none))) ∧ { t.dev.own with back := [], giving := [] } = { s.dev.own with back := [], giving := [] } ∧ Dev.OnlyChanged [.own] [] [] s.dev t.dev)) ∧
  (∀ (s : State) (via : Via) (p : Nat), s.dev.commandMade via (Reg.addr .OWN_CMD) = true → (match via with | .reg r => s.dev.privileged r | .dict _ => true) = true → p < 2 ∧ (s.dev.pierOwn p).fenced = true → s.dev.quoinReaches 0 = true ∧ s.dev.quoinReaches 1 = true →
      Answers (.unfence via) s (fun t => (t.dev.pierOwn p).fenced = false ∧ (t.dev.pierOwn p).majority = [] ∧ (t.dev.pierOwn p).pending = [] ∧ (t.dev.pierOwn p).stopped = [] ∧
      (∀ v, v < 64 → (s.dev.vol v).st ≠ .none → t.dev.volPier v = (s.dev.quoinVol v).owner) ∧ (s.dev.isolated (p * 6) = true → (t.dev.region (p * 6)).testing = true ∧ t.dev.isolated (p * 6) = true) ∧
      (∀ r, r ≠ 0 → r ≠ 6 → t.dev.region r = s.dev.region r) ∧ t.dev.own.slots = s.dev.own.slots ∧ t.dev.own.vols = s.dev.own.vols ∧ Dev.OnlyChanged [.own, .arch, .store, .fw, .od] answerFlds [] s.dev t.dev)) ∧
  (∀ (s : State) (via : Via), s.dev.commandMade via (Reg.addr .OWN_CMD) = true → (match via with | .reg r => s.dev.privileged r | .dict _ => true) = true → ((s.dev.pierOwn 0).fenced || (s.dev.pierOwn 1).fenced) = false ∨ (s.dev.quoinReaches 0 && s.dev.quoinReaches 1) = false →
      Answers (.unfence via) s (fun t => t.dev.own = s.dev.own ∧ t.dev.arch = s.dev.arch ∧ (∃ n, s.told t .pl 0x0D1 [] n) ∧ Dev.OnlyChanged [.fresh, .fw, .od] answerFlds [] s.dev t.dev))

/-- A bond link trains only with EN and a LOADED service key of use BOND, to a package of another index: it comes up at full width with a training count one higher under the same key, counters anew, and 3FEh; the same index is refused with 3FDh, and a count that cannot grow with 30Bh. An acknowledgement drops every frame up to the LSEQ it names; 10 µs after the last one every unacknowledged frame is sent again under a new FRAME_CTR, counted, and after eight replays of one the link goes down with 3FDh and retrains after 1 ms. A frame whose tag fails is counted and dropped; one out of order is only acknowledged again; the next in order is taken and acknowledged cumulatively: a heartbeat ends its package's silence, a record is kept in the mirror area and answered, a mirror acknowledgement marks the record, a completion ends the forwarded command (07 R302-R304, 16 R630-R638). -/
def Obligations.BondLinks : Prop :=
  (∀ (s : State) (link : Fin 2) (peer : Fin 4) (k key n : Nat) (x : Bond), link.val = k ∧ s.dev.bond k = x ∧ x.up = false → s.dev.serviceKey (s.dev.fld .BOND_CFG_KEY_ID k) useBond = some key → s.dev.epUp = true ∧ s.dev.flag .BOND_CFG_EN k = true ∧ s.dev.flag .BOND_CFG_MIRROR k = false → n = (if x.keyed = key then x.training + 1 else 1) →
      (x.failed = false → peer.val ≠ s.dev.pkgIdx → n < 2 ^ 29 → Answers (.bondLinkUp link peer) s (fun t => t.dev.bond k = { up := true, peer := peer.val, keyed := key, training := n, ackAt := s.dev.nowOn .ln, hbAt := s.dev.nowOn .ln } ∧
      (∀ j, j ≠ k → t.dev.bond j = s.dev.bond j) ∧ t.dev.own.mirrorOff = false ∧ { t.dev.own with bonds := [], mirrorOff := false } = { s.dev.own with bonds := [], mirrorOff := false } ∧
      (s.hears .ln → s.told t .ln 0x3FE (le 1 k ++ le 1 0)) ∧ Dev.OnlyChanged [.own] [] [] s.dev t.dev)) ∧
      (x.failed = true → x.downAt + 1000000 ≤ s.dev.nowOn .ln → peer.val ≠ s.dev.pkgIdx → n < 2 ^ 29 → Answers (.bondRetrain link peer) s (fun t => t.dev.bond k = { up := true, peer := peer.val, keyed := key, training := n, ackAt := s.dev.nowOn .ln, hbAt := s.dev.nowOn .ln } ∧
      (∀ j, j ≠ k → t.dev.bond j = s.dev.bond j) ∧ (s.hears .ln → s.told t .ln 0x3FE (le 1 k ++ le 1 0)) ∧ Dev.OnlyChanged [.own] [] [] s.dev t.dev)) ∧
      (x.failed = false → peer.val = s.dev.pkgIdx → Answers (.bondLinkUp link peer) s (fun t => t.dev.own = s.dev.own ∧ (s.hears .ln → ∃ m, s.told t .ln 0x3FD (le 1 k) m) ∧ Dev.OnlyChanged [.fresh] [] [] s.dev t.dev)) ∧
      (x.failed = false → peer.val ≠ s.dev.pkgIdx → 2 ^ 29 ≤ n → Answers (.bondLinkUp link peer) s (fun t => t.dev.own = s.dev.own ∧ (s.hears .ln → s.told t .ln 0x30B (le 1 k)) ∧ Dev.OnlyChanged [] [] [] s.dev t.dev))) ∧
  (∀ (s : State) (link : Fin 2) (peer : Fin 4), s.dev.serviceKey (s.dev.fld .BOND_CFG_KEY_ID link.val) useBond = none ∨ s.dev.flag .BOND_CFG_EN link.val = false ∨ (s.dev.bond link.val).up = true →
      Answers (.bondLinkUp link peer) s (fun t => Dev.OnlyChanged [] [] [] s.dev t.dev) ∧
      Answers (.bondRetrain link peer) s (fun t => Dev.OnlyChanged [] [] [] s.dev t.dev)) ∧
  (∀ (s : State) (link : Fin 2) (lseq : Word) (k : Nat) (x : Bond) (a b : List BondFrame) (f : BondFrame), link.val = k ∧ s.dev.bond k = x ∧ s.dev.bondRuns k = true → x.unacked = a ++ f :: b ∧ f.lseq = lseq.toNat ∧ a.all (fun g => g.lseq != lseq.toNat) = true →
      Answers (.bondAckReceive link lseq) s (fun t => t.dev.bond k = { x with unacked := b, ackAt := s.dev.nowOn .ln } ∧ (∀ j, j ≠ k → t.dev.bond j = s.dev.bond j) ∧
      { t.dev.own with bonds := [] } = { s.dev.own with bonds := [] } ∧ Dev.OnlyChanged [.own] [] [] s.dev t.dev)) ∧
  (∀ (s : State) (link : Fin 2) (lseq : Word) (x : Bond), s.dev.bond link.val = x ∧ (x.up = false ∨ x.unacked.all (fun g => g.lseq != lseq.toNat) = true) →
      Answers (.bondAckReceive link lseq) s (fun t => Dev.OnlyChanged [] [] [] s.dev t.dev)) ∧
  (∀ (s : State) (link : Fin 2) (k : Nat) (x : Bond), link.val = k ∧ s.dev.bond k = x ∧ s.dev.bondRuns k = true ∧ x.unacked ≠ [] → x.ackAt + 10000 < s.dev.nowOn .ln →
      (x.unacked.all (fun f => decide (f.replays < 8)) = true → Answers (.bondReplayTimeout link) s (fun t =>
      t.dev.bond k = { x with unacked := x.unacked.map (fun f => { f with replays := f.replays + 1 }), ackAt := s.dev.nowOn .ln, frameCtr := x.frameCtr + x.unacked.length } ∧
      (∀ j, ((x.unacked[j]?).all (fun f => t.dev.out.contains (Out.bondFrame k f.type f.cls f.lseq f.bytes x.training (x.frameCtr + j)))) = true) ∧
      t.dev.ctr .OWN_BOND_REPLAYS = (s.dev.ctr .OWN_BOND_REPLAYS + x.unacked.length) % 2 ^ 64 ∧ (∀ j, j ≠ k → t.dev.bond j = s.dev.bond j) ∧ Dev.OnlyChanged [.own] [] [.OWN_BOND_REPLAYS] s.dev t.dev)) ∧
      (x.unacked.any (fun f => decide (8 ≤ f.replays)) = true → Answers (.bondReplayTimeout link) s (fun t =>
      t.dev.bond k = { x with up := false, failed := true, downAt := s.dev.nowOn .ln, unacked := [], width := 8, request := none, low := 0 } ∧ (∀ j, j ≠ k → t.dev.bond j = s.dev.bond j) ∧
      t.dev.own.noBondFrom = (if (s.dev.bond (1 - k)).up then s.dev.own.noBondFrom else s.dev.nowOn .ln) ∧ (s.hears .ln → ∃ m, s.told t .ln 0x3FD (le 1 k) m) ∧
      Dev.OnlyChanged [.own, .fresh, .net, .sw, .ten] [] [] s.dev t.dev))) ∧
  (∀ (s : State) (link : Fin 2) (f : SalbenFrame) (k : Nat) (x : Bond), link.val = k ∧ s.dev.bond k = x ∧ s.dev.bondRuns k = true →
      (f.tagOk = false → Answers (.bondFrameReceive link f) s (fun t => t.dev.own = s.dev.own ∧ t.dev.ctr .CX_BOND_TAG_FAIL = (s.dev.ctr .CX_BOND_TAG_FAIL + 1) % 2 ^ 64 ∧
      t.dev.mark (markBondTag k) = s.dev.mark (markBondTag k) + 1 ∧ Dev.OnlyChanged [.marks] [] [.CX_BOND_TAG_FAIL] s.dev t.dev)) ∧
      (f.tagOk = true → f.lseq.toNat ≠ (x.rxLseq + 1) % 2 ^ 32 → Answers (.bondFrameReceive link f) s (fun t => t.dev.bond k = { x with frameCtr := x.frameCtr + 1 } ∧ Out.bondAck k x.rxLseq ∈ t.dev.out ∧
      (∀ j, j ≠ k → t.dev.bond j = s.dev.bond j) ∧ { t.dev.own with bonds := [] } = { s.dev.own with bonds := [] } ∧ Dev.OnlyChanged [.own] [] [] s.dev t.dev)) ∧
      (f.tagOk = true → f.lseq.toNat = (x.rxLseq + 1) % 2 ^ 32 → f.body = .heartbeat → Answers (.bondFrameReceive link f) s (fun t =>
      t.dev.bond k = { x with rxLseq := f.lseq.toNat, rxCtr := f.ctr.toNat, hbAt := s.dev.nowOn .ln, hbSeen := true, frameCtr := x.frameCtr + 1 } ∧ Out.bondAck k f.lseq.toNat ∈ t.dev.out ∧
      t.dev.own.pkgSilent = s.dev.own.pkgSilent.filter (· != x.peer) ∧ Dev.OnlyChanged [.own] [] [] s.dev t.dev)) ∧
      (f.tagOk = true → f.lseq.toNat = (x.rxLseq + 1) % 2 ^ 32 → f.body = .other → Answers (.bondFrameReceive link f) s (fun t =>
      t.dev.bond k = { x with rxLseq := f.lseq.toNat, rxCtr := f.ctr.toNat, frameCtr := x.frameCtr + 1 } ∧ Out.bondAck k f.lseq.toNat ∈ t.dev.out ∧ { t.dev.own with bonds := [] } = { s.dev.own with bonds := [] } ∧ Dev.OnlyChanged [.own] [] [] s.dev t.dev))) ∧
  (∀ (s : State) (link : Fin 2) (lseq : Word) (fc : BitVec 64) (k p seq v : Nat) (pier : Fin 2) (x : Bond) (blocks : List Fetched), link.val = k ∧ s.dev.bond k = x ∧ s.dev.bondRuns k = true → pier.val = p ∧ lseq.toNat = (x.rxLseq + 1) % 2 ^ 32 →
      Answers (.bondFrameReceive link ⟨true, lseq, fc, .mirror pier seq v blocks⟩) s (fun t => t.dev.own.mirrors = s.dev.own.mirrors.filter (fun m => !(m.pkg == x.peer && m.pier == p && m.seq == seq)) ++ [⟨x.peer, p, seq, v, blocks⟩] ∧
      Out.bondMirrorAck k p seq ∈ t.dev.out ∧ Out.bondAck k lseq.toNat ∈ t.dev.out ∧ (t.dev.bond k).unacked = x.unacked ++ [{ lseq := (x.lseq + 1) % 2 ^ 32, type := 4, bytes := 16 }] ∧
      (∀ j, j ≠ k → t.dev.bond j = s.dev.bond j) ∧ Dev.OnlyChanged [.own] [] [] s.dev t.dev)) ∧
  (∀ (s : State) (link : Fin 2) (lseq : Word) (fc : BitVec 64) (k p seq : Nat) (pier : Fin 2) (x : Bond) (r : IRec), link.val = k ∧ s.dev.bond k = x ∧ s.dev.bondRuns k = true → pier.val = p ∧ lseq.toNat = (x.rxLseq + 1) % 2 ^ 32 ∧ s.dev.record p seq = some r →
      Answers (.bondFrameReceive link ⟨true, lseq, fc, .mirrorAck pier seq⟩) s (fun t => t.dev.record p seq = some { r with mirrored := true } ∧ (∀ j, j ≠ seq → t.dev.record p j = s.dev.record p j) ∧
      Out.bondAck k lseq.toNat ∈ t.dev.out ∧ Dev.OnlyChanged [.own, .ldg] [] [] s.dev t.dev)) ∧
  (∀ (s : State) (link : Fin 2) (lseq : Word) (fc : BitVec 64) (k id st dw0 : Nat) (dnr : Bool) (data : List Byte) (x : Bond) (c : Cmd), link.val = k ∧ s.dev.bond k = x ∧ s.dev.bondRuns k = true → lseq.toNat = (x.rxLseq + 1) % 2 ^ 32 ∧ s.dev.cmd id = some c ∧ c.remote = true ∧ c.io = false → c.status = none ∧ c.completed = false ∧ c.cancelled = false →
      Answers (.bondFrameReceive link ⟨true, lseq, fc, .completion id st dw0 dnr data⟩) s (fun t => t.dev.cmd id = some { c with status := some st, dw0 := dw0, dnr := dnr, data := if c.op = .read then data else c.data } ∧
      (∀ j, j ≠ id → t.dev.cmd j = s.dev.cmd j) ∧ Out.bondAck k lseq.toNat ∈ t.dev.out ∧ Dev.OnlyChanged [.own, .nvme] [] [] s.dev t.dev))

/-- With SHED_EN an end asks for twice the width at once when the bond's output holds more than 64 cells or sent more than 75 % of the rate in the last 10 µs, and for half of it, not below MIN_WIDTH, after four windows in a row with both directions below 25 %. A width request is taken with an acknowledgement that names an LSEQ, counted, with 3FEh; of crossing ones a widening one prevails, and of two of a kind that of the lower PKG_IDX. A package silent on every link for 300 µs is counted with 3FBh, its volumes are disputed with 3FCh, and those won by a strict majority advance their package epoch, with 3FEh, after their mirrored records. While no link is up for 1 ms mirroring is suspended, with 3FDh. A forwarded command is accepted and tracked where its volume is owned, goes on within two hops, or is answered with 82h (16 R633-R638). -/
def Obligations.BondWidthAndPackages : Prop :=
  (∀ (s : State) (link : Fin 2) (tx rx burst k n : Nat) (x : Bond), link.val = k ∧ s.dev.bond k = x ∧ s.dev.bondRuns k = true ∧ x.request = none → s.dev.flag .BOND_CFG_SHED_EN k = true ∧ s.dev.isolated 18 = false → n = ((s.dev.sw.units.filter (fun u => u.output == 11 + k)).map (·.cells)).sum →
      (64 < n ∨ 3 * (125000 * x.width) < 4 * burst → x.width < 8 → Answers (.shedWindowEnd link tx rx burst) s (fun t => t.dev.bond k = { x with request := some (2 * x.width), low := 0, lseq := (x.lseq + 1) % 2 ^ 32, frameCtr := x.frameCtr + 1, unacked := x.unacked ++ [{ lseq := (x.lseq + 1) % 2 ^ 32, type := 9, bytes := 4 }], ackAt := (if x.unacked.isEmpty then s.dev.nowOn .ln else x.ackAt) } ∧
      Out.bondWidth k (2 * x.width) none ∈ t.dev.out ∧ (∀ j, j ≠ k → t.dev.bond j = s.dev.bond j) ∧ Dev.OnlyChanged [.own] [] [] s.dev t.dev)) ∧
      (64 < n ∨ 3 * (125000 * x.width) < 4 * burst → 8 ≤ x.width → Answers (.shedWindowEnd link tx rx burst) s (fun t => Dev.OnlyChanged [] [] [] s.dev t.dev)) ∧
      (n ≤ 64 → 4 * burst ≤ 3 * (125000 * x.width) → s.dev.nowOn .ln % 1000000 = 0 → 4 * tx < 12500000 * x.width → 4 * rx < 12500000 * x.width → 3 ≤ x.low → minWidth (s.dev.fld .BOND_CFG_MIN_WIDTH k) < x.width →
      Answers (.shedWindowEnd link tx rx burst) s (fun t => (t.dev.bond k).request = some (x.width / 2) ∧ (t.dev.bond k).width = x.width ∧ (t.dev.bond k).low = 0 ∧ Out.bondWidth k (x.width / 2) none ∈ t.dev.out ∧ (∀ j, j ≠ k → t.dev.bond j = s.dev.bond j) ∧ Dev.OnlyChanged [.own] [] [] s.dev t.dev)) ∧
      (n ≤ 64 → 4 * burst ≤ 3 * (125000 * x.width) → s.dev.nowOn .ln % 1000000 = 0 → (12500000 * x.width ≤ 4 * tx ∨ 12500000 * x.width ≤ 4 * rx ∨ x.low < 3 ∨ x.width ≤ minWidth (s.dev.fld .BOND_CFG_MIN_WIDTH k)) →
      Answers (.shedWindowEnd link tx rx burst) s (fun t => t.dev.bond k = { x with low := if 4 * tx < 12500000 * x.width ∧ 4 * rx < 12500000 * x.width then min 4 (x.low + 1) else 0 } ∧ (∀ j, j ≠ k → t.dev.bond j = s.dev.bond j) ∧ Dev.OnlyChanged [.own] [] [] s.dev t.dev))) ∧
  (∀ (s : State) (link : Fin 2) (k width : Nat) (x : Bond), link.val = k ∧ s.dev.bond k = x ∧ s.dev.bondRuns k = true → width = 2 * x.width ∨ 2 * width = x.width → width = 2 ∨ width = 4 ∨ width = 8 →
      (x.request = none ∨ (∃ w, x.request = some w ∧ ((decide (x.width < w) = decide (x.width < width) ∧ x.peer < s.dev.pkgIdx) ∨ (w ≤ x.width ∧ x.width < width))) → Answers (.widthRequestReceive link width) s (fun t =>
      (t.dev.bond k).width = width ∧ (t.dev.bond k).request = none ∧ (t.dev.bond k).low = 0 ∧ Out.bondWidth k width (some ((x.lseq + 1) % 2 ^ 32)) ∈ t.dev.out ∧ t.dev.ctr .OWN_WIDTH_CHANGES = (s.dev.ctr .OWN_WIDTH_CHANGES + 1) % 2 ^ 64 ∧
      (s.hears .ln → s.told t .ln 0x3FE (le 1 k ++ le 1 (widthCode width))) ∧ (∀ j, j ≠ k → t.dev.bond j = s.dev.bond j) ∧ Dev.OnlyChanged [.own] [] [.OWN_WIDTH_CHANGES] s.dev t.dev)) ∧
      ((∃ w, x.request = some w ∧ ((decide (x.width < w) = decide (x.width < width) ∧ s.dev.pkgIdx ≤ x.peer) ∨ (x.width < w ∧ width ≤ x.width))) → Answers (.widthRequestReceive link width) s (fun t => t.dev.own = s.dev.own ∧ Dev.OnlyChanged [] [] [] s.dev t.dev))) ∧
  (∀ (s : State) (link : Fin 2) (lseq : Word) (k w : Nat) (x : Bond), link.val = k ∧ s.dev.bond k = x ∧ s.dev.bondRuns k = true →
      (x.request = some w → Answers (.widthAckReceive link lseq) s (fun t => t.dev.bond k = { x with width := w, request := none, low := 0 } ∧ t.dev.ctr .OWN_WIDTH_CHANGES = (s.dev.ctr .OWN_WIDTH_CHANGES + 1) % 2 ^ 64 ∧
      (s.hears .ln → s.told t .ln 0x3FE (le 1 k ++ le 1 (widthCode w))) ∧ (∀ j, j ≠ k → t.dev.bond j = s.dev.bond j) ∧ Dev.OnlyChanged [.own] [] [.OWN_WIDTH_CHANGES] s.dev t.dev)) ∧
      (x.request = none → Answers (.widthAckReceive link lseq) s (fun t => Dev.OnlyChanged [] [] [] s.dev t.dev))) ∧
  (∀ (s : State) (pkg : Fin 4) (held : BitVec 24) (g : Nat), s.dev.epUp = true ∧ pkg.val = g ∧ g ≠ s.dev.pkgIdx ∧ s.dev.own.pkgSilent.contains g = false → [0, 1].any (fun k => (s.dev.bond k).peer == g && (s.dev.bond k).training != 0) = true → [0, 1].all (fun k => (s.dev.bond k).peer != g || (s.dev.bond k).training == 0 || decide ((s.dev.bond k).hbAt + 300000 < s.dev.nowOn .ln)) = true →
      Answers (.packageHeartbeatTimeout pkg held) s (fun t => t.dev.own.pkgSilent = s.dev.own.pkgSilent ++ [g] ∧ t.dev.ctr .OWN_HB_SILENT = (s.dev.ctr .OWN_HB_SILENT + 1) % 2 ^ 64 ∧ (s.hears .ln → s.told t .ln 0x3FB (le 1 g)) ∧
      (∀ v, v < 64 → t.dev.pvol v = if (s.dev.pvol v).pkg = g ∧ (s.dev.cfgSlots v).length < 2 * ((s.dev.cfgSlots v).filter (fun k => s.dev.reaches (s.dev.volPier v) k && held.getLsbD k)).length then ⟨s.dev.pkgIdx, ((s.dev.pvol v).epoch + 1) % 2 ^ 30⟩ else s.dev.pvol v) ∧
      Dev.OnlyChanged [.own, .store] [] [.OWN_HB_SILENT, .OWN_DISPUTES, .DRV_MCMD_ISSUED] s.dev t.dev) ∧
      Answers (.packageHeartbeatTimeout pkg held) s (fun t => ((List.range 64).any (fun v => (s.dev.pvol v).pkg == g) = true → t.dev.own.dispute = true ∧ t.dev.ctr .OWN_DISPUTES = (s.dev.ctr .OWN_DISPUTES + 1) % 2 ^ 64 ∧
      (s.hears .ln → s.told t .ln 0x3FC (le 8 (bitmap ((List.range 64).filter (fun v => (s.dev.pvol v).pkg == g && (t.dev.pvol v).pkg != g))) ++ le 8 (bitmap ((List.range 64).filter (fun v => (t.dev.pvol v).pkg == g)))))) ∧
      ((List.range 64).any (fun v => (s.dev.pvol v).pkg == g) = false → { t.dev.own with pkgSilent := [] } = { s.dev.own with pkgSilent := [] }) ∧ t.dev.store.vols = s.dev.store.vols ∧ t.dev.own.slots = s.dev.own.slots ∧ t.dev.own.vols = s.dev.own.vols) ∧
      Answers (.packageHeartbeatTimeout pkg held) s (fun t => (t.dev.own.mirrors = s.dev.own.mirrors.filter (fun m => !(m.pkg == g && decide (m.volume < 64) && (s.dev.pvol m.volume).pkg == g && (t.dev.pvol m.volume).pkg != g))) ∧
      (s.hears .ln → (List.range 64).any (fun v => (s.dev.pvol v).pkg == g && (t.dev.pvol v).pkg != g) = true → s.told t .ln 0x3FE (le 8 (bitmap ((List.range 64).filter (fun v => (s.dev.pvol v).pkg == g && (t.dev.pvol v).pkg != g))))))) ∧
  (∀ (s : State), s.dev.mirrors = true ∧ s.dev.mode.diesUp = true ∧ (s.dev.bond 0).up = false ∧ (s.dev.bond 1).up = false → s.dev.own.noBondFrom + 1000000 < s.dev.nowOn .ln →
      Answers .mirrorSuspend s (fun t => t.dev.own = { s.dev.own with mirrorOff := true } ∧ t.dev.mirrors = false ∧ (s.hears .ln → ∃ n, s.told t .ln 0x3FD (le 1 (if s.dev.flag .BOND_CFG_MIRROR 0 then 0 else 1)) n) ∧
      Dev.OnlyChanged [.own, .fresh] [] [] s.dev t.dev)) ∧
  (∀ (s : State) (link : Fin 2) (f : Forwarded), s.dev.frontUp = true ∧ s.dev.bondRuns link.val = true ∧ s.dev.numberFree = true →
      ((decide (1 ≤ f.args.nsid ∧ f.args.nsid ≤ 4096) && s.dev.flag .NS_CFG_ACTIVE (f.args.nsid - 1)) = false → Answers (.forwardedCommand link f) s (fun t =>
      s.entered t (.bond link f.tag) (fun x => x.status = some 0x00B ∧ x.dnr = false ∧ x.remote = true ∧ x.cid = f.cid.toNat) ∧ Dev.OnlyChanged [.nvme] [] [] s.dev t.dev)) ∧
      (1 ≤ f.args.nsid → f.args.nsid ≤ 4096 → s.dev.flag .NS_CFG_ACTIVE (f.args.nsid - 1) = true → s.dev.foreignVol (s.dev.nsVol (f.args.nsid - 1)) = true → Answers (.forwardedCommand link f) s (fun t =>
      ((s.dev.linkTo (s.dev.pvol (s.dev.nsVol (f.args.nsid - 1))).pkg).all (fun k => decide (2 ≤ f.hops) || k == link.val) = true → s.entered t (.bond link f.tag) (fun x => x.status = some 0x082 ∧ x.dnr = false) ∧ Dev.OnlyChanged [.nvme] [] [] s.dev t.dev) ∧
      (∀ k, s.dev.linkTo (s.dev.pvol (s.dev.nsVol (f.args.nsid - 1))).pkg = some k → f.hops < 2 → k ≠ link.val → Out.bondForward k s.dev.nvme.nextCmd ∈ t.dev.out ∧ t.dev.ctr .OWN_FWD_COMMANDS = (s.dev.ctr .OWN_FWD_COMMANDS + 1) % 2 ^ 64 ∧
      s.entered t (.bond link f.tag) (fun x => x.status = none ∧ x.remote = true ∧ x.io = false) ∧ Dev.OnlyChanged [.nvme, .own] [] [.OWN_FWD_COMMANDS] s.dev t.dev)))) ∧
  (∀ (s : State) (link : Fin 2) (f : Forwarded) (data : List Byte), s.dev.frontUp = true ∧ s.dev.bondRuns link.val = true ∧ s.dev.numberFree = true → 1 ≤ f.args.nsid ∧ f.args.nsid ≤ 4096 ∧ s.dev.flag .NS_CFG_ACTIVE (f.args.nsid - 1) = true ∧ s.dev.foreignVol (s.dev.nsVol (f.args.nsid - 1)) = false → f.args.slba + f.args.nlb + 1 ≤ s.dev.nsBlocks (f.args.nsid - 1) ∧ s.dev.volumeStatus (f.args.nsid - 1) = none →
      (f.op = .read → (s.dev.resvOf f.args.nsid).allows f.hostId false = true → Answers (.forwardedCommand link f) s (fun t => (∃ x, t.dev.cmd s.dev.nvme.nextCmd = some x ∧ x.op = .read ∧ x.src = .bond link f.tag ∧ x.cid = f.cid.toNat ∧ x.nsid = f.args.nsid ∧ x.remote = true ∧
      x.ranges = [(f.args.slba, f.args.nlb + 1)] ∧ x.seq = s.dev.nvme.seqs.get 0 f.args.nsid + 1 ∧ x.io = true ∧ x.status = none ∧ x.dispatched = x.waits.isEmpty) ∧ t.dev.nvme.seqs.get 0 f.args.nsid = s.dev.nvme.seqs.get 0 f.args.nsid + 1 ∧
      t.dev.ctr .FE_CMD_ACCEPTED = (s.dev.ctr .FE_CMD_ACCEPTED + 1) % 2 ^ 64 ∧ Dev.OnlyChanged workParts [] workCtrs s.dev t.dev)) ∧
      (f.op = .write data → (s.dev.resvOf f.args.nsid).allows f.hostId true = true → Answers (.forwardedCommand link f) s (fun t => (∃ x, t.dev.cmd s.dev.nvme.nextCmd = some x ∧ x.op = .write ∧ x.src = .bond link f.tag ∧ x.nsid = f.args.nsid ∧ x.remote = true ∧ x.io = true ∧
      x.ranges = [(f.args.slba, f.args.nlb + 1)] ∧ x.seq = s.dev.nvme.seqs.get 0 f.args.nsid + 1) ∧ t.dev.ctr .FE_CMD_ACCEPTED = (s.dev.ctr .FE_CMD_ACCEPTED + 1) % 2 ^ 64 ∧ Dev.OnlyChanged workParts [] (workCtrs ++ [.FE_PI_ERR]) s.dev t.dev)) ∧
      (f.op = .read → (s.dev.resvOf f.args.nsid).allows f.hostId false = false → Answers (.forwardedCommand link f) s (fun t => s.entered t (.bond link f.tag) (fun x => x.status = some 0x083 ∧ x.dnr = false) ∧ Dev.OnlyChanged [.nvme] [] [] s.dev t.dev)))

/-- A mode command of a control processor, of PF1 with privilege or of a Custodian session: SERVE in COMMISSION with the key-encryption key ready, recovery complete and a volume sets COMMISSIONED; QUIESCE in SERVICE or CONTAINED enters QUIESCE, its meters' open records closed; RESUME leaves it with every keep-alive timer restarted; RECOMMISSION, in a drained QUIESCE, also clears COMMISSIONED; SHUTDOWN there begins the shutdown with the job checkpoints, the meter checkpoint, the wear counters, the write-hole bits cleared and a Flush for the members with a volatile cache; its end sets the orderly-stop flag, turns slots and rails off, erases the keys and leaves the device in DORMANT waiting for START, with 0CBh. Each change of mode writes CAUSE and records 0C0h. A command its row does not allow, or with more than one bit set, is discarded with 0C9h (17 R643-R649, R668, R669, 18 R681). -/
def Obligations.ModeCommands : Prop :=
  (∀ (s : State) (via : Via), s.dev.commandMade via (Reg.addr .MODE_CMD) = true → (match via with | .reg r => s.dev.privileged r | .dict _ => true) = true → s.dev.modeNow = .commission ∧ s.dev.cust.ready = true ∧ s.dev.recoveringAny = false ∧ s.dev.volumes ≠ [] →
      Answers (.serve via) s (fun t => t.dev.modeNow = .service ∧ t.dev.mode = { s.dev.mode with commissioned := true, cause := 2, hint := 0 } ∧ s.told t .pl 0x0C0 [1#8, 2#8] 2 ∧ Dev.OnlyChanged [.mode, .ldg, .fw, .od] answerFlds [] s.dev t.dev)) ∧
  (∀ (s : State) (via : Via), s.dev.commandMade via (Reg.addr .MODE_CMD) = true → (match via with | .reg r => s.dev.privileged r | .dict _ => true) = true → s.dev.modeNow = .service ∨ s.dev.modeNow = .contained →
      Answers (.quiesce via) s (fun t => t.dev.modeNow = .quiesce ∧ t.dev.mode = { s.dev.mode with quiesced := true, cause := 7, hint := 0 } ∧ (s.dev.metersRun = true → t.dev.ten.meter.opened = []) ∧ s.told t .pl 0x0C0 [BitVec.ofNat 8 s.dev.modeNow.code, 4#8] 7 ∧
      Dev.OnlyChanged [.mode, .fw, .od] answerFlds [] s.dev t.dev)) ∧
  (∀ (s : State) (via : Via), s.dev.commandMade via (Reg.addr .MODE_CMD) = true → (match via with | .reg r => s.dev.privileged r | .dict _ => true) = true → s.dev.modeNow = .quiesce ∧ s.dev.mode.shutting = none →
      Answers (.resume via) s (fun t => t.dev.mode = { s.dev.mode with quiesced := false, cause := 8, hint := 0 } ∧ t.dev.modeNow ≠ .quiesce ∧ (∀ k, t.dev.ctrl k = (s.dev.ctrl k).map (fun c => { c with kaAt := s.dev.nowOn .ln })) ∧
      s.told t .pl 0x0C0 [4#8, BitVec.ofNat 8 t.dev.modeNow.code] 8 ∧ Dev.OnlyChanged [.mode, .nvme, .fw, .od] answerFlds [] s.dev t.dev) ∧
      (s.dev.drained = true → Answers (.recommission via) s (fun t => t.dev.mode = { s.dev.mode with quiesced := false, commissioned := false, cause := 0x0B, hint := 0 } ∧ (t.dev.modeNow = .commission ∨ t.dev.modeNow = .contained) ∧
      (∀ k, t.dev.ctrl k = (s.dev.ctrl k).map (fun c => { c with kaAt := s.dev.nowOn .ln })) ∧ s.told t .pl 0x0C0 [4#8, BitVec.ofNat 8 t.dev.modeNow.code] 0x0B ∧ Dev.OnlyChanged [.mode, .nvme, .fw, .od] answerFlds [] s.dev t.dev))) ∧
  (∀ (s : State) (via : Via) (v : Nat) (x : Volume), s.dev.commandMade via (Reg.addr .MODE_CMD) = true → (match via with | .reg r => s.dev.privileged r | .dict _ => true) = true → s.dev.drained = true ∧ s.dev.mode.shutting = none ∧ s.dev.vol v = x → s.dev.store.vols.keys.Nodup →
      Answers (.shutdown via) s (fun t => t.dev.mode = { s.dev.mode with shutting := some s.dev.now, cause := s.dev.mode.cause, hint := 0 } ∧ (t.dev.vol v).hole = [] ∧ (t.dev.vol v).pass = x.pass.map (fun p => { p with saved := p.cursor }) ∧
      (t.dev.vol v).reshape = x.reshape.map (fun r => { r with saved := r.bound }) ∧ (t.dev.vol v).scrub = { x.scrub with saved := x.scrub.cursor } ∧
      t.dev.ten.meter.checkpoint = { recs := s.dev.ten.meter.opened, seq := s.dev.ten.meter.seq, time := s.dev.now } ∧ t.dev.ldg.wear.savedBytes = s.dev.ldg.wear.bytes ∧ t.dev.ldg.timeMark = s.dev.now ∧ Dev.OnlyChanged [.mode, .store, .ldg, .fw, .od] answerFlds [] s.dev t.dev) ∧
      Answers (.shutdown via) s (fun t => (∀ k, k < 24 → (s.dev.volumes.flatMap s.dev.memberSlots).contains k = true → (s.dev.slotPorts k).any (fun n => (s.dev.port n).vwc) = true → t.dev.out.any (fun o => match o with | .memberFlush _ j => j == k | _ => false) = true))) ∧
  (∀ (s : State), s.dev.mode.shutting ≠ none ∧ s.dev.modeNow = .quiesce →
      Answers .shutdownDone s (fun t => t.dev.modeNow = .dormant ∧ t.dev.mode.waitStart = true ∧ t.dev.mode.cause = 9 ∧ t.dev.mode.shutting = none ∧ t.dev.mode.quiesced = false ∧ t.dev.mode.commissioned = s.dev.mode.commissioned ∧ t.dev.ldg.orderly = true ∧
      s.told t .pl 0x0CB ∧ s.told t .pl 0x0C0 [4#8, 0#8] 9 ∧ (t.dev.ldg.piers = s.dev.ldg.piers ∧ t.dev.store.vols = s.dev.store.vols ∧ t.dev.evr.ledger = s.dev.evr.ledger ∧ t.dev.fw.params = s.dev.fw.params) ∧
      Dev.PlinthFldsKept [.MG_CTL_GO] s.dev t.dev ∧ t.dev.DieFldsReset ∧ Dev.CtrsKept s.dev t.dev) ∧
      Answers .shutdownDone s (fun t => t.dev.cust.cs = none ∧ t.dev.cust.kek = none ∧ (∀ k, k < 24 → ((t.dev.slotPwr k).st = .off ∨ (t.dev.slotPwr k).st = .empty ∨ (t.dev.slotPwr k).st = .debounce) ∧ (t.dev.slotPwr k).gate = false) ∧
      (∀ r, r < 10 → (t.dev.rail r).on = false ∧ Out.pmbusOperation r false ∈ t.dev.out) ∧ t.dev.nvme.cmds = [] ∧ t.dev.nvme.ctrls = [] ∧ t.dev.own.slots = s.dev.own.slots ∧ t.dev.own.vols = s.dev.own.vols)) ∧
  (∀ (s : State) (n : Nat), s.dev.commandMade (.dict n) (Reg.addr .MODE_CMD) = true → s.dev.modeNow = .dormant ∧ s.dev.mode.waitStart = true →
      Answers (.start (.dict n)) s (fun t => t.dev.mode = { s.dev.mode with waitStart := false, startCmd := true, cause := s.dev.mode.cause, hint := 0 } ∧ t.dev.modeNow = .dormant ∧ Dev.OnlyChanged [.mode, .fw, .od] answerFlds [] s.dev t.dev)) ∧
  (∀ (s : State) (via : Via) (bits : BitVec 5), s.dev.commandMade via (Reg.addr .MODE_CMD) = true → 1 < ((List.range 5).filter (fun k => bits.getLsbD k)).length →
      Answers (.modeCommandRefused via bits) s (fun t => (∃ n, s.told t .pl 0x0C9 (le 1 bits.toNat ++ le 1 n)) ∧ t.dev.modeNow = s.dev.modeNow ∧ Dev.OnlyChanged [.fresh, .fw, .od] answerFlds [] s.dev t.dev)) ∧
  (∀ (s : State) (via : Via), s.dev.commandMade via (Reg.addr .MODE_CMD) = true →
      (s.dev.modeNow ≠ .commission ∨ s.dev.cust.ready = false ∨ s.dev.volumes = [] → Answers (.serve via) s (fun t => (∃ n, s.told t .pl 0x0C9 (le 1 1 ++ le 1 n)) ∧ t.dev.modeNow = s.dev.modeNow ∧ Dev.OnlyChanged [.fresh, .fw, .od] answerFlds [] s.dev t.dev)) ∧
      (s.dev.modeNow ≠ .service ∧ s.dev.modeNow ≠ .contained → Answers (.quiesce via) s (fun t => (∃ n, s.told t .pl 0x0C9 (le 1 2 ++ le 1 n)) ∧ t.dev.modeNow = s.dev.modeNow ∧ Dev.OnlyChanged [.fresh, .fw, .od] answerFlds [] s.dev t.dev)) ∧
      (s.dev.modeNow ≠ .quiesce → Answers (.resume via) s (fun t => (∃ n, s.told t .pl 0x0C9 (le 1 3 ++ le 1 n)) ∧ t.dev.modeNow = s.dev.modeNow ∧ Dev.OnlyChanged [.fresh, .fw, .od] answerFlds [] s.dev t.dev)) ∧
      (s.dev.drained = false → Answers (.shutdown via) s (fun t => (∃ n, s.told t .pl 0x0C9 (le 1 4 ++ le 1 n)) ∧ t.dev.modeNow = s.dev.modeNow ∧ Dev.OnlyChanged [.fresh, .fw, .od] answerFlds [] s.dev t.dev)) ∧
      (s.dev.drained = false → Answers (.recommission via) s (fun t => (∃ n, s.told t .pl 0x0C9 (le 1 5 ++ le 1 n)) ∧ t.dev.modeNow = s.dev.modeNow ∧ Dev.OnlyChanged [.fresh, .fw, .od] answerFlds [] s.dev t.dev)) ∧
      (s.dev.modeNow ≠ .dormant ∨ s.dev.mode.waitStart = false → Answers (.start via) s (fun t => (∃ n, s.told t .pl 0x0C9 (le 1 6 ++ le 1 n)) ∧ t.dev.modeNow = s.dev.modeNow ∧ Dev.OnlyChanged [.fresh, .fw, .od] answerFlds [] s.dev t.dev)))

/-- When standby becomes valid, on a package reset (its pin low for at least 1 µs, or 7365_7272h written to object 2002h by a Custodian, in SAFE by any session) and on a rail that is not in its range in time, Plinth starts anew in DORMANT with 0C0h and CAUSE 00h, the ledger, the boot flash and the one-time memory unchanged, and for a rail with 0B3h. Once the hold's conditions have held for 50 ms the rails are commanded on and, with a valid image, the dies come up with CAUSE 01h, or 0Eh after START; a slot set to AUTO_ON ramps from release + 2 ms times its number. The image chosen boots, TRIES counting down for a trial; else the other with 0C3h, its parameters loaded; with none the start halts with CAUSE 0Fh and 0C4h. At step 10 0C2h tells the time from the reference. The loss of both feeds with standby erases the keys and leaves DORMANT with CAUSE 0Ch; the loss of standby leaves nothing volatile (17 R643-R660, 18 R680, R681). -/
def Obligations.StartUpAndPower : Prop :=
  (∀ (s : State) (t0 : Nat), s.dev.mode.standby = true ∧ s.dev.mode.diesUp = false ∧ s.dev.mode.released = none ∧ s.dev.mode.waitStart = false → s.dev.cust.alarms = 0 ∧ s.dev.mode.hold.since = some t0 ∧ t0 + 50000000 ≤ s.dev.now →
      Answers .startupHoldRelease s (fun t => (∀ r, r < 10 → (t.dev.rail r).on = true ∧ Out.pmbusOperation r true ∈ t.dev.out) ∧ t.dev.mode.released = some s.dev.now ∧ t.dev.mode.startRef = s.dev.mode.ref.since.getD s.dev.now ∧ t.dev.mode.startCmd = false ∧
      (if (s.dev.fw.valid 0).isSome || (s.dev.fw.valid 1).isSome then t.dev.mode.diesUp = true ∧ t.dev.mode.cause = (if s.dev.mode.startCmd then 0x0E else 1) ∧ s.told t .pl 0x0C0 [0#8, BitVec.ofNat 8 t.dev.modeNow.code] (if s.dev.mode.startCmd then 0x0E else 1) ∧
      (∀ k, k < 6 → t.dev.seam k = { training := true }) ∧ (∀ p, p < 2 → t.dev.pierOwn p = { partnerAt := s.dev.now, quoinAt := s.dev.now, regionsFrom := s.dev.now })
      else t.dev.mode.diesUp = false ∧ t.dev.mode.cause = s.dev.mode.cause ∧ t.dev.own = s.dev.own) ∧ Dev.OnlyChanged [.arch, .mode, .own] [] [] s.dev t.dev)) ∧
  (∀ (s : State), s.dev.mode.hold.since = none ∨ s.dev.mode.waitStart = true ∨ s.dev.cust.alarms ≠ 0 →
      Answers .startupHoldRelease s (fun t => Dev.OnlyChanged [] [] [] s.dev t.dev)) ∧
  (∀ (s : State) (slot : Fin 24) (k t0 : Nat), slot.val = k ∧ s.dev.mode.standby = true ∧ s.dev.mode.resetHigh = true ∧ s.dev.mode.released = some t0 ∧ t0 + 2000000 * k ≤ s.dev.now → s.dev.mode.ramped.contains k = false ∧ (s.dev.slotPwr k).seated = true ∧ (s.dev.slotPwr k).st = .off ∧ s.dev.flag .SLOT_CFG_AUTO_ON k = true →
      Answers (.startupSlotRamp slot) s (fun t => t.dev.slotPwr k = { s.dev.slotPwr k with st := .ramp, aux := true, auxAt := s.dev.now, gate := false, cycleAt := none, waitOver := false } ∧ (∀ j, j ≠ k → t.dev.slotPwr j = s.dev.slotPwr j) ∧
      t.dev.mode = { s.dev.mode with ramped := s.dev.mode.ramped ++ [k], cause := s.dev.mode.cause, hint := 0 } ∧ Out.slotPower k false true ∈ t.dev.out ∧ Dev.OnlyChanged [.mode, .shelf] [] [] s.dev t.dev)) ∧
  (∀ (s : State) (rail : Fin 10) (mv r t0 : Nat), s.dev.mode.standby = true ∧ rail.val = r ∧ (s.dev.rail r).on = true → s.dev.mode.released = some t0 ∧ t0 + railOrder.idxOf r * 1000000 + 10000000 ≤ s.dev.now →
      ((s.dev.rail r).pg = false → mv < (railRange r).1 ∨ (railRange r).2 < mv → Answers (.railTimeout rail mv) s (fun t => Dev.PlinthReset s.dev t.dev ∧ t.dev.mode.cause = 0 ∧ (⟨0, .pl, 0x0C0, 0, [0#8, 0#8], true⟩ : Occ) ∈ t.evq.pl ∧ (⟨0, .pl, 0x0B3, 0, le 1 r ++ le 2 mv, true⟩ : Occ) ∈ t.evq.pl ∧ (∀ i, i < 10 → Out.pmbusOperation i false ∈ t.dev.out))) ∧
      ((s.dev.rail r).pg = true → mv < (railRange r).1 → Answers (.railDrop rail mv) s (fun t => Dev.PlinthReset s.dev t.dev ∧ t.dev.mode.cause = 0 ∧ (⟨0, .pl, 0x0C0, 0, [0#8, 0#8], true⟩ : Occ) ∈ t.evq.pl ∧ (⟨0, .pl, 0x0B3, 0, le 1 r ++ le 2 mv, true⟩ : Occ) ∈ t.evq.pl ∧ (∀ i, i < 10 → Out.pmbusOperation i false ∈ t.dev.out)))) ∧
  (∀ (s : State) (rail : Fin 10) (mv : Nat), (railRange rail.val).1 ≤ mv ∧ mv ≤ (railRange rail.val).2 →
      Answers (.railTimeout rail mv) s (fun t => Dev.OnlyChanged [] [] [] s.dev t.dev) ∧
      Answers (.railDrop rail mv) s (fun t => Dev.OnlyChanged [] [] [] s.dev t.dev)) ∧
  (∀ (s : State) (lowNs : Nat), s.dev.mode.standby = true →
      (1000 ≤ lowNs → Answers (.packageResetPin lowNs) s (fun t => Dev.PlinthReset s.dev t.dev ∧ t.dev.mode.cause = 0 ∧ (⟨0, .pl, 0x0C0, 0, [0#8, 0#8], true⟩ : Occ) ∈ t.evq.pl ∧ t.evq.pe = [] ∧ t.evq.pw = [] ∧ t.evq.ln = [] ∧ t.dev.pkg.pkgIdx = s.dev.pkg.pkgIdx ∧ t.dev.evr.buffer.slots = s.dev.evr.buffer.slots)) ∧
      (lowNs < 1000 → Answers (.packageResetPin lowNs) s (fun t => Dev.OnlyChanged [] [] [] s.dev t.dev))) ∧
  (∀ (s : State) (n : Nat) (value : Word),
      (s.dev.sessionLevel n = .custodian ∨ s.dev.modeNow = .safe → value = 0x73657272#32 → Answers (.packageReset (.dict n) value) s (fun t => Dev.PlinthReset s.dev t.dev ∧ t.dev.mode.cause = 0 ∧ (⟨0, .pl, 0x0C0, 0, [0#8, 0#8], true⟩ : Occ) ∈ t.evq.pl)) ∧
      (s.dev.sessionLevel n = .custodian ∨ s.dev.modeNow = .safe → value ≠ 0x73657272#32 → Answers (.packageReset (.dict n) value) s (fun t => Out.dictAnswer n 0x06090030 [] ∈ t.dev.out ∧ Dev.OnlyChanged [.od, .fw] answerFlds [] s.dev t.dev)) ∧
      (s.dev.sessionLevel n ≠ .custodian → s.dev.modeNow ≠ .safe → Answers (.packageReset (.dict n) value) s (fun t => Out.dictAnswer n 0x08000021 [] ∈ t.dev.out ∧ t.dev.od.denied = s.dev.od.denied + 1 ∧ Dev.OnlyChanged [.od, .fw] answerFlds [] s.dev t.dev))) ∧
  (∀ (s : State),
      Answers (.powerLoss true) s (fun t => Dev.PlinthReset s.dev t.dev ∧ t.dev.mode.standby = false ∧ t.dev.evr.buffer = {} ∧ t.evq = ⟨[], [], [], []⟩)) ∧
  (∀ (s : State), s.dev.mode.standby = true ∧ s.dev.mode.diesUp = true ∧ s.dev.modeNow ≠ .safe →
      Answers (.powerLoss false) s (fun t => t.dev.modeNow = .dormant ∧ t.dev.mode.cause = 0x0C ∧ s.told t .pl 0x0C0 [BitVec.ofNat 8 s.dev.modeNow.code, 0#8] 0x0C ∧ t.dev.mode.waitStart = s.dev.mode.waitStart ∧ t.dev.mode.commissioned = s.dev.mode.commissioned ∧
      t.dev.shelf.feedA = false ∧ t.dev.shelf.feedB = false ∧ ((s.dev.shelf.feedA || s.dev.shelf.feedB) = true → t.dev.mode.hold.since = none ∧ t.dev.mode.ref.since = none) ∧ t.dev.cust.cs = none ∧ t.dev.cust.kek = none ∧ t.dev.nvme.cmds = [] ∧ t.dev.time = s.dev.time) ∧
      Answers (.powerLoss false) s (fun t => t.dev.ldg.piers = s.dev.ldg.piers ∧ t.dev.store.vols = s.dev.store.vols ∧ t.dev.fw.params = s.dev.fw.params ∧ Dev.PlinthFldsKept [.MG_CTL_GO] s.dev t.dev ∧ t.dev.DieFldsReset ∧ Dev.CtrsKept s.dev t.dev)) ∧
  (∀ (s : State), s.dev.mode.standby = true ∧ s.dev.mode.diesUp = false →
      Answers (.powerLoss false) s (fun t => t.dev.shelf.feedA = false ∧ t.dev.shelf.feedB = false ∧ (s.dev.shelf.feedA = true → s.told t .pl 0x008 [0#8]) ∧ (s.dev.shelf.feedB = true → s.told t .pl 0x008 [1#8]) ∧ t.dev.modeNow = s.dev.modeNow ∧ Dev.OnlyChanged [.mode, .shelf] [] [] s.dev t.dev)) ∧
  (∀ (s : State) (pkgIdx : Fin 4) (wiring : Bool), s.dev.mode.standby = false →
      Answers (.powerUp pkgIdx wiring) s (fun t => Dev.PlinthReset s.dev t.dev ∧ t.dev.mode.standby = true ∧ t.dev.mode.cause = 0 ∧ t.dev.pkg.pkgIdx = pkgIdx.val ∧ t.dev.pkg.wiring = wiring ∧ t.dev.evr.buffer = {} ∧ (⟨0, .pl, 0x0C0, 0, [0#8, 0#8], true⟩ : Occ) ∈ t.evq.pl)) ∧
  (∀ (s : State) (storeOk : Bool) (c : Nat), s.dev.mode.released ≠ none ∧ s.dev.mode.booted = false ∧ s.dev.mode.halted = false ∧ s.dev.mode.diesUp = true → s.dev.fw.chosen = c ∧ s.dev.fw.restoreAtStart = false ∧ s.dev.fw.params.keys.Nodup →
      Answers (.bootImageVerify storeOk) s (fun t => t.dev.fw.tries = (if s.dev.fw.trial.isSome then s.dev.fw.tries - 1 else s.dev.fw.tries) ∧ t.dev.fw.active = s.dev.fw.active ∧ t.dev.fw.imageA = s.dev.fw.imageA ∧ t.dev.fw.imageB = s.dev.fw.imageB ∧
      (if (s.dev.fw.valid c).isSome || (s.dev.fw.valid (1 - c)).isSome then t.dev.mode.booted = true ∧ t.dev.fw.runSlot = (if (s.dev.fw.valid c).isSome then c else 1 - c) ∧ t.dev.fw.running = s.dev.fw.slot t.dev.fw.runSlot ∧ t.dev.fw.unconfirmed = (t.dev.fw.runSlot != s.dev.fw.active) ∧
      t.dev.fw.params = (if storeOk then s.dev.fw.params else []) ∧ t.dev.ParamsFrom t.dev.fw.params ∧ (storeOk = false → s.told t .pl 0x0CA) ∧ ((s.dev.fw.valid c).isSome = false → s.toldOf t .pl 0x0C3)
      else t.dev.mode.booted = false ∧ t.dev.fw.running = s.dev.fw.running)) ∧
      Answers (.bootImageVerify storeOk) s (fun t => t.dev.modeNow = s.dev.modeNow ∧ t.dev.ldg.piers = s.dev.ldg.piers ∧ t.dev.store.vols = s.dev.store.vols)) ∧
  (∀ (s : State) (storeOk : Bool), s.dev.mode.released ≠ none ∧ s.dev.mode.booted = false ∧ s.dev.mode.halted = false → s.dev.mode.diesUp = false ∧ s.dev.cust.alarms = 0 →
      Answers (.bootImageVerify storeOk) s (fun t => t.dev.mode.halted = true ∧ t.dev.mode.booted = false ∧ t.dev.modeNow = .dormant ∧ t.dev.mode.cause = 0x0F ∧ s.told t .pl 0x0C4 ∧ s.told t .pl 0x0C0 [0#8, 0#8] 0x0F ∧ Dev.OnlyChanged [.mode, .fw] [] [] s.dev t.dev)) ∧
  (∀ (s : State), s.dev.mode.booted = true ∧ s.dev.mode.complete = false ∧ s.dev.ldg.stateLoaded = true ∧ s.dev.cust.ready = true ∧ s.dev.recoveringAny = false →
      Answers .startupComplete s (fun t => t.dev.mode = { s.dev.mode with complete := true, startMs := min 65535 ((s.dev.now - s.dev.mode.startRef) / 1000000), cause := s.dev.mode.cause, hint := 0 } ∧ s.told t .pl 0x0C2 (leCount ((s.dev.now - s.dev.mode.startRef) / 1000000)) ∧ Dev.OnlyChanged [.mode] [] [] s.dev t.dev))

/-- A download through object 2008h by a Custodian erases the inactive slot at its first write, and is refused during a change; its end stores the image there with 0C5h where it is valid, else 0C7h. ACTIVATE on a valid image starts the live change where the image and the device allow it, TRIAL naming the slot with TRIES 1; in a drained QUIESCE it resets the package with CAUSE 0Dh; else it is refused with 0C7h. A group that runs the new image records 0C6h, a pier's items are given back, and the next begins; after the last the image runs unconfirmed. A group that does not start within 2 s, or a condition that fails, stops the change with 0C7h. After CONFIRM_S of service the boot record names the slot, RAISE raises the minimum SVN, and 0C8h is recorded (17 R643, R656-R667). -/
def Obligations.FirmwareChange : Prop :=
  (∀ (s : State) (session : Nat),
      (s.dev.sessionLevel session = .custodian → s.dev.fw.change = 0 → Answers (.imageDownload session) s (fun t => t.dev.fw.downloading = true ∧ t.dev.fw.slot s.dev.fw.inactive = (if s.dev.fw.downloading then s.dev.fw.slot s.dev.fw.inactive else none) ∧ t.dev.fw.active = s.dev.fw.active ∧
      (s.dev.fw.active < 2 → t.dev.fw.slot s.dev.fw.active = s.dev.fw.slot s.dev.fw.active) ∧ Out.dictAnswer session 0 [] ∈ t.dev.out ∧ Dev.OnlyChanged [.fw, .od] answerFlds [] s.dev t.dev)) ∧
      (s.dev.sessionLevel session = .custodian → s.dev.fw.change ≠ 0 → Answers (.imageDownload session) s (fun t => Out.dictAnswer session 0x08000022 [] ∈ t.dev.out ∧ t.dev.fw.imageA = s.dev.fw.imageA ∧ t.dev.fw.imageB = s.dev.fw.imageB ∧ Dev.OnlyChanged [.fw, .od] answerFlds [] s.dev t.dev)) ∧
      (s.dev.sessionLevel session ≠ .custodian → Answers (.imageDownload session) s (fun t => Out.dictAnswer session 0x08000021 [] ∈ t.dev.out ∧ t.dev.od.denied = s.dev.od.denied + 1 ∧ t.dev.fw.imageA = s.dev.fw.imageA ∧ t.dev.fw.imageB = s.dev.fw.imageB ∧ Dev.OnlyChanged [.fw, .od] answerFlds [] s.dev t.dev))) ∧
  (∀ (s : State) (image : FwImage) (k : Nat), s.dev.fw.downloading = true ∧ k = s.dev.fw.inactive →
      Answers (.imageDownloadEnd image) s (fun t => t.dev.fw.slot k = some image ∧ (s.dev.fw.active < 2 → t.dev.fw.slot s.dev.fw.active = s.dev.fw.slot s.dev.fw.active) ∧ t.dev.fw.downloading = false ∧
      (if (s.dev.fw.failing image).isEmpty then s.told t .pl 0x0C5 (le 1 k ++ le 4 image.version.toNat) else ∃ n, s.told t .pl 0x0C7 [] n) ∧ Dev.OnlyChanged [.fw, .fresh] [] [] s.dev t.dev)) ∧
  (∀ (s : State) (via : Via) (k : Nat), (match via with | .reg r => s.dev.served && s.dev.privileged r | .dict n => decide (s.dev.sessionLevel n = .custodian)) = true → k = s.dev.fw.inactive →
      Answers (.activate via) s (fun t => (s.dev.activation = .live → t.dev.fw.trial = some k ∧ t.dev.fw.tries = 1 ∧ t.dev.fw.bootSeq = s.dev.fw.bootSeq + 1 ∧ t.dev.fw.changeSlot = k ∧ t.dev.fw.change = t.dev.fw.changedGroups + 1 ∧ t.dev.fw.groupAt = s.dev.now ∧
      t.dev.fw.running = s.dev.fw.running ∧ (t.dev.fw.changedGroups = 0 → t.dev.own.lending = some 0) ∧ Dev.OnlyChanged [.fw, .own, .od] answerFlds [] s.dev t.dev) ∧
      (s.dev.activation = .refused → t.dev.fw.trial = s.dev.fw.trial ∧ t.dev.fw.change = s.dev.fw.change ∧ (∃ n, s.told t .pl 0x0C7 [] n) ∧ Dev.OnlyChanged [.fw, .od, .fresh] answerFlds [] s.dev t.dev)) ∧
      Answers (.activate via) s (fun t => (s.dev.activation = .reset → Dev.PlinthReset s.dev t.dev ∧ t.dev.mode.cause = 0x0D ∧ t.dev.fw.trial = some k ∧ t.dev.fw.tries = 1 ∧ (⟨0, .pl, 0x0C0, 0x0D, [4#8, 0#8], true⟩ : Occ) ∈ t.evq.pl))) ∧
  (∀ (s : State) (via : Via), (match via with | .reg r => s.dev.served && s.dev.privileged r | .dict n => decide (s.dev.sessionLevel n = .custodian)) = false →
      Answers (.activate via) s (fun t => t.dev.fw.trial = s.dev.fw.trial ∧ t.dev.fw.change = s.dev.fw.change ∧ Dev.OnlyChanged [.fw, .od] answerFlds [] s.dev t.dev)) ∧
  (∀ (s : State) (g : Nat), s.dev.fw.change = g ∧ 0 < g ∧ s.dev.fw.changedGroups < 4 ∧ s.dev.own.lending = none ∧ s.dev.own.back = [] →
      Answers .liveGroupComplete s (fun t => t.dev.fw.changedGroups = g ∧ s.told t .pl 0x0C6 (le 1 g) ∧
      (g < 4 → t.dev.fw.change = g + 1 ∧ t.dev.fw.groupAt = s.dev.now ∧ t.dev.own.lending = (if g = 1 then some 1 else none) ∧ t.dev.fw.running = s.dev.fw.running) ∧
      (4 ≤ g → t.dev.fw.change = g ∧ t.dev.fw.runSlot = s.dev.fw.changeSlot ∧ t.dev.fw.running = s.dev.fw.slot s.dev.fw.changeSlot ∧ t.dev.fw.unconfirmed = true ∧ t.dev.own = s.dev.own) ∧
      (g ≤ 2 → t.dev.own.back = if (s.dev.awaySlots (g - 1)).isEmpty && (s.dev.awayVols (g - 1)).isEmpty then [] else [g - 1]) ∧ t.dev.fw.trial = s.dev.fw.trial ∧ Dev.OnlyChanged [.fw, .own] [] [] s.dev t.dev)) ∧
  (∀ (s : State) (g : Nat), s.dev.fw.change = g ∧ 0 < g ∧ s.dev.fw.changedGroups < 4 → s.dev.fw.groupAt + 2000000000 < s.dev.now ∨ s.dev.liveAllowed = false →
      Answers .liveGroupTimeout s (fun t => t.dev.fw = { s.dev.fw with change := 0, stableFrom := t.dev.fw.stableFrom } ∧ (∃ n, s.told t .pl 0x0C7 [] n) ∧ (g ≤ 2 → t.dev.own.lending = none) ∧ (2 < g → t.dev.own = s.dev.own) ∧
      (g ≤ 2 → t.dev.own.back = (if (s.dev.awaySlots (g - 1)).isEmpty && (s.dev.awayVols (g - 1)).isEmpty then s.dev.own.back else [g - 1])) ∧ Dev.OnlyChanged (.fw :: .own :: .fresh :: workParts) [] workCtrs s.dev t.dev)) ∧
  (∀ (s : State) (x : FwImage) (k : Nat), s.dev.fw.unconfirmed = true ∧ s.dev.fw.running = some x ∧ s.dev.fw.runSlot = k → s.dev.modeNow = .service ∨ s.dev.modeNow = .contained → s.dev.fw.stableFrom + s.dev.fld .FW_CFG_CONFIRM_S * 1000000000 < s.dev.now →
      Answers .imageConfirm s (fun t => t.dev.fw.active = k ∧ t.dev.fw.trial = none ∧ t.dev.fw.tries = 0 ∧ t.dev.fw.bootSeq = s.dev.fw.bootSeq + 1 ∧ t.dev.fw.unconfirmed = false ∧ t.dev.fw.minSvn = (if x.raise then max s.dev.fw.minSvn x.svn.toNat else s.dev.fw.minSvn) ∧
      t.dev.fw.change = 0 ∧ t.dev.fw.running = some x ∧ s.told t .pl 0x0C8 (le 1 k ++ le 4 x.version.toNat) ∧ Dev.OnlyChanged [.fw] [] [] s.dev t.dev))

/-- Every 10 µs each sensor that can be read takes its reading as NOW and, where higher, as PEAK: all once the dies are powered, but the HBM stacks' in SAFE, else Plinth's two. A reading at or above WARN is recorded once with 0B0h, until all are 5 °C below it, with 0B1h; one outside -60 to +135 °C is an alarm, with 0E3h. Before the release Plinth's sensors outside -55 to +125 °C hold the start-up, with 0C1h once per hold. A read of DIE_TEMP clears PEAK. A reference clock that is lost clears its bit and records 0B2h, and what hangs on it goes down: PTP enters holdover, MACs, bonds, root ports or the endpoint lose their links; when it returns its bit is set (00 R5, 07 R293, 17 R649, 18 R684-R693). -/
def Obligations.TemperaturesAndClocks : Prop :=
  (∀ (s : State) (readings : List Int), s.dev.mode.standby = true ∧ s.dev.now % 10000 = 0 ∧ readings.length = 20 →
      Answers (.temperatureSample readings) s (fun t => (∀ n, n < 20 → t.dev.sensor n = if s.dev.readable n then { now := readings.getD n 0, peak := some ((s.dev.sensor n).peak.elim (readings.getD n 0) (max (readings.getD n 0))) } else s.dev.sensor n) ∧ t.dev.pkg.clocks = s.dev.pkg.clocks) ∧
      (s.dev.pkg.warned = false → (∃ n, n < 20 ∧ s.dev.readable n = true ∧ (8 * s.dev.fld .THERM_CFG_WARN : Int) ≤ readings.getD n 0) → Answers (.temperatureSample readings) s (fun t => t.dev.pkg.warned = true ∧
      (∃ n, n < 20 ∧ s.dev.readable n = true ∧ (8 * s.dev.fld .THERM_CFG_WARN : Int) ≤ readings.getD n 0 ∧ s.told t .pl 0x0B0 (le 1 n ++ leSigned 2 (readings.getD n 0))))) ∧
      (s.dev.pkg.warned = true → (∀ n, n < 20 → s.dev.readable n = true → readings.getD n 0 < (8 * s.dev.fld .THERM_CFG_WARN : Int) - 40) → Answers (.temperatureSample readings) s (fun t => t.dev.pkg.warned = false ∧ s.told t .pl 0x0B1)) ∧
      (s.dev.pkg.warned = true → (∃ n, n < 20 ∧ s.dev.readable n = true ∧ (8 * s.dev.fld .THERM_CFG_WARN : Int) - 40 ≤ readings.getD n 0) → Answers (.temperatureSample readings) s (fun t => t.dev.pkg.warned = true)) ∧
      (s.dev.pkg.warned = false → (∀ n, n < 20 → s.dev.readable n = true → readings.getD n 0 < (8 * s.dev.fld .THERM_CFG_WARN : Int)) → Answers (.temperatureSample readings) s (fun t => t.dev.pkg.warned = false))) ∧
  (∀ (s : State) (readings : List Int), s.dev.mode.standby = true ∧ s.dev.now % 10000 = 0 ∧ readings.length = 20 → s.dev.mode.diesUp = true ∧ s.dev.cust.alarms = 0 →
      (readings.all (fun r => decide (-480 ≤ r) && decide (r ≤ 1080)) = true → Answers (.temperatureSample readings) s (fun t => t.dev.cust = s.dev.cust ∧ t.dev.ldg.wear.tempNow = ((readings.drop 17).foldl max (readings.getD 16 0)) ∧
      ((readings.drop 16).all (fun r => decide (r ≤ 880)) = true → t.dev.ldg.wear.hot = s.dev.ldg.wear.hot) ∧ ((readings.drop 16).any (fun r => decide (880 < r)) = true → t.dev.ldg.wear.hot = true ∧ t.dev.ldg.wear.hotAt = s.dev.now) ∧
      (∀ k, (t.dev.ctrl k).isSome = (s.dev.ctrl k).isSome ∧ ((t.dev.ctrl k).all (fun c => c.tempOver == decide (c.tempThreshold < t.dev.composite))) = true) ∧ Dev.OnlyChanged [.pkg, .ldg, .nvme] [] [] s.dev t.dev)) ∧
      (readings.any (fun r => decide (r < -480) || decide (1080 < r)) = true → Answers (.temperatureSample readings) s (fun t => t.dev.cust.alarms = 8 ∧ t.dev.modeNow = .safe ∧ t.dev.cust.cs = none ∧ t.dev.cust.kek = none ∧ s.toldOf t .pl 0x0E3 ∧ s.told t .pl 0x30A (le 1 8) ∧
      Dev.OnlyChanged [.pkg, .ldg, .nvme, .cust, .fresh, .od, .arch, .sw, .net, .ten] [] [] s.dev t.dev))) ∧
  (∀ (s : State) (readings : List Int) (a b : Int), s.dev.mode.standby = true ∧ s.dev.now % 10000 = 0 ∧ readings.length = 20 ∧ s.dev.mode.diesUp = false → readings.getD 12 0 = a ∧ readings.getD 13 0 = b →
      (-440 ≤ a → a ≤ 1000 → -440 ≤ b → b ≤ 1000 → Answers (.temperatureSample readings) s (fun t => t.dev.mode.tempOk = true ∧ t.dev.mode.tempNoted = s.dev.mode.tempNoted ∧ Dev.OnlyChanged [.pkg, .mode] [] [] s.dev t.dev)) ∧
      ((a < -440 ∨ 1000 < a ∨ b < -440 ∨ 1000 < b) → Answers (.temperatureSample readings) s (fun t => t.dev.mode.tempOk = false ∧ t.dev.mode.tempNoted = true ∧ t.dev.mode.hold.since = none ∧
      (s.dev.mode.tempNoted = false → s.told t .pl 0x0C1 (leSigned 2 (if a < -440 ∨ 1000 < a then a else b))) ∧ Dev.OnlyChanged [.pkg, .mode] [] [] s.dev t.dev))) ∧
  (∀ (s : State) (req : Requester) (sensor : Fin 20) (n : Nat), s.dev.served = true ∧ sensor.val = n ∧ s.dev.blockIsolated (Reg.addr .DIE_TEMP n) = false →
      Answers (.dieTempRead req sensor) s (fun t => t.dev.sensor n = { s.dev.sensor n with peak := none } ∧ (∀ m, m ≠ n → t.dev.sensor m = s.dev.sensor m) ∧ t.dev.pkg.warned = s.dev.pkg.warned ∧ t.dev.pkg.clocks = s.dev.pkg.clocks ∧
      Out.value req (BitVec.ofNat 32 (unsigned 16 ((s.dev.sensor n).peak.getD 0) * 65536 + unsigned 16 (s.dev.sensor n).now)) ∈ t.dev.out ∧ Dev.OnlyChanged [.pkg] [] [] s.dev t.dev)) ∧
  (∀ (s : State) (clock : Fin 7) (c : Nat), s.dev.mode.standby = true ∧ clock.val = c →
      (s.dev.pkg.clocks.contains c = true → Answers (.refclockLoss clock) s (fun t => t.dev.pkg = { s.dev.pkg with clocks := s.dev.pkg.clocks.filter (· != c) } ∧ s.told t .pl 0x0B2 (le 1 c) ∧ (c = 0 → s.dev.mode.diesUp = true → s.dev.net.ptp.state ≠ .disabled → t.dev.net.ptp.state = .holdover) ∧
      (c = 1 → s.dev.mode.diesUp = true → ∀ m, m < 32 → (t.dev.mac m).link = false) ∧ (c = 2 → s.dev.mode.diesUp = true → ∀ m, 32 ≤ m → m < 64 → (t.dev.mac m).link = false))) ∧
      (s.dev.pkg.clocks.contains c = true → Answers (.refclockLoss clock) s (fun t => (c = 3 → s.dev.mode.diesUp = true → ∀ k, k < 2 → (t.dev.bond k).up = false) ∧
      (c = 4 → s.dev.mode.diesUp = true → ∀ n, n < 48 → slotLanes (s.dev.portSlot n) = 0 → (t.dev.port n).up = false) ∧ (c = 5 → s.dev.mode.diesUp = true → ∀ n, n < 48 → slotLanes (s.dev.portSlot n) = 1 → (t.dev.port n).up = false) ∧
      (c = 6 → s.dev.mode.diesUp = true → t.dev.ep.up = false ∧ t.dev.epFn 0 = { flr := true } ∧ t.dev.epFn 1 = { flr := true }) ∧ (s.dev.mode.diesUp = false → Dev.OnlyChanged [.pkg] [] [] s.dev t.dev))) ∧
      (s.dev.pkg.clocks.contains c = false → Answers (.refclockReturn clock) s (fun t => (∀ k, k < 7 → t.dev.pkg.clocks.contains k = (s.dev.pkg.clocks.contains k || k == c)) ∧ t.dev.pkg.sensors = s.dev.pkg.sensors ∧ t.dev.pkg.pkgIdx = s.dev.pkg.pkgIdx ∧ Dev.OnlyChanged [.pkg] [] [] s.dev t.dev)))
end

