-- ==== Sys2Proof/Laws/Table.lean ====
section
/-!
SUPPORT. Tables: what is found after a change, the canonical form, and the register fields and counters kept in them.
-/
namespace Sys2Proof.Machine

section
variable {α : Type}

@[simp] theorem Table.find_insert_self (t : Table α) (k : Nat) (v : α) : (t.insert k v).find k = some v := by
  induction t with
  | nil => simp [Table.insert, Table.find]
  | cons e t ih =>
    obtain ⟨k', v'⟩ := e
    simp only [Table.insert]
    split
    · simp [Table.find]
    · split
      · simp [Table.find]
      · rename_i h
        simp [Table.find, Ne.symm h, ih]

theorem Table.find_insert_other (t : Table α) {k j : Nat} (v : α) (h : j ≠ k) : (t.insert k v).find j = t.find j := by
  induction t with
  | nil => simp [Table.insert, Table.find, Ne.symm h]
  | cons e t ih =>
    obtain ⟨k', v'⟩ := e
    simp only [Table.insert]
    split
    · simp [Table.find, Ne.symm h]
    · split
      · rename_i hk
        subst hk
        simp [Table.find, Ne.symm h]
      · simp only [Table.find]
        split
        · rfl
        · exact ih

@[simp] theorem Table.find_erase_self (t : Table α) (k : Nat) : (t.erase k).find k = none := by
  induction t with
  | nil => rfl
  | cons e t ih =>
    obtain ⟨k', v'⟩ := e
    simp only [Table.erase]
    split
    · exact ih
    · rename_i h
      simp [Table.find, h, ih]

theorem Table.find_erase_other (t : Table α) {k j : Nat} (h : j ≠ k) : (t.erase k).find j = t.find j := by
  induction t with
  | nil => rfl
  | cons e t ih =>
    obtain ⟨k', v'⟩ := e
    simp only [Table.erase]
    split
    · rename_i hk
      subst hk
      simp [Table.find, Ne.symm h, ih]
    · simp only [Table.find]
      split
      · rfl
      · exact ih

/-- Every key of `t` is above `k` when the canonical form says so. -/
theorem Table.above_mono {t : Table α} {j k : Nat} (h : j ≤ k) (ha : Table.above k t = true) : Table.above j t = true := by
  induction t with
  | nil => rfl
  | cons e t ih =>
    simp only [Table.above, Bool.and_eq_true, decide_eq_true_eq] at ha ⊢
    exact ⟨lt_of_le_of_lt h ha.1, ih ha.2⟩

theorem Table.above_insert {t : Table α} {j k : Nat} (v : α) (hj : j < k) (ha : Table.above j t = true) :
    Table.above j (t.insert k v) = true := by
  induction t with
  | nil => simp [Table.insert, Table.above, hj]
  | cons e t ih =>
    obtain ⟨k', v'⟩ := e
    simp only [Table.above, Bool.and_eq_true, decide_eq_true_eq] at ha
    simp only [Table.insert]
    split
    · simp [Table.above, hj, ha.1, ha.2]
    · split
      · simp [Table.above, hj, ha.2]
      · simp [Table.above, ha.1, ih ha.2]

theorem Table.above_erase {t : Table α} {j k : Nat} (ha : Table.above j t = true) : Table.above j (t.erase k) = true := by
  induction t with
  | nil => rfl
  | cons e t ih =>
    obtain ⟨k', v'⟩ := e
    simp only [Table.above, Bool.and_eq_true, decide_eq_true_eq] at ha
    simp only [Table.erase]
    split
    · exact ih ha.2
    · simp [Table.above, ha.1, ih ha.2]

theorem Table.above_filter {t : Table α} {j : Nat} (p : Nat × α → Bool) (ha : Table.above j t = true) : Table.above j (t.filter p) = true := by
  induction t with
  | nil => rfl
  | cons e t ih =>
    simp only [Table.above, Bool.and_eq_true, decide_eq_true_eq] at ha
    simp only [List.filter_cons]
    split
    · simp only [Table.above, Bool.and_eq_true, decide_eq_true_eq]
      exact ⟨ha.1, ih ha.2⟩
    · exact ih ha.2

variable [DecidableEq α]

@[simp] theorem Table.get_put_self (t : Table α) (d : α) (k : Nat) (v : α) : (t.put d k v).get d k = v := by
  unfold Table.put Table.get
  split
  · rename_i h
    simp [h]
  · simp

theorem Table.get_put_other (t : Table α) (d : α) {k j : Nat} (v : α) (h : j ≠ k) : (t.put d k v).get d j = t.get d j := by
  unfold Table.put Table.get
  split
  · rw [Table.find_erase_other t h]
  · rw [Table.find_insert_other t v h]

/-- Listing a value that is not the default keeps the canonical form. -/
theorem Table.wf_insert {t : Table α} {d v : α} {k : Nat} (hv : v ≠ d) (h : Table.wf d t = true) : Table.wf d (t.insert k v) = true := by
  induction t with
  | nil => simp [Table.insert, Table.wf, Table.above, hv]
  | cons e t ih =>
    obtain ⟨k', v'⟩ := e
    have h' := h
    simp only [Table.wf, Bool.and_eq_true, decide_eq_true_eq] at h
    simp only [Table.insert]
    split
    · rename_i hk
      simp only [Table.wf, Table.above, Bool.and_eq_true, decide_eq_true_eq]
      exact ⟨⟨hv, hk, Table.above_mono (Nat.le_of_lt hk) h.1.2⟩, h.1, h.2⟩
    · split
      · rename_i hk
        simp only [Table.wf, Bool.and_eq_true, decide_eq_true_eq]
        exact ⟨⟨hv, hk ▸ h.1.2⟩, h.2⟩
      · rename_i h1 h2
        simp only [Table.wf, Bool.and_eq_true, decide_eq_true_eq]
        exact ⟨⟨h.1.1, Table.above_insert v (by omega) h.1.2⟩, ih h.2⟩

/-- Taking a key out keeps the canonical form. -/
theorem Table.wf_erase {t : Table α} {d : α} {k : Nat} (h : Table.wf d t = true) : Table.wf d (t.erase k) = true := by
  induction t with
  | nil => rfl
  | cons e t ih =>
    obtain ⟨k', v'⟩ := e
    simp only [Table.wf, Bool.and_eq_true, decide_eq_true_eq] at h
    simp only [Table.erase]
    split
    · exact ih h.2
    · simp only [Table.wf, Bool.and_eq_true, decide_eq_true_eq]
      exact ⟨⟨h.1.1, Table.above_erase h.1.2⟩, ih h.2⟩

/-- A write keeps the canonical form. -/
theorem Table.wf_put {t : Table α} {d : α} {k : Nat} (v : α) (h : Table.wf d t = true) : Table.wf d (t.put d k v) = true := by
  unfold Table.put
  split
  · exact Table.wf_erase h
  · rename_i hv
    exact Table.wf_insert hv h

/-- Leaving entries out keeps the canonical form. -/
theorem Table.wf_filter {t : Table α} {d : α} (p : Nat × α → Bool) (h : Table.wf d t = true) : Table.wf d (t.filter p) = true := by
  induction t with
  | nil => rfl
  | cons e t ih =>
    simp only [Table.wf, Bool.and_eq_true, decide_eq_true_eq] at h
    simp only [List.filter_cons]
    split
    · simp only [Table.wf, Bool.and_eq_true, decide_eq_true_eq]
      exact ⟨⟨h.1.1, Table.above_filter p h.1.2⟩, ih h.2⟩
    · exact ih h.2

/-- Writing a run of bytes keeps the canonical form of a memory. -/
theorem Table.wf_putAll (l : List (Byte × Nat)) (base : Nat) : ∀ t : Table Byte, Table.wf 0 t = true →
    Table.wf 0 (l.foldl (fun t e => Table.put t 0 (base + e.2) e.1) t) = true := by
  induction l with
  | nil => exact fun t h => h
  | cons e l ih => exact fun t h => ih _ (Table.wf_put _ h)

end

/-- Numbers of register fields are below 1,024, of counters below 256. -/
theorem Fld.ctorIdx_lt (f : Fld) : f.ctorIdx < 1024 := by cases f <;> decide
theorem Ctr.ctorIdx_lt (c : Ctr) : c.ctorIdx < 256 := by cases c <;> decide

theorem Fld.ctorIdx_inj {f g : Fld} (h : f.ctorIdx = g.ctorIdx) : f = g := by
  have hf : Fld.ofNat f.ctorIdx = f := by cases f <;> rfl
  have hg : Fld.ofNat g.ctorIdx = g := by cases g <;> rfl
  rw [← hf, ← hg, h]

theorem Ctr.ctorIdx_inj {f g : Ctr} (h : f.ctorIdx = g.ctorIdx) : f = g := by
  have hf : Ctr.ofNat f.ctorIdx = f := by cases f <;> rfl
  have hg : Ctr.ofNat g.ctorIdx = g := by cases g <;> rfl
  rw [← hf, ← hg, h]

/-- Different instances of fields have different keys. -/
theorem Fld.key_ne {f g : Fld} {i j : Nat} (h : f ≠ g ∨ i ≠ j) : f.key i ≠ g.key j := by
  unfold Fld.key
  have hf := f.ctorIdx_lt
  have hg := g.ctorIdx_lt
  intro e
  have hi : i = j := by omega
  have hc : f.ctorIdx = g.ctorIdx := by omega
  rcases h with h | h
  · exact h (Fld.ctorIdx_inj hc)
  · exact h hi

/-- Different instances of counters have different keys. -/
theorem Ctr.key_ne {f g : Ctr} {i j : Nat} (h : f ≠ g ∨ i ≠ j) : f.key i ≠ g.key j := by
  unfold Ctr.key
  have hf := f.ctorIdx_lt
  have hg := g.ctorIdx_lt
  intro e
  have hi : i = j := by omega
  have hc : f.ctorIdx = g.ctorIdx := by omega
  rcases h with h | h
  · exact h (Ctr.ctorIdx_inj hc)
  · exact h hi

/-- A stored field reads as what was stored, cut to its width (00 R5). -/
@[simp] theorem Dev.fld_setFld_self (s : Dev) (f : Fld) (i v : Nat) : (s.setFld f i v).fld f i = v % 2 ^ f.info.width := by
  simp only [Dev.fld, Dev.setFld, Table.get_put_self]

/-- Storing a field leaves every other as it was. -/
theorem Dev.fld_setFld_other (s : Dev) {f g : Fld} {i j : Nat} (v : Nat) (h : g ≠ f ∨ j ≠ i) : (s.setFld f i v).fld g j = s.fld g j := by
  have hk : g.key j ≠ f.key i := Fld.key_ne h
  simp only [Dev.fld, Dev.setFld, Table.get, Table.put]
  split
  · rw [Table.find_erase_other _ hk]
  · rw [Table.find_insert_other _ _ hk]

/-- A counter advances modulo 2^64 (02 R89). -/
@[simp] theorem Dev.ctr_count_self (s : Dev) (c : Ctr) (i n : Nat) : (s.count c i n).ctr c i = (s.ctr c i + n) % 2 ^ 64 := by
  simp only [Dev.ctr, Dev.count, Table.get_put_self]

/-- Counting one leaves every other counter as it was. -/
theorem Dev.ctr_count_other (s : Dev) {c e : Ctr} {i j : Nat} (n : Nat) (h : e ≠ c ∨ j ≠ i) : (s.count c i n).ctr e j = s.ctr e j := by
  simp only [Dev.ctr, Dev.count]
  exact Table.get_put_other _ _ _ (Ctr.key_ne h)

end Sys2Proof.Machine
end

