-- ==== Sys2Proof/Laws/Same.lean ====
section
/-!
SUPPORT. What settling a command's effect leaves as it is: the parts of the device that neither outputs, mode, meters nor EMCY touch.
-/
namespace Sys2Proof.Machine

/-- Two devices that differ at most in what settling touches. -/
structure Dev.Same (a b : Dev) : Prop where
  time : b.time = a.time
  timeLoaded : b.timeLoaded = a.timeLoaded
  fresh : b.fresh = a.fresh
  regs : b.regs = a.regs
  marks : b.marks = a.marks
  latches : b.latches = a.latches
  arch : b.arch = a.arch
  pkg : b.pkg = a.pkg
  own : b.own = a.own
  cust : b.cust = a.cust
  ep : b.ep = a.ep
  store : b.store = a.store
  shelf : b.shelf = a.shelf
  rdma : b.rdma = a.rdma
  nvme : b.nvme = a.nvme
  dma : b.dma = a.dma
  mode : { b.mode with cause := 0, hint := 0 } = { a.mode with cause := 0, hint := 0 }
  fw : { b.fw with stableFrom := 0 } = { a.fw with stableFrom := 0 }
  ldg : { b.ldg with orderly := false } = { a.ldg with orderly := false }
  od : { b.od with can := {} } = { a.od with can := {} }
  evr : { b.evr with drops := [], windowDrops := [], gap := false } = { a.evr with drops := [], windowDrops := [], gap := false }
  ten : { b.ten with meter := {}, classQ := [] } = { a.ten with meter := {}, classQ := [] }
  net : { b.net with macs := [] } = { a.net with macs := [] }
  ctrs : ∀ c, c ∉ settleCtrs → ∀ i, b.ctr c i = a.ctr c i

theorem Dev.Same.refl (a : Dev) : Dev.Same a a :=
  ⟨rfl, rfl, rfl, rfl, rfl, rfl, rfl, rfl, rfl, rfl, rfl, rfl, rfl, rfl, rfl, rfl, rfl, rfl, rfl, rfl, rfl, rfl, rfl, fun _ _ _ => rfl⟩

theorem Dev.Same.trans {a b c : Dev} (h : Dev.Same a b) (k : Dev.Same b c) : Dev.Same a c :=
  ⟨k.time.trans h.time, k.timeLoaded.trans h.timeLoaded, k.fresh.trans h.fresh, k.regs.trans h.regs, k.marks.trans h.marks,
   k.latches.trans h.latches, k.arch.trans h.arch, k.pkg.trans h.pkg, k.own.trans h.own, k.cust.trans h.cust, k.ep.trans h.ep,
   k.store.trans h.store, k.shelf.trans h.shelf, k.rdma.trans h.rdma, k.nvme.trans h.nvme, k.dma.trans h.dma,
   k.mode.trans h.mode, k.fw.trans h.fw, k.ldg.trans h.ldg, k.od.trans h.od, k.evr.trans h.evr, k.ten.trans h.ten, k.net.trans h.net, fun c hc i => (k.ctrs c hc i).trans (h.ctrs c hc i)⟩

/-- `Same`, and what was sent out and raised is still there, with more after it. -/
structure Dev.Kept (a b : Dev) : Prop where
  same : Dev.Same a b
  out : a.out <+: b.out
  raised : a.raised <+: b.raised

theorem Dev.Kept.refl (a : Dev) : Dev.Kept a a := ⟨.refl a, List.prefix_rfl, List.prefix_rfl⟩

theorem Dev.Kept.trans {a b c : Dev} (h : Dev.Kept a b) (k : Dev.Kept b c) : Dev.Kept a c :=
  ⟨h.same.trans k.same, h.out.trans k.out, h.raised.trans k.raised⟩

/-- A fold of steps that each keep the device does so. -/
theorem Dev.kept_foldl {α : Type} (f : Dev → α → Dev) (h : ∀ s x, Dev.Kept s (f s x)) (l : List α) :
    ∀ s, Dev.Kept s (l.foldl f s) := by
  induction l with
  | nil => exact fun s => .refl s
  | cons x xs ih => exact fun s => (h s x).trans (ih (f s x))

theorem Dev.kept_count (s : Dev) (c : Ctr) (i n : Nat) (hc : c ∈ settleCtrs) : Dev.Kept s (s.count c i n) :=
  ⟨⟨rfl, rfl, rfl, rfl, rfl, rfl, rfl, rfl, rfl, rfl, rfl, rfl, rfl, rfl, rfl, rfl, rfl, rfl, rfl, rfl, rfl, rfl, rfl, fun _ he _ => Dev.ctr_count_other s n (.inl (fun h => he (h ▸ hc)))⟩, List.prefix_rfl, List.prefix_rfl⟩

theorem Dev.kept_event (s : Dev) (d : Die) (id : Nat) (x : List Byte) (c : Nat) : Dev.Kept s (s.event d id x c) :=
  ⟨⟨rfl, rfl, rfl, rfl, rfl, rfl, rfl, rfl, rfl, rfl, rfl, rfl, rfl, rfl, rfl, rfl, rfl, rfl, rfl, rfl, rfl, rfl, rfl, fun _ _ _ => rfl⟩, List.prefix_rfl, List.prefix_append _ _⟩

theorem Dev.kept_emit (s : Dev) (o : Out) : Dev.Kept s (s.emit o) :=
  ⟨⟨rfl, rfl, rfl, rfl, rfl, rfl, rfl, rfl, rfl, rfl, rfl, rfl, rfl, rfl, rfl, rfl, rfl, rfl, rfl, rfl, rfl, rfl, rfl, fun _ _ _ => rfl⟩, List.prefix_append _ _, List.prefix_rfl⟩

theorem Dev.kept_setMeter (s : Dev) (m : Meter) : Dev.Kept s (s.setMeter m) :=
  ⟨⟨rfl, rfl, rfl, rfl, rfl, rfl, rfl, rfl, rfl, rfl, rfl, rfl, rfl, rfl, rfl, rfl, rfl, rfl, rfl, rfl, rfl, rfl, rfl, fun _ _ _ => rfl⟩, List.prefix_rfl, List.prefix_rfl⟩

theorem Dev.kept_setCan (s : Dev) (c : Can) : Dev.Kept s (s.setCan c) :=
  ⟨⟨rfl, rfl, rfl, rfl, rfl, rfl, rfl, rfl, rfl, rfl, rfl, rfl, rfl, rfl, rfl, rfl, rfl, rfl, rfl, rfl, rfl, rfl, rfl, fun _ _ _ => rfl⟩, List.prefix_rfl, List.prefix_rfl⟩

theorem Dev.kept_dropEvent (s : Dev) (o : Occ) : Dev.Kept s (s.dropEvent o) :=
  ⟨⟨rfl, rfl, rfl, rfl, rfl, rfl, rfl, rfl, rfl, rfl, rfl, rfl, rfl, rfl, rfl, rfl, rfl, rfl, rfl, rfl, rfl, rfl, rfl, fun _ _ _ => rfl⟩, List.prefix_rfl, List.prefix_rfl⟩

theorem Dev.kept_sw (s : Dev) (x : Pool) : Dev.Kept s { s with sw := x } :=
  ⟨⟨rfl, rfl, rfl, rfl, rfl, rfl, rfl, rfl, rfl, rfl, rfl, rfl, rfl, rfl, rfl, rfl, rfl, rfl, rfl, rfl, rfl, rfl, rfl, fun _ _ _ => rfl⟩, List.prefix_rfl, List.prefix_rfl⟩

theorem Dev.kept_afterFree (s : Dev) (n : Nat) : Dev.Kept s (s.afterFree n) := by
  have hc := s.kept_count .SW_CELLS_FREED 0 n (by decide)
  unfold Dev.afterFree
  dsimp only
  split
  · exact hc.trans (Dev.kept_sw _ _)
  · exact hc

theorem Dev.kept_freeUnits (s : Dev) (ids : List Nat) : Dev.Kept s (s.freeUnits ids) := by
  unfold Dev.freeUnits
  exact (s.kept_sw _).trans (Dev.kept_afterFree _ _)

theorem Dev.kept_forgetFrames (s : Dev) (ids : List Nat) : Dev.Kept s (s.forgetFrames ids) :=
  ⟨⟨rfl, rfl, rfl, rfl, rfl, rfl, rfl, rfl, rfl, rfl, rfl, rfl, rfl, rfl, rfl, rfl, rfl, rfl, rfl, rfl, rfl, rfl, rfl, fun _ _ _ => rfl⟩, List.prefix_rfl, List.prefix_rfl⟩

theorem Dev.kept_outputLost (s : Dev) (o : Nat) : Dev.Kept s (s.outputLost o) := by
  unfold Dev.outputLost
  dsimp only
  split
  · exact ((((s.kept_freeUnits _).trans (Dev.kept_sw _ _)).trans (Dev.kept_afterFree _ _)).trans (Dev.kept_forgetFrames _ _)).trans
      (Dev.kept_foldl _ (fun s u => s.kept_emit _) _ _)
  · exact (((((s.kept_freeUnits _).trans (Dev.kept_sw _ _)).trans (Dev.kept_afterFree _ _)).trans (Dev.kept_forgetFrames _ _)).trans
      (Dev.kept_foldl _ (fun s u => s.kept_emit _) _ _)).trans ((Dev.kept_count _ _ _ _ (by decide)).trans (Dev.kept_event _ _ _ _ _))

theorem Dev.kept_settleOutputs (s b : Dev) : Dev.Kept s (s.settleOutputs b) := by
  unfold Dev.settleOutputs
  refine Dev.kept_foldl _ (fun s o => ?_) _ s
  split
  · exact s.kept_outputLost o
  · exact .refl s

theorem Dev.kept_modeChanged (s : Dev) (a b : Mode) : Dev.Kept s (s.modeChanged a b) := by
  unfold Dev.modeChanged
  dsimp only
  split <;> split <;> exact ⟨⟨rfl, rfl, rfl, rfl, rfl, rfl, rfl, rfl, rfl, rfl, rfl, rfl, rfl, rfl, rfl, rfl, rfl, rfl, rfl, rfl, rfl, rfl, rfl, fun _ _ _ => rfl⟩, List.prefix_rfl, List.prefix_rfl⟩

theorem Dev.kept_settleMode (s b : Dev) : Dev.Kept s (s.settleMode b) := by
  unfold Dev.settleMode
  dsimp only
  have h := Dev.kept_modeChanged { s with mode := { s.mode with hint := 0 } } b.modeNow s.modeNow
  have h0 : Dev.Kept s ({ s with mode := { s.mode with hint := 0 } } : Dev) :=
    ⟨⟨rfl, rfl, rfl, rfl, rfl, rfl, rfl, rfl, rfl, rfl, rfl, rfl, rfl, rfl, rfl, rfl, rfl, rfl, rfl, rfl, rfl, rfl, rfl, fun _ _ _ => rfl⟩, List.prefix_rfl, List.prefix_rfl⟩
  split
  · exact h0.trans h
  · split
    · exact (h0.trans h).trans ⟨⟨rfl, rfl, rfl, rfl, rfl, rfl, rfl, rfl, rfl, rfl, rfl, rfl, rfl, rfl, rfl, rfl, rfl, rfl, rfl, rfl, rfl, rfl, rfl, fun _ _ _ => rfl⟩, List.prefix_rfl, List.prefix_append _ _⟩
    · exact h0.trans h

/-- A relation between devices that the ways of settling meters and EMCY stay within. -/
structure Dev.Closed (R : Dev → Dev → Prop) : Prop where
  refl : ∀ s, R s s
  trans : ∀ {a b c}, R a b → R b c → R a c
  count : ∀ s c i n, c ∈ settleCtrs → R s (Dev.count s c i n)
  event : ∀ s d id x c, R s (Dev.event s d id x c)
  emit : ∀ s o, R s (Dev.emit s o)
  setMeter : ∀ s m, R s (Dev.setMeter s m)
  setCan : ∀ s c, R s (Dev.setCan s c)

namespace Dev.Closed

variable {R : Dev → Dev → Prop} (h : Dev.Closed R)
include h

theorem foldl {α : Type} (f : Dev → α → Dev) (hf : ∀ s x, R s (f s x)) (l : List α) : ∀ s, R s (l.foldl f s) := by
  induction l with
  | nil => exact fun s => h.refl s
  | cons x xs ih => exact fun s => h.trans (hf s x) (ih (f s x))

theorem eventIf (s : Dev) (b : Bool) (d : Die) (id : Nat) (x : List Byte) (c : Nat) : R s (s.eventIf b d id x c) := by
  unfold Dev.eventIf
  split
  · exact h.event s d id x c
  · exact h.refl s

theorem meterMarkOpen (s : Dev) : R s s.meterMarkOpen := by
  unfold Dev.meterMarkOpen
  dsimp only
  split
  · exact h.refl s
  · exact h.setMeter s _

theorem meterOpenAll (s : Dev) (n : Nat) : R s (s.meterOpenAll n) :=
  h.trans (h.foldl _ (fun s _ => h.setMeter s _) _ s) (h.meterMarkOpen _)

theorem meterOpenRest (s : Dev) (n : Nat) : R s (s.meterOpenRest n) :=
  h.trans (h.foldl _ (fun s _ => h.setMeter s _) _ s) (h.meterMarkOpen _)

theorem meterKeyTurn (s : Dev) (t : Nat) : R s (s.meterKeyTurn t) := by
  unfold Dev.meterKeyTurn
  split
  · split
    · exact h.trans (h.setMeter s _) (h.event _ _ _ _ _)
    · exact h.refl s
  · exact h.refl s

theorem meterRollN (n : Nat) : ∀ s : Dev, R s (s.meterRollN n) := by
  induction n with
  | zero => exact fun s => h.refl s
  | succ n ih =>
    intro s
    unfold Dev.meterRollN
    split
    · exact h.refl s
    · split
      · exact h.trans (h.trans (h.trans (h.setMeter s _) (h.meterKeyTurn _ _)) (h.meterOpenRest _ _)) (ih _)
      · exact h.refl s

theorem meterRoll (s : Dev) : R s s.meterRoll := h.trans (h.meterRollN _ s) (h.meterKeyTurn _ _)

theorem meterStore (s : Dev) (r : MeterRec) : R s (s.meterStore r) :=
  h.trans (h.trans (h.setMeter s _) (h.count _ _ _ _ (by decide))) (h.eventIf _ _ _ _ _ _)

theorem countJobs (s : Dev) (n : Nat) : R s (s.countJobs n) := by
  unfold Dev.countJobs
  split
  · exact h.refl s
  · exact h.count _ _ _ _ (by decide)

theorem meterWrite (s : Dev) (b : Bool) (r : MeterRec) : R s (s.meterWrite b r) := by
  unfold Dev.meterWrite
  dsimp only
  split
  · exact h.trans (h.trans (h.trans (h.setMeter s _) (h.countJobs _ _)) (h.count _ _ _ _ (by decide))) (h.event _ _ _ _ _)
  · exact h.trans (h.trans (h.setMeter s _) (h.countJobs _ _)) (h.meterStore _ _)

theorem meterWriteAll (s : Dev) (f : List Nat) : R s (s.meterWriteAll f) :=
  h.trans (h.trans (h.setMeter s _) (h.foldl _ (fun s r => h.meterWrite s _ r) _ _)) (h.eventIf _ _ _ _ _ _)

theorem settleMeter (s b : Dev) : R s (s.settleMeter b) := by
  unfold Dev.settleMeter
  dsimp only
  split
  · split
    · exact h.setMeter s _
    · exact h.trans (h.trans (h.trans (h.meterRoll s) (h.meterMarkOpen _)) (h.setMeter _ _)) (h.meterWriteAll _ _)
  · split
    · exact h.meterOpenAll s _
    · exact h.meterMarkOpen s

theorem emcy (s : Dev) (m : Emcy) : R s (s.emcy m) := by
  unfold Dev.emcy
  dsimp only
  split
  · exact h.trans (h.setCan s _) (h.emit _ _)
  · split <;> exact h.setCan s _

theorem settleEmcy (s b : Dev) : R s (s.settleEmcy b) := by
  unfold Dev.settleEmcy
  split
  · exact h.emcy s _
  · exact h.refl s

end Dev.Closed

/-- `Kept` is one such relation. -/
theorem Dev.kept_closed : Dev.Closed Dev.Kept :=
  ⟨Dev.Kept.refl, Dev.Kept.trans, Dev.kept_count, Dev.kept_event, Dev.kept_emit, Dev.kept_setMeter, Dev.kept_setCan⟩

/-- Settling leaves all these parts as the effect left them. -/
theorem Dev.kept_settle (s b : Dev) : Dev.Kept s (s.settle b) :=
  (((s.kept_settleOutputs b).trans (Dev.kept_settleMode _ b)).trans (Dev.kept_closed.settleMeter _ b)).trans (Dev.kept_closed.settleEmcy _ b)

/-- A command's effect `f` reaches the next state in all these parts. -/
theorem State.after_same (s : State) (f : Dev → Dev) : Dev.Same (f s.dev.quiet) (s.after f).dev := by
  refine (Dev.kept_settle _ s.dev).same.trans ?_
  have h : Dev.Same ((f s.dev.quiet).settle s.dev) { (f s.dev.quiet).settle s.dev with raised := [] } :=
    ⟨rfl, rfl, rfl, rfl, rfl, rfl, rfl, rfl, rfl, rfl, rfl, rfl, rfl, rfl, rfl, rfl, rfl, rfl, rfl, rfl, rfl, rfl, rfl, fun _ _ _ => rfl⟩
  exact h.trans (Dev.kept_foldl Dev.dropEvent (fun s o => s.kept_dropEvent o) _ _).same

/-- What stands in the ports, the pool and the class queues is the same. -/
structure Dev.SamePool (a b : Dev) : Prop where
  net : b.net = a.net
  sw : b.sw = a.sw
  classQ : b.ten.classQ = a.ten.classQ

theorem Dev.samePool_closed : Dev.Closed Dev.SamePool where
  refl _ := ⟨rfl, rfl, rfl⟩
  trans h k := ⟨k.net.trans h.net, k.sw.trans h.sw, k.classQ.trans h.classQ⟩
  count _ _ _ _ _ := ⟨rfl, rfl, rfl⟩
  event _ _ _ _ _ := ⟨rfl, rfl, rfl⟩
  emit _ _ := ⟨rfl, rfl, rfl⟩
  setMeter _ _ := ⟨rfl, rfl, rfl⟩
  setCan _ _ := ⟨rfl, rfl, rfl⟩

theorem Dev.samePool_settleMode (s b : Dev) : Dev.SamePool s (s.settleMode b) := by
  unfold Dev.settleMode Dev.modeChanged
  dsimp only
  repeat' split
  all_goals exact ⟨rfl, rfl, rfl⟩

/-- Outputs are settled only where a seam, a region or a bond link changed. -/
theorem Dev.settleOutputs_eq {s b : Dev} (ha : s.arch = b.arch) (ho : s.own = b.own) : s.settleOutputs b = s := by
  have hu : ∀ o, s.outputUnavailable o = b.outputUnavailable o := by
    intro o
    simp only [Dev.outputUnavailable, Dev.isolated, Dev.region, Dev.seamUp, Dev.seam, ha, ho]
  unfold Dev.settleOutputs
  generalize List.range 16 = l
  induction l with
  | nil => rfl
  | cons o l ih =>
    simp only [List.foldl_cons, hu o, Bool.and_not_self, Bool.false_eq_true, if_false]
    exact ih

/-- Where an effect changes no seam, region or bond link, the ports, the pool and the class queues are as the effect left them. -/
theorem State.after_samePool (s : State) (f : Dev → Dev) (ha : (f s.dev.quiet).arch = s.dev.arch) (ho : (f s.dev.quiet).own = s.dev.own) :
    Dev.SamePool (f s.dev.quiet) (s.after f).dev := by
  have h := Dev.samePool_closed
  have hs : Dev.SamePool (f s.dev.quiet) ((f s.dev.quiet).settle s.dev) := by
    unfold Dev.settle
    rw [Dev.settleOutputs_eq ha ho]
    exact h.trans (h.trans (Dev.samePool_settleMode _ _) (h.settleMeter _ _)) (h.settleEmcy _ _)
  have hd : Dev.SamePool ((f s.dev.quiet).settle s.dev) { (f s.dev.quiet).settle s.dev with raised := [] } := ⟨rfl, rfl, rfl⟩
  exact h.trans hs (h.trans hd (h.foldl Dev.dropEvent (fun _ _ => ⟨rfl, rfl, rfl⟩) _ _))

end Sys2Proof.Machine
end

