-- ==== Sys2Proof/Laws/Run.lean ====
section
/-!
SUPPORT. What is known of the state after a command's effect: the parts it reaches unchanged, the queue of commands, the event queues.
-/
namespace Sys2Proof.Machine

variable (s : State) (f : Dev → Dev)

@[simp] theorem State.run_eq : s.run f = .next (s.after f) := rfl
@[simp] theorem State.runIf_true (c : Bool) (h : c = true) : s.runIf c f = .next (s.after f) := by simp [State.runIf, State.run, h]

theorem Dev.dropEvent_raised (l : List Occ) : ∀ d : Dev, (l.foldl Dev.dropEvent d).raised = d.raised := by
  induction l with
  | nil => exact fun _ => rfl
  | cons o l ih => exact fun d => (ih _).trans rfl

theorem Dev.dropEvent_out (l : List Occ) : ∀ d : Dev, (l.foldl Dev.dropEvent d).out = d.out := by
  induction l with
  | nil => exact fun _ => rfl
  | cons o l ih => exact fun d => (ih _).trans rfl

@[simp] theorem State.after_pending : (s.after f).pending = s.pending := rfl
@[simp] theorem State.after_raised : (s.after f).dev.raised = [] := Dev.dropEvent_raised _ _

@[simp] theorem State.after_time : (s.after f).dev.time = (f s.dev.quiet).time := (s.after_same f).time
@[simp] theorem State.after_timeLoaded : (s.after f).dev.timeLoaded = (f s.dev.quiet).timeLoaded := (s.after_same f).timeLoaded
@[simp] theorem State.after_fresh : (s.after f).dev.fresh = (f s.dev.quiet).fresh := (s.after_same f).fresh
@[simp] theorem State.after_regs : (s.after f).dev.regs = (f s.dev.quiet).regs := (s.after_same f).regs
@[simp] theorem State.after_marks : (s.after f).dev.marks = (f s.dev.quiet).marks := (s.after_same f).marks
@[simp] theorem State.after_latches : (s.after f).dev.latches = (f s.dev.quiet).latches := (s.after_same f).latches
@[simp] theorem State.after_arch : (s.after f).dev.arch = (f s.dev.quiet).arch := (s.after_same f).arch
@[simp] theorem State.after_pkg : (s.after f).dev.pkg = (f s.dev.quiet).pkg := (s.after_same f).pkg
@[simp] theorem State.after_own : (s.after f).dev.own = (f s.dev.quiet).own := (s.after_same f).own
@[simp] theorem State.after_cust : (s.after f).dev.cust = (f s.dev.quiet).cust := (s.after_same f).cust
@[simp] theorem State.after_ep : (s.after f).dev.ep = (f s.dev.quiet).ep := (s.after_same f).ep
@[simp] theorem State.after_store : (s.after f).dev.store = (f s.dev.quiet).store := (s.after_same f).store
@[simp] theorem State.after_shelf : (s.after f).dev.shelf = (f s.dev.quiet).shelf := (s.after_same f).shelf
@[simp] theorem State.after_rdma : (s.after f).dev.rdma = (f s.dev.quiet).rdma := (s.after_same f).rdma
@[simp] theorem State.after_nvme : (s.after f).dev.nvme = (f s.dev.quiet).nvme := (s.after_same f).nvme
@[simp] theorem State.after_dma : (s.after f).dev.dma = (f s.dev.quiet).dma := (s.after_same f).dma

/-- A register field after a command is what its effect left. -/
@[simp] theorem State.after_fld (x : Fld) (i : Nat) : (s.after f).dev.fld x i = (f s.dev.quiet).fld x i := by
  simp only [Dev.fld, State.after_regs]

@[simp] theorem State.after_flag (x : Fld) (i : Nat) : (s.after f).dev.flag x i = (f s.dev.quiet).flag x i := by
  simp only [Dev.flag, State.after_fld]

/-- A counter that settling does not touch is what the effect left. -/
theorem State.after_ctr (c : Ctr) (hc : c ∉ settleCtrs) (i : Nat) : (s.after f).dev.ctr c i = (f s.dev.quiet).ctr c i :=
  (s.after_same f).ctrs c hc i

theorem EventQueues.get_set_self (q : EventQueues) (d : Die) (l : List Occ) : (q.set d l).get d = l := by cases d <;> rfl

theorem EventQueues.get_set_other (q : EventQueues) (d e : Die) (l : List Occ) (h : e ≠ d) : (q.set d l).get e = q.get e := by
  cases d <;> cases e <;> first | rfl | exact absurd rfl h

/-- An accepted occurrence keeps the queues within their bounds. -/
theorem EventQueues.ok_accept {q : EventQueues} {reach : Die → Bool} {o : Occ} (h : q.ok) (ha : q.accepts reach o = true) :
    (q.set o.die (q.get o.die ++ [o])).ok := by
  intro d
  by_cases hd : d = o.die
  · subst hd
    rw [EventQueues.get_set_self]
    refine ⟨fun x hx => ?_, fun hne => ?_⟩
    · rcases List.mem_append.mp hx with hx | hx
      · exact (h o.die).1 x hx
      · rw [List.mem_singleton.mp hx]
    · have hlt : (q.get o.die).length < eventQueueDepth := by
        unfold EventQueues.accepts at ha
        split at ha
        · rename_i hpl
          exact absurd hpl hne
        · simp only [Bool.and_eq_true, decide_eq_true_eq] at ha
          exact ha.2
      simp only [List.length_append, List.length_singleton]
      omega
  · rw [EventQueues.get_set_other _ _ _ _ hd]
    exact h d

/-- Pushing occurrences keeps the queues within their bounds. -/
theorem EventQueues.ok_push (reach : Die → Bool) (os : List Occ) : ∀ q : EventQueues, q.ok → (EventQueues.push reach q os).1.ok := by
  induction os with
  | nil => exact fun q h => h
  | cons o os ih =>
    intro q h
    unfold EventQueues.push
    split
    · rename_i ha
      exact ih _ (EventQueues.ok_accept h ha)
    · exact ih q h

/-- Pushing takes nothing out of a queue. -/
theorem EventQueues.push_mono (reach : Die → Bool) (os : List Occ) :
    ∀ q : EventQueues, ∀ d, ∀ o ∈ q.get d, o ∈ (EventQueues.push reach q os).1.get d := by
  induction os with
  | nil => exact fun q d o h => h
  | cons x os ih =>
    intro q d o h
    unfold EventQueues.push
    split
    · refine ih _ d o ?_
      by_cases hd : d = x.die
      · subst hd
        rw [EventQueues.get_set_self]
        exact List.mem_append_left _ h
      · rw [EventQueues.get_set_other _ _ _ _ hd]
        exact h
    · exact ih q d o h

/-- An event of Plinth's reaches its queue (15 R599). -/
theorem EventQueues.push_plinth (reach : Die → Bool) (os : List Occ) :
    ∀ q : EventQueues, ∀ o ∈ os, o.die = .pl → o ∈ (EventQueues.push reach q os).1.pl := by
  induction os with
  | nil => exact fun q o h => absurd h List.not_mem_nil
  | cons x os ih =>
    intro q o h hpl
    unfold EventQueues.push
    split
    · rcases List.mem_cons.mp h with rfl | h
      · refine EventQueues.push_mono reach os _ .pl o ?_
        rw [hpl, EventQueues.get_set_self]
        exact List.mem_append_right _ (List.mem_singleton.mpr rfl)
      · exact ih _ o h hpl
    · rename_i hn
      rcases List.mem_cons.mp h with rfl | h
      · exact absurd (by simp only [EventQueues.accepts, hpl]) hn
      · exact ih q o h hpl

/-- What a command's effect sends out is the beginning of what the command sent out. -/
theorem State.after_out : (f s.dev.quiet).out <+: (s.after f).dev.out := by
  have h : (s.after f).dev.out = ((f s.dev.quiet).settle s.dev).out := (Dev.dropEvent_out _ _).trans rfl
  rw [h]
  exact (Dev.kept_settle _ s.dev).out

theorem State.after_mem_out {o : Out} (h : o ∈ (f s.dev.quiet).out) : o ∈ (s.after f).dev.out := (s.after_out f).subset h

/-- An event that a command's effect raises on Plinth is in Plinth's queue. -/
theorem State.after_plinth {o : Occ} (h : o ∈ (f s.dev.quiet).raised) (hd : o.die = .pl) : o ∈ (s.after f).evq.pl :=
  EventQueues.push_plinth _ _ _ o ((Dev.kept_settle _ s.dev).raised.subset h) hd

/-- The event queues stay within their bounds over any command. -/
theorem State.after_evq_ok (h : s.evq.ok) : (s.after f).evq.ok := EventQueues.ok_push _ _ _ h

end Sys2Proof.Machine
end

