-- ==== Sys2Proof/Laws/State.lean ====
section
/-!
SUPPORT. What each named update of the device leaves as it was: one lemma per part per update, and the read of what an update wrote.
-/
namespace Sys2Proof.Machine

variable (s : Dev)

@[simp] theorem Dev.quiet_time : s.quiet.time = s.time := rfl
@[simp] theorem Dev.quiet_timeLoaded : s.quiet.timeLoaded = s.timeLoaded := rfl
@[simp] theorem Dev.quiet_fresh : s.quiet.fresh = s.fresh := rfl
@[simp] theorem Dev.quiet_regs : s.quiet.regs = s.regs := rfl
@[simp] theorem Dev.quiet_ctrs : s.quiet.ctrs = s.ctrs := rfl
@[simp] theorem Dev.quiet_marks : s.quiet.marks = s.marks := rfl
@[simp] theorem Dev.quiet_latches : s.quiet.latches = s.latches := rfl
@[simp] theorem Dev.quiet_arch : s.quiet.arch = s.arch := rfl
@[simp] theorem Dev.quiet_mode : s.quiet.mode = s.mode := rfl
@[simp] theorem Dev.quiet_fw : s.quiet.fw = s.fw := rfl
@[simp] theorem Dev.quiet_pkg : s.quiet.pkg = s.pkg := rfl
@[simp] theorem Dev.quiet_evr : s.quiet.evr = s.evr := rfl
@[simp] theorem Dev.quiet_net : s.quiet.net = s.net := rfl
@[simp] theorem Dev.quiet_sw : s.quiet.sw = s.sw := rfl
@[simp] theorem Dev.quiet_ten : s.quiet.ten = s.ten := rfl
@[simp] theorem Dev.quiet_own : s.quiet.own = s.own := rfl
@[simp] theorem Dev.quiet_cust : s.quiet.cust = s.cust := rfl
@[simp] theorem Dev.quiet_ldg : s.quiet.ldg = s.ldg := rfl
@[simp] theorem Dev.quiet_ep : s.quiet.ep = s.ep := rfl
@[simp] theorem Dev.quiet_od : s.quiet.od = s.od := rfl
@[simp] theorem Dev.quiet_store : s.quiet.store = s.store := rfl
@[simp] theorem Dev.quiet_shelf : s.quiet.shelf = s.shelf := rfl
@[simp] theorem Dev.quiet_rdma : s.quiet.rdma = s.rdma := rfl
@[simp] theorem Dev.quiet_nvme : s.quiet.nvme = s.nvme := rfl
@[simp] theorem Dev.quiet_dma : s.quiet.dma = s.dma := rfl
@[simp] theorem Dev.quiet_fld (f : Fld) (j : Nat) : s.quiet.fld f j = s.fld f j := rfl
@[simp] theorem Dev.quiet_flag (f : Fld) (j : Nat) : s.quiet.flag f j = s.flag f j := rfl
@[simp] theorem Dev.quiet_ctr (e : Ctr) (j : Nat) : s.quiet.ctr e j = s.ctr e j := rfl
@[simp] theorem Dev.quiet_nowOn (e : Die) : s.quiet.nowOn e = s.nowOn e := rfl
@[simp] theorem Dev.quiet_region (j : Nat) : s.quiet.region j = s.region j := rfl
@[simp] theorem Dev.quiet_isolated (j : Nat) : s.quiet.isolated j = s.isolated j := rfl
@[simp] theorem Dev.quiet_seam (j : Nat) : s.quiet.seam j = s.seam j := rfl
@[simp] theorem Dev.quiet_seamUp (j : Nat) : s.quiet.seamUp j = s.seamUp j := rfl
@[simp] theorem Dev.quiet_rail (j : Nat) : s.quiet.rail j = s.rail j := rfl
@[simp] theorem Dev.quiet_reachesPlinth (e : Die) : s.quiet.reachesPlinth e = s.reachesPlinth e := rfl
@[simp] theorem Dev.quiet_now : s.quiet.now = s.now := rfl
@[simp] theorem Dev.quiet_bond (j : Nat) : s.quiet.bond j = s.bond j := rfl
@[simp] theorem Dev.quiet_pierOwn (j : Nat) : s.quiet.pierOwn j = s.pierOwn j := rfl
@[simp] theorem Dev.quiet_chan (j : Nat) : s.quiet.chan j = s.chan j := rfl
@[simp] theorem Dev.quiet_tn (j : Nat) : s.quiet.tn j = s.tn j := rfl
@[simp] theorem Dev.quiet_mac (j : Nat) : s.quiet.mac j = s.mac j := rfl
@[simp] theorem Dev.quiet_qp (j : Nat) : s.quiet.qp j = s.qp j := rfl
@[simp] theorem Dev.quiet_window (j : Nat) : s.quiet.window j = s.window j := rfl
@[simp] theorem Dev.quiet_epFn (j : Nat) : s.quiet.epFn j = s.epFn j := rfl
@[simp] theorem Dev.quiet_slotPwr (j : Nat) : s.quiet.slotPwr j = s.slotPwr j := rfl
@[simp] theorem Dev.quiet_port (j : Nat) : s.quiet.port j = s.port j := rfl
@[simp] theorem Dev.quiet_vol (j : Nat) : s.quiet.vol j = s.vol j := rfl
@[simp] theorem Dev.quiet_drive (j : Nat) : s.quiet.drive j = s.drive j := rfl
@[simp] theorem Dev.quiet_pier (j : Nat) : s.quiet.pier j = s.pier j := rfl
@[simp] theorem Dev.quiet_session (j : Nat) : s.quiet.session j = s.session j := rfl
@[simp] theorem Dev.quiet_served : s.quiet.served = s.served := rfl

@[simp] theorem Dev.setFld_time (y : Fld) (i v : Nat) : (s.setFld y i v).time = s.time := rfl
@[simp] theorem Dev.setFld_timeLoaded (y : Fld) (i v : Nat) : (s.setFld y i v).timeLoaded = s.timeLoaded := rfl
@[simp] theorem Dev.setFld_fresh (y : Fld) (i v : Nat) : (s.setFld y i v).fresh = s.fresh := rfl
@[simp] theorem Dev.setFld_out (y : Fld) (i v : Nat) : (s.setFld y i v).out = s.out := rfl
@[simp] theorem Dev.setFld_raised (y : Fld) (i v : Nat) : (s.setFld y i v).raised = s.raised := rfl
@[simp] theorem Dev.setFld_ctrs (y : Fld) (i v : Nat) : (s.setFld y i v).ctrs = s.ctrs := rfl
@[simp] theorem Dev.setFld_marks (y : Fld) (i v : Nat) : (s.setFld y i v).marks = s.marks := rfl
@[simp] theorem Dev.setFld_latches (y : Fld) (i v : Nat) : (s.setFld y i v).latches = s.latches := rfl
@[simp] theorem Dev.setFld_arch (y : Fld) (i v : Nat) : (s.setFld y i v).arch = s.arch := rfl
@[simp] theorem Dev.setFld_mode (y : Fld) (i v : Nat) : (s.setFld y i v).mode = s.mode := rfl
@[simp] theorem Dev.setFld_fw (y : Fld) (i v : Nat) : (s.setFld y i v).fw = s.fw := rfl
@[simp] theorem Dev.setFld_pkg (y : Fld) (i v : Nat) : (s.setFld y i v).pkg = s.pkg := rfl
@[simp] theorem Dev.setFld_evr (y : Fld) (i v : Nat) : (s.setFld y i v).evr = s.evr := rfl
@[simp] theorem Dev.setFld_net (y : Fld) (i v : Nat) : (s.setFld y i v).net = s.net := rfl
@[simp] theorem Dev.setFld_sw (y : Fld) (i v : Nat) : (s.setFld y i v).sw = s.sw := rfl
@[simp] theorem Dev.setFld_ten (y : Fld) (i v : Nat) : (s.setFld y i v).ten = s.ten := rfl
@[simp] theorem Dev.setFld_own (y : Fld) (i v : Nat) : (s.setFld y i v).own = s.own := rfl
@[simp] theorem Dev.setFld_cust (y : Fld) (i v : Nat) : (s.setFld y i v).cust = s.cust := rfl
@[simp] theorem Dev.setFld_ldg (y : Fld) (i v : Nat) : (s.setFld y i v).ldg = s.ldg := rfl
@[simp] theorem Dev.setFld_ep (y : Fld) (i v : Nat) : (s.setFld y i v).ep = s.ep := rfl
@[simp] theorem Dev.setFld_od (y : Fld) (i v : Nat) : (s.setFld y i v).od = s.od := rfl
@[simp] theorem Dev.setFld_store (y : Fld) (i v : Nat) : (s.setFld y i v).store = s.store := rfl
@[simp] theorem Dev.setFld_shelf (y : Fld) (i v : Nat) : (s.setFld y i v).shelf = s.shelf := rfl
@[simp] theorem Dev.setFld_rdma (y : Fld) (i v : Nat) : (s.setFld y i v).rdma = s.rdma := rfl
@[simp] theorem Dev.setFld_nvme (y : Fld) (i v : Nat) : (s.setFld y i v).nvme = s.nvme := rfl
@[simp] theorem Dev.setFld_dma (y : Fld) (i v : Nat) : (s.setFld y i v).dma = s.dma := rfl
@[simp] theorem Dev.setFld_ctr (y : Fld) (i v : Nat) (e : Ctr) (j : Nat) : (s.setFld y i v).ctr e j = s.ctr e j := rfl
@[simp] theorem Dev.setFld_nowOn (y : Fld) (i v : Nat) (e : Die) : (s.setFld y i v).nowOn e = s.nowOn e := rfl
@[simp] theorem Dev.setFld_region (y : Fld) (i v : Nat) (j : Nat) : (s.setFld y i v).region j = s.region j := rfl
@[simp] theorem Dev.setFld_isolated (y : Fld) (i v : Nat) (j : Nat) : (s.setFld y i v).isolated j = s.isolated j := rfl
@[simp] theorem Dev.setFld_seam (y : Fld) (i v : Nat) (j : Nat) : (s.setFld y i v).seam j = s.seam j := rfl
@[simp] theorem Dev.setFld_seamUp (y : Fld) (i v : Nat) (j : Nat) : (s.setFld y i v).seamUp j = s.seamUp j := rfl
@[simp] theorem Dev.setFld_rail (y : Fld) (i v : Nat) (j : Nat) : (s.setFld y i v).rail j = s.rail j := rfl
@[simp] theorem Dev.setFld_reachesPlinth (y : Fld) (i v : Nat) (e : Die) : (s.setFld y i v).reachesPlinth e = s.reachesPlinth e := rfl
@[simp] theorem Dev.setFld_now (y : Fld) (i v : Nat) : (s.setFld y i v).now = s.now := rfl
@[simp] theorem Dev.setFld_bond (y : Fld) (i v : Nat) (j : Nat) : (s.setFld y i v).bond j = s.bond j := rfl
@[simp] theorem Dev.setFld_pierOwn (y : Fld) (i v : Nat) (j : Nat) : (s.setFld y i v).pierOwn j = s.pierOwn j := rfl
@[simp] theorem Dev.setFld_chan (y : Fld) (i v : Nat) (j : Nat) : (s.setFld y i v).chan j = s.chan j := rfl
@[simp] theorem Dev.setFld_tn (y : Fld) (i v : Nat) (j : Nat) : (s.setFld y i v).tn j = s.tn j := rfl
@[simp] theorem Dev.setFld_mac (y : Fld) (i v : Nat) (j : Nat) : (s.setFld y i v).mac j = s.mac j := rfl
@[simp] theorem Dev.setFld_qp (y : Fld) (i v : Nat) (j : Nat) : (s.setFld y i v).qp j = s.qp j := rfl
@[simp] theorem Dev.setFld_window (y : Fld) (i v : Nat) (j : Nat) : (s.setFld y i v).window j = s.window j := rfl
@[simp] theorem Dev.setFld_epFn (y : Fld) (i v : Nat) (j : Nat) : (s.setFld y i v).epFn j = s.epFn j := rfl
@[simp] theorem Dev.setFld_slotPwr (y : Fld) (i v : Nat) (j : Nat) : (s.setFld y i v).slotPwr j = s.slotPwr j := rfl
@[simp] theorem Dev.setFld_port (y : Fld) (i v : Nat) (j : Nat) : (s.setFld y i v).port j = s.port j := rfl
@[simp] theorem Dev.setFld_vol (y : Fld) (i v : Nat) (j : Nat) : (s.setFld y i v).vol j = s.vol j := rfl
@[simp] theorem Dev.setFld_drive (y : Fld) (i v : Nat) (j : Nat) : (s.setFld y i v).drive j = s.drive j := rfl
@[simp] theorem Dev.setFld_pier (y : Fld) (i v : Nat) (j : Nat) : (s.setFld y i v).pier j = s.pier j := rfl
@[simp] theorem Dev.setFld_session (y : Fld) (i v : Nat) (j : Nat) : (s.setFld y i v).session j = s.session j := rfl
@[simp] theorem Dev.setFld_served (y : Fld) (i v : Nat) : (s.setFld y i v).served = s.served := rfl

@[simp] theorem Dev.count_time (c : Ctr) (i n : Nat) : (s.count c i n).time = s.time := rfl
@[simp] theorem Dev.count_timeLoaded (c : Ctr) (i n : Nat) : (s.count c i n).timeLoaded = s.timeLoaded := rfl
@[simp] theorem Dev.count_fresh (c : Ctr) (i n : Nat) : (s.count c i n).fresh = s.fresh := rfl
@[simp] theorem Dev.count_out (c : Ctr) (i n : Nat) : (s.count c i n).out = s.out := rfl
@[simp] theorem Dev.count_raised (c : Ctr) (i n : Nat) : (s.count c i n).raised = s.raised := rfl
@[simp] theorem Dev.count_regs (c : Ctr) (i n : Nat) : (s.count c i n).regs = s.regs := rfl
@[simp] theorem Dev.count_marks (c : Ctr) (i n : Nat) : (s.count c i n).marks = s.marks := rfl
@[simp] theorem Dev.count_latches (c : Ctr) (i n : Nat) : (s.count c i n).latches = s.latches := rfl
@[simp] theorem Dev.count_arch (c : Ctr) (i n : Nat) : (s.count c i n).arch = s.arch := rfl
@[simp] theorem Dev.count_mode (c : Ctr) (i n : Nat) : (s.count c i n).mode = s.mode := rfl
@[simp] theorem Dev.count_fw (c : Ctr) (i n : Nat) : (s.count c i n).fw = s.fw := rfl
@[simp] theorem Dev.count_pkg (c : Ctr) (i n : Nat) : (s.count c i n).pkg = s.pkg := rfl
@[simp] theorem Dev.count_evr (c : Ctr) (i n : Nat) : (s.count c i n).evr = s.evr := rfl
@[simp] theorem Dev.count_net (c : Ctr) (i n : Nat) : (s.count c i n).net = s.net := rfl
@[simp] theorem Dev.count_sw (c : Ctr) (i n : Nat) : (s.count c i n).sw = s.sw := rfl
@[simp] theorem Dev.count_ten (c : Ctr) (i n : Nat) : (s.count c i n).ten = s.ten := rfl
@[simp] theorem Dev.count_own (c : Ctr) (i n : Nat) : (s.count c i n).own = s.own := rfl
@[simp] theorem Dev.count_cust (c : Ctr) (i n : Nat) : (s.count c i n).cust = s.cust := rfl
@[simp] theorem Dev.count_ldg (c : Ctr) (i n : Nat) : (s.count c i n).ldg = s.ldg := rfl
@[simp] theorem Dev.count_ep (c : Ctr) (i n : Nat) : (s.count c i n).ep = s.ep := rfl
@[simp] theorem Dev.count_od (c : Ctr) (i n : Nat) : (s.count c i n).od = s.od := rfl
@[simp] theorem Dev.count_store (c : Ctr) (i n : Nat) : (s.count c i n).store = s.store := rfl
@[simp] theorem Dev.count_shelf (c : Ctr) (i n : Nat) : (s.count c i n).shelf = s.shelf := rfl
@[simp] theorem Dev.count_rdma (c : Ctr) (i n : Nat) : (s.count c i n).rdma = s.rdma := rfl
@[simp] theorem Dev.count_nvme (c : Ctr) (i n : Nat) : (s.count c i n).nvme = s.nvme := rfl
@[simp] theorem Dev.count_dma (c : Ctr) (i n : Nat) : (s.count c i n).dma = s.dma := rfl
@[simp] theorem Dev.count_fld (c : Ctr) (i n : Nat) (f : Fld) (j : Nat) : (s.count c i n).fld f j = s.fld f j := rfl
@[simp] theorem Dev.count_flag (c : Ctr) (i n : Nat) (f : Fld) (j : Nat) : (s.count c i n).flag f j = s.flag f j := rfl
@[simp] theorem Dev.count_nowOn (c : Ctr) (i n : Nat) (e : Die) : (s.count c i n).nowOn e = s.nowOn e := rfl
@[simp] theorem Dev.count_region (c : Ctr) (i n : Nat) (j : Nat) : (s.count c i n).region j = s.region j := rfl
@[simp] theorem Dev.count_isolated (c : Ctr) (i n : Nat) (j : Nat) : (s.count c i n).isolated j = s.isolated j := rfl
@[simp] theorem Dev.count_seam (c : Ctr) (i n : Nat) (j : Nat) : (s.count c i n).seam j = s.seam j := rfl
@[simp] theorem Dev.count_seamUp (c : Ctr) (i n : Nat) (j : Nat) : (s.count c i n).seamUp j = s.seamUp j := rfl
@[simp] theorem Dev.count_rail (c : Ctr) (i n : Nat) (j : Nat) : (s.count c i n).rail j = s.rail j := rfl
@[simp] theorem Dev.count_reachesPlinth (c : Ctr) (i n : Nat) (e : Die) : (s.count c i n).reachesPlinth e = s.reachesPlinth e := rfl
@[simp] theorem Dev.count_now (c : Ctr) (i n : Nat) : (s.count c i n).now = s.now := rfl
@[simp] theorem Dev.count_bond (c : Ctr) (i n : Nat) (j : Nat) : (s.count c i n).bond j = s.bond j := rfl
@[simp] theorem Dev.count_pierOwn (c : Ctr) (i n : Nat) (j : Nat) : (s.count c i n).pierOwn j = s.pierOwn j := rfl
@[simp] theorem Dev.count_chan (c : Ctr) (i n : Nat) (j : Nat) : (s.count c i n).chan j = s.chan j := rfl
@[simp] theorem Dev.count_tn (c : Ctr) (i n : Nat) (j : Nat) : (s.count c i n).tn j = s.tn j := rfl
@[simp] theorem Dev.count_mac (c : Ctr) (i n : Nat) (j : Nat) : (s.count c i n).mac j = s.mac j := rfl
@[simp] theorem Dev.count_qp (c : Ctr) (i n : Nat) (j : Nat) : (s.count c i n).qp j = s.qp j := rfl
@[simp] theorem Dev.count_window (c : Ctr) (i n : Nat) (j : Nat) : (s.count c i n).window j = s.window j := rfl
@[simp] theorem Dev.count_epFn (c : Ctr) (i n : Nat) (j : Nat) : (s.count c i n).epFn j = s.epFn j := rfl
@[simp] theorem Dev.count_slotPwr (c : Ctr) (i n : Nat) (j : Nat) : (s.count c i n).slotPwr j = s.slotPwr j := rfl
@[simp] theorem Dev.count_port (c : Ctr) (i n : Nat) (j : Nat) : (s.count c i n).port j = s.port j := rfl
@[simp] theorem Dev.count_vol (c : Ctr) (i n : Nat) (j : Nat) : (s.count c i n).vol j = s.vol j := rfl
@[simp] theorem Dev.count_drive (c : Ctr) (i n : Nat) (j : Nat) : (s.count c i n).drive j = s.drive j := rfl
@[simp] theorem Dev.count_pier (c : Ctr) (i n : Nat) (j : Nat) : (s.count c i n).pier j = s.pier j := rfl
@[simp] theorem Dev.count_session (c : Ctr) (i n : Nat) (j : Nat) : (s.count c i n).session j = s.session j := rfl
@[simp] theorem Dev.count_served (c : Ctr) (i n : Nat) : (s.count c i n).served = s.served := rfl

@[simp] theorem Dev.addMark_time (k n : Nat) : (s.addMark k n).time = s.time := rfl
@[simp] theorem Dev.addMark_timeLoaded (k n : Nat) : (s.addMark k n).timeLoaded = s.timeLoaded := rfl
@[simp] theorem Dev.addMark_fresh (k n : Nat) : (s.addMark k n).fresh = s.fresh := rfl
@[simp] theorem Dev.addMark_out (k n : Nat) : (s.addMark k n).out = s.out := rfl
@[simp] theorem Dev.addMark_raised (k n : Nat) : (s.addMark k n).raised = s.raised := rfl
@[simp] theorem Dev.addMark_regs (k n : Nat) : (s.addMark k n).regs = s.regs := rfl
@[simp] theorem Dev.addMark_ctrs (k n : Nat) : (s.addMark k n).ctrs = s.ctrs := rfl
@[simp] theorem Dev.addMark_latches (k n : Nat) : (s.addMark k n).latches = s.latches := rfl
@[simp] theorem Dev.addMark_arch (k n : Nat) : (s.addMark k n).arch = s.arch := rfl
@[simp] theorem Dev.addMark_mode (k n : Nat) : (s.addMark k n).mode = s.mode := rfl
@[simp] theorem Dev.addMark_fw (k n : Nat) : (s.addMark k n).fw = s.fw := rfl
@[simp] theorem Dev.addMark_pkg (k n : Nat) : (s.addMark k n).pkg = s.pkg := rfl
@[simp] theorem Dev.addMark_evr (k n : Nat) : (s.addMark k n).evr = s.evr := rfl
@[simp] theorem Dev.addMark_net (k n : Nat) : (s.addMark k n).net = s.net := rfl
@[simp] theorem Dev.addMark_sw (k n : Nat) : (s.addMark k n).sw = s.sw := rfl
@[simp] theorem Dev.addMark_ten (k n : Nat) : (s.addMark k n).ten = s.ten := rfl
@[simp] theorem Dev.addMark_own (k n : Nat) : (s.addMark k n).own = s.own := rfl
@[simp] theorem Dev.addMark_cust (k n : Nat) : (s.addMark k n).cust = s.cust := rfl
@[simp] theorem Dev.addMark_ldg (k n : Nat) : (s.addMark k n).ldg = s.ldg := rfl
@[simp] theorem Dev.addMark_ep (k n : Nat) : (s.addMark k n).ep = s.ep := rfl
@[simp] theorem Dev.addMark_od (k n : Nat) : (s.addMark k n).od = s.od := rfl
@[simp] theorem Dev.addMark_store (k n : Nat) : (s.addMark k n).store = s.store := rfl
@[simp] theorem Dev.addMark_shelf (k n : Nat) : (s.addMark k n).shelf = s.shelf := rfl
@[simp] theorem Dev.addMark_rdma (k n : Nat) : (s.addMark k n).rdma = s.rdma := rfl
@[simp] theorem Dev.addMark_nvme (k n : Nat) : (s.addMark k n).nvme = s.nvme := rfl
@[simp] theorem Dev.addMark_dma (k n : Nat) : (s.addMark k n).dma = s.dma := rfl
@[simp] theorem Dev.addMark_fld (k n : Nat) (f : Fld) (j : Nat) : (s.addMark k n).fld f j = s.fld f j := rfl
@[simp] theorem Dev.addMark_flag (k n : Nat) (f : Fld) (j : Nat) : (s.addMark k n).flag f j = s.flag f j := rfl
@[simp] theorem Dev.addMark_ctr (k n : Nat) (e : Ctr) (j : Nat) : (s.addMark k n).ctr e j = s.ctr e j := rfl
@[simp] theorem Dev.addMark_nowOn (k n : Nat) (e : Die) : (s.addMark k n).nowOn e = s.nowOn e := rfl
@[simp] theorem Dev.addMark_region (k n : Nat) (j : Nat) : (s.addMark k n).region j = s.region j := rfl
@[simp] theorem Dev.addMark_isolated (k n : Nat) (j : Nat) : (s.addMark k n).isolated j = s.isolated j := rfl
@[simp] theorem Dev.addMark_seam (k n : Nat) (j : Nat) : (s.addMark k n).seam j = s.seam j := rfl
@[simp] theorem Dev.addMark_seamUp (k n : Nat) (j : Nat) : (s.addMark k n).seamUp j = s.seamUp j := rfl
@[simp] theorem Dev.addMark_rail (k n : Nat) (j : Nat) : (s.addMark k n).rail j = s.rail j := rfl
@[simp] theorem Dev.addMark_reachesPlinth (k n : Nat) (e : Die) : (s.addMark k n).reachesPlinth e = s.reachesPlinth e := rfl
@[simp] theorem Dev.addMark_now (k n : Nat) : (s.addMark k n).now = s.now := rfl
@[simp] theorem Dev.addMark_bond (k n : Nat) (j : Nat) : (s.addMark k n).bond j = s.bond j := rfl
@[simp] theorem Dev.addMark_pierOwn (k n : Nat) (j : Nat) : (s.addMark k n).pierOwn j = s.pierOwn j := rfl
@[simp] theorem Dev.addMark_chan (k n : Nat) (j : Nat) : (s.addMark k n).chan j = s.chan j := rfl
@[simp] theorem Dev.addMark_tn (k n : Nat) (j : Nat) : (s.addMark k n).tn j = s.tn j := rfl
@[simp] theorem Dev.addMark_mac (k n : Nat) (j : Nat) : (s.addMark k n).mac j = s.mac j := rfl
@[simp] theorem Dev.addMark_qp (k n : Nat) (j : Nat) : (s.addMark k n).qp j = s.qp j := rfl
@[simp] theorem Dev.addMark_window (k n : Nat) (j : Nat) : (s.addMark k n).window j = s.window j := rfl
@[simp] theorem Dev.addMark_epFn (k n : Nat) (j : Nat) : (s.addMark k n).epFn j = s.epFn j := rfl
@[simp] theorem Dev.addMark_slotPwr (k n : Nat) (j : Nat) : (s.addMark k n).slotPwr j = s.slotPwr j := rfl
@[simp] theorem Dev.addMark_port (k n : Nat) (j : Nat) : (s.addMark k n).port j = s.port j := rfl
@[simp] theorem Dev.addMark_vol (k n : Nat) (j : Nat) : (s.addMark k n).vol j = s.vol j := rfl
@[simp] theorem Dev.addMark_drive (k n : Nat) (j : Nat) : (s.addMark k n).drive j = s.drive j := rfl
@[simp] theorem Dev.addMark_pier (k n : Nat) (j : Nat) : (s.addMark k n).pier j = s.pier j := rfl
@[simp] theorem Dev.addMark_session (k n : Nat) (j : Nat) : (s.addMark k n).session j = s.session j := rfl
@[simp] theorem Dev.addMark_served (k n : Nat) : (s.addMark k n).served = s.served := rfl

@[simp] theorem Dev.emit_time (o : Out) : (s.emit o).time = s.time := rfl
@[simp] theorem Dev.emit_timeLoaded (o : Out) : (s.emit o).timeLoaded = s.timeLoaded := rfl
@[simp] theorem Dev.emit_fresh (o : Out) : (s.emit o).fresh = s.fresh := rfl
@[simp] theorem Dev.emit_raised (o : Out) : (s.emit o).raised = s.raised := rfl
@[simp] theorem Dev.emit_regs (o : Out) : (s.emit o).regs = s.regs := rfl
@[simp] theorem Dev.emit_ctrs (o : Out) : (s.emit o).ctrs = s.ctrs := rfl
@[simp] theorem Dev.emit_marks (o : Out) : (s.emit o).marks = s.marks := rfl
@[simp] theorem Dev.emit_latches (o : Out) : (s.emit o).latches = s.latches := rfl
@[simp] theorem Dev.emit_arch (o : Out) : (s.emit o).arch = s.arch := rfl
@[simp] theorem Dev.emit_mode (o : Out) : (s.emit o).mode = s.mode := rfl
@[simp] theorem Dev.emit_fw (o : Out) : (s.emit o).fw = s.fw := rfl
@[simp] theorem Dev.emit_pkg (o : Out) : (s.emit o).pkg = s.pkg := rfl
@[simp] theorem Dev.emit_evr (o : Out) : (s.emit o).evr = s.evr := rfl
@[simp] theorem Dev.emit_net (o : Out) : (s.emit o).net = s.net := rfl
@[simp] theorem Dev.emit_sw (o : Out) : (s.emit o).sw = s.sw := rfl
@[simp] theorem Dev.emit_ten (o : Out) : (s.emit o).ten = s.ten := rfl
@[simp] theorem Dev.emit_own (o : Out) : (s.emit o).own = s.own := rfl
@[simp] theorem Dev.emit_cust (o : Out) : (s.emit o).cust = s.cust := rfl
@[simp] theorem Dev.emit_ldg (o : Out) : (s.emit o).ldg = s.ldg := rfl
@[simp] theorem Dev.emit_ep (o : Out) : (s.emit o).ep = s.ep := rfl
@[simp] theorem Dev.emit_od (o : Out) : (s.emit o).od = s.od := rfl
@[simp] theorem Dev.emit_store (o : Out) : (s.emit o).store = s.store := rfl
@[simp] theorem Dev.emit_shelf (o : Out) : (s.emit o).shelf = s.shelf := rfl
@[simp] theorem Dev.emit_rdma (o : Out) : (s.emit o).rdma = s.rdma := rfl
@[simp] theorem Dev.emit_nvme (o : Out) : (s.emit o).nvme = s.nvme := rfl
@[simp] theorem Dev.emit_dma (o : Out) : (s.emit o).dma = s.dma := rfl
@[simp] theorem Dev.emit_fld (o : Out) (f : Fld) (j : Nat) : (s.emit o).fld f j = s.fld f j := rfl
@[simp] theorem Dev.emit_flag (o : Out) (f : Fld) (j : Nat) : (s.emit o).flag f j = s.flag f j := rfl
@[simp] theorem Dev.emit_ctr (o : Out) (e : Ctr) (j : Nat) : (s.emit o).ctr e j = s.ctr e j := rfl
@[simp] theorem Dev.emit_nowOn (o : Out) (e : Die) : (s.emit o).nowOn e = s.nowOn e := rfl
@[simp] theorem Dev.emit_region (o : Out) (j : Nat) : (s.emit o).region j = s.region j := rfl
@[simp] theorem Dev.emit_isolated (o : Out) (j : Nat) : (s.emit o).isolated j = s.isolated j := rfl
@[simp] theorem Dev.emit_seam (o : Out) (j : Nat) : (s.emit o).seam j = s.seam j := rfl
@[simp] theorem Dev.emit_seamUp (o : Out) (j : Nat) : (s.emit o).seamUp j = s.seamUp j := rfl
@[simp] theorem Dev.emit_rail (o : Out) (j : Nat) : (s.emit o).rail j = s.rail j := rfl
@[simp] theorem Dev.emit_reachesPlinth (o : Out) (e : Die) : (s.emit o).reachesPlinth e = s.reachesPlinth e := rfl
@[simp] theorem Dev.emit_now (o : Out) : (s.emit o).now = s.now := rfl
@[simp] theorem Dev.emit_bond (o : Out) (j : Nat) : (s.emit o).bond j = s.bond j := rfl
@[simp] theorem Dev.emit_pierOwn (o : Out) (j : Nat) : (s.emit o).pierOwn j = s.pierOwn j := rfl
@[simp] theorem Dev.emit_chan (o : Out) (j : Nat) : (s.emit o).chan j = s.chan j := rfl
@[simp] theorem Dev.emit_tn (o : Out) (j : Nat) : (s.emit o).tn j = s.tn j := rfl
@[simp] theorem Dev.emit_mac (o : Out) (j : Nat) : (s.emit o).mac j = s.mac j := rfl
@[simp] theorem Dev.emit_qp (o : Out) (j : Nat) : (s.emit o).qp j = s.qp j := rfl
@[simp] theorem Dev.emit_window (o : Out) (j : Nat) : (s.emit o).window j = s.window j := rfl
@[simp] theorem Dev.emit_epFn (o : Out) (j : Nat) : (s.emit o).epFn j = s.epFn j := rfl
@[simp] theorem Dev.emit_slotPwr (o : Out) (j : Nat) : (s.emit o).slotPwr j = s.slotPwr j := rfl
@[simp] theorem Dev.emit_port (o : Out) (j : Nat) : (s.emit o).port j = s.port j := rfl
@[simp] theorem Dev.emit_vol (o : Out) (j : Nat) : (s.emit o).vol j = s.vol j := rfl
@[simp] theorem Dev.emit_drive (o : Out) (j : Nat) : (s.emit o).drive j = s.drive j := rfl
@[simp] theorem Dev.emit_pier (o : Out) (j : Nat) : (s.emit o).pier j = s.pier j := rfl
@[simp] theorem Dev.emit_session (o : Out) (j : Nat) : (s.emit o).session j = s.session j := rfl
@[simp] theorem Dev.emit_served (o : Out) : (s.emit o).served = s.served := rfl

@[simp] theorem Dev.event_time (d : Die) (id : Nat) (x : List Byte) (c : Nat) : (s.event d id x c).time = s.time := rfl
@[simp] theorem Dev.event_timeLoaded (d : Die) (id : Nat) (x : List Byte) (c : Nat) : (s.event d id x c).timeLoaded = s.timeLoaded := rfl
@[simp] theorem Dev.event_fresh (d : Die) (id : Nat) (x : List Byte) (c : Nat) : (s.event d id x c).fresh = s.fresh := rfl
@[simp] theorem Dev.event_out (d : Die) (id : Nat) (x : List Byte) (c : Nat) : (s.event d id x c).out = s.out := rfl
@[simp] theorem Dev.event_regs (d : Die) (id : Nat) (x : List Byte) (c : Nat) : (s.event d id x c).regs = s.regs := rfl
@[simp] theorem Dev.event_ctrs (d : Die) (id : Nat) (x : List Byte) (c : Nat) : (s.event d id x c).ctrs = s.ctrs := rfl
@[simp] theorem Dev.event_marks (d : Die) (id : Nat) (x : List Byte) (c : Nat) : (s.event d id x c).marks = s.marks := rfl
@[simp] theorem Dev.event_latches (d : Die) (id : Nat) (x : List Byte) (c : Nat) : (s.event d id x c).latches = s.latches := rfl
@[simp] theorem Dev.event_arch (d : Die) (id : Nat) (x : List Byte) (c : Nat) : (s.event d id x c).arch = s.arch := rfl
@[simp] theorem Dev.event_mode (d : Die) (id : Nat) (x : List Byte) (c : Nat) : (s.event d id x c).mode = s.mode := rfl
@[simp] theorem Dev.event_fw (d : Die) (id : Nat) (x : List Byte) (c : Nat) : (s.event d id x c).fw = s.fw := rfl
@[simp] theorem Dev.event_pkg (d : Die) (id : Nat) (x : List Byte) (c : Nat) : (s.event d id x c).pkg = s.pkg := rfl
@[simp] theorem Dev.event_evr (d : Die) (id : Nat) (x : List Byte) (c : Nat) : (s.event d id x c).evr = s.evr := rfl
@[simp] theorem Dev.event_net (d : Die) (id : Nat) (x : List Byte) (c : Nat) : (s.event d id x c).net = s.net := rfl
@[simp] theorem Dev.event_sw (d : Die) (id : Nat) (x : List Byte) (c : Nat) : (s.event d id x c).sw = s.sw := rfl
@[simp] theorem Dev.event_ten (d : Die) (id : Nat) (x : List Byte) (c : Nat) : (s.event d id x c).ten = s.ten := rfl
@[simp] theorem Dev.event_own (d : Die) (id : Nat) (x : List Byte) (c : Nat) : (s.event d id x c).own = s.own := rfl
@[simp] theorem Dev.event_cust (d : Die) (id : Nat) (x : List Byte) (c : Nat) : (s.event d id x c).cust = s.cust := rfl
@[simp] theorem Dev.event_ldg (d : Die) (id : Nat) (x : List Byte) (c : Nat) : (s.event d id x c).ldg = s.ldg := rfl
@[simp] theorem Dev.event_ep (d : Die) (id : Nat) (x : List Byte) (c : Nat) : (s.event d id x c).ep = s.ep := rfl
@[simp] theorem Dev.event_od (d : Die) (id : Nat) (x : List Byte) (c : Nat) : (s.event d id x c).od = s.od := rfl
@[simp] theorem Dev.event_store (d : Die) (id : Nat) (x : List Byte) (c : Nat) : (s.event d id x c).store = s.store := rfl
@[simp] theorem Dev.event_shelf (d : Die) (id : Nat) (x : List Byte) (c : Nat) : (s.event d id x c).shelf = s.shelf := rfl
@[simp] theorem Dev.event_rdma (d : Die) (id : Nat) (x : List Byte) (c : Nat) : (s.event d id x c).rdma = s.rdma := rfl
@[simp] theorem Dev.event_nvme (d : Die) (id : Nat) (x : List Byte) (c : Nat) : (s.event d id x c).nvme = s.nvme := rfl
@[simp] theorem Dev.event_dma (d : Die) (id : Nat) (x : List Byte) (c : Nat) : (s.event d id x c).dma = s.dma := rfl
@[simp] theorem Dev.event_fld (d : Die) (id : Nat) (x : List Byte) (c : Nat) (f : Fld) (j : Nat) : (s.event d id x c).fld f j = s.fld f j := rfl
@[simp] theorem Dev.event_flag (d : Die) (id : Nat) (x : List Byte) (c : Nat) (f : Fld) (j : Nat) : (s.event d id x c).flag f j = s.flag f j := rfl
@[simp] theorem Dev.event_ctr (d : Die) (id : Nat) (x : List Byte) (c : Nat) (e : Ctr) (j : Nat) : (s.event d id x c).ctr e j = s.ctr e j := rfl
@[simp] theorem Dev.event_nowOn (d : Die) (id : Nat) (x : List Byte) (c : Nat) (e : Die) : (s.event d id x c).nowOn e = s.nowOn e := rfl
@[simp] theorem Dev.event_region (d : Die) (id : Nat) (x : List Byte) (c : Nat) (j : Nat) : (s.event d id x c).region j = s.region j := rfl
@[simp] theorem Dev.event_isolated (d : Die) (id : Nat) (x : List Byte) (c : Nat) (j : Nat) : (s.event d id x c).isolated j = s.isolated j := rfl
@[simp] theorem Dev.event_seam (d : Die) (id : Nat) (x : List Byte) (c : Nat) (j : Nat) : (s.event d id x c).seam j = s.seam j := rfl
@[simp] theorem Dev.event_seamUp (d : Die) (id : Nat) (x : List Byte) (c : Nat) (j : Nat) : (s.event d id x c).seamUp j = s.seamUp j := rfl
@[simp] theorem Dev.event_rail (d : Die) (id : Nat) (x : List Byte) (c : Nat) (j : Nat) : (s.event d id x c).rail j = s.rail j := rfl
@[simp] theorem Dev.event_reachesPlinth (d : Die) (id : Nat) (x : List Byte) (c : Nat) (e : Die) : (s.event d id x c).reachesPlinth e = s.reachesPlinth e := rfl
@[simp] theorem Dev.event_now (d : Die) (id : Nat) (x : List Byte) (c : Nat) : (s.event d id x c).now = s.now := rfl
@[simp] theorem Dev.event_bond (d : Die) (id : Nat) (x : List Byte) (c : Nat) (j : Nat) : (s.event d id x c).bond j = s.bond j := rfl
@[simp] theorem Dev.event_pierOwn (d : Die) (id : Nat) (x : List Byte) (c : Nat) (j : Nat) : (s.event d id x c).pierOwn j = s.pierOwn j := rfl
@[simp] theorem Dev.event_chan (d : Die) (id : Nat) (x : List Byte) (c : Nat) (j : Nat) : (s.event d id x c).chan j = s.chan j := rfl
@[simp] theorem Dev.event_tn (d : Die) (id : Nat) (x : List Byte) (c : Nat) (j : Nat) : (s.event d id x c).tn j = s.tn j := rfl
@[simp] theorem Dev.event_mac (d : Die) (id : Nat) (x : List Byte) (c : Nat) (j : Nat) : (s.event d id x c).mac j = s.mac j := rfl
@[simp] theorem Dev.event_qp (d : Die) (id : Nat) (x : List Byte) (c : Nat) (j : Nat) : (s.event d id x c).qp j = s.qp j := rfl
@[simp] theorem Dev.event_window (d : Die) (id : Nat) (x : List Byte) (c : Nat) (j : Nat) : (s.event d id x c).window j = s.window j := rfl
@[simp] theorem Dev.event_epFn (d : Die) (id : Nat) (x : List Byte) (c : Nat) (j : Nat) : (s.event d id x c).epFn j = s.epFn j := rfl
@[simp] theorem Dev.event_slotPwr (d : Die) (id : Nat) (x : List Byte) (c : Nat) (j : Nat) : (s.event d id x c).slotPwr j = s.slotPwr j := rfl
@[simp] theorem Dev.event_port (d : Die) (id : Nat) (x : List Byte) (c : Nat) (j : Nat) : (s.event d id x c).port j = s.port j := rfl
@[simp] theorem Dev.event_vol (d : Die) (id : Nat) (x : List Byte) (c : Nat) (j : Nat) : (s.event d id x c).vol j = s.vol j := rfl
@[simp] theorem Dev.event_drive (d : Die) (id : Nat) (x : List Byte) (c : Nat) (j : Nat) : (s.event d id x c).drive j = s.drive j := rfl
@[simp] theorem Dev.event_pier (d : Die) (id : Nat) (x : List Byte) (c : Nat) (j : Nat) : (s.event d id x c).pier j = s.pier j := rfl
@[simp] theorem Dev.event_session (d : Die) (id : Nat) (x : List Byte) (c : Nat) (j : Nat) : (s.event d id x c).session j = s.session j := rfl
@[simp] theorem Dev.event_served (d : Die) (id : Nat) (x : List Byte) (c : Nat) : (s.event d id x c).served = s.served := rfl

@[simp] theorem Dev.setRegion_time (r : Nat) (x : Region) : (s.setRegion r x).time = s.time := rfl
@[simp] theorem Dev.setRegion_timeLoaded (r : Nat) (x : Region) : (s.setRegion r x).timeLoaded = s.timeLoaded := rfl
@[simp] theorem Dev.setRegion_fresh (r : Nat) (x : Region) : (s.setRegion r x).fresh = s.fresh := rfl
@[simp] theorem Dev.setRegion_out (r : Nat) (x : Region) : (s.setRegion r x).out = s.out := rfl
@[simp] theorem Dev.setRegion_raised (r : Nat) (x : Region) : (s.setRegion r x).raised = s.raised := rfl
@[simp] theorem Dev.setRegion_regs (r : Nat) (x : Region) : (s.setRegion r x).regs = s.regs := rfl
@[simp] theorem Dev.setRegion_ctrs (r : Nat) (x : Region) : (s.setRegion r x).ctrs = s.ctrs := rfl
@[simp] theorem Dev.setRegion_marks (r : Nat) (x : Region) : (s.setRegion r x).marks = s.marks := rfl
@[simp] theorem Dev.setRegion_latches (r : Nat) (x : Region) : (s.setRegion r x).latches = s.latches := rfl
@[simp] theorem Dev.setRegion_mode (r : Nat) (x : Region) : (s.setRegion r x).mode = s.mode := rfl
@[simp] theorem Dev.setRegion_fw (r : Nat) (x : Region) : (s.setRegion r x).fw = s.fw := rfl
@[simp] theorem Dev.setRegion_pkg (r : Nat) (x : Region) : (s.setRegion r x).pkg = s.pkg := rfl
@[simp] theorem Dev.setRegion_evr (r : Nat) (x : Region) : (s.setRegion r x).evr = s.evr := rfl
@[simp] theorem Dev.setRegion_net (r : Nat) (x : Region) : (s.setRegion r x).net = s.net := rfl
@[simp] theorem Dev.setRegion_sw (r : Nat) (x : Region) : (s.setRegion r x).sw = s.sw := rfl
@[simp] theorem Dev.setRegion_ten (r : Nat) (x : Region) : (s.setRegion r x).ten = s.ten := rfl
@[simp] theorem Dev.setRegion_own (r : Nat) (x : Region) : (s.setRegion r x).own = s.own := rfl
@[simp] theorem Dev.setRegion_cust (r : Nat) (x : Region) : (s.setRegion r x).cust = s.cust := rfl
@[simp] theorem Dev.setRegion_ldg (r : Nat) (x : Region) : (s.setRegion r x).ldg = s.ldg := rfl
@[simp] theorem Dev.setRegion_ep (r : Nat) (x : Region) : (s.setRegion r x).ep = s.ep := rfl
@[simp] theorem Dev.setRegion_od (r : Nat) (x : Region) : (s.setRegion r x).od = s.od := rfl
@[simp] theorem Dev.setRegion_store (r : Nat) (x : Region) : (s.setRegion r x).store = s.store := rfl
@[simp] theorem Dev.setRegion_shelf (r : Nat) (x : Region) : (s.setRegion r x).shelf = s.shelf := rfl
@[simp] theorem Dev.setRegion_rdma (r : Nat) (x : Region) : (s.setRegion r x).rdma = s.rdma := rfl
@[simp] theorem Dev.setRegion_nvme (r : Nat) (x : Region) : (s.setRegion r x).nvme = s.nvme := rfl
@[simp] theorem Dev.setRegion_dma (r : Nat) (x : Region) : (s.setRegion r x).dma = s.dma := rfl
@[simp] theorem Dev.setRegion_fld (r : Nat) (x : Region) (f : Fld) (j : Nat) : (s.setRegion r x).fld f j = s.fld f j := rfl
@[simp] theorem Dev.setRegion_flag (r : Nat) (x : Region) (f : Fld) (j : Nat) : (s.setRegion r x).flag f j = s.flag f j := rfl
@[simp] theorem Dev.setRegion_ctr (r : Nat) (x : Region) (e : Ctr) (j : Nat) : (s.setRegion r x).ctr e j = s.ctr e j := rfl
@[simp] theorem Dev.setRegion_now (r : Nat) (x : Region) : (s.setRegion r x).now = s.now := rfl
@[simp] theorem Dev.setRegion_bond (r : Nat) (x : Region) (j : Nat) : (s.setRegion r x).bond j = s.bond j := rfl
@[simp] theorem Dev.setRegion_pierOwn (r : Nat) (x : Region) (j : Nat) : (s.setRegion r x).pierOwn j = s.pierOwn j := rfl
@[simp] theorem Dev.setRegion_chan (r : Nat) (x : Region) (j : Nat) : (s.setRegion r x).chan j = s.chan j := rfl
@[simp] theorem Dev.setRegion_tn (r : Nat) (x : Region) (j : Nat) : (s.setRegion r x).tn j = s.tn j := rfl
@[simp] theorem Dev.setRegion_mac (r : Nat) (x : Region) (j : Nat) : (s.setRegion r x).mac j = s.mac j := rfl
@[simp] theorem Dev.setRegion_qp (r : Nat) (x : Region) (j : Nat) : (s.setRegion r x).qp j = s.qp j := rfl
@[simp] theorem Dev.setRegion_window (r : Nat) (x : Region) (j : Nat) : (s.setRegion r x).window j = s.window j := rfl
@[simp] theorem Dev.setRegion_epFn (r : Nat) (x : Region) (j : Nat) : (s.setRegion r x).epFn j = s.epFn j := rfl
@[simp] theorem Dev.setRegion_slotPwr (r : Nat) (x : Region) (j : Nat) : (s.setRegion r x).slotPwr j = s.slotPwr j := rfl
@[simp] theorem Dev.setRegion_port (r : Nat) (x : Region) (j : Nat) : (s.setRegion r x).port j = s.port j := rfl
@[simp] theorem Dev.setRegion_vol (r : Nat) (x : Region) (j : Nat) : (s.setRegion r x).vol j = s.vol j := rfl
@[simp] theorem Dev.setRegion_drive (r : Nat) (x : Region) (j : Nat) : (s.setRegion r x).drive j = s.drive j := rfl
@[simp] theorem Dev.setRegion_pier (r : Nat) (x : Region) (j : Nat) : (s.setRegion r x).pier j = s.pier j := rfl
@[simp] theorem Dev.setRegion_session (r : Nat) (x : Region) (j : Nat) : (s.setRegion r x).session j = s.session j := rfl
@[simp] theorem Dev.setRegion_served (r : Nat) (x : Region) : (s.setRegion r x).served = s.served := rfl

@[simp] theorem Dev.setSeam_time (k : Nat) (x : Seam) : (s.setSeam k x).time = s.time := rfl
@[simp] theorem Dev.setSeam_timeLoaded (k : Nat) (x : Seam) : (s.setSeam k x).timeLoaded = s.timeLoaded := rfl
@[simp] theorem Dev.setSeam_fresh (k : Nat) (x : Seam) : (s.setSeam k x).fresh = s.fresh := rfl
@[simp] theorem Dev.setSeam_out (k : Nat) (x : Seam) : (s.setSeam k x).out = s.out := rfl
@[simp] theorem Dev.setSeam_raised (k : Nat) (x : Seam) : (s.setSeam k x).raised = s.raised := rfl
@[simp] theorem Dev.setSeam_regs (k : Nat) (x : Seam) : (s.setSeam k x).regs = s.regs := rfl
@[simp] theorem Dev.setSeam_ctrs (k : Nat) (x : Seam) : (s.setSeam k x).ctrs = s.ctrs := rfl
@[simp] theorem Dev.setSeam_marks (k : Nat) (x : Seam) : (s.setSeam k x).marks = s.marks := rfl
@[simp] theorem Dev.setSeam_latches (k : Nat) (x : Seam) : (s.setSeam k x).latches = s.latches := rfl
@[simp] theorem Dev.setSeam_mode (k : Nat) (x : Seam) : (s.setSeam k x).mode = s.mode := rfl
@[simp] theorem Dev.setSeam_fw (k : Nat) (x : Seam) : (s.setSeam k x).fw = s.fw := rfl
@[simp] theorem Dev.setSeam_pkg (k : Nat) (x : Seam) : (s.setSeam k x).pkg = s.pkg := rfl
@[simp] theorem Dev.setSeam_evr (k : Nat) (x : Seam) : (s.setSeam k x).evr = s.evr := rfl
@[simp] theorem Dev.setSeam_net (k : Nat) (x : Seam) : (s.setSeam k x).net = s.net := rfl
@[simp] theorem Dev.setSeam_sw (k : Nat) (x : Seam) : (s.setSeam k x).sw = s.sw := rfl
@[simp] theorem Dev.setSeam_ten (k : Nat) (x : Seam) : (s.setSeam k x).ten = s.ten := rfl
@[simp] theorem Dev.setSeam_own (k : Nat) (x : Seam) : (s.setSeam k x).own = s.own := rfl
@[simp] theorem Dev.setSeam_cust (k : Nat) (x : Seam) : (s.setSeam k x).cust = s.cust := rfl
@[simp] theorem Dev.setSeam_ldg (k : Nat) (x : Seam) : (s.setSeam k x).ldg = s.ldg := rfl
@[simp] theorem Dev.setSeam_ep (k : Nat) (x : Seam) : (s.setSeam k x).ep = s.ep := rfl
@[simp] theorem Dev.setSeam_od (k : Nat) (x : Seam) : (s.setSeam k x).od = s.od := rfl
@[simp] theorem Dev.setSeam_store (k : Nat) (x : Seam) : (s.setSeam k x).store = s.store := rfl
@[simp] theorem Dev.setSeam_shelf (k : Nat) (x : Seam) : (s.setSeam k x).shelf = s.shelf := rfl
@[simp] theorem Dev.setSeam_rdma (k : Nat) (x : Seam) : (s.setSeam k x).rdma = s.rdma := rfl
@[simp] theorem Dev.setSeam_nvme (k : Nat) (x : Seam) : (s.setSeam k x).nvme = s.nvme := rfl
@[simp] theorem Dev.setSeam_dma (k : Nat) (x : Seam) : (s.setSeam k x).dma = s.dma := rfl
@[simp] theorem Dev.setSeam_fld (k : Nat) (x : Seam) (f : Fld) (j : Nat) : (s.setSeam k x).fld f j = s.fld f j := rfl
@[simp] theorem Dev.setSeam_flag (k : Nat) (x : Seam) (f : Fld) (j : Nat) : (s.setSeam k x).flag f j = s.flag f j := rfl
@[simp] theorem Dev.setSeam_ctr (k : Nat) (x : Seam) (e : Ctr) (j : Nat) : (s.setSeam k x).ctr e j = s.ctr e j := rfl
@[simp] theorem Dev.setSeam_now (k : Nat) (x : Seam) : (s.setSeam k x).now = s.now := rfl
@[simp] theorem Dev.setSeam_bond (k : Nat) (x : Seam) (j : Nat) : (s.setSeam k x).bond j = s.bond j := rfl
@[simp] theorem Dev.setSeam_pierOwn (k : Nat) (x : Seam) (j : Nat) : (s.setSeam k x).pierOwn j = s.pierOwn j := rfl
@[simp] theorem Dev.setSeam_chan (k : Nat) (x : Seam) (j : Nat) : (s.setSeam k x).chan j = s.chan j := rfl
@[simp] theorem Dev.setSeam_tn (k : Nat) (x : Seam) (j : Nat) : (s.setSeam k x).tn j = s.tn j := rfl
@[simp] theorem Dev.setSeam_mac (k : Nat) (x : Seam) (j : Nat) : (s.setSeam k x).mac j = s.mac j := rfl
@[simp] theorem Dev.setSeam_qp (k : Nat) (x : Seam) (j : Nat) : (s.setSeam k x).qp j = s.qp j := rfl
@[simp] theorem Dev.setSeam_window (k : Nat) (x : Seam) (j : Nat) : (s.setSeam k x).window j = s.window j := rfl
@[simp] theorem Dev.setSeam_epFn (k : Nat) (x : Seam) (j : Nat) : (s.setSeam k x).epFn j = s.epFn j := rfl
@[simp] theorem Dev.setSeam_slotPwr (k : Nat) (x : Seam) (j : Nat) : (s.setSeam k x).slotPwr j = s.slotPwr j := rfl
@[simp] theorem Dev.setSeam_port (k : Nat) (x : Seam) (j : Nat) : (s.setSeam k x).port j = s.port j := rfl
@[simp] theorem Dev.setSeam_vol (k : Nat) (x : Seam) (j : Nat) : (s.setSeam k x).vol j = s.vol j := rfl
@[simp] theorem Dev.setSeam_drive (k : Nat) (x : Seam) (j : Nat) : (s.setSeam k x).drive j = s.drive j := rfl
@[simp] theorem Dev.setSeam_pier (k : Nat) (x : Seam) (j : Nat) : (s.setSeam k x).pier j = s.pier j := rfl
@[simp] theorem Dev.setSeam_session (k : Nat) (x : Seam) (j : Nat) : (s.setSeam k x).session j = s.session j := rfl
@[simp] theorem Dev.setSeam_served (k : Nat) (x : Seam) : (s.setSeam k x).served = s.served := rfl

@[simp] theorem Dev.setRail_time (k : Nat) (x : Rail) : (s.setRail k x).time = s.time := rfl
@[simp] theorem Dev.setRail_timeLoaded (k : Nat) (x : Rail) : (s.setRail k x).timeLoaded = s.timeLoaded := rfl
@[simp] theorem Dev.setRail_fresh (k : Nat) (x : Rail) : (s.setRail k x).fresh = s.fresh := rfl
@[simp] theorem Dev.setRail_out (k : Nat) (x : Rail) : (s.setRail k x).out = s.out := rfl
@[simp] theorem Dev.setRail_raised (k : Nat) (x : Rail) : (s.setRail k x).raised = s.raised := rfl
@[simp] theorem Dev.setRail_regs (k : Nat) (x : Rail) : (s.setRail k x).regs = s.regs := rfl
@[simp] theorem Dev.setRail_ctrs (k : Nat) (x : Rail) : (s.setRail k x).ctrs = s.ctrs := rfl
@[simp] theorem Dev.setRail_marks (k : Nat) (x : Rail) : (s.setRail k x).marks = s.marks := rfl
@[simp] theorem Dev.setRail_latches (k : Nat) (x : Rail) : (s.setRail k x).latches = s.latches := rfl
@[simp] theorem Dev.setRail_mode (k : Nat) (x : Rail) : (s.setRail k x).mode = s.mode := rfl
@[simp] theorem Dev.setRail_fw (k : Nat) (x : Rail) : (s.setRail k x).fw = s.fw := rfl
@[simp] theorem Dev.setRail_pkg (k : Nat) (x : Rail) : (s.setRail k x).pkg = s.pkg := rfl
@[simp] theorem Dev.setRail_evr (k : Nat) (x : Rail) : (s.setRail k x).evr = s.evr := rfl
@[simp] theorem Dev.setRail_net (k : Nat) (x : Rail) : (s.setRail k x).net = s.net := rfl
@[simp] theorem Dev.setRail_sw (k : Nat) (x : Rail) : (s.setRail k x).sw = s.sw := rfl
@[simp] theorem Dev.setRail_ten (k : Nat) (x : Rail) : (s.setRail k x).ten = s.ten := rfl
@[simp] theorem Dev.setRail_own (k : Nat) (x : Rail) : (s.setRail k x).own = s.own := rfl
@[simp] theorem Dev.setRail_cust (k : Nat) (x : Rail) : (s.setRail k x).cust = s.cust := rfl
@[simp] theorem Dev.setRail_ldg (k : Nat) (x : Rail) : (s.setRail k x).ldg = s.ldg := rfl
@[simp] theorem Dev.setRail_ep (k : Nat) (x : Rail) : (s.setRail k x).ep = s.ep := rfl
@[simp] theorem Dev.setRail_od (k : Nat) (x : Rail) : (s.setRail k x).od = s.od := rfl
@[simp] theorem Dev.setRail_store (k : Nat) (x : Rail) : (s.setRail k x).store = s.store := rfl
@[simp] theorem Dev.setRail_shelf (k : Nat) (x : Rail) : (s.setRail k x).shelf = s.shelf := rfl
@[simp] theorem Dev.setRail_rdma (k : Nat) (x : Rail) : (s.setRail k x).rdma = s.rdma := rfl
@[simp] theorem Dev.setRail_nvme (k : Nat) (x : Rail) : (s.setRail k x).nvme = s.nvme := rfl
@[simp] theorem Dev.setRail_dma (k : Nat) (x : Rail) : (s.setRail k x).dma = s.dma := rfl
@[simp] theorem Dev.setRail_fld (k : Nat) (x : Rail) (f : Fld) (j : Nat) : (s.setRail k x).fld f j = s.fld f j := rfl
@[simp] theorem Dev.setRail_flag (k : Nat) (x : Rail) (f : Fld) (j : Nat) : (s.setRail k x).flag f j = s.flag f j := rfl
@[simp] theorem Dev.setRail_ctr (k : Nat) (x : Rail) (e : Ctr) (j : Nat) : (s.setRail k x).ctr e j = s.ctr e j := rfl
@[simp] theorem Dev.setRail_now (k : Nat) (x : Rail) : (s.setRail k x).now = s.now := rfl
@[simp] theorem Dev.setRail_bond (k : Nat) (x : Rail) (j : Nat) : (s.setRail k x).bond j = s.bond j := rfl
@[simp] theorem Dev.setRail_pierOwn (k : Nat) (x : Rail) (j : Nat) : (s.setRail k x).pierOwn j = s.pierOwn j := rfl
@[simp] theorem Dev.setRail_chan (k : Nat) (x : Rail) (j : Nat) : (s.setRail k x).chan j = s.chan j := rfl
@[simp] theorem Dev.setRail_tn (k : Nat) (x : Rail) (j : Nat) : (s.setRail k x).tn j = s.tn j := rfl
@[simp] theorem Dev.setRail_mac (k : Nat) (x : Rail) (j : Nat) : (s.setRail k x).mac j = s.mac j := rfl
@[simp] theorem Dev.setRail_qp (k : Nat) (x : Rail) (j : Nat) : (s.setRail k x).qp j = s.qp j := rfl
@[simp] theorem Dev.setRail_window (k : Nat) (x : Rail) (j : Nat) : (s.setRail k x).window j = s.window j := rfl
@[simp] theorem Dev.setRail_epFn (k : Nat) (x : Rail) (j : Nat) : (s.setRail k x).epFn j = s.epFn j := rfl
@[simp] theorem Dev.setRail_slotPwr (k : Nat) (x : Rail) (j : Nat) : (s.setRail k x).slotPwr j = s.slotPwr j := rfl
@[simp] theorem Dev.setRail_port (k : Nat) (x : Rail) (j : Nat) : (s.setRail k x).port j = s.port j := rfl
@[simp] theorem Dev.setRail_vol (k : Nat) (x : Rail) (j : Nat) : (s.setRail k x).vol j = s.vol j := rfl
@[simp] theorem Dev.setRail_drive (k : Nat) (x : Rail) (j : Nat) : (s.setRail k x).drive j = s.drive j := rfl
@[simp] theorem Dev.setRail_pier (k : Nat) (x : Rail) (j : Nat) : (s.setRail k x).pier j = s.pier j := rfl
@[simp] theorem Dev.setRail_session (k : Nat) (x : Rail) (j : Nat) : (s.setRail k x).session j = s.session j := rfl
@[simp] theorem Dev.setRail_served (k : Nat) (x : Rail) : (s.setRail k x).served = s.served := rfl

@[simp] theorem Dev.setBond_time (k : Nat) (x : Bond) : (s.setBond k x).time = s.time := rfl
@[simp] theorem Dev.setBond_timeLoaded (k : Nat) (x : Bond) : (s.setBond k x).timeLoaded = s.timeLoaded := rfl
@[simp] theorem Dev.setBond_fresh (k : Nat) (x : Bond) : (s.setBond k x).fresh = s.fresh := rfl
@[simp] theorem Dev.setBond_out (k : Nat) (x : Bond) : (s.setBond k x).out = s.out := rfl
@[simp] theorem Dev.setBond_raised (k : Nat) (x : Bond) : (s.setBond k x).raised = s.raised := rfl
@[simp] theorem Dev.setBond_regs (k : Nat) (x : Bond) : (s.setBond k x).regs = s.regs := rfl
@[simp] theorem Dev.setBond_ctrs (k : Nat) (x : Bond) : (s.setBond k x).ctrs = s.ctrs := rfl
@[simp] theorem Dev.setBond_marks (k : Nat) (x : Bond) : (s.setBond k x).marks = s.marks := rfl
@[simp] theorem Dev.setBond_latches (k : Nat) (x : Bond) : (s.setBond k x).latches = s.latches := rfl
@[simp] theorem Dev.setBond_arch (k : Nat) (x : Bond) : (s.setBond k x).arch = s.arch := rfl
@[simp] theorem Dev.setBond_mode (k : Nat) (x : Bond) : (s.setBond k x).mode = s.mode := rfl
@[simp] theorem Dev.setBond_fw (k : Nat) (x : Bond) : (s.setBond k x).fw = s.fw := rfl
@[simp] theorem Dev.setBond_pkg (k : Nat) (x : Bond) : (s.setBond k x).pkg = s.pkg := rfl
@[simp] theorem Dev.setBond_evr (k : Nat) (x : Bond) : (s.setBond k x).evr = s.evr := rfl
@[simp] theorem Dev.setBond_net (k : Nat) (x : Bond) : (s.setBond k x).net = s.net := rfl
@[simp] theorem Dev.setBond_sw (k : Nat) (x : Bond) : (s.setBond k x).sw = s.sw := rfl
@[simp] theorem Dev.setBond_ten (k : Nat) (x : Bond) : (s.setBond k x).ten = s.ten := rfl
@[simp] theorem Dev.setBond_cust (k : Nat) (x : Bond) : (s.setBond k x).cust = s.cust := rfl
@[simp] theorem Dev.setBond_ldg (k : Nat) (x : Bond) : (s.setBond k x).ldg = s.ldg := rfl
@[simp] theorem Dev.setBond_ep (k : Nat) (x : Bond) : (s.setBond k x).ep = s.ep := rfl
@[simp] theorem Dev.setBond_od (k : Nat) (x : Bond) : (s.setBond k x).od = s.od := rfl
@[simp] theorem Dev.setBond_store (k : Nat) (x : Bond) : (s.setBond k x).store = s.store := rfl
@[simp] theorem Dev.setBond_shelf (k : Nat) (x : Bond) : (s.setBond k x).shelf = s.shelf := rfl
@[simp] theorem Dev.setBond_rdma (k : Nat) (x : Bond) : (s.setBond k x).rdma = s.rdma := rfl
@[simp] theorem Dev.setBond_nvme (k : Nat) (x : Bond) : (s.setBond k x).nvme = s.nvme := rfl
@[simp] theorem Dev.setBond_dma (k : Nat) (x : Bond) : (s.setBond k x).dma = s.dma := rfl
@[simp] theorem Dev.setBond_fld (k : Nat) (x : Bond) (f : Fld) (j : Nat) : (s.setBond k x).fld f j = s.fld f j := rfl
@[simp] theorem Dev.setBond_flag (k : Nat) (x : Bond) (f : Fld) (j : Nat) : (s.setBond k x).flag f j = s.flag f j := rfl
@[simp] theorem Dev.setBond_ctr (k : Nat) (x : Bond) (e : Ctr) (j : Nat) : (s.setBond k x).ctr e j = s.ctr e j := rfl
@[simp] theorem Dev.setBond_nowOn (k : Nat) (x : Bond) (e : Die) : (s.setBond k x).nowOn e = s.nowOn e := rfl
@[simp] theorem Dev.setBond_region (k : Nat) (x : Bond) (j : Nat) : (s.setBond k x).region j = s.region j := rfl
@[simp] theorem Dev.setBond_isolated (k : Nat) (x : Bond) (j : Nat) : (s.setBond k x).isolated j = s.isolated j := rfl
@[simp] theorem Dev.setBond_seam (k : Nat) (x : Bond) (j : Nat) : (s.setBond k x).seam j = s.seam j := rfl
@[simp] theorem Dev.setBond_seamUp (k : Nat) (x : Bond) (j : Nat) : (s.setBond k x).seamUp j = s.seamUp j := rfl
@[simp] theorem Dev.setBond_rail (k : Nat) (x : Bond) (j : Nat) : (s.setBond k x).rail j = s.rail j := rfl
@[simp] theorem Dev.setBond_reachesPlinth (k : Nat) (x : Bond) (e : Die) : (s.setBond k x).reachesPlinth e = s.reachesPlinth e := rfl
@[simp] theorem Dev.setBond_now (k : Nat) (x : Bond) : (s.setBond k x).now = s.now := rfl
@[simp] theorem Dev.setBond_chan (k : Nat) (x : Bond) (j : Nat) : (s.setBond k x).chan j = s.chan j := rfl
@[simp] theorem Dev.setBond_tn (k : Nat) (x : Bond) (j : Nat) : (s.setBond k x).tn j = s.tn j := rfl
@[simp] theorem Dev.setBond_mac (k : Nat) (x : Bond) (j : Nat) : (s.setBond k x).mac j = s.mac j := rfl
@[simp] theorem Dev.setBond_qp (k : Nat) (x : Bond) (j : Nat) : (s.setBond k x).qp j = s.qp j := rfl
@[simp] theorem Dev.setBond_window (k : Nat) (x : Bond) (j : Nat) : (s.setBond k x).window j = s.window j := rfl
@[simp] theorem Dev.setBond_epFn (k : Nat) (x : Bond) (j : Nat) : (s.setBond k x).epFn j = s.epFn j := rfl
@[simp] theorem Dev.setBond_slotPwr (k : Nat) (x : Bond) (j : Nat) : (s.setBond k x).slotPwr j = s.slotPwr j := rfl
@[simp] theorem Dev.setBond_port (k : Nat) (x : Bond) (j : Nat) : (s.setBond k x).port j = s.port j := rfl
@[simp] theorem Dev.setBond_vol (k : Nat) (x : Bond) (j : Nat) : (s.setBond k x).vol j = s.vol j := rfl
@[simp] theorem Dev.setBond_drive (k : Nat) (x : Bond) (j : Nat) : (s.setBond k x).drive j = s.drive j := rfl
@[simp] theorem Dev.setBond_pier (k : Nat) (x : Bond) (j : Nat) : (s.setBond k x).pier j = s.pier j := rfl
@[simp] theorem Dev.setBond_session (k : Nat) (x : Bond) (j : Nat) : (s.setBond k x).session j = s.session j := rfl
@[simp] theorem Dev.setBond_served (k : Nat) (x : Bond) : (s.setBond k x).served = s.served := rfl

@[simp] theorem Dev.setPierOwn_time (p : Nat) (x : PierOwn) : (s.setPierOwn p x).time = s.time := rfl
@[simp] theorem Dev.setPierOwn_timeLoaded (p : Nat) (x : PierOwn) : (s.setPierOwn p x).timeLoaded = s.timeLoaded := rfl
@[simp] theorem Dev.setPierOwn_fresh (p : Nat) (x : PierOwn) : (s.setPierOwn p x).fresh = s.fresh := rfl
@[simp] theorem Dev.setPierOwn_out (p : Nat) (x : PierOwn) : (s.setPierOwn p x).out = s.out := rfl
@[simp] theorem Dev.setPierOwn_raised (p : Nat) (x : PierOwn) : (s.setPierOwn p x).raised = s.raised := rfl
@[simp] theorem Dev.setPierOwn_regs (p : Nat) (x : PierOwn) : (s.setPierOwn p x).regs = s.regs := rfl
@[simp] theorem Dev.setPierOwn_ctrs (p : Nat) (x : PierOwn) : (s.setPierOwn p x).ctrs = s.ctrs := rfl
@[simp] theorem Dev.setPierOwn_marks (p : Nat) (x : PierOwn) : (s.setPierOwn p x).marks = s.marks := rfl
@[simp] theorem Dev.setPierOwn_latches (p : Nat) (x : PierOwn) : (s.setPierOwn p x).latches = s.latches := rfl
@[simp] theorem Dev.setPierOwn_arch (p : Nat) (x : PierOwn) : (s.setPierOwn p x).arch = s.arch := rfl
@[simp] theorem Dev.setPierOwn_mode (p : Nat) (x : PierOwn) : (s.setPierOwn p x).mode = s.mode := rfl
@[simp] theorem Dev.setPierOwn_fw (p : Nat) (x : PierOwn) : (s.setPierOwn p x).fw = s.fw := rfl
@[simp] theorem Dev.setPierOwn_pkg (p : Nat) (x : PierOwn) : (s.setPierOwn p x).pkg = s.pkg := rfl
@[simp] theorem Dev.setPierOwn_evr (p : Nat) (x : PierOwn) : (s.setPierOwn p x).evr = s.evr := rfl
@[simp] theorem Dev.setPierOwn_net (p : Nat) (x : PierOwn) : (s.setPierOwn p x).net = s.net := rfl
@[simp] theorem Dev.setPierOwn_sw (p : Nat) (x : PierOwn) : (s.setPierOwn p x).sw = s.sw := rfl
@[simp] theorem Dev.setPierOwn_ten (p : Nat) (x : PierOwn) : (s.setPierOwn p x).ten = s.ten := rfl
@[simp] theorem Dev.setPierOwn_cust (p : Nat) (x : PierOwn) : (s.setPierOwn p x).cust = s.cust := rfl
@[simp] theorem Dev.setPierOwn_ldg (p : Nat) (x : PierOwn) : (s.setPierOwn p x).ldg = s.ldg := rfl
@[simp] theorem Dev.setPierOwn_ep (p : Nat) (x : PierOwn) : (s.setPierOwn p x).ep = s.ep := rfl
@[simp] theorem Dev.setPierOwn_od (p : Nat) (x : PierOwn) : (s.setPierOwn p x).od = s.od := rfl
@[simp] theorem Dev.setPierOwn_store (p : Nat) (x : PierOwn) : (s.setPierOwn p x).store = s.store := rfl
@[simp] theorem Dev.setPierOwn_shelf (p : Nat) (x : PierOwn) : (s.setPierOwn p x).shelf = s.shelf := rfl
@[simp] theorem Dev.setPierOwn_rdma (p : Nat) (x : PierOwn) : (s.setPierOwn p x).rdma = s.rdma := rfl
@[simp] theorem Dev.setPierOwn_nvme (p : Nat) (x : PierOwn) : (s.setPierOwn p x).nvme = s.nvme := rfl
@[simp] theorem Dev.setPierOwn_dma (p : Nat) (x : PierOwn) : (s.setPierOwn p x).dma = s.dma := rfl
@[simp] theorem Dev.setPierOwn_fld (p : Nat) (x : PierOwn) (f : Fld) (j : Nat) : (s.setPierOwn p x).fld f j = s.fld f j := rfl
@[simp] theorem Dev.setPierOwn_flag (p : Nat) (x : PierOwn) (f : Fld) (j : Nat) : (s.setPierOwn p x).flag f j = s.flag f j := rfl
@[simp] theorem Dev.setPierOwn_ctr (p : Nat) (x : PierOwn) (e : Ctr) (j : Nat) : (s.setPierOwn p x).ctr e j = s.ctr e j := rfl
@[simp] theorem Dev.setPierOwn_nowOn (p : Nat) (x : PierOwn) (e : Die) : (s.setPierOwn p x).nowOn e = s.nowOn e := rfl
@[simp] theorem Dev.setPierOwn_region (p : Nat) (x : PierOwn) (j : Nat) : (s.setPierOwn p x).region j = s.region j := rfl
@[simp] theorem Dev.setPierOwn_isolated (p : Nat) (x : PierOwn) (j : Nat) : (s.setPierOwn p x).isolated j = s.isolated j := rfl
@[simp] theorem Dev.setPierOwn_seam (p : Nat) (x : PierOwn) (j : Nat) : (s.setPierOwn p x).seam j = s.seam j := rfl
@[simp] theorem Dev.setPierOwn_seamUp (p : Nat) (x : PierOwn) (j : Nat) : (s.setPierOwn p x).seamUp j = s.seamUp j := rfl
@[simp] theorem Dev.setPierOwn_rail (p : Nat) (x : PierOwn) (j : Nat) : (s.setPierOwn p x).rail j = s.rail j := rfl
@[simp] theorem Dev.setPierOwn_reachesPlinth (p : Nat) (x : PierOwn) (e : Die) : (s.setPierOwn p x).reachesPlinth e = s.reachesPlinth e := rfl
@[simp] theorem Dev.setPierOwn_now (p : Nat) (x : PierOwn) : (s.setPierOwn p x).now = s.now := rfl
@[simp] theorem Dev.setPierOwn_chan (p : Nat) (x : PierOwn) (j : Nat) : (s.setPierOwn p x).chan j = s.chan j := rfl
@[simp] theorem Dev.setPierOwn_tn (p : Nat) (x : PierOwn) (j : Nat) : (s.setPierOwn p x).tn j = s.tn j := rfl
@[simp] theorem Dev.setPierOwn_mac (p : Nat) (x : PierOwn) (j : Nat) : (s.setPierOwn p x).mac j = s.mac j := rfl
@[simp] theorem Dev.setPierOwn_qp (p : Nat) (x : PierOwn) (j : Nat) : (s.setPierOwn p x).qp j = s.qp j := rfl
@[simp] theorem Dev.setPierOwn_window (p : Nat) (x : PierOwn) (j : Nat) : (s.setPierOwn p x).window j = s.window j := rfl
@[simp] theorem Dev.setPierOwn_epFn (p : Nat) (x : PierOwn) (j : Nat) : (s.setPierOwn p x).epFn j = s.epFn j := rfl
@[simp] theorem Dev.setPierOwn_slotPwr (p : Nat) (x : PierOwn) (j : Nat) : (s.setPierOwn p x).slotPwr j = s.slotPwr j := rfl
@[simp] theorem Dev.setPierOwn_port (p : Nat) (x : PierOwn) (j : Nat) : (s.setPierOwn p x).port j = s.port j := rfl
@[simp] theorem Dev.setPierOwn_vol (p : Nat) (x : PierOwn) (j : Nat) : (s.setPierOwn p x).vol j = s.vol j := rfl
@[simp] theorem Dev.setPierOwn_drive (p : Nat) (x : PierOwn) (j : Nat) : (s.setPierOwn p x).drive j = s.drive j := rfl
@[simp] theorem Dev.setPierOwn_pier (p : Nat) (x : PierOwn) (j : Nat) : (s.setPierOwn p x).pier j = s.pier j := rfl
@[simp] theorem Dev.setPierOwn_session (p : Nat) (x : PierOwn) (j : Nat) : (s.setPierOwn p x).session j = s.session j := rfl
@[simp] theorem Dev.setPierOwn_served (p : Nat) (x : PierOwn) : (s.setPierOwn p x).served = s.served := rfl

@[simp] theorem Dev.setHolder_time (k : Nat) (h : Option Nat) : (s.setHolder k h).time = s.time := rfl
@[simp] theorem Dev.setHolder_timeLoaded (k : Nat) (h : Option Nat) : (s.setHolder k h).timeLoaded = s.timeLoaded := rfl
@[simp] theorem Dev.setHolder_fresh (k : Nat) (h : Option Nat) : (s.setHolder k h).fresh = s.fresh := rfl
@[simp] theorem Dev.setHolder_out (k : Nat) (h : Option Nat) : (s.setHolder k h).out = s.out := rfl
@[simp] theorem Dev.setHolder_raised (k : Nat) (h : Option Nat) : (s.setHolder k h).raised = s.raised := rfl
@[simp] theorem Dev.setHolder_regs (k : Nat) (h : Option Nat) : (s.setHolder k h).regs = s.regs := rfl
@[simp] theorem Dev.setHolder_ctrs (k : Nat) (h : Option Nat) : (s.setHolder k h).ctrs = s.ctrs := rfl
@[simp] theorem Dev.setHolder_marks (k : Nat) (h : Option Nat) : (s.setHolder k h).marks = s.marks := rfl
@[simp] theorem Dev.setHolder_latches (k : Nat) (h : Option Nat) : (s.setHolder k h).latches = s.latches := rfl
@[simp] theorem Dev.setHolder_arch (k : Nat) (h : Option Nat) : (s.setHolder k h).arch = s.arch := rfl
@[simp] theorem Dev.setHolder_mode (k : Nat) (h : Option Nat) : (s.setHolder k h).mode = s.mode := rfl
@[simp] theorem Dev.setHolder_fw (k : Nat) (h : Option Nat) : (s.setHolder k h).fw = s.fw := rfl
@[simp] theorem Dev.setHolder_pkg (k : Nat) (h : Option Nat) : (s.setHolder k h).pkg = s.pkg := rfl
@[simp] theorem Dev.setHolder_evr (k : Nat) (h : Option Nat) : (s.setHolder k h).evr = s.evr := rfl
@[simp] theorem Dev.setHolder_net (k : Nat) (h : Option Nat) : (s.setHolder k h).net = s.net := rfl
@[simp] theorem Dev.setHolder_sw (k : Nat) (h : Option Nat) : (s.setHolder k h).sw = s.sw := rfl
@[simp] theorem Dev.setHolder_ten (k : Nat) (h : Option Nat) : (s.setHolder k h).ten = s.ten := rfl
@[simp] theorem Dev.setHolder_cust (k : Nat) (h : Option Nat) : (s.setHolder k h).cust = s.cust := rfl
@[simp] theorem Dev.setHolder_ldg (k : Nat) (h : Option Nat) : (s.setHolder k h).ldg = s.ldg := rfl
@[simp] theorem Dev.setHolder_ep (k : Nat) (h : Option Nat) : (s.setHolder k h).ep = s.ep := rfl
@[simp] theorem Dev.setHolder_od (k : Nat) (h : Option Nat) : (s.setHolder k h).od = s.od := rfl
@[simp] theorem Dev.setHolder_store (k : Nat) (h : Option Nat) : (s.setHolder k h).store = s.store := rfl
@[simp] theorem Dev.setHolder_shelf (k : Nat) (h : Option Nat) : (s.setHolder k h).shelf = s.shelf := rfl
@[simp] theorem Dev.setHolder_rdma (k : Nat) (h : Option Nat) : (s.setHolder k h).rdma = s.rdma := rfl
@[simp] theorem Dev.setHolder_nvme (k : Nat) (h : Option Nat) : (s.setHolder k h).nvme = s.nvme := rfl
@[simp] theorem Dev.setHolder_dma (k : Nat) (h : Option Nat) : (s.setHolder k h).dma = s.dma := rfl
@[simp] theorem Dev.setHolder_fld (k : Nat) (h : Option Nat) (f : Fld) (j : Nat) : (s.setHolder k h).fld f j = s.fld f j := rfl
@[simp] theorem Dev.setHolder_flag (k : Nat) (h : Option Nat) (f : Fld) (j : Nat) : (s.setHolder k h).flag f j = s.flag f j := rfl
@[simp] theorem Dev.setHolder_ctr (k : Nat) (h : Option Nat) (e : Ctr) (j : Nat) : (s.setHolder k h).ctr e j = s.ctr e j := rfl
@[simp] theorem Dev.setHolder_nowOn (k : Nat) (h : Option Nat) (e : Die) : (s.setHolder k h).nowOn e = s.nowOn e := rfl
@[simp] theorem Dev.setHolder_region (k : Nat) (h : Option Nat) (j : Nat) : (s.setHolder k h).region j = s.region j := rfl
@[simp] theorem Dev.setHolder_isolated (k : Nat) (h : Option Nat) (j : Nat) : (s.setHolder k h).isolated j = s.isolated j := rfl
@[simp] theorem Dev.setHolder_seam (k : Nat) (h : Option Nat) (j : Nat) : (s.setHolder k h).seam j = s.seam j := rfl
@[simp] theorem Dev.setHolder_seamUp (k : Nat) (h : Option Nat) (j : Nat) : (s.setHolder k h).seamUp j = s.seamUp j := rfl
@[simp] theorem Dev.setHolder_rail (k : Nat) (h : Option Nat) (j : Nat) : (s.setHolder k h).rail j = s.rail j := rfl
@[simp] theorem Dev.setHolder_reachesPlinth (k : Nat) (h : Option Nat) (e : Die) : (s.setHolder k h).reachesPlinth e = s.reachesPlinth e := rfl
@[simp] theorem Dev.setHolder_now (k : Nat) (h : Option Nat) : (s.setHolder k h).now = s.now := rfl
@[simp] theorem Dev.setHolder_chan (k : Nat) (h : Option Nat) (j : Nat) : (s.setHolder k h).chan j = s.chan j := rfl
@[simp] theorem Dev.setHolder_tn (k : Nat) (h : Option Nat) (j : Nat) : (s.setHolder k h).tn j = s.tn j := rfl
@[simp] theorem Dev.setHolder_mac (k : Nat) (h : Option Nat) (j : Nat) : (s.setHolder k h).mac j = s.mac j := rfl
@[simp] theorem Dev.setHolder_qp (k : Nat) (h : Option Nat) (j : Nat) : (s.setHolder k h).qp j = s.qp j := rfl
@[simp] theorem Dev.setHolder_window (k : Nat) (h : Option Nat) (j : Nat) : (s.setHolder k h).window j = s.window j := rfl
@[simp] theorem Dev.setHolder_epFn (k : Nat) (h : Option Nat) (j : Nat) : (s.setHolder k h).epFn j = s.epFn j := rfl
@[simp] theorem Dev.setHolder_slotPwr (k : Nat) (h : Option Nat) (j : Nat) : (s.setHolder k h).slotPwr j = s.slotPwr j := rfl
@[simp] theorem Dev.setHolder_port (k : Nat) (h : Option Nat) (j : Nat) : (s.setHolder k h).port j = s.port j := rfl
@[simp] theorem Dev.setHolder_vol (k : Nat) (h : Option Nat) (j : Nat) : (s.setHolder k h).vol j = s.vol j := rfl
@[simp] theorem Dev.setHolder_drive (k : Nat) (h : Option Nat) (j : Nat) : (s.setHolder k h).drive j = s.drive j := rfl
@[simp] theorem Dev.setHolder_pier (k : Nat) (h : Option Nat) (j : Nat) : (s.setHolder k h).pier j = s.pier j := rfl
@[simp] theorem Dev.setHolder_session (k : Nat) (h : Option Nat) (j : Nat) : (s.setHolder k h).session j = s.session j := rfl
@[simp] theorem Dev.setHolder_served (k : Nat) (h : Option Nat) : (s.setHolder k h).served = s.served := rfl

@[simp] theorem Dev.setCan_time (c : Can) : (s.setCan c).time = s.time := rfl
@[simp] theorem Dev.setCan_timeLoaded (c : Can) : (s.setCan c).timeLoaded = s.timeLoaded := rfl
@[simp] theorem Dev.setCan_fresh (c : Can) : (s.setCan c).fresh = s.fresh := rfl
@[simp] theorem Dev.setCan_out (c : Can) : (s.setCan c).out = s.out := rfl
@[simp] theorem Dev.setCan_raised (c : Can) : (s.setCan c).raised = s.raised := rfl
@[simp] theorem Dev.setCan_regs (c : Can) : (s.setCan c).regs = s.regs := rfl
@[simp] theorem Dev.setCan_ctrs (c : Can) : (s.setCan c).ctrs = s.ctrs := rfl
@[simp] theorem Dev.setCan_marks (c : Can) : (s.setCan c).marks = s.marks := rfl
@[simp] theorem Dev.setCan_latches (c : Can) : (s.setCan c).latches = s.latches := rfl
@[simp] theorem Dev.setCan_arch (c : Can) : (s.setCan c).arch = s.arch := rfl
@[simp] theorem Dev.setCan_mode (c : Can) : (s.setCan c).mode = s.mode := rfl
@[simp] theorem Dev.setCan_fw (c : Can) : (s.setCan c).fw = s.fw := rfl
@[simp] theorem Dev.setCan_pkg (c : Can) : (s.setCan c).pkg = s.pkg := rfl
@[simp] theorem Dev.setCan_evr (c : Can) : (s.setCan c).evr = s.evr := rfl
@[simp] theorem Dev.setCan_net (c : Can) : (s.setCan c).net = s.net := rfl
@[simp] theorem Dev.setCan_sw (c : Can) : (s.setCan c).sw = s.sw := rfl
@[simp] theorem Dev.setCan_ten (c : Can) : (s.setCan c).ten = s.ten := rfl
@[simp] theorem Dev.setCan_own (c : Can) : (s.setCan c).own = s.own := rfl
@[simp] theorem Dev.setCan_cust (c : Can) : (s.setCan c).cust = s.cust := rfl
@[simp] theorem Dev.setCan_ldg (c : Can) : (s.setCan c).ldg = s.ldg := rfl
@[simp] theorem Dev.setCan_ep (c : Can) : (s.setCan c).ep = s.ep := rfl
@[simp] theorem Dev.setCan_store (c : Can) : (s.setCan c).store = s.store := rfl
@[simp] theorem Dev.setCan_shelf (c : Can) : (s.setCan c).shelf = s.shelf := rfl
@[simp] theorem Dev.setCan_rdma (c : Can) : (s.setCan c).rdma = s.rdma := rfl
@[simp] theorem Dev.setCan_nvme (c : Can) : (s.setCan c).nvme = s.nvme := rfl
@[simp] theorem Dev.setCan_dma (c : Can) : (s.setCan c).dma = s.dma := rfl
@[simp] theorem Dev.setCan_fld (c : Can) (f : Fld) (j : Nat) : (s.setCan c).fld f j = s.fld f j := rfl
@[simp] theorem Dev.setCan_flag (c : Can) (f : Fld) (j : Nat) : (s.setCan c).flag f j = s.flag f j := rfl
@[simp] theorem Dev.setCan_ctr (c : Can) (e : Ctr) (j : Nat) : (s.setCan c).ctr e j = s.ctr e j := rfl
@[simp] theorem Dev.setCan_nowOn (c : Can) (e : Die) : (s.setCan c).nowOn e = s.nowOn e := rfl
@[simp] theorem Dev.setCan_region (c : Can) (j : Nat) : (s.setCan c).region j = s.region j := rfl
@[simp] theorem Dev.setCan_isolated (c : Can) (j : Nat) : (s.setCan c).isolated j = s.isolated j := rfl
@[simp] theorem Dev.setCan_seam (c : Can) (j : Nat) : (s.setCan c).seam j = s.seam j := rfl
@[simp] theorem Dev.setCan_seamUp (c : Can) (j : Nat) : (s.setCan c).seamUp j = s.seamUp j := rfl
@[simp] theorem Dev.setCan_rail (c : Can) (j : Nat) : (s.setCan c).rail j = s.rail j := rfl
@[simp] theorem Dev.setCan_reachesPlinth (c : Can) (e : Die) : (s.setCan c).reachesPlinth e = s.reachesPlinth e := rfl
@[simp] theorem Dev.setCan_now (c : Can) : (s.setCan c).now = s.now := rfl
@[simp] theorem Dev.setCan_bond (c : Can) (j : Nat) : (s.setCan c).bond j = s.bond j := rfl
@[simp] theorem Dev.setCan_pierOwn (c : Can) (j : Nat) : (s.setCan c).pierOwn j = s.pierOwn j := rfl
@[simp] theorem Dev.setCan_chan (c : Can) (j : Nat) : (s.setCan c).chan j = s.chan j := rfl
@[simp] theorem Dev.setCan_tn (c : Can) (j : Nat) : (s.setCan c).tn j = s.tn j := rfl
@[simp] theorem Dev.setCan_mac (c : Can) (j : Nat) : (s.setCan c).mac j = s.mac j := rfl
@[simp] theorem Dev.setCan_qp (c : Can) (j : Nat) : (s.setCan c).qp j = s.qp j := rfl
@[simp] theorem Dev.setCan_window (c : Can) (j : Nat) : (s.setCan c).window j = s.window j := rfl
@[simp] theorem Dev.setCan_epFn (c : Can) (j : Nat) : (s.setCan c).epFn j = s.epFn j := rfl
@[simp] theorem Dev.setCan_slotPwr (c : Can) (j : Nat) : (s.setCan c).slotPwr j = s.slotPwr j := rfl
@[simp] theorem Dev.setCan_port (c : Can) (j : Nat) : (s.setCan c).port j = s.port j := rfl
@[simp] theorem Dev.setCan_vol (c : Can) (j : Nat) : (s.setCan c).vol j = s.vol j := rfl
@[simp] theorem Dev.setCan_drive (c : Can) (j : Nat) : (s.setCan c).drive j = s.drive j := rfl
@[simp] theorem Dev.setCan_pier (c : Can) (j : Nat) : (s.setCan c).pier j = s.pier j := rfl
@[simp] theorem Dev.setCan_served (c : Can) : (s.setCan c).served = s.served := rfl

@[simp] theorem Dev.setSession_time (n : Nat) (x : Session) : (s.setSession n x).time = s.time := rfl
@[simp] theorem Dev.setSession_timeLoaded (n : Nat) (x : Session) : (s.setSession n x).timeLoaded = s.timeLoaded := rfl
@[simp] theorem Dev.setSession_fresh (n : Nat) (x : Session) : (s.setSession n x).fresh = s.fresh := rfl
@[simp] theorem Dev.setSession_out (n : Nat) (x : Session) : (s.setSession n x).out = s.out := rfl
@[simp] theorem Dev.setSession_raised (n : Nat) (x : Session) : (s.setSession n x).raised = s.raised := rfl
@[simp] theorem Dev.setSession_regs (n : Nat) (x : Session) : (s.setSession n x).regs = s.regs := rfl
@[simp] theorem Dev.setSession_ctrs (n : Nat) (x : Session) : (s.setSession n x).ctrs = s.ctrs := rfl
@[simp] theorem Dev.setSession_marks (n : Nat) (x : Session) : (s.setSession n x).marks = s.marks := rfl
@[simp] theorem Dev.setSession_latches (n : Nat) (x : Session) : (s.setSession n x).latches = s.latches := rfl
@[simp] theorem Dev.setSession_arch (n : Nat) (x : Session) : (s.setSession n x).arch = s.arch := rfl
@[simp] theorem Dev.setSession_mode (n : Nat) (x : Session) : (s.setSession n x).mode = s.mode := rfl
@[simp] theorem Dev.setSession_fw (n : Nat) (x : Session) : (s.setSession n x).fw = s.fw := rfl
@[simp] theorem Dev.setSession_pkg (n : Nat) (x : Session) : (s.setSession n x).pkg = s.pkg := rfl
@[simp] theorem Dev.setSession_evr (n : Nat) (x : Session) : (s.setSession n x).evr = s.evr := rfl
@[simp] theorem Dev.setSession_net (n : Nat) (x : Session) : (s.setSession n x).net = s.net := rfl
@[simp] theorem Dev.setSession_sw (n : Nat) (x : Session) : (s.setSession n x).sw = s.sw := rfl
@[simp] theorem Dev.setSession_ten (n : Nat) (x : Session) : (s.setSession n x).ten = s.ten := rfl
@[simp] theorem Dev.setSession_own (n : Nat) (x : Session) : (s.setSession n x).own = s.own := rfl
@[simp] theorem Dev.setSession_cust (n : Nat) (x : Session) : (s.setSession n x).cust = s.cust := rfl
@[simp] theorem Dev.setSession_ldg (n : Nat) (x : Session) : (s.setSession n x).ldg = s.ldg := rfl
@[simp] theorem Dev.setSession_ep (n : Nat) (x : Session) : (s.setSession n x).ep = s.ep := rfl
@[simp] theorem Dev.setSession_store (n : Nat) (x : Session) : (s.setSession n x).store = s.store := rfl
@[simp] theorem Dev.setSession_shelf (n : Nat) (x : Session) : (s.setSession n x).shelf = s.shelf := rfl
@[simp] theorem Dev.setSession_rdma (n : Nat) (x : Session) : (s.setSession n x).rdma = s.rdma := rfl
@[simp] theorem Dev.setSession_nvme (n : Nat) (x : Session) : (s.setSession n x).nvme = s.nvme := rfl
@[simp] theorem Dev.setSession_dma (n : Nat) (x : Session) : (s.setSession n x).dma = s.dma := rfl
@[simp] theorem Dev.setSession_fld (n : Nat) (x : Session) (f : Fld) (j : Nat) : (s.setSession n x).fld f j = s.fld f j := rfl
@[simp] theorem Dev.setSession_flag (n : Nat) (x : Session) (f : Fld) (j : Nat) : (s.setSession n x).flag f j = s.flag f j := rfl
@[simp] theorem Dev.setSession_ctr (n : Nat) (x : Session) (e : Ctr) (j : Nat) : (s.setSession n x).ctr e j = s.ctr e j := rfl
@[simp] theorem Dev.setSession_nowOn (n : Nat) (x : Session) (e : Die) : (s.setSession n x).nowOn e = s.nowOn e := rfl
@[simp] theorem Dev.setSession_region (n : Nat) (x : Session) (j : Nat) : (s.setSession n x).region j = s.region j := rfl
@[simp] theorem Dev.setSession_isolated (n : Nat) (x : Session) (j : Nat) : (s.setSession n x).isolated j = s.isolated j := rfl
@[simp] theorem Dev.setSession_seam (n : Nat) (x : Session) (j : Nat) : (s.setSession n x).seam j = s.seam j := rfl
@[simp] theorem Dev.setSession_seamUp (n : Nat) (x : Session) (j : Nat) : (s.setSession n x).seamUp j = s.seamUp j := rfl
@[simp] theorem Dev.setSession_rail (n : Nat) (x : Session) (j : Nat) : (s.setSession n x).rail j = s.rail j := rfl
@[simp] theorem Dev.setSession_reachesPlinth (n : Nat) (x : Session) (e : Die) : (s.setSession n x).reachesPlinth e = s.reachesPlinth e := rfl
@[simp] theorem Dev.setSession_now (n : Nat) (x : Session) : (s.setSession n x).now = s.now := rfl
@[simp] theorem Dev.setSession_bond (n : Nat) (x : Session) (j : Nat) : (s.setSession n x).bond j = s.bond j := rfl
@[simp] theorem Dev.setSession_pierOwn (n : Nat) (x : Session) (j : Nat) : (s.setSession n x).pierOwn j = s.pierOwn j := rfl
@[simp] theorem Dev.setSession_chan (n : Nat) (x : Session) (j : Nat) : (s.setSession n x).chan j = s.chan j := rfl
@[simp] theorem Dev.setSession_tn (n : Nat) (x : Session) (j : Nat) : (s.setSession n x).tn j = s.tn j := rfl
@[simp] theorem Dev.setSession_mac (n : Nat) (x : Session) (j : Nat) : (s.setSession n x).mac j = s.mac j := rfl
@[simp] theorem Dev.setSession_qp (n : Nat) (x : Session) (j : Nat) : (s.setSession n x).qp j = s.qp j := rfl
@[simp] theorem Dev.setSession_window (n : Nat) (x : Session) (j : Nat) : (s.setSession n x).window j = s.window j := rfl
@[simp] theorem Dev.setSession_epFn (n : Nat) (x : Session) (j : Nat) : (s.setSession n x).epFn j = s.epFn j := rfl
@[simp] theorem Dev.setSession_slotPwr (n : Nat) (x : Session) (j : Nat) : (s.setSession n x).slotPwr j = s.slotPwr j := rfl
@[simp] theorem Dev.setSession_port (n : Nat) (x : Session) (j : Nat) : (s.setSession n x).port j = s.port j := rfl
@[simp] theorem Dev.setSession_vol (n : Nat) (x : Session) (j : Nat) : (s.setSession n x).vol j = s.vol j := rfl
@[simp] theorem Dev.setSession_drive (n : Nat) (x : Session) (j : Nat) : (s.setSession n x).drive j = s.drive j := rfl
@[simp] theorem Dev.setSession_pier (n : Nat) (x : Session) (j : Nat) : (s.setSession n x).pier j = s.pier j := rfl
@[simp] theorem Dev.setSession_served (n : Nat) (x : Session) : (s.setSession n x).served = s.served := rfl

@[simp] theorem Dev.setChan_time (n : Nat) (x : Chan) : (s.setChan n x).time = s.time := rfl
@[simp] theorem Dev.setChan_timeLoaded (n : Nat) (x : Chan) : (s.setChan n x).timeLoaded = s.timeLoaded := rfl
@[simp] theorem Dev.setChan_fresh (n : Nat) (x : Chan) : (s.setChan n x).fresh = s.fresh := rfl
@[simp] theorem Dev.setChan_out (n : Nat) (x : Chan) : (s.setChan n x).out = s.out := rfl
@[simp] theorem Dev.setChan_raised (n : Nat) (x : Chan) : (s.setChan n x).raised = s.raised := rfl
@[simp] theorem Dev.setChan_regs (n : Nat) (x : Chan) : (s.setChan n x).regs = s.regs := rfl
@[simp] theorem Dev.setChan_ctrs (n : Nat) (x : Chan) : (s.setChan n x).ctrs = s.ctrs := rfl
@[simp] theorem Dev.setChan_marks (n : Nat) (x : Chan) : (s.setChan n x).marks = s.marks := rfl
@[simp] theorem Dev.setChan_latches (n : Nat) (x : Chan) : (s.setChan n x).latches = s.latches := rfl
@[simp] theorem Dev.setChan_arch (n : Nat) (x : Chan) : (s.setChan n x).arch = s.arch := rfl
@[simp] theorem Dev.setChan_mode (n : Nat) (x : Chan) : (s.setChan n x).mode = s.mode := rfl
@[simp] theorem Dev.setChan_fw (n : Nat) (x : Chan) : (s.setChan n x).fw = s.fw := rfl
@[simp] theorem Dev.setChan_pkg (n : Nat) (x : Chan) : (s.setChan n x).pkg = s.pkg := rfl
@[simp] theorem Dev.setChan_evr (n : Nat) (x : Chan) : (s.setChan n x).evr = s.evr := rfl
@[simp] theorem Dev.setChan_net (n : Nat) (x : Chan) : (s.setChan n x).net = s.net := rfl
@[simp] theorem Dev.setChan_sw (n : Nat) (x : Chan) : (s.setChan n x).sw = s.sw := rfl
@[simp] theorem Dev.setChan_ten (n : Nat) (x : Chan) : (s.setChan n x).ten = s.ten := rfl
@[simp] theorem Dev.setChan_own (n : Nat) (x : Chan) : (s.setChan n x).own = s.own := rfl
@[simp] theorem Dev.setChan_cust (n : Nat) (x : Chan) : (s.setChan n x).cust = s.cust := rfl
@[simp] theorem Dev.setChan_ldg (n : Nat) (x : Chan) : (s.setChan n x).ldg = s.ldg := rfl
@[simp] theorem Dev.setChan_ep (n : Nat) (x : Chan) : (s.setChan n x).ep = s.ep := rfl
@[simp] theorem Dev.setChan_od (n : Nat) (x : Chan) : (s.setChan n x).od = s.od := rfl
@[simp] theorem Dev.setChan_store (n : Nat) (x : Chan) : (s.setChan n x).store = s.store := rfl
@[simp] theorem Dev.setChan_shelf (n : Nat) (x : Chan) : (s.setChan n x).shelf = s.shelf := rfl
@[simp] theorem Dev.setChan_rdma (n : Nat) (x : Chan) : (s.setChan n x).rdma = s.rdma := rfl
@[simp] theorem Dev.setChan_nvme (n : Nat) (x : Chan) : (s.setChan n x).nvme = s.nvme := rfl
@[simp] theorem Dev.setChan_fld (n : Nat) (x : Chan) (f : Fld) (j : Nat) : (s.setChan n x).fld f j = s.fld f j := rfl
@[simp] theorem Dev.setChan_flag (n : Nat) (x : Chan) (f : Fld) (j : Nat) : (s.setChan n x).flag f j = s.flag f j := rfl
@[simp] theorem Dev.setChan_ctr (n : Nat) (x : Chan) (e : Ctr) (j : Nat) : (s.setChan n x).ctr e j = s.ctr e j := rfl
@[simp] theorem Dev.setChan_nowOn (n : Nat) (x : Chan) (e : Die) : (s.setChan n x).nowOn e = s.nowOn e := rfl
@[simp] theorem Dev.setChan_region (n : Nat) (x : Chan) (j : Nat) : (s.setChan n x).region j = s.region j := rfl
@[simp] theorem Dev.setChan_isolated (n : Nat) (x : Chan) (j : Nat) : (s.setChan n x).isolated j = s.isolated j := rfl
@[simp] theorem Dev.setChan_seam (n : Nat) (x : Chan) (j : Nat) : (s.setChan n x).seam j = s.seam j := rfl
@[simp] theorem Dev.setChan_seamUp (n : Nat) (x : Chan) (j : Nat) : (s.setChan n x).seamUp j = s.seamUp j := rfl
@[simp] theorem Dev.setChan_rail (n : Nat) (x : Chan) (j : Nat) : (s.setChan n x).rail j = s.rail j := rfl
@[simp] theorem Dev.setChan_reachesPlinth (n : Nat) (x : Chan) (e : Die) : (s.setChan n x).reachesPlinth e = s.reachesPlinth e := rfl
@[simp] theorem Dev.setChan_now (n : Nat) (x : Chan) : (s.setChan n x).now = s.now := rfl
@[simp] theorem Dev.setChan_bond (n : Nat) (x : Chan) (j : Nat) : (s.setChan n x).bond j = s.bond j := rfl
@[simp] theorem Dev.setChan_pierOwn (n : Nat) (x : Chan) (j : Nat) : (s.setChan n x).pierOwn j = s.pierOwn j := rfl
@[simp] theorem Dev.setChan_tn (n : Nat) (x : Chan) (j : Nat) : (s.setChan n x).tn j = s.tn j := rfl
@[simp] theorem Dev.setChan_mac (n : Nat) (x : Chan) (j : Nat) : (s.setChan n x).mac j = s.mac j := rfl
@[simp] theorem Dev.setChan_qp (n : Nat) (x : Chan) (j : Nat) : (s.setChan n x).qp j = s.qp j := rfl
@[simp] theorem Dev.setChan_window (n : Nat) (x : Chan) (j : Nat) : (s.setChan n x).window j = s.window j := rfl
@[simp] theorem Dev.setChan_epFn (n : Nat) (x : Chan) (j : Nat) : (s.setChan n x).epFn j = s.epFn j := rfl
@[simp] theorem Dev.setChan_slotPwr (n : Nat) (x : Chan) (j : Nat) : (s.setChan n x).slotPwr j = s.slotPwr j := rfl
@[simp] theorem Dev.setChan_port (n : Nat) (x : Chan) (j : Nat) : (s.setChan n x).port j = s.port j := rfl
@[simp] theorem Dev.setChan_vol (n : Nat) (x : Chan) (j : Nat) : (s.setChan n x).vol j = s.vol j := rfl
@[simp] theorem Dev.setChan_drive (n : Nat) (x : Chan) (j : Nat) : (s.setChan n x).drive j = s.drive j := rfl
@[simp] theorem Dev.setChan_pier (n : Nat) (x : Chan) (j : Nat) : (s.setChan n x).pier j = s.pier j := rfl
@[simp] theorem Dev.setChan_session (n : Nat) (x : Chan) (j : Nat) : (s.setChan n x).session j = s.session j := rfl
@[simp] theorem Dev.setChan_served (n : Nat) (x : Chan) : (s.setChan n x).served = s.served := rfl

@[simp] theorem Dev.hbmWrite_time (a : Nat) (l : List Byte) : (s.hbmWrite a l).time = s.time := rfl
@[simp] theorem Dev.hbmWrite_timeLoaded (a : Nat) (l : List Byte) : (s.hbmWrite a l).timeLoaded = s.timeLoaded := rfl
@[simp] theorem Dev.hbmWrite_fresh (a : Nat) (l : List Byte) : (s.hbmWrite a l).fresh = s.fresh := rfl
@[simp] theorem Dev.hbmWrite_out (a : Nat) (l : List Byte) : (s.hbmWrite a l).out = s.out := rfl
@[simp] theorem Dev.hbmWrite_raised (a : Nat) (l : List Byte) : (s.hbmWrite a l).raised = s.raised := rfl
@[simp] theorem Dev.hbmWrite_regs (a : Nat) (l : List Byte) : (s.hbmWrite a l).regs = s.regs := rfl
@[simp] theorem Dev.hbmWrite_ctrs (a : Nat) (l : List Byte) : (s.hbmWrite a l).ctrs = s.ctrs := rfl
@[simp] theorem Dev.hbmWrite_marks (a : Nat) (l : List Byte) : (s.hbmWrite a l).marks = s.marks := rfl
@[simp] theorem Dev.hbmWrite_latches (a : Nat) (l : List Byte) : (s.hbmWrite a l).latches = s.latches := rfl
@[simp] theorem Dev.hbmWrite_arch (a : Nat) (l : List Byte) : (s.hbmWrite a l).arch = s.arch := rfl
@[simp] theorem Dev.hbmWrite_mode (a : Nat) (l : List Byte) : (s.hbmWrite a l).mode = s.mode := rfl
@[simp] theorem Dev.hbmWrite_fw (a : Nat) (l : List Byte) : (s.hbmWrite a l).fw = s.fw := rfl
@[simp] theorem Dev.hbmWrite_pkg (a : Nat) (l : List Byte) : (s.hbmWrite a l).pkg = s.pkg := rfl
@[simp] theorem Dev.hbmWrite_evr (a : Nat) (l : List Byte) : (s.hbmWrite a l).evr = s.evr := rfl
@[simp] theorem Dev.hbmWrite_net (a : Nat) (l : List Byte) : (s.hbmWrite a l).net = s.net := rfl
@[simp] theorem Dev.hbmWrite_sw (a : Nat) (l : List Byte) : (s.hbmWrite a l).sw = s.sw := rfl
@[simp] theorem Dev.hbmWrite_ten (a : Nat) (l : List Byte) : (s.hbmWrite a l).ten = s.ten := rfl
@[simp] theorem Dev.hbmWrite_own (a : Nat) (l : List Byte) : (s.hbmWrite a l).own = s.own := rfl
@[simp] theorem Dev.hbmWrite_cust (a : Nat) (l : List Byte) : (s.hbmWrite a l).cust = s.cust := rfl
@[simp] theorem Dev.hbmWrite_ldg (a : Nat) (l : List Byte) : (s.hbmWrite a l).ldg = s.ldg := rfl
@[simp] theorem Dev.hbmWrite_ep (a : Nat) (l : List Byte) : (s.hbmWrite a l).ep = s.ep := rfl
@[simp] theorem Dev.hbmWrite_od (a : Nat) (l : List Byte) : (s.hbmWrite a l).od = s.od := rfl
@[simp] theorem Dev.hbmWrite_store (a : Nat) (l : List Byte) : (s.hbmWrite a l).store = s.store := rfl
@[simp] theorem Dev.hbmWrite_shelf (a : Nat) (l : List Byte) : (s.hbmWrite a l).shelf = s.shelf := rfl
@[simp] theorem Dev.hbmWrite_rdma (a : Nat) (l : List Byte) : (s.hbmWrite a l).rdma = s.rdma := rfl
@[simp] theorem Dev.hbmWrite_nvme (a : Nat) (l : List Byte) : (s.hbmWrite a l).nvme = s.nvme := rfl
@[simp] theorem Dev.hbmWrite_fld (a : Nat) (l : List Byte) (f : Fld) (j : Nat) : (s.hbmWrite a l).fld f j = s.fld f j := rfl
@[simp] theorem Dev.hbmWrite_flag (a : Nat) (l : List Byte) (f : Fld) (j : Nat) : (s.hbmWrite a l).flag f j = s.flag f j := rfl
@[simp] theorem Dev.hbmWrite_ctr (a : Nat) (l : List Byte) (e : Ctr) (j : Nat) : (s.hbmWrite a l).ctr e j = s.ctr e j := rfl
@[simp] theorem Dev.hbmWrite_nowOn (a : Nat) (l : List Byte) (e : Die) : (s.hbmWrite a l).nowOn e = s.nowOn e := rfl
@[simp] theorem Dev.hbmWrite_region (a : Nat) (l : List Byte) (j : Nat) : (s.hbmWrite a l).region j = s.region j := rfl
@[simp] theorem Dev.hbmWrite_isolated (a : Nat) (l : List Byte) (j : Nat) : (s.hbmWrite a l).isolated j = s.isolated j := rfl
@[simp] theorem Dev.hbmWrite_seam (a : Nat) (l : List Byte) (j : Nat) : (s.hbmWrite a l).seam j = s.seam j := rfl
@[simp] theorem Dev.hbmWrite_seamUp (a : Nat) (l : List Byte) (j : Nat) : (s.hbmWrite a l).seamUp j = s.seamUp j := rfl
@[simp] theorem Dev.hbmWrite_rail (a : Nat) (l : List Byte) (j : Nat) : (s.hbmWrite a l).rail j = s.rail j := rfl
@[simp] theorem Dev.hbmWrite_reachesPlinth (a : Nat) (l : List Byte) (e : Die) : (s.hbmWrite a l).reachesPlinth e = s.reachesPlinth e := rfl
@[simp] theorem Dev.hbmWrite_now (a : Nat) (l : List Byte) : (s.hbmWrite a l).now = s.now := rfl
@[simp] theorem Dev.hbmWrite_bond (a : Nat) (l : List Byte) (j : Nat) : (s.hbmWrite a l).bond j = s.bond j := rfl
@[simp] theorem Dev.hbmWrite_pierOwn (a : Nat) (l : List Byte) (j : Nat) : (s.hbmWrite a l).pierOwn j = s.pierOwn j := rfl
@[simp] theorem Dev.hbmWrite_tn (a : Nat) (l : List Byte) (j : Nat) : (s.hbmWrite a l).tn j = s.tn j := rfl
@[simp] theorem Dev.hbmWrite_mac (a : Nat) (l : List Byte) (j : Nat) : (s.hbmWrite a l).mac j = s.mac j := rfl
@[simp] theorem Dev.hbmWrite_qp (a : Nat) (l : List Byte) (j : Nat) : (s.hbmWrite a l).qp j = s.qp j := rfl
@[simp] theorem Dev.hbmWrite_window (a : Nat) (l : List Byte) (j : Nat) : (s.hbmWrite a l).window j = s.window j := rfl
@[simp] theorem Dev.hbmWrite_epFn (a : Nat) (l : List Byte) (j : Nat) : (s.hbmWrite a l).epFn j = s.epFn j := rfl
@[simp] theorem Dev.hbmWrite_slotPwr (a : Nat) (l : List Byte) (j : Nat) : (s.hbmWrite a l).slotPwr j = s.slotPwr j := rfl
@[simp] theorem Dev.hbmWrite_port (a : Nat) (l : List Byte) (j : Nat) : (s.hbmWrite a l).port j = s.port j := rfl
@[simp] theorem Dev.hbmWrite_vol (a : Nat) (l : List Byte) (j : Nat) : (s.hbmWrite a l).vol j = s.vol j := rfl
@[simp] theorem Dev.hbmWrite_drive (a : Nat) (l : List Byte) (j : Nat) : (s.hbmWrite a l).drive j = s.drive j := rfl
@[simp] theorem Dev.hbmWrite_pier (a : Nat) (l : List Byte) (j : Nat) : (s.hbmWrite a l).pier j = s.pier j := rfl
@[simp] theorem Dev.hbmWrite_session (a : Nat) (l : List Byte) (j : Nat) : (s.hbmWrite a l).session j = s.session j := rfl
@[simp] theorem Dev.hbmWrite_served (a : Nat) (l : List Byte) : (s.hbmWrite a l).served = s.served := rfl

@[simp] theorem Dev.setCmd_time (c : Cmd) : (s.setCmd c).time = s.time := rfl
@[simp] theorem Dev.setCmd_timeLoaded (c : Cmd) : (s.setCmd c).timeLoaded = s.timeLoaded := rfl
@[simp] theorem Dev.setCmd_fresh (c : Cmd) : (s.setCmd c).fresh = s.fresh := rfl
@[simp] theorem Dev.setCmd_out (c : Cmd) : (s.setCmd c).out = s.out := rfl
@[simp] theorem Dev.setCmd_raised (c : Cmd) : (s.setCmd c).raised = s.raised := rfl
@[simp] theorem Dev.setCmd_regs (c : Cmd) : (s.setCmd c).regs = s.regs := rfl
@[simp] theorem Dev.setCmd_ctrs (c : Cmd) : (s.setCmd c).ctrs = s.ctrs := rfl
@[simp] theorem Dev.setCmd_marks (c : Cmd) : (s.setCmd c).marks = s.marks := rfl
@[simp] theorem Dev.setCmd_latches (c : Cmd) : (s.setCmd c).latches = s.latches := rfl
@[simp] theorem Dev.setCmd_arch (c : Cmd) : (s.setCmd c).arch = s.arch := rfl
@[simp] theorem Dev.setCmd_mode (c : Cmd) : (s.setCmd c).mode = s.mode := rfl
@[simp] theorem Dev.setCmd_fw (c : Cmd) : (s.setCmd c).fw = s.fw := rfl
@[simp] theorem Dev.setCmd_pkg (c : Cmd) : (s.setCmd c).pkg = s.pkg := rfl
@[simp] theorem Dev.setCmd_evr (c : Cmd) : (s.setCmd c).evr = s.evr := rfl
@[simp] theorem Dev.setCmd_net (c : Cmd) : (s.setCmd c).net = s.net := rfl
@[simp] theorem Dev.setCmd_sw (c : Cmd) : (s.setCmd c).sw = s.sw := rfl
@[simp] theorem Dev.setCmd_ten (c : Cmd) : (s.setCmd c).ten = s.ten := rfl
@[simp] theorem Dev.setCmd_own (c : Cmd) : (s.setCmd c).own = s.own := rfl
@[simp] theorem Dev.setCmd_cust (c : Cmd) : (s.setCmd c).cust = s.cust := rfl
@[simp] theorem Dev.setCmd_ldg (c : Cmd) : (s.setCmd c).ldg = s.ldg := rfl
@[simp] theorem Dev.setCmd_ep (c : Cmd) : (s.setCmd c).ep = s.ep := rfl
@[simp] theorem Dev.setCmd_od (c : Cmd) : (s.setCmd c).od = s.od := rfl
@[simp] theorem Dev.setCmd_store (c : Cmd) : (s.setCmd c).store = s.store := rfl
@[simp] theorem Dev.setCmd_shelf (c : Cmd) : (s.setCmd c).shelf = s.shelf := rfl
@[simp] theorem Dev.setCmd_rdma (c : Cmd) : (s.setCmd c).rdma = s.rdma := rfl
@[simp] theorem Dev.setCmd_dma (c : Cmd) : (s.setCmd c).dma = s.dma := rfl
@[simp] theorem Dev.setCmd_fld (c : Cmd) (f : Fld) (j : Nat) : (s.setCmd c).fld f j = s.fld f j := rfl
@[simp] theorem Dev.setCmd_flag (c : Cmd) (f : Fld) (j : Nat) : (s.setCmd c).flag f j = s.flag f j := rfl
@[simp] theorem Dev.setCmd_ctr (c : Cmd) (e : Ctr) (j : Nat) : (s.setCmd c).ctr e j = s.ctr e j := rfl
@[simp] theorem Dev.setCmd_nowOn (c : Cmd) (e : Die) : (s.setCmd c).nowOn e = s.nowOn e := rfl
@[simp] theorem Dev.setCmd_region (c : Cmd) (j : Nat) : (s.setCmd c).region j = s.region j := rfl
@[simp] theorem Dev.setCmd_isolated (c : Cmd) (j : Nat) : (s.setCmd c).isolated j = s.isolated j := rfl
@[simp] theorem Dev.setCmd_seam (c : Cmd) (j : Nat) : (s.setCmd c).seam j = s.seam j := rfl
@[simp] theorem Dev.setCmd_seamUp (c : Cmd) (j : Nat) : (s.setCmd c).seamUp j = s.seamUp j := rfl
@[simp] theorem Dev.setCmd_rail (c : Cmd) (j : Nat) : (s.setCmd c).rail j = s.rail j := rfl
@[simp] theorem Dev.setCmd_reachesPlinth (c : Cmd) (e : Die) : (s.setCmd c).reachesPlinth e = s.reachesPlinth e := rfl
@[simp] theorem Dev.setCmd_now (c : Cmd) : (s.setCmd c).now = s.now := rfl
@[simp] theorem Dev.setCmd_bond (c : Cmd) (j : Nat) : (s.setCmd c).bond j = s.bond j := rfl
@[simp] theorem Dev.setCmd_pierOwn (c : Cmd) (j : Nat) : (s.setCmd c).pierOwn j = s.pierOwn j := rfl
@[simp] theorem Dev.setCmd_chan (c : Cmd) (j : Nat) : (s.setCmd c).chan j = s.chan j := rfl
@[simp] theorem Dev.setCmd_tn (c : Cmd) (j : Nat) : (s.setCmd c).tn j = s.tn j := rfl
@[simp] theorem Dev.setCmd_mac (c : Cmd) (j : Nat) : (s.setCmd c).mac j = s.mac j := rfl
@[simp] theorem Dev.setCmd_qp (c : Cmd) (j : Nat) : (s.setCmd c).qp j = s.qp j := rfl
@[simp] theorem Dev.setCmd_window (c : Cmd) (j : Nat) : (s.setCmd c).window j = s.window j := rfl
@[simp] theorem Dev.setCmd_epFn (c : Cmd) (j : Nat) : (s.setCmd c).epFn j = s.epFn j := rfl
@[simp] theorem Dev.setCmd_slotPwr (c : Cmd) (j : Nat) : (s.setCmd c).slotPwr j = s.slotPwr j := rfl
@[simp] theorem Dev.setCmd_port (c : Cmd) (j : Nat) : (s.setCmd c).port j = s.port j := rfl
@[simp] theorem Dev.setCmd_vol (c : Cmd) (j : Nat) : (s.setCmd c).vol j = s.vol j := rfl
@[simp] theorem Dev.setCmd_drive (c : Cmd) (j : Nat) : (s.setCmd c).drive j = s.drive j := rfl
@[simp] theorem Dev.setCmd_pier (c : Cmd) (j : Nat) : (s.setCmd c).pier j = s.pier j := rfl
@[simp] theorem Dev.setCmd_session (c : Cmd) (j : Nat) : (s.setCmd c).session j = s.session j := rfl
@[simp] theorem Dev.setCmd_served (c : Cmd) : (s.setCmd c).served = s.served := rfl

@[simp] theorem Dev.setMeter_time (m : Meter) : (s.setMeter m).time = s.time := rfl
@[simp] theorem Dev.setMeter_timeLoaded (m : Meter) : (s.setMeter m).timeLoaded = s.timeLoaded := rfl
@[simp] theorem Dev.setMeter_fresh (m : Meter) : (s.setMeter m).fresh = s.fresh := rfl
@[simp] theorem Dev.setMeter_out (m : Meter) : (s.setMeter m).out = s.out := rfl
@[simp] theorem Dev.setMeter_raised (m : Meter) : (s.setMeter m).raised = s.raised := rfl
@[simp] theorem Dev.setMeter_regs (m : Meter) : (s.setMeter m).regs = s.regs := rfl
@[simp] theorem Dev.setMeter_ctrs (m : Meter) : (s.setMeter m).ctrs = s.ctrs := rfl
@[simp] theorem Dev.setMeter_marks (m : Meter) : (s.setMeter m).marks = s.marks := rfl
@[simp] theorem Dev.setMeter_latches (m : Meter) : (s.setMeter m).latches = s.latches := rfl
@[simp] theorem Dev.setMeter_arch (m : Meter) : (s.setMeter m).arch = s.arch := rfl
@[simp] theorem Dev.setMeter_mode (m : Meter) : (s.setMeter m).mode = s.mode := rfl
@[simp] theorem Dev.setMeter_fw (m : Meter) : (s.setMeter m).fw = s.fw := rfl
@[simp] theorem Dev.setMeter_pkg (m : Meter) : (s.setMeter m).pkg = s.pkg := rfl
@[simp] theorem Dev.setMeter_evr (m : Meter) : (s.setMeter m).evr = s.evr := rfl
@[simp] theorem Dev.setMeter_net (m : Meter) : (s.setMeter m).net = s.net := rfl
@[simp] theorem Dev.setMeter_sw (m : Meter) : (s.setMeter m).sw = s.sw := rfl
@[simp] theorem Dev.setMeter_own (m : Meter) : (s.setMeter m).own = s.own := rfl
@[simp] theorem Dev.setMeter_cust (m : Meter) : (s.setMeter m).cust = s.cust := rfl
@[simp] theorem Dev.setMeter_ldg (m : Meter) : (s.setMeter m).ldg = s.ldg := rfl
@[simp] theorem Dev.setMeter_ep (m : Meter) : (s.setMeter m).ep = s.ep := rfl
@[simp] theorem Dev.setMeter_od (m : Meter) : (s.setMeter m).od = s.od := rfl
@[simp] theorem Dev.setMeter_store (m : Meter) : (s.setMeter m).store = s.store := rfl
@[simp] theorem Dev.setMeter_shelf (m : Meter) : (s.setMeter m).shelf = s.shelf := rfl
@[simp] theorem Dev.setMeter_rdma (m : Meter) : (s.setMeter m).rdma = s.rdma := rfl
@[simp] theorem Dev.setMeter_nvme (m : Meter) : (s.setMeter m).nvme = s.nvme := rfl
@[simp] theorem Dev.setMeter_dma (m : Meter) : (s.setMeter m).dma = s.dma := rfl
@[simp] theorem Dev.setMeter_fld (m : Meter) (f : Fld) (j : Nat) : (s.setMeter m).fld f j = s.fld f j := rfl
@[simp] theorem Dev.setMeter_flag (m : Meter) (f : Fld) (j : Nat) : (s.setMeter m).flag f j = s.flag f j := rfl
@[simp] theorem Dev.setMeter_ctr (m : Meter) (e : Ctr) (j : Nat) : (s.setMeter m).ctr e j = s.ctr e j := rfl
@[simp] theorem Dev.setMeter_nowOn (m : Meter) (e : Die) : (s.setMeter m).nowOn e = s.nowOn e := rfl
@[simp] theorem Dev.setMeter_region (m : Meter) (j : Nat) : (s.setMeter m).region j = s.region j := rfl
@[simp] theorem Dev.setMeter_isolated (m : Meter) (j : Nat) : (s.setMeter m).isolated j = s.isolated j := rfl
@[simp] theorem Dev.setMeter_seam (m : Meter) (j : Nat) : (s.setMeter m).seam j = s.seam j := rfl
@[simp] theorem Dev.setMeter_seamUp (m : Meter) (j : Nat) : (s.setMeter m).seamUp j = s.seamUp j := rfl
@[simp] theorem Dev.setMeter_rail (m : Meter) (j : Nat) : (s.setMeter m).rail j = s.rail j := rfl
@[simp] theorem Dev.setMeter_reachesPlinth (m : Meter) (e : Die) : (s.setMeter m).reachesPlinth e = s.reachesPlinth e := rfl
@[simp] theorem Dev.setMeter_now (m : Meter) : (s.setMeter m).now = s.now := rfl
@[simp] theorem Dev.setMeter_bond (m : Meter) (j : Nat) : (s.setMeter m).bond j = s.bond j := rfl
@[simp] theorem Dev.setMeter_pierOwn (m : Meter) (j : Nat) : (s.setMeter m).pierOwn j = s.pierOwn j := rfl
@[simp] theorem Dev.setMeter_chan (m : Meter) (j : Nat) : (s.setMeter m).chan j = s.chan j := rfl
@[simp] theorem Dev.setMeter_mac (m : Meter) (j : Nat) : (s.setMeter m).mac j = s.mac j := rfl
@[simp] theorem Dev.setMeter_qp (m : Meter) (j : Nat) : (s.setMeter m).qp j = s.qp j := rfl
@[simp] theorem Dev.setMeter_window (m : Meter) (j : Nat) : (s.setMeter m).window j = s.window j := rfl
@[simp] theorem Dev.setMeter_epFn (m : Meter) (j : Nat) : (s.setMeter m).epFn j = s.epFn j := rfl
@[simp] theorem Dev.setMeter_slotPwr (m : Meter) (j : Nat) : (s.setMeter m).slotPwr j = s.slotPwr j := rfl
@[simp] theorem Dev.setMeter_port (m : Meter) (j : Nat) : (s.setMeter m).port j = s.port j := rfl
@[simp] theorem Dev.setMeter_vol (m : Meter) (j : Nat) : (s.setMeter m).vol j = s.vol j := rfl
@[simp] theorem Dev.setMeter_drive (m : Meter) (j : Nat) : (s.setMeter m).drive j = s.drive j := rfl
@[simp] theorem Dev.setMeter_pier (m : Meter) (j : Nat) : (s.setMeter m).pier j = s.pier j := rfl
@[simp] theorem Dev.setMeter_session (m : Meter) (j : Nat) : (s.setMeter m).session j = s.session j := rfl
@[simp] theorem Dev.setMeter_served (m : Meter) : (s.setMeter m).served = s.served := rfl

@[simp] theorem Dev.setTn_time (t : Nat) (x : TnState) : (s.setTn t x).time = s.time := rfl
@[simp] theorem Dev.setTn_timeLoaded (t : Nat) (x : TnState) : (s.setTn t x).timeLoaded = s.timeLoaded := rfl
@[simp] theorem Dev.setTn_fresh (t : Nat) (x : TnState) : (s.setTn t x).fresh = s.fresh := rfl
@[simp] theorem Dev.setTn_out (t : Nat) (x : TnState) : (s.setTn t x).out = s.out := rfl
@[simp] theorem Dev.setTn_raised (t : Nat) (x : TnState) : (s.setTn t x).raised = s.raised := rfl
@[simp] theorem Dev.setTn_regs (t : Nat) (x : TnState) : (s.setTn t x).regs = s.regs := rfl
@[simp] theorem Dev.setTn_ctrs (t : Nat) (x : TnState) : (s.setTn t x).ctrs = s.ctrs := rfl
@[simp] theorem Dev.setTn_marks (t : Nat) (x : TnState) : (s.setTn t x).marks = s.marks := rfl
@[simp] theorem Dev.setTn_latches (t : Nat) (x : TnState) : (s.setTn t x).latches = s.latches := rfl
@[simp] theorem Dev.setTn_arch (t : Nat) (x : TnState) : (s.setTn t x).arch = s.arch := rfl
@[simp] theorem Dev.setTn_mode (t : Nat) (x : TnState) : (s.setTn t x).mode = s.mode := rfl
@[simp] theorem Dev.setTn_fw (t : Nat) (x : TnState) : (s.setTn t x).fw = s.fw := rfl
@[simp] theorem Dev.setTn_pkg (t : Nat) (x : TnState) : (s.setTn t x).pkg = s.pkg := rfl
@[simp] theorem Dev.setTn_evr (t : Nat) (x : TnState) : (s.setTn t x).evr = s.evr := rfl
@[simp] theorem Dev.setTn_net (t : Nat) (x : TnState) : (s.setTn t x).net = s.net := rfl
@[simp] theorem Dev.setTn_sw (t : Nat) (x : TnState) : (s.setTn t x).sw = s.sw := rfl
@[simp] theorem Dev.setTn_own (t : Nat) (x : TnState) : (s.setTn t x).own = s.own := rfl
@[simp] theorem Dev.setTn_cust (t : Nat) (x : TnState) : (s.setTn t x).cust = s.cust := rfl
@[simp] theorem Dev.setTn_ldg (t : Nat) (x : TnState) : (s.setTn t x).ldg = s.ldg := rfl
@[simp] theorem Dev.setTn_ep (t : Nat) (x : TnState) : (s.setTn t x).ep = s.ep := rfl
@[simp] theorem Dev.setTn_od (t : Nat) (x : TnState) : (s.setTn t x).od = s.od := rfl
@[simp] theorem Dev.setTn_store (t : Nat) (x : TnState) : (s.setTn t x).store = s.store := rfl
@[simp] theorem Dev.setTn_shelf (t : Nat) (x : TnState) : (s.setTn t x).shelf = s.shelf := rfl
@[simp] theorem Dev.setTn_rdma (t : Nat) (x : TnState) : (s.setTn t x).rdma = s.rdma := rfl
@[simp] theorem Dev.setTn_nvme (t : Nat) (x : TnState) : (s.setTn t x).nvme = s.nvme := rfl
@[simp] theorem Dev.setTn_dma (t : Nat) (x : TnState) : (s.setTn t x).dma = s.dma := rfl
@[simp] theorem Dev.setTn_fld (t : Nat) (x : TnState) (f : Fld) (j : Nat) : (s.setTn t x).fld f j = s.fld f j := rfl
@[simp] theorem Dev.setTn_flag (t : Nat) (x : TnState) (f : Fld) (j : Nat) : (s.setTn t x).flag f j = s.flag f j := rfl
@[simp] theorem Dev.setTn_ctr (t : Nat) (x : TnState) (e : Ctr) (j : Nat) : (s.setTn t x).ctr e j = s.ctr e j := rfl
@[simp] theorem Dev.setTn_nowOn (t : Nat) (x : TnState) (e : Die) : (s.setTn t x).nowOn e = s.nowOn e := rfl
@[simp] theorem Dev.setTn_region (t : Nat) (x : TnState) (j : Nat) : (s.setTn t x).region j = s.region j := rfl
@[simp] theorem Dev.setTn_isolated (t : Nat) (x : TnState) (j : Nat) : (s.setTn t x).isolated j = s.isolated j := rfl
@[simp] theorem Dev.setTn_seam (t : Nat) (x : TnState) (j : Nat) : (s.setTn t x).seam j = s.seam j := rfl
@[simp] theorem Dev.setTn_seamUp (t : Nat) (x : TnState) (j : Nat) : (s.setTn t x).seamUp j = s.seamUp j := rfl
@[simp] theorem Dev.setTn_rail (t : Nat) (x : TnState) (j : Nat) : (s.setTn t x).rail j = s.rail j := rfl
@[simp] theorem Dev.setTn_reachesPlinth (t : Nat) (x : TnState) (e : Die) : (s.setTn t x).reachesPlinth e = s.reachesPlinth e := rfl
@[simp] theorem Dev.setTn_now (t : Nat) (x : TnState) : (s.setTn t x).now = s.now := rfl
@[simp] theorem Dev.setTn_bond (t : Nat) (x : TnState) (j : Nat) : (s.setTn t x).bond j = s.bond j := rfl
@[simp] theorem Dev.setTn_pierOwn (t : Nat) (x : TnState) (j : Nat) : (s.setTn t x).pierOwn j = s.pierOwn j := rfl
@[simp] theorem Dev.setTn_chan (t : Nat) (x : TnState) (j : Nat) : (s.setTn t x).chan j = s.chan j := rfl
@[simp] theorem Dev.setTn_mac (t : Nat) (x : TnState) (j : Nat) : (s.setTn t x).mac j = s.mac j := rfl
@[simp] theorem Dev.setTn_qp (t : Nat) (x : TnState) (j : Nat) : (s.setTn t x).qp j = s.qp j := rfl
@[simp] theorem Dev.setTn_window (t : Nat) (x : TnState) (j : Nat) : (s.setTn t x).window j = s.window j := rfl
@[simp] theorem Dev.setTn_epFn (t : Nat) (x : TnState) (j : Nat) : (s.setTn t x).epFn j = s.epFn j := rfl
@[simp] theorem Dev.setTn_slotPwr (t : Nat) (x : TnState) (j : Nat) : (s.setTn t x).slotPwr j = s.slotPwr j := rfl
@[simp] theorem Dev.setTn_port (t : Nat) (x : TnState) (j : Nat) : (s.setTn t x).port j = s.port j := rfl
@[simp] theorem Dev.setTn_vol (t : Nat) (x : TnState) (j : Nat) : (s.setTn t x).vol j = s.vol j := rfl
@[simp] theorem Dev.setTn_drive (t : Nat) (x : TnState) (j : Nat) : (s.setTn t x).drive j = s.drive j := rfl
@[simp] theorem Dev.setTn_pier (t : Nat) (x : TnState) (j : Nat) : (s.setTn t x).pier j = s.pier j := rfl
@[simp] theorem Dev.setTn_session (t : Nat) (x : TnState) (j : Nat) : (s.setTn t x).session j = s.session j := rfl
@[simp] theorem Dev.setTn_served (t : Nat) (x : TnState) : (s.setTn t x).served = s.served := rfl

@[simp] theorem Dev.setDeficit_time (m t : Nat) (v : Int) : (s.setDeficit m t v).time = s.time := rfl
@[simp] theorem Dev.setDeficit_timeLoaded (m t : Nat) (v : Int) : (s.setDeficit m t v).timeLoaded = s.timeLoaded := rfl
@[simp] theorem Dev.setDeficit_fresh (m t : Nat) (v : Int) : (s.setDeficit m t v).fresh = s.fresh := rfl
@[simp] theorem Dev.setDeficit_out (m t : Nat) (v : Int) : (s.setDeficit m t v).out = s.out := rfl
@[simp] theorem Dev.setDeficit_raised (m t : Nat) (v : Int) : (s.setDeficit m t v).raised = s.raised := rfl
@[simp] theorem Dev.setDeficit_regs (m t : Nat) (v : Int) : (s.setDeficit m t v).regs = s.regs := rfl
@[simp] theorem Dev.setDeficit_ctrs (m t : Nat) (v : Int) : (s.setDeficit m t v).ctrs = s.ctrs := rfl
@[simp] theorem Dev.setDeficit_marks (m t : Nat) (v : Int) : (s.setDeficit m t v).marks = s.marks := rfl
@[simp] theorem Dev.setDeficit_latches (m t : Nat) (v : Int) : (s.setDeficit m t v).latches = s.latches := rfl
@[simp] theorem Dev.setDeficit_arch (m t : Nat) (v : Int) : (s.setDeficit m t v).arch = s.arch := rfl
@[simp] theorem Dev.setDeficit_mode (m t : Nat) (v : Int) : (s.setDeficit m t v).mode = s.mode := rfl
@[simp] theorem Dev.setDeficit_fw (m t : Nat) (v : Int) : (s.setDeficit m t v).fw = s.fw := rfl
@[simp] theorem Dev.setDeficit_pkg (m t : Nat) (v : Int) : (s.setDeficit m t v).pkg = s.pkg := rfl
@[simp] theorem Dev.setDeficit_evr (m t : Nat) (v : Int) : (s.setDeficit m t v).evr = s.evr := rfl
@[simp] theorem Dev.setDeficit_net (m t : Nat) (v : Int) : (s.setDeficit m t v).net = s.net := rfl
@[simp] theorem Dev.setDeficit_sw (m t : Nat) (v : Int) : (s.setDeficit m t v).sw = s.sw := rfl
@[simp] theorem Dev.setDeficit_own (m t : Nat) (v : Int) : (s.setDeficit m t v).own = s.own := rfl
@[simp] theorem Dev.setDeficit_cust (m t : Nat) (v : Int) : (s.setDeficit m t v).cust = s.cust := rfl
@[simp] theorem Dev.setDeficit_ldg (m t : Nat) (v : Int) : (s.setDeficit m t v).ldg = s.ldg := rfl
@[simp] theorem Dev.setDeficit_ep (m t : Nat) (v : Int) : (s.setDeficit m t v).ep = s.ep := rfl
@[simp] theorem Dev.setDeficit_od (m t : Nat) (v : Int) : (s.setDeficit m t v).od = s.od := rfl
@[simp] theorem Dev.setDeficit_store (m t : Nat) (v : Int) : (s.setDeficit m t v).store = s.store := rfl
@[simp] theorem Dev.setDeficit_shelf (m t : Nat) (v : Int) : (s.setDeficit m t v).shelf = s.shelf := rfl
@[simp] theorem Dev.setDeficit_rdma (m t : Nat) (v : Int) : (s.setDeficit m t v).rdma = s.rdma := rfl
@[simp] theorem Dev.setDeficit_nvme (m t : Nat) (v : Int) : (s.setDeficit m t v).nvme = s.nvme := rfl
@[simp] theorem Dev.setDeficit_dma (m t : Nat) (v : Int) : (s.setDeficit m t v).dma = s.dma := rfl
@[simp] theorem Dev.setDeficit_fld (m t : Nat) (v : Int) (f : Fld) (j : Nat) : (s.setDeficit m t v).fld f j = s.fld f j := rfl
@[simp] theorem Dev.setDeficit_flag (m t : Nat) (v : Int) (f : Fld) (j : Nat) : (s.setDeficit m t v).flag f j = s.flag f j := rfl
@[simp] theorem Dev.setDeficit_ctr (m t : Nat) (v : Int) (e : Ctr) (j : Nat) : (s.setDeficit m t v).ctr e j = s.ctr e j := rfl
@[simp] theorem Dev.setDeficit_nowOn (m t : Nat) (v : Int) (e : Die) : (s.setDeficit m t v).nowOn e = s.nowOn e := rfl
@[simp] theorem Dev.setDeficit_region (m t : Nat) (v : Int) (j : Nat) : (s.setDeficit m t v).region j = s.region j := rfl
@[simp] theorem Dev.setDeficit_isolated (m t : Nat) (v : Int) (j : Nat) : (s.setDeficit m t v).isolated j = s.isolated j := rfl
@[simp] theorem Dev.setDeficit_seam (m t : Nat) (v : Int) (j : Nat) : (s.setDeficit m t v).seam j = s.seam j := rfl
@[simp] theorem Dev.setDeficit_seamUp (m t : Nat) (v : Int) (j : Nat) : (s.setDeficit m t v).seamUp j = s.seamUp j := rfl
@[simp] theorem Dev.setDeficit_rail (m t : Nat) (v : Int) (j : Nat) : (s.setDeficit m t v).rail j = s.rail j := rfl
@[simp] theorem Dev.setDeficit_reachesPlinth (m t : Nat) (v : Int) (e : Die) : (s.setDeficit m t v).reachesPlinth e = s.reachesPlinth e := rfl
@[simp] theorem Dev.setDeficit_now (m t : Nat) (v : Int) : (s.setDeficit m t v).now = s.now := rfl
@[simp] theorem Dev.setDeficit_bond (m t : Nat) (v : Int) (j : Nat) : (s.setDeficit m t v).bond j = s.bond j := rfl
@[simp] theorem Dev.setDeficit_pierOwn (m t : Nat) (v : Int) (j : Nat) : (s.setDeficit m t v).pierOwn j = s.pierOwn j := rfl
@[simp] theorem Dev.setDeficit_chan (m t : Nat) (v : Int) (j : Nat) : (s.setDeficit m t v).chan j = s.chan j := rfl
@[simp] theorem Dev.setDeficit_mac (m t : Nat) (v : Int) (j : Nat) : (s.setDeficit m t v).mac j = s.mac j := rfl
@[simp] theorem Dev.setDeficit_qp (m t : Nat) (v : Int) (j : Nat) : (s.setDeficit m t v).qp j = s.qp j := rfl
@[simp] theorem Dev.setDeficit_window (m t : Nat) (v : Int) (j : Nat) : (s.setDeficit m t v).window j = s.window j := rfl
@[simp] theorem Dev.setDeficit_epFn (m t : Nat) (v : Int) (j : Nat) : (s.setDeficit m t v).epFn j = s.epFn j := rfl
@[simp] theorem Dev.setDeficit_slotPwr (m t : Nat) (v : Int) (j : Nat) : (s.setDeficit m t v).slotPwr j = s.slotPwr j := rfl
@[simp] theorem Dev.setDeficit_port (m t : Nat) (v : Int) (j : Nat) : (s.setDeficit m t v).port j = s.port j := rfl
@[simp] theorem Dev.setDeficit_vol (m t : Nat) (v : Int) (j : Nat) : (s.setDeficit m t v).vol j = s.vol j := rfl
@[simp] theorem Dev.setDeficit_drive (m t : Nat) (v : Int) (j : Nat) : (s.setDeficit m t v).drive j = s.drive j := rfl
@[simp] theorem Dev.setDeficit_pier (m t : Nat) (v : Int) (j : Nat) : (s.setDeficit m t v).pier j = s.pier j := rfl
@[simp] theorem Dev.setDeficit_session (m t : Nat) (v : Int) (j : Nat) : (s.setDeficit m t v).session j = s.session j := rfl
@[simp] theorem Dev.setDeficit_served (m t : Nat) (v : Int) : (s.setDeficit m t v).served = s.served := rfl

@[simp] theorem Dev.setPtp_time (p : Ptp) : (s.setPtp p).time = s.time := rfl
@[simp] theorem Dev.setPtp_timeLoaded (p : Ptp) : (s.setPtp p).timeLoaded = s.timeLoaded := rfl
@[simp] theorem Dev.setPtp_fresh (p : Ptp) : (s.setPtp p).fresh = s.fresh := rfl
@[simp] theorem Dev.setPtp_out (p : Ptp) : (s.setPtp p).out = s.out := rfl
@[simp] theorem Dev.setPtp_raised (p : Ptp) : (s.setPtp p).raised = s.raised := rfl
@[simp] theorem Dev.setPtp_regs (p : Ptp) : (s.setPtp p).regs = s.regs := rfl
@[simp] theorem Dev.setPtp_ctrs (p : Ptp) : (s.setPtp p).ctrs = s.ctrs := rfl
@[simp] theorem Dev.setPtp_marks (p : Ptp) : (s.setPtp p).marks = s.marks := rfl
@[simp] theorem Dev.setPtp_latches (p : Ptp) : (s.setPtp p).latches = s.latches := rfl
@[simp] theorem Dev.setPtp_arch (p : Ptp) : (s.setPtp p).arch = s.arch := rfl
@[simp] theorem Dev.setPtp_mode (p : Ptp) : (s.setPtp p).mode = s.mode := rfl
@[simp] theorem Dev.setPtp_fw (p : Ptp) : (s.setPtp p).fw = s.fw := rfl
@[simp] theorem Dev.setPtp_pkg (p : Ptp) : (s.setPtp p).pkg = s.pkg := rfl
@[simp] theorem Dev.setPtp_evr (p : Ptp) : (s.setPtp p).evr = s.evr := rfl
@[simp] theorem Dev.setPtp_sw (p : Ptp) : (s.setPtp p).sw = s.sw := rfl
@[simp] theorem Dev.setPtp_ten (p : Ptp) : (s.setPtp p).ten = s.ten := rfl
@[simp] theorem Dev.setPtp_own (p : Ptp) : (s.setPtp p).own = s.own := rfl
@[simp] theorem Dev.setPtp_cust (p : Ptp) : (s.setPtp p).cust = s.cust := rfl
@[simp] theorem Dev.setPtp_ldg (p : Ptp) : (s.setPtp p).ldg = s.ldg := rfl
@[simp] theorem Dev.setPtp_ep (p : Ptp) : (s.setPtp p).ep = s.ep := rfl
@[simp] theorem Dev.setPtp_od (p : Ptp) : (s.setPtp p).od = s.od := rfl
@[simp] theorem Dev.setPtp_store (p : Ptp) : (s.setPtp p).store = s.store := rfl
@[simp] theorem Dev.setPtp_shelf (p : Ptp) : (s.setPtp p).shelf = s.shelf := rfl
@[simp] theorem Dev.setPtp_rdma (p : Ptp) : (s.setPtp p).rdma = s.rdma := rfl
@[simp] theorem Dev.setPtp_nvme (p : Ptp) : (s.setPtp p).nvme = s.nvme := rfl
@[simp] theorem Dev.setPtp_dma (p : Ptp) : (s.setPtp p).dma = s.dma := rfl
@[simp] theorem Dev.setPtp_fld (p : Ptp) (f : Fld) (j : Nat) : (s.setPtp p).fld f j = s.fld f j := rfl
@[simp] theorem Dev.setPtp_flag (p : Ptp) (f : Fld) (j : Nat) : (s.setPtp p).flag f j = s.flag f j := rfl
@[simp] theorem Dev.setPtp_ctr (p : Ptp) (e : Ctr) (j : Nat) : (s.setPtp p).ctr e j = s.ctr e j := rfl
@[simp] theorem Dev.setPtp_nowOn (p : Ptp) (e : Die) : (s.setPtp p).nowOn e = s.nowOn e := rfl
@[simp] theorem Dev.setPtp_region (p : Ptp) (j : Nat) : (s.setPtp p).region j = s.region j := rfl
@[simp] theorem Dev.setPtp_isolated (p : Ptp) (j : Nat) : (s.setPtp p).isolated j = s.isolated j := rfl
@[simp] theorem Dev.setPtp_seam (p : Ptp) (j : Nat) : (s.setPtp p).seam j = s.seam j := rfl
@[simp] theorem Dev.setPtp_seamUp (p : Ptp) (j : Nat) : (s.setPtp p).seamUp j = s.seamUp j := rfl
@[simp] theorem Dev.setPtp_rail (p : Ptp) (j : Nat) : (s.setPtp p).rail j = s.rail j := rfl
@[simp] theorem Dev.setPtp_reachesPlinth (p : Ptp) (e : Die) : (s.setPtp p).reachesPlinth e = s.reachesPlinth e := rfl
@[simp] theorem Dev.setPtp_now (p : Ptp) : (s.setPtp p).now = s.now := rfl
@[simp] theorem Dev.setPtp_bond (p : Ptp) (j : Nat) : (s.setPtp p).bond j = s.bond j := rfl
@[simp] theorem Dev.setPtp_pierOwn (p : Ptp) (j : Nat) : (s.setPtp p).pierOwn j = s.pierOwn j := rfl
@[simp] theorem Dev.setPtp_chan (p : Ptp) (j : Nat) : (s.setPtp p).chan j = s.chan j := rfl
@[simp] theorem Dev.setPtp_tn (p : Ptp) (j : Nat) : (s.setPtp p).tn j = s.tn j := rfl
@[simp] theorem Dev.setPtp_qp (p : Ptp) (j : Nat) : (s.setPtp p).qp j = s.qp j := rfl
@[simp] theorem Dev.setPtp_window (p : Ptp) (j : Nat) : (s.setPtp p).window j = s.window j := rfl
@[simp] theorem Dev.setPtp_epFn (p : Ptp) (j : Nat) : (s.setPtp p).epFn j = s.epFn j := rfl
@[simp] theorem Dev.setPtp_slotPwr (p : Ptp) (j : Nat) : (s.setPtp p).slotPwr j = s.slotPwr j := rfl
@[simp] theorem Dev.setPtp_port (p : Ptp) (j : Nat) : (s.setPtp p).port j = s.port j := rfl
@[simp] theorem Dev.setPtp_vol (p : Ptp) (j : Nat) : (s.setPtp p).vol j = s.vol j := rfl
@[simp] theorem Dev.setPtp_drive (p : Ptp) (j : Nat) : (s.setPtp p).drive j = s.drive j := rfl
@[simp] theorem Dev.setPtp_pier (p : Ptp) (j : Nat) : (s.setPtp p).pier j = s.pier j := rfl
@[simp] theorem Dev.setPtp_session (p : Ptp) (j : Nat) : (s.setPtp p).session j = s.session j := rfl
@[simp] theorem Dev.setPtp_served (p : Ptp) : (s.setPtp p).served = s.served := rfl

@[simp] theorem Dev.setMac_time (m : Nat) (x : Mac) : (s.setMac m x).time = s.time := rfl
@[simp] theorem Dev.setMac_timeLoaded (m : Nat) (x : Mac) : (s.setMac m x).timeLoaded = s.timeLoaded := rfl
@[simp] theorem Dev.setMac_fresh (m : Nat) (x : Mac) : (s.setMac m x).fresh = s.fresh := rfl
@[simp] theorem Dev.setMac_out (m : Nat) (x : Mac) : (s.setMac m x).out = s.out := rfl
@[simp] theorem Dev.setMac_raised (m : Nat) (x : Mac) : (s.setMac m x).raised = s.raised := rfl
@[simp] theorem Dev.setMac_regs (m : Nat) (x : Mac) : (s.setMac m x).regs = s.regs := rfl
@[simp] theorem Dev.setMac_ctrs (m : Nat) (x : Mac) : (s.setMac m x).ctrs = s.ctrs := rfl
@[simp] theorem Dev.setMac_marks (m : Nat) (x : Mac) : (s.setMac m x).marks = s.marks := rfl
@[simp] theorem Dev.setMac_latches (m : Nat) (x : Mac) : (s.setMac m x).latches = s.latches := rfl
@[simp] theorem Dev.setMac_arch (m : Nat) (x : Mac) : (s.setMac m x).arch = s.arch := rfl
@[simp] theorem Dev.setMac_mode (m : Nat) (x : Mac) : (s.setMac m x).mode = s.mode := rfl
@[simp] theorem Dev.setMac_fw (m : Nat) (x : Mac) : (s.setMac m x).fw = s.fw := rfl
@[simp] theorem Dev.setMac_pkg (m : Nat) (x : Mac) : (s.setMac m x).pkg = s.pkg := rfl
@[simp] theorem Dev.setMac_evr (m : Nat) (x : Mac) : (s.setMac m x).evr = s.evr := rfl
@[simp] theorem Dev.setMac_sw (m : Nat) (x : Mac) : (s.setMac m x).sw = s.sw := rfl
@[simp] theorem Dev.setMac_ten (m : Nat) (x : Mac) : (s.setMac m x).ten = s.ten := rfl
@[simp] theorem Dev.setMac_own (m : Nat) (x : Mac) : (s.setMac m x).own = s.own := rfl
@[simp] theorem Dev.setMac_cust (m : Nat) (x : Mac) : (s.setMac m x).cust = s.cust := rfl
@[simp] theorem Dev.setMac_ldg (m : Nat) (x : Mac) : (s.setMac m x).ldg = s.ldg := rfl
@[simp] theorem Dev.setMac_ep (m : Nat) (x : Mac) : (s.setMac m x).ep = s.ep := rfl
@[simp] theorem Dev.setMac_od (m : Nat) (x : Mac) : (s.setMac m x).od = s.od := rfl
@[simp] theorem Dev.setMac_store (m : Nat) (x : Mac) : (s.setMac m x).store = s.store := rfl
@[simp] theorem Dev.setMac_shelf (m : Nat) (x : Mac) : (s.setMac m x).shelf = s.shelf := rfl
@[simp] theorem Dev.setMac_rdma (m : Nat) (x : Mac) : (s.setMac m x).rdma = s.rdma := rfl
@[simp] theorem Dev.setMac_nvme (m : Nat) (x : Mac) : (s.setMac m x).nvme = s.nvme := rfl
@[simp] theorem Dev.setMac_dma (m : Nat) (x : Mac) : (s.setMac m x).dma = s.dma := rfl
@[simp] theorem Dev.setMac_fld (m : Nat) (x : Mac) (f : Fld) (j : Nat) : (s.setMac m x).fld f j = s.fld f j := rfl
@[simp] theorem Dev.setMac_flag (m : Nat) (x : Mac) (f : Fld) (j : Nat) : (s.setMac m x).flag f j = s.flag f j := rfl
@[simp] theorem Dev.setMac_ctr (m : Nat) (x : Mac) (e : Ctr) (j : Nat) : (s.setMac m x).ctr e j = s.ctr e j := rfl
@[simp] theorem Dev.setMac_nowOn (m : Nat) (x : Mac) (e : Die) : (s.setMac m x).nowOn e = s.nowOn e := rfl
@[simp] theorem Dev.setMac_region (m : Nat) (x : Mac) (j : Nat) : (s.setMac m x).region j = s.region j := rfl
@[simp] theorem Dev.setMac_isolated (m : Nat) (x : Mac) (j : Nat) : (s.setMac m x).isolated j = s.isolated j := rfl
@[simp] theorem Dev.setMac_seam (m : Nat) (x : Mac) (j : Nat) : (s.setMac m x).seam j = s.seam j := rfl
@[simp] theorem Dev.setMac_seamUp (m : Nat) (x : Mac) (j : Nat) : (s.setMac m x).seamUp j = s.seamUp j := rfl
@[simp] theorem Dev.setMac_rail (m : Nat) (x : Mac) (j : Nat) : (s.setMac m x).rail j = s.rail j := rfl
@[simp] theorem Dev.setMac_reachesPlinth (m : Nat) (x : Mac) (e : Die) : (s.setMac m x).reachesPlinth e = s.reachesPlinth e := rfl
@[simp] theorem Dev.setMac_now (m : Nat) (x : Mac) : (s.setMac m x).now = s.now := rfl
@[simp] theorem Dev.setMac_bond (m : Nat) (x : Mac) (j : Nat) : (s.setMac m x).bond j = s.bond j := rfl
@[simp] theorem Dev.setMac_pierOwn (m : Nat) (x : Mac) (j : Nat) : (s.setMac m x).pierOwn j = s.pierOwn j := rfl
@[simp] theorem Dev.setMac_chan (m : Nat) (x : Mac) (j : Nat) : (s.setMac m x).chan j = s.chan j := rfl
@[simp] theorem Dev.setMac_tn (m : Nat) (x : Mac) (j : Nat) : (s.setMac m x).tn j = s.tn j := rfl
@[simp] theorem Dev.setMac_qp (m : Nat) (x : Mac) (j : Nat) : (s.setMac m x).qp j = s.qp j := rfl
@[simp] theorem Dev.setMac_window (m : Nat) (x : Mac) (j : Nat) : (s.setMac m x).window j = s.window j := rfl
@[simp] theorem Dev.setMac_epFn (m : Nat) (x : Mac) (j : Nat) : (s.setMac m x).epFn j = s.epFn j := rfl
@[simp] theorem Dev.setMac_slotPwr (m : Nat) (x : Mac) (j : Nat) : (s.setMac m x).slotPwr j = s.slotPwr j := rfl
@[simp] theorem Dev.setMac_port (m : Nat) (x : Mac) (j : Nat) : (s.setMac m x).port j = s.port j := rfl
@[simp] theorem Dev.setMac_vol (m : Nat) (x : Mac) (j : Nat) : (s.setMac m x).vol j = s.vol j := rfl
@[simp] theorem Dev.setMac_drive (m : Nat) (x : Mac) (j : Nat) : (s.setMac m x).drive j = s.drive j := rfl
@[simp] theorem Dev.setMac_pier (m : Nat) (x : Mac) (j : Nat) : (s.setMac m x).pier j = s.pier j := rfl
@[simp] theorem Dev.setMac_session (m : Nat) (x : Mac) (j : Nat) : (s.setMac m x).session j = s.session j := rfl
@[simp] theorem Dev.setMac_served (m : Nat) (x : Mac) : (s.setMac m x).served = s.served := rfl

@[simp] theorem Dev.setQp_time (i : Nat) (q : Qp) : (s.setQp i q).time = s.time := rfl
@[simp] theorem Dev.setQp_timeLoaded (i : Nat) (q : Qp) : (s.setQp i q).timeLoaded = s.timeLoaded := rfl
@[simp] theorem Dev.setQp_fresh (i : Nat) (q : Qp) : (s.setQp i q).fresh = s.fresh := rfl
@[simp] theorem Dev.setQp_out (i : Nat) (q : Qp) : (s.setQp i q).out = s.out := rfl
@[simp] theorem Dev.setQp_raised (i : Nat) (q : Qp) : (s.setQp i q).raised = s.raised := rfl
@[simp] theorem Dev.setQp_regs (i : Nat) (q : Qp) : (s.setQp i q).regs = s.regs := rfl
@[simp] theorem Dev.setQp_ctrs (i : Nat) (q : Qp) : (s.setQp i q).ctrs = s.ctrs := rfl
@[simp] theorem Dev.setQp_marks (i : Nat) (q : Qp) : (s.setQp i q).marks = s.marks := rfl
@[simp] theorem Dev.setQp_latches (i : Nat) (q : Qp) : (s.setQp i q).latches = s.latches := rfl
@[simp] theorem Dev.setQp_arch (i : Nat) (q : Qp) : (s.setQp i q).arch = s.arch := rfl
@[simp] theorem Dev.setQp_mode (i : Nat) (q : Qp) : (s.setQp i q).mode = s.mode := rfl
@[simp] theorem Dev.setQp_fw (i : Nat) (q : Qp) : (s.setQp i q).fw = s.fw := rfl
@[simp] theorem Dev.setQp_pkg (i : Nat) (q : Qp) : (s.setQp i q).pkg = s.pkg := rfl
@[simp] theorem Dev.setQp_evr (i : Nat) (q : Qp) : (s.setQp i q).evr = s.evr := rfl
@[simp] theorem Dev.setQp_net (i : Nat) (q : Qp) : (s.setQp i q).net = s.net := rfl
@[simp] theorem Dev.setQp_sw (i : Nat) (q : Qp) : (s.setQp i q).sw = s.sw := rfl
@[simp] theorem Dev.setQp_ten (i : Nat) (q : Qp) : (s.setQp i q).ten = s.ten := rfl
@[simp] theorem Dev.setQp_own (i : Nat) (q : Qp) : (s.setQp i q).own = s.own := rfl
@[simp] theorem Dev.setQp_cust (i : Nat) (q : Qp) : (s.setQp i q).cust = s.cust := rfl
@[simp] theorem Dev.setQp_ldg (i : Nat) (q : Qp) : (s.setQp i q).ldg = s.ldg := rfl
@[simp] theorem Dev.setQp_ep (i : Nat) (q : Qp) : (s.setQp i q).ep = s.ep := rfl
@[simp] theorem Dev.setQp_od (i : Nat) (q : Qp) : (s.setQp i q).od = s.od := rfl
@[simp] theorem Dev.setQp_store (i : Nat) (q : Qp) : (s.setQp i q).store = s.store := rfl
@[simp] theorem Dev.setQp_shelf (i : Nat) (q : Qp) : (s.setQp i q).shelf = s.shelf := rfl
@[simp] theorem Dev.setQp_nvme (i : Nat) (q : Qp) : (s.setQp i q).nvme = s.nvme := rfl
@[simp] theorem Dev.setQp_dma (i : Nat) (q : Qp) : (s.setQp i q).dma = s.dma := rfl
@[simp] theorem Dev.setQp_fld (i : Nat) (q : Qp) (f : Fld) (j : Nat) : (s.setQp i q).fld f j = s.fld f j := rfl
@[simp] theorem Dev.setQp_flag (i : Nat) (q : Qp) (f : Fld) (j : Nat) : (s.setQp i q).flag f j = s.flag f j := rfl
@[simp] theorem Dev.setQp_ctr (i : Nat) (q : Qp) (e : Ctr) (j : Nat) : (s.setQp i q).ctr e j = s.ctr e j := rfl
@[simp] theorem Dev.setQp_nowOn (i : Nat) (q : Qp) (e : Die) : (s.setQp i q).nowOn e = s.nowOn e := rfl
@[simp] theorem Dev.setQp_region (i : Nat) (q : Qp) (j : Nat) : (s.setQp i q).region j = s.region j := rfl
@[simp] theorem Dev.setQp_isolated (i : Nat) (q : Qp) (j : Nat) : (s.setQp i q).isolated j = s.isolated j := rfl
@[simp] theorem Dev.setQp_seam (i : Nat) (q : Qp) (j : Nat) : (s.setQp i q).seam j = s.seam j := rfl
@[simp] theorem Dev.setQp_seamUp (i : Nat) (q : Qp) (j : Nat) : (s.setQp i q).seamUp j = s.seamUp j := rfl
@[simp] theorem Dev.setQp_rail (i : Nat) (q : Qp) (j : Nat) : (s.setQp i q).rail j = s.rail j := rfl
@[simp] theorem Dev.setQp_reachesPlinth (i : Nat) (q : Qp) (e : Die) : (s.setQp i q).reachesPlinth e = s.reachesPlinth e := rfl
@[simp] theorem Dev.setQp_now (i : Nat) (q : Qp) : (s.setQp i q).now = s.now := rfl
@[simp] theorem Dev.setQp_bond (i : Nat) (q : Qp) (j : Nat) : (s.setQp i q).bond j = s.bond j := rfl
@[simp] theorem Dev.setQp_pierOwn (i : Nat) (q : Qp) (j : Nat) : (s.setQp i q).pierOwn j = s.pierOwn j := rfl
@[simp] theorem Dev.setQp_chan (i : Nat) (q : Qp) (j : Nat) : (s.setQp i q).chan j = s.chan j := rfl
@[simp] theorem Dev.setQp_tn (i : Nat) (q : Qp) (j : Nat) : (s.setQp i q).tn j = s.tn j := rfl
@[simp] theorem Dev.setQp_mac (i : Nat) (q : Qp) (j : Nat) : (s.setQp i q).mac j = s.mac j := rfl
@[simp] theorem Dev.setQp_epFn (i : Nat) (q : Qp) (j : Nat) : (s.setQp i q).epFn j = s.epFn j := rfl
@[simp] theorem Dev.setQp_slotPwr (i : Nat) (q : Qp) (j : Nat) : (s.setQp i q).slotPwr j = s.slotPwr j := rfl
@[simp] theorem Dev.setQp_port (i : Nat) (q : Qp) (j : Nat) : (s.setQp i q).port j = s.port j := rfl
@[simp] theorem Dev.setQp_vol (i : Nat) (q : Qp) (j : Nat) : (s.setQp i q).vol j = s.vol j := rfl
@[simp] theorem Dev.setQp_drive (i : Nat) (q : Qp) (j : Nat) : (s.setQp i q).drive j = s.drive j := rfl
@[simp] theorem Dev.setQp_pier (i : Nat) (q : Qp) (j : Nat) : (s.setQp i q).pier j = s.pier j := rfl
@[simp] theorem Dev.setQp_session (i : Nat) (q : Qp) (j : Nat) : (s.setQp i q).session j = s.session j := rfl
@[simp] theorem Dev.setQp_served (i : Nat) (q : Qp) : (s.setQp i q).served = s.served := rfl

@[simp] theorem Dev.setWindow_time (k : Nat) (w : Window) : (s.setWindow k w).time = s.time := rfl
@[simp] theorem Dev.setWindow_timeLoaded (k : Nat) (w : Window) : (s.setWindow k w).timeLoaded = s.timeLoaded := rfl
@[simp] theorem Dev.setWindow_fresh (k : Nat) (w : Window) : (s.setWindow k w).fresh = s.fresh := rfl
@[simp] theorem Dev.setWindow_out (k : Nat) (w : Window) : (s.setWindow k w).out = s.out := rfl
@[simp] theorem Dev.setWindow_raised (k : Nat) (w : Window) : (s.setWindow k w).raised = s.raised := rfl
@[simp] theorem Dev.setWindow_regs (k : Nat) (w : Window) : (s.setWindow k w).regs = s.regs := rfl
@[simp] theorem Dev.setWindow_ctrs (k : Nat) (w : Window) : (s.setWindow k w).ctrs = s.ctrs := rfl
@[simp] theorem Dev.setWindow_marks (k : Nat) (w : Window) : (s.setWindow k w).marks = s.marks := rfl
@[simp] theorem Dev.setWindow_latches (k : Nat) (w : Window) : (s.setWindow k w).latches = s.latches := rfl
@[simp] theorem Dev.setWindow_arch (k : Nat) (w : Window) : (s.setWindow k w).arch = s.arch := rfl
@[simp] theorem Dev.setWindow_mode (k : Nat) (w : Window) : (s.setWindow k w).mode = s.mode := rfl
@[simp] theorem Dev.setWindow_fw (k : Nat) (w : Window) : (s.setWindow k w).fw = s.fw := rfl
@[simp] theorem Dev.setWindow_pkg (k : Nat) (w : Window) : (s.setWindow k w).pkg = s.pkg := rfl
@[simp] theorem Dev.setWindow_evr (k : Nat) (w : Window) : (s.setWindow k w).evr = s.evr := rfl
@[simp] theorem Dev.setWindow_net (k : Nat) (w : Window) : (s.setWindow k w).net = s.net := rfl
@[simp] theorem Dev.setWindow_sw (k : Nat) (w : Window) : (s.setWindow k w).sw = s.sw := rfl
@[simp] theorem Dev.setWindow_ten (k : Nat) (w : Window) : (s.setWindow k w).ten = s.ten := rfl
@[simp] theorem Dev.setWindow_own (k : Nat) (w : Window) : (s.setWindow k w).own = s.own := rfl
@[simp] theorem Dev.setWindow_cust (k : Nat) (w : Window) : (s.setWindow k w).cust = s.cust := rfl
@[simp] theorem Dev.setWindow_ldg (k : Nat) (w : Window) : (s.setWindow k w).ldg = s.ldg := rfl
@[simp] theorem Dev.setWindow_ep (k : Nat) (w : Window) : (s.setWindow k w).ep = s.ep := rfl
@[simp] theorem Dev.setWindow_od (k : Nat) (w : Window) : (s.setWindow k w).od = s.od := rfl
@[simp] theorem Dev.setWindow_store (k : Nat) (w : Window) : (s.setWindow k w).store = s.store := rfl
@[simp] theorem Dev.setWindow_shelf (k : Nat) (w : Window) : (s.setWindow k w).shelf = s.shelf := rfl
@[simp] theorem Dev.setWindow_nvme (k : Nat) (w : Window) : (s.setWindow k w).nvme = s.nvme := rfl
@[simp] theorem Dev.setWindow_dma (k : Nat) (w : Window) : (s.setWindow k w).dma = s.dma := rfl
@[simp] theorem Dev.setWindow_fld (k : Nat) (w : Window) (f : Fld) (j : Nat) : (s.setWindow k w).fld f j = s.fld f j := rfl
@[simp] theorem Dev.setWindow_flag (k : Nat) (w : Window) (f : Fld) (j : Nat) : (s.setWindow k w).flag f j = s.flag f j := rfl
@[simp] theorem Dev.setWindow_ctr (k : Nat) (w : Window) (e : Ctr) (j : Nat) : (s.setWindow k w).ctr e j = s.ctr e j := rfl
@[simp] theorem Dev.setWindow_nowOn (k : Nat) (w : Window) (e : Die) : (s.setWindow k w).nowOn e = s.nowOn e := rfl
@[simp] theorem Dev.setWindow_region (k : Nat) (w : Window) (j : Nat) : (s.setWindow k w).region j = s.region j := rfl
@[simp] theorem Dev.setWindow_isolated (k : Nat) (w : Window) (j : Nat) : (s.setWindow k w).isolated j = s.isolated j := rfl
@[simp] theorem Dev.setWindow_seam (k : Nat) (w : Window) (j : Nat) : (s.setWindow k w).seam j = s.seam j := rfl
@[simp] theorem Dev.setWindow_seamUp (k : Nat) (w : Window) (j : Nat) : (s.setWindow k w).seamUp j = s.seamUp j := rfl
@[simp] theorem Dev.setWindow_rail (k : Nat) (w : Window) (j : Nat) : (s.setWindow k w).rail j = s.rail j := rfl
@[simp] theorem Dev.setWindow_reachesPlinth (k : Nat) (w : Window) (e : Die) : (s.setWindow k w).reachesPlinth e = s.reachesPlinth e := rfl
@[simp] theorem Dev.setWindow_now (k : Nat) (w : Window) : (s.setWindow k w).now = s.now := rfl
@[simp] theorem Dev.setWindow_bond (k : Nat) (w : Window) (j : Nat) : (s.setWindow k w).bond j = s.bond j := rfl
@[simp] theorem Dev.setWindow_pierOwn (k : Nat) (w : Window) (j : Nat) : (s.setWindow k w).pierOwn j = s.pierOwn j := rfl
@[simp] theorem Dev.setWindow_chan (k : Nat) (w : Window) (j : Nat) : (s.setWindow k w).chan j = s.chan j := rfl
@[simp] theorem Dev.setWindow_tn (k : Nat) (w : Window) (j : Nat) : (s.setWindow k w).tn j = s.tn j := rfl
@[simp] theorem Dev.setWindow_mac (k : Nat) (w : Window) (j : Nat) : (s.setWindow k w).mac j = s.mac j := rfl
@[simp] theorem Dev.setWindow_epFn (k : Nat) (w : Window) (j : Nat) : (s.setWindow k w).epFn j = s.epFn j := rfl
@[simp] theorem Dev.setWindow_slotPwr (k : Nat) (w : Window) (j : Nat) : (s.setWindow k w).slotPwr j = s.slotPwr j := rfl
@[simp] theorem Dev.setWindow_port (k : Nat) (w : Window) (j : Nat) : (s.setWindow k w).port j = s.port j := rfl
@[simp] theorem Dev.setWindow_vol (k : Nat) (w : Window) (j : Nat) : (s.setWindow k w).vol j = s.vol j := rfl
@[simp] theorem Dev.setWindow_drive (k : Nat) (w : Window) (j : Nat) : (s.setWindow k w).drive j = s.drive j := rfl
@[simp] theorem Dev.setWindow_pier (k : Nat) (w : Window) (j : Nat) : (s.setWindow k w).pier j = s.pier j := rfl
@[simp] theorem Dev.setWindow_session (k : Nat) (w : Window) (j : Nat) : (s.setWindow k w).session j = s.session j := rfl
@[simp] theorem Dev.setWindow_served (k : Nat) (w : Window) : (s.setWindow k w).served = s.served := rfl

@[simp] theorem Dev.setEpFn_time (n : Nat) (x : EpFn) : (s.setEpFn n x).time = s.time := rfl
@[simp] theorem Dev.setEpFn_timeLoaded (n : Nat) (x : EpFn) : (s.setEpFn n x).timeLoaded = s.timeLoaded := rfl
@[simp] theorem Dev.setEpFn_fresh (n : Nat) (x : EpFn) : (s.setEpFn n x).fresh = s.fresh := rfl
@[simp] theorem Dev.setEpFn_out (n : Nat) (x : EpFn) : (s.setEpFn n x).out = s.out := rfl
@[simp] theorem Dev.setEpFn_raised (n : Nat) (x : EpFn) : (s.setEpFn n x).raised = s.raised := rfl
@[simp] theorem Dev.setEpFn_regs (n : Nat) (x : EpFn) : (s.setEpFn n x).regs = s.regs := rfl
@[simp] theorem Dev.setEpFn_ctrs (n : Nat) (x : EpFn) : (s.setEpFn n x).ctrs = s.ctrs := rfl
@[simp] theorem Dev.setEpFn_marks (n : Nat) (x : EpFn) : (s.setEpFn n x).marks = s.marks := rfl
@[simp] theorem Dev.setEpFn_latches (n : Nat) (x : EpFn) : (s.setEpFn n x).latches = s.latches := rfl
@[simp] theorem Dev.setEpFn_arch (n : Nat) (x : EpFn) : (s.setEpFn n x).arch = s.arch := rfl
@[simp] theorem Dev.setEpFn_mode (n : Nat) (x : EpFn) : (s.setEpFn n x).mode = s.mode := rfl
@[simp] theorem Dev.setEpFn_fw (n : Nat) (x : EpFn) : (s.setEpFn n x).fw = s.fw := rfl
@[simp] theorem Dev.setEpFn_pkg (n : Nat) (x : EpFn) : (s.setEpFn n x).pkg = s.pkg := rfl
@[simp] theorem Dev.setEpFn_evr (n : Nat) (x : EpFn) : (s.setEpFn n x).evr = s.evr := rfl
@[simp] theorem Dev.setEpFn_net (n : Nat) (x : EpFn) : (s.setEpFn n x).net = s.net := rfl
@[simp] theorem Dev.setEpFn_sw (n : Nat) (x : EpFn) : (s.setEpFn n x).sw = s.sw := rfl
@[simp] theorem Dev.setEpFn_ten (n : Nat) (x : EpFn) : (s.setEpFn n x).ten = s.ten := rfl
@[simp] theorem Dev.setEpFn_own (n : Nat) (x : EpFn) : (s.setEpFn n x).own = s.own := rfl
@[simp] theorem Dev.setEpFn_cust (n : Nat) (x : EpFn) : (s.setEpFn n x).cust = s.cust := rfl
@[simp] theorem Dev.setEpFn_ldg (n : Nat) (x : EpFn) : (s.setEpFn n x).ldg = s.ldg := rfl
@[simp] theorem Dev.setEpFn_od (n : Nat) (x : EpFn) : (s.setEpFn n x).od = s.od := rfl
@[simp] theorem Dev.setEpFn_store (n : Nat) (x : EpFn) : (s.setEpFn n x).store = s.store := rfl
@[simp] theorem Dev.setEpFn_shelf (n : Nat) (x : EpFn) : (s.setEpFn n x).shelf = s.shelf := rfl
@[simp] theorem Dev.setEpFn_rdma (n : Nat) (x : EpFn) : (s.setEpFn n x).rdma = s.rdma := rfl
@[simp] theorem Dev.setEpFn_nvme (n : Nat) (x : EpFn) : (s.setEpFn n x).nvme = s.nvme := rfl
@[simp] theorem Dev.setEpFn_dma (n : Nat) (x : EpFn) : (s.setEpFn n x).dma = s.dma := rfl
@[simp] theorem Dev.setEpFn_fld (n : Nat) (x : EpFn) (f : Fld) (j : Nat) : (s.setEpFn n x).fld f j = s.fld f j := rfl
@[simp] theorem Dev.setEpFn_flag (n : Nat) (x : EpFn) (f : Fld) (j : Nat) : (s.setEpFn n x).flag f j = s.flag f j := rfl
@[simp] theorem Dev.setEpFn_ctr (n : Nat) (x : EpFn) (e : Ctr) (j : Nat) : (s.setEpFn n x).ctr e j = s.ctr e j := rfl
@[simp] theorem Dev.setEpFn_nowOn (n : Nat) (x : EpFn) (e : Die) : (s.setEpFn n x).nowOn e = s.nowOn e := rfl
@[simp] theorem Dev.setEpFn_region (n : Nat) (x : EpFn) (j : Nat) : (s.setEpFn n x).region j = s.region j := rfl
@[simp] theorem Dev.setEpFn_isolated (n : Nat) (x : EpFn) (j : Nat) : (s.setEpFn n x).isolated j = s.isolated j := rfl
@[simp] theorem Dev.setEpFn_seam (n : Nat) (x : EpFn) (j : Nat) : (s.setEpFn n x).seam j = s.seam j := rfl
@[simp] theorem Dev.setEpFn_seamUp (n : Nat) (x : EpFn) (j : Nat) : (s.setEpFn n x).seamUp j = s.seamUp j := rfl
@[simp] theorem Dev.setEpFn_rail (n : Nat) (x : EpFn) (j : Nat) : (s.setEpFn n x).rail j = s.rail j := rfl
@[simp] theorem Dev.setEpFn_reachesPlinth (n : Nat) (x : EpFn) (e : Die) : (s.setEpFn n x).reachesPlinth e = s.reachesPlinth e := rfl
@[simp] theorem Dev.setEpFn_now (n : Nat) (x : EpFn) : (s.setEpFn n x).now = s.now := rfl
@[simp] theorem Dev.setEpFn_bond (n : Nat) (x : EpFn) (j : Nat) : (s.setEpFn n x).bond j = s.bond j := rfl
@[simp] theorem Dev.setEpFn_pierOwn (n : Nat) (x : EpFn) (j : Nat) : (s.setEpFn n x).pierOwn j = s.pierOwn j := rfl
@[simp] theorem Dev.setEpFn_chan (n : Nat) (x : EpFn) (j : Nat) : (s.setEpFn n x).chan j = s.chan j := rfl
@[simp] theorem Dev.setEpFn_tn (n : Nat) (x : EpFn) (j : Nat) : (s.setEpFn n x).tn j = s.tn j := rfl
@[simp] theorem Dev.setEpFn_mac (n : Nat) (x : EpFn) (j : Nat) : (s.setEpFn n x).mac j = s.mac j := rfl
@[simp] theorem Dev.setEpFn_qp (n : Nat) (x : EpFn) (j : Nat) : (s.setEpFn n x).qp j = s.qp j := rfl
@[simp] theorem Dev.setEpFn_window (n : Nat) (x : EpFn) (j : Nat) : (s.setEpFn n x).window j = s.window j := rfl
@[simp] theorem Dev.setEpFn_slotPwr (n : Nat) (x : EpFn) (j : Nat) : (s.setEpFn n x).slotPwr j = s.slotPwr j := rfl
@[simp] theorem Dev.setEpFn_port (n : Nat) (x : EpFn) (j : Nat) : (s.setEpFn n x).port j = s.port j := rfl
@[simp] theorem Dev.setEpFn_vol (n : Nat) (x : EpFn) (j : Nat) : (s.setEpFn n x).vol j = s.vol j := rfl
@[simp] theorem Dev.setEpFn_drive (n : Nat) (x : EpFn) (j : Nat) : (s.setEpFn n x).drive j = s.drive j := rfl
@[simp] theorem Dev.setEpFn_pier (n : Nat) (x : EpFn) (j : Nat) : (s.setEpFn n x).pier j = s.pier j := rfl
@[simp] theorem Dev.setEpFn_session (n : Nat) (x : EpFn) (j : Nat) : (s.setEpFn n x).session j = s.session j := rfl
@[simp] theorem Dev.setEpFn_served (n : Nat) (x : EpFn) : (s.setEpFn n x).served = s.served := rfl

@[simp] theorem Dev.setSlotPwr_time (k : Nat) (x : SlotPwr) : (s.setSlotPwr k x).time = s.time := rfl
@[simp] theorem Dev.setSlotPwr_timeLoaded (k : Nat) (x : SlotPwr) : (s.setSlotPwr k x).timeLoaded = s.timeLoaded := rfl
@[simp] theorem Dev.setSlotPwr_fresh (k : Nat) (x : SlotPwr) : (s.setSlotPwr k x).fresh = s.fresh := rfl
@[simp] theorem Dev.setSlotPwr_out (k : Nat) (x : SlotPwr) : (s.setSlotPwr k x).out = s.out := rfl
@[simp] theorem Dev.setSlotPwr_raised (k : Nat) (x : SlotPwr) : (s.setSlotPwr k x).raised = s.raised := rfl
@[simp] theorem Dev.setSlotPwr_regs (k : Nat) (x : SlotPwr) : (s.setSlotPwr k x).regs = s.regs := rfl
@[simp] theorem Dev.setSlotPwr_ctrs (k : Nat) (x : SlotPwr) : (s.setSlotPwr k x).ctrs = s.ctrs := rfl
@[simp] theorem Dev.setSlotPwr_marks (k : Nat) (x : SlotPwr) : (s.setSlotPwr k x).marks = s.marks := rfl
@[simp] theorem Dev.setSlotPwr_latches (k : Nat) (x : SlotPwr) : (s.setSlotPwr k x).latches = s.latches := rfl
@[simp] theorem Dev.setSlotPwr_arch (k : Nat) (x : SlotPwr) : (s.setSlotPwr k x).arch = s.arch := rfl
@[simp] theorem Dev.setSlotPwr_mode (k : Nat) (x : SlotPwr) : (s.setSlotPwr k x).mode = s.mode := rfl
@[simp] theorem Dev.setSlotPwr_fw (k : Nat) (x : SlotPwr) : (s.setSlotPwr k x).fw = s.fw := rfl
@[simp] theorem Dev.setSlotPwr_pkg (k : Nat) (x : SlotPwr) : (s.setSlotPwr k x).pkg = s.pkg := rfl
@[simp] theorem Dev.setSlotPwr_evr (k : Nat) (x : SlotPwr) : (s.setSlotPwr k x).evr = s.evr := rfl
@[simp] theorem Dev.setSlotPwr_net (k : Nat) (x : SlotPwr) : (s.setSlotPwr k x).net = s.net := rfl
@[simp] theorem Dev.setSlotPwr_sw (k : Nat) (x : SlotPwr) : (s.setSlotPwr k x).sw = s.sw := rfl
@[simp] theorem Dev.setSlotPwr_ten (k : Nat) (x : SlotPwr) : (s.setSlotPwr k x).ten = s.ten := rfl
@[simp] theorem Dev.setSlotPwr_own (k : Nat) (x : SlotPwr) : (s.setSlotPwr k x).own = s.own := rfl
@[simp] theorem Dev.setSlotPwr_cust (k : Nat) (x : SlotPwr) : (s.setSlotPwr k x).cust = s.cust := rfl
@[simp] theorem Dev.setSlotPwr_ldg (k : Nat) (x : SlotPwr) : (s.setSlotPwr k x).ldg = s.ldg := rfl
@[simp] theorem Dev.setSlotPwr_ep (k : Nat) (x : SlotPwr) : (s.setSlotPwr k x).ep = s.ep := rfl
@[simp] theorem Dev.setSlotPwr_od (k : Nat) (x : SlotPwr) : (s.setSlotPwr k x).od = s.od := rfl
@[simp] theorem Dev.setSlotPwr_store (k : Nat) (x : SlotPwr) : (s.setSlotPwr k x).store = s.store := rfl
@[simp] theorem Dev.setSlotPwr_rdma (k : Nat) (x : SlotPwr) : (s.setSlotPwr k x).rdma = s.rdma := rfl
@[simp] theorem Dev.setSlotPwr_nvme (k : Nat) (x : SlotPwr) : (s.setSlotPwr k x).nvme = s.nvme := rfl
@[simp] theorem Dev.setSlotPwr_dma (k : Nat) (x : SlotPwr) : (s.setSlotPwr k x).dma = s.dma := rfl
@[simp] theorem Dev.setSlotPwr_fld (k : Nat) (x : SlotPwr) (f : Fld) (j : Nat) : (s.setSlotPwr k x).fld f j = s.fld f j := rfl
@[simp] theorem Dev.setSlotPwr_flag (k : Nat) (x : SlotPwr) (f : Fld) (j : Nat) : (s.setSlotPwr k x).flag f j = s.flag f j := rfl
@[simp] theorem Dev.setSlotPwr_ctr (k : Nat) (x : SlotPwr) (e : Ctr) (j : Nat) : (s.setSlotPwr k x).ctr e j = s.ctr e j := rfl
@[simp] theorem Dev.setSlotPwr_nowOn (k : Nat) (x : SlotPwr) (e : Die) : (s.setSlotPwr k x).nowOn e = s.nowOn e := rfl
@[simp] theorem Dev.setSlotPwr_region (k : Nat) (x : SlotPwr) (j : Nat) : (s.setSlotPwr k x).region j = s.region j := rfl
@[simp] theorem Dev.setSlotPwr_isolated (k : Nat) (x : SlotPwr) (j : Nat) : (s.setSlotPwr k x).isolated j = s.isolated j := rfl
@[simp] theorem Dev.setSlotPwr_seam (k : Nat) (x : SlotPwr) (j : Nat) : (s.setSlotPwr k x).seam j = s.seam j := rfl
@[simp] theorem Dev.setSlotPwr_seamUp (k : Nat) (x : SlotPwr) (j : Nat) : (s.setSlotPwr k x).seamUp j = s.seamUp j := rfl
@[simp] theorem Dev.setSlotPwr_rail (k : Nat) (x : SlotPwr) (j : Nat) : (s.setSlotPwr k x).rail j = s.rail j := rfl
@[simp] theorem Dev.setSlotPwr_reachesPlinth (k : Nat) (x : SlotPwr) (e : Die) : (s.setSlotPwr k x).reachesPlinth e = s.reachesPlinth e := rfl
@[simp] theorem Dev.setSlotPwr_now (k : Nat) (x : SlotPwr) : (s.setSlotPwr k x).now = s.now := rfl
@[simp] theorem Dev.setSlotPwr_bond (k : Nat) (x : SlotPwr) (j : Nat) : (s.setSlotPwr k x).bond j = s.bond j := rfl
@[simp] theorem Dev.setSlotPwr_pierOwn (k : Nat) (x : SlotPwr) (j : Nat) : (s.setSlotPwr k x).pierOwn j = s.pierOwn j := rfl
@[simp] theorem Dev.setSlotPwr_chan (k : Nat) (x : SlotPwr) (j : Nat) : (s.setSlotPwr k x).chan j = s.chan j := rfl
@[simp] theorem Dev.setSlotPwr_tn (k : Nat) (x : SlotPwr) (j : Nat) : (s.setSlotPwr k x).tn j = s.tn j := rfl
@[simp] theorem Dev.setSlotPwr_mac (k : Nat) (x : SlotPwr) (j : Nat) : (s.setSlotPwr k x).mac j = s.mac j := rfl
@[simp] theorem Dev.setSlotPwr_qp (k : Nat) (x : SlotPwr) (j : Nat) : (s.setSlotPwr k x).qp j = s.qp j := rfl
@[simp] theorem Dev.setSlotPwr_window (k : Nat) (x : SlotPwr) (j : Nat) : (s.setSlotPwr k x).window j = s.window j := rfl
@[simp] theorem Dev.setSlotPwr_epFn (k : Nat) (x : SlotPwr) (j : Nat) : (s.setSlotPwr k x).epFn j = s.epFn j := rfl
@[simp] theorem Dev.setSlotPwr_vol (k : Nat) (x : SlotPwr) (j : Nat) : (s.setSlotPwr k x).vol j = s.vol j := rfl
@[simp] theorem Dev.setSlotPwr_drive (k : Nat) (x : SlotPwr) (j : Nat) : (s.setSlotPwr k x).drive j = s.drive j := rfl
@[simp] theorem Dev.setSlotPwr_pier (k : Nat) (x : SlotPwr) (j : Nat) : (s.setSlotPwr k x).pier j = s.pier j := rfl
@[simp] theorem Dev.setSlotPwr_session (k : Nat) (x : SlotPwr) (j : Nat) : (s.setSlotPwr k x).session j = s.session j := rfl
@[simp] theorem Dev.setSlotPwr_served (k : Nat) (x : SlotPwr) : (s.setSlotPwr k x).served = s.served := rfl

@[simp] theorem Dev.setPort_time (n : Nat) (x : RootPort) : (s.setPort n x).time = s.time := rfl
@[simp] theorem Dev.setPort_timeLoaded (n : Nat) (x : RootPort) : (s.setPort n x).timeLoaded = s.timeLoaded := rfl
@[simp] theorem Dev.setPort_fresh (n : Nat) (x : RootPort) : (s.setPort n x).fresh = s.fresh := rfl
@[simp] theorem Dev.setPort_out (n : Nat) (x : RootPort) : (s.setPort n x).out = s.out := rfl
@[simp] theorem Dev.setPort_raised (n : Nat) (x : RootPort) : (s.setPort n x).raised = s.raised := rfl
@[simp] theorem Dev.setPort_regs (n : Nat) (x : RootPort) : (s.setPort n x).regs = s.regs := rfl
@[simp] theorem Dev.setPort_ctrs (n : Nat) (x : RootPort) : (s.setPort n x).ctrs = s.ctrs := rfl
@[simp] theorem Dev.setPort_marks (n : Nat) (x : RootPort) : (s.setPort n x).marks = s.marks := rfl
@[simp] theorem Dev.setPort_latches (n : Nat) (x : RootPort) : (s.setPort n x).latches = s.latches := rfl
@[simp] theorem Dev.setPort_arch (n : Nat) (x : RootPort) : (s.setPort n x).arch = s.arch := rfl
@[simp] theorem Dev.setPort_mode (n : Nat) (x : RootPort) : (s.setPort n x).mode = s.mode := rfl
@[simp] theorem Dev.setPort_fw (n : Nat) (x : RootPort) : (s.setPort n x).fw = s.fw := rfl
@[simp] theorem Dev.setPort_pkg (n : Nat) (x : RootPort) : (s.setPort n x).pkg = s.pkg := rfl
@[simp] theorem Dev.setPort_evr (n : Nat) (x : RootPort) : (s.setPort n x).evr = s.evr := rfl
@[simp] theorem Dev.setPort_net (n : Nat) (x : RootPort) : (s.setPort n x).net = s.net := rfl
@[simp] theorem Dev.setPort_sw (n : Nat) (x : RootPort) : (s.setPort n x).sw = s.sw := rfl
@[simp] theorem Dev.setPort_ten (n : Nat) (x : RootPort) : (s.setPort n x).ten = s.ten := rfl
@[simp] theorem Dev.setPort_own (n : Nat) (x : RootPort) : (s.setPort n x).own = s.own := rfl
@[simp] theorem Dev.setPort_cust (n : Nat) (x : RootPort) : (s.setPort n x).cust = s.cust := rfl
@[simp] theorem Dev.setPort_ldg (n : Nat) (x : RootPort) : (s.setPort n x).ldg = s.ldg := rfl
@[simp] theorem Dev.setPort_ep (n : Nat) (x : RootPort) : (s.setPort n x).ep = s.ep := rfl
@[simp] theorem Dev.setPort_od (n : Nat) (x : RootPort) : (s.setPort n x).od = s.od := rfl
@[simp] theorem Dev.setPort_store (n : Nat) (x : RootPort) : (s.setPort n x).store = s.store := rfl
@[simp] theorem Dev.setPort_rdma (n : Nat) (x : RootPort) : (s.setPort n x).rdma = s.rdma := rfl
@[simp] theorem Dev.setPort_nvme (n : Nat) (x : RootPort) : (s.setPort n x).nvme = s.nvme := rfl
@[simp] theorem Dev.setPort_dma (n : Nat) (x : RootPort) : (s.setPort n x).dma = s.dma := rfl
@[simp] theorem Dev.setPort_fld (n : Nat) (x : RootPort) (f : Fld) (j : Nat) : (s.setPort n x).fld f j = s.fld f j := rfl
@[simp] theorem Dev.setPort_flag (n : Nat) (x : RootPort) (f : Fld) (j : Nat) : (s.setPort n x).flag f j = s.flag f j := rfl
@[simp] theorem Dev.setPort_ctr (n : Nat) (x : RootPort) (e : Ctr) (j : Nat) : (s.setPort n x).ctr e j = s.ctr e j := rfl
@[simp] theorem Dev.setPort_nowOn (n : Nat) (x : RootPort) (e : Die) : (s.setPort n x).nowOn e = s.nowOn e := rfl
@[simp] theorem Dev.setPort_region (n : Nat) (x : RootPort) (j : Nat) : (s.setPort n x).region j = s.region j := rfl
@[simp] theorem Dev.setPort_isolated (n : Nat) (x : RootPort) (j : Nat) : (s.setPort n x).isolated j = s.isolated j := rfl
@[simp] theorem Dev.setPort_seam (n : Nat) (x : RootPort) (j : Nat) : (s.setPort n x).seam j = s.seam j := rfl
@[simp] theorem Dev.setPort_seamUp (n : Nat) (x : RootPort) (j : Nat) : (s.setPort n x).seamUp j = s.seamUp j := rfl
@[simp] theorem Dev.setPort_rail (n : Nat) (x : RootPort) (j : Nat) : (s.setPort n x).rail j = s.rail j := rfl
@[simp] theorem Dev.setPort_reachesPlinth (n : Nat) (x : RootPort) (e : Die) : (s.setPort n x).reachesPlinth e = s.reachesPlinth e := rfl
@[simp] theorem Dev.setPort_now (n : Nat) (x : RootPort) : (s.setPort n x).now = s.now := rfl
@[simp] theorem Dev.setPort_bond (n : Nat) (x : RootPort) (j : Nat) : (s.setPort n x).bond j = s.bond j := rfl
@[simp] theorem Dev.setPort_pierOwn (n : Nat) (x : RootPort) (j : Nat) : (s.setPort n x).pierOwn j = s.pierOwn j := rfl
@[simp] theorem Dev.setPort_chan (n : Nat) (x : RootPort) (j : Nat) : (s.setPort n x).chan j = s.chan j := rfl
@[simp] theorem Dev.setPort_tn (n : Nat) (x : RootPort) (j : Nat) : (s.setPort n x).tn j = s.tn j := rfl
@[simp] theorem Dev.setPort_mac (n : Nat) (x : RootPort) (j : Nat) : (s.setPort n x).mac j = s.mac j := rfl
@[simp] theorem Dev.setPort_qp (n : Nat) (x : RootPort) (j : Nat) : (s.setPort n x).qp j = s.qp j := rfl
@[simp] theorem Dev.setPort_window (n : Nat) (x : RootPort) (j : Nat) : (s.setPort n x).window j = s.window j := rfl
@[simp] theorem Dev.setPort_epFn (n : Nat) (x : RootPort) (j : Nat) : (s.setPort n x).epFn j = s.epFn j := rfl
@[simp] theorem Dev.setPort_vol (n : Nat) (x : RootPort) (j : Nat) : (s.setPort n x).vol j = s.vol j := rfl
@[simp] theorem Dev.setPort_drive (n : Nat) (x : RootPort) (j : Nat) : (s.setPort n x).drive j = s.drive j := rfl
@[simp] theorem Dev.setPort_pier (n : Nat) (x : RootPort) (j : Nat) : (s.setPort n x).pier j = s.pier j := rfl
@[simp] theorem Dev.setPort_session (n : Nat) (x : RootPort) (j : Nat) : (s.setPort n x).session j = s.session j := rfl
@[simp] theorem Dev.setPort_served (n : Nat) (x : RootPort) : (s.setPort n x).served = s.served := rfl

@[simp] theorem Dev.setVol_time (v : Nat) (x : Volume) : (s.setVol v x).time = s.time := rfl
@[simp] theorem Dev.setVol_timeLoaded (v : Nat) (x : Volume) : (s.setVol v x).timeLoaded = s.timeLoaded := rfl
@[simp] theorem Dev.setVol_fresh (v : Nat) (x : Volume) : (s.setVol v x).fresh = s.fresh := rfl
@[simp] theorem Dev.setVol_out (v : Nat) (x : Volume) : (s.setVol v x).out = s.out := rfl
@[simp] theorem Dev.setVol_raised (v : Nat) (x : Volume) : (s.setVol v x).raised = s.raised := rfl
@[simp] theorem Dev.setVol_regs (v : Nat) (x : Volume) : (s.setVol v x).regs = s.regs := rfl
@[simp] theorem Dev.setVol_ctrs (v : Nat) (x : Volume) : (s.setVol v x).ctrs = s.ctrs := rfl
@[simp] theorem Dev.setVol_marks (v : Nat) (x : Volume) : (s.setVol v x).marks = s.marks := rfl
@[simp] theorem Dev.setVol_latches (v : Nat) (x : Volume) : (s.setVol v x).latches = s.latches := rfl
@[simp] theorem Dev.setVol_arch (v : Nat) (x : Volume) : (s.setVol v x).arch = s.arch := rfl
@[simp] theorem Dev.setVol_mode (v : Nat) (x : Volume) : (s.setVol v x).mode = s.mode := rfl
@[simp] theorem Dev.setVol_fw (v : Nat) (x : Volume) : (s.setVol v x).fw = s.fw := rfl
@[simp] theorem Dev.setVol_pkg (v : Nat) (x : Volume) : (s.setVol v x).pkg = s.pkg := rfl
@[simp] theorem Dev.setVol_evr (v : Nat) (x : Volume) : (s.setVol v x).evr = s.evr := rfl
@[simp] theorem Dev.setVol_net (v : Nat) (x : Volume) : (s.setVol v x).net = s.net := rfl
@[simp] theorem Dev.setVol_sw (v : Nat) (x : Volume) : (s.setVol v x).sw = s.sw := rfl
@[simp] theorem Dev.setVol_ten (v : Nat) (x : Volume) : (s.setVol v x).ten = s.ten := rfl
@[simp] theorem Dev.setVol_own (v : Nat) (x : Volume) : (s.setVol v x).own = s.own := rfl
@[simp] theorem Dev.setVol_cust (v : Nat) (x : Volume) : (s.setVol v x).cust = s.cust := rfl
@[simp] theorem Dev.setVol_ldg (v : Nat) (x : Volume) : (s.setVol v x).ldg = s.ldg := rfl
@[simp] theorem Dev.setVol_ep (v : Nat) (x : Volume) : (s.setVol v x).ep = s.ep := rfl
@[simp] theorem Dev.setVol_od (v : Nat) (x : Volume) : (s.setVol v x).od = s.od := rfl
@[simp] theorem Dev.setVol_shelf (v : Nat) (x : Volume) : (s.setVol v x).shelf = s.shelf := rfl
@[simp] theorem Dev.setVol_rdma (v : Nat) (x : Volume) : (s.setVol v x).rdma = s.rdma := rfl
@[simp] theorem Dev.setVol_nvme (v : Nat) (x : Volume) : (s.setVol v x).nvme = s.nvme := rfl
@[simp] theorem Dev.setVol_dma (v : Nat) (x : Volume) : (s.setVol v x).dma = s.dma := rfl
@[simp] theorem Dev.setVol_fld (v : Nat) (x : Volume) (f : Fld) (j : Nat) : (s.setVol v x).fld f j = s.fld f j := rfl
@[simp] theorem Dev.setVol_flag (v : Nat) (x : Volume) (f : Fld) (j : Nat) : (s.setVol v x).flag f j = s.flag f j := rfl
@[simp] theorem Dev.setVol_ctr (v : Nat) (x : Volume) (e : Ctr) (j : Nat) : (s.setVol v x).ctr e j = s.ctr e j := rfl
@[simp] theorem Dev.setVol_nowOn (v : Nat) (x : Volume) (e : Die) : (s.setVol v x).nowOn e = s.nowOn e := rfl
@[simp] theorem Dev.setVol_region (v : Nat) (x : Volume) (j : Nat) : (s.setVol v x).region j = s.region j := rfl
@[simp] theorem Dev.setVol_isolated (v : Nat) (x : Volume) (j : Nat) : (s.setVol v x).isolated j = s.isolated j := rfl
@[simp] theorem Dev.setVol_seam (v : Nat) (x : Volume) (j : Nat) : (s.setVol v x).seam j = s.seam j := rfl
@[simp] theorem Dev.setVol_seamUp (v : Nat) (x : Volume) (j : Nat) : (s.setVol v x).seamUp j = s.seamUp j := rfl
@[simp] theorem Dev.setVol_rail (v : Nat) (x : Volume) (j : Nat) : (s.setVol v x).rail j = s.rail j := rfl
@[simp] theorem Dev.setVol_reachesPlinth (v : Nat) (x : Volume) (e : Die) : (s.setVol v x).reachesPlinth e = s.reachesPlinth e := rfl
@[simp] theorem Dev.setVol_now (v : Nat) (x : Volume) : (s.setVol v x).now = s.now := rfl
@[simp] theorem Dev.setVol_bond (v : Nat) (x : Volume) (j : Nat) : (s.setVol v x).bond j = s.bond j := rfl
@[simp] theorem Dev.setVol_pierOwn (v : Nat) (x : Volume) (j : Nat) : (s.setVol v x).pierOwn j = s.pierOwn j := rfl
@[simp] theorem Dev.setVol_chan (v : Nat) (x : Volume) (j : Nat) : (s.setVol v x).chan j = s.chan j := rfl
@[simp] theorem Dev.setVol_tn (v : Nat) (x : Volume) (j : Nat) : (s.setVol v x).tn j = s.tn j := rfl
@[simp] theorem Dev.setVol_mac (v : Nat) (x : Volume) (j : Nat) : (s.setVol v x).mac j = s.mac j := rfl
@[simp] theorem Dev.setVol_qp (v : Nat) (x : Volume) (j : Nat) : (s.setVol v x).qp j = s.qp j := rfl
@[simp] theorem Dev.setVol_window (v : Nat) (x : Volume) (j : Nat) : (s.setVol v x).window j = s.window j := rfl
@[simp] theorem Dev.setVol_epFn (v : Nat) (x : Volume) (j : Nat) : (s.setVol v x).epFn j = s.epFn j := rfl
@[simp] theorem Dev.setVol_slotPwr (v : Nat) (x : Volume) (j : Nat) : (s.setVol v x).slotPwr j = s.slotPwr j := rfl
@[simp] theorem Dev.setVol_port (v : Nat) (x : Volume) (j : Nat) : (s.setVol v x).port j = s.port j := rfl
@[simp] theorem Dev.setVol_pier (v : Nat) (x : Volume) (j : Nat) : (s.setVol v x).pier j = s.pier j := rfl
@[simp] theorem Dev.setVol_session (v : Nat) (x : Volume) (j : Nat) : (s.setVol v x).session j = s.session j := rfl
@[simp] theorem Dev.setVol_served (v : Nat) (x : Volume) : (s.setVol v x).served = s.served := rfl

@[simp] theorem Dev.setDrive_time (k : Nat) (x : Drive) : (s.setDrive k x).time = s.time := rfl
@[simp] theorem Dev.setDrive_timeLoaded (k : Nat) (x : Drive) : (s.setDrive k x).timeLoaded = s.timeLoaded := rfl
@[simp] theorem Dev.setDrive_fresh (k : Nat) (x : Drive) : (s.setDrive k x).fresh = s.fresh := rfl
@[simp] theorem Dev.setDrive_out (k : Nat) (x : Drive) : (s.setDrive k x).out = s.out := rfl
@[simp] theorem Dev.setDrive_raised (k : Nat) (x : Drive) : (s.setDrive k x).raised = s.raised := rfl
@[simp] theorem Dev.setDrive_regs (k : Nat) (x : Drive) : (s.setDrive k x).regs = s.regs := rfl
@[simp] theorem Dev.setDrive_ctrs (k : Nat) (x : Drive) : (s.setDrive k x).ctrs = s.ctrs := rfl
@[simp] theorem Dev.setDrive_marks (k : Nat) (x : Drive) : (s.setDrive k x).marks = s.marks := rfl
@[simp] theorem Dev.setDrive_latches (k : Nat) (x : Drive) : (s.setDrive k x).latches = s.latches := rfl
@[simp] theorem Dev.setDrive_arch (k : Nat) (x : Drive) : (s.setDrive k x).arch = s.arch := rfl
@[simp] theorem Dev.setDrive_mode (k : Nat) (x : Drive) : (s.setDrive k x).mode = s.mode := rfl
@[simp] theorem Dev.setDrive_fw (k : Nat) (x : Drive) : (s.setDrive k x).fw = s.fw := rfl
@[simp] theorem Dev.setDrive_pkg (k : Nat) (x : Drive) : (s.setDrive k x).pkg = s.pkg := rfl
@[simp] theorem Dev.setDrive_evr (k : Nat) (x : Drive) : (s.setDrive k x).evr = s.evr := rfl
@[simp] theorem Dev.setDrive_net (k : Nat) (x : Drive) : (s.setDrive k x).net = s.net := rfl
@[simp] theorem Dev.setDrive_sw (k : Nat) (x : Drive) : (s.setDrive k x).sw = s.sw := rfl
@[simp] theorem Dev.setDrive_ten (k : Nat) (x : Drive) : (s.setDrive k x).ten = s.ten := rfl
@[simp] theorem Dev.setDrive_own (k : Nat) (x : Drive) : (s.setDrive k x).own = s.own := rfl
@[simp] theorem Dev.setDrive_cust (k : Nat) (x : Drive) : (s.setDrive k x).cust = s.cust := rfl
@[simp] theorem Dev.setDrive_ldg (k : Nat) (x : Drive) : (s.setDrive k x).ldg = s.ldg := rfl
@[simp] theorem Dev.setDrive_ep (k : Nat) (x : Drive) : (s.setDrive k x).ep = s.ep := rfl
@[simp] theorem Dev.setDrive_od (k : Nat) (x : Drive) : (s.setDrive k x).od = s.od := rfl
@[simp] theorem Dev.setDrive_shelf (k : Nat) (x : Drive) : (s.setDrive k x).shelf = s.shelf := rfl
@[simp] theorem Dev.setDrive_rdma (k : Nat) (x : Drive) : (s.setDrive k x).rdma = s.rdma := rfl
@[simp] theorem Dev.setDrive_nvme (k : Nat) (x : Drive) : (s.setDrive k x).nvme = s.nvme := rfl
@[simp] theorem Dev.setDrive_dma (k : Nat) (x : Drive) : (s.setDrive k x).dma = s.dma := rfl
@[simp] theorem Dev.setDrive_fld (k : Nat) (x : Drive) (f : Fld) (j : Nat) : (s.setDrive k x).fld f j = s.fld f j := rfl
@[simp] theorem Dev.setDrive_flag (k : Nat) (x : Drive) (f : Fld) (j : Nat) : (s.setDrive k x).flag f j = s.flag f j := rfl
@[simp] theorem Dev.setDrive_ctr (k : Nat) (x : Drive) (e : Ctr) (j : Nat) : (s.setDrive k x).ctr e j = s.ctr e j := rfl
@[simp] theorem Dev.setDrive_nowOn (k : Nat) (x : Drive) (e : Die) : (s.setDrive k x).nowOn e = s.nowOn e := rfl
@[simp] theorem Dev.setDrive_region (k : Nat) (x : Drive) (j : Nat) : (s.setDrive k x).region j = s.region j := rfl
@[simp] theorem Dev.setDrive_isolated (k : Nat) (x : Drive) (j : Nat) : (s.setDrive k x).isolated j = s.isolated j := rfl
@[simp] theorem Dev.setDrive_seam (k : Nat) (x : Drive) (j : Nat) : (s.setDrive k x).seam j = s.seam j := rfl
@[simp] theorem Dev.setDrive_seamUp (k : Nat) (x : Drive) (j : Nat) : (s.setDrive k x).seamUp j = s.seamUp j := rfl
@[simp] theorem Dev.setDrive_rail (k : Nat) (x : Drive) (j : Nat) : (s.setDrive k x).rail j = s.rail j := rfl
@[simp] theorem Dev.setDrive_reachesPlinth (k : Nat) (x : Drive) (e : Die) : (s.setDrive k x).reachesPlinth e = s.reachesPlinth e := rfl
@[simp] theorem Dev.setDrive_now (k : Nat) (x : Drive) : (s.setDrive k x).now = s.now := rfl
@[simp] theorem Dev.setDrive_bond (k : Nat) (x : Drive) (j : Nat) : (s.setDrive k x).bond j = s.bond j := rfl
@[simp] theorem Dev.setDrive_pierOwn (k : Nat) (x : Drive) (j : Nat) : (s.setDrive k x).pierOwn j = s.pierOwn j := rfl
@[simp] theorem Dev.setDrive_chan (k : Nat) (x : Drive) (j : Nat) : (s.setDrive k x).chan j = s.chan j := rfl
@[simp] theorem Dev.setDrive_tn (k : Nat) (x : Drive) (j : Nat) : (s.setDrive k x).tn j = s.tn j := rfl
@[simp] theorem Dev.setDrive_mac (k : Nat) (x : Drive) (j : Nat) : (s.setDrive k x).mac j = s.mac j := rfl
@[simp] theorem Dev.setDrive_qp (k : Nat) (x : Drive) (j : Nat) : (s.setDrive k x).qp j = s.qp j := rfl
@[simp] theorem Dev.setDrive_window (k : Nat) (x : Drive) (j : Nat) : (s.setDrive k x).window j = s.window j := rfl
@[simp] theorem Dev.setDrive_epFn (k : Nat) (x : Drive) (j : Nat) : (s.setDrive k x).epFn j = s.epFn j := rfl
@[simp] theorem Dev.setDrive_slotPwr (k : Nat) (x : Drive) (j : Nat) : (s.setDrive k x).slotPwr j = s.slotPwr j := rfl
@[simp] theorem Dev.setDrive_port (k : Nat) (x : Drive) (j : Nat) : (s.setDrive k x).port j = s.port j := rfl
@[simp] theorem Dev.setDrive_pier (k : Nat) (x : Drive) (j : Nat) : (s.setDrive k x).pier j = s.pier j := rfl
@[simp] theorem Dev.setDrive_session (k : Nat) (x : Drive) (j : Nat) : (s.setDrive k x).session j = s.session j := rfl
@[simp] theorem Dev.setDrive_served (k : Nat) (x : Drive) : (s.setDrive k x).served = s.served := rfl

@[simp] theorem Dev.setPier_time (p : Nat) (x : PierStore) : (s.setPier p x).time = s.time := rfl
@[simp] theorem Dev.setPier_timeLoaded (p : Nat) (x : PierStore) : (s.setPier p x).timeLoaded = s.timeLoaded := rfl
@[simp] theorem Dev.setPier_fresh (p : Nat) (x : PierStore) : (s.setPier p x).fresh = s.fresh := rfl
@[simp] theorem Dev.setPier_out (p : Nat) (x : PierStore) : (s.setPier p x).out = s.out := rfl
@[simp] theorem Dev.setPier_raised (p : Nat) (x : PierStore) : (s.setPier p x).raised = s.raised := rfl
@[simp] theorem Dev.setPier_regs (p : Nat) (x : PierStore) : (s.setPier p x).regs = s.regs := rfl
@[simp] theorem Dev.setPier_ctrs (p : Nat) (x : PierStore) : (s.setPier p x).ctrs = s.ctrs := rfl
@[simp] theorem Dev.setPier_marks (p : Nat) (x : PierStore) : (s.setPier p x).marks = s.marks := rfl
@[simp] theorem Dev.setPier_latches (p : Nat) (x : PierStore) : (s.setPier p x).latches = s.latches := rfl
@[simp] theorem Dev.setPier_arch (p : Nat) (x : PierStore) : (s.setPier p x).arch = s.arch := rfl
@[simp] theorem Dev.setPier_mode (p : Nat) (x : PierStore) : (s.setPier p x).mode = s.mode := rfl
@[simp] theorem Dev.setPier_fw (p : Nat) (x : PierStore) : (s.setPier p x).fw = s.fw := rfl
@[simp] theorem Dev.setPier_pkg (p : Nat) (x : PierStore) : (s.setPier p x).pkg = s.pkg := rfl
@[simp] theorem Dev.setPier_evr (p : Nat) (x : PierStore) : (s.setPier p x).evr = s.evr := rfl
@[simp] theorem Dev.setPier_net (p : Nat) (x : PierStore) : (s.setPier p x).net = s.net := rfl
@[simp] theorem Dev.setPier_sw (p : Nat) (x : PierStore) : (s.setPier p x).sw = s.sw := rfl
@[simp] theorem Dev.setPier_ten (p : Nat) (x : PierStore) : (s.setPier p x).ten = s.ten := rfl
@[simp] theorem Dev.setPier_own (p : Nat) (x : PierStore) : (s.setPier p x).own = s.own := rfl
@[simp] theorem Dev.setPier_cust (p : Nat) (x : PierStore) : (s.setPier p x).cust = s.cust := rfl
@[simp] theorem Dev.setPier_ep (p : Nat) (x : PierStore) : (s.setPier p x).ep = s.ep := rfl
@[simp] theorem Dev.setPier_od (p : Nat) (x : PierStore) : (s.setPier p x).od = s.od := rfl
@[simp] theorem Dev.setPier_store (p : Nat) (x : PierStore) : (s.setPier p x).store = s.store := rfl
@[simp] theorem Dev.setPier_shelf (p : Nat) (x : PierStore) : (s.setPier p x).shelf = s.shelf := rfl
@[simp] theorem Dev.setPier_rdma (p : Nat) (x : PierStore) : (s.setPier p x).rdma = s.rdma := rfl
@[simp] theorem Dev.setPier_nvme (p : Nat) (x : PierStore) : (s.setPier p x).nvme = s.nvme := rfl
@[simp] theorem Dev.setPier_dma (p : Nat) (x : PierStore) : (s.setPier p x).dma = s.dma := rfl
@[simp] theorem Dev.setPier_fld (p : Nat) (x : PierStore) (f : Fld) (j : Nat) : (s.setPier p x).fld f j = s.fld f j := rfl
@[simp] theorem Dev.setPier_flag (p : Nat) (x : PierStore) (f : Fld) (j : Nat) : (s.setPier p x).flag f j = s.flag f j := rfl
@[simp] theorem Dev.setPier_ctr (p : Nat) (x : PierStore) (e : Ctr) (j : Nat) : (s.setPier p x).ctr e j = s.ctr e j := rfl
@[simp] theorem Dev.setPier_nowOn (p : Nat) (x : PierStore) (e : Die) : (s.setPier p x).nowOn e = s.nowOn e := rfl
@[simp] theorem Dev.setPier_region (p : Nat) (x : PierStore) (j : Nat) : (s.setPier p x).region j = s.region j := rfl
@[simp] theorem Dev.setPier_isolated (p : Nat) (x : PierStore) (j : Nat) : (s.setPier p x).isolated j = s.isolated j := rfl
@[simp] theorem Dev.setPier_seam (p : Nat) (x : PierStore) (j : Nat) : (s.setPier p x).seam j = s.seam j := rfl
@[simp] theorem Dev.setPier_seamUp (p : Nat) (x : PierStore) (j : Nat) : (s.setPier p x).seamUp j = s.seamUp j := rfl
@[simp] theorem Dev.setPier_rail (p : Nat) (x : PierStore) (j : Nat) : (s.setPier p x).rail j = s.rail j := rfl
@[simp] theorem Dev.setPier_reachesPlinth (p : Nat) (x : PierStore) (e : Die) : (s.setPier p x).reachesPlinth e = s.reachesPlinth e := rfl
@[simp] theorem Dev.setPier_now (p : Nat) (x : PierStore) : (s.setPier p x).now = s.now := rfl
@[simp] theorem Dev.setPier_bond (p : Nat) (x : PierStore) (j : Nat) : (s.setPier p x).bond j = s.bond j := rfl
@[simp] theorem Dev.setPier_pierOwn (p : Nat) (x : PierStore) (j : Nat) : (s.setPier p x).pierOwn j = s.pierOwn j := rfl
@[simp] theorem Dev.setPier_chan (p : Nat) (x : PierStore) (j : Nat) : (s.setPier p x).chan j = s.chan j := rfl
@[simp] theorem Dev.setPier_tn (p : Nat) (x : PierStore) (j : Nat) : (s.setPier p x).tn j = s.tn j := rfl
@[simp] theorem Dev.setPier_mac (p : Nat) (x : PierStore) (j : Nat) : (s.setPier p x).mac j = s.mac j := rfl
@[simp] theorem Dev.setPier_qp (p : Nat) (x : PierStore) (j : Nat) : (s.setPier p x).qp j = s.qp j := rfl
@[simp] theorem Dev.setPier_window (p : Nat) (x : PierStore) (j : Nat) : (s.setPier p x).window j = s.window j := rfl
@[simp] theorem Dev.setPier_epFn (p : Nat) (x : PierStore) (j : Nat) : (s.setPier p x).epFn j = s.epFn j := rfl
@[simp] theorem Dev.setPier_slotPwr (p : Nat) (x : PierStore) (j : Nat) : (s.setPier p x).slotPwr j = s.slotPwr j := rfl
@[simp] theorem Dev.setPier_port (p : Nat) (x : PierStore) (j : Nat) : (s.setPier p x).port j = s.port j := rfl
@[simp] theorem Dev.setPier_vol (p : Nat) (x : PierStore) (j : Nat) : (s.setPier p x).vol j = s.vol j := rfl
@[simp] theorem Dev.setPier_drive (p : Nat) (x : PierStore) (j : Nat) : (s.setPier p x).drive j = s.drive j := rfl
@[simp] theorem Dev.setPier_session (p : Nat) (x : PierStore) (j : Nat) : (s.setPier p x).session j = s.session j := rfl
@[simp] theorem Dev.setPier_served (p : Nat) (x : PierStore) : (s.setPier p x).served = s.served := rfl

@[simp] theorem Dev.setKeySlot_time (k i : Nat) (x : KeySlot) : (s.setKeySlot k i x).time = s.time := rfl
@[simp] theorem Dev.setKeySlot_timeLoaded (k i : Nat) (x : KeySlot) : (s.setKeySlot k i x).timeLoaded = s.timeLoaded := rfl
@[simp] theorem Dev.setKeySlot_fresh (k i : Nat) (x : KeySlot) : (s.setKeySlot k i x).fresh = s.fresh := rfl
@[simp] theorem Dev.setKeySlot_out (k i : Nat) (x : KeySlot) : (s.setKeySlot k i x).out = s.out := rfl
@[simp] theorem Dev.setKeySlot_raised (k i : Nat) (x : KeySlot) : (s.setKeySlot k i x).raised = s.raised := rfl
@[simp] theorem Dev.setKeySlot_regs (k i : Nat) (x : KeySlot) : (s.setKeySlot k i x).regs = s.regs := rfl
@[simp] theorem Dev.setKeySlot_ctrs (k i : Nat) (x : KeySlot) : (s.setKeySlot k i x).ctrs = s.ctrs := rfl
@[simp] theorem Dev.setKeySlot_marks (k i : Nat) (x : KeySlot) : (s.setKeySlot k i x).marks = s.marks := rfl
@[simp] theorem Dev.setKeySlot_latches (k i : Nat) (x : KeySlot) : (s.setKeySlot k i x).latches = s.latches := rfl
@[simp] theorem Dev.setKeySlot_arch (k i : Nat) (x : KeySlot) : (s.setKeySlot k i x).arch = s.arch := rfl
@[simp] theorem Dev.setKeySlot_mode (k i : Nat) (x : KeySlot) : (s.setKeySlot k i x).mode = s.mode := rfl
@[simp] theorem Dev.setKeySlot_fw (k i : Nat) (x : KeySlot) : (s.setKeySlot k i x).fw = s.fw := rfl
@[simp] theorem Dev.setKeySlot_pkg (k i : Nat) (x : KeySlot) : (s.setKeySlot k i x).pkg = s.pkg := rfl
@[simp] theorem Dev.setKeySlot_evr (k i : Nat) (x : KeySlot) : (s.setKeySlot k i x).evr = s.evr := rfl
@[simp] theorem Dev.setKeySlot_net (k i : Nat) (x : KeySlot) : (s.setKeySlot k i x).net = s.net := rfl
@[simp] theorem Dev.setKeySlot_sw (k i : Nat) (x : KeySlot) : (s.setKeySlot k i x).sw = s.sw := rfl
@[simp] theorem Dev.setKeySlot_ten (k i : Nat) (x : KeySlot) : (s.setKeySlot k i x).ten = s.ten := rfl
@[simp] theorem Dev.setKeySlot_own (k i : Nat) (x : KeySlot) : (s.setKeySlot k i x).own = s.own := rfl
@[simp] theorem Dev.setKeySlot_ldg (k i : Nat) (x : KeySlot) : (s.setKeySlot k i x).ldg = s.ldg := rfl
@[simp] theorem Dev.setKeySlot_ep (k i : Nat) (x : KeySlot) : (s.setKeySlot k i x).ep = s.ep := rfl
@[simp] theorem Dev.setKeySlot_od (k i : Nat) (x : KeySlot) : (s.setKeySlot k i x).od = s.od := rfl
@[simp] theorem Dev.setKeySlot_store (k i : Nat) (x : KeySlot) : (s.setKeySlot k i x).store = s.store := rfl
@[simp] theorem Dev.setKeySlot_shelf (k i : Nat) (x : KeySlot) : (s.setKeySlot k i x).shelf = s.shelf := rfl
@[simp] theorem Dev.setKeySlot_rdma (k i : Nat) (x : KeySlot) : (s.setKeySlot k i x).rdma = s.rdma := rfl
@[simp] theorem Dev.setKeySlot_nvme (k i : Nat) (x : KeySlot) : (s.setKeySlot k i x).nvme = s.nvme := rfl
@[simp] theorem Dev.setKeySlot_dma (k i : Nat) (x : KeySlot) : (s.setKeySlot k i x).dma = s.dma := rfl
@[simp] theorem Dev.setKeySlot_fld (k i : Nat) (x : KeySlot) (f : Fld) (j : Nat) : (s.setKeySlot k i x).fld f j = s.fld f j := rfl
@[simp] theorem Dev.setKeySlot_flag (k i : Nat) (x : KeySlot) (f : Fld) (j : Nat) : (s.setKeySlot k i x).flag f j = s.flag f j := rfl
@[simp] theorem Dev.setKeySlot_ctr (k i : Nat) (x : KeySlot) (e : Ctr) (j : Nat) : (s.setKeySlot k i x).ctr e j = s.ctr e j := rfl
@[simp] theorem Dev.setKeySlot_nowOn (k i : Nat) (x : KeySlot) (e : Die) : (s.setKeySlot k i x).nowOn e = s.nowOn e := rfl
@[simp] theorem Dev.setKeySlot_region (k i : Nat) (x : KeySlot) (j : Nat) : (s.setKeySlot k i x).region j = s.region j := rfl
@[simp] theorem Dev.setKeySlot_isolated (k i : Nat) (x : KeySlot) (j : Nat) : (s.setKeySlot k i x).isolated j = s.isolated j := rfl
@[simp] theorem Dev.setKeySlot_seam (k i : Nat) (x : KeySlot) (j : Nat) : (s.setKeySlot k i x).seam j = s.seam j := rfl
@[simp] theorem Dev.setKeySlot_seamUp (k i : Nat) (x : KeySlot) (j : Nat) : (s.setKeySlot k i x).seamUp j = s.seamUp j := rfl
@[simp] theorem Dev.setKeySlot_rail (k i : Nat) (x : KeySlot) (j : Nat) : (s.setKeySlot k i x).rail j = s.rail j := rfl
@[simp] theorem Dev.setKeySlot_reachesPlinth (k i : Nat) (x : KeySlot) (e : Die) : (s.setKeySlot k i x).reachesPlinth e = s.reachesPlinth e := rfl
@[simp] theorem Dev.setKeySlot_now (k i : Nat) (x : KeySlot) : (s.setKeySlot k i x).now = s.now := rfl
@[simp] theorem Dev.setKeySlot_bond (k i : Nat) (x : KeySlot) (j : Nat) : (s.setKeySlot k i x).bond j = s.bond j := rfl
@[simp] theorem Dev.setKeySlot_pierOwn (k i : Nat) (x : KeySlot) (j : Nat) : (s.setKeySlot k i x).pierOwn j = s.pierOwn j := rfl
@[simp] theorem Dev.setKeySlot_chan (k i : Nat) (x : KeySlot) (j : Nat) : (s.setKeySlot k i x).chan j = s.chan j := rfl
@[simp] theorem Dev.setKeySlot_tn (k i : Nat) (x : KeySlot) (j : Nat) : (s.setKeySlot k i x).tn j = s.tn j := rfl
@[simp] theorem Dev.setKeySlot_mac (k i : Nat) (x : KeySlot) (j : Nat) : (s.setKeySlot k i x).mac j = s.mac j := rfl
@[simp] theorem Dev.setKeySlot_qp (k i : Nat) (x : KeySlot) (j : Nat) : (s.setKeySlot k i x).qp j = s.qp j := rfl
@[simp] theorem Dev.setKeySlot_window (k i : Nat) (x : KeySlot) (j : Nat) : (s.setKeySlot k i x).window j = s.window j := rfl
@[simp] theorem Dev.setKeySlot_epFn (k i : Nat) (x : KeySlot) (j : Nat) : (s.setKeySlot k i x).epFn j = s.epFn j := rfl
@[simp] theorem Dev.setKeySlot_slotPwr (k i : Nat) (x : KeySlot) (j : Nat) : (s.setKeySlot k i x).slotPwr j = s.slotPwr j := rfl
@[simp] theorem Dev.setKeySlot_port (k i : Nat) (x : KeySlot) (j : Nat) : (s.setKeySlot k i x).port j = s.port j := rfl
@[simp] theorem Dev.setKeySlot_vol (k i : Nat) (x : KeySlot) (j : Nat) : (s.setKeySlot k i x).vol j = s.vol j := rfl
@[simp] theorem Dev.setKeySlot_drive (k i : Nat) (x : KeySlot) (j : Nat) : (s.setKeySlot k i x).drive j = s.drive j := rfl
@[simp] theorem Dev.setKeySlot_pier (k i : Nat) (x : KeySlot) (j : Nat) : (s.setKeySlot k i x).pier j = s.pier j := rfl
@[simp] theorem Dev.setKeySlot_session (k i : Nat) (x : KeySlot) (j : Nat) : (s.setKeySlot k i x).session j = s.session j := rfl
@[simp] theorem Dev.setKeySlot_served (k i : Nat) (x : KeySlot) : (s.setKeySlot k i x).served = s.served := rfl

@[simp] theorem Dev.queueStore_time (x : Storing) : (s.queueStore x).time = s.time := rfl
@[simp] theorem Dev.queueStore_timeLoaded (x : Storing) : (s.queueStore x).timeLoaded = s.timeLoaded := rfl
@[simp] theorem Dev.queueStore_fresh (x : Storing) : (s.queueStore x).fresh = s.fresh := rfl
@[simp] theorem Dev.queueStore_out (x : Storing) : (s.queueStore x).out = s.out := rfl
@[simp] theorem Dev.queueStore_raised (x : Storing) : (s.queueStore x).raised = s.raised := rfl
@[simp] theorem Dev.queueStore_regs (x : Storing) : (s.queueStore x).regs = s.regs := rfl
@[simp] theorem Dev.queueStore_ctrs (x : Storing) : (s.queueStore x).ctrs = s.ctrs := rfl
@[simp] theorem Dev.queueStore_marks (x : Storing) : (s.queueStore x).marks = s.marks := rfl
@[simp] theorem Dev.queueStore_latches (x : Storing) : (s.queueStore x).latches = s.latches := rfl
@[simp] theorem Dev.queueStore_arch (x : Storing) : (s.queueStore x).arch = s.arch := rfl
@[simp] theorem Dev.queueStore_mode (x : Storing) : (s.queueStore x).mode = s.mode := rfl
@[simp] theorem Dev.queueStore_pkg (x : Storing) : (s.queueStore x).pkg = s.pkg := rfl
@[simp] theorem Dev.queueStore_evr (x : Storing) : (s.queueStore x).evr = s.evr := rfl
@[simp] theorem Dev.queueStore_net (x : Storing) : (s.queueStore x).net = s.net := rfl
@[simp] theorem Dev.queueStore_sw (x : Storing) : (s.queueStore x).sw = s.sw := rfl
@[simp] theorem Dev.queueStore_ten (x : Storing) : (s.queueStore x).ten = s.ten := rfl
@[simp] theorem Dev.queueStore_own (x : Storing) : (s.queueStore x).own = s.own := rfl
@[simp] theorem Dev.queueStore_cust (x : Storing) : (s.queueStore x).cust = s.cust := rfl
@[simp] theorem Dev.queueStore_ldg (x : Storing) : (s.queueStore x).ldg = s.ldg := rfl
@[simp] theorem Dev.queueStore_ep (x : Storing) : (s.queueStore x).ep = s.ep := rfl
@[simp] theorem Dev.queueStore_od (x : Storing) : (s.queueStore x).od = s.od := rfl
@[simp] theorem Dev.queueStore_store (x : Storing) : (s.queueStore x).store = s.store := rfl
@[simp] theorem Dev.queueStore_shelf (x : Storing) : (s.queueStore x).shelf = s.shelf := rfl
@[simp] theorem Dev.queueStore_rdma (x : Storing) : (s.queueStore x).rdma = s.rdma := rfl
@[simp] theorem Dev.queueStore_nvme (x : Storing) : (s.queueStore x).nvme = s.nvme := rfl
@[simp] theorem Dev.queueStore_dma (x : Storing) : (s.queueStore x).dma = s.dma := rfl
@[simp] theorem Dev.queueStore_fld (x : Storing) (f : Fld) (j : Nat) : (s.queueStore x).fld f j = s.fld f j := rfl
@[simp] theorem Dev.queueStore_flag (x : Storing) (f : Fld) (j : Nat) : (s.queueStore x).flag f j = s.flag f j := rfl
@[simp] theorem Dev.queueStore_ctr (x : Storing) (e : Ctr) (j : Nat) : (s.queueStore x).ctr e j = s.ctr e j := rfl
@[simp] theorem Dev.queueStore_nowOn (x : Storing) (e : Die) : (s.queueStore x).nowOn e = s.nowOn e := rfl
@[simp] theorem Dev.queueStore_region (x : Storing) (j : Nat) : (s.queueStore x).region j = s.region j := rfl
@[simp] theorem Dev.queueStore_isolated (x : Storing) (j : Nat) : (s.queueStore x).isolated j = s.isolated j := rfl
@[simp] theorem Dev.queueStore_seam (x : Storing) (j : Nat) : (s.queueStore x).seam j = s.seam j := rfl
@[simp] theorem Dev.queueStore_seamUp (x : Storing) (j : Nat) : (s.queueStore x).seamUp j = s.seamUp j := rfl
@[simp] theorem Dev.queueStore_rail (x : Storing) (j : Nat) : (s.queueStore x).rail j = s.rail j := rfl
@[simp] theorem Dev.queueStore_reachesPlinth (x : Storing) (e : Die) : (s.queueStore x).reachesPlinth e = s.reachesPlinth e := rfl
@[simp] theorem Dev.queueStore_now (x : Storing) : (s.queueStore x).now = s.now := rfl
@[simp] theorem Dev.queueStore_bond (x : Storing) (j : Nat) : (s.queueStore x).bond j = s.bond j := rfl
@[simp] theorem Dev.queueStore_pierOwn (x : Storing) (j : Nat) : (s.queueStore x).pierOwn j = s.pierOwn j := rfl
@[simp] theorem Dev.queueStore_chan (x : Storing) (j : Nat) : (s.queueStore x).chan j = s.chan j := rfl
@[simp] theorem Dev.queueStore_tn (x : Storing) (j : Nat) : (s.queueStore x).tn j = s.tn j := rfl
@[simp] theorem Dev.queueStore_mac (x : Storing) (j : Nat) : (s.queueStore x).mac j = s.mac j := rfl
@[simp] theorem Dev.queueStore_qp (x : Storing) (j : Nat) : (s.queueStore x).qp j = s.qp j := rfl
@[simp] theorem Dev.queueStore_window (x : Storing) (j : Nat) : (s.queueStore x).window j = s.window j := rfl
@[simp] theorem Dev.queueStore_epFn (x : Storing) (j : Nat) : (s.queueStore x).epFn j = s.epFn j := rfl
@[simp] theorem Dev.queueStore_slotPwr (x : Storing) (j : Nat) : (s.queueStore x).slotPwr j = s.slotPwr j := rfl
@[simp] theorem Dev.queueStore_port (x : Storing) (j : Nat) : (s.queueStore x).port j = s.port j := rfl
@[simp] theorem Dev.queueStore_vol (x : Storing) (j : Nat) : (s.queueStore x).vol j = s.vol j := rfl
@[simp] theorem Dev.queueStore_drive (x : Storing) (j : Nat) : (s.queueStore x).drive j = s.drive j := rfl
@[simp] theorem Dev.queueStore_pier (x : Storing) (j : Nat) : (s.queueStore x).pier j = s.pier j := rfl
@[simp] theorem Dev.queueStore_session (x : Storing) (j : Nat) : (s.queueStore x).session j = s.session j := rfl
@[simp] theorem Dev.queueStore_served (x : Storing) : (s.queueStore x).served = s.served := rfl

@[simp] theorem Dev.forgetAnswer_time (n : Nat) : (s.forgetAnswer n).time = s.time := rfl
@[simp] theorem Dev.forgetAnswer_timeLoaded (n : Nat) : (s.forgetAnswer n).timeLoaded = s.timeLoaded := rfl
@[simp] theorem Dev.forgetAnswer_fresh (n : Nat) : (s.forgetAnswer n).fresh = s.fresh := rfl
@[simp] theorem Dev.forgetAnswer_out (n : Nat) : (s.forgetAnswer n).out = s.out := rfl
@[simp] theorem Dev.forgetAnswer_raised (n : Nat) : (s.forgetAnswer n).raised = s.raised := rfl
@[simp] theorem Dev.forgetAnswer_regs (n : Nat) : (s.forgetAnswer n).regs = s.regs := rfl
@[simp] theorem Dev.forgetAnswer_ctrs (n : Nat) : (s.forgetAnswer n).ctrs = s.ctrs := rfl
@[simp] theorem Dev.forgetAnswer_marks (n : Nat) : (s.forgetAnswer n).marks = s.marks := rfl
@[simp] theorem Dev.forgetAnswer_latches (n : Nat) : (s.forgetAnswer n).latches = s.latches := rfl
@[simp] theorem Dev.forgetAnswer_arch (n : Nat) : (s.forgetAnswer n).arch = s.arch := rfl
@[simp] theorem Dev.forgetAnswer_mode (n : Nat) : (s.forgetAnswer n).mode = s.mode := rfl
@[simp] theorem Dev.forgetAnswer_pkg (n : Nat) : (s.forgetAnswer n).pkg = s.pkg := rfl
@[simp] theorem Dev.forgetAnswer_evr (n : Nat) : (s.forgetAnswer n).evr = s.evr := rfl
@[simp] theorem Dev.forgetAnswer_net (n : Nat) : (s.forgetAnswer n).net = s.net := rfl
@[simp] theorem Dev.forgetAnswer_sw (n : Nat) : (s.forgetAnswer n).sw = s.sw := rfl
@[simp] theorem Dev.forgetAnswer_ten (n : Nat) : (s.forgetAnswer n).ten = s.ten := rfl
@[simp] theorem Dev.forgetAnswer_own (n : Nat) : (s.forgetAnswer n).own = s.own := rfl
@[simp] theorem Dev.forgetAnswer_cust (n : Nat) : (s.forgetAnswer n).cust = s.cust := rfl
@[simp] theorem Dev.forgetAnswer_ldg (n : Nat) : (s.forgetAnswer n).ldg = s.ldg := rfl
@[simp] theorem Dev.forgetAnswer_ep (n : Nat) : (s.forgetAnswer n).ep = s.ep := rfl
@[simp] theorem Dev.forgetAnswer_od (n : Nat) : (s.forgetAnswer n).od = s.od := rfl
@[simp] theorem Dev.forgetAnswer_store (n : Nat) : (s.forgetAnswer n).store = s.store := rfl
@[simp] theorem Dev.forgetAnswer_shelf (n : Nat) : (s.forgetAnswer n).shelf = s.shelf := rfl
@[simp] theorem Dev.forgetAnswer_rdma (n : Nat) : (s.forgetAnswer n).rdma = s.rdma := rfl
@[simp] theorem Dev.forgetAnswer_nvme (n : Nat) : (s.forgetAnswer n).nvme = s.nvme := rfl
@[simp] theorem Dev.forgetAnswer_dma (n : Nat) : (s.forgetAnswer n).dma = s.dma := rfl
@[simp] theorem Dev.forgetAnswer_fld (n : Nat) (f : Fld) (j : Nat) : (s.forgetAnswer n).fld f j = s.fld f j := rfl
@[simp] theorem Dev.forgetAnswer_flag (n : Nat) (f : Fld) (j : Nat) : (s.forgetAnswer n).flag f j = s.flag f j := rfl
@[simp] theorem Dev.forgetAnswer_ctr (n : Nat) (e : Ctr) (j : Nat) : (s.forgetAnswer n).ctr e j = s.ctr e j := rfl
@[simp] theorem Dev.forgetAnswer_nowOn (n : Nat) (e : Die) : (s.forgetAnswer n).nowOn e = s.nowOn e := rfl
@[simp] theorem Dev.forgetAnswer_region (n : Nat) (j : Nat) : (s.forgetAnswer n).region j = s.region j := rfl
@[simp] theorem Dev.forgetAnswer_isolated (n : Nat) (j : Nat) : (s.forgetAnswer n).isolated j = s.isolated j := rfl
@[simp] theorem Dev.forgetAnswer_seam (n : Nat) (j : Nat) : (s.forgetAnswer n).seam j = s.seam j := rfl
@[simp] theorem Dev.forgetAnswer_seamUp (n : Nat) (j : Nat) : (s.forgetAnswer n).seamUp j = s.seamUp j := rfl
@[simp] theorem Dev.forgetAnswer_rail (n : Nat) (j : Nat) : (s.forgetAnswer n).rail j = s.rail j := rfl
@[simp] theorem Dev.forgetAnswer_reachesPlinth (n : Nat) (e : Die) : (s.forgetAnswer n).reachesPlinth e = s.reachesPlinth e := rfl
@[simp] theorem Dev.forgetAnswer_now (n : Nat) : (s.forgetAnswer n).now = s.now := rfl
@[simp] theorem Dev.forgetAnswer_bond (n : Nat) (j : Nat) : (s.forgetAnswer n).bond j = s.bond j := rfl
@[simp] theorem Dev.forgetAnswer_pierOwn (n : Nat) (j : Nat) : (s.forgetAnswer n).pierOwn j = s.pierOwn j := rfl
@[simp] theorem Dev.forgetAnswer_chan (n : Nat) (j : Nat) : (s.forgetAnswer n).chan j = s.chan j := rfl
@[simp] theorem Dev.forgetAnswer_tn (n : Nat) (j : Nat) : (s.forgetAnswer n).tn j = s.tn j := rfl
@[simp] theorem Dev.forgetAnswer_mac (n : Nat) (j : Nat) : (s.forgetAnswer n).mac j = s.mac j := rfl
@[simp] theorem Dev.forgetAnswer_qp (n : Nat) (j : Nat) : (s.forgetAnswer n).qp j = s.qp j := rfl
@[simp] theorem Dev.forgetAnswer_window (n : Nat) (j : Nat) : (s.forgetAnswer n).window j = s.window j := rfl
@[simp] theorem Dev.forgetAnswer_epFn (n : Nat) (j : Nat) : (s.forgetAnswer n).epFn j = s.epFn j := rfl
@[simp] theorem Dev.forgetAnswer_slotPwr (n : Nat) (j : Nat) : (s.forgetAnswer n).slotPwr j = s.slotPwr j := rfl
@[simp] theorem Dev.forgetAnswer_port (n : Nat) (j : Nat) : (s.forgetAnswer n).port j = s.port j := rfl
@[simp] theorem Dev.forgetAnswer_vol (n : Nat) (j : Nat) : (s.forgetAnswer n).vol j = s.vol j := rfl
@[simp] theorem Dev.forgetAnswer_drive (n : Nat) (j : Nat) : (s.forgetAnswer n).drive j = s.drive j := rfl
@[simp] theorem Dev.forgetAnswer_pier (n : Nat) (j : Nat) : (s.forgetAnswer n).pier j = s.pier j := rfl
@[simp] theorem Dev.forgetAnswer_session (n : Nat) (j : Nat) : (s.forgetAnswer n).session j = s.session j := rfl
@[simp] theorem Dev.forgetAnswer_served (n : Nat) : (s.forgetAnswer n).served = s.served := rfl

@[simp] theorem Dev.dropSeverity_time (v : Nat) : (s.dropSeverity v).time = s.time := rfl
@[simp] theorem Dev.dropSeverity_timeLoaded (v : Nat) : (s.dropSeverity v).timeLoaded = s.timeLoaded := rfl
@[simp] theorem Dev.dropSeverity_fresh (v : Nat) : (s.dropSeverity v).fresh = s.fresh := rfl
@[simp] theorem Dev.dropSeverity_out (v : Nat) : (s.dropSeverity v).out = s.out := rfl
@[simp] theorem Dev.dropSeverity_raised (v : Nat) : (s.dropSeverity v).raised = s.raised := rfl
@[simp] theorem Dev.dropSeverity_regs (v : Nat) : (s.dropSeverity v).regs = s.regs := rfl
@[simp] theorem Dev.dropSeverity_ctrs (v : Nat) : (s.dropSeverity v).ctrs = s.ctrs := rfl
@[simp] theorem Dev.dropSeverity_marks (v : Nat) : (s.dropSeverity v).marks = s.marks := rfl
@[simp] theorem Dev.dropSeverity_latches (v : Nat) : (s.dropSeverity v).latches = s.latches := rfl
@[simp] theorem Dev.dropSeverity_arch (v : Nat) : (s.dropSeverity v).arch = s.arch := rfl
@[simp] theorem Dev.dropSeverity_mode (v : Nat) : (s.dropSeverity v).mode = s.mode := rfl
@[simp] theorem Dev.dropSeverity_fw (v : Nat) : (s.dropSeverity v).fw = s.fw := rfl
@[simp] theorem Dev.dropSeverity_pkg (v : Nat) : (s.dropSeverity v).pkg = s.pkg := rfl
@[simp] theorem Dev.dropSeverity_net (v : Nat) : (s.dropSeverity v).net = s.net := rfl
@[simp] theorem Dev.dropSeverity_sw (v : Nat) : (s.dropSeverity v).sw = s.sw := rfl
@[simp] theorem Dev.dropSeverity_ten (v : Nat) : (s.dropSeverity v).ten = s.ten := rfl
@[simp] theorem Dev.dropSeverity_own (v : Nat) : (s.dropSeverity v).own = s.own := rfl
@[simp] theorem Dev.dropSeverity_cust (v : Nat) : (s.dropSeverity v).cust = s.cust := rfl
@[simp] theorem Dev.dropSeverity_ldg (v : Nat) : (s.dropSeverity v).ldg = s.ldg := rfl
@[simp] theorem Dev.dropSeverity_ep (v : Nat) : (s.dropSeverity v).ep = s.ep := rfl
@[simp] theorem Dev.dropSeverity_od (v : Nat) : (s.dropSeverity v).od = s.od := rfl
@[simp] theorem Dev.dropSeverity_store (v : Nat) : (s.dropSeverity v).store = s.store := rfl
@[simp] theorem Dev.dropSeverity_shelf (v : Nat) : (s.dropSeverity v).shelf = s.shelf := rfl
@[simp] theorem Dev.dropSeverity_rdma (v : Nat) : (s.dropSeverity v).rdma = s.rdma := rfl
@[simp] theorem Dev.dropSeverity_nvme (v : Nat) : (s.dropSeverity v).nvme = s.nvme := rfl
@[simp] theorem Dev.dropSeverity_dma (v : Nat) : (s.dropSeverity v).dma = s.dma := rfl
@[simp] theorem Dev.dropSeverity_fld (v : Nat) (f : Fld) (j : Nat) : (s.dropSeverity v).fld f j = s.fld f j := rfl
@[simp] theorem Dev.dropSeverity_flag (v : Nat) (f : Fld) (j : Nat) : (s.dropSeverity v).flag f j = s.flag f j := rfl
@[simp] theorem Dev.dropSeverity_ctr (v : Nat) (e : Ctr) (j : Nat) : (s.dropSeverity v).ctr e j = s.ctr e j := rfl
@[simp] theorem Dev.dropSeverity_nowOn (v : Nat) (e : Die) : (s.dropSeverity v).nowOn e = s.nowOn e := rfl
@[simp] theorem Dev.dropSeverity_region (v : Nat) (j : Nat) : (s.dropSeverity v).region j = s.region j := rfl
@[simp] theorem Dev.dropSeverity_isolated (v : Nat) (j : Nat) : (s.dropSeverity v).isolated j = s.isolated j := rfl
@[simp] theorem Dev.dropSeverity_seam (v : Nat) (j : Nat) : (s.dropSeverity v).seam j = s.seam j := rfl
@[simp] theorem Dev.dropSeverity_seamUp (v : Nat) (j : Nat) : (s.dropSeverity v).seamUp j = s.seamUp j := rfl
@[simp] theorem Dev.dropSeverity_rail (v : Nat) (j : Nat) : (s.dropSeverity v).rail j = s.rail j := rfl
@[simp] theorem Dev.dropSeverity_reachesPlinth (v : Nat) (e : Die) : (s.dropSeverity v).reachesPlinth e = s.reachesPlinth e := rfl
@[simp] theorem Dev.dropSeverity_now (v : Nat) : (s.dropSeverity v).now = s.now := rfl
@[simp] theorem Dev.dropSeverity_bond (v : Nat) (j : Nat) : (s.dropSeverity v).bond j = s.bond j := rfl
@[simp] theorem Dev.dropSeverity_pierOwn (v : Nat) (j : Nat) : (s.dropSeverity v).pierOwn j = s.pierOwn j := rfl
@[simp] theorem Dev.dropSeverity_chan (v : Nat) (j : Nat) : (s.dropSeverity v).chan j = s.chan j := rfl
@[simp] theorem Dev.dropSeverity_tn (v : Nat) (j : Nat) : (s.dropSeverity v).tn j = s.tn j := rfl
@[simp] theorem Dev.dropSeverity_mac (v : Nat) (j : Nat) : (s.dropSeverity v).mac j = s.mac j := rfl
@[simp] theorem Dev.dropSeverity_qp (v : Nat) (j : Nat) : (s.dropSeverity v).qp j = s.qp j := rfl
@[simp] theorem Dev.dropSeverity_window (v : Nat) (j : Nat) : (s.dropSeverity v).window j = s.window j := rfl
@[simp] theorem Dev.dropSeverity_epFn (v : Nat) (j : Nat) : (s.dropSeverity v).epFn j = s.epFn j := rfl
@[simp] theorem Dev.dropSeverity_slotPwr (v : Nat) (j : Nat) : (s.dropSeverity v).slotPwr j = s.slotPwr j := rfl
@[simp] theorem Dev.dropSeverity_port (v : Nat) (j : Nat) : (s.dropSeverity v).port j = s.port j := rfl
@[simp] theorem Dev.dropSeverity_vol (v : Nat) (j : Nat) : (s.dropSeverity v).vol j = s.vol j := rfl
@[simp] theorem Dev.dropSeverity_drive (v : Nat) (j : Nat) : (s.dropSeverity v).drive j = s.drive j := rfl
@[simp] theorem Dev.dropSeverity_pier (v : Nat) (j : Nat) : (s.dropSeverity v).pier j = s.pier j := rfl
@[simp] theorem Dev.dropSeverity_session (v : Nat) (j : Nat) : (s.dropSeverity v).session j = s.session j := rfl
@[simp] theorem Dev.dropSeverity_served (v : Nat) : (s.dropSeverity v).served = s.served := rfl

@[simp] theorem Dev.region_setRegion_self (k : Nat) (x : Region) : (s.setRegion k x).region k = x := Table.get_put_self ..
theorem Dev.region_setRegion_other (j k : Nat) (x : Region) (h : j ≠ k) : (s.setRegion k x).region j = s.region j := Table.get_put_other _ _ _ h
@[simp] theorem Dev.seam_setSeam_self (k : Nat) (x : Seam) : (s.setSeam k x).seam k = x := Table.get_put_self ..
theorem Dev.seam_setSeam_other (j k : Nat) (x : Seam) (h : j ≠ k) : (s.setSeam k x).seam j = s.seam j := Table.get_put_other _ _ _ h
@[simp] theorem Dev.rail_setRail_self (k : Nat) (x : Rail) : (s.setRail k x).rail k = x := Table.get_put_self ..
theorem Dev.rail_setRail_other (j k : Nat) (x : Rail) (h : j ≠ k) : (s.setRail k x).rail j = s.rail j := Table.get_put_other _ _ _ h
@[simp] theorem Dev.bond_setBond_self (k : Nat) (x : Bond) : (s.setBond k x).bond k = x := Table.get_put_self ..
theorem Dev.bond_setBond_other (j k : Nat) (x : Bond) (h : j ≠ k) : (s.setBond k x).bond j = s.bond j := Table.get_put_other _ _ _ h
@[simp] theorem Dev.pierOwn_setPierOwn_self (k : Nat) (x : PierOwn) : (s.setPierOwn k x).pierOwn k = x := Table.get_put_self ..
theorem Dev.pierOwn_setPierOwn_other (j k : Nat) (x : PierOwn) (h : j ≠ k) : (s.setPierOwn k x).pierOwn j = s.pierOwn j := Table.get_put_other _ _ _ h
@[simp] theorem Dev.chan_setChan_self (k : Nat) (x : Chan) : (s.setChan k x).chan k = x := Table.get_put_self ..
theorem Dev.chan_setChan_other (j k : Nat) (x : Chan) (h : j ≠ k) : (s.setChan k x).chan j = s.chan j := Table.get_put_other _ _ _ h
@[simp] theorem Dev.tn_setTn_self (k : Nat) (x : TnState) : (s.setTn k x).tn k = x := Table.get_put_self ..
theorem Dev.tn_setTn_other (j k : Nat) (x : TnState) (h : j ≠ k) : (s.setTn k x).tn j = s.tn j := Table.get_put_other _ _ _ h
@[simp] theorem Dev.mac_setMac_self (k : Nat) (x : Mac) : (s.setMac k x).mac k = x := Table.get_put_self ..
theorem Dev.mac_setMac_other (j k : Nat) (x : Mac) (h : j ≠ k) : (s.setMac k x).mac j = s.mac j := Table.get_put_other _ _ _ h
@[simp] theorem Dev.qp_setQp_self (k : Nat) (x : Qp) : (s.setQp k x).qp k = x := Table.get_put_self ..
theorem Dev.qp_setQp_other (j k : Nat) (x : Qp) (h : j ≠ k) : (s.setQp k x).qp j = s.qp j := Table.get_put_other _ _ _ h
@[simp] theorem Dev.window_setWindow_self (k : Nat) (x : Window) : (s.setWindow k x).window k = x := Table.get_put_self ..
theorem Dev.window_setWindow_other (j k : Nat) (x : Window) (h : j ≠ k) : (s.setWindow k x).window j = s.window j := Table.get_put_other _ _ _ h
@[simp] theorem Dev.epFn_setEpFn_self (k : Nat) (x : EpFn) : (s.setEpFn k x).epFn k = x := Table.get_put_self ..
theorem Dev.epFn_setEpFn_other (j k : Nat) (x : EpFn) (h : j ≠ k) : (s.setEpFn k x).epFn j = s.epFn j := Table.get_put_other _ _ _ h
@[simp] theorem Dev.slotPwr_setSlotPwr_self (k : Nat) (x : SlotPwr) : (s.setSlotPwr k x).slotPwr k = x := Table.get_put_self ..
theorem Dev.slotPwr_setSlotPwr_other (j k : Nat) (x : SlotPwr) (h : j ≠ k) : (s.setSlotPwr k x).slotPwr j = s.slotPwr j := Table.get_put_other _ _ _ h
@[simp] theorem Dev.port_setPort_self (k : Nat) (x : RootPort) : (s.setPort k x).port k = x := Table.get_put_self ..
theorem Dev.port_setPort_other (j k : Nat) (x : RootPort) (h : j ≠ k) : (s.setPort k x).port j = s.port j := Table.get_put_other _ _ _ h
@[simp] theorem Dev.vol_setVol_self (k : Nat) (x : Volume) : (s.setVol k x).vol k = x := Table.get_put_self ..
theorem Dev.vol_setVol_other (j k : Nat) (x : Volume) (h : j ≠ k) : (s.setVol k x).vol j = s.vol j := Table.get_put_other _ _ _ h
@[simp] theorem Dev.drive_setDrive_self (k : Nat) (x : Drive) : (s.setDrive k x).drive k = x := Table.get_put_self ..
theorem Dev.drive_setDrive_other (j k : Nat) (x : Drive) (h : j ≠ k) : (s.setDrive k x).drive j = s.drive j := Table.get_put_other _ _ _ h
@[simp] theorem Dev.pier_setPier_self (k : Nat) (x : PierStore) : (s.setPier k x).pier k = x := Table.get_put_self ..
theorem Dev.pier_setPier_other (j k : Nat) (x : PierStore) (h : j ≠ k) : (s.setPier k x).pier j = s.pier j := Table.get_put_other _ _ _ h
@[simp] theorem Dev.session_setSession_self (k : Nat) (x : Session) : (s.setSession k x).session k = x := Table.get_put_self ..
theorem Dev.session_setSession_other (j k : Nat) (x : Session) (h : j ≠ k) : (s.setSession k x).session j = s.session j := Table.get_put_other _ _ _ h

@[simp] theorem Dev.quiet_out' : s.quiet.out = [] := rfl
@[simp] theorem Dev.quiet_raised' : s.quiet.raised = [] := rfl
@[simp] theorem Dev.emit_out' (o : Out) : (s.emit o).out = s.out ++ [o] := rfl
@[simp] theorem Dev.event_raised' (d : Die) (id : Nat) (x : List Byte) (c : Nat) :
    (s.event d id x c).raised = s.raised ++ [⟨s.nowOn d, d, id, c, x, !s.timeLoaded⟩] := rfl
theorem Dev.fld_setFld_ne (f g : Fld) (i j v : Nat) (h : g ≠ f) : (s.setFld f i v).fld g j = s.fld g j := Dev.fld_setFld_other s v (.inl h)
theorem Dev.ctr_count_ne (c e : Ctr) (i j n : Nat) (h : e ≠ c) : (s.count c i n).ctr e j = s.ctr e j := Dev.ctr_count_other s n (.inl h)


end Sys2Proof.Machine
end

