-- ==== Sys2Proof/Laws/Frame.lean ====
section
/-!
SUPPORT. Frames: what a command's effect leaves as it was, the settled device leaves as it was too; and the events it raises reach the recorder's queues.
-/
namespace Sys2Proof.Machine

theorem DevPart.same_refl (a : Dev) (p : DevPart) : p.same a a := by cases p <;> rfl

theorem DevPart.same_trans {a b c : Dev} (p : DevPart) (h : p.same a b) (k : p.same b c) : p.same a c := by
  cases p <;> exact Eq.trans k h

namespace Dev.OnlyChanged

variable {ps : List DevPart} {xs : List Fld} {cs : List Ctr} {a b c : Dev}

theorem refl (a : Dev) : Dev.OnlyChanged ps xs cs a a := ⟨fun p _ => p.same_refl a, fun _ _ _ => rfl, fun _ _ _ _ => rfl⟩

theorem trans (h : Dev.OnlyChanged ps xs cs a b) (k : Dev.OnlyChanged ps xs cs b c) : Dev.OnlyChanged ps xs cs a c :=
  ⟨fun p hp => p.same_trans (h.parts p hp) (k.parts p hp), fun x hx i => (k.flds x hx i).trans (h.flds x hx i),
   fun e he hs i => (k.ctrs e he hs i).trans (h.ctrs e he hs i)⟩

/-- A step within named parts, the registers and the counters as they were. -/
theorem ofParts (hp : ∀ p, p ∉ ps → p.same a b) (hr : b.regs = a.regs) (hc : b.ctrs = a.ctrs) : Dev.OnlyChanged ps xs cs a b :=
  ⟨hp, fun _ _ _ => by simp only [Dev.fld, hr], fun _ _ _ _ => by simp only [Dev.ctr, hc]⟩

theorem setFld (y : Fld) (i v : Nat) (h : y ∈ xs) : Dev.OnlyChanged ps xs cs a (a.setFld y i v) :=
  ⟨fun p _ => by cases p <;> rfl, fun _ hx _ => Dev.fld_setFld_other a v (.inl (fun e => hx (e ▸ h))), fun _ _ _ _ => rfl⟩

theorem count (e : Ctr) (i n : Nat) (h : e ∈ cs) : Dev.OnlyChanged ps xs cs a (a.count e i n) :=
  ⟨fun p _ => by cases p <;> rfl, fun _ _ _ => rfl, fun _ hc _ _ => Dev.ctr_count_other a n (.inl (fun he => hc (he ▸ h)))⟩

theorem event (d : Die) (id : Nat) (x : List Byte) (k : Nat) : Dev.OnlyChanged ps xs cs a (a.event d id x k) :=
  ofParts (fun p _ => by cases p <;> rfl) rfl rfl

theorem emit (o : Out) : Dev.OnlyChanged ps xs cs a (a.emit o) := ofParts (fun p _ => by cases p <;> rfl) rfl rfl

theorem quiet : Dev.OnlyChanged ps xs cs a a.quiet := ofParts (fun p _ => by cases p <;> rfl) rfl rfl

/-- A frame that allows fewer changes is one that allows more. -/
theorem mono {ps' : List DevPart} {xs' : List Fld} {cs' : List Ctr} (h : Dev.OnlyChanged ps xs cs a b) (hp : ps ⊆ ps') (hx : xs ⊆ xs') (hc : cs ⊆ cs') :
    Dev.OnlyChanged ps' xs' cs' a b :=
  ⟨fun p n => h.parts p (fun m => n (hp m)), fun x n => h.flds x (fun m => n (hx m)), fun c n => h.ctrs c (fun m => n (hc m))⟩

end Dev.OnlyChanged

variable {s : State} {f : Dev → Dev}

/-- The frame of an effect `f` is the frame of the command, where no seam, region or bond link changed. -/
theorem State.after_onlyChanged {ps : List DevPart} {xs : List Fld} {cs : List Ctr} (h : Dev.OnlyChanged ps xs cs s.dev (f s.dev.quiet))
    (ha : (f s.dev.quiet).arch = s.dev.arch) (ho : (f s.dev.quiet).own = s.dev.own) : Dev.OnlyChanged ps xs cs s.dev (s.after f).dev := by
  have k := s.after_same f
  have m := s.after_samePool f ha ho
  refine ⟨fun p hp => ?_, fun x hx i => (State.after_fld s f x i).trans (h.flds x hx i), fun c hc hs i => (k.ctrs c hs i).trans (h.ctrs c hc hs i)⟩
  have hq := h.parts p hp
  cases p with
  | time => exact k.time.trans hq
  | timeLoaded => exact k.timeLoaded.trans hq
  | fresh => exact k.fresh.trans hq
  | marks => exact k.marks.trans hq
  | latches => exact k.latches.trans hq
  | arch => exact k.arch.trans hq
  | mode => exact k.mode.trans hq
  | fw => exact k.fw.trans hq
  | pkg => exact k.pkg.trans hq
  | own => exact k.own.trans hq
  | ldg => exact k.ldg.trans hq
  | od => exact k.od.trans hq
  | evr => exact k.evr.trans hq
  | cust => exact k.cust.trans hq
  | ep => exact k.ep.trans hq
  | net => exact m.net.trans hq
  | sw => exact m.sw.trans hq
  | ten =>
    refine Eq.trans ?_ hq
    have h1 := k.ten
    have h2 := m.classQ
    simp only [Tenancy.mk.injEq] at h1 ⊢
    simp only [h1, h2, and_self]
  | store => exact k.store.trans hq
  | shelf => exact k.shelf.trans hq
  | rdma => exact k.rdma.trans hq
  | nvme => exact k.nvme.trans hq
  | dma => exact k.dma.trans hq

/-- Where seams, regions or bond links may change, the ports, the pool and the class queues are named among what may change. -/
theorem State.after_onlyChanged' {ps : List DevPart} {xs : List Fld} {cs : List Ctr} (h : Dev.OnlyChanged ps xs cs s.dev (f s.dev.quiet))
    (hn : .net ∈ ps) (hw : .sw ∈ ps) (ht : .ten ∈ ps) : Dev.OnlyChanged ps xs cs s.dev (s.after f).dev := by
  have k := s.after_same f
  refine ⟨fun p hp => ?_, fun x hx i => (State.after_fld s f x i).trans (h.flds x hx i), fun c hc hs i => (k.ctrs c hs i).trans (h.ctrs c hc hs i)⟩
  have hq := h.parts p hp
  cases p with
  | time => exact k.time.trans hq
  | timeLoaded => exact k.timeLoaded.trans hq
  | fresh => exact k.fresh.trans hq
  | marks => exact k.marks.trans hq
  | latches => exact k.latches.trans hq
  | arch => exact k.arch.trans hq
  | mode => exact k.mode.trans hq
  | fw => exact k.fw.trans hq
  | pkg => exact k.pkg.trans hq
  | own => exact k.own.trans hq
  | ldg => exact k.ldg.trans hq
  | od => exact k.od.trans hq
  | evr => exact k.evr.trans hq
  | cust => exact k.cust.trans hq
  | ep => exact k.ep.trans hq
  | net => exact absurd hn hp
  | sw => exact absurd hw hp
  | ten => exact absurd ht hp
  | store => exact k.store.trans hq
  | shelf => exact k.shelf.trans hq
  | rdma => exact k.rdma.trans hq
  | nvme => exact k.nvme.trans hq
  | dma => exact k.dma.trans hq

/-- Pushing appends, die by die. -/
theorem EventQueues.push_append (reach : Die → Bool) (os : List Occ) :
    ∀ q : EventQueues, ∀ d, ∃ new, (EventQueues.push reach q os).1.get d = q.get d ++ new := by
  induction os with
  | nil => exact fun q d => ⟨[], (List.append_nil _).symm⟩
  | cons x os ih =>
    intro q d
    unfold EventQueues.push
    split
    · obtain ⟨new, h⟩ := ih (q.set x.die (q.get x.die ++ [x])) d
      by_cases hd : d = x.die
      · subst hd
        rw [EventQueues.get_set_self] at h
        exact ⟨[x] ++ new, by rw [h, List.append_assoc]⟩
      · rw [EventQueues.get_set_other _ _ _ _ hd] at h
        exact ⟨new, h⟩
    · exact ih q d

/-- An occurrence among the first `n` pushed enters its queue where the die reaches the recorder with room for `n`. -/
theorem EventQueues.push_mem (reach : Die → Bool) (os : List Occ) :
    ∀ (q : EventQueues) (n : Nat) (o : Occ), o ∈ os.take n → (o.die = .pl ∨ (reach o.die = true ∧ (q.get o.die).length + n ≤ eventQueueDepth)) →
      ∃ new, (EventQueues.push reach q os).1.get o.die = q.get o.die ++ new ∧ o ∈ new := by
  induction os with
  | nil => intro q n o h; simp at h
  | cons x os ih =>
    intro q n o h hr
    cases n with
    | zero => simp at h
    | succ n =>
      rw [List.take_succ_cons] at h
      have hx : x.die = o.die → q.accepts reach x = true := by
        intro he
        unfold EventQueues.accepts
        split
        · rfl
        · rcases hr with hr | hr
          · rename_i hn
            exact absurd (he.trans hr) hn
          · rw [he, hr.1, Bool.true_and, decide_eq_true_eq]
            omega
      unfold EventQueues.push
      rcases List.mem_cons.mp h with rfl | h
      · rw [if_pos (hx rfl)]
        obtain ⟨new, hn⟩ := EventQueues.push_append reach os (q.set o.die (q.get o.die ++ [o])) o.die
        rw [EventQueues.get_set_self] at hn
        exact ⟨[o] ++ new, by rw [hn, List.append_assoc], by simp⟩
      · split
        · by_cases hd : o.die = x.die
          · obtain ⟨new, h1, h2⟩ := ih (q.set x.die (q.get x.die ++ [x])) n o h (by
              rw [hd, EventQueues.get_set_self, ← hd]
              rcases hr with hr | hr
              · exact .inl hr
              · exact .inr ⟨hr.1, by rw [List.length_append, List.length_singleton]; omega⟩)
            rw [hd, EventQueues.get_set_self] at h1
            exact ⟨[x] ++ new, by rw [hd, h1, List.append_assoc], List.mem_append_right _ h2⟩
          · obtain ⟨new, h1, h2⟩ := ih (q.set x.die (q.get x.die ++ [x])) n o h (by
              rw [EventQueues.get_set_other _ _ _ _ hd]
              rcases hr with hr | hr
              · exact .inl hr
              · exact .inr ⟨hr.1, by omega⟩)
            rw [EventQueues.get_set_other _ _ _ _ hd] at h1
            exact ⟨new, h1, h2⟩
        · refine ih q n o h ?_
          rcases hr with hr | hr
          · exact .inl hr
          · exact .inr ⟨hr.1, by omega⟩

/-- An event among the first sixteen that an effect raises is told to the recorder where the die is heard. -/
theorem State.after_told {d : Die} {id : Nat} {x : List Byte} {c : Nat}
    (h : (⟨s.dev.nowOn d, d, id, c, x, !s.dev.timeLoaded⟩ : Occ) ∈ (f s.dev.quiet).raised.take 16) (hr : s.hears d) : s.told (s.after f) d id x c := by
  have hp := (Dev.kept_settle (f s.dev.quiet) s.dev).raised
  have h2 := (hp.take 16).subset h
  exact EventQueues.push_mem (fun die => s.dev.reachesPlinth die) _ s.evq 16 _ h2 hr

end Sys2Proof.Machine
end

