-- ==== Sys2Proof/Laws/Memory.lean ====
section
/-!
SUPPORT. The memories of the block: every operation over the bytes of the HBM stacks and of the persistent windows keeps their canonical
form, and what an HBM byte reads as after a write.
-/
namespace Sys2Proof.Machine

/-- The memories of the state after reset are canonical. -/
theorem Memory.wf_reset : Memory.wf Dev.init.dma.hbm = true ∧ Memory.wf Dev.init.rdma.mem = true ∧ Memory.wf Dev.init.rdma.durable = true :=
  ⟨rfl, rfl, rfl⟩

/-- Writing HBM keeps its canonical form. -/
theorem Memory.wf_hbmWrite (s : Dev) (a : Nat) (l : List Byte) (h : Memory.wf s.dma.hbm = true) :
    Memory.wf (s.hbmWrite a l).dma.hbm = true := Table.wf_putAll _ a _ h

/-- Metering touches no memory. -/
theorem Dev.meterCount_rdma (s : Dev) (t : Nat) (f : MeterRec → MeterRec) : (s.meterCount t f).rdma = s.rdma := by
  have h : s.meterRoll.rdma = s.rdma := (Dev.kept_closed.meterRoll s).same.rdma
  unfold Dev.meterCount
  dsimp only
  split
  · exact h
  · exact h

/-- Placing bytes in a window keeps the canonical form of the windows' bytes. -/
theorem Memory.wf_placeBytes_mem (s : Dev) (i slot off : Nat) (l : List Byte) (a : Option Nat) (h : Memory.wf s.rdma.mem = true) :
    Memory.wf (s.placeBytes i slot off l a).rdma.mem = true := by
  unfold Dev.placeBytes Dev.meterWin
  dsimp only
  rw [Dev.meterCount_rdma]
  exact Table.wf_putAll _ _ _ h

/-- Placing bytes in a window leaves the durable bytes as they were (03 R126). -/
theorem Memory.placeBytes_durable (s : Dev) (i slot off : Nat) (l : List Byte) (a : Option Nat) :
    (s.placeBytes i slot off l a).rdma.durable = s.rdma.durable := by
  unfold Dev.placeBytes Dev.meterWin
  dsimp only
  rw [Dev.meterCount_rdma]
  rfl

/-- A fold of byte writes keeps the canonical form. -/
theorem Memory.wf_fold {α : Type} (addr : α → Nat) (val : α → Byte) (l : List α) : ∀ t : Table Byte, Memory.wf t = true →
    Memory.wf (l.foldl (fun t b => Table.put t 0 (addr b) (val b)) t) = true := by
  induction l with
  | nil => exact fun t h => h
  | cons b l ih => exact fun t h => ih _ (Table.wf_put _ h)

/-- Making bytes durable keeps the canonical form of the durable bytes. -/
theorem Memory.wf_makeDurable (s : Dev) (p : WinByte → Bool) (h : Memory.wf s.rdma.durable = true) :
    Memory.wf (s.makeDurable p).rdma.durable = true := Memory.wf_fold WinByte.addr WinByte.value _ _ h

/-- After a loss the windows' bytes are canonical: each undurable byte either keeps its old value or takes the new one (03 R130). -/
theorem Memory.wf_windowsAfterLoss (s : Dev) (h : Memory.wf s.rdma.durable = true) :
    Memory.wf s.windowsAfterLoss.rdma.mem = true ∧ Memory.wf s.windowsAfterLoss.rdma.durable = true := by
  unfold Dev.windowsAfterLoss
  dsimp only
  rw [and_self]
  have fold : ∀ (f : Dev × List (Nat × Bool) → WinByte → Dev × List (Nat × Bool)),
      (∀ a b, Memory.wf a.1.rdma.durable = true → Memory.wf (f a b).1.rdma.durable = true) →
      ∀ (l : List WinByte) (a : Dev × List (Nat × Bool)), Memory.wf a.1.rdma.durable = true →
        Memory.wf (l.foldl f a).1.rdma.durable = true := by
    intro f hf l
    induction l with
    | nil => exact fun _ h => h
    | cons b l ih => exact fun a h => ih _ (hf a b h)
  refine fold _ ?_ s.rdma.placed (s, []) h
  intro a b ha
  dsimp only
  split <;> split
  all_goals first
    | exact Table.wf_put _ ha
    | exact ha
    | (split <;> first | exact Table.wf_put _ ha | exact ha)

/-- A byte outside a run of written bytes reads as before. -/
theorem Memory.get_fold_other (l : List (Byte × Nat)) (base a : Nat) : ∀ t : Table Byte, (∀ e ∈ l, base + e.2 ≠ a) →
    (l.foldl (fun t e => Table.put t 0 (base + e.2) e.1) t).get 0 a = t.get 0 a := by
  induction l with
  | nil => exact fun t _ => rfl
  | cons e l ih =>
    intro t h
    simp only [List.foldl_cons]
    rw [ih _ (fun x hx => h x (List.mem_cons_of_mem _ hx)), Table.get_put_other _ _ _ (Ne.symm (h e (List.mem_cons_self ..)))]

/-- An HBM write leaves every byte outside it as it was. -/
theorem Memory.hbm_other (s : Dev) (base a : Nat) (l : List Byte) (h : a < base ∨ base + l.length ≤ a) :
    (s.hbmWrite base l).dma.hbm.get 0 a = s.dma.hbm.get 0 a := by
  refine Memory.get_fold_other l.zipIdx base a s.dma.hbm ?_
  rintro ⟨x, n⟩ hx
  have := (List.mem_zipIdx hx).2.1
  dsimp only
  omega

end Sys2Proof.Machine
end

