-- ==== Sys2Proof/Tests/Helpers.lean ====
section
/-!
SUPPORT. Small states for the tests.
-/
namespace Sys2Proof.Machine

/-- A state made from a device, with nothing waiting. -/
def Dev.toState (d : Dev) : State := ⟨d, ⟨[], [], [], []⟩, []⟩

/-- The piers and Lintel are up, every seam carries flits, and the device is in COMMISSION. -/
def upDev : Dev :=
  let up : Seam := { up := true, everUp := true }
  { Dev.init with
    mode := { diesUp := true, booted := true }
    arch := { seams := [(0, up), (1, up), (2, up), (3, up), (4, up), (5, up)] } }

/-- As `upDev`, in SERVICE: commissioned, keys in custody, both rings recovered. -/
def serviceDev : Dev :=
  { upDev with
    mode := { upDev.mode with commissioned := true }
    cust := { upDev.cust with ready := true, rngOk := true }
    ldg := { upDev.ldg with recovered := [(0, true), (1, true)] } }

/-- `serviceDev` with queue pair 1024 in RTS for controller 1 of tenant 3, with 8 receive slots, and window 5 of 4 KiB VALID for that tenant. -/
def rdmaDev : Dev :=
  let d := (((serviceDev.setFld .WIN_CFG_TENANT 5 3).setFld .WIN_CFG_LEN 5 1).setFld .WIN_CFG_WRITE 5 1).setFld .WIN_CFG_READ 5 1
  let d := d.setFld .WIN_CFG_ATOMIC 5 1
  (d.setWindow 5 { st := .valid, tag := 9 }).setQp 1024 { st := .rts, tenant := 3, depth := 8, reserve := 8, qid := 1, ctrl := some 1, ePsn := 100, nPsn := 50 }

/-- The device with session 205h, on 10BASE-T1S, at Custodian. -/
def Dev.withCustodian (d : Dev) : Dev := d.setSession 0x205 { level := .custodian }

/-- A packet for queue pair 1024 of `rdmaDev`, in sequence, against window 5. -/
def rdmaPacket (op : Nat) (data : List Byte) : RocePacket :=
  ⟨op, 0x10400, 100, true, 100, 16, 0x9005#32, data.length, 2, 1, 0, 0, data, 0, true⟩

/-- `rdmaDev` with a READ and a WRITE of command 0 not acknowledged. -/
def askDev (out : List WorkReq) (cmd : Cmd) : Dev :=
  let d := rdmaDev.setQp 1024 { rdmaDev.qp 1024 with out := out, initDepth := 4, nPsn := 60, sent := 7, hostLimit := some 9 }
  { d with nvme := { d.nvme with cmds := [cmd], ctrls := [(1, { tenant := 3, aqp := 0 })] } }

/-- A response packet for queue pair 1024. -/
def answerPacket (op psn syn msn : Nat) (data : List Byte := []) : RocePacket :=
  { rdmaPacket op data with psn := psn, syndrome := BitVec.ofNat 8 syn, msn := msn }

/-- `rdmaDev` with controller 1 (tenant 3, host 2) live: queue pair 3 is its admin queue, each queue pair with one capsule in a slot. -/
def nvmeDev : Dev :=
  let d := (rdmaDev.setQp 3 { st := .rts, tenant := 3, depth := 8, reserve := 8, ctrl := some 1, inUse := 1 }).setQp 1024 { rdmaDev.qp 1024 with inUse := 1 }
  { d with nvme := { d.nvme with ctrls := [(1, { tenant := 3, host := 2, aqp := 3, kato := 1000 })], nextCmd := 7 } }

/-- `nvmeDev` with volume 7 of four members OPTIMAL on Pier East and namespace 5 of tenant 3 on it, 100 units of 4 KiB blocks. -/
def volDev : Dev :=
  let d := (((nvmeDev.setFld .VOL_CFG_WIDTH 7 4).setFld .VOL_CFG_STRIP 7 2).setFld .NS_CFG_ACTIVE 4 1).setFld .NS_CFG_TENANT 4 3
  let d := ((d.setFld .NS_CFG_VOLUME 4 7).setFld .NS_CFG_LBAF 4 1).setFld .NS_SIZE_LO_VALUE 4 100
  let d := d.setVol 7 { st := .optimal, level := 2, cap := 2000000, members := (List.range 4).map (fun m => (m, { st := .online, slot := m })) }
  (d.setKeySlot keyMedia 4 { state := .loaded, key := 5 }).setKeySlot keyParity 7 { state := .loaded, key := 6 }

/-- Arguments of an I/O command on namespace 5. -/
def ioArgs (slba nlb len : Nat) : IoArgs := ⟨5, slba, nlb, false, false, 0, 0, 0, 0, 0, 0, 0, if len = 0 then .none else .keyed 0 len 7 false⟩

end Sys2Proof.Machine
end

