-- ==== Sys2Proof/WellFormed.lean ====
section
/-!
DEFINITION. Commands whose operands can be what the manual says they are: addresses of registers, clusters a region has, lengths of blocks, tags and
messages, vectors and session numbers.
-/
namespace Sys2Proof

/-- A control-space register is a word at an aligned address below 0400_0000h (01 R46, R49). -/
def Instr.addressOk : Instr → Bool
  | .registerWrite _ a _ => a.toNat % 4 == 0 && decide (a.toNat < 0x4000000)
  | .lowWordRead _ a => a.toNat % 4 == 0 && decide (a.toNat < 0x4000000)
  | _ => true

/-- Clusters in a region (01 R700). -/
def regionClusters (r : Fin 23) : Nat :=
  [40, 36, 32, 24, 40, 18, 40, 36, 32, 24, 40, 18, 64, 40, 36, 28, 40, 20, 32, 16, 32, 16, 16].getD r.val 0

/-- A cluster that its region has (01 R15, R700). -/
def Instr.clusterOk : Instr → Bool
  | .clusterCompletionTimeout r c _ => decide (c < regionClusters r)
  | .clusterResetComplete r c => decide (c < regionClusters r)
  | _ => true

/-- Blocks fetched from members for a command. -/
def Instr.fetched : Instr → List Fetched
  | .releaseSelfTestEnd _ _ _ _ b => b
  | .passPaceTick _ b => b
  | .passStripeDone _ b => b
  | .reshapeStepBegin _ b => b
  | .scrubRow _ b => b
  | .claimGrant _ b => b
  | .quoinTimeout _ _ b => b
  | .preemptRetry _ b => b
  | .memberAcquireComplete _ _ _ b => b
  | _ => []

/-- A member's unit is 4,096 bytes of data and 64 of metadata (08 R312, R317). -/
def Instr.blocksOk (i : Instr) : Bool :=
  i.fetched.all (fun b => b.stored.length == 4160) &&
  (match i with
  | .memberReadComplete _ .ok stored => stored.length == 4160
  | _ => true)

/-- An object access message holds at most 1,024 bytes of data, and its tag 16 (14 Object access message). -/
def OapMsg.fits (m : OapMsg) : Bool := decide (m.data.length ≤ 1024) && (!m.tagged || m.tag.length == 16)

/-- The lengths of messages and tags (14 Object access message, R550). -/
def Instr.lengthsOk : Instr → Bool
  | .oapRead m => m.fits
  | .oapWrite m => m.fits
  | .oapProve m => m.fits
  | .oapClose m => m.fits
  | .proof _ _ t => t.length == 16
  | _ => true

/-- The session of a dictionary access: a server SDO's, the PF1 window's, or one of 10BASE-T1S (14 Session identities; assumption 8). -/
def sessionNumber (n : Nat) : Bool := (decide (1 ≤ n) && decide (n ≤ 4)) || n == 0x100 || (decide (0x200 ≤ n) && decide (n < 0x208))

/-- The session a command names. -/
def Instr.session : Instr → Option Nat
  | .secretInject n _ _ => some n
  | .secretChange n _ _ _ => some n
  | .objectRead n _ _ => some n
  | .objectWrite n _ _ _ => some n
  | .nonceRead n => some n
  | .proof n _ _ => some n
  | .sessionDrop n => some n
  | .sessionIdleTimeout n => some n
  | .errorFieldClear n _ => some n
  | .restoreDefaults n _ => some n
  | .imageDownload n => some n
  | _ => none

/-- A session that can exist. -/
def Instr.sessionOk (i : Instr) : Bool := (i.session.map sessionNumber).getD true

/-- A command is well-formed. -/
def Instr.wellFormed (i : Instr) : Bool := i.addressOk && i.clusterOk && i.blocksOk && i.lengthsOk && i.sessionOk

end Sys2Proof
end

