-- ==== Sys2Proof/Tests/Slice0.lean ====
section
/-!
SUPPORT. Tests of single commands on small states, and for every statement with hypotheses a state and operands that meet them.
-/
set_option linter.unusedVariables false
set_option Elab.async false

namespace Sys2Proof.Machine

/-- A well-formed command passes every check (01 R46). -/
theorem test_wf_registerWrite : (Instr.registerWrite .pf1 0x200000#32 5#32).wellFormed = true := by decide

/-- The address is not that of a word (01 R46). -/
theorem test_wf_misaligned : (Instr.registerWrite .pf1 0x200002#32 5#32).wellFormed = false := by decide

/-- The address lies outside the control space (01 R46). -/
theorem test_wf_beyond : (Instr.lowWordRead .pf1 0x4000000#32).wellFormed = false := by decide

/-- Region 5, a seam region, has 18 clusters (01 R700). -/
theorem test_wf_cluster : (Instr.clusterResetComplete 5 18).wellFormed = false ∧ (Instr.clusterResetComplete 5 17).wellFormed = true := by decide

/-- A member gives whole units of 4,160 bytes (08 R312). -/
theorem test_wf_block : (Instr.scrubRow 0 [⟨1, 1048576, [0#8]⟩]).wellFormed = false := by decide

/-- A tag has 16 bytes (14 R550). -/
theorem test_wf_tag : (Instr.proof 1 2#8 [0#8]).wellFormed = false := by decide

/-- There is no session 5 (14 Session identities). -/
theorem test_wf_session : (Instr.sessionDrop 5).wellFormed = false ∧ (Instr.sessionDrop 4).wellFormed = true := by decide

/-- A timer of 500 ns armed at tick 1,000,000 has expired at 1,000,501 and not before (00, worked example of R8). -/
theorem test_timer : ({ Dev.init with time := 1000500 } : Dev).expired .pl 1000000 500 = false ∧
    ({ Dev.init with time := 1000501 } : Dev).expired .pl 1000000 500 = true := by decide +kernel

/-- Powers of g (08, table Powers of g used in this chapter). -/
theorem test_powers : gfPow 8 = 0x1D#8 ∧ gfPow 12 = 0xCD#8 ∧ gfPow 19 = 0x5A#8 ∧ gfPow 21 = 0x75#8 := by decide +kernel

/-- The row of the worked example of 08: 20 data strips at byte 0. -/
def exampleRow : List Block := (List.range 20).map (fun j => [if j = 0 then 0x5C#8 else if j = 7 then 1#8 else if j = 12 then 2#8 else if j = 19 then 3#8 else 0#8])

/-- P = 5Ch and Q = B5h (08, worked example). -/
theorem test_row_parity : parityP exampleRow = [0x5C#8] ∧ parityQ exampleRow = [0xB5#8] := by decide +kernel

/-- Strips 7 and 19 lost are recovered (08, worked example). -/
theorem test_row_recovery : recoverData 20 ((wholeRow exampleRow).zipIdx.map (fun e => if e.2 = 7 ∨ e.2 = 19 then none else some e.1)) = some exampleRow := by
  decide +kernel

/-- Volume unit 4_E200h of a volume of 20 + 2 with 16 units a strip: stripe 1,000, P on member 11, Q on 12, strip 0 on 13, strip 9 on 0 (08, worked
example). -/
theorem test_row_place : (⟨22, 16⟩ : Geom).place 0x4E200 = (1000, 0, 0) ∧ (⟨22, 16⟩ : Geom).member 1000 20 = 11 ∧ (⟨22, 16⟩ : Geom).member 1000 21 = 12 ∧
    (⟨22, 16⟩ : Geom).member 1000 0 = 13 ∧ (⟨22, 16⟩ : Geom).member 1000 9 = 0 ∧ (⟨22, 16⟩ : Geom).memberUnit 1000 0 = 0x103E80 := by decide +kernel

/-- The record of one DELTA row with one new block is 12,608 bytes long (09, worked example). -/
theorem test_record_length : recordLength 1 [{ stripe := 1000, row := 0, news := [(12, [], [])], p := [], q := [], kind := .delta }] = 12608 := by decide +kernel

/-- V04 of the worked example of 16: width 9 in slots 05-13, owned by Pier East, with seams 0 and 3 down. -/
def disputeDev : Dev :=
  ((serviceDev.setVol 4 { st := .optimal, members := (List.range 9).map (fun m => (m, { st := .online, slot := 5 + m })) }).setSeam 0 {}).setSeam 3 {}

/-- Pier East holds 7 of 9 members and keeps V04; Pier West, with slots 12 and 13, does not win it (16, worked example). -/
theorem test_dispute : disputeDev.winsDispute 0 0xFFFFFF#24 4 = true ∧ disputeDev.winsDispute 1 0xFFFFFF#24 4 = false := by decide +kernel

/-- The front command takes effect and leaves the queue. -/
theorem test_step : (match step { State.reset with pending := [.powerLoss true, .hotClear] } with
    | .next t => decide (t.pending = [.hotClear]) && !t.dev.mode.standby
    | _ => false) = true := by decide +kernel


theorem test_wit_StepRunsFrontCommand : ({ State.reset with pending := [.governorPass, .hotClear] } : State).pending = .governorPass :: [.hotClear] := by decide

theorem test_wit_IdleStepAdvancesTime : State.reset.pending = [] := by decide

theorem test_wit_EveryStepKeepsEventQueues : State.reset.evq.ok := by intro d; cases d <;> simp [State.reset, EventQueues.get]

theorem test_wit_EveryStepKeepsMemoryCanonical : ∃ s : State, Memory.wf s.dev.dma.hbm = true ∧ Memory.wf s.dev.rdma.mem = true ∧ Memory.wf s.dev.rdma.durable = true ∧ s.dev.dma.hbm ≠ [] :=
  ⟨{ State.reset with dev := Dev.init.hbmWrite 7 [0#8, 5#8, 1#8] }, by decide +kernel⟩

theorem test_wit_AccessErrors_1 : ∃ (s : State) (req : Requester) (addr : BitVec 32) (write : Bool), s.dev.served = true :=
  ⟨upDev.toState, .pf1, 0x1ABC#32, false, by decide +kernel⟩

theorem test_wit_AccessErrors_2 : ∃ (s : State) (req : Requester) (addr : BitVec 32) (write : Bool), s.dev.served = true ∧ s.dev.blockIsolated addr.toNat = true :=
  ⟨(upDev.setRegion 14 { isolated := true }).toState, .cp 2, 0x800000#32, false, by decide +kernel⟩

theorem test_wit_AccessErrors_3 : ∃ (s : State) (req : Requester) (addr : BitVec 32) (write : Bool), s.dev.served = true :=
  ⟨upDev.toState, .pf1, 0x11#32, true, by decide +kernel⟩

theorem test_wit_RegisterAccess_1 : ∃ (s : State) (req : Requester) (v : Word), s.dev.served = true ∧ s.dev.isolated 14 = false :=
  ⟨upDev.toState, .pf1, 0x12345678#32, by decide +kernel⟩

theorem test_wit_RegisterAccess_1a : ∃ (s : State) (req : Requester) (v : Word), s.dev.served = true ∧ s.dev.isolated 14 = false :=
  ⟨upDev.toState, .pf1, 0x78#32, by decide +kernel⟩

theorem test_wit_RegisterAccess_2 : ∃ (s : State) (req : Requester) (v : Word), s.dev.served = true ∧ s.dev.isolated 14 = true :=
  ⟨(upDev.setRegion 14 { isolated := true }).toState, .pf1, 0x12345678#32, by decide +kernel⟩

theorem test_wit_RegisterAccess_3 : ∃ (s : State) (req : Requester) (v : Word), s.dev.served = true :=
  ⟨((upDev.setFld .GLB_ERR_CS_UNMAPPED 0 1).setFld .GLB_ERR_CS_ISOLATED 0 1).toState, .pf1, 1#32, by decide +kernel⟩

theorem test_wit_RegisterAccess_4 : ∃ (s : State) (req : Requester) (v : Word), s.dev.served = true :=
  ⟨upDev.toState, .pf1, 1#32, by decide +kernel⟩

theorem test_wit_RegisterAccess_5 : ∃ (s : State) (req : Requester), s.dev.served = true :=
  ⟨({ upDev with time := 0x123456789ABCDEF#64 } : Dev).toState, .cp 3, by decide +kernel⟩

theorem test_wit_RegisterAccess_6 : ∃ (s : State) (req : Requester) (hi : Nat), s.dev.served = true ∧ s.dev.latches.find (latchKey (requesterKey req + 1) 0x14) = some (some hi) :=
  ⟨({ upDev with latches := [(latchKey 5 0x14, some 7)] } : Dev).toState, .cp 3, 7, by decide +kernel⟩

theorem test_wit_ClusterResets_1 : ∃ (s : State) (region : Fin 23) (cluster : Nat) (channels : List (Fin 128)), s.dev.mode.diesUp = true ∧ cluster < clustersOf region.val ∧ s.dev.isolated region.val = false ∧ cluster ∉ (s.dev.region region.val).inReset :=
  ⟨upDev.toState, 13, 5, [], by decide +kernel⟩

theorem test_wit_ClusterResets_1a : ∃ (s : State) (region : Fin 23) (cluster : Nat) (channels : List (Fin 128)), s.dev.mode.diesUp = true ∧ cluster < clustersOf region.val ∧ s.dev.isolated region.val = false ∧ cluster ∉ (s.dev.region region.val).inReset :=
  ⟨({ upDev.setRegion 13 { recent := [(5, 100), (5, 200)] } with time := 1000 } : Dev).toState, 13, 5, [], by decide +kernel⟩

theorem test_wit_ClusterResets_1b : ∃ (s : State) (region : Fin 23) (cluster : Nat) (channels : List (Fin 128)), s.dev.mode.diesUp = true ∧ cluster < clustersOf region.val ∧ s.dev.isolated region.val = false ∧ cluster ∉ (s.dev.region region.val).inReset :=
  ⟨({ upDev.setRegion 4 { recent := [(5, 100), (5, 200)] } with time := 1000 } : Dev).toState, 4, 5, [3], by decide +kernel⟩

theorem test_wit_ClusterResets_3 : ∃ (s : State) (req : Requester) (region : Fin 32) (cluster : Fin 256) (channels : List (Fin 128)), s.dev.served = true ∧ s.dev.arch.clusterGo = none ∧ region.val < 19 ∧ cluster.val < clustersOf region.val ∧ s.dev.isolated region.val = false :=
  ⟨upDev.toState, .pf1, 13, 5, [], by decide +kernel⟩

theorem test_wit_ClusterResets_4 : ∃ (s : State) (req : Requester) (region : Fin 32) (cluster : Fin 256) (channels : List (Fin 128)), s.dev.served = true ∧ s.dev.arch.clusterGo = none ∧ (18 < region.val ∨ clustersOf region.val ≤ cluster.val ∨ s.dev.isolated region.val = true) :=
  ⟨upDev.toState, .pf1, 20, 5, [], by decide +kernel⟩

theorem test_wit_ClusterResets_4a : ∃ (s : State) (req : Requester) (region : Fin 32) (cluster : Fin 256) (channels : List (Fin 128)), s.dev.served = true ∧ s.dev.arch.clusterGo = none ∧ (18 < region.val ∨ clustersOf region.val ≤ cluster.val ∨ s.dev.isolated region.val = true) :=
  ⟨upDev.toState, .pf1, 13, 40, [], by decide +kernel⟩

theorem test_wit_ClusterResets_4b : ∃ (s : State) (req : Requester) (region : Fin 32) (cluster : Fin 256) (channels : List (Fin 128)), s.dev.served = true ∧ s.dev.arch.clusterGo = none ∧ (18 < region.val ∨ clustersOf region.val ≤ cluster.val ∨ s.dev.isolated region.val = true) :=
  ⟨(upDev.setRegion 13 { isolated := true }).toState, .pf1, 13, 5, [], by decide +kernel⟩

theorem test_wit_RegionIsolation_1 : ∃ (s : State) (region : Fin 23), s.dev.mode.diesUp = true ∧ region.val < 19 ∧ s.dev.isolated region.val = false :=
  ⟨upDev.toState, 17, by decide +kernel⟩

theorem test_wit_RegionIsolation_1a : ∃ (s : State) (region : Fin 23), s.dev.mode.diesUp = true ∧ region.val < 19 ∧ s.dev.isolated region.val = false :=
  ⟨(upDev.setChan 3 { st := .idle }).toState, 4, by decide +kernel⟩

theorem test_wit_RegionIsolation_2 : ∃ (s : State) (req : Requester) (region : Fin 23), s.dev.served = true ∧ region.val < 19 ∧ s.dev.isolated region.val = false :=
  ⟨upDev.toState, .pf1, 16, by decide +kernel⟩

theorem test_wit_RegionIsolation_3 : ∃ (s : State) (req : Requester) (region : Fin 23), 18 < region.val :=
  ⟨upDev.toState, .pf1, 20, by decide +kernel⟩

theorem test_wit_RegionIsolation_4 : ∃ (s : State) (req : Requester) (region : Fin 23), s.dev.served = true ∧ region.val < 19 ∧ s.dev.isolated region.val = true ∧ (s.dev.region region.val).testing = false ∧ s.dev.modeNow ≠ .safe :=
  ⟨(upDev.setRegion 13 { isolated := true }).toState, .pf1, 13, by decide +kernel⟩

theorem test_wit_RegionIsolation_5 : ∃ (s : State) (req : Requester) (region : Fin 23), s.dev.modeNow = .safe :=
  ⟨({ upDev.setRegion 13 { isolated := true } with cust := { upDev.cust with alarms := 1 } } : Dev).toState, .pf1, 13, by decide +kernel⟩

theorem test_wit_RegionIsolation_6 : ∃ (s : State) (region : Fin 19) (tokensOk : Bool) (n : Nat) (trained : BitVec 6) (blocks : List Fetched), (s.dev.region region.val).testing = true ∧ s.dev.isolated region.val = true ∧ (tokensOk = false ∨ paceOf n < 250 ∨ 1000 < paceOf n) :=
  ⟨(upDev.setRegion 13 { isolated := true, testing := true }).toState, 13, true, 0, 0, [], by decide +kernel⟩

theorem test_wit_RegionIsolation_7 : ∃ (s : State) (region : Fin 19) (n : Nat) (blocks : List Fetched), (s.dev.region region.val).testing = true ∧ 250 ≤ paceOf n ∧ paceOf n ≤ 1000 :=
  ⟨(upDev.setRegion 13 { isolated := true, testing := true }).toState, 13, 2000, [], by decide +kernel⟩

theorem test_wit_RegionIsolation_7a : ∃ (s : State) (region : Fin 19) (n : Nat) (blocks : List Fetched), (s.dev.region region.val).testing = true ∧ 250 ≤ paceOf n ∧ paceOf n ≤ 1000 :=
  ⟨(upDev.setRegion 2 { isolated := true, testing := true }).toState, 2, 2000, [], by decide +kernel⟩

theorem test_wit_SeamsAndPace_1 : ∃ (s : State) (seam : Fin 6), s.dev.seamUp seam.val = true :=
  ⟨(upDev.setSeam 0 { up := true, bad := 3 }).toState, 0, by decide +kernel⟩

theorem test_wit_SeamsAndPace_2 : ∃ (s : State) (seam : Fin 6), s.dev.seamUp seam.val = true ∧ (s.dev.seam seam.val).bad < 8 :=
  ⟨(upDev.setSeam 0 { up := true, bad := 7 }).toState, 0, by decide +kernel⟩

theorem test_wit_SeamsAndPace_3 : ∃ (s : State) (seam : Fin 6), s.dev.seamUp seam.val = true ∧ 8 ≤ (s.dev.seam seam.val).bad :=
  ⟨(upDev.setSeam 0 { up := true, bad := 8 }).toState, 0, by decide +kernel⟩

theorem test_wit_SeamsAndPace_4 : ∃ (s : State), s.dev.mode.diesUp = true ∧ (s.dev.seam 5).down = true ∧ (s.dev.seam 5).downAt ≤ s.dev.now :=
  ⟨({ upDev.setSeam 5 { down := true, downAt := 10 } with time := 2000 } : Dev).toState, by decide +kernel⟩

theorem test_wit_SeamsAndPace_5 : ∃ (s : State) (seam : Fin 6), s.dev.mode.diesUp = true ∧ (s.dev.seam seam.val).training = true ∧ (∀ r, r ∈ seamRegions seam.val → s.dev.isolated r = false) :=
  ⟨(upDev.setSeam 5 { down := true, everUp := true, training := true }).toState, 5, by decide +kernel⟩

theorem test_wit_SeamsAndPace_6 : ∃ (s : State) (req : Requester) (seam : Fin 6), s.dev.served = true :=
  ⟨(upDev.setSeam 5 { up := true, replays := 12 }).toState, .pf1, 5, by decide +kernel⟩

theorem test_wit_SeamsAndPace_7 : ∃ (s : State) (region : Fin 19) (n : Nat), s.dev.mode.diesUp = true ∧ s.dev.nowOn (regionDie region.val) % 1000 = 0 ∧ (s.dev.region region.val).gaugeFrom + 1000 ≤ s.dev.nowOn (regionDie region.val) ∧ 250 ≤ paceOf n ∧ paceOf n ≤ 1000 :=
  ⟨({ upDev with time := 2000 } : Dev).toState, 13, 2000, by decide +kernel⟩

theorem test_wit_SeamsAndPace_8 : ∃ (s : State) (region : Fin 19), s.dev.mode.diesUp = true ∧ s.dev.nowOn (regionDie region.val) % 1000 = 0 ∧ (s.dev.region region.val).gaugeFrom + 1000 ≤ s.dev.nowOn (regionDie region.val) ∧ (s.dev.region region.val).badWindows = 2 :=
  ⟨({ upDev.setRegion 13 { badWindows := 2 } with time := 2000 } : Dev).toState, 13, by decide +kernel⟩

theorem test_wit_SeamsAndPace_9 : ∃ (s : State) (req : Requester) (region : Fin 19), s.dev.served = true :=
  ⟨(upDev.setRegion 13 { pacePs := 500, paceMax := 600 }).toState, .pf1, 13, by decide +kernel⟩

theorem test_wit_GovernorAndTimebase_1 : ∃ (s : State) (k : Fin 3), s.dev.mode.diesUp = true ∧ s.dev.now % 100000 = 0 ∧ s.dev.governed k.val = true ∧ (s.dev.rail k.val).asked = none ∧ s.dev.paceTarget k.val + 10 < s.dev.railPace k.val ∧ s.dev.fld .GOV_LIM_VMIN_MV k.val ≤ (s.dev.rail k.val).volt + 5 ∧ (s.dev.rail k.val).volt + 5 ≤ s.dev.fld .GOV_LIM_VMAX_MV k.val :=
  ⟨(((upDev.setFld .GOV_CTL_ENABLE 1 1).setRegion 7 { pacePs := 900 }).setRail 1 { readMv := 750 }).toState, 1, by decide +kernel⟩

theorem test_wit_GovernorAndTimebase_2 : ∃ (s : State) (k : Fin 3), s.dev.mode.diesUp = true ∧ s.dev.now % 100000 = 0 ∧ s.dev.governed k.val = true ∧ (s.dev.rail k.val).asked = none ∧ 0 < s.dev.railPace k.val ∧ s.dev.railPace k.val + 10 < s.dev.paceTarget k.val ∧ s.dev.fld .GOV_LIM_VMIN_MV k.val + 5 ≤ (s.dev.rail k.val).volt ∧ (s.dev.rail k.val).volt ≤ s.dev.fld .GOV_LIM_VMAX_MV k.val :=
  ⟨(((upDev.setFld .GOV_CTL_ENABLE 1 1).setRegion 7 { pacePs := 400 }).setRail 1 { readMv := 750 }).toState, 1, by decide +kernel⟩

theorem test_wit_GovernorAndTimebase_3 : ∃ (s : State) (k : Fin 3), s.dev.railPace k.val ≤ s.dev.paceTarget k.val + 10 ∧ s.dev.paceTarget k.val ≤ s.dev.railPace k.val + 10 :=
  ⟨(((upDev.setFld .GOV_CTL_ENABLE 1 1).setRegion 7 { pacePs := upDev.paceTarget 1 + 10 }).setRail 1 { readMv := 750 }).toState, 1, by decide +kernel⟩

theorem test_wit_GovernorAndTimebase_4 : ∃ (s : State) (rail : Fin 10) (v : Nat), (s.dev.rail rail.val).asked = some v :=
  ⟨(upDev.setRail 1 { asked := some 755, failing := true }).toState, 1, 755, by decide +kernel⟩

theorem test_wit_GovernorAndTimebase_6 : ∃ (s : State) (rail : Fin 10) (v : Nat), (s.dev.rail rail.val).failing = true ∧ (s.dev.rail rail.val).retryAt ≤ s.dev.now ∧ (s.dev.rail rail.val).asked = some v :=
  ⟨(upDev.setRail 1 { failing := true, asked := some 700 }).toState, 1, 700, by decide +kernel⟩

theorem test_wit_GovernorAndTimebase_7 : ∃ (s : State) (a b c : Int), s.dev.mode.diesUp = true ∧ s.dev.now % 1048576 = 0 ∧ s.dev.reachesPlinth .pe = true ∧ s.dev.reachesPlinth .pw = true ∧ s.dev.reachesPlinth .ln = true :=
  ⟨upDev.toState, 1, -3, 900, by decide +kernel⟩

theorem test_wit_PortAndMacConfiguration_1 : ∃ (s : State) (req : Requester) (port : Fin 8) (v : Word), s.dev.served = true ∧ s.dev.isolated 12 = false ∧ bitsOf v 3 2 ≠ 3 ∧ s.dev.flag .PORT_CFG_ENABLE port.val = false ∧ v.getLsbD 31 = true :=
  ⟨upDev.toState, .pf1, 3, 0x80000006#32, by decide +kernel⟩

theorem test_wit_PortAndMacConfiguration_2 : ∃ (s : State) (req : Requester) (port : Fin 8) (v : Word), s.dev.served = true ∧ s.dev.isolated 12 = false ∧ bitsOf v 3 2 ≠ 3 ∧ bitsOf v 3 2 = s.dev.fld .PORT_CFG_PHY port.val ∧ bitsOf v 1 0 = s.dev.fld .PORT_CFG_SPLIT port.val ∧ v.getLsbD 31 = false :=
  ⟨((upDev.setFld .PORT_CFG_ENABLE 3 1).setMac 24 { link := true, eq0 := [{ bytes := 64 }] }).toState, .pf1, 3, 0#32, by decide +kernel⟩

theorem test_wit_PortAndMacConfiguration_3 : ∃ (s : State) (req : Requester) (port : Fin 8) (v : Word), s.dev.served = true ∧ s.dev.isolated 12 = false ∧ (bitsOf v 3 2 = 3 ∨ (s.dev.flag .PORT_CFG_ENABLE port.val = true ∧ (bitsOf v 3 2 ≠ s.dev.fld .PORT_CFG_PHY port.val ∨ bitsOf v 1 0 ≠ s.dev.fld .PORT_CFG_SPLIT port.val))) :=
  ⟨(upDev.setFld .PORT_CFG_ENABLE 3 1).toState, .pf1, 3, 0x80000002#32, by decide +kernel⟩

theorem test_wit_PortAndMacConfiguration_3a : ∃ (s : State) (req : Requester) (port : Fin 8) (v : Word), s.dev.served = true ∧ s.dev.isolated 12 = false ∧ (bitsOf v 3 2 = 3 ∨ (s.dev.flag .PORT_CFG_ENABLE port.val = true ∧ (bitsOf v 3 2 ≠ s.dev.fld .PORT_CFG_PHY port.val ∨ bitsOf v 1 0 ≠ s.dev.fld .PORT_CFG_SPLIT port.val))) :=
  ⟨upDev.toState, .pf1, 3, 0x8000000C#32, by decide +kernel⟩

theorem test_wit_PortAndMacConfiguration_4 : ∃ (s : State) (req : Requester) (mac : Fin 64) (v : Word), s.dev.served = true ∧ s.dev.isolated 12 = false ∧ s.dev.macExists mac.val = true ∧ s.dev.flag .MAC_CFG_ENABLE mac.val = false ∧ v.getLsbD 31 = true ∧ s.dev.macAddr mac.val ≠ 0 ∧ s.dev.macAddr mac.val / 2 ^ 40 % 2 = 0 :=
  ⟨(upDev.setFld .MAC_ADDR_LO_ADDR 8 5).toState, .pf1, 8, 0x80000600#32, by decide +kernel⟩

theorem test_wit_PortAndMacConfiguration_5 : ∃ (s : State) (req : Requester) (mac : Fin 64) (v : Word), s.dev.served = true ∧ s.dev.isolated 12 = false ∧ s.dev.macExists mac.val = true ∧ v.getLsbD 31 = false :=
  ⟨((upDev.setFld .MAC_CFG_ENABLE 8 1).setMac 8 { link := true, dadGlobal := true }).toState, .pf1, 8, 0x600#32, by decide +kernel⟩

theorem test_wit_PortAndMacConfiguration_6 : ∃ (s : State) (req : Requester) (mac : Fin 64) (v : Word), s.dev.served = true ∧ s.dev.isolated 12 = false ∧ s.dev.macExists mac.val = true ∧ s.dev.flag .MAC_CFG_ENABLE mac.val = false :=
  ⟨upDev.toState, .pf1, 8, 0xC0A80001#32, by decide +kernel⟩

theorem test_wit_PortAndMacConfiguration_7 : ∃ (s : State) (req : Requester) (mac : Fin 64) (which : Fin 5) (v : Word), s.dev.served = true ∧ s.dev.isolated 12 = false ∧ s.dev.macExists mac.val = true ∧ s.dev.flag .MAC_CFG_ENABLE mac.val = true :=
  ⟨(upDev.setFld .MAC_CFG_ENABLE 8 1).toState, .pf1, 8, 2, 7#32, by decide +kernel⟩

theorem test_wit_PortAndMacConfiguration_8 : ∃ (s : State) (mac : Fin 64) (lockedNs tw : Nat) (able partner : Bool), s.dev.macMayRun mac.val = true ∧ (s.dev.mac mac.val).link = false ∧ 10000000 < lockedNs :=
  ⟨({ (upDev.setFld .PORT_CFG_ENABLE 1 1).setFld .MAC_CFG_ENABLE 8 1 with pkg := { upDev.pkg with clocks := [0, 1, 2] } } : Dev).toState, 8, 10000001, 17, true, true, by decide +kernel⟩

theorem test_wit_PortAndMacConfiguration_9 : ∃ (s : State) (mac : Fin 64), (s.dev.mac mac.val).link = true :=
  ⟨({ upDev.setMac 8 { link := true, eq0 := [{ unit := some 3, bytes := 64 }], wire := some (1, { bytes := 100 }) } with sw := { upDev.sw with units := [{ id := 3, cells := 1 }] } } : Dev).toState, 8, by decide +kernel⟩

theorem test_wit_PortAndMacConfiguration_10 : ∃ (s : State) (mac : Fin 64) (g l : Bool), (s.dev.mac mac.val).link = true :=
  ⟨(upDev.setMac 8 { link := true }).toState, 8, true, true, by decide +kernel⟩

/-- A MAC with its link up, its address 5, and room in the pool. -/
def macDev : Dev := (((upDev.setFld .MAC_ADDR_LO_ADDR 8 5).setFld .MAC_IP4_ADDR 8 0xC0A80001).setFld .MAC_CFG_ENABLE 8 1).setMac 8 { link := true }

/-- A RoCEv2 frame for `macDev`. -/
def roceFrame : RxFrame := ⟨true, 100, true, 5#48, none, .roceAck true 0xC0A80001#128, 0, 0⟩
theorem test_wit_FramesAndShaping_1 : ∃ (s : State) (mac : Fin 64) (f : RxFrame), (s.dev.mac mac.val).link = true ∧ (match f.kind with | .roceReadResponse _ _ _ => false | _ => true) = true ∧ s.dev.outputUnavailable (rxRoute f.kind).1 = false ∧ f.length ≤ s.dev.fld .MAC_CFG_MAX_FRAME mac.val ∧ cellsPassing (s.dev.alphaExp (rxRoute f.kind).2) (s.dev.voqOcc (mac.val / 8) (rxRoute f.kind).1 (rxRoute f.kind).2) s.dev.poolFree (ceilDiv f.length 256) = ceilDiv f.length 256 ∧ s.dev.rxCheck mac.val (if (s.dev.mac mac.val).askSecond = s.dev.nowOn .ln / sec then (s.dev.mac mac.val).asks else 0) f = none :=
  ⟨macDev.toState, 8, roceFrame, by decide +kernel⟩

theorem test_wit_FramesAndShaping_2 : ∃ (s : State) (mac : Fin 64) (f : RxFrame), (s.dev.mac mac.val).link = true ∧ (match f.kind with | .roceReadResponse _ _ _ => false | _ => true) = true ∧ s.dev.outputUnavailable (rxRoute f.kind).1 = false ∧ f.pcsOk = true ∧ 64 ≤ f.length ∧ f.length ≤ s.dev.fld .MAC_CFG_MAX_FRAME mac.val ∧ f.fcsOk = false ∧ cellsPassing (s.dev.alphaExp (rxRoute f.kind).2) (s.dev.voqOcc (mac.val / 8) (rxRoute f.kind).1 (rxRoute f.kind).2) s.dev.poolFree (ceilDiv f.length 256) = ceilDiv f.length 256 :=
  ⟨macDev.toState, 8, { roceFrame with fcsOk := false }, by decide +kernel⟩

theorem test_wit_FramesAndShaping_3 : ∃ (s : State) (mac : Fin 64) (f : RxFrame) (v4 : Bool) (dst : BitVec 128) (qp : Nat) (r : Reservation) (rs : List Reservation), (s.dev.mac mac.val).link = true ∧ f.kind = .roceReadResponse v4 dst qp ∧ s.dev.sw.rsv = r :: rs ∧ r.qp = qp ∧ r.input = mac.val / 8 ∧ f.length ≤ s.dev.fld .MAC_CFG_MAX_FRAME mac.val ∧ ceilDiv f.length 256 ≤ r.cells ∧ r ∉ rs ∧ s.dev.rxCheck mac.val 0 f = none :=
  ⟨({ macDev with sw := { macDev.sw with rsv := [{ qp := 7, input := 1, output := 9, cls := 1, cells := 18 }] } } : Dev).toState, 8, { roceFrame with kind := .roceReadResponse true 0xC0A80001#128 7 }, true, 0xC0A80001#128, 7, { qp := 7, input := 1, output := 9, cls := 1, cells := 18 }, [], by decide +kernel⟩

theorem test_wit_FramesAndShaping_4 : ∃ (s : State) (mac : Fin 64) (ip : BitVec 32), (s.dev.mac mac.val).link = true ∧ ip ≠ 0 ∧ ip.toNat = s.dev.fld .MAC_IP4_ADDR mac.val :=
  ⟨macDev.toState, 8, 0xC0A80001#32, by decide +kernel⟩

theorem test_wit_FramesAndShaping_5 : ∃ (s : State) (mac : Fin 64) (f : TxFrame) (rest : List TxFrame), (s.dev.mac mac.val).link = true ∧ (s.dev.mac mac.val).wire = none ∧ (s.dev.mac mac.val).txLpi = false ∧ (s.dev.mac mac.val).waking = none ∧ s.dev.queueEligible mac.val 0 = false ∧ s.dev.queueEligible mac.val 1 = true ∧ (s.dev.mac mac.val).eq1 = f :: rest :=
  ⟨(macDev.setMac 8 { link := true, eq1 := [{ bytes := 64 }], eq2 := [{ bytes := 70 }] }).toState, 8, { bytes := 64 }, [], by decide +kernel⟩

theorem test_wit_FramesAndShaping_6 : ∃ (s : State) (mac : Fin 64) (q : Nat) (f : TxFrame), (s.dev.mac mac.val).wire = some (q, f) :=
  ⟨(macDev.setMac 8 { link := true, wire := some (1, { bytes := 64 }) }).toState, 8, 1, { bytes := 64 }, by decide +kernel⟩

theorem test_wit_FramesAndShaping_7 : ∃ (s : State) (mac : Fin 64) (q : Fin 3), s.dev.flag .CBS_SLOPE_EN (mac.val * 3 + q.val) = true ∧ 0 ≤ s.dev.creditNow mac.val q.val :=
  ⟨(((macDev.setFld .CBS_SLOPE_EN 24 1).setFld .CBS_SLOPE_IDLE 24 1000)).toState, 8, 0, by decide +kernel⟩

theorem test_wit_FramesAndShaping_8 : ∃ (s : State) (req : Requester) (mac : Fin 64) (q : Fin 3) (v : Word), s.dev.served = true ∧ s.dev.isolated 12 = false ∧ s.dev.macExists mac.val = true ∧ (∀ j, j < 3 → j ≠ q.val → s.dev.flag .CBS_SLOPE_EN (mac.val * 3 + j) = false) :=
  ⟨macDev.toState, .pf1, 8, 1, 0x80000400#32, by decide +kernel⟩

theorem test_wit_FramesAndShaping_8a : ∃ (s : State) (req : Requester) (mac : Fin 64) (q : Fin 3) (v : Word), s.dev.served = true ∧ s.dev.isolated 12 = false ∧ s.dev.macExists mac.val = true ∧ (∀ j, j < 3 → j ≠ q.val → s.dev.flag .CBS_SLOPE_EN (mac.val * 3 + j) = false) :=
  ⟨macDev.toState, .pf1, 8, 1, 0x80FFFFFF#32, by decide +kernel⟩

/-- A MAC in an active energy-efficient link. -/
def eeeMac : Mac := { link := true, eeeAble := true, partnerEee := true, lldpDone := true, twMin := 8, twTx := 17 }
/-- `eeeMac` on MAC 8, low-power idle enabled, 1 ms after the queues became empty. -/
def eeeDev : Dev := { (upDev.setFld .EEE_CFG_EN 8 1).setMac 8 eeeMac with time := 1000000 }
theorem test_wit_LowPowerIdleAndLldp_1 : ∃ (s : State) (mac : Fin 64), s.dev.eeeActive mac.val = true ∧ (s.dev.mac mac.val).txLpi = false ∧ (s.dev.mac mac.val).waking = none ∧ (s.dev.mac mac.val).wire = none ∧ (s.dev.mac mac.val).allEmpty = true ∧ (s.dev.mac mac.val).emptySince + s.dev.fld .EEE_CFG_IDLE mac.val * 100 < s.dev.nowOn .ln :=
  ⟨eeeDev.toState, 8, by decide +kernel⟩

theorem test_wit_LowPowerIdleAndLldp_2 : ∃ (s : State) (mac : Fin 64) (q : Fin 4) (bytes : Nat), (s.dev.mac mac.val).txLpi = true ∧ s.dev.outputUnavailable (mac.val / 8) = false ∧ s.dev.sw.waiting = [] ∧ fitsPool (s.dev.alphaExp (if q.val = 3 then 1 else 0)) (s.dev.voqOcc 15 (mac.val / 8) (if q.val = 3 then 1 else 0)) (ceilDiv bytes 256) s.dev.poolFree = true :=
  ⟨(eeeDev.setMac 8 { eeeMac with txLpi := true }).toState, 8, 1, 300, by decide +kernel⟩

theorem test_wit_LowPowerIdleAndLldp_3 : ∃ (s : State) (mac : Fin 64) (at' : Nat), (s.dev.mac mac.val).waking = some at' ∧ at' < s.dev.nowOn .ln :=
  ⟨(eeeDev.setMac 8 { eeeMac with waking := some 900 }).toState, 8, 900, by decide +kernel⟩

theorem test_wit_LowPowerIdleAndLldp_4 : ∃ (s : State) (mac : Fin 64) (rx tx : Nat), (s.dev.mac mac.val).link = true ∧ rx ≠ (s.dev.mac mac.val).twTx :=
  ⟨eeeDev.toState, 8, 30, 20, by decide +kernel⟩

theorem test_wit_LowPowerIdleAndLldp_4a : ∃ (s : State) (mac : Fin 64) (rx tx : Nat), (s.dev.mac mac.val).link = true ∧ rx ≠ (s.dev.mac mac.val).twTx :=
  ⟨eeeDev.toState, 8, 65535, 20, by decide +kernel⟩

theorem test_wit_LowPowerIdleAndLldp_5 : ∃ (s : State) (mac : Fin 64), (s.dev.mac mac.val).link = true ∧ s.dev.flag .EEE_CFG_EN mac.val = true ∧ (s.dev.mac mac.val).eeeAble = true ∧ (s.dev.mac mac.val).partnerEee = true :=
  ⟨eeeDev.toState, 8, by decide +kernel⟩

/-- PTP enabled on MAC 0, device time loaded. -/
def ptpDev : Dev :=
  { (upDev.setFld .PTP_CFG_EN 0 1).setMac 0 { link := true } with timeLoaded := true, time := 5000 }
theorem test_wit_PrecisionTime_1 : ∃ (s : State) (mac : Fin 64) (a : PtpAnnounce), s.dev.ptpTakes mac.val = true ∧ a.domain = s.dev.fld .PTP_CFG_DOMAIN ∧ s.dev.net.ptp.source = none :=
  ⟨ptpDev.toState, 0, ⟨0, 9, 1, 1000⟩, by decide +kernel⟩

theorem test_wit_PrecisionTime_2 : ∃ (s : State) (mac : Fin 64) (a x : PtpAnnounce), s.dev.ptpTakes mac.val = true ∧ a.domain = s.dev.fld .PTP_CFG_DOMAIN ∧ s.dev.net.ptp.source = some x ∧ a.source ≠ x.source ∧ x.rank ≤ a.rank :=
  ⟨({ ptpDev with net := { ptpDev.net with ptp := { source := some ⟨0, 9, 1, 1000⟩ } } } : Dev).toState, 0, ⟨0, 8, 2, 1000⟩, ⟨0, 9, 1, 1000⟩, by decide +kernel⟩

theorem test_wit_PrecisionTime_3 : ∃ (s : State) (mac : Fin 64) (x : PtpAnnounce) (t1 : Nat) (k : Fin 16), s.dev.ptpTakes mac.val = true ∧ s.dev.net.ptp.source = some x :=
  ⟨({ ptpDev with net := { ptpDev.net with ptp := { source := some ⟨0, 9, 1, 1000⟩ } } } : Dev).toState, 0, ⟨0, 9, 1, 1000⟩, 4000, 3, by decide +kernel⟩

theorem test_wit_PrecisionTime_4 : ∃ (s : State) (k : Fin 16), s.dev.ptpTakes s.dev.ptpMac = true ∧ s.dev.net.ptp.t2.isSome = true :=
  ⟨({ ptpDev with net := { ptpDev.net with ptp := { source := some ⟨0, 9, 1, 1000⟩, t2 := some 80000 } } } : Dev).toState, 3, by decide +kernel⟩

theorem test_wit_PrecisionTime_5 : ∃ (s : State) (i : Nat) (x : PtpAnnounce), s.dev.flag .PTP_CFG_EN = true ∧ s.dev.net.ptp.state = .locked ∧ s.dev.net.ptp.source = some x ∧ s.dev.net.ptp.announceAt + 3 * x.intervalNs < s.dev.nowOn .ln :=
  ⟨({ ptpDev with net := { ptpDev.net with ptp := { state := .locked, source := some ⟨0, 9, 1, 1000⟩ } } } : Dev).toState, 7, ⟨0, 9, 1, 1000⟩, by decide +kernel⟩

theorem test_wit_PrecisionTime_6 : ∃ (s : State) (trim : Int) (locked : Bool) (t1 t4 : Nat) (t2 t3 : Int), s.dev.flag .PTP_CFG_EN = true ∧ s.dev.timeLoaded = true ∧ s.dev.net.ptp.t1 = some t1 ∧ s.dev.net.ptp.t2 = some t2 ∧ s.dev.net.ptp.t3 = some t3 ∧ s.dev.net.ptp.t4 = some t4 ∧ (s.dev.net.ptp.everLocked = true ∨ locked = false) :=
  ⟨({ ptpDev with net := { ptpDev.net with ptp := { state := .locked, everLocked := true, t1 := some 1000, t2 := some 16160, t3 := some 32000, t4 := some 2010 } } } : Dev).toState, 300000, true, 1000, 2010, 16160, 32000, by decide +kernel⟩

theorem test_wit_PrecisionTime_7 : ∃ (s : State) (trim : Int) (t1 t4 : Nat) (t2 t3 : Int), s.dev.flag .PTP_CFG_EN = true ∧ s.dev.timeLoaded = true ∧ s.dev.net.ptp.t1 = some t1 ∧ s.dev.net.ptp.t2 = some t2 ∧ s.dev.net.ptp.t3 = some t3 ∧ s.dev.net.ptp.t4 = some t4 ∧ s.dev.net.ptp.everLocked = false ∧ s.dev.net.ptp.state = .acquiring ∧ (s.dev.fld .PTP_DISC_DISC_THR : Int) < -(((t2 - (t1 : Int) * 16) - ((t4 : Int) * 16 - t3)) / 32) :=
  ⟨({ ptpDev with net := { ptpDev.net with ptp := { state := .acquiring, t1 := some 2000000, t2 := some 16160, t3 := some 32000, t4 := some 2002010 } } } : Dev).toState, 0, 2000000, 2002010, 16160, 32000, by decide +kernel⟩

theorem test_wit_TransportRequests_1 : ∃ (s : State) (i : Nat) (p : RocePacket), s.dev.newRequest i p = true ∧ p.opcode = 0x04 ∧ p.data.length ≤ (s.dev.qp i).mtu ∧ p.data.length ≤ 64 ∧ (s.dev.qp i).inUse < (s.dev.qp i).held ∧ (s.dev.qp i).flushes = [] :=
  ⟨rdmaDev.toState, 1024, rdmaPacket 4 [1, 2], by decide +kernel⟩

theorem test_wit_TransportRequests_2 : ∃ (s : State) (i : Nat) (p : RocePacket), s.dev.newRequest i p = true ∧ p.opcode = 0x04 ∧ p.data.length ≤ (s.dev.qp i).mtu ∧ p.data.length ≤ 64 ∧ (s.dev.qp i).inUse < (s.dev.qp i).held ∧ (s.dev.qp i).flushes = [] :=
  ⟨rdmaDev.toState, 1024, rdmaPacket 4 [1, 2], by decide +kernel⟩

theorem test_wit_TransportRequests_3 : ∃ (s : State) (i : Nat) (p : RocePacket), s.dev.newRequest i p = true ∧ p.opcode = 0x04 ∧ p.data.length ≤ (s.dev.qp i).mtu ∧ p.data.length ≤ 64 ∧ (s.dev.qp i).held ≤ (s.dev.qp i).inUse ∧ (s.dev.qp i).depth ≤ (s.dev.qp i).inUse :=
  ⟨(rdmaDev.setQp 1024 { rdmaDev.qp 1024 with inUse := 8 }).toState, 1024, rdmaPacket 4 [1, 2], by decide +kernel⟩

theorem test_wit_TransportRequests_4 : ∃ (s : State) (i : Nat) (p : RocePacket), s.dev.newRequest i p = true ∧ p.opcode = 0x0A ∧ p.data.length = p.len ∧ p.len ≤ (s.dev.qp i).mtu ∧ s.dev.keyCheck (s.dev.qp i) p.rkey.toNat p.va p.len .WIN_CFG_WRITE = true ∧ s.dev.windowBroken (p.rkey.toNat % 4096) p.va p.len = false ∧ p.ledgerOk = true ∧ (s.dev.qp i).flushes = [] :=
  ⟨{ rdmaDev with ldg := { rdmaDev.ldg with dieOk := List.range 32 } }.toState, 1024, rdmaPacket 10 [1, 2, 3], by decide +kernel⟩

theorem test_wit_TransportRequests_5 : ∃ (s : State) (i : Nat) (p : RocePacket), s.dev.newRequest i p = true ∧ p.opcode = 0x0A ∧ p.data.length = p.len ∧ p.len ≤ (s.dev.qp i).mtu ∧ s.dev.keyCheck (s.dev.qp i) p.rkey.toNat p.va p.len .WIN_CFG_WRITE = false :=
  ⟨(rdmaDev.setFld .WIN_CFG_WRITE 5 0).toState, 1024, rdmaPacket 10 [1, 2, 3], by decide +kernel⟩

theorem test_wit_TransportRequests_6 : ∃ (s : State) (i : Nat) (p : RocePacket), s.dev.newRequest i p = true ∧ p.opcode = 0x0C ∧ s.dev.keyCheck (s.dev.qp i) p.rkey.toNat p.va p.len .WIN_CFG_READ = true ∧ s.dev.windowBroken (p.rkey.toNat % 4096) p.va p.len = false :=
  ⟨{ rdmaDev with ldg := { rdmaDev.ldg with dieOk := List.range 32 }, rdma := { rdmaDev.rdma with mem := [(5 * 65536 + 17, 7#8)] } }.toState, 1024, { rdmaPacket 12 [] with len := 5 }, by decide +kernel⟩

theorem test_wit_TransportRequests_7 : ∃ (s : State) (i : Nat) (p : RocePacket), s.dev.newRequest i p = true ∧ p.opcode = 0x1C ∧ p.sel = 1 ∧ p.plt = 2 ∧ s.dev.keyCheck (s.dev.qp i) p.rkey.toNat p.va p.len .WIN_CFG_WRITE = true ∧ s.dev.windowBroken (p.rkey.toNat % 4096) p.va p.len = false :=
  ⟨{ rdmaDev with ldg := { rdmaDev.ldg with dieOk := List.range 32 } }.toState, 1024, { rdmaPacket 0x1C [] with len := 5 }, by decide +kernel⟩

theorem test_wit_TransportRequests_8 : ∃ (s : State) (i : Nat) (p : RocePacket), s.dev.newRequest i p = true ∧ p.opcode = 0x1D ∧ p.data.length = 8 ∧ p.va % 8 = 0 ∧ s.dev.keyCheck (s.dev.qp i) p.rkey.toNat p.va 8 .WIN_CFG_ATOMIC = true ∧ s.dev.windowBroken (p.rkey.toNat % 4096) p.va 8 = false ∧ p.ledgerOk = true :=
  ⟨{ rdmaDev with ldg := { rdmaDev.ldg with dieOk := List.range 32 } }.toState, 1024, rdmaPacket 0x1D [1, 2, 3, 4, 5, 6, 7, 8], by decide +kernel⟩

theorem test_wit_TransportRequests_9 : ∃ (s : State) (p : RocePacket), s.dev.transportUp = true ∧ p.icrcOk = false :=
  ⟨rdmaDev.toState, { rdmaPacket 4 [1] with icrcOk := false }, by decide +kernel⟩

theorem test_wit_TransportRequests_10 : ∃ (s : State) (p : RocePacket), s.dev.transportUp = true ∧ p.icrcOk = true ∧ (p.qpn < 0x10000 ∨ qpCount + 0x10000 ≤ p.qpn ∨ (s.dev.qp (p.qpn - 0x10000)).st = .free ∨ (s.dev.qp (p.qpn - 0x10000)).st = .error ∨ 0x20 ≤ p.opcode) :=
  ⟨rdmaDev.toState, { rdmaPacket 4 [1] with qpn := 5 }, by decide +kernel⟩

theorem test_wit_TransportRequests_10a : ∃ (s : State) (p : RocePacket), s.dev.transportUp = true ∧ p.icrcOk = true ∧ (p.qpn < 0x10000 ∨ qpCount + 0x10000 ≤ p.qpn ∨ (s.dev.qp (p.qpn - 0x10000)).st = .free ∨ (s.dev.qp (p.qpn - 0x10000)).st = .error ∨ 0x20 ≤ p.opcode) :=
  ⟨rdmaDev.toState, { rdmaPacket 4 [1] with qpn := 0x10401 }, by decide +kernel⟩

theorem test_wit_TransportRequests_10b : ∃ (s : State) (p : RocePacket), s.dev.transportUp = true ∧ p.icrcOk = true ∧ (p.qpn < 0x10000 ∨ qpCount + 0x10000 ≤ p.qpn ∨ (s.dev.qp (p.qpn - 0x10000)).st = .free ∨ (s.dev.qp (p.qpn - 0x10000)).st = .error ∨ 0x20 ≤ p.opcode) :=
  ⟨rdmaDev.toState, rdmaPacket 0x20 [1], by decide +kernel⟩

theorem test_wit_ResponsesToRequests_1 : ∃ (s : State) (i : Nat) (p : RocePacket), s.dev.newResponse i p = true ∧ p.opcode = 0x11 ∧ p.syndrome.toNat / 32 % 4 = 0 :=
  ⟨(askDev [⟨.write, 0, 56, 3, 3000, 0, none⟩, ⟨.send, 0, 59, 1, 0, 0, none⟩] {id := 0, src := .fabric 1024}).toState, 1024, answerPacket 0x11 59 5 7, by decide +kernel⟩

theorem test_wit_ResponsesToRequests_2 : ∃ (s : State) (i : Nat) (p : RocePacket) (w : WorkReq) (ws : List WorkReq), s.dev.newResponse i p = true ∧ p.opcode = 0x11 ∧ 2 ≤ p.syndrome.toNat / 32 % 4 ∧ p.syndrome.toNat % 32 = 0 ∧ (s.dev.qp i).out = w :: ws ∧ p.psn = w.psn ∧ w.psn < 2 ^ 24 ∧ (1 ≤ w.count ∧ w.count ≤ 2 ^ 23) :=
  ⟨(askDev [⟨.write, 0, 56, 3, 3000, 0, none⟩] {id := 0, src := .fabric 1024}).toState, 1024, answerPacket 0x11 56 0x60 7, ⟨.write, 0, 56, 3, 3000, 0, none⟩, [], by decide +kernel⟩

theorem test_wit_ResponsesToRequests_3 : ∃ (s : State) (i : Nat) (p : RocePacket) (w : WorkReq) (ws : List WorkReq) (c : Cmd), s.dev.newResponse i p = true ∧ p.opcode = 0x11 ∧ 2 ≤ p.syndrome.toNat / 32 % 4 ∧ p.syndrome.toNat % 32 = 2 ∧ (s.dev.qp i).out = w :: ws ∧ p.psn = w.psn ∧ w.psn < 2 ^ 24 ∧ (1 ≤ w.count ∧ w.count ≤ 2 ^ 23) ∧ s.dev.cmd w.cmd = some c :=
  ⟨(askDev [⟨.write, 0, 56, 3, 3000, 0, none⟩] {id := 0, src := .fabric 1024, ctrl := 1, op := .read, cid := 77, sqid := 1, io := true}).toState, 1024, answerPacket 0x11 56 0x62 7, ⟨.write, 0, 56, 3, 3000, 0, none⟩, [], {id := 0, src := .fabric 1024, ctrl := 1, op := .read, cid := 77, sqid := 1, io := true}, by decide +kernel⟩

theorem test_wit_ResponsesToRequests_4 : ∃ (s : State) (i : Nat) (p : RocePacket), s.dev.newResponse i p = true ∧ p.opcode = 0x11 ∧ p.syndrome.toNat / 32 % 4 = 1 ∧ (s.dev.qp i).out = [] ∧ (s.dev.fld .RD_CFG_RNR_RETRY = 7 ∨ (s.dev.qp i).rnrRetries + 1 < s.dev.fld .RD_CFG_RNR_RETRY) :=
  ⟨(askDev [] {id := 0, src := .fabric 1024}).toState, 1024, answerPacket 0x11 56 0x22 7, by decide +kernel⟩

theorem test_wit_ResponsesToRequests_5 : ∃ (s : State) (i : Nat) (p : RocePacket) (w : WorkReq) (ws : List WorkReq) (c : Cmd), s.dev.newResponse i p = true ∧ ((0x0D : Nat) ≤ p.opcode ∧ p.opcode ≤ 0x10) ∧ (s.dev.qp i).out = w :: ws ∧ w.kind = .read ∧ p.psn = psnAdd w.psn (w.got / (s.dev.qp i).mtu) ∧ p.data.length = w.bytes - w.got ∧ (0 < p.data.length ∧ p.data.length ≤ (s.dev.qp i).mtu) ∧ s.dev.cmd w.cmd = some c ∧ c.status = none ∧ c.data.length + p.data.length < c.need :=
  ⟨(askDev [⟨.read, 0, 56, 2, 1030, 1024, none⟩] {id := 0, src := .fabric 1024, ctrl := 1, op := .write, need := 4096}).toState, 1024, answerPacket 0x0F 57 0 7 [1, 2, 3, 4, 5, 6], ⟨.read, 0, 56, 2, 1030, 1024, none⟩, [], {id := 0, src := .fabric 1024, ctrl := 1, op := .write, need := 4096}, by decide +kernel⟩

theorem test_wit_ResponsesToRequests_6 : ∃ (s : State) (i : Nat) (w : WorkReq) (ws : List WorkReq), s.dev.transportUp = true ∧ ((s.dev.qp i).st = .rts ∨ (s.dev.qp i).st = .draining) ∧ (s.dev.qp i).out = w :: ws ∧ (s.dev.qp i).rnrUntil = none ∧ s.dev.expired .ln (s.dev.qp i).timerAt s.dev.ackTimeout = true ∧ (s.dev.qp i).retries < s.dev.fld .RD_CFG_RETRY_CNT :=
  ⟨{ (askDev [⟨.send, 0, 56, 1, 0, 0, none⟩] {id := 0, src := .fabric 1024}) with time := 10000000000 }.toState, 1024, ⟨.send, 0, 56, 1, 0, 0, none⟩, [], by decide +kernel⟩

theorem test_wit_ResponsesToRequests_7 : ∃ (s : State) (i : Nat), s.dev.transportUp = true ∧ ((s.dev.qp i).st = .rts ∨ (s.dev.qp i).st = .draining) ∧ (s.dev.qp i).rnrUntil = none ∧ (s.dev.qp i).out ≠ [] ∧ s.dev.expired .ln (s.dev.qp i).timerAt s.dev.ackTimeout = true ∧ s.dev.fld .RD_CFG_RETRY_CNT ≤ (s.dev.qp i).retries :=
  ⟨{ (askDev [⟨.send, 0, 56, 1, 0, 0, none⟩] {id := 0, src := .fabric 1024}) with time := 10000000000 }.setFld .RD_CFG_RETRY_CNT 0 0 |>.toState, 1024, by decide +kernel⟩

theorem test_wit_ResponsesToRequests_8 : ∃ (s : State) (i : Nat) (u : Nat) (w : WorkReq) (ws : List WorkReq), s.dev.transportUp = true ∧ ((s.dev.qp i).st = .rts ∨ (s.dev.qp i).st = .draining) ∧ (s.dev.qp i).rnrUntil = some u ∧ u ≤ s.dev.nowOn .ln ∧ (s.dev.qp i).out = w :: ws :=
  ⟨(rdmaDev.setQp 1024 { rdmaDev.qp 1024 with rnrUntil := some 0, out := [⟨.send, 0, 56, 1, 0, 0, none⟩] }).toState, 1024, 0, ⟨.send, 0, 56, 1, 0, 0, none⟩, [], by decide +kernel⟩

theorem test_wit_ResponsesToRequests_9 : ∃ (s : State) (i : Nat) (u : Nat), s.dev.transportUp = true ∧ (s.dev.qp i).st = .rts ∧ (s.dev.qp i).ackAt = some u ∧ u + 2000 ≤ s.dev.nowOn .ln :=
  ⟨{ (rdmaDev.setQp 1024 { rdmaDev.qp 1024 with ackAt := some 0, unacked := 3 }) with time := 5000 }.toState, 1024, 0, by decide +kernel⟩

theorem test_wit_ResponsesToRequests_10 : ∃ (s : State) (k i : Nat) (c : Cmd), s.dev.cmd k = some c ∧ s.dev.cmdQp c = some i ∧ c.status = none ∧ c.held = false ∧ c.dispatched = true ∧ c.asked < c.need ∧ ((s.dev.qp i).out.filter (fun w => w.kind == .read)).length < (s.dev.qp i).initDepth ∧ s.dev.capOpen = true ∧ (s.dev.reserveRead i (s.dev.qp i).nPsn ((s.dev.qp i).mac / 8) 15 1 (min (4096 * 2 ^ s.dev.fld .RD_CFG_READ_MAX) (c.need - c.asked)) (s.dev.qp i).mtu).isSome = true :=
  ⟨(askDev [] {id := 0, src := .fabric 1024, ctrl := 1, op := .write, sqid := 1, dispatched := true, need := 8192, asked := 4096}).toState, 0, 1024, {id := 0, src := .fabric 1024, ctrl := 1, op := .write, sqid := 1, dispatched := true, need := 8192, asked := 4096}, by decide +kernel⟩

theorem test_wit_ResponsesToRequests_11 : ∃ (s : State) (k i : Nat) (c : Cmd), s.dev.cmd k = some c ∧ s.dev.cmdQp c = some i ∧ c.status = some 0 ∧ (c.completed = false ∧ c.cancelled = false ∧ c.sent = 0) ∧ c.op = .read ∧ c.finished = true ∧ 0 < c.data.length ∧ s.dev.capOpen = true ∧ s.dev.retransBytes (s.dev.volPier c.vol) + c.data.length ≤ 2 ^ 30 :=
  ⟨(askDev [] {id := 0, src := .fabric 1024, ctrl := 1, op := .read, sqid := 1, status := some 0, finished := true, data := [1, 2, 3]}).toState, 0, 1024, {id := 0, src := .fabric 1024, ctrl := 1, op := .read, sqid := 1, status := some 0, finished := true, data := [1, 2, 3]}, by decide +kernel⟩

theorem test_wit_ResponsesToRequests_12 : ∃ (s : State) (i : Nat) (c : Capsule) (cs : List Capsule), s.dev.transportUp = true ∧ (s.dev.qp i).st = .rts ∧ (s.dev.qp i).rnrUntil = none ∧ (s.dev.qp i).sendQ = c :: cs ∧ (s.dev.qp i).closing = none ∧ ((s.dev.qp i).hostLimit.all (fun l => decide ((s.dev.qp i).sent < l))) = true :=
  ⟨(rdmaDev.setQp 1024 { rdmaDev.qp 1024 with sendQ := [{cmd := 4, cid := 9}], hostLimit := some 1 }).toState, 1024, {cmd := 4, cid := 9}, [], by decide +kernel⟩

theorem test_wit_ResponsesToRequests_13 : ∃ (s : State) (i : Nat) (c : Capsule) (cs : List Capsule) (l : Nat), s.dev.transportUp = true ∧ (s.dev.qp i).st = .rts ∧ (s.dev.qp i).rnrUntil = none ∧ (s.dev.qp i).sendQ = c :: cs ∧ (s.dev.qp i).hostLimit = some l ∧ l ≤ (s.dev.qp i).sent :=
  ⟨(rdmaDev.setQp 1024 { rdmaDev.qp 1024 with sendQ := [{cmd := 4, cid := 9}], sent := 3, hostLimit := some 3 }).toState, 1024, {cmd := 4, cid := 9}, [], 3, by decide +kernel⟩

theorem test_wit_ResponsesToRequests_14 : ∃ (s : State) (i : Nat) (c : Capsule) (cs : List Capsule) (l : Nat), s.dev.transportUp = true ∧ (s.dev.qp i).st = .rts ∧ (s.dev.qp i).rnrUntil = none ∧ (s.dev.qp i).sendQ = c :: cs ∧ (s.dev.qp i).closing = none ∧ (s.dev.qp i).hostLimit = some l ∧ l ≤ (s.dev.qp i).sent ∧ s.dev.expired .ln (s.dev.qp i).probeAt s.dev.ackTimeout = true :=
  ⟨{ (rdmaDev.setQp 1024 { rdmaDev.qp 1024 with sendQ := [{cmd := 4, cid := 9}], sent := 3, hostLimit := some 3 }) with time := 10000000000 }.toState, 1024, {cmd := 4, cid := 9}, [], 3, by decide +kernel⟩

theorem test_wit_QueuePairLife_1 : ∃ (s : State) (q : CmReq) (i : Nat), s.dev.transportUp = true ∧ (s.dev.mac q.mac).link = true ∧ s.dev.holdsIp q.mac q.v4 q.dst.toNat = true ∧ (q.mtu = 1024 ∨ q.mtu = 2048 ∨ q.mtu = 4096) ∧ q.qid ≤ 1024 ∧ (2 ≤ q.size ∧ q.size ≤ (if q.qid = 0 then 32 else 4096)) ∧ firstFreeQp s.dev.rdma.qps (s.dev.rdma.qps.length + 1) (if q.qid = 0 then 0 else 1024) = i ∧ i < (if q.qid = 0 then 1023 else qpCount) ∧ s.dev.fld .RD_CFG_CRED_RES ≤ s.dev.slotsFree ∧ (q.qid = 0 ∨ s.dev.ioQueues < 65536) :=
  ⟨((rdmaDev.setMac 0 { link := true }).setFld .MAC_IP4_ADDR 0 0x0A000001).toState, ⟨0, true, 0x0A000001, 2048, 1, 64, 5, 4, 1000⟩, 1025, by decide +kernel⟩

theorem test_wit_QueuePairLife_2 : ∃ (s : State) (q : CmReq), s.dev.transportUp = true ∧ (s.dev.mac q.mac).link = true ∧ s.dev.holdsIp q.mac q.v4 q.dst.toNat = true ∧ (q.mtu ≠ 1024 ∧ q.mtu ≠ 2048 ∧ q.mtu ≠ 4096) :=
  ⟨((rdmaDev.setMac 0 { link := true }).setFld .MAC_IP4_ADDR 0 0x0A000001).toState, ⟨0, true, 0x0A000001, 512, 1, 64, 5, 4, 1000⟩, by decide +kernel⟩

theorem test_wit_QueuePairLife_3 : ∃ (s : State) (i : Nat), s.dev.transportUp = true ∧ (s.dev.qp i).st = .rtr :=
  ⟨(rdmaDev.setQp 1030 { st := .rtr }).toState, 1030, by decide +kernel⟩

theorem test_wit_QueuePairLife_4 : ∃ (s : State) (i : Nat), s.dev.transportUp = true ∧ (s.dev.qp i).st = .rts :=
  ⟨(askDev [] {id := 4, src := .fabric 1024, ctrl := 1, sqid := 1, io := true}).toState, 1024, by decide +kernel⟩

theorem test_wit_QueuePairLife_4a : ∃ (s : State) (i : Nat), s.dev.transportUp = true ∧ (s.dev.qp i).st = .rts :=
  ⟨(rdmaDev.setQp 3 { st := .rts, ctrl := some 1 }).toState, 3, by decide +kernel⟩

theorem test_wit_QueuePairLife_5 : ∃ (s : State) (i : Nat), s.dev.transportUp = true ∧ (s.dev.qp i).st = .rtr ∧ s.dev.expired .ln (s.dev.qp i).since (s.dev.qp i).cmTimeout = true :=
  ⟨{ (rdmaDev.setQp 1030 { st := .rtr, cmTimeout := 5 }) with time := 6 }.toState, 1030, by decide +kernel⟩

theorem test_wit_QueuePairLife_6 : ∃ (s : State) (i : Nat), s.dev.transportUp = true ∧ (s.dev.qp i).st = .draining ∧ ((s.dev.qp i).out.isEmpty && (s.dev.qp i).flushes.isEmpty || s.dev.expired .ln (s.dev.qp i).since (s.dev.fld .RD_TIMING_QUIET_TO * 1000000)) = true :=
  ⟨(rdmaDev.setQp 1030 { st := .draining, ctrl := some 1, qid := 2 }).toState, 1030, by decide +kernel⟩

theorem test_wit_QueuePairLife_6a : ∃ (s : State) (i : Nat), s.dev.transportUp = true ∧ (s.dev.qp i).st = .draining ∧ ((s.dev.qp i).out.isEmpty && (s.dev.qp i).flushes.isEmpty || s.dev.expired .ln (s.dev.qp i).since (s.dev.fld .RD_TIMING_QUIET_TO * 1000000)) = true :=
  ⟨{ (rdmaDev.setQp 1030 { st := .draining, qid := 2, flushes := [⟨1, 2, 3, 4⟩] }) with time := 100000000000 }.toState, 1030, by decide +kernel⟩

theorem test_wit_QueuePairLife_7 : ∃ (s : State) (i : Nat), s.dev.transportUp = true ∧ (s.dev.qp i).st = .error :=
  ⟨(rdmaDev.setQp 1030 { st := .error, ctrl := some 1, qid := 2, sendQ := [{}] }).toState, 1030, by decide +kernel⟩

theorem test_wit_QueuePairLife_8 : ∃ (s : State) (i : Nat), s.dev.transportUp = true ∧ (s.dev.qp i).st = .quiet ∧ s.dev.expired .ln (s.dev.qp i).since (s.dev.fld .RD_TIMING_QUIET_TO * 1000000) = true :=
  ⟨{ (rdmaDev.setQp 1030 { st := .quiet }) with time := 100000000000 }.toState, 1030, by decide +kernel⟩

theorem test_wit_QueuePairLife_9 : ∃ (s : State) (i : Nat) (f : FlushWait) (fs : List FlushWait), s.dev.transportUp = true ∧ ((s.dev.qp i).st = .rts ∨ (s.dev.qp i).st = .draining) ∧ (s.dev.qp i).flushes = f :: fs :=
  ⟨({ rdmaDev with rdma := { rdmaDev.rdma with placed := [⟨1024, 17, 1#8, none⟩, ⟨1024, 17, 2#8, none⟩, ⟨1025, 17, 3#8, none⟩] } }.setQp 1024 { rdmaDev.qp 1024 with flushes := [⟨7, 0, 16, 20⟩] }).toState, 1024, ⟨7, 0, 16, 20⟩, [], by decide +kernel⟩

theorem test_wit_QueuePairLife_10 : ∃ (s : State) (i : Nat) (f : FlushWait) (fs : List FlushWait), s.dev.transportUp = true ∧ ((s.dev.qp i).st = .rts ∨ (s.dev.qp i).st = .draining) ∧ (s.dev.qp i).flushes = f :: fs :=
  ⟨(rdmaDev.setQp 1024 { rdmaDev.qp 1024 with flushes := [⟨7, 0, 16, 20⟩] }).toState, 1024, ⟨7, 0, 16, 20⟩, [], by decide +kernel⟩

theorem test_wit_PersistentWindows_1 : ∃ (s : State) (via : Via) (slot : Fin 4096) (v : Word) (k : Nat), s.dev.commandMade via (Reg.addr .WIN_CFG) = true ∧ s.dev.windowNamed via slot.val = k ∧ (s.dev.window k).st = .free ∧ (s.dev.window k).registering = false :=
  ⟨rdmaDev.toState, .reg .pf1, 9, 0x07100003#32, 0, by decide +kernel⟩

theorem test_wit_PersistentWindows_1a : ∃ (s : State) (via : Via) (slot : Fin 4096) (v : Word) (k : Nat), s.dev.commandMade via (Reg.addr .WIN_CFG) = true ∧ s.dev.windowNamed via slot.val = k ∧ (s.dev.window k).st = .free ∧ (s.dev.window k).registering = false :=
  ⟨rdmaDev.withCustodian.toState, .dict 0x205, 4095, 0x07100003#32, 4095, by decide +kernel⟩

theorem test_wit_PersistentWindows_2 : ∃ (s : State) (via : Via) (slot : Fin 4096) (v : Word) (k : Nat), s.dev.commandMade via (Reg.addr .WIN_CFG) = true ∧ s.dev.windowNamed via slot.val = k ∧ ((s.dev.window k).st ≠ .free ∨ (s.dev.window k).registering = true) :=
  ⟨(rdmaDev.setFld .WIN_SEL_SLOT 0 5).toState, .reg .pf1, 9, 0x07100003#32, 5, by decide +kernel⟩

theorem test_wit_PersistentWindows_2a : ∃ (s : State) (via : Via) (slot : Fin 4096) (v : Word) (k : Nat), s.dev.commandMade via (Reg.addr .WIN_CFG) = true ∧ s.dev.windowNamed via slot.val = k ∧ ((s.dev.window k).st ≠ .free ∨ (s.dev.window k).registering = true) :=
  ⟨(rdmaDev.setWindow 7 { registering := true }).withCustodian.toState, .dict 0x205, 7, 0x07100003#32, 7, by decide +kernel⟩

theorem test_wit_PersistentWindows_3 : ∃ (s : State) (via : Via) (slot : Fin 4096) (k : Nat), s.dev.commandMade via (Reg.addr .WIN_CMD) = true ∧ s.dev.windowNamed via slot.val = k ∧ (s.dev.window k).st = .free ∧ (s.dev.window k).registering = false ∧ (1 ≤ s.dev.fld .WIN_CFG_LEN k ∧ s.dev.fld .WIN_CFG_LEN k ≤ 16) ∧ s.dev.cust.rngOk = true :=
  ⟨(rdmaDev.setFld .WIN_CFG_LEN 0 16).toState, .reg .pf1, 9, 0, by decide +kernel⟩

theorem test_wit_PersistentWindows_3a : ∃ (s : State) (via : Via) (slot : Fin 4096) (k : Nat), s.dev.commandMade via (Reg.addr .WIN_CMD) = true ∧ s.dev.windowNamed via slot.val = k ∧ (s.dev.window k).st = .free ∧ (s.dev.window k).registering = false ∧ (1 ≤ s.dev.fld .WIN_CFG_LEN k ∧ s.dev.fld .WIN_CFG_LEN k ≤ 16) ∧ s.dev.cust.rngOk = true :=
  ⟨(rdmaDev.setFld .WIN_CFG_LEN 6 1).withCustodian.toState, .dict 0x205, 6, 6, by decide +kernel⟩

theorem test_wit_PersistentWindows_4 : ∃ (s : State) (via : Via) (slot : Fin 4096) (k : Nat), s.dev.commandMade via (Reg.addr .WIN_CMD) = true ∧ s.dev.windowNamed via slot.val = k ∧ ((s.dev.window k).st ≠ .free ∨ s.dev.fld .WIN_CFG_LEN k = 0 ∨ 16 < s.dev.fld .WIN_CFG_LEN k) :=
  ⟨(rdmaDev.setFld .WIN_CFG_LEN 0 17).toState, .reg .pf1, 9, 0, by decide +kernel⟩

theorem test_wit_PersistentWindows_5 : ∃ (s : State) (slot : Fin 4096), s.dev.transportUp = true ∧ (s.dev.window slot.val).registering = true ∧ s.dev.cust.rngOk = true :=
  ⟨{ (rdmaDev.setWindow 0 { registering := true, tag := 3 }) with rdma := { (rdmaDev.setWindow 0 { registering := true, tag := 3 }).rdma with mem := [(17, 4#8), (70000, 1#8)] } }.toState, 0, by decide +kernel⟩

theorem test_wit_PersistentWindows_6 : ∃ (s : State) (via : Via) (slot : Fin 4096) (k : Nat), s.dev.commandMade via (Reg.addr .WIN_CMD) = true ∧ s.dev.windowNamed via slot.val = k ∧ (s.dev.window k).st = .valid :=
  ⟨(rdmaDev.setFld .WIN_SEL_SLOT 0 5).toState, .reg .pf1, 9, 5, by decide +kernel⟩

theorem test_wit_PersistentWindows_7 : ∃ (s : State) (via : Via) (slot : Fin 4096) (k : Nat), s.dev.commandMade via (Reg.addr .WIN_CMD) = true ∧ s.dev.windowNamed via slot.val = k ∧ (s.dev.window k).st ≠ .valid :=
  ⟨rdmaDev.toState, .reg .pf1, 9, 0, by decide +kernel⟩

theorem test_wit_PersistentWindows_8 : ∃ (s : State) (slot : Fin 4096), s.dev.transportUp = true ∧ (s.dev.window slot.val).st = .revoking ∧ s.dev.windowUsers slot.val = [] :=
  ⟨(rdmaDev.setWindow 5 { st := .revoking, tag := 9 }).toState, 5, by decide +kernel⟩

theorem test_wit_PersistentWindows_9 : ∃ (s : State) (slot : Fin 4096), s.dev.transportUp = true ∧ (s.dev.window slot.val).st = .revoking ∧ s.dev.windowUsers slot.val ≠ [] ∧ s.dev.expired .ln (s.dev.window slot.val).revokeAt (s.dev.fld .RD_TIMING_REVOKE_TO * 1000000) = true :=
  ⟨{ ((rdmaDev.setWindow 5 { st := .revoking, tag := 9 }).setQp 1024 { rdmaDev.qp 1024 with writeMsg := some ⟨5, 0, 9⟩ }) with time := 100000000000 }.toState, 5, by decide +kernel⟩

/-- `nvmeDev` with queue pair 4 in RTS and a Connect in its slot, and a host 2 of tenant 3 named 1. -/
def connectDev : Dev :=
  let d := ((nvmeDev.setQp 4 { st := .rts, depth := 8, reserve := 8, inUse := 1 }).setFld .HOST_CFG_ENABLE 2 1).setFld .HOST_CFG_TENANT 2 3
  let d := d.setFld .HOST_CFG_MAX_CTRL 2 4
  { d with nvme := { d.nvme with nqns := [(2, [1#8])] } }
theorem test_wit_ControllersAndProperties_1 : ∃ (s : State) (qp k h : Nat) (cid : BitVec 16) (c : ConnectArgs), s.dev.frontUp = true ∧ ((s.dev.qp qp).st = .rts ∧ 0 < (s.dev.qp qp).inUse ∧ (s.dev.qp qp).ctrl = none ∧ (s.dev.qp qp).qid = 0) ∧ c.qid = 0 ∧ s.dev.connectFails qp c = none ∧ s.dev.hostOf c.hostNqn = some h ∧ c.subnqn ≠ 1 ∧ s.dev.freeCtrl 0 959 = some k :=
  ⟨connectDev.toState, 4, 0, 2, 5#16, ⟨0, 1024, 0, 31, 5000, 0xFFFF, [1#8], 9#128, 5⟩, by decide +kernel⟩

theorem test_wit_ControllersAndProperties_2 : ∃ (s : State) (qp k h : Nat) (cid : BitVec 16) (c : ConnectArgs) (x : Ctrl), s.dev.frontUp = true ∧ ((s.dev.qp qp).st = .rts ∧ 0 < (s.dev.qp qp).inUse ∧ (s.dev.qp qp).ctrl = none ∧ (s.dev.qp qp).qid ≠ 0) ∧ c.qid ≠ 0 ∧ s.dev.connectFails qp c = none ∧ s.dev.hostOf c.hostNqn = some h ∧ c.cntlid = k + 1 ∧ s.dev.ctrl k = some x :=
  ⟨((connectDev.setQp 4 {}).setQp 1030 { st := .rts, inUse := 1, qid := 2 }).toState, 1030, 1, 2, 5#16, ⟨0, 1024, 2, 31, 5000, 2, [1#8], 0#128, 5⟩, { tenant := 3, host := 2, aqp := 3, kato := 1000 }, by decide +kernel⟩

theorem test_wit_ControllersAndProperties_3 : ∃ (s : State) (qp check st : Nat) (dw0 : Option Nat) (cid : BitVec 16) (c : ConnectArgs), s.dev.frontUp = true ∧ ((s.dev.qp qp).st = .rts ∧ 0 < (s.dev.qp qp).inUse ∧ (s.dev.qp qp).ctrl = none) ∧ (c.qid = 0) = ((s.dev.qp qp).qid = 0) ∧ s.dev.connectFails qp c = some (check, st, dw0) :=
  ⟨connectDev.toState, 4, 2, 0x184, some 0, 5#16, ⟨0, 1024, 0, 31, 5000, 0xFFFF, [9#8], 9#128, 5⟩, by decide +kernel⟩

theorem test_wit_ControllersAndProperties_3a : ∃ (s : State) (qp check st : Nat) (dw0 : Option Nat) (cid : BitVec 16) (c : ConnectArgs), s.dev.frontUp = true ∧ ((s.dev.qp qp).st = .rts ∧ 0 < (s.dev.qp qp).inUse ∧ (s.dev.qp qp).ctrl = none) ∧ (c.qid = 0) = ((s.dev.qp qp).qid = 0) ∧ s.dev.connectFails qp c = some (check, st, dw0) :=
  ⟨connectDev.toState, 4, 1, 0x182, none, 5#16, ⟨0, 1024, 0, 32, 5000, 0xFFFF, [1#8], 9#128, 5⟩, by decide +kernel⟩

theorem test_wit_ControllersAndProperties_4 : ∃ (s : State) (src : CmdSource) (k : Nat) (c : Ctrl) (cid : BitVec 16) (v : BitVec 64), s.dev.adminAt src k c = true ∧ c.kind ≠ .pcie ∧ s.dev.numberFree = true ∧ ccValid v.toNat = true ∧ c.cc % 2 = 0 ∧ (v.toNat % 2 = 1 ∧ v.toNat / 2 ^ 14 % 4 = 0) :=
  ⟨nvmeDev.toState, .fabric 3, 1, { tenant := 3, host := 2, aqp := 3, kato := 1000 }, 5#16, 0x460001#64, by decide +kernel⟩

theorem test_wit_ControllersAndProperties_5 : ∃ (s : State) (src : CmdSource) (k : Nat) (c : Ctrl) (cid : BitVec 16) (v : BitVec 64), s.dev.adminAt src k c = true ∧ c.kind ≠ .pcie ∧ s.dev.numberFree = true ∧ ccValid v.toNat = true ∧ c.cc % 2 = 1 ∧ (v.toNat % 2 = 0 ∧ v.toNat / 2 ^ 14 % 4 = 0) :=
  ⟨({ nvmeDev with nvme := { nvmeDev.nvme with ctrls := [(1, { tenant := 3, host := 2, aqp := 3, cc := 0x460001, rdy := true })], cmds := [{ id := 4, ctrl := 1, src := .fabric 1024 }] } } : Dev).toState, .fabric 3, 1, { tenant := 3, host := 2, aqp := 3, cc := 0x460001, rdy := true }, 5#16, 0x460000#64, by decide +kernel⟩

theorem test_wit_ControllersAndProperties_6 : ∃ (s : State) (src : CmdSource) (k : Nat) (c : Ctrl) (cid : BitVec 16) (offset : Nat), s.dev.adminAt src k c = true ∧ c.kind ≠ .pcie :=
  ⟨nvmeDev.toState, .fabric 3, 1, { tenant := 3, host := 2, aqp := 3, kato := 1000 }, 5#16, 0, by decide +kernel⟩

theorem test_wit_ControllersAndProperties_6a : ∃ (s : State) (src : CmdSource) (k : Nat) (c : Ctrl) (cid : BitVec 16) (offset : Nat), s.dev.adminAt src k c = true ∧ c.kind ≠ .pcie :=
  ⟨nvmeDev.toState, .fabric 3, 1, { tenant := 3, host := 2, aqp := 3, kato := 1000 }, 5#16, 8, by decide +kernel⟩

theorem test_wit_ControllersAndProperties_6b : ∃ (s : State) (src : CmdSource) (k : Nat) (c : Ctrl) (cid : BitVec 16) (offset : Nat), s.dev.adminAt src k c = true ∧ c.kind ≠ .pcie :=
  ⟨nvmeDev.toState, .fabric 3, 1, { tenant := 3, host := 2, aqp := 3, kato := 1000 }, 5#16, 0x14, by decide +kernel⟩

theorem test_wit_ControllersAndProperties_6c : ∃ (s : State) (src : CmdSource) (k : Nat) (c : Ctrl) (cid : BitVec 16) (offset : Nat), s.dev.adminAt src k c = true ∧ c.kind ≠ .pcie :=
  ⟨nvmeDev.toState, .fabric 3, 1, { tenant := 3, host := 2, aqp := 3, kato := 1000 }, 5#16, 0x1C, by decide +kernel⟩

theorem test_wit_ControllersAndProperties_6d : ∃ (s : State) (src : CmdSource) (k : Nat) (c : Ctrl) (cid : BitVec 16) (offset : Nat), s.dev.adminAt src k c = true ∧ c.kind ≠ .pcie :=
  ⟨nvmeDev.toState, .fabric 3, 1, { tenant := 3, host := 2, aqp := 3, kato := 1000 }, 5#16, 0x20, by decide +kernel⟩

theorem test_wit_ControllersAndProperties_7 : ∃ (s : State) (k : Nat) (c : Ctrl), s.dev.frontUp = true ∧ s.dev.ctrl k = some c ∧ (c.enableAt ≠ none ∧ c.cc % 2 = 1 ∧ c.cfs = false) :=
  ⟨({ nvmeDev with nvme := { nvmeDev.nvme with ctrls := [(1, { cc := 0x460001, enableAt := some 0 })] } } : Dev).toState, 1, { cc := 0x460001, enableAt := some 0 }, by decide +kernel⟩

theorem test_wit_ControllersAndProperties_8 : ∃ (s : State) (k : Nat) (c : Ctrl), s.dev.frontUp = true ∧ s.dev.ctrl k = some c ∧ c.shutdownAt ≠ none ∧ s.dev.nvme.cmds.all (fun x => x.ctrl != k || x.sqid == 0 || x.finished) = true :=
  ⟨({ nvmeDev with nvme := { nvmeDev.nvme with ctrls := [(1, { cc := 0x464001, shst := 1, shutdownAt := some 0 })] } } : Dev).toState, 1, { cc := 0x464001, shst := 1, shutdownAt := some 0 }, by decide +kernel⟩

theorem test_wit_ControllersAndProperties_9 : ∃ (s : State) (qp k : Nat) (cid : BitVec 16), s.dev.comesTo (.fabric qp) = some k ∧ (s.dev.qp qp).qid ≠ 0 :=
  ⟨({ nvmeDev with nvme := { nvmeDev.nvme with cmds := [{ id := 4, ctrl := 1, src := .fabric 1024 }] } } : Dev).toState, 1024, 1, 5#16, by decide +kernel⟩

theorem test_wit_ControllersAndProperties_10 : ∃ (s : State) (qp k : Nat) (cid : BitVec 16), s.dev.comesTo (.fabric qp) = some k ∧ (s.dev.qp qp).qid = 0 :=
  ⟨nvmeDev.toState, 3, 1, 5#16, by decide +kernel⟩

theorem test_wit_ControllersAndProperties_11 : ∃ (s : State) (k : Nat) (c : Ctrl) (src : CmdSource) (cid : BitVec 16), s.dev.adminAt src k c = true :=
  ⟨nvmeDev.toState, 1, { tenant := 3, host := 2, aqp := 3, kato := 1000 }, .fabric 3, 5#16, by decide +kernel⟩

theorem test_wit_ControllersAndProperties_12 : ∃ (s : State) (k : Nat) (c : Ctrl), s.dev.frontUp = true ∧ s.dev.mode.quiesced = false ∧ s.dev.ctrl k = some c ∧ (c.kind ≠ .pcie ∧ c.kato ≠ 0) ∧ c.kaAt + c.kato * 1000000 < s.dev.nowOn .ln :=
  ⟨{ nvmeDev with time := 5000000000 }.toState, 1, { tenant := 3, host := 2, aqp := 3, kato := 1000 }, by decide +kernel⟩

theorem test_wit_AdminCommands_1 : ∃ (s : State) (src : CmdSource) (k : Nat) (c : Ctrl) (cid : BitVec 16) (buf : DataPtr) (nsid : Nat), s.dev.adminAt src k c = true ∧ bufStatus src buf 4096 = none :=
  ⟨nvmeDev.toState, .fabric 3, 1, { tenant := 3, host := 2, aqp := 3, kato := 1000 }, 5#16, .keyed 0#64 4096 7#32 false, 0, by decide +kernel⟩

theorem test_wit_AdminCommands_2 : ∃ (s : State) (src : CmdSource) (k : Nat) (c : Ctrl) (cid : BitVec 16) (buf : DataPtr) (nsid : Nat), s.dev.adminAt src k c = true ∧ c.kind ≠ .discovery ∧ bufStatus src buf 4096 = none ∧ (1 ≤ nsid ∧ nsid ≤ 4096) ∧ s.dev.flag .NS_CFG_ACTIVE (nsid - 1) = true ∧ s.dev.nsTenant (nsid - 1) = c.tenant :=
  ⟨((nvmeDev.setFld .NS_CFG_ACTIVE 4095 1).setFld .NS_CFG_TENANT 4095 3).toState, .fabric 3, 1, { tenant := 3, host := 2, aqp := 3, kato := 1000 }, 5#16, .keyed 0#64 4096 7#32 false, 4096, by decide +kernel⟩

theorem test_wit_AdminCommands_3 : ∃ (s : State) (src : CmdSource) (k : Nat) (c : Ctrl) (cid : BitVec 16) (buf : DataPtr) (cns nsid st : Nat), s.dev.adminAt src k c = true ∧ bufStatus src buf 4096 = some st :=
  ⟨nvmeDev.toState, .fabric 3, 1, { tenant := 3, host := 2, aqp := 3, kato := 1000 }, 5#16, .keyed 0#64 4095 7#32 false, 1, 0, 0x00F, by decide +kernel⟩

theorem test_wit_AdminCommands_4 : ∃ (s : State) (src : CmdSource) (k : Nat) (c : Ctrl) (cid : BitVec 16) (buf : DataPtr) (lid : Nat) (rae : Bool) (items : List (List Nat)), s.dev.adminAt src k c = true ∧ bufStatus src buf (dataPtrLen buf) = none ∧ s.dev.logPage c lid = some items :=
  ⟨({ nvmeDev with nvme := { nvmeDev.nvme with ctrls := [(1, { resvLog := [(1, 3)] })] } } : Dev).toState, .fabric 3, 1, { resvLog := [(1, 3)] }, 5#16, .keyed 0#64 4096 7#32 false, 0x80, false, [[1, 3]], by decide +kernel⟩

theorem test_wit_AdminCommands_5 : ∃ (s : State) (src : CmdSource) (k : Nat) (c : Ctrl) (cid : BitVec 16) (buf : DataPtr) (lid : Nat) (rae : Bool), s.dev.adminAt src k c = true ∧ bufStatus src buf (dataPtrLen buf) = none ∧ s.dev.logPage c lid = none :=
  ⟨nvmeDev.toState, .fabric 3, 1, { tenant := 3, host := 2, aqp := 3, kato := 1000 }, 5#16, .keyed 0#64 512 7#32 false, 3, false, by decide +kernel⟩

theorem test_wit_AdminCommands_6 : ∃ (s : State) (src : CmdSource) (k : Nat) (c : Ctrl) (cid sqid acid : BitVec 16), s.dev.adminAt src k c = true ∧ c.kind ≠ .discovery ∧ (s.dev.nvme.cmds.filter (fun x => x.ctrl == k && x.op == .abort && !x.completed && !x.cancelled && x.status == some 0)).length < 4 :=
  ⟨nvmeDev.toState, .fabric 3, 1, { tenant := 3, host := 2, aqp := 3, kato := 1000 }, 5#16, 1#16, 2#16, by decide +kernel⟩

theorem test_wit_AdminCommands_7 : ∃ (s : State) (src : CmdSource) (k : Nat) (c : Ctrl) (cid : BitVec 16) (fid nsid : Nat) (dw11 : BitVec 32) (data : BitVec 128), s.dev.adminAt src k c = true ∧ c.kind ≠ .discovery ∧ fid ≠ 2 :=
  ⟨nvmeDev.toState, .fabric 3, 1, { tenant := 3, host := 2, aqp := 3, kato := 1000 }, 5#16, 0x0F, 0, 5000#32, 0#128, by decide +kernel⟩

theorem test_wit_AdminCommands_8 : ∃ (s : State) (src : CmdSource) (k : Nat) (c : Ctrl) (cid : BitVec 16) (nsid : Nat) (dw11 : BitVec 32) (data : BitVec 128), s.dev.adminAt src k c = true ∧ c.kind = .fabric :=
  ⟨nvmeDev.toState, .fabric 3, 1, { tenant := 3, host := 2, aqp := 3, kato := 1000 }, 5#16, 0, 5001#32, 0#128, by decide +kernel⟩

theorem test_wit_AdminCommands_8a : ∃ (s : State) (src : CmdSource) (k : Nat) (c : Ctrl) (cid : BitVec 16) (nsid : Nat) (dw11 : BitVec 32) (data : BitVec 128), s.dev.adminAt src k c = true ∧ c.kind = .fabric :=
  ⟨nvmeDev.toState, .fabric 3, 1, { tenant := 3, host := 2, aqp := 3, kato := 1000 }, 5#16, 0, 0#32, 0#128, by decide +kernel⟩

theorem test_wit_AdminCommands_9 : ∃ (s : State) (src : CmdSource) (k : Nat) (c : Ctrl) (cid : BitVec 16) (nsid : Nat) (dw11 : BitVec 32) (data : BitVec 128), s.dev.adminAt src k c = true ∧ c.kind = .fabric ∧ c.ioConnected = false ∧ (dw11.toNat % 65536 ≠ 0xFFFF ∧ dw11.toNat / 65536 ≠ 0xFFFF) :=
  ⟨nvmeDev.toState, .fabric 3, 1, { tenant := 3, host := 2, aqp := 3, kato := 1000 }, 5#16, 0, 0x07FF001F#32, 0#128, by decide +kernel⟩

theorem test_wit_AdminCommands_10 : ∃ (s : State) (src : CmdSource) (k : Nat) (c : Ctrl) (cid : BitVec 16) (ps : Nat), s.dev.adminAt src k c = true ∧ c.kind ≠ .discovery ∧ s.dev.flag .HOST_CFG_PRIV c.host = true ∧ ps ≤ 3 ∧ s.dev.nvme.entryAt = none :=
  ⟨(nvmeDev.setFld .HOST_CFG_PRIV 2 1).toState, .fabric 3, 1, { tenant := 3, host := 2, aqp := 3, kato := 1000 }, 5#16, 3, by decide +kernel⟩

theorem test_wit_AdminCommands_11 : ∃ (s : State) (src : CmdSource) (k : Nat) (c : Ctrl) (cid : BitVec 16) (ps : Nat), s.dev.adminAt src k c = true ∧ c.kind ≠ .discovery ∧ s.dev.flag .HOST_CFG_PRIV c.host = false ∧ s.dev.numberFree = true :=
  ⟨nvmeDev.toState, .fabric 3, 1, { tenant := 3, host := 2, aqp := 3, kato := 1000 }, 5#16, 3, by decide +kernel⟩

theorem test_wit_AdminCommands_12 : ∃ (s : State) (u : Nat), s.dev.frontUp = true ∧ s.dev.nvme.entryAt = some u ∧ (2 ≤ s.dev.nvme.settled ∨ u + 1000000 ≤ s.dev.nowOn .ln) :=
  ⟨{ nvmeDev with time := 1000000, nvme := { nvmeDev.nvme with target := 2, entryAt := some 0, psCmd := some 4, cmds := [{ id := 4, src := .fabric 3 }] } }.toState, 0, by decide +kernel⟩

theorem test_wit_AdminCommands_13 : ∃ (s : State) (src : CmdSource) (k : Nat) (c : Ctrl) (cid : BitVec 16) (fid nsid : Nat), s.dev.adminAt src k c = true ∧ c.kind ≠ .discovery ∧ (fid = 0x02 ∨ fid = 0x04 ∨ fid = 0x07 ∨ fid = 0x0B ∨ fid = 0x0F) :=
  ⟨nvmeDev.toState, .fabric 3, 1, { tenant := 3, host := 2, aqp := 3, kato := 1000 }, 5#16, 0x04, 0, by decide +kernel⟩

theorem test_wit_AdminCommands_13a : ∃ (s : State) (src : CmdSource) (k : Nat) (c : Ctrl) (cid : BitVec 16) (fid nsid : Nat), s.dev.adminAt src k c = true ∧ c.kind ≠ .discovery ∧ (fid = 0x02 ∨ fid = 0x04 ∨ fid = 0x07 ∨ fid = 0x0B ∨ fid = 0x0F) :=
  ⟨nvmeDev.toState, .fabric 3, 1, { tenant := 3, host := 2, aqp := 3, kato := 1000 }, 5#16, 0x07, 0, by decide +kernel⟩

theorem test_wit_AdminCommands_13b : ∃ (s : State) (src : CmdSource) (k : Nat) (c : Ctrl) (cid : BitVec 16) (fid nsid : Nat), s.dev.adminAt src k c = true ∧ c.kind ≠ .discovery ∧ (fid = 0x02 ∨ fid = 0x04 ∨ fid = 0x07 ∨ fid = 0x0B ∨ fid = 0x0F) :=
  ⟨nvmeDev.toState, .fabric 3, 1, { tenant := 3, host := 2, aqp := 3, kato := 1000 }, 5#16, 0x0F, 0, by decide +kernel⟩

theorem test_wit_AdminCommands_14 : ∃ (s : State) (src : CmdSource) (k : Nat) (c : Ctrl) (cid : BitVec 16), s.dev.adminAt src k c = true ∧ c.held = [] ∧ c.aers.length < 8 :=
  ⟨nvmeDev.toState, .fabric 3, 1, { tenant := 3, host := 2, aqp := 3, kato := 1000 }, 5#16, by decide +kernel⟩

theorem test_wit_AdminCommands_15 : ∃ (s : State) (src : CmdSource) (k : Nat) (c : Ctrl) (cid : BitVec 16) (e : AsyncEvent) (es : List AsyncEvent), s.dev.adminAt src k c = true ∧ c.held = e :: es ∧ c.aers.length < 8 :=
  ⟨({ nvmeDev with nvme := { nvmeDev.nvme with ctrls := [(1, { held := [⟨2, 0, 4⟩] })] } } : Dev).toState, .fabric 3, 1, { held := [⟨2, 0, 4⟩] }, 5#16, ⟨2, 0, 4⟩, [], by decide +kernel⟩

theorem test_wit_AdminCommands_16 : ∃ (s : State) (src : CmdSource) (k : Nat) (c : Ctrl) (cid : BitVec 16) (op : Nat), s.dev.adminAt src k c = true ∧ op ∉ [0x00, 0x01, 0x02, 0x04, 0x05, 0x06, 0x08, 0x09, 0x0A, 0x0C, 0x18] :=
  ⟨nvmeDev.toState, .fabric 3, 1, { tenant := 3, host := 2, aqp := 3, kato := 1000 }, 5#16, 0x7E, by decide +kernel⟩

theorem test_wit_IoCommands_1 : ∃ (s : State) (src : CmdSource) (k : Nat) (c : Ctrl) (cid : BitVec 16) (a : IoArgs), s.dev.ioAt src k c = true ∧ s.dev.ioCheck src c a ((a.nlb + 1) * s.dev.blockBytes (a.nsid - 1) a.pract) [(a.slba, a.nlb + 1)] (some false) = none ∧ s.dev.foreignVol (s.dev.nsVol (a.nsid - 1)) = false ∧ s.dev.numberFree = true :=
  ⟨volDev.toState, .fabric 1024, 1, { tenant := 3, host := 2, aqp := 3, kato := 1000 }, 5#16, ioArgs 3 1 8192, by decide +kernel⟩

theorem test_wit_IoCommands_1a : ∃ (s : State) (src : CmdSource) (k : Nat) (c : Ctrl) (cid : BitVec 16) (a : IoArgs), s.dev.ioAt src k c = true ∧ s.dev.ioCheck src c a ((a.nlb + 1) * s.dev.blockBytes (a.nsid - 1) a.pract) [(a.slba, a.nlb + 1)] (some false) = none ∧ s.dev.foreignVol (s.dev.nsVol (a.nsid - 1)) = false ∧ s.dev.numberFree = true :=
  ⟨{ volDev with nvme := { volDev.nvme with cmds := [{ id := 3, src := .fabric 1024, op := .write, nsid := 5, io := true, ranges := [(4, 1)] }] } }.toState, .fabric 1024, 1, { tenant := 3, host := 2, aqp := 3, kato := 1000 }, 5#16, ioArgs 3 1 8192, by decide +kernel⟩

theorem test_wit_IoCommands_2 : ∃ (s : State) (src : CmdSource) (k : Nat) (c : Ctrl) (cid : BitVec 16) (a : IoArgs) (data : List Byte), s.dev.ioAt src k c = true ∧ s.dev.ioCheck src c a ((a.nlb + 1) * s.dev.blockBytes (a.nsid - 1) a.pract) [(a.slba, a.nlb + 1)] (some true) = none ∧ s.dev.foreignVol (s.dev.nsVol (a.nsid - 1)) = false ∧ s.dev.numberFree = true :=
  ⟨volDev.toState, .fabric 1024, 1, { tenant := 3, host := 2, aqp := 3, kato := 1000 }, 5#16, ioArgs 99 0 4096, [], by decide +kernel⟩

theorem test_wit_IoCommands_3 : ∃ (s : State) (src : CmdSource) (k : Nat) (c : Ctrl) (cid : BitVec 16) (a : IoArgs) (data : List Byte), s.dev.ioAt src k c = true ∧ s.dev.ioCheck src c { a with fua := false } ((a.nlb + 1) * s.dev.blockBytes (a.nsid - 1) a.pract) [(a.slba, a.nlb + 1)] (some false) = none ∧ s.dev.foreignVol (s.dev.nsVol (a.nsid - 1)) = false ∧ s.dev.numberFree = true :=
  ⟨volDev.toState, .fabric 1024, 1, { tenant := 3, host := 2, aqp := 3, kato := 1000 }, 5#16, ioArgs 99 0 4096, [], by decide +kernel⟩

theorem test_wit_IoCommands_4 : ∃ (s : State) (src : CmdSource) (k : Nat) (c : Ctrl) (cid : BitVec 16) (a : IoArgs), s.dev.ioAt src k c = true ∧ s.dev.ioCheck src c a 0 [(a.slba, a.nlb + 1)] (some true) = none ∧ s.dev.foreignVol (s.dev.nsVol (a.nsid - 1)) = false ∧ s.dev.numberFree = true :=
  ⟨volDev.toState, .fabric 1024, 1, { tenant := 3, host := 2, aqp := 3, kato := 1000 }, 5#16, ioArgs 0 99 0, by decide +kernel⟩

theorem test_wit_IoCommands_5 : ∃ (s : State) (src : CmdSource) (k : Nat) (c : Ctrl) (cid : BitVec 16) (a : IoArgs) (rs : List (Nat × Nat)), s.dev.ioAt src k c = true ∧ s.dev.ioCheck src c a (16 * rs.length) rs (some true) = none ∧ s.dev.foreignVol (s.dev.nsVol (a.nsid - 1)) = false ∧ s.dev.numberFree = true :=
  ⟨volDev.toState, .fabric 1024, 1, { tenant := 3, host := 2, aqp := 3, kato := 1000 }, 5#16, ioArgs 0 0 32, [(1, 2), (50, 50)], by decide +kernel⟩

theorem test_wit_IoCommands_6 : ∃ (s : State) (src : CmdSource) (k : Nat) (c : Ctrl) (cid : BitVec 16) (a : IoArgs), s.dev.ioAt src k c = true ∧ s.dev.ioCheck src c a 0 [] (some true) = none ∧ s.dev.foreignVol (s.dev.nsVol (a.nsid - 1)) = false ∧ s.dev.numberFree = true :=
  ⟨volDev.toState, .fabric 1024, 1, { tenant := 3, host := 2, aqp := 3, kato := 1000 }, 5#16, ioArgs 0 0 0, by decide +kernel⟩

theorem test_wit_IoCommands_7 : ∃ (s : State) (src : CmdSource) (k : Nat) (c : Ctrl) (cid : BitVec 16) (a : IoArgs) (data : List Byte) (e : Nat × Bool), s.dev.ioAt src k c = true ∧ s.dev.ioCheck src c a ((a.nlb + 1) * s.dev.blockBytes (a.nsid - 1) a.pract) [(a.slba, a.nlb + 1)] (some true) = some e :=
  ⟨volDev.toState, .fabric 1024, 1, { tenant := 3, host := 2, aqp := 3, kato := 1000 }, 5#16, ioArgs 99 1 8192, [], (0x080, false), by decide +kernel⟩

theorem test_wit_IoCommands_7a : ∃ (s : State) (src : CmdSource) (k : Nat) (c : Ctrl) (cid : BitVec 16) (a : IoArgs) (data : List Byte) (e : Nat × Bool), s.dev.ioAt src k c = true ∧ s.dev.ioCheck src c a ((a.nlb + 1) * s.dev.blockBytes (a.nsid - 1) a.pract) [(a.slba, a.nlb + 1)] (some true) = some e :=
  ⟨volDev.toState, .fabric 1024, 1, { tenant := 3, host := 2, aqp := 3, kato := 1000 }, 5#16, ioArgs 99 0 4095, [], (0x00F, false), by decide +kernel⟩

theorem test_wit_IoCommands_8 : ∃ (s : State) (src : CmdSource) (k : Nat) (c : Ctrl) (cid : BitVec 16) (a : IoArgs) (e : Nat × Bool), s.dev.ioAt src k c = true ∧ s.dev.ioCheck src c a ((a.nlb + 1) * s.dev.blockBytes (a.nsid - 1) a.pract) [(a.slba, a.nlb + 1)] (some false) = some e :=
  ⟨(volDev.setFld .NS_CFG_TENANT 4 2).toState, .fabric 1024, 1, { tenant := 3, host := 2, aqp := 3, kato := 1000 }, 5#16, ioArgs 99 0 4096, (0x00B, false), by decide +kernel⟩

theorem test_wit_IoCommands_9 : ∃ (s : State) (src : CmdSource) (k : Nat) (c : Ctrl) (cid : BitVec 16) (op : Nat), s.dev.ioAt src k c = true ∧ op ∉ [0x00, 0x01, 0x02, 0x05, 0x08, 0x09, 0x0D, 0x0E, 0x11, 0x15] :=
  ⟨volDev.toState, .fabric 1024, 1, { tenant := 3, host := 2, aqp := 3, kato := 1000 }, 5#16, 0x04, by decide +kernel⟩

/-- `volDev` with the reservation state of namespace 5. -/
def resvDev (r : Resv) : Dev := { volDev with nvme := { volDev.nvme with resv := [(5, r)], ctrls := [(1, { tenant := 3, hostId := 8, aqp := 3 })] } }
theorem test_wit_ReservationsAndOutcomes_1 : ∃ (s : State) (src : CmdSource) (k : Nat) (c : Ctrl) (cid : BitVec 16) (a : IoArgs) (r : ResvArgs), s.dev.ioAt src k c = true ∧ s.dev.ioCheck src c a 16 [] none = none ∧ s.dev.foreignVol (s.dev.nsVol (a.nsid - 1)) = false ∧ s.dev.numberFree = true ∧ (r.action = 0 ∧ r.cptpl ≠ 1) ∧ (s.dev.resvOf a.nsid).regs.all (fun e => e.1 != c.hostId) = true ∧ (s.dev.resvOf a.nsid).regs.length < 64 :=
  ⟨(resvDev { ptpl := true }).toState, .fabric 1024, 1, { tenant := 3, hostId := 8, aqp := 3 }, 5#16, ioArgs 0 0 16, ⟨0, 0, false, 0, 0, 0xAB⟩, by decide +kernel⟩

theorem test_wit_ReservationsAndOutcomes_2 : ∃ (s : State) (src : CmdSource) (k : Nat) (c : Ctrl) (cid : BitVec 16) (a : IoArgs) (r : ResvArgs), s.dev.ioAt src k c = true ∧ s.dev.ioCheck src c a 16 [] none = none ∧ s.dev.foreignVol (s.dev.nsVol (a.nsid - 1)) = false ∧ s.dev.numberFree = true ∧ r.action = 0 ∧ (1 ≤ r.rtype ∧ r.rtype ≤ 6) ∧ ((s.dev.resvOf a.nsid).regs.find? (fun e => e.1 == c.hostId)).map Prod.snd = some r.crkey.toNat ∧ (s.dev.resvOf a.nsid).rtype = 0 :=
  ⟨(resvDev { regs := [(8, 0xAB)] }).toState, .fabric 1024, 1, { tenant := 3, hostId := 8, aqp := 3 }, 5#16, ioArgs 0 0 16, ⟨0, 2, false, 0, 0xAB, 0⟩, by decide +kernel⟩

theorem test_wit_ReservationsAndOutcomes_3 : ∃ (s : State) (src : CmdSource) (k : Nat) (c : Ctrl) (cid : BitVec 16) (a : IoArgs) (r : ResvArgs), s.dev.ioAt src k c = true ∧ s.dev.ioCheck src c a 16 [] none = none ∧ s.dev.foreignVol (s.dev.nsVol (a.nsid - 1)) = false ∧ s.dev.numberFree = true ∧ r.action = 2 ∧ (1 ≤ r.rtype ∧ r.rtype ≤ 6) ∧ ((s.dev.resvOf a.nsid).regs.find? (fun e => e.1 == c.hostId)).map Prod.snd = some r.crkey.toNat ∧ (s.dev.resvOf a.nsid).rtype = 1 ∧ ((s.dev.resvOf a.nsid).regs.find? (fun e => e.1 == (s.dev.resvOf a.nsid).holder)).map Prod.snd = some r.nrkey.toNat ∧ (s.dev.resvOf a.nsid).regs.any (fun e => e.1 != c.hostId && e.2 == r.nrkey.toNat) = true :=
  ⟨(resvDev { regs := [(8, 0xAB), (9, 0xCD)], rtype := 1, holder := 9 }).toState, .fabric 1024, 1, { tenant := 3, hostId := 8, aqp := 3 }, 5#16, ioArgs 0 0 16, ⟨2, 2, false, 0, 0xAB, 0xCD⟩, by decide +kernel⟩

theorem test_wit_ReservationsAndOutcomes_4 : ∃ (s : State) (src : CmdSource) (k : Nat) (c : Ctrl) (cid : BitVec 16) (a : IoArgs) (r : ResvArgs), s.dev.ioAt src k c = true ∧ s.dev.ioCheck src c a 8 [] none = none ∧ s.dev.foreignVol (s.dev.nsVol (a.nsid - 1)) = false ∧ s.dev.numberFree = true ∧ r.action = 0 ∧ ((s.dev.resvOf a.nsid).regs.find? (fun e => e.1 == c.hostId)).map Prod.snd = some r.crkey.toNat ∧ ((s.dev.resvOf a.nsid).rtype = r.rtype ∧ r.rtype ≠ 0) ∧ (5 ≤ r.rtype ∨ (s.dev.resvOf a.nsid).holder = c.hostId) :=
  ⟨(resvDev { regs := [(8, 0xAB), (9, 0xCD)], rtype := 3, holder := 8 }).toState, .fabric 1024, 1, { tenant := 3, hostId := 8, aqp := 3 }, 5#16, ioArgs 0 0 8, ⟨0, 3, false, 0, 0xAB, 0⟩, by decide +kernel⟩

theorem test_wit_ReservationsAndOutcomes_5 : ∃ (s : State) (src : CmdSource) (k : Nat) (c : Ctrl) (cid : BitVec 16) (a : IoArgs) (eds : Bool), s.dev.ioAt src k c = true ∧ s.dev.ioCheck src c a (dataPtrLen a.buf) [] none = none ∧ s.dev.foreignVol (s.dev.nsVol (a.nsid - 1)) = false ∧ s.dev.numberFree = true :=
  ⟨(resvDev { regs := [(8, 0xAB), (9, 0xCD)], rtype := 3, holder := 8 }).toState, .fabric 1024, 1, { tenant := 3, hostId := 8, aqp := 3 }, 5#16, ioArgs 0 0 512, true, by decide +kernel⟩

theorem test_wit_ReservationsAndOutcomes_6 : ∃ (s : State) (k : Nat) (c : Cmd), s.dev.cmd k = some c ∧ c.op = .preempt ∧ c.status = none ∧ s.dev.preemptWaits c = false :=
  ⟨{ volDev with nvme := { volDev.nvme with cmds := [{ id := 3, src := .fabric 1024, op := .preempt, preempted := [9] }] } }.toState, 3, { id := 3, src := .fabric 1024, op := .preempt, preempted := [9] }, by decide +kernel⟩

theorem test_wit_ReservationsAndOutcomes_7 : ∃ (s : State) (k : Nat) (c : Cmd), s.dev.frontUp = true ∧ s.dev.cmd k = some c ∧ c.io = true ∧ (c.completed = false ∧ c.cancelled = false ∧ c.status = none) ∧ c.accepted + s.dev.fld .FE_CFG_CMD_TO * 1000000 < s.dev.nowOn .ln :=
  ⟨{ volDev with time := 999999999999, nvme := { volDev.nvme with cmds := [{ id := 3, src := .fabric 1024, io := true }] } }.toState, 3, { id := 3, src := .fabric 1024, io := true }, by decide +kernel⟩

theorem test_wit_ReservationsAndOutcomes_8 : ∃ (s : State) (k : Nat) (c : Cmd), s.dev.cmd k = some c ∧ c.io = true ∧ c.finished = false ∧ s.dev.mayFinish c = true :=
  ⟨{ volDev with nvme := { volDev.nvme with cmds := [{ id := 3, src := .fabric 1024, op := .write, nsid := 5, vol := 7, io := true, durableAt := some 1 }, { id := 4, src := .fabric 1024, op := .read, nsid := 5, vol := 7, ranges := [(1, 1)], io := true, waits := [3] }] } }.toState, 3, { id := 3, src := .fabric 1024, op := .write, nsid := 5, vol := 7, io := true, durableAt := some 1 }, by decide +kernel⟩

theorem test_wit_ReservationsAndOutcomes_9 : ∃ (s : State) (k i : Nat) (c : Cmd), s.dev.cmd k = some c ∧ s.dev.mayComplete c = true ∧ c.src = .fabric i :=
  ⟨{ volDev with nvme := { volDev.nvme with cmds := [{ id := 3, src := .fabric 1024, op := .write, nsid := 5, vol := 7, io := true, status := some 0x083 }] } }.toState, 3, 1024, { id := 3, src := .fabric 1024, op := .write, nsid := 5, vol := 7, io := true, status := some 0x083 }, by decide +kernel⟩

theorem test_wit_ReservationsAndOutcomes_9a : ∃ (s : State) (k i : Nat) (c : Cmd), s.dev.cmd k = some c ∧ s.dev.mayComplete c = true ∧ c.src = .fabric i :=
  ⟨{ volDev with nvme := { volDev.nvme with cmds := [{ id := 3, src := .fabric 1024, op := .write, nsid := 5, vol := 7, io := true, finished := true, status := some 0, buf := .keyed 0 5 9 true }] } }.toState, 3, 1024, { id := 3, src := .fabric 1024, op := .write, nsid := 5, vol := 7, io := true, finished := true, status := some 0, buf := .keyed 0 5 9 true }, by decide +kernel⟩

theorem test_wit_ReservationsAndOutcomes_10 : ∃ (s : State) (k q : Nat) (fn : Fin 65) (c : Cmd) (x : Ctrl), s.dev.cmd k = some c ∧ s.dev.mayComplete c = true ∧ c.src = .pcie fn q ∧ s.dev.ctrl (pcieCtrl fn.val) = some x :=
  ⟨({ volDev with nvme := { volDev.nvme with cmds := [{ id := 3, src := .pcie 0 0, status := some 0 }], ctrls := [(959, { kind := .pcie, cqs := [(0, { size := 4 })] })] } }.setEpFn 0 { busMaster := true }).toState, 3, 0, 0, { id := 3, src := .pcie 0 0, status := some 0 }, { kind := .pcie, cqs := [(0, { size := 4 })] }, by decide +kernel⟩

/-- `volDev` with namespace 5 inactive and without its media key, and a KEK. -/
def bareNsDev : Dev :=
  let d := (volDev.setFld .NS_CFG_ACTIVE 4 0).setKeySlot keyMedia 4 {}
  { d with cust := { d.cust with kek := some [1#8] } }
theorem test_wit_NamespacesAndHosts_1 : ∃ (s : State) (via : Via) (ns : Fin 4096) (v : Word) (n : Nat), s.dev.commandMade via (Reg.addr .NS_CFG) = true ∧ s.dev.nsNamed via ns.val = some n ∧ s.dev.nsIdle n = true ∧ (s.dev.nsFields n v).nsMayActivate n = true :=
  ⟨((volDev.setFld .NS_SEL_NSID 0 5).setFld .NS_CFG_ACTIVE 4 0).toState, .reg .pf1, 0, 0x81070003#32, 4, by decide +kernel⟩

theorem test_wit_NamespacesAndHosts_1a : ∃ (s : State) (via : Via) (ns : Fin 4096) (v : Word) (n : Nat), s.dev.commandMade via (Reg.addr .NS_CFG) = true ∧ s.dev.nsNamed via ns.val = some n ∧ s.dev.nsIdle n = true ∧ (s.dev.nsFields n v).nsMayActivate n = true :=
  ⟨bareNsDev.withCustodian.toState, .dict 0x205, 4, 0x81070003#32, 4, by decide +kernel⟩

theorem test_wit_NamespacesAndHosts_2 : ∃ (s : State) (via : Via) (ns : Fin 4096) (v : Word) (n : Nat), s.dev.commandMade via (Reg.addr .NS_CFG) = true ∧ s.dev.nsNamed via ns.val = some n ∧ (s.dev.nsIdle n = false ∨ (s.dev.nsFields n v).nsMayActivate n = false) :=
  ⟨(volDev.setFld .NS_SEL_NSID 0 5).toState, .reg .pf1, 0, 0x81070003#32, 4, by decide +kernel⟩

theorem test_wit_NamespacesAndHosts_2a : ∃ (s : State) (via : Via) (ns : Fin 4096) (v : Word) (n : Nat), s.dev.commandMade via (Reg.addr .NS_CFG) = true ∧ s.dev.nsNamed via ns.val = some n ∧ (s.dev.nsIdle n = false ∨ (s.dev.nsFields n v).nsMayActivate n = false) :=
  ⟨((volDev.setFld .NS_SEL_NSID 0 5).setFld .NS_CFG_ACTIVE 4 0).toState, .reg .pf1, 0, 0x85070003#32, 4, by decide +kernel⟩

theorem test_wit_NamespacesAndHosts_3 : ∃ (s : State) (via : Via) (ns : Fin 4096) (n : Nat), s.dev.commandMade via (Reg.addr .NS_CFG) = true ∧ s.dev.nsNamed via ns.val = some n ∧ s.dev.flag .NS_CFG_ACTIVE n = true :=
  ⟨(volDev.setFld .NS_SEL_NSID 0 5).toState, .reg .pf1, 0, 4, by decide +kernel⟩

theorem test_wit_NamespacesAndHosts_4 : ∃ (s : State) (ns : Fin 4096), s.dev.nvme.draining.contains ns.val = true ∧ s.dev.nvme.cmds.all (fun c => !(c.io && c.nsid == ns.val + 1)) = true ∧ s.dev.numberFree = true :=
  ⟨{ volDev.setFld .NS_CFG_ACTIVE 4 0 with nvme := { volDev.nvme with draining := [4] } }.toState, 4, by decide +kernel⟩

theorem test_wit_NamespacesAndHosts_5 : ∃ (s : State) (ns : Fin 4096) (a : Nat), (s.dev.vol (s.dev.nsVol ns.val)).clearing.contains ns.val = true ∧ s.dev.pierUp (s.dev.volPier (s.dev.nsVol ns.val)) = true ∧ s.dev.reservedBusy (s.dev.nsVol ns.val) = false ∧ s.dev.nvme.cmds.all (fun c => c.io || c.op != .deallocate || c.nsid != ns.val + 1) = true ∧ s.dev.nvme.clearAt.find ns.val = some a ∧ s.dev.nsBase ns.val + s.dev.nsSize ns.val ≤ a :=
  ⟨{ (volDev.setFld .NS_CFG_ACTIVE 4 0).setVol 7 { volDev.vol 7 with clearing := [4], bad := [9, 200] } with nvme := { volDev.nvme with clearAt := [(4, 100)] } }.toState, 4, 100, by decide +kernel⟩

theorem test_wit_NamespacesAndHosts_6 : ∃ (s : State) (via : Via) (host : Fin 1024) (v : Word) (h : Nat), s.dev.commandMade via (Reg.addr .HOST_CFG) = true ∧ (match via with | .reg _ => s.dev.fld .HOST_SEL_INDEX | .dict _ => host.val) = h ∧ (bitsOf v 9 0 = s.dev.fld .HOST_CFG_TENANT h ∨ s.dev.hostCtrls h = 0) :=
  ⟨volDev.toState, .reg .pf1, 9, 0xC0000007#32, 0, by decide +kernel⟩

theorem test_wit_NamespacesAndHosts_6a : ∃ (s : State) (via : Via) (host : Fin 1024) (v : Word) (h : Nat), s.dev.commandMade via (Reg.addr .HOST_CFG) = true ∧ (match via with | .reg _ => s.dev.fld .HOST_SEL_INDEX | .dict _ => host.val) = h ∧ (bitsOf v 9 0 = s.dev.fld .HOST_CFG_TENANT h ∨ s.dev.hostCtrls h = 0) :=
  ⟨volDev.withCustodian.toState, .dict 0x205, 1023, 0x001F0007#32, 1023, by decide +kernel⟩

theorem test_wit_NamespacesAndHosts_7 : ∃ (s : State) (via : Via) (host : Fin 1024) (v : Word) (h : Nat), s.dev.commandMade via (Reg.addr .HOST_CFG) = true ∧ (match via with | .reg _ => s.dev.fld .HOST_SEL_INDEX | .dict _ => host.val) = h ∧ bitsOf v 9 0 ≠ s.dev.fld .HOST_CFG_TENANT h ∧ s.dev.hostCtrls h ≠ 0 :=
  ⟨(volDev.setFld .HOST_SEL_INDEX 0 2).toState, .reg .pf1, 9, 0xC0000007#32, 2, by decide +kernel⟩

/-- `serviceDev` with tenant 3 selected, its bursts at reset; MAC 0 with a link and one frame of tenant 3 waiting in class 0 and one in class 1. -/
def tenDev : Dev :=
  let d := ((serviceDev.setFld .TN_SEL_TENANT 0 3).setFld .TN_GLB_METER_EN 0 1).setMac 0 { link := true }
  { d with ten := { d.ten with classQ := [(classKey 0 3 0, [⟨none, 100, 3, 0, 0⟩]), (classKey 0 3 1, [⟨none, 200, 3, 1, 0⟩, ⟨none, 300, 3, 1, 0⟩])] } }
theorem test_wit_TenantsAndScheduling_1 : ∃ (s : State) (req : Requester) (pol shp : Bool) (weight : Fin 256) (k : Nat), s.dev.commandMade (.reg req) (Reg.addr .TN_CFG) = true ∧ s.dev.tnSel = k ∧ k < 1024 ∧ s.dev.flag .TN_CFG_ENABLE k = false :=
  ⟨tenDev.toState, .pf1, true, false, 0, 3, by decide +kernel⟩

theorem test_wit_TenantsAndScheduling_2 : ∃ (s : State) (req : Requester) (pol shp : Bool) (weight : Fin 256) (k : Nat), s.dev.commandMade (.reg req) (Reg.addr .TN_CFG) = true ∧ s.dev.tnSel = k ∧ s.dev.flag .TN_CFG_ENABLE k = true :=
  ⟨(tenDev.setFld .TN_CFG_ENABLE 3 1).toState, .pf1, true, false, 0, 3, by decide +kernel⟩

theorem test_wit_TenantsAndScheduling_3 : ∃ (s : State) (req : Requester) (pol shp : Bool) (weight : Fin 256) (k : Nat), s.dev.commandMade (.reg req) (Reg.addr .TN_CFG) = true ∧ s.dev.tnSel = k ∧ s.dev.flag .TN_CFG_ENABLE k = true ∧ s.dev.tenantBusy k = false :=
  ⟨(tenDev.setFld .TN_CFG_ENABLE 3 1).toState, .pf1, true, false, 0, 3, by decide +kernel⟩

theorem test_wit_TenantsAndScheduling_4 : ∃ (s : State) (req : Requester) (pol shp : Bool) (weight : Fin 256) (k : Nat), s.dev.commandMade (.reg req) (Reg.addr .TN_CFG) = true ∧ s.dev.tnSel = k ∧ s.dev.flag .TN_CFG_ENABLE k = true ∧ s.dev.tenantBusy k = true :=
  ⟨(tenDev.setFld .TN_CFG_ENABLE 3 1 |>.setCtrl 4 { tenant := 3 }).toState, .pf1, true, false, 0, 3, by decide +kernel⟩

theorem test_wit_TenantsAndScheduling_5 : ∃ (s : State) (req : Requester) (v : Word), s.dev.commandMade (.reg req) (Reg.addr .TN_CIR) = true :=
  ⟨tenDev.toState, .pf1, 5000#32, by decide +kernel⟩

theorem test_wit_TenantsAndScheduling_5a : ∃ (s : State) (req : Requester) (v : Word), s.dev.commandMade (.reg req) (Reg.addr .TN_CIR) = true :=
  ⟨(tenDev.setFld .TN_PIR_RATE 3 40).toState, .pf1, 5000#32, by decide +kernel⟩

theorem test_wit_TenantsAndScheduling_6 : ∃ (s : State) (mac : Fin 64) (k c : Nat) (f : TxFrame) (fs : List TxFrame), s.dev.dataPath = true ∧ s.dev.isolated 15 = false ∧ (s.dev.mac mac.val).link = true ∧ (s.dev.mac mac.val).eq2.length < 2 ∧ afterTurn (s.dev.ten.turn2.get 0 mac.val) (s.dev.candidates mac.val (s.dev.eq2Class mac.val)) = some k ∧ s.dev.eq2Class mac.val k = some c ∧ s.dev.classQueue mac.val k c = f :: fs :=
  ⟨tenDev.toState, 0, 3, 0, ⟨none, 100, 3, 0, 0⟩, [], by decide +kernel⟩

theorem test_wit_TenantsAndScheduling_7 : ∃ (s : State) (mac : Fin 64) (k c : Nat) (f : TxFrame) (fs : List TxFrame), s.dev.dataPath = true ∧ s.dev.isolated 15 = false ∧ (s.dev.mac mac.val).link = true ∧ (s.dev.mac mac.val).eq3.length < 2 ∧ (s.dev.candidates mac.val (s.dev.eq3Class mac.val)).contains k = true ∧ s.dev.ten.turn3.get none mac.val = some k ∧ s.dev.eq3Class mac.val k = some c ∧ s.dev.classQueue mac.val k c = f :: fs ∧ (s.dev.cost f.bytes : Int) ≤ s.dev.deficit mac.val k :=
  ⟨{ tenDev with ten := { tenDev.ten with turn3 := [(0, some 3)], deficits := [(3, 9000)] } }.toState, 0, 3, 1, ⟨none, 200, 3, 1, 0⟩, [⟨none, 300, 3, 1, 0⟩], by decide +kernel⟩

theorem test_wit_TenantsAndScheduling_8 : ∃ (s : State) (k : Fin 1024), s.dev.flag .TN_CFG_SHP_EN k.val = true ∧ 0 ≤ s.dev.tokensNow k.val :=
  ⟨{ (tenDev.setFld .TN_CFG_SHP_EN 3 1).setTn 3 { tokens := 5 } with time := 9 }.toState, 3, by decide +kernel⟩

theorem test_wit_TenantsAndScheduling_9 : ∃ (s : State) (mac : Fin 64) (k : Fin 1024) (c : Fin 4), c.val ≠ 0 ∧ s.dev.classQueue mac.val k.val c.val ≠ [] ∧ s.dev.isPromoted mac.val k.val c.val = false ∧ s.dev.ten.heads.get 0 (classKey mac.val k.val c.val) + s.dev.fld .CLS_DL_DL_US (c.val - 1) * 1000 < s.dev.nowOn .ln :=
  ⟨{ tenDev with time := 999999999 }.toState, 0, 3, 1, by decide +kernel⟩

theorem test_wit_TenantsAndScheduling_10 : ∃ (s : State) (k c : Nat), s.dev.mode.diesUp = true ∧ s.dev.isolated 15 = false ∧ s.dev.nowOn .ln % 1000 = 0 ∧ (k < 1024 ∧ c < 4) ∧ s.dev.flag .TN_CFG_ENABLE k = true :=
  ⟨(tenDev.setFld .TN_CFG_ENABLE 3 1).toState, 3, 1, by decide +kernel⟩

theorem test_wit_TenantsAndScheduling_11 : ∃ (s : State) (req : Requester) (bin : Fin 32) (v : Nat), s.dev.served = true ∧ s.dev.blockIsolated (Reg.addr .HIST_BIN bin.val) = false ∧ s.dev.ten.hist.get 0 (histKey (s.dev.fld .HIST_SEL_KIND) (s.dev.fld .HIST_SEL_TENANT) (s.dev.fld .HIST_SEL_CLASS) bin.val) = v :=
  ⟨{ tenDev with ten := { tenDev.ten with hist := [(7, 12)] } }.toState, .pf1, 7, 12, by decide +kernel⟩

theorem test_wit_Meters_1 : ∃ (s : State) (recs : List MeterRec), s.dev.meterRoll.ten.meter.closed = recs ∧ recs ≠ [] :=
  ⟨{ serviceDev with time := 60000000007, ten := { serviceDev.ten with meter := { opened := [(3, { tenant := 3, stop := 60000000000 })] } } }.toState, [{ tenant := 3, stop := 60000000000 }], by decide +kernel⟩

theorem test_wit_Meters_2 : ∃ (s : State) (r : MeterRec) (failed : List Nat), s.dev.meterRoll.ten.meter.closed = [r] ∧ failed.contains r.tenant = true :=
  ⟨{ serviceDev with time := 60000000007, ten := { serviceDev.ten with meter := { opened := [(3, { tenant := 3, stop := 60000000000 })] } } }.toState, { tenant := 3, stop := 60000000000 }, [3], by decide +kernel⟩

theorem test_wit_Meters_3 : ∃ (s : State), s.dev.metersRun = true ∧ s.dev.now % 1000000000 = 0 :=
  ⟨{ (serviceDev.setFld .TN_GLB_METER_EN 0 1) with time := 5000000000, ten := { serviceDev.ten with meter := { opened := [(3, { tenant := 3, stop := 60000000000 })] } } }.toState, by decide +kernel⟩

theorem test_wit_Meters_4 : ∃ (s : State) (req : Requester) (k : Fin 64), s.dev.commandMade (.reg req) (Reg.addr .MTR_KEY) = true :=
  ⟨{ serviceDev with time := 65000000000 }.toState, .pf1, 9, by decide +kernel⟩

theorem test_wit_Meters_5 : ∃ (s : State), s.dev.dataPath = true ∧ s.dev.flag .MTR_EXP_CTL_EN = true ∧ (s.dev.epFn 1).busMaster = true ∧ 0 < s.dev.ten.meter.unexported ∧ (s.dev.ten.meter.expWr + 2 ^ 32 - s.dev.fld .MTR_EXP_RD_INDEX) % 2 ^ s.dev.fld .MTR_EXP_CTL_SIZE_LOG2 < 2 ^ s.dev.fld .MTR_EXP_CTL_SIZE_LOG2 - 1 :=
  ⟨{ ((serviceDev.setFld .MTR_EXP_CTL_EN 0 1).setFld .MTR_EXP_CTL_SIZE_LOG2 0 4).setEpFn 1 { busMaster := true } with ten := { serviceDev.ten with meter := { ring := [(0, { tenant := 3 })], head := 1, unexported := 1 } } }.toState, by decide +kernel⟩

/-- `serviceDev` with a unit waiting for output 9 and one in the pool for it. -/
def poolDev : Dev :=
  { serviceDev with sw := { serviceDev.sw with nextId := 6, minFree := 5, units := [⟨4, 15, 9, 1, 3, 0, .consumer⟩], waiting := [⟨5, 14, 9, 1, 2, 0, .consumer⟩] } }
theorem test_wit_SwitchAndWindows_1 : ∃ (s : State) (id : Nat) (u : PoolUnit), s.dev.sw.waiting.find? (fun w => w.id == id) = some u ∧ s.dev.sw.waiting.find? (fun w => w.input == u.input && w.output == u.output && w.cls == u.cls) = some u ∧ fitsPool (s.dev.alphaExp u.cls) (s.dev.voqOcc u.input u.output u.cls) u.cells s.dev.poolFree = true :=
  ⟨poolDev.toState, 5, ⟨5, 14, 9, 1, 2, 0, .consumer⟩, by decide +kernel⟩

theorem test_wit_SwitchAndWindows_2 : ∃ (s : State) (id : Nat) (u : PoolUnit), s.dev.sw.waiting.find? (fun w => w.id == id) = some u ∧ fitsPool (s.dev.alphaExp u.cls) (s.dev.voqOcc u.input u.output u.cls) u.cells s.dev.poolFree = false :=
  ⟨{ poolDev with sw := { poolDev.sw with units := [⟨4, 15, 9, 1, 655360, 0, .consumer⟩] } }.toState, 5, ⟨5, 14, 9, 1, 2, 0, .consumer⟩, by decide +kernel⟩

theorem test_wit_SwitchAndWindows_3 : ∃ (s : State) (o : Fin 16) (mac : Fin 64) (u : PoolUnit), s.dev.outputUnavailable o.val = false ∧ (8 ≤ o.val ∧ o.val ≠ 11 ∧ o.val ≠ 12) ∧ s.dev.nextUnit o.val = some u :=
  ⟨poolDev.toState, 9, 0, ⟨4, 15, 9, 1, 3, 0, .consumer⟩, by decide +kernel⟩

theorem test_wit_SwitchAndWindows_4 : ∃ (s : State) (o : Fin 16) (mac : Fin 64) (u : PoolUnit) (q id : Nat) (f : TxFrame), s.dev.outputUnavailable o.val = false ∧ (o.val < 8 ∧ mac.val / 8 = o.val) ∧ (s.dev.mac mac.val).wire = some (q, f) ∧ (s.dev.mac mac.val).crossed = false ∧ f.unit = some id ∧ s.dev.sw.units.find? (fun w => w.id == id) = some u ∧ u.output = o.val :=
  ⟨{ poolDev with sw := { poolDev.sw with units := [⟨4, 15, 0, 1, 3, 0, .consumer⟩] } }.setMac 0 { link := true, wire := some (1, ⟨some 4, 700, 0, 1, 0⟩) } |>.toState, 0, 0, ⟨4, 15, 0, 1, 3, 0, .consumer⟩, 1, 4, ⟨some 4, 700, 0, 1, 0⟩, by decide +kernel⟩

theorem test_wit_SwitchAndWindows_5 : ∃ (s : State) (o : Fin 16) (mac : Fin 64) (u : PoolUnit) (cell : Nat), s.dev.outputUnavailable o.val = false ∧ (8 ≤ o.val ∧ o.val ≠ 11 ∧ o.val ≠ 12) ∧ s.dev.nextUnit o.val = some u ∧ u.dest = .consumer :=
  ⟨poolDev.toState, 9, 0, ⟨4, 15, 9, 1, 3, 0, .consumer⟩, 77, by decide +kernel⟩

theorem test_wit_SwitchAndWindows_6 : ∃ (s : State) (req : Requester), s.dev.served = true ∧ s.dev.isolated 16 = false :=
  ⟨poolDev.toState, .cp 3, by decide +kernel⟩

theorem test_wit_SwitchAndWindows_7 : ∃ (s : State), s.dev.managed = true ∧ s.dev.now % 1000000000 = 0 :=
  ⟨{ poolDev.count .RD_RNR_SENT 0 5 with time := 3000000000, evr := { poolDev.evr with missed := 3, refused := 2, refusedAddr := 77 } }.toState, by decide +kernel⟩

/-- `serviceDev` with a KEK and service slot 9 as given, selected by KEY_SEL. -/
def keyDev (x : KeySlot) : Dev :=
  let d := (((serviceDev.setFld .KEY_SEL_KIND 0 2).setFld .KEY_SEL_INDEX 0 9).setFld .KEY_DATA_DATA 3 77).setKeySlot keyService 9 x
  { d with cust := { d.cust with kek := some [1#8], cs := some [2#8] } }
theorem test_wit_KeysInCustody_1 : ∃ (s : State) (via : KeyVia) (kind i : Nat), s.dev.keyCommandMade via = true ∧ s.dev.keyTarget via = (kind, i) ∧ s.dev.mayFill kind i = true ∧ s.dev.cust.rngOk = true :=
  ⟨(keyDev {}).toState, .reg (.cp 3), 2, 9, by decide +kernel⟩

theorem test_wit_KeysInCustody_1a : ∃ (s : State) (via : KeyVia) (kind i : Nat), s.dev.keyCommandMade via = true ∧ s.dev.keyTarget via = (kind, i) ∧ s.dev.mayFill kind i = true ∧ s.dev.cust.rngOk = true :=
  ⟨(keyDev {}).withCustodian.toState, .media 0x205 4095, 0, 4095, by decide +kernel⟩

theorem test_wit_KeysInCustody_2 : ∃ (s : State) (via : KeyVia) (kind i : Nat), s.dev.keyCommandMade via = true ∧ s.dev.keyTarget via = (kind, i) ∧ (s.dev.mayFill kind i = false ∨ s.dev.cust.rngOk = false) :=
  ⟨(keyDev { state := .loaded }).toState, .reg (.cp 3), 2, 9, by decide +kernel⟩

theorem test_wit_KeysInCustody_3 : ∃ (s : State) (via : KeyVia) (kind i : Nat) (cs : List Byte), s.dev.keyCommandMade via = true ∧ (s.dev.served = true ∧ s.dev.blockIsolated (Reg.addr .KEY_CMD) = false) ∧ s.dev.keyTarget via = (kind, i) ∧ s.dev.mayFill kind i = true ∧ s.dev.cust.cs = some cs :=
  ⟨(keyDev {}).toState, .reg (.cp 3), 2, 9, [2#8], by decide +kernel⟩

theorem test_wit_KeysInCustody_4 : ∃ (s : State) (kind : Fin 4) (slot : Fin 4096) (key : Nat), (s.dev.keySlot kind.val slot.val).running = some (.store key) :=
  ⟨(keyDev { running := some (.store 5) }).toState, 2, 9, 5, by decide +kernel⟩

theorem test_wit_KeysInCustody_5 : ∃ (s : State) (via : KeyVia) (kind i : Nat), s.dev.keyCommandMade via = true ∧ s.dev.keyTarget via = (kind, i) ∧ i < keySlotCount kind ∧ ((s.dev.keySlot kind i).state = .loaded ∨ (s.dev.keySlot kind i).state = .unreadable) ∧ (s.dev.keySlot kind i).running = none ∧ s.dev.destroyRefused s.dev.nsActive (fun v => decide ((s.dev.vol v).st ≠ .none)) kind i = false :=
  ⟨(keyDev { state := .loaded, key := 4 }).toState, .reg (.cp 3), 2, 9, by decide +kernel⟩

theorem test_wit_KeysInCustody_6 : ∃ (s : State) (via : KeyVia) (kind i : Nat), s.dev.keyCommandMade via = true ∧ s.dev.keyTarget via = (kind, i) ∧ s.dev.destroyRefused s.dev.nsActive (fun v => decide ((s.dev.vol v).st ≠ .none)) kind i = true :=
  ⟨((keyDev { state := .loaded, key := 4 }).setFld .KEY_SEL_KIND 0 3).toState, .reg (.cp 3), 3, 9, by decide +kernel⟩

theorem test_wit_KeysInCustody_7 : ∃ (s : State) (kind : Fin 4) (slot : Fin 4096), (s.dev.keySlot kind.val slot.val).state = .destroying ∧ kind.val ≠ 0 ∧ s.dev.cust.jobs.all (fun j => j.desc.key != slot.val || j.key.isNone) = true :=
  ⟨(keyDev { state := .destroying, key := 4, running := some .destroy }).toState, 2, 9, by decide +kernel⟩

theorem test_wit_KeysInCustody_8 : ∃ (s : State) (n : Nat) (enc : Bool) (secret : BitVec 256), (sessionPort n ≠ 1 ∨ (enc = true ∧ s.dev.sessionLevel n = .custodian)) ∧ s.dev.modeNow ≠ .safe ∧ s.dev.ldg.stateLoaded = true ∧ s.dev.od.secretRefused.get none (sessionPort n) = none ∧ s.dev.cust.wrapped.kcvA = none :=
  ⟨{ serviceDev with ldg := { serviceDev.ldg with stateLoaded := true } }.toState, 0, false, 77#256, by decide +kernel⟩

theorem test_wit_KeysInCustody_9 : ∃ (s : State) (n : Nat) (enc : Bool) (old new : BitVec 256), s.dev.sessionLevel n = .custodian ∧ (sessionPort n ≠ 1 ∨ enc = true) ∧ s.dev.modeNow ≠ .safe ∧ s.dev.ldg.stateLoaded = true ∧ s.dev.od.secretRefused.get none (sessionPort n) = none ∧ s.dev.cust.wrapped.kcvA = none :=
  ⟨{ serviceDev.withCustodian with ldg := { serviceDev.ldg with stateLoaded := true } }.toState, 0x205, true, 77#256, 78#256, by decide +kernel⟩

theorem test_wit_KeysInCustody_10 : ∃ (s : State) (n : Nat) (enc : Bool) (secret : BitVec 256), sessionPort n ≠ 1 ∧ s.dev.modeNow ≠ .safe ∧ s.dev.ldg.stateLoaded = false :=
  ⟨{ serviceDev with ldg := { serviceDev.ldg with stateLoaded := false } }.toState, 0, false, 77#256, by decide +kernel⟩

/-- `serviceDev` with secrets, a unit in the pool, and PF1's bus mastering on with the offload ring enabled. -/
def almDev : Dev :=
  let d := ((serviceDev.setFld .OFL_CTL_EN 0 1).setFld .OFL_CTL_SIZE_LOG2 0 4).setEpFn 1 { busMaster := true }
  { d with cust := { d.cust with kek := some [1#8], cs := some [2#8], slots := [(4, { state := .loaded, key := 9 })] }
           sw := { d.sw with units := [⟨4, 15, 9, 1, 3, 0, .consumer⟩] } }
/-- An offload descriptor of key 3. -/
def oflDesc : OffloadDesc := ⟨1, 3, 16, 0, 0, 0, 0, 0, 0⟩
theorem test_wit_AlarmsAndOffload_1 : ∃ (s : State), s.dev.cust.alarms = 0 :=
  ⟨almDev.toState, by decide +kernel⟩

theorem test_wit_AlarmsAndOffload_2 : ∃ (s : State), s.dev.cust.alarms % 2 = 1 :=
  ⟨{ almDev with cust := { almDev.cust with alarms := 1 } }.toState, by decide +kernel⟩

theorem test_wit_AlarmsAndOffload_3 : ∃ (s : State) (u : GlitchSupply) (mv lo hi : Nat), s.dev.glitchLimits u = some (lo, hi) ∧ mv < lo ∧ s.dev.cust.alarms = 0 ∧ s.dev.cust.dipAt = none :=
  ⟨almDev.toState, .standby, 2799, 2800, 3800, by decide +kernel⟩

theorem test_wit_AlarmsAndOffload_4 : ∃ (s : State) (u : Nat), s.dev.cust.alarms = 0 ∧ s.dev.cust.dipAt = some u ∧ s.dev.now ≤ u + 1000000 :=
  ⟨{ almDev with cust := { almDev.cust with dipAt := some 0 } }.toState, 0, by decide +kernel⟩

theorem test_wit_AlarmsAndOffload_5 : ∃ (s : State), s.dev.cust.rngOk = true :=
  ⟨almDev.toState, by decide +kernel⟩

theorem test_wit_AlarmsAndOffload_7 : ∃ (s : State) (r : Requester) (v : Word), s.dev.commandMade (.reg r) (Reg.addr .ALM_CFG) = true ∧ s.dev.privileged r = true ∧ s.dev.modeNow = .commission :=
  ⟨{ almDev with mode := { almDev.mode with commissioned := false } }.toState, .cp 3, 3#32, by decide +kernel⟩

theorem test_wit_AlarmsAndOffload_8 : ∃ (s : State) (r : Requester) (v : Word), s.dev.commandMade (.reg r) (Reg.addr .ALM_CFG) = true ∧ (s.dev.privileged r = false ∨ s.dev.modeNow ≠ .commission) :=
  ⟨{ almDev with mode := { almDev.mode with commissioned := false } }.toState, .pf1, 3#32, by decide +kernel⟩

theorem test_wit_AlarmsAndOffload_8a : ∃ (s : State) (r : Requester) (v : Word), s.dev.commandMade (.reg r) (Reg.addr .ALM_CFG) = true ∧ (s.dev.privileged r = false ∨ s.dev.modeNow ≠ .commission) :=
  ⟨almDev.toState, .cp 3, 3#32, by decide +kernel⟩

theorem test_wit_AlarmsAndOffload_9 : ∃ (s : State) (req : Requester) (tail : Word) (x : OffloadDesc), s.dev.commandMade (.reg req) (Reg.addr .OFL_TAIL) = true ∧ s.dev.offloadRuns = true ∧ s.dev.cust.taken ≠ tail.toNat :=
  ⟨almDev.toState, .pf1, 1#32, oflDesc, by decide +kernel⟩

theorem test_wit_AlarmsAndOffload_10 : ∃ (s : State) (index : Word) (ok : Bool) (aad data tag : List Byte) (j : OffloadJob), (s.dev.cust.jobs.find? (fun j => j.index == index.toNat) = some j ∧ s.dev.offloadRuns = true) :=
  ⟨{ almDev with cust := { almDev.cust with jobs := [⟨0, oflDesc, none⟩] } }.toState, 0#32, true, [], [], [], ⟨0, oflDesc, none⟩, by decide +kernel⟩

theorem test_wit_AlarmsAndOffload_10a : ∃ (s : State) (index : Word) (ok : Bool) (aad data tag : List Byte) (j : OffloadJob), (s.dev.cust.jobs.find? (fun j => j.index == index.toNat) = some j ∧ s.dev.offloadRuns = true) :=
  ⟨{ almDev with cust := { almDev.cust with jobs := [⟨0, oflDesc, some 5⟩] } }.toState, 0#32, false, [], [], [], ⟨0, oflDesc, some 5⟩, by decide +kernel⟩

/-- `serviceDev` with four spare drives named as members of volume 7 for CREATE, and a parity key in its slot. -/
def makeDev : Dev :=
  let d := ((serviceDev.setFld .VOL_CFG_WIDTH 7 4).setFld .VOL_CFG_STRIP 7 6).setKeySlot keyParity 7 { state := .loaded, key := 6 }
  (List.range 4).foldl (fun d m => ((d.setFld .VOL_MEMBER_USED (memberInst 7 m) 1).setFld .VOL_MEMBER_SLOT (memberInst 7 m) (10 + m)).setDrive (10 + m)
    { st := .spare, mbs := some 0, units := 2000000 + m }) d

/-- `makeDev` after its CREATE, with the stamps durable. -/
def madeDev (st : MState) (key : KeyState) : Dev :=
  let d := (makeDev.setKeySlot keyParity 7 { state := key, key := 6 }).setVol 7 { st := .creating, creating := true, cap := 2000000, gen := 1, members := (List.range 4).map (fun m =>
    (m, { st := if m = 3 then st else .online, slot := 10 + m, gen := 1 })) }
  { d with cust := { d.cust with kek := some [1#8] } }
theorem test_wit_VolumesCreatedAndDeleted_1 : ∃ (s : State) (via : Via) (volume : Fin 64) (v : Nat), s.dev.commandMade via (s.dev.pairAddr .VOL_CMD) = true ∧ volume.val = v ∧ s.dev.mayCreate v = true :=
  ⟨makeDev.toState, .reg (.cp 3), 7, 7, by decide +kernel⟩

theorem test_wit_VolumesCreatedAndDeleted_1a : ∃ (s : State) (via : Via) (volume : Fin 64) (v : Nat), s.dev.commandMade via (s.dev.pairAddr .VOL_CMD) = true ∧ volume.val = v ∧ s.dev.mayCreate v = true :=
  ⟨makeDev.withCustodian.toState, .dict 0x205, 7, 7, by decide +kernel⟩

theorem test_wit_VolumesCreatedAndDeleted_2 : ∃ (s : State) (via : Via) (volume : Fin 64) (v : Nat), s.dev.commandMade via (s.dev.pairAddr .VOL_CMD) = true ∧ volume.val = v ∧ s.dev.mayCreate v = false :=
  ⟨(makeDev.setFld .VOL_CFG_STRIP 7 5).toState, .reg (.cp 3), 7, 7, by decide +kernel⟩

theorem test_wit_VolumesCreatedAndDeleted_2a : ∃ (s : State) (via : Via) (volume : Fin 64) (v : Nat), s.dev.commandMade via (s.dev.pairAddr .VOL_CMD) = true ∧ volume.val = v ∧ s.dev.mayCreate v = false :=
  ⟨(makeDev.setDrive 12 { st := .spare, mbs := some 1, units := 2000000 }).toState, .reg (.cp 3), 7, 7, by decide +kernel⟩

theorem test_wit_VolumesCreatedAndDeleted_3 : ∃ (s : State) (volume : Fin 64) (v : Nat), volume.val = v ∧ (s.dev.vol v).st = .creating ∧ (s.dev.keySlot keyParity v).state = .loaded ∧ s.dev.reservedBusy v = false :=
  ⟨(madeDev .online .loaded).toState, 7, 7, by decide +kernel⟩

theorem test_wit_VolumesCreatedAndDeleted_3a : ∃ (s : State) (volume : Fin 64) (v : Nat), volume.val = v ∧ (s.dev.vol v).st = .creating ∧ (s.dev.keySlot keyParity v).state = .loaded ∧ s.dev.reservedBusy v = false :=
  ⟨(madeDev .missing .loaded).toState, 7, 7, by decide +kernel⟩

theorem test_wit_VolumesCreatedAndDeleted_4 : ∃ (s : State) (volume : Fin 64) (v : Nat), volume.val = v ∧ (s.dev.vol v).st = .creating ∧ (s.dev.keySlot keyParity v).state = .empty ∧ (s.dev.keySlot keyParity v).running = none ∧ (s.dev.cust.kek.isSome = true ∧ s.dev.cust.rngOk = true) ∧ s.dev.reservedBusy v = false :=
  ⟨(madeDev .online .empty).toState, 7, 7, by decide +kernel⟩

theorem test_wit_VolumesCreatedAndDeleted_5 : ∃ (s : State) (via : Via) (volume : Fin 64) (v : Nat), s.dev.commandMade via (s.dev.pairAddr .VOL_CMD) = true ∧ volume.val = v ∧ (s.dev.vol v).st ∉ [VState.none, .creating, .deleting] ∧ s.dev.volInUse v = false :=
  ⟨(volDev.setFld .NS_CFG_ACTIVE 4 0).toState, .reg (.cp 3), 7, 7, by decide +kernel⟩

theorem test_wit_VolumesCreatedAndDeleted_6 : ∃ (s : State) (via : Via) (volume : Fin 64) (v : Nat), s.dev.commandMade via (s.dev.pairAddr .VOL_CMD) = true ∧ volume.val = v ∧ ((s.dev.vol v).st ∈ [VState.none, .creating, .deleting] ∨ s.dev.volInUse v = true) :=
  ⟨volDev.toState, .reg (.cp 3), 7, 7, by decide +kernel⟩

theorem test_wit_VolumesCreatedAndDeleted_7 : ∃ (s : State) (volume : Fin 64) (v : Nat), volume.val = v ∧ (s.dev.vol v).st = .deleting ∧ s.dev.reservedBusy v = false ∧ (s.dev.pier (s.dev.volPier v)).recs.any (fun r => r.volume == v && r.kind != 0 && !r.retired) = false ∧ (s.dev.vol v).members.all (fun e => decide (e.2.slot < 24)) = true :=
  ⟨{ (volDev.setVol 7 { volDev.vol 7 with st := .deleting }).setDrive 2 { st := .online, volume := 7, index := 2, stamp := some {} } with mode := volDev.mode }.toState, 7, 7, by decide +kernel⟩

/-- `volDev` with write command 3 of a whole stripe, or of part of one, dispatched. -/
def writeDev (c : Cmd) : Dev :=
  { volDev with nvme := { volDev.nvme with cmds := [{ c with op := .write, nsid := 5, vol := 7, io := true, dispatched := true }] } }

/-- `writeDev` with member command 9 outstanding. -/
def endDev (c : Cmd) (m : MCmd) : Dev :=
  let d := (writeDev c).setPier 0 { recs := [{ seq := 2, volume := 7, committed := true, applying := true, rows := [{ stripe := 0, row := 0, waits := [0, 3] }] }] }
  { d with store := { d.store with mcmds := [{ m with id := 9, volume := 7 }], nextMcmd := 20 } }
theorem test_wit_MemberReadsAndWrites_1 : ∃ (s : State) (cmd stripe : Nat) (c : Cmd), s.dev.cmd cmd = some c ∧ (c.op.writes = true ∧ c.dispatched = true ∧ c.held = false ∧ c.status = none ∧ c.record = none ∧ s.dev.pierUp (s.dev.volPier c.vol) = true) ∧ (s.dev.fullStripes c).any (fun k => k.2 == stripe) = true ∧ stripe ∉ c.claimed ∧ (s.dev.pier (s.dev.volPier c.vol)).accs.length < accumulators :=
  ⟨(writeDev { id := 3, src := .fabric 1024, ranges := [(0, 2)], need := 8192 }).toState, 3, 0, { id := 3, src := .fabric 1024, ranges := [(0, 2)], need := 8192, op := .write, nsid := 5, vol := 7, io := true, dispatched := true }, by decide +kernel⟩

theorem test_wit_MemberReadsAndWrites_2 : ∃ (s : State) (cmd stripe : Nat) (c : Cmd), s.dev.cmd cmd = some c ∧ (c.op.writes = true ∧ c.dispatched = true ∧ c.held = false ∧ c.status = none ∧ c.record = none ∧ s.dev.pierUp (s.dev.volPier c.vol) = true) ∧ (s.dev.fullStripes c).any (fun k => k.2 == stripe) = true ∧ stripe ∉ c.claimed ∧ accumulators ≤ (s.dev.pier (s.dev.volPier c.vol)).accs.length ∧ c.waitAcc = false :=
  ⟨((writeDev { id := 3, src := .fabric 1024, ranges := [(0, 2)] }).setPier 0 { accs := (List.range 16).map (fun k => (9, k)) }).toState, 3, 0, { id := 3, src := .fabric 1024, ranges := [(0, 2)], op := .write, nsid := 5, vol := 7, io := true, dispatched := true }, by decide +kernel⟩

theorem test_wit_MemberReadsAndWrites_3 : ∃ (s : State) (cmd need : Nat) (c : Cmd), s.dev.cmd cmd = some c ∧ (c.op.writes = true ∧ c.dispatched = true ∧ c.held = false ∧ c.status = none ∧ c.record = none ∧ s.dev.pierUp (s.dev.volPier c.vol) = true) ∧ c.staging = 0 ∧ unitBytes * (((s.dev.cmdRows c).filter (fun e => !(s.dev.fullStripes c).contains (e.1.newGeo, e.1.stripe))).map (fun e => e.2.length + 2)).sum = need ∧ 0 < need ∧ s.dev.stagedBytes (s.dev.volPier c.vol) + need ≤ 8 * 2 ^ 30 :=
  ⟨(writeDev { id := 3, src := .fabric 1024, ranges := [(1, 1)] }).toState, 3, 4160 * 3, { id := 3, src := .fabric 1024, ranges := [(1, 1)], op := .write, nsid := 5, vol := 7, io := true, dispatched := true }, by decide +kernel⟩

theorem test_wit_MemberReadsAndWrites_4 : ∃ (s : State) (cmd need : Nat) (c : Cmd), s.dev.cmd cmd = some c ∧ (c.op.writes = true ∧ c.dispatched = true ∧ c.held = false ∧ c.status = none ∧ c.record = none ∧ s.dev.pierUp (s.dev.volPier c.vol) = true) ∧ (c.staging = 0 ∧ c.waitStage = none) ∧ unitBytes * (((s.dev.cmdRows c).filter (fun e => !(s.dev.fullStripes c).contains (e.1.newGeo, e.1.stripe))).map (fun e => e.2.length + 2)).sum = need ∧ 0 < need ∧ 8 * 2 ^ 30 < s.dev.stagedBytes (s.dev.volPier c.vol) + need :=
  ⟨{ writeDev { id := 3, src := .fabric 1024, ranges := [(1, 1)] } with nvme := { volDev.nvme with cmds := [{ id := 3, src := .fabric 1024, ranges := [(1, 1)], op := .write, nsid := 5, vol := 7, io := true, dispatched := true }, { id := 4, src := .fabric 1024, vol := 7, staging := 8 * 2 ^ 30 }] } }.toState, 3, 4160 * 3, { id := 3, src := .fabric 1024, ranges := [(1, 1)], op := .write, nsid := 5, vol := 7, io := true, dispatched := true }, by decide +kernel⟩

theorem test_wit_MemberReadsAndWrites_5 : ∃ (s : State) (id : Nat) (stored : List Byte) (c : MCmd) (cmd st row x : Nat) (ng : Bool) (y : Cmd), s.dev.store.mcmds.find? (fun c => c.id == id && !c.write) = some c ∧ c.use = .read cmd ng st row x ∧ s.dev.pierRuns (slotLanes c.slot) 0 = true ∧ s.dev.cmd cmd = some y ∧ 2 ≤ y.reading :=
  ⟨(endDev { id := 3, src := .fabric 1024, ranges := [(1, 1)], reading := 3 } { use := .read 3 false 0 0 1 }).toState, 9, [1, 2], { id := 9, volume := 7, use := .read 3 false 0 0 1 }, 3, 0, 0, 1, false, { id := 3, src := .fabric 1024, ranges := [(1, 1)], reading := 3, op := .write, nsid := 5, vol := 7, io := true, dispatched := true }, by decide +kernel⟩

theorem test_wit_MemberReadsAndWrites_5a : ∃ (s : State) (id : Nat) (stored : List Byte) (c : MCmd) (cmd st row x : Nat) (ng : Bool) (y : Cmd), s.dev.store.mcmds.find? (fun c => c.id == id && !c.write) = some c ∧ c.use = .read cmd ng st row x ∧ s.dev.pierRuns (slotLanes c.slot) 0 = true ∧ s.dev.cmd cmd = some y ∧ 2 ≤ y.reading :=
  ⟨(endDev { id := 3, src := .fabric 1024, ranges := [(1, 1)], reading := 3 } { use := .read 3 false 0 0 1, again := true }).toState, 9, [1, 2], { id := 9, volume := 7, use := .read 3 false 0 0 1, again := true }, 3, 0, 0, 1, false, { id := 3, src := .fabric 1024, ranges := [(1, 1)], reading := 3, op := .write, nsid := 5, vol := 7, io := true, dispatched := true }, by decide +kernel⟩

theorem test_wit_MemberReadsAndWrites_6 : ∃ (s : State) (id : Nat) (c : MCmd) (p seq st row x : Nat) (ng : Bool) (r : IRec) (y : Row), s.dev.store.mcmds.find? (fun c => c.id == id && c.write && c.use != .flush) = some c ∧ s.dev.pierRuns (slotLanes c.slot) 0 = true ∧ s.dev.own.learned.get 1 c.slot ≤ c.epoch ∧ c.use = .record p seq ng st row x ∧ s.dev.slotVwc c.slot = false ∧ s.dev.record p seq = some r ∧ r.rowAt ng st row = some y :=
  ⟨(endDev { id := 3, src := .fabric 1024 } { write := true, slot := 2, use := .record 0 2 false 0 0 0, epoch := 1 }).toState, 9, { id := 9, volume := 7, write := true, slot := 2, use := .record 0 2 false 0 0 0, epoch := 1 }, 0, 2, 0, 0, 0, false, { seq := 2, volume := 7, committed := true, applying := true, rows := [{ stripe := 0, row := 0, waits := [0, 3] }] }, { stripe := 0, row := 0, waits := [0, 3] }, by decide +kernel⟩

theorem test_wit_MemberReadsAndWrites_7 : ∃ (s : State) (id : Nat) (c : MCmd) (v m gen : Nat), s.dev.store.mcmds.find? (fun c => c.id == id && c.write && c.use != .flush) = some c ∧ s.dev.pierRuns (slotLanes c.slot) 0 = true ∧ s.dev.own.learned.get 1 c.slot ≤ c.epoch ∧ c.use = .stamp v m gen ∧ s.dev.slotVwc c.slot = false ∧ ((s.dev.mem v m).slot = c.slot ∧ ((s.dev.vol v).members.find m).isSome = true) :=
  ⟨(endDev { id := 3, src := .fabric 1024 } { write := true, slot := 2, use := .stamp 7 2 4, epoch := 1 }).toState, 9, { id := 9, volume := 7, write := true, slot := 2, use := .stamp 7 2 4, epoch := 1 }, 7, 2, 4, by decide +kernel⟩

theorem test_wit_MemberReadsAndWrites_8 : ∃ (s : State) (id : Nat) (c : MCmd), s.dev.store.mcmds.find? (fun c => c.id == id && c.write && c.use != .flush) = some c ∧ s.dev.pierRuns (slotLanes c.slot) 0 = true ∧ s.dev.own.learned.get 1 c.slot ≤ c.epoch ∧ c.again = false :=
  ⟨(endDev { id := 3, src := .fabric 1024 } { write := true, slot := 2, use := .stamp 7 2 4, epoch := 1 }).toState, 9, { id := 9, volume := 7, write := true, slot := 2, use := .stamp 7 2 4, epoch := 1 }, by decide +kernel⟩

theorem test_wit_MemberReadsAndWrites_9 : ∃ (s : State) (id : Nat) (c : MCmd) (v m : Nat), s.dev.store.mcmds.find? (fun c => c.id == id && c.write && c.use != .flush) = some c ∧ s.dev.pierRuns (slotLanes c.slot) 0 = true ∧ s.dev.own.learned.get 1 c.slot ≤ c.epoch ∧ c.again = true ∧ s.dev.memberOf c.slot = some (v, m) :=
  ⟨(((endDev { id := 3, src := .fabric 1024 } { write := true, slot := 2, use := .repair, epoch := 1, again := true }).setDrive 2 { st := .online, volume := 7, index := 2 })).toState, 9, { id := 9, volume := 7, write := true, slot := 2, use := .repair, epoch := 1, again := true }, 7, 2, by decide +kernel⟩

theorem test_wit_MemberReadsAndWrites_10 : ∃ (s : State) (id : Nat) (c : MCmd) (result : MemberEnd), s.dev.store.mcmds.find? (fun c => c.id == id && c.write && c.use != .flush) = some c ∧ s.dev.pierRuns (slotLanes c.slot) 0 = true ∧ (c.epoch < s.dev.own.learned.get 1 c.slot ∨ result = .conflict) ∧ (c.pier < 2 ∧ (s.dev.pierOwn c.pier).fenced = false) :=
  ⟨(endDev { id := 3, src := .fabric 1024 } { write := true, slot := 2, use := .repair, epoch := 1 }).toState, 9, { id := 9, volume := 7, write := true, slot := 2, use := .repair, epoch := 1 }, .conflict, by decide +kernel⟩

theorem test_wit_MemberReadsAndWrites_10a : ∃ (s : State) (id : Nat) (c : MCmd) (result : MemberEnd), s.dev.store.mcmds.find? (fun c => c.id == id && c.write && c.use != .flush) = some c ∧ s.dev.pierRuns (slotLanes c.slot) 0 = true ∧ (c.epoch < s.dev.own.learned.get 1 c.slot ∨ result = .conflict) ∧ (c.pier < 2 ∧ (s.dev.pierOwn c.pier).fenced = false) :=
  ⟨{ endDev { id := 3, src := .fabric 1024 } { write := true, slot := 2, use := .repair, epoch := 1 } with own := { learned := [(2, 5)] } }.toState, 9, { id := 9, volume := 7, write := true, slot := 2, use := .repair, epoch := 1 }, .ok, by decide +kernel⟩

theorem test_wit_ParityPlacement_1 : ∃ (g : Geom) (k p : Nat), (4 ≤ g.n ∧ g.n ≤ 24) ∧ p = g.n - 1 - k % g.n :=
  ⟨⟨22, 16⟩, 1000, 11, by decide +kernel⟩

theorem test_wit_ParityPlacement_1a : ∃ (g : Geom) (k p : Nat), (4 ≤ g.n ∧ g.n ≤ 24) ∧ p = g.n - 1 - k % g.n :=
  ⟨⟨4, 16⟩, 3, 0, by decide +kernel⟩

theorem test_wit_ParityPlacement_1b : ∃ (g : Geom) (k p : Nat), (4 ≤ g.n ∧ g.n ≤ 24) ∧ p = g.n - 1 - k % g.n :=
  ⟨⟨24, 256⟩, 48, 23, by decide +kernel⟩

theorem test_wit_RowRecovery_1 : ∃ (ds : List Block) (n : Nat) (r : RowView), (2 ≤ ds.length ∧ ds.length ≤ 22 ∧ ds.all (fun b => b.length == n) = true) ∧ (r.length = ds.length + 2 ∧ (List.range r.length).all (fun j => (r.getD j none).isNone || r.getD j none == (wholeRow ds)[j]?) = true) :=
  ⟨[[0x5C#8, 1#8], [1#8, 7#8], [2#8, 0xFF#8]], 2, [none, some [1#8, 7#8], none, some [0x5F#8, 0xF9#8], some [0x56#8, 0xD4#8]], by decide +kernel⟩

theorem test_wit_RowRecovery_1a : ∃ (ds : List Block) (n : Nat) (r : RowView), (2 ≤ ds.length ∧ ds.length ≤ 22 ∧ ds.all (fun b => b.length == n) = true) ∧ (r.length = ds.length + 2 ∧ (List.range r.length).all (fun j => (r.getD j none).isNone || r.getD j none == (wholeRow ds)[j]?) = true) :=
  ⟨[[0x5C#8], [1#8], [2#8]], 1, [none, none, some [2#8], none, none], by decide +kernel⟩

/-- `volDev` with both pairs of ledger dies and a write, gathered and staged, for `RECORD_OPEN`. -/
def openDev (f : Cmd → Cmd) : Dev :=
  { volDev with
    ldg := { volDev.ldg with dieOk := [0, 1, 2, 3] }
    nvme := { volDev.nvme with cmds := [f { id := 3, src := .fabric 1024, op := .zeroes, nsid := 5, vol := 7, io := true, dispatched := true, ranges := [(0, 2)],
                                            checked := true, gathered := true, claimed := [0] }] } }

/-- The command of `openDev`. -/
def openCmd : Cmd :=
  { id := 3, src := .fabric 1024, op := .zeroes, nsid := 5, vol := 7, io := true, dispatched := true, ranges := [(0, 2)], checked := true, gathered := true, claimed := [0] }

/-- The rows of a command's record. -/
def openRows (d : Dev) (c : Cmd) : List Row := ((d.cmdRows c).map (fun e => d.buildRow c (d.fullStripes c) e.1 e.2)).filterMap id

/-- `openDev` with a record of command 3 in Pier East's ring. -/
def recDev (r : IRec) : Dev := (openDev id).setPier 0 { recs := [r], seq := 3 }

/-- A record of two rows for `recDev`. -/
def testRec : IRec :=
  { seq := 2, volume := 7, cmd := some 3, units := 2, length := 256, rows := [{ stripe := 0, row := 0, news := [(0, [1#8], [2#8]), (1, [3#8], [4#8])], p := [5#8], q := [6#8], kind := .full }] }
theorem test_wit_IntentRecords_1 : ∃ (s : State) (cmd p : Nat) (c : Cmd) (rows : List Row), s.dev.cmd cmd = some c ∧ s.dev.volPier c.vol = p ∧ (s.dev.readyToOpen c = true ∧ s.dev.pierUp p = true) ∧ (256 ≤ s.dev.ringSegs p ∧ (s.dev.pairOk 0 || s.dev.pairOk 1) = true ∧ s.dev.partlyListed c = false) ∧ ((s.dev.cmdRows c).map (fun e => s.dev.buildRow c (s.dev.fullStripes c) e.1 e.2)).all (fun y => y.isSome) = true ∧ ((s.dev.cmdRows c).map (fun e => s.dev.buildRow c (s.dev.fullStripes c) e.1 e.2)).filterMap id = rows ∧ s.dev.stripeOpen p c.vol ((rows.map (fun y => (y.newGeo, y.stripe))).eraseDups) = false ∧ (s.dev.betweenBounds c.vol (s.dev.cmdUnits c) = false ∧ s.dev.mirrors = false) ∧ (s.dev.ringRoom p (recordLength (s.dev.gran c.vol) rows) = true ∧ s.dev.secondaryRoom p c.vol (recordLength (s.dev.gran c.vol) rows) = true) :=
  ⟨(openDev id).toState, 3, 0, openCmd, openRows (openDev id) openCmd, by decide +kernel, by decide +kernel, by decide +kernel, by decide +kernel, by decide +kernel, rfl, by decide +kernel, by decide +kernel, by decide +kernel⟩

theorem test_wit_IntentRecords_2 : ∃ (s : State) (cmd p : Nat) (c : Cmd) (rows : List Row), s.dev.cmd cmd = some c ∧ s.dev.volPier c.vol = p ∧ (s.dev.readyToOpen c = true ∧ s.dev.pierUp p = true) ∧ (256 ≤ s.dev.ringSegs p ∧ (s.dev.pairOk 0 || s.dev.pairOk 1) = true ∧ s.dev.partlyListed c = false) ∧ ((s.dev.cmdRows c).map (fun e => s.dev.buildRow c (s.dev.fullStripes c) e.1 e.2)).all (fun y => y.isSome) = true ∧ ((s.dev.cmdRows c).map (fun e => s.dev.buildRow c (s.dev.fullStripes c) e.1 e.2)).filterMap id = rows ∧ s.dev.stripeOpen p c.vol ((rows.map (fun y => (y.newGeo, y.stripe))).eraseDups) = false ∧ s.dev.betweenBounds c.vol (s.dev.cmdUnits c) = false ∧ s.dev.ringRoom p (recordLength (s.dev.gran c.vol) rows) = false ∧ c.waitJournal = none :=
  ⟨((openDev id).setPier 0 { recs := [{ testRec with rows := [] }], seq := 3 }).toState, 3, 0, openCmd, openRows ((openDev id).setPier 0 { recs := [{ testRec with rows := [] }], seq := 3 }) openCmd, by decide +kernel, by decide +kernel, by decide +kernel, by decide +kernel, by decide +kernel, rfl, by decide +kernel, by decide +kernel, by decide +kernel, by decide +kernel⟩

theorem test_wit_IntentRecords_3 : ∃ (s : State) (cmd : Nat) (c : Cmd), s.dev.cmd cmd = some c ∧ (s.dev.readyToOpen c = true ∧ s.dev.pierUp (s.dev.volPier c.vol) = true) ∧ (s.dev.ringSegs (s.dev.volPier c.vol) < 256 ∨ (s.dev.pairOk 0 || s.dev.pairOk 1) = false ∨ s.dev.partlyListed c = true) :=
  ⟨{ openDev id with ldg := { (openDev id).ldg with dieOk := [0, 3] } }.toState, 3, openCmd, by decide +kernel⟩

theorem test_wit_IntentRecords_4 : ∃ (s : State) (pier : Fin 2) (p seq : Nat) (r : IRec), pier.val = p ∧ s.dev.record p seq = some r ∧ (r.committed = false ∧ r.retired = false ∧ s.dev.pierUp p = true ∧ s.dev.mayCommit r = true) :=
  ⟨(recDev testRec).toState, 0, 0, 2, testRec, by decide +kernel⟩

theorem test_wit_IntentRecords_4a : ∃ (s : State) (pier : Fin 2) (p seq : Nat) (r : IRec), pier.val = p ∧ s.dev.record p seq = some r ∧ (r.committed = false ∧ r.retired = false ∧ s.dev.pierUp p = true ∧ s.dev.mayCommit r = true) :=
  ⟨(recDev { testRec with fua := true }).toState, 0, 0, 2, { testRec with fua := true }, by decide +kernel⟩

theorem test_wit_IntentRecords_5 : ∃ (s : State) (pier : Fin 2) (p seq : Nat) (r : IRec), pier.val = p ∧ s.dev.record p seq = some r ∧ (r.committed = true ∧ r.applying = false ∧ r.retired = false ∧ r.kind ≠ 0 ∧ s.dev.pierUp p = true) ∧ (s.dev.earlierApplied p r = true ∧ s.dev.reservedBusy r.volume = false) ∧ s.dev.bitsToSet r ≠ ([], []) :=
  ⟨(recDev { testRec with committed := true }).toState, 0, 0, 2, { testRec with committed := true }, by decide +kernel⟩

theorem test_wit_IntentRecords_6 : ∃ (s : State) (pier : Fin 2) (p seq : Nat) (r : IRec), pier.val = p ∧ s.dev.record p seq = some r ∧ (r.committed = true ∧ r.applying = false ∧ r.retired = false ∧ r.kind ≠ 0 ∧ s.dev.pierUp p = true) ∧ (s.dev.earlierApplied p r = true ∧ s.dev.reservedBusy r.volume = false) ∧ s.dev.bitsToSet r = ([], []) :=
  ⟨((recDev { testRec with committed := true }).setVol 7 { (recDev testRec).vol 7 with hole := [0] }).toState, 0, 0, 2, { testRec with committed := true }, by decide +kernel⟩

theorem test_wit_IntentRecords_7 : ∃ (s : State) (pier : Fin 2) (p seq : Nat) (r : IRec), pier.val = p ∧ s.dev.record p seq = some r ∧ (r.committed = true ∧ r.retired = false ∧ s.dev.pierUp p = true) ∧ (r.rows.all (fun y => y.state == rowApplied) = true ∧ r.flush.all s.dev.flushMet = true) :=
  ⟨(recDev { testRec with committed := true, fua := true, rows := [{ state := rowApplied }] }).toState, 0, 0, 2, { testRec with committed := true, fua := true, rows := [{ state := rowApplied }] }, by decide +kernel⟩

theorem test_wit_IntentRecords_8 : ∃ (s : State) (id : Nat) (c : MCmd) (v m : Nat), s.dev.store.mcmds.find? (fun c => c.id == id && c.use == .flush) = some c ∧ s.dev.pierRuns (slotLanes c.slot) 0 = true :=
  ⟨((endDev { id := 3, src := .fabric 1024 } { slot := 2, write := true, use := .flush }).setDrive 2 { st := .online, volume := 7, index := 2, flushIssued := 4, flushDone := 3 }).toState, 9, { id := 9, volume := 7, slot := 2, write := true, use := .flush }, 7, 2, by decide +kernel⟩

theorem test_wit_IntentRecords_8a : ∃ (s : State) (id : Nat) (c : MCmd) (v m : Nat), s.dev.store.mcmds.find? (fun c => c.id == id && c.use == .flush) = some c ∧ s.dev.pierRuns (slotLanes c.slot) 0 = true :=
  ⟨((endDev { id := 3, src := .fabric 1024 } { slot := 2, write := true, use := .flush, again := true }).setDrive 2 { st := .online, volume := 7, index := 2, flushIssued := 4, flushDone := 3 }).toState, 9, { id := 9, volume := 7, slot := 2, write := true, use := .flush, again := true }, 7, 2, by decide +kernel⟩

theorem test_wit_IntentRecords_9 : ∃ (s : State) (volume : Fin 64) (v region : Nat), volume.val = v ∧ region ∈ (s.dev.vol v).hole ∧ s.dev.pierUp (s.dev.volPier v) = true ∧ (s.dev.pier (s.dev.volPier v)).recs.any (fun r => r.volume == v && !r.retired && r.kind != 0 && r.regions.contains region) = false ∧ (s.dev.vol v).touched.get 0 region + s.dev.fld .LDG_CFG_MAP_IDLE * sec < s.dev.nowOn (pierDie (s.dev.volPier v)) :=
  ⟨{ ((openDev id).setVol 7 { (recDev testRec).vol 7 with hole := [0, 5] }) with time := 90000000000 }.toState, 7, 7, 5, by decide +kernel⟩

theorem test_wit_IntentRecords_10 : ∃ (s : State) (pier : Fin 2) (p seq : Nat) (r : IRec), pier.val = p ∧ s.dev.record p seq = some r ∧ (r.retired = false ∧ r.copySent = false ∧ r.kind ≠ 0 ∧ s.dev.pierUp p = true ∧ (r.committed || r.single) = true) :=
  ⟨(recDev { testRec with committed := true }).toState, 0, 0, 2, { testRec with committed := true }, by decide +kernel⟩

/-- `volDev` with the device state loaded, both pairs of dies, and the wear given. -/
def wearDev (w : Wear) : Dev := { volDev with time := 5000000000, ldg := { volDev.ldg with stateLoaded := true, dieOk := [0, 1, 2, 3], wear := w } }

/-- The first segment of the reserve is free where nothing is remapped. -/
theorem free_wearDev (w : Wear) (h : w.remaps = []) (k : 3480 ∉ w.retired) (j : w.withdrawn = []) : (wearDev w).physFree 3480 = true := by
  unfold Dev.physFree
  have e : (wearDev w).ldg.wear = w := rfl
  have p : ∀ g, (wearDev w).segPlace g = (2 * (g / 8192) + g % 2) * 4096 + g % 8192 / 2 := by
    intro g; unfold Dev.segPlace; rw [e, h]; rfl
  simp only [e, h, j, p, Bool.and_eq_true, Bool.or_eq_true, List.all_eq_true, List.any_eq_true, List.mem_range]
  refine ⟨⟨?_, ?_⟩, .inl ⟨6960, by decide, by decide⟩⟩
  · simpa using k
  · intro g hg
    by_cases hr : g = 6960
    · subst hr; left; left; decide
    · right
      simp only [bne_iff_ne, ne_eq]
      rcases Nat.mod_two_eq_zero_or_one g with h2 | h2 <;> rcases (by omega : g / 8192 = 0 ∨ g / 8192 = 1) with h3 | h3 <;> rw [h2, h3] <;> omega

/-- Every place of the ledger. -/
def allPlaces : List Nat := List.range 16384

/-- No place of the reserve is left where every place has been retired. -/
theorem none_wearDev (b : Table Nat) (pair : Nat) (h : pair < 2) : (wearDev { retired := allPlaces, bytes := b }).reserveLeft pair = 0 := by
  unfold Dev.reserveLeft
  rw [List.length_eq_zero_iff, List.filter_eq_nil_iff]
  intro i hi
  have e : (wearDev { retired := allPlaces, bytes := b }).ldg.wear = { retired := allPlaces, bytes := b } := rfl
  have : allPlaces.contains (pair * 8192 + i) = true := by
    unfold allPlaces
    rw [List.contains_iff_mem, List.mem_range]
    rw [List.mem_range] at hi
    omega
  simp only [Dev.physFree, e, this, Bool.not_true, Bool.false_and, Bool.false_eq_true, not_false_eq_true]
theorem test_wit_LedgerDiesAndWear_1 : ∃ (s : State) (die : Fin 4), die.val ∈ s.dev.ldg.dieOk :=
  ⟨(wearDev {}).toState, 2, by decide +kernel⟩

theorem test_wit_LedgerDiesAndWear_2 : ∃ (s : State) (found : Recovery), (s.dev.mode.diesUp = true ∧ s.dev.mode.booted = true ∧ s.dev.cust.alarms = 0 ∧ s.dev.ldg.stateLoaded = true) ∧ (s.dev.cust.ready = true ∧ s.dev.recoveringAny = true) ∧ (List.range 24).any s.dev.slotAwaited = false :=
  ⟨{ wearDev {} with ldg := { (wearDev {}).ldg with recovered := [] } }.setPier 0 { recs := [{ testRec with committed := true }], seq := 3 } |>.toState, ⟨0, 0, [], 0, [], [], [], []⟩, by decide +kernel⟩

theorem test_wit_LedgerDiesAndWear_3 : ∃ (s : State) (found : Recovery), (s.dev.mode.diesUp = true ∧ s.dev.mode.booted = true ∧ s.dev.cust.alarms = 0 ∧ s.dev.ldg.stateLoaded = false) ∧ (s.dev.recoveringAny = true → (List.range 24).any s.dev.slotAwaited = true) :=
  ⟨({ upDev with ldg := { upDev.ldg with recovered := [(0, true), (1, true)] } } : Dev).toState, ⟨3, 0, [], 0, [], [], [], []⟩, by decide +kernel⟩

theorem test_wit_LedgerDiesAndWear_4 : ∃ (s : State), s.dev.ledgerRuns = true ∧ s.dev.now % 1000000000 = 0 :=
  ⟨(wearDev { bytes := [(5, 100)] }).toState, by decide +kernel⟩

theorem test_wit_LedgerDiesAndWear_5 : ∃ (s : State) (slot : Fin 4096) (die : Fin 4) (phys : Fin 4096) (g place : Nat), windowAddr slot.val 0 / 65536 = g ∧ die.val * 4096 + phys.val = place ∧ s.dev.ledgerRuns = true ∧ 16777216 ≤ s.dev.ldg.wear.windowWrites.get 0 slot.val ∧ die.val / 2 = g / 8192 ∧ s.dev.physFree place = true :=
  ⟨(wearDev { windowWrites := [(1, 16777216)] }).toState, 1, 0, 3480, 4097, 3480, by decide +kernel, by decide +kernel, by decide +kernel, by decide +kernel, by decide +kernel, free_wearDev _ rfl (by decide) rfl⟩

theorem test_wit_LedgerDiesAndWear_6 : ∃ (s : State) (segment : Fin 16384) (die : Fin 4) (phys : Fin 4096) (g place : Nat), segment.val = g ∧ die.val * 4096 + phys.val = place ∧ s.dev.ledgerRuns = true ∧ 500000000000 ≤ s.dev.ldg.wear.bytes.get 0 g / 65536 ∧ g ∉ s.dev.ldg.wear.withdrawn ∧ die.val / 2 = g / 8192 ∧ s.dev.physFree place = true :=
  ⟨(wearDev { retired := (List.range 16384).filter (fun k => k != 3480), bytes := [(9, 500000000000 * 65536)] }).toState, 9, 0, 3480, 9, 3480, by decide +kernel, by decide +kernel, by decide +kernel, by decide +kernel, by decide +kernel, by decide +kernel, free_wearDev _ rfl (by simp) rfl⟩

theorem test_wit_LedgerDiesAndWear_7 : ∃ (s : State) (segment : Fin 16384) (die : Fin 4) (phys : Fin 4096) (g : Nat), segment.val = g ∧ s.dev.ledgerRuns = true ∧ 500000000000 ≤ s.dev.ldg.wear.bytes.get 0 g / 65536 ∧ g ∉ s.dev.ldg.wear.withdrawn ∧ s.dev.reserveLeft (g / 8192) = 0 ∧ g % 8192 < 4096 :=
  ⟨(wearDev { retired := allPlaces, bytes := [(9, 500000000000 * 65536)] }).toState, 9, 0, 3480, 9, by decide +kernel, by decide +kernel, by decide +kernel, by decide +kernel, none_wearDev _ _ (by decide), by decide +kernel⟩

theorem test_wit_LedgerDiesAndWear_8 : ∃ (s : State) (segment : Fin 16384) (die : Fin 4) (phys : Fin 4096) (g j : Nat), segment.val = g ∧ s.dev.ledgerRuns = true ∧ 500000000000 ≤ s.dev.ldg.wear.bytes.get 0 g / 65536 ∧ g ∉ s.dev.ldg.wear.withdrawn ∧ s.dev.reserveLeft (g / 8192) = 0 ∧ 4096 ≤ g % 8192 :=
  ⟨(wearDev { retired := allPlaces, bytes := [(4196, 500000000000 * 65536)] }).toState, 4196, 0, 3480, 4196, 4095, by decide +kernel, by decide +kernel, by decide +kernel, by decide +kernel, none_wearDev _ _ (by decide), by decide +kernel⟩

theorem test_wit_LedgerDiesAndWear_9 : ∃ (s : State) (corrected repaired p : Nat) (lost : List (BitVec 30)), s.dev.ledgerPier = p ∧ s.dev.ledgerRuns = true ∧ s.dev.ldg.wear.passNext ≤ s.dev.nowOn (pierDie p) :=
  ⟨(wearDev {}).toState, 3, 1, 0, [0x1B201040#30], by decide +kernel⟩

theorem test_wit_LedgerDiesAndWear_9a : ∃ (s : State) (corrected repaired p : Nat) (lost : List (BitVec 30)), s.dev.ledgerPier = p ∧ s.dev.ledgerRuns = true ∧ s.dev.ldg.wear.passNext ≤ s.dev.nowOn (pierDie p) :=
  ⟨(wearDev { passSegment := 16383, passStart := 1000 }).toState, 3, 1, 0, [], by decide +kernel⟩

theorem test_wit_LedgerDiesAndWear_10 : ∃ (s : State), s.dev.ldg.wear.hot = true ∧ s.dev.ldg.wear.hotAt + 86400 * sec < s.dev.now :=
  ⟨{ wearDev { hot := true } with time := 86400000000001 }.toState, by decide +kernel⟩

/-- `volDev` with volume 7 DEGRADED, member 2 as given in slot 2, device state loaded, slot 20 powered with its port ready, and the drive `x` in slot `k`. -/
def jobDev (m : Member) (k : Nat) (x : Drive) : Dev :=
  let d := volDev.setVol 7 { volDev.vol 7 with st := .degraded, level := 1, uuid := 99, gen := 6, members := (volDev.vol 7).members.insert 2 m }
  let d := ((d.setDrive 2 { st := m.st, volume := 7, index := 2 }).setDrive k x).setFld .RB_CFG_AUTO 0 1
  { d with ldg := { d.ldg with stateLoaded := true }, shelf := { d.shelf with slots := [(2, { st := .on }), (20, { st := .on })], ports := [(2, { ready := true }), (20, { ready := true })] } }
theorem test_wit_DrivesIdentifiedAndMembers_1 : ∃ (s : State) (slot : Fin 24) (copy0 copy1 : Option StampCopy) (k : Nat), slot.val = k ∧ ((s.dev.shelf.slots.get {} k).st = .on ∧ (s.dev.slotPorts k).any (fun n => (s.dev.port n).ready) = true ∧ s.dev.ldg.stateLoaded = true) ∧ ((s.dev.drive k).st = .noDrive ∨ (s.dev.drive k).st = .missing) ∧ (s.dev.identity (pickStamp copy0 copy1) = .spare ∨ s.dev.identity (pickStamp copy0 copy1) = .foreign) :=
  ⟨(jobDev { st := .missing, slot := 2 } 20 {}).toState, 20, none, none, 20, by decide +kernel⟩

theorem test_wit_DrivesIdentifiedAndMembers_1a : ∃ (s : State) (slot : Fin 24) (copy0 copy1 : Option StampCopy) (k : Nat), slot.val = k ∧ ((s.dev.shelf.slots.get {} k).st = .on ∧ (s.dev.slotPorts k).any (fun n => (s.dev.port n).ready) = true ∧ s.dev.ldg.stateLoaded = true) ∧ ((s.dev.drive k).st = .noDrive ∨ (s.dev.drive k).st = .missing) ∧ (s.dev.identity (pickStamp copy0 copy1) = .spare ∨ s.dev.identity (pickStamp copy0 copy1) = .foreign) :=
  ⟨(jobDev { st := .missing, slot := 2 } 20 {}).toState, 20, some ⟨5, 7, 2, false, 6, 0⟩, none, 20, by decide +kernel⟩

theorem test_wit_DrivesIdentifiedAndMembers_2 : ∃ (s : State) (slot : Fin 24) (copy0 copy1 : Option StampCopy) (c : StampCopy) (k v m : Nat) (back : Bool), slot.val = k ∧ ((s.dev.shelf.slots.get {} k).st = .on ∧ (s.dev.slotPorts k).any (fun n => (s.dev.port n).ready) = true ∧ s.dev.ldg.stateLoaded = true) ∧ ((s.dev.drive k).st = .noDrive ∨ (s.dev.drive k).st = .missing) ∧ pickStamp copy0 copy1 = some c ∧ s.dev.identity (some c) = .member v m back :=
  ⟨(jobDev { st := .missing, slot := 2, gen := 6 } 20 {}).toState, 2, some ⟨99, 7, 2, false, 6, 0⟩, none, ⟨99, 7, 2, false, 6, 0⟩, 2, 7, 2, true, by decide +kernel⟩

theorem test_wit_DrivesIdentifiedAndMembers_2a : ∃ (s : State) (slot : Fin 24) (copy0 copy1 : Option StampCopy) (c : StampCopy) (k v m : Nat) (back : Bool), slot.val = k ∧ ((s.dev.shelf.slots.get {} k).st = .on ∧ (s.dev.slotPorts k).any (fun n => (s.dev.port n).ready) = true ∧ s.dev.ldg.stateLoaded = true) ∧ ((s.dev.drive k).st = .noDrive ∨ (s.dev.drive k).st = .missing) ∧ pickStamp copy0 copy1 = some c ∧ s.dev.identity (some c) = .member v m back :=
  ⟨(jobDev { st := .missing, slot := 2, gen := 6 } 20 {}).toState, 20, none, some ⟨99, 7, 2, true, 7, 0⟩, ⟨99, 7, 2, true, 7, 0⟩, 20, 7, 2, true, by decide +kernel⟩

theorem test_wit_DrivesIdentifiedAndMembers_2b : ∃ (s : State) (slot : Fin 24) (copy0 copy1 : Option StampCopy) (c : StampCopy) (k v m : Nat) (back : Bool), slot.val = k ∧ ((s.dev.shelf.slots.get {} k).st = .on ∧ (s.dev.slotPorts k).any (fun n => (s.dev.port n).ready) = true ∧ s.dev.ldg.stateLoaded = true) ∧ ((s.dev.drive k).st = .noDrive ∨ (s.dev.drive k).st = .missing) ∧ pickStamp copy0 copy1 = some c ∧ s.dev.identity (some c) = .member v m back :=
  ⟨(jobDev { st := .online, slot := 2, gen := 6 } 20 {}).toState, 20, some ⟨99, 7, 2, false, 5, 0⟩, some ⟨99, 7, 2, false, 6, 0⟩, ⟨99, 7, 2, false, 6, 0⟩, 20, 7, 2, false, by decide +kernel⟩

theorem test_wit_DrivesIdentifiedAndMembers_3 : ∃ (s : State) (volume : Fin 64) (index : Fin 24) (v m k : Nat), (volume.val = v ∧ index.val = m) ∧ (s.dev.pierUp (s.dev.volPier v) = true ∧ s.dev.spareTurn v m = true) ∧ s.dev.spareFor v = some k :=
  ⟨{ jobDev { st := .missing, slot := 2, missingAt := some 0 } 20 { st := .spare, mbs := some 0, units := 3000000 } with time := 900000000000 }.toState, 7, 2, 7, 2, 20, by decide +kernel⟩

theorem test_wit_DrivesIdentifiedAndMembers_4 : ∃ (s : State) (volume : Fin 64) (index : Fin 24) (v m : Nat), (volume.val = v ∧ index.val = m) ∧ (s.dev.pierUp (s.dev.volPier v) = true ∧ s.dev.spareTurn v m = true) ∧ s.dev.spareFor v = none ∧ (s.dev.mem v m).noSpare = false :=
  ⟨{ jobDev { st := .failed, slot := 2 } 20 { st := .spare, mbs := some 0, units := 1000 } with time := 900000000000 }.toState, 7, 2, 7, 2, by decide +kernel⟩

theorem test_wit_DrivesIdentifiedAndMembers_5 : ∃ (s : State) (req : Requester) (slot : Fin 24) (k v m : Nat), slot.val = k ∧ s.dev.commandMade (.reg req) (s.dev.pairAddr .MEMBER_CMD) = true ∧ s.dev.memberCmdBusy = false ∧ s.dev.memberOf k = some (v, m) ∧ (s.dev.drive k).st ≠ .failed ∧ (s.dev.failsVolume k = false ∨ s.dev.flag .RB_CFG_AUTO = false) :=
  ⟨(jobDev { st := .rebuilding, slot := 2 } 20 {}).toState, .cp 3, 2, 2, 7, 2, by decide +kernel⟩

theorem test_wit_DrivesIdentifiedAndMembers_6 : ∃ (s : State) (req : Requester) (slot : Fin 24) (k v m j : Nat), slot.val = k ∧ s.dev.commandMade (.reg req) (s.dev.pairAddr .MEMBER_CMD) = true ∧ s.dev.memberCmdBusy = false ∧ s.dev.memberOf k = some (v, m) ∧ (s.dev.drive k).st = .missing ∧ s.dev.takesSpares v = true ∧ s.dev.spareFor v = some j :=
  ⟨(jobDev { st := .missing, slot := 2 } 20 { st := .spare, mbs := some 0, units := 3000000 }).toState, .cp 3, 2, 2, 7, 2, 20, by decide +kernel⟩

theorem test_wit_DrivesIdentifiedAndMembers_7 : ∃ (s : State) (req : Requester) (slot : Fin 24) (k : Nat), slot.val = k ∧ s.dev.commandMade (.reg req) (s.dev.pairAddr .MEMBER_CMD) = true ∧ s.dev.memberCmdBusy = false ∧ (s.dev.drive k).st = .foreign :=
  ⟨(jobDev { st := .missing, slot := 2 } 20 { st := .foreign }).toState, .cp 3, 20, 20, by decide +kernel⟩

theorem test_wit_DrivesIdentifiedAndMembers_8 : ∃ (s : State) (req : Requester) (slot : Fin 24) (k : Nat), slot.val = k ∧ s.dev.commandMade (.reg req) (s.dev.pairAddr .MEMBER_CMD) = true ∧ (s.dev.memberCmdBusy = true ∨ (s.dev.memberOf k = none ∧ (s.dev.drive k).st ≠ .foreign)) :=
  ⟨(jobDev { st := .missing, slot := 2 } 20 {}).toState, .cp 3, 20, 20, by decide +kernel⟩

/-- `jobDev` with member 2 a target of a pass. -/
def passDev (p : Pass) : Dev :=
  let d := jobDev { st := .rebuilding, slot := 2 } 20 {}
  (d.setVol 7 { d.vol 7 with pass := some p }).setFld .RB_RATE_RATE_DEG 0 5
theorem test_wit_Passes_1 : ∃ (s : State) (volume : Fin 64) (blocks : List Fetched) (v budget : Nat) (p : Pass), volume.val = v ∧ (s.dev.vol v).pass = some p ∧ (s.dev.jobsRun v = true ∧ (s.dev.vol v).st ≠ .failed ∧ p.waiting = false ∧ s.dev.nowOn (pierDie (s.dev.volPier v)) % 100000 = 0) ∧ min p.budget ((s.dev.geom v (s.dev.stripeAt v p.cursor).1).u * 4096 * p.targets.length) + s.dev.passQuantum v = budget ∧ p.awaiting = none ∧ (s.dev.passNeeds v p ≠ [] ∧ p.cursor < s.dev.volUnits v ∧ s.dev.stripeOpen (s.dev.volPier v) v [s.dev.stripeAt v p.cursor] = false) ∧ (s.dev.passNeeds v p).length * (s.dev.geom v (s.dev.stripeAt v p.cursor).1).u * 4096 ≤ budget :=
  ⟨(passDev { targets := [{ index := 2 }] }).toState, 7, [⟨0, 1048576, []⟩, ⟨1, 1048576, []⟩, ⟨3, 1048576, []⟩], 7, 50000, { targets := [{ index := 2 }] }, by decide +kernel⟩

theorem test_wit_Passes_2 : ∃ (s : State) (volume : Fin 64) (blocks : List Fetched) (v budget : Nat) (p : Pass), volume.val = v ∧ (s.dev.vol v).pass = some p ∧ (s.dev.jobsRun v = true ∧ (s.dev.vol v).st ≠ .failed ∧ p.waiting = false ∧ s.dev.nowOn (pierDie (s.dev.volPier v)) % 100000 = 0) ∧ min p.budget ((s.dev.geom v (s.dev.stripeAt v p.cursor).1).u * 4096 * p.targets.length) + s.dev.passQuantum v = budget ∧ p.awaiting.isSome = true :=
  ⟨(passDev { targets := [{ index := 2 }], budget := 9000, awaiting := some (false, 0) }).toState, 7, [], 7, 54096, { targets := [{ index := 2 }], budget := 9000, awaiting := some (false, 0) }, by decide +kernel⟩

theorem test_wit_Passes_3 : ∃ (s : State) (volume : Fin 64) (blocks : List Fetched) (v : Nat) (p q : Pass), volume.val = v ∧ (s.dev.vol v).pass = some p ∧ (p.awaiting.isSome = true ∧ s.dev.jobsRun v = true) ∧ s.dev.store.mcmds.any (fun c => match c.use with | .target w _ => w == v | _ => false) = false ∧ q = { p with cursor := s.dev.afterStripe v p.cursor, awaiting := none } ∧ ((s.dev.vol v).st = .failed ∨ ((s.dev.setVol v { s.dev.vol v with pass := some q }).passNeeds v q ≠ [] ∧ q.cursor < s.dev.volUnits v ∧ q.waiting = true)) :=
  ⟨(passDev { targets := [{ index := 2 }], waiting := true, awaiting := some (false, 32768), cursor := 65536 }).toState, 7, [], 7, { targets := [{ index := 2 }], waiting := true, awaiting := some (false, 32768), cursor := 65536 }, { targets := [{ index := 2 }], waiting := true, cursor := 65538 }, by decide +kernel⟩

theorem test_wit_Passes_4 : ∃ (s : State) (volume : Fin 64) (blocks : List Fetched) (v : Nat) (p q : Pass), volume.val = v ∧ (s.dev.vol v).pass = some p ∧ (p.awaiting.isSome = true ∧ s.dev.jobsRun v = true ∧ (s.dev.vol v).st ≠ .failed ∧ p.waiting = false ∧ p.cursor < p.saved + 65536) ∧ s.dev.store.mcmds.any (fun c => match c.use with | .target w _ => w == v | _ => false) = false ∧ q = { p with cursor := s.dev.afterStripe v p.cursor, awaiting := none } ∧ ((s.dev.setVol v { s.dev.vol v with pass := some q }).passNeeds v q ≠ [] ∧ q.cursor < s.dev.volUnits v) ∧ (s.dev.setVol v { s.dev.vol v with pass := some q }).stripeOpen (s.dev.volPier v) v [s.dev.stripeAt v q.cursor] = false ∧ ((s.dev.setVol v { s.dev.vol v with pass := some q }).passNeeds v q).length * (s.dev.geom v (s.dev.stripeAt v q.cursor).1).u * 4096 ≤ p.budget :=
  ⟨(passDev { targets := [{ index := 2 }], awaiting := some (false, 0), budget := 9000 }).toState, 7, [⟨0, 1048577, []⟩, ⟨1, 1048577, []⟩, ⟨3, 1048577, []⟩], 7, { targets := [{ index := 2 }], awaiting := some (false, 0), budget := 9000 }, { targets := [{ index := 2 }], cursor := 2, budget := 9000 }, by decide +kernel⟩

theorem test_wit_Passes_5 : ∃ (s : State) (volume : Fin 64) (index : Fin 24) (v m : Nat) (p : Pass) (x : Target), (volume.val = v ∧ index.val = m) ∧ (s.dev.vol v).pass = some p ∧ (p.targets.all p.targetDone = true ∧ p.targets.find? (fun t => t.index == m && p.targetDone t) = some x ∧ p.awaiting = none) ∧ (s.dev.jobsRun v = true ∧ (s.dev.vol v).st ∈ [VState.optimal, .degraded, .critical, .failed]) ∧ (s.dev.slotVwc (s.dev.mem v m).slot = false ∨ x.flush.any (fun n => decide (n ≤ (s.dev.drive (s.dev.mem v m).slot).flushDone)) = true) :=
  ⟨(passDev { targets := [{ index := 2, wrapped := true }] }).toState, 7, 2, 7, 2, { targets := [{ index := 2, wrapped := true }] }, { index := 2, wrapped := true }, by decide +kernel⟩

theorem test_wit_Passes_6 : ∃ (s : State) (volume : Fin 64) (index : Fin 24) (v m : Nat) (p : Pass) (x : Target), (volume.val = v ∧ index.val = m) ∧ (s.dev.vol v).pass = some p ∧ (p.targets.all p.targetDone = true ∧ p.targets.find? (fun t => t.index == m && p.targetDone t) = some x ∧ p.awaiting = none) ∧ s.dev.jobsRun v = true ∧ (s.dev.slotVwc (s.dev.mem v m).slot = true ∧ x.flush = none) :=
  ⟨{ passDev { targets := [{ index := 2, wrapped := true }] } with shelf := { (passDev {}).shelf with ports := [(2, { ready := true, vwc := true })] } }.toState, 7, 2, 7, 2, { targets := [{ index := 2, wrapped := true }] }, { index := 2, wrapped := true }, by decide +kernel⟩

/-- `volDev` with volume 7 to be widened by the spare drive in slot 20. -/
def widenDev (r : Option Reshape) : Dev :=
  let d := (((volDev.setFld .VOL_CFG_STRIP 7 6).setFld .RS_CFG_NEW_WIDTH 7 5).setFld .RS_CFG_NEW_STRIP 7 6).setFld .RS_NEW_USED (memberInst 7 4) 1
  ((d.setFld .RS_NEW_SLOT (memberInst 7 4) 20).setDrive 20 { st := .spare, mbs := some 0, units := 3000000 }).setVol 7 { d.vol 7 with reshape := r }

/-- A reshape of volume 7 of `volDev` from four members of strips of 4 KiB to five. -/
def rsh : Reshape := { oldWidth := 4, oldStrip := 2, newWidth := 5, newStrip := 2 }

/-- `volDev` with five members and that reshape. -/
def wideDev (r : Reshape) : Dev := volDev.setVol 7 { volDev.vol 7 with reshape := some r, members := (List.range 5).map (fun m => (m, { st := .online, slot := m })) }

/-- `volDev` with a scrub of volume 7 running. -/
def scrubDev (c : Scrub) : Dev := ((volDev.setFld .SCRUB_CFG_EN 0 1).setFld .SCRUB_CFG_INTERVAL 0 30).setVol 7 { volDev.vol 7 with scrub := c }
theorem test_wit_ReshapesAndScrubs_1 : ∃ (s : State) (req : Requester) (volume : Fin 64) (v w w' : Nat), volume.val = v ∧ s.dev.commandMade (.reg req) (s.dev.pairAddr .RS_CMD) = true ∧ s.dev.mayReshape v = true ∧ (s.dev.fld .VOL_CFG_WIDTH v = w ∧ s.dev.fld .RS_CFG_NEW_WIDTH v = w') :=
  ⟨(widenDev none).toState, .cp 3, 7, 7, 4, 5, by decide +kernel⟩

theorem test_wit_ReshapesAndScrubs_2 : ∃ (s : State) (req : Requester) (volume : Fin 64) (v : Nat), volume.val = v ∧ s.dev.commandMade (.reg req) (s.dev.pairAddr .RS_CMD) = true ∧ s.dev.mayReshape v = false :=
  ⟨(widenDev (some rsh)).toState, .cp 3, 7, 7, by decide +kernel⟩

theorem test_wit_ReshapesAndScrubs_3 : ∃ (s : State) (req : Requester) (volume : Fin 64) (on : Bool), s.dev.commandMade (.reg req) (s.dev.pairAddr .RS_CMD) = true :=
  ⟨(widenDev (some rsh)).toState, .cp 3, 7, true, by decide +kernel⟩

theorem test_wit_ReshapesAndScrubs_4 : ∃ (s : State) (volume : Fin 64) (blocks : List Fetched) (v : Nat) (r : Reshape), volume.val = v ∧ (s.dev.vol v).reshape = some r ∧ (s.dev.jobsRun v = true ∧ (s.dev.vol v).st = .optimal ∧ (s.dev.vol v).pass = none ∧ r.waiting = false ∧ r.moved = false) ∧ r.bound < s.dev.unitsIn v ⟨r.oldWidth, stripUnits r.oldStrip⟩ ∧ (r.step = none ∧ s.dev.flag .RS_CMD_PAUSE v = false ∧ s.dev.zoneBusy v r.bound (r.zoneEnd (s.dev.vol v).cap) = false) ∧ (r.bound < r.overwritten (s.dev.vol v).cap ∨ r.saved < r.overwritten (s.dev.vol v).cap) ∧ s.dev.membersIn v [.online] ≠ [] :=
  ⟨(wideDev rsh).toState, 7, [], 7, rsh, by decide +kernel⟩

theorem test_wit_ReshapesAndScrubs_5 : ∃ (s : State) (volume : Fin 64) (blocks : List Fetched) (v k : Nat) (r : Reshape) (new : Geom), volume.val = v ∧ (s.dev.vol v).reshape = some r ∧ (s.dev.jobsRun v = true ∧ (s.dev.vol v).st = .optimal ∧ (s.dev.vol v).pass = none ∧ r.waiting = false ∧ r.moved = false) ∧ r.bound < s.dev.unitsIn v ⟨r.oldWidth, stripUnits r.oldStrip⟩ ∧ (r.step.isSome = true ∧ s.dev.reservedBusy v = false) ∧ (new = ⟨r.newWidth, stripUnits r.newStrip⟩ ∧ r.bound / new.stripeUnits = k) :=
  ⟨(wideDev { rsh with step := some 3 }).toState, 7, [⟨2, 1048576, [1#8]⟩, ⟨1, 1048576, []⟩, ⟨0, 1048577, []⟩], 7, 0, { rsh with step := some 3 }, ⟨5, 1⟩, by decide +kernel⟩

theorem test_wit_ReshapesAndScrubs_6 : ∃ (s : State) (volume : Fin 64) (v b : Nat) (r : Reshape), volume.val = v ∧ (s.dev.vol v).reshape = some r ∧ (r.moved = true ∧ s.dev.store.mcmds.any (fun c => c.use == .target v noVolume) = false ∧ s.dev.pierUp (s.dev.volPier v) = true) ∧ r.bound + (⟨r.newWidth, stripUnits r.newStrip⟩ : Geom).stripeUnits = b :=
  ⟨(wideDev { rsh with step := some 3, moved := true, backup := true }).toState, 7, 7, 3, { rsh with step := some 3, moved := true, backup := true }, by decide +kernel⟩

theorem test_wit_ReshapesAndScrubs_7 : ∃ (s : State) (volume : Fin 64) (v : Nat) (r : Reshape), volume.val = v ∧ (s.dev.vol v).reshape = some r ∧ (s.dev.unitsIn v ⟨r.oldWidth, stripUnits r.oldStrip⟩ ≤ r.bound ∧ r.step = none ∧ (s.dev.vol v).st = .optimal ∧ s.dev.jobsRun v = true) :=
  ⟨(wideDev { rsh with bound := 4000000 }).toState, 7, 7, { rsh with bound := 4000000 }, by decide +kernel⟩

theorem test_wit_ReshapesAndScrubs_8 : ∃ (s : State) (volume : Fin 64) (blocks : List Fetched) (v : Nat) (c : Scrub) (r : RowRef), volume.val = v ∧ s.dev.scrubRuns v = true ∧ (s.dev.vol v).scrub = c ∧ (c.running = true ∧ c.waiting = false ∧ c.next ≤ s.dev.nowOn (pierDie (s.dev.volPier v)) ∧ c.cursor < s.dev.scrubRows v) ∧ s.dev.scrubRef v c.cursor = r ∧ s.dev.rowBusy v r = true :=
  ⟨((scrubDev { running := true }).setVol 7 { (scrubDev { running := true }).vol 7 with hole := [0] }).toState, 7, [], 7, { running := true }, ⟨false, 0, 0⟩, by decide +kernel⟩

theorem test_wit_ReshapesAndScrubs_9 : ∃ (s : State) (volume : Fin 64) (blocks : List Fetched) (v p d : Nat) (c : Scrub) (r : RowRef), (volume.val = v ∧ s.dev.volPier v = p ∧ (s.dev.geom v false).d = d) ∧ s.dev.scrubRuns v = true ∧ (s.dev.vol v).scrub = c ∧ (c.running = true ∧ c.waiting = false ∧ c.next ≤ s.dev.nowOn (pierDie p) ∧ c.cursor < s.dev.scrubRows v) ∧ s.dev.scrubRef v c.cursor = r ∧ s.dev.rowBusy v r = false :=
  ⟨(scrubDev { running := true }).toState, 7, [⟨0, 1048576, []⟩, ⟨1, 1048576, []⟩, ⟨2, 1048576, []⟩, ⟨3, 1048576, []⟩], 7, 0, 2, { running := true }, ⟨false, 0, 0⟩, by decide +kernel⟩

theorem test_wit_ReshapesAndScrubs_10 : ∃ (s : State) (volume : Fin 64) (v : Nat) (c : Scrub), volume.val = v ∧ (s.dev.vol v).scrub = c ∧ (c.running = true ∧ s.dev.scrubRows v ≤ c.cursor ∧ c.revisit = [] ∧ s.dev.jobsRun v = true) :=
  ⟨(scrubDev { running := true, cursor := 2000000, checked := 5, corrected := 1 }).toState, 7, 7, { running := true, cursor := 2000000, checked := 5, corrected := 1 }, by decide +kernel⟩

theorem test_wit_ReshapesAndScrubs_11 : ∃ (s : State) (volume : Fin 64) (blocks : List Fetched) (v : Nat), volume.val = v ∧ (s.dev.scrubRuns v = true ∧ (s.dev.vol v).scrub.running = false ∧ 8 ≤ s.dev.jobCount (s.dev.volPier v)) :=
  ⟨((List.range 8).foldl (fun d i => d.setVol (20 + i) { scrub := { running := true } }) (scrubDev {})).toState, 7, [], 7, by decide +kernel⟩

/-- `volDev` with slot 2 powered, port 2 as given, and member 2's drive in it. -/
def portDev (x : RootPort) : Dev :=
  let d := (volDev.setPort 2 x).setDrive 2 { st := .online, volume := 7, index := 2 }
  { d with time := 400000000000, shelf := { d.shelf with slots := [(2, { st := .on })] } }

/-- `portDev`, its link up, with read 9 of command 3 outstanding on the slot. -/
def lateDev (again : Bool) (use : MUse) : Dev :=
  let d := portDev { up := true, ready := true }
  { d with store := { d.store with mcmds := [{ id := 9, slot := 2, volume := 7, member := 2, again := again, use := use }] },
           nvme := { d.nvme with cmds := [{ id := 3, src := .fabric 1024, op := .read, nsid := 5, vol := 7, ranges := [(0, 2)], dispatched := true, reading := 3 }] } }
theorem test_wit_RootPortsAndMemberControllers_1 : ∃ (s : State) (port : Fin 48) (rate : Fin 8) (width : Fin 5) (n : Nat), port.val = n ∧ (s.dev.portRuns n = true ∧ (s.dev.slotPwr (s.dev.portSlot n)).st = .on ∧ (s.dev.port n).up = false ∧ (s.dev.port n).takenAt = none) :=
  ⟨(portDev {}).toState, 2, 6, 4, 2, by decide +kernel⟩

theorem test_wit_RootPortsAndMemberControllers_1a : ∃ (s : State) (port : Fin 48) (rate : Fin 8) (width : Fin 5) (n : Nat), port.val = n ∧ (s.dev.portRuns n = true ∧ (s.dev.slotPwr (s.dev.portSlot n)).st = .on ∧ (s.dev.port n).up = false ∧ (s.dev.port n).takenAt = none) :=
  ⟨(portDev {}).toState, 2, 5, 4, 2, by decide +kernel⟩

theorem test_wit_RootPortsAndMemberControllers_2 : ∃ (s : State) (port : Fin 48) (n k v m : Nat), (port.val = n ∧ s.dev.portSlot n = k) ∧ (s.dev.portRuns n = true ∧ (s.dev.port n).up = true) :=
  ⟨(portDev { up := true }).toState, 2, 2, 2, 7, 2, by decide +kernel⟩

theorem test_wit_RootPortsAndMemberControllers_2a : ∃ (s : State) (port : Fin 48) (n k v m : Nat), (port.val = n ∧ s.dev.portSlot n = k) ∧ (s.dev.portRuns n = true ∧ (s.dev.port n).up = true) :=
  ⟨({ ((portDev { up := true }).setPort 4 { up := true }).setPort 5 { up := true } with pkg := { (portDev {}).pkg with wiring := true } }).toState, 4, 4, 2, 7, 2, by decide +kernel⟩

theorem test_wit_RootPortsAndMemberControllers_3 : ∃ (s : State) (port : Fin 48) (n : Nat) (r : DriveReport), port.val = n ∧ (s.dev.portRuns n = true ∧ (s.dev.port n).up = true ∧ (s.dev.port n).ready = false) :=
  ⟨(portDev { up := true }).toState, 2, 2, { mbs := some 0, protectionOff := true, metadataAny := true, queues := 40, cache := true, cacheOff := false, units := 5000000 }, by decide +kernel⟩

theorem test_wit_RootPortsAndMemberControllers_4 : ∃ (s : State) (port : Fin 48) (cmd : Option Nat) (n : Nat), port.val = n ∧ (s.dev.portRuns n = true ∧ (s.dev.port n).up = true) :=
  ⟨(lateDev false .repair).toState, 2, some 9, 2, by decide +kernel⟩

theorem test_wit_RootPortsAndMemberControllers_4a : ∃ (s : State) (port : Fin 48) (cmd : Option Nat) (n : Nat), port.val = n ∧ (s.dev.portRuns n = true ∧ (s.dev.port n).up = true) :=
  ⟨(lateDev false .repair).toState, 2, none, 2, by decide +kernel⟩

theorem test_wit_RootPortsAndMemberControllers_5 : ∃ (s : State) (port : Fin 48) (warning : BitVec 8) (n k v m : Nat), (port.val = n ∧ s.dev.portSlot n = k) ∧ (s.dev.portRuns n = true ∧ (s.dev.port n).ready = true) ∧ ((s.dev.port n).smartDue = true ∨ (s.dev.port n).smartAt + 60000000000 < s.dev.nowOn (s.dev.portDie n)) :=
  ⟨(portDev { up := true, ready := true }).toState, 2, 0x05#8, 2, 2, 7, 2, by decide +kernel⟩

theorem test_wit_RootPortsAndMemberControllers_5a : ∃ (s : State) (port : Fin 48) (warning : BitVec 8) (n k v m : Nat), (port.val = n ∧ s.dev.portSlot n = k) ∧ (s.dev.portRuns n = true ∧ (s.dev.port n).ready = true) ∧ ((s.dev.port n).smartDue = true ∨ (s.dev.port n).smartAt + 60000000000 < s.dev.nowOn (s.dev.portDie n)) :=
  ⟨(portDev { up := true, ready := true, smartDue := true }).toState, 2, 0x01#8, 2, 2, 7, 2, by decide +kernel⟩

theorem test_wit_RootPortsAndMemberControllers_6 : ∃ (s : State) (id cmd st row x : Nat) (c : MCmd) (ng : Bool) (y : Cmd), s.dev.store.mcmds.find? (fun c => c.id == id) = some c ∧ (s.dev.pierRuns (slotLanes c.slot) 0 = true ∧ c.since + s.dev.fld .DRV_CFG_MCMD_TO * 1000000 < s.dev.nowOn (pierDie (slotLanes c.slot))) ∧ c.use = .read cmd ng st row x ∧ (s.dev.cmd cmd = some y ∧ 2 ≤ y.reading) :=
  ⟨(lateDev false (.read 3 false 0 0 1)).toState, 9, 3, 0, 0, 1, { id := 9, slot := 2, volume := 7, member := 2, use := .read 3 false 0 0 1 }, false, { id := 3, src := .fabric 1024, op := .read, nsid := 5, vol := 7, ranges := [(0, 2)], dispatched := true, reading := 3 }, by decide +kernel⟩

theorem test_wit_RootPortsAndMemberControllers_6a : ∃ (s : State) (id cmd st row x : Nat) (c : MCmd) (ng : Bool) (y : Cmd), s.dev.store.mcmds.find? (fun c => c.id == id) = some c ∧ (s.dev.pierRuns (slotLanes c.slot) 0 = true ∧ c.since + s.dev.fld .DRV_CFG_MCMD_TO * 1000000 < s.dev.nowOn (pierDie (slotLanes c.slot))) ∧ c.use = .read cmd ng st row x ∧ (s.dev.cmd cmd = some y ∧ 2 ≤ y.reading) :=
  ⟨(lateDev true (.read 3 false 0 0 1)).toState, 9, 3, 0, 0, 1, { id := 9, slot := 2, volume := 7, member := 2, again := true, use := .read 3 false 0 0 1 }, false, { id := 3, src := .fabric 1024, op := .read, nsid := 5, vol := 7, ranges := [(0, 2)], dispatched := true, reading := 3 }, by decide +kernel⟩

theorem test_wit_RootPortsAndMemberControllers_7 : ∃ (s : State) (id n : Nat) (c : MCmd), s.dev.store.mcmds.find? (fun c => c.id == id) = some c ∧ (s.dev.pierRuns (slotLanes c.slot) 0 = true ∧ c.since + s.dev.fld .DRV_CFG_MCMD_TO * 1000000 < s.dev.nowOn (pierDie (slotLanes c.slot))) ∧ (∀ cmd ng st row x, c.use ≠ .read cmd ng st row x) ∧ (s.dev.slotPorts c.slot).find? (fun n => (s.dev.port n).up) = some n :=
  ⟨(lateDev false .repair).toState, 9, 2, { id := 9, slot := 2, volume := 7, member := 2, use := .repair }, by decide +kernel, by decide +kernel, by intros; nofun, by decide +kernel⟩

theorem test_wit_RootPortsAndMemberControllers_8 : ∃ (s : State) (port : Fin 48) (n t0 : Nat), port.val = n ∧ (s.dev.portRuns n = true ∧ (s.dev.port n).takenAt = some t0 ∧ t0 + 100000000 < s.dev.nowOn (s.dev.portDie n)) :=
  ⟨(portDev { takenAt := some 5 }).toState, 2, 2, 5, by decide +kernel⟩

theorem test_wit_RootPortsAndMemberControllers_9 : ∃ (s : State) (via : Via) (port : Fin 48) (n : Nat), port.val = n ∧ s.dev.commandMade via (s.dev.portAddr .RP_CTL n) = true ∧ s.dev.portUsed n = true :=
  ⟨(portDev { up := true }).toState, .reg (.cp 3), 2, 2, by decide +kernel⟩

theorem test_wit_RootPortsAndMemberControllers_9a : ∃ (s : State) (via : Via) (port : Fin 48) (n : Nat), port.val = n ∧ s.dev.commandMade via (s.dev.portAddr .RP_CTL n) = true ∧ s.dev.portUsed n = true :=
  ⟨(portDev { up := true }).withCustodian.toState, .dict 0x205, 2, 2, by decide +kernel⟩

theorem test_wit_RootPortsAndMemberControllers_10 : ∃ (s : State) (port : Fin 48) (n : Nat), port.val = n ∧ (s.dev.portRuns n = true ∧ (s.dev.slotPwr (s.dev.portSlot n)).st = .on ∧ (s.dev.port n).up = false ∧ (s.dev.port n).takenAt = none) :=
  ⟨(portDev {}).toState, 2, 2, by decide +kernel⟩

theorem test_wit_RootPortsAndMemberControllers_10a : ∃ (s : State) (port : Fin 48) (n : Nat), port.val = n ∧ (s.dev.portRuns n = true ∧ (s.dev.slotPwr (s.dev.portSlot n)).st = .on ∧ (s.dev.port n).up = false ∧ (s.dev.port n).takenAt = none) :=
  ⟨(portDev { noted := true }).toState, 2, 2, by decide +kernel⟩

/-- `volDev` in service with both feeds, standby, and slot 5 as given. -/
def slotDev (x : SlotPwr) (t : Nat := 20000000000) : Dev :=
  let d := volDev.setSlotPwr 5 x
  { d with time := BitVec.ofNat 64 t, mode := { d.mode with standby := true, resetHigh := true, released := some 1 }, shelf := { d.shelf with feedA := true, feedB := true, mvA := 12000, mvB := 12000 } }
theorem test_wit_SlotPowerSequence_1 : ∃ (s : State) (slot : Fin 24) (low : Bool) (k : Nat), slot.val = k ∧ (s.dev.slotLogic = true ∧ (s.dev.slotPwr k).present = !low) :=
  ⟨(slotDev {}).toState, 5, true, 5, by decide +kernel⟩

theorem test_wit_SlotPowerSequence_2 : ∃ (s : State) (slot : Fin 24) (k : Nat) (x : SlotPwr), (slot.val = k ∧ s.dev.slotPwr k = x) ∧ (s.dev.slotLogic = true ∧ x.present = true ∧ x.seated = false ∧ x.presentAt + 200000000 < s.dev.now) :=
  ⟨(slotDev { st := .debounce, present := true }).toState, 5, 5, { st := .debounce, present := true }, by decide +kernel⟩

theorem test_wit_SlotPowerSequence_2a : ∃ (s : State) (slot : Fin 24) (k : Nat) (x : SlotPwr), (slot.val = k ∧ s.dev.slotPwr k = x) ∧ (s.dev.slotLogic = true ∧ x.present = true ∧ x.seated = false ∧ x.presentAt + 200000000 < s.dev.now) :=
  ⟨((slotDev { st := .debounce, present := true }).setFld .SLOT_CFG_AUTO_ON 5 0).toState, 5, 5, { st := .debounce, present := true }, by decide +kernel⟩

theorem test_wit_SlotPowerSequence_2b : ∃ (s : State) (slot : Fin 24) (k : Nat) (x : SlotPwr), (slot.val = k ∧ s.dev.slotPwr k = x) ∧ (s.dev.slotLogic = true ∧ x.present = true ∧ x.seated = false ∧ x.presentAt + 200000000 < s.dev.now) :=
  ⟨(slotDev { st := .retryWait, present := true, waitOver := true }).toState, 5, 5, { st := .retryWait, present := true, waitOver := true }, by decide +kernel⟩

theorem test_wit_SlotPowerSequence_3 : ∃ (s : State) (slot : Fin 24) (k v m : Nat) (x : SlotPwr), (slot.val = k ∧ s.dev.slotPwr k = x) ∧ (s.dev.slotLogic = true ∧ x.present = false ∧ x.seated = true ∧ x.presentAt + 1000000 < s.dev.now) :=
  ⟨((slotDev { st := .on, seated := true, gate := true }).setDrive 5 { st := .spare }).toState, 5, 5, 7, 2, { st := .on, seated := true, gate := true }, by decide +kernel⟩

theorem test_wit_SlotPowerSequence_4 : ∃ (s : State) (slot : Fin 24) (k mv : Nat) (x : SlotPwr), (slot.val = k ∧ s.dev.slotPwr k = x) ∧ (s.dev.slotLogic = true ∧ x.st = .ramp) :=
  ⟨(slotDev { st := .ramp, aux := true, auxAt := 5 }).toState, 5, 5, 11000, { st := .ramp, aux := true, auxAt := 5 }, by decide +kernel⟩

theorem test_wit_SlotPowerSequence_4a : ∃ (s : State) (slot : Fin 24) (k mv : Nat) (x : SlotPwr), (slot.val = k ∧ s.dev.slotPwr k = x) ∧ (s.dev.slotLogic = true ∧ x.st = .ramp) :=
  ⟨(slotDev { st := .ramp, aux := true, gate := true, rampAt := 19999999999 }).toState, 5, 5, 11000, { st := .ramp, aux := true, gate := true, rampAt := 19999999999 }, by decide +kernel⟩

theorem test_wit_SlotPowerSequence_4b : ∃ (s : State) (slot : Fin 24) (k mv : Nat) (x : SlotPwr), (slot.val = k ∧ s.dev.slotPwr k = x) ∧ (s.dev.slotLogic = true ∧ x.st = .ramp) :=
  ⟨(slotDev { st := .ramp, aux := true, gate := true, ma := 7, acc := 9 }).toState, 5, 5, 11000, { st := .ramp, aux := true, gate := true, ma := 7, acc := 9 }, by decide +kernel⟩

theorem test_wit_SlotPowerSequence_5 : ∃ (s : State) (slot : Fin 24) (k mv ma aux v m : Nat) (x : SlotPwr), (slot.val = k ∧ s.dev.slotPwr k = x) ∧ s.dev.slotLogic = true :=
  ⟨((slotDev { st := .on, aux := true, gate := true, ma := 7, acc := 9 }).setVol 7 { volDev.vol 7 with members := [(0, { st := .online, slot := 5 })] } |>.setDrive 5 { st := .online, volume := 7 }).toState, 5, 5, 9000, 50000, 1500, 7, 0, { st := .on, aux := true, gate := true, ma := 7, acc := 9 }, by decide +kernel⟩

theorem test_wit_SlotPowerSequence_6 : ∃ (s : State) (slot : Fin 24) (k mv ma aux acc : Nat) (x : SlotPwr), (slot.val = k ∧ s.dev.slotPwr k = x) ∧ (s.dev.slotLogic = true ∧ s.dev.now % 5000 = 0 ∧ x.sampledAt ≠ some s.dev.now) ∧ (if x.gate then s.dev.curveStep k x.acc ma else x.acc) = acc :=
  ⟨(slotDev { st := .on, aux := true, gate := true, acc := 16777215 }).toState, 5, 5, 12000, 12000, 3, (slotDev {}).curveStep 5 16777215 12000, { st := .on, aux := true, gate := true, acc := 16777215 }, by decide +kernel⟩

theorem test_wit_SlotPowerSequence_6a : ∃ (s : State) (slot : Fin 24) (k mv ma aux acc : Nat) (x : SlotPwr), (slot.val = k ∧ s.dev.slotPwr k = x) ∧ (s.dev.slotLogic = true ∧ s.dev.now % 5000 = 0 ∧ x.sampledAt ≠ some s.dev.now) ∧ (if x.gate then s.dev.curveStep k x.acc ma else x.acc) = acc :=
  ⟨(slotDev { st := .on, aux := true, gate := true, acc := 9000000 }).toState, 5, 5, 12000, 10, 3, (slotDev {}).curveStep 5 9000000 10, { st := .on, aux := true, gate := true, acc := 9000000 }, by decide +kernel⟩

theorem test_wit_SlotPowerSequence_7 : ∃ (s : State) (slot : Fin 24) (k : Nat) (x : SlotPwr), (slot.val = k ∧ s.dev.slotPwr k = x) ∧ (s.dev.slotLogic = true ∧ x.st = .retryWait ∧ x.waitOver = false ∧ x.waitAt + s.dev.fld .SLOT_CFG_RETRY_S k * 1000000000 < s.dev.now) :=
  ⟨(slotDev { st := .retryWait, seated := true, present := true, retries := 1 } 400000000000).toState, 5, 5, { st := .retryWait, seated := true, present := true, retries := 1 }, by decide +kernel⟩

theorem test_wit_SlotPowerSequence_7a : ∃ (s : State) (slot : Fin 24) (k : Nat) (x : SlotPwr), (slot.val = k ∧ s.dev.slotPwr k = x) ∧ (s.dev.slotLogic = true ∧ x.st = .retryWait ∧ x.waitOver = false ∧ x.waitAt + s.dev.fld .SLOT_CFG_RETRY_S k * 1000000000 < s.dev.now) :=
  ⟨((slotDev { st := .retryWait, seated := true, present := true, retries := 15 } 400000000000).setFld .SLOT_CFG_RETRY_MAX 5 3).toState, 5, 5, { st := .retryWait, seated := true, present := true, retries := 15 }, by decide +kernel⟩

theorem test_wit_SlotPowerSequence_8 : ∃ (s : State) (slot : Fin 24) (k : Nat) (x : SlotPwr), (slot.val = k ∧ s.dev.slotPwr k = x) ∧ (s.dev.slotLogic = true ∧ x.st = .on ∧ x.onAt + 10000000000 < s.dev.now) :=
  ⟨(slotDev { st := .on, retries := 2 }).toState, 5, 5, { st := .on, retries := 2 }, by decide +kernel⟩

theorem test_wit_SlotPowerSequence_9 : ∃ (s : State) (feed : Fin 2) (mv f : Nat), feed.val = f ∧ s.dev.mode.standby = true :=
  ⟨(slotDev { diodeA := true, diodeB := true }).toState, 1, 9000, 1, by decide +kernel⟩

theorem test_wit_SlotPowerSequence_9a : ∃ (s : State) (feed : Fin 2) (mv f : Nat), feed.val = f ∧ s.dev.mode.standby = true :=
  ⟨{ slotDev {} with shelf := { (slotDev {}).shelf with feedA := false } }.toState, 0, 11000, 0, by decide +kernel⟩

theorem test_wit_SlotPowerSequence_10 : ∃ (s : State) (slot : Fin 24) (feed : Fin 2) (k f : Nat), (slot.val = k ∧ feed.val = f) ∧ s.dev.slotLogic = true :=
  ⟨(slotDev { diodeA := true }).toState, 5, 0, 5, 0, by decide +kernel⟩

theorem test_wit_SlotCommandsAndCurves_1 : ∃ (s : State) (via : Via) (slot : Fin 24) (k epoch : Nat) (x : SlotPwr), (slot.val = k ∧ s.dev.slotPwr k = x) ∧ s.dev.commandMade via (Reg.addr .SLOT_CMD k) = true ∧ (match via with | .reg (.cp n) => decide (n.val / 16 = (s.dev.quoinSlot k).owner) && decide (epoch = (s.dev.quoinSlot k).epoch) | .reg .pf1 => s.dev.privileged .pf1 | .dict _ => true) = true :=
  ⟨(slotDev { st := .locked, seated := true, retries := 3 }).toState, .reg (.cp 3), 5, 5, 1, { st := .locked, seated := true, retries := 3 }, by decide +kernel⟩

theorem test_wit_SlotCommandsAndCurves_1a : ∃ (s : State) (via : Via) (slot : Fin 24) (k epoch : Nat) (x : SlotPwr), (slot.val = k ∧ s.dev.slotPwr k = x) ∧ s.dev.commandMade via (Reg.addr .SLOT_CMD k) = true ∧ (match via with | .reg (.cp n) => decide (n.val / 16 = (s.dev.quoinSlot k).owner) && decide (epoch = (s.dev.quoinSlot k).epoch) | .reg .pf1 => s.dev.privileged .pf1 | .dict _ => true) = true :=
  ⟨(slotDev { st := .on, seated := true, gate := true, aux := true }).withCustodian.toState, .dict 0x205, 5, 5, 0, { st := .on, seated := true, gate := true, aux := true }, by decide +kernel⟩

theorem test_wit_SlotCommandsAndCurves_2 : ∃ (s : State) (slot : Fin 24) (k epoch : Nat) (n : Fin 40), slot.val = k ∧ (s.dev.served = true ∧ s.dev.blockIsolated (Reg.addr .SLOT_CMD k) = false) ∧ (n.val < 32 ∧ epoch < (s.dev.quoinSlot k).epoch) :=
  ⟨(slotDev { st := .on, seated := true }).toState, 5, 5, 0, 20, by decide +kernel⟩

theorem test_wit_SlotCommandsAndCurves_3 : ∃ (s : State) (slot : Fin 24) (k t0 : Nat) (x : SlotPwr), (slot.val = k ∧ s.dev.slotPwr k = x) ∧ (s.dev.slotLogic = true ∧ x.st = .off ∧ x.seated = true ∧ x.cycleAt = some t0 ∧ t0 + 1000000000 < s.dev.now) :=
  ⟨(slotDev { st := .off, seated := true, cycleAt := some 7 }).toState, 5, 5, 7, { st := .off, seated := true, cycleAt := some 7 }, by decide +kernel⟩

theorem test_wit_SlotCommandsAndCurves_4 : ∃ (s : State) (via : Via) (value : Word), s.dev.commandMade via (Reg.addr .FEED_CFG) = true :=
  ⟨(slotDev { diodeA := true, diodeB := true }).toState, .reg (.cp 3), 1#32, by decide +kernel⟩

theorem test_wit_SlotCommandsAndCurves_4a : ∃ (s : State) (via : Via) (value : Word), s.dev.commandMade via (Reg.addr .FEED_CFG) = true :=
  ⟨(slotDev { diodeA := true, diodeB := true }).toState, .reg (.cp 3), 3#32, by decide +kernel⟩

theorem test_wit_SlotCommandsAndCurves_5 : ∃ (s : State) (via : Via) (slot : Fin 24) (point : Fin 8) (value : Word) (i : Nat), slot.val * 8 + point.val = i ∧ s.dev.commandMade via (Reg.addr .SLOT_CURVE i) = true :=
  ⟨(slotDev {}).toState, .reg (.cp 3), 5, 7, 0x4B000001#32, 47, by decide +kernel⟩

theorem test_wit_SlotCommandsAndCurves_5a : ∃ (s : State) (via : Via) (slot : Fin 24) (point : Fin 8) (value : Word) (i : Nat), slot.val * 8 + point.val = i ∧ s.dev.commandMade via (Reg.addr .SLOT_CURVE i) = true :=
  ⟨(slotDev {}).toState, .reg (.cp 3), 5, 7, 0x4B100001#32, 47, by decide +kernel⟩

theorem test_wit_SlotCommandsAndCurves_6 : ∃ (s : State) (req : Requester) (slot : Fin 24) (k : Nat) (x : SlotPwr), (slot.val = k ∧ s.dev.slotPwr k = x) ∧ (s.dev.served = true ∧ s.dev.blockIsolated (Reg.addr .SLOT_HOLD_I k) = false ∧ s.dev.blockIsolated (Reg.addr .SLOT_HOLD_V k) = false) :=
  ⟨(slotDev { peakI := 100, minI := 3, ma := 50 }).toState, .pf1, 5, 5, { peakI := 100, minI := 3, ma := 50 }, by decide +kernel⟩

/-- `serviceDev` with channel 3 enabled and in the state given, its trigger `sel`. -/
def dmaDev (x : Chan) (bg : Nat := 0) (sel : Nat := 0) : Dev :=
  let d := (((serviceDev.setFld .CH_CTL_EN 3 1).setFld .CH_CTL_BG 3 bg).setFld .CH_TRIG_SEL 3 sel).setFld .CH_TRIG_PERIOD 3 5
  let d := ((d.setFld .CH_SRC_LO_ADDR 3 64).setFld .CH_DST_LO_ADDR 3 4096).setFld .CH_LEN_BYTES 3 128
  ((d.setFld .CH_QUANTUM_UNITS 3 2).setChan 3 x).hbmWrite 64 [1#8, 2#8, 3#8]
theorem test_wit_DmaChannels_1 : ∃ (s : State) (req : Requester) (ch : Fin 128) (value : Word) (n : Nat), ch.val = n ∧ (s.dev.commandMade (.reg req) (Reg.addr .CH_CTL n) = true ∧ chanAllows n req = true) ∧ s.dev.flag .CH_CTL_EN n = false :=
  ⟨((dmaDev {}).setFld .CH_CTL_EN 3 0).toState, .cp 3, 3, 0x9C000005#32, 3, by decide +kernel⟩

theorem test_wit_DmaChannels_1a : ∃ (s : State) (req : Requester) (ch : Fin 128) (value : Word) (n : Nat), ch.val = n ∧ (s.dev.commandMade (.reg req) (Reg.addr .CH_CTL n) = true ∧ chanAllows n req = true) ∧ s.dev.flag .CH_CTL_EN n = false :=
  ⟨((dmaDev {}).setFld .CH_CTL_EN 3 0).toState, .cp 3, 3, 0xC0000000#32, 3, by decide +kernel⟩

theorem test_wit_DmaChannels_1b : ∃ (s : State) (req : Requester) (ch : Fin 128) (value : Word) (n : Nat), ch.val = n ∧ (s.dev.commandMade (.reg req) (Reg.addr .CH_CTL n) = true ∧ chanAllows n req = true) ∧ s.dev.flag .CH_CTL_EN n = false :=
  ⟨((dmaDev {}).setFld .CH_CTL_EN 3 0).toState, .cp 3, 3, 0x80030000#32, 3, by decide +kernel⟩

theorem test_wit_DmaChannels_1c : ∃ (s : State) (req : Requester) (ch : Fin 128) (value : Word) (n : Nat), ch.val = n ∧ (s.dev.commandMade (.reg req) (Reg.addr .CH_CTL n) = true ∧ chanAllows n req = true) ∧ s.dev.flag .CH_CTL_EN n = false :=
  ⟨((dmaDev {}).setFld .CH_CTL_EN 3 0).toState, .cp 3, 3, 0x80040000#32, 3, by decide +kernel⟩

theorem test_wit_DmaChannels_2 : ∃ (s : State) (req : Requester) (ch : Fin 128) (value : Word) (which : Fin 7) (n : Nat), ch.val = n ∧ (s.dev.served = true ∧ chanAllows n req = false) :=
  ⟨(dmaDev {}).toState, .pf1, 3, 0#32, 4, 3, by decide +kernel⟩

theorem test_wit_DmaChannels_3 : ∃ (s : State) (req : Requester) (ch : Fin 128) (which : Fin 7) (value : Word) (n : Nat), ch.val = n ∧ (s.dev.commandMade (.reg req) (Reg.addr (shadowReg which.val) n) = true ∧ chanAllows n req = true) :=
  ⟨(dmaDev { st := .idle }).toState, .cp 3, 3, 5, 0xC1230000#32, 3, by decide +kernel⟩

theorem test_wit_DmaChannels_3a : ∃ (s : State) (req : Requester) (ch : Fin 128) (which : Fin 7) (value : Word) (n : Nat), ch.val = n ∧ (s.dev.commandMade (.reg req) (Reg.addr (shadowReg which.val) n) = true ∧ chanAllows n req = true) :=
  ⟨(dmaDev { st := .idle, full := true }).toState, .cp 3, 3, 6, 0xC1230000#32, 3, by decide +kernel⟩

theorem test_wit_DmaChannels_4 : ∃ (s : State) (req : Requester) (ch : Fin 128) (n : Nat) (x : Chan) (a : ChSet), (ch.val = n ∧ s.dev.chan n = x) ∧ (s.dev.commandMade (.reg req) (Reg.addr .CH_DOORBELL n) = true ∧ chanAllows n req = true) ∧ (x.st ∈ [ChSt.idle, .running, .waiting] ∧ x.full = false ∧ x.act = none) ∧ (a.src = s.dev.fld .CH_SRC_HI_ADDR n * 2 ^ 32 + s.dev.fld .CH_SRC_LO_ADDR n ∧ a.dst = s.dev.fld .CH_DST_HI_ADDR n * 2 ^ 32 + s.dev.fld .CH_DST_LO_ADDR n ∧ a.len = s.dev.fld .CH_LEN_BYTES n) ∧ (a.srcSg = s.dev.flag .CH_MODE_SRC_SG n ∧ a.dstSg = s.dev.flag .CH_MODE_DST_SG n ∧ a.srcSpace = s.dev.fld .CH_MODE_SRC_SPACE n ∧ a.dstSpace = s.dev.fld .CH_MODE_DST_SPACE n) ∧ (a.srcN = s.dev.fld .CH_NENT_SRC_N n ∧ a.dstN = s.dev.fld .CH_NENT_DST_N n ∧ a.srcSg = false ∧ a.dstSg = false) :=
  ⟨(dmaDev { st := .idle }).toState, .cp 3, 3, 3, { st := .idle }, { src := 64, dst := 4096, len := 128 }, by decide +kernel⟩

theorem test_wit_DmaChannels_4a : ∃ (s : State) (req : Requester) (ch : Fin 128) (n : Nat) (x : Chan) (a : ChSet), (ch.val = n ∧ s.dev.chan n = x) ∧ (s.dev.commandMade (.reg req) (Reg.addr .CH_DOORBELL n) = true ∧ chanAllows n req = true) ∧ (x.st ∈ [ChSt.idle, .running, .waiting] ∧ x.full = false ∧ x.act = none) ∧ (a.src = s.dev.fld .CH_SRC_HI_ADDR n * 2 ^ 32 + s.dev.fld .CH_SRC_LO_ADDR n ∧ a.dst = s.dev.fld .CH_DST_HI_ADDR n * 2 ^ 32 + s.dev.fld .CH_DST_LO_ADDR n ∧ a.len = s.dev.fld .CH_LEN_BYTES n) ∧ (a.srcSg = s.dev.flag .CH_MODE_SRC_SG n ∧ a.dstSg = s.dev.flag .CH_MODE_DST_SG n ∧ a.srcSpace = s.dev.fld .CH_MODE_SRC_SPACE n ∧ a.dstSpace = s.dev.fld .CH_MODE_DST_SPACE n) ∧ (a.srcN = s.dev.fld .CH_NENT_SRC_N n ∧ a.dstN = s.dev.fld .CH_NENT_DST_N n ∧ a.srcSg = false ∧ a.dstSg = false) :=
  ⟨((dmaDev { st := .idle }).setFld .CH_MODE_SRC_SPACE 3 3).toState, .cp 3, 3, 3, { st := .idle }, { src := 64, dst := 4096, len := 128, srcSpace := 3 }, by decide +kernel⟩

theorem test_wit_DmaChannels_5 : ∃ (s : State) (req : Requester) (ch : Fin 128) (n : Nat) (x : Chan), (ch.val = n ∧ s.dev.chan n = x) ∧ (s.dev.commandMade (.reg req) (Reg.addr .CH_DOORBELL n) = true ∧ chanAllows n req = true) :=
  ⟨(dmaDev { st := .running, act := some {} }).toState, .cp 3, 3, 3, { st := .running, act := some {} }, by decide +kernel⟩

theorem test_wit_DmaChannels_5a : ∃ (s : State) (req : Requester) (ch : Fin 128) (n : Nat) (x : Chan), (ch.val = n ∧ s.dev.chan n = x) ∧ (s.dev.commandMade (.reg req) (Reg.addr .CH_DOORBELL n) = true ∧ chanAllows n req = true) :=
  ⟨(dmaDev { st := .halted }).toState, .cp 3, 3, 3, { st := .halted }, by decide +kernel⟩

theorem test_wit_DmaChannels_6 : ∃ (s : State) (ch : Fin 128) (n : Nat) (x : Chan), (ch.val = n ∧ s.dev.chan n = x) ∧ (s.dev.flag .CH_CTL_EN n = true ∧ s.dev.fld .CH_TRIG_SEL n = 1 ∧ s.dev.isolated (chanRegion n) = false ∧ s.dev.nowOn (chanDie n) % (s.dev.fld .CH_TRIG_PERIOD n * 1000) = 0) :=
  ⟨(dmaDev { st := .waiting, act := some {}, remain := 200 } 1 1).toState, 3, 3, { st := .waiting, act := some {}, remain := 200 }, by decide +kernel⟩

theorem test_wit_DmaChannels_6a : ∃ (s : State) (ch : Fin 128) (n : Nat) (x : Chan), (ch.val = n ∧ s.dev.chan n = x) ∧ (s.dev.flag .CH_CTL_EN n = true ∧ s.dev.fld .CH_TRIG_SEL n = 1 ∧ s.dev.isolated (chanRegion n) = false ∧ s.dev.nowOn (chanDie n) % (s.dev.fld .CH_TRIG_PERIOD n * 1000) = 0) :=
  ⟨(dmaDev { st := .running, act := some {}, remain := 200, quantum := 64 } 1 1).toState, 3, 3, { st := .running, act := some {}, remain := 200, quantum := 64 }, by decide +kernel⟩

theorem test_wit_DmaChannels_7 : ∃ (s : State) (ch : Fin 128) (n : Nat) (x : Chan), (ch.val = n ∧ s.dev.chan n = x) ∧ (x.st = .running ∧ 0 < x.quantum ∧ x.quantum < x.remain ∧ s.dev.isolated (chanRegion n) = false ∧ x.act.all (s.dev.actReaches n) = true) :=
  ⟨(dmaDev { st := .running, act := some {}, remain := 200, quantum := 64 } 1 1).toState, 3, 3, { st := .running, act := some {}, remain := 200, quantum := 64 }, by decide +kernel⟩

theorem test_wit_DmaChannels_8 : ∃ (s : State) (ch : Fin 128) (addr : BitVec 64) (len : Word) (n sum m : Nat) (x : Chan) (a : ChSet), (ch.val = n ∧ s.dev.chan n = x) ∧ (x.st = .running ∧ s.dev.isolated (chanRegion n) = false ∧ x.act = some a) ∧ (s.dev.chanReaches n a.srcSpace = true ∧ s.dev.chanMoved n = m) ∧ (a.srcSg = true ∧ (x.srcList.map Prod.snd).sum = sum ∧ sum < a.len ∧ x.srcList.length < a.srcN) :=
  ⟨(dmaDev { st := .running, act := some { srcSg := true, len := 128, srcN := 2 } }).toState, 3, 640#64, 64#32, 3, 0, 0, { st := .running, act := some { srcSg := true, len := 128, srcN := 2 } }, { srcSg := true, len := 128, srcN := 2 }, by decide +kernel⟩

theorem test_wit_DmaChannels_8a : ∃ (s : State) (ch : Fin 128) (addr : BitVec 64) (len : Word) (n sum m : Nat) (x : Chan) (a : ChSet), (ch.val = n ∧ s.dev.chan n = x) ∧ (x.st = .running ∧ s.dev.isolated (chanRegion n) = false ∧ x.act = some a) ∧ (s.dev.chanReaches n a.srcSpace = true ∧ s.dev.chanMoved n = m) ∧ (a.srcSg = true ∧ (x.srcList.map Prod.snd).sum = sum ∧ sum < a.len ∧ x.srcList.length < a.srcN) :=
  ⟨(dmaDev { st := .running, act := some { srcSg := true, len := 128, srcN := 2 } }).toState, 3, 640#64, 192#32, 3, 0, 0, { st := .running, act := some { srcSg := true, len := 128, srcN := 2 } }, { srcSg := true, len := 128, srcN := 2 }, by decide +kernel⟩

theorem test_wit_DmaChannels_8b : ∃ (s : State) (ch : Fin 128) (addr : BitVec 64) (len : Word) (n sum m : Nat) (x : Chan) (a : ChSet), (ch.val = n ∧ s.dev.chan n = x) ∧ (x.st = .running ∧ s.dev.isolated (chanRegion n) = false ∧ x.act = some a) ∧ (s.dev.chanReaches n a.srcSpace = true ∧ s.dev.chanMoved n = m) ∧ (a.srcSg = true ∧ (x.srcList.map Prod.snd).sum = sum ∧ sum < a.len ∧ x.srcList.length < a.srcN) :=
  ⟨(dmaDev { st := .running, act := some { srcSg := true, dst := 4096, len := 128, srcN := 2 }, srcList := [(64, 64)], remain := 128 }).toState, 3, 641#64, 64#32, 3, 64, 64, { st := .running, act := some { srcSg := true, dst := 4096, len := 128, srcN := 2 }, srcList := [(64, 64)], remain := 128 }, { srcSg := true, dst := 4096, len := 128, srcN := 2 }, by decide +kernel⟩

theorem test_wit_DmaChannels_8c : ∃ (s : State) (ch : Fin 128) (addr : BitVec 64) (len : Word) (n sum m : Nat) (x : Chan) (a : ChSet), (ch.val = n ∧ s.dev.chan n = x) ∧ (x.st = .running ∧ s.dev.isolated (chanRegion n) = false ∧ x.act = some a) ∧ (s.dev.chanReaches n a.srcSpace = true ∧ s.dev.chanMoved n = m) ∧ (a.srcSg = true ∧ (x.srcList.map Prod.snd).sum = sum ∧ sum < a.len ∧ x.srcList.length < a.srcN) :=
  ⟨(dmaDev { st := .running, act := some { srcSg := true, len := 128, srcN := 2 } }).toState, 3, 641#64, 64#32, 3, 0, 0, { st := .running, act := some { srcSg := true, len := 128, srcN := 2 } }, { srcSg := true, len := 128, srcN := 2 }, by decide +kernel⟩

theorem test_wit_DmaChannels_9 : ∃ (s : State) (ch : Fin 128) (errAddr : BitVec 64) (data : List Byte) (n : Nat) (x : Chan) (a : ChSet), (ch.val = n ∧ s.dev.chan n = x) ∧ (x.st = .running ∧ s.dev.isolated (chanRegion n) = false ∧ x.act = some a ∧ (x.quantum = 0 ∨ x.remain ≤ x.quantum) ∧ x.full = false) ∧ (a.srcSg = false ∧ a.dstSg = false ∧ a.srcSpace < 2 ∧ a.dstSpace < 2 ∧ s.dev.actReaches n a = true) :=
  ⟨((((dmaDev { st := .running, act := some { src := 64, dst := 4096, len := 128 }, remain := 128 }).setFld .CH_CTL_EN 9 1).setFld .CH_TRIG_SEL 9 2).setFld .CH_TRIG_CHAIN 9 3).setChan 9 { st := .waiting, act := some {} } |>.toState, 3, 7#64, [], 3, { st := .running, act := some { src := 64, dst := 4096, len := 128 }, remain := 128 }, { src := 64, dst := 4096, len := 128 }, by decide +kernel⟩

theorem test_wit_DmaChannels_10 : ∃ (s : State) (req : Requester) (ch : Fin 128) (n : Nat) (x : Chan), (ch.val = n ∧ s.dev.chan n = x) ∧ (s.dev.commandMade (.reg req) (Reg.addr .CH_CTL n) = true ∧ chanAllows n req = true) :=
  ⟨(dmaDev { st := .idle }).toState, .cp 3, 3, 3, { st := .idle }, by decide +kernel⟩

theorem test_wit_DmaChannels_10a : ∃ (s : State) (req : Requester) (ch : Fin 128) (n : Nat) (x : Chan), (ch.val = n ∧ s.dev.chan n = x) ∧ (s.dev.commandMade (.reg req) (Reg.addr .CH_CTL n) = true ∧ chanAllows n req = true) :=
  ⟨(dmaDev { st := .running, act := some { src := 64, dst := 128, len := 128 }, remain := 128 }).toState, .cp 3, 3, 3, { st := .running, act := some { src := 64, dst := 128, len := 128 }, remain := 128 }, by decide +kernel⟩

/-- `serviceDev` with the host link up, PF0 and VF 1 enabled with admin queues whose first entry is not yet fetched, the functions as given. -/
def epDev (fns : Table EpFn := [(0, { busMaster := true }), (1, { busMaster := true }), (2, { busMaster := true, ready := true })]) : Dev :=
  let c : Ctrl := { kind := .pcie, cc := 0x460001, rdy := true, sqs := [(0, { size := 32, tail := 1 })], cqs := [(0, { size := 32 })] }
  { serviceDev with ep := { fns := fns, up := true, flit := true, rate := 6, width := 16, vfEnable := true, numVfs := 4 }
                    nvme := { serviceDev.nvme with ctrls := [(959, c), (960, c)], nextCmd := 7 } }
theorem test_wit_EndpointLinkAndFunctions_1 : ∃ (s : State) (rate : Fin 7) (width : Fin 17) (flit : Bool), (s.dev.epUp = true ∧ s.dev.ep.up = false) ∧ (rate.val ≠ 0 ∧ width.val ≠ 0) :=
  ⟨(serviceDev.setFld .EP_CFG_SSID 0 9).toState, 6, 16, true, by decide +kernel⟩

theorem test_wit_EndpointLinkAndFunctions_1a : ∃ (s : State) (rate : Fin 7) (width : Fin 17) (flit : Bool), (s.dev.epUp = true ∧ s.dev.ep.up = false) ∧ (rate.val ≠ 0 ∧ width.val ≠ 0) :=
  ⟨(serviceDev.setFld .EP_VEC_PF0_VEC 0 100).toState, 5, 16, false, by decide +kernel⟩

theorem test_wit_EndpointLinkAndFunctions_2 : ∃ (s : State) (why : LinkEnd), s.dev.epUp = true :=
  ⟨({ (epDev.setChan 120 { st := .running }) with nvme := { epDev.nvme with cmds := [{ id := 4, ctrl := 960, src := .pcie 1 1 }] } } : Dev).toState, .linkDown, by decide +kernel⟩

theorem test_wit_EndpointLinkAndFunctions_3 : ∃ (s : State) (ch : Fin 128) (addr : BitVec 64) (n : Nat) (x : Chan), (s.dev.epUp = true ∧ s.dev.ep.up = true) ∧ (ch.val = n ∧ 96 ≤ n ∧ s.dev.chan n = x ∧ x.st = .running ∧ s.dev.chanUsesHost n = true) :=
  ⟨(epDev.setChan 100 { st := .running, act := some { srcSpace := 3 } }).toState, 100, 0x1234#64, 100, { st := .running, act := some { srcSpace := 3 } }, by decide +kernel⟩

theorem test_wit_EndpointLinkAndFunctions_4 : ∃ (s : State) (id : Nat) (c : Cmd) (fn : Fin 65) (q : Nat) (aer : Word) (src : Fin 66), (s.dev.epUp = true ∧ s.dev.ep.up = true) ∧ (s.dev.cmd id = some c ∧ c.src = .pcie fn q) ∧ (c.completed = false ∧ c.cancelled = false ∧ c.status = none) :=
  ⟨({ epDev with nvme := { epDev.nvme with cmds := [{ id := 4, ctrl := 960, src := .pcie 1 1 }] } } : Dev).toState, 4, { id := 4, ctrl := 960, src := .pcie 1 1 }, 1, 1, 0x1000#32, 2, by decide +kernel⟩

theorem test_wit_EndpointLinkAndFunctions_5 : ∃ (s : State) (fn : Fin 65) (c : Ctrl), (s.dev.epUp = true ∧ s.dev.ep.up = true) ∧ s.dev.ctrl (959 + fn.val) = some c :=
  ⟨({ epDev with nvme := { epDev.nvme with ctrls := [(959, {})] } } : Dev).toState, 0, {}, by decide +kernel⟩

theorem test_wit_EndpointLinkAndFunctions_6 : ∃ (s : State) (numVfs : Word) (on : Bool), (s.dev.epUp = true ∧ s.dev.ep.up = true ∧ (s.dev.epFn 0).flr = false) :=
  ⟨epDev.toState, 65#32, true, by decide +kernel⟩

theorem test_wit_EndpointLinkAndFunctions_6a : ∃ (s : State) (numVfs : Word) (on : Bool), (s.dev.epUp = true ∧ s.dev.ep.up = true ∧ (s.dev.epFn 0).flr = false) :=
  ⟨({ epDev with ep := { epDev.ep with vfEnable := false } } : Dev).toState, 65#32, false, by decide +kernel⟩

theorem test_wit_EndpointLinkAndFunctions_7 : ∃ (s : State) (vf : Fin 65) (v : Nat), (s.dev.epUp = true ∧ s.dev.ep.up = true ∧ s.dev.ep.vfEnable = true) ∧ (vf.val = v ∧ 1 ≤ v ∧ v ≤ s.dev.ep.numVfs) ∧ (s.dev.epFn (v + 1)).ready = false :=
  ⟨(epDev [(0, {})]).toState, 4, 4, by decide +kernel⟩

theorem test_wit_EndpointLinkAndFunctions_8 : ∃ (s : State) (fn : Fin 66) (outstanding discarded : Nat), (s.dev.epUp = true ∧ s.dev.ep.up = true ∧ (s.dev.epFn fn.val).busMaster = true) :=
  ⟨({ epDev with nvme := { epDev.nvme with cmds := [{ id := 4, ctrl := 960, src := .pcie 1 1 }] } } : Dev).toState, 2, 3, 2, by decide +kernel⟩

theorem test_wit_EndpointLinkAndFunctions_8a : ∃ (s : State) (fn : Fin 66) (outstanding discarded : Nat), (s.dev.epUp = true ∧ s.dev.ep.up = true ∧ (s.dev.epFn fn.val).busMaster = true) :=
  ⟨(epDev.setChan 120 { st := .waiting }).toState, 1, 3, 2, by decide +kernel⟩

theorem test_wit_EndpointLinkAndFunctions_9 : ∃ (s : State) (fn : Fin 66) (unmasked us : List Nat), (s.dev.epUp = true ∧ s.dev.ep.up = true ∧ s.dev.epFnHere fn.val = true) ∧ us = (if fn.val = 1 then (s.dev.epFn 1).unmasked else unmasked) :=
  ⟨(epDev [(2, { waiting := [3, 5, 9], ready := true })]).toState, 2, [5, 9], [5, 9], by decide +kernel⟩

theorem test_wit_EndpointLinkAndFunctions_10 : ∃ (s : State) (fn : Fin 66) (vec f : Nat) (x : EpFn), (s.dev.epUp = true ∧ fn.val = f ∧ s.dev.epFn f = x ∧ s.dev.epFnHere f = true ∧ (f ≠ 1 ∨ vec < 64)) ∧ x.unmasked.contains vec = false :=
  ⟨(epDev [(1, { busMaster := true, waiting := [63, 5] })]).toState, 1, 63, 1, { busMaster := true, waiting := [63, 5] }, by decide +kernel⟩

theorem test_wit_EndpointLinkAndFunctions_10a : ∃ (s : State) (fn : Fin 66) (vec f : Nat) (x : EpFn), (s.dev.epUp = true ∧ fn.val = f ∧ s.dev.epFn f = x ∧ s.dev.epFnHere f = true ∧ (f ≠ 1 ∨ vec < 64)) ∧ x.unmasked.contains vec = false :=
  ⟨(epDev [(0, { waiting := [63, 5] })]).toState, 0, 5, 0, { waiting := [63, 5] }, by decide +kernel⟩

theorem test_wit_EndpointLinkAndFunctions_11 : ∃ (s : State) (discarded : Nat), (s.dev.epUp = true ∧ s.dev.ep.up = true) :=
  ⟨({ epDev with nvme := { epDev.nvme with cmds := [{ id := 4, ctrl := 959, src := .pcie 0 1 }] } } : Dev).toState, 3, by decide +kernel⟩

theorem test_wit_EndpointLinkAndFunctions_12 : ∃ (s : State) (vf : Fin 65) (v discarded : Nat), (vf.val = v ∧ v ≠ 0 ∧ s.dev.nvmeFnUp v = true) :=
  ⟨({ epDev with nvme := { epDev.nvme with cmds := [{ id := 4, ctrl := 960, src := .pcie 1 1 }] } } : Dev).toState, 1, 1, 3, by decide +kernel⟩

theorem test_wit_EndpointLinkAndFunctions_13 : ∃ (s : State) (fn : Fin 66), (s.dev.epUp = true ∧ (s.dev.epFn fn.val).flr = true) :=
  ⟨(epDev [(65, { flr := true })]).toState, 65, by decide +kernel⟩

theorem test_wit_EndpointLinkAndFunctions_14 : ∃ (s : State) (fn : Fin 66) (aer : Word), (s.dev.epUp = true ∧ s.dev.ep.up = true) :=
  ⟨epDev.toState, 65, 0x1000#32, by decide +kernel⟩

/-- `epDev` with aperture window 2 on stack 1, unit 17, open for reads and writes. -/
def apDev : Dev :=
  let d := ((epDev.setFld .EP_WIN_EN 2 1).setFld .EP_WIN_READ 2 1).setFld .EP_WIN_WRITE 2 1
  (d.setFld .EP_WIN_STACK 2 1).setFld .EP_WIN_UNIT 2 17

/-- `epDev` with completion queue 3 and submission queue 3 on it of PF0, and one command from it. -/
def sqDev : Dev :=
  let c : Ctrl := { kind := .pcie, cc := 0x460001, rdy := true, sqs := [(0, { size := 32, tail := 1 }), (3, { size := 16, cq := 3 })], cqs := [(0, { size := 32 }), (3, { size := 8, irq := false })] }
  { epDev with nvme := { epDev.nvme with ctrls := [(959, c)], cmds := [{ id := 4, ctrl := 959, src := .pcie 0 3, sqid := 3, cid := 9, opcode := 2 }] } }
theorem test_wit_EndpointQueuesAndAperture_1 : ∃ (s : State) (fn : Fin 65) (k : Nat) (c : Ctrl) (value aqa : Word), (s.dev.nvmeFnUp fn.val = true ∧ s.dev.frontUp = true) ∧ (959 + fn.val = k ∧ s.dev.ctrl k = some c ∧ c.cc % 2 = 0) ∧ (value.toNat % 2 = 1 ∧ value.toNat / 2 ^ 14 % 4 = 0) :=
  ⟨({ (epDev.setFld .EP_FN_CFG_EN 1 1).setFld .EP_FN_CFG_HOST 1 6 with nvme := { epDev.nvme with ctrls := [(960, { kind := .pcie })] } } : Dev).toState, 1, 960, { kind := .pcie }, 0x460001#32, 0x001F003F#32, by decide +kernel⟩

theorem test_wit_EndpointQueuesAndAperture_1a : ∃ (s : State) (fn : Fin 65) (k : Nat) (c : Ctrl) (value aqa : Word), (s.dev.nvmeFnUp fn.val = true ∧ s.dev.frontUp = true) ∧ (959 + fn.val = k ∧ s.dev.ctrl k = some c ∧ c.cc % 2 = 0) ∧ (value.toNat % 2 = 1 ∧ value.toNat / 2 ^ 14 % 4 = 0) :=
  ⟨({ epDev with nvme := { epDev.nvme with ctrls := [(960, { kind := .pcie })] } } : Dev).toState, 1, 960, { kind := .pcie }, 0x460001#32, 0x001F003F#32, by decide +kernel⟩

theorem test_wit_EndpointQueuesAndAperture_2 : ∃ (s : State) (fn : Fin 65) (k : Nat) (c : Ctrl) (value aqa : Word), (s.dev.nvmeFnUp fn.val = true ∧ s.dev.frontUp = true) ∧ (959 + fn.val = k ∧ s.dev.ctrl k = some c ∧ c.cc % 2 = 1) ∧ (value.toNat % 2 = 0 ∨ value.toNat / 2 ^ 14 % 4 ≠ 0) :=
  ⟨sqDev.toState, 0, 959, { kind := .pcie, cc := 0x460001, rdy := true, sqs := [(0, { size := 32, tail := 1 }), (3, { size := 16, cq := 3 })], cqs := [(0, { size := 32 }), (3, { size := 8, irq := false })] }, 0x460000#32, 0#32, by decide +kernel⟩

theorem test_wit_EndpointQueuesAndAperture_2a : ∃ (s : State) (fn : Fin 65) (k : Nat) (c : Ctrl) (value aqa : Word), (s.dev.nvmeFnUp fn.val = true ∧ s.dev.frontUp = true) ∧ (959 + fn.val = k ∧ s.dev.ctrl k = some c ∧ c.cc % 2 = 1) ∧ (value.toNat % 2 = 0 ∨ value.toNat / 2 ^ 14 % 4 ≠ 0) :=
  ⟨sqDev.toState, 0, 959, { kind := .pcie, cc := 0x460001, rdy := true, sqs := [(0, { size := 32, tail := 1 }), (3, { size := 16, cq := 3 })], cqs := [(0, { size := 32 }), (3, { size := 8, irq := false })] }, 0x464001#32, 0#32, by decide +kernel⟩

theorem test_wit_EndpointQueuesAndAperture_3 : ∃ (s : State) (fn : Fin 65) (k : Nat) (c : Ctrl) (cid : BitVec 16) (a : QueueArgs) (cqid vec : Nat) (irq : Bool), (s.dev.adminAt (.pcie fn 0) k c = true ∧ s.dev.numberFree = true ∧ c.kind = .pcie) :=
  ⟨sqDev.toState, 0, 959, { kind := .pcie, cc := 0x460001, rdy := true, sqs := [(0, { size := 32, tail := 1 }), (3, { size := 16, cq := 3 })], cqs := [(0, { size := 32 }), (3, { size := 8, irq := false })] }, 5#16, ⟨256, 4095#16, true⟩, 3, 447, true, by decide +kernel⟩

theorem test_wit_EndpointQueuesAndAperture_3a : ∃ (s : State) (fn : Fin 65) (k : Nat) (c : Ctrl) (cid : BitVec 16) (a : QueueArgs) (cqid vec : Nat) (irq : Bool), (s.dev.adminAt (.pcie fn 0) k c = true ∧ s.dev.numberFree = true ∧ c.kind = .pcie) :=
  ⟨sqDev.toState, 0, 959, { kind := .pcie, cc := 0x460001, rdy := true, sqs := [(0, { size := 32, tail := 1 }), (3, { size := 16, cq := 3 })], cqs := [(0, { size := 32 }), (3, { size := 8, irq := false })] }, 5#16, ⟨3, 15#16, true⟩, 3, 448, true, by decide +kernel⟩

theorem test_wit_EndpointQueuesAndAperture_4 : ∃ (s : State) (fn : Fin 65) (k : Nat) (c : Ctrl) (cid : BitVec 16) (qid : Nat), (s.dev.adminAt (.pcie fn 0) k c = true ∧ s.dev.numberFree = true) :=
  ⟨sqDev.toState, 0, 959, { kind := .pcie, cc := 0x460001, rdy := true, sqs := [(0, { size := 32, tail := 1 }), (3, { size := 16, cq := 3 })], cqs := [(0, { size := 32 }), (3, { size := 8, irq := false })] }, 5#16, 3, by decide +kernel⟩

theorem test_wit_EndpointQueuesAndAperture_4a : ∃ (s : State) (fn : Fin 65) (k : Nat) (c : Ctrl) (cid : BitVec 16) (qid : Nat), (s.dev.adminAt (.pcie fn 0) k c = true ∧ s.dev.numberFree = true) :=
  ⟨sqDev.toState, 0, 959, { kind := .pcie, cc := 0x460001, rdy := true, sqs := [(0, { size := 32, tail := 1 }), (3, { size := 16, cq := 3 })], cqs := [(0, { size := 32 }), (3, { size := 8, irq := false })] }, 5#16, 4, by decide +kernel⟩

theorem test_wit_EndpointQueuesAndAperture_4b : ∃ (s : State) (fn : Fin 65) (k : Nat) (c : Ctrl) (cid : BitVec 16) (qid : Nat), (s.dev.adminAt (.pcie fn 0) k c = true ∧ s.dev.numberFree = true) :=
  ⟨({ epDev with nvme := { epDev.nvme with ctrls := [(959, { cc := 1, rdy := true, sqs := [(0, { size := 32, tail := 1 })], cqs := [(3, { size := 8 })] })] } } : Dev).toState, 0, 959, { cc := 1, rdy := true, sqs := [(0, { size := 32, tail := 1 })], cqs := [(3, { size := 8 })] }, 5#16, 3, by decide +kernel⟩

theorem test_wit_EndpointQueuesAndAperture_5 : ∃ (s : State) (fn : Fin 65) (k qid : Nat) (c : Ctrl) (value : BitVec 16), (s.dev.nvmeFnUp fn.val = true ∧ s.dev.frontUp = true) ∧ (959 + fn.val = k ∧ s.dev.ctrl k = some c) :=
  ⟨sqDev.toState, 0, 959, 3, { kind := .pcie, cc := 0x460001, rdy := true, sqs := [(0, { size := 32, tail := 1 }), (3, { size := 16, cq := 3 })], cqs := [(0, { size := 32 }), (3, { size := 8, irq := false })] }, 7#16, by decide +kernel⟩

theorem test_wit_EndpointQueuesAndAperture_5a : ∃ (s : State) (fn : Fin 65) (k qid : Nat) (c : Ctrl) (value : BitVec 16), (s.dev.nvmeFnUp fn.val = true ∧ s.dev.frontUp = true) ∧ (959 + fn.val = k ∧ s.dev.ctrl k = some c) :=
  ⟨sqDev.toState, 0, 959, 3, { kind := .pcie, cc := 0x460001, rdy := true, sqs := [(0, { size := 32, tail := 1 }), (3, { size := 16, cq := 3 })], cqs := [(0, { size := 32 }), (3, { size := 8, irq := false })] }, 16#16, by decide +kernel⟩

theorem test_wit_EndpointQueuesAndAperture_6 : ∃ (s : State) (offset : BitVec 34) (off w n a : Nat) (data : List Byte), (s.dev.epUp = true ∧ s.dev.ep.up = true ∧ (s.dev.epFn 1).flr = false) ∧ (offset.toNat = off ∧ off / 2 ^ 30 = w ∧ a = s.dev.fld .EP_WIN_STACK w * 2 ^ 40 + s.dev.fld .EP_WIN_UNIT w * 2 ^ 30 + off % 2 ^ 30) ∧ (0 < n ∧ off % 4096 + n ≤ 4096 ∧ data.length = n) ∧ (s.dev.flag .EP_WIN_EN w = true ∧ s.dev.modeNow ≠ .safe ∧ s.dev.stackCutOff (s.dev.fld .EP_WIN_STACK w) = false) :=
  ⟨apDev.toState, 0x80000FFE#34, 0x80000FFE, 2, 2, 1117765242878, [7#8, 8#8], by decide +kernel⟩

theorem test_wit_EndpointQueuesAndAperture_7 : ∃ (s : State) (offset : BitVec 34) (off w n : Nat) (data : List Byte) (ok closed cut : Bool), (s.dev.epUp = true ∧ s.dev.ep.up = true ∧ (s.dev.epFn 1).flr = false) ∧ (offset.toNat = off ∧ off / 2 ^ 30 = w ∧ off % 4096 + n ≤ 4096 ∧ 0 < n ∧ data.length = n) ∧ (closed = decide (s.dev.modeNow = .safe) ∧ cut = s.dev.stackCutOff (s.dev.fld .EP_WIN_STACK w)) :=
  ⟨epDev.toState, 0x80000FFE#34, 0x80000FFE, 2, 2, [7#8, 8#8], true, false, false, by decide +kernel⟩

theorem test_wit_EndpointQueuesAndAperture_7a : ∃ (s : State) (offset : BitVec 34) (off w n : Nat) (data : List Byte) (ok closed cut : Bool), (s.dev.epUp = true ∧ s.dev.ep.up = true ∧ (s.dev.epFn 1).flr = false) ∧ (offset.toNat = off ∧ off / 2 ^ 30 = w ∧ off % 4096 + n ≤ 4096 ∧ 0 < n ∧ data.length = n) ∧ (closed = decide (s.dev.modeNow = .safe) ∧ cut = s.dev.stackCutOff (s.dev.fld .EP_WIN_STACK w)) :=
  ⟨(apDev.setFld .EP_WIN_WRITE 2 0).toState, 0x80000FFE#34, 0x80000FFE, 2, 2, [7#8, 8#8], true, false, false, by decide +kernel⟩

theorem test_wit_EndpointQueuesAndAperture_7b : ∃ (s : State) (offset : BitVec 34) (off w n : Nat) (data : List Byte) (ok closed cut : Bool), (s.dev.epUp = true ∧ s.dev.ep.up = true ∧ (s.dev.epFn 1).flr = false) ∧ (offset.toNat = off ∧ off / 2 ^ 30 = w ∧ off % 4096 + n ≤ 4096 ∧ 0 < n ∧ data.length = n) ∧ (closed = decide (s.dev.modeNow = .safe) ∧ cut = s.dev.stackCutOff (s.dev.fld .EP_WIN_STACK w)) :=
  ⟨({ apDev with arch := { apDev.arch with seams := apDev.arch.seams.erase 2 } } : Dev).toState, 0x80000FFE#34, 0x80000FFE, 2, 2, [7#8, 8#8], true, false, true, by decide +kernel⟩

theorem test_wit_EndpointQueuesAndAperture_8 : ∃ (s : State) (via : Via) (w : Fin 16) (value : Word), s.dev.commandMade via (Reg.addr .EP_WIN w.val) = true :=
  ⟨epDev.toState, .reg (.cp 3), 15, 0xE0000117#32, by decide +kernel⟩

theorem test_wit_EndpointQueuesAndAperture_8a : ∃ (s : State) (via : Via) (w : Fin 16) (value : Word), s.dev.commandMade via (Reg.addr .EP_WIN w.val) = true :=
  ⟨epDev.withCustodian.toState, .dict 0x205, 15, 0xE0000118#32, by decide +kernel⟩

theorem test_wit_EndpointQueuesAndAperture_9 : ∃ (s : State) (via : Via) (value : Word), s.dev.commandMade via (Reg.addr .EP_VEC) = true :=
  ⟨epDev.toState, .reg .pf1, 0x01C00018#32, by decide +kernel⟩

theorem test_wit_EndpointQueuesAndAperture_9a : ∃ (s : State) (via : Via) (value : Word), s.dev.commandMade via (Reg.addr .EP_VEC) = true :=
  ⟨epDev.toState, .reg .pf1, 0x01C10018#32, by decide +kernel⟩

/-- `serviceDev` with session 205h of 10BASE-T1S open and otherwise as given, and the customer secret held. -/
def sesDev (x : Session) : Dev :=
  let d := serviceDev.setSession 0x205 { x with openT1s := true }
  { d with cust := { d.cust with cs := some [2#8] } }
theorem test_wit_DictionaryAndSessions_1 : ∃ (s : State) (session : Nat) (index : BitVec 16) (sub : Byte) (data : List Byte), s.dev.sessionLive session = true :=
  ⟨(sesDev {}).toState, 0x205, 0x2003#16, 0#8, [1#8], by decide +kernel⟩

theorem test_wit_DictionaryAndSessions_1a : ∃ (s : State) (session : Nat) (index : BitVec 16) (sub : Byte) (data : List Byte), s.dev.sessionLive session = true :=
  ⟨(sesDev {}).toState, 0x100, 0x2000#16, 1#8, [1#8], by decide +kernel⟩

theorem test_wit_DictionaryAndSessions_2 : ∃ (s : State) (session : Nat) (index : BitVec 16) (sub : Byte) (o : Obj), (s.dev.sessionLive session = true ∧ s.dev.object index.toNat sub.toNat = some (some o)) :=
  ⟨(sesDev {}).toState, 0x205, 0x2001#16, 0#8, { right := .woCustodian, size := .fixed 1, kind := .command }, by decide +kernel⟩

theorem test_wit_DictionaryAndSessions_2a : ∃ (s : State) (session : Nat) (index : BitVec 16) (sub : Byte) (o : Obj), (s.dev.sessionLive session = true ∧ s.dev.object index.toNat sub.toNat = some (some o)) :=
  ⟨(sesDev {}).toState, 0x205, 0x2000#16, 0#8, { right := .ro, size := .fixed 1, read := [2#8], pdo := true }, by decide +kernel⟩

theorem test_wit_DictionaryAndSessions_2b : ∃ (s : State) (session : Nat) (index : BitVec 16) (sub : Byte) (o : Obj), (s.dev.sessionLive session = true ∧ s.dev.object index.toNat sub.toNat = some (some o)) :=
  ⟨(sesDev {}).toState, 1, 0x1008#16, 0#8, { right := .const, size := .upTo 6, read := ascii "YD9624" }, by decide +kernel⟩

theorem test_wit_DictionaryAndSessions_2c : ∃ (s : State) (session : Nat) (index : BitVec 16) (sub : Byte) (o : Obj), (s.dev.sessionLive session = true ∧ s.dev.object index.toNat sub.toNat = some (some o)) :=
  ⟨(sesDev {}).toState, 1, 0x1017#16, 0#8, { right := .rw, size := .fixed 2, read := [232#8, 3#8], kind := .own }, by decide +kernel⟩

theorem test_wit_DictionaryAndSessions_3 : ∃ (s : State) (session : Nat) (index : BitVec 16) (sub : Byte) (data : List Byte) (o : Obj), (s.dev.sessionLive session = true ∧ s.dev.object index.toNat sub.toNat = some (some o)) :=
  ⟨(sesDev {}).toState, 0x205, 0x2000#16, 0#8, [1#8], { right := .ro, size := .fixed 1, read := [2#8], pdo := true }, by decide +kernel⟩

theorem test_wit_DictionaryAndSessions_3a : ∃ (s : State) (session : Nat) (index : BitVec 16) (sub : Byte) (data : List Byte) (o : Obj), (s.dev.sessionLive session = true ∧ s.dev.object index.toNat sub.toNat = some (some o)) :=
  ⟨(sesDev {}).toState, 0x205, 0x1017#16, 0#8, [1#8], { right := .rw, size := .fixed 2, read := [232#8, 3#8], kind := .own }, by decide +kernel⟩

theorem test_wit_DictionaryAndSessions_3b : ∃ (s : State) (session : Nat) (index : BitVec 16) (sub : Byte) (data : List Byte) (o : Obj), (s.dev.sessionLive session = true ∧ s.dev.object index.toNat sub.toNat = some (some o)) :=
  ⟨(sesDev { level := .operator }).toState, 0x205, 0x1017#16, 0#8, [1#8], { right := .rw, size := .fixed 2, read := [232#8, 3#8], kind := .own }, by decide +kernel⟩

theorem test_wit_DictionaryAndSessions_4 : ∃ (s : State) (session : Nat) (index : BitVec 16) (sub : Byte) (data : List Byte) (o : Obj) (l : Level) (r : Reg) (f : Fld) (k : Nat), (s.dev.sessionLive session = true ∧ s.dev.object index.toNat sub.toNat = some (some o) ∧ o.kind = .part r f k) ∧ (o.right.writeLevel = some l ∧ l.code ≤ (s.dev.sessionLevel session).code ∧ (o.addr.map s.dev.unreached).getD false = false ∧ o.size.bytes = some data.length) ∧ (r ≠ .VOL_CFG ∧ r ≠ .TN_SRATE ∧ r ≠ .TN_SBURST ∧ f ∉ answerFlds) :=
  ⟨(sesDev { level := .custodian }).toState, 0x205, 0x2030#16, 2#8, [0xFF#8, 1#8], { right := .rw, size := .fixed 2, addr := some 1556, read := [88#8, 2#8], kind := .part .GOV_CTL .GOV_CTL_TARGET_PS 1 }, .operator, .GOV_CTL, .GOV_CTL_TARGET_PS, 1, by decide +kernel⟩

theorem test_wit_DictionaryAndSessions_4a : ∃ (s : State) (session : Nat) (index : BitVec 16) (sub : Byte) (data : List Byte) (o : Obj) (l : Level) (r : Reg) (f : Fld) (k : Nat), (s.dev.sessionLive session = true ∧ s.dev.object index.toNat sub.toNat = some (some o) ∧ o.kind = .part r f k) ∧ (o.right.writeLevel = some l ∧ l.code ≤ (s.dev.sessionLevel session).code ∧ (o.addr.map s.dev.unreached).getD false = false ∧ o.size.bytes = some data.length) ∧ (r ≠ .VOL_CFG ∧ r ≠ .TN_SRATE ∧ r ≠ .TN_SBURST ∧ f ∉ answerFlds) :=
  ⟨(sesDev { level := .custodian }).toState, 0x205, 0x2030#16, 2#8, [0xFF#8, 255#8], { right := .rw, size := .fixed 2, addr := some 1556, read := [88#8, 2#8], kind := .part .GOV_CTL .GOV_CTL_TARGET_PS 1 }, .operator, .GOV_CTL, .GOV_CTL_TARGET_PS, 1, by decide +kernel⟩

theorem test_wit_DictionaryAndSessions_5 : ∃ (s : State) (session : Nat) (index : BitVec 16) (sub : Byte) (data : List Byte) (o : Obj) (l : Level), (s.dev.sessionLive session = true ∧ s.dev.object index.toNat sub.toNat = some (some o) ∧ o.kind = .own) ∧ (o.right.writeLevel = some l ∧ l.code ≤ (s.dev.sessionLevel session).code ∧ (o.addr.map s.dev.unreached).getD false = false ∧ o.size.bytes = some data.length) :=
  ⟨(sesDev { level := .operator }).toState, 0x205, 0x1017#16, 0#8, [1#8, 0#8], { right := .rw, size := .fixed 2, read := [232#8, 3#8], kind := .own }, .operator, by decide +kernel⟩

theorem test_wit_DictionaryAndSessions_5a : ∃ (s : State) (session : Nat) (index : BitVec 16) (sub : Byte) (data : List Byte) (o : Obj) (l : Level), (s.dev.sessionLive session = true ∧ s.dev.object index.toNat sub.toNat = some (some o) ∧ o.kind = .own) ∧ (o.right.writeLevel = some l ∧ l.code ≤ (s.dev.sessionLevel session).code ∧ (o.addr.map s.dev.unreached).getD false = false ∧ o.size.bytes = some data.length) :=
  ⟨(sesDev { level := .custodian }).toState, 0x205, 0x2010#16, 3#8, [3#8], { right := .rwp, size := .fixed 1, read := [2#8], kind := .own }, .custodian, by decide +kernel⟩

theorem test_wit_DictionaryAndSessions_6 : ∃ (s : State) (x : Storing) (xs : List Storing), (s.dev.managed = true ∧ s.dev.fw.storing = x :: xs) ∧ (x.fields.map Prod.fst).Nodup :=
  ⟨({ sesDev {} with fw := { (sesDev {}).fw with storing := [{ session := some 0x205, name := some 0x101700, object := some (0x101700, [1#8, 0#8]), fields := [(5, some 7), (6, none)] }] } } : Dev).toState, { session := some 0x205, name := some 0x101700, object := some (0x101700, [1#8, 0#8]), fields := [(5, some 7), (6, none)] }, [], by decide +kernel⟩

theorem test_wit_DictionaryAndSessions_7 : ∃ (s : State) (session : Nat) (level : Byte) (tag : List Byte) (x : Session) (l : Level) (cs v : List Byte), (s.dev.sessionLive session = true ∧ s.dev.session session = x ∧ tag.length = 16) ∧ (s.dev.cust.cs = some cs ∧ x.nonce = some v ∧ l.code = level.toNat ∧ level ≠ 0#8) ∧ (s.dev.od.proofRefused.get none (sessionPort session)).all (fun a => s.dev.expired .pl a 1000000000) = true :=
  ⟨(sesDev { nonce := some (le 16 77) }).toState, 0x205, 2#8, le 16 5, { nonce := some (le 16 77), openT1s := true }, .custodian, [2#8], le 16 77, by decide +kernel⟩

theorem test_wit_DictionaryAndSessions_8 : ∃ (s : State) (session : Nat) (level : Byte) (tag : List Byte) (a : Nat), s.dev.sessionLive session = true :=
  ⟨(sesDev {}).toState, 0x205, 2#8, [], 0, by decide +kernel⟩

theorem test_wit_DictionaryAndSessions_8a : ∃ (s : State) (session : Nat) (level : Byte) (tag : List Byte) (a : Nat), s.dev.sessionLive session = true :=
  ⟨(sesDev {}).toState, 1, 3#8, le 16 5, 0, by decide +kernel⟩

theorem test_wit_DictionaryAndSessions_8b : ∃ (s : State) (session : Nat) (level : Byte) (tag : List Byte) (a : Nat), s.dev.sessionLive session = true :=
  ⟨serviceDev.toState, 0x100, 2#8, le 16 5, 0, by decide +kernel⟩

theorem test_wit_DictionaryAndSessions_8c : ∃ (s : State) (session : Nat) (level : Byte) (tag : List Byte) (a : Nat), s.dev.sessionLive session = true :=
  ⟨({ sesDev {} with od := { (sesDev {}).od with proofRefused := [(0, some 0)] } } : Dev).toState, 1, 1#8, le 16 5, 0, by decide +kernel⟩

theorem test_wit_DictionaryAndSessions_9 : ∃ (s : State) (session : Nat), s.dev.sessionLive session = true :=
  ⟨(sesDev { level := .custodian }).toState, 0x205, by decide +kernel⟩

theorem test_wit_DictionaryAndSessions_9a : ∃ (s : State) (session : Nat), s.dev.sessionLive session = true :=
  ⟨(sesDev { level := .custodian }).toState, 1, by decide +kernel⟩

theorem test_wit_DictionaryAndSessions_10 : ∃ (s : State) (session : Nat), (s.dev.managed = true ∧ (s.dev.session session).level ≠ .observer) ∧ (s.dev.session session).lastAccess + s.dev.objNat 0x2005 * 1000000000 < s.dev.now :=
  ⟨({ sesDev { level := .custodian } with time := 120000000001 } : Dev).toState, 0x205, by decide +kernel⟩

theorem test_wit_DictionaryAndSessions_11 : ∃ (s : State) (session : Nat) (value : Byte), s.dev.sessionLive session = true :=
  ⟨((sesDev { level := .operator }).setCan { errors := [5] }).toState, 0x205, 0#8, by decide +kernel⟩

theorem test_wit_DictionaryAndSessions_11a : ∃ (s : State) (session : Nat) (value : Byte), s.dev.sessionLive session = true :=
  ⟨((sesDev { level := .operator }).setCan { errors := [5] }).toState, 0x205, 1#8, by decide +kernel⟩

theorem test_wit_DictionaryAndSessions_11b : ∃ (s : State) (session : Nat) (value : Byte), s.dev.sessionLive session = true :=
  ⟨(sesDev {}).toState, 1, 0#8, by decide +kernel⟩

theorem test_wit_DictionaryAndSessions_13 : ∃ (s u : State) (value : Word) (i b off : Nat) (o : Obj), (s.dev.served = true ∧ bitOf value 31 = true ∧ bitOf value 30 = false ∧ s.dev.windowBusy = false) ∧ (s.dev.fld .MG_OBJ_INDEX = i ∧ s.dev.fld .MG_OBJ_SUB = b ∧ s.dev.fld .MG_OFFSET_OFFSET = off) ∧ u = s.after (fun d => ((d.setFld .MG_CTL_WRITE 0 0).setFld .MG_CTL_LENGTH 0 (bitsOf value 10 0)).setFld .MG_CTL_GO 0 1) ∧ (u.dev.object i b = some (some o) ∧ o.right.writeOnly = false ∧ (o.guarded = false ∨ u.dev.sessionLevel 0x100 = .custodian) ∧ (o.addr.map u.dev.unreached).getD false = false ∧ i ≠ 0x2004) :=
  ⟨(((sesDev {}).setFld .MG_OBJ_INDEX 0 0x1008).setFld .MG_OFFSET_OFFSET 0 2).toState, (((sesDev {}).setFld .MG_OBJ_INDEX 0 0x1008).setFld .MG_OFFSET_OFFSET 0 2).toState.after (fun d => ((d.setFld .MG_CTL_WRITE 0 0).setFld .MG_CTL_LENGTH 0 (bitsOf 0x80000000#32 10 0)).setFld .MG_CTL_GO 0 1), 0x80000000#32, 0x1008, 0, 2, { right := .const, size := .upTo 6, read := ascii "YD9624" }, by decide +kernel⟩

theorem test_wit_DictionaryAndSessions_14 : ∃ (s : State) (value : Word), (s.dev.served = true ∧ bitOf value 31 = true) :=
  ⟨((sesDev {}).setFld .MG_CTL_GO 0 1).toState, 0x80000000#32, by decide +kernel⟩

theorem test_wit_DictionaryAndSessions_14a : ∃ (s : State) (value : Word), (s.dev.served = true ∧ bitOf value 31 = true) :=
  ⟨((sesDev {}).setFld .MG_OBJ_INDEX 0 0x1017).toState, 0xC0000002#32, by decide +kernel⟩

/-- `serviceDev` with a transfer of server 0 in progress. -/
def sdoDev (x : Sdo) : Dev := (serviceDev.setSession 1 { level := .operator }).setSdo 1 (some x)

/-- `serviceDev` in Operational with TPDO 1 mapping object 2000h, of the type given, with an event timer of 100 ms. -/
def pdoDev (kind : Nat) : Dev :=
  let d := serviceDev.setCan { serviceDev.od.can with nmt := .operational, syncs := [(0, 2)] }
  let t : Table (List Byte) := [(objKey 0x1800 2, le 1 kind), (objKey 0x1800 5, le 2 100), (objKey 0x1A00 0, le 1 1), (objKey 0x1A00 1, le 4 0x20000008)]
  { d with od := { d.od with objs := t }, time := 100000001 }
theorem test_wit_CanOpenSlave_1 : ∃ (s u : State) (server : Fin 4) (index : BitVec 16) (sub : Byte) (o : Obj) (n : Nat), (s.dev.serverUp server.val = true ∧ n = server.val + 1) ∧ u = s.after (fun d => if d.sdoRuns n then (d.forgetAnswer n).dictAnswer n 0x08000000 else d) ∧ (u.dev.object index.toNat sub.toNat = some (some o) ∧ o.right.writeOnly = false ∧ (o.guarded = false ∨ u.dev.sessionLevel n = .custodian) ∧ (o.addr.map u.dev.unreached).getD false = false ∧ index ≠ 0x2004#16) :=
  ⟨(sdoDev { data := [1#8] }).toState, (sdoDev { data := [1#8] }).toState.after (fun d => if d.sdoRuns 1 then (d.forgetAnswer 1).dictAnswer 1 0x08000000 else d), 0, 0x1008#16, 0#8, { right := .const, size := .upTo 6, read := ascii "YD9624" }, 1, by decide +kernel⟩

theorem test_wit_CanOpenSlave_1a : ∃ (s u : State) (server : Fin 4) (index : BitVec 16) (sub : Byte) (o : Obj) (n : Nat), (s.dev.serverUp server.val = true ∧ n = server.val + 1) ∧ u = s.after (fun d => if d.sdoRuns n then (d.forgetAnswer n).dictAnswer n 0x08000000 else d) ∧ (u.dev.object index.toNat sub.toNat = some (some o) ∧ o.right.writeOnly = false ∧ (o.guarded = false ∨ u.dev.sessionLevel n = .custodian) ∧ (o.addr.map u.dev.unreached).getD false = false ∧ index ≠ 0x2004#16) :=
  ⟨serviceDev.toState, serviceDev.toState.after (fun d => if d.sdoRuns 1 then (d.forgetAnswer 1).dictAnswer 1 0x08000000 else d), 0, 0x1000#16, 0#8, { right := .const, size := .fixed 4, read := [0#8, 0#8, 0#8, 0#8] }, 1, by decide +kernel⟩

theorem test_wit_CanOpenSlave_2 : ∃ (s u : State) (server : Fin 4) (index : BitVec 16) (sub : Byte) (data : List Byte) (o : Obj) (l : Level) (n : Nat), (s.dev.serverUp server.val = true ∧ n = server.val + 1) ∧ u = s.after (fun d => if d.sdoRuns n then (d.forgetAnswer n).dictAnswer n 0x08000000 else d) ∧ (u.dev.object index.toNat sub.toNat = some (some o) ∧ o.kind = .own ∧ o.right.writeLevel = some l ∧ l.code ≤ (u.dev.sessionLevel n).code ∧ (o.addr.map u.dev.unreached).getD false = false ∧ o.size.bytes = some data.length) ∧ u.dev.ownCheck index.toNat sub.toNat (leNat data) = 0 :=
  ⟨(serviceDev.setSession 1 { level := .operator }).toState, (serviceDev.setSession 1 { level := .operator }).toState.after (fun d => if d.sdoRuns 1 then (d.forgetAnswer 1).dictAnswer 1 0x08000000 else d), 0, 0x1017#16, 0#8, [1#8, 0#8], { right := .rw, size := .fixed 2, read := [232#8, 3#8], kind := .own }, .operator, 1, by decide +kernel⟩

theorem test_wit_CanOpenSlave_3 : ∃ (s : State) (server : Fin 4) (index : BitVec 16) (sub : Byte) (data : List Byte) (n : Nat), (s.dev.serverUp server.val = true ∧ n = server.val + 1) :=
  ⟨(sdoDev { data := [1#8] }).toState, 0, 0x1008#16, 0#8, [1#8, 2#8], 1, by decide +kernel⟩

theorem test_wit_CanOpenSlave_4 : ∃ (s : State) (server : Fin 4) (x : Sdo) (n count : Nat) (data : List Byte) (last ok : Bool), (s.dev.serverUp server.val = true ∧ n = server.val + 1 ∧ s.dev.od.can.sdos.get none n = some x) :=
  ⟨(sdoDev { data := le 10 77 }).toState, 0, { data := le 10 77 }, 1, 1, [3#8], true, true, by decide +kernel⟩

theorem test_wit_CanOpenSlave_4a : ∃ (s : State) (server : Fin 4) (x : Sdo) (n count : Nat) (data : List Byte) (last ok : Bool), (s.dev.serverUp server.val = true ∧ n = server.val + 1 ∧ s.dev.od.can.sdos.get none n = some x) :=
  ⟨(sdoDev { write := true, data := le 10 77 }).toState, 0, { write := true, data := le 10 77 }, 1, 1, [3#8], true, false, by decide +kernel⟩

theorem test_wit_CanOpenSlave_5 : ∃ (s u : State) (server : Fin 4) (x : Sdo) (data : List Byte) (o : Obj) (l : Level) (n : Nat), (s.dev.serverUp server.val = true ∧ n = server.val + 1 ∧ s.dev.od.can.sdos.get none n = some x ∧ x.write = true) ∧ u = s.after (fun d => d.setSdo n none) ∧ (u.dev.object x.index x.sub = some (some o) ∧ o.kind = .own ∧ o.right.writeLevel = some l ∧ l.code ≤ (u.dev.sessionLevel n).code ∧ (o.addr.map u.dev.unreached).getD false = false ∧ o.size.bytes = some (x.data ++ data).length) ∧ u.dev.ownCheck x.index x.sub (leNat (x.data ++ data)) = 0 :=
  ⟨(sdoDev { write := true, index := 0x1017, data := [7#8] }).toState, (sdoDev { write := true, index := 0x1017, data := [7#8] }).toState.after (fun d => d.setSdo 1 none), 0, { write := true, index := 0x1017, data := [7#8] }, [1#8], { right := .rw, size := .fixed 2, read := [232#8, 3#8], kind := .own }, .operator, 1, by decide +kernel⟩

theorem test_wit_CanOpenSlave_6 : ∃ (s : State) (server : Fin 4) (x : Sdo) (n : Nat), (n = server.val + 1 ∧ s.dev.od.can.sdos.get none n = some x ∧ x.lastAt + 1000000000 < s.dev.now) :=
  ⟨{ sdoDev {} with time := 1000000001 }.toState, 0, {}, 1, by decide +kernel⟩

theorem test_wit_CanOpenSlave_6a : ∃ (s : State) (server : Fin 4) (x : Sdo) (n : Nat), (n = server.val + 1 ∧ s.dev.od.can.sdos.get none n = some x ∧ x.lastAt + 1000000000 < s.dev.now) :=
  ⟨{ (sdoDev {}).setCan { (sdoDev {}).od.can with nmt := .stopped } with time := 1000000001 }.toState, 0, {}, 1, by decide +kernel⟩

theorem test_wit_CanOpenSlave_7 : ∃ (s : State) (node : Fin 128), (s.dev.managed = true ∧ s.dev.od.can.busOff = false ∧ (node.val = 0 ∨ node.val = s.dev.nodeId)) :=
  ⟨serviceDev.toState, 0, by decide +kernel⟩

theorem test_wit_CanOpenSlave_7a : ∃ (s : State) (node : Fin 128), (s.dev.managed = true ∧ s.dev.od.can.busOff = false ∧ (node.val = 0 ∨ node.val = s.dev.nodeId)) :=
  ⟨(serviceDev.setCan { serviceDev.od.can with nmt := .operational }).toState, 16, by decide +kernel⟩

theorem test_wit_CanOpenSlave_8 : ∃ (s : State) (node : Fin 128) (k : Nat), (s.dev.managed = true ∧ s.dev.od.can.busOff = false ∧ (node.val = 0 ∨ node.val = s.dev.nodeId)) ∧ (s.dev.fw.objParams.map Prod.fst).Nodup :=
  ⟨({ sdoDev {} with fw := { (sdoDev {}).fw with objParams := [(0x101700, [5#8, 0#8]), (0x201001, [33#8])] } } : Dev).toState, 0, 0x101700, by decide +kernel⟩

theorem test_wit_CanOpenSlave_9 : ∃ (s : State) (pdo : Fin 8) (k : Nat) (b : List Byte), (s.dev.pdosRun = true ∧ pdo.val = k ∧ s.dev.pdoOff k = false ∧ 254 ≤ s.dev.objNat (0x1800 + k) 2) ∧ (s.dev.objNat (0x1800 + k) 5 ≠ 0 ∧ s.dev.od.can.pdoAt.get 0 k + s.dev.objNat (0x1800 + k) 5 * 1000000 < s.dev.now ∧ s.dev.od.can.pdoAt.get 0 k + s.dev.objNat (0x1800 + k) 3 * 100000 < s.dev.now) ∧ (s.dev.objNat (0x1A00 + k) ≠ 0 ∧ s.dev.pdoBytes k = some b ∧ b.length ≤ 64) :=
  ⟨(pdoDev 254).toState, 0, 0, [2#8], by decide +kernel⟩

theorem test_wit_CanOpenSlave_10 : ∃ (s : State) (k n : Nat), (s.dev.pdosRun = true ∧ k < 8 ∧ s.dev.pdoOff k = false ∧ s.dev.objNat (0x1800 + k) 2 = n ∧ 1 ≤ n ∧ n ≤ 240) :=
  ⟨(pdoDev 3).toState, 0, 3, by decide +kernel⟩

theorem test_wit_CanOpenSlave_10a : ∃ (s : State) (k n : Nat), (s.dev.pdosRun = true ∧ k < 8 ∧ s.dev.pdoOff k = false ∧ s.dev.objNat (0x1800 + k) 2 = n ∧ 1 ≤ n ∧ n ≤ 240) :=
  ⟨(pdoDev 240).toState, 0, 240, by decide +kernel⟩

theorem test_wit_CanOpenSlave_11 : ∃ (s : State) (m : Emcy) (rest : List Emcy), (s.dev.managed = true ∧ s.dev.emcyAllowed = true ∧ s.dev.emcyFree = true ∧ s.dev.od.can.emcys = m :: rest) :=
  ⟨(serviceDev.setCan { serviceDev.od.can with emcys := [⟨0xFF02, 0, 0x3F4, 9⟩] }).toState, ⟨0xFF02, 0, 0x3F4, 9⟩, [], by decide +kernel⟩

theorem test_wit_CanOpenSlave_12 : ∃ (s : State) (ms : Nat), (s.dev.managed = true ∧ s.dev.od.can.busOff = false ∧ s.dev.objNat 0x1017 = ms ∧ ms ≠ 0 ∧ s.dev.od.can.hbAt + ms * 1000000 ≤ s.dev.now) :=
  ⟨{ serviceDev with time := 1000000000 }.toState, 1000, by decide +kernel⟩

/-- `sesDev` whose session 205h has executed SEQ 7. -/
def oapDev (x : Session) : Dev := sesDev { x with seq := 7, response := some (0, [9#8]) }
theorem test_wit_ObjectAccessProtocol_1 : ∃ (s : State) (seq : Word) (n : Nat), (s.dev.managed = true ∧ t1sNumbers.find? (fun n => !(s.dev.session n).openT1s) = some n) :=
  ⟨(sesDev {}).toState, 5#32, 0x200, by decide +kernel⟩

theorem test_wit_ObjectAccessProtocol_2 : ∃ (s : State) (seq : Word), (s.dev.managed = true ∧ t1sNumbers.all (fun n => (s.dev.session n).openT1s) = true) :=
  ⟨(t1sNumbers.foldl (fun (d : Dev) n => d.setSession n { openT1s := true }) serviceDev).toState, 5#32, by decide +kernel⟩

theorem test_wit_ObjectAccessProtocol_3 : ∃ (s : State) (m : OapMsg) (n : Nat), (s.dev.managed = true ∧ m.session.toNat = n ∧ (t1sNumbers.contains n = false ∨ (s.dev.session n).openT1s = false)) :=
  ⟨serviceDev.toState, ⟨0x205#32, 8#32, 0x2000#16, 0#8, false, false, 0#32, [], []⟩, 0x205, by decide +kernel⟩

theorem test_wit_ObjectAccessProtocol_4 : ∃ (s : State) (m : OapMsg) (n : Nat) (x : Session), (s.dev.managed = true ∧ m.session.toNat = n ∧ t1sNumbers.contains n = true ∧ s.dev.session n = x ∧ x.openT1s = true) :=
  ⟨(oapDev { key := some [1#8] }).toState, ⟨0x205#32, 8#32, 0x2000#16, 0#8, false, false, 0#32, [], []⟩, 0x205, { seq := 7, response := some (0, [9#8]), openT1s := true, key := some [1#8] }, by decide +kernel⟩

theorem test_wit_ObjectAccessProtocol_5 : ∃ (s : State) (m : OapMsg) (n : Nat) (x : Session), (s.dev.managed = true ∧ m.session.toNat = n ∧ t1sNumbers.contains n = true ∧ s.dev.session n = x ∧ x.openT1s = true) ∧ m.seq.toNat = x.seq :=
  ⟨(oapDev {}).toState, ⟨0x205#32, 7#32, 0x2000#16, 0#8, false, false, 0#32, [], []⟩, 0x205, { seq := 7, response := some (0, [9#8]), openT1s := true }, by decide +kernel⟩

theorem test_wit_ObjectAccessProtocol_6 : ∃ (s : State) (m : OapMsg) (n : Nat) (x : Session), (s.dev.managed = true ∧ m.session.toNat = n ∧ t1sNumbers.contains n = true ∧ s.dev.session n = x ∧ x.openT1s = true) ∧ (m.seq.toNat ≠ x.seq ∧ m.seq.toNat ≠ (x.seq + 1) % 2 ^ 32) :=
  ⟨(oapDev {}).toState, ⟨0x205#32, 9#32, 0x2000#16, 0#8, false, false, 0#32, [], []⟩, 0x205, { seq := 7, response := some (0, [9#8]), openT1s := true }, by decide +kernel⟩

theorem test_wit_ObjectAccessProtocol_7 : ∃ (s : State) (m : OapMsg) (n : Nat) (x : Session), (s.dev.managed = true ∧ m.session.toNat = n ∧ t1sNumbers.contains n = true ∧ s.dev.session n = x ∧ x.openT1s = true) ∧ (m.seq.toNat ≠ x.seq ∧ m.seq.toNat = (x.seq + 1) % 2 ^ 32 ∧ x.response = none) :=
  ⟨(sesDev { seq := 7 }).toState, ⟨0x205#32, 8#32, 0x2000#16, 0#8, false, false, 0#32, [], []⟩, 0x205, { seq := 7, openT1s := true }, by decide +kernel⟩

theorem test_wit_ObjectAccessProtocol_8 : ∃ (s : State) (m : OapMsg) (n : Nat) (x : Session), (s.dev.managed = true ∧ m.session.toNat = n ∧ t1sNumbers.contains n = true ∧ s.dev.session n = x ∧ x.openT1s = true) ∧ (m.seq.toNat ≠ x.seq ∧ m.seq.toNat = (x.seq + 1) % 2 ^ 32 ∧ x.response.isSome = true ∧ m.enc = true ∧ x.level ≠ .custodian) :=
  ⟨(oapDev {}).toState, ⟨0x205#32, 8#32, 0x2000#16, 0#8, true, false, 0#32, [], []⟩, 0x205, { seq := 7, response := some (0, [9#8]), openT1s := true }, by decide +kernel⟩

theorem test_wit_ObjectAccessProtocol_9 : ∃ (s u : State) (m : OapMsg) (n : Nat) (x : Session) (data : List Byte) (o : Obj), (s.dev.managed = true ∧ m.session.toNat = n ∧ t1sNumbers.contains n = true ∧ s.dev.session n = x ∧ x.openT1s = true ∧ x.response.isSome = true) ∧ (m.seq.toNat ≠ x.seq ∧ m.seq.toNat = (x.seq + 1) % 2 ^ 32 ∧ (m.enc = false ∨ x.level = .custodian)) ∧ (oapContent m 1 x.key = some data ∧ u = s.after (fun d => d.setSession n { x with seq := m.seq.toNat, req := oapReqOf m 1, response := none })) ∧ (u.dev.object m.index.toNat m.sub.toNat = some (some o) ∧ o.right.writeOnly = false ∧ (o.guarded = false ∨ u.dev.sessionLevel n = .custodian) ∧ (o.addr.map u.dev.unreached).getD false = false ∧ m.index ≠ 0x2004#16) :=
  ⟨(oapDev {}).toState, (oapDev {}).toState.after (fun d => d.setSession 0x205 { ({ seq := 7, response := some (0, [9#8]), openT1s := true } : Session) with seq := 8, req := oapReqOf (⟨0x205#32, 8#32, 0x2000#16, 0#8, false, false, 0#32, [], []⟩ : OapMsg) 1, response := none }), ⟨0x205#32, 8#32, 0x2000#16, 0#8, false, false, 0#32, [], []⟩, 0x205, { seq := 7, response := some (0, [9#8]), openT1s := true }, [], { right := .ro, size := .fixed 1, read := [2#8], pdo := true }, by decide +kernel⟩

theorem test_wit_ObjectAccessProtocol_10 : ∃ (s u : State) (m : OapMsg) (n : Nat) (x : Session) (data : List Byte) (o : Obj) (l : Level), (s.dev.managed = true ∧ m.session.toNat = n ∧ t1sNumbers.contains n = true ∧ s.dev.session n = x ∧ x.openT1s = true ∧ x.response.isSome = true) ∧ (m.seq.toNat ≠ x.seq ∧ m.seq.toNat = (x.seq + 1) % 2 ^ 32 ∧ (m.enc = false ∨ x.level = .custodian)) ∧ (oapContent m 2 x.key = some data ∧ u = s.after (fun d => d.setSession n { x with seq := m.seq.toNat, req := oapReqOf m 2, response := none })) ∧ (u.dev.object m.index.toNat m.sub.toNat = some (some o) ∧ o.kind = .own ∧ o.right.writeLevel = some l ∧ l.code ≤ (u.dev.sessionLevel n).code ∧ (o.addr.map u.dev.unreached).getD false = false ∧ o.size.bytes = some data.length) ∧ u.dev.ownCheck m.index.toNat m.sub.toNat (leNat data) = 0 :=
  ⟨(oapDev { level := .operator }).toState, (oapDev { level := .operator }).toState.after (fun d => d.setSession 0x205 { ({ level := .operator, seq := 7, response := some (0, [9#8]), openT1s := true } : Session) with seq := 8, req := oapReqOf (⟨0x205#32, 8#32, 0x1017#16, 0#8, false, false, 0#32, [1#8, 0#8], []⟩ : OapMsg) 2, response := none }), ⟨0x205#32, 8#32, 0x1017#16, 0#8, false, false, 0#32, [1#8, 0#8], []⟩, 0x205, { level := .operator, seq := 7, response := some (0, [9#8]), openT1s := true }, [1#8, 0#8], { right := .rw, size := .fixed 2, read := [232#8, 3#8], kind := .own }, .operator, by decide +kernel⟩

theorem test_wit_ObjectAccessProtocol_11 : ∃ (s : State) (m : OapMsg) (n : Nat) (x : Session) (level : Byte) (tag cs v : List Byte) (l : Level), (s.dev.managed = true ∧ m.session.toNat = n ∧ t1sNumbers.contains n = true ∧ s.dev.session n = x ∧ x.openT1s = true ∧ x.response.isSome = true) ∧ (m.seq.toNat ≠ x.seq ∧ m.seq.toNat = (x.seq + 1) % 2 ^ 32 ∧ (m.enc = false ∨ x.level = .custodian)) ∧ (oapContent m 4 x.key = some (level :: tag) ∧ tag.length = 16 ∧ s.dev.cust.cs = some cs ∧ x.nonce = some v ∧ l.code = level.toNat ∧ level ≠ 0#8) ∧ (s.dev.od.proofRefused.get none 1).all (fun a => s.dev.expired .pl a 1000000000) = true :=
  ⟨(oapDev { nonce := some (le 16 77) }).toState, ⟨0x205#32, 8#32, 0x2000#16, 0#8, false, false, 0#32, 2#8 :: le 16 5, []⟩, 0x205, { nonce := some (le 16 77), seq := 7, response := some (0, [9#8]), openT1s := true }, 2#8, le 16 5, [2#8], le 16 77, .custodian, by decide +kernel⟩

theorem test_wit_ObjectAccessProtocol_12 : ∃ (s : State) (m : OapMsg) (n : Nat) (x : Session) (data : List Byte), (s.dev.managed = true ∧ m.session.toNat = n ∧ t1sNumbers.contains n = true ∧ s.dev.session n = x ∧ x.openT1s = true ∧ x.response.isSome = true) ∧ (m.seq.toNat ≠ x.seq ∧ m.seq.toNat = (x.seq + 1) % 2 ^ 32 ∧ (m.enc = false ∨ x.level = .custodian)) ∧ oapContent m 5 x.key = some data :=
  ⟨(oapDev {}).toState, ⟨0x205#32, 8#32, 0x2000#16, 0#8, false, false, 0#32, [], []⟩, 0x205, { seq := 7, response := some (0, [9#8]), openT1s := true }, [], by decide +kernel⟩

theorem test_wit_ObjectAccessProtocol_13 : ∃ (s : State) (echo : Bool), s.dev.managed = true :=
  ⟨serviceDev.toState, true, by decide +kernel⟩

/-- `serviceDev` with the ledger scanned and a record of event 3F5h placed in slot 0. -/
def evDev : Dev :=
  let d := (serviceDev.setFld .EP_IRQ_SRC_EN 0 1).setFld .EP_IRQ_SRC_VEC 0 5
  { d with evr := { scanned := true, ledger := { slots := [(0, { seq := 8, first := 90, last := 90, id := 0x3F5, detail := [5#8] })], nextSeq := 9, lastSlot := some 0 } }
           ep := { fns := [(1, { busMaster := true, unmasked := [5] })], up := true }, time := 1000 }

/-- `evDev` before the scan, its buffer full of ALARM records. -/
def fullDev : Dev := { evDev with evr := { buffer := { slots := (List.range 1024).map (fun k => (k, { seq := k + 1, severity := 4 })), nextSeq := 1025 } } }

/-- An occurrence on Plinth. -/
def plOcc (id stamp : Nat) (detail : List Byte) : Occ := ⟨stamp, .pl, id, 0, detail, false⟩
theorem test_wit_RecorderAndCounters_1 : ∃ (s : State) (o : Occ) (u : Dev) (x : RecStore) (k v : Nat) (r : Rec), (s.evq.next = some o ∧ s.dev.evr.nextTake ≤ s.dev.now ∧ o.stamp ≤ s.dev.now) ∧ (u = s.dev.moveBuffer ∧ x = u.recStore ∧ v = eventSeverity o.id) :=
  ⟨⟨evDev, ⟨[], [], [], [plOcc 0x3F5 100 [5#8]]⟩, []⟩, plOcc 0x3F5 100 [5#8], evDev.moveBuffer, evDev.recStore, 0, 0, { seq := 8, first := 90, last := 90, id := 0x3F5, detail := [5#8] }, by decide +kernel⟩

theorem test_wit_RecorderAndCounters_1a : ∃ (s : State) (o : Occ) (u : Dev) (x : RecStore) (k v : Nat) (r : Rec), (s.evq.next = some o ∧ s.dev.evr.nextTake ≤ s.dev.now ∧ o.stamp ≤ s.dev.now) ∧ (u = s.dev.moveBuffer ∧ x = u.recStore ∧ v = eventSeverity o.id) :=
  ⟨⟨evDev, ⟨[], [], [], [plOcc 0x300 100 [5#8], plOcc 0x0F3 100 [6#8]]⟩, []⟩, plOcc 0x0F3 100 [6#8], evDev.moveBuffer, evDev.recStore, 1, 4, {}, by decide +kernel⟩

theorem test_wit_RecorderAndCounters_1b : ∃ (s : State) (o : Occ) (u : Dev) (x : RecStore) (k v : Nat) (r : Rec), (s.evq.next = some o ∧ s.dev.evr.nextTake ≤ s.dev.now ∧ o.stamp ≤ s.dev.now) ∧ (u = s.dev.moveBuffer ∧ x = u.recStore ∧ v = eventSeverity o.id) :=
  ⟨⟨{ evDev with evr := { evDev.evr with holdUntil := some 1000 } }, ⟨[], [], [], [plOcc 0x0F3 1000 [6#8]]⟩, []⟩, plOcc 0x0F3 1000 [6#8], { evDev with evr := { evDev.evr with holdUntil := some 1000 } }, evDev.recStore, 1, 4, {}, by decide +kernel⟩

theorem test_wit_RecorderAndCounters_1c : ∃ (s : State) (o : Occ) (u : Dev) (x : RecStore) (k v : Nat) (r : Rec), (s.evq.next = some o ∧ s.dev.evr.nextTake ≤ s.dev.now ∧ o.stamp ≤ s.dev.now) ∧ (u = s.dev.moveBuffer ∧ x = u.recStore ∧ v = eventSeverity o.id) :=
  ⟨⟨fullDev, ⟨[], [], [], [plOcc 0x300 100 [5#8]]⟩, []⟩, plOcc 0x300 100 [5#8], fullDev, fullDev.recStore, 0, 0, {}, by decide +kernel⟩

theorem test_wit_RecorderAndCounters_2 : ∃ (s : State) (r : Rec) (b k : Nat), (s.dev.recorderReached = true ∧ s.dev.evr.buffer.slots = [(b, r)] ∧ s.dev.recSlotFor r.severity = some k) :=
  ⟨{ evDev with evr := { evDev.evr with buffer := { slots := [(3, { seq := 4, id := 0x3F6, severity := 1, buffered := true })] } } }.toState, { seq := 4, id := 0x3F6, severity := 1, buffered := true }, 3, 1, by decide +kernel⟩

theorem test_wit_RecorderAndCounters_3 : ∃ (s : State), s.dev.evr.buffer.slots ≠ [] :=
  ⟨{ evDev with evr := { evDev.evr with buffer := { slots := [(3, { seq := 4, id := 0x3F6, severity := 1 }), (4, { seq := 2, id := 0x3F6, severity := 1 })] } } }.toState, by decide +kernel⟩

theorem test_wit_RecorderAndCounters_3a : ∃ (s : State), s.dev.evr.buffer.slots ≠ [] :=
  ⟨{ evDev with evr := { evDev.evr with scanned := false, buffer := { slots := [(3, { seq := 4, id := 0x3F6, severity := 1 })] } } }.toState, by decide +kernel⟩

theorem test_wit_RecorderAndCounters_4 : ∃ (s : State) (v : Nat), (s.dev.evr.irqWaiting = true ∧ s.dev.recHeld = false ∧ s.dev.flag .EP_IRQ_SRC_EN 0 = true ∧ s.dev.fld .EP_IRQ_SRC_VEC 0 = v ∧ v < 64) :=
  ⟨{ evDev with evr := { evDev.evr with irqWaiting := true, holdUntil := some 999 } }.toState, 5, by decide +kernel⟩

theorem test_wit_RecorderAndCounters_4a : ∃ (s : State) (v : Nat), (s.dev.evr.irqWaiting = true ∧ s.dev.recHeld = false ∧ s.dev.flag .EP_IRQ_SRC_EN 0 = true ∧ s.dev.fld .EP_IRQ_SRC_VEC 0 = v ∧ v < 64) :=
  ⟨{ (evDev.setFld .EP_IRQ_SRC_VEC 0 63) with evr := { evDev.evr with irqWaiting := true } }.toState, 63, by decide +kernel⟩

theorem test_wit_RecorderAndCounters_5 : ∃ (s : State) (req : Requester) (word : Fin 16) (k : Nat) (ws : List Word), (s.dev.served = true ∧ s.dev.blockIsolated (Reg.addr .EV_REC word.val) = false ∧ k = requesterKey req) ∧ ws = (if word.val = 0 then wordsOf (s.dev.recStore.slotBytes (s.dev.fld .EV_RDIDX_SLOT)) else s.dev.evr.heldRec.get [] k) :=
  ⟨evDev.toState, .cp 3, 0, 4, wordsOf (evDev.recStore.slotBytes 0), by decide +kernel⟩

theorem test_wit_RecorderAndCounters_5a : ∃ (s : State) (req : Requester) (word : Fin 16) (k : Nat) (ws : List Word), (s.dev.served = true ∧ s.dev.blockIsolated (Reg.addr .EV_REC word.val) = false ∧ k = requesterKey req) ∧ ws = (if word.val = 0 then wordsOf (s.dev.recStore.slotBytes (s.dev.fld .EV_RDIDX_SLOT)) else s.dev.evr.heldRec.get [] k) :=
  ⟨{ evDev with evr := { evDev.evr with heldRec := [(0, List.replicate 16 7#32)] } }.toState, .pf1, 15, 0, List.replicate 16 7#32, by decide +kernel⟩

theorem test_wit_RecorderAndCounters_6 : ∃ (s : State) (req : Requester) (word : Fin 16) (k : Nat) (ws : List Word), (s.dev.served = true ∧ s.dev.blockIsolated (Reg.addr .CNT_WIN_DATA word.val) = false ∧ k = requesterKey req) ∧ ws = (if word.val = 0 then wordsOf s.dev.counterWindow else s.dev.evr.heldWin.get [] k) :=
  ⟨(((evDev.hbmWrite (15 * 2 ^ 30 + 64) [9#8]).setFld .CNT_WIN_SEL_OFFSET 0 1).setFld .CNT_CTL_EN 0 1).toState, .cp 3, 0, 4, wordsOf ([9#8] ++ List.replicate 63 0), by decide +kernel⟩

theorem test_wit_RecorderAndCounters_6a : ∃ (s : State) (req : Requester) (word : Fin 16) (k : Nat) (ws : List Word), (s.dev.served = true ∧ s.dev.blockIsolated (Reg.addr .CNT_WIN_DATA word.val) = false ∧ k = requesterKey req) ∧ ws = (if word.val = 0 then wordsOf s.dev.counterWindow else s.dev.evr.heldWin.get [] k) :=
  ⟨evDev.toState, .pf1, 15, 0, [], by decide +kernel⟩

theorem test_wit_RecorderAndCounters_7 : ∃ (s : State) (advance : List (Nat × Nat)) (finished : BitVec 4) (a i c c' e n j : Nat) (sel : Nat × Nat × Nat), (s.dev.flag .CNT_CTL_EN = true ∧ s.dev.mode.standby = true ∧ s.dev.now % 10000 = 0) ∧ (s.dev.evr.counts.get 0 i = c ∧ c < 2 ^ 48 ∧ s.dev.evr.selections.get (0, 0, 0) i = sel) ∧ (c' = (if s.dev.isolated (i / 256) = true ∨ countsSomething sel = false then c else (c + ((advance.filter (fun e => e.1 == i)).map Prod.snd).sum) % 2 ^ 48)) ∧ (e < 4 ∧ n < (snapshotDies.getD e ([], 0)).2 ∧ j < 4 ∧ i = perfKey (clusterPlace (snapshotDies.getD e ([], 0)).1 n).1 (clusterPlace (snapshotDies.getD e ([], 0)).1 n).2 j) ∧ a = s.dev.counterBase + (s.dev.evr.snap + 1) % 2 ^ 64 % 2 ^ s.dev.fld .CNT_CTL_SIZE_LOG2 * 17408 :=
  ⟨{ ((evDev.setFld .CNT_CTL_EN 0 1).setFld .CNT_CFG_MODE 257 1).setFld .CNT_CFG_CODE 257 3 with evr := { evDev.evr with counts := [(257, 40)], selections := [(257, (1, 3, 0))], snap := 6 }, time := 20000 }.toState, [(257, 2)], 9#4, 15 * 2 ^ 30 + 7 * 17408, 257, 40, 42, 0, 40, 1, (1, 3, 0), by decide +kernel⟩

theorem test_wit_RecorderAndCounters_7a : ∃ (s : State) (advance : List (Nat × Nat)) (finished : BitVec 4) (a i c c' e n j : Nat) (sel : Nat × Nat × Nat), (s.dev.flag .CNT_CTL_EN = true ∧ s.dev.mode.standby = true ∧ s.dev.now % 10000 = 0) ∧ (s.dev.evr.counts.get 0 i = c ∧ c < 2 ^ 48 ∧ s.dev.evr.selections.get (0, 0, 0) i = sel) ∧ (c' = (if s.dev.isolated (i / 256) = true ∨ countsSomething sel = false then c else (c + ((advance.filter (fun e => e.1 == i)).map Prod.snd).sum) % 2 ^ 48)) ∧ (e < 4 ∧ n < (snapshotDies.getD e ([], 0)).2 ∧ j < 4 ∧ i = perfKey (clusterPlace (snapshotDies.getD e ([], 0)).1 n).1 (clusterPlace (snapshotDies.getD e ([], 0)).1 n).2 j) ∧ a = s.dev.counterBase + (s.dev.evr.snap + 1) % 2 ^ 64 % 2 ^ s.dev.fld .CNT_CTL_SIZE_LOG2 * 17408 :=
  ⟨{ (evDev.setFld .CNT_CTL_EN 0 1) with evr := { evDev.evr with counts := [(257, 40)], selections := [(257, (1, 3, 0))], snap := 6 }, time := 20000, arch := { evDev.arch with seams := evDev.arch.seams.erase 3 } }.toState, [(257, 2)], 9#4, 15 * 2 ^ 30 + 7 * 17408, 257, 40, 42, 0, 40, 1, (1, 3, 0), by decide +kernel⟩

theorem test_wit_RecorderAndCounters_8 : ∃ (s : State) (x : Sample) (rest : List Sample) (k a : Nat), (s.dev.evr.sampleQueue = x :: rest ∧ s.dev.evr.sampleHead = k ∧ a = s.dev.counterBase + 0x30000000 + 64 * k) :=
  ⟨{ (evDev.setFld .SMP_CTL_STOP 0 1) with evr := { evDev.evr with sampleQueue := [{ cid := 7 }], sampleHead := 1048575 } }.toState, { cid := 7 }, [], 1048575, 15 * 2 ^ 30 + 0x30000000 + 64 * 1048575, by decide +kernel⟩

theorem test_wit_RecorderAndCounters_8a : ∃ (s : State) (x : Sample) (rest : List Sample) (k a : Nat), (s.dev.evr.sampleQueue = x :: rest ∧ s.dev.evr.sampleHead = k ∧ a = s.dev.counterBase + 0x30000000 + 64 * k) :=
  ⟨{ evDev with evr := { evDev.evr with sampleQueue := [{ cid := 7 }], sampleStopped := true } }.toState, { cid := 7 }, [], 0, 15 * 2 ^ 30 + 0x30000000, by decide +kernel⟩

/-- `volDev` with the quoin's view known to both piers, volume 7 (slots 0-3) as Pier East's, and this side of Pier West. -/
def ownDev (y : PierOwn := {}) (x : PierOwn := {}) : Dev := { volDev with own := { piers := [(0, x), (1, y)] } }

/-- A claim of Pier West for slots 0 and 1 and volume 7, sent at the tick 0, with the epochs it saw. -/
def claimOwn (e : Nat) (maj : Bool := false) (slots : List Nat := [0, 1]) (vols : List Nat := [7]) : PierOwn :=
  { claimAt := some 0, claimSlots := slots.map (fun k => (k, e)), claimVols := vols.map (fun v => (v, e)), claimMaj := maj }

/-- `ownDev` after a second of device time. -/
def agedDev (y : PierOwn := {}) (x : PierOwn := {}) : Dev := { ownDev y x with time := 1000000000 }
theorem test_wit_HeartbeatsAndClaims_1 : ∃ (s : State) (pier : Fin 2) (p : Nat), (pier.val = p ∧ s.dev.nowOn (pierDie p) % 100000 = 0) :=
  ⟨serviceDev.toState, 1, 1, by decide +kernel⟩

theorem test_wit_HeartbeatsAndClaims_1a : ∃ (s : State) (pier : Fin 2) (p : Nat), (pier.val = p ∧ s.dev.nowOn (pierDie p) % 100000 = 0) :=
  ⟨({ serviceDev with arch := { serviceDev.arch with seams := [(3, { up := true })] } } : Dev).toState, 0, 0, by decide +kernel⟩

theorem test_wit_HeartbeatsAndClaims_1b : ∃ (s : State) (pier : Fin 2) (p : Nat), (pier.val = p ∧ s.dev.nowOn (pierDie p) % 100000 = 0) :=
  ⟨(serviceDev.setRegion 10 { isolated := true }).toState, 1, 1, by decide +kernel⟩

theorem test_wit_HeartbeatsAndClaims_2 : ∃ (s : State) (k : Nat) (x : Bond), (s.dev.epUp = true ∧ s.dev.nowOn .ln % 100000 = 0) ∧ (k < 2 ∧ s.dev.bond k = x ∧ s.dev.bondRuns k = true) :=
  ⟨((serviceDev.setBond 1 { up := true, lseq := 2 ^ 32 - 1, training := 3, frameCtr := 8 }).setBond 0 { up := true }).toState, 1, { up := true, lseq := 2 ^ 32 - 1, training := 3, frameCtr := 8 }, by decide +kernel⟩

theorem test_wit_HeartbeatsAndClaims_3 : ∃ (s : State) (pier : Fin 2) (p : Nat), (pier.val = p ∧ s.dev.controlRuns p = true) :=
  ⟨({ agedDev { quoinSilent := true } { partnerSilent := true } with own := { piers := [(0, { partnerSilent := true }), (1, { quoinSilent := true })], slots := [(3, ⟨1, 4⟩)] } } : Dev).toState, 1, 1, by decide +kernel⟩

theorem test_wit_HeartbeatsAndClaims_3a : ∃ (s : State) (pier : Fin 2) (p : Nat), (pier.val = p ∧ s.dev.controlRuns p = true) :=
  ⟨(agedDev {} {}).toState, 0, 0, by decide +kernel⟩

theorem test_wit_HeartbeatsAndClaims_4 : ∃ (s : State) (pier : Fin 2) (p : Nat), (pier.val = p ∧ s.dev.mode.diesUp = true) ∧ ((s.dev.pierOwn p).quoinSilent = false ∧ (s.dev.pierOwn p).quoinAt + 300000 < s.dev.now) :=
  ⟨agedDev.toState, 1, 1, by decide +kernel⟩

theorem test_wit_HeartbeatsAndClaims_5 : ∃ (s : State) (pier : Fin 2) (p q : Nat) (x : PierOwn), (pier.val = p ∧ q = 1 - p) ∧ (s.dev.controlRuns q = true ∧ s.dev.pierOwn q = x) ∧ (x.partnerSilent = false ∧ x.partnerAt + 300000 < s.dev.nowOn (pierDie q)) ∧ (x.claimAt = none ∧ x.fenced = false) :=
  ⟨(agedDev { seenSlots := [(3, ⟨1, 4⟩)] } {}).toState, 0, 0, 1, { seenSlots := [(3, ⟨1, 4⟩)] }, by decide +kernel⟩

theorem test_wit_HeartbeatsAndClaims_6 : ∃ (s : State) (pier : Fin 2) (p : Nat) (x : PierOwn), (pier.val = p ∧ s.dev.controlRuns p = true ∧ s.dev.quoinReaches p = true) ∧ (s.dev.pierOwn p = x ∧ x.claimAt ≠ none ∧ x.answer = none ∧ x.claimMaj = false) ∧ (s.dev.own.back.contains p = false ∧ s.dev.own.lending ≠ some (1 - p)) ∧ ((x.claimSlots.map Prod.fst).Nodup ∧ (x.claimVols.map Prod.fst).Nodup) :=
  ⟨(agedDev (claimOwn 1)).toState, 1, 1, claimOwn 1, by decide +kernel⟩

theorem test_wit_HeartbeatsAndClaims_6a : ∃ (s : State) (pier : Fin 2) (p : Nat) (x : PierOwn), (pier.val = p ∧ s.dev.controlRuns p = true ∧ s.dev.quoinReaches p = true) ∧ (s.dev.pierOwn p = x ∧ x.claimAt ≠ none ∧ x.answer = none ∧ x.claimMaj = false) ∧ (s.dev.own.back.contains p = false ∧ s.dev.own.lending ≠ some (1 - p)) ∧ ((x.claimSlots.map Prod.fst).Nodup ∧ (x.claimVols.map Prod.fst).Nodup) :=
  ⟨(agedDev (claimOwn 1) { quoinAt := 999700000 }).toState, 1, 1, claimOwn 1, by decide +kernel⟩

theorem test_wit_HeartbeatsAndClaims_6b : ∃ (s : State) (pier : Fin 2) (p : Nat) (x : PierOwn), (pier.val = p ∧ s.dev.controlRuns p = true ∧ s.dev.quoinReaches p = true) ∧ (s.dev.pierOwn p = x ∧ x.claimAt ≠ none ∧ x.answer = none ∧ x.claimMaj = false) ∧ (s.dev.own.back.contains p = false ∧ s.dev.own.lending ≠ some (1 - p)) ∧ ((x.claimSlots.map Prod.fst).Nodup ∧ (x.claimVols.map Prod.fst).Nodup) :=
  ⟨(agedDev (claimOwn 2)).toState, 1, 1, claimOwn 2, by decide +kernel⟩

theorem test_wit_HeartbeatsAndClaims_6c : ∃ (s : State) (pier : Fin 2) (p : Nat) (x : PierOwn), (pier.val = p ∧ s.dev.controlRuns p = true ∧ s.dev.quoinReaches p = true) ∧ (s.dev.pierOwn p = x ∧ x.claimAt ≠ none ∧ x.answer = none ∧ x.claimMaj = false) ∧ (s.dev.own.back.contains p = false ∧ s.dev.own.lending ≠ some (1 - p)) ∧ ((x.claimSlots.map Prod.fst).Nodup ∧ (x.claimVols.map Prod.fst).Nodup) :=
  ⟨(agedDev (claimOwn 1 false [12, 23] [])).toState, 1, 1, claimOwn 1 false [12, 23] [], by decide +kernel⟩

theorem test_wit_HeartbeatsAndClaims_7 : ∃ (s : State) (pier : Fin 2) (p v : Nat) (x : PierOwn) (a : Owned), (pier.val = p ∧ s.dev.controlRuns p = true ∧ s.dev.quoinReaches p = true) ∧ (s.dev.pierOwn p = x ∧ x.majority = [v] ∧ x.fenced = false) ∧ (s.dev.quoinVol v = a ∧ (s.dev.memberSlots v).Nodup) :=
  ⟨({ agedDev { majority := [7] } with own := { (agedDev { majority := [7] }).own with holders := [(0, some 1), (1, some 1), (2, some 1)] } } : Dev).toState, 1, 1, 7, { majority := [7] }, ⟨0, 1⟩, by decide +kernel⟩

theorem test_wit_HeartbeatsAndClaims_8 : ∃ (s : State) (pier : Fin 2) (h : Nat), (pier.val = h ∧ s.dev.controlRuns h = true ∧ s.dev.quoinReaches h = true) ∧ (s.dev.own.back.contains h = true ∧ s.dev.piersRun = true ∧ s.dev.noDispute = true) ∧ (s.dev.nvme.cmds = [] ∧ (s.dev.pier (1 - h)).recs = []) :=
  ⟨({ agedDev with own := { slots := [(0, ⟨1, 5⟩), (3, ⟨1, 6⟩)], vols := [(7, ⟨1, 9⟩)], back := [0], giving := [7] } } : Dev).toState, 0, 0, by decide +kernel⟩

theorem test_wit_HeartbeatsAndClaims_9 : ∃ (s : State) (pier : Fin 2) (p a : Nat), (pier.val = p ∧ (s.dev.pierOwn p).answer = some a ∧ a ≠ 0 ∧ s.dev.controlRuns p = true ∧ s.dev.quoinReaches p = true) :=
  ⟨(agedDev { claimOwn 1 with answer := some 2 }).toState, 1, 1, 2, by decide +kernel⟩

theorem test_wit_HeartbeatsAndClaims_10 : ∃ (s : State) (pier : Fin 2) (p v m : Nat) (y : Member), (pier.val = p ∧ (s.dev.pierOwn p).answer = some 2 ∧ s.dev.controlRuns p = true ∧ s.dev.quoinReaches p = true) ∧ (v < 64 ∧ s.dev.volsOf p = [v] ∧ s.dev.nvme.cmds = []) ∧ ((s.dev.vol v).members.find m = some y ∧ y.st = .online ∧ y.slot < 24) ∧ (s.dev.vol v).members.keys.Nodup :=
  ⟨(((agedDev { claimOwn 1 with answer := some 2 }).setSeam 0 {}).setVol 7 { volDev.vol 7 with owner := 1 }).toState, 1, 1, 7, 3, { st := .online, slot := 3 }, by decide +kernel⟩

theorem test_wit_HeartbeatsAndClaims_10a : ∃ (s : State) (pier : Fin 2) (p v m : Nat) (y : Member), (pier.val = p ∧ (s.dev.pierOwn p).answer = some 2 ∧ s.dev.controlRuns p = true ∧ s.dev.quoinReaches p = true) ∧ (v < 64 ∧ s.dev.volsOf p = [v] ∧ s.dev.nvme.cmds = []) ∧ ((s.dev.vol v).members.find m = some y ∧ y.st = .online ∧ y.slot < 24) ∧ (s.dev.vol v).members.keys.Nodup :=
  ⟨((agedDev { claimOwn 1 with answer := some 2 }).setVol 7 { volDev.vol 7 with owner := 1 }).toState, 1, 1, 7, 3, { st := .online, slot := 3 }, by decide +kernel⟩

/-- `agedDev` with a command at work on volume 7. -/
def takenDev (y : PierOwn) (x : PierOwn := {}) (o : Ownership → Ownership := id) : Dev :=
  let d := agedDev y x
  { d with own := o d.own, nvme := { d.nvme with cmds := [{ id := 3, ctrl := 1, src := .fabric 1024, io := true, vol := 7, nsid := 5, staging := 4096 }] } }
theorem test_wit_TakeoversAndDisputes_1 : ∃ (s : State) (pier : Fin 2) (blocks : List Fetched) (p v : Nat) (x : PierOwn) (e : Nat), (pier.val = p ∧ s.dev.pierOwn p = x ∧ x.answer = some 0 ∧ s.dev.controlRuns p = true ∧ s.dev.quoinReaches p = true) ∧ (x.claimVols = [(v, e)] ∧ (s.dev.vol v).st ≠ .none ∧ s.dev.volPier v ≠ p) ∧ (x.pending = [] ∧ s.dev.own.giving = []) :=
  ⟨(takenDev { claimOwn 0 with answer := some 0 }).toState, 1, [], 1, 7, { claimOwn 0 with answer := some 0 }, 0, by decide +kernel⟩

theorem test_wit_TakeoversAndDisputes_2 : ∃ (s : State) (pier : Fin 2) (held : BitVec 24) (blocks : List Fetched) (p at' : Nat) (x : PierOwn), (pier.val = p ∧ s.dev.pierOwn p = x ∧ x.claimAt = some at' ∧ s.dev.controlRuns p = true ∧ x.fenced = false) ∧ (x.answer = none ∨ s.dev.quoinReaches p = false) ∧ s.dev.expired (pierDie p) at' (s.dev.fld .OWN_CFG_QUOIN_TO * 1000) = true :=
  ⟨(takenDev (claimOwn 1)).toState, 1, 0xF#24, [], 1, 0, claimOwn 1, by decide +kernel⟩

theorem test_wit_TakeoversAndDisputes_2a : ∃ (s : State) (pier : Fin 2) (held : BitVec 24) (blocks : List Fetched) (p at' : Nat) (x : PierOwn), (pier.val = p ∧ s.dev.pierOwn p = x ∧ x.claimAt = some at' ∧ s.dev.controlRuns p = true ∧ x.fenced = false) ∧ (x.answer = none ∨ s.dev.quoinReaches p = false) ∧ s.dev.expired (pierDie p) at' (s.dev.fld .OWN_CFG_QUOIN_TO * 1000) = true :=
  ⟨(takenDev {} (claimOwn 1)).toState, 0, 0x3#24, [], 0, 0, claimOwn 1, by decide +kernel⟩

theorem test_wit_TakeoversAndDisputes_3 : ∃ (s : State) (pier : Fin 2) (held : BitVec 24) (blocks : List Fetched) (p at' : Nat) (x : PierOwn), (pier.val = p ∧ s.dev.pierOwn p = x ∧ x.claimAt = some at' ∧ s.dev.controlRuns p = true ∧ x.fenced = false) ∧ (x.answer = none ∨ s.dev.quoinReaches p = false) ∧ s.dev.expired (pierDie p) at' (s.dev.fld .OWN_CFG_QUOIN_TO * 1000) = true ∧ (s.dev.volumes.any (s.dev.winsDispute p held) = false ∧ (s.dev.volumes.filter (fun v => s.dev.volPier v == p)) ≠ []) :=
  ⟨(takenDev {} (claimOwn 1)).toState, 0, 0x3#24, [], 0, 0, claimOwn 1, by decide +kernel⟩

theorem test_wit_TakeoversAndDisputes_4 : ∃ (s : State) (pier : Fin 2) (held : BitVec 24) (blocks : List Fetched) (p at' v : Nat) (x : PierOwn), (pier.val = p ∧ s.dev.pierOwn p = x ∧ x.claimAt = some at' ∧ s.dev.controlRuns p = true ∧ x.fenced = false) ∧ (x.answer = none ∨ s.dev.quoinReaches p = false) ∧ s.dev.expired (pierDie p) at' (s.dev.fld .OWN_CFG_QUOIN_TO * 1000) = true ∧ (s.dev.volumes = [v] ∧ s.dev.winsDispute p held v = true ∧ s.dev.volPier v = p) ∧ ((s.dev.membersIn v [.online, .rebuilding]).all (fun e => s.dev.reaches p e.2) = true ∧ s.dev.nvme.cmds = []) :=
  ⟨(agedDev {} (claimOwn 1)).toState, 0, 0x7#24, [], 0, 0, 7, claimOwn 1, by decide +kernel⟩

theorem test_wit_TakeoversAndDisputes_5 : ∃ (s : State) (pier : Fin 2) (blocks : List Fetched) (p v : Nat) (x : PierOwn), (pier.val = p ∧ s.dev.pierOwn p = x ∧ s.dev.controlRuns p = true ∧ x.fenced = false) ∧ (x.pending = [v] ∧ x.retryAt ≤ s.dev.nowOn (pierDie p)) :=
  ⟨(takenDev { pending := [7] } {} (fun o => { o with acquiring := [(0, 3), (1, 2)] })).toState, 1, [], 1, 7, { pending := [7] }, by decide +kernel⟩

theorem test_wit_TakeoversAndDisputes_6 : ∃ (s : State) (pier : Fin 2) (slot : Fin 24) (held : Bool) (blocks : List Fetched) (p k : Nat), (pier.val = p ∧ slot.val = k ∧ s.dev.reaches p k = true) ∧ (s.dev.controlRuns p = true ∧ (s.dev.pierOwn p).fenced = false ∧ (s.dev.pierOwn p).pending = []) :=
  ⟨(takenDev { seenSlots := [(3, ⟨1, 44⟩)] } {} (fun o => { o with acquiring := [(0, 3), (1, 3)] })).toState, 1, 3, true, [], 1, 3, by decide +kernel⟩

theorem test_wit_TakeoversAndDisputes_6a : ∃ (s : State) (pier : Fin 2) (slot : Fin 24) (held : Bool) (blocks : List Fetched) (p k : Nat), (pier.val = p ∧ slot.val = k ∧ s.dev.reaches p k = true) ∧ (s.dev.controlRuns p = true ∧ (s.dev.pierOwn p).fenced = false ∧ (s.dev.pierOwn p).pending = []) :=
  ⟨(takenDev {} {} (fun o => { o with acquiring := [(0, 3), (1, 3)] })).toState, 1, 3, false, [], 1, 3, by decide +kernel⟩

theorem test_wit_TakeoversAndDisputes_7 : ∃ (s : State) (pier : Fin 2) (slot : Fin 24) (blocks : List Fetched) (p k v : Nat) (r : IRec), (pier.val = p ∧ slot.val = k ∧ s.dev.reaches p k = true) ∧ (s.dev.controlRuns p = true ∧ (s.dev.pierOwn p).fenced = false ∧ (s.dev.pierOwn p).pending = [v]) ∧ (s.dev.memberSlots v).any (fun j => j != k && s.dev.own.acquiring.contains (p, j)) = false ∧ (s.dev.memberSlots v).length < 2 * ((s.dev.memberSlots v).filter (fun j => j == k || s.dev.holder v j == some p)).length ∧ ((s.dev.pier (1 - p)).recs = [r] ∧ r.volume = v ∧ r.kind ≠ 0 ∧ r.retired = false ∧ r.committed = true) :=
  ⟨((takenDev { pending := [7] } {} (fun o => { o with holders := [(0, some 1), (1, some 1)], acquiring := [(1, 3)] })).setPier 0 { recs := [{ testRec with committed := true }], seq := 3 }).toState, 1, 3, [], 1, 3, 7, { testRec with committed := true }, by decide +kernel⟩

theorem test_wit_TakeoversAndDisputes_8 : ∃ (s : State) (via : Via), s.dev.commandMade via (Reg.addr .OWN_CMD) = true ∧ (match via with | .reg r => s.dev.privileged r | .dict _ => true) = true :=
  ⟨(({ agedDev with own := { slots := [(0, ⟨1, 5⟩)], vols := [(7, ⟨1, 9⟩)] } } : Dev).setFld .EP_CFG_PRIV 0 1).toState, .reg .pf1, by decide +kernel⟩

theorem test_wit_TakeoversAndDisputes_8a : ∃ (s : State) (via : Via), s.dev.commandMade via (Reg.addr .OWN_CMD) = true ∧ (match via with | .reg r => s.dev.privileged r | .dict _ => true) = true :=
  ⟨({ agedDev with own := { slots := [(0, ⟨1, 5⟩)], vols := [(7, ⟨1, 9⟩)] } } : Dev).withCustodian.toState, .dict 0x205, by decide +kernel⟩

theorem test_wit_TakeoversAndDisputes_8b : ∃ (s : State) (via : Via), s.dev.commandMade via (Reg.addr .OWN_CMD) = true ∧ (match via with | .reg r => s.dev.privileged r | .dict _ => true) = true :=
  ⟨({ agedDev with own := { dispute := true } } : Dev).withCustodian.toState, .dict 0x205, by decide +kernel⟩

theorem test_wit_TakeoversAndDisputes_9 : ∃ (s : State), (s.dev.flag .OWN_CFG_AUTO_BACK = true ∧ s.dev.mayGiveBack = true) :=
  ⟨(({ serviceDev with time := 10000000000, own := { slots := [(0, ⟨1, 5⟩), (13, ⟨0, 2⟩)], piers := [(1, { regionsFrom := 1 })] } } : Dev).setFld .OWN_CFG_AUTO_BACK 0 1).toState, by decide +kernel⟩

theorem test_wit_TakeoversAndDisputes_10 : ∃ (s : State) (via : Via) (p : Nat), s.dev.commandMade via (Reg.addr .OWN_CMD) = true ∧ (match via with | .reg r => s.dev.privileged r | .dict _ => true) = true ∧ (p < 2 ∧ (s.dev.pierOwn p).fenced = true) ∧ (s.dev.quoinReaches 0 = true ∧ s.dev.quoinReaches 1 = true) :=
  ⟨((takenDev {} { fenced := true, majority := [4], stopped := [7] } (fun o => { o with vols := [(7, ⟨1, 3⟩)] })).setRegion 0 { isolated := true }).withCustodian.toState, .dict 0x205, 0, by decide +kernel⟩

theorem test_wit_TakeoversAndDisputes_11 : ∃ (s : State) (via : Via), s.dev.commandMade via (Reg.addr .OWN_CMD) = true ∧ (match via with | .reg r => s.dev.privileged r | .dict _ => true) = true ∧ (((s.dev.pierOwn 0).fenced || (s.dev.pierOwn 1).fenced) = false ∨ (s.dev.quoinReaches 0 && s.dev.quoinReaches 1) = false) :=
  ⟨(agedDev {} {}).withCustodian.toState, .dict 0x205, by decide +kernel⟩

theorem test_wit_TakeoversAndDisputes_11a : ∃ (s : State) (via : Via), s.dev.commandMade via (Reg.addr .OWN_CMD) = true ∧ (match via with | .reg r => s.dev.privileged r | .dict _ => true) = true ∧ (((s.dev.pierOwn 0).fenced || (s.dev.pierOwn 1).fenced) = false ∨ (s.dev.quoinReaches 0 && s.dev.quoinReaches 1) = false) :=
  ⟨((agedDev {} { fenced := true }).setSeam 4 {}).withCustodian.toState, .dict 0x205, by decide +kernel⟩

/-- `keyDev` with bond link 0 as given, enabled under the LOADED BOND key of service slot 9, a second after its reset. -/
def bondDev (x : Bond) : Dev :=
  let d := (((keyDev { state := .loaded, use := 1, key := 5 }).setFld .BOND_CFG_EN 0 1).setFld .BOND_CFG_KEY_ID 0 9).setBond 0 x
  { d with time := 1000000000 }
theorem test_wit_BondLinks_1 : ∃ (s : State) (link : Fin 2) (peer : Fin 4) (k key n : Nat) (x : Bond), (link.val = k ∧ s.dev.bond k = x ∧ x.up = false) ∧ s.dev.serviceKey (s.dev.fld .BOND_CFG_KEY_ID k) useBond = some key ∧ (s.dev.epUp = true ∧ s.dev.flag .BOND_CFG_EN k = true ∧ s.dev.flag .BOND_CFG_MIRROR k = false) ∧ n = (if x.keyed = key then x.training + 1 else 1) :=
  ⟨(bondDev {}).toState, 0, 2, 0, 5, 1, {}, by decide +kernel⟩

theorem test_wit_BondLinks_1a : ∃ (s : State) (link : Fin 2) (peer : Fin 4) (k key n : Nat) (x : Bond), (link.val = k ∧ s.dev.bond k = x ∧ x.up = false) ∧ s.dev.serviceKey (s.dev.fld .BOND_CFG_KEY_ID k) useBond = some key ∧ (s.dev.epUp = true ∧ s.dev.flag .BOND_CFG_EN k = true ∧ s.dev.flag .BOND_CFG_MIRROR k = false) ∧ n = (if x.keyed = key then x.training + 1 else 1) :=
  ⟨(bondDev { keyed := 5, training := 4, failed := true, lseq := 8 }).toState, 0, 3, 0, 5, 5, { keyed := 5, training := 4, failed := true, lseq := 8 }, by decide +kernel⟩

theorem test_wit_BondLinks_1b : ∃ (s : State) (link : Fin 2) (peer : Fin 4) (k key n : Nat) (x : Bond), (link.val = k ∧ s.dev.bond k = x ∧ x.up = false) ∧ s.dev.serviceKey (s.dev.fld .BOND_CFG_KEY_ID k) useBond = some key ∧ (s.dev.epUp = true ∧ s.dev.flag .BOND_CFG_EN k = true ∧ s.dev.flag .BOND_CFG_MIRROR k = false) ∧ n = (if x.keyed = key then x.training + 1 else 1) :=
  ⟨(bondDev { keyed := 4, training := 4 }).toState, 0, 0, 0, 5, 1, { keyed := 4, training := 4 }, by decide +kernel⟩

theorem test_wit_BondLinks_1c : ∃ (s : State) (link : Fin 2) (peer : Fin 4) (k key n : Nat) (x : Bond), (link.val = k ∧ s.dev.bond k = x ∧ x.up = false) ∧ s.dev.serviceKey (s.dev.fld .BOND_CFG_KEY_ID k) useBond = some key ∧ (s.dev.epUp = true ∧ s.dev.flag .BOND_CFG_EN k = true ∧ s.dev.flag .BOND_CFG_MIRROR k = false) ∧ n = (if x.keyed = key then x.training + 1 else 1) :=
  ⟨(bondDev { keyed := 5, training := 2 ^ 29 - 1 }).toState, 0, 1, 0, 5, 2 ^ 29, { keyed := 5, training := 2 ^ 29 - 1 }, by decide +kernel⟩

theorem test_wit_BondLinks_1d : ∃ (s : State) (link : Fin 2) (peer : Fin 4) (k key n : Nat) (x : Bond), (link.val = k ∧ s.dev.bond k = x ∧ x.up = false) ∧ s.dev.serviceKey (s.dev.fld .BOND_CFG_KEY_ID k) useBond = some key ∧ (s.dev.epUp = true ∧ s.dev.flag .BOND_CFG_EN k = true ∧ s.dev.flag .BOND_CFG_MIRROR k = false) ∧ n = (if x.keyed = key then x.training + 1 else 1) :=
  ⟨(bondDev { keyed := 5, training := 2 ^ 29 - 2 }).toState, 0, 1, 0, 5, 2 ^ 29 - 1, { keyed := 5, training := 2 ^ 29 - 2 }, by decide +kernel⟩

theorem test_wit_BondLinks_2 : ∃ (s : State) (link : Fin 2) (peer : Fin 4), (s.dev.serviceKey (s.dev.fld .BOND_CFG_KEY_ID link.val) useBond = none ∨ s.dev.flag .BOND_CFG_EN link.val = false ∨ (s.dev.bond link.val).up = true) :=
  ⟨((bondDev {}).setKeySlot keyService 9 { state := .loaded, use := 2 }).toState, 0, 1, by decide +kernel⟩

theorem test_wit_BondLinks_2a : ∃ (s : State) (link : Fin 2) (peer : Fin 4), (s.dev.serviceKey (s.dev.fld .BOND_CFG_KEY_ID link.val) useBond = none ∨ s.dev.flag .BOND_CFG_EN link.val = false ∨ (s.dev.bond link.val).up = true) :=
  ⟨((bondDev {}).setFld .BOND_CFG_EN 0 0).toState, 0, 1, by decide +kernel⟩

theorem test_wit_BondLinks_3 : ∃ (s : State) (link : Fin 2) (lseq : Word) (k : Nat) (x : Bond) (a b : List BondFrame) (f : BondFrame), (link.val = k ∧ s.dev.bond k = x ∧ s.dev.bondRuns k = true) ∧ (x.unacked = a ++ f :: b ∧ f.lseq = lseq.toNat ∧ a.all (fun g => g.lseq != lseq.toNat) = true) :=
  ⟨(bondDev { up := true, unacked := [⟨4, 1, 0, 0, 0⟩, ⟨5, 1, 0, 0, 3⟩, ⟨6, 1, 0, 0, 0⟩] }).toState, 0, 5#32, 0, { up := true, unacked := [⟨4, 1, 0, 0, 0⟩, ⟨5, 1, 0, 0, 3⟩, ⟨6, 1, 0, 0, 0⟩] }, [⟨4, 1, 0, 0, 0⟩], [⟨6, 1, 0, 0, 0⟩], ⟨5, 1, 0, 0, 3⟩, by decide +kernel⟩

theorem test_wit_BondLinks_4 : ∃ (s : State) (link : Fin 2) (lseq : Word) (x : Bond), (s.dev.bond link.val = x ∧ (x.up = false ∨ x.unacked.all (fun g => g.lseq != lseq.toNat) = true)) :=
  ⟨(bondDev { up := true, unacked := [⟨4, 1, 0, 0, 0⟩] }).toState, 0, 9#32, { up := true, unacked := [⟨4, 1, 0, 0, 0⟩] }, by decide +kernel⟩

theorem test_wit_BondLinks_5 : ∃ (s : State) (link : Fin 2) (k : Nat) (x : Bond), (link.val = k ∧ s.dev.bond k = x ∧ s.dev.bondRuns k = true ∧ x.unacked ≠ []) ∧ x.ackAt + 10000 < s.dev.nowOn .ln :=
  ⟨(bondDev { up := true, frameCtr := 90, unacked := [⟨4, 1, 0, 0, 0⟩, ⟨5, 3, 2, 64, 7⟩] }).toState, 0, 0, { up := true, frameCtr := 90, unacked := [⟨4, 1, 0, 0, 0⟩, ⟨5, 3, 2, 64, 7⟩] }, by decide +kernel⟩

theorem test_wit_BondLinks_5a : ∃ (s : State) (link : Fin 2) (k : Nat) (x : Bond), (link.val = k ∧ s.dev.bond k = x ∧ s.dev.bondRuns k = true ∧ x.unacked ≠ []) ∧ x.ackAt + 10000 < s.dev.nowOn .ln :=
  ⟨(bondDev { up := true, frameCtr := 90, unacked := [⟨4, 1, 0, 0, 8⟩, ⟨5, 3, 2, 64, 7⟩] }).toState, 0, 0, { up := true, frameCtr := 90, unacked := [⟨4, 1, 0, 0, 8⟩, ⟨5, 3, 2, 64, 7⟩] }, by decide +kernel⟩

theorem test_wit_BondLinks_6 : ∃ (s : State) (link : Fin 2) (f : SalbenFrame) (k : Nat) (x : Bond), (link.val = k ∧ s.dev.bond k = x ∧ s.dev.bondRuns k = true) :=
  ⟨({ bondDev { up := true, rxLseq := 2 ^ 32 - 1, peer := 2 } with own := { (bondDev { up := true, rxLseq := 2 ^ 32 - 1, peer := 2 }).own with pkgSilent := [1, 2] } } : Dev).toState, 0, ⟨true, 0#32, 77#64, .heartbeat⟩, 0, { up := true, rxLseq := 2 ^ 32 - 1, peer := 2 }, by decide +kernel⟩

theorem test_wit_BondLinks_6a : ∃ (s : State) (link : Fin 2) (f : SalbenFrame) (k : Nat) (x : Bond), (link.val = k ∧ s.dev.bond k = x ∧ s.dev.bondRuns k = true) :=
  ⟨(bondDev { up := true, rxLseq := 6 }).toState, 0, ⟨true, 7#32, 77#64, .other⟩, 0, { up := true, rxLseq := 6 }, by decide +kernel⟩

theorem test_wit_BondLinks_6b : ∃ (s : State) (link : Fin 2) (f : SalbenFrame) (k : Nat) (x : Bond), (link.val = k ∧ s.dev.bond k = x ∧ s.dev.bondRuns k = true) :=
  ⟨(bondDev { up := true, rxLseq := 6 }).toState, 0, ⟨true, 8#32, 77#64, .other⟩, 0, { up := true, rxLseq := 6 }, by decide +kernel⟩

theorem test_wit_BondLinks_6c : ∃ (s : State) (link : Fin 2) (f : SalbenFrame) (k : Nat) (x : Bond), (link.val = k ∧ s.dev.bond k = x ∧ s.dev.bondRuns k = true) :=
  ⟨(bondDev { up := true, rxLseq := 6 }).toState, 0, ⟨false, 7#32, 77#64, .other⟩, 0, { up := true, rxLseq := 6 }, by decide +kernel⟩

theorem test_wit_BondLinks_7 : ∃ (s : State) (link : Fin 2) (lseq : Word) (fc : BitVec 64) (k p seq v : Nat) (pier : Fin 2) (x : Bond) (blocks : List Fetched), (link.val = k ∧ s.dev.bond k = x ∧ s.dev.bondRuns k = true) ∧ (pier.val = p ∧ lseq.toNat = (x.rxLseq + 1) % 2 ^ 32) :=
  ⟨(bondDev { up := true, rxLseq := 6, peer := 3, lseq := 2 ^ 32 - 1 }).toState, 0, 7#32, 5#64, 0, 1, 44, 7, 1, { up := true, rxLseq := 6, peer := 3, lseq := 2 ^ 32 - 1 }, [⟨2, 100, [1#8]⟩], by decide +kernel⟩

theorem test_wit_BondLinks_8 : ∃ (s : State) (link : Fin 2) (lseq : Word) (fc : BitVec 64) (k p seq : Nat) (pier : Fin 2) (x : Bond) (r : IRec), (link.val = k ∧ s.dev.bond k = x ∧ s.dev.bondRuns k = true) ∧ (pier.val = p ∧ lseq.toNat = (x.rxLseq + 1) % 2 ^ 32 ∧ s.dev.record p seq = some r) :=
  ⟨((bondDev { up := true }).setPier 1 { recs := [testRec], seq := 3 }).toState, 0, 1#32, 5#64, 0, 1, 2, 1, { up := true }, testRec, by decide +kernel⟩

theorem test_wit_BondLinks_9 : ∃ (s : State) (link : Fin 2) (lseq : Word) (fc : BitVec 64) (k id st dw0 : Nat) (dnr : Bool) (data : List Byte) (x : Bond) (c : Cmd), (link.val = k ∧ s.dev.bond k = x ∧ s.dev.bondRuns k = true) ∧ (lseq.toNat = (x.rxLseq + 1) % 2 ^ 32 ∧ s.dev.cmd id = some c ∧ c.remote = true ∧ c.io = false) ∧ (c.status = none ∧ c.completed = false ∧ c.cancelled = false) :=
  ⟨({ bondDev { up := true } with nvme := { (bondDev {}).nvme with cmds := [{ id := 3, op := .read, remote := true, src := .fabric 1024 }] } } : Dev).toState, 0, 1#32, 5#64, 0, 3, 0, 9, true, [1#8], { up := true }, { id := 3, op := .read, remote := true, src := .fabric 1024 }, by decide +kernel⟩

/-- `bondDev` with BOND_CFG.SHED_EN and, of link 1's output, some cells queued. -/
def shedDev (x : Bond) (cells : Nat := 0) (minWidth : Nat := 2) : Dev :=
  let d := ((bondDev x).setFld .BOND_CFG_SHED_EN 0 1).setFld .BOND_CFG_MIN_WIDTH 0 minWidth
  if cells = 0 then d else { d with sw := { d.sw with units := [{ id := 1, output := 11, cells := cells }] } }

/-- `volDev` with bond link 0 up to package 2, and volume 7's four members on the cards' slots 0-3. -/
def packDev (x : Bond) (o : Ownership → Ownership := id) : Dev :=
  let d := (List.range 4).foldl (fun (d : Dev) i => d.setFld .VOL_MEMBER_SLOT (memberInst 7 i) i) (volDev.setBond 0 x)
  { d with own := o d.own, time := 1000000000 }
theorem test_wit_BondWidthAndPackages_1 : ∃ (s : State) (link : Fin 2) (tx rx burst k n : Nat) (x : Bond), (link.val = k ∧ s.dev.bond k = x ∧ s.dev.bondRuns k = true ∧ x.request = none) ∧ (s.dev.flag .BOND_CFG_SHED_EN k = true ∧ s.dev.isolated 18 = false) ∧ n = ((s.dev.sw.units.filter (fun u => u.output == 11 + k)).map (·.cells)).sum :=
  ⟨(shedDev { up := true, width := 4 } 65).toState, 0, 0, 0, 0, 0, 65, { up := true, width := 4 }, by decide +kernel⟩

theorem test_wit_BondWidthAndPackages_1a : ∃ (s : State) (link : Fin 2) (tx rx burst k n : Nat) (x : Bond), (link.val = k ∧ s.dev.bond k = x ∧ s.dev.bondRuns k = true ∧ x.request = none) ∧ (s.dev.flag .BOND_CFG_SHED_EN k = true ∧ s.dev.isolated 18 = false) ∧ n = ((s.dev.sw.units.filter (fun u => u.output == 11 + k)).map (·.cells)).sum :=
  ⟨(shedDev { up := true, width := 8 } 65).toState, 0, 0, 0, 0, 0, 65, { up := true, width := 8 }, by decide +kernel⟩

theorem test_wit_BondWidthAndPackages_1b : ∃ (s : State) (link : Fin 2) (tx rx burst k n : Nat) (x : Bond), (link.val = k ∧ s.dev.bond k = x ∧ s.dev.bondRuns k = true ∧ x.request = none) ∧ (s.dev.flag .BOND_CFG_SHED_EN k = true ∧ s.dev.isolated 18 = false) ∧ n = ((s.dev.sw.units.filter (fun u => u.output == 11 + k)).map (·.cells)).sum :=
  ⟨(shedDev { up := true, width := 4 }).toState, 0, 0, 0, 375001, 0, 0, { up := true, width := 4 }, by decide +kernel⟩

theorem test_wit_BondWidthAndPackages_1c : ∃ (s : State) (link : Fin 2) (tx rx burst k n : Nat) (x : Bond), (link.val = k ∧ s.dev.bond k = x ∧ s.dev.bondRuns k = true ∧ x.request = none) ∧ (s.dev.flag .BOND_CFG_SHED_EN k = true ∧ s.dev.isolated 18 = false) ∧ n = ((s.dev.sw.units.filter (fun u => u.output == 11 + k)).map (·.cells)).sum :=
  ⟨(shedDev { up := true, width := 4, low := 3 } 64).toState, 0, 12499999, 0, 0, 0, 64, { up := true, width := 4, low := 3 }, by decide +kernel⟩

theorem test_wit_BondWidthAndPackages_1d : ∃ (s : State) (link : Fin 2) (tx rx burst k n : Nat) (x : Bond), (link.val = k ∧ s.dev.bond k = x ∧ s.dev.bondRuns k = true ∧ x.request = none) ∧ (s.dev.flag .BOND_CFG_SHED_EN k = true ∧ s.dev.isolated 18 = false) ∧ n = ((s.dev.sw.units.filter (fun u => u.output == 11 + k)).map (·.cells)).sum :=
  ⟨(shedDev { up := true, width := 4, low := 3 } 0 1).toState, 0, 5, 0, 0, 0, 0, { up := true, width := 4, low := 3 }, by decide +kernel⟩

theorem test_wit_BondWidthAndPackages_1e : ∃ (s : State) (link : Fin 2) (tx rx burst k n : Nat) (x : Bond), (link.val = k ∧ s.dev.bond k = x ∧ s.dev.bondRuns k = true ∧ x.request = none) ∧ (s.dev.flag .BOND_CFG_SHED_EN k = true ∧ s.dev.isolated 18 = false) ∧ n = ((s.dev.sw.units.filter (fun u => u.output == 11 + k)).map (·.cells)).sum :=
  ⟨(shedDev { up := true, width := 4, low := 2 }).toState, 0, 12500000, 0, 0, 0, 0, { up := true, width := 4, low := 2 }, by decide +kernel⟩

theorem test_wit_BondWidthAndPackages_2 : ∃ (s : State) (link : Fin 2) (k width : Nat) (x : Bond), (link.val = k ∧ s.dev.bond k = x ∧ s.dev.bondRuns k = true) ∧ (width = 2 * x.width ∨ 2 * width = x.width) ∧ (width = 2 ∨ width = 4 ∨ width = 8) :=
  ⟨(bondDev { up := true, lseq := 2 ^ 32 - 1, peer := 2 }).toState, 0, 0, 4, { up := true, lseq := 2 ^ 32 - 1, peer := 2 }, by decide +kernel⟩

theorem test_wit_BondWidthAndPackages_2a : ∃ (s : State) (link : Fin 2) (k width : Nat) (x : Bond), (link.val = k ∧ s.dev.bond k = x ∧ s.dev.bondRuns k = true) ∧ (width = 2 * x.width ∨ 2 * width = x.width) ∧ (width = 2 ∨ width = 4 ∨ width = 8) :=
  ⟨(bondDev { up := true, width := 4, request := some 8, peer := 2 }).toState, 0, 0, 2, { up := true, width := 4, request := some 8, peer := 2 }, by decide +kernel⟩

theorem test_wit_BondWidthAndPackages_2b : ∃ (s : State) (link : Fin 2) (k width : Nat) (x : Bond), (link.val = k ∧ s.dev.bond k = x ∧ s.dev.bondRuns k = true) ∧ (width = 2 * x.width ∨ 2 * width = x.width) ∧ (width = 2 ∨ width = 4 ∨ width = 8) :=
  ⟨(bondDev { up := true, width := 4, request := some 2, peer := 2 }).toState, 0, 0, 2, { up := true, width := 4, request := some 2, peer := 2 }, by decide +kernel⟩

theorem test_wit_BondWidthAndPackages_2c : ∃ (s : State) (link : Fin 2) (k width : Nat) (x : Bond), (link.val = k ∧ s.dev.bond k = x ∧ s.dev.bondRuns k = true) ∧ (width = 2 * x.width ∨ 2 * width = x.width) ∧ (width = 2 ∨ width = 4 ∨ width = 8) :=
  ⟨(bondDev { up := true, width := 4, request := some 2, peer := 2 }).toState, 0, 0, 8, { up := true, width := 4, request := some 2, peer := 2 }, by decide +kernel⟩

theorem test_wit_BondWidthAndPackages_3 : ∃ (s : State) (link : Fin 2) (lseq : Word) (k w : Nat) (x : Bond), (link.val = k ∧ s.dev.bond k = x ∧ s.dev.bondRuns k = true) :=
  ⟨(bondDev { up := true, request := some 4 }).toState, 0, 5#32, 0, 4, { up := true, request := some 4 }, by decide +kernel⟩

theorem test_wit_BondWidthAndPackages_3a : ∃ (s : State) (link : Fin 2) (lseq : Word) (k w : Nat) (x : Bond), (link.val = k ∧ s.dev.bond k = x ∧ s.dev.bondRuns k = true) :=
  ⟨(bondDev { up := true }).toState, 0, 5#32, 0, 4, { up := true }, by decide +kernel⟩

theorem test_wit_BondWidthAndPackages_4 : ∃ (s : State) (pkg : Fin 4) (held : BitVec 24) (g : Nat), (s.dev.epUp = true ∧ pkg.val = g ∧ g ≠ s.dev.pkgIdx ∧ s.dev.own.pkgSilent.contains g = false) ∧ [0, 1].any (fun k => (s.dev.bond k).peer == g && (s.dev.bond k).training != 0) = true ∧ [0, 1].all (fun k => (s.dev.bond k).peer != g || (s.dev.bond k).training == 0 || decide ((s.dev.bond k).hbAt + 300000 < s.dev.nowOn .ln)) = true :=
  ⟨(packDev { up := true, peer := 2, training := 1 } (fun o => { o with pvols := [(7, ⟨2, 2 ^ 30 - 1⟩), (9, ⟨2, 5⟩)], mirrors := [⟨2, 0, 5, 7, [⟨1, 1000, [1#8]⟩]⟩, ⟨2, 0, 6, 3, []⟩] })).toState, 2, 0x7#24, 2, by decide +kernel⟩

theorem test_wit_BondWidthAndPackages_4a : ∃ (s : State) (pkg : Fin 4) (held : BitVec 24) (g : Nat), (s.dev.epUp = true ∧ pkg.val = g ∧ g ≠ s.dev.pkgIdx ∧ s.dev.own.pkgSilent.contains g = false) ∧ [0, 1].any (fun k => (s.dev.bond k).peer == g && (s.dev.bond k).training != 0) = true ∧ [0, 1].all (fun k => (s.dev.bond k).peer != g || (s.dev.bond k).training == 0 || decide ((s.dev.bond k).hbAt + 300000 < s.dev.nowOn .ln)) = true :=
  ⟨(packDev { up := true, peer := 2, training := 1 } (fun o => { o with pvols := [(7, ⟨2, 2 ^ 30 - 1⟩)] })).toState, 2, 0x3#24, 2, by decide +kernel⟩

theorem test_wit_BondWidthAndPackages_4b : ∃ (s : State) (pkg : Fin 4) (held : BitVec 24) (g : Nat), (s.dev.epUp = true ∧ pkg.val = g ∧ g ≠ s.dev.pkgIdx ∧ s.dev.own.pkgSilent.contains g = false) ∧ [0, 1].any (fun k => (s.dev.bond k).peer == g && (s.dev.bond k).training != 0) = true ∧ [0, 1].all (fun k => (s.dev.bond k).peer != g || (s.dev.bond k).training == 0 || decide ((s.dev.bond k).hbAt + 300000 < s.dev.nowOn .ln)) = true :=
  ⟨(packDev { up := true, peer := 2, training := 1 }).toState, 2, 0x3#24, 2, by decide +kernel⟩

theorem test_wit_BondWidthAndPackages_5 : ∃ (s : State), (s.dev.mirrors = true ∧ s.dev.mode.diesUp = true ∧ (s.dev.bond 0).up = false ∧ (s.dev.bond 1).up = false) ∧ s.dev.own.noBondFrom + 1000000 < s.dev.nowOn .ln :=
  ⟨((bondDev {}).setFld .BOND_CFG_MIRROR 1 1).toState, by decide +kernel⟩

theorem test_wit_BondWidthAndPackages_6 : ∃ (s : State) (link : Fin 2) (f : Forwarded), (s.dev.frontUp = true ∧ s.dev.bondRuns link.val = true ∧ s.dev.numberFree = true) :=
  ⟨(packDev { up := true, peer := 2 }).toState, 0, ⟨8, 1, 5, 9#16, { ioArgs 3 0 0 with nsid := 9 }, .read⟩, by decide +kernel⟩

theorem test_wit_BondWidthAndPackages_6a : ∃ (s : State) (link : Fin 2) (f : Forwarded), (s.dev.frontUp = true ∧ s.dev.bondRuns link.val = true ∧ s.dev.numberFree = true) :=
  ⟨(packDev { up := true, peer := 2 } (fun o => { o with pvols := [(7, ⟨2, 5⟩)] })).toState, 0, ⟨8, 1, 5, 9#16, ioArgs 3 0 0, .read⟩, by decide +kernel⟩

theorem test_wit_BondWidthAndPackages_6b : ∃ (s : State) (link : Fin 2) (f : Forwarded), (s.dev.frontUp = true ∧ s.dev.bondRuns link.val = true ∧ s.dev.numberFree = true) :=
  ⟨((packDev { up := true, peer := 3 } (fun o => { o with pvols := [(7, ⟨2, 5⟩)] })).setBond 1 { up := true, peer := 2 }).toState, 0, ⟨8, 1, 5, 9#16, ioArgs 3 0 0, .read⟩, by decide +kernel⟩

theorem test_wit_BondWidthAndPackages_6c : ∃ (s : State) (link : Fin 2) (f : Forwarded), (s.dev.frontUp = true ∧ s.dev.bondRuns link.val = true ∧ s.dev.numberFree = true) :=
  ⟨((packDev { up := true, peer := 3 } (fun o => { o with pvols := [(7, ⟨2, 5⟩)] })).setBond 1 { up := true, peer := 2 }).toState, 0, ⟨8, 2, 5, 9#16, ioArgs 3 0 0, .read⟩, by decide +kernel⟩

theorem test_wit_BondWidthAndPackages_7 : ∃ (s : State) (link : Fin 2) (f : Forwarded) (data : List Byte), (s.dev.frontUp = true ∧ s.dev.bondRuns link.val = true ∧ s.dev.numberFree = true) ∧ (1 ≤ f.args.nsid ∧ f.args.nsid ≤ 4096 ∧ s.dev.flag .NS_CFG_ACTIVE (f.args.nsid - 1) = true ∧ s.dev.foreignVol (s.dev.nsVol (f.args.nsid - 1)) = false) ∧ (f.args.slba + f.args.nlb + 1 ≤ s.dev.nsBlocks (f.args.nsid - 1) ∧ s.dev.volumeStatus (f.args.nsid - 1) = none) :=
  ⟨(packDev { up := true, peer := 2 }).toState, 0, ⟨8, 1, 5, 9#16, ioArgs 99 0 0, .read⟩, [], by decide +kernel⟩

theorem test_wit_BondWidthAndPackages_7a : ∃ (s : State) (link : Fin 2) (f : Forwarded) (data : List Byte), (s.dev.frontUp = true ∧ s.dev.bondRuns link.val = true ∧ s.dev.numberFree = true) ∧ (1 ≤ f.args.nsid ∧ f.args.nsid ≤ 4096 ∧ s.dev.flag .NS_CFG_ACTIVE (f.args.nsid - 1) = true ∧ s.dev.foreignVol (s.dev.nsVol (f.args.nsid - 1)) = false) ∧ (f.args.slba + f.args.nlb + 1 ≤ s.dev.nsBlocks (f.args.nsid - 1) ∧ s.dev.volumeStatus (f.args.nsid - 1) = none) :=
  ⟨(packDev { up := true, peer := 2 }).toState, 0, ⟨8, 1, 5, 9#16, ioArgs 0 0 0, .write [1#8]⟩, [1#8], by decide +kernel⟩

theorem test_wit_BondWidthAndPackages_7b : ∃ (s : State) (link : Fin 2) (f : Forwarded) (data : List Byte), (s.dev.frontUp = true ∧ s.dev.bondRuns link.val = true ∧ s.dev.numberFree = true) ∧ (1 ≤ f.args.nsid ∧ f.args.nsid ≤ 4096 ∧ s.dev.flag .NS_CFG_ACTIVE (f.args.nsid - 1) = true ∧ s.dev.foreignVol (s.dev.nsVol (f.args.nsid - 1)) = false) ∧ (f.args.slba + f.args.nlb + 1 ≤ s.dev.nsBlocks (f.args.nsid - 1) ∧ s.dev.volumeStatus (f.args.nsid - 1) = none) :=
  ⟨(let d := packDev { up := true, peer := 2 }; ({ d with nvme := { d.nvme with resv := [(5, { regs := [(9, 4)], holder := 9, rtype := 4 })] } } : Dev)).toState, 0, ⟨8, 1, 8, 9#16, ioArgs 99 0 0, .read⟩, [], by decide +kernel⟩

/-- `volDev` in QUIESCE with nothing outstanding, slot 3 powered, and member 0's port with a volatile write cache. -/
def quietDev : Dev :=
  let d := ({ volDev with mode := { volDev.mode with quiesced := true }, time := 5000000000 }.setSlotPwr 3 { st := .on, gate := true, seated := true, present := true }).setPort 0 { vwc := true }
  d.setVol 7 { d.vol 7 with pass := some { targets := [], cursor := 9, saved := 4 }, hole := [1, 2] }

/-- The device stopped by SHUTDOWN. -/
def stoppedDev : Dev := { serviceDev with mode := { commissioned := true, waitStart := true } }
theorem test_wit_ModeCommands_1 : ∃ (s : State) (via : Via), s.dev.commandMade via (Reg.addr .MODE_CMD) = true ∧ (match via with | .reg r => s.dev.privileged r | .dict _ => true) = true ∧ (s.dev.modeNow = .commission ∧ s.dev.cust.ready = true ∧ s.dev.recoveringAny = false ∧ s.dev.volumes ≠ []) :=
  ⟨({ volDev with mode := { volDev.mode with commissioned := false } } : Dev).withCustodian.toState, .dict 0x205, by decide +kernel⟩

theorem test_wit_ModeCommands_1a : ∃ (s : State) (via : Via), s.dev.commandMade via (Reg.addr .MODE_CMD) = true ∧ (match via with | .reg r => s.dev.privileged r | .dict _ => true) = true ∧ (s.dev.modeNow = .commission ∧ s.dev.cust.ready = true ∧ s.dev.recoveringAny = false ∧ s.dev.volumes ≠ []) :=
  ⟨({ volDev with mode := { volDev.mode with commissioned := false } } : Dev).toState, .reg (.cp 0), by decide +kernel⟩

theorem test_wit_ModeCommands_2 : ∃ (s : State) (via : Via), s.dev.commandMade via (Reg.addr .MODE_CMD) = true ∧ (match via with | .reg r => s.dev.privileged r | .dict _ => true) = true ∧ (s.dev.modeNow = .service ∨ s.dev.modeNow = .contained) :=
  ⟨(({ volDev with ten := { volDev.ten with meter := { volDev.ten.meter with opened := [(3, { tenant := 3, stop := 60000000000 })] } } } : Dev).setFld .TN_GLB_METER_EN 0 1).withCustodian.toState, .dict 0x205, by decide +kernel⟩

theorem test_wit_ModeCommands_2a : ∃ (s : State) (via : Via), s.dev.commandMade via (Reg.addr .MODE_CMD) = true ∧ (match via with | .reg r => s.dev.privileged r | .dict _ => true) = true ∧ (s.dev.modeNow = .service ∨ s.dev.modeNow = .contained) :=
  ⟨(volDev.setRegion 3 { isolated := true }).toState, .reg (.cp 0), by decide +kernel⟩

theorem test_wit_ModeCommands_3 : ∃ (s : State) (via : Via), s.dev.commandMade via (Reg.addr .MODE_CMD) = true ∧ (match via with | .reg r => s.dev.privileged r | .dict _ => true) = true ∧ (s.dev.modeNow = .quiesce ∧ s.dev.mode.shutting = none) :=
  ⟨quietDev.withCustodian.toState, .dict 0x205, by decide +kernel⟩

theorem test_wit_ModeCommands_3a : ∃ (s : State) (via : Via), s.dev.commandMade via (Reg.addr .MODE_CMD) = true ∧ (match via with | .reg r => s.dev.privileged r | .dict _ => true) = true ∧ (s.dev.modeNow = .quiesce ∧ s.dev.mode.shutting = none) :=
  ⟨(quietDev.setRegion 3 { isolated := true }).toState, .reg (.cp 0), by decide +kernel⟩

theorem test_wit_ModeCommands_4 : ∃ (s : State) (via : Via) (v : Nat) (x : Volume), s.dev.commandMade via (Reg.addr .MODE_CMD) = true ∧ (match via with | .reg r => s.dev.privileged r | .dict _ => true) = true ∧ (s.dev.drained = true ∧ s.dev.mode.shutting = none ∧ s.dev.vol v = x) ∧ s.dev.store.vols.keys.Nodup :=
  ⟨quietDev.withCustodian.toState, .dict 0x205, 7, quietDev.vol 7, by decide +kernel⟩

theorem test_wit_ModeCommands_5 : ∃ (s : State), (s.dev.mode.shutting ≠ none ∧ s.dev.modeNow = .quiesce) :=
  ⟨({ quietDev with mode := { quietDev.mode with shutting := some 0 } } : Dev).toState, by decide +kernel⟩

theorem test_wit_ModeCommands_6 : ∃ (s : State) (n : Nat), s.dev.commandMade (.dict n) (Reg.addr .MODE_CMD) = true ∧ (s.dev.modeNow = .dormant ∧ s.dev.mode.waitStart = true) :=
  ⟨stoppedDev.withCustodian.toState, 0x205, by decide +kernel⟩

theorem test_wit_ModeCommands_7 : ∃ (s : State) (via : Via) (bits : BitVec 5), s.dev.commandMade via (Reg.addr .MODE_CMD) = true ∧ 1 < ((List.range 5).filter (fun k => bits.getLsbD k)).length :=
  ⟨volDev.withCustodian.toState, .dict 0x205, 3#5, by decide +kernel⟩

theorem test_wit_ModeCommands_7a : ∃ (s : State) (via : Via) (bits : BitVec 5), s.dev.commandMade via (Reg.addr .MODE_CMD) = true ∧ 1 < ((List.range 5).filter (fun k => bits.getLsbD k)).length :=
  ⟨volDev.toState, .reg .pf1, 31#5, by decide +kernel⟩

theorem test_wit_ModeCommands_8 : ∃ (s : State) (via : Via), s.dev.commandMade via (Reg.addr .MODE_CMD) = true :=
  ⟨(volDev.setRegion 0 { isolated := true }).withCustodian.toState, .dict 0x205, by decide +kernel⟩

theorem test_wit_ModeCommands_8a : ∃ (s : State) (via : Via), s.dev.commandMade via (Reg.addr .MODE_CMD) = true :=
  ⟨({ upDev with mode := { upDev.mode with quiesced := true } } : Dev).toState, .reg (.cp 1), by decide +kernel⟩

/-- Images that are as they should be but for their signature, in both slots. -/
def someImage (v : Nat) : FwImage := ⟨true, true, true, 1, BitVec.ofNat 32 v, 3#32, 0#32, 1, 2, 3⟩

/-- A device in DORMANT whose hold conditions have held since the tick 10, with images in its slots, 50 ms on. -/
def holdDev : Dev :=
  { (Dev.init.setFld .SLOT_CFG_AUTO_ON 3 1) with
    time := 50000010, mode := { hold := { since := some 10 }, ref := { since := some 5 } }
    fw := { imageA := some (someImage 7), imageB := some (someImage 8), trial := some 1, tries := 1, params := [(Fld.OWN_CFG_QUOIN_TO.key 0, 9), (Fld.FE_CFG_CMD_TO.key 0, 5)] } }

/-- `holdDev` once released, its dies up. -/
def releasedDev : Dev := { holdDev.diesRise with mode := { diesUp := true, released := some 50000010, startRef := 5 } }
theorem test_wit_StartUpAndPower_1 : ∃ (s : State) (t0 : Nat), (s.dev.mode.standby = true ∧ s.dev.mode.diesUp = false ∧ s.dev.mode.released = none ∧ s.dev.mode.waitStart = false) ∧ (s.dev.cust.alarms = 0 ∧ s.dev.mode.hold.since = some t0 ∧ t0 + 50000000 ≤ s.dev.now) :=
  ⟨holdDev.toState, 10, by decide +kernel⟩

theorem test_wit_StartUpAndPower_2 : ∃ (s : State), (s.dev.mode.hold.since = none ∨ s.dev.mode.waitStart = true ∨ s.dev.cust.alarms ≠ 0) :=
  ⟨({ holdDev with mode := { holdDev.mode with waitStart := true } } : Dev).toState, by decide +kernel⟩

theorem test_wit_StartUpAndPower_3 : ∃ (s : State) (slot : Fin 24) (k t0 : Nat), (slot.val = k ∧ s.dev.mode.standby = true ∧ s.dev.mode.resetHigh = true ∧ s.dev.mode.released = some t0 ∧ t0 + 2000000 * k ≤ s.dev.now) ∧ (s.dev.mode.ramped.contains k = false ∧ (s.dev.slotPwr k).seated = true ∧ (s.dev.slotPwr k).st = .off ∧ s.dev.flag .SLOT_CFG_AUTO_ON k = true) :=
  ⟨({ (releasedDev.setSlotPwr 3 { st := .off, seated := true, present := true }) with time := 56000010 } : Dev).toState, 3, 3, 50000010, by decide +kernel⟩

theorem test_wit_StartUpAndPower_4 : ∃ (s : State) (rail : Fin 10) (mv r t0 : Nat), (s.dev.mode.standby = true ∧ rail.val = r ∧ (s.dev.rail r).on = true) ∧ (s.dev.mode.released = some t0 ∧ t0 + railOrder.idxOf r * 1000000 + 10000000 ≤ s.dev.now) :=
  ⟨({ releasedDev.setRail 4 { on := true } with time := 70000000 } : Dev).toState, 4, 1163, 4, 50000010, by decide +kernel⟩

theorem test_wit_StartUpAndPower_4a : ∃ (s : State) (rail : Fin 10) (mv r t0 : Nat), (s.dev.mode.standby = true ∧ rail.val = r ∧ (s.dev.rail r).on = true) ∧ (s.dev.mode.released = some t0 ∧ t0 + railOrder.idxOf r * 1000000 + 10000000 ≤ s.dev.now) :=
  ⟨({ releasedDev.setRail 4 { on := true, pg := true } with time := 70000000 } : Dev).toState, 4, 1163, 4, 50000010, by decide +kernel⟩

theorem test_wit_StartUpAndPower_5 : ∃ (s : State) (rail : Fin 10) (mv : Nat), ((railRange rail.val).1 ≤ mv ∧ mv ≤ (railRange rail.val).2) :=
  ⟨({ releasedDev.setRail 4 { on := true } with time := 70000000 } : Dev).toState, 4, 1164, by decide +kernel⟩

theorem test_wit_StartUpAndPower_5a : ∃ (s : State) (rail : Fin 10) (mv : Nat), ((railRange rail.val).1 ≤ mv ∧ mv ≤ (railRange rail.val).2) :=
  ⟨({ releasedDev.setRail 4 { on := true, pg := true } with time := 70000000 } : Dev).toState, 4, 1236, by decide +kernel⟩

theorem test_wit_StartUpAndPower_6 : ∃ (s : State) (lowNs : Nat), s.dev.mode.standby = true :=
  ⟨volDev.toState, 1000, by decide +kernel⟩

theorem test_wit_StartUpAndPower_6a : ∃ (s : State) (lowNs : Nat), s.dev.mode.standby = true :=
  ⟨({ holdDev with cust := { holdDev.cust with alarms := 2 } } : Dev).toState, 1000, by decide +kernel⟩

theorem test_wit_StartUpAndPower_6b : ∃ (s : State) (lowNs : Nat), s.dev.mode.standby = true :=
  ⟨volDev.toState, 999, by decide +kernel⟩

theorem test_wit_StartUpAndPower_9 : ∃ (s : State), (s.dev.mode.standby = true ∧ s.dev.mode.diesUp = true ∧ s.dev.modeNow ≠ .safe) :=
  ⟨({ serviceDev with shelf := { serviceDev.shelf with feedA := true }, mode := { serviceDev.mode with hold := { since := some 0 } } } : Dev).toState, by decide +kernel⟩

theorem test_wit_StartUpAndPower_10 : ∃ (s : State), (s.dev.mode.standby = true ∧ s.dev.mode.diesUp = false) :=
  ⟨({ holdDev with shelf := { holdDev.shelf with feedB := true } } : Dev).toState, by decide +kernel⟩

theorem test_wit_StartUpAndPower_11 : ∃ (s : State) (pkgIdx : Fin 4) (wiring : Bool), s.dev.mode.standby = false :=
  ⟨({ volDev with mode := { standby := false, commissioned := true } } : Dev).toState, 2, true, by decide +kernel⟩

theorem test_wit_StartUpAndPower_12 : ∃ (s : State) (storeOk : Bool) (c : Nat), (s.dev.mode.released ≠ none ∧ s.dev.mode.booted = false ∧ s.dev.mode.halted = false ∧ s.dev.mode.diesUp = true) ∧ (s.dev.fw.chosen = c ∧ s.dev.fw.restoreAtStart = false ∧ s.dev.fw.params.keys.Nodup) :=
  ⟨releasedDev.toState, true, 1, by decide +kernel⟩

theorem test_wit_StartUpAndPower_12a : ∃ (s : State) (storeOk : Bool) (c : Nat), (s.dev.mode.released ≠ none ∧ s.dev.mode.booted = false ∧ s.dev.mode.halted = false ∧ s.dev.mode.diesUp = true) ∧ (s.dev.fw.chosen = c ∧ s.dev.fw.restoreAtStart = false ∧ s.dev.fw.params.keys.Nodup) :=
  ⟨({ releasedDev with fw := { releasedDev.fw with tries := 0 } } : Dev).toState, false, 0, by decide +kernel⟩

theorem test_wit_StartUpAndPower_13 : ∃ (s : State) (storeOk : Bool), (s.dev.mode.released ≠ none ∧ s.dev.mode.booted = false ∧ s.dev.mode.halted = false) ∧ (s.dev.mode.diesUp = false ∧ s.dev.cust.alarms = 0) :=
  ⟨({ holdDev with mode := { released := some 50000010 } } : Dev).toState, true, by decide +kernel⟩

theorem test_wit_StartUpAndPower_14 : ∃ (s : State), (s.dev.mode.booted = true ∧ s.dev.mode.complete = false ∧ s.dev.ldg.stateLoaded = true ∧ s.dev.cust.ready = true ∧ s.dev.recoveringAny = false) :=
  ⟨({ serviceDev with mode := { serviceDev.mode with booted := true, startRef := 5 }, ldg := { serviceDev.ldg with stateLoaded := true }, time := 80000000000 } : Dev).toState, by decide +kernel⟩

/-- `serviceDev` with images in both slots, slot 0 running, and a live change at group `g` to slot 1. -/
def fwDev (g : Nat := 0) : Dev :=
  { serviceDev with time := 9000000000
                    fw := { imageA := some (someImage 7), imageB := some (someImage 8), running := some (someImage 7), change := g, changeSlot := 1, changedGroups := g - 1
                            trial := if g = 0 then none else some 1 } }

/-- The package confirmed a minute after it began to run an image. -/
def newDev : Dev := { fwDev with time := 901000000000, fw := { fwDev.fw with running := some (someImage 8), runSlot := 1, unconfirmed := true, trial := some 1, minSvn := 2 } }
theorem test_wit_FirmwareChange_2 : ∃ (s : State) (image : FwImage) (k : Nat), (s.dev.fw.downloading = true ∧ k = s.dev.fw.inactive) :=
  ⟨({ fwDev with fw := { fwDev.fw with downloading := true } } : Dev).toState, someImage 9, 1, by decide +kernel⟩

theorem test_wit_FirmwareChange_3 : ∃ (s : State) (via : Via) (k : Nat), (match via with | .reg r => s.dev.served && s.dev.privileged r | .dict n => decide (s.dev.sessionLevel n = .custodian)) = true ∧ k = s.dev.fw.inactive :=
  ⟨fwDev.withCustodian.toState, .dict 0x205, 1, by decide +kernel⟩

theorem test_wit_FirmwareChange_3a : ∃ (s : State) (via : Via) (k : Nat), (match via with | .reg r => s.dev.served && s.dev.privileged r | .dict n => decide (s.dev.sessionLevel n = .custodian)) = true ∧ k = s.dev.fw.inactive :=
  ⟨({ fwDev with mode := { fwDev.mode with quiesced := true } } : Dev).toState, .reg (.cp 1), 1, by decide +kernel⟩

theorem test_wit_FirmwareChange_4 : ∃ (s : State) (via : Via), (match via with | .reg r => s.dev.served && s.dev.privileged r | .dict n => decide (s.dev.sessionLevel n = .custodian)) = false :=
  ⟨fwDev.toState, .dict 0x205, by decide +kernel⟩

theorem test_wit_FirmwareChange_4a : ∃ (s : State) (via : Via), (match via with | .reg r => s.dev.served && s.dev.privileged r | .dict n => decide (s.dev.sessionLevel n = .custodian)) = false :=
  ⟨fwDev.toState, .reg .pf1, by decide +kernel⟩

theorem test_wit_FirmwareChange_5 : ∃ (s : State) (g : Nat), (s.dev.fw.change = g ∧ 0 < g ∧ s.dev.fw.changedGroups < 4 ∧ s.dev.own.lending = none ∧ s.dev.own.back = []) :=
  ⟨({ fwDev 1 with own := { slots := [(3, ⟨1, 5⟩)] } } : Dev).toState, 1, by decide +kernel⟩

theorem test_wit_FirmwareChange_5a : ∃ (s : State) (g : Nat), (s.dev.fw.change = g ∧ 0 < g ∧ s.dev.fw.changedGroups < 4 ∧ s.dev.own.lending = none ∧ s.dev.own.back = []) :=
  ⟨(fwDev 3).toState, 3, by decide +kernel⟩

theorem test_wit_FirmwareChange_5b : ∃ (s : State) (g : Nat), (s.dev.fw.change = g ∧ 0 < g ∧ s.dev.fw.changedGroups < 4 ∧ s.dev.own.lending = none ∧ s.dev.own.back = []) :=
  ⟨(fwDev 4).toState, 4, by decide +kernel⟩

theorem test_wit_FirmwareChange_6 : ∃ (s : State) (g : Nat), (s.dev.fw.change = g ∧ 0 < g ∧ s.dev.fw.changedGroups < 4) ∧ (s.dev.fw.groupAt + 2000000000 < s.dev.now ∨ s.dev.liveAllowed = false) :=
  ⟨({ fwDev 1 with own := { slots := [(3, ⟨1, 5⟩)], lending := some 0 } } : Dev).toState, 1, by decide +kernel⟩

theorem test_wit_FirmwareChange_6a : ∃ (s : State) (g : Nat), (s.dev.fw.change = g ∧ 0 < g ∧ s.dev.fw.changedGroups < 4) ∧ (s.dev.fw.groupAt + 2000000000 < s.dev.now ∨ s.dev.liveAllowed = false) :=
  ⟨((fwDev 3).setSeam 0 {}).toState, 3, by decide +kernel⟩

theorem test_wit_FirmwareChange_7 : ∃ (s : State) (x : FwImage) (k : Nat), (s.dev.fw.unconfirmed = true ∧ s.dev.fw.running = some x ∧ s.dev.fw.runSlot = k) ∧ (s.dev.modeNow = .service ∨ s.dev.modeNow = .contained) ∧ s.dev.fw.stableFrom + s.dev.fld .FW_CFG_CONFIRM_S * 1000000000 < s.dev.now :=
  ⟨newDev.toState, someImage 8, 1, by decide +kernel⟩

/-- Readings of 25 °C but for one sensor. -/
def temps (k : Nat) (t : Int) : List Int := (List.range 20).map (fun n => if n = k then t else 200)

/-- `volDev` with every reference clock. -/
def clockDev : Dev := { volDev with pkg := { clocks := [0, 1, 2, 3, 4, 5, 6] } }
theorem test_wit_TemperaturesAndClocks_1 : ∃ (s : State) (readings : List Int), (s.dev.mode.standby = true ∧ s.dev.now % 10000 = 0 ∧ readings.length = 20) :=
  ⟨volDev.toState, temps 14 920, by decide +kernel⟩

theorem test_wit_TemperaturesAndClocks_1a : ∃ (s : State) (readings : List Int), (s.dev.mode.standby = true ∧ s.dev.now % 10000 = 0 ∧ readings.length = 20) :=
  ⟨({ volDev with pkg := { warned := true } } : Dev).toState, temps 19 879, by decide +kernel⟩

theorem test_wit_TemperaturesAndClocks_1b : ∃ (s : State) (readings : List Int), (s.dev.mode.standby = true ∧ s.dev.now % 10000 = 0 ∧ readings.length = 20) :=
  ⟨({ volDev with pkg := { warned := true } } : Dev).toState, temps 3 880, by decide +kernel⟩

theorem test_wit_TemperaturesAndClocks_1c : ∃ (s : State) (readings : List Int), (s.dev.mode.standby = true ∧ s.dev.now % 10000 = 0 ∧ readings.length = 20) :=
  ⟨({ holdDev with time := 50000000 } : Dev).toState, temps 0 2000, by decide +kernel⟩

theorem test_wit_TemperaturesAndClocks_2 : ∃ (s : State) (readings : List Int), (s.dev.mode.standby = true ∧ s.dev.now % 10000 = 0 ∧ readings.length = 20) ∧ (s.dev.mode.diesUp = true ∧ s.dev.cust.alarms = 0) :=
  ⟨nvmeDev.toState, temps 17 881, by decide +kernel⟩

theorem test_wit_TemperaturesAndClocks_2a : ∃ (s : State) (readings : List Int), (s.dev.mode.standby = true ∧ s.dev.now % 10000 = 0 ∧ readings.length = 20) ∧ (s.dev.mode.diesUp = true ∧ s.dev.cust.alarms = 0) :=
  ⟨nvmeDev.toState, temps 3 1081, by decide +kernel⟩

theorem test_wit_TemperaturesAndClocks_2b : ∃ (s : State) (readings : List Int), (s.dev.mode.standby = true ∧ s.dev.now % 10000 = 0 ∧ readings.length = 20) ∧ (s.dev.mode.diesUp = true ∧ s.dev.cust.alarms = 0) :=
  ⟨nvmeDev.toState, temps 3 (-480), by decide +kernel⟩

theorem test_wit_TemperaturesAndClocks_3 : ∃ (s : State) (readings : List Int) (a b : Int), (s.dev.mode.standby = true ∧ s.dev.now % 10000 = 0 ∧ readings.length = 20 ∧ s.dev.mode.diesUp = false) ∧ (readings.getD 12 0 = a ∧ readings.getD 13 0 = b) :=
  ⟨({ holdDev with time := 50000000 } : Dev).toState, temps 0 2000, 200, 200, by decide +kernel⟩

theorem test_wit_TemperaturesAndClocks_3a : ∃ (s : State) (readings : List Int) (a b : Int), (s.dev.mode.standby = true ∧ s.dev.now % 10000 = 0 ∧ readings.length = 20 ∧ s.dev.mode.diesUp = false) ∧ (readings.getD 12 0 = a ∧ readings.getD 13 0 = b) :=
  ⟨({ holdDev with time := 50000000 } : Dev).toState, temps 13 1001, 200, 1001, by decide +kernel⟩

theorem test_wit_TemperaturesAndClocks_4 : ∃ (s : State) (req : Requester) (sensor : Fin 20) (n : Nat), (s.dev.served = true ∧ sensor.val = n ∧ s.dev.blockIsolated (Reg.addr .DIE_TEMP n) = false) :=
  ⟨({ volDev with pkg := { sensors := [(5, ⟨-8, some 77⟩)] } } : Dev).toState, .cp 2, 5, 5, by decide +kernel⟩

theorem test_wit_TemperaturesAndClocks_5 : ∃ (s : State) (clock : Fin 7) (c : Nat), (s.dev.mode.standby = true ∧ clock.val = c) :=
  ⟨((clockDev.setMac 3 { link := true }).setMac 40 { link := true }).toState, 1, 1, by decide +kernel⟩

theorem test_wit_TemperaturesAndClocks_5a : ∃ (s : State) (clock : Fin 7) (c : Nat), (s.dev.mode.standby = true ∧ clock.val = c) :=
  ⟨((clockDev.setMac 3 { link := true }).setMac 40 { link := true }).toState, 2, 2, by decide +kernel⟩

theorem test_wit_TemperaturesAndClocks_5b : ∃ (s : State) (clock : Fin 7) (c : Nat), (s.dev.mode.standby = true ∧ clock.val = c) :=
  ⟨(clockDev.setPtp { clockDev.net.ptp with state := .locked }).toState, 0, 0, by decide +kernel⟩

theorem test_wit_TemperaturesAndClocks_5c : ∃ (s : State) (clock : Fin 7) (c : Nat), (s.dev.mode.standby = true ∧ clock.val = c) :=
  ⟨(clockDev.setBond 1 { up := true }).toState, 3, 3, by decide +kernel⟩

theorem test_wit_TemperaturesAndClocks_5d : ∃ (s : State) (clock : Fin 7) (c : Nat), (s.dev.mode.standby = true ∧ clock.val = c) :=
  ⟨((clockDev.setPort 1 { up := true }).setPort 30 { up := true }).toState, 4, 4, by decide +kernel⟩

theorem test_wit_TemperaturesAndClocks_5e : ∃ (s : State) (clock : Fin 7) (c : Nat), (s.dev.mode.standby = true ∧ clock.val = c) :=
  ⟨((clockDev.setPort 1 { up := true }).setPort 30 { up := true }).toState, 5, 5, by decide +kernel⟩

theorem test_wit_TemperaturesAndClocks_5f : ∃ (s : State) (clock : Fin 7) (c : Nat), (s.dev.mode.standby = true ∧ clock.val = c) :=
  ⟨({ epDev with pkg := clockDev.pkg } : Dev).toState, 6, 6, by decide +kernel⟩

theorem test_wit_TemperaturesAndClocks_5g : ∃ (s : State) (clock : Fin 7) (c : Nat), (s.dev.mode.standby = true ∧ clock.val = c) :=
  ⟨volDev.toState, 4, 4, by decide +kernel⟩

end Sys2Proof.Machine
end

/-!
PROOF. Accesses to the control space: what an answered command is, the frame of a register write, and the settlement of O8.
-/
namespace Sys2Proof.Machine

/-- A command whose meaning runs `f` is answered by the state after `f`. -/
theorem Answers.of_run {c : Instr} {s : State} {P : State → Prop} {f : Dev → Dev} (h : exec c s = s.run f) (hp : P (s.after f)) :
    Answers c s P := ⟨s.after f, h, rfl, hp⟩

/-- What a command leaves depends on its effect at the quiet device alone. -/
theorem State.run_eq_of_quiet {s : State} {f : Dev → Dev} {d : Dev} (h : f s.dev.quiet = d) : s.run f = s.run (fun _ => d) := by
  simp only [State.run, State.after, h]

theorem State.runIf_eq_of_quiet {s : State} {c : Bool} {f : Dev → Dev} {d : Dev} (hc : c = true) (h : f s.dev.quiet = d) :
    s.runIf c f = s.run (fun _ => d) := by
  simp only [State.runIf, hc, if_true]
  exact State.run_eq_of_quiet h

/-- The frame of the device `d` that an effect leaves is the frame of the command. -/
theorem State.onlyChanged_of_quiet {s : State} {d : Dev} {ps : List DevPart} {xs : List Fld} {cs : List Ctr}
    (h : Dev.OnlyChanged ps xs cs s.dev.quiet d) (ha : d.arch = s.dev.arch) (ho : d.own = s.dev.own) :
    Dev.OnlyChanged ps xs cs s.dev (s.after (fun _ => d)).dev :=
  State.after_onlyChanged (Dev.OnlyChanged.quiet.trans h) ha ho

section Parameters

/-- Queueing parameters to be stored changes only the boot flash's part (14 R557). -/
theorem Dev.storeChanged_eq (s b : Dev) : ∃ l, s.storeChanged b = { s with fw := { s.fw with storing := l } } := by
  unfold Dev.storeChanged
  dsimp only
  split
  · exact ⟨s.fw.storing, rfl⟩
  · exact ⟨_, rfl⟩

@[simp] theorem Dev.storeChanged_fld (s b : Dev) (f : Fld) (i : Nat) : (s.storeChanged b).fld f i = s.fld f i := by
  obtain ⟨l, h⟩ := s.storeChanged_eq b
  rw [h]
  rfl

@[simp] theorem Dev.storeChanged_arch (s b : Dev) : (s.storeChanged b).arch = s.arch := by
  obtain ⟨l, h⟩ := s.storeChanged_eq b
  rw [h]

@[simp] theorem Dev.storeChanged_own (s b : Dev) : (s.storeChanged b).own = s.own := by
  obtain ⟨l, h⟩ := s.storeChanged_eq b
  rw [h]

/-- A write that changed no field has nothing to be stored. -/
@[simp] theorem Dev.storeChanged_self (s : Dev) : s.storeChanged s = s := by
  simp [Dev.storeChanged, paramsChanged]

theorem Dev.OnlyChanged.storeChanged {ps : List DevPart} {xs : List Fld} {cs : List Ctr} (s b : Dev) (h : .fw ∈ ps) :
    Dev.OnlyChanged ps xs cs s (s.storeChanged b) := by
  obtain ⟨l, hl⟩ := s.storeChanged_eq b
  rw [hl]
  refine .ofParts (fun p hp => ?_) rfl rfl
  cases p with
  | fw => exact absurd h hp
  | _ => rfl

end Parameters

section RegisterWrites

/-- The registers of O8 as the tables give them. -/
def glbIdReg : RegInfo := ⟨.GLB_ID, 0, [], false, .none, [⟨.GLB_ID_PART, 16, 16, 1, 0⟩, ⟨.GLB_ID_VENDOR, 0, 16, 1, 0⟩]⟩
def glbErrReg : RegInfo := ⟨.GLB_ERR, 0x20, [], false, .none,
  [⟨.GLB_ERR_CS_MISALIGNED, 2, 1, 1, 0⟩, ⟨.GLB_ERR_CS_ISOLATED, 1, 1, 1, 0⟩, ⟨.GLB_ERR_CS_UNMAPPED, 0, 1, 1, 0⟩]⟩
def feCfgReg : RegInfo := ⟨.FE_CFG, 0x800000, [], false, .none, [⟨.FE_CFG_CMD_TO, 16, 16, 1, 0⟩]⟩

theorem regAt_glbId : regAt 0 = some (glbIdReg, 0) := by decide +kernel
theorem regAt_glbErr : regAt 0x20 = some (glbErrReg, 0) := by decide +kernel
theorem regAt_feCfg : regAt 0x800000 = some (feCfgReg, 0) := by decide +kernel

/-- A register that is neither banked nor a MAC's nor a root port's, that no requester is denied and whose fields alone a write changes. -/
structure RegInfo.Plain (x : RegInfo) (a : Nat) : Prop where
  found : regAt a = some (x, 0)
  below : a < 0x3800000
  noCommand : ∀ w, ownCommand x.reg w = false
  notCustody : x.reg ∉ custodyRegs
  notChannel : x.reg ≠ .CH_QUANTUM
  bank : x.bank = .none
  there : ∀ s : Dev, s.regThere x 0 = true
  store : ∀ (s : Dev) n w, s.storeReg x n a w = s.storeFields x n w

theorem RegInfo.plain_glbId : glbIdReg.Plain 0 :=
  ⟨regAt_glbId, by decide, fun _ => rfl, by decide, by decide, rfl, fun _ => rfl, fun _ _ _ => rfl⟩
theorem RegInfo.plain_glbErr : glbErrReg.Plain 0x20 :=
  ⟨regAt_glbErr, by decide, fun _ => rfl, by decide, by decide, rfl, fun _ => rfl, fun _ _ _ => rfl⟩
theorem RegInfo.plain_feCfg : feCfgReg.Plain 0x800000 :=
  ⟨regAt_feCfg, by decide, fun _ => rfl, by decide, by decide, rfl, fun _ => rfl, fun _ _ _ => rfl⟩

theorem RegInfo.Plain.notDenied {x : RegInfo} {a : Nat} (h : x.Plain a) (s : Dev) (req : Requester) (i : Nat) : s.writeDenied req x i a = none := by
  have hb : inCounterBlock a = false := by
    have := h.below
    simp only [inCounterBlock, Bool.and_eq_false_iff, decide_eq_false_iff_not]
    omega
  simp [Dev.writeDenied, h.notCustody, h.notChannel, hb]

theorem Dev.regWrite_served {s : Dev} {a : Nat} (f : Dev → Dev) (hs : s.served = true) (hi : s.blockIsolated a = false) :
    s.regWrite a f = (f s).storeChanged s := by simp [Dev.regWrite, hs, hi]

theorem Dev.regWrite_isolated {s : Dev} {a : Nat} (f : Dev → Dev) (hs : s.served = true) (hi : s.blockIsolated a = true) :
    s.regWrite a f = s.csError .isolated a := by simp [Dev.regWrite, hs, hi]

/-- A write to such a register stores its fields by their access codes (00 R5). -/
theorem RegInfo.Plain.exec_write {x : RegInfo} {a : BitVec 32} (h : x.Plain a.toNat) (req : Requester) (v : Word) (s : State) :
    exec (.registerWrite req a v) s = s.run (fun d => d.regWrite a.toNat (fun d => (d.storeFields x (x.inst 0 0) v).1)) := by
  have hm : ¬ (msixTable ≤ a.toNat ∧ a.toNat < msixTable + msixTableBytes ∧ a.toNat % 4 = 0) := by
    have := h.below
    unfold msixTable
    omega
  show execRegisterWrite req a v s = _
  simp only [execRegisterWrite, if_neg hm, h.found, h.noCommand, Bool.false_eq_true, if_false, h.notDenied, h.bank, Dev.bankEntry, h.there,
    if_true, h.store]

/-- Where the register's block is not isolated, the device left is the quiet one with the fields stored. -/
theorem RegInfo.Plain.exec_write_stored {x : RegInfo} {a : BitVec 32} (h : x.Plain a.toNat) (req : Requester) (v : Word) {s : State}
    (hs : s.dev.served = true) (hi : s.dev.blockIsolated a.toNat = false) {d : Dev} (hd : (s.dev.quiet.storeFields x (x.inst 0 0) v).1 = d) :
    exec (.registerWrite req a v) s = s.run (fun _ => d.storeChanged s.dev.quiet) := by
  rw [h.exec_write]
  refine State.run_eq_of_quiet ?_
  rw [Dev.regWrite_served (s := s.dev.quiet) _ hs hi, hd]

theorem Dev.storeFields_glbId (s : Dev) (v : Word) : (s.storeFields glbIdReg 0 v).1 = s := rfl

theorem Dev.storeFields_feCfg (s : Dev) (v : Word) :
    (s.storeFields feCfgReg 0 v).1 = s.setFld .FE_CFG_CMD_TO 0 (if bitsOf v 31 16 = 0 then 1000 else bitsOf v 31 16) := rfl

/-- A field cleared where a 1 is written (00 R5, W1C). -/
def Dev.clearedBy (s : Dev) (f : Fld) (one : Bool) : Dev := if one then s.setFld f 0 0 else s

theorem Dev.clearedBy_fld_self (s : Dev) (f : Fld) (one : Bool) : (s.clearedBy f one).fld f = if one then 0 else s.fld f := by
  cases one
  · rfl
  · exact (Dev.fld_setFld_self s f 0 0).trans (Nat.zero_mod _)

theorem Dev.clearedBy_fld_other (s : Dev) {f g : Fld} (one : Bool) (h : g ≠ f) : (s.clearedBy f one).fld g = s.fld g := by
  cases one
  · rfl
  · exact Dev.fld_setFld_other s 0 (.inl h)

@[simp] theorem Dev.clearedBy_arch (s : Dev) (f : Fld) (one : Bool) : (s.clearedBy f one).arch = s.arch := by cases one <;> rfl
@[simp] theorem Dev.clearedBy_own (s : Dev) (f : Fld) (one : Bool) : (s.clearedBy f one).own = s.own := by cases one <;> rfl

theorem Dev.OnlyChanged.clearedBy {ps : List DevPart} {xs : List Fld} {cs : List Ctr} (s : Dev) {f : Fld} (one : Bool) (h : f ∈ xs) :
    Dev.OnlyChanged ps xs cs s (s.clearedBy f one) := by
  cases one
  · exact .refl s
  · exact .setFld f 0 0 h

/-- A single bit of a word, read as a field of width 1. -/
theorem bitsOf_single_eq_zero (v : Word) (b : Nat) : bitsOf v b b = 0 ↔ v.getLsbD b = false := by
  simp only [bitsOf, Nat.sub_self, BitVec.getLsbD, Nat.testBit, Nat.and_comm 1, Nat.and_one_is_mod]
  simp

/-- What a written word makes of the one-bit field `f` at bit `b` whose access code is W1C (00 R5). -/
def w1cStep (v : Word) (a : Dev × Nat) (f : Fld) (b : Nat) : Dev × Nat := if bitsOf v b b = 0 then a else (a.1.setFld f 0 0, a.2)

theorem w1cStep_eq (v : Word) (a : Dev × Nat) (f : Fld) (b : Nat) : w1cStep v a f b = (a.1.clearedBy f (v.getLsbD b), a.2) := by
  simp only [w1cStep, bitsOf_single_eq_zero]
  cases v.getLsbD b <;> rfl

theorem Dev.storeFields_glbErr (s : Dev) (v : Word) :
    (s.storeFields glbErrReg 0 v).1 =
      ((s.clearedBy .GLB_ERR_CS_MISALIGNED (v.getLsbD 2)).clearedBy .GLB_ERR_CS_ISOLATED (v.getLsbD 1)).clearedBy .GLB_ERR_CS_UNMAPPED (v.getLsbD 0) := by
  have h : s.storeFields glbErrReg 0 v =
    w1cStep v (w1cStep v (w1cStep v (s, abortOk) .GLB_ERR_CS_MISALIGNED 2) .GLB_ERR_CS_ISOLATED 1) .GLB_ERR_CS_UNMAPPED 0 := rfl
  simp only [h, w1cStep_eq]

end RegisterWrites

section LatchedPairs

/-- A read that an access answers in a block that is served and not isolated. -/
theorem Dev.regRead_served {s : Dev} {a : Nat} (req : Requester) (f : Dev → Nat × Dev) (hs : s.served = true) (hi : s.blockIsolated a = false) :
    s.regRead req a f = (f s).2.answer req (f s).1 := by simp [Dev.regRead, hs, hi]

def tbLoReg : RegInfo := ⟨.TB_LO, 0x10, [], false, .none, [⟨.TB_LO_TIME_LO, 0, 32, 1, 0⟩]⟩
def tbHiReg : RegInfo := ⟨.TB_HI, 0x14, [], false, .none, [⟨.TB_HI_TIME_HI, 0, 32, 1, 0⟩]⟩

theorem regAt_tbLo : regAt 0x10 = some (tbLoReg, 0) := by decide +kernel
theorem regAt_tbHi : regAt 0x14 = some (tbHiReg, 0) := by decide +kernel

theorem Dev.regWord_tbLo (s : Dev) : s.regWord tbLoReg 0 = s.time.toNat % 2 ^ 32 := by
  show (s.now % 2 ^ 32 % 2 ^ 32) * 2 ^ 0 + 0 = _
  simp [Dev.now]

theorem Dev.regWord_tbHi (s : Dev) : s.regWord tbHiReg 0 = s.time.toNat / 2 ^ 32 := by
  show (s.now / 2 ^ 32 % 2 ^ 32) * 2 ^ 0 + 0 = _
  have := s.time.isLt
  simp only [Dev.now]
  omega

/-- TB_LO and TB_HI are one latched pair (01 R50). -/
theorem Dev.pairAt_of_tb (s : Dev) {a : Nat} {x : RegInfo} (hc : ctrAt a = none) (hr : regAt a = some (x, 0)) (hx : x = tbLoReg ∨ x = tbHiReg) :
    s.pairAt a = some ⟨s.time.toNat % 2 ^ 32, s.time.toNat / 2 ^ 32, 0x14, Reg.TB_HI == x.reg⟩ := by
  have hp : latchedPairs.find? (fun p => p.1 == x.reg || p.2 == x.reg) = some (.TB_LO, .TB_HI) := by
    rcases hx with rfl | rfl <;> rfl
  have hl : Reg.entry .TB_LO = some tbLoReg := by decide +kernel
  have hh : Reg.entry .TB_HI = some tbHiReg := by decide +kernel
  simp only [Dev.pairAt, hc, hr, hp, hl, hh, Dev.regWord_tbLo, Dev.regWord_tbHi]
  rfl

/-- A read of a register of a pair outside the counter block, as the pair answers it. -/
theorem exec_lowWordRead {s : State} (req : Requester) {a : BitVec 32} {p : PairRead} {v : Nat} {d : Dev} (hs : s.dev.served = true)
    (hi : s.dev.blockIsolated a.toNat = false) (ha : a.toNat < 0x3800000) (hp : s.dev.quiet.pairAt a.toNat = some p)
    (hr : s.dev.quiet.pairRead req p = (v, d)) : exec (.lowWordRead req a) s = s.run (fun _ => d.answer req v) := by
  have hc : ¬ (0x3800000 ≤ a.toNat ∧ a.toNat < 0x3C00000 ∧ (!s.dev.quiet.privileged req) = true) := by omega
  refine State.run_eq_of_quiet (f := fun d => _) ?_
  simp only [hp]
  rw [Dev.regRead_served (s := s.dev.quiet) _ _ hs hi, if_neg hc, hr]

end LatchedPairs

section Settled

variable (s : State) (req : Requester) (v : Word)

theorem feCfg_write (hs : s.dev.served = true) (hi : s.dev.isolated 14 = false) : Answers (.registerWrite req 0x800000#32 v) s (fun t =>
    t.dev.fld .FE_CFG_CMD_TO = (if v.toNat / 65536 = 0 then 1000 else v.toNat / 65536) ∧ Dev.OnlyChanged [.fw] [.FE_CFG_CMD_TO] [] s.dev t.dev) := by
  refine .of_run (RegInfo.plain_feCfg.exec_write_stored (a := 0x800000#32) req v hs hi (Dev.storeFields_feCfg _ v)) ⟨?_, ?_⟩
  · have hv : bitsOf v 31 16 = v.toNat / 65536 := by
      have := v.isLt
      simp only [bitsOf, Nat.shiftRight_eq_div_pow]
      omega
    have hw : (if v.toNat / 65536 = 0 then 1000 else v.toNat / 65536) < 2 ^ 16 := by
      have := v.isLt
      split <;> omega
    rw [State.after_fld, Dev.storeChanged_fld, Dev.fld_setFld_self, hv]
    exact Nat.mod_eq_of_lt hw
  · exact State.onlyChanged_of_quiet ((Dev.OnlyChanged.setFld _ _ _ (by simp)).trans (.storeChanged _ _ (by simp))) (by simp) (by simp)

theorem feCfg_write_isolated (hs : s.dev.served = true) (hi : s.dev.isolated 14 = true) : Answers (.registerWrite req 0x800000#32 v) s (fun t =>
    t.dev.fld .FE_CFG_CMD_TO = s.dev.fld .FE_CFG_CMD_TO ∧ t.dev.flag .GLB_ERR_CS_ISOLATED = true ∧
    Dev.OnlyChanged [] [.GLB_ERR_CS_ISOLATED] [] s.dev t.dev) := by
  have hx : exec (.registerWrite req 0x800000#32 v) s = s.run (fun _ => s.dev.quiet.csError .isolated 0x800000) :=
    (RegInfo.plain_feCfg.exec_write req v s).trans (State.run_eq_of_quiet (Dev.regWrite_isolated _ hs hi))
  have hf : Dev.OnlyChanged [] [.GLB_ERR_CS_ISOLATED] [] s.dev (s.after (fun _ => s.dev.quiet.csError .isolated 0x800000)).dev :=
    State.onlyChanged_of_quiet ((Dev.OnlyChanged.setFld _ _ _ (by simp)).trans (.event _ _ _ _)) rfl rfl
  refine .of_run hx ⟨hf.flds _ (by decide) 0, ?_, hf⟩
  have h1 : (s.dev.quiet.setFld .GLB_ERR_CS_ISOLATED 0 1).fld .GLB_ERR_CS_ISOLATED = 1 := Dev.fld_setFld_self _ _ _ _
  rw [State.after_flag]
  exact bne_iff_ne.mpr (h1.trans_ne one_ne_zero)

theorem glbErr_write (hs : s.dev.served = true) : Answers (.registerWrite req 0x20#32 v) s (fun t =>
    t.dev.fld .GLB_ERR_CS_UNMAPPED = (if v.getLsbD 0 then 0 else s.dev.fld .GLB_ERR_CS_UNMAPPED) ∧
    t.dev.fld .GLB_ERR_CS_ISOLATED = (if v.getLsbD 1 then 0 else s.dev.fld .GLB_ERR_CS_ISOLATED) ∧
    t.dev.fld .GLB_ERR_CS_MISALIGNED = (if v.getLsbD 2 then 0 else s.dev.fld .GLB_ERR_CS_MISALIGNED) ∧
    Dev.OnlyChanged [.fw] [.GLB_ERR_CS_UNMAPPED, .GLB_ERR_CS_ISOLATED, .GLB_ERR_CS_MISALIGNED] [] s.dev t.dev) := by
  refine .of_run (RegInfo.plain_glbErr.exec_write_stored req v hs rfl (Dev.storeFields_glbErr _ v)) ⟨?_, ?_, ?_, ?_⟩
  · rw [State.after_fld, Dev.storeChanged_fld, Dev.clearedBy_fld_self, Dev.clearedBy_fld_other _ _ (by decide),
      Dev.clearedBy_fld_other _ _ (by decide)]
    rfl
  · rw [State.after_fld, Dev.storeChanged_fld, Dev.clearedBy_fld_other _ _ (by decide), Dev.clearedBy_fld_self,
      Dev.clearedBy_fld_other _ _ (by decide)]
    rfl
  · rw [State.after_fld, Dev.storeChanged_fld, Dev.clearedBy_fld_other _ _ (by decide), Dev.clearedBy_fld_other _ _ (by decide),
      Dev.clearedBy_fld_self]
    rfl
  · refine State.onlyChanged_of_quiet ?_ (by simp) (by simp)
    exact (((Dev.OnlyChanged.clearedBy _ _ (by simp)).trans (.clearedBy _ _ (by simp))).trans (.clearedBy _ _ (by simp))).trans
      (.storeChanged _ _ (by simp))

theorem glbId_write (hs : s.dev.served = true) :
    Answers (.registerWrite req 0x0#32 v) s (fun t => Dev.OnlyChanged [] [] [] s.dev t.dev) := by
  refine .of_run (RegInfo.plain_glbId.exec_write_stored req v hs rfl (Dev.storeFields_glbId _ v)) ?_
  rw [Dev.storeChanged_self]
  exact State.onlyChanged_of_quiet (.refl _) rfl rfl

theorem tbLo_read (hs : s.dev.served = true) : Answers (.lowWordRead req 0x10#32) s (fun t =>
    Out.value req (BitVec.ofNat 32 s.dev.time.toNat) ∈ t.dev.out ∧
    t.dev.latches.find (latchKey (requesterKey req + 1) 0x14) = some (some (s.dev.time.toNat / 2 ^ 32)) ∧
    Dev.OnlyChanged [.latches] [] [] s.dev t.dev) := by
  have hp := s.dev.quiet.pairAt_of_tb (a := 0x10) (by decide +kernel) regAt_tbLo (.inl rfl)
  have hx := exec_lowWordRead (a := 0x10#32) req hs rfl (by decide) hp rfl
  refine .of_run hx ⟨State.after_mem_out _ _ ?_, ?_, ?_⟩
  · have hw : BitVec.ofNat 32 s.dev.time.toNat = BitVec.ofNat 32 (s.dev.time.toNat % 2 ^ 32) := by
      rw [← BitVec.toNat_inj]
      simp only [BitVec.toNat_ofNat, Nat.mod_mod]
    rw [hw]
    exact List.mem_singleton.mpr rfl
  · rw [State.after_latches]
    exact Table.find_insert_self _ _ _
  · refine State.onlyChanged_of_quiet (.ofParts (fun p hp => ?_) rfl rfl) rfl rfl
    cases p with
    | latches => exact absurd (by simp) hp
    | _ => rfl

theorem tbHi_read {hi : Nat} (hs : s.dev.served = true) (hl : s.dev.latches.find (latchKey (requesterKey req + 1) 0x14) = some (some hi)) :
    Answers (.lowWordRead req 0x14#32) s (fun t => Out.value req (BitVec.ofNat 32 hi) ∈ t.dev.out ∧ Dev.OnlyChanged [] [] [] s.dev t.dev) := by
  have hp := s.dev.quiet.pairAt_of_tb (a := 0x14) (by decide +kernel) regAt_tbHi (.inr rfl)
  have hr : s.dev.quiet.pairRead req ⟨s.dev.time.toNat % 2 ^ 32, s.dev.time.toNat / 2 ^ 32, 0x14, true⟩ = (hi, s.dev.quiet) := by
    simp only [Dev.pairRead, if_true, Dev.quiet_latches, hl, Option.getD_some]
  exact .of_run (exec_lowWordRead (a := 0x14#32) req hs rfl (by decide) hp hr)
    ⟨State.after_mem_out _ _ (List.mem_singleton.mpr rfl), State.onlyChanged_of_quiet (.emit _) rfl rfl⟩

end Settled

/-- Settles O8: each access leaves the quiet device with the fields stored, the error latched or the pair answered, and settling adds nothing. -/
theorem registerAccess : Obligations.RegisterAccess :=
  ⟨feCfg_write, feCfg_write_isolated, glbErr_write, glbId_write, tbLo_read, fun s req _ => tbHi_read s req⟩

end Sys2Proof.Machine
/-!
PROOF. What a command at work elsewhere leaves as it was: device time, the package, the shelf and the endpoint, with the events only added to.
-/
namespace Sys2Proof.Machine

/-- A fold of steps that each stay within a reflexive and transitive relation stays within it. -/
theorem foldl_within {σ α : Type} {R : σ → σ → Prop} (hr : ∀ s, R s s) (ht : ∀ {a b c}, R a b → R b c → R a c) {f : σ → α → σ}
    (h : ∀ s x, R s (f s x)) (l : List α) : ∀ s, R s (l.foldl f s) := by
  induction l with
  | nil => exact hr
  | cons x l ih => exact fun s => ht (h s x) (ih _)

/-- The parts of the device that work on members, records, commands and channels leaves as they were. -/
def Dev.keel (s : Dev) : BitVec 64 × Bool × Package × Shelf × Endpoint := (s.time, s.timeLoaded, s.pkg, s.shelf, s.ep)

/-- From `a` to `b` the keel stayed and events were only added. -/
structure Dev.Beside (a b : Dev) : Prop where
  keel : b.keel = a.keel
  raised : a.raised <+: b.raised

namespace Dev.Beside

variable {a b c : Dev}

theorem same (hk : b.keel = a.keel) (hr : b.raised = a.raised) : Dev.Beside a b := ⟨hk, hr ▸ List.prefix_rfl⟩

theorem refl (a : Dev) : Dev.Beside a a := same rfl rfl

theorem trans (h : Dev.Beside a b) (k : Dev.Beside b c) : Dev.Beside a c := ⟨k.keel.trans h.keel, h.raised.trans k.raised⟩

theorem time (h : Dev.Beside a b) : b.time = a.time := congrArg (·.1) h.keel
theorem timeLoaded (h : Dev.Beside a b) : b.timeLoaded = a.timeLoaded := congrArg (·.2.1) h.keel
theorem pkg (h : Dev.Beside a b) : b.pkg = a.pkg := congrArg (·.2.2.1) h.keel
theorem shelf (h : Dev.Beside a b) : b.shelf = a.shelf := congrArg (·.2.2.2.1) h.keel
theorem ep (h : Dev.Beside a b) : b.ep = a.ep := congrArg (·.2.2.2.2) h.keel

/-- Settling and what stays within it. -/
theorem of_kept (h : Dev.Kept a b) : Dev.Beside a b :=
  ⟨Prod.ext h.same.time (Prod.ext h.same.timeLoaded (Prod.ext h.same.pkg (Prod.ext h.same.shelf h.same.ep))), h.raised⟩

theorem event (s : Dev) (d : Die) (id : Nat) (x : List Byte) (k : Nat) : Dev.Beside s (s.event d id x k) := ⟨rfl, List.prefix_append _ _⟩

theorem eventIf (s : Dev) (b : Bool) (d : Die) (id : Nat) (x : List Byte) (k : Nat) : Dev.Beside s (s.eventIf b d id x k) := by
  cases b
  · exact refl s
  · exact event s d id x k

theorem eventOpenCause (s : Dev) (d : Die) (id : Nat) (x : List Byte) : Dev.Beside s (s.eventOpenCause d id x) :=
  ⟨rfl, List.prefix_append _ _⟩

theorem count (s : Dev) (e : Ctr) (i n : Nat) : Dev.Beside s (s.count e i n) := same rfl rfl

theorem emit (s : Dev) (o : Out) : Dev.Beside s (s.emit o) := same rfl rfl

theorem foldl {α : Type} {f : Dev → α → Dev} (h : ∀ s x, Dev.Beside s (f s x)) (l : List α) : ∀ s, Dev.Beside s (l.foldl f s) :=
  foldl_within refl trans h l

/-- A step whose two sides both stay beside the keel. -/
theorem ite {p : Prop} [Decidable p] (hb : p → Dev.Beside a b) (hc : ¬p → Dev.Beside a c) : Dev.Beside a (if p then b else c) := by
  split
  · exact hb ‹_›
  · exact hc ‹_›

/-- The ways of metering stay beside the keel. -/
theorem closed : Dev.Closed Dev.Beside where
  refl := refl
  trans := trans
  count s c i n _ := count s c i n
  event := event
  emit := emit
  setMeter _ _ := same rfl rfl
  setCan _ _ := same rfl rfl

end Dev.Beside

section Members

variable (s : Dev)

theorem Dev.beside_setVol (v : Nat) (x : Volume) : Dev.Beside s (s.setVol v x) := .same rfl rfl
theorem Dev.beside_setPier (p : Nat) (x : PierStore) : Dev.Beside s (s.setPier p x) := .same rfl rfl
theorem Dev.beside_setMember (v m : Nat) (st : MState) : Dev.Beside s (s.setMember v m st) := .same rfl rfl
theorem Dev.beside_setRec (p : Nat) (r : IRec) : Dev.Beside s (s.setRec p r) := .same rfl rfl
theorem Dev.beside_setCmd (c : Cmd) : Dev.Beside s (s.setCmd c) := .same rfl rfl
theorem Dev.beside_setCtrl (k : Nat) (c : Ctrl) : Dev.Beside s (s.setCtrl k c) := .same rfl rfl

theorem Dev.beside_memberCmd (c : MCmd) : Dev.Beside s (s.memberCmd c) := by
  unfold Dev.memberCmd
  extract_lets p epoch c store s₁ s₂
  have h : Dev.Beside s s₂ := .same rfl rfl
  clear_value s₂
  split
  · exact h.trans (.trans (.count _ _ _ _) (.emit _ _))
  · exact h.trans (.emit _ _)
  · exact h.trans (.emit _ _)
  · exact h.trans (.emit _ _)
  · exact h.trans (.ite (fun _ => .emit _ _) (fun _ => .emit _ _))

theorem Dev.beside_reservedWrite (v unit : Nat) (l : List Nat) : Dev.Beside s (s.reservedWrite v unit l) :=
  .foldl (fun s _ => s.beside_memberCmd _) l s

theorem Dev.beside_stampAll (v : Nat) : Dev.Beside s (s.stampAll v) := .foldl (fun s _ => s.beside_memberCmd _) _ s

theorem Dev.beside_checkpoint (v : Nat) : Dev.Beside s (s.checkpoint v) := .same rfl rfl

theorem Dev.beside_genAdvance (v : Nat) : Dev.Beside s (s.genAdvance v) :=
  ((s.beside_setVol v _).trans (Dev.beside_stampAll _ v)).trans (Dev.beside_checkpoint _ v)

theorem Dev.beside_volState (v : Nat) (st : VState) : Dev.Beside s (s.volState v st) := by
  unfold Dev.volState
  exact .ite (fun _ => .refl s) (fun _ => ((s.beside_setVol v _).trans (.event _ _ _ _ _)).trans (.eventIf _ _ _ _ _ _))

theorem Dev.beside_settleVol (v : Nat) : Dev.Beside s (s.settleVol v) := by
  unfold Dev.settleVol
  extract_lets x st s₁ src s₂ hadHosts s₃
  have h₂ : Dev.Beside s s₂ := (s.beside_volState v st).trans (.ite (fun _ => Dev.beside_setVol _ _ _) (fun _ => .refl _))
  have h₃ : Dev.Beside s s₃ := h₂.trans (.ite (fun _ => Dev.beside_reservedWrite _ _ _ _) (fun _ => .refl _))
  exact .ite (fun _ => h₃.trans (.eventIf _ _ _ _ _ _)) (fun _ => .refl s)

theorem Dev.beside_recordWrite (p : Nat) (r : IRec) (y : Row) (x : Nat) (b : Block) : Dev.Beside s (s.recordWrite p r y x b) := by
  unfold Dev.recordWrite
  exact s.beside_memberCmd _

theorem Dev.beside_rowAdvance (p : Nat) (r : IRec) (n : Nat) : ∀ (s : Dev) (y : Row), Dev.Beside s (s.rowAdvance p r y n).1 := by
  induction n with
  | zero => exact fun s _ => .refl s
  | succ n ih =>
    intro s y
    unfold Dev.rowAdvance
    dsimp only
    split
    · exact ih s _
    · split
      · split
        · exact s.beside_recordWrite _ _ _ _ _
        · exact ih s _
      · split
        · exact ih s _
        · split <;> exact .refl s

theorem Dev.beside_rowWritten (p seq : Nat) (ng : Bool) (k o x : Nat) : Dev.Beside s (s.rowWritten p seq ng k o x) := by
  unfold Dev.rowWritten
  split
  · exact .refl s
  · split
    · exact .refl s
    · exact (Dev.beside_rowAdvance _ _ _ _ _).trans (Dev.beside_setRec _ _ _)

theorem Dev.beside_copyAgain (p seq : Nat) : Dev.Beside s (s.copyAgain p seq) := by
  unfold Dev.copyAgain
  split
  · exact .ite (fun _ => .refl s) (fun _ => s.beside_setRec _ _)
  · exact .refl s

theorem Dev.beside_useLost (u : MUse) : Dev.Beside s (s.useLost u) := by
  unfold Dev.useLost
  split
  · exact s.beside_rowWritten _ _ _ _ _ _
  · exact .same rfl rfl
  · exact s.beside_copyAgain _ _
  · exact .refl s

theorem Dev.beside_dropMemberCmds (k : Nat) : Dev.Beside s (s.dropMemberCmds k) := by
  unfold Dev.dropMemberCmds
  extract_lets gone held store s₁
  have h : Dev.Beside s s₁ := .same rfl rfl
  exact h.trans (.foldl (fun s u => s.beside_useLost u) _ _)

theorem Dev.beside_fillPlace (p : Nat) : Dev.Beside s (s.fillPlace p) := by
  unfold Dev.fillPlace
  refine .ite (fun _ => .refl s) (fun _ => ?_)
  dsimp only
  split
  · exact s.beside_setVol _ _
  · exact s.beside_setVol _ _
  · exact s.beside_setVol _ _
  · exact .refl s

theorem Dev.beside_fillPlaces (p : Nat) : Dev.Beside s (s.fillPlaces p) := .foldl (fun s _ => s.beside_fillPlace p) _ s

theorem Dev.beside_secondaryMoved (l : List (Nat × List Nat)) : Dev.Beside s (s.secondaryMoved l) := by
  refine .foldl (fun s e => ?_) l s
  dsimp only
  split
  · exact .trans (.foldl (fun s p => s.beside_setPier p _) _ _) (.event _ _ _ _ _)
  · exact .refl s

theorem Dev.beside_memberLeaves (v m : Nat) (st : MState) : Dev.Beside s (s.memberLeaves v m st) := by
  unfold Dev.memberLeaves
  extract_lets e die wasOnline oldHosts seconds s₁ s₂ s₃ x absent added dropped pass s₄ s₅ s₆ newHosts s₇ s₈ s₉
  have h₂ : Dev.Beside s s₂ := (s.beside_setMember v m st).trans (.ite (fun _ => .event _ _ _ _ _) (fun _ => .eventOpenCause _ _ _ _))
  have h₃ : Dev.Beside s s₃ := h₂.trans (Dev.beside_dropMemberCmds _ _)
  have h₄ : Dev.Beside s s₄ := (h₃.trans (Dev.beside_setVol _ _ _)).trans (.count _ _ _ _)
  have h₅ : Dev.Beside s s₅ := (h₄.trans (.eventIf _ _ _ _ _ _)).trans (Dev.beside_fillPlaces _ _)
  have h₆ : Dev.Beside s s₆ := h₅.trans (.eventIf _ _ _ _ _ _)
  have h₇ : Dev.Beside s s₇ := by
    refine h₆.trans ?_
    dsimp only [s₇]
    split
    · exact .ite (fun _ => .event _ _ _ _ _) (fun _ => .refl _)
    · exact .refl _
  have h₈ : Dev.Beside s s₈ :=
    h₇.trans (.ite (fun _ => (Dev.beside_reservedWrite _ _ _ _).trans (Dev.beside_reservedWrite _ _ _ _)) (fun _ => .refl _))
  have h₉ : Dev.Beside s s₉ := (h₈.trans (Dev.beside_secondaryMoved _ _)).trans (Dev.beside_settleVol _ _)
  exact .ite (fun _ => h₉.trans (Dev.beside_genAdvance _ _)) (fun _ => h₉)

theorem Dev.beside_appendRec (p : Nat) (r : IRec) : Dev.Beside s (s.appendRec p r) := by
  unfold Dev.appendRec
  extract_lets pad x n pads off seq r ldg s₁ s₂
  have h : Dev.Beside s s₂ := .same rfl rfl
  clear_value s₂
  exact h.trans (.same rfl rfl)

theorem Dev.beside_stageRows (p : Nat) (r : IRec) : Dev.Beside s (s.stageRows p r) := by
  refine .foldl (fun s y => ?_) _ s
  extract_lets ref d blocks
  refine .foldl (fun s b => ?_) _ s
  exact .same rfl rfl

theorem Dev.beside_listBlocks (v : Nat) (l : List Nat) : Dev.Beside s (s.listBlocks v l) := by
  unfold Dev.listBlocks
  extract_lets x fresh bad full p s₁ s₂
  have h : Dev.Beside s s₂ := ((s.beside_setVol v _).trans (.count _ _ _ _)).trans (Dev.beside_reservedWrite _ _ _ _)
  exact .ite (fun _ => h.trans (.trans (.event _ _ _ _ _) (Dev.beside_settleVol _ _))) (fun _ => h)

theorem Dev.beside_closeRow (v : Nat) (hand : List InHand) (r : RowRef) : Dev.Beside s (s.closeRow v hand r) := by
  unfold Dev.closeRow
  extract_lets d p lost ds row rec' s₁ s₂ s₃ first
  have h₂ : Dev.Beside s s₂ := by
    refine (s.beside_appendRec p rec').trans ?_
    dsimp only [s₂]
    split
    · exact (Dev.beside_stageRows _ _ _).trans (.count _ _ _ _)
    · exact .refl _
  exact (h₂.trans (Dev.beside_listBlocks _ _ _)).trans (.event _ _ _ _ _)

theorem Dev.beside_countXts (n : Nat) : Dev.Beside s (s.countXts n) := .ite (fun _ => .refl s) (fun _ => .count _ _ _ _)

theorem Dev.beside_repairBad (c : Cmd) : Dev.Beside s (s.repairBad c) := by
  refine .foldl (fun s b => ?_) _ s
  dsimp only
  split
  · exact .ite (fun _ => ((s.beside_countXts _).trans (.count _ _ _ _)).trans (Dev.beside_memberCmd _ _)) (fun _ => .refl s)
  · exact .refl s

theorem Dev.beside_gatherTurn (c : Cmd) : Dev.Beside s (s.gatherTurn c) := by
  unfold Dev.gatherTurn
  extract_lets rows full plans broken closable fetch s₁ c₁ recon s₂ s₃
  have h₁ : Dev.Beside s s₁ := .foldl (fun s _ => s.beside_closeRow _ _ _) _ s
  refine .ite (fun _ => .ite (fun _ => ?_) (fun _ => h₁)) (fun _ => ?_)
  · exact ((h₁.trans (Dev.beside_repairBad _ _)).trans (Dev.beside_setCmd _ _)).trans (.count _ _ _ _)
  · exact (h₁.trans (Dev.beside_setCmd _ _)).trans (.foldl (fun s _ => s.beside_memberCmd _) _ _)

theorem Dev.beside_gatherN (id n : Nat) : ∀ s : Dev, Dev.Beside s (s.gatherN id n) := by
  induction n with
  | zero => exact .refl
  | succ n ih =>
    intro s
    unfold Dev.gatherN
    split
    · exact .ite (fun _ => .refl s) (fun _ => (s.beside_gatherTurn _).trans (ih _))
    · exact .refl s

theorem Dev.beside_gather (id : Nat) : Dev.Beside s (s.gather id) := by
  unfold Dev.gather
  split
  · exact .ite (fun _ => Dev.beside_gatherN _ _ s) (fun _ => .refl s)
  · exact .refl s

theorem Dev.beside_regather : Dev.Beside s s.regather := .foldl (fun s id => s.beside_gather id) _ s

theorem Dev.beside_memberGone (k : Nat) : Dev.Beside s (s.memberGone k) := by
  unfold Dev.memberGone
  split
  · exact .ite (fun _ => (s.beside_memberLeaves _ _ _).trans (Dev.beside_regather _)) (fun _ => .refl s)
  · exact .refl s

end Members

section Work

variable (s : Dev)

theorem Dev.beside_retire (p seq : Nat) (b : Bool) : Dev.Beside s (s.retire p seq b) := .same rfl rfl

theorem Dev.beside_abandonRecord (c : Cmd) : Dev.Beside s (s.abandonRecord c) := by
  unfold Dev.abandonRecord
  dsimp only
  split
  · split
    · exact .ite (fun _ => .refl s) (fun _ => s.beside_retire _ _ _)
    · exact .refl s
  · exact .refl s

theorem Dev.beside_releaseAccs (c : Cmd) : Dev.Beside s (s.releaseAccs c) := .same rfl rfl

theorem Dev.beside_meterCount (t : Nat) (f : MeterRec → MeterRec) : Dev.Beside s (s.meterCount t f) := by
  have h : Dev.Beside s s.meterRoll := Dev.Beside.closed.meterRoll s
  unfold Dev.meterCount
  dsimp only
  split
  · exact h.trans (.same rfl rfl)
  · exact h

theorem Dev.beside_commandOver (c : Cmd) (ok : Bool) (n : Nat) : Dev.Beside s (s.commandOver c ok n) := by
  unfold Dev.commandOver
  refine .ite (fun _ => .refl s) (fun _ => ?_)
  extract_lets t s₁ nvme s₂
  have h₁ : Dev.Beside s s₁ := s.beside_meterCount _ _
  have h₂ : Dev.Beside s s₂ := by
    refine h₁.trans (.ite (fun _ => ?_) (fun _ => .refl _))
    split <;> exact .same rfl rfl
  exact .ite (fun _ => h₂.trans (.same rfl rfl)) (fun _ => h₂)

theorem Dev.beside_sampleEnd (c : Cmd) (n : Nat) : Dev.Beside s (s.sampleEnd c n) := by
  unfold Dev.sampleEnd
  split
  · exact .refl s
  · exact .same rfl rfl

theorem Dev.beside_sweep (id : Nat) : Dev.Beside s (s.sweep id) := by
  unfold Dev.sweep
  split
  · exact .ite (fun _ => .same rfl rfl) (fun _ => .refl s)
  · exact .refl s

/-- A command cancelled without a completion entry sends its function no interrupt. -/
theorem Dev.beside_cancelCmd (id : Nat) : Dev.Beside s (s.cancelCmd id false) := by
  unfold Dev.cancelCmd
  split
  · exact .refl s
  · refine .ite (fun _ => .refl s) (fun _ => ?_)
    extract_lets s₁ c₁ s₂ s₃ s₄ s₅
    have h₃ : Dev.Beside s s₃ := (((s.beside_abandonRecord _).trans (Dev.beside_setCmd _ _)).trans (.count _ _ _ _)).trans (Dev.beside_releaseAccs _ _)
    have h₄ : Dev.Beside s s₄ := by
      refine h₃.trans ?_
      dsimp only [s₄]
      split <;> exact .refl _
    have h₅ : Dev.Beside s s₅ := (h₄.trans (Dev.beside_commandOver _ _ _ _)).trans (Dev.beside_sampleEnd _ _ _)
    split
    · exact (h₅.trans (Dev.beside_setCtrl _ _ _)).trans (Dev.beside_sweep _ _)
    · exact h₅.trans (Dev.beside_sweep _ _)

theorem Dev.beside_cancelWhere (p : Cmd → Bool) : Dev.Beside s (s.cancelWhere p false) := .foldl (fun s id => s.beside_cancelCmd id) _ s

theorem Dev.beside_chanPut (space : Nat) (l : List (Nat × Nat)) : ∀ (s : Dev) (b : List Byte), Dev.Beside s (s.chanPut space l b) := by
  induction l with
  | nil => exact fun s _ => .refl s
  | cons r l ih =>
    intro s b
    obtain ⟨addr, len⟩ := r
    unfold Dev.chanPut
    refine Dev.Beside.trans ?_ (ih _ _)
    split <;> exact .same rfl rfl

theorem Dev.beside_drawBytes (n : Nat) : Dev.Beside s (s.drawBytes n).2 := .same rfl rfl

theorem Dev.beside_chanMix (n : Nat) : Dev.Beside s (s.chanMix n) := by
  unfold Dev.chanMix
  dsimp only
  split
  · refine .ite (fun _ => .refl s) (fun _ => ?_)
    split
    · exact (s.beside_drawBytes _).trans (Dev.beside_chanPut _ _ _ _)
    · exact .refl s
  · exact .refl s

theorem Dev.beside_setChan (n : Nat) (x : Chan) : Dev.Beside s (s.setChan n x) := .same rfl rfl

theorem Dev.beside_chanAbort (n cause : Nat) : Dev.Beside s (s.chanAbort n cause) := by
  unfold Dev.chanAbort
  dsimp only
  exact .ite (fun _ => .refl s)
    (fun _ => (((s.beside_chanMix n).trans (Dev.beside_setChan _ _ _)).trans (.count _ _ _ _)).trans (.event _ _ _ _ _))

theorem Dev.beside_chansAbortBus : Dev.Beside s s.chansAbortBus := .foldl (fun s n => s.beside_chanAbort n _) _ s

end Work

end Sys2Proof.Machine
/-!
PROOF. What takes links down: one MAC, bond link or root port at a time leaves every other as it was; the endpoint goes down with its functions reset.
-/
namespace Sys2Proof.Machine

/-- A fold of steps that each keep `g` keeps it. -/
theorem foldl_keeps {σ α β : Type} {f : σ → α → σ} {g : σ → β} (h : ∀ s x, g (f s x) = g s) (l : List α) : ∀ s, g (l.foldl f s) = g s := by
  induction l with
  | nil => exact fun _ => rfl
  | cons x l ih => exact fun s => (ih _).trans (h s x)

/-- Steps that each take down one unit, over a list of them. -/
theorem foldl_takesDown {f : Dev → Nat → Dev} {up : Dev → Nat → Bool} (h : ∀ s n m, up (f s n) m = (up s m && m != n)) (l : List Nat) :
    ∀ s m, up (l.foldl f s) m = (up s m && !l.contains m) := by
  induction l with
  | nil => exact fun s m => by simp
  | cons n l ih =>
    intro s m
    rw [List.foldl_cons, ih, h, List.contains_cons, Bool.not_or, Bool.and_assoc]
    rfl

section Macs

/-- The ports, the seams and regions and the ownership as they were, beside the keel. -/
structure Dev.NetKept (a b : Dev) : Prop extends Dev.Beside a b where
  net : b.net = a.net
  arch : b.arch = a.arch
  own : b.own = a.own

namespace Dev.NetKept

variable {a b c : Dev}

theorem of_kept (h : Dev.Kept a b) (hn : b.net = a.net) : Dev.NetKept a b := ⟨.of_kept h, hn, h.same.arch, h.same.own⟩

theorem refl (a : Dev) : Dev.NetKept a a := ⟨.refl a, rfl, rfl, rfl⟩

theorem trans (h : Dev.NetKept a b) (k : Dev.NetKept b c) : Dev.NetKept a c :=
  ⟨h.toBeside.trans k.toBeside, k.net.trans h.net, k.arch.trans h.arch, k.own.trans h.own⟩

theorem event (s : Dev) (d : Die) (id : Nat) (x : List Byte) (k : Nat) : Dev.NetKept s (s.event d id x k) := ⟨.event s d id x k, rfl, rfl, rfl⟩

theorem emit (s : Dev) (o : Out) : Dev.NetKept s (s.emit o) := ⟨.emit s o, rfl, rfl, rfl⟩

theorem count (s : Dev) (e : Ctr) (i n : Nat) : Dev.NetKept s (s.count e i n) := ⟨.count s e i n, rfl, rfl, rfl⟩

/-- Freeing cells is the pool's own (06 R255). -/
theorem freeUnits (s : Dev) (ids : List Nat) : Dev.NetKept s (s.freeUnits ids) := by
  refine .of_kept (s.kept_freeUnits ids) ?_
  unfold Dev.freeUnits Dev.afterFree
  dsimp only
  split <;> rfl

end Dev.NetKept

/-- A MAC that is up goes down by its own state, the pool, counters, outputs and events (02 R59, R60); one that is down stays as it is. -/
theorem Dev.macDown_cases (s : Dev) (m : Nat) : ((s.mac m).link = false ∧ s.macDown m = s) ∨
    ∃ x y : Mac, x.link = false ∧ Dev.NetKept ((s.setMac m y).setMac m x) (s.macDown m) := by
  cases h : (s.mac m).link
  · exact .inl ⟨rfl, by simp [Dev.macDown, h]⟩
  · right
    unfold Dev.macDown
    extract_lets x wired frames s₁ y s₂ s₃ s₄ s₅
    have hx : ¬ ((!x.link) = true) := by simp [x, h]
    rw [if_neg hx]
    have h₄ : Dev.NetKept s₂ s₄ := (Dev.NetKept.event _ _ _ _ _).trans (foldl_within .refl .trans (fun s _ => .emit s _) _ s₃)
    have h₅ : Dev.NetKept s₂ s₅ := h₄.trans (.freeUnits _ _)
    refine ⟨_, _, rfl, h₅.trans ?_⟩
    split
    · exact .refl _
    · exact (Dev.NetKept.count _ _ _ _).trans (.event _ _ _ _ _)

theorem Dev.macDown_link (s : Dev) (m j : Nat) : ((s.macDown m).mac j).link = ((s.mac j).link && j != m) := by
  rcases s.macDown_cases m with ⟨hl, he⟩ | ⟨x, y, hx, h⟩
  · rw [he]
    by_cases hj : j = m
    · simp [hj, hl]
    · simp [hj]
  · have hm : (s.macDown m).mac j = ((s.setMac m y).setMac m x).mac j := congrArg (fun n => n.macs.get {} j) h.net
    rw [hm]
    by_cases hj : j = m
    · simp [hj, hx]
    · simp [hj, Dev.mac_setMac_other _ _ _ _ hj]

theorem Dev.macDown_arch (s : Dev) (m : Nat) : (s.macDown m).arch = s.arch := by
  rcases s.macDown_cases m with ⟨-, he⟩ | ⟨x, y, -, h⟩
  · rw [he]
  · exact h.arch

theorem Dev.macDown_own (s : Dev) (m : Nat) : (s.macDown m).own = s.own := by
  rcases s.macDown_cases m with ⟨-, he⟩ | ⟨x, y, -, h⟩
  · rw [he]
  · exact h.own

theorem Dev.beside_macDown (s : Dev) (m : Nat) : Dev.Beside s (s.macDown m) := by
  rcases s.macDown_cases m with ⟨-, he⟩ | ⟨x, y, -, h⟩
  · rw [he]
    exact .refl s
  · exact Dev.Beside.trans (b := (s.setMac m y).setMac m x) (.same rfl rfl) h.toBeside

end Macs

section Bonds

theorem Dev.bondDown_cases (s : Dev) (k : Nat) (b : Bool) : ((s.bond k).up = false ∧ s.bondDown k b = s) ∨
    ∃ (x : Bond) (t n : Nat) (r : List Occ), x.up = false ∧
      s.bondDown k b = { s with own := { s.own with bonds := s.own.bonds.put {} k x, noBondFrom := t }, fresh := n, raised := s.raised ++ r } := by
  cases h : (s.bond k).up
  · exact .inl ⟨rfl, by simp [Dev.bondDown, h]⟩
  · right
    simp only [Dev.bondDown, h, Bool.not_true, Bool.false_eq_true, if_false]
    split <;> exact ⟨_, _, _, _, rfl, rfl⟩

theorem Dev.bondDown_up (s : Dev) (k j : Nat) (b : Bool) : ((s.bondDown k b).bond j).up = ((s.bond j).up && j != k) := by
  rcases s.bondDown_cases k b with ⟨hu, he⟩ | ⟨x, t, n, r, hx, he⟩ <;> rw [he] <;> by_cases hj : j = k
  · simp [hj, hu]
  · simp [hj]
  · simp [hj, Dev.bond, hx]
  · simp [hj, Dev.bond, Table.get_put_other _ _ _ hj]

theorem Dev.beside_bondDown (s : Dev) (k : Nat) (b : Bool) : Dev.Beside s (s.bondDown k b) := by
  rcases s.bondDown_cases k b with ⟨-, he⟩ | ⟨x, t, n, r, -, he⟩ <;> rw [he]
  · exact .refl s
  · exact ⟨rfl, List.prefix_append _ _⟩

end Bonds

section Ports

/-- A root port that goes down: beyond the port itself the shelf is kept (11 R447). -/
theorem Dev.portDown_cases (s : Dev) (n : Nat) (x : RootPort) : ∃ y : RootPort, y.up = false ∧ Dev.Beside (s.setPort n y) (s.portDown n x) := by
  unfold Dev.portDown
  extract_lets k die was s₁ s₂ now store s₃
  refine ⟨_, rfl, .ite (fun _ => .refl s₁) (fun _ => .ite (fun _ => ?_) (fun _ => ?_))⟩
  · have h₃ : Dev.Beside s₁ s₃ := .same rfl rfl
    exact h₃.trans (.event _ _ _ _ _)
  · exact Dev.Beside.trans (.count _ _ _ _) (Dev.beside_memberGone s₂ k)

theorem Dev.portDown_up (s : Dev) (n m : Nat) (x : RootPort) : ((s.portDown n x).port m).up = ((s.port m).up && m != n) := by
  obtain ⟨y, hy, h⟩ := s.portDown_cases n x
  rw [Dev.port, h.shelf]
  by_cases hm : m = n
  · simp [hm, Dev.setPort, hy]
  · simp [hm, Dev.setPort, Table.get_put_other _ _ _ hm, Dev.port]

theorem Dev.portDown_pkg (s : Dev) (n : Nat) (x : RootPort) : (s.portDown n x).pkg = s.pkg := by
  obtain ⟨y, -, h⟩ := s.portDown_cases n x
  exact h.pkg

theorem Dev.portDown_raised (s : Dev) (n : Nat) (x : RootPort) : s.raised <+: (s.portDown n x).raised := by
  obtain ⟨y, -, h⟩ := s.portDown_cases n x
  exact h.raised

end Ports

/-- The package and the events raised, over anything that takes links down. -/
structure Dev.PkgKept (a b : Dev) : Prop where
  pkg : b.pkg = a.pkg
  raised : a.raised <+: b.raised

namespace Dev.PkgKept

variable {a b c : Dev}

theorem refl (a : Dev) : Dev.PkgKept a a := ⟨rfl, List.prefix_rfl⟩

theorem trans (h : Dev.PkgKept a b) (k : Dev.PkgKept b c) : Dev.PkgKept a c := ⟨k.pkg.trans h.pkg, h.raised.trans k.raised⟩

theorem of_beside (h : Dev.Beside a b) : Dev.PkgKept a b := ⟨h.pkg, h.raised⟩

end Dev.PkgKept

section Endpoint

/-- A reset of functions leaves the package, the link and the events raised. -/
structure Dev.FnsReset (a b : Dev) : Prop extends Dev.PkgKept a b where
  up : b.ep.up = a.ep.up

namespace Dev.FnsReset

variable {a b c : Dev}

theorem same (hp : b.pkg = a.pkg) (hu : b.ep.up = a.ep.up) (hr : b.raised = a.raised) : Dev.FnsReset a b := ⟨⟨hp, hr ▸ List.prefix_rfl⟩, hu⟩

theorem refl (a : Dev) : Dev.FnsReset a a := same rfl rfl rfl

theorem trans (h : Dev.FnsReset a b) (k : Dev.FnsReset b c) : Dev.FnsReset a c := ⟨h.toPkgKept.trans k.toPkgKept, k.up.trans h.up⟩

theorem of_beside (h : Dev.Beside a b) : Dev.FnsReset a b := ⟨.of_beside h, congrArg (·.up) h.ep⟩

end Dev.FnsReset

theorem Dev.fnsReset_nvmeFnReset (s : Dev) (fn : Nat) : Dev.FnsReset s (s.nvmeFnReset fn) :=
  (Dev.FnsReset.of_beside (s.beside_cancelWhere _)).trans (.same rfl rfl rfl)

theorem Dev.fnsReset_vfsOff (s : Dev) : Dev.FnsReset s s.vfsOff := by
  unfold Dev.vfsOff
  extract_lets ep s₁
  have h₁ : Dev.FnsReset s s₁ := .same rfl rfl rfl
  clear_value s₁
  refine h₁.trans (foldl_within .refl .trans (fun s v => ?_) _ s₁)
  split
  · exact s.fnsReset_nvmeFnReset v
  · exact .refl s

theorem Dev.fnsReset_pf0Reset (s : Dev) : Dev.FnsReset s s.pf0Reset := by
  unfold Dev.pf0Reset
  have h : Dev.FnsReset s (s.nvmeFnReset 0).vfsOff := (s.fnsReset_nvmeFnReset 0).trans (Dev.fnsReset_vfsOff _)
  generalize (s.nvmeFnReset 0).vfsOff = d at h
  exact h.trans (.same rfl rfl rfl)

theorem Dev.pf0Reset_epFn (s : Dev) : s.pf0Reset.epFn 0 = { flr := true } := Dev.epFn_setEpFn_self _ _ _

theorem Dev.beside_setFld (s : Dev) (f : Fld) (i v : Nat) : Dev.Beside s (s.setFld f i v) := .same rfl rfl
theorem Dev.beside_forgetAnswer (s : Dev) (n : Nat) : Dev.Beside s (s.forgetAnswer n) := .same rfl rfl
theorem Dev.beside_setSession (s : Dev) (n : Nat) (x : Session) : Dev.Beside s (s.setSession n x) := .same rfl rfl

/-- PF1's reset beside the endpoint's own part: channels aborted, registers cleared, its session dropped (13 R538). -/
theorem Dev.pf1Reset_eq (s : Dev) : ∃ d, Dev.Beside s d ∧ s.pf1Reset = ({ d with ep := { d.ep with msix := [] } } : Dev).setEpFn 1 { flr := true } := by
  unfold Dev.pf1Reset
  extract_lets s₁ s₂ s₃ s₄ s₅ s₆
  have h₁ : Dev.Beside s s₁ := s.beside_chansAbortBus
  have h₃ : Dev.Beside s₁ s₃ := (s₁.beside_setFld _ _ _).trans (s₂.beside_setFld _ _ _)
  have h₄ : Dev.Beside s₃ s₄ := .foldl (fun s _ => (s.beside_setFld _ _ _).trans (Dev.beside_setFld _ _ _ _)) _ s₃
  have h₅ : Dev.Beside s₄ s₅ := ((s₄.beside_setFld _ _ _).trans (Dev.beside_setFld _ _ _ _)).trans (Dev.beside_forgetAnswer _ _)
  have h₆ : Dev.Beside s₅ s₆ := s₅.beside_setSession _ _
  exact ⟨s₆, (((h₁.trans h₃).trans h₄).trans h₅).trans h₆, rfl⟩

theorem Dev.fnsReset_pf1Reset (s : Dev) : Dev.FnsReset s s.pf1Reset := by
  obtain ⟨d, h, he⟩ := s.pf1Reset_eq
  rw [he]
  exact (Dev.FnsReset.of_beside h).trans (.same rfl rfl rfl)

theorem Dev.pf1Reset_epFn_one (s : Dev) : s.pf1Reset.epFn 1 = { flr := true } := by
  obtain ⟨d, -, he⟩ := s.pf1Reset_eq
  rw [he, Dev.epFn_setEpFn_self]

theorem Dev.pf1Reset_epFn_zero (s : Dev) : s.pf1Reset.epFn 0 = s.epFn 0 := by
  obtain ⟨d, h, he⟩ := s.pf1Reset_eq
  rw [he, Dev.epFn_setEpFn_other _ _ _ _ (by decide)]
  exact congrArg (fun e => e.fns.get {} 0) h.ep

/-- The endpoint's link is down and both physical functions are in reset (13 R513). -/
theorem Dev.endpointReset_down (s : Dev) : s.endpointReset.ep.up = false ∧ s.endpointReset.epFn 0 = { flr := true } ∧
    s.endpointReset.epFn 1 = { flr := true } ∧ Dev.PkgKept s s.endpointReset := by
  unfold Dev.endpointReset
  extract_lets was ep s₁
  have h : Dev.FnsReset s₁ s₁.pf0Reset.pf1Reset := (Dev.fnsReset_pf0Reset _).trans (Dev.fnsReset_pf1Reset _)
  have he : Dev.Beside s₁.pf0Reset.pf1Reset (s₁.pf0Reset.pf1Reset.eventIf was .ln 0x3E1 (le 1 0 ++ le 1 0)) := .eventIf _ _ _ _ _ _
  have h₁ : Dev.PkgKept s s₁ := ⟨rfl, List.prefix_rfl⟩
  refine ⟨?_, ?_, ?_, (h₁.trans h.toPkgKept).trans (.of_beside he)⟩
  · rw [he.ep, h.up]
  · rw [Dev.epFn, he.ep]
    exact (Dev.pf1Reset_epFn_zero _).trans (Dev.pf0Reset_epFn _)
  · rw [Dev.epFn, he.ep]
    exact Dev.pf1Reset_epFn_one _

end Endpoint

end Sys2Proof.Machine
/-!
PROOF. The reference clocks (18 R693): what hangs on a clock that is lost goes down, and the clause of O57 about clocks and about reads of DIE_TEMP.
-/
namespace Sys2Proof.Machine

/-- An event that an effect raises on Plinth is told to the recorder, whatever was raised before it (15 R599). -/
theorem State.told_plinth {s : State} {d : Dev} {id : Nat} {x : List Byte} {c : Nat}
    (h : (⟨s.dev.now, .pl, id, c, x, !s.dev.timeLoaded⟩ : Occ) ∈ d.raised) : s.told (s.after (fun _ => d)) .pl id x c := by
  have hm := (Dev.kept_settle d s.dev).raised.subset h
  exact EventQueues.push_mem (fun die => s.dev.reachesPlinth die) _ s.evq _ _ (by rwa [List.take_length]) (.inl rfl)

theorem State.told.toldOf {s t : State} {d : Die} {id : Nat} {x : List Byte} {c : Nat} (h : s.told t d id x c) : s.toldOf t d id := by
  obtain ⟨new, hq, hm⟩ := h
  exact ⟨new, hq, _, hm, rfl⟩

/-- A change of the package's part. -/
theorem Dev.OnlyChanged.pkg {xs : List Fld} {cs : List Ctr} {s : Dev} (x : Package) : Dev.OnlyChanged [.pkg] xs cs s { s with pkg := x } := by
  refine .ofParts (fun p hp => ?_) rfl rfl
  cases p with
  | pkg => exact absurd (List.mem_singleton.mpr rfl) hp
  | _ => rfl

theorem mem_insertBy {α : Type} (le : α → α → Bool) (x a : α) (l : List α) : a ∈ insertBy le x l ↔ a = x ∨ a ∈ l := by
  induction l with
  | nil => simp [insertBy]
  | cons y l ih =>
    simp only [insertBy]
    split
    · simp
    · simp only [List.mem_cons, ih]
      tauto

theorem mem_sortNat (a : Nat) (l : List Nat) : a ∈ sortNat l ↔ a ∈ l := by
  unfold sortNat sortBy
  induction l with
  | nil => simp
  | cons x l ih => simp [mem_insertBy, ih]

section Loss

/-- The device at the loss of clock `c`: its bit cleared, event 0B2h. -/
def Dev.clockLost (s : Dev) (c : Nat) : Dev :=
  ({ s with pkg := { s.pkg with clocks := s.pkg.clocks.filter (· != c) } } : Dev).event .pl 0x0B2 (le 1 c)

/-- What hangs on clock `c` goes down (18 R693). -/
def Dev.unclocked (s : Dev) (c : Nat) : Dev :=
  match c with
  | 0 => if s.net.ptp.state = .disabled then s else s.setPtp { s.net.ptp with state := .holdover }
  | 1 => (clockPorts 1).foldl (fun s p => (List.range 8).foldl (fun s m => s.macDown (p * 8 + m)) s) s
  | 2 => (clockPorts 2).foldl (fun s p => (List.range 8).foldl (fun s m => s.macDown (p * 8 + m)) s) s
  | 3 => (s.bondDown 0 false).bondDown 1 false
  | 4 => ((List.range 48).filter (fun n => slotLanes (s.portSlot n) == 0)).foldl (fun s n => s.portDown n (s.port n)) s
  | 5 => ((List.range 48).filter (fun n => slotLanes (s.portSlot n) == 1)).foldl (fun s n => s.portDown n (s.port n)) s
  | _ => s.endpointReset

/-- The MACs of ports `ps`, eight a port. -/
def portMacs (ps : List Nat) : List Nat := ps.flatMap (fun p => (List.range 8).map (p * 8 + ·))

theorem Dev.foldl_portMacs (ps : List Nat) (s : Dev) :
    ps.foldl (fun s p => (List.range 8).foldl (fun s m => s.macDown (p * 8 + m)) s) s = (portMacs ps).foldl Dev.macDown s := by
  simp only [portMacs, List.foldl_flatMap, List.foldl_map]

theorem Dev.unclocked_one (s : Dev) : s.unclocked 1 = (List.range 32).foldl Dev.macDown s := s.foldl_portMacs (clockPorts 1)
theorem Dev.unclocked_two (s : Dev) : s.unclocked 2 = (List.range' 32 32).foldl Dev.macDown s := s.foldl_portMacs (clockPorts 2)

theorem exec_refclockLoss {s : State} {clock : Fin 7} (hs : s.dev.mode.standby = true) (hc : s.dev.pkg.clocks.contains clock.val = true) :
    exec (.refclockLoss clock) s = s.run (fun _ =>
      if s.dev.mode.diesUp then (s.dev.quiet.clockLost clock.val).unclocked clock.val else s.dev.quiet.clockLost clock.val) := by
  refine State.runIf_eq_of_quiet (by rw [hs, hc]; rfl) ?_
  cases hd : s.dev.mode.diesUp
  · exact if_pos (by simp [hd])
  · exact (if_neg (by simp [hd])).trans rfl

theorem Dev.pkgKept_portsDown (l : List Nat) (s : Dev) : Dev.PkgKept s (l.foldl (fun s n => s.portDown n (s.port n)) s) :=
  foldl_within .refl .trans (fun s n => ⟨s.portDown_pkg n _, s.portDown_raised n _⟩) l s

theorem Dev.pkgKept_unclocked (s : Dev) (c : Nat) : Dev.PkgKept s (s.unclocked c) := by
  unfold Dev.unclocked
  split
  · split
    · exact .refl s
    · exact ⟨rfl, List.prefix_rfl⟩
  · exact .of_beside (.foldl (fun s p => .foldl (fun s m => s.beside_macDown _) _ s) _ s)
  · exact .of_beside (.foldl (fun s p => .foldl (fun s m => s.beside_macDown _) _ s) _ s)
  · exact .of_beside ((s.beside_bondDown 0 false).trans (Dev.beside_bondDown _ 1 false))
  · exact Dev.pkgKept_portsDown _ s
  · exact Dev.pkgKept_portsDown _ s
  · exact s.endpointReset_down.2.2.2

section Links

variable {s : State} {d : Dev}

/-- Ports hold after a command what its effect left where no seam, region or bond link changed. -/
theorem State.after_mac (ha : d.arch = s.dev.arch) (ho : d.own = s.dev.own) (m : Nat) : (s.after (fun _ => d)).dev.mac m = d.mac m :=
  congrArg (fun n => n.macs.get {} m) (s.after_samePool (fun _ => d) ha ho).net

theorem State.after_ptp : (s.after (fun _ => d)).dev.net.ptp = d.net.ptp := (Net.mk.inj (s.after_same (fun _ => d)).net).2

theorem Dev.macsDown_link (l : List Nat) (s : Dev) {m : Nat} (h : m ∈ l) : ((l.foldl Dev.macDown s).mac m).link = false := by
  rw [foldl_takesDown (up := fun s m => (s.mac m).link) Dev.macDown_link]
  simp [h]

theorem Dev.portsDown_up (l : List Nat) (s : Dev) {m : Nat} (h : m ∈ l) :
    ((l.foldl (fun s n => s.portDown n (s.port n)) s).port m).up = false := by
  rw [foldl_takesDown (up := fun s m => (s.port m).up) (fun s n m => s.portDown_up n m _)]
  simp [h]

theorem State.after_macsDown {c m : Nat} {l : List Nat} (h : d = l.foldl Dev.macDown (s.dev.quiet.clockLost c)) (hm : m ∈ l) :
    ((s.after (fun _ => d)).dev.mac m).link = false := by
  have ha : d.arch = s.dev.arch := h ▸ foldl_keeps (g := Dev.arch) Dev.macDown_arch l _
  have ho : d.own = s.dev.own := h ▸ foldl_keeps (g := Dev.own) Dev.macDown_own l _
  rw [State.after_mac ha ho, h]
  exact Dev.macsDown_link l _ hm

end Links

end Loss

/-- The state in which what hangs on clock `c` is down. -/
def State.withoutClock (s : State) (c : Nat) : State := s.after (fun _ => (s.dev.quiet.clockLost c).unclocked c)

/-- A clock that is lost (18 R693): its bit, event 0B2h, and what hangs on it. -/
theorem refclockLoss_answers {s : State} {clock : Fin 7} (hs : s.dev.mode.standby = true) (hc : s.dev.pkg.clocks.contains clock.val = true) :
    Answers (.refclockLoss clock) s (fun t => t.dev.pkg = { s.dev.pkg with clocks := s.dev.pkg.clocks.filter (· != clock.val) } ∧
      s.told t .pl 0x0B2 (le 1 clock.val) ∧ (s.dev.mode.diesUp = false → Dev.OnlyChanged [.pkg] [] [] s.dev t.dev) ∧
      (s.dev.mode.diesUp = true → t = s.withoutClock clock.val)) := by
  have hk : ∀ d, Dev.PkgKept (s.dev.quiet.clockLost clock.val) d →
      (s.after (fun _ => d)).dev.pkg = { s.dev.pkg with clocks := s.dev.pkg.clocks.filter (· != clock.val) } ∧
      s.told (s.after (fun _ => d)) .pl 0x0B2 (le 1 clock.val) := fun d h =>
    ⟨(State.after_pkg s _).trans h.pkg, State.told_plinth (h.raised.subset (List.mem_singleton.mpr rfl))⟩
  have hx := exec_refclockLoss hs hc
  cases hd : s.dev.mode.diesUp
  · rw [hd, if_neg Bool.false_ne_true] at hx
    refine .of_run hx ⟨(hk _ (.refl _)).1, (hk _ (.refl _)).2, fun _ => ?_, nofun⟩
    exact State.onlyChanged_of_quiet ((Dev.OnlyChanged.pkg _).trans (.event _ _ _ _)) rfl rfl
  · rw [hd, if_pos rfl] at hx
    have hu := hk _ (Dev.pkgKept_unclocked _ clock.val)
    exact .of_run hx ⟨hu.1, hu.2, nofun, fun _ => rfl⟩

theorem Answers.imp {c : Instr} {s : State} {P Q : State → Prop} (h : Answers c s P) (hpq : ∀ t, P t → Q t) : Answers c s Q := by
  obtain ⟨t, hx, hp, h⟩ := h
  exact ⟨t, hx, hp, hpq t h⟩

section Fallen

variable (s : State)

theorem State.withoutClock_ptp (h : s.dev.net.ptp.state ≠ .disabled) : (s.withoutClock 0).dev.net.ptp.state = .holdover := by
  have hu : (s.dev.quiet.clockLost 0).unclocked 0 = (s.dev.quiet.clockLost 0).setPtp { s.dev.net.ptp with state := .holdover } := if_neg h
  rw [State.withoutClock, State.after_ptp, hu]
  rfl

theorem State.withoutClock_macs_one {m : Nat} (h : m < 32) : ((s.withoutClock 1).dev.mac m).link = false :=
  State.after_macsDown (Dev.unclocked_one _) (List.mem_range.mpr h)

theorem State.withoutClock_macs_two {m : Nat} (h : 32 ≤ m) (h' : m < 64) : ((s.withoutClock 2).dev.mac m).link = false :=
  State.after_macsDown (Dev.unclocked_two _) (List.mem_range'_1.mpr ⟨h, h'⟩)

theorem State.withoutClock_bonds {k : Nat} (h : k < 2) : ((s.withoutClock 3).dev.bond k).up = false := by
  have hu : ((s.withoutClock 3).dev.bond k) = (((s.dev.quiet.clockLost 3).bondDown 0 false).bondDown 1 false).bond k := by
    rw [State.withoutClock, Dev.bond, State.after_own]
    rfl
  rw [hu, Dev.bondDown_up, Dev.bondDown_up]
  obtain rfl | rfl : k = 0 ∨ k = 1 := by omega
  · simp
  · simp

theorem State.withoutClock_ports_four {n : Nat} (h : n < 48) (hl : slotLanes (s.dev.portSlot n) = 0) :
    ((s.withoutClock 4).dev.port n).up = false := by
  rw [State.withoutClock, Dev.port, State.after_shelf]
  exact Dev.portsDown_up _ _ (List.mem_filter.mpr ⟨List.mem_range.mpr h, beq_iff_eq.mpr hl⟩)

theorem State.withoutClock_ports_five {n : Nat} (h : n < 48) (hl : slotLanes (s.dev.portSlot n) = 1) :
    ((s.withoutClock 5).dev.port n).up = false := by
  rw [State.withoutClock, Dev.port, State.after_shelf]
  exact Dev.portsDown_up _ _ (List.mem_filter.mpr ⟨List.mem_range.mpr h, beq_iff_eq.mpr hl⟩)

theorem State.withoutClock_endpoint : (s.withoutClock 6).dev.ep.up = false ∧ (s.withoutClock 6).dev.epFn 0 = { flr := true } ∧
    (s.withoutClock 6).dev.epFn 1 = { flr := true } := by
  obtain ⟨hu, h0, h1, -⟩ := (s.dev.quiet.clockLost 6).endpointReset_down
  rw [State.withoutClock, Dev.epFn, Dev.epFn, State.after_ep]
  exact ⟨hu, h0, h1⟩

end Fallen

/-- A clock that returns (18 R693): its bit is set among those present. -/
theorem refclockReturn_answers {s : State} {clock : Fin 7} (hs : s.dev.mode.standby = true)
    (hc : s.dev.pkg.clocks.contains clock.val = false) : Answers (.refclockReturn clock) s (fun t =>
      t.dev.pkg = { s.dev.pkg with clocks := sortNat (s.dev.pkg.clocks ++ [clock.val]) } ∧ Dev.OnlyChanged [.pkg] [] [] s.dev t.dev) := by
  have hx : exec (.refclockReturn clock) s =
      s.run (fun _ => { s.dev.quiet with pkg := { s.dev.pkg with clocks := sortNat (s.dev.pkg.clocks ++ [clock.val]) } }) :=
    State.runIf_eq_of_quiet (by rw [hs, hc]; rfl) rfl
  exact .of_run hx ⟨State.after_pkg s _, State.onlyChanged_of_quiet (.pkg _) rfl rfl⟩

end Sys2Proof.Machine
/-!
PROOF. Temperature samples (18 R684-R686): the readings that count, the warning, the ledger dies, the composite temperature and the alarm.
-/
namespace Sys2Proof.Machine

section Readings

variable (s : Dev) (l : List Int)

/-- The readings that count, in the order of the sensors. -/
def Dev.readings : List (Nat × Int) := ((List.range 20).filter s.readable).map (fun n => (n, l.getD n 0))

theorem Dev.mem_readings (n : Nat) (t : Int) : (n, t) ∈ s.readings l ↔ n < 20 ∧ s.readable n = true ∧ t = l.getD n 0 := by
  simp only [Dev.readings, List.mem_map, List.mem_filter, List.mem_range, Prod.mk.injEq]
  constructor
  · rintro ⟨m, ⟨hm, hr⟩, rfl, rfl⟩
    exact ⟨hm, hr, rfl⟩
  · rintro ⟨hn, hr, rfl⟩
    exact ⟨n, ⟨hn, hr⟩, rfl, rfl⟩

theorem Dev.filter_zipIdx_eq_readings (hl : l.length = 20) :
    (l.zipIdx.map (fun e => (e.2, e.1))).filter (fun e => s.readable e.1) = s.readings l := by
  have h : l.zipIdx.map (fun e => (e.2, e.1)) = (List.range 20).map (fun n => (n, l.getD n 0)) := by
    refine List.ext_getElem (by simp [hl]) (fun n hn _ => ?_)
    have hn : n < l.length := by simpa using hn
    simp [List.getElem?_eq_getElem hn]
  rw [h, List.filter_map]
  rfl

/-- Every sensor that can be read has taken its reading. -/
def Dev.sampled : Dev := (s.readings l).foldl (fun d e => d.readSensor e.1 e.2) s

/-- What a sensor shows after a reading. -/
def Sensor.after (x : Sensor) (t : Int) : Sensor := { now := t, peak := some (x.peak.elim t (max t)) }

theorem Dev.readSensor_eq (n : Nat) (t : Int) :
    s.readSensor n t = { s with pkg := { s.pkg with sensors := s.pkg.sensors.put {} n ((s.sensor n).after t) } } := rfl

theorem Dev.foldl_readSensor_eq (ns : List Nat) (g : Nat → Int) : ∀ s : Dev, ∃ t,
    ns.foldl (fun d n => d.readSensor n (g n)) s = { s with pkg := { s.pkg with sensors := t } } := by
  induction ns with
  | nil => exact fun s => ⟨s.pkg.sensors, rfl⟩
  | cons n ns ih =>
    intro s
    obtain ⟨t, h⟩ := ih (s.readSensor n (g n))
    exact ⟨t, h⟩

theorem Dev.foldl_readSensor_sensor (ns : List Nat) (g : Nat → Int) (hn : ns.Nodup) (m : Nat) : ∀ s : Dev,
    (ns.foldl (fun d n => d.readSensor n (g n)) s).sensor m = if m ∈ ns then (s.sensor m).after (g m) else s.sensor m := by
  induction ns with
  | nil => exact fun s => by simp
  | cons n ns ih =>
    intro s
    obtain ⟨hm, hns⟩ := List.nodup_cons.mp hn
    rw [List.foldl_cons, ih hns, Dev.readSensor_eq]
    by_cases h : m = n
    · subst h
      simp [hm, Dev.sensor]
    · simp [h, Dev.sensor, Table.get_put_other _ _ _ h]

theorem Dev.sampled_eq : ∃ t, s.sampled l = { s with pkg := { s.pkg with sensors := t } } := by
  unfold Dev.sampled Dev.readings
  rw [List.foldl_map]
  exact Dev.foldl_readSensor_eq _ _ s

theorem Dev.sampled_sensor {n : Nat} (hn : n < 20) :
    (s.sampled l).sensor n = if s.readable n then (s.sensor n).after (l.getD n 0) else s.sensor n := by
  unfold Dev.sampled Dev.readings
  rw [List.foldl_map, Dev.foldl_readSensor_sensor _ _ (List.nodup_range.filter _)]
  simp [hn]

end Readings

section Effect

variable (s : Dev) (rs : List (Nat × Int))

/-- A sample before the release: Plinth's sensors, then the warning. -/
def Dev.sampleHeld : Dev := (s.holdTemps rs).thermalWarning rs

/-- A sample once the dies are powered, up to the alarm: the warning, the ledger dies, the composite temperature. -/
def Dev.sampleNoted : Dev := ((s.thermalWarning rs).ledgerTemps rs).compositeNotice

/-- The alarm of a reading outside -60 to +135 °C. -/
def Dev.sampleAlarm : Dev :=
  match rs.find? (fun e => decide (e.2 < -480) || decide (1080 < e.2)) with
  | some e => s.alarm [(3, .pl, 0x0E3, leSigned 2 e.2)]
  | none => s

theorem exec_temperatureSample {s : State} {l : List Int} (h : s.dev.mode.standby = true ∧ s.dev.now % 10000 = 0 ∧ l.length = 20) :
    exec (.temperatureSample l) s = s.run (fun _ =>
      if s.dev.mode.diesUp then ((s.dev.quiet.sampled l).sampleNoted (s.dev.quiet.readings l)).sampleAlarm (s.dev.quiet.readings l)
      else (s.dev.quiet.sampled l).sampleHeld (s.dev.quiet.readings l)) := by
  obtain ⟨hs, hn, hl⟩ := h
  refine State.runIf_eq_of_quiet (by rw [hs, hn, hl]; rfl) ?_
  dsimp only
  rw [Dev.filter_zipIdx_eq_readings _ _ hl]
  have hm : ((s.dev.quiet.readings l).foldl (fun d e => d.readSensor e.1 e.2) s.dev.quiet).mode.diesUp = s.dev.mode.diesUp := by
    obtain ⟨t, h⟩ := s.dev.quiet.sampled_eq l
    exact congrArg (fun d => d.mode.diesUp) h
  cases hd : s.dev.mode.diesUp
  · exact if_pos (by simp [hm, hd])
  · exact (if_neg (by simp [hm, hd])).trans rfl

end Effect

section Warning

variable {s : Dev} {rs : List (Nat × Int)}

/-- A reading at or above WARN, in 0.125 °C, is recorded where no warning holds yet (18 R686). -/
theorem Dev.thermalWarning_hot {e : Nat × Int} (hw : s.pkg.warned = false)
    (he : rs.find? (fun e => decide ((8 * s.fld .THERM_CFG_WARN : Int) ≤ e.2)) = some e) :
    s.thermalWarning rs = ({ s with pkg := { s.pkg with warned := true } } : Dev).event .pl 0x0B0 (le 1 e.1 ++ leSigned 2 e.2) := by
  simp only [Dev.thermalWarning, hw, he, Bool.false_eq_true, if_false]

theorem Dev.thermalWarning_cold (hw : s.pkg.warned = false)
    (he : rs.find? (fun e => decide ((8 * s.fld .THERM_CFG_WARN : Int) ≤ e.2)) = none) : s.thermalWarning rs = s := by
  simp only [Dev.thermalWarning, hw, he, Bool.false_eq_true, if_false]

theorem Dev.thermalWarning_over (hw : s.pkg.warned = true)
    (he : rs.all (fun e => decide (e.2 < (8 * s.fld .THERM_CFG_WARN : Int) - 40)) = true) :
    s.thermalWarning rs = ({ s with pkg := { s.pkg with warned := false } } : Dev).event .pl 0x0B1 := by
  simp only [Dev.thermalWarning, hw, he, if_true]

theorem Dev.thermalWarning_stays (hw : s.pkg.warned = true)
    (he : rs.all (fun e => decide (e.2 < (8 * s.fld .THERM_CFG_WARN : Int) - 40)) = false) : s.thermalWarning rs = s := by
  simp only [Dev.thermalWarning, hw, he, if_true, Bool.false_eq_true, if_false]

theorem Dev.thermalWarning_eq (s : Dev) (rs : List (Nat × Int)) : ∃ w r,
    s.thermalWarning rs = { s with pkg := { s.pkg with warned := w }, raised := s.raised ++ r } := by
  unfold Dev.thermalWarning
  dsimp only
  split
  · split
    · exact ⟨false, _, rfl⟩
    · exact ⟨s.pkg.warned, [], by rw [List.append_nil]⟩
  · split
    · exact ⟨true, _, rfl⟩
    · exact ⟨s.pkg.warned, [], by rw [List.append_nil]⟩

theorem Dev.holdTemps_eq (s : Dev) (rs : List (Nat × Int)) : ∃ m r, s.holdTemps rs = { s with mode := m, raised := s.raised ++ r } := by
  unfold Dev.holdTemps Dev.eventIf
  dsimp only
  split
  · split
    · exact ⟨_, _, rfl⟩
    · exact ⟨_, [], by rw [List.append_nil]; rfl⟩
  · exact ⟨_, [], by rw [List.append_nil]; rfl⟩

end Warning

section Ledger

variable (s : Dev)

theorem Dev.setHot_eq : ∃ w r, s.setHot true = { s with ldg := { s.ldg with wear := w }, raised := s.raised ++ r } ∧
    w.hot = true ∧ w.hotAt = s.ldg.wear.hotAt ∧ w.tempNow = s.ldg.wear.tempNow := by
  unfold Dev.setHot
  extract_lets w stop ldg s₁
  split
  · rename_i h
    exact ⟨w, [], by rw [List.append_nil], h, rfl, rfl⟩
  · exact ⟨_, _, rfl, rfl, rfl, rfl⟩

theorem Dev.ledgerTemps_eq (rs : List (Nat × Int)) : ∃ w r,
    s.ledgerTemps rs = { s with ldg := { s.ldg with wear := w }, raised := s.raised ++ r } ∧
    ∀ t ts, (rs.filter (fun e => decide (16 ≤ e.1))).map Prod.snd = t :: ts → w.tempNow = ts.foldl max t ∧
      (ts.foldl max t ≤ 880 → w.hot = s.ldg.wear.hot) ∧ (880 < ts.foldl max t → w.hot = true ∧ w.hotAt = s.now) := by
  unfold Dev.ledgerTemps
  split
  · rename_i h
    exact ⟨s.ldg.wear, [], by rw [List.append_nil], fun t ts h' => absurd (h.symm.trans h') (by simp)⟩
  · rename_i t ts h
    extract_lets top w old ldg s₁ ldg'
    have key : ∀ (w' : Wear) (u us), (rs.filter (fun e => decide (16 ≤ e.1))).map Prod.snd = u :: us → w'.tempNow = top →
        (top ≤ 880 → w'.hot = s.ldg.wear.hot) → (880 < top → w'.hot = true ∧ w'.hotAt = s.now) →
        w'.tempNow = us.foldl max u ∧ (us.foldl max u ≤ 880 → w'.hot = s.ldg.wear.hot) ∧
          (880 < us.foldl max u → w'.hot = true ∧ w'.hotAt = s.now) := by
      intro w' u us hu h1 h2 h3
      obtain ⟨rfl, rfl⟩ := List.cons.inj (h.symm.trans hu)
      exact ⟨h1, h2, h3⟩
    split
    · rename_i ht
      obtain ⟨w', r, he, h1, h2, h3⟩ := ({ s₁ with ldg := { s₁.ldg with wear := { s₁.ldg.wear with hotAt := s₁.now } } } : Dev).setHot_eq
      exact ⟨w', r, he, fun u us hu => key w' u us hu h3 (fun hc => absurd hc (not_le.mpr ht)) (fun _ => ⟨h1, h2⟩)⟩
    · rename_i ht
      exact ⟨s₁.ldg.wear, [], by rw [List.append_nil], fun u us hu => key _ u us hu rfl (fun _ => rfl) (fun hc => absurd hc ht)⟩

end Ledger

section Composite

variable (s : Dev)

theorem Dev.ctrl_setCtrl_self (k : Nat) (c : Ctrl) : (s.setCtrl k c).ctrl k = some c := Table.find_insert_self _ _ _

theorem Dev.ctrl_setCtrl_other {j k : Nat} (c : Ctrl) (h : j ≠ k) : (s.setCtrl k c).ctrl j = s.ctrl j := Table.find_insert_other _ _ h

/-- Controllers and commands change, nothing else; controller `k` is there as `c`, the others as they were. -/
structure Dev.CtrlTold (k : Nat) (c : Ctrl) (a b : Dev) : Prop where
  rest : ∃ ctrls cmds, b = { a with nvme := { a.nvme with ctrls := ctrls, cmds := cmds } }
  self : ∃ c', b.ctrl k = some c' ∧ c'.tempOver = c.tempOver ∧ c'.tempThreshold = c.tempThreshold
  others : ∀ j, j ≠ k → b.ctrl j = a.ctrl j

theorem Dev.ctrlTold_setCtrl (k : Nat) (c : Ctrl) : Dev.CtrlTold k c s (s.setCtrl k c) :=
  ⟨⟨_, _, rfl⟩, ⟨c, s.ctrl_setCtrl_self k c, rfl, rfl⟩, fun _ h => s.ctrl_setCtrl_other c h⟩

/-- An asynchronous event changes what a controller holds and waits for, not its temperature (04 R156). -/
theorem Dev.ctrlTold_asyncEvent {k : Nat} {c : Ctrl} (hc : s.ctrl k = some c) (type info log : Nat) :
    Dev.CtrlTold k c s (s.asyncEvent k type info log) := by
  have hs : Dev.CtrlTold k c s s := ⟨⟨_, _, rfl⟩, ⟨c, hc, rfl, rfl⟩, fun _ _ => rfl⟩
  have hset : ∀ (d : Dev) (c' : Ctrl), (∃ cmds, d = { s with nvme := { s.nvme with cmds := cmds } }) → c'.tempOver = c.tempOver →
      c'.tempThreshold = c.tempThreshold → Dev.CtrlTold k c s (d.setCtrl k c') := by
    rintro _ c' ⟨cmds, rfl⟩ h1 h2
    exact ⟨⟨_, _, rfl⟩, ⟨c', Dev.ctrl_setCtrl_self _ k c', h1, h2⟩, fun _ h => Dev.ctrl_setCtrl_other _ c' h⟩
  simp only [Dev.asyncEvent, hc]
  split
  · exact hs
  · split
    · split
      · exact hset _ _ ⟨_, rfl⟩ rfl rfl
      · exact hs
    · split
      · exact hs
      · exact hset _ _ ⟨_, rfl⟩ rfl rfl

/-- A controller's note that the composite temperature `t` is above its threshold is right. -/
def Ctrl.toldOf (c : Ctrl) (t : Nat) : Bool := c.tempOver == decide (c.tempThreshold < t)

/-- One controller is told of the composite temperature `t` (18 R685). -/
def Dev.compositeTold (t : Nat) (s : Dev) (k : Nat) : Dev :=
  match s.ctrl k with
  | none => s
  | some c =>
    let above := decide (c.tempThreshold < t)
    if above == c.tempOver then s
    else
      let s := s.setCtrl k { c with tempOver := above }
      if above then s.asyncEvent k 1 1 2 else s

theorem Dev.compositeNotice_eq_foldl : s.compositeNotice = (s.nvme.ctrls.map Prod.fst).foldl (Dev.compositeTold s.composite) s := rfl

/-- What telling controllers of `t` does: controllers stay, each that was told or is listed in `ks` has been told right. -/
structure Dev.AllTold (t : Nat) (ks : List Nat) (a b : Dev) : Prop where
  rest : ∃ ctrls cmds, b = { a with nvme := { a.nvme with ctrls := ctrls, cmds := cmds } }
  isSome : ∀ j, (b.ctrl j).isSome = (a.ctrl j).isSome
  told : ∀ j, (j ∈ ks ∨ (a.ctrl j).all (·.toldOf t) = true) → (b.ctrl j).all (·.toldOf t) = true

theorem Dev.AllTold.trans {t : Nat} {k l : List Nat} {a b c : Dev} (h : Dev.AllTold t k a b) (h' : Dev.AllTold t l b c) :
    Dev.AllTold t (k ++ l) a c := by
  obtain ⟨⟨x, y, rfl⟩, hs, ht⟩ := h
  obtain ⟨⟨x', y', rfl⟩, hs', ht'⟩ := h'
  refine ⟨⟨_, _, rfl⟩, fun j => (hs' j).trans (hs j), fun j hj => ht' j ?_⟩
  rcases hj with hj | hj
  · exact (List.mem_append.mp hj).elim (fun hk => .inr (ht j (.inl hk))) .inl
  · exact .inr (ht j (.inr hj))

theorem Dev.CtrlTold.trans {k : Nat} {c : Ctrl} {a b d : Dev} (h : Dev.CtrlTold k c a b) (h' : Dev.CtrlTold k c b d) : Dev.CtrlTold k c a d := by
  obtain ⟨⟨x, y, rfl⟩, -, ho⟩ := h
  obtain ⟨⟨x', y', rfl⟩, hs', ho'⟩ := h'
  exact ⟨⟨_, _, rfl⟩, hs', fun j hj => (ho' j hj).trans (ho j hj)⟩

theorem Dev.CtrlTold.allTold {t k : Nat} {c : Ctrl} {a b : Dev} (h : Dev.CtrlTold k c a b) (ha : (a.ctrl k).isSome = true)
    (hc : c.toldOf t = true) : Dev.AllTold t [k] a b := by
  obtain ⟨hr, ⟨c', hb, h1, h2⟩, ho⟩ := h
  have hc' : c'.toldOf t = true := by rwa [Ctrl.toldOf, h1, h2]
  refine ⟨hr, fun j => ?_, fun j hj => ?_⟩
  · by_cases hjk : j = k
    · rw [hjk, hb, ha]
      rfl
    · rw [ho j hjk]
  · by_cases hjk : j = k
    · rw [hjk, hb]
      exact hc'
    · rw [ho j hjk]
      exact hj.resolve_left (fun hm => hjk (List.mem_singleton.mp hm))

theorem Dev.AllTold.of_told {t k : Nat} (h : (s.ctrl k).all (·.toldOf t) = true) : Dev.AllTold t [k] s s :=
  ⟨⟨_, _, rfl⟩, fun _ => rfl, fun _ hj => hj.elim (fun hm => List.mem_singleton.mp hm ▸ h) id⟩

theorem Dev.allTold_compositeTold (t k : Nat) : Dev.AllTold t [k] s (s.compositeTold t k) := by
  unfold Dev.compositeTold
  split
  · rename_i hc
    exact .of_told s (by rw [hc]; rfl)
  · rename_i c hc
    have hsome : (s.ctrl k).isSome = true := by rw [hc]; rfl
    extract_lets above s₁
    split
    · rename_i h
      exact .of_told s (by rw [hc]; exact beq_iff_eq.mpr (beq_iff_eq.mp h).symm)
    · have h₁ : Dev.CtrlTold k { c with tempOver := above } s s₁ := s.ctrlTold_setCtrl k _
      have hc₁ : Ctrl.toldOf { c with tempOver := above } t = true := beq_self_eq_true above
      split
      · exact (h₁.trans (Dev.ctrlTold_asyncEvent _ (s.ctrl_setCtrl_self k _) 1 1 2)).allTold hsome hc₁
      · exact h₁.allTold hsome hc₁

theorem Dev.allTold_foldl (t : Nat) (ks : List Nat) : ∀ s : Dev, Dev.AllTold t ks s (ks.foldl (Dev.compositeTold t) s) := by
  induction ks with
  | nil => exact fun s => ⟨⟨_, _, rfl⟩, fun _ => rfl, fun _ hj => hj.resolve_left List.not_mem_nil⟩
  | cons k ks ih => exact fun s => (s.allTold_compositeTold t k).trans (ih _)

theorem Table.find_eq_none_of_not_mem {α : Type} (t : Table α) {k : Nat} (h : k ∉ t.map Prod.fst) : t.find k = none := by
  induction t with
  | nil => rfl
  | cons e t ih =>
    obtain ⟨hk, ht⟩ := not_or.mp (fun hm => h (List.mem_cons.mpr hm))
    rw [Table.find, if_neg (Ne.symm hk), ih ht]

/-- Every controller is told right of the composite temperature, and nothing but controllers and commands changes (04 R156; 18 R685). -/
theorem Dev.compositeNotice_told : (∃ ctrls cmds, s.compositeNotice = { s with nvme := { s.nvme with ctrls := ctrls, cmds := cmds } }) ∧
    ∀ k, (s.compositeNotice.ctrl k).isSome = (s.ctrl k).isSome ∧ (s.compositeNotice.ctrl k).all (·.toldOf s.composite) = true := by
  rw [Dev.compositeNotice_eq_foldl]
  obtain ⟨hr, hs, ht⟩ := Dev.allTold_foldl s.composite (s.nvme.ctrls.map Prod.fst) s
  refine ⟨hr, fun k => ⟨hs k, ht k ?_⟩⟩
  by_cases hk : k ∈ s.nvme.ctrls.map Prod.fst
  · exact .inl hk
  · right
    rw [Dev.ctrl, Table.find_eq_none_of_not_mem _ hk]
    rfl

end Composite

section Alarm

variable (s : Dev)

/-- Only the wrapped copies of keys and the count of draws differ. -/
def Dev.RewrappedTo (a b : Dev) : Prop := ∃ w n, b = { a with cust := { a.cust with wrapped := w }, fresh := n }

/-- Key commands that are cut off leave the old or the new wrapping (07 R286, R298). -/
theorem Dev.cutKeyCommands_rewrapped : s.RewrappedTo s.cutKeyCommands := by
  have hr : ∀ a : Dev, a.RewrappedTo a := fun a => ⟨a.cust.wrapped, a.fresh, rfl⟩
  have ht : ∀ {a b c : Dev}, a.RewrappedTo b → b.RewrappedTo c → a.RewrappedTo c := by
    rintro a _ _ ⟨w, n, rfl⟩ ⟨w', n', rfl⟩
    exact ⟨w', n', rfl⟩
  refine foldl_within hr ht (fun a k => ?_) _ s
  split
  · exact hr a
  · dsimp only
    split
    · exact ⟨_, _, rfl⟩
    · split <;> exact ⟨_, _, rfl⟩

/-- The parts an erasure on an alarm may change (07 R296). -/
def erasedParts : List DevPart := [.cust, .fresh, .od, .arch, .sw, .net, .ten]

/-- From `a` to `b` no more than an erasure changes did, and the alarm sources stayed. -/
structure Dev.Erases (a b : Dev) : Prop extends Dev.Beside a b where
  alarms : b.cust.alarms = a.cust.alarms
  frame : Dev.OnlyChanged erasedParts [] [] a b

theorem Dev.Erases.trans {a b c : Dev} (h : Dev.Erases a b) (k : Dev.Erases b c) : Dev.Erases a c :=
  ⟨h.toBeside.trans k.toBeside, k.alarms.trans h.alarms, h.frame.trans k.frame⟩

/-- A step that changes only those parts by an equation. -/
theorem Dev.Erases.of_parts (cust : Custody) (fresh : Nat) (od : Management) (arch : Arch) (sw : Pool) (net : Net) (ten : Tenancy) (out : List Out)
    (h : cust.alarms = s.cust.alarms) :
    Dev.Erases s { s with cust := cust, fresh := fresh, od := od, arch := arch, sw := sw, net := net, ten := ten, out := out } := by
  refine ⟨.same rfl rfl, h, .ofParts (fun p hp => ?_) rfl rfl⟩
  cases p with
  | cust | fresh | od | arch | sw | net | ten => exact absurd (by simp [erasedParts]) hp
  | _ => rfl

theorem Dev.erases_eraseKeys : Dev.Erases s s.eraseKeys ∧ s.eraseKeys.cust.cs = none ∧ s.eraseKeys.cust.kek = none := by
  unfold Dev.eraseKeys
  obtain ⟨w, n, h⟩ := s.cutKeyCommands_rewrapped
  rw [h]
  exact ⟨.of_parts s _ _ _ _ _ _ _ _ rfl, rfl, rfl⟩

theorem Dev.erases_railOff (r : Nat) : Dev.Erases s (s.railOff r) := .of_parts s _ _ _ _ _ _ _ _ rfl

theorem Dev.Erases.event (d : Die) (id : Nat) (x : List Byte) : Dev.Erases s (s.event d id x) :=
  ⟨.event s d id x 0, rfl, .event d id x 0⟩

/-- An erasure on an alarm leaves no secret and no key-encryption key and tells event 30Ah (07 R296, R298). -/
theorem Dev.alarmErasure_erases : Dev.Erases s s.alarmErasure ∧ s.alarmErasure.cust.cs = none ∧ s.alarmErasure.cust.kek = none ∧
    (⟨s.now, .pl, 0x30A, 0, le 1 s.cust.alarms, !s.timeLoaded⟩ : Occ) ∈ s.alarmErasure.raised := by
  unfold Dev.alarmErasure
  extract_lets s₁ cust wrapped s₂ s₃ ids pool s₄
  obtain ⟨h₁, hcs, hkek⟩ := s.erases_eraseKeys
  have h₂ : Dev.Erases s₁ s₂ := .of_parts s₁ _ _ _ _ _ _ _ _ rfl
  have h₃ : Dev.Erases s₂ s₃ := (s₂.erases_railOff 9).trans ((Dev.erases_railOff _ 8).trans (Dev.erases_railOff _ 7))
  have h₄ : Dev.Erases s₃ s₄ := .of_parts s₃ _ _ _ _ _ _ _ _ rfl
  have h₅ : Dev.Erases s₄ (s₄.forgetFrames ids) := .of_parts s₄ _ _ _ _ _ _ _ _ rfl
  have h : Dev.Erases s (s₄.forgetFrames ids) := h₁.trans (h₂.trans (h₃.trans (h₄.trans h₅)))
  have hn : (s₄.forgetFrames ids).nowOn .pl = s.now := congrArg BitVec.toNat h.time
  have ha : s₄.cust.alarms = s.cust.alarms := h.alarms
  refine ⟨h.trans (.event _ _ _ _), hcs, hkek, List.mem_append_right _ (List.mem_singleton.mpr ?_)⟩
  rw [hn, ha, h.timeLoaded]

/-- What the first alarm, of source `k`, leaves with event `id` told (07 R296-R298). -/
structure Dev.AlarmTaken (k id : Nat) (x : List Byte) (a b : Dev) : Prop where
  alarms : b.cust.alarms = 2 ^ k
  cs : b.cust.cs = none
  kek : b.cust.kek = none
  told : (⟨a.now, .pl, id, 0, x, !a.timeLoaded⟩ : Occ) ∈ b.raised
  erased : (⟨a.now, .pl, 0x30A, 0, le 1 (2 ^ k), !a.timeLoaded⟩ : Occ) ∈ b.raised
  frame : Dev.OnlyChanged erasedParts [] [] a b

/-- The first alarm latches its source, records its event and erases. -/
theorem Dev.alarm_first (h : s.cust.alarms = 0) (k id : Nat) (x : List Byte) : Dev.AlarmTaken k id x s (s.alarm [(k, .pl, id, x)]) := by
  have ha : s.alarm [(k, .pl, id, x)] = (({ s with cust := { s.cust with alarms := 2 ^ k } } : Dev).event .pl id x).alarmErasure := by
    simp [Dev.alarm, h]
  obtain ⟨he, hcs, hkek, ht⟩ := (({ s with cust := { s.cust with alarms := 2 ^ k } } : Dev).event .pl id x).alarmErasure_erases
  rw [ha]
  have hf : Dev.OnlyChanged erasedParts [] [] s (({ s with cust := { s.cust with alarms := 2 ^ k } } : Dev).event .pl id x) := by
    refine .ofParts (fun p hp => ?_) rfl rfl
    cases p with
    | cust => exact absurd (by simp [erasedParts]) hp
    | _ => rfl
  exact ⟨he.alarms, hcs, hkek, he.raised.subset (List.mem_append_right _ (List.mem_singleton.mpr rfl)), ht, hf.trans he.frame⟩

end Alarm

end Sys2Proof.Machine
/-!
PROOF. What a temperature sample leaves: the sensors and the warning, the notes of a sample on powered dies, the alarm, and the start-up hold (18 R684-R686).
-/
namespace Sys2Proof.Machine

section Beside

variable (s : Dev) (rs : List (Nat × Int))

theorem Dev.beside_ledgerTemps : Dev.Beside s (s.ledgerTemps rs) := by
  obtain ⟨w, r, h, -⟩ := s.ledgerTemps_eq rs
  rw [h]
  exact ⟨rfl, List.prefix_append _ _⟩

theorem Dev.beside_compositeNotice : Dev.Beside s s.compositeNotice := by
  obtain ⟨⟨x, y, h⟩, -⟩ := s.compositeNotice_told
  rw [h]
  exact .same rfl rfl

/-- An alarm source latches and records its event, once (07 R297). -/
def Dev.alarmLatched (s : Dev) (x : Nat × Die × Nat × List Byte) : Dev :=
  if s.cust.alarms / 2 ^ x.1 % 2 = 1 then s
  else ({ s with cust := { s.cust with alarms := s.cust.alarms + 2 ^ x.1 } } : Dev).event x.2.1 x.2.2.1 x.2.2.2

theorem Dev.alarm_eq (l : List (Nat × Die × Nat × List Byte)) : s.alarm l =
    if decide (s.cust.alarms = 0) && (l.foldl Dev.alarmLatched s).cust.alarms != 0 then (l.foldl Dev.alarmLatched s).alarmErasure
    else l.foldl Dev.alarmLatched s := rfl

theorem Dev.beside_alarmLatched (x : Nat × Die × Nat × List Byte) : Dev.Beside s (s.alarmLatched x) := by
  unfold Dev.alarmLatched
  split
  · exact .refl s
  · exact Dev.Beside.trans (b := { s with cust := { s.cust with alarms := s.cust.alarms + 2 ^ x.1 } }) (.same rfl rfl) (.event _ _ _ _ _)

theorem Dev.beside_alarm (l : List (Nat × Die × Nat × List Byte)) : Dev.Beside s (s.alarm l) := by
  have hl : Dev.Beside s (l.foldl Dev.alarmLatched s) := .foldl Dev.beside_alarmLatched l s
  rw [Dev.alarm_eq]
  exact .ite (fun _ => hl.trans (Dev.alarmErasure_erases _).1.toBeside) (fun _ => hl)

theorem Dev.beside_sampleAlarm : Dev.Beside s (s.sampleAlarm rs) := by
  unfold Dev.sampleAlarm
  split
  · exact s.beside_alarm _
  · exact .refl s

end Beside

theorem Dev.beside_holdTemps (s : Dev) (rs : List (Nat × Int)) : Dev.Beside s (s.holdTemps rs) ∧ (s.holdTemps rs).regs = s.regs := by
  obtain ⟨m, r, h⟩ := s.holdTemps_eq rs
  rw [h]
  exact ⟨⟨rfl, List.prefix_append _ _⟩, rfl⟩

section Warned

/-- `d` is `a` with the sensors' readings `l` taken, before the warning is judged. -/
structure Dev.Read (a : Dev) (l : List Int) (d : Dev) : Prop where
  regs : d.regs = a.regs
  beside : Dev.Beside (a.quiet.sampled l) d

namespace Dev.Read

variable {a d : Dev} {l : List Int} (h : Dev.Read a l d)

include h

theorem pkg : ∃ t, d.pkg = { a.pkg with sensors := t } ∧ ∀ n, n < 20 →
    t.get {} n = if a.readable n then (a.sensor n).after (l.getD n 0) else a.sensor n := by
  obtain ⟨t, ht⟩ := a.quiet.sampled_eq l
  refine ⟨t, h.beside.pkg.trans (by rw [ht]; rfl), fun n hn => ?_⟩
  rw [show t.get {} n = (a.quiet.sampled l).sensor n by rw [ht]; rfl]
  exact a.quiet.sampled_sensor l hn

theorem warned : d.pkg.warned = a.pkg.warned := by
  obtain ⟨t, ht, -⟩ := h.pkg
  rw [ht]

theorem fld (f : Fld) (i : Nat) : d.fld f i = a.fld f i := by rw [Dev.fld, Dev.fld, h.regs]

theorem occ (id : Nat) (x : List Byte) :
    (⟨d.now, .pl, id, 0, x, !d.timeLoaded⟩ : Occ) = ⟨a.now, .pl, id, 0, x, !a.timeLoaded⟩ := by
  obtain ⟨t, ht⟩ := a.quiet.sampled_eq l
  rw [Dev.now, h.beside.time, h.beside.timeLoaded, ht]
  rfl

end Dev.Read

variable {s : State} {l : List Int} (h : s.dev.mode.standby = true ∧ s.dev.now % 10000 = 0 ∧ l.length = 20)

include h

/-- A sample ends in the warning of a device whose sensors took their readings, followed by nothing that touches the package (18 R686). -/
theorem temperatureSample_warns : ∃ d, Dev.Read s.dev l d ∧
    Answers (.temperatureSample l) s (fun t => t.dev.pkg = (d.thermalWarning (s.dev.readings l)).pkg ∧
      ∀ id x, (⟨d.now, .pl, id, 0, x, !d.timeLoaded⟩ : Occ) ∈ (d.thermalWarning (s.dev.readings l)).raised → s.told t .pl id x) := by
  have key : ∀ d e : Dev, Dev.Read s.dev l d → exec (.temperatureSample l) s = s.run (fun _ => e) →
      Dev.Beside (d.thermalWarning (s.dev.readings l)) e →
      Answers (.temperatureSample l) s (fun t => t.dev.pkg = (d.thermalWarning (s.dev.readings l)).pkg ∧
        ∀ id x, (⟨d.now, .pl, id, 0, x, !d.timeLoaded⟩ : Occ) ∈ (d.thermalWarning (s.dev.readings l)).raised → s.told t .pl id x) :=
    fun d e hr hx hb => .of_run hx ⟨(State.after_pkg s _).trans hb.pkg, fun id x hm =>
      State.told_plinth (hr.occ id x ▸ hb.raised.subset hm)⟩
  have hx := exec_temperatureSample h
  obtain ⟨x, hq⟩ := s.dev.quiet.sampled_eq l
  have hr : (s.dev.quiet.sampled l).regs = s.dev.regs := by rw [hq]; rfl
  cases hd : s.dev.mode.diesUp
  · rw [hd, if_neg Bool.false_ne_true] at hx
    obtain ⟨hb, hr'⟩ := (s.dev.quiet.sampled l).beside_holdTemps (s.dev.readings l)
    have hh : Dev.Read s.dev l ((s.dev.quiet.sampled l).holdTemps (s.dev.readings l)) := ⟨hr'.trans hr, hb⟩
    exact ⟨_, hh, key _ _ hh hx (.refl _)⟩
  · rw [hd, if_pos rfl] at hx
    have hh : Dev.Read s.dev l (s.dev.quiet.sampled l) := ⟨hr, .refl _⟩
    exact ⟨_, hh, key _ _ hh hx (((Dev.beside_ledgerTemps _ _).trans (Dev.beside_compositeNotice _)).trans (Dev.beside_sampleAlarm _ _))⟩

/-- Every sensor that can be read holds its reading (18 R684). -/
theorem temperatureSample_sensors : Answers (.temperatureSample l) s (fun t =>
    (∀ n, n < 20 → t.dev.sensor n = if s.dev.readable n then (s.dev.sensor n).after (l.getD n 0) else s.dev.sensor n) ∧
    t.dev.pkg.clocks = s.dev.pkg.clocks) := by
  obtain ⟨d, hd, hans⟩ := temperatureSample_warns h
  obtain ⟨x, hx, hsens⟩ := hd.pkg
  obtain ⟨w, r, hw⟩ := d.thermalWarning_eq (s.dev.readings l)
  refine hans.imp fun t ⟨hp, _⟩ => ?_
  rw [hw, hx] at hp
  refine ⟨fun n hn => ?_, by rw [hp]⟩
  rw [Dev.sensor, hp]
  exact hsens n hn

theorem temperatureSample_warned (hw : s.dev.pkg.warned = false)
    (ht : ∃ n, n < 20 ∧ s.dev.readable n = true ∧ (8 * s.dev.fld .THERM_CFG_WARN : Int) ≤ l.getD n 0) :
    Answers (.temperatureSample l) s (fun t => t.dev.pkg.warned = true ∧
      ∃ n, n < 20 ∧ s.dev.readable n = true ∧ (8 * s.dev.fld .THERM_CFG_WARN : Int) ≤ l.getD n 0 ∧
        s.told t .pl 0x0B0 (le 1 n ++ leSigned 2 (l.getD n 0))) := by
  obtain ⟨d, hd, hans⟩ := temperatureSample_warns h
  obtain ⟨n, hn, hr, ht⟩ := ht
  have hf : ((s.dev.readings l).find? (fun e => decide ((8 * d.fld .THERM_CFG_WARN : Int) ≤ e.2))).isSome = true :=
    List.find?_isSome.mpr ⟨(n, l.getD n 0), (s.dev.mem_readings l n _).mpr ⟨hn, hr, rfl⟩, decide_eq_true (by rwa [hd.fld])⟩
  obtain ⟨⟨m, x⟩, he⟩ := Option.isSome_iff_exists.mp hf
  obtain ⟨hm, hmr, rfl⟩ := (s.dev.mem_readings l m x).mp (List.mem_of_find?_eq_some he)
  have hmx : (8 * d.fld .THERM_CFG_WARN : Int) ≤ l.getD m 0 := by simpa using List.find?_some he
  refine hans.imp fun t ⟨hp, htold⟩ => ?_
  rw [Dev.thermalWarning_hot (hd.warned.trans hw) he] at hp htold
  refine ⟨congrArg Package.warned hp, m, hm, hmr, by rwa [hd.fld] at hmx, htold _ _ ?_⟩
  exact List.mem_append_right _ (List.mem_singleton.mpr rfl)

theorem temperatureSample_notWarned (hw : s.dev.pkg.warned = false)
    (ht : ∀ n, n < 20 → s.dev.readable n = true → l.getD n 0 < (8 * s.dev.fld .THERM_CFG_WARN : Int)) :
    Answers (.temperatureSample l) s (fun t => t.dev.pkg.warned = false) := by
  obtain ⟨d, hd, hans⟩ := temperatureSample_warns h
  have he : (s.dev.readings l).find? (fun e => decide ((8 * d.fld .THERM_CFG_WARN : Int) ≤ e.2)) = none := by
    refine List.find?_eq_none.mpr fun ⟨n, x⟩ hm => ?_
    obtain ⟨hn, hr, rfl⟩ := (s.dev.mem_readings l n x).mp hm
    simpa [hd.fld] using ht n hn hr
  refine hans.imp fun t ⟨hp, _⟩ => ?_
  rw [hp, Dev.thermalWarning_cold (hd.warned.trans hw) he, hd.warned, hw]

/-- All readings that count are 5 °C below WARN. -/
theorem temperatureSample_warningOver (hw : s.dev.pkg.warned = true)
    (ht : ∀ n, n < 20 → s.dev.readable n = true → l.getD n 0 < (8 * s.dev.fld .THERM_CFG_WARN : Int) - 40) :
    Answers (.temperatureSample l) s (fun t => t.dev.pkg.warned = false ∧ s.told t .pl 0x0B1) := by
  obtain ⟨d, hd, hans⟩ := temperatureSample_warns h
  have he : (s.dev.readings l).all (fun e => decide (e.2 < (8 * d.fld .THERM_CFG_WARN : Int) - 40)) = true := by
    refine List.all_eq_true.mpr fun ⟨n, x⟩ hm => ?_
    obtain ⟨hn, hr, rfl⟩ := (s.dev.mem_readings l n x).mp hm
    exact decide_eq_true (by rw [hd.fld]; exact ht n hn hr)
  refine hans.imp fun t ⟨hp, htold⟩ => ?_
  rw [Dev.thermalWarning_over (hd.warned.trans hw) he] at hp htold
  exact ⟨congrArg Package.warned hp, htold _ _ (List.mem_append_right _ (List.mem_singleton.mpr rfl))⟩

theorem temperatureSample_warningStays (hw : s.dev.pkg.warned = true)
    (ht : ∃ n, n < 20 ∧ s.dev.readable n = true ∧ (8 * s.dev.fld .THERM_CFG_WARN : Int) - 40 ≤ l.getD n 0) :
    Answers (.temperatureSample l) s (fun t => t.dev.pkg.warned = true) := by
  obtain ⟨d, hd, hans⟩ := temperatureSample_warns h
  obtain ⟨n, hn, hr, ht⟩ := ht
  have he : (s.dev.readings l).all (fun e => decide (e.2 < (8 * d.fld .THERM_CFG_WARN : Int) - 40)) = false := by
    refine List.all_eq_false.mpr ⟨(n, l.getD n 0), (s.dev.mem_readings l n _).mpr ⟨hn, hr, rfl⟩, ?_⟩
    rw [hd.fld, decide_eq_true_eq]
    exact not_lt.mpr ht
  refine hans.imp fun t ⟨hp, _⟩ => ?_
  rw [hp, Dev.thermalWarning_stays (hd.warned.trans hw) he, hd.warned, hw]

end Warned

end Sys2Proof.Machine
/-!
PROOF. A sample on powered dies (18 R684-R686; 07 R293, R296): the ledger dies, the composite temperature, and the alarm.
-/
namespace Sys2Proof.Machine

section Readings

variable {s : Dev} {l : List Int}

/-- Every sensor can be read once the dies are powered, unless an alarm holds (18 R684). -/
theorem Dev.readable_of_powered (hd : s.mode.diesUp = true) (ha : s.cust.alarms = 0) (n : Nat) : s.readable n = true := by
  simp [Dev.readable, hd, ha]

theorem Dev.readings_of_powered (hd : s.mode.diesUp = true) (ha : s.cust.alarms = 0) (l : List Int) :
    s.readings l = (List.range 20).map (fun n => (n, l.getD n 0)) := by
  rw [Dev.readings, List.filter_eq_self.mpr (fun n _ => Dev.readable_of_powered hd ha n)]

/-- Before, Plinth's two alone. -/
theorem Dev.readings_of_unpowered (hd : s.mode.diesUp = false) (l : List Int) :
    s.readings l = [(12, l.getD 12 0), (13, l.getD 13 0)] := by
  have hr : s.readable = fun n => n == 12 || n == 13 := by
    funext n
    simp [Dev.readable, hd]
  rw [Dev.readings, hr]
  rfl

theorem eq_map_getD (hl : l.length = 20) : l = (List.range 20).map (fun n => l.getD n 0) := by
  refine List.ext_getElem (by simp [hl]) (fun n hn _ => ?_)
  simp [List.getElem?_eq_getElem hn]

/-- The ledger dies' readings, sensors 16 to 19. -/
theorem drop_eq_ledgerReadings (hl : l.length = 20) : l.drop 16 = [l.getD 16 0, l.getD 17 0, l.getD 18 0, l.getD 19 0] :=
  (congrArg (List.drop 16) (eq_map_getD hl)).trans rfl

theorem Dev.ledgerReadings_of_powered (hd : s.mode.diesUp = true) (ha : s.cust.alarms = 0) (hl : l.length = 20) :
    ((s.readings l).filter (fun e => decide (16 ≤ e.1))).map Prod.snd = l.getD 16 0 :: l.drop 17 := by
  rw [Dev.readings_of_powered hd ha, show l.drop 17 = (l.drop 16).tail by simp, drop_eq_ledgerReadings hl]
  rfl

theorem foldl_max_le_iff (b : Int) (ts : List Int) : ∀ t, ts.foldl max t ≤ b ↔ ∀ x ∈ t :: ts, x ≤ b := by
  induction ts with
  | nil => simp
  | cons u ts ih => intro t; simp [ih, and_assoc]

end Readings

section Notes

/-- What a sample on powered dies notes, up to the alarm: the package, the ledger's wear from its readings `ts`, and the controllers' notes. -/
structure Dev.Noted (t : Int) (ts : List Int) (a b : Dev) : Prop where
  rest : ∃ pkg wear nvme r, b = { a with pkg := pkg, ldg := { a.ldg with wear := wear }, nvme := nvme, raised := r }
  now : b.ldg.wear.tempNow = ts.foldl max t
  cool : ts.foldl max t ≤ 880 → b.ldg.wear.hot = a.ldg.wear.hot
  hot : 880 < ts.foldl max t → b.ldg.wear.hot = true ∧ b.ldg.wear.hotAt = a.now
  ctrls : ∀ k, (b.ctrl k).isSome = (a.ctrl k).isSome ∧ (b.ctrl k).all (·.toldOf b.composite) = true

theorem Dev.noted_sampleNoted (s : Dev) (l : List Int) {rs : List (Nat × Int)} {t : Int} {ts : List Int}
    (hr : (rs.filter (fun e => decide (16 ≤ e.1))).map Prod.snd = t :: ts) : Dev.Noted t ts s ((s.sampled l).sampleNoted rs) := by
  unfold Dev.sampleNoted
  obtain ⟨sens, hs⟩ := s.sampled_eq l
  generalize s.sampled l = a at hs ⊢
  obtain ⟨w, r, hw⟩ := a.thermalWarning_eq rs
  generalize a.thermalWarning rs = b at hw ⊢
  obtain ⟨wear, r', hl, hwear⟩ := b.ledgerTemps_eq rs
  generalize b.ledgerTemps rs = c at hl ⊢
  obtain ⟨⟨x, y, hc⟩, hctrl⟩ := c.compositeNotice_told
  generalize c.compositeNotice = d at hc hctrl ⊢
  subst hs hw hl hc
  obtain ⟨hnow, hcool, hhot⟩ := hwear t ts hr
  exact ⟨⟨_, _, _, _, rfl⟩, hnow, hcool, hhot, hctrl⟩

theorem Dev.Noted.frame {t : Int} {ts : List Int} {a b : Dev} (h : Dev.Noted t ts a b) : Dev.OnlyChanged [.pkg, .ldg, .nvme] [] [] a b := by
  obtain ⟨pkg, wear, nvme, r, rfl⟩ := h.rest
  refine .ofParts (fun p hp => ?_) rfl rfl
  cases p with
  | pkg | ldg | nvme => exact absurd (by simp) hp
  | _ => rfl

theorem State.after_wear (s : State) (d : Dev) : (s.after (fun _ => d)).dev.ldg.wear = d.ldg.wear := by
  have h := congrArg Ledger.wear (s.after_same (fun _ => d)).ldg
  exact h

variable {s : State} {l : List Int} (h : s.dev.mode.standby = true ∧ s.dev.now % 10000 = 0 ∧ l.length = 20)
  (hp : s.dev.mode.diesUp = true ∧ s.dev.cust.alarms = 0)

include h hp

theorem exec_temperatureSample_powered : exec (.temperatureSample l) s =
    s.run (fun _ => ((s.dev.quiet.sampled l).sampleNoted (s.dev.readings l)).sampleAlarm (s.dev.readings l)) ∧
    Dev.Noted (l.getD 16 0) (l.drop 17) s.dev.quiet ((s.dev.quiet.sampled l).sampleNoted (s.dev.readings l)) := by
  obtain ⟨hd, ha⟩ := hp
  have hx := exec_temperatureSample h
  rw [hd, if_pos rfl] at hx
  exact ⟨hx, s.dev.quiet.noted_sampleNoted l (Dev.ledgerReadings_of_powered hd ha h.2.2)⟩

/-- A sample with every reading within -60 to +135 °C. -/
theorem temperatureSample_inRange (hr : l.all (fun r => decide (-480 ≤ r) && decide (r ≤ 1080)) = true) :
    Answers (.temperatureSample l) s (fun t => t.dev.cust = s.dev.cust ∧ t.dev.ldg.wear.tempNow = (l.drop 17).foldl max (l.getD 16 0) ∧
      ((l.drop 16).all (fun r => decide (r ≤ 880)) = true → t.dev.ldg.wear.hot = s.dev.ldg.wear.hot) ∧
      ((l.drop 16).any (fun r => decide (880 < r)) = true → t.dev.ldg.wear.hot = true ∧ t.dev.ldg.wear.hotAt = s.dev.now) ∧
      (∀ k, (t.dev.ctrl k).isSome = (s.dev.ctrl k).isSome ∧ (t.dev.ctrl k).all (·.toldOf t.dev.composite) = true) ∧
      Dev.OnlyChanged [.pkg, .ldg, .nvme] [] [] s.dev t.dev) := by
  obtain ⟨hx, hn⟩ := exec_temperatureSample_powered h hp
  have hf : (s.dev.readings l).find? (fun e => decide (e.2 < -480) || decide (1080 < e.2)) = none := by
    refine List.find?_eq_none.mpr fun ⟨n, x⟩ hm => ?_
    obtain ⟨hn, -, rfl⟩ := (s.dev.mem_readings l n x).mp hm
    have hmem : l.getD n 0 ∈ l := by
      rw [List.getD_eq_getElem _ _ (h.2.2.symm ▸ hn)]
      exact List.getElem_mem _
    have := List.all_eq_true.mp hr _ hmem
    simp only [Bool.and_eq_true, decide_eq_true_eq] at this
    simp only [Bool.or_eq_true, decide_eq_true_eq]
    omega
  simp only [Dev.sampleAlarm, hf] at hx
  generalize (s.dev.quiet.sampled l).sampleNoted (s.dev.readings l) = d at hx hn
  have hdrop : l.drop 16 = l.getD 16 0 :: l.drop 17 := by
    rw [show l.drop 17 = (l.drop 16).tail by simp, drop_eq_ledgerReadings h.2.2, List.tail_cons]
  have hframe := hn.frame
  obtain ⟨⟨pkg, wear, nvme, r, hd⟩, hnow, hcool, hhot, hctrl⟩ := hn
  have hwear := s.after_wear d
  refine .of_run hx ⟨?_, ?_, fun hall => ?_, fun hany => ?_, fun k => ?_, State.onlyChanged_of_quiet hframe (by rw [hd]; rfl) (by rw [hd]; rfl)⟩
  · rw [State.after_cust, hd]
    rfl
  · rw [hwear, hnow]
  · rw [hwear]
    refine hcool ((foldl_max_le_iff 880 _ _).mpr fun x hm => ?_)
    simpa using List.all_eq_true.mp hall x (hdrop ▸ hm)
  · rw [hwear]
    refine hhot (lt_of_not_ge fun hle => ?_)
    obtain ⟨x, hm, hlt⟩ := List.any_eq_true.mp hany
    exact absurd ((foldl_max_le_iff 880 _ _).mp hle x (hdrop ▸ hm)) (not_le.mpr (of_decide_eq_true hlt))
  · rw [Dev.ctrl, State.after_nvme, Dev.composite, State.after_pkg]
    exact hctrl k

/-- A sample with a reading outside -60 to +135 °C is the alarm of source 3 (07 R293, R296). -/
theorem temperatureSample_alarm (hr : l.any (fun r => decide (r < -480) || decide (1080 < r)) = true) :
    Answers (.temperatureSample l) s (fun t => t.dev.cust.alarms = 8 ∧ t.dev.modeNow = .safe ∧ t.dev.cust.cs = none ∧
      t.dev.cust.kek = none ∧ s.toldOf t .pl 0x0E3 ∧ s.told t .pl 0x30A (le 1 8) ∧
      Dev.OnlyChanged [.pkg, .ldg, .nvme, .cust, .fresh, .od, .arch, .sw, .net, .ten] [] [] s.dev t.dev) := by
  obtain ⟨hx, hn⟩ := exec_temperatureSample_powered h hp
  have hf : ((s.dev.readings l).find? (fun e => decide (e.2 < -480) || decide (1080 < e.2))).isSome = true := by
    obtain ⟨x, hm, hx⟩ := List.any_eq_true.mp hr
    obtain ⟨n, hn, rfl⟩ := List.getElem_of_mem hm
    refine List.find?_isSome.mpr ⟨(n, l.getD n 0), (s.dev.mem_readings l n _).mpr ⟨h.2.2 ▸ hn, ?_, rfl⟩, ?_⟩
    · exact Dev.readable_of_powered hp.1 hp.2 n
    · rwa [List.getD_eq_getElem _ _ hn]
  obtain ⟨e, he⟩ := Option.isSome_iff_exists.mp hf
  have hframe := hn.frame
  obtain ⟨⟨pkg, wear, nvme, r, hd⟩, -, -, -, -⟩ := hn
  simp only [Dev.sampleAlarm, he] at hx
  generalize (s.dev.quiet.sampled l).sampleNoted (s.dev.readings l) = d at hx hd hframe
  have h0 : d.cust.alarms = 0 := by
    rw [hd]
    exact hp.2
  have hnow : d.now = s.dev.now := by rw [hd]; rfl
  have hloaded : d.timeLoaded = s.dev.timeLoaded := by rw [hd]; rfl
  obtain ⟨hal, hcs, hkek, htold, herased, her⟩ := d.alarm_first h0 3 0x0E3 (leSigned 2 e.2)
  rw [hnow, hloaded] at htold herased
  have hal' : (s.after (fun _ => d.alarm [(3, .pl, 0x0E3, leSigned 2 e.2)])).dev.cust.alarms = 8 := by
    rw [State.after_cust, hal]
    rfl
  refine .of_run hx ⟨hal', if_pos (by rw [hal']; decide), ?_, ?_, (State.told_plinth htold).toldOf, State.told_plinth herased,
    State.after_onlyChanged' ?_ (by simp) (by simp) (by simp)⟩
  · rw [State.after_cust, hcs]
  · rw [State.after_cust, hkek]
  · exact Dev.OnlyChanged.quiet.trans
      ((hframe.mono (by simp) (by simp) (by simp)).trans (her.mono (by simp [erasedParts]) (by simp) (by simp)))

end Notes

end Sys2Proof.Machine
/-!
PROOF. A sample before the release (17 R649), a read of DIE_TEMP, and the settlement of O57.
-/
namespace Sys2Proof.Machine

theorem contains_sortNat_append (k : Nat) (l : List Nat) (c : Nat) : (sortNat (l ++ [c])).contains k = (l.contains k || k == c) := by
  rw [Bool.eq_iff_iff]
  simp [mem_sortNat]

section Hold

variable {s : Dev} {rs : List (Nat × Int)}

/-- A span whose conditions do not hold has not begun. -/
theorem Span.settle_false_since (x : Span) (now : Nat) : (x.settle now false).since = none := by
  unfold Span.settle
  split
  · contradiction
  · contradiction
  · contradiction
  · rfl
  · assumption

theorem Dev.holdTemps_good (hf : rs.find? (fun e => decide (e.2 < -440) || decide (1000 < e.2)) = none) :
    (s.holdTemps rs).mode.tempOk = true ∧ (s.holdTemps rs).mode.tempNoted = s.mode.tempNoted := by
  simp only [Dev.holdTemps, hf]
  exact ⟨rfl, rfl⟩

theorem Dev.holdTemps_bad {e : Nat × Int} (hf : rs.find? (fun e => decide (e.2 < -440) || decide (1000 < e.2)) = some e) :
    (s.holdTemps rs).mode.tempOk = false ∧ (s.holdTemps rs).mode.tempNoted = true ∧ (s.holdTemps rs).mode.hold.since = none ∧
    (s.mode.tempNoted = false → (⟨s.now, .pl, 0x0C1, 0, leSigned 2 e.2, !s.timeLoaded⟩ : Occ) ∈ (s.holdTemps rs).raised) := by
  simp only [Dev.holdTemps, hf]
  refine ⟨rfl, rfl, ?_, fun hn => ?_⟩
  · have hk : ∀ d : Dev, d.mode.tempOk = false → d.holdOk = false := fun d h => by simp [Dev.holdOk, h]
    simp only [Dev.holdSettle]
    rw [hk _ rfl]
    exact Span.settle_false_since _ _
  · rw [hn]
    exact List.mem_append_right _ (List.mem_singleton.mpr rfl)

theorem State.after_hold (s : State) (d : Dev) : (s.after (fun _ => d)).dev.mode.tempOk = d.mode.tempOk ∧
    (s.after (fun _ => d)).dev.mode.tempNoted = d.mode.tempNoted ∧ (s.after (fun _ => d)).dev.mode.hold = d.mode.hold := by
  have h := (s.after_same (fun _ => d)).mode
  have h₁ := congrArg ModeState.tempOk h
  have h₂ := congrArg ModeState.tempNoted h
  have h₃ := congrArg ModeState.hold h
  exact ⟨h₁, h₂, h₃⟩

variable {s : State} {l : List Int} {a b : Int}
  (h : s.dev.mode.standby = true ∧ s.dev.now % 10000 = 0 ∧ l.length = 20 ∧ s.dev.mode.diesUp = false)

include h

/-- A sample before the release changes the package's part and the mode's, the mode as the hold's judgement of the readings leaves it. -/
theorem temperatureSample_unpowered : ∃ d : Dev, d.mode = s.dev.mode ∧ d.now = s.dev.now ∧ d.timeLoaded = s.dev.timeLoaded ∧
    Answers (.temperatureSample l) s (fun t =>
      t.dev.mode.tempOk = (d.holdTemps (s.dev.readings l)).mode.tempOk ∧
      t.dev.mode.tempNoted = (d.holdTemps (s.dev.readings l)).mode.tempNoted ∧
      t.dev.mode.hold = (d.holdTemps (s.dev.readings l)).mode.hold ∧
      (∀ id x, (⟨s.dev.now, .pl, id, 0, x, !s.dev.timeLoaded⟩ : Occ) ∈ (d.holdTemps (s.dev.readings l)).raised → s.told t .pl id x) ∧
      Dev.OnlyChanged [.pkg, .mode] [] [] s.dev t.dev) := by
  obtain ⟨hs, hn, hl, hd⟩ := h
  have hx := exec_temperatureSample ⟨hs, hn, hl⟩
  rw [hd, if_neg Bool.false_ne_true] at hx
  change _ = s.run (fun _ => ((s.dev.quiet.sampled l).holdTemps (s.dev.readings l)).thermalWarning (s.dev.readings l)) at hx
  obtain ⟨sens, hq⟩ := s.dev.quiet.sampled_eq l
  refine ⟨s.dev.quiet.sampled l, by rw [hq]; rfl, by rw [hq]; rfl, by rw [hq]; rfl, ?_⟩
  generalize s.dev.quiet.sampled l = d at hx hq
  generalize s.dev.readings l = rs at hx
  obtain ⟨m, r, hh⟩ := d.holdTemps_eq rs
  generalize d.holdTemps rs = e at hx hh
  obtain ⟨w, r', hw⟩ := e.thermalWarning_eq rs
  generalize e.thermalWarning rs = f at hx hw
  have hm := s.after_hold f
  have hmode : f.mode = e.mode := by rw [hw]
  have hraised : e.raised ⊆ f.raised := by
    rw [hw]
    exact List.subset_append_left _ _
  rw [hmode] at hm
  obtain ⟨hok, hnoted, hhold⟩ := hm
  refine .of_run hx ⟨hok, hnoted, hhold, fun id x ho => State.told_plinth (hraised ho), ?_⟩
  subst hw hh hq
  refine State.onlyChanged_of_quiet (.ofParts (fun p hp => ?_) rfl rfl) rfl rfl
  cases p with
  | pkg | mode => exact absurd (by simp) hp
  | _ => rfl

variable (hr : l.getD 12 0 = a ∧ l.getD 13 0 = b)

include hr

/-- Plinth's sensors within -55 to +125 °C let the start-up go on. -/
theorem temperatureSample_holdOver (ha : -440 ≤ a) (ha' : a ≤ 1000) (hb : -440 ≤ b) (hb' : b ≤ 1000) :
    Answers (.temperatureSample l) s (fun t => t.dev.mode.tempOk = true ∧ t.dev.mode.tempNoted = s.dev.mode.tempNoted ∧
      Dev.OnlyChanged [.pkg, .mode] [] [] s.dev t.dev) := by
  obtain ⟨d, hm, -, -, hans⟩ := temperatureSample_unpowered h
  rw [Dev.readings_of_unpowered h.2.2.2, hr.1, hr.2] at hans
  obtain ⟨hok, hnoted⟩ := Dev.holdTemps_good (s := d) (rs := [(12, a), (13, b)])
    (List.find?_eq_none.mpr (by simp [ha, ha', hb, hb']))
  exact hans.imp fun t ⟨h₁, h₂, _, _, hframe⟩ => ⟨h₁.trans hok, h₂.trans (hnoted.trans (by rw [hm])), hframe⟩

/-- One outside holds it, with 0C1h once per hold. -/
theorem temperatureSample_held (hbad : a < -440 ∨ 1000 < a ∨ b < -440 ∨ 1000 < b) :
    Answers (.temperatureSample l) s (fun t => t.dev.mode.tempOk = false ∧ t.dev.mode.tempNoted = true ∧ t.dev.mode.hold.since = none ∧
      (s.dev.mode.tempNoted = false → s.told t .pl 0x0C1 (leSigned 2 (if a < -440 ∨ 1000 < a then a else b))) ∧
      Dev.OnlyChanged [.pkg, .mode] [] [] s.dev t.dev) := by
  obtain ⟨d, hm, hnow, hloaded, hans⟩ := temperatureSample_unpowered h
  rw [Dev.readings_of_unpowered h.2.2.2, hr.1, hr.2] at hans
  have hf : ∃ n, [((12 : Nat), a), (13, b)].find? (fun e => decide (e.2 < -440) || decide (1000 < e.2)) =
      some (n, if a < -440 ∨ 1000 < a then a else b) := by
    by_cases h12 : a < -440 ∨ 1000 < a
    · exact ⟨12, by rw [List.find?_cons_of_pos (by simpa using h12), if_pos h12]⟩
    · have h13 : b < -440 ∨ 1000 < b := by omega
      exact ⟨13, by rw [List.find?_cons_of_neg (by simpa using h12), List.find?_cons_of_pos (by simpa using h13), if_neg h12]⟩
  obtain ⟨n, hf⟩ := hf
  obtain ⟨hok, hnoted, hsince, htold⟩ := Dev.holdTemps_bad (s := d) hf
  rw [hm, hnow, hloaded] at htold
  exact hans.imp fun t ⟨h₁, h₂, h₃, h₄, hframe⟩ =>
    ⟨h₁.trans hok, h₂.trans hnoted, (congrArg Span.since h₃).trans hsince, fun hn => h₄ _ _ (htold hn), hframe⟩

end Hold

/-- A read of DIE_TEMP answers PEAK and NOW and clears PEAK (18 R684). -/
theorem dieTempRead_answers {s : State} (req : Requester) {sensor : Fin 20} {n : Nat}
    (h : s.dev.served = true ∧ sensor.val = n ∧ s.dev.blockIsolated (Reg.addr .DIE_TEMP n) = false) :
    Answers (.dieTempRead req sensor) s (fun t => t.dev.sensor n = { s.dev.sensor n with peak := none } ∧
      (∀ m, m ≠ n → t.dev.sensor m = s.dev.sensor m) ∧ t.dev.pkg.warned = s.dev.pkg.warned ∧ t.dev.pkg.clocks = s.dev.pkg.clocks ∧
      Out.value req (BitVec.ofNat 32 (unsigned 16 ((s.dev.sensor n).peak.getD 0) * 65536 + unsigned 16 (s.dev.sensor n).now)) ∈ t.dev.out ∧
      Dev.OnlyChanged [.pkg] [] [] s.dev t.dev) := by
  obtain ⟨hs, rfl, hi⟩ := h
  have hx : exec (.dieTempRead req sensor) s = s.run (fun _ =>
      ({ s.dev.quiet with pkg := { s.dev.pkg with sensors := s.dev.pkg.sensors.put {} sensor.val { s.dev.sensor sensor.val with peak := none } } } : Dev).answer req
        (unsigned 16 ((s.dev.sensor sensor.val).peak.getD 0) * 65536 + unsigned 16 (s.dev.sensor sensor.val).now)) :=
    State.run_eq_of_quiet (Dev.regRead_served (s := s.dev.quiet) req _ hs hi)
  refine .of_run hx ⟨?_, fun m hm => ?_, ?_, ?_, State.after_mem_out s _ (List.mem_singleton.mpr rfl),
    State.onlyChanged_of_quiet ((Dev.OnlyChanged.pkg _).trans (.emit _)) rfl rfl⟩
  · rw [Dev.sensor, State.after_pkg]
    exact Table.get_put_self _ _ _ _
  · rw [Dev.sensor, State.after_pkg]
    exact Table.get_put_other _ _ _ hm
  · rw [State.after_pkg]
    rfl
  · rw [State.after_pkg]
    rfl

/-- Settles O57: a sample takes the readings and judges them, before the release for the hold, then for the warning, the ledger dies, the composite
temperature and the alarm; a clock that is lost takes down what hangs on it and changes nothing else of the package. -/
theorem temperaturesAndClocks : Obligations.TemperaturesAndClocks := by
  refine ⟨fun s l h => ⟨temperatureSample_sensors h, temperatureSample_warned h, temperatureSample_warningOver h,
      temperatureSample_warningStays h, temperatureSample_notWarned h⟩,
    fun s l h hp => ⟨temperatureSample_inRange h hp, temperatureSample_alarm h hp⟩,
    fun s l a b h hr => ⟨temperatureSample_holdOver h hr, temperatureSample_held h hr⟩,
    fun s req sensor n => dieTempRead_answers req, ?_⟩
  rintro s clock _ ⟨hs, rfl⟩
  refine ⟨fun hc => (refclockLoss_answers hs hc).imp fun t ⟨hpkg, htold, _, hup⟩ => ?_,
    fun hc => (refclockLoss_answers hs hc).imp fun t ⟨_, _, hdown, hup⟩ => ?_,
    fun hc => (refclockReturn_answers hs hc).imp fun t ⟨hpkg, hframe⟩ => ?_⟩
  · refine ⟨hpkg, htold, fun hk hd hp => ?_, fun hk hd m hm => ?_, fun hk hd m hm hm' => ?_⟩
    all_goals
      rw [hup hd, hk]
    · exact s.withoutClock_ptp hp
    · exact s.withoutClock_macs_one hm
    · exact s.withoutClock_macs_two hm hm'
  · refine ⟨fun hk hd k hlt => ?_, fun hk hd n hn hl => ?_, fun hk hd n hn hl => ?_, fun hk hd => ?_, hdown⟩
    all_goals
      rw [hup hd, hk]
    · exact s.withoutClock_bonds hlt
    · exact s.withoutClock_ports_four hn hl
    · exact s.withoutClock_ports_five hn hl
    · exact s.withoutClock_endpoint
  · rw [hpkg]
    exact ⟨fun k _ => contains_sortNat_append k _ _, rfl, rfl, hframe⟩

end Sys2Proof.Machine
/-!
PROOF. The access errors of the control space (01 R47-R49): what an access that meets one leaves, and the settlement of O7.
-/
namespace Sys2Proof.Machine

/-- The bit of GLB_ERR that an access error sets (01 GLB_ERR). -/
def CsError.fld : CsError → Fld
  | .unmapped => .GLB_ERR_CS_UNMAPPED
  | .isolated => .GLB_ERR_CS_ISOLATED
  | .misaligned => .GLB_ERR_CS_MISALIGNED

theorem Dev.csError_eq (d : Dev) (e : CsError) (addr : Nat) :
    d.csError e addr = (d.setFld e.fld 0 1).event .ln 0x0FC (le 8 addr ++ le 1 e.bit) := by cases e <;> rfl

theorem Dev.csError_fld_self (d : Dev) (e : CsError) (addr : Nat) : (d.csError e addr).fld e.fld = 1 := by
  rw [d.csError_eq e addr]
  exact (Dev.fld_setFld_self d e.fld 0 1).trans (by cases e <;> rfl)

theorem Dev.csError_raised (d : Dev) (e : CsError) (addr : Nat) : (d.csError e addr).raised =
    d.raised ++ [⟨d.nowOn .ln, .ln, 0x0FC, 0, le 8 addr ++ le 1 e.bit, !d.timeLoaded⟩] := by
  rw [d.csError_eq e addr]
  rfl

theorem Dev.csError_arch (d : Dev) (e : CsError) (addr : Nat) : (d.csError e addr).arch = d.arch := by cases e <;> rfl

theorem Dev.csError_own (d : Dev) (e : CsError) (addr : Nat) : (d.csError e addr).own = d.own := by cases e <;> rfl

theorem Dev.OnlyChanged.csError (d : Dev) (e : CsError) (addr : Nat) : Dev.OnlyChanged [] [e.fld] [] d (d.csError e addr) := by
  rw [d.csError_eq e addr]
  exact (Dev.OnlyChanged.setFld _ _ _ (List.mem_singleton.mpr rfl)).trans (.event _ _ _ _)

/-- A read's answer adds nothing but the value sent to what the access error leaves. -/
theorem Dev.csAccess_eq (d : Dev) (req : Requester) (e : CsError) (addr : Nat) (write : Bool) : d.csAccess req e addr write =
    { d.csError e addr with out := (d.csError e addr).out ++ if write then [] else [.value req (BitVec.ofNat 32 e.readValue)] } := by
  cases write with
  | true => simp [Dev.csAccess]
  | false => rfl

/-- A command that is an access which meets the error `e`: its bit, its event and a read's answer, and nothing else changes. -/
theorem csAccess_answers {c : Instr} {s : State} {req : Requester} {e : CsError} {addr : Nat} {write : Bool}
    (hx : exec c s = s.run (fun _ => s.dev.quiet.csAccess req e addr write)) :
    Answers c s (fun t => t.dev.flag e.fld = true ∧ (write = false → Out.value req (BitVec.ofNat 32 e.readValue) ∈ t.dev.out) ∧
      (s.hears .ln → s.told t .ln 0x0FC (le 8 addr ++ le 1 e.bit)) ∧ Dev.OnlyChanged [] [e.fld] [] s.dev t.dev) := by
  rw [Dev.csAccess_eq] at hx
  refine .of_run hx ⟨?flag, fun hw => State.after_mem_out s _ ?value, fun hr => State.after_told ?event hr, ?frame⟩
  case flag =>
    rw [State.after_flag]
    exact bne_iff_ne.mpr ((s.dev.quiet.csError_fld_self e addr).trans_ne one_ne_zero)
  case value => simp [hw]
  case event =>
    show _ ∈ (s.dev.quiet.csError e addr).raised.take 16
    rw [Dev.csError_raised]
    exact List.mem_singleton.mpr rfl
  case frame =>
    exact State.onlyChanged_of_quiet ((Dev.OnlyChanged.csError _ e addr).trans (.ofParts (fun p _ => by cases p <;> rfl) rfl rfl))
      (Dev.csError_arch _ e addr) (Dev.csError_own _ e addr)

/-- Settles O7: each of the three commands makes the same access and meets its own error. -/
theorem accessErrors : Obligations.AccessErrors :=
  ⟨fun _ _ _ _ hs => csAccess_answers (e := .unmapped) (State.runIf_eq_of_quiet hs rfl),
    fun _ _ _ _ hs hi => csAccess_answers (e := .isolated) (State.runIf_eq_of_quiet (Bool.and_eq_true_iff.mpr ⟨hs, hi⟩) rfl),
    fun _ _ _ _ hs => csAccess_answers (e := .misaligned) (State.runIf_eq_of_quiet hs rfl)⟩

end Sys2Proof.Machine
/-!
PROOF. Egress queues and the pool's admission (02 R71, R78; 06 R253-R255, R262): what a frame that enters a MAC's queue changes, and what a unit that
asks for its cells leaves as it was.
-/
namespace Sys2Proof.Machine

section Macs

variable (x : Mac) (q : Nat) (l : List TxFrame)

@[simp] theorem Mac.setQueue_txLpi : (x.setQueue q l).txLpi = x.txLpi := by unfold Mac.setQueue; split <;> rfl
@[simp] theorem Mac.setQueue_twTx : (x.setQueue q l).twTx = x.twTx := by unfold Mac.setQueue; split <;> rfl
@[simp] theorem Mac.queue_setQueue_self : (x.setQueue q l).queue q = l := by
  match q with
  | 0 | 1 | 2 | _ + 3 => rfl

/-- A MAC in transmit LPI leaves it at tick `t` and holds transmission for TW_TX (02 R78). -/
def Mac.wake (t : Nat) : Mac := if x.txLpi then { x with txLpi := false, waking := some (t + x.twTx * us) } else x

@[simp] theorem Mac.wake_txLpi (t : Nat) : (x.wake t).txLpi = false := by
  cases h : x.txLpi <;> simp [Mac.wake, h]

@[simp] theorem Mac.wake_queue (t : Nat) : (x.wake t).queue q = x.queue q := by
  unfold Mac.wake
  split <;> rfl

theorem Mac.wake_waking_of_lpi (t : Nat) (h : x.txLpi = true) : (x.wake t).waking = some (t + x.twTx * us) := by simp [Mac.wake, h]

end Macs

section Egress

variable (s : Dev) (m q : Nat) (f : TxFrame)

/-- Bringing the credits up to now changes the credits alone. -/
theorem Dev.mac_creditSync_self : (s.creditSync m).mac m = { s.mac m with
    credit0 := ⟨s.creditNow m 0, s.nowOn .ln⟩, credit1 := ⟨s.creditNow m 1, s.nowOn .ln⟩, credit2 := ⟨s.creditNow m 2, s.nowOn .ln⟩ } :=
  Dev.mac_setMac_self ..

theorem Dev.mac_creditSync_other {j : Nat} (h : j ≠ m) : (s.creditSync m).mac j = s.mac j := Dev.mac_setMac_other _ _ _ _ h

@[simp] theorem Dev.creditSync_txLpi : ((s.creditSync m).mac m).txLpi = (s.mac m).txLpi := by rw [s.mac_creditSync_self]
@[simp] theorem Dev.creditSync_twTx : ((s.creditSync m).mac m).twTx = (s.mac m).twTx := by rw [s.mac_creditSync_self]

/-- A frame enters at the end of its queue, with the credits brought up to now, and wakes a MAC in transmit LPI (02 R71, R78). -/
theorem Dev.pushEgress_eq : s.pushEgress m q f = (s.creditSync m).setMac m
    ((((s.creditSync m).mac m).setQueue q (((s.creditSync m).mac m).queue q ++ [f])).wake (s.nowOn .ln)) := by
  match q with
  | 0 | 1 | 2 | _ + 3 => rfl

theorem Dev.mac_pushEgress_other {j : Nat} (h : j ≠ m) : (s.pushEgress m q f).mac j = s.mac j := by
  rw [s.pushEgress_eq, Dev.mac_setMac_other _ _ _ _ h, s.mac_creditSync_other m h]

theorem Dev.pushEgress_txLpi : ((s.pushEgress m q f).mac m).txLpi = false := by simp [s.pushEgress_eq]

theorem Dev.mem_pushEgress_queue : f ∈ ((s.pushEgress m q f).mac m).queue q := by simp [s.pushEgress_eq]

theorem Dev.pushEgress_waking_of_lpi (h : (s.mac m).txLpi = true) :
    ((s.pushEgress m q f).mac m).waking = some (s.nowOn .ln + (s.mac m).twTx * us) := by
  rw [s.pushEgress_eq, Dev.mac_setMac_self, Mac.wake_waking_of_lpi _ _ (by simpa using h)]
  simp

end Egress

/-- The ports, the pool and the counters `cs` may differ; what was sent out is still there. -/
structure Dev.PortStep (cs : List Ctr) (a b : Dev) : Prop where
  frame : Dev.OnlyChanged [.net, .sw] [] cs a b
  arch : b.arch = a.arch
  own : b.own = a.own
  out : a.out <+: b.out

namespace Dev.PortStep

variable {cs : List Ctr} {a b c : Dev} {s : Dev}

theorem trans (h : Dev.PortStep cs a b) (k : Dev.PortStep cs b c) : Dev.PortStep cs a c :=
  ⟨h.frame.trans k.frame, k.arch.trans h.arch, k.own.trans h.own, h.out.trans k.out⟩

theorem within (n : Net) (w : Pool) (r : List Occ) : Dev.PortStep cs s { s with net := n, sw := w, raised := r } := by
  refine ⟨.ofParts (fun p hp => ?_) rfl rfl, rfl, rfl, List.prefix_rfl⟩
  cases p with
  | net | sw => exact absurd (by simp) hp
  | _ => rfl

theorem emit (o : Out) : Dev.PortStep cs s (s.emit o) := ⟨.emit o, rfl, rfl, List.prefix_append _ _⟩

theorem event (d : Die) (id : Nat) (x : List Byte) (k : Nat) : Dev.PortStep cs s (s.event d id x k) := ⟨.event d id x k, rfl, rfl, List.prefix_rfl⟩

theorem count (e : Ctr) (i n : Nat) (h : e ∈ cs) : Dev.PortStep cs s (s.count e i n) := ⟨.count e i n h, rfl, rfl, List.prefix_rfl⟩

/-- A counter that settles with every command needs no naming. -/
theorem countSettling (e : Ctr) (i n : Nat) (h : e ∈ settleCtrs) : Dev.PortStep cs s (s.count e i n) :=
  ⟨⟨fun p _ => by cases p <;> rfl, fun _ _ _ => rfl, fun _ _ hc _ => Dev.ctr_count_other s n (.inl (fun he => hc (he ▸ h)))⟩, rfl, rfl,
    List.prefix_rfl⟩

theorem setMac (m : Nat) (x : Mac) : Dev.PortStep cs s (s.setMac m x) := .within (s.setMac m x).net s.sw s.raised

theorem creditSync (m : Nat) : Dev.PortStep cs s (s.creditSync m) := .setMac m _

theorem pushEgress (m q : Nat) (f : TxFrame) : Dev.PortStep cs s (s.pushEgress m q f) := by
  rw [s.pushEgress_eq]
  exact (Dev.PortStep.creditSync m).trans (.setMac m _)

end Dev.PortStep

section Pool

variable (s : Dev)

/-- An allocation counts its cells; beyond that it changes the pool's gauges and may warn (06 R265). -/
theorem Dev.afterAlloc_eq (i o c n : Nat) : s.afterAlloc i o c n =
    { s.count .SW_CELLS_ALLOC 0 n with sw := (s.afterAlloc i o c n).sw, raised := (s.afterAlloc i o c n).raised } := by
  unfold Dev.afterAlloc
  dsimp only
  split <;> rfl

theorem Dev.afterAlloc_nextId (i o c n : Nat) : (s.afterAlloc i o c n).sw.nextId = s.sw.nextId := by
  unfold Dev.afterAlloc
  dsimp only
  split <;> rfl

/-- A unit charged in the pool, before its frame enters its queue (06 R255). -/
def Dev.charged (u : PoolUnit) : Dev :=
  (s.setUnits (s.sw.units ++ [u]) [voqIndex u.input u.output u.cls]).afterAlloc u.input u.output u.cls u.cells

variable (u : PoolUnit)

theorem Dev.placeUnit_eq : s.placeUnit u = (s.charged u).frameArrives u := rfl

theorem Dev.charged_eq : s.charged u =
    { s.count .SW_CELLS_ALLOC 0 u.cells with sw := (s.charged u).sw, raised := (s.charged u).raised } := Dev.afterAlloc_eq ..

@[simp] theorem Dev.charged_nextId : (s.charged u).sw.nextId = s.sw.nextId := Dev.afterAlloc_nextId ..

@[simp] theorem Dev.charged_mac (m : Nat) : (s.charged u).mac m = s.mac m := by
  rw [s.charged_eq]
  rfl

@[simp] theorem Dev.charged_nowOn (d : Die) : (s.charged u).nowOn d = s.nowOn d := by
  rw [s.charged_eq]
  cases d <;> rfl

theorem Dev.PortStep.charged {cs : List Ctr} (h : .SW_CELLS_ALLOC ∈ cs) : Dev.PortStep cs s (s.charged u) := by
  rw [s.charged_eq]
  exact (Dev.PortStep.count _ 0 u.cells h).trans (.within s.net _ _)

/-- A frame whole in the pool enters the egress queue it is for (02 R70). -/
theorem Dev.placeUnit_egress {u : PoolUnit} {m q bytes : Nat} (h : u.dest = .egress m q bytes) :
    s.placeUnit u = (s.charged u).pushEgress m q ⟨some u.id, bytes, 0, u.cls, s.nowOn .ln⟩ := by
  simp only [Dev.placeUnit_eq, Dev.frameArrives, h, Dev.charged_nowOn]

/-- The frame of a unit placed for a MAC in transmit LPI wakes the MAC and stands in its queue; no other MAC changes (02 R78). -/
theorem Dev.placeUnit_egress_wakes {u : PoolUnit} {m q bytes : Nat} (h : u.dest = .egress m q bytes) (hlpi : (s.mac m).txLpi = true) :
    ((s.placeUnit u).mac m).txLpi = false ∧ ((s.placeUnit u).mac m).waking = some (s.nowOn .ln + (s.mac m).twTx * us) ∧
    (∃ f ∈ ((s.placeUnit u).mac m).queue q, f.unit = some u.id ∧ f.bytes = bytes) ∧ ∀ j, j ≠ m → (s.placeUnit u).mac j = s.mac j := by
  rw [s.placeUnit_egress h]
  refine ⟨Dev.pushEgress_txLpi .., ?_, ⟨_, Dev.mem_pushEgress_queue .., rfl, rfl⟩, fun j hj => ?_⟩
  · rw [Dev.pushEgress_waking_of_lpi _ _ _ _ (by simpa using hlpi), Dev.charged_nowOn, Dev.charged_mac]
  · rw [Dev.mac_pushEgress_other _ _ _ _ hj, Dev.charged_mac]

theorem Dev.PortStep.placeUnit_egress {cs : List Ctr} {u : PoolUnit} {m q bytes : Nat} (h : u.dest = .egress m q bytes)
    (hc : .SW_CELLS_ALLOC ∈ cs) : Dev.PortStep cs s (s.placeUnit u) := by
  rw [s.placeUnit_egress h]
  exact (Dev.PortStep.charged s u hc).trans (.pushEgress m q _)

theorem Dev.placeUnit_egress_nextId {u : PoolUnit} {m q bytes : Nat} (h : u.dest = .egress m q bytes) :
    (s.placeUnit u).sw.nextId = s.sw.nextId := by
  rw [s.placeUnit_egress h, Dev.pushEgress_eq]
  exact s.charged_nextId u

/-- The next unit number is taken. -/
def Dev.numbered : Dev := { s with sw := { s.sw with nextId := s.sw.nextId + 1 } }

/-- The unit that asks for its cells next (06 R255). -/
def Dev.askingUnit (input output cls bytes : Nat) (dest : UnitDest) : PoolUnit :=
  ⟨s.sw.nextId, input, output, cls, ceilDiv bytes 256, s.nowOn .ln, dest⟩

variable (i o c bytes : Nat) (dest : UnitDest)

/-- A unit that asks for its cells is aborted, placed or left waiting (06 R255, R262). -/
theorem Dev.submitUnit_eq : s.submitUnit i o c bytes dest =
    if s.outputUnavailable o then
      ((s.numbered.count .SW_ISO_DISCARD).event .ln 0x2C3 (le 1 o ++ leCount 1)).emit (.unitAborted s.sw.nextId)
    else if fitsPool (s.alphaExp c) (s.voqOcc i o c) (ceilDiv bytes 256) s.poolFree &&
        !(s.sw.waiting.any (fun w => w.input == i && w.output == o && w.cls == c)) then
      s.numbered.placeUnit (s.askingUnit i o c bytes dest)
    else
      ({ s.numbered with sw := { s.numbered.sw with waiting := s.sw.waiting ++ [s.askingUnit i o c bytes dest] } } : Dev).count .SW_ADMIT_WAITS := rfl

/-- One whose output is available, that fits, with nothing waiting before it, is placed. -/
theorem Dev.submitUnit_placed (ho : s.outputUnavailable o = false) (hw : s.sw.waiting = [])
    (hf : fitsPool (s.alphaExp c) (s.voqOcc i o c) (ceilDiv bytes 256) s.poolFree = true) :
    s.submitUnit i o c bytes dest = s.numbered.placeUnit (s.askingUnit i o c bytes dest) := by
  simp [Dev.submitUnit_eq, ho, hw, hf]

theorem Dev.PortStep.numbered {cs : List Ctr} : Dev.PortStep cs s s.numbered := .within s.net _ s.raised

/-- A frame of the device's own for an egress queue changes the ports and the pool alone, and takes a unit number. -/
theorem Dev.PortStep.submitUnit_egress {cs : List Ctr} (m q : Nat) (ha : .SW_CELLS_ALLOC ∈ cs) (hw : .SW_ADMIT_WAITS ∈ cs) :
    Dev.PortStep cs s (s.submitUnit i o c bytes (.egress m q bytes)) ∧
    (s.submitUnit i o c bytes (.egress m q bytes)).sw.nextId = s.sw.nextId + 1 := by
  have hn : Dev.PortStep cs s s.numbered := .numbered s
  rw [s.submitUnit_eq]
  split
  case isTrue => exact ⟨((hn.trans (.countSettling _ _ _ (by decide))).trans (.event _ _ _ _)).trans (.emit _), rfl⟩
  case isFalse =>
    split
    case isTrue => exact ⟨hn.trans (.placeUnit_egress _ rfl ha), Dev.placeUnit_egress_nextId _ rfl⟩
    case isFalse => exact ⟨(hn.trans (.within s.net _ s.raised)).trans (.count _ _ _ hw), rfl⟩

end Pool

end Sys2Proof.Machine
/-!
PROOF. Low-power idle of a MAC and the EEE TLVs of LLDP (02 R76-R80): what each command leaves, and the settlement of O15.
-/
namespace Sys2Proof.Machine

section Steps

variable {s : State} {d : Dev} {cs : List Ctr}

/-- A command whose effect keeps to the ports and the pool does so as a whole. -/
theorem Dev.PortStep.after (h : Dev.PortStep cs s.dev.quiet d) : Dev.OnlyChanged [.net, .sw] [] cs s.dev (s.after (fun _ => d)).dev :=
  State.onlyChanged_of_quiet h.frame h.arch h.own

theorem State.after_sw (ha : d.arch = s.dev.arch) (ho : d.own = s.dev.own) : (s.after (fun _ => d)).dev.sw = d.sw :=
  (s.after_samePool (fun _ => d) ha ho).sw

/-- A change of one MAC's state is a change of the ports. -/
theorem Dev.OnlyChanged.setMac {xs : List Fld} {a : Dev} (m : Nat) (x : Mac) : Dev.OnlyChanged [.net] xs cs a (a.setMac m x) := by
  refine .ofParts (fun p hp => ?_) rfl rfl
  cases p with
  | net => exact absurd (List.mem_singleton.mpr rfl) hp
  | _ => rfl

variable {m : Nat} {x : Mac}

/-- After a command whose effect on the ports is one MAC's new state, that MAC has it and every other is as it was. -/
theorem State.after_setMac (hn : d.net = (s.dev.quiet.setMac m x).net) (ha : d.arch = s.dev.arch) (ho : d.own = s.dev.own) :
    (s.after (fun _ => d)).dev.mac m = x ∧ ∀ j, j ≠ m → (s.after (fun _ => d)).dev.mac j = s.dev.mac j := by
  have h : ∀ j, (s.after (fun _ => d)).dev.mac j = (s.dev.quiet.setMac m x).mac j := fun j =>
    (State.after_mac ha ho j).trans (congrArg (fun n => n.macs.get {} j) hn)
  exact ⟨(h m).trans (Dev.mac_setMac_self ..), fun j hj => (h j).trans (Dev.mac_setMac_other _ _ _ _ hj)⟩

/-- A command whose effect is one MAC's new state and what it raises leaves every other MAC and every other part of the device as it was. -/
theorem setMac_answers {c : Instr} {r : List Occ} (hx : exec c s = s.run (fun _ => { s.dev.quiet.setMac m x with raised := r })) :
    Answers c s (fun t => t.dev.mac m = x ∧ (∀ j, j ≠ m → t.dev.mac j = s.dev.mac j) ∧
      (∀ id l, (⟨s.dev.nowOn .ln, .ln, id, 0, l, !s.dev.timeLoaded⟩ : Occ) ∈ r.take 16 → s.hears .ln → s.told t .ln id l) ∧
      Dev.OnlyChanged [.net] [] [] s.dev t.dev) := by
  obtain ⟨hself, hother⟩ := State.after_setMac (s := s) (d := { s.dev.quiet.setMac m x with raised := r }) rfl rfl rfl
  exact .of_run hx ⟨hself, hother, fun _ _ ho => State.after_told (f := fun _ => _) ho,
    State.onlyChanged_of_quiet ((Dev.OnlyChanged.setMac m x).trans (.ofParts (fun p _ => by cases p <;> rfl) rfl rfl)) rfl rfl⟩

end Steps

section Idle

variable {s : State} {mac : Fin 64}

/-- Low-power idle is entered, counted (02 R77). -/
theorem lpiEnter_answers (hactive : s.dev.eeeActive mac.val = true) (hlpi : (s.dev.mac mac.val).txLpi = false)
    (hwaking : (s.dev.mac mac.val).waking = none) (hwire : (s.dev.mac mac.val).wire = none) (hempty : (s.dev.mac mac.val).allEmpty = true)
    (hidle : (s.dev.mac mac.val).emptySince + s.dev.fld .EEE_CFG_IDLE mac.val * 100 < s.dev.nowOn .ln) :
    Answers (.lpiEnter mac) s (fun t => t.dev.mac mac.val = { s.dev.mac mac.val with txLpi := true } ∧
      t.dev.ctr .MAC_LPI_ENTRIES mac.val = (s.dev.ctr .MAC_LPI_ENTRIES mac.val + 1) % 2 ^ 64 ∧
      (∀ m, m ≠ mac.val → t.dev.mac m = s.dev.mac m) ∧ Dev.OnlyChanged [.net] [] [.MAC_LPI_ENTRIES] s.dev t.dev) := by
  have hx : exec (.lpiEnter mac) s = s.run (fun _ =>
      (s.dev.quiet.setMac mac.val { s.dev.mac mac.val with txLpi := true }).count .MAC_LPI_ENTRIES mac.val) :=
    State.runIf_eq_of_quiet (by simp [hactive, hlpi, hwaking, hwire, hempty, Dev.expired, hidle]) rfl
  obtain ⟨hself, hother⟩ := State.after_setMac (s := s) (d := (s.dev.quiet.setMac mac.val _).count .MAC_LPI_ENTRIES mac.val) rfl rfl rfl
  refine .of_run hx ⟨hself, ?_, hother, State.onlyChanged_of_quiet ((Dev.OnlyChanged.setMac _ _).trans (.count _ _ _ (by simp))) rfl rfl⟩
  rw [State.after_ctr _ _ _ (by decide)]
  exact Dev.ctr_count_self ..

/-- A frame the pool takes wakes the MAC it is for (02 R78). -/
theorem lpiWake_answers {q : Fin 4} {bytes : Nat} (hlpi : (s.dev.mac mac.val).txLpi = true)
    (hout : s.dev.outputUnavailable (mac.val / 8) = false) (hwait : s.dev.sw.waiting = [])
    (hfits : fitsPool (s.dev.alphaExp (if q.val = 3 then 1 else 0)) (s.dev.voqOcc 15 (mac.val / 8) (if q.val = 3 then 1 else 0))
      (ceilDiv bytes 256) s.dev.poolFree = true) :
    Answers (.lpiWake mac q bytes) s (fun t => (t.dev.mac mac.val).txLpi = false ∧
      (t.dev.mac mac.val).waking = some (s.dev.nowOn .ln + (s.dev.mac mac.val).twTx * 1000) ∧
      (∃ f ∈ (t.dev.mac mac.val).queue q.val, f.unit = some s.dev.sw.nextId ∧ f.bytes = bytes) ∧ (∀ m, m ≠ mac.val → t.dev.mac m = s.dev.mac m) ∧
      Dev.OnlyChanged [.net, .sw] [] [.SW_CELLS_ALLOC] s.dev t.dev) := by
  set e := s.dev.quiet.creditSync mac.val
  set u := e.askingUnit 15 (mac.val / 8) (if q.val = 3 then 1 else 0) bytes (.egress mac.val q.val bytes)
  have hx : exec (.lpiWake mac q bytes) s = s.run (fun _ => e.numbered.placeUnit u) :=
    State.runIf_eq_of_quiet hlpi (Dev.submitUnit_placed e _ _ _ _ _ hout hwait hfits)
  have hstep : Dev.PortStep [.SW_CELLS_ALLOC] s.dev.quiet (e.numbered.placeUnit u) :=
    ((Dev.PortStep.creditSync _).trans (.numbered _)).trans (.placeUnit_egress _ rfl (by simp))
  have hasleep : (e.mac mac.val).txLpi = true := (Dev.creditSync_txLpi s.dev.quiet mac.val).trans hlpi
  have hwake : (e.mac mac.val).twTx = (s.dev.mac mac.val).twTx := Dev.creditSync_twTx s.dev.quiet mac.val
  obtain ⟨htx, hwaking, hqueued, hother⟩ := e.numbered.placeUnit_egress_wakes (u := u) rfl hasleep
  refine .of_run hx ?_
  simp only [State.after_mac hstep.arch hstep.own]
  exact ⟨htx, hwake ▸ hwaking, hqueued, fun j hj => (hother j hj).trans (Dev.mac_creditSync_other _ _ hj), hstep.after⟩

/-- Transmission may go on after the wake time (02 R78). -/
theorem lpiWakeEnd_answers {at' : Nat} (hwaking : (s.dev.mac mac.val).waking = some at') (hdue : at' < s.dev.nowOn .ln) :
    Answers (.lpiWakeEnd mac) s (fun t => t.dev.mac mac.val = { s.dev.mac mac.val with waking := none } ∧
      (∀ m, m ≠ mac.val → t.dev.mac m = s.dev.mac m) ∧ Dev.OnlyChanged [.net] [] [] s.dev t.dev) := by
  have hx : exec (.lpiWakeEnd mac) s = s.run (fun _ => s.dev.quiet.setMac mac.val { s.dev.mac mac.val with waking := none }) :=
    State.runIf_eq_of_quiet (by simp [hwaking, hdue]) rfl
  exact (setMac_answers hx).imp fun t ⟨hself, hother, _, hframe⟩ => ⟨hself, hother, hframe⟩

end Idle

section Lldp

/-- The partner's EEE TLV has been heard; its last values are echoed (02 R79). -/
def Mac.heard (x : Mac) (rx tx : Nat) : Mac := { x with lldpDone := true, echoTx := tx, echoRx := rx }

variable {s : State} {mac : Fin 64} {rx tx : Nat}

/-- A TLV received on a MAC that is up has the effect `d` on the quiet device (02 R80). -/
theorem exec_lldpEeeTlvReceive {d : Dev} (hlink : (s.dev.mac mac.val).link = true) (h : s.dev.quiet.lldpReceive mac.val rx tx = d) :
    exec (.lldpEeeTlvReceive mac rx tx) s = s.run (fun _ => d) := State.runIf_eq_of_quiet hlink h

/-- A Receive Tw that TW_MAX allows is followed (02 R80). -/
theorem Dev.lldpReceive_followed (d : Dev) {m : Nat} (hne : rx ≠ (d.mac m).twTx) (hmax : max rx (d.mac m).twMin ≤ d.fld .EEE_CFG_TW_MAX m) :
    d.lldpReceive m rx tx = { d.setMac m { (d.mac m).heard rx tx with twTx := max rx (d.mac m).twMin, lpiStopped := false } with
      raised := if max rx (d.mac m).twMin = (d.mac m).twTx then d.raised
        else d.raised ++ [⟨d.nowOn .ln, .ln, 0x105, 0, le 1 m ++ le 2 (max rx (d.mac m).twMin), !d.timeLoaded⟩] } := by
  refine ((if_neg hne).trans (if_neg (Nat.not_lt.mpr hmax))).trans ?_
  by_cases h : max rx (d.mac m).twMin = (d.mac m).twTx
  · rw [if_pos h]
    exact if_neg (by simpa using h)
  · rw [if_neg h]
    exact if_pos (by simpa using h)

/-- One above it stops low-power idle (02 R80). -/
theorem Dev.lldpReceive_stopped (d : Dev) {m : Nat} (hne : rx ≠ (d.mac m).twTx) (hmax : d.fld .EEE_CFG_TW_MAX m < max rx (d.mac m).twMin) :
    d.lldpReceive m rx tx = (d.setMac m { (d.mac m).heard rx tx with lpiStopped := true, txLpi := false }).event .ln 0x106 (le 1 m) :=
  (if_neg hne).trans (if_pos hmax)

theorem lldpEeeTlvReceive_followed (hlink : (s.dev.mac mac.val).link = true) (hne : rx ≠ (s.dev.mac mac.val).twTx)
    (hmax : max rx (s.dev.mac mac.val).twMin ≤ s.dev.fld .EEE_CFG_TW_MAX mac.val) :
    Answers (.lldpEeeTlvReceive mac rx tx) s (fun t =>
      (t.dev.mac mac.val).twTx = max rx (s.dev.mac mac.val).twMin ∧ (t.dev.mac mac.val).lldpDone = true ∧ (t.dev.mac mac.val).echoRx = rx ∧
      (t.dev.mac mac.val).echoTx = tx ∧
      (max rx (s.dev.mac mac.val).twMin ≠ (s.dev.mac mac.val).twTx → s.hears .ln →
        s.told t .ln 0x105 (le 1 mac.val ++ le 2 (max rx (s.dev.mac mac.val).twMin))) ∧
      Dev.OnlyChanged [.net] [] [] s.dev t.dev) := by
  have hx := exec_lldpEeeTlvReceive hlink (Dev.lldpReceive_followed (tx := tx) s.dev.quiet hne hmax)
  refine (setMac_answers hx).imp fun t ⟨hself, _, htold, hframe⟩ => ?_
  rw [hself]
  refine ⟨rfl, rfl, rfl, rfl, fun hc => htold _ _ ?_, hframe⟩
  rw [if_neg (c := max rx (s.dev.quiet.mac mac.val).twMin = (s.dev.quiet.mac mac.val).twTx) hc]
  exact List.mem_singleton.mpr rfl

theorem lldpEeeTlvReceive_stopped (hlink : (s.dev.mac mac.val).link = true) (hne : rx ≠ (s.dev.mac mac.val).twTx)
    (hmax : s.dev.fld .EEE_CFG_TW_MAX mac.val < max rx (s.dev.mac mac.val).twMin) :
    Answers (.lldpEeeTlvReceive mac rx tx) s (fun t =>
      (t.dev.mac mac.val).lpiStopped = true ∧ (t.dev.mac mac.val).txLpi = false ∧ (t.dev.mac mac.val).twTx = (s.dev.mac mac.val).twTx ∧
      (s.hears .ln → s.told t .ln 0x106 (le 1 mac.val)) ∧ Dev.OnlyChanged [.net] [] [] s.dev t.dev) := by
  have hx := exec_lldpEeeTlvReceive hlink (Dev.lldpReceive_stopped (tx := tx) s.dev.quiet hne hmax)
  refine (setMac_answers hx).imp fun t ⟨hself, _, htold, hframe⟩ => ?_
  rw [hself]
  exact ⟨rfl, rfl, rfl, htold _ _ (List.mem_singleton.mpr rfl), hframe⟩

/-- The TLV sent (02 R79). -/
theorem lldpTransmit_answers (hlink : (s.dev.mac mac.val).link = true) (hen : s.dev.flag .EEE_CFG_EN mac.val = true)
    (hable : (s.dev.mac mac.val).eeeAble = true) (hpartner : (s.dev.mac mac.val).partnerEee = true) :
    Answers (.lldpTransmit mac) s (fun t => Out.lldp mac.val (s.dev.mac mac.val).twTx (s.dev.mac mac.val).twMin (s.dev.mac mac.val).twMin
      (s.dev.mac mac.val).echoTx (s.dev.mac mac.val).echoRx ∈ t.dev.out ∧ t.dev.sw.nextId = s.dev.sw.nextId + 1 ∧
      Dev.OnlyChanged [.net, .sw] [] [.SW_CELLS_ALLOC, .SW_ADMIT_WAITS] s.dev t.dev) := by
  set tlv := Out.lldp mac.val (s.dev.mac mac.val).twTx (s.dev.mac mac.val).twMin (s.dev.mac mac.val).twMin
    (s.dev.mac mac.val).echoTx (s.dev.mac mac.val).echoRx
  have hx : exec (.lldpTransmit mac) s = s.run (fun _ => (s.dev.quiet.emit tlv).controlFrame mac.val 1 64) :=
    State.runIf_eq_of_quiet (by simp [hlink, hen, hable, hpartner]) rfl
  obtain ⟨hstep, hid⟩ := Dev.PortStep.submitUnit_egress (cs := [.SW_CELLS_ALLOC, .SW_ADMIT_WAITS]) (s.dev.quiet.emit tlv) 15 (mac.val / 8) 0 64
    mac.val 1 (by simp) (by simp)
  refine .of_run hx ⟨State.after_mem_out s _ (hstep.out.subset (List.mem_singleton.mpr rfl)), ?_, ((Dev.PortStep.emit tlv).trans hstep).after⟩
  exact (congrArg Pool.nextId (State.after_sw hstep.arch hstep.own)).trans hid

end Lldp

/-- Settles O15: a frame for a MAC in low-power idle enters the pool as any unit does and wakes the MAC as it enters the egress queue; the other
commands change one MAC's state. -/
theorem lowPowerIdleAndLldp : Obligations.LowPowerIdleAndLldp :=
  ⟨fun _ _ => lpiEnter_answers, fun _ _ _ _ => lpiWake_answers, fun _ _ _ => lpiWakeEnd_answers,
    fun _ _ _ _ hlink hne => ⟨lldpEeeTlvReceive_followed hlink hne, lldpEeeTlvReceive_stopped hlink hne⟩, fun _ _ => lldpTransmit_answers⟩

end Sys2Proof.Machine

/-!
PROOF. Steps of an effect: what one operation after another may change, with what was sent out and raised only added to; and the transport's own
state, one queue pair at a time.
-/
namespace Sys2Proof.Machine

/-- From `a` to `b` only the parts `ps`, the fields `xs` and the counters `cs` changed, no seam, region or bond link did, and what was sent out and
raised is still there. -/
structure Dev.Step (ps : List DevPart) (xs : List Fld) (cs : List Ctr) (a b : Dev) : Prop where
  frame : Dev.OnlyChanged ps xs cs a b
  arch : b.arch = a.arch
  own : b.own = a.own
  out : a.out <+: b.out
  raised : a.raised <+: b.raised

namespace Dev.Step

variable {ps ps' : List DevPart} {xs xs' : List Fld} {cs cs' : List Ctr} {a b c : Dev}

theorem refl (a : Dev) : Dev.Step ps xs cs a a := ⟨.refl a, rfl, rfl, List.prefix_rfl, List.prefix_rfl⟩

theorem trans (h : Dev.Step ps xs cs a b) (k : Dev.Step ps xs cs b c) : Dev.Step ps xs cs a c :=
  ⟨h.frame.trans k.frame, k.arch.trans h.arch, k.own.trans h.own, h.out.trans k.out, h.raised.trans k.raised⟩

theorem mono (h : Dev.Step ps xs cs a b) (hp : ps ⊆ ps') (hx : xs ⊆ xs') (hc : cs ⊆ cs') : Dev.Step ps' xs' cs' a b :=
  ⟨h.frame.mono hp hx hc, h.arch, h.own, h.out, h.raised⟩

/-- A step within named parts alone. -/
theorem ofParts (hp : ∀ p, p ∉ ps → p.same a b) (hr : b.regs = a.regs) (hc : b.ctrs = a.ctrs) (ha : b.arch = a.arch) (ho : b.own = a.own)
    (hout : b.out = a.out) (hraised : b.raised = a.raised) : Dev.Step ps xs cs a b :=
  ⟨.ofParts hp hr hc, ha, ho, hout ▸ List.prefix_rfl, hraised ▸ List.prefix_rfl⟩

theorem count (s : Dev) (e : Ctr) (i n : Nat) (h : e ∈ cs) : Dev.Step ps xs cs s (s.count e i n) :=
  ⟨.count e i n h, rfl, rfl, List.prefix_rfl, List.prefix_rfl⟩

/-- A counter that settles with every command needs no naming. -/
theorem countSettling (s : Dev) (e : Ctr) (i n : Nat) (h : e ∈ settleCtrs) : Dev.Step ps xs cs s (s.count e i n) :=
  ⟨⟨fun p _ => by cases p <;> rfl, fun _ _ _ => rfl, fun _ _ hc _ => Dev.ctr_count_other s n (.inl (fun he => hc (he ▸ h)))⟩, rfl, rfl,
    List.prefix_rfl, List.prefix_rfl⟩

theorem setFld (s : Dev) (f : Fld) (i v : Nat) (h : f ∈ xs) : Dev.Step ps xs cs s (s.setFld f i v) :=
  ⟨.setFld f i v h, rfl, rfl, List.prefix_rfl, List.prefix_rfl⟩

theorem event (s : Dev) (d : Die) (id : Nat) (x : List Byte) (k : Nat) : Dev.Step ps xs cs s (s.event d id x k) :=
  ⟨.event d id x k, rfl, rfl, List.prefix_rfl, List.prefix_append _ _⟩

theorem emit (s : Dev) (o : Out) : Dev.Step ps xs cs s (s.emit o) := ⟨.emit o, rfl, rfl, List.prefix_append _ _, List.prefix_rfl⟩

theorem rdma (s : Dev) (x : Rdma) (h : .rdma ∈ ps) : Dev.Step ps xs cs s { s with rdma := x } :=
  .ofParts (fun p hp => by cases p with | rdma => exact absurd h hp | _ => rfl) rfl rfl rfl rfl rfl rfl

theorem nvme (s : Dev) (x : Nvme) (h : .nvme ∈ ps) : Dev.Step ps xs cs s { s with nvme := x } :=
  .ofParts (fun p hp => by cases p with | nvme => exact absurd h hp | _ => rfl) rfl rfl rfl rfl rfl rfl

theorem sw (s : Dev) (x : Pool) (h : .sw ∈ ps) : Dev.Step ps xs cs s { s with sw := x } :=
  .ofParts (fun p hp => by cases p with | sw => exact absurd h hp | _ => rfl) rfl rfl rfl rfl rfl rfl

theorem ten (s : Dev) (x : Tenancy) (h : .ten ∈ ps) : Dev.Step ps xs cs s { s with ten := x } :=
  .ofParts (fun p hp => by cases p with | ten => exact absurd h hp | _ => rfl) rfl rfl rfl rfl rfl rfl

theorem ldg (s : Dev) (x : Ledger) (h : .ldg ∈ ps) : Dev.Step ps xs cs s { s with ldg := x } :=
  .ofParts (fun p hp => by cases p with | ldg => exact absurd h hp | _ => rfl) rfl rfl rfl rfl rfl rfl

theorem evr (s : Dev) (x : Recorder) (h : .evr ∈ ps) : Dev.Step ps xs cs s { s with evr := x } :=
  .ofParts (fun p hp => by cases p with | evr => exact absurd h hp | _ => rfl) rfl rfl rfl rfl rfl rfl

theorem od (s : Dev) (x : Management) (h : .od ∈ ps) : Dev.Step ps xs cs s { s with od := x } :=
  .ofParts (fun p hp => by cases p with | od => exact absurd h hp | _ => rfl) rfl rfl rfl rfl rfl rfl

theorem fw (s : Dev) (x : Firmware) (h : .fw ∈ ps) : Dev.Step ps xs cs s { s with fw := x } :=
  .ofParts (fun p hp => by cases p with | fw => exact absurd h hp | _ => rfl) rfl rfl rfl rfl rfl rfl

theorem fresh (s : Dev) (n : Nat) (h : .fresh ∈ ps) : Dev.Step ps xs cs s { s with fresh := n } :=
  .ofParts (fun p hp => by cases p with | fresh => exact absurd h hp | _ => rfl) rfl rfl rfl rfl rfl rfl

/-- Meters settle with every command. -/
theorem setMeter (s : Dev) (m : Meter) : Dev.Step ps xs cs s (s.setMeter m) :=
  .ofParts (fun p _ => by cases p <;> rfl) rfl rfl rfl rfl rfl rfl

theorem closed : Dev.Closed (Dev.Step ps xs cs) where
  refl := refl
  trans := trans
  count := countSettling
  event := event
  emit := emit
  setMeter := setMeter
  setCan _ _ := .ofParts (fun p _ => by cases p <;> rfl) rfl rfl rfl rfl rfl rfl

theorem foldl {α : Type} {f : Dev → α → Dev} (h : ∀ s x, Dev.Step ps xs cs s (f s x)) (l : List α) : ∀ s, Dev.Step ps xs cs s (l.foldl f s) :=
  foldl_within refl trans h l

/-- A step whose two sides are both within the frame. -/
theorem ite {p : Prop} [Decidable p] (hb : p → Dev.Step ps xs cs a b) (hc : ¬p → Dev.Step ps xs cs a c) :
    Dev.Step ps xs cs a (if p then b else c) := by
  split
  · exact hb ‹_›
  · exact hc ‹_›

theorem eventIf (s : Dev) (b : Bool) (d : Die) (id : Nat) (x : List Byte) (k : Nat) : Dev.Step ps xs cs s (s.eventIf b d id x k) :=
  closed.eventIf s b d id x k

theorem meterCount (s : Dev) (t : Nat) (f : MeterRec → MeterRec) : Dev.Step ps xs cs s (s.meterCount t f) := by
  unfold Dev.meterCount
  dsimp only
  split
  · exact (closed.meterRoll s).trans (.setMeter _ _)
  · exact closed.meterRoll s

variable (h : Dev.Step ps xs cs a b)
include h

theorem fld {f : Fld} (hf : f ∉ xs) (i : Nat) : b.fld f i = a.fld f i := h.frame.flds f hf i

theorem flag {f : Fld} (hf : f ∉ xs) (i : Nat) : b.flag f i = a.flag f i := congrArg (· != 0) (h.fld hf i)

theorem ctr {e : Ctr} (he : e ∉ cs) (hs : e ∉ settleCtrs) (i : Nat) : b.ctr e i = a.ctr e i := h.frame.ctrs e he hs i

theorem time_eq (hp : .time ∉ ps) : b.time = a.time := h.frame.parts .time hp

theorem timeLoaded_eq (hp : .timeLoaded ∉ ps) : b.timeLoaded = a.timeLoaded := h.frame.parts .timeLoaded hp

theorem rdma_eq (hp : .rdma ∉ ps) : b.rdma = a.rdma := h.frame.parts .rdma hp

theorem nvme_eq (hp : .nvme ∉ ps) : b.nvme = a.nvme := h.frame.parts .nvme hp

/-- Every die's time is as it was. -/
theorem nowOn (hp : .time ∉ ps) (d : Die) : b.nowOn d = a.nowOn d := by
  cases d <;> simp only [Dev.nowOn, Dev.now, h.arch, h.time_eq hp]

end Dev.Step

section Commands

variable {s : State} {d : Dev} {ps : List DevPart} {xs : List Fld} {cs : List Ctr}

/-- The frame of an effect is the frame of its command. -/
theorem Dev.Step.after (h : Dev.Step ps xs cs s.dev.quiet d) : Dev.OnlyChanged ps xs cs s.dev (s.after (fun _ => d)).dev :=
  State.onlyChanged_of_quiet h.frame h.arch h.own

/-- An event raised behind fewer than sixteen others is told to the recorder where its die is heard. -/
theorem State.told_of_prefix {e : Dev} {k : Die} {id c : Nat} {x : List Byte} (hr : e.raised.length < 16)
    (hp : (e.event k id x c).raised <+: d.raised) (hn : e.nowOn k = s.dev.nowOn k) (hl : e.timeLoaded = s.dev.timeLoaded) (hh : s.hears k) :
    s.told (s.after (fun _ => d)) k id x c := by
  refine State.after_told (f := fun _ => d) ((hp.take 16).subset ?_) hh
  have ho : (e.event k id x c).raised = e.raised ++ [⟨s.dev.nowOn k, k, id, c, x, !s.dev.timeLoaded⟩] := by rw [← hn, ← hl]; rfl
  rw [ho, List.take_of_length_le (by rw [List.length_append]; exact hr)]
  exact List.mem_append_right _ (List.mem_singleton.mpr rfl)

end Commands

end Sys2Proof.Machine

/-!
PROOF. The operations of the transport on one queue pair (03 R98-R117): frames sent, acknowledgements with credits, NAKs, leaving a state; each changes
its queue pair alone and sends what it must.
-/
namespace Sys2Proof.Machine

section Frames

variable (s : Dev) {ps : List DevPart} {xs : List Fld} {cs : List Ctr}

/-- The parts and the counters that a frame sent may change. -/
def sendParts : List DevPart := [.sw, .ten]
def sendCtrs : List Ctr := [.RD_TX_PKTS, .SW_CELLS_ALLOC, .SW_ADMIT_WAITS]

theorem Dev.afterAlloc_raised (i o c n : Nat) : ∃ r, (s.afterAlloc i o c n).raised = s.raised ++ r ∧ r.length ≤ 1 := by
  unfold Dev.afterAlloc
  dsimp only
  split
  · exact ⟨[_], rfl, Nat.le_refl 1⟩
  · exact ⟨[], (List.append_nil _).symm, Nat.zero_le 1⟩

theorem Dev.Step.afterAlloc (hp : .sw ∈ ps) (hc : .SW_CELLS_ALLOC ∈ cs) (i o c n : Nat) : Dev.Step ps xs cs s (s.afterAlloc i o c n) := by
  obtain ⟨r, hr, -⟩ := s.afterAlloc_raised i o c n
  rw [s.afterAlloc_eq, hr]
  exact (Dev.Step.count s _ _ _ hc).trans ⟨.ofParts (fun p h => by cases p with | sw => exact absurd hp h | _ => rfl) rfl rfl, rfl, rfl,
    List.prefix_rfl, List.prefix_append _ _⟩

theorem Dev.Step.charged (hp : .sw ∈ ps) (hc : .SW_CELLS_ALLOC ∈ cs) (u : PoolUnit) : Dev.Step ps xs cs s (s.charged u) :=
  (Dev.Step.sw s _ hp).trans (.afterAlloc _ hp hc _ _ _ _)

/-- A unit for a tenant's queue that asks for its cells changes the pool and the queues, and raises one event at most (06 R253-R255, R265). -/
theorem Dev.step_submitUnit_classQueue (hp : sendParts ⊆ ps) (ha : .SW_CELLS_ALLOC ∈ cs) (hw : .SW_ADMIT_WAITS ∈ cs)
    (i o c n m t cls bytes : Nat) : Dev.Step ps xs cs s (s.submitUnit i o c n (.classQueue m t cls bytes)) ∧
      ∃ r, (s.submitUnit i o c n (.classQueue m t cls bytes)).raised = s.raised ++ r ∧ r.length ≤ 1 := by
  have hsw : .sw ∈ ps := hp (by decide)
  have hten : .ten ∈ ps := hp (by decide)
  have hn : Dev.Step ps xs cs s s.numbered := .sw s _ hsw
  rw [s.submitUnit_eq]
  split
  · exact ⟨((hn.trans (.countSettling _ _ _ _ (by decide))).trans (.event _ _ _ _ _)).trans (.emit _ _), [_], rfl, Nat.le_refl 1⟩
  · split
    · exact ⟨(hn.trans (.charged _ hsw ha _)).trans (.ten _ _ hten), Dev.afterAlloc_raised ..⟩
    · exact ⟨(hn.trans (.sw _ _ hsw)).trans (.count _ _ _ _ hw), [], (List.append_nil _).symm, Nat.zero_le 1⟩

theorem Dev.step_sendFrame (hp : sendParts ⊆ ps) (hc : sendCtrs ⊆ cs) (i cls input extra : Nat) :
    Dev.Step ps xs cs s (s.sendFrame i cls input extra) :=
  (Dev.Step.count s _ _ _ (hc (by decide))).trans (Dev.step_submitUnit_classQueue _ hp (hc (by decide)) (hc (by decide)) _ _ _ _ _ _ _ _).1

theorem Dev.sendFrame_raised (i cls input extra : Nat) : ∃ r, (s.sendFrame i cls input extra).raised = s.raised ++ r ∧ r.length ≤ 1 :=
  (Dev.step_submitUnit_classQueue (ps := sendParts) (xs := []) (cs := sendCtrs) (s.count .RD_TX_PKTS) (List.Subset.refl _) (by decide) (by decide) _ _ _ _ _ _
    _ _).2

@[simp] theorem Dev.sendFrame_rdma (i cls input extra : Nat) : (s.sendFrame i cls input extra).rdma = s.rdma :=
  (s.step_sendFrame (ps := sendParts) (xs := []) (List.Subset.refl _) (List.Subset.refl _) _ _ _ _).rdma_eq (by decide)

theorem Dev.step_sendNak (hp : sendParts ⊆ ps) (hc : sendCtrs ⊆ cs) (i psn code : Nat) : Dev.Step ps xs cs s (s.sendNak i psn code) :=
  (s.step_sendFrame hp hc _ _ _ _).trans (.emit _ _)

theorem Dev.mem_sendNak_out (i psn code : Nat) : Out.rdmaNak (qpnOf i) psn code ∈ (s.sendNak i psn code).out :=
  List.mem_append_right _ (List.mem_singleton.mpr rfl)

/-- Cells returned to the pool. -/
theorem Dev.Step.afterFree (hp : .sw ∈ ps) (n : Nat) : Dev.Step ps xs cs s (s.afterFree n) := by
  unfold Dev.afterFree
  dsimp only
  exact .ite (fun _ => (Dev.Step.countSettling s _ _ _ (by decide)).trans (.sw _ _ hp)) (fun _ => .countSettling s _ _ _ (by decide))

theorem Dev.afterFree_raised (n : Nat) : (s.afterFree n).raised = s.raised := by
  unfold Dev.afterFree
  dsimp only
  split <;> rfl

theorem Dev.step_releaseReads (hp : .sw ∈ ps) (p : Nat → Nat → Bool) : Dev.Step ps xs cs s (s.releaseReads p) :=
  (Dev.Step.sw s _ hp).trans (.afterFree _ hp _)

@[simp] theorem Dev.releaseReads_raised (p : Nat → Nat → Bool) : (s.releaseReads p).raised = s.raised := Dev.afterFree_raised ..

@[simp] theorem Dev.releaseReads_rdma (p : Nat → Nat → Bool) : (s.releaseReads p).rdma = s.rdma :=
  (s.step_releaseReads (ps := [.sw]) (xs := []) (cs := []) (List.mem_singleton.mpr rfl) p).rdma_eq (by decide)

end Frames

/-- A step after which queue pair `i` is `q` and the rest of the transport's state is as it was. -/
structure Dev.QpStep (ps : List DevPart) (cs : List Ctr) (i : Nat) (q : Qp) (a b : Dev) : Prop extends Dev.Step ps [] cs a b where
  self : b.qp i = q
  other : ∀ j, j ≠ i → b.qp j = a.qp j
  rest : { b.rdma with qps := [] } = { a.rdma with qps := [] }

namespace Dev.QpStep

variable {ps ps' : List DevPart} {cs cs' : List Ctr} {i : Nat} {q q' : Qp} {a b c : Dev}

theorem trans (h : Dev.QpStep ps cs i q a b) (k : Dev.QpStep ps cs i q' b c) : Dev.QpStep ps cs i q' a c :=
  ⟨h.toStep.trans k.toStep, k.self, fun j hj => (k.other j hj).trans (h.other j hj), k.rest.trans h.rest⟩

/-- A step that leaves the transport's state as it was. -/
theorem of_step (h : Dev.Step ps [] cs a b) (hr : b.rdma = a.rdma) : Dev.QpStep ps cs i (a.qp i) a b :=
  ⟨h, congrArg (fun r => r.qps.get {} i) hr, fun j _ => congrArg (fun r => r.qps.get {} j) hr, congrArg (fun r => { r with qps := [] }) hr⟩

/-- A further step that leaves the transport's state as it was. -/
theorem then_step (h : Dev.QpStep ps cs i q a b) (k : Dev.Step ps [] cs b c) (hr : c.rdma = b.rdma) : Dev.QpStep ps cs i q a c :=
  h.self ▸ h.trans (.of_step k hr)

theorem setQp (s : Dev) (i : Nat) (q : Qp) (hp : .rdma ∈ ps) : Dev.QpStep ps cs i q s (s.setQp i q) :=
  ⟨.rdma s _ hp, s.qp_setQp_self i q, fun j hj => s.qp_setQp_other j i q hj, rfl⟩

theorem mono (h : Dev.QpStep ps cs i q a b) (hp : ps ⊆ ps') (hc : cs ⊆ cs') : Dev.QpStep ps' cs' i q a b :=
  ⟨h.toStep.mono hp (List.Subset.refl _) hc, h.self, h.other, h.rest⟩

theorem wins (h : Dev.QpStep ps cs i q a b) : b.rdma.wins = a.rdma.wins :=
  have k := congrArg Rdma.wins h.rest
  k
theorem mem (h : Dev.QpStep ps cs i q a b) : b.rdma.mem = a.rdma.mem :=
  have k := congrArg Rdma.mem h.rest
  k
theorem durable (h : Dev.QpStep ps cs i q a b) : b.rdma.durable = a.rdma.durable :=
  have k := congrArg Rdma.durable h.rest
  k
theorem placed (h : Dev.QpStep ps cs i q a b) : b.rdma.placed = a.rdma.placed :=
  have k := congrArg Rdma.placed h.rest
  k

end Dev.QpStep

section Leaving

variable (s : Dev) {ps : List DevPart} {cs : List Ctr} {i : Nat}

/-- A queue pair that has left RTS or RTR for `st` at tick `now` (03 R136). -/
def Qp.leaves (q : Qp) (st : QpSt) (now : Nat) : Qp :=
  { q with st := st, since := now, writeMsg := none, sendMsg := none, ackAt := none, closing := none
           flushes := if st = .draining then q.flushes else [], rnrUntil := if st = .draining then q.rnrUntil else none }

theorem Dev.qpLeave_eq (i : Nat) (st : QpSt) :
    s.qpLeave i st = (s.setQp i ((s.qp i).leaves st (s.nowOn .ln))).releaseReads (fun a _ => a == i) := by
  unfold Dev.qpLeave Qp.leaves
  rfl

theorem Dev.qpStep_qpLeave (hr : .rdma ∈ ps) (hw : .sw ∈ ps) (i : Nat) (st : QpSt) :
    Dev.QpStep ps cs i ((s.qp i).leaves st (s.nowOn .ln)) s (s.qpLeave i st) :=
  s.qpLeave_eq i st ▸ (Dev.QpStep.setQp s i _ hr).then_step (Dev.step_releaseReads _ hw _) (Dev.releaseReads_rdma ..)

@[simp] theorem Dev.qpLeave_raised (i : Nat) (st : QpSt) : (s.qpLeave i st).raised = s.raised := by
  rw [s.qpLeave_eq, Dev.releaseReads_raised]
  rfl

/-- States from which a queue pair enters ERROR (03 R100). -/
def QpSt.live (st : QpSt) : Prop := st = .rts ∨ st = .draining ∨ st = .rtr

theorem Dev.qpError_of_live (h : (s.qp i).st.live) : s.qpError i = s.qpLeave i .error := by
  unfold Dev.qpError
  rcases h with h | h | h <;> rw [h]

theorem Dev.qpError_of_not_live (h : ¬(s.qp i).st.live) : s.qpError i = s := by
  unfold Dev.qpError
  unfold QpSt.live at h
  split <;> simp_all

theorem Dev.qpStep_qpError (hr : .rdma ∈ ps) (hw : .sw ∈ ps) (h : (s.qp i).st.live) :
    Dev.QpStep ps cs i ((s.qp i).leaves .error (s.nowOn .ln)) s (s.qpError i) :=
  s.qpError_of_live h ▸ s.qpStep_qpLeave hr hw i .error

@[simp] theorem Dev.qpError_raised (i : Nat) : (s.qpError i).raised = s.raised := by
  by_cases h : (s.qp i).st.live
  · rw [s.qpError_of_live h, Dev.qpLeave_raised]
  · rw [s.qpError_of_not_live h]

/-- Moved to ERROR or left as it was, the queue pair `i` alone. -/
theorem Dev.qpError_cases (hr : .rdma ∈ ps) (hw : .sw ∈ ps) (i : Nat) : ∃ q : Qp, Dev.QpStep ps cs i q s (s.qpError i) ∧
    ((s.qp i).st.live → q.st = .error) ∧ ((s.qp i).st = .error → q.st = .error) := by
  by_cases h : (s.qp i).st.live
  · exact ⟨_, s.qpStep_qpError hr hw h, fun _ => rfl, fun _ => rfl⟩
  · rw [s.qpError_of_not_live h]
    exact ⟨_, .of_step (.refl s) rfl, fun hl => absurd hl h, id⟩

/-- Several queue pairs moved to ERROR (03 R136). -/
structure Dev.Errored (l : List Nat) (a b : Dev) : Prop where
  step : Dev.Step [.rdma, .sw] [] [] a b
  raised : b.raised = a.raised
  rest : { b.rdma with qps := [] } = { a.rdma with qps := [] }
  other : ∀ j, j ∉ l → b.qp j = a.qp j
  stays : ∀ j, (a.qp j).st = .error → (b.qp j).st = .error
  self : ∀ j ∈ l, (a.qp j).st.live → (b.qp j).st = .error

theorem Dev.errored_foldl (l : List Nat) : ∀ s : Dev, Dev.Errored l s (l.foldl (fun d i => d.qpError i) s) := by
  induction l with
  | nil => exact fun s => ⟨.refl s, rfl, rfl, fun _ _ => rfl, fun _ => id, fun _ h => absurd h List.not_mem_nil⟩
  | cons i l ih =>
    intro s
    obtain ⟨q, hq, hlive, herr⟩ := s.qpError_cases (ps := [.rdma, .sw]) (cs := []) (by simp) (by simp) i
    have k := ih (s.qpError i)
    have hstays : ∀ j, (s.qp j).st = .error → ((s.qpError i).qp j).st = .error := fun j hj => by
      by_cases hji : j = i
      · rw [hji, hq.self]
        exact herr (hji ▸ hj)
      · rwa [hq.other j hji]
    refine ⟨hq.toStep.trans k.step, k.raised.trans (s.qpError_raised i), k.rest.trans hq.rest, fun j hj => ?_, fun j hj => k.stays j (hstays j hj),
      fun j hj hl => ?_⟩
    · obtain ⟨hji, hjl⟩ := not_or.mp (List.mem_cons.not.mp hj)
      exact (k.other j hjl).trans (hq.other j hji)
    · by_cases hji : j = i
      · subst hji
        exact k.stays j (by rw [hq.self]; exact hlive hl)
      · exact k.self j (List.mem_of_ne_of_mem hji hj) (by rwa [hq.other j hji])

end Leaving

end Sys2Proof.Machine

/-!
PROOF. Persistent windows (03 R119-R136, R140): what each command of a window leaves, and the settlement of O20.
-/
namespace Sys2Proof.Machine

section Answering

variable (s : Dev)

theorem Dev.Step.storeChanged {ps : List DevPart} {xs : List Fld} {cs : List Ctr} (b : Dev) (h : .fw ∈ ps) :
    Dev.Step ps xs cs s (s.storeChanged b) := by
  obtain ⟨l, hl⟩ := s.storeChanged_eq b
  rw [hl]
  exact .fw s _ h

theorem Dev.step_windowEnds (code : Nat) (data : List Byte) : Dev.Step [.fw, .od] answerFlds [] s (s.windowEnds code data) := by
  have hset : ∀ (s : Dev) f i v, f ∈ answerFlds → Dev.Step [.fw, .od] answerFlds [] s (s.setFld f i v) := fun s f i v h => .setFld s f i v h
  unfold Dev.windowEnds
  refine .ite (fun _ => .refl s) (fun _ => ?_)
  have hgo := (hset s .MG_CTL_GO 0 0 (by decide)).trans (hset _ .MG_ABORT_CODE 0 code (by decide))
  refine .ite (fun _ => ?_) (fun _ => hgo)
  exact (hgo.trans (hset _ .MG_CTL_LENGTH 0 data.length (by decide))).trans (.foldl (fun s _ => hset s .MG_DATA_DATA _ _ (by decide)) _ _)

theorem Dev.step_oapRespond (n : Nat) : Dev.Step [.fw, .od] answerFlds [] s (s.oapRespond n) := by
  unfold Dev.oapRespond
  dsimp only
  split
  · exact .refl s
  · split
    · exact .emit s _
    · exact .ite (fun _ => .emit s _) (fun _ => .emit s _)

theorem Dev.step_dictAnswer (n code : Nat) (data : List Byte) : Dev.Step [.fw, .od] answerFlds [] s (s.dictAnswer n code data) := by
  unfold Dev.dictAnswer
  extract_lets x s₁
  have h₁ : Dev.Step [.fw, .od] answerFlds [] s s₁ := (Dev.Step.od s _ (by simp)).trans (.emit _ _)
  exact .ite (fun _ => h₁.trans (Dev.step_windowEnds _ _ _))
    (fun _ => .ite (fun _ => h₁.trans (Dev.step_oapRespond _ _)) (fun _ => h₁.trans (.od _ _ (by simp))))

theorem Dev.step_answerStored (before : Dev) (n : Nat) : Dev.Step [.fw, .od] answerFlds [] s (s.answerStored before n) := by
  unfold Dev.answerStored
  exact .ite (fun _ => s.step_dictAnswer _ _ _) (fun _ => .fw s _ (by simp))

/-- A command that reaches its register does what it means and is answered (01 R48; 14 R547, R555). -/
theorem Dev.step_viaCommand {via : Via} {addr : Nat} (h : s.commandMade via addr = true) (f : Dev → Dev × Nat) :
    Dev.Step [.fw, .od] answerFlds [] (f s).1 (s.viaCommand via addr f) := by
  cases via with
  | reg r =>
    obtain ⟨hs, hi⟩ : s.served = true ∧ s.blockIsolated addr = false := by simpa [Dev.commandMade] using h
    have he : s.viaCommand (.reg r) addr f = ((f s).1).storeChanged s := Dev.regWrite_served (fun s => (f s).1) hs hi
    rw [he]
    exact .storeChanged _ s (by simp)
  | dict n =>
    obtain ⟨hl, hu⟩ : s.sessionLevel n = .custodian ∧ s.unreached addr = false := by simpa [Dev.commandMade] using h
    simp only [Dev.viaCommand, hl, ne_eq, not_true_eq_false, if_false, hu, Bool.false_eq_true]
    exact .ite (fun _ => Dev.step_answerStored _ _ _) (fun _ => Dev.step_dictAnswer _ _ _ _)

/-- An asynchronous event changes controllers and the commands that wait for one (04 R156). -/
theorem Dev.step_asyncEvent {ps : List DevPart} {xs : List Fld} {cs : List Ctr} (h : .nvme ∈ ps) (k type info log : Nat) :
    Dev.Step ps xs cs s (s.asyncEvent k type info log) := by
  unfold Dev.asyncEvent
  split
  · exact .refl s
  · refine .ite (fun _ => .refl s) (fun _ => ?_)
    split
    · split
      · exact (Dev.Step.nvme s _ h).trans (.nvme _ _ h)
      · exact .refl s
    · exact .ite (fun _ => .refl s) (fun _ => .nvme s _ h)

theorem Dev.step_asyncTenant {ps : List DevPart} {xs : List Fld} {cs : List Ctr} (h : .nvme ∈ ps) (t type info log : Nat) :
    Dev.Step ps xs cs s (s.asyncTenant t type info log) := .foldl (fun s k => s.step_asyncEvent h k type info log) _ s

end Answering

section Configuration

variable {s : State} {via : Via} {slot : Fin 4096}

/-- A command that reaches its register leaves the device `d` within the answer's frame of what the command means. -/
theorem exec_viaCommand {c : Instr} {addr : Nat} {f : Dev → Dev × Nat} {e : Dev} (hx : exec c s = s.run (fun d => d.viaCommand via addr f))
    (h : s.dev.commandMade via addr = true) (he : (f s.dev.quiet).1 = e) :
    ∃ d, exec c s = s.run (fun _ => d) ∧ Dev.Step [.fw, .od] answerFlds [] e d :=
  ⟨_, hx.trans (State.run_eq_of_quiet rfl), he ▸ Dev.step_viaCommand s.dev.quiet h f⟩

/-- A command refused with event 187h changes nothing (03 R133, R140). -/
theorem windowRefused_answers {c : Instr} {addr : Nat} {f : Dev → Dev × Nat} {k : Nat}
    (hx : exec c s = s.run (fun d => d.viaCommand via addr f)) (h : s.dev.commandMade via addr = true)
    (he : (f s.dev.quiet).1 = s.dev.quiet.windowRefused k) :
    Answers c s (fun t => (s.hears .ln → s.told t .ln 0x187 (le 2 k)) ∧ t.dev.rdma = s.dev.rdma ∧
      Dev.OnlyChanged [.fw, .od] answerFlds [] s.dev t.dev) := by
  obtain ⟨d, hd, hstep⟩ := exec_viaCommand hx h he
  have hq : Dev.Step [.fw, .od] answerFlds [] s.dev.quiet d := (Dev.Step.event _ _ _ _ _).trans hstep
  refine .of_run hd ⟨State.told_of_prefix (e := s.dev.quiet) (Nat.zero_lt_succ _) hstep.raised rfl rfl, ?_, hq.after⟩
  rw [State.after_rdma]
  exact hq.rdma_eq (by decide)

/-- A command that makes window `k` be `w` leaves every other part of the transport as it was. -/
theorem windowSet_answers {c : Instr} {addr : Nat} {f : Dev → Dev × Nat} {k : Nat} {w : Window}
    (hx : exec c s = s.run (fun d => d.viaCommand via addr f)) (h : s.dev.commandMade via addr = true)
    (he : (f s.dev.quiet).1 = s.dev.quiet.setWindow k w) :
    Answers c s (fun t => t.dev.window k = w ∧ (∀ j, j ≠ k → t.dev.window j = s.dev.window j) ∧ t.dev.rdma.qps = s.dev.rdma.qps ∧
      t.dev.rdma.mem = s.dev.rdma.mem ∧ t.dev.rdma.durable = s.dev.rdma.durable ∧ Dev.OnlyChanged [.rdma, .fw, .od] answerFlds [] s.dev t.dev) := by
  obtain ⟨d, hd, hstep⟩ := exec_viaCommand hx h he
  have hr : (s.after (fun _ => d)).dev.rdma = (s.dev.quiet.setWindow k w).rdma := (State.after_rdma ..).trans (hstep.rdma_eq (by decide))
  have hw : ∀ j, (s.after (fun _ => d)).dev.window j = (s.dev.quiet.setWindow k w).window j := fun j => congrArg (fun r => r.wins.get {} j) hr
  have hq : Dev.Step [.rdma, .fw, .od] answerFlds [] s.dev.quiet d :=
    (Dev.Step.rdma _ _ (by simp)).trans (hstep.mono (by simp) (List.Subset.refl _) (List.Subset.refl _))
  refine .of_run hd ⟨(hw k).trans (Dev.window_setWindow_self ..), fun j hj => (hw j).trans (Dev.window_setWindow_other _ _ _ _ hj), ?_, ?_, ?_, hq.after⟩
  all_goals rw [hr]; rfl

variable {v : Word} {k : Nat}

/-- The slot a window write names does not depend on what was sent out or raised. -/
theorem Dev.windowNamed_quiet (d : Dev) (via : Via) (slot : Nat) : d.quiet.windowNamed via slot = d.windowNamed via slot := by cases via <;> rfl

/-- WIN_CFG as stored for slot `k` (03 WIN_CFG). -/
def Dev.windowConfigured (d : Dev) (k : Nat) (v : Word) : Dev :=
  ((((d.setFld .WIN_CFG_ATOMIC k (bitsOf v 26 26)).setFld .WIN_CFG_READ k (bitsOf v 25 25)).setFld .WIN_CFG_WRITE k (bitsOf v 24 24)).setFld
    .WIN_CFG_LEN k (bitsOf v 20 16)).setFld .WIN_CFG_TENANT k (bitsOf v 9 0)

def windowCfgFlds : List Fld := [.WIN_CFG_ATOMIC, .WIN_CFG_READ, .WIN_CFG_WRITE, .WIN_CFG_LEN, .WIN_CFG_TENANT]

theorem Dev.step_windowConfigured (d : Dev) (k : Nat) (v : Word) : Dev.Step [] windowCfgFlds [] d (d.windowConfigured k v) :=
  ((((Dev.Step.setFld _ _ _ _ (by decide)).trans (.setFld _ _ _ _ (by decide))).trans (.setFld _ _ _ _ (by decide))).trans
    (.setFld _ _ _ _ (by decide))).trans (.setFld _ _ _ _ (by decide))

/-- A field of the word written fits its register field. -/
theorem bitsOf_mod (v : Word) {hi lo w : Nat} (h : hi - lo + 1 = w) : bitsOf v hi lo % 2 ^ w = bitsOf v hi lo := by
  subst h
  exact Nat.mod_mod _ _

theorem Dev.windowConfigured_fld_self (d : Dev) (k : Nat) (v : Word) :
    (d.windowConfigured k v).fld .WIN_CFG_ATOMIC k = bitsOf v 26 26 ∧ (d.windowConfigured k v).fld .WIN_CFG_READ k = bitsOf v 25 25 ∧
    (d.windowConfigured k v).fld .WIN_CFG_WRITE k = bitsOf v 24 24 ∧ (d.windowConfigured k v).fld .WIN_CFG_LEN k = bitsOf v 20 16 ∧
    (d.windowConfigured k v).fld .WIN_CFG_TENANT k = bitsOf v 9 0 := by
  simp only [Dev.windowConfigured, Dev.fld_setFld_self, Dev.fld_setFld_ne, ne_eq, reduceCtorEq, not_false_eq_true]
  exact ⟨bitsOf_mod v rfl, bitsOf_mod v rfl, bitsOf_mod v rfl, bitsOf_mod v rfl, bitsOf_mod v rfl⟩

theorem Dev.windowConfigured_fld_other (d : Dev) {j k : Nat} (v : Word) (h : j ≠ k) (f : Fld) : (d.windowConfigured k v).fld f j = d.fld f j := by
  simp only [Dev.windowConfigured, Dev.fld_setFld_other _ _ (Or.inr h)]

theorem winCfgWrite_stores (hm : s.dev.commandMade via (Reg.addr .WIN_CFG) = true) (hk : s.dev.windowNamed via slot.val = k)
    (hst : (s.dev.window k).st = .free) (hreg : (s.dev.window k).registering = false) :
    Answers (.winCfgWrite via slot v) s (fun t => t.dev.fld .WIN_CFG_ATOMIC k = bitsOf v 26 26 ∧ t.dev.fld .WIN_CFG_READ k = bitsOf v 25 25 ∧
      t.dev.fld .WIN_CFG_WRITE k = bitsOf v 24 24 ∧ t.dev.fld .WIN_CFG_LEN k = bitsOf v 20 16 ∧ t.dev.fld .WIN_CFG_TENANT k = bitsOf v 9 0 ∧
      (∀ j, j ≠ k → t.dev.fld .WIN_CFG_LEN j = s.dev.fld .WIN_CFG_LEN j ∧ t.dev.fld .WIN_CFG_TENANT j = s.dev.fld .WIN_CFG_TENANT j) ∧
      Dev.OnlyChanged [.fw, .od] (windowCfgFlds ++ answerFlds) [] s.dev t.dev) := by
  obtain ⟨d, hd, hstep⟩ := exec_viaCommand (c := .winCfgWrite via slot v) (e := s.dev.quiet.windowConfigured k v) rfl hm
    (by simp [Dev.windowNamed_quiet, hk, hst, hreg, Dev.windowConfigured])
  have hq : Dev.Step [.fw, .od] (windowCfgFlds ++ answerFlds) [] s.dev.quiet d :=
    ((s.dev.quiet.step_windowConfigured k v).mono (by simp) (by simp) (by simp)).trans (hstep.mono (by simp) (by simp) (by simp))
  have hf : ∀ f ∈ windowCfgFlds, ∀ j, (s.after (fun _ => d)).dev.fld f j = (s.dev.quiet.windowConfigured k v).fld f j := fun f hf j =>
    (State.after_fld ..).trans (hstep.fld (by revert f; decide) j)
  obtain ⟨ha, hr, hw, hl, ht⟩ := s.dev.quiet.windowConfigured_fld_self k v
  refine .of_run hd ⟨(hf _ (by decide) k).trans ha, (hf _ (by decide) k).trans hr, (hf _ (by decide) k).trans hw, (hf _ (by decide) k).trans hl,
    (hf _ (by decide) k).trans ht, fun j hj => ⟨?_, ?_⟩, hq.after⟩
  · exact (hf _ (by decide) j).trans (Dev.windowConfigured_fld_other _ v hj _)
  · exact (hf _ (by decide) j).trans (Dev.windowConfigured_fld_other _ v hj _)

theorem winCfgWrite_refused (hm : s.dev.commandMade via (Reg.addr .WIN_CFG) = true) (hk : s.dev.windowNamed via slot.val = k)
    (hst : (s.dev.window k).st ≠ .free ∨ (s.dev.window k).registering = true) :
    Answers (.winCfgWrite via slot v) s (fun t => (s.hears .ln → s.told t .ln 0x187 (le 2 k)) ∧ Dev.OnlyChanged [.fw, .od] answerFlds [] s.dev t.dev) := by
  refine (windowRefused_answers (c := .winCfgWrite via slot v) (k := k) rfl hm ?_).imp fun t ⟨htold, _, hframe⟩ => ⟨htold, hframe⟩
  simp only [Dev.windowNamed_quiet, hk, Dev.quiet_window, hst, if_true]

theorem winRegister_begins (hm : s.dev.commandMade via (Reg.addr .WIN_CMD) = true) (hk : s.dev.windowNamed via slot.val = k)
    (hst : (s.dev.window k).st = .free) (hreg : (s.dev.window k).registering = false)
    (hlen : 1 ≤ s.dev.fld .WIN_CFG_LEN k ∧ s.dev.fld .WIN_CFG_LEN k ≤ 16) (hrng : s.dev.cust.rngOk = true) :
    Answers (.winRegister via slot) s (fun t => t.dev.window k = { s.dev.window k with registering := true } ∧
      (∀ j, j ≠ k → t.dev.window j = s.dev.window j) ∧ t.dev.rdma.qps = s.dev.rdma.qps ∧ t.dev.rdma.mem = s.dev.rdma.mem ∧
      t.dev.rdma.durable = s.dev.rdma.durable ∧ Dev.OnlyChanged [.rdma, .fw, .od] answerFlds [] s.dev t.dev) := by
  refine windowSet_answers (c := .winRegister via slot) rfl hm ?_
  have hn : ¬(s.dev.fld .WIN_CFG_LEN k = 0 ∨ 16 < s.dev.fld .WIN_CFG_LEN k) := by omega
  simp [Dev.windowNamed_quiet, hk, hst, hreg, hrng, hn]

theorem winRegister_refused (hm : s.dev.commandMade via (Reg.addr .WIN_CMD) = true) (hk : s.dev.windowNamed via slot.val = k)
    (hbad : (s.dev.window k).st ≠ .free ∨ s.dev.fld .WIN_CFG_LEN k = 0 ∨ 16 < s.dev.fld .WIN_CFG_LEN k) :
    Answers (.winRegister via slot) s (fun t => (s.hears .ln → s.told t .ln 0x187 (le 2 k)) ∧ t.dev.rdma = s.dev.rdma ∧
      Dev.OnlyChanged [.fw, .od] answerFlds [] s.dev t.dev) := by
  refine windowRefused_answers (c := .winRegister via slot) rfl hm ?_
  simp only [Dev.windowNamed_quiet, hk, Dev.quiet_window, Dev.quiet_fld, Dev.quiet_cust]
  split
  · rfl
  · rename_i hfree
    have hlen : s.dev.fld .WIN_CFG_LEN k = 0 ∨ 16 < s.dev.fld .WIN_CFG_LEN k := hbad.resolve_left (fun h => hfree (.inl h))
    rw [if_pos (by tauto)]

theorem winRevoke_begins (hm : s.dev.commandMade via (Reg.addr .WIN_CMD) = true) (hk : s.dev.windowNamed via slot.val = k)
    (hst : (s.dev.window k).st = .valid) :
    Answers (.winRevoke via slot) s (fun t => t.dev.window k = { s.dev.window k with st := .revoking, revokeAt := s.dev.nowOn .ln } ∧
      (∀ j, j ≠ k → t.dev.window j = s.dev.window j) ∧ t.dev.rdma.qps = s.dev.rdma.qps ∧ t.dev.rdma.mem = s.dev.rdma.mem ∧
      Dev.OnlyChanged [.rdma, .fw, .od] answerFlds [] s.dev t.dev) := by
  refine (windowSet_answers (c := .winRevoke via slot) (k := k) (w := { s.dev.window k with st := .revoking, revokeAt := s.dev.nowOn .ln }) rfl hm
    ?_).imp fun t ⟨hself, hother, hqps, hmem, _, hframe⟩ => ⟨hself, hother, hqps, hmem, hframe⟩
  simp [Dev.windowNamed_quiet, hk, hst]

theorem winRevoke_refused (hm : s.dev.commandMade via (Reg.addr .WIN_CMD) = true) (hk : s.dev.windowNamed via slot.val = k)
    (hst : (s.dev.window k).st ≠ .valid) :
    Answers (.winRevoke via slot) s (fun t => (s.hears .ln → s.told t .ln 0x187 (le 2 k)) ∧ t.dev.rdma = s.dev.rdma ∧
      Dev.OnlyChanged [.fw, .od] answerFlds [] s.dev t.dev) := by
  refine windowRefused_answers (c := .winRevoke via slot) rfl hm ?_
  simp [Dev.windowNamed_quiet, hk, hst]

end Configuration

section Registration

/-- A table from which keys are left out. -/
theorem Table.get_filter {α : Type} (p : Nat → Bool) (t : Table α) (d : α) (k : Nat) :
    Table.get (t.filter (fun e => p e.1)) d k = if p k then t.get d k else d := by
  have h : Table.find (t.filter (fun e => p e.1)) k = if p k then t.find k else none := by
    induction t with
    | nil => simp [Table.find]
    | cons e t ih =>
      obtain ⟨j, v⟩ := e
      by_cases hj : j = k
      · subst hj
        cases hp : p j <;> simp_all [Table.find]
      · cases hp : p j <;> simp [Table.find, hp, hj, ih]
  rw [Table.get, h]
  split <;> rfl

/-- The TAG after `old`, drawn as `r` (03 R121). -/
def nextTag (old r : Nat) : Nat := if r % 2 ^ 20 = old then (r % 2 ^ 20 + 1) % 2 ^ 20 else r % 2 ^ 20

theorem nextTag_ne (old r : Nat) : nextTag old r ≠ old := by
  unfold nextTag
  split <;> omega

theorem nextTag_lt (old r : Nat) : nextTag old r < 2 ^ 20 := by
  unfold nextTag
  split <;> omega

/-- The transport with window slot `k` erased, VALID and given a TAG (03 R121, R133). -/
def Rdma.registered (r : Rdma) (k tag : Nat) : Rdma :=
  { r with mem := r.mem.filter (fun e => !(e.1 / 65536 == k)), durable := r.durable.filter (fun e => !(e.1 / 65536 == k))
           placed := r.placed.filter (fun b => !(b.addr / 65536 == k)), wins := r.wins.put {} k { st := .valid, tag := tag } }

theorem Rdma.registered_mem (r : Rdma) (k tag a : Nat) : (r.registered k tag).mem.get 0 a = if a / 65536 = k then 0 else r.mem.get 0 a := by
  refine (Table.get_filter (fun a => !(a / 65536 == k)) r.mem 0 a).trans ?_
  by_cases h : a / 65536 = k <;> simp [h]

theorem Rdma.registered_durable (r : Rdma) (k tag a : Nat) :
    (r.registered k tag).durable.get 0 a = if a / 65536 = k then 0 else r.durable.get 0 a := by
  refine (Table.get_filter (fun a => !(a / 65536 == k)) r.durable 0 a).trans ?_
  by_cases h : a / 65536 = k <;> simp [h]

variable {s : State} {slot : Fin 4096}

/-- The device with slot `k` registered under a fresh TAG. -/
def Dev.windowRegistered (d : Dev) (k : Nat) : Dev :=
  { d with rdma := d.rdma.registered k (nextTag (d.window k).tag (Config.freeValue d.fresh).toNat), fresh := d.fresh + 1 }

theorem Dev.step_windowRegistered (d : Dev) (k : Nat) : Dev.Step [.rdma, .fresh, .nvme] [] [] d (d.windowRegistered k) := by
  unfold Dev.windowRegistered
  exact (Dev.Step.rdma d _ (by decide)).trans (.fresh { d with rdma := d.rdma.registered k _ } _ (by decide))

theorem exec_winRegisterComplete (hup : s.dev.transportUp = true) (hreg : (s.dev.window slot.val).registering = true)
    (hrng : s.dev.cust.rngOk = true) : exec (.winRegisterComplete slot) s = s.run (fun _ =>
      let e := s.dev.quiet.windowRegistered slot.val
      let t := s.dev.fld .WIN_CFG_TENANT slot.val
      (e.event .ln 0x188 (le 2 slot.val ++ le 2 t)).asyncTenant t 7 0xC0 0xC0) :=
  State.runIf_eq_of_quiet (by simp [hup, hreg, hrng]) rfl

theorem winRegisterComplete_answers (hup : s.dev.transportUp = true) (hreg : (s.dev.window slot.val).registering = true)
    (hrng : s.dev.cust.rngOk = true) :
    Answers (.winRegisterComplete slot) s (fun t => (t.dev.window slot.val).st = .valid ∧ (t.dev.window slot.val).registering = false ∧
      (t.dev.window slot.val).tag ≠ (s.dev.window slot.val).tag ∧ (t.dev.window slot.val).tag < 2 ^ 20 ∧
      (∀ a, a / 65536 = slot.val → t.dev.rdma.mem.get 0 a = 0 ∧ t.dev.rdma.durable.get 0 a = 0) ∧
      (∀ a, a / 65536 ≠ slot.val → t.dev.rdma.mem.get 0 a = s.dev.rdma.mem.get 0 a ∧ t.dev.rdma.durable.get 0 a = s.dev.rdma.durable.get 0 a) ∧
      (∀ j, j ≠ slot.val → t.dev.window j = s.dev.window j) ∧ t.dev.rdma.qps = s.dev.rdma.qps ∧
      (s.hears .ln → s.told t .ln 0x188 (le 2 slot.val ++ le 2 (s.dev.fld .WIN_CFG_TENANT slot.val))) ∧
      Dev.OnlyChanged [.rdma, .fresh, .nvme] [] [] s.dev t.dev) := by
  set e := s.dev.quiet.windowRegistered slot.val
  set tag := nextTag (s.dev.window slot.val).tag (Config.freeValue s.dev.fresh).toNat
  have hcreated : Dev.Step [.rdma, .fresh, .nvme] [] [] s.dev.quiet e := s.dev.quiet.step_windowRegistered _
  have hasync := Dev.step_asyncTenant (ps := [.nvme]) (xs := []) (cs := []) (e.event .ln 0x188 (le 2 slot.val ++ le 2 (s.dev.fld .WIN_CFG_TENANT slot.val)))
    (by simp) (s.dev.fld .WIN_CFG_TENANT slot.val) 7 0xC0 0xC0
  have hstep : Dev.Step [.rdma, .fresh, .nvme] [] [] s.dev.quiet _ :=
    (hcreated.trans (.event _ _ _ _ _)).trans (hasync.mono (by simp) (by simp) (by simp))
  refine .of_run (exec_winRegisterComplete hup hreg hrng) ?_
  set t := s.after _
  have hr : t.dev.rdma = s.dev.rdma.registered slot.val tag := (State.after_rdma ..).trans (hasync.rdma_eq (by decide))
  have hw : ∀ j, t.dev.window j = (s.dev.rdma.wins.put {} slot.val { st := .valid, tag := tag }).get {} j := fun j => congrArg (fun r => r.wins.get {} j) hr
  have hself : t.dev.window slot.val = { st := .valid, tag := tag } := (hw _).trans (Table.get_put_self ..)
  rw [hself, hr]
  refine ⟨rfl, rfl, nextTag_ne _ _, nextTag_lt _ _, fun a ha => ?_, fun a ha => ?_, fun j hj => (hw j).trans (Table.get_put_other _ _ _ hj), rfl,
    State.told_of_prefix (e := e) (Nat.zero_lt_succ _) hasync.raised rfl rfl, hstep.after⟩
  · simp only [Rdma.registered_mem, Rdma.registered_durable, ha, if_true, and_self]
  · simp only [Rdma.registered_mem, Rdma.registered_durable, ha, if_false, and_self]

end Registration

section Revocation

variable {s : State} {slot : Fin 4096} {d : Dev}

/-- A revocation that completes frees its slot, tells event 189h and changes nothing else but what asynchronous events do (03 R122, R136). -/
theorem Dev.step_revoked (d : Dev) (k : Nat) :
    Dev.Step [.nvme] [] [] ((d.setWindow k { d.window k with st := .free }).event .ln 0x189 (le 2 k)) (d.revoked k) :=
  Dev.step_asyncTenant _ (by simp) _ _ _ _

theorem revocationComplete_answers (hup : s.dev.transportUp = true) (hst : (s.dev.window slot.val).st = .revoking)
    (hnone : s.dev.windowUsers slot.val = []) :
    Answers (.revocationComplete slot) s (fun t => t.dev.window slot.val = { s.dev.window slot.val with st := .free } ∧
      (∀ j, j ≠ slot.val → t.dev.window j = s.dev.window j) ∧ t.dev.rdma.qps = s.dev.rdma.qps ∧ t.dev.rdma.mem = s.dev.rdma.mem ∧
      (s.hears .ln → s.told t .ln 0x189 (le 2 slot.val)) ∧ Dev.OnlyChanged [.rdma, .nvme] [] [] s.dev t.dev) := by
  have hx : exec (.revocationComplete slot) s = s.run (fun _ => s.dev.quiet.revoked slot.val) :=
    State.runIf_eq_of_quiet (by simp [hup, hst, hnone]) rfl
  set e := s.dev.quiet.setWindow slot.val { s.dev.window slot.val with st := .free }
  have hrevoked : Dev.Step [.nvme] [] [] (e.event .ln 0x189 (le 2 slot.val)) (s.dev.quiet.revoked slot.val) := Dev.step_revoked _ _
  have hstep : Dev.Step [.rdma, .nvme] [] [] s.dev.quiet (s.dev.quiet.revoked slot.val) :=
    ((Dev.Step.rdma _ _ (by simp)).trans (.event e _ _ _ _)).trans (hrevoked.mono (by simp) (by simp) (by simp))
  refine .of_run hx ?_
  set t := s.after _
  have hr : t.dev.rdma = e.rdma := (State.after_rdma ..).trans (hrevoked.rdma_eq (by decide))
  have hw : ∀ j, t.dev.window j = e.window j := fun j => congrArg (fun r => r.wins.get {} j) hr
  refine ⟨(hw _).trans (Dev.window_setWindow_self ..), fun j hj => (hw j).trans (Dev.window_setWindow_other _ _ _ _ hj), ?_, ?_,
    State.told_of_prefix (e := e) (Nat.zero_lt_succ _) hrevoked.raised rfl rfl, hstep.after⟩
  all_goals rw [hr]; rfl

/-- The queue pairs that still use the slot enter ERROR, and the revocation completes (03 R136). -/
theorem revokeTimeout_answers (hup : s.dev.transportUp = true) (hst : (s.dev.window slot.val).st = .revoking) (husers : s.dev.windowUsers slot.val ≠ [])
    (hover : s.dev.expired .ln (s.dev.window slot.val).revokeAt (s.dev.fld .RD_TIMING_REVOKE_TO * 1000000) = true) :
    Answers (.revokeTimeout slot) s (fun t => t.dev.window slot.val = { s.dev.window slot.val with st := .free } ∧
      (s.dev.windowUsers slot.val).all (fun i => decide ((s.dev.qp i).st = .rts ∨ (s.dev.qp i).st = .draining ∨ (s.dev.qp i).st = .rtr →
        (t.dev.qp i).st = .error)) = true ∧
      (∀ i, i ∉ s.dev.windowUsers slot.val → t.dev.qp i = s.dev.qp i) ∧ (∀ j, j ≠ slot.val → t.dev.window j = s.dev.window j) ∧
      t.dev.rdma.mem = s.dev.rdma.mem ∧
      (s.hears .ln → s.told t .ln 0x18A (le 2 slot.val ++ leCount (s.dev.windowUsers slot.val).length) ∧ s.told t .ln 0x189 (le 2 slot.val)) ∧
      Dev.OnlyChanged [.rdma, .nvme, .sw] [] [] s.dev t.dev) := by
  set k := slot.val
  set d₁ := (s.dev.windowUsers k).foldl (fun d i => d.qpError i) s.dev.quiet
  set d₂ := d₁.event .ln 0x18A (le 2 k ++ leCount (s.dev.windowUsers k).length)
  set e := d₂.setWindow k { d₁.window k with st := .free }
  have herr : Dev.Errored (s.dev.windowUsers k) s.dev.quiet d₁ := Dev.errored_foldl _ _
  have hrevoked : Dev.Step [.nvme] [] [] (e.event .ln 0x189 (le 2 k)) (d₂.revoked k) := Dev.step_revoked _ _
  have hx : exec (.revokeTimeout slot) s = s.run (fun _ => d₂.revoked k) :=
    State.runIf_eq_of_quiet (by simp [hup, hst, husers, hover, ms, k]) rfl
  have hstep : Dev.Step [.rdma, .nvme, .sw] [] [] s.dev.quiet (d₂.revoked k) :=
    (((herr.step.mono (by simp) (List.Subset.refl _) (List.Subset.refl _)).trans (.event _ _ _ _ _)).trans (.rdma _ _ (by decide))).trans
      ((Dev.Step.event e _ _ _ _).trans (hrevoked.mono (by simp) (List.Subset.refl _) (List.Subset.refl _)))
  have hraised₁ : d₁.raised = [] := herr.raised
  have he : e.nowOn .ln = d₁.nowOn .ln := rfl
  have hwin : ∀ j, d₁.window j = s.dev.window j := fun j => congrArg (fun r => r.wins.get {} j) herr.rest
  refine .of_run hx ?_
  set t := s.after _
  have hr : t.dev.rdma = e.rdma := (State.after_rdma ..).trans (hrevoked.rdma_eq (by decide))
  have hq : ∀ i, t.dev.qp i = d₁.qp i := fun i => congrArg (fun r => r.qps.get {} i) hr
  have hw : ∀ j, t.dev.window j = e.window j := fun j => congrArg (fun r => r.wins.get {} j) hr
  refine ⟨(hw k).trans ((Dev.window_setWindow_self ..).trans ?_), ?_, fun i hi => (hq i).trans (herr.other i hi),
    fun j hj => (hw j).trans ((Dev.window_setWindow_other _ _ _ _ hj).trans (hwin j)), hr ▸ congrArg (fun r => r.mem) herr.rest, fun hh => ⟨?_, ?_⟩, hstep.after⟩
  · rw [hwin]
  · exact List.all_eq_true.mpr fun i hi => decide_eq_true fun hl => (congrArg Qp.st (hq i)).trans (herr.self i hi hl)
  · exact State.told_of_prefix (e := d₁) (by simp [hraised₁]) ((List.prefix_append _ _).trans hrevoked.raised) (herr.step.nowOn (by decide) _)
      (herr.step.timeLoaded_eq (by decide)) hh
  · exact State.told_of_prefix (e := e) (by simp [e, d₂, Dev.event, hraised₁]) hrevoked.raised
      (he.trans (herr.step.nowOn (by decide) .ln))
      (herr.step.timeLoaded_eq (by decide)) hh

end Revocation

/-- Settles O20: each window command tests its slot's state and is refused, or writes the configuration's fields or that slot alone. -/
theorem persistentWindows : Obligations.PersistentWindows :=
  ⟨fun _ _ _ _ _ => winCfgWrite_stores, fun _ _ _ _ _ => winCfgWrite_refused, fun _ _ _ _ => winRegister_begins,
    fun _ _ _ _ => winRegister_refused, fun _ _ => winRegisterComplete_answers, fun _ _ _ _ => winRevoke_begins,
    fun _ _ _ _ => winRevoke_refused, fun _ _ => revocationComplete_answers, fun _ _ => revokeTimeout_answers⟩

end Sys2Proof.Machine

/-!
PROOF. Received requests (03 R91-R128): what a packet in sequence on a queue pair in RTS comes to, bytes placed in a window and read back, the
acknowledgement of a request executed, and the packets that go no further.
-/
namespace Sys2Proof.Machine

section Acknowledging

variable (s : Dev) {ps : List DevPart} {cs : List Ctr}

/-- A queue pair that has acknowledged all it executed and granted SENDs up to `limit` with `code` (03 R105, R112). -/
def Qp.granted (q : Qp) (code limit : Nat) : Qp := { q with sentCode := code, limit := limit, unacked := 0, ackAt := none }

/-- A queue pair that has executed a message of `n` packets (03 R103). -/
def Qp.executed (q : Qp) (n now : Nat) : Qp :=
  { q with ePsn := psnAdd q.ePsn n, msn := q.msn + 1, gapNak := false, unacked := q.unacked + 1, ackAt := some (q.ackAt.getD now) }

/-- The PSN before the one that follows. -/
theorem psnSub_psnAdd_one {p : Nat} (h : p < 2 ^ 24) : psnSub (psnAdd p 1) 1 = p := by
  unfold psnSub psnAdd
  omega

theorem Dev.qpStep_sendAck (hp : [.rdma, .sw, .ten] ⊆ ps) (hc : sendCtrs ⊆ cs) (i psn : Nat) : ∃ code limit,
    Dev.QpStep ps cs i ((s.qp i).granted code limit) s (s.sendAck i psn) ∧
      Out.rdmaAck (qpnOf i) psn ((s.qp i).msn % 2 ^ 24) code ∈ (s.sendAck i psn).out := by
  have hsend : sendParts ⊆ ps := List.Subset.trans (by decide) hp
  unfold Dev.sendAck
  extract_lets q live c limit s₁
  refine ⟨c, limit, ?_, List.mem_append_right _ (List.mem_singleton.mpr rfl)⟩
  exact (Dev.QpStep.setQp s i _ (hp (by decide))).then_step ((s₁.step_sendFrame hsend hc _ _ _ _).trans (.emit _ _)) (Dev.sendFrame_rdma ..)

/-- A message executed is acknowledged at its end (03 R105). -/
theorem Dev.qpStep_requestDone (hp : [.rdma, .sw, .ten] ⊆ ps) (hc : sendCtrs ⊆ cs) (i n : Nat) : ∃ code limit,
    Dev.QpStep ps cs i (((s.qp i).executed n (s.nowOn .ln)).granted code limit) s (s.requestDone i n true) ∧
      ((s.qp i).flushes = [] → Out.rdmaAck (qpnOf i) (psnSub (psnAdd (s.qp i).ePsn n) 1) (((s.qp i).msn + 1) % 2 ^ 24) code ∈
        (s.requestDone i n true).out) := by
  have hset : Dev.QpStep ps cs i _ s (s.setQp i ((s.qp i).executed n (s.nowOn .ln))) := .setQp s i _ (hp (by decide))
  set s₁ := s.setQp i ((s.qp i).executed n (s.nowOn .ln))
  obtain ⟨code, limit, hack, hout⟩ := s₁.qpStep_sendAck hp hc i (s₁.ackPsn i)
  rw [hset.self] at hack hout
  refine ⟨code, limit, hset.trans hack, fun hf => ?_⟩
  have hpsn : s₁.ackPsn i = psnSub (psnAdd (s.qp i).ePsn n) 1 := by
    unfold Dev.ackPsn
    rw [hset.self]
    dsimp only [Qp.executed]
    rw [hf]
  exact hpsn ▸ hout

end Acknowledging

section Windows

variable (s : Dev)

/-- What bytes written one after another read as. -/
theorem Memory.get_fold_written (l : List Byte) (base : Nat) : ∀ (k : Nat) (t : Table Byte) (n : Nat) (h : n < l.length),
    ((l.zipIdx k).foldl (fun t e => Table.put t 0 (base + e.2) e.1) t).get 0 (base + (k + n)) = l[n] := by
  induction l with
  | nil => exact fun _ _ _ h => absurd h (Nat.not_lt_zero _)
  | cons x l ih =>
    intro k t n h
    rw [List.zipIdx_cons, List.foldl_cons]
    cases n with
    | zero =>
      rw [Memory.get_fold_other]
      · exact Table.get_put_self ..
      · rintro ⟨y, m⟩ hm
        have := (List.mem_zipIdx hm).1
        dsimp only
        omega
    | succ n => exact (congrArg _ (by omega)).trans (ih (k + 1) _ n (Nat.lt_of_succ_lt_succ h))

/-- The bytes of the transport's windows after a placement (03 R98, R127). -/
theorem Dev.placeBytes_rdma (i slot off : Nat) (data : List Byte) (atom : Option Nat) : (s.placeBytes i slot off data atom).rdma =
    { s.rdma with
      mem := data.zipIdx.foldl (fun t e => Table.put t 0 (slot * 65536 + off + e.2) e.1) s.rdma.mem
      placed := s.rdma.placed ++ data.zipIdx.map (fun e => ⟨i, slot * 65536 + off + e.2, e.1, atom⟩) } := by
  unfold Dev.placeBytes Dev.meterWin
  exact Dev.meterCount_rdma ..

theorem Dev.step_placeBytes {ps : List DevPart} {cs : List Ctr} (hr : .rdma ∈ ps) (hl : .ldg ∈ ps) (i slot off : Nat) (data : List Byte)
    (atom : Option Nat) : Dev.Step ps [] cs s (s.placeBytes i slot off data atom) := by
  unfold Dev.placeBytes Dev.meterWin Dev.ledgerWear
  extract_lets base mem placed x s₁ w n writes y s₂ first m wear
  exact (((Dev.Step.rdma s _ hr).trans (.ldg s₁ _ hl)).trans (.ldg s₂ _ hl)).trans (.meterCount _ _ _)

/-- Placed bytes are what the window reads. -/
theorem Dev.windowRead_placeBytes (i slot off : Nat) (data : List Byte) (atom : Option Nat) :
    (s.placeBytes i slot off data atom).windowRead slot off data.length = data := by
  unfold Dev.windowRead
  rw [s.placeBytes_rdma]
  refine List.ext_getElem (by simp) fun n h _ => ?_
  rw [List.getElem_map, List.getElem_range]
  have h' : n < data.length := by simpa using h
  have := Memory.get_fold_written data (slot * 65536 + off) 0 s.rdma.mem n h'
  rwa [Nat.zero_add] at this

/-- A placement changes no byte outside its own. -/
theorem Dev.placeBytes_other (i slot off : Nat) (data : List Byte) (atom : Option Nat) (a : Nat)
    (h : a < slot * 65536 + off ∨ slot * 65536 + off + data.length ≤ a) :
    (s.placeBytes i slot off data atom).rdma.mem.get 0 a = s.rdma.mem.get 0 a := by
  rw [s.placeBytes_rdma]
  refine Memory.get_fold_other _ _ _ _ ?_
  rintro ⟨x, n⟩ hx
  have := (List.mem_zipIdx hx).2.1
  dsimp only
  omega

/-- The responses of a READ go out and leave the transport's state (03 R104). -/
theorem Dev.step_windowResponse {ps : List DevPart} {xs : List Fld} {cs : List Ctr} (hp : sendParts ⊆ ps) (hc : sendCtrs ⊆ cs) (i : Nat) (p : RocePacket) :
    Dev.Step ps xs cs s (s.windowResponse i p) := by
  unfold Dev.windowResponse
  extract_lets q n data s₁
  have hsent : Dev.Step ps xs cs s s₁ := .foldl (fun s _ => s.step_sendFrame hp hc _ _ _ _) _ _
  exact (hsent.trans (.meterCount _ _ _)).trans (.emit _ _)

end Windows

end Sys2Proof.Machine

/-!
PROOF. Requests that a queue pair in RTS takes as its next, and packets that are dropped (03 R91-R128): the statement O17.
-/
namespace Sys2Proof.Machine

section NewRequests

/-- A request packet that queue pair `i` in RTS takes as its next, apart from the policing of its tenant (03 R98, R103). -/
structure Dev.Requested (s : Dev) (i : Nat) (p : RocePacket) : Prop where
  up : s.transportUp = true
  icrc : p.icrcOk = true
  qpn : p.qpn = qpnOf i
  inRange : i < qpCount
  rts : (s.qp i).st = .rts
  psn : p.psn = (s.qp i).ePsn
  small : p.psn < 2 ^ 24
  unpoliced : s.flag .TN_CFG_POL_EN (s.qp i).tenant = false
  served : s.mode.quiesced = false
  noSend : (s.qp i).sendMsg = none
  noWrite : (s.qp i).writeMsg = none

variable {s : Dev} {i : Nat} {p : RocePacket}

theorem Dev.requested_of_newRequest (h : s.newRequest i p = true) : s.Requested i p := by
  simp only [Dev.newRequest, Bool.and_eq_true, beq_iff_eq, decide_eq_true_eq, Bool.not_eq_true', Option.isNone_iff_eq_none] at h
  obtain ⟨⟨⟨⟨⟨⟨⟨⟨⟨⟨hup, hicrc⟩, hqpn⟩, hlt⟩, hrts⟩, hpsn⟩, hsmall⟩, hpol⟩, hq⟩, hsend⟩, hwrite⟩ := h
  exact ⟨hup, hicrc, hqpn, hlt, hrts, hpsn, hsmall, hpol, hq, hsend, hwrite⟩

/-- The operation of a request packet that its queue pair takes (03 Opcodes). -/
def Dev.takeRequest (s : Dev) (i : Nat) (p : RocePacket) : Dev :=
  if opSend.contains p.opcode then s.recvSend i p
  else if opWrite.contains p.opcode then s.recvWrite i p
  else if p.opcode = 0x0C then s.recvRead i p true
  else if p.opcode = 0x1C then s.recvFlush i p true
  else if p.opcode = 0x1D then s.recvAtomic i p
  else s.nakInvalidReq i p.psn

/-- An unpoliced tenant's packet is green: at most its counter changes before its operation (05 R203). -/
theorem Dev.recvNew_requested (h : s.Requested i p) : ∃ c, Dev.Step [] [] [.TN_POL_GREEN] s { s with ctrs := c } ∧
    s.recvNew i p = { s with ctrs := c }.takeRequest i p := by
  have hst : ¬(s.qp i).st = .rtr := by simp [h.rts]
  unfold Dev.recvNew
  simp only [hst, if_false, Dev.police, h.unpoliced, Bool.not_false, if_true]
  by_cases hm : ((s.qp i).ctrl.isSome && s.flag .TN_CFG_ENABLE (s.qp i).tenant) = true
  · simp only [hm, if_true]
    exact ⟨_, .count s .TN_POL_GREEN 0 1 (List.mem_singleton.mpr rfl), rfl⟩
  · simp only [hm]
    exact ⟨s.ctrs, .refl s, rfl⟩

/-- The opcodes of requests that the statements speak of. -/
def requestOps : List Nat := [0x04, 0x0A, 0x0C, 0x1C, 0x1D]

theorem Dev.rocePacket_requested (h : s.Requested i p) (hop : p.opcode ∈ requestOps) : s.rocePacket p = s.recvNew i p := by
  have hqpn : p.qpn = 0x10000 + i := h.qpn
  have hi : p.qpn - 0x10000 = i := by omega
  have hpsn : psnSub (s.qp i).ePsn p.psn = 0 := by
    have := h.small
    rw [← h.psn]
    unfold psnSub
    omega
  have hlt : ¬0x20 ≤ p.opcode ∧ p.opcode ∉ opReadResponse ∧ p.opcode ∉ opAck := by
    revert hop
    generalize p.opcode = k
    revert k
    decide
  have hin : ¬(p.qpn < 0x10000 ∨ qpCount ≤ i) := by
    have := h.inRange
    omega
  unfold Dev.rocePacket Dev.recvRequest
  simp [h.up, h.icrc, hi, hin, hlt, h.rts, hpsn]

theorem Dev.Requested.counted (h : s.Requested i p) (c : Table Nat) : Dev.Requested { s with ctrs := c } i p :=
  ⟨h.up, h.icrc, h.qpn, h.inRange, h.rts, h.psn, h.small, h.unpoliced, h.served, h.noSend, h.noWrite⟩

/-- A command that takes packets of some opcodes leaves what the operation leaves, from a device with at most the green counter advanced. -/
theorem exec_request {s : State} {c : Instr} {ops : List Nat} (hx : exec c s = s.run (fun d => d.packetOf ops p)) (h : s.dev.newRequest i p = true)
    (hop : p.opcode ∈ requestOps) (hops : ops.contains p.opcode = true) : ∃ x, Dev.Requested { s.dev.quiet with ctrs := x } i p ∧
      Dev.Step [] [] [.TN_POL_GREEN] s.dev.quiet { s.dev.quiet with ctrs := x } ∧
      exec c s = s.run (fun _ => { s.dev.quiet with ctrs := x }.takeRequest i p) := by
  have hr : s.dev.quiet.Requested i p := Dev.requested_of_newRequest h
  obtain ⟨x, hstep, htake⟩ := Dev.recvNew_requested hr
  refine ⟨x, hr.counted x, hstep, hx.trans (State.run_eq_of_quiet ?_)⟩
  rw [Dev.packetOf, if_pos hops, Dev.rocePacket_requested hr hop, htake]

/-- The counters of a request executed and acknowledged. -/
def requestCtrs : List Ctr := [.RD_RX_PKTS, .RD_TX_PKTS, .TN_POL_GREEN, .SW_CELLS_ALLOC, .SW_ADMIT_WAITS]

/-- A SEND that takes a receive slot (03 R98, R110). -/
theorem Dev.recvSend_taken (h : s.Requested i p) (hop : p.opcode = 0x04) (hmtu : p.data.length ≤ (s.qp i).mtu) (hlen : p.data.length ≤ 64)
    (hfree : (s.qp i).inUse < (s.qp i).held) : s.takeRequest i p =
      ((s.count .RD_RX_PKTS).setQp i { s.qp i with inUse := (s.qp i).inUse + 1, sendMsg := none }).requestDone i 1 true := by
  have hlimit : ¬(if (s.qp i).msn = 0 then 1088 else 64) < p.data.length := by
    split <;> omega
  unfold Dev.takeRequest Dev.recvSend
  simp [hop, opSend, h.served, h.noSend, h.noWrite, hfree, hlimit, Nat.not_lt.mpr hmtu]

/-- A SEND that finds no receive slot (03 R112). -/
theorem Dev.recvSend_full (h : s.Requested i p) (hop : p.opcode = 0x04) (hmtu : p.data.length ≤ (s.qp i).mtu) (hlen : p.data.length ≤ 64)
    (hheld : (s.qp i).held ≤ (s.qp i).inUse) (hdepth : (s.qp i).depth ≤ (s.qp i).inUse) : s.takeRequest i p = s.sendRnr i p.psn := by
  have hlimit : ¬(if (s.qp i).msn = 0 then 1088 else 64) < p.data.length := by
    split <;> omega
  unfold Dev.takeRequest Dev.recvSend
  simp [hop, opSend, h.served, h.noSend, h.noWrite, hlimit, Nat.not_lt.mpr hmtu, Nat.not_lt.mpr hheld, Nat.not_lt.mpr hdepth]

theorem Dev.recvWrite_placed (h : s.Requested i p) (hop : p.opcode = 0x0A) (hlen : p.data.length = p.len) (hmtu : p.len ≤ (s.qp i).mtu)
    (hkey : s.keyCheck (s.qp i) p.rkey.toNat p.va p.len .WIN_CFG_WRITE = true)
    (hsound : s.windowBroken (p.rkey.toNat % 4096) p.va p.len = false) (hldg : p.ledgerOk = true) : s.takeRequest i p =
      (((s.count .RD_RX_PKTS).placeBytes i (p.rkey.toNat % 4096) p.va p.data none).setQp i { s.qp i with writeMsg := none }).requestDone i 1 true := by
  unfold Dev.takeRequest Dev.recvWrite
  simp [hop, opSend, opWrite, h.served, h.noSend, h.noWrite, hlen, Nat.not_lt.mpr hmtu, hkey, hsound, hldg]

theorem Dev.recvWrite_keyRefused (h : s.Requested i p) (hop : p.opcode = 0x0A) (hlen : p.data.length = p.len) (hmtu : p.len ≤ (s.qp i).mtu)
    (hkey : s.keyCheck (s.qp i) p.rkey.toNat p.va p.len .WIN_CFG_WRITE = false) : s.takeRequest i p = s.keyRefused i p := by
  unfold Dev.takeRequest Dev.recvWrite
  simp [hop, opSend, opWrite, h.served, h.noSend, h.noWrite, hlen, Nat.not_lt.mpr hmtu, hkey]

/-- A queue pair that has executed a READ or FLUSH of `n` packets and keeps what it asked (03 R103, R104). -/
def Qp.kept (q : Qp) (n : Nat) (x : PastReq) : Qp :=
  { q with ePsn := psnAdd q.ePsn n, msn := q.msn + 1, gapNak := false, past := (q.past ++ [x]).drop (q.past.length - 15) }

/-- What was asked last is among the requests kept. -/
theorem Qp.mem_kept_past (q : Qp) (n : Nat) (x : PastReq) : x ∈ (q.kept n x).past := by
  have h : q.past.length - 15 ≤ q.past.length := Nat.sub_le ..
  unfold Qp.kept
  rw [List.drop_append_of_le_length h]
  exact List.mem_append_right _ (List.mem_singleton.mpr rfl)

theorem Dev.recvRead_answered (h : s.Requested i p) (hop : p.opcode = 0x0C)
    (hkey : s.keyCheck (s.qp i) p.rkey.toNat p.va p.len .WIN_CFG_READ = true)
    (hsound : s.windowBroken (p.rkey.toNat % 4096) p.va p.len = false) : s.takeRequest i p =
      ((s.count .RD_RX_PKTS).windowResponse i p).setQp i
        ((((s.count .RD_RX_PKTS).windowResponse i p).qp i).kept
          (max 1 (ceilDiv p.len (((s.count .RD_RX_PKTS).windowResponse i p).qp i).mtu)) (pastOf p)) := by
  unfold Dev.takeRequest Dev.recvRead
  simp [hop, opSend, opWrite, h.served, h.noSend, h.noWrite, hkey, hsound, Qp.kept]

theorem Dev.recvAtomic_placed (h : s.Requested i p) (hop : p.opcode = 0x1D) (hlen : p.data.length = 8) (hva : p.va % 8 = 0)
    (hkey : s.keyCheck (s.qp i) p.rkey.toNat p.va 8 .WIN_CFG_ATOMIC = true)
    (hsound : s.windowBroken (p.rkey.toNat % 4096) p.va 8 = false) (hldg : p.ledgerOk = true) : s.takeRequest i p =
      let d := (s.count .RD_RX_PKTS).placeBytes i (p.rkey.toNat % 4096) p.va p.data (some s.rdma.atoms)
      { d with rdma := { d.rdma with atoms := d.rdma.atoms + 1 } }.requestDone i 1 true := by
  unfold Dev.takeRequest Dev.recvAtomic
  simp [hop, opSend, opWrite, h.served, h.noSend, h.noWrite, hlen, hva, hkey, hsound, hldg]

/-- What a FLUSH for persistence of a packet's bytes waits for (03 R128). -/
def flushOf (p : RocePacket) : FlushWait :=
  ⟨p.psn, p.rkey.toNat % 4096, p.rkey.toNat % 4096 * 65536 + p.va, p.rkey.toNat % 4096 * 65536 + (p.va + p.len)⟩

theorem Dev.recvFlush_waits (h : s.Requested i p) (hop : p.opcode = 0x1C) (hsel : p.sel = 1) (hplt : p.plt = 2)
    (hkey : s.keyCheck (s.qp i) p.rkey.toNat p.va p.len .WIN_CFG_WRITE = true)
    (hsound : s.windowBroken (p.rkey.toNat % 4096) p.va p.len = false) :
    Dev.QpStep [.rdma] [.RD_RX_PKTS] i ({ s.qp i with flushes := (s.qp i).flushes ++ [flushOf p] }.kept 1 (pastOf p)) s (s.takeRequest i p) := by
  have hspan : p.rkey.toNat % 4096 * 65536 + (p.va + p.len) - (p.rkey.toNat % 4096 * 65536 + p.va) = p.len := by omega
  have hcount : Dev.QpStep [.rdma] [.RD_RX_PKTS] i (s.qp i) s (s.count .RD_RX_PKTS) := .of_step (.count s _ 0 1 (by decide)) rfl
  have hset : ∀ (s : Dev) (q : Qp), Dev.QpStep [.rdma] [.RD_RX_PKTS] i q s (s.setQp i q) := fun s q => .setQp s i q (by decide)
  unfold Dev.takeRequest Dev.recvFlush
  simp [hop, opSend, opWrite, h.served, h.noSend, h.noWrite, hsel, hplt, hkey, hsound, hspan]
  exact ((hcount.trans (hset _ _)).trans (hset _ _)).trans (hset _ _)

end NewRequests

section Answering

variable {s : State} {i : Nat} {p : RocePacket} {c : Instr} {e d : Dev} {q : Qp} {ps : List DevPart} {cs : List Ctr}

/-- What a command answers whose effect is a step to `e` and then one of a queue pair. -/
theorem Dev.QpStep.answers (h : Dev.QpStep ps cs i q e d) (he : Dev.Step ps [] cs s.dev.quiet e) (hx : exec c s = s.run (fun _ => d)) :
    Answers c s (fun t => t.dev.qp i = q ∧ (∀ j, j ≠ i → t.dev.qp j = e.qp j) ∧ t.dev.rdma.mem = e.rdma.mem ∧
      t.dev.rdma.durable = e.rdma.durable ∧ t.dev.rdma.placed = e.rdma.placed ∧ (∀ o ∈ d.out, o ∈ t.dev.out) ∧
      Dev.OnlyChanged ps [] cs s.dev t.dev) := by
  refine .of_run hx ?_
  have hr : (s.after (fun _ => d)).dev.rdma = d.rdma := State.after_rdma ..
  have hq : ∀ j, (s.after (fun _ => d)).dev.qp j = d.qp j := fun j => congrArg (fun r => r.qps.get {} j) hr
  rw [hr]
  exact ⟨(hq i).trans h.self, fun j hj => (hq j).trans (h.other j hj), h.mem, h.durable, h.placed, fun _ => State.after_mem_out s (fun _ => d),
    (he.trans h.toStep).after⟩

/-- What a command answers that executes a request of one packet on a queue pair as `e` has it (03 R103, R105). -/
theorem executed_answers (he : Dev.Step ps [] cs s.dev.quiet e) (hp : [.rdma, .sw, .ten] ⊆ ps) (hc : sendCtrs ⊆ cs)
    (hx : exec c s = s.run (fun _ => e.requestDone i 1 true)) :
    Answers c s (fun t => (∃ code limit, t.dev.qp i = ((e.qp i).executed 1 (e.nowOn .ln)).granted code limit) ∧ (∀ j, j ≠ i → t.dev.qp j = e.qp j) ∧
      ((e.qp i).flushes = [] → (e.qp i).ePsn < 2 ^ 24 →
        ∃ k, Out.rdmaAck (qpnOf i) (e.qp i).ePsn (((e.qp i).msn + 1) % 2 ^ 24) k ∈ t.dev.out) ∧
      t.dev.rdma.mem = e.rdma.mem ∧ t.dev.rdma.durable = e.rdma.durable ∧ t.dev.rdma.placed = e.rdma.placed ∧ Dev.OnlyChanged ps [] cs s.dev t.dev) := by
  obtain ⟨code, limit, hdone, hack⟩ := e.qpStep_requestDone hp hc i 1
  refine (hdone.answers he hx).imp fun t ⟨hself, hother, hmem, hdurable, hplaced, hout, hframe⟩ =>
    ⟨⟨code, limit, hself⟩, hother, fun hf hsmall => ⟨code, ?_⟩, hmem, hdurable, hplaced, hframe⟩
  have hmsg := hout _ (hack hf)
  rwa [psnSub_psnAdd_one hsmall] at hmsg

/-- A SEND with a free receive slot, whichever command delivers it. -/
theorem send_answers {ops : List Nat} (hx : exec c s = s.run (fun d => d.packetOf ops p)) (h : s.dev.newRequest i p = true) (hop : p.opcode = 0x04)
    (hops : ops.contains p.opcode = true) (hmtu : p.data.length ≤ (s.dev.qp i).mtu) (hlen : p.data.length ≤ 64)
    (hfree : (s.dev.qp i).inUse < (s.dev.qp i).held) (hflush : (s.dev.qp i).flushes = []) :
    Answers c s (fun t =>
      (t.dev.qp i).inUse = (s.dev.qp i).inUse + 1 ∧ (t.dev.qp i).ePsn = psnAdd p.psn 1 ∧ (t.dev.qp i).msn = (s.dev.qp i).msn + 1 ∧ (t.dev.qp i).st = .rts ∧
      (∃ k, Out.rdmaAck p.qpn p.psn (((s.dev.qp i).msn + 1) % 2 ^ 24) k ∈ t.dev.out) ∧ (∀ j, j ≠ i → t.dev.qp j = s.dev.qp j) ∧
      t.dev.rdma.mem = s.dev.rdma.mem ∧ t.dev.rdma.durable = s.dev.rdma.durable ∧
      Dev.OnlyChanged [.rdma, .sw, .ten] [] requestCtrs s.dev t.dev) := by
  obtain ⟨x, hr, hgreen, hx⟩ := exec_request hx h (hop ▸ by decide) hops
  set d₀ : Dev := { s.dev.quiet with ctrs := x }
  rw [Dev.recvSend_taken hr hop hmtu hlen hfree] at hx
  set e := (d₀.count .RD_RX_PKTS).setQp i { d₀.qp i with inUse := (d₀.qp i).inUse + 1, sendMsg := none }
  have he : Dev.QpStep [.rdma, .sw, .ten] requestCtrs i _ s.dev.quiet e :=
    (Dev.QpStep.of_step ((hgreen.mono (by simp) (List.Subset.refl _) (by decide)).trans (.count d₀ .RD_RX_PKTS 0 1 (by decide))) rfl).trans
      (.setQp (d₀.count .RD_RX_PKTS) i _ (by decide))
  refine (executed_answers he.toStep (List.Subset.refl _) (by decide) hx).imp
    fun t ⟨⟨code, limit, hself⟩, hother, hack, hmem, hdurable, _, hframe⟩ => ?_
  rw [he.self] at hself hack
  rw [hself, hr.qpn, hr.psn]
  exact ⟨rfl, rfl, rfl, hr.rts, hack hflush (hr.psn ▸ hr.small), fun j hj => (hother j hj).trans (he.other j hj), hmem.trans he.mem,
    hdurable.trans he.durable, hframe⟩

/-- A SEND without a receive slot is answered RNR (03 R112). -/
theorem sendFull_answers (h : s.dev.newRequest i p = true) (hop : p.opcode = 0x04) (hmtu : p.data.length ≤ (s.dev.qp i).mtu) (hlen : p.data.length ≤ 64)
    (hheld : (s.dev.qp i).held ≤ (s.dev.qp i).inUse) (hdepth : (s.dev.qp i).depth ≤ (s.dev.qp i).inUse) :
    Answers (.sendReceive p) s (fun t => t.dev.qp i = s.dev.qp i ∧ Out.rdmaRnr p.qpn p.psn (s.dev.fld .RD_CFG_RNR_TIMER) ∈ t.dev.out ∧
      t.dev.ctr .RD_RNR_SENT = (s.dev.ctr .RD_RNR_SENT + 1) % 2 ^ 64 ∧ t.dev.rdma = s.dev.rdma) := by
  obtain ⟨x, hr, hgreen, hx⟩ := exec_request (c := .sendReceive p) (ops := opSend) rfl h (hop ▸ by decide) (hop ▸ by decide)
  set d₀ : Dev := { s.dev.quiet with ctrs := x }
  rw [Dev.recvSend_full hr hop hmtu hlen hheld hdepth] at hx
  have hsent := (d₀.count .RD_RNR_SENT).step_sendFrame (ps := sendParts) (xs := []) (cs := sendCtrs) (List.Subset.refl _) (List.Subset.refl _) i 0 15 4
  refine .of_run hx ?_
  set t := s.after _
  have hrdma : t.dev.rdma = s.dev.rdma := (State.after_rdma ..).trans (Dev.sendFrame_rdma ..)
  refine ⟨congrArg (fun r => r.qps.get {} i) hrdma, ?_, ?_, hrdma⟩
  · exact hr.qpn ▸ State.after_mem_out s (fun _ => d₀.sendRnr i p.psn) (List.mem_append_right _ (List.mem_singleton.mpr rfl))
  · calc t.dev.ctr .RD_RNR_SENT = ((d₀.count .RD_RNR_SENT).sendFrame i 0 15 4).ctr .RD_RNR_SENT := State.after_ctr _ _ .RD_RNR_SENT (by decide) 0
      _ = (d₀.count .RD_RNR_SENT).ctr .RD_RNR_SENT := hsent.ctr (by decide) (by decide) 0
      _ = (d₀.ctr .RD_RNR_SENT + 1) % 2 ^ 64 := Dev.ctr_count_self ..
      _ = (s.dev.ctr .RD_RNR_SENT + 1) % 2 ^ 64 := by rw [hgreen.ctr (by decide) (by decide)]; rfl

/-- A WRITE of one packet places its bytes and is acknowledged (03 R98, R105, R127). -/
theorem write_answers (h : s.dev.newRequest i p = true) (hop : p.opcode = 0x0A) (hlen : p.data.length = p.len) (hmtu : p.len ≤ (s.dev.qp i).mtu)
    (hkey : s.dev.keyCheck (s.dev.qp i) p.rkey.toNat p.va p.len .WIN_CFG_WRITE = true)
    (hsound : s.dev.windowBroken (p.rkey.toNat % 4096) p.va p.len = false) (hldg : p.ledgerOk = true) (hflush : (s.dev.qp i).flushes = []) :
    Answers (.rdmaWriteReceive p) s (fun t => t.dev.windowRead (p.rkey.toNat % 4096) p.va p.len = p.data ∧
      (∀ a, (a < p.rkey.toNat % 4096 * 65536 + p.va ∨ p.rkey.toNat % 4096 * 65536 + p.va + p.len ≤ a) → t.dev.rdma.mem.get 0 a = s.dev.rdma.mem.get 0 a) ∧
      t.dev.rdma.durable = s.dev.rdma.durable ∧ (t.dev.qp i).ePsn = psnAdd p.psn 1 ∧ (t.dev.qp i).msn = (s.dev.qp i).msn + 1 ∧ (t.dev.qp i).writeMsg = none ∧
      (∃ k, Out.rdmaAck p.qpn p.psn (((s.dev.qp i).msn + 1) % 2 ^ 24) k ∈ t.dev.out) ∧ (∀ j, j ≠ i → t.dev.qp j = s.dev.qp j) ∧
      Dev.OnlyChanged [.rdma, .sw, .ten, .ldg] [] requestCtrs s.dev t.dev) := by
  obtain ⟨x, hr, hgreen, hx⟩ := exec_request (c := .rdmaWriteReceive p) (ops := opWrite) rfl h (hop ▸ by decide) (hop ▸ by decide)
  set d₀ : Dev := { s.dev.quiet with ctrs := x }
  rw [Dev.recvWrite_placed hr hop hlen hmtu hkey hsound hldg] at hx
  set d₁ := d₀.count .RD_RX_PKTS
  set d₂ := d₁.placeBytes i (p.rkey.toNat % 4096) p.va p.data none
  set e := d₂.setQp i { d₀.qp i with writeMsg := none }
  have hplace : Dev.Step [.rdma, .sw, .ten, .ldg] [] requestCtrs s.dev.quiet d₂ :=
    ((hgreen.mono (by simp) (List.Subset.refl _) (by decide)).trans (.count d₀ .RD_RX_PKTS 0 1 (by decide))).trans
      (d₁.step_placeBytes (by decide) (by decide) _ _ _ _ _)
  have hset : Dev.QpStep [.rdma, .sw, .ten, .ldg] requestCtrs i _ d₂ e := .setQp d₂ i _ (by decide)
  have hqp : ∀ j, d₂.qp j = s.dev.qp j := fun j => congrArg (fun r => r.qps.get {} j) (d₁.placeBytes_rdma ..)
  refine (executed_answers (hplace.trans hset.toStep) (by decide) (by decide) hx).imp
    fun t ⟨⟨code, limit, hself⟩, hother, hack, hmem, hdurable, _, hframe⟩ => ?_
  have hmem₂ : t.dev.rdma.mem = d₂.rdma.mem := hmem.trans hset.mem
  rw [hset.self] at hself hack
  rw [hself, hr.qpn, hr.psn, hmem₂]
  refine ⟨?_, fun a ha => d₁.placeBytes_other _ _ _ _ _ a (hlen.symm ▸ ha), (hdurable.trans hset.durable).trans (Memory.placeBytes_durable ..), rfl, rfl,
    rfl, hack hflush (hr.psn ▸ hr.small), fun j hj => (hother j hj).trans ((hset.other j hj).trans (hqp j)), hframe⟩
  have hread : t.dev.windowRead (p.rkey.toNat % 4096) p.va p.len = d₂.windowRead (p.rkey.toNat % 4096) p.va p.len := by
    unfold Dev.windowRead
    rw [hmem₂]
  rw [hread, ← hlen]
  exact d₁.windowRead_placeBytes ..

/-- What a request answers that ends in a NAK with an event: its queue pair enters ERROR (03 R98, R124, R132). -/
theorem requestError_answers {k : Ctr} {psn code id : Nat} {x : List Byte} (he : Dev.Step ps [] cs s.dev.quiet e) (hrdma : e.rdma = s.dev.rdma)
    (hraised : e.raised = []) (hp : [.rdma, .sw, .ten] ⊆ ps) (hc : sendCtrs ⊆ cs) (hk : k ∈ cs) (htime : .time ∉ ps) (hloaded : .timeLoaded ∉ ps)
    (hlive : (s.dev.qp i).st.live) (hx : exec c s = s.run (fun _ => e.requestError i psn code k (fun d => d.event .ln id x))) :
    Answers c s (fun t => (t.dev.qp i).st = .error ∧ Out.rdmaNak (qpnOf i) psn code ∈ t.dev.out ∧ (s.hears .ln → s.told t .ln id x) ∧
      t.dev.rdma.mem = s.dev.rdma.mem ∧ t.dev.rdma.durable = s.dev.rdma.durable ∧ t.dev.rdma.placed = s.dev.rdma.placed ∧
      (∀ j, j ≠ i → t.dev.qp j = s.dev.qp j) ∧ Dev.OnlyChanged ps [] cs s.dev t.dev) := by
  set n := (e.count k).sendNak i psn code
  set d := n.event .ln id x
  have hnak : Dev.Step ps [] cs s.dev.quiet n :=
    (he.trans (.count e k 0 1 hk)).trans ((e.count k).step_sendNak (List.Subset.trans (by decide) hp) hc _ _ _)
  have hsame : d.rdma = s.dev.rdma := (Dev.sendFrame_rdma ..).trans hrdma
  have hqp : ∀ j, d.qp j = s.dev.qp j := fun j => congrArg (fun r => r.qps.get {} j) hsame
  have hfew : n.raised.length < 16 := by
    obtain ⟨r, heq, hle⟩ := (e.count k).sendFrame_raised i 0 15 4
    have hn : n.raised = r := heq.trans (by rw [show (e.count k).raised = [] from hraised, List.nil_append])
    exact hn ▸ Nat.lt_of_le_of_lt hle (by decide)
  have herr := d.qpStep_qpError (ps := ps) (cs := cs) (hp (by decide)) (hp (by decide)) (i := i) ((hqp i).symm ▸ hlive)
  refine .of_run hx ?_
  set t := s.after _
  have hr : t.dev.rdma = (d.qpError i).rdma := State.after_rdma ..
  have hq : ∀ j, t.dev.qp j = (d.qpError i).qp j := fun j => congrArg (fun r => r.qps.get {} j) hr
  rw [hq i, herr.self, hr]
  exact ⟨rfl, State.after_mem_out s _ (herr.out.subset ((e.count k).mem_sendNak_out i psn code)),
    State.told_of_prefix (e := n) hfew herr.raised (hnak.nowOn htime .ln) (hnak.timeLoaded_eq hloaded), herr.mem.trans (congrArg Rdma.mem hsame),
    herr.durable.trans (congrArg Rdma.durable hsame), herr.placed.trans (congrArg Rdma.placed hsame),
    fun j hj => (hq j).trans ((herr.other j hj).trans (hqp j)), ((hnak.trans (.event n _ _ _ _)).trans herr.toStep).after⟩

/-- A WRITE whose key check fails (03 R124). -/
theorem writeRefused_answers (h : s.dev.newRequest i p = true) (hop : p.opcode = 0x0A) (hlen : p.data.length = p.len) (hmtu : p.len ≤ (s.dev.qp i).mtu)
    (hkey : s.dev.keyCheck (s.dev.qp i) p.rkey.toNat p.va p.len .WIN_CFG_WRITE = false) :
    Answers (.rdmaWriteReceive p) s (fun t => (t.dev.qp i).st = .error ∧ Out.rdmaNak p.qpn p.psn 2 ∈ t.dev.out ∧ t.dev.rdma.mem = s.dev.rdma.mem ∧
      t.dev.rdma.placed = s.dev.rdma.placed ∧ (s.hears .ln → s.told t .ln 0x183 (le 4 p.qpn ++ le 4 p.rkey.toNat ++ le 8 p.va)) ∧
      (∀ j, j ≠ i → t.dev.qp j = s.dev.qp j) ∧
      Dev.OnlyChanged [.rdma, .sw, .ten] [] [.RD_NAK_ACC_SENT, .RD_TX_PKTS, .TN_POL_GREEN, .SW_CELLS_ALLOC, .SW_ADMIT_WAITS] s.dev t.dev) := by
  obtain ⟨x, hr, hgreen, hx⟩ := exec_request (c := .rdmaWriteReceive p) (ops := opWrite) rfl h (hop ▸ by decide) (hop ▸ by decide)
  rw [Dev.recvWrite_keyRefused hr hop hlen hmtu hkey] at hx
  have hgreen : Dev.Step [.rdma, .sw, .ten] [] [.RD_NAK_ACC_SENT, .RD_TX_PKTS, .TN_POL_GREEN, .SW_CELLS_ALLOC, .SW_ADMIT_WAITS] _ _ :=
    hgreen.mono (by simp) (List.Subset.refl _) (by decide)
  refine (requestError_answers hgreen rfl rfl (List.Subset.refl _) (by decide) (by decide) (by decide)
    (by decide) (.inl hr.rts) hx).imp fun t ⟨hst, hnak, htold, hmem, _, hplaced, hother, hframe⟩ => ?_
  exact ⟨hst, hr.qpn ▸ hnak, hmem, hplaced, hr.qpn ▸ htold, hother, hframe⟩

/-- A READ is answered with the window's bytes (03 R104). -/
theorem read_answers (h : s.dev.newRequest i p = true) (hop : p.opcode = 0x0C)
    (hkey : s.dev.keyCheck (s.dev.qp i) p.rkey.toNat p.va p.len .WIN_CFG_READ = true)
    (hsound : s.dev.windowBroken (p.rkey.toNat % 4096) p.va p.len = false) :
    Answers (.rdmaReadRequestReceive p) s (fun t => Out.rdmaResponse p.qpn p.psn (s.dev.windowRead (p.rkey.toNat % 4096) p.va p.len) ∈ t.dev.out ∧
      (t.dev.qp i).ePsn = psnAdd p.psn (max 1 (ceilDiv p.len (s.dev.qp i).mtu)) ∧ (t.dev.qp i).msn = (s.dev.qp i).msn + 1 ∧
      pastOf p ∈ (t.dev.qp i).past ∧ t.dev.rdma.mem = s.dev.rdma.mem ∧ t.dev.rdma.durable = s.dev.rdma.durable ∧ (∀ j, j ≠ i → t.dev.qp j = s.dev.qp j) ∧
      Dev.OnlyChanged [.rdma, .sw, .ten] [] requestCtrs s.dev t.dev) := by
  obtain ⟨x, hr, hgreen, hx⟩ := exec_request (c := .rdmaReadRequestReceive p) (ops := opRead) rfl h (hop ▸ by decide) (hop ▸ by decide)
  set d₀ : Dev := { s.dev.quiet with ctrs := x }
  rw [Dev.recvRead_answered hr hop hkey hsound] at hx
  set d₁ := d₀.count .RD_RX_PKTS
  set e := d₁.windowResponse i p
  have hresponse : Dev.Step sendParts [] sendCtrs d₁ e := d₁.step_windowResponse (List.Subset.refl _) (List.Subset.refl _) i p
  have he : Dev.Step [.rdma, .sw, .ten] [] requestCtrs s.dev.quiet e :=
    ((hgreen.mono (by simp) (List.Subset.refl _) (by decide)).trans (.count d₀ .RD_RX_PKTS 0 1 (by decide))).trans
      (hresponse.mono (by decide) (List.Subset.refl _) (by decide))
  have hrdma : e.rdma = s.dev.rdma := hresponse.rdma_eq (by decide)
  have hqp : ∀ j, e.qp j = s.dev.qp j := fun j => congrArg (fun r => r.qps.get {} j) hrdma
  have hset := Dev.QpStep.setQp (ps := [.rdma, .sw, .ten]) (cs := requestCtrs) e i ((e.qp i).kept (max 1 (ceilDiv p.len (e.qp i).mtu)) (pastOf p)) (by decide)
  refine (hset.answers he hx).imp fun t ⟨hself, hother, hmem, hdurable, _, hout, hframe⟩ => ?_
  rw [hself, hqp i]
  exact ⟨hout _ (hr.qpn ▸ List.mem_append_right _ (List.mem_singleton.mpr rfl)), congrArg (psnAdd · _) hr.psn.symm, rfl, Qp.mem_kept_past .., hmem.trans (congrArg Rdma.mem hrdma),
    hdurable.trans (congrArg Rdma.durable hrdma), fun j hj => (hother j hj).trans (hqp j), hframe⟩

/-- A FLUSH for persistence waits on its queue pair (03 R128). -/
theorem flush_answers (h : s.dev.newRequest i p = true) (hop : p.opcode = 0x1C) (hsel : p.sel = 1) (hplt : p.plt = 2)
    (hkey : s.dev.keyCheck (s.dev.qp i) p.rkey.toNat p.va p.len .WIN_CFG_WRITE = true)
    (hsound : s.dev.windowBroken (p.rkey.toNat % 4096) p.va p.len = false) :
    Answers (.flushReceive p) s (fun t => (t.dev.qp i).flushes = (s.dev.qp i).flushes ++ [flushOf p] ∧
      (t.dev.qp i).ePsn = psnAdd p.psn 1 ∧ (t.dev.qp i).msn = (s.dev.qp i).msn + 1 ∧ t.dev.rdma.mem = s.dev.rdma.mem ∧ t.dev.rdma.placed = s.dev.rdma.placed ∧
      (∀ j, j ≠ i → t.dev.qp j = s.dev.qp j) ∧ Dev.OnlyChanged [.rdma] [] [.RD_RX_PKTS, .TN_POL_GREEN] s.dev t.dev) := by
  obtain ⟨x, hr, hgreen, hx⟩ := exec_request (c := .flushReceive p) (ops := opFlush) rfl h (hop ▸ by decide) (hop ▸ by decide)
  have hwait := (Dev.recvFlush_waits hr hop hsel hplt hkey hsound).mono (ps' := [.rdma]) (cs' := [.RD_RX_PKTS, .TN_POL_GREEN]) (by simp) (by decide)
  refine (hwait.answers (hgreen.mono (by simp) (List.Subset.refl _) (by decide)) hx).imp fun t ⟨hself, hother, hmem, _, hplaced, _, hframe⟩ => ?_
  rw [hself, hr.psn]
  exact ⟨rfl, rfl, rfl, hmem, hplaced, hother, hframe⟩

/-- An ATOMIC WRITE places its eight bytes as one (03 R125, R126). -/
theorem atomic_answers (h : s.dev.newRequest i p = true) (hop : p.opcode = 0x1D) (hlen : p.data.length = 8) (hva : p.va % 8 = 0)
    (hkey : s.dev.keyCheck (s.dev.qp i) p.rkey.toNat p.va 8 .WIN_CFG_ATOMIC = true)
    (hsound : s.dev.windowBroken (p.rkey.toNat % 4096) p.va 8 = false) (hldg : p.ledgerOk = true) :
    Answers (.atomicWriteReceive p) s (fun t => t.dev.windowRead (p.rkey.toNat % 4096) p.va 8 = p.data ∧
      (∀ a, (a < p.rkey.toNat % 4096 * 65536 + p.va ∨ p.rkey.toNat % 4096 * 65536 + p.va + 8 ≤ a) → t.dev.rdma.mem.get 0 a = s.dev.rdma.mem.get 0 a) ∧
      (∀ b ∈ t.dev.rdma.placed, b ∈ s.dev.rdma.placed ∨ b.atom = some s.dev.rdma.atoms) ∧ (t.dev.qp i).ePsn = psnAdd p.psn 1 ∧
      (t.dev.qp i).msn = (s.dev.qp i).msn + 1 ∧ (∀ j, j ≠ i → t.dev.qp j = s.dev.qp j) ∧
      Dev.OnlyChanged [.rdma, .sw, .ten, .ldg] [] requestCtrs s.dev t.dev) := by
  obtain ⟨x, hr, hgreen, hx⟩ := exec_request (c := .atomicWriteReceive p) (ops := opAtomicWrite) rfl h (hop ▸ by decide) (hop ▸ by decide)
  set d₀ : Dev := { s.dev.quiet with ctrs := x }
  rw [Dev.recvAtomic_placed hr hop hlen hva hkey hsound hldg] at hx
  set d₁ := d₀.count .RD_RX_PKTS
  set d₂ := d₁.placeBytes i (p.rkey.toNat % 4096) p.va p.data (some d₀.rdma.atoms)
  set e : Dev := { d₂ with rdma := { d₂.rdma with atoms := d₂.rdma.atoms + 1 } }
  have he : Dev.Step [.rdma, .sw, .ten, .ldg] [] requestCtrs s.dev.quiet e :=
    (((hgreen.mono (by simp) (List.Subset.refl _) (by decide)).trans (.count d₀ .RD_RX_PKTS 0 1 (by decide))).trans
      (d₁.step_placeBytes (by decide) (by decide) _ _ _ _ _)).trans (.rdma d₂ _ (by decide))
  have hqp : ∀ j, e.qp j = s.dev.qp j := fun j => congrArg (fun r => r.qps.get {} j) (d₁.placeBytes_rdma ..)
  refine (executed_answers he (by decide) (by decide) hx).imp fun t ⟨⟨code, limit, hself⟩, hother, _, hmem, _, hplaced, hframe⟩ => ?_
  have hmem₂ : t.dev.rdma.mem = d₂.rdma.mem := hmem
  rw [hself, hr.psn, hmem₂, hqp i]
  refine ⟨?_, fun a ha => d₁.placeBytes_other _ _ _ _ _ a (hlen.symm ▸ ha), fun b hb => ?_, rfl, rfl, fun j hj => (hother j hj).trans (hqp j), hframe⟩
  · have hread : t.dev.windowRead (p.rkey.toNat % 4096) p.va 8 = d₂.windowRead (p.rkey.toNat % 4096) p.va 8 := by
      unfold Dev.windowRead
      rw [hmem₂]
    rw [hread, ← hlen]
    exact d₁.windowRead_placeBytes ..
  · have hplaced₂ : d₂.rdma.placed = _ := congrArg Rdma.placed (d₁.placeBytes_rdma ..)
    rw [hplaced.trans hplaced₂] at hb
    rcases List.mem_append.mp hb with hb | hb
    · exact .inl hb
    · obtain ⟨x, _, rfl⟩ := List.mem_map.mp hb
      exact .inr rfl

end Answering

section Dropped

variable {s : State} {p : RocePacket}

/-- A packet that is only counted. -/
theorem counted_answers {e : Ctr} (he : e ∉ settleCtrs) (hx : s.dev.quiet.rocePacket p = s.dev.quiet.count e) :
    Answers (.rocePacketReceive p) s (fun t => t.dev.ctr e = (s.dev.ctr e + 1) % 2 ^ 64 ∧ Dev.OnlyChanged [] [] [e] s.dev t.dev) :=
  .of_run (State.run_eq_of_quiet hx) ⟨(State.after_ctr _ _ e he 0).trans (Dev.ctr_count_self ..),
    (Dev.Step.count s.dev.quiet e 0 1 (List.mem_singleton.mpr rfl)).after⟩

/-- A packet with a bad ICRC (03 R91). -/
theorem badIcrc_answers (hup : s.dev.transportUp = true) (hicrc : p.icrcOk = false) :
    Answers (.rocePacketReceive p) s (fun t => t.dev.ctr .RD_RX_ICRC_ERR = (s.dev.ctr .RD_RX_ICRC_ERR + 1) % 2 ^ 64 ∧
      Dev.OnlyChanged [] [] [.RD_RX_ICRC_ERR] s.dev t.dev) := by
  have hup' : s.dev.quiet.transportUp = true := hup
  refine counted_answers (by decide) ?_
  unfold Dev.rocePacket
  simp [hup', hicrc]

/-- A packet for no live queue pair (03 R91). -/
theorem noQueuePair_answers (hup : s.dev.transportUp = true) (hicrc : p.icrcOk = true)
    (hno : p.qpn < 0x10000 ∨ qpCount + 0x10000 ≤ p.qpn ∨ (s.dev.qp (p.qpn - 0x10000)).st = .free ∨ (s.dev.qp (p.qpn - 0x10000)).st = .error ∨
      0x20 ≤ p.opcode) :
    Answers (.rocePacketReceive p) s (fun t => t.dev.ctr .RD_RX_NO_QP = (s.dev.ctr .RD_RX_NO_QP + 1) % 2 ^ 64 ∧
      Dev.OnlyChanged [] [] [.RD_RX_NO_QP] s.dev t.dev) := by
  have hup' : s.dev.quiet.transportUp = true := hup
  refine counted_answers (by decide) ?_
  have hdead : (decide (0x10000 ≤ p.qpn) && decide (p.qpn - 0x10000 < qpCount) && decide ((s.dev.quiet.qp (p.qpn - 0x10000)).st = .rtr ∨
      (s.dev.quiet.qp (p.qpn - 0x10000)).st = .rts ∨ (s.dev.quiet.qp (p.qpn - 0x10000)).st = .draining)) = false ∨ 0x20 ≤ p.opcode := by
    rcases hno with h | h | h | h | h
    · simp [Nat.not_le.mpr h]
    · have hge : ¬p.qpn - 0x10000 < qpCount := by omega
      simp [hge]
    · simp [h]
    · simp [h]
    · exact .inr h
  unfold Dev.rocePacket
  rcases hdead with hdead | hdead
  · simp only [hup', hicrc, hdead]
    rfl
  · simp [hup', hicrc, hdead]

end Dropped

/-- Settles O17: a packet in sequence comes to its operation, whose step is that of one queue pair beside the bytes it places. -/
theorem transportRequests : Obligations.TransportRequests :=
  ⟨fun s _ p h hop => send_answers (ops := [p.opcode]) (by
      have : (fun d : Dev => d.packetOf [p.opcode] p) = (fun d => d.rocePacket p) := by
        funext d
        simp [Dev.packetOf]
      exact congrArg s.run this.symm) h hop (by simp),
    fun _ _ _ h hop => send_answers (ops := opSend) rfl h hop (hop ▸ by decide), fun _ _ _ => sendFull_answers, fun _ _ _ => write_answers,
    fun _ _ _ => writeRefused_answers, fun _ _ _ => read_answers, fun _ _ _ => flush_answers, fun _ _ _ => atomic_answers,
    fun _ _ => badIcrc_answers, fun _ _ => noQueuePair_answers⟩

end Sys2Proof.Machine

/-!
PROOF. Commands cancelled and queues torn down (04 R180-R184): what a cancellation changes, that a cancelled command is over and every other as it
was, and the end of an association.
-/
namespace Sys2Proof.Machine

section Commands

variable (s : Dev)

theorem Dev.cmd_setCmd_other (c : Cmd) {j : Nat} (h : j ≠ c.id) : (s.setCmd c).cmd j = s.cmd j := by
  have hmap : ∀ l : List Cmd, (l.map (fun y => if y.id = c.id then c else y)).find? (fun x => x.id == j) = l.find? (fun x => x.id == j) := by
    intro l
    induction l with
    | nil => rfl
    | cons y l ih =>
      rw [List.map_cons, List.find?_cons, List.find?_cons, ih]
      by_cases hy : y.id = c.id
      · have hc : (c.id == j) = false := beq_false_of_ne (Ne.symm h)
        simp only [hy, if_true, hc]
      · simp only [hy, if_false]
  exact hmap s.nvme.cmds

/-- A command written over one of its number is found. -/
theorem Dev.cmd_setCmd_self {c x : Cmd} (h : s.cmd c.id = some x) : (s.setCmd c).cmd c.id = some c := by
  have hmap : ∀ l : List Cmd, l.find? (fun x => x.id == c.id) = some x →
      (l.map (fun y => if y.id = c.id then c else y)).find? (fun x => x.id == c.id) = some c := by
    intro l
    induction l with
    | nil => exact fun h => absurd h (by simp)
    | cons y l ih =>
      intro hl
      rw [List.map_cons, List.find?_cons]
      by_cases hy : y.id = c.id
      · simp only [hy, if_true, beq_self_eq_true]
      · have hne : (y.id == c.id) = false := beq_false_of_ne hy
        rw [List.find?_cons, hne] at hl
        simp only [hy, if_false, hne]
        exact ih hl
  exact hmap s.nvme.cmds h

theorem Dev.cmd_id {k : Nat} {c : Cmd} (h : s.cmd k = some c) : c.id = k := by
  have := List.find?_some h
  simpa using this

theorem Dev.cmd_sweep_other {id j : Nat} (h : j ≠ id) : (s.sweep id).cmd j = s.cmd j := by
  unfold Dev.sweep
  split
  · split
    · refine (List.find?_filter ..).trans (congrArg (fun p => s.nvme.cmds.find? p) (funext fun c => ?_))
      by_cases hc : c.id = j
      · simp [hc, h]
      · simp [hc]
    · rfl
  · rfl

/-- Swept, a command is gone or as it was. -/
theorem Dev.cmd_sweep_self (id : Nat) : (s.sweep id).cmd id = none ∨ (s.sweep id).cmd id = s.cmd id := by
  unfold Dev.sweep
  split
  · split
    · refine .inl (List.find?_eq_none.mpr fun c hc => ?_)
      simpa using (List.mem_filter.mp hc).2
    · exact .inr rfl
  · exact .inr rfl

end Commands

section Cancelling

/-- The parts and counters of cancelled commands. -/
def cancelParts : List DevPart := [.nvme, .ldg, .ten, .evr]
def cancelCtrs : List Ctr := [.FE_CMD_CANCELLED, .LDG_REC_ABANDONED]

/-- The steps of a command's end that change neither commands nor controllers. -/
structure Dev.CancelStep (a b : Dev) : Prop where
  step : Dev.Step cancelParts [] [.LDG_REC_ABANDONED] a b
  nvme : b.nvme = a.nvme

variable (s : Dev) {a b c : Dev}

theorem Dev.CancelStep.trans (h : Dev.CancelStep a b) (k : Dev.CancelStep b c) : Dev.CancelStep a c := ⟨h.step.trans k.step, k.nvme.trans h.nvme⟩

theorem Dev.CancelStep.refl : Dev.CancelStep s s := ⟨.refl s, rfl⟩

theorem Dev.cancelStep_setPier (p : Nat) (x : PierStore) : Dev.CancelStep s (s.setPier p x) := ⟨.ldg s _ (by decide), rfl⟩

theorem Dev.cancelStep_count (e : Ctr) (i n : Nat) (h : e = .LDG_REC_ABANDONED) : Dev.CancelStep s (s.count e i n) :=
  ⟨.count s e i n (h ▸ List.mem_singleton.mpr rfl), rfl⟩

theorem Dev.cancelStep_ten (x : Tenancy) : Dev.CancelStep s { s with ten := x } := ⟨.ten s x (by decide), rfl⟩

theorem Dev.cancelStep_abandonRecord (c : Cmd) : Dev.CancelStep s (s.abandonRecord c) := by
  unfold Dev.abandonRecord
  dsimp only
  split
  · split
    · split
      · exact .refl s
      · exact (s.cancelStep_setPier _ _).trans (Dev.cancelStep_count _ _ _ _ rfl)
    · exact .refl s
  · exact .refl s

theorem Dev.cancelStep_commandOver (c : Cmd) (n : Nat) : Dev.CancelStep s (s.commandOver c false n) := by
  have hmeter : ∀ t f, Dev.CancelStep s (s.meterCount t f) := fun t f =>
    ⟨.meterCount s t f, (Dev.Step.meterCount (ps := []) (xs := []) (cs := []) s t f).nvme_eq List.not_mem_nil⟩
  unfold Dev.commandOver
  split
  · exact .refl s
  · dsimp only
    split
    · exact (hmeter _ _).trans (Dev.cancelStep_ten _ _)
    · exact hmeter _ _

theorem Dev.cancelStep_sampleEnd (c : Cmd) (n : Nat) : Dev.CancelStep s (s.sampleEnd c n) := by
  unfold Dev.sampleEnd
  split
  · exact .refl s
  · exact ⟨.evr s _ (by decide), rfl⟩

/-- What a cancellation that sends no completion entry leaves (04 R180). -/
structure Dev.Cancelled (a b : Dev) : Prop where
  step : Dev.Step cancelParts [] cancelCtrs a b
  ctrls : ∀ k, (b.ctrl k).isSome = (a.ctrl k).isSome

theorem Dev.Cancelled.refl : Dev.Cancelled s s := ⟨.refl s, fun _ => rfl⟩

theorem Dev.Cancelled.trans (h : Dev.Cancelled a b) (k : Dev.Cancelled b c) : Dev.Cancelled a c :=
  ⟨h.step.trans k.step, fun j => (k.ctrls j).trans (h.ctrls j)⟩

theorem Dev.CancelStep.cancelled (h : Dev.CancelStep a b) : Dev.Cancelled a b :=
  ⟨h.step.mono (List.Subset.refl _) (List.Subset.refl _) (by decide), fun _ => by rw [Dev.ctrl, h.nvme]; rfl⟩

theorem Dev.cancelled_setCmd (c : Cmd) : Dev.Cancelled s (s.setCmd c) := ⟨.nvme s _ (by decide), fun _ => rfl⟩

theorem Dev.cancelled_sweep (id : Nat) : Dev.Cancelled s (s.sweep id) := by
  unfold Dev.sweep
  split
  · split
    · exact ⟨.nvme s _ (by decide), fun _ => rfl⟩
    · exact .refl s
  · exact .refl s

theorem Dev.cancelled_setCtrl {k : Nat} {x : Ctrl} (y : Ctrl) (h : s.ctrl k = some x) : Dev.Cancelled s (s.setCtrl k y) := by
  refine ⟨.nvme s _ (by decide), fun j => ?_⟩
  by_cases hj : j = k
  · rw [hj, s.ctrl_setCtrl_self, h]
    rfl
  · rw [s.ctrl_setCtrl_other _ hj]

/-- A command over for its queue. -/
def Cmd.over (c : Cmd) : Bool := c.completed || c.cancelled

/-- A cancellation: its command is over, every other as it was. -/
structure Dev.CancelledOne (id : Nat) (a b : Dev) : Prop extends Dev.Cancelled a b where
  self : ((b.cmd id).all Cmd.over) = true
  other : ∀ j, j ≠ id → b.cmd j = a.cmd j

/-- A controller's waiting requests forget a command. -/
def Dev.aersForget (s : Dev) (k id : Nat) : Dev :=
  match s.ctrl k with
  | some x => s.setCtrl k { x with aers := x.aers.filter (· != id) }
  | none => s

theorem Dev.cancelled_aersForget (k id : Nat) : Dev.Cancelled s (s.aersForget k id) ∧ ∀ j, (s.aersForget k id).cmd j = s.cmd j := by
  unfold Dev.aersForget
  split
  · exact ⟨s.cancelled_setCtrl _ ‹_›, fun _ => rfl⟩
  · exact ⟨.refl s, fun _ => rfl⟩

theorem Dev.cancelledOne (id : Nat) : Dev.CancelledOne id s (s.cancelCmd id false) := by
  unfold Dev.cancelCmd
  split
  · next hnone => exact ⟨.refl s, by rw [hnone]; rfl, fun _ _ => rfl⟩
  · next c hc =>
    split
    · next hover => exact ⟨.refl s, by rw [hc]; exact hover, fun _ _ => rfl⟩
    · extract_lets s₁ c₁ s₂ s₃ s₄ s₅
      have hid : c.id = id := s.cmd_id hc
      have h₁ : Dev.CancelStep s s₁ := s.cancelStep_abandonRecord c
      have h₂ : Dev.Cancelled (s₁.setCmd c₁) s₂ := ⟨.count _ .FE_CMD_CANCELLED 0 1 (by decide), fun _ => rfl⟩
      have h₃ : Dev.CancelStep s₂ s₃ := Dev.cancelStep_setPier _ _ _
      have h₄ : Dev.CancelStep s₂ s₄ := by
        dsimp only [s₄]
        split <;> exact h₃
      have h₅ : Dev.CancelStep s₂ s₅ := (h₄.trans (Dev.cancelStep_commandOver _ _ _)).trans (Dev.cancelStep_sampleEnd _ _ _)
      obtain ⟨h₆, hcmd⟩ := s₅.cancelled_aersForget c₁.ctrl id
      have hset : Dev.Cancelled s s₅ := ((h₁.cancelled.trans (s₁.cancelled_setCmd c₁)).trans h₂).trans h₅.cancelled
      have hcmd₅ : ∀ j, s₅.cmd j = (s₁.setCmd c₁).cmd j := fun j => congrArg (fun n => n.cmds.find? (fun c => c.id == j)) h₅.nvme
      have hcmd₁ : ∀ j, s₁.cmd j = s.cmd j := fun j => congrArg (fun n => n.cmds.find? (fun c => c.id == j)) h₁.nvme
      have hend : Dev.CancelledOne id s ((s₅.aersForget c₁.ctrl id).sweep id) := by
        refine ⟨(hset.trans h₆).trans (Dev.cancelled_sweep _ id), ?_, fun j hj => ?_⟩
        · rcases (s₅.aersForget c₁.ctrl id).cmd_sweep_self id with hgone | hstays
          · rw [hgone]
            rfl
          · have hself : (s₁.setCmd c₁).cmd id = some c₁ := hid ▸ s₁.cmd_setCmd_self ((hcmd₁ _).trans (hid ▸ hc))
            rw [hstays, hcmd, hcmd₅, hself]
            exact Bool.or_true _
        · rw [Dev.cmd_sweep_other _ hj, hcmd, hcmd₅, Dev.cmd_setCmd_other _ _ (hid ▸ hj), hcmd₁]
      unfold Dev.aersForget at hend
      split
      · next x hx => simpa only [hx] using hend
      · next hx => simpa only [hx] using hend

theorem Dev.cancelled_foldl (l : List Nat) : Dev.Cancelled s (l.foldl (fun s id => s.cancelCmd id false) s) :=
  foldl_within Dev.Cancelled.refl .trans (fun s id => (s.cancelledOne id).toCancelled) l s

/-- Of several commands cancelled each is over, and the others are as they were. -/
theorem Dev.cmd_foldl_cancelCmd (l : List Nat) : ∀ s : Dev,
    (∀ j ∈ l, (((l.foldl (fun s id => s.cancelCmd id false) s).cmd j).all Cmd.over) = true) ∧
      ∀ j, j ∉ l → (l.foldl (fun s id => s.cancelCmd id false) s).cmd j = s.cmd j := by
  induction l with
  | nil => exact fun s => ⟨fun j h => absurd h List.not_mem_nil, fun _ _ => rfl⟩
  | cons id l ih =>
    intro s
    obtain ⟨hin, hout⟩ := ih (s.cancelCmd id false)
    have hone := s.cancelledOne id
    rw [List.foldl_cons]
    refine ⟨fun j hj => ?_, fun j hj => ?_⟩
    · by_cases hl : j ∈ l
      · exact hin j hl
      · rw [hout j hl, (List.mem_cons.mp hj).resolve_right hl]
        exact hone.self
    · obtain ⟨hji, hjl⟩ := not_or.mp (List.mem_cons.not.mp hj)
      exact (hout j hjl).trans (hone.other j hji)

/-- What holds of a command that is over, and of it before, holds of it after a cancellation. -/
theorem Dev.cmd_cancelWhere (p : Cmd → Bool) {q : Cmd → Bool} (hq : ∀ c : Cmd, c.over = true → q c = true) {k : Nat}
    (h : ((s.cmd k).all q) = true ∨ ∀ c, s.cmd k = some c → q c = false → p c = true) : (((s.cancelWhere p false).cmd k).all q) = true := by
  obtain ⟨hin, hout⟩ := Dev.cmd_foldl_cancelCmd ((s.nvme.cmds.filter p).map (·.id)) s
  by_cases hk : k ∈ (s.nvme.cmds.filter p).map (·.id)
  · have hover := hin k hk
    unfold Dev.cancelWhere
    revert hover
    cases (((s.nvme.cmds.filter p).map (·.id)).foldl (fun s id => s.cancelCmd id false) s).cmd k with
    | none => exact fun _ => rfl
    | some c => exact hq c
  · unfold Dev.cancelWhere
    rw [hout k hk]
    rcases h with h | h
    · exact h
    · cases hc : s.cmd k with
      | none => rfl
      | some c =>
        refine Bool.of_not_eq_false fun hqc => hk ?_
        exact List.mem_map.mpr ⟨c, List.mem_filter.mpr ⟨List.mem_of_find?_eq_some hc, h c hc hqc⟩, s.cmd_id hc⟩

end Cancelling

section Queues

/-- The parts and counters of queues torn down. -/
def queueParts : List DevPart := [.rdma, .nvme, .ldg, .ten, .evr, .sw, .fresh]

variable (s : Dev) {a b c : Dev}

/-- What tearing queues down leaves: the windows and what they hold, what was over, and the queue pairs that were not in RTS (04 R180, R183). -/
structure Dev.TornDown (a b : Dev) : Prop where
  step : Dev.Step queueParts [] cancelCtrs a b
  rest : { b.rdma with qps := [] } = { a.rdma with qps := [] }
  kept : ∀ j, (a.qp j).st ≠ .rts → (b.qp j).st = (a.qp j).st ∧ (b.qp j).out = (a.qp j).out
  overs : ∀ q : Cmd → Bool, (∀ c : Cmd, c.over = true → q c = true) → ∀ k, ((a.cmd k).all q) = true → ((b.cmd k).all q) = true
  gone : ∀ k, a.ctrl k = none → b.ctrl k = none

theorem Dev.TornDown.refl : Dev.TornDown s s := ⟨.refl s, rfl, fun _ _ => ⟨rfl, rfl⟩, fun _ _ _ h => h, fun _ h => h⟩

theorem Dev.TornDown.trans (h : Dev.TornDown a b) (k : Dev.TornDown b c) : Dev.TornDown a c where
  step := h.step.trans k.step
  rest := k.rest.trans h.rest
  kept j hj := by
    obtain ⟨hst, hout⟩ := h.kept j hj
    obtain ⟨kst, kout⟩ := k.kept j (hst ▸ hj)
    exact ⟨kst.trans hst, kout.trans hout⟩
  overs q hq n hn := k.overs q hq n (h.overs q hq n hn)
  gone n hn := k.gone n (h.gone n hn)

theorem Dev.cancelWhere_rdma (p : Cmd → Bool) : (s.cancelWhere p false).rdma = s.rdma := (s.cancelled_foldl _).step.rdma_eq (by decide)

theorem Dev.tornDown_cancelWhere (p : Cmd → Bool) : Dev.TornDown s (s.cancelWhere p false) where
  step := (s.cancelled_foldl _).step.mono (by decide) (List.Subset.refl _) (List.Subset.refl _)
  rest := by rw [s.cancelWhere_rdma]
  kept j _ := by
    have : (s.cancelWhere p false).qp j = s.qp j := congrArg (fun r => r.qps.get {} j) (s.cancelWhere_rdma p)
    rw [this]
    exact ⟨rfl, rfl⟩
  overs q hq k hk := s.cmd_cancelWhere p hq (.inl hk)
  gone k hk := by
    have := (s.cancelled_foldl ((s.nvme.cmds.filter p).map (·.id))).ctrls k
    rw [hk] at this
    exact Option.isSome_eq_false_iff.mp this |> Option.isNone_iff_eq_none.mp

/-- A step of one queue pair out of RTS at most tears down. -/
theorem Dev.QpStep.tornDown {i : Nat} {q : Qp} (h : Dev.QpStep [.rdma, .sw] [] i q a b)
    (hq : (a.qp i).st ≠ .rts → q.st = (a.qp i).st ∧ q.out = (a.qp i).out) : Dev.TornDown a b where
  step := h.toStep.mono (by decide) (List.Subset.refl _) (List.nil_subset _)
  rest := h.rest
  kept j hj := by
    by_cases hji : j = i
    · subst hji
      rw [h.self]
      exact hq hj
    · rw [h.other j hji]
      exact ⟨rfl, rfl⟩
  overs q _ k hk := by
    rw [Dev.cmd, h.nvme_eq (by decide)]
    exact hk
  gone k hk := by
    rw [Dev.ctrl, h.nvme_eq (by decide)]
    exact hk

/-- A queue pair drains from RTS alone (03 R100). -/
theorem Dev.qpStep_qpDrain (i : Nat) (dreq : Bool) (h : (s.qp i).st = .rts) :
    Dev.QpStep [.rdma, .sw] [] i ((s.qp i).leaves .draining (s.nowOn .ln)) s (s.qpDrain i dreq) := by
  have hleave := s.qpStep_qpLeave (ps := [.rdma, .sw]) (cs := []) (by decide) (by decide) i .draining
  unfold Dev.qpDrain
  rw [if_pos h]
  dsimp only
  split
  · exact hleave.then_step (.emit _ _) rfl
  · exact hleave

theorem Dev.tornDown_closeQp (i : Nat) (dreq : Bool) : Dev.TornDown s (s.closeQp i dreq) := by
  unfold Dev.closeQp
  split
  · by_cases h : (s.qp i).st = .rts
    · exact (s.qpStep_qpDrain i dreq h).tornDown fun hne => absurd h hne
    · unfold Dev.qpDrain
      rw [if_neg h]
      exact .refl s
  · exact (Dev.QpStep.setQp s i _ (by decide)).tornDown fun _ => ⟨rfl, rfl⟩

/-- An association ends: its controller is gone (04 R180). -/
theorem Dev.tornDown_endAssociation (k : Nat) : Dev.TornDown s (s.endAssociation k) ∧ (s.endAssociation k).ctrl k = none := by
  unfold Dev.endAssociation
  split
  · exact ⟨.refl s, ‹_›⟩
  · extract_lets s₁ s₂ ctrls freed
    have h₂ : Dev.TornDown s s₂ := (s.tornDown_cancelWhere _).trans (foldl_within Dev.TornDown.refl .trans (fun s i => s.tornDown_closeQp i true) _ s₁)
    refine ⟨h₂.trans ⟨?_, rfl, fun _ _ => ⟨rfl, rfl⟩, fun _ _ _ h => h, fun j hj => ?_⟩, Table.find_erase_self _ _⟩
    · exact ((Dev.Step.nvme s₂ _ (by decide)).trans (.fresh { s₂ with nvme := _ } _ (by decide))).trans (.event _ _ _ _ _)
    · by_cases hjk : j = k
      · rw [hjk]
        exact Table.find_erase_self _ _
      · exact (Table.find_erase_other _ hjk).trans hj

/-- A queue pair's commands are over. -/
def Dev.queueOver (s : Dev) (i : Nat) : Prop := ∀ k, ((s.cmd k).all (fun c => c.src != .fabric i || c.completed || c.cancelled)) = true

/-- What the loss of a queue leaves (04 R180). -/
structure Dev.QueueGone (i : Nat) (a b : Dev) : Prop extends Dev.TornDown a b where
  queue : b.queueOver i
  io : (a.qp i).qid ≠ 0 → b.rdma = a.rdma ∧ ∀ k, (b.ctrl k).isSome = (a.ctrl k).isSome
  admin : (a.qp i).qid = 0 → ((a.qp i).ctrl.all (fun k => (b.ctrl k).isNone)) = true

theorem Dev.queueOver_of_tornDown {i : Nat} (h : Dev.TornDown a b) (ho : a.queueOver i) : b.queueOver i := fun k =>
  h.overs _ (fun c hc => by
    have : (c.completed || c.cancelled) = true := hc
    rw [Bool.or_assoc, this, Bool.or_true]) k (ho k)

theorem Dev.queueGone_spec (i : Nat) : Dev.QueueGone i s (s.queueGone i) := by
  have hcancel : Dev.TornDown s (s.cancelQueue i) := s.tornDown_cancelWhere _
  have hover : (s.cancelQueue i).queueOver i := fun k => by
    refine s.cmd_cancelWhere _ (fun c hc => ?_) (.inr fun c _ hc => ?_)
    · have : (c.completed || c.cancelled) = true := hc
      rw [Bool.or_assoc, this, Bool.or_true]
    · simpa using (Bool.or_eq_false_iff.mp (Bool.or_eq_false_iff.mp hc).1).1
  have hctrls : ∀ k, ((s.cancelQueue i).ctrl k).isSome = (s.ctrl k).isSome := (s.cancelled_foldl _).ctrls
  unfold Dev.queueGone
  dsimp only
  split
  · next k hk =>
    split
    · next hadmin =>
      obtain ⟨hend, hgone⟩ := (s.cancelQueue i).tornDown_endAssociation k
      exact ⟨hcancel.trans hend, Dev.queueOver_of_tornDown hend hover, fun h => absurd hadmin h, fun _ => by rw [hk]; simp [hgone]⟩
    · next hio => exact ⟨hcancel, hover, fun _ => ⟨s.cancelWhere_rdma _, hctrls⟩, fun h => absurd h hio⟩
  · next hnone => exact ⟨hcancel, hover, fun _ => ⟨s.cancelWhere_rdma _, hctrls⟩, fun _ => by rw [hnone]; rfl⟩

end Queues

end Sys2Proof.Machine

/-!
PROOF. The life of a queue pair (03 R94, R100, R101, R128, R130): the statement O19.
-/
namespace Sys2Proof.Machine

section Quiet

variable {s : State} {i : Nat} {c : Instr} {a b d : Dev}

/-- Queue pair `i` has become QUIET with nothing unfinished (03 R100, R101). -/
structure Dev.Quieted (i : Nat) (a b : Dev) : Prop where
  step : Dev.Step queueParts [] cancelCtrs a b
  self : ∃ q : Qp, b.qp i = { q with st := .quiet, since := a.nowOn .ln, out := [], sendQ := [], flushes := [], ctrl := none }
  mem : b.rdma.mem = a.rdma.mem
  wins : b.rdma.wins = a.rdma.wins
  queue : b.queueOver i

theorem Dev.quieted_quietQp (s : Dev) (i : Nat) : Dev.Quieted i s (s.quietQp i) := by
  have hgone := s.queueGone_spec i
  set s₁ := s.queueGone i
  have hleave := s₁.qpStep_qpLeave (ps := [.rdma, .sw]) (cs := []) (by decide) (by decide) i .quiet
  set s₂ := s₁.qpLeave i .quiet
  have hset := hleave.trans (.setQp s₂ i { s₂.qp i with out := [], sendQ := [], flushes := [], ctrl := none, host := none } (by decide))
  have hquiet : Dev.QpStep [.rdma, .sw] [] i _ s₁ (s.quietQp i) := hset
  have hcmd : ∀ k, (s.quietQp i).cmd k = s₁.cmd k := fun k =>
    congrArg (fun n => n.cmds.find? (fun c => c.id == k)) (hquiet.nvme_eq (by decide))
  refine ⟨hgone.step.trans (hquiet.toStep.mono (by decide) (List.Subset.refl _) (List.nil_subset _)),
    ⟨{ (s₁.qp i).leaves .quiet (s₁.nowOn .ln) with host := none }, ?_⟩, hquiet.mem.trans (congrArg (fun r => r.mem) hgone.rest),
    hquiet.wins.trans (congrArg (fun r => r.wins) hgone.rest), fun k => hcmd k ▸ hgone.queue k⟩
  rw [hquiet.self, hleave.self, ← hgone.step.nowOn (by decide)]
  rfl

/-- What a command answers whose queue pair becomes QUIET. -/
theorem Dev.Quieted.answers (h : Dev.Quieted i s.dev.quiet d) (hx : exec c s = s.run (fun _ => d)) :
    Answers c s (fun t => (∃ q : Qp, t.dev.qp i = { q with st := .quiet, since := s.dev.nowOn .ln, out := [], sendQ := [], flushes := [], ctrl := none }) ∧
      t.dev.queueOver i ∧ t.dev.rdma.mem = s.dev.rdma.mem ∧ t.dev.rdma.wins = s.dev.rdma.wins ∧ (∀ o ∈ d.out, o ∈ t.dev.out) ∧
      Dev.OnlyChanged queueParts [] cancelCtrs s.dev t.dev) := by
  refine .of_run hx ?_
  set t := s.after _
  have hr : t.dev.rdma = d.rdma := State.after_rdma ..
  have hq : t.dev.qp i = d.qp i := congrArg (fun r => r.qps.get {} i) hr
  have hcmd : ∀ k, t.dev.cmd k = d.cmd k := fun k => congrArg (fun n => n.cmds.find? (fun c => c.id == k)) (State.after_nvme ..)
  rw [hr, hq]
  exact ⟨h.self, fun k => hcmd k ▸ h.queue k, h.mem, h.wins, fun _ => State.after_mem_out s (fun _ => d), h.step.after⟩

/-- A message sent before or after leaves it so. -/
theorem Dev.Quieted.of_emit {o : Out} (h : Dev.Quieted i (a.emit o) b) : Dev.Quieted i a b :=
  ⟨(Dev.Step.emit a o).trans h.step, h.self, h.mem, h.wins, h.queue⟩

theorem Dev.Quieted.emit (h : Dev.Quieted i a b) (o : Out) : Dev.Quieted i a (b.emit o) :=
  ⟨h.step.trans (.emit b o), h.self, h.mem, h.wins, h.queue⟩

theorem cmResponseTimeout_answers (hup : s.dev.transportUp = true) (hst : (s.dev.qp i).st = .rtr)
    (hover : s.dev.expired .ln (s.dev.qp i).since (s.dev.qp i).cmTimeout = true) :
    Answers (.cmResponseTimeout i) s (fun t => (t.dev.qp i).st = .quiet ∧ (t.dev.qp i).out = [] ∧ (t.dev.qp i).sendQ = [] ∧ (t.dev.qp i).ctrl = none ∧
      Out.cmRej 4 0 ∈ t.dev.out ∧ (t.dev.qp i).since = s.dev.nowOn .ln ∧ t.dev.rdma.mem = s.dev.rdma.mem ∧ t.dev.rdma.wins = s.dev.rdma.wins ∧
      Dev.OnlyChanged queueParts [] cancelCtrs s.dev t.dev) := by
  have hquiet := (s.dev.quiet.emit (.cmRej 4 0)).quieted_quietQp i
  have hx : exec (.cmResponseTimeout i) s = s.run (fun _ => (s.dev.quiet.emit (.cmRej 4 0)).quietQp i) :=
    State.runIf_eq_of_quiet (by simp [hup, hst, hover]) rfl
  refine (hquiet.of_emit.answers hx).imp fun t ⟨⟨q, hq⟩, _, hmem, hwins, hout, hframe⟩ => ?_
  rw [hq]
  exact ⟨rfl, rfl, rfl, rfl, hout _ (hquiet.step.out.subset (List.mem_append_right _ (List.mem_singleton.mpr rfl))), rfl, hmem, hwins, hframe⟩

theorem drainTimeout_answers (hup : s.dev.transportUp = true) (hst : (s.dev.qp i).st = .draining)
    (hdone : ((s.dev.qp i).out.isEmpty && (s.dev.qp i).flushes.isEmpty ||
      s.dev.expired .ln (s.dev.qp i).since (s.dev.fld .RD_TIMING_QUIET_TO * 1000000)) = true) :
    Answers (.drainTimeout i) s (fun t => (t.dev.qp i).st = .quiet ∧ (t.dev.qp i).out = [] ∧ (t.dev.qp i).flushes = [] ∧ (t.dev.qp i).sendQ = [] ∧
      (t.dev.qp i).ctrl = none ∧ t.dev.queueOver i ∧ t.dev.rdma.mem = s.dev.rdma.mem ∧ t.dev.rdma.wins = s.dev.rdma.wins ∧
      Dev.OnlyChanged queueParts [] cancelCtrs s.dev t.dev) := by
  have hx : exec (.drainTimeout i) s = s.run (fun _ => s.dev.quiet.quietQp i) := by
    refine State.runIf_eq_of_quiet ?_ rfl
    simp only [hup, hst, Dev.quietTime, ms, hdone]
    rfl
  refine ((s.dev.quiet.quieted_quietQp i).answers hx).imp fun t ⟨⟨q, hq⟩, hover, hmem, hwins, _, hframe⟩ => ?_
  rw [hq]
  exact ⟨rfl, rfl, rfl, rfl, rfl, hover, hmem, hwins, hframe⟩

theorem errorFlushDone_answers (hup : s.dev.transportUp = true) (hst : (s.dev.qp i).st = .error) :
    Answers (.errorFlushDone i) s (fun t => (t.dev.qp i).st = .quiet ∧ (t.dev.qp i).out = [] ∧ (t.dev.qp i).sendQ = [] ∧ (t.dev.qp i).ctrl = none ∧
      Out.cmDreq (qpnOf i) ∈ t.dev.out ∧ t.dev.queueOver i ∧ t.dev.rdma.mem = s.dev.rdma.mem ∧ t.dev.rdma.wins = s.dev.rdma.wins ∧
      Dev.OnlyChanged queueParts [] cancelCtrs s.dev t.dev) := by
  have hx : exec (.errorFlushDone i) s = s.run (fun _ => (s.dev.quiet.quietQp i).emit (.cmDreq (qpnOf i))) :=
    State.runIf_eq_of_quiet (by simp [hup, hst]) rfl
  refine (((s.dev.quiet.quieted_quietQp i).emit _).answers hx).imp fun t ⟨⟨q, hq⟩, hover, hmem, hwins, hout, hframe⟩ => ?_
  rw [hq]
  exact ⟨rfl, rfl, rfl, rfl, hout _ (List.mem_append_right _ (List.mem_singleton.mpr rfl)), hover, hmem, hwins, hframe⟩

theorem quietTimeout_answers (hup : s.dev.transportUp = true) (hst : (s.dev.qp i).st = .quiet)
    (hover : s.dev.expired .ln (s.dev.qp i).since (s.dev.fld .RD_TIMING_QUIET_TO * 1000000) = true) :
    Answers (.quietTimeout i) s (fun t => t.dev.qp i = {} ∧ (∀ j, j ≠ i → t.dev.qp j = s.dev.qp j) ∧ t.dev.rdma.mem = s.dev.rdma.mem ∧
      Dev.OnlyChanged [.rdma] [] [] s.dev t.dev) := by
  have hx : exec (.quietTimeout i) s = s.run (fun _ => s.dev.quiet.setQp i {}) := by
    refine State.runIf_eq_of_quiet ?_ rfl
    simp [hup, hst, Dev.quietTime, ms, hover]
  refine ((Dev.QpStep.setQp (ps := [.rdma]) (cs := []) s.dev.quiet i {} (by decide)).answers (.refl _) hx).imp
    fun t ⟨hself, hother, hmem, _, _, _, hframe⟩ => ⟨hself, hother, hmem, hframe⟩

end Quiet

section Connection

variable {s : State} {i : Nat}

theorem cmRtuReceive_answers (hup : s.dev.transportUp = true) (hst : (s.dev.qp i).st = .rtr) :
    Answers (.cmRtuReceive i) s (fun t => t.dev.qp i = { s.dev.qp i with st := .rts, since := s.dev.nowOn .ln } ∧
      (∀ j, j ≠ i → t.dev.qp j = s.dev.qp j) ∧ t.dev.rdma.mem = s.dev.rdma.mem ∧ Dev.OnlyChanged [.rdma] [] [] s.dev t.dev) := by
  have hset := Dev.QpStep.setQp (ps := [.rdma]) (cs := []) s.dev.quiet i { s.dev.qp i with st := .rts, since := s.dev.nowOn .ln } (by decide)
  have hx : exec (.cmRtuReceive i) s = s.run (fun _ => s.dev.quiet.setQp i { s.dev.qp i with st := .rts, since := s.dev.nowOn .ln }) :=
    State.runIf_eq_of_quiet (by simp [hup, hst]) rfl
  exact (hset.answers (.refl _) hx).imp fun t ⟨hself, hother, hmem, _, _, _, hframe⟩ => ⟨hself, hother, hmem, hframe⟩

theorem cmDreqReceive_answers (hup : s.dev.transportUp = true) (hst : (s.dev.qp i).st = .rts) :
    Answers (.cmDreqReceive i) s (fun t => (t.dev.qp i).st = .draining ∧ (t.dev.qp i).out = (s.dev.qp i).out ∧ t.dev.queueOver i ∧
      t.dev.rdma.mem = s.dev.rdma.mem ∧ t.dev.rdma.wins = s.dev.rdma.wins ∧
      ((s.dev.qp i).qid ≠ 0 → (∀ j, j ≠ i → t.dev.qp j = s.dev.qp j) ∧ (∀ k, (t.dev.ctrl k).isSome = (s.dev.ctrl k).isSome)) ∧
      ((s.dev.qp i).qid = 0 → ((s.dev.qp i).ctrl.all (fun k => (t.dev.ctrl k).isNone)) = true) ∧
      Dev.OnlyChanged queueParts [] cancelCtrs s.dev t.dev) := by
  have hdrain := s.dev.quiet.qpStep_qpDrain i false hst
  set d₁ := s.dev.quiet.qpDrain i false
  have hgone := d₁.queueGone_spec i
  have hio := hgone.io
  have hadmin := hgone.admin
  obtain ⟨hst', hout'⟩ := hgone.kept i (by rw [hdrain.self]; exact QpSt.noConfusion)
  rw [hdrain.self] at hio hadmin hst' hout'
  have hx : exec (.cmDreqReceive i) s = s.run (fun _ => d₁.queueGone i) := State.runIf_eq_of_quiet (by simp [hup, hst]) rfl
  refine .of_run hx ?_
  set t := s.after _
  have hr : t.dev.rdma = (d₁.queueGone i).rdma := State.after_rdma ..
  have hn : t.dev.nvme = (d₁.queueGone i).nvme := State.after_nvme ..
  have hqp : ∀ j, t.dev.qp j = (d₁.queueGone i).qp j := fun j => congrArg (fun r => r.qps.get {} j) hr
  have hcmd : ∀ k, t.dev.cmd k = (d₁.queueGone i).cmd k := fun k => congrArg (fun n => n.cmds.find? (fun c => c.id == k)) hn
  have hctrl : ∀ k, t.dev.ctrl k = (d₁.queueGone i).ctrl k := fun k => congrArg (fun n => n.ctrls.find k) hn
  have hsame : ∀ k, d₁.ctrl k = s.dev.ctrl k := fun k => congrArg (fun n => n.ctrls.find k) (hdrain.nvme_eq (by decide))
  refine ⟨hqp i ▸ hst', hqp i ▸ hout', fun k => hcmd k ▸ hgone.queue k, hr ▸ (congrArg (fun r => r.mem) hgone.rest).trans hdrain.mem,
    hr ▸ (congrArg (fun r => r.wins) hgone.rest).trans hdrain.wins, fun hq => ?_, fun hq => ?_,
    ((hdrain.toStep.mono (by decide) (List.Subset.refl _) (List.nil_subset _)).trans hgone.step).after⟩
  · obtain ⟨hrdma, hctrls⟩ := hio hq
    refine ⟨fun j hj => (hqp j).trans ((congrArg (fun r => r.qps.get {} j) hrdma).trans (hdrain.other j hj)), fun k => ?_⟩
    rw [hctrl, hctrls, hsame]
  · simp only [hctrl]
    exact hadmin hq

/-- The queue pair that a CM REQ makes (03 R94, R110). -/
def queuePairOf (q : CmReq) (reserve psn now : Nat) : Qp :=
  { st := .rtr, mac := q.mac, v4 := q.v4, mtu := q.mtu, depth := q.size, reserve := reserve, initDepth := min 16 q.depth, qid := q.qid
    ePsn := q.psn.toNat, nPsn := psn, since := now, cmTimeout := q.timeoutNs }

/-- A CM REQ that can be served (03 R94, R100). -/
theorem cmReqReceive_served {q : CmReq} (hup : s.dev.transportUp = true) (hlink : (s.dev.mac q.mac).link = true)
    (hip : s.dev.holdsIp q.mac q.v4 q.dst.toNat = true) (hmtu : q.mtu = 1024 ∨ q.mtu = 2048 ∨ q.mtu = 4096) (hqid : q.qid ≤ 1024)
    (hsize : 2 ≤ q.size ∧ q.size ≤ (if q.qid = 0 then 32 else 4096))
    (hfree : firstFreeQp s.dev.rdma.qps (s.dev.rdma.qps.length + 1) (if q.qid = 0 then 0 else 1024) = i)
    (hi : i < (if q.qid = 0 then 1023 else qpCount)) (hslots : s.dev.fld .RD_CFG_CRED_RES ≤ s.dev.slotsFree)
    (hqueues : q.qid = 0 ∨ s.dev.ioQueues < 65536) :
    Answers (.cmReqReceive q) s (fun t => (t.dev.qp i).st = .rtr ∧ (t.dev.qp i).ePsn = q.psn.toNat ∧ (t.dev.qp i).depth = q.size ∧
      (t.dev.qp i).mtu = q.mtu ∧ (t.dev.qp i).reserve = s.dev.fld .RD_CFG_CRED_RES ∧ (t.dev.qp i).qid = q.qid ∧ (t.dev.qp i).ctrl = none ∧
      (t.dev.qp i).nPsn < 2 ^ 24 ∧ Out.cmRep (qpnOf i) (t.dev.qp i).nPsn ∈ t.dev.out ∧ (∀ j, j ≠ i → t.dev.qp j = s.dev.qp j) ∧
      t.dev.rdma.wins = s.dev.rdma.wins ∧ t.dev.rdma.mem = s.dev.rdma.mem ∧ Dev.OnlyChanged [.rdma, .fresh] [] [] s.dev t.dev) := by
  have hmtu' : ¬(q.mtu ≠ 1024 ∧ q.mtu ≠ 2048 ∧ q.mtu ≠ 4096) := by omega
  have hsize' : ¬(q.size < 2 ∨ (if q.qid = 0 then 32 else 4096) < q.size) := by omega
  have hfit : ¬((if q.qid = 0 then 1023 else qpCount) ≤ i ∨ s.dev.slotsFree < s.dev.fld .RD_CFG_CRED_RES ∨ (q.qid ≠ 0 ∧ 65536 ≤ s.dev.ioQueues)) := by
    omega
  set psn := (Config.freeValue s.dev.fresh).toNat % 2 ^ 24
  set e : Dev := { s.dev.quiet with fresh := s.dev.fresh + 1 }
  set x := queuePairOf q (s.dev.fld .RD_CFG_CRED_RES) psn (e.nowOn .ln)
  have hx : exec (.cmReqReceive q) s = s.run (fun _ => (e.setQp i x).emit (.cmRep (qpnOf i) psn)) := by
    refine State.runIf_eq_of_quiet (by simp [hup, hlink, hip]) ?_
    dsimp only
    rw [if_neg hmtu', if_neg (Nat.not_lt.mpr hqid), if_neg hsize']
    subst hfree
    exact if_neg hfit
  have hset := (Dev.QpStep.setQp (ps := [.rdma, .fresh]) (cs := []) e i x (by decide)).then_step (.emit _ (.cmRep (qpnOf i) psn)) rfl
  have hmade : Dev.Step [.rdma, .fresh] [] [] s.dev.quiet e := .fresh s.dev.quiet _ (by decide)
  refine .of_run hx ?_
  set t := s.after _
  have hr : t.dev.rdma = _ := State.after_rdma ..
  have hqp : ∀ j, t.dev.qp j = (e.setQp i x).qp j := fun j => congrArg (fun r => r.qps.get {} j) hr
  rw [hqp i, Dev.qp_setQp_self, hr]
  exact ⟨rfl, rfl, rfl, rfl, rfl, rfl, rfl, Nat.mod_lt _ (Nat.two_pow_pos 24), State.after_mem_out s (fun _ => (e.setQp i x).emit _)
    (List.mem_append_right _ (List.mem_singleton.mpr rfl)), fun j hj => (hqp j).trans (hset.other j hj), rfl, rfl, (hmade.trans hset.toStep).after⟩

/-- A CM REQ for an MTU that is not supported is refused (03 R94, R138). -/
theorem cmReqReceive_badMtu {q : CmReq} (hup : s.dev.transportUp = true) (hlink : (s.dev.mac q.mac).link = true)
    (hip : s.dev.holdsIp q.mac q.v4 q.dst.toNat = true) (hmtu : q.mtu ≠ 1024 ∧ q.mtu ≠ 2048 ∧ q.mtu ≠ 4096) :
    Answers (.cmReqReceive q) s (fun t => Out.cmRej 26 0 ∈ t.dev.out ∧ (s.hears .ln → s.told t .ln 0x18C (le 2 26)) ∧
      Dev.OnlyChanged [] [] [] s.dev t.dev) := by
  have hx : exec (.cmReqReceive q) s = s.run (fun _ => s.dev.quiet.cmRefuse 26 0) := by
    refine State.runIf_eq_of_quiet (by simp [hup, hlink, hip]) ?_
    simp [hmtu]
  refine .of_run hx ⟨State.after_mem_out s (fun _ => s.dev.quiet.cmRefuse 26 0) (List.mem_singleton.mpr rfl),
    State.told_of_prefix (e := s.dev.quiet.emit (.cmRej 26 0)) (Nat.zero_lt_succ _) List.prefix_rfl rfl rfl,
    ((Dev.Step.emit s.dev.quiet _).trans (.event _ _ _ _ _)).after⟩

end Connection

section Durable

variable {s : State} {i : Nat} {f : FlushWait} {fs : List FlushWait}

/-- What bytes written one after another leave at an address: the last written there, or what was there. -/
theorem Memory.get_foldl_placed (l : List WinByte) (t : Table Byte) (a : Nat) : (l.foldl (fun t b => Table.put t 0 b.addr b.value) t).get 0 a =
    ((l.filter (fun b => b.addr == a)).getLast?.map WinByte.value).getD (t.get 0 a) := by
  induction l using List.reverseRecOn with
  | nil => rfl
  | append_singleton l b ih =>
    rw [List.foldl_append, List.filter_append]
    by_cases hb : b.addr = a
    · subst hb
      simp
    · have hne : ¬a = b.addr := Ne.symm hb
      have hlast : [b].filter (fun b => b.addr == a) = [] := by simp [hb]
      rw [List.foldl_cons, List.foldl_nil, Table.get_put_other _ _ _ hne, ih, hlast, List.append_nil]

variable (d : Dev) (p : WinByte → Bool)

/-- Bytes made durable no longer wait (03 R128). -/
theorem Dev.makeDurable_placed {b : WinByte} (h : b ∈ (d.makeDurable p).rdma.placed) : p b = false := by
  obtain ⟨⟨b', n⟩, he, rfl⟩ := List.mem_map.mp h
  have hkeep := (List.mem_filter.mp he).2
  simp only [Bool.and_eq_true, Bool.not_eq_true', Bool.or_eq_false_iff] at hkeep
  exact hkeep.1.1

/-- Without an ATOMIC WRITE, bytes made durable are the last ones placed (03 R128). -/
theorem Dev.makeDurable_durable (h : d.rdma.placed.all (fun b => b.atom.isNone) = true) (a : Nat) : (d.makeDurable p).rdma.durable.get 0 a =
    (((d.rdma.placed.filter p).filter (fun b => b.addr == a)).getLast?.map WinByte.value).getD (d.rdma.durable.get 0 a) := by
  have hatom : ∀ b ∈ d.rdma.placed, b.atom = none := fun b hb => Option.isNone_iff_eq_none.mp (List.all_eq_true.mp h b hb)
  have hgo : ∀ (atoms : List Nat), d.rdma.placed.filter (fun b => p b || b.atom.any (fun a => atoms.contains a)) = d.rdma.placed.filter p :=
    fun atoms => List.filter_congr fun b hb => by rw [hatom b hb, Option.any_none, Bool.or_false]
  unfold Dev.makeDurable
  dsimp only
  rw [hgo, Memory.get_foldl_placed]

/-- An address at which no byte waits keeps its durable byte. -/
theorem Dev.makeDurable_other {a : Nat} (h : d.rdma.placed.all (fun b => b.addr != a) = true) :
    (d.makeDurable p).rdma.durable.get 0 a = d.rdma.durable.get 0 a := by
  refine (Memory.get_foldl_placed _ _ _).trans ?_
  rw [List.filter_filter, List.filter_eq_nil_iff.mpr]
  · rfl
  · intro b hb
    have hne : b.addr ≠ a := by simpa using List.all_eq_true.mp h b hb
    simp [hne]

/-- The bytes of a queue pair that a FLUSH waits for (03 R128). -/
def FlushWait.covers (f : FlushWait) (i : Nat) (b : WinByte) : Bool := b.qp == i && decide (f.lo ≤ b.addr) && decide (b.addr < f.hi)

/-- The PSN that an acknowledgement of a queue pair carries (03 R128). -/
def Qp.ackPsn (q : Qp) : Nat :=
  match q.flushes with
  | f :: _ => psnSub f.psn 1
  | [] => psnSub q.ePsn 1

theorem Dev.ackPsn_eq (d : Dev) (i : Nat) : d.ackPsn i = (d.qp i).ackPsn := rfl

/-- A durable FLUSH is acknowledged and its bytes survive (03 R128, R130). -/
theorem flushDurable_answers (hup : s.dev.transportUp = true) (hst : (s.dev.qp i).st = .rts ∨ (s.dev.qp i).st = .draining)
    (hf : (s.dev.qp i).flushes = f :: fs) :
    Answers (.flushDurable i true) s (fun t => (t.dev.qp i).flushes = fs ∧ (t.dev.qp i).ePsn = (s.dev.qp i).ePsn ∧
      (∃ k, Out.rdmaAck (qpnOf i) (match fs with | g :: _ => psnSub g.psn 1 | [] => psnSub (s.dev.qp i).ePsn 1) ((s.dev.qp i).msn % 2 ^ 24) k ∈ t.dev.out) ∧
      t.dev.rdma.placed.all (fun b => !(b.qp == i && decide (f.lo ≤ b.addr) && decide (b.addr < f.hi))) = true ∧
      (s.dev.rdma.placed.all (fun b => b.atom.isNone) = true → ∀ a, f.lo ≤ a → a < f.hi →
      ((s.dev.rdma.placed.filter (fun b => b.qp == i && b.addr == a)).getLast?).all (fun b => decide (t.dev.rdma.durable.get 0 a = b.value)) = true) ∧
      (∀ a, s.dev.rdma.placed.all (fun b => b.addr != a) = true → t.dev.rdma.durable.get 0 a = s.dev.rdma.durable.get 0 a) ∧
      t.dev.rdma.mem = s.dev.rdma.mem ∧ (∀ j, j ≠ i → t.dev.qp j = s.dev.qp j) ∧
      Dev.OnlyChanged [.rdma, .sw, .ten] [] [.RD_TX_PKTS, .SW_CELLS_ALLOC, .SW_ADMIT_WAITS] s.dev t.dev) := by
  set e := s.dev.quiet.makeDurable (f.covers i)
  set e₁ := e.setQp i { s.dev.qp i with flushes := fs }
  have hx : exec (.flushDurable i true) s = s.run (fun _ => e₁.sendAck i (e₁.ackPsn i)) := by
    have hst' : ¬((s.dev.qp i).st ≠ .rts ∧ (s.dev.qp i).st ≠ .draining) := by tauto
    refine State.runIf_eq_of_quiet hup ?_
    simp only [Dev.quiet_qp, hf]
    exact if_neg hst'
  have hset := Dev.QpStep.setQp (ps := [.rdma, .sw, .ten]) (cs := sendCtrs) e i { s.dev.qp i with flushes := fs } (by decide)
  obtain ⟨code, limit, hack, hout⟩ := e₁.qpStep_sendAck (ps := [.rdma, .sw, .ten]) (cs := sendCtrs) (List.Subset.refl _) (List.Subset.refl _) i (e₁.ackPsn i)
  rw [hset.self] at hack hout
  have he : Dev.Step [.rdma, .sw, .ten] [] sendCtrs s.dev.quiet e := .rdma s.dev.quiet _ (by decide)
  refine ((hset.trans hack).answers he hx).imp fun t ⟨hself, hother, hmem, hdurable, hplaced, houts, hframe⟩ => ?_
  rw [hself, hplaced, hdurable]
  refine ⟨rfl, rfl, ⟨code, ?_⟩, List.all_eq_true.mpr fun b hb => ?_, fun hatoms a hlo hhi => ?_, fun a ha => ?_, hmem, hother, hframe⟩
  · have hsent := houts _ hout
    rw [Dev.ackPsn_eq, hset.self] at hsent
    exact hsent
  · rw [Bool.not_eq_true']
    exact s.dev.quiet.makeDurable_placed (f.covers i) hb
  · have hfilter : (s.dev.rdma.placed.filter (f.covers i)).filter (fun b => b.addr == a) = s.dev.rdma.placed.filter (fun b => b.qp == i && b.addr == a) := by
      rw [List.filter_filter]
      refine List.filter_congr fun b _ => ?_
      by_cases hb : b.addr = a
      · simp [FlushWait.covers, hb, hlo, hhi]
      · have hne : (b.addr == a) = false := beq_false_of_ne hb
        simp only [hne, Bool.false_and, Bool.and_false]
    have hget := s.dev.quiet.makeDurable_durable (f.covers i) hatoms a
    rw [show s.dev.quiet.rdma.placed = s.dev.rdma.placed from rfl, hfilter] at hget
    rw [hget]
    cases (s.dev.rdma.placed.filter (fun b => b.qp == i && b.addr == a)).getLast? <;> simp
  · exact s.dev.quiet.makeDurable_other (f.covers i) ha

/-- A FLUSH that the ledger fails ends its queue pair (03 R132). -/
theorem flushFailed_answers (hup : s.dev.transportUp = true) (hst : (s.dev.qp i).st = .rts ∨ (s.dev.qp i).st = .draining)
    (hf : (s.dev.qp i).flushes = f :: fs) :
    Answers (.flushDurable i false) s (fun t => (t.dev.qp i).st = .error ∧ Out.rdmaNak (qpnOf i) f.psn 3 ∈ t.dev.out ∧
      (s.hears .ln → s.told t .ln 0x18D (le 2 f.slot ++ le 4 (f.lo - f.slot * 65536))) ∧ t.dev.rdma.durable = s.dev.rdma.durable ∧
      t.dev.rdma.placed = s.dev.rdma.placed ∧ (∀ j, j ≠ i → t.dev.qp j = s.dev.qp j) ∧
      Dev.OnlyChanged [.rdma, .sw, .ten] [] [.RD_NAK_OP_SENT, .RD_TX_PKTS, .SW_CELLS_ALLOC, .SW_ADMIT_WAITS] s.dev t.dev) := by
  have hx : exec (.flushDurable i false) s = s.run (fun _ => s.dev.quiet.windowFailed i f.psn f.slot (f.lo - f.slot * 65536)) := by
    have hst' : ¬((s.dev.qp i).st ≠ .rts ∧ (s.dev.qp i).st ≠ .draining) := by tauto
    refine State.runIf_eq_of_quiet hup ?_
    simp only [Dev.quiet_qp, hf]
    exact if_neg hst'
  have he : Dev.Step [.rdma, .sw, .ten] [] [.RD_NAK_OP_SENT, .RD_TX_PKTS, .SW_CELLS_ALLOC, .SW_ADMIT_WAITS] s.dev.quiet s.dev.quiet := .refl _
  have hlive : (s.dev.qp i).st.live := hst.imp_right .inl
  exact (requestError_answers he rfl rfl (List.Subset.refl _) (by decide) (by decide) (by decide) (by decide) hlive hx).imp
    fun t ⟨herr, hnak, htold, _, hdurable, hplaced, hother, hframe⟩ => ⟨herr, hnak, htold, hdurable, hplaced, hother, hframe⟩

end Durable

/-- Settles O19: each command of a queue pair's life leaves that queue pair in its next state, with the commands of a queue that is gone over. -/
theorem queuePairLife : Obligations.QueuePairLife :=
  ⟨fun _ _ _ => cmReqReceive_served, fun _ _ => cmReqReceive_badMtu, fun _ _ => cmRtuReceive_answers, fun _ _ => cmDreqReceive_answers,
    fun _ _ => cmResponseTimeout_answers, fun _ _ => drainTimeout_answers, fun _ _ => errorFlushDone_answers, fun _ _ => quietTimeout_answers,
    fun _ _ _ _ => flushDurable_answers, fun _ _ _ _ => flushFailed_answers⟩

end Sys2Proof.Machine

/-!
PROOF. An effect that changes neither the mode, nor what the meters and the error register are read from, settles in silence.
-/
namespace Sys2Proof.Machine

section Silence

variable {s b : Dev}

/-- What the settlement reads is as it was before the effect. -/
structure Dev.Settled (b s : Dev) : Prop where
  mode : s.modeNow = b.modeNow
  runs : s.metersRun = b.metersRun
  errors : s.errorRegister = b.errorRegister
  out : s.out = b.out

theorem Dev.settleMode_settled (s : Dev) (h : s.modeNow = b.modeNow) : Dev.Settled s (s.settleMode b) := by
  have hkept : ∀ a : Mode, ∀ d : Dev, d.modeChanged a a = d := fun a d => by
    unfold Dev.modeChanged
    cases a <;> rfl
  unfold Dev.settleMode
  dsimp only
  rw [h, hkept]
  split
  · exact ⟨rfl, rfl, rfl, rfl⟩
  · split
    · exact ⟨rfl, rfl, rfl, rfl⟩
    · exact ⟨rfl, rfl, rfl, rfl⟩

theorem Dev.settleMeter_settled (s : Dev) (h : s.metersRun = b.metersRun) : Dev.Settled s (s.settleMeter b) := by
  have hmark : Dev.Settled s s.meterMarkOpen := by
    unfold Dev.meterMarkOpen
    split
    · exact ⟨rfl, rfl, rfl, rfl⟩
    · exact ⟨rfl, rfl, rfl, rfl⟩
  have hstay : (b.metersRun && !b.metersRun) = false ∧ (!b.metersRun && b.metersRun) = false := by cases b.metersRun <;> exact ⟨rfl, rfl⟩
  unfold Dev.settleMeter
  dsimp only
  rw [h, hstay.1, hstay.2]
  exact hmark

theorem Dev.settle_out (ha : s.arch = b.arch) (ho : s.own = b.own) (hmode : s.modeNow = b.modeNow) (hruns : s.metersRun = b.metersRun)
    (herrors : s.errorRegister = b.errorRegister) : (s.settle b).out = s.out := by
  have h₁ : Dev.Settled s (s.settleMode b) := Dev.settleMode_settled s hmode
  have h₂ : Dev.Settled (s.settleMode b) ((s.settleMode b).settleMeter b) := Dev.settleMeter_settled _ (h₁.runs.trans hruns)
  have hquiet : ¬(b.errorRegister ≠ 0 ∧ ((s.settleMode b).settleMeter b).errorRegister = 0) := by
    rw [h₂.errors, h₁.errors, herrors]
    exact fun h => h.1 h.2
  unfold Dev.settle Dev.settleEmcy
  rw [Dev.settleOutputs_eq ha ho, if_neg hquiet]
  exact h₂.out.trans h₁.out

theorem State.after_out_eq {s : State} {d : Dev} (ha : d.arch = s.dev.arch) (ho : d.own = s.dev.own) (hmode : d.modeNow = s.dev.modeNow)
    (hruns : d.metersRun = s.dev.metersRun) (herrors : d.errorRegister = s.dev.errorRegister) : (s.after (fun _ => d)).dev.out = d.out :=
  have h : (s.after (fun _ => d)).dev.out = (d.settle s.dev).out := (Dev.dropEvent_out _ _).trans rfl
  h.trans (Dev.settle_out ha ho hmode hruns herrors)

end Silence

end Sys2Proof.Machine

/-!
PROOF. Responses and the device's own requests (03 R106-R117): acknowledgement, retransmission and the requests issued.
-/
namespace Sys2Proof.Machine

section Acknowledged

/-- Without progress no request leaves. -/
theorem ackRequests_of_no_progress (mtu psn : Nat) (l : List WorkReq) (h : (ackRequests mtu psn l).2 = false) : (ackRequests mtu psn l).1 = l := by
  cases l with
  | nil => rfl
  | cons w ws =>
    unfold ackRequests at h ⊢
    by_cases hkind : w.kind = .read
    · rw [if_pos hkind]
    · rw [if_neg hkind] at h ⊢
      by_cases hall : psnLe (psnAdd w.psn (w.count - 1)) psn = true
      · rw [if_pos hall] at h
        exact Bool.noConfusion h
      · rw [if_neg hall] at h ⊢
        by_cases hpart : psnLe w.psn psn = true
        · rw [if_pos hpart] at h
          exact Bool.noConfusion h
        · rw [if_neg hpart]

/-- What is all acknowledged leaves. -/
theorem ackRequests_all (mtu psn : Nat) (l : List WorkReq) (h : l.all (fun w => w.kind != .read && psnLe (psnAdd w.psn (w.count - 1)) psn) = true) :
    (ackRequests mtu psn l).1 = [] := by
  induction l with
  | nil => rfl
  | cons w ws ih =>
    obtain ⟨hw, hws⟩ := Bool.and_eq_true_iff.mp (List.all_cons ▸ h)
    obtain ⟨hkind, hle⟩ := Bool.and_eq_true_iff.mp hw
    have hne : ¬w.kind = .read := by simpa using hkind
    unfold ackRequests
    rw [if_neg hne, if_pos hle]
    exact ih hws

/-- The PSN before the first request's acknowledges nothing (03 R106). -/
theorem ackRequests_before (mtu : Nat) (w : WorkReq) (ws : List WorkReq) (hc : 1 ≤ w.count ∧ w.count ≤ 2 ^ 23) :
    (ackRequests mtu (psnSub w.psn 1) (w :: ws)).2 = false := by
  have hlast : psnLe (psnAdd w.psn (w.count - 1)) (psnSub w.psn 1) = false := by
    unfold psnLe psnSub psnAdd
    exact decide_eq_false (by omega)
  have hfirst : psnLe w.psn (psnSub w.psn 1) = false := by
    unfold psnLe psnSub
    exact decide_eq_false (by omega)
  unfold ackRequests
  simp only [hlast, hfirst, Bool.false_eq_true, if_false]
  split <;> rfl

/-- A READ at the head leaves with its responses alone (03 R107). -/
theorem ackRequests_read (mtu psn : Nat) (w : WorkReq) (ws : List WorkReq) (h : w.kind = .read) : (ackRequests mtu psn (w :: ws)).2 = false := by
  unfold ackRequests
  rw [if_pos h]

/-- A queue pair acknowledged up to `psn` at tick `now` (03 R106). -/
def Qp.acked (q : Qp) (psn now : Nat) : Qp :=
  if (ackRequests q.mtu psn q.out).2 then { q with out := (ackRequests q.mtu psn q.out).1, timerAt := now, retries := 0, rnrRetries := 0 } else q

theorem Qp.acked_of_no_progress {q : Qp} {psn : Nat} (h : (ackRequests q.mtu psn q.out).2 = false) (now : Nat) : q.acked psn now = q := by
  unfold Qp.acked
  rw [h]
  rfl

theorem Qp.acked_out (q : Qp) (psn now : Nat) : (q.acked psn now).out = (ackRequests q.mtu psn q.out).1 := by
  unfold Qp.acked
  split
  · rfl
  · next h => exact (ackRequests_of_no_progress _ _ _ (Bool.eq_false_of_not_eq_true h)).symm

theorem Qp.acked_st (q : Qp) (psn now : Nat) : (q.acked psn now).st = q.st ∧ (q.acked psn now).sent = q.sent := by
  unfold Qp.acked
  split <;> exact ⟨rfl, rfl⟩

variable (s : Dev) {ps : List DevPart} {cs : List Ctr}

theorem Dev.qpStep_ackUpTo (hp : .rdma ∈ ps) (i psn : Nat) :
    Dev.QpStep ps cs i ((s.qp i).acked psn (s.nowOn .ln)) s (s.ackUpTo i psn) := by
  unfold Dev.ackUpTo Qp.acked
  dsimp only
  split
  · exact .setQp s i _ hp
  · exact .of_step (.refl s) rfl

theorem Dev.ackUpTo_of_no_progress {i psn : Nat} (h : (ackRequests (s.qp i).mtu psn (s.qp i).out).2 = false) : s.ackUpTo i psn = s := by
  unfold Dev.ackUpTo
  dsimp only
  rw [h]
  rfl

end Acknowledged

section Requests

variable (s : Dev) {ps : List DevPart} {cs : List Ctr}

theorem Dev.step_sendRequest {xs : List Fld} (hp : sendParts ⊆ ps) (hc : sendCtrs ⊆ cs) (i cls input : Nat) (w : WorkReq) :
    Dev.Step ps xs cs s (s.sendRequest i cls input w) := by
  unfold Dev.sendRequest
  dsimp only
  split
  · exact .foldl (fun s _ => s.step_sendFrame hp hc _ _ _ _) _ _
  · exact s.step_sendFrame hp hc _ _ _ _

@[simp] theorem Dev.sendRequest_rdma (i cls input : Nat) (w : WorkReq) : (s.sendRequest i cls input w).rdma = s.rdma :=
  (s.step_sendRequest (ps := sendParts) (xs := []) (List.Subset.refl _) (List.Subset.refl _) i cls input w).rdma_eq (by decide)

/-- The parts and counters of a retransmission. -/
def resendCtrs : List Ctr := [.RD_TX_RETRANS, .RD_TX_PKTS, .SW_CELLS_ALLOC, .SW_ADMIT_WAITS]

/-- A queue pair that begins to send again at tick `now` (03 R106). -/
def Qp.resent (q : Qp) (now : Nat) : Qp := { q with timerAt := now, rnrUntil := none }

/-- What a retransmission leaves (03 R106). -/
structure Dev.Resent (ps : List DevPart) (cs : List Ctr) (i : Nat) (w : WorkReq) (a b : Dev) : Prop
    extends Dev.QpStep ps cs i ((a.qp i).resent (a.nowOn .ln)) a b where
  sent : Out.rdmaResend (qpnOf i) (psnAdd w.psn (w.got / (a.qp i).mtu)) ∈ b.out
  counted : b.ctr .RD_TX_RETRANS = (a.ctr .RD_TX_RETRANS + ((a.qp i).out.map (fun w => w.left (a.qp i).mtu)).sum) % 2 ^ 64

theorem Dev.resent_resend (hp : [.rdma, .sw, .ten] ⊆ ps) (hc : resendCtrs ⊆ cs) {i : Nat} {w : WorkReq} {ws : List WorkReq} (h : (s.qp i).out = w :: ws) :
    Dev.Resent ps cs i w s (s.resend i) := by
  have hsend : sendParts ⊆ ps := List.Subset.trans (by decide) hp
  have hset : Dev.QpStep ps cs i _ s (s.setQp i ((s.qp i).resent (s.nowOn .ln))) := .setQp s i _ (hp (by decide))
  set s₁ := s.setQp i ((s.qp i).resent (s.nowOn .ln))
  set s₂ := (s.qp i).out.foldl (fun s w => s.sendRequest i 1 15 w) s₁
  have hfold : ∀ {ps cs}, sendParts ⊆ ps → sendCtrs ⊆ cs → Dev.Step ps [] cs s₁ s₂ := fun hp hc =>
    .foldl (fun s w => s.step_sendRequest hp hc i 1 15 w) _ _
  have hsent : Dev.Step sendParts [] sendCtrs s₁ s₂ := hfold (List.Subset.refl _) (List.Subset.refl _)
  set n := ((s.qp i).out.map (fun w => w.left (s.qp i).mtu)).sum
  have heq : s.resend i = (s₂.count .RD_TX_RETRANS 0 n).emit (.rdmaResend (qpnOf i) (psnAdd w.psn (w.got / (s.qp i).mtu))) := by
    unfold Dev.resend
    simp only [h]
    rw [← h]
    rfl
  rw [heq]
  refine ⟨hset.then_step (((hfold hsend (List.Subset.trans (by decide) hc)).trans (.count s₂ .RD_TX_RETRANS 0 n (hc (by decide)))).trans (.emit _ _))
    (hsent.rdma_eq (by decide)), List.mem_append_right _ (List.mem_singleton.mpr rfl), ?_⟩
  refine (s₂.ctr_count_self .RD_TX_RETRANS 0 n).trans ?_
  rw [hsent.ctr (by decide) (by decide)]
  rfl

/-- The queue pair with one more request of the device (03 R106, R109). -/
def Qp.issued (q : Qp) (w : WorkReq) (now : Nat) : Qp :=
  { q with nPsn := psnAdd q.nPsn w.count, out := q.out ++ [w], sent := q.sent + 1, timerAt := if q.out.isEmpty then now else q.timerAt
           retries := if q.out.isEmpty then 0 else q.retries }

/-- PSNs that a request takes (03 R109, R115). -/
def requestCount (kind : WrKind) (bytes mtu : Nat) : Nat :=
  match kind with
  | .send => 1
  | _ => max 1 (ceilDiv bytes mtu)

theorem Dev.qpStep_issueRequest (hp : [.rdma, .sw, .ten] ⊆ ps) (hc : sendCtrs ⊆ cs) (i cls input : Nat) (kind : WrKind) (cmd bytes : Nat)
    (cap : Option Capsule) : Dev.QpStep ps cs i
      ((s.qp i).issued ⟨kind, cmd, (s.qp i).nPsn, requestCount kind bytes (s.qp i).mtu, bytes, 0, cap⟩ (s.nowOn .ln)) s
      (s.issueRequest i cls input kind cmd bytes cap) := by
  have hsend : sendParts ⊆ ps := List.Subset.trans (by decide) hp
  have hset : Dev.QpStep ps cs i _ s (s.setQp i ((s.qp i).issued ⟨kind, cmd, (s.qp i).nPsn, requestCount kind bytes (s.qp i).mtu, bytes, 0, cap⟩
    (s.nowOn .ln))) := .setQp s i _ (hp (by decide))
  have heq : s.issueRequest i cls input kind cmd bytes cap = (s.setQp i ((s.qp i).issued ⟨kind, cmd, (s.qp i).nPsn, requestCount kind bytes (s.qp i).mtu,
      bytes, 0, cap⟩ (s.nowOn .ln))).sendRequest i cls input ⟨kind, cmd, (s.qp i).nPsn, requestCount kind bytes (s.qp i).mtu, bytes, 0, cap⟩ := by
    unfold Dev.issueRequest
    cases kind <;> rfl
  rw [heq]
  exact hset.then_step (Dev.step_sendRequest _ hsend hc _ _ _ _) (Dev.sendRequest_rdma ..)

/-- The SEND at the head of a queue pair that is not closing goes out (03 R109, R113). -/
theorem Dev.qpStep_sendHead (hp : [.rdma, .sw, .ten] ⊆ ps) (hc : sendCtrs ⊆ cs) {i : Nat} {c : Capsule} {l : List Capsule} (h : (s.qp i).sendQ = c :: l)
    (hclosing : (s.qp i).closing = none) : Dev.QpStep ps cs i
      ({ s.qp i with sendQ := l }.issued ⟨.send, c.cmd, (s.qp i).nPsn, 1, 0, 0, some c⟩ (s.nowOn .ln)) s (s.sendHead i) ∧
      Out.rdmaSend (qpnOf i) (s.qp i).nPsn c.cid c.status c.dw0 c.dnr c.inval ∈ (s.sendHead i).out := by
  have hset : Dev.QpStep ps cs i _ s (s.setQp i { s.qp i with sendQ := l }) := .setQp s i _ (hp (by decide))
  set s₁ := s.setQp i { s.qp i with sendQ := l }
  have hissue := s₁.qpStep_issueRequest hp hc i c.cls 15 .send c.cmd 0 (some c)
  rw [hset.self] at hissue
  have heq : s.sendHead i = (s₁.issueRequest i c.cls 15 .send c.cmd 0 (some c)).emit
      (.rdmaSend (qpnOf i) (s.qp i).nPsn c.cid c.status c.dw0 c.dnr c.inval) := by
    unfold Dev.sendHead
    simp only [h]
    split
    · next hsome => exact absurd (hclosing.symm.trans hsome) (Option.some_ne_none _).symm
    · rfl
  rw [heq]
  exact ⟨(hset.trans hissue).then_step (.emit _ _) rfl, List.mem_append_right _ (List.mem_singleton.mpr rfl)⟩

end Requests

end Sys2Proof.Machine

/-!
PROOF. What responses and the device's own requests come to (03 R106-R117): the statement O18.
-/
namespace Sys2Proof.Machine

section Responses

/-- A response packet for queue pair `i` in RTS (03 R106). -/
structure Dev.Responding (s : Dev) (i : Nat) (p : RocePacket) : Prop where
  up : s.transportUp = true
  icrc : p.icrcOk = true
  qpn : p.qpn = qpnOf i
  inRange : i < qpCount
  rts : (s.qp i).st = .rts

theorem Dev.responding_of_newResponse {s : Dev} {i : Nat} {p : RocePacket} (h : s.newResponse i p = true) : s.Responding i p := by
  simp only [Dev.newResponse, Bool.and_eq_true, beq_iff_eq, decide_eq_true_eq] at h
  obtain ⟨⟨⟨⟨hup, hicrc⟩, hqpn⟩, hlt⟩, hrts⟩ := h
  exact ⟨hup, hicrc, hqpn, hlt, hrts⟩

theorem Dev.rocePacket_responding {s : Dev} {i : Nat} {p : RocePacket} (h : s.Responding i p) (hop : p.opcode ∈ opAck ++ opReadResponse) :
    s.rocePacket p = s.recvResponse i p := by
  have hqpn : p.qpn = 0x10000 + i := h.qpn
  have hi : p.qpn - 0x10000 = i := by omega
  have hresp : ¬0x20 ≤ p.opcode ∧ (p.opcode ∈ opReadResponse ∨ p.opcode ∈ opAck) := by
    revert hop
    generalize p.opcode = k
    revert k
    decide
  have hin : ¬(p.qpn < 0x10000 ∨ qpCount ≤ i) := by
    have := h.inRange
    omega
  unfold Dev.rocePacket
  simp [h.up, h.icrc, hi, hin, hresp, h.rts]

variable {s : State} {i : Nat} {p : RocePacket} {c : Instr}

/-- A step of a queue pair that also leaves every counter as its effect left it. -/
theorem Dev.QpStep.answersCounted {e d : Dev} {q : Qp} {ps : List DevPart} {cs : List Ctr} (h : Dev.QpStep ps cs i q e d)
    (he : Dev.Step ps [] cs s.dev.quiet e) (hx : exec c s = s.run (fun _ => d)) :
    Answers c s (fun t => (t.dev.qp i = q ∧ (∀ j, j ≠ i → t.dev.qp j = e.qp j) ∧ t.dev.rdma.mem = e.rdma.mem ∧
      t.dev.rdma.durable = e.rdma.durable ∧ t.dev.rdma.placed = e.rdma.placed ∧ (∀ o ∈ d.out, o ∈ t.dev.out) ∧
      Dev.OnlyChanged ps [] cs s.dev t.dev) ∧ ∀ k, k ∉ settleCtrs → ∀ n, t.dev.ctr k n = d.ctr k n) := by
  obtain ⟨t, ht, hp, hall⟩ := h.answers he hx
  refine ⟨t, ht, hp, hall, fun k hk n => ?_⟩
  obtain rfl : s.after (fun _ => d) = t := by simpa [hx, State.run] using ht
  exact State.after_ctr s _ k hk n

/-- An acknowledgement delivered by the command of its syndrome. -/
theorem exec_response {ops : List Nat} {q : Prop} [Decidable q] (hx : exec c s = s.run (fun d => if q then d.packetOf ops p else d)) (hq : q)
    (h : s.dev.newResponse i p = true) (hops : ops.contains p.opcode = true) (hsub : ops ⊆ opAck ++ opReadResponse) :
    exec c s = s.run (fun _ => s.dev.quiet.recvResponse i p) := by
  refine hx.trans (State.run_eq_of_quiet ?_)
  have hr : s.dev.quiet.Responding i p := Dev.responding_of_newResponse h
  rw [if_pos hq, Dev.packetOf, if_pos hops, Dev.rocePacket_responding hr (hsub (by simpa using hops))]

/-- Credits of a code are few. -/
theorem creditsOf_lt {n : Nat} (h : n < 32) : creditsOf n < 2 ^ 23 := by
  revert n
  decide

theorem Dev.qpStep_hostCredits (s : Dev) {ps : List DevPart} {cs : List Ctr} (hp : .rdma ∈ ps) (i msn code : Nat) : ∃ limit,
    Dev.QpStep ps cs i { s.qp i with hostCode := code, hostLimit := limit } s (s.hostCredits i msn code) ∧ (code = 31 → limit = none) ∧
      (code < 31 → msn = (s.qp i).sent % 2 ^ 24 → limit = some ((s.qp i).sent + creditsOf code)) := by
  unfold Dev.hostCredits
  extract_lets q d limit
  refine ⟨_, .setQp s i _ hp, fun h => if_pos h, fun h hmsn => ?_⟩
  have hsmall : creditsOf code < 2 ^ 23 := creditsOf_lt (by omega)
  have hd : d = creditsOf code := by
    simp only [d, hmsn, psnSub, psnAdd, q]
    omega
  have hlimit : limit = (s.qp i).sent + creditsOf code := by
    simp only [limit, hd, if_pos hsmall, q]
  rw [if_neg (by omega), hlimit]

/-- An ACK (03 R106, R113). -/
theorem ackReceive_answers (h : s.dev.newResponse i p = true) (hop : p.opcode = 0x11) (hkind : p.syndrome.toNat / 32 % 4 = 0) :
    Answers (.ackReceive p) s (fun t => (t.dev.qp i).out = (ackRequests (s.dev.qp i).mtu p.psn (s.dev.qp i).out).1 ∧
      ((s.dev.qp i).out.all (fun w => w.kind != .read && psnLe (psnAdd w.psn (w.count - 1)) p.psn) = true → (t.dev.qp i).out = []) ∧
      (t.dev.qp i).hostCode = p.syndrome.toNat % 32 ∧ (p.syndrome.toNat % 32 = 31 → (t.dev.qp i).hostLimit = none) ∧
      (p.syndrome.toNat % 32 ≠ 31 → p.msn = (s.dev.qp i).sent % 2 ^ 24 → (t.dev.qp i).hostLimit = some ((s.dev.qp i).sent + creditsOf (p.syndrome.toNat % 32))) ∧
      (t.dev.qp i).st = .rts ∧ (t.dev.qp i).sent = (s.dev.qp i).sent ∧ (∀ j, j ≠ i → t.dev.qp j = s.dev.qp j) ∧ t.dev.rdma.mem = s.dev.rdma.mem ∧
      Dev.OnlyChanged [.rdma] [] [.RD_RX_PKTS] s.dev t.dev) := by
  have hr := Dev.responding_of_newResponse h
  have hx := exec_response (c := .ackReceive p) (ops := opAck) rfl hkind h (hop ▸ by decide) (by decide)
  have hcount : Dev.QpStep [.rdma] [.RD_RX_PKTS] i _ s.dev.quiet (s.dev.quiet.count .RD_RX_PKTS) := .of_step (.count _ _ 0 1 (by decide)) rfl
  have hack := hcount.trans ((s.dev.quiet.count .RD_RX_PKTS).qpStep_ackUpTo (by decide) i p.psn)
  set d₁ := (s.dev.quiet.count .RD_RX_PKTS).ackUpTo i p.psn
  obtain ⟨limit, hcredits, hfull, hlimited⟩ := d₁.qpStep_hostCredits (ps := [.rdma]) (cs := [.RD_RX_PKTS]) (by decide) i p.msn (p.syndrome.toNat % 32)
  have heq : s.dev.quiet.recvResponse i p = d₁.hostCredits i p.msn (p.syndrome.toNat % 32) := by
    unfold Dev.recvResponse
    rw [if_pos hop]
    exact if_pos hkind
  rw [heq] at hx
  rw [hack.self] at hcredits hlimited
  refine ((hack.trans hcredits).answers (.refl _) hx).imp fun t ⟨hself, hother, hmem, _, _, _, hframe⟩ => ?_
  obtain ⟨hst, hsent⟩ := Qp.acked_st (s.dev.qp i) p.psn (s.dev.nowOn .ln)
  have hout : (t.dev.qp i).out = (ackRequests (s.dev.qp i).mtu p.psn (s.dev.qp i).out).1 := hself ▸ Qp.acked_out ..
  refine ⟨hout, fun hall => hout.trans (ackRequests_all _ _ _ hall), hself ▸ rfl, fun hc => hself ▸ hfull hc, fun hc hmsn => ?_,
    hself ▸ hst.trans hr.rts, hself ▸ hsent, hother, hmem, hframe⟩
  have hlt : p.syndrome.toNat % 32 < 31 := by omega
  rw [hself]
  exact (hlimited hlt (hmsn.trans (by rw [← hsent]; rfl))).trans (congrArg (fun n => some (n + creditsOf (p.syndrome.toNat % 32))) hsent)

/-- A device counted for a NAK whose PSN is that of the oldest request: nothing is acknowledged (03 R106). -/
theorem Dev.recvNak_oldest {s : Dev} {w : WorkReq} {ws : List WorkReq} (hout : (s.qp i).out = w :: ws) (hpsn : p.psn = w.psn)
    (hcount : 1 ≤ w.count ∧ w.count ≤ 2 ^ 23) : (s.count .RD_NAK_RECV).ackUpTo i (psnSub p.psn 1) = s.count .RD_NAK_RECV := by
  refine Dev.ackUpTo_of_no_progress _ ?_
  have h : ((s.count .RD_NAK_RECV).qp i).out = w :: ws := hout
  rw [h, hpsn]
  exact ackRequests_before _ _ _ hcount

/-- A NAK other than RNR (03 R117). -/
theorem Dev.recvResponse_nak {s : Dev} (hop : p.opcode = 0x11) (hkind : 2 ≤ p.syndrome.toNat / 32 % 4) : s.recvResponse i p = s.recvNak i p := by
  unfold Dev.recvResponse
  dsimp only
  rw [if_pos hop, if_neg (by omega), if_neg (by omega)]

/-- A NAK for a sequence error sends again (03 R106). -/
theorem nakSequence_answers {w : WorkReq} {ws : List WorkReq} (h : s.dev.newResponse i p = true) (hop : p.opcode = 0x11)
    (hkind : 2 ≤ p.syndrome.toNat / 32 % 4) (hcode : p.syndrome.toNat % 32 = 0) (hout : (s.dev.qp i).out = w :: ws) (hpsn : p.psn = w.psn)
    (_ : w.psn < 2 ^ 24) (hcount : 1 ≤ w.count ∧ w.count ≤ 2 ^ 23) :
    Answers (.nakReceive p) s (fun t => Out.rdmaResend p.qpn (psnAdd w.psn (w.got / (s.dev.qp i).mtu)) ∈ t.dev.out ∧ (t.dev.qp i).out = (s.dev.qp i).out ∧
      (t.dev.qp i).timerAt = s.dev.nowOn .ln ∧ (t.dev.qp i).st = .rts ∧
      t.dev.ctr .RD_TX_RETRANS = (s.dev.ctr .RD_TX_RETRANS + ((s.dev.qp i).out.map (fun w => w.left (s.dev.qp i).mtu)).sum) % 2 ^ 64 ∧
      t.dev.ctr .RD_NAK_RECV = (s.dev.ctr .RD_NAK_RECV + 1) % 2 ^ 64 ∧ (∀ j, j ≠ i → t.dev.qp j = s.dev.qp j) ∧ t.dev.rdma.mem = s.dev.rdma.mem ∧
      Dev.OnlyChanged [.rdma, .sw, .ten] [] [.RD_NAK_RECV, .RD_TX_RETRANS, .RD_TX_PKTS, .SW_CELLS_ALLOC, .SW_ADMIT_WAITS] s.dev t.dev) := by
  have hr := Dev.responding_of_newResponse h
  have hx := exec_response (c := .nakReceive p) (ops := opAck) rfl hkind h (hop ▸ by decide) (by decide)
  set e := s.dev.quiet.count .RD_NAK_RECV
  have heq : s.dev.quiet.recvResponse i p = e.resend i := by
    rw [Dev.recvResponse_nak hop hkind]
    unfold Dev.recvNak
    dsimp only
    rw [Dev.recvNak_oldest (s := s.dev.quiet) hout hpsn hcount]
    exact if_pos hcode
  rw [heq] at hx
  have he : Dev.Step [.rdma, .sw, .ten] [] (.RD_NAK_RECV :: resendCtrs) s.dev.quiet e := .count _ _ 0 1 (by decide)
  have hsent : Dev.Resent [.rdma, .sw, .ten] (.RD_NAK_RECV :: resendCtrs) i w e (e.resend i) :=
    e.resent_resend (List.Subset.refl _) (List.subset_cons_self _ _) hout
  have hless : Dev.Resent [.rdma, .sw, .ten] resendCtrs i w e (e.resend i) := e.resent_resend (List.Subset.refl _) (List.Subset.refl _) hout
  refine (hsent.answersCounted he hx).imp fun t ⟨⟨hself, hother, hmem, _, _, houts, hframe⟩, hctr⟩ => ?_
  have hmsg := houts _ hsent.sent
  rw [hself]
  refine ⟨hr.qpn ▸ hmsg, rfl, rfl, hr.rts, ?_, ?_, hother, hmem, hframe⟩
  · rw [hctr .RD_TX_RETRANS (by decide), hsent.counted, Dev.ctr_count_other _ _ (.inl (by decide))]
    rfl
  · rw [hctr .RD_NAK_RECV (by decide), hless.ctr (by decide) (by decide), Dev.ctr_count_self]
    rfl

/-- A command failed by its host's NAK (03 R117, R118) changes no queue pair. -/
theorem Dev.step_hostNaked (s : Dev) (id : Nat) :
    Dev.Step [.nvme, .ldg, .ten, .evr] [] [.FE_CMD_ERR, .LDG_REC_ABANDONED] s (s.hostNaked id) := by
  have hcs : ∀ {a b : Dev}, Dev.CancelStep a b → Dev.Step [.nvme, .ldg, .ten, .evr] [] [.FE_CMD_ERR, .LDG_REC_ABANDONED] a b := fun h =>
    h.step.mono (List.Subset.refl _) (List.Subset.refl _) (by decide)
  have hsweep : ∀ a : Dev, Dev.Step [.nvme, .ldg, .ten, .evr] [] [.FE_CMD_ERR, .LDG_REC_ABANDONED] a (a.sweep id) := fun a => by
    unfold Dev.sweep
    split
    · exact .ite (fun _ => .nvme a _ (by decide)) (fun _ => .refl a)
    · exact .refl a
  unfold Dev.hostNaked
  split
  · exact .refl s
  · split
    · exact .refl s
    · extract_lets s₁ c₁ s₂ s₃ s₄
      have h₁ := hcs (s.cancelStep_abandonRecord ‹Cmd›)
      have hset : Dev.Step [.nvme, .ldg, .ten, .evr] [] [.FE_CMD_ERR, .LDG_REC_ABANDONED] s ((s₁.setCmd c₁).count .FE_CMD_ERR) :=
        (h₁.trans (.nvme s₁ _ (by decide))).trans (.count (s₁.setCmd c₁) _ 0 1 (by decide))
      have h₃ : Dev.Step [.nvme, .ldg, .ten, .evr] [] [.FE_CMD_ERR, .LDG_REC_ABANDONED] s s₃ :=
        ((hset.trans (hcs (Dev.cancelStep_setPier _ _ _))).trans (hcs (Dev.cancelStep_commandOver _ _ _))).trans (hcs (Dev.cancelStep_sampleEnd _ _ _))
      refine .trans ?_ (hsweep _)
      dsimp only [s₄]
      split
      · exact (h₃.trans (.nvme s₃ _ (by decide))).trans (Dev.step_asyncEvent _ (by decide) _ _ _ _)
      · exact h₃

/-- A NAK for remote access (03 R117). -/
theorem nakAccess_answers {w : WorkReq} {ws : List WorkReq} {x : Cmd} (h : s.dev.newResponse i p = true) (hop : p.opcode = 0x11)
    (hkind : 2 ≤ p.syndrome.toNat / 32 % 4) (hcode : p.syndrome.toNat % 32 = 2) (hout : (s.dev.qp i).out = w :: ws) (hpsn : p.psn = w.psn)
    (_ : w.psn < 2 ^ 24) (hcount : 1 ≤ w.count ∧ w.count ≤ 2 ^ 23) (hcmd : s.dev.cmd w.cmd = some x) :
    Answers (.nakReceive p) s (fun t => (t.dev.qp i).st = .error ∧ (s.hears .ln → s.told t .ln 0x184 (le 4 p.qpn ++ le 2 x.cid)) ∧
      t.dev.ctr .RD_NAK_RECV = (s.dev.ctr .RD_NAK_RECV + 1) % 2 ^ 64 ∧ t.dev.rdma.mem = s.dev.rdma.mem ∧ t.dev.rdma.wins = s.dev.rdma.wins ∧
      Dev.OnlyChanged [.rdma, .nvme, .store, .ldg, .ten, .evr, .sw] [] [.RD_NAK_RECV, .FE_CMD_ERR, .LDG_REC_ABANDONED] s.dev t.dev) := by
  have hr := Dev.responding_of_newResponse h
  have hx := exec_response (c := .nakReceive p) (ops := opAck) rfl hkind h (hop ▸ by decide) (by decide)
  set e := s.dev.quiet.count .RD_NAK_RECV
  set n := e.event .ln 0x184 (le 4 (qpnOf i) ++ le 2 x.cid)
  have hfirst : (w :: ws).find? (fun v => psnLe v.psn p.psn && psnLe p.psn (psnAdd v.psn (v.count - 1))) = some w := by
    have hstart : psnLe w.psn w.psn = true := by
      unfold psnLe psnSub
      exact decide_eq_true (by omega)
    have hend : psnLe w.psn (psnAdd w.psn (w.count - 1)) = true := by
      unfold psnLe psnSub psnAdd
      exact decide_eq_true (by omega)
    rw [hpsn, List.find?_cons, hstart, hend]
    rfl
  have heq : s.dev.quiet.recvResponse i p = (n.hostNaked w.cmd).qpError i := by
    have hne : ¬p.syndrome.toNat % 32 = nakSeq := by rw [hcode]; decide
    have hout' : (e.qp i).out = w :: ws := hout
    have hacc : p.syndrome.toNat % 32 = nakAccess := hcode
    have hcmd' : (s.dev.quiet.count .RD_NAK_RECV).cmd w.cmd = some x := hcmd
    rw [Dev.recvResponse_nak hop hkind]
    unfold Dev.recvNak
    dsimp only
    rw [Dev.recvNak_oldest (s := s.dev.quiet) hout hpsn hcount, if_neg hne, hout', hfirst]
    simp only [Option.orElse_some]
    rw [if_pos hacc, hcmd']
    rfl
  rw [heq] at hx
  have hnaked := n.step_hostNaked w.cmd
  have he : Dev.Step [.rdma, .nvme, .store, .ldg, .ten, .evr, .sw] [] [.RD_NAK_RECV, .FE_CMD_ERR, .LDG_REC_ABANDONED] s.dev.quiet (n.hostNaked w.cmd) :=
    ((Dev.Step.count s.dev.quiet .RD_NAK_RECV 0 1 (by decide)).trans (.event e _ _ _ _)).trans (hnaked.mono (by decide) (List.Subset.refl _) (by decide))
  have hrdma : (n.hostNaked w.cmd).rdma = s.dev.rdma := hnaked.rdma_eq (by decide)
  have hlive : ((n.hostNaked w.cmd).qp i).st.live := .inl ((congrArg (fun r => (r.qps.get {} i).st) hrdma).trans hr.rts)
  have herr := (n.hostNaked w.cmd).qpStep_qpError (ps := [.rdma, .nvme, .store, .ldg, .ten, .evr, .sw])
    (cs := [.RD_NAK_RECV, .FE_CMD_ERR, .LDG_REC_ABANDONED]) (by decide) (by decide) hlive
  have hless := (n.hostNaked w.cmd).qpStep_qpError (ps := [.rdma, .sw]) (cs := []) (by decide) (by decide) hlive
  refine .of_run hx ?_
  set t := s.after _
  have hr' : t.dev.rdma = ((n.hostNaked w.cmd).qpError i).rdma := State.after_rdma ..
  have hq : t.dev.qp i = ((n.hostNaked w.cmd).qpError i).qp i := congrArg (fun r => r.qps.get {} i) hr'
  rw [hq, herr.self, hr']
  refine ⟨rfl, hr.qpn ▸ State.told_of_prefix (e := e) (Nat.zero_lt_succ _) (hnaked.raised.trans herr.raised) rfl rfl, ?_,
    herr.mem.trans (congrArg Rdma.mem hrdma), herr.wins.trans (congrArg Rdma.wins hrdma), (he.trans herr.toStep).after⟩
  rw [State.after_ctr s _ .RD_NAK_RECV (by decide), hless.ctr (by decide) (by decide), hnaked.ctr (by decide) (by decide)]
  exact s.dev.quiet.ctr_count_self .RD_NAK_RECV 0 1

/-- An RNR NAK within its retries (03 R108). -/
theorem rnrNak_answers (h : s.dev.newResponse i p = true) (hop : p.opcode = 0x11) (hkind : p.syndrome.toNat / 32 % 4 = 1)
    (hout : (s.dev.qp i).out = []) (hretry : s.dev.fld .RD_CFG_RNR_RETRY = 7 ∨ (s.dev.qp i).rnrRetries + 1 < s.dev.fld .RD_CFG_RNR_RETRY) :
    Answers (.rnrNakReceive p) s (fun t => (t.dev.qp i).rnrUntil = some (s.dev.nowOn .ln + rnrTime (p.syndrome.toNat % 32)) ∧
      (t.dev.qp i).rnrRetries = (s.dev.qp i).rnrRetries + 1 ∧ (t.dev.qp i).st = .rts ∧ (t.dev.qp i).sendQ = (s.dev.qp i).sendQ ∧
      t.dev.ctr .RD_RNR_RECV = (s.dev.ctr .RD_RNR_RECV + 1) % 2 ^ 64 ∧ (∀ j, j ≠ i → t.dev.qp j = s.dev.qp j) ∧ t.dev.rdma.mem = s.dev.rdma.mem ∧
      Dev.OnlyChanged [.rdma] [] [.RD_RNR_RECV] s.dev t.dev) := by
  have hr := Dev.responding_of_newResponse h
  have hx := exec_response (c := .rnrNakReceive p) (ops := opAck) rfl hkind h (hop ▸ by decide) (by decide)
  set e := s.dev.quiet.count .RD_RNR_RECV
  set q := { s.dev.qp i with rnrRetries := (s.dev.qp i).rnrRetries + 1, rnrUntil := some (s.dev.nowOn .ln + rnrTime (p.syndrome.toNat % 32)) }
  have hout' : (e.qp i).out = [] := hout
  have hack : e.ackUpTo i (psnSub p.psn 1) = e := e.ackUpTo_of_no_progress (by rw [hout']; rfl)
  have hwait : ¬(e.fld .RD_CFG_RNR_RETRY ≠ 7 ∧ max 1 (e.fld .RD_CFG_RNR_RETRY) ≤ (e.qp i).rnrRetries + 1) := by
    have hfld : e.fld .RD_CFG_RNR_RETRY = s.dev.fld .RD_CFG_RNR_RETRY := rfl
    have hqp : (e.qp i).rnrRetries = (s.dev.qp i).rnrRetries := rfl
    rw [hfld, hqp]
    omega
  have heq : s.dev.quiet.recvResponse i p = e.setQp i q := by
    unfold Dev.recvResponse
    dsimp only
    rw [if_pos hop, if_neg (by omega), if_pos hkind]
    unfold Dev.recvRnr
    dsimp only
    rw [hack, if_neg hwait]
    rfl
  rw [heq] at hx
  have he : Dev.Step [.rdma] [] [.RD_RNR_RECV] s.dev.quiet e := .count _ _ 0 1 (by decide)
  have hset := Dev.QpStep.setQp (ps := [.rdma]) (cs := [.RD_RNR_RECV]) e i q (by decide)
  refine (hset.answersCounted he hx).imp fun t ⟨⟨hself, hother, hmem, _, _, _, hframe⟩, hctr⟩ => ?_
  rw [hself]
  exact ⟨rfl, rfl, hr.rts, rfl, (hctr .RD_RNR_RECV (by decide) 0).trans (s.dev.quiet.ctr_count_self .RD_RNR_RECV 0 1), hother, hmem, hframe⟩

/-- Data that are still short of a command's need wait for more (04 R189). -/
theorem Dev.dataCame_of_short {s : Dev} {id : Nat} {x : Cmd} (h : s.cmd id = some x) (hneed : x.data.length < x.need) : s.dataCame id = s := by
  unfold Dev.dataCame
  rw [h]
  dsimp only
  exact if_pos (by simp [hneed])

/-- The last packet of a READ's response ends the READ (03 R107). -/
theorem Dev.qpStep_recvReadResponse {s : Dev} {w : WorkReq} {ws : List WorkReq} {x : Cmd} (hout : (s.qp i).out = w :: ws) (hkind : w.kind = .read)
    (hpsn : p.psn = psnAdd w.psn (w.got / (s.qp i).mtu)) (hlen : p.data.length = w.bytes - w.got)
    (hfits : 0 < p.data.length ∧ p.data.length ≤ (s.qp i).mtu) (hcmd : s.cmd w.cmd = some x) (hst : x.status = none)
    (hneed : x.data.length + p.data.length < x.need) :
    Dev.QpStep [.rdma, .nvme, .sw] [.RD_RX_PKTS] i { s.qp i with out := ws, timerAt := s.nowOn .ln, retries := 0, rnrRetries := 0 } s
      (s.recvReadResponse i p) ∧ (s.recvReadResponse i p).cmd w.cmd = some { x with data := x.data ++ p.data } := by
  set e := s.count .RD_RX_PKTS
  set q := { s.qp i with out := ws, timerAt := s.nowOn .ln, retries := 0, rnrRetries := 0 }
  set y := { x with data := x.data ++ p.data }
  set d := ((e.setQp i q).setCmd y).releaseReads (fun a r => a == i && r == w.psn)
  have hid : x.id = w.cmd := s.cmd_id hcmd
  have hcount : Dev.QpStep [.rdma, .nvme, .sw] [.RD_RX_PKTS] i _ s e := .of_step (.count s _ 0 1 (by decide)) rfl
  have hset := hcount.trans (.setQp e i q (by decide))
  have hsetCmd := hset.then_step (.nvme _ ((e.setQp i q).setCmd y).nvme (by decide)) rfl
  have hread := hsetCmd.then_step (Dev.step_releaseReads _ (by decide) (fun a r => a == i && r == w.psn)) (Dev.releaseReads_rdma ..)
  have hnvme : d.nvme = ((e.setQp i q).setCmd y).nvme :=
    (Dev.step_releaseReads (ps := [.sw]) (xs := []) (cs := []) _ (by decide) _).nvme_eq (by decide)
  have hy : d.cmd w.cmd = some y := by
    have hself : ((e.setQp i q).setCmd y).cmd y.id = some y := Dev.cmd_setCmd_self _ ((congrArg _ hid).trans hcmd)
    exact (congrArg (fun n => n.cmds.find? (fun c => c.id == w.cmd)) hnvme).trans (hid ▸ hself)
  have hout' : (e.qp i).out = w :: ws := hout
  have hack : e.ackUpTo i (psnSub p.psn 1) = e := e.ackUpTo_of_no_progress (by rw [hout']; exact ackRequests_read _ _ _ _ hkind)
  have hn : min (e.qp i).mtu (w.bytes - w.got) = p.data.length := by
    have hmtu : p.data.length ≤ (e.qp i).mtu := hfits.2
    omega
  have hdone : (w.got + p.data.length == w.bytes) = true := beq_iff_eq.mpr (by omega)
  have hgood : ¬(w.kind ≠ .read ∨ p.psn ≠ psnAdd w.psn (w.got / (e.qp i).mtu) ∨ p.data.length ≠ p.data.length) := by
    have hpsn' : p.psn = psnAdd w.psn (w.got / (e.qp i).mtu) := hpsn
    simp [hkind, ← hpsn']
  have heq : s.recvReadResponse i p = d.dataCame w.cmd := by
    unfold Dev.recvReadResponse
    dsimp only
    rw [hack, hout']
    dsimp only
    rw [hn, if_neg hgood, hdone]
    rw [if_pos rfl]
    split
    · next c hc =>
      obtain rfl : x = c := Option.some.inj (hcmd.symm.trans hc)
      rw [if_pos (Option.isNone_iff_eq_none.mpr hst)]
      rfl
    · next hc => exact absurd (hcmd.symm.trans hc) (Option.some_ne_none x)
  rw [heq, Dev.dataCame_of_short hy (by simpa [y] using hneed)]
  exact ⟨hread, hy⟩

/-- A READ's response (03 R107). -/
theorem readResponse_answers {w : WorkReq} {ws : List WorkReq} {x : Cmd} (h : s.dev.newResponse i p = true)
    (hop : (0x0D : Nat) ≤ p.opcode ∧ p.opcode ≤ 0x10) (hout : (s.dev.qp i).out = w :: ws) (hkind : w.kind = .read)
    (hpsn : p.psn = psnAdd w.psn (w.got / (s.dev.qp i).mtu)) (hlen : p.data.length = w.bytes - w.got)
    (hfits : 0 < p.data.length ∧ p.data.length ≤ (s.dev.qp i).mtu) (hcmd : s.dev.cmd w.cmd = some x) (hst : x.status = none)
    (hneed : x.data.length + p.data.length < x.need) :
    Answers (.readResponseReceive p) s (fun t => (t.dev.qp i).out = ws ∧ (∃ c', t.dev.cmd w.cmd = some c' ∧ c'.data = x.data ++ p.data) ∧
      (t.dev.qp i).st = .rts ∧ (∀ j, j ≠ i → t.dev.qp j = s.dev.qp j) ∧ t.dev.rdma.mem = s.dev.rdma.mem ∧
      Dev.OnlyChanged [.rdma, .nvme, .sw] [] [.RD_RX_PKTS] s.dev t.dev) := by
  have hr := Dev.responding_of_newResponse h
  have hresp : opReadResponse.contains p.opcode = true ∧ p.opcode ≠ 0x11 := by
    obtain ⟨hlo, hhi⟩ := hop
    generalize p.opcode = k at hlo hhi ⊢
    interval_cases k <;> decide
  have hx := exec_response (c := .readResponseReceive p) (ops := opReadResponse) (q := True)
    (congrArg s.run (funext fun d => (if_pos trivial).symm)) trivial h hresp.1 (by decide)
  have heq : s.dev.quiet.recvResponse i p = s.dev.quiet.recvReadResponse i p := if_neg hresp.2
  rw [heq] at hx
  obtain ⟨hstep, hdata⟩ := Dev.qpStep_recvReadResponse (s := s.dev.quiet) hout hkind hpsn hlen hfits hcmd hst hneed
  obtain ⟨t, ht, hp, hself, hother, hmem, _, _, _, hframe⟩ := hstep.answers (.refl _) hx
  obtain rfl : s.after (fun _ => s.dev.quiet.recvReadResponse i p) = t := by simpa [hx, State.run] using ht
  have hfound := (congrArg (fun n => n.cmds.find? (fun c => c.id == w.cmd)) (State.after_nvme s (fun _ => s.dev.quiet.recvReadResponse i p))).trans hdata
  exact ⟨_, ht, hp, hself ▸ rfl, ⟨_, hfound, rfl⟩, hself ▸ hr.rts, hother, hmem, hframe⟩

end Responses

section Timers

variable {s : State} {i : Nat}

/-- A local ACK timeout within its retries (03 R106). -/
theorem localAckTimeout_answers {w : WorkReq} {ws : List WorkReq} (hup : s.dev.transportUp = true)
    (hst : (s.dev.qp i).st = .rts ∨ (s.dev.qp i).st = .draining) (hout : (s.dev.qp i).out = w :: ws) (hrnr : (s.dev.qp i).rnrUntil = none)
    (hover : s.dev.expired .ln (s.dev.qp i).timerAt s.dev.ackTimeout = true) (hretry : (s.dev.qp i).retries < s.dev.fld .RD_CFG_RETRY_CNT) :
    Answers (.localAckTimeout i) s (fun t => (t.dev.qp i).retries = (s.dev.qp i).retries + 1 ∧ (t.dev.qp i).timerAt = s.dev.nowOn .ln ∧
      (t.dev.qp i).out = (s.dev.qp i).out ∧ Out.rdmaResend (qpnOf i) (psnAdd w.psn (w.got / (s.dev.qp i).mtu)) ∈ t.dev.out ∧
      t.dev.ctr .RD_ACK_TIMEOUTS = (s.dev.ctr .RD_ACK_TIMEOUTS + 1) % 2 ^ 64 ∧ (∀ j, j ≠ i → t.dev.qp j = s.dev.qp j) ∧ t.dev.rdma.mem = s.dev.rdma.mem ∧
      Dev.OnlyChanged [.rdma, .sw, .ten] [] (.RD_ACK_TIMEOUTS :: resendCtrs) s.dev t.dev) := by
  set e := s.dev.quiet.count .RD_ACK_TIMEOUTS
  set q := { s.dev.qp i with retries := (s.dev.qp i).retries + 1 }
  set e₁ := e.setQp i q
  have hx : exec (.localAckTimeout i) s = s.run (fun _ => e₁.resend i) :=
    State.runIf_eq_of_quiet (by simp [hup, hst, hout, hrnr, hover]) (if_neg (Nat.not_le.mpr hretry))
  have hset := Dev.QpStep.setQp (ps := [.rdma, .sw, .ten]) (cs := .RD_ACK_TIMEOUTS :: resendCtrs) e i q (by decide)
  have hout' : (e₁.qp i).out = w :: ws := (congrArg Qp.out hset.self).trans hout
  have hsent := e₁.resent_resend (ps := [.rdma, .sw, .ten]) (cs := .RD_ACK_TIMEOUTS :: resendCtrs) (List.Subset.refl _) (List.subset_cons_self _ _) hout'
  have hless := e₁.resent_resend (ps := [.rdma, .sw, .ten]) (cs := resendCtrs) (List.Subset.refl _) (List.Subset.refl _) hout'
  have he : Dev.Step [.rdma, .sw, .ten] [] (.RD_ACK_TIMEOUTS :: resendCtrs) s.dev.quiet e := .count _ _ 0 1 (by decide)
  have hmsg := hsent.sent
  have hqp := hsent.toQpStep
  rw [hset.self] at hmsg hqp
  refine ((hset.trans hqp).answersCounted he hx).imp fun t ⟨⟨hself, hother, hmem, _, _, houts, hframe⟩, hctr⟩ => ?_
  rw [hself]
  refine ⟨rfl, rfl, rfl, houts _ hmsg, ?_, hother, hmem, hframe⟩
  rw [hctr .RD_ACK_TIMEOUTS (by decide), hless.ctr (by decide) (by decide)]
  exact s.dev.quiet.ctr_count_self .RD_ACK_TIMEOUTS 0 1

/-- A local ACK timeout past its retries (03 R106). -/
theorem localAckTimeout_error (hup : s.dev.transportUp = true) (hst : (s.dev.qp i).st = .rts ∨ (s.dev.qp i).st = .draining)
    (hrnr : (s.dev.qp i).rnrUntil = none) (hout : (s.dev.qp i).out ≠ []) (hover : s.dev.expired .ln (s.dev.qp i).timerAt s.dev.ackTimeout = true)
    (hretry : s.dev.fld .RD_CFG_RETRY_CNT ≤ (s.dev.qp i).retries) :
    Answers (.localAckTimeout i) s (fun t => (t.dev.qp i).st = .error ∧ (s.hears .ln → s.told t .ln 0x181 (le 4 (qpnOf i))) ∧
      (∀ j, j ≠ i → t.dev.qp j = s.dev.qp j) ∧ t.dev.rdma.mem = s.dev.rdma.mem ∧ Dev.OnlyChanged [.rdma, .sw] [] [.RD_ACK_TIMEOUTS] s.dev t.dev) := by
  set e := s.dev.quiet.count .RD_ACK_TIMEOUTS
  set n := e.event .ln 0x181 (le 4 (qpnOf i))
  have hx : exec (.localAckTimeout i) s = s.run (fun _ => n.qpError i) :=
    State.runIf_eq_of_quiet (by simp [hup, hst, hout, hrnr, hover]) (if_pos hretry)
  have hlive : (n.qp i).st.live := hst.imp_right .inl
  have herr := n.qpStep_qpError (ps := [.rdma, .sw]) (cs := [.RD_ACK_TIMEOUTS]) (by decide) (by decide) hlive
  have he : Dev.Step [.rdma, .sw] [] [.RD_ACK_TIMEOUTS] s.dev.quiet n := (Dev.Step.count _ _ 0 1 (by decide)).trans (.event e _ _ _ _)
  refine .of_run hx ?_
  set t := s.after _
  have hr : t.dev.rdma = (n.qpError i).rdma := State.after_rdma ..
  have hq : ∀ j, t.dev.qp j = (n.qpError i).qp j := fun j => congrArg (fun r => r.qps.get {} j) hr
  rw [hq i, herr.self, hr]
  exact ⟨rfl, State.told_of_prefix (e := e) (Nat.zero_lt_succ _) herr.raised rfl rfl, fun j hj => (hq j).trans (herr.other j hj), herr.mem,
    (he.trans herr.toStep).after⟩

/-- The end of an RNR wait (03 R108). -/
theorem rnrWaitEnd_answers {u : Nat} {w : WorkReq} {ws : List WorkReq} (hup : s.dev.transportUp = true)
    (hst : (s.dev.qp i).st = .rts ∨ (s.dev.qp i).st = .draining) (hrnr : (s.dev.qp i).rnrUntil = some u) (hu : u ≤ s.dev.nowOn .ln)
    (hout : (s.dev.qp i).out = w :: ws) :
    Answers (.rnrWaitEnd i) s (fun t => (t.dev.qp i).rnrUntil = none ∧ (t.dev.qp i).out = (s.dev.qp i).out ∧
      Out.rdmaResend (qpnOf i) (psnAdd w.psn (w.got / (s.dev.qp i).mtu)) ∈ t.dev.out ∧ (∀ j, j ≠ i → t.dev.qp j = s.dev.qp j) ∧
      Dev.OnlyChanged [.rdma, .sw, .ten] [] resendCtrs s.dev t.dev) := by
  have hx : exec (.rnrWaitEnd i) s = s.run (fun _ => s.dev.quiet.resend i) := State.runIf_eq_of_quiet (by simp [hup, hst, hrnr, hu]) rfl
  have hsent := s.dev.quiet.resent_resend (ps := [.rdma, .sw, .ten]) (cs := resendCtrs) (List.Subset.refl _) (List.Subset.refl _) hout
  refine (hsent.answers (.refl _) hx).imp fun t ⟨hself, hother, _, _, _, houts, hframe⟩ => ?_
  rw [hself]
  exact ⟨rfl, rfl, houts _ hsent.sent, hother, hframe⟩

/-- A coalesced ACK goes out (03 R105). -/
theorem ackCoalesceTimeout_answers {u : Nat} (hup : s.dev.transportUp = true) (hst : (s.dev.qp i).st = .rts) (hack : (s.dev.qp i).ackAt = some u)
    (hu : u + 2000 ≤ s.dev.nowOn .ln) :
    Answers (.ackCoalesceTimeout i) s (fun t => (t.dev.qp i).ackAt = none ∧ (t.dev.qp i).unacked = 0 ∧ (t.dev.qp i).ePsn = (s.dev.qp i).ePsn ∧
      (∃ k, Out.rdmaAck (qpnOf i) (s.dev.ackPsn i) ((s.dev.qp i).msn % 2 ^ 24) k ∈ t.dev.out) ∧ (∀ j, j ≠ i → t.dev.qp j = s.dev.qp j) ∧
      Dev.OnlyChanged [.rdma, .sw, .ten] [] sendCtrs s.dev t.dev) := by
  have hx : exec (.ackCoalesceTimeout i) s = s.run (fun _ => s.dev.quiet.sendAck i (s.dev.ackPsn i)) :=
    State.runIf_eq_of_quiet (by simp [hup, hst, hack, hu, us]) rfl
  obtain ⟨code, limit, hsent, hmsg⟩ := s.dev.quiet.qpStep_sendAck (ps := [.rdma, .sw, .ten]) (cs := sendCtrs) (List.Subset.refl _) (List.Subset.refl _) i
    (s.dev.ackPsn i)
  refine (hsent.answers (.refl _) hx).imp fun t ⟨hself, hother, _, _, _, houts, hframe⟩ => ?_
  rw [hself]
  exact ⟨rfl, rfl, rfl, ⟨code, houts _ hmsg⟩, hother, hframe⟩

end Timers

end Sys2Proof.Machine

/-!
PROOF. The device's own requests (03 R109, R113, R115, R116): READs, WRITEs and SENDs issued, and the settlement of O18.
-/
namespace Sys2Proof.Machine

section Issue

variable {s : State} {i : Nat}

/-- Cells reserved for a READ's responses change the pool alone (06 R256). -/
theorem Dev.step_reserveRead {s d : Dev} {ps : List DevPart} {cs : List Ctr} (hp : .sw ∈ ps) (hc : .SW_CELLS_ALLOC ∈ cs) {i psn a b k n mtu : Nat}
    (h : s.reserveRead i psn a b k n mtu = some d) : Dev.Step ps [] cs s d := by
  unfold Dev.reserveRead at h
  dsimp only at h
  split at h
  · obtain rfl := Option.some.inj h
    exact (Dev.Step.sw s _ hp).trans (.afterAlloc _ hp hc _ _ _ _)
  · exact absurd h (Option.some_ne_none d).symm

/-- Whether the cells can be reserved does not hang on what was sent out or raised. -/
theorem Dev.reserveRead_quiet (s : Dev) (i psn a b k n mtu : Nat) : (s.quiet.reserveRead i psn a b k n mtu).isSome = (s.reserveRead i psn a b k n mtu).isSome := by
  unfold Dev.reserveRead
  by_cases h : (!s.outputUnavailable b && fitsPool (s.alphaExp k) (s.voqOcc a b k) (readCells n mtu) s.poolFree) = true
  · have hquiet : (!s.quiet.outputUnavailable b && fitsPool (s.quiet.alphaExp k) (s.quiet.voqOcc a b k) (readCells n mtu) s.quiet.poolFree) = true := h
    dsimp only
    rw [if_pos h, if_pos hquiet]
    rfl
  · have hquiet : ¬(!s.quiet.outputUnavailable b && fitsPool (s.quiet.alphaExp k) (s.quiet.voqOcc a b k) (readCells n mtu) s.quiet.poolFree) = true := h
    dsimp only
    rw [if_neg h, if_neg hquiet]

theorem Dev.step_capCharge (s : Dev) {ps : List DevPart} {xs : List Fld} {cs : List Ctr} (hp : .nvme ∈ ps) (n : Nat) :
    Dev.Step ps xs cs s (s.capCharge n) ∧ (s.capCharge n).rdma = s.rdma ∧ ∀ k, (s.capCharge n).cmd k = s.cmd k := by
  unfold Dev.capCharge
  split
  · exact ⟨.refl s, rfl, fun _ => rfl⟩
  · exact ⟨.nvme s _ hp, rfl, fun _ => rfl⟩

/-- A command's queue pair works (03 R115). -/
theorem Dev.cmdQp_eq {s : Dev} {c : Cmd} (h : s.cmdQp c = some i) : (s.qp i).st = .rts := by
  unfold Dev.cmdQp at h
  split at h
  · split at h
    · next hq => exact Option.some.inj h ▸ hq.1
    · exact absurd h (Option.some_ne_none i).symm
  · exact absurd h (Option.some_ne_none i).symm

/-- The parts and counters of a command's request. -/
def issueParts : List DevPart := [.rdma, .nvme, .sw, .ten]

/-- What a command answers that issues a request for the command `k`, now `y`, from a device `e` that has the command (03 R115). -/
theorem issue_answers {c : Instr} {k : Nat} {e : Dev} {x y : Cmd} {kind : WrKind} {n cls input : Nat} {o : Out} (he : Dev.Step issueParts [] sendCtrs s.dev.quiet e)
    (hr : e.rdma = s.dev.rdma) (hn : e.cmd k = some x) (hid : y.id = k)
    (hx : exec c s = s.run (fun _ => (((e.setCmd y).capCharge n).issueRequest i cls input kind k n none).emit o)) :
    Answers c s (fun t => t.dev.cmd k = some y ∧
      (t.dev.qp i).nPsn = psnAdd (s.dev.qp i).nPsn (requestCount kind n (s.dev.qp i).mtu) ∧
      (t.dev.qp i).out = (s.dev.qp i).out ++ [⟨kind, k, (s.dev.qp i).nPsn, requestCount kind n (s.dev.qp i).mtu, n, 0, none⟩] ∧
      o ∈ t.dev.out ∧ (∀ j, j ≠ i → t.dev.qp j = s.dev.qp j) ∧ t.dev.rdma.mem = s.dev.rdma.mem ∧
      Dev.OnlyChanged issueParts [] sendCtrs s.dev t.dev) := by
  obtain ⟨hcap, hcapRdma, hcapCmd⟩ := (e.setCmd y).step_capCharge (ps := issueParts) (xs := []) (cs := sendCtrs) (by decide) n
  set e₁ := (e.setCmd y).capCharge n
  have hqp : ∀ j, e₁.qp j = s.dev.qp j := fun j => congrArg (fun r => r.qps.get {} j) (hcapRdma.trans hr)
  have hissue := e₁.qpStep_issueRequest (ps := [.rdma, .sw, .ten]) (cs := sendCtrs) (List.Subset.refl _) (List.Subset.refl _) i cls input kind k n none
  have hall := (hissue.then_step (.emit _ o) rfl).mono (ps' := issueParts) (by decide) (List.Subset.refl _)
  rw [hqp i] at hall
  have hcmd : (e₁.issueRequest i cls input kind k n none).cmd k = some y := by
    have hself : (e.setCmd y).cmd k = some y := hid ▸ e.cmd_setCmd_self (hid.symm ▸ hn)
    rw [Dev.cmd, hissue.nvme_eq (by decide)]
    exact (hcapCmd k).trans hself
  obtain ⟨t, ht, hp, hself, hother, hmem, _, _, hout, hframe⟩ := hall.answers ((he.trans (.nvme e _ (by decide))).trans hcap) hx
  obtain rfl : s.after (fun _ => (e₁.issueRequest i cls input kind k n none).emit o) = t := by simpa [hx, State.run] using ht
  have hfound := (congrArg (fun n => n.cmds.find? (fun c => c.id == k))
    (State.after_nvme s (fun _ => (e₁.issueRequest i cls input kind k n none).emit o))).trans hcmd
  exact ⟨_, ht, hp, hfound, hself ▸ rfl, hself ▸ rfl, hout _ (List.mem_append_right _ (List.mem_singleton.mpr rfl)),
    fun j hj => (hother j hj).trans (hqp j), hmem.trans (congrArg Rdma.mem (hcapRdma.trans hr)), hframe⟩

/-- A command that has asked its host for `n` more bytes (03 R115). -/
def Cmd.asks (c : Cmd) (n : Nat) : Cmd := { c with asked := c.asked + n, rsvWait := false }

/-- A command whose data all go to its host at tick `now` (03 R109). -/
def Cmd.sends (c : Cmd) (now : Nat) : Cmd := { c with sent := c.data.length, durableAt := some now }

/-- An RDMA READ asks for the next part of a command's data (03 R115, R116). -/
theorem rdmaReadIssue_answers {k n : Nat} {c : Cmd} (hcmd : s.dev.cmd k = some c) (hqp : s.dev.cmdQp c = some i) (hst : c.status = none)
    (hheld : c.held = false) (hdispatched : c.dispatched = true) (hasked : c.asked < c.need)
    (hdepth : ((s.dev.qp i).out.filter (fun w => w.kind == .read)).length < (s.dev.qp i).initDepth) (hcap : s.dev.capOpen = true)
    (hn : min (4096 * 2 ^ s.dev.fld .RD_CFG_READ_MAX) (c.need - c.asked) = n)
    (hroom : (s.dev.reserveRead i (s.dev.qp i).nPsn ((s.dev.qp i).mac / 8) 15 1 n (s.dev.qp i).mtu).isSome = true) :
    Answers (.rdmaReadIssue k) s (fun t =>
      (∃ c', t.dev.cmd k = some c' ∧ c'.asked = c.asked + n) ∧
      (t.dev.qp i).nPsn = psnAdd (s.dev.qp i).nPsn (max 1 (ceilDiv n (s.dev.qp i).mtu)) ∧
      (t.dev.qp i).out = (s.dev.qp i).out ++ [⟨.read, k, (s.dev.qp i).nPsn, max 1 (ceilDiv n (s.dev.qp i).mtu), n, 0, none⟩] ∧
      Out.rdmaRead (qpnOf i) (s.dev.qp i).nPsn k n ∈ t.dev.out ∧ (∀ j, j ≠ i → t.dev.qp j = s.dev.qp j) ∧
      t.dev.rdma.mem = s.dev.rdma.mem ∧ Dev.OnlyChanged issueParts [] sendCtrs s.dev t.dev) := by
  have hpos : n ≠ 0 := by
    have := Nat.two_pow_pos (s.dev.fld .RD_CFG_READ_MAX)
    omega
  have hgo : ¬(n = 0 ∨ c.status.isSome = true ∨ c.held = true ∨ (!(c.dispatched || c.remote)) = true ∨
      (s.dev.qp i).initDepth ≤ ((s.dev.qp i).out.filter (fun w => w.kind == .read)).length ∨ (!s.dev.capOpen) = true) := by
    rw [hst, hheld, hdispatched, hcap]
    simp [hpos, hdepth]
  obtain ⟨e, he⟩ := Option.isSome_iff_exists.mp ((s.dev.reserveRead_quiet ..).trans hroom)
  have hstep : Dev.Step [.sw] [] [.SW_CELLS_ALLOC] s.dev.quiet e := Dev.step_reserveRead (by decide) (by decide) he
  have hid : c.id = k := s.dev.cmd_id hcmd
  have hfound : e.cmd k = some c := (congrArg (fun n => n.cmds.find? (fun c => c.id == k)) (hstep.nvme_eq (by decide))).trans hcmd
  have hcmd' : s.dev.quiet.cmd k = some c := hcmd
  have hquiet : s.dev.quiet.cmdQp c = some i := hqp
  have hgo' : ¬(n = 0 ∨ c.status.isSome = true ∨ c.held = true ∨ (!(c.dispatched || c.remote)) = true ∨
      (s.dev.qp i).initDepth ≤ ((s.dev.qp i).out.filter (fun w => w.kind == .read)).length ∨ (!s.dev.quiet.capOpen) = true) := hgo
  have hn' : min (4096 * 2 ^ s.dev.quiet.fld .RD_CFG_READ_MAX) (c.need - c.asked) = n := hn
  have hx : exec (.rdmaReadIssue k) s = s.run (fun _ => (((e.setCmd (c.asks n)).capCharge n).issueRequest i
      (((e.setCmd (c.asks n)).capCharge n).cmdClass c) 15 .read k n none).emit (.rdmaRead (qpnOf i) (s.dev.qp i).nPsn k n)) := by
    refine State.run_eq_of_quiet ?_
    simp only [hcmd', hquiet]
    rw [hn', Dev.quiet_qp, he]
    exact (if_neg hgo').trans rfl
  have hissued := issue_answers (hstep.mono (by decide) (List.Subset.refl _) (by decide)) (hstep.rdma_eq (by decide)) hfound
    (show (c.asks n).id = k from hid) hx
  refine hissued.imp fun t ht => ?_
  obtain ⟨hy, hpsn, hout, hmsg, hother, hmem, hframe⟩ := ht
  exact ⟨⟨_, hy, rfl⟩, hpsn, hout, hmsg, hother, hmem, hframe⟩

/-- A read's data go to the host in one RDMA WRITE (03 R109, R115). -/
theorem rdmaWriteIssue_answers {k : Nat} {c : Cmd} (hcmd : s.dev.cmd k = some c) (hqp : s.dev.cmdQp c = some i) (hst : c.status = some 0)
    (hopen : c.completed = false ∧ c.cancelled = false ∧ c.sent = 0) (hop : c.op = .read) (hfinished : c.finished = true) (hdata : 0 < c.data.length)
    (hcap : s.dev.capOpen = true) (hroom : s.dev.retransBytes (s.dev.volPier c.vol) + c.data.length ≤ 2 ^ 30) :
    Answers (.rdmaWriteIssue k) s (fun t => (∃ c', t.dev.cmd k = some c' ∧ c'.sent = c.data.length) ∧
      (t.dev.qp i).nPsn = psnAdd (s.dev.qp i).nPsn (max 1 (ceilDiv c.data.length (s.dev.qp i).mtu)) ∧
      (t.dev.qp i).out = (s.dev.qp i).out ++ [⟨.write, k, (s.dev.qp i).nPsn, max 1 (ceilDiv c.data.length (s.dev.qp i).mtu), c.data.length, 0, none⟩] ∧
      Out.rdmaWrite (qpnOf i) (s.dev.qp i).nPsn k c.data ∈ t.dev.out ∧ (∀ j, j ≠ i → t.dev.qp j = s.dev.qp j) ∧ t.dev.rdma.mem = s.dev.rdma.mem ∧
      Dev.OnlyChanged issueParts [] sendCtrs s.dev t.dev) := by
  obtain ⟨hcompleted, hcancelled, hsent⟩ := hopen
  have hid : c.id = k := s.dev.cmd_id hcmd
  have hcmd' : s.dev.quiet.cmd k = some c := hcmd
  have hquiet : s.dev.quiet.cmdQp c = some i := hqp
  have hgo : ¬(c.status ≠ some 0 ∨ c.completed = true ∨ c.cancelled = true ∨ 0 < c.sent) := by simp [hst, hcompleted, hcancelled, hsent]
  have hready : ¬(c.data.length = 0 ∨ (!c.finished) = true ∨ (!s.dev.capOpen) = true ∨
      2 ^ 30 < s.dev.retransBytes (s.dev.volPier c.vol) + c.data.length) := by
    rw [hfinished, hcap]
    simp only [Bool.not_true, Bool.false_eq_true, false_or, not_or]
    exact ⟨Nat.ne_of_gt hdata, Nat.not_lt.mpr hroom⟩
  have hready' : ¬(c.data.length = 0 ∨ (!c.finished) = true ∨ (!s.dev.quiet.capOpen) = true ∨
      2 ^ 30 < s.dev.quiet.retransBytes (s.dev.quiet.volPier c.vol) + c.data.length) := hready
  have hx : exec (.rdmaWriteIssue k) s = s.run (fun _ => (((s.dev.quiet.setCmd (c.sends (s.dev.nowOn .ln))).capCharge c.data.length).issueRequest i
      (((s.dev.quiet.setCmd (c.sends (s.dev.nowOn .ln))).capCharge c.data.length).cmdClass c) (8 + s.dev.volPier c.vol) .write k c.data.length none).emit
      (.rdmaWrite (qpnOf i) (s.dev.qp i).nPsn k c.data)) := by
    refine State.run_eq_of_quiet ?_
    simp only [hcmd', hquiet]
    exact (if_neg hgo).trans ((if_pos hop).trans ((if_neg hready').trans rfl))
  have hissued := issue_answers (.refl s.dev.quiet) rfl hcmd (show (c.sends (s.dev.nowOn .ln)).id = k from hid) hx
  refine hissued.imp fun t ht => ?_
  obtain ⟨hy, hpsn, hout, hmsg, hother, hmem, hframe⟩ := ht
  exact ⟨⟨_, hy, rfl⟩, hpsn, hout, hmsg, hother, hmem, hframe⟩

end Issue

section Sends

variable {s : State} {i : Nat} {c : Capsule} {cs : List Capsule}

/-- A completion goes out within the host's credits (03 R109, R113). -/
theorem sendIssue_answers (hup : s.dev.transportUp = true) (hst : (s.dev.qp i).st = .rts) (hrnr : (s.dev.qp i).rnrUntil = none)
    (hq : (s.dev.qp i).sendQ = c :: cs) (hclosing : (s.dev.qp i).closing = none)
    (hcredit : ((s.dev.qp i).hostLimit.all (fun l => decide ((s.dev.qp i).sent < l))) = true) :
    Answers (.sendIssue i) s (fun t => (t.dev.qp i).sendQ = cs ∧ (t.dev.qp i).sent = (s.dev.qp i).sent + 1 ∧
      (t.dev.qp i).nPsn = psnAdd (s.dev.qp i).nPsn 1 ∧
      (t.dev.qp i).out = (s.dev.qp i).out ++ [⟨.send, c.cmd, (s.dev.qp i).nPsn, 1, 0, 0, some c⟩] ∧
      Out.rdmaSend (qpnOf i) (s.dev.qp i).nPsn c.cid c.status c.dw0 c.dnr c.inval ∈ t.dev.out ∧ (∀ j, j ≠ i → t.dev.qp j = s.dev.qp j) ∧
      t.dev.rdma.mem = s.dev.rdma.mem ∧ Dev.OnlyChanged [.rdma, .sw, .ten] [] sendCtrs s.dev t.dev) := by
  have hx : exec (.sendIssue i) s = s.run (fun _ => s.dev.quiet.sendHead i) := by
    refine State.runIf_eq_of_quiet (by simp [hup, hst, hrnr]) ?_
    simp only [hq]
    cases hl : (s.dev.qp i).hostLimit with
    | none => rfl
    | some l =>
      rw [hl, Option.all_some] at hcredit
      exact if_pos hcredit
  obtain ⟨hsend, hmsg⟩ := s.dev.quiet.qpStep_sendHead (ps := [.rdma, .sw, .ten]) (cs := sendCtrs) (List.Subset.refl _) (List.Subset.refl _) hq hclosing
  refine (hsend.answers (.refl _) hx).imp fun t ⟨hself, hother, hmem, _, _, hout, hframe⟩ => ?_
  rw [hself]
  exact ⟨rfl, rfl, rfl, rfl, hout _ hmsg, hother, hmem, hframe⟩

/-- A completion without credit waits, and nothing goes out (03 R113). -/
theorem sendIssue_waits {l : Nat} (hup : s.dev.transportUp = true) (hst : (s.dev.qp i).st = .rts) (hrnr : (s.dev.qp i).rnrUntil = none)
    (hq : (s.dev.qp i).sendQ = c :: cs) (hlimit : (s.dev.qp i).hostLimit = some l) (hl : l ≤ (s.dev.qp i).sent) :
    Answers (.sendIssue i) s (fun t => (t.dev.qp i).sendQ = { c with waited := true } :: cs ∧ t.dev.out = [] ∧
      (c.waited = false → t.dev.ctr .RD_CRED_WAIT = (s.dev.ctr .RD_CRED_WAIT + 1) % 2 ^ 64) ∧ (∀ j, j ≠ i → t.dev.qp j = s.dev.qp j) ∧
      Dev.OnlyChanged [.rdma] [] [.RD_CRED_WAIT] s.dev t.dev) := by
  have hno : ¬decide ((s.dev.qp i).sent < l) = true := by simp [hl]
  have hrun : ∀ d, (if c.waited then s.dev.quiet else
      (s.dev.quiet.setQp i { s.dev.qp i with sendQ := { c with waited := true } :: cs }).count .RD_CRED_WAIT) = d →
      exec (.sendIssue i) s = s.run (fun _ => d) := fun d hd => by
    refine State.runIf_eq_of_quiet (by simp [hup, hst, hrnr]) ?_
    simp only [hq]
    split
    · next hnone => exact absurd (hlimit.symm.trans hnone) (Option.some_ne_none l)
    · next l' hsome =>
      obtain rfl : l = l' := Option.some.inj (hlimit.symm.trans hsome)
      exact (if_neg hno).trans hd
  cases hw : c.waited with
  | true =>
    have hx := hrun s.dev.quiet (if_pos hw)
    have hsame : Dev.QpStep [.rdma] [.RD_CRED_WAIT] i _ s.dev.quiet s.dev.quiet := .of_step (.refl _) rfl
    have hc : { c with waited := true } = c := by rw [← hw]
    have hout : (s.after (fun _ => s.dev.quiet)).dev.out = [] := State.after_out_eq rfl rfl rfl rfl rfl
    refine .of_run hx ⟨?_, hout, fun h => Bool.noConfusion h, fun j _ => ?_, hsame.toStep.after⟩
    · rw [hc, ← hq]
      exact congrArg (fun r => (r.qps.get {} i).sendQ) (State.after_rdma s (fun _ => s.dev.quiet))
    · exact congrArg (fun r => r.qps.get {} j) (State.after_rdma s (fun _ => s.dev.quiet))
  | false =>
    set e := s.dev.quiet.setQp i { s.dev.qp i with sendQ := { c with waited := true } :: cs }
    have hx := hrun (e.count .RD_CRED_WAIT) (if_neg (by rw [hw]; exact Bool.false_ne_true))
    have hset : Dev.QpStep [.rdma] [.RD_CRED_WAIT] i _ s.dev.quiet (e.count .RD_CRED_WAIT) :=
      (Dev.QpStep.setQp s.dev.quiet i _ (by decide)).then_step (.count e _ 0 1 (by decide)) rfl
    have hout : (s.after (fun _ => e.count .RD_CRED_WAIT)).dev.out = [] := State.after_out_eq rfl rfl rfl rfl rfl
    have hr : ∀ j, (s.after (fun _ => e.count .RD_CRED_WAIT)).dev.qp j = (e.count .RD_CRED_WAIT).qp j := fun j =>
      congrArg (fun r => r.qps.get {} j) (State.after_rdma s (fun _ => e.count .RD_CRED_WAIT))
    refine .of_run hx ⟨?_, hout, fun _ => ?_, fun j hj => (hr j).trans (hset.other j hj), hset.toStep.after⟩
    · rw [hr, hset.self]
    · exact (State.after_ctr s (fun _ => e.count .RD_CRED_WAIT) .RD_CRED_WAIT (by decide) 0).trans (e.ctr_count_self .RD_CRED_WAIT 0 1)

/-- Without credit one SEND goes out a timeout period (03 R113). -/
theorem creditProbeSend_answers {l : Nat} (hup : s.dev.transportUp = true) (hst : (s.dev.qp i).st = .rts) (hrnr : (s.dev.qp i).rnrUntil = none)
    (hq : (s.dev.qp i).sendQ = c :: cs) (hclosing : (s.dev.qp i).closing = none) (hlimit : (s.dev.qp i).hostLimit = some l)
    (hl : l ≤ (s.dev.qp i).sent) (hover : s.dev.expired .ln (s.dev.qp i).probeAt s.dev.ackTimeout = true) :
    Answers (.creditProbeSend i) s (fun t => (t.dev.qp i).sendQ = cs ∧ (t.dev.qp i).probeAt = s.dev.nowOn .ln ∧
      (t.dev.qp i).sent = (s.dev.qp i).sent + 1 ∧
      Out.rdmaSend (qpnOf i) (s.dev.qp i).nPsn c.cid c.status c.dw0 c.dnr c.inval ∈ t.dev.out ∧ (∀ j, j ≠ i → t.dev.qp j = s.dev.qp j) ∧
      Dev.OnlyChanged [.rdma, .sw, .ten] [] sendCtrs s.dev t.dev) := by
  set q := { s.dev.qp i with probeAt := s.dev.nowOn .ln }
  set e := s.dev.quiet.setQp i q
  have hx : exec (.creditProbeSend i) s = s.run (fun _ => e.sendHead i) :=
    State.runIf_eq_of_quiet (by simp [hup, hst, hrnr, hq, hlimit, hl, hover]) rfl
  have hset := Dev.QpStep.setQp (ps := [.rdma, .sw, .ten]) (cs := sendCtrs) s.dev.quiet i q (by decide)
  obtain ⟨hsend, hmsg⟩ := e.qpStep_sendHead (ps := [.rdma, .sw, .ten]) (cs := sendCtrs) (List.Subset.refl _) (List.Subset.refl _)
    ((congrArg Qp.sendQ hset.self).trans hq) ((congrArg Qp.closing hset.self).trans hclosing)
  rw [hset.self] at hsend hmsg
  refine ((hset.trans hsend).answers (.refl _) hx).imp fun t ⟨hself, hother, _, _, _, hout, hframe⟩ => ?_
  rw [hself]
  exact ⟨rfl, rfl, rfl, hout _ hmsg, hother, hframe⟩

end Sends

/-- Settles O18: a response, a timer and a request of the device are each a step of one queue pair, with what it sends. -/
theorem responsesToRequests : Obligations.ResponsesToRequests :=
  ⟨fun _ _ _ => ackReceive_answers, fun _ _ _ _ _ => nakSequence_answers, fun _ _ _ _ _ _ => nakAccess_answers, fun _ _ _ => rnrNak_answers,
    fun _ _ _ _ _ _ => readResponse_answers, fun _ _ _ _ => localAckTimeout_answers, fun _ _ => localAckTimeout_error,
    fun _ _ _ _ _ => rnrWaitEnd_answers, fun _ _ _ => ackCoalesceTimeout_answers,
    fun _ _ _ _ hcmd hqp hst hheld hdispatched hasked hdepth hcap => rdmaReadIssue_answers hcmd hqp hst hheld hdispatched hasked hdepth hcap rfl,
    fun _ _ _ _ => rdmaWriteIssue_answers, fun _ _ _ _ => sendIssue_answers, fun _ _ _ _ _ => sendIssue_waits,
    fun _ _ _ _ _ => creditProbeSend_answers⟩

end Sys2Proof.Machine

/-!
PROOF. The memories of the device (assumption 15): each operation of the model that writes none of them leaves all three as they are, one lemma per
operation in the model's order. A lemma that holds by unfolding is proved by `(rfl)`: in parentheses it stays a plain rewriting rule, with which `simp`
can discharge the hypothesis of a fold's lemma.
-/
namespace Sys2Proof.Machine

/-- The HBM's bytes, the persistent windows' bytes and the durable part of these. -/
def Dev.mems (s : Dev) : Table Byte × Table Byte × Table Byte := (s.dma.hbm, s.rdma.mem, s.rdma.durable)

/-- Every memory of the device is canonical. -/
def Dev.MemOk (s : Dev) : Prop := Memory.wf s.mems.1 = true ∧ Memory.wf s.mems.2.1 = true ∧ Memory.wf s.mems.2.2 = true

theorem Dev.mems_mk (time timeLoaded fresh out raised regs ctrs marks latches arch mode fw pkg evr net sw ten own cust ldg ep od store shelf rdma nvme
    dma) : (Dev.mk time timeLoaded fresh out raised regs ctrs marks latches arch mode fw pkg evr net sw ten own cust ldg ep od store shelf rdma nvme
    dma).mems = (dma.hbm, rdma.mem, rdma.durable) := (rfl)

theorem Dev.mems_fold (s : Dev) : (s.dma.hbm, s.rdma.mem, s.rdma.durable) = s.mems := (rfl)

theorem Dev.mems_ite (c : Prop) [Decidable c] (a b : Dev) : (if c then a else b).mems = if c then a.mems else b.mems := apply_ite Dev.mems c a b

theorem Dev.mems_foldl {α : Type} {f : Dev → α → Dev} (h : ∀ s x, (f s x).mems = s.mems) (l : List α) (s : Dev) : (l.foldl f s).mems = s.mems :=
  foldl_keeps (g := Dev.mems) h l s

theorem Dev.mems_foldl_fst {α β : Type} {f : Dev × β → α → Dev × β} (h : ∀ a x, (f a x).1.mems = a.1.mems) (l : List α) (a : Dev × β) :
    (l.foldl f a).1.mems = a.1.mems := foldl_keeps (g := fun a => a.1.mems) h l a

theorem Dev.mems_foldl_snd {α β : Type} {f : β × Dev → α → β × Dev} (h : ∀ a x, (f a x).2.mems = a.2.mems) (l : List α) (a : β × Dev) :
    (l.foldl f a).2.mems = a.2.mems := foldl_keeps (g := fun a => a.2.mems) h l a

theorem Dev.mems_foldl_replayed {α : Type} {f : Replayed → α → Replayed} (h : ∀ a x, (f a x).dev.mems = a.dev.mems) (l : List α) (a : Replayed) :
    (l.foldl f a).dev.mems = a.dev.mems := foldl_keeps (g := fun a => a.dev.mems) h l a

section Mems

variable {s : Dev}

/-! #### `Machine/Ops` -/

theorem Dev.mems_setFld (f : Fld) (i v : Nat) : (s.setFld f i v).mems = s.mems := (rfl)

theorem Dev.mems_count (c : Ctr) (i : Nat) (n : Nat) : (s.count c i n).mems = s.mems := (rfl)

theorem Dev.mems_countJobs (n : Nat) : (s.countJobs n).mems = s.mems := by
  simp only [Dev.countJobs, Dev.mems_ite, ite_self, Dev.mems_count]

theorem Dev.mems_addMark (k : Nat) (n : Nat) : (s.addMark k n).mems = s.mems := (rfl)

theorem Dev.mems_emit (o : Out) : (s.emit o).mems = s.mems := (rfl)

theorem Dev.mems_draw : (s.draw).2.mems = s.mems := (rfl)

theorem Dev.mems_event (d : Die) (id : Nat) (detail : List Byte) (code : Nat) : (s.event d id detail code).mems = s.mems := (rfl)

theorem Dev.mems_eventIf (c : Bool) (d : Die) (id : Nat) (detail : List Byte) (code : Nat) : (s.eventIf c d id detail code).mems = s.mems := by
  simp only [Dev.eventIf, Dev.mems_ite, ite_self, Dev.mems_event]

theorem Dev.mems_eventOpenCause (d : Die) (id : Nat) (detail : List Byte) : (s.eventOpenCause d id detail).mems = s.mems := (rfl)

theorem Dev.mems_setRegion (r : Nat) (x : Region) : (s.setRegion r x).mems = s.mems := (rfl)

theorem Dev.mems_setSeam (k : Nat) (x : Seam) : (s.setSeam k x).mems = s.mems := (rfl)

theorem Dev.mems_setRail (r : Nat) (x : Rail) : (s.setRail r x).mems = s.mems := (rfl)

theorem Dev.mems_dropSeverity (v : Nat) : (s.dropSeverity v).mems = s.mems := (rfl)

/-! #### `Machine/Params` -/

theorem Dev.mems_queueStore (x : Storing) : (s.queueStore x).mems = s.mems := (rfl)

theorem Dev.mems_forgetAnswer (n : Nat) : (s.forgetAnswer n).mems = s.mems := (rfl)

theorem Dev.mems_storeChanged (before : Dev) : (s.storeChanged before).mems = s.mems := by
  simp only [Dev.storeChanged, Dev.mems_ite, ite_self, Dev.mems_queueStore]

/-! #### `Machine/BondOps` -/

theorem Dev.mems_setBond (k : Nat) (x : Bond) : (s.setBond k x).mems = s.mems := (rfl)

theorem Dev.mems_bondFrame (k type cls len : Nat) : (s.bondFrame k type cls len).mems = s.mems := (rfl)

theorem Dev.mems_bondSend (k type cls len : Nat) : (s.bondSend k type cls len).mems = s.mems := by
  simp only [Dev.bondSend, Dev.mems_ite, ite_self, Dev.mems_bondFrame, Dev.mems_foldl, implies_true]

theorem Dev.mems_mirrorSend (p seq len : Nat) : (s.mirrorSend p seq len).mems = s.mems := by
  unfold Dev.mirrorSend
  split <;> simp only [Dev.mems_emit, Dev.mems_count, Dev.mems_bondSend]

/-! #### `Machine/SwitchOps` -/

theorem Dev.mems_afterAlloc (i o c n : Nat) : (s.afterAlloc i o c n).mems = s.mems := by
  simp only [Dev.afterAlloc, Dev.mems_mk, Dev.mems_fold, Dev.mems_ite, ite_self, Dev.mems_count, Dev.mems_event]

theorem Dev.mems_afterFree (n : Nat) : (s.afterFree n).mems = s.mems := by
  simp only [Dev.afterFree, Dev.mems_mk, Dev.mems_fold, Dev.mems_ite, ite_self, Dev.mems_count]

theorem Dev.mems_setUnits (units : List PoolUnit) (touched : List Nat) : (s.setUnits units touched).mems = s.mems := (rfl)

theorem Dev.mems_freeUnits (ids : List Nat) : (s.freeUnits ids).mems = s.mems := by
  simp only [Dev.freeUnits, Dev.mems_setUnits, Dev.mems_afterFree]

theorem Dev.mems_forgetFrames (ids : List Nat) : (s.forgetFrames ids).mems = s.mems := (rfl)

theorem Dev.mems_setMac (m : Nat) (x : Mac) : (s.setMac m x).mems = s.mems := (rfl)

theorem Dev.mems_creditSync (m : Nat) : (s.creditSync m).mems = s.mems := (rfl)

theorem Dev.mems_pushEgress (m q : Nat) (f : TxFrame) : (s.pushEgress m q f).mems = s.mems := (rfl)

theorem Dev.mems_frameArrives (u : PoolUnit) : (s.frameArrives u).mems = s.mems := by
  unfold Dev.frameArrives
  split <;> simp only [Dev.mems_mk, Dev.mems_fold, Dev.mems_pushEgress]

theorem Dev.mems_placeUnit (u : PoolUnit) : (s.placeUnit u).mems = s.mems := by
  simp only [Dev.placeUnit, Dev.mems_setUnits, Dev.mems_frameArrives, Dev.mems_afterAlloc]

theorem Dev.mems_submitUnit (input output cls bytes : Nat) (dest : UnitDest) : (s.submitUnit input output cls bytes dest).mems = s.mems := by
  simp only [Dev.submitUnit, Dev.mems_mk, Dev.mems_fold, Dev.mems_ite, ite_self, Dev.mems_emit, Dev.mems_event, Dev.mems_count, Dev.mems_placeUnit]

theorem Dev.mems_noteWait (u : PoolUnit) : (s.noteWait u).mems = s.mems := by
  simp only [Dev.noteWait, Dev.mems_mk, Dev.mems_fold, Dev.mems_ite, ite_self]

theorem Dev.mems_admitRetry (id : Nat) : (s.admitRetry id).mems = s.mems := by
  unfold Dev.admitRetry
  split <;> simp only [Dev.mems_mk, Dev.mems_fold, Dev.mems_ite, ite_self, Dev.mems_placeUnit, Dev.mems_noteWait]

theorem Dev.mems_admitFrame (input output cls bytes : Nat) : (s.admitFrame input output cls bytes).2.2.mems = s.mems := by
  simp only [Dev.admitFrame]
  repeat' split
  all_goals simp only [Dev.mems_mk, Dev.mems_fold, Dev.mems_event, Dev.mems_count, Dev.mems_placeUnit, Dev.mems_freeUnits]

theorem Dev.mems_fillReserved {input qp bytes n : Nat} {t : Dev} (h : s.fillReserved input qp bytes = some (n, t)) : t.mems = s.mems := by
  unfold Dev.fillReserved at h
  split at h
  · cases h
  · cases h
    simp only [Dev.mems_mk, Dev.mems_fold, Dev.mems_setUnits]

theorem Dev.mems_reserveRead {qp read input output cls len mtu : Nat} {t : Dev} (h : s.reserveRead qp read input output cls len mtu = some t) :
    t.mems = s.mems := by
  unfold Dev.reserveRead at h
  dsimp only at h
  split at h
  · cases h
    simp only [Dev.mems_mk, Dev.mems_fold, Dev.mems_afterAlloc]
  · cases h

theorem Dev.mems_releaseReads (p : Nat → Nat → Bool) : (s.releaseReads p).mems = s.mems := by
  simp only [Dev.releaseReads, Dev.mems_mk, Dev.mems_fold, Dev.mems_afterFree]

theorem Dev.mems_refetch (id : Nat) : (s.refetch id).mems = s.mems := (rfl)

theorem Dev.mems_crossUnit (u : PoolUnit) (read : PoolRead) : (s.crossUnit u read).mems = s.mems := by
  simp only [Dev.crossUnit]
  repeat' split
  all_goals simp only [Dev.mems_freeUnits, Dev.mems_emit, Dev.mems_count, Dev.mems_bondSend, Dev.mems_event, Dev.mems_refetch, Dev.mems_forgetFrames]

theorem Dev.mems_frameCross (o mac : Nat) (read : PoolRead) : (s.frameCross o mac read).mems = s.mems := by
  simp only [Dev.frameCross, Dev.mems_ite]
  repeat' split
  all_goals simp only [Dev.mems_mk, Dev.mems_fold, Dev.mems_crossUnit, Dev.mems_setMac]

theorem Dev.mems_answer (req : Requester) (v : Nat) : (s.answer req v).mems = s.mems := (rfl)

/-! #### `Machine/CanOps` -/

theorem Dev.mems_setCan (c : Can) : (s.setCan c).mems = s.mems := (rfl)

theorem Dev.mems_emcy (m : Emcy) : (s.emcy m).mems = s.mems := by
  simp only [Dev.emcy, Dev.mems_ite, ite_self, Dev.mems_emit, Dev.mems_setCan]

theorem Dev.mems_emcyRecord (v id slot : Nat) : (s.emcyRecord v id slot).mems = s.mems := by
  simp only [Dev.emcyRecord, Dev.mems_ite, ite_self, Dev.mems_emcy]

/-! #### `Machine/KeyOps` -/

theorem Dev.mems_setKeySlot (kind i : Nat) (x : KeySlot) : (s.setKeySlot kind i x).mems = s.mems := (rfl)

/-! #### `Machine/Meter` -/

theorem Dev.mems_setMeter (m : Meter) : (s.setMeter m).mems = s.mems := (rfl)

theorem Dev.mems_setTn (t : Nat) (x : TnState) : (s.setTn t x).mems = s.mems := (rfl)

theorem Dev.mems_meterMarkOpen : s.meterMarkOpen.mems = s.mems := by
  simp only [Dev.meterMarkOpen, Dev.mems_ite, ite_self, Dev.mems_setMeter]

theorem Dev.mems_meterOpen (t start : Nat) : (s.meterOpen t start).mems = s.mems := (rfl)

theorem Dev.mems_meterOpenAll (start : Nat) : (s.meterOpenAll start).mems = s.mems := by
  simp only [Dev.meterOpenAll, Dev.mems_meterMarkOpen, Dev.mems_meterOpen, Dev.mems_foldl, implies_true]

theorem Dev.mems_meterKeyTurn (t : Nat) : (s.meterKeyTurn t).mems = s.mems := by
  unfold Dev.meterKeyTurn
  split <;> simp only [Dev.mems_ite, ite_self, Dev.mems_event, Dev.mems_setMeter]

theorem Dev.mems_meterClose (stop : Nat) (f : Option Nat) : (s.meterClose stop f).mems = s.mems := (rfl)

theorem Dev.mems_meterCloseEnded (stop : Nat) : (s.meterCloseEnded stop).mems = s.mems := (rfl)

theorem Dev.mems_meterOpenRest (start : Nat) : (s.meterOpenRest start).mems = s.mems := by
  simp only [Dev.meterOpenRest, Dev.mems_meterMarkOpen, Dev.mems_meterOpen, Dev.mems_foldl, implies_true]

theorem Dev.mems_meterRollN (n : Nat) : (s.meterRollN n).mems = s.mems := by
  induction n generalizing s with
  | zero => rfl
  | succ n ih =>
    rw [Dev.meterRollN]
    split
    · rfl
    · split
      · rw [ih, Dev.mems_meterOpenRest, Dev.mems_meterKeyTurn, Dev.mems_meterCloseEnded]
      · rfl

theorem Dev.mems_meterRoll : s.meterRoll.mems = s.mems := by
  simp only [Dev.meterRoll, Dev.mems_meterKeyTurn, Dev.mems_meterRollN]

theorem Dev.mems_meterCount (t : Nat) (f : MeterRec → MeterRec) : (s.meterCount t f).mems = s.mems := by
  simp only [Dev.meterCount]
  split <;> simp only [Dev.mems_meterRoll, Dev.mems_setMeter]

theorem Dev.mems_meterStore (r : MeterRec) : (s.meterStore r).mems = s.mems := by
  simp only [Dev.meterStore, Dev.mems_eventIf, Dev.mems_count, Dev.mems_setMeter]

theorem Dev.mems_meterWrite (failed : Bool) (r : MeterRec) : (s.meterWrite failed r).mems = s.mems := by
  simp only [Dev.meterWrite, Dev.mems_ite, ite_self, Dev.mems_countJobs, Dev.mems_setMeter, Dev.mems_event, Dev.mems_count, Dev.mems_meterStore]

theorem Dev.mems_meterWriteAll (failed : List Nat) : (s.meterWriteAll failed).mems = s.mems := by
  simp only [Dev.meterWriteAll, Dev.mems_setMeter, Dev.mems_meterWrite, Dev.mems_eventIf, Dev.mems_foldl, implies_true]

theorem Dev.mems_meterDiscRecord (start stop after : Nat) (c : Int) (step : Bool) : (s.meterDiscRecord start stop after c step).mems = s.mems := by
  simp only [Dev.meterDiscRecord, Dev.mems_event, Dev.mems_meterWrite]

theorem Dev.mems_meterStep (old : Nat) : (s.meterStep old).mems = s.mems := by
  simp only [Dev.meterStep, Dev.mems_ite, ite_self, Dev.mems_meterWriteAll, Dev.mems_meterClose, Dev.mems_meterOpenAll, Dev.mems_meterDiscRecord]

theorem Dev.mems_meterSlew (c : Int) : (s.meterSlew c).mems = s.mems := by
  simp only [Dev.meterSlew, Dev.mems_ite, ite_self, Dev.mems_meterMarkOpen, Dev.mems_meterDiscRecord]

/-! #### `Machine/Access` -/

theorem Dev.mems_csError (e : CsError) (addr : Nat) : (s.csError e addr).mems = s.mems := by
  unfold Dev.csError
  split <;> simp only [Dev.mems_setFld, Dev.mems_event]

theorem Dev.mems_csAccess (req : Requester) (e : CsError) (addr : Nat) (write : Bool) : (s.csAccess req e addr write).mems = s.mems := by
  simp only [Dev.csAccess, Dev.mems_ite, ite_self, Dev.mems_csError, Dev.mems_answer]

theorem Dev.mems_regWrite {f : Dev → Dev} (h : (f s).mems = s.mems) (addr : Nat) : (s.regWrite addr f).mems = s.mems := by
  simp only [Dev.regWrite, Dev.mems_ite, Dev.mems_csError, Dev.mems_storeChanged, h, ite_self]

theorem Dev.mems_regRead {f : Dev → Nat × Dev} (h : (f s).2.mems = s.mems) (req : Requester) (addr : Nat) :
    (s.regRead req addr f).mems = s.mems := by
  simp only [Dev.regRead, Dev.mems_ite, Dev.mems_csAccess, Dev.mems_answer, h, ite_self]

/-! #### `Machine/Sessions` -/

theorem Dev.mems_setEpFn (fn : Nat) (x : EpFn) : (s.setEpFn fn x).mems = s.mems := (rfl)

theorem Dev.mems_msixSend (fn vec : Nat) : (s.msixSend fn vec).mems = s.mems := by
  simp only [Dev.msixSend, Dev.mems_ite, ite_self, Dev.mems_emit, Dev.mems_count, Dev.mems_setEpFn]

theorem Dev.mems_pf1Signal (vec : Nat) : (s.pf1Signal vec).mems = s.mems := by
  simp only [Dev.pf1Signal, Dev.mems_ite, ite_self, Dev.mems_event, Dev.mems_msixSend]

theorem Dev.mems_irqSource (k : Nat) : (s.irqSource k).mems = s.mems := by
  simp only [Dev.irqSource, Dev.mems_ite, ite_self, Dev.mems_pf1Signal]

theorem Dev.mems_setSession (n : Nat) (x : Session) : (s.setSession n x).mems = s.mems := (rfl)

theorem Dev.mems_dropSessions : s.dropSessions.mems = s.mems := (rfl)

theorem Dev.mems_oapRespond (n : Nat) : (s.oapRespond n).mems = s.mems := by
  simp only [Dev.oapRespond]
  repeat' split
  all_goals simp only [Dev.mems_emit]

theorem Dev.mems_windowEnds (code : Nat) (data : List Byte) : (s.windowEnds code data).mems = s.mems := by
  simp only [Dev.windowEnds, Dev.mems_ite, ite_self, Dev.mems_setFld, Dev.mems_foldl, implies_true]

theorem Dev.mems_dictAnswer (n code : Nat) (data : List Byte) : (s.dictAnswer n code data).mems = s.mems := by
  simp only [Dev.dictAnswer, Dev.mems_mk, Dev.mems_fold, Dev.mems_ite, ite_self, Dev.mems_emit, Dev.mems_setSession, Dev.mems_windowEnds,
      Dev.mems_oapRespond]

theorem Dev.mems_dictDenied (n : Nat) : (s.dictDenied n).mems = s.mems := by
  simp only [Dev.dictDenied, Dev.mems_mk, Dev.mems_fold, Dev.mems_dictAnswer]

theorem Dev.mems_answerStored (before : Dev) (n : Nat) : (s.answerStored before n).mems = s.mems := by
  simp only [Dev.answerStored, Dev.mems_ite, ite_self, Dev.mems_dictAnswer, Dev.mems_queueStore]

theorem Dev.mems_answerVia (v : Via) (code : Nat) : (s.answerVia v code).mems = s.mems := by
  unfold Dev.answerVia
  split <;> simp only [Dev.mems_dictAnswer]

theorem Dev.mems_storedVia (before : Dev) (v : Via) : (s.storedVia before v).mems = s.mems := by
  unfold Dev.storedVia
  split <;> simp only [Dev.mems_answerStored]

theorem Dev.mems_custodianWrite {deny f : Dev → Dev} (hd : (deny s).mems = s.mems) (h : (f s).mems = s.mems) (v : Via) :
    (s.custodianWrite v deny f).mems = s.mems := by
  cases v with
  | reg r => simp only [Dev.custodianWrite, Dev.mems_ite, hd, h, ite_self]
  | dict n => simp only [Dev.custodianWrite, Dev.mems_ite, Dev.mems_dictDenied, h, ite_self]

theorem Dev.mems_viaCommand {f : Dev → Dev × Nat} (h : (f s).1.mems = s.mems) (v : Via) (addr : Nat) :
    (s.viaCommand v addr f).mems = s.mems := by
  cases v with
  | reg r => exact Dev.mems_regWrite h addr
  | dict n => simp only [Dev.viaCommand, Dev.mems_ite, Dev.mems_dictDenied, Dev.mems_dictAnswer, Dev.mems_answerStored, h, ite_self]

/-! #### `Machine/Cipher` -/

theorem Dev.mems_writeCopies (kind i key : Nat) : (s.writeCopies kind i key).mems = s.mems := (rfl)

theorem Dev.mems_destroyCopies (kind i : Nat) : (s.destroyCopies kind i).mems = s.mems := (rfl)

theorem Dev.mems_fillKey (kind i key : Nat) : (s.fillKey kind i key).mems = s.mems := (rfl)

theorem Dev.mems_generateKey (kind i : Nat) : (s.generateKey kind i).mems = s.mems := (rfl)

theorem Dev.mems_emptyKey (kind i : Nat) : (s.emptyKey kind i).mems = s.mems := (rfl)

theorem Dev.mems_custodyRefused (kind i : Nat) : (s.custodyRefused kind i).mems = s.mems := (rfl)

theorem Dev.mems_clearKeyData : s.clearKeyData.mems = s.mems := by
  simp only [Dev.clearKeyData, Dev.mems_setFld, Dev.mems_foldl, implies_true]

theorem Dev.mems_keyCommand {f : Dev → Nat → Nat → Option Dev} (h : ∀ a b t, f s a b = some t → t.mems = s.mems) (v : KeyVia) :
    (s.keyCommand v f).mems = s.mems := by
  have ha : ∀ t, (if s.modeNow = .safe then none else f s (s.keyTarget v).1 (s.keyTarget v).2) = some t → t.mems = s.mems := by
    intro t ht
    split at ht
    · cases ht
    · exact h _ _ _ ht
  unfold Dev.keyCommand
  dsimp only
  generalize (if s.modeNow = .safe then none else f s (s.keyTarget v).1 (s.keyTarget v).2) = attempt at ha
  split
  · refine Dev.mems_regWrite ?_ _
    cases attempt with
    | none => simp only [Option.getD_none, ite_self, Dev.mems_custodyRefused]
    | some t => simp only [Option.getD_some, Dev.mems_ite, ha t rfl, Dev.mems_custodyRefused, ite_self]
  · split
    · exact Dev.mems_dictDenied ..
    · split
      · exact Dev.mems_dictAnswer ..
      · split
        · simp only [Dev.mems_dictAnswer, ha _ rfl]
        · simp only [Dev.mems_dictAnswer, Dev.mems_custodyRefused]

theorem Dev.mems_startKey (kind i key : Nat) : (s.startKey kind i key).mems = s.mems := (rfl)

theorem Dev.mems_keyDestroy (volume : Nat → Bool) (via : KeyVia) : (s.keyDestroy volume via).mems = s.mems := by
  refine Dev.mems_keyCommand (fun a b t h => ?_) via
  dsimp only at h
  split at h
  · cases h
    exact Dev.mems_setKeySlot ..
  · cases h

theorem Dev.mems_unwrapOne (kek : List Byte) (k : Nat) : (s.unwrapOne kek k).mems = s.mems := by
  simp only [Dev.unwrapOne]
  split <;> simp only [Dev.mems_mk, Dev.mems_fold, Dev.mems_ite, ite_self, Dev.mems_setKeySlot, Dev.mems_destroyCopies, Dev.mems_count,
      Dev.mems_countJobs, Dev.mems_event]

theorem Dev.mems_takeSecret (cs : List Byte) : (s.takeSecret cs).mems = s.mems := by
  simp only [Dev.takeSecret, Dev.mems_mk, Dev.mems_fold, Dev.mems_unwrapOne, Dev.mems_foldl, implies_true]

theorem Dev.mems_sealSecret (cs : List Byte) : (s.sealSecret cs).mems = s.mems := (rfl)

theorem Dev.mems_firstSecret (cs : List Byte) : (s.firstSecret cs).mems = s.mems := by
  simp only [Dev.firstSecret, Dev.mems_mk, Dev.mems_fold, Dev.mems_ite, ite_self, Dev.mems_event, Dev.mems_generateKey]

theorem Dev.mems_secretRefused (n : Nat) : (s.secretRefused n).mems = s.mems := by
  simp only [Dev.secretRefused, Dev.mems_mk, Dev.mems_fold, Dev.mems_dictAnswer, Dev.mems_event]

theorem Dev.mems_secretWrite {f : Dev → Dev} (h : (f s).mems = s.mems) (n : Nat) (enc : Bool) : (s.secretWrite n enc f).mems = s.mems := by
  simp only [Dev.secretWrite, Dev.mems_ite, Dev.mems_dictAnswer, Dev.mems_event, h, ite_self]

theorem Dev.mems_cutKeyCommands : s.cutKeyCommands.mems = s.mems := by
  refine Dev.mems_foldl (fun s k => ?_) _ s
  dsimp only
  split
  · rfl
  · split
    · exact Dev.mems_draw
    · split <;> simp only [Dev.mems_writeCopies, Dev.mems_destroyCopies, Dev.mems_draw]

theorem Dev.mems_eraseKeys : s.eraseKeys.mems = s.mems := by
  simp only [Dev.eraseKeys, Dev.mems_mk, Dev.mems_fold, Dev.mems_cutKeyCommands, Dev.mems_dropSessions]

theorem Dev.mems_railOff (r : Nat) : (s.railOff r).mems = s.mems := (rfl)

theorem Dev.mems_alarmErasure : s.alarmErasure.mems = s.mems := by
  simp only [Dev.alarmErasure, Dev.mems_mk, Dev.mems_fold, Dev.mems_eraseKeys, Dev.mems_railOff, Dev.mems_event, Dev.mems_forgetFrames,
      Dev.mems_foldl, implies_true]

theorem Dev.mems_alarm (sources : List (Nat × Die × Nat × List Byte)) : (s.alarm sources).mems = s.mems := by
  simp only [Dev.alarm, Dev.mems_mk, Dev.mems_fold, Dev.mems_ite, ite_self, Dev.mems_event, Dev.mems_alarmErasure, Dev.mems_foldl, implies_true]

theorem Dev.mems_takeJobs (xs : List OffloadDesc) : (s.takeJobs xs).mems = s.mems := by
  induction xs generalizing s with
  | nil => rfl
  | cons x xs ih =>
    rw [Dev.takeJobs]
    split
    · rfl
    · exact ih

theorem Dev.mems_advanceHead (n : Nat) : (s.advanceHead n).mems = s.mems := by
  induction n generalizing s with
  | zero => rfl
  | succ n ih =>
    rw [Dev.advanceHead]
    split
    · exact ih
    · rfl

/-! #### `Machine/StoreOps` -/

theorem Dev.mems_setVol (v : Nat) (x : Volume) : (s.setVol v x).mems = s.mems := (rfl)

theorem Dev.mems_setDrive (k : Nat) (x : Drive) : (s.setDrive k x).mems = s.mems := (rfl)

theorem Dev.mems_setPier (p : Nat) (x : PierStore) : (s.setPier p x).mems = s.mems := (rfl)

theorem Dev.mems_countXts (n : Nat) : (s.countXts n).mems = s.mems := by
  simp only [Dev.countXts, Dev.mems_ite, ite_self, Dev.mems_count]

theorem Dev.mems_memberCmd (c : MCmd) : (s.memberCmd c).mems = s.mems := by
  simp only [Dev.memberCmd]
  split <;> simp only [Dev.mems_mk, Dev.mems_fold, Dev.mems_ite, ite_self, Dev.mems_count, Dev.mems_emit]

theorem Dev.mems_reservedWrite (v unit : Nat) (slots : List Nat) : (s.reservedWrite v unit slots).mems = s.mems := by
  simp only [Dev.reservedWrite, Dev.mems_memberCmd, Dev.mems_foldl, implies_true]

theorem Dev.mems_stampAll (v : Nat) : (s.stampAll v).mems = s.mems := by
  simp only [Dev.stampAll, Dev.mems_memberCmd, Dev.mems_foldl, implies_true]

theorem Dev.mems_checkpoint (v : Nat) : (s.checkpoint v).mems = s.mems := (rfl)

theorem Dev.mems_genAdvance (v : Nat) : (s.genAdvance v).mems = s.mems := by
  simp only [Dev.genAdvance, Dev.mems_setVol, Dev.mems_checkpoint, Dev.mems_stampAll]

theorem Dev.mems_volState (v : Nat) (st : VState) : (s.volState v st).mems = s.mems := by
  simp only [Dev.volState, Dev.mems_ite, ite_self, Dev.mems_setVol, Dev.mems_event, Dev.mems_eventIf]

theorem Dev.mems_settleVol (v : Nat) : (s.settleVol v).mems = s.mems := by
  simp only [Dev.settleVol, Dev.mems_ite, ite_self, Dev.mems_volState, Dev.mems_setVol, Dev.mems_reservedWrite, Dev.mems_eventIf]

theorem Dev.mems_setMember (v m : Nat) (st : MState) : (s.setMember v m st).mems = s.mems := (rfl)

theorem Dev.mems_driveState (k : Nat) (st : MState) : (s.driveState k st).mems = s.mems := (rfl)

theorem Dev.mems_setRec (p : Nat) (r : IRec) : (s.setRec p r).mems = s.mems := (rfl)

theorem Dev.mems_recordWrite (p : Nat) (r : IRec) (y : Row) (x : Nat) (stored : Block) : (s.recordWrite p r y x stored).mems = s.mems := (rfl)

theorem Dev.mems_rowAdvance (p : Nat) (r : IRec) (y : Row) (n : Nat) : (s.rowAdvance p r y n).1.mems = s.mems := by
  induction n generalizing y with
  | zero => rfl
  | succ n ih =>
    rw [Dev.rowAdvance]
    dsimp only
    split
    · exact ih _
    · split
      · split
        · exact Dev.mems_recordWrite ..
        · exact ih _
      · split
        · exact ih _
        · split <;> rfl

theorem Dev.mems_rowWritten (p seq : Nat) (ng : Bool) (k o x : Nat) : (s.rowWritten p seq ng k o x).mems = s.mems := by
  simp only [Dev.rowWritten]
  repeat' split
  all_goals simp only [Dev.mems_rowAdvance, Dev.mems_setRec]

theorem Dev.mems_copyAgain (p seq : Nat) : (s.copyAgain p seq).mems = s.mems := by
  unfold Dev.copyAgain
  split <;> simp only [Dev.mems_ite, ite_self, Dev.mems_setRec]

theorem Dev.mems_copyDone (p seq : Nat) : (s.copyDone p seq).mems = s.mems := by
  unfold Dev.copyDone
  split <;> simp only [Dev.mems_setRec]

theorem Dev.mems_useDurable (k : Nat) (u : MUse) : (s.useDurable k u).mems = s.mems := by
  unfold Dev.useDurable
  split <;> simp only [Dev.mems_ite, ite_self, Dev.mems_setDrive, Dev.mems_setVol, Dev.mems_copyDone]

theorem Dev.mems_useLost (u : MUse) : (s.useLost u).mems = s.mems := by
  unfold Dev.useLost
  split <;> simp only [Dev.mems_mk, Dev.mems_fold, Dev.mems_rowWritten, Dev.mems_copyAgain]

theorem Dev.mems_dropMemberCmds (k : Nat) : (s.dropMemberCmds k).mems = s.mems := by
  simp only [Dev.dropMemberCmds, Dev.mems_mk, Dev.mems_fold, Dev.mems_useLost, Dev.mems_foldl, implies_true]

theorem Dev.mems_fillPlace (p : Nat) : (s.fillPlace p).mems = s.mems := by
  simp only [Dev.fillPlace, Dev.mems_ite]
  repeat' split
  all_goals simp only [Dev.mems_setVol]

theorem Dev.mems_fillPlaces (p : Nat) : (s.fillPlaces p).mems = s.mems := by
  simp only [Dev.fillPlaces, Dev.mems_fillPlace, Dev.mems_foldl, implies_true]

theorem Dev.mems_secondaryMoved (before : List (Nat × List Nat)) : (s.secondaryMoved before).mems = s.mems := by
  refine Dev.mems_foldl (fun s e => ?_) _ s
  dsimp only
  split
  · refine (Dev.mems_event ..).trans (Dev.mems_foldl (fun s p => ?_) _ s)
    exact Dev.mems_setPier ..
  · rfl

theorem Dev.mems_memberLeaves (v m : Nat) (st : MState) : (s.memberLeaves v m st).mems = s.mems := by
  simp only [Dev.memberLeaves, Dev.mems_ite, ite_self, Dev.mems_reservedWrite, Dev.mems_settleVol, Dev.mems_secondaryMoved, Dev.mems_genAdvance]
  split <;> simp only [Dev.mems_ite, ite_self, Dev.mems_setMember, Dev.mems_event, Dev.mems_eventOpenCause, Dev.mems_dropMemberCmds, Dev.mems_count,
      Dev.mems_setVol, Dev.mems_fillPlaces, Dev.mems_eventIf]

theorem Dev.mems_memberFail (v m : Nat) : (s.memberFail v m).mems = s.mems := by
  simp only [Dev.memberFail, Dev.mems_memberLeaves]

theorem Dev.mems_flushFor (v k : Nat) : (s.flushFor v k).2.mems = s.mems := by
  simp only [Dev.flushFor]
  split <;> simp only [Dev.mems_memberCmd, Dev.mems_setDrive]

theorem Dev.mems_setPort (n : Nat) (x : RootPort) : (s.setPort n x).mems = s.mems := (rfl)

/-! #### `Machine/Gather` -/

theorem Dev.mems_setCmd (c : Cmd) : (s.setCmd c).mems = s.mems := (rfl)

theorem Dev.mems_ledgerWear (addr len : Nat) : (s.ledgerWear addr len).mems = s.mems := (rfl)

theorem Dev.mems_appendRec (p : Nat) (r : IRec) : (s.appendRec p r).mems = s.mems := by
  simp only [Dev.appendRec, Dev.mems_mk, Dev.mems_fold, Dev.mems_setPier, Dev.mems_count, Dev.mems_ledgerWear]

theorem Dev.mems_retire (p seq : Nat) (abandoned : Bool) : (s.retire p seq abandoned).mems = s.mems := (rfl)

theorem Dev.mems_stageRows (p : Nat) (r : IRec) : (s.stageRows p r).mems = s.mems := by
  simp only [Dev.stageRows, Dev.mems_mk, Dev.mems_fold, Dev.mems_setPier, Dev.mems_foldl, implies_true]

theorem Dev.mems_unstage (p v m unit seq : Nat) : (s.unstage p v m unit seq).mems = s.mems := by
  simp only [Dev.unstage]
  split <;> simp only [Dev.mems_ite, ite_self, Dev.mems_setPier]

theorem Dev.mems_listBlocks (v : Nat) (units : List Nat) : (s.listBlocks v units).mems = s.mems := by
  simp only [Dev.listBlocks, Dev.mems_ite, ite_self, Dev.mems_count, Dev.mems_setVol, Dev.mems_reservedWrite, Dev.mems_settleVol, Dev.mems_event]

theorem Dev.mems_closeRow (v : Nat) (hand : List InHand) (r : RowRef) : (s.closeRow v hand r).mems = s.mems := by
  simp only [Dev.closeRow, Dev.mems_listBlocks, Dev.mems_event]
  repeat' split
  all_goals simp only [Dev.mems_appendRec, Dev.mems_count, Dev.mems_stageRows]

theorem Dev.mems_repairBad (c : Cmd) : (s.repairBad c).mems = s.mems := by
  refine Dev.mems_foldl (fun s b => ?_) _ s
  dsimp only
  split
  · simp only [Dev.mems_ite, Dev.mems_memberCmd, Dev.mems_count, Dev.mems_countXts, ite_self]
  · rfl

theorem Dev.mems_gatherTurn (c : Cmd) : (s.gatherTurn c).mems = s.mems := by
  simp only [Dev.gatherTurn, Dev.mems_ite, ite_self, Dev.mems_closeRow, Dev.mems_repairBad, Dev.mems_count, Dev.mems_setCmd, Dev.mems_memberCmd,
      Dev.mems_foldl, implies_true]

theorem Dev.mems_gatherN (id n : Nat) : (s.gatherN id n).mems = s.mems := by
  induction n generalizing s with
  | zero => rfl
  | succ n ih =>
    rw [Dev.gatherN]
    split
    · simp only [Dev.mems_ite, ih, Dev.mems_gatherTurn, ite_self]
    · rfl

theorem Dev.mems_gather (id : Nat) : (s.gather id).mems = s.mems := by
  unfold Dev.gather
  split <;> simp only [Dev.mems_ite, ite_self, Dev.mems_gatherN]

theorem Dev.mems_regather : s.regather.mems = s.mems := by
  simp only [Dev.regather, Dev.mems_gather, Dev.mems_foldl, implies_true]

/-! #### `Machine/DmaOps` -/

theorem Dev.mems_setChan (n : Nat) (x : Chan) : (s.setChan n x).mems = s.mems := (rfl)

theorem Dev.mems_drawBytes (n : Nat) : (s.drawBytes n).2.mems = s.mems := (rfl)

theorem Dev.mems_chansRelease (r : Nat) : (s.chansRelease r).mems = s.mems := by
  simp only [Dev.chansRelease, Dev.mems_setChan, Dev.mems_foldl, implies_true]

theorem Dev.mems_chanTrigger (n : Nat) : (s.chanTrigger n).mems = s.mems := by
  simp only [Dev.chanTrigger]
  split <;> simp only [Dev.mems_ite, ite_self, Dev.mems_setChan, Dev.mems_addMark, Dev.mems_count]

theorem Dev.mems_chanChain (n : Nat) : (s.chanChain n).mems = s.mems := by
  simp only [Dev.chanChain, Dev.mems_chanTrigger, Dev.mems_foldl, implies_true]

/-! #### `Machine/RegionOps` -/

theorem Dev.mems_setPierOwn (p : Nat) (x : PierOwn) : (s.setPierOwn p x).mems = s.mems := (rfl)

/-! #### `Machine/Journal` -/

theorem Dev.mems_endCmd (c : Cmd) (status : Nat) (dnr : Bool) : (s.endCmd c status dnr).mems = s.mems := by
  simp only [Dev.endCmd, Dev.mems_ite, ite_self, Dev.mems_setCmd]

theorem Dev.mems_journalWait (p : Nat) (c : Cmd) : (s.journalWait p c).mems = s.mems := by
  simp only [Dev.journalWait, Dev.mems_ite, ite_self, Dev.mems_count, Dev.mems_setCmd]

theorem Dev.mems_writeDurable (id : Option Nat) : (s.writeDurable id).mems = s.mems := by
  simp only [Dev.writeDurable]
  repeat' split
  all_goals simp only [Dev.mems_setCmd]

theorem Dev.mems_unlist (r : IRec) : (s.unlist r).mems = s.mems := by
  simp only [Dev.unlist, Dev.mems_ite, ite_self, Dev.mems_count, Dev.mems_setVol, Dev.mems_reservedWrite, Dev.mems_event]

theorem Dev.mems_setBits (v : Nat) (hole absent : List Nat) : (s.setBits v hole absent).mems = s.mems := by
  simp only [Dev.setBits, Dev.mems_mk, Dev.mems_fold, Dev.mems_ite, ite_self, Dev.mems_count, Dev.mems_setVol, Dev.mems_reservedWrite]

theorem Dev.mems_applyRow (p : Nat) (r : IRec) (y : Row) : (s.applyRow p r y).1.mems = s.mems := by
  simp only [Dev.applyRow, Dev.mems_recordWrite, Dev.mems_rowAdvance, Dev.mems_foldl, implies_true]

/-! #### `Machine/Volumes` -/

theorem Dev.mems_volRefused (v addr : Nat) : (s.volRefused v addr).mems = s.mems := (rfl)

theorem Dev.mems_releaseAccs (c : Cmd) : (s.releaseAccs c).mems = s.mems := (rfl)

theorem Dev.mems_readDone (id : Nat) (f : Cmd → Cmd) : (s.readDone id f).mems = s.mems := by
  unfold Dev.readDone
  split <;> simp only [Dev.mems_gather, Dev.mems_setCmd]

theorem Dev.mems_recordWritten (c : MCmd) (p seq : Nat) (ng : Bool) (st row x : Nat) : (s.recordWritten c p seq ng st row x).mems = s.mems := by
  simp only [Dev.recordWritten, Dev.mems_ite, Dev.mems_rowWritten, Dev.mems_unstage]
  repeat' split
  all_goals simp only [Dev.mems_flushFor, Dev.mems_setRec]

theorem Dev.mems_reservedWritten (c : MCmd) : (s.reservedWritten c).mems = s.mems := by
  simp only [Dev.reservedWritten, Dev.mems_mk, Dev.mems_fold, Dev.mems_ite, ite_self, Dev.mems_flushFor, Dev.mems_useDurable]

/-! #### `Machine/Replay` -/

theorem Dev.mems_writeNow (v : Nat) (r : RowRef) (x : Nat) (stored : Block) : (s.writeNow v r x stored).mems = s.mems := by
  simp only [Dev.writeNow, Dev.mems_mk, Dev.mems_fold, Dev.mems_ite, ite_self, Dev.mems_emit, Dev.mems_count]

theorem Dev.mems_markAbsent (v : Nat) (r : RowRef) : (s.markAbsent v r).mems = s.mems := by
  simp only [Dev.markAbsent, Dev.mems_ite, ite_self, Dev.mems_reservedWrite, Dev.mems_count, Dev.mems_setVol]

theorem Dev.mems_closeNow (v : Nat) (r : RowRef) (known : List (Option Block)) : (s.closeNow v r known).mems = s.mems := by
  simp only [Dev.closeNow, Dev.mems_listBlocks, Dev.mems_writeNow, Dev.mems_event, Dev.mems_foldl, implies_true]

theorem Dev.mems_replayRow (v : Nat) (blocks : List Fetched) (y : Row) : (s.replayRow v blocks y).1.mems = s.mems := by
  simp only [Dev.replayRow]
  split <;> simp only [Dev.mems_ite, ite_self, Dev.mems_countXts, Dev.mems_writeNow, Dev.mems_markAbsent, Dev.mems_closeNow, Dev.mems_foldl,
      implies_true]

theorem Replayed.mems_one (a : Replayed) (p : Nat) (blocks : List Fetched) (r : IRec) : (a.one p blocks r).dev.mems = a.dev.mems := by
  unfold Replayed.one
  split
  · exact Dev.mems_retire ..
  · simp only [Dev.mems_retire, Dev.mems_count]
    exact Dev.mems_foldl_replayed (fun b y => Dev.mems_replayRow ..) _ _

theorem Dev.mems_replay (p : Nat) (sel : IRec → Bool) (blocks : List Fetched) : (s.replay p sel blocks).dev.mems = s.mems :=
  Dev.mems_foldl_replayed (fun a r => a.mems_one p blocks r) _ _

/-! #### `Machine/Ledger` -/

theorem Dev.mems_dropLedgerRecords (gone : Nat → Bool) : (s.dropLedgerRecords gone).mems = s.mems := (rfl)

theorem Dev.mems_loseKeys (line : Nat) : (s.loseKeys line).mems = s.mems := by
  simp only [Dev.loseKeys, Dev.mems_mk, Dev.mems_fold, Dev.mems_ite, ite_self, Dev.mems_foldl, implies_true]

theorem Dev.mems_loseLines (lines : List Nat) : (s.loseLines lines).mems = s.mems := by
  simp only [Dev.loseLines, Dev.mems_mk, Dev.mems_fold, Dev.mems_dropLedgerRecords, Dev.mems_event, Dev.mems_loseKeys, Dev.mems_foldl, implies_true]

theorem Dev.mems_linesFound (p corrected repaired : Nat) (lost : List Nat) : (s.linesFound p corrected repaired lost).mems = s.mems := by
  simp only [Dev.linesFound, Dev.mems_count, Dev.mems_loseLines, Dev.mems_addMark]

theorem Dev.mems_loadTime : s.loadTime.mems = s.mems := by
  simp only [Dev.loadTime, Dev.mems_mk, Dev.mems_fold, Dev.mems_ite, ite_self]

theorem Dev.mems_meterInterrupted : s.meterInterrupted.mems = s.mems := by
  simp only [Dev.meterInterrupted, Dev.mems_ite, ite_self, Dev.mems_setMeter, Dev.mems_event, Dev.mems_meterWrite, Dev.mems_foldl, implies_true]

theorem Dev.mems_wearAfterLoss : s.wearAfterLoss.mems = s.mems := by
  simp only [Dev.wearAfterLoss, Dev.mems_mk, Dev.mems_fold, Dev.mems_ite, ite_self]

theorem Dev.mems_unsealSecret : s.unsealSecret.mems = s.mems := by
  simp only [Dev.unsealSecret]
  split <;> simp only [Dev.mems_takeSecret]

theorem Dev.mems_revokeAtStart : s.revokeAtStart.mems = s.mems := by
  simp only [Dev.revokeAtStart, Dev.mems_mk, Dev.mems_fold, Dev.mems_event, Dev.mems_foldl, implies_true]

theorem Dev.mems_loadState (found : Recovery) : (s.loadState found).mems = s.mems := by
  simp only [Dev.loadState, Dev.mems_mk, Dev.mems_fold, Dev.mems_ite, ite_self, Dev.mems_wearAfterLoss, Dev.mems_count, Dev.mems_linesFound,
      Dev.mems_loadTime, Dev.mems_unsealSecret, Dev.mems_revokeAtStart, Dev.mems_foldl, implies_true]

theorem Dev.mems_assemble : s.assemble.mems = s.mems := by
  simp only [Dev.assemble, Dev.mems_ite, ite_self, Dev.mems_setVol, Dev.mems_memberLeaves, Dev.mems_foldl, implies_true]

theorem Dev.mems_loseRecords (p : Nat) (seqs : List Nat) : (s.loseRecords p seqs).mems = s.mems := by
  simp only [Dev.loseRecords, Dev.mems_ite, ite_self, Dev.mems_setPier, Dev.mems_emit, Dev.mems_event, Dev.mems_foldl, implies_true]

theorem Dev.mems_namespacesFound : s.namespacesFound.mems = s.mems := by
  simp only [Dev.namespacesFound, Dev.mems_event, Dev.mems_foldl, implies_true]

theorem Dev.mems_recoverRings (found : Recovery) : (s.recoverRings found).mems = s.mems := by
  simp only [Dev.recoverRings, Dev.mems_mk, Dev.mems_fold, Dev.mems_ite, ite_self, Dev.mems_addMark, Dev.mems_event, Dev.mems_loseRecords,
      Dev.mems_setVol, Dev.mems_assemble, Dev.mems_replay, Dev.mems_setPier, Dev.mems_meterInterrupted, Dev.mems_namespacesFound, Dev.mems_foldl,
      implies_true]

theorem Dev.mems_withdraw (g : Nat) : (s.withdraw g).mems = s.mems := by
  simp only [Dev.withdraw, Dev.mems_mk, Dev.mems_fold, Dev.mems_eventIf]

theorem Dev.mems_setHot (hot : Bool) : (s.setHot hot).mems = s.mems := by
  simp only [Dev.setHot, Dev.mems_mk, Dev.mems_fold, Dev.mems_ite, ite_self, Dev.mems_event]

/-! #### `Machine/Ports` -/

theorem Dev.mems_macDown (m : Nat) : (s.macDown m).mems = s.mems := by
  simp only [Dev.macDown, Dev.mems_ite, ite_self, Dev.mems_creditSync, Dev.mems_setMac, Dev.mems_event, Dev.mems_emit, Dev.mems_freeUnits,
      Dev.mems_count, Dev.mems_foldl, implies_true]

theorem Dev.mems_netRefused (addr : Nat) : (s.netRefused addr).mems = s.mems := (rfl)

theorem Dev.mems_portCfgWrite (n : Nat) (v : Word) : (s.portCfgWrite n v).mems = s.mems := by
  simp only [Dev.portCfgWrite, Dev.mems_ite, ite_self, Dev.mems_setFld, Dev.mems_netRefused, Dev.mems_macDown, Dev.mems_foldl, implies_true]

theorem Dev.mems_macCfgWrite (m : Nat) (v : Word) : (s.macCfgWrite m v).mems = s.mems := by
  simp only [Dev.macCfgWrite, Dev.mems_ite, ite_self, Dev.mems_setFld, Dev.mems_macDown, Dev.mems_setMac, Dev.mems_netRefused]

theorem Dev.mems_macIpWrite (m which : Nat) (v : Nat) : (s.macIpWrite m which v).mems = s.mems := by
  simp only [Dev.macIpWrite, Dev.mems_ite, ite_self, Dev.mems_netRefused, Dev.mems_setFld]

theorem Dev.mems_rxStored (m unit : Nat) (f : RxFrame) : (s.rxStored m unit f).mems = s.mems := by
  simp only [Dev.rxStored]
  split <;> simp only [Dev.mems_ite, ite_self, Dev.mems_count, Dev.mems_freeUnits, Dev.mems_setMac, Dev.mems_emit]

theorem Dev.mems_frameReceive (m : Nat) (f : RxFrame) : (s.frameReceive m f).mems = s.mems := by
  unfold Dev.frameReceive
  dsimp only
  split
  next unit t h =>
    have ht : t.mems = s.mems := by
      split at h
      · exact (Dev.mems_fillReserved h).trans (by simp only [Dev.mems_count])
      · cases h
    exact (Dev.mems_rxStored ..).trans ht
  · split
    all_goals
      next h =>
        have ht := congrArg (fun r : Admission × Nat × Dev => r.2.2.mems) h
        simp only [Dev.mems_admitFrame, Dev.mems_count] at ht
        simp only [Dev.mems_rxStored, Dev.mems_count, ht]

theorem Dev.mems_controlFrame (m q bytes : Nat) : (s.controlFrame m q bytes).mems = s.mems := by
  simp only [Dev.controlFrame, Dev.mems_submitUnit]

theorem Dev.mems_transmissionSelect (m : Nat) : (s.transmissionSelect m).mems = s.mems := by
  simp only [Dev.transmissionSelect]
  repeat' split
  all_goals simp only [Dev.mems_creditSync, Dev.mems_emit, Dev.mems_setMac]

theorem Dev.mems_frameTransmitEnd (m : Nat) : (s.frameTransmitEnd m).mems = s.mems := by
  unfold Dev.frameTransmitEnd
  split <;> simp only [Dev.mems_ite, ite_self, Dev.mems_creditSync, Dev.mems_setMac, Dev.mems_freeUnits, Dev.mems_emit, Dev.mems_count]

theorem Dev.mems_cbsSlopeWrite (m q : Nat) (v : Word) : (s.cbsSlopeWrite m q v).mems = s.mems := by
  simp only [Dev.cbsSlopeWrite, Dev.mems_ite, ite_self, Dev.mems_netRefused, Dev.mems_setFld, Dev.mems_creditSync]

theorem Dev.mems_lldpReceive (m rx tx : Nat) : (s.lldpReceive m rx tx).mems = s.mems := by
  simp only [Dev.lldpReceive, Dev.mems_ite, ite_self, Dev.mems_setMac, Dev.mems_event, Dev.mems_eventIf]

/-! #### `Machine/Tenants` -/

theorem Dev.mems_tenancyRefused (addr : Nat) : (s.tenancyRefused addr).mems = s.mems := (rfl)

theorem Dev.mems_tokensSync (t : Nat) : (s.tokensSync t).mems = s.mems := (rfl)

theorem Dev.mems_police (t bytes extra : Nat) : (s.police t bytes extra).2.mems = s.mems := by
  simp only [Dev.police]
  repeat' split
  all_goals simp only [Dev.mems_mk, Dev.mems_fold, Dev.mems_count, Dev.mems_setTn, Dev.mems_meterCount]

theorem Dev.mems_tnCfgWrite (t : Nat) (busy enable pol shp : Bool) (weight : Nat) : (s.tnCfgWrite t busy enable pol shp weight).2.mems = s.mems := by
  simp only [Dev.tnCfgWrite]
  repeat' split
  all_goals simp only [Dev.mems_mk, Dev.mems_fold, Dev.mems_tenancyRefused, Dev.mems_tokensSync, Dev.mems_setFld, Dev.mems_setTn, Dev.mems_meterRoll,
      Dev.mems_meterOpen, Dev.mems_setMeter, Dev.mems_eventIf]

theorem Dev.mems_policerWrite (t which v : Nat) : (s.policerWrite t which v).2.mems = s.mems := by
  simp only [Dev.policerWrite]
  repeat' split
  all_goals simp only [Dev.mems_tenancyRefused, Dev.mems_setFld]

theorem Dev.mems_setDeficit (m t : Nat) (v : Int) : (s.setDeficit m t v).mems = s.mems := (rfl)

theorem Dev.mems_releaseHead (m t c q : Nat) : (s.releaseHead m t c q).mems = s.mems := by
  unfold Dev.releaseHead
  split <;> simp only [Dev.mems_mk, Dev.mems_fold, Dev.mems_ite, ite_self, Dev.mems_tokensSync, Dev.mems_setTn, Dev.mems_pushEgress]

theorem Dev.mems_releaseEq2 (m : Nat) : (s.releaseEq2 m).mems = s.mems := by
  unfold Dev.releaseEq2
  split <;> simp only [Dev.mems_mk, Dev.mems_fold, Dev.mems_ite, ite_self, Dev.mems_releaseHead, Dev.mems_setDeficit]

theorem Dev.mems_dwrr {m : Nat} {ts : List Nat} {n : Nat} {cur : Option Nat} {t : Nat} {d : Dev} (h : s.dwrr m ts n cur = some (t, d)) :
    d.mems = s.mems := by
  induction n generalizing s cur with
  | zero => cases h
  | succ n ih =>
    unfold Dev.dwrr at h
    dsimp only at h
    split at h
    · cases h
      rfl
    · split at h
      · cases h
      · exact (ih h).trans (Dev.mems_setDeficit ..)

theorem Dev.mems_releaseEq3 (m : Nat) : (s.releaseEq3 m).mems = s.mems := by
  unfold Dev.releaseEq3
  dsimp only
  split
  · rfl
  next t d h =>
    have hd : d.mems = s.mems := Dev.mems_dwrr h
    split
    · exact hd
    · simpa only [Dev.mems_mk, Dev.mems_fold, Dev.mems_setDeficit, Dev.mems_releaseHead] using hd

theorem Dev.mems_histAdd (kind t c bin : Nat) : (s.histAdd kind t c bin).mems = s.mems := (rfl)

theorem Dev.mems_mtrKeyWrite (k : Nat) : (s.mtrKeyWrite k).mems = s.mems := by
  simp only [Dev.mtrKeyWrite, Dev.mems_ite, ite_self, Dev.mems_meterRoll, Dev.mems_setFld, Dev.mems_setMeter]

/-! #### `Machine/RdmaOps` -/

theorem Dev.mems_setQp (i : Nat) (q : Qp) : (s.setQp i q).mems = s.mems := (rfl)

theorem Dev.mems_sendFrame (i cls input extra : Nat) : (s.sendFrame i cls input extra).mems = s.mems := by
  simp only [Dev.sendFrame, Dev.mems_submitUnit, Dev.mems_count]

theorem Dev.mems_sendAck (i psn : Nat) : (s.sendAck i psn).mems = s.mems := by
  simp only [Dev.sendAck, Dev.mems_setQp, Dev.mems_emit, Dev.mems_sendFrame]

theorem Dev.mems_sendNak (i psn code : Nat) : (s.sendNak i psn code).mems = s.mems := by
  simp only [Dev.sendNak, Dev.mems_emit, Dev.mems_sendFrame]

theorem Dev.mems_sendRnr (i psn : Nat) : (s.sendRnr i psn).mems = s.mems := by
  simp only [Dev.sendRnr, Dev.mems_emit, Dev.mems_sendFrame, Dev.mems_count]

theorem Dev.mems_qpLeave (i : Nat) (st : QpSt) : (s.qpLeave i st).mems = s.mems := by
  simp only [Dev.qpLeave, Dev.mems_setQp, Dev.mems_releaseReads]

theorem Dev.mems_qpError (i : Nat) : (s.qpError i).mems = s.mems := by
  unfold Dev.qpError
  split <;> simp only [Dev.mems_qpLeave]

theorem Dev.mems_qpDrain (i : Nat) (dreq : Bool) : (s.qpDrain i dreq).mems = s.mems := by
  simp only [Dev.qpDrain, Dev.mems_ite, ite_self, Dev.mems_qpLeave, Dev.mems_emit]

theorem Dev.mems_requestError {ev : Dev → Dev} (h : ∀ s, (ev s).mems = s.mems) (i psn code : Nat) (c : Ctr) :
    (s.requestError i psn code c ev).mems = s.mems := by
  simp only [Dev.requestError, Dev.mems_qpError, h, Dev.mems_sendNak, Dev.mems_count]

theorem Dev.mems_nakInvalidReq (i psn : Nat) : (s.nakInvalidReq i psn).mems = s.mems := by
  simp only [Dev.nakInvalidReq, Dev.mems_requestError, Dev.mems_eventOpenCause, implies_true]

theorem Dev.mems_sendRequest (i cls input : Nat) (w : WorkReq) : (s.sendRequest i cls input w).mems = s.mems := by
  simp only [Dev.sendRequest]
  split <;> simp only [Dev.mems_sendFrame, Dev.mems_foldl, implies_true]

theorem Dev.mems_issueRequest (i cls input : Nat) (kind : WrKind) (cmd bytes : Nat) (cap : Option Capsule) :
    (s.issueRequest i cls input kind cmd bytes cap).mems = s.mems := by
  unfold Dev.issueRequest
  split <;> simp only [Dev.mems_setQp, Dev.mems_sendRequest]

theorem Dev.mems_resend (i : Nat) : (s.resend i).mems = s.mems := by
  simp only [Dev.resend]
  split <;> simp only [Dev.mems_setQp, Dev.mems_count, Dev.mems_sendRequest, Dev.mems_emit, Dev.mems_foldl, implies_true]

theorem Dev.mems_setWindow (k : Nat) (w : Window) : (s.setWindow k w).mems = s.mems := (rfl)

theorem Dev.mems_meterWin (t n : Nat) : (s.meterWin t n).mems = s.mems := by
  simp only [Dev.meterWin, Dev.mems_meterCount]

/-! #### `Machine/Jobs` -/

theorem Dev.mems_joinPass (v m : Nat) (resync : Option (List Nat)) : (s.joinPass v m resync).mems = s.mems := by
  simp only [Dev.joinPass, Dev.mems_setVol, Dev.mems_fillPlaces, Dev.mems_checkpoint, Dev.mems_event]

theorem Dev.mems_memberBack (v m k : Nat) (st : MState) : (s.memberBack v m k st).mems = s.mems := by
  simp only [Dev.memberBack, Dev.mems_setDrive, Dev.mems_setVol, Dev.mems_event]

theorem Dev.mems_memberMoved (v m k : Nat) : (s.memberMoved v m k).mems = s.mems := by
  simp only [Dev.memberMoved, Dev.mems_ite, ite_self, Dev.mems_setFld, Dev.mems_setVol, Dev.mems_driveState]

theorem Dev.mems_slotForget (k : Nat) : (s.slotForget k).mems = s.mems := by
  simp only [Dev.slotForget, Dev.mems_ite, ite_self, Dev.mems_driveState]

theorem Dev.mems_assignSpare (v m : Nat) : (s.assignSpare v m).mems = s.mems := by
  unfold Dev.assignSpare
  split <;> simp only [Dev.mems_ite, ite_self, Dev.mems_event, Dev.mems_setVol, Dev.mems_driveState, Dev.mems_setDrive, Dev.mems_setFld,
      Dev.mems_joinPass, Dev.mems_genAdvance]

theorem Dev.mems_jobRefused (p : Nat) (r : Reg) : (s.jobRefused p r).mems = s.mems := (rfl)

theorem Dev.mems_memberCommand {f : Dev → Dev} (h : ∀ s, (f s).mems = s.mems) (k : Nat) (allowed : Dev → Bool) :
    (s.memberCommand k allowed f).mems = s.mems := by
  refine Dev.mems_regWrite ?_ _
  simp only [Dev.mems_ite, h, Dev.mems_jobRefused, Dev.mems_setFld, ite_self]

theorem Dev.mems_passSeek (v n : Nat) : (s.passSeek v n).mems = s.mems := by
  induction n generalizing s with
  | zero => rfl
  | succ n ih =>
    rw [Dev.passSeek]
    dsimp only
    split
    · rfl
    · split
      · rfl
      · split
        · exact ih.trans (Dev.mems_setVol ..)
        · split
          · exact ih.trans (Dev.mems_setVol ..)
          · rfl

theorem Dev.mems_mediaErrors (v : Nat) (r : RowRef) (xs : List Nat) : (s.mediaErrors v r xs).mems = s.mems := by
  simp only [Dev.mediaErrors, Dev.mems_addMark, Dev.mems_count, Dev.mems_foldl, implies_true]

theorem Dev.mems_jobWrite (v : Nat) (r : RowRef) (x : Nat) (plain : Block) (use : MUse) : (s.jobWrite v r x plain use).mems = s.mems := by
  simp only [Dev.jobWrite, Dev.mems_memberCmd, Dev.mems_countXts]

theorem Dev.mems_jobClose (v : Nat) (r : RowRef) (view : RowView) : (s.jobClose v r view).mems = s.mems := by
  simp only [Dev.jobClose, Dev.mems_closeRow]

theorem Dev.mems_passRow (v : Nat) (targets : List Nat) (blocks : List Fetched) (r : RowRef) : (s.passRow v targets blocks r).mems = s.mems := by
  simp only [Dev.passRow]
  split <;> simp only [Dev.mems_mediaErrors, Dev.mems_countXts, Dev.mems_count, Dev.mems_jobWrite, Dev.mems_jobClose, Dev.mems_foldl, implies_true]

theorem Dev.mems_passVisit (v : Nat) (blocks : List Fetched) : (s.passVisit v blocks).mems = s.mems := by
  simp only [Dev.passVisit]
  split <;> simp only [Dev.mems_ite, ite_self, Dev.mems_passSeek, Dev.mems_setVol, Dev.mems_count, Dev.mems_passRow, Dev.mems_foldl, implies_true]

/-! #### `Machine/Reshape` -/

theorem Dev.mems_releaseHeld (v : Nat) : (s.releaseHeld v).mems = s.mems := by
  refine Dev.mems_foldl (fun s id => ?_) _ s
  split
  · simp only [Dev.mems_ite, Dev.mems_gather, Dev.mems_setCmd, ite_self]
  · rfl

theorem Dev.mems_reshapeMove (v : Nat) (r : Reshape) (blocks : List Fetched) : (s.reshapeMove v r blocks).mems = s.mems := by
  simp only [Dev.reshapeMove, Dev.mems_ite, ite_self, Dev.mems_event, Dev.mems_listBlocks, Dev.mems_countXts, Dev.mems_memberCmd, Dev.mems_foldl,
      implies_true]

theorem Dev.mems_scrubFix (v : Nat) (r : RowRef) (whole : List Block) (xs : List Nat) : (s.scrubFix v r whole xs).mems = s.mems := by
  simp only [Dev.scrubFix, Dev.mems_jobWrite, Dev.mems_foldl, implies_true]

theorem Dev.mems_scrubCheck (v : Nat) (r : RowRef) (blocks : List Fetched) : (s.scrubCheck v r blocks).1.mems = s.mems := by
  simp only [Dev.scrubCheck]
  repeat' split
  all_goals simp only [Dev.mems_count, Dev.mems_mediaErrors, Dev.mems_countXts, Dev.mems_jobClose, Dev.mems_jobWrite, Dev.mems_addMark,
      Dev.mems_scrubFix, Dev.mems_event, Dev.mems_foldl, implies_true]

theorem Dev.mems_scrubBegin (v : Nat) : (s.scrubBegin v).mems = s.mems := by
  simp only [Dev.scrubBegin, Dev.mems_ite, ite_self, Dev.mems_fillPlaces, Dev.mems_setVol]

/-! #### `Machine/NvmeOps` -/

theorem Dev.mems_setCtrl (i : Nat) (x : Ctrl) : (s.setCtrl i x).mems = s.mems := (rfl)

theorem Dev.mems_takeCapsule (src : CmdSource) : (s.takeCapsule src).mems = s.mems := by
  cases src with
  | fabric i => rfl
  | pcie fn qid =>
    rw [Dev.takeCapsule]
    split <;> rfl
  | bond k id => rfl

theorem Dev.mems_newCmd (src : CmdSource) (k cid : Nat) (f : Cmd → Cmd) : (s.newCmd src k cid f).2.mems = s.mems := by
  simp only [Dev.newCmd, Dev.mems_mk, Dev.mems_fold, Dev.mems_takeCapsule]

theorem Dev.mems_answerCmd (src : CmdSource) (k cid status : Nat) (dw0 : Nat) (reply : List (List Nat)) (buf : DataPtr) (dnr : Bool) :
    (s.answerCmd src k cid status dw0 reply buf dnr).mems = s.mems := by
  simp only [Dev.answerCmd, Dev.mems_newCmd]

theorem Dev.mems_onAdmin {f : Dev → Nat → Ctrl → Dev} (h : ∀ s k c, (f s k c).mems = s.mems) (src : CmdSource) :
    (s.onAdmin src f).mems = s.mems := by
  unfold Dev.onAdmin
  split
  · split
    · split
      · exact h _ _ _
      · rfl
    · rfl
  · rfl

theorem Dev.mems_asyncEvent (k type info log : Nat) : (s.asyncEvent k type info log).mems = s.mems := by
  simp only [Dev.asyncEvent]
  repeat' split
  all_goals simp only [Dev.mems_setCtrl, Dev.mems_setCmd]

theorem Dev.mems_asyncTenant (t type info log : Nat) : (s.asyncTenant t type info log).mems = s.mems := by
  simp only [Dev.asyncTenant, Dev.mems_asyncEvent, Dev.mems_foldl, implies_true]

theorem Dev.mems_sweep (id : Nat) : (s.sweep id).mems = s.mems := by
  unfold Dev.sweep
  split <;> simp only [Dev.mems_mk, Dev.mems_fold, Dev.mems_ite, ite_self]

theorem Dev.mems_sampleEnd (c : Cmd) (status : Nat) : (s.sampleEnd c status).mems = s.mems := by
  unfold Dev.sampleEnd
  split <;> simp only [Dev.mems_mk, Dev.mems_fold]

theorem Dev.mems_commandOver (c : Cmd) (ok : Bool) (bytes : Nat) : (s.commandOver c ok bytes).mems = s.mems := by
  simp only [Dev.commandOver, Dev.mems_ite, ite_self, Dev.mems_meterCount, Dev.mems_setTn]
  repeat' split
  all_goals simp only [Dev.mems_mk, Dev.mems_fold, Dev.mems_meterCount]

theorem Dev.mems_nsNotice (t nsid : Nat) : (s.nsNotice t nsid).mems = s.mems := by
  refine Dev.mems_foldl (fun s k => ?_) _ s
  split
  · simp only [Dev.mems_asyncEvent, Dev.mems_setCtrl]
  · rfl

theorem Dev.mems_dispatch (id : Nat) : (s.dispatch id).mems = s.mems := by
  unfold Dev.dispatch
  split <;> simp only [Dev.mems_ite, ite_self, Dev.mems_setCmd, Dev.mems_count, Dev.mems_gather]

theorem Dev.mems_finishCmd (id : Nat) : (s.finishCmd id).mems = s.mems := by
  simp only [Dev.finishCmd, Dev.mems_mk, Dev.mems_fold, Dev.mems_dispatch, Dev.mems_sweep, Dev.mems_foldl, implies_true]

theorem Dev.mems_acceptIo (src : CmdSource) (k cid : Nat) (f : Cmd → Cmd) : (s.acceptIo src k cid f).2.mems = s.mems := by
  simp only [Dev.acceptIo]
  split <;> simp only [Dev.mems_mk, Dev.mems_fold, Dev.mems_ite, ite_self, Dev.mems_newCmd, Dev.mems_setCmd, Dev.mems_count, Dev.mems_setTn,
      Dev.mems_meterCount, Dev.mems_dispatch]

theorem Dev.mems_abandonRecord (c : Cmd) : (s.abandonRecord c).mems = s.mems := by
  simp only [Dev.abandonRecord]
  repeat' split
  all_goals simp only [Dev.mems_retire]

theorem Dev.mems_placeCqe (fn : Nat) (sqid cid status dw0 : Nat) (dnr : Bool) : (s.placeCqe fn sqid cid status dw0 dnr).mems = s.mems := by
  simp only [Dev.placeCqe]
  split <;> simp only [Dev.mems_ite, ite_self, Dev.mems_emit, Dev.mems_setCtrl, Dev.mems_msixSend]

theorem Dev.mems_cancelCmd (id : Nat) (cqe : Bool) : (s.cancelCmd id cqe).mems = s.mems := by
  simp only [Dev.cancelCmd]
  repeat' split
  all_goals simp only [Dev.mems_abandonRecord, Dev.mems_count, Dev.mems_setCmd, Dev.mems_releaseAccs, Dev.mems_placeCqe, Dev.mems_sampleEnd,
      Dev.mems_commandOver, Dev.mems_sweep, Dev.mems_setCtrl]

theorem Dev.mems_cancelWhere (p : Cmd → Bool) (cqe : Bool) : (s.cancelWhere p cqe).mems = s.mems := by
  simp only [Dev.cancelWhere, Dev.mems_cancelCmd, Dev.mems_foldl, implies_true]

theorem Dev.mems_cancelQueue (i : Nat) : (s.cancelQueue i).mems = s.mems := by
  simp only [Dev.cancelQueue, Dev.mems_cancelWhere]

theorem Dev.mems_closeQp (i : Nat) (dreq : Bool) : (s.closeQp i dreq).mems = s.mems := by
  simp only [Dev.closeQp, Dev.mems_ite, ite_self, Dev.mems_qpDrain, Dev.mems_setQp]

theorem Dev.mems_endAssociation (k : Nat) : (s.endAssociation k).mems = s.mems := by
  simp only [Dev.endAssociation]
  split <;> simp only [Dev.mems_mk, Dev.mems_fold, Dev.mems_cancelWhere, Dev.mems_closeQp, Dev.mems_eventOpenCause, Dev.mems_foldl, implies_true]

theorem Dev.mems_setResv (n : Nat) (r : Resv) : (s.setResv n r).mems = s.mems := by
  simp only [Dev.setResv, Dev.mems_mk, Dev.mems_fold, Dev.mems_ite, ite_self, Dev.mems_reservedWrite]

theorem Dev.mems_resvNotice (n type : Nat) (hosts : List Nat) : (s.resvNotice n type hosts).mems = s.mems := by
  refine Dev.mems_foldl (fun s k => ?_) _ s
  split
  · simp only [Dev.mems_ite, Dev.mems_asyncEvent, Dev.mems_setCtrl, ite_self]
  · rfl

theorem Dev.mems_capCharge (n : Nat) : (s.capCharge n).mems = s.mems := by
  simp only [Dev.capCharge, Dev.mems_mk, Dev.mems_fold, Dev.mems_ite, ite_self]

theorem Dev.mems_forward (id : Nat) : (s.forward id).mems = s.mems := by
  simp only [Dev.forward]
  repeat' split
  all_goals simp only [Dev.mems_setCmd, Dev.mems_emit, Dev.mems_count, Dev.mems_bondSend]

theorem Dev.mems_dataCame (id : Nat) : (s.dataCame id).mems = s.mems := by
  simp only [Dev.dataCame]
  repeat' split
  all_goals simp only [Dev.mems_setCmd, Dev.mems_releaseAccs, Dev.mems_forward, Dev.mems_event, Dev.mems_count]

/-! #### `Machine/Rdma` -/

theorem Dev.mems_requestDone (i n : Nat) (last : Bool) : (s.requestDone i n last).mems = s.mems := by
  simp only [Dev.requestDone, Dev.mems_ite, ite_self, Dev.mems_setQp, Dev.mems_sendAck]

theorem Dev.mems_keyRefused (i : Nat) (p : RocePacket) : (s.keyRefused i p).mems = s.mems := by
  simp only [Dev.keyRefused, Dev.mems_requestError, Dev.mems_event, implies_true]

theorem Dev.mems_windowFailed (i psn slot off : Nat) : (s.windowFailed i psn slot off).mems = s.mems := by
  simp only [Dev.windowFailed, Dev.mems_requestError, Dev.mems_event, implies_true]

theorem Dev.mems_recvSend (i : Nat) (p : RocePacket) : (s.recvSend i p).mems = s.mems := by
  simp only [Dev.recvSend, Dev.mems_ite, ite_self, Dev.mems_sendRnr, Dev.mems_nakInvalidReq, Dev.mems_setQp, Dev.mems_count, Dev.mems_requestDone]

theorem Dev.mems_windowResponse (i : Nat) (p : RocePacket) : (s.windowResponse i p).mems = s.mems := by
  simp only [Dev.windowResponse, Dev.mems_sendFrame, Dev.mems_emit, Dev.mems_meterWin, Dev.mems_foldl, implies_true]

theorem Dev.mems_recvRead (i : Nat) (p : RocePacket) (fresh : Bool) : (s.recvRead i p fresh).mems = s.mems := by
  simp only [Dev.recvRead, Dev.mems_ite, ite_self, Dev.mems_sendRnr, Dev.mems_nakInvalidReq, Dev.mems_keyRefused, Dev.mems_windowFailed,
      Dev.mems_windowResponse, Dev.mems_count, Dev.mems_setQp]

theorem Dev.mems_recvFlush (i : Nat) (p : RocePacket) (fresh : Bool) : (s.recvFlush i p fresh).mems = s.mems := by
  simp only [Dev.recvFlush, Dev.mems_ite, ite_self, Dev.mems_sendRnr, Dev.mems_nakInvalidReq, Dev.mems_keyRefused, Dev.mems_windowFailed,
      Dev.mems_count, Dev.mems_setQp, Dev.mems_requestDone, Dev.mems_sendAck]

theorem Dev.mems_recvDuplicate (i : Nat) (p : RocePacket) : (s.recvDuplicate i p).mems = s.mems := by
  simp only [Dev.recvDuplicate, Dev.mems_ite, ite_self, Dev.mems_sendAck, Dev.mems_count, Dev.mems_recvRead, Dev.mems_recvFlush,
      Dev.mems_nakInvalidReq]

theorem Dev.mems_ackUpTo (i psn : Nat) : (s.ackUpTo i psn).mems = s.mems := by
  simp only [Dev.ackUpTo, Dev.mems_ite, ite_self, Dev.mems_setQp]

theorem Dev.mems_hostCredits (i : Nat) (msn code : Nat) : (s.hostCredits i msn code).mems = s.mems := (rfl)

theorem Dev.mems_hostNaked (id : Nat) : (s.hostNaked id).mems = s.mems := by
  simp only [Dev.hostNaked]
  repeat' split
  all_goals simp only [Dev.mems_abandonRecord, Dev.mems_releaseAccs, Dev.mems_count, Dev.mems_setCmd, Dev.mems_sampleEnd, Dev.mems_commandOver,
      Dev.mems_asyncEvent, Dev.mems_setCtrl, Dev.mems_sweep]

theorem Dev.mems_recvNak (i : Nat) (p : RocePacket) : (s.recvNak i p).mems = s.mems := by
  simp only [Dev.recvNak, Dev.mems_ite, Dev.mems_ackUpTo, Dev.mems_count, Dev.mems_resend]
  repeat' split
  all_goals simp only [Dev.mems_ackUpTo, Dev.mems_count, Dev.mems_qpError, Dev.mems_event, Dev.mems_hostNaked]

theorem Dev.mems_recvRnr (i : Nat) (p : RocePacket) : (s.recvRnr i p).mems = s.mems := by
  simp only [Dev.recvRnr, Dev.mems_ite, ite_self, Dev.mems_ackUpTo, Dev.mems_count, Dev.mems_qpError, Dev.mems_event, Dev.mems_setQp]

theorem Dev.mems_recvReadResponse (i : Nat) (p : RocePacket) : (s.recvReadResponse i p).mems = s.mems := by
  simp only [Dev.recvReadResponse]
  repeat' split
  all_goals simp only [Dev.mems_ackUpTo, Dev.mems_count, Dev.mems_setQp, Dev.mems_setCmd, Dev.mems_dataCame, Dev.mems_releaseReads]

theorem Dev.mems_recvResponse (i : Nat) (p : RocePacket) : (s.recvResponse i p).mems = s.mems := by
  simp only [Dev.recvResponse, Dev.mems_ite, ite_self, Dev.mems_hostCredits, Dev.mems_ackUpTo, Dev.mems_count, Dev.mems_recvRnr, Dev.mems_recvNak,
      Dev.mems_recvReadResponse]

theorem Dev.mems_cmRefuse (reason detail : Nat) : (s.cmRefuse reason detail).mems = s.mems := (rfl)

theorem Dev.mems_queueGone (i : Nat) : (s.queueGone i).mems = s.mems := by
  simp only [Dev.queueGone]
  split <;> simp only [Dev.mems_ite, ite_self, Dev.mems_cancelQueue, Dev.mems_endAssociation]

theorem Dev.mems_quietQp (i : Nat) : (s.quietQp i).mems = s.mems := by
  simp only [Dev.quietQp, Dev.mems_queueGone, Dev.mems_qpLeave, Dev.mems_setQp]

theorem Dev.mems_sendHead (i : Nat) : (s.sendHead i).mems = s.mems := by
  simp only [Dev.sendHead]
  repeat' split
  all_goals simp only [Dev.mems_setQp, Dev.mems_emit, Dev.mems_issueRequest, Dev.mems_qpDrain]

theorem Dev.mems_windowRefused (k : Nat) : (s.windowRefused k).mems = s.mems := (rfl)

theorem Dev.mems_revoked (k : Nat) : (s.revoked k).mems = s.mems := by
  simp only [Dev.revoked, Dev.mems_setWindow, Dev.mems_asyncTenant, Dev.mems_event]

/-! #### `Machine/NvmeAdmin` -/

theorem Dev.mems_resetCtrl (k : Nat) (keep : Option Nat) : (s.resetCtrl k keep).mems = s.mems := by
  simp only [Dev.resetCtrl]
  split <;> simp only [Dev.mems_cancelWhere, Dev.mems_setCtrl, Dev.mems_closeQp, Dev.mems_foldl, implies_true]

theorem Dev.mems_ccWrite (k : Nat) (keep : Option Nat) (v : Nat) : (s.ccWrite k keep v).mems = s.mems := by
  simp only [Dev.ccWrite]
  repeat' split
  all_goals simp only [Dev.mems_resetCtrl, Dev.mems_setCtrl]

theorem Dev.mems_setPower (c : Ctrl) (id : Nat) (save : Bool) (ps : Nat) : (s.setPower c id save ps).2.mems = s.mems := by
  simp only [Dev.setPower]
  repeat' split
  all_goals simp only [Dev.mems_mk, Dev.mems_fold]

theorem Dev.mems_setPowerCmd (src : CmdSource) (k cid : Nat) (c : Ctrl) (save : Bool) (ps : Nat) :
    (s.setPowerCmd src k cid c save ps).mems = s.mems := by
  simp only [Dev.setPowerCmd, Dev.mems_ite, Dev.mems_answerCmd, Dev.mems_newCmd, Dev.mems_setPower]
  repeat' split
  all_goals simp only [Dev.mems_newCmd, Dev.mems_setPower, Dev.mems_setCmd]

theorem Dev.mems_setFeature (k : Nat) (c : Ctrl) (fid nsid : Nat) (dw11 : Word) (data : BitVec 128) :
    (s.setFeature k c fid nsid dw11 data).2.2.mems = s.mems := by
  simp only [Dev.setFeature]
  repeat' split
  all_goals simp only [Dev.mems_setCtrl, Dev.mems_setResv, Dev.mems_foldl, implies_true]

/-! #### `Machine/NvmeIo` -/

theorem Dev.mems_onIo {f : Dev → Nat → Ctrl → Dev} (h : ∀ s k c, (f s k c).mems = s.mems) (src : CmdSource) :
    (s.onIo src f).mems = s.mems := by
  unfold Dev.onIo
  split
  · split
    · split
      · exact h _ _ _
      · rfl
    · rfl
  · rfl

theorem Dev.mems_ioRefuse (src : CmdSource) (k cid opcode nsid : Nat) (e : Nat × Bool) : (s.ioRefuse src k cid opcode nsid e).mems = s.mems := by
  simp only [Dev.ioRefuse, Dev.mems_newCmd]

theorem Dev.mems_ioForward (src : CmdSource) (k cid need : Nat) (data : Option Block) (f : Cmd → Cmd) :
    (s.ioForward src k cid need data f).mems = s.mems := by
  simp only [Dev.ioForward, Dev.mems_ite, ite_self, Dev.mems_newCmd, Dev.mems_forward, Dev.mems_dataCame]

theorem Dev.mems_ioCommand (src : CmdSource) (cid : Nat) (a : IoArgs) (op : CmdOp) (opcode len need : Nat) (ranges : List (Nat × Nat))
    (data : Block) : (s.ioCommand src cid a op opcode len need ranges data).mems = s.mems := by
  refine Dev.mems_onIo (fun s k c => ?_) src
  dsimp only
  split
  · exact Dev.mems_ioRefuse ..
  · simp only [Dev.mems_ite, Dev.mems_ioForward, Dev.mems_dataCame, Dev.mems_capCharge, Dev.mems_acceptIo, ite_self]

theorem Dev.mems_ioAtOnce (src : CmdSource) (cid : Nat) (a : IoArgs) (opcode len : Nat) (ranges : List (Nat × Nat)) (writes : Option Bool) :
    (s.ioAtOnce src cid a opcode len ranges writes).mems = s.mems := by
  refine Dev.mems_onIo (fun s k c => ?_) src
  dsimp only
  split
  · exact Dev.mems_ioRefuse ..
  · simp only [Dev.mems_ite, Dev.mems_ioForward, Dev.mems_acceptIo, ite_self]

theorem Dev.mems_resvCommand {f : Dev → Ctrl → Nat × List (List Nat) × List Nat × Dev} (h : ∀ s c, (f s c).2.2.2.mems = s.mems) (src : CmdSource)
    (cid : Nat) (a : IoArgs) (opcode len : Nat) : (s.resvCommand src cid a opcode len f).mems = s.mems := by
  refine Dev.mems_onIo (fun s k c => ?_) src
  dsimp only
  split
  · exact Dev.mems_ioRefuse ..
  · simp only [Dev.mems_ite, Dev.mems_ioForward, Dev.mems_acceptIo, h, Dev.mems_setCtrl, ite_self]

theorem Dev.mems_resvRelease (n : Nat) (r : Resv) (by' : Nat) : (s.resvRelease n r by').mems = s.mems := by
  simp only [Dev.resvRelease, Dev.mems_ite, ite_self, Dev.mems_setResv, Dev.mems_resvNotice]

theorem Dev.mems_resvRegister (n host : Nat) (x : ResvArgs) : (s.resvRegister n host x).2.mems = s.mems := by
  simp only [Dev.resvRegister]
  repeat' split
  all_goals simp only [Dev.mems_setResv, Dev.mems_resvRelease]

theorem Dev.mems_resvAcquire (n host : Nat) (x : ResvArgs) : (s.resvAcquire n host x).2.2.mems = s.mems := by
  simp only [Dev.resvAcquire]
  repeat' split
  all_goals simp only [Dev.mems_setResv, Dev.mems_resvNotice, Dev.mems_eventIf]

theorem Dev.mems_resvReleaseCmd (n host : Nat) (x : ResvArgs) : (s.resvReleaseCmd n host x).2.mems = s.mems := by
  simp only [Dev.resvReleaseCmd]
  repeat' split
  all_goals simp only [Dev.mems_resvRelease, Dev.mems_setResv, Dev.mems_resvNotice]

theorem Dev.mems_readOutcome (c : Cmd) : (s.readOutcome c).mems = s.mems := by
  simp only [Dev.readOutcome]
  repeat' split
  all_goals simp only [Dev.mems_setCmd, Dev.mems_event, Dev.mems_count]

theorem Dev.mems_clearNext (n : Nat) : (s.clearNext n).mems = s.mems := by
  simp only [Dev.clearNext, Dev.mems_mk, Dev.mems_fold, Dev.mems_ite, ite_self, Dev.mems_setBits, Dev.mems_emit, Dev.mems_dispatch, Dev.mems_foldl,
      implies_true]

theorem Dev.mems_frontRefused (r : Reg) : (s.frontRefused r).mems = s.mems := (rfl)

theorem Dev.mems_nsFields (n : Nat) (w : Word) : (s.nsFields n w).mems = s.mems := by
  simp only [Dev.nsFields, Dev.mems_setFld]

theorem Dev.mems_nsActivate (n : Nat) : (s.nsActivate n).2.mems = s.mems := by
  unfold Dev.nsActivate
  split <;> simp only [Dev.mems_ite, ite_self, Dev.mems_frontRefused, Dev.mems_generateKey, Dev.mems_nsNotice, Dev.mems_setFld]

theorem Dev.mems_nsDeactivate (n : Nat) : (s.nsDeactivate n).mems = s.mems := (rfl)

theorem Dev.mems_hostCfgWrite (h : Nat) (enable priv : Bool) (maxCtrl tenant : Nat) :
    (s.hostCfgWrite h enable priv maxCtrl tenant).2.mems = s.mems := by
  unfold Dev.hostCfgWrite
  split <;> simp only [Dev.mems_frontRefused, Dev.mems_setFld]

/-! #### `Machine/Endpoint` -/

theorem Dev.mems_epRefused (addr : Nat) : (s.epRefused addr).mems = s.mems := (rfl)

theorem Dev.mems_pcieStart (fn : Nat) : (s.pcieStart fn).mems = s.mems := (rfl)

theorem Dev.mems_nvmeFnReset (fn : Nat) : (s.nvmeFnReset fn).mems = s.mems := by
  simp only [Dev.nvmeFnReset, Dev.mems_mk, Dev.mems_fold, Dev.mems_cancelWhere, Dev.mems_setEpFn]

theorem Dev.mems_vfsOff : s.vfsOff.mems = s.mems := by
  simp only [Dev.vfsOff, Dev.mems_mk, Dev.mems_fold, Dev.mems_ite, ite_self, Dev.mems_nvmeFnReset, Dev.mems_foldl, implies_true]

theorem Dev.mems_pf0Reset : s.pf0Reset.mems = s.mems := by
  simp only [Dev.pf0Reset, Dev.mems_pcieStart, Dev.mems_vfsOff, Dev.mems_nvmeFnReset, Dev.mems_setEpFn]

theorem Dev.mems_dataFailed (id : Nat) : (s.dataFailed id).mems = s.mems := by
  simp only [Dev.dataFailed]
  repeat' split
  all_goals simp only [Dev.mems_releaseAccs, Dev.mems_setCmd]

theorem Dev.mems_queueCommand (fn cid opcode : Nat) (f : Dev → Ctrl → Nat × Ctrl) : (s.queueCommand fn cid opcode f).mems = s.mems := by
  refine Dev.mems_onAdmin (fun s k c => ?_) _
  dsimp only
  split
  · simp only [Dev.mems_ite, Dev.mems_setCmd, Dev.mems_setCtrl, Dev.mems_newCmd, ite_self]
  · exact Dev.mems_newCmd ..

theorem Dev.mems_doorbell (fn : Nat) (f : Ctrl → Ctrl) : (s.doorbell fn f).mems = s.mems := by
  unfold Dev.doorbell
  split <;> simp only [Dev.mems_ite, ite_self, Dev.mems_setCtrl]

theorem Dev.mems_apRefuse (w : Nat) (answer : Option Out) : (s.apRefuse w answer).mems = s.mems := by
  unfold Dev.apRefuse
  split <;> simp only [Dev.mems_addMark, Dev.mems_count, Dev.mems_emit]

theorem Dev.mems_msixRelease (fn : Nat) : (s.msixRelease fn).mems = s.mems := by
  simp only [Dev.msixRelease, Dev.mems_setEpFn, Dev.mems_msixSend, Dev.mems_foldl, implies_true]

theorem Dev.mems_epFnCfgWrite (fn : Nat) (value : Word) : (s.epFnCfgWrite fn value).1.mems = s.mems := by
  simp only [Dev.epFnCfgWrite]
  repeat' split
  all_goals simp only [Dev.mems_epRefused, Dev.mems_setFld]

/-! #### `Machine/Regions` -/

theorem Dev.mems_startTest (r : Nat) : (s.startTest r).mems = s.mems := by
  simp only [Dev.startTest, Dev.mems_ite, ite_self, Dev.mems_setRegion]

theorem Dev.mems_clearPerf (r : Nat) : (s.clearPerf r).mems = s.mems := (rfl)

theorem Dev.mems_pierReturns (p : Nat) (blocks : List Fetched) : (s.pierReturns p blocks).mems = s.mems := by
  simp only [Dev.pierReturns, Dev.mems_ite, ite_self, Dev.mems_replay, Dev.mems_setPier]

theorem Dev.mems_regionResumes (r : Nat) (blocks : List Fetched) : (s.regionResumes r blocks).mems = s.mems := by
  simp only [Dev.regionResumes, Dev.mems_ite, ite_self, Dev.mems_setRegion, Dev.mems_clearPerf, Dev.mems_chansRelease, Dev.mems_setSeam,
      Dev.mems_setPierOwn, Dev.mems_pierReturns, Dev.mems_foldl, implies_true]

theorem Dev.mems_railCommand (k v : Nat) : (s.railCommand k v).mems = s.mems := (rfl)

theorem Dev.mems_governRail (k : Nat) : (s.governRail k).1.mems = s.mems := by
  simp only [Dev.governRail]
  split <;> simp only [Dev.mems_ite, ite_self, Dev.mems_eventIf, Dev.mems_setRail, Dev.mems_railCommand]

theorem Dev.mems_alignDie (die : Die) (drift : Int) : (s.alignDie die drift).mems = s.mems := by
  unfold Dev.alignDie
  split <;> simp only [Dev.mems_mk, Dev.mems_fold, Dev.mems_ite, ite_self, Dev.mems_emit, Dev.mems_event]

/-! #### `Machine/Drives` -/

theorem Dev.mems_setSlotPwr (k : Nat) (x : SlotPwr) : (s.setSlotPwr k x).mems = s.mems := (rfl)

theorem Dev.mems_memberGone (k : Nat) : (s.memberGone k).mems = s.mems := by
  unfold Dev.memberGone
  split <;> simp only [Dev.mems_ite, ite_self, Dev.mems_regather, Dev.mems_memberLeaves]

theorem Dev.mems_portDown (n : Nat) (x : RootPort) : (s.portDown n x).mems = s.mems := by
  simp only [Dev.portDown, Dev.mems_mk, Dev.mems_fold, Dev.mems_ite, ite_self, Dev.mems_setPort, Dev.mems_count, Dev.mems_event, Dev.mems_memberGone]

theorem Dev.mems_takeDown (n cause : Nat) : (s.takeDown n cause).mems = s.mems := by
  simp only [Dev.takeDown, Dev.mems_event, Dev.mems_portDown]

/-! #### `Machine/Slots` -/

theorem Dev.mems_holdSettle : s.holdSettle.mems = s.mems := (rfl)

theorem Dev.mems_holdDiodes : s.holdDiodes.mems = s.mems := (rfl)

theorem Dev.mems_setSwitches (k : Nat) (x : SlotPwr) : (s.setSwitches k x).mems = s.mems := (rfl)

theorem Dev.mems_slotRamp (k : Nat) : (s.slotRamp k).mems = s.mems := (rfl)

theorem Dev.mems_slotDown (k : Nat) (st : SlotSt) : (s.slotDown k st).mems = s.mems := (rfl)

theorem Dev.mems_slotTrip (k cause ma : Nat) : (s.slotTrip k cause ma).mems = s.mems := by
  simp only [Dev.slotTrip, Dev.mems_slotDown, Dev.mems_setSlotPwr, Dev.mems_memberGone, Dev.mems_event]

theorem Dev.mems_setFeed (f : Nat) (ok : Bool) (mv : Nat) : (s.setFeed f ok mv).mems = s.mems := (rfl)

theorem Dev.mems_setDiode (k f : Nat) (on : Bool) : (s.setDiode k f on).mems = s.mems := (rfl)

theorem Dev.mems_slotCommand {f : Dev → SlotPwr → Dev} (h : ∀ s x, (f s x).mems = s.mems) (v : Via) (k epoch : Nat) (allowed : SlotPwr → Bool) :
    (s.slotCommand v k epoch allowed f).mems = s.mems := by
  refine Dev.mems_viaCommand ?_ v _
  have ha : (if allowed (s.slotPwr k) then (f s (s.slotPwr k), abortOk) else
      (s.event .pl 0x01E (le 1 k ++ le 8 (Reg.addr .SLOT_CMD k)), abortRefused)).1.mems = s.mems := by
    split
    · exact h _ _
    · exact Dev.mems_event ..
  dsimp only
  split
  · split
    · exact Dev.mems_event ..
    · split
      · exact ha
      · exact Dev.mems_event ..
  · split
    · exact ha
    · exact Dev.mems_event ..
  · exact ha

/-! #### `Machine/Quoin` -/

theorem Dev.mems_tellPier (p : Nat) : (s.tellPier p).mems = s.mems := by
  simp only [Dev.tellPier, Dev.mems_ite, ite_self, Dev.mems_setPierOwn]

theorem Dev.mems_sendClaim (p : Nat) : (s.sendClaim p).mems = s.mems := by
  simp only [Dev.sendClaim, Dev.mems_ite, ite_self, Dev.mems_emit, Dev.mems_count, Dev.mems_setPierOwn]

theorem Dev.mems_setHolder (k : Nat) (h : Option Nat) : (s.setHolder k h).mems = s.mems := (rfl)

theorem Dev.mems_acquireAll (p v : Nat) : (s.acquireAll p v).mems = s.mems := by
  simp only [Dev.acquireAll, Dev.mems_mk, Dev.mems_fold, Dev.mems_emit, Dev.mems_foldl, implies_true]

theorem Dev.mems_unreachedMissing (p v : Nat) : (s.unreachedMissing p v).mems = s.mems := by
  simp only [Dev.unreachedMissing, Dev.mems_memberLeaves, Dev.mems_foldl, implies_true]

theorem Dev.mems_dropStaged (p v : Nat) : (s.dropStaged p v).mems = s.mems := (rfl)

theorem Dev.mems_serveVol (p v : Nat) (blocks : List Fetched) : (s.serveVol p v blocks).mems = s.mems := by
  simp only [Dev.serveVol, Dev.mems_mk, Dev.mems_fold, Dev.mems_dropStaged, Dev.mems_replay, Dev.mems_setPierOwn, Dev.mems_releaseHeld,
      Dev.mems_fillPlaces, Dev.mems_unreachedMissing]

theorem Dev.mems_servePending (p : Nat) (blocks : List Fetched) : (s.servePending p blocks).mems = s.mems := by
  simp only [Dev.servePending, Dev.mems_ite, ite_self, Dev.mems_serveVol, Dev.mems_foldl, implies_true]

theorem Dev.mems_interruptVol (v : Nat) : (s.interruptVol v).mems = s.mems := by
  simp only [Dev.interruptVol, Dev.mems_releaseAccs, Dev.mems_setCmd, Dev.mems_foldl, implies_true]

theorem Dev.mems_moveVol (p v : Nat) : (s.moveVol p v).mems = s.mems := by
  simp only [Dev.moveVol, Dev.mems_setHolder, Dev.mems_setVol, Dev.mems_foldl, implies_true]

theorem Dev.mems_quoinGrant (p : Nat) (slots vols : List Nat) : (s.quoinGrant p slots vols).mems = s.mems := by
  simp only [Dev.quoinGrant, Dev.mems_mk, Dev.mems_fold, Dev.mems_ite, ite_self, Dev.mems_setPierOwn, Dev.mems_tellPier]

theorem Dev.mems_quoinAnswer (p a : Nat) : (s.quoinAnswer p a).mems = s.mems := (rfl)

theorem Dev.mems_giveUpBack (h : Nat) : (s.giveUpBack h).mems = s.mems := by
  simp only [Dev.giveUpBack, Dev.mems_mk, Dev.mems_fold, Dev.mems_releaseHeld, Dev.mems_foldl, implies_true]

theorem Dev.mems_claimHome (h : Nat) : (s.claimHome h).mems = s.mems := by
  simp only [Dev.claimHome, Dev.mems_mk, Dev.mems_fold, Dev.mems_ite, ite_self, Dev.mems_giveUpBack, Dev.mems_emit, Dev.mems_setHolder,
      Dev.mems_quoinGrant, Dev.mems_setPierOwn, Dev.mems_event, Dev.mems_foldl, implies_true]

theorem Dev.mems_claimLent (h : Nat) : (s.claimLent h).mems = s.mems := by
  simp only [Dev.claimLent, Dev.mems_mk, Dev.mems_fold, Dev.mems_ite, ite_self, Dev.mems_emit, Dev.mems_setHolder, Dev.mems_quoinGrant,
      Dev.mems_setPierOwn, Dev.mems_foldl, implies_true]

theorem Dev.mems_decideClaim (p : Nat) : (s.decideClaim p).mems = s.mems := by
  simp only [Dev.decideClaim, Dev.mems_ite, ite_self, Dev.mems_quoinAnswer, Dev.mems_quoinGrant]

theorem Dev.mems_giveBack (homes : List Nat) : (s.giveBack homes).mems = s.mems := (rfl)

theorem Dev.mems_ownRefused : s.ownRefused.mems = s.mems := (rfl)

theorem Dev.mems_ownCommand {f : Dev → Option Dev} (h : ∀ t, f s = some t → t.mems = s.mems) (via : Via) : (s.ownCommand via f).mems = s.mems := by
  refine Dev.mems_viaCommand ?_ via _
  dsimp only
  split
  next t ht => exact h t (Option.ite_none_right_eq_some.mp ht).2
  · exact Dev.mems_ownRefused ..

/-! #### `Machine/Bond` -/

theorem Dev.mems_bondWidthEvent (k : Nat) : (s.bondWidthEvent k).mems = s.mems := (rfl)

theorem Dev.mems_bondWarn (k : Nat) : (s.bondWarn k).mems = s.mems := (rfl)

theorem Dev.mems_bondDown (k : Nat) (failed : Bool) : (s.bondDown k failed).mems = s.mems := by
  simp only [Dev.bondDown, Dev.mems_mk, Dev.mems_fold, Dev.mems_ite, ite_self, Dev.mems_bondWarn, Dev.mems_setBond]

theorem Dev.mems_bondTrain (k peer : Nat) : (s.bondTrain k peer).mems = s.mems := by
  simp only [Dev.bondTrain]
  split <;> simp only [Dev.mems_mk, Dev.mems_fold, Dev.mems_ite, ite_self, Dev.mems_bondWarn, Dev.mems_event, Dev.mems_setBond,
      Dev.mems_bondWidthEvent, Dev.mems_mirrorSend, Dev.mems_foldl, implies_true]

theorem Dev.mems_bondAckSend (k : Nat) : (s.bondAckSend k).mems = s.mems := by
  simp only [Dev.bondAckSend, Dev.mems_emit, Dev.mems_setBond, Dev.mems_countJobs]

theorem Dev.mems_bondBody (k : Nat) (b : SalbenBody) : (s.bondBody k b).mems = s.mems := by
  cases b with
  | heartbeat => rfl
  | mirror p seq v blocks => simp only [Dev.bondBody, Dev.mems_mk, Dev.mems_fold, Dev.mems_emit, Dev.mems_bondSend]
  | mirrorAck p seq =>
    simp only [Dev.bondBody]
    split
    · exact Dev.mems_setRec ..
    · rfl
  | completion id st dw0 dnr data =>
    simp only [Dev.bondBody]
    split
    · simp only [Dev.mems_ite, Dev.mems_setCmd, ite_self]
    · rfl
  | other => rfl

theorem Dev.mems_askWidth (k w : Nat) : (s.askWidth k w).mems = s.mems := by
  simp only [Dev.askWidth, Dev.mems_setBond, Dev.mems_emit, Dev.mems_bondSend]

theorem Dev.mems_takeWidth (k w : Nat) : (s.takeWidth k w).mems = s.mems := (rfl)

theorem Dev.mems_applyMirrors (pkg v : Nat) : (s.applyMirrors pkg v).mems = s.mems := by
  simp only [Dev.applyMirrors, Dev.mems_mk, Dev.mems_fold, Dev.mems_ite, ite_self, Dev.mems_emit, Dev.mems_count, Dev.mems_foldl, implies_true]

theorem Dev.mems_fwdAnswer (src : CmdSource) (f : Forwarded) (e : Nat × Bool) : (s.fwdAnswer src f e).mems = s.mems := by
  simp only [Dev.fwdAnswer, Dev.mems_newCmd]

theorem Dev.mems_fwdAccept (src : CmdSource) (f : Forwarded) (op : CmdOp) (opcode need : Nat) (ranges : List (Nat × Nat)) (data : Block) (g : Cmd →
    Cmd) :
    (s.fwdAccept src f op opcode need ranges data g).mems = s.mems := by
  simp only [Dev.fwdAccept, Dev.mems_ite, ite_self, Dev.mems_acceptIo, Dev.mems_dataCame]

theorem Dev.mems_fwdResv (src : CmdSource) (f : Forwarded) (opcode st : Nat) (waits : List Nat) :
    (s.fwdResv src f opcode st waits).mems = s.mems := by
  simp only [Dev.fwdResv, Dev.mems_fwdAccept]

/-! #### `Machine/Recorder` -/

theorem Dev.mems_setRecStore (x : RecStore) : (s.setRecStore x).mems = s.mems := by
  simp only [Dev.setRecStore, Dev.mems_mk, Dev.mems_fold, Dev.mems_ite, ite_self]

theorem Dev.mems_placeRec (r : Rec) : (s.placeRec r).2.mems = s.mems := by
  unfold Dev.placeRec
  split <;> simp only [Dev.mems_mk, Dev.mems_fold, Dev.mems_dropSeverity, Dev.mems_setRecStore]

theorem Dev.mems_moveBuffer : s.moveBuffer.mems = s.mems := by
  simp only [Dev.moveBuffer, Dev.mems_mk, Dev.mems_fold, Dev.mems_ite, ite_self, Dev.mems_placeRec, Dev.mems_foldl, implies_true]

theorem Dev.mems_recSignal : s.recSignal.mems = s.mems := by
  simp only [Dev.recSignal, Dev.mems_mk, Dev.mems_fold, Dev.mems_ite, ite_self, Dev.mems_irqSource]

theorem Dev.mems_recIrq (v : Nat) : (s.recIrq v).mems = s.mems := by
  simp only [Dev.recIrq, Dev.mems_mk, Dev.mems_fold, Dev.mems_ite, ite_self, Dev.mems_recSignal]

theorem Dev.mems_takeOcc (o : Occ) : (s.takeOcc o).mems = s.mems := by
  have fresh : (match s.placeRec o.record with
      | (some k, s) => (s.emcyRecord o.record.severity o.record.id k).recIrq o.record.severity
      | (none, s) => s).mems = s.mems := by
    split
    all_goals
      next h =>
        have ht := congrArg (fun r : Option Nat × Dev => r.2.mems) h
        simp only [Dev.mems_placeRec] at ht
        simp only [Dev.mems_recIrq, Dev.mems_emcyRecord, ht]
  unfold Dev.takeOcc
  dsimp only
  split
  · split
    · exact Dev.mems_setRecStore ..
    · exact fresh
  · exact fresh

theorem Dev.mems_counterRefused (addr : Nat) : (s.counterRefused addr).mems = s.mems := (rfl)

theorem Dev.mems_advanceCounter (e : Nat × Nat) : (s.advanceCounter e).mems = s.mems := by
  simp only [Dev.advanceCounter, Dev.mems_mk, Dev.mems_fold, Dev.mems_ite, ite_self]

theorem Dev.mems_applySelections : s.applySelections.mems = s.mems := by
  simp only [Dev.applySelections, Dev.mems_mk, Dev.mems_fold, Dev.mems_ite, ite_self, Dev.mems_foldl, implies_true]

theorem Dev.mems_snapshotSections (finished : Nat) : (s.snapshotSections finished).2.mems = s.mems := by
  refine Dev.mems_foldl_snd (fun a e => ?_) _ ([], s)
  split <;> rfl

/-! #### `Machine/Startup` -/

theorem Dev.mems_storeNow (x : Storing) : (s.storeNow x).mems = s.mems := (rfl)

theorem Dev.mems_cutStores : s.cutStores.mems = s.mems := by
  simp only [Dev.cutStores, Dev.mems_mk, Dev.mems_fold, Dev.mems_ite, ite_self, Dev.mems_draw, Dev.mems_storeNow, Dev.mems_foldl, implies_true]

theorem Dev.mems_loadParams (sel : Nat → Bool) : (s.loadParams sel).mems = s.mems := (rfl)

theorem Dev.mems_loadObjects : s.loadObjects.mems = s.mems := (rfl)

theorem Dev.mems_canStart : s.canStart.mems = s.mems := (rfl)

theorem Dev.mems_firstRuns : s.firstRuns.mems = s.mems := (rfl)

theorem Dev.mems_feedsLost : s.feedsLost.mems = s.mems := by
  simp only [Dev.feedsLost, Dev.mems_ite, ite_self, Dev.mems_setFeed, Dev.mems_foldl, implies_true]

theorem Dev.mems_railsOff : s.railsOff.mems = s.mems := by
  simp only [Dev.railsOff, Dev.mems_railOff, Dev.mems_foldl, implies_true]

theorem Dev.mems_railOn (r : Nat) : (s.railOn r).mems = s.mems := (rfl)

theorem Dev.mems_diesRise : s.diesRise.mems = s.mems := (rfl)

theorem Dev.mems_freshParams (storeOk : Bool) : (s.freshParams storeOk).mems = s.mems := by
  simp only [Dev.freshParams, Dev.mems_mk, Dev.mems_fold, Dev.mems_ite, ite_self, Dev.mems_event]

/-! #### `Machine/Modes` -/

theorem Dev.mems_modeRefused (cmd : Nat) : (s.modeRefused cmd).mems = s.mems := (rfl)

theorem Dev.mems_modeCommand {f : Dev → Option Dev} (h : ∀ s t, f s = some t → t.mems = s.mems) (v : Via) (cmd : Nat) :
    (s.modeCommand v cmd f).mems = s.mems := by
  cases v with
  | reg r =>
    refine Dev.mems_regWrite ?_ _
    split
    next t ht =>
      split at ht
      · exact h _ _ ht
      · cases ht
    · exact Dev.mems_modeRefused ..
  | dict n =>
    simp only [Dev.modeCommand]
    split
    · exact Dev.mems_dictDenied ..
    · split
      next t ht => exact (Dev.mems_dictAnswer ..).trans (h _ _ ht)
      · simp only [Dev.mems_dictAnswer, Dev.mems_modeRefused]

theorem Dev.mems_leaveQuiesce (c : Nat) : (s.leaveQuiesce c).mems = s.mems := (rfl)

theorem Dev.mems_beginShutdown : s.beginShutdown.mems = s.mems := by
  simp only [Dev.beginShutdown, Dev.mems_mk, Dev.mems_fold, Dev.mems_setMeter, Dev.mems_emit, Dev.mems_foldl, implies_true]

/-! #### `Machine/FirmwareOps` -/

theorem Dev.mems_fwWarn : s.fwWarn.mems = s.mems := (rfl)

theorem Dev.mems_writeTrial (k : Nat) : (s.writeTrial k).mems = s.mems := (rfl)

theorem Dev.mems_beginGroup (g : Nat) : (s.beginGroup g).mems = s.mems := by
  simp only [Dev.beginGroup, Dev.mems_mk, Dev.mems_fold, Dev.mems_ite, ite_self]

theorem Dev.mems_liveChange (k : Nat) : (s.liveChange k).mems = s.mems := by
  simp only [Dev.liveChange, Dev.mems_mk, Dev.mems_fold, Dev.mems_writeTrial, Dev.mems_beginGroup]

theorem Dev.mems_returnItems (p : Nat) : (s.returnItems p).mems = s.mems := by
  simp only [Dev.returnItems, Dev.mems_mk, Dev.mems_fold, Dev.mems_ite, ite_self, Dev.mems_giveBack]

/-! #### `Machine/Dma` -/

theorem Dev.mems_dmaRefused (n addr : Nat) : (s.dmaRefused n addr).mems = s.mems := (rfl)

theorem Dev.mems_chanWrite {f : Dev → Dev} (h : (f s).mems = s.mems) (req : Requester) (n : Nat) (r : Reg) :
    (s.chanWrite req n r f).mems = s.mems := by
  refine Dev.mems_regWrite ?_ _
  simp only [Dev.mems_ite, h, Dev.mems_dmaRefused, ite_self]

theorem Dev.mems_shadowSet (n which : Nat) (v : Word) : (s.shadowSet n which v).mems = s.mems := by
  unfold Dev.shadowSet
  split <;> simp only [Dev.mems_setFld]

/-! #### `Machine/Ptp` -/

theorem Dev.mems_setPtp (p : Ptp) : (s.setPtp p).mems = s.mems := (rfl)

theorem Dev.mems_timeStep (c : Nat) : (s.timeStep c).mems = s.mems := by
  simp only [Dev.timeStep, Dev.mems_mk, Dev.mems_fold, Dev.mems_meterRoll, Dev.mems_meterStep]

/-! #### `Machine/Package` -/

theorem Dev.mems_readSensor (n : Nat) (t : Int) : (s.readSensor n t).mems = s.mems := (rfl)

theorem Dev.mems_thermalWarning (rs : List (Nat × Int)) : (s.thermalWarning rs).mems = s.mems := by
  simp only [Dev.thermalWarning, Dev.mems_mk, Dev.mems_fold, Dev.mems_ite, ite_self, Dev.mems_event]
  repeat' split
  all_goals simp only [Dev.mems_mk, Dev.mems_fold, Dev.mems_event]

theorem Dev.mems_ledgerTemps (rs : List (Nat × Int)) : (s.ledgerTemps rs).mems = s.mems := by
  unfold Dev.ledgerTemps
  split <;> simp only [Dev.mems_mk, Dev.mems_fold, Dev.mems_ite, ite_self, Dev.mems_setHot]

theorem Dev.mems_compositeNotice : s.compositeNotice.mems = s.mems := by
  refine Dev.mems_foldl (fun s k => ?_) _ s
  split
  · rfl
  · simp only [Dev.mems_ite, Dev.mems_asyncEvent, Dev.mems_setCtrl, ite_self]

theorem Dev.mems_holdTemps (rs : List (Nat × Int)) : (s.holdTemps rs).mems = s.mems := by
  simp only [Dev.holdTemps]
  split <;> simp only [Dev.mems_mk, Dev.mems_fold, Dev.mems_eventIf, Dev.mems_holdSettle]

/-! #### `Machine/View` -/

theorem Dev.mems_pairRead (req : Requester) (p : PairRead) : (s.pairRead req p).2.mems = s.mems := by
  unfold Dev.pairRead
  split <;> simp only [Dev.mems_mk, Dev.mems_fold]

theorem Dev.mems_loadLatches : s.loadLatches.mems = s.mems := (rfl)

/-! #### `Machine/RegWrite` -/

theorem Dev.mems_storeFields (x : RegInfo) (n : Nat) (w : Word) : (s.storeFields x n w).1.mems = s.mems := by
  refine Dev.mems_foldl_fst (fun a p => ?_) _ (s, abortOk)
  dsimp only
  split
  · split <;> rfl
  · split <;> rfl
  · rfl

theorem Dev.mems_ptpCfgWrite (x : RegInfo) (addr : Nat) (w : Word) : (s.ptpCfgWrite x addr w).1.mems = s.mems := by
  simp only [Dev.ptpCfgWrite]
  repeat' split
  all_goals simp only [Dev.mems_netRefused, Dev.mems_storeFields, Dev.mems_setPtp]

theorem Dev.mems_keyUseWrite (n : Nat) (w : Word) : (s.keyUseWrite n w).1.mems = s.mems := by
  simp only [Dev.keyUseWrite]
  repeat' split
  all_goals simp only [Dev.mems_custodyRefused, Dev.mems_setKeySlot]

theorem Dev.mems_storeReg (x : RegInfo) (n addr : Nat) (w : Word) : (s.storeReg x n addr w).1.mems = s.mems := by
  simp only [Dev.storeReg]
  repeat' split
  all_goals simp only [Dev.mems_mk, Dev.mems_fold, Dev.mems_ptpCfgWrite, Dev.mems_storeFields, Dev.mems_creditSync, Dev.mems_setMac,
      Dev.mems_tokensSync, Dev.mems_frontRefused, Dev.mems_nsFields, Dev.mems_keyUseWrite, Dev.mems_setFld, Dev.mems_volRefused,
      Dev.mems_epFnCfgWrite, Dev.mems_counterRefused, Dev.mems_bondDown, Dev.mems_event]

theorem Dev.mems_writeDenied {req : Requester} {x : RegInfo} {i addr : Nat} {t : Dev} (h : s.writeDenied req x i addr = some t) :
    t.mems = s.mems := by
  unfold Dev.writeDenied at h
  split at h
  · cases h
    exact Dev.mems_custodyRefused ..
  · split at h
    · cases h
      exact Dev.mems_counterRefused ..
    · split at h
      · cases h
        exact Dev.mems_dmaRefused ..
      · cases h

theorem Dev.mems_msixTableWrite (k : Nat) (w : Word) : (s.msixTableWrite k w).mems = s.mems := by
  simp only [Dev.msixTableWrite, Dev.mems_mk, Dev.mems_fold, Dev.mems_ite, ite_self, Dev.mems_setEpFn]

/-! #### `Machine/ObjectWrite` -/

theorem Dev.mems_setSdo (n : Nat) (x : Option Sdo) : (s.setSdo n x).mems = s.mems := (rfl)

theorem Dev.mems_answerRead (n : Nat) (size : ObjSize) (data : List Byte) (offset : Nat) : (s.answerRead n size data offset).mems = s.mems := by
  simp only [Dev.answerRead, Dev.mems_ite, ite_self, Dev.mems_dictAnswer, Dev.mems_emit, Dev.mems_setSession, Dev.mems_setSdo]
  repeat' split
  all_goals simp only [Dev.mems_dictAnswer]

theorem Dev.mems_drawNonce (n : Nat) : (s.drawNonce n).2.mems = s.mems := (rfl)

theorem Dev.mems_objectRead (n i b offset : Nat) : (s.objectRead n i b offset).mems = s.mems := by
  unfold Dev.objectRead
  split <;> simp only [Dev.mems_ite, ite_self, Dev.mems_dictAnswer, Dev.mems_dictDenied, Dev.mems_drawNonce, Dev.mems_answerRead]

theorem Dev.mems_written (n : Nat) (r : Dev × Nat) : (s.written n r).mems = r.1.mems := by
  simp only [Dev.written, Dev.mems_ite, Dev.mems_answerStored, Dev.mems_dictAnswer, ite_self]

theorem Dev.mems_within {f : Dev → Dev × Nat} (h : (f s).1.mems = s.mems) (w v : Nat) : (s.within w v f).1.mems = s.mems := by
  unfold Dev.within
  split
  · exact h
  · rfl

theorem Dev.mems_storePart (r : Reg) (f : Fld) (n v : Nat) : (s.storePart r f n v).1.mems = s.mems := by
  refine Dev.mems_within ?_ _ v
  split
  · exact Dev.mems_volRefused ..
  · split
    · rfl
    · simp only [Dev.mems_ite, Dev.mems_setFld, Dev.mems_tokensSync, ite_self]

theorem Dev.mems_nsObject (n which v : Nat) : (s.nsObject n which v).1.mems = s.mems := by
  have idle (r : Reg) {t : Dev × Nat} (ht : t.1.mems = s.mems) : (if s.nsIdle n then t else (s.frontRefused r, abortState)).1.mems = s.mems := by
    split
    · exact ht
    · exact Dev.mems_frontRefused ..
  unfold Dev.nsObject
  dsimp only
  split
  · refine Dev.mems_within ?_ 1 v
    split
    · simp only [Dev.mems_ite, Dev.mems_nsDeactivate, ite_self]
    · exact idle _ (Dev.mems_nsActivate ..)
  · exact idle _ (Dev.mems_storePart ..)
  · exact idle _ (Dev.mems_storePart ..)
  · exact idle _ (Dev.mems_storePart ..)
  · exact idle _ (Dev.mems_storePart ..)
  · exact idle _ (Dev.mems_within (by rfl) _ v)
  · exact idle _ (Dev.mems_within (by rfl) _ v)
  · exact Dev.mems_storePart ..

theorem Dev.mems_tenantObject (t which v : Nat) : (s.tenantObject t which v).1.mems = s.mems := by
  unfold Dev.tenantObject
  split <;> simp only [Dev.mems_tnCfgWrite, Dev.mems_policerWrite, Dev.mems_within, Dev.mems_storePart]

theorem Dev.mems_hostObject (h which v : Nat) : (s.hostObject h which v).1.mems = s.mems := by
  unfold Dev.hostObject
  split <;> simp only [Dev.mems_hostCfgWrite, Dev.mems_within]

theorem Dev.mems_winObject (w which v : Nat) : (s.winObject w which v).1.mems = s.mems := by
  simp only [Dev.winObject]
  repeat' split
  all_goals simp only [Dev.mems_windowRefused, Dev.mems_storePart, Dev.mems_within, Dev.mems_setFld]

theorem Dev.mems_memberObject (v i x : Nat) : (s.memberObject v i x).1.mems = s.mems := by
  simp only [Dev.memberObject]
  repeat' split
  all_goals simp only [Dev.mems_volRefused, Dev.mems_setFld]

theorem Dev.mems_ownObject (n i b : Nat) (data : List Byte) : (s.ownObject n i b data).mems = s.mems := by
  simp only [Dev.ownObject, Dev.mems_mk, Dev.mems_fold, Dev.mems_ite, ite_self, Dev.mems_dictAnswer, Dev.mems_queueStore]

theorem Dev.mems_nqnObject (n h : Nat) (data : List Byte) : (s.nqnObject n h data).mems = s.mems := by
  simp only [Dev.nqnObject, Dev.mems_mk, Dev.mems_fold, Dev.mems_ite, ite_self, Dev.mems_dictAnswer, Dev.mems_frontRefused, Dev.mems_queueStore]

theorem Dev.mems_objectApply (n i b : Nat) (o : Obj) (data : List Byte) : (s.objectApply n i b o data).mems = s.mems := by
  simp only [Dev.objectApply]
  repeat' split
  all_goals simp only [Dev.mems_dictAnswer, Dev.mems_written, Dev.mems_storeReg, Dev.mems_storePart, Dev.mems_nsObject, Dev.mems_tenantObject,
      Dev.mems_hostObject, Dev.mems_winObject, Dev.mems_memberObject, Dev.mems_portCfgWrite, Dev.mems_macIpWrite, Dev.mems_within,
      Dev.mems_mtrKeyWrite, Dev.mems_setFld, Dev.mems_ownObject, Dev.mems_nqnObject]

theorem Dev.mems_proof (n : Nat) (data : List Byte) : (s.proof n data).mems = s.mems := by
  simp only [Dev.proof, Dev.mems_ite, Dev.mems_setSession, Dev.mems_dictAnswer]
  repeat' split
  all_goals simp only [Dev.mems_mk, Dev.mems_fold, Dev.mems_setSession, Dev.mems_dictAnswer, Dev.mems_event]

theorem Dev.mems_sessionFalls (n : Nat) : (s.sessionFalls n).mems = s.mems := (rfl)

theorem Dev.mems_errorsClear (n v : Nat) : (s.errorsClear n v).mems = s.mems := by
  simp only [Dev.errorsClear, Dev.mems_ite, ite_self, Dev.mems_dictAnswer, Dev.mems_setCan]

theorem Dev.mems_privObject (n v : Nat) : (s.privObject n v).mems = s.mems := by
  simp only [Dev.privObject, Dev.mems_written, Dev.mems_within, Dev.mems_setFld]

/-! #### `Machine/Dictionary` -/

theorem Dev.mems_nmtTo (x : Nmt) : (s.nmtTo x).mems = s.mems := by
  simp only [Dev.nmtTo, Dev.mems_ite, ite_self, Dev.mems_event, Dev.mems_setCan]

theorem Dev.mems_communicationReset : s.communicationReset.mems = s.mems := by
  simp only [Dev.communicationReset, Dev.mems_mk, Dev.mems_fold, Dev.mems_nmtTo, Dev.mems_setSession, Dev.mems_canStart, Dev.mems_setCan,
      Dev.mems_forgetAnswer, Dev.mems_foldl, implies_true]

theorem Dev.mems_mappedValue (m : Nat) : (s.mappedValue m).2.mems = s.mems := by
  simp only [Dev.mappedValue]
  repeat' split
  all_goals simp only [Dev.mems_draw]

theorem Dev.mems_sendPdo (k : Nat) : (s.sendPdo k).mems = s.mems := by
  simp only [Dev.sendPdo, Dev.mems_ite, ite_self, Dev.mems_mappedValue, Dev.mems_emit, Dev.mems_setCan, Dev.mems_foldl_snd, implies_true]

theorem Dev.mems_pdoSync (k : Nat) : (s.pdoSync k).mems = s.mems := by
  simp only [Dev.pdoSync, Dev.mems_ite, ite_self, Dev.mems_sendPdo, Dev.mems_setCan]

/-! #### `Machine/Windows` -/

theorem Dev.mems_advanced (key now : Nat) : (s.advanced key now).2.mems = s.mems := (rfl)

theorem Dev.mems_counterAdvanced (c : Ctr) (i : Nat) : (s.counterAdvanced c i).2.mems = s.mems := (rfl)

theorem Dev.mems_takeMark (k : Nat) : (s.takeMark k).2.mems = s.mems := (rfl)

theorem Dev.mems_aggregated (die : Die) (id : Nat) (pre : List Byte) (n : Nat) : (s.aggregated die id pre n).mems = s.mems := by
  simp only [Dev.aggregated, Dev.mems_eventIf]

theorem Dev.mems_aggregateCounter (die : Die) (id : Nat) (c : Ctr) (i : Nat) : (s.aggregateCounter die id c i).mems = s.mems := by
  simp only [Dev.aggregateCounter, Dev.mems_counterAdvanced, Dev.mems_aggregated]

theorem Dev.mems_aggregateMark (die : Die) (id : Nat) (pre : List Byte) (k : Nat) : (s.aggregateMark die id pre k).mems = s.mems := by
  simp only [Dev.aggregateMark, Dev.mems_takeMark, Dev.mems_aggregated]

theorem Dev.mems_receiveDrops : s.receiveDrops.mems = s.mems := by
  simp only [Dev.receiveDrops, Dev.mems_counterAdvanced, Dev.mems_aggregated]

theorem Dev.mems_switchWindow : s.switchWindow.mems = s.mems := by
  simp only [Dev.switchWindow, Dev.mems_mk, Dev.mems_fold, Dev.mems_counterAdvanced, Dev.mems_eventIf, Dev.mems_aggregateCounter]

theorem Dev.mems_tenantWindow : s.tenantWindow.mems = s.mems := by
  simp only [Dev.tenantWindow, Dev.mems_mk, Dev.mems_fold, Dev.mems_counterAdvanced, Dev.mems_aggregated, Dev.mems_aggregateCounter]

theorem Dev.mems_frontWindow : s.frontWindow.mems = s.mems := by
  simp only [Dev.frontWindow, Dev.mems_mk, Dev.mems_fold, Dev.mems_aggregated]

theorem Dev.mems_pierWindow (p : Nat) : (s.pierWindow p).mems = s.mems := by
  simp only [Dev.pierWindow, Dev.mems_aggregateMark, Dev.mems_aggregateCounter]

theorem Dev.mems_volumeWindow (v : Nat) : (s.volumeWindow v).mems = s.mems := by
  simp only [Dev.volumeWindow, Dev.mems_aggregateMark, Dev.mems_foldl, implies_true]

theorem Dev.mems_plinthWindow : s.plinthWindow.mems = s.mems := by
  simp only [Dev.plinthWindow, Dev.mems_mk, Dev.mems_fold, Dev.mems_advanced, Dev.mems_aggregated, Dev.mems_eventIf]

theorem Dev.mems_dieWindows : s.dieWindows.mems = s.mems := by
  simp only [Dev.dieWindows, Dev.mems_frontWindow, Dev.mems_aggregateCounter, Dev.mems_receiveDrops, Dev.mems_switchWindow, Dev.mems_tenantWindow,
      Dev.mems_aggregateMark, Dev.mems_pierWindow, Dev.mems_volumeWindow, Dev.mems_foldl, implies_true]

end Mems

end Sys2Proof.Machine

/-!
PROOF. The operations that write a memory keep its canonical form: channels and the packets of the transport, resets and the fall of the dies; and
what a command answers from a device whose memories are canonical.
-/
namespace Sys2Proof.Machine

namespace Dev.MemOk

variable {s t : Dev}

theorem congr (h : s.MemOk) (e : t.mems = s.mems) : t.MemOk := by
  unfold Dev.MemOk
  rw [e]
  exact h

theorem ite {c : Prop} [Decidable c] (hs : s.MemOk) (ht : t.MemOk) : (if c then s else t).MemOk := by
  split
  · exact hs
  · exact ht

theorem foldl {α : Type} {f : Dev → α → Dev} (hf : ∀ s x, s.MemOk → (f s x).MemOk) (l : List α) (h : s.MemOk) : (l.foldl f s).MemOk := by
  induction l generalizing s with
  | nil => exact h
  | cons x l ih => exact ih (hf s x h)

theorem hbmWrite (h : s.MemOk) (a : Nat) (l : List Byte) : (s.hbmWrite a l).MemOk := ⟨Memory.wf_hbmWrite s a l h.1, h.2⟩

theorem placeBytes (h : s.MemOk) (i slot off : Nat) (l : List Byte) (a : Option Nat) : (s.placeBytes i slot off l a).MemOk := by
  obtain ⟨hhbm, hmem, hdurable⟩ := h
  simp only [Dev.MemOk, Dev.placeBytes, Dev.mems_meterWin, Dev.mems_ledgerWear, Dev.mems_mk]
  exact ⟨hhbm, Table.wf_putAll _ _ _ hmem, hdurable⟩

theorem makeDurable (h : s.MemOk) (p : WinByte → Bool) : (s.makeDurable p).MemOk := ⟨h.1, h.2.1, Memory.wf_makeDurable s p h.2.2⟩

theorem chanPut (h : s.MemOk) (space : Nat) (rs : List (Nat × Nat)) (data : List Byte) : (s.chanPut space rs data).MemOk := by
  induction rs generalizing s data with
  | nil => exact h
  | cons r rs ih =>
    unfold Dev.chanPut
    refine ih ?_ _
    split
    · exact h.congr (by simp only [Dev.mems_emit, Dev.mems_ledgerWear])
    · exact h.congr (Dev.mems_emit ..)
    · exact h.hbmWrite ..

theorem chanMix (h : s.MemOk) (n : Nat) : (s.chanMix n).MemOk := by
  unfold Dev.chanMix
  dsimp only
  split
  · split
    · exact h
    · split
      · exact (h.congr (Dev.mems_drawBytes ..)).chanPut ..
      · exact h
  · exact h

theorem chanAbort (h : s.MemOk) (n cause : Nat) : (s.chanAbort n cause).MemOk :=
  h.ite ((h.chanMix n).congr (by simp only [Dev.mems_event, Dev.mems_count, Dev.mems_setChan]))

theorem chansAbortRegion (h : s.MemOk) (r : Nat) : (s.chansAbortRegion r).MemOk := foldl (fun _ _ h => h.chanAbort ..) _ h

theorem discardRegion (h : s.MemOk) (r : Nat) : (s.discardRegion r).MemOk :=
  (h.chansAbortRegion r).congr (by simp only [Dev.discardRegion, Dev.mems_ite, Dev.mems_mk, Dev.mems_fold, ite_self])

theorem isolateRegion (h : s.MemOk) (r cause : Nat) : (s.isolateRegion r cause).MemOk :=
  h.ite (((h.congr (Dev.mems_setRegion ..)).discardRegion r).congr (Dev.mems_event ..))

theorem clusterReset (h : s.MemOk) (r c : Nat) (channels : List (Fin 128)) : (s.clusterReset r c channels).MemOk := by
  unfold Dev.clusterReset
  refine ite (isolateRegion ?_ ..) ?_
  all_goals
    refine foldl (fun _ _ h => h.chanAbort ..) _ (h.congr ?_)
    simp only [Dev.mems_emit, Dev.mems_event, Dev.mems_setRegion, Dev.mems_ite, Dev.mems_mk, Dev.mems_fold, ite_self]

theorem seamDown (h : s.MemOk) (k : Nat) : (s.seamDown k).MemOk :=
  foldl (fun _ _ h => h.isolateRegion ..) _ (h.congr (by simp only [Dev.mems_setSeam, Dev.mems_event]))

theorem recvWrite (h : s.MemOk) (i : Nat) (p : RocePacket) : (s.recvWrite i p).MemOk := by
  unfold Dev.recvWrite
  dsimp only
  refine ite (h.congr (Dev.mems_sendRnr ..)) ?_
  split
  · exact h.congr (Dev.mems_nakInvalidReq ..)
  next m _ =>
    refine ite (h.congr (Dev.mems_nakInvalidReq ..)) (ite (h.congr (Dev.mems_keyRefused ..)) (ite (h.congr (Dev.mems_windowFailed ..)) ?_))
    exact ((h.congr (Dev.mems_count .RD_RX_PKTS 0 1)).placeBytes i m.slot m.off p.data none).congr (by simp only [Dev.mems_requestDone,
        Dev.mems_setQp])

theorem recvAtomic (h : s.MemOk) (i : Nat) (p : RocePacket) : (s.recvAtomic i p).MemOk :=
  ite (h.congr (Dev.mems_sendRnr ..)) (ite (h.congr (Dev.mems_nakInvalidReq ..)) (ite (h.congr (Dev.mems_keyRefused ..))
    (ite (h.congr (Dev.mems_windowFailed ..)) (((h.congr (Dev.mems_count .RD_RX_PKTS 0 1)).placeBytes i (p.rkey.toNat % 4096) p.va p.data (some
        s.rdma.atoms)).congr (by
      simp only [Dev.mems_requestDone, Dev.mems_mk, Dev.mems_fold])))))

theorem recvNew (h : s.MemOk) (i : Nat) (p : RocePacket) : (s.recvNew i p).MemOk := by
  have hq : (if (s.qp i).st = .rtr then s.setQp i { s.qp i with st := .rts, since := s.nowOn .ln } else s).MemOk := (h.congr (Dev.mems_setQp ..)).ite
      h
  unfold Dev.recvNew
  dsimp only
  generalize (if (s.qp i).st = .rtr then s.setQp i { s.qp i with st := .rts, since := s.nowOn .ln } else s) = d at hq ⊢
  generalize hc : (if (s.qp i).ctrl.isSome && d.flag .TN_CFG_ENABLE (s.qp i).tenant then
    d.police (s.qp i).tenant p.bytes (if opSend.contains p.opcode then p.dataLen else 0) else (.green, d)) = c
  have hd : c.2.MemOk := by
    rw [← hc]
    split
    · exact hq.congr (Dev.mems_police ..)
    · exact hq
  exact ite hd (ite (hd.congr (Dev.mems_recvSend ..)) (ite (hd.recvWrite ..) (ite (hd.congr (Dev.mems_recvRead ..)) (ite (hd.congr (Dev.mems_recvFlush
      ..))
    (ite (hd.recvAtomic ..) (hd.congr (Dev.mems_nakInvalidReq ..)))))))

theorem recvRequest (h : s.MemOk) (i : Nat) (p : RocePacket) : (s.recvRequest i p).MemOk :=
  ite (h.recvNew ..) (ite (h.congr (Dev.mems_recvDuplicate ..)) (ite (h.congr (Dev.mems_requestError (fun _ => Dev.mems_eventOpenCause ..) ..)) (ite h
    (h.congr (by simp only [Dev.mems_sendNak, Dev.mems_count, Dev.mems_setQp])))))

theorem rocePacket (h : s.MemOk) (p : RocePacket) : (s.rocePacket p).MemOk :=
  have hq : (s.count .RD_RX_NO_QP).MemOk := h.congr (Dev.mems_count ..)
  ite h (ite (h.congr (Dev.mems_count ..)) (ite hq (ite (ite hq (h.congr (Dev.mems_recvResponse ..)))
    (ite (h.congr (by simp only [Dev.mems_sendNak, Dev.mems_count])) (h.recvRequest ..)))))

theorem packetOf (h : s.MemOk) (ops : List Nat) (p : RocePacket) : (s.packetOf ops p).MemOk := ite (h.rocePacket p) h

theorem fence (h : s.MemOk) (p : Nat) (dispute : Option (List Nat × List Nat)) : (s.fence p dispute).MemOk :=
  ite h ((h.congr (by simp only [Dev.mems_event, Dev.mems_count, Dev.mems_mk, Dev.mems_setPierOwn, Dev.mems_fold])).isolateRegion ..)

theorem chanHalt (h : s.MemOk) (n err entry addr : Nat) : (s.chanHalt n err entry addr).MemOk :=
  (ite (c := err = 5) (h.chanMix n) h).congr (by
    simp only [Dev.chanHalt, Dev.mems_ite, Dev.mems_event, Dev.mems_count, Dev.mems_setChan, ite_self])

theorem chanLoad (h : s.MemOk) (n : Nat) : (s.chanLoad n).MemOk := by
  unfold Dev.chanLoad
  dsimp only
  refine ite h ?_
  split
  · exact (h.congr (Dev.mems_setChan ..)).chanHalt ..
  · split
    · exact (h.congr (Dev.mems_setChan ..)).chanHalt ..
    · exact h.congr (Dev.mems_setChan ..)

theorem chanPrefix (h : s.MemOk) (n : Nat) : (s.chanPrefix n).MemOk := by
  unfold Dev.chanPrefix
  dsimp only
  split
  · split
    · refine (MemOk.chanPut ?_ ..).congr ((Dev.mems_count ..).trans (Dev.mems_setChan ..))
      split
      · exact h.congr (Dev.mems_drawBytes ..)
      · exact h
    · exact h
  · exact h

theorem chansAbortBus (h : s.MemOk) : s.chansAbortBus.MemOk := foldl (fun _ _ h => h.chanAbort ..) _ h

theorem pf1Reset (h : s.MemOk) : s.pf1Reset.MemOk :=
  h.chansAbortBus.congr (by simp only [Dev.pf1Reset, Dev.mems_mk, Dev.mems_fold, Dev.mems_setEpFn, Dev.mems_setSession, Dev.mems_forgetAnswer,
      Dev.mems_setFld,
    Dev.mems_foldl, implies_true])

theorem endpointReset (h : s.MemOk) : s.endpointReset.MemOk :=
  MemOk.congr (h.congr (by simp only [Dev.mems_pf0Reset, Dev.mems_mk, Dev.mems_fold])).pf1Reset (Dev.mems_eventIf ..)

/-- The dies' fall empties the HBM and leaves in the windows what had become durable, with what the fall caught half-way. -/
theorem diesFall (h : s.MemOk) : s.diesFall.MemOk := by
  obtain ⟨hmem, hdurable⟩ := Memory.wf_windowsAfterLoss s h.2.2
  exact ⟨rfl, hmem, hdurable⟩

theorem plinthReset (h : s.MemOk) (keep : Bool) : (s.plinthReset keep).MemOk :=
  h.diesFall.congr (by simp only [Dev.plinthReset, Dev.mems_holdSettle, Dev.mems_loadObjects, Dev.mems_loadParams, Dev.mems_mk, Dev.mems_fold,
    Dev.mems_eraseKeys, Dev.mems_cutStores])

theorem packageReset (h : s.MemOk) : s.packageReset.MemOk := (h.plinthReset true).congr (Dev.mems_firstRuns ..)

theorem resetToImage (h : s.MemOk) : s.resetToImage.MemOk :=
  ((h.congr (Dev.mems_writeTrial s.fw.inactive)).plinthReset true).congr (by simp only [Dev.resetToImage, Dev.mems_canStart, Dev.mems_event,
      Dev.mems_mk, Dev.mems_fold])

end Dev.MemOk

/-- The command answers a next state whose memories are canonical. -/
def Result.MemOk (r : Result) : Prop := ∃ t, r = .next t ∧ t.dev.MemOk

namespace Dev.MemOk

variable {s : State}

theorem runs (h : s.dev.MemOk) {f : Dev → Dev} (hf : ∀ d, d.MemOk → (f d).MemOk) : (s.run f).MemOk := by
  refine ⟨_, rfl, ?_⟩
  have hd := hf s.dev.quiet h
  simpa only [Dev.MemOk, Dev.mems, State.after_dma, State.after_rdma] using hd

theorem runsIf (h : s.dev.MemOk) {c : Bool} {f : Dev → Dev} (hf : ∀ d, d.MemOk → (f d).MemOk) : (s.runIf c f).MemOk :=
  h.runs (fun d hd => (hf d hd).ite hd)

theorem run (h : s.dev.MemOk) {f : Dev → Dev} (hf : ∀ d, (f d).mems = d.mems) : (s.run f).MemOk := h.runs (fun d hd => hd.congr (hf d))

theorem runIf (h : s.dev.MemOk) {c : Bool} {f : Dev → Dev} (hf : ∀ d, (f d).mems = d.mems) : (s.runIf c f).MemOk :=
  h.runsIf (fun d hd => hd.congr (hf d))

theorem andThen {r : Result} {f : State → Result} (h : r.MemOk) (hf : ∀ t : State, t.dev.MemOk → (f t).MemOk) : (andThen r f).MemOk := by
  obtain ⟨t, ht, hd⟩ := h
  obtain ⟨u, hu, hw⟩ := hf t hd
  exact ⟨{ u with dev := { u.dev with out := t.dev.out ++ u.dev.out } }, by simp only [Machine.andThen, ht, hu], hw⟩

theorem inSession (h : s.dev.MemOk) {n : Nat} {f : State → Result} (hf : s.dev.MemOk → (f s).MemOk) : (s.inSession n f).MemOk := by
  unfold State.inSession
  split
  · exact hf h
  · exact h.run (fun _ => rfl)

theorem oapRequest (h : s.dev.MemOk) (m : OapMsg) (op : Nat) {f : List Byte → State → Result}
    (hf : ∀ {s : State} (data : List Byte), s.dev.MemOk → (f data s).MemOk) : (s.oapRequest m op f).MemOk := by
  unfold State.oapRequest
  dsimp only
  split
  · exact h.run (fun _ => rfl)
  · split
    · exact h.run (fun _ => Dev.mems_emit ..)
    · split
      · exact h.run (fun _ => rfl)
      · split
        · exact h.run (fun _ => Dev.mems_oapRespond ..)
        · split
          · split
            · exact h.run (fun _ => rfl)
            · refine andThen (h.run (fun _ => Dev.mems_setSession ..)) (fun t ht => ?_)
              split
              · exact ht.run (fun _ => Dev.mems_dictAnswer ..)
              · exact hf _ ht
          · exact h.run (fun _ => by simp only [Dev.mems_setSession, Dev.mems_oapRespond])

end Dev.MemOk

end Sys2Proof.Machine

/-!
PROOF. The commands whose effect writes no memory answer with memories as canonical as they were.
-/
namespace Sys2Proof.Machine

section Commands

variable {s : State}

/-! #### `Machine/Switch` -/

theorem memOk_execUnitAdmitRetry (h : s.dev.MemOk) (unit : Nat) : (execUnitAdmitRetry unit s).MemOk := h.run (fun _ => Dev.mems_admitRetry ..)

theorem memOk_execFrameCross (h : s.dev.MemOk) (output : Fin 16) (mac : Fin 64) (read : PoolRead) :
    (execFrameCross output mac read s).MemOk :=
  h.runIf (fun _ => Dev.mems_frameCross ..)

theorem memOk_execSwFreeMinRead (h : s.dev.MemOk) (req : Requester) : (execSwFreeMinRead req s).MemOk := h.runIf (fun _ => Dev.mems_answer ..)

theorem memOk_execSwVoqStatRead (h : s.dev.MemOk) (req : Requester) (drop : Bool) : (execSwVoqStatRead req drop s).MemOk :=
  h.runIf (fun _ => by simp only [Dev.mems_mk, Dev.mems_fold, Dev.mems_ite, ite_self, Dev.mems_answer])

/-! #### `Machine/Access` -/

theorem memOk_execCsUnmappedAccess (h : s.dev.MemOk) (req : Requester) (addr : BitVec 32) (write : Bool) :
    (execCsUnmappedAccess req addr write s).MemOk :=
  h.runIf (fun _ => Dev.mems_csAccess ..)

theorem memOk_execCsIsolatedAccess (h : s.dev.MemOk) (req : Requester) (addr : BitVec 32) (write : Bool) :
    (execCsIsolatedAccess req addr write s).MemOk :=
  h.runIf (fun _ => Dev.mems_csAccess ..)

theorem memOk_execCsMisalignedAccess (h : s.dev.MemOk) (req : Requester) (addr : BitVec 32) (write : Bool) :
    (execCsMisalignedAccess req addr write s).MemOk :=
  h.runIf (fun _ => Dev.mems_csAccess ..)

/-! #### `Machine/Cipher` -/

theorem memOk_execKeyGenerate (h : s.dev.MemOk) (via : KeyVia) : (execKeyGenerate via s).MemOk := by
  refine h.run (fun d => Dev.mems_keyCommand (fun a b t ht => ?_) via)
  obtain ⟨-, ht⟩ := Option.ite_none_right_eq_some.mp ht
  cases ht
  simp only [Dev.mems_startKey, Dev.mems_draw]

theorem memOk_execKeyImport (h : s.dev.MemOk) (via : KeyVia) : (execKeyImport via s).MemOk := by
  refine h.run (fun d => ?_)
  simp only [Dev.mems_ite, Dev.mems_clearKeyData, ite_self]
  refine Dev.mems_keyCommand (fun a b t ht => ?_) via
  split at ht
  · cases ht
  · split at ht
    · obtain ⟨-, ht⟩ := Option.ite_none_right_eq_some.mp ht
      cases ht
      exact Dev.mems_startKey ..
    · cases ht

theorem memOk_execKeyCommandComplete (h : s.dev.MemOk) (kind : Fin 4) (slot : Fin 4096) : (execKeyCommandComplete kind slot s).MemOk := by
  refine h.run (fun d => ?_)
  repeat' split
  all_goals simp only [Dev.mems_clearKeyData, Dev.mems_fillKey]

theorem memOk_execKeyDestroyComplete (h : s.dev.MemOk) (kind : Fin 4) (slot : Fin 4096) : (execKeyDestroyComplete kind slot s).MemOk :=
  h.run (fun _ => by simp only [Dev.mems_ite, ite_self, Dev.mems_emptyKey])

theorem memOk_execSecretInject (h : s.dev.MemOk) (session : Nat) (enc : Bool) (secret : BitVec 256) : (execSecretInject session enc secret s).MemOk :=
  h.run (fun _ => by simp only [Dev.mems_ite, ite_self, Dev.mems_secretWrite, Dev.mems_sealSecret, Dev.mems_takeSecret, Dev.mems_firstSecret,
      Dev.mems_dictAnswer, Dev.mems_setSession, Dev.mems_secretRefused])

theorem memOk_execSecretChange (h : s.dev.MemOk) (session : Nat) (enc : Bool) (old new : BitVec 256) :
    (execSecretChange session enc old new s).MemOk :=
  h.run (fun _ => by simp only [Dev.mems_mk, Dev.mems_fold, Dev.mems_ite, ite_self, Dev.mems_dictDenied, Dev.mems_secretWrite, Dev.mems_firstSecret,
      Dev.mems_dictAnswer, Dev.mems_event, Dev.mems_sealSecret, Dev.mems_takeSecret, Dev.mems_secretRefused])

theorem memOk_execAlarm (h : s.dev.MemOk) (sources : List AlarmSource) : (execAlarm sources s).MemOk := h.run (fun _ => Dev.mems_alarm ..)

theorem memOk_execUnderVoltage (h : s.dev.MemOk) (supply : GlitchSupply) (mv : Nat) : (execUnderVoltage supply mv s).MemOk := by
  refine h.run (fun d => ?_)
  dsimp only
  split <;> simp only [Dev.mems_mk, Dev.mems_fold, Dev.mems_ite, ite_self, Dev.mems_eraseKeys]

theorem memOk_execUnderVoltageRecover (h : s.dev.MemOk) : (execUnderVoltageRecover s).MemOk := by
  refine h.run (fun d => ?_)
  repeat' split
  all_goals simp only [Dev.mems_alarm]

theorem memOk_execRngTestFail (h : s.dev.MemOk) : (execRngTestFail s).MemOk := h.run (fun _ => Dev.mems_eventIf ..)

theorem memOk_execRngTestPass (h : s.dev.MemOk) : (execRngTestPass s).MemOk := h.run (fun _ => rfl)

theorem memOk_execAlmCfgWrite (h : s.dev.MemOk) (via : Via) (value : Word) : (execAlmCfgWrite via value s).MemOk := by
  refine h.run (fun d => ?_)
  dsimp only
  split <;> simp only [Dev.mems_ite, ite_self, Dev.mems_custodyRefused, Dev.mems_custodianWrite, Dev.mems_storedVia, Dev.mems_setFld,
      Dev.mems_answerVia, Dev.mems_regWrite]

theorem memOk_execOffloadDoorbell (h : s.dev.MemOk) (req : Requester) (tail : Word) (descs : List OffloadDesc) :
    (execOffloadDoorbell req tail descs s).MemOk :=
  h.run (fun _ => by simp only [Dev.mems_ite, ite_self, Dev.mems_regWrite, Dev.mems_setFld, Dev.mems_takeJobs])

theorem memOk_execOffloadJobComplete (h : s.dev.MemOk) (index : Word) (transferOk : Bool) (aad data tag : List Byte) :
    (execOffloadJobComplete index transferOk aad data tag s).MemOk := by
  refine h.runIf (fun d => ?_)
  dsimp only
  repeat' split
  all_goals simp only [Dev.mems_mk, Dev.mems_fold, Dev.mems_emit, Dev.mems_advanceHead, Dev.mems_count, Dev.mems_irqSource]

/-! #### `Machine/Journal` -/

theorem memOk_execRecordOpen (h : s.dev.MemOk) (cmd : Nat) : (execRecordOpen cmd s).MemOk := by
  refine h.run (fun d => ?_)
  split
  · rfl
  next c _ =>
    extract_lets p full plans rows len units v d1 first last kinds g d2 d3 d4 d5 d6 r touched v' d7 d8 seq d9
    have h1 : d1.mems = d.mems := by
      unfold d1
      repeat' split
      all_goals simp only [Dev.mems_stampAll, Dev.mems_checkpoint, Dev.mems_setVol]
    have h6 : d6.mems = d5.mems := by
      unfold d6
      split
      · simp only [Dev.mems_ite, Dev.mems_addMark, ite_self]
      · rfl
    simp only [Dev.mems_ite, Dev.mems_endCmd, Dev.mems_journalWait, Dev.mems_setCmd, d9, Dev.mems_mirrorSend, d8, Dev.mems_appendRec, d7,
        Dev.mems_setVol,
      h6, d5, d4, d3, d2, Dev.mems_count, Dev.mems_countXts, h1, ite_self]

theorem memOk_execRecordCommit (h : s.dev.MemOk) (pier : Fin 2) (seq : Nat) : (execRecordCommit pier seq s).MemOk := by
  refine h.run (fun d => ?_)
  dsimp only
  split <;> simp only [Dev.mems_ite, ite_self, Dev.mems_count, Dev.mems_setRec, Dev.mems_unlist, Dev.mems_stageRows, Dev.mems_writeDurable]

theorem memOk_execRecordApplyStart (h : s.dev.MemOk) (pier : Fin 2) (seq : Nat) : (execRecordApplyStart pier seq s).MemOk := by
  refine h.run (fun d => ?_)
  split
  · rfl
  · split
    · rfl
    · dsimp only
      split
      · exact Dev.mems_setBits ..
      · refine (Dev.mems_foldl (fun d y => ?_) _ _).trans (Dev.mems_setRec ..)
        split <;> simp only [Dev.mems_setRec, Dev.mems_applyRow]

theorem memOk_execRecordRetire (h : s.dev.MemOk) (pier : Fin 2) (seq : Nat) : (execRecordRetire pier seq s).MemOk := by
  refine h.run (fun d => ?_)
  repeat' split
  all_goals simp only [Dev.mems_writeDurable, Dev.mems_retire]

theorem memOk_execMemberFlushComplete (h : s.dev.MemOk) (id : Nat) (ok : Bool) : (execMemberFlushComplete id ok s).MemOk := by
  refine h.run (fun d => ?_)
  dsimp only
  repeat' split
  all_goals simp only [Dev.mems_mk, Dev.mems_fold, Dev.mems_setDrive, Dev.mems_useDurable, Dev.mems_flushFor, Dev.mems_count, Dev.mems_regather,
      Dev.mems_memberFail, Dev.mems_memberCmd, Dev.mems_foldl, implies_true]

theorem memOk_execWriteHoleClear (h : s.dev.MemOk) (volume : Fin 64) (region : Nat) : (execWriteHoleClear volume region s).MemOk :=
  h.run (fun _ => by simp only [Dev.mems_ite, ite_self, Dev.mems_setVol, Dev.mems_reservedWrite, Dev.mems_count])

theorem memOk_execSecondaryCopy (h : s.dev.MemOk) (pier : Fin 2) (seq : Nat) : (execSecondaryCopy pier seq s).MemOk := by
  refine h.run (fun d => ?_)
  dsimp only
  split <;> simp only [Dev.mems_ite, ite_self, Dev.mems_setRec, Dev.mems_count, Dev.mems_memberCmd, Dev.mems_foldl, implies_true]

/-! #### `Machine/Volumes` -/

theorem memOk_execVolumeCreate (h : s.dev.MemOk) (via : Via) (volume : Fin 64) : (execVolumeCreate via volume s).MemOk := by
  refine h.run (fun d => Dev.mems_viaCommand ?_ via _)
  dsimp only
  split
  · exact Dev.mems_volRefused ..
  · simp only [Dev.mems_checkpoint, Dev.mems_stampAll, Dev.mems_foldl, Dev.mems_emit, Dev.mems_event, Dev.mems_setDrive, Dev.mems_volState,
      Dev.mems_setVol,
      Dev.mems_draw, implies_true]

theorem memOk_execVolumeCreateComplete (h : s.dev.MemOk) (volume : Fin 64) : (execVolumeCreateComplete volume s).MemOk :=
  h.run (fun _ => by simp only [Dev.mems_ite, ite_self, Dev.mems_generateKey, Dev.mems_count, Dev.mems_setVol, Dev.mems_reservedWrite, Dev.mems_event,
      Dev.mems_volState])

theorem memOk_execVolumeDelete (h : s.dev.MemOk) (via : Via) (volume : Fin 64) : (execVolumeDelete via volume s).MemOk := by
  refine h.run (fun d => Dev.mems_viaCommand ?_ via _)
  dsimp only
  split
  · exact Dev.mems_volRefused ..
  · simp only [Dev.mems_foldl, Dev.mems_reservedWrite, Dev.mems_volState, Dev.mems_fillPlaces, Dev.mems_setVol, implies_true]

theorem memOk_execVolumeDeleteComplete (h : s.dev.MemOk) (volume : Fin 64) : (execVolumeDeleteComplete volume s).MemOk := by
  refine h.run (fun d => ?_)
  dsimp only
  split
  · rfl
  · simp only [Dev.mems_setVol, Dev.mems_event, Dev.mems_ite, Dev.mems_emptyKey, ite_self]
    refine Dev.mems_foldl (fun d e => ?_) _ d
    split
    · split <;> simp only [Dev.mems_driveState, Dev.mems_setDrive]
    · rfl

theorem memOk_execAccumulatorClaim (h : s.dev.MemOk) (cmd stripe : Nat) : (execAccumulatorClaim cmd stripe s).MemOk := by
  refine h.run (fun d => ?_)
  dsimp only
  split <;> simp only [Dev.mems_ite, ite_self, Dev.mems_setCmd, Dev.mems_setPier, Dev.mems_count]

theorem memOk_execStagingAdmit (h : s.dev.MemOk) (cmd : Nat) : (execStagingAdmit cmd s).MemOk := by
  refine h.run (fun d => ?_)
  dsimp only
  repeat' split
  all_goals simp only [Dev.mems_setCmd, Dev.mems_addMark, Dev.mems_count]

theorem memOk_execMemberReadComplete (h : s.dev.MemOk) (id : Nat) (result : MemberEnd) (stored : List Byte) :
    (execMemberReadComplete id result stored s).MemOk := by
  refine h.run (fun d => ?_)
  dsimp only
  repeat' split
  all_goals simp only [Dev.mems_mk, Dev.mems_fold, Dev.mems_readDone, Dev.mems_countXts, Dev.mems_count, Dev.mems_memberCmd, Dev.mems_addMark]

/-! #### `Machine/Ledger` -/

theorem memOk_execMramDieFail (h : s.dev.MemOk) (die : Fin 4) : (execMramDieFail die s).MemOk :=
  h.run (fun _ => by simp only [Dev.mems_mk, Dev.mems_fold, Dev.mems_ite, ite_self, Dev.mems_dropLedgerRecords, Dev.mems_event])

theorem memOk_execWearCounterSave (h : s.dev.MemOk) : (execWearCounterSave s).MemOk := h.runIf (fun _ => rfl)

theorem memOk_execWindowRemap (h : s.dev.MemOk) (slot : Fin 4096) (die : Fin 4) (phys : Fin 4096) :
    (execWindowRemap slot die phys s).MemOk :=
  h.runIf (fun _ => rfl)

theorem memOk_execSegmentRemap (h : s.dev.MemOk) (segment : Fin 16384) (die : Fin 4) (phys : Fin 4096) :
    (execSegmentRemap segment die phys s).MemOk := by
  refine h.run (fun d => ?_)
  simp only [Dev.mems_mk, Dev.mems_fold, Dev.mems_ite, ite_self, Dev.mems_event, Dev.mems_count, Dev.mems_eventIf, Dev.mems_withdraw]
  repeat' split
  all_goals simp only [Dev.mems_mk, Dev.mems_fold, Dev.mems_event, Dev.mems_count, Dev.mems_withdraw]

theorem memOk_execRepointSegment (h : s.dev.MemOk) (corrected repaired : Nat) (lost : List (BitVec 30)) :
    (execRepointSegment corrected repaired lost s).MemOk :=
  h.run (fun _ => by simp only [Dev.mems_mk, Dev.mems_fold, Dev.mems_ite, ite_self, Dev.mems_count, Dev.mems_linesFound, Dev.mems_event])

theorem memOk_execHotClear (h : s.dev.MemOk) : (execHotClear s).MemOk := h.runIf (fun _ => Dev.mems_setHot ..)

/-! #### `Machine/Ports` -/

theorem memOk_execPortCfgWrite (h : s.dev.MemOk) (req : Requester) (port : Fin 8) (value : Word) : (execPortCfgWrite req port value s).MemOk :=
  h.run (fun _ => by simp only [Dev.mems_regWrite, Dev.mems_portCfgWrite])

theorem memOk_execMacEnable (h : s.dev.MemOk) (req : Requester) (mac : Fin 64) (value : Word) : (execMacEnable req mac value s).MemOk :=
  h.run (fun _ => by simp only [Dev.mems_regWrite, Dev.mems_macCfgWrite])

theorem memOk_execMacIpWrite (h : s.dev.MemOk) (req : Requester) (mac : Fin 64) (which : Fin 5) (value : Word) :
    (execMacIpWrite req mac which value s).MemOk :=
  h.run (fun _ => by simp only [Dev.mems_regWrite, Dev.mems_macIpWrite])

theorem memOk_execLinkUp (h : s.dev.MemOk) (mac : Fin 64) (lockedNs : Nat) (eeeAble partnerEee : Bool) (twMinUs : Nat) :
    (execLinkUp mac lockedNs eeeAble partnerEee twMinUs s).MemOk :=
  h.runIf (fun _ => rfl)

theorem memOk_execLinkDown (h : s.dev.MemOk) (mac : Fin 64) : (execLinkDown mac s).MemOk := h.run (fun _ => Dev.mems_macDown ..)

theorem memOk_execDuplicateAddressDetectionEnd (h : s.dev.MemOk) (mac : Fin 64) (globalDup linkLocalDup : Bool) :
    (execDuplicateAddressDetectionEnd mac globalDup linkLocalDup s).MemOk :=
  h.runIf (fun _ => by simp only [Dev.mems_setMac, Dev.mems_eventIf])

theorem memOk_execFrameReceive (h : s.dev.MemOk) (mac : Fin 64) (frame : RxFrame) :
    (execFrameReceive mac frame s).MemOk :=
  h.runIf (fun _ => Dev.mems_frameReceive ..)

theorem memOk_execAddressResolutionFrame (h : s.dev.MemOk) (mac : Fin 64) (ask : ResolutionAsk) : (execAddressResolutionFrame mac ask s).MemOk :=
  h.runIf (fun _ => by simp only [Dev.mems_controlFrame, Dev.mems_emit])

theorem memOk_execTransmissionSelection (h : s.dev.MemOk) (mac : Fin 64) :
    (execTransmissionSelection mac s).MemOk :=
  h.runIf (fun _ => Dev.mems_transmissionSelect ..)

theorem memOk_execFrameTransmitEnd (h : s.dev.MemOk) (mac : Fin 64) :
    (execFrameTransmitEnd mac s).MemOk :=
  h.run (fun _ => Dev.mems_frameTransmitEnd ..)

theorem memOk_execCbsCreditZero (h : s.dev.MemOk) (mac : Fin 64) (queue : Fin 3) :
    (execCbsCreditZero mac queue s).MemOk :=
  h.runIf (fun _ => Dev.mems_creditSync ..)

theorem memOk_execCbsSlopeWrite (h : s.dev.MemOk) (req : Requester) (mac : Fin 64) (queue : Fin 3) (value : Word) :
    (execCbsSlopeWrite req mac queue value s).MemOk :=
  h.run (fun _ => by simp only [Dev.mems_regWrite, Dev.mems_cbsSlopeWrite])

theorem memOk_execLpiEnter (h : s.dev.MemOk) (mac : Fin 64) : (execLpiEnter mac s).MemOk := h.runIf (fun _ => rfl)

theorem memOk_execLpiWake (h : s.dev.MemOk) (mac : Fin 64) (queue : Fin 4) (bytes : Nat) : (execLpiWake mac queue bytes s).MemOk :=
  h.runIf (fun _ => by simp only [Dev.mems_submitUnit, Dev.mems_creditSync])

theorem memOk_execLpiWakeEnd (h : s.dev.MemOk) (mac : Fin 64) : (execLpiWakeEnd mac s).MemOk := h.runIf (fun _ => Dev.mems_setMac ..)

theorem memOk_execLldpEeeTlvReceive (h : s.dev.MemOk) (mac : Fin 64) (receiveTw transmitTw : Nat) :
    (execLldpEeeTlvReceive mac receiveTw transmitTw s).MemOk :=
  h.runIf (fun _ => Dev.mems_lldpReceive ..)

theorem memOk_execLldpTransmit (h : s.dev.MemOk) (mac : Fin 64) : (execLldpTransmit mac s).MemOk :=
  h.runIf (fun _ => by simp only [Dev.mems_controlFrame, Dev.mems_emit])

/-! #### `Machine/Tenants` -/

theorem memOk_execTenantEnable (h : s.dev.MemOk) (req : Requester) (pol shp : Bool) (weight : Fin 256) :
    (execTenantEnable req pol shp weight s).MemOk :=
  h.run (fun _ => by simp only [Dev.mems_regWrite, Dev.mems_tnCfgWrite])

theorem memOk_execPolicerConfigWrite (h : s.dev.MemOk) (req : Requester) (which : Fin 4) (value : Word) :
    (execPolicerConfigWrite req which value s).MemOk :=
  h.run (fun _ => by simp only [Dev.mems_regWrite, Dev.mems_policerWrite])

theorem memOk_execFrameRelease (h : s.dev.MemOk) (mac : Fin 64) (eq3 : Bool) : (execFrameRelease mac eq3 s).MemOk :=
  h.runIf (fun _ => by simp only [Dev.mems_ite, ite_self, Dev.mems_releaseEq3, Dev.mems_releaseEq2])

theorem memOk_execTenantEligible (h : s.dev.MemOk) (tenant : Fin 1024) :
    (execTenantEligible tenant s).MemOk :=
  h.runIf (fun _ => Dev.mems_tokensSync ..)

theorem memOk_execClassPromotion (h : s.dev.MemOk) (mac : Fin 64) (tenant : Fin 1024) (cls : Fin 4) :
    (execClassPromotion mac tenant cls s).MemOk :=
  h.runIf (fun _ => Dev.mems_count ..)

theorem memOk_execHistogramSample (h : s.dev.MemOk) : (execHistogramSample s).MemOk :=
  h.runIf (fun _ => by simp only [Dev.mems_histAdd, Dev.mems_foldl, implies_true])

theorem memOk_execHistBinRead (h : s.dev.MemOk) (req : Requester) (bin : Fin 32) : (execHistBinRead req bin s).MemOk :=
  h.run (fun _ => by simp only [Dev.mems_mk, Dev.mems_fold, Dev.mems_regRead])

theorem memOk_execMeterWindowEnd (h : s.dev.MemOk) (failed : List Nat) : (execMeterWindowEnd failed s).MemOk :=
  h.run (fun _ => by simp only [Dev.mems_meterWriteAll, Dev.mems_meterRoll])

theorem memOk_execMeterCheckpoint (h : s.dev.MemOk) : (execMeterCheckpoint s).MemOk :=
  h.runIf (fun _ => by simp only [Dev.mems_mk, Dev.mems_fold, Dev.mems_meterRoll, Dev.mems_setMeter])

theorem memOk_execMeterKeySelect (h : s.dev.MemOk) (req : Requester) (keyId : Fin 64) : (execMeterKeySelect req keyId s).MemOk :=
  h.run (fun _ => by simp only [Dev.mems_regWrite, Dev.mems_mtrKeyWrite])

theorem memOk_execMeterExportRecord (h : s.dev.MemOk) : (execMeterExportRecord s).MemOk :=
  h.runIf (fun _ => by simp only [Dev.mems_emit, Dev.mems_irqSource, Dev.mems_setMeter])

/-! #### `Machine/Jobs` -/

theorem memOk_execDriveIdentify (h : s.dev.MemOk) (slot : Fin 24) (copy0 copy1 : Option StampCopy) :
    (execDriveIdentify slot copy0 copy1 s).MemOk := by
  refine h.run (fun d => ?_)
  simp only [Dev.mems_ite]
  repeat' split
  all_goals simp only [Dev.mems_setDrive, Dev.mems_driveState, Dev.mems_slotForget, Dev.mems_memberMoved, Dev.mems_memberBack, Dev.mems_joinPass,
      Dev.mems_genAdvance, Dev.mems_memberCmd, Dev.mems_settleVol]

theorem memOk_execMissingTimeout (h : s.dev.MemOk) (volume : Fin 64) (index : Fin 24) :
    (execMissingTimeout volume index s).MemOk :=
  h.runIf (fun _ => Dev.mems_assignSpare ..)

theorem memOk_execSpareAssign (h : s.dev.MemOk) (volume : Fin 64) (index : Fin 24) :
    (execSpareAssign volume index s).MemOk :=
  h.runIf (fun _ => Dev.mems_assignSpare ..)

theorem memOk_execMemberFailCmd (h : s.dev.MemOk) (req : Requester) (slot : Fin 24) : (execMemberFailCmd req slot s).MemOk := by
  refine h.run (fun d => Dev.mems_memberCommand (fun d => ?_) ..)
  split
  · simp only [Dev.mems_regather, Dev.mems_memberFail]
  · rfl

theorem memOk_execMemberReplace (h : s.dev.MemOk) (req : Requester) (slot : Fin 24) : (execMemberReplace req slot s).MemOk := by
  refine h.run (fun d => Dev.mems_memberCommand (fun d => ?_) ..)
  split
  · exact Dev.mems_assignSpare ..
  · rfl

theorem memOk_execForeignClear (h : s.dev.MemOk) (req : Requester) (slot : Fin 24) : (execForeignClear req slot s).MemOk :=
  h.run (fun _ => by simp only [Dev.mems_memberCommand, Dev.mems_setDrive, Dev.mems_reservedWrite, Dev.mems_event, Dev.mems_foldl, implies_true])

theorem memOk_execPassPaceTick (h : s.dev.MemOk) (volume : Fin 64) (blocks : List Fetched) : (execPassPaceTick volume blocks s).MemOk := by
  refine h.run (fun d => ?_)
  dsimp only
  split <;> simp only [Dev.mems_ite, ite_self, Dev.mems_passVisit, Dev.mems_setVol]

theorem memOk_execPassStripeDone (h : s.dev.MemOk) (volume : Fin 64) (blocks : List Fetched) : (execPassStripeDone volume blocks s).MemOk := by
  refine h.run (fun d => ?_)
  dsimp only
  split <;> simp only [Dev.mems_ite, ite_self, Dev.mems_setVol, Dev.mems_checkpoint, Dev.mems_passVisit]

theorem memOk_execTargetComplete (h : s.dev.MemOk) (volume : Fin 64) (index : Fin 24) : (execTargetComplete volume index s).MemOk := by
  refine h.run (fun d => ?_)
  dsimp only
  repeat' split
  all_goals simp only [Dev.mems_passSeek, Dev.mems_flushFor, Dev.mems_setVol, Dev.mems_setMember, Dev.mems_event, Dev.mems_fillPlaces,
      Dev.mems_genAdvance, Dev.mems_settleVol]

/-! #### `Machine/Reshape` -/

theorem memOk_execReshapeStart (h : s.dev.MemOk) (req : Requester) (volume : Fin 64) : (execReshapeStart req volume s).MemOk :=
  h.run (fun _ => by simp only [Dev.mems_ite, ite_self, Dev.mems_regWrite, Dev.mems_jobRefused, Dev.mems_setVol, Dev.mems_setFld, Dev.mems_memberBack,
      Dev.mems_event, Dev.mems_fillPlaces, Dev.mems_genAdvance, Dev.mems_foldl, implies_true])

theorem memOk_execReshapePause (h : s.dev.MemOk) (req : Requester) (volume : Fin 64) (on : Bool) : (execReshapePause req volume on s).MemOk :=
  h.run (fun _ => by simp only [Dev.mems_regWrite, Dev.mems_setFld])

theorem memOk_execReshapeStepBegin (h : s.dev.MemOk) (volume : Fin 64) (blocks : List Fetched) : (execReshapeStepBegin volume blocks s).MemOk := by
  refine h.run (fun d => ?_)
  dsimp only
  repeat' split
  all_goals simp only [Dev.mems_setVol, Dev.mems_reservedWrite, Dev.mems_stampAll, Dev.mems_checkpoint, Dev.mems_reshapeMove]

theorem memOk_execReshapeStepEnd (h : s.dev.MemOk) (volume : Fin 64) : (execReshapeStepEnd volume s).MemOk := by
  refine h.run (fun d => ?_)
  dsimp only
  split <;> simp only [Dev.mems_ite, ite_self, Dev.mems_setVol, Dev.mems_count, Dev.mems_stampAll, Dev.mems_checkpoint, Dev.mems_releaseHeld]

theorem memOk_execReshapeComplete (h : s.dev.MemOk) (volume : Fin 64) : (execReshapeComplete volume s).MemOk := by
  refine h.run (fun d => ?_)
  dsimp only
  split <;> simp only [Dev.mems_ite, ite_self, Dev.mems_emit, Dev.mems_setFld, Dev.mems_setVol, Dev.mems_event, Dev.mems_releaseHeld,
      Dev.mems_fillPlaces, Dev.mems_genAdvance, Dev.mems_foldl, implies_true]

theorem memOk_execScrubRow (h : s.dev.MemOk) (volume : Fin 64) (blocks : List Fetched) : (execScrubRow volume blocks s).MemOk := by
  refine h.run (fun d => ?_)
  simp only [Dev.mems_ite, ite_self, Dev.mems_scrubBegin, Dev.mems_count, Dev.mems_setVol, Dev.mems_checkpoint]
  repeat' split
  all_goals simp only [Dev.mems_scrubBegin, Dev.mems_scrubCheck]

theorem memOk_execScrubPassComplete (h : s.dev.MemOk) (volume : Fin 64) : (execScrubPassComplete volume s).MemOk :=
  h.run (fun _ => by simp only [Dev.mems_ite, ite_self, Dev.mems_setVol, Dev.mems_event, Dev.mems_fillPlaces, Dev.mems_checkpoint])

/-! #### `Machine/Rdma` -/

theorem memOk_execCmReqReceive (h : s.dev.MemOk) (req : CmReq) : (execCmReqReceive req s).MemOk :=
  h.runIf (fun _ => by simp only [Dev.mems_ite, ite_self, Dev.mems_cmRefuse, Dev.mems_draw, Dev.mems_setQp, Dev.mems_emit])

theorem memOk_execCmRtuReceive (h : s.dev.MemOk) (qp : Nat) : (execCmRtuReceive qp s).MemOk := h.runIf (fun _ => Dev.mems_setQp ..)

theorem memOk_execCmDreqReceive (h : s.dev.MemOk) (qp : Nat) : (execCmDreqReceive qp s).MemOk :=
  h.runIf (fun _ => by simp only [Dev.mems_queueGone, Dev.mems_qpDrain])

theorem memOk_execCmResponseTimeout (h : s.dev.MemOk) (qp : Nat) : (execCmResponseTimeout qp s).MemOk :=
  h.runIf (fun _ => by simp only [Dev.mems_quietQp, Dev.mems_emit])

theorem memOk_execDrainTimeout (h : s.dev.MemOk) (qp : Nat) : (execDrainTimeout qp s).MemOk := h.runIf (fun _ => Dev.mems_quietQp ..)

theorem memOk_execErrorFlushDone (h : s.dev.MemOk) (qp : Nat) : (execErrorFlushDone qp s).MemOk :=
  h.runIf (fun _ => by simp only [Dev.mems_emit, Dev.mems_quietQp])

theorem memOk_execQuietTimeout (h : s.dev.MemOk) (qp : Nat) : (execQuietTimeout qp s).MemOk := h.runIf (fun _ => Dev.mems_setQp ..)

theorem memOk_execLocalAckTimeout (h : s.dev.MemOk) (qp : Nat) : (execLocalAckTimeout qp s).MemOk :=
  h.runIf (fun _ => by simp only [Dev.mems_ite, ite_self, Dev.mems_count, Dev.mems_qpError, Dev.mems_event, Dev.mems_resend, Dev.mems_setQp])

theorem memOk_execRnrWaitEnd (h : s.dev.MemOk) (qp : Nat) : (execRnrWaitEnd qp s).MemOk := h.runIf (fun _ => Dev.mems_resend ..)

theorem memOk_execAckCoalesceTimeout (h : s.dev.MemOk) (qp : Nat) : (execAckCoalesceTimeout qp s).MemOk := h.runIf (fun _ => Dev.mems_sendAck ..)

theorem memOk_execRdmaReadIssue (h : s.dev.MemOk) (cmd : Nat) : (execRdmaReadIssue cmd s).MemOk := by
  refine h.run (fun d => ?_)
  split
  · rfl
  · split
    · rfl
    · dsimp only
      split
      · rfl
      · split
        · simp only [Dev.mems_ite, Dev.mems_count, Dev.mems_setCmd, ite_self]
        next t ht =>
          have hm : t.mems = d.mems := Dev.mems_reserveRead ht
          simp only [Dev.mems_emit, Dev.mems_issueRequest, Dev.mems_capCharge, Dev.mems_setCmd, hm]

theorem memOk_execRdmaWriteIssue (h : s.dev.MemOk) (cmd : Nat) : (execRdmaWriteIssue cmd s).MemOk := by
  refine h.run (fun d => ?_)
  dsimp only
  repeat' split
  all_goals simp only [Dev.mems_capCharge, Dev.mems_setCmd, Dev.mems_emit, Dev.mems_issueRequest]

theorem memOk_execSendIssue (h : s.dev.MemOk) (qp : Nat) : (execSendIssue qp s).MemOk := by
  refine h.runIf (fun d => ?_)
  dsimp only
  split <;> simp only [Dev.mems_ite, ite_self, Dev.mems_sendHead, Dev.mems_count, Dev.mems_setQp]

theorem memOk_execCreditProbeSend (h : s.dev.MemOk) (qp : Nat) : (execCreditProbeSend qp s).MemOk :=
  h.runIf (fun _ => by simp only [Dev.mems_sendHead, Dev.mems_setQp])

theorem memOk_execWinCfgWrite (h : s.dev.MemOk) (via : Via) (slot : Fin 4096) (value : Word) : (execWinCfgWrite via slot value s).MemOk := by
  refine h.run (fun d => Dev.mems_viaCommand ?_ via _)
  dsimp only
  split
  · exact Dev.mems_windowRefused ..
  · simp only [Dev.mems_setFld]

theorem memOk_execWinRegister (h : s.dev.MemOk) (via : Via) (slot : Fin 4096) : (execWinRegister via slot s).MemOk := by
  refine h.run (fun d => Dev.mems_viaCommand ?_ via _)
  dsimp only
  repeat' split
  all_goals simp only [Dev.mems_windowRefused, Dev.mems_setWindow]

theorem memOk_execWinRevoke (h : s.dev.MemOk) (via : Via) (slot : Fin 4096) : (execWinRevoke via slot s).MemOk := by
  refine h.run (fun d => Dev.mems_viaCommand ?_ via _)
  dsimp only
  split <;> simp only [Dev.mems_windowRefused, Dev.mems_setWindow]

theorem memOk_execRevocationComplete (h : s.dev.MemOk) (slot : Fin 4096) :
    (execRevocationComplete slot s).MemOk :=
  h.runIf (fun _ => Dev.mems_revoked ..)

theorem memOk_execRevokeTimeout (h : s.dev.MemOk) (slot : Fin 4096) : (execRevokeTimeout slot s).MemOk :=
  h.runIf (fun _ => by simp only [Dev.mems_qpError, Dev.mems_revoked, Dev.mems_event, Dev.mems_foldl, implies_true])

/-! #### `Machine/NvmeAdmin` -/

theorem memOk_execConnect (h : s.dev.MemOk) (qp : Nat) (cid : BitVec 16) (c : ConnectArgs) : (execConnect qp cid c s).MemOk := by
  refine h.runIf (fun d => ?_)
  dsimp only
  repeat' split
  all_goals simp only [Dev.mems_draw, Dev.mems_event, Dev.mems_count, Dev.mems_newCmd, Dev.mems_setCtrl, Dev.mems_setQp]

theorem memOk_execPropertySet (h : s.dev.MemOk) (src : CmdSource) (cid : BitVec 16) (offset : Nat) (value : BitVec 64) :
    (execPropertySet src cid offset value s).MemOk := by
  refine h.run (fun d => Dev.mems_onAdmin (fun d k c => ?_) src)
  split
  · rfl
  · dsimp only
    split <;> simp only [Dev.mems_setCmd, Dev.mems_ite, Dev.mems_ccWrite, Dev.mems_newCmd, ite_self]

theorem memOk_execPropertyGet (h : s.dev.MemOk) (src : CmdSource) (cid : BitVec 16) (offset : Nat) : (execPropertyGet src cid offset s).MemOk :=
  h.run (fun _ => by simp only [Dev.mems_ite, ite_self, Dev.mems_onAdmin, Dev.mems_newCmd, implies_true])

theorem memOk_execControllerReady (h : s.dev.MemOk) (ctrl : Nat) : (execControllerReady ctrl s).MemOk := by
  refine h.runIf (fun d => ?_)
  repeat' split
  all_goals simp only [Dev.mems_setCtrl]

theorem memOk_execControllerShutdownDone (h : s.dev.MemOk) (ctrl : Nat) : (execControllerShutdownDone ctrl s).MemOk := by
  refine h.runIf (fun d => ?_)
  repeat' split
  all_goals simp only [Dev.mems_setCtrl]

theorem memOk_execDisconnect (h : s.dev.MemOk) (qp : Nat) (cid : BitVec 16) : (execDisconnect qp cid s).MemOk := by
  refine h.run (fun d => ?_)
  dsimp only
  split <;> simp only [Dev.mems_ite, ite_self, Dev.mems_cancelQueue, Dev.mems_newCmd, Dev.mems_setQp, Dev.mems_sweep, Dev.mems_endAssociation]

theorem memOk_execGetLogPage (h : s.dev.MemOk) (src : CmdSource) (cid : BitVec 16) (buf : DataPtr) (lid : Nat) (rae : Bool) :
    (execGetLogPage src cid buf lid rae s).MemOk := by
  refine h.run (fun d => Dev.mems_onAdmin (fun d k c => ?_) src)
  split
  all_goals simp only [Dev.mems_answerCmd, Dev.mems_ite, Dev.mems_setCtrl, ite_self]

theorem memOk_execIdentify (h : s.dev.MemOk) (src : CmdSource) (cid : BitVec 16) (buf : DataPtr) (cns nsid : Nat) :
    (execIdentify src cid buf cns nsid s).MemOk := by
  refine h.run (fun d => Dev.mems_onAdmin (fun d k c => ?_) src)
  dsimp only
  split <;> exact Dev.mems_answerCmd ..

theorem memOk_execAbort (h : s.dev.MemOk) (src : CmdSource) (cid : BitVec 16) (sqid acid : BitVec 16) : (execAbort src cid sqid acid s).MemOk :=
  h.run (fun _ => by simp only [Dev.mems_ite, ite_self, Dev.mems_onAdmin, Dev.mems_answerCmd, Dev.mems_newCmd, implies_true])

theorem memOk_execSetFeatures (h : s.dev.MemOk) (src : CmdSource) (cid : BitVec 16) (fid : Nat) (save : Bool) (nsid : Nat) (dw11 : BitVec 32) (data :
    BitVec 128) :
    (execSetFeatures src cid fid save nsid dw11 data s).MemOk :=
  h.run (fun _ => by simp only [Dev.mems_ite, ite_self, Dev.mems_onAdmin, Dev.mems_answerCmd, Dev.mems_setPowerCmd, Dev.mems_setFeature,
      Dev.mems_newCmd, implies_true])

theorem memOk_execSetPowerState (h : s.dev.MemOk) (src : CmdSource) (cid : BitVec 16) (save : Bool) (ps : Nat) :
    (execSetPowerState src cid save ps s).MemOk :=
  h.run (fun _ => by simp only [Dev.mems_onAdmin, Dev.mems_setPowerCmd, implies_true])

theorem memOk_execPowerStateEntryEnd (h : s.dev.MemOk) : (execPowerStateEntryEnd s).MemOk := by
  refine h.runIf (fun d => ?_)
  dsimp only
  repeat' split
  all_goals simp only [Dev.mems_mk, Dev.mems_fold, Dev.mems_event, Dev.mems_setCmd]

theorem memOk_execGetFeatures (h : s.dev.MemOk) (src : CmdSource) (cid : BitVec 16) (fid sel nsid : Nat) :
    (execGetFeatures src cid fid sel nsid s).MemOk := by
  refine h.run (fun d => Dev.mems_onAdmin (fun d k c => ?_) src)
  repeat' split
  all_goals exact Dev.mems_answerCmd ..

theorem memOk_execAsyncEventRequest (h : s.dev.MemOk) (src : CmdSource) (cid : BitVec 16) : (execAsyncEventRequest src cid s).MemOk := by
  refine h.run (fun d => Dev.mems_onAdmin (fun d k c => ?_) src)
  repeat' split
  all_goals simp only [Dev.mems_answerCmd, Dev.mems_newCmd, Dev.mems_setCtrl]

theorem memOk_execKeepAlive (h : s.dev.MemOk) (src : CmdSource) (cid : BitVec 16) : (execKeepAlive src cid s).MemOk :=
  h.run (fun _ => by simp only [Dev.mems_onAdmin, Dev.mems_answerCmd, Dev.mems_setCtrl, implies_true])

theorem memOk_execKeepAliveExpiry (h : s.dev.MemOk) (ctrl : Nat) : (execKeepAliveExpiry ctrl s).MemOk := by
  refine h.runIf (fun d => ?_)
  repeat' split
  all_goals simp only [Dev.mems_endAssociation, Dev.mems_event, Dev.mems_count]

theorem memOk_execAdminInvalidOpcode (h : s.dev.MemOk) (src : CmdSource) (cid : BitVec 16) (opcode : Nat) :
    (execAdminInvalidOpcode src cid opcode s).MemOk :=
  h.run (fun _ => by simp only [Dev.mems_ite, ite_self, Dev.mems_onAdmin, Dev.mems_newCmd, implies_true])

/-! #### `Machine/NvmeIo` -/

theorem memOk_execIoRead (h : s.dev.MemOk) (src : CmdSource) (cid : BitVec 16) (a : IoArgs) :
    (execIoRead src cid a s).MemOk :=
  h.run (fun _ => Dev.mems_ioCommand ..)

theorem memOk_execIoWrite (h : s.dev.MemOk) (src : CmdSource) (cid : BitVec 16) (a : IoArgs) (data : List Byte) :
    (execIoWrite src cid a data s).MemOk :=
  h.run (fun _ => Dev.mems_ioCommand ..)

theorem memOk_execIoCompare (h : s.dev.MemOk) (src : CmdSource) (cid : BitVec 16) (a : IoArgs) (data : List Byte) :
    (execIoCompare src cid a data s).MemOk :=
  h.run (fun _ => Dev.mems_ioCommand ..)

theorem memOk_execIoWriteZeroes (h : s.dev.MemOk) (src : CmdSource) (cid : BitVec 16) (a : IoArgs) :
    (execIoWriteZeroes src cid a s).MemOk :=
  h.run (fun _ => Dev.mems_ioCommand ..)

theorem memOk_execIoDatasetManagement (h : s.dev.MemOk) (src : CmdSource) (cid : BitVec 16) (a : IoArgs) (ad : Bool) (ranges : List (Nat × Nat)) :
    (execIoDatasetManagement src cid a ad ranges s).MemOk :=
  h.run (fun _ => by simp only [Dev.mems_ite, ite_self, Dev.mems_ioCommand, Dev.mems_ioAtOnce])

theorem memOk_execIoFlush (h : s.dev.MemOk) (src : CmdSource) (cid : BitVec 16) (a : IoArgs) :
    (execIoFlush src cid a s).MemOk :=
  h.run (fun _ => Dev.mems_ioAtOnce ..)

theorem memOk_execIoInvalidOpcode (h : s.dev.MemOk) (src : CmdSource) (cid : BitVec 16) (opcode : Nat) :
    (execIoInvalidOpcode src cid opcode s).MemOk :=
  h.run (fun _ => by simp only [Dev.mems_ite, ite_self, Dev.mems_onIo, Dev.mems_ioRefuse, implies_true])

theorem memOk_execReservationRegister (h : s.dev.MemOk) (src : CmdSource) (cid : BitVec 16) (a : IoArgs) (r : ResvArgs) :
    (execReservationRegister src cid a r s).MemOk :=
  h.run (fun _ => by simp only [Dev.mems_resvCommand, Dev.mems_resvRegister, implies_true])

theorem memOk_execReservationReport (h : s.dev.MemOk) (src : CmdSource) (cid : BitVec 16) (a : IoArgs) (eds : Bool) :
    (execReservationReport src cid a eds s).MemOk :=
  h.run (fun _ => by simp only [Dev.mems_resvCommand, implies_true])

theorem memOk_execReservationAcquire (h : s.dev.MemOk) (src : CmdSource) (cid : BitVec 16) (a : IoArgs) (r : ResvArgs) :
    (execReservationAcquire src cid a r s).MemOk :=
  h.run (fun _ => by simp only [Dev.mems_resvCommand, Dev.mems_resvAcquire, implies_true])

theorem memOk_execPreemptWaitEnd (h : s.dev.MemOk) (cmd : Nat) : (execPreemptWaitEnd cmd s).MemOk := by
  refine h.run (fun d => ?_)
  repeat' split
  all_goals simp only [Dev.mems_setCmd]

theorem memOk_execReservationRelease (h : s.dev.MemOk) (src : CmdSource) (cid : BitVec 16) (a : IoArgs) (r : ResvArgs) :
    (execReservationRelease src cid a r s).MemOk :=
  h.run (fun _ => by simp only [Dev.mems_resvCommand, Dev.mems_resvReleaseCmd, implies_true])

theorem memOk_execCommandTimeout (h : s.dev.MemOk) (cmd : Nat) : (execCommandTimeout cmd s).MemOk := by
  refine h.runIf (fun d => ?_)
  dsimp only
  split <;> simp only [Dev.mems_ite, ite_self, Dev.mems_event, Dev.mems_count, Dev.mems_releaseAccs, Dev.mems_setCmd]

theorem memOk_execCommandFinish (h : s.dev.MemOk) (cmd : Nat) : (execCommandFinish cmd s).MemOk := by
  refine h.run (fun d => ?_)
  dsimp only
  split <;> simp only [Dev.mems_ite, ite_self, Dev.mems_readOutcome, Dev.mems_finishCmd, Dev.mems_clearNext]

theorem memOk_execCompletionIssue (h : s.dev.MemOk) (cmd : Nat) : (execCompletionIssue cmd s).MemOk := by
  refine h.run (fun d => ?_)
  split
  · rfl
  · split
    · rfl
    · extract_lets st d1 e1 e2 n e3 d2 inval d3 d4
      have h3 : e3.mems = d1.mems := by simp only [e3, n, e2, e1, Dev.mems_ite, Dev.mems_mk, Dev.mems_fold, Dev.mems_count, ite_self]
      have h2 : d2.mems = d.mems := by
        unfold d2
        split
        · exact Dev.mems_setCmd ..
        · split <;> simp only [Dev.mems_setCtrl, h3, d1, Dev.mems_setCmd]
      have hd : d3.mems = d2.mems := by
        unfold d3
        split
        · exact Dev.mems_setQp ..
        · simp only [Dev.mems_ite, Dev.mems_placeCqe, Dev.mems_emit, Dev.mems_capCharge, ite_self]
        · simp only [Dev.mems_bondSend, Dev.mems_emit]
      simp only [Dev.mems_sweep, d4, Dev.mems_sampleEnd, Dev.mems_commandOver, hd, h2]

theorem memOk_execNsActivate (h : s.dev.MemOk) (via : Via) (ns : Fin 4096) (value : Word) : (execNsActivate via ns value s).MemOk := by
  refine h.run (fun d => Dev.mems_viaCommand ?_ via _)
  dsimp only
  split
  · rfl
  · split
    · exact Dev.mems_frontRefused ..
    · simp only [Dev.mems_nsActivate, Dev.mems_nsFields]

theorem memOk_execNsDeactivate (h : s.dev.MemOk) (via : Via) (ns : Fin 4096) : (execNsDeactivate via ns s).MemOk := by
  refine h.run (fun d => Dev.mems_viaCommand ?_ via _)
  split
  · rfl
  · simp only [Dev.mems_ite, Dev.mems_nsDeactivate, ite_self]

theorem memOk_execNsInactive (h : s.dev.MemOk) (ns : Fin 4096) : (execNsInactive ns s).MemOk :=
  h.runIf (fun _ => by simp only [Dev.mems_mk, Dev.mems_fold, Dev.mems_ite, ite_self, Dev.mems_setVol, Dev.mems_clearNext, Dev.mems_nsNotice])

theorem memOk_execNsClearComplete (h : s.dev.MemOk) (ns : Fin 4096) : (execNsClearComplete ns s).MemOk := by
  refine h.run (fun d => ?_)
  simp only [Dev.mems_ite]
  repeat' split
  all_goals simp only [Dev.mems_mk, Dev.mems_fold, Dev.mems_clearNext, Dev.mems_setVol, Dev.mems_event, Dev.mems_reservedWrite, Dev.mems_count]

theorem memOk_execHostCfgWrite (h : s.dev.MemOk) (via : Via) (host : Fin 1024) (value : Word) : (execHostCfgWrite via host value s).MemOk :=
  h.run (fun _ => by simp only [Dev.mems_viaCommand, Dev.mems_hostCfgWrite])

theorem memOk_execTenantDisable (h : s.dev.MemOk) (req : Requester) (pol shp : Bool) (weight : Fin 256) :
    (execTenantDisable req pol shp weight s).MemOk :=
  h.run (fun _ => by simp only [Dev.mems_regWrite, Dev.mems_tnCfgWrite])

theorem memOk_execKeyDestroy (h : s.dev.MemOk) (via : KeyVia) : (execKeyDestroy via s).MemOk := h.run (fun _ => Dev.mems_keyDestroy ..)

/-! #### `Machine/Endpoint` -/

theorem memOk_execEndpointLinkUp (h : s.dev.MemOk) (rate : Fin 7) (width : Fin 17) (flit : Bool) : (execEndpointLinkUp rate width flit s).MemOk :=
  h.runIf (fun _ => by simp only [Dev.mems_mk, Dev.mems_fold, Dev.mems_ite, ite_self, Dev.mems_pcieStart, Dev.mems_event])

theorem memOk_execVfEnable (h : s.dev.MemOk) (on ari : Bool) (numVfs : Word) : (execVfEnable on ari numVfs s).MemOk :=
  h.runIf (fun _ => by simp only [Dev.mems_mk, Dev.mems_fold, Dev.mems_ite, ite_self, Dev.mems_epRefused, Dev.mems_vfsOff])

theorem memOk_execVfReady (h : s.dev.MemOk) (vf : Fin 65) : (execVfReady vf s).MemOk := h.runIf (fun _ => rfl)

theorem memOk_execPcieCcEnable (h : s.dev.MemOk) (fn : Fin 65) (value aqa : Word) : (execPcieCcEnable fn value aqa s).MemOk := by
  refine h.runIf (fun d => ?_)
  dsimp only
  repeat' split
  all_goals simp only [Dev.mems_ccWrite, Dev.mems_setCtrl, Dev.mems_event]

theorem memOk_execCreateIoSq (h : s.dev.MemOk) (fn : Fin 65) (cid : BitVec 16) (a : QueueArgs) (cqid : Nat) :
    (execCreateIoSq fn cid a cqid s).MemOk :=
  h.run (fun _ => Dev.mems_queueCommand ..)

theorem memOk_execCreateIoCq (h : s.dev.MemOk) (fn : Fin 65) (cid : BitVec 16) (a : QueueArgs) (irq : Bool) (vec : Nat) :
    (execCreateIoCq fn cid a irq vec s).MemOk :=
  h.run (fun _ => Dev.mems_queueCommand ..)

theorem memOk_execDeleteIoSq (h : s.dev.MemOk) (fn : Fin 65) (cid : BitVec 16) (qid : Nat) : (execDeleteIoSq fn cid qid s).MemOk := by
  refine h.run (fun d => ?_)
  dsimp only
  split <;> simp only [Dev.mems_ite, ite_self, Dev.mems_cancelWhere, Dev.mems_queueCommand]

theorem memOk_execDeleteIoCq (h : s.dev.MemOk) (fn : Fin 65) (cid : BitVec 16) (qid : Nat) :
    (execDeleteIoCq fn cid qid s).MemOk :=
  h.run (fun _ => Dev.mems_queueCommand ..)

theorem memOk_execSqTailDoorbell (h : s.dev.MemOk) (fn : Fin 65) (qid : Nat) (value : BitVec 16) :
    (execSqTailDoorbell fn qid value s).MemOk :=
  h.runIf (fun _ => Dev.mems_doorbell ..)

theorem memOk_execCqHeadDoorbell (h : s.dev.MemOk) (fn : Fin 65) (qid : Nat) (value : BitVec 16) :
    (execCqHeadDoorbell fn qid value s).MemOk :=
  h.runIf (fun _ => Dev.mems_doorbell ..)

theorem memOk_execApertureWindowWrite (h : s.dev.MemOk) (via : Via) (w : Fin 16) (value : Word) : (execApertureWindowWrite via w value s).MemOk := by
  refine h.run (fun d => ?_)
  dsimp only
  split <;> simp only [Dev.mems_viaCommand, Dev.mems_epRefused, Dev.mems_setFld]

theorem memOk_execBusMasterEnable (h : s.dev.MemOk) (fn : Fin 66) (unmasked : List Nat) : (execBusMasterEnable fn unmasked s).MemOk :=
  h.runIf (fun _ => by simp only [Dev.mems_msixRelease, Dev.mems_setEpFn])

theorem memOk_execFlrPf0 (h : s.dev.MemOk) (discarded : Nat) : (execFlrPf0 discarded s).MemOk :=
  h.runIf (fun _ => by simp only [Dev.mems_pf0Reset, Dev.mems_count])

theorem memOk_execFlrVf (h : s.dev.MemOk) (vf : Fin 65) (discarded : Nat) : (execFlrVf vf discarded s).MemOk :=
  h.runIf (fun _ => by simp only [Dev.mems_setEpFn, Dev.mems_pcieStart, Dev.mems_nvmeFnReset, Dev.mems_count])

theorem memOk_execFlrComplete (h : s.dev.MemOk) (fn : Fin 66) : (execFlrComplete fn s).MemOk := h.runIf (fun _ => rfl)

theorem memOk_execEpVecWrite (h : s.dev.MemOk) (via : Via) (value : Word) : (execEpVecWrite via value s).MemOk := by
  refine h.run (fun d => ?_)
  dsimp only
  split <;> simp only [Dev.mems_viaCommand, Dev.mems_epRefused, Dev.mems_setFld]

theorem memOk_execReceivedTlpError (h : s.dev.MemOk) (fn : Fin 66) (err : TlpError) : (execReceivedTlpError fn err s).MemOk := by
  refine h.runIf (fun d => ?_)
  dsimp only
  split <;> simp only [Dev.mems_event, Dev.mems_count, Dev.mems_dataFailed]

/-! #### `Machine/Regions` -/

theorem memOk_execClusterResetComplete (h : s.dev.MemOk) (region : Fin 23) (cluster : Nat) : (execClusterResetComplete region cluster s).MemOk :=
  h.run (fun _ => by simp only [Dev.mems_mk, Dev.mems_fold, Dev.mems_ite, ite_self, Dev.mems_setRegion])

theorem memOk_execRelease (h : s.dev.MemOk) (req : Requester) (region : Fin 23) : (execRelease req region s).MemOk :=
  h.run (fun _ => by simp only [Dev.mems_ite, ite_self, Dev.mems_regWrite, Dev.mems_startTest])

theorem memOk_execReleaseSelfTestEnd (h : s.dev.MemOk) (region : Fin 19) (tokensOk : Bool) (paceCount : Nat) (trained : BitVec 6) (blocks : List
    Fetched) :
    (execReleaseSelfTestEnd region tokensOk paceCount trained blocks s).MemOk :=
  h.runIf (fun _ => by simp only [Dev.mems_ite, ite_self, Dev.mems_setRegion, Dev.mems_regionResumes, Dev.mems_event])

theorem memOk_execSeam5Retrain (h : s.dev.MemOk) : (execSeam5Retrain s).MemOk := h.runIf (fun _ => Dev.mems_setSeam ..)

theorem memOk_execSeamUp (h : s.dev.MemOk) (seam : Fin 6) : (execSeamUp seam s).MemOk :=
  h.runIf (fun _ => by simp only [Dev.mems_eventIf, Dev.mems_setSeam])

theorem memOk_execPaceWindowEnd (h : s.dev.MemOk) (region : Fin 19) (count : Nat) : (execPaceWindowEnd region count s).MemOk :=
  h.runIf (fun _ => by simp only [Dev.mems_ite, ite_self, Dev.mems_setRegion, Dev.mems_alarm])

theorem memOk_execPaceRead (h : s.dev.MemOk) (req : Requester) (region : Fin 19) : (execPaceRead req region s).MemOk :=
  h.run (fun _ => by simp only [Dev.mems_regRead, Dev.mems_setRegion])

theorem memOk_execSeamStatRead (h : s.dev.MemOk) (req : Requester) (seam : Fin 6) : (execSeamStatRead req seam s).MemOk :=
  h.run (fun _ => by simp only [Dev.mems_regRead, Dev.mems_setSeam])

theorem memOk_execGovernorPass (h : s.dev.MemOk) : (execGovernorPass s).MemOk :=
  h.runIf (fun _ => by simp only [Dev.mems_mk, Dev.mems_fold, Dev.mems_governRail, Dev.mems_foldl_fst, implies_true])

theorem memOk_execPmbusTransactionEnd (h : s.dev.MemOk) (rail : Fin 10) (answer : PmbusEnd) : (execPmbusTransactionEnd rail answer s).MemOk := by
  refine h.run (fun d => ?_)
  dsimp only
  repeat' split
  all_goals simp only [Dev.mems_setRail, Dev.mems_eventIf]

theorem memOk_execPmbusRetry (h : s.dev.MemOk) (rail : Fin 10) : (execPmbusRetry rail s).MemOk := by
  refine h.runIf (fun d => ?_)
  dsimp only
  split <;> simp only [Dev.mems_setRail, Dev.mems_railCommand]

theorem memOk_execTimebaseAlignment (h : s.dev.MemOk) (driftPE driftPW driftLN : Int) : (execTimebaseAlignment driftPE driftPW driftLN s).MemOk :=
  h.runIf (fun _ => by simp only [Dev.mems_alignDie])

/-! #### `Machine/Drives` -/

theorem memOk_execRootPortLinkUp (h : s.dev.MemOk) (port : Fin 48) (rate : Fin 8) (width : Fin 5) : (execRootPortLinkUp port rate width s).MemOk :=
  h.runIf (fun _ => by simp only [Dev.mems_setPort, Dev.mems_event, Dev.mems_eventIf])

theorem memOk_execRootPortLinkLoss (h : s.dev.MemOk) (port : Fin 48) : (execRootPortLinkLoss port s).MemOk :=
  h.runIf (fun _ => by simp only [Dev.mems_portDown, Dev.mems_event])

theorem memOk_execDriveReady (h : s.dev.MemOk) (port : Fin 48) (result : BringUp) : (execDriveReady port result s).MemOk := by
  refine h.runIf (fun d => ?_)
  dsimp only
  split <;> simp only [Dev.mems_takeDown, Dev.mems_setPort, Dev.mems_eventIf, Dev.mems_setDrive]

theorem memOk_execDriveMemoryRequest (h : s.dev.MemOk) (port : Fin 48) (cmd : Option Nat) : (execDriveMemoryRequest port cmd s).MemOk :=
  h.runIf (fun _ => by simp only [Dev.mems_ite, ite_self, Dev.mems_event, Dev.mems_count, Dev.mems_portDown])

theorem memOk_execSmartPoll (h : s.dev.MemOk) (port : Fin 48) (warning : BitVec 8) : (execSmartPoll port warning s).MemOk := by
  refine h.runIf (fun d => ?_)
  dsimp only
  split <;> simp only [Dev.mems_ite, ite_self, Dev.mems_setPort, Dev.mems_setDrive, Dev.mems_eventIf, Dev.mems_regather, Dev.mems_memberFail]

theorem memOk_execDriveAsyncEvent (h : s.dev.MemOk) (port : Fin 48) : (execDriveAsyncEvent port s).MemOk := h.runIf (fun _ => Dev.mems_setPort ..)

theorem memOk_execMemberCommandTimeout (h : s.dev.MemOk) (id : Nat) : (execMemberCommandTimeout id s).MemOk := by
  refine h.run (fun d => ?_)
  dsimp only
  repeat' split
  all_goals simp only [Dev.mems_mk, Dev.mems_fold, Dev.mems_count, Dev.mems_memberCmd, Dev.mems_addMark, Dev.mems_readDone, Dev.mems_takeDown]

theorem memOk_execLinkRetrain (h : s.dev.MemOk) (port : Fin 48) : (execLinkRetrain port s).MemOk := by
  refine h.runIf (fun d => ?_)
  dsimp only
  split <;> simp only [Dev.mems_ite, ite_self, Dev.mems_emit, Dev.mems_setPort]

theorem memOk_execRetrain (h : s.dev.MemOk) (via : Via) (port : Fin 48) : (execRetrain via port s).MemOk := by
  refine h.run (fun d => Dev.mems_viaCommand ?_ via _)
  split
  · exact Dev.mems_takeDown ..
  · rfl

theorem memOk_execLinkTimeout (h : s.dev.MemOk) (port : Fin 48) : (execLinkTimeout port s).MemOk := h.runIf (fun _ => rfl)

theorem memOk_execLinkTrainRetry (h : s.dev.MemOk) (port : Fin 48) : (execLinkTrainRetry port s).MemOk := h.runIf (fun _ => rfl)

/-! #### `Machine/Slots` -/

theorem memOk_execPresenceChange (h : s.dev.MemOk) (slot : Fin 24) (low : Bool) :
    (execPresenceChange slot low s).MemOk :=
  h.runIf (fun _ => Dev.mems_setSlotPwr ..)

theorem memOk_execInsertionDebounceEnd (h : s.dev.MemOk) (slot : Fin 24) : (execInsertionDebounceEnd slot s).MemOk := by
  refine h.runIf (fun d => ?_)
  dsimp only
  split <;> simp only [Dev.mems_ite, ite_self, Dev.mems_event, Dev.mems_setSlotPwr, Dev.mems_slotRamp]

theorem memOk_execRemovalRecognised (h : s.dev.MemOk) (slot : Fin 24) : (execRemovalRecognised slot s).MemOk := by
  refine h.runIf (fun d => ?_)
  dsimp only
  split <;> simp only [Dev.mems_setSwitches, Dev.mems_memberGone, Dev.mems_event, Dev.mems_setPort, Dev.mems_driveState, Dev.mems_setDrive,
      Dev.mems_foldl, implies_true]

theorem memOk_execRampStart (h : s.dev.MemOk) (slot : Fin 24) : (execRampStart slot s).MemOk := h.runIf (fun _ => Dev.mems_setSwitches ..)

theorem memOk_execSlotPowered (h : s.dev.MemOk) (slot : Fin 24) (mv : Nat) : (execSlotPowered slot mv s).MemOk :=
  h.runIf (fun _ => by simp only [Dev.mems_event, Dev.mems_setSlotPwr, Dev.mems_setPort, Dev.mems_foldl, implies_true])

theorem memOk_execSlotRampTimeout (h : s.dev.MemOk) (slot : Fin 24) : (execSlotRampTimeout slot s).MemOk := h.runIf (fun _ => Dev.mems_slotTrip ..)

theorem memOk_execFeedLost (h : s.dev.MemOk) (feed : Fin 2) (mv : Nat) : (execFeedLost feed mv s).MemOk := h.runIf (fun _ => Dev.mems_setFeed ..)

theorem memOk_execFeedReturn (h : s.dev.MemOk) (feed : Fin 2) (mv : Nat) : (execFeedReturn feed mv s).MemOk := h.runIf (fun _ => Dev.mems_setFeed ..)

theorem memOk_execIdealDiodeReverse (h : s.dev.MemOk) (slot : Fin 24) (feed : Fin 2) :
    (execIdealDiodeReverse slot feed s).MemOk :=
  h.runIf (fun _ => Dev.mems_setDiode ..)

theorem memOk_execIdealDiodeForward (h : s.dev.MemOk) (slot : Fin 24) (feed : Fin 2) :
    (execIdealDiodeForward slot feed s).MemOk :=
  h.runIf (fun _ => Dev.mems_setDiode ..)

theorem memOk_execSlotUnderVoltage (h : s.dev.MemOk) (slot : Fin 24) (mv : Nat) : (execSlotUnderVoltage slot mv s).MemOk :=
  h.runIf (fun _ => by simp only [Dev.mems_slotTrip, Dev.mems_setSlotPwr])

theorem memOk_execBreakerSample (h : s.dev.MemOk) (slot : Fin 24) (mv ma aux : Nat) : (execBreakerSample slot mv ma aux s).MemOk :=
  h.runIf (fun _ => by simp only [Dev.mems_ite, ite_self, Dev.mems_setSlotPwr, Dev.mems_slotTrip])

theorem memOk_execFastTrip (h : s.dev.MemOk) (slot : Fin 24) (ma : Nat) : (execFastTrip slot ma s).MemOk := h.runIf (fun _ => Dev.mems_slotTrip ..)

theorem memOk_execAuxOvercurrent (h : s.dev.MemOk) (slot : Fin 24) (ma : Nat) : (execAuxOvercurrent slot ma s).MemOk :=
  h.runIf (fun _ => by simp only [Dev.mems_slotTrip, Dev.mems_setSlotPwr])

theorem memOk_execRetryWaitEnd (h : s.dev.MemOk) (slot : Fin 24) : (execRetryWaitEnd slot s).MemOk :=
  h.runIf (fun _ => by simp only [Dev.mems_ite, ite_self, Dev.mems_event, Dev.mems_setSlotPwr, Dev.mems_slotRamp])

theorem memOk_execRetriesClear (h : s.dev.MemOk) (slot : Fin 24) : (execRetriesClear slot s).MemOk := h.runIf (fun _ => Dev.mems_setSlotPwr ..)

theorem memOk_execSlotOn (h : s.dev.MemOk) (via : Via) (slot : Fin 24) (epoch : Nat) : (execSlotOn via slot epoch s).MemOk :=
  h.run (fun _ => by simp only [Dev.mems_slotCommand, Dev.mems_slotRamp, Dev.mems_setSlotPwr, implies_true])

theorem memOk_execSlotOff (h : s.dev.MemOk) (via : Via) (slot : Fin 24) (epoch : Nat) : (execSlotOff via slot epoch s).MemOk :=
  h.run (fun _ => by simp only [Dev.mems_slotCommand, Dev.mems_memberGone, Dev.mems_event, Dev.mems_slotDown, implies_true])

theorem memOk_execSlotCycle (h : s.dev.MemOk) (via : Via) (slot : Fin 24) (epoch : Nat) : (execSlotCycle via slot epoch s).MemOk :=
  h.run (fun _ => by simp only [Dev.mems_slotCommand, Dev.mems_slotDown, Dev.mems_memberGone, Dev.mems_event, Dev.mems_setSlotPwr, implies_true])

theorem memOk_execCycleRamp (h : s.dev.MemOk) (slot : Fin 24) : (execCycleRamp slot s).MemOk := h.runIf (fun _ => Dev.mems_slotRamp ..)

theorem memOk_execFeedCfgWrite (h : s.dev.MemOk) (via : Via) (value : Word) : (execFeedCfgWrite via value s).MemOk := by
  refine h.run (fun d => ?_)
  repeat' split
  all_goals simp only [Dev.mems_viaCommand, Dev.mems_event, Dev.mems_holdDiodes, Dev.mems_setFld]

theorem memOk_execBreakerCurveWrite (h : s.dev.MemOk) (via : Via) (slot : Fin 24) (point : Fin 8) (value : Word) :
    (execBreakerCurveWrite via slot point value s).MemOk := by
  refine h.run (fun d => Dev.mems_viaCommand ?_ via _)
  split
  · simp only [Dev.mems_setFld]
  · exact Dev.mems_event ..

theorem memOk_execSlotHoldRead (h : s.dev.MemOk) (req : Requester) (slot : Fin 24) (current : Bool) :
    (execSlotHoldRead req slot current s).MemOk := by
  refine h.run (fun d => ?_)
  dsimp only
  split <;> simp only [Dev.mems_regRead, Dev.mems_setSlotPwr]

/-! #### `Machine/Quoin` -/

theorem memOk_execHeartbeatSend (h : s.dev.MemOk) (from' : HbSender) : (execHeartbeatSend from' s).MemOk := by
  refine h.run (fun d => ?_)
  dsimp only
  split <;> simp only [Dev.mems_ite, ite_self, Dev.mems_emit, Dev.mems_bondSend, Dev.mems_foldl, implies_true]

theorem memOk_execHeartbeatReceive (h : s.dev.MemOk) (pier : Fin 2) (quoin : Bool) : (execHeartbeatReceive pier quoin s).MemOk :=
  h.runIf (fun _ => by simp only [Dev.mems_ite, ite_self, Dev.mems_setPierOwn, Dev.mems_tellPier])

theorem memOk_execHeartbeatTimeout (h : s.dev.MemOk) (pier : Fin 2) (quoin : Bool) : (execHeartbeatTimeout pier quoin s).MemOk :=
  h.run (fun _ => by simp only [Dev.mems_ite, ite_self, Dev.mems_event, Dev.mems_count, Dev.mems_setPierOwn, Dev.mems_sendClaim])

theorem memOk_execQuoinClaim (h : s.dev.MemOk) (pier : Fin 2) (majority : Bool) : (execQuoinClaim pier majority s).MemOk :=
  h.runIf (fun _ => by simp only [Dev.mems_ite, ite_self, Dev.mems_decideClaim, Dev.mems_count, Dev.mems_setPierOwn, Dev.mems_claimHome,
      Dev.mems_claimLent])

theorem memOk_execClaimGrant (h : s.dev.MemOk) (pier : Fin 2) (blocks : List Fetched) : (execClaimGrant pier blocks s).MemOk :=
  h.runIf (fun _ => by simp only [Dev.mems_ite, ite_self, Dev.mems_event, Dev.mems_setPierOwn, Dev.mems_interruptVol, Dev.mems_acquireAll,
      Dev.mems_moveVol, Dev.mems_servePending, Dev.mems_foldl, implies_true])

theorem memOk_execClaimRefused (h : s.dev.MemOk) (pier : Fin 2) : (execClaimRefused pier s).MemOk :=
  h.runIf (fun _ => by simp only [Dev.mems_eventOpenCause, Dev.mems_setPierOwn, Dev.mems_regather, Dev.mems_unreachedMissing, Dev.mems_foldl,
      implies_true])

theorem memOk_execPreemptRetry (h : s.dev.MemOk) (pier : Fin 2) (blocks : List Fetched) : (execPreemptRetry pier blocks s).MemOk :=
  h.runIf (fun _ => by simp only [Dev.mems_mk, Dev.mems_fold, Dev.mems_setPierOwn, Dev.mems_servePending, Dev.mems_acquireAll, Dev.mems_foldl,
      implies_true])

theorem memOk_execMemberAcquireComplete (h : s.dev.MemOk) (pier : Fin 2) (slot : Fin 24) (held : Bool) (blocks : List Fetched) :
    (execMemberAcquireComplete pier slot held blocks s).MemOk :=
  h.runIf (fun _ => by simp only [Dev.mems_mk, Dev.mems_fold, Dev.mems_ite, ite_self, Dev.mems_setHolder, Dev.mems_servePending])

theorem memOk_execGiveback (h : s.dev.MemOk) (via : Via) : (execGiveback via s).MemOk := by
  refine h.run (fun d => Dev.mems_ownCommand (fun t ht => ?_) via)
  obtain ⟨-, ht⟩ := Option.ite_none_right_eq_some.mp ht
  cases ht
  exact Dev.mems_giveBack ..

theorem memOk_execAutoGiveback (h : s.dev.MemOk) : (execAutoGiveback s).MemOk := h.runIf (fun _ => Dev.mems_giveBack ..)

theorem memOk_execUnfence (h : s.dev.MemOk) (via : Via) : (execUnfence via s).MemOk := by
  refine h.run (fun d => Dev.mems_ownCommand (fun t ht => ?_) via)
  dsimp only at ht
  split at ht
  · cases ht
  · cases ht
    refine Dev.mems_foldl (fun d p => ?_) _ d
    simp only [Dev.mems_startTest, Dev.mems_tellPier, Dev.mems_foldl, Dev.mems_ite, Dev.mems_moveVol, Dev.mems_setPierOwn, ite_self, implies_true]

/-! #### `Machine/Bond` -/

theorem memOk_execBondLinkUp (h : s.dev.MemOk) (link : Fin 2) (peer : Fin 4) :
    (execBondLinkUp link peer s).MemOk :=
  h.runIf (fun _ => Dev.mems_bondTrain ..)

theorem memOk_execBondRetrain (h : s.dev.MemOk) (link : Fin 2) (peer : Fin 4) :
    (execBondRetrain link peer s).MemOk :=
  h.runIf (fun _ => Dev.mems_bondTrain ..)

theorem memOk_execBondAckReceive (h : s.dev.MemOk) (link : Fin 2) (lseq : Word) : (execBondAckReceive link lseq s).MemOk :=
  h.runIf (fun _ => by simp only [Dev.mems_ite, ite_self, Dev.mems_setBond])

theorem memOk_execBondReplayTimeout (h : s.dev.MemOk) (link : Fin 2) : (execBondReplayTimeout link s).MemOk :=
  h.runIf (fun _ => by simp only [Dev.mems_ite, ite_self, Dev.mems_bondDown, Dev.mems_count, Dev.mems_setBond, Dev.mems_countJobs, Dev.mems_emit,
      Dev.mems_foldl, implies_true])

theorem memOk_execBondFrameReceive (h : s.dev.MemOk) (link : Fin 2) (f : SalbenFrame) : (execBondFrameReceive link f s).MemOk :=
  h.runIf (fun _ => by simp only [Dev.mems_ite, ite_self, Dev.mems_countJobs, Dev.mems_addMark, Dev.mems_count, Dev.mems_bondAckSend,
      Dev.mems_bondBody, Dev.mems_setBond])

theorem memOk_execShedWindowEnd (h : s.dev.MemOk) (link : Fin 2) (tx rx burst : Nat) : (execShedWindowEnd link tx rx burst s).MemOk :=
  h.runIf (fun _ => by simp only [Dev.mems_ite, ite_self, Dev.mems_askWidth, Dev.mems_setBond])

theorem memOk_execWidthRequestReceive (h : s.dev.MemOk) (link : Fin 2) (width : Nat) : (execWidthRequestReceive link width s).MemOk :=
  h.runIf (fun _ => by simp only [Dev.mems_ite, ite_self, Dev.mems_emit, Dev.mems_bondSend, Dev.mems_takeWidth])

theorem memOk_execWidthAckReceive (h : s.dev.MemOk) (link : Fin 2) (lseq : Word) : (execWidthAckReceive link lseq s).MemOk := by
  refine h.runIf (fun d => ?_)
  repeat' split
  all_goals simp only [Dev.mems_takeWidth]

theorem memOk_execPackageHeartbeatTimeout (h : s.dev.MemOk) (pkg : Fin 4) (held : BitVec 24) : (execPackageHeartbeatTimeout pkg held s).MemOk :=
  h.run (fun _ => by simp only [Dev.mems_mk, Dev.mems_fold, Dev.mems_ite, ite_self, Dev.mems_event, Dev.mems_count, Dev.mems_applyMirrors,
      Dev.mems_eventIf, Dev.mems_foldl, implies_true])

theorem memOk_execMirrorSuspend (h : s.dev.MemOk) : (execMirrorSuspend s).MemOk := h.runIf (fun _ => Dev.mems_bondWarn ..)

theorem memOk_execForwardedCommand (h : s.dev.MemOk) (link : Fin 2) (f : Forwarded) : (execForwardedCommand link f s).MemOk := by
  refine h.runIf (fun d => ?_)
  simp only [Dev.mems_ite, ite_self, Dev.mems_fwdAnswer, Dev.mems_newCmd, Dev.mems_forward]
  repeat' split
  all_goals simp only [Dev.mems_fwdAnswer, Dev.mems_fwdAccept, Dev.mems_resvRegister, Dev.mems_fwdResv, Dev.mems_resvAcquire, Dev.mems_resvReleaseCmd]

/-! #### `Machine/Recorder` -/

theorem memOk_execEventTake (h : s.dev.MemOk) : (execEventTake s).MemOk := by
  unfold execEventTake
  split
  next o _ =>
    split
    · exact Dev.MemOk.run (s := { s with evq := s.evq.without o }) h (fun d => by simp only [Dev.mems_takeOcc, Dev.mems_moveBuffer, Dev.mems_mk,
        Dev.mems_fold])
    · exact h.run (fun _ => rfl)
  · exact h.run (fun _ => rfl)

theorem memOk_execBufferMove (h : s.dev.MemOk) : (execBufferMove s).MemOk := h.run (fun _ => Dev.mems_moveBuffer ..)

theorem memOk_execEventIrqHoldoffEnd (h : s.dev.MemOk) : (execEventIrqHoldoffEnd s).MemOk := h.runIf (fun _ => Dev.mems_recSignal ..)

theorem memOk_execEvRecRead (h : s.dev.MemOk) (req : Requester) (word : Fin 16) : (execEvRecRead req word s).MemOk :=
  h.run (fun _ => by simp only [Dev.mems_mk, Dev.mems_fold, Dev.mems_ite, ite_self, Dev.mems_regRead])

theorem memOk_execCntWinRead (h : s.dev.MemOk) (req : Requester) (word : Fin 16) : (execCntWinRead req word s).MemOk := by
  refine h.run (fun d => Dev.mems_regRead ?_ ..)
  split
  · exact Dev.mems_counterRefused ..
  · dsimp only
    split <;> rfl

/-! #### `Machine/Startup` -/

theorem memOk_execStartupHoldRelease (h : s.dev.MemOk) : (execStartupHoldRelease s).MemOk :=
  h.runIf (fun _ => by simp only [Dev.mems_mk, Dev.mems_fold, Dev.mems_ite, ite_self, Dev.mems_railOn, Dev.mems_diesRise, Dev.mems_foldl,
      implies_true])

theorem memOk_execStartupSlotRamp (h : s.dev.MemOk) (slot : Fin 24) : (execStartupSlotRamp slot s).MemOk := h.runIf (fun _ => Dev.mems_slotRamp ..)

theorem memOk_execBootImageVerify (h : s.dev.MemOk) (storeOk : Bool) : (execBootImageVerify storeOk s).MemOk := by
  refine h.runIf (fun d => ?_)
  simp only [Dev.mems_mk, Dev.mems_fold, Dev.mems_ite, ite_self, Dev.mems_event]
  repeat' split
  all_goals simp only [Dev.mems_mk, Dev.mems_fold, Dev.mems_freshParams, Dev.mems_loadObjects, Dev.mems_loadParams, Dev.mems_setMeter, Dev.mems_event]

theorem memOk_execStartupComplete (h : s.dev.MemOk) : (execStartupComplete s).MemOk := h.runIf (fun _ => Dev.mems_event ..)

/-! #### `Machine/Modes` -/

theorem memOk_execServe (h : s.dev.MemOk) (via : Via) : (execServe via s).MemOk := by
  refine h.run (fun d => Dev.mems_modeCommand (fun d t ht => ?_) via _)
  obtain ⟨-, ht⟩ := Option.ite_none_right_eq_some.mp ht
  cases ht
  rfl

theorem memOk_execQuiesce (h : s.dev.MemOk) (via : Via) : (execQuiesce via s).MemOk := by
  refine h.run (fun d => Dev.mems_modeCommand (fun d t ht => ?_) via _)
  obtain ⟨-, ht⟩ := Option.ite_none_right_eq_some.mp ht
  cases ht
  rfl

theorem memOk_execResume (h : s.dev.MemOk) (via : Via) : (execResume via s).MemOk := by
  refine h.run (fun d => Dev.mems_modeCommand (fun d t ht => ?_) via _)
  obtain ⟨-, ht⟩ := Option.ite_none_right_eq_some.mp ht
  cases ht
  exact Dev.mems_leaveQuiesce ..

theorem memOk_execRecommission (h : s.dev.MemOk) (via : Via) : (execRecommission via s).MemOk := by
  refine h.run (fun d => Dev.mems_modeCommand (fun d t ht => ?_) via _)
  obtain ⟨-, ht⟩ := Option.ite_none_right_eq_some.mp ht
  cases ht
  simp only [Dev.mems_mk, Dev.mems_fold, Dev.mems_leaveQuiesce]

theorem memOk_execShutdown (h : s.dev.MemOk) (via : Via) : (execShutdown via s).MemOk := by
  refine h.run (fun d => Dev.mems_modeCommand (fun d t ht => ?_) via _)
  obtain ⟨-, ht⟩ := Option.ite_none_right_eq_some.mp ht
  cases ht
  exact Dev.mems_beginShutdown

theorem memOk_execStart (h : s.dev.MemOk) (via : Via) : (execStart via s).MemOk := by
  refine h.run (fun d => Dev.mems_modeCommand (fun d t ht => ?_) via _)
  cases via with
  | reg r => cases ht
  | dict n =>
    obtain ⟨-, ht⟩ := Option.ite_none_right_eq_some.mp ht
    cases ht
    rfl

theorem memOk_execModeCommandRefused (h : s.dev.MemOk) (via : Via) (bits : BitVec 5) : (execModeCommandRefused via bits s).MemOk :=
  h.runIf (fun _ => Dev.mems_modeCommand (fun _ _ ht => by cases ht) via _)

theorem memOk_execRestoreDefaults (h : s.dev.MemOk) (session : Nat) (value : Word) : (execRestoreDefaults session value s).MemOk :=
  h.run (fun _ => by simp only [Dev.mems_mk, Dev.mems_fold, Dev.mems_ite, ite_self, Dev.mems_dictDenied, Dev.mems_dictAnswer])

/-! #### `Machine/FirmwareOps` -/

theorem memOk_execImageDownload (h : s.dev.MemOk) (session : Nat) : (execImageDownload session s).MemOk :=
  h.run (fun _ => by simp only [Dev.mems_mk, Dev.mems_fold, Dev.mems_ite, ite_self, Dev.mems_dictDenied, Dev.mems_dictAnswer])

theorem memOk_execImageDownloadEnd (h : s.dev.MemOk) (image : FwImage) : (execImageDownloadEnd image s).MemOk :=
  h.runIf (fun _ => by simp only [Dev.mems_mk, Dev.mems_fold, Dev.mems_ite, ite_self, Dev.mems_event, Dev.mems_fwWarn])

theorem memOk_execLiveGroupComplete (h : s.dev.MemOk) : (execLiveGroupComplete s).MemOk :=
  h.runIf (fun _ => by simp only [Dev.mems_mk, Dev.mems_fold, Dev.mems_ite, ite_self, Dev.mems_event, Dev.mems_returnItems, Dev.mems_beginGroup])

theorem memOk_execLiveGroupTimeout (h : s.dev.MemOk) : (execLiveGroupTimeout s).MemOk :=
  h.runIf (fun _ => by simp only [Dev.mems_mk, Dev.mems_fold, Dev.mems_ite, ite_self, Dev.mems_fwWarn, Dev.mems_returnItems, Dev.mems_releaseHeld,
      Dev.mems_foldl, implies_true])

theorem memOk_execImageConfirm (h : s.dev.MemOk) : (execImageConfirm s).MemOk := by
  refine h.runIf (fun d => ?_)
  dsimp only
  split <;> simp only [Dev.mems_mk, Dev.mems_fold, Dev.mems_event]

/-! #### `Machine/Dma` -/

theorem memOk_execChannelEnable (h : s.dev.MemOk) (req : Requester) (ch : Fin 128) (value : Word) : (execChannelEnable req ch value s).MemOk :=
  h.run (fun _ => by simp only [Dev.mems_ite, ite_self, Dev.mems_chanWrite, Dev.mems_dmaRefused, Dev.mems_setFld, Dev.mems_setChan])

theorem memOk_execChTrigWrite (h : s.dev.MemOk) (req : Requester) (ch : Fin 128) (value : Word) : (execChTrigWrite req ch value s).MemOk :=
  h.run (fun _ => by simp only [Dev.mems_ite, ite_self, Dev.mems_chanWrite, Dev.mems_dmaRefused, Dev.mems_setFld])

theorem memOk_execShadowWrite (h : s.dev.MemOk) (req : Requester) (ch : Fin 128) (which : Fin 7) (value : Word) :
    (execShadowWrite req ch which value s).MemOk :=
  h.run (fun _ => by simp only [Dev.mems_ite, ite_self, Dev.mems_chanWrite, Dev.mems_dmaRefused, Dev.mems_shadowSet])

theorem memOk_execTimerTrigger (h : s.dev.MemOk) (ch : Fin 128) : (execTimerTrigger ch s).MemOk := h.runIf (fun _ => Dev.mems_chanTrigger ..)

theorem memOk_execQuantumEnd (h : s.dev.MemOk) (ch : Fin 128) : (execQuantumEnd ch s).MemOk := h.runIf (fun _ => rfl)

/-! #### `Machine/Ptp` -/

theorem memOk_execPtpAnnounceReceive (h : s.dev.MemOk) (mac : Fin 64) (message : PtpAnnounce) :
    (execPtpAnnounceReceive mac message s).MemOk :=
  h.runIf (fun _ => Dev.mems_setPtp ..)

theorem memOk_execPtpEventReceive (h : s.dev.MemOk) (mac : Fin 64) (message : PtpMessage) (sixteenth : Fin 16) :
    (execPtpEventReceive mac message sixteenth s).MemOk := by
  refine h.runIf (fun d => ?_)
  dsimp only
  split <;> simp only [Dev.mems_ite, ite_self, Dev.mems_setPtp]

theorem memOk_execPtpDelayReqSend (h : s.dev.MemOk) (sixteenth : Fin 16) : (execPtpDelayReqSend sixteenth s).MemOk := h.runIf (fun _ => rfl)

theorem memOk_execPtpAnnounceTimeout (h : s.dev.MemOk) (intervalNs : Nat) : (execPtpAnnounceTimeout intervalNs s).MemOk :=
  h.runIf (fun _ => by simp only [Dev.mems_ite, ite_self, Dev.mems_setPtp, Dev.mems_event])

theorem memOk_execPtpServoUpdate (h : s.dev.MemOk) (trimPpb : Int) (locked : Bool) : (execPtpServoUpdate trimPpb locked s).MemOk := by
  refine h.runIf (fun d => ?_)
  dsimp only
  split <;> simp only [Dev.mems_ite, ite_self, Dev.mems_setPtp, Dev.mems_eventIf, Dev.mems_emit, Dev.mems_timeStep, Dev.mems_event,
      Dev.mems_meterSlew]

/-! #### `Machine/Package` -/

theorem memOk_execTemperatureSample (h : s.dev.MemOk) (readings : List Int) : (execTemperatureSample readings s).MemOk := by
  refine h.runIf (fun d => ?_)
  simp only [Dev.mems_ite, Dev.mems_readSensor, Dev.mems_thermalWarning, Dev.mems_holdTemps, Dev.mems_foldl, implies_true]
  repeat' split
  all_goals simp only [Dev.mems_readSensor, Dev.mems_thermalWarning, Dev.mems_ledgerTemps, Dev.mems_compositeNotice, Dev.mems_alarm, Dev.mems_foldl,
      implies_true]

theorem memOk_execDieTempRead (h : s.dev.MemOk) (req : Requester) (sensor : Fin 20) : (execDieTempRead req sensor s).MemOk :=
  h.run (fun _ => by simp only [Dev.mems_mk, Dev.mems_fold, Dev.mems_regRead])

theorem memOk_execRefclockReturn (h : s.dev.MemOk) (clock : Fin 7) : (execRefclockReturn clock s).MemOk := h.runIf (fun _ => rfl)

/-! #### `Machine/View` -/

theorem memOk_execLowWordRead (h : s.dev.MemOk) (req : Requester) (addr : BitVec 32) : (execLowWordRead req addr s).MemOk := by
  refine h.run (fun d => ?_)
  split
  · rfl
  · refine Dev.mems_regRead ?_ ..
    split
    · exact Dev.mems_counterRefused ..
    · exact Dev.mems_pairRead ..

theorem memOk_execLedgerRecovery (h : s.dev.MemOk) (found : Recovery) : (execLedgerRecovery found s).MemOk :=
  h.run (fun _ => by simp only [Dev.mems_ite, ite_self, Dev.mems_loadState, Dev.mems_loadLatches, Dev.mems_recoverRings])

/-! #### `Machine/RegWrite` -/

theorem memOk_execRegisterWrite (h : s.dev.MemOk) (req : Requester) (addr : BitVec 32) (value : Word) :
    (execRegisterWrite req addr value s).MemOk := by
  refine h.run (fun d => ?_)
  split
  · exact Dev.mems_regWrite (Dev.mems_msixTableWrite ..) _
  · split
    · rfl
    · split
      · rfl
      · refine Dev.mems_regWrite ?_ _
        split
        next t ht => exact Dev.mems_writeDenied ht
        · split
          · simp only [Dev.mems_ite, Dev.mems_storeReg, ite_self]
          · rfl

theorem memOk_execMsixUnmask (h : s.dev.MemOk) (fn : Fin 66) (vec : Nat) : (execMsixUnmask fn vec s).MemOk :=
  h.runIf (fun _ => by simp only [Dev.mems_ite, ite_self, Dev.mems_setEpFn, Dev.mems_msixSend])

/-! #### `Machine/Dictionary` -/

theorem memOk_execObjectRead (h : s.dev.MemOk) (session : Nat) (index : BitVec 16) (sub : Byte) : (execObjectRead session index sub s).MemOk :=
  h.inSession (fun h => h.run (fun _ => Dev.mems_objectRead ..))

theorem memOk_execParameterStoreDone (h : s.dev.MemOk) (ok : Bool) : (execParameterStoreDone ok s).MemOk := by
  refine h.runIf (fun d => ?_)
  dsimp only
  repeat' split
  all_goals simp only [Dev.mems_mk, Dev.mems_fold, Dev.mems_storeNow, Dev.mems_draw, Dev.mems_event, Dev.mems_dictAnswer]

theorem memOk_execNonceRead (h : s.dev.MemOk) (session : Nat) : (execNonceRead session s).MemOk :=
  h.inSession (fun h => h.run (fun _ => Dev.mems_objectRead ..))

theorem memOk_execSessionIdleTimeout (h : s.dev.MemOk) (session : Nat) :
    (execSessionIdleTimeout session s).MemOk :=
  h.runIf (fun _ => Dev.mems_sessionFalls ..)

theorem memOk_execSdoTimeout (h : s.dev.MemOk) (server : Fin 4) : (execSdoTimeout server s).MemOk := by
  refine h.run (fun d => ?_)
  repeat' split
  all_goals simp only [Dev.mems_dictAnswer, Dev.mems_setSdo]

theorem memOk_execNmtStartRemoteNode (h : s.dev.MemOk) (node : Fin 128) :
    (execNmtStartRemoteNode node s).MemOk :=
  h.runIf (fun _ => Dev.mems_nmtTo ..)

theorem memOk_execNmtStopRemoteNode (h : s.dev.MemOk) (node : Fin 128) : (execNmtStopRemoteNode node s).MemOk := h.runIf (fun _ => Dev.mems_nmtTo ..)

theorem memOk_execNmtEnterPreOperational (h : s.dev.MemOk) (node : Fin 128) :
    (execNmtEnterPreOperational node s).MemOk :=
  h.runIf (fun _ => Dev.mems_nmtTo ..)

theorem memOk_execNmtResetNode (h : s.dev.MemOk) (node : Fin 128) :
    (execNmtResetNode node s).MemOk :=
  h.runIf (fun _ => Dev.mems_communicationReset ..)

theorem memOk_execNmtResetCommunication (h : s.dev.MemOk) (node : Fin 128) :
    (execNmtResetCommunication node s).MemOk :=
  h.runIf (fun _ => Dev.mems_communicationReset ..)

theorem memOk_execSyncReceive (h : s.dev.MemOk) : (execSyncReceive s).MemOk :=
  h.runIf (fun _ => by simp only [Dev.mems_pdoSync, Dev.mems_foldl, implies_true])

theorem memOk_execTpdoEventTimer (h : s.dev.MemOk) (pdo : Fin 8) : (execTpdoEventTimer pdo s).MemOk := h.runIf (fun _ => Dev.mems_sendPdo ..)

theorem memOk_execEmcyInhibitEnd (h : s.dev.MemOk) : (execEmcyInhibitEnd s).MemOk := by
  refine h.runIf (fun d => ?_)
  dsimp only
  split <;> simp only [Dev.mems_emit, Dev.mems_setCan]

theorem memOk_execProducerHeartbeat (h : s.dev.MemOk) : (execProducerHeartbeat s).MemOk := h.runIf (fun _ => rfl)

theorem memOk_execCanBusOff (h : s.dev.MemOk) (off : Bool) : (execCanBusOff off s).MemOk :=
  h.runIf (fun _ => by simp only [Dev.mems_ite, ite_self, Dev.mems_event, Dev.mems_setCan])

theorem memOk_execCanBusOffRecovery (h : s.dev.MemOk) : (execCanBusOffRecovery s).MemOk := h.runIf (fun _ => Dev.mems_setCan ..)

theorem memOk_execOapOpen (h : s.dev.MemOk) (seq : Word) : (execOapOpen seq s).MemOk := by
  refine h.runIf (fun d => ?_)
  dsimp only
  split <;> simp only [Dev.mems_emit, Dev.mems_setSession, Dev.mems_drawNonce, Dev.mems_oapRespond]

theorem memOk_execOapRead (h : s.dev.MemOk) (m : OapMsg) : (execOapRead m s).MemOk :=
  h.oapRequest m 1 (fun _ h => h.run (fun _ => Dev.mems_objectRead ..))

theorem memOk_execOapClose (h : s.dev.MemOk) (m : OapMsg) : (execOapClose m s).MemOk :=
  h.oapRequest m 5 (fun _ h => h.run (fun _ => by simp only [Dev.mems_setSession, Dev.mems_dictAnswer]))

theorem memOk_execMgmtAddressFrame (h : s.dev.MemOk) (echo : Bool) : (execMgmtAddressFrame echo s).MemOk := h.runIf (fun _ => Dev.mems_emit ..)

/-! #### `Machine/Windows` -/

theorem memOk_execAggregationWindowEnd (h : s.dev.MemOk) : (execAggregationWindowEnd s).MemOk :=
  h.runIf (fun _ => by simp only [Dev.mems_ite, ite_self, Dev.mems_plinthWindow, Dev.mems_dieWindows])

end Commands

end Sys2Proof.Machine

/-!
PROOF. The commands whose effect may write a memory, the dictionary's writes with every command they reach, and the settlement of O6.
-/
namespace Sys2Proof.Machine

theorem Dev.MemOk.regWrite {s : Dev} {f : Dev → Dev} (h : s.MemOk) (hf : (f s).MemOk) (addr : Nat) : (s.regWrite addr f).MemOk :=
  h.ite ((h.congr (Dev.mems_csError ..)).ite (hf.congr (Dev.mems_storeChanged ..)))

theorem Dev.MemOk.chanWrite {s : Dev} {f : Dev → Dev} (h : s.MemOk) (hf : (f s).MemOk) (req : Requester) (n : Nat) (r : Reg) :
    (s.chanWrite req n r f).MemOk := by
  refine h.regWrite ?_ _
  exact hf.ite (h.congr (Dev.mems_dmaRefused ..))

section Writers

variable {s : State}

theorem memOk_execClusterCompletionTimeout (h : s.dev.MemOk) (region : Fin 23) (cluster : Nat) (channels : List (Fin 128)) :
    (execClusterCompletionTimeout region cluster channels s).MemOk := h.runsIf (fun _ h => h.clusterReset ..)

theorem memOk_execClusterResetGo (h : s.dev.MemOk) (req : Requester) (region : Fin 32) (cluster : Fin 256) (channels : List (Fin 128)) :
    (execClusterResetGo req region cluster channels s).MemOk := by
  refine h.runs (fun d h => h.regWrite ?_ _)
  dsimp only
  split
  · exact h.congr (by simp only [Dev.mems_setFld])
  · split
    · exact h.congr (by simp only [Dev.mems_setFld])
    · exact Dev.MemOk.clusterReset (h.congr (by simp only [Dev.mems_mk, Dev.mems_fold, Dev.mems_setFld])) ..

theorem memOk_execCodeViolationReport (h : s.dev.MemOk) (region : Fin 23) : (execCodeViolationReport region s).MemOk :=
  h.runsIf (fun _ h => h.isolateRegion ..)

theorem memOk_execIsolate (h : s.dev.MemOk) (req : Requester) (region : Fin 23) : (execIsolate req region s).MemOk :=
  h.runs (fun _ h => h.regWrite (h.isolateRegion ..) _)

theorem memOk_execSeamFlitReceive (h : s.dev.MemOk) (seam : Fin 6) (crcOk : Bool) : (execSeamFlitReceive seam crcOk s).MemOk :=
  h.runsIf (fun _ h => .ite (h.congr (Dev.mems_setSeam ..)) (.ite (h.seamDown _) (h.congr (by
    simp only [Dev.mems_emit, Dev.mems_event, Dev.mems_setSeam]))))

theorem memOk_execRocePacketReceive (h : s.dev.MemOk) (p : RocePacket) : (execRocePacketReceive p s).MemOk := h.runs (fun _ h => h.rocePacket p)

theorem memOk_execSendReceive (h : s.dev.MemOk) (p : RocePacket) : (execSendReceive p s).MemOk := h.runs (fun _ h => h.packetOf ..)

theorem memOk_execRdmaWriteReceive (h : s.dev.MemOk) (p : RocePacket) : (execRdmaWriteReceive p s).MemOk := h.runs (fun _ h => h.packetOf ..)

theorem memOk_execRdmaReadRequestReceive (h : s.dev.MemOk) (p : RocePacket) : (execRdmaReadRequestReceive p s).MemOk :=
  h.runs (fun _ h => h.packetOf ..)

theorem memOk_execFlushReceive (h : s.dev.MemOk) (p : RocePacket) : (execFlushReceive p s).MemOk := h.runs (fun _ h => h.packetOf ..)

theorem memOk_execFlushDurable (h : s.dev.MemOk) (qp : Nat) (ledgerOk : Bool) : (execFlushDurable qp ledgerOk s).MemOk := by
  refine h.runsIf (fun d h => ?_)
  dsimp only
  split
  · exact h
  next f fs _ =>
    exact h.ite (.ite (h.congr (Dev.mems_windowFailed ..))
      ((h.makeDurable (fun b => b.qp == qp && decide (f.lo ≤ b.addr) && decide (b.addr < f.hi))).congr (by
        simp only [Dev.mems_sendAck, Dev.mems_setQp])))

theorem memOk_execAtomicWriteReceive (h : s.dev.MemOk) (p : RocePacket) : (execAtomicWriteReceive p s).MemOk := h.runs (fun _ h => h.packetOf ..)

theorem memOk_execAckReceive (h : s.dev.MemOk) (p : RocePacket) : (execAckReceive p s).MemOk := h.runs (fun _ h => .ite (h.packetOf ..) h)

theorem memOk_execNakReceive (h : s.dev.MemOk) (p : RocePacket) : (execNakReceive p s).MemOk := h.runs (fun _ h => .ite (h.packetOf ..) h)

theorem memOk_execRnrNakReceive (h : s.dev.MemOk) (p : RocePacket) : (execRnrNakReceive p s).MemOk := h.runs (fun _ h => .ite (h.packetOf ..) h)

theorem memOk_execReadResponseReceive (h : s.dev.MemOk) (p : RocePacket) : (execReadResponseReceive p s).MemOk := h.runs (fun _ h => h.packetOf ..)

/-- A registration takes the slot's bytes out of the windows' memory, written and durable. -/
theorem memOk_execWinRegisterComplete (h : s.dev.MemOk) (slot : Fin 4096) : (execWinRegisterComplete slot s).MemOk := by
  refine h.runsIf (fun d h => ?_)
  obtain ⟨hhbm, hmem, hdurable⟩ := h
  simp only [Dev.MemOk, Dev.mems_asyncTenant, Dev.mems_event, Dev.mems_setWindow, Dev.mems_mk]
  exact ⟨hhbm, Table.wf_filter _ hmem, Table.wf_filter _ hdurable⟩

theorem memOk_execMemberWriteComplete (h : s.dev.MemOk) (id : Nat) (result : MemberEnd) : (execMemberWriteComplete id result s).MemOk := by
  refine h.runs (fun d h => ?_)
  split
  · exact h
  next c _ =>
    extract_lets lanes st d d'
    have hd : d.MemOk := h
    have he : d'.MemOk := hd.congr (Dev.mems_count ..)
    refine h.ite ?_
    refine .ite ((hd.congr (Dev.mems_count ..)).fence ..) ?_
    split
    · exact he.fence ..
    · refine .ite (he.congr (by simp only [Dev.mems_memberCmd, Dev.mems_count])) ?_
      split
      · exact he.congr (by simp only [Dev.mems_regather, Dev.mems_useLost, Dev.mems_memberFail])
      · exact he.congr (Dev.mems_useLost ..)
    · refine hd.congr ?_
      split <;> simp only [Dev.mems_recordWritten, Dev.mems_reservedWritten]

theorem memOk_execChannelDisable (h : s.dev.MemOk) (req : Requester) (ch : Fin 128) : (execChannelDisable req ch s).MemOk := by
  refine h.runs (fun d h => h.chanWrite ?_ ..)
  extract_lets x busy d1 r moved d2 remain d3 d4
  have h2 : d2.MemOk := h.congr (by simp only [d2, moved, r, d1, Dev.mems_ite, Dev.mems_count, Dev.mems_draw, Dev.mems_setFld, ite_self])
  have h3 : d3.MemOk := h2.chanMix ch.val
  exact h3.congr (by simp only [Dev.mems_ite, Dev.mems_event, Dev.mems_count, d4, Dev.mems_setChan, ite_self])

theorem memOk_execDoorbellGo (h : s.dev.MemOk) (req : Requester) (ch : Fin 128) : (execDoorbellGo req ch s).MemOk := by
  refine h.runs (fun d h => h.chanWrite ?_ ..)
  dsimp only
  split
  · exact (h.congr (Dev.mems_setChan ..)).chanLoad _
  · exact h.congr (Dev.mems_dmaRefused ..)

theorem memOk_execListEntryFetch (h : s.dev.MemOk) (ch : Fin 128) (dest : Bool) (addr : BitVec 64) (len : Word) :
    (execListEntryFetch ch dest addr len s).MemOk := by
  refine h.runsIf (fun d h => ?_)
  dsimp only
  split
  · exact h
  · refine h.ite ?_
    split
    · exact (h.chanPrefix _).chanHalt ..
    · exact .ite ((h.chanPrefix _).chanHalt ..) (h.congr (Dev.mems_setChan ..))

theorem memOk_execTransferComplete (h : s.dev.MemOk) (ch : Fin 128) (ok : Bool) (errAddr : BitVec 64) (data : List Byte) :
    (execTransferComplete ch ok errAddr data s).MemOk := by
  refine h.runsIf (fun d h => ?_)
  extract_lets x
  split
  · exact h
  next a _ =>
    refine h.ite (.ite (h.chanHalt ..) ?_)
    split
    · split
      next src dst _ _ =>
        extract_lets d1 d2 d3 d4
        have h1 : d1.MemOk := .ite (h.congr (Dev.mems_ledgerWear ..)) (h.chanPut ..)
        have h3 : d3.MemOk := h1.congr (by simp only [d3, d2, Dev.mems_setChan, Dev.mems_count])
        have h4 : d4.MemOk := (h3.chanLoad ch.val).congr (Dev.mems_chanChain ..)
        exact .ite (.ite (h4.congr (Dev.mems_pf1Signal ..)) (h4.congr (Dev.mems_emit ..))) h4
      · exact h.chanHalt ..
    · exact h

theorem memOk_execEndpointReset (h : s.dev.MemOk) (why : LinkEnd) : (execEndpointReset why s).MemOk := h.runsIf (fun _ h => h.endpointReset)

theorem memOk_execCompletionTimeout (h : s.dev.MemOk) (who : EpIssuer) : (execCompletionTimeout who s).MemOk := by
  refine h.runsIf (fun d h => ?_)
  have hc : (d.count .EP_CPL_TIMEOUT).MemOk := h.congr (Dev.mems_count ..)
  cases who with
  | channel ch addr => exact h.ite (hc.chanHalt ..)
  | data id =>
    dsimp only
    split
    · exact h
    · split
      · exact h
      · exact h
      · exact hc.congr (Dev.mems_dataFailed ..)
  | fetch fn =>
    dsimp only
    split
    · exact h
    · exact hc.congr (Dev.mems_setCtrl ..)

theorem memOk_execApertureRequest (h : s.dev.MemOk) (offset : BitVec 34) (req : ApRequest) (hbmOk : Bool) :
    (execApertureRequest offset req hbmOk s).MemOk := by
  refine h.runsIf (fun d h => ?_)
  dsimp only
  refine h.ite ?_
  split
  · exact h.congr (Dev.mems_apRefuse ..)
  · split
    · exact .ite (h.congr (Dev.mems_apRefuse ..)) (.ite (h.congr (Dev.mems_apRefuse ..)) (.ite (h.congr (Dev.mems_emit ..))
        (h.congr (by simp only [Dev.mems_emit, Dev.mems_event, Dev.mems_draw, Dev.mems_count]))))
    · exact h.congr (Dev.mems_apRefuse ..)
  · split
    · exact .ite (h.congr (Dev.mems_apRefuse ..)) (h.hbmWrite ..)
    · exact h.congr (Dev.mems_apRefuse ..)

theorem memOk_execBusMasterDisable (h : s.dev.MemOk) (fn : Fin 66) (outstanding discarded : Nat) :
    (execBusMasterDisable fn outstanding discarded s).MemOk := by
  refine h.runsIf (fun d h => ?_)
  extract_lets f d1 d2
  have h2 : d2.MemOk := h.congr (by simp only [d2, d1, Dev.mems_eventIf, Dev.mems_count, Dev.mems_setEpFn])
  split
  · exact h2.chansAbortBus
  · refine h2.congr ?_
    dsimp only
    split <;> simp only [Dev.mems_setCtrl, Dev.mems_cancelWhere]

theorem memOk_execFlrPf1 (h : s.dev.MemOk) (discarded : Nat) : (execFlrPf1 discarded s).MemOk :=
  h.runsIf (fun _ h => (h.congr (Dev.mems_count ..)).pf1Reset)

theorem memOk_execPackageReset (h : s.dev.MemOk) (via : Via) (value : BitVec 32) : (execPackageReset via value s).MemOk := by
  cases via with
  | reg r => exact h.run (fun _ => rfl)
  | dict n =>
    unfold execPackageReset
    dsimp only
    split
    · exact h.run (fun _ => Dev.mems_dictDenied ..)
    · split
      · exact h.run (fun _ => Dev.mems_dictAnswer ..)
      · exact Dev.MemOk.runs (s := s.noEvents) h (fun _ h => h.packageReset)

theorem memOk_execActivate (h : s.dev.MemOk) (via : Via) : (execActivate via s).MemOk := by
  unfold execActivate
  extract_lets d may
  split
  · refine h.run (fun d => ?_)
    split
    · rfl
    · exact Dev.mems_dictDenied ..
  · split
    · exact h.run (fun _ => by simp only [Dev.mems_answerVia, Dev.mems_liveChange])
    · exact Dev.MemOk.runs (s := s.noEvents) h (fun _ h => h.resetToImage)
    · exact h.run (fun _ => by simp only [Dev.mems_answerVia, Dev.mems_fwWarn])

theorem memOk_execCounterSnapshot (h : s.dev.MemOk) (advance : List (Nat × Nat)) (finished : BitVec 4) :
    (execCounterSnapshot advance finished s).MemOk := by
  refine h.runsIf (fun d h => ?_)
  extract_lets d1 evr d2 evr' isolated r head slot d3
  have h2 : d2.MemOk := h.congr (by
    simp only [d2, evr, d1, Dev.mems_mk, Dev.mems_fold, Dev.mems_foldl, Dev.mems_advanceCounter, implies_true])
  have h3 : d3.MemOk := .ite (h2.congr rfl) ((h2.congr (Dev.mems_snapshotSections ..)).hbmWrite ..)
  exact h3.congr (Dev.mems_applySelections ..)

theorem memOk_execSampleRecord (h : s.dev.MemOk) : (execSampleRecord s).MemOk := by
  refine h.runs (fun d h => ?_)
  split
  · exact h
  next x rest _ =>
    have hd := h.congr (t := { d with evr := { d.evr with sampleQueue := rest } }) rfl
    exact hd.ite ((hd.hbmWrite _ x.bytes).congr (by rfl))

theorem memOk_execQuoinTimeout (h : s.dev.MemOk) (pier : Fin 2) (held : BitVec 24) (blocks : List Fetched) :
    (execQuoinTimeout pier held blocks s).MemOk := by
  refine h.runs (fun d h => ?_)
  extract_lets x d1 vols d2 wins won lost own d3 y d4 d5
  have h2 : d2.mems = d.mems := by
    simp only [d2, Dev.mems_foldl, Dev.mems_ite, Dev.mems_setHolder, ite_self, d1, Dev.mems_setPierOwn, implies_true]
  have h5 : d5.mems = d2.mems := by
    simp only [d5, Dev.mems_foldl, Dev.mems_ite, Dev.mems_regather, Dev.mems_unreachedMissing, Dev.mems_serveVol, Dev.mems_moveVol,
      Dev.mems_interruptVol, ite_self, d4, Dev.mems_setPierOwn, d3, Dev.mems_count, Dev.mems_mk, Dev.mems_fold, implies_true]
  split
  · exact h
  · have hd : d5.MemOk := h.congr (h5.trans h2)
    exact h.ite (.ite (hd.congr (Dev.mems_event ..)) (hd.fence ..))

theorem memOk_railFailed (h : s.dev.MemOk) (r mv : Nat) : (railFailed r mv s).MemOk :=
  Dev.MemOk.runs (s := s.noEvents) h (fun _ h => (h.congr (Dev.mems_railsOff)).packageReset.congr (Dev.mems_event ..))

theorem memOk_execShutdownDone (h : s.dev.MemOk) : (execShutdownDone s).MemOk := by
  unfold execShutdownDone
  split
  · refine Dev.MemOk.runs (s := { s with evq := { s.evq with pe := [], pw := [], ln := [] } }) h (fun d h => ?_)
    extract_lets ldg d1 seated d2 d3 mode
    have h2 : d2.mems = d.mems := by
      simp only [d2, Dev.mems_foldl, Dev.mems_slotDown, d1, Dev.mems_mk, Dev.mems_fold, implies_true]
    have h3 : d3.MemOk := Dev.MemOk.diesFall (h.congr (by simp only [Dev.mems_eraseKeys, Dev.mems_railsOff, h2]))
    exact h3.congr (by simp only [Dev.mems_event, Dev.mems_mk, Dev.mems_fold])
  · exact h.run (fun _ => rfl)

theorem memOk_execRailTimeout (h : s.dev.MemOk) (rail : Fin 10) (mv : Nat) : (execRailTimeout rail mv s).MemOk := by
  unfold execRailTimeout
  extract_lets x due good
  split
  · exact memOk_railFailed h ..
  · exact h.run (fun _ => rfl)

theorem memOk_execRailDrop (h : s.dev.MemOk) (rail : Fin 10) (mv : Nat) : (execRailDrop rail mv s).MemOk := by
  unfold execRailDrop
  dsimp only
  split
  · exact memOk_railFailed h ..
  · exact h.run (fun _ => rfl)

theorem memOk_execPackageResetPin (h : s.dev.MemOk) (lowNs : Nat) : (execPackageResetPin lowNs s).MemOk := by
  unfold execPackageResetPin
  split
  · exact Dev.MemOk.runs (s := s.noEvents) h (fun _ h => h.packageReset)
  · exact h.run (fun _ => rfl)

theorem memOk_execPowerLoss (h : s.dev.MemOk) (standbyLost : Bool) : (execPowerLoss standbyLost s).MemOk := by
  unfold execPowerLoss
  split
  · refine Dev.MemOk.runs (s := s.noEvents) h (fun d h => ?_)
    exact Dev.MemOk.congr (Dev.MemOk.plinthReset (h.congr (t := { d with mode := { d.mode with standby := false } }) rfl) false) rfl
  · split
    · exact h.run (fun _ => rfl)
    · refine Dev.MemOk.runs (s := { s with evq := { s.evq with pe := [], pw := [], ln := [] } }) h (fun d h => ?_)
      exact .ite (h.congr Dev.mems_feedsLost) ((Dev.MemOk.diesFall (h.congr Dev.mems_eraseKeys)).congr (by
        simp only [Dev.mems_mk, Dev.mems_fold, Dev.mems_feedsLost]))

theorem memOk_execRefclockLoss (h : s.dev.MemOk) (clock : Fin 7) : (execRefclockLoss clock s).MemOk := by
  refine h.runsIf (fun d h => ?_)
  extract_lets c d1
  have hd : d1.MemOk := h.congr (by simp only [d1, Dev.mems_event, Dev.mems_mk, Dev.mems_fold])
  refine hd.ite ?_
  split
  · exact hd.ite (hd.congr (Dev.mems_setPtp ..))
  · exact hd.congr (by simp only [Dev.mems_foldl, Dev.mems_macDown, implies_true])
  · exact hd.congr (by simp only [Dev.mems_foldl, Dev.mems_macDown, implies_true])
  · exact hd.congr (by simp only [Dev.mems_bondDown])
  · exact hd.congr (by simp only [Dev.mems_foldl, Dev.mems_portDown, implies_true])
  · exact hd.congr (by simp only [Dev.mems_foldl, Dev.mems_portDown, implies_true])
  · exact hd.endpointReset

theorem memOk_execPowerUp (h : s.dev.MemOk) (pkgIdx : Fin 4) (wiring : Bool) : (execPowerUp pkgIdx wiring s).MemOk := by
  unfold execPowerUp
  split
  · exact h.run (fun _ => rfl)
  · refine Dev.MemOk.runs (s := s.noEvents) h (fun d h => ?_)
    refine Dev.MemOk.congr (Dev.MemOk.plinthReset ?_ false) (Dev.mems_firstRuns ..)
    exact h.congr (s := d) rfl

theorem memOk_commandEntry (h : s.dev.MemOk) (n i b : Nat) (data : List Byte) : (commandEntry n i b data s).MemOk := by
  have range : (s.run (·.dictAnswer n abortRange)).MemOk := h.run (fun _ => Dev.mems_dictAnswer ..)
  unfold commandEntry
  dsimp only
  split
  · split
    · exact memOk_execBreakerCurveWrite h ..
    · split
      · exact memOk_execSlotOn h ..
      · exact memOk_execSlotOff h ..
      · exact memOk_execSlotCycle h ..
      · exact range
  · split
    · split
      · exact memOk_execKeyGenerate h ..
      · exact memOk_execKeyImport h ..
      · exact memOk_execKeyDestroy h ..
      · exact range
    · split
      · split
        · exact memOk_execVolumeCreate h ..
        · exact memOk_execVolumeDelete h ..
        · exact range
      · split
        · exact memOk_execWinRegister h ..
        · exact memOk_execWinRevoke h ..
        · exact range

theorem memOk_commandPage (h : s.dev.MemOk) (n i b : Nat) (enc : Bool) (data : List Byte) : (commandPage n i b enc data s).MemOk := by
  have range : (s.run (·.dictAnswer n abortRange)).MemOk := h.run (fun _ => Dev.mems_dictAnswer ..)
  unfold commandPage
  dsimp only
  split
  · exact h.run (fun _ => Dev.mems_errorsClear ..)
  · exact memOk_execRestoreDefaults h ..
  · split
    · exact memOk_execServe h ..
    · exact memOk_execQuiesce h ..
    · exact memOk_execResume h ..
    · exact memOk_execShutdown h ..
    · exact memOk_execRecommission h ..
    · exact memOk_execStart h ..
    · exact range
  · exact memOk_execPackageReset h ..
  · split
    · exact h.run (fun _ => Dev.mems_proof ..)
    · exact h.run (fun _ => by simp only [Dev.mems_dictAnswer, Dev.mems_sessionFalls])
  · exact memOk_execImageDownload h ..
  · split
    · exact memOk_execActivate h ..
    · exact range
  · exact memOk_execFeedCfgWrite h ..
  · split
    · exact memOk_execSecretInject h ..
    · exact memOk_execSecretChange h ..
  · exact memOk_execAlmCfgWrite h ..
  · exact h.run (fun _ => Dev.mems_privObject ..)
  · exact memOk_execEpVecWrite h ..
  · exact range

/-- A write of the dictionary, by whichever way it came. -/
theorem State.memOk_objectWrite (h : s.dev.MemOk) (n i b : Nat) (enc : Bool) (offset : Nat) (data : List Byte) :
    (s.objectWrite n i b enc offset data).MemOk := by
  unfold State.objectWrite
  dsimp only
  have refused (code : Nat) : (s.run (·.dictAnswer n code)).MemOk := h.run (fun _ => Dev.mems_dictAnswer ..)
  split
  · exact refused _
  · exact refused _
  · split
    · exact refused _
    · split
      · exact h.run (fun _ => Dev.mems_dictDenied ..)
      · split
        · exact refused _
        · split
          · exact refused _
          · refine Dev.MemOk.andThen ?_ (fun t ht => ⟨_, rfl, ht⟩)
            split
            · split
              · exact memOk_commandPage h ..
              · exact memOk_commandEntry h ..
            · exact h.run (fun _ => Dev.mems_objectApply ..)

theorem memOk_execObjectWrite (h : s.dev.MemOk) (session : Nat) (index : BitVec 16) (sub : Byte) (data : List Byte) :
    (execObjectWrite session index sub data s).MemOk := Dev.MemOk.inSession h (fun h => State.memOk_objectWrite h ..)

theorem memOk_execProof (h : s.dev.MemOk) (session : Nat) (level : Byte) (tag : List Byte) : (execProof session level tag s).MemOk :=
  Dev.MemOk.inSession h (fun h => State.memOk_objectWrite h ..)

theorem memOk_execSessionDrop (h : s.dev.MemOk) (session : Nat) : (execSessionDrop session s).MemOk :=
  Dev.MemOk.inSession h (fun h => State.memOk_objectWrite h ..)

theorem memOk_execErrorFieldClear (h : s.dev.MemOk) (session : Nat) (value : Byte) : (execErrorFieldClear session value s).MemOk :=
  Dev.MemOk.inSession h (fun h => State.memOk_objectWrite h ..)

theorem memOk_execOapWrite (h : s.dev.MemOk) (m : OapMsg) : (execOapWrite m s).MemOk :=
  h.oapRequest m 2 (fun _ h => State.memOk_objectWrite h ..)

theorem memOk_execOapProve (h : s.dev.MemOk) (m : OapMsg) : (execOapProve m s).MemOk :=
  h.oapRequest m 4 (fun _ h => State.memOk_objectWrite h ..)

theorem memOk_execSdoInitiate (h : s.dev.MemOk) (server : Fin 4) (request : SdoInit) : (execSdoInitiate server request s).MemOk := by
  unfold execSdoInitiate
  dsimp only
  split
  · exact h.run (fun _ => rfl)
  · refine Dev.MemOk.andThen (h.run (fun _ => by simp only [Dev.mems_ite, Dev.mems_dictAnswer, Dev.mems_forgetAnswer, ite_self])) (fun t ht => ?_)
    split
    · exact ht.run (fun _ => by simp only [Dev.mems_objectRead, Dev.mems_setSdo])
    · exact State.memOk_objectWrite ht ..
    · exact ht.run (fun _ => by simp only [Dev.mems_emit, Dev.mems_setSdo])

theorem memOk_execSdoSegment (h : s.dev.MemOk) (server : Fin 4) (frame : SdoFrame) : (execSdoSegment server frame s).MemOk := by
  unfold execSdoSegment
  extract_lets n bad
  have hbad : bad.MemOk := h.run (fun _ => Dev.mems_dictAnswer ..)
  split
  · exact h.run (fun _ => rfl)
  · split
    · split
      · exact hbad
      · exact h.run (fun _ => by simp only [Dev.mems_emit, Dev.mems_setSdo])
    · split
      · exact hbad
      · split
        · exact Dev.MemOk.andThen (h.run (fun _ => Dev.mems_setSdo ..)) (fun t ht => State.memOk_objectWrite ht ..)
        · exact h.run (fun _ => by simp only [Dev.mems_emit, Dev.mems_setSdo])
    · exact hbad

theorem memOk_execDictionaryWindowGo (h : s.dev.MemOk) (value : Word) : (execDictionaryWindowGo value s).MemOk := by
  unfold execDictionaryWindowGo
  dsimp only
  split
  · exact h.run (fun _ => rfl)
  · split
    · exact h.run (fun _ => Dev.mems_event ..)
    · refine Dev.MemOk.andThen (h.run (fun _ => by simp only [Dev.mems_setFld])) (fun t ht => ?_)
      split
      · exact State.memOk_objectWrite ht ..
      · exact ht.run (fun _ => Dev.mems_objectRead ..)

/-- Every command answers a next state whose memories are canonical, from one whose memories are. -/
theorem memOk_exec (h : s.dev.MemOk) (c : Instr) : Result.MemOk (exec c s) :=
  match c with
  | .registerWrite .. => memOk_execRegisterWrite h ..
  | .lowWordRead .. => memOk_execLowWordRead h ..
  | .csUnmappedAccess .. => memOk_execCsUnmappedAccess h ..
  | .csIsolatedAccess .. => memOk_execCsIsolatedAccess h ..
  | .csMisalignedAccess .. => memOk_execCsMisalignedAccess h ..
  | .clusterCompletionTimeout .. => memOk_execClusterCompletionTimeout h ..
  | .clusterResetComplete .. => memOk_execClusterResetComplete h ..
  | .clusterResetGo req _ _ _ => memOk_execClusterResetGo h req _ _ _
  | .codeViolationReport .. => memOk_execCodeViolationReport h ..
  | .isolate req _ => memOk_execIsolate h req _
  | .release req _ => memOk_execRelease h req _
  | .releaseSelfTestEnd .. => memOk_execReleaseSelfTestEnd h ..
  | .seamFlitReceive .. => memOk_execSeamFlitReceive h ..
  | .seam5Retrain => memOk_execSeam5Retrain h
  | .seamUp .. => memOk_execSeamUp h ..
  | .paceWindowEnd .. => memOk_execPaceWindowEnd h ..
  | .paceRead .. => memOk_execPaceRead h ..
  | .seamStatRead .. => memOk_execSeamStatRead h ..
  | .governorPass => memOk_execGovernorPass h
  | .pmbusTransactionEnd .. => memOk_execPmbusTransactionEnd h ..
  | .pmbusRetry .. => memOk_execPmbusRetry h ..
  | .timebaseAlignment .. => memOk_execTimebaseAlignment h ..
  | .portCfgWrite req _ _ => memOk_execPortCfgWrite h req _ _
  | .macEnable req _ _ => memOk_execMacEnable h req _ _
  | .macIpWrite req _ _ _ => memOk_execMacIpWrite h req _ _ _
  | .linkUp .. => memOk_execLinkUp h ..
  | .linkDown .. => memOk_execLinkDown h ..
  | .duplicateAddressDetectionEnd .. => memOk_execDuplicateAddressDetectionEnd h ..
  | .frameReceive .. => memOk_execFrameReceive h ..
  | .addressResolutionFrame .. => memOk_execAddressResolutionFrame h ..
  | .aggregationWindowEnd => memOk_execAggregationWindowEnd h
  | .transmissionSelection .. => memOk_execTransmissionSelection h ..
  | .frameTransmitEnd .. => memOk_execFrameTransmitEnd h ..
  | .cbsCreditZero .. => memOk_execCbsCreditZero h ..
  | .cbsSlopeWrite req _ _ _ => memOk_execCbsSlopeWrite h req _ _ _
  | .lpiEnter .. => memOk_execLpiEnter h ..
  | .lpiWake .. => memOk_execLpiWake h ..
  | .lpiWakeEnd .. => memOk_execLpiWakeEnd h ..
  | .lldpEeeTlvReceive .. => memOk_execLldpEeeTlvReceive h ..
  | .lldpTransmit .. => memOk_execLldpTransmit h ..
  | .ptpAnnounceReceive .. => memOk_execPtpAnnounceReceive h ..
  | .ptpEventReceive .. => memOk_execPtpEventReceive h ..
  | .ptpDelayReqSend .. => memOk_execPtpDelayReqSend h ..
  | .ptpAnnounceTimeout .. => memOk_execPtpAnnounceTimeout h ..
  | .ptpServoUpdate .. => memOk_execPtpServoUpdate h ..
  | .rocePacketReceive .. => memOk_execRocePacketReceive h ..
  | .sendReceive .. => memOk_execSendReceive h ..
  | .rdmaWriteReceive .. => memOk_execRdmaWriteReceive h ..
  | .rdmaReadRequestReceive .. => memOk_execRdmaReadRequestReceive h ..
  | .flushReceive .. => memOk_execFlushReceive h ..
  | .flushDurable .. => memOk_execFlushDurable h ..
  | .atomicWriteReceive .. => memOk_execAtomicWriteReceive h ..
  | .ackReceive .. => memOk_execAckReceive h ..
  | .nakReceive .. => memOk_execNakReceive h ..
  | .rnrNakReceive .. => memOk_execRnrNakReceive h ..
  | .readResponseReceive .. => memOk_execReadResponseReceive h ..
  | .cmReqReceive .. => memOk_execCmReqReceive h ..
  | .cmRtuReceive .. => memOk_execCmRtuReceive h ..
  | .cmDreqReceive .. => memOk_execCmDreqReceive h ..
  | .cmResponseTimeout .. => memOk_execCmResponseTimeout h ..
  | .drainTimeout .. => memOk_execDrainTimeout h ..
  | .errorFlushDone .. => memOk_execErrorFlushDone h ..
  | .quietTimeout .. => memOk_execQuietTimeout h ..
  | .localAckTimeout .. => memOk_execLocalAckTimeout h ..
  | .rnrWaitEnd .. => memOk_execRnrWaitEnd h ..
  | .ackCoalesceTimeout .. => memOk_execAckCoalesceTimeout h ..
  | .rdmaReadIssue .. => memOk_execRdmaReadIssue h ..
  | .rdmaWriteIssue .. => memOk_execRdmaWriteIssue h ..
  | .sendIssue .. => memOk_execSendIssue h ..
  | .creditProbeSend .. => memOk_execCreditProbeSend h ..
  | .winCfgWrite .. => memOk_execWinCfgWrite h ..
  | .winRegister .. => memOk_execWinRegister h ..
  | .winRegisterComplete .. => memOk_execWinRegisterComplete h ..
  | .winRevoke .. => memOk_execWinRevoke h ..
  | .revocationComplete .. => memOk_execRevocationComplete h ..
  | .revokeTimeout .. => memOk_execRevokeTimeout h ..
  | .connect .. => memOk_execConnect h ..
  | .propertySet .. => memOk_execPropertySet h ..
  | .propertyGet .. => memOk_execPropertyGet h ..
  | .controllerReady .. => memOk_execControllerReady h ..
  | .controllerShutdownDone .. => memOk_execControllerShutdownDone h ..
  | .disconnect .. => memOk_execDisconnect h ..
  | .getLogPage .. => memOk_execGetLogPage h ..
  | .identify .. => memOk_execIdentify h ..
  | .abort _ _ sqid acid => memOk_execAbort h _ _ sqid acid
  | .setFeatures .. => memOk_execSetFeatures h ..
  | .setPowerState .. => memOk_execSetPowerState h ..
  | .powerStateEntryEnd => memOk_execPowerStateEntryEnd h
  | .getFeatures .. => memOk_execGetFeatures h ..
  | .asyncEventRequest .. => memOk_execAsyncEventRequest h ..
  | .keepAlive .. => memOk_execKeepAlive h ..
  | .keepAliveExpiry .. => memOk_execKeepAliveExpiry h ..
  | .adminInvalidOpcode .. => memOk_execAdminInvalidOpcode h ..
  | .ioRead .. => memOk_execIoRead h ..
  | .ioWrite .. => memOk_execIoWrite h ..
  | .ioCompare .. => memOk_execIoCompare h ..
  | .ioWriteZeroes .. => memOk_execIoWriteZeroes h ..
  | .ioDatasetManagement .. => memOk_execIoDatasetManagement h ..
  | .ioFlush .. => memOk_execIoFlush h ..
  | .reservationRegister .. => memOk_execReservationRegister h ..
  | .reservationReport .. => memOk_execReservationReport h ..
  | .reservationAcquire .. => memOk_execReservationAcquire h ..
  | .preemptWaitEnd .. => memOk_execPreemptWaitEnd h ..
  | .reservationRelease .. => memOk_execReservationRelease h ..
  | .ioInvalidOpcode .. => memOk_execIoInvalidOpcode h ..
  | .commandTimeout .. => memOk_execCommandTimeout h ..
  | .commandFinish .. => memOk_execCommandFinish h ..
  | .completionIssue .. => memOk_execCompletionIssue h ..
  | .nsActivate .. => memOk_execNsActivate h ..
  | .nsDeactivate .. => memOk_execNsDeactivate h ..
  | .nsInactive .. => memOk_execNsInactive h ..
  | .nsClearComplete .. => memOk_execNsClearComplete h ..
  | .hostCfgWrite .. => memOk_execHostCfgWrite h ..
  | .tenantEnable req _ _ _ => memOk_execTenantEnable h req _ _ _
  | .tenantDisable req _ _ _ => memOk_execTenantDisable h req _ _ _
  | .policerConfigWrite req _ _ => memOk_execPolicerConfigWrite h req _ _
  | .frameRelease .. => memOk_execFrameRelease h ..
  | .tenantEligible .. => memOk_execTenantEligible h ..
  | .classPromotion .. => memOk_execClassPromotion h ..
  | .histogramSample => memOk_execHistogramSample h
  | .histBinRead .. => memOk_execHistBinRead h ..
  | .meterWindowEnd .. => memOk_execMeterWindowEnd h ..
  | .meterCheckpoint => memOk_execMeterCheckpoint h
  | .meterKeySelect req _ => memOk_execMeterKeySelect h req _
  | .meterExportRecord => memOk_execMeterExportRecord h
  | .unitAdmitRetry .. => memOk_execUnitAdmitRetry h ..
  | .frameCross .. => memOk_execFrameCross h ..
  | .swFreeMinRead .. => memOk_execSwFreeMinRead h ..
  | .swVoqStatRead .. => memOk_execSwVoqStatRead h ..
  | .keyGenerate .. => memOk_execKeyGenerate h ..
  | .keyImport .. => memOk_execKeyImport h ..
  | .keyDestroy .. => memOk_execKeyDestroy h ..
  | .keyDestroyComplete .. => memOk_execKeyDestroyComplete h ..
  | .keyCommandComplete .. => memOk_execKeyCommandComplete h ..
  | .secretInject .. => memOk_execSecretInject h ..
  | .secretChange .. => memOk_execSecretChange h ..
  | .almCfgWrite .. => memOk_execAlmCfgWrite h ..
  | .alarm .. => memOk_execAlarm h ..
  | .underVoltage .. => memOk_execUnderVoltage h ..
  | .underVoltageRecover => memOk_execUnderVoltageRecover h
  | .rngTestFail => memOk_execRngTestFail h
  | .bondFrameReceive .. => memOk_execBondFrameReceive h ..
  | .offloadDoorbell req _ _ => memOk_execOffloadDoorbell h req _ _
  | .offloadJobComplete .. => memOk_execOffloadJobComplete h ..
  | .volumeCreate .. => memOk_execVolumeCreate h ..
  | .volumeCreateComplete .. => memOk_execVolumeCreateComplete h ..
  | .volumeDelete .. => memOk_execVolumeDelete h ..
  | .volumeDeleteComplete .. => memOk_execVolumeDeleteComplete h ..
  | .accumulatorClaim .. => memOk_execAccumulatorClaim h ..
  | .stagingAdmit .. => memOk_execStagingAdmit h ..
  | .memberReadComplete .. => memOk_execMemberReadComplete h ..
  | .memberWriteComplete .. => memOk_execMemberWriteComplete h ..
  | .recordOpen .. => memOk_execRecordOpen h ..
  | .recordCommit .. => memOk_execRecordCommit h ..
  | .recordApplyStart .. => memOk_execRecordApplyStart h ..
  | .recordRetire .. => memOk_execRecordRetire h ..
  | .memberFlushComplete .. => memOk_execMemberFlushComplete h ..
  | .writeHoleClear .. => memOk_execWriteHoleClear h ..
  | .secondaryCopy .. => memOk_execSecondaryCopy h ..
  | .mramDieFail .. => memOk_execMramDieFail h ..
  | .ledgerRecovery .. => memOk_execLedgerRecovery h ..
  | .wearCounterSave => memOk_execWearCounterSave h
  | .windowRemap .. => memOk_execWindowRemap h ..
  | .segmentRemap .. => memOk_execSegmentRemap h ..
  | .repointSegment .. => memOk_execRepointSegment h ..
  | .hotClear => memOk_execHotClear h
  | .driveIdentify .. => memOk_execDriveIdentify h ..
  | .missingTimeout .. => memOk_execMissingTimeout h ..
  | .spareAssign .. => memOk_execSpareAssign h ..
  | .memberFailCmd req _ => memOk_execMemberFailCmd h req _
  | .memberReplace req _ => memOk_execMemberReplace h req _
  | .foreignClear req _ => memOk_execForeignClear h req _
  | .passPaceTick .. => memOk_execPassPaceTick h ..
  | .passStripeDone .. => memOk_execPassStripeDone h ..
  | .targetComplete .. => memOk_execTargetComplete h ..
  | .reshapeStart req _ => memOk_execReshapeStart h req _
  | .reshapePause req _ _ => memOk_execReshapePause h req _ _
  | .reshapeStepBegin .. => memOk_execReshapeStepBegin h ..
  | .reshapeStepEnd .. => memOk_execReshapeStepEnd h ..
  | .reshapeComplete .. => memOk_execReshapeComplete h ..
  | .scrubRow .. => memOk_execScrubRow h ..
  | .scrubPassComplete .. => memOk_execScrubPassComplete h ..
  | .rootPortLinkUp .. => memOk_execRootPortLinkUp h ..
  | .rootPortLinkLoss .. => memOk_execRootPortLinkLoss h ..
  | .driveReady .. => memOk_execDriveReady h ..
  | .driveMemoryRequest .. => memOk_execDriveMemoryRequest h ..
  | .smartPoll .. => memOk_execSmartPoll h ..
  | .driveAsyncEvent .. => memOk_execDriveAsyncEvent h ..
  | .memberCommandTimeout .. => memOk_execMemberCommandTimeout h ..
  | .linkRetrain .. => memOk_execLinkRetrain h ..
  | .retrain .. => memOk_execRetrain h ..
  | .presenceChange .. => memOk_execPresenceChange h ..
  | .insertionDebounceEnd .. => memOk_execInsertionDebounceEnd h ..
  | .removalRecognised .. => memOk_execRemovalRecognised h ..
  | .rampStart .. => memOk_execRampStart h ..
  | .slotPowered .. => memOk_execSlotPowered h ..
  | .slotRampTimeout .. => memOk_execSlotRampTimeout h ..
  | .linkTimeout .. => memOk_execLinkTimeout h ..
  | .linkTrainRetry .. => memOk_execLinkTrainRetry h ..
  | .feedLost .. => memOk_execFeedLost h ..
  | .feedReturn .. => memOk_execFeedReturn h ..
  | .idealDiodeReverse .. => memOk_execIdealDiodeReverse h ..
  | .slotUnderVoltage .. => memOk_execSlotUnderVoltage h ..
  | .breakerSample .. => memOk_execBreakerSample h ..
  | .fastTrip .. => memOk_execFastTrip h ..
  | .auxOvercurrent .. => memOk_execAuxOvercurrent h ..
  | .retryWaitEnd .. => memOk_execRetryWaitEnd h ..
  | .retriesClear .. => memOk_execRetriesClear h ..
  | .slotOn .. => memOk_execSlotOn h ..
  | .slotOff .. => memOk_execSlotOff h ..
  | .slotCycle .. => memOk_execSlotCycle h ..
  | .cycleRamp .. => memOk_execCycleRamp h ..
  | .feedCfgWrite .. => memOk_execFeedCfgWrite h ..
  | .breakerCurveWrite .. => memOk_execBreakerCurveWrite h ..
  | .slotHoldRead .. => memOk_execSlotHoldRead h ..
  | .channelEnable .. => memOk_execChannelEnable h ..
  | .channelDisable .. => memOk_execChannelDisable h ..
  | .chTrigWrite .. => memOk_execChTrigWrite h ..
  | .shadowWrite .. => memOk_execShadowWrite h ..
  | .doorbellGo .. => memOk_execDoorbellGo h ..
  | .timerTrigger .. => memOk_execTimerTrigger h ..
  | .quantumEnd .. => memOk_execQuantumEnd h ..
  | .listEntryFetch .. => memOk_execListEntryFetch h ..
  | .transferComplete .. => memOk_execTransferComplete h ..
  | .endpointLinkUp .. => memOk_execEndpointLinkUp h ..
  | .endpointReset why => memOk_execEndpointReset h why
  | .completionTimeout .. => memOk_execCompletionTimeout h ..
  | .vfEnable .. => memOk_execVfEnable h ..
  | .vfReady .. => memOk_execVfReady h ..
  | .pcieCcEnable .. => memOk_execPcieCcEnable h ..
  | .createIoSq .. => memOk_execCreateIoSq h ..
  | .createIoCq .. => memOk_execCreateIoCq h ..
  | .deleteIoSq .. => memOk_execDeleteIoSq h ..
  | .deleteIoCq .. => memOk_execDeleteIoCq h ..
  | .sqTailDoorbell .. => memOk_execSqTailDoorbell h ..
  | .cqHeadDoorbell .. => memOk_execCqHeadDoorbell h ..
  | .apertureRequest .. => memOk_execApertureRequest h ..
  | .apertureWindowWrite .. => memOk_execApertureWindowWrite h ..
  | .busMasterDisable .. => memOk_execBusMasterDisable h ..
  | .busMasterEnable .. => memOk_execBusMasterEnable h ..
  | .flrPf0 .. => memOk_execFlrPf0 h ..
  | .flrVf .. => memOk_execFlrVf h ..
  | .flrPf1 .. => memOk_execFlrPf1 h ..
  | .flrComplete .. => memOk_execFlrComplete h ..
  | .epVecWrite .. => memOk_execEpVecWrite h ..
  | .receivedTlpError .. => memOk_execReceivedTlpError h ..
  | .objectRead .. => memOk_execObjectRead h ..
  | .objectWrite .. => memOk_execObjectWrite h ..
  | .parameterStoreDone .. => memOk_execParameterStoreDone h ..
  | .nonceRead .. => memOk_execNonceRead h ..
  | .proof .. => memOk_execProof h ..
  | .sessionDrop .. => memOk_execSessionDrop h ..
  | .sessionIdleTimeout .. => memOk_execSessionIdleTimeout h ..
  | .sdoInitiate .. => memOk_execSdoInitiate h ..
  | .sdoSegment .. => memOk_execSdoSegment h ..
  | .sdoTimeout .. => memOk_execSdoTimeout h ..
  | .nmtStartRemoteNode .. => memOk_execNmtStartRemoteNode h ..
  | .nmtStopRemoteNode .. => memOk_execNmtStopRemoteNode h ..
  | .nmtEnterPreOperational .. => memOk_execNmtEnterPreOperational h ..
  | .nmtResetNode .. => memOk_execNmtResetNode h ..
  | .nmtResetCommunication .. => memOk_execNmtResetCommunication h ..
  | .syncReceive => memOk_execSyncReceive h
  | .tpdoEventTimer .. => memOk_execTpdoEventTimer h ..
  | .emcyInhibitEnd => memOk_execEmcyInhibitEnd h
  | .producerHeartbeat => memOk_execProducerHeartbeat h
  | .canBusOff .. => memOk_execCanBusOff h ..
  | .canBusOffRecovery => memOk_execCanBusOffRecovery h
  | .oapOpen .. => memOk_execOapOpen h ..
  | .oapRead .. => memOk_execOapRead h ..
  | .oapWrite .. => memOk_execOapWrite h ..
  | .oapProve .. => memOk_execOapProve h ..
  | .oapClose .. => memOk_execOapClose h ..
  | .mgmtAddressFrame .. => memOk_execMgmtAddressFrame h ..
  | .dictionaryWindowGo .. => memOk_execDictionaryWindowGo h ..
  | .errorFieldClear .. => memOk_execErrorFieldClear h ..
  | .restoreDefaults .. => memOk_execRestoreDefaults h ..
  | .eventTake => memOk_execEventTake h
  | .bufferMove => memOk_execBufferMove h
  | .eventIrqHoldoffEnd => memOk_execEventIrqHoldoffEnd h
  | .evRecRead .. => memOk_execEvRecRead h ..
  | .cntWinRead .. => memOk_execCntWinRead h ..
  | .counterSnapshot .. => memOk_execCounterSnapshot h ..
  | .sampleRecord => memOk_execSampleRecord h
  | .heartbeatSend .. => memOk_execHeartbeatSend h ..
  | .heartbeatReceive .. => memOk_execHeartbeatReceive h ..
  | .heartbeatTimeout .. => memOk_execHeartbeatTimeout h ..
  | .quoinClaim .. => memOk_execQuoinClaim h ..
  | .claimGrant .. => memOk_execClaimGrant h ..
  | .claimRefused .. => memOk_execClaimRefused h ..
  | .quoinTimeout .. => memOk_execQuoinTimeout h ..
  | .preemptRetry .. => memOk_execPreemptRetry h ..
  | .giveback .. => memOk_execGiveback h ..
  | .autoGiveback => memOk_execAutoGiveback h
  | .unfence .. => memOk_execUnfence h ..
  | .bondLinkUp .. => memOk_execBondLinkUp h ..
  | .bondAckReceive .. => memOk_execBondAckReceive h ..
  | .bondReplayTimeout .. => memOk_execBondReplayTimeout h ..
  | .bondRetrain .. => memOk_execBondRetrain h ..
  | .shedWindowEnd .. => memOk_execShedWindowEnd h ..
  | .widthRequestReceive .. => memOk_execWidthRequestReceive h ..
  | .widthAckReceive _ lseq => memOk_execWidthAckReceive h _ lseq
  | .packageHeartbeatTimeout .. => memOk_execPackageHeartbeatTimeout h ..
  | .mirrorSuspend => memOk_execMirrorSuspend h
  | .forwardedCommand .. => memOk_execForwardedCommand h ..
  | .serve .. => memOk_execServe h ..
  | .quiesce .. => memOk_execQuiesce h ..
  | .resume .. => memOk_execResume h ..
  | .shutdown .. => memOk_execShutdown h ..
  | .shutdownDone => memOk_execShutdownDone h
  | .recommission .. => memOk_execRecommission h ..
  | .start .. => memOk_execStart h ..
  | .modeCommandRefused .. => memOk_execModeCommandRefused h ..
  | .startupHoldRelease => memOk_execStartupHoldRelease h
  | .startupSlotRamp .. => memOk_execStartupSlotRamp h ..
  | .railTimeout .. => memOk_execRailTimeout h ..
  | .railDrop .. => memOk_execRailDrop h ..
  | .bootImageVerify .. => memOk_execBootImageVerify h ..
  | .startupComplete => memOk_execStartupComplete h
  | .packageResetPin .. => memOk_execPackageResetPin h ..
  | .packageReset .. => memOk_execPackageReset h ..
  | .powerLoss .. => memOk_execPowerLoss h ..
  | .imageDownload .. => memOk_execImageDownload h ..
  | .imageDownloadEnd .. => memOk_execImageDownloadEnd h ..
  | .activate .. => memOk_execActivate h ..
  | .liveGroupComplete => memOk_execLiveGroupComplete h
  | .liveGroupTimeout => memOk_execLiveGroupTimeout h
  | .imageConfirm => memOk_execImageConfirm h
  | .temperatureSample .. => memOk_execTemperatureSample h ..
  | .dieTempRead .. => memOk_execDieTempRead h ..
  | .refclockLoss .. => memOk_execRefclockLoss h ..
  | .refclockReturn .. => memOk_execRefclockReturn h ..
  | .powerUp .. => memOk_execPowerUp h ..
  | .memberAcquireComplete .. => memOk_execMemberAcquireComplete h ..
  | .msixUnmask .. => memOk_execMsixUnmask h ..
  | .idealDiodeForward .. => memOk_execIdealDiodeForward h ..
  | .rngTestPass => memOk_execRngTestPass h

end Writers

/-- Settles O6: an idle step touches no memory, and each command changes them by byte writes, a filter or a reset alone. -/
theorem everyStepKeepsMemoryCanonical : Obligations.EveryStepKeepsMemoryCanonical := by
  intro s hhbm hmem hdurable
  have h : s.dev.MemOk := ⟨hhbm, hmem, hdurable⟩
  unfold step
  split
  · exact ⟨_, rfl, h⟩
  next c cs _ => exact memOk_exec (s := { s with pending := cs }) h c

end Sys2Proof.Machine

/-!
PROOF. A command taken from its queue and entered (04 R150; 13 R522): it stands behind the others with the next number; a fabric queue's slot is free, or
a submission queue's head has moved on.
-/
namespace Sys2Proof.Machine

section Entering

variable (s : Dev) {a b : Dev} {src : CmdSource} {k : Nat} {c : Ctrl} {x : Cmd}

/-- The controller of a command over PCIe is its function's. -/
def LeadsTo (src : CmdSource) (k : Nat) : Prop := ∀ fn q, src = .pcie fn q → k = pcieCtrl fn.val

theorem Dev.leadsTo_of_comesTo (h : s.comesTo src = some k) : LeadsTo src k := by
  rintro fn q rfl
  unfold Dev.comesTo at h
  split at h
  · cases h
  · dsimp only at h
    split at h
    · split at h
      · exact (Option.some.inj h).symm
      · cases h
    · cases h

/-- What an admin queue's command finds. -/
theorem Dev.adminAt_iff : s.adminAt src k c = true ↔ s.comesTo src = some k ∧ s.ctrl k = some c ∧ s.srcQid src = 0 := by
  simp only [Dev.adminAt, Bool.and_eq_true, decide_eq_true_eq, and_assoc]

theorem Dev.onAdmin_of_adminAt (h : s.adminAt src k c = true) (f : Dev → Nat → Ctrl → Dev) : s.onAdmin src f = f s k c := by
  obtain ⟨hk, hc, hq⟩ := s.adminAt_iff.mp h
  simp only [Dev.onAdmin, hk, hc, hq, if_true]

theorem Dev.leadsTo_of_adminAt (h : s.adminAt src k c = true) : LeadsTo src k := s.leadsTo_of_comesTo (s.adminAt_iff.mp h).1

/-- Taking a command from its queue changes that queue alone. -/
theorem Dev.takeCapsule_within : Dev.Step [.rdma, .nvme] [] [] s (s.takeCapsule src) ∧
    { (s.takeCapsule src).nvme with ctrls := [] } = { s.nvme with ctrls := [] } ∧
    ∀ i, (s.takeCapsule src).qp i = if src = .fabric i then { s.qp i with inUse := (s.qp i).inUse - 1 } else s.qp i := by
  cases src with
  | fabric j =>
    refine ⟨.rdma s _ (by decide), rfl, fun i => ?_⟩
    by_cases h : j = i
    · rw [h, if_pos rfl]
      exact s.qp_setQp_self i _
    · rw [if_neg (fun e => h (CmdSource.fabric.inj e))]
      exact s.qp_setQp_other i j _ (Ne.symm h)
  | pcie fn q =>
    unfold Dev.takeCapsule
    dsimp only
    split
    · exact ⟨.nvme s _ (by decide), rfl, fun i => (if_neg CmdSource.noConfusion).symm⟩
    · exact ⟨.refl s, rfl, fun i => (if_neg CmdSource.noConfusion).symm⟩
  | bond _ _ => exact ⟨.refl s, rfl, fun i => (if_neg CmdSource.noConfusion).symm⟩

/-- Only the submission queues of the command's controller differ. -/
theorem Dev.ctrl_takeCapsule {y : Ctrl} {j : Nat} (h : s.ctrl j = some y) : ∃ t, (s.takeCapsule src).ctrl j = some { y with sqs := t } := by
  cases src with
  | fabric => exact ⟨y.sqs, h⟩
  | pcie fn q =>
    unfold Dev.takeCapsule
    dsimp only
    split
    · next z hz =>
      by_cases hj : j = pcieCtrl fn.val
      · subst hj
        obtain rfl : z = y := Option.some.inj (hz.symm.trans h)
        exact ⟨_, s.ctrl_setCtrl_self _ _⟩
      · exact ⟨y.sqs, (s.ctrl_setCtrl_other _ hj).trans h⟩
    · exact ⟨y.sqs, h⟩
  | bond => exact ⟨y.sqs, h⟩

theorem Dev.ctrl_takeCapsule_other (hk : LeadsTo src k) {j : Nat} (hj : j ≠ k) : (s.takeCapsule src).ctrl j = s.ctrl j := by
  cases src with
  | fabric => rfl
  | pcie fn q =>
    rw [hk fn q rfl] at hj
    unfold Dev.takeCapsule
    dsimp only
    split
    · exact s.ctrl_setCtrl_other _ hj
    · rfl
  | bond => rfl

/-- A command as its queue gives it. -/
def Dev.blankCmd (s : Dev) (src : CmdSource) (k cid : Nat) : Cmd :=
  { id := s.nvme.nextCmd, ctrl := k, src := src, sqid := (s.takeCapsule src).srcQid src, cid := cid, accepted := (s.takeCapsule src).nowOn .ln, finished := true }

/-- A function that fills in a command leaves its number and its source. -/
def KeepsSource (f : Cmd → Cmd) : Prop := ∀ c, (f c).id = c.id ∧ (f c).src = c.src

/-- From `a` to `b` the command `x` has been entered. -/
structure Dev.Enters (src : CmdSource) (x : Cmd) (a b : Dev) : Prop where
  step : Dev.Step [.rdma, .nvme] [] [] a b
  cmds : b.nvme.cmds = a.nvme.cmds ++ [x]
  next : b.nvme.nextCmd = a.nvme.nextCmd + 1
  id : x.id = a.nvme.nextCmd
  source : x.src = src
  qps : ∀ i, b.qp i = if src = .fabric i then { a.qp i with inUse := (a.qp i).inUse - 1 } else a.qp i

/-- What entering a command leaves of the front end: all but the commands, their number and the controllers. -/
theorem Dev.newCmd_nvme (k cid : Nat) (f : Cmd → Cmd) :
    (s.newCmd src k cid f).2.nvme = { s.nvme with ctrls := (s.takeCapsule src).nvme.ctrls, nextCmd := s.nvme.nextCmd + 1,
                                                   cmds := s.nvme.cmds ++ [f (s.blankCmd src k cid)] } := by
  obtain ⟨-, h, -⟩ := s.takeCapsule_within (src := src)
  unfold Dev.newCmd Dev.blankCmd
  simp only [Nvme.mk.injEq, true_and] at h ⊢
  simp only [h, and_self]

theorem Dev.enters_newCmd (k cid : Nat) {f : Cmd → Cmd} (hf : KeepsSource f) :
    Dev.Enters src (f (s.blankCmd src k cid)) s (s.newCmd src k cid f).2 := by
  obtain ⟨hstep, -, hqp⟩ := s.takeCapsule_within (src := src)
  refine ⟨hstep.trans (.nvme _ _ (by decide)), ?_, ?_, (hf _).1, (hf _).2, hqp⟩
  · rw [s.newCmd_nvme]
  · rw [s.newCmd_nvme]

theorem Dev.newCmd_fst (k cid : Nat) (f : Cmd → Cmd) : (s.newCmd src k cid f).1 = s.nvme.nextCmd := rfl

theorem Dev.newCmd_ctrl (k cid : Nat) (f : Cmd → Cmd) (j : Nat) : (s.newCmd src k cid f).2.ctrl j = (s.takeCapsule src).ctrl j := rfl

/-- A change of the front end that keeps the commands, before a command is entered. -/
theorem Dev.Enters.behind {y : Nvme} (h : Dev.Enters src x { s with nvme := y } b) (hc : y.cmds = s.nvme.cmds) (hn : y.nextCmd = s.nvme.nextCmd) :
    Dev.Enters src x s b :=
  ⟨(Dev.Step.nvme s _ (by decide)).trans h.step, h.cmds.trans (congrArg (· ++ [x]) hc), h.next.trans (congrArg (· + 1) hn), h.id.trans hn, h.source, h.qps⟩

theorem Dev.Enters.setCtrl {i : Nat} {y : Ctrl} (h : Dev.Enters src x (s.setCtrl i y) b) : Dev.Enters src x s b := h.behind s rfl rfl

/-- A change of the front end that keeps the commands, after it. -/
theorem Dev.Enters.thenNvme (h : Dev.Enters src x a b) (y : Nvme) (hc : y.cmds = b.nvme.cmds) (hn : y.nextCmd = b.nvme.nextCmd) :
    Dev.Enters src x a { b with nvme := y } :=
  ⟨h.step.trans (.nvme b _ (by decide)), hc.trans h.cmds, hn.trans h.next, h.id, h.source, h.qps⟩

theorem Dev.Enters.thenCtrl (h : Dev.Enters src x a b) (i : Nat) (y : Ctrl) : Dev.Enters src x a (b.setCtrl i y) := h.thenNvme _ rfl rfl

/-- The number of the next command is free: it finds what has just been entered. -/
theorem Dev.numberFree_iff : s.numberFree = true ↔ ∀ c ∈ s.nvme.cmds, c.id ≠ s.nvme.nextCmd := by
  simp only [Dev.numberFree, List.all_eq_true, bne_iff_ne]

theorem Dev.Enters.cmd_self (h : Dev.Enters src x a b) (hn : a.numberFree = true) : b.cmd a.nvme.nextCmd = some x := by
  have hnone : a.nvme.cmds.find? (fun c => c.id == a.nvme.nextCmd) = none :=
    List.find?_eq_none.mpr fun c hc => by simpa using a.numberFree_iff.mp hn c hc
  rw [Dev.cmd, h.cmds, List.find?_append, hnone]
  simp [h.id]

theorem Dev.Enters.cmd_other (h : Dev.Enters src x a b) {j : Nat} (hj : j ≠ a.nvme.nextCmd) : b.cmd j = a.cmd j := by
  have hx : (x.id == j) = false := by simpa [h.id] using Ne.symm hj
  rw [Dev.cmd, h.cmds, List.find?_append, List.find?_cons, hx, List.find?_nil, Option.or_none]
  rfl

/-- The command just entered is written again. -/
theorem Dev.Enters.setCmd (h : Dev.Enters src x a b) (hn : a.numberFree = true) {y : Cmd} (hid : y.id = x.id) (hsrc : y.src = x.src) :
    Dev.Enters src y a (b.setCmd y) := by
  refine ⟨h.step.trans (.nvme b _ (by decide)), ?_, h.next, hid.trans h.id, hsrc.trans h.source, h.qps⟩
  have hold : ∀ z ∈ a.nvme.cmds, (if z.id = y.id then y else z) = z := fun z hz => by
    rw [if_neg (by rw [hid, h.id]; exact a.numberFree_iff.mp hn z hz)]
  show b.nvme.cmds.map (fun z => if z.id = y.id then y else z) = _
  rw [h.cmds, List.map_append, List.map_congr_left hold, List.map_id', List.map_singleton, if_pos hid.symm]

/-- A command written over the one of its number. -/
theorem Dev.cmd_setCmd_at {y : Cmd} {j : Nat} (h : s.cmd j = some x) (hid : y.id = j) : (s.setCmd y).cmd j = some y := by
  subst hid
  exact s.cmd_setCmd_self h

end Entering

section Answering

variable {s : State} {d : Dev} {src : CmdSource} {x : Cmd} {P : Cmd → Prop}

/-- An effect that enters a command gives a state in which it is entered, behind a step outside the front end and the transport. -/
theorem Dev.Enters.entered_of {e : Dev} (h : Dev.Enters src x e d) (hn : e.nvme = s.dev.nvme) (hr : e.rdma = s.dev.rdma) (hp : P x) :
    s.entered (s.after (fun _ => d)) src P := by
  refine ⟨⟨x, ?_, hn ▸ h.id, h.source, hp⟩, ?_, fun i => ?_⟩
  · rw [State.after_nvme, h.cmds, hn]
  · rw [State.after_nvme, h.next, hn]
  · have hqp : e.qp i = s.dev.qp i := congrArg (fun r => r.qps.get {} i) hr
    rw [Dev.qp, State.after_rdma, ← hqp]
    exact h.qps i

theorem Dev.Enters.entered (h : Dev.Enters src x s.dev.quiet d) (hp : P x) : s.entered (s.after (fun _ => d)) src P := h.entered_of rfl rfl hp

/-- The controllers after a command are what its effect left. -/
theorem State.after_ctrl (j : Nat) : (s.after (fun _ => d)).dev.ctrl j = d.ctrl j := by rw [Dev.ctrl, State.after_nvme]; rfl

theorem State.after_cmd (j : Nat) : (s.after (fun _ => d)).dev.cmd j = d.cmd j := by rw [Dev.cmd, State.after_nvme]; rfl

theorem State.after_qp (j : Nat) : (s.after (fun _ => d)).dev.qp j = d.qp j := by rw [Dev.qp, State.after_rdma]; rfl

end Answering

end Sys2Proof.Machine

/-!
PROOF. The admin commands (04 R154-R166, R179): each is entered with its status and reply; a feature is stored with it, a power state's entry outlasts it.
-/
namespace Sys2Proof.Machine

section AdminRun

variable {s : State} {i : Instr} {src : CmdSource} {k : Nat} {c : Ctrl} {f : Dev → Nat → Ctrl → Dev} {d : Dev} {x : Cmd} {P : Cmd → Prop} {Q : State → Prop}

/-- What an admin command does: it is entered as `x`, within the transport's slot and the front end's state. -/
theorem admin_answers (hx : exec i s = s.run (fun e => e.onAdmin src f)) (ha : s.dev.adminAt src k c = true) (hf : f s.dev.quiet k c = d)
    (he : Dev.Enters src x s.dev.quiet d) (hp : P x) (hq : Q (s.after (fun _ => d))) :
    Answers i s (fun t => s.entered t src P ∧ Q t ∧ Dev.OnlyChanged [.rdma, .nvme] [] [] s.dev t.dev) :=
  .of_run (hx.trans (State.run_eq_of_quiet ((s.dev.quiet.onAdmin_of_adminAt ha f).trans hf))) ⟨he.entered hp, hq, he.step.after⟩

/-- An admin command of which only its entry is told. -/
theorem admin_answered (hx : exec i s = s.run (fun e => e.onAdmin src f)) (ha : s.dev.adminAt src k c = true) (hf : f s.dev.quiet k c = d)
    (he : Dev.Enters src x s.dev.quiet d) (hp : P x) :
    Answers i s (fun t => s.entered t src P ∧ Dev.OnlyChanged [.rdma, .nvme] [] [] s.dev t.dev) :=
  (admin_answers (Q := fun _ => True) hx ha hf he hp trivial).imp fun _ ⟨h, _, hfr⟩ => ⟨h, hfr⟩

/-- A command answered at once stands entered with its answer. -/
def Cmd.answered (c : Cmd) (status dw0 : Nat) (reply : List (List Nat)) (buf : DataPtr) (dnr : Bool) : Cmd :=
  { c with status := some status, dw0 := dw0, reply := reply, buf := buf, dnr := dnr }

theorem Dev.enters_answerCmd (s : Dev) (src : CmdSource) (k cid status dw0 : Nat) (reply : List (List Nat)) (buf : DataPtr) (dnr : Bool) :
    Dev.Enters src ((s.blankCmd src k cid).answered status dw0 reply buf dnr) s (s.answerCmd src k cid status dw0 reply buf dnr) :=
  s.enters_newCmd k cid (f := fun c => c.answered status dw0 reply buf dnr) fun _ => ⟨rfl, rfl⟩

end AdminRun

section Controllers

variable (s : Dev) {src : CmdSource} {k : Nat} {c : Ctrl}

/-- A controller written before its command is entered differs from what was written in its submission queues at most, and no other controller
differs. -/
theorem Dev.newCmd_setCtrl (hk : LeadsTo src k) (y : Ctrl) (cid : Nat) (f : Cmd → Cmd) :
    (∃ t, ((s.setCtrl k y).newCmd src k cid f).2.ctrl k = some { y with sqs := t }) ∧
      ∀ j, j ≠ k → ((s.setCtrl k y).newCmd src k cid f).2.ctrl j = s.ctrl j :=
  ⟨(s.setCtrl k y).ctrl_takeCapsule (s.ctrl_setCtrl_self k y),
   fun _ hj => ((s.setCtrl k y).ctrl_takeCapsule_other hk hj).trans (s.ctrl_setCtrl_other y hj)⟩

/-- The controllers where a command is entered and none was written. -/
theorem Dev.newCmd_ctrls (hk : LeadsTo src k) (hc : s.ctrl k = some c) (cid : Nat) (f : Cmd → Cmd) :
    (∃ t, (s.newCmd src k cid f).2.ctrl k = some { c with sqs := t }) ∧ ∀ j, j ≠ k → (s.newCmd src k cid f).2.ctrl j = s.ctrl j :=
  ⟨s.ctrl_takeCapsule hc, fun _ hj => s.ctrl_takeCapsule_other hk hj⟩

end Controllers

section LogPages

variable (s : Dev) {k : Nat} {c : Ctrl}

/-- Reading page 04h or 80h removes what it held, unless RAE is set (04 R155). -/
def Dev.logRead (s : Dev) (k : Nat) (c : Ctrl) (lid : Nat) (rae : Bool) : Dev :=
  if rae then s
  else if lid = 0x04 then s.setCtrl k { c with changed := [] }
  else if lid = 0x80 then s.setCtrl k { c with resvLog := [] }
  else s

theorem Dev.Enters.logRead {src : CmdSource} {x : Cmd} {b : Dev} {lid : Nat} {rae : Bool} (h : Dev.Enters src x (s.logRead k c lid rae) b) :
    Dev.Enters src x s b := by
  unfold Dev.logRead at h
  split at h
  · exact h
  · split at h
    · exact h.setCtrl
    · split at h
      · exact h.setCtrl
      · exact h

theorem Dev.ctrl_logRead (hc : s.ctrl k = some c) (lid : Nat) (rae : Bool) : (s.logRead k c lid rae).ctrl k =
    some { c with changed := if lid = 0x04 ∧ rae = false then [] else c.changed, resvLog := if lid = 0x80 ∧ rae = false then [] else c.resvLog } := by
  unfold Dev.logRead
  cases rae with
  | true => simpa using hc
  | false =>
    by_cases h4 : lid = 0x04
    · subst h4
      exact s.ctrl_setCtrl_self _ _
    · by_cases h80 : lid = 0x80
      · subst h80
        exact s.ctrl_setCtrl_self _ _
      · simpa [h4, h80] using hc

end LogPages

section Features

variable (s : Dev) {src : CmdSource} {k : Nat} {c : Ctrl}

/-- A Set Features command as it is answered, where it stores nothing with the namespaces. -/
def Cmd.featureSet (st dw0 : Nat) (c : Cmd) : Cmd := { c with opcode := 9, status := some st, dw0 := dw0, resvWrite := false, vol := 0 }

theorem keepsSource_featureSet (st dw0 : Nat) : KeepsSource (Cmd.featureSet st dw0) := fun _ => ⟨rfl, rfl⟩

/-- The keep-alive timeout set is the one asked for, in whole seconds (04 R161). -/
theorem Dev.setFeature_kato (nsid : Nat) (dw11 : Word) (data : BitVec 128) :
    s.setFeature k c 0x0F nsid dw11 data = (0, 0, s.setCtrl k { c with kato := katoOf c.kind dw11.toNat }) := rfl

theorem katoOf_fabric (v : Nat) : katoOf .fabric v = if v = 0 then 120000 else (v + 999) / 1000 * 1000 := by
  unfold katoOf
  by_cases h : v = 0 <;> simp [h, ceilDiv]

/-- The queues granted are those asked for, within the limit, before an I/O queue is connected (04 Queue limits). -/
theorem Dev.setFeature_queues (nsid : Nat) (dw11 : Word) (data : BitVec 128) (hk : c.kind = .fabric) (hio : c.ioConnected = false)
    (hv : dw11.toNat % 65536 ≠ 0xFFFF ∧ dw11.toNat / 65536 ≠ 0xFFFF) :
    s.setFeature k c 0x07 nsid dw11 data =
      (0, (min (dw11.toNat / 65536 + 1) 1024 - 1) * 65536 + min (dw11.toNat % 65536 + 1) 1024 - 1,
        s.setCtrl k { c with granted := min (dw11.toNat % 65536 + 1) 1024, grantedCq := min (dw11.toNat / 65536 + 1) 1024 }) := by
  unfold Dev.setFeature
  simp [hio, hv.1, hv.2, ioLimit, hk]

end Features

section PowerStates

variable (s : Dev) {src : CmdSource} {k : Nat} {c : Ctrl}

/-- A power state accepted: an entry starts towards it (04 R163). -/
theorem Dev.setPower_accepted {id ps : Nat} (hp : s.flag .HOST_CFG_PRIV c.host = true) (hps : ps ≤ 3) (he : s.nvme.entryAt = none) :
    s.setPower c id false ps = (0, { s with nvme := { s.nvme with moved := s.capLevel, capAt := s.nowOn .ln, target := ps,
                                                                  entryAt := some (s.nowOn .ln), psCmd := some id, settled := 0 } }) := by
  unfold Dev.setPower
  simp [hp, he, Nat.not_lt.mpr hps]

/-- A host that is not privileged sets no power state (04 R165). -/
theorem Dev.setPower_denied {id ps : Nat} {save : Bool} (hp : s.flag .HOST_CFG_PRIV c.host = false) : s.setPower c id save ps = (stDenied, s) := by
  unfold Dev.setPower
  simp [hp]

/-- The command that waits for the entry to end is a power state's. -/
def Cmd.settingPower (c : Cmd) : Cmd := { c with op := .setPower, opcode := 9 }

theorem Dev.setPowerCmd_eq (cid : Nat) (save : Bool) (ps : Nat) (hd : c.kind ≠ .discovery) :
    s.setPowerCmd src k cid c save ps =
      let r := s.newCmd src k cid Cmd.settingPower
      let e := r.2.setPower c r.1 save ps
      if e.1 = 0 then e.2
      else match e.2.cmd r.1 with
        | some x => e.2.setCmd { x with status := some e.1 }
        | none => e.2 := by
  unfold Dev.setPowerCmd
  rw [if_neg hd]
  rfl

/-- A power state is set without a word of it: the command's queue leaves the flags as they were. -/
theorem Dev.newCmd_flag (cid : Nat) (f : Cmd → Cmd) (x : Fld) (i : Nat) : (s.newCmd src k cid f).2.flag x i = s.flag x i :=
  (s.takeCapsule_within (src := src)).1.flag List.not_mem_nil i

theorem Dev.newCmd_nowOn (cid : Nat) (f : Cmd → Cmd) : (s.newCmd src k cid f).2.nowOn .ln = s.nowOn .ln :=
  (s.takeCapsule_within (src := src)).1.nowOn (by decide) .ln

theorem keepsSource_settingPower : KeepsSource Cmd.settingPower := fun _ => ⟨rfl, rfl⟩

/-- Accepted, it waits for the entry to end, which starts now (04 R163). -/
theorem Dev.setPowerCmd_accepted (src : CmdSource) (k cid : Nat) {ps : Nat} (hd : c.kind ≠ .discovery) (hp : s.flag .HOST_CFG_PRIV c.host = true)
    (hps : ps ≤ 3) (he : s.nvme.entryAt = none) :
    ∃ y, s.setPowerCmd src k cid c false ps = { (s.newCmd src k cid Cmd.settingPower).2 with nvme := y } ∧
      y.cmds = (s.newCmd src k cid Cmd.settingPower).2.nvme.cmds ∧ y.nextCmd = (s.newCmd src k cid Cmd.settingPower).2.nvme.nextCmd ∧
      y.target = ps ∧ y.entryAt = some (s.nowOn .ln) ∧ y.psCmd = some s.nvme.nextCmd ∧ y.ps = s.nvme.ps := by
  have hnvme := s.newCmd_nvme (src := src) k cid Cmd.settingPower
  have hset := Dev.setPower_accepted _ (id := s.nvme.nextCmd) ((s.newCmd_flag (src := src) (k := k) cid Cmd.settingPower _ _).trans hp) hps
    ((congrArg Nvme.entryAt hnvme).trans he)
  have hrun := s.setPowerCmd_eq (src := src) (k := k) cid false ps hd
  simp only [Dev.newCmd_fst, hset, if_true] at hrun
  have hps' : (s.newCmd src k cid Cmd.settingPower).2.nvme.ps = s.nvme.ps := by rw [hnvme]
  exact ⟨_, hrun, rfl, rfl, rfl, congrArg some (s.newCmd_nowOn cid _), rfl, hps'⟩

/-- Denied, it is answered at once. -/
theorem Dev.setPowerCmd_denied (src : CmdSource) (k cid : Nat) {ps : Nat} (save : Bool) (hd : c.kind ≠ .discovery)
    (hp : s.flag .HOST_CFG_PRIV c.host = false) (hn : s.numberFree = true) : s.setPowerCmd src k cid c save ps =
      (s.newCmd src k cid Cmd.settingPower).2.setCmd { (s.blankCmd src k cid).settingPower with status := some stDenied } := by
  have hset := Dev.setPower_denied _ (id := s.nvme.nextCmd) (ps := ps) (save := save)
    ((s.newCmd_flag (src := src) (k := k) cid Cmd.settingPower _ _).trans hp)
  have hcmd := (s.enters_newCmd (src := src) k cid keepsSource_settingPower).cmd_self hn
  rw [s.setPowerCmd_eq cid save ps hd]
  simp only [Dev.newCmd_fst, hset, hcmd]
  rw [if_neg (by decide)]

/-- A command that waits for an asynchronous event. -/
def Cmd.awaitingEvent (c : Cmd) : Cmd := { c with op := .asyncEvent, opcode := 0x0C }

/-- The device is in the power state that its entry went to. -/
def Dev.powerSet (s : Dev) : Dev := { s with nvme := { s.nvme with ps := s.nvme.target, entryAt := none, psCmd := none } }

/-- This is told (04 R166). -/
def Dev.powerDue (s : Dev) : Dev := s.powerSet.event .ln 0x205 (le 1 s.nvme.ps ++ le 1 s.nvme.target)

/-- The entry of a power state ends, and the command that asked for it succeeds (04 R163, R166). -/
def Dev.powerEntered (s : Dev) : Dev :=
  match s.nvme.psCmd.bind s.cmd with
  | some c => if c.status.isSome then s.powerDue else s.powerDue.setCmd { c with status := some 0 }
  | none => s.powerDue

theorem Dev.step_powerEntered : Dev.Step [.nvme] [] [] s s.powerEntered := by
  have h : Dev.Step [.nvme] [] [] s (s.powerDue) := (Dev.Step.nvme s _ (by decide)).trans (.event _ _ _ _ _)
  unfold Dev.powerEntered
  split
  · exact .ite (fun _ => h) (fun _ => h.trans (.nvme _ _ (by decide)))
  · exact h

/-- The front end after it: the state the entry went to, and no command without a status waits for it. -/
theorem Dev.powerEntered_nvme : s.powerEntered.nvme.ps = s.nvme.target ∧ s.powerEntered.nvme.entryAt = none ∧ s.powerEntered.nvme.psCmd = none ∧
    s.powerEntered.nvme.ctrls = s.nvme.ctrls ∧ (s.powerDue.raised <+: s.powerEntered.raised) := by
  unfold Dev.powerEntered
  split
  · split <;> exact ⟨rfl, rfl, rfl, rfl, List.prefix_rfl⟩
  · exact ⟨rfl, rfl, rfl, rfl, List.prefix_rfl⟩

theorem Dev.powerEntered_cmd {j : Nat} (h : s.nvme.psCmd = some j) : ((s.powerEntered.cmd j).all (fun x => x.status.isSome)) = true := by
  unfold Dev.powerEntered
  rw [h, Option.bind_some]
  split
  · next c hc =>
    split
    · next hs =>
      show ((s.cmd j).all _) = true
      rw [hc]
      exact hs
    · obtain rfl : c.id = j := s.cmd_id hc
      rw [Dev.cmd_setCmd_self (s := s.powerDue) (c := { c with status := some 0 }) hc]
      rfl
  · next hnone =>
    show ((s.cmd j).all _) = true
    rw [hnone]
    rfl

end PowerStates

end Sys2Proof.Machine

/-!
PROOF. Features, the end of a power state's entry, opcodes no table lists, and O22 (04 R158-R166, R179).
-/
namespace Sys2Proof.Machine

section AdminCommands

variable {s : State} {src : CmdSource} {k : Nat} {c : Ctrl} {cid : BitVec 16} {buf : DataPtr}

/-- A power state entry ends (04 R163, R164, R166). -/
theorem powerStateEntryEnd_run {u : Nat} (hf : s.dev.frontUp = true) (hu : s.dev.nvme.entryAt = some u)
    (he : 2 ≤ s.dev.nvme.settled ∨ u + 1000000 ≤ s.dev.nowOn .ln) : exec .powerStateEntryEnd s = s.run (fun _ => s.dev.quiet.powerEntered) := by
  have hlen : enlat = 1000000 := by decide
  have hdue : ¬(s.dev.quiet.nvme.settled < 2 ∧ s.dev.quiet.nowOn .ln < u + enlat) := by
    show ¬(s.dev.nvme.settled < 2 ∧ s.dev.nowOn .ln < u + enlat)
    omega
  have hu' : s.dev.quiet.nvme.entryAt = some u := hu
  refine State.runIf_eq_of_quiet (s := s) hf ?_
  simp only [hu']
  rw [if_neg hdue]
  rfl

/-- A feature kept by the controller is stored, and the command succeeds (04 R160, R161). -/
theorem setFeatures_stores {fid nsid dw0 : Nat} {dw11 : BitVec 32} {data : BitVec 128} {y : Ctrl} {P : Cmd → Prop} (ha : s.dev.adminAt src k c = true)
    (hd : c.kind ≠ .discovery) (h2 : fid ≠ 2) (h83 : fid ≠ 0x83) (hy : s.dev.quiet.setFeature k c fid nsid dw11 data = (0, dw0, s.dev.quiet.setCtrl k y))
    (hp : ∀ x : Cmd, x.status = some 0 → x.dw0 = dw0 → x.cid = cid.toNat → P x) :
    Answers (.setFeatures src cid fid false nsid dw11 data) s (fun t => s.entered t src P ∧
      ((∃ q, t.dev.ctrl k = some { y with sqs := q }) ∧ ∀ j, j ≠ k → t.dev.ctrl j = s.dev.ctrl j) ∧ Dev.OnlyChanged [.rdma, .nvme] [] [] s.dev t.dev) := by
  obtain ⟨⟨q, hq⟩, hother⟩ := s.dev.quiet.newCmd_setCtrl (s.dev.quiet.leadsTo_of_adminAt ha) y cid.toNat (Cmd.featureSet 0 dw0)
  refine admin_answers rfl ha ?_ (Dev.enters_newCmd _ k cid.toNat (keepsSource_featureSet 0 dw0)).setCtrl (hp _ rfl rfl rfl)
    ⟨⟨q, (State.after_ctrl k).trans hq⟩, fun j hj => (State.after_ctrl j).trans (hother j hj)⟩
  simp only [hd, h2, h83, hy, if_false, Bool.false_eq_true]
  rfl

/-- A feature read answers its value (04 table Features). -/
theorem getFeatures_answers {fid nsid v : Nat} {P : Cmd → Prop} (ha : s.dev.adminAt src k c = true) (hd : c.kind ≠ .discovery)
    (hf : (featureDefault k c fid).isSome = true) (h81 : fid ≠ 0x81) (h82 : fid ≠ 0x82 ∧ fid ≠ 0x83) (hv : s.dev.quiet.featureNow c fid nsid = v)
    (hp : ∀ x : Cmd, x.status = some 0 → x.cid = cid.toNat → x.dw0 = v → P x) :
    Answers (.getFeatures src cid fid 0 nsid) s (fun t => s.entered t src P ∧ Dev.OnlyChanged [.rdma, .nvme] [] [] s.dev t.dev) := by
  obtain ⟨u, hu⟩ := Option.isSome_iff_exists.mp hf
  refine admin_answered rfl ha ?_ (s.dev.quiet.enters_answerCmd src k cid.toNat 0 v [] .none false) (hp _ rfl rfl rfl)
  simp only [hd, hu, h81, h82, hv, if_false, or_self, false_and]

/-- An opcode no table lists is unknown to every kind of controller. -/
theorem opcode_unlisted {op : Nat} (h : op ∉ [0x00, 0x01, 0x02, 0x04, 0x05, 0x06, 0x08, 0x09, 0x0A, 0x0C, 0x18]) :
    (adminOpcodes.contains op && op != 0x7F) = false ∧ ((adminOpcodes ++ [0x00, 0x01, 0x04, 0x05]).contains op && op != 0x7F) = false ∧
      [0x02, 0x06, 0x0C, 0x18].contains op = false := by
  simp only [List.mem_cons, List.not_mem_nil, or_false, not_or] at h
  simp [adminOpcodes, h]

end AdminCommands

/-- Settles O22: each admin command is entered as its table's row says; the power state's entry is the one effect that outlasts it. -/
theorem adminCommands : Obligations.AdminCommands := by
  unfold Obligations.AdminCommands
  refine ⟨?identify, ?identifyNs, ?identifyRefused, ?logPage, ?logPageNone, ?abort, ?saved, ?keepAliveTime, ?queues, ?power, ?powerDenied, ?powerEnd,
    ?getFeatures, ?asyncWaits, ?asyncHeld, ?invalid⟩
  case identify =>
    intro s src k c cid buf nsid ha hb
    refine admin_answered rfl ha ?_ (s.dev.quiet.enters_answerCmd src k cid.toNat 0 0 [[1], s.dev.identifyCtrl k c] buf false) ⟨rfl, rfl, rfl, rfl⟩
    cases decide (c.kind = .discovery) <;> simp only [hb] <;> rfl
  case identifyNs =>
    intro s src k c cid buf nsid ha hk hb hn hact hten
    refine admin_answered rfl ha ?_ (s.dev.quiet.enters_answerCmd src k cid.toNat 0 0 [[0], s.dev.identifyNs (nsid - 1)] buf false) ⟨rfl, rfl, rfl⟩
    have hact' : s.dev.quiet.flag .NS_CFG_ACTIVE (nsid - 1) = true := hact
    have hten' : s.dev.quiet.nsTenant (nsid - 1) = c.tenant := hten
    simp only [hk, hb, hact', hten', hn.1, hn.2, decide_true, decide_false, beq_self_eq_true, Bool.and_self, if_true]
    rfl
  case identifyRefused =>
    intro s src k c cid buf cns nsid st ha hb
    refine admin_answered rfl ha ?_ (s.dev.quiet.enters_answerCmd src k cid.toNat st 0 [] .none false) ⟨rfl, rfl, rfl⟩
    simp only [hb]
  case logPage =>
    intro s src k c cid buf lid rae items ha hb hl
    have hl' : s.dev.quiet.logPage c lid = some items := hl
    have hc : s.dev.quiet.ctrl k = some c := (s.dev.quiet.adminAt_iff.mp ha).2.1
    obtain ⟨t, ht⟩ := (s.dev.quiet.logRead k c lid rae).ctrl_takeCapsule (src := src) (s.dev.quiet.ctrl_logRead hc lid rae)
    refine admin_answers rfl ha ?_ ((s.dev.quiet.logRead k c lid rae).enters_answerCmd src k cid.toNat 0 0 ([lid] :: items) buf false).logRead
      ⟨rfl, rfl, rfl, rfl⟩ ⟨_, (State.after_ctrl k).trans ht, rfl, rfl⟩
    simp only [hb, hl']
    rfl
  case logPageNone =>
    intro s src k c cid buf lid rae ha hb hl
    have hl' : s.dev.quiet.logPage c lid = none := hl
    refine admin_answered rfl ha ?_ (s.dev.quiet.enters_answerCmd src k cid.toNat 0x109 0 [] .none false) ⟨rfl, rfl⟩
    simp only [hb, hl']
    rfl
  case abort =>
    intro s src k c cid sqid acid ha hk hout
    refine admin_answered rfl ha ?_ (s.dev.quiet.enters_newCmd k cid.toNat
      (f := fun x => { x with op := .abort, opcode := 8, status := some 0, dw0 := 1 }) fun _ => ⟨rfl, rfl⟩) ⟨rfl, rfl, rfl⟩
    simp only [hk, if_false]
    rw [if_neg (Nat.not_le.mpr (show (s.dev.quiet.nvme.cmds.filter _).length < 4 from hout))]
  case saved =>
    intro s src k c cid fid nsid dw11 data ha hk hfid
    refine admin_answered rfl ha ?_ (s.dev.quiet.enters_answerCmd src k cid.toNat 0x002 0 [] .none false) ⟨rfl, rfl⟩
    simp only [hk, hfid, if_false, if_true]
    rfl
  case keepAliveTime =>
    intro s src k c cid nsid dw11 data ha hk
    refine (setFeatures_stores ha (by simp [hk]) (by decide) (by decide) (Dev.setFeature_kato ..) fun x hs _ hc => ⟨hs, hc⟩).imp
      fun t ⟨he, ⟨⟨q, hq⟩, hother⟩, hfr⟩ => ⟨he, ⟨_, hq, ?_, rfl, rfl⟩, hother, hfr⟩
    rw [hk]
    exact katoOf_fabric _
  case queues =>
    intro s src k c cid nsid dw11 data ha hk hio hv
    exact (setFeatures_stores ha (by simp [hk]) (by decide) (by decide) (Dev.setFeature_queues _ _ _ _ hk hio hv) fun x hs hd _ => ⟨hs, hd⟩).imp
      fun t ⟨he, ⟨⟨q, hq⟩, _⟩, hfr⟩ => ⟨he, ⟨_, hq, rfl, rfl⟩, hfr⟩
  case getFeatures =>
    intro s src k c cid fid nsid ha hk hfid
    rcases hfid with rfl | rfl | rfl | rfl | rfl <;>
      exact getFeatures_answers ha hk rfl (by decide) (by decide) rfl fun x hs hc hd => ⟨hs, hc, hd⟩
  case power =>
    intro s src k c cid ps ha hk hp hps he
    obtain ⟨y, hrun, hcmds, hnext, htarget, hentry, hpsCmd, hold⟩ := s.dev.quiet.setPowerCmd_accepted src k cid.toNat hk hp hps he
    refine (admin_answers (Q := fun t => t.dev.nvme = y) rfl ha hrun ((s.dev.quiet.enters_newCmd k cid.toNat keepsSource_settingPower).thenNvme y hcmds hnext)
      ⟨rfl, rfl⟩ (State.after_nvme ..)).imp fun t ⟨henter, hy, hfr⟩ => ⟨henter, ?_⟩
    rw [hy]
    exact ⟨htarget, hentry, hpsCmd, hold, hfr⟩
  case powerDenied =>
    intro s src k c cid ps ha hk hp hn
    have hrest := s.dev.quiet.newCmd_nvme (src := src) k cid.toNat Cmd.settingPower
    refine (admin_answers (Q := fun t => t.dev.nvme.target = s.dev.nvme.target ∧ t.dev.nvme.entryAt = s.dev.nvme.entryAt ∧ t.dev.nvme.ps = s.dev.nvme.ps)
      rfl ha (s.dev.quiet.setPowerCmd_denied src k cid.toNat false hk hp hn)
      ((s.dev.quiet.enters_newCmd k cid.toNat keepsSource_settingPower).setCmd hn
        (y := { (s.dev.quiet.blankCmd src k cid.toNat).settingPower with status := some stDenied }) rfl rfl) ⟨rfl, rfl⟩ ?_).imp
      fun t ⟨henter, ⟨htarget, hentry, hps⟩, hfr⟩ => ⟨henter, htarget, hentry, hps, hfr⟩
    rw [State.after_nvme, Dev.setCmd, hrest]
    exact ⟨rfl, rfl, rfl⟩
  case powerEnd =>
    intro s u hf hu he
    obtain ⟨hps, hentry, hcmd, hctrls, hraised⟩ := s.dev.quiet.powerEntered_nvme
    refine .of_run (powerStateEntryEnd_run hf hu he) ⟨?_, ?_, ?_, ?_, fun hh => ?_, ?_, s.dev.quiet.step_powerEntered.after⟩
    · rw [State.after_nvme, hps]; rfl
    · rw [State.after_nvme, hentry]
    · rw [State.after_nvme, hcmd]
    · cases hj : s.dev.nvme.psCmd with
      | none => rfl
      | some j => exact (congrArg (Option.all _) (State.after_cmd j)).trans (s.dev.quiet.powerEntered_cmd hj)
    · exact State.told_of_prefix (e := s.dev.quiet.powerSet) (show 0 < 16 by decide) hraised rfl rfl hh
    · rw [State.after_nvme, hctrls]; rfl
  case asyncWaits =>
    intro s src k c cid ha hheld haers
    obtain ⟨⟨q, hq⟩, -⟩ := s.dev.quiet.newCmd_setCtrl (s.dev.quiet.leadsTo_of_adminAt ha) { c with aers := c.aers ++ [s.dev.nvme.nextCmd] } cid.toNat
      Cmd.awaitingEvent
    refine admin_answers rfl ha ?_ (Dev.enters_newCmd _ k cid.toNat (f := Cmd.awaitingEvent) fun _ => ⟨rfl, rfl⟩).setCtrl ⟨rfl, rfl⟩
      ⟨_, (State.after_ctrl k).trans hq, rfl, hheld⟩
    rw [if_neg (Nat.not_le.mpr haers)]
    simp only [hheld]
    rfl
  case asyncHeld =>
    intro s src k c cid e es ha hheld haers
    obtain ⟨⟨q, hq⟩, -⟩ := s.dev.quiet.newCmd_setCtrl (s.dev.quiet.leadsTo_of_adminAt ha) { c with held := es } cid.toNat
      (Cmd.answered · 0 (e.log * 65536 + e.info * 256 + e.type) [] .none false)
    refine admin_answers rfl ha ?_ (Dev.enters_answerCmd _ src k cid.toNat 0 (e.log * 65536 + e.info * 256 + e.type) [] .none false).setCtrl
      ⟨rfl, rfl, rfl⟩ ⟨_, (State.after_ctrl k).trans hq, rfl, rfl⟩
    rw [if_neg (Nat.not_le.mpr haers)]
    simp only [hheld]
  case invalid =>
    intro s src k c cid op ha hop
    refine admin_answered rfl ha ?_ (s.dev.quiet.enters_newCmd k cid.toNat (f := fun x => { x with opcode := op, status := some stOpcode })
      fun _ => ⟨rfl, rfl⟩) ⟨rfl, rfl⟩
    obtain ⟨hf, hp, hd⟩ := opcode_unlisted hop
    cases c.kind <;> simp only [hf, hp, hd, Bool.false_eq_true, if_false]

end Sys2Proof.Machine

/-!
PROOF. What cancelling leaves besides: the controllers but for their waiting requests, the number of the next command, and room in the event queue, since
the one event a meter adds is that of its next key.
-/
namespace Sys2Proof.Machine

section KeyTurns

variable (s : Dev)

/-- The events raised, with the one that a turn of the meters' key still owes (05 R237). -/
def Dev.eventsDue (s : Dev) : Nat := s.raised.length + s.ten.meter.keyNext.isSome.toNat

theorem Dev.eventsDue_meterMarkOpen : s.meterMarkOpen.eventsDue = s.eventsDue := by
  unfold Dev.meterMarkOpen
  split <;> rfl

theorem Dev.eventsDue_meterOpen (t n : Nat) : (s.meterOpen t n).eventsDue = s.eventsDue := by
  unfold Dev.meterOpen Dev.setMeter
  rfl

theorem Dev.eventsDue_meterOpenRest (n : Nat) : (s.meterOpenRest n).eventsDue = s.eventsDue := by
  unfold Dev.meterOpenRest
  rw [Dev.eventsDue_meterMarkOpen]
  exact foldl_keeps (g := Dev.eventsDue) (fun s t => s.eventsDue_meterOpen t n) _ s

theorem Dev.eventsDue_meterKeyTurn (n : Nat) : (s.meterKeyTurn n).eventsDue ≤ s.eventsDue := by
  unfold Dev.meterKeyTurn
  split
  · next k due hk =>
    split
    · show (s.raised ++ [(_ : Occ)]).length + 0 ≤ s.raised.length + s.ten.meter.keyNext.isSome.toNat
      rw [hk, List.length_append]
      exact Nat.le_refl _
    · exact Nat.le_refl _
  · exact Nat.le_refl _

theorem Dev.eventsDue_meterRollN (n : Nat) : ∀ s : Dev, (s.meterRollN n).eventsDue ≤ s.eventsDue := by
  induction n with
  | zero => exact fun s => Nat.le_refl _
  | succ n ih =>
    intro s
    unfold Dev.meterRollN
    split
    · exact Nat.le_refl _
    · next stop _ =>
      split
      · have hturn : ((s.meterCloseEnded stop).meterKeyTurn stop).eventsDue ≤ s.eventsDue := Dev.eventsDue_meterKeyTurn _ stop
        exact (ih _).trans ((Dev.eventsDue_meterOpenRest _ stop).trans_le hturn)
      · exact Nat.le_refl _

theorem Dev.eventsDue_meterCount (t : Nat) (f : MeterRec → MeterRec) : (s.meterCount t f).eventsDue ≤ s.eventsDue := by
  have hroll : s.meterRoll.eventsDue ≤ s.eventsDue := (Dev.eventsDue_meterKeyTurn _ _).trans (Dev.eventsDue_meterRollN _ s)
  unfold Dev.meterCount
  dsimp only
  split <;> exact hroll

end KeyTurns

section CancelPasses

variable (s : Dev) {a b c : Dev}

/-- A controller but for its waiting requests. -/
def Ctrl.mute (c : Ctrl) : Ctrl := { c with aers := [] }

/-- A step that ends commands: the next number, the controllers but for their waiting requests, and the events that can still come. -/
structure Dev.Passes (a b : Dev) : Prop where
  next : b.nvme.nextCmd = a.nvme.nextCmd
  ctrls : ∀ k, (b.ctrl k).map Ctrl.mute = (a.ctrl k).map Ctrl.mute
  due : b.eventsDue ≤ a.eventsDue

theorem Dev.Passes.refl : Dev.Passes s s := ⟨rfl, fun _ => rfl, Nat.le_refl _⟩

theorem Dev.Passes.trans (h : Dev.Passes a b) (k : Dev.Passes b c) : Dev.Passes a c :=
  ⟨k.next.trans h.next, fun j => (k.ctrls j).trans (h.ctrls j), k.due.trans h.due⟩

/-- A step outside the front end. -/
theorem Dev.Passes.of_nvme (h : b.nvme = a.nvme) (hd : b.eventsDue ≤ a.eventsDue) : Dev.Passes a b :=
  ⟨congrArg Nvme.nextCmd h, fun _ => by rw [Dev.ctrl, h]; rfl, hd⟩

/-- A controller found after such a step was there before, but for its waiting requests. -/
theorem Dev.Passes.ctrl (h : Dev.Passes a b) {k : Nat} {x : Ctrl} (hx : a.ctrl k = some x) : ∃ l, b.ctrl k = some { x with aers := l } := by
  have hk := h.ctrls k
  rw [hx] at hk
  obtain ⟨y, hy, hmute⟩ := Option.map_eq_some_iff.mp hk
  refine ⟨y.aers, hy.trans (congrArg some ?_)⟩
  simp only [Ctrl.mute, Ctrl.mk.injEq, true_and] at hmute
  obtain ⟨⟩ := y
  simp_all

theorem Dev.passes_abandonRecord (c : Cmd) : Dev.Passes s (s.abandonRecord c) := by
  refine .of_nvme (s.cancelStep_abandonRecord c).nvme ?_
  unfold Dev.abandonRecord
  dsimp only
  split
  · split
    · split <;> exact Nat.le_refl _
    · exact Nat.le_refl _
  · exact Nat.le_refl _

theorem Dev.passes_commandOver (c : Cmd) (n : Nat) : Dev.Passes s (s.commandOver c false n) := by
  refine .of_nvme (s.cancelStep_commandOver c n).nvme ?_
  unfold Dev.commandOver
  split
  · exact Nat.le_refl _
  · dsimp only
    split <;> exact Dev.eventsDue_meterCount ..

theorem Dev.passes_sampleEnd (c : Cmd) (n : Nat) : Dev.Passes s (s.sampleEnd c n) := by
  refine .of_nvme (s.cancelStep_sampleEnd c n).nvme ?_
  unfold Dev.sampleEnd
  split <;> exact Nat.le_refl _

theorem Dev.passes_sweep (id : Nat) : Dev.Passes s (s.sweep id) := by
  unfold Dev.sweep
  split
  · split
    · exact ⟨rfl, fun _ => rfl, Nat.le_refl _⟩
    · exact .refl s
  · exact .refl s

theorem Dev.passes_setCtrl {k : Nat} {x : Ctrl} (l : List Nat) (h : s.ctrl k = some x) : Dev.Passes s (s.setCtrl k { x with aers := l }) := by
  refine ⟨rfl, fun j => ?_, Nat.le_refl _⟩
  by_cases hj : j = k
  · rw [hj, s.ctrl_setCtrl_self, h]
    rfl
  · rw [s.ctrl_setCtrl_other _ hj]

theorem Dev.passes_cancelCmd (id : Nat) : Dev.Passes s (s.cancelCmd id false) := by
  unfold Dev.cancelCmd
  split
  · exact .refl s
  · next c hc =>
    split
    · exact .refl s
    · extract_lets s₁ c₁ s₂ s₃ s₄ s₅
      have h₂ : Dev.Passes s s₂ := (s.passes_abandonRecord c).trans ⟨rfl, fun _ => rfl, Nat.le_refl _⟩
      have h₄ : Dev.Passes s₂ s₄ := by
        dsimp only [s₄]
        split <;> exact ⟨rfl, fun _ => rfl, Nat.le_refl _⟩
      have h₅ : Dev.Passes s s₅ := (h₂.trans h₄).trans ((Dev.passes_commandOver _ _ _).trans (Dev.passes_sampleEnd _ _ _))
      split
      · next x hx => exact h₅.trans ((s₅.passes_setCtrl _ hx).trans (Dev.passes_sweep _ _))
      · exact h₅.trans (Dev.passes_sweep _ _)

theorem Dev.passes_cancelWhere (p : Cmd → Bool) : Dev.Passes s (s.cancelWhere p false) :=
  foldl_within Dev.Passes.refl .trans (fun s id => s.passes_cancelCmd id) _ s

end CancelPasses

section Closing

variable (s : Dev) {a b c : Dev}

/-- Queue pairs closed: what is still to be sent on one that is closing already stays, and no event is raised (04 R183). -/
structure Dev.QpsClosed (a b : Dev) : Prop where
  step : Dev.Step [.rdma, .sw] [] [] a b
  raised : b.raised = a.raised
  closing : ∀ i, (a.qp i).sendQ ≠ [] → (a.qp i).closing.isSome = true →
    (b.qp i).sendQ = (a.qp i).sendQ ∧ (b.qp i).ctrl = (a.qp i).ctrl ∧ (b.qp i).closing.isSome = true

theorem Dev.QpsClosed.refl : Dev.QpsClosed s s := ⟨.refl s, rfl, fun _ _ h => ⟨rfl, rfl, h⟩⟩

theorem Dev.QpsClosed.trans (h : Dev.QpsClosed a b) (k : Dev.QpsClosed b c) : Dev.QpsClosed a c where
  step := h.step.trans k.step
  raised := k.raised.trans h.raised
  closing i hq hc := by
    obtain ⟨hsend, hctrl, hclosing⟩ := h.closing i hq hc
    obtain ⟨ksend, kctrl, kclosing⟩ := k.closing i (hsend ▸ hq) hclosing
    exact ⟨ksend.trans hsend, kctrl.trans hctrl, kclosing⟩

theorem Dev.qpsClosed_closeQp (i : Nat) (dreq : Bool) : Dev.QpsClosed s (s.closeQp i dreq) := by
  unfold Dev.closeQp
  split
  · next hempty =>
    by_cases h : (s.qp i).st = .rts
    · have hdrain := s.qpStep_qpDrain i dreq h
      refine ⟨hdrain.toStep, ?_, fun j hj hc => ?_⟩
      · unfold Dev.qpDrain
        rw [if_pos h]
        dsimp only
        split <;> exact s.qpLeave_raised i .draining
      · rw [hdrain.other j (fun e => hj (e ▸ List.isEmpty_iff.mp hempty))]
        exact ⟨rfl, rfl, hc⟩
    · rw [Dev.qpDrain, if_neg h]
      exact .refl s
  · refine ⟨.rdma s _ (by decide), rfl, fun j hj hc => ?_⟩
    by_cases hji : j = i
    · rw [hji, s.qp_setQp_self]
      exact ⟨rfl, rfl, rfl⟩
    · rw [s.qp_setQp_other j i _ hji]
      exact ⟨rfl, rfl, hc⟩

theorem Dev.qpsClosed_foldl (l : List Nat) : Dev.QpsClosed s (l.foldl (fun s i => s.closeQp i true) s) :=
  foldl_within Dev.QpsClosed.refl .trans (fun s i => s.qpsClosed_closeQp i true) l s

end Closing

end Sys2Proof.Machine

/-!
PROOF. Fabric controllers (04 R144-R147, R157, R161, R180, R183): the statement O21.
-/
namespace Sys2Proof.Machine

section Connecting

variable (s : Dev) {a b : Dev}

/-- A command that answers a Connect with success. -/
def Cmd.connected (k : Nat) (c : Cmd) : Cmd := { c with status := some 0, dw0 := k + 1, opcode := 0x7F }

theorem keepsSource_connected (k : Nat) : KeepsSource (Cmd.connected k) := fun _ => ⟨rfl, rfl⟩

/-- A queue joins a controller, and its Connect succeeds (04 R146). -/
def Dev.joined (s : Dev) (i k h cid : Nat) : Dev :=
  ((s.setQp i { s.qp i with ctrl := some k, host := some h, tenant := s.fld .HOST_CFG_TENANT h }).newCmd (.fabric i) k cid (Cmd.connected k)).2

/-- From `a` to `b` queue `i` has joined the controller `k`. -/
structure Dev.Joins (i k h cid : Nat) (a b : Dev) : Prop where
  step : Dev.Step [.rdma, .nvme] [] [] a b
  self : b.qp i = { a.qp i with inUse := (a.qp i).inUse - 1, ctrl := some k, host := some h, tenant := a.fld .HOST_CFG_TENANT h }
  other : ∀ j, j ≠ i → b.qp j = a.qp j
  cmds : ∃ x : Cmd, b.nvme.cmds = a.nvme.cmds ++ [x] ∧ x.status = some 0 ∧ x.dw0 = k + 1 ∧ x.cid = cid
  ctrls : ∀ j, b.ctrl j = a.ctrl j

theorem Dev.joins_joined (i k h cid : Nat) : Dev.Joins i k h cid s (s.joined i k h cid) := by
  have hset := Dev.QpStep.setQp (ps := [.rdma, .nvme]) (cs := []) s i
    { s.qp i with ctrl := some k, host := some h, tenant := s.fld .HOST_CFG_TENANT h } (by decide)
  have hnvme : (s.setQp i { s.qp i with ctrl := some k, host := some h, tenant := s.fld .HOST_CFG_TENANT h }).nvme = s.nvme := rfl
  unfold Dev.joined
  generalize s.setQp i { s.qp i with ctrl := some k, host := some h, tenant := s.fld .HOST_CFG_TENANT h } = e at hset hnvme ⊢
  have henter := Dev.enters_newCmd (src := .fabric i) e k cid (keepsSource_connected k)
  refine ⟨hset.toStep.trans henter.step, ?_, fun j hj => ?_, ⟨_, hnvme ▸ henter.cmds, rfl, rfl, rfl⟩, fun j => ?_⟩
  · rw [henter.qps, if_pos rfl, hset.self]
  · rw [henter.qps, if_neg (fun e => hj (CmdSource.fabric.inj e).symm), hset.other j hj]
  · rw [Dev.newCmd_ctrl, ← show e.ctrl j = s.ctrl j by rw [Dev.ctrl, hnvme]; rfl]
    rfl

/-- The controller that a Connect for an admin queue makes (04 R145). -/
def Dev.madeCtrl (s : Dev) (i h : Nat) (c : ConnectArgs) : Ctrl :=
  { kind := .fabric, host := h, hostId := c.hostId.toNat, tenant := s.fld .HOST_CFG_TENANT h, aqp := i, kato := katoOf .fabric c.kato, kaAt := s.nowOn .ln }

end Connecting

section Connects

variable {s : State} {d e : Dev} {i k h : Nat} {cid : BitVec 16} {c : ConnectArgs}

/-- What a Connect that succeeds answers of the queue and its command. -/
theorem Dev.Joins.answers {x : Instr} (hj : Dev.Joins i k h cid.toNat e d) (he : Dev.Step [.nvme] [] [] s.dev.quiet e) (hcmds : e.nvme.cmds = s.dev.nvme.cmds)
    (hx : exec x s = s.run (fun _ => d)) :
    Answers x s (fun t => (∀ j, t.dev.ctrl j = e.ctrl j) ∧
      t.dev.qp i = { s.dev.qp i with inUse := (s.dev.qp i).inUse - 1, ctrl := some k, host := some h, tenant := s.dev.fld .HOST_CFG_TENANT h } ∧
      (∀ j, j ≠ i → t.dev.qp j = s.dev.qp j) ∧ (t.dev.nvme.cmds.getLast?.all (fun x => x.status == some 0 && x.dw0 == k + 1 && x.cid == cid.toNat)) = true ∧
      t.dev.nvme.cmds.length = s.dev.nvme.cmds.length + 1 ∧
      (∀ id y, s.hears .ln → (s.dev.quiet.event .ln id y).raised <+: e.raised → s.told t .ln id y) ∧
      Dev.OnlyChanged [.rdma, .nvme] [] [] s.dev t.dev) := by
  have hqp : ∀ j, e.qp j = s.dev.qp j := fun j => congrArg (fun r => r.qps.get {} j) (he.rdma_eq (by decide))
  have hstep : Dev.Step [.rdma, .nvme] [] [] s.dev.quiet d := (he.mono (by decide) (List.Subset.refl _) (List.Subset.refl _)).trans hj.step
  obtain ⟨y, hy, hst, hdw, hcid⟩ := hj.cmds
  refine .of_run hx ⟨fun j => (State.after_ctrl j).trans (hj.ctrls j), ?_, fun j hne => ?_, ?_, ?_, fun id y hh hp => ?_, hstep.after⟩
  · rw [State.after_qp, hj.self, hqp, he.fld List.not_mem_nil]
    rfl
  · rw [State.after_qp, hj.other j hne, hqp]
  · rw [State.after_nvme, hy, List.getLast?_concat]
    simp [hst, hdw, hcid]
  · rw [State.after_nvme, hy, hcmds, List.length_append]
    rfl
  · exact State.told_of_prefix (e := s.dev.quiet) (show 0 < 16 by decide) (hp.trans hj.step.raised) rfl rfl hh

/-- A Connect that its checks pass, for an admin queue: the controller it makes (04 R145). -/
theorem connect_admin_run (hf : s.dev.frontUp = true) (hq : (s.dev.qp i).st = .rts ∧ 0 < (s.dev.qp i).inUse ∧ (s.dev.qp i).ctrl = none ∧ (s.dev.qp i).qid = 0)
    (hqid : c.qid = 0) (hok : s.dev.connectFails i c = none) (hh : s.dev.hostOf c.hostNqn = some h) (hsub : c.subnqn ≠ 1)
    (hk : s.dev.freeCtrl 0 959 = some k) :
    exec (.connect i cid c) s =
      s.run (fun _ => ((s.dev.quiet.setCtrl k (s.dev.madeCtrl i h c)).event .ln 0x200 (le 2 (k + 1) ++ le 2 h)).joined i k h cid.toNat) := by
  obtain ⟨hst, hin, hctrl, hqz⟩ := hq
  refine State.runIf_eq_of_quiet (s := s) (by simp [hf, hst, hin, hctrl, hqz, hqid]) ?_
  have hok' : s.dev.quiet.connectFails i c = none := hok
  have hh' : s.dev.quiet.hostOf c.hostNqn = some h := hh
  have hk' : s.dev.quiet.freeCtrl 0 959 = some k := hk
  have hsub' : (c.subnqn == 1) = false := beq_false_of_ne hsub
  simp only [hok', hh', hk', hsub', hqid, Option.getD_some, if_true, Bool.false_eq_true, if_false]
  rfl

theorem connect_io_run {x : Ctrl} (hf : s.dev.frontUp = true)
    (hq : (s.dev.qp i).st = .rts ∧ 0 < (s.dev.qp i).inUse ∧ (s.dev.qp i).ctrl = none ∧ (s.dev.qp i).qid ≠ 0)
    (hqid : c.qid ≠ 0) (hok : s.dev.connectFails i c = none) (hh : s.dev.hostOf c.hostNqn = some h) (hk : c.cntlid = k + 1) (hx : s.dev.ctrl k = some x) :
    exec (.connect i cid c) s = s.run (fun _ => (s.dev.quiet.setCtrl k { x with ioConnected := true }).joined i k h cid.toNat) := by
  obtain ⟨hst, hin, hctrl, hqz⟩ := hq
  refine State.runIf_eq_of_quiet (s := s) (by simp [hf, hst, hin, hctrl, hqz, hqid]) ?_
  have hok' : s.dev.quiet.connectFails i c = none := hok
  have hh' : s.dev.quiet.hostOf c.hostNqn = some h := hh
  have hx' : s.dev.quiet.ctrl k = some x := hx
  simp only [hok', hh', hk, hx', hqid, Option.getD_some, if_false, Nat.add_sub_cancel]
  rfl

/-- The command that answers a refused Connect. -/
def Cmd.connectFailed (st v : Nat) (c : Cmd) : Cmd := { c with status := some st, dw0 := v, opcode := 0x7F }

theorem keepsSource_connectFailed (st v : Nat) : KeepsSource (Cmd.connectFailed st v) := fun _ => ⟨rfl, rfl⟩

/-- A Connect that fails a check: it is counted and recorded, and answered with no controller (04 R146). -/
theorem connect_refused_run {check st : Nat} {dw0 : Option Nat} (hf : s.dev.frontUp = true)
    (hq : (s.dev.qp i).st = .rts ∧ 0 < (s.dev.qp i).inUse ∧ (s.dev.qp i).ctrl = none) (hqid : (c.qid = 0) = ((s.dev.qp i).qid = 0))
    (hbad : s.dev.connectFails i c = some (check, st, dw0)) :
    ∃ n v, exec (.connect i cid c) s = s.run (fun _ => ((({ s.dev.quiet with fresh := n }.count .FE_CONNECT_REFUSED).event .ln 0x202
        (le 2 ((s.dev.hostOf c.hostNqn).getD 0xFFFF) ++ le 1 check)).newCmd (.fabric i) noCtrl cid.toNat (Cmd.connectFailed st v)).2) ∧
      (dw0.all (fun w => v == w)) = true := by
  obtain ⟨hst, hin, hctrl⟩ := hq
  have hbad' : s.dev.quiet.connectFails i c = some (check, st, dw0) := hbad
  have hhost : s.dev.quiet.hostOf c.hostNqn = s.dev.hostOf c.hostNqn := rfl
  have hgo : (s.dev.frontUp && decide ((s.dev.qp i).st = .rts) && decide (0 < (s.dev.qp i).inUse) && (s.dev.qp i).ctrl.isNone &&
      decide ((c.qid = 0) = ((s.dev.qp i).qid = 0))) = true := by simp [hf, hst, hin, hctrl, hqid]
  cases dw0 with
  | none =>
    refine ⟨s.dev.fresh + 1, s.dev.quiet.draw.1 % 65536, State.runIf_eq_of_quiet hgo ?_, rfl⟩
    simp only [hbad', hhost]
    rfl
  | some v =>
    refine ⟨s.dev.fresh, v, State.runIf_eq_of_quiet hgo ?_, by simp⟩
    simp only [hbad', hhost]
    rfl

end Connects

end Sys2Proof.Machine

/-!
PROOF. The properties of a fabric controller: CC, CSTS, reset and shutdown (04 R157-R161).
-/
namespace Sys2Proof.Machine

section Properties

variable (s : Dev) {src : CmdSource} {k : Nat} {c : Ctrl}

/-- A Fabrics command in hand. -/
def Cmd.fabrics (c : Cmd) : Cmd := { c with opcode := 0x7F }

theorem keepsSource_fabrics : KeepsSource Cmd.fabrics := fun _ => ⟨rfl, rfl⟩

/-- A controller whose CC has been written with no shutdown (04 R157): EN set anew starts its enabling, EN clear ends its readiness. -/
def Ctrl.ccWritten (c : Ctrl) (was : Bool) (v now : Nat) : Ctrl :=
  { c with cc := v, enableAt := if (v % 2 == 1) && !was then some now else c.enableAt, rdy := c.rdy && (v % 2 == 1)
           shst := if (v % 2 == 1) && !was then 0 else c.shst, shutdownAt := none }

/-- CC.EN set starts the controller: nothing is cancelled. -/
theorem Dev.ccWrite_enable {keep : Option Nat} {v : Nat} (hc : s.ctrl k = some c) (hwas : c.cc % 2 = 0) (hv : v % 2 = 1 ∧ v / 2 ^ 14 % 4 = 0) :
    s.ccWrite k keep v = s.setCtrl k (c.ccWritten false v (s.nowOn .ln)) := by
  have hshn : v / 16384 % 4 = 0 := hv.2
  unfold Dev.ccWrite
  simp [hc, hwas, hv.1, hshn, Ctrl.ccWritten]

/-- CC.EN cleared resets the controller first. -/
theorem Dev.ccWrite_disable {keep : Option Nat} {v : Nat} {y : Ctrl} (hc : s.ctrl k = some c) (hwas : c.cc % 2 = 1) (hv : v % 2 = 0 ∧ v / 2 ^ 14 % 4 = 0)
    (hy : (s.resetCtrl k keep).ctrl k = some y) :
    s.ccWrite k keep v = (s.resetCtrl k keep).setCtrl k (y.ccWritten true v ((s.resetCtrl k keep).nowOn .ln)) := by
  have hshn : v / 16384 % 4 = 0 := hv.2
  unfold Dev.ccWrite
  simp [hc, hwas, hv.1, hshn, hy, Ctrl.ccWritten]

/-- A controller in its state before CC.EN was set (04 R157). -/
def Ctrl.reset (c : Ctrl) : Ctrl :=
  { kind := c.kind, host := c.host, hostId := c.hostId, tenant := c.tenant, aqp := c.aqp, kato := c.kato, kaAt := c.kaAt
    errCount := c.errCount, errLog := c.errLog, resvLog := c.resvLog, changed := c.changed }

/-- What resetting a controller leaves: the command kept is as it was, the controller's others are over (04 R180). -/
structure Dev.Resets (k keep : Nat) (c : Ctrl) (a b : Dev) : Prop where
  step : Dev.Step [.rdma, .nvme, .ldg, .ten, .evr, .sw] [] cancelCtrs a b
  self : b.ctrl k = some c.reset
  kept : b.cmd keep = a.cmd keep
  overs : ∀ j, j ≠ keep → ((b.cmd j).all (fun x => x.ctrl != k || x.completed || x.cancelled)) = true

theorem Dev.resets_resetCtrl (hc : s.ctrl k = some c) (keep : Nat) : Dev.Resets k keep c s (s.resetCtrl k (some keep)) := by
  have hcancel := (s.cancelled_foldl ((s.nvme.cmds.filter (fun c => c.ctrl == k && some c.id != some keep)).map (·.id))).step
  have hpass := s.passes_cancelWhere (fun c => c.ctrl == k && some c.id != some keep)
  obtain ⟨l, hl⟩ := hpass.ctrl hc
  have hkept : (s.cancelWhere (fun c => c.ctrl == k && some c.id != some keep) false).cmd keep = s.cmd keep := by
    refine (Dev.cmd_foldl_cancelCmd _ s).2 keep fun hmem => ?_
    obtain ⟨x, hx, hid⟩ := List.mem_map.mp hmem
    have := (List.mem_filter.mp hx).2
    simp [hid] at this
  have hover : ∀ j, j ≠ keep →
      (((s.cancelWhere (fun c => c.ctrl == k && some c.id != some keep) false).cmd j).all (fun x => x.ctrl != k || x.completed || x.cancelled)) = true :=
    fun j hj => by
      refine s.cmd_cancelWhere _ (fun x hx => ?_) (.inr fun x hx hq => ?_)
      · rw [Bool.or_assoc]
        exact (congrArg (_ || ·) hx).trans (Bool.or_true _)
      · have hctrl := (Bool.or_eq_false_iff.mp (Bool.or_eq_false_iff.mp hq).1).1
        have hid := s.cmd_id hx
        simp only [bne_eq_false_iff_eq] at hctrl
        simp [hctrl, hid, hj]
  unfold Dev.resetCtrl
  dsimp only
  change Dev.Step cancelParts [] cancelCtrs s (s.cancelWhere (fun c => c.ctrl == k && some c.id != some keep) false) at hcancel
  generalize s.cancelWhere (fun c => c.ctrl == k && some c.id != some keep) false = e at hcancel hl hkept hover ⊢
  simp only [hl]
  have hclosed := (e.setCtrl k c.reset).qpsClosed_foldl (((e.setCtrl k c.reset).ctrlQps k).filter (fun i => ((e.setCtrl k c.reset).qp i).qid != 0))
  have hnvme := hclosed.step.nvme_eq (by decide)
  refine ⟨((hcancel.mono (by decide) (List.Subset.refl _) (List.Subset.refl _)).trans (.nvme e _ (by decide))).trans
      (hclosed.step.mono (by decide) (List.Subset.refl _) (List.nil_subset _)), ?_, ?_, fun j hj => ?_⟩
  · rw [Dev.ctrl]
    exact (congrArg (fun n => n.ctrls.find k) hnvme).trans (e.ctrl_setCtrl_self k _)
  · rw [Dev.cmd]
    exact (congrArg (fun n => n.cmds.find? (fun c => c.id == keep)) hnvme).trans hkept
  · rw [Dev.cmd]
    have := congrArg (fun n => n.cmds.find? (fun c => c.id == j)) hnvme
    exact (congrArg (Option.all _) this).trans (hover j hj)

end Properties

section Ending

variable (s : Dev) {k : Nat} {c : Ctrl}

/-- What the end of an association leaves (04 R180). -/
structure Dev.Ends (k : Nat) (a b : Dev) : Prop where
  step : Dev.Step queueParts [] cancelCtrs a b
  gone : b.ctrl k = none
  overs : ∀ j, ((b.cmd j).all (fun x => x.ctrl != k || x.completed || x.cancelled)) = true
  closing : ∀ i, (a.qp i).sendQ ≠ [] → (a.qp i).closing.isSome = true →
    (b.qp i).sendQ = (a.qp i).sendQ ∧ (b.qp i).ctrl = (a.qp i).ctrl ∧ (b.qp i).closing.isSome = true
  told : ∃ e : Dev, ∃ n, e.raised.length ≤ a.eventsDue ∧ e.nowOn .ln = a.nowOn .ln ∧ e.timeLoaded = a.timeLoaded ∧
    (e.event .ln 0x201 (le 2 (k + 1)) n).raised <+: b.raised

theorem Dev.ends_endAssociation (hc : s.ctrl k = some c) : Dev.Ends k s (s.endAssociation k) := by
  obtain ⟨htorn, hgone⟩ := s.tornDown_endAssociation k
  have hcancel : Dev.Step cancelParts [] cancelCtrs s (s.cancelWhere (fun c => c.ctrl == k) false) := (s.cancelled_foldl _).step
  have hdue := (s.passes_cancelWhere (fun c => c.ctrl == k)).due
  have hrdma := s.cancelWhere_rdma (fun c => c.ctrl == k)
  have hover : ∀ j, (((s.cancelWhere (fun c => c.ctrl == k) false).cmd j).all (fun x => x.ctrl != k || x.completed || x.cancelled)) = true := fun j => by
    refine s.cmd_cancelWhere _ (fun x hx => ?_) (.inr fun x _ hq => ?_)
    · rw [Bool.or_assoc]
      exact (congrArg (_ || ·) hx).trans (Bool.or_true _)
    · simpa using (Bool.or_eq_false_iff.mp (Bool.or_eq_false_iff.mp hq).1).1
  have hstep := htorn.step
  unfold Dev.endAssociation at hgone hstep ⊢
  simp only [hc] at hgone hstep ⊢
  generalize s.cancelWhere (fun c => c.ctrl == k) false = e at hcancel hdue hrdma hover hgone hstep ⊢
  have hclosed := e.qpsClosed_foldl (e.ctrlQps k)
  generalize (e.ctrlQps k).foldl (fun s i => s.closeQp i true) e = f at hclosed hgone hstep ⊢
  have hqp : ∀ i, e.qp i = s.qp i := fun i => congrArg (fun r => r.qps.get {} i) hrdma
  refine ⟨hstep, hgone, fun j => ?_, fun i hq hcl => ?_, ⟨{ f with fresh := f.fresh + 1 }, f.draw.1 % 65536, ?_, ?_, ?_, List.prefix_rfl⟩⟩
  · have := congrArg (fun n => n.cmds.find? (fun c => c.id == j)) (hclosed.step.nvme_eq (by decide))
    exact (congrArg (Option.all _) this).trans (hover j)
  · have := hclosed.closing i (hqp i ▸ hq) (hqp i ▸ hcl)
    rw [hqp i] at this
    exact this
  · have hr : f.raised.length = e.raised.length := congrArg List.length hclosed.raised
    exact hr.trans_le ((Nat.le_add_right _ _).trans hdue)
  · exact (hclosed.step.nowOn (by decide) .ln).trans (hcancel.nowOn (by decide) .ln)
  · exact (hclosed.step.timeLoaded_eq (by decide)).trans (hcancel.timeLoaded_eq (by decide))

end Ending

end Sys2Proof.Machine

/-!
PROOF. The Fabrics commands on a controller, Disconnect and the loss of an association (04 R157, R180, R183).
-/
namespace Sys2Proof.Machine

section FabricCommands

variable {s : State} {src : CmdSource} {k i : Nat} {c : Ctrl} {cid : BitVec 16} {v : BitVec 64}

/-- A write of CC that its checks pass: the command is entered, writes, and succeeds (04 R157). -/
def Dev.ccSet (s : Dev) (src : CmdSource) (k cid v : Nat) : Dev :=
  let r := s.newCmd src k cid Cmd.fabrics
  let d := r.2.ccWrite k (some r.1) v
  match d.cmd r.1 with
  | some x => d.setCmd { x with status := some 0 }
  | none => d

/-- A write of CC: the command is entered, writes, and is answered (04 R157). -/
theorem propertySet_run {e : Dev} {x : Cmd} (ha : s.dev.adminAt src k c = true) (hk : c.kind ≠ .pcie) (hv : ccValid v.toNat = true)
    (he : (s.dev.quiet.newCmd src k cid.toNat Cmd.fabrics).2.ccWrite k (some s.dev.nvme.nextCmd) v.toNat = e) (hx : e.cmd s.dev.nvme.nextCmd = some x) :
    exec (.propertySet src cid 0x14 v) s = s.run (fun _ => e.setCmd { x with status := some 0 }) := by
  refine (show exec (.propertySet src cid 0x14 v) s = s.run (fun d => d.onAdmin src _) from rfl).trans (State.run_eq_of_quiet ?_)
  have hset : s.dev.quiet.ccSet src k cid.toNat v.toNat = e.setCmd { x with status := some 0 } := by
    unfold Dev.ccSet
    dsimp only
    rw [show (s.dev.quiet.newCmd src k cid.toNat Cmd.fabrics).1 = s.dev.nvme.nextCmd from rfl, he]
    simp only [hx]
  rw [s.dev.quiet.onAdmin_of_adminAt ha, ← hset]
  simp only [hk, hv, if_true, if_false, and_self]
  rfl

/-- CC.EN set: the controller's enabling begins. -/
theorem enable_answers (ha : s.dev.adminAt src k c = true) (hk : c.kind ≠ .pcie) (hn : s.dev.numberFree = true) (hv : ccValid v.toNat = true)
    (hwas : c.cc % 2 = 0) (hen : v.toNat % 2 = 1 ∧ v.toNat / 2 ^ 14 % 4 = 0) :
    Answers (.propertySet src cid 0x14 v) s (fun t => s.entered t src (fun x => x.status = some 0 ∧ x.cid = cid.toNat) ∧
      (∃ x, t.dev.ctrl k = some x ∧ x.cc = v.toNat ∧ x.enableAt = some (s.dev.nowOn .ln) ∧ x.rdy = c.rdy ∧ x.shst = 0 ∧ x.shutdownAt = none ∧
        x.tenant = c.tenant) ∧ (∀ j, j ≠ k → t.dev.ctrl j = s.dev.ctrl j) ∧ Dev.OnlyChanged [.rdma, .nvme] [] [] s.dev t.dev) := by
  have hc : s.dev.quiet.ctrl k = some c := (s.dev.quiet.adminAt_iff.mp ha).2.1
  obtain ⟨⟨q, hq⟩, hother⟩ := s.dev.quiet.newCmd_ctrls (s.dev.quiet.leadsTo_of_adminAt ha) hc cid.toNat Cmd.fabrics
  have henter := s.dev.quiet.enters_newCmd (src := src) k cid.toNat keepsSource_fabrics
  have hnow := s.dev.quiet.newCmd_nowOn (src := src) (k := k) cid.toNat Cmd.fabrics
  have hrun := propertySet_run ha hk hv (Dev.ccWrite_enable _ hq hwas hen) (henter.cmd_self hn)
  generalize (s.dev.quiet.newCmd src k cid.toNat Cmd.fabrics).2 = e at hq hother henter hnow hrun
  have hwritten := (henter.thenCtrl k (Ctrl.ccWritten { c with sqs := q } false v.toNat (e.nowOn .ln))).setCmd hn
    (y := { (s.dev.quiet.blankCmd src k cid.toNat).fabrics with status := some 0 }) rfl rfl
  refine .of_run hrun ⟨hwritten.entered ⟨rfl, rfl⟩, ⟨_, (State.after_ctrl k).trans (e.ctrl_setCtrl_self k _), rfl, ?_, ?_, ?_, rfl, rfl⟩,
    fun j hj => (State.after_ctrl j).trans ((e.ctrl_setCtrl_other _ hj).trans (hother j hj)), hwritten.step.after⟩
  · simp only [Ctrl.ccWritten, hen.1, hnow]
    rfl
  · simp [Ctrl.ccWritten, hen.1]
  · simp [Ctrl.ccWritten, hen.1]

/-- CC.EN cleared: the controller's other commands are cancelled. -/
theorem disable_answers (ha : s.dev.adminAt src k c = true) (hk : c.kind ≠ .pcie) (hn : s.dev.numberFree = true) (hv : ccValid v.toNat = true)
    (hwas : c.cc % 2 = 1) (hen : v.toNat % 2 = 0 ∧ v.toNat / 2 ^ 14 % 4 = 0) :
    Answers (.propertySet src cid 0x14 v) s (fun t => ((t.dev.cmd s.dev.nvme.nextCmd).all (fun x => x.status == some 0 && x.cid == cid.toNat)) = true ∧
      (∃ x, t.dev.ctrl k = some x ∧ x.cc = v.toNat ∧ x.rdy = false ∧ x.granted = 1024 ∧ x.aers = [] ∧ x.tenant = c.tenant ∧ x.errLog = c.errLog) ∧
      (∀ j, j ≠ s.dev.nvme.nextCmd → ((t.dev.cmd j).all (fun x => x.ctrl != k || x.completed || x.cancelled)) = true) ∧
      Dev.OnlyChanged [.rdma, .nvme, .ldg, .ten, .evr, .sw] [] [.FE_CMD_CANCELLED, .LDG_REC_ABANDONED] s.dev t.dev) := by
  have hc : s.dev.quiet.ctrl k = some c := (s.dev.quiet.adminAt_iff.mp ha).2.1
  obtain ⟨⟨q, hq⟩, -⟩ := s.dev.quiet.newCmd_ctrls (s.dev.quiet.leadsTo_of_adminAt ha) hc cid.toNat Cmd.fabrics
  have henter := s.dev.quiet.enters_newCmd (src := src) k cid.toNat keepsSource_fabrics
  have hself := henter.cmd_self hn
  have hrun {x : Cmd} := propertySet_run (s := s) (cid := cid) (x := x) ha hk hv rfl
  generalize (s.dev.quiet.newCmd src k cid.toNat Cmd.fabrics).2 = e at hq henter hself hrun
  have hreset := e.resets_resetCtrl hq s.dev.nvme.nextCmd
  have hcc := e.ccWrite_disable hq hwas hen hreset.self
  rw [hcc] at hrun
  generalize e.resetCtrl k (some s.dev.nvme.nextCmd) = f at hreset hrun
  have hf : ∀ z, (f.setCtrl k z).cmd s.dev.nvme.nextCmd = some (s.dev.quiet.blankCmd src k cid.toNat).fabrics := fun _ => hreset.kept.trans hself
  have hid : s.dev.nvme.nextCmd = ({ (s.dev.quiet.blankCmd src k cid.toNat).fabrics with status := some 0 } : Cmd).id := rfl
  refine .of_run (hrun (hf _)) ⟨?_, ⟨_, (State.after_ctrl k).trans (f.ctrl_setCtrl_self k _), rfl, ?_, rfl, rfl, rfl, rfl⟩, fun j hj => ?_, Dev.Step.after ?_⟩
  · rw [State.after_cmd, Dev.cmd_setCmd_at _ (hf _) rfl]
    simp only [Option.all_some, beq_self_eq_true, Bool.true_and]
    exact beq_self_eq_true cid.toNat
  · simp [Ctrl.ccWritten, Ctrl.reset]
  · rw [State.after_cmd, Dev.cmd_setCmd_other _ _ (hid ▸ hj)]
    exact hreset.overs j hj
  · exact (((henter.step.mono (by decide) (List.Subset.refl _) (List.nil_subset _)).trans hreset.step).trans (.nvme f _ (by decide))).trans
      (.nvme _ _ (by decide))

end FabricCommands

section Disconnecting

variable (s : Dev) {i k : Nat}

/-- A Disconnect completed by what goes out for it. -/
def Cmd.disconnected (c : Cmd) : Cmd := { c with opcode := 0x7F, status := some 0, completed := true }

theorem keepsSource_disconnected : KeepsSource Cmd.disconnected := fun _ => ⟨rfl, rfl⟩

/-- A command completed by the last SEND of its queue pair, which closes behind it (04 R183). -/
def Dev.lastSent (s : Dev) (i k cid : Nat) : Dev :=
  let r := s.newCmd (.fabric i) k cid Cmd.disconnected
  (r.2.setQp i { r.2.qp i with sendQ := (r.2.qp i).sendQ ++ [{ cmd := r.1, cid := cid, status := 0 }], closing := some false }).sweep r.1

/-- What it leaves. -/
structure Dev.LastSent (i cid : Nat) (a b : Dev) : Prop where
  step : Dev.Step [.rdma, .nvme, .ldg, .ten, .evr] [] cancelCtrs a b
  self : b.qp i = { a.qp i with inUse := (a.qp i).inUse - 1, closing := some false, sendQ := (a.qp i).sendQ ++ [{ cmd := a.nvme.nextCmd, cid := cid, status := 0 }] }
  other : ∀ j, j ≠ i → b.qp j = a.qp j
  ctrls : ∀ j, (b.ctrl j).isSome = (a.ctrl j).isSome
  cmds : ∀ j, j ≠ a.nvme.nextCmd → b.cmd j = a.cmd j
  due : b.eventsDue ≤ a.eventsDue

theorem Dev.lastSent_spec (i k cid : Nat) : Dev.LastSent i cid s (s.lastSent i k cid) := by
  have henter := s.enters_newCmd (src := .fabric i) k cid keepsSource_disconnected
  have hctrl : ∀ j, (s.newCmd (.fabric i) k cid Cmd.disconnected).2.ctrl j = s.ctrl j := fun j => rfl
  have hdue : (s.newCmd (.fabric i) k cid Cmd.disconnected).2.eventsDue = s.eventsDue := rfl
  unfold Dev.lastSent
  simp only [Dev.newCmd_fst]
  generalize (s.newCmd (.fabric i) k cid Cmd.disconnected).2 = f at henter hctrl hdue ⊢
  have hset := Dev.QpStep.setQp (ps := [.rdma]) (cs := []) f i
    { f.qp i with sendQ := (f.qp i).sendQ ++ [{ cmd := s.nvme.nextCmd, cid := cid, status := 0 }], closing := some false } (by decide)
  have hdue' : (f.setQp i { f.qp i with sendQ := (f.qp i).sendQ ++ [{ cmd := s.nvme.nextCmd, cid := cid, status := 0 }], closing := some false }).eventsDue =
    f.eventsDue := rfl
  generalize f.setQp i _ = g at hset hdue' ⊢
  have hnvme := hset.toStep.nvme_eq (by decide)
  have hsweep := g.cancelled_sweep s.nvme.nextCmd
  have hqp : ∀ j, (g.sweep s.nvme.nextCmd).qp j = g.qp j := fun j => congrArg (fun r => r.qps.get {} j) (hsweep.step.rdma_eq (by decide))
  refine ⟨((henter.step.mono (by decide) (List.Subset.refl _) (List.nil_subset _)).trans
      (hset.toStep.mono (by decide) (List.Subset.refl _) (List.nil_subset _))).trans (hsweep.step.mono (by decide) (List.Subset.refl _) (List.Subset.refl _)),
    ?_, fun j hj => ?_, fun j => ?_, fun j hj => ?_, ?_⟩
  · rw [hqp, hset.self, henter.qps, if_pos rfl]
  · rw [hqp, hset.other j hj, henter.qps, if_neg (fun e => hj (CmdSource.fabric.inj e).symm)]
  · rw [hsweep.ctrls, Dev.ctrl, hnvme]
    exact congrArg Option.isSome (hctrl j)
  · rw [Dev.cmd_sweep_other _ hj, Dev.cmd, hnvme]
    exact henter.cmd_other hj
  · exact ((g.passes_sweep _).due.trans_eq hdue').trans_eq hdue

/-- What a Disconnect leaves: the queue's commands are cancelled before its own completes (04 R180, R183). -/
structure Dev.Disconnects (i cid : Nat) (a b : Dev) : Prop where
  step : Dev.Step [.rdma, .nvme, .ldg, .ten, .evr] [] cancelCtrs a b
  self : b.qp i = { a.qp i with inUse := (a.qp i).inUse - 1, closing := some false, sendQ := (a.qp i).sendQ ++ [{ cmd := a.nvme.nextCmd, cid := cid, status := 0 }] }
  other : ∀ j, j ≠ i → b.qp j = a.qp j
  ctrls : ∀ j, (b.ctrl j).isSome = (a.ctrl j).isSome
  overs : ∀ j, j ≠ a.nvme.nextCmd → ((b.cmd j).all (fun x => x.src != .fabric i || x.completed || x.cancelled)) = true
  due : b.eventsDue ≤ a.eventsDue

theorem Dev.disconnects_lastSent (i k cid : Nat) : Dev.Disconnects i cid s ((s.cancelQueue i).lastSent i k cid) := by
  have hcancel : Dev.Cancelled s (s.cancelQueue i) := s.cancelled_foldl _
  have hpass : Dev.Passes s (s.cancelQueue i) := s.passes_cancelWhere _
  have hover : ∀ j, (((s.cancelQueue i).cmd j).all (fun x => x.src != .fabric i || x.completed || x.cancelled)) = true := fun j => by
    refine s.cmd_cancelWhere _ (fun x hx => ?_) (.inr fun x _ hq => ?_)
    · rw [Bool.or_assoc]
      exact (congrArg (_ || ·) hx).trans (Bool.or_true _)
    · simpa using (Bool.or_eq_false_iff.mp (Bool.or_eq_false_iff.mp hq).1).1
  have hqp : ∀ j, (s.cancelQueue i).qp j = s.qp j := fun j => congrArg (fun r => r.qps.get {} j) (s.cancelWhere_rdma _)
  have hsent := (s.cancelQueue i).lastSent_spec i k cid
  refine ⟨(hcancel.step.mono (by decide) (List.Subset.refl _) (List.Subset.refl _)).trans hsent.step, ?_, fun j hj => ?_, fun j => ?_, fun j hj => ?_,
    hsent.due.trans hpass.due⟩
  · rw [hsent.self, hqp, hpass.next]
  · rw [hsent.other j hj, hqp]
  · rw [hsent.ctrls, hcancel.ctrls]
  · rw [hsent.cmds j (hpass.next ▸ hj)]
    exact hover j

end Disconnecting

section AssociationEnds

variable {s : State} {i k : Nat} {c : Ctrl} {cid : BitVec 16}

theorem Dev.comesTo_fabric {d : Dev} (h : d.comesTo (.fabric i) = some k) : (d.ctrl k).isSome = true := by
  unfold Dev.comesTo at h
  split at h
  · cases h
  · dsimp only at h
    split at h
    · exact (Option.filter_eq_some_iff.mp h).2
    · cases h

theorem Dev.qid_newCmd_cancelQueue (d : Dev) (i k cid : Nat) : (((d.cancelQueue i).newCmd (.fabric i) k cid Cmd.disconnected).2.qp i).qid = (d.qp i).qid := by
  have hqp : (d.cancelQueue i).qp i = d.qp i := congrArg (fun r => r.qps.get {} i) (d.cancelWhere_rdma _)
  rw [((d.cancelQueue i).enters_newCmd k cid keepsSource_disconnected).qps, if_pos rfl, hqp]

/-- A Disconnect on an I/O queue. -/
theorem disconnect_io_run (hk : s.dev.comesTo (.fabric i) = some k) (hq : (s.dev.qp i).qid ≠ 0) :
    exec (.disconnect i cid) s = s.run (fun _ => (s.dev.quiet.cancelQueue i).lastSent i k cid.toNat) := by
  have hk' : s.dev.quiet.comesTo (.fabric i) = some k := hk
  have hqid := s.dev.quiet.qid_newCmd_cancelQueue i k cid.toNat
  refine (show exec (.disconnect i cid) s = s.run (fun d => _) from rfl).trans (State.run_eq_of_quiet ?_)
  simp only [hk']
  exact if_neg fun h => hq (hqid.symm.trans h)

/-- A Disconnect on the admin queue ends the association besides. -/
theorem disconnect_admin_run (hk : s.dev.comesTo (.fabric i) = some k) (hq : (s.dev.qp i).qid = 0) :
    exec (.disconnect i cid) s = s.run (fun _ => (((s.dev.quiet.cancelQueue i).lastSent i k cid.toNat).setQp i
      { ((s.dev.quiet.cancelQueue i).lastSent i k cid.toNat).qp i with ctrl := none }).endAssociation k) := by
  have hk' : s.dev.quiet.comesTo (.fabric i) = some k := hk
  have hqid := s.dev.quiet.qid_newCmd_cancelQueue i k cid.toNat
  refine (show exec (.disconnect i cid) s = s.run (fun d => _) from rfl).trans (State.run_eq_of_quiet ?_)
  simp only [hk']
  exact if_pos (hqid.trans hq)

theorem disconnect_admin_answers (hk : s.dev.comesTo (.fabric i) = some k) (hq : (s.dev.qp i).qid = 0) :
    Answers (.disconnect i cid) s (fun t => (t.dev.ctrl k).isNone = true ∧ (t.dev.qp i).closing.isSome = true ∧ (t.dev.qp i).ctrl = none ∧
      (t.dev.qp i).sendQ = (s.dev.qp i).sendQ ++ [{ cmd := s.dev.nvme.nextCmd, cid := cid.toNat, status := 0 }] ∧ (s.hears .ln → s.toldOf t .ln 0x201) ∧
      Dev.OnlyChanged [.rdma, .nvme, .ldg, .ten, .evr, .sw, .fresh] [] [.FE_CMD_CANCELLED, .LDG_REC_ABANDONED] s.dev t.dev) := by
  have hrun := disconnect_admin_run (cid := cid) hk hq
  have hdisc := s.dev.quiet.disconnects_lastSent i k cid.toNat
  have hctrl := (hdisc.ctrls k).trans (Dev.comesTo_fabric (d := s.dev.quiet) hk)
  have hself := hdisc.self
  generalize (s.dev.quiet.cancelQueue i).lastSent i k cid.toNat = e at hrun hdisc hctrl hself
  obtain ⟨x, hx⟩ := Option.isSome_iff_exists.mp hctrl
  have hset := Dev.QpStep.setQp (ps := queueParts) (cs := cancelCtrs) e i { e.qp i with ctrl := none } (by decide)
  have hends := (e.setQp i { e.qp i with ctrl := none }).ends_endAssociation (show (e.setQp i { e.qp i with ctrl := none }).ctrl k = some x from hx)
  have hdue : (e.setQp i { e.qp i with ctrl := none }).eventsDue = e.eventsDue := rfl
  generalize e.setQp i { e.qp i with ctrl := none } = f at hrun hset hends hdue
  have hstep : Dev.Step queueParts [] cancelCtrs s.dev.quiet f :=
    (hdisc.step.mono (by decide) (List.Subset.refl _) (List.Subset.refl _)).trans hset.toStep
  obtain ⟨hsend, hctrl', hclosing⟩ := hends.closing i (by rw [hset.self, hself]; simp) (by rw [hset.self, hself]; rfl)
  obtain ⟨g, n, hlen, hnow, hload, htold⟩ := hends.told
  refine .of_run hrun ⟨?_, ?_, ?_, ?_, fun hh => ?_, (hstep.trans hends.step).after⟩
  · rw [State.after_ctrl, hends.gone]
    rfl
  · rw [State.after_qp]
    exact hclosing
  · rw [State.after_qp, hctrl', hset.self]
  · rw [State.after_qp, hsend, hset.self, hself]
    rfl
  · have hone : g.raised.length < 16 := by
      have h1 : s.dev.quiet.eventsDue ≤ 1 := by
        show 0 + s.dev.quiet.ten.meter.keyNext.isSome.toNat ≤ 1
        rw [Nat.zero_add]
        exact Bool.toNat_le _
      have h2 := hdisc.due
      omega
    exact (State.told_of_prefix hone htold (hnow.trans (hstep.nowOn (by decide) .ln)) (hload.trans (hstep.timeLoaded_eq (by decide))) hh).toldOf

/-- A keep-alive timer that has expired ends the association (04 R161, R180). -/
theorem keepAliveExpiry_answers (hf : s.dev.frontUp = true) (hq : s.dev.mode.quiesced = false) (hc : s.dev.ctrl k = some c)
    (hka : c.kind ≠ .pcie ∧ c.kato ≠ 0) (hover : c.kaAt + c.kato * 1000000 < s.dev.nowOn .ln) :
    Answers (.keepAliveExpiry k) s (fun t => (t.dev.ctrl k).isNone = true ∧ t.dev.ctr .FE_KA_EXPIRED = (s.dev.ctr .FE_KA_EXPIRED + 1) % 2 ^ 64 ∧
      (s.hears .ln → s.told t .ln 0x203 (le 2 (k + 1))) ∧ (∀ j, ((t.dev.cmd j).all (fun x => x.ctrl != k || x.completed || x.cancelled)) = true) ∧
      Dev.OnlyChanged [.rdma, .nvme, .ldg, .ten, .evr, .sw, .fresh] [] [.FE_KA_EXPIRED, .FE_CMD_CANCELLED, .LDG_REC_ABANDONED] s.dev t.dev) := by
  have hexp : s.dev.expired .ln c.kaAt (c.kato * ms) = true := decide_eq_true hover
  have hrun : exec (.keepAliveExpiry k) s =
      s.run (fun _ => ((s.dev.quiet.count .FE_KA_EXPIRED).event .ln 0x203 (le 2 (k + 1))).endAssociation k) := by
    have hc' : s.dev.quiet.ctrl k = some c := hc
    have hexp' : s.dev.quiet.expired .ln c.kaAt (c.kato * ms) = true := hexp
    refine State.runIf_eq_of_quiet (by simp [hf, hq]) ?_
    simp only [hc', hka.1, hka.2, hexp', Bool.not_true, Bool.false_eq_true, or_self, if_false]
  have hcount : Dev.Step queueParts [] [.FE_KA_EXPIRED, .FE_CMD_CANCELLED, .LDG_REC_ABANDONED] s.dev.quiet
      ((s.dev.quiet.count .FE_KA_EXPIRED).event .ln 0x203 (le 2 (k + 1))) := (Dev.Step.count _ _ _ _ (by decide)).trans (.event _ _ _ _ _)
  have hends := ((s.dev.quiet.count .FE_KA_EXPIRED).event .ln 0x203 (le 2 (k + 1))).ends_endAssociation hc
  refine .of_run hrun ⟨?_, ?_, fun hh => ?_, fun j => ?_, (hcount.trans (hends.step.mono (List.Subset.refl _) (List.Subset.refl _) (by decide))).after⟩
  · rw [State.after_ctrl, hends.gone]
    rfl
  · rw [State.after_ctr _ _ _ (by decide), hends.step.ctr (by decide) (by decide)]
    exact Dev.ctr_count_self ..
  · exact State.told_of_prefix (e := s.dev.quiet.count .FE_KA_EXPIRED) (show 0 < 16 by decide) hends.step.raised rfl rfl hh
  · rw [State.after_cmd]
    exact hends.overs j

end AssociationEnds

end Sys2Proof.Machine

/-!
PROOF. O21, the outcomes of Connect and of the property commands (04 R144-R147, R157-R183).
-/
namespace Sys2Proof.Machine

section Answers

variable {s : State} {i k : Nat} {cid : BitVec 16} {c : ConnectArgs}

/-- What a refused Connect answers (04 R146). -/
theorem connectRefused_answers {check st n v : Nat} {dw0 : Option Nat}
    (hrun : exec (.connect i cid c) s = s.run (fun _ => ((({ s.dev.quiet with fresh := n }.count .FE_CONNECT_REFUSED).event .ln 0x202
      (le 2 ((s.dev.hostOf c.hostNqn).getD 0xFFFF) ++ le 1 check)).newCmd (.fabric i) noCtrl cid.toNat (Cmd.connectFailed st v)).2))
    (hv : (dw0.all (fun w => v == w)) = true) :
    Answers (.connect i cid c) s (fun t => s.entered t (.fabric i) (fun x => x.status = some st ∧ (dw0.all (fun v => x.dw0 == v)) = true ∧ x.cid = cid.toNat) ∧
      t.dev.nvme.ctrls = s.dev.nvme.ctrls ∧ t.dev.ctr .FE_CONNECT_REFUSED = (s.dev.ctr .FE_CONNECT_REFUSED + 1) % 2 ^ 64 ∧
      (s.hears .ln → s.told t .ln 0x202 (le 2 ((s.dev.hostOf c.hostNqn).getD 0xFFFF) ++ le 1 check)) ∧
      Dev.OnlyChanged [.rdma, .nvme, .fresh] [] [.FE_CONNECT_REFUSED] s.dev t.dev) := by
  have hcount : Dev.Step [.rdma, .nvme, .fresh] [] [.FE_CONNECT_REFUSED] s.dev.quiet ({ s.dev.quiet with fresh := n }.count .FE_CONNECT_REFUSED) :=
    (Dev.Step.fresh _ n (by decide)).trans (.count _ _ _ _ (by decide))
  have hctr : ({ s.dev.quiet with fresh := n }.count .FE_CONNECT_REFUSED).ctr .FE_CONNECT_REFUSED = (s.dev.ctr .FE_CONNECT_REFUSED + 1) % 2 ^ 64 :=
    Dev.ctr_count_self ..
  have hnvme : ({ s.dev.quiet with fresh := n }.count .FE_CONNECT_REFUSED).nvme = s.dev.nvme := rfl
  have hrdma : ({ s.dev.quiet with fresh := n }.count .FE_CONNECT_REFUSED).rdma = s.dev.rdma := rfl
  have hraised : ({ s.dev.quiet with fresh := n }.count .FE_CONNECT_REFUSED).raised = [] := rfl
  generalize { s.dev.quiet with fresh := n }.count .FE_CONNECT_REFUSED = e at hcount hctr hrun hnvme hrdma hraised
  generalize hx : le 2 ((s.dev.hostOf c.hostNqn).getD 0xFFFF) ++ le 1 check = x at hrun ⊢
  have hstep := hcount.trans (.event e .ln 0x202 x 0)
  have henter := (e.event .ln 0x202 x).enters_newCmd (src := .fabric i) noCtrl cid.toNat (keepsSource_connectFailed st v)
  have hctrls := (e.event .ln 0x202 x).newCmd_nvme (src := .fabric i) noCtrl cid.toNat (Cmd.connectFailed st v)
  have hctrs := henter.step.ctr (e := .FE_CONNECT_REFUSED) List.not_mem_nil (by decide) 0
  refine .of_run hrun ⟨henter.entered_of hnvme hrdma ⟨rfl, hv, rfl⟩, ?_, ?_, fun hh => ?_,
    (hstep.trans (henter.step.mono (by decide) (List.Subset.refl _) (List.nil_subset _))).after⟩
  · rw [State.after_nvme, hctrls]
    show e.nvme.ctrls = s.dev.nvme.ctrls
    rw [hnvme]
  · rw [State.after_ctr _ _ _ (by decide), hctrs]
    exact hctr
  · exact State.told_of_prefix (hraised ▸ (by decide : ([] : List Occ).length < 16)) henter.step.raised (hcount.nowOn (by decide) .ln)
      (hcount.timeLoaded_eq (by decide)) hh

/-- The value of a property, none where the offset names none (04 Properties). -/
def propertyValue (c : Ctrl) : Nat → Option Nat
  | 0x00 => some capValue
  | 0x08 => some 0x00020000
  | 0x14 => some c.cc
  | 0x1C => some (cstsOf c)
  | _ => none

/-- A Property Get as it is answered. -/
def Cmd.propertyRead (v : Option Nat) (c : Cmd) : Cmd := { c with opcode := 0x7F, status := some (if v.isSome then 0 else stField), dw0 := v.getD 0 }

theorem keepsSource_propertyRead (v : Option Nat) : KeepsSource (Cmd.propertyRead v) := fun _ => ⟨rfl, rfl⟩

theorem propertyValue_status (c : Ctrl) (offset : Nat) :
    some (if (propertyValue c offset).isSome then 0 else stField) =
      some (if offset = 0x00 ∨ offset = 0x08 ∨ offset = 0x14 ∨ offset = 0x1C then 0 else 0x002) ∧
    (propertyValue c offset).getD 0 =
      if offset = 0x00 then capValue else if offset = 0x08 then 0x00020000 else if offset = 0x14 then c.cc else if offset = 0x1C then cstsOf c else 0 := by
  unfold propertyValue
  split
  · exact ⟨rfl, rfl⟩
  · exact ⟨rfl, rfl⟩
  · exact ⟨rfl, rfl⟩
  · exact ⟨rfl, rfl⟩
  · simp_all [stField]

/-- A command that writes one controller and nothing else. -/
theorem ctrlWritten_answers {x : Instr} {y : Ctrl} (hrun : exec x s = s.run (fun _ => s.dev.quiet.setCtrl k y)) :
    Answers x s (fun t => t.dev.ctrl k = some y ∧ (∀ j, j ≠ k → t.dev.ctrl j = s.dev.ctrl j) ∧ t.dev.nvme.cmds = s.dev.nvme.cmds ∧
      Dev.OnlyChanged [.nvme] [] [] s.dev t.dev) := by
  have hstep : Dev.Step [.nvme] [] [] s.dev.quiet (s.dev.quiet.setCtrl k y) := .nvme _ _ (by decide)
  refine .of_run hrun ⟨(State.after_ctrl k).trans (s.dev.quiet.ctrl_setCtrl_self k y),
    fun j hj => (State.after_ctrl j).trans (s.dev.quiet.ctrl_setCtrl_other y hj), ?_, hstep.after⟩
  rw [State.after_nvme]
  rfl

end Answers

/-- Settles O21: a Connect's outcome is its first failing check; CC's write starts or resets its controller; an association's end cancels what is its. -/
theorem controllersAndProperties : Obligations.ControllersAndProperties := by
  unfold Obligations.ControllersAndProperties
  refine ⟨?connectAdmin, ?connectIo, ?connectRefused, fun _ _ _ _ _ _ => enable_answers, fun _ _ _ _ _ _ => disable_answers, ?propertyGet, ?ready,
    ?shutdownDone, ?disconnectIo, fun _ _ _ _ => disconnect_admin_answers, ?keepAlive, fun _ _ _ => keepAliveExpiry_answers⟩
  case connectAdmin =>
    intro s qp k h cid c hf hq hqid hok hh hsub hk
    have hrun := connect_admin_run (cid := cid) hf hq hqid hok hh hsub hk
    have hself' : ((s.dev.quiet.setCtrl k (s.dev.madeCtrl qp h c)).event .ln 0x200 (le 2 (k + 1) ++ le 2 h)).ctrl k = some (s.dev.madeCtrl qp h c) :=
      s.dev.quiet.ctrl_setCtrl_self k _
    have hother' : ∀ j, j ≠ k → ((s.dev.quiet.setCtrl k (s.dev.madeCtrl qp h c)).event .ln 0x200 (le 2 (k + 1) ++ le 2 h)).ctrl j = s.dev.ctrl j :=
      fun j hj => s.dev.quiet.ctrl_setCtrl_other _ hj
    have hstep : Dev.Step [.nvme] [] [] s.dev.quiet ((s.dev.quiet.setCtrl k (s.dev.madeCtrl qp h c)).event .ln 0x200 (le 2 (k + 1) ++ le 2 h)) :=
      (Dev.Step.nvme s.dev.quiet _ (by decide)).trans (.event _ _ _ _ _)
    have hraised : (s.dev.quiet.event .ln 0x200 (le 2 (k + 1) ++ le 2 h)).raised <+:
        ((s.dev.quiet.setCtrl k (s.dev.madeCtrl qp h c)).event .ln 0x200 (le 2 (k + 1) ++ le 2 h)).raised := List.prefix_rfl
    refine ((Dev.joins_joined _ qp k h cid.toNat).answers hstep rfl hrun).imp fun t ht => ?_
    obtain ⟨hctrl, hself, hother, hlast, hlen, htold, hframe⟩ := ht
    exact ⟨⟨_, (hctrl k).trans hself', rfl, rfl, rfl, rfl, rfl, rfl, rfl, rfl⟩, fun j hj => (hctrl j).trans (hother' j hj), hself, hother, hlast, hlen,
      fun hh => htold _ _ hh hraised, hframe⟩
  case connectIo =>
    intro s qp k h cid c x hf hq hqid hok hh hk hx
    have hrun := connect_io_run (cid := cid) hf hq hqid hok hh hk hx
    have hself' := s.dev.quiet.ctrl_setCtrl_self k { x with ioConnected := true }
    have hstep : Dev.Step [.nvme] [] [] s.dev.quiet (s.dev.quiet.setCtrl k { x with ioConnected := true }) := .nvme s.dev.quiet _ (by decide)
    refine ((Dev.joins_joined _ qp k h cid.toNat).answers hstep rfl hrun).imp fun t ht => ?_
    obtain ⟨hctrl, hself, hother, hlast, -, -, hframe⟩ := ht
    exact ⟨(hctrl k).trans hself', fun j hj => (hctrl j).trans (s.dev.quiet.ctrl_setCtrl_other _ hj), hself, hlast, hother, hframe⟩
  case connectRefused =>
    intro s qp check st dw0 cid c hf hq hqid hbad
    obtain ⟨n, v, hrun, hv⟩ := connect_refused_run (cid := cid) hf hq hqid hbad
    exact connectRefused_answers hrun hv
  case propertyGet =>
    intro s src k c cid offset ha hk
    refine admin_answered rfl ha ?_ (s.dev.quiet.enters_newCmd (src := src) k cid.toNat (keepsSource_propertyRead (propertyValue c offset)))
      ⟨rfl, (propertyValue_status c offset).1, (propertyValue_status c offset).2⟩
    rw [if_neg hk]
    rfl
  case ready =>
    intro s k c hf hc he
    have hc' : s.dev.quiet.ctrl k = some c := hc
    have hno : ¬(c.enableAt.isNone = true ∨ c.cc % 2 = 0 ∨ c.cfs = true) := by simp [he.1, he.2.1, he.2.2]
    refine ctrlWritten_answers (State.runIf_eq_of_quiet hf ?_)
    simp only [hc']
    exact if_neg hno
  case shutdownDone =>
    intro s k c hf hc hs hall
    have hc' : s.dev.quiet.ctrl k = some c := hc
    have hno : ¬(c.shutdownAt.isNone = true ∨ s.dev.quiet.nvme.cmds.any (fun x => x.ctrl == k && x.sqid != 0 && !x.finished) = true) := by
      have hany : s.dev.nvme.cmds.any (fun x => x.ctrl == k && x.sqid != 0 && !x.finished) = false := by
        rw [List.any_eq_not_all_not, Bool.not_eq_false', ← hall]
        exact congrArg (List.all _) (funext fun x => by cases x.finished <;> simp [bne, Bool.or_comm])
      simp [hs, hany]
    refine ctrlWritten_answers (State.runIf_eq_of_quiet hf ?_)
    simp only [hc']
    exact if_neg hno
  case disconnectIo =>
    intro s qp k cid hk hq
    have hdisc := s.dev.quiet.disconnects_lastSent qp k cid.toNat
    refine .of_run (disconnect_io_run hk hq) ⟨(State.after_qp _).trans hdisc.self, fun j hj => (State.after_qp j).trans (hdisc.other j hj), fun j => ?_,
      fun j hj => ?_, hdisc.step.after⟩
    · rw [State.after_ctrl]
      exact hdisc.ctrls j
    · rw [State.after_cmd]
      exact hdisc.overs j hj
  case keepAlive =>
    intro s k c src cid ha
    obtain ⟨⟨q, hq⟩, -⟩ := s.dev.quiet.newCmd_setCtrl (s.dev.quiet.leadsTo_of_adminAt ha) { c with kaAt := s.dev.nowOn .ln } cid.toNat
      (Cmd.answered · 0 0 [] .none false)
    have henter := ((s.dev.quiet.setCtrl k { c with kaAt := s.dev.nowOn .ln }).enters_answerCmd src k cid.toNat 0 0 [] .none false).setCtrl
    refine (admin_answers (i := .keepAlive src cid) (Q := fun t => ∃ x, t.dev.ctrl k = some x ∧ x.kaAt = s.dev.nowOn .ln ∧ x.kato = c.kato) rfl ha rfl
      henter ⟨rfl, rfl⟩ ?_).imp fun t ⟨henter, hctrl, hframe⟩ => ⟨hctrl, henter, hframe⟩
    exact ⟨_, (State.after_ctrl k).trans hq, rfl, rfl⟩

end Sys2Proof.Machine

/-!
PROOF. A command at work on its volume (04 R176; 08 R329, R335-R338): what gathering its blocks changes of the commands is what each has in hand, and of the
volumes its own.
-/
namespace Sys2Proof.Machine

section Steps

variable {ps : List DevPart} {xs : List Fld} {cs : List Ctr} {a b c : Dev}

theorem Dev.Step.store (s : Dev) (x : Store) (h : .store ∈ ps) : Dev.Step ps xs cs s { s with store := x } :=
  .ofParts (fun p hp => by cases p with | store => exact absurd h hp | _ => rfl) rfl rfl rfl rfl rfl rfl

/-- Counters counted one after another. -/
theorem Dev.Step.countXts (s : Dev) (n : Nat) (h : .CX_XTS_UNITS ∈ cs) : Dev.Step ps xs cs s (s.countXts n) := .ite (fun _ => .refl s) (fun _ => .count s _ _ _ h)

end Steps

section Gathering

variable (s : Dev) {a b c : Dev} {v : Nat}

/-- A command but for what it has in hand and whether it still reads. -/
def Cmd.core (c : Cmd) : Cmd := { c with hand := [], gathered := false, reading := 0 }

theorem Cmd.id_of_core {x y : Cmd} (h : y.core = x.core) : y.id = x.id :=
  have k := congrArg Cmd.id h
  k

theorem Cmd.vol_of_core {x y : Cmd} (h : y.core = x.core) : y.vol = x.vol :=
  have k := congrArg Cmd.vol h
  k

/-- The counters that a command at work on its volume may advance. -/
def gatherCtrs : List Ctr := [.JOB_RS_WAITS, .PAR_RECON_ROWS, .PAR_REPAIR_WRITES, .PAR_BB_ADDED, .DRV_MCMD_ISSUED, .LDG_REC_OPENED, .LDG_REC_COMMITTED,
  .CX_XTS_UNITS]

/-- The parts it may change. -/
def gatherParts : List DevPart := [.nvme, .store, .ldg]

/-- A step of a command at work on the volume `v`. -/
structure Dev.Works (v : Nat) (a b : Dev) : Prop where
  step : Dev.Step gatherParts [] gatherCtrs a b
  rest : { b.nvme with cmds := [] } = { a.nvme with cmds := [] }
  ids : b.nvme.cmds.map Cmd.id = a.nvme.cmds.map Cmd.id
  cores : ∀ j, (b.cmd j).map Cmd.core = (a.cmd j).map Cmd.core
  vols : ∀ u, u ≠ v → b.vol u = a.vol u
  clearing : (b.vol v).clearing = (a.vol v).clearing

namespace Dev.Works

theorem refl (s : Dev) : Dev.Works v s s := ⟨.refl s, rfl, rfl, fun _ => rfl, fun _ _ => rfl, rfl⟩

theorem trans (h : Dev.Works v a b) (k : Dev.Works v b c) : Dev.Works v a c where
  step := h.step.trans k.step
  rest := k.rest.trans h.rest
  ids := k.ids.trans h.ids
  cores j := (k.cores j).trans (h.cores j)
  vols u hu := (k.vols u hu).trans (h.vols u hu)
  clearing := k.clearing.trans h.clearing

theorem ite {p : Prop} [Decidable p] (hb : p → Dev.Works v a b) (hc : ¬p → Dev.Works v a c) : Dev.Works v a (if p then b else c) := by
  split
  · exact hb ‹_›
  · exact hc ‹_›

theorem foldl {α : Type} {f : Dev → α → Dev} (h : ∀ s x, Dev.Works v s (f s x)) (l : List α) : ∀ s, Dev.Works v s (l.foldl f s) :=
  foldl_within refl trans h l

/-- A step that leaves the front end and the volumes. -/
theorem still (h : Dev.Step gatherParts [] gatherCtrs a b) (hn : b.nvme = a.nvme) (hv : b.store.vols = a.store.vols) : Dev.Works v a b :=
  ⟨h, hn ▸ rfl, hn ▸ rfl, fun _ => by rw [Dev.cmd, hn]; rfl, fun u _ => congrArg (fun (t : Table Volume) => t.get {} u) hv,
    congrArg (fun (t : Table Volume) => (t.get {} v).clearing) hv⟩

theorem count (s : Dev) (e : Ctr) (i n : Nat) (h : e ∈ gatherCtrs) : Dev.Works v s (s.count e i n) := still (.count s e i n h) rfl rfl

theorem countXts (s : Dev) (n : Nat) : Dev.Works v s (s.countXts n) := .ite (fun _ => .refl s) (fun _ => count s _ _ _ (by decide))

theorem event (s : Dev) (d : Die) (id : Nat) (x : List Byte) (k : Nat) : Dev.Works v s (s.event d id x k) := still (.event s d id x k) rfl rfl

theorem eventIf (s : Dev) (b : Bool) (d : Die) (id : Nat) (x : List Byte) (k : Nat) : Dev.Works v s (s.eventIf b d id x k) := by
  cases b
  · exact refl s
  · exact event s d id x k

theorem emit (s : Dev) (o : Out) : Dev.Works v s (s.emit o) := still (.emit s o) rfl rfl

theorem setPier (s : Dev) (p : Nat) (x : PierStore) : Dev.Works v s (s.setPier p x) := still (.ldg s _ (by decide)) rfl rfl

/-- A change of the volume that leaves what of it is being cleared. -/
theorem setVol (s : Dev) (x : Volume) (h : x.clearing = (s.vol v).clearing) : Dev.Works v s (s.setVol v x) :=
  ⟨.store s _ (by decide), rfl, rfl, fun _ => rfl, fun u hu => s.vol_setVol_other u v x hu, by rw [s.vol_setVol_self]; exact h⟩

theorem memberCmd (s : Dev) (c : MCmd) (hf : c.use ≠ .flush) : Dev.Works v s (s.memberCmd c) := by
  unfold Dev.memberCmd
  extract_lets p epoch c' store s₁ s₂
  have h₁ : Dev.Step gatherParts [] gatherCtrs s s₁ := .store s _ (by decide)
  have h : Dev.Works v s s₂ := still (h₁.trans (.count s₁ .DRV_MCMD_ISSUED _ _ (by decide))) rfl rfl
  clear_value s₂
  split
  · exact absurd ‹_› hf
  · exact h.trans (.emit _ _)
  · exact h.trans (.emit _ _)
  · exact h.trans (.emit _ _)
  · exact h.trans (.ite (fun _ => .emit _ _) (fun _ => .emit _ _))

theorem reservedWrite (s : Dev) (u unit : Nat) (l : List Nat) : Dev.Works v s (s.reservedWrite u unit l) :=
  .foldl (fun s _ => .memberCmd s _ (by simp)) l s

theorem volState (s : Dev) (st : VState) : Dev.Works v s (s.volState v st) := by
  unfold Dev.volState
  exact .ite (fun _ => .refl s) (fun _ => ((Dev.Works.setVol s _ (by rfl)).trans (.event _ _ _ _ _)).trans (.eventIf _ _ _ _ _ _))

theorem settleVol (s : Dev) : Dev.Works v s (s.settleVol v) := by
  unfold Dev.settleVol
  extract_lets x st s₁ src s₂ hadHosts s₃
  have h₂ : Dev.Works v s s₂ := (volState s st).trans (.ite (fun _ => .setVol _ _ (by rfl)) (fun _ => .refl _))
  have h₃ : Dev.Works v s s₃ := h₂.trans (.ite (fun _ => .reservedWrite _ _ _ _) (fun _ => .refl _))
  exact .ite (fun _ => h₃.trans (.eventIf _ _ _ _ _ _)) (fun _ => .refl s)

theorem ledgerWear (s : Dev) (addr len : Nat) : Dev.Works v s (s.ledgerWear addr len) := still (.ldg s _ (by decide)) rfl rfl

theorem appendRec (s : Dev) (p : Nat) (r : IRec) : Dev.Works v s (s.appendRec p r) := by
  unfold Dev.appendRec
  extract_lets pad x n pads off seq r' s₁ ldg s₂
  have h : Dev.Works v s s₂ := (setPier s p _).trans (still (.ldg _ _ (by decide)) rfl rfl)
  clear_value s₂
  exact ((h.trans (ledgerWear _ _ _)).trans (ledgerWear _ _ _)).trans (count _ _ _ _ (by decide))

/-- The commands mapped within their cores. -/
theorem mapCmds (s : Dev) (f : Cmd → Cmd) (h : ∀ c, (f c).core = c.core) :
    Dev.Works v s { s with nvme := { s.nvme with cmds := s.nvme.cmds.map f } } := by
  have hid : ∀ c, (f c).id = c.id := fun c => Cmd.id_of_core (h c)
  refine ⟨.nvme s _ (by decide), rfl, ?_, fun j => ?_, fun _ _ => rfl, rfl⟩
  · exact (List.map_map ..).trans (List.map_congr_left fun c _ => hid c)
  · have hf : (s.nvme.cmds.map f).find? (fun c => c.id == j) = (s.nvme.cmds.find? (fun c => c.id == j)).map f := by
      rw [List.find?_map]
      exact congrArg (Option.map f) (congrArg (fun p => s.nvme.cmds.find? p) (funext fun c => congrArg (· == j) (hid c)))
    show ((s.nvme.cmds.map f).find? (fun c => c.id == j)).map Cmd.core = (s.cmd j).map Cmd.core
    rw [hf, Option.map_map]
    exact congrArg (fun g => (s.cmd j).map g) (funext h)

theorem stageRows (s : Dev) (p : Nat) (r : IRec) : Dev.Works v s (s.stageRows p r) := by
  refine .foldl (fun s y => ?_) _ s
  extract_lets ref d blocks
  refine .foldl (fun s b => ?_) _ s
  extract_lets l x st s₁ fix
  refine (setPier s p _).trans (mapCmds s₁ _ fun c => ?_)
  split <;> rfl

theorem listBlocks (s : Dev) (l : List Nat) : Dev.Works v s (s.listBlocks v l) := by
  unfold Dev.listBlocks
  extract_lets x fresh bad full p s₁ s₂
  have h : Dev.Works v s s₂ := ((setVol s _ (by rfl)).trans (count _ .PAR_BB_ADDED _ _ (by decide))).trans (reservedWrite _ _ _ _)
  exact .ite (fun _ => h.trans (.trans (.event _ _ _ _ _) (settleVol _))) (fun _ => h)

theorem closeRow (s : Dev) (hand : List InHand) (r : RowRef) : Dev.Works v s (s.closeRow v hand r) := by
  unfold Dev.closeRow
  extract_lets d p lost ds row rec' s₁ s₂ s₃ first
  have h₂ : Dev.Works v s s₂ := by
    refine (appendRec s p rec').trans ?_
    dsimp only [s₂]
    split
    · exact (stageRows _ _ _).trans (count _ .LDG_REC_COMMITTED _ _ (by decide))
    · exact .refl _
  exact (h₂.trans (listBlocks _ _)).trans (event _ _ _ _ _)

theorem repairBad (s : Dev) (c : Cmd) : Dev.Works v s (s.repairBad c) := by
  refine .foldl (fun s b => ?_) _ s
  dsimp only
  split
  · refine .ite (fun _ => ?_) (fun _ => .refl s)
    exact ((countXts s _).trans (count _ .PAR_REPAIR_WRITES _ _ (by decide))).trans (memberCmd _ _ (by simp))
  · exact .refl s

/-- A command written over one of the same core. -/
theorem setCmd (s : Dev) {x y : Cmd} (hx : s.cmd y.id = some x) (h : y.core = x.core) : Dev.Works v s (s.setCmd y) := by
  refine ⟨.nvme s _ (by decide), rfl, ?_, fun j => ?_, fun _ _ => rfl, rfl⟩
  · refine (List.map_map ..).trans (List.map_congr_left fun c _ => ?_)
    show (if c.id = y.id then y else c).id = c.id
    split
    · exact (‹c.id = y.id›).symm
    · rfl
  · by_cases hj : j = y.id
    · rw [hj, s.cmd_setCmd_at hx rfl, hx]
      exact congrArg some h
    · rw [Dev.cmd_setCmd_other _ _ hj]

/-- After such steps a command is found where it was, with its core. -/
theorem cmd (h : Dev.Works v a b) {j : Nat} {x : Cmd} (hx : a.cmd j = some x) : ∃ y, b.cmd j = some y ∧ y.core = x.core := by
  have := h.cores j
  rw [hx] at this
  exact Option.map_eq_some_iff.mp this

theorem cmd_none (h : Dev.Works v a b) {j : Nat} (hx : a.cmd j = none) : b.cmd j = none := by
  have := h.cores j
  rw [hx] at this
  exact Option.map_eq_none_iff.mp this

theorem gatherTurn (s : Dev) {c : Cmd} (hc : s.cmd c.id = some c) : Dev.Works c.vol s (s.gatherTurn c) := by
  unfold Dev.gatherTurn
  extract_lets rows full plans broken closable fetch s₁ c₁ recon s₂ s₃
  have h₁ : Dev.Works c.vol s s₁ := .foldl (fun s _ => closeRow s _ _) _ s
  obtain ⟨y, hy, hcore⟩ := h₁.cmd hc
  have hc₁ : c₁ = y := by
    dsimp only [c₁]
    rw [hy, Option.getD_some]
  have hid : c₁.id = c.id := hc₁ ▸ Cmd.id_of_core hcore
  have hcmd : s₁.cmd c₁.id = some c₁ := by rw [hid, hy, hc₁]
  clear_value c₁
  have h₂ : Dev.Works c.vol s₁ s₂ := repairBad s₁ c₁
  obtain ⟨z, hz, hcore₂⟩ := h₂.cmd hcmd
  clear_value s₂
  have hgathered : ({ c₁ with gathered := true } : Cmd).core = z.core := hcore₂.symm
  refine .ite (fun _ => .ite (fun _ => ?_) (fun _ => h₁)) (fun _ => ?_)
  · exact ((h₁.trans h₂).trans (setCmd s₂ (y := { c₁ with gathered := true }) hz hgathered)).trans (count _ .PAR_RECON_ROWS _ _ (by decide))
  · exact (h₁.trans (setCmd s₁ (y := { c₁ with reading := fetch.length }) hcmd rfl)).trans (.foldl (fun s _ => memberCmd s _ (by simp)) _ _)

theorem gatherN (id : Nat) (n : Nat) : ∀ (s : Dev) {c : Cmd}, s.cmd id = some c → Dev.Works c.vol s (s.gatherN id n) := by
  induction n with
  | zero => exact fun s _ _ => .refl s
  | succ n ih =>
    intro s c hc
    unfold Dev.gatherN
    simp only [hc]
    refine .ite (fun _ => .refl s) (fun _ => ?_)
    have hturn := gatherTurn s (c := c) (by rw [s.cmd_id hc]; exact hc)
    obtain ⟨y, hy, hcore⟩ := hturn.cmd hc
    have hvol : y.vol = c.vol := Cmd.vol_of_core hcore
    exact hturn.trans (hvol ▸ ih _ hy)

theorem gather (s : Dev) {id : Nat} {c : Cmd} (hc : s.cmd id = some c) : Dev.Works c.vol s (s.gather id) := by
  unfold Dev.gather
  simp only [hc]
  exact .ite (fun _ => gatherN id 4 s hc) (fun _ => .refl s)

end Dev.Works

end Gathering

section Dispatching

variable (s : Dev) {a b : Dev} {id : Nat} {c : Cmd}

/-- A command dispatched now, held or not. -/
def Cmd.sentOn (c : Cmd) (now : Nat) (held : Bool) : Cmd := { c with dispatched := true, dispatchedAt := now, held := held }

/-- What the dispatch of a command leaves: the others as they were, but for what they have in hand. -/
structure Dev.Dispatches (id v : Nat) (a b : Dev) : Prop where
  step : Dev.Step gatherParts [] gatherCtrs a b
  rest : { b.nvme with cmds := [] } = { a.nvme with cmds := [] }
  ids : b.nvme.cmds.map Cmd.id = a.nvme.cmds.map Cmd.id
  self : ∀ c, a.cmd id = some c → ∃ y, b.cmd id = some y ∧ (y.core = c.core ∧ (c.dispatched = true ∨ c.cancelled = true) ∨
    ∃ now held, y.core = (c.sentOn now held).core)
  others : ∀ j, j ≠ id → (b.cmd j).map Cmd.core = (a.cmd j).map Cmd.core
  vols : ∀ u, u ≠ v → b.vol u = a.vol u
  clearing : (b.vol v).clearing = (a.vol v).clearing

theorem Dev.dispatches_dispatch (hc : s.cmd id = some c) : Dev.Dispatches id c.vol s (s.dispatch id) := by
  unfold Dev.dispatch
  simp only [hc]
  split
  · next hover =>
    refine ⟨.refl s, rfl, rfl, fun d hd => ?_, fun _ _ => rfl, fun _ _ => rfl, rfl⟩
    obtain rfl : c = d := Option.some.inj (hc.symm.trans hd)
    exact ⟨c, hc, .inl ⟨rfl, (Bool.or_eq_true _ _).mp hover⟩⟩
  · generalize ((!s.zoneClear c || s.own.giving.contains c.vol) && (c.op.reads || c.op.writes)) = held
    have hid : c.id = id := s.cmd_id hc
    have hself : (s.setCmd (c.sentOn (s.nowOn .ln) held)).cmd id = some (c.sentOn (s.nowOn .ln) held) := s.cmd_setCmd_at hc hid
    have hwork : Dev.Works c.vol (s.setCmd (c.sentOn (s.nowOn .ln) held)) (if (!s.zoneClear c && held) = true then
        (s.setCmd (c.sentOn (s.nowOn .ln) held)).count .JOB_RS_WAITS ((s.setCmd (c.sentOn (s.nowOn .ln) held)).volPier c.vol)
        else (s.setCmd (c.sentOn (s.nowOn .ln) held)).gather id) :=
      .ite (fun _ => .count _ _ _ _ (by decide)) (fun _ => Dev.Works.gather (c := c.sentOn (s.nowOn .ln) held) _ hself)
    refine ⟨(Dev.Step.nvme s _ (by decide)).trans hwork.step, hwork.rest, ?_, fun d hd => ?_, fun j hj => ?_, hwork.vols, hwork.clearing⟩
    · refine hwork.ids.trans ((List.map_map ..).trans (List.map_congr_left fun e _ => ?_))
      show (if e.id = c.id then c.sentOn (s.nowOn .ln) held else e).id = e.id
      split
      · exact (‹e.id = c.id›).symm
      · rfl
    · obtain rfl : c = d := Option.some.inj (hc.symm.trans hd)
      obtain ⟨y, hy, hcore⟩ := hwork.cmd hself
      exact ⟨y, hy, .inr ⟨_, _, hcore⟩⟩
    · exact (hwork.cores j).trans (congrArg (Option.map Cmd.core) (s.cmd_setCmd_other _ (by rw [show (c.sentOn (s.nowOn .ln) held).id = id from hid]; exact hj)))

end Dispatching

end Sys2Proof.Machine

/-!
PROOF. An I/O command accepted (04 R173, R176): numbered in its namespace, counted, outstanding for its tenant, waiting for the commands it overlaps or
dispatched.
-/
namespace Sys2Proof.Machine

section Accepting

variable (s : Dev) {a b e : Dev} {src : CmdSource} {k : Nat} {c : Cmd}

/-- A command the tracker orders. -/
def Cmd.tracked (c : Cmd) : Bool := c.op.reads || c.op.writes

/-- The commands that one entered in `s` waits for (04 R176). -/
def Dev.waitsFor (s : Dev) (c : Cmd) : List Nat :=
  if c.tracked then (s.nvme.cmds.filter (fun e => e.nsid == c.nsid && !e.finished && e.io && cmdsConflict e c)).map (·.id) else []

/-- Sampling takes this command (15 R609). -/
def Dev.samples (s : Dev) (c : Cmd) : Bool :=
  s.flag .SMP_CTL_EN && match s.fld .SMP_CTL_MATCH with
    | 1 => c.nsid == s.fld .SMP_MATCH_VALUE
    | 2 => c.tenant == s.fld .SMP_MATCH_VALUE
    | _ => true

/-- A command as the tracker keeps it, `waits` before it. -/
def Dev.trackedCmd (s : Dev) (c : Cmd) (waits : List Nat) : Cmd :=
  { c with seq := s.nvme.seqs.get 0 c.nsid + 1, waits := waits, io := true, finished := !c.tracked, waited := !waits.isEmpty
           owner := s.volPier c.vol, entry := if s.nvme.entryAt.isSome then s.nvme.psCmd else none
           sampled := if s.samples c && decide (s.fld .SMP_CTL_PERIOD ≤ s.evr.sampleCount + 1) then some (s.evr.sampleNo + 1) else none }

/-- The sampling's counts after a command. -/
def Dev.sampledOne (s : Dev) (c : Cmd) : Dev :=
  if s.samples c then
    { s with evr := { s.evr with
        sampleCount := if s.samples c && decide (s.fld .SMP_CTL_PERIOD ≤ s.evr.sampleCount + 1) then 0 else s.evr.sampleCount + 1
        sampleNo := s.evr.sampleNo + (s.samples c && decide (s.fld .SMP_CTL_PERIOD ≤ s.evr.sampleCount + 1)).toNat } }
  else s

/-- The counts of a command accepted: one more outstanding for its tenant (04 FE_OUT). -/
def Dev.outstandingOne (s : Dev) (c : Cmd) : Dev :=
  let out := (s.tn c.tenant).outstanding + 1
  (s.setTn c.tenant { s.tn c.tenant with outstanding := out }).meterCount c.tenant (fun r => { r with peak := max r.peak out })

/-- A command entered is given to the tracker, with `waits` before it. -/
def Dev.track (s : Dev) (c : Cmd) (waits : List Nat) : Dev :=
  let d := s.setCmd (s.trackedCmd c waits)
  let d := { d with nvme := { d.nvme with seqs := d.nvme.seqs.put 0 c.nsid (s.nvme.seqs.get 0 c.nsid + 1) } }
  let d := (d.sampledOne c).count .FE_CMD_ACCEPTED
  let d := d.outstandingOne c
  if waits.isEmpty then d else d.count .FE_TRACK_WAITS

/-- The commands that the tracker finds before one just entered are those that were there. -/
theorem Dev.Enters.waitsFor (h : Dev.Enters src c a b) (hn : a.numberFree = true) :
    (if c.op.reads || c.op.writes then
      (b.nvme.cmds.filter (fun e => e.id != a.nvme.nextCmd && e.nsid == c.nsid && !e.finished && e.io && cmdsConflict e c)).map (·.id) else []) =
      a.waitsFor c := by
  have hnew : [c].filter (fun e => e.id != a.nvme.nextCmd && e.nsid == c.nsid && !e.finished && e.io && cmdsConflict e c) = [] := by simp [h.id]
  have hold : a.nvme.cmds.filter (fun e => e.id != a.nvme.nextCmd && e.nsid == c.nsid && !e.finished && e.io && cmdsConflict e c) =
      a.nvme.cmds.filter (fun e => e.nsid == c.nsid && !e.finished && e.io && cmdsConflict e c) :=
    List.filter_congr fun e he => by rw [bne_iff_ne.mpr (a.numberFree_iff.mp hn e he), Bool.true_and]
  rw [h.cmds, List.filter_append, hnew, List.append_nil, hold]
  rfl

theorem Dev.acceptIo_eq (cid : Nat) {f : Cmd → Cmd} (hf : KeepsSource f) (hn : s.numberFree = true) (hc : f (s.blankCmd src k cid) = c)
    (he : (s.newCmd src k cid f).2 = e) :
    (s.acceptIo src k cid f).2 =
      if c.tracked && (s.waitsFor c).isEmpty then (e.track c (s.waitsFor c)).dispatch s.nvme.nextCmd else e.track c (s.waitsFor c) := by
  have henter := s.enters_newCmd (src := src) k cid hf
  rw [hc, he] at henter
  have hcmd := henter.cmd_self hn
  have hwaits := henter.waitsFor hn
  unfold Dev.acceptIo
  simp only [Dev.newCmd_fst, he, hcmd, hwaits]
  rfl

theorem Dev.acceptIo_fst (cid : Nat) (f : Cmd → Cmd) : (s.acceptIo src k cid f).1 = s.nvme.nextCmd := by
  unfold Dev.acceptIo
  dsimp only
  split <;> rfl

/-- The counters of a command accepted that waits for `waits`. -/
def acceptCtrs (waits : List Nat) : List Ctr := if waits.isEmpty then [.FE_CMD_ACCEPTED] else [.FE_CMD_ACCEPTED, .FE_TRACK_WAITS]

/-- What giving a command to the tracker leaves. -/
structure Dev.Tracks (c : Cmd) (waits : List Nat) (a b : Dev) : Prop where
  step : Dev.Step [.nvme, .ten, .evr] [] (acceptCtrs waits) a b
  nvme : b.nvme = { (a.setCmd (a.trackedCmd c waits)).nvme with seqs := a.nvme.seqs.put 0 c.nsid (a.nvme.seqs.get 0 c.nsid + 1) }
  outstanding : (b.tn c.tenant).outstanding = (a.tn c.tenant).outstanding + 1
  counted : b.ctr .FE_CMD_ACCEPTED = (a.ctr .FE_CMD_ACCEPTED + 1) % 2 ^ 64

/-- A tenant's state is not its meter's. -/
theorem Dev.tn_meterCount (t : Nat) (g : MeterRec → MeterRec) (u : Nat) : (s.meterCount t g).tn u = s.tn u := by
  have h := (Dev.Step.meterCount (ps := []) (xs := []) (cs := []) s t g).frame.parts .ten List.not_mem_nil
  have := congrArg (fun x : Tenancy => x.tns.get {} u) h
  exact this

/-- Counting one more outstanding. -/
theorem Dev.outstandingOne_spec (c : Cmd) : Dev.Step [.ten] [] [] s (s.outstandingOne c) ∧ (s.outstandingOne c).nvme = s.nvme ∧
    ((s.outstandingOne c).tn c.tenant).outstanding = (s.tn c.tenant).outstanding + 1 := by
  unfold Dev.outstandingOne
  extract_lets out
  have hset : Dev.Step [.ten] [] [] s (s.setTn c.tenant { s.tn c.tenant with outstanding := out }) := .ten s _ (by decide)
  have hmeter := Dev.Step.meterCount (ps := [.ten]) (xs := []) (cs := []) (s.setTn c.tenant { s.tn c.tenant with outstanding := out }) c.tenant
    (fun r => { r with peak := max r.peak out })
  refine ⟨hset.trans hmeter, hmeter.nvme_eq (by decide), ?_⟩
  rw [Dev.tn_meterCount]
  have : (s.setTn c.tenant { s.tn c.tenant with outstanding := out }).tn c.tenant = { s.tn c.tenant with outstanding := out } := Table.get_put_self ..
  rw [this]

theorem Dev.sampledOne_spec (c : Cmd) : Dev.Step [.evr] [] [] s (s.sampledOne c) ∧ (s.sampledOne c).nvme = s.nvme ∧ (s.sampledOne c).ten = s.ten ∧
    (s.sampledOne c).ctrs = s.ctrs := by
  unfold Dev.sampledOne
  split
  · exact ⟨.evr s _ (by decide), rfl, rfl, rfl⟩
  · exact ⟨.refl s, rfl, rfl, rfl⟩

theorem Dev.tracks_track (c : Cmd) (waits : List Nat) : Dev.Tracks c waits s (s.track c waits) := by
  have hnumbered : Dev.Step [.nvme, .ten, .evr] [] (acceptCtrs waits) s { s.setCmd (s.trackedCmd c waits) with
      nvme := { (s.setCmd (s.trackedCmd c waits)).nvme with seqs := s.nvme.seqs.put 0 c.nsid (s.nvme.seqs.get 0 c.nsid + 1) } } := .nvme s _ (by decide)
  have haccepted : .FE_CMD_ACCEPTED ∈ acceptCtrs waits := by
    unfold acceptCtrs
    split <;> decide
  unfold Dev.track
  extract_lets d₁ x d₂ d₃ d₄
  have h₂ : Dev.Step [.nvme, .ten, .evr] [] (acceptCtrs waits) s d₂ := hnumbered
  obtain ⟨hsample, hsnvme, hsten, hsctrs⟩ := d₂.sampledOne_spec c
  have h₃ : Dev.Step [.nvme, .ten, .evr] [] (acceptCtrs waits) s d₃ :=
    (h₂.trans (hsample.mono (by decide) (List.Subset.refl _) (List.nil_subset _))).trans (.count _ _ _ _ haccepted)
  obtain ⟨hout, honvme, hotn⟩ := d₃.outstandingOne_spec c
  have h₄ : Dev.Step [.nvme, .ten, .evr] [] (acceptCtrs waits) s d₄ := h₃.trans (hout.mono (by decide) (List.Subset.refl _) (List.nil_subset _))
  have hnvme : d₄.nvme = d₂.nvme := honvme.trans hsnvme
  have htn : (d₄.tn c.tenant).outstanding = (s.tn c.tenant).outstanding + 1 := by
    have : d₃.tn c.tenant = s.tn c.tenant := congrArg (fun x : Tenancy => x.tns.get {} c.tenant) hsten
    exact hotn.trans (by rw [this])
  have hctr : d₄.ctr .FE_CMD_ACCEPTED = (s.ctr .FE_CMD_ACCEPTED + 1) % 2 ^ 64 := by
    have h₃c : d₃.ctr .FE_CMD_ACCEPTED = ((d₂.sampledOne c).ctr .FE_CMD_ACCEPTED + 1) % 2 ^ 64 := Dev.ctr_count_self ..
    rw [hout.ctr List.not_mem_nil (by decide), h₃c, Dev.ctr, hsctrs]
    rfl
  clear_value d₄
  split
  · exact ⟨h₄, hnvme, htn, hctr⟩
  · next hw =>
    refine ⟨h₄.trans (.count _ _ _ _ ?_), hnvme, htn, ?_⟩
    · unfold acceptCtrs
      rw [if_neg hw]
      decide
    · rw [Dev.ctr_count_other _ _ (.inl (by decide))]
      exact hctr

end Accepting

end Sys2Proof.Machine

/-!
PROOF. What accepting a command leaves, whether it is dispatched at once or waits (04 R173, R176).
-/
namespace Sys2Proof.Machine

section Accepted

variable (s : Dev) {a b e : Dev} {src : CmdSource} {k n : Nat} {c x y : Cmd}

/-- A command but for what it has in hand and what its stages note of themselves. -/
def Cmd.face (c : Cmd) : Cmd :=
  { c with hand := [], gathered := false, reading := 0, dispatchedAt := 0, held := false, owner := 0, entry := none, sampled := none, waited := false
           checked := false, dataAt := 0, errLba := none }

theorem Cmd.face_of_core (h : y.core = x.core) : y.face = x.face :=
  have k := congrArg Cmd.face h
  k

/-- A command that the tracker has taken behind `waits`. -/
def Cmd.acceptedAs (c : Cmd) (seq : Nat) (waits : List Nat) : Cmd :=
  { c with seq := seq, waits := waits, io := true, finished := !c.tracked, dispatched := c.dispatched || c.tracked && waits.isEmpty }

/-- The parts of a command accepted and not dispatched. -/
def entryParts : List DevPart := [.rdma, .nvme, .ten, .evr]

/-- What accepting the command `c`, as its capsule gives it, leaves (04 R173, R176). -/
structure Dev.Accepts (src : CmdSource) (c : Cmd) (a b : Dev) : Prop where
  step : Dev.Step workParts [] workCtrs a b
  still : (c.tracked && (a.waitsFor c).isEmpty) = false → Dev.Step entryParts [] (acceptCtrs (a.waitsFor c)) a b
  self : ∃ y, b.cmd a.nvme.nextCmd = some y ∧ y.face = (c.acceptedAs (a.nvme.seqs.get 0 c.nsid + 1) (a.waitsFor c)).face
  others : ∀ j, j ≠ a.nvme.nextCmd → (b.cmd j).map Cmd.core = (a.cmd j).map Cmd.core
  rest : { b.nvme with cmds := [], ctrls := [], nextCmd := 0, seqs := [] } = { a.nvme with cmds := [], ctrls := [], nextCmd := 0, seqs := [] }
  ctrls : b.nvme.ctrls = (a.takeCapsule src).nvme.ctrls
  seqs : b.nvme.seqs.get 0 c.nsid = a.nvme.seqs.get 0 c.nsid + 1
  rdma : b.rdma = (a.takeCapsule src).rdma
  outstanding : (b.tn c.tenant).outstanding = (a.tn c.tenant).outstanding + 1
  counted : b.ctr .FE_CMD_ACCEPTED = (a.ctr .FE_CMD_ACCEPTED + 1) % 2 ^ 64

theorem Dev.acceptCtrs_subset (l : List Nat) : acceptCtrs l ⊆ workCtrs := by
  unfold acceptCtrs
  split <;> decide

theorem Dev.tn_of_ten {ps : List DevPart} {xs : List Fld} {cs : List Ctr} (h : Dev.Step ps xs cs a b) (hp : .ten ∉ ps) (t : Nat) : b.tn t = a.tn t :=
  have k := congrArg (fun x : Tenancy => x.tns.get {} t) (h.frame.parts .ten hp)
  k

/-- The tracker's command has the face of the one accepted. -/
theorem Dev.face_trackedCmd (c : Cmd) (l : List Nat) (hl : (c.tracked && l.isEmpty) = false) :
    (s.trackedCmd c l).face = (c.acceptedAs (s.nvme.seqs.get 0 c.nsid + 1) l).face := by
  unfold Dev.trackedCmd Cmd.acceptedAs Cmd.face
  simp only [hl, Bool.or_false]

theorem Dev.face_sentOn (c : Cmd) (l : List Nat) (hl : (c.tracked && l.isEmpty) = true) (now : Nat) (held : Bool) :
    ((s.trackedCmd c l).sentOn now held).face = (c.acceptedAs (s.nvme.seqs.get 0 c.nsid + 1) l).face := by
  unfold Dev.trackedCmd Cmd.acceptedAs Cmd.sentOn Cmd.face
  simp only [hl, Bool.or_true]

theorem Dev.accepts_acceptIo (cid : Nat) {f : Cmd → Cmd} (hf : KeepsSource f) (hn : s.numberFree = true) (hc : f (s.blankCmd src k cid) = c)
    (hd : c.dispatched = false) (hx : c.cancelled = false) : Dev.Accepts src c s (s.acceptIo src k cid f).2 := by
  have henter := s.enters_newCmd (src := src) k cid hf
  have hnvme := s.newCmd_nvme (src := src) k cid f
  have hrdma : (s.newCmd src k cid f).2.rdma = (s.takeCapsule src).rdma := rfl
  have hrun := s.acceptIo_eq (src := src) (k := k) cid hf hn hc rfl
  rw [hc] at henter hnvme
  generalize (s.newCmd src k cid f).2 = e at henter hnvme hrdma hrun
  have htrack := e.tracks_track c (s.waitsFor c)
  have hseqs : e.nvme.seqs = s.nvme.seqs := by rw [hnvme]
  have hid : (e.trackedCmd c (s.waitsFor c)).id = s.nvme.nextCmd := henter.id
  have hself : (e.track c (s.waitsFor c)).cmd s.nvme.nextCmd = some (e.trackedCmd c (s.waitsFor c)) := by
    rw [Dev.cmd, htrack.nvme]
    exact e.cmd_setCmd_at (henter.cmd_self hn) hid
  have hothers : ∀ j, j ≠ s.nvme.nextCmd → (e.track c (s.waitsFor c)).cmd j = s.cmd j := fun j hj => by
    rw [Dev.cmd, htrack.nvme]
    exact (e.cmd_setCmd_other _ (hid ▸ hj)).trans (henter.cmd_other hj)
  have hrest : { (e.track c (s.waitsFor c)).nvme with cmds := [], ctrls := [], nextCmd := 0, seqs := [] } =
      { s.nvme with cmds := [], ctrls := [], nextCmd := 0, seqs := [] } := by
    rw [htrack.nvme, Dev.setCmd, hnvme]
  have hctrls : (e.track c (s.waitsFor c)).nvme.ctrls = (s.takeCapsule src).nvme.ctrls := by
    rw [htrack.nvme, Dev.setCmd, hnvme]
  have hseq : (e.track c (s.waitsFor c)).nvme.seqs.get 0 c.nsid = s.nvme.seqs.get 0 c.nsid + 1 := by
    rw [htrack.nvme, ← hseqs]
    show (e.nvme.seqs.put 0 c.nsid (e.nvme.seqs.get 0 c.nsid + 1)).get 0 c.nsid = _
    rw [Table.get_put_self]
  have hstep : Dev.Step entryParts [] (acceptCtrs (s.waitsFor c)) s (e.track c (s.waitsFor c)) :=
    (henter.step.mono (by decide) (List.Subset.refl _) (List.nil_subset _)).trans (htrack.step.mono (by decide) (List.Subset.refl _) (List.Subset.refl _))
  have hrdma' : (e.track c (s.waitsFor c)).rdma = (s.takeCapsule src).rdma := (htrack.step.rdma_eq (by decide)).trans hrdma
  have hout : ((e.track c (s.waitsFor c)).tn c.tenant).outstanding = (s.tn c.tenant).outstanding + 1 := by
    rw [htrack.outstanding, Dev.tn_of_ten henter.step (by decide)]
  have hctr : (e.track c (s.waitsFor c)).ctr .FE_CMD_ACCEPTED = (s.ctr .FE_CMD_ACCEPTED + 1) % 2 ^ 64 := by
    rw [htrack.counted, henter.step.ctr List.not_mem_nil (by decide)]
  have hwork : Dev.Step workParts [] workCtrs s (e.track c (s.waitsFor c)) := hstep.mono (by decide) (List.Subset.refl _) (Dev.acceptCtrs_subset _)
  rw [hrun]
  split
  · next hgo =>
    have hdis := Dev.dispatches_dispatch _ hself
    obtain ⟨y, hy, hcore⟩ := hdis.self _ hself
    have hface : y.face = (c.acceptedAs (e.nvme.seqs.get 0 c.nsid + 1) (s.waitsFor c)).face := by
      rcases hcore with ⟨-, hbad⟩ | ⟨now, held, hcore⟩
      · exact absurd (hbad.elim (hd ▸ ·) (hx ▸ ·)) Bool.false_ne_true
      · rw [Cmd.face_of_core hcore]
        exact e.face_sentOn c _ hgo now held
    have hnv : { ((e.track c (s.waitsFor c)).dispatch s.nvme.nextCmd).nvme with cmds := [] } = { (e.track c (s.waitsFor c)).nvme with cmds := [] } := hdis.rest
    refine ⟨hwork.trans (hdis.step.mono (by decide) (List.Subset.refl _) (by decide)), fun h => absurd (hgo.symm.trans h) (by decide),
      ⟨y, hy, hseqs ▸ hface⟩, fun j hj => (hdis.others j hj).trans (congrArg (Option.map Cmd.core) (hothers j hj)), ?_, ?_, ?_, ?_, ?_, ?_⟩
    · refine Eq.trans ?_ hrest
      exact congrArg (fun n : Nvme => { n with cmds := [], ctrls := [], nextCmd := 0, seqs := [] }) hnv
    · exact (congrArg (fun n : Nvme => n.ctrls) hnv).trans hctrls
    · exact (congrArg (fun n : Nvme => n.seqs.get 0 c.nsid) hnv).trans hseq
    · exact (hdis.step.rdma_eq (by decide)).trans hrdma'
    · rw [Dev.tn_of_ten hdis.step (by decide)]
      exact hout
    · rw [hdis.step.ctr (by decide) (by decide)]
      exact hctr
  · next hgo =>
    have hgo := Bool.eq_false_iff.mpr hgo
    exact ⟨hwork, fun _ => hstep, ⟨_, hself, hseqs ▸ e.face_trackedCmd c _ hgo⟩, fun j hj => congrArg (Option.map Cmd.core) (hothers j hj), hrest, hctrls,
      hseq, hrdma', hout, hctr⟩

end Accepted

end Sys2Proof.Machine

/-!
PROOF. The data of a command that have come with it, and the tracked I/O command as one effect (04 R189).
-/
namespace Sys2Proof.Machine

section DataComing

variable (s : Dev) {a b d e : Dev} {id : Nat} {c x y : Cmd} {cs : List Ctr}

/-- A command's face but for its status. -/
def Cmd.mien (c : Cmd) : Cmd := { c.face with status := none }

theorem Cmd.mien_of_face (h : y.face = x.face) : y.mien = x.mien :=
  have k := congrArg Cmd.mien h
  k

theorem Cmd.op_of_mien (h : y.mien = x.mien) : y.op = x.op :=
  have k := congrArg Cmd.op h
  k

/-- A step that tends the command `id` alone; its status stays, unless it writes. -/
structure Dev.Tends (id : Nat) (cs : List Ctr) (a b : Dev) : Prop where
  step : Dev.Step [.nvme, .ldg] [] cs a b
  rest : { b.nvme with cmds := [], moved := 0, capAt := 0 } = { a.nvme with cmds := [], moved := 0, capAt := 0 }
  self : ∀ c, a.cmd id = some c → ∃ y, b.cmd id = some y ∧ y.mien = c.mien ∧ (c.op ≠ .write → y.status = c.status)
  others : ∀ j, j ≠ id → b.cmd j = a.cmd j

namespace Dev.Tends

theorem refl (s : Dev) : Dev.Tends id cs s s := ⟨.refl s, rfl, fun c h => ⟨c, h, rfl, fun _ => rfl⟩, fun _ _ => rfl⟩

theorem trans (h : Dev.Tends id cs a b) (k : Dev.Tends id cs b d) : Dev.Tends id cs a d where
  step := h.step.trans k.step
  rest := k.rest.trans h.rest
  self c hc := by
    obtain ⟨x, hx, hmien, hst⟩ := h.self c hc
    obtain ⟨y, hy, kmien, kst⟩ := k.self x hx
    exact ⟨y, hy, kmien.trans hmien, fun hw => (kst (Cmd.op_of_mien hmien ▸ hw)).trans (hst hw)⟩
  others j hj := (k.others j hj).trans (h.others j hj)

/-- The command written over with the same mien. -/
theorem setCmd (s : Dev) {c y : Cmd} (hc : s.cmd id = some c) (hid : y.id = id) (hm : y.mien = c.mien) (hs : c.op ≠ .write → y.status = c.status) :
    Dev.Tends id cs s (s.setCmd y) := by
  refine ⟨.nvme s _ (by decide), rfl, fun d hd => ?_, fun j hj => s.cmd_setCmd_other y (hid ▸ hj)⟩
  obtain rfl : c = d := Option.some.inj (hc.symm.trans hd)
  exact ⟨y, s.cmd_setCmd_at hc hid, hm, hs⟩

/-- A step outside the front end. -/
theorem aside (h : Dev.Step [.nvme, .ldg] [] cs a b) (hn : b.nvme = a.nvme) : Dev.Tends id cs a b :=
  ⟨h, by rw [hn], fun c hc => ⟨c, by rw [Dev.cmd, hn]; exact hc, rfl, fun _ => rfl⟩, fun _ _ => by rw [Dev.cmd, hn]; rfl⟩

theorem capCharge (s : Dev) (n : Nat) : Dev.Tends id cs s (s.capCharge n) := by
  obtain ⟨hstep, -, hcmd⟩ := s.step_capCharge (ps := [.nvme, .ldg]) (xs := []) (cs := cs) (by decide) n
  refine ⟨hstep, ?_, fun c hc => ⟨c, (hcmd id).trans hc, rfl, fun _ => rfl⟩, fun j _ => hcmd j⟩
  unfold Dev.capCharge
  split <;> rfl

theorem capChargeIf (s : Dev) (b : Bool) (n : Nat) : Dev.Tends id cs s (if b then s.capCharge n else s) := by
  split
  · exact .capCharge s n
  · exact .refl s

/-- A write whose protection information fails has its status (04 R189). -/
theorem piFailed (s : Dev) (hc : s.cmd id = some c) (hw : c.op = .write) (hp : .FE_PI_ERR ∈ cs) (st lba : Option Nat) (x : List Byte) :
    Dev.Tends id cs s (((s.count .FE_PI_ERR).event .ln 0x208 x).setCmd { c with status := st, errLba := lba }) := by
  have hcount : Dev.Tends id cs s ((s.count .FE_PI_ERR).event .ln 0x208 x) := aside ((Dev.Step.count s _ _ _ hp).trans (.event _ _ _ _ _)) rfl
  have hcmd : ((s.count .FE_PI_ERR).event .ln 0x208 x).cmd id = some c := hc
  have hid : c.id = id := s.cmd_id hc
  exact hcount.trans (setCmd _ hcmd hid rfl fun hne => absurd hw hne)

/-- The data of a command that is not forwarded have come (04 R189): a write's protection information may fail. -/
theorem dataCame (s : Dev) (hc : s.cmd id = some c) (hl : c.lost = false) (hr : (c.remote && !fromBond c.src) = false)
    (hp : c.op = .write → .FE_PI_ERR ∈ cs) : Dev.Tends id cs s (s.dataCame id) := by
  have hid : c.id = id := s.cmd_id hc
  unfold Dev.dataCame
  simp only [hc]
  split
  · exact .refl s
  · rw [if_neg (hl ▸ Bool.false_ne_true)]
    simp only [hr, Bool.false_eq_true, if_false, Bool.or_false]
    have hrel : Dev.Tends id cs s (s.releaseAccs c) := aside (.ldg s _ (by decide)) rfl
    have hset : Dev.Tends id cs (s.releaseAccs c) ((s.releaseAccs c).setCmd { c with checked := true, dataAt := (s.releaseAccs c).nowOn .ln }) :=
      setCmd _ hc hid rfl fun _ => rfl
    have hcmd : ((s.releaseAccs c).setCmd { c with checked := true, dataAt := (s.releaseAccs c).nowOn .ln }).cmd id =
      some { c with checked := true, dataAt := (s.releaseAccs c).nowOn .ln } := Dev.cmd_setCmd_at _ hc hid
    split
    · exact hrel.trans hset
    · next hw =>
      have hwrite : c.op = .write := by
        simp only [Bool.or_eq_true, bne_iff_ne, ne_eq, not_or, Decidable.not_not] at hw
        exact hw.1
      split
      · exact (hrel.trans hset).trans (piFailed _ hcmd hwrite (hp hwrite) _ _ _)
      · exact hrel.trans hset

end Dev.Tends

end DataComing

section IoQueues

variable (s : Dev) {src : CmdSource} {k : Nat} {c : Ctrl}

/-- What an I/O queue's command finds. -/
theorem Dev.ioAt_iff : s.ioAt src k c = true ↔ s.comesTo src = some k ∧ s.ctrl k = some c ∧ s.srcQid src ≠ 0 ∧ c.kind ≠ .discovery := by
  simp only [Dev.ioAt, Bool.and_eq_true, decide_eq_true_eq, and_assoc]

theorem Dev.onIo_of_ioAt (h : s.ioAt src k c = true) (f : Dev → Nat → Ctrl → Dev) : s.onIo src f = f s k c := by
  obtain ⟨hk, hc, hq, hkind⟩ := s.ioAt_iff.mp h
  simp only [Dev.onIo, hk, hc]
  exact if_pos ⟨hq, hkind⟩

theorem Dev.leadsTo_of_ioAt (h : s.ioAt src k c = true) : LeadsTo src k := s.leadsTo_of_comesTo (s.ioAt_iff.mp h).1

/-- No command comes to a controller over a bond link. -/
theorem Dev.fromBond_of_ioAt (h : s.ioAt src k c = true) : fromBond src = false := by
  have hk := (s.ioAt_iff.mp h).1
  cases src with
  | bond => unfold Dev.comesTo at hk; split at hk <;> cases hk
  | _ => rfl

/-- The data of a command come with it over PCIe. -/
def withData : CmdSource → Bool
  | .fabric _ => false
  | _ => true

/-- A tracked command as its capsule gives it (04 I/O commands). -/
def ioCapsule (s : Dev) (src : CmdSource) (c : Ctrl) (a : IoArgs) (op : CmdOp) (opcode need : Nat) (ranges : List (Nat × Nat)) (data : Block) (x : Cmd) : Cmd :=
  { ioFields s c a op opcode ranges x with
    need := need, asked := if withData src then need else 0, data := if withData src then slice data 0 need else [], checked := need == 0 && op.writes }

theorem keepsSource_ioCapsule (a : IoArgs) (op : CmdOp) (opcode need : Nat) (ranges : List (Nat × Nat)) (data : Block) :
    KeepsSource (ioCapsule s src c a op opcode need ranges data) := fun _ => ⟨rfl, rfl⟩

/-- A command that passes its lookup, on a volume of this package. -/
theorem Dev.ioCommand_accepted {cid opcode len need : Nat} {a : IoArgs} {op : CmdOp} {ranges : List (Nat × Nat)} {data : Block}
    (ha : s.ioAt src k c = true) (hok : s.ioCheck src c a len ranges (some op.writes) = none) (hf : s.foreignVol (s.nsVol (a.nsid - 1)) = false) :
    s.ioCommand src cid a op opcode len need ranges data =
      let r := s.acceptIo src k cid (ioCapsule s src c a op opcode need ranges data)
      let d := if withData src && need != 0 then r.2.capCharge need else r.2
      if withData src then d.dataCame r.1 else d := by
  unfold Dev.ioCommand
  rw [s.onIo_of_ioAt ha]
  simp only [hok, hf, Bool.false_eq_true, if_false]
  cases src <;> rfl

end IoQueues

end Sys2Proof.Machine

/-!
PROOF. An I/O command taken: accepted and tended, as one relation, and what it answers (04 R151-R176).
-/
namespace Sys2Proof.Machine

section Taking

variable (s : Dev) {a b d : Dev} {src : CmdSource} {k : Nat} {x y : Cmd}

/-- A field that a command's mien shows. -/
theorem Cmd.field_of_mien {α : Type} (g : Cmd → α) (hg : ∀ c : Cmd, g c.mien = g c) (h : y.mien = x.mien) : g y = g x :=
  (hg y).symm.trans ((congrArg g h).trans (hg x))

theorem Cmd.field_of_face {α : Type} (g : Cmd → α) (hg : ∀ c : Cmd, g c.face = g c) (h : y.face = x.face) : g y = g x :=
  (hg y).symm.trans ((congrArg g h).trans (hg x))

/-- What an I/O command taken leaves: accepted, and tended where its data came with it. -/
structure Dev.Taken (src : CmdSource) (c : Cmd) (a b : Dev) : Prop where
  step : Dev.Step workParts [] (workCtrs ++ [.FE_PI_ERR]) a b
  reads : c.op ≠ .write → Dev.Step workParts [] workCtrs a b
  self : ∃ y, b.cmd a.nvme.nextCmd = some y ∧ y.mien = (c.acceptedAs (a.nvme.seqs.get 0 c.nsid + 1) (a.waitsFor c)).mien ∧
    (c.op ≠ .write ∨ withData src = false → y.status = c.status)
  seqs : b.nvme.seqs.get 0 c.nsid = a.nvme.seqs.get 0 c.nsid + 1
  rdma : b.rdma = (a.takeCapsule src).rdma
  outstanding : (b.tn c.tenant).outstanding = (a.tn c.tenant).outstanding + 1
  counted : b.ctr .FE_CMD_ACCEPTED = (a.ctr .FE_CMD_ACCEPTED + 1) % 2 ^ 64

theorem Dev.Accepts.taken {c : Cmd} (h : Dev.Accepts src c a b) : Dev.Taken src c a b := by
  obtain ⟨y, hy, hface⟩ := h.self
  have hst : y.status = c.status := Cmd.field_of_face (x := c.acceptedAs _ _) Cmd.status (fun _ => rfl) hface
  exact ⟨h.step.mono (List.Subset.refl _) (List.Subset.refl _) (List.subset_append_left _ _), fun _ => h.step,
    ⟨y, hy, Cmd.mien_of_face hface, fun _ => hst⟩, h.seqs, h.rdma, h.outstanding, h.counted⟩

/-- What is tended after that. -/
theorem Dev.Taken.tend {c : Cmd} {cs : List Ctr} (h : Dev.Taken src c a b) (k : Dev.Tends a.nvme.nextCmd cs b d) (hw : withData src = true)
    (hcs : cs ⊆ workCtrs ++ [.FE_PI_ERR]) (hrd : c.op ≠ .write → cs ⊆ workCtrs) (hpi : .FE_CMD_ACCEPTED ∉ cs) : Dev.Taken src c a d where
  step := h.step.trans (k.step.mono (by decide) (List.Subset.refl _) hcs)
  reads hr := (h.reads hr).trans (k.step.mono (by decide) (List.Subset.refl _) (hrd hr))
  self := by
    obtain ⟨y, hy, hmien, hst⟩ := h.self
    obtain ⟨z, hz, kmien, kst⟩ := k.self y hy
    have hop : y.op = c.op := Cmd.op_of_mien (x := c.acceptedAs _ _) hmien
    refine ⟨z, hz, kmien.trans hmien, fun hr => ?_⟩
    have hne : c.op ≠ .write := hr.resolve_right (by rw [hw]; decide)
    exact (kst (hop ▸ hne)).trans (hst (.inl hne))
  seqs := (congrArg (fun n : Nvme => n.seqs.get 0 c.nsid) k.rest).trans h.seqs
  rdma := (k.step.rdma_eq (by decide)).trans h.rdma
  outstanding := by
    rw [Dev.tn_of_ten k.step (by decide)]
    exact h.outstanding
  counted := by
    rw [k.step.ctr hpi (by decide)]
    exact h.counted

/-- A tracked command that passes its lookup is taken (04 R151-R176). -/
theorem Dev.taken_ioCommand {cid opcode len need : Nat} {a : IoArgs} {op : CmdOp} {ranges : List (Nat × Nat)} {data : Block} {c : Ctrl}
    (ha : s.ioAt src k c = true) (hok : s.ioCheck src c a len ranges (some op.writes) = none) (hf : s.foreignVol (s.nsVol (a.nsid - 1)) = false)
    (hn : s.numberFree = true) : Dev.Taken src (ioCapsule s src c a op opcode need ranges data (s.blankCmd src k cid)) s
      (s.ioCommand src cid a op opcode len need ranges data) := by
  have hacc := s.accepts_acceptIo (src := src) (k := k) cid (keepsSource_ioCapsule s (src := src) (c := c) a op opcode need ranges data) hn rfl rfl rfl
  have hfst : (s.acceptIo src k cid (ioCapsule s src c a op opcode need ranges data)).1 = s.nvme.nextCmd := Dev.acceptIo_fst ..
  rw [s.ioCommand_accepted ha hok hf]
  dsimp only
  rw [hfst]
  generalize (s.acceptIo src k cid (ioCapsule s src c a op opcode need ranges data)).2 = e at hacc
  by_cases hw : withData src = true
  · have hcharge : Dev.Tends s.nvme.nextCmd (if op = .write then [.FE_PI_ERR] else []) e (if withData src && need != 0 then e.capCharge need else e) :=
      .capChargeIf e _ _
    obtain ⟨y, hy, hface⟩ := hacc.self
    obtain ⟨z, hz, hmien, -⟩ := hcharge.self y hy
    have hz' := hmien.trans (Cmd.mien_of_face hface)
    have hlost : z.lost = false := Cmd.field_of_mien Cmd.lost (fun _ => rfl) hz'
    have hremote : z.remote = false := Cmd.field_of_mien Cmd.remote (fun _ => rfl) hz'
    have hop : z.op = op := Cmd.field_of_mien Cmd.op (fun _ => rfl) hz'
    have hcame := Dev.Tends.dataCame (cs := if op = .write then [.FE_PI_ERR] else []) _ hz hlost (by rw [hremote]; rfl)
      fun h => by rw [if_pos (hop.symm.trans h)]; decide
    rw [if_pos hw]
    refine hacc.taken.tend (hcharge.trans hcame) hw ?_ (fun hne => ?_) ?_
    · split <;> simp [workCtrs]
    · have hne' : op ≠ .write := hne
      rw [if_neg hne']
      exact List.nil_subset _
    · split <;> decide
  · have hw : withData src = false := Bool.eq_false_iff.mpr hw
    simp only [hw, Bool.false_and, Bool.false_eq_true, if_false]
    exact hacc.taken

end Taking

section Answers

variable {s : State} {d : Dev} {src : CmdSource} {c : Cmd} {i : Instr}

theorem State.after_tn (t : Nat) : (s.after (fun _ => d)).dev.tn t = d.tn t :=
  have k := congrArg (fun x : Tenancy => x.tns.get {} t) (s.after_same (fun _ => d)).ten
  k

theorem Dev.takeCapsule_mem (s : Dev) : (s.takeCapsule src).rdma.mem = s.rdma.mem := by
  cases src with
  | fabric => rfl
  | pcie fn q =>
    unfold Dev.takeCapsule
    dsimp only
    split <;> rfl
  | bond => rfl

/-- What a command taken answers. -/
theorem Dev.Taken.answers (h : Dev.Taken src c s.dev.quiet d) (hx : exec i s = s.run (fun _ => d)) :
    Answers i s (fun t => (∃ y, t.dev.cmd s.dev.nvme.nextCmd = some y ∧
        y.mien = (c.acceptedAs (s.dev.nvme.seqs.get 0 c.nsid + 1) (s.dev.waitsFor c)).mien ∧ (c.op ≠ .write ∨ withData src = false → y.status = c.status)) ∧
      t.dev.nvme.seqs.get 0 c.nsid = s.dev.nvme.seqs.get 0 c.nsid + 1 ∧ (t.dev.tn c.tenant).outstanding = (s.dev.tn c.tenant).outstanding + 1 ∧
      t.dev.ctr .FE_CMD_ACCEPTED = (s.dev.ctr .FE_CMD_ACCEPTED + 1) % 2 ^ 64 ∧ t.dev.rdma.mem = s.dev.rdma.mem ∧
      Dev.OnlyChanged workParts [] (workCtrs ++ [.FE_PI_ERR]) s.dev t.dev ∧ (c.op ≠ .write → Dev.OnlyChanged workParts [] workCtrs s.dev t.dev)) := by
  obtain ⟨y, hy, hmien, hst⟩ := h.self
  refine .of_run hx ⟨⟨y, (State.after_cmd _).trans hy, hmien, hst⟩, ?_, ?_, ?_, ?_, h.step.after, fun hr => (h.reads hr).after⟩
  · rw [State.after_nvme]
    exact h.seqs
  · rw [State.after_tn]
    exact h.outstanding
  · rw [State.after_ctr _ _ _ (by decide)]
    exact h.counted
  · rw [State.after_rdma, h.rdma, Dev.takeCapsule_mem]
    rfl

end Answers

end Sys2Proof.Machine

/-!
PROOF. O23, the I/O commands (04 R151-R176): accepted, numbered and ordered by overlap, or refused at lookup.
-/
namespace Sys2Proof.Machine

section IoAnswers

variable {s : State} {a b d : Dev} {src : CmdSource} {k cid opcode len need : Nat} {c : Ctrl} {g : IoArgs} {op : CmdOp} {ranges : List (Nat × Nat)}
  {data : Block} {i : Instr} {x y : Cmd}

/-- What a tracked I/O command shows once it is accepted. -/
structure Cmd.TakenAs (s : Dev) (src : CmdSource) (cid : Nat) (g : IoArgs) (op : CmdOp) (need : Nat) (ranges : List (Nat × Nat)) (y : Cmd) : Prop where
  does : y.op = op
  source : y.src = src
  cid : y.cid = cid
  nsid : y.nsid = g.nsid
  ranges : y.ranges = ranges
  need : y.need = need
  fua : y.fua = g.fua
  seq : y.seq = s.nvme.seqs.get 0 g.nsid + 1
  io : y.io = true
  waits : y.waits = s.waitsFor y
  dispatched : y.dispatched = (y.tracked && y.waits.isEmpty)
  status : op ≠ .write ∨ withData src = false → y.status = none
  noData : withData src = false → y.data = [] ∧ y.asked = 0

theorem Dev.waitsFor_congr (s : Dev) (ho : y.op = x.op) (hn : y.nsid = x.nsid) (hr : y.ranges = x.ranges) : s.waitsFor y = s.waitsFor x := by
  simp only [Dev.waitsFor, Cmd.tracked, cmdsConflict, ho, hn, hr]
  rfl

theorem Cmd.takenAs_of_mien (s e : Dev)
    (hm : y.mien = ((ioCapsule e src c g op opcode need ranges data (e.blankCmd src k cid)).acceptedAs (s.nvme.seqs.get 0 g.nsid + 1)
      (s.waitsFor (ioCapsule e src c g op opcode need ranges data (e.blankCmd src k cid)))).mien)
    (hst : op ≠ .write ∨ withData src = false → y.status = none) : Cmd.TakenAs s src cid g op need ranges y := by
  have hop : y.op = op := Cmd.field_of_mien Cmd.op (fun _ => rfl) hm
  have hnsid : y.nsid = g.nsid := Cmd.field_of_mien Cmd.nsid (fun _ => rfl) hm
  have hranges : y.ranges = ranges := Cmd.field_of_mien Cmd.ranges (fun _ => rfl) hm
  have hwaits : y.waits = s.waitsFor y :=
    (Cmd.field_of_mien Cmd.waits (fun _ => rfl) hm).trans (s.waitsFor_congr hop hnsid hranges).symm
  have hdata : y.data = if withData src then slice data 0 need else [] := Cmd.field_of_mien Cmd.data (fun _ => rfl) hm
  have hasked : y.asked = if withData src then need else 0 := Cmd.field_of_mien Cmd.asked (fun _ => rfl) hm
  have hdis : y.dispatched = ((op.reads || op.writes) && (s.waitsFor (ioCapsule e src c g op opcode need ranges data (e.blankCmd src k cid))).isEmpty) :=
    Cmd.field_of_mien Cmd.dispatched (fun _ => rfl) hm
  refine ⟨hop, Cmd.field_of_mien Cmd.src (fun _ => rfl) hm, Cmd.field_of_mien Cmd.cid (fun _ => rfl) hm, hnsid, hranges,
    Cmd.field_of_mien Cmd.need (fun _ => rfl) hm, Cmd.field_of_mien Cmd.fua (fun _ => rfl) hm, Cmd.field_of_mien Cmd.seq (fun _ => rfl) hm,
    Cmd.field_of_mien Cmd.io (fun _ => rfl) hm, hwaits, ?_, hst, fun hw => ?_⟩
  · rw [hdis, hwaits, Cmd.tracked, hop, s.waitsFor_congr (x := ioCapsule e src c g op opcode need ranges data (e.blankCmd src k cid)) hop hnsid hranges]
  · rw [hdata, hasked, hw]
    exact ⟨rfl, rfl⟩

/-- What a tracked command that passes its lookup answers. -/
theorem ioCommand_answers (hx : exec i s = s.run (fun _ => s.dev.quiet.ioCommand src cid g op opcode len need ranges data))
    (ha : s.dev.ioAt src k c = true) (hok : s.dev.quiet.ioCheck src c g len ranges (some op.writes) = none)
    (hf : s.dev.foreignVol (s.dev.nsVol (g.nsid - 1)) = false) (hn : s.dev.numberFree = true) :
    Answers i s (fun t => (∃ y, t.dev.cmd s.dev.nvme.nextCmd = some y ∧ Cmd.TakenAs s.dev src cid g op need ranges y) ∧
      t.dev.nvme.seqs.get 0 g.nsid = s.dev.nvme.seqs.get 0 g.nsid + 1 ∧ (t.dev.tn c.tenant).outstanding = (s.dev.tn c.tenant).outstanding + 1 ∧
      t.dev.ctr .FE_CMD_ACCEPTED = (s.dev.ctr .FE_CMD_ACCEPTED + 1) % 2 ^ 64 ∧ t.dev.rdma.mem = s.dev.rdma.mem ∧
      Dev.OnlyChanged workParts [] (workCtrs ++ [.FE_PI_ERR]) s.dev t.dev ∧ (op ≠ .write → Dev.OnlyChanged workParts [] workCtrs s.dev t.dev)) := by
  have htaken := Dev.taken_ioCommand (cid := cid) (opcode := opcode) (need := need) (data := data) s.dev.quiet ha hok hf hn
  exact (htaken.answers hx).imp fun t ⟨⟨y, hy, hm, hst⟩, hrest⟩ => ⟨⟨y, hy, Cmd.takenAs_of_mien s.dev s.dev.quiet hm hst⟩, hrest⟩

/-- An I/O command that is not tracked, as its capsule gives it. -/
def atOnceCapsule (s : Dev) (c : Ctrl) (g : IoArgs) (opcode : Nat) (ranges : List (Nat × Nat)) (x : Cmd) : Cmd :=
  { ioFields s c g .flush opcode ranges x with status := some 0 }

/-- A command that is not tracked changes the entry's parts alone. -/
theorem Dev.Accepts.atOnce (h : Dev.Accepts src x a b) (ht : x.tracked = false) : Dev.Step entryParts [] [.FE_CMD_ACCEPTED] a b := by
  have hw : acceptCtrs (a.waitsFor x) = [.FE_CMD_ACCEPTED] := by
    rw [Dev.waitsFor, ht]
    rfl
  exact hw ▸ h.still (by rw [ht]; rfl)

theorem ioAtOnce_answers {w : Option Bool} (hx : exec i s = s.run (fun _ => s.dev.quiet.ioAtOnce src cid g opcode len ranges w))
    (ha : s.dev.ioAt src k c = true) (hok : s.dev.quiet.ioCheck src c g len ranges w = none)
    (hf : s.dev.foreignVol (s.dev.nsVol (g.nsid - 1)) = false) (hn : s.dev.numberFree = true) :
    Answers i s (fun t => (∃ y, t.dev.cmd s.dev.nvme.nextCmd = some y ∧ y.cid = cid ∧ y.nsid = g.nsid ∧ y.seq = s.dev.nvme.seqs.get 0 g.nsid + 1 ∧
        y.status = some 0 ∧ y.finished = true) ∧
      t.dev.ctr .FE_CMD_ACCEPTED = (s.dev.ctr .FE_CMD_ACCEPTED + 1) % 2 ^ 64 ∧ t.dev.store = s.dev.store ∧
      Dev.OnlyChanged entryParts [] [.FE_CMD_ACCEPTED] s.dev t.dev) := by
  have hacc := s.dev.quiet.accepts_acceptIo (src := src) (k := k) (f := atOnceCapsule s.dev.quiet c g opcode ranges) cid (fun _ => ⟨rfl, rfl⟩) hn rfl rfl rfl
  have hrun : s.dev.quiet.ioAtOnce src cid g opcode len ranges w = (s.dev.quiet.acceptIo src k cid (atOnceCapsule s.dev.quiet c g opcode ranges)).2 := by
    have hf' : s.dev.quiet.foreignVol (s.dev.quiet.nsVol (g.nsid - 1)) = false := hf
    have ha' : s.dev.quiet.ioAt src k c = true := ha
    unfold Dev.ioAtOnce
    rw [Dev.onIo_of_ioAt _ ha']
    simp only [hok, hf', Bool.false_eq_true, if_false]
    rfl
  rw [hrun] at hx
  generalize (s.dev.quiet.acceptIo src k cid (atOnceCapsule s.dev.quiet c g opcode ranges)).2 = e at hx hacc
  obtain ⟨y, hy, hface⟩ := hacc.self
  have hstep := hacc.atOnce rfl
  refine .of_run hx ⟨⟨y, (State.after_cmd _).trans hy, Cmd.field_of_face Cmd.cid (fun _ => rfl) hface, Cmd.field_of_face Cmd.nsid (fun _ => rfl) hface,
    Cmd.field_of_face Cmd.seq (fun _ => rfl) hface, Cmd.field_of_face Cmd.status (fun _ => rfl) hface,
    Cmd.field_of_face Cmd.finished (fun _ => rfl) hface⟩, ?_, ?_, hstep.after⟩
  · rw [State.after_ctr _ _ _ (by decide)]
    exact hacc.counted
  · exact hstep.after.parts .store (by decide)

/-- What a refused I/O command answers. -/
theorem ioRefuse_answers {nsid : Nat} {e : Nat × Bool} (hx : exec i s = s.run (fun _ => s.dev.quiet.ioRefuse src k cid opcode nsid e)) :
    Answers i s (fun t => s.entered t src (fun x => x.status = some e.1 ∧ x.dnr = e.2 ∧ x.cid = cid ∧ x.nsid = nsid ∧ x.opcode = opcode ∧ x.io = false) ∧
      t.dev.nvme.seqs = s.dev.nvme.seqs ∧ Dev.OnlyChanged [.rdma, .nvme] [] [] s.dev t.dev) := by
  have henter := s.dev.quiet.enters_newCmd (src := src) k cid
    (f := fun x => { x with opcode := opcode, nsid := nsid, status := some e.1, dnr := e.2 }) fun _ => ⟨rfl, rfl⟩
  refine .of_run hx ⟨henter.entered ⟨rfl, rfl, rfl, rfl, rfl, rfl⟩, ?_, henter.step.after⟩
  rw [State.after_nvme, Dev.ioRefuse, Dev.newCmd_nvme]
  rfl

theorem Dev.ioCommand_refused (s : Dev) {e : Nat × Bool} (ha : s.ioAt src k c = true) (hno : s.ioCheck src c g len ranges (some op.writes) = some e) :
    s.ioCommand src cid g op opcode len need ranges data = s.ioRefuse src k cid opcode g.nsid e := by
  unfold Dev.ioCommand
  rw [s.onIo_of_ioAt ha]
  simp only [hno]

/-- A command the tracker orders waits for those it overlaps of which one writes (04 R176). -/
theorem Cmd.TakenAs.waitsAre {s : Dev} (h : Cmd.TakenAs s src cid g op need ranges y) (ht : (op.reads || op.writes) = true) :
    y.waits = (s.nvme.cmds.filter (fun e => e.nsid == g.nsid && !e.finished && e.io && cmdsConflict e y)).map (·.id) := by
  rw [h.waits, Dev.waitsFor, Cmd.tracked, h.does, h.nsid, if_pos ht]

theorem Cmd.TakenAs.dispatchedIs {s : Dev} (h : Cmd.TakenAs s src cid g op need ranges y) (ht : (op.reads || op.writes) = true) :
    y.dispatched = y.waits.isEmpty := by
  rw [h.dispatched, Cmd.tracked, h.does, ht, Bool.true_and]

/-- What a write over fabrics has before its data come. -/
theorem Cmd.TakenAs.bare {s : Dev} (h : Cmd.TakenAs s src cid g op need ranges y) :
    (match (generalizing := false) src with | .fabric _ => y.status == none && y.data == [] && y.asked == 0 | _ => true) = true := by
  cases src with
  | fabric q =>
    obtain ⟨hdata, hasked⟩ := h.noData rfl
    simp only [h.status (.inr rfl), hdata, hasked]
    rfl
  | _ => rfl

theorem State.entered.imp {t : State} {P Q : Cmd → Prop} (h : s.entered t src P) (hpq : ∀ x, P x → Q x) : s.entered t src Q := by
  obtain ⟨⟨x, hcmds, hid, hsrc, hp⟩, hrest⟩ := h
  exact ⟨⟨x, hcmds, hid, hsrc, hpq x hp⟩, hrest⟩

theorem exec_ioRead (cid : BitVec 16) : exec (.ioRead src cid g) s = s.run (fun _ => s.dev.quiet.ioCommand src cid.toNat g .read 0x02
    ((g.nlb + 1) * s.dev.quiet.blockBytes (g.nsid - 1) g.pract) 0 [(g.slba, g.nlb + 1)] []) := State.run_eq_of_quiet rfl

theorem exec_ioWrite (cid : BitVec 16) : exec (.ioWrite src cid g data) s = s.run (fun _ => s.dev.quiet.ioCommand src cid.toNat g .write 0x01
    ((g.nlb + 1) * s.dev.quiet.blockBytes (g.nsid - 1) g.pract) ((g.nlb + 1) * s.dev.quiet.blockBytes (g.nsid - 1) g.pract) [(g.slba, g.nlb + 1)] data) :=
  State.run_eq_of_quiet rfl

theorem exec_ioCompare (cid : BitVec 16) : exec (.ioCompare src cid g data) s = s.run (fun _ => s.dev.quiet.ioCommand src cid.toNat { g with fua := false }
    .compare 0x05 ((g.nlb + 1) * s.dev.quiet.blockBytes (g.nsid - 1) g.pract) ((g.nlb + 1) * s.dev.quiet.blockBytes (g.nsid - 1) g.pract)
    [(g.slba, g.nlb + 1)] data) := State.run_eq_of_quiet rfl

theorem exec_ioWriteZeroes (cid : BitVec 16) : exec (.ioWriteZeroes src cid g) s = s.run (fun _ => s.dev.quiet.ioCommand src cid.toNat g .zeroes 0x08 0 0
    [(g.slba, g.nlb + 1)] []) := State.run_eq_of_quiet rfl

theorem exec_ioDeallocate (cid : BitVec 16) : exec (.ioDatasetManagement src cid g true ranges) s = s.run (fun _ => s.dev.quiet.ioCommand src cid.toNat g
    .deallocate 0x09 (16 * ranges.length) 0 ranges []) := State.run_eq_of_quiet rfl

theorem exec_ioPassed (cid : BitVec 16) : exec (.ioDatasetManagement src cid g false ranges) s = s.run (fun _ => s.dev.quiet.ioAtOnce src cid.toNat g 0x09
    (16 * ranges.length) ranges (some true)) := State.run_eq_of_quiet rfl

theorem exec_ioFlush (cid : BitVec 16) : exec (.ioFlush src cid g) s = s.run (fun _ => s.dev.quiet.ioAtOnce src cid.toNat g 0x00 0 [] (some true)) :=
  State.run_eq_of_quiet rfl

/-- Settles O23, one clause for each kind of command and one for each kind of refusal. -/
theorem ioCommands : Obligations.IoCommands := by
  unfold Obligations.IoCommands
  refine ⟨fun s src k c cid g ha hok hf hn => ?_, fun s src k c cid g data ha hok hf hn => ?_, fun s src k c cid g data ha hok hf hn => ?_,
    fun s src k c cid g ha hok hf hn => ?_, fun s src k c cid g rs ha hok hf hn => ⟨?_, ?_⟩, fun s src k c cid g ha hok hf hn => ?_,
    fun s src k c cid g data e ha hno => ?_, fun s src k c cid g e ha hno => ?_, fun s src k c cid op ha hop => ?_⟩
  · refine (ioCommand_answers (exec_ioRead ..) ha hok hf hn).imp fun t ⟨⟨y, hy, h⟩, hseq, hout, hctr, hmem, _, hch⟩ => ?_
    exact ⟨⟨y, hy, h.does, h.source, h.cid, h.nsid, h.ranges, h.seq, h.io, h.status (.inl (by decide)), h.waitsAre rfl, h.dispatchedIs rfl⟩,
      hseq, hout, hctr, hmem, hch (by decide)⟩
  · refine (ioCommand_answers (exec_ioWrite ..) ha hok hf hn).imp fun t ⟨⟨y, hy, h⟩, hseq, hout, hctr, _, hch, _⟩ => ?_
    exact ⟨⟨y, hy, h.does, h.source, h.cid, h.nsid, h.ranges, h.seq, h.need, h.io, h.bare, h.waitsAre rfl, h.dispatchedIs rfl⟩, hseq, hout, hctr, hch⟩
  · refine (ioCommand_answers (exec_ioCompare ..) ha hok hf hn).imp fun t ⟨⟨y, hy, h⟩, _, _, hctr, _, _, hch⟩ => ?_
    exact ⟨⟨y, hy, h.does, h.source, h.cid, h.nsid, h.fua, h.need, h.seq, h.dispatchedIs rfl⟩, hctr, hch (by decide)⟩
  · refine (ioCommand_answers (exec_ioWriteZeroes ..) ha hok hf hn).imp fun t ⟨⟨y, hy, h⟩, _, _, hctr, _, _, hch⟩ => ?_
    exact ⟨⟨y, hy, h.does, h.source, h.cid, h.nsid, h.ranges, h.need, h.seq, h.status (.inl (by decide)), h.dispatchedIs rfl⟩, hctr, hch (by decide)⟩
  · refine (ioCommand_answers (exec_ioDeallocate ..) ha hok hf hn).imp fun t ⟨⟨y, hy, h⟩, _, _, hctr, _, _, hch⟩ => ?_
    exact ⟨⟨y, hy, h.does, h.cid, h.nsid, h.ranges, h.seq, h.status (.inl (by decide)), h.dispatchedIs rfl⟩, hctr, hch (by decide)⟩
  · refine (ioAtOnce_answers (exec_ioPassed ..) ha hok hf hn).imp fun t ⟨⟨y, hy, hcid, hnsid, hseq, hst, hfin⟩, _, _, hch⟩ => ?_
    exact ⟨⟨y, hy, hcid, hnsid, hseq, hst, hfin⟩, hch.mono (by decide) (List.Subset.refl _) (by decide)⟩
  · exact ioAtOnce_answers (exec_ioFlush ..) ha hok hf hn
  · exact ioRefuse_answers ((exec_ioWrite ..).trans (State.run_eq_of_quiet (s.dev.quiet.ioCommand_refused (op := .write) ha hno)))
  · refine (ioRefuse_answers ((exec_ioRead ..).trans (State.run_eq_of_quiet (s.dev.quiet.ioCommand_refused (op := .read) ha hno)))).imp fun t ⟨hent, _, hch⟩ => ⟨?_, hch⟩
    exact hent.imp fun x ⟨hst, hdnr, hcid, _, hopc, _⟩ => ⟨hst, hdnr, hcid, hopc⟩
  · have hrun : s.dev.quiet.onIo src (fun d k _ => if ioOpcodes.contains op then d else d.ioRefuse src k cid.toNat op 0 (stOpcode, false)) =
        s.dev.quiet.ioRefuse src k cid.toNat op 0 (stOpcode, false) := by
      have ha' : s.dev.quiet.ioAt src k c = true := ha
      have hno : ioOpcodes.contains op = false := Bool.eq_false_iff.mpr fun h => hop (List.contains_iff_mem.mp h)
      rw [Dev.onIo_of_ioAt _ ha']
      simp only [hno, Bool.false_eq_true, if_false]
    have hx : exec (.ioInvalidOpcode src cid op) s = s.run (fun _ => s.dev.quiet.ioRefuse src k cid.toNat op 0 (stOpcode, false)) :=
      State.run_eq_of_quiet hrun
    refine (ioRefuse_answers hx).imp fun t ⟨hent, _, hch⟩ => ⟨?_, hch⟩
    exact hent.imp fun x ⟨hst, hdnr, hcid, _⟩ => ⟨hst, hdnr, hcid⟩

end IoAnswers

end Sys2Proof.Machine

/-!
PROOF. Reservation commands (04 R192-R195): what one changes before it is accepted, and what it answers.
-/
namespace Sys2Proof.Machine

section Reserving

variable (s : Dev) {a b d e : Dev} {src : CmdSource} {k n : Nat} {c x : Cmd}

/-- A member command that is no flush is entered in the store and raises nothing. -/
theorem Dev.memberCmd_spec (c : MCmd) (hf : c.use ≠ .flush) :
    Dev.Step [.store] [] [.DRV_MCMD_ISSUED] s (s.memberCmd c) ∧ (s.memberCmd c).nvme = s.nvme ∧ (s.memberCmd c).raised = s.raised ∧
      (s.memberCmd c).store.vols = s.store.vols := by
  unfold Dev.memberCmd
  extract_lets p epoch c' store s₁ s₂
  have h₁ : Dev.Step [.store] [] [.DRV_MCMD_ISSUED] s s₁ := .store s _ (by decide)
  have h₂ : Dev.Step [.store] [] [.DRV_MCMD_ISSUED] s s₂ := h₁.trans (.count s₁ .DRV_MCMD_ISSUED _ _ (by decide))
  have hn : s₂.nvme = s.nvme := rfl
  have hr : s₂.raised = s.raised := rfl
  have hv : s₂.store.vols = s.store.vols := rfl
  have hemit : ∀ o, Dev.Step [.store] [] [.DRV_MCMD_ISSUED] s (s₂.emit o) ∧ (s₂.emit o).nvme = s.nvme ∧ (s₂.emit o).raised = s.raised ∧
      (s₂.emit o).store.vols = s.store.vols := fun o => ⟨h₂.trans (.emit s₂ o), hn, hr, hv⟩
  clear_value s₂
  split
  · exact absurd ‹_› hf
  · exact hemit _
  · exact hemit _
  · exact hemit _
  · split
    · exact hemit _
    · exact hemit _

/-- What a reservation command tells its hosts and writes on the members leaves. -/
structure Dev.Tells (a b : Dev) : Prop where
  step : Dev.Step [.nvme, .store] [] [.DRV_MCMD_ISSUED] a b
  ids : b.nvme.cmds.map Cmd.id = a.nvme.cmds.map Cmd.id
  next : b.nvme.nextCmd = a.nvme.nextCmd
  resv : b.nvme.resv = a.nvme.resv
  raised : b.raised = a.raised

namespace Dev.Tells

theorem refl (s : Dev) : Dev.Tells s s := ⟨.refl s, rfl, rfl, rfl, rfl⟩

theorem trans (h : Dev.Tells a b) (k : Dev.Tells b d) : Dev.Tells a d :=
  ⟨h.step.trans k.step, k.ids.trans h.ids, k.next.trans h.next, k.resv.trans h.resv, k.raised.trans h.raised⟩

theorem foldl {α : Type} {f : Dev → α → Dev} (h : ∀ s x, Dev.Tells s (f s x)) (l : List α) (s : Dev) : Dev.Tells s (l.foldl f s) :=
  foldl_within refl trans h l s

theorem setCtrl (s : Dev) (k : Nat) (c : Ctrl) : Dev.Tells s (s.setCtrl k c) := ⟨.nvme s _ (by decide), rfl, rfl, rfl, rfl⟩

theorem setCmd (s : Dev) (c : Cmd) : Dev.Tells s (s.setCmd c) := by
  refine ⟨.nvme s _ (by decide), (List.map_map ..).trans (List.map_congr_left fun e _ => ?_), rfl, rfl, rfl⟩
  show (if e.id = c.id then c else e).id = e.id
  split
  · exact (‹e.id = c.id›).symm
  · rfl

theorem asyncEvent (s : Dev) (k type info log : Nat) : Dev.Tells s (s.asyncEvent k type info log) := by
  unfold Dev.asyncEvent
  split
  · exact .refl s
  · dsimp only
    split
    · exact .refl s
    · split
      · split
        · exact (setCmd s _).trans (setCtrl _ _ _)
        · exact .refl s
      · split
        · exact .refl s
        · exact setCtrl s _ _

theorem resvNotice (s : Dev) (n type : Nat) (hosts : List Nat) : Dev.Tells s (s.resvNotice n type hosts) := by
  refine foldl (fun s k => ?_) _ s
  split
  · split
    · exact .refl s
    · exact (setCtrl s _ _).trans (asyncEvent _ _ _ _ _)
  · exact .refl s

theorem reservedWrite (s : Dev) (v unit : Nat) (l : List Nat) : Dev.Tells s (s.reservedWrite v unit l) :=
  foldl (fun s k => by
    obtain ⟨hstep, hn, hr, -⟩ := s.memberCmd_spec { write := true, slot := k, volume := v, unit := unit, use := .reserved v } (by simp)
    exact ⟨hstep.mono (by decide) (List.Subset.refl _) (List.Subset.refl _), by rw [hn], by rw [hn], by rw [hn], hr⟩) l s

/-- The reservation is written on the members where it persists. -/
theorem setResv (s : Dev) (n : Nat) (r : Resv) : Dev.Tells { s with nvme := { s.nvme with resv := s.nvme.resv.put {} n r } } (s.setResv n r) := by
  unfold Dev.setResv
  extract_lets old t s' v
  split
  · exact reservedWrite _ _ _ _
  · exact refl _

/-- A reservation that ends has its registrants told. -/
theorem resvRelease (s : Dev) (n : Nat) (r : Resv) (host : Nat) :
    Dev.Tells { s with nvme := { s.nvme with resv := s.nvme.resv.put {} n { r with rtype := 0, holder := 0 } } } (s.resvRelease n r host) := by
  unfold Dev.resvRelease
  extract_lets s'
  have h := setResv s n { r with rtype := 0, holder := 0 }
  split
  · exact h.trans (resvNotice _ _ _ _)
  · exact h

end Dev.Tells

end Reserving

end Sys2Proof.Machine

/-!
PROOF. The reservation commands as effects on a reservation (04 R192-R195).
-/
namespace Sys2Proof.Machine

section ResvCommands

variable {s : State} {d e : Dev} {src : CmdSource} {k cid opcode len st n host : Nat} {c : Ctrl} {g : IoArgs} {reply : List (List Nat)} {hosts : List Nat}
  {f : Dev → Ctrl → Nat × List (List Nat) × List Nat × Dev} {ps : List DevPart} {cs : List Ctr} {i : Instr} {x : ResvArgs} {r : Resv}

/-- A reservation command as its capsule gives it, `u` the device it was looked up in. -/
def resvCapsule (u : Dev) (c : Ctrl) (g : IoArgs) (opcode st : Nat) (reply : List (List Nat)) (hosts : List Nat) (x : Cmd) : Cmd :=
  { ioFields u c g (if hosts.isEmpty then .flush else .preempt) opcode [] x with
    status := if hosts.isEmpty then some st else none, reply := reply, preempted := hosts, resvWrite := true }

theorem resvCapsule_untracked (u : Dev) (y : Cmd) : (resvCapsule u c g opcode st reply hosts y).tracked = false := by
  unfold resvCapsule Cmd.tracked ioFields
  dsimp only
  split <;> rfl

/-- The commands kept their numbers, and the next its own. -/
theorem Dev.numberFree_of_ids {a b : Dev} (hi : b.nvme.cmds.map Cmd.id = a.nvme.cmds.map Cmd.id) (hx : b.nvme.nextCmd = a.nvme.nextCmd)
    (hn : a.numberFree = true) : b.numberFree = true := by
  have h : ∀ s : Dev, s.numberFree = (s.nvme.cmds.map Cmd.id).all (fun j => j != s.nvme.nextCmd) := fun s => by rw [List.all_map]; rfl
  rw [h, hi, hx, ← h]
  exact hn

/-- The controller notes that its host uses reservations. -/
def Dev.seen (s : Dev) (k : Nat) (c : Ctrl) : Dev := s.setCtrl k { c with resvSeen := true }

/-- A reservation command that passes its lookup does what it does and is accepted. -/
theorem Dev.resvCommand_accepted (s : Dev) (ha : s.ioAt src k c = true) (hok : s.ioCheck src c g len [] none = none)
    (hf : s.foreignVol (s.nsVol (g.nsid - 1)) = false) (hr : f (s.seen k c) c = (st, reply, hosts, e)) :
    s.resvCommand src cid g opcode len f = (e.acceptIo src k cid (resvCapsule (s.seen k c) c g opcode st reply hosts)).2 := by
  have hf' : (s.setCtrl k { c with resvSeen := true }).foreignVol ((s.setCtrl k { c with resvSeen := true }).nsVol (g.nsid - 1)) = false := hf
  have hr' : f (s.setCtrl k { c with resvSeen := true }) c = (st, reply, hosts, e) := hr
  unfold Dev.resvCommand
  rw [s.onIo_of_ioAt ha]
  simp only [hok, hf', hr', Bool.false_eq_true, if_false]
  rfl

/-- What a reservation command answers, `e` the device it leaves before it is accepted. -/
theorem resvCommand_answers (hx : exec i s = s.run (fun _ => s.dev.quiet.resvCommand src cid g opcode len f)) (ha : s.dev.ioAt src k c = true)
    (hok : s.dev.quiet.ioCheck src c g len [] none = none) (hf : s.dev.foreignVol (s.dev.nsVol (g.nsid - 1)) = false) (hn : s.dev.numberFree = true)
    (hr : f (s.dev.quiet.seen k c) c = (st, reply, hosts, e)) (he : Dev.Step ps [] cs s.dev.quiet e) (hids : e.nvme.cmds.map Cmd.id = s.dev.nvme.cmds.map Cmd.id)
    (hnext : e.nvme.nextCmd = s.dev.nvme.nextCmd) (hp : entryParts ⊆ ps) (hc : .FE_CMD_ACCEPTED ∈ cs) :
    Answers i s (fun t => t.dev.nvme.resv = e.nvme.resv ∧
      (∃ y, t.dev.cmd s.dev.nvme.nextCmd = some y ∧ y.cid = cid ∧ y.status = (if hosts.isEmpty then some st else none) ∧
        y.op = (if hosts.isEmpty then .flush else .preempt) ∧ y.reply = reply ∧ y.resvWrite = true) ∧
      (∀ a u b, (Dev.event a .ln u b).raised <+: e.raised → a.raised.length < 16 → a.nowOn .ln = s.dev.nowOn .ln → a.timeLoaded = s.dev.timeLoaded →
        s.hears .ln → s.told t .ln u b) ∧
      Dev.OnlyChanged ps [] cs s.dev t.dev) := by
  have hfree : e.numberFree = true := Dev.numberFree_of_ids hids hnext hn
  have hacc := e.accepts_acceptIo (src := src) (k := k) (f := resvCapsule (s.dev.quiet.seen k c) c g opcode st reply hosts) cid (fun _ => ⟨rfl, rfl⟩) hfree rfl rfl rfl
  rw [Dev.resvCommand_accepted s.dev.quiet ha hok hf hr] at hx
  generalize (e.acceptIo src k cid (resvCapsule (s.dev.quiet.seen k c) c g opcode st reply hosts)).2 = d at hx hacc
  have hstep := hacc.atOnce (resvCapsule_untracked _ _)
  obtain ⟨y, hy, hface⟩ := hacc.self
  rw [hnext] at hy
  refine .of_run hx ⟨?_, ⟨y, (State.after_cmd _).trans hy, Cmd.field_of_face Cmd.cid (fun _ => rfl) hface, Cmd.field_of_face Cmd.status (fun _ => rfl) hface,
    Cmd.field_of_face Cmd.op (fun _ => rfl) hface, Cmd.field_of_face Cmd.reply (fun _ => rfl) hface,
    Cmd.field_of_face Cmd.resvWrite (fun _ => rfl) hface⟩, fun a u b hu => ?_,
    (he.trans (hstep.mono hp (List.Subset.refl _) (List.cons_subset.mpr ⟨hc, List.nil_subset _⟩))).after⟩
  · rw [State.after_nvme]
    exact congrArg (·.resv) hacc.rest
  · exact fun hfew hnow hload hh => State.told_of_prefix hfew (hu.trans hstep.raised) hnow hload hh

/-- The device with the reservation of a namespace changed. -/
def Dev.withResv (s : Dev) (n : Nat) (r : Resv) : Dev := { s with nvme := { s.nvme with resv := s.nvme.resv.put {} n r } }

theorem Dev.tells_setResv (s : Dev) (n : Nat) (r : Resv) : Dev.Tells (s.withResv n r) (s.setResv n r) := .setResv s n r

/-- A host not registered registers where there is room (04 R192). -/
theorem Dev.resvRegister_new (s : Dev) (ha : x.action = 0 ∧ x.cptpl ≠ 1) (hnew : (s.resvOf n).regs.all (fun e => e.1 != host) = true)
    (hroom : (s.resvOf n).regs.length < 64) : s.resvRegister n host x =
      (0, s.setResv n { s.resvOf n with gen := ((s.resvOf n).gen + 1) % 2 ^ 32, regs := (s.resvOf n).regs ++ [(host, x.nrkey.toNat)]
                                        ptpl := ptplOf (s.resvOf n) x.cptpl }) := by
  have hkey : (s.resvOf n).regs.find? (fun e => e.1 == host) = none :=
    List.find?_eq_none.mpr fun e he => by simpa using List.all_eq_true.mp hnew e he
  unfold Dev.resvRegister
  simp only [ha.1, ha.2, hkey, Option.map_none, or_false, Nat.not_lt_zero, if_false, Nat.not_le.mpr hroom]

/-- A registered host acquires a reservation that nobody holds. -/
theorem Dev.resvAcquire_free (s : Dev) (ha : x.action = 0) (ht : 1 ≤ x.rtype ∧ x.rtype ≤ 6)
    (hk : ((s.resvOf n).regs.find? (fun e => e.1 == host)).map Prod.snd = some x.crkey.toNat) (hfree : (s.resvOf n).rtype = 0) :
    s.resvAcquire n host x = (0, [], s.setResv n { s.resvOf n with rtype := x.rtype, holder := host }) := by
  have hargs : ¬(2 < x.action ∨ x.rtype = 0 ∨ 6 < x.rtype) := by omega
  unfold Dev.resvAcquire
  dsimp only
  rw [if_neg hargs, if_neg (fun h => h hk), if_pos ha, if_pos hfree]

/-- What Preempt removes: other hosts registered with the key. -/
def Resv.gone (r : Resv) (host key : Nat) : List (Nat × Nat) := r.regs.filter (fun e => e.1 != host && e.2 == key)

/-- The reservation once it is preempted. -/
def Resv.preemptedBy (r : Resv) (host key rtype : Nat) : Resv :=
  { r with gen := (r.gen + 1) % 2 ^ 32, regs := r.regs.filter (fun e => !(r.gone host key).contains e), rtype := rtype, holder := host }

/-- A registered host preempts the holder of a reservation of type 1 and waits for the preempted hosts' commands (04 R194). -/
theorem Dev.resvAcquire_preempt (s : Dev) (ha : x.action = 2) (ht : 1 ≤ x.rtype ∧ x.rtype ≤ 6)
    (hk : ((s.resvOf n).regs.find? (fun e => e.1 == host)).map Prod.snd = some x.crkey.toNat) (hr : (s.resvOf n).rtype = 1)
    (hh : ((s.resvOf n).regs.find? (fun e => e.1 == (s.resvOf n).holder)).map Prod.snd = some x.nrkey.toNat)
    (hany : (s.resvOf n).regs.any (fun e => e.1 != host && e.2 == x.nrkey.toNat) = true) :
    s.resvAcquire n host x = (0, ((s.resvOf n).gone host x.nrkey.toNat).map Prod.fst,
      ((s.setResv n ((s.resvOf n).preemptedBy host x.nrkey.toNat x.rtype)).resvNotice n 1 (((s.resvOf n).gone host x.nrkey.toNat).map Prod.fst)).event .ln 0x209
        (le 4 n ++ leCount ((s.resvOf n).gone host x.nrkey.toNat).length)) := by
  have hargs : ¬(2 < x.action ∨ x.rtype = 0 ∨ 6 < x.rtype) := by omega
  have hgone : ((s.resvOf n).gone host x.nrkey.toNat).isEmpty = false := by
    obtain ⟨e, he, hp⟩ := List.any_eq_true.mp hany
    exact List.isEmpty_eq_false_iff.mpr (List.ne_nil_of_mem (List.mem_filter.mpr ⟨he, hp⟩))
  have hact : x.action ≠ 0 := by omega
  unfold Dev.resvAcquire
  dsimp only
  rw [if_neg hargs, if_neg (fun h => h hk), if_neg hact]
  have hno : (decide (5 ≤ 1) && x.nrkey.toNat == 0) = false := rfl
  have htakes : (1 != 0 && decide (1 < 5)) = true := rfl
  have hquiet : decide (3 ≤ 1) = false := rfl
  have hfilter : (s.resvOf n).regs.filter (fun e => e.1 != host && e.2 == x.nrkey.toNat) = (s.resvOf n).gone host x.nrkey.toNat := rfl
  have hsome : (((s.resvOf n).gone host x.nrkey.toNat).map Prod.fst).isEmpty = false := by rw [List.isEmpty_map, hgone]
  simp only [hh, hr, hno, htakes, hquiet, hfilter, hgone, hsome, ha, Bool.false_or, beq_self_eq_true, Bool.and_true, Bool.and_false,
    Bool.false_eq_true, Bool.not_true, Bool.not_false, false_and, if_false, if_true, List.length_map]
  rfl

/-- A holder releases its reservation. -/
theorem Dev.resvReleaseCmd_ends (s : Dev) (ha : x.action = 0)
    (hk : ((s.resvOf n).regs.find? (fun e => e.1 == host)).map Prod.snd = some x.crkey.toNat) (ht : (s.resvOf n).rtype = x.rtype ∧ x.rtype ≠ 0)
    (hh : 5 ≤ x.rtype ∨ (s.resvOf n).holder = host) : s.resvReleaseCmd n host x = (0, s.resvRelease n (s.resvOf n) host) := by
  have hholds : ¬((s.resvOf n).rtype = 0 ∨ (s.resvOf n).rtype < 5 ∧ (s.resvOf n).holder ≠ host) := by omega
  have hargs : ¬1 < x.action := by omega
  unfold Dev.resvReleaseCmd
  dsimp only
  rw [if_neg hargs, if_neg (by simp [hk]), if_pos ha, if_neg hholds, if_neg (fun h => h ht.1)]

end ResvCommands

end Sys2Proof.Machine

/-!
PROOF. What the reservation commands answer (04 R192-R195).
-/
namespace Sys2Proof.Machine

section ResvAnswers

variable {s : State} {t : State} {e : Dev} {src : CmdSource} {k n : Nat} {c : Ctrl} {g : IoArgs} {x : ResvArgs} {r : Resv}

/-- The parts and the counters of a reservation command that changes a reservation. -/
def resvParts : List DevPart := [.rdma, .nvme, .ten, .evr, .store]
def resvCtrs : List Ctr := [.FE_CMD_ACCEPTED, .DRV_MCMD_ISSUED]

/-- What changing the reservation of a namespace, and telling of it, leaves. -/
theorem Dev.Tells.fromSeen {s : Dev} (h : Dev.Tells ((s.seen k c).withResv n r) e) : Dev.Step resvParts [] resvCtrs s e ∧
    e.nvme.cmds.map Cmd.id = s.nvme.cmds.map Cmd.id ∧ e.nvme.nextCmd = s.nvme.nextCmd ∧ e.nvme.resv = s.nvme.resv.put {} n r ∧ e.raised = s.raised := by
  have hfirst : Dev.Step resvParts [] resvCtrs s ((s.seen k c).withResv n r) := .nvme s _ (by decide)
  exact ⟨hfirst.trans (h.step.mono (by decide) (List.Subset.refl _) (by decide)), h.ids, h.next, h.resv, h.raised⟩

/-- The reservations where that of one namespace was written. -/
theorem Dev.resvOf_of_put {a b : Dev} (h : b.nvme.resv = a.nvme.resv.put {} n r) : b.resvOf n = r ∧ ∀ m, m ≠ n → b.resvOf m = a.resvOf m := by
  constructor
  · rw [Dev.resvOf, h, Table.get_put_self]
  · intro m hm
    rw [Dev.resvOf, h, Table.get_put_other _ _ _ hm]
    rfl

/-- What a command that changes its reservation and succeeds answers. -/
theorem resvChange_answers {i : Instr} {cid opcode len : Nat} {f : Dev → Ctrl → Nat × List (List Nat) × List Nat × Dev} (r : Resv)
    (hx : exec i s = s.run (fun _ => s.dev.quiet.resvCommand src cid g opcode len f)) (ha : s.dev.ioAt src k c = true)
    (hok : s.dev.quiet.ioCheck src c g len [] none = none) (hf : s.dev.foreignVol (s.dev.nsVol (g.nsid - 1)) = false) (hn : s.dev.numberFree = true)
    (hr : f (s.dev.quiet.seen k c) c = (0, [], [], e)) (he : Dev.Tells ((s.dev.quiet.seen k c).withResv g.nsid r) e) :
    Answers i s (fun t => t.dev.resvOf g.nsid = r ∧ (∀ n, n ≠ g.nsid → t.dev.resvOf n = s.dev.resvOf n) ∧
      (∃ y, t.dev.cmd s.dev.nvme.nextCmd = some y ∧ y.status = some 0 ∧ y.cid = cid ∧ y.resvWrite = true) ∧
      Dev.OnlyChanged resvParts [] resvCtrs s.dev t.dev) := by
  obtain ⟨hstep, hids, hnext, hresv, -⟩ := he.fromSeen
  refine (resvCommand_answers hx ha hok hf hn hr hstep hids hnext (by decide) (by decide)).imp fun t ⟨ht, ⟨y, hy, hcid, hst, _, _, hw⟩, _, hch⟩ => ?_
  obtain ⟨hself, hothers⟩ := Dev.resvOf_of_put (a := s.dev) (ht.trans hresv)
  exact ⟨hself, hothers, ⟨y, hy, hst, hcid, hw⟩, hch⟩

theorem reservationRegister_answers (cid : BitVec 16) (ha : s.dev.ioAt src k c = true) (hok : s.dev.ioCheck src c g 16 [] none = none)
    (hf : s.dev.foreignVol (s.dev.nsVol (g.nsid - 1)) = false) (hn : s.dev.numberFree = true) (hact : x.action = 0 ∧ x.cptpl ≠ 1)
    (hnew : (s.dev.resvOf g.nsid).regs.all (fun e => e.1 != c.hostId) = true) (hroom : (s.dev.resvOf g.nsid).regs.length < 64) :
    Answers (.reservationRegister src cid g x) s (fun t =>
      t.dev.resvOf g.nsid = { s.dev.resvOf g.nsid with gen := ((s.dev.resvOf g.nsid).gen + 1) % 2 ^ 32
                                                       regs := (s.dev.resvOf g.nsid).regs ++ [(c.hostId, x.nrkey.toNat)]
                                                       ptpl := ptplOf (s.dev.resvOf g.nsid) x.cptpl } ∧
      (∀ n, n ≠ g.nsid → t.dev.resvOf n = s.dev.resvOf n) ∧
      (∃ y, t.dev.cmd s.dev.nvme.nextCmd = some y ∧ y.status = some 0 ∧ y.cid = cid.toNat ∧ y.resvWrite = true) ∧
      Dev.OnlyChanged resvParts [] resvCtrs s.dev t.dev) := by
  have hrun : exec (.reservationRegister src cid g x) s = s.run (fun _ => s.dev.quiet.resvCommand src cid.toNat g 0x0D 16 (fun d c =>
      ((d.resvRegister g.nsid c.hostId x).1, [], [], (d.resvRegister g.nsid c.hostId x).2))) := State.run_eq_of_quiet rfl
  exact resvChange_answers _ hrun ha hok hf hn (by rw [Dev.resvRegister_new (s.dev.quiet.seen k c) hact hnew hroom]; rfl) (Dev.tells_setResv _ _ _)

theorem reservationAcquire_answers (cid : BitVec 16) (ha : s.dev.ioAt src k c = true) (hok : s.dev.ioCheck src c g 16 [] none = none)
    (hf : s.dev.foreignVol (s.dev.nsVol (g.nsid - 1)) = false) (hn : s.dev.numberFree = true) (hact : x.action = 0) (ht : 1 ≤ x.rtype ∧ x.rtype ≤ 6)
    (hk : ((s.dev.resvOf g.nsid).regs.find? (fun e => e.1 == c.hostId)).map Prod.snd = some x.crkey.toNat) (hfree : (s.dev.resvOf g.nsid).rtype = 0) :
    Answers (.reservationAcquire src cid g x) s (fun t => t.dev.resvOf g.nsid = { s.dev.resvOf g.nsid with rtype := x.rtype, holder := c.hostId } ∧
      (∀ n, n ≠ g.nsid → t.dev.resvOf n = s.dev.resvOf n) ∧
      (∃ y, t.dev.cmd s.dev.nvme.nextCmd = some y ∧ y.status = some 0 ∧ y.cid = cid.toNat ∧ y.resvWrite = true) ∧
      Dev.OnlyChanged resvParts [] resvCtrs s.dev t.dev) := by
  have hrun : exec (.reservationAcquire src cid g x) s = s.run (fun _ => s.dev.quiet.resvCommand src cid.toNat g 0x11 16 (fun d c =>
      ((d.resvAcquire g.nsid c.hostId x).1, [], (d.resvAcquire g.nsid c.hostId x).2.1, (d.resvAcquire g.nsid c.hostId x).2.2))) := State.run_eq_of_quiet rfl
  exact resvChange_answers _ hrun ha hok hf hn (by rw [Dev.resvAcquire_free (s.dev.quiet.seen k c) hact ht hk hfree]; rfl) (Dev.tells_setResv _ _ _)

theorem reservationRelease_answers (cid : BitVec 16) (ha : s.dev.ioAt src k c = true) (hok : s.dev.ioCheck src c g 8 [] none = none)
    (hf : s.dev.foreignVol (s.dev.nsVol (g.nsid - 1)) = false) (hn : s.dev.numberFree = true) (hact : x.action = 0)
    (hk : ((s.dev.resvOf g.nsid).regs.find? (fun e => e.1 == c.hostId)).map Prod.snd = some x.crkey.toNat)
    (ht : (s.dev.resvOf g.nsid).rtype = x.rtype ∧ x.rtype ≠ 0) (hh : 5 ≤ x.rtype ∨ (s.dev.resvOf g.nsid).holder = c.hostId) :
    Answers (.reservationRelease src cid g x) s (fun t => t.dev.resvOf g.nsid = { s.dev.resvOf g.nsid with rtype := 0, holder := 0 } ∧
      (∀ n, n ≠ g.nsid → t.dev.resvOf n = s.dev.resvOf n) ∧
      (∃ y, t.dev.cmd s.dev.nvme.nextCmd = some y ∧ y.status = some 0 ∧ y.cid = cid.toNat ∧ y.resvWrite = true) ∧
      Dev.OnlyChanged resvParts [] resvCtrs s.dev t.dev) := by
  have hrun : exec (.reservationRelease src cid g x) s = s.run (fun _ => s.dev.quiet.resvCommand src cid.toNat g 0x15 8 (fun d c =>
      ((d.resvReleaseCmd g.nsid c.hostId x).1, [], [], (d.resvReleaseCmd g.nsid c.hostId x).2))) := State.run_eq_of_quiet rfl
  exact resvChange_answers _ hrun ha hok hf hn (by rw [Dev.resvReleaseCmd_ends (s.dev.quiet.seen k c) hact hk ht hh]; rfl) (.resvRelease _ _ _ c.hostId)

/-- Preempted registrants are gone. -/
theorem Resv.preemptedBy_regs (r : Resv) (host key rtype : Nat) :
    (r.preemptedBy host key rtype).regs.all (fun e => e.1 == host || e.2 != key) = true := by
  refine List.all_eq_true.mpr fun e he => ?_
  obtain ⟨hmem, hkept⟩ := List.mem_filter.mp he
  have hnot : e ∉ r.gone host key := by simpa using hkept
  by_contra hbad
  refine hnot (List.mem_filter.mpr ⟨hmem, ?_⟩)
  simpa [not_or] using hbad

/-- Preempt and Abort (04 R194): the preempted hosts are removed with event 209h, and the command waits for theirs. -/
theorem reservationPreempt_answers (cid : BitVec 16) (ha : s.dev.ioAt src k c = true) (hok : s.dev.ioCheck src c g 16 [] none = none)
    (hf : s.dev.foreignVol (s.dev.nsVol (g.nsid - 1)) = false) (hn : s.dev.numberFree = true) (hact : x.action = 2) (ht : 1 ≤ x.rtype ∧ x.rtype ≤ 6)
    (hk : ((s.dev.resvOf g.nsid).regs.find? (fun e => e.1 == c.hostId)).map Prod.snd = some x.crkey.toNat) (hr : (s.dev.resvOf g.nsid).rtype = 1)
    (hh : ((s.dev.resvOf g.nsid).regs.find? (fun e => e.1 == (s.dev.resvOf g.nsid).holder)).map Prod.snd = some x.nrkey.toNat)
    (hany : (s.dev.resvOf g.nsid).regs.any (fun e => e.1 != c.hostId && e.2 == x.nrkey.toNat) = true) :
    Answers (.reservationAcquire src cid g x) s (fun t => t.dev.resvOf g.nsid = (s.dev.resvOf g.nsid).preemptedBy c.hostId x.nrkey.toNat x.rtype ∧
      (∀ n, n ≠ g.nsid → t.dev.resvOf n = s.dev.resvOf n) ∧
      (∃ y, t.dev.cmd s.dev.nvme.nextCmd = some y ∧ y.status = none ∧ y.op = .preempt ∧ y.cid = cid.toNat) ∧
      (s.hears .ln → s.told t .ln 0x209 (le 4 g.nsid ++ leCount ((s.dev.resvOf g.nsid).gone c.hostId x.nrkey.toNat).length)) ∧
      Dev.OnlyChanged resvParts [] resvCtrs s.dev t.dev) := by
  have hrun : exec (.reservationAcquire src cid g x) s = s.run (fun _ => s.dev.quiet.resvCommand src cid.toNat g 0x11 16 (fun d c =>
      ((d.resvAcquire g.nsid c.hostId x).1, [], (d.resvAcquire g.nsid c.hostId x).2.1, (d.resvAcquire g.nsid c.hostId x).2.2))) := State.run_eq_of_quiet rfl
  have hpre := Dev.resvAcquire_preempt (s.dev.quiet.seen k c) hact ht hk hr hh hany
  have htells := ((s.dev.quiet.seen k c).tells_setResv g.nsid ((s.dev.resvOf g.nsid).preemptedBy c.hostId x.nrkey.toNat x.rtype)).trans
    (.resvNotice _ g.nsid 1 (((s.dev.resvOf g.nsid).gone c.hostId x.nrkey.toNat).map Prod.fst))
  have hsome : (((s.dev.resvOf g.nsid).gone c.hostId x.nrkey.toNat).map Prod.fst).isEmpty = false := by
    obtain ⟨e, he, hp⟩ := List.any_eq_true.mp hany
    exact List.isEmpty_eq_false_iff.mpr (List.ne_nil_of_mem (List.mem_map_of_mem (List.mem_filter.mpr ⟨he, hp⟩)))
  have hsame : (s.dev.quiet.seen k c).resvOf g.nsid = s.dev.resvOf g.nsid := rfl
  rw [hsame] at hpre
  generalize ((s.dev.quiet.seen k c).setResv g.nsid ((s.dev.resvOf g.nsid).preemptedBy c.hostId x.nrkey.toNat x.rtype)).resvNotice g.nsid 1
    (((s.dev.resvOf g.nsid).gone c.hostId x.nrkey.toNat).map Prod.fst) = e at hpre htells
  obtain ⟨hstep, hids, hnext, hresv, hraised⟩ := htells.fromSeen
  refine (resvCommand_answers (st := 0) (reply := []) (hosts := ((s.dev.resvOf g.nsid).gone c.hostId x.nrkey.toNat).map Prod.fst) hrun ha hok hf hn (by rw [hpre]) (hstep.trans (.event e .ln 0x209
    (le 4 g.nsid ++ leCount ((s.dev.resvOf g.nsid).gone c.hostId x.nrkey.toNat).length) 0)) hids hnext (by decide) (by decide)).imp
    fun t ⟨ht, ⟨y, hy, hcid, hst, hop, _, _⟩, htold, hch⟩ => ?_
  rw [hsome] at hst hop
  obtain ⟨hself, hothers⟩ := Dev.resvOf_of_put (a := s.dev) (ht.trans hresv)
  refine ⟨hself, hothers, ⟨y, hy, hst, hop, hcid⟩, htold e _ _ List.prefix_rfl ?_ (hstep.nowOn (by decide) .ln) (hstep.timeLoaded_eq (by decide)), hch⟩
  rw [hraised]
  exact Nat.zero_lt_succ _

theorem reservationReport_answers (cid : BitVec 16) (eds : Bool) (ha : s.dev.ioAt src k c = true)
    (hok : s.dev.ioCheck src c g (dataPtrLen g.buf) [] none = none) (hf : s.dev.foreignVol (s.dev.nsVol (g.nsid - 1)) = false)
    (hn : s.dev.numberFree = true) :
    Answers (.reservationReport src cid g eds) s (fun t => (∃ y, t.dev.cmd s.dev.nvme.nextCmd = some y ∧ y.status = some 0 ∧ y.cid = cid.toNat ∧
        y.reply.head? = some [(s.dev.resvOf g.nsid).gen, (s.dev.resvOf g.nsid).rtype, (s.dev.resvOf g.nsid).regs.length, (s.dev.resvOf g.nsid).ptpl.toNat] ∧
        y.reply.length = (s.dev.resvOf g.nsid).regs.length + 1) ∧ t.dev.nvme.resv = s.dev.nvme.resv ∧
      Dev.OnlyChanged entryParts [] [.FE_CMD_ACCEPTED] s.dev t.dev) := by
  have hrun := State.run_eq_of_quiet (s := s) (f := fun d => d.resvCommand src cid.toNat g 0x0E (dataPtrLen g.buf) (fun d _ =>
    let r := d.resvOf g.nsid
    let items := r.regs.map (fun e =>
      [((d.nvme.ctrls.find? (fun c => c.2.hostId == e.1)).map (fun c => c.1 + 1)).getD 0xFFFF,
       (decide (r.rtype ≠ 0) && (decide (5 ≤ r.rtype) || r.holder == e.1)).toNat, e.2, if eds then e.1 else e.1 % 2 ^ 64])
    (0, [r.gen, r.rtype, r.regs.length, r.ptpl.toNat] :: items, [], d))) rfl
  have hstep : Dev.Step entryParts [] [.FE_CMD_ACCEPTED] s.dev.quiet (s.dev.quiet.seen k c) := .nvme _ _ (by decide)
  refine (resvCommand_answers (i := .reservationReport src cid g eds) hrun ha hok hf hn rfl hstep rfl rfl (List.Subset.refl _) (by decide)).imp
    fun t ⟨ht, ⟨y, hy, hcid, hst, _, hrep, _⟩, _, hch⟩ => ?_
  refine ⟨⟨y, hy, hst, hcid, ?_, ?_⟩, ht, hch⟩
  · rw [hrep]
    rfl
  · rw [hrep, List.length_cons, List.length_map]
    rfl

end ResvAnswers

end Sys2Proof.Machine

/-!
PROOF. The ends of a command (04 R173, R177, R194): the wait of Preempt and Abort, CMD_TO, and the tracker's release of those that waited.
-/
namespace Sys2Proof.Machine

section Ends

variable {s : State} {k : Nat} {c : Cmd}

theorem preemptWaitEnd_answers (hc : s.dev.cmd k = some c) (hop : c.op = .preempt) (hst : c.status = none) (hw : s.dev.preemptWaits c = false) :
    Answers (.preemptWaitEnd k) s (fun t => t.dev.cmd k = some { c with status := some 0 } ∧ (∀ j, j ≠ k → t.dev.cmd j = s.dev.cmd j) ∧
      Dev.OnlyChanged [.nvme] [] [] s.dev t.dev) := by
  have hc' : s.dev.quiet.cmd k = some c := hc
  have hw' : s.dev.quiet.preemptWaits c = false := hw
  have hid : c.id = k := s.dev.cmd_id hc
  have hx : exec (.preemptWaitEnd k) s = s.run (fun _ => s.dev.quiet.setCmd { c with status := some 0 }) := by
    refine State.run_eq_of_quiet ?_
    simp only [hc', hop, hst, hw', Option.isNone_none, Bool.not_false, and_self, if_true]
  refine .of_run hx ⟨(State.after_cmd k).trans (s.dev.quiet.cmd_setCmd_at hc' hid), fun j hj => ?_, (Dev.Step.nvme _ _ (by decide)).after⟩
  exact (State.after_cmd j).trans (s.dev.quiet.cmd_setCmd_other _ (fun h => hj (h.trans hid)))

/-- A command that has timed out ends (04 R173): counted, with its event, its accumulators released. -/
theorem commandTimeout_answers (hf : s.dev.frontUp = true) (hc : s.dev.cmd k = some c) (hio : c.io = true)
    (hn : c.completed = false ∧ c.cancelled = false ∧ c.status = none)
    (ht : c.accepted + s.dev.fld .FE_CFG_CMD_TO * 1000000 < s.dev.nowOn .ln) :
    Answers (.commandTimeout k) s (fun t => t.dev.cmd k = some { c with status := some 0x021, staging := 0 } ∧
      (∀ j, j ≠ k → t.dev.cmd j = s.dev.cmd j) ∧ t.dev.ctr .FE_CMD_TIMEOUT = (s.dev.ctr .FE_CMD_TIMEOUT + 1) % 2 ^ 64 ∧
      (s.hears .ln → s.told t .ln 0x204 (le 2 c.sqid ++ le 2 c.cid ++ le 4 c.nsid)) ∧ Dev.OnlyChanged [.nvme, .ldg] [] [.FE_CMD_TIMEOUT] s.dev t.dev) := by
  obtain ⟨hdone, hcancelled, hst⟩ := hn
  have hc' : s.dev.quiet.cmd k = some c := hc
  have hid : c.id = k := s.dev.cmd_id hc
  have hover : s.dev.quiet.expired .ln c.accepted (s.dev.quiet.fld .FE_CFG_CMD_TO * ms) = true := decide_eq_true ht
  have hx : exec (.commandTimeout k) s = s.run (fun _ =>
      ((((s.dev.quiet.count .FE_CMD_TIMEOUT).event .ln 0x204 (le 2 c.sqid ++ le 2 c.cid ++ le 4 c.nsid)).setCmd { c with status := some 0x021, staging := 0 }).releaseAccs
        { c with status := some 0x021, staging := 0 })) := by
    refine State.runIf_eq_of_quiet hf ?_
    dsimp only
    simp only [hc', hio, hdone, hcancelled, hst, hover, Bool.true_or, Bool.not_true, Bool.false_eq_true, Option.isSome_none, or_self, if_false]
    rfl
  have hcount : Dev.Step [.nvme, .ldg] [] [.FE_CMD_TIMEOUT] s.dev.quiet (s.dev.quiet.count .FE_CMD_TIMEOUT) := .count _ _ _ _ (by decide)
  have hevent : Dev.Step [.nvme, .ldg] [] [.FE_CMD_TIMEOUT] s.dev.quiet
      ((s.dev.quiet.count .FE_CMD_TIMEOUT).event .ln 0x204 (le 2 c.sqid ++ le 2 c.cid ++ le 4 c.nsid)) := hcount.trans (.event _ _ _ _ _)
  refine .of_run hx ⟨?_, fun j hj => ?_, ?_, ?_, ((hevent.trans (.nvme _ _ (by decide))).trans (.ldg _ _ (by decide))).after⟩
  · exact (State.after_cmd k).trans (Dev.cmd_setCmd_at (s := ((s.dev.quiet.count .FE_CMD_TIMEOUT).event .ln 0x204 _)) hc' hid)
  · exact (State.after_cmd j).trans (Dev.cmd_setCmd_other (s := ((s.dev.quiet.count .FE_CMD_TIMEOUT).event .ln 0x204 _)) _ (fun h => hj (h.trans hid)))
  · rw [State.after_ctr _ _ _ (by decide)]
    exact Dev.ctr_count_self ..
  · exact State.told_of_prefix (e := s.dev.quiet.count .FE_CMD_TIMEOUT) (Nat.zero_lt_succ _) List.prefix_rfl rfl rfl

end Ends

end Sys2Proof.Machine

/-!
PROOF. COMMAND_FINISH (04 R176, R177): a command leaves the tracker, and those that waited for it alone are dispatched.
-/
namespace Sys2Proof.Machine

section Sending

variable (s : Dev) {a b d : Dev} {l l' : List Nat} {k : Nat} {c x y : Cmd}

/-- A command but for its dispatch and what it has in hand. -/
def Cmd.ordered (c : Cmd) : Cmd := { c with hand := [], gathered := false, reading := 0, dispatched := false, dispatchedAt := 0, held := false }

theorem Cmd.ordered_of_core (h : y.core = x.core) : y.ordered = x.ordered :=
  have k := congrArg Cmd.ordered h
  k

theorem Cmd.dispatched_of_core (h : y.core = x.core) : y.dispatched = x.dispatched :=
  have k := congrArg Cmd.dispatched h
  k

theorem Cmd.field_of_ordered {α : Type} (g : Cmd → α) (hg : ∀ c : Cmd, g c.ordered = g c) (h : y.ordered = x.ordered) : g y = g x :=
  (hg y).symm.trans ((congrArg g h).trans (hg x))

/-- The commands of a list have been sent on. -/
structure Dev.SentOn (l : List Nat) (a b : Dev) : Prop where
  step : Dev.Step gatherParts [] gatherCtrs a b
  orders : ∀ j, (b.cmd j).map Cmd.ordered = (a.cmd j).map Cmd.ordered
  kept : ∀ j x y, a.cmd j = some x → b.cmd j = some y → x.dispatched = true → y.dispatched = true
  sent : ∀ j ∈ l, ∀ y, b.cmd j = some y → y.dispatched = true ∨ y.cancelled = true

namespace Dev.SentOn

theorem refl (s : Dev) : Dev.SentOn [] s s :=
  ⟨.refl s, fun _ => rfl, fun _ _ _ hx hy hd => by rw [hx] at hy; cases hy; exact hd, fun _ h => absurd h List.not_mem_nil⟩

/-- A command of the later device was there before. -/
theorem back (h : Dev.SentOn l a b) {j : Nat} (hy : b.cmd j = some y) : ∃ x, a.cmd j = some x ∧ y.ordered = x.ordered := by
  have k := h.orders j
  rw [hy] at k
  obtain ⟨x, hx, he⟩ := Option.map_eq_some_iff.mp k.symm
  exact ⟨x, hx, he.symm⟩

theorem trans (h : Dev.SentOn l a b) (k : Dev.SentOn l' b d) : Dev.SentOn (l ++ l') a d where
  step := h.step.trans k.step
  orders j := (k.orders j).trans (h.orders j)
  kept j x z hx hz hd := by
    obtain ⟨y, hy, -⟩ := k.back hz
    exact k.kept j y z hy hz (h.kept j x y hx hy hd)
  sent j hj z hz := by
    rcases List.mem_append.mp hj with hj | hj
    · obtain ⟨y, hy, hord⟩ := k.back hz
      refine (h.sent j hj y hy).imp (k.kept j y z hy hz) fun hc => ?_
      exact (Cmd.field_of_ordered Cmd.cancelled (fun _ => rfl) hord).trans hc
    · exact k.sent j hj z hz

/-- A dispatch sends its command on. -/
theorem dispatch (s : Dev) (k : Nat) : Dev.SentOn [k] s (s.dispatch k) := by
  cases hc : s.cmd k with
  | none =>
    have hnone : s.dispatch k = s := by
      unfold Dev.dispatch
      simp only [hc]
    rw [hnone]
    refine ⟨.refl s, fun _ => rfl, fun _ _ _ hx hy hd => by rw [hx] at hy; cases hy; exact hd, fun j hj y hy => ?_⟩
    rw [List.mem_singleton.mp hj, hc] at hy
    exact nomatch hy
  | some c =>
    have h := s.dispatches_dispatch hc
    obtain ⟨z, hz, hcore⟩ := h.self c hc
    have hsent : z.dispatched = true ∨ z.cancelled = true := by
      rcases hcore with ⟨hcore, hover⟩ | ⟨now, held, hcore⟩
      · exact hover.imp (Cmd.dispatched_of_core hcore).trans (Cmd.field_of_ordered Cmd.cancelled (fun _ => rfl) (Cmd.ordered_of_core hcore)).trans
      · exact .inl (Cmd.dispatched_of_core hcore)
    have hord : z.ordered = c.ordered := by
      rcases hcore with ⟨hcore, -⟩ | ⟨now, held, hcore⟩
      · exact Cmd.ordered_of_core hcore
      · have hord := Cmd.ordered_of_core hcore
        exact hord
    have hkeeps : c.dispatched = true → z.dispatched = true := by
      rcases hcore with ⟨hcore, -⟩ | ⟨now, held, hcore⟩
      · exact (Cmd.dispatched_of_core hcore).trans
      · exact fun _ => Cmd.dispatched_of_core hcore
    have hothers : ∀ j, j ≠ k → ((s.dispatch k).cmd j).map Cmd.core = (s.cmd j).map Cmd.core := h.others
    refine ⟨h.step, fun j => ?_, fun j x y hx hy hd => ?_, fun j hj y hy => ?_⟩
    · by_cases hj : j = k
      · rw [hj, hz, hc]
        exact congrArg some hord
      · have := congrArg (Option.map Cmd.ordered) (hothers j hj)
        rw [Option.map_map, Option.map_map] at this
        exact this
    · by_cases hj : j = k
      · subst hj
        obtain rfl : c = x := Option.some.inj (hc.symm.trans hx)
        obtain rfl : z = y := Option.some.inj (hz.symm.trans hy)
        exact hkeeps hd
      · have := hothers j hj
        rw [hx, hy] at this
        exact (Cmd.dispatched_of_core (Option.some.inj this)).trans hd
    · rw [List.mem_singleton.mp hj, hz] at hy
      exact Option.some.inj hy ▸ hsent

theorem foldl (l : List Nat) : ∀ s : Dev, Dev.SentOn l s (l.foldl (fun s k => s.dispatch k) s) := by
  induction l with
  | nil => exact refl
  | cons k l ih => exact fun s => (dispatch s k).trans (ih _)

end Dev.SentOn

theorem Dev.step_sweep (k : Nat) : Dev.Step gatherParts [] gatherCtrs s (s.sweep k) := by
  unfold Dev.sweep
  split
  · split
    · exact .nvme s _ (by decide)
    · exact .refl s
  · exact .refl s

/-- A command that has left the tracker. -/
def Cmd.leftAt (c : Cmd) (now : Nat) : Cmd := { c with finished := true, finishedAt := now }

/-- Commands mapped within their numbers are found where they were. -/
theorem Dev.cmd_mapCmds {f : Cmd → Cmd} (hf : ∀ c, (f c).id = c.id) (j : Nat) :
    ({ s with nvme := { s.nvme with cmds := s.nvme.cmds.map f } } : Dev).cmd j = (s.cmd j).map f := by
  show (s.nvme.cmds.map f).find? (fun c => c.id == j) = (s.nvme.cmds.find? (fun c => c.id == j)).map f
  rw [List.find?_map]
  exact congrArg (Option.map f) (congrArg (fun p => s.nvme.cmds.find? p) (funext fun c => congrArg (· == j) (hf c)))

/-- A command as the tracker keeps it once `k` has left. -/
def Cmd.without (k now : Nat) (c : Cmd) : Cmd :=
  if c.id = k then c.leftAt now else if c.waits.contains k then { c with waits := c.waits.filter (· != k) } else c

theorem Cmd.without_id (k now : Nat) (c : Cmd) : (c.without k now).id = c.id := by
  unfold Cmd.without
  split
  · rfl
  · split <;> rfl

/-- What remains of the waits of a command that is not the one that left. -/
theorem Cmd.without_waits {now : Nat} (h : c.id ≠ k) : (c.without k now).waits.contains k = false := by
  unfold Cmd.without
  rw [if_neg h]
  split
  · exact Bool.eq_false_iff.mpr fun hk => by simpa using (List.mem_filter.mp (List.contains_iff_mem.mp hk)).2
  · exact Bool.eq_false_iff.mpr ‹_›

/-- What a command's leaving the tracker leaves of the commands. -/
structure Dev.Finishes (k : Nat) (a b : Dev) : Prop where
  step : Dev.Step gatherParts [] gatherCtrs a b
  self : ∀ y, b.cmd k = some y → y.finished = true ∧ ∃ x, a.cmd k = some x ∧ y.status = x.status
  freed : ∀ j, j ≠ k → ∀ y, b.cmd j = some y → y.waits.contains k = false
  sent : ∀ j, j ≠ k → ∀ x, a.cmd j = some x → x.waits = [k] → x.cancelled = false → ∀ y, b.cmd j = some y → y.dispatched = true

theorem Dev.finishes_finishCmd : Dev.Finishes k s (s.finishCmd k) := by
  have hcmd := s.cmd_mapCmds (Cmd.without_id k (s.nowOn .ln))
  have hstep : Dev.Step gatherParts [] gatherCtrs s
      { s with nvme := { s.nvme with cmds := s.nvme.cmds.map (Cmd.without k (s.nowOn .ln)) } } := .nvme s _ (by decide)
  have hrun : s.finishCmd k = ((s.nvme.cmds.filter (fun c => c.waits == [k])).map (·.id)).foldl (fun s k => s.dispatch k)
      (({ s with nvme := { s.nvme with cmds := s.nvme.cmds.map (Cmd.without k (s.nowOn .ln)) } } : Dev).sweep k) := rfl
  generalize ({ s with nvme := { s.nvme with cmds := s.nvme.cmds.map (Cmd.without k (s.nowOn .ln)) } } : Dev) = m at hcmd hstep hrun
  have hfold := Dev.SentOn.foldl ((s.nvme.cmds.filter (fun c => c.waits == [k])).map (·.id)) (m.sweep k)
  have hback : ∀ j y, (s.finishCmd k).cmd j = some y → ∃ x, s.cmd j = some x ∧ y.ordered = (x.without k (s.nowOn .ln)).ordered := by
    intro j y hy
    rw [hrun] at hy
    obtain ⟨z, hz, hord⟩ := hfold.back hy
    have hzm : m.cmd j = some z := by
      by_cases hj : j = k
      · subst hj
        exact (m.cmd_sweep_self j).elim (fun h => absurd (h.symm.trans hz) (by simp)) (fun h => h ▸ hz)
      · rw [← m.cmd_sweep_other hj]
        exact hz
    rw [hcmd] at hzm
    obtain ⟨x, hx, rfl⟩ := Option.map_eq_some_iff.mp hzm
    exact ⟨x, hx, hord⟩
  refine ⟨?_, fun y hy => ?_, fun j hj y hy => ?_, fun j hj x hx hw hc y hy => ?_⟩
  · rw [hrun]
    exact (hstep.trans (m.step_sweep k)).trans hfold.step
  · obtain ⟨x, hx, hord⟩ := hback k y hy
    have hself : x.without k (s.nowOn .ln) = x.leftAt (s.nowOn .ln) := if_pos (s.cmd_id hx)
    rw [hself] at hord
    have hst := Cmd.field_of_ordered Cmd.status (fun _ => rfl) hord
    exact ⟨Cmd.field_of_ordered Cmd.finished (fun _ => rfl) hord, x, hx, hst⟩
  · obtain ⟨x, hx, hord⟩ := hback j y hy
    rw [Cmd.field_of_ordered Cmd.waits (fun _ => rfl) hord]
    exact Cmd.without_waits (by rw [s.cmd_id hx]; exact hj)
  · obtain ⟨x', hx', hord⟩ := hback j y hy
    obtain rfl : x = x' := Option.some.inj (hx.symm.trans hx')
    have hready : j ∈ (s.nvme.cmds.filter (fun c => c.waits == [k])).map (·.id) :=
      List.mem_map.mpr ⟨x, List.mem_filter.mpr ⟨List.mem_of_find?_eq_some hx, beq_iff_eq.mpr hw⟩, s.cmd_id hx⟩
    have hcancel : y.cancelled = false := by
      rw [Cmd.field_of_ordered Cmd.cancelled (fun _ => rfl) hord]
      unfold Cmd.without
      split
      · exact hc
      · split <;> exact hc
    exact (hfold.sent j hready y (hrun ▸ hy)).resolve_right (by rw [hcancel]; exact Bool.false_ne_true)

end Sending

end Sys2Proof.Machine

/-!
PROOF. A command finishes: it leaves the tracker and frees those that waited for it (04 R176, R177).
-/
namespace Sys2Proof.Machine

section Finishing

variable {s : State} {k : Nat} {c : Cmd}

/-- The counters of a command that finishes. -/
def finishCtrs : List Ctr := [.FE_PI_ERR] ++ workCtrs

/-- A command given its status by a step that leaves the others. -/
structure Dev.Judged (k : Nat) (a b : Dev) : Prop where
  step : Dev.Step workParts [] finishCtrs a b
  self : ∃ y, b.cmd k = some y ∧ y.status.isSome = true
  others : ∀ j, j ≠ k → b.cmd j = a.cmd j

theorem Dev.Judged.setCmd {a b : Dev} {y : Cmd} (h : Dev.Step workParts [] finishCtrs a b) (hn : b.nvme = a.nvme) (hc : a.cmd k = some c) (hid : y.id = k)
    (hs : y.status.isSome = true) : Dev.Judged k a (b.setCmd y) := by
  have hcmd : ∀ j, b.cmd j = a.cmd j := fun j => by rw [Dev.cmd, hn]; rfl
  exact ⟨h.trans (.nvme b _ (by decide)), ⟨y, b.cmd_setCmd_at ((hcmd k).trans hc) hid, hs⟩,
    fun j hj => (b.cmd_setCmd_other y (hid ▸ hj)).trans (hcmd j)⟩

/-- The outcome of a read or Compare is its status (04 R43, R170, R189, R190). -/
theorem Dev.judged_readOutcome (s : Dev) (hc : s.cmd k = some c) : Dev.Judged k s (s.readOutcome c) := by
  have hid : c.id = k := s.cmd_id hc
  have hpi : Dev.Step workParts [] finishCtrs s (s.count .FE_PI_ERR) := .count s _ _ _ (by decide)
  unfold Dev.readOutcome
  dsimp only
  split
  · exact .setCmd (.event s _ _ _ _) rfl hc hid rfl
  · split
    · exact .setCmd (hpi.trans (.event _ _ _ _ _)) rfl hc hid rfl
    · split
      · exact .setCmd (.refl s) rfl hc hid rfl
      · exact .setCmd (.refl s) rfl hc hid rfl

/-- What a finished command leaves (04 R176, R177). -/
theorem commandFinish_answers (hc : s.dev.cmd k = some c) (hio : c.io = true) (hn : c.finished = false) (hm : s.dev.mayFinish c = true) :
    Answers (.commandFinish k) s (fun t => ((t.dev.cmd k).all (fun x => x.finished && x.status.isSome == (c.status.isSome || c.op.reads))) = true ∧
      (∀ j, j ≠ k → ((t.dev.cmd j).all (fun x => !x.waits.contains k)) = true) ∧
      (∀ j, j ≠ k → ((s.dev.cmd j).all (fun x => x.waits != [k] || x.cancelled || (t.dev.cmd j).all (fun y => y.dispatched))) = true) ∧
      Dev.OnlyChanged workParts [] finishCtrs s.dev t.dev) := by
  have hc' : s.dev.quiet.cmd k = some c := hc
  have hm' : s.dev.quiet.mayFinish c = true := hm
  have hx : exec (.commandFinish k) s = s.run (fun _ =>
      (if c.op.reads && c.status.isNone then s.dev.quiet.readOutcome c else s.dev.quiet).finishCmd k) := by
    refine State.run_eq_of_quiet ?_
    simp only [hc', hn, hm', hio, Bool.not_true, Bool.or_self, Bool.false_eq_true, Bool.true_or, if_false, if_true]
  obtain ⟨hstep, ⟨x, hx₁, hst⟩, hothers⟩ : Dev.Step workParts [] finishCtrs s.dev.quiet
        (if c.op.reads && c.status.isNone then s.dev.quiet.readOutcome c else s.dev.quiet) ∧
      (∃ x, (if c.op.reads && c.status.isNone then s.dev.quiet.readOutcome c else s.dev.quiet).cmd k = some x ∧
        x.status.isSome = (c.status.isSome || c.op.reads)) ∧
      ∀ j, j ≠ k → (if c.op.reads && c.status.isNone then s.dev.quiet.readOutcome c else s.dev.quiet).cmd j = s.dev.cmd j := by
    split
    · next hr =>
      obtain ⟨hstep, ⟨y, hy, hst⟩, hothers⟩ := s.dev.quiet.judged_readOutcome hc'
      refine ⟨hstep, ⟨y, hy, ?_⟩, hothers⟩
      rw [hst, ((Bool.and_eq_true _ _).mp hr).1, Bool.or_true]
    · next hr =>
      refine ⟨.refl _, ⟨c, hc', ?_⟩, fun _ _ => rfl⟩
      cases hs : c.status with
      | some _ => rfl
      | none =>
        rw [hs] at hr
        simpa using hr
  generalize (if c.op.reads && c.status.isNone then s.dev.quiet.readOutcome c else s.dev.quiet) = d at hx hstep hx₁ hothers
  have hfin := d.finishes_finishCmd (k := k)
  generalize d.finishCmd k = e at hx hfin
  have hcmd : ∀ j, (s.after (fun _ => e)).dev.cmd j = e.cmd j := State.after_cmd
  refine .of_run hx ⟨?_, fun j hj => ?_, fun j hj => ?_, (hstep.trans (hfin.step.mono (by decide) (List.Subset.refl _) (by decide))).after⟩
  · rw [hcmd, Option.all_eq_true]
    intro y hy
    obtain ⟨hdone, z, hz, hstat⟩ := hfin.self y hy
    obtain rfl : x = z := Option.some.inj (hx₁.symm.trans hz)
    rw [hdone, hstat, hst, beq_self_eq_true, Bool.and_self]
  · rw [hcmd, Option.all_eq_true]
    exact fun y hy => by rw [hfin.freed j hj y hy]; rfl
  · rw [hcmd, Option.all_eq_true]
    intro z hz
    by_cases hw : z.waits = [k]
    · by_cases hcan : z.cancelled = true
      · rw [hcan, Bool.or_true, Bool.true_or]
      · rw [Bool.or_eq_true]
        right
        rw [Option.all_eq_true]
        exact hfin.sent j hj z ((hothers j hj).trans hz) hw (Bool.eq_false_iff.mpr hcan)
    · rw [bne_iff_ne.mpr hw, Bool.true_or, Bool.true_or]

end Finishing

end Sys2Proof.Machine

/-!
PROOF. COMPLETION_ISSUE (04 R153, R174, R182): the completion goes onto its queue pair, or into its completion queue, once.
-/
namespace Sys2Proof.Machine

section Completing

variable (s : Dev) {a b d : Dev} {k : Nat} {c x y : Cmd} {cs : List Ctr}

/-- The queues of a controller over PCIe. -/
def Ctrl.rings (c : Ctrl) : Table Sq × Table Cq := (c.sqs, c.cqs)

/-- A step of a completion that leaves the commands and the queues. -/
structure Dev.Accounts (cs : List Ctr) (a b : Dev) : Prop where
  step : Dev.Step [.nvme, .ten, .evr] [] cs a b
  cmds : b.nvme.cmds = a.nvme.cmds
  rings : ∀ j, (b.ctrl j).map Ctrl.rings = (a.ctrl j).map Ctrl.rings

namespace Dev.Accounts

theorem refl (s : Dev) : Dev.Accounts cs s s := ⟨.refl s, rfl, fun _ => rfl⟩

theorem trans (h : Dev.Accounts cs a b) (k : Dev.Accounts cs b d) : Dev.Accounts cs a d :=
  ⟨h.step.trans k.step, k.cmds.trans h.cmds, fun j => (k.rings j).trans (h.rings j)⟩

/-- A step that leaves the commands and the controllers. -/
theorem aside (h : Dev.Step [.nvme, .ten, .evr] [] cs a b) (hn : b.nvme.cmds = a.nvme.cmds) (hc : b.nvme.ctrls = a.nvme.ctrls) : Dev.Accounts cs a b :=
  ⟨h, hn, fun j => by rw [Dev.ctrl, hc]; rfl⟩

theorem ite {p : Prop} [Decidable p] (hb : p → Dev.Accounts cs a b) (hc : ¬p → Dev.Accounts cs a d) : Dev.Accounts cs a (if p then b else d) := by
  split
  · exact hb ‹_›
  · exact hc ‹_›

/-- The controller's record of its errors. -/
theorem setCtrl (s : Dev) {j : Nat} {x z : Ctrl} (hx : s.ctrl j = some x) (hr : z.rings = x.rings) : Dev.Accounts cs s (s.setCtrl j z) := by
  refine ⟨.nvme s _ (by decide), rfl, fun i => ?_⟩
  by_cases hi : i = j
  · rw [hi, s.ctrl_setCtrl_self, hx]
    exact congrArg some hr
  · rw [s.ctrl_setCtrl_other _ hi]

theorem meterCount (s : Dev) (t : Nat) (f : MeterRec → MeterRec) : Dev.Accounts cs s (s.meterCount t f) := by
  have h := Dev.Step.meterCount (ps := []) (xs := []) (cs := []) s t f
  have hn := h.nvme_eq List.not_mem_nil
  exact aside (.meterCount s t f) (by rw [hn]) (by rw [hn])

theorem commandOver (s : Dev) (c : Cmd) (ok : Bool) (n : Nat) : Dev.Accounts cs s (s.commandOver c ok n) := by
  unfold Dev.commandOver
  split
  · exact .refl s
  · extract_lets t s₁ nv s₂ tn
    have h₁ : Dev.Accounts cs s s₁ := meterCount s _ _
    have h₂ : Dev.Accounts cs s s₂ := by
      refine h₁.trans (.ite (fun _ => ?_) (fun _ => .refl _))
      split
      · exact .aside (.nvme s₁ _ (by decide)) rfl rfl
      · exact .aside (.nvme s₁ _ (by decide)) rfl rfl
      · exact .refl _
    clear_value s₂
    exact .ite (fun _ => h₂.trans (.aside (.ten s₂ _ (by decide)) rfl rfl)) (fun _ => h₂)

theorem sampleEnd (s : Dev) (c : Cmd) (n : Nat) : Dev.Accounts cs s (s.sampleEnd c n) := by
  unfold Dev.sampleEnd
  split
  · exact .refl s
  · exact .aside (.evr s _ (by decide)) rfl rfl

theorem capCharge (s : Dev) (n : Nat) : Dev.Accounts cs s (s.capCharge n) := by
  unfold Dev.capCharge
  exact .ite (fun _ => .refl s) (fun _ => .aside (.nvme s _ (by decide)) rfl rfl)

theorem emit (s : Dev) (o : Out) : Dev.Accounts cs s (s.emit o) := .aside (.emit s o) rfl rfl

end Dev.Accounts

/-- The counters of errors. -/
def errorCtrs : List Ctr := [.FE_CMD_ERR, .FE_RESV_CONFLICT]

/-- A command that fails is counted, and entered in its controller's error log (04 R174). -/
def Dev.erred (s : Dev) (c : Cmd) (st : Nat) : Dev :=
  let d := s.count .FE_CMD_ERR
  let d := if st = stConflict then d.count .FE_RESV_CONFLICT else d
  let d := if st = stOpcode ∨ st = stField then { d with nvme := { d.nvme with invalids := d.nvme.invalids + 1 } } else d
  match d.ctrl c.ctrl with
  | some x => d.setCtrl c.ctrl { x with
      errCount := x.errCount + 1
      errLog := ((⟨x.errCount + 1, c.sqid, c.cid, st, c.errLba.getD 0, c.nsid⟩ : ErrEntry) :: x.errLog).take 64 }
  | none => d

theorem Dev.accounts_erred (c : Cmd) (st : Nat) : Dev.Accounts errorCtrs s (s.erred c st) ∧
    (s.erred c st).ctr .FE_CMD_ERR = (s.ctr .FE_CMD_ERR + 1) % 2 ^ 64 ∧
    (st = stConflict → (s.erred c st).ctr .FE_RESV_CONFLICT = (s.ctr .FE_RESV_CONFLICT + 1) % 2 ^ 64) := by
  unfold Dev.erred
  extract_lets d₁ d₂ nv d₃
  have h₁ : Dev.Accounts errorCtrs s d₁ := .aside (.count s _ _ _ (by decide)) rfl rfl
  have h₂ : Dev.Accounts errorCtrs s d₂ := h₁.trans (.ite (fun _ => .aside (.count _ .FE_RESV_CONFLICT _ _ (by decide)) rfl rfl) (fun _ => .refl _))
  have h₃ : Dev.Accounts errorCtrs s d₃ := h₂.trans (.ite (fun _ => .aside (.nvme _ _ (by decide)) rfl rfl) (fun _ => .refl _))
  have hctrs : d₃.ctrs = d₂.ctrs := by
    dsimp only [d₃]
    split <;> rfl
  have hone : d₂.ctr .FE_CMD_ERR = (s.ctr .FE_CMD_ERR + 1) % 2 ^ 64 := by
    have h : d₂.ctr .FE_CMD_ERR = d₁.ctr .FE_CMD_ERR := by
      dsimp only [d₂]
      split
      · exact Dev.ctr_count_other _ _ (.inl (by decide))
      · rfl
    rw [h]
    exact Dev.ctr_count_self ..
  have hcon : st = stConflict → d₂.ctr .FE_RESV_CONFLICT = (s.ctr .FE_RESV_CONFLICT + 1) % 2 ^ 64 := fun hst => by
    dsimp only [d₂]
    rw [if_pos hst, Dev.ctr_count_self]
    exact congrArg (fun n => (n + 1) % 2 ^ 64) (Dev.ctr_count_other _ _ (.inl (by decide)))
  have hc3 : ∀ e, d₃.ctr e = d₂.ctr e := fun e => by rw [Dev.ctr, hctrs]; rfl
  clear_value d₃
  split
  · next x hx => exact ⟨h₃.trans (.setCtrl d₃ hx rfl), (hc3 _).trans hone, fun h => (hc3 _).trans (hcon h)⟩
  · exact ⟨h₃, (hc3 _).trans hone, fun h => (hc3 _).trans (hcon h)⟩

end Completing

end Sys2Proof.Machine

/-!
PROOF. A completion issued to its queue pair (04 R153).
-/
namespace Sys2Proof.Machine

section Issuing

variable {s : State} {a b d : Dev} {k i q : Nat} {c : Cmd} {x z : Ctrl} {cs : List Ctr}

/-- The device once a completion is issued and before its transport has it. -/
def Dev.judged (s : Dev) (c : Cmd) : Dev :=
  if c.status.getD 0 = 0 then s.setCmd { c with completed := true } else (s.setCmd { c with completed := true }).erred c (c.status.getD 0)

/-- What follows a completion (05; 15 R609). -/
def Dev.overAndOut (s : Dev) (c : Cmd) (k : Nat) : Dev :=
  ((s.commandOver c (c.status.getD 0 == 0) (c.lbas.length * s.hostBlock c)).sampleEnd c (c.status.getD 0 % 2048)).sweep k

/-- What a command judged leaves of the commands, the queues and the counters. -/
structure Dev.Judges (k : Nat) (c : Cmd) (a b : Dev) : Prop where
  step : Dev.Step [.nvme, .ten, .evr] [] errorCtrs a b
  self : ((b.cmd k).all (fun x => x.completed)) = true
  rings : ∀ j, (b.ctrl j).map Ctrl.rings = (a.ctrl j).map Ctrl.rings
  errors : c.status.getD 0 ≠ 0 → b.ctr .FE_CMD_ERR = (a.ctr .FE_CMD_ERR + 1) % 2 ^ 64
  conflicts : c.status = some 0x083 → b.ctr .FE_RESV_CONFLICT = (a.ctr .FE_RESV_CONFLICT + 1) % 2 ^ 64

theorem Dev.judges_judged (s : Dev) (hc : s.cmd k = some c) : Dev.Judges k c s (s.judged c) := by
  have hid : c.id = k := s.cmd_id hc
  have hset : (s.setCmd { c with completed := true }).cmd k = some { c with completed := true } := s.cmd_setCmd_at hc hid
  have hstep : Dev.Step [.nvme, .ten, .evr] [] errorCtrs s (s.setCmd { c with completed := true }) := .nvme s _ (by decide)
  unfold Dev.judged
  split
  · next h0 =>
    refine ⟨hstep, by rw [hset]; rfl, fun _ => rfl, fun h => absurd h0 h, fun h => ?_⟩
    rw [h] at h0
    exact absurd h0 (by decide)
  · obtain ⟨hacc, herr, hcon⟩ := (s.setCmd { c with completed := true }).accounts_erred c (c.status.getD 0)
    refine ⟨hstep.trans hacc.step, ?_, hacc.rings, fun _ => herr, fun h => hcon (by rw [h]; rfl)⟩
    rw [Dev.cmd, hacc.cmds]
    exact (congrArg (fun o => Option.all (fun x => x.completed) o) hset).trans rfl

/-- The end of a completion keeps what it says, but forgets a command that is over and finished. -/
theorem Dev.accounts_overAndOut (s : Dev) (c : Cmd) (k : Nat) : ∃ e, Dev.Accounts [] s e ∧ s.overAndOut c k = e.sweep k :=
  ⟨_, (Dev.Accounts.commandOver s c _ _).trans (.sampleEnd _ _ _), rfl⟩

/-- A step that sweeps the command. -/
theorem Dev.sweep_spec (s : Dev) (k : Nat) : Dev.Step [.nvme] [] [] s (s.sweep k) ∧ (s.sweep k).nvme.ctrls = s.nvme.ctrls := by
  unfold Dev.sweep
  split
  · split
    · exact ⟨.nvme s _ (by decide), rfl⟩
    · exact ⟨.refl s, rfl⟩
  · exact ⟨.refl s, rfl⟩

theorem Dev.overAndOut_spec (s : Dev) (c : Cmd) (k : Nat) : Dev.Step [.nvme, .ten, .evr] [] [] s (s.overAndOut c k) ∧
    (((s.cmd k).all (fun x => x.completed)) = true → (((s.overAndOut c k).cmd k).all (fun x => x.completed)) = true) ∧
    ∀ j, ((s.overAndOut c k).ctrl j).map Ctrl.rings = (s.ctrl j).map Ctrl.rings := by
  obtain ⟨e, hacc, he⟩ := s.accounts_overAndOut c k
  obtain ⟨hsweep, hctrls⟩ := e.sweep_spec k
  have hcmd : e.cmd k = s.cmd k := by rw [Dev.cmd, hacc.cmds]; rfl
  rw [he]
  refine ⟨hacc.step.trans (hsweep.mono (by decide) (List.Subset.refl _) (List.Subset.refl _)), fun h => ?_, fun j => ?_⟩
  · rcases e.cmd_sweep_self k with hn | hs
    · rw [hn]
      rfl
    · rw [hs, hcmd]
      exact h
  · rw [← hacc.rings j, Dev.ctrl, hctrls]
    rfl

/-- The capsule a completion over fabrics sends (04 R174). -/
def Dev.completionCapsule (s : Dev) (c : Cmd) : Capsule :=
  ⟨c.id, c.cid, c.status.getD 0, c.dnr, c.dw0,
    (match c.buf with | .keyed _ _ key true => if c.status.getD 0 = 0 then some key.toNat else none | _ => none), false, s.cmdClass c⟩

/-- The completion goes to its transport. -/
def Dev.handed (s : Dev) (c : Cmd) : Dev :=
  match c.src with
  | .fabric i => s.setQp i { s.qp i with sendQ := (s.qp i).sendQ ++ [s.completionCapsule c] }
  | .pcie fn q =>
    let d := if c.status.getD 0 = 0 ∧ c.op = CmdOp.read then (s.capCharge c.data.length).emit (.dmaData (epOfNvme fn) c.id c.data) else s
    let d := if c.status.getD 0 = 0 ∧ !c.reply.isEmpty then d.emit (.reply c.id c.reply) else d
    d.placeCqe fn.val q c.cid (c.status.getD 0) c.dw0 c.dnr
  | .bond k tag => (s.bondSend k.val bondCompletionType 0 (64 + c.data.length)).emit
      (.bondCompletion k.val tag (c.status.getD 0) c.dw0 c.dnr (if c.status.getD 0 = 0 ∧ c.op = CmdOp.read then c.data else []))

theorem exec_completionIssue (hc : s.dev.cmd k = some c) (hm : s.dev.mayComplete c = true) :
    exec (.completionIssue k) s = s.run (fun _ => ((s.dev.quiet.judged c).handed c).overAndOut c k) := by
  have hc' : s.dev.quiet.cmd k = some c := hc
  have hm' : s.dev.quiet.mayComplete c = true := hm
  refine State.run_eq_of_quiet ?_
  rw [hc']
  exact if_neg (by rw [hm']; exact Bool.false_ne_true)

/-- A queue pair with the completion queued on it. -/
def Dev.queued (s : Dev) (i : Nat) (c : Cmd) : Qp := { s.qp i with sendQ := (s.qp i).sendQ ++ [s.completionCapsule c] }

theorem fabricCompletion_answers (hc : s.dev.cmd k = some c) (hm : s.dev.mayComplete c = true) (hsrc : c.src = .fabric i) :
    Answers (.completionIssue k) s (fun t =>
      t.dev.qp i = { s.dev.qp i with sendQ := (s.dev.qp i).sendQ ++ [s.dev.completionCapsule c] } ∧
      (∀ j, j ≠ i → t.dev.qp j = s.dev.qp j) ∧ ((t.dev.cmd k).all (fun x => x.completed)) = true ∧ t.dev.rdma.mem = s.dev.rdma.mem ∧
      (c.status = some 0x083 → t.dev.ctr .FE_RESV_CONFLICT = (s.dev.ctr .FE_RESV_CONFLICT + 1) % 2 ^ 64) ∧
      (c.status ≠ some 0 → t.dev.ctr .FE_CMD_ERR = (s.dev.ctr .FE_CMD_ERR + 1) % 2 ^ 64) ∧
      Dev.OnlyChanged [.rdma, .nvme, .ten, .evr] [] errorCtrs s.dev t.dev) := by
  have hc' : s.dev.quiet.cmd k = some c := hc
  have hsome : c.status.isSome = true := by
    simp only [Dev.mayComplete, Bool.and_eq_true] at hm
    tauto
  have hx := exec_completionIssue hc hm
  have hj := s.dev.quiet.judges_judged hc'
  generalize s.dev.quiet.judged c = e at hx hj
  have hq : e.rdma = s.dev.rdma := hj.step.rdma_eq (by decide)
  have hmem : e.rdma.mem = s.dev.rdma.mem := by rw [hq]
  have hqp : ∀ j, e.qp j = s.dev.qp j := fun j => by rw [Dev.qp, hq]; rfl
  have hcap : e.completionCapsule c = s.dev.completionCapsule c := by
    have hcls : e.cmdClass c = s.dev.cmdClass c := by
      unfold Dev.cmdClass
      rw [hj.step.fld List.not_mem_nil]
      rfl
    rw [Dev.completionCapsule, hcls]
    rfl
  have hsent : e.handed c = e.setQp i (s.dev.queued i c) := by
    unfold Dev.handed
    simp only [hsrc, hqp, hcap]
    rfl
  rw [hsent] at hx
  obtain ⟨hover, hdone, -⟩ := (e.setQp i (s.dev.queued i c)).overAndOut_spec c k
  have hput : Dev.Step [.rdma, .nvme, .ten, .evr] [] errorCtrs e
      (e.setQp i (s.dev.queued i c)) := .rdma e _ (by decide)
  have hctrs : ∀ f, (e.setQp i (s.dev.queued i c)).ctr f = e.ctr f := fun _ => rfl
  have hself := e.qp_setQp_self i (s.dev.queued i c)
  have hothers : ∀ j, j ≠ i → (e.setQp i (s.dev.queued i c)).qp j = s.dev.qp j :=
    fun j hj => (e.qp_setQp_other _ _ _ hj).trans (hqp j)
  have hmem' : (e.setQp i (s.dev.queued i c)).rdma.mem = s.dev.rdma.mem :=
    hmem
  have hcmd : ((e.setQp i (s.dev.queued i c)).cmd k).all (fun x => x.completed) = true := hj.self
  generalize e.setQp i (s.dev.queued i c) = d at hx hover hdone hput hctrs hself hothers hmem' hcmd
  have hr : (d.overAndOut c k).rdma = d.rdma := hover.rdma_eq (by decide)
  have hq' : ∀ j, (d.overAndOut c k).qp j = d.qp j := fun j => by rw [Dev.qp, hr]; rfl
  have hstep : Dev.Step [.rdma, .nvme, .ten, .evr] [] errorCtrs s.dev.quiet (d.overAndOut c k) :=
    ((hj.step.mono (by decide) (List.Subset.refl _) (List.Subset.refl _)).trans hput).trans (hover.mono (by decide) (List.Subset.refl _) (List.nil_subset _))
  refine .of_run hx ⟨?_, fun j hne => ?_, ?_, ?_, fun h => ?_, fun h => ?_, hstep.after⟩
  · exact (State.after_qp i).trans ((hq' i).trans hself)
  · exact (State.after_qp j).trans ((hq' j).trans (hothers j hne))
  · rw [State.after_cmd]
    exact hdone hcmd
  · rw [State.after_rdma, hr]
    exact hmem'
  · rw [State.after_ctr _ _ _ (by decide), hover.ctr List.not_mem_nil (by decide), hctrs]
    exact hj.conflicts h
  · rw [State.after_ctr _ _ _ (by decide), hover.ctr List.not_mem_nil (by decide), hctrs]
    refine hj.errors fun h0 => h ?_
    obtain ⟨v, hv⟩ := Option.isSome_iff_exists.mp hsome
    rw [hv] at h0
    exact hv.trans (congrArg some h0)

end Issuing

end Sys2Proof.Machine

/-!
PROOF. A completion issued to its queue in host memory, and O24 (04 R153, R182; 13 R522, R535).
-/
namespace Sys2Proof.Machine

section PcieCompletions

variable {s : State} {a b d : Dev} {k q fn : Nat} {c : Cmd} {x : Ctrl}

/-- A vector signalled, or waiting (13 R535). -/
theorem Dev.step_msixSend (s : Dev) (f v : Nat) : Dev.Step [.nvme, .ep] [] [.EP_MSIX_SENT] s (s.msixSend f v) ∧ (s.msixSend f v).nvme = s.nvme := by
  unfold Dev.msixSend
  dsimp only
  split
  · exact ⟨(Dev.Step.count s .EP_MSIX_SENT _ _ (by decide)).trans (.emit _ _), rfl⟩
  · split
    · exact ⟨.refl s, rfl⟩
    · exact ⟨.ofParts (fun p hp => by cases p with | ep => exact absurd (by decide) hp | _ => rfl) rfl rfl rfl rfl rfl rfl, rfl⟩

/-- The completion queue of a submission queue (13 R516). -/
def Ctrl.cqOf (c : Ctrl) (q : Nat) : Nat := if q = 0 then 0 else (c.sq q).cq

/-- A controller with an entry more in a completion queue. -/
def Ctrl.enqueued (c : Ctrl) (q : Nat) : Ctrl :=
  { c with cqs := c.cqs.put {} (c.cqOf q) { c.cqs.get {} (c.cqOf q) with
      tail := if (c.cqs.get {} (c.cqOf q)).size = 0 then 0 else ((c.cqs.get {} (c.cqOf q)).tail + 1) % (c.cqs.get {} (c.cqOf q)).size } }

/-- What a completion queue entry leaves: the entry sent, the tail moved on. -/
structure Dev.Enqueues (k q : Nat) (o : Out) (x : Ctrl) (a b : Dev) : Prop where
  step : Dev.Step [.nvme, .ep] [] [.EP_MSIX_SENT] a b
  cmds : b.nvme.cmds = a.nvme.cmds
  ctrl : b.ctrl k = some (x.enqueued q)
  sent : o ∈ b.out

theorem Dev.enqueues_placeCqe (s : Dev) (hx : s.ctrl (pcieCtrl fn) = some x) (q cid st dw0 : Nat) (dnr : Bool) :
    Dev.Enqueues (pcieCtrl fn) q (.cqe (epOfNvme fn) (x.cqOf q) q cid st dw0 dnr) x s (s.placeCqe fn q cid st dw0 dnr) := by
  have hset : Dev.Step [.nvme, .ep] [] [.EP_MSIX_SENT] s (s.setCtrl (pcieCtrl fn) (x.enqueued q)) := .nvme s _ (by decide)
  have hemit : Dev.Step [.nvme, .ep] [] [.EP_MSIX_SENT] s
      ((s.setCtrl (pcieCtrl fn) (x.enqueued q)).emit (.cqe (epOfNvme fn) (x.cqOf q) q cid st dw0 dnr)) := hset.trans (.emit _ _)
  have hput := s.ctrl_setCtrl_self (pcieCtrl fn) (x.enqueued q)
  have hout : Out.cqe (epOfNvme fn) (x.cqOf q) q cid st dw0 dnr ∈
      ((s.setCtrl (pcieCtrl fn) (x.enqueued q)).emit (.cqe (epOfNvme fn) (x.cqOf q) q cid st dw0 dnr)).out := List.mem_append_right _ (List.mem_singleton.mpr rfl)
  have hrun : s.placeCqe fn q cid st dw0 dnr = if (x.cqs.get {} (x.cqOf q)).irq then
      ((s.setCtrl (pcieCtrl fn) (x.enqueued q)).emit (.cqe (epOfNvme fn) (x.cqOf q) q cid st dw0 dnr)).msixSend (epOfNvme fn) (x.cqs.get {} (x.cqOf q)).vec
      else (s.setCtrl (pcieCtrl fn) (x.enqueued q)).emit (.cqe (epOfNvme fn) (x.cqOf q) q cid st dw0 dnr) := by
    unfold Dev.placeCqe
    simp only [hx]
    rfl
  have hcmds : ((s.setCtrl (pcieCtrl fn) (x.enqueued q)).emit (.cqe (epOfNvme fn) (x.cqOf q) q cid st dw0 dnr)).nvme.cmds = s.nvme.cmds := rfl
  have hctrl : ((s.setCtrl (pcieCtrl fn) (x.enqueued q)).emit (.cqe (epOfNvme fn) (x.cqOf q) q cid st dw0 dnr)).ctrl (pcieCtrl fn) = some (x.enqueued q) := hput
  rw [hrun]
  generalize (s.setCtrl (pcieCtrl fn) (x.enqueued q)).emit (.cqe (epOfNvme fn) (x.cqOf q) q cid st dw0 dnr) = e at hemit hout hcmds hctrl
  split
  · obtain ⟨hstep, hn⟩ := e.step_msixSend (epOfNvme fn) (x.cqs.get {} (x.cqOf q)).vec
    exact ⟨hemit.trans hstep, by rw [hn]; exact hcmds, by rw [Dev.ctrl, hn]; exact hctrl, hstep.out.subset hout⟩
  · exact ⟨hemit, hcmds, hctrl, hout⟩

/-- The data and the reply of a completion over PCIe go before it. -/
def Dev.withAnswer (s : Dev) (c : Cmd) (fn : Nat) : Dev :=
  let d := if c.status.getD 0 = 0 ∧ c.op = CmdOp.read then (s.capCharge c.data.length).emit (.dmaData (epOfNvme fn) c.id c.data) else s
  if c.status.getD 0 = 0 ∧ !c.reply.isEmpty then d.emit (.reply c.id c.reply) else d

theorem Dev.accounts_withAnswer (s : Dev) (c : Cmd) (fn : Nat) : Dev.Accounts [] s (s.withAnswer c fn) := by
  unfold Dev.withAnswer
  extract_lets d
  have h : Dev.Accounts [] s d := .ite (fun _ => (Dev.Accounts.capCharge s _).trans (.emit _ _)) (fun _ => .refl s)
  exact .ite (fun _ => h.trans (.emit _ _)) (fun _ => h)

/-- The counters of a completion over PCIe. -/
def pcieCtrs : List Ctr := [.FE_CMD_ERR, .FE_RESV_CONFLICT, .EP_MSIX_SENT]

theorem pcieCompletion_answers (fn : Fin 65) (hc : s.dev.cmd k = some c) (hm : s.dev.mayComplete c = true) (hsrc : c.src = .pcie fn q)
    (hx : s.dev.ctrl (pcieCtrl fn.val) = some x) :
    Answers (.completionIssue k) s (fun t => Out.cqe (epOfNvme fn.val) (x.cqOf q) q c.cid (c.status.getD 0) c.dw0 c.dnr ∈ t.dev.out ∧
      (∃ y, t.dev.ctrl (pcieCtrl fn.val) = some y ∧ y.sqs = x.sqs ∧ (y.cqs.get {} (x.cqOf q)).tail =
        ((x.cqs.get {} (x.cqOf q)).tail + 1) % (x.cqs.get {} (x.cqOf q)).size) ∧
      ((t.dev.cmd k).all (fun x => x.completed)) = true ∧ t.dev.rdma = s.dev.rdma ∧
      Dev.OnlyChanged [.nvme, .ten, .evr, .ep] [] pcieCtrs s.dev t.dev) := by
  have hc' : s.dev.quiet.cmd k = some c := hc
  have hsize : (x.cqs.get {} (x.cqOf q)).size ≠ 0 := by
    have h := hm
    simp only [Dev.mayComplete, hsrc, hx, Bool.and_eq_true, decide_eq_true_eq] at h
    exact h.2.2.1
  have hrun := exec_completionIssue hc hm
  have hj := s.dev.quiet.judges_judged hc'
  generalize s.dev.quiet.judged c = e at hrun hj
  have hw := e.accounts_withAnswer c fn
  have hhand : e.handed c = (e.withAnswer c fn).placeCqe fn.val q c.cid (c.status.getD 0) c.dw0 c.dnr := by
    unfold Dev.handed
    rw [hsrc]
    rfl
  rw [hhand] at hrun
  generalize e.withAnswer c fn = d at hrun hw
  obtain ⟨z, hz, hrings⟩ : ∃ z, d.ctrl (pcieCtrl fn) = some z ∧ z.rings = x.rings := by
    have h := (hw.rings (pcieCtrl fn)).trans (hj.rings _)
    have hxq : s.dev.quiet.ctrl (pcieCtrl fn) = some x := hx
    rw [hxq] at h
    exact Option.map_eq_some_iff.mp h
  have hsqs : z.sqs = x.sqs := congrArg Prod.fst hrings
  have hcqs : z.cqs = x.cqs := congrArg Prod.snd hrings
  have hcq : z.cqOf q = x.cqOf q := by
    unfold Ctrl.cqOf Ctrl.sq
    rw [hsqs]
  have henq := Dev.enqueues_placeCqe d hz q c.cid (c.status.getD 0) c.dw0 c.dnr
  rw [hcq] at henq
  have hdone : ((d.placeCqe fn q c.cid (c.status.getD 0) c.dw0 c.dnr).cmd k).all (fun x => x.completed) = true := by
    rw [Dev.cmd, henq.cmds, hw.cmds]
    exact hj.self
  generalize d.placeCqe fn q c.cid (c.status.getD 0) c.dw0 c.dnr = p at hrun henq hdone
  obtain ⟨hover, hkeeps, hkept⟩ := p.overAndOut_spec c k
  have hstep : Dev.Step [.nvme, .ten, .evr, .ep] [] pcieCtrs s.dev.quiet (p.overAndOut c k) :=
    (((hj.step.mono (by decide) (List.Subset.refl _) (by decide)).trans (hw.step.mono (by decide) (List.Subset.refl _) (List.nil_subset _))).trans
      (henq.step.mono (by decide) (List.Subset.refl _) (by decide))).trans (hover.mono (by decide) (List.Subset.refl _) (List.nil_subset _))
  refine .of_run hrun ⟨?_, ?_, ?_, ?_, hstep.after⟩
  · exact State.after_mem_out s (fun _ => p.overAndOut c k) (hover.out.subset henq.sent)
  · have h := hkept (pcieCtrl fn)
    rw [henq.ctrl] at h
    obtain ⟨y, hy, hyr⟩ := Option.map_eq_some_iff.mp h
    have hysqs : y.sqs = z.sqs := congrArg Prod.fst hyr
    have hycqs : y.cqs = (z.enqueued q).cqs := congrArg Prod.snd hyr
    refine ⟨y, (State.after_ctrl _).trans hy, hysqs.trans hsqs, ?_⟩
    rw [hycqs, Ctrl.enqueued, hcq, hcqs]
    dsimp only
    rw [Table.get_put_self, if_neg hsize]
  · rw [State.after_cmd]
    exact hkeeps hdone
  · rw [State.after_rdma, hstep.rdma_eq (by decide)]
    rfl

end PcieCompletions

/-- Settles O24: the reservation commands, the ends of a command, and its completion by either transport. -/
theorem reservationsAndOutcomes : Obligations.ReservationsAndOutcomes := by
  unfold Obligations.ReservationsAndOutcomes
  refine ⟨fun s src k c cid g x ha hok hf hn hact hnew hroom => ?_, fun s src k c cid g x ha hok hf hn hact ht hk hfree => ?_,
    fun s src k c cid g x ha hok hf hn hact ht hk hr hh hany => ?_, fun s src k c cid g x ha hok hf hn hact hk ht hh => ?_,
    fun s src k c cid g eds ha hok hf hn => reservationReport_answers cid eds ha hok hf hn,
    fun s k c hc hop hst hw => preemptWaitEnd_answers hc hop hst hw, fun s k c hf hc hio hn ht => commandTimeout_answers hf hc hio hn ht,
    fun s k c hc hio hn hm => commandFinish_answers hc hio hn hm, fun s k i c hc hm hsrc => ?_,
    fun s k q fn c x hc hm hsrc hx => pcieCompletion_answers fn hc hm hsrc hx⟩
  · exact reservationRegister_answers cid ha hok hf hn hact hnew hroom
  · refine (reservationAcquire_answers cid ha hok hf hn hact ht hk hfree).imp fun t ⟨hself, hothers, ⟨y, hy, hst, hcid, _⟩, hch⟩ => ?_
    exact ⟨hself, hothers, ⟨y, hy, hst, hcid⟩, hch⟩
  · refine (reservationPreempt_answers cid ha hok hf hn hact ht hk hr hh hany).imp fun t ⟨hself, hothers, hcmd, htold, hch⟩ => ?_
    rw [hself]
    exact ⟨rfl, rfl, Resv.preemptedBy_regs _ _ _ _, hothers, hcmd, htold, hch⟩
  · refine (reservationRelease_answers cid ha hok hf hn hact hk ht hh).imp fun t ⟨hself, hothers, ⟨y, hy, hst, hcid, _⟩, hch⟩ => ?_
    exact ⟨hself, hothers, ⟨y, hy, hst, hcid⟩, hch⟩
  · refine (fabricCompletion_answers hc hm hsrc).imp fun t ⟨hself, hothers, hdone, hmem, hcon, herr, hch⟩ => ?_
    exact ⟨hself.trans rfl, hothers, hdone, hmem, hcon, herr, hch⟩

end Sys2Proof.Machine

/-!
PROOF. O25, namespaces and hosts (04 R196-R198; 08 R324): the settings stored, a namespace made active or inactive, and the host table.
-/
namespace Sys2Proof.Machine

section Hosts

variable {s : State} {via : Via} {host : Fin 1024} {v : Word} {k n : Nat}

/-- HOST_CFG as stored (04 R198). -/
def Dev.hostConfigured (s : Dev) (k : Nat) (v : Word) : Dev :=
  (((s.setFld .HOST_CFG_ENABLE k (bitOf v 31).toNat).setFld .HOST_CFG_PRIV k (bitOf v 30).toNat).setFld .HOST_CFG_MAX_CTRL k
    (clampTo 1 16 (bitsOf v 20 16))).setFld .HOST_CFG_TENANT k (bitsOf v 9 0)

def hostFlds : List Fld := [.HOST_CFG_ENABLE, .HOST_CFG_PRIV, .HOST_CFG_MAX_CTRL, .HOST_CFG_TENANT]

theorem Dev.hostConfigured_self (s : Dev) (k : Nat) (v : Word) :
    (s.hostConfigured k v).flag .HOST_CFG_ENABLE k = bitOf v 31 ∧ (s.hostConfigured k v).flag .HOST_CFG_PRIV k = bitOf v 30 ∧
    (s.hostConfigured k v).fld .HOST_CFG_MAX_CTRL k = clampTo 1 16 (bitsOf v 20 16) ∧ (s.hostConfigured k v).fld .HOST_CFG_TENANT k = bitsOf v 9 0 := by
  have hclamp : clampTo 1 16 (bitsOf v 20 16) % 2 ^ 5 = clampTo 1 16 (bitsOf v 20 16) := by
    refine Nat.mod_eq_of_lt ?_
    unfold clampTo
    split
    · decide
    · split <;> omega
  have hbit : ∀ b : Bool, (b.toNat % 2 ^ 1 != 0) = b := fun b => by cases b <;> rfl
  simp only [Dev.hostConfigured, Dev.flag, Dev.fld_setFld_self, Dev.fld_setFld_ne, ne_eq, reduceCtorEq, not_false_eq_true]
  exact ⟨hbit _, hbit _, hclamp, bitsOf_mod v rfl⟩

theorem Dev.hostConfigured_other (s : Dev) (v : Word) {j : Nat} (h : j ≠ k) (f : Fld) : (s.hostConfigured k v).fld f j = s.fld f j := by
  simp only [Dev.hostConfigured, Dev.fld_setFld_other _ _ (Or.inr h)]

theorem Dev.step_hostConfigured (s : Dev) (k : Nat) (v : Word) : Dev.Step [] hostFlds [] s (s.hostConfigured k v) :=
  (((Dev.Step.setFld _ _ _ _ (by decide)).trans (.setFld _ _ _ _ (by decide))).trans (.setFld _ _ _ _ (by decide))).trans
    (.setFld _ _ _ _ (by decide))

/-- A field that no answer writes is what the effect left. -/
theorem State.after_fld_answered {e d : Dev} {ps : List DevPart} (h : Dev.Step ps answerFlds [] e d) {f : Fld} (hf : f ∉ answerFlds) (j : Nat) :
    (s.after (fun _ => d)).dev.fld f j = e.fld f j := (State.after_fld ..).trans (h.fld hf j)

/-- The host a write of HOST_CFG names. -/
def Dev.hostNamed (s : Dev) (via : Via) (host : Nat) : Nat :=
  match via with
  | .reg _ => s.fld .HOST_SEL_INDEX
  | .dict _ => host

theorem hostCfgWrite_answers (hm : s.dev.commandMade via (Reg.addr .HOST_CFG) = true) (hk : s.dev.hostNamed via host.val = k)
    (hok : bitsOf v 9 0 = s.dev.fld .HOST_CFG_TENANT k ∨ s.dev.hostCtrls k = 0) :
    Answers (.hostCfgWrite via host v) s (fun t => t.dev.flag .HOST_CFG_ENABLE k = bitOf v 31 ∧ t.dev.flag .HOST_CFG_PRIV k = bitOf v 30 ∧
      t.dev.fld .HOST_CFG_MAX_CTRL k = clampTo 1 16 (bitsOf v 20 16) ∧ t.dev.fld .HOST_CFG_TENANT k = bitsOf v 9 0 ∧
      (∀ j, j ≠ k → t.dev.fld .HOST_CFG_TENANT j = s.dev.fld .HOST_CFG_TENANT j) ∧
      Dev.OnlyChanged [.fw, .od] (hostFlds ++ answerFlds) [] s.dev t.dev) := by
  have hk' : s.dev.quiet.hostNamed via host.val = k := hk
  have happly : ¬(bitsOf v 9 0 ≠ s.dev.quiet.fld .HOST_CFG_TENANT k ∧ s.dev.quiet.hostCtrls k ≠ 0) := fun ⟨h₁, h₂⟩ => hok.elim h₁ h₂
  have he : (s.dev.quiet.hostCfgWrite (s.dev.quiet.hostNamed via host.val) (bitOf v 31) (bitOf v 30) (bitsOf v 20 16) (bitsOf v 9 0)).2 =
      s.dev.quiet.hostConfigured k v := by
    rw [hk', Dev.hostCfgWrite, if_neg happly]
    rfl
  obtain ⟨d, hd, hstep⟩ := exec_viaCommand (c := .hostCfgWrite via host v) rfl hm he
  have hq : Dev.Step [.fw, .od] (hostFlds ++ answerFlds) [] s.dev.quiet d :=
    ((s.dev.quiet.step_hostConfigured k v).mono (List.nil_subset _) (by decide) (List.nil_subset _)).trans
      (hstep.mono (List.Subset.refl _) (by decide) (List.Subset.refl _))
  obtain ⟨hen, hpriv, hmax, hten⟩ := s.dev.quiet.hostConfigured_self k v
  refine .of_run hd ⟨?_, ?_, ?_, ?_, fun j hj => ?_, hq.after⟩
  · exact (congrArg (· != 0) (State.after_fld_answered hstep (by decide) k)).trans hen
  · exact (congrArg (· != 0) (State.after_fld_answered hstep (by decide) k)).trans hpriv
  · exact (State.after_fld_answered hstep (by decide) k).trans hmax
  · exact (State.after_fld_answered hstep (by decide) k).trans hten
  · exact (State.after_fld_answered hstep (by decide) j).trans (s.dev.quiet.hostConfigured_other v hj _)

/-- A refused write of a front-end configuration register is told (04 R196, R198). -/
theorem frontRefused_told {e d : Dev} {r : Reg} {ps : List DevPart} {xs : List Fld} (h : Dev.Step ps xs [] (e.frontRefused r) d) (hr : e.raised = [])
    (hn : e.nowOn .ln = s.dev.nowOn .ln) (hl : e.timeLoaded = s.dev.timeLoaded) :
    s.hears .ln → s.told (s.after (fun _ => d)) .ln 0x206 (le 8 (Reg.addr r)) :=
  State.told_of_prefix (by rw [hr]; exact Nat.zero_lt_succ _) h.raised hn hl

theorem hostCfgWrite_refused (hm : s.dev.commandMade via (Reg.addr .HOST_CFG) = true) (hk : s.dev.hostNamed via host.val = k)
    (hten : bitsOf v 9 0 ≠ s.dev.fld .HOST_CFG_TENANT k) (hlive : s.dev.hostCtrls k ≠ 0) :
    Answers (.hostCfgWrite via host v) s (fun t => (s.hears .ln → s.told t .ln 0x206 (le 8 (Reg.addr .HOST_CFG))) ∧
      Dev.OnlyChanged [.fw, .od] answerFlds [] s.dev t.dev) := by
  have hk' : s.dev.quiet.hostNamed via host.val = k := hk
  have hno : bitsOf v 9 0 ≠ s.dev.quiet.fld .HOST_CFG_TENANT k ∧ s.dev.quiet.hostCtrls k ≠ 0 := ⟨hten, hlive⟩
  have he : (s.dev.quiet.hostCfgWrite (s.dev.quiet.hostNamed via host.val) (bitOf v 31) (bitOf v 30) (bitsOf v 20 16) (bitsOf v 9 0)).2 =
      s.dev.quiet.frontRefused .HOST_CFG := by
    rw [hk', Dev.hostCfgWrite, if_pos hno]
  obtain ⟨d, hd, hstep⟩ := exec_viaCommand (c := .hostCfgWrite via host v) rfl hm he
  have hq : Dev.Step [.fw, .od] answerFlds [] s.dev.quiet d := (Dev.Step.event _ _ _ _ _).trans hstep
  exact .of_run hd ⟨frontRefused_told hstep rfl rfl rfl, hq.after⟩

end Hosts

end Sys2Proof.Machine

/-!
PROOF. A namespace made active or refused (04 R196, R197).
-/
namespace Sys2Proof.Machine

section Activation

variable {s : State} {via : Via} {ns : Fin 4096} {v : Word} {n : Nat}

theorem Dev.Step.cust {ps : List DevPart} {xs : List Fld} {cs : List Ctr} (s : Dev) (x : Custody) (h : .cust ∈ ps) :
    Dev.Step ps xs cs s { s with cust := x } :=
  .ofParts (fun p hp => by cases p with | cust => exact absurd h hp | _ => rfl) rfl rfl rfl rfl rfl rfl

theorem Dev.keySlot_setKeySlot_self (s : Dev) (kind i : Nat) (x : KeySlot) : (s.setKeySlot kind i x).keySlot kind i = x := Table.get_put_self ..

/-- The device fills a slot with a key of its own (07 R278). -/
theorem Dev.generateKey_spec (s : Dev) (kind i : Nat) : Dev.Step [.cust, .fresh] [] [] s (s.generateKey kind i) ∧
    ((s.generateKey kind i).keySlot kind i).state = .loaded := by
  have hdraw : Dev.Step [.cust, .fresh] [] [] s s.draw.2 := .fresh s _ (by decide)
  have hwrite : Dev.Step [.cust, .fresh] [] [] s (s.draw.2.writeCopies kind i s.draw.1) := hdraw.trans (.cust _ _ (by decide))
  refine ⟨(hwrite.trans (.cust _ _ (by decide))).trans (.event _ _ _ _ _), ?_⟩
  have h := (s.draw.2.writeCopies kind i s.draw.1).keySlot_setKeySlot_self kind i
    { (s.draw.2.writeCopies kind i s.draw.1).keySlot kind i with state := .loaded, key := s.draw.1, running := none }
  exact (congrArg KeySlot.state h).trans rfl

/-- A notice to a tenant's controllers changes nothing but their logs and their requests (04 R156). -/
theorem Dev.Tells.nsNotice (s : Dev) (t nsid : Nat) : Dev.Tells s (s.nsNotice t nsid) := by
  refine foldl (fun s k => ?_) _ s
  split
  · exact (setCtrl s _ _).trans (asyncEvent _ _ _ _ _)
  · exact .refl s

/-- Such a notice stays in the front end. -/
theorem Dev.step_nsNotice (s : Dev) (t nsid : Nat) : Dev.Step [.nvme] [] [] s (s.nsNotice t nsid) := by
  refine Dev.Step.foldl (fun s k => ?_) _ s
  split
  · exact (Dev.Step.nvme s _ (by decide)).trans (Dev.step_asyncEvent (s.setCtrl k _) (by decide) k 2 0 4)
  · exact .refl s

def nsFlds : List Fld := [.NS_CFG_PIT, .NS_CFG_LBAF, .NS_CFG_VOLUME, .NS_CFG_TENANT]

theorem Dev.step_nsFields (s : Dev) (n : Nat) (v : Word) : Dev.Step [] nsFlds [] s (s.nsFields n v) :=
  (((Dev.Step.setFld _ _ _ _ (by decide)).trans (.setFld _ _ _ _ (by decide))).trans (.setFld _ _ _ _ (by decide))).trans
    (.setFld _ _ _ _ (by decide))

theorem Dev.nsFields_self (s : Dev) (n : Nat) (v : Word) :
    (s.nsFields n v).fld .NS_CFG_PIT n = bitsOf v 30 29 ∧ (s.nsFields n v).fld .NS_CFG_LBAF n = bitsOf v 26 24 ∧
    (s.nsFields n v).fld .NS_CFG_VOLUME n = bitsOf v 21 16 ∧ (s.nsFields n v).fld .NS_CFG_TENANT n = bitsOf v 9 0 := by
  simp only [Dev.nsFields, Dev.fld_setFld_self, Dev.fld_setFld_ne, ne_eq, reduceCtorEq, not_false_eq_true]
  exact ⟨bitsOf_mod v rfl, bitsOf_mod v rfl, bitsOf_mod v rfl, bitsOf_mod v rfl⟩

/-- What making a namespace active leaves. -/
structure Dev.Activates (n : Nat) (a b : Dev) : Prop where
  step : Dev.Step [.nvme, .cust, .fresh] [.NS_CFG_ACTIVE] [] a b
  active : b.flag .NS_CFG_ACTIVE n = true
  others : ∀ m, m ≠ n → b.flag .NS_CFG_ACTIVE m = a.flag .NS_CFG_ACTIVE m
  key : (b.keySlot keyMedia n).state = .loaded

/-- The media key is there, generated where it was not. -/
def Dev.withKey (s : Dev) (n : Nat) : Dev := if (s.keySlot keyMedia n).state = .loaded then s else s.generateKey keyMedia n

theorem Dev.withKey_spec (s : Dev) (n : Nat) : Dev.Step [.cust, .fresh] [] [] s (s.withKey n) ∧ ((s.withKey n).keySlot keyMedia n).state = .loaded := by
  unfold Dev.withKey
  split
  · next h => exact ⟨.refl s, h⟩
  · exact s.generateKey_spec keyMedia n

theorem Dev.activates_nsActivate (s : Dev) (n : Nat) (h : s.nsMayActivate n = true) : Dev.Activates n s (s.nsActivate n).2 := by
  have hrun : (s.nsActivate n).2 = ((s.withKey n).setFld .NS_CFG_ACTIVE n 1).nsNotice ((s.withKey n).nsTenant n) (n + 1) := by
    unfold Dev.nsActivate
    simp only [h, Bool.not_true, Bool.false_eq_true, if_false]
    rfl
  obtain ⟨hkey, hloaded⟩ := s.withKey_spec n
  rw [hrun]
  generalize s.withKey n = d at hkey hloaded
  have hnote := (d.setFld .NS_CFG_ACTIVE n 1).step_nsNotice (d.nsTenant n) (n + 1)
  have hset : Dev.Step [.nvme, .cust, .fresh] [.NS_CFG_ACTIVE] [] d (d.setFld .NS_CFG_ACTIVE n 1) := .setFld _ _ _ _ (by decide)
  refine ⟨((hkey.mono (by decide) (List.nil_subset _) (List.Subset.refl _)).trans hset).trans (hnote.mono (by decide) (List.nil_subset _) (List.Subset.refl _)),
    ?_, fun m hm => ?_, ?_⟩
  · rw [hnote.flag List.not_mem_nil, Dev.flag, Dev.fld_setFld_self]
    rfl
  · rw [hnote.flag List.not_mem_nil, Dev.flag, Dev.fld_setFld_other _ _ (.inr hm)]
    exact hkey.flag List.not_mem_nil m
  · have hcust : ((d.setFld .NS_CFG_ACTIVE n 1).nsNotice (d.nsTenant n) (n + 1)).cust = d.cust := hnote.frame.parts .cust (by decide)
    rw [Dev.keySlot, hcust]
    exact hloaded

def activeFlds : List Fld := [.NS_CFG_ACTIVE, .NS_CFG_PIT, .NS_CFG_LBAF, .NS_CFG_VOLUME, .NS_CFG_TENANT]

theorem nsActivate_answers (hm : s.dev.commandMade via (Reg.addr .NS_CFG) = true) (hn : s.dev.nsNamed via ns.val = some n) (hi : s.dev.nsIdle n = true)
    (hmay : (s.dev.nsFields n v).nsMayActivate n = true) :
    Answers (.nsActivate via ns v) s (fun t => t.dev.flag .NS_CFG_ACTIVE n = true ∧ t.dev.fld .NS_CFG_PIT n = bitsOf v 30 29 ∧
      t.dev.fld .NS_CFG_LBAF n = bitsOf v 26 24 ∧ t.dev.fld .NS_CFG_VOLUME n = bitsOf v 21 16 ∧ t.dev.fld .NS_CFG_TENANT n = bitsOf v 9 0 ∧
      (t.dev.keySlot keyMedia n).state = .loaded ∧ (∀ m, m ≠ n → t.dev.flag .NS_CFG_ACTIVE m = s.dev.flag .NS_CFG_ACTIVE m) ∧
      t.dev.store = s.dev.store ∧
      Dev.OnlyChanged [.nvme, .cust, .ldg, .fresh, .fw, .od] (activeFlds ++ answerFlds) [] s.dev t.dev) := by
  have hn' : s.dev.quiet.nsNamed via ns.val = some n := by cases via <;> exact hn
  have hi' : s.dev.quiet.nsIdle n = true := hi
  have hmay' : (s.dev.quiet.nsFields n v).nsMayActivate n = true := hmay
  have hfields := s.dev.quiet.step_nsFields n v
  obtain ⟨hpit, hlbaf, hvol, hten⟩ := s.dev.quiet.nsFields_self n v
  have hact := (s.dev.quiet.nsFields n v).activates_nsActivate n hmay'
  obtain ⟨d, hd, hstep⟩ := exec_viaCommand (c := .nsActivate via ns v) (e := ((s.dev.quiet.nsFields n v).nsActivate n).2) rfl hm
    (by simp only [hn', hi', Bool.not_true, Bool.false_eq_true, if_false])
  generalize (s.dev.quiet.nsFields n v).nsActivate n = r at hact hstep
  generalize s.dev.quiet.nsFields n v = f at hfields hpit hlbaf hvol hten hact
  have hq : Dev.Step [.nvme, .cust, .ldg, .fresh, .fw, .od] (activeFlds ++ answerFlds) [] s.dev.quiet d :=
    ((hfields.mono (List.nil_subset _) (by decide) (List.nil_subset _)).trans (hact.step.mono (by decide) (by decide) (List.Subset.refl _))).trans
      (hstep.mono (by decide) (by decide) (List.Subset.refl _))
  have hfld : ∀ g ∈ nsFlds, ∀ j, (s.after (fun _ => d)).dev.fld g j = f.fld g j := fun g hg j =>
    (State.after_fld_answered hstep (by revert g; decide) j).trans (hact.step.fld (by revert g; decide) j)
  have hflag : ∀ j, (s.after (fun _ => d)).dev.flag .NS_CFG_ACTIVE j = r.2.flag .NS_CFG_ACTIVE j := fun j =>
    congrArg (· != 0) (State.after_fld_answered hstep (by decide) j)
  refine .of_run hd ⟨(hflag n).trans hact.active, (hfld _ (by decide) n).trans hpit, (hfld _ (by decide) n).trans hlbaf, (hfld _ (by decide) n).trans hvol,
    (hfld _ (by decide) n).trans hten, ?_, fun m hne => ?_, ?_, hq.after⟩
  · have hcust : (s.after (fun _ => d)).dev.cust = r.2.cust := (State.after_cust ..).trans (hstep.frame.parts .cust (by decide))
    rw [Dev.keySlot, hcust]
    exact hact.key
  · exact ((hflag m).trans (hact.others m hne)).trans (hfields.flag (by decide) m)
  · exact (State.after_store ..).trans (hq.frame.parts .store (by decide))

theorem nsActivate_refused (hm : s.dev.commandMade via (Reg.addr .NS_CFG) = true) (hn : s.dev.nsNamed via ns.val = some n)
    (hno : s.dev.nsIdle n = false ∨ (s.dev.nsFields n v).nsMayActivate n = false) :
    Answers (.nsActivate via ns v) s (fun t => (∀ m, t.dev.flag .NS_CFG_ACTIVE m = s.dev.flag .NS_CFG_ACTIVE m) ∧ t.dev.nvme = s.dev.nvme ∧
      t.dev.store = s.dev.store ∧ (s.hears .ln → s.told t .ln 0x206 (le 8 (Reg.addr .NS_CFG))) ∧
      Dev.OnlyChanged [.fw, .od] (nsFlds ++ answerFlds) [] s.dev t.dev) := by
  have hn' : s.dev.quiet.nsNamed via ns.val = some n := by cases via <;> exact hn
  have hfields := s.dev.quiet.step_nsFields n v
  obtain ⟨f, hf, d, hd, hstep⟩ : ∃ f, (Dev.Step [] nsFlds [] s.dev.quiet f ∧ f.raised = []) ∧
      ∃ d, exec (.nsActivate via ns v) s = s.run (fun _ => d) ∧ Dev.Step [.fw, .od] answerFlds [] (f.frontRefused .NS_CFG) d := by
    by_cases hi : s.dev.quiet.nsIdle n = true
    · have hmay : (s.dev.quiet.nsFields n v).nsMayActivate n = false := hno.resolve_left (by rw [show s.dev.nsIdle n = true from hi]; decide)
      refine ⟨_, ⟨hfields, rfl⟩, exec_viaCommand (c := .nsActivate via ns v) rfl hm ?_⟩
      simp only [hn', hi, hmay, Dev.nsActivate, Bool.not_true, Bool.not_false, Bool.false_eq_true, if_false, if_true]
    · have hi : s.dev.quiet.nsIdle n = false := Bool.eq_false_iff.mpr hi
      refine ⟨_, ⟨.refl _, rfl⟩, exec_viaCommand (c := .nsActivate via ns v) rfl hm ?_⟩
      simp only [hn', hi, Bool.not_false, if_true]
  obtain ⟨hchange, hraised⟩ := hf
  have hq : Dev.Step [.fw, .od] (nsFlds ++ answerFlds) [] s.dev.quiet d :=
    ((hchange.mono (List.nil_subset _) (by decide) (List.nil_subset _)).trans (.event _ _ _ _ _)).trans
      (hstep.mono (List.Subset.refl _) (by decide) (List.Subset.refl _))
  refine .of_run hd ⟨fun m => ?_, ?_, ?_, frontRefused_told hstep hraised (hchange.nowOn List.not_mem_nil .ln) (hchange.timeLoaded_eq List.not_mem_nil), hq.after⟩
  · exact (congrArg (· != 0) (State.after_fld ..)).trans (hq.flag (by decide) m)
  · exact (State.after_nvme ..).trans (hq.nvme_eq (by decide))
  · exact (State.after_store ..).trans (hq.frame.parts .store (by decide))

theorem nsDeactivate_answers (hm : s.dev.commandMade via (Reg.addr .NS_CFG) = true) (hn : s.dev.nsNamed via ns.val = some n)
    (ha : s.dev.flag .NS_CFG_ACTIVE n = true) :
    Answers (.nsDeactivate via ns) s (fun t => t.dev.flag .NS_CFG_ACTIVE n = false ∧
      t.dev.nvme = { s.dev.nvme with draining := s.dev.nvme.draining ++ [n] } ∧
      (∀ m, m ≠ n → t.dev.flag .NS_CFG_ACTIVE m = s.dev.flag .NS_CFG_ACTIVE m) ∧
      Dev.OnlyChanged [.nvme, .fw, .od] ([.NS_CFG_ACTIVE] ++ answerFlds) [] s.dev t.dev) := by
  have hn' : s.dev.quiet.nsNamed via ns.val = some n := by cases via <;> exact hn
  have ha' : s.dev.quiet.flag .NS_CFG_ACTIVE n = true := ha
  obtain ⟨d, hd, hstep⟩ := exec_viaCommand (c := .nsDeactivate via ns) (e := s.dev.quiet.nsDeactivate n) rfl hm
    (by simp only [hn', ha', if_true])
  have hset : Dev.Step [.nvme, .fw, .od] ([.NS_CFG_ACTIVE] ++ answerFlds) [] s.dev.quiet (s.dev.quiet.setFld .NS_CFG_ACTIVE n 0) :=
    .setFld _ _ _ _ (by decide)
  have hdrain : Dev.Step [.nvme, .fw, .od] ([.NS_CFG_ACTIVE] ++ answerFlds) [] s.dev.quiet (s.dev.quiet.nsDeactivate n) :=
    hset.trans (.nvme _ _ (by decide))
  have hflag : ∀ j, (s.after (fun _ => d)).dev.flag .NS_CFG_ACTIVE j = (s.dev.quiet.setFld .NS_CFG_ACTIVE n 0).flag .NS_CFG_ACTIVE j := fun j =>
    congrArg (· != 0) (State.after_fld_answered hstep (by decide) j)
  refine .of_run hd ⟨(hflag n).trans ?_, ?_, fun m hne => (hflag m).trans ?_, (hdrain.trans (hstep.mono (by decide) (by decide) (List.Subset.refl _))).after⟩
  · rw [Dev.flag, Dev.fld_setFld_self]
    rfl
  · exact (State.after_nvme ..).trans (hstep.nvme_eq (by decide))
  · rw [Dev.flag, Dev.fld_setFld_other _ _ (.inr hne)]
    rfl

end Activation

end Sys2Proof.Machine

/-!
PROOF. A namespace's extent cleared (08 R324, R325, R342): what each part of the clearing leaves, and its end.
-/
namespace Sys2Proof.Machine

section Clearing

variable (s : Dev) {a b d : Dev} {v n : Nat}

/-- Writes of the reserved area are entered in the store and raise nothing. -/
theorem Dev.reservedWrite_spec (u unit : Nat) (l : List Nat) : Dev.Step [.store] [] [.DRV_MCMD_ISSUED] s (s.reservedWrite u unit l) ∧
    (s.reservedWrite u unit l).nvme = s.nvme ∧ (s.reservedWrite u unit l).raised = s.raised ∧
    (s.reservedWrite u unit l).store.vols = s.store.vols := by
  refine foldl_within (R := fun a b : Dev => Dev.Step [.store] [] [.DRV_MCMD_ISSUED] a b ∧ b.nvme = a.nvme ∧ b.raised = a.raised ∧
    b.store.vols = a.store.vols) (fun s => ⟨.refl s, rfl, rfl, rfl⟩) (fun h k => ?_) (fun s k => s.memberCmd_spec _ (by simp)) l s
  obtain ⟨h₁, h₂, h₃, h₄⟩ := h
  obtain ⟨k₁, k₂, k₃, k₄⟩ := k
  exact ⟨h₁.trans k₁, k₂.trans h₂, k₃.trans h₃, k₄.trans h₄⟩

/-- The counters of a namespace's clearing. -/
def clearCtrs : List Ctr := .LDG_MAP_SETS :: workCtrs

/-- A step on the volume `v` that leaves the front end, and what of `v` is being cleared. -/
structure Dev.Zeroes (v : Nat) (a b : Dev) : Prop where
  step : Dev.Step [.nvme, .store, .ldg] [] clearCtrs a b
  nvme : b.nvme = a.nvme
  vols : ∀ u, u ≠ v → b.vol u = a.vol u
  clearing : (b.vol v).clearing = (a.vol v).clearing

namespace Dev.Zeroes

theorem refl (s : Dev) : Dev.Zeroes v s s := ⟨.refl s, rfl, fun _ _ => rfl, rfl⟩

theorem trans (h : Dev.Zeroes v a b) (k : Dev.Zeroes v b d) : Dev.Zeroes v a d :=
  ⟨h.step.trans k.step, k.nvme.trans h.nvme, fun u hu => (k.vols u hu).trans (h.vols u hu), k.clearing.trans h.clearing⟩

theorem ite {p : Prop} [Decidable p] (hb : p → Dev.Zeroes v a b) (hc : ¬p → Dev.Zeroes v a d) : Dev.Zeroes v a (if p then b else d) := by
  split
  · exact hb ‹_›
  · exact hc ‹_›

/-- A step that leaves the front end and the volumes. -/
theorem still (h : Dev.Step [.nvme, .store, .ldg] [] clearCtrs a b) (hn : b.nvme = a.nvme) (hv : b.store.vols = a.store.vols) : Dev.Zeroes v a b :=
  ⟨h, hn, fun u _ => congrArg (fun (t : Table Volume) => t.get {} u) hv, congrArg (fun (t : Table Volume) => (t.get {} v).clearing) hv⟩

theorem setVol (s : Dev) (x : Volume) (h : x.clearing = (s.vol v).clearing) : Dev.Zeroes v s (s.setVol v x) :=
  ⟨.store s _ (by decide), rfl, fun u hu => s.vol_setVol_other u v x hu, by rw [s.vol_setVol_self]; exact h⟩


theorem reservedWrite (s : Dev) (u unit : Nat) (l : List Nat) : Dev.Zeroes v s (s.reservedWrite u unit l) :=
  have ⟨hstep, hn, _, hv⟩ := s.reservedWrite_spec u unit l
  still (hstep.mono (by decide) (List.Subset.refl _) (by decide)) hn hv

theorem setBits (s : Dev) (hole absent : List Nat) : Dev.Zeroes v s (s.setBits v hole absent) := by
  unfold Dev.setBits
  extract_lets x s₁ ldg s₂ hosts s₃
  have h₁ : Dev.Zeroes v s s₁ := (setVol s _ (by rfl)).trans (still (.count _ .LDG_MAP_SETS _ _ (by decide)) rfl rfl)
  have h₂ : Dev.Zeroes v s s₂ := h₁.trans (still (.ldg s₁ _ (by decide)) rfl rfl)
  have h₃ : Dev.Zeroes v s s₃ := h₂.trans (.ite (fun _ => .refl _) (fun _ => .reservedWrite _ _ _ _))
  exact .ite (fun _ => h₃) (fun _ => h₃.trans (.reservedWrite _ _ _ _))

theorem emits {α : Type} (f : α → Out) (l : List α) (s : Dev) : Dev.Zeroes v s (l.foldl (fun s x => s.emit (f x)) s) :=
  foldl_within refl trans (fun s x => still (.emit s (f x)) rfl rfl) l s

end Dev.Zeroes

end Clearing

end Sys2Proof.Machine

/-!
PROOF. Clearing one part of an inactive namespace's extent (08 R324).
-/
namespace Sys2Proof.Machine

section NextPart

variable (s : Dev) {a b d : Dev} {n : Nat}

/-- What clearing the next part of a namespace's extent leaves. -/
structure Dev.Clears (n : Nat) (a b : Dev) : Prop where
  step : Dev.Step [.nvme, .store, .ldg] [] clearCtrs a b
  draining : b.nvme.draining = a.nvme.draining
  vols : ∀ u, u ≠ a.nsVol n → b.vol u = a.vol u
  clearing : (b.vol (a.nsVol n)).clearing = (a.vol (a.nsVol n)).clearing
  marked : (b.nvme.clearAt.find n).isSome = true

/-- The command that clears a part is entered behind the others and dispatched. -/
theorem Dev.dispatches_appended {c : Cmd} (hn : s.numberFree = true) (hid : c.id = s.nvme.nextCmd) :
    Dev.Dispatches s.nvme.nextCmd c.vol { s with nvme := { s.nvme with nextCmd := s.nvme.nextCmd + 1, cmds := s.nvme.cmds ++ [c] } }
      (Dev.dispatch { s with nvme := { s.nvme with nextCmd := s.nvme.nextCmd + 1, cmds := s.nvme.cmds ++ [c] } } s.nvme.nextCmd) := by
  refine Dev.dispatches_dispatch _ ?_
  have hold : s.nvme.cmds.find? (fun e => e.id == s.nvme.nextCmd) = none :=
    List.find?_eq_none.mpr fun e he => by simpa using s.numberFree_iff.mp hn e he
  show (s.nvme.cmds ++ [c]).find? (fun e => e.id == s.nvme.nextCmd) = some c
  rw [List.find?_append, hold, List.find?_cons_of_pos (by rw [hid]; exact beq_self_eq_true _)]
  rfl

theorem Dev.clears_clearNext (hn : s.numberFree = true) : Dev.Clears n s (s.clearNext n) := by
  unfold Dev.clearNext
  extract_lets v a e g su whole online away regions s₀ s₁ a' b at' nv s₂ id c nv'
  have h₁ : Dev.Zeroes v s s₁ := by
    refine .ite (fun _ => .refl s) (fun _ => ?_)
    have h₀ : Dev.Zeroes v s s₀ := .ite (fun _ => .setBits _ _ _) (fun _ => .refl _)
    exact h₀.trans (.emits _ _ _)
  have hmarked : Dev.Step [.nvme, .store, .ldg] [] clearCtrs s s₂ := h₁.step.trans (.nvme _ _ (by decide))
  have hdrain : s₂.nvme.draining = s.nvme.draining := by
    have h := congrArg Nvme.draining h₁.nvme
    exact h
  have hfind : s₂.nvme.clearAt.find n = some b := Table.find_insert_self _ _ _
  have hfree : s₂.numberFree = true := by
    have hids := congrArg (fun x : Nvme => x.cmds.map Cmd.id) h₁.nvme
    have hnext := congrArg Nvme.nextCmd h₁.nvme
    exact Dev.numberFree_of_ids (a := s) hids hnext hn
  have hvols : ∀ u, u ≠ v → s₂.vol u = s.vol u := h₁.vols
  have hclear : (s₂.vol v).clearing = (s.vol v).clearing := h₁.clearing
  clear_value s₂
  split
  · exact ⟨hmarked, hdrain, hvols, hclear, by rw [hfind]; rfl⟩
  · have hdis := s₂.dispatches_appended (c := c) hfree rfl
    have hadd : Dev.Step [.nvme, .store, .ldg] [] clearCtrs s₂
        { s₂ with nvme := { s₂.nvme with nextCmd := s₂.nvme.nextCmd + 1, cmds := s₂.nvme.cmds ++ [c] } } := .nvme _ _ (by decide)
    refine ⟨(hmarked.trans hadd).trans (hdis.step.mono (by decide) (List.Subset.refl _) (by decide)), ?_, fun u hu => (hdis.vols u hu).trans (hvols u hu),
      hdis.clearing.trans hclear, ?_⟩
    · exact (congrArg (fun x : Nvme => x.draining) hdis.rest).trans hdrain
    · have hat := congrArg (fun x : Nvme => x.clearAt.find n) hdis.rest
      exact (congrArg Option.isSome (hat.trans hfind)).trans rfl

end NextPart

end Sys2Proof.Machine

/-!
PROOF. A namespace made inactive that has no commands left (04 R198).
-/
namespace Sys2Proof.Machine

section Emptied

variable {s : State} {ns : Fin 4096} {a : Nat}

/-- A namespace that has drained, its extent to be cleared. -/
def Dev.emptying (s : Dev) (n : Nat) : Dev :=
  ({ s with nvme := { s.nvme with draining := s.nvme.draining.filter (· != n) } } : Dev).setVol (s.nsVol n)
    { s.vol (s.nsVol n) with clearing := (s.vol (s.nsVol n)).clearing ++ [n] }

theorem Dev.emptying_spec (s : Dev) (n : Nat) : Dev.Step [.nvme, .store, .ldg] [] clearCtrs s (s.emptying n) ∧
    (s.emptying n).nvme = { s.nvme with draining := s.nvme.draining.filter (· != n) } ∧
    ((s.emptying n).vol (s.nsVol n)).clearing = (s.vol (s.nsVol n)).clearing ++ [n] ∧
    ∀ v, v ≠ s.nsVol n → (s.emptying n).vol v = s.vol v := by
  have hdrain : Dev.Step [.nvme, .store, .ldg] [] clearCtrs s
      { s with nvme := { s.nvme with draining := s.nvme.draining.filter (· != n) } } := .nvme s _ (by decide)
  refine ⟨hdrain.trans (.store _ _ (by decide)), rfl, ?_, fun v hv => Dev.vol_setVol_other _ v (s.nsVol n) _ hv⟩
  rw [Dev.emptying, Dev.vol_setVol_self]

theorem Dev.asyncEvent_draining (s : Dev) (k type info log : Nat) : (s.asyncEvent k type info log).nvme.draining = s.nvme.draining := by
  unfold Dev.asyncEvent
  split
  · rfl
  · dsimp only
    split
    · rfl
    · split
      · split <;> rfl
      · split <;> rfl

theorem Dev.nsNotice_draining (s : Dev) (t nsid : Nat) : (s.nsNotice t nsid).nvme.draining = s.nvme.draining := by
  refine foldl_within (R := fun a b : Dev => b.nvme.draining = a.nvme.draining) (fun _ => rfl) (fun h k => k.trans h) (fun s k => ?_) _ s
  split
  · exact Dev.asyncEvent_draining _ _ _ _ _
  · rfl

/-- A command that does nothing where `p` holds. -/
theorem State.runIf_else {b : Bool} {p : Dev → Bool} {f : Dev → Dev} (hb : b = true) (hp : p s.dev.quiet = false) :
    s.runIf b (fun d => if p d then d else f d) = s.run (fun _ => f s.dev.quiet) :=
  State.runIf_eq_of_quiet hb (if_neg fun h => Bool.false_ne_true (hp.symm.trans h))

/-- A namespace becomes inactive: the notice goes out, and its extent is cleared. -/
def Dev.inactive (d : Dev) (n : Nat) : Dev := ((d.emptying n).nsNotice ((d.emptying n).nsTenant n) (n + 1)).clearNext n

theorem exec_nsInactive : exec (.nsInactive ns) s = s.runIf (s.dev.nvme.draining.contains ns.val) (fun d =>
    if d.nvme.cmds.any (fun c => c.io && c.nsid == ns.val + 1) then d else d.inactive ns.val) := rfl

/-- Clearing begins once the namespace's commands have finished (04 R197; 08 R324). -/
theorem nsInactive_answers (hd : s.dev.nvme.draining.contains ns.val = true)
    (hover : s.dev.nvme.cmds.all (fun c => !(c.io && c.nsid == ns.val + 1)) = true) (hn : s.dev.numberFree = true) :
    Answers (.nsInactive ns) s (fun t => t.dev.nvme.draining = s.dev.nvme.draining.filter (· != ns.val) ∧
      (t.dev.vol (s.dev.nsVol ns.val)).clearing = (s.dev.vol (s.dev.nsVol ns.val)).clearing ++ [ns.val] ∧
      (t.dev.nvme.clearAt.find ns.val).isSome = true ∧ (∀ v, v ≠ s.dev.nsVol ns.val → t.dev.vol v = s.dev.vol v) ∧
      Dev.OnlyChanged [.nvme, .store, .ldg] [] clearCtrs s.dev t.dev) := by
  have hnone : s.dev.quiet.nvme.cmds.any (fun c => c.io && c.nsid == ns.val + 1) = false := by
    rw [List.any_eq_false]
    exact fun c hc h => by simpa [h] using List.all_eq_true.mp hover c hc
  have hx := exec_nsInactive.trans (State.runIf_else (f := fun d => d.inactive ns.val) hd hnone)
  have hrun : s.dev.quiet.inactive ns.val =
      ((s.dev.quiet.emptying ns.val).nsNotice ((s.dev.quiet.emptying ns.val).nsTenant ns.val) (ns.val + 1)).clearNext ns.val := rfl
  rw [hrun] at hx
  obtain ⟨hempty, hnvme, hclearing, hvols⟩ := s.dev.quiet.emptying_spec ns.val
  have htells := Dev.Tells.nsNotice (s.dev.quiet.emptying ns.val) ((s.dev.quiet.emptying ns.val).nsTenant ns.val) (ns.val + 1)
  have hnotice := (s.dev.quiet.emptying ns.val).step_nsNotice ((s.dev.quiet.emptying ns.val).nsTenant ns.val) (ns.val + 1)
  have hdrain := (s.dev.quiet.emptying ns.val).nsNotice_draining ((s.dev.quiet.emptying ns.val).nsTenant ns.val) (ns.val + 1)
  generalize s.dev.quiet.emptying ns.val = e at hx hempty hnvme hclearing hvols htells hnotice hdrain
  generalize e.nsNotice (e.nsTenant ns.val) (ns.val + 1) = m at hx htells hnotice hdrain
  have hfree : m.numberFree = true := by
    refine Dev.numberFree_of_ids (a := s.dev) ?_ ?_ hn
    · rw [htells.ids, hnvme]
      rfl
    · rw [htells.next, hnvme]
      rfl
  have hvol : m.nsVol ns.val = s.dev.nsVol ns.val := (hnotice.fld List.not_mem_nil _).trans (hempty.fld List.not_mem_nil _)
  have hstore : ∀ v, m.vol v = e.vol v := fun v => by
    have h : m.store = e.store := hnotice.frame.parts .store (by decide)
    rw [Dev.vol, h]
    rfl
  obtain ⟨d, hx, hstep, hdraining, hothers, hself, hmarked⟩ : ∃ d, exec (.nsInactive ns) s = s.run (fun _ => d) ∧ Dev.Clears ns.val m d :=
    ⟨_, hx, m.clears_clearNext hfree⟩
  rw [hvol] at hothers hself
  have hall : Dev.Step [.nvme, .store, .ldg] [] clearCtrs s.dev.quiet d :=
    (hempty.trans (hnotice.mono (by decide) (List.Subset.refl _) (List.nil_subset _))).trans hstep
  have hafter : ∀ v, (s.after (fun _ => d)).dev.vol v = d.vol v := fun v => by rw [Dev.vol, State.after_store]; rfl
  refine .of_run hx ⟨?_, ?_, ?_, fun v hv => ?_, hall.after⟩
  · rw [State.after_nvme, hdraining, hdrain, hnvme]
    rfl
  · rw [hafter, hself, hstore]
    exact hclearing
  · rw [State.after_nvme]
    exact hmarked
  · rw [hafter, hothers v hv, hstore]
    exact hvols v hv

end Emptied

end Sys2Proof.Machine

/-!
PROOF. What an ended clearing takes off the lists of a volume (08 R325, R342).
-/
namespace Sys2Proof.Machine

section Completed

variable {s : State} {ns : Fin 4096} {a : Nat}

/-- A unit lies in a namespace's extent. -/
def Dev.inExtent (s : Dev) (n u : Nat) : Bool := decide (s.nsBase n ≤ u) && decide (u < s.nsBase n + s.nsSize n)

/-- The volume of a namespace whose extent is cleared. -/
def Dev.clearedVol (s : Dev) (n : Nat) : Volume :=
  { s.vol (s.nsVol n) with
    clearing := (s.vol (s.nsVol n)).clearing.filter (· != n), bad := (s.vol (s.nsVol n)).bad.filter (fun u => !s.inExtent n u) }

/-- The clearing is over: the namespace has left the marks and its volume. -/
def Dev.forgotten (s : Dev) (n : Nat) : Dev :=
  ({ s with nvme := { s.nvme with clearAt := s.nvme.clearAt.erase n } } : Dev).setVol (s.nsVol n) (s.clearedVol n)

/-- Blocks leave the list of the volume `v`, written on its members, with event 347h (08 R325). -/
def Dev.unlisted (s : Dev) (v : Nat) (gone : List Nat) (p : Nat) : Dev :=
  ((s.count .PAR_BB_REMOVED p (gone.length * s.gran v)).reservedWrite v 8192 ((s.membersIn v [.online, .rebuilding]).map Prod.snd)).event
    (pierDie p) 0x347 (le 1 v ++ le 8 (gone.head?.getD 0 * s.gran v))

/-- The counters of a clearing's end. -/
def clearEndCtrs : List Ctr := [.PAR_CLEAR_UNITS, .PAR_BB_REMOVED, .DRV_MCMD_ISSUED]

/-- Listed blocks of the extent have left the list. -/
def Dev.emptied (s : Dev) (n : Nat) : Dev :=
  if ((s.vol (s.nsVol n)).bad.filter (s.inExtent n)).isEmpty then s.forgotten n
  else (s.forgotten n).unlisted (s.nsVol n) ((s.vol (s.nsVol n)).bad.filter (s.inExtent n)) (s.volPier (s.nsVol n))

/-- NS_CLEAR_COMPLETE where nothing is left to clear. -/
def Dev.clearEnded (s : Dev) (n : Nat) : Dev :=
  ((s.emptied n).count .PAR_CLEAR_UNITS (s.volPier (s.nsVol n)) ((s.emptied n).nsSize n)).event (pierDie (s.volPier (s.nsVol n))) 0x349
    (le 1 (s.nsVol n) ++ le 4 (n + 1))

/-- NS_CLEAR_COMPLETE as it runs. -/
def Dev.clearStep (d : Dev) (n : Nat) : Dev :=
  if !(d.vol (d.nsVol n)).clearing.contains n || !d.pierUp (d.volPier (d.nsVol n)) || d.reservedBusy (d.nsVol n) ||
    d.nvme.cmds.any (fun c => !c.io && c.op == .deallocate && c.nsid == n + 1) then d
  else match d.nvme.clearAt.find n with
    | none => d.clearNext n
    | some a => if a < d.nsBase n + d.nsSize n then d.clearNext n else d.clearEnded n

theorem exec_nsClearComplete : exec (.nsClearComplete ns) s = s.run (fun d => d.clearStep ns.val) := rfl

/-- What the volume and the front end are once the extent is empty. -/
structure Dev.Empties (n : Nat) (a b : Dev) : Prop where
  step : Dev.Step [.nvme, .store] [] clearEndCtrs a b
  nvme : b.nvme = { a.nvme with clearAt := a.nvme.clearAt.erase n }
  vol : b.vol (a.nsVol n) = a.clearedVol n
  raised : b.raised.length ≤ a.raised.length + 1
  units : ∀ p, b.ctr .PAR_CLEAR_UNITS p = a.ctr .PAR_CLEAR_UNITS p

theorem Dev.empties_emptied (s : Dev) (n : Nat) : Dev.Empties n s (s.emptied n) := by
  have hmarks : Dev.Step [.nvme, .store] [] clearEndCtrs s { s with nvme := { s.nvme with clearAt := s.nvme.clearAt.erase n } } := .nvme s _ (by decide)
  have hstep : Dev.Step [.nvme, .store] [] clearEndCtrs s (s.forgotten n) := hmarks.trans (.store _ _ (by decide))
  have hvol : (s.forgotten n).vol (s.nsVol n) = s.clearedVol n := Dev.vol_setVol_self ..
  have hnvme : (s.forgotten n).nvme = { s.nvme with clearAt := s.nvme.clearAt.erase n } := rfl
  have hraised : (s.forgotten n).raised = s.raised := rfl
  have hunits : ∀ p, (s.forgotten n).ctr .PAR_CLEAR_UNITS p = s.ctr .PAR_CLEAR_UNITS p := fun _ => rfl
  unfold Dev.emptied
  generalize s.forgotten n = f at hstep hvol hnvme hraised hunits
  split
  · exact ⟨hstep, hnvme, hvol, by rw [hraised]; omega, hunits⟩
  · unfold Dev.unlisted
    generalize (s.vol (s.nsVol n)).bad.filter (s.inExtent n) = gone
    have hcount : Dev.Step [.nvme, .store] [] clearEndCtrs f (f.count .PAR_BB_REMOVED (s.volPier (s.nsVol n)) (gone.length * f.gran (s.nsVol n))) :=
      .count _ _ _ _ (by decide)
    have hone : ∀ p, (f.count .PAR_BB_REMOVED (s.volPier (s.nsVol n)) (gone.length * f.gran (s.nsVol n))).ctr .PAR_CLEAR_UNITS p = f.ctr .PAR_CLEAR_UNITS p :=
      fun p => Dev.ctr_count_other _ _ (.inl (by decide))
    have hcn : (f.count .PAR_BB_REMOVED (s.volPier (s.nsVol n)) (gone.length * f.gran (s.nsVol n))).nvme = f.nvme := rfl
    have hcr : (f.count .PAR_BB_REMOVED (s.volPier (s.nsVol n)) (gone.length * f.gran (s.nsVol n))).raised = f.raised := rfl
    have hcv : (f.count .PAR_BB_REMOVED (s.volPier (s.nsVol n)) (gone.length * f.gran (s.nsVol n))).store = f.store := rfl
    generalize f.count .PAR_BB_REMOVED (s.volPier (s.nsVol n)) (gone.length * f.gran (s.nsVol n)) = g at hcount hone hcn hcr hcv
    obtain ⟨hwrite, hwn, hwr, hwv⟩ := g.reservedWrite_spec (s.nsVol n) 8192 ((f.membersIn (s.nsVol n) [.online, .rebuilding]).map Prod.snd)
    generalize g.reservedWrite (s.nsVol n) 8192 ((f.membersIn (s.nsVol n) [.online, .rebuilding]).map Prod.snd) = w at hwrite hwn hwr hwv
    refine ⟨(hstep.trans hcount).trans ((hwrite.mono (by decide) (List.Subset.refl _) (by decide)).trans (.event _ _ _ _ _)), (hwn.trans hcn).trans hnvme, ?_, ?_,
      fun p => ?_⟩
    · refine Eq.trans (congrArg (fun t : Table Volume => t.get {} (s.nsVol n)) hwv) ?_
      rw [hcv]
      exact hvol
    · show (w.raised ++ [_]).length ≤ _
      rw [List.length_append, hwr, hcr, hraised]
      exact Nat.le_refl _
    · exact ((hwrite.ctr (by decide) (by decide) p).trans (hone p)).trans (hunits p)

end Completed

end Sys2Proof.Machine

/-!
PROOF. The end of a clearing, and O25 (04 R198; 08 R325, R342).
-/
namespace Sys2Proof.Machine

section Ended

variable {s : State} {ns : Fin 4096} {a : Nat}

theorem Dev.clearEnded_eq (d : Dev) (n : Nat) : d.clearEnded n =
    ((d.emptied n).count .PAR_CLEAR_UNITS (d.volPier (d.nsVol n)) ((d.emptied n).nsSize n)).event
      (pierDie (d.volPier (d.nsVol n))) 0x349 (le 1 (d.nsVol n) ++ le 4 (n + 1)) := rfl

/-- A clearing with nothing left to clear ends. -/
theorem clearStep_runs {i : Instr} {n : Nat} (hi : exec i s = s.run (fun d => d.clearStep n)) (hc : (s.dev.vol (s.dev.nsVol n)).clearing.contains n = true)
    (hp : s.dev.pierUp (s.dev.volPier (s.dev.nsVol n)) = true) (hb : s.dev.reservedBusy (s.dev.nsVol n) = false)
    (hover : s.dev.nvme.cmds.all (fun c => c.io || c.op != .deallocate || c.nsid != n + 1) = true)
    (hf : s.dev.nvme.clearAt.find n = some a) (ha : s.dev.nsBase n + s.dev.nsSize n ≤ a)  :
    ∃ e, exec i s = s.run (fun _ =>
      ((e.count .PAR_CLEAR_UNITS (s.dev.quiet.volPier (s.dev.quiet.nsVol n)) (e.nsSize n)).event
        (pierDie (s.dev.quiet.volPier (s.dev.quiet.nsVol n))) 0x349 (le 1 (s.dev.quiet.nsVol n) ++ le 4 (n + 1)))) ∧
      Dev.Empties n s.dev.quiet e := by
  have hc' : (s.dev.quiet.vol (s.dev.quiet.nsVol n)).clearing.contains n = true := hc
  have hp' : s.dev.quiet.pierUp (s.dev.quiet.volPier (s.dev.quiet.nsVol n)) = true := hp
  have hb' : s.dev.quiet.reservedBusy (s.dev.quiet.nsVol n) = false := hb
  have hf' : s.dev.quiet.nvme.clearAt.find n = some a := hf
  have ha' : ¬a < s.dev.quiet.nsBase n + s.dev.quiet.nsSize n := Nat.not_lt.mpr ha
  have hnone : s.dev.quiet.nvme.cmds.any (fun c => !c.io && c.op == .deallocate && c.nsid == n + 1) = false := by
    rw [List.any_eq_false]
    intro c hmem h
    have hc := List.all_eq_true.mp hover c hmem
    simp only [Bool.and_eq_true, Bool.not_eq_true', beq_iff_eq] at h
    obtain ⟨⟨hio, hop⟩, hid⟩ := h
    simp [hio, hop, hid] at hc
  have hx : exec i s = s.run (fun _ => s.dev.quiet.clearEnded n) := by
    refine hi.trans (State.run_eq_of_quiet ?_)
    simp only [Dev.clearStep, hc', hp', hb', hnone, hf', ha', Bool.not_true, Bool.or_self, Bool.false_eq_true, if_false]
  rw [Dev.clearEnded_eq] at hx
  exact ⟨_, hx, s.dev.quiet.empties_emptied n⟩

/-- Units counted and an event at the end of a command that has done the rest. -/
theorem unitsCounted_answers {i : Instr} {e : Dev} {p m u : Nat} {x : List Byte} (hx : exec i s = s.run (fun _ => (e.count .PAR_CLEAR_UNITS p m).event (pierDie p) u x))
    (hstep : Dev.Step [.nvme, .store] [] clearEndCtrs s.dev.quiet e) (hone : e.raised.length ≤ 1) :
    Answers i s (fun t => t.dev.nvme = e.nvme ∧ t.dev.store = e.store ∧ t.dev.ctr .PAR_CLEAR_UNITS p = (e.ctr .PAR_CLEAR_UNITS p + m) % 2 ^ 64 ∧
      (s.hears (pierDie p) → s.told t (pierDie p) u x) ∧ Dev.OnlyChanged [.nvme, .store] [] clearEndCtrs s.dev t.dev) := by
  have hcount : Dev.Step [.nvme, .store] [] clearEndCtrs s.dev.quiet (e.count .PAR_CLEAR_UNITS p m) := hstep.trans (.count _ _ _ _ (by decide))
  refine .of_run hx ⟨State.after_nvme .., State.after_store .., ?_, ?_, (hcount.trans (.event _ _ _ _ _)).after⟩
  · rw [State.after_ctr _ _ _ (by decide)]
    exact Dev.ctr_count_self e .PAR_CLEAR_UNITS p m
  · exact State.told_of_prefix (e := e.count .PAR_CLEAR_UNITS p m) (Nat.lt_of_le_of_lt hone (by decide)) List.prefix_rfl (hcount.nowOn (by decide) _)
      (hcount.timeLoaded_eq (by decide))

/-- The end of a clearing: event 349h, its blocks counted, its listed blocks gone. -/
theorem clearStep_answers {i : Instr} {n : Nat} (hi : exec i s = s.run (fun d => d.clearStep n)) (hc : (s.dev.vol (s.dev.nsVol n)).clearing.contains n = true)
    (hp : s.dev.pierUp (s.dev.volPier (s.dev.nsVol n)) = true) (hb : s.dev.reservedBusy (s.dev.nsVol n) = false)
    (hover : s.dev.nvme.cmds.all (fun c => c.io || c.op != .deallocate || c.nsid != n + 1) = true)
    (hf : s.dev.nvme.clearAt.find n = some a) (ha : s.dev.nsBase n + s.dev.nsSize n ≤ a) :
    Answers i s (fun t => t.dev.vol (s.dev.nsVol n) = s.dev.clearedVol n ∧
      t.dev.nvme = { s.dev.nvme with clearAt := s.dev.nvme.clearAt.erase n } ∧
      t.dev.ctr .PAR_CLEAR_UNITS (s.dev.volPier (s.dev.nsVol n)) =
        (s.dev.ctr .PAR_CLEAR_UNITS (s.dev.volPier (s.dev.nsVol n)) + s.dev.nsSize n) % 2 ^ 64 ∧
      (s.hears (pierDie (s.dev.volPier (s.dev.nsVol n))) →
        s.told t (pierDie (s.dev.volPier (s.dev.nsVol n))) 0x349 (le 1 (s.dev.nsVol n) ++ le 4 (n + 1))) ∧
      Dev.OnlyChanged [.nvme, .store] [] clearEndCtrs s.dev t.dev) := by
  obtain ⟨e, hx, hstep, hnvme, hvol, hraised, hunits⟩ := clearStep_runs hi hc hp hb hover hf ha
  have hone : e.raised.length ≤ 1 := hraised
  have hsize : e.nsSize n = s.dev.nsSize n := by
    rw [Dev.nsSize, hstep.fld List.not_mem_nil, hstep.fld List.not_mem_nil]
    rfl
  rw [hsize] at hx
  refine (unitsCounted_answers hx hstep hone).imp fun t ⟨ht, hst, hctr, htold, hch⟩ => ⟨?_, ht.trans hnvme, ?_, htold, hch⟩
  · rw [Dev.vol, hst]
    exact hvol
  · rw [hunits] at hctr
    exact hctr

/-- Settles O25, one clause for each command's outcome. -/
theorem namespacesAndHosts : Obligations.NamespacesAndHosts := by
  unfold Obligations.NamespacesAndHosts
  refine ⟨fun s via ns v n hm hn hi hmay => nsActivate_answers hm hn hi hmay, fun s via ns v n hm hn hno => nsActivate_refused hm hn hno,
    fun s via ns n hm hn ha => nsDeactivate_answers hm hn ha, fun s ns hd hover hn => nsInactive_answers hd hover hn,
    fun s ns a hc hp hb hover hf ha => ?_, fun s via host v k hm hk hok => hostCfgWrite_answers hm hk hok,
    fun s via host v k hm hk hten hlive => hostCfgWrite_refused hm hk hten hlive⟩
  refine (clearStep_answers exec_nsClearComplete hc hp hb hover hf ha).imp fun t ⟨hvol, hnvme, hctr, htold, hch⟩ => ?_
  refine ⟨by rw [hvol]; rfl, by rw [hvol]; rfl, ?_, by rw [hnvme], hctr, htold, hch⟩
  rw [hnvme]
  exact Table.find_erase_self _ _

end Ended

end Sys2Proof.Machine

/-!
PROOF. Steps that change ownership but bring no bond link up or down (16): no output of the switch becomes unavailable, so such a command settles
nothing; and what one bond link's operations leave.
-/
namespace Sys2Proof.Machine

/-- From `a` to `b` only the parts `ps` and the counters `cs` changed, no seam or region did, no bond link came up or went down, and what was sent out and
raised is still there. -/
structure Dev.OwnStep (ps : List DevPart) (cs : List Ctr) (a b : Dev) : Prop where
  frame : Dev.OnlyChanged ps [] cs a b
  arch : b.arch = a.arch
  up : ∀ j, (b.bond j).up = (a.bond j).up
  out : a.out <+: b.out
  raised : a.raised <+: b.raised

namespace Dev.OwnStep

variable {ps ps' : List DevPart} {cs cs' : List Ctr} {a b c : Dev}

theorem of_step (h : Dev.Step ps [] cs a b) : Dev.OwnStep ps cs a b :=
  ⟨h.frame, h.arch, fun j => congrArg (fun o : Ownership => (o.bonds.get {} j).up) h.own, h.out, h.raised⟩

theorem refl (a : Dev) : Dev.OwnStep ps cs a a := .of_step (.refl a)

theorem trans (h : Dev.OwnStep ps cs a b) (k : Dev.OwnStep ps cs b c) : Dev.OwnStep ps cs a c :=
  ⟨h.frame.trans k.frame, k.arch.trans h.arch, fun j => (k.up j).trans (h.up j), h.out.trans k.out, h.raised.trans k.raised⟩

theorem mono (h : Dev.OwnStep ps cs a b) (hp : ps ⊆ ps') (hc : cs ⊆ cs') : Dev.OwnStep ps' cs' a b :=
  ⟨h.frame.mono hp (List.Subset.refl _) hc, h.arch, h.up, h.out, h.raised⟩

/-- Ownership changed, its bond links left up or down as they were. -/
theorem own (s : Dev) (x : Ownership) (h : .own ∈ ps) (hu : ∀ j, (x.bonds.get {} j).up = (s.bond j).up) : Dev.OwnStep ps cs s { s with own := x } :=
  ⟨.ofParts (fun p hp => by cases p with | own => exact absurd h hp | _ => rfl) rfl rfl, rfl, hu, List.prefix_rfl, List.prefix_rfl⟩

theorem store (s : Dev) (x : Store) (h : .store ∈ ps) : Dev.OwnStep ps cs s { s with store := x } := .of_step (.store s x h)

theorem foldl {α : Type} {f : Dev → α → Dev} (h : ∀ s x, Dev.OwnStep ps cs s (f s x)) (l : List α) : ∀ s, Dev.OwnStep ps cs s (l.foldl f s) :=
  foldl_within refl trans h l

theorem nowOn (h : Dev.OwnStep ps cs a b) (hp : .time ∉ ps) (d : Die) : b.nowOn d = a.nowOn d := by
  have ht : b.time = a.time := h.frame.parts .time hp
  cases d <;> simp only [Dev.nowOn, Dev.now, h.arch, ht]

theorem timeLoaded_eq (h : Dev.OwnStep ps cs a b) (hp : .timeLoaded ∉ ps) : b.timeLoaded = a.timeLoaded := h.frame.parts .timeLoaded hp

/-- A switch output is as available as it was. -/
theorem outputUnavailable (h : Dev.OwnStep ps cs a b) (o : Nat) : b.outputUnavailable o = a.outputUnavailable o := by
  have hu : ∀ j, (b.own.bonds.get {} j).up = (a.own.bonds.get {} j).up := h.up
  simp only [Dev.outputUnavailable, Dev.isolated, Dev.region, Dev.seamUp, Dev.seam, h.arch, hu]

/-- The outputs have nothing to settle. -/
theorem settleOutputs (h : Dev.OwnStep ps cs a b) : b.settleOutputs a = b := by
  have hn : ∀ l : List Nat, l.foldl (fun s o => if s.outputUnavailable o && !a.outputUnavailable o then s.outputLost o else s) b = b := by
    intro l
    induction l with
    | nil => rfl
    | cons o l ih =>
      rw [List.foldl_cons, h.outputUnavailable o, Bool.and_not_self, if_neg Bool.false_ne_true]
      exact ih
  exact hn _

variable {s : State} {d : Dev}

/-- The ports, the pool and the class queues are as the step left them. -/
theorem after_samePool (h : Dev.OwnStep ps cs s.dev.quiet d) : Dev.SamePool d (s.after (fun _ => d)).dev := by
  have c := Dev.samePool_closed
  have ho : d.settleOutputs s.dev = d := h.settleOutputs
  have hs : Dev.SamePool d (d.settle s.dev) := by
    unfold Dev.settle
    rw [ho]
    exact c.trans (c.trans (Dev.samePool_settleMode _ _) (c.settleMeter _ _)) (c.settleEmcy _ _)
  have hd : Dev.SamePool (d.settle s.dev) { d.settle s.dev with raised := [] } := ⟨rfl, rfl, rfl⟩
  exact c.trans hs (c.trans hd (c.foldl Dev.dropEvent (fun _ _ => ⟨rfl, rfl, rfl⟩) _ _))

/-- The frame of the step is the frame of its command. -/
theorem after (h : Dev.OwnStep ps cs s.dev.quiet d) : Dev.OnlyChanged ps [] cs s.dev (s.after (fun _ => d)).dev := by
  have hd : Dev.OnlyChanged ps [] cs s.dev d := Dev.OnlyChanged.quiet.trans h.frame
  have m := h.after_samePool
  have w : Dev.OnlyChanged (.net :: .sw :: .ten :: ps) [] cs s.dev (s.after (fun _ => d)).dev :=
    State.after_onlyChanged' (hd.mono (fun p hp => by simp [hp]) (List.Subset.refl _) (List.Subset.refl _)) (by simp) (by simp) (by simp)
  have k := s.after_same (fun _ => d)
  refine ⟨fun p hp => ?_, w.flds, w.ctrs⟩
  have hq := hd.parts p hp
  cases p with
  | net => exact m.net.trans hq
  | sw => exact m.sw.trans hq
  | ten =>
    refine Eq.trans ?_ hq
    have h1 := k.ten
    have h2 := m.classQ
    simp only [Tenancy.mk.injEq] at h1 ⊢
    simp only [h1, h2, and_self]
  | _ => exact w.parts _ (by simp [hp])

/-- An event raised at the end of a step that began with none, behind fewer than sixteen others, is told to the recorder. -/
theorem told {e : Dev} {k : Die} {id n : Nat} {x : List Byte} (h : Dev.OwnStep ps cs s.dev.quiet e) (ht : .time ∉ ps) (hl : .timeLoaded ∉ ps)
    (hr : e.raised.length < 16) (hp : (e.event k id x n).raised <+: d.raised) (hh : s.hears k) : s.told (s.after (fun _ => d)) k id x n :=
  State.told_of_prefix hr hp (h.nowOn ht k) (h.timeLoaded_eq hl) hh

end Dev.OwnStep

/-- A step after which bond link `k` is `y` and the other links are as they were. -/
structure Dev.BondStep (ps : List DevPart) (cs : List Ctr) (k : Nat) (y : Bond) (a b : Dev) : Prop extends Dev.OwnStep ps cs a b where
  self : b.bond k = y
  other : ∀ j, j ≠ k → b.bond j = a.bond j

namespace Dev.BondStep

variable {ps : List DevPart} {cs : List Ctr} {k : Nat} {y z : Bond} {a b c : Dev}

theorem trans (h : Dev.BondStep ps cs k y a b) (g : Dev.BondStep ps cs k z b c) : Dev.BondStep ps cs k z a c :=
  ⟨h.toOwnStep.trans g.toOwnStep, g.self, fun j hj => (g.other j hj).trans (h.other j hj)⟩

theorem of_step (h : Dev.Step ps [] cs a b) : Dev.BondStep ps cs k (a.bond k) a b :=
  have hb : ∀ j, b.bond j = a.bond j := fun j => congrArg (fun o : Ownership => o.bonds.get {} j) h.own
  ⟨.of_step h, hb k, fun j _ => hb j⟩

/-- A further step that leaves ownership as it was. -/
theorem then_step (h : Dev.BondStep ps cs k y a b) (g : Dev.Step ps [] cs b c) : Dev.BondStep ps cs k y a c :=
  h.self ▸ h.trans (.of_step g)

theorem setBond (s : Dev) (k : Nat) (y : Bond) (hp : .own ∈ ps) (hu : y.up = (s.bond k).up) : Dev.BondStep ps cs k y s (s.setBond k y) := by
  have hother : ∀ j, j ≠ k → (s.setBond k y).bond j = s.bond j := fun j hj => s.bond_setBond_other j k y hj
  refine ⟨.own s _ hp fun j => ?_, s.bond_setBond_self k y, hother⟩
  by_cases hj : j = k
  · subst hj
    exact (congrArg Bond.up (s.bond_setBond_self j y)).trans hu
  · exact congrArg Bond.up (hother j hj)

/-- The link a command leaves. -/
theorem after_bond {s : State} {d : Dev} (h : Dev.BondStep ps cs k y s.dev.quiet d) :
    (s.after (fun _ => d)).dev.bond k = y ∧ ∀ j, j ≠ k → (s.after (fun _ => d)).dev.bond j = s.dev.bond j := by
  have ho : ∀ j, (s.after (fun _ => d)).dev.bond j = d.bond j := fun j =>
    congrArg (fun o : Ownership => o.bonds.get {} j) (State.after_own s (fun _ => d))
  exact ⟨(ho k).trans h.self, fun j hj => (ho j).trans (h.other j hj)⟩

end Dev.BondStep

section Sending

variable {s : Dev} {k : Nat}

/-- A link that has sent one more frame of a type and length at tick `now` (16 R632). -/
def Bond.sent (x : Bond) (now type cls len : Nat) : Bond :=
  { x with lseq := (x.lseq + 1) % 2 ^ 32, frameCtr := x.frameCtr + 1
           unacked := x.unacked ++ [{ lseq := (x.lseq + 1) % 2 ^ 32, type := type, cls := cls, bytes := len }]
           ackAt := if x.unacked.isEmpty then now else x.ackAt }

theorem Dev.bondStep_bondFrame (s : Dev) (k type cls len : Nat) {ps : List DevPart} {cs : List Ctr} (hp : .own ∈ ps) :
    Dev.BondStep ps cs k ((s.bond k).sent (s.nowOn .ln) type cls len) s (s.bondFrame k type cls len) :=
  have hc : Dev.BondStep ps cs k (s.bond k) s (s.countJobs 1) := .of_step (.countSettling s .CX_GC_JOBS _ _ (by decide))
  (hc.trans (.setBond _ k ((s.bond k).sent (s.nowOn .ln) type cls len) hp rfl)).then_step (.emit _ _)

/-- What fits one frame is sent as one. -/
theorem Dev.bondSend_eq (h : s.bondRuns k = true) (type cls len : Nat) (hl : len ≤ bondPayload) :
    s.bondSend k type cls len = s.bondFrame k type cls len := by
  have hn : max 1 ((len + bondPayload - 1) / bondPayload) = 1 := by
    simp only [bondPayload] at hl ⊢
    omega
  have hr : List.range 1 = [0] := rfl
  simp only [Dev.bondSend, h, Bool.not_true, Bool.false_eq_true, if_false, hn, hr, List.foldl_cons, List.foldl_nil, Nat.zero_mul, Nat.sub_zero,
    Nat.min_eq_right hl]

/-- A link's own messages each take one frame. -/
theorem Dev.bondStep_bondSend (h : s.bondRuns k = true) (type cls len : Nat) (hl : len ≤ bondPayload) {ps : List DevPart} {cs : List Ctr} (hp : .own ∈ ps) :
    Dev.BondStep ps cs k ((s.bond k).sent (s.nowOn .ln) type cls len) s (s.bondSend k type cls len) :=
  s.bondSend_eq h type cls len hl ▸ s.bondStep_bondFrame k type cls len hp

/-- A link carries frames as long as it is up and its regions are not isolated. -/
theorem Dev.bondRuns_of {a b : Dev} (hu : (b.bond k).up = (a.bond k).up) (ha : b.arch = a.arch) : b.bondRuns k = a.bondRuns k := by
  simp only [Dev.bondRuns, Dev.isolated, Dev.region, hu, ha]

theorem Dev.OwnStep.bondRuns {ps : List DevPart} {cs : List Ctr} {a b : Dev} (h : Dev.OwnStep ps cs a b) (k : Nat) : b.bondRuns k = a.bondRuns k :=
  Dev.bondRuns_of (h.up k) h.arch

/-- Asking for a width sends its request and keeps it (16 R633, R634). -/
theorem Dev.bondStep_askWidth (h : s.bondRuns k = true) (w : Nat) :
    Dev.BondStep [.own] [] k ({ s.bond k with request := some w, low := 0 }.sent (s.nowOn .ln) bondWidthType 0 4) s (s.askWidth k w) := by
  have hb : Dev.BondStep [.own] [] k { s.bond k with request := some w, low := 0 } s (s.setBond k { s.bond k with request := some w, low := 0 }) :=
    .setBond s k _ (by decide) rfl
  have hs := Dev.bondStep_bondSend (ps := [.own]) (cs := []) ((hb.toOwnStep.bondRuns k).trans h) bondWidthType 0 4 (by decide) (by decide)
  rw [hb.self] at hs
  exact (hb.trans hs).then_step (.emit _ _)

theorem Dev.mem_askWidth_out (s : Dev) (k w : Nat) : Out.bondWidth k w none ∈ (s.askWidth k w).out :=
  List.mem_append_right _ (List.mem_singleton.mpr rfl)

/-- A link at its new width, counted but not yet told. -/
def Dev.widthSet (s : Dev) (k w : Nat) : Dev := (s.setBond k { s.bond k with width := w, request := none, low := 0 }).count .OWN_WIDTH_CHANGES

theorem Dev.bondStep_widthSet (s : Dev) (k w : Nat) :
    Dev.BondStep [.own] [.OWN_WIDTH_CHANGES] k { s.bond k with width := w, request := none, low := 0 } s (s.widthSet k w) :=
  (Dev.BondStep.setBond s k { s.bond k with width := w, request := none, low := 0 } (by decide) rfl).then_step
    (.count _ .OWN_WIDTH_CHANGES _ _ (by decide))

/-- A new width holds, is counted and told (16 R634, R641). -/
theorem Dev.takeWidth_eq (s : Dev) (k w : Nat) : s.takeWidth k w = (s.widthSet k w).event .ln 0x3FE (le 1 k ++ le 1 (widthCode w)) := by
  have hw : ((s.widthSet k w).bond k).width = w := congrArg Bond.width (s.bondStep_widthSet k w).self
  have h : s.takeWidth k w = (s.widthSet k w).event .ln 0x3FE (le 1 k ++ le 1 (widthCode ((s.widthSet k w).bond k).width)) := rfl
  rw [h, hw]

end Sending

end Sys2Proof.Machine

/-!
PROOF. Lane shedding and width changes of a bond link (16 R633, R634).
-/
namespace Sys2Proof.Machine

section Shedding

variable {s : State} {link : Fin 2} {tx rx burst : Nat}

/-- Cells queued for a bond link's output. -/
def Dev.bondCells (s : Dev) (k : Nat) : Nat := ((s.sw.units.filter (fun u => u.output == 11 + k)).map (·.cells)).sum

/-- Full width is wanted at once (16 R633). -/
def Dev.bondBusy (s : Dev) (k burst : Nat) : Bool := decide (64 < s.bondCells k) || decide (3 * (125000 * (s.bond k).width) < 4 * burst)

/-- Windows in a row with both directions below 25 %, this one included. -/
def Bond.lowNow (x : Bond) (tx rx : Nat) : Nat := if 4 * tx < 12500000 * x.width ∧ 4 * rx < 12500000 * x.width then x.low + 1 else 0

/-- What a link that asks for nothing yet does at the end of a window. -/
def Dev.shed (d : Dev) (k tx rx burst : Nat) : Dev :=
  if d.bondBusy k burst then (if (d.bond k).width < 8 then d.askWidth k (2 * (d.bond k).width) else d)
  else if d.nowOn .ln % ms ≠ 0 then d
  else if 4 ≤ (d.bond k).lowNow tx rx ∧ minWidth (d.fld .BOND_CFG_MIN_WIDTH k) < (d.bond k).width then d.askWidth k ((d.bond k).width / 2)
  else d.setBond k { d.bond k with low := min 4 ((d.bond k).lowNow tx rx) }

theorem exec_shedWindowEnd (hb : s.dev.bondRuns link.val = true) (hq : (s.dev.bond link.val).request = none)
    (hs : s.dev.flag .BOND_CFG_SHED_EN link.val = true) :
    exec (.shedWindowEnd link tx rx burst) s = s.run (fun _ => s.dev.quiet.shed link.val tx rx burst) := by
  have hq' : ¬(s.dev.quiet.bond link.val).request.isSome = true := by
    have h : (s.dev.quiet.bond link.val).request = none := hq
    rw [h]
    exact Bool.false_ne_true
  exact State.runIf_eq_of_quiet (by rw [hb, hs]; rfl) (if_neg hq')

/-- A command that asks for a width. -/
theorem shed_asks {k w : Nat} (hb : s.dev.bondRuns k = true)
    (hx : exec (.shedWindowEnd link tx rx burst) s = s.run (fun _ => s.dev.quiet.askWidth k w)) :
    Answers (.shedWindowEnd link tx rx burst) s (fun t => t.dev.bond k = { s.dev.bond k with request := some w, low := 0 }.sent (s.dev.nowOn .ln) 9 0 4 ∧
      Out.bondWidth k w none ∈ t.dev.out ∧ (∀ j, j ≠ k → t.dev.bond j = s.dev.bond j) ∧ Dev.OnlyChanged [.own] [] [] s.dev t.dev) := by
  have h := Dev.bondStep_askWidth (s := s.dev.quiet) hb w
  exact .of_run hx ⟨h.after_bond.1, State.after_mem_out s _ (Dev.mem_askWidth_out _ k w), h.after_bond.2, h.after⟩

/-- Above a threshold a link asks for twice its width. -/
theorem shedWindowEnd_widens (hb : s.dev.bondRuns link.val = true) (hq : (s.dev.bond link.val).request = none)
    (hs : s.dev.flag .BOND_CFG_SHED_EN link.val = true) (hy : s.dev.bondBusy link.val burst = true) (hw : (s.dev.bond link.val).width < 8) :
    Answers (.shedWindowEnd link tx rx burst) s (fun t =>
      t.dev.bond link.val = { s.dev.bond link.val with request := some (2 * (s.dev.bond link.val).width), low := 0 }.sent (s.dev.nowOn .ln) 9 0 4 ∧
      Out.bondWidth link.val (2 * (s.dev.bond link.val).width) none ∈ t.dev.out ∧ (∀ j, j ≠ link.val → t.dev.bond j = s.dev.bond j) ∧
      Dev.OnlyChanged [.own] [] [] s.dev t.dev) :=
  have hd : s.dev.quiet.shed link.val tx rx burst = s.dev.quiet.askWidth link.val (2 * (s.dev.bond link.val).width) :=
    (if_pos hy).trans (if_pos hw)
  shed_asks hb ((exec_shedWindowEnd hb hq hs).trans (by rw [hd]))

/-- At full width there is nothing to ask for. -/
theorem shedWindowEnd_full (hb : s.dev.bondRuns link.val = true) (hq : (s.dev.bond link.val).request = none)
    (hs : s.dev.flag .BOND_CFG_SHED_EN link.val = true) (hy : s.dev.bondBusy link.val burst = true) (hw : 8 ≤ (s.dev.bond link.val).width) :
    Answers (.shedWindowEnd link tx rx burst) s (fun t => Dev.OnlyChanged [] [] [] s.dev t.dev) :=
  have hd : s.dev.quiet.shed link.val tx rx burst = s.dev.quiet :=
    (if_pos hy).trans (if_neg (Nat.not_lt.mpr hw))
  .of_run ((exec_shedWindowEnd hb hq hs).trans (by rw [hd])) (Dev.OwnStep.refl s.dev.quiet).after

/-- At the end of a window of 1 ms without need of more the low windows are judged. -/
theorem Dev.shed_quiet {d : Dev} {k : Nat} (hy : d.bondBusy k burst = false) (ht : d.nowOn .ln % 1000000 = 0) :
    d.shed k tx rx burst =
      if 4 ≤ (d.bond k).lowNow tx rx ∧ minWidth (d.fld .BOND_CFG_MIN_WIDTH k) < (d.bond k).width then d.askWidth k ((d.bond k).width / 2)
      else d.setBond k { d.bond k with low := min 4 ((d.bond k).lowNow tx rx) } :=
  have hms : ¬d.nowOn .ln % ms ≠ 0 := fun h => h ht
  (if_neg fun h => Bool.false_ne_true (hy.symm.trans h)).trans (if_neg hms)

/-- After four low windows a link asks for half its width. -/
theorem shedWindowEnd_narrows (hb : s.dev.bondRuns link.val = true) (hq : (s.dev.bond link.val).request = none)
    (hs : s.dev.flag .BOND_CFG_SHED_EN link.val = true) (hy : s.dev.bondBusy link.val burst = false) (ht : s.dev.nowOn .ln % 1000000 = 0)
    (hl : 4 ≤ (s.dev.bond link.val).lowNow tx rx) (hm : minWidth (s.dev.fld .BOND_CFG_MIN_WIDTH link.val) < (s.dev.bond link.val).width) :
    Answers (.shedWindowEnd link tx rx burst) s (fun t =>
      (t.dev.bond link.val).request = some ((s.dev.bond link.val).width / 2) ∧ (t.dev.bond link.val).width = (s.dev.bond link.val).width ∧
      (t.dev.bond link.val).low = 0 ∧ Out.bondWidth link.val ((s.dev.bond link.val).width / 2) none ∈ t.dev.out ∧
      (∀ j, j ≠ link.val → t.dev.bond j = s.dev.bond j) ∧ Dev.OnlyChanged [.own] [] [] s.dev t.dev) := by
  have hd : s.dev.quiet.shed link.val tx rx burst = s.dev.quiet.askWidth link.val ((s.dev.bond link.val).width / 2) :=
    (Dev.shed_quiet (d := s.dev.quiet) hy ht).trans (if_pos ⟨hl, hm⟩)
  have hx := exec_shedWindowEnd (tx := tx) (rx := rx) (burst := burst) hb hq hs
  rw [hd] at hx
  refine (shed_asks hb hx).imp fun t ⟨hbond, hout, hother, hframe⟩ => ?_
  rw [hbond]
  exact ⟨rfl, rfl, rfl, hout, hother, hframe⟩

/-- Else the low windows are counted, no further than four. -/
theorem shedWindowEnd_counts (hb : s.dev.bondRuns link.val = true) (hq : (s.dev.bond link.val).request = none)
    (hs : s.dev.flag .BOND_CFG_SHED_EN link.val = true) (hy : s.dev.bondBusy link.val burst = false) (ht : s.dev.nowOn .ln % 1000000 = 0)
    (hn : ¬(4 ≤ (s.dev.bond link.val).lowNow tx rx ∧ minWidth (s.dev.fld .BOND_CFG_MIN_WIDTH link.val) < (s.dev.bond link.val).width)) :
    Answers (.shedWindowEnd link tx rx burst) s (fun t =>
      t.dev.bond link.val = { s.dev.bond link.val with low := min 4 ((s.dev.bond link.val).lowNow tx rx) } ∧
      (∀ j, j ≠ link.val → t.dev.bond j = s.dev.bond j) ∧ Dev.OnlyChanged [.own] [] [] s.dev t.dev) := by
  have hd := (Dev.shed_quiet (tx := tx) (rx := rx) (d := s.dev.quiet) hy ht).trans (if_neg hn)
  have h := Dev.BondStep.setBond (ps := [.own]) (cs := []) s.dev.quiet link.val
    { s.dev.bond link.val with low := min 4 ((s.dev.bond link.val).lowNow tx rx) } (by decide) rfl
  exact .of_run ((exec_shedWindowEnd hb hq hs).trans (congrArg (fun d => s.run (fun _ => d)) hd)) ⟨h.after_bond.1, h.after_bond.2, h.after⟩

theorem Dev.bondBusy_iff {d : Dev} {k : Nat} :
    d.bondBusy k burst = true ↔ 64 < d.bondCells k ∨ 3 * (125000 * (d.bond k).width) < 4 * burst := by
  simp only [Dev.bondBusy, Bool.or_eq_true, decide_eq_true_eq]

theorem Dev.bondBusy_eq_false {d : Dev} {k : Nat} (hc : d.bondCells k ≤ 64) (hr : 4 * burst ≤ 3 * (125000 * (d.bond k).width)) :
    d.bondBusy k burst = false :=
  Bool.eq_false_iff.mpr fun h => (Dev.bondBusy_iff.mp h).elim (Nat.not_lt.mpr hc) (Nat.not_lt.mpr hr)

theorem Bond.lowNow_of_low {x : Bond} (ht : 4 * tx < 12500000 * x.width) (hr : 4 * rx < 12500000 * x.width) : x.lowNow tx rx = x.low + 1 :=
  if_pos ⟨ht, hr⟩

/-- Without four low windows in a row, or at the least width, no narrowing is asked for. -/
theorem Bond.not_narrows {x : Bond} {m : Nat} (h : 12500000 * x.width ≤ 4 * tx ∨ 12500000 * x.width ≤ 4 * rx ∨ x.low < 3 ∨ x.width ≤ m) :
    ¬(4 ≤ x.lowNow tx rx ∧ m < x.width) := by
  unfold Bond.lowNow
  split <;> omega

theorem Bond.min_lowNow (x : Bond) : min 4 (x.lowNow tx rx) =
    if 4 * tx < 12500000 * x.width ∧ 4 * rx < 12500000 * x.width then min 4 (x.low + 1) else 0 := by
  unfold Bond.lowNow
  split <;> rfl

end Shedding

section Taking

variable {s : State} {link : Fin 2}

/-- This end takes a width asked for from the far end (16 R634): it asks for none itself, or its own request gives way. -/
def Dev.yieldsTo (d : Dev) (k width : Nat) : Bool :=
  match (d.bond k).request with
  | none => true
  | some w => if decide ((d.bond k).width < w) = decide ((d.bond k).width < width) then decide ((d.bond k).peer < d.pkgIdx)
    else decide ((d.bond k).width < width)

/-- A width taken with an acknowledgement that names the LSEQ it holds from. -/
def Dev.takeAsked (d : Dev) (k width : Nat) : Dev :=
  ((d.bondSend k bondWidthAckType 0 8).emit (.bondWidth k width (some (((d.bond k).lseq + 1) % 2 ^ 32)))).takeWidth k width

/-- A width of this link that a request may name. -/
def Bond.mayTake (x : Bond) (width : Nat) : Prop := (width = 2 * x.width ∨ 2 * width = x.width) ∧ (width = 2 ∨ width = 4 ∨ width = 8)

theorem exec_widthRequestReceive {width : Nat} (hb : s.dev.bondRuns link.val = true) (hw : (s.dev.bond link.val).mayTake width) :
    exec (.widthRequestReceive link width) s =
      s.run (fun _ => if !s.dev.quiet.yieldsTo link.val width then s.dev.quiet else s.dev.quiet.takeAsked link.val width) := by
  have hc : (s.dev.bondRuns link.val && (width == 2 * (s.dev.bond link.val).width || 2 * width == (s.dev.bond link.val).width) &&
      (width == 2 || width == 4 || width == 8)) = true := by
    simp only [Bool.and_eq_true, Bool.or_eq_true, beq_iff_eq, or_assoc]
    exact ⟨⟨hb, hw.1⟩, hw.2⟩
  exact State.runIf_eq_of_quiet hc rfl

/-- Taking a width changes one link, and is counted and told. -/
theorem taken_width {i : Instr} {k w : Nat} {x : Bond} {e : Dev} (hx : exec i s = s.run (fun _ => e.takeWidth k w))
    (h : Dev.BondStep [.own] [.OWN_WIDTH_CHANGES] k x s.dev.quiet e) (hr : e.raised = []) (hc : e.ctr .OWN_WIDTH_CHANGES = s.dev.ctr .OWN_WIDTH_CHANGES) :
    Answers i s (fun t => t.dev.bond k = { x with width := w, request := none, low := 0 } ∧ (∀ o ∈ e.out, o ∈ t.dev.out) ∧
      t.dev.ctr .OWN_WIDTH_CHANGES = (s.dev.ctr .OWN_WIDTH_CHANGES + 1) % 2 ^ 64 ∧
      (s.hears .ln → s.told t .ln 0x3FE (le 1 k ++ le 1 (widthCode w))) ∧ (∀ j, j ≠ k → t.dev.bond j = s.dev.bond j) ∧
      Dev.OnlyChanged [.own] [] [.OWN_WIDTH_CHANGES] s.dev t.dev) := by
  have hset := e.bondStep_widthSet k w
  rw [h.self] at hset
  have hs := h.trans hset
  have hd : Dev.BondStep [.own] [.OWN_WIDTH_CHANGES] k { x with width := w, request := none, low := 0 } s.dev.quiet (e.takeWidth k w) :=
    e.takeWidth_eq k w ▸ hs.then_step (.event _ _ _ _ _)
  have hctr : (e.takeWidth k w).ctr .OWN_WIDTH_CHANGES = (e.ctr .OWN_WIDTH_CHANGES + 1) % 2 ^ 64 := Dev.ctr_count_self _ .OWN_WIDTH_CHANGES 0 1
  have hraised : (e.widthSet k w).raised.length < 16 := by
    have hq : (e.widthSet k w).raised = e.raised := rfl
    rw [hq, hr]
    decide
  have hlast : ((e.widthSet k w).event .ln 0x3FE (le 1 k ++ le 1 (widthCode w))).raised <+: (e.takeWidth k w).raised := by
    rw [e.takeWidth_eq k w]
  refine .of_run hx ⟨hd.after_bond.1, fun o ho => State.after_mem_out s _ (List.Sublist.subset (e.takeWidth_eq k w ▸ List.Sublist.refl _) ho), ?_,
    fun hh => hs.told (by decide) (by decide) hraised hlast hh, hd.after_bond.2, hd.after⟩
  rw [State.after_ctr s _ .OWN_WIDTH_CHANGES (by decide) 0, hctr, hc]

/-- A width asked for from the far end is taken, with an acknowledgement. -/
theorem widthRequestReceive_takes {width : Nat} (hb : s.dev.bondRuns link.val = true) (hw : (s.dev.bond link.val).mayTake width)
    (hy : s.dev.yieldsTo link.val width = true) :
    Answers (.widthRequestReceive link width) s (fun t =>
      (t.dev.bond link.val).width = width ∧ (t.dev.bond link.val).request = none ∧ (t.dev.bond link.val).low = 0 ∧
      Out.bondWidth link.val width (some (((s.dev.bond link.val).lseq + 1) % 2 ^ 32)) ∈ t.dev.out ∧
      t.dev.ctr .OWN_WIDTH_CHANGES = (s.dev.ctr .OWN_WIDTH_CHANGES + 1) % 2 ^ 64 ∧
      (s.hears .ln → s.told t .ln 0x3FE (le 1 link.val ++ le 1 (widthCode width))) ∧ (∀ j, j ≠ link.val → t.dev.bond j = s.dev.bond j) ∧
      Dev.OnlyChanged [.own] [] [.OWN_WIDTH_CHANGES] s.dev t.dev) := by
  have hy' : s.dev.quiet.yieldsTo link.val width = true := hy
  have hb' : s.dev.quiet.bondRuns link.val = true := hb
  have hx := exec_widthRequestReceive hb hw
  rw [hy', Bool.not_true, if_neg Bool.false_ne_true] at hx
  have he : s.dev.quiet.bondSend link.val bondWidthAckType 0 8 = s.dev.quiet.bondFrame link.val bondWidthAckType 0 8 :=
    Dev.bondSend_eq hb' _ _ _ (by decide)
  have hstep := (s.dev.quiet.bondStep_bondFrame link.val bondWidthAckType 0 8 (ps := [.own]) (cs := [.OWN_WIDTH_CHANGES]) (by decide)).then_step
    (.emit _ (.bondWidth link.val width (some (((s.dev.bond link.val).lseq + 1) % 2 ^ 32))))
  rw [Dev.takeAsked, he] at hx
  refine (taken_width hx hstep rfl ?_).imp fun t ⟨hbond, hout, hctr, htold, hother, hframe⟩ => ?_
  · exact Dev.ctr_count_other s.dev.quiet (c := .CX_GC_JOBS) (e := .OWN_WIDTH_CHANGES) 1 (.inl (by decide))
  · rw [hbond]
    exact ⟨rfl, rfl, rfl, hout _ (List.mem_append_right _ (List.mem_singleton.mpr rfl)), hctr, htold, hother, hframe⟩

/-- A width that does not prevail over this end's own request is not taken. -/
theorem widthRequestReceive_refuses {width : Nat} (hb : s.dev.bondRuns link.val = true) (hw : (s.dev.bond link.val).mayTake width)
    (hy : s.dev.yieldsTo link.val width = false) :
    Answers (.widthRequestReceive link width) s (fun t => t.dev.own = s.dev.own ∧ Dev.OnlyChanged [] [] [] s.dev t.dev) := by
  have hy' : s.dev.quiet.yieldsTo link.val width = false := hy
  have hx := exec_widthRequestReceive hb hw
  rw [hy', Bool.not_false, if_pos rfl] at hx
  exact .of_run hx ⟨State.after_own s (fun _ => s.dev.quiet), (Dev.OwnStep.refl s.dev.quiet).after⟩

theorem Dev.yieldsTo_of_prevails {d : Dev} {k width : Nat} (h : (d.bond k).request = none ∨ (∃ w, (d.bond k).request = some w ∧
    ((decide ((d.bond k).width < w) = decide ((d.bond k).width < width) ∧ (d.bond k).peer < d.pkgIdx) ∨
      (w ≤ (d.bond k).width ∧ (d.bond k).width < width)))) : d.yieldsTo k width = true := by
  unfold Dev.yieldsTo
  obtain hn | ⟨w, hw, hc⟩ := h
  · rw [hn]
  · rw [hw]
    dsimp only
    obtain ⟨hk, hp⟩ | ⟨hle, hlt⟩ := hc
    · rw [if_pos hk, decide_eq_true hp]
    · rw [decide_eq_true hlt, decide_eq_false (Nat.not_lt.mpr hle), if_neg Bool.false_ne_true]

theorem Dev.yieldsTo_of_gives_way {d : Dev} {k width : Nat} (h : ∃ w, (d.bond k).request = some w ∧
    ((decide ((d.bond k).width < w) = decide ((d.bond k).width < width) ∧ d.pkgIdx ≤ (d.bond k).peer) ∨
      ((d.bond k).width < w ∧ width ≤ (d.bond k).width))) : d.yieldsTo k width = false := by
  unfold Dev.yieldsTo
  obtain ⟨w, hw, hc⟩ := h
  rw [hw]
  dsimp only
  obtain ⟨hk, hp⟩ | ⟨hlt, hle⟩ := hc
  · rw [if_pos hk, decide_eq_false (Nat.not_lt.mpr hp)]
  · rw [decide_eq_true hlt, decide_eq_false (Nat.not_lt.mpr hle), if_neg (by decide)]

/-- The width asked for holds once it is acknowledged. -/
theorem widthAckReceive_takes {lseq : Word} {w : Nat} (hb : s.dev.bondRuns link.val = true) (hq : (s.dev.bond link.val).request = some w) :
    Answers (.widthAckReceive link lseq) s (fun t =>
      t.dev.bond link.val = { s.dev.bond link.val with width := w, request := none, low := 0 } ∧
      t.dev.ctr .OWN_WIDTH_CHANGES = (s.dev.ctr .OWN_WIDTH_CHANGES + 1) % 2 ^ 64 ∧
      (s.hears .ln → s.told t .ln 0x3FE (le 1 link.val ++ le 1 (widthCode w))) ∧ (∀ j, j ≠ link.val → t.dev.bond j = s.dev.bond j) ∧
      Dev.OnlyChanged [.own] [] [.OWN_WIDTH_CHANGES] s.dev t.dev) := by
  have hq' : (s.dev.quiet.bond link.val).request = some w := hq
  have hx : exec (.widthAckReceive link lseq) s = s.run (fun _ => s.dev.quiet.takeWidth link.val w) :=
    State.runIf_eq_of_quiet hb (by simp only [hq'])
  exact (taken_width hx (.of_step (.refl _)) rfl rfl).imp fun t ⟨hbond, _, h⟩ => ⟨hbond, h⟩

theorem widthAckReceive_ignored {lseq : Word} (hb : s.dev.bondRuns link.val = true) (hq : (s.dev.bond link.val).request = none) :
    Answers (.widthAckReceive link lseq) s (fun t => Dev.OnlyChanged [] [] [] s.dev t.dev) := by
  have hq' : (s.dev.quiet.bond link.val).request = none := hq
  have hx : exec (.widthAckReceive link lseq) s = s.run (fun _ => s.dev.quiet) := State.runIf_eq_of_quiet hb (by simp only [hq'])
  exact .of_run hx (Dev.OwnStep.refl s.dev.quiet).after

end Taking

end Sys2Proof.Machine

/-!
PROOF. A partner package that has fallen silent, and the mirror without a link (16 R635-R637).
-/
namespace Sys2Proof.Machine

section Suspending

variable {s : State}

theorem Dev.bondsUp_isEmpty {d : Dev} (h0 : (d.bond 0).up = false) (h1 : (d.bond 1).up = false) : d.bondsUp.isEmpty = true := by
  have hr : ∀ k, (d.bond k).up = false → d.bondRuns k = false := fun k h => by rw [Dev.bondRuns, h, Bool.false_and, Bool.false_and]
  have hl : List.range 2 = [0, 1] := rfl
  simp only [Dev.bondsUp, hl, List.filter_cons, hr 0 h0, hr 1 h1, Bool.false_eq_true, if_false, List.filter_nil, List.isEmpty_nil]

/-- The mirror is off. -/
def Dev.unmirrored (d : Dev) : Dev := { d with own := { d.own with mirrorOff := true } }

theorem Dev.ownStep_unmirrored (d : Dev) {cs : List Ctr} : Dev.OwnStep [.own, .fresh] cs d d.unmirrored := .own d _ (by decide) fun _ => rfl

theorem mirrorSuspend_answers (h : s.dev.mirrors = true ∧ s.dev.mode.diesUp = true ∧ (s.dev.bond 0).up = false ∧ (s.dev.bond 1).up = false)
    (ht : s.dev.own.noBondFrom + 1000000 < s.dev.nowOn .ln) :
    Answers .mirrorSuspend s (fun t => t.dev.own = { s.dev.own with mirrorOff := true } ∧ t.dev.mirrors = false ∧
      (s.hears .ln → ∃ n, s.told t .ln 0x3FD (le 1 (if s.dev.flag .BOND_CFG_MIRROR 0 then 0 else 1)) n) ∧ Dev.OnlyChanged [.own, .fresh] [] [] s.dev t.dev) := by
  obtain ⟨hm, hd, h0, h1⟩ := h
  have hc : (s.dev.mirrors && s.dev.bondsUp.isEmpty && s.dev.mode.diesUp && s.dev.expired .ln s.dev.own.noBondFrom ms) = true := by
    rw [hm, Dev.bondsUp_isEmpty h0 h1, hd, Bool.true_and, Bool.true_and, Bool.true_and]
    exact decide_eq_true ht
  have hx : exec .mirrorSuspend s =
      s.run (fun _ => s.dev.quiet.unmirrored.eventOpenCause .ln 0x3FD (le 1 (if s.dev.flag .BOND_CFG_MIRROR 0 then 0 else 1))) :=
    State.runIf_eq_of_quiet hc rfl
  have hs : Dev.OwnStep [.own, .fresh] [] s.dev.quiet s.dev.quiet.unmirrored.draw.2 :=
    s.dev.quiet.ownStep_unmirrored.trans (.of_step (.fresh _ _ (by decide)))
  have hf : Dev.OwnStep [.own, .fresh] [] s.dev.quiet
      (s.dev.quiet.unmirrored.eventOpenCause .ln 0x3FD (le 1 (if s.dev.flag .BOND_CFG_MIRROR 0 then 0 else 1))) :=
    hs.trans (.of_step (.event _ _ _ _ _))
  have hown : (s.after (fun _ => s.dev.quiet.unmirrored.eventOpenCause .ln 0x3FD (le 1 (if s.dev.flag .BOND_CFG_MIRROR 0 then 0 else 1)))).dev.own =
      { s.dev.own with mirrorOff := true } := State.after_own s _
  refine .of_run hx ⟨hown, ?_, fun hh => ⟨_, hs.told (by decide) (by decide) (Nat.zero_lt_succ 15) List.prefix_rfl hh⟩, hf.after⟩
  rw [Dev.mirrors, hown, Bool.not_true, Bool.and_false]

end Suspending

section Mirrored

variable {a b c : Dev} {g : Nat}

/-- From `a` to `b` members were written: commands numbered and counted, nothing raised, every volume as it was. -/
structure Dev.WritesMembers (a b : Dev) : Prop where
  step : Dev.Step [.store] [] [.DRV_MCMD_ISSUED] a b
  vols : b.store.vols = a.store.vols
  raised : b.raised = a.raised

namespace Dev.WritesMembers

theorem refl (a : Dev) : Dev.WritesMembers a a := ⟨.refl a, rfl, rfl⟩

theorem trans (h : Dev.WritesMembers a b) (k : Dev.WritesMembers b c) : Dev.WritesMembers a c :=
  ⟨h.step.trans k.step, k.vols.trans h.vols, k.raised.trans h.raised⟩

end Dev.WritesMembers

/-- A block of a mirrored record written to its member, where it is reached. -/
def Dev.applyBlock (s : Dev) (p : Nat) (b : Fetched) : Dev :=
  if b.slot < 24 ∧ s.reaches p b.slot then
    let id := s.store.nextMcmd
    let s := { s with store := { s.store with nextMcmd := id + 1 } }
    (s.count .DRV_MCMD_ISSUED (slotLanes b.slot)).emit (.memberWrite id b.slot b.unit b.stored)
  else s

theorem Dev.writesMembers_applyBlock (s : Dev) (p : Nat) (b : Fetched) : Dev.WritesMembers s (s.applyBlock p b) := by
  unfold Dev.applyBlock
  split
  · exact ⟨((Dev.Step.store s _ (by decide)).trans (.count _ .DRV_MCMD_ISSUED _ _ (by decide))).trans (.emit _ _), rfl, rfl⟩
  · exact .refl s

/-- From `a` to `b` the records that package `g` mirrored of the volumes `vs` were applied, and dropped from the mirror area (16 R637). -/
structure Dev.Applies (g : Nat) (vs : List Nat) (a b : Dev) : Prop where
  step : Dev.OwnStep [.own, .store] [.DRV_MCMD_ISSUED] a b
  own : b.own = { a.own with mirrors := a.own.mirrors.filter (fun m => !(m.pkg == g && vs.contains m.volume)) }
  vols : b.store.vols = a.store.vols
  raised : b.raised = a.raised

theorem Dev.applies_nil (a : Dev) (g : Nat) : Dev.Applies g [] a a where
  step := .refl a
  own := by simp only [List.contains_nil, Bool.and_false, Bool.not_false, List.filter_true]
  vols := rfl
  raised := rfl

theorem Dev.Applies.cons {v : Nat} {vs : List Nat} (h : Dev.Applies g [v] a b) (k : Dev.Applies g vs b c) : Dev.Applies g (v :: vs) a c where
  step := h.step.trans k.step
  own := by
    have hm : ∀ m : Mirror, (!(m.pkg == g && vs.contains m.volume) && !(m.pkg == g && [v].contains m.volume)) =
        !(m.pkg == g && (v :: vs).contains m.volume) := by
      intro m
      simp only [List.contains_cons, List.contains_nil, Bool.or_false]
      cases m.pkg == g <;> cases m.volume == v <;> cases vs.contains m.volume <;> rfl
    rw [k.own, h.own]
    simp only [List.filter_filter, hm]
  vols := k.vols.trans h.vols
  raised := k.raised.trans h.raised

theorem Dev.applies_applyMirrors (s : Dev) (g v : Nat) : Dev.Applies g [v] s (s.applyMirrors g v) := by
  have hw := foldl_within Dev.WritesMembers.refl (fun h k => h.trans k) (fun d b => d.writesMembers_applyBlock (s.volPier v) b)
    ((s.own.mirrors.filter (fun m => m.pkg == g && m.volume == v)).flatMap (·.blocks)) s
  have hd : s.applyMirrors g v = (fun d : Dev => { d with own := { d.own with mirrors := d.own.mirrors.filter (fun m => !(m.pkg == g && m.volume == v)) } })
      (((s.own.mirrors.filter (fun m => m.pkg == g && m.volume == v)).flatMap (·.blocks)).foldl (fun d b => d.applyBlock (s.volPier v) b) s) := rfl
  rw [hd]
  generalize ((s.own.mirrors.filter (fun m => m.pkg == g && m.volume == v)).flatMap (·.blocks)).foldl (fun d b => d.applyBlock (s.volPier v) b) s = e at hw
  have he : Dev.OwnStep [.own, .store] [.DRV_MCMD_ISSUED] s e := .of_step (hw.step.mono (by decide) (List.Subset.refl _) (List.Subset.refl _))
  refine ⟨he.trans (.own e _ (by decide) fun _ => rfl), ?_, hw.vols, hw.raised⟩
  simp only [hw.step.own, List.contains_cons, List.contains_nil, Bool.or_false]

theorem Dev.applies_foldl (g : Nat) (vs : List Nat) : ∀ s : Dev, Dev.Applies g vs s (vs.foldl (fun d v => d.applyMirrors g v) s) := by
  induction vs with
  | nil => exact fun s => s.applies_nil g
  | cons v vs ih => exact fun s => (s.applies_applyMirrors g v).cons (ih _)

/-- Keys inserted one after another, each with its own value. -/
theorem Table.find_foldl_insert {α : Type} (f : Nat → α) (l : List Nat) (j : Nat) :
    ∀ t : Table α, (l.foldl (fun t v => t.insert v (f v)) t).find j = if j ∈ l then some (f j) else t.find j := by
  induction l with
  | nil => exact fun t => (if_neg List.not_mem_nil).symm
  | cons v l ih =>
    intro t
    rw [List.foldl_cons, ih]
    by_cases hl : j ∈ l
    · rw [if_pos hl, if_pos (List.mem_cons_of_mem v hl)]
    · rw [if_neg hl]
      by_cases hv : j = v
      · rw [if_pos (hv ▸ List.mem_cons_self), hv, Table.find_insert_self]
      · rw [if_neg (fun h => (List.mem_cons.mp h).elim hv hl), Table.find_insert_other t _ hv]

end Mirrored

end Sys2Proof.Machine

/-!
PROOF. The end of a partner package's heartbeats: its volumes disputed, those won by a majority of their members taken (16 R635-R637).
-/
namespace Sys2Proof.Machine

section Packages

variable {s d : Dev} {g : Nat} {held : BitVec 24}

/-- A partner package noted silent, counted. -/
def Dev.pkgNoted (d : Dev) (g : Nat) : Dev := { d with own := { d.own with pkgSilent := d.own.pkgSilent ++ [g] } }.count .OWN_HB_SILENT

/-- A partner package noted silent, told (16 R635). -/
def Dev.pkgSilenced (d : Dev) (g : Nat) : Dev := (d.pkgNoted g).event .ln 0x3FB (le 1 g)

/-- The volumes a package owns. -/
def Dev.pkgVols (d : Dev) (g : Nat) : List Nat := (List.range 64).filter (fun v => (d.pvol v).pkg == g)

/-- This package holds a strict majority of a volume's members (16 R636). -/
def Dev.winsPkg (d : Dev) (held : BitVec 24) (v : Nat) : Bool :=
  decide ((d.cfgSlots v).length < 2 * ((d.cfgSlots v).filter (fun k => d.reaches (d.volPier v) k && held.getLsbD k)).length)

/-- The disputed volumes that this package wins. -/
def Dev.pkgWon (d : Dev) (g : Nat) (held : BitVec 24) : List Nat := (d.pkgVols g).filter (d.winsPkg held)

/-- Package ownership with the volumes won at the next package epoch. -/
def Dev.pkgTaken (d : Dev) (won : List Nat) : Table PkgOwned :=
  won.foldl (fun t v => t.insert v ⟨d.pkgIdx, ((d.pvol v).epoch + 1) % 2 ^ 30⟩) d.own.pvols

/-- The volumes won taken, the dispute counted. -/
def Dev.pkgCounted (d : Dev) (won : List Nat) : Dev :=
  { d with own := { d.own with pvols := d.pkgTaken won, dispute := true } }.count .OWN_DISPUTES

/-- The volumes won taken, the dispute told. -/
def Dev.pkgDisputed (d : Dev) (won lost : List Nat) : Dev := (d.pkgCounted won).event .ln 0x3FC (le 8 (bitmap won) ++ le 8 (bitmap lost))

/-- The mirrored records of the volumes won applied. -/
def Dev.pkgApplied (d : Dev) (g : Nat) (won lost : List Nat) : Dev := won.foldl (fun d v => d.applyMirrors g v) (d.pkgDisputed won lost)

/-- What a silent package's volumes bring (16 R636, R637). -/
def Dev.pkgLost (d : Dev) (g : Nat) (held : BitVec 24) : Dev :=
  if (d.pkgVols g).isEmpty then d
  else (d.pkgApplied g (d.pkgWon g held) ((d.pkgVols g).filter (fun v => !d.winsPkg held v))).eventIf (!(d.pkgWon g held).isEmpty) .ln 0x3FE
    (le 8 (bitmap (d.pkgWon g held)))

/-- A partner package with a link that has trained is silent on every such link. -/
structure Dev.PkgQuiet (d : Dev) (g : Nat) : Prop where
  up : d.epUp = true
  foreign : g ≠ d.pkgIdx
  fresh : d.own.pkgSilent.contains g = false
  linked : [0, 1].any (fun k => (d.bond k).peer == g && (d.bond k).training != 0) = true
  silent : [0, 1].all (fun k => (d.bond k).peer != g || (d.bond k).training == 0 || decide ((d.bond k).hbAt + 300000 < d.nowOn .ln)) = true

/-- The links to a package that have trained. -/
def Dev.pkgLinks (d : Dev) (g : Nat) : List Nat := (List.range 2).filter (fun k => (d.bond k).peer == g && (d.bond k).training != 0)

theorem Dev.PkgQuiet.links (h : d.PkgQuiet g) : (d.pkgLinks g).isEmpty = false ∧
    (d.pkgLinks g).any (fun k => !d.expired .ln (d.bond k).hbAt silence) = false := by
  have hl : List.range 2 = [0, 1] := rfl
  constructor
  · obtain ⟨k, hk, hp⟩ := List.any_eq_true.mp h.linked
    exact List.isEmpty_eq_false_iff_exists_mem.mpr ⟨k, List.mem_filter.mpr ⟨hl ▸ hk, hp⟩⟩
  · rw [List.any_eq_false]
    intro k hk
    obtain ⟨hk, hp⟩ := List.mem_filter.mp hk
    have ha := List.all_eq_true.mp h.silent k (hl ▸ hk)
    simp only [Bool.and_eq_true, bne_iff_ne, beq_iff_eq] at hp
    simp only [Bool.or_eq_true, bne_iff_ne, beq_iff_eq, hp.1, hp.2, ne_eq, not_true_eq_false, false_or, decide_eq_true_eq] at ha
    simp only [Dev.expired, silence, us, ha, decide_true, Bool.not_true, Bool.false_eq_true, not_false_eq_true]

/-- What the heartbeat timeout of a silent package leaves. -/
def Dev.pkgFell (d : Dev) (g : Nat) (held : BitVec 24) : Dev := (d.pkgSilenced g).pkgLost g held

theorem exec_packageHeartbeatTimeout {s : State} {pkg : Fin 4} (h : s.dev.PkgQuiet pkg.val) :
    exec (.packageHeartbeatTimeout pkg held) s = s.run (fun _ => s.dev.quiet.pkgFell pkg.val held) := by
  obtain ⟨hl, ha⟩ := h.links
  have hn : ¬(!s.dev.quiet.epUp ∨ pkg.val = s.dev.quiet.pkgIdx ∨ (s.dev.quiet.pkgLinks pkg.val).isEmpty ∨
      s.dev.quiet.own.pkgSilent.contains pkg.val ∨
      (s.dev.quiet.pkgLinks pkg.val).any (fun k => !s.dev.quiet.expired .ln (s.dev.quiet.bond k).hbAt silence)) := by
    have hup : s.dev.quiet.epUp = true := h.up
    have hs : s.dev.quiet.own.pkgSilent.contains pkg.val = false := h.fresh
    have hl' : (s.dev.quiet.pkgLinks pkg.val).isEmpty = false := hl
    have ha' : (s.dev.quiet.pkgLinks pkg.val).any (fun k => !s.dev.quiet.expired .ln (s.dev.quiet.bond k).hbAt silence) = false := ha
    rw [hup, hs, hl', ha']
    have hg : ¬pkg.val = s.dev.quiet.pkgIdx := h.foreign
    simp only [hg, Bool.not_true, Bool.false_eq_true, or_self, not_false_eq_true]
  exact State.run_eq_of_quiet (if_neg hn)

/-- What a silent package leaves: in `won` its volumes that this package takes over. -/
structure Dev.PkgLoses (g : Nat) (won : List Nat) (a b : Dev) : Prop where
  step : Dev.OwnStep [.own, .store] [.OWN_DISPUTES, .DRV_MCMD_ISSUED] a b
  own : b.own = { a.own with pvols := a.pkgTaken won, dispute := a.own.dispute || !(a.pkgVols g).isEmpty
                             mirrors := a.own.mirrors.filter (fun m => !(m.pkg == g && won.contains m.volume)) }
  vols : b.store.vols = a.store.vols

theorem Dev.ownStep_pkgNoted (d : Dev) (g : Nat) : Dev.OwnStep [.own] [.OWN_HB_SILENT] d (d.pkgNoted g) :=
  (Dev.OwnStep.own d { d.own with pkgSilent := d.own.pkgSilent ++ [g] } (by decide) fun _ => rfl).trans (.of_step (.count _ .OWN_HB_SILENT _ _ (by decide)))

theorem Dev.ownStep_pkgSilenced (d : Dev) (g : Nat) : Dev.OwnStep [.own] [.OWN_HB_SILENT] d (d.pkgSilenced g) :=
  (d.ownStep_pkgNoted g).trans (.of_step (.event _ _ _ _ _))

theorem Dev.ownStep_pkgCounted (d : Dev) (won : List Nat) : Dev.OwnStep [.own, .store] [.OWN_DISPUTES, .DRV_MCMD_ISSUED] d (d.pkgCounted won) :=
  (Dev.OwnStep.own d { d.own with pvols := d.pkgTaken won, dispute := true } (by decide) fun _ => rfl).trans
    (.of_step (.count _ .OWN_DISPUTES _ _ (by decide)))

theorem Dev.ownStep_pkgDisputed (d : Dev) (won lost : List Nat) :
    Dev.OwnStep [.own, .store] [.OWN_DISPUTES, .DRV_MCMD_ISSUED] d (d.pkgDisputed won lost) :=
  (d.ownStep_pkgCounted won).trans (.of_step (.event _ _ _ _ _))

theorem Dev.ownStep_pkgApplied (d : Dev) (g : Nat) (won lost : List Nat) :
    Dev.OwnStep [.own, .store] [.OWN_DISPUTES, .DRV_MCMD_ISSUED] d (d.pkgApplied g won lost) :=
  (d.ownStep_pkgDisputed won lost).trans ((Dev.applies_foldl g won _).step.mono (List.Subset.refl _) (by decide))

/-- Without volumes of the package there is nothing to dispute. -/
theorem Dev.pkgLost_of_none (h : d.pkgVols g = []) : d.pkgLost g held = d := if_pos (by rw [h]; rfl)

theorem Dev.pkgLost_of_some (h : d.pkgVols g ≠ []) : d.pkgLost g held =
    (d.pkgApplied g (d.pkgWon g held) ((d.pkgVols g).filter (fun v => !d.winsPkg held v))).eventIf (!(d.pkgWon g held).isEmpty) .ln 0x3FE
      (le 8 (bitmap (d.pkgWon g held))) := if_neg fun he => h (List.isEmpty_iff.mp he)

theorem Dev.pkgLoses_pkgLost (d : Dev) (g : Nat) (held : BitVec 24) : Dev.PkgLoses g (d.pkgWon g held) d (d.pkgLost g held) := by
  by_cases h : d.pkgVols g = []
  · have hw : d.pkgWon g held = [] := by rw [Dev.pkgWon, h, List.filter_nil]
    rw [Dev.pkgLost_of_none h, hw]
    refine ⟨.refl d, ?_, rfl⟩
    simp only [Dev.pkgTaken, List.foldl_nil, h, List.isEmpty_nil, Bool.not_true, Bool.or_false, List.contains_nil, Bool.and_false, Bool.not_false,
      List.filter_true]
  · rw [Dev.pkgLost_of_some h]
    generalize (d.pkgVols g).filter (fun v => !d.winsPkg held v) = lost
    have ha := Dev.applies_foldl g (d.pkgWon g held) (d.pkgDisputed (d.pkgWon g held) lost)
    have he : Dev.Step [.own, .store] [] [.OWN_DISPUTES, .DRV_MCMD_ISSUED] (d.pkgApplied g (d.pkgWon g held) lost) _ :=
      .eventIf _ (!(d.pkgWon g held).isEmpty) .ln 0x3FE (le 8 (bitmap (d.pkgWon g held))) 0
    have hown := he.own.trans ha.own
    have hstore : ∀ (b : Bool) (x : List Byte), ((d.pkgApplied g (d.pkgWon g held) lost).eventIf b .ln 0x3FE x).store =
        (d.pkgApplied g (d.pkgWon g held) lost).store := fun b _ => by cases b <;> rfl
    refine ⟨(d.ownStep_pkgApplied g _ lost).trans (.of_step he), ?_, (congrArg Store.vols (hstore _ _)).trans ha.vols⟩
    have hne : (d.pkgVols g).isEmpty = false := List.isEmpty_eq_false_iff.mpr h
    rw [hown, hne, Bool.not_false, Bool.or_true]
    rfl

/-- The disputes of a package with volumes are counted. -/
theorem Dev.ctr_pkgLost (h : d.pkgVols g ≠ []) : (d.pkgLost g held).ctr .OWN_DISPUTES = (d.ctr .OWN_DISPUTES + 1) % 2 ^ 64 := by
  rw [Dev.pkgLost_of_some h]
  generalize (d.pkgVols g).filter (fun v => !d.winsPkg held v) = lost
  have he : Dev.Step [] [] [] (d.pkgApplied g (d.pkgWon g held) lost) _ :=
    .eventIf _ (!(d.pkgWon g held).isEmpty) .ln 0x3FE (le 8 (bitmap (d.pkgWon g held))) 0
  have ha := (Dev.applies_foldl g (d.pkgWon g held) (d.pkgDisputed (d.pkgWon g held) lost)).step.frame.ctrs .OWN_DISPUTES (by decide) (by decide) 0
  exact (he.ctr (by decide) (by decide) 0).trans (ha.trans (Dev.ctr_count_self _ .OWN_DISPUTES 0 1))

/-- What the dispute raised stands first. -/
theorem Dev.pkgDisputed_raised (h : d.pkgVols g ≠ []) :
    (d.pkgDisputed (d.pkgWon g held) ((d.pkgVols g).filter (fun v => !d.winsPkg held v))).raised <+: (d.pkgLost g held).raised := by
  rw [Dev.pkgLost_of_some h]
  generalize (d.pkgVols g).filter (fun v => !d.winsPkg held v) = lost
  have he : Dev.Step [] [] [] (d.pkgApplied g (d.pkgWon g held) lost) _ :=
    .eventIf _ (!(d.pkgWon g held).isEmpty) .ln 0x3FE (le 8 (bitmap (d.pkgWon g held))) 0
  exact (Dev.applies_foldl g (d.pkgWon g held) (d.pkgDisputed (d.pkgWon g held) lost)).step.raised.trans he.raised

/-- A volume won has this package as its owner at the next epoch. -/
theorem Dev.PkgLoses.pvol {won : List Nat} {a b : Dev} (h : Dev.PkgLoses g won a b) (v : Nat) :
    b.pvol v = if v ∈ won then ⟨a.pkgIdx, ((a.pvol v).epoch + 1) % 2 ^ 30⟩ else a.pvol v := by
  have hp : b.pkgIdx = a.pkgIdx := congrArg Package.pkgIdx (h.step.frame.parts .pkg (by decide))
  have hv : b.own.pvols = a.pkgTaken won := congrArg Ownership.pvols h.own
  rw [Dev.pvol, hv, hp, Dev.pkgTaken, Table.find_foldl_insert]
  by_cases hw : v ∈ won
  · rw [if_pos hw, if_pos hw, Option.getD_some]
  · rw [if_neg hw, if_neg hw, Dev.pvol]

theorem Dev.mem_pkgWon {v : Nat} : v ∈ d.pkgWon g held ↔ (v < 64 ∧ (d.pvol v).pkg = g) ∧ d.winsPkg held v = true := by
  rw [Dev.pkgWon, Dev.pkgVols, List.mem_filter, List.mem_filter, List.mem_range, beq_iff_eq]

end Packages

end Sys2Proof.Machine

/-!
PROOF. A package's heartbeat timeout as a command: the package noted, its volumes disputed and taken, the events told (16 R635-R637).
-/
namespace Sys2Proof.Machine

section Silent

variable {s : State} {pkg : Fin 4} {held : BitVec 24}

theorem Dev.pkgWon_pkgSilenced (d : Dev) (g : Nat) (held : BitVec 24) : (d.pkgSilenced g).pkgWon g held = d.pkgWon g held := rfl

theorem Dev.pkgLoses_pkgFell (d : Dev) (g : Nat) (held : BitVec 24) : Dev.PkgLoses g (d.pkgWon g held) (d.pkgSilenced g) (d.pkgFell g held) :=
  (d.pkgSilenced g).pkgLoses_pkgLost g held

theorem Dev.ownStep_pkgFell (d : Dev) (g : Nat) (held : BitVec 24) :
    Dev.OwnStep [.own, .store] [.OWN_HB_SILENT, .OWN_DISPUTES, .DRV_MCMD_ISSUED] d (d.pkgFell g held) :=
  ((d.ownStep_pkgSilenced g).mono (by decide) (by decide)).trans ((d.pkgLoses_pkgFell g held).step.mono (List.Subset.refl _) (by decide))

theorem Dev.pkgFell_own (d : Dev) (g : Nat) (held : BitVec 24) : (d.pkgFell g held).own =
    { d.own with pkgSilent := d.own.pkgSilent ++ [g], pvols := d.pkgTaken (d.pkgWon g held), dispute := d.own.dispute || !(d.pkgVols g).isEmpty
                 mirrors := d.own.mirrors.filter (fun m => !(m.pkg == g && (d.pkgWon g held).contains m.volume)) } :=
  (d.pkgLoses_pkgFell g held).own

theorem Dev.pvol_pkgFell (d : Dev) (g : Nat) (held : BitVec 24) (v : Nat) : (d.pkgFell g held).pvol v =
    if v ∈ d.pkgWon g held then ⟨d.pkgIdx, ((d.pvol v).epoch + 1) % 2 ^ 30⟩ else d.pvol v :=
  (d.pkgLoses_pkgFell g held).pvol v

/-- The volumes that changed hands are those won. -/
theorem Dev.pkgWon_eq (d : Dev) {g : Nat} (hg : g ≠ d.pkgIdx) (held : BitVec 24) {b : Dev} (hb : ∀ v, b.pvol v = (d.pkgFell g held).pvol v) :
    (List.range 64).filter (fun v => (d.pvol v).pkg == g && (b.pvol v).pkg != g) = d.pkgWon g held := by
  rw [Dev.pkgWon, Dev.pkgVols, List.filter_filter]
  refine List.filter_congr fun v hv => ?_
  rw [hb, d.pvol_pkgFell]
  have hm := Dev.mem_pkgWon (d := d) (g := g) (held := held) (v := v)
  rw [Bool.and_comm (d.winsPkg held v)]
  by_cases hp : (d.pvol v).pkg = g
  · by_cases hw : d.winsPkg held v = true
    · rw [if_pos (hm.mpr ⟨⟨List.mem_range.mp hv, hp⟩, hw⟩), hw]
      exact congrArg _ (bne_iff_ne.mpr (Ne.symm hg))
    · rw [if_neg fun h => hw (hm.mp h).2, Bool.eq_false_iff.mpr hw, hp, bne_self_eq_false]
  · rw [beq_eq_false_iff_ne.mpr hp, Bool.false_and, Bool.false_and]

/-- The package keeps the volumes lost. -/
theorem Dev.pkgKept_eq (d : Dev) {g : Nat} (hg : g ≠ d.pkgIdx) (held : BitVec 24) {b : Dev} (hb : ∀ v, b.pvol v = (d.pkgFell g held).pvol v) :
    (List.range 64).filter (fun v => (b.pvol v).pkg == g) = (d.pkgVols g).filter (fun v => !d.winsPkg held v) := by
  rw [Dev.pkgVols, List.filter_filter]
  refine List.filter_congr fun v hv => ?_
  rw [hb, d.pvol_pkgFell]
  have hm := Dev.mem_pkgWon (d := d) (g := g) (held := held) (v := v)
  by_cases hp : (d.pvol v).pkg = g
  · by_cases hw : d.winsPkg held v = true
    · rw [if_pos (hm.mpr ⟨⟨List.mem_range.mp hv, hp⟩, hw⟩), hw, Bool.not_true, Bool.false_and]
      exact beq_eq_false_iff_ne.mpr (Ne.symm hg)
    · rw [if_neg fun h => hw (hm.mp h).2, Bool.eq_false_iff.mpr hw, Bool.not_false, Bool.true_and]
  · rw [if_neg fun h => hp (hm.mp h).1.2, beq_eq_false_iff_ne.mpr hp, Bool.and_false]

theorem Dev.pkgVols_ne_nil {d : Dev} {g : Nat} : (List.range 64).any (fun v => (d.pvol v).pkg == g) = true ↔ d.pkgVols g ≠ [] := by
  rw [← List.isEmpty_eq_false_iff, List.isEmpty_eq_false_iff_exists_mem, List.any_eq_true]
  simp only [Dev.pkgVols, List.mem_filter]

/-- What the silence raised stands first. -/
theorem Dev.pkgSilenced_raised (d : Dev) (g : Nat) (held : BitVec 24) : (d.pkgSilenced g).raised <+: (d.pkgFell g held).raised :=
  (d.pkgLoses_pkgFell g held).step.raised

theorem State.after_pvol (d : Dev) (v : Nat) : (s.after (fun _ => d)).dev.pvol v = d.pvol v := by
  simp only [Dev.pvol, Dev.pkgIdx, State.after_own, State.after_pkg]

/-- Where volumes were won, their change of hands is the last event. -/
theorem Dev.pkgFell_of_won {d : Dev} {g : Nat} (hw : d.pkgWon g held ≠ []) : d.pkgFell g held =
    ((d.pkgSilenced g).pkgApplied g (d.pkgWon g held) ((d.pkgVols g).filter (fun v => !d.winsPkg held v))).event .ln 0x3FE
      (le 8 (bitmap (d.pkgWon g held))) := by
  have hv : (d.pkgSilenced g).pkgVols g ≠ [] := fun hv => hw (by
    have hv' : d.pkgVols g = [] := hv
    rw [Dev.pkgWon, hv', List.filter_nil])
  have hn : (!(d.pkgWon g held).isEmpty) = true := by rw [List.isEmpty_eq_false_iff.mpr hw]; rfl
  exact (Dev.pkgLost_of_some hv).trans (if_pos hn)

theorem pkgWon_told {g : Nat} (hw : s.dev.quiet.pkgWon g held ≠ []) (hh : s.hears .ln) :
    s.told (s.after (fun _ => s.dev.quiet.pkgFell g held)) .ln 0x3FE (le 8 (bitmap (s.dev.quiet.pkgWon g held))) := by
  rw [Dev.pkgFell_of_won hw]
  generalize (s.dev.quiet.pkgVols g).filter (fun v => !s.dev.quiet.winsPkg held v) = lost
  have hs := ((s.dev.quiet.ownStep_pkgSilenced g).mono (ps' := [.own, .store]) (cs' := [.OWN_HB_SILENT, .OWN_DISPUTES, .DRV_MCMD_ISSUED])
    (by decide) (by decide)).trans (((s.dev.quiet.pkgSilenced g).ownStep_pkgApplied g (s.dev.quiet.pkgWon g held) lost).mono
      (List.Subset.refl _) (by decide))
  have hr := (Dev.applies_foldl g (s.dev.quiet.pkgWon g held) ((s.dev.quiet.pkgSilenced g).pkgDisputed (s.dev.quiet.pkgWon g held) lost)).raised
  exact hs.told (by decide) (by decide) (lt_of_eq_of_lt (congrArg List.length hr) (Nat.succ_lt_succ (Nat.succ_lt_succ (Nat.zero_lt_succ 13))))
    List.prefix_rfl hh

section Outcome

variable (h : s.dev.PkgQuiet pkg.val)
include h

/-- The volumes won, as the command's own state tells them. -/
theorem State.after_pkgWon : (List.range 64).filter (fun v => (s.dev.pvol v).pkg == pkg.val &&
    ((s.after (fun _ => s.dev.quiet.pkgFell pkg.val held)).dev.pvol v).pkg != pkg.val) = s.dev.quiet.pkgWon pkg.val held :=
  s.dev.quiet.pkgWon_eq h.foreign held fun v => State.after_pvol _ v

/-- The volumes lost. -/
theorem State.after_pkgKept : (List.range 64).filter (fun v =>
    ((s.after (fun _ => s.dev.quiet.pkgFell pkg.val held)).dev.pvol v).pkg == pkg.val) =
      (s.dev.quiet.pkgVols pkg.val).filter (fun v => !s.dev.quiet.winsPkg held v) :=
  s.dev.quiet.pkgKept_eq h.foreign held fun v => State.after_pvol _ v

/-- The package is noted, and its volumes that this package wins are taken over. -/
theorem packageHeartbeatTimeout_takes : Answers (.packageHeartbeatTimeout pkg held) s (fun t =>
    t.dev.own.pkgSilent = s.dev.own.pkgSilent ++ [pkg.val] ∧ t.dev.ctr .OWN_HB_SILENT = (s.dev.ctr .OWN_HB_SILENT + 1) % 2 ^ 64 ∧
    (s.hears .ln → s.told t .ln 0x3FB (le 1 pkg.val)) ∧
    (∀ v, v < 64 → t.dev.pvol v = if (s.dev.pvol v).pkg = pkg.val ∧
      (s.dev.cfgSlots v).length < 2 * ((s.dev.cfgSlots v).filter (fun k => s.dev.reaches (s.dev.volPier v) k && held.getLsbD k)).length
      then ⟨s.dev.pkgIdx, ((s.dev.pvol v).epoch + 1) % 2 ^ 30⟩ else s.dev.pvol v) ∧
    Dev.OnlyChanged [.own, .store] [] [.OWN_HB_SILENT, .OWN_DISPUTES, .DRV_MCMD_ISSUED] s.dev t.dev) := by
  have hf := s.dev.quiet.ownStep_pkgFell pkg.val held
  have hl := (s.dev.quiet.pkgLoses_pkgFell pkg.val held).step.frame.ctrs .OWN_HB_SILENT (by decide) (by decide) 0
  refine .of_run (exec_packageHeartbeatTimeout h) ⟨?_, ?_, fun hh => ?_, fun v hv => ?_, hf.after⟩
  · rw [State.after_own]
    exact congrArg Ownership.pkgSilent (s.dev.quiet.pkgFell_own pkg.val held)
  · rw [State.after_ctr s _ .OWN_HB_SILENT (by decide) 0]
    exact hl.trans (Dev.ctr_count_self _ .OWN_HB_SILENT 0 1)
  · exact (s.dev.quiet.ownStep_pkgNoted pkg.val).told (by decide) (by decide) (Nat.zero_lt_succ 15) (s.dev.quiet.pkgSilenced_raised pkg.val held) hh
  · rw [State.after_pvol]
    refine (s.dev.quiet.pvol_pkgFell pkg.val held v).trans (if_congr ?_ rfl rfl)
    rw [Dev.mem_pkgWon, Dev.winsPkg, decide_eq_true_eq, and_iff_right hv]
    exact Iff.rfl

/-- With volumes of the package there is a dispute, without any nothing is. -/
theorem packageHeartbeatTimeout_disputes : Answers (.packageHeartbeatTimeout pkg held) s (fun t =>
    ((List.range 64).any (fun v => (s.dev.pvol v).pkg == pkg.val) = true → t.dev.own.dispute = true ∧
      t.dev.ctr .OWN_DISPUTES = (s.dev.ctr .OWN_DISPUTES + 1) % 2 ^ 64 ∧ (s.hears .ln → s.told t .ln 0x3FC
        (le 8 (bitmap ((List.range 64).filter (fun v => (s.dev.pvol v).pkg == pkg.val && (t.dev.pvol v).pkg != pkg.val))) ++
          le 8 (bitmap ((List.range 64).filter (fun v => (t.dev.pvol v).pkg == pkg.val)))))) ∧
    ((List.range 64).any (fun v => (s.dev.pvol v).pkg == pkg.val) = false → { t.dev.own with pkgSilent := [] } = { s.dev.own with pkgSilent := [] }) ∧
    t.dev.store.vols = s.dev.store.vols ∧ t.dev.own.slots = s.dev.own.slots ∧ t.dev.own.vols = s.dev.own.vols) := by
  have hown : (s.after (fun _ => s.dev.quiet.pkgFell pkg.val held)).dev.own = _ :=
    (State.after_own s _).trans (s.dev.quiet.pkgFell_own pkg.val held)
  have hl := s.dev.quiet.pkgLoses_pkgFell pkg.val held
  have hslots := congrArg Ownership.slots hown
  have hvols := congrArg Ownership.vols hown
  refine .of_run (exec_packageHeartbeatTimeout h) ⟨fun hv => ?_, fun hv => ?_, (congrArg Store.vols (State.after_store s _)).trans hl.vols,
    hslots, hvols⟩
  · have hne : s.dev.quiet.pkgVols pkg.val ≠ [] := Dev.pkgVols_ne_nil.mp hv
    have hsil : (s.dev.quiet.pkgSilenced pkg.val).pkgVols pkg.val ≠ [] := hne
    refine ⟨?_, ?_, fun hh => ?_⟩
    · refine (congrArg Ownership.dispute hown).trans ?_
      rw [List.isEmpty_eq_false_iff.mpr hne, Bool.not_false, Bool.or_true]
    · rw [State.after_ctr s _ .OWN_DISPUTES (by decide) 0]
      have hc := (s.dev.quiet.ownStep_pkgSilenced pkg.val).frame.ctrs .OWN_DISPUTES (by decide) (by decide) 0
      exact (Dev.ctr_pkgLost hsil).trans (by rw [hc]; rfl)
    · rw [State.after_pkgWon h, State.after_pkgKept h]
      exact Dev.OwnStep.told (((s.dev.quiet.ownStep_pkgSilenced pkg.val).mono (by decide) (by decide)).trans
        (((s.dev.quiet.pkgSilenced pkg.val).ownStep_pkgCounted (s.dev.quiet.pkgWon pkg.val held)).mono (List.Subset.refl _) (by decide)))
        (ps := [.own, .store]) (cs := [.OWN_HB_SILENT, .OWN_DISPUTES, .DRV_MCMD_ISSUED])
        (by decide) (by decide) (Nat.succ_lt_succ (Nat.zero_lt_succ 14)) (Dev.pkgDisputed_raised (held := held) hsil) hh
  · have hnil : s.dev.quiet.pkgVols pkg.val = [] := by
      by_contra hne
      exact Bool.false_ne_true (hv.symm.trans (Dev.pkgVols_ne_nil.mpr hne))
    have hq : (s.dev.quiet.pkgSilenced pkg.val).pkgVols pkg.val = [] := hnil
    have he : s.dev.quiet.pkgFell pkg.val held = s.dev.quiet.pkgSilenced pkg.val := Dev.pkgLost_of_none hq
    have ho : (s.after (fun _ => s.dev.quiet.pkgFell pkg.val held)).dev.own = (s.dev.quiet.pkgSilenced pkg.val).own :=
      (State.after_own s _).trans (congrArg Dev.own he)
    exact congrArg (fun o : Ownership => { o with pkgSilent := [] }) ho

/-- The mirrored records of the volumes won are applied and gone, and their change of hands is told. -/
theorem packageHeartbeatTimeout_applies : Answers (.packageHeartbeatTimeout pkg held) s (fun t =>
    (t.dev.own.mirrors = s.dev.own.mirrors.filter (fun m => !(m.pkg == pkg.val && decide (m.volume < 64) &&
      (s.dev.pvol m.volume).pkg == pkg.val && (t.dev.pvol m.volume).pkg != pkg.val))) ∧
    (s.hears .ln → (List.range 64).any (fun v => (s.dev.pvol v).pkg == pkg.val && (t.dev.pvol v).pkg != pkg.val) = true →
      s.told t .ln 0x3FE (le 8 (bitmap ((List.range 64).filter (fun v => (s.dev.pvol v).pkg == pkg.val && (t.dev.pvol v).pkg != pkg.val)))))) := by
  have hown : (s.after (fun _ => s.dev.quiet.pkgFell pkg.val held)).dev.own = _ :=
    (State.after_own s _).trans (s.dev.quiet.pkgFell_own pkg.val held)
  have hw := State.after_pkgWon (held := held) h
  refine .of_run (exec_packageHeartbeatTimeout h) ⟨?_, fun hh ha => ?_⟩
  · refine (congrArg Ownership.mirrors hown).trans (List.filter_congr fun m _ => ?_)
    rw [← hw]
    have hc : ∀ p : Nat → Bool, ((List.range 64).filter p).contains m.volume = (decide (m.volume < 64) && p m.volume) := by
      intro p
      rw [Bool.eq_iff_iff, List.contains_iff_mem, List.mem_filter, List.mem_range, Bool.and_eq_true, decide_eq_true_eq]
    rw [hc, Bool.and_assoc, Bool.and_assoc]
  · have hne : s.dev.quiet.pkgWon pkg.val held ≠ [] := by
      obtain ⟨v, hv, hp⟩ := List.any_eq_true.mp ha
      exact List.ne_nil_of_mem (hw ▸ List.mem_filter.mpr ⟨hv, hp⟩)
    rw [hw]
    exact pkgWon_told hne hh

end Outcome

end Silent

end Sys2Proof.Machine

/-!
PROOF. A command that another package forwards (16 R638): answered, sent on, or accepted.
-/
namespace Sys2Proof.Machine

section Forwarding

variable {s : State} {link : Fin 2} {f : Forwarded}

/-- A command over a bond link is entered in the front end alone. -/
theorem Dev.step_newCmd_bond (d : Dev) (l : Fin 2) (tag k cid : Nat) (g : Cmd → Cmd) : Dev.Step [.nvme] [] [] d (d.newCmd (.bond l tag) k cid g).2 :=
  .nvme d _ (by decide)

/-- A command that an effect enters before it does something outside the front end and the transport. -/
theorem Dev.Enters.entered_before {src : CmdSource} {x : Cmd} {e d : Dev} {P : Cmd → Prop} (h : Dev.Enters src x s.dev.quiet e) (hn : d.nvme = e.nvme)
    (hr : d.rdma = e.rdma) (hp : P x) : s.entered (s.after (fun _ => d)) src P := by
  refine ⟨⟨x, ?_, h.id, h.source, hp⟩, ?_, fun i => ?_⟩
  · rw [State.after_nvme, hn, h.cmds]
    rfl
  · rw [State.after_nvme, hn, h.next]
    rfl
  · rw [Dev.qp, State.after_rdma, hr]
    exact h.qps i

/-- A forwarded command answered is entered with its status. -/
theorem fwdAnswer_answers {i : Instr} {e : Nat × Bool} (hx : exec i s = s.run (fun _ => s.dev.quiet.fwdAnswer (.bond link f.tag) f e)) :
    Answers i s (fun t => s.entered t (.bond link f.tag) (fun x => x.status = some e.1 ∧ x.dnr = e.2 ∧ x.remote = true ∧ x.cid = f.cid.toNat) ∧
      Dev.OnlyChanged [.nvme] [] [] s.dev t.dev) := by
  have henter := s.dev.quiet.enters_newCmd (src := .bond link f.tag) noCtrl f.cid.toNat
    (f := fun x => { x with status := some e.1, dnr := e.2, remote := true, nsid := f.args.nsid }) fun _ => ⟨rfl, rfl⟩
  exact .of_run hx ⟨henter.entered ⟨rfl, rfl, rfl, rfl⟩, (s.dev.quiet.step_newCmd_bond link f.tag noCtrl f.cid.toNat _).after⟩

/-- The command names an active namespace. -/
def Dev.fwdKnown (d : Dev) (f : Forwarded) : Bool :=
  decide (1 ≤ f.args.nsid) && decide (f.args.nsid ≤ 4096) && d.flag .NS_CFG_ACTIVE (f.args.nsid - 1)

/-- The forwarded command reaches this package. -/
def Dev.fwdReached (d : Dev) (link : Fin 2) : Prop := d.frontUp = true ∧ d.bondRuns link.val = true ∧ d.numberFree = true

theorem Dev.fwdReached.runs {d : Dev} (h : d.fwdReached link) : (d.frontUp && d.bondRuns link.val) = true := by
  obtain ⟨hf, hb, -⟩ := h
  rw [hf, hb]
  rfl

theorem exec_forwardedCommand_unknown (h : s.dev.fwdReached link) (hk : s.dev.fwdKnown f = false) :
    exec (.forwardedCommand link f) s = s.run (fun _ => s.dev.quiet.fwdAnswer (.bond link f.tag) f (stNamespace, false)) :=
  have hk' : (!s.dev.quiet.fwdKnown f) = true := congrArg (!·) hk
  State.runIf_eq_of_quiet h.runs (if_pos hk')

/-- A command entered only to go on. -/
def fwdPassed (d : Dev) (f : Forwarded) (x : Cmd) : Cmd := { x with remote := true, nsid := f.args.nsid, vol := d.nsVol (f.args.nsid - 1) }

theorem exec_forwardedCommand_foreign (h : s.dev.fwdReached link) (hk : s.dev.fwdKnown f = true)
    (hv : s.dev.foreignVol (s.dev.nsVol (f.args.nsid - 1)) = true) : exec (.forwardedCommand link f) s = s.run (fun _ =>
      if f.hops < 2 ∧ (s.dev.quiet.linkTo (s.dev.quiet.pvol (s.dev.quiet.nsVol (f.args.nsid - 1))).pkg).any (fun k => k != link.val) then
        (s.dev.quiet.newCmd (.bond link f.tag) noCtrl f.cid.toNat (fwdPassed s.dev.quiet f)).2.forward s.dev.nvme.nextCmd
      else s.dev.quiet.fwdAnswer (.bond link f.tag) f (stNotReady, false)) :=
  have hk' : ¬(!s.dev.quiet.fwdKnown f) = true := fun hn => Bool.false_ne_true ((congrArg (!·) hk).symm.trans hn)
  have hv' : s.dev.quiet.foreignVol (s.dev.quiet.nsVol (f.args.nsid - 1)) = true := hv
  State.runIf_eq_of_quiet h.runs ((if_neg hk').trans (if_pos hv'))

/-- The link towards a package carries frames. -/
theorem Dev.bondRuns_of_linkTo {d : Dev} {pkg k : Nat} (h : d.linkTo pkg = some k) : d.bondRuns k = true := by
  have hup : k ∈ d.bondsUp := by
    unfold Dev.linkTo at h
    split at h
    · next j hj =>
      obtain rfl : j = k := Option.some.inj h
      exact List.mem_of_find?_eq_some hj
    · exact List.mem_of_head? h
  exact (List.mem_filter.mp hup).2

/-- A command entered goes on over the link towards its owner. -/
theorem Dev.forward_eq {d : Dev} {c : Cmd} {id k : Nat} (hc : d.cmd id = some c) (hk : d.linkTo (d.pvol c.vol).pkg = some k) (hd : c.data = []) :
    d.forward id = ((d.bondFrame k bondForwardType 0 64).count .OWN_FWD_COMMANDS).emit (.bondForward k id) := by
  have hs : d.bondSend k bondForwardType 0 64 = d.bondFrame k bondForwardType 0 64 := Dev.bondSend_eq (Dev.bondRuns_of_linkTo hk) _ _ _ (by decide)
  unfold Dev.forward
  simp only [hc, hk, hd, List.length_nil, Nat.add_zero, hs]

theorem forwardedCommand_goesOn {k : Nat} (h : s.dev.fwdReached link) (hk : s.dev.fwdKnown f = true)
    (hv : s.dev.foreignVol (s.dev.nsVol (f.args.nsid - 1)) = true)
    (hl : s.dev.linkTo (s.dev.pvol (s.dev.nsVol (f.args.nsid - 1))).pkg = some k) (hh : f.hops < 2) (hne : k ≠ link.val) :
    Answers (.forwardedCommand link f) s (fun t => Out.bondForward k s.dev.nvme.nextCmd ∈ t.dev.out ∧
      t.dev.ctr .OWN_FWD_COMMANDS = (s.dev.ctr .OWN_FWD_COMMANDS + 1) % 2 ^ 64 ∧
      s.entered t (.bond link f.tag) (fun x => x.status = none ∧ x.remote = true ∧ x.io = false) ∧
      Dev.OnlyChanged [.nvme, .own] [] [.OWN_FWD_COMMANDS] s.dev t.dev) := by
  have hl' : s.dev.quiet.linkTo (s.dev.quiet.pvol (s.dev.quiet.nsVol (f.args.nsid - 1))).pkg = some k := hl
  have hx := exec_forwardedCommand_foreign h hk hv
  have hany : (some k).any (fun j => j != link.val) = true := bne_iff_ne.mpr hne
  rw [hl', if_pos ⟨hh, hany⟩] at hx
  have henter := s.dev.quiet.enters_newCmd (src := .bond link f.tag) noCtrl f.cid.toNat (f := fwdPassed s.dev.quiet f) fun _ => ⟨rfl, rfl⟩
  have hstep := s.dev.quiet.step_newCmd_bond link f.tag noCtrl f.cid.toNat (fwdPassed s.dev.quiet f)
  have hlink : (s.dev.quiet.newCmd (.bond link f.tag) noCtrl f.cid.toNat (fwdPassed s.dev.quiet f)).2.linkTo
      ((s.dev.quiet.newCmd (.bond link f.tag) noCtrl f.cid.toNat (fwdPassed s.dev.quiet f)).2.pvol (s.dev.quiet.nsVol (f.args.nsid - 1))).pkg = some k := hl
  generalize (s.dev.quiet.newCmd (.bond link f.tag) noCtrl f.cid.toNat (fwdPassed s.dev.quiet f)).2 = e at hx henter hstep hlink
  have hcmd : e.cmd s.dev.nvme.nextCmd = some _ := henter.cmd_self h.2.2
  rw [Dev.forward_eq hcmd hlink rfl] at hx
  have hframe := (e.bondStep_bondFrame k bondForwardType 0 64 (ps := [.nvme, .own]) (cs := [.OWN_FWD_COMMANDS]) (by decide)).then_step
    ((Dev.Step.count _ .OWN_FWD_COMMANDS 0 1 (by decide)).trans (.emit _ (.bondForward k s.dev.nvme.nextCmd)))
  have hd := (Dev.OwnStep.of_step (hstep.mono (by decide) (List.Subset.refl _) (List.nil_subset [Ctr.OWN_FWD_COMMANDS]))).trans hframe.toOwnStep
  have hnvme : (((e.bondFrame k bondForwardType 0 64).count .OWN_FWD_COMMANDS).emit (.bondForward k s.dev.nvme.nextCmd)).nvme = e.nvme := rfl
  have hrdma : (((e.bondFrame k bondForwardType 0 64).count .OWN_FWD_COMMANDS).emit (.bondForward k s.dev.nvme.nextCmd)).rdma = e.rdma := rfl
  have hout : Out.bondForward k s.dev.nvme.nextCmd ∈
      (((e.bondFrame k bondForwardType 0 64).count .OWN_FWD_COMMANDS).emit (.bondForward k s.dev.nvme.nextCmd)).out :=
    List.mem_append_right _ (List.mem_singleton.mpr rfl)
  refine .of_run hx ⟨State.after_mem_out s _ hout, ?_, henter.entered_before hnvme hrdma ⟨rfl, rfl, rfl⟩, hd.after⟩
  rw [State.after_ctr s _ .OWN_FWD_COMMANDS (by decide) 0]
  have hc : (e.bondFrame k bondForwardType 0 64).ctr .OWN_FWD_COMMANDS = s.dev.ctr .OWN_FWD_COMMANDS :=
    ((e.bondStep_bondFrame k bondForwardType 0 64 (ps := [.own]) (cs := []) (by decide)).frame.ctrs _ (by decide) (by decide) 0).trans
      (hstep.ctr (by decide) (by decide) 0)
  rw [← hc]
  exact Dev.ctr_count_self _ .OWN_FWD_COMMANDS 0 1

/-- Beyond two hops, or with no link but the one it came on, a foreign volume's command is answered. -/
theorem forwardedCommand_notReady (h : s.dev.fwdReached link) (hk : s.dev.fwdKnown f = true)
    (hv : s.dev.foreignVol (s.dev.nsVol (f.args.nsid - 1)) = true)
    (hl : (s.dev.linkTo (s.dev.pvol (s.dev.nsVol (f.args.nsid - 1))).pkg).all (fun k => decide (2 ≤ f.hops) || k == link.val) = true) :
    exec (.forwardedCommand link f) s = s.run (fun _ => s.dev.quiet.fwdAnswer (.bond link f.tag) f (stNotReady, false)) := by
  have hl' : (s.dev.quiet.linkTo (s.dev.quiet.pvol (s.dev.quiet.nsVol (f.args.nsid - 1))).pkg).all (fun k => decide (2 ≤ f.hops) || k == link.val) = true := hl
  rw [exec_forwardedCommand_foreign h hk hv, if_neg]
  rintro ⟨hh, ha⟩
  cases hk : s.dev.quiet.linkTo (s.dev.quiet.pvol (s.dev.quiet.nsVol (f.args.nsid - 1))).pkg with
  | none =>
    rw [hk] at ha
    cases ha
  | some k =>
    rw [hk] at ha hl'
    simp only [Option.any_some, Option.all_some, bne_iff_ne, Bool.or_eq_true, decide_eq_true_eq, beq_iff_eq] at ha hl'
    omega

end Forwarding

end Sys2Proof.Machine

/-!
PROOF. A forwarded command accepted where its volume is owned, or refused there (16 R638).
-/
namespace Sys2Proof.Machine

section Owned

variable {s : State} {link : Fin 2} {f : Forwarded} {op : CmdOp} {opcode need : Nat} {data : Block}

/-- The one range of a read or a write. -/
def spanOf (a : IoArgs) : List (Nat × Nat) := [(a.slba, a.nlb + 1)]

/-- What a forwarded command is checked for where its volume is owned. -/
def Dev.fwdCheck (d : Dev) (f : Forwarded) (ranges : List (Nat × Nat)) (writes : Bool) : Option (Nat × Bool) :=
  firstOf [if ranges.any (fun r => decide (d.nsBlocks (f.args.nsid - 1) < r.1 + r.2)) then some (stRange, false) else none,
    d.volumeStatus (f.args.nsid - 1), if (d.resvOf f.args.nsid).allows f.hostId writes then none else some (stConflict, false)]

/-- It names blocks of an active namespace of this package that can be served. -/
structure Dev.FwdServed (d : Dev) (link : Fin 2) (f : Forwarded) : Prop where
  reached : d.fwdReached link
  known : d.fwdKnown f = true
  owned : d.foreignVol (d.nsVol (f.args.nsid - 1)) = false
  inside : f.args.slba + f.args.nlb + 1 ≤ d.nsBlocks (f.args.nsid - 1)
  ready : d.volumeStatus (f.args.nsid - 1) = none

theorem Dev.FwdServed.check {d : Dev} (h : d.FwdServed link f) (writes : Bool) : d.fwdCheck f (spanOf f.args) writes =
    if (d.resvOf f.args.nsid).allows f.hostId writes then none else some (stConflict, false) := by
  have hr : (spanOf f.args).any (fun r => decide (d.nsBlocks (f.args.nsid - 1) < r.1 + r.2)) = false := by
    have hi := h.inside
    simp only [spanOf, List.any_cons, List.any_nil, Bool.or_false, decide_eq_false_iff_not]
    omega
  rw [Dev.fwdCheck, hr, h.ready, if_neg Bool.false_ne_true]
  split <;> rfl

/-- At its owner a command gets past the namespace and the volume's package. -/
theorem Dev.FwdServed.passes (h : s.dev.FwdServed link f) :
    ¬(!(decide (1 ≤ f.args.nsid) && decide (f.args.nsid ≤ 4096) && s.dev.quiet.flag .NS_CFG_ACTIVE (f.args.nsid - 1))) = true ∧
      ¬s.dev.quiet.foreignVol (s.dev.quiet.nsVol (f.args.nsid - 1)) = true :=
  ⟨fun hn => Bool.false_ne_true ((congrArg (!·) h.known).symm.trans hn), fun hn => Bool.false_ne_true (h.owned.symm.trans hn)⟩

theorem exec_forwardedCommand_read (h : s.dev.FwdServed link f) (hop : f.op = .read)
    (hc : s.dev.quiet.fwdCheck f (spanOf f.args) false = none) :
    exec (.forwardedCommand link f) s = s.run (fun _ => s.dev.quiet.fwdAccept (.bond link f.tag) f .read 0x02 0 (spanOf f.args) [] id) := by
  obtain ⟨hk, hv⟩ := h.passes
  refine State.runIf_eq_of_quiet h.reached.runs ?_
  simp only [Dev.fwdCheck, spanOf] at hc ⊢
  rw [if_neg hk, if_neg hv]
  simp only [hop]
  split
  · next e he => cases hc.symm.trans he
  · rfl

theorem exec_forwardedCommand_read_refused {e : Nat × Bool} (h : s.dev.FwdServed link f) (hop : f.op = .read)
    (hc : s.dev.quiet.fwdCheck f (spanOf f.args) false = some e) :
    exec (.forwardedCommand link f) s = s.run (fun _ => s.dev.quiet.fwdAnswer (.bond link f.tag) f e) := by
  obtain ⟨hk, hv⟩ := h.passes
  refine State.runIf_eq_of_quiet h.reached.runs ?_
  simp only [Dev.fwdCheck, spanOf] at hc ⊢
  rw [if_neg hk, if_neg hv]
  simp only [hop]
  split
  · next x he => rw [Option.some.inj (hc.symm.trans he)]
  · next he => cases hc.symm.trans he

theorem exec_forwardedCommand_write (h : s.dev.FwdServed link f) (hop : f.op = .write data)
    (hc : s.dev.quiet.fwdCheck f (spanOf f.args) true = none) : exec (.forwardedCommand link f) s = s.run (fun _ =>
      s.dev.quiet.fwdAccept (.bond link f.tag) f .write 0x01 ((f.args.nlb + 1) * s.dev.quiet.blockBytes (f.args.nsid - 1) f.args.pract)
        (spanOf f.args) data id) := by
  obtain ⟨hk, hv⟩ := h.passes
  refine State.runIf_eq_of_quiet h.reached.runs ?_
  simp only [Dev.fwdCheck, spanOf] at hc ⊢
  rw [if_neg hk, if_neg hv]
  simp only [hop]
  split
  · next e he => cases hc.symm.trans he
  · rfl

/-- A forwarded command as it is accepted. -/
def fwdCapsule (d : Dev) (f : Forwarded) (op : CmdOp) (opcode need : Nat) (data : Block) (x : Cmd) : Cmd :=
  { ioFields d { hostId := f.hostId, tenant := d.nsTenant (f.args.nsid - 1) } f.args op opcode (spanOf f.args) x with
    need := need, asked := need, data := slice data 0 need, checked := need == 0 && op.writes, remote := true }

theorem keepsSource_fwdCapsule (d : Dev) (f : Forwarded) (op : CmdOp) (opcode need : Nat) (data : Block) :
    KeepsSource (fwdCapsule d f op opcode need data) := fun _ => ⟨rfl, rfl⟩

/-- Accepted, and its data with it. -/
theorem Dev.taken_fwdAccept (d : Dev) (hn : d.numberFree = true) :
    Dev.Taken (.bond link f.tag) (fwdCapsule d f op opcode need data (d.blankCmd (.bond link f.tag) noCtrl f.cid.toNat)) d
      (d.fwdAccept (.bond link f.tag) f op opcode need (spanOf f.args) data id) := by
  have hacc := d.accepts_acceptIo (src := .bond link f.tag) (k := noCtrl) f.cid.toNat (keepsSource_fwdCapsule d f op opcode need data) hn rfl rfl rfl
  have hfst : (d.acceptIo (.bond link f.tag) noCtrl f.cid.toNat (fwdCapsule d f op opcode need data)).1 = d.nvme.nextCmd := Dev.acceptIo_fst ..
  have hd : d.fwdAccept (.bond link f.tag) f op opcode need (spanOf f.args) data id =
      if need = 0 then (d.acceptIo (.bond link f.tag) noCtrl f.cid.toNat (fwdCapsule d f op opcode need data)).2
      else (d.acceptIo (.bond link f.tag) noCtrl f.cid.toNat (fwdCapsule d f op opcode need data)).2.dataCame
        (d.acceptIo (.bond link f.tag) noCtrl f.cid.toNat (fwdCapsule d f op opcode need data)).1 := rfl
  rw [hd, hfst]
  generalize (d.acceptIo (.bond link f.tag) noCtrl f.cid.toNat (fwdCapsule d f op opcode need data)).2 = e at hacc
  split
  · exact hacc.taken
  · obtain ⟨y, hy, hface⟩ := hacc.self
    have hlost : y.lost = false := Cmd.field_of_face Cmd.lost (fun _ => rfl) hface
    have hsrc : y.src = .bond link f.tag := Cmd.field_of_face Cmd.src (fun _ => rfl) hface
    have hop : y.op = op := Cmd.field_of_face Cmd.op (fun _ => rfl) hface
    have hcame := Dev.Tends.dataCame (cs := if op = .write then [.FE_PI_ERR] else []) _ hy hlost (by rw [hsrc]; exact Bool.and_false _)
      fun h => by rw [if_pos (hop.symm.trans h)]; decide
    refine hacc.taken.tend hcame rfl ?_ (fun hne => ?_) ?_
    · split <;> simp [workCtrs]
    · have hne' : op ≠ .write := hne
      rw [if_neg hne']
      exact List.nil_subset _
    · split <;> decide

/-- What a forwarded command accepted shows. -/
theorem fwdAccept_answers {i : Instr} (hn : s.dev.numberFree = true)
    (hx : exec i s = s.run (fun _ => s.dev.quiet.fwdAccept (.bond link f.tag) f op opcode need (spanOf f.args) data id)) (ht : (op.reads || op.writes) = true) :
    Answers i s (fun t => (∃ x, t.dev.cmd s.dev.nvme.nextCmd = some x ∧ x.op = op ∧ x.src = .bond link f.tag ∧ x.cid = f.cid.toNat ∧ x.nsid = f.args.nsid ∧
        x.remote = true ∧ x.ranges = [(f.args.slba, f.args.nlb + 1)] ∧ x.seq = s.dev.nvme.seqs.get 0 f.args.nsid + 1 ∧ x.io = true ∧
        (op ≠ .write → x.status = none) ∧ x.dispatched = x.waits.isEmpty) ∧
      t.dev.nvme.seqs.get 0 f.args.nsid = s.dev.nvme.seqs.get 0 f.args.nsid + 1 ∧ t.dev.ctr .FE_CMD_ACCEPTED = (s.dev.ctr .FE_CMD_ACCEPTED + 1) % 2 ^ 64 ∧
      Dev.OnlyChanged workParts [] (workCtrs ++ [.FE_PI_ERR]) s.dev t.dev ∧ (op ≠ .write → Dev.OnlyChanged workParts [] workCtrs s.dev t.dev)) := by
  refine ((Dev.taken_fwdAccept s.dev.quiet hn).answers hx).imp fun t ⟨⟨y, hy, hm, hst⟩, hseqs, _, hctr, _, hframe, hreads⟩ => ?_
  have hdis : y.dispatched = ((op.reads || op.writes) && y.waits.isEmpty) := by
    rw [Cmd.field_of_mien Cmd.waits (fun _ => rfl) hm]
    exact Cmd.field_of_mien Cmd.dispatched (fun _ => rfl) hm
  rw [ht, Bool.true_and] at hdis
  exact ⟨⟨y, hy, Cmd.field_of_mien Cmd.op (fun _ => rfl) hm, Cmd.field_of_mien Cmd.src (fun _ => rfl) hm, Cmd.field_of_mien Cmd.cid (fun _ => rfl) hm,
    Cmd.field_of_mien Cmd.nsid (fun _ => rfl) hm, Cmd.field_of_mien Cmd.remote (fun _ => rfl) hm, Cmd.field_of_mien Cmd.ranges (fun _ => rfl) hm,
    Cmd.field_of_mien Cmd.seq (fun _ => rfl) hm, Cmd.field_of_mien Cmd.io (fun _ => rfl) hm, fun hne => hst (.inl hne), hdis⟩,
    hseqs, hctr, hframe, hreads⟩

theorem forwardedCommand_reads (h : s.dev.FwdServed link f) (hop : f.op = .read) (ha : (s.dev.resvOf f.args.nsid).allows f.hostId false = true) :
    Answers (.forwardedCommand link f) s (fun t => (∃ x, t.dev.cmd s.dev.nvme.nextCmd = some x ∧ x.op = .read ∧ x.src = .bond link f.tag ∧
        x.cid = f.cid.toNat ∧ x.nsid = f.args.nsid ∧ x.remote = true ∧ x.ranges = [(f.args.slba, f.args.nlb + 1)] ∧
        x.seq = s.dev.nvme.seqs.get 0 f.args.nsid + 1 ∧ x.io = true ∧ x.status = none ∧ x.dispatched = x.waits.isEmpty) ∧
      t.dev.nvme.seqs.get 0 f.args.nsid = s.dev.nvme.seqs.get 0 f.args.nsid + 1 ∧ t.dev.ctr .FE_CMD_ACCEPTED = (s.dev.ctr .FE_CMD_ACCEPTED + 1) % 2 ^ 64 ∧
      Dev.OnlyChanged workParts [] workCtrs s.dev t.dev) := by
  have hc : s.dev.quiet.fwdCheck f (spanOf f.args) false = none := (h.check false).trans (if_pos ha)
  refine (fwdAccept_answers h.reached.2.2 (exec_forwardedCommand_read h hop hc) rfl).imp fun t ⟨⟨x, hx, hop, hsrc, hcid, hnsid, hrem, hran, hseq, hio, hst, hdis⟩, hseqs, hctr, _, hf⟩ => ?_
  exact ⟨⟨x, hx, hop, hsrc, hcid, hnsid, hrem, hran, hseq, hio, hst (by decide), hdis⟩, hseqs, hctr, hf (by decide)⟩

theorem forwardedCommand_writes (h : s.dev.FwdServed link f) (hop : f.op = .write data) (ha : (s.dev.resvOf f.args.nsid).allows f.hostId true = true) :
    Answers (.forwardedCommand link f) s (fun t => (∃ x, t.dev.cmd s.dev.nvme.nextCmd = some x ∧ x.op = .write ∧ x.src = .bond link f.tag ∧
        x.nsid = f.args.nsid ∧ x.remote = true ∧ x.io = true ∧ x.ranges = [(f.args.slba, f.args.nlb + 1)] ∧
        x.seq = s.dev.nvme.seqs.get 0 f.args.nsid + 1) ∧ t.dev.ctr .FE_CMD_ACCEPTED = (s.dev.ctr .FE_CMD_ACCEPTED + 1) % 2 ^ 64 ∧
      Dev.OnlyChanged workParts [] (workCtrs ++ [.FE_PI_ERR]) s.dev t.dev) := by
  have hc : s.dev.quiet.fwdCheck f (spanOf f.args) true = none := (h.check true).trans (if_pos ha)
  refine (fwdAccept_answers h.reached.2.2 (exec_forwardedCommand_write h hop hc) rfl).imp fun t ⟨⟨x, hx, hop, hsrc, _, hnsid, hrem, hran, hseq, hio, _⟩, _, hctr, hf, _⟩ => ?_
  exact ⟨⟨x, hx, hop, hsrc, hnsid, hrem, hio, hran, hseq⟩, hctr, hf⟩

theorem forwardedCommand_conflicts (h : s.dev.FwdServed link f) (hop : f.op = .read) (ha : (s.dev.resvOf f.args.nsid).allows f.hostId false = false) :
    Answers (.forwardedCommand link f) s (fun t => s.entered t (.bond link f.tag) (fun x => x.status = some 0x083 ∧ x.dnr = false) ∧
      Dev.OnlyChanged [.nvme] [] [] s.dev t.dev) := by
  have hc : s.dev.quiet.fwdCheck f (spanOf f.args) false = some (stConflict, false) :=
    (h.check false).trans (if_neg fun hn => Bool.false_ne_true (ha.symm.trans hn))
  exact (fwdAnswer_answers (exec_forwardedCommand_read_refused h hop hc)).imp fun t ⟨he, hf⟩ => ⟨he.imp fun x ⟨hst, hdnr, _⟩ => ⟨hst, hdnr⟩, hf⟩

end Owned

end Sys2Proof.Machine

/-!
PROOF. O53, the width of a bond link, silent packages, the mirror and forwarded commands (16 R633-R638).
-/
namespace Sys2Proof.Machine

section Bonded

variable {s : State} {link : Fin 2} {f : Forwarded}

/-- A forwarded command that reaches this package for a namespace it has. -/
theorem Dev.fwdKnown_of {d : Dev} (h1 : 1 ≤ f.args.nsid) (h2 : f.args.nsid ≤ 4096) (ha : d.flag .NS_CFG_ACTIVE (f.args.nsid - 1) = true) :
    d.fwdKnown f = true := by
  rw [Dev.fwdKnown, decide_eq_true h1, decide_eq_true h2, ha]
  rfl

theorem Dev.fwdKnown_eq_false {d : Dev} (h : (decide (1 ≤ f.args.nsid ∧ f.args.nsid ≤ 4096) && d.flag .NS_CFG_ACTIVE (f.args.nsid - 1)) = false) :
    d.fwdKnown f = false := by
  rw [Dev.fwdKnown, ← Bool.decide_and]
  exact h

/-- A command for a volume of another package is answered or goes on, by its hops and the link. -/
theorem forwardedCommand_foreign (h : s.dev.fwdReached link) (hk : s.dev.fwdKnown f = true)
    (hv : s.dev.foreignVol (s.dev.nsVol (f.args.nsid - 1)) = true) : Answers (.forwardedCommand link f) s (fun t =>
    ((s.dev.linkTo (s.dev.pvol (s.dev.nsVol (f.args.nsid - 1))).pkg).all (fun k => decide (2 ≤ f.hops) || k == link.val) = true →
      s.entered t (.bond link f.tag) (fun x => x.status = some 0x082 ∧ x.dnr = false) ∧ Dev.OnlyChanged [.nvme] [] [] s.dev t.dev) ∧
    (∀ k, s.dev.linkTo (s.dev.pvol (s.dev.nsVol (f.args.nsid - 1))).pkg = some k → f.hops < 2 → k ≠ link.val →
      Out.bondForward k s.dev.nvme.nextCmd ∈ t.dev.out ∧ t.dev.ctr .OWN_FWD_COMMANDS = (s.dev.ctr .OWN_FWD_COMMANDS + 1) % 2 ^ 64 ∧
      s.entered t (.bond link f.tag) (fun x => x.status = none ∧ x.remote = true ∧ x.io = false) ∧
      Dev.OnlyChanged [.nvme, .own] [] [.OWN_FWD_COMMANDS] s.dev t.dev)) := by
  by_cases hl : (s.dev.linkTo (s.dev.pvol (s.dev.nsVol (f.args.nsid - 1))).pkg).all (fun k => decide (2 ≤ f.hops) || k == link.val) = true
  · refine (fwdAnswer_answers (forwardedCommand_notReady h hk hv hl)).imp fun t ⟨he, hf⟩ =>
      ⟨fun _ => ⟨he.imp fun x ⟨hst, hdnr, _⟩ => ⟨hst, hdnr⟩, hf⟩, fun k hk hh hne => absurd hl ?_⟩
    simp only [hk, Option.all_some, Nat.not_le.mpr hh, decide_false, Bool.false_or, beq_iff_eq, hne, not_false_eq_true]
  · obtain ⟨k, hlink, hh, hne⟩ : ∃ k, s.dev.linkTo (s.dev.pvol (s.dev.nsVol (f.args.nsid - 1))).pkg = some k ∧ f.hops < 2 ∧ k ≠ link.val := by
      cases hlink : s.dev.linkTo (s.dev.pvol (s.dev.nsVol (f.args.nsid - 1))).pkg with
      | none => exact absurd (hlink ▸ rfl) hl
      | some k =>
        rw [hlink, Option.all_some, Bool.or_eq_true, decide_eq_true_eq, beq_iff_eq, not_or, Nat.not_le] at hl
        exact ⟨k, rfl, hl⟩
    refine (forwardedCommand_goesOn h hk hv hlink hh hne).imp fun t ht => ⟨fun ha => absurd ha hl, fun j hj _ _ => ?_⟩
    obtain rfl : k = j := Option.some.inj (hlink.symm.trans hj)
    exact ht

end Bonded

/-- Settles O53: an own frame for commands that change ownership without bringing a link up or down, and one lemma for each outcome. -/
theorem bondWidthAndPackages : Obligations.BondWidthAndPackages := by
  refine ⟨?shed, ?asked, ?acked, ?silent, fun s => mirrorSuspend_answers, ?passed, ?owned⟩
  case shed =>
    rintro s link tx rx burst k n x ⟨rfl, rfl, hb, hq⟩ ⟨hs, -⟩ rfl
    refine ⟨fun hy hw => (shedWindowEnd_widens hb hq hs (Dev.bondBusy_iff.mpr hy) hw), fun hy hw => shedWindowEnd_full hb hq hs (Dev.bondBusy_iff.mpr hy) hw,
      fun hc hr ht htx hrx hl hm => ?_, fun hc hr ht hn => ?_⟩
    · refine shedWindowEnd_narrows hb hq hs (Dev.bondBusy_eq_false hc hr) ht ?_ hm
      rw [Bond.lowNow_of_low htx hrx]
      exact Nat.succ_le_succ hl
    · rw [← Bond.min_lowNow]
      exact shedWindowEnd_counts hb hq hs (Dev.bondBusy_eq_false hc hr) ht (Bond.not_narrows hn)
  case asked =>
    rintro s link k width x ⟨rfl, rfl, hb⟩ hw hn
    exact ⟨fun h => widthRequestReceive_takes hb ⟨hw, hn⟩ (Dev.yieldsTo_of_prevails h),
      fun h => widthRequestReceive_refuses hb ⟨hw, hn⟩ (Dev.yieldsTo_of_gives_way h)⟩
  case acked =>
    rintro s link lseq k w x ⟨rfl, rfl, hb⟩
    exact ⟨widthAckReceive_takes hb, widthAckReceive_ignored hb⟩
  case silent =>
    rintro s pkg held g ⟨hup, rfl, hg, hs⟩ hany hall
    have h : s.dev.PkgQuiet pkg.val := ⟨hup, hg, hs, hany, hall⟩
    exact ⟨packageHeartbeatTimeout_takes h, packageHeartbeatTimeout_disputes h, packageHeartbeatTimeout_applies h⟩
  case passed =>
    intro s link f h
    refine ⟨fun hk => fwdAnswer_answers (exec_forwardedCommand_unknown h (Dev.fwdKnown_eq_false hk)), fun h1 h2 ha hv => forwardedCommand_foreign h (Dev.fwdKnown_of h1 h2 ha) hv⟩
  case owned =>
    rintro s link f data h ⟨h1, h2, ha, hv⟩ ⟨hi, hr⟩
    have hs : s.dev.FwdServed link f := ⟨h, Dev.fwdKnown_of h1 h2 ha, hv, hi, hr⟩
    exact ⟨forwardedCommand_reads hs, forwardedCommand_writes hs, forwardedCommand_conflicts hs⟩

end Sys2Proof.Machine
